-- ==== Sys2Proof/Word.lean ====
section
/-!
DEFINITION. The word types of the LR128 model: register words, line data, keys, and the named index types that its
commands carry.
-/

namespace Sys2Proof

/-- A 32-bit register word (R5). -/
abbrev Word := BitVec 32
/-- A byte. -/
abbrev Byte := BitVec 8
/-- The 64 data bytes of a line (R27); byte `i` is bits `8 i + 7` to `8 i`. -/
abbrev LineData := BitVec 512
/-- A location, DPA[36:0] (R30). -/
abbrev Loc := BitVec 37
/-- A page of the register window (R15). -/
abbrev Page := Fin 128
/-- A pseudo-channel number (R27). -/
abbrev PcNo := Fin 64
/-- A host port, 0 to 3 for A to D (R315). -/
abbrev PortNo := Fin 4
/-- A logical device of a port (R318). -/
abbrev LdNo := Fin 4
/-- A bank of a PC, bank group × 4 + bank (R27). -/
abbrev BankNo := Fin 32
/-- A DRAM layer (R27). -/
abbrev LayerNo := Fin 16
/-- A lane group: ports A to D, then DOVE (R360). -/
abbrev GroupNo := Fin 5
/-- A physical lane of a group (R360). -/
abbrev LaneNo := Fin 8
/-- A quire index, DPA[36:20] (R31). -/
abbrev QuireNo := Fin 131072
/-- A key slot number (R191). -/
abbrev SlotNo := Fin 264
/-- A Chisel ring (R247). -/
abbrev RingNo := Fin 16
/-- A mirrored range of the pair (R276). -/
abbrev RangeNo := Fin 16
/-- A slot of the KERF page, in the order of R39. -/
abbrev KerfNo := Fin 5
/-- A temperature sensor (R484). -/
abbrev SensorNo := Fin 84
/-- A power domain (R422). -/
abbrev DomainNo := Fin 75
/-- A clock domain of CLK_DOM_SEL (R436). -/
abbrev ClkNo := Fin 18
/-- A crossing index (R390). -/
abbrev XingNo := Fin 83

end Sys2Proof
end

