-- ==== Sys2Proof/Syntax.lean ====
section
/-!
DEFINITION. The commands the LR128 takes from outside: one constructor for each row of the operation table, with the
operands that the rules of its row need. The table gives its rows no operand fields; assumption 1 says how they were
chosen. Where a rule leaves an outcome to the outside (an arbiter, a verify, an error pattern on a burst), that outcome
is an operand (assumption 2).
-/

namespace Sys2Proof

/-- Who makes a register access: the function of a logical device, or the sideband, taken as an admin function (R321,
R569). -/
inductive Accessor where
  | fn (port : PortNo) (ld : LdNo)
  | sideband
  deriving DecidableEq, Repr

/-- The session a key command or life-cycle command arrives in (R214). -/
inductive Session where
  | fm
  | ld (port : PortNo) (ld : LdNo)
  deriving DecidableEq, Repr

/-- A host request to one line as its flit carries it (R325, R327, R332). -/
structure HostReq where
  /-- The host's name of the request, returned in its completion. -/
  tag : Nat
  /-- Host physical address. -/
  hpa : BitVec 64
  /-- Key identifier of the TSP key attribute; `none` where the request carries no CKID. -/
  ckid : Option (BitVec 8)
  deriving DecidableEq, Repr

/-- One symbol error that a burst picks up: the lane and the error added to its symbol (R90). -/
structure SymErr where
  lane : Fin 72
  xor : Byte
  deriving DecidableEq, Repr

/-- What is wrong with one access to a line (R92, R95, R196, R210): the errors that its burst and that of a fetch of its tag
line pick up, whether the copies of the decoder and of the cipher agree as it reads, whether the SRAM of a cached tag line
holds, and how many times in a row the copies of the encoder and of the cipher disagree as it writes. -/
structure LineFaults where
  errs : List SymErr
  tagErrs : List SymErr
  decAgree : Bool
  cryptoAgree : Bool
  sramOk : Bool
  encFails : Fin 3
  cryptoFails : Fin 3
  deriving DecidableEq, Repr

/-- An access with nothing wrong. -/
def LineFaults.none : LineFaults :=
  { errs := [], tagErrs := [], decAgree := true, cryptoAgree := true, sramOk := true, encFails := 0, cryptoFails := 0 }

/-- What is wrong with a fetch of a tag line, or with its copy in the cache (R210). -/
structure TagFaults where
  errs : List SymErr
  sramOk : Bool
  deriving DecidableEq, Repr

/-- Whether the copies of the decoder and of the cipher agree on a read. -/
structure ReadAgree where
  dec : Bool
  crypto : Bool
  deriving DecidableEq, Repr

/-- What a row repair finds as it reads the row: the errors of its lines, and whether the decoder copies agree. -/
structure RowFaults where
  errs : List (Fin 32 × List SymErr)
  decAgree : Bool
  deriving DecidableEq, Repr

/-- The charge current in mA that a bank held at its target takes, and the one that the headroom under the power cap allows
(R25, R171). -/
structure ChargeCurrent where
  takenMa : Nat
  headroomMa : Nat
  deriving DecidableEq, Repr

/-- How the shutdown's self-test ended: the units that failed (page, test, unit), and VIN in mV (R541). -/
structure SelfTestEnd where
  failures : List (Page × Fin 12 × Nat)
  vinMv : Nat
  deriving DecidableEq, Repr

/-- What a KEY_EXCHANGE established: whether mutual authentication verified, and the authority that the requester's chain and
the transport give the session (R214, R571). -/
structure KeyAuth where
  ok : Bool
  who : Option Session
  deriving DecidableEq, Repr

/-- The control bits of a Spline word (R392): its destination router and port there (0 to 3 the router's PCs, 4 the edge
attachment, 5 the interior attachment), its class (R396: 0 REQ, 1 SNP, 2 RSP, 3 SNPRSP, 4 CTL), and whether it is the
first or the last word of its message. -/
structure SplineWord where
  router : Fin 16
  port : Fin 6
  cls : Fin 5
  first : Bool
  last : Bool
  deriving DecidableEq, Repr

/-- Who takes a word of which plane on a link: `off` where it is the block on that link, else the router. `word` is what a
block drives; a router drives what it holds (R393, R399). -/
structure SplineReceipt where
  off : Bool
  plane : Fin 2
  word : SplineWord
  deriving DecidableEq, Repr

/-- A PAM4 level relative to the eye (R366): −3, −1, +1, +3. -/
inductive PamLevel where
  | minus3
  | minus1
  | plus1
  | plus3
  deriving DecidableEq, Repr

/-- What locks a lane: an EIEOS, or the sync headers of the blocks since the hunt began (R363), bit i of a block saying
that the header at offset i is 01 or 10; and, at a PAM4 rate, the levels that its slicer reads from the next Start of
Data Stream on (R366). -/
structure LockFinding where
  eieos : Bool
  blocks : List (BitVec 130)
  levels : List PamLevel
  deriving DecidableEq, Repr

/-- A line in the stored form as a Dovetail message carries it (R290): kind 0 data, 1 poisoned, 2 cleared,
3 uncorrectable, 4 refused. -/
structure FormLine where
  kind : Fin 5
  data : LineData
  tag : BitVec 32
  deriving DecidableEq, Repr

/-- A range entry of HELLO (R290). -/
structure HelloRange where
  base : Nat
  stop : Nat
  configured : Bool
  primary : Bool
  push : Bool
  pull : Bool
  deriving DecidableEq, Repr

/-- The body of HELLO (R290). -/
structure Hello where
  format : Nat
  variant : Nat
  unit : Nat
  pool : Nat
  bsn : Nat
  capacity : Nat
  carve : Bool
  noMirror : Bool
  imageLost : Bool
  safe : Bool
  recorded : Option Nat
  applied : Nat
  coveredFrom : Nat
  ranges : List HelloRange
  deriving DecidableEq, Repr

/-- The body of HEARTBEAT (R290). -/
structure Beat where
  count : Nat
  safe : Bool
  rekey : Bool
  resync : Bool
  time : Nat
  rekeyStart : Nat
  rekeyEnd : Nat
  applied : Nat
  deriving DecidableEq, Repr

/-- The body of MWRITE (R290). -/
structure Mwrite where
  osn : Nat
  loc : Loc
  mask : BitVec 64
  slot : SlotNo
  mark : Fin 8
  data : LineData
  partialWrite : Bool
  deriving DecidableEq, Repr

/-- A Dovetail message (R289); `unknown` is one of an unknown type or a wrong length. -/
inductive DoveMsg where
  | pad
  | hello (h : Hello)
  | heartbeat (b : Beat)
  | spdm (established failed : Bool)
  | mwrite (w : Mwrite)
  | mack (osn stroke : Nat)
  | rreq (ident : Nat) (loc : Loc)
  | rrsp (ident : Nat) (loc : Loc) (line : FormLine)
  | rdata (stroke : Nat) (loc : Loc) (first second : FormLine)
  | mark (pull : Bool) (quires : List QuireNo)
  | bitmap (pull : Bool) (first : QuireNo) (bits : BitVec 1024)
  | config (range : RangeNo) (op reason base stop : Nat)
  | role (range : RangeNo) (promoted : Bool)
  | bye (reason : Nat)
  | unknown
  deriving DecidableEq, Repr

/-- A Dovetail flit as it arrives: its 256 bytes (R280), and what the fragments of SPDM in it bring about, which is SPDM's
to say (R282, assumption 14). -/
structure DoveFlit where
  bytes : List Byte
  established : Bool
  failed : Bool
  deriving DecidableEq, Repr

/-- The payload of Load Key (R215). -/
structure KeyLoad where
  slot : Nat
  flags : Byte
  gen : Byte
  src : Nat
  k1 : BitVec 256
  k2 : BitVec 256
  ki : BitVec 256
  deriving DecidableEq, Repr

/-- An HDM decoder as the host programs it (R323). -/
structure Decoder where
  base : Nat
  size : Nat
  dpaBase : Nat
  skip : Nat
  ways : Nat
  gran : Nat
  pos : Nat
  db : Bool
  lock : Bool
  deriving DecidableEq, Repr

/-- A record of the bank's EEPROM (R168). -/
structure EepromRec where
  seq : Nat
  cycles : Nat
  capUf : Nat
  esr : Nat
  unit : Nat
  time : Nat
  deriving DecidableEq, Repr

/-- The factory block of the bank's EEPROM (R168). -/
structure EepromFactory where
  format : Nat
  cells : Nat
  capMf : Nat
  voltDv : Nat
  year : Nat
  month : Nat
  day : Nat
  esr : Nat
  maxMa : Nat
  serial : Nat
  deriving DecidableEq, Repr

/-- The 256 bytes of the bank's EEPROM, as a read returns them (R168, R576). -/
structure EepromData where
  bytes : List Byte
  deriving DecidableEq, Repr

/-- The outcomes of R92. -/
inductive Outcome92 where
  | clean | corrected | cleared | poisoned | uncorrectable
  deriving DecidableEq, Repr

/-- A layer identity block as read at stage 5 (R579, R580). -/
structure LayerIdent where
  /-- The bytes of the block, and whether the two reads gave the same. -/
  bytes : List Byte
  same : Bool
  /-- Factory tip-in entries of the spare banks, which the layout of R579 has no number for: PC in the layer, slot, row,
  slot_bad (assumption 80). -/
  spare : List (Fin 4 × Fin 32 × Fin 32768 × Bool)
  deriving DecidableEq, Repr

/-- What a start stage found (R444 to R447, R151, R554, R580): the outcomes its tests and reads leave to the
hardware. -/
structure StageFinding where
  /-- Stage 2: rows that failed with and without a usable spare, marginal rows, failed regions, rows read with one
  corrected bit, and whether the array was read twice. -/
  sparedRows : List Nat
  failedRows : List Nat
  marginalRows : List Nat
  regionFail : BitVec 7
  corrected : Nat
  secondPass : Bool
  /-- Stage 3: the reference qualified. -/
  refOk : Bool
  /-- Stage 4: the page and test code of each unit that failed, with the unit. -/
  failures : List (Page × Fin 12 × Nat)
  /-- Stage 5: identity blocks by position (a position that is not listed reads good, with nothing mapped out), vias
  that failed training (PC, via), PCs with no passing Vref. -/
  idents : List (Fin 18 × LayerIdent)
  badVias : List (PcNo × Fin 96)
  badVref : List PcNo
  /-- Stage 5: persistence layers with a via that failed training. -/
  badFolioVias : List (Fin 2)
  /-- Stage 6: the newest Tip-in record verifies. -/
  tipinOk : Bool
  /-- Stage 7: the Colophon of P0 and that of P1 read good; the map of the image in force, from P0 and from P1, verifies;
  the key record verifies. -/
  col0Ok : Bool
  col1Ok : Bool
  map0Ok : Bool
  map1Ok : Bool
  keyRecOk : Bool
  deriving DecidableEq, Repr

/-- One sensor reading in units of 0.125 °C, or no answer (R485, R486). -/
structure SensorReading where
  sensor : SensorNo
  value : Option Int
  deriving DecidableEq, Repr

/-- One via or lane result of a calibration run (R474, R475): the target and the checks of R476 that the collection
itself decides. -/
structure CalResult where
  index : Fin 96
  target : Int
  /-- Eye width of a via in steps, or the smallest eye height of a lane in 1/256 of the swing. -/
  eye : Nat
  /-- Eye width of a lane in 1/64 UI. -/
  width : Nat
  complete : Bool
  /-- PAM4 or NRZ peaks found with the spacing of R476. -/
  peaksOk : Bool
  /-- Lane thresholds, lower, middle and upper. -/
  thresholds : List Int
  deriving DecidableEq, Repr

/-- One of the outcomes that a mutual-exclusion arbiter leaves open (R400, R401): `true` where the first-named event is
granted first. -/
abbrev Grant := Bool

/-- An event-log name of R335. -/
inductive LogName where
  | info | warn | fail | fatal
  deriving DecidableEq, Repr

/-- The commands of the LR128: one constructor for each row of the operation table. -/
inductive Instr where
  /-- REGISTER_WRITE (R7, R5): accessor, window offset, size in bytes, value. -/
  | registerWrite (who : Accessor) (off : Nat) (size : Nat) (val : Word)
  /-- TB_NOW_LO_READ (R440): the accessor names the attachment whose latch is filled. -/
  | tbNowLoRead (who : Accessor)
  /-- SOFT_RESET (R14, R607). -/
  | softReset (who : Accessor) (page : Page)
  /-- SOFT_RESET_PROCEED (R607). -/
  | softResetProceed (page : Page)
  /-- QUIESCENCE_TIMEOUT (R14, R424): for the soft reset of the page, or for the gate closure of a power domain. -/
  | quiescenceTimeout (page : Page) (gate : Option DomainNo)
  /-- INT_SET (R10). -/
  | intSet (who : Accessor) (page : Page) (bits : Word)
  /-- FE_VALID_CLEAR (R12). -/
  | feValidClear (who : Accessor) (page : Page)
  /-- ESC_ACK (R513); `expiryFirst` is the arbiter's outcome where the expiry is due at this instant (R13). -/
  | escAck (who : Accessor) (page : Page) (expiryFirst : Grant)
  /-- ESC_TIMER_EXPIRY (R512). -/
  | escTimerExpiry (page : Page)
  /-- HOST_READ (R325): `cache` is the snoop type, 0 none, 1 shared, 2 exclusive (R329). -/
  | hostRead (port : PortNo) (ld : LdNo) (req : HostReq) (cache : Fin 3)
  /-- HOST_WRITE (R20, R325, R327): the byte mask is all ones for a full write. -/
  | hostWrite (port : PortNo) (ld : LdNo) (req : HostReq) (data : LineData) (mask : BitVec 64) (poison : Bool)
  /-- PC_REQUEST_ARRIVAL (R40): the oldest request on its way from a master to a PC. -/
  | pcRequestArrival (pc : PcNo) (master : Fin 26)
  /-- WRITE_HOLD_RELEASE (R148). -/
  | writeHoldRelease
  /-- INPUT_ADMIT (R55). -/
  | inputAdmit (pc : PcNo)
  /-- ACTIVATE_ISSUE (R57, R72). -/
  | activateIssue (pc : PcNo)
  /-- COLUMN_COMMAND_ISSUE (R57). -/
  | columnCommandIssue (pc : PcNo)
  /-- READ_BURST_COMPLETE (R92). -/
  | readBurstComplete (pc : PcNo) (errs : List SymErr) (tag : TagFaults) (decAgree cryptoAgree : Bool)
  /-- WRITE_BURST_ISSUE (R63, R95, R196): what the merge read of a partial write picked up, and how many times in a row the
  encoder and the cipher copies disagreed. -/
  | writeBurstIssue (pc : PcNo) (errs : List SymErr) (tag : TagFaults) (agree : ReadAgree) (encFails cryptoFails : Fin 3)
  /-- AGE_PROMOTION (R58): the oldest request of the PC's bank queues that is not yet promoted. -/
  | agePromotion (pc : PcNo)
  /-- REFRESH_DUE (R67). -/
  | refreshDue (pc : PcNo) (bank : BankNo)
  /-- FORCED_REFRESH_ISSUE (R68). -/
  | forcedRefreshIssue (pc : PcNo) (bank : BankNo)
  /-- REFRESH_ISSUE (R67). -/
  | refreshIssue (pc : PcNo) (bank : BankNo)
  /-- TARGETED_REFRESH_ISSUE (R73). -/
  | targetedRefreshIssue (pc : PcNo) (bank : BankNo)
  /-- POSTPONE_MAX_WRITE (R67): the whole word written to PC_REF_CTL. -/
  | postponeMaxWrite (who : Accessor) (pc : PcNo) (val : Word)
  /-- WINDOW_LENGTHEN (R71): the qualifying span of the layer has ended. -/
  | windowLengthen (layer : LayerNo)
  /-- SR_IDLE_EXPIRY (R77). -/
  | srIdleExpiry (pc : PcNo)
  /-- SR_NOW (R77). -/
  | srNow (who : Accessor) (pc : PcNo)
  /-- SRE_ISSUE (R78). -/
  | sreIssue (pc : PcNo)
  /-- SRX_ISSUE (R80). -/
  | srxIssue (pc : PcNo)
  /-- LANE_ERASURE_CLEAR (R100): the word written to PC_ECC_CMD. -/
  | laneErasureClear (who : Accessor) (pc : PcNo) (val : Word)
  /-- CORRECTED_WRITEBACK (R96). -/
  | correctedWriteback (pc : PcNo)
  /-- SCRUB_READ (R101). -/
  | scrubRead (pc : PcNo) (errs : List SymErr) (decAgree : Bool)
  /-- SCRUB_BATCH_WAKE (R102). -/
  | scrubBatchWake (pc : PcNo)
  /-- SCRUB_BEHIND (R104). -/
  | scrubBehind (pc : PcNo)
  /-- SCRUB_OVERDUE (R104). -/
  | scrubOverdue (pc : PcNo)
  /-- SCRUB_SELF_CHECK (R105): the unused tip-in rows that did not read back, whether a row of the free spare bank did not,
  and the test lines for which both decoder copies gave another outcome than the one of R92. -/
  | scrubSelfCheck (pc : PcNo) (badSlots : List (BankNo × Fin 32)) (spareFail : Bool) (wrong : List (Fin 8 × Outcome92))
  /-- ROW_REPAIR (R107): the row, and what reading it found. -/
  | rowRepair (pc : PcNo) (bank : BankNo) (row : Fin 32768) (faults : RowFaults)
  /-- TIPIN_REQ_REPAIR (R111). -/
  | tipinReqRepair (who : Accessor)
  /-- TIPIN_RECORD_APPEND (R109). -/
  | tipinRecordAppend
  /-- TIPIN_RECORD_COMMIT (R109): whether the append verified. -/
  | tipinRecordCommit (ok : Bool)
  /-- TIPIN_TABLE_SWEEP (R110): entries corrected, and entries with an uncorrectable error. -/
  | tipinTableSweep (corrected uncorrectable : List (Fin 65536))
  /-- TIPIN_ENTRY_RELOADED (R110). -/
  | tipinEntryReloaded (entry : Fin 65536)
  /-- MIGRATE_START (R112). -/
  | migrateStart
  /-- MIGRATE_ROW (R113): errors found while the row's lines were read. -/
  | migrateRow (errs : List (Fin 32 × List SymErr)) (decAgree : Bool)
  /-- MIGRATE_DONE (R113). -/
  | migrateDone
  /-- RECOVERY_WAIT_EXPIRY (R116): the recovery of a line. -/
  | recoveryWaitExpiry (loc : Loc)
  /-- KERF_START (R52). -/
  | kerfStart (who : Accessor) (slot : KerfNo)
  /-- KERF_ABORT (R49). -/
  | kerfAbort (who : Accessor) (slot : KerfNo)
  /-- KERF_RESUME (R52). -/
  | kerfResume (who : Accessor) (slot : KerfNo)
  /-- CLEAR_STROKE (R39). -/
  | clearStroke
  /-- LIFT_QUIRE (R152, R154): how many reads of the slot failed. -/
  | liftQuire (fails : Fin 3)
  /-- REKEY_STROKE (R213): the faults of lines of the stroke, and those of every other line. -/
  | rekeyStroke (faults : List (Fin 256 × LineFaults)) (rest : LineFaults)
  /-- KERF_DONE (R53). -/
  | kerfDone (slot : KerfNo)
  /-- KERF_LINE_TIMEOUT (R54): the line that was not finished. -/
  | kerfLineTimeout (slot : KerfNo) (loc : Loc)
  /-- CKPT (R145). -/
  | ckpt (who : Accessor)
  /-- CKPT_LIMITED (R145). -/
  | ckptLimited (who : Accessor)
  /-- CKPT_CANCEL (R147). -/
  | ckptCancel (who : Accessor)
  /-- CHECKPOINT_START (R145). -/
  | checkpointStart
  /-- SLOT_READ_BACK (R133, R158): none where the slot read back good, else the plane group whose block failed. -/
  | slotReadBack (bad : Option (Fin 64))
  /-- CHECKPOINT_COMMIT (R138): whether the P0 and the P1 copy of map and Colophon read back good. -/
  | checkpointCommit (p0 p1 : Bool)
  /-- BLOCK_ERASE (R157): block index of FOLIO_WEAR_IDX, and whether the erase verified. -/
  | blockErase (block : Fin 278528) (ok : Bool)
  /-- PERSISTENCE_FAILED (R161): whether the void Colophon committed. -/
  | persistenceFailed (voidOk : Bool)
  /-- KEY_RETAIN_CLEAR (R162). -/
  | keyRetainClear (who : Accessor)
  /-- KEY_RECORD_COMMIT (R162): whether the record committed. -/
  | keyRecordCommit (ok : Bool)
  /-- GPF_PHASE1 (R150). -/
  | gpfPhase1 (port : PortNo) (ld : LdNo) (tag : Nat)
  /-- GPF_PHASE2 (R150). -/
  | gpfPhase2 (port : PortNo) (ld : LdNo) (tag : Nat)
  /-- POWER_FAIL_DECLARE (R183): declared by VIN, by PFAIL_N, or by both. -/
  | powerFailDeclare (byVin byPfail : Bool)
  /-- BIND_START (R141). -/
  | bindStart
  /-- BIND_COMMIT (R141): copies that read back good, and VIN at the end, in mV. A Bind with nothing to write ends with it
  too. -/
  | bindCommit (p0 p1 : Bool) (vinMv : Nat)
  /-- VIN_BELOW_THRESHOLD (R183). -/
  | vinBelowThreshold
  /-- VIN_RECOVERED (R183). -/
  | vinRecovered
  /-- PFAIL_N_LOW (R183). -/
  | pfailNLow
  /-- BANK_HOUSEKEEPING_ROUND (R172, R535): the sample of VBANK in mV, what the charge current can be, and VIN in mV. -/
  | bankHousekeepingRound (vbankMv : Nat) (charge : ChargeCurrent) (vinMv : Nat)
  /-- MEASURE (R173): VBANK sampled as V0, in mV. -/
  | measure (who : Accessor) (v0Mv : Nat)
  /-- MEASURE_PERIOD_EXPIRY (R173). -/
  | measurePeriodExpiry (v0Mv : Nat)
  /-- MEASURE_SAMPLE (R173): V1 or V2, in units of 10 µV. -/
  | measureSample (second : Bool) (v : Nat)
  /-- MEASURE_END (R174): V3 in units of 10 µV. -/
  | measureEnd (v3 : Nat)
  /-- MEASURE_RETRY (R174). -/
  | measureRetry (v0Mv : Nat)
  /-- EEPROM_REREAD (R576): what the bus returns, `none` when the address is not acknowledged. -/
  | eepromReread (who : Accessor) (data : Option EepromData)
  /-- EEPROM_RECORD_WRITE (R577). -/
  | eepromRecordWrite
  /-- EEPROM_WRITE_CYCLE_DONE (R575): whether the read-back verified, judged after the second page. -/
  | eepromWriteCycleDone (verified : Bool)
  /-- BANK_BUS_RETRY (R576): what the retry returns. -/
  | bankBusRetry (data : Option EepromData)
  /-- BANK_BUS_STUCK (R578): whether the bus is still low after the clear. -/
  | bankBusStuck (stillLow : Bool)
  /-- LOAD_KEY (R215). -/
  | loadKey (session : Session) (load : KeyLoad)
  /-- UNLOAD_KEY (R218). -/
  | unloadKey (session : Session) (slot : Nat)
  /-- SET_RIGHTS (R215). -/
  | setRights (session : Session) (ld : Nat) (bitmap : BitVec 256)
  /-- SET_RANGE (R221). -/
  | setRange (session : Session) (index : Nat) (enable : Bool) (mask : BitVec 16) (base stop : Nat)
  /-- QUERY_SLOT (R215). -/
  | querySlot (session : Session) (slot : Nat)
  /-- KEY_CMD_UNKNOWN (R216). -/
  | keyCmdUnknown (session : Session) (opcode : BitVec 16)
  /-- KEY_TABLE_SWEEP (R192): slots of the master copy corrected and uncorrectable. -/
  | keyTableSweep (corrected uncorrectable : List SlotNo)
  /-- CARVE_ACTIVATE (R205): a write that sets activate, with or without deactivate. -/
  | carveActivate (who : Accessor) (both : Bool)
  /-- CARVE_DEACTIVATE (R205). -/
  | carveDeactivate (who : Accessor)
  /-- TCACHE_FLUSH (R209). -/
  | tcacheFlush (who : Accessor)
  /-- GAUGE_WINDOW_START (R232). -/
  | gaugeWindowStart
  /-- GAUGE_TABLE_SWEEP (R241): pairs corrected and uncorrectable. -/
  | gaugeTableSweep (corrected uncorrectable : List (Fin 208))
  /-- CHISEL_RING_TAIL (R248). -/
  | chiselRingTail (who : Accessor) (ring : RingNo) (val : Word)
  /-- DESCRIPTOR_FETCH (R254). -/
  | descriptorFetch (ring : RingNo)
  /-- JOB_START (R249): the oldest fetched job of the ring that has not started. -/
  | jobStart (ring : RingNo)
  /-- JOB_COMPLETE (R263): the oldest running job of the ring; `agree` where the lane copies agreed (R246). -/
  | jobComplete (ring : RingNo) (agree : Bool) (lane : PcNo)
  /-- MSIX_SEND (R265): the oldest MSI-X message that waits. -/
  | msixSend
  /-- CHISEL_RING_ABORT (R267); `completionFirst` is the arbiter's outcome of R268. -/
  | chiselRingAbort (who : Accessor) (ring : RingNo) (val : Word) (completionFirst : Grant)
  /-- CHISEL_RING_ENABLE (R274): the word written to CHISEL_RING_CTL. -/
  | chiselRingEnable (who : Accessor) (ring : RingNo) (val : Word)
  /-- DOVE_FLIT_RECEIVE (R284). -/
  | doveFlitReceive (flit : DoveFlit)
  /-- DOVE_REPLAY_REQUEST (R284): the ack that the request names. -/
  | doveReplayRequest (ack : BitVec 24)
  /-- HEARTBEAT_TIMER (R286). -/
  | heartbeatTimer
  /-- PARTNER_LOST (R303). -/
  | partnerLost
  /-- MACK_TIMER (R299). -/
  | mackTimer
  /-- AUTO_PROMOTE_EXPIRY (R304). -/
  | autoPromoteExpiry
  /-- PAD (R288). -/
  | pad
  /-- HELLO (R293): received in a protected flit or not. -/
  | hello (prot : Bool) (h : Hello)
  /-- HEARTBEAT (R287). -/
  | heartbeat (b : Beat)
  /-- SPDM (R282): the fragment completes the session, or authentication fails. -/
  | spdm (established failed : Bool)
  /-- MWRITE (R299). -/
  | mwrite (w : Mwrite)
  /-- MACK (R299). -/
  | mack (osn stroke : Nat)
  /-- RREQ (R115). -/
  | rreq (ident : Nat) (loc : Loc)
  /-- RRSP (R115). -/
  | rrsp (ident : Nat) (loc : Loc) (line : FormLine)
  /-- RDATA (R306). -/
  | rdata (stroke : Nat) (loc : Loc) (first second : FormLine)
  /-- MARK (R300). -/
  | mark (pull : Bool) (quires : List QuireNo)
  /-- BITMAP (R294). -/
  | bitmap (pull : Bool) (first : QuireNo) (bits : BitVec 1024)
  /-- CONFIG (R296): operation 1 offer, 2 adopted, 3 withdraw, 4 refused. -/
  | config (range : RangeNo) (op reason base stop : Nat)
  /-- ROLE (R304). -/
  | role (range : RangeNo) (promoted : Bool)
  /-- BYE (R305). -/
  | bye (reason : Nat)
  /-- DOVE_QUEUE_ROOM (R298). -/
  | doveQueueRoom
  /-- RESYNC_STROKE (R306). -/
  | resyncStroke
  /-- DOVE_CMD_JOIN (R291). -/
  | doveCmdJoin (who : Accessor)
  /-- DOVE_CMD_LEAVE (R305). -/
  | doveCmdLeave (who : Accessor)
  /-- DOVE_CMD_CONFIG (R296). -/
  | doveCmdConfig (who : Accessor) (range : RangeNo)
  /-- DOVE_CMD_UNCONFIG (R296). -/
  | doveCmdUnconfig (who : Accessor) (range : RangeNo)
  /-- DOVE_CMD_PROMOTE (R304). -/
  | doveCmdPromote (who : Accessor) (range : RangeNo) (all : Bool)
  /-- DOVE_CMD_DEMOTE (R293). -/
  | doveCmdDemote (who : Accessor) (range : RangeNo) (all : Bool)
  /-- DOVE_CMD_ACCEPT (R295). -/
  | doveCmdAccept (who : Accessor)
  /-- DOVE_FREQ_OFFSET (R376): the offset in ppm. -/
  | doveFreqOffset (ppm : Int)
  /-- PORT_RESET (R351, R355): cause as PORT_RESET_STAT.last_cause, and whether a flit was partly received; group 4 is the
  DOVE port. -/
  | portReset (group : GroupNo) (cause : Fin 5) (partFlit : Bool)
  /-- CXL_RESET (R350). -/
  | cxlReset (port : PortNo) (ld : LdNo)
  /-- FUNCTION_LEVEL_RESET (R350). -/
  | functionLevelReset (port : PortNo) (ld : LdNo)
  /-- PERST_RELEASE (R355); group 4 is the DOVE port. -/
  | perstRelease (group : GroupNo)
  /-- HDM_DECODER_COMMIT (R323). -/
  | hdmDecoderCommit (port : PortNo) (ld : LdNo) (index : LdNo × Bool) (dec : Decoder)
  /-- BI_RESPONSE (R329): the oldest back-invalidate of the port for a line; modified data if the host held any. -/
  | biResponse (port : PortNo) (loc : Loc) (modified : Option LineData)
  /-- BI_TIMEOUT (R330). -/
  | biTimeout (port : PortNo) (loc : Loc)
  /-- IDE_CHECK_FAIL (R325). -/
  | ideCheckFail (port : PortNo)
  /-- AER_SEND (R528): the oldest message that is due on the port. -/
  | aerSend (port : PortNo)
  /-- GET_EVENT_RECORDS (R335). -/
  | getEventRecords (port : PortNo) (ld : LdNo) (log : LogName)
  /-- CLEAR_EVENT_RECORDS (R335). -/
  | clearEventRecords (port : PortNo) (ld : LdNo) (log : LogName) (all : Bool) (handles : List Nat)
  /-- GET_EVENT_INTERRUPT_POLICY (R334). -/
  | getEventInterruptPolicy (port : PortNo) (ld : LdNo)
  /-- SET_EVENT_INTERRUPT_POLICY (R334): a mode for each log, 0 none, 1 MSI-X, 2 firmware VDM. -/
  | setEventInterruptPolicy (port : PortNo) (ld : LdNo) (info warn fail fatal : Fin 3)
  /-- GET_FW_INFO (R334). -/
  | getFwInfo (port : PortNo) (ld : LdNo)
  /-- TRANSFER_FW (R574): action 0 whole, 1 first part, 2 next part, 3 last part, 4 abort; offset and the image's
  version, security version and signature outcome. -/
  | transferFw (port : PortNo) (ld : LdNo) (action : Fin 5) (offset : Nat) (version secver : Nat) (sigOk : Bool)
  /-- ACTIVATE_FW (R574). -/
  | activateFw (port : PortNo) (ld : LdNo)
  /-- FW_FALLBACK (R574). -/
  | fwFallback
  /-- GET_TIMESTAMP (R347). -/
  | getTimestamp (port : PortNo) (ld : LdNo)
  /-- SET_TIMESTAMP (R347, R435). -/
  | setTimestamp (port : PortNo) (ld : LdNo) (ns : BitVec 64)
  /-- GET_SUPPORTED_LOGS (R334). -/
  | getSupportedLogs (port : PortNo) (ld : LdNo)
  /-- GET_LOG (R334): the Command Effects Log, or the vendor log. -/
  | getLog (port : PortNo) (ld : LdNo) (vendor : Bool)
  /-- GET_SUPPORTED_FEATURES (R334). -/
  | getSupportedFeatures (port : PortNo) (ld : LdNo)
  /-- PERFORM_MAINTENANCE (R344): class 0 soft PPR, 1 hard PPR, 2 row sparing, 3 any other. -/
  | performMaintenance (port : PortNo) (ld : LdNo) (cls : Fin 4) (dpa : BitVec 44)
  /-- IDENTIFY_MEMORY_DEVICE (R324). -/
  | identifyMemoryDevice (port : PortNo) (ld : LdNo)
  /-- GET_PARTITION_INFO (R324). -/
  | getPartitionInfo (port : PortNo) (ld : LdNo)
  /-- GET_HEALTH_INFO (R348). -/
  | getHealthInfo (port : PortNo) (ld : LdNo)
  /-- GET_ALERT_CONFIG (R334). -/
  | getAlertConfig (port : PortNo) (ld : LdNo)
  /-- SET_ALERT_CONFIG (R334): life-used and over-temperature thresholds. -/
  | setAlertConfig (port : PortNo) (ld : LdNo) (life temp : Nat)
  /-- GET_SHUTDOWN_STATE (R346). -/
  | getShutdownState (port : PortNo) (ld : LdNo)
  /-- SET_SHUTDOWN_STATE (R346). -/
  | setShutdownState (port : PortNo) (ld : LdNo) (clean : Bool)
  /-- GET_POISON_LIST (R338): DPA and length in bytes. -/
  | getPoisonList (port : PortNo) (ld : LdNo) (dpa : BitVec 44) (len : Nat)
  /-- INJECT_POISON (R341). -/
  | injectPoison (port : PortNo) (ld : LdNo) (dpa : BitVec 44)
  /-- CLEAR_POISON (R340). -/
  | clearPoison (port : PortNo) (ld : LdNo) (dpa : BitVec 44) (data : LineData)
  /-- GET_SCAN_MEDIA_CAPABILITIES (R339). -/
  | getScanMediaCapabilities (port : PortNo) (ld : LdNo) (dpa : BitVec 44) (len : Nat)
  /-- SCAN_MEDIA (R339). -/
  | scanMedia (port : PortNo) (ld : LdNo) (dpa : BitVec 44) (len : Nat)
  /-- GET_SCAN_MEDIA_RESULTS (R339). -/
  | getScanMediaResults (port : PortNo) (ld : LdNo)
  /-- SANITIZE (R342). -/
  | sanitize (port : PortNo) (ld : LdNo)
  /-- SECURE_ERASE (R342). -/
  | secureErase (port : PortNo) (ld : LdNo)
  /-- MEDIA_OPERATIONS (R343): operation 0 discovery, 1 Zero, 2 Sanitize of a range. -/
  | mediaOperations (port : PortNo) (ld : LdNo) (op : Fin 3) (dpa : BitVec 44) (len : Nat)
  /-- BACKGROUND_OP_COMPLETE (R333): the oldest background operation of a kind (see `bgKind`). -/
  | backgroundOpComplete (kind : Fin 5) (errs : List (Nat × List SymErr))
  /-- GET_LOCATION_MAP (R349). -/
  | getLocationMap (port : PortNo) (ld : LdNo)
  /-- ORDER_CHECKPOINT (R349). -/
  | orderCheckpoint (port : PortNo) (ld : LdNo) (limited : Bool)
  /-- GET_PERSISTENCE_STATUS (R349). -/
  | getPersistenceStatus (port : PortNo) (ld : LdNo)
  /-- GET_ERROR_CAPTURE (R349). -/
  | getErrorCapture (port : PortNo) (ld : LdNo) (page : Page)
  /-- READ_REGISTER (R349). -/
  | readRegister (port : PortNo) (ld : LdNo) (off : BitVec 32)
  /-- WRITE_REGISTER (R349). -/
  | writeRegister (port : PortNo) (ld : LdNo) (off : BitVec 32) (val : Word)
  /-- SET_LD_ALLOCATION (R349): the port, LD and range named, then base and end quires. -/
  | setLdAllocation (port : PortNo) (ld : LdNo) (toPort : PortNo) (toLd : LdNo) (range : Fin 4) (base stop : Nat)
  /-- GET_LD_ALLOCATIONS (R320). -/
  | getLdAllocations (port : PortNo)
  /-- SET_LD_ALLOCATIONS (R320). -/
  | setLdAllocations (port : PortNo)
  /-- MAILBOX_UNSUPPORTED (R334). -/
  | mailboxUnsupported (port : PortNo) (ld : LdNo) (opcode : BitVec 16)
  /-- LANE_LOCK (R363, R366): and, at a PAM4 rate, the levels that the lane's slicer reads from the next Start of Data
  Stream on. -/
  | laneLock (group : GroupNo) (lane : LaneNo) (offset : Fin 130) (finding : LockFinding)
  /-- ALIGNMENT_LOSS (R364). -/
  | alignmentLoss (group : GroupNo) (lane : LaneNo)
  /-- LANE_UNLOCKED_TIMEOUT (R365). -/
  | laneUnlockedTimeout (group : GroupNo) (lane : LaneNo)
  /-- TRAINING_RETRY (R362, R376). -/
  | trainingRetry (group : GroupNo)
  /-- LANE_ADAPT_STEP (R467): the step wanted of the CTLE attenuation, the peaking and the first DFE tap. -/
  | laneAdaptStep (group : GroupNo) (lane : LaneNo) (ctle peaking dfe : Int)
  /-- L0S_ENTRY (R379). -/
  | l0sEntry (port : PortNo)
  /-- L1_IDLE_EXPIRY (R380); a message ready at the same instant is ordered by the arbiter: `messageFirst`. -/
  | l1IdleExpiry (port : PortNo) (messageFirst : Grant)
  /-- PM_REQUEST_ACK (R380). -/
  | pmRequestAck (port : PortNo) (accepted : Bool)
  /-- L1_EXIT (R378): the exit takes this many ns. -/
  | l1Exit (port : PortNo) (ns : Nat)
  /-- L0P_WIDTH_CHANGE (R377). -/
  | l0pWidthChange (port : PortNo) (narrow : Bool)
  /-- SPLINE_WORD_RECEIVE (R393, R399): the receiver on a link of a router, numbered as R412 numbers it, takes a word of a
  plane. Each half reads 0 good, 1 corrected, 2 uncorrectable. -/
  | splineWordReceive (router : Fin 16) (rport : Fin 12) (receipt : SplineReceipt) (halves : Fin 3 × Fin 3)
  /-- SPLINE_WATCHDOG_EXPIRY (R409): the link, the class, and the PC that a word is bound for, where it is bound for
  one. -/
  | splineWatchdogExpiry (router : Fin 16) (rport : Fin 12) (cls : Fin 5) (dest : Option PcNo)
  /-- TOGGLE_OVERRUN (R403). -/
  | toggleOverrun (xing : XingNo)
  /-- CROSSING_RESET (R407): words discarded toward and from the side that was reset, and the time to step 4 in ns. -/
  | crossingReset (xing : XingNo) (dropped : Nat) (ns : Nat)
  /-- CROSSING_READY (R407). -/
  | crossingReady (xing : XingNo)
  /-- CROSSING_RESYNC_TIMEOUT (R408). -/
  | crossingResyncTimeout (xing : XingNo)
  /-- CLOCK_LOSS (R416): the stall of the longest access in ns. -/
  | clockLoss (stallNs : Nat)
  /-- REF_WINDOW_CHECK (R414): mean reference frequency of the window in kHz. -/
  | refWindowCheck (khz : Nat)
  /-- REF_QUALIFY (R418). -/
  | refQualify
  /-- HO_CHECK (R414): the House Oscillator count over 32 Always-On ticks. -/
  | hoCheck (count : Nat)
  /-- AO_TICK_TIMEOUT (R414). -/
  | aoTickTimeout
  /-- PLL_LOCK_LOST (R414): PLLs 0 to 15 of the layers, 16 the system PLL. -/
  | pllLockLost (pll : Fin 17)
  /-- CLK_DOM_SWITCH (R420): the source written. -/
  | clkDomSwitch (who : Accessor) (toHo : Bool)
  /-- CLK_SWITCH_DONE (R420): the longest stall in ns. -/
  | clkSwitchDone (dom : ClkNo) (stallNs : Nat)
  /-- DOMAIN_SLEEP_ENTRY (R423). -/
  | domainSleepEntry (dom : DomainNo)
  /-- DOMAIN_DEEP_SLEEP_ENTRY (R424). -/
  | domainDeepSleepEntry (dom : DomainNo)
  /-- DOMAIN_WAKE (R425): the arbiter's outcome where the word meets a commit point: `wordFirst`. -/
  | domainWake (dom : DomainNo) (wordFirst : Grant)
  /-- DOMAIN_READY (R424): wake time in ns. -/
  | domainReady (dom : DomainNo) (ns : Nat)
  /-- DOMAIN_WAKE_TIMEOUT (R427). -/
  | domainWakeTimeout (dom : DomainNo)
  /-- DOMAIN_RAIL_LOW (R427). -/
  | domainRailLow (dom : DomainNo)
  /-- IDLE_DISABLE (R423). -/
  | idleDisable (who : Accessor)
  /-- TB_DEEP_ENTRY (R432). -/
  | tbDeepEntry
  /-- TB_CARRY (R432): the Always-On count at the tick edge. -/
  | tbCarry (a1 : Nat)
  /-- VIN_GOOD (R444): VIN in mV, and whether the Always-On counter ran without a break. -/
  | vinGood (vinMv : Nat) (aoRan : Bool)
  /-- START_STAGE_END (R444): what the stage found and how long it took in µs. -/
  | startStageEnd (found : StageFinding) (us : Nat)
  /-- STAGE_OVERRUN (R444). -/
  | stageOverrun
  /-- VAUX_GOOD (R443): what the read of the bank's EEPROM returns. -/
  | vauxGood (data : Option EepromData)
  /-- VAUX_LOST (R443). -/
  | vauxLost
  /-- VAUX_TIMEOUT (R443). -/
  | vauxTimeout
  /-- SYS_RST_DEVICE (R449): the key field written. -/
  | sysRstDevice (who : Accessor) (key : BitVec 16)
  /-- SYS_RST_CARRIER_IO (R451). -/
  | sysRstCarrierIo (who : Accessor) (key : BitVec 16)
  /-- HOLD_END (R451): length of the Hold in µs, and what the read of the bank's EEPROM at step 8 returns. -/
  | holdEnd (us : Nat) (data : Option EepromData)
  /-- SYS_RST_MGMT (R453). -/
  | sysRstMgmt (who : Accessor) (key : BitVec 16)
  /-- MGMT_WATCHDOG_EXPIRY (R535). -/
  | mgmtWatchdogExpiry
  /-- MGMT_NOT_RUNNING (R535). -/
  | mgmtNotRunning
  /-- SYS_RST_SHUTDOWN (R454). -/
  | sysRstShutdown (who : Accessor) (key : BitVec 16)
  /-- SYS_LC_CMD (R458): target and key. -/
  | sysLcCmd (who : Accessor) (target : Fin 8) (key : BitVec 16)
  /-- SET_LIFE_CYCLE (R458). -/
  | setLifeCycle (session : Session) (target : Fin 8)
  /-- LC_FUSE_PROGRAMMED (R459). -/
  | lcFuseProgrammed
  /-- CAL_RUN (R469). -/
  | calRun (who : Accessor) (pc : PcNo)
  /-- CAL_ABORT (R479). -/
  | calAbort (who : Accessor) (pc : PcNo)
  /-- PHY_CAL_RUN (R469). -/
  | phyCalRun (who : Accessor) (group : GroupNo)
  /-- PHY_CAL_ABORT (R479). -/
  | phyCalAbort (who : Accessor) (group : GroupNo)
  /-- CAL_PERIOD_EXPIRY (R469): units 0 to 63 the PCs, 64 to 68 the lane groups. -/
  | calPeriodExpiry (unit : Fin 69)
  /-- CAL_COLLECTION_COMPLETE (R476): the results of the run and the target read Vref. -/
  | calCollectionComplete (unit : Fin 69) (results : List CalResult) (vref : Nat)
  /-- CAL_PROBE_TIMEOUT (R473). -/
  | calProbeTimeout (pc : PcNo)
  /-- CAL_RUN_TIMEOUT (R473): the results of the vias that are complete. -/
  | calRunTimeout (pc : PcNo) (results : List CalResult) (vref : Nat)
  /-- CAL_STEP (R478): one step of one via or lane. -/
  | calStep (unit : Fin 69) (index : Fin 97)
  /-- SENSOR_SLOW_ROUND (R485). -/
  | sensorSlowRound (readings : List SensorReading)
  /-- SENSOR_FAST_SAMPLE (R485). -/
  | sensorFastSample (reading : SensorReading)
  /-- BAND_COMPARATOR_TRIP (R485). -/
  | bandComparatorTrip (sensor : SensorNo)
  /-- THROTTLE_RISE (R489): layer, or 16 for the logic die. -/
  | throttleRise (die : Fin 17)
  /-- THROTTLE_FALL (R489). -/
  | throttleFall (die : Fin 17)
  /-- FATAL_TEMPERATURE (R491): the sensor. -/
  | fatalTemperature (sensor : SensorNo)
  /-- DIVIDER_CHANGE (R492). -/
  | dividerChange (layer : LayerNo)
  /-- SUSPECT_CLEAR (R497). -/
  | suspectClear (layer : LayerNo)
  /-- POWER_SAMPLE (R499): the mean over 1 ms and over the averaging window, in units of 0.1 W. -/
  | powerSample (meanDw avgDw : Nat)
  /-- CAP_ADJUST (R500). -/
  | capAdjust
  /-- SAFE (R518): the key written. -/
  | safe (who : Accessor) (key : BitVec 16)
  /-- RELEASE (R525). -/
  | release (who : Accessor)
  /-- TEST (R524). -/
  | test (who : Accessor)
  /-- ERR_N_PULSE_END (R525). -/
  | errNPulseEnd
  /-- ERR_N_GAP_END (R525). -/
  | errNGapEnd
  /-- ERR_N_READBACK (R527): the level read. -/
  | errNReadback (high : Bool)
  /-- ERRPIN_FF_VALID_CLEAR (R510). -/
  | errpinFfValidClear (who : Accessor)
  /-- QUIRE_MAP_SWEEP (R535): quires whose copies differed and were repaired, and quires that failed in both copies. -/
  | quireMapSweep (repaired failed : List QuireNo)
  /-- BIST_RUN (R547): the key written. -/
  | bistRun (who : Accessor) (key : BitVec 16)
  /-- BIST_ABORT (R549); `stepFirst` where the step completes before the abort. -/
  | bistAbort (who : Accessor) (key : BitVec 16) (stepFirst : Grant)
  /-- BIST_RELEASE (R550). -/
  | bistRelease (who : Accessor) (key : BitVec 16)
  /-- BIST_STEP_DONE (R548): whether the step passed, and its error count. -/
  | bistStepDone (passed : Bool) (errors : Nat)
  /-- SHUTDOWN_SELF_TEST_DONE (R541). -/
  | shutdownSelfTestDone (finding : SelfTestEnd)
  /-- OTP_PROGRAM (R559): key, and whether the program verified. -/
  | otpProgram (who : Accessor) (key : BitVec 16) (verified : Bool)
  /-- OTP_REPAIR (R559): key, and whether the spare verified and its redirection entry was written. -/
  | otpRepair (who : Accessor) (key : BitVec 16) (verified linked : Bool)
  /-- OTP_LOCK (R559). -/
  | otpLock (who : Accessor) (key : BitVec 16) (region : Fin 8) (force : Bool)
  /-- OTP_GEN_SEED (R559). -/
  | otpGenSeed (who : Accessor) (key : BitVec 16)
  /-- OTP_LATCH_COMPARE (R556): whether the two latched copies agree. -/
  | otpLatchCompare (agree : Bool) (row : Fin 512)
  /-- MCTP_MESSAGE (R569): message type, length in bytes, whether it changes a setting, whether it came in a
  fabric-manager session, whether the sideband's packet check held. -/
  | mctpMessage (mtype : BitVec 8) (len : Nat) (changes fmSession pecOk : Bool)
  /-- I3C_DYNAMIC_ADDRESS (R567): whether a packet was partly received. -/
  | i3cDynamicAddress (addr : BitVec 7) (partPacket : Bool)
  /-- I3C_RESET (R567). -/
  | i3cReset (partPacket : Bool)
  /-- SET_ENDPOINT_ID (R569). -/
  | setEndpointId (eid : BitVec 8)
  /-- GET_ENDPOINT_ID (R569). -/
  | getEndpointId
  /-- GET_MCTP_VERSION_SUPPORT (R569). -/
  | getMctpVersionSupport
  /-- GET_MESSAGE_TYPE_SUPPORT (R569). -/
  | getMessageTypeSupport
  /-- GET_ENDPOINT_UUID (R569). -/
  | getEndpointUuid
  /-- PLDM_MONITORING (R569): the sensor asked for (see `pldmSensor`). -/
  | pldmMonitoring (sensor : Fin 32)
  /-- PLDM_FIRMWARE_UPDATE (R574): a transfer or an activation. -/
  | pldmFirmwareUpdate (activate : Bool) (fmSession : Bool) (offset version secver : Nat) (sigOk last : Bool)
  /-- GET_CERTIFICATE (R572). -/
  | getCertificate (slot : Fin 8)
  /-- CHALLENGE (R571). -/
  | challenge (nonce : BitVec 256)
  /-- GET_MEASUREMENTS (R573). -/
  | getMeasurements (index : Fin 8) (signed : Bool)
  /-- KEY_EXCHANGE (R214, R571). -/
  | keyExchange (auth : KeyAuth)
  /-- KEY_UPDATE (R571). -/
  | keyUpdate (session : Fin 8)
  /-- ORDERLY_SHUTDOWN (R570): inside a fabric-manager session or in plain. -/
  | orderlyShutdown (fmSession : Bool)
  /-- RESTART (R570). -/
  | restart
  /-- REGISTER_READ_REFUSED (R5, R321). -/
  | registerReadRefused (who : Accessor) (off : Nat) (size : Nat)
  /-- PFAIL_N_RELEASE (R183). -/
  | pfailNRelease
  /-- BANK_END_VOLTAGE (R144). -/
  | bankEndVoltage
  /-- LINK_TRAINED (R373): the mode of R315, whether every lane was found usable (a bit per unusable lane), and the
  number of logical devices bound. -/
  | linkTrained (group : GroupNo) (mode : Fin 5) (lo : Bool) (unusable : BitVec 8) (bound : BitVec 4) (mld : Bool)
  /-- IDE_KM (R224): stream 0 CXL.io link, 1 and 2 selective, 3 CXL.cachemem; operation 0 program, 1 establish,
  2 switch key set, 3 end. -/
  | ideKm (port : PortNo) (stream : Fin 4) (op : Fin 4) (keySet : Bool) (skid : Bool)
  /-- CONFIG_SPACE_WRITE (R379): L0s, L1, L1.1 and L1.2 enables, and TSP of the LD. -/
  | configSpaceWrite (port : PortNo) (ld : LdNo) (l0s l1 l11 l12 tsp : Bool)
  /-- L1_SUBSTATE_ENTRY (R380): to L1.2, or else L1.1. -/
  | l1SubstateEntry (port : PortNo) (deep : Bool)
  /-- PLL_LOCKED (R418). -/
  | pllLocked (pll : Fin 17)
  /-- CARRIER_IO_RAIL_LOW (R449). -/
  | carrierIoRailLow
  /-- MGMT_CORE_READY (R453). -/
  | mgmtCoreReady
  /-- KEY_SLOT_RELOADED (R192). -/
  | keySlotReloaded (slot : SlotNo)
  /-- HOP_TIME_OVER_LIMIT (R411): the hop time in ps. -/
  | hopTimeOverLimit (ps : Nat)
  deriving DecidableEq, Repr

end Sys2Proof
end

