-- ==== Sys2Proof/Decode.lean ====
section
/-!
DEFINITION. The words of the operation table. The table gives none of its rows any bits: the commands come from outside
as what they are, and no word spells one.
-/

namespace Sys2Proof

/-- The command that a word spells by the table's bits: none, since no row has bits. -/
def decodeTableWord (_nbits _w : Nat) : Option Instr := none

end Sys2Proof
end

