-- ==== Sys2Proof/Machine/Reg.lean ====
section
/-!
DEFINITION. The register fields of the LR128, named REGISTER.field as the register tables of the spec name them (R10, R51,
R52, R86, R118, R120, R122, R163, R188, R225, R242, R273, R274, R312, R313, R356, R357, R385, R386, R410, R436, R438,
R440, R460, R480, R481, R505, R536, R562, R564, R581). A field is its page, offset, lowest bit and width; `inst` tells
apart the copies of a register that stands once per slot, ring, range, logical device, lane, or once per value of a
selector register. The pages of pseudo-channels are written with page 0x40, of ports with page 0x10, and the page header
with page 0; `Fld.on` moves a field to its own page.
-/

namespace Sys2Proof.Machine

/-- A register field: where it stands in the register window, and which of its copies. -/
structure Fld where
  page : Nat
  off : Nat
  lsb : Nat
  width : Nat
  inst : Nat
  deriving DecidableEq, Repr

/-- The key of a field in the register file. -/
def Fld.key (f : Fld) : Nat := ((f.inst * 128 + f.page) * 4096 + f.off) * 32 + f.lsb

/-- The same field on another page. -/
def Fld.on (f : Fld) (page : Nat) : Fld := { f with page := page }

/-- Copy `n` of a field that stands more than once. -/
def Fld.ix (f : Fld) (n : Nat) : Fld := { f with inst := n }

/-- The field on the page of a pseudo-channel (R15). -/
def Fld.pc (f : Fld) (p : Nat) : Fld := { f with page := 0x40 + p }

/-- The field on the page of a host port, or of DOVE for group 4 (R15). -/
def Fld.port (f : Fld) (g : Nat) : Fld := { f with page := 0x10 + g }

/-! PAGE_ID (R10). -/
def PAGE_ID.block_type : Fld := ⟨0x00, 0x000, 0, 16, 0⟩
def PAGE_ID.inst : Fld := ⟨0x00, 0x000, 16, 8, 0⟩
def PAGE_ID.layout_version : Fld := ⟨0x00, 0x000, 24, 8, 0⟩
/-! PAGE_CAP (R10). -/
def PAGE_CAP.present : Fld := ⟨0x00, 0x004, 0, 1, 0⟩
def PAGE_CAP.sleep_cap : Fld := ⟨0x00, 0x004, 1, 1, 0⟩
def PAGE_CAP.deep_cap : Fld := ⟨0x00, 0x004, 2, 1, 0⟩
def PAGE_CAP.block_cap : Fld := ⟨0x00, 0x004, 16, 16, 0⟩
/-! PAGE_CTL (R10). -/
def PAGE_CTL.enable : Fld := ⟨0x00, 0x008, 0, 1, 0⟩
def PAGE_CTL.run_clk_en : Fld := ⟨0x00, 0x008, 1, 1, 0⟩
def PAGE_CTL.sleep_en : Fld := ⟨0x00, 0x008, 2, 1, 0⟩
def PAGE_CTL.deep_en : Fld := ⟨0x00, 0x008, 3, 1, 0⟩
def PAGE_CTL.soft_reset : Fld := ⟨0x00, 0x008, 4, 1, 0⟩
/-! PAGE_STAT (R10). -/
def PAGE_STAT.state : Fld := ⟨0x00, 0x00C, 0, 4, 0⟩
def PAGE_STAT.busy : Fld := ⟨0x00, 0x00C, 4, 1, 0⟩
def PAGE_STAT.quiescent : Fld := ⟨0x00, 0x00C, 5, 1, 0⟩
def PAGE_STAT.reset_abandoned : Fld := ⟨0x00, 0x00C, 8, 1, 0⟩
def PAGE_STAT.gate_abandoned : Fld := ⟨0x00, 0x00C, 9, 1, 0⟩
/-! ERR_STAT (R10). -/
def ERR_STAT.ce : Fld := ⟨0x00, 0x010, 0, 1, 0⟩
def ERR_STAT.uc : Fld := ⟨0x00, 0x010, 1, 1, 0⟩
def ERR_STAT.fatal : Fld := ⟨0x00, 0x010, 2, 1, 0⟩
def ERR_STAT.overflow : Fld := ⟨0x00, 0x010, 3, 1, 0⟩
/-! ERR_MASK (R10). -/
def ERR_MASK.mask_ce : Fld := ⟨0x00, 0x014, 0, 1, 0⟩
def ERR_MASK.mask_uc : Fld := ⟨0x00, 0x014, 1, 1, 0⟩
/-! ERR_CNT_CE (R10). -/
def ERR_CNT_CE.count : Fld := ⟨0x00, 0x018, 0, 32, 0⟩
/-! ERR_CNT_UC (R10). -/
def ERR_CNT_UC.count : Fld := ⟨0x00, 0x01C, 0, 32, 0⟩
/-! FE_ADDR_LO (R10). -/
def FE_ADDR_LO.addr : Fld := ⟨0x00, 0x020, 0, 32, 0⟩
/-! FE_ADDR_HI (R10). -/
def FE_ADDR_HI.addr : Fld := ⟨0x00, 0x024, 0, 32, 0⟩
/-! FE_MASTER (R10). -/
def FE_MASTER.master : Fld := ⟨0x00, 0x028, 0, 8, 0⟩
/-! FE_ACCESS (R10). -/
def FE_ACCESS.access : Fld := ⟨0x00, 0x02C, 0, 4, 0⟩
def FE_ACCESS.class : Fld := ⟨0x00, 0x02C, 4, 2, 0⟩
/-! FE_CODE (R10). -/
def FE_CODE.code : Fld := ⟨0x00, 0x030, 0, 16, 0⟩
/-! FE_TIME_LO (R10). -/
def FE_TIME_LO.time : Fld := ⟨0x00, 0x034, 0, 32, 0⟩
/-! FE_TIME_HI (R10). -/
def FE_TIME_HI.time : Fld := ⟨0x00, 0x038, 0, 32, 0⟩
/-! FE_VALID (R10). -/
def FE_VALID.valid : Fld := ⟨0x00, 0x03C, 0, 1, 0⟩
def FE_VALID.time_valid : Fld := ⟨0x00, 0x03C, 1, 1, 0⟩
/-! ESC_CTL (R10). -/
def ESC_CTL.esc_time_us : Fld := ⟨0x00, 0x040, 0, 17, 0⟩
def ESC_CTL.esc_en : Fld := ⟨0x00, 0x040, 31, 1, 0⟩
/-! ESC_ACK (R10). -/
def ESC_ACK.ack : Fld := ⟨0x00, 0x044, 0, 1, 0⟩
/-! ESC_STAT (R10). -/
def ESC_STAT.running : Fld := ⟨0x00, 0x048, 0, 1, 0⟩
def ESC_STAT.escalated : Fld := ⟨0x00, 0x048, 1, 1, 0⟩
def ESC_STAT.acked : Fld := ⟨0x00, 0x048, 2, 1, 0⟩
def ESC_STAT.remaining_us : Fld := ⟨0x00, 0x048, 4, 17, 0⟩
/-! INT_STAT (R10). -/
def INT_STAT.err : Fld := ⟨0x00, 0x050, 0, 1, 0⟩
def INT_STAT.causes : Fld := ⟨0x00, 0x050, 1, 31, 0⟩
/-! INT_EN (R10). -/
def INT_EN.enables : Fld := ⟨0x00, 0x054, 0, 32, 0⟩
/-! INT_SET (R10). -/
def INT_SET.set : Fld := ⟨0x00, 0x058, 1, 31, 0⟩
/-! LOCK (R10). -/
def LOCK.lock : Fld := ⟨0x00, 0x060, 0, 1, 0⟩
/-! KERF_STACK_CFG (R51). -/
def KERF_STACK_CFG.layers_present : Fld := ⟨0x1A, 0x100, 0, 16, 0⟩
def KERF_STACK_CFG.absent_layer : Fld := ⟨0x1A, 0x100, 16, 4, 0⟩
def KERF_STACK_CFG.map_out : Fld := ⟨0x1A, 0x100, 20, 1, 0⟩
def KERF_STACK_CFG.carve_out : Fld := ⟨0x1A, 0x100, 24, 1, 0⟩
/-! KERF_CAPACITY (R51). -/
def KERF_CAPACITY.quires : Fld := ⟨0x1A, 0x104, 0, 18, 0⟩
/-! KERF_CARVE_BASE (R51). -/
def KERF_CARVE_BASE.base_quire : Fld := ⟨0x1A, 0x108, 0, 18, 0⟩
/-! KERF_ACTIVE (R51). -/
def KERF_ACTIVE.running : Fld := ⟨0x1A, 0x10C, 0, 5, 0⟩
def KERF_ACTIVE.waiting : Fld := ⟨0x1A, 0x10C, 8, 5, 0⟩
/-! KERF_CMD (R52). -/
def KERF_CMD.start : Fld := ⟨0x1A, 0x200, 0, 1, 0⟩
def KERF_CMD.abort : Fld := ⟨0x1A, 0x200, 1, 1, 0⟩
def KERF_CMD.resume : Fld := ⟨0x1A, 0x200, 2, 1, 0⟩
/-! KERF_STAT (R52). -/
def KERF_STAT.state : Fld := ⟨0x1A, 0x204, 0, 3, 0⟩
def KERF_STAT.demand_depth : Fld := ⟨0x1A, 0x204, 8, 5, 0⟩
def KERF_STAT.refused : Fld := ⟨0x1A, 0x204, 16, 1, 0⟩
def KERF_STAT.refuse_reason : Fld := ⟨0x1A, 0x204, 20, 4, 0⟩
/-! KERF_START (R52). -/
def KERF_START.start_quire : Fld := ⟨0x1A, 0x208, 0, 17, 0⟩
/-! KERF_END (R52). -/
def KERF_END.end_quire : Fld := ⟨0x1A, 0x20C, 0, 18, 0⟩
/-! KERF_POS_LO (R52). -/
def KERF_POS_LO.pos : Fld := ⟨0x1A, 0x210, 0, 32, 0⟩
/-! KERF_POS_HI (R52). -/
def KERF_POS_HI.pos : Fld := ⟨0x1A, 0x214, 0, 5, 0⟩
/-! KERF_ARG (R52). -/
def KERF_ARG.from_slot : Fld := ⟨0x1A, 0x218, 0, 9, 0⟩
def KERF_ARG.to_slot : Fld := ⟨0x1A, 0x218, 16, 9, 0⟩
def KERF_ARG.bank : Fld := ⟨0x1A, 0x218, 0, 11, 0⟩
def KERF_ARG.range : Fld := ⟨0x1A, 0x218, 0, 4, 0⟩
/-! KERF_QDONE (R52). -/
def KERF_QDONE.quires : Fld := ⟨0x1A, 0x21C, 0, 18, 0⟩
/-! KERF_DEMANDS (R52). -/
def KERF_DEMANDS.count : Fld := ⟨0x1A, 0x220, 0, 32, 0⟩
/-! KERF_STALL_MAX (R52). -/
def KERF_STALL_MAX.ns : Fld := ⟨0x1A, 0x224, 0, 32, 0⟩
/-! KERF_WAITS (R52). -/
def KERF_WAITS.count : Fld := ⟨0x1A, 0x228, 0, 32, 0⟩
/-! KERF_FULL (R52). -/
def KERF_FULL.count : Fld := ⟨0x1A, 0x22C, 0, 32, 0⟩
/-! PC_SCHED_CTL (R86). -/
def PC_SCHED_CTL.age_limit : Fld := ⟨0x40, 0x100, 0, 10, 0⟩
/-! PC_WQ_CTL (R86). -/
def PC_WQ_CTL.wq_high : Fld := ⟨0x40, 0x104, 0, 6, 0⟩
def PC_WQ_CTL.wq_low : Fld := ⟨0x40, 0x104, 8, 6, 0⟩
/-! PC_QUEUE_STAT (R86). -/
def PC_QUEUE_STAT.rd_occ : Fld := ⟨0x40, 0x108, 0, 7, 0⟩
def PC_QUEUE_STAT.wr_occ : Fld := ⟨0x40, 0x108, 8, 6, 0⟩
def PC_QUEUE_STAT.drain : Fld := ⟨0x40, 0x108, 16, 1, 0⟩
def PC_QUEUE_STAT.bank_max : Fld := ⟨0x40, 0x108, 20, 4, 0⟩
/-! PC_AGE_PROMO (R86). -/
def PC_AGE_PROMO.count : Fld := ⟨0x40, 0x10C, 0, 32, 0⟩
/-! PC_AGE_MAX (R86). -/
def PC_AGE_MAX.ns : Fld := ⟨0x40, 0x110, 0, 32, 0⟩
/-! PC_REF_CTL (R86). -/
def PC_REF_CTL.postpone_max : Fld := ⟨0x40, 0x120, 0, 4, 0⟩
def PC_REF_CTL.window_force : Fld := ⟨0x40, 0x120, 16, 2, 0⟩
/-! PC_REF_STAT (R86). -/
def PC_REF_STAT.window : Fld := ⟨0x40, 0x124, 0, 2, 0⟩
def PC_REF_STAT.balance_max : Fld := ⟨0x40, 0x124, 4, 4, 0⟩
def PC_REF_STAT.tj_used : Fld := ⟨0x40, 0x124, 16, 8, 0⟩
def PC_REF_STAT.estimate : Fld := ⟨0x40, 0x124, 24, 1, 0⟩
/-! PC_REF_FORCED (R86). -/
def PC_REF_FORCED.count : Fld := ⟨0x40, 0x128, 0, 32, 0⟩
/-! PC_REF_CNT (R86). -/
def PC_REF_CNT.count : Fld := ⟨0x40, 0x12C, 0, 32, 0⟩
/-! PC_RFM_CTL (R86). -/
def PC_RFM_CTL.threshold : Fld := ⟨0x40, 0x130, 0, 14, 0⟩
def PC_RFM_CTL.rfm_en : Fld := ⟨0x40, 0x130, 31, 1, 0⟩
/-! PC_RFM_CNT (R86). -/
def PC_RFM_CNT.count : Fld := ⟨0x40, 0x134, 0, 32, 0⟩
/-! PC_RFM_LAST (R86). -/
def PC_RFM_LAST.bank : Fld := ⟨0x40, 0x138, 0, 5, 0⟩
def PC_RFM_LAST.row : Fld := ⟨0x40, 0x138, 16, 15, 0⟩
def PC_RFM_LAST.valid : Fld := ⟨0x40, 0x138, 31, 1, 0⟩
/-! PC_SR_CTL (R86). -/
def PC_SR_CTL.sr_en : Fld := ⟨0x40, 0x140, 0, 1, 0⟩
def PC_SR_CTL.sr_idle_us : Fld := ⟨0x40, 0x140, 16, 16, 0⟩
def PC_SR_CTL.sr_now : Fld := ⟨0x40, 0x140, 1, 1, 0⟩
/-! PC_SR_STAT (R86). -/
def PC_SR_STAT.in_sr : Fld := ⟨0x40, 0x144, 0, 1, 0⟩
def PC_SR_STAT.entering : Fld := ⟨0x40, 0x144, 1, 1, 0⟩
def PC_SR_STAT.clk_gated : Fld := ⟨0x40, 0x144, 2, 1, 0⟩
def PC_SR_STAT.last_outcome : Fld := ⟨0x40, 0x144, 4, 1, 0⟩
/-! PC_SR_ENTRIES (R86). -/
def PC_SR_ENTRIES.count : Fld := ⟨0x40, 0x148, 0, 32, 0⟩
/-! PC_SR_ABORTS (R86). -/
def PC_SR_ABORTS.count : Fld := ⟨0x40, 0x14C, 0, 32, 0⟩
/-! PC_SR_WAKE_MAX (R86). -/
def PC_SR_WAKE_MAX.ns : Fld := ⟨0x40, 0x150, 0, 32, 0⟩
/-! SCRUB_CTL (R118). -/
def SCRUB_CTL.scrub_en : Fld := ⟨0x1E, 0x100, 0, 1, 0⟩
def SCRUB_CTL.period_h : Fld := ⟨0x1E, 0x100, 8, 7, 0⟩
def SCRUB_CTL.batch_kib : Fld := ⟨0x1E, 0x100, 16, 16, 0⟩
/-! SCRUB_STAT (R118). -/
def SCRUB_STAT.running : Fld := ⟨0x1E, 0x104, 0, 1, 0⟩
def SCRUB_STAT.behind : Fld := ⟨0x1E, 0x104, 1, 1, 0⟩
def SCRUB_STAT.overdue : Fld := ⟨0x1E, 0x104, 2, 1, 0⟩
def SCRUB_STAT.pc_last : Fld := ⟨0x1E, 0x104, 8, 6, 0⟩
/-! SCRUB_PASSES (R118). -/
def SCRUB_PASSES.count : Fld := ⟨0x1E, 0x108, 0, 32, 0⟩
/-! SCRUB_OLDEST_S (R118). -/
def SCRUB_OLDEST_S.s : Fld := ⟨0x1E, 0x10C, 0, 32, 0⟩
/-! SCRUB_CE (R118). -/
def SCRUB_CE.count : Fld := ⟨0x1E, 0x110, 0, 32, 0⟩
/-! SCRUB_UC (R118). -/
def SCRUB_UC.count : Fld := ⟨0x1E, 0x114, 0, 32, 0⟩
/-! SCRUB_POISON (R118). -/
def SCRUB_POISON.count : Fld := ⟨0x1E, 0x118, 0, 32, 0⟩
/-! SCRUB_SKIPPED (R118). -/
def SCRUB_SKIPPED.count : Fld := ⟨0x1E, 0x11C, 0, 32, 0⟩
/-! SCRUB_SELFCHK_FAIL (R118). -/
def SCRUB_SELFCHK_FAIL.count : Fld := ⟨0x1E, 0x120, 0, 32, 0⟩
/-! SCRUB_SELFCHK_SKIP (R118). -/
def SCRUB_SELFCHK_SKIP.count : Fld := ⟨0x1E, 0x124, 0, 32, 0⟩
/-! TIPIN_CTL (R120). -/
def TIPIN_CTL.auto_repair : Fld := ⟨0x1F, 0x100, 0, 1, 0⟩
def TIPIN_CTL.auto_retire : Fld := ⟨0x1F, 0x100, 1, 1, 0⟩
/-! TIPIN_IDX (R120). -/
def TIPIN_IDX.index : Fld := ⟨0x1F, 0x104, 0, 16, 0⟩
/-! TIPIN_ENTRY (R120). -/
def TIPIN_ENTRY.entry : Fld := ⟨0x1F, 0x108, 0, 32, 0⟩
/-! TIPIN_FIELD_USED (R120). -/
def TIPIN_FIELD_USED.count : Fld := ⟨0x1F, 0x10C, 0, 17, 0⟩
/-! TIPIN_FACTORY_USED (R120). -/
def TIPIN_FACTORY_USED.count : Fld := ⟨0x1F, 0x110, 0, 17, 0⟩
/-! TIPIN_BAD_SLOTS (R120). -/
def TIPIN_BAD_SLOTS.count : Fld := ⟨0x1F, 0x114, 0, 17, 0⟩
/-! TIPIN_REQ_LO (R120). -/
def TIPIN_REQ_LO.dpa : Fld := ⟨0x1F, 0x118, 0, 32, 0⟩
/-! TIPIN_REQ_HI (R120). -/
def TIPIN_REQ_HI.dpa : Fld := ⟨0x1F, 0x11C, 0, 5, 0⟩
/-! TIPIN_REQ_CMD (R120). -/
def TIPIN_REQ_CMD.repair : Fld := ⟨0x1F, 0x120, 0, 1, 0⟩
/-! TIPIN_REQ_STAT (R120). -/
def TIPIN_REQ_STAT.busy : Fld := ⟨0x1F, 0x124, 0, 1, 0⟩
def TIPIN_REQ_STAT.done : Fld := ⟨0x1F, 0x124, 1, 1, 0⟩
def TIPIN_REQ_STAT.refused : Fld := ⟨0x1F, 0x124, 2, 1, 0⟩
def TIPIN_REQ_STAT.reason : Fld := ⟨0x1F, 0x124, 4, 4, 0⟩
/-! TIPIN_SPARE_LO (R120). -/
def TIPIN_SPARE_LO.in_use : Fld := ⟨0x1F, 0x128, 0, 32, 0⟩
/-! TIPIN_SPARE_HI (R120). -/
def TIPIN_SPARE_HI.in_use : Fld := ⟨0x1F, 0x12C, 0, 32, 0⟩
/-! TIPIN_RETIRE_PEND (R120). -/
def TIPIN_RETIRE_PEND.count : Fld := ⟨0x1F, 0x130, 0, 7, 0⟩
/-! TIPIN_RECOVER_CTL (R120). -/
def TIPIN_RECOVER_CTL.wait_us : Fld := ⟨0x1F, 0x134, 0, 8, 0⟩
/-! TIPIN_RECOVER_OK (R120). -/
def TIPIN_RECOVER_OK.count : Fld := ⟨0x1F, 0x138, 0, 32, 0⟩
/-! TIPIN_RECOVER_FAIL (R120). -/
def TIPIN_RECOVER_FAIL.count : Fld := ⟨0x1F, 0x13C, 0, 32, 0⟩
/-! TIPIN_RECORD_SEQ_LO (R120). -/
def TIPIN_RECORD_SEQ_LO.seq : Fld := ⟨0x1F, 0x140, 0, 32, 0⟩
/-! TIPIN_RECORD_SEQ_HI (R120). -/
def TIPIN_RECORD_SEQ_HI.seq : Fld := ⟨0x1F, 0x144, 0, 32, 0⟩
/-! TIPIN_RECORD_STAT (R120). -/
def TIPIN_RECORD_STAT.pending : Fld := ⟨0x1F, 0x148, 0, 1, 0⟩
def TIPIN_RECORD_STAT.volatile : Fld := ⟨0x1F, 0x148, 1, 1, 0⟩
/-! PC_ECC_CTL (R122). -/
def PC_ECC_CTL.mode : Fld := ⟨0x40, 0x200, 0, 1, 0⟩
def PC_ECC_CTL.wb_en : Fld := ⟨0x40, 0x200, 8, 1, 0⟩
/-! PC_ECC_STAT (R122). -/
def PC_ECC_STAT.erased : Fld := ⟨0x40, 0x204, 0, 2, 0⟩
def PC_ECC_STAT.lane0 : Fld := ⟨0x40, 0x204, 8, 7, 0⟩
def PC_ECC_STAT.lane1 : Fld := ⟨0x40, 0x204, 16, 7, 0⟩
def PC_ECC_STAT.clear_refused : Fld := ⟨0x40, 0x204, 24, 1, 0⟩
/-! PC_CORR1 (R122). -/
def PC_CORR1.count : Fld := ⟨0x40, 0x208, 0, 32, 0⟩
/-! PC_CORR2 (R122). -/
def PC_CORR2.count : Fld := ⟨0x40, 0x20C, 0, 32, 0⟩
/-! PC_CORR3 (R122). -/
def PC_CORR3.count : Fld := ⟨0x40, 0x210, 0, 32, 0⟩
/-! PC_UC_LINES (R122). -/
def PC_UC_LINES.count : Fld := ⟨0x40, 0x214, 0, 32, 0⟩
/-! PC_POISON_READS (R122). -/
def PC_POISON_READS.count : Fld := ⟨0x40, 0x218, 0, 32, 0⟩
/-! PC_CHK_MISMATCH (R122). -/
def PC_CHK_MISMATCH.count : Fld := ⟨0x40, 0x21C, 0, 32, 0⟩
/-! PC_LANE_SEL (R122). -/
def PC_LANE_SEL.lane : Fld := ⟨0x40, 0x220, 0, 7, 0⟩
/-! PC_LANE_CNT (R122). -/
def PC_LANE_CNT.count : Fld := ⟨0x40, 0x224, 0, 32, 0⟩
/-! PC_REPAIR_STAT (R122). -/
def PC_REPAIR_STAT.spare_state : Fld := ⟨0x40, 0x228, 0, 2, 0⟩
def PC_REPAIR_STAT.retired_bank : Fld := ⟨0x40, 0x228, 8, 5, 0⟩
def PC_REPAIR_STAT.watch_occ : Fld := ⟨0x40, 0x228, 16, 7, 0⟩
/-! PC_WATCH_EVICT (R122). -/
def PC_WATCH_EVICT.count : Fld := ⟨0x40, 0x22C, 0, 32, 0⟩
/-! PC_ECC_CMD (R122). -/
def PC_ECC_CMD.clear : Fld := ⟨0x40, 0x230, 0, 2, 0⟩
def PC_ECC_CMD.key : Fld := ⟨0x40, 0x230, 16, 16, 0⟩
/-! FOLIO_CTL (R163). -/
def FOLIO_CTL.persist_en : Fld := ⟨0x1B, 0x100, 0, 1, 0⟩
def FOLIO_CTL.key_retain : Fld := ⟨0x1B, 0x100, 1, 1, 0⟩
def FOLIO_CTL.gpf_ckpt : Fld := ⟨0x1B, 0x100, 2, 1, 0⟩
def FOLIO_CTL.reclaim_en : Fld := ⟨0x1B, 0x100, 3, 1, 0⟩
/-! FOLIO_CMD (R163). -/
def FOLIO_CMD.ckpt : Fld := ⟨0x1B, 0x104, 0, 1, 0⟩
def FOLIO_CMD.ckpt_limited : Fld := ⟨0x1B, 0x104, 1, 1, 0⟩
def FOLIO_CMD.ckpt_cancel : Fld := ⟨0x1B, 0x104, 2, 1, 0⟩
/-! FOLIO_CKPT_LIMIT (R163). -/
def FOLIO_CKPT_LIMIT.quires : Fld := ⟨0x1B, 0x108, 0, 18, 0⟩
/-! FOLIO_STAT (R163). -/
def FOLIO_STAT.persist : Fld := ⟨0x1B, 0x10C, 0, 2, 0⟩
def FOLIO_STAT.activity : Fld := ⟨0x1B, 0x10C, 4, 3, 0⟩
def FOLIO_STAT.image_valid : Fld := ⟨0x1B, 0x10C, 8, 1, 0⟩
def FOLIO_STAT.map_lost : Fld := ⟨0x1B, 0x10C, 9, 1, 0⟩
def FOLIO_STAT.ckpt_queued : Fld := ⟨0x1B, 0x10C, 10, 1, 0⟩
def FOLIO_STAT.hold : Fld := ⟨0x1B, 0x10C, 11, 1, 0⟩
def FOLIO_STAT.colophon_time_valid : Fld := ⟨0x1B, 0x10C, 12, 1, 0⟩
/-! FOLIO_DIRTY (R163). -/
def FOLIO_DIRTY.count : Fld := ⟨0x1B, 0x110, 0, 18, 0⟩
/-! FOLIO_STAGED (R163). -/
def FOLIO_STAGED.count : Fld := ⟨0x1B, 0x114, 0, 18, 0⟩
/-! FOLIO_SPACE (R163). -/
def FOLIO_SPACE.quires : Fld := ⟨0x1B, 0x118, 0, 18, 0⟩
/-! FOLIO_BUDGET (R163). -/
def FOLIO_BUDGET.quires : Fld := ⟨0x1B, 0x11C, 0, 18, 0⟩
/-! FOLIO_BSN_LO (R163). -/
def FOLIO_BSN_LO.bsn : Fld := ⟨0x1B, 0x120, 0, 32, 0⟩
/-! FOLIO_BSN_HI (R163). -/
def FOLIO_BSN_HI.bsn : Fld := ⟨0x1B, 0x124, 0, 32, 0⟩
/-! FOLIO_LIFT_BSN_LO (R163). -/
def FOLIO_LIFT_BSN_LO.bsn : Fld := ⟨0x1B, 0x128, 0, 32, 0⟩
/-! FOLIO_LIFT_BSN_HI (R163). -/
def FOLIO_LIFT_BSN_HI.bsn : Fld := ⟨0x1B, 0x12C, 0, 32, 0⟩
/-! FOLIO_BSN_TOP_LO (R163). -/
def FOLIO_BSN_TOP_LO.bsn : Fld := ⟨0x1B, 0x130, 0, 32, 0⟩
/-! FOLIO_BSN_TOP_HI (R163). -/
def FOLIO_BSN_TOP_HI.bsn : Fld := ⟨0x1B, 0x134, 0, 32, 0⟩
/-! FOLIO_HOLDS (R163). -/
def FOLIO_HOLDS.count : Fld := ⟨0x1B, 0x138, 0, 32, 0⟩
/-! FOLIO_HOLD_MAX (R163). -/
def FOLIO_HOLD_MAX.us : Fld := ⟨0x1B, 0x13C, 0, 32, 0⟩
/-! FOLIO_LAST (R163). -/
def FOLIO_LAST.quires : Fld := ⟨0x1B, 0x140, 0, 18, 0⟩
def FOLIO_LAST.kind : Fld := ⟨0x1B, 0x140, 28, 4, 0⟩
/-! FOLIO_LAST_US (R163). -/
def FOLIO_LAST_US.us : Fld := ⟨0x1B, 0x144, 0, 32, 0⟩
/-! FOLIO_LIFT_LEFT (R163). -/
def FOLIO_LIFT_LEFT.quires : Fld := ⟨0x1B, 0x148, 0, 18, 0⟩
/-! FOLIO_LIFT_FAIL (R163). -/
def FOLIO_LIFT_FAIL.count : Fld := ⟨0x1B, 0x14C, 0, 32, 0⟩
/-! FOLIO_HEALTH (R163). -/
def FOLIO_HEALTH.healthy : Fld := ⟨0x1B, 0x150, 0, 13, 0⟩
def FOLIO_HEALTH.required : Fld := ⟨0x1B, 0x150, 16, 13, 0⟩
/-! FOLIO_RETIRED (R163). -/
def FOLIO_RETIRED.count : Fld := ⟨0x1B, 0x154, 0, 19, 0⟩
/-! FOLIO_WEAR (R163). -/
def FOLIO_WEAR.max : Fld := ⟨0x1B, 0x158, 0, 16, 0⟩
def FOLIO_WEAR.mean : Fld := ⟨0x1B, 0x158, 16, 16, 0⟩
/-! FOLIO_WEAR_IDX (R163). -/
def FOLIO_WEAR_IDX.block : Fld := ⟨0x1B, 0x15C, 0, 19, 0⟩
/-! FOLIO_WEAR_VAL (R163). -/
def FOLIO_WEAR_VAL.count : Fld := ⟨0x1B, 0x160, 0, 16, 0⟩
def FOLIO_WEAR_VAL.retired : Fld := ⟨0x1B, 0x160, 16, 1, 0⟩
def FOLIO_WEAR_VAL.system : Fld := ⟨0x1B, 0x160, 17, 1, 0⟩
/-! FOLIO_QUIRE_IDX (R163). -/
def FOLIO_QUIRE_IDX.quire : Fld := ⟨0x1B, 0x164, 0, 17, 0⟩
/-! FOLIO_QUIRE_ENTRY (R163). -/
def FOLIO_QUIRE_ENTRY.entry : Fld := ⟨0x1B, 0x168, 0, 32, 0⟩
/-! FOLIO_GPF (R163). -/
def FOLIO_GPF.count : Fld := ⟨0x1B, 0x16C, 0, 32, 0⟩
/-! FOLIO_CKPTS (R163). -/
def FOLIO_CKPTS.count : Fld := ⟨0x1B, 0x170, 0, 32, 0⟩
/-! BANK_CTL (R188). -/
def BANK_CTL.charge_en : Fld := ⟨0x1C, 0x100, 0, 1, 0⟩
def BANK_CTL.target : Fld := ⟨0x1C, 0x100, 8, 7, 0⟩
def BANK_CTL.i_max : Fld := ⟨0x1C, 0x100, 16, 5, 0⟩
def BANK_CTL.margin_pct : Fld := ⟨0x1C, 0x100, 24, 8, 0⟩
/-! BANK_MEAS_CTL (R188). -/
def BANK_MEAS_CTL.period_h : Fld := ⟨0x1C, 0x104, 0, 5, 0⟩
/-! BANK_CMD (R188). -/
def BANK_CMD.measure : Fld := ⟨0x1C, 0x108, 0, 1, 0⟩
def BANK_CMD.eeprom_reread : Fld := ⟨0x1C, 0x108, 1, 1, 0⟩
/-! BANK_STAT (R188). -/
def BANK_STAT.presence : Fld := ⟨0x1C, 0x10C, 0, 2, 0⟩
def BANK_STAT.charging : Fld := ⟨0x1C, 0x10C, 2, 1, 0⟩
def BANK_STAT.at_target : Fld := ⟨0x1C, 0x10C, 3, 1, 0⟩
def BANK_STAT.measuring : Fld := ⟨0x1C, 0x10C, 4, 1, 0⟩
def BANK_STAT.meas_valid : Fld := ⟨0x1C, 0x10C, 5, 1, 0⟩
def BANK_STAT.covered : Fld := ⟨0x1C, 0x10C, 6, 1, 0⟩
def BANK_STAT.worn : Fld := ⟨0x1C, 0x10C, 7, 1, 0⟩
def BANK_STAT.esr_high : Fld := ⟨0x1C, 0x10C, 8, 1, 0⟩
def BANK_STAT.foreign : Fld := ⟨0x1C, 0x10C, 9, 1, 0⟩
def BANK_STAT.level : Fld := ⟨0x1C, 0x10C, 12, 2, 0⟩
/-! BANK_VBANK (R188). -/
def BANK_VBANK.mv : Fld := ⟨0x1C, 0x110, 0, 16, 0⟩
/-! BANK_ICHG (R188). -/
def BANK_ICHG.ma : Fld := ⟨0x1C, 0x114, 0, 12, 0⟩
/-! BANK_CAP (R188). -/
def BANK_CAP.uf : Fld := ⟨0x1C, 0x118, 0, 22, 0⟩
/-! BANK_ESR (R188). -/
def BANK_ESR.esr : Fld := ⟨0x1C, 0x11C, 0, 16, 0⟩
/-! BANK_ENERGY (R188). -/
def BANK_ENERGY.mj : Fld := ⟨0x1C, 0x120, 0, 24, 0⟩
/-! BANK_VEND (R188). -/
def BANK_VEND.mv : Fld := ⟨0x1C, 0x124, 0, 16, 0⟩
/-! BANK_BUDGET_E (R188). -/
def BANK_BUDGET_E.quires : Fld := ⟨0x1C, 0x128, 0, 18, 0⟩
/-! BANK_MEAS_TIME_LO (R188). -/
def BANK_MEAS_TIME_LO.time : Fld := ⟨0x1C, 0x12C, 0, 32, 0⟩
/-! BANK_MEAS_TIME_HI (R188). -/
def BANK_MEAS_TIME_HI.time : Fld := ⟨0x1C, 0x130, 0, 32, 0⟩
/-! BANK_MEAS_CNT (R188). -/
def BANK_MEAS_CNT.count : Fld := ⟨0x1C, 0x134, 0, 32, 0⟩
/-! BANK_RATED (R188). -/
def BANK_RATED.cap_mf : Fld := ⟨0x1C, 0x138, 0, 16, 0⟩
def BANK_RATED.volt_dv : Fld := ⟨0x1C, 0x138, 16, 16, 0⟩
/-! BANK_MFG_DATE (R188). -/
def BANK_MFG_DATE.year : Fld := ⟨0x1C, 0x13C, 0, 16, 0⟩
def BANK_MFG_DATE.month : Fld := ⟨0x1C, 0x13C, 16, 8, 0⟩
def BANK_MFG_DATE.day : Fld := ⟨0x1C, 0x13C, 24, 8, 0⟩
/-! BANK_CYCLES (R188). -/
def BANK_CYCLES.count : Fld := ⟨0x1C, 0x140, 0, 32, 0⟩
/-! BANK_PF_CTL (R188). -/
def BANK_PF_CTL.vin_thresh : Fld := ⟨0x1C, 0x144, 0, 10, 0⟩
def BANK_PF_CTL.filter_us : Fld := ⟨0x1C, 0x144, 16, 9, 0⟩
def BANK_PF_CTL.pfail_en : Fld := ⟨0x1C, 0x144, 28, 1, 0⟩
def BANK_PF_CTL.bus48 : Fld := ⟨0x1C, 0x144, 29, 1, 0⟩
/-! BANK_PF_STAT (R188). -/
def BANK_PF_STAT.vin_low : Fld := ⟨0x1C, 0x148, 0, 1, 0⟩
def BANK_PF_STAT.pfail : Fld := ⟨0x1C, 0x148, 1, 1, 0⟩
def BANK_PF_STAT.bank_sw : Fld := ⟨0x1C, 0x148, 2, 1, 0⟩
def BANK_PF_STAT.input_open : Fld := ⟨0x1C, 0x148, 3, 1, 0⟩
/-! BANK_RIDETHRU (R188). -/
def BANK_RIDETHRU.count : Fld := ⟨0x1C, 0x14C, 0, 32, 0⟩
/-! BANK_PF_LAST (R188). -/
def BANK_PF_LAST.cause : Fld := ⟨0x1C, 0x150, 0, 2, 0⟩
def BANK_PF_LAST.false_alarm : Fld := ⟨0x1C, 0x150, 2, 1, 0⟩
/-! BANK_VIN (R188). -/
def BANK_VIN.mv : Fld := ⟨0x1C, 0x154, 0, 16, 0⟩
/-! BANK_LEVEL_CTL (R188). -/
def BANK_LEVEL_CTL.trickle_pct : Fld := ⟨0x1C, 0x158, 0, 7, 0⟩
def BANK_LEVEL_CTL.demote_pct : Fld := ⟨0x1C, 0x158, 8, 7, 0⟩
/-! CRYPT_CAP (R225). -/
def CRYPT_CAP.slots : Fld := ⟨0x19, 0x100, 0, 9, 0⟩
def CRYPT_CAP.range_keys : Fld := ⟨0x19, 0x100, 12, 4, 0⟩
def CRYPT_CAP.tag_bits : Fld := ⟨0x19, 0x100, 16, 8, 0⟩
/-! CRYPT_CARVE_CMD (R225). -/
def CRYPT_CARVE_CMD.activate : Fld := ⟨0x19, 0x104, 0, 1, 0⟩
def CRYPT_CARVE_CMD.deactivate : Fld := ⟨0x19, 0x104, 1, 1, 0⟩
/-! CRYPT_CARVE_STAT (R225). -/
def CRYPT_CARVE_STAT.active : Fld := ⟨0x19, 0x108, 0, 1, 0⟩
def CRYPT_CARVE_STAT.busy : Fld := ⟨0x19, 0x108, 1, 1, 0⟩
def CRYPT_CARVE_STAT.refused : Fld := ⟨0x19, 0x108, 2, 1, 0⟩
def CRYPT_CARVE_STAT.reason : Fld := ⟨0x19, 0x108, 4, 4, 0⟩
/-! CRYPT_SLOT_IDX (R225). -/
def CRYPT_SLOT_IDX.slot : Fld := ⟨0x19, 0x10C, 0, 9, 0⟩
/-! CRYPT_SLOT_STAT (R225). -/
def CRYPT_SLOT_STAT.loaded : Fld := ⟨0x19, 0x110, 0, 1, 0⟩
def CRYPT_SLOT_STAT.plaintext : Fld := ⟨0x19, 0x110, 1, 1, 0⟩
def CRYPT_SLOT_STAT.integrity : Fld := ⟨0x19, 0x110, 2, 1, 0⟩
def CRYPT_SLOT_STAT.pending : Fld := ⟨0x19, 0x110, 3, 1, 0⟩
def CRYPT_SLOT_STAT.rekey_from : Fld := ⟨0x19, 0x110, 4, 1, 0⟩
def CRYPT_SLOT_STAT.rekey_to : Fld := ⟨0x19, 0x110, 5, 1, 0⟩
def CRYPT_SLOT_STAT.src_valid : Fld := ⟨0x19, 0x110, 6, 1, 0⟩
def CRYPT_SLOT_STAT.generation : Fld := ⟨0x19, 0x110, 8, 8, 0⟩
def CRYPT_SLOT_STAT.rekey_src : Fld := ⟨0x19, 0x110, 16, 9, 0⟩
/-! CRYPT_SLOT_KCV (R225). -/
def CRYPT_SLOT_KCV.kcv : Fld := ⟨0x19, 0x114, 0, 32, 0⟩
/-! CRYPT_LOADED (R225). -/
def CRYPT_LOADED.count : Fld := ⟨0x19, 0x118, 0, 9, 0⟩
/-! CRYPT_RIGHTS_SEL (R225). -/
def CRYPT_RIGHTS_SEL.ld : Fld := ⟨0x19, 0x11C, 0, 4, 0⟩
def CRYPT_RIGHTS_SEL.word : Fld := ⟨0x19, 0x11C, 8, 3, 0⟩
/-! CRYPT_RIGHTS_VAL (R225). -/
def CRYPT_RIGHTS_VAL.rights : Fld := ⟨0x19, 0x120, 0, 32, 0⟩
/-! CRYPT_TCACHE_CTL (R225). -/
def CRYPT_TCACHE_CTL.flush : Fld := ⟨0x19, 0x124, 0, 1, 0⟩
/-! CRYPT_TCACHE_STAT (R225). -/
def CRYPT_TCACHE_STAT.dirty : Fld := ⟨0x19, 0x128, 0, 15, 0⟩
def CRYPT_TCACHE_STAT.flushing : Fld := ⟨0x19, 0x128, 16, 1, 0⟩
/-! CRYPT_TCACHE_HIT (R225). -/
def CRYPT_TCACHE_HIT.count : Fld := ⟨0x19, 0x12C, 0, 32, 0⟩
/-! CRYPT_TCACHE_MISS (R225). -/
def CRYPT_TCACHE_MISS.count : Fld := ⟨0x19, 0x130, 0, 32, 0⟩
/-! CRYPT_TAG_FAIL (R225). -/
def CRYPT_TAG_FAIL.count : Fld := ⟨0x19, 0x134, 0, 32, 0⟩
/-! CRYPT_ACC_REFUSED (R225). -/
def CRYPT_ACC_REFUSED.count : Fld := ⟨0x19, 0x138, 0, 32, 0⟩
/-! CRYPT_TAG_RECOVERED (R225). -/
def CRYPT_TAG_RECOVERED.count : Fld := ⟨0x19, 0x13C, 0, 32, 0⟩
/-! CRYPT_RANGE_BASE (R225). -/
def CRYPT_RANGE_BASE.base_quire : Fld := ⟨0x19, 0x140, 0, 17, 0⟩
/-! CRYPT_RANGE_END (R225). -/
def CRYPT_RANGE_END.end_quire : Fld := ⟨0x19, 0x144, 0, 18, 0⟩
/-! CRYPT_RANGE_CFG (R225). -/
def CRYPT_RANGE_CFG.enabled : Fld := ⟨0x19, 0x148, 0, 1, 0⟩
def CRYPT_RANGE_CFG.ld_mask : Fld := ⟨0x19, 0x148, 16, 16, 0⟩
/-! CRYPT_RANGE_REFUSED (R225). -/
def CRYPT_RANGE_REFUSED.count : Fld := ⟨0x19, 0x14C, 0, 32, 0⟩
/-! CRYPT_KEYCMD_LAST (R225). -/
def CRYPT_KEYCMD_LAST.opcode : Fld := ⟨0x19, 0x1C0, 0, 16, 0⟩
def CRYPT_KEYCMD_LAST.status : Fld := ⟨0x19, 0x1C0, 16, 8, 0⟩
def CRYPT_KEYCMD_LAST.fm : Fld := ⟨0x19, 0x1C0, 24, 1, 0⟩
/-! CRYPT_KEYCMD_CNT (R225). -/
def CRYPT_KEYCMD_CNT.count : Fld := ⟨0x19, 0x1C4, 0, 32, 0⟩
/-! GAUGE_CTL (R242). -/
def GAUGE_CTL.budget_en : Fld := ⟨0x18, 0x100, 0, 1, 0⟩
def GAUGE_CTL.guar_en : Fld := ⟨0x18, 0x100, 1, 1, 0⟩
def GAUGE_CTL.stage : Fld := ⟨0x18, 0x100, 2, 1, 0⟩
/-! GAUGE_WINDOW (R242). -/
def GAUGE_WINDOW.window_us : Fld := ⟨0x18, 0x104, 0, 10, 0⟩
/-! GAUGE_RESERVE (R242). -/
def GAUGE_RESERVE.bind_gbps : Fld := ⟨0x18, 0x108, 0, 8, 0⟩
def GAUGE_RESERVE.lift_gbps : Fld := ⟨0x18, 0x108, 8, 8, 0⟩
/-! GAUGE_ENG_MARK (R242). -/
def GAUGE_ENG_MARK.scrub : Fld := ⟨0x18, 0x10C, 0, 3, 0⟩
def GAUGE_ENG_MARK.clear : Fld := ⟨0x18, 0x10C, 3, 3, 0⟩
def GAUGE_ENG_MARK.lift : Fld := ⟨0x18, 0x10C, 6, 3, 0⟩
def GAUGE_ENG_MARK.rekey : Fld := ⟨0x18, 0x10C, 9, 3, 0⟩
def GAUGE_ENG_MARK.migrate : Fld := ⟨0x18, 0x10C, 12, 3, 0⟩
def GAUGE_ENG_MARK.resync : Fld := ⟨0x18, 0x10C, 15, 3, 0⟩
def GAUGE_ENG_MARK.bind : Fld := ⟨0x18, 0x10C, 18, 3, 0⟩
def GAUGE_ENG_MARK.dove : Fld := ⟨0x18, 0x10C, 21, 3, 0⟩
def GAUGE_ENG_MARK.mgmt : Fld := ⟨0x18, 0x10C, 24, 3, 0⟩
/-! GAUGE_STAT (R242). -/
def GAUGE_STAT.oversub : Fld := ⟨0x18, 0x110, 0, 1, 0⟩
def GAUGE_STAT.staged : Fld := ⟨0x18, 0x110, 1, 1, 0⟩
def GAUGE_STAT.short : Fld := ⟨0x18, 0x110, 2, 1, 0⟩
/-! GAUGE_RAW (R242). -/
def GAUGE_RAW.bw : Fld := ⟨0x18, 0x114, 0, 16, 0⟩
/-! GAUGE_PCAP (R242). -/
def GAUGE_PCAP.bw : Fld := ⟨0x18, 0x118, 0, 16, 0⟩
/-! GAUGE_DELIV (R242). -/
def GAUGE_DELIV.bw : Fld := ⟨0x18, 0x11C, 0, 16, 0⟩
/-! GAUGE_GUAR_SUM (R242). -/
def GAUGE_GUAR_SUM.bw : Fld := ⟨0x18, 0x120, 0, 24, 0⟩
/-! GAUGE_PAIR_IDX (R242). -/
def GAUGE_PAIR_IDX.pair : Fld := ⟨0x18, 0x124, 0, 8, 0⟩
/-! GAUGE_PAIR_CFG (R242). -/
def GAUGE_PAIR_CFG.map_class : Fld := ⟨0x18, 0x128, 0, 3, 0⟩
def GAUGE_PAIR_CFG.budget_en : Fld := ⟨0x18, 0x128, 8, 1, 0⟩
def GAUGE_PAIR_CFG.guar_en : Fld := ⟨0x18, 0x128, 9, 1, 0⟩
/-! GAUGE_PAIR_BUDGET (R242). -/
def GAUGE_PAIR_BUDGET.lines : Fld := ⟨0x18, 0x12C, 0, 26, 0⟩
/-! GAUGE_PAIR_GUAR (R242). -/
def GAUGE_PAIR_GUAR.lines : Fld := ⟨0x18, 0x130, 0, 26, 0⟩
/-! GAUGE_PAIR_USED (R242). -/
def GAUGE_PAIR_USED.lines : Fld := ⟨0x18, 0x134, 0, 26, 0⟩
/-! GAUGE_PAIR_MISS (R242). -/
def GAUGE_PAIR_MISS.count : Fld := ⟨0x18, 0x138, 0, 16, 0⟩
/-! GAUGE_PAIR_STAT (R242). -/
def GAUGE_PAIR_STAT.over : Fld := ⟨0x18, 0x13C, 0, 1, 0⟩
def GAUGE_PAIR_STAT.demoted : Fld := ⟨0x18, 0x13C, 1, 1, 0⟩
/-! GAUGE_MISS_MAP (R242). -/
def GAUGE_MISS_MAP.miss : Fld := ⟨0x18, 0x140, 0, 32, 0⟩
/-! GAUGE_OVER_MAP (R242). -/
def GAUGE_OVER_MAP.over : Fld := ⟨0x18, 0x160, 0, 32, 0⟩
/-! GAUGE_DEMOTE_MAP (R242). -/
def GAUGE_DEMOTE_MAP.master : Fld := ⟨0x18, 0x180, 0, 26, 0⟩
/-! GAUGE_WINDOWS (R242). -/
def GAUGE_WINDOWS.count : Fld := ⟨0x18, 0x184, 0, 32, 0⟩
/-! GAUGE_OVERSUB_CNT (R242). -/
def GAUGE_OVERSUB_CNT.count : Fld := ⟨0x18, 0x188, 0, 32, 0⟩
/-! CHISEL_CAP (R273). -/
def CHISEL_CAP.lanes : Fld := ⟨0x1D, 0x100, 0, 7, 0⟩
def CHISEL_CAP.max_jobs : Fld := ⟨0x1D, 0x100, 8, 5, 0⟩
def CHISEL_CAP.ops : Fld := ⟨0x1D, 0x100, 16, 8, 0⟩
def CHISEL_CAP.rings : Fld := ⟨0x1D, 0x100, 24, 5, 0⟩
/-! CHISEL_CTL (R273). -/
def CHISEL_CTL.chisel_en : Fld := ⟨0x1D, 0x104, 0, 1, 0⟩
/-! CHISEL_STAT (R273). -/
def CHISEL_STAT.jobs : Fld := ⟨0x1D, 0x108, 0, 5, 0⟩
def CHISEL_STAT.lanes_busy : Fld := ⟨0x1D, 0x108, 8, 7, 0⟩
/-! CHISEL_JOBS_DONE (R273). -/
def CHISEL_JOBS_DONE.count : Fld := ⟨0x1D, 0x10C, 0, 32, 0⟩
/-! CHISEL_JOBS_FAILED (R273). -/
def CHISEL_JOBS_FAILED.count : Fld := ⟨0x1D, 0x110, 0, 32, 0⟩
/-! CHISEL_LATE (R273). -/
def CHISEL_LATE.count : Fld := ⟨0x1D, 0x114, 0, 32, 0⟩
/-! CHISEL_BYTES_LO (R273). -/
def CHISEL_BYTES_LO.bytes : Fld := ⟨0x1D, 0x118, 0, 32, 0⟩
/-! CHISEL_BYTES_HI (R273). -/
def CHISEL_BYTES_HI.bytes : Fld := ⟨0x1D, 0x11C, 0, 32, 0⟩
/-! CHISEL_POISON_LINES (R273). -/
def CHISEL_POISON_LINES.count : Fld := ⟨0x1D, 0x120, 0, 32, 0⟩
/-! CHISEL_IRQ_DROPPED (R273). -/
def CHISEL_IRQ_DROPPED.count : Fld := ⟨0x1D, 0x124, 0, 32, 0⟩
/-! CHISEL_HOLD_NS (R273). -/
def CHISEL_HOLD_NS.ns : Fld := ⟨0x1D, 0x128, 0, 32, 0⟩
/-! CHISEL_RING_BASE_LO (R274). -/
def CHISEL_RING_BASE_LO.base : Fld := ⟨0x1D, 0x200, 12, 20, 0⟩
/-! CHISEL_RING_BASE_HI (R274). -/
def CHISEL_RING_BASE_HI.base : Fld := ⟨0x1D, 0x204, 0, 5, 0⟩
/-! CHISEL_RING_CTL (R274). -/
def CHISEL_RING_CTL.enable : Fld := ⟨0x1D, 0x208, 0, 1, 0⟩
def CHISEL_RING_CTL.size_log2 : Fld := ⟨0x1D, 0x208, 8, 5, 0⟩
def CHISEL_RING_CTL.keyid : Fld := ⟨0x1D, 0x208, 16, 8, 0⟩
def CHISEL_RING_CTL.msix_vec : Fld := ⟨0x1D, 0x208, 24, 5, 0⟩
/-! CHISEL_RING_TAIL (R274). -/
def CHISEL_RING_TAIL.tail : Fld := ⟨0x1D, 0x20C, 0, 16, 0⟩
/-! CHISEL_RING_HEAD (R274). -/
def CHISEL_RING_HEAD.head : Fld := ⟨0x1D, 0x210, 0, 16, 0⟩
/-! CHISEL_RING_STAT (R274). -/
def CHISEL_RING_STAT.in_flight : Fld := ⟨0x1D, 0x214, 0, 3, 0⟩
def CHISEL_RING_STAT.stalled : Fld := ⟨0x1D, 0x214, 8, 1, 0⟩
def CHISEL_RING_STAT.fence_wait : Fld := ⟨0x1D, 0x214, 9, 1, 0⟩
def CHISEL_RING_STAT.abort_nomatch : Fld := ⟨0x1D, 0x214, 10, 1, 0⟩
/-! CHISEL_RING_ABORT (R274). -/
def CHISEL_RING_ABORT.job_id : Fld := ⟨0x1D, 0x218, 0, 16, 0⟩
def CHISEL_RING_ABORT.gen : Fld := ⟨0x1D, 0x218, 16, 8, 0⟩
def CHISEL_RING_ABORT.go : Fld := ⟨0x1D, 0x218, 24, 1, 0⟩
def CHISEL_RING_ABORT.all : Fld := ⟨0x1D, 0x218, 25, 1, 0⟩
/-! CHISEL_RING_DONE (R274). -/
def CHISEL_RING_DONE.count : Fld := ⟨0x1D, 0x21C, 0, 32, 0⟩
/-! DOVE_CTL (R312). -/
def DOVE_CTL.dove_en : Fld := ⟨0x14, 0x100, 0, 1, 0⟩
def DOVE_CTL.auto_promote : Fld := ⟨0x14, 0x100, 1, 1, 0⟩
def DOVE_CTL.promote_delay_us : Fld := ⟨0x14, 0x100, 16, 16, 0⟩
/-! DOVE_CMD (R312). -/
def DOVE_CMD.join : Fld := ⟨0x14, 0x104, 0, 1, 0⟩
def DOVE_CMD.leave : Fld := ⟨0x14, 0x104, 1, 1, 0⟩
def DOVE_CMD.config : Fld := ⟨0x14, 0x104, 2, 1, 0⟩
def DOVE_CMD.unconfig : Fld := ⟨0x14, 0x104, 3, 1, 0⟩
def DOVE_CMD.promote : Fld := ⟨0x14, 0x104, 4, 1, 0⟩
def DOVE_CMD.demote : Fld := ⟨0x14, 0x104, 5, 1, 0⟩
def DOVE_CMD.accept : Fld := ⟨0x14, 0x104, 6, 1, 0⟩
def DOVE_CMD.range : Fld := ⟨0x14, 0x104, 8, 4, 0⟩
def DOVE_CMD.all : Fld := ⟨0x14, 0x104, 12, 1, 0⟩
/-! DOVE_STAT (R312). -/
def DOVE_STAT.link : Fld := ⟨0x14, 0x108, 0, 3, 0⟩
def DOVE_STAT.pair : Fld := ⟨0x14, 0x108, 4, 2, 0⟩
def DOVE_STAT.width : Fld := ⟨0x14, 0x108, 8, 1, 0⟩
def DOVE_STAT.speed : Fld := ⟨0x14, 0x108, 9, 1, 0⟩
def DOVE_STAT.area : Fld := ⟨0x14, 0x108, 10, 1, 0⟩
/-! DOVE_PARTNER (R312). -/
def DOVE_PARTNER.unit : Fld := ⟨0x14, 0x10C, 0, 14, 0⟩
def DOVE_PARTNER.valid : Fld := ⟨0x14, 0x10C, 16, 1, 0⟩
def DOVE_PARTNER.replaced : Fld := ⟨0x14, 0x10C, 17, 1, 0⟩
/-! DOVE_PARTNER_POOL (R312). -/
def DOVE_PARTNER_POOL.pool : Fld := ⟨0x14, 0x110, 0, 32, 0⟩
/-! DOVE_REFUSE (R312). -/
def DOVE_REFUSE.reason : Fld := ⟨0x14, 0x114, 0, 4, 0⟩
/-! DOVE_Q_OCC (R312). -/
def DOVE_Q_OCC.entries : Fld := ⟨0x14, 0x118, 0, 18, 0⟩
/-! DOVE_Q_MAX (R312). -/
def DOVE_Q_MAX.entries : Fld := ⟨0x14, 0x11C, 0, 18, 0⟩
/-! DOVE_OSN_LO (R312). -/
def DOVE_OSN_LO.osn : Fld := ⟨0x14, 0x120, 0, 32, 0⟩
/-! DOVE_OSN_HI (R312). -/
def DOVE_OSN_HI.osn : Fld := ⟨0x14, 0x124, 0, 32, 0⟩
/-! DOVE_ACKED_LO (R312). -/
def DOVE_ACKED_LO.osn : Fld := ⟨0x14, 0x128, 0, 32, 0⟩
/-! DOVE_ACKED_HI (R312). -/
def DOVE_ACKED_HI.osn : Fld := ⟨0x14, 0x12C, 0, 32, 0⟩
/-! DOVE_APPLIED_LO (R312). -/
def DOVE_APPLIED_LO.osn : Fld := ⟨0x14, 0x130, 0, 32, 0⟩
/-! DOVE_APPLIED_HI (R312). -/
def DOVE_APPLIED_HI.osn : Fld := ⟨0x14, 0x134, 0, 32, 0⟩
/-! DOVE_REPLAYS (R312). -/
def DOVE_REPLAYS.count : Fld := ⟨0x14, 0x138, 0, 32, 0⟩
/-! DOVE_FEC_CORR (R312). -/
def DOVE_FEC_CORR.count : Fld := ⟨0x14, 0x13C, 0, 32, 0⟩
/-! DOVE_CRC_FAIL (R312). -/
def DOVE_CRC_FAIL.count : Fld := ⟨0x14, 0x140, 0, 32, 0⟩
/-! DOVE_MAC_FAIL (R312). -/
def DOVE_MAC_FAIL.count : Fld := ⟨0x14, 0x144, 0, 32, 0⟩
/-! DOVE_HB_MISS (R312). -/
def DOVE_HB_MISS.count : Fld := ⟨0x14, 0x148, 0, 32, 0⟩
/-! DOVE_LOSSES (R312). -/
def DOVE_LOSSES.count : Fld := ⟨0x14, 0x14C, 0, 32, 0⟩
/-! DOVE_WRITE_REFUSED (R312). -/
def DOVE_WRITE_REFUSED.count : Fld := ⟨0x14, 0x150, 0, 32, 0⟩
/-! DOVE_WAIT_MAX (R312). -/
def DOVE_WAIT_MAX.ns : Fld := ⟨0x14, 0x154, 0, 32, 0⟩
/-! DOVE_LOSS_TIME_LO (R312). -/
def DOVE_LOSS_TIME_LO.time : Fld := ⟨0x14, 0x158, 0, 32, 0⟩
/-! DOVE_LOSS_TIME_HI (R312). -/
def DOVE_LOSS_TIME_HI.time : Fld := ⟨0x14, 0x15C, 0, 32, 0⟩
/-! DOVE_RANGE_BASE (R313). -/
def DOVE_RANGE_BASE.base_quire : Fld := ⟨0x14, 0x200, 0, 17, 0⟩
/-! DOVE_RANGE_END (R313). -/
def DOVE_RANGE_END.end_quire : Fld := ⟨0x14, 0x204, 0, 18, 0⟩
/-! DOVE_RANGE_STAT (R313). -/
def DOVE_RANGE_STAT.state : Fld := ⟨0x14, 0x208, 0, 3, 0⟩
def DOVE_RANGE_STAT.primary : Fld := ⟨0x14, 0x208, 4, 1, 0⟩
def DOVE_RANGE_STAT.refused : Fld := ⟨0x14, 0x208, 5, 1, 0⟩
/-! DOVE_RANGE_MARKED (R313). -/
def DOVE_RANGE_MARKED.quires : Fld := ⟨0x14, 0x20C, 0, 18, 0⟩
/-! PORT_CAP (R356). -/
def PORT_CAP.ld_max : Fld := ⟨0x10, 0x100, 0, 3, 0⟩
def PORT_CAP.hdmdb : Fld := ⟨0x10, 0x100, 3, 1, 0⟩
def PORT_CAP.tsp : Fld := ⟨0x10, 0x100, 4, 1, 0⟩
def PORT_CAP.rate_max : Fld := ⟨0x10, 0x100, 5, 2, 0⟩
def PORT_CAP.decoders : Fld := ⟨0x10, 0x100, 8, 8, 0⟩
/-! PORT_CTL (R356). -/
def PORT_CTL.port_en : Fld := ⟨0x10, 0x104, 0, 1, 0⟩
def PORT_CTL.hdmdb_en : Fld := ⟨0x10, 0x104, 1, 1, 0⟩
def PORT_CTL.tsp_en : Fld := ⟨0x10, 0x104, 2, 1, 0⟩
def PORT_CTL.rate_cap : Fld := ⟨0x10, 0x104, 4, 2, 0⟩
def PORT_CTL.x4_only : Fld := ⟨0x10, 0x104, 6, 1, 0⟩
/-! PORT_LINK_STAT (R356). -/
def PORT_LINK_STAT.mode : Fld := ⟨0x10, 0x108, 0, 2, 0⟩
def PORT_LINK_STAT.rate : Fld := ⟨0x10, 0x108, 4, 2, 0⟩
def PORT_LINK_STAT.width : Fld := ⟨0x10, 0x108, 8, 1, 0⟩
def PORT_LINK_STAT.mld : Fld := ⟨0x10, 0x108, 9, 1, 0⟩
def PORT_LINK_STAT.lds_bound : Fld := ⟨0x10, 0x108, 12, 3, 0⟩
def PORT_LINK_STAT.mem_active : Fld := ⟨0x10, 0x108, 16, 1, 0⟩
def PORT_LINK_STAT.epoch : Fld := ⟨0x10, 0x108, 20, 4, 0⟩
/-! PORT_RESET_STAT (R356). -/
def PORT_RESET_STAT.last_cause : Fld := ⟨0x10, 0x10C, 0, 3, 0⟩
def PORT_RESET_STAT.last_ld : Fld := ⟨0x10, 0x10C, 4, 2, 0⟩
/-! PORT_RESETS (R356). -/
def PORT_RESETS.count : Fld := ⟨0x10, 0x110, 0, 32, 0⟩
/-! PORT_DROPPED_CPL (R356). -/
def PORT_DROPPED_CPL.count : Fld := ⟨0x10, 0x114, 0, 32, 0⟩
/-! PORT_DISCARD_FLITS (R356). -/
def PORT_DISCARD_FLITS.count : Fld := ⟨0x10, 0x118, 0, 32, 0⟩
/-! PORT_REFUSED (R356). -/
def PORT_REFUSED.count : Fld := ⟨0x10, 0x11C, 0, 32, 0⟩
/-! PORT_IDE_STAT (R356). -/
def PORT_IDE_STAT.io_link : Fld := ⟨0x10, 0x120, 0, 1, 0⟩
def PORT_IDE_STAT.io_sel : Fld := ⟨0x10, 0x120, 1, 2, 0⟩
def PORT_IDE_STAT.cachemem : Fld := ⟨0x10, 0x120, 3, 1, 0⟩
def PORT_IDE_STAT.skid : Fld := ⟨0x10, 0x120, 4, 1, 0⟩
def PORT_IDE_STAT.key_set : Fld := ⟨0x10, 0x120, 5, 1, 0⟩
def PORT_IDE_STAT.insecure : Fld := ⟨0x10, 0x120, 6, 1, 0⟩
/-! PORT_IDE_ERR (R356). -/
def PORT_IDE_ERR.count : Fld := ⟨0x10, 0x124, 0, 32, 0⟩
/-! PORT_BI_CTL (R356). -/
def PORT_BI_CTL.timeout_us : Fld := ⟨0x10, 0x128, 0, 10, 0⟩
/-! PORT_BI_STAT (R356). -/
def PORT_BI_STAT.sf_occ : Fld := ⟨0x10, 0x12C, 0, 19, 0⟩
/-! PORT_BI_SENT (R356). -/
def PORT_BI_SENT.count : Fld := ⟨0x10, 0x130, 0, 32, 0⟩
/-! PORT_BI_TIMEOUT (R356). -/
def PORT_BI_TIMEOUT.count : Fld := ⟨0x10, 0x134, 0, 32, 0⟩
/-! PORT_BI_MAX_NS (R356). -/
def PORT_BI_MAX_NS.ns : Fld := ⟨0x10, 0x138, 0, 32, 0⟩
/-! PORT_DENIED (R356). -/
def PORT_DENIED.count : Fld := ⟨0x10, 0x13C, 0, 32, 0⟩
/-! PORT_TS_IGNORED (R356). -/
def PORT_TS_IGNORED.count : Fld := ⟨0x10, 0x140, 0, 32, 0⟩
/-! PORT_LD_CFG (R357). -/
def PORT_LD_CFG.admin : Fld := ⟨0x10, 0x200, 0, 1, 0⟩
def PORT_LD_CFG.ts_master : Fld := ⟨0x10, 0x200, 1, 1, 0⟩
def PORT_LD_CFG.page_vec : Fld := ⟨0x10, 0x200, 4, 5, 0⟩
def PORT_LD_CFG.bound : Fld := ⟨0x10, 0x200, 9, 1, 0⟩
/-! PORT_LD_STAT (R357). -/
def PORT_LD_STAT.dec_committed : Fld := ⟨0x10, 0x204, 0, 4, 0⟩
def PORT_LD_STAT.hdmdb : Fld := ⟨0x10, 0x204, 4, 1, 0⟩
def PORT_LD_STAT.tsp_active : Fld := ⟨0x10, 0x204, 5, 1, 0⟩
/-! PORT_LD_EVT_OCC (R357). -/
def PORT_LD_EVT_OCC.info : Fld := ⟨0x10, 0x208, 0, 7, 0⟩
def PORT_LD_EVT_OCC.warn : Fld := ⟨0x10, 0x208, 8, 7, 0⟩
def PORT_LD_EVT_OCC.fail : Fld := ⟨0x10, 0x208, 16, 7, 0⟩
def PORT_LD_EVT_OCC.fatal : Fld := ⟨0x10, 0x208, 24, 7, 0⟩
/-! PORT_LD_REFUSED (R357). -/
def PORT_LD_REFUSED.count : Fld := ⟨0x10, 0x20C, 0, 32, 0⟩
/-! PORT_LD_ALLOC_BASE (R357). -/
def PORT_LD_ALLOC_BASE.base_quire : Fld := ⟨0x10, 0x210, 0, 17, 0⟩
/-! PORT_LD_ALLOC_END (R357). -/
def PORT_LD_ALLOC_END.end_quire : Fld := ⟨0x10, 0x214, 0, 18, 0⟩
/-! PHY_GRP_SEL (R385). -/
def PHY_GRP_SEL.dove : Fld := ⟨0x10, 0x400, 0, 1, 0⟩
/-! PHY_CTL (R385). -/
def PHY_CTL.polarity_auto : Fld := ⟨0x10, 0x404, 0, 1, 0⟩
def PHY_CTL.reversal_en : Fld := ⟨0x10, 0x404, 1, 1, 0⟩
def PHY_CTL.precode_req : Fld := ⟨0x10, 0x404, 2, 1, 0⟩
def PHY_CTL.eq_bypass_en : Fld := ⟨0x10, 0x404, 3, 1, 0⟩
def PHY_CTL.no_eq_en : Fld := ⟨0x10, 0x404, 4, 1, 0⟩
def PHY_CTL.lane_off_en : Fld := ⟨0x10, 0x404, 5, 1, 0⟩
def PHY_CTL.l0s_adv : Fld := ⟨0x10, 0x404, 6, 1, 0⟩
def PHY_CTL.lane_disable : Fld := ⟨0x10, 0x404, 8, 8, 0⟩
/-! PHY_STAT (R385). -/
def PHY_STAT.ltssm : Fld := ⟨0x10, 0x408, 0, 5, 0⟩
def PHY_STAT.reversed : Fld := ⟨0x10, 0x408, 8, 1, 0⟩
def PHY_STAT.ssc_seen : Fld := ⟨0x10, 0x408, 11, 1, 0⟩
def PHY_STAT.refclk_ok : Fld := ⟨0x10, 0x408, 12, 1, 0⟩
def PHY_STAT.pm_state : Fld := ⟨0x10, 0x408, 16, 3, 0⟩
/-! PHY_PM_CTL (R385). -/
def PHY_PM_CTL.l1_idle_us : Fld := ⟨0x10, 0x40C, 0, 8, 0⟩
def PHY_PM_CTL.l0s_idle : Fld := ⟨0x10, 0x40C, 8, 8, 0⟩
def PHY_PM_CTL.l1_req_en : Fld := ⟨0x10, 0x40C, 16, 1, 0⟩
/-! PHY_PM_STAT (R385). -/
def PHY_PM_STAT.last_outcome : Fld := ⟨0x10, 0x410, 0, 1, 0⟩
def PHY_PM_STAT.nak : Fld := ⟨0x10, 0x410, 1, 1, 0⟩
/-! PHY_L1_ENTRIES (R385). -/
def PHY_L1_ENTRIES.count : Fld := ⟨0x10, 0x414, 0, 32, 0⟩
/-! PHY_L1_ABORTS (R385). -/
def PHY_L1_ABORTS.count : Fld := ⟨0x10, 0x418, 0, 32, 0⟩
/-! PHY_EXIT_MAX_NS (R385). -/
def PHY_EXIT_MAX_NS.ns : Fld := ⟨0x10, 0x41C, 0, 32, 0⟩
/-! PHY_REFCLK (R385). -/
def PHY_REFCLK.offset_ppm : Fld := ⟨0x10, 0x420, 0, 16, 0⟩
/-! PHY_RECOVERY (R385). -/
def PHY_RECOVERY.count : Fld := ⟨0x10, 0x424, 0, 32, 0⟩
/-! PHY_ALIGN_LOSS (R385). -/
def PHY_ALIGN_LOSS.count : Fld := ⟨0x10, 0x428, 0, 32, 0⟩
/-! PHY_FEC_CORR (R385). -/
def PHY_FEC_CORR.count : Fld := ⟨0x10, 0x42C, 0, 32, 0⟩
/-! PHY_FEC_UNCORR (R385). -/
def PHY_FEC_UNCORR.count : Fld := ⟨0x10, 0x430, 0, 32, 0⟩
/-! PHY_LANE_STAT (R386). -/
def PHY_LANE_STAT.logical : Fld := ⟨0x10, 0x500, 0, 3, 0⟩
def PHY_LANE_STAT.inverted : Fld := ⟨0x10, 0x500, 3, 1, 0⟩
def PHY_LANE_STAT.active : Fld := ⟨0x10, 0x500, 4, 1, 0⟩
def PHY_LANE_STAT.failed : Fld := ⟨0x10, 0x500, 5, 1, 0⟩
def PHY_LANE_STAT.precode_tx : Fld := ⟨0x10, 0x500, 6, 1, 0⟩
def PHY_LANE_STAT.precode_rx : Fld := ⟨0x10, 0x500, 7, 1, 0⟩
def PHY_LANE_STAT.state : Fld := ⟨0x10, 0x500, 8, 2, 0⟩
/-! PHY_LANE_TXEQ (R386). -/
def PHY_LANE_TXEQ.preset : Fld := ⟨0x10, 0x504, 0, 4, 0⟩
def PHY_LANE_TXEQ.pre2 : Fld := ⟨0x10, 0x504, 4, 4, 0⟩
def PHY_LANE_TXEQ.pre1 : Fld := ⟨0x10, 0x504, 8, 5, 0⟩
def PHY_LANE_TXEQ.post : Fld := ⟨0x10, 0x504, 16, 5, 0⟩
def PHY_LANE_TXEQ.main : Fld := ⟨0x10, 0x504, 24, 6, 0⟩
/-! PHY_LANE_RXEQ (R386). -/
def PHY_LANE_RXEQ.ctle_dc : Fld := ⟨0x10, 0x508, 0, 4, 0⟩
def PHY_LANE_RXEQ.peaking : Fld := ⟨0x10, 0x508, 4, 5, 0⟩
def PHY_LANE_RXEQ.dfe1 : Fld := ⟨0x10, 0x508, 16, 8, 0⟩
/-! PHY_LANE_ERR (R386). -/
def PHY_LANE_ERR.count : Fld := ⟨0x10, 0x50C, 0, 32, 0⟩
/-! SPLINE_CAP (R410). -/
def SPLINE_CAP.routers : Fld := ⟨0x09, 0x100, 0, 5, 0⟩
def SPLINE_CAP.classes : Fld := ⟨0x09, 0x100, 5, 3, 0⟩
def SPLINE_CAP.planes : Fld := ⟨0x09, 0x100, 8, 2, 0⟩
def SPLINE_CAP.max_hops : Fld := ⟨0x09, 0x100, 12, 4, 0⟩
def SPLINE_CAP.word_bits : Fld := ⟨0x09, 0x100, 16, 9, 0⟩
/-! SPLINE_CTL (R410). -/
def SPLINE_CTL.retry_en : Fld := ⟨0x09, 0x104, 0, 1, 0⟩
/-! SPLINE_HOP_LIMIT (R410). -/
def SPLINE_HOP_LIMIT.ps : Fld := ⟨0x09, 0x108, 0, 10, 0⟩
/-! SPLINE_HOP_PS (R410). -/
def SPLINE_HOP_PS.ps : Fld := ⟨0x09, 0x10C, 0, 10, 0⟩
/-! SPLINE_HOP_MAX_PS (R410). -/
def SPLINE_HOP_MAX_PS.ps : Fld := ⟨0x09, 0x110, 0, 10, 0⟩
/-! SPLINE_WDOG_CTL (R410). -/
def SPLINE_WDOG_CTL.sink_us : Fld := ⟨0x09, 0x114, 0, 10, 0⟩
def SPLINE_WDOG_CTL.req_us : Fld := ⟨0x09, 0x114, 16, 16, 0⟩
/-! SPLINE_CORR (R410). -/
def SPLINE_CORR.count : Fld := ⟨0x09, 0x118, 0, 32, 0⟩
/-! SPLINE_RETRY (R410). -/
def SPLINE_RETRY.count : Fld := ⟨0x09, 0x11C, 0, 32, 0⟩
/-! SPLINE_MUTEX_SLOW (R410). -/
def SPLINE_MUTEX_SLOW.count : Fld := ⟨0x09, 0x120, 0, 32, 0⟩
/-! SPLINE_RESYNC (R410). -/
def SPLINE_RESYNC.count : Fld := ⟨0x09, 0x124, 0, 32, 0⟩
/-! SPLINE_RESYNC_MAX_NS (R410). -/
def SPLINE_RESYNC_MAX_NS.ns : Fld := ⟨0x09, 0x128, 0, 32, 0⟩
/-! SPLINE_XING_SEL (R410). -/
def SPLINE_XING_SEL.index : Fld := ⟨0x09, 0x12C, 0, 7, 0⟩
/-! SPLINE_XING_STAT (R410). -/
def SPLINE_XING_STAT.state : Fld := ⟨0x09, 0x130, 0, 2, 0⟩
def SPLINE_XING_STAT.far_clock : Fld := ⟨0x09, 0x130, 2, 1, 0⟩
def SPLINE_XING_STAT.occ_in : Fld := ⟨0x09, 0x130, 8, 7, 0⟩
def SPLINE_XING_STAT.occ_out : Fld := ⟨0x09, 0x130, 16, 7, 0⟩
/-! SPLINE_XING_DROP (R410). -/
def SPLINE_XING_DROP.count : Fld := ⟨0x09, 0x134, 0, 32, 0⟩
/-! SPLINE_TOGGLE_OVR (R410). -/
def SPLINE_TOGGLE_OVR.count : Fld := ⟨0x09, 0x138, 0, 32, 0⟩
/-! CLK_CTL (R436). -/
def CLK_CTL.auto_return : Fld := ⟨0x02, 0x100, 0, 1, 0⟩
def CLK_CTL.mon_en : Fld := ⟨0x02, 0x100, 1, 1, 0⟩
/-! CLK_SRC_STAT (R436). -/
def CLK_SRC_STAT.ref_ok : Fld := ⟨0x02, 0x104, 0, 1, 0⟩
def CLK_SRC_STAT.ho_ok : Fld := ⟨0x02, 0x104, 1, 1, 0⟩
def CLK_SRC_STAT.ao_ok : Fld := ⟨0x02, 0x104, 2, 1, 0⟩
def CLK_SRC_STAT.holdover : Fld := ⟨0x02, 0x104, 3, 1, 0⟩
def CLK_SRC_STAT.ref_lost : Fld := ⟨0x02, 0x104, 8, 1, 0⟩
/-! CLK_REF_KHZ (R436). -/
def CLK_REF_KHZ.khz : Fld := ⟨0x02, 0x108, 0, 17, 0⟩
/-! CLK_HO_KHZ (R436). -/
def CLK_HO_KHZ.khz : Fld := ⟨0x02, 0x10C, 0, 19, 0⟩
/-! CLK_AO_PPM (R436). -/
def CLK_AO_PPM.ppm : Fld := ⟨0x02, 0x110, 0, 16, 0⟩
/-! CLK_PLL_LOCK (R436). -/
def CLK_PLL_LOCK.layer : Fld := ⟨0x02, 0x114, 0, 16, 0⟩
def CLK_PLL_LOCK.system : Fld := ⟨0x02, 0x114, 16, 1, 0⟩
/-! CLK_DOM_SEL (R436). -/
def CLK_DOM_SEL.domain : Fld := ⟨0x02, 0x118, 0, 5, 0⟩
/-! CLK_DOM_CTL (R436). -/
def CLK_DOM_CTL.src : Fld := ⟨0x02, 0x11C, 0, 1, 0⟩
/-! CLK_DOM_STAT (R436). -/
def CLK_DOM_STAT.src : Fld := ⟨0x02, 0x120, 0, 1, 0⟩
def CLK_DOM_STAT.pll_ready : Fld := ⟨0x02, 0x120, 1, 1, 0⟩
def CLK_DOM_STAT.ho_ready : Fld := ⟨0x02, 0x120, 2, 1, 0⟩
def CLK_DOM_STAT.switching : Fld := ⟨0x02, 0x120, 3, 1, 0⟩
def CLK_DOM_STAT.failover : Fld := ⟨0x02, 0x120, 4, 1, 0⟩
def CLK_DOM_STAT.refused : Fld := ⟨0x02, 0x120, 8, 1, 0⟩
def CLK_DOM_STAT.reason : Fld := ⟨0x02, 0x120, 12, 4, 0⟩
/-! CLK_LOSS_CNT (R436). -/
def CLK_LOSS_CNT.count : Fld := ⟨0x02, 0x124, 0, 32, 0⟩
/-! CLK_LOSS_TIME_LO (R436). -/
def CLK_LOSS_TIME_LO.time : Fld := ⟨0x02, 0x128, 0, 32, 0⟩
/-! CLK_LOSS_TIME_HI (R436). -/
def CLK_LOSS_TIME_HI.time : Fld := ⟨0x02, 0x12C, 0, 32, 0⟩
/-! CLK_SWITCH_MAX_NS (R436). -/
def CLK_SWITCH_MAX_NS.ns : Fld := ⟨0x02, 0x130, 0, 32, 0⟩
/-! PWR_CTL (R438). -/
def PWR_CTL.idle_en : Fld := ⟨0x03, 0x100, 0, 1, 0⟩
/-! PWR_DOM_SEL (R438). -/
def PWR_DOM_SEL.domain : Fld := ⟨0x03, 0x104, 0, 7, 0⟩
/-! PWR_DOM_CTL (R438). -/
def PWR_DOM_CTL.sleep_idle : Fld := ⟨0x03, 0x108, 0, 16, 0⟩
def PWR_DOM_CTL.deep_idle_us : Fld := ⟨0x03, 0x108, 16, 16, 0⟩
/-! PWR_DOM_STAT (R438). -/
def PWR_DOM_STAT.state : Fld := ⟨0x03, 0x10C, 0, 3, 0⟩
def PWR_DOM_STAT.clamped : Fld := ⟨0x03, 0x10C, 4, 1, 0⟩
def PWR_DOM_STAT.rail_good : Fld := ⟨0x03, 0x10C, 5, 1, 0⟩
def PWR_DOM_STAT.last_outcome : Fld := ⟨0x03, 0x10C, 8, 1, 0⟩
/-! PWR_DOM_WAKES (R438). -/
def PWR_DOM_WAKES.count : Fld := ⟨0x03, 0x110, 0, 32, 0⟩
/-! PWR_DOM_ABORTS (R438). -/
def PWR_DOM_ABORTS.count : Fld := ⟨0x03, 0x114, 0, 32, 0⟩
/-! PWR_WAKE_MAX_NS (R438). -/
def PWR_WAKE_MAX_NS.ns : Fld := ⟨0x03, 0x118, 0, 32, 0⟩
/-! PWR_SLEEP_MAP0 (R438). -/
def PWR_SLEEP_MAP0.asleep : Fld := ⟨0x03, 0x11C, 0, 32, 0⟩
/-! PWR_SLEEP_MAP1 (R438). -/
def PWR_SLEEP_MAP1.asleep : Fld := ⟨0x03, 0x120, 0, 32, 0⟩
/-! PWR_SLEEP_MAP2 (R438). -/
def PWR_SLEEP_MAP2.asleep : Fld := ⟨0x03, 0x124, 0, 11, 0⟩
/-! TB_CTL (R440). -/
def TB_CTL.deep_carry_en : Fld := ⟨0x01, 0x100, 0, 1, 0⟩
/-! TB_STAT (R440). -/
def TB_STAT.valid : Fld := ⟨0x01, 0x104, 0, 1, 0⟩
def TB_STAT.source : Fld := ⟨0x01, 0x104, 1, 2, 0⟩
def TB_STAT.skew : Fld := ⟨0x01, 0x104, 3, 1, 0⟩
def TB_STAT.stepped_back : Fld := ⟨0x01, 0x104, 4, 1, 0⟩
/-! TB_NOW_LO (R440). -/
def TB_NOW_LO.time : Fld := ⟨0x01, 0x108, 0, 32, 0⟩
/-! TB_NOW_HI (R440). -/
def TB_NOW_HI.time : Fld := ⟨0x01, 0x10C, 0, 32, 0⟩
/-! TB_SKEW_NS (R440). -/
def TB_SKEW_NS.ns : Fld := ⟨0x01, 0x110, 0, 32, 0⟩
/-! TB_RATE_TRIM (R440). -/
def TB_RATE_TRIM.ppm : Fld := ⟨0x01, 0x114, 0, 16, 0⟩
/-! TB_CARRIES (R440). -/
def TB_CARRIES.count : Fld := ⟨0x01, 0x118, 0, 32, 0⟩
/-! TB_LAST_CARRY_MS (R440). -/
def TB_LAST_CARRY_MS.ms : Fld := ⟨0x01, 0x11C, 0, 32, 0⟩
/-! TB_SETS (R440). -/
def TB_SETS.count : Fld := ⟨0x01, 0x120, 0, 32, 0⟩
/-! SYS_ID (R460). -/
def SYS_ID.variant : Fld := ⟨0x00, 0x100, 0, 8, 0⟩
def SYS_ID.stepping : Fld := ⟨0x00, 0x100, 8, 4, 0⟩
def SYS_ID.product : Fld := ⟨0x00, 0x100, 16, 16, 0⟩
/-! SYS_UNIT (R460). -/
def SYS_UNIT.unit : Fld := ⟨0x00, 0x104, 0, 14, 0⟩
def SYS_UNIT.valid : Fld := ⟨0x00, 0x104, 15, 1, 0⟩
/-! SYS_POOL (R460). -/
def SYS_POOL.pool : Fld := ⟨0x00, 0x108, 0, 32, 0⟩
/-! SYS_LC (R460). -/
def SYS_LC.state : Fld := ⟨0x00, 0x10C, 0, 3, 0⟩
def SYS_LC.next : Fld := ⟨0x00, 0x10C, 4, 3, 0⟩
def SYS_LC.fs_left : Fld := ⟨0x00, 0x10C, 8, 4, 0⟩
def SYS_LC.restrictive : Fld := ⟨0x00, 0x10C, 16, 1, 0⟩
def SYS_LC.otp_marginal : Fld := ⟨0x00, 0x10C, 17, 1, 0⟩
/-! SYS_LC_CMD (R460). -/
def SYS_LC_CMD.target : Fld := ⟨0x00, 0x110, 0, 3, 0⟩
def SYS_LC_CMD.key : Fld := ⟨0x00, 0x110, 16, 16, 0⟩
/-! SYS_LC_STAT (R460). -/
def SYS_LC_STAT.busy : Fld := ⟨0x00, 0x114, 0, 1, 0⟩
def SYS_LC_STAT.refused : Fld := ⟨0x00, 0x114, 1, 1, 0⟩
def SYS_LC_STAT.reason : Fld := ⟨0x00, 0x114, 4, 4, 0⟩
/-! SYS_START_STAT (R460). -/
def SYS_START_STAT.stage : Fld := ⟨0x00, 0x118, 0, 4, 0⟩
def SYS_START_STAT.mem_active : Fld := ⟨0x00, 0x118, 4, 1, 0⟩
def SYS_START_STAT.safe : Fld := ⟨0x00, 0x118, 5, 1, 0⟩
def SYS_START_STAT.path : Fld := ⟨0x00, 0x118, 8, 2, 0⟩
def SYS_START_STAT.full_checks : Fld := ⟨0x00, 0x118, 10, 1, 0⟩
def SYS_START_STAT.on_ho : Fld := ⟨0x00, 0x118, 11, 1, 0⟩
/-! SYS_START_US (R460). -/
def SYS_START_US.us : Fld := ⟨0x00, 0x11C, 0, 32, 0⟩
/-! SYS_STAGE_SEL (R460). -/
def SYS_STAGE_SEL.stage : Fld := ⟨0x00, 0x120, 0, 4, 0⟩
/-! SYS_STAGE_US (R460). -/
def SYS_STAGE_US.us : Fld := ⟨0x00, 0x124, 0, 32, 0⟩
/-! SYS_RST_CAUSE (R460). -/
def SYS_RST_CAUSE.cause : Fld := ⟨0x00, 0x128, 0, 3, 0⟩
/-! SYS_RST_CMD (R460). -/
def SYS_RST_CMD.device : Fld := ⟨0x00, 0x12C, 0, 1, 0⟩
def SYS_RST_CMD.carrier_io : Fld := ⟨0x00, 0x12C, 1, 1, 0⟩
def SYS_RST_CMD.mgmt : Fld := ⟨0x00, 0x12C, 2, 1, 0⟩
def SYS_RST_CMD.shutdown : Fld := ⟨0x00, 0x12C, 3, 1, 0⟩
def SYS_RST_CMD.key : Fld := ⟨0x00, 0x12C, 16, 16, 0⟩
/-! SYS_SUPPLY (R460). -/
def SYS_SUPPLY.vin_good : Fld := ⟨0x00, 0x130, 0, 1, 0⟩
def SYS_SUPPLY.vaux_good : Fld := ⟨0x00, 0x130, 1, 1, 0⟩
def SYS_SUPPLY.vbank_present : Fld := ⟨0x00, 0x130, 2, 1, 0⟩
/-! SYS_STARTS (R460). -/
def SYS_STARTS.count : Fld := ⟨0x00, 0x134, 0, 32, 0⟩
/-! SYS_HOLDS (R460). -/
def SYS_HOLDS.count : Fld := ⟨0x00, 0x138, 0, 32, 0⟩
/-! SYS_HOLD_MAX_US (R460). -/
def SYS_HOLD_MAX_US.us : Fld := ⟨0x00, 0x13C, 0, 32, 0⟩
/-! SYS_BAD_ACCESS (R460). -/
def SYS_BAD_ACCESS.count : Fld := ⟨0x00, 0x140, 0, 32, 0⟩
/-! SYS_SAFE_CAUSE (R460). -/
def SYS_SAFE_CAUSE.page : Fld := ⟨0x00, 0x144, 0, 8, 0⟩
def SYS_SAFE_CAUSE.code : Fld := ⟨0x00, 0x144, 16, 16, 0⟩
/-! PC_CAL_CTL (R480). -/
def PC_CAL_CTL.cal_en : Fld := ⟨0x40, 0x300, 0, 1, 0⟩
def PC_CAL_CTL.drift_c : Fld := ⟨0x40, 0x300, 8, 5, 0⟩
def PC_CAL_CTL.period_s : Fld := ⟨0x40, 0x300, 16, 16, 0⟩
/-! PC_CAL_CMD (R480). -/
def PC_CAL_CMD.run : Fld := ⟨0x40, 0x304, 0, 1, 0⟩
def PC_CAL_CMD.abort : Fld := ⟨0x40, 0x304, 1, 1, 0⟩
/-! PC_CAL_STAT (R480). -/
def PC_CAL_STAT.state : Fld := ⟨0x40, 0x308, 0, 3, 0⟩
def PC_CAL_STAT.pending : Fld := ⟨0x40, 0x308, 4, 1, 0⟩
def PC_CAL_STAT.last_ok : Fld := ⟨0x40, 0x308, 5, 1, 0⟩
def PC_CAL_STAT.tj_last : Fld := ⟨0x40, 0x308, 16, 8, 0⟩
/-! PC_CAL_RUNS (R480). -/
def PC_CAL_RUNS.count : Fld := ⟨0x40, 0x30C, 0, 32, 0⟩
/-! PC_CAL_REJECTS (R480). -/
def PC_CAL_REJECTS.count : Fld := ⟨0x40, 0x310, 0, 32, 0⟩
/-! PC_CAL_STEPS (R480). -/
def PC_CAL_STEPS.count : Fld := ⟨0x40, 0x314, 0, 32, 0⟩
/-! PC_CAL_STARVED (R480). -/
def PC_CAL_STARVED.count : Fld := ⟨0x40, 0x318, 0, 32, 0⟩
/-! PC_CAL_LAST_TIME_LO (R480). -/
def PC_CAL_LAST_TIME_LO.time : Fld := ⟨0x40, 0x31C, 0, 32, 0⟩
/-! PC_CAL_LAST_TIME_HI (R480). -/
def PC_CAL_LAST_TIME_HI.time : Fld := ⟨0x40, 0x320, 0, 32, 0⟩
/-! PC_CAL_LANE_SEL (R480). -/
def PC_CAL_LANE_SEL.via : Fld := ⟨0x40, 0x324, 0, 7, 0⟩
/-! PC_CAL_LANE_DLY (R480). -/
def PC_CAL_LANE_DLY.rd_dly : Fld := ⟨0x40, 0x328, 0, 7, 0⟩
def PC_CAL_LANE_DLY.wr_dly : Fld := ⟨0x40, 0x328, 8, 7, 0⟩
def PC_CAL_LANE_DLY.rejected_last : Fld := ⟨0x40, 0x328, 24, 1, 0⟩
def PC_CAL_LANE_DLY.reject_run : Fld := ⟨0x40, 0x328, 25, 3, 0⟩
/-! PC_CAL_LANE_EYE (R480). -/
def PC_CAL_LANE_EYE.eye : Fld := ⟨0x40, 0x32C, 0, 8, 0⟩
def PC_CAL_LANE_EYE.eye_start : Fld := ⟨0x40, 0x32C, 8, 8, 0⟩
def PC_CAL_LANE_EYE.drift : Fld := ⟨0x40, 0x32C, 16, 8, 0⟩
/-! PC_CAL_VREF (R480). -/
def PC_CAL_VREF.rd_vref : Fld := ⟨0x40, 0x330, 0, 6, 0⟩
def PC_CAL_VREF.wr_vref : Fld := ⟨0x40, 0x330, 8, 6, 0⟩
/-! PC_CAL_EYE_MIN (R480). -/
def PC_CAL_EYE_MIN.eye : Fld := ⟨0x40, 0x334, 0, 8, 0⟩
def PC_CAL_EYE_MIN.via : Fld := ⟨0x40, 0x334, 8, 7, 0⟩
/-! PHY_CAL_CTL (R481). -/
def PHY_CAL_CTL.cal_en : Fld := ⟨0x10, 0x600, 0, 1, 0⟩
def PHY_CAL_CTL.drift_c : Fld := ⟨0x10, 0x600, 8, 5, 0⟩
def PHY_CAL_CTL.period_s : Fld := ⟨0x10, 0x600, 16, 16, 0⟩
/-! PHY_CAL_CMD (R481). -/
def PHY_CAL_CMD.run : Fld := ⟨0x10, 0x604, 0, 1, 0⟩
def PHY_CAL_CMD.abort : Fld := ⟨0x10, 0x604, 1, 1, 0⟩
/-! PHY_CAL_STAT (R481). -/
def PHY_CAL_STAT.state : Fld := ⟨0x10, 0x608, 0, 3, 0⟩
def PHY_CAL_STAT.pending : Fld := ⟨0x10, 0x608, 4, 1, 0⟩
def PHY_CAL_STAT.last_ok : Fld := ⟨0x10, 0x608, 5, 1, 0⟩
def PHY_CAL_STAT.tj_last : Fld := ⟨0x10, 0x608, 16, 8, 0⟩
/-! PHY_CAL_RUNS (R481). -/
def PHY_CAL_RUNS.count : Fld := ⟨0x10, 0x60C, 0, 32, 0⟩
/-! PHY_CAL_REJECTS (R481). -/
def PHY_CAL_REJECTS.count : Fld := ⟨0x10, 0x610, 0, 32, 0⟩
/-! PHY_CAL_STEPS (R481). -/
def PHY_CAL_STEPS.count : Fld := ⟨0x10, 0x614, 0, 32, 0⟩
/-! PHY_CAL_LANE_SEL (R481). -/
def PHY_CAL_LANE_SEL.lane : Fld := ⟨0x10, 0x618, 0, 3, 0⟩
/-! PHY_CAL_LANE_THR (R481). -/
def PHY_CAL_LANE_THR.thr_lo : Fld := ⟨0x10, 0x61C, 0, 8, 0⟩
def PHY_CAL_LANE_THR.thr_mid : Fld := ⟨0x10, 0x61C, 8, 8, 0⟩
def PHY_CAL_LANE_THR.thr_hi : Fld := ⟨0x10, 0x61C, 16, 8, 0⟩
def PHY_CAL_LANE_THR.phase : Fld := ⟨0x10, 0x61C, 24, 6, 0⟩
/-! PHY_CAL_LANE_EYE (R481). -/
def PHY_CAL_LANE_EYE.height : Fld := ⟨0x10, 0x620, 0, 8, 0⟩
def PHY_CAL_LANE_EYE.width : Fld := ⟨0x10, 0x620, 8, 8, 0⟩
def PHY_CAL_LANE_EYE.rejected_last : Fld := ⟨0x10, 0x620, 24, 1, 0⟩
def PHY_CAL_LANE_EYE.reject_run : Fld := ⟨0x10, 0x620, 25, 3, 0⟩
/-! PHY_CAL_EYE_MIN (R481). -/
def PHY_CAL_EYE_MIN.height : Fld := ⟨0x10, 0x624, 0, 8, 0⟩
def PHY_CAL_EYE_MIN.lane : Fld := ⟨0x10, 0x624, 8, 3, 0⟩
/-! THERM_CTL (R505). -/
def THERM_CTL.throttle_en : Fld := ⟨0x04, 0x100, 0, 1, 0⟩
def THERM_CTL.xcheck_en : Fld := ⟨0x04, 0x100, 1, 1, 0⟩
def THERM_CTL.pcap_en : Fld := ⟨0x04, 0x100, 2, 1, 0⟩
/-! THERM_LIMIT (R505). -/
def THERM_LIMIT.throttle_c : Fld := ⟨0x04, 0x104, 0, 8, 0⟩
def THERM_LIMIT.hyst_c : Fld := ⟨0x04, 0x104, 8, 4, 0⟩
def THERM_LIMIT.rise : Fld := ⟨0x04, 0x104, 12, 8, 0⟩
def THERM_LIMIT.logic_c : Fld := ⟨0x04, 0x104, 20, 8, 0⟩
/-! THERM_STEP (R505). -/
def THERM_STEP.up_us : Fld := ⟨0x04, 0x108, 0, 16, 0⟩
def THERM_STEP.down_us : Fld := ⟨0x04, 0x108, 16, 16, 0⟩
/-! THERM_XCHECK (R505). -/
def THERM_XCHECK.margin_c : Fld := ⟨0x04, 0x10C, 0, 4, 0⟩
def THERM_XCHECK.samples : Fld := ⟨0x04, 0x10C, 4, 4, 0⟩
def THERM_XCHECK.add_c : Fld := ⟨0x04, 0x10C, 8, 4, 0⟩
def THERM_XCHECK.clear_s : Fld := ⟨0x04, 0x10C, 16, 8, 0⟩
/-! THERM_PCAP_CTL (R505). -/
def THERM_PCAP_CTL.cap_w : Fld := ⟨0x04, 0x110, 0, 8, 0⟩
def THERM_PCAP_CTL.window_ms : Fld := ⟨0x04, 0x110, 8, 16, 0⟩
/-! THERM_PCAP_STAT (R505). -/
def THERM_PCAP_STAT.cap_skip : Fld := ⟨0x04, 0x114, 0, 6, 0⟩
def THERM_PCAP_STAT.binding : Fld := ⟨0x04, 0x114, 8, 1, 0⟩
def THERM_PCAP_STAT.avg_w : Fld := ⟨0x04, 0x114, 16, 16, 0⟩
/-! THERM_POWER (R505). -/
def THERM_POWER.w : Fld := ⟨0x04, 0x118, 0, 16, 0⟩
/-! THERM_SENS_SEL (R505). -/
def THERM_SENS_SEL.sensor : Fld := ⟨0x04, 0x11C, 0, 7, 0⟩
/-! THERM_SENS_VAL (R505). -/
def THERM_SENS_VAL.temp : Fld := ⟨0x04, 0x120, 0, 12, 0⟩
def THERM_SENS_VAL.fast : Fld := ⟨0x04, 0x120, 16, 1, 0⟩
def THERM_SENS_VAL.failed : Fld := ⟨0x04, 0x120, 17, 1, 0⟩
/-! THERM_SENS_MAX (R505). -/
def THERM_SENS_MAX.temp : Fld := ⟨0x04, 0x124, 0, 12, 0⟩
/-! THERM_LAYER_SEL (R505). -/
def THERM_LAYER_SEL.layer : Fld := ⟨0x04, 0x128, 0, 4, 0⟩
/-! THERM_LAYER_STAT (R505). -/
def THERM_LAYER_STAT.reading : Fld := ⟨0x04, 0x12C, 0, 8, 0⟩
def THERM_LAYER_STAT.estimate : Fld := ⟨0x04, 0x12C, 8, 8, 0⟩
def THERM_LAYER_STAT.tj_used : Fld := ⟨0x04, 0x12C, 16, 8, 0⟩
def THERM_LAYER_STAT.level : Fld := ⟨0x04, 0x12C, 24, 3, 0⟩
def THERM_LAYER_STAT.suspect : Fld := ⟨0x04, 0x12C, 27, 1, 0⟩
def THERM_LAYER_STAT.critical : Fld := ⟨0x04, 0x12C, 28, 1, 0⟩
/-! THERM_LAYER_CE (R505). -/
def THERM_LAYER_CE.ce_1s : Fld := ⟨0x04, 0x130, 0, 16, 0⟩
def THERM_LAYER_CE.ce_ref : Fld := ⟨0x04, 0x130, 16, 16, 0⟩
/-! THERM_SUSPECT_MAP (R505). -/
def THERM_SUSPECT_MAP.layers : Fld := ⟨0x04, 0x134, 0, 16, 0⟩
/-! THERM_THROTTLE_MAP (R505). -/
def THERM_THROTTLE_MAP.layers : Fld := ⟨0x04, 0x138, 0, 16, 0⟩
def THERM_THROTTLE_MAP.logic_level : Fld := ⟨0x04, 0x138, 16, 3, 0⟩
/-! THERM_DIE_STAT (R505). -/
def THERM_DIE_STAT.logic : Fld := ⟨0x04, 0x13C, 0, 8, 0⟩
def THERM_DIE_STAT.carrier : Fld := ⟨0x04, 0x13C, 8, 8, 0⟩
def THERM_DIE_STAT.p0 : Fld := ⟨0x04, 0x13C, 16, 8, 0⟩
def THERM_DIE_STAT.p1 : Fld := ⟨0x04, 0x13C, 24, 8, 0⟩
/-! THERM_EVENTS (R505). -/
def THERM_EVENTS.count : Fld := ⟨0x04, 0x140, 0, 32, 0⟩
/-! THERM_SUSPECTS (R505). -/
def THERM_SUSPECTS.count : Fld := ⟨0x04, 0x144, 0, 32, 0⟩
/-! THERM_RISE_EVENTS (R505). -/
def THERM_RISE_EVENTS.count : Fld := ⟨0x04, 0x148, 0, 32, 0⟩
/-! ERRPIN_CTL (R536). -/
def ERRPIN_CTL.uc_en : Fld := ⟨0x07, 0x100, 0, 1, 0⟩
def ERRPIN_CTL.hold : Fld := ⟨0x07, 0x100, 1, 1, 0⟩
def ERRPIN_CTL.ce_aer : Fld := ⟨0x07, 0x100, 8, 1, 0⟩
/-! ERRPIN_CMD (R536). -/
def ERRPIN_CMD.release : Fld := ⟨0x07, 0x104, 0, 1, 0⟩
def ERRPIN_CMD.test : Fld := ⟨0x07, 0x104, 1, 1, 0⟩
def ERRPIN_CMD.safe : Fld := ⟨0x07, 0x104, 2, 1, 0⟩
def ERRPIN_CMD.key : Fld := ⟨0x07, 0x104, 16, 16, 0⟩
/-! ERRPIN_STAT (R536). -/
def ERRPIN_STAT.driven : Fld := ⟨0x07, 0x108, 0, 1, 0⟩
def ERRPIN_STAT.held : Fld := ⟨0x07, 0x108, 1, 1, 0⟩
def ERRPIN_STAT.stuck_high : Fld := ⟨0x07, 0x108, 2, 1, 0⟩
def ERRPIN_STAT.ext_low : Fld := ⟨0x07, 0x108, 3, 1, 0⟩
def ERRPIN_STAT.last_source : Fld := ⟨0x07, 0x108, 4, 4, 0⟩
/-! ERRPIN_PULSES (R536). -/
def ERRPIN_PULSES.count : Fld := ⟨0x07, 0x10C, 0, 32, 0⟩
/-! ERRPIN_COALESCED (R536). -/
def ERRPIN_COALESCED.count : Fld := ⟨0x07, 0x110, 0, 32, 0⟩
/-! ERRPIN_LAST_TIME_LO (R536). -/
def ERRPIN_LAST_TIME_LO.time : Fld := ⟨0x07, 0x114, 0, 32, 0⟩
/-! ERRPIN_LAST_TIME_HI (R536). -/
def ERRPIN_LAST_TIME_HI.time : Fld := ⟨0x07, 0x118, 0, 32, 0⟩
/-! ERRPIN_PEND_MAP (R536). -/
def ERRPIN_PEND_MAP.pages : Fld := ⟨0x07, 0x120, 0, 32, 0⟩
/-! ERRPIN_FF_PAGE (R536). -/
def ERRPIN_FF_PAGE.page : Fld := ⟨0x07, 0x130, 0, 8, 0⟩
def ERRPIN_FF_PAGE.code : Fld := ⟨0x07, 0x130, 16, 16, 0⟩
/-! ERRPIN_FF_TIME_LO (R536). -/
def ERRPIN_FF_TIME_LO.time : Fld := ⟨0x07, 0x134, 0, 32, 0⟩
/-! ERRPIN_FF_TIME_HI (R536). -/
def ERRPIN_FF_TIME_HI.time : Fld := ⟨0x07, 0x138, 0, 32, 0⟩
/-! ERRPIN_FF_VALID (R536). -/
def ERRPIN_FF_VALID.valid : Fld := ⟨0x07, 0x13C, 0, 1, 0⟩
/-! ERRPIN_SAFE_STAT (R536). -/
def ERRPIN_SAFE_STAT.entered : Fld := ⟨0x07, 0x140, 0, 1, 0⟩
def ERRPIN_SAFE_STAT.bind_run : Fld := ⟨0x07, 0x140, 1, 1, 0⟩
def ERRPIN_SAFE_STAT.bind_committed : Fld := ⟨0x07, 0x140, 2, 1, 0⟩
def ERRPIN_SAFE_STAT.bind_failed : Fld := ⟨0x07, 0x140, 3, 1, 0⟩
def ERRPIN_SAFE_STAT.owed : Fld := ⟨0x07, 0x140, 4, 1, 0⟩
/-! ERRPIN_SAFE_TIME_LO (R536). -/
def ERRPIN_SAFE_TIME_LO.time : Fld := ⟨0x07, 0x144, 0, 32, 0⟩
/-! ERRPIN_SAFE_TIME_HI (R536). -/
def ERRPIN_SAFE_TIME_HI.time : Fld := ⟨0x07, 0x148, 0, 32, 0⟩
/-! ERRPIN_ESCALATIONS (R536). -/
def ERRPIN_ESCALATIONS.count : Fld := ⟨0x07, 0x14C, 0, 32, 0⟩
/-! ERRPIN_FATALS (R536). -/
def ERRPIN_FATALS.count : Fld := ⟨0x07, 0x150, 0, 32, 0⟩
/-! BIST_REC_STAT (R562). -/
def BIST_REC_STAT.valid : Fld := ⟨0x06, 0x100, 0, 1, 0⟩
def BIST_REC_STAT.age_known : Fld := ⟨0x06, 0x100, 1, 1, 0⟩
def BIST_REC_STAT.quick : Fld := ⟨0x06, 0x100, 2, 1, 0⟩
def BIST_REC_STAT.age_days : Fld := ⟨0x06, 0x100, 8, 8, 0⟩
def BIST_REC_STAT.held : Fld := ⟨0x06, 0x100, 16, 10, 0⟩
/-! BIST_REC_SEQ (R562). -/
def BIST_REC_SEQ.seq : Fld := ⟨0x06, 0x104, 0, 32, 0⟩
/-! BIST_START_STAT (R562). -/
def BIST_START_STAT.pass : Fld := ⟨0x06, 0x108, 0, 1, 0⟩
def BIST_START_STAT.failed : Fld := ⟨0x06, 0x108, 8, 8, 0⟩
/-! BIST_FAIL_IDX (R562). -/
def BIST_FAIL_IDX.index : Fld := ⟨0x06, 0x10C, 0, 10, 0⟩
/-! BIST_FAIL (R562). -/
def BIST_FAIL.test : Fld := ⟨0x06, 0x110, 0, 8, 0⟩
def BIST_FAIL.page : Fld := ⟨0x06, 0x110, 8, 8, 0⟩
def BIST_FAIL.unit : Fld := ⟨0x06, 0x110, 16, 8, 0⟩
def BIST_FAIL.valid : Fld := ⟨0x06, 0x110, 31, 1, 0⟩
/-! BIST_PROG_SEL (R562). -/
def BIST_PROG_SEL.step : Fld := ⟨0x06, 0x114, 0, 4, 0⟩
/-! BIST_PROG (R562). -/
def BIST_PROG.test : Fld := ⟨0x06, 0x118, 0, 8, 0⟩
def BIST_PROG.page : Fld := ⟨0x06, 0x118, 8, 8, 0⟩
def BIST_PROG.unit : Fld := ⟨0x06, 0x118, 16, 8, 0⟩
def BIST_PROG.loops_log2 : Fld := ⟨0x06, 0x118, 24, 4, 0⟩
def BIST_PROG.stop_on_fail : Fld := ⟨0x06, 0x118, 28, 1, 0⟩
def BIST_PROG.inject : Fld := ⟨0x06, 0x118, 29, 1, 0⟩
def BIST_PROG.valid : Fld := ⟨0x06, 0x118, 31, 1, 0⟩
/-! BIST_PROG_ARG (R562). -/
def BIST_PROG_ARG.arg : Fld := ⟨0x06, 0x11C, 0, 32, 0⟩
/-! BIST_CMD (R562). -/
def BIST_CMD.run : Fld := ⟨0x06, 0x120, 0, 1, 0⟩
def BIST_CMD.abort : Fld := ⟨0x06, 0x120, 1, 1, 0⟩
def BIST_CMD.release : Fld := ⟨0x06, 0x120, 2, 1, 0⟩
def BIST_CMD.key : Fld := ⟨0x06, 0x120, 16, 16, 0⟩
/-! BIST_ENG_STAT (R562). -/
def BIST_ENG_STAT.state : Fld := ⟨0x06, 0x124, 0, 3, 0⟩
def BIST_ENG_STAT.step : Fld := ⟨0x06, 0x124, 4, 4, 0⟩
def BIST_ENG_STAT.offline : Fld := ⟨0x06, 0x124, 8, 1, 0⟩
def BIST_ENG_STAT.fails : Fld := ⟨0x06, 0x124, 16, 8, 0⟩
/-! BIST_RESULT (R562). -/
def BIST_RESULT.code : Fld := ⟨0x06, 0x128, 0, 16, 0⟩
def BIST_RESULT.errors : Fld := ⟨0x06, 0x128, 16, 15, 0⟩
def BIST_RESULT.abandoned : Fld := ⟨0x06, 0x128, 31, 1, 0⟩
/-! BIST_INJ_CNT (R562). -/
def BIST_INJ_CNT.count : Fld := ⟨0x06, 0x12C, 0, 32, 0⟩
/-! OTP_STAT (R564). -/
def OTP_STAT.restrictive : Fld := ⟨0x05, 0x100, 0, 1, 0⟩
def OTP_STAT.marginal : Fld := ⟨0x05, 0x100, 1, 1, 0⟩
def OTP_STAT.second_pass : Fld := ⟨0x05, 0x100, 2, 1, 0⟩
def OTP_STAT.region_fail : Fld := ⟨0x05, 0x100, 8, 7, 0⟩
def OTP_STAT.region_locked : Fld := ⟨0x05, 0x100, 16, 7, 0⟩
/-! OTP_ROWS_FAILED (R564). -/
def OTP_ROWS_FAILED.count : Fld := ⟨0x05, 0x104, 0, 10, 0⟩
/-! OTP_SPARES (R564). -/
def OTP_SPARES.used : Fld := ⟨0x05, 0x108, 0, 6, 0⟩
def OTP_SPARES.unlinked : Fld := ⟨0x05, 0x108, 8, 6, 0⟩
/-! OTP_CORRECTED (R564). -/
def OTP_CORRECTED.count : Fld := ⟨0x05, 0x10C, 0, 32, 0⟩
/-! OTP_MARGIN_ROW (R564). -/
def OTP_MARGIN_ROW.row : Fld := ⟨0x05, 0x110, 0, 10, 0⟩
def OTP_MARGIN_ROW.valid : Fld := ⟨0x05, 0x110, 31, 1, 0⟩
/-! OTP_READ_IDX (R564). -/
def OTP_READ_IDX.row : Fld := ⟨0x05, 0x114, 0, 10, 0⟩
/-! OTP_READ_LO (R564). -/
def OTP_READ_LO.data : Fld := ⟨0x05, 0x118, 0, 32, 0⟩
/-! OTP_READ_HI (R564). -/
def OTP_READ_HI.data : Fld := ⟨0x05, 0x11C, 0, 24, 0⟩
def OTP_READ_HI.differs : Fld := ⟨0x05, 0x11C, 31, 1, 0⟩
/-! OTP_PROG_IDX (R564). -/
def OTP_PROG_IDX.row : Fld := ⟨0x05, 0x120, 0, 10, 0⟩
/-! OTP_PROG_LO (R564). -/
def OTP_PROG_LO.data : Fld := ⟨0x05, 0x124, 0, 32, 0⟩
/-! OTP_PROG_HI (R564). -/
def OTP_PROG_HI.data : Fld := ⟨0x05, 0x128, 0, 24, 0⟩
/-! OTP_CMD (R564). -/
def OTP_CMD.program : Fld := ⟨0x05, 0x12C, 0, 1, 0⟩
def OTP_CMD.repair : Fld := ⟨0x05, 0x12C, 1, 1, 0⟩
def OTP_CMD.lock : Fld := ⟨0x05, 0x12C, 2, 1, 0⟩
def OTP_CMD.force : Fld := ⟨0x05, 0x12C, 3, 1, 0⟩
def OTP_CMD.gen_seed : Fld := ⟨0x05, 0x12C, 4, 1, 0⟩
def OTP_CMD.region : Fld := ⟨0x05, 0x12C, 8, 3, 0⟩
def OTP_CMD.key : Fld := ⟨0x05, 0x12C, 16, 16, 0⟩
/-! OTP_CMD_STAT (R564). -/
def OTP_CMD_STAT.busy : Fld := ⟨0x05, 0x130, 0, 1, 0⟩
def OTP_CMD_STAT.done : Fld := ⟨0x05, 0x130, 1, 1, 0⟩
def OTP_CMD_STAT.refused : Fld := ⟨0x05, 0x130, 2, 1, 0⟩
def OTP_CMD_STAT.reason : Fld := ⟨0x05, 0x130, 4, 4, 0⟩
/-! OTP_LC_FUSES (R564). -/
def OTP_LC_FUSES.fuses : Fld := ⟨0x05, 0x134, 0, 11, 0⟩
/-! SB_CTL (R581). -/
def SB_CTL.smbus_en : Fld := ⟨0x08, 0x100, 0, 1, 0⟩
def SB_CTL.i3c_en : Fld := ⟨0x08, 0x100, 1, 1, 0⟩
def SB_CTL.secure_only : Fld := ⟨0x08, 0x100, 2, 1, 0⟩
def SB_CTL.static_addr : Fld := ⟨0x08, 0x100, 8, 7, 0⟩
/-! SB_STAT (R581). -/
def SB_STAT.mode : Fld := ⟨0x08, 0x104, 0, 2, 0⟩
def SB_STAT.dyn_addr : Fld := ⟨0x08, 0x104, 8, 8, 0⟩
def SB_STAT.eid : Fld := ⟨0x08, 0x104, 16, 8, 0⟩
def SB_STAT.core_ready : Fld := ⟨0x08, 0x104, 24, 1, 0⟩
/-! SB_MCTP_RX (R581). -/
def SB_MCTP_RX.count : Fld := ⟨0x08, 0x108, 0, 32, 0⟩
/-! SB_MCTP_DROP (R581). -/
def SB_MCTP_DROP.count : Fld := ⟨0x08, 0x10C, 0, 32, 0⟩
/-! SB_PEC_ERR (R581). -/
def SB_PEC_ERR.count : Fld := ⟨0x08, 0x110, 0, 32, 0⟩
/-! SB_SESSIONS (R581). -/
def SB_SESSIONS.open : Fld := ⟨0x08, 0x114, 0, 4, 0⟩
/-! SB_BANK_CTL (R581). -/
def SB_BANK_CTL.fast : Fld := ⟨0x08, 0x118, 0, 1, 0⟩
/-! SB_BANK_STAT (R581). -/
def SB_BANK_STAT.busy : Fld := ⟨0x08, 0x11C, 0, 1, 0⟩
def SB_BANK_STAT.present : Fld := ⟨0x08, 0x11C, 1, 1, 0⟩
def SB_BANK_STAT.last_ok : Fld := ⟨0x08, 0x11C, 2, 1, 0⟩
def SB_BANK_STAT.retries : Fld := ⟨0x08, 0x11C, 8, 8, 0⟩
/-! SB_BANK_ERR (R581). -/
def SB_BANK_ERR.count : Fld := ⟨0x08, 0x120, 0, 32, 0⟩
/-! SB_BANK_CLEARS (R581). -/
def SB_BANK_CLEARS.count : Fld := ⟨0x08, 0x124, 0, 32, 0⟩
/-! SB_LAYER_SEL (R581). -/
def SB_LAYER_SEL.layer : Fld := ⟨0x08, 0x128, 0, 5, 0⟩
def SB_LAYER_SEL.word : Fld := ⟨0x08, 0x128, 8, 3, 0⟩
/-! SB_LAYER_ID (R581). -/
def SB_LAYER_ID.data : Fld := ⟨0x08, 0x12C, 0, 32, 0⟩
/-! SB_LAYER_STAT (R581). -/
def SB_LAYER_STAT.valid : Fld := ⟨0x08, 0x130, 0, 1, 0⟩
def SB_LAYER_STAT.mapout : Fld := ⟨0x08, 0x130, 16, 16, 0⟩
/-! SB_FW_STAT (R581). -/
def SB_FW_STAT.active_slot : Fld := ⟨0x08, 0x134, 0, 1, 0⟩
def SB_FW_STAT.pending : Fld := ⟨0x08, 0x134, 1, 1, 0⟩
def SB_FW_STAT.fallback : Fld := ⟨0x08, 0x134, 2, 1, 0⟩
def SB_FW_STAT.secver : Fld := ⟨0x08, 0x134, 8, 8, 0⟩
def SB_FW_STAT.min_secver : Fld := ⟨0x08, 0x134, 16, 8, 0⟩
/-! SB_FW_VER (R581). -/
def SB_FW_VER.version : Fld := ⟨0x08, 0x138, 0, 32, 0⟩

end Sys2Proof.Machine
end

