-- ==== Sys2Proof/Machine/RegMap.lean ====
section
/-!
DEFINITION. The register map of the LR128: for each page the fields of its table with their access type (R7), reset
value and write clamp, in the order of the tables. Where a table gives a reset value in words (per variant, from OTP,
per start), the value here is that of an LR128-P4 (assumption 4), and a start stage writes the value of the variant.
-/

namespace Sys2Proof.Machine

/-- The access types of R7. -/
inductive RegTy where
  | rw | ro | rw1c | rwl | wo
  deriving DecidableEq, Repr

/-- A row of a register table. -/
structure Row where
  f : Fld
  ty : RegTy
  reset : Nat := 0
  /-- The bounds a write is clamped to, where the table gives them. -/
  clamp : Option (Nat × Nat) := none
  deriving DecidableEq, Repr

/-- Rows of the header page (every page) (R10). -/
def rowsHeader1 : List Row :=
  [⟨PAGE_ID.block_type, .ro, 0x0, none⟩,
   ⟨PAGE_ID.inst, .ro, 0x0, none⟩,
   ⟨PAGE_ID.layout_version, .ro, 0x1, none⟩,
   ⟨PAGE_CAP.present, .ro, 0x1, none⟩,
   ⟨PAGE_CAP.sleep_cap, .ro, 0x0, none⟩,
   ⟨PAGE_CAP.deep_cap, .ro, 0x0, none⟩,
   ⟨PAGE_CAP.block_cap, .ro, 0x0, none⟩,
   ⟨PAGE_CTL.enable, .rw, 0x1, none⟩,
   ⟨PAGE_CTL.run_clk_en, .rw, 0x1, none⟩,
   ⟨PAGE_CTL.sleep_en, .rw, 0x1, none⟩,
   ⟨PAGE_CTL.deep_en, .rw, 0x0, none⟩,
   ⟨PAGE_CTL.soft_reset, .wo, 0x0, none⟩,
   ⟨PAGE_STAT.state, .ro, 0x1, none⟩,
   ⟨PAGE_STAT.busy, .ro, 0x0, none⟩,
   ⟨PAGE_STAT.quiescent, .ro, 0x1, none⟩,
   ⟨PAGE_STAT.reset_abandoned, .rw1c, 0x0, none⟩,
   ⟨PAGE_STAT.gate_abandoned, .rw1c, 0x0, none⟩,
   ⟨ERR_STAT.ce, .rw1c, 0x0, none⟩,
   ⟨ERR_STAT.uc, .rw1c, 0x0, none⟩,
   ⟨ERR_STAT.fatal, .rw1c, 0x0, none⟩,
   ⟨ERR_STAT.overflow, .rw1c, 0x0, none⟩,
   ⟨ERR_MASK.mask_ce, .rw, 0x0, none⟩,
   ⟨ERR_MASK.mask_uc, .rw, 0x0, none⟩,
   ⟨ERR_CNT_CE.count, .rw, 0x0, none⟩]

/-- Rows of the header page (every page) (R10). -/
def rowsHeader2 : List Row :=
  [⟨ERR_CNT_UC.count, .rw, 0x0, none⟩,
   ⟨FE_ADDR_LO.addr, .ro, 0x0, none⟩,
   ⟨FE_ADDR_HI.addr, .ro, 0x0, none⟩,
   ⟨FE_MASTER.master, .ro, 0x0, none⟩,
   ⟨FE_ACCESS.access, .ro, 0x0, none⟩,
   ⟨FE_ACCESS.class, .ro, 0x0, none⟩,
   ⟨FE_CODE.code, .ro, 0x0, none⟩,
   ⟨FE_TIME_LO.time, .ro, 0x0, none⟩,
   ⟨FE_TIME_HI.time, .ro, 0x0, none⟩,
   ⟨FE_VALID.valid, .rw1c, 0x0, none⟩,
   ⟨FE_VALID.time_valid, .ro, 0x0, none⟩,
   ⟨ESC_CTL.esc_time_us, .rwl, 0x3E8, some (10, 100000)⟩,
   ⟨ESC_CTL.esc_en, .rwl, 0x1, none⟩,
   ⟨ESC_ACK.ack, .wo, 0x0, none⟩,
   ⟨ESC_STAT.running, .ro, 0x0, none⟩,
   ⟨ESC_STAT.escalated, .rw1c, 0x0, none⟩,
   ⟨ESC_STAT.acked, .rw1c, 0x0, none⟩,
   ⟨ESC_STAT.remaining_us, .ro, 0x0, none⟩,
   ⟨INT_STAT.err, .ro, 0x0, none⟩,
   ⟨INT_STAT.causes, .rw1c, 0x0, none⟩,
   ⟨INT_EN.enables, .rw, 0x0, none⟩,
   ⟨INT_SET.set, .wo, 0x0, none⟩,
   ⟨LOCK.lock, .rwl, 0x0, none⟩]

/-- All rows of the header page. -/
def rowsHeader : List Row := rowsHeader1 ++ rowsHeader2

/-- The fields of the header page that reset to a value other than 0, by offset × 32 + lowest bit. -/
def resetsHeader : List (Nat × Nat) :=
  [(24, 1), (128, 1), (256, 1), (257, 1), (258, 1), (384, 1), (389, 1), (2048, 1000), (2079, 1)]

/-- Rows of the KERF page (R51, R52). -/
def rowsKerf1 : List Row :=
  [⟨KERF_STACK_CFG.layers_present, .ro, 0xFFFF, none⟩,
   ⟨KERF_STACK_CFG.absent_layer, .ro, 0x0, none⟩,
   ⟨KERF_STACK_CFG.map_out, .ro, 0x0, none⟩,
   ⟨KERF_STACK_CFG.carve_out, .ro, 0x0, none⟩,
   ⟨KERF_CAPACITY.quires, .ro, 0x20000, none⟩,
   ⟨KERF_CARVE_BASE.base_quire, .ro, 0x1E000, none⟩,
   ⟨KERF_ACTIVE.running, .ro, 0x0, none⟩,
   ⟨KERF_ACTIVE.waiting, .ro, 0x0, none⟩,
   ⟨KERF_CMD.start, .wo, 0x0, none⟩,
   ⟨KERF_CMD.abort, .wo, 0x0, none⟩,
   ⟨KERF_CMD.resume, .wo, 0x0, none⟩,
   ⟨KERF_STAT.state, .ro, 0x0, none⟩,
   ⟨KERF_STAT.demand_depth, .ro, 0x0, none⟩,
   ⟨KERF_STAT.refused, .rw1c, 0x0, none⟩,
   ⟨KERF_STAT.refuse_reason, .ro, 0x0, none⟩,
   ⟨KERF_START.start_quire, .rw, 0x0, none⟩,
   ⟨KERF_END.end_quire, .rw, 0x0, none⟩,
   ⟨KERF_POS_LO.pos, .ro, 0x0, none⟩,
   ⟨KERF_POS_HI.pos, .ro, 0x0, none⟩,
   ⟨KERF_ARG.from_slot, .rw, 0x0, none⟩,
   ⟨KERF_ARG.to_slot, .rw, 0x0, none⟩,
   ⟨KERF_ARG.bank, .ro, 0x0, none⟩,
   ⟨KERF_ARG.range, .ro, 0x0, none⟩,
   ⟨KERF_QDONE.quires, .ro, 0x0, none⟩]

/-- Rows of the KERF page (R52). -/
def rowsKerf2 : List Row :=
  [⟨KERF_DEMANDS.count, .ro, 0x0, none⟩,
   ⟨KERF_STALL_MAX.ns, .rw, 0x0, none⟩,
   ⟨KERF_WAITS.count, .ro, 0x0, none⟩,
   ⟨KERF_FULL.count, .ro, 0x0, none⟩]

/-- All rows of the KERF page. -/
def rowsKerf : List Row := rowsKerf1 ++ rowsKerf2

/-- The fields of the KERF page that reset to a value other than 0, by offset × 32 + lowest bit. -/
def resetsKerf : List (Nat × Nat) :=
  [(8192, 65535), (8320, 131072), (8448, 122880)]

/-- Rows of the PC page (R86). -/
def rowsPc1 : List Row :=
  [⟨PC_SCHED_CTL.age_limit, .rw, 0x10, some (2, 512)⟩,
   ⟨PC_WQ_CTL.wq_high, .rw, 0x24, none⟩,
   ⟨PC_WQ_CTL.wq_low, .rw, 0xC, none⟩,
   ⟨PC_QUEUE_STAT.rd_occ, .ro, 0x0, none⟩,
   ⟨PC_QUEUE_STAT.wr_occ, .ro, 0x0, none⟩,
   ⟨PC_QUEUE_STAT.drain, .ro, 0x0, none⟩,
   ⟨PC_QUEUE_STAT.bank_max, .ro, 0x0, none⟩,
   ⟨PC_AGE_PROMO.count, .ro, 0x0, none⟩,
   ⟨PC_AGE_MAX.ns, .rw, 0x0, none⟩,
   ⟨PC_REF_CTL.postpone_max, .rw, 0x8, none⟩,
   ⟨PC_REF_CTL.window_force, .rw, 0x0, none⟩,
   ⟨PC_REF_STAT.window, .ro, 0x0, none⟩,
   ⟨PC_REF_STAT.balance_max, .ro, 0x0, none⟩,
   ⟨PC_REF_STAT.tj_used, .ro, 0x0, none⟩,
   ⟨PC_REF_STAT.estimate, .ro, 0x0, none⟩,
   ⟨PC_REF_FORCED.count, .ro, 0x0, none⟩,
   ⟨PC_REF_CNT.count, .ro, 0x0, none⟩,
   ⟨PC_RFM_CTL.threshold, .rw, 0x800, some (256, 8192)⟩,
   ⟨PC_RFM_CTL.rfm_en, .rw, 0x1, none⟩,
   ⟨PC_RFM_CNT.count, .ro, 0x0, none⟩,
   ⟨PC_RFM_LAST.bank, .ro, 0x0, none⟩,
   ⟨PC_RFM_LAST.row, .ro, 0x0, none⟩,
   ⟨PC_RFM_LAST.valid, .rw1c, 0x0, none⟩,
   ⟨PC_SR_CTL.sr_en, .rw, 0x1, none⟩]

/-- Rows of the PC page (R86, R122). -/
def rowsPc2 : List Row :=
  [⟨PC_SR_CTL.sr_idle_us, .rw, 0x64, none⟩,
   ⟨PC_SR_CTL.sr_now, .wo, 0x0, none⟩,
   ⟨PC_SR_STAT.in_sr, .ro, 0x0, none⟩,
   ⟨PC_SR_STAT.entering, .ro, 0x0, none⟩,
   ⟨PC_SR_STAT.clk_gated, .ro, 0x0, none⟩,
   ⟨PC_SR_STAT.last_outcome, .ro, 0x0, none⟩,
   ⟨PC_SR_ENTRIES.count, .ro, 0x0, none⟩,
   ⟨PC_SR_ABORTS.count, .ro, 0x0, none⟩,
   ⟨PC_SR_WAKE_MAX.ns, .rw, 0x0, none⟩,
   ⟨PC_ECC_CTL.mode, .rw, 0x0, none⟩,
   ⟨PC_ECC_CTL.wb_en, .rw, 0x1, none⟩,
   ⟨PC_ECC_STAT.erased, .ro, 0x0, none⟩,
   ⟨PC_ECC_STAT.lane0, .ro, 0x0, none⟩,
   ⟨PC_ECC_STAT.lane1, .ro, 0x0, none⟩,
   ⟨PC_ECC_STAT.clear_refused, .rw1c, 0x0, none⟩,
   ⟨PC_CORR1.count, .ro, 0x0, none⟩,
   ⟨PC_CORR2.count, .ro, 0x0, none⟩,
   ⟨PC_CORR3.count, .ro, 0x0, none⟩,
   ⟨PC_UC_LINES.count, .ro, 0x0, none⟩,
   ⟨PC_POISON_READS.count, .ro, 0x0, none⟩,
   ⟨PC_CHK_MISMATCH.count, .ro, 0x0, none⟩,
   ⟨PC_LANE_SEL.lane, .rw, 0x0, none⟩,
   ⟨PC_LANE_CNT.count, .ro, 0x0, none⟩,
   ⟨PC_REPAIR_STAT.spare_state, .ro, 0x0, none⟩]

/-- Rows of the PC page (R122, R480). -/
def rowsPc3 : List Row :=
  [⟨PC_REPAIR_STAT.retired_bank, .ro, 0x0, none⟩,
   ⟨PC_REPAIR_STAT.watch_occ, .ro, 0x0, none⟩,
   ⟨PC_WATCH_EVICT.count, .ro, 0x0, none⟩,
   ⟨PC_ECC_CMD.clear, .wo, 0x0, none⟩,
   ⟨PC_ECC_CMD.key, .wo, 0x0, none⟩,
   ⟨PC_CAL_CTL.cal_en, .rw, 0x1, none⟩,
   ⟨PC_CAL_CTL.drift_c, .rw, 0x8, some (2, 20)⟩,
   ⟨PC_CAL_CTL.period_s, .rw, 0x3C, some (1, 3600)⟩,
   ⟨PC_CAL_CMD.run, .wo, 0x0, none⟩,
   ⟨PC_CAL_CMD.abort, .wo, 0x0, none⟩,
   ⟨PC_CAL_STAT.state, .ro, 0x0, none⟩,
   ⟨PC_CAL_STAT.pending, .ro, 0x0, none⟩,
   ⟨PC_CAL_STAT.last_ok, .ro, 0x1, none⟩,
   ⟨PC_CAL_STAT.tj_last, .ro, 0x0, none⟩,
   ⟨PC_CAL_RUNS.count, .ro, 0x0, none⟩,
   ⟨PC_CAL_REJECTS.count, .ro, 0x0, none⟩,
   ⟨PC_CAL_STEPS.count, .ro, 0x0, none⟩,
   ⟨PC_CAL_STARVED.count, .ro, 0x0, none⟩,
   ⟨PC_CAL_LAST_TIME_LO.time, .ro, 0x0, none⟩,
   ⟨PC_CAL_LAST_TIME_HI.time, .ro, 0x0, none⟩,
   ⟨PC_CAL_LANE_SEL.via, .rw, 0x0, none⟩,
   ⟨PC_CAL_LANE_DLY.rd_dly, .ro, 0x0, none⟩,
   ⟨PC_CAL_LANE_DLY.wr_dly, .ro, 0x0, none⟩,
   ⟨PC_CAL_LANE_DLY.rejected_last, .ro, 0x0, none⟩]

/-- Rows of the PC page (R480). -/
def rowsPc4 : List Row :=
  [⟨PC_CAL_LANE_DLY.reject_run, .ro, 0x0, none⟩,
   ⟨PC_CAL_LANE_EYE.eye, .ro, 0x0, none⟩,
   ⟨PC_CAL_LANE_EYE.eye_start, .ro, 0x0, none⟩,
   ⟨PC_CAL_LANE_EYE.drift, .ro, 0x0, none⟩,
   ⟨PC_CAL_VREF.rd_vref, .ro, 0x0, none⟩,
   ⟨PC_CAL_VREF.wr_vref, .ro, 0x0, none⟩,
   ⟨PC_CAL_EYE_MIN.eye, .ro, 0x0, none⟩,
   ⟨PC_CAL_EYE_MIN.via, .ro, 0x0, none⟩]

/-- All rows of the PC page. -/
def rowsPc : List Row := rowsPc1 ++ rowsPc2 ++ rowsPc3 ++ rowsPc4

/-- The fields of the PC page that reset to a value other than 0, by offset × 32 + lowest bit. -/
def resetsPc : List (Nat × Nat) :=
  [(8192, 16), (8320, 36), (8328, 12), (9216, 8), (9728, 2048), (9759, 1), (10240, 1), (10256, 100), (16392, 1), (24576, 1), (24584, 8), (24592, 60), (24837, 1)]

/-- Rows of the SCRUB page (R118). -/
def rowsScrub : List Row :=
  [⟨SCRUB_CTL.scrub_en, .rw, 0x1, none⟩,
   ⟨SCRUB_CTL.period_h, .rw, 0x8, some (1, 72)⟩,
   ⟨SCRUB_CTL.batch_kib, .rw, 0x400, some (64, 16384)⟩,
   ⟨SCRUB_STAT.running, .ro, 0x0, none⟩,
   ⟨SCRUB_STAT.behind, .ro, 0x0, none⟩,
   ⟨SCRUB_STAT.overdue, .ro, 0x0, none⟩,
   ⟨SCRUB_STAT.pc_last, .ro, 0x0, none⟩,
   ⟨SCRUB_PASSES.count, .ro, 0x0, none⟩,
   ⟨SCRUB_OLDEST_S.s, .ro, 0x0, none⟩,
   ⟨SCRUB_CE.count, .ro, 0x0, none⟩,
   ⟨SCRUB_UC.count, .ro, 0x0, none⟩,
   ⟨SCRUB_POISON.count, .ro, 0x0, none⟩,
   ⟨SCRUB_SKIPPED.count, .ro, 0x0, none⟩,
   ⟨SCRUB_SELFCHK_FAIL.count, .ro, 0x0, none⟩,
   ⟨SCRUB_SELFCHK_SKIP.count, .ro, 0x0, none⟩]

/-- The fields of the SCRUB page that reset to a value other than 0, by offset × 32 + lowest bit. -/
def resetsScrub : List (Nat × Nat) :=
  [(8192, 1), (8200, 8), (8208, 1024)]

/-- Rows of the TIPIN page (R120). -/
def rowsTipin : List Row :=
  [⟨TIPIN_CTL.auto_repair, .rwl, 0x1, none⟩,
   ⟨TIPIN_CTL.auto_retire, .rwl, 0x1, none⟩,
   ⟨TIPIN_IDX.index, .rw, 0x0, none⟩,
   ⟨TIPIN_ENTRY.entry, .ro, 0x0, none⟩,
   ⟨TIPIN_FIELD_USED.count, .ro, 0x0, none⟩,
   ⟨TIPIN_FACTORY_USED.count, .ro, 0x0, none⟩,
   ⟨TIPIN_BAD_SLOTS.count, .ro, 0x0, none⟩,
   ⟨TIPIN_REQ_LO.dpa, .rw, 0x0, none⟩,
   ⟨TIPIN_REQ_HI.dpa, .rw, 0x0, none⟩,
   ⟨TIPIN_REQ_CMD.repair, .wo, 0x0, none⟩,
   ⟨TIPIN_REQ_STAT.busy, .ro, 0x0, none⟩,
   ⟨TIPIN_REQ_STAT.done, .rw1c, 0x0, none⟩,
   ⟨TIPIN_REQ_STAT.refused, .rw1c, 0x0, none⟩,
   ⟨TIPIN_REQ_STAT.reason, .ro, 0x0, none⟩,
   ⟨TIPIN_SPARE_LO.in_use, .ro, 0x0, none⟩,
   ⟨TIPIN_SPARE_HI.in_use, .ro, 0x0, none⟩,
   ⟨TIPIN_RETIRE_PEND.count, .ro, 0x0, none⟩,
   ⟨TIPIN_RECOVER_CTL.wait_us, .rw, 0x32, some (0, 200)⟩,
   ⟨TIPIN_RECOVER_OK.count, .ro, 0x0, none⟩,
   ⟨TIPIN_RECOVER_FAIL.count, .ro, 0x0, none⟩,
   ⟨TIPIN_RECORD_SEQ_LO.seq, .ro, 0x0, none⟩,
   ⟨TIPIN_RECORD_SEQ_HI.seq, .ro, 0x0, none⟩,
   ⟨TIPIN_RECORD_STAT.pending, .ro, 0x0, none⟩,
   ⟨TIPIN_RECORD_STAT.volatile, .ro, 0x0, none⟩]

/-- The fields of the TIPIN page that reset to a value other than 0, by offset × 32 + lowest bit. -/
def resetsTipin : List (Nat × Nat) :=
  [(8192, 1), (8193, 1), (9856, 50)]

/-- Rows of the FOLIO page (R163). -/
def rowsFolio1 : List Row :=
  [⟨FOLIO_CTL.persist_en, .rwl, 0x1, none⟩,
   ⟨FOLIO_CTL.key_retain, .rwl, 0x0, none⟩,
   ⟨FOLIO_CTL.gpf_ckpt, .rw, 0x0, none⟩,
   ⟨FOLIO_CTL.reclaim_en, .rw, 0x1, none⟩,
   ⟨FOLIO_CMD.ckpt, .wo, 0x0, none⟩,
   ⟨FOLIO_CMD.ckpt_limited, .wo, 0x0, none⟩,
   ⟨FOLIO_CMD.ckpt_cancel, .wo, 0x0, none⟩,
   ⟨FOLIO_CKPT_LIMIT.quires, .rw, 0x4000, none⟩,
   ⟨FOLIO_STAT.persist, .ro, 0x1, none⟩,
   ⟨FOLIO_STAT.activity, .ro, 0x0, none⟩,
   ⟨FOLIO_STAT.image_valid, .ro, 0x0, none⟩,
   ⟨FOLIO_STAT.map_lost, .ro, 0x0, none⟩,
   ⟨FOLIO_STAT.ckpt_queued, .ro, 0x0, none⟩,
   ⟨FOLIO_STAT.hold, .ro, 0x0, none⟩,
   ⟨FOLIO_STAT.colophon_time_valid, .ro, 0x0, none⟩,
   ⟨FOLIO_DIRTY.count, .ro, 0x0, none⟩,
   ⟨FOLIO_STAGED.count, .ro, 0x0, none⟩,
   ⟨FOLIO_SPACE.quires, .ro, 0x0, none⟩,
   ⟨FOLIO_BUDGET.quires, .ro, 0x0, none⟩,
   ⟨FOLIO_BSN_LO.bsn, .ro, 0x0, none⟩,
   ⟨FOLIO_BSN_HI.bsn, .ro, 0x0, none⟩,
   ⟨FOLIO_LIFT_BSN_LO.bsn, .ro, 0x0, none⟩,
   ⟨FOLIO_LIFT_BSN_HI.bsn, .ro, 0x0, none⟩,
   ⟨FOLIO_BSN_TOP_LO.bsn, .ro, 0x0, none⟩]

/-- Rows of the FOLIO page (R163). -/
def rowsFolio2 : List Row :=
  [⟨FOLIO_BSN_TOP_HI.bsn, .ro, 0x0, none⟩,
   ⟨FOLIO_HOLDS.count, .ro, 0x0, none⟩,
   ⟨FOLIO_HOLD_MAX.us, .rw, 0x0, none⟩,
   ⟨FOLIO_LAST.quires, .ro, 0x0, none⟩,
   ⟨FOLIO_LAST.kind, .ro, 0x0, none⟩,
   ⟨FOLIO_LAST_US.us, .ro, 0x0, none⟩,
   ⟨FOLIO_LIFT_LEFT.quires, .ro, 0x0, none⟩,
   ⟨FOLIO_LIFT_FAIL.count, .ro, 0x0, none⟩,
   ⟨FOLIO_HEALTH.healthy, .ro, 0x1100, none⟩,
   ⟨FOLIO_HEALTH.required, .ro, 0x1080, none⟩,
   ⟨FOLIO_RETIRED.count, .ro, 0x0, none⟩,
   ⟨FOLIO_WEAR.max, .ro, 0x0, none⟩,
   ⟨FOLIO_WEAR.mean, .ro, 0x0, none⟩,
   ⟨FOLIO_WEAR_IDX.block, .rw, 0x0, none⟩,
   ⟨FOLIO_WEAR_VAL.count, .ro, 0x0, none⟩,
   ⟨FOLIO_WEAR_VAL.retired, .ro, 0x0, none⟩,
   ⟨FOLIO_WEAR_VAL.system, .ro, 0x0, none⟩,
   ⟨FOLIO_QUIRE_IDX.quire, .rw, 0x0, none⟩,
   ⟨FOLIO_QUIRE_ENTRY.entry, .ro, 0x0, none⟩,
   ⟨FOLIO_GPF.count, .ro, 0x0, none⟩,
   ⟨FOLIO_CKPTS.count, .ro, 0x0, none⟩]

/-- All rows of the FOLIO page. -/
def rowsFolio : List Row := rowsFolio1 ++ rowsFolio2

/-- The fields of the FOLIO page that reset to a value other than 0, by offset × 32 + lowest bit. -/
def resetsFolio : List (Nat × Nat) :=
  [(8192, 1), (8195, 1), (8448, 16384), (8576, 1), (10752, 4352), (10768, 4224)]

/-- Rows of the BANK page (R188). -/
def rowsBank1 : List Row :=
  [⟨BANK_CTL.charge_en, .rwl, 0x1, none⟩,
   ⟨BANK_CTL.target, .rwl, 0x70, some (48, 116)⟩,
   ⟨BANK_CTL.i_max, .rwl, 0x10, some (2, 16)⟩,
   ⟨BANK_CTL.margin_pct, .rwl, 0x82, some (130, 200)⟩,
   ⟨BANK_MEAS_CTL.period_h, .rw, 0x18, some (1, 24)⟩,
   ⟨BANK_CMD.measure, .wo, 0x0, none⟩,
   ⟨BANK_CMD.eeprom_reread, .wo, 0x0, none⟩,
   ⟨BANK_STAT.presence, .ro, 0x0, none⟩,
   ⟨BANK_STAT.charging, .ro, 0x0, none⟩,
   ⟨BANK_STAT.at_target, .ro, 0x0, none⟩,
   ⟨BANK_STAT.measuring, .ro, 0x0, none⟩,
   ⟨BANK_STAT.meas_valid, .ro, 0x0, none⟩,
   ⟨BANK_STAT.covered, .ro, 0x0, none⟩,
   ⟨BANK_STAT.worn, .ro, 0x0, none⟩,
   ⟨BANK_STAT.esr_high, .ro, 0x0, none⟩,
   ⟨BANK_STAT.foreign, .ro, 0x0, none⟩,
   ⟨BANK_STAT.level, .ro, 0x0, none⟩,
   ⟨BANK_VBANK.mv, .ro, 0x0, none⟩,
   ⟨BANK_ICHG.ma, .ro, 0x0, none⟩,
   ⟨BANK_CAP.uf, .ro, 0x0, none⟩,
   ⟨BANK_ESR.esr, .ro, 0x0, none⟩,
   ⟨BANK_ENERGY.mj, .ro, 0x0, none⟩,
   ⟨BANK_VEND.mv, .ro, 0x2710, none⟩,
   ⟨BANK_BUDGET_E.quires, .ro, 0x0, none⟩]

/-- Rows of the BANK page (R188). -/
def rowsBank2 : List Row :=
  [⟨BANK_MEAS_TIME_LO.time, .ro, 0x0, none⟩,
   ⟨BANK_MEAS_TIME_HI.time, .ro, 0x0, none⟩,
   ⟨BANK_MEAS_CNT.count, .ro, 0x0, none⟩,
   ⟨BANK_RATED.cap_mf, .ro, 0x0, none⟩,
   ⟨BANK_RATED.volt_dv, .ro, 0x0, none⟩,
   ⟨BANK_MFG_DATE.year, .ro, 0x0, none⟩,
   ⟨BANK_MFG_DATE.month, .ro, 0x0, none⟩,
   ⟨BANK_MFG_DATE.day, .ro, 0x0, none⟩,
   ⟨BANK_CYCLES.count, .ro, 0x0, none⟩,
   ⟨BANK_PF_CTL.vin_thresh, .rwl, 0x55, some (60, 550)⟩,
   ⟨BANK_PF_CTL.filter_us, .rwl, 0x14, some (20, 500)⟩,
   ⟨BANK_PF_CTL.pfail_en, .rwl, 0x1, none⟩,
   ⟨BANK_PF_CTL.bus48, .ro, 0x0, none⟩,
   ⟨BANK_PF_STAT.vin_low, .ro, 0x0, none⟩,
   ⟨BANK_PF_STAT.pfail, .ro, 0x0, none⟩,
   ⟨BANK_PF_STAT.bank_sw, .ro, 0x0, none⟩,
   ⟨BANK_PF_STAT.input_open, .ro, 0x0, none⟩,
   ⟨BANK_RIDETHRU.count, .ro, 0x0, none⟩,
   ⟨BANK_PF_LAST.cause, .ro, 0x0, none⟩,
   ⟨BANK_PF_LAST.false_alarm, .ro, 0x0, none⟩,
   ⟨BANK_VIN.mv, .ro, 0x0, none⟩,
   ⟨BANK_LEVEL_CTL.trickle_pct, .rw, 0x4B, some (50, 95)⟩,
   ⟨BANK_LEVEL_CTL.demote_pct, .rw, 0x5A, none⟩]

/-- All rows of the BANK page. -/
def rowsBank : List Row := rowsBank1 ++ rowsBank2

/-- The fields of the BANK page that reset to a value other than 0, by offset × 32 + lowest bit. -/
def resetsBank : List (Nat × Nat) :=
  [(8192, 1), (8200, 112), (8208, 16), (8216, 130), (8320, 24), (9344, 10000), (10368, 85), (10384, 20), (10396, 1), (11008, 75), (11016, 90)]

/-- Rows of the CRYPT page (R225). -/
def rowsCrypt1 : List Row :=
  [⟨CRYPT_CAP.slots, .ro, 0x108, none⟩,
   ⟨CRYPT_CAP.range_keys, .ro, 0x8, none⟩,
   ⟨CRYPT_CAP.tag_bits, .ro, 0x20, none⟩,
   ⟨CRYPT_CARVE_CMD.activate, .wo, 0x0, none⟩,
   ⟨CRYPT_CARVE_CMD.deactivate, .wo, 0x0, none⟩,
   ⟨CRYPT_CARVE_STAT.active, .ro, 0x0, none⟩,
   ⟨CRYPT_CARVE_STAT.busy, .ro, 0x0, none⟩,
   ⟨CRYPT_CARVE_STAT.refused, .rw1c, 0x0, none⟩,
   ⟨CRYPT_CARVE_STAT.reason, .ro, 0x0, none⟩,
   ⟨CRYPT_SLOT_IDX.slot, .rw, 0x0, none⟩,
   ⟨CRYPT_SLOT_STAT.loaded, .ro, 0x0, none⟩,
   ⟨CRYPT_SLOT_STAT.plaintext, .ro, 0x0, none⟩,
   ⟨CRYPT_SLOT_STAT.integrity, .ro, 0x0, none⟩,
   ⟨CRYPT_SLOT_STAT.pending, .ro, 0x0, none⟩,
   ⟨CRYPT_SLOT_STAT.rekey_from, .ro, 0x0, none⟩,
   ⟨CRYPT_SLOT_STAT.rekey_to, .ro, 0x0, none⟩,
   ⟨CRYPT_SLOT_STAT.src_valid, .ro, 0x0, none⟩,
   ⟨CRYPT_SLOT_STAT.generation, .ro, 0x0, none⟩,
   ⟨CRYPT_SLOT_STAT.rekey_src, .ro, 0x0, none⟩,
   ⟨CRYPT_SLOT_KCV.kcv, .ro, 0x0, none⟩,
   ⟨CRYPT_LOADED.count, .ro, 0x0, none⟩,
   ⟨CRYPT_RIGHTS_SEL.ld, .rw, 0x0, none⟩,
   ⟨CRYPT_RIGHTS_SEL.word, .rw, 0x0, none⟩,
   ⟨CRYPT_RIGHTS_VAL.rights, .ro, 0x0, none⟩]

/-- Rows of the CRYPT page (R225). -/
def rowsCrypt2 : List Row :=
  [⟨CRYPT_TCACHE_CTL.flush, .wo, 0x0, none⟩,
   ⟨CRYPT_TCACHE_STAT.dirty, .ro, 0x0, none⟩,
   ⟨CRYPT_TCACHE_STAT.flushing, .ro, 0x0, none⟩,
   ⟨CRYPT_TCACHE_HIT.count, .ro, 0x0, none⟩,
   ⟨CRYPT_TCACHE_MISS.count, .ro, 0x0, none⟩,
   ⟨CRYPT_TAG_FAIL.count, .ro, 0x0, none⟩,
   ⟨CRYPT_ACC_REFUSED.count, .ro, 0x0, none⟩,
   ⟨CRYPT_TAG_RECOVERED.count, .ro, 0x0, none⟩,
   ⟨CRYPT_RANGE_BASE.base_quire, .ro, 0x0, none⟩,
   ⟨CRYPT_RANGE_END.end_quire, .ro, 0x0, none⟩,
   ⟨CRYPT_RANGE_CFG.enabled, .ro, 0x0, none⟩,
   ⟨CRYPT_RANGE_CFG.ld_mask, .ro, 0x0, none⟩,
   ⟨CRYPT_RANGE_REFUSED.count, .ro, 0x0, none⟩,
   ⟨CRYPT_KEYCMD_LAST.opcode, .ro, 0x0, none⟩,
   ⟨CRYPT_KEYCMD_LAST.status, .ro, 0x0, none⟩,
   ⟨CRYPT_KEYCMD_LAST.fm, .ro, 0x0, none⟩,
   ⟨CRYPT_KEYCMD_CNT.count, .ro, 0x0, none⟩]

/-- All rows of the CRYPT page. -/
def rowsCrypt : List Row := rowsCrypt1 ++ rowsCrypt2

/-- The fields of the CRYPT page that reset to a value other than 0, by offset × 32 + lowest bit. -/
def resetsCrypt : List (Nat × Nat) :=
  [(8192, 264), (8204, 8), (8208, 32)]

/-- Rows of the GAUGE page (R242). -/
def rowsGauge1 : List Row :=
  [⟨GAUGE_CTL.budget_en, .rw, 0x1, none⟩,
   ⟨GAUGE_CTL.guar_en, .rw, 0x1, none⟩,
   ⟨GAUGE_CTL.stage, .rw, 0x0, none⟩,
   ⟨GAUGE_WINDOW.window_us, .rw, 0xA, some (1, 1000)⟩,
   ⟨GAUGE_RESERVE.bind_gbps, .rwl, 0x18, none⟩,
   ⟨GAUGE_RESERVE.lift_gbps, .rwl, 0x50, none⟩,
   ⟨GAUGE_ENG_MARK.scrub, .rw, 0x1, none⟩,
   ⟨GAUGE_ENG_MARK.clear, .rw, 0x2, none⟩,
   ⟨GAUGE_ENG_MARK.lift, .rw, 0x5, none⟩,
   ⟨GAUGE_ENG_MARK.rekey, .rw, 0x1, none⟩,
   ⟨GAUGE_ENG_MARK.migrate, .rw, 0x4, none⟩,
   ⟨GAUGE_ENG_MARK.resync, .rw, 0x3, none⟩,
   ⟨GAUGE_ENG_MARK.bind, .rw, 0x4, none⟩,
   ⟨GAUGE_ENG_MARK.dove, .rw, 0x6, none⟩,
   ⟨GAUGE_ENG_MARK.mgmt, .rw, 0x2, none⟩,
   ⟨GAUGE_STAT.oversub, .ro, 0x0, none⟩,
   ⟨GAUGE_STAT.staged, .ro, 0x0, none⟩,
   ⟨GAUGE_STAT.short, .ro, 0x0, none⟩,
   ⟨GAUGE_RAW.bw, .ro, 0x0, none⟩,
   ⟨GAUGE_PCAP.bw, .ro, 0xFFFF, none⟩,
   ⟨GAUGE_DELIV.bw, .ro, 0x0, none⟩,
   ⟨GAUGE_GUAR_SUM.bw, .ro, 0x0, none⟩,
   ⟨GAUGE_PAIR_IDX.pair, .rw, 0x0, none⟩,
   ⟨GAUGE_PAIR_CFG.map_class, .rw, 0x0, none⟩]

/-- Rows of the GAUGE page (R242). -/
def rowsGauge2 : List Row :=
  [⟨GAUGE_PAIR_CFG.budget_en, .rw, 0x0, none⟩,
   ⟨GAUGE_PAIR_CFG.guar_en, .rw, 0x0, none⟩,
   ⟨GAUGE_PAIR_BUDGET.lines, .rw, 0x0, none⟩,
   ⟨GAUGE_PAIR_GUAR.lines, .rw, 0x0, none⟩,
   ⟨GAUGE_PAIR_USED.lines, .ro, 0x0, none⟩,
   ⟨GAUGE_PAIR_MISS.count, .rw, 0x0, none⟩,
   ⟨GAUGE_PAIR_STAT.over, .ro, 0x0, none⟩,
   ⟨GAUGE_PAIR_STAT.demoted, .ro, 0x0, none⟩,
   ⟨GAUGE_MISS_MAP.miss, .rw1c, 0x0, none⟩,
   ⟨GAUGE_OVER_MAP.over, .ro, 0x0, none⟩,
   ⟨GAUGE_DEMOTE_MAP.master, .ro, 0x0, none⟩,
   ⟨GAUGE_WINDOWS.count, .ro, 0x0, none⟩,
   ⟨GAUGE_OVERSUB_CNT.count, .ro, 0x0, none⟩]

/-- All rows of the GAUGE page. -/
def rowsGauge : List Row := rowsGauge1 ++ rowsGauge2

/-- The fields of the GAUGE page that reset to a value other than 0, by offset × 32 + lowest bit. -/
def resetsGauge : List (Nat × Nat) :=
  [(8192, 1), (8193, 1), (8320, 10), (8448, 24), (8456, 80), (8576, 1), (8579, 2), (8582, 5), (8585, 1), (8588, 4), (8591, 3), (8594, 4), (8597, 6), (8600, 2), (8960, 65535)]

/-- Rows of the CHISEL page (R273, R274). -/
def rowsChisel1 : List Row :=
  [⟨CHISEL_CAP.lanes, .ro, 0x40, none⟩,
   ⟨CHISEL_CAP.max_jobs, .ro, 0x10, none⟩,
   ⟨CHISEL_CAP.ops, .ro, 0x7F, none⟩,
   ⟨CHISEL_CAP.rings, .ro, 0x10, none⟩,
   ⟨CHISEL_CTL.chisel_en, .rwl, 0x1, none⟩,
   ⟨CHISEL_STAT.jobs, .ro, 0x0, none⟩,
   ⟨CHISEL_STAT.lanes_busy, .ro, 0x0, none⟩,
   ⟨CHISEL_JOBS_DONE.count, .ro, 0x0, none⟩,
   ⟨CHISEL_JOBS_FAILED.count, .ro, 0x0, none⟩,
   ⟨CHISEL_LATE.count, .ro, 0x0, none⟩,
   ⟨CHISEL_BYTES_LO.bytes, .ro, 0x0, none⟩,
   ⟨CHISEL_BYTES_HI.bytes, .ro, 0x0, none⟩,
   ⟨CHISEL_POISON_LINES.count, .ro, 0x0, none⟩,
   ⟨CHISEL_IRQ_DROPPED.count, .ro, 0x0, none⟩,
   ⟨CHISEL_HOLD_NS.ns, .rw, 0x0, none⟩,
   ⟨CHISEL_RING_BASE_LO.base, .rw, 0x0, none⟩,
   ⟨CHISEL_RING_BASE_HI.base, .rw, 0x0, none⟩,
   ⟨CHISEL_RING_CTL.enable, .rw, 0x0, none⟩,
   ⟨CHISEL_RING_CTL.size_log2, .rw, 0x4, some (4, 16)⟩,
   ⟨CHISEL_RING_CTL.keyid, .rw, 0x0, none⟩,
   ⟨CHISEL_RING_CTL.msix_vec, .rw, 0x0, none⟩,
   ⟨CHISEL_RING_TAIL.tail, .rw, 0x0, none⟩,
   ⟨CHISEL_RING_HEAD.head, .ro, 0x0, none⟩,
   ⟨CHISEL_RING_STAT.in_flight, .ro, 0x0, none⟩]

/-- Rows of the CHISEL page (R274). -/
def rowsChisel2 : List Row :=
  [⟨CHISEL_RING_STAT.stalled, .ro, 0x0, none⟩,
   ⟨CHISEL_RING_STAT.fence_wait, .ro, 0x0, none⟩,
   ⟨CHISEL_RING_STAT.abort_nomatch, .rw1c, 0x0, none⟩,
   ⟨CHISEL_RING_ABORT.job_id, .wo, 0x0, none⟩,
   ⟨CHISEL_RING_ABORT.gen, .wo, 0x0, none⟩,
   ⟨CHISEL_RING_ABORT.go, .wo, 0x0, none⟩,
   ⟨CHISEL_RING_ABORT.all, .wo, 0x0, none⟩,
   ⟨CHISEL_RING_DONE.count, .ro, 0x0, none⟩]

/-- All rows of the CHISEL page. -/
def rowsChisel : List Row := rowsChisel1 ++ rowsChisel2

/-- The fields of the CHISEL page that reset to a value other than 0, by offset × 32 + lowest bit. -/
def resetsChisel : List (Nat × Nat) :=
  [(8192, 64), (8200, 16), (8208, 127), (8216, 16), (8320, 1), (16648, 4)]

/-- Rows of the DOVE page (R312). -/
def rowsDove1 : List Row :=
  [⟨DOVE_CTL.dove_en, .rwl, 0x1, none⟩,
   ⟨DOVE_CTL.auto_promote, .rwl, 0x0, none⟩,
   ⟨DOVE_CTL.promote_delay_us, .rwl, 0x64, none⟩,
   ⟨DOVE_CMD.join, .wo, 0x0, none⟩,
   ⟨DOVE_CMD.leave, .wo, 0x0, none⟩,
   ⟨DOVE_CMD.config, .wo, 0x0, none⟩,
   ⟨DOVE_CMD.unconfig, .wo, 0x0, none⟩,
   ⟨DOVE_CMD.promote, .wo, 0x0, none⟩,
   ⟨DOVE_CMD.demote, .wo, 0x0, none⟩,
   ⟨DOVE_CMD.accept, .wo, 0x0, none⟩,
   ⟨DOVE_CMD.range, .wo, 0x0, none⟩,
   ⟨DOVE_CMD.all, .wo, 0x0, none⟩,
   ⟨DOVE_STAT.link, .ro, 0x0, none⟩,
   ⟨DOVE_STAT.pair, .ro, 0x0, none⟩,
   ⟨DOVE_STAT.width, .ro, 0x0, none⟩,
   ⟨DOVE_STAT.speed, .ro, 0x0, none⟩,
   ⟨DOVE_STAT.area, .ro, 0x0, none⟩,
   ⟨DOVE_PARTNER.unit, .ro, 0x0, none⟩,
   ⟨DOVE_PARTNER.valid, .ro, 0x0, none⟩,
   ⟨DOVE_PARTNER.replaced, .ro, 0x0, none⟩,
   ⟨DOVE_PARTNER_POOL.pool, .ro, 0x0, none⟩,
   ⟨DOVE_REFUSE.reason, .ro, 0x0, none⟩,
   ⟨DOVE_Q_OCC.entries, .ro, 0x0, none⟩,
   ⟨DOVE_Q_MAX.entries, .rw, 0x0, none⟩]

/-- Rows of the DOVE page (R312, R313). -/
def rowsDove2 : List Row :=
  [⟨DOVE_OSN_LO.osn, .ro, 0x0, none⟩,
   ⟨DOVE_OSN_HI.osn, .ro, 0x0, none⟩,
   ⟨DOVE_ACKED_LO.osn, .ro, 0x0, none⟩,
   ⟨DOVE_ACKED_HI.osn, .ro, 0x0, none⟩,
   ⟨DOVE_APPLIED_LO.osn, .ro, 0x0, none⟩,
   ⟨DOVE_APPLIED_HI.osn, .ro, 0x0, none⟩,
   ⟨DOVE_REPLAYS.count, .ro, 0x0, none⟩,
   ⟨DOVE_FEC_CORR.count, .ro, 0x0, none⟩,
   ⟨DOVE_CRC_FAIL.count, .ro, 0x0, none⟩,
   ⟨DOVE_MAC_FAIL.count, .ro, 0x0, none⟩,
   ⟨DOVE_HB_MISS.count, .ro, 0x0, none⟩,
   ⟨DOVE_LOSSES.count, .ro, 0x0, none⟩,
   ⟨DOVE_WRITE_REFUSED.count, .ro, 0x0, none⟩,
   ⟨DOVE_WAIT_MAX.ns, .rw, 0x0, none⟩,
   ⟨DOVE_LOSS_TIME_LO.time, .ro, 0x0, none⟩,
   ⟨DOVE_LOSS_TIME_HI.time, .ro, 0x0, none⟩,
   ⟨DOVE_RANGE_BASE.base_quire, .rw, 0x0, none⟩,
   ⟨DOVE_RANGE_END.end_quire, .rw, 0x0, none⟩,
   ⟨DOVE_RANGE_STAT.state, .ro, 0x0, none⟩,
   ⟨DOVE_RANGE_STAT.primary, .ro, 0x0, none⟩,
   ⟨DOVE_RANGE_STAT.refused, .rw1c, 0x0, none⟩,
   ⟨DOVE_RANGE_MARKED.quires, .ro, 0x0, none⟩]

/-- All rows of the DOVE page. -/
def rowsDove : List Row := rowsDove1 ++ rowsDove2

/-- The fields of the DOVE page that reset to a value other than 0, by offset × 32 + lowest bit. -/
def resetsDove : List (Nat × Nat) :=
  [(8192, 1), (8208, 100)]

/-- Rows of the PORT page (R356). -/
def rowsPort1 : List Row :=
  [⟨PORT_CAP.ld_max, .ro, 0x4, none⟩,
   ⟨PORT_CAP.hdmdb, .ro, 0x1, none⟩,
   ⟨PORT_CAP.tsp, .ro, 0x1, none⟩,
   ⟨PORT_CAP.rate_max, .ro, 0x2, none⟩,
   ⟨PORT_CAP.decoders, .ro, 0x8, none⟩,
   ⟨PORT_CTL.port_en, .rwl, 0x1, none⟩,
   ⟨PORT_CTL.hdmdb_en, .rwl, 0x1, none⟩,
   ⟨PORT_CTL.tsp_en, .rwl, 0x1, none⟩,
   ⟨PORT_CTL.rate_cap, .rwl, 0x0, none⟩,
   ⟨PORT_CTL.x4_only, .rwl, 0x0, none⟩,
   ⟨PORT_LINK_STAT.mode, .ro, 0x0, none⟩,
   ⟨PORT_LINK_STAT.rate, .ro, 0x0, none⟩,
   ⟨PORT_LINK_STAT.width, .ro, 0x0, none⟩,
   ⟨PORT_LINK_STAT.mld, .ro, 0x0, none⟩,
   ⟨PORT_LINK_STAT.lds_bound, .ro, 0x0, none⟩,
   ⟨PORT_LINK_STAT.mem_active, .ro, 0x0, none⟩,
   ⟨PORT_LINK_STAT.epoch, .ro, 0x0, none⟩,
   ⟨PORT_RESET_STAT.last_cause, .ro, 0x0, none⟩,
   ⟨PORT_RESET_STAT.last_ld, .ro, 0x0, none⟩,
   ⟨PORT_RESETS.count, .ro, 0x0, none⟩,
   ⟨PORT_DROPPED_CPL.count, .ro, 0x0, none⟩,
   ⟨PORT_DISCARD_FLITS.count, .ro, 0x0, none⟩,
   ⟨PORT_REFUSED.count, .ro, 0x0, none⟩,
   ⟨PORT_IDE_STAT.io_link, .ro, 0x0, none⟩]

/-- Rows of the PORT page (R356, R357). -/
def rowsPort2 : List Row :=
  [⟨PORT_IDE_STAT.io_sel, .ro, 0x0, none⟩,
   ⟨PORT_IDE_STAT.cachemem, .ro, 0x0, none⟩,
   ⟨PORT_IDE_STAT.skid, .ro, 0x0, none⟩,
   ⟨PORT_IDE_STAT.key_set, .ro, 0x0, none⟩,
   ⟨PORT_IDE_STAT.insecure, .ro, 0x0, none⟩,
   ⟨PORT_IDE_ERR.count, .ro, 0x0, none⟩,
   ⟨PORT_BI_CTL.timeout_us, .rw, 0x64, some (10, 1000)⟩,
   ⟨PORT_BI_STAT.sf_occ, .ro, 0x0, none⟩,
   ⟨PORT_BI_SENT.count, .ro, 0x0, none⟩,
   ⟨PORT_BI_TIMEOUT.count, .ro, 0x0, none⟩,
   ⟨PORT_BI_MAX_NS.ns, .rw, 0x0, none⟩,
   ⟨PORT_DENIED.count, .ro, 0x0, none⟩,
   ⟨PORT_TS_IGNORED.count, .ro, 0x0, none⟩,
   ⟨PORT_LD_CFG.admin, .rwl, 0x0, none⟩,
   ⟨PORT_LD_CFG.ts_master, .rwl, 0x0, none⟩,
   ⟨PORT_LD_CFG.page_vec, .rw, 0x2, none⟩,
   ⟨PORT_LD_CFG.bound, .ro, 0x0, none⟩,
   ⟨PORT_LD_STAT.dec_committed, .ro, 0x0, none⟩,
   ⟨PORT_LD_STAT.hdmdb, .ro, 0x0, none⟩,
   ⟨PORT_LD_STAT.tsp_active, .ro, 0x0, none⟩,
   ⟨PORT_LD_EVT_OCC.info, .ro, 0x0, none⟩,
   ⟨PORT_LD_EVT_OCC.warn, .ro, 0x0, none⟩,
   ⟨PORT_LD_EVT_OCC.fail, .ro, 0x0, none⟩,
   ⟨PORT_LD_EVT_OCC.fatal, .ro, 0x0, none⟩]

/-- Rows of the PORT page (R357, R385). -/
def rowsPort3 : List Row :=
  [⟨PORT_LD_REFUSED.count, .ro, 0x0, none⟩,
   ⟨PORT_LD_ALLOC_BASE.base_quire, .rwl, 0x0, none⟩,
   ⟨PORT_LD_ALLOC_END.end_quire, .rwl, 0x0, none⟩,
   ⟨PHY_GRP_SEL.dove, .rw, 0x0, none⟩,
   ⟨PHY_CTL.polarity_auto, .rwl, 0x1, none⟩,
   ⟨PHY_CTL.reversal_en, .rwl, 0x1, none⟩,
   ⟨PHY_CTL.precode_req, .rwl, 0x1, none⟩,
   ⟨PHY_CTL.eq_bypass_en, .rwl, 0x1, none⟩,
   ⟨PHY_CTL.no_eq_en, .rwl, 0x1, none⟩,
   ⟨PHY_CTL.lane_off_en, .rwl, 0x1, none⟩,
   ⟨PHY_CTL.l0s_adv, .rwl, 0x1, none⟩,
   ⟨PHY_CTL.lane_disable, .rwl, 0x0, none⟩,
   ⟨PHY_STAT.ltssm, .ro, 0x0, none⟩,
   ⟨PHY_STAT.reversed, .ro, 0x0, none⟩,
   ⟨PHY_STAT.ssc_seen, .ro, 0x0, none⟩,
   ⟨PHY_STAT.refclk_ok, .ro, 0x0, none⟩,
   ⟨PHY_STAT.pm_state, .ro, 0x0, none⟩,
   ⟨PHY_PM_CTL.l1_idle_us, .rw, 0x10, some (1, 255)⟩,
   ⟨PHY_PM_CTL.l0s_idle, .rw, 0x8, some (1, 255)⟩,
   ⟨PHY_PM_CTL.l1_req_en, .rw, 0x1, none⟩,
   ⟨PHY_PM_STAT.last_outcome, .ro, 0x0, none⟩,
   ⟨PHY_PM_STAT.nak, .ro, 0x0, none⟩,
   ⟨PHY_L1_ENTRIES.count, .ro, 0x0, none⟩,
   ⟨PHY_L1_ABORTS.count, .ro, 0x0, none⟩]

/-- Rows of the PORT page (R385, R386, R481). -/
def rowsPort4 : List Row :=
  [⟨PHY_EXIT_MAX_NS.ns, .rw, 0x0, none⟩,
   ⟨PHY_REFCLK.offset_ppm, .ro, 0x0, none⟩,
   ⟨PHY_RECOVERY.count, .ro, 0x0, none⟩,
   ⟨PHY_ALIGN_LOSS.count, .ro, 0x0, none⟩,
   ⟨PHY_FEC_CORR.count, .ro, 0x0, none⟩,
   ⟨PHY_FEC_UNCORR.count, .ro, 0x0, none⟩,
   ⟨PHY_LANE_STAT.logical, .ro, 0x0, none⟩,
   ⟨PHY_LANE_STAT.inverted, .ro, 0x0, none⟩,
   ⟨PHY_LANE_STAT.active, .ro, 0x0, none⟩,
   ⟨PHY_LANE_STAT.failed, .ro, 0x0, none⟩,
   ⟨PHY_LANE_STAT.precode_tx, .ro, 0x0, none⟩,
   ⟨PHY_LANE_STAT.precode_rx, .ro, 0x0, none⟩,
   ⟨PHY_LANE_STAT.state, .ro, 0x0, none⟩,
   ⟨PHY_LANE_TXEQ.preset, .ro, 0x0, none⟩,
   ⟨PHY_LANE_TXEQ.pre2, .ro, 0x0, none⟩,
   ⟨PHY_LANE_TXEQ.pre1, .ro, 0x0, none⟩,
   ⟨PHY_LANE_TXEQ.post, .ro, 0x0, none⟩,
   ⟨PHY_LANE_TXEQ.main, .ro, 0x0, none⟩,
   ⟨PHY_LANE_RXEQ.ctle_dc, .ro, 0x0, none⟩,
   ⟨PHY_LANE_RXEQ.peaking, .ro, 0x0, none⟩,
   ⟨PHY_LANE_RXEQ.dfe1, .ro, 0x0, none⟩,
   ⟨PHY_LANE_ERR.count, .ro, 0x0, none⟩,
   ⟨PHY_CAL_CTL.cal_en, .rw, 0x1, none⟩,
   ⟨PHY_CAL_CTL.drift_c, .rw, 0x8, some (2, 20)⟩]

/-- Rows of the PORT page (R481). -/
def rowsPort5 : List Row :=
  [⟨PHY_CAL_CTL.period_s, .rw, 0x3C, some (1, 3600)⟩,
   ⟨PHY_CAL_CMD.run, .wo, 0x0, none⟩,
   ⟨PHY_CAL_CMD.abort, .wo, 0x0, none⟩,
   ⟨PHY_CAL_STAT.state, .ro, 0x0, none⟩,
   ⟨PHY_CAL_STAT.pending, .ro, 0x0, none⟩,
   ⟨PHY_CAL_STAT.last_ok, .ro, 0x1, none⟩,
   ⟨PHY_CAL_STAT.tj_last, .ro, 0x0, none⟩,
   ⟨PHY_CAL_RUNS.count, .ro, 0x0, none⟩,
   ⟨PHY_CAL_REJECTS.count, .ro, 0x0, none⟩,
   ⟨PHY_CAL_STEPS.count, .ro, 0x0, none⟩,
   ⟨PHY_CAL_LANE_SEL.lane, .rw, 0x0, none⟩,
   ⟨PHY_CAL_LANE_THR.thr_lo, .ro, 0x0, none⟩,
   ⟨PHY_CAL_LANE_THR.thr_mid, .ro, 0x0, none⟩,
   ⟨PHY_CAL_LANE_THR.thr_hi, .ro, 0x0, none⟩,
   ⟨PHY_CAL_LANE_THR.phase, .ro, 0x0, none⟩,
   ⟨PHY_CAL_LANE_EYE.height, .ro, 0x0, none⟩,
   ⟨PHY_CAL_LANE_EYE.width, .ro, 0x0, none⟩,
   ⟨PHY_CAL_LANE_EYE.rejected_last, .ro, 0x0, none⟩,
   ⟨PHY_CAL_LANE_EYE.reject_run, .ro, 0x0, none⟩,
   ⟨PHY_CAL_EYE_MIN.height, .ro, 0x0, none⟩,
   ⟨PHY_CAL_EYE_MIN.lane, .ro, 0x0, none⟩]

/-- All rows of the PORT page. -/
def rowsPort : List Row := rowsPort1 ++ rowsPort2 ++ rowsPort3 ++ rowsPort4 ++ rowsPort5

/-- The fields of the PORT page that reset to a value other than 0, by offset × 32 + lowest bit. -/
def resetsPort : List (Nat × Nat) :=
  [(8192, 4), (8195, 1), (8196, 1), (8197, 2), (8200, 8), (8320, 1), (8321, 1), (8322, 1), (9472, 100), (16388, 2), (32896, 1), (32897, 1), (32898, 1), (32899, 1), (32900, 1), (32901, 1), (32902, 1), (33152, 16), (33160, 8), (33168, 1), (49152, 1), (49160, 8), (49168, 60), (49413, 1)]

/-- Rows of the SPLINE page (R410). -/
def rowsSpline : List Row :=
  [⟨SPLINE_CAP.routers, .ro, 0x10, none⟩,
   ⟨SPLINE_CAP.classes, .ro, 0x5, none⟩,
   ⟨SPLINE_CAP.planes, .ro, 0x2, none⟩,
   ⟨SPLINE_CAP.max_hops, .ro, 0x8, none⟩,
   ⟨SPLINE_CAP.word_bits, .ro, 0x120, none⟩,
   ⟨SPLINE_CTL.retry_en, .rw, 0x1, none⟩,
   ⟨SPLINE_HOP_LIMIT.ps, .rw, 0x190, some (200, 1000)⟩,
   ⟨SPLINE_HOP_PS.ps, .ro, 0x0, none⟩,
   ⟨SPLINE_HOP_MAX_PS.ps, .rw, 0x0, none⟩,
   ⟨SPLINE_WDOG_CTL.sink_us, .rw, 0xA, some (2, 1000)⟩,
   ⟨SPLINE_WDOG_CTL.req_us, .rw, 0x3E8, some (400, 65535)⟩,
   ⟨SPLINE_CORR.count, .ro, 0x0, none⟩,
   ⟨SPLINE_RETRY.count, .ro, 0x0, none⟩,
   ⟨SPLINE_MUTEX_SLOW.count, .ro, 0x0, none⟩,
   ⟨SPLINE_RESYNC.count, .ro, 0x0, none⟩,
   ⟨SPLINE_RESYNC_MAX_NS.ns, .rw, 0x0, none⟩,
   ⟨SPLINE_XING_SEL.index, .rw, 0x0, none⟩,
   ⟨SPLINE_XING_STAT.state, .ro, 0x0, none⟩,
   ⟨SPLINE_XING_STAT.far_clock, .ro, 0x1, none⟩,
   ⟨SPLINE_XING_STAT.occ_in, .ro, 0x0, none⟩,
   ⟨SPLINE_XING_STAT.occ_out, .ro, 0x0, none⟩,
   ⟨SPLINE_XING_DROP.count, .ro, 0x0, none⟩,
   ⟨SPLINE_TOGGLE_OVR.count, .ro, 0x0, none⟩]

/-- The fields of the SPLINE page that reset to a value other than 0, by offset × 32 + lowest bit. -/
def resetsSpline : List (Nat × Nat) :=
  [(8192, 16), (8197, 5), (8200, 2), (8204, 8), (8208, 288), (8320, 1), (8448, 400), (8832, 10), (8848, 1000), (9730, 1)]

/-- Rows of the CLK page (R436). -/
def rowsClk1 : List Row :=
  [⟨CLK_CTL.auto_return, .rw, 0x1, none⟩,
   ⟨CLK_CTL.mon_en, .rw, 0x1, none⟩,
   ⟨CLK_SRC_STAT.ref_ok, .ro, 0x0, none⟩,
   ⟨CLK_SRC_STAT.ho_ok, .ro, 0x0, none⟩,
   ⟨CLK_SRC_STAT.ao_ok, .ro, 0x0, none⟩,
   ⟨CLK_SRC_STAT.holdover, .ro, 0x0, none⟩,
   ⟨CLK_SRC_STAT.ref_lost, .rw1c, 0x0, none⟩,
   ⟨CLK_REF_KHZ.khz, .ro, 0x0, none⟩,
   ⟨CLK_HO_KHZ.khz, .ro, 0x0, none⟩,
   ⟨CLK_AO_PPM.ppm, .ro, 0x0, none⟩,
   ⟨CLK_PLL_LOCK.layer, .ro, 0x0, none⟩,
   ⟨CLK_PLL_LOCK.system, .ro, 0x0, none⟩,
   ⟨CLK_DOM_SEL.domain, .rw, 0x0, none⟩,
   ⟨CLK_DOM_CTL.src, .rw, 0x0, none⟩,
   ⟨CLK_DOM_STAT.src, .ro, 0x0, none⟩,
   ⟨CLK_DOM_STAT.pll_ready, .ro, 0x0, none⟩,
   ⟨CLK_DOM_STAT.ho_ready, .ro, 0x0, none⟩,
   ⟨CLK_DOM_STAT.switching, .ro, 0x0, none⟩,
   ⟨CLK_DOM_STAT.failover, .ro, 0x0, none⟩,
   ⟨CLK_DOM_STAT.refused, .rw1c, 0x0, none⟩,
   ⟨CLK_DOM_STAT.reason, .ro, 0x0, none⟩,
   ⟨CLK_LOSS_CNT.count, .ro, 0x0, none⟩,
   ⟨CLK_LOSS_TIME_LO.time, .ro, 0x0, none⟩,
   ⟨CLK_LOSS_TIME_HI.time, .ro, 0x0, none⟩]

/-- Rows of the CLK page (R436). -/
def rowsClk2 : List Row :=
  [⟨CLK_SWITCH_MAX_NS.ns, .rw, 0x0, none⟩]

/-- All rows of the CLK page. -/
def rowsClk : List Row := rowsClk1 ++ rowsClk2

/-- The fields of the CLK page that reset to a value other than 0, by offset × 32 + lowest bit. -/
def resetsClk : List (Nat × Nat) :=
  [(8192, 1), (8193, 1)]

/-- Rows of the PWR page (R438). -/
def rowsPwr : List Row :=
  [⟨PWR_CTL.idle_en, .rw, 0x1, none⟩,
   ⟨PWR_DOM_SEL.domain, .rw, 0x0, none⟩,
   ⟨PWR_DOM_CTL.sleep_idle, .rw, 0x64, none⟩,
   ⟨PWR_DOM_CTL.deep_idle_us, .rw, 0x3E8, some (10, 65535)⟩,
   ⟨PWR_DOM_STAT.state, .ro, 0x0, none⟩,
   ⟨PWR_DOM_STAT.clamped, .ro, 0x0, none⟩,
   ⟨PWR_DOM_STAT.rail_good, .ro, 0x1, none⟩,
   ⟨PWR_DOM_STAT.last_outcome, .ro, 0x0, none⟩,
   ⟨PWR_DOM_WAKES.count, .ro, 0x0, none⟩,
   ⟨PWR_DOM_ABORTS.count, .ro, 0x0, none⟩,
   ⟨PWR_WAKE_MAX_NS.ns, .rw, 0x0, none⟩,
   ⟨PWR_SLEEP_MAP0.asleep, .ro, 0x0, none⟩,
   ⟨PWR_SLEEP_MAP1.asleep, .ro, 0x0, none⟩,
   ⟨PWR_SLEEP_MAP2.asleep, .ro, 0x0, none⟩]

/-- The fields of the PWR page that reset to a value other than 0, by offset × 32 + lowest bit. -/
def resetsPwr : List (Nat × Nat) :=
  [(8192, 1), (8448, 100), (8464, 1000), (8581, 1)]

/-- Rows of the TB page (R440). -/
def rowsTb : List Row :=
  [⟨TB_CTL.deep_carry_en, .rw, 0x1, none⟩,
   ⟨TB_STAT.valid, .ro, 0x0, none⟩,
   ⟨TB_STAT.source, .ro, 0x0, none⟩,
   ⟨TB_STAT.skew, .ro, 0x0, none⟩,
   ⟨TB_STAT.stepped_back, .rw1c, 0x0, none⟩,
   ⟨TB_NOW_LO.time, .ro, 0x0, none⟩,
   ⟨TB_NOW_HI.time, .ro, 0x0, none⟩,
   ⟨TB_SKEW_NS.ns, .ro, 0x0, none⟩,
   ⟨TB_RATE_TRIM.ppm, .rwl, 0x0, none⟩,
   ⟨TB_CARRIES.count, .ro, 0x0, none⟩,
   ⟨TB_LAST_CARRY_MS.ms, .ro, 0x0, none⟩,
   ⟨TB_SETS.count, .ro, 0x0, none⟩]

/-- The fields of the TB page that reset to a value other than 0, by offset × 32 + lowest bit. -/
def resetsTb : List (Nat × Nat) :=
  [(8192, 1)]

/-- Rows of the SYS page (R460). -/
def rowsSys1 : List Row :=
  [⟨SYS_ID.variant, .ro, 0x1, none⟩,
   ⟨SYS_ID.stepping, .ro, 0x0, none⟩,
   ⟨SYS_ID.product, .ro, 0x128, none⟩,
   ⟨SYS_UNIT.unit, .ro, 0x1, none⟩,
   ⟨SYS_UNIT.valid, .ro, 0x1, none⟩,
   ⟨SYS_POOL.pool, .rwl, 0x0, none⟩,
   ⟨SYS_LC.state, .ro, 0x2, none⟩,
   ⟨SYS_LC.next, .ro, 0x2, none⟩,
   ⟨SYS_LC.fs_left, .ro, 0x4, none⟩,
   ⟨SYS_LC.restrictive, .ro, 0x0, none⟩,
   ⟨SYS_LC.otp_marginal, .ro, 0x0, none⟩,
   ⟨SYS_LC_CMD.target, .wo, 0x0, none⟩,
   ⟨SYS_LC_CMD.key, .wo, 0x0, none⟩,
   ⟨SYS_LC_STAT.busy, .ro, 0x0, none⟩,
   ⟨SYS_LC_STAT.refused, .rw1c, 0x0, none⟩,
   ⟨SYS_LC_STAT.reason, .ro, 0x0, none⟩,
   ⟨SYS_START_STAT.stage, .ro, 0x1, none⟩,
   ⟨SYS_START_STAT.mem_active, .ro, 0x0, none⟩,
   ⟨SYS_START_STAT.safe, .ro, 0x0, none⟩,
   ⟨SYS_START_STAT.path, .ro, 0x0, none⟩,
   ⟨SYS_START_STAT.full_checks, .ro, 0x0, none⟩,
   ⟨SYS_START_STAT.on_ho, .ro, 0x0, none⟩,
   ⟨SYS_START_US.us, .ro, 0x0, none⟩,
   ⟨SYS_STAGE_SEL.stage, .rw, 0x1, none⟩]

/-- Rows of the SYS page (R460). -/
def rowsSys2 : List Row :=
  [⟨SYS_STAGE_US.us, .ro, 0x0, none⟩,
   ⟨SYS_RST_CAUSE.cause, .ro, 0x1, none⟩,
   ⟨SYS_RST_CMD.device, .wo, 0x0, none⟩,
   ⟨SYS_RST_CMD.carrier_io, .wo, 0x0, none⟩,
   ⟨SYS_RST_CMD.mgmt, .wo, 0x0, none⟩,
   ⟨SYS_RST_CMD.shutdown, .wo, 0x0, none⟩,
   ⟨SYS_RST_CMD.key, .wo, 0x0, none⟩,
   ⟨SYS_SUPPLY.vin_good, .ro, 0x1, none⟩,
   ⟨SYS_SUPPLY.vaux_good, .ro, 0x0, none⟩,
   ⟨SYS_SUPPLY.vbank_present, .ro, 0x0, none⟩,
   ⟨SYS_STARTS.count, .ro, 0x1, none⟩,
   ⟨SYS_HOLDS.count, .ro, 0x0, none⟩,
   ⟨SYS_HOLD_MAX_US.us, .rw, 0x0, none⟩,
   ⟨SYS_BAD_ACCESS.count, .ro, 0x0, none⟩,
   ⟨SYS_SAFE_CAUSE.page, .ro, 0x0, none⟩,
   ⟨SYS_SAFE_CAUSE.code, .ro, 0x0, none⟩]

/-- All rows of the SYS page. -/
def rowsSys : List Row := rowsSys1 ++ rowsSys2

/-- The fields of the SYS page that reset to a value other than 0, by offset × 32 + lowest bit. -/
def resetsSys : List (Nat × Nat) :=
  [(8192, 1), (8208, 296), (8320, 1), (8335, 1), (8576, 2), (8580, 2), (8584, 4), (8960, 1), (9216, 1), (9472, 1), (9728, 1), (9856, 1)]

/-- Rows of the THERM page (R505). -/
def rowsTherm1 : List Row :=
  [⟨THERM_CTL.throttle_en, .rw, 0x1, none⟩,
   ⟨THERM_CTL.xcheck_en, .rw, 0x1, none⟩,
   ⟨THERM_CTL.pcap_en, .rwl, 0x1, none⟩,
   ⟨THERM_LIMIT.throttle_c, .rwl, 0x5D, some (80, 100)⟩,
   ⟨THERM_LIMIT.hyst_c, .rwl, 0x3, some (1, 10)⟩,
   ⟨THERM_LIMIT.rise, .rwl, 0x8, some (2, 40)⟩,
   ⟨THERM_LIMIT.logic_c, .rwl, 0x64, some (85, 105)⟩,
   ⟨THERM_STEP.up_us, .rw, 0x3E8, some (100, 10000)⟩,
   ⟨THERM_STEP.down_us, .rw, 0x1F40, some (1000, 65535)⟩,
   ⟨THERM_XCHECK.margin_c, .rw, 0x6, some (3, 15)⟩,
   ⟨THERM_XCHECK.samples, .rw, 0x3, some (2, 15)⟩,
   ⟨THERM_XCHECK.add_c, .rw, 0x4, some (2, 15)⟩,
   ⟨THERM_XCHECK.clear_s, .rw, 0xA, some (1, 255)⟩,
   ⟨THERM_PCAP_CTL.cap_w, .rwl, 0x6E, some (40, 140)⟩,
   ⟨THERM_PCAP_CTL.window_ms, .rwl, 0x3E8, some (10, 10000)⟩,
   ⟨THERM_PCAP_STAT.cap_skip, .ro, 0x0, none⟩,
   ⟨THERM_PCAP_STAT.binding, .ro, 0x0, none⟩,
   ⟨THERM_PCAP_STAT.avg_w, .ro, 0x0, none⟩,
   ⟨THERM_POWER.w, .ro, 0x0, none⟩,
   ⟨THERM_SENS_SEL.sensor, .rw, 0x0, none⟩,
   ⟨THERM_SENS_VAL.temp, .ro, 0x0, none⟩,
   ⟨THERM_SENS_VAL.fast, .ro, 0x0, none⟩,
   ⟨THERM_SENS_VAL.failed, .ro, 0x0, none⟩,
   ⟨THERM_SENS_MAX.temp, .rw, 0x0, none⟩]

/-- Rows of the THERM page (R505). -/
def rowsTherm2 : List Row :=
  [⟨THERM_LAYER_SEL.layer, .rw, 0x0, none⟩,
   ⟨THERM_LAYER_STAT.reading, .ro, 0x0, none⟩,
   ⟨THERM_LAYER_STAT.estimate, .ro, 0x0, none⟩,
   ⟨THERM_LAYER_STAT.tj_used, .ro, 0x0, none⟩,
   ⟨THERM_LAYER_STAT.level, .ro, 0x0, none⟩,
   ⟨THERM_LAYER_STAT.suspect, .ro, 0x0, none⟩,
   ⟨THERM_LAYER_STAT.critical, .ro, 0x0, none⟩,
   ⟨THERM_LAYER_CE.ce_1s, .ro, 0x0, none⟩,
   ⟨THERM_LAYER_CE.ce_ref, .ro, 0x0, none⟩,
   ⟨THERM_SUSPECT_MAP.layers, .ro, 0x0, none⟩,
   ⟨THERM_THROTTLE_MAP.layers, .ro, 0x0, none⟩,
   ⟨THERM_THROTTLE_MAP.logic_level, .ro, 0x0, none⟩,
   ⟨THERM_DIE_STAT.logic, .ro, 0x0, none⟩,
   ⟨THERM_DIE_STAT.carrier, .ro, 0x0, none⟩,
   ⟨THERM_DIE_STAT.p0, .ro, 0x0, none⟩,
   ⟨THERM_DIE_STAT.p1, .ro, 0x0, none⟩,
   ⟨THERM_EVENTS.count, .ro, 0x0, none⟩,
   ⟨THERM_SUSPECTS.count, .ro, 0x0, none⟩,
   ⟨THERM_RISE_EVENTS.count, .ro, 0x0, none⟩]

/-- All rows of the THERM page. -/
def rowsTherm : List Row := rowsTherm1 ++ rowsTherm2

/-- The fields of the THERM page that reset to a value other than 0, by offset × 32 + lowest bit. -/
def resetsTherm : List (Nat × Nat) :=
  [(8192, 1), (8193, 1), (8194, 1), (8320, 93), (8328, 3), (8332, 8), (8340, 100), (8448, 1000), (8464, 8000), (8576, 6), (8580, 3), (8584, 4), (8592, 10), (8704, 110), (8712, 1000)]

/-- Rows of the ERRPIN page (R536). -/
def rowsErrpin1 : List Row :=
  [⟨ERRPIN_CTL.uc_en, .rwl, 0x0, none⟩,
   ⟨ERRPIN_CTL.hold, .rw, 0x0, none⟩,
   ⟨ERRPIN_CTL.ce_aer, .rw, 0x0, none⟩,
   ⟨ERRPIN_CMD.release, .wo, 0x0, none⟩,
   ⟨ERRPIN_CMD.test, .wo, 0x0, none⟩,
   ⟨ERRPIN_CMD.safe, .wo, 0x0, none⟩,
   ⟨ERRPIN_CMD.key, .wo, 0x0, none⟩,
   ⟨ERRPIN_STAT.driven, .ro, 0x0, none⟩,
   ⟨ERRPIN_STAT.held, .ro, 0x0, none⟩,
   ⟨ERRPIN_STAT.stuck_high, .rw1c, 0x0, none⟩,
   ⟨ERRPIN_STAT.ext_low, .ro, 0x0, none⟩,
   ⟨ERRPIN_STAT.last_source, .ro, 0x0, none⟩,
   ⟨ERRPIN_PULSES.count, .ro, 0x0, none⟩,
   ⟨ERRPIN_COALESCED.count, .ro, 0x0, none⟩,
   ⟨ERRPIN_LAST_TIME_LO.time, .ro, 0x0, none⟩,
   ⟨ERRPIN_LAST_TIME_HI.time, .ro, 0x0, none⟩,
   ⟨ERRPIN_PEND_MAP.pages, .ro, 0x0, none⟩,
   ⟨ERRPIN_FF_PAGE.page, .ro, 0x0, none⟩,
   ⟨ERRPIN_FF_PAGE.code, .ro, 0x0, none⟩,
   ⟨ERRPIN_FF_TIME_LO.time, .ro, 0x0, none⟩,
   ⟨ERRPIN_FF_TIME_HI.time, .ro, 0x0, none⟩,
   ⟨ERRPIN_FF_VALID.valid, .rw1c, 0x0, none⟩,
   ⟨ERRPIN_SAFE_STAT.entered, .ro, 0x0, none⟩,
   ⟨ERRPIN_SAFE_STAT.bind_run, .ro, 0x0, none⟩]

/-- Rows of the ERRPIN page (R536). -/
def rowsErrpin2 : List Row :=
  [⟨ERRPIN_SAFE_STAT.bind_committed, .ro, 0x0, none⟩,
   ⟨ERRPIN_SAFE_STAT.bind_failed, .ro, 0x0, none⟩,
   ⟨ERRPIN_SAFE_STAT.owed, .ro, 0x0, none⟩,
   ⟨ERRPIN_SAFE_TIME_LO.time, .ro, 0x0, none⟩,
   ⟨ERRPIN_SAFE_TIME_HI.time, .ro, 0x0, none⟩,
   ⟨ERRPIN_ESCALATIONS.count, .ro, 0x0, none⟩,
   ⟨ERRPIN_FATALS.count, .ro, 0x0, none⟩]

/-- All rows of the ERRPIN page. -/
def rowsErrpin : List Row := rowsErrpin1 ++ rowsErrpin2

/-- The fields of the ERRPIN page that reset to a value other than 0, by offset × 32 + lowest bit. -/
def resetsErrpin : List (Nat × Nat) :=
  []

/-- Rows of the BIST page (R562). -/
def rowsBist1 : List Row :=
  [⟨BIST_REC_STAT.valid, .ro, 0x0, none⟩,
   ⟨BIST_REC_STAT.age_known, .ro, 0x0, none⟩,
   ⟨BIST_REC_STAT.quick, .ro, 0x0, none⟩,
   ⟨BIST_REC_STAT.age_days, .ro, 0x0, none⟩,
   ⟨BIST_REC_STAT.held, .ro, 0x0, none⟩,
   ⟨BIST_REC_SEQ.seq, .ro, 0x0, none⟩,
   ⟨BIST_START_STAT.pass, .ro, 0x0, none⟩,
   ⟨BIST_START_STAT.failed, .ro, 0x0, none⟩,
   ⟨BIST_FAIL_IDX.index, .rw, 0x0, none⟩,
   ⟨BIST_FAIL.test, .ro, 0x0, none⟩,
   ⟨BIST_FAIL.page, .ro, 0x0, none⟩,
   ⟨BIST_FAIL.unit, .ro, 0x0, none⟩,
   ⟨BIST_FAIL.valid, .ro, 0x0, none⟩,
   ⟨BIST_PROG_SEL.step, .rw, 0x0, none⟩,
   ⟨BIST_PROG.test, .rw, 0x0, none⟩,
   ⟨BIST_PROG.page, .rw, 0x0, none⟩,
   ⟨BIST_PROG.unit, .rw, 0x0, none⟩,
   ⟨BIST_PROG.loops_log2, .rw, 0x0, none⟩,
   ⟨BIST_PROG.stop_on_fail, .rw, 0x0, none⟩,
   ⟨BIST_PROG.inject, .rw, 0x0, none⟩,
   ⟨BIST_PROG.valid, .rw, 0x0, none⟩,
   ⟨BIST_PROG_ARG.arg, .rw, 0x0, none⟩,
   ⟨BIST_CMD.run, .wo, 0x0, none⟩,
   ⟨BIST_CMD.abort, .wo, 0x0, none⟩]

/-- Rows of the BIST page (R562). -/
def rowsBist2 : List Row :=
  [⟨BIST_CMD.release, .wo, 0x0, none⟩,
   ⟨BIST_CMD.key, .wo, 0x0, none⟩,
   ⟨BIST_ENG_STAT.state, .ro, 0x0, none⟩,
   ⟨BIST_ENG_STAT.step, .ro, 0x0, none⟩,
   ⟨BIST_ENG_STAT.offline, .ro, 0x0, none⟩,
   ⟨BIST_ENG_STAT.fails, .ro, 0x0, none⟩,
   ⟨BIST_RESULT.code, .ro, 0x0, none⟩,
   ⟨BIST_RESULT.errors, .ro, 0x0, none⟩,
   ⟨BIST_RESULT.abandoned, .ro, 0x0, none⟩,
   ⟨BIST_INJ_CNT.count, .ro, 0x0, none⟩]

/-- All rows of the BIST page. -/
def rowsBist : List Row := rowsBist1 ++ rowsBist2

/-- The fields of the BIST page that reset to a value other than 0, by offset × 32 + lowest bit. -/
def resetsBist : List (Nat × Nat) :=
  []

/-- Rows of the OTP page (R564). -/
def rowsOtp1 : List Row :=
  [⟨OTP_STAT.restrictive, .ro, 0x0, none⟩,
   ⟨OTP_STAT.marginal, .ro, 0x0, none⟩,
   ⟨OTP_STAT.second_pass, .ro, 0x0, none⟩,
   ⟨OTP_STAT.region_fail, .ro, 0x0, none⟩,
   ⟨OTP_STAT.region_locked, .ro, 0x0, none⟩,
   ⟨OTP_ROWS_FAILED.count, .ro, 0x0, none⟩,
   ⟨OTP_SPARES.used, .ro, 0x0, none⟩,
   ⟨OTP_SPARES.unlinked, .ro, 0x0, none⟩,
   ⟨OTP_CORRECTED.count, .ro, 0x0, none⟩,
   ⟨OTP_MARGIN_ROW.row, .ro, 0x0, none⟩,
   ⟨OTP_MARGIN_ROW.valid, .rw1c, 0x0, none⟩,
   ⟨OTP_READ_IDX.row, .rw, 0x0, none⟩,
   ⟨OTP_READ_LO.data, .ro, 0x0, none⟩,
   ⟨OTP_READ_HI.data, .ro, 0x0, none⟩,
   ⟨OTP_READ_HI.differs, .ro, 0x0, none⟩,
   ⟨OTP_PROG_IDX.row, .rw, 0x0, none⟩,
   ⟨OTP_PROG_LO.data, .rw, 0x0, none⟩,
   ⟨OTP_PROG_HI.data, .rw, 0x0, none⟩,
   ⟨OTP_CMD.program, .wo, 0x0, none⟩,
   ⟨OTP_CMD.repair, .wo, 0x0, none⟩,
   ⟨OTP_CMD.lock, .wo, 0x0, none⟩,
   ⟨OTP_CMD.force, .wo, 0x0, none⟩,
   ⟨OTP_CMD.gen_seed, .wo, 0x0, none⟩,
   ⟨OTP_CMD.region, .wo, 0x0, none⟩]

/-- Rows of the OTP page (R564). -/
def rowsOtp2 : List Row :=
  [⟨OTP_CMD.key, .wo, 0x0, none⟩,
   ⟨OTP_CMD_STAT.busy, .ro, 0x0, none⟩,
   ⟨OTP_CMD_STAT.done, .rw1c, 0x0, none⟩,
   ⟨OTP_CMD_STAT.refused, .rw1c, 0x0, none⟩,
   ⟨OTP_CMD_STAT.reason, .ro, 0x0, none⟩,
   ⟨OTP_LC_FUSES.fuses, .ro, 0x0, none⟩]

/-- All rows of the OTP page. -/
def rowsOtp : List Row := rowsOtp1 ++ rowsOtp2

/-- The fields of the OTP page that reset to a value other than 0, by offset × 32 + lowest bit. -/
def resetsOtp : List (Nat × Nat) :=
  []

/-- Rows of the SB page (R581). -/
def rowsSb1 : List Row :=
  [⟨SB_CTL.smbus_en, .rwl, 0x1, none⟩,
   ⟨SB_CTL.i3c_en, .rwl, 0x1, none⟩,
   ⟨SB_CTL.secure_only, .rwl, 0x1, none⟩,
   ⟨SB_CTL.static_addr, .rwl, 0x38, none⟩,
   ⟨SB_STAT.mode, .ro, 0x0, none⟩,
   ⟨SB_STAT.dyn_addr, .ro, 0x0, none⟩,
   ⟨SB_STAT.eid, .ro, 0x0, none⟩,
   ⟨SB_STAT.core_ready, .ro, 0x0, none⟩,
   ⟨SB_MCTP_RX.count, .ro, 0x0, none⟩,
   ⟨SB_MCTP_DROP.count, .ro, 0x0, none⟩,
   ⟨SB_PEC_ERR.count, .ro, 0x0, none⟩,
   ⟨SB_SESSIONS.open, .ro, 0x0, none⟩,
   ⟨SB_BANK_CTL.fast, .rw, 0x1, none⟩,
   ⟨SB_BANK_STAT.busy, .ro, 0x0, none⟩,
   ⟨SB_BANK_STAT.present, .ro, 0x0, none⟩,
   ⟨SB_BANK_STAT.last_ok, .ro, 0x0, none⟩,
   ⟨SB_BANK_STAT.retries, .ro, 0x0, none⟩,
   ⟨SB_BANK_ERR.count, .ro, 0x0, none⟩,
   ⟨SB_BANK_CLEARS.count, .ro, 0x0, none⟩,
   ⟨SB_LAYER_SEL.layer, .rw, 0x0, none⟩,
   ⟨SB_LAYER_SEL.word, .rw, 0x0, none⟩,
   ⟨SB_LAYER_ID.data, .ro, 0x0, none⟩,
   ⟨SB_LAYER_STAT.valid, .ro, 0x0, none⟩,
   ⟨SB_LAYER_STAT.mapout, .ro, 0x0, none⟩]

/-- Rows of the SB page (R581). -/
def rowsSb2 : List Row :=
  [⟨SB_FW_STAT.active_slot, .ro, 0x0, none⟩,
   ⟨SB_FW_STAT.pending, .ro, 0x0, none⟩,
   ⟨SB_FW_STAT.fallback, .rw1c, 0x0, none⟩,
   ⟨SB_FW_STAT.secver, .ro, 0x0, none⟩,
   ⟨SB_FW_STAT.min_secver, .ro, 0x0, none⟩,
   ⟨SB_FW_VER.version, .ro, 0x0, none⟩]

/-- All rows of the SB page. -/
def rowsSb : List Row := rowsSb1 ++ rowsSb2

/-- The fields of the SB page that reset to a value other than 0, by offset × 32 + lowest bit. -/
def resetsSb : List (Nat × Nat) :=
  [(8192, 1), (8193, 1), (8194, 1), (8200, 56), (8960, 1)]

/-- The canonical page of a page: the first port page for the ports, the first PC page for the PCs. -/
def canonPage (page : Nat) : Nat :=
  if 0x40 ≤ page then 0x40 else if 0x10 ≤ page ∧ page < 0x14 then 0x10 else page

/-- The block-specific rows of a page; none for a reserved page (R15). -/
def rowsOf (page : Nat) : List Row :=
  match canonPage page with
  | 0x00 => rowsSys | 0x01 => rowsTb | 0x02 => rowsClk | 0x03 => rowsPwr | 0x04 => rowsTherm | 0x05 => rowsOtp
  | 0x06 => rowsBist | 0x07 => rowsErrpin | 0x08 => rowsSb | 0x09 => rowsSpline | 0x10 => rowsPort | 0x14 => rowsDove
  | 0x18 => rowsGauge | 0x19 => rowsCrypt | 0x1A => rowsKerf | 0x1B => rowsFolio | 0x1C => rowsBank
  | 0x1D => rowsChisel | 0x1E => rowsScrub | 0x1F => rowsTipin | 0x40 => rowsPc | _ => []

/-- The block-specific reset values of a page that are not 0. -/
def resetsOf (page : Nat) : List (Nat × Nat) :=
  match canonPage page with
  | 0x00 => resetsSys | 0x01 => resetsTb | 0x02 => resetsClk | 0x03 => resetsPwr | 0x04 => resetsTherm
  | 0x05 => resetsOtp | 0x06 => resetsBist | 0x07 => resetsErrpin | 0x08 => resetsSb | 0x09 => resetsSpline
  | 0x10 => resetsPort | 0x14 => resetsDove | 0x18 => resetsGauge | 0x19 => resetsCrypt | 0x1A => resetsKerf
  | 0x1B => resetsFolio | 0x1C => resetsBank | 0x1D => resetsChisel | 0x1E => resetsScrub | 0x1F => resetsTipin
  | 0x40 => resetsPc | _ => []

/-- The pages of R15 that hold a block. -/
def pageExists (page : Nat) : Bool :=
  page ≤ 0x09 || (0x10 ≤ page && page ≤ 0x14) || (0x18 ≤ page && page ≤ 0x1F) || (0x40 ≤ page && page < 0x80)

/-- Whether the fields of an offset stand in the 256-byte page header (R10). -/
def inHeader (off : Nat) : Bool := off < 0x100

/-- The page number that PAGE_ID reads as block type (R10). -/
def blockType (page : Nat) : Nat := canonPage page

/-- The instance number that PAGE_ID reads (R10). -/
def instanceOf (page : Nat) : Nat := page - canonPage page

/-- The reset value of a register field by its key in the register file. -/
def Fld.resetVal (key : Nat) : Nat :=
  let slot := key % 131072
  let page := key / 131072 % 128
  let inst := key / 16777216
  if slot / 32 < 0x100 then
    if slot = 0 then blockType page else if slot = 16 then instanceOf page else ((resetsHeader.lookup slot).getD 0)
  else if page = 0x18 ∧ slot = GAUGE_PAIR_CFG.map_class.off * 32 then
    -- The Class Mark of the pair: pair = master × 8 + mark (R228, R242).
    inst % 8
  else if slot = PORT_LD_ALLOC_END.end_quire.off * 32 ∧ canonPage page = 0x10 then
    -- Range 0 of LD0 covers the capacity; every other range is empty (R320).
    if inst = 0 then 131072 else 0
  else if slot = PORT_LD_CFG.admin.off * 32 ∧ canonPage page = 0x10 ∨
      slot = PORT_LD_CFG.ts_master.off * 32 + 1 ∧ canonPage page = 0x10 then
    -- 1 for LD0 of port A and 0 for every other LD (R320).
    if page = 0x10 ∧ inst = 0 then 1 else 0
  else if page = 0x14 ∧ 0x404 * 32 ≤ slot ∧ slot < 0x700 * 32 then
    -- The DOVE lanes have the PHY registers of a port (R384, R481).
    (resetsPort.lookup slot).getD 0
  else (resetsOf page).lookup slot |>.getD 0

end Sys2Proof.Machine
end

