-- ==== Sys2Proof/Machine/Sparse.lean ====
section
/-!
DEFINITION. Sparse tables as plain data: a list of (key, entry) pairs in one canonical form. The keys rise strictly and
no entry equals what an unlisted key reads as, so that equal tables are equal lists. What an unlisted key reads as is
given to each operation as the table's default.
-/

namespace Sys2Proof.Machine

/-- A table of entries by key, in the canonical form of `Sparse.wf`. -/
abbrev Sparse (α : Type) := List (Nat × α)

/-- The entry of a key; the default where the key is not listed. -/
def Sparse.get {α : Type} (dflt : Nat → α) : Sparse α → Nat → α
  | [], k => dflt k
  | (j, v) :: m, k => if j = k then v else Sparse.get dflt m k

/-- The table without a key. -/
def Sparse.erase {α : Type} (m : Sparse α) (k : Nat) : Sparse α := m.filter fun e => decide (e.1 ≠ k)

/-- The table with an entry put at its place. -/
def Sparse.insert {α : Type} : Sparse α → Nat → α → Sparse α
  | [], k, v => [(k, v)]
  | (j, w) :: m, k, v =>
    if k < j then (k, v) :: (j, w) :: m
    else if k = j then (k, v) :: m
    else (j, w) :: Sparse.insert m k v

/-- The table with the entry of a key set: an entry equal to the default is not listed. -/
def Sparse.set {α : Type} [DecidableEq α] (dflt : Nat → α) (m : Sparse α) (k : Nat) (v : α) : Sparse α :=
  if v = dflt k then Sparse.erase m k else Sparse.insert m k v

/-- The table with the entry of a key changed. -/
def Sparse.modify {α : Type} [DecidableEq α] (dflt : Nat → α) (m : Sparse α) (k : Nat) (f : α → α) : Sparse α :=
  Sparse.set dflt m k (f (Sparse.get dflt m k))

/-- The table with every listed entry changed; one that comes to equal the default is dropped. -/
def Sparse.mapWith {α : Type} [DecidableEq α] (dflt : Nat → α) (m : Sparse α) (f : Nat → α → α) : Sparse α :=
  m.filterMap fun e => if f e.1 e.2 = dflt e.1 then none else some (e.1, f e.1 e.2)

/-- The keys rise strictly. -/
def Sparse.sorted {α : Type} : Sparse α → Bool
  | [] => true
  | [_] => true
  | (j, _) :: (k, v) :: m => decide (j < k) && Sparse.sorted ((k, v) :: m)

/-- The canonical form: keys rise strictly and no entry equals the default. -/
def Sparse.wf {α : Type} [DecidableEq α] (dflt : Nat → α) (m : Sparse α) : Bool :=
  Sparse.sorted m && m.all (fun e => decide (e.2 ≠ dflt e.1))

end Sys2Proof.Machine
end

