-- ==== Sys2Proof/Machine/State.lean ====
section
/-!
DEFINITION. The state of the LR128 as plain data, and the state right after reset. Registers are kept in one register
file by field; each structure below holds what its block keeps beside its page. Tables are in the canonical form of
`Sparse.wf`; `Option` marks what the spec itself may not have, never a register without a value.
-/

namespace Sys2Proof.Machine

/-! ## Faults and refusals -/

/-- Reasons for which a step could stop with a fault. The spec gives every command an effect, so no meaning raises one;
the type is closed and holds only what the interface needs (assumption 9). -/
inductive Fault where
  /-- Raised by nothing: the spec stops the block on no command. Safe. -/
  | none
  deriving DecidableEq, Repr

/-- Reasons for which a step could be refused. -/
inductive Refusal where
  /-- Raised by an arm of `exec` that has no meaning yet, naming its command. Safe. -/
  | notModelled (mnemonic : String)
  deriving DecidableEq, Repr

/-! ## What leaves the device -/

/-- An event record of R335, with the fields of the capture that R336 puts into a vendor record. -/
structure EventRec where
  /-- 0 General Media Event, 1 DRAM Event, 2 Memory Module Event, 3 Drahus vendor record. -/
  kind : Nat
  page : Nat
  code : Nat
  cls : Nat
  access : Nat
  master : Nat
  addr : Nat
  time : Nat
  count : Nat
  /-- Overwritten-record handle, as CXL numbers the records of a log. -/
  handle : Nat
  deriving DecidableEq, Repr

/-- A Dovetail flit as this module sends it (R280, R282, R283): its fields, the draw of the session's keys, the sender's
direction (that of the higher Unit Number) and Unit Number, the flits sent in the session before it, and its
messages. -/
structure SentFlit where
  seq : BitVec 24
  ack : BitVec 24
  kind : Fin 3
  prot : Bool
  session : Nat
  high : Bool
  unit : Nat
  count : Nat
  messages : List DoveMsg
  deriving DecidableEq, Repr

/-- What the device sends out: one entry for each word, message or pin change that a rule names. -/
inductive Out where
  /-- A read response to a host: the data, or poison (R18). -/
  | hostData (port ld tag : Nat) (data : Option LineData)
  /-- A write completion to a host; `good` is false where R326 reported a refusal first. -/
  | hostWritten (port ld tag : Nat) (good : Bool)
  /-- A completion of GPF phase 1 or 2 (R150). -/
  | gpf (port ld tag phase : Nat)
  /-- The value a register read returns. -/
  | regData (val : Nat)
  /-- An MSI-X message: function and vector (R265, R322). -/
  | msix (port ld vector : Nat)
  /-- An AER message: 1 ERR_COR, 2 ERR_NONFATAL, 3 ERR_FATAL (R528). -/
  | aer (port ld severity : Nat)
  /-- A mailbox command's return: code and payload words (R333). -/
  | mailbox (port ld code : Nat) (payload : List Nat)
  /-- A key command's answer: status and payload (R216). -/
  | keyAnswer (status : Nat) (payload : List Nat)
  /-- A back-invalidate to the host of a port for a line (R329). -/
  | backInvalidate (port loc : Nat) (inval : Bool)
  /-- A Dovetail message sent to the partner (R289). -/
  | dove (msg : DoveMsg)
  /-- A replay request, or a flit of the replay buffer sent again, on the Dovetail link (R284). -/
  | doveFlit (flit : SentFlit)
  /-- An answer on the sideband: message type, command, completion code, payload (R569). -/
  | sideband (mtype cmd code : Nat) (payload : List Nat)
  /-- A firmware VDM that carries an event interrupt (R335). -/
  | eventVdm (port ld log : Nat)
  /-- A link or power-management message of a port (R380): 1 request, 2 accepted, 3 refused. -/
  | pm (group kind : Nat)
  /-- The level of ERR_N, WAKE_N or ALERT_N that the device drives (R525, R590, R591). -/
  | errN (low : Bool)
  | wakeN (low : Bool)
  | alertN (low : Bool)
  /-- A row of the bank's EEPROM written (R577): record and page. -/
  | eepromWrite (record page : Nat)
  deriving DecidableEq, Repr

/-! ## Pages, requests and pseudo-channels -/

/-- What a page keeps beside its registers (R10 to R14, R511 to R516). -/
structure PageState where
  /-- Pending severity: 0 none, 2 uncorrected-contained, 3 fatal. -/
  sev : Nat := 0
  /-- The code that started or raised the pending severity. -/
  code : Nat := 0
  /-- The instant at which the running escalation timer expires. -/
  escAt : Nat := 0
  /-- A soft reset was requested and waits for quiescence. -/
  softReq : Bool := false
  /-- When the request that waits for quiescence came. -/
  reqAt : Nat := 0
  deriving DecidableEq, Repr

/-- A key slot (R192). -/
structure KeySlot where
  loaded : Bool
  k1 : BitVec 256
  k2 : BitVec 256
  ki : BitVec 256
  integrity : Bool
  plaintext : Bool
  gen : Nat
  src : Option Nat
  /-- A load or unload waits for its key record (R162, R225). -/
  pending : Bool
  /-- An uncorrectable master entry unloaded the slot, to be reloaded from the key record (R192). -/
  lost : Bool
  deriving DecidableEq, Repr

/-- An empty slot: its key material is zero. -/
def KeySlot.empty : KeySlot :=
  { loaded := false, k1 := 0, k2 := 0, ki := 0, integrity := false, plaintext := false, gen := 0, src := none,
    pending := false, lost := false }

/-- What a request does to its line. -/
inductive ReqKind where
  | read | full | part
  deriving DecidableEq, Repr

/-- Where the outcome of a request goes. -/
inductive Src where
  | host (port ld tag : Nat)
  /-- A host request of an epoch that a reset of its port, or a CXL Reset of its LD, has ended (R351). -/
  | old (port ld : Nat)
  | mgmt
  deriving DecidableEq, Repr

/-- A request on its way to a PC controller or held by one (R55, R228). -/
structure Req where
  id : Nat
  src : Src
  master : Nat
  mark : Nat
  kind : ReqKind
  /-- Line address: a location with bits [5:0] zero. -/
  loc : Nat
  /-- The device physical address the request named. -/
  dpa : Nat
  keyId : Nat
  /-- The slot that key selection gave, once it has run, with the slot's entry as it stood (R200, R203). -/
  sel : Option (Nat × KeySlot)
  /-- The data that a write carries, the bytes that it writes, and its CXL poison indication (R327). -/
  data : LineData
  mask : BitVec 64
  poison : Bool
  /-- Snoop type of the request: 0 none, 1 shared, 2 exclusive (R329). -/
  cache : Nat
  /-- When the request arrived and when it entered its bank queue, its effective class there, and whether it was promoted (R56, R58, R230). -/
  arrived : Nat
  entered : Nat
  cls : Nat
  promoted : Bool
  /-- The request holds an entry of its controller's pool (R55). -/
  queued : Bool
  /-- Time in its bank queue that the bound of R60 does not cover, in ps. -/
  excused : Nat
  deriving DecidableEq, Repr

/-- A line as DRAM stores it: the data symbols and the check symbols (R90, R91). -/
structure StoredLine where
  data : LineData
  check : BitVec 64
  deriving DecidableEq, Repr

/-- A bank of a PC: its row, its timers and its refresh state (R29, R66 to R74). -/
structure DramBank where
  openRow : Option Nat
  actReady : Nat
  colReady : Nat
  preReady : Nat
  balance : Int
  dueAt : Nat
  /-- Forced refreshes owed at the next column-command boundary. -/
  forced : Nat
  /-- The catch-up of R67 runs. -/
  catchUp : Bool
  /-- The layer's refresh row pointer of the bank, which each refresh command moves on by 4 rows (R83). -/
  rowPtr : Nat
  /-- The last command of the bank was a forced refresh (R74). -/
  afterForced : Bool
  /-- The sampler's table: row and count, at most 24 (R72). -/
  rows : List (Nat × Nat)
  /-- Rows whose targeted refresh waits (R73). -/
  targets : List Nat
  deriving DecidableEq, Repr

/-- The period between refreshes of a bank at the 32 ms window, in ps (R66). -/
def trefi32 : Nat := 3906250

/-- A bank at reset: closed, balance 0, first due time staggered over one tREFI (R66, R67). -/
def DramBank.reset (b : Nat) : DramBank :=
  { openRow := none, actReady := 0, colReady := 0, preReady := 0, balance := 0, dueAt := b * trefi32 / 32,
    forced := 0, catchUp := false, rowPtr := 0, afterForced := false, rows := [], targets := [] }

/-- An entry of the Row Watch (R106). -/
structure Watch where
  bank : Nat
  row : Nat
  count : Nat
  first : Nat
  last : Nat
  deriving DecidableEq, Repr

/-- A pseudo-channel's controller beside its registers. -/
structure Pc where
  /-- Requests that wait at the input, in arrival order (R55). -/
  input : List Req
  /-- Requests in the bank queues, in order of entry. -/
  queue : List Req
  /-- Reads whose column command has issued and whose burst has not returned, oldest first. -/
  bursts : List Req
  /-- Writes whose column command has issued and whose burst has not, oldest first. -/
  wbursts : List Req
  /-- The banks; one that is not listed is as after reset. -/
  banks : Sparse DramBank
  /-- Times of the last four activates, newest first (tRRD, tFAW). -/
  acts : List Nat
  /-- The sampler's shift register and the instant it stands at, in units of 0.1 ps (R72). -/
  lfsr : BitVec 32
  lfsrAt : Nat
  /-- The physical rows that the latest targeted refresh refreshed: bank, or 32 for the spare bank, and row, a tip-in row
  counted on from 32,768 (R73). -/
  victims : List (Nat × Nat)
  /-- Since when the idle conditions of R77 have held. -/
  idleSince : Nat
  /-- The instant of the last SRE. -/
  sreAt : Nat
  /-- The instant at which the refreshes of an entry begin (R78, step 3). -/
  srAt : Nat
  /-- Arrival of the first request that waits for the exit, its DPA, access code and master, and the instant at which the
  Layer Clock runs again (R80, R82, R609). -/
  wakeAt : Option Nat
  wakeBy : Nat × Nat × Nat
  ungatedAt : Nat
  /-- The Row Watch, oldest first (R106). -/
  watch : List Watch
  /-- Correction events of the last 24 h: lane, bank, time (R99). -/
  laneEv : List (Nat × Nat × Nat)
  /-- Lanes for which 0x0207 was logged (R99). -/
  thirdLogged : List Nat
  /-- Corrected codewords queued for write-back (R96): line address and codeword. -/
  wb : List (Nat × StoredLine)
  /-- The scrub pointer: lines of the PC done in this pass (R102). -/
  scrubPos : Nat
  /-- Quires skipped in this pass that the pointer comes back to (R103). -/
  scrubBack : List Nat
  /-- When each line of the PC was last scrubbed, by its place in the pass, and since when the others have not been
  (R104). -/
  scrubbed : Sparse (Option Nat)
  scrubFrom : Nat
  /-- What has been reported of the least recently scrubbed line: 0 nothing, 1 behind, 2 overdue (R104). -/
  scrubLate : Nat
  /-- Since when the scrub waits for a line that a Resync stroke holds (R41, R103). -/
  scrubWaits : Option Nat
  /-- Passes completed, and lines done of the quire the pointer has come back to (R103). -/
  passes : Nat
  backDone : Nat
  deriving DecidableEq, Repr

/-- A controller at reset. -/
def Pc.reset : Pc :=
  { input := [], queue := [], bursts := [], wbursts := [], banks := [], acts := [], lfsr := 0, lfsrAt := 0, victims := [],
    idleSince := 0, sreAt := 0, srAt := 0, wakeAt := none, wakeBy := (0, 0, 0), ungatedAt := 0, watch := [], laneEv := [], thirdLogged := [], wb := [],
    scrubPos := 0, scrubBack := [], scrubbed := [], scrubFrom := 0, scrubLate := 0, scrubWaits := none, passes := 0, backDone := 0 }

/-- A layer beside its registers: the spans that may lengthen its refresh window (R70, R71). -/
structure Layer where
  /-- Since when every sample has read at most 90 °C, and at most 80 °C. -/
  below90 : Option Nat
  below80 : Option Nat
  /-- The divider in force and the one wanted (R488, R492). -/
  divider : Nat
  wanted : Nat
  deriving DecidableEq, Repr

/-- A layer at reset. -/
def Layer.reset : Layer := { below90 := none, below80 := none, divider := 1, wanted := 1 }

/-! ## Kerf engines (R39 to R53) -/

/-- A Kerf engine beside its slot of registers. Quire sets are lists of half-open intervals in ascending order. -/
structure KerfEng where
  /-- The quires selected, and those of them not yet finished. -/
  sel : List (Nat × Nat)
  todo : List (Nat × Nat)
  /-- The demand queue, in arrival order (R42). -/
  demand : List Nat
  /-- Strokes done of the quire at the head of the demand queue. -/
  demandStrokes : Nat
  /-- The quire of the ascending run and strokes done of it. -/
  cur : Nat
  curStrokes : Nat
  /-- The highest BSN taken when a Clear began (R50). -/
  bsn : Nat
  /-- The purpose of a Clear: 0 host or media, 1 start, 2 carve-out activation, 3 carve-out deactivation. -/
  purpose : Nat
  /-- The slots of a Rekey, as its start found them (R45, R52). -/
  src : Nat
  dst : Nat
  /-- An abort waits for strokes that are in flight (R49). -/
  aborting : Bool
  deriving DecidableEq, Repr

/-- An engine at reset. -/
def KerfEng.reset : KerfEng :=
  { sel := [], todo := [], demand := [], demandStrokes := 0, cur := 0, curStrokes := 0, bsn := 0,
    purpose := 0, src := 0, dst := 0, aborting := false }

/-! ## Repair (R106 to R117) -/

/-- An entry of the Tip-in Table (R108). -/
structure TipEntry where
  valid : Bool
  field : Bool
  bad : Bool
  pending : Bool
  row : Nat
  deriving DecidableEq, Repr

/-- An entry that serves no row. -/
def TipEntry.none : TipEntry := { valid := false, field := false, bad := false, pending := false, row := 0 }

/-- The Tip-in record (R109): field entries and bad slots, erasures (PC, lane) and spare banks (PC, state, bank). -/
structure TipRecord where
  seq : Nat
  entries : Sparse TipEntry
  erasures : List (Nat × Nat)
  spares : List (Nat × Nat × Nat)
  deriving DecidableEq, Repr

/-- The state of repair beside the TIPIN page. -/
structure Repair where
  table : Sparse TipEntry
  /-- Factory entries from the identity words: of the banks, by table entry, and of the spare banks, by PC × 32 + slot
  (R113, R579). -/
  factory : Sparse TipEntry
  spareFactory : Sparse TipEntry
  /-- The table has been loaded at this start (R109). -/
  loaded : Bool
  /-- The record as last committed on a device that keeps it in SRAM alone (R109). -/
  sramRecord : Option TipRecord
  /-- The row of the request that runs: PC, bank, row (R111). -/
  request : Option (Nat × Nat × Nat)
  /-- The record of an append in progress, and whether another waits (R109). -/
  append : Option TipRecord
  appendAgain : Bool
  /-- Retirements that wait for Migrate: PC and bank, in order of arrival (R112). -/
  retire : List (Nat × Nat)
  /-- Repairs that wait until the Migrate ends: PC, bank, row (R108). -/
  waiting : List (Nat × Nat × Nat)
  /-- Entries being reloaded (R110). -/
  reloading : List Nat
  /-- Repairs triggered and not yet carried out: PC, bank, row (R106). -/
  due : List (Nat × Nat × Nat)
  deriving DecidableEq, Repr

/-- No repair at reset. -/
def Repair.reset : Repair :=
  { table := [], factory := [], spareFactory := [], loaded := false, sramRecord := none, request := none, append := Option.none, appendAgain := false, retire := [], waiting := [],
    reloading := [], due := [] }

/-- A recovery of a line from the partner (R114): the line, the identifier of its request, the reads that wait on it with
the end of each one's hold (R116) and the partial writes, whether a tag failure on a partial write began it (R211), and
whether a read found the line uncorrectable, so that it is poisoned where the recovery fails (R115). -/
structure Recovery where
  loc : Nat
  ident : Nat
  waiting : List (Nat × Req)
  writes : List Req
  forTag : Bool
  lost : Bool
  deriving DecidableEq, Repr

/-- An entry of the poison list (R337): source 1 external, 2 internal, 3 injected, 7 vendor. -/
structure PoisonEntry where
  loc : Nat
  source : Nat
  deriving DecidableEq, Repr

/-! ## Folio (R125 to R162) -/

/-- The states of a quire (R131). -/
inductive QState where
  | cleared | clean | dirty | staged
  deriving DecidableEq, Repr

/-- An entry of the working quire map (R132). A slot is numbered layer × 139,264 + stripe × 64 + slot. `wtime` is the
instant of the latest write, by which a limited Checkpoint orders quires (R145). -/
structure QEntry where
  state : QState
  slot : Option Nat
  unlifted : Bool
  redirty : Bool
  wtime : Nat
  deriving DecidableEq, Repr

/-- A quire in the Cleared state with nothing else. -/
def QEntry.reset : QEntry := { state := .cleared, slot := none, unlifted := false, redirty := false, wtime := 0 }

/-- A line of a slot: its ciphertext under the Folio key and its poison bit (R126). -/
structure SlotLine where
  cipher : LineData
  poison : Bool
  deriving DecidableEq, Repr

/-- The contents of a slot (R126): the fields of its header and the lines of its quire that are not in the cleared form.
Its bytes, its poison fields and its tag follow from these. -/
structure SlotData where
  /-- Unit Number of the header. -/
  unit : Nat
  quire : Nat
  bsn : Nat
  /-- The draw of the Folio key that encrypts it (R130). -/
  key : Nat
  lines : Sparse SlotLine
  deriving DecidableEq, Repr

/-- A committed image: what its Colophon and its quire map hold (R136). Quires the map does not list are Cleared. -/
structure Image where
  kind : Nat
  bsn : Nat
  prev : Nat
  persist : Nat
  /-- The draw of the Folio key of its tag, the Unit Number and the variant code. -/
  key : Nat
  unit : Nat
  variant : Nat
  carve : Bool
  keyRetain : Bool
  pool : Nat
  /-- Time Base at commit in ns, where it was valid. -/
  time : Option Nat
  /-- Quires Clean and Cleared in the image, and programmed by its commit. -/
  clean : Nat
  blank : Nat
  programmed : Nat
  /-- The word that names the place of the quire map. -/
  mapAt : Nat
  top : Nat
  /-- Sequence numbers of the Tip-in, Kerf and key records in force. -/
  tipSeq : Nat
  kerfSeq : Nat
  keySeq : Nat
  /-- The slot of each Clean quire. -/
  map : Sparse (Option Nat)
  deriving DecidableEq, Repr

/-- A record of the system area beside the Colophon and the quire map (R129): the draw of its nonce, and the layers that
hold a good copy. -/
structure SysRec where
  nonce : Nat
  p0 : Bool
  p1 : Bool
  deriving DecidableEq, Repr

/-- A Global Persistent Flush Phase 2 that waits (R150): port, logical device, tag, and the writes received before it
that are not complete. -/
structure GpfWait where
  port : Nat
  ld : Nat
  tag : Nat
  open_ : List Nat
  deriving DecidableEq, Repr

/-- A record of the Kerf engines in a commit (R50): kind, start, end, position, from-slot, to-slot, bank, BSN. -/
structure KerfRecord where
  kind : Nat
  start : Nat
  stop : Nat
  pos : Nat
  fromSlot : Nat
  toSlot : Nat
  bank : Nat
  bsn : Nat
  deriving DecidableEq, Repr

/-- A Bind or Checkpoint in progress (R141, R145). -/
structure Commit where
  /-- Colophon kind: 1 power-fail or Safe State Bind, 2 Checkpoint, 3 limited Checkpoint, 4 shutdown Bind; 6 marks a
  Checkpoint that has been cancelled (R147). -/
  kind : Nat
  /-- A Safe State Bind (R520). -/
  safe : Bool
  bsn : Nat
  startAt : Nat
  /-- Quires still to program, in order, and those programmed and not yet read back with their slots (for a Bind also
  those of R134 whose slot has read back). -/
  todo : List Nat
  flight : List (Nat × Nat)
  /-- Slots to move by reclaim (R146): quire. -/
  reclaim : List Nat
  programmed : Nat
  /-- The full Checkpoint of R181, at class 7. -/
  urgent : Bool
  deriving DecidableEq, Repr

/-- A persistence block: its wear counter, whether it is retired, and whether it is erased (R157, R158, R610). -/
structure BlockState where
  wear : Nat
  retired : Bool
  erased : Bool
  deriving DecidableEq, Repr

/-- A block that has never been programmed. -/
def BlockState.reset : BlockState := { wear := 0, retired := false, erased := true }

/-- The mirror area as an image holds it (R278): the outbound queue, the range table (bounds, role, from the DOVE page,
in the order of the ranges), the recorded partner, the counters, the mirror key and the bitmaps. -/
structure DoveRecord where
  queue : List Mwrite
  ranges : List (Nat × Nat × Bool)
  recorded : Option Nat
  osnNext : Nat
  acked : Nat
  applied : Nat
  coveredFrom : Nat
  mirrorKey : Option Nat
  push : Sparse Bool
  pull : Sparse Bool
  deriving DecidableEq, Repr

/-- The Folio beside its page. The fields down to `doveRecord` lie in the persistence layers. -/
structure Folio where
  slots : Sparse (Option SlotData)
  blocks : Sparse BlockState
  /-- The blocks of each stripe that has been opened and not erased, by plane group (R125, R610): stripe by layer × 2,176
  + stripe. -/
  stripes : Sparse (List Nat)
  /-- The newest Colophon of each layer, and the image in force (R137). -/
  col0 : Option Image
  col1 : Option Image
  image : Option Image
  /-- The system records by kind, in the order of R129 from 2: marker, reservation, Tip-in, Kerf, self-test, key, Folio
  key. -/
  recs : Sparse (Option SysRec)
  kerfRecords : List KerfRecord
  kerfSeq : Nat
  /-- The newest Tip-in record, and the one before it (R109). -/
  tipRecord : Option TipRecord
  tipPrev : Option TipRecord
  /-- The key record: loaded slots with their words, and its sequence number (R162). -/
  keyRecordSeq : Nat
  /-- Bind-begun markers above the image in force: BSN and whether a Bind left it (R155). -/
  markers : List (Nat × Bool)
  /-- The draw of `Config.randomKey` that is the Folio key, while one exists (R130). -/
  key : Option Nat
  /-- Committed reservation: the next BSN to take and the top (R135). -/
  bsnNext : Nat
  bsnTop : Nat
  /-- The dirty shutdown count (R155). -/
  dirtyShutdowns : Nat
  /-- The mirror area of the image in force (R278). -/
  doveRecord : Option DoveRecord
  /-- The working map. -/
  map : Sparse QEntry
  /-- Quires whose entry was lost in both copies of the working map (R520, R535). -/
  lostEntries : List Nat
  /-- The open stripe of each layer and its next slot (R610). -/
  openP0 : Option (Nat × Nat)
  openP1 : Option (Nat × Nat)
  nextLayer : Nat
  /-- Something has changed since the last commit (R142). -/
  changed : Bool
  /-- An ordered Checkpoint that has not started: 0 limited, 1 full, 2 the full one of R181 at class 7. -/
  ordered : Option Nat
  /-- The Bind or Checkpoint that runs (R141, R145). -/
  running : Option Commit
  /-- Writes held under R21, oldest first, the masters of engines whose write is held, and since when one has been held. -/
  held : List Req
  engHeld : List Nat
  holdAt : Nat
  /-- Answers of GPF that wait (R150). -/
  gpf : List GpfWait
  /-- Persistence has Failed in this power-up (R161). -/
  failed : Bool
  /-- Set Shutdown State overrides what Get Shutdown State reports until the next start (R346). -/
  shutdownSet : Option Bool
  /-- A Bind is due: Colophon kind and whether it is a Safe State Bind. -/
  bindDue : Option (Nat × Bool)
  /-- A Bind with nothing to write waits for the power stage to shut down (R141, R142). -/
  bindEmpty : Bool
  /-- A persistence layer is hot: R502 is in effect. -/
  plimit : Bool
  deriving DecidableEq, Repr

/-- A device whose Folio holds no image, with its Folio key. -/
def Folio.reset : Folio :=
  { slots := [], blocks := [], stripes := [], col0 := none, col1 := none, image := none,
    recs := [(8, some { nonce := 0, p0 := true, p1 := true })], kerfRecords := [], kerfSeq := 0, tipRecord := none, tipPrev := none, keyRecordSeq := 0, markers := [],
    key := some 0, bsnNext := 0, bsnTop := 0, dirtyShutdowns := 0, doveRecord := none, map := [], lostEntries := [], openP0 := none, openP1 := none,
    nextLayer := 0, changed := false, ordered := none, running := none, held := [], engHeld := [], holdAt := 0, gpf := [], failed := false,
    shutdownSet := none, bindDue := none, bindEmpty := false, plimit := false }

/-! ## Reserve Bank (R166 to R185) -/

/-- The Reserve Bank and the power inputs beside the BANK page. -/
structure ReserveBank where
  /-- The bank's EEPROM as last read; `none` where it did not answer. -/
  eeprom : Option EepromData
  /-- The EEPROM read has taken place since VAUX became good. -/
  eepromRead : Bool
  /-- Open-circuit voltage and sampled voltage in mV. -/
  sampleMv : Nat
  /-- Start of the running measurement and its samples in units of 10 µV. -/
  measAt : Nat
  v0 : Nat
  v1 : Option Nat
  v2 : Option Nat
  /-- Discarded measurements in a row (R174). -/
  discards : Nat
  /-- A measurement is repeated at this instant (R174). -/
  retryAt : Option Nat
  /-- The charge has fallen below 90 % of the target (R169). -/
  below90 : Bool
  /-- The instant from which VIN has been low, and PFAIL_N has been low (R183). -/
  vinLowAt : Option Nat
  pfailLowAt : Option Nat
  /-- Disagreement of the VIN sample with the comparator in consecutive rounds (R535). -/
  vinDisagree : Nat
  /-- A record is due: the cycles it adds (R169). -/
  recDue : Option Nat
  /-- An EEPROM record write in progress: record and pages sent, 3 and 4 those of the repeat (R577). -/
  recWrite : Option (EepromRec × Nat)
  /-- A reread waits for the end of the record write (R577). -/
  rereadWaits : Bool
  /-- The start of this power-up has measured the bank. -/
  startMeasured : Bool
  /-- The instants of the last housekeeping round and of the last slow round of the sensors (R172, R485). -/
  roundAt : Option Nat
  senseAt : Option Nat
  deriving DecidableEq, Repr

/-- A bank not yet read. -/
def ReserveBank.reset : ReserveBank :=
  { eeprom := none, eepromRead := false, sampleMv := 0, measAt := 0, v0 := 0, v1 := none, v2 := none, discards := 0,
    retryAt := none, below90 := false, vinLowAt := none, pfailLowAt := none,
    vinDisagree := 0, recDue := none, recWrite := none, rereadWaits := false,
    startMeasured := false, roundAt := none, senseAt := none }

/-! ## Keys, tags and the Gauge (R191 to R241) -/

/-- A range of a Range Key (R200, R221). -/
structure KeyRange where
  enabled : Bool
  mask : BitVec 16
  base : Nat
  stop : Nat
  deriving DecidableEq, Repr

/-- A range at reset: disabled. -/
def KeyRange.reset : KeyRange := { enabled := false, mask := 0, base := 0, stop := 0 }

/-- The rights of a logical device after a power-on reset: KeyID 0 alone (R200). -/
def rightsReset : BitVec 256 := 1

/-- A tag line in the tag cache (R208): its 64 bytes, whether it is dirty, and the pair whose write last changed it. -/
structure TagLine where
  data : LineData
  dirty : Bool
  pair : Nat
  deriving DecidableEq, Repr

/-- The key tables and the state of the Rekey Kerf, to which a command that fails returns them (R216). -/
structure KeyTables where
  keys : Sparse KeySlot
  rights : Sparse (BitVec 256)
  ranges : Sparse KeyRange
  rekey : Nat
  deriving DecidableEq, Repr

/-- The crypto block beside the CRYPT page. -/
structure Crypto where
  keys : Sparse KeySlot
  rights : Sparse (BitVec 256)
  ranges : Sparse KeyRange
  /-- The tag cache, by tag-line address. -/
  tags : Sparse (Option TagLine)
  /-- What the newest key record holds (R162, R200). -/
  recKeys : Sparse KeySlot
  recRights : Sparse (BitVec 256)
  recRanges : Sparse KeyRange
  /-- A key record is being committed: the tables before the change, and the payloads of the answers that wait on it
  (R162, R203). -/
  commit : Option (KeyTables × List (List Nat))
  /-- Its first append failed and was retried (R165). -/
  retried : Bool
  deriving DecidableEq, Repr

/-- Every slot empty, rights to KeyID 0 alone, every range disabled (R220). -/
def Crypto.reset : Crypto :=
  { keys := [], rights := [], ranges := [], tags := [], recKeys := [], recRights := [], recRanges := [], commit := none,
    retried := false }

/-- The settings of a pair that are in force in this window (R239). -/
structure PairForce where
  cls : Nat
  budgetEn : Bool
  guarEn : Bool
  budget : Nat
  guar : Nat
  deriving DecidableEq, Repr

/-- The settings of a pair after a power-on reset: its class is its Class Mark (R240). -/
def PairForce.reset (pair : Nat) : PairForce :=
  { cls := pair % 8, budgetEn := false, guarEn := false, budget := 0, guar := 0 }

/-- The Gauge beside its page. -/
structure GaugeState where
  force : Sparse PairForce
  /-- Lines charged in this window, by pair. -/
  used : Sparse Nat
  /-- Masters whose write turned a clean quire Dirty in this window (R180). -/
  dirtied : List Nat
  /-- Pairs with a staged write that has not taken effect. -/
  stagedPairs : List Nat
  /-- The window length in force in µs and the start of this window. -/
  windowUs : Nat
  windowAt : Nat
  /-- When the Gauge was last reset: its free-running count starts there (R232). -/
  countFrom : Nat
  /-- Pairs that reached a budget while it was in force in this window, kept over a write of GAUGE_CTL (R233). -/
  overPairs : List Nat
  /-- G has been above D at some instant of this window (R237). -/
  overNow : Bool
  deriving DecidableEq, Repr

/-- The Gauge at reset. -/
def GaugeState.reset : GaugeState :=
  { force := [], used := [], dirtied := [], stagedPairs := [], windowUs := 10, windowAt := 0, countFrom := 0,
    overPairs := [], overNow := false }

/-! ## Chisel (R244 to R272) -/

/-- A job held by the device: its descriptor's 128 bytes as two lines, and where it was fetched from (R248, R251). -/
structure Job where
  ring : Nat
  dpa : Nat
  lo : LineData
  hi : LineData
  started : Bool
  /-- Time Base at start in ns; 0 while it was invalid. -/
  startTb : Nat
  /-- The status decided before any lane ran: 0x12 at start (R260). -/
  early : Option Nat
  /-- The job is being aborted, and its writes are held (R21): whether a port reset aborts it, and its ring's KeyID. -/
  cut : Option (Bool × Nat)
  deriving DecidableEq, Repr

/-- Chisel beside its page. -/
structure ChiselState where
  /-- Jobs in flight, oldest first. -/
  jobs : List Job
  /-- MSI-X messages that wait to be sent: ring (R265). -/
  msix : List Nat
  /-- The ring whose descriptor was fetched last: rings are served in turn after it (R249). -/
  lastRing : Nat
  /-- Since when the writes of a lane have paused for the budget (R261). -/
  pauseAt : Option Nat
  deriving DecidableEq, Repr

/-- Chisel with no job. -/
def ChiselState.reset : ChiselState := { jobs := [], msix := [], lastRing := 15, pauseAt := none }

/-! ## Dovetail (R276 to R309) -/

/-- An entry of the outbound queue: an MWRITE body and whether it has been sent (R278, R299). -/
structure QueueEntry where
  w : Mwrite
  sent : Bool
  deriving DecidableEq, Repr

/-- A Resync stroke that the partner's MACK does not yet cover (R306): its lines are held in flight. -/
structure Stroke where
  num : Nat
  range : Nat
  quire : Nat
  /-- The 16 KiB piece of the quire. -/
  piece : Nat
  pulled : Bool
  /-- Lines of a pulled stroke whose RRSP has not arrived. -/
  left : Nat
  deriving DecidableEq, Repr

/-- What the partner's latest HEARTBEAT reported (R290). -/
structure PartnerState where
  safe : Bool
  rekey : Bool
  resync : Bool
  rekeyStart : Nat
  rekeyEnd : Nat
  deriving DecidableEq, Repr

/-- Dovetail beside its page. -/
structure DoveState where
  queue : List QueueEntry
  /-- Mirrored writes that wait for a free entry, oldest first, and since when each has waited (R298). -/
  waiting : List (Req × Nat)
  /-- The next OSN, the highest that the partner has acknowledged, the applied OSN and the covered-from OSN (R278, R297). -/
  osnNext : Nat
  acked : Nat
  applied : Nat
  coveredFrom : Nat
  /-- Push and pull bitmaps by quire (R278). -/
  push : Sparse Bool
  pull : Sparse Bool
  /-- The recorded partner (R278, R295). -/
  recorded : Option Nat
  /-- The draw of `Config.randomKey` that is the mirror key (R278). -/
  mirrorKey : Option Nat
  /-- Receiver: seq of the last data flit accepted; a replay has been asked and data flits are discarded until it
  arrives; replay requests in a row that name the same ack; flits in a row that failed FEC (R284, R285). -/
  rxSeq : BitVec 24
  rxDiscard : Bool
  sameAck : Nat
  fecRun : Nat
  /-- Sender: seq of the last data flit sent, those still in the replay buffer, flit counters of both directions,
  the ack of the last replay request answered and when (R283, R284, R282). -/
  txSeq : BitVec 24
  replay : List SentFlit
  txCount : Nat
  rxCount : Nat
  lastReplay : Option (BitVec 24 × Nat)
  /-- Heartbeats: the instant of the last good one, and the count sent (R286, R287). -/
  beatAt : Nat
  beatSent : Nat
  /-- The instant of the last loss, for automatic promotion (R304). -/
  lossAt : Option Nat
  /-- The SPDM session of the link stands; authentication failed (R282). -/
  session : Bool
  authFailed : Bool
  /-- The draw of `Config.sessionKey` that is the session's (R282). -/
  sessionDraw : Nat
  /-- This module's protected HELLO has been sent, and the partner's as received (R291). -/
  helloSent : Bool
  hello : Option Hello
  /-- What the partner's heartbeat last reported (R286). -/
  partner : PartnerState
  /-- Applies not yet reported by a MACK (R299). -/
  mackDue : Bool
  /-- Highest Resync stroke applied from the partner. -/
  strokeApplied : Nat
  /-- Strokes of this module's Resync that are in flight, the next stroke number and the next request identifier (R306). -/
  strokes : List Stroke
  strokeNext : Nat
  reqNext : Nat
  /-- ROLE messages that wait for a protected link: range and promoted (R304). -/
  roleDue : List (Nat × Bool)
  /-- Ranges whose withdrawal waits for the queue (R296). -/
  withdrawing : List Nat
  /-- DOVE_CMD.accept has been given (R295). -/
  accepted : Bool
  /-- PERST_DOVE_N is high (R355). -/
  perstHigh : Bool
  /-- Messages that cannot leave while the replay buffer is full (R283). -/
  txWait : List DoveMsg
  /-- Applies, and recovery requests behind them, that wait on the dirty budget here (R21, R115, R299). -/
  applyWait : List DoveMsg
  /-- The first of them is a line of Resync that waits for Lift or Clear; the wait has been counted (R46). -/
  formWaits : Bool
  /-- The last 10 µs mark (R286). -/
  tickAt : Nat
  deriving DecidableEq, Repr

/-- Dovetail at reset: no partner, no range. -/
def DoveState.reset : DoveState :=
  { queue := [], waiting := [], osnNext := 1, acked := 0, applied := 0, coveredFrom := 1, push := [], pull := [],
    recorded := none, mirrorKey := none, rxSeq := 0, rxDiscard := false, sameAck := 0, fecRun := 0, txSeq := 0,
    replay := [], txCount := 0, rxCount := 0, lastReplay := none, beatAt := 0, beatSent := 0, lossAt := none,
    session := false, sessionDraw := 0, authFailed := false, helloSent := false, hello := none,
    partner := { safe := false, rekey := false, resync := false, rekeyStart := 0, rekeyEnd := 0 },
    mackDue := false, strokeApplied := 0, strokes := [], strokeNext := 1, reqNext := 1, roleDue := [],
    withdrawing := [], accepted := false, perstHigh := false, txWait := [], applyWait := [], formWaits := false, tickAt := 0 }

/-! ## Host ports (R315 to R355) -/

/-- A line in a snoop filter (R329): whether the host may hold it exclusive, and the DPA, the KeyID and the master code of
the read that entered it, under which data that the host returns is written. -/
structure Tracked where
  excl : Bool
  dpa : Nat
  keyId : Nat
  master : Nat
  deriving DecidableEq, Repr

/-- A back-invalidate outstanding to a port (R329). -/
structure BackInv where
  loc : Nat
  /-- BISnpInv, or else BISnpData. -/
  inval : Bool
  sentAt : Nat
  deriving DecidableEq, Repr

/-- A port beside its page. -/
structure PortState where
  /-- Snoop filter by line number (R329). -/
  filter : Sparse (Option Tracked)
  inv : List BackInv
  /-- Established streams, by the numbers of IDE_KM: CXL.io link, two selective, CXL.cachemem; with programmed key
  sets (R224). -/
  streams : List Nat
  keysProgrammed : List (Nat × Bool)
  /-- The key set in use of each stream (R224). -/
  keySets : Sparse Bool
  /-- PERST_x_N of the port is high (R355). -/
  perstHigh : Bool
  /-- Power management: since when the link has been idle, and whether an L1 request has been sent and not answered
  (R379, R380). -/
  idleAt : Nat
  l1Req : Bool
  /-- The instant at which the link entered its low-power state, for the least residency of R378. -/
  pmAt : Nat
  /-- Messages that wait for the link to leave L0s or L1. -/
  waitOut : List Out
  /-- The port may not train: it was isolated (R447), or failed (0x0B0B). -/
  isolated : Bool
  /-- Since when the port has been back in Detect and waits to retry its training (R362, R376). -/
  retryAt : Option Nat
  /-- AER messages due: LD and severity (R528). -/
  aer : List (Nat × Nat)
  /-- The port asks for WAKE_N (R590). -/
  wake : Bool
  deriving DecidableEq, Repr

/-- A port at reset: PERST low, nothing tracked. -/
def PortState.reset : PortState :=
  { filter := [], inv := [], streams := [], keysProgrammed := [], keySets := [], perstHigh := false, idleAt := 0, l1Req := false,
    pmAt := 0, waitOut := [],
    isolated := false, retryAt := none, aer := [], wake := false }

/-- A logical device beside its registers. -/
structure LdState where
  /-- Committed HDM decoders by index (R323). -/
  decoders : Sparse (Option Decoder)
  /-- Decoders whose last commit failed: error not committed (R323). -/
  notCommitted : List Nat
  /-- Enables of configuration space (R379) and TSP (R332). -/
  l0s : Bool
  l1 : Bool
  l11 : Bool
  l12 : Bool
  /-- TSP is in use (R198). -/
  tsp : Bool
  /-- Event logs Informational, Warning, Failure and Fatal, oldest record first, and records lost to overflow (R335). -/
  info : List EventRec
  warn : List EventRec
  fail : List EventRec
  fatal : List EventRec
  lostInfo : Nat
  lostWarn : Nat
  lostFail : Nat
  lostFatal : Nat
  handle : Nat
  /-- Interrupt policy of each log (R334): 0 none, 1 MSI-X, 2 firmware VDM. -/
  polInfo : Nat
  polWarn : Nat
  polFail : Nat
  polFatal : Nat
  /-- Alert thresholds (R334). -/
  alertLife : Nat
  alertTemp : Nat
  /-- When each severity of AER message was last sent (R529). -/
  aerCor : Option Nat
  aerNon : Option Nat
  aerFat : Option Nat
  /-- Firmware transfer in progress of this LD: next offset (R353, R574). -/
  fwOffset : Option Nat
  deriving DecidableEq, Repr

/-- A logical device at reset. -/
def LdState.reset : LdState :=
  { decoders := [], notCommitted := [], l0s := false, l1 := false, l11 := false, l12 := false, tsp := false, info := [], warn := [],
    fail := [], fatal := [], lostInfo := 0, lostWarn := 0, lostFail := 0, lostFatal := 0, handle := 1, polInfo := 0,
    polWarn := 0, polFail := 0, polFatal := 0, alertLife := 0, alertTemp := 0, aerCor := none, aerNon := none,
    aerFat := none, fwOffset := none }

/-- A background operation of a mailbox (R333): kind 0 Sanitize, 1 Zero, 2 Scan Media, 3 Order Checkpoint, 4 a repair. -/
structure Background where
  kind : Nat
  port : Nat
  ld : Nat
  first : Nat
  lines : Nat
  deriving DecidableEq, Repr

/-- The mailboxes' shared state and the poison list (R333 to R341). -/
structure Mailbox where
  ops : List Background
  /-- Background Command Status of the last operation that completed, by LD: kind, return code, payload. -/
  done : Sparse (Option (Nat × Nat × Nat))
  /-- The lines the last Scan Media found (R339). -/
  scan : List Nat
  poison : List PoisonEntry
  /-- Time of the first entry the full list could not take (R337). -/
  poisonOverflow : Option Nat
  /-- Requests are refused until a Sanitize completes (R342). -/
  sanitizing : Bool
  /-- Mailbox commands whose doorbell was rung while the management core was not running (R453). -/
  waiting : List Instr
  deriving DecidableEq, Repr

/-- Mailboxes at reset. -/
def Mailbox.reset : Mailbox :=
  { ops := [], done := [], scan := [], poison := [], poisonOverflow := none,
    sanitizing := false, waiting := [] }

/-! ## Lanes, fabric, clocks and power (R360 to R443) -/

/-- A lane beside its registers (R363 to R370). -/
structure LaneState where
  /-- Block offset of the lock, `none` while not locked, and since when the lane hunts (R363, R365). -/
  lock : Option Nat
  huntAt : Nat
  /-- The lane failed the present training (R365). -/
  failed : Bool
  /-- The lane failed the start checks, or the shutdown record holds it (R546). -/
  held : Bool
  /-- Saved settings by rate (R370): the draw of the transmitter's, then CTLE, peaking and first DFE tap. -/
  saved : Sparse (Option (Nat × Nat × Nat × Nat))
  /-- The bits of the PAM4 symbols received, in the lane's bit order (R366, R367). -/
  rxBits : List Bool
  deriving DecidableEq, Repr

/-- A lane at reset. -/
def LaneState.reset : LaneState := { lock := none, huntAt := 0, failed := false, held := false, saved := [], rxBits := [] }

/-- A Spline crossing beside its registers (R403 to R408). -/
structure Crossing where
  /-- When its reset began; failed for good (R408). -/
  resetAt : Nat
  failed : Bool
  deriving DecidableEq, Repr

/-- A crossing at reset. -/
def Crossing.reset : Crossing := { resetAt := 0, failed := false }

/-- A word on a link of the Spline, which its sender drives until it is accepted (R393): the link by router and router
port, whether the block on that link receives it and not the router, its plane, and the router and the input that hold it,
`none` where a block drives it. -/
structure SplineSend where
  router : Nat
  rport : Nat
  off : Bool
  plane : Nat
  held : Option (Nat × Nat)
  word : SplineWord
  deriving DecidableEq, Repr

/-- A word in a buffer of a router's input (R396). -/
structure SplineHeld where
  router : Nat
  input : Nat
  word : SplineWord
  deriving DecidableEq, Repr

/-- The Spline beside its page: the words that their receiver has asked for once more (R393), the buffers of the routers,
oldest first (R396), and at each router output and class, (router × 16 + port) × 5 + class, the input granted last, plus 1,
and the consecutive grants to other classes while it held a word (R399). -/
structure SplineState where
  retry : List SplineSend
  words : List SplineHeld
  granted : Sparse Nat
  passed : Sparse Nat
  crossings : Sparse Crossing
  deriving DecidableEq, Repr

/-- The Spline at reset. -/
def SplineState.reset : SplineState := { retry := [], words := [], granted := [], passed := [], crossings := [] }

/-- The clock sources and the Time Base beside their pages (R413 to R435). -/
structure ClockState where
  /-- Windows in a row in which the reference was good (R414). -/
  refGood : Nat
  /-- Calibrated House Oscillator period in units of 2^−16 ns (R414). -/
  hoPeriod : Nat
  /-- PLLs (0 to 15 layers, 16 system) restarted after a lost lock, and when (R414). -/
  relock : List (Nat × Nat)
  /-- Domains that wait for a switch through self-refresh (R416, R420): domain and whether to the House Oscillator. -/
  switching : List (Nat × Bool)
  /-- Time Base in picoseconds; stopped while its domain sleeps. -/
  tbPs : Nat
  tbAsleep : Bool
  /-- The store of the Always-On domain: the count in ps, the Always-On count, the instant, and whether the Time Base was
  valid (R432, R434). -/
  stored : Nat
  a0 : Nat
  storedAt : Nat
  storedValid : Bool
  /-- Skew in ps (R430). -/
  skewPs : Nat
  /-- Millionths of a ps that the Time Base and the skew have counted beyond that. -/
  tbFrac : Nat
  skewFrac : Nat
  /-- Latches of TB_NOW_HI, by attachment (R440). -/
  latch : Sparse Nat
  deriving DecidableEq, Repr

/-- Clocks at reset. -/
def ClockState.reset : ClockState :=
  { refGood := 0, hoPeriod := 163840, relock := [], switching := [], tbPs := 0,
    tbAsleep := false, stored := 0, a0 := 0, storedAt := 0, storedValid := false, skewPs := 0, tbFrac := 0, skewFrac := 0,
    latch := [] }

/-- A power domain beside its registers (R422 to R427). -/
structure DomainState where
  idleAt : Nat
  sleepAt : Nat
  wakeAt : Option Nat
  isolated : Bool
  /-- Since when a gate closure waits for quiescence (R14, R424). -/
  gateAt : Option Nat
  deriving DecidableEq, Repr

/-- A power domain at reset. -/
def DomainState.reset : DomainState := { idleAt := 0, sleepAt := 0, wakeAt := none, isolated := false, gateAt := none }

/-! ## Start, reset and life cycle (R442 to R459) -/

/-- What the device is doing as a whole. -/
inductive Phase where
  /-- No start has begun since VIN was last lost, or the device was shut down (R456). -/
  | off
  /-- Start stages 1 to 8 (R444). -/
  | starting
  /-- Serving, or in Safe State (R446, R518). -/
  | active
  /-- The logic die is in Hold (R451). -/
  | hold
  /-- An orderly shutdown runs (R454); its end is Off or a fresh start. -/
  | shutdown
  /-- Power failed and the device runs from the bank (R22). -/
  | failing
  deriving DecidableEq, Repr

/-- The start, reset and life-cycle state beside the SYS page. -/
structure SysState where
  phase : Phase
  stageAt : Nat
  /-- The stage in progress has run past its maximum (R444). -/
  overran : Bool
  /-- When this start began, and when the Hold did (R444, R451). -/
  startAt : Nat
  holdAt : Nat
  /-- The Hold took effect for a page that escalated, and the end of the last Hold (R516). -/
  holdEndAt : Option Nat
  /-- A shutdown restarts the device: 0 to Off, 4 device reset (R454). -/
  restart : Nat
  /-- The shutdown was interrupted after its Bind (R455). -/
  shutdownCut : Bool
  /-- VAUX is good (R456, R568). -/
  vauxGood : Bool
  /-- The Bind-owed flag of the Always-On domain (R521). -/
  bindOwed : Bool
  /-- A life-cycle transition that is committed and not yet in effect: target (R458, R459). -/
  lcPending : Option Nat
  /-- Life-cycle fuses as programmed, before majority (R558): ladder of states. -/
  lcFuses : Nat
  fsUsed : Nat
  /-- Management core: not running since (R453), its reset cause. -/
  mgmtDown : Option Nat
  /-- A Restart of the sideband waits until the module is Off (R570). -/
  restartWaits : Bool
  /-- The page and code of an essential block that the start found failed (R447). -/
  essential : Option (Nat × Nat)
  /-- Domains whose escalation has taken a carrier I/O reset: the Hold runs for one of them (R516). -/
  holdForPage : Bool
  /-- The Always-On counter ran without a break until this start (R434). -/
  aoRan : Bool
  /-- The last power failure ended with the end of its Bind, and no start has followed (R460). -/
  afterBind : Bool
  /-- This start lost the image that a power-fail Bind should have committed (R155). -/
  imageLost : Bool
  /-- The variant that the feature row of OTP gives (R557). -/
  variant : Nat
  /-- What the latest start gave SYS_POOL.pool and FOLIO_CTL.key_retain (R607). -/
  poolGiven : Nat
  retainGiven : Bool
  deriving DecidableEq, Repr

/-- The state of stage 1 of a first start. -/
def SysState.reset : SysState :=
  { phase := .starting, stageAt := 0, overran := false, startAt := 0, holdAt := 0, holdEndAt := none, restart := 0,
    shutdownCut := false, vauxGood := false, bindOwed := false, lcPending := none, lcFuses := 3, fsUsed := 0,
    mgmtDown := none, restartWaits := false, essential := none, holdForPage := false, aoRan := false,
    afterBind := false, imageLost := false, variant := 1, poolGiven := 0, retainGiven := false }

/-! ## Calibration and temperature (R462 to R502) -/

/-- A calibration unit beside its registers: units 0 to 63 the PCs, 64 to 68 the lane groups (R469 to R479). -/
structure CalState where
  /-- The instants at which the last run began and at which this one did. -/
  lastAt : Nat
  startAt : Nat
  /-- The run was begun by PC_CAL_CMD.run, and derives the write settings too (R474). -/
  derive_ : Bool
  /-- PC_CAL_CMD.run was written after the collection, and the run that waits derives them (R470, R474). -/
  nextDerives : Bool
  /-- Probe bursts issue (R473). -/
  probed : Bool
  /-- A result of this run was rejected, and one was accepted (R476). -/
  rejected : Bool
  accepted : Bool
  /-- The draw of the start training, and of the last write training, of a PC (R464, R474). -/
  trained : Option Nat
  wrTrained : Option Nat
  /-- Read Vref less its start reference. -/
  vref : Int
  /-- Steps that wait: the setting (a via, 96 for read Vref; lane × 4 + threshold or phase) and its target. -/
  steps : List (Nat × Int)
  deriving DecidableEq, Repr

/-- A calibration unit at reset. -/
def CalState.reset : CalState :=
  { lastAt := 0, startAt := 0, derive_ := false, nextDerives := false, probed := false,
    rejected := false, accepted := false, trained := none, wrTrained := none, vref := 0, steps := [] }

/-- A sensor beside its registers (R484 to R486): its reading in 0.125 °C, or none yet. -/
structure Sensor where
  value : Option Int
  /-- Slow rounds in a row in which a sensor in use disagreed with its die, or plausible samples in a row of a failed
  one (R486). -/
  run : Nat
  /-- Fast samples in a row outside the band (R485). -/
  outRun : Nat
  /-- The instant of the last reading, and the fast samples of the last 1 ms, newest first (R490). -/
  readAt : Nat
  hist : List (Nat × Int)
  /-- The reading of the last slow round (R490). -/
  slow : Option Int
  deriving DecidableEq, Repr

/-- A sensor at reset. -/
def Sensor.reset : Sensor := { value := none, run := 0, outRun := 0, readAt := 0, hist := [], slow := none }

/-- The temperature state of a die: 0 to 15 the DRAM layers, 16 the logic die, 17 the carrier die, 18 and 19 P0 and P1
(R487 to R498). -/
structure LayerTherm where
  level : Nat
  /-- Reading and estimate in 0.125 °C. -/
  reading : Int
  estimate : Int
  suspect : Bool
  /-- Samples in a row in which the estimate exceeded the reading, and the instant of the last one counted (R496). -/
  exceed : Nat
  exceedAt : Option Nat
  /-- Since when the reading agrees with the estimate (R497), the temperature stays high, stays low (R489). -/
  agreeAt : Option Nat
  highAt : Option Nat
  lowAt : Option Nat
  /-- A rate-of-rise rise is locked out until this instant (R490). -/
  riseLock : Nat
  /-- The critical limit is reached, and since when the fatal limit holds (R491). -/
  critical : Bool
  fatalAt : Option Nat
  /-- Counts that P(n) depends on, of the running millisecond and of the last whole one (R495). -/
  acts : Nat
  bursts : Nat
  refs : Nat
  lastMs : Nat × Nat × Nat
  countAt : Nat
  /-- Instants of the layer's corrected-error events of the last hour (R498). -/
  ceAt : List Nat
  deriving DecidableEq, Repr

/-- A die's temperature state at reset: 25 °C. -/
def LayerTherm.reset : LayerTherm :=
  { level := 0, reading := 200, estimate := 200, suspect := false, exceed := 0, exceedAt := none, agreeAt := none,
    highAt := none, lowAt := none, riseLock := 0, critical := false, fatalAt := none, acts := 0, bursts := 0, refs := 0,
    lastMs := (0, 0, 0), countAt := 0, ceAt := [] }

/-! ## ERR_N, self-test, OTP and sideband (R508 to R581) -/

/-- The ERR_N, WAKE_N and ALERT_N pins beside the ERRPIN page (R525, R590, R591). -/
structure PinState where
  /-- The running pulse ends at this instant. -/
  pulseEnd : Option Nat
  /-- The high time after a release ends at this instant, and whether an event waits for it. -/
  gapEnd : Option Nat
  gapEvent : Bool
  /-- A release was written during the pulse (R525). -/
  releaseAsked : Bool
  /-- Read-backs in a row that read high (R527). -/
  highRun : Nat
  /-- WAKE_N and ALERT_N are driven low (R590, R591). -/
  wakeLow : Bool
  alertLow : Bool
  deriving DecidableEq, Repr

/-- Pins at reset: none driven. -/
def PinState.reset : PinState :=
  { pulseEnd := none, gapEnd := none, gapEvent := false, releaseAsked := false, highRun := 0, wakeLow := false,
    alertLow := false }

/-- Self-test state beside the BIST page (R539 to R551). -/
structure BistState where
  /-- The shutdown record: sequence, Always-On count at its commit, units it holds (page, test, unit) (R541 to R543), and
  the units held now. -/
  recSeq : Nat
  recAt : Option Nat
  recHeld : List (Nat × Nat × Nat)
  held : List (Nat × Nat × Nat)
  recValid : Bool
  /-- The results of the steps that ended (R548): code, errors, abandoned. -/
  results : Sparse (Nat × Nat × Bool)
  /-- The page that the running step has isolated (R540). -/
  under : Option Nat
  /-- Injections that wait for their event: kind, PC or link or sensor, argument, events left (R551). -/
  inj : List (Nat × Nat × Nat × Nat)
  /-- Units whose step has just passed and whose hold may be released (R550). -/
  passed : List (Nat × Nat × Nat)
  deriving DecidableEq, Repr

/-- Self-test at reset: no record. -/
def BistState.reset : BistState :=
  { recSeq := 0, recAt := none, recHeld := [], held := [], recValid := false, results := [], under := none, inj := [], passed := [] }

/-- OTP beside its page (R552 to R561): rows as they read after correction, spare rows and their use, locks. -/
structure OtpState where
  /-- The device has left the factory: a row that is not listed holds what the factory programmed. -/
  factory : Bool
  rows : Sparse (BitVec 56)
  /-- Rows served by a spare: row and spare (R559). -/
  spared : List (Nat × Nat)
  /-- Spares used without a redirection entry. -/
  unlinked : List Nat
  locked : List Nat
  /-- Rows whose latest read failed or whose latched copies differ. -/
  failed : List Nat
  differs : List Nat
  deriving DecidableEq, Repr

/-- OTP at reset: the regions that R458 has locked on the way to PROVISIONED are locked. -/
def OtpState.reset : OtpState :=
  { factory := true, rows := [], spared := [], unlinked := [], locked := [0, 2, 3, 4], failed := [], differs := [] }

/-- A firmware slot (R574). -/
structure FwSlot where
  version : Nat
  secver : Nat
  good : Bool
  deriving DecidableEq, Repr

/-- The sideband beside the SB page (R565 to R581). -/
structure SidebandState where
  /-- A response or event message the bus owner has not collected. -/
  uncollected : Bool
  /-- Open SPDM sessions of the sideband and the ports: number, how often its keys have been updated, and its authority
  (R214, R571). -/
  sessions : List (Nat × Nat × Option Session)
  /-- The bank bus: an operation is retried, and how often it has been (R576). -/
  retrying : Option Nat
  /-- Clears in a row that left the bus low (R578). -/
  stuckRun : Nat
  /-- Layer identity blocks read at stage 5: words by position × 8 + word, and bad positions (R579, R580). -/
  ident : Sparse Nat
  identBad : List Nat
  /-- The two slots of the firmware store (R574). -/
  slot0 : FwSlot
  slot1 : FwSlot
  /-- Where an activation waits for the core: the slot tried and since when. -/
  trying : Option (Nat × Nat)
  /-- The minimum security version (R574). -/
  minSec : Nat
  /-- Transfer of PLDM in progress: next offset. -/
  fwOffset : Option Nat
  deriving DecidableEq, Repr

/-- The sideband at reset. -/
def SidebandState.reset : SidebandState :=
  { uncollected := false, sessions := [], retrying := none, stuckRun := 0, ident := [], identBad := [],
    slot0 := { version := 1, secver := 0, good := true }, slot1 := { version := 0, secver := 0, good := false },
    trying := none, minSec := 0, fwOffset := none }

/-! ## The state -/

/-- Why a request that reached its controller is not in its queues: a quire that Clear (0) or Lift (1) has selected and
not finished (R42), a line of an outstanding Resync stroke (R41), a back-invalidate (R329), a line in recovery (R116). -/
inductive Wait where
  | quire (slot : Nat) (q : Nat)
  | stroke (loc : Nat)
  | snoop (port : Nat) (loc : Nat) (inval : Bool)
  | recovery (loc : Nat)
  deriving DecidableEq, Repr

/-- The state of the LR128. -/
structure State where
  /-- The register file: fields by `Fld.key`, those at their reset value unlisted. -/
  flds : Sparse Nat
  /-- The instant, in ps since the start of the model's time (assumption 5). -/
  now : Nat
  /-- How many free values have been drawn (assumption 3). -/
  free : Nat
  /-- What the device has sent, newest first. -/
  out : List Out
  pages : Sparse PageState
  /-- Requests on their way to a controller, oldest first (R40), and the number of the next. -/
  transit : List Req
  nextReq : Nat
  stalled : List (Wait × Req)
  pcs : Sparse Pc
  layers : Sparse Layer
  /-- The DRAM array: stored lines by location ÷ 64; an unlisted line is in the cleared form (assumption 6). -/
  lines : Sparse StoredLine
  kerf : Sparse KerfEng
  repair : Repair
  recoveries : List Recovery
  folio : Folio
  bank : ReserveBank
  crypto : Crypto
  gauge : GaugeState
  chisel : ChiselState
  dove : DoveState
  ports : Sparse PortState
  lds : Sparse LdState
  mbox : Mailbox
  lanes : Sparse LaneState
  spline : SplineState
  clk : ClockState
  domains : Sparse DomainState
  sys : SysState
  cals : Sparse CalState
  sensors : Sparse Sensor
  therm : Sparse LayerTherm
  pin : PinState
  bist : BistState
  otp : OtpState
  sb : SidebandState
  /-- The commands that wait, first in, first out. -/
  pending : List Instr
  deriving DecidableEq, Repr

/-- The clear mark K as the eight check symbols, p0 in the low byte (R91). -/
def clearMark : BitVec 64 := 0xD34F94B62BE50871

/-- The cleared form of a line (R91). -/
def StoredLine.cleared : StoredLine := { data := 0, check := clearMark }

/-- The machine at the start of stage 1 of a first start: an LR128-P4 in PROVISIONED with VIN good (assumption 4). -/
def State.reset : State :=
  { flds := [], now := 0, free := 1, out := [], pages := [], transit := [], nextReq := 0, stalled := [], pcs := [],
    layers := [], lines := [], kerf := [], repair := Repair.reset, recoveries := [], folio := Folio.reset,
    bank := ReserveBank.reset, crypto := Crypto.reset, gauge := GaugeState.reset, chisel := ChiselState.reset,
    dove := DoveState.reset, ports := [], lds := [], mbox := Mailbox.reset, lanes := [], spline := SplineState.reset,
    clk := ClockState.reset, domains := [], sys := SysState.reset, cals := [], sensors := [], therm := [],
    pin := PinState.reset, bist := BistState.reset, otp := OtpState.reset, sb := SidebandState.reset, pending := [] }

end Sys2Proof.Machine
end

