-- ==== Sys2Proof/Machine/LineCode.lean ====
section
/-!
DEFINITION. The line code RS(72,64) over GF(2^8): the field, encoding, the marks and the decoder's judgement (R90 to
R93). A received line is a list of 72 symbols, lane 0 first; lane `i` is the coefficient of x^(71 − i).
-/

namespace Sys2Proof.Machine

/-! ## The field -/

/-- Multiplication by α = 0x02 modulo x^8 + x^4 + x^3 + x^2 + 1 (R90). -/
def gfDouble (a : Nat) : Nat := if a < 128 then 2 * a else (2 * a) ^^^ 0x11D

/-- The product of two symbols, over the low `n` bits of the second. -/
def gfMulN : Nat → Nat → Nat → Nat
  | 0, _, _ => 0
  | n + 1, a, b => (if b % 2 = 1 then a else 0) ^^^ gfMulN n (gfDouble a) (b / 2)

/-- The product of two symbols. -/
def gfMul (a b : Nat) : Nat := if a = 0 ∨ b = 0 then 0 else gfMulN 8 a b

/-- A power of a symbol. -/
def gfPow (a : Nat) : Nat → Nat
  | 0 => 1
  | n + 1 => gfMul a (gfPow a n)

/-- The inverse of a symbol, its 254th power. -/
def gfInv (a : Nat) : Nat :=
  let a2 := gfMul a a
  let a4 := gfMul a2 a2
  let a8 := gfMul a4 a4
  let a16 := gfMul a8 a8
  let a32 := gfMul a16 a16
  let a64 := gfMul a32 a32
  gfMul (gfMul (gfMul a2 a4) (gfMul a8 a16)) (gfMul (gfMul a32 a64) (gfMul a64 a64))

/-! Polynomials are lists of coefficients, that of x^0 first. -/

/-- The sum of two polynomials. -/
def polyAdd : List Nat → List Nat → List Nat
  | [], q => q
  | p, [] => p
  | a :: p, b :: q => (a ^^^ b) :: polyAdd p q

/-- A polynomial times a symbol. -/
def polyScale (c : Nat) (p : List Nat) : List Nat := p.map (gfMul c)

/-- The product of two polynomials. -/
def polyMul : List Nat → List Nat → List Nat
  | [], _ => []
  | a :: p, q => polyAdd (polyScale a q) (0 :: polyMul p q)

/-- The value of a polynomial at a symbol. -/
def polyEval (p : List Nat) (x : Nat) : Nat := p.foldr (fun c acc => c ^^^ gfMul x acc) 0

/-- The formal derivative: the odd coefficients, each one place down. -/
def polyDeriv : List Nat → List Nat
  | [] => []
  | [_] => []
  | _ :: a :: p => a :: 0 :: polyDeriv p

/-- The polynomial (x + α^0)(x + α^1) … with `n` factors. -/
def rootPoly (n : Nat) : List Nat := (List.range n).foldl (fun g i => polyMul [gfPow 2 i, 1] g) [1]

/-- The generator (x + α^0)(x + α^1) … (x + α^7) (R90). -/
def generator : List Nat := rootPoly 8

/-! ## Symbols of a line -/

/-- The data symbols, byte `i` of the line on lane `i` (R90). -/
def dataSymbols (d : LineData) : List Nat := (List.range 64).map fun i => d.toNat / 2 ^ (8 * i) % 256

/-- The check symbols, p0 on lane 64 (R90). -/
def checkSymbols (c : BitVec 64) : List Nat := (List.range 8).map fun i => c.toNat / 2 ^ (8 * i) % 256

/-- Symbols as a number, the first in the low byte. -/
def packSymbols (l : List Nat) : Nat := l.foldr (fun b acc => b + 256 * acc) 0

/-- The 72 symbols of a stored line. -/
def StoredLine.symbols (l : StoredLine) : List Nat := dataSymbols l.data ++ checkSymbols l.check

/-- The stored line of 72 symbols. -/
def StoredLine.ofSymbols (w : List Nat) : StoredLine :=
  { data := BitVec.ofNat 512 (packSymbols (w.take 64)), check := BitVec.ofNat 64 (packSymbols (w.drop 64)) }

/-! ## Encoding and the marks -/

/-- One step of the division by a monic polynomial: its lower coefficients, highest first, the remainder in the same
order, and the next data symbol. -/
def divStep (g r : List Nat) (d : Nat) : List Nat :=
  let fb := d ^^^ r.headD 0
  let shifted := r.tail ++ [0]
  if fb = 0 then shifted else List.zipWith (fun a c => a ^^^ gfMul fb c) shifted g

/-- One step of the division by the generator. -/
def encodeStep (r : List Nat) (d : Nat) : List Nat := divStep (generator.take 8).reverse r d

/-- The check symbols p0 to p7 of a line's data: d(x)·x^8 mod g(x) (R90). -/
def checkOf (d : LineData) : BitVec 64 :=
  BitVec.ofNat 64 (packSymbols ((dataSymbols d).foldl encodeStep (List.replicate 8 0)))

/-- The poison mark M, p0 in the low byte (R91). -/
def poisonMark : BitVec 64 := 0xF46D0B92C75EA13C

/-- A data line as stored (R91). -/
def StoredLine.ofData (d : LineData) : StoredLine := { data := d, check := checkOf d }

/-- A poisoned line over these bytes (R91). -/
def StoredLine.poisoned (d : LineData) : StoredLine := { data := d, check := checkOf d ^^^ poisonMark }

/-! ## Decoding -/

/-- The syndromes S0 to S7: the received word at α^0 to α^7. -/
def syndromes (w : List Nat) : List Nat :=
  (List.range 8).map fun j => w.foldl (fun acc c => c ^^^ gfMul (gfPow 2 j) acc) 0

/-- The locator of a lane, α^(71 − lane). -/
def laneLoc (lane : Nat) : Nat := gfPow 2 (71 - lane)

/-- The state of the key equation's solution: locator, its partner and its length. -/
structure KeyEq where
  loc : List Nat
  aux : List Nat
  len : Nat
  deriving DecidableEq, Repr

/-- One iteration of Berlekamp and Massey's algorithm over the syndromes, with `e` erasures; `r` counts from 1. -/
def keyStep (syn : List Nat) (e : Nat) (k : KeyEq) (r : Nat) : KeyEq :=
  let d := (List.range (k.loc.length)).foldl
    (fun acc j => if j < r then acc ^^^ gfMul (k.loc.getD j 0) (syn.getD (r - 1 - j) 0) else acc) 0
  let shifted := 0 :: k.aux
  if d = 0 then { k with aux := shifted }
  else
    let t := polyAdd k.loc (polyScale d shifted)
    if 2 * k.len ≤ r - 1 + e then { loc := t, aux := polyScale (gfInv d) k.loc, len := r + e - k.len }
    else { loc := t, aux := shifted, len := k.len }

/-- The error-and-erasure locator of a syndrome and a set of erased lanes. -/
def errorLocator (syn : List Nat) (erased : List Nat) : List Nat :=
  let g := erased.foldl (fun p lane => polyMul [1, laneLoc lane] p) [1]
  let e := erased.length
  (((List.range (8 - e)).map fun i => e + 1 + i).foldl (keyStep syn e) { loc := g, aux := g, len := e }).loc

/-- The lanes at which a locator has a root. -/
def rootLanes (loc : List Nat) : List Nat :=
  (List.range 72).filter fun lane => polyEval loc (gfInv (laneLoc lane)) = 0

/-- The error added at a place of locator `x`, from the evaluator polynomial of `n` syndromes (Forney's formula). -/
def forney (n : Nat) (syn loc : List Nat) (x : Nat) : Nat :=
  let xi := gfInv x
  let om := (polyMul syn loc).take n
  gfMul x (gfMul (polyEval om xi) (gfInv (polyEval (polyDeriv loc) xi)))

/-- The error added on a lane. -/
def errorValue (syn loc : List Nat) (lane : Nat) : Nat := forney 8 syn loc (laneLoc lane)

/-- The word with an error taken off at each of these lanes. -/
def patch (w : List Nat) (errs : List (Nat × Nat)) : List Nat :=
  errs.foldl (fun w e => w.set e.1 (w.getD e.1 0 ^^^ e.2)) w

/-- The codeword that differs from the word in at most `t` lanes outside the erased ones, and those lanes; `none` where
there is none. What the algorithm proposes is checked against the code. -/
def correct (t : Nat) (erased : List Nat) (w : List Nat) : Option (List Nat × List Nat) :=
  let syn := syndromes w
  if syn.all (· == 0) then some (w, [])
  else
    let loc := errorLocator syn erased
    let fixed := patch w ((rootLanes loc).map fun lane => (lane, errorValue syn loc lane))
    let changed := (List.range 72).filter fun i => fixed.getD i 0 ≠ w.getD i 0 ∧ i ∉ erased
    if (syndromes fixed).all (· == 0) && decide (changed.length ≤ t) then some (fixed, changed) else none

/-- What the decoder gives: the outcome, the line as it should stand, and the lanes corrected outside erased lanes. -/
structure Verdict where
  outcome : Outcome92
  line : StoredLine
  lanes : List Nat
  deriving DecidableEq, Repr

/-- The correction limit of R93: 4 in correct-4 mode with no lane erased, else 3. -/
def correctLimit (mode : Nat) (erased : List Nat) : Nat := if mode = 1 ∧ erased = [] then 4 else 3

/-- The detection limit of R93. -/
def detectLimit (mode : Nat) (erased : List Nat) : Nat :=
  match erased.length with
  | 0 => if mode = 1 then 4 else 5
  | 1 => 4
  | _ => 3

/-- Orders 3 to 5 of R92. -/
def decodeMarks (erased : List Nat) (w : List Nat) : Verdict :=
  let off := (List.range 72).filter fun i => w.getD i 0 ≠ StoredLine.cleared.symbols.getD i 0 ∧ i ∉ erased
  if off.length ≤ 2 then { outcome := .cleared, line := StoredLine.cleared, lanes := off }
  else
    let m := List.replicate 64 0 ++ checkSymbols poisonMark
    match correct 2 erased (List.zipWith (· ^^^ ·) w m) with
    | some (c, lanes) =>
      { outcome := .poisoned, line := StoredLine.ofSymbols (List.zipWith (· ^^^ ·) c m), lanes := lanes }
    | none => { outcome := .uncorrectable, line := StoredLine.ofSymbols w, lanes := [] }

/-- The decoder's judgement of a received line, in the order of R92, under a mode and erased lanes. -/
def decodeLine (mode : Nat) (erased : List Nat) (w : List Nat) : Verdict :=
  match correct (correctLimit mode erased) erased w with
  | some (c, []) => { outcome := .clean, line := StoredLine.ofSymbols c, lanes := [] }
  | some (c, lanes) => { outcome := .corrected, line := StoredLine.ofSymbols c, lanes := lanes }
  | none => decodeMarks erased w

/-- What a burst gives of a stored line: each error is added to its lane's symbol. -/
def withErrors (l : StoredLine) (errs : List (Nat × Nat)) : List Nat := patch l.symbols errs

/-- The errors that a command names. -/
def symErrs (errs : List SymErr) : List (Nat × Nat) := errs.map fun e => (e.lane.val, e.xor.toNat)

/-! ## The decoder's test lines -/

/-- The 8 test lines of the scrub (R105): the stored line, and the first of the lanes in use that carry its errors with their
number. The fourth carries its errors on other lanes than the third. The bytes of the lines, the lanes and the errors are
the model's choice (DESIGN CHOICE, assumption 74). -/
def testLines (mode : Nat) (erased : List Nat) : List (StoredLine × Nat × Nat) :=
  let t := correctLimit mode erased
  let d := StoredLine.ofData 0
  let p := StoredLine.poisoned 0
  [(d, 0, 0), (d, 0, 1), (d, 0, t), (d, t, detectLimit mode erased), (p, 0, 0), (p, 0, 2), (StoredLine.cleared, 0, 0),
   (StoredLine.cleared, 0, 2)]

/-- The outcome that the decoder gives a test line: its errors lie on lanes that are not erased (R105). -/
def testOutcome (mode : Nat) (erased : List Nat) (k : Nat) : Outcome92 :=
  match (testLines mode erased)[k]? with
  | some l =>
    let lanes := (((List.range 72).filter fun i => !erased.contains i).drop l.2.1).take l.2.2
    (decodeLine mode erased (withErrors l.1 (lanes.map fun i => (i, 1)))).outcome
  | none => .clean

/-- The outcomes that R105 expects of the test lines. -/
def testExpected (mode : Nat) (erased : List Nat) : List Outcome92 :=
  [.clean, .corrected, .corrected,
   if detectLimit mode erased = correctLimit mode erased then .corrected else .uncorrectable,
   .poisoned, .poisoned, .cleared, .cleared]

end Sys2Proof.Machine
end

