-- ==== Sys2Proof/Machine/Aes.lean ====
section
/-!
DEFINITION. AES-256, XTS-AES-256, AES-256-CMAC and AES-256-GCM as the crypto units and the Folio use them (R126, R193,
R204). The ciphers themselves are those of FIPS 197, IEEE 1619, SP 800-38B and SP 800-38D, which the spec names and does not restate (PRESUMED, assumption 13). Bytes
are lists of numbers, the first byte first; byte `i` of a bit vector is bits `8 i + 7` to `8 i`.
-/

namespace Sys2Proof.Machine

/-- The S-box and its inverse, entry `i` in byte `i`. -/
def sboxWord : Nat :=
  0x16bb54b00f2d99416842e6bf0d89a18cdf2855cee9871e9b948ed9691198f8e19e1dc186b95735610ef6034866b53e708a8bbd4b1f74dde8c6b4a61c2e2578ba08ae7a65eaf4566ca94ed58d6d37c8e779e4959162acd3c25c2406490a3a32e0db0b5ede14b8ee4688902a22dc4f816073195d643d7ea7c41744975fec130ccdd2f3ff1021dab6bcf5389d928f40a351a89f3c507f02f94585334d43fbaaefd0cf584c4a39becb6a5bb1fc20ed00d153842fe329b3d63b52a05a6e1b1a2c830975b227ebe28012079a059618c323c7041531d871f1e5a534ccf73f362693fdb7c072a49cafa2d4adf04759fa7dc982ca76abd7fe2b670130c56f6bf27b777c63
def invSboxWord : Nat :=
  0x7d0c2155631469e126d677ba7e042b17619953833cbbebc8b0f52aae4d3be0a0ef9cc9939f7ae52d0d4ab519a97f51605fec8027591012b131c7078833a8dd1ff45acd78fec0db9a2079d2c64b3e56fc1bbe18aa0e62b76f89c5291d711af1476edf751ce837f9e28535ade72274ac9673e6b4f0cecff297eadc674f4111913a6b8a130103bdafc1020f3fca8f1e2cd00645b3b80558e4f70ad3bc8c00abd890849d8da75746155edab9edfd5048706c92b6655dcc5ca4d41698688664f6f87225d18b6d49a25b76b224d92866a12e084ec3fa420b954cee3d23c2a632947b54cbe9dec444438e3487ff2f9b8239e37cfbd7f3819ea340bf38a53630d56a0952

def subByte (b : Nat) : Nat := sboxWord / 2 ^ (8 * b) % 256
def invSubByte (b : Nat) : Nat := invSboxWord / 2 ^ (8 * b) % 256

/-- Multiplication by x in the field of AES. -/
def aesDouble (a : Nat) : Nat := if a < 128 then 2 * a else (2 * a) ^^^ 0x11B

/-- The products of a byte by 3, 9, 11, 13 and 14. -/
def aesTriple (a : Nat) : Nat := aesDouble a ^^^ a
def aesEight (a : Nat) : Nat := aesDouble (aesDouble (aesDouble a))
def aes9 (a : Nat) : Nat := aesEight a ^^^ a
def aes11 (a : Nat) : Nat := aesEight a ^^^ aesTriple a
def aes13 (a : Nat) : Nat := aesEight a ^^^ (aesDouble (aesDouble a) ^^^ a)
def aes14 (a : Nat) : Nat := aesEight a ^^^ (aesDouble (aesDouble a) ^^^ aesDouble a)

/-- The bytes of a number, the low byte first. -/
def bytesOf (n v : Nat) : List Nat := (List.range n).map fun i => v / 2 ^ (8 * i) % 256

/-- Two byte lists added. -/
def xorBytes (a b : List Nat) : List Nat := List.zipWith (· ^^^ ·) a b

/-- A word of four bytes rotated left by one byte. -/
def rotWord : List Nat → List Nat
  | [] => []
  | a :: l => l ++ [a]

/-- The next word of the key schedule, from the word before it, the word eight before it and its index. -/
def nextKeyWord (i : Nat) (prev back : List Nat) : List Nat :=
  let t :=
    if i % 8 = 0 then xorBytes ((rotWord prev).map subByte) [2 ^ (i / 8 - 1), 0, 0, 0]
    else if i % 8 = 4 then prev.map subByte
    else prev
  xorBytes back t

/-- The words of the key schedule, newest first, grown by `n` words. -/
def growKey : Nat → List (List Nat) → List (List Nat)
  | 0, ws => ws
  | n + 1, ws => growKey n (nextKeyWord ws.length (ws.headD []) (ws.getD 7 []) :: ws)

/-- The 15 round keys of a 32-byte key, 16 bytes each. -/
def roundKeys (key : List Nat) : List (List Nat) :=
  let w := (growKey 52 ((List.range 8).map fun i => (key.drop (4 * i)).take 4).reverse).reverse
  (List.range 15).map fun r => ((w.drop (4 * r)).take 4).flatten

/-- Byte `i` of the state stands in row i mod 4 and column i / 4. -/
def shiftRows (s : List Nat) : List Nat := (List.range 16).map fun i => s.getD ((i + 4 * (i % 4)) % 16) 0
def invShiftRows (s : List Nat) : List Nat := (List.range 16).map fun i => s.getD ((i + 12 * (i % 4)) % 16) 0

/-- One column mixed, and unmixed. -/
def mixColumn (a b c d : Nat) : List Nat :=
  [aesDouble a ^^^ aesTriple b ^^^ c ^^^ d, a ^^^ aesDouble b ^^^ aesTriple c ^^^ d,
   a ^^^ b ^^^ aesDouble c ^^^ aesTriple d, aesTriple a ^^^ b ^^^ c ^^^ aesDouble d]
def invMixColumn (a b c d : Nat) : List Nat :=
  [aes14 a ^^^ aes11 b ^^^ aes13 c ^^^ aes9 d, aes9 a ^^^ aes14 b ^^^ aes11 c ^^^ aes13 d,
   aes13 a ^^^ aes9 b ^^^ aes14 c ^^^ aes11 d, aes11 a ^^^ aes13 b ^^^ aes9 c ^^^ aes14 d]

/-- A function of a column on each of the four columns. -/
def onColumns (f : Nat → Nat → Nat → Nat → List Nat) (s : List Nat) : List Nat :=
  (List.range 4).flatMap fun c => f (s.getD (4 * c) 0) (s.getD (4 * c + 1) 0) (s.getD (4 * c + 2) 0) (s.getD (4 * c + 3) 0)

/-- AES-256 of one block under its round keys. -/
def aesEncrypt (rk : List (List Nat)) (block : List Nat) : List Nat :=
  let s := xorBytes block (rk.getD 0 [])
  let s := (List.range 13).foldl
    (fun s r => xorBytes (onColumns mixColumn (shiftRows (s.map subByte))) (rk.getD (r + 1) [])) s
  xorBytes (shiftRows (s.map subByte)) (rk.getD 14 [])

/-- The inverse of AES-256. -/
def aesDecrypt (rk : List (List Nat)) (block : List Nat) : List Nat :=
  let s := (invShiftRows (xorBytes block (rk.getD 14 []))).map invSubByte
  let s := (List.range 13).foldl
    (fun s r => (invShiftRows (onColumns invMixColumn (xorBytes s (rk.getD (13 - r) [])))).map invSubByte) s
  xorBytes s (rk.getD 0 [])

/-- A 256-bit key's round keys. -/
def keySchedule (k : BitVec 256) : List (List Nat) := roundKeys (bytesOf 32 k.toNat)

/-- The check value of a slot: the first four bytes of the encryption of the all-zero block under K1, the first in the
low byte (R192, R225). -/
def checkValue (k1 : BitVec 256) : Nat := packSymbols ((aesEncrypt (keySchedule k1) (List.replicate 16 0)).take 4)

/-- The tweak of the next block: a product by α in the field of XTS, little-endian. -/
def tweakNext (t : Nat) : Nat := if t < 2 ^ 127 then 2 * t else (2 * t - 2 ^ 128) ^^^ 0x87

/-- The tweaks of the four blocks of a line. -/
def lineTweaks (k2 : BitVec 256) (loc : Nat) : List Nat :=
  let t0 := packSymbols (aesEncrypt (keySchedule k2) (bytesOf 16 (loc / 64)))
  let t1 := tweakNext t0
  let t2 := tweakNext t1
  [t0, t1, t2, tweakNext t2]

/-- XTS over the four blocks of a line with a block function (R193). -/
def xtsLine (block : List Nat → List Nat) (tweaks : List Nat) (d : LineData) : LineData :=
  let bytes := bytesOf 64 d.toNat
  BitVec.ofNat 512 (packSymbols ((List.range 4).flatMap fun j =>
    let t := bytesOf 16 (tweaks.getD j 0)
    xorBytes (block (xorBytes ((bytes.drop (16 * j)).take 16) t)) t))

/-- The ciphertext of a line at its location, and its inverse (R193). -/
def xtsEncrypt (k1 k2 : BitVec 256) (loc : Nat) (d : LineData) : LineData :=
  xtsLine (aesEncrypt (keySchedule k1)) (lineTweaks k2 loc) d
def xtsDecrypt (k1 k2 : BitVec 256) (loc : Nat) (d : LineData) : LineData :=
  xtsLine (aesDecrypt (keySchedule k1)) (lineTweaks k2 loc) d

/-- The subkey of CMAC for a message of whole blocks: the encryption of the zero block, doubled, big-endian. -/
def cmacSubkey (rk : List (List Nat)) : List Nat :=
  let l := packSymbols (aesEncrypt rk (List.replicate 16 0)).reverse
  (bytesOf 16 (if l < 2 ^ 127 then 2 * l else (2 * l - 2 ^ 128) ^^^ 0x87)).reverse

/-- AES-256-CMAC of a message of `n` whole blocks. -/
def cmac (key : BitVec 256) (n : Nat) (msg : List Nat) : List Nat :=
  let rk := keySchedule key
  (List.range n).foldl (fun c i =>
    let b := (msg.drop (16 * i)).take 16
    let b := if i + 1 = n then xorBytes b (cmacSubkey rk) else b
    aesEncrypt rk (xorBytes c b)) (List.replicate 16 0)

/-- The integrity tag of a line: the leftmost 32 bits of the CMAC over the 80-byte message of R204, its first byte in
the low byte. -/
def tagOf (ki : BitVec 256) (loc gen slot : Nat) (cipher : LineData) : BitVec 32 :=
  let msg := bytesOf 64 cipher.toNat ++ bytesOf 8 (loc / 64 * 64) ++ [gen % 256] ++ bytesOf 2 slot ++
    List.replicate 5 0
  BitVec.ofNat 32 (packSymbols ((cmac ki 5 msg).take 4))

/-! ## GCM -/

/-- A number as `n` bytes, the high byte first. -/
def bytesBe (n v : Nat) : List Nat := (bytesOf n v).reverse

/-- The number of a list of bytes, the high byte first. -/
def packBe (l : List Nat) : Nat := packSymbols l.reverse

/-- A block of GCM's key stream: the nonce of 12 bytes and a counter of 32 bits under AES. -/
def gcmBlock (rk : List (List Nat)) (nonce ctr : Nat) : List Nat := aesEncrypt rk (bytesBe 12 nonce ++ bytesBe 4 ctr)

/-- The key stream over the line `i` of a message: four blocks, the first data block having counter 2. -/
def gcmLine (rk : List (List Nat)) (nonce i : Nat) : LineData :=
  BitVec.ofNat 512 (packSymbols ((List.range 4).flatMap fun j => gcmBlock rk nonce (2 + 4 * i + j)))

/-- The product in the field of GHASH: bit 127 is the coefficient of x^0. The first operand is read from the top, over
its low `n` bits; `v` is the second times x for each bit read. -/
def ghashMul : Nat → Nat → Nat → Nat
  | 0, _, _ => 0
  | n + 1, x, v =>
    (if x / 2 ^ n % 2 = 1 then v else 0) ^^^
      ghashMul n x (v / 2 ^^^ (if v % 2 = 1 then 0xE1 * 2 ^ 120 else 0))

/-- GHASH over whole blocks. -/
def ghash (h : Nat) (blocks : List (List Nat)) : Nat := blocks.foldl (fun y b => ghashMul 128 (y ^^^ packBe b) h) 0

/-- Bytes cut into blocks of 16, the last filled with zeros; `n` blocks. -/
def gcmBlocks (n : Nat) (l : List Nat) : List (List Nat) :=
  (List.range n).map fun i => (List.range 16).map fun j => l.getD (16 * i + j) 0

/-- The 16-byte tag of GCM over additional data and ciphertext. -/
def gcmTag (rk : List (List Nat)) (nonce : Nat) (aad cipher : List Nat) : List Nat :=
  let h := packBe (aesEncrypt rk (List.replicate 16 0))
  let y := ghash h (gcmBlocks ((aad.length + 15) / 16) aad ++ gcmBlocks ((cipher.length + 15) / 16) cipher ++
    [bytesBe 8 (8 * aad.length) ++ bytesBe 8 (8 * cipher.length)])
  xorBytes (bytesBe 16 y) (gcmBlock rk nonce 1)

end Sys2Proof.Machine
end

