-- ==== Sys2Proof/Config.lean ====
section
/-!
DEFINITION. What the spec leaves free. Each constant is opaque and has no body: nothing can evaluate it, so a claim that
holds holds whatever its values are. Each is applied to a counter of State (`State.free`) that the step reads and
advances, or to the operands it depends on. Assumption 3 lists them.
-/

namespace Sys2Proof.Config

/-- The seed that a controller draws for its activation sampler at a start (R72): draw, PC. -/
opaque lfsrSeed : Nat → Nat → BitVec 32
/-- A key drawn from the on-die random source (R130, R194). -/
opaque randomKey : Nat → BitVec 256
/-- A key of a Dovetail session (R282): the draw of the session, the direction (that of the higher Unit Number), the key
updates since its start. -/
opaque sessionKey : Nat → Bool → Nat → BitVec 256
/-- A nonce drawn from the on-die random source (R571). -/
opaque nonce : Nat → BitVec 256
/-- The power of a DRAM layer in units of 0.001 W as a function of its activate, burst and refresh counts (R495). -/
opaque layerPower : Nat → Nat → Nat → Nat
/-- A setting or eye that the start training of a PC's vias finds (R464, R474): draw, PC, item. -/
opaque trained : Nat → Nat → Nat → Nat
/-- The self-heating coefficient of a layer above its least value, in units of 0.001 °C/W (R495). -/
opaque theta : Nat → Nat
/-- An output that the spec names but whose encoding is that of another standard: certificates, signatures and
measurement values (R571 to R573), by kind and index. -/
opaque blob : Nat → Nat → BitVec 512
/-- The result bytes that a job leaves in its result region where the spec leaves them undefined (R246, R269). -/
opaque jobResult : Nat → Nat → BitVec 512
/-- How many outputs of an aborted job reach the assembler after its record (R269). -/
opaque lateOutputs : Nat → Nat
/-- How a register of whole °C without a sign shows a temperature below 0 °C (R487, R505), by its magnitude. -/
opaque belowZero : Nat → Nat
/-- Where the spec leaves the order of equal candidates open: the candidate taken, by draw and count. -/
opaque pick : Nat → Nat → Nat
/-- How long the commit of a void Colophon took, in µs, by draw (R137, R163). -/
opaque voidUs : Nat → BitVec 32

/-- The data of an OTP row that the factory has programmed (R553): it differs from module to module. -/
opaque otpRow : Nat → BitVec 56

/-- How many persistence-layer reads the array's own code has corrected (R348). -/
opaque correctedReads : Nat → Nat

/-- The block-specific capabilities that a page reads in PAGE_CAP, which the spec does not state (R10). -/
opaque blockCap : Nat → Nat
/-- A word of the identity block of a layer whose bytes the start reports as good and no more (R579). -/
opaque identWord : Nat → Nat → Nat

end Sys2Proof.Config
end

