-- ==== Sys2Proof/Machine/Ops.lean ====
section
/-!
DEFINITION. The operations over registers, time, tables and requests that the meanings share.
-/

namespace Sys2Proof.Machine

/-- What a meaning answers. -/
abbrev Result := Host.Outcome State Fault Refusal

/-- The next state of an outcome, or the state before where there is none. -/
def State.after (s : State) : Result → State
  | .next t => t
  | _ => s

/-! ## Registers -/

/-- The value of a register field. -/
def State.rd (s : State) (f : Fld) : Nat := Sparse.get Fld.resetVal s.flds f.key

/-- The state with a register field set; a value is taken modulo the width of the field. -/
def State.wr (s : State) (f : Fld) (v : Nat) : State :=
  { s with flds := Sparse.set Fld.resetVal s.flds f.key (v % 2 ^ f.width) }

/-- A one-bit field as a truth value. -/
def State.on (s : State) (f : Fld) : Bool := decide (s.rd f = 1)

/-- A field set to 1. -/
def State.put (s : State) (f : Fld) : State := s.wr f 1

/-- A field set to 0. -/
def State.clr (s : State) (f : Fld) : State := s.wr f 0

/-- A one-bit field set from a truth value. -/
def State.wrb (s : State) (f : Fld) (b : Bool) : State := s.wr f (if b then 1 else 0)

/-- A count raised by `n`, saturating at the field's greatest value. -/
def State.count (s : State) (f : Fld) (n : Nat) : State := s.wr f (min (s.rd f + n) (2 ^ f.width - 1))

/-- A saturating count raised by 1. -/
def State.bump (s : State) (f : Fld) : State := s.count f 1

/-- A count lowered by `n`, not below 0. -/
def State.drop (s : State) (f : Fld) (n : Nat) : State := s.wr f (s.rd f - n)

/-- A longest-time field raised to `v` where it is lower, saturating. -/
def State.longest (s : State) (f : Fld) (v : Nat) : State :=
  if s.rd f < v then s.wr f (min v (2 ^ f.width - 1)) else s

/-- A 64-bit value in a pair of registers. -/
def State.wr64 (s : State) (lo hi : Fld) (v : Nat) : State := (s.wr lo (v % 2 ^ 32)).wr hi (v / 2 ^ 32)

/-- The value of a pair of registers. -/
def State.rd64 (s : State) (lo hi : Fld) : Nat := s.rd lo + s.rd hi * 2 ^ 32

/-- One bit of a field set. -/
def State.setBit (s : State) (f : Fld) (n : Nat) : State := s.wr f (s.rd f ||| 2 ^ n)

/-- One bit of a field cleared. -/
def State.clrBit (s : State) (f : Fld) (n : Nat) : State := s.wr f (s.rd f - (s.rd f &&& 2 ^ n))

/-- A bit of a number. -/
def bitOf (v n : Nat) : Bool := decide (v / 2 ^ n % 2 = 1)

/-- A two's complement field of `w` bits. -/
def toSigned (w v : Nat) : Int := if v < 2 ^ (w - 1) then (v : Int) else (v : Int) - 2 ^ w

/-- An integer as a two's complement field of `w` bits. -/
def ofSigned (w : Nat) (v : Int) : Nat := (v % (2 ^ w : Int)).toNat

/-- A value held between two bounds. -/
def clampTo (lo hi v : Nat) : Nat := max lo (min hi v)

/-- The soft reset of a page's registers: every field at 0x100 and above returns to its reset value but those of
`keep` (R607). -/
def State.resetPage (s : State) (page : Nat) (keep : Nat → Bool) : State :=
  { s with flds := s.flds.filter fun e =>
      !(decide (e.1 / 131072 % 128 = page) && decide (0x100 ≤ e.1 / 32 % 4096)) || keep e.1 }

/-! ## Time (assumption 5) -/

/-- Picoseconds in a nanosecond, microsecond, millisecond, second and hour. -/
def psNs : Nat := 1000
def psUs : Nat := 1000000
def psMs : Nat := 1000000000
def psS : Nat := 1000000000000
def psH : Nat := 3600 * psS

/-- The correction of TB_RATE_TRIM in ppm (R429). -/
def State.trim (s : State) : Int :=
  if s.on (CLK_DOM_STAT.src.ix 17) then 0 else toSigned 16 (s.rd TB_RATE_TRIM.ppm)

/-- Time passes: the Time Base counts on, unless its domain sleeps (R429). Time on the House Oscillator gathers 160 ppm
of skew (R430). -/
def State.advance (s : State) (dt : Nat) : State :=
  { s with
    now := s.now + dt
    clk := if s.clk.tbAsleep then s.clk else
      let tb := s.clk.tbFrac + dt * (1000000 + s.trim).toNat
      let skew := s.clk.skewFrac + (if s.on (CLK_DOM_STAT.src.ix 17) then dt * 160 else 0)
      { s.clk with
        tbPs := s.clk.tbPs + tb / 1000000, tbFrac := tb % 1000000
        skewPs := s.clk.skewPs + skew / 1000000, skewFrac := skew % 1000000 } }

/-- Time passes up to an instant, where it still lies ahead. -/
def State.advanceTo (s : State) (t : Nat) : State := s.advance (t - s.now)

/-- Idling on an empty queue: one nanosecond passes. -/
def State.idle (s : State) : State := s.advance psNs

/-- The Always-On count: ticks of 30,517.578125 ns (R413). -/
def State.ao (s : State) : Nat := s.now * 8 / 244140625

/-- Ticks of the Always-On counter in ps (R413). -/
def aoPs (n : Nat) : Nat := n * 244140625 / 8

/-- The Time Base in ns. While its domain sleeps, a time-stamp takes the carried value (R433). -/
def State.tb (s : State) : Nat :=
  (if s.clk.tbAsleep then s.clk.stored + (s.now - aoPs s.clk.a0) else s.clk.tbPs) / psNs % 2 ^ 64

/-- The Time Base is valid (R435). -/
def State.tbValid (s : State) : Bool := s.on TB_STAT.valid

/-- The Time Base in ns, 0 while it is invalid. -/
def State.tbOr0 (s : State) : Nat := if s.tbValid then s.tb else 0

/-! ## Tables of the state -/

/-- An output joins those sent. -/
def State.emit (s : State) (o : Out) : State := { s with out := o :: s.out }

/-- A free value's draw number, and the counter advanced past it (assumption 3). -/
def State.drawn (s : State) : State := { s with free := s.free + 1 }

def State.page (s : State) (p : Nat) : PageState := Sparse.get (fun _ => {}) s.pages p
def State.setPage (s : State) (p : Nat) (v : PageState) : State :=
  { s with pages := Sparse.set (fun _ => {}) s.pages p v }

def State.pc (s : State) (p : Nat) : Pc := Sparse.get (fun _ => Pc.reset) s.pcs p
def State.setPc (s : State) (p : Nat) (v : Pc) : State := { s with pcs := Sparse.set (fun _ => Pc.reset) s.pcs p v }

def Pc.bank (c : Pc) (b : Nat) : DramBank := Sparse.get DramBank.reset c.banks b
def Pc.setBank (c : Pc) (b : Nat) (v : DramBank) : Pc := { c with banks := Sparse.set DramBank.reset c.banks b v }

def State.layer (s : State) (l : Nat) : Layer := Sparse.get (fun _ => Layer.reset) s.layers l
def State.setLayer (s : State) (l : Nat) (v : Layer) : State :=
  { s with layers := Sparse.set (fun _ => Layer.reset) s.layers l v }

def State.eng (s : State) (k : Nat) : KerfEng := Sparse.get (fun _ => KerfEng.reset) s.kerf k
def State.setEng (s : State) (k : Nat) (v : KerfEng) : State :=
  { s with kerf := Sparse.set (fun _ => KerfEng.reset) s.kerf k v }

def State.quire (s : State) (q : Nat) : QEntry := Sparse.get (fun _ => QEntry.reset) s.folio.map q
def State.setQuire (s : State) (q : Nat) (v : QEntry) : State :=
  { s with folio := { s.folio with map := Sparse.set (fun _ => QEntry.reset) s.folio.map q v } }

def State.key (s : State) (k : Nat) : KeySlot := Sparse.get (fun _ => KeySlot.empty) s.crypto.keys k
def State.setKey (s : State) (k : Nat) (v : KeySlot) : State :=
  { s with crypto := { s.crypto with keys := Sparse.set (fun _ => KeySlot.empty) s.crypto.keys k v } }

def State.rights (s : State) (m : Nat) : BitVec 256 := Sparse.get (fun _ => rightsReset) s.crypto.rights m
def State.setRights (s : State) (m : Nat) (v : BitVec 256) : State :=
  { s with crypto := { s.crypto with rights := Sparse.set (fun _ => rightsReset) s.crypto.rights m v } }

def State.range (s : State) (n : Nat) : KeyRange := Sparse.get (fun _ => KeyRange.reset) s.crypto.ranges n
def State.setRange (s : State) (n : Nat) (v : KeyRange) : State :=
  { s with crypto := { s.crypto with ranges := Sparse.set (fun _ => KeyRange.reset) s.crypto.ranges n v } }

def State.pair (s : State) (p : Nat) : PairForce := Sparse.get PairForce.reset s.gauge.force p
def State.setPair (s : State) (p : Nat) (v : PairForce) : State :=
  { s with gauge := { s.gauge with force := Sparse.set PairForce.reset s.gauge.force p v } }

def State.port (s : State) (p : Nat) : PortState := Sparse.get (fun _ => PortState.reset) s.ports p
def State.setPort (s : State) (p : Nat) (v : PortState) : State :=
  { s with ports := Sparse.set (fun _ => PortState.reset) s.ports p v }

/-- The state of a logical device, by its master code. -/
def State.ld (s : State) (m : Nat) : LdState := Sparse.get (fun _ => LdState.reset) s.lds m
def State.setLd (s : State) (m : Nat) (v : LdState) : State :=
  { s with lds := Sparse.set (fun _ => LdState.reset) s.lds m v }

/-- A lane by group × 8 + lane. -/
def State.lane (s : State) (n : Nat) : LaneState := Sparse.get (fun _ => LaneState.reset) s.lanes n
def State.setLane (s : State) (n : Nat) (v : LaneState) : State :=
  { s with lanes := Sparse.set (fun _ => LaneState.reset) s.lanes n v }

def State.xing (s : State) (n : Nat) : Crossing := Sparse.get (fun _ => Crossing.reset) s.spline.crossings n
def State.setXing (s : State) (n : Nat) (v : Crossing) : State :=
  { s with spline := { s.spline with crossings := Sparse.set (fun _ => Crossing.reset) s.spline.crossings n v } }

def State.domain (s : State) (n : Nat) : DomainState := Sparse.get (fun _ => DomainState.reset) s.domains n
def State.setDomain (s : State) (n : Nat) (v : DomainState) : State :=
  { s with domains := Sparse.set (fun _ => DomainState.reset) s.domains n v }

def State.cal (s : State) (n : Nat) : CalState := Sparse.get (fun _ => CalState.reset) s.cals n
def State.setCal (s : State) (n : Nat) (v : CalState) : State :=
  { s with cals := Sparse.set (fun _ => CalState.reset) s.cals n v }

def State.sensor (s : State) (n : Nat) : Sensor := Sparse.get (fun _ => Sensor.reset) s.sensors n
def State.setSensor (s : State) (n : Nat) (v : Sensor) : State :=
  { s with sensors := Sparse.set (fun _ => Sensor.reset) s.sensors n v }

def State.heat (s : State) (n : Nat) : LayerTherm := Sparse.get (fun _ => LayerTherm.reset) s.therm n
def State.setHeat (s : State) (n : Nat) (v : LayerTherm) : State :=
  { s with therm := Sparse.set (fun _ => LayerTherm.reset) s.therm n v }

def State.tip (s : State) (e : Nat) : TipEntry := Sparse.get (fun _ => TipEntry.none) s.repair.table e
def State.setTip (s : State) (e : Nat) (v : TipEntry) : State :=
  { s with repair := { s.repair with table := Sparse.set (fun _ => TipEntry.none) s.repair.table e v } }

/-- The stored line at a line address (a location with bits [5:0] zero). -/
def State.line (s : State) (loc : Nat) : StoredLine := Sparse.get (fun _ => StoredLine.cleared) s.lines (loc / 64)
def State.setLine (s : State) (loc : Nat) (v : StoredLine) : State :=
  { s with lines := Sparse.set (fun _ => StoredLine.cleared) s.lines (loc / 64) v }

/-- The lines of a half-open span of line numbers all take the cleared form. -/
def State.clearLines (s : State) (lo hi : Nat) : State :=
  { s with lines := s.lines.filter fun e => decide (e.1 < lo) || decide (hi ≤ e.1) }

/-- Numbers of a list folded over the state. -/
def State.forAll {α : Type} (s : State) (l : List α) (f : State → α → State) : State := l.foldl f s

/-! ## The device as a whole -/

/-- Safe State has been triggered (R518). -/
def State.safe (s : State) : Bool := s.on SYS_START_STAT.safe

/-- The device serves memory requests and its engines run: it is active, and no self-test step has taken it Offline. -/
def State.serving (s : State) : Bool := decide (s.sys.phase = .active) && !s.on BIST_ENG_STAT.offline

/-- Life-cycle states of R457: 0 MANUFACTURE, 1 FACTORY_TEST, 2 PROVISIONED, 3 FIELD_SERVICE, 4 DECOMMISSIONED. -/
def State.lifeCycle (s : State) : Nat := s.rd SYS_LC.state

/-- FOLIO_STAT.persist is Full or Partial. -/
def State.persists (s : State) : Bool := decide (s.rd FOLIO_STAT.persist = 1 ∨ s.rd FOLIO_STAT.persist = 2)

/-- Persistence is fused on: every variant but the LR128-V4 (R1). -/
def State.persistFused (s : State) : Bool := decide (s.sys.variant ≠ 4)

/-- A block exists in the variant (R3), and the restrictive defaults leave it (R555). -/
def State.present (s : State) (page : Nat) : Bool :=
  pageExists page && !(decide (s.sys.variant = 2) && (page == 0x12 || page == 0x13))
    && !(decide (s.sys.variant = 4) && (page == 0x1B || page == 0x1C))
    && !(s.on SYS_LC.restrictive && (page == 0x14 || page == 0x1B || page == 0x1C || page == 0x1D))

/-- The full capacity of the variant in quires (R1). -/
def State.fullQuires (s : State) : Nat := if s.sys.variant = 3 then 122880 else 131072

/-- The tag carve-out is active (R38). -/
def State.carve (s : State) : Bool := s.on KERF_STACK_CFG.carve_out

/-- The base of the carve-out in quires (R37). -/
def State.carveBase (s : State) : Nat := s.rd KERF_CARVE_BASE.base_quire

/-- The mirror area is reserved (R277). -/
def State.area (s : State) : Bool := s.on DOVE_STAT.area

/-- Whether a quire lies in the mirror area. -/
def State.inArea (s : State) (q : Nat) : Bool := decide (s.fullQuires - 32 ≤ q ∧ q < s.fullQuires)

/-- KERF_CAPACITY.quires recomputed (R51). -/
def State.capacity (s : State) : Nat :=
  if s.carve then s.carveBase else if s.area then s.fullQuires - 32 else s.fullQuires

def State.fixCapacity (s : State) : State := s.wr KERF_CAPACITY.quires s.capacity

/-- The quire of a location (R31). -/
def quireOf (loc : Nat) : Nat := loc / 2 ^ 20

/-- The master code of a logical device (R228). -/
def masterOf (port ld : Nat) : Nat := port * 4 + ld

end Sys2Proof.Machine
end

