-- ==== Sys2Proof/Machine/Flags.lean ====
section
/-!
DEFINITION. Errors, interrupts and reports: what every page does when its block records an error (R10 to R13, R508 to
R517), the interrupt causes (R10, R322), the event logs (R335, R336), AER (R528, R529), ERR_N (R524 to R527) and WAKE_N
(R590).
-/

namespace Sys2Proof.Machine

/-! ## Interrupts -/

/-- A message to the host of a port. One that finds the link in L0s or L1, or past the commit point of an entry to L1,
waits for its exit (R380). -/
def State.send (s : State) (p : Nat) (o : Out) : State :=
  let t := s.port p
  if t.l1Req ∨ 3 ≤ s.rd (PHY_STAT.pm_state.port p) then
    (s.setPort p { t with waitOut := t.waitOut ++ [o] }).put (PHY_PM_STAT.last_outcome.port p)
  else if s.rd (PHY_STAT.pm_state.port p) = 1 then s.setPort p { t with waitOut := t.waitOut ++ [o] }
  else s.emit o

/-- The logical devices of the device, as (port, LD). -/
def allLds : List (Nat × Nat) :=
  (List.range 16).map fun m => (m / 4, m % 4)

/-- A port exists in the variant (R1). -/
def State.hasPort (s : State) (port : Nat) : Bool := s.present (0x10 + port)

/-- A register field of a logical device. -/
def Fld.ld (f : Fld) (port ld : Nat) : Fld := (f.port port).ix ld

/-- The logical device's admin bit (R320). -/
def State.admin (s : State) (port ld : Nat) : Bool := s.hasPort port && s.on (PORT_LD_CFG.admin.ld port ld)

/-- The logical device is bound to a host (R318). -/
def State.bound (s : State) (port ld : Nat) : Bool := s.hasPort port && s.on (PORT_LD_CFG.bound.ld port ld)

/-- The page interrupt goes to every function whose admin bit is 1 (R322). -/
def State.pageMsix (s : State) : State :=
  s.forAll (allLds.filter fun m => s.admin m.1 m.2) fun s m =>
    s.send m.1 (.msix m.1 m.2 (s.rd (PORT_LD_CFG.page_vec.ld m.1 m.2)))

/-- INT_STAT.err, which follows ERR_STAT and ERR_MASK (R10, R509). -/
def State.intErr (s : State) (page : Nat) : Bool :=
  (s.on (ERR_STAT.ce.on page) && !s.on (ERR_MASK.mask_ce.on page)) ||
  (s.on (ERR_STAT.uc.on page) && !s.on (ERR_MASK.mask_uc.on page)) || s.on (ERR_STAT.fatal.on page)

/-- The page interrupt of a bit of INT_STAT that has just become 1, where INT_EN lets it out; the enable of clock_loss
always reads 1 (R437). -/
def State.intOut (s : State) (page bit : Nat) : State :=
  if bitOf (s.rd (INT_EN.enables.on page)) bit || (page == 0x02 && bit == 1) then s.pageMsix else s

/-- Bit `bit` of INT_STAT is a cause that has happened (R10). -/
def State.cause (s : State) (page bit : Nat) : State :=
  let f := INT_STAT.causes.on page
  if bitOf (s.rd f) (bit - 1) then s else (s.setBit f (bit - 1)).intOut page bit

/-! ## ERR_N and WAKE_N -/

/-- The width of an ERR_N pulse, 22 µs, and the least high time after a release, 20 µs (R526). -/
def errPulse : Nat := 22 * psUs
def errGap : Nat := 20 * psUs

/-- ERR_N goes low for one pulse (R525). -/
def State.errPulseStart (s : State) (source : Nat) : State :=
  let s := ((s.put ERRPIN_STAT.driven).wr ERRPIN_STAT.last_source source).bump ERRPIN_PULSES.count
  let s := s.wr64 ERRPIN_LAST_TIME_LO.time ERRPIN_LAST_TIME_HI.time s.tb
  { s with pin := { s.pin with pulseEnd := some (s.now + errPulse), gapEnd := none, gapEvent := false } }
    |>.emit (.errN true)

/-- An event that drives ERR_N: source 1 fatal, 2 Safe State, 3 Clock Loss, 4 uncorrected-contained, 5 test. An event
while the pin is low joins that low period and is counted; one in the high time waits for its end (R525). -/
def State.errEvent (s : State) (source : Nat) : State :=
  if s.sys.phase = .off then s
  else if s.on ERRPIN_STAT.driven then s.bump ERRPIN_COALESCED.count
  else if s.pin.gapEnd.isSome then
    if s.pin.gapEvent then s.bump ERRPIN_COALESCED.count
    else { s with pin := { s.pin with gapEvent := true } }.wr ERRPIN_STAT.last_source source
  else s.errPulseStart source

/-- The link of a lane group is in L0 or L0p (R590). -/
def State.linkL0 (s : State) (g : Nat) : Bool := decide (s.rd (PHY_STAT.ltssm.port g) = 3)

/-- The link of a lane group carries flits: L0, L0p or L0s. -/
def State.linkOpen (s : State) (g : Nat) : Bool :=
  decide (s.rd (PHY_STAT.ltssm.port g) = 3 ∨ s.rd (PHY_STAT.ltssm.port g) = 6)

/-- WAKE_N follows the ports that ask for it (R590). -/
def State.fixWake (s : State) : State :=
  let low := (List.range 4).any fun p => (s.port p).wake
  if low = s.pin.wakeLow then s else { s with pin := { s.pin with wakeLow := low } }.emit (.wakeN low)

/-- A record has entered the Failure or Fatal log of a logical device of the port (R590). -/
def State.wakeFor (s : State) (port : Nat) : State :=
  let p := s.port port
  if p.perstHigh && !s.linkL0 port then (s.setPort port { p with wake := true }).fixWake else s

/-- The port no longer meets the condition of R590. -/
def State.wakeOver (s : State) (port : Nat) : State := (s.setPort port { s.port port with wake := false }).fixWake

/-! ## Event logs and AER -/

/-- The allocation ranges of a logical device hold a quire (R319). -/
def State.allocHolds (s : State) (port ld q : Nat) : Bool :=
  (List.range 4).any fun a =>
    decide (s.rd (PORT_LD_ALLOC_BASE.base_quire.ld port (ld * 4 + a)) ≤ q ∧
      q < s.rd (PORT_LD_ALLOC_END.end_quire.ld port (ld * 4 + a)))

/-- The logical devices an event goes to: those that hold its location, or else those whose admin bit is 1 (R335). -/
def State.routed (s : State) (tied : Option Nat) : List (Nat × Nat) :=
  allLds.filter fun m =>
    match tied with
    | some loc => s.hasPort m.1 && s.allocHolds m.1 m.2 (quireOf loc)
    | none => s.admin m.1 m.2

/-- The bound logical devices. -/
def State.allBound (s : State) : List (Nat × Nat) := allLds.filter fun m => s.bound m.1 m.2

/-- The four event logs by number: 0 Informational, 1 Warning, 2 Failure, 3 Fatal. -/
def LdState.log (l : LdState) : Nat → List EventRec
  | 0 => l.info
  | 1 => l.warn
  | 2 => l.fail
  | _ => l.fatal

/-- A log replaced. -/
def LdState.setLog (l : LdState) (n : Nat) (r : List EventRec) : LdState :=
  match n with
  | 0 => { l with info := r }
  | 1 => { l with warn := r }
  | 2 => { l with fail := r }
  | _ => { l with fatal := r }

/-- A record more is lost to the overflow of a full log. -/
def LdState.lose (l : LdState) (n : Nat) : LdState :=
  match n with
  | 0 => { l with lostInfo := l.lostInfo + 1 }
  | 1 => { l with lostWarn := l.lostWarn + 1 }
  | 2 => { l with lostFail := l.lostFail + 1 }
  | _ => { l with lostFatal := l.lostFatal + 1 }

/-- The interrupt policy of a log: 0 none, 1 MSI-X vector 1, 2 firmware VDM (R334). -/
def LdState.policy (l : LdState) : Nat → Nat
  | 0 => l.polInfo
  | 1 => l.polWarn
  | 2 => l.polFail
  | _ => l.polFatal

/-- The records a log holds at most (R335). -/
def logSize : Nat := 64

/-- A record enters a log of a logical device (R335); the interrupt policy decides who hears of it. -/
def State.enterLog (s : State) (log : Nat) (r : EventRec) (m : Nat × Nat) : State :=
  let l := s.ld (masterOf m.1 m.2)
  let l' := if (l.log log).length < logSize then { l.setLog log (l.log log ++ [{ r with handle := l.handle }]) with
      handle := l.handle + 1 } else l.lose log
  let s := s.setLd (masterOf m.1 m.2) l'
  let s := if l.policy log = 1 then s.send m.1 (.msix m.1 m.2 1)
    else if l.policy log = 2 then s.send m.1 (.eventVdm m.1 m.2 log) else s
  if 2 ≤ log then s.wakeFor m.1 else s

/-- An AER message falls due on logical devices: 1 ERR_COR, 2 ERR_NONFATAL, 3 ERR_FATAL. One of a severity that is
already due is coalesced (R528, R529). -/
def State.aerDue (s : State) (severity : Nat) (lds : List (Nat × Nat)) : State :=
  s.forAll lds fun s m =>
    let p := s.port m.1
    if (m.2, severity) ∈ p.aer then s else s.setPort m.1 { p with aer := p.aer ++ [(m.2, severity)] }

/-! ## Errors -/

/-- What an event leaves in the logs (R335). -/
inductive Report where
  | none | media | dramInfo | dramWarn | health | dirty | vendor
  deriving DecidableEq, Repr

/-- The kind of a record and its log; `fatal` picks the Fatal log for a vendor record. -/
def Report.kind : Report → Nat
  | .none => 0
  | .media => 0
  | .dramInfo => 1
  | .dramWarn => 1
  | .health => 2
  | .dirty => 2
  | .vendor => 3

def Report.log (fatal : Bool) : Report → Nat
  | .none => 0
  | .media => 2
  | .dramInfo => 0
  | .dramWarn => 1
  | .health => 1
  | .dirty => 2
  | .vendor => if fatal then 3 else 2

/-- The fatal codes (R54, R86, R119, R359, R412, R437, R439, R461, R483, R507, R538, R565). -/
def fatalCodes : List Nat :=
  [0x0003, 0x0101, 0x0104, 0x0154, 0x0303, 0x0B0B, 0x0C02, 0x0C03, 0x0C04, 0x0C05, 0x0D06, 0x0E01, 0x0E03, 0x1003,
   0x1106, 0x1201, 0x1202, 0x1203, 0x1205, 0x1206, 0x1208, 0x1209, 0x1407]

/-- The uncorrected-contained codes. -/
def ucCodes : List Nat :=
  [0x0001, 0x0002, 0x0302, 0x0402, 0x0403, 0x0404, 0x0405, 0x0201, 0x0202, 0x0203, 0x0204, 0x0501, 0x0502, 0x0504,
   0x0505, 0x0506, 0x0507, 0x0509, 0x0604, 0x0605, 0x0701, 0x0702, 0x0703, 0x0704, 0x0705, 0x0706, 0x0707, 0x0802,
   0x0902, 0x0903, 0x0905, 0x0A02, 0x0A03, 0x0A04, 0x0A05, 0x0A06, 0x0B01, 0x0B02, 0x0B03, 0x0B04, 0x0B05, 0x0B06,
   0x0B07, 0x0B11, 0x0B13, 0x0B14, 0x0B15] ++
  [0x0D01, 0x0D03, 0x0D04, 0x0F02, 0x1002, 0x1005, 0x1007, 0x1102, 0x1103, 0x1105, 0x1108, 0x1204, 0x1207, 0x1301,
   0x1302, 0x1303, 0x1304, 0x1305, 0x1306, 0x1307, 0x1308, 0x1309, 0x130A, 0x130B, 0x1402, 0x1404, 0x1408, 0x1504,
   0x1505]

/-- The class of a code (R508): 1 corrected, 2 uncorrected-contained, 3 fatal. -/
def codeClass (code : Nat) : Nat := if code ∈ fatalCodes then 3 else if code ∈ ucCodes then 2 else 1

/-- What a code leaves in the logs (R335). -/
def codeReport (code : Nat) : Report :=
  if code ∈ [0x0201, 0x0202, 0x0204, 0x0701, 0x0702, 0x0703, 0x0704, 0x0705, 0x0706, 0x0A03, 0x0B01, 0x0B02, 0x0B03,
      0x0B04, 0x0B05] then .media
  else if code ∈ [0x0206] then .dramInfo
  else if code ∈ [0x0401, 0x0402] then .dramWarn
  else if code ∈ [0x0504, 0x0602, 0x0603, 0x0604, 0x0605, 0x1105] then .health
  else if code ∈ [0x0502, 0x0506, 0x1204] then .dirty
  else if codeClass code = 1 then .none else .vendor

/-- How a fatal code acts (R514, R515). -/
inductive Reaction where
  | timed | immediate | isolate | atStart
  deriving DecidableEq, Repr

/-- The reaction of a fatal code; 0x0E01 and 0x0E03 react by the domain, the error's own address (R515). -/
def reaction (code addr : Nat) : Reaction :=
  if code ∈ [0x0303, 0x0C02, 0x0C03, 0x0C04, 0x0C05, 0x0D06, 0x1106, 0x1205, 0x1206, 0x1208, 0x1209] then .immediate
  else if code = 0x0B0B then .isolate
  else if code ∈ [0x0E01, 0x0E03] then
    if (64 ≤ addr % 2 ^ 32 ∧ addr % 2 ^ 32 ≤ 68) ∨ addr % 2 ^ 32 = 71 then .isolate else .immediate
  else if code ∈ [0x0154, 0x1003] then .atStart
  else .timed

/-- An error as its block reports it: these are the error's own details, which every reaction takes (R12). -/
structure Err where
  page : Nat
  code : Nat
  addr : Nat
  access : Nat
  master : Nat
  /-- The location the event is tied to, where it is tied to one (R335). -/
  tied : Option Nat
  deriving DecidableEq, Repr

/-- The record of an event (R335, R336). -/
def State.eventOf (s : State) (e : Err) (r : Report) : EventRec :=
  { kind := r.kind, page := e.page, code := e.code, cls := codeClass e.code, access := e.access, master := e.master,
    addr := e.addr, time := s.tbOr0, count := s.rd (ERR_CNT_UC.count.on e.page), handle := 0 }

/-- The record of an event enters the logs it goes to (R335); a Fatal event goes to every bound LD. -/
def State.report (s : State) (e : Err) (r : Report) : State :=
  if r = .none then s else
  let fatal := decide (codeClass e.code = 3)
  let lds := if r.log fatal = 3 then s.allBound else s.routed e.tied
  s.forAll lds fun s m => s.enterLog (r.log fatal) (s.eventOf e r) m

/-- The first-error capture of a page (R10, R12). -/
def State.capture (s : State) (e : Err) : State :=
  let s := s.wr64 (FE_ADDR_LO.addr.on e.page) (FE_ADDR_HI.addr.on e.page) e.addr
  let s := ((s.wr (FE_MASTER.master.on e.page) e.master).wr (FE_ACCESS.access.on e.page) e.access).wr
    (FE_ACCESS.class.on e.page) (codeClass e.code)
  let s := (s.wr (FE_CODE.code.on e.page) e.code).wr64 (FE_TIME_LO.time.on e.page) (FE_TIME_HI.time.on e.page) s.tb
  (s.wrb (FE_VALID.time_valid.on e.page) s.tbValid).put (FE_VALID.valid.on e.page)

/-- The capture, or its overflow bit where the capture is frozen (R12). -/
def State.captureFirst (s : State) (e : Err) : State :=
  if s.on (FE_VALID.valid.on e.page) then s.put (ERR_STAT.overflow.on e.page) else s.capture e

/-- ERR_STAT and the counters of a page take the error (R10). -/
def State.tally (s : State) (e : Err) : State :=
  match codeClass e.code with
  | 1 => (s.put (ERR_STAT.ce.on e.page)).bump (ERR_CNT_CE.count.on e.page)
  | 2 => (s.put (ERR_STAT.uc.on e.page)).bump (ERR_CNT_UC.count.on e.page)
  | _ => (s.put (ERR_STAT.fatal.on e.page)).bump (ERR_CNT_UC.count.on e.page)

/-- The first fatal record of R510 and the count of fatal errors. -/
def State.firstFatal (s : State) (page code : Nat) : State :=
  let s := (s.bump ERRPIN_FATALS.count).cause 0x07 2
  if s.on ERRPIN_FF_VALID.valid then s else
  ((s.wr ERRPIN_FF_PAGE.page page).wr ERRPIN_FF_PAGE.code code).wr64 ERRPIN_FF_TIME_LO.time ERRPIN_FF_TIME_HI.time s.tb
    |>.put ERRPIN_FF_VALID.valid

/-- The escalation timer of a page starts, or its pending severity is raised (R511). It never starts in the ERRPIN
page, nor in Safe State (R519). -/
def State.escalate (s : State) (page code : Nat) : State :=
  let p := s.page page
  let cls := codeClass code
  if s.on (ESC_STAT.running.on page) then
    if p.sev < cls then s.setPage page { p with sev := cls, code := code } else s
  else if s.on (ESC_CTL.esc_en.on page) && page != 0x07 && !s.safe then
    (s.put (ESC_STAT.running.on page)).setPage page
      { p with sev := cls, code := code, escAt := s.now + s.rd (ESC_CTL.esc_time_us.on page) * psUs }
  else s

/-- The block leaves service until the next power-on or device reset (R514). -/
def State.isolate (s : State) (page : Nat) : State := s.wr (PAGE_STAT.state.on page) 4

/-- ERR_MASK masks the class of the error; a fatal error and Clock Loss cannot be masked (R509). -/
def State.masked (s : State) (e : Err) : Bool :=
  match codeClass e.code with
  | 1 => s.on (ERR_MASK.mask_ce.on e.page)
  | 2 => s.on (ERR_MASK.mask_uc.on e.page) && e.code != 0x0D01
  | _ => false

/-- A power domain that sleeps begins to wake (R424, R425). -/
def State.startWake (s : State) (d : Nat) : State :=
  let s := s.setDomain d { s.domain d with wakeAt := some s.now }
  (s.wr (PWR_DOM_STAT.state.ix d) 4).bump (PWR_DOM_WAKES.count.ix d)

/-- A time-stamp, or a wake of another domain, wakes the Time Base domain (R432, R433). -/
def State.wakeTb (s : State) : State := if s.rd (PWR_DOM_STAT.state.ix 74) = 2 then s.startWake 74 else s

/-- A page records an error: status, counter, capture, interrupt, event record, AER, ERR_N and the escalation timer, as
R509 gives them. An Immediate reaction is the caller's, which enters Safe State, and so is the
isolation of a power domain. -/
def State.log (s : State) (e : Err) : State :=
  let was := s.intErr e.page
  let s := (s.wakeTb.tally e).captureFirst e
  let s := if !was && s.intErr e.page then s.intOut e.page 0 else s
  let s := s.report e (codeReport e.code)
  match codeClass e.code with
  | 1 => if s.on ERRPIN_CTL.ce_aer then s.aerDue 1 (s.routed e.tied) else s
  | 2 =>
    let s := s.aerDue 2 (s.routed e.tied)
    if e.code = 0x0D01 then s.errEvent 3
    else if s.masked e then s
    else
      let s := if s.on ERRPIN_CTL.uc_en then s.errEvent 4 else s
      s.escalate e.page e.code
  | _ =>
    let s := ((s.firstFatal e.page e.code).aerDue 3 s.allBound).errEvent 1
    match reaction e.code e.addr with
    | .timed => s.escalate e.page e.code
    | .isolate => if e.code = 0x0B0B then s.isolate e.page else s
    | _ => s

/-- An error of a page that no request caused: access 0x6 unless the page's table says otherwise, master 0x19. -/
def State.err (s : State) (page code addr : Nat) : State :=
  let access := match code / 256 with
    | 0x0 => 5
    | 0x1 => if code < 0x150 then 5 else 6
    | 0x2 => if code = 0x0208 then 6 else 4
    | 0x3 => 4
    | 0x4 => 3
    | 0x5 => 5
    | 0x9 => 5
    | 0xA => 7
    | 0xB => if code = 0x0B0A then 6 else 7
    | 0xC => 7
    | 0x15 => 7
    | _ => 6
  s.log { page := page, code := code, addr := addr, access := access, master := 0x19, tied := none }

/-- An error of an access: its access code, its master and its device physical address, to which it is tied. -/
def State.errReq (s : State) (page code dpa access master : Nat) : State :=
  s.log { page := page, code := code, addr := dpa, access := access, master := master, tied := some (dpa % 2 ^ 37) }

/-! ## Sessions -/

/-- An SPDM session of an authority is open (R214). -/
def State.sessionOpen (s : State) (who : Session) : Bool := s.sb.sessions.any fun e => decide (e.2.2 = some who)

end Sys2Proof.Machine
end

