-- ==== Sys2Proof/Machine/Operands.lean ====
section
/-!
DEFINITION. The operand forms of the LR128: the fields of a device physical address (R30, R31, R34), the placement of
the LR120-P4 (R32), the tag of a line (R37), sets of quires as intervals, and the admin checks of R321 and R334.
-/

namespace Sys2Proof.Machine

/-! ## The device physical address -/

/-- The location of a DPA, DPA[36:0] (R30). -/
def locOf (dpa : Nat) : Nat := dpa % 2 ^ 37

/-- The address of the line that holds a location. -/
def lineAddr (loc : Nat) : Nat := loc / 64 * 64

/-- The Class Mark, DPA[39:37] (R34). -/
def classMark (dpa : Nat) : Nat := dpa / 2 ^ 37 % 8

/-- The KeyID bits of the alias field, DPA[43:40] (R34). -/
def aliasKey (dpa : Nat) : Nat := dpa / 2 ^ 40 % 16

/-- The PC number that a location names, DPA[13:8] (R30). -/
def pcField (loc : Nat) : Nat := loc / 2 ^ 8 % 64

/-- The layer that a location names, DPA[13:10] (R30). -/
def layerField (loc : Nat) : Nat := loc / 2 ^ 10 % 16

/-- The bank, bank group × 4 + bank of the group, from DPA[19:17] and DPA[21:20] (R27, R30). -/
def bankField (loc : Nat) : Nat := loc / 2 ^ 17 % 8 * 4 + loc / 2 ^ 20 % 4

/-- The row, DPA[36:22] (R30). -/
def rowField (loc : Nat) : Nat := loc / 2 ^ 22 % 32768

/-- The column of a line, DPA[16:14] then DPA[7:6] (R30). -/
def colField (loc : Nat) : Nat := loc / 2 ^ 14 % 8 * 4 + loc / 2 ^ 6 % 4

/-- The location of the line with these fields (R30). -/
def locFrom (pc bank row col : Nat) : Nat :=
  row * 2 ^ 22 + bank % 4 * 2 ^ 20 + bank / 4 * 2 ^ 17 + col / 4 * 2 ^ 14 + pc * 2 ^ 8 + col % 4 * 2 ^ 6

/-- Where a line stands in the array. -/
structure Place where
  pc : Nat
  bank : Nat
  row : Nat
  col : Nat
  deriving DecidableEq, Repr

/-- The layers in use, in ascending order. -/
def State.layersPresent (s : State) : List Nat :=
  (List.range 16).filter fun l => bitOf (s.rd KERF_STACK_CFG.layers_present) l

/-- The PC exists: its layer is in use (R33). -/
def State.pcPresent (s : State) (pc : Nat) : Bool := bitOf (s.rd KERF_STACK_CFG.layers_present) (pc / 4)

/-- The page is one of the four PC pages of the layer that the LR120-P4 does without (R33). -/
def State.layerAbsent (s : State) (page : Nat) : Bool :=
  decide (0x40 ≤ page) && s.on KERF_STACK_CFG.map_out && !s.pcPresent (page - 0x40)

/-- The rows that the location space holds in every bank (R27, R32). -/
def State.rowsInUse (s : State) : Nat := s.fullQuires / 4

/-- Where a location is placed: as R30 gives, and on the LR120-P4 as R32 moves the rows of the absent layer. -/
def State.placeOf (s : State) (loc : Nat) : Place :=
  let p : Place := { pc := pcField loc, bank := bankField loc, row := rowField loc, col := colField loc }
  if s.on KERF_STACK_CFG.map_out && layerField loc == s.rd KERF_STACK_CFG.absent_layer then
    let k := p.row / 2048
    { p with pc := (s.layersPresent.getD k 0) * 4 + p.pc % 4, row := 30720 + p.row % 2048 }
  else p

/-- The location that stands at a place: the inverse of `placeOf`. -/
def State.locAt (s : State) (p : Place) : Nat :=
  if s.on KERF_STACK_CFG.map_out && decide (30720 ≤ p.row) then
    locFrom (s.rd KERF_STACK_CFG.absent_layer * 4 + p.pc % 4) p.bank
      (s.layersPresent.idxOf (p.pc / 4) * 2048 + (p.row - 30720)) p.col
  else locFrom p.pc p.bank p.row p.col

/-! ## The tag carve-out -/

/-- The carve-out base as a byte address (R37). -/
def State.carveByte (s : State) : Nat := s.carveBase * 2 ^ 20

/-- The tag line of a location below the base (R37). -/
def State.tagLineOf (s : State) (loc : Nat) : Nat := lineAddr (s.carveByte + loc / 16)

/-- The place of a line's tag in its tag line: the lowest bit of its four bytes (R37). -/
def tagBit (loc : Nat) : Nat := 32 * (loc / 64 % 16)

/-- A tag of a tag line. -/
def tagIn (line : LineData) (loc : Nat) : BitVec 32 := (line >>> tagBit loc).truncate 32

/-- A tag line with the tag of a location set. -/
def setTagIn (line : LineData) (loc : Nat) (tag : BitVec 32) : LineData :=
  (line &&& ~~~((0xFFFFFFFF : BitVec 512) <<< tagBit loc)) ||| ((tag.zeroExtend 512) <<< tagBit loc)

/-- A location lies in the tag carve-out while it is active (R35). -/
def State.inCarve (s : State) (loc : Nat) : Bool := s.carve && decide (s.carveByte ≤ loc)

/-- A location is open to hosts: below the capacity in force and outside the carve-out and the mirror area (R35, R277).
-/
def State.openLoc (s : State) (loc : Nat) : Bool := decide (quireOf loc < s.capacity)

/-! ## Sets of quires -/

/-- A set of quires as half-open intervals in ascending order. -/
abbrev Spans := List (Nat × Nat)

/-- A quire lies in the set. -/
def Spans.mem (q : Nat) (l : Spans) : Bool := l.any fun e => decide (e.1 ≤ q ∧ q < e.2)

/-- The set without a quire. -/
def Spans.drop (q : Nat) (l : Spans) : Spans :=
  l.flatMap fun e =>
    if e.1 ≤ q ∧ q < e.2 then (if e.1 < q then [(e.1, q)] else []) ++ (if q + 1 < e.2 then [(q + 1, e.2)] else [])
    else [e]

/-- The number of quires of the set. -/
def Spans.size (l : Spans) : Nat := (l.map fun e => e.2 - e.1).sum

/-- The lowest quire of the set that is not below `q`. -/
def Spans.next (q : Nat) : Spans → Option Nat
  | [] => none
  | (a, b) :: l => if q < b then some (max q a) else Spans.next q l

/-- The intervals of a span of quires that a list of quires, in ascending order, leaves. -/
def Spans.without : Nat → Nat → List Nat → Spans
  | lo, hi, [] => if lo < hi then [(lo, hi)] else []
  | lo, hi, q :: l => (if lo < q then [(lo, q)] else []) ++ Spans.without (q + 1) hi l

/-- A list of quires as intervals of one. -/
def Spans.ofList (l : List Nat) : Spans := l.map fun q => (q, q + 1)

/-! ## Who may do what -/

/-- The accessor may write every page: an admin function, or the sideband (R321, R569). -/
def State.mayAdmin (s : State) : Accessor → Bool
  | .fn port ld => s.admin port ld
  | .sideband => true

/-- The master code of an accessor: its LD, or 0x19 for the management core (R228). -/
def Accessor.master : Accessor → Nat
  | .fn port ld => masterOf port ld
  | .sideband => 0x19

/-- An access by a function is refused under R321: it is counted and logged in the accessor's port page. -/
def State.deny (s : State) (who : Accessor) (off : Nat) : State :=
  match who with
  | .fn port ld =>
    ((s.bump (PORT_DENIED.count.port port)).cause (0x10 + port) 6).log
      { page := 0x10 + port, code := 0x0B0A, addr := off, access := 6, master := masterOf port ld, tied := none }
  | .sideband => s

/-- The pages of a power domain (R422). -/
def domainPages (d : Nat) : List Nat :=
  if d < 64 then [0x40 + d] else if d < 69 then [0x10 + (d - 64)] else
  match d with
  | 69 => [0x1B]
  | 70 => [0x1A, 0x1E, 0x1F]
  | 71 => [0x1D]
  | 72 => [0x19]
  | 74 => [0x01]
  | _ => []

/-- The power domain of a page, where it is not always in Run (R422). -/
def domainOf (page : Nat) : Option Nat := (List.range 75).find? fun d => decide (page ∈ domainPages d)

/-- The pages of a domain report its state: 1 Run, 2 Sleep, 3 Deep Sleep, 4 Isolated (R10, R421). -/
def State.setDomainPages (s : State) (d st : Nat) : State :=
  s.forAll (domainPages d) fun s p => if s.present p then s.wr (PAGE_STAT.state.on p) st else s

/-- A word reaches a domain that sleeps: it wakes, and with it the Time Base domain (R425, R432). -/
def State.wakeDomain (s : State) (d : Nat) : State :=
  let st := s.rd (PWR_DOM_STAT.state.ix d)
  if st = 1 ∨ st = 2 then ((s.startWake d).put (PWR_DOM_STAT.last_outcome.ix d)).wakeTb else s

/-- A gate closure waits for quiescence since an instant, or no longer does (R14, R424). -/
def State.setGate (s : State) (d : Nat) (since : Option Nat) : State := s.setDomain d { s.domain d with gateAt := since }

/-- A domain is in Run (R424). -/
def State.readyDomain (s : State) (d : Nat) : State :=
  let s := (s.wr (PWR_DOM_STAT.state.ix d) 0).clr (PWR_DOM_STAT.clamped.ix d)
  (s.setDomain d { s.domain d with wakeAt := none, gateAt := none, idleAt := s.now }).setDomainPages d 1

/-- A domain that sleeps or wakes is taken to Run (R425, R428). -/
def State.runDomain (s : State) (d : Nat) : State :=
  let st := s.rd (PWR_DOM_STAT.state.ix d)
  if st = 0 ∨ st = 5 then s else (s.wakeDomain d).readyDomain d

/-- A word before the commit point aborts an entry (R425). -/
def State.abortEntry (s : State) (d : Nat) : State :=
  let s := ((s.setGate d none).bump (PWR_DOM_ABORTS.count.ix d)).clr (PWR_DOM_STAT.last_outcome.ix d)
  (s.wr (PWR_DOM_STAT.state.ix d) 0).setDomain d { s.domain d with idleAt := s.now }

/-- A register access to a page aborts an entry of the domain that holds it or wakes that domain, and is served once the
domain is ready (R425). -/
def State.wakePage (s : State) (page : Nat) : State :=
  if page = 0x01 then s.wakeTb else
  match domainOf page with
  | some d => if s.rd (PWR_DOM_STAT.state.ix d) = 3 then s.abortEntry d else s.runDomain d
  | none => s

/-- A register write of a command acts only where the registers answer (not in Off, nor in Hold, R451, R456), the
accessor may write the page, the block is present, and no Safe State closes the page: only SYS and ERRPIN take writes
there (R3, R321, R519). Else it is refused or ignored. -/
def State.command (s : State) (who : Accessor) (page off : Nat) (act : State → State) : State :=
  if s.sys.phase = .off ∨ s.sys.phase = .hold then s
  else if !s.mayAdmin who then s.deny who (page * 4096 + off)
  else if !s.present page || (s.layerAbsent page && (decide (0x100 ≤ off) || off == 0x008)) then s
  else if s.safe && page != 0x00 && page != 0x07 then s
  else act (s.wakePage page)

end Sys2Proof.Machine
end

