-- ==== Sys2Proof/Machine/FolioOps.lean ====
section
/-!
DEFINITION. What the meanings share of the Gauge's charges and classes (R228 to R234), the dirty budget (R159, R176 to
R182), the quire states (R131 to R134), blocks, stripes and slots (R125, R139, R610), BSNs and system records (R129,
R135), holds (R21) and the flush of R150.
-/

namespace Sys2Proof.Machine

/-! ## Charges and classes -/

/-- The pair index of a request (R228). -/
def pairOf (master mark : Nat) : Nat := master * 8 + mark % 8

/-- The Class Mark an engine carries (R228). -/
def State.engMark (s : State) (master : Nat) : Nat :=
  match master with
  | 0x11 => s.rd GAUGE_ENG_MARK.scrub
  | 0x12 => s.rd GAUGE_ENG_MARK.clear
  | 0x13 => s.rd GAUGE_ENG_MARK.lift
  | 0x14 => s.rd GAUGE_ENG_MARK.rekey
  | 0x15 => s.rd GAUGE_ENG_MARK.migrate
  | 0x16 => s.rd GAUGE_ENG_MARK.resync
  | 0x17 => s.rd GAUGE_ENG_MARK.bind
  | 0x18 => s.rd GAUGE_ENG_MARK.dove
  | _ => s.rd GAUGE_ENG_MARK.mgmt

/-- Lines charged to a pair in this window. -/
def State.used (s : State) (pair : Nat) : Nat := Sparse.get (fun _ => 0) s.gauge.used pair

/-- A pair is charged lines (R233). -/
def State.charge (s : State) (pair n : Nat) : State :=
  { s with gauge := { s.gauge with used := Sparse.modify (fun _ => 0) s.gauge.used pair (· + n) } }

/-- An engine is charged lines at its mark (R233). -/
def State.chargeEng (s : State) (master n : Nat) : State := s.charge (pairOf master (s.engMark master)) n

/-- The pair has reached its budget, so that it is over budget until the window ends (R233). -/
def State.overBudget (s : State) (pair : Nat) : Bool :=
  let p := s.pair pair
  decide (pair ∈ s.gauge.overPairs) || (p.budgetEn && s.on GAUGE_CTL.budget_en && decide (p.budget ≤ s.used pair))

/-- The pairs that are over budget stay so until the window ends, whatever a register changes (R233). -/
def State.latchOver (s t : State) : State :=
  { s with gauge := { s.gauge with overPairs := (List.range 208).filter t.overBudget } }

/-- The master is demoted for this window (R230). -/
def State.demoted (s : State) (master : Nat) : Bool := bitOf (s.rd GAUGE_DEMOTE_MAP.master) master

/-- A Bind runs (R230). -/
def State.bindRuns (s : State) : Bool :=
  match s.folio.running with
  | some c => decide (c.kind = 1 ∨ c.kind = 4)
  | none => false

/-- Master 0x17 has class 7 (R230, order 1). -/
def State.folioUrgent (s : State) : Bool :=
  s.bindRuns || decide (2 ≤ s.rd BANK_STAT.level) ||
    (match s.folio.running with | some c => c.urgent | none => false)

/-- The effective class of a request (R230). -/
def State.effClass (s : State) (master mark : Nat) : Nat :=
  if master = 0x17 ∧ s.folioUrgent then 7
  else if s.demoted master then 0
  else if s.overBudget (pairOf master mark) then 0
  else (s.pair (pairOf master mark)).cls

/-! ## Counts of the quire map -/

/-- Quires in a state, of those the map lists. -/
def State.quiresIn (s : State) (q : QState) : List Nat :=
  (s.folio.map.filter fun e => decide (e.2.state = q)).map (·.1)

/-- The dirty count (R131). -/
def State.dirty (s : State) : Nat := (s.quiresIn .dirty).length

/-- Quires in the Staged state. -/
def State.staged (s : State) : Nat := (s.quiresIn .staged).length

/-- Quires that the Lift Kerf has selected and not finished. -/
def State.unlifted (s : State) : Nat := (s.folio.map.filter fun e => e.2.unlifted).length

/-! ## Blocks, stripes and slots -/

/-- Slots of a layer, the base of layer P1 in the numbering of slots and blocks (R132, R163). -/
def layerSlots : Nat := 139264

/-- The blocks of a layer that are retired, by plane group. -/
def State.retiredIn (s : State) (layer : Nat) : List Nat :=
  (s.folio.blocks.filter fun e => e.2.retired && decide (e.1 / layerSlots = layer)).map fun e => e.1 % layerSlots / 2176

/-- The healthy stripes of a layer: the fewest healthy blocks in any of its plane groups (R125). -/
def State.healthyIn (s : State) (layer : Nat) : Nat :=
  2176 - ((s.retiredIn layer).map fun g => (s.retiredIn layer).count g).foldl max 0

/-- Healthy stripes of both layers. -/
def State.healthy (s : State) : Nat := s.healthyIn 0 + s.healthyIn 1

/-- The stripes required for Full (R160). -/
def State.required (s : State) : Nat := 64 + 128 + 2 * (s.fullQuires / 64)

/-- The slots of the image in force. -/
def State.imageSlots (s : State) : List Nat :=
  match s.folio.image with
  | some i => i.map.filterMap (·.2)
  | none => []

/-- The slots of Staged quires. -/
def State.stagedSlots (s : State) : List Nat :=
  s.folio.map.filterMap fun e => if e.2.state = .staged then e.2.slot else none

/-- The slots that a running Bind or Checkpoint has programmed and not read back. -/
def State.flightSlots (s : State) : List Nat :=
  match s.folio.running with
  | some c => c.flight.map (·.2)
  | none => []

/-- Stripes in which any slot of the image in force or Staged slot lies (R159). -/
def State.stripesUsed (s : State) : List Nat := ((s.imageSlots ++ s.stagedSlots).map (· / 64)).dedup

/-- The space cap S (R159). -/
def State.space (s : State) : Nat := 64 * (s.healthy - 64 - s.stripesUsed.length - 128)

/-- A block of the persistence layers, by its FOLIO_WEAR_IDX index: layer × 139,264 + plane group × 2,176 + block
(R163). -/
def State.block (s : State) (b : Nat) : BlockState := Sparse.get (fun _ => BlockState.reset) s.folio.blocks b
def State.setBlock (s : State) (b : Nat) (v : BlockState) : State :=
  { s with folio := { s.folio with blocks := Sparse.set (fun _ => BlockState.reset) s.folio.blocks b v } }

/-- The blocks of a stripe by plane group; none where it is not open and holds nothing (R125). -/
def State.stripeBlocks (s : State) (stripe : Nat) : List Nat := Sparse.get (fun _ => []) s.folio.stripes stripe

/-- The block that holds the piece of a slot in a plane group (R125). -/
def State.blockOfSlot (s : State) (n group : Nat) : Nat :=
  n / layerSlots * layerSlots + group * 2176 + (s.stripeBlocks (n / 64)).getD group 0

/-- The stripe that holds a block, where one does. -/
def State.stripeOfBlock (s : State) (b : Nat) : Option Nat :=
  (s.folio.stripes.find? fun e => decide (e.1 / 2176 = b / layerSlots) &&
    decide (e.2[b % layerSlots / 2176]? = some (b % 2176))).map (·.1)

/-- The stripes that a layer's open stripe and slots in flight occupy. -/
def State.stripesBusy (s : State) : List Nat :=
  s.flightSlots.map (· / 64) ++ (s.folio.openP0.map (·.1)).toList ++ (s.folio.openP1.map fun o => 2176 + o.1).toList

/-- The erased healthy blocks of a plane group outside the system area (R610), which takes blocks 0 to 31 (R129). -/
def State.erasedIn (s : State) (layer group : Nat) : List Nat :=
  (List.range' 32 2144).filter fun b =>
    let v := s.block (layer * layerSlots + group * 2176 + b)
    v.erased && !v.retired

/-- The least worn of the erased healthy blocks of a plane group (R610). -/
def State.leastWorn (s : State) (layer group : Nat) : List Nat :=
  let wear (b : Nat) : Nat := (s.block (layer * layerSlots + group * 2176 + b)).wear
  let l := s.erasedIn layer group
  match (l.map wear).min? with
  | some w => l.filter fun b => decide (wear b = w)
  | none => []

/-- The stripe numbers of a layer that name no blocks. -/
def State.stripeNumbers (s : State) (layer : Nat) : List Nat :=
  (List.range' 32 2144).filter fun n => s.stripeBlocks (layer * 2176 + n) = []

/-- A candidate of a list, by the draw of a free value. -/
def pickOf (draw : Nat) (l : List Nat) : Nat := l.getD (Config.pick draw l.length % l.length) 0

/-- A layer opens a new stripe: one of the least worn erased healthy blocks of each plane group, under a number that names
no blocks; which ones is a free choice (R125, R610). A Checkpoint never takes the last 128 free stripes (R143, R159). -/
def State.openStripe (s : State) (layer : Nat) (bind : Bool) : Option (Nat × State) :=
  let groups := (List.range 64).map (s.leastWorn layer)
  let free := s.healthy - 64 - (s.stripesUsed ++ s.stripesBusy).dedup.length
  if groups.any (· = []) || s.stripeNumbers layer = [] || (!bind && decide (free ≤ 128)) then none
  else
    let n := pickOf s.free (s.stripeNumbers layer)
    let blocks := (groups.zip (List.range 64)).map fun g => pickOf (s.free + 1 + g.2) g.1
    let t : State := { s with
      free := s.free + 65
      folio := { s.folio with
        stripes := Sparse.set (fun _ => []) s.folio.stripes (layer * 2176 + n) blocks } }
    some (n, t.forAll (blocks.zip (List.range 64)) fun t b =>
      let i := layer * layerSlots + b.2 * 2176 + b.1
      t.setBlock i { t.block i with erased := false })

/-- A layer's open stripe and its next slot become these. -/
def State.setOpen (s : State) (layer : Nat) (o : Option (Nat × Nat)) : State :=
  { s with folio := if layer = 0 then { s.folio with openP0 := o } else { s.folio with openP1 := o } }

/-- A slot to program next in a layer, in ascending order within its open stripe, or in a new one where that is full
(R610). -/
def State.takeSlot (s : State) (layer : Nat) (bind : Bool) : Option (Nat × State) :=
  let put (s : State) (stripe n : Nat) : Nat × State :=
    ((layer * 2176 + stripe) * 64 + n, s.setOpen layer (if n + 1 < 64 then some (stripe, n + 1) else none))
  match (if layer = 0 then s.folio.openP0 else s.folio.openP1) with
  | some o => some (put s o.1 o.2)
  | none => (s.openStripe layer bind).map fun o => put o.2 o.1 0

/-- The slot that a Bind or Checkpoint programs next: the layers are taken in turn, and one that has no room gives way to
the other (R141, R610). -/
def State.nextSlot (s : State) (bind : Bool) : Option (Nat × State) :=
  let next (layer : Nat) (o : Nat × State) : Nat × State :=
    (o.1, { o.2 with folio := { o.2.folio with nextLayer := 1 - layer } })
  let a := s.folio.nextLayer
  match s.takeSlot a bind with
  | some o => some (next a o)
  | none => (s.takeSlot (1 - a) bind).map (next (1 - a))

/-! ## The dirty budget -/

/-- T(n) of R140 without its first 50 µs and with them, in units of 1/24 ns; one quire takes 1 MiB ÷ 24 GB/s. -/
def bindUnits (n : Nat) : Nat := 13050000 * 24 + n * 1048576

/-- The time from taking the BSN to the commit of a Bind of n quires, in ps (R140). -/
def bindPs (n : Nat) : Nat := n * 1048576 * 1000 / 24 + 13 * psMs

/-- The end voltage in mV for an ESR in units of 0.1 mΩ (R175). -/
def endVoltage (esr : Nat) : Nat := max 10000 (9500 + 358 * esr / 1000)

/-- The usable energy in mJ (R176). -/
def State.usableEnergy (s : State) : Nat :=
  let v := s.rd BANK_VBANK.mv
  let e := s.rd BANK_VEND.mv
  s.rd BANK_CAP.uf * (v * v - e * e) / 2000000000

/-- The energy budget: the largest n whose Bind with margin the energy covers, after the deduction for a long filter
(R179). -/
def energyBudget (mj margin filterUs : Nat) : Nat :=
  let uj := mj * 1000 - 140 * (filterUs - 20)
  let limit := uj * 2400000 / (margin * 34)
  min 0x3FFFF ((limit - bindUnits 0) / 1048576)

/-- The energy of the bank in mJ that the budget rests on: a bank that has failed or is lost is not trusted again until it
has been measured, so that its energy only falls (R176, R182). -/
def State.trustedEnergy (s : State) : Nat :=
  if s.rd BANK_STAT.presence = 3 then min (s.rd BANK_ENERGY.mj) s.usableEnergy else s.usableEnergy

/-- The energy budget is computed again (R176, R179). -/
def State.fixEnergy (s : State) : State :=
  let mj := s.trustedEnergy
  (s.wr BANK_ENERGY.mj (min mj (2 ^ 24 - 1))).wr BANK_BUDGET_E.quires
    (energyBudget mj (s.rd BANK_CTL.margin_pct) (s.rd BANK_PF_CTL.filter_us))

/-- The dirty budget in force, B: the lesser of the energy budget and the space cap (R159, R179). -/
def State.budget (s : State) : Nat := s.rd FOLIO_BUDGET.quires

/-- A mirrored range is configured (R276, R313): it is not Unconfigured. -/
def State.configured (s : State) (r : Nat) : Bool := decide (s.rd (DOVE_RANGE_STAT.state.ix r) ≠ 0)

/-- Any mirrored range is configured. -/
def State.anyConfigured (s : State) : Bool := (List.range 16).any s.configured

/-- The quires held Dirty under R134. -/
def State.heldDirty (s : State) : Nat := if s.anyConfigured then 32 else 0

/-- The level of R180 for a dirty count and a budget. -/
def State.levelFor (s : State) (d b : Nat) : Nat :=
  if b ≤ d then 3
  else if s.rd BANK_LEVEL_CTL.demote_pct * b ≤ d * 100 then 2
  else if s.rd BANK_LEVEL_CTL.trickle_pct * b ≤ d * 100 then 1
  else 0

/-- BANK_STAT.level and covered follow D and B; the masters that have dirtied quires are flagged as Demote is entered
(R180, R230). Where persistence is not active no write is held and the level is 0. -/
def State.fixLevel (s : State) : State :=
  let old := s.rd BANK_STAT.level
  let lv := if s.persists then s.levelFor s.dirty s.budget else 0
  let cov := decide (s.heldDirty < s.budget)
  let s := if cov = s.on BANK_STAT.covered then s else (s.wrb BANK_STAT.covered cov).cause 0x1C 7
  let s := if lv = old then s else (s.wr BANK_STAT.level lv).cause 0x1C 8
  if 2 ≤ lv then s.forAll (s.gauge.dirtied.filter fun m => !s.demoted m) fun s m =>
    (s.setBit GAUGE_DEMOTE_MAP.master m).cause 0x18 4
  else s

/-- B is computed again; where it falls below D the drop is reported and a full Checkpoint ordered (R159, R179, R181).
-/
def State.fixBudget (s : State) : State :=
  if !s.persistFused then s else
  let was := s.budget
  let d := s.dirty
  let b := min (s.rd BANK_BUDGET_E.quires) s.space
  let s := s.wr FOLIO_BUDGET.quires (min b 0x3FFFF)
  let s := if d ≤ was ∧ b < d ∧ s.persists then
      let s := (s.cause 0x1C 2).err 0x1C 0x0604 (d + b * 2 ^ 32)
      match s.folio.running with
      | some c => if c.kind = 3 ∨ c.kind = 6 then { s with folio := { s.folio with ordered := some 2 } } else s
      | none => { s with folio := { s.folio with ordered := some 2 } }
    else s
  s.fixLevel

/-! ## Quire states -/

/-- A Checkpoint is reading the quire (R132). -/
def State.checkpointReads (s : State) (q : Nat) : Bool :=
  match s.folio.running with
  | some c => decide (c.kind = 2 ∨ c.kind = 3 ∨ c.kind = 6) && c.flight.any fun e => decide (e.1 = q)
  | none => false

/-- The committed slot of a quire. -/
def State.committedSlot (s : State) (q : Nat) : Option Nat :=
  match s.folio.image with
  | some i => Sparse.get (fun _ => none) i.map q
  | none => none

/-- A write reaches a quire: its state becomes Dirty, and redirty is set where a Checkpoint reads it (R133). The first
transition in a window flags the master under Demote (R230). -/
def State.markDirty (s : State) (q master : Nat) : State :=
  if !s.persistFused then s else
  let e := s.quire q
  let was := decide (e.state = .dirty)
  let s := s.setQuire q { e with
    state := .dirty
    slot := if was then e.slot else s.committedSlot q
    redirty := e.redirty || s.checkpointReads q
    wtime := s.now }
  let s := { s with folio := { s.folio with changed := true } }
  if was then s
  else
    let s := { s with gauge := { s.gauge with
      dirtied := if master ∈ s.gauge.dirtied then s.gauge.dirtied else s.gauge.dirtied ++ [master] } }
    s.fixLevel

/-- A write to the quire would be held: it would make a quire Dirty while D is at or above B (R21, R180). -/
def State.wouldHold (s : State) (q : Nat) : Bool :=
  s.persists && decide ((s.quire q).state ≠ .dirty) && decide (s.budget ≤ s.dirty)

/-- Writes to some quires at once would be held: those of them that are not Dirty would take D above B (R21, R207). -/
def State.holdsAny (s : State) (qs : List Nat) : Bool :=
  let n := (qs.dedup.filter fun q => decide ((s.quire q).state ≠ .dirty)).length
  s.persists && decide (n ≠ 0) && decide (s.budget < s.dirty + n)

/-- The quire becomes Cleared: it needs no slot (R133). One that was not has entered the state (R142), and D or the space
cap may have moved (R159, R180). -/
def State.markCleared (s : State) (q : Nat) : State :=
  if (s.quire q).state = .cleared then s.setQuire q QEntry.reset
  else
    let dirty := decide ((s.quire q).state = .dirty)
    let s := s.setQuire q QEntry.reset
    let s := { s with folio := { s.folio with changed := true } }
    if dirty then s.fixLevel else s.fixBudget

/-- A trickle Checkpoint, or that of R148, is wanted: the level asks for it or a write is held (R148, R180). -/
def State.wantsLimited (s : State) : Bool :=
  s.persists && (decide (1 ≤ s.rd BANK_STAT.level) || decide (s.folio.held ≠ [] ∨ s.folio.engHeld ≠ []))

/-- A write begins to be held under R21: it is counted, and the first of them starts a hold (R21, R163, R164). -/
def State.beginHolding (s : State) : State :=
  let s := s.bump FOLIO_HOLDS.count
  if s.folio.held = [] ∧ s.folio.engHeld = [] then
    let s := (s.put FOLIO_STAT.hold).cause 0x1B 4
    { s with folio := { s.folio with holdAt := s.now } }
  else s

/-- A write is held under R21: it is counted and waits (R21, R148, R163). -/
def State.hold (s : State) (r : Req) : State :=
  let s := s.beginHolding
  { s with folio := { s.folio with held := s.folio.held ++ [r] } }

/-- An engine's write is held: the engine pauses (R21, R133). -/
def State.holdEngine (s : State) (master : Nat) : State :=
  if master ∈ s.folio.engHeld then s else
  let s := s.beginHolding
  { s with folio := { s.folio with engHeld := s.folio.engHeld ++ [master] } }

/-- The holds end where none is left: the longest one is kept (R163). Those of engines end as the budget rises above the
dirty count. -/
def State.endHolding (s : State) : State :=
  let s := if s.persists && decide (s.budget ≤ s.dirty) then s else { s with folio := { s.folio with engHeld := [] } }
  if s.on FOLIO_STAT.hold ∧ s.folio.held = [] ∧ s.folio.engHeld = [] then
    (s.clr FOLIO_STAT.hold).longest FOLIO_HOLD_MAX.us ((s.now - s.folio.holdAt) / psUs)
  else s

/-- FOLIO_STAT.persist takes a value; a change of it is reported (R163, R164). -/
def State.setPersist (s : State) (v : Nat) : State :=
  if s.rd FOLIO_STAT.persist = v then s else (s.wr FOLIO_STAT.persist v).cause 0x1B 3

/-! ## Ordering a Checkpoint -/

/-- A Checkpoint is ordered: while one runs, one full Checkpoint is queued behind it (R147). -/
def State.orderCkpt (s : State) (kind : Nat) : State :=
  match s.folio.running with
  | some _ => s.put FOLIO_STAT.ckpt_queued
  | none => { s with folio := { s.folio with ordered := some (max kind (s.folio.ordered.getD 0)) } }

/-- A Checkpoint is over without a commit. -/
def State.endCkpt (s : State) : State :=
  let s := { s with folio := { s.folio with running := none } }
  if s.on FOLIO_STAT.ckpt_queued then (s.clr FOLIO_STAT.ckpt_queued).orderCkpt 1 else s

/-! ## Global Persistent Flush -/

/-- The Phase 2 duration of the GPF capability, in µs, and its power in mW (R150, R345). -/
def gpfPhase2Us : Nat := 10
def gpfPhase2Mw : Nat := 140000

/-- A Phase 2 request completes, and a full Checkpoint follows where that is set (R150). -/
def State.gpfDone (s : State) (w : GpfWait) : State :=
  let s := (s.emit (.gpf w.port w.ld w.tag 2)).cause 0x1B 9
  if s.on FOLIO_CTL.gpf_ckpt ∧ s.persists then s.orderCkpt 1 else s

/-- A write is complete: the Phase 2 requests that waited on it alone complete (R150). -/
def State.gpfWritten (s : State) (id : Nat) : State :=
  if s.folio.gpf = [] then s else
  let l := s.folio.gpf.map fun w => { w with open_ := w.open_.filter fun x => decide (x ≠ id) }
  let s := { s with folio := { s.folio with gpf := l.filter fun w => decide (w.open_ ≠ []) } }
  s.forAll (l.filter fun w => decide (w.open_ = [])) State.gpfDone

/-! ## BSNs, slots and commits -/

/-- BSNs left in the committed reservation (R135). -/
def State.bsnLeft (s : State) : Nat := s.folio.bsnTop + 1 - s.folio.bsnNext

/-- The kinds of system records, in the order of R129. -/
def recMarker : Nat := 2
def recReserve : Nat := 3
def recTipin : Nat := 4
def recKerf : Nat := 5
def recSelfTest : Nat := 6
def recKey : Nat := 7
def recFolioKey : Nat := 8

/-- A system record is written to both layers, under a nonce drawn for it (R129). -/
def State.appendSys (s : State) (kind : Nat) : State :=
  { s.drawn with folio := { s.folio with
      recs := Sparse.set (fun _ => none) s.folio.recs kind (some { nonce := s.free, p0 := true, p1 := true }) } }

/-- A new block of 256 BSNs is reserved above the last (R135). -/
def State.reserveBsns (s : State) : State :=
  let s := s.appendSys recReserve
  let s := { s with folio := { s.folio with bsnTop := s.folio.bsnTop + 256 } }
  s.wr64 FOLIO_BSN_TOP_LO.bsn FOLIO_BSN_TOP_HI.bsn s.folio.bsnTop

/-- A Bind or Checkpoint takes the next BSN and programs its Bind-begun marker; a new block is reserved when fewer than
64 remain (R135, R129). -/
def State.takeBsn (s : State) (bind : Bool) : Nat × State :=
  let b := s.folio.bsnNext
  let s := s.appendSys recMarker
  let s := { s with folio := { s.folio with bsnNext := b + 1, markers := s.folio.markers ++ [(b, bind)] } }
  (b, if s.bsnLeft < 64 then s.reserveBsns else s)

/-- The mode and the erased lanes of a PC (R93, R99). -/
def State.erasedLanes (s : State) (pc : Nat) : List Nat :=
  let n := s.rd (PC_ECC_STAT.erased.pc pc)
  (if 1 ≤ n then [s.rd (PC_ECC_STAT.lane0.pc pc)] else []) ++ (if 2 ≤ n then [s.rd (PC_ECC_STAT.lane1.pc pc)] else [])

/-- The decoder's judgement of a line as read from its PC with these errors (R92). -/
def State.judge (s : State) (loc : Nat) (errs : List (Nat × Nat)) : Verdict :=
  let pc := (s.placeOf loc).pc
  decodeLine (s.rd (PC_ECC_CTL.mode.pc pc)) (s.erasedLanes pc) (withErrors (s.line loc) errs)

/-- The form in which an engine carries a line on: the corrected line, or one it could not read, poisoned (R23, R48). -/
def Verdict.carried (v : Verdict) : StoredLine :=
  if v.outcome = .uncorrectable then StoredLine.poisoned v.line.data else v.line

/-- The tag line of the tag cache at an address, where the cache holds one (R208). -/
def State.cached (s : State) (addr : Nat) : Option TagLine := Sparse.get (fun _ => none) s.crypto.tags (addr / 64)

/-- A slot's contents. -/
def State.slotData (s : State) (n : Nat) : Option SlotData := Sparse.get (fun _ => none) s.folio.slots n

/-- A slot programmed (R126). -/
def State.setSlot (s : State) (n : Nat) (d : Option SlotData) : State :=
  { s with folio := { s.folio with slots := Sparse.set (fun _ => none) s.folio.slots n d } }

end Sys2Proof.Machine
end

