-- ==== Sys2Proof/Machine/FolioForm.lean ====
section
/-!
DEFINITION. The forms of the Folio: slots (R126 to R128), map entries (R132), and the bytes, tags and validity of a
Colophon and its quire map (R127, R136, R137).
-/

namespace Sys2Proof.Machine

/-- The nonce of a slot, and of a Colophon or quire map, whose index is 0 or 1 (R127). -/
def folioNonce (domain unit bsn index : Nat) : Nat :=
  domain * 2 ^ 95 + unit % 2 ^ 14 * 2 ^ 81 + bsn % 2 ^ 64 * 2 ^ 17 + index % 2 ^ 17

/-- The round keys of a Folio key, by its draw (R130). -/
def folioKey (draw : Nat) : List (List Nat) := keySchedule (Config.randomKey draw)

/-! ## Slots -/

/-- A line of the stored form that carries the poison mark. -/
def StoredLine.isPoisoned (l : StoredLine) : Bool := decide (l = StoredLine.poisoned l.data)

/-- The key and nonce of a slot. -/
def SlotData.keyStream (d : SlotData) (i : Nat) : LineData :=
  gcmLine (folioKey d.key) (folioNonce 0 d.unit d.bsn d.quire) i

/-- A slot with the lines of a quire, encrypted under its key and nonce. Lines in the cleared form are not among them
(R126, R128). -/
def SlotData.sealed (d : SlotData) (lines : Sparse StoredLine) : SlotData :=
  { d with lines := lines.map fun e => (e.1, { cipher := e.2.data ^^^ d.keyStream e.1, poison := e.2.isPoisoned }) }

/-- The lines of a slot in the stored form: the Lift's decryption and fresh check bytes (R152). -/
def SlotData.opened (d : SlotData) : Sparse StoredLine :=
  d.lines.map fun e =>
    let data := e.2.cipher ^^^ d.keyStream e.1
    (e.1, if e.2.poison then StoredLine.poisoned data else StoredLine.ofData data)

/-- A line of a slot; the plaintext of one in the cleared form is zero. -/
def SlotData.line (d : SlotData) (i : Nat) : SlotLine :=
  Sparse.get (fun i => { cipher := d.keyStream i, poison := false }) d.lines i

/-- The poison bits of a piece: bit i covers line j × 256 + i of the quire (R126). -/
def SlotData.poisonField (d : SlotData) (j : Nat) : List Nat :=
  (List.range 32).map fun b => ((List.range 8).map fun i => bitNat (d.line (j * 256 + b * 8 + i)).poison i).sum
where
  bitNat (b : Bool) (i : Nat) : Nat := if b then 2 ^ i else 0

/-- The first 16 bytes of the header: format, Unit Number, quire index and BSN (R126). -/
def SlotData.ident (d : SlotData) : List Nat :=
  bytesOf 2 1 ++ bytesOf 2 d.unit ++ bytesOf 4 d.quire ++ bytesOf 8 d.bsn

/-- The bytes of piece j of a slot: bytes j × 16 KiB to (j + 1) × 16 KiB − 1 of the ciphertext (R126). -/
def SlotData.piece (d : SlotData) (j : Nat) : List Nat :=
  (List.range 256).flatMap fun i => bytesOf 64 (d.line (j * 256 + i)).cipher.toNat

/-- The GCM tag of a slot: over its identification and its 64 poison fields as additional data, and its ciphertext
(R126). -/
def SlotData.tag (d : SlotData) : List Nat :=
  gcmTag (folioKey d.key) (folioNonce 0 d.unit d.bsn d.quire)
    (d.ident ++ (List.range 64).flatMap d.poisonField) ((List.range 64).flatMap d.piece)

/-- The slot header of piece j (R126). -/
def SlotData.header (d : SlotData) (j : Nat) : List Nat := d.ident ++ d.poisonField j ++ d.tag

/-! ## The quire map -/

/-- The place of a slot in a map entry: stripe, layer and slot (R132). -/
def slotWord (n : Nat) : Nat := n % layerSlots / 64 + n / layerSlots * 2 ^ 12 + n % 64 * 2 ^ 13

/-- The committed entry of a quire: Clean with its slot, or Cleared (R132). -/
def Image.entry (i : Image) (q : Nat) : Nat :=
  match Sparse.get (fun _ => none) i.map q with
  | some n => slotWord n + 2 ^ 19
  | none => 0

/-- The bytes of the committed map (R132). -/
def Image.mapBytes (i : Image) : List Nat := (List.range 131072).flatMap fun q => bytesOf 4 (i.entry q)

/-- Bytes under GCM's key stream, from the first data block on. -/
def gcmCrypt (rk : List (List Nat)) (nonce : Nat) (l : List Nat) : List Nat :=
  xorBytes l ((List.range ((l.length + 15) / 16)).flatMap fun j => gcmBlock rk nonce (2 + j))

/-- The GCM tag of the quire map, which is encrypted under the Folio key (R127, R129, R136). -/
def Image.mapTag (i : Image) : List Nat :=
  let n := folioNonce 1 i.unit i.bsn 1
  gcmTag (folioKey i.key) n [] (gcmCrypt (folioKey i.key) n i.mapBytes)

/-! ## The Colophon -/

/-- The word that names the place of the quire map: layer, stripe, first slot (R136). -/
def mapWord (layer stripe slot : Nat) : Nat := layer * 2 ^ 31 + stripe % 2 ^ 12 * 2 ^ 16 + slot % 64

/-- The bytes 0x000 to 0x1EF of a Colophon (R136). -/
def Image.body (i : Image) : List Nat :=
  let flags := (if i.carve then 1 else 0) + (if i.keyRetain then 2 else 0) + (if i.time.isSome then 4 else 0)
  bytesOf 4 0x4C524346 ++ bytesOf 2 1 ++ [i.kind, i.persist] ++ bytesOf 8 i.bsn ++ bytesOf 8 i.prev ++
  bytesOf 2 i.unit ++ [i.variant, flags] ++ bytesOf 4 i.pool ++ bytesOf 8 (i.time.getD 0) ++ bytesOf 4 i.clean ++
  bytesOf 4 i.blank ++ bytesOf 4 i.programmed ++ bytesOf 4 i.mapAt ++ i.mapTag ++ bytesOf 8 i.top ++
  bytesOf 8 i.tipSeq ++ bytesOf 8 i.kerfSeq ++ bytesOf 8 i.keySeq ++ List.replicate 392 0

/-- The tag of a Colophon: over its body as additional data, with no plaintext (R127, R136). -/
def Image.tag (i : Image) : List Nat := gcmTag (folioKey i.key) (folioNonce 1 i.unit i.bsn 0) i.body []

/-- The 512 bytes of a Colophon (R136). -/
def Image.bytes (i : Image) : List Nat := i.body ++ i.tag

/-- A Colophon that reads good is valid: its tag is one of the Folio key, its Unit Number is that of OTP, and its BSN
lies in a committed reservation, above its predecessor's (R137). -/
def State.validColophon (s : State) (i : Image) : Bool :=
  decide (s.folio.key = some i.key) && decide (i.unit = s.rd SYS_UNIT.unit) &&
  decide (1 ≤ i.bsn ∧ i.bsn ≤ s.folio.bsnTop) && decide (i.prev < i.bsn)

/-- The valid Colophon with the highest BSN among those read (R137). -/
def State.newestColophon (s : State) (l : List Image) : Option Image :=
  (l.filter s.validColophon).foldl (fun best i => match best with
    | some b => if b.bsn < i.bsn then some i else some b
    | none => some i) none

end Sys2Proof.Machine
end

