-- ==== Sys2Proof/Machine/DoveForm.lean ====
section
/-!
DEFINITION. The forms of the Dovetail link: messages (R288 to R290), flits (R280, R281) and their protection (R282), as
sent and as read.
-/

namespace Sys2Proof.Machine

/-! ## Messages as sent -/

/-- A bit of a flags field. -/
def bitAt (b : Bool) (i : Nat) : Nat := if b then 2 ^ i else 0

/-- A message: its header and its body (R288). -/
def dovePack (type flags range : Nat) (body : List Nat) : List Nat :=
  [type, flags] ++ bytesOf 2 (8 + body.length) ++ [range, 0, 0, 0] ++ body

/-- A range entry of HELLO (R290). -/
def HelloRange.bytes (r : HelloRange) : List Nat :=
  bytesOf 3 r.base ++ bytesOf 3 r.stop ++
    [bitAt r.configured 0 + bitAt r.primary 1 + bitAt r.push 2 + bitAt r.pull 3, 0]

/-- The body of HELLO (R290). -/
def Hello.bytes (h : Hello) : List Nat :=
  [h.format, h.variant] ++ bytesOf 2 h.unit ++ bytesOf 4 h.pool ++ bytesOf 8 h.bsn ++ bytesOf 4 h.capacity ++
  [bitAt h.carve 0 + bitAt h.noMirror 1 + bitAt h.imageLost 2 + bitAt h.safe 3, 0, 0, 0] ++
  bytesOf 2 (match h.recorded with | some u => u % 2 ^ 14 + 2 ^ 15 | none => 0) ++ List.replicate 6 0 ++
  bytesOf 8 h.applied ++ bytesOf 8 h.coveredFrom ++ h.ranges.flatMap HelloRange.bytes

/-- The body of HEARTBEAT (R290). -/
def Beat.bytes (b : Beat) : List Nat :=
  bytesOf 4 b.count ++ bytesOf 4 (bitAt b.safe 0 + bitAt b.rekey 1 + bitAt b.resync 2) ++ bytesOf 8 b.time ++
  bytesOf 4 b.rekeyStart ++ bytesOf 4 b.rekeyEnd ++ bytesOf 8 b.applied

/-- The body of MWRITE (R290). -/
def Mwrite.bytes (w : Mwrite) : List Nat :=
  bytesOf 8 w.osn ++ bytesOf 8 w.loc.toNat ++ bytesOf 8 w.mask.toNat ++ bytesOf 2 w.slot.val ++ [w.mark.val] ++
  List.replicate 5 0 ++ bytesOf 64 w.data.toNat

/-- The bytes of a message (R288 to R290). The header names a range in CONFIG and ROLE. The content of SPDM is SPDM's, and
the model sends none (assumptions 14, 91). -/
def doveBytes : DoveMsg → List Nat
  | .hello h => dovePack 0x01 0 0xFF (Hello.bytes h)
  | .heartbeat b => dovePack 0x02 0 0xFF (Beat.bytes b)
  | .mwrite w => dovePack 0x10 (bitAt w.partialWrite 0) 0xFF (Mwrite.bytes w)
  | .mack osn stroke => dovePack 0x11 0 0xFF (bytesOf 8 osn ++ bytesOf 4 stroke ++ bytesOf 4 0)
  | .rreq ident loc => dovePack 0x12 0 0xFF (bytesOf 4 ident ++ bytesOf 4 0 ++ bytesOf 8 loc.toNat)
  | .rrsp ident loc f => dovePack 0x13 0 0xFF (bytesOf 4 ident ++ [f.kind.val, 0, 0, 0] ++ bytesOf 8 loc.toNat ++
      bytesOf 64 f.data.toNat ++ bytesOf 4 f.tag.toNat ++ bytesOf 4 0)
  | .rdata stroke loc f g => dovePack 0x14 0 0xFF (bytesOf 4 stroke ++ [f.kind.val + 16 * g.kind.val, 0, 0, 0] ++
      bytesOf 8 loc.toNat ++ bytesOf 64 f.data.toNat ++ bytesOf 64 g.data.toNat ++ bytesOf 4 f.tag.toNat ++
      bytesOf 4 g.tag.toNat)
  | .mark pull qs => dovePack 0x15 0 0xFF (bytesOf 8 (bitAt pull 0) ++ qs.flatMap fun q => bytesOf 4 q.val)
  | .bitmap pull first bits => dovePack 0x16 0 0xFF (bytesOf 4 (bitAt pull 0) ++ bytesOf 4 first.val ++
      bytesOf 128 bits.toNat)
  | .config n op reason base stop => dovePack 0x17 0 n.val ([op, reason] ++ List.replicate 6 0 ++ bytesOf 4 base ++
      bytesOf 4 stop)
  | .role n promoted => dovePack 0x18 0 n.val (bytesOf 8 (if promoted then 1 else 2))
  | .bye reason => dovePack 0x19 0 0xFF (bytesOf 8 reason)
  | .pad | .spdm _ _ | .unknown => []

/-- The payload of messages: PAD fills what they leave (R288). -/
def dovePayload (l : List DoveMsg) : List Nat :=
  let b := l.flatMap doveBytes
  let n := 208 - b.length
  b ++ (if 8 ≤ n then dovePack 0 0 0xFF (List.replicate (n - 8) 0) else List.replicate n 0)

/-! ## Messages as read -/

/-- The bytes `at` to `at + n − 1` of a message, as a number. -/
def field (m : List Nat) (start n : Nat) : Nat := packSymbols ((m.drop start).take n)

/-- A bit of a byte of a message. -/
def flagOf (m : List Nat) (start i : Nat) : Bool := Nat.testBit (field m start 1) i

/-- The length that R289 gives a message type. -/
def lengthOk (type len : Nat) : Bool :=
  match type with
  | 0x01 => len == 184
  | 0x02 => len == 40
  | 0x03 => decide (12 ≤ len ∧ len ≤ 208)
  | 0x10 => len == 104
  | 0x11 | 0x12 | 0x17 => len == 24
  | 0x13 => len == 96
  | 0x14 => len == 160
  | 0x15 => decide (16 ≤ len ∧ len ≤ 200 ∧ len % 4 = 0)
  | 0x16 => len == 144
  | 0x18 | 0x19 => len == 16
  | _ => false

def readHelloRange (m : List Nat) (start : Nat) : HelloRange :=
  { base := field m start 3, stop := field m (start + 3) 3, configured := flagOf m (start + 6) 0
    primary := flagOf m (start + 6) 1, push := flagOf m (start + 6) 2, pull := flagOf m (start + 6) 3 }

def readHello (m : List Nat) : Hello :=
  { format := field m 0x08 1, variant := field m 0x09 1, unit := field m 0x0A 2, pool := field m 0x0C 4
    bsn := field m 0x10 8, capacity := field m 0x18 4, carve := flagOf m 0x1C 0, noMirror := flagOf m 0x1C 1
    imageLost := flagOf m 0x1C 2, safe := flagOf m 0x1C 3
    recorded := if flagOf m 0x21 7 then some (field m 0x20 2 % 2 ^ 14) else none
    applied := field m 0x28 8, coveredFrom := field m 0x30 8
    ranges := (List.range 16).map fun i => readHelloRange m (0x38 + 8 * i) }

def readBeat (m : List Nat) : Beat :=
  { count := field m 0x08 4, safe := flagOf m 0x0C 0, rekey := flagOf m 0x0C 1, resync := flagOf m 0x0C 2
    time := field m 0x10 8, rekeyStart := field m 0x18 4, rekeyEnd := field m 0x1C 4, applied := field m 0x20 8 }

def readMwrite (m : List Nat) : Mwrite :=
  { osn := field m 0x08 8, loc := BitVec.ofNat 37 (field m 0x10 8), mask := BitVec.ofNat 64 (field m 0x18 8)
    slot := Fin.ofNat _ (field m 0x20 2), mark := Fin.ofNat 8 (field m 0x22 1), data := BitVec.ofNat 512 (field m 0x28 64)
    partialWrite := flagOf m 0x01 0 }

/-- A stored form: a kind that R290 does not list is taken as refused (assumption 91). -/
def readForm (m : List Nat) (kind data tag : Nat) : FormLine :=
  { kind := if kind < 4 then Fin.ofNat 5 kind else 4, data := BitVec.ofNat 512 (field m data 64)
    tag := BitVec.ofNat 32 (field m tag 4) }

/-- A message of a type and a length that R289 gives. What the fragments of SPDM bring about is the command's
(assumption 14). -/
def readBody (est failed : Bool) (m : List Nat) : DoveMsg :=
  let range : RangeNo := Fin.ofNat 16 (field m 4 1)
  match field m 0 1 with
  | 0x01 => .hello (readHello m)
  | 0x02 => .heartbeat (readBeat m)
  | 0x03 => .spdm est failed
  | 0x10 => .mwrite (readMwrite m)
  | 0x11 => .mack (field m 0x08 8) (field m 0x10 4)
  | 0x12 => .rreq (field m 0x08 4) (BitVec.ofNat 37 (field m 0x10 8))
  | 0x13 => .rrsp (field m 0x08 4) (BitVec.ofNat 37 (field m 0x10 8)) (readForm m (field m 0x0C 1) 0x18 0x58)
  | 0x14 => .rdata (field m 0x08 4) (BitVec.ofNat 37 (field m 0x10 8)) (readForm m (field m 0x0C 1 % 16) 0x18 0x98)
      (readForm m (field m 0x0C 1 / 16) 0x58 0x9C)
  | 0x15 => .mark (flagOf m 0x08 0) ((List.range (m.length / 4 - 4)).map fun i => Fin.ofNat 131072 (field m (16 + 4 * i) 4))
  | 0x16 => .bitmap (flagOf m 0x08 0) (Fin.ofNat 131072 (field m 0x0C 4)) (BitVec.ofNat 1024 (field m 0x10 128))
  | 0x17 => .config range (field m 0x08 1) (field m 0x09 1) (field m 0x10 4) (field m 0x14 4)
  | 0x18 => .role range (decide (field m 0x08 1 = 1))
  | 0x19 => .bye (field m 0x08 1)
  | _ => .unknown

/-- The messages of a payload, at most `n`. PAD ends it, as does one of an unknown type or a wrong length (R288,
R289). -/
def readMessages (est failed : Bool) : Nat → List Nat → List DoveMsg
  | 0, _ => []
  | n + 1, p =>
    let len := field p 2 2
    if p.length < 8 then []
    else if field p 0 1 = 0 ∧ len = p.length then [.pad]
    else if lengthOk (field p 0 1) len && decide (len ≤ p.length) then
      readBody est failed (p.take len) :: readMessages est failed n (p.drop len)
    else [.unknown]

/-! ## CRC and FEC -/

/-- CRC-64 by the ECMA-182 polynomial over bits, from a value. -/
def crc64Bits : List Nat → Nat → Nat
  | [], c => c
  | b :: l, c =>
    if (c / 2 ^ 63 + b) % 2 = 1 then crc64Bits l (2 * c % 2 ^ 64 ^^^ 0x42F0E1EBA9EA3693) else crc64Bits l (2 * c % 2 ^ 64)

/-- CRC-64 of bytes, the high bit of each first: initial value all ones, no final inversion (R281). -/
def crc64 (l : List Nat) : Nat :=
  crc64Bits (l.flatMap fun b => (List.range 8).map fun i => b / 2 ^ (7 - i) % 2) (2 ^ 64 - 1)

/-- The bytes of a flit that belong to codeword `c`, in ascending address (R281). -/
def codeword (w : List Nat) (c : Nat) : List Nat := (List.range 64).map fun k => w.getD (4 * k + c) 0

/-- The flit of four codewords. -/
def interleave (cs : List (List Nat)) : List Nat := (List.range 256).map fun i => (cs.getD (i % 4) []).getD (i / 4) 0

/-- The five check bytes of a codeword's 59 data bytes: d(x)·x^5 mod g(x), the coefficient of x^4 first (R281). -/
def fecCheck (d : List Nat) : List Nat := d.foldl (divStep ((rootPoly 5).take 5).reverse) (List.replicate 5 0)

/-- A codeword with up to 2 symbols corrected, and whether any was; `none` where no codeword is so near (R281). -/
def fecCorrect (w : List Nat) : Option (List Nat × Bool) :=
  let syn := (syndromes w).take 5
  if syn.all (· == 0) then some (w, false)
  else
    let loc := ((List.range 5).foldl (fun k i => keyStep syn 0 k (i + 1)) { loc := [1], aux := [1], len := 0 }).loc
    let lanes := (List.range 64).filter fun i => polyEval loc (gfInv (gfPow 2 (63 - i))) = 0
    let fixed := patch w (lanes.map fun i => (i, forney 5 syn loc (gfPow 2 (63 - i))))
    if ((syndromes fixed).take 5).all (· == 0) && decide (lanes.length ≤ 2) then some (fixed, true) else none

/-! ## Flits as sent -/

/-- A key of the link's session, by direction and by the counter that it serves: it changes before a counter reaches 2^40
(R282, assumption 91). -/
def flitKey (session : Nat) (high : Bool) (count : Nat) : List (List Nat) :=
  keySchedule (Config.sessionKey session high (count / 2 ^ 40))

/-- The nonce of a protected flit (R282). -/
def flitNonce (high : Bool) (unit count : Nat) : Nat := bitAt high 95 + unit % 2 ^ 14 * 2 ^ 64 + count % 2 ^ 40

/-- Bytes 0x00 to 0x07 of a flit (R280). -/
def SentFlit.head (f : SentFlit) : List Nat :=
  bytesOf 3 f.seq.toNat ++ [f.kind.val + bitAt f.prot 3] ++ bytesOf 3 f.ack.toNat ++ [0]

/-- Bytes 0x00 to 0xE3 of a flit: a protected one has its payload encrypted, and a MAC of 96 bits over its head and it
(R280, R282). -/
def SentFlit.covered (f : SentFlit) : List Nat :=
  let p := dovePayload f.messages
  if f.prot then
    let rk := flitKey f.session f.high f.count
    let n := flitNonce f.high f.unit f.count
    let c := gcmCrypt rk n p
    f.head ++ c ++ (gcmTag rk n f.head c).take 12
  else f.head ++ p ++ List.replicate 12 0

/-- The 256 bytes of a flit (R280, R281). -/
def SentFlit.bytes (f : SentFlit) : List Nat :=
  let w := f.covered ++ bytesOf 8 (crc64 f.covered)
  interleave ((List.range 4).map fun c =>
    let d := (codeword w c).take 59
    d ++ fecCheck d)

/-! ## Flits as read -/

/-- A flit as the receiver reads it (R280, R281, R284). -/
structure FlitRead where
  seq : BitVec 24
  ack : BitVec 24
  kind : Nat
  prot : Bool
  /-- FEC decoding succeeded, and corrected a symbol; the CRC verifies; the MAC verifies. -/
  fecOk : Bool
  fecCorrected : Bool
  crcOk : Bool
  macOk : Bool
  messages : List DoveMsg
  deriving DecidableEq, Repr

/-- The counter that a protected data flit was sent under: the receiver's next one, moved by how far its seq lies from the
next (R282, R283, assumption 91). -/
def State.flitCount (s : State) (seq : BitVec 24) : Option Nat :=
  let n := s.dove.rxCount + (seq - (s.dove.rxSeq + 1)).toInt
  if n < 0 then none else some n.toNat

/-- The partner's Unit Number is the higher (R282). -/
def State.partnerHigh (s : State) : Bool := decide (s.rd SYS_UNIT.unit < s.rd DOVE_PARTNER.unit)

/-- What a received flit is (R280 to R282, R288 to R290). -/
def State.readFlit (s : State) (f : DoveFlit) : FlitRead :=
  let raw := f.bytes.map BitVec.toNat
  let cs := (List.range 4).map fun c => fecCorrect (codeword raw c)
  let w := interleave ((List.range 4).map fun c => match cs.getD c none with
    | some r => r.1
    | none => codeword raw c)
  let seq := BitVec.ofNat 24 (field w 0 3)
  let kind := field w 3 1 % 8
  let prot := flagOf w 3 3
  let cipher := (w.drop 8).take 208
  let plain := if prot then
      match s.flitCount seq with
      | some n =>
        let rk := flitKey s.dove.sessionDraw s.partnerHigh n
        let nonce := flitNonce s.partnerHigh (s.rd DOVE_PARTNER.unit) n
        if s.dove.session && decide (kind = 0) &&
            decide ((gcmTag rk nonce (w.take 8) cipher).take 12 = (w.drop 0xD8).take 12) then
          some (gcmCrypt rk nonce cipher) else none
      | none => none
    else some cipher
  { seq := seq, ack := BitVec.ofNat 24 (field w 4 3), kind := kind, prot := prot
    fecOk := cs.all Option.isSome
    fecCorrected := cs.any fun c => match c with
      | some r => r.2
      | none => false
    crcOk := decide (crc64 (w.take 0xE4) = field w 0xE4 8)
    macOk := plain.isSome
    messages := match plain with
      | some p => readMessages f.established f.failed 26 p
      | none => [] }

end Sys2Proof.Machine
end

