-- ==== Sys2Proof/Machine/GaugeOps.lean ====
section
/-!
DEFINITION. The deliverable bandwidth and the sum of the guarantees (R235 to R237), the throttle of a layer that they
depend on (R419, R488), and the end of a Gauge window (R232 to R239).
-/

namespace Sys2Proof.Machine

/-! ## Clocks and throttles of a layer -/

/-- A layer's clock runs on the House Oscillator (R416, R420). -/
def State.onHo (s : State) (layer : Nat) : Bool := s.on (CLK_DOM_STAT.src.ix layer)

/-- A House Oscillator cycle as last calibrated, in ps (R414). -/
def State.hoCycle (s : State) : Nat := s.clk.hoPeriod * 1000 / 65536

/-- The divider of a throttle level (R488). -/
def levelDivider (level : Nat) : Nat := if level < 4 then 1 else if level < 6 then 2 else 4

/-- Eighths of the issue slots that a level skips with its divider in force (R488). -/
def levelSkip (level : Nat) : Nat := [0, 1, 2, 3, 0, 2, 0, 4].getD level 0

/-- Eighths of the issue slots that a layer skips; on the House Oscillator its level (R419, R488). -/
def State.skip (s : State) (layer : Nat) : Nat :=
  let l := (s.heat layer).level
  if s.onHo layer then l else levelSkip l

/-- The refresh window in force for a layer (R70, R87): 0, 1 and 2 for 32, 16 and 8 ms. -/
def State.window (s : State) (layer : Nat) : Nat := s.rd (PC_REF_STAT.window.pc (layer * 4))

/-! ## Deliverable bandwidth -/

/-- What the bandwidths of R236 are multiplied by, so that they are whole numbers of 0.1 GB/s. -/
def bwScale : Nat := 32000000000

/-- The bandwidth of one PC of a layer, scaled (R236): 51.2 × (1 − s) × f. -/
def State.pcBandwidth (s : State) (layer : Nat) : Nat :=
  let f := if s.onHo layer then 4500 else 40000 / (s.layer layer).divider
  512 * (100000 - 4096 * 2 ^ s.window layer) * (8 - s.skip layer) * f

/-- raw of R236, scaled. -/
def State.rawBandwidth (s : State) : Nat := (s.layersPresent.map fun l => 4 * s.pcBandwidth l).sum

/-- The bandwidth limit of the power cap in 0.1 GB/s, where the cap binds (R500). -/
def State.capBandwidth (s : State) : Option Nat :=
  let k := s.rd THERM_PCAP_STAT.cap_skip
  if k = 0 then none else some (512 * (64 - k))

/-- The reserve in 0.1 GB/s (R236). -/
def State.reserve (s : State) : Nat :=
  if s.persists then 10 * (s.rd GAUGE_RESERVE.bind_gbps + s.rd GAUGE_RESERVE.lift_gbps) else 0

/-- D of R236, scaled. -/
def State.deliverable (s : State) : Nat :=
  let raw := s.rawBandwidth
  (match s.capBandwidth with
   | some c => min raw (c * bwScale)
   | none => raw) - s.reserve * bwScale

/-- A pair's budget is in force (R235). -/
def State.budgetOn (s : State) (p : PairForce) : Bool := p.budgetEn && s.on GAUGE_CTL.budget_en

/-- The effective guarantee of a pair in lines (R235). -/
def State.guarantee (s : State) (p : PairForce) : Nat :=
  if p.guarEn && s.on GAUGE_CTL.guar_en then (if s.budgetOn p then min p.guar p.budget else p.guar) else 0

/-- The effective guarantees of all pairs, in lines. -/
def State.guarantees (s : State) : Nat := (s.gauge.force.map fun e => s.guarantee e.2).sum

/-- G exceeds D (R237). -/
def State.oversubscribed (s : State) : Bool :=
  decide (s.deliverable * 25 * s.gauge.windowUs < s.guarantees * 16 * bwScale)

/-- A quotient to the nearest unit, as the worked example of R236 gives its figures. -/
def nearest (n d : Nat) : Nat := (2 * n + d) / (2 * d)

/-- D and G are computed again, and oversubscription is judged (R236, R237). -/
def State.fixGauge (s : State) : State :=
  let s := s.wr GAUGE_RAW.bw (min (nearest s.rawBandwidth bwScale) 0xFFFF)
  let s := s.wr GAUGE_PCAP.bw (s.capBandwidth.getD 0xFFFF)
  let s := s.wr GAUGE_DELIV.bw (min (nearest s.deliverable bwScale) 0xFFFF)
  let s := s.wr GAUGE_GUAR_SUM.bw (min (nearest (s.guarantees * 16) (25 * s.gauge.windowUs)) 0xFFFFFF)
  if s.oversubscribed then
    let s := { s with gauge := { s.gauge with overNow := true } }
    if s.on GAUGE_STAT.oversub then s else ((s.put GAUGE_STAT.oversub).bump GAUGE_OVERSUB_CNT.count).cause 0x18 2
  else s

/-! ## Windows -/

/-- A request of the pair waits at a controller: at an input, or as a read in a bank queue (R235). -/
def State.pairWaits (s : State) (pair : Nat) : Bool :=
  s.pcs.any fun e => (e.2.input ++ e.2.queue.filter fun r => decide (r.kind = .read)).any fun r =>
    decide (pairOf r.master r.mark = pair)

/-- A pair has missed its guarantee in the window that ends (R235). -/
def State.missed (s : State) (pair : Nat) : Bool :=
  decide (s.used pair < s.guarantee (s.pair pair)) && s.pairWaits pair

/-- A miss is counted and marked (R235). -/
def State.countMiss (s : State) (pair : Nat) : State :=
  ((s.bump (GAUGE_PAIR_MISS.count.ix pair)).setBit (GAUGE_MISS_MAP.miss.ix (pair / 32)) (pair % 32)).cause 0x18 1

/-- The settings of a pair as its registers hold them. -/
def State.stagedPair (s : State) (p : Nat) : PairForce :=
  { cls := s.rd (GAUGE_PAIR_CFG.map_class.ix p), budgetEn := s.on (GAUGE_PAIR_CFG.budget_en.ix p)
    guarEn := s.on (GAUGE_PAIR_CFG.guar_en.ix p), budget := s.rd (GAUGE_PAIR_BUDGET.lines.ix p)
    guar := s.rd (GAUGE_PAIR_GUAR.lines.ix p) }

/-- Staged writes take effect, unless they are held (R239). -/
def State.applyStaged (s : State) : State :=
  if s.on GAUGE_CTL.stage || !s.on GAUGE_STAT.staged then s else
  let s := s.forAll s.gauge.stagedPairs fun s p => s.setPair p (s.stagedPair p)
  (({ s with gauge := { s.gauge with stagedPairs := [], windowUs := s.rd GAUGE_WINDOW.window_us } } : State).clr
    GAUGE_STAT.staged).cause 0x18 5

/-- Picoseconds until the next multiple of the window (R232): of the Time Base while it is valid, of a free-running count
from the Gauge's reset otherwise. -/
def State.windowLeft (s : State) : Nat :=
  let w := s.gauge.windowUs * psUs
  let t := if s.tbValid then s.clk.tbPs else s.now - s.gauge.countFrom
  w - t % w

/-- The window in progress has not run its set length (R232). -/
def State.windowShort (s : State) : Bool := decide (s.now - s.gauge.windowAt < s.gauge.windowUs * psUs)

/-- A window ends and the next begins (R232 to R239): misses are judged unless it was short, oversubscription clears
where G was at most D throughout a whole one, charges and demotions restart, and staged writes apply. -/
def State.endWindow (s : State) (short : Bool) : State :=
  let s := if short then s else
    s.forAll ((List.range 208).filter s.missed) State.countMiss
  let s := s.forAll (List.range 208) fun s p => s.wr (GAUGE_PAIR_USED.lines.ix p) (min (s.used p) (2 ^ 26 - 1))
  let s := (s.bump GAUGE_WINDOWS.count).wrb GAUGE_STAT.short short
  let s := if s.on GAUGE_STAT.oversub ∧ !short ∧ !s.gauge.overNow ∧ !s.oversubscribed then
      (s.clr GAUGE_STAT.oversub).cause 0x18 3
    else s
  let s := s.wr GAUGE_DEMOTE_MAP.master 0
  let s := { s with gauge := { s.gauge with used := [], dirtied := [], windowAt := s.now, overPairs := [], overNow := false } }
  (s.applyStaged).fixGauge

end Sys2Proof.Machine
end

