-- ==== Sys2Proof/Machine/CalOps.lean ====
section
/-!
DEFINITION. The temperature in use of a layer (R487, R496) and what starts, pauses and stops a recalibration run (R469 to
R471, R479).
-/

namespace Sys2Proof.Machine

/-- The temperature in use of a layer, in units of 0.125 °C (R487, R496). -/
def State.layerTemp (s : State) (layer : Nat) : Int :=
  let h := s.heat layer
  if h.suspect then h.estimate + 8 * (s.rd THERM_XCHECK.add_c : Int) else h.reading

/-- The layer lies in a run of three or more adjacent suspect layers (R497). -/
def State.inRun (s : State) (layer : Nat) : Bool :=
  let sus (l : Nat) : Bool := decide (l < 16) && (s.heat l).suspect
  sus layer && ((sus (layer + 1) && sus (layer + 2)) || (decide (1 ≤ layer) && sus (layer - 1) && sus (layer + 1)) ||
    (decide (2 ≤ layer) && sus (layer - 1) && sus (layer - 2)))

/-- A temperature rounded up to the whole °C (R487). -/
def wholeC (t : Int) : Int := (t + 7) / 8

/-- A temperature in whole °C as a register field of 8 bits shows it (R505). -/
def regC (t : Int) : Nat := if 0 ≤ t then min t.toNat 255 else Config.belowZero t.natAbs

/-- A calibration register of a unit: of a PC page, or of a lane group (R480, R481). -/
def calFld (pc phy : Fld) (u : Nat) : Fld := if u < 64 then pc.pc u else phy.port (u - 64)

/-- The page of a calibration unit. -/
def calPage (u : Nat) : Nat := if u < 64 then 0x40 + u else 0x10 + (u - 64)

/-- The state of a calibration unit: 0 idle, 1 collecting, 2 applying, 3 paused, 4 probing. -/
def State.calMode (s : State) (u : Nat) : Nat := s.rd (calFld PC_CAL_STAT.state PHY_CAL_STAT.state u)
def State.setCalMode (s : State) (u m : Nat) : State := s.wr (calFld PC_CAL_STAT.state PHY_CAL_STAT.state u) m

/-- The drift reading in whole °C (R469): tj_used of the layer, or the carrier-die sensor nearest the lanes. -/
def State.driftReading (s : State) (u : Nat) : Int :=
  if u < 64 then wholeC (s.layerTemp (u / 4)) else wholeC ((s.sensor (72 + (u - 64))).value.getD 200)

/-- The change of the drift reading since the last accepted run. -/
def State.drift (s : State) (u : Nat) : Nat :=
  (s.driftReading u - (s.rd (calFld PC_CAL_STAT.tj_last PHY_CAL_STAT.tj_last u) : Int)).natAbs

/-- The drift reading has moved by the threshold (R469). -/
def State.drifted (s : State) (u : Nat) : Bool :=
  decide (s.rd (calFld PC_CAL_CTL.drift_c PHY_CAL_CTL.drift_c u) ≤ s.drift u)

/-- Calibration of the unit pauses: a PC in self-refresh, on a divided clock or on the House Oscillator, or of the layer
that is absent; a port outside L0 and L0p; every unit from a power failure on (R33, R471). -/
def State.calPaused (s : State) (u : Nat) : Bool :=
  decide (s.sys.phase ≠ .active) ||
  (if u < 64 then s.layerAbsent (0x40 + u) || s.on (PC_SR_STAT.in_sr.pc u) || decide ((s.layer (u / 4)).divider ≠ 1) || s.onHo (u / 4)
   else !s.linkL0 (u - 64))

/-- The bit that a further run waits. -/
def calPending (u : Nat) : Fld := calFld PC_CAL_STAT.pending PHY_CAL_STAT.pending u

/-- A run begins (R469). -/
def State.beginRun (s : State) (u : Nat) (command : Bool) : State :=
  if !s.on (calFld PC_CAL_CTL.cal_en PHY_CAL_CTL.cal_en u) then s else
  let s := (s.clr (calPending u)).setCalMode u 1
  s.setCal u { s.cal u with
    lastAt := s.now, startAt := s.now, derive_ := command || (s.cal u).nextDerives, nextDerives := false
    probed := false, rejected := false, accepted := false, steps := [] }

/-- An event that starts a run (R469, R470): one that arrives while a run is collected is taken in by it; after the
collection, or during a pause, a further run waits. -/
def State.calEvent (s : State) (u : Nat) (command : Bool) : State :=
  let m := s.calMode u
  if m = 1 ∨ m = 4 then s
  else if m = 2 ∨ s.calPaused u then
    (s.setCal u { s.cal u with nextDerives := command || (s.cal u).nextDerives }).put (calPending u)
  else s.beginRun u command

/-- A run stops where it is; steps not taken are dropped (R479). -/
def State.stopRun (s : State) (u : Nat) : State :=
  (s.setCal u { s.cal u with steps := [] }).setCalMode u 0

/-- The calibration state follows the pause conditions (R471): a pause stops a run, and at its end a run begins where one
was noted or the drift reading has moved by the threshold. -/
def State.fixCal (s : State) (u : Nat) : State :=
  let m := s.calMode u
  if s.calPaused u then (if m = 3 then s else (s.stopRun u).setCalMode u 3)
  else if m = 3 then
    let s := s.setCalMode u 0
    if s.on (calPending u) || s.drifted u then s.beginRun u false else s
  else s

/-- The four PCs of a layer. -/
def State.fixCalLayer (s : State) (layer : Nat) : State :=
  s.forAll (List.range 4) fun s i => s.fixCal (layer * 4 + i)

/-- A sample has moved the drift reading of an idle unit (R469). -/
def State.calDrift (s : State) (u : Nat) : State :=
  if s.calMode u = 0 ∧ s.drifted u then s.calEvent u false else s

end Sys2Proof.Machine
end

