-- ==== Sys2Proof/Machine/DramOps.lean ====
section
/-!
DEFINITION. The clock, timings and rows of a pseudo-channel (R29, R72), self-refresh (R77 to R84), and what an engine's
access does to both (R24, R72, R84).
-/

namespace Sys2Proof.Machine

/-! ## Cycles -/

/-- A cycle of the undivided Layer Clock in units of 0.1 ps (R29). -/
def tck : Nat := 3125

/-- A DRAM interval in ps, counted in whole cycles of the layer's clock (R29). On the House Oscillator it is counted in
cycles of the fastest one, 440 MHz, and the divider does not apply (R419). -/
def State.cycles (s : State) (pc ps : Nat) : Nat :=
  if s.onHo (pc / 4) then (ps * 10 + 22726) / 22727 * s.hoCycle else
  let t := tck * (s.layer (pc / 4)).divider
  (ps * 10 + t - 1) / t * t / 10

/-- A cycle of a layer's clock in units of 0.1 ps. -/
def State.cycle (s : State) (layer : Nat) : Nat :=
  if s.onHo layer then 10 * s.hoCycle else tck * (s.layer layer).divider

/-- The interval between due times of a bank at the layer's window, in ps (R66). On the House Oscillator it is counted in
cycles of the slowest one, 360 MHz (R419). -/
def State.trefi (s : State) (pc : Nat) : Nat :=
  let t := trefi32 / 2 ^ s.window (pc / 4)
  if s.onHo (pc / 4) then t * 36 / 100000 * s.hoCycle else t

/-! ## The sampler (R72) -/

/-- A product by x in the field of the LFSR's polynomial x^32 + x^22 + x^2 + x + 1. -/
def lfsrStep (v : BitVec 32) : BitVec 32 := if v.msb then (v <<< 1) ^^^ 0x00400007#32 else v <<< 1

/-- A product in that field, over the bits of the second factor from the highest. -/
def lfsrMul (a b : BitVec 32) : BitVec 32 :=
  (List.range 32).foldl (fun acc i => let acc := lfsrStep acc; if b.getLsbD (31 - i) then acc ^^^ a else acc) 0

/-- x to the power n, over the bits of n from the lowest. -/
def lfsrPow : Nat → Nat → BitVec 32 → BitVec 32 → BitVec 32
  | 0, _, _, acc => acc
  | fuel + 1, n, x, acc => lfsrPow fuel (n / 2) (lfsrMul x x) (if n % 2 = 1 then lfsrMul acc x else acc)

/-- The shift register after a number of cycles. -/
def lfsrAfter (v : BitVec 32) (n : Nat) : BitVec 32 := lfsrMul v (lfsrPow 64 n 2 1)

/-- Cycles of the layer's clock from the instant at which the shift register stands up to another, in ps. -/
def State.lfsrCycles (s : State) (pc t : Nat) : Nat := (t * 10 - (s.pc pc).lfsrAt) / s.cycle (pc / 4)

/-- The controller's shift register is brought up to the present cycle; while the clock is gated it stands (R72). -/
def State.runLfsr (s : State) (pc : Nat) : State :=
  if s.on (PC_SR_STAT.clk_gated.pc pc) then s else
  let c := s.pc pc
  let n := s.lfsrCycles pc s.now
  s.setPc pc { c with lfsr := lfsrAfter c.lfsr n, lfsrAt := c.lfsrAt + n * s.cycle (pc / 4) }

/-- The shift registers of a layer are brought up to the present cycle, before its clock changes. -/
def State.runLfsrs (s : State) (layer : Nat) : State := s.forAll (List.range 4) fun s i => s.runLfsr (layer * 4 + i)

/-- A sampled row in the bank's table: its count rises, or it takes a place, at need that of the lowest count, and of the
first of them where several share it (DESIGN CHOICE, assumption 82). -/
def sampleRow (rows : List (Nat × Nat)) (row : Nat) : List (Nat × Nat) :=
  if rows.any fun e => decide (e.1 = row) then rows.map fun e => if e.1 = row then (row, e.2 + 1) else e
  else if rows.length < 24 then rows ++ [(row, 1)]
  else
    let low := (rows.map (·.2)).foldl min (rows.headD (0, 0)).2
    rows.eraseIdx (rows.findIdx fun e => decide (e.2 = low)) ++ [(row, 1)]

/-- An activation of a row at an instant passes the sampler (R72). While rfm_en is 0, nothing is sampled (DESIGN CHOICE,
assumption 82). -/
def State.sampleAt (s : State) (pc bank row t : Nat) : State :=
  let c := s.pc pc
  if (lfsrAfter c.lfsr (s.lfsrCycles pc t)).toNat % 16 ≠ 0 ∨ !s.on (PC_RFM_CTL.rfm_en.pc pc) then s else
  let b := c.bank bank
  let rows := sampleRow b.rows row
  let limit := s.rd (PC_RFM_CTL.threshold.pc pc) / 16
  let hit := rows.any fun e => decide (e.1 = row ∧ limit ≤ e.2)
  s.setPc pc (c.setBank bank { b with
    rows := if hit then rows.filter fun e => decide (e.1 ≠ row) else rows
    targets := if hit then b.targets ++ [row] else b.targets })

/-- An activation of a row now passes the sampler. -/
def State.sample (s : State) (pc bank row : Nat) : State := (s.runLfsr pc).sampleAt pc bank row s.now

/-- An activation or a burst of a layer counts towards its power (R495). -/
def State.heatCount (s : State) (layer acts bursts refs : Nat) : State :=
  let h := s.heat layer
  s.setHeat layer { h with acts := h.acts + acts, bursts := h.bursts + bursts, refs := h.refs + refs }

/-- A row is activated: its timers start (R29), the sampler takes it (R72), and it is counted. -/
def State.activateRow (s : State) (pc bank row : Nat) : State :=
  let c := s.pc pc
  let b := { c.bank bank with
    openRow := some row
    colReady := s.now + s.cycles pc 14000
    preReady := s.now + s.cycles pc 29000
    actReady := s.now + s.cycles pc 43000 }
  ((s.setPc pc { c.setBank bank b with acts := (s.now :: c.acts).take 4 }).sample pc bank row).heatCount (pc / 4) 1 0 0

/-- The time for which a refresh holds a bank with an open row: tRP and tRFCpb (R29, R68). -/
def State.refHold (s : State) (pc : Nat) : Nat := s.cycles pc 14000 + s.cycles pc 160000

/-- A refresh command has been issued to a PC. -/
def State.refreshed (s : State) (pc n : Nat) : State :=
  (s.count (PC_REF_CNT.count.pc pc) n).heatCount (pc / 4) 0 0 n

/-! ## Self-refresh -/

/-- The layer's clock takes the divider that its level wants (R488, R492). -/
def State.takeDivider (s : State) (layer : Nat) : State :=
  let l := s.layer layer
  if l.divider = l.wanted then s
  else (((s.runLfsrs layer).setLayer layer { l with divider := l.wanted }).fixCalLayer layer).fixGauge

/-- All four PCs of the layer are in self-refresh. -/
def State.layerSr (s : State) (layer : Nat) : Bool :=
  (List.range 4).all fun i => s.on (PC_SR_STAT.in_sr.pc (layer * 4 + i))

/-- The layer's Layer Clock is gated (R78, R87). -/
def State.gate (s : State) (layer : Nat) : State :=
  (s.runLfsrs layer).forAll (List.range 4) fun s i => s.put (PC_SR_STAT.clk_gated.pc (layer * 4 + i))

/-- The layer's Layer Clock is ungated: its shift registers go on, and it takes a divider that waits (R72, R80, R492). -/
def State.ungate (s : State) (layer : Nat) : State :=
  if !s.on (PC_SR_STAT.clk_gated.pc (layer * 4)) then s else
  (s.forAll (List.range 4) fun s i =>
    let p := layer * 4 + i
    (s.setPc p { s.pc p with lfsrAt := 10 * s.now }).clr (PC_SR_STAT.clk_gated.pc p)).takeDivider layer

/-- Steps 1 and 2 of an entry: it begins, and every open bank is precharged (R78). -/
def State.startEntry (s : State) (pc : Nat) : State :=
  let c := s.pc pc
  let last := ((List.range 32).map fun i => if (c.bank i).openRow.isSome then (c.bank i).preReady else 0).foldl max s.now
  let at_ := last + s.cycles pc 14000
  let s := s.setPc pc { c with
    srAt := at_
    banks := Sparse.mapWith DramBank.reset c.banks fun _ b =>
      if b.openRow.isSome then { b with openRow := none, actReady := max b.actReady at_ } else b }
  s.put (PC_SR_STAT.entering.pc pc)

/-- A bank after a number of the refreshes of step 3. -/
def DramBank.refreshed (b : DramBank) (n ready : Nat) : DramBank :=
  { b with
    balance := b.balance - n, forced := b.forced - n, catchUp := b.catchUp && decide (n < b.forced)
    rowPtr := (b.rowPtr + 4 * n) % 32768, actReady := if n = 0 then b.actReady else max b.actReady ready }

/-- An entry is aborted: the refreshes of step 3 that have issued finish, and no other issues (R79). -/
def State.abortSr (s : State) (pc : Nat) : State :=
  let c := s.pc pc
  let rfc := s.cycles pc 160000
  let done (i : Nat) : Nat := if s.now < c.srAt then 0 else min (c.bank i).balance.toNat ((s.now - c.srAt) / rfc + 1)
  let banks := (List.range 32).foldl (fun m i =>
    Sparse.set DramBank.reset m i ((Sparse.get DramBank.reset m i).refreshed (done i) (c.srAt + done i * rfc))) c.banks
  let s := (s.setPc pc { c with banks := banks, idleSince := s.now }).refreshed pc ((List.range 32).map done).sum
  ((s.clr (PC_SR_STAT.entering.pc pc)).bump (PC_SR_ABORTS.count.pc pc)).clr (PC_SR_STAT.last_outcome.pc pc)

/-- A PC enters self-refresh: every bank with a positive balance is refreshed until it is 0, then SRE issues (R78). -/
def State.issueSre (s : State) (pc : Nat) : State :=
  let owed := (List.range 32).map fun i => ((s.pc pc).bank i).balance.toNat
  let s := s.advanceTo ((s.pc pc).srAt + owed.foldl max 0 * s.cycles pc 160000)
  let s := s.refreshed pc owed.sum
  let c := s.pc pc
  let banks := (List.range 32).foldl (fun m i =>
    let b := Sparse.get DramBank.reset m i
    Sparse.set DramBank.reset m i { b.refreshed b.balance.toNat s.now with forced := 0, catchUp := false }) c.banks
  let s := s.setPc pc { c with sreAt := s.now, wakeAt := none, ungatedAt := 0, banks := banks }
  let s := (s.clr (PC_SR_STAT.entering.pc pc)).put (PC_SR_STAT.in_sr.pc pc)
  let s := (s.bump (PC_SR_ENTRIES.count.pc pc)).cause (0x40 + pc) 4
  let s := s.fixCal pc
  if s.layerSr (pc / 4) then s.gate (pc / 4) else s

/-- An access keeps its PC awake: it aborts an entry into self-refresh, or it must wait for the exit, and the Layer Clock
is ungated at once (R79, R80). `who` is its DPA, access code and master. The 30 ns to a running clock are those of the
worked example under R85 (DEDUCED, assumption 83). -/
def State.rouse (s : State) (pc : Nat) (who : Nat × Nat × Nat) : State :=
  if s.on (PC_SR_STAT.entering.pc pc) then s.abortSr pc
  else if s.on (PC_SR_STAT.in_sr.pc pc) ∧ (s.pc pc).wakeAt = none then
    let gated := s.on (PC_SR_STAT.clk_gated.pc pc)
    let s := s.ungate (pc / 4)
    (s.setPc pc { s.pc pc with
      wakeAt := some s.now, wakeBy := who, ungatedAt := if gated then s.now + 30000 else s.now }).put
      (PC_SR_STAT.last_outcome.pc pc)
  else s

/-- The exit from self-refresh, once the residency and the ungating are over: every balance is 0, due times begin anew,
and the row pointers stand where the layer's own refreshes left them (R80, R83). A wake delay above its bound is
reported for the access that met it (R82, R89, R609). -/
def State.exitSr (s : State) (pc : Nat) : State :=
  let s := s.runDomain pc
  let c := s.pc pc
  let s := s.advanceTo (max (c.sreAt + 180000) c.ungatedAt)
  let s := s.ungate (pc / 4)
  let c := s.pc pc
  let first := s.now + s.cycles pc 170000
  let own := (s.now - c.sreAt) / s.trefi pc
  let banks := (List.range 32).foldl (fun m i =>
    let b := Sparse.get DramBank.reset m i
    Sparse.set DramBank.reset m i { b with
      openRow := none, balance := 0, forced := 0, catchUp := false, actReady := first
      rowPtr := (b.rowPtr + 4 * own) % 32768
      dueAt := s.now + i * s.trefi pc / 32 }) c.banks
  let s := s.setPc pc { c with
    banks := banks, wakeAt := none, ungatedAt := 0, idleSince := s.now
    queue := c.queue.map fun r => { r with excused := r.excused + (first - r.entered) } }
  let s := ((s.clr (PC_SR_STAT.in_sr.pc pc)).cause (0x40 + pc) 5).fixCal pc
  match c.wakeAt with
  | none => s
  | some t =>
    let ns := (first - t) / psNs
    let s := s.longest (PC_SR_WAKE_MAX.ns.pc pc) ns
    if (if s.onHo (pc / 4) then 500 else 400) < ns then s.errReq (0x40 + pc) 0x0103 c.wakeBy.1 c.wakeBy.2.1 c.wakeBy.2.2
    else s

/-! ## Accesses of engines -/

/-- An access of an engine reaches a PC: one in self-refresh exits, an entry is aborted, and the idle span begins anew
(R77, R84). -/
def State.wakeForEngine (s : State) (pc : Nat) (who : Nat × Nat × Nat) : State :=
  let s := s.rouse pc who
  let s := if s.on (PC_SR_STAT.in_sr.pc pc) then s.exitSr pc else s
  s.setPc pc { s.pc pc with idleSince := s.now }

/-- An access of an engine reaches its row, which is activated where it is not open (R72). -/
def State.engineRow (s : State) (loc access master : Nat) : State :=
  let p := s.placeOf loc
  let s := s.wakeForEngine p.pc (loc, access, master)
  if ((s.pc p.pc).bank p.bank).openRow = some p.row then s else s.activateRow p.pc p.bank p.row

/-- A stroke of 16 KiB reaches one row of every PC (R30). -/
def State.strokeRows (s : State) (lo access master : Nat) : State :=
  s.forAll (List.range 64) fun s p => s.engineRow (lo * 64 + p * 256) access master

/-- A quire reaches one row in 8 banks of every PC (R30). -/
def State.quireRows (s : State) (q access master : Nat) : State :=
  s.forAll (List.range 512) fun s i => s.engineRow (q * 2 ^ 20 + i / 64 * 2 ^ 17 + i % 64 * 256) access master

end Sys2Proof.Machine
end

