-- ==== Sys2Proof/Machine/RepairOps.lean ====
section
/-!
DEFINITION. What the meanings share of integrity and repair: the poison list (R337), the Tip-in Table and its record
(R108, R109), the Row Watch and lane erasure (R99, R106), bank retirement (R112), recovery from the partner (R114), and
what every read of a line leaves behind (R92, R96).
-/

namespace Sys2Proof.Machine

/-! ## The poison list -/

/-- A line gains the poison mark or is found uncorrectable: it is listed once, and keeps the source under which it
entered; a full list sets the overflow flag with its time (R337). -/
def State.addPoison (s : State) (loc source : Nat) : State :=
  let a := lineAddr loc
  if s.mbox.poison.any fun e => decide (e.loc = a) then s
  else if s.mbox.poison.length < 4096 then
    { s with mbox := { s.mbox with poison := s.mbox.poison ++ [{ loc := a, source := source }] } }
  else { s with mbox := { s.mbox with
    poisonOverflow := if s.mbox.poisonOverflow.isSome then s.mbox.poisonOverflow else some s.tbOr0 } }

/-- The line loses the mark (R337). -/
def State.dropPoison (s : State) (loc : Nat) : State :=
  { s with mbox := { s.mbox with poison := s.mbox.poison.filter fun e => decide (e.loc ≠ lineAddr loc) } }

/-- A write-back queued for a line is dropped: the line has been written since (R96). -/
def State.dropWb (s : State) (loc : Nat) : State :=
  let pc := (s.placeOf loc).pc
  let c := s.pc pc
  if c.wb.any fun e => decide (e.1 = lineAddr loc) then
    s.setPc pc { c with wb := c.wb.filter fun e => decide (e.1 ≠ lineAddr loc) }
  else s

/-- A line written poisoned over the bytes given, and listed; no queued write-back follows it (R96, R98). -/
def State.poisonLine (s : State) (loc : Nat) (d : LineData) (source : Nat) : State :=
  ((s.dropWb loc).setLine loc (StoredLine.poisoned d)).addPoison loc source

/-! ## The Tip-in Table and its record -/

/-- The index of a table entry (R108). -/
def tipIndex (pc bank slot : Nat) : Nat := pc * 1024 + bank * 32 + slot

/-- The slots of a bank that serve no row and are not bad. -/
def State.freeSlots (s : State) (pc bank : Nat) : List Nat :=
  (List.range 32).filter fun i => let e := s.tip (tipIndex pc bank i); !e.valid && !e.bad

/-- The slot that serves a row. -/
def State.slotOfRow (s : State) (pc bank row : Nat) : Option Nat :=
  (List.range 32).find? fun i => let e := s.tip (tipIndex pc bank i); e.valid && decide (e.row = row)

/-- The Tip-in record as it stands now: field entries and bad slots, erasures and spare banks (R109). -/
def State.tipRecordNow (s : State) : TipRecord :=
  { seq := s.rd64 TIPIN_RECORD_SEQ_LO.seq TIPIN_RECORD_SEQ_HI.seq + 1
    entries := (s.repair.table.filter fun e => e.2.field || e.2.bad).map fun e => (e.1, { e.2 with pending := false })
    erasures := (List.range 64).flatMap fun p => (s.erasedLanes p).map fun l => (p, l)
    spares := (List.range 64).filterMap fun p =>
      let st := s.rd (PC_REPAIR_STAT.spare_state.pc p)
      if st = 0 then none else some (p, st, s.rd (PC_REPAIR_STAT.retired_bank.pc p)) }

/-- A change to the record: an append of it begins at once, or is the next after the one in progress (R109). -/
def State.appendRecord (s : State) : State :=
  { s.put TIPIN_RECORD_STAT.pending with repair := { s.repair with appendAgain := true } }

/-- A table entry of the bank is being reloaded, which stalls activates in the bank (R110). -/
def State.reloads (s : State) (pc bank : Nat) : Bool :=
  s.repair.reloading.any fun e => decide (e / 32 = pc * 32 + bank)

/-! ## Bank retirement -/

/-- A Kerf of this slot is active: its state is Waiting, Running, Paused or Aborted (R46). -/
def State.kerfActive (s : State) (k : Nat) : Bool :=
  let st := s.rd (KERF_STAT.state.ix k)
  decide (st = 1 ∨ st = 2 ∨ st = 3 ∨ st = 5)

/-- A Kerf of this slot runs or waits, and is not aborted. -/
def State.kerfRuns (s : State) (k : Nat) : Bool :=
  let st := s.rd (KERF_STAT.state.ix k)
  decide (st = 1 ∨ st = 2 ∨ st = 3)

/-- The Migrate Kerf starts for a bank of a PC (R112). KERF_ARG.bank holds the PC, the bank group and the bank (R52). -/
def State.startMigrate (s : State) (pc bank : Nat) : State :=
  let s := (s.wr (KERF_STAT.state.ix 3) 2).wr (KERF_ARG.bank.ix 3) (pc + bank / 4 * 64 + bank % 4 * 512)
  (s.wr (KERF_QDONE.quires.ix 3) 0).setEng 3 KerfEng.reset

/-- The DRAM Event of a repair (R335): rank 0, bank group, bank and row as one address. -/
def State.dramEvent (s : State) (page code pc bank row : Nat) : State :=
  s.report { page := page, code := code, addr := (pc * 32 + bank) * 32768 + row, access := 3, master := 0x11,
             tied := none } .dramInfo

/-- The PC's bit in TIPIN_SPARE_LO or HI is set: its spare bank migrates or is in use (R120). -/
def State.spareBit (s : State) (pc : Nat) : State :=
  if pc < 32 then s.setBit TIPIN_SPARE_LO.in_use pc else s.setBit TIPIN_SPARE_HI.in_use (pc - 32)

/-- An uncorrectable outcome retires the bank that holds the line, where the spare bank is free; its Migrate starts at
once or waits (R112). -/
def State.retireBank (s : State) (loc : Nat) : State :=
  if !s.on TIPIN_CTL.auto_retire then s else
  let p := s.placeOf loc
  if s.rd (PC_REPAIR_STAT.spare_state.pc p.pc) = 0 then
    let s := (s.wr (PC_REPAIR_STAT.spare_state.pc p.pc) 1).wr (PC_REPAIR_STAT.retired_bank.pc p.pc) p.bank
    let s := ((s.spareBit p.pc).cause 0x1F 2).dramEvent 0x1F 0 p.pc p.bank p.row
    let s := if s.kerfActive 3 ∨ s.repair.retire ≠ [] then
        { s with repair := { s.repair with retire := s.repair.retire ++ [(p.pc, p.bank)] } }.bump TIPIN_RETIRE_PEND.count
      else s.startMigrate p.pc p.bank
    s.appendRecord
  else (s.cause 0x1F 4).err 0x1F 0x0402 loc

/-- The bank is retiring and Migrate has already copied the row (R108). -/
def State.rowCopied (s : State) (pc bank row : Nat) : Bool :=
  decide (s.rd (PC_REPAIR_STAT.spare_state.pc pc) = 1 ∧ s.rd (PC_REPAIR_STAT.retired_bank.pc pc) = bank) &&
  s.kerfActive 3 && decide (s.rd (KERF_ARG.bank.ix 3) = pc + bank / 4 * 64 + bank % 4 * 512) &&
  decide (row < (s.eng 3).cur)

/-! ## Row Watch and lane erasure -/

/-- A repair of the row is triggered, once (R106). -/
def State.triggerRepair (s : State) (pc bank row : Nat) : State :=
  if !s.on TIPIN_CTL.auto_repair || s.repair.due.contains (pc, bank, row) then s
  else { s with repair := { s.repair with due := s.repair.due ++ [(pc, bank, row)] } }

/-- The lane meets the condition of R99 within 24 h: 8 correction events in 4 banks. -/
def Pc.laneBad (c : Pc) (lane now : Nat) : Bool :=
  let ev := c.laneEv.filter fun e => decide (e.1 = lane ∧ now < e.2.2 + 24 * psH)
  decide (8 ≤ ev.length) && decide (4 ≤ (ev.map fun e => e.2.1).dedup.length)

/-- A lane of the PC is erased, or a third one reported once (R99). -/
def State.eraseLane (s : State) (pc lane : Nat) : State :=
  let n := s.rd (PC_ECC_STAT.erased.pc pc)
  if s.erasedLanes pc |>.contains lane then s
  else if n < 2 then
    let s := (s.wr (PC_ECC_STAT.erased.pc pc) (n + 1)).wr
      ((if n = 0 then PC_ECC_STAT.lane0 else PC_ECC_STAT.lane1).pc pc) lane
    ((s.cause (0x40 + pc) 8).err (0x40 + pc) 0x0206 lane).appendRecord
  else if lane ∈ (s.pc pc).thirdLogged then s
  else (s.setPc pc { s.pc pc with thirdLogged := (s.pc pc).thirdLogged ++ [lane] }).err (0x40 + pc) 0x0207 lane

/-- A correction event counts for each of its lanes (R99). -/
def State.laneEvent (s : State) (pc bank : Nat) (lanes : List Nat) : State :=
  s.forAll lanes fun s lane =>
    let c := s.pc pc
    let ev := (c.laneEv ++ [(lane, bank, s.now)]).filter fun e => decide (s.now < e.2.2 + 24 * psH)
    let s := (s.setPc pc { c with laneEv := ev }).bump ((PC_LANE_CNT.count.pc pc).ix lane)
    if (s.pc pc).laneBad lane s.now then s.eraseLane pc lane else s

/-- A corrected outcome in a row is counted in the Row Watch (R106); a counted one is a correction event (R99). -/
def State.watchRow (s : State) (pc bank row : Nat) (lanes : List Nat) : State :=
  let c := s.pc pc
  let hit := c.watch.find? fun w => decide (w.bank = bank ∧ w.row = row)
  let s := if 3 ≤ lanes.length then s.triggerRepair pc bank row else s
  match hit with
  | some w =>
    if s.now < w.last + psS then s else
    let w' := if w.first + 24 * psH < s.now then { w with count := 1, first := s.now, last := s.now }
      else { w with count := w.count + 1, last := s.now }
    let s := s.setPc pc { c with watch := c.watch.map fun x => if x.bank = bank ∧ x.row = row then w' else x }
    let s := if 4 ≤ w'.count then s.triggerRepair pc bank row else s
    s.laneEvent pc bank lanes
  | none =>
    let w : Watch := { bank := bank, row := row, count := 1, first := s.now, last := s.now }
    let s := if c.watch.length < 64 then s.setPc pc { c with watch := c.watch ++ [w] }
      else
        let oldest := (c.watch.map (·.last)).foldl min s.now
        let i := c.watch.findIdx fun x => decide (x.last = oldest)
        (s.setPc pc { c with watch := c.watch.eraseIdx i ++ [w] }).bump (PC_WATCH_EVICT.count.pc pc)
    s.laneEvent pc bank lanes

/-! ## Mirrored ranges and recovery -/

/-- The mirrored range that holds a location (R276). -/
def State.mirrorOf (s : State) (loc : Nat) : Option Nat :=
  (List.range 16).find? fun r => s.configured r &&
    decide (s.rd (DOVE_RANGE_BASE.base_quire.ix r) ≤ quireOf loc ∧ quireOf loc < s.rd (DOVE_RANGE_END.end_quire.ix r))

/-- This module is Primary of the range. -/
def State.primary (s : State) (r : Nat) : Bool := s.on (DOVE_RANGE_STAT.primary.ix r)

/-- The pair is joined (R291). -/
def State.joined (s : State) : Bool := decide (s.rd DOVE_STAT.pair = 1)

/-- A recovery of the line runs (R114). -/
def State.recovering (s : State) (loc : Nat) : Bool := s.recoveries.any fun r => decide (r.loc = lineAddr loc)

/-- A running Rekey on this module or, as its heartbeats report, on the partner covers the quire (R302). -/
def State.rekeyCovers (s : State) (q : Nat) : Bool :=
  (s.kerfRuns 2 && decide (s.rd (KERF_START.start_quire.ix 2) ≤ q ∧ q < s.rd (KERF_END.end_quire.ix 2))) ||
  (s.dove.partner.rekey && decide (s.dove.partner.rekeyStart ≤ q ∧ q < s.dove.partner.rekeyEnd))

/-- A quire's bit of the push bitmap (R278). -/
def State.pushBit (s : State) (q : Nat) : Bool := Sparse.get (fun _ => false) s.dove.push q

/-- The partner holds a copy of the line to recover from: the line is mirrored, the pair is joined, the copy is not
stale under the push bitmap, and no Rekey covers it (R114, R302). -/
def State.partnerHas (s : State) (loc : Nat) : Bool :=
  let q := quireOf loc
  match s.mirrorOf loc with
  | none => false
  | some r => s.joined && !(s.primary r && s.pushBit q) && !s.rekeyCovers q

/-- A recovery of the line is attempted (R114). -/
def State.mayRecover (s : State) (loc : Nat) (engine : Bool) : Bool :=
  s.partnerHas loc && (engine || decide (s.rd TIPIN_RECOVER_CTL.wait_us ≠ 0))

/-- A flit that this module sends next, with its ack (R280 to R283): of the sequence number given, protected or not. -/
def State.flit (s : State) (kind : Fin 3) (seq : BitVec 24) (prot : Bool) (l : List DoveMsg) : SentFlit :=
  { seq := seq, ack := s.dove.rxSeq, kind := kind, prot := prot, session := s.dove.sessionDraw
    high := decide (s.rd DOVE_PARTNER.unit < s.rd SYS_UNIT.unit), unit := s.rd SYS_UNIT.unit, count := s.dove.txCount
    messages := l }

/-- A message leaves on the Dovetail link in a data flit of its own, which the replay buffer keeps (R283, R288); while
the buffer is full it waits. A protected flit raises the session's count (R282). -/
def State.sendDove (s : State) (m : DoveMsg) : State :=
  let link := s.rd DOVE_STAT.link
  if link < 2 then s
  else if 1024 ≤ s.dove.replay.length then { s with dove := { s.dove with txWait := s.dove.txWait ++ [m] } }
  else
    let n := s.dove.txSeq + 1
    { s with dove := { s.dove with
        txSeq := n, replay := s.dove.replay ++ [s.flit 0 n (decide (link = 3)) [m]]
        txCount := if link = 3 then s.dove.txCount + 1 else s.dove.txCount } }.emit (.dove m)

/-- A recovery request goes to the partner, behind every entry of the outbound queue; a line's recovery runs once
(R114, R115). -/
def State.startRecovery (s : State) (loc : Nat) (forTag lost : Bool) : State :=
  if s.recovering loc then
    { s with recoveries := s.recoveries.map fun x =>
        if x.loc = lineAddr loc then { x with lost := x.lost || lost } else x }
  else
  let id := s.dove.reqNext
  let r : Recovery := { loc := lineAddr loc, ident := id, waiting := [], writes := [], forTag := forTag, lost := lost }
  ({ s with recoveries := s.recoveries ++ [r], dove := { s.dove with reqNext := id + 1 } } : State).sendDove
    (.rreq id (BitVec.ofNat 37 (lineAddr loc)))

/-! ## What a read leaves behind -/

/-- The access codes of R609. -/
def ReqKind.access : ReqKind → Nat
  | .read => 0
  | .full => 1
  | .part => 2

/-- A decoder or encoder disagreement is counted and reported (R95, R122, R123). -/
def State.checkerFault (s : State) (code dpa access master : Nat) : State :=
  let pc := (s.placeOf (locOf dpa)).pc
  ((s.bump (PC_CHK_MISMATCH.count.pc pc)).cause (0x40 + pc) 7).errReq (0x40 + pc) code dpa access master

/-- A line corrected by a read: it is counted by its symbols (R122), and among the layer's events of the last hour
(R498). -/
def State.countCorrected (s : State) (pc n : Nat) : State :=
  let h := s.heat (pc / 4)
  let s := s.setHeat (pc / 4) { h with ceAt := s.now :: h.ceAt.filter fun t => decide (s.now < t + psH) }
  s.bump ((if n ≤ 1 then PC_CORR1.count else if n = 2 then PC_CORR2.count else PC_CORR3.count).pc pc)

/-- A write-back of a corrected codeword is queued (R96). -/
def State.queueWriteback (s : State) (pc loc : Nat) (l : StoredLine) : State :=
  if s.on (PC_ECC_CTL.wb_en.pc pc) then
    s.setPc pc { s.pc pc with wb := (s.pc pc).wb.filter (fun e => decide (e.1 ≠ loc)) ++ [(loc, l)] }
  else s

/-- What a read of a line by any master leaves behind: counts, correction events, write-back, the report of an
uncorrectable line and its bank's retirement (R92, R96, R106, R112, R122). -/
def State.observe (s : State) (v : Verdict) (dpa access master : Nat) : State :=
  let loc := lineAddr (locOf dpa)
  let p := s.placeOf loc
  let s := if v.lanes = [] then s
    else
      let s := if v.outcome = .corrected then
          (s.countCorrected p.pc v.lanes.length).errReq (0x40 + p.pc) 0x0205 dpa access master
        else s
      (s.queueWriteback p.pc loc v.line).watchRow p.pc p.bank p.row v.lanes
  match v.outcome with
  | .poisoned => s.bump (PC_POISON_READS.count.pc p.pc)
  | .uncorrectable =>
    let s := ((s.bump (PC_UC_LINES.count.pc p.pc)).cause (0x40 + p.pc) 6).errReq (0x40 + p.pc) 0x0201 dpa access master
    (s.addPoison loc 2).retireBank loc
  | _ => s

/-! ## Injections -/

/-- An injection that waits for an event of its kind at a target: its argument (R551). -/
def State.injectedArg (s : State) (kind target : Nat) : Option Nat :=
  (s.bist.inj.find? fun i => i.1 == kind && i.2.1 == target).map (·.2.2.1)

/-- The injections of a kind and target after one event. -/
def spendOne (kind target : Nat) : List (Nat × Nat × Nat × Nat) → List (Nat × Nat × Nat × Nat)
  | [] => []
  | i :: l =>
    if i.1 = kind ∧ i.2.1 = target then (if 1 < i.2.2.2 then (i.1, i.2.1, i.2.2.1, i.2.2.2 - 1) :: l else l)
    else i :: spendOne kind target l

/-- An event at a target takes an injection of its kind, where one waits (R551): its argument, and the state after. -/
def State.takeInjection (s : State) (kind target : Nat) : Option Nat × State :=
  match s.injectedArg kind target with
  | some a => (some a, { s with bist := { s.bist with inj := spendOne kind target s.bist.inj } })
  | none => (none, s)

/-- The symbol errors of an injection (R551): on the lanes of its mask from its base lane on, each by a free value. -/
def injectedErrs (draw pc arg : Nat) : List (Nat × Nat) :=
  ((List.range 16).filter fun j => bitOf arg j && decide (arg / 2 ^ 20 % 128 + j < 72)).map fun j =>
    (arg / 2 ^ 20 % 128 + j, Config.trained draw pc (600 + j) % 255 + 1)

/-! ## The accesses of engines to stored lines -/

/-- The encoders give a line's 72 symbols, `fails` of their two attempts disagreeing, or as many as an injection asks for:
a disagreement is counted and sets its cause, and after two the line is poisoned and reported (R95, R122, R123). Symbol
errors of an injection go into the cells (R551). -/
def State.encodeOut (s : State) (loc : Nat) (l : StoredLine) (fails dpa access master : Nat) : StoredLine × State :=
  let pc := (s.placeOf loc).pc
  let i := s.takeInjection 3 pc
  let k := i.2.takeInjection 1 pc
  let n := min 2 (max fails (i.1.getD 0))
  let l := match k.1 with
    | some a => StoredLine.ofSymbols (withErrors l (injectedErrs s.free pc a))
    | none => l
  let s := if k.1.isSome then k.2.drawn else k.2
  let s := if n = 0 then s else (s.count (PC_CHK_MISMATCH.count.pc pc) n).cause (0x40 + pc) 7
  if n < 2 then (l, s) else (StoredLine.poisoned l.data, s.errReq (0x40 + pc) 0x0203 dpa access master)

/-- An engine writes a line of the stored form through the encoders of its controller (R48, R95): a poisoned one is listed
and every other loses the mark of the list. -/
def State.writeLine (s : State) (loc : Nat) (l : StoredLine) (access master : Nat) : State :=
  let o := (s.engineRow loc access master).encodeOut loc l 0 loc access master
  if o.1 = StoredLine.poisoned o.1.data then o.2.poisonLine loc o.1.data 2
  else ((o.2.dropWb loc).setLine loc o.1).dropPoison loc

/-- An engine reads a line of the stored form: the line as it carries it on. A Kerf engine reports an uncorrectable line
or a decoder disagreement in the KERF page, and a recovery starts where the line is mirrored (R48, R54, R95, R114). An
injection makes the decoder's copies disagree (R551). A tag line that the cache holds is served from it, but to the scrub
(R208). -/
def State.engineRead (s : State) (loc : Nat) (errs : List (Nat × Nat)) (agree : Bool) (access master : Nat) :
    StoredLine × State :=
  match (if master = 0x11 ∧ access = 4 then none else s.cached loc) with
  | some t => (StoredLine.ofData t.data, s)
  | none =>
  let i := (s.engineRow loc access master).takeInjection 2 (s.placeOf loc).pc
  let s := i.2
  let v := s.judge loc errs
  let kerf := decide (0x12 ≤ master ∧ master ≤ 0x16)
  if !agree || i.1.isSome then
    let s := s.checkerFault 0x0202 loc access master
    let s := if kerf then s.errReq 0x1A 0x0002 loc 5 master else s
    (StoredLine.poisoned v.line.data, s)
  else
    let s := s.observe v loc access master
    let lost := decide (v.outcome = .uncorrectable)
    let s := if kerf && lost then s.errReq 0x1A 0x0001 loc 5 master else s
    let s := if (lost || decide (v.outcome = .poisoned)) && s.mayRecover loc true then s.startRecovery loc false lost
      else s
    (v.carried, s)

end Sys2Proof.Machine
end

