-- ==== Sys2Proof/Machine/KerfOps.lean ====
section
/-!
DEFINITION. What the meanings share of the Kerf engines: selections and demand queues (R42 to R44), the position (R39),
the finish of a quire by Clear and by Lift (R133, R152, R154), and the split bitmaps of the pair (R278).
-/

namespace Sys2Proof.Machine

/-! ## The split bitmaps -/

def State.pullBit (s : State) (q : Nat) : Bool := Sparse.get (fun _ => false) s.dove.pull q
def State.setPush (s : State) (q : Nat) (b : Bool) : State :=
  { s with dove := { s.dove with push := Sparse.set (fun _ => false) s.dove.push q b } }
def State.setPull (s : State) (q : Nat) (b : Bool) : State :=
  { s with dove := { s.dove with pull := Sparse.set (fun _ => false) s.dove.pull q b } }

/-! ## Selections and demands -/

/-- Lines of a quire, of a stroke of 16 KiB, and strokes of a quire. -/
def quireLines : Nat := 16384
def strokeLines : Nat := 256
def quireStrokes : Nat := 64

/-- The engine, Clear or Lift, that has selected the quire and not finished it (R42). -/
def State.unfinishedBy (s : State) (q : Nat) : Option Nat :=
  if s.kerfActive 0 && Spans.mem q (s.eng 0).todo then some 0
  else if s.kerfActive 1 && Spans.mem q (s.eng 1).todo then some 1
  else none

/-- The quire is demanded of the engine: it joins its demand queue, or finds the queue full (R42, R44). -/
def State.demand (s : State) (k q : Nat) : State :=
  let e := s.eng k
  if e.demand.contains q then s
  else if e.demand.length < 16 then (s.setEng k { e with demand := e.demand ++ [q] }).bump (KERF_DEMANDS.count.ix k)
  else (s.bump (KERF_FULL.count.ix k)).cause 0x1A 7

/-- Quires whose access waits for an entry of the demand queue take the entries that are free (R44). -/
def State.refillDemand (s : State) (k : Nat) : State :=
  let wait := s.stalled.filterMap fun w => match w.1 with
    | .quire j q => if j = k ∧ Spans.mem q (s.eng k).todo then some q else none
    | _ => none
  s.forAll wait fun s q => if (s.eng k).demand.length < 16 then s.demand k q else s

/-- The quire that the engine works on next: the oldest demand, or the next of its ascending run (R42). -/
def KerfEng.target (e : KerfEng) : Option Nat :=
  match e.demand with
  | q :: _ => some q
  | [] => Spans.next 0 e.todo

/-- Strokes done of a quire that is not finished. -/
def KerfEng.strokesOf (e : KerfEng) (q : Nat) : Nat :=
  if q = e.cur then e.curStrokes else if e.demand.head? = some q then e.demandStrokes else 0

/-- One stroke more is done of a quire. -/
def KerfEng.stroke (e : KerfEng) (q : Nat) : KerfEng :=
  if q = e.cur then { e with curStrokes := e.curStrokes + 1 }
  else if e.demand.head? = some q then { e with demandStrokes := e.demandStrokes + 1 }
  else { e with cur := q, curStrokes := 1 }

/-- A quire of the selection is finished: its done bit is set (R43) and it is counted (R52). -/
def State.finishQuire (s : State) (k q : Nat) : State :=
  let e := s.eng k
  let s := s.setEng k { e with
    todo := Spans.drop q e.todo
    demandStrokes := if e.demand.head? = some q then 0 else e.demandStrokes
    curStrokes := if q = e.cur then 0 else e.curStrokes
    demand := e.demand.filter fun x => decide (x ≠ q) }
  (s.bump (KERF_QDONE.quires.ix k)).refillDemand k

/-- The lowest line that an engine has not taken: past the end of the selection where it has taken every one. -/
def KerfEng.front (e : KerfEng) : Nat :=
  match Spans.next 0 e.todo with
  | some q => q * 2 ^ 20 + e.strokesOf q * 16384
  | none => (e.sel.map (·.2)).getLastD 0 * 2 ^ 20

/-- The position: the lowest line of the selection that is not finished; 0 in Idle and Done (R39, R52). Strokes of Resync
in flight are not finished (R306). For Migrate it orders lines by row and then column within its bank, and stays on the
last row once all are copied. Where nothing is left and the Kerf is not yet Done, it is the end of the range (assumption
70). -/
def State.kerfPos (s : State) (k : Nat) : Nat :=
  let st := s.rd (KERF_STAT.state.ix k)
  let e := s.eng k
  if st = 0 ∨ st = 4 then 0
  else if k = 3 then
    let b := s.rd (KERF_ARG.bank.ix 3)
    s.locAt { pc := b % 64, bank := b / 64 % 8 * 4 + b / 512, row := min e.cur 32767, col := 0 }
  else if k = 4 then (s.dove.strokes.map fun k => (k.quire * 64 + k.piece) * 16384).foldl min e.front
  else e.front

/-- The engine of a slot may take a stroke: its Kerf runs and is not being aborted, and neither Safe State nor a power
failure stops it (R49, R50, R518). -/
def State.mayStroke (s : State) (k : Nat) : Bool := s.kerfRuns k && !(s.eng k).aborting && !s.safe && s.serving

/-- A line of a span is held in flight by a Resync stroke (R46). -/
def State.spanInFlight (s : State) (lo : Nat) : Bool :=
  s.dove.strokes.any fun k => decide (k.quire * 64 + k.piece = lo / strokeLines)

/-- An engine meets a quire that Lift or Clear has not finished, or a line in flight: it waits, and the wait is counted
(R46). -/
def State.engineWaits (s : State) (k : Nat) : State :=
  if s.rd (KERF_STAT.state.ix k) = 1 then s
  else (s.wr (KERF_STAT.state.ix k) 1).bump (KERF_WAITS.count.ix k)

/-- A Kerf starts over a selection (R39). -/
def State.startKerf (s : State) (k : Nat) (sel : Spans) (purpose : Nat) : State :=
  let first := (Spans.next 0 sel).getD 0
  let s := s.setEng k { KerfEng.reset with
    sel := sel, todo := sel, cur := first, bsn := s.folio.bsnNext - 1
    purpose := purpose, src := s.rd (KERF_ARG.from_slot.ix k), dst := s.rd (KERF_ARG.to_slot.ix k) }
  (s.wr (KERF_STAT.state.ix k) 2).wr (KERF_QDONE.quires.ix k) 0

/-! ## The forms that a Kerf leaves -/

/-- The lines of a half-open span of line numbers are replaced by those listed, numbered from its start. -/
def State.replaceLines (s : State) (lo hi : Nat) (new : Sparse StoredLine) : State :=
  { s with lines := new.foldl (fun m e => Sparse.set (fun _ => StoredLine.cleared) m (e.1 + lo) e.2)
                      (s.lines.filter fun e => decide (e.1 < lo) || decide (hi ≤ e.1)) }

/-- The poison list, the write-backs and the tag cache forget a span of lines whose contents are replaced. -/
def State.forgetLines (s : State) (lo hi : Nat) : State :=
  let out (loc : Nat) : Bool := decide (loc / 64 < lo) || decide (hi ≤ loc / 64)
  { s with
    mbox := { s.mbox with poison := s.mbox.poison.filter fun e => out e.loc }
    pcs := Sparse.mapWith (fun _ => Pc.reset) s.pcs fun _ c => { c with wb := c.wb.filter fun w => out w.1 }
    crypto := { s.crypto with tags := s.crypto.tags.filter fun e => out (e.1 * 64) } }

/-- A span of lines takes the cleared form (R39). -/
def State.clearSpan (s : State) (lo hi : Nat) : State := (s.clearLines lo hi).forgetLines lo hi

/-- A Clear finishes a quire: what is left of it takes the cleared form, and it is in the Cleared state (R133). -/
def State.clearQuireNow (s : State) (q : Nat) : State :=
  let left := (quireStrokes - (s.eng 0).strokesOf q) * strokeLines
  let s := (s.quireRows q 5 0x12).clearSpan (q * quireLines) ((q + 1) * quireLines)
  (s.markCleared q).finishQuire 0 q |>.chargeEng 0x12 left

/-- The slot that a Lift reads verifies: the Folio key that encrypted it exists, and its header names this module and
the quire (R126, R152). -/
def State.liftSource (s : State) (q : Nat) : Option SlotData :=
  match (s.quire q).slot.bind s.slotData with
  | some d => if s.folio.key = some d.key ∧ d.unit = s.rd SYS_UNIT.unit ∧ d.quire = q then some d else none
  | none => none

/-- The Lift of a quire whose slot does not verify: every line is poisoned and the quire is Dirty; a quire of a mirrored range
is marked for Resync: the Primary's as lost, the Secondary's as stale (R154, R278). -/
def State.liftPoisoned (s : State) (q : Nat) : State :=
  let lo := q * quireLines
  let s := s.replaceLines lo (lo + quireLines) ((List.range quireLines).map fun i => (i, StoredLine.poisoned 0))
  let s := s.forAll (List.range quireLines) fun s i => s.addPoison ((lo + i) * 64) 7
  let s := ((s.bump FOLIO_LIFT_FAIL.count).cause 0x1B 5).err 0x1B 0x0501 (q * 2 ^ 20)
  let s := s.setQuire q { s.quire q with state := .dirty, unlifted := false, wtime := s.now }
  let s := { s with folio := { s.folio with changed := true } }.fixBudget
  match s.mirrorOf (q * 2 ^ 20) with
  | some r => if s.primary r then s.setPull q true else s.setPush q true
  | none => s

/-- The Lift Kerf restores a quire from its slot (R152); `fails` of its reads of the slot failed (R154). -/
def State.liftQuireNow (s : State) (q fails : Nat) : State :=
  let lo := q * quireLines
  let s := ((s.quireRows q 5 0x13).chargeEng 0x13 quireLines).forgetLines lo (lo + quireLines)
  let s := match (if fails = 2 then none else s.liftSource q : Option SlotData) with
    | none => s.liftPoisoned q
    | some d =>
      let s := s.replaceLines lo (lo + quireLines) d.opened
      let s := s.forAll (d.lines.filter fun (e : Nat × SlotLine) => e.2.poison) fun s (e : Nat × SlotLine) =>
        s.addPoison ((lo + e.1) * 64) 7
      s.setQuire q { s.quire q with unlifted := false }
  (if s.unlifted = 0 then s.cause 0x1B 2 else s).finishQuire 1 q

/-- An engine finishes the quires of its demand queue, the oldest first, until a quire that waits for it is done; one
that found the queue full takes the first entry that is free (R42, R44). -/
def State.serveDemands (s : State) (k q : Nat) : Nat → State
  | 0 => s
  | n + 1 =>
    if s.unfinishedBy q ≠ some k then s else
    let s := match (s.eng k).demand with
      | [] => s
      | h :: _ => if k = 0 then s.clearQuireNow h else s.liftQuireNow h 0
    let s := if s.unfinishedBy q = some k ∧ (s.eng k).demand.length < 16 then s.demand k q else s
    s.serveDemands k q n

/-- A quire that Clear or Lift has not finished is demanded by an access of an engine of the device, and finished behind
the demands that came before it (R42). The stall of such an access takes no time here (assumption 71). -/
def State.ensureQuire (s : State) (q : Nat) : State :=
  match s.unfinishedBy q with
  | some k => (s.demand k q).serveDemands k q (18 + s.stalled.length)
  | none => s

end Sys2Proof.Machine
end

