-- ==== Sys2Proof/Machine/Access.lean ====
section
/-!
DEFINITION. The path of a request at its PC controller: key selection (R198 to R201), the tag cache and the tags (R204 to
R211), reading and writing a line (R92, R97, R193 to R196), arrival, entry and completion (R20, R40, R55, R62 to R65),
and the waits of R21, R42, R116, R298 and R329.
-/

namespace Sys2Proof.Machine

/-! ## Key selection -/

/-- The enabled Range Key range that holds a location (R198, R221). -/
def State.rangeAt (s : State) (loc : Nat) : Option Nat :=
  (List.range 8).find? fun n => (s.range n).enabled &&
    decide ((s.range n).base ≤ quireOf loc ∧ quireOf loc < (s.range n).stop)

/-- The slot of a request: the Range Key of its range, or its KeyID (R198). -/
def State.slotFor (s : State) (loc keyId : Nat) : Nat :=
  match s.rangeAt loc with
  | some n => 256 + n
  | none => keyId

/-- A logical device may use a slot (R200). -/
def State.permitted (s : State) (master slot : Nat) : Bool :=
  if 256 ≤ slot then (s.range (slot - 256)).mask.getLsbD master else (s.rights master).getLsbD slot

/-- The slot that serves a line while a Rekey is active: the to-slot behind the position, the from-slot ahead (R45). -/
def State.rekeySlot (s : State) (loc slot : Nat) : Nat :=
  let src := (s.eng 2).src
  let dst := (s.eng 2).dst
  let q := quireOf loc
  if s.kerfActive 2 ∧ (slot = src ∨ slot = dst) ∧ s.rd (KERF_START.start_quire.ix 2) ≤ q ∧
      q < s.rd (KERF_END.end_quire.ix 2) then
    (if loc < s.kerfPos 2 then dst else src)
  else slot

/-- The mirror key as a slot entry (R278): it serves the mirror area alone. -/
def State.mirrorEntry (s : State) : KeySlot :=
  { KeySlot.empty with loaded := true, k1 := Config.randomKey (2 * s.dove.mirrorKey.getD 0),
                       k2 := Config.randomKey (2 * s.dove.mirrorKey.getD 0 + 1) }

/-- Why key selection refuses a request: its code in the CRYPT page (R201). While a Rekey is active, the slot that serves
the line must be loaded too (R45). -/
def State.keyRefusal (s : State) (r : Req) : Option Nat :=
  let slot := s.slotFor r.loc r.keyId
  if !(s.key slot).loaded || !(s.key (s.rekeySlot r.loc slot)).loaded then some 0x0703
  else if r.master < 16 && !s.permitted r.master slot then some 0x0704
  else none

/-- The slot and entry that key selection gives a request (R198, R203). -/
def State.select (s : State) (r : Req) : Nat × KeySlot :=
  let slot := s.rekeySlot r.loc (s.slotFor r.loc r.keyId)
  (slot, s.key slot)

/-! ## Refusals and answers -/

/-- The access code of a request (R609): 0x5 for the Kerf engines and Bind, else by what it does. -/
def Req.access (r : Req) : Nat := if 0x12 ≤ r.master ∧ r.master ≤ 0x17 then 5 else r.kind.access

/-- A port carries a request or a completion: its link is not idle (R379). -/
def State.busy (s : State) (p : Nat) : State := s.setPort p { s.port p with idleAt := s.now }

/-- A completion reaches a port that has been reset since the request: it is dropped (R351, step 6). -/
def State.dropOld (s : State) (port : Nat) : State :=
  let s := s.bump (PORT_DROPPED_CPL.count.port port)
  s.err (0x10 + port) 0x0B08 (s.rd (PORT_DROPPED_CPL.count.port port))

/-- An outcome goes to the requester of a read; poison is `none` (R18). -/
def State.answerRead (s : State) (r : Req) (d : Option LineData) : State :=
  match r.src with
  | .host port ld tag => (s.busy port).emit (.hostData port ld tag d)
  | .old port _ => s.dropOld port
  | .mgmt => s

/-- A write's completion (R20), which a flush may wait for (R150); it is good only where no refusal was reported
(R326). -/
def State.answerWrite (s : State) (r : Req) (good : Bool) : State :=
  match r.src with
  | .host port ld tag => ((s.busy port).emit (.hostWritten port ld tag good)).gpfWritten r.id
  | .old port _ => (s.dropOld port).gpfWritten r.id
  | .mgmt => s

/-- A record and an AER message for the requesting LD, where the event's own routing does not already reach it (R326). -/
def State.tellLd (s : State) (e : Err) (m : Nat × Nat) : State :=
  if m ∈ s.routed e.tied then s
  else (s.enterLog 2 (s.eventOf e .media) m).aerDue 2 [m]

/-- The end of a refused request: a read returns poison, a write is dropped and completed after the report (R326). -/
def State.endRefused (s : State) (r : Req) : State :=
  if r.kind = .read then s.answerRead r none else s.answerWrite r false

/-- A request is refused by an error of a page: it is logged and reported to its LD (R326). -/
def State.refuse (s : State) (page code : Nat) (r : Req) : State :=
  let e : Err := { page := page, code := code, addr := r.dpa, access := r.access, master := r.master,
                   tied := some r.loc }
  let s := s.log e
  let s := match r.src with
    | .host port ld _ => s.tellLd e (port, ld)
    | .old port ld => s.tellLd e (port, ld)
    | .mgmt => s
  s.endRefused r

/-- The report of a refusal that has no error code of its own, to the LD (R326). -/
def State.quietReport (s : State) (port ld : Nat) (r : Req) : State :=
  (s.enterLog 2 (s.eventOf { page := 0x10 + port, code := 0, addr := r.dpa, access := r.access, master := r.master,
                             tied := none } .media) (port, ld)).aerDue 2 [(port, ld)]

/-- A request is refused with no error code of its own: its LD is told (R326, R342). -/
def State.refuseQuiet (s : State) (r : Req) : State :=
  match r.src with
  | .host port ld _ => (s.quietReport port ld r).endRefused r
  | .old port ld => (s.quietReport port ld r).endRefused r
  | .mgmt => s.endRefused r

/-- A refusal of key selection (R201): it is counted and sets its cause. -/
def State.refuseKey (s : State) (r : Req) (code : Nat) : State :=
  let s := (s.bump CRYPT_ACC_REFUSED.count).cause 0x19 2
  let s := match s.rangeAt r.loc with
    | some n => if code = 0x0704 then s.bump (CRYPT_RANGE_REFUSED.count.ix n) else s
    | none => s
  s.refuse 0x19 code r

/-- A poisoned outcome returned to a requester is a General Media Event (R335). -/
def State.poisonEvent (s : State) (r : Req) : State :=
  let pc := (s.placeOf r.loc).pc
  s.report { page := 0x40 + pc, code := 0, addr := r.dpa, access := r.access, master := r.master,
             tied := some r.loc } .media

/-! ## The tag cache -/

def State.setCached (s : State) (addr : Nat) (t : Option TagLine) : State :=
  { s with crypto := { s.crypto with tags := Sparse.set (fun _ => none) s.crypto.tags (addr / 64) t } }

/-- A dirty tag line goes to DRAM, at the charge of the pair whose write last changed it (R208). -/
def State.writeBackTag (s : State) (addr : Nat) (t : TagLine) : State :=
  if t.dirty then
    (((s.dropWb addr).setLine addr (StoredLine.ofData t.data)).setCached addr (some { t with dirty := false })).charge
      t.pair 1
  else s

/-- Every dirty tag line goes to DRAM (R209). -/
def State.flushTags (s : State) : State :=
  s.forAll (s.crypto.tags.filterMap fun e => e.2.map fun t => (e.1 * 64, t)) fun s e => s.writeBackTag e.1 e.2

/-- The lines of the tag cache in the set of a tag line (R208). -/
def State.tagSet (s : State) (addr : Nat) : List Nat :=
  (s.crypto.tags.filter fun e => e.2.isSome && decide (e.1 % 1024 = addr / 64 % 1024)).map fun e => e.1 * 64

/-- A tag line takes its place in the cache; the spec does not say which line of a full set leaves, so that is a free
choice. -/
def State.cacheTag (s : State) (addr : Nat) (t : TagLine) : State :=
  let set := s.tagSet addr
  let s := if 16 ≤ set.length ∧ (s.cached addr).isNone then
      let v := set.getD (Config.pick s.free set.length % set.length) 0
      let s := match s.cached v with
        | some old => s.writeBackTag v old
        | none => s
      (s.setCached v none).drawn
    else s
  s.setCached addr (some t)

/-- The 16 lines that a tag line covers. -/
def State.coveredBy (s : State) (addr : Nat) : List Nat :=
  (List.range 16).map fun i => (addr - s.carveByte) * 16 + i * 64

/-- A tag line is lost: its 16 lines but the cleared ones are poisoned, its tags become zero (R210), and lines of a
mirrored range are recovered (R114). -/
def State.tagLost (s : State) (addr dpa master : Nat) : State :=
  let s := s.forAll (s.coveredBy addr) fun s loc =>
    let v := s.judge loc []
    if v.outcome = .cleared then s else
    let s := if v.outcome = .uncorrectable then s.observe v loc 3 master else s
    let s := s.poisonLine loc v.line.data 7
    let s := if s.mayRecover loc true then s.startRecovery loc false false else s
    if loc = lineAddr (locOf dpa) then s else s.report
      { page := 0x19, code := 0x0706, addr := loc, access := 3, master := master, tied := some loc } .media
  let s := (s.setLine addr (StoredLine.ofData 0)).setCached addr (some { data := 0, dirty := false, pair := 0 })
  let s := (s.markDirty (quireOf addr) 0x19).markDirty (quireOf dpa) 0x19
  (s.cause 0x19 5).log { page := 0x19, code := 0x0706, addr := addr, access := 3, master := master,
                         tied := some (lineAddr (locOf dpa)) }

/-- The tag line of a location is brought into the cache for a request, with the faults of its fetch: the line, or none
where it was lost. A cached copy that fails its SRAM check is lost where it is dirty, and fetched again where it is not
(R208, R210). -/
def State.fetchTag (s : State) (r : Req) (f : LineFaults) : Option LineData × State :=
  let addr := s.tagLineOf r.loc
  let errs := symErrs f.tagErrs
  match s.cached addr, f.sramOk with
  | some t, true => (some t.data, s.bump CRYPT_TCACHE_HIT.count)
  | some { dirty := true, .. }, false => (none, s.tagLost addr r.dpa r.master)
  | _, _ =>
    let s := ((s.bump CRYPT_TCACHE_MISS.count).charge (pairOf r.master r.mark) 1).engineRow addr r.access r.master
    let v := s.judge addr errs
    let s := s.observe v addr r.access r.master
    if v.outcome = .uncorrectable ∨ v.outcome = .poisoned then (none, s.tagLost addr r.dpa r.master)
    else
      let d := if v.outcome = .cleared then 0 else v.line.data
      (some d, s.cacheTag addr { data := d, dirty := false, pair := pairOf r.master r.mark })

/-- A line's new tag enters its tag line (R204, R207); an injection inverts it (R551). -/
def State.writeTag (s : State) (r : Req) (sel : Nat × KeySlot) (cipher : LineData) (fa : LineFaults) : State :=
  if !sel.2.integrity then s else
  let j := s.takeInjection 5 (s.placeOf r.loc).pc
  let tag := tagOf sel.2.ki r.loc sel.2.gen sel.1 cipher
  let f := j.2.fetchTag r fa
  let old := f.1.getD 0
  f.2.cacheTag (s.tagLineOf r.loc)
    { data := setTagIn old r.loc (if j.1.isSome then ~~~tag else tag), dirty := true, pair := pairOf r.master r.mark }

/-- The stored tag of a line verifies under a slot (R206). -/
def tagHolds (sel : Nat × KeySlot) (loc : Nat) (line tag : LineData) : Bool :=
  tagIn tag loc = tagOf sel.2.ki loc sel.2.gen sel.1 line

/-- A tag failure is counted (R206, R226). -/
def State.tagFailed (s : State) : State := (s.bump CRYPT_TAG_FAIL.count).cause 0x19 1

/-! ## Ciphers -/

/-- The ciphertext of a line under a slot (R193, R195). -/
def encryptLine (sel : Nat × KeySlot) (loc : Nat) (d : LineData) : LineData :=
  if sel.2.plaintext then d else xtsEncrypt sel.2.k1 sel.2.k2 loc d

/-- The data of a line under a slot. -/
def decryptLine (sel : Nat × KeySlot) (loc : Nat) (d : LineData) : LineData :=
  if sel.2.plaintext then d else xtsDecrypt sel.2.k1 sel.2.k2 loc d

/-- The selection of a request: what was latched when it was selected, or what selection gives now. -/
def State.selOf (s : State) (r : Req) : Nat × KeySlot := r.sel.getD (s.select r)

/-! ## Reading a line -/

/-- What a read gives: data, poison, or a wait for a recovery. -/
inductive ReadOut where
  | data (d : LineData)
  | poison
  | wait
  deriving DecidableEq, Repr

/-- The judged line is checked and decrypted (R18, R196, R206). -/
def State.openLine (s : State) (r : Req) (v : Verdict) (fa : LineFaults) : ReadOut × State :=
  let sel := s.selOf r
  if !fa.cryptoAgree then (.poison, s.errReq 0x19 0x0705 r.dpa r.access r.master)
  else if !sel.2.integrity then (.data (decryptLine sel r.loc v.line.data), s)
  else
    let f := s.fetchTag r fa
    match f.1 with
    | none => if f.2.recovering r.loc then (.wait, f.2) else (.poison, f.2)
    | some t =>
      if tagHolds sel r.loc v.line.data t then (.data (decryptLine sel r.loc v.line.data), f.2)
      else (.poison, (f.2.tagFailed).errReq 0x19 0x0701 r.dpa r.access r.master)

/-- The request is an engine's (R114). -/
def Req.byEngine (r : Req) : Bool := decide (16 ≤ r.master)

/-- The faults of a read of a line with what injections upset in it: the copies of the decoder and of the cipher (R551). -/
def State.upset (s : State) (loc : Nat) (f : LineFaults) : LineFaults × State :=
  let pc := (s.placeOf loc).pc
  let i := s.takeInjection 2 pc
  let j := i.2.takeInjection 4 pc
  ({ f with decAgree := f.decAgree && i.1.isNone, cryptoAgree := f.cryptoAgree && j.1.isNone }, j.2)

/-- A line is read for a request, with the faults of the read (R92, R95, R114, R196, R206). -/
def State.readLine (s : State) (r : Req) (f : LineFaults) : ReadOut × State :=
  let u := s.upset r.loc f
  let fa := u.1
  let s := u.2
  if s.recovering r.loc then (.wait, s)
  else if !fa.decAgree then (.poison, s.checkerFault 0x0202 r.dpa r.access r.master)
  else
    let v := s.judge r.loc (symErrs fa.errs)
    let s := s.observe v r.dpa r.access r.master
    match v.outcome with
    | .cleared => (.data 0, s)
    | .poisoned =>
      if s.mayRecover r.loc r.byEngine then (.wait, s.startRecovery r.loc false false) else (.poison, s.poisonEvent r)
    | .uncorrectable =>
      if s.mayRecover r.loc r.byEngine then (.wait, s.startRecovery r.loc false true) else (.poison, s)
    | _ => s.openLine r v fa

/-- A request waits on the recovery of its line: a read is held for its time of R116, a partial write under R97. -/
def State.joinRecovery (s : State) (r : Req) : State :=
  { s with recoveries := s.recoveries.map fun x =>
      if x.loc = lineAddr r.loc then
        (if r.kind = .read then
          { x with waiting := x.waiting ++ [(s.now + s.rd TIPIN_RECOVER_CTL.wait_us * psUs, r)] } else { x with writes := x.writes ++ [r] })
      else x }

/-- A read is served: its data or poison goes out, or it is held for a recovery (R116). -/
def State.finishRead (s : State) (r : Req) (f : LineFaults) : State :=
  let o := s.readLine r f
  match o.1 with
  | .data d => o.2.answerRead r (some d)
  | .poison => o.2.answerRead r none
  | .wait => o.2.joinRecovery r

/-! ## Writing a line -/

/-- The bytes of a mask as bits of the line. -/
def maskBits (m : BitVec 64) : LineData :=
  (List.range 64).foldl (fun a i => if m.getLsbD i then a ||| ((0xFF : BitVec 512) <<< (8 * i)) else a) 0

/-- Bytes laid over a line where a mask has them. -/
def overlay (old new : LineData) (m : BitVec 64) : LineData := (old &&& ~~~(maskBits m)) ||| (new &&& maskBits m)

/-- A line's data is encrypted, tagged, encoded and written. A cipher or an encoder that disagrees twice leaves the line
poisoned (R95, R196); a write supersedes a queued write-back (R96). Injections upset it (R551). -/
def State.storeLine (s : State) (r : Req) (d : LineData) (f : LineFaults) : State :=
  let loc := lineAddr r.loc
  let sel := s.selOf r
  let cipher := encryptLine sel loc d
  let j := s.takeInjection 4 (s.placeOf loc).pc
  let cryptoFails := max f.cryptoFails.val (if j.1.isSome then 1 else 0)
  let o := j.2.encodeOut loc (StoredLine.ofData cipher) f.encFails r.dpa r.access r.master
  if 2 ≤ cryptoFails then (o.2.poisonLine loc cipher 2).errReq 0x19 0x0705 r.dpa r.access r.master
  else if o.1 = StoredLine.poisoned o.1.data then o.2.poisonLine loc o.1.data 2
  else (((o.2.dropWb loc).setLine loc o.1).dropPoison loc).writeTag r sel cipher f

/-- A partial write is discarded: its line stays or becomes poisoned, and the loss is logged (R97, R211). -/
def State.discardWrite (s : State) (r : Req) (d : LineData) (page code : Nat) : State :=
  (s.poisonLine r.loc d 7).errReq page code r.dpa 2 r.master

/-- The merge of a partial write onto the line as read (R97, R207, R211). `last` where a recovery has already ended, so
that none is tried again; `tag` where that recovery began with a failed tag. -/
def State.mergeWrite (s : State) (r : Req) (f : LineFaults) (last tag : Bool) : State :=
  let loc := lineAddr r.loc
  let pc := (s.placeOf loc).pc
  let u := s.upset loc f
  let fa := u.1
  let s := u.2
  let v := s.judge loc (symErrs fa.errs)
  if !fa.decAgree then (s.checkerFault 0x0202 r.dpa 3 r.master).discardWrite r v.line.data (0x40 + pc) 0x0204
  else
    let s := s.observe v r.dpa 3 r.master
    match v.outcome with
    | .cleared => s.storeLine r (overlay 0 r.data r.mask) fa
    | .poisoned =>
      if !last && s.mayRecover loc r.byEngine then (s.startRecovery loc false (decide (v.outcome = .uncorrectable))).joinRecovery r
      else s.discardWrite r v.line.data (0x40 + pc) 0x0204
    | .uncorrectable =>
      if !last && s.mayRecover loc r.byEngine then (s.startRecovery loc false (decide (v.outcome = .uncorrectable))).joinRecovery r
      else s.discardWrite r v.line.data (0x40 + pc) 0x0204
    | _ =>
      let sel := s.selOf r
      let merged := overlay (decryptLine sel loc v.line.data) r.data r.mask
      if !fa.cryptoAgree then
        (s.errReq 0x19 0x0705 r.dpa r.access r.master).discardWrite r v.line.data (0x40 + pc) 0x0204
      else if !sel.2.integrity then s.storeLine r merged fa
      else
        let f := s.fetchTag r fa
        match f.1 with
        | none =>
          if f.2.recovering loc then f.2.joinRecovery r
          else f.2.discardWrite r v.line.data (0x40 + pc) 0x0204
        | some t =>
          if tagHolds sel loc v.line.data t then
            let s := if tag then (f.2.bump CRYPT_TAG_RECOVERED.count).errReq 0x19 0x0708 r.dpa 2 r.master else f.2
            s.storeLine r merged { fa with sramOk := true }
          else if !last && f.2.partnerHas loc then (f.2.tagFailed.startRecovery loc true false).joinRecovery r
          else f.2.tagFailed.discardWrite r v.line.data 0x19 0x0702

/-- A queued write reaches DRAM (R63, R95 to R97, R196, R207): a poisoned one, full or partial, poisons the whole line
(R327). -/
def State.finishWrite (s : State) (r : Req) (f : LineFaults) : State :=
  if r.poison then
    s.poisonLine r.loc r.data 1
  else if r.kind = .part then s.mergeWrite r f false false
  else s.storeLine r r.data f

/-- A queued request is performed as it stands, with no error on the way. -/
def State.perform (s : State) (r : Req) : State :=
  if r.kind = .read then s.finishRead r .none else s.finishWrite r .none

/-! ## Entry -/

/-- The quires that a write must have Dirty: its own, and that of its tag line under a slot with integrity (R207). -/
def State.writeQuires (s : State) (r : Req) : List Nat :=
  if (s.selOf r).2.integrity then [quireOf r.loc, quireOf (s.tagLineOf r.loc)] else [quireOf r.loc]

/-- Lines charged to a request (R233). -/
def ReqKind.lines : ReqKind → Nat
  | .part => 2
  | _ => 1

/-- A mirrored write on the Primary of a Joined or Resyncing range: what it leaves in the outbound queue (R297), or on
its quire's push bit while the range is apart or the write is poisoned (R327). -/
def State.mirrorWrite (s : State) (r : Req) : State :=
  match s.mirrorOf r.loc with
  | none => s
  | some n =>
    if !s.primary n then s else
    let st := s.rd (DOVE_RANGE_STAT.state.ix n)
    if (st = 1 ∨ st = 2) ∧ r.poison = false then
      let w : Mwrite := {
        osn := s.dove.osnNext, loc := BitVec.ofNat 37 r.loc, mask := r.mask
        slot := Fin.ofNat 264 (s.selOf r).1, mark := Fin.ofNat 8 r.mark, data := r.data
        partialWrite := decide (r.kind = .part) }
      let s := { s with dove := { s.dove with
        queue := s.dove.queue ++ [QueueEntry.mk w s.joined], osnNext := s.dove.osnNext + 1 } }
      let s := if s.joined then s.sendDove (.mwrite w) else s
      (s.charge (pairOf r.master r.mark) 1).longest DOVE_Q_MAX.entries s.dove.queue.length
    else s.setPush (quireOf r.loc) true

/-- The outbound queue holds 253,952 entries (R298). -/
def queueSize : Nat := 253952

/-- A mirrored write must wait for a free entry of the outbound queue (R298). -/
def State.queueBlocks (s : State) (r : Req) : Bool :=
  match s.mirrorOf r.loc with
  | none => false
  | some n =>
    let st := s.rd (DOVE_RANGE_STAT.state.ix n)
    s.primary n && decide (st = 1 ∨ st = 2) && !r.poison && decide (queueSize ≤ s.dove.queue.length)

/-- A write is complete at its controller: its quires are Dirty, it is charged and mirrored, and its completion goes out
(R20, R62, R233, R297). -/
def State.completeWrite (s : State) (r : Req) : State :=
  let s := s.forAll (s.writeQuires r) fun s q => s.markDirty q r.master
  ((s.charge (pairOf r.master r.mark) r.kind.lines).mirrorWrite r).answerWrite r true

/-- Read and write entries held at a controller (R55). A read that waits for a recovery keeps its entry. -/
def State.reads (s : State) (pc : Nat) : Nat :=
  (((s.pc pc).queue ++ (s.pc pc).bursts).filter fun r => decide (r.kind = .read)).length +
  ((s.recoveries.flatMap fun x => x.waiting).filter fun w =>
    w.2.queued && decide ((s.placeOf w.2.loc).pc = pc)).length
def Pc.writes (c : Pc) : Nat := ((c.queue ++ c.wbursts).filter fun r => decide (r.kind ≠ .read)).length

/-- Requests in the queue of a bank (R55). -/
def State.bankQueue (s : State) (pc bank : Nat) : List Req :=
  ((s.pc pc).queue ++ (s.pc pc).wbursts).filter fun r => decide ((s.placeOf r.loc).bank = bank)

/-- The pools and the bank queue have room for a request (R55). -/
def State.hasRoom (s : State) (pc : Nat) (r : Req) : Bool :=
  decide ((s.bankQueue pc (s.placeOf r.loc).bank).length < 12) &&
  (if r.kind = .read then decide (s.reads pc < 64) else decide ((s.pc pc).writes < 48))

/-- Write drain follows the occupancy of the write entries (R63). -/
def State.fixDrain (s : State) (pc : Nat) : State :=
  let n := (s.pc pc).writes
  if s.rd (PC_WQ_CTL.wq_high.pc pc) ≤ n then s.put (PC_QUEUE_STAT.drain.pc pc)
  else if n ≤ s.rd (PC_WQ_CTL.wq_low.pc pc) then s.clr (PC_QUEUE_STAT.drain.pc pc)
  else s

/-- A request takes its place in a bank queue, with its class latched; it inherits a higher class of an older request to
its line (R55, R56, R59). -/
def State.enqueue (s : State) (pc : Nat) (r : Req) : State :=
  let c := s.pc pc
  let older := (c.queue.filter fun x => decide (lineAddr x.loc = lineAddr r.loc)).map fun x =>
    if x.promoted then 7 else x.cls
  let r := { r with entered := s.now, cls := older.foldl max (s.effClass r.master r.mark), queued := true }
  (s.setPc pc { c with queue := c.queue ++ [r] }).fixDrain pc

/-- The write entry of a line whose burst to DRAM has not issued (R55, R64). -/
def Pc.writeTo (c : Pc) (loc : Nat) : Option Req :=
  (c.wbursts ++ c.queue).find? fun r => decide (r.kind ≠ .read ∧ lineAddr r.loc = lineAddr loc)

/-- A read that arrives after a queued write to its line is served from that entry: it gets what the line will hold
(R64). -/
def State.forward (s : State) (w r : Req) : State :=
  let o := (s.perform w).readLine r .none
  let s := s.charge (pairOf r.master r.mark) 1
  match o.1 with
  | .data d => s.answerRead r (some d)
  | _ => s.answerRead r none

/-- A write in the place of another's entry, with its times and its class (R64). -/
def Req.inEntry (r w : Req) : Req :=
  { r with arrived := w.arrived, entered := w.entered, cls := w.cls, promoted := w.promoted, queued := w.queued,
           excused := w.excused }

/-- A write merges into the queued entry of its line: a full one or a poisoned one (R327) replaces the data, a partial one under the same slot
joins it (R64). -/
def mergeReq (w r : Req) : Req :=
  if r.kind = .full ∨ r.poison then r.inEntry w
  else { w with data := overlay w.data r.data r.mask, mask := w.mask ||| r.mask }

/-- A write can merge into the entry: it takes the whole line, or both are good writes under one slot. -/
def canMerge (w r : Req) : Bool := r.kind = .full || r.poison || (w.sel = r.sel && !w.poison)

/-- Takes a request out of a queue. -/
def Pc.without (c : Pc) (id : Nat) : Pc := { c with queue := c.queue.filter fun r => decide (r.id ≠ id) }

/-- The entry of a write is given to another. -/
def Pc.replace (c : Pc) (id : Nat) (r : Req) : Pc :=
  let put (l : List Req) : List Req := l.map fun x => if x.id = id then r else x
  { c with queue := put c.queue, wbursts := put c.wbursts }

/-- A request enters its bank queue, or is served from the write entries, where its controller has room (R55, R64). -/
def State.enter (s : State) (pc : Nat) (r : Req) : State :=
  match (s.pc pc).writeTo r.loc with
  | some w =>
    if r.kind = .read then s.forward w r
    else
      let s := s.completeWrite r
      let c := s.pc pc
      if canMerge w r then s.setPc pc (c.replace w.id (mergeReq w r))
      else (s.setPc pc (c.replace w.id (r.inEntry w))).perform w
  | none => if r.kind = .read then s.enqueue pc r else (s.completeWrite r).enqueue pc r

/-- The wait of R298 begins and is reported. -/
def State.waitQueue (s : State) (r : Req) : State :=
  let s := s.cause 0x14 7
  { s with dove := { s.dove with waiting := s.dove.waiting ++ [(r, s.now)] } }

/-- A request that waits at the input stands before another, which may not pass it: it goes to the same line or the same
bank. Reads of the bank are served on past a write that waits for a write entry (R40, R55, R65). -/
def State.standsBefore (s : State) (pc : Nat) (x r : Req) : Bool :=
  decide (lineAddr x.loc = lineAddr r.loc) ||
  (decide ((s.placeOf x.loc).bank = (s.placeOf r.loc).bank) &&
    !(decide (x.kind ≠ .read ∧ r.kind = .read) && decide (48 ≤ (s.pc pc).writes)))

/-- No request that waits at the input stands before this one (R40, R55). -/
def State.inputClear (s : State) (pc : Nat) (r : Req) : Bool := !(s.pc pc).input.any fun x => s.standsBefore pc x r

/-- A request that may enter does, or is held under R21 or R298, or waits at the input (R55, R65). -/
def State.intake (s : State) (pc : Nat) (r : Req) : State :=
  if r.kind ≠ .read ∧ s.holdsAny (s.writeQuires r) then s.hold r
  else if r.kind ≠ .read ∧ s.queueBlocks r then s.waitQueue r
  else if (s.hasRoom pc r || ((s.pc pc).writeTo r.loc).isSome) && s.inputClear pc r then s.enter pc r
  else s.setPc pc { s.pc pc with input := (s.pc pc).input ++ [r] }

/-! ## Arrival -/

/-- Sets of the snoop filter (R329). -/
def filterSets : Nat := 16384

def PortState.tracked (p : PortState) (loc : Nat) : Option Tracked := Sparse.get (fun _ => none) p.filter (loc / 64)
def PortState.track (p : PortState) (loc : Nat) (t : Option Tracked) : PortState :=
  { p with filter := Sparse.set (fun _ => none) p.filter (loc / 64) t }

/-- The port of a request's host. -/
def Req.port (r : Req) : Option Nat :=
  match r.src with
  | .host port _ _ => some port
  | .old port _ => some port
  | .mgmt => none

/-- A port, other than the requester's own, whose host must be asked before the access: for a write any that tracks the
line, for a read one that may hold it exclusive (R329). -/
def State.snoopPort (s : State) (own : Option Nat) (loc : Nat) (write : Bool) : Option Nat :=
  (List.range 4).find? fun p => decide (own ≠ some p) &&
    (match (s.port p).tracked (lineAddr loc) with
     | some t => write || t.excl
     | none => false)

/-- A back-invalidate of a line goes to a port, at most 64 at once; one already outstanding is joined (R329). -/
def State.snoop (s : State) (p loc : Nat) (inval : Bool) : State :=
  let ps := s.port p
  if ps.inv.any fun i => decide (i.loc = lineAddr loc) then s
  else if 64 ≤ ps.inv.length then s
  else ((s.setPort p { ps with inv := ps.inv ++ [{ loc := lineAddr loc, inval := inval, sentAt := s.now }] }).bump
    (PORT_BI_SENT.count.port p)).emit (.backInvalidate p (lineAddr loc) inval)

/-- The line that must leave a full set of the port's filter before a new line is tracked (R329). -/
def State.filterVictim (s : State) (p loc : Nat) : Option Nat :=
  let set := ((s.port p).filter.filter fun e => e.2.isSome && decide (e.1 % filterSets = loc / 64 % filterSets)).map
    fun e => e.1 * 64
  if ((s.port p).tracked loc).isSome ∨ set.length < 16 then none
  else set[Config.pick s.free set.length % set.length]?

/-- The wait that an access meets before its controller serves it: an unfinished quire of Clear or Lift (R42), a line of
an outstanding Resync stroke (R41), a back-invalidate (R329, R331), a line in recovery (R116). -/
def State.waitOf (s : State) (r : Req) : Option Wait :=
  let quires := if r.kind = .read then [quireOf r.loc] else s.writeQuires r
  match quires.findSome? fun q => (s.unfinishedBy q).map fun k => Wait.quire k q with
  | some w => some w
  | none =>
    if s.dove.strokes.any fun k => decide (k.quire * 64 + k.piece = r.loc / 16384) then some (.stroke (lineAddr r.loc))
    else if r.kind ≠ .read ∧ s.recovering r.loc then some (.recovery (lineAddr r.loc))
    else match r.port with
      | some p =>
        if (s.port p).inv.any fun i => decide (i.loc = lineAddr r.loc) then some (.snoop p (lineAddr r.loc) false)
        else (s.snoopPort r.port r.loc (decide (r.kind ≠ .read))).map fun p =>
          .snoop p (lineAddr r.loc) (decide (r.kind ≠ .read))
      | none => (s.snoopPort r.port r.loc (decide (r.kind ≠ .read))).map fun p =>
          .snoop p (lineAddr r.loc) (decide (r.kind ≠ .read))

/-- A request begins a wait. -/
def State.stall (s : State) (w : Wait) (r : Req) : State :=
  let s := match w with
    | .quire k q => s.demand k q
    | .snoop p loc inval => s.snoop p loc inval
    | _ => s
  { s with stalled := s.stalled ++ [(w, r)] }

/-- A read whose host may cache the line enters the filter; a full set first loses a line (R329). -/
def State.trackRead (s : State) (pc : Nat) (r : Req) : State :=
  match r.port with
  | some p =>
    if r.cache = 0 ∨ r.kind ≠ .read then s.intake pc r
    else match s.filterVictim p (lineAddr r.loc) with
      | some v => s.drawn.stall (.snoop p v true) r
      | none =>
        (s.setPort p ((s.port p).track (lineAddr r.loc)
          (some { excl := decide (r.cache = 2), dpa := r.dpa, keyId := r.keyId, master := r.master }))).intake pc r
  | none => s.intake pc r

/-- A request whose selection stands is served, waits, or joins the recovery of its line. -/
def State.serve (s : State) (r : Req) : State :=
  let pc := (s.placeOf r.loc).pc
  match s.waitOf r with
  | some w => s.stall w r
  | none =>
    if r.kind = .read ∧ s.recovering r.loc then s.joinRecovery r
    else (s.rouse pc (r.dpa, r.access, r.master)).trackRead pc r

/-- The Secondary refuses host writes to a mirrored range (R302). -/
def State.secondaryRefuses (s : State) (r : Req) : Bool :=
  decide (r.kind ≠ .read) && decide (r.master < 16) &&
    (match s.mirrorOf r.loc with
     | some n => !s.primary n
     | none => false)

/-- A request arrives at its PC controller (R40): key selection, the mirror rule, then the waits. -/
def State.arrive (s : State) (r : Req) : State :=
  match s.keyRefusal r with
  | some code => s.refuseKey r code
  | none =>
    if s.secondaryRefuses r then (s.bump DOVE_WRITE_REFUSED.count).refuse 0x14 0x0A03 r
    else s.serve { r with sel := some (s.select r), arrived := s.now }

/-! ## Ends of waits -/

/-- The longest stall on a Kerf (R52). -/
def State.stallEnds (s : State) (w : Wait) (r : Req) : State :=
  match w with
  | .quire k _ => s.longest (KERF_STALL_MAX.ns.ix k) ((s.now - r.arrived) / psNs)
  | .stroke _ => s.longest (KERF_STALL_MAX.ns.ix 4) ((s.now - r.arrived) / psNs)
  | _ => s

/-- A wait is over. -/
def State.waitOver (s : State) : Wait → Bool
  | .quire k q => decide (s.unfinishedBy q ≠ some k)
  | .stroke loc => !(s.dove.strokes.any fun k => decide (k.quire * 64 + k.piece = loc / 16384))
  | .snoop p loc inval =>
    !((s.port p).inv.any fun i => decide (i.loc = loc)) &&
    (match (s.port p).tracked loc with
     | some t => !inval && !t.excl
     | none => true)
  | .recovery loc => !s.recovering loc

/-- Requests whose wait has ended are served in the order in which they came (R40). -/
def State.releaseStalled (s : State) : State :=
  let go := s.stalled.filter fun w => s.waitOver w.1
  let s := { s with stalled := s.stalled.filter fun w => !s.waitOver w.1 }
  let s := s.forAll go fun s w => (s.stallEnds w.1 w.2).serve w.2
  s.forAll s.stalled fun s w => match w.1 with
    | .snoop p loc inval => s.snoop p loc inval
    | _ => s

/-- Writes held under R21 are admitted in order while the budget allows (R21, R148). -/
def State.releaseHeld (s : State) : State :=
  let l := s.folio.held
  let s : State := { s with folio := { s.folio with held := [] } }
  let s := s.forAll l fun s r =>
    if s.holdsAny (s.writeQuires r) then { s with folio := { s.folio with held := s.folio.held ++ [r] } }
    else s.intake (s.placeOf r.loc).pc r
  s.endHolding

/-- Requests already arrived that a predicate names are performed, oldest first, before an engine takes their lines
(R40). -/
def State.settle (s : State) (pick : Nat → Bool) : State :=
  s.forAll s.pcs fun s e =>
    let c := s.pc e.1
    let mine := (c.bursts ++ c.wbursts ++ c.queue).filter fun r => pick (lineAddr r.loc)
    let late := c.input.filter fun r => pick (lineAddr r.loc)
    if mine = [] ∧ late = [] then s else
    let keep := fun (l : List Req) => l.filter fun r => !pick (lineAddr r.loc)
    let s := s.setPc e.1 { c with
      wbursts := keep c.wbursts, bursts := keep c.bursts, queue := keep c.queue, input := keep c.input }
    let s := s.forAll mine State.perform
    (s.forAll late fun s r =>
      if r.kind = .read then s.perform r
      else if s.holdsAny (s.writeQuires r) then s.hold r
      else (s.completeWrite r).perform r).fixDrain e.1

/-- The Rekey has finished a span of lines: requests to them that still wait, and that were selected under the from-slot,
are served under the to-slot from now on (R45). -/
def State.reposition (s : State) (src dst lo hi : Nat) : State :=
  let turn (r : Req) : Req :=
    if lo ≤ r.loc / 64 ∧ r.loc / 64 < hi ∧ (r.sel.any fun k => decide (k.1 = src)) then
      { r with sel := some (dst, s.key dst) } else r
  { s with
    stalled := s.stalled.map fun w => (w.1, turn w.2)
    folio := { s.folio with held := s.folio.held.map turn }
    recoveries := s.recoveries.map fun x =>
      { x with waiting := x.waiting.map fun w => (w.1, turn w.2), writes := x.writes.map turn }
    dove := { s.dove with waiting := s.dove.waiting.map fun w => (turn w.1, w.2) } }

/-- Requests to one line are performed. -/
def State.settleLine (s : State) (loc : Nat) : State := s.settle fun a => decide (a = lineAddr loc)

/-! ## Accesses of the device's own engines -/

/-- A request of an engine. -/
def State.engineReq (s : State) (master : Nat) (kind : ReqKind) (dpa keyId : Nat) (data : LineData) (mask : BitVec 64) :
    Req :=
  { id := s.nextReq, src := .mgmt, master := master, mark := s.engMark master, kind := kind, loc := lineAddr (locOf dpa)
    dpa := dpa, keyId := keyId, sel := none, data := data, mask := mask, poison := false, cache := 0, arrived := s.now
    entered := s.now, cls := 0, promoted := false, queued := false, excused := 0 }

/-- The host copies of a line are called back for an access of the device's own (R329). Where the access stands in
`State.coherent`, this only marks the call, and the access waits for its answer; else it is taken to be answered at once
(assumption 21). -/
def State.callBack (s : State) (loc : Nat) (write : Bool) : State :=
  match s.snoopPort none loc write with
  | some p =>
    let left := if write then none else ((s.port p).tracked (lineAddr loc)).map fun t => { t with excl := false }
    ((s.setPort p ((s.port p).track (lineAddr loc) left)).bump (PORT_BI_SENT.count.port p)).emit
      (.backInvalidate p (lineAddr loc) write)
  | none => s

/-- The back-invalidates that an effect from `s` to `t` needs: those its call-backs marked. -/
def State.recalls (s t : State) : List (Nat × Nat × Bool) :=
  (t.out.take (t.out.length - s.out.length)).reverse.filterMap fun o =>
    match o with
    | .backInvalidate p loc inval => some (p, loc, inval)
    | _ => none

/-- The back-invalidates are sent, and nothing else happens (R329). -/
def State.recall (s : State) (l : List (Nat × Nat × Bool)) : State := s.forAll l fun s b => s.snoop b.1 b.2.1 b.2.2

/-- An effect of the device's own waits while a host may hold a line that it writes: the back-invalidates go out first
(R329). -/
def State.coherent (s t : State) : State := if s.recalls t = [] then t else s.recall (s.recalls t)

/-- A quire is demanded for an access of the device's own, and what waited for it goes on (R42). -/
def State.ensure (s : State) (q : Nat) : State :=
  if (s.unfinishedBy q).isSome then (s.ensureQuire q).releaseStalled else s

/-- An engine reads a line for its data (R42, R206). Chisel reads the lines as they stand in memory (R250, R272). -/
def State.engineData (s : State) (r : Req) : ReadOut × State :=
  let s := ((s.ensure (quireOf r.loc)).settleLine r.loc).engineRow r.loc r.access r.master
  (s.charge (pairOf r.master r.mark) 1).readLine r .none

/-- An engine writes a line: its quires become Dirty and the line is written at once (R133, R207). -/
def State.engineWrite (s : State) (r : Req) : State :=
  let s := (((s.ensure (quireOf r.loc)).settleLine r.loc).engineRow r.loc r.access r.master).callBack r.loc true
  let s := s.forAll (s.writeQuires r) fun s q => s.markDirty q r.master
  (s.charge (pairOf r.master r.mark) r.kind.lines).perform r

end Sys2Proof.Machine
end

