-- ==== Sys2Proof/Machine/FolioProg.lean ====
section
/-!
DEFINITION. What a Bind, a Checkpoint and a void commit share: reading a quire (R126, R141, R145), programming its slot
(R128, R133, R143, R158, R610), reclaim (R146), and the commit of an image (R129, R136 to R139).
-/

namespace Sys2Proof.Machine

/-! ## Programming -/

/-- What a Bind or Checkpoint reads of a quire as master 0x17: requests that its controllers hold complete first, each
listed line passes the decoder with what every read leaves behind, and tag lines come from the tag cache where it holds
them (R96, R112, R114, R141, R145, R208). -/
def State.readQuire (s : State) (q : Nat) : Sparse StoredLine × State :=
  let lo := q * quireLines
  let s := (s.settle fun a => decide (quireOf a = q)).quireRows q 5 0x17
  let o := ((s.lines.filter fun e => decide (lo ≤ e.1 ∧ e.1 < lo + quireLines)).map (·.1)).foldl
    (fun (a : Sparse StoredLine × State) n =>
      let r := a.2.engineRead (n * 64) [] true 5 0x17
      (if r.1 = StoredLine.cleared then a.1 else a.1 ++ [(n - lo, r.1)], r.2)) ([], s)
  ((s.crypto.tags.filterMap fun e =>
      if lo ≤ e.1 ∧ e.1 < lo + quireLines then e.2.map fun t => (e.1 - lo, t) else none).foldl
    (fun m e => Sparse.set (fun _ => StoredLine.cleared) m e.1 (StoredLine.ofData e.2.data)) o.1, o.2)

/-- A line of a bitmap of the mirror area: bit i is that of quire 512 × n + i (R278). -/
def bitmapLine (m : Sparse Bool) (n : Nat) : LineData :=
  BitVec.ofNat 512 ((m.filter fun e => decide (e.1 / 512 = n)).map fun e => 2 ^ (e.1 % 512)).sum

/-- The lines of quire `i` of the mirror area in plaintext (R278): 31 quires of queue entries, each an MWRITE body padded
to 128 bytes at its OSN in the ring, then the range table, whose layout is a free value, and the two bitmaps
(assumption 91). -/
def State.areaPlain (s : State) (i : Nat) : List (Nat × LineData) :=
  if i < 31 then s.dove.queue.flatMap fun e =>
    let n := e.w.osn % 253952
    let b := Mwrite.bytes e.w
    if n / 8192 = i then
      [(2 * (n % 8192), BitVec.ofNat 512 (packSymbols (b.take 64))),
        (2 * (n % 8192) + 1, BitVec.ofNat 512 (packSymbols (b.drop 64)))]
    else []
  else ((List.range 64).map fun j => (j, Config.blob s.free j)) ++
    ((List.range 256).map fun j => (64 + j, bitmapLine s.dove.push j)) ++
    (List.range 256).map fun j => (320 + j, bitmapLine s.dove.pull j)

/-- The stored form of those lines, under the mirror key (R278). -/
def State.areaLines (s : State) (i : Nat) : Sparse StoredLine :=
  let lo := (s.fullQuires - 32 + i) * 2 ^ 20
  (s.areaPlain i).foldl (fun m e => Sparse.set (fun _ => StoredLine.cleared) m e.1
    (StoredLine.ofData (xtsEncrypt s.mirrorEntry.k1 s.mirrorEntry.k2 (lo + e.1 * 64) e.2))) []

/-- The contents of the slot that a quire is programmed into. A Clean quire that reclaim moves is copied verbatim; one
whose map entry was lost is written with every line poisoned (R128, R146, R520). The mirror area holds what the pair's
state is (R278). -/
def State.slotContents (s : State) (c : Commit) (q : Nat) : Option SlotData × State :=
  let d : SlotData := { unit := s.rd SYS_UNIT.unit, quire := q, bsn := c.bsn, key := s.folio.key.getD 0, lines := [] }
  if q ∈ c.reclaim then ((s.quire q).slot.bind s.slotData, s)
  else if q ∈ s.folio.lostEntries then
    (some (d.sealed ((List.range quireLines).map fun i => (i, StoredLine.poisoned 0))), s)
  else
    let r := s.readQuire q
    (some (d.sealed (if s.area && s.inArea q then s.areaLines (q + 32 - s.fullQuires) else r.1)), r.2)

/-- One quire of a Bind or Checkpoint is read and programmed into the next slot; it is in flight until its slot reads
back. `none` where no slot is free (R141, R145, R610). -/
def State.programQuire (s : State) (c : Commit) (q : Nat) : Option (State × Commit) :=
  (s.nextSlot (decide (c.kind = 1 ∨ c.kind = 4))).map fun o =>
    let d := o.2.slotContents c q
    ((d.2.setSlot o.1 d.1).chargeEng 0x17 quireLines,
      { c with flight := c.flight ++ [(q, o.1)], programmed := c.programmed + 1 })

/-- The next quires of a Bind or Checkpoint go out, as many as are asked for. A quire that was to be moved and is no longer
Clean is passed over (R146). Where no slot is free a Bind waits, and a Checkpoint leaves the quire as it is (R143). -/
def State.pump (s : State) (c : Commit) : Nat → State × Commit
  | 0 => (s, c)
  | n + 1 =>
    match c.todo with
    | [] => (s, c)
    | q :: rest =>
      if q ∈ c.reclaim ∧ (s.quire q).state ≠ .clean then s.pump { c with todo := rest } n
      else match s.programQuire { c with todo := rest } q with
        | some r => r.1.pump r.2 n
        | none => if c.kind = 1 ∨ c.kind = 4 then (s, c) else s.pump { c with todo := rest } n

/-- A quire whose slot has read back good: it is Staged, or stays Dirty where a write reached it meanwhile, or keeps what
it has become (R133). -/
def State.readBack (s : State) (q n : Nat) : State :=
  let e := s.quire q
  if e.redirty then (s.setSlot n none).setQuire q { e with redirty := false }
  else match e.state with
    | .dirty => (s.setQuire q { e with state := .staged, slot := some n }).fixBudget
    | .clean => (s.setQuire q { e with state := .staged, slot := some n }).fixBudget
    | _ => s.setSlot n none

/-- The quire is one of those that R134 keeps Dirty. -/
def State.keptDirty (s : State) (q : Nat) : Bool := s.anyConfigured && s.inArea q

/-- A slot whose program fails is programmed again, verbatim, in another stripe (R128, R158). -/
def State.reprogram (s : State) (c : Commit) (q n : Nat) : State × Commit :=
  let layer := n / layerSlots
  let at_ := n % layerSlots / 64
  let shut (o : Option (Nat × Nat)) : Option (Nat × Nat) := o.filter fun x => decide (x.1 ≠ at_)
  let d := s.slotData n
  let s := (s.setSlot n none).setOpen layer (shut (if layer = 0 then s.folio.openP0 else s.folio.openP1))
  match s.nextSlot (decide (c.kind = 1 ∨ c.kind = 4)) with
  | some o => ((o.2.setSlot o.1 d).chargeEng 0x17 quireLines, { c with flight := c.flight ++ [(q, o.1)] })
  | none => (s, if c.kind = 1 ∨ c.kind = 4 then { c with todo := q :: c.todo } else c)

/-! ## The commit -/

/-- The map that a commit writes: each quire with a slot is Clean in it; all others are Cleared (R132, R133). -/
def State.commitMap (s : State) : Sparse (Option Nat) :=
  s.folio.map.filterMap fun e => if e.2.slot.isSome ∧ e.2.state ≠ .cleared then some (e.1, e.2.slot) else none

/-- The Colophon of a commit that is made now (R136). Where the quire map lies in the log of the system area is a free
value; its layer is the first whose copy read back good. -/
def State.colophon (s : State) (kind bsn programmed : Nat) (p0 : Bool) (map : Sparse (Option Nat)) (kerfs : Bool) :
    Image where
  kind := kind
  bsn := bsn
  prev := s.rd64 FOLIO_BSN_LO.bsn FOLIO_BSN_HI.bsn
  persist := s.rd FOLIO_STAT.persist
  key := s.folio.key.getD 0
  unit := s.rd SYS_UNIT.unit
  variant := s.rd SYS_ID.variant
  carve := s.carve
  keyRetain := s.on FOLIO_CTL.key_retain
  pool := s.rd SYS_POOL.pool
  time := if s.tbValid then some s.tb else none
  clean := map.length
  blank := s.fullQuires - map.length
  programmed := programmed
  mapAt := mapWord (if p0 then 0 else 1) (Config.pick s.free 32 % 32) (Config.pick (s.free + 1) 64)
  top := s.folio.bsnTop
  tipSeq := (s.folio.tipRecord.map (·.seq)).getD 0
  kerfSeq := if kerfs then s.folio.kerfSeq else 0
  keySeq := s.folio.keyRecordSeq
  map := map

/-- A Colophon takes effect: each copy that read back good stands in its layer, it names the image in force, and slots
that nothing names are free (R137 to R139). -/
def State.putColophon (s : State) (i : Image) (p0 p1 : Bool) : State :=
  let s : State := { s with
    free := s.free + 2
    folio := { s.folio with
      col0 := if p0 then some i else s.folio.col0
      col1 := if p1 then some i else s.folio.col1
      image := some i, markers := []
      slots := s.folio.slots.filter fun e => i.map.any fun m => decide (m.2 = some e.1) } }
  (s.wr64 FOLIO_BSN_LO.bsn FOLIO_BSN_HI.bsn i.bsn).wrb FOLIO_STAT.colophon_time_valid i.time.isSome

/-- FOLIO_LAST and FOLIO_LAST_US (R163). -/
def State.lastCommit (s : State) (i : Image) (us : Nat) : State :=
  ((s.wr FOLIO_LAST.quires (min i.programmed 0x3FFFF)).wr FOLIO_LAST.kind i.kind).wr FOLIO_LAST_US.us
    (min us (2 ^ 32 - 1))

/-- The Kerf record: what the Kerfs that resume after Lift need (R50, R129). The position of a Migrate is held as its row.
The Clear Kerf of the start leaves none. -/
def State.kerfRecord (s : State) : List KerfRecord :=
  (List.range 5).filterMap fun k =>
    let e := s.eng k
    if (k = 0 ∧ e.purpose ≠ 1 ∨ k = 2 ∨ k = 3 ∨ k = 4) ∧ s.kerfActive k then
      some { kind := k, start := (e.sel.map (·.1)).headD 0, stop := (e.sel.map (·.2)).getLastD 0,
             pos := if k = 3 then e.cur * 2 ^ 20 else s.kerfPos k, fromSlot := e.src, toSlot := e.dst, bank := s.rd (KERF_ARG.bank.ix k), bsn := e.bsn }
    else none

/-- The commit of a Bind or Checkpoint takes effect: Staged quires and those that a Bind wrote become Clean, but those
that R134 keeps Dirty under their new slots, and the image in force is the new one (R133, R134, R138). FOLIO_LAST_US
counts from the taking of the BSN, a Bind's too (DESIGN CHOICE, assumption 75). -/
def State.commit (s : State) (c : Commit) (p0 p1 : Bool) : State :=
  let bind := decide (c.kind = 1 ∨ c.kind = 4)
  let map := Sparse.mapWith (fun _ => QEntry.reset) s.folio.map fun q e =>
    match c.flight.find? (fun f => decide (f.1 = q)) with
    | some f =>
      if !bind then e
      else { e with state := if s.keptDirty q then .dirty else .clean, slot := some f.2, redirty := false }
    | none => if e.state = .staged then { e with state := .clean } else e
  let kerfs := s.kerfRecord
  let s : State := { s with folio := { s.folio with map := map, lostEntries := if bind then [] else s.folio.lostEntries } }
  let s := if bind || !kerfs.isEmpty then
      { s.appendSys recKerf with folio := { (s.appendSys recKerf).folio with kerfSeq := s.folio.kerfSeq + 1 } }
    else s
  let s : State := { s with folio := { s.folio with kerfRecords := kerfs, changed := false, running := none } }
  let i := s.colophon c.kind c.bsn c.programmed p0 s.commitMap (bind || !kerfs.isEmpty)
  ((s.putColophon i p0 p1).lastCommit i ((s.now - c.startAt) / psUs)).fixBudget

/-- A void Colophon commits: the image in force is empty (R137). No quire is programmed, and how long the commit took is
a free value (R163). -/
def State.commitVoid (s : State) : State :=
  let b := s.takeBsn false
  let s := b.2
  let i := s.colophon 5 b.1 0 true [] false
  ((s.putColophon i true true).lastCommit i (Config.voidUs s.free).toNat).drawn

/-! ## Checkpoints -/

/-- The quires a Checkpoint selects: every Dirty quire, or the least recently written, but those of R134 (R145). -/
def State.checkpointQuires (s : State) (limited : Bool) : List Nat :=
  let d := (s.folio.map.filter fun e =>
    decide (e.2.state = .dirty) && !s.keptDirty e.1).map fun e => (e.2.wtime, e.1)
  if limited then
    ((d.mergeSort (fun a b => decide (a.1 < b.1 ∨ a.1 = b.1 ∧ a.2 ≤ b.2))).take (s.rd FOLIO_CKPT_LIMIT.quires)).map (·.2)
  else d.map (·.2)

/-- The Clean quires of a stripe. -/
def State.cleanIn (s : State) (stripe : Nat) : List Nat :=
  (s.folio.map.filter fun e => decide (e.2.state = .clean) && (match e.2.slot with
    | some n => decide (n / 64 = stripe)
    | none => false)).map (·.1)

/-- Stripes are emptied of their Clean slots, the first first, until the stripes of the image exceed what its quires need
by 16 or less: each leaves the image, and the slots moved fill new ones (R146). -/
def reclaimFrom (stripes need : Nat) : List (List Nat) → Nat → Nat → List Nat
  | [], _, _ => []
  | l :: rest, gone, moved =>
    if stripes + (moved + 63) / 64 ≤ need + 16 + gone then []
    else l ++ reclaimFrom stripes need rest (gone + 1) (moved + l.length)

/-- The Clean quires whose slots a Checkpoint moves (R146): those of the stripes with the fewest of them, where the stripes
of the image exceed what its quires need by more than 32, and at most 4,096 slots. -/
def State.reclaimQuires (s : State) : List Nat :=
  let slots := s.imageSlots
  let stripes := (slots.map (· / 64)).dedup
  let need := (slots.length + 63) / 64
  if !s.on FOLIO_CTL.reclaim_en || s.folio.plimit || decide (stripes.length ≤ need + 32) then [] else
  let clean := (stripes.map s.cleanIn).filter fun l => decide (l ≠ [])
  (reclaimFrom stripes.length need (clean.mergeSort fun a b => decide (a.length ≤ b.length)) 0 0).take 4096

/-- A Checkpoint starts: it takes its BSN, selects its quires and begins to program (R145). None starts while fewer than
two BSNs remain (R135), nor while persistence is not active. -/
def State.startCheckpoint (s : State) (limited urgent : Bool) : State :=
  if !s.persists || s.folio.running.isSome || decide (s.bsnLeft < 2) then s else
  let b := s.takeBsn false
  let reclaim := b.2.reclaimQuires
  let c : Commit := {
    kind := if limited then 3 else 2, safe := false, bsn := b.1, startAt := s.now,
    todo := b.2.checkpointQuires limited ++ reclaim, flight := [], reclaim := reclaim, programmed := 0, urgent := urgent }
  let r := b.2.pump c 2
  { r.1 with folio := { r.1.folio with running := some r.2, ordered := none } }

end Sys2Proof.Machine
end

