-- ==== Sys2Proof/Machine/SplineOps.lean ====
section
/-!
DEFINITION. The mesh of the Spline: attachments, routes and grants (R389 to R399). A router's links are numbered as R412
numbers them: 0 to 3 its PCs, 4 the edge attachment, 5 the interior attachment, 8 to 11 the mesh links north, east, south
and west; row 0 is the north row.
-/

namespace Sys2Proof.Machine

/-- What attaches to the Spline (R390). -/
inductive SplineBlock where
  | pc (n : Nat)
  | port (p : Nat)
  | dove
  | folio
  | chisel
  | crypt
  | gauge
  /-- Kerf engines, scrub and TIPIN. -/
  | kerf
  | core
  /-- The register hub. -/
  | hub
  deriving DecidableEq, Repr

/-- The attachments of a block by number: router and router port (R390). A router has one edge attachment, but R390 gives a
corner router two blocks: the host port takes router port 4, the other block 5 (DESIGN CHOICE, assumption 89). -/
def SplineBlock.attachments : SplineBlock → List (Nat × Nat)
  | .pc n => [(n / 4, n % 4)]
  | .port 0 => [(0, 4), (4, 4)]
  | .port 1 => [(8, 4), (12, 4)]
  | .port 2 => [(3, 4), (7, 4)]
  | .port _ => [(11, 4), (15, 4)]
  | .dove => [(0, 5), (1, 4)]
  | .folio => [(2, 4), (3, 5)]
  | .chisel => [(12, 5), (13, 4)]
  | .crypt => [(14, 4)]
  | .gauge => [(15, 5)]
  | .kerf => [(5, 5)]
  | .core => [(6, 5)]
  | .hub => [(9, 5)]

/-- The attachment that a message to or from a block uses: of two, DPA[8] chooses where the message carries a DPA (R391). -/
def SplineBlock.attachment (b : SplineBlock) (dpa : Option Nat) : Nat × Nat :=
  match b.attachments, dpa with
  | [a0, a1], some d => if d / 256 % 2 = 1 then a1 else a0
  | l, _ => l.headD (0, 0)

/-- The crossing of a router's link, none where nothing attaches to it (R390). -/
def crossingOf (router rport : Nat) : Option Nat :=
  if rport < 4 then some (4 * router + rport) else
  ([(0, 4), (4, 4), (8, 4), (12, 4), (3, 4), (7, 4), (11, 4), (15, 4), (0, 5), (1, 4), (2, 4), (3, 5), (12, 5), (13, 4),
    (14, 4), (15, 5), (5, 5), (6, 5), (9, 5)].idxOf? (router, rport)).map (64 + ·)

/-- The output that a router gives a word for a router and port: along the row first, then along the column (R391). -/
def splineRoute (router dest port : Nat) : Nat :=
  if router % 4 < dest % 4 then 9
  else if dest % 4 < router % 4 then 11
  else if router / 4 < dest / 4 then 10
  else if dest / 4 < router / 4 then 8
  else port

/-- The router on the far side of a mesh link, none past the edge of the mesh. -/
def splineNeighbour (router rport : Nat) : Option Nat :=
  if rport = 8 then (if 4 ≤ router then some (router - 4) else none)
  else if rport = 9 then (if router % 4 < 3 then some (router + 1) else none)
  else if rport = 10 then (if router < 12 then some (router + 4) else none)
  else if rport = 11 then (if 0 < router % 4 then some (router - 1) else none)
  else none

/-- The far router's name of a mesh link. -/
def splineFar (rport : Nat) : Nat := if rport < 10 then rport + 2 else rport - 2

/-- The plane of a class (R396). -/
def classPlane (cls : Nat) : Nat := if cls < 2 then 0 else 1

/-- The key of a router output and class. -/
def outputKey (router port cls : Nat) : Nat := (router * 16 + port) * 5 + cls

/-- The oldest word of a class in a router's input (R396). -/
def SplineState.head (x : SplineState) (router input cls : Nat) : Option SplineWord :=
  (x.words.find? fun h => decide (h.router = router ∧ h.input = input ∧ h.word.cls.val = cls)).map (·.word)

/-- A class has room at a router's input: its buffer holds 4 words (R396). -/
def SplineState.room (x : SplineState) (router input cls : Nat) : Bool :=
  decide ((x.words.filter fun h => decide (h.router = router ∧ h.input = input ∧ h.word.cls.val = cls)).length < 4)

/-- The inputs of a router that hold a word of a class for an output, the next in turn first (R399). -/
def SplineState.holders (x : SplineState) (router port cls : Nat) : List Nat :=
  let last := Sparse.get (fun _ => 0) x.granted (outputKey router port cls)
  ((List.range 12).map fun k => (last + k) % 12).filter fun i =>
    (x.head router i cls).any fun w => decide (splineRoute router w.router w.port = port)

/-- The consecutive grants to others that a class has waited through at an output (R399). -/
def SplineState.waitedOut (x : SplineState) (router port cls : Nat) : Nat :=
  Sparse.get (fun _ => 0) x.passed (outputKey router port cls)

/-- The class that a router output grants among those that may go: CTL, SNPRSP, RSP, SNP, REQ in this order. One that has
waited through 7 grants goes first, the longest wait before any other, which keeps every wait within 8 (R399; which grant
keeps the bound is a DESIGN CHOICE, assumption 89). -/
def SplineState.grantClass (x : SplineState) (router port : Nat) (classes : List Nat) : Option Nat :=
  let late := classes.filter fun c => decide (7 ≤ x.waitedOut router port c)
  late.foldl (fun best c => match best with
    | none => some c
    | some b => if x.waitedOut router port b < x.waitedOut router port c then some c else best) none <|> classes.head?

/-- The word that a router output grants on a plane, with its input: `room` says which classes the receiver can take. -/
def SplineState.grant (x : SplineState) (router port plane : Nat) (room : Nat → Bool) : Option (Nat × SplineWord) :=
  let classes := [4, 3, 2, 1, 0].filter fun c =>
    decide (classPlane c = plane) && room c && !(x.holders router port c).isEmpty
  (x.grantClass router port classes).bind fun c =>
    (x.holders router port c).head?.bind fun i => (x.head router i c).map fun w => (i, w)

/-- The first word of an input that satisfies a test leaves it. -/
def dropFirst (p : SplineHeld → Bool) : List SplineHeld → List SplineHeld
  | [] => []
  | h :: rest => if p h then rest else h :: dropFirst p rest

/-- A router's output has granted a word: the input's turn passes on, and each other class of the plane that holds a word
for the output has waited through one more grant (R399). -/
def SplineState.granting (x : SplineState) (router input port : Nat) (w : SplineWord) : SplineState :=
  let waits := ([0, 1, 2, 3, 4].filter fun c => decide (classPlane c = classPlane w.cls)).foldl (fun m c =>
    Sparse.set (fun _ => 0) m (outputKey router port c)
      (if c = w.cls.val ∨ (x.holders router port c).isEmpty then 0 else x.waitedOut router port c + 1)) x.passed
  { x with
    passed := waits
    granted := Sparse.set (fun _ => 0) x.granted (outputKey router port w.cls) ((input + 1) % 12)
    words := dropFirst (fun h => decide (h.router = router ∧ h.input = input ∧ h.word = w)) x.words }

/-- The receiver of a link has accepted a word: it leaves the router that held it, and a router that receives it buffers
it (R393, R396). -/
def SplineState.accept (x : SplineState) (d : SplineSend) : SplineState :=
  let x := match d.held with
    | none => x
    | some (q, i) => x.granting q i (if q = d.router then d.rport else splineFar d.rport) d.word
  if d.off then x else { x with words := x.words ++ [⟨d.router, d.rport, d.word⟩] }

/-- The state of a crossing: 0 ready, 1 draining, 2 waiting for the far side, 3 failed (R410). -/
def State.xingState (s : State) (x : Nat) : Nat := s.rd (SPLINE_XING_STAT.state.ix x)
def State.setXingState (s : State) (x v : Nat) : State := s.wr (SPLINE_XING_STAT.state.ix x) v

/-- A link of a router carries words to and from its block: it has one, and the crossing is ready (R407, R408). -/
def State.linkCarries (s : State) (router rport : Nat) : Bool :=
  (crossingOf router rport).any fun x => decide (s.xingState x = 0)

/-- The word that arrives at the receiver of a link: the one that it has asked for once more, or what the block on the link
drives, or what the router that drives the link grants. -/
def State.splineArrives (s : State) (router rport : Nat) (off : Bool) (plane : Nat) (word : SplineWord) :
    Option SplineSend :=
  let x := s.spline
  match x.retry.find? fun d => decide (d.router = router ∧ d.rport = rport ∧ d.off = off ∧ d.plane = plane) with
  | some d => some d
  | none =>
    if rport < 6 then
      if !s.linkCarries router rport then none
      else if off then (x.grant router rport plane fun _ => true).map fun g =>
        ⟨router, rport, true, plane, some (router, g.1), g.2⟩
      else if classPlane word.cls = plane ∧ x.room router rport word.cls then
        some ⟨router, rport, false, plane, none, word⟩
      else none
    else if off then none
    else (splineNeighbour router rport).bind fun q =>
      (x.grant q (splineFar rport) plane fun c => x.room router rport c).map fun g =>
        ⟨router, rport, false, plane, some (q, g.1), g.2⟩

end Sys2Proof.Machine
end

