-- ==== Sys2Proof/Machine/Requests.lean ====
section
/-!
DEFINITION. The requests of hosts at their port (R323 to R327, R332) and at their PC controller (R40, R55 to R65).
-/

namespace Sys2Proof.Machine

/-! ## At the port -/

/-- The DPA that a committed decoder gives a host physical address (R323). -/
def translate (d : Decoder) (hpa : Nat) : Option Nat :=
  if d.base ≤ hpa ∧ hpa < d.base + d.size then
    let off := hpa - d.base
    let chunk := off / d.gran
    if chunk % d.ways = d.pos then some (d.dpaBase + chunk / d.ways * d.gran + off % d.gran) else none
  else none

/-- The decoder of an LD that translates an address, and the DPA (R323). -/
def State.decode (s : State) (port ld hpa : Nat) : Option (Decoder × Nat) :=
  (s.ld (masterOf port ld)).decoders.findSome? fun e =>
    e.2.bind fun d => (translate d hpa).map fun a => (d, a % 2 ^ 44)

/-- The port takes the key attribute for the LD (R332). -/
def State.keyAttr (s : State) (port ld : Nat) : Bool :=
  s.on (PORT_CTL.tsp_en.port port) && decide (2 ≤ s.rd (PORT_LINK_STAT.mode.port port)) &&
  (s.ld (masterOf port ld)).tsp && s.on (PORT_IDE_STAT.cachemem.port port)

/-- CXL.mem requests reach the port: its link is up, the LD is bound (R318), and the port takes flits. -/
def State.carries (s : State) (port ld : Nat) : Bool :=
  s.bound port ld && s.linkOpen port && (s.serving || decide (s.sys.phase = .starting) || s.on BIST_ENG_STAT.offline)

/-- The first row of R325 that refuses a request: its code, past the decoder's row. -/
def State.portRefusal (s : State) (port ld dpa : Nat) : Option Nat :=
  if s.on (PORT_IDE_STAT.insecure.port port) ∨
      ((s.ld (masterOf port ld)).tsp ∧ !s.on (PORT_IDE_STAT.cachemem.port port)) then some 0x0B05
  else if s.keyAttr port ld ∧ aliasKey dpa ≠ 0 then some 0x0B01
  else if !s.openLoc (locOf dpa) then some 0x0B02
  else if !s.allocHolds port ld (quireOf (locOf dpa)) then some 0x0B03
  else none

/-- A request that a port has refused is counted and refused (R325, R326). -/
def State.portRefuse (s : State) (port ld code : Nat) (r : Req) : State :=
  (((s.bump (PORT_REFUSED.count.port port)).bump (PORT_LD_REFUSED.count.ld port ld)).cause (0x10 + port) 3).refuse
    (0x10 + port) code r

/-- A host request as the port makes it, before translation. -/
def State.hostReq (s : State) (port ld tag hpa : Nat) (kind : ReqKind) (data : LineData) (mask : BitVec 64)
    (poison : Bool) : Req :=
  { id := s.nextReq, src := .host port ld tag, master := masterOf port ld, mark := 0, kind := kind, loc := 0, dpa := hpa
    keyId := 0, sel := none, data := data, mask := mask, poison := poison, cache := 0, arrived := s.now
    entered := s.now, cls := 0, promoted := false, queued := false, excused := 0 }

/-- The DPA of a host address, or the address itself where no decoder translates it (R359). -/
def State.dpaOf (s : State) (port ld hpa : Nat) : Nat := ((s.decode port ld hpa).map (·.2)).getD hpa

/-- A host request is judged by its port and goes on to its controller (R325). In Safe State, and while the device is
Offline, the port refuses it with no first-error capture (R518, R548); before Memory Active, and in DECOMMISSIONED, it
refuses it as beyond what is open (R445, R457). -/
def State.hostAccess (s : State) (port ld : Nat) (req : HostReq) (r : Req) (cache : Nat) : State :=
  if !s.carries port ld then s
  else if s.safe ∨ s.on BIST_ENG_STAT.offline then
    (s.bump (PORT_REFUSED.count.port port)).refuseQuiet { r with dpa := s.dpaOf port ld req.hpa.toNat } else
  let s := { s with nextReq := s.nextReq + 1 }
  if !s.on SYS_START_STAT.mem_active then
    s.portRefuse port ld 0x0B02 { r with dpa := s.dpaOf port ld req.hpa.toNat } else
  let s := s.busy port
  match s.decode port ld req.hpa.toNat with
  | none => s.portRefuse port ld 0x0B04 r
  | some (d, dpa) =>
    let attr := s.keyAttr port ld
    let key := if attr then (req.ckid.map (·.toNat)).getD 0 else aliasKey dpa
    let r := { r with dpa := dpa, loc := lineAddr (locOf dpa), mark := classMark dpa, keyId := key
                      cache := if d.db then cache else 0 }
    match s.portRefusal port ld dpa with
    | some code => s.portRefuse port ld code r
    | none => if s.mbox.sanitizing then s.refuseQuiet r else { s with transit := s.transit ++ [r] }

/-- HOST_READ (R325, R329). -/
def execHostRead (port : PortNo) (ld : LdNo) (req : HostReq) (cache : Fin 3) (s : State) : Result :=
  .next (s.hostAccess port ld req (s.hostReq port ld req.tag req.hpa.toNat .read 0 0 false) cache)

/-- HOST_WRITE (R20, R325, R327). -/
def execHostWrite (port : PortNo) (ld : LdNo) (req : HostReq) (data : LineData) (mask : BitVec 64) (poison : Bool)
    (s : State) : Result :=
  let kind := if mask = BitVec.allOnes 64 then ReqKind.full else ReqKind.part
  .next (s.hostAccess port ld req (s.hostReq port ld req.tag req.hpa.toNat kind data mask poison) 0)

/-! ## At the controller -/

/-- The attachment of the port that a host request comes from (R391). -/
def Req.attachment (r : Req) : Nat × Nat :=
  match r.src with
  | .host p _ _ | .old p _ => (SplineBlock.port p).attachment (some r.dpa)
  | .mgmt => SplineBlock.core.attachment none

/-- An older request is on its way from the same attachment to the same PC: messages of one class from one source to one
destination arrive in the order sent (R398). -/
def State.behindOther (s : State) (pc : Nat) (r : Req) : Bool :=
  (s.transit.takeWhile fun x => decide (x ≠ r)).any fun x =>
    decide ((s.placeOf x.loc).pc = pc ∧ x.attachment = r.attachment)

/-- PC_REQUEST_ARRIVAL (R40, R398): the oldest request of the master on its way to the PC arrives, where none of its source
is before it. It aborts an entry of the domain that has no commit point behind it, and waits outside a domain that
sleeps, which it wakes (R425). -/
def execPcRequestArrival (pc : PcNo) (master : Fin 26) (s : State) : Result :=
  match s.transit.find? fun r => decide ((s.placeOf r.loc).pc = pc.val ∧ r.master = master.val) with
  | none => .next s
  | some r =>
    if s.behindOther pc r then .next s
    else if s.rd (PWR_DOM_STAT.state.ix pc.val) = 0 then .next (({ s with transit := s.transit.erase r } : State).arrive r)
    else if s.rd (PWR_DOM_STAT.state.ix pc.val) = 3 then
      .next (({ s.abortEntry pc with transit := s.transit.erase r } : State).arrive r)
    else .next (s.wakeDomain pc)

/-- WRITE_HOLD_RELEASE (R21, R148). -/
def execWriteHoldRelease (s : State) : Result := .next s.releaseHeld

/-- A request that waits at the input may enter: there is room, and none stands before it (R55). -/
def State.mayEnter (s : State) (pc : Nat) (before : List Req) (r : Req) : Bool :=
  s.hasRoom pc r && !before.any fun x => s.standsBefore pc x r

/-- The first request of the input that may enter. -/
def State.firstInput (s : State) (pc : Nat) : List Req → List Req → Option Req
  | _, [] => none
  | before, r :: rest => if s.mayEnter pc before r then some r else s.firstInput pc (before ++ [r]) rest

/-- INPUT_ADMIT (R55). -/
def execInputAdmit (pc : PcNo) (s : State) : Result :=
  match s.firstInput pc [] (s.pc pc).input with
  | none => .next s
  | some r =>
    let c := s.pc pc
    let s := s.setPc pc { c with input := c.input.erase r }
    if r.kind ≠ .read ∧ s.holdsAny (s.writeQuires r) then .next (s.hold r)
    else if r.kind ≠ .read ∧ s.queueBlocks r then .next (s.waitQueue r)
    else .next (s.enter pc r)

/-! ## Scheduling -/

/-- The class that ranks a request (R57, R58). -/
def Req.rank (r : Req) : Nat := if r.promoted then 7 else r.cls

/-- A bank has a read queued. -/
def State.bankReads (s : State) (pc bank : Nat) : Bool :=
  (s.pc pc).queue.any fun r => decide (r.kind = .read ∧ (s.placeOf r.loc).bank = bank)

/-- A queued request may be served: no older request to its line is queued (R59), and a write may issue now (R63). -/
def State.eligible (s : State) (pc : Nat) (older : List Req) (r : Req) : Bool :=
  !(older.any fun x => decide (lineAddr x.loc = lineAddr r.loc)) &&
  (decide (r.kind = .read) || s.on (PC_QUEUE_STAT.drain.pc pc) || r.promoted ||
    !s.bankReads pc (s.placeOf r.loc).bank)

/-- Whether the first request ranks above the second, which is older: a higher class, or in write drain a write above a
read of equal class (R57, R63). -/
def State.ranksAbove (s : State) (pc : Nat) (r best : Req) : Bool :=
  decide (best.rank < r.rank) ||
  (decide (best.rank = r.rank) && s.on (PC_QUEUE_STAT.drain.pc pc) && decide (r.kind ≠ .read) && decide (best.kind = .read))

/-- The highest-ranked eligible request of a controller's queue that meets a condition (R57). Within a bank it is served
next, whether its row is open or not. -/
def State.bestReq (s : State) (pc : Nat) (ok : Req → Bool) : List Req → List Req → Option Req → Option Req
  | _, [], best => best
  | older, r :: rest, best =>
    let best' := if s.eligible pc older r && ok r then
        (match best with
         | none => some r
         | some b => if s.ranksAbove pc r b then some r else best)
      else best
    s.bestReq pc ok (older ++ [r]) rest best'

/-- The PC takes commands: it is neither in self-refresh nor entering it, and its layer is in use. -/
def State.pcAwake (s : State) (pc : Nat) : Bool :=
  s.pcPresent pc && !s.on (PC_SR_STAT.in_sr.pc pc) && !s.on (PC_SR_STAT.entering.pc pc)

/-- The bank of a request, as its controller keeps it. -/
def State.bankOf (s : State) (pc : Nat) (r : Req) : DramBank := (s.pc pc).bank (s.placeOf r.loc).bank

/-! ## Commands to the DRAM -/

/-- The earliest instant of an activate in a bank, its open row precharged first (R29). -/
def State.activateAt (s : State) (pc bank : Nat) : Nat :=
  let c := s.pc pc
  let b := c.bank bank
  let own := if b.openRow.isSome then max b.actReady (max s.now b.preReady + s.cycles pc 14000) else b.actReady
  let rrd := match c.acts with
    | t :: _ => t + s.cycles pc 2500
    | [] => 0
  let faw := match c.acts[3]? with
    | some t => t + s.cycles pc 12000
    | none => 0
  max (max s.now own) (max rrd faw)

/-- The first instant, no earlier than another, of an issue slot that the layer's throttle does not withhold from a request
(R61): of every 8 slots the first k are withheld from requests of class 6 and below that are not promoted (which ones is
a DESIGN CHOICE, assumption 84). -/
def State.slotAt (s : State) (pc : Nat) (r : Req) (t : Nat) : Nat :=
  let k := s.skip (pc / 4)
  if k = 0 ∨ 7 ≤ r.rank then t else
  let cyc := s.cycle (pc / 4)
  let n := (t * 10 + cyc - 1) / cyc
  if n % 8 < k then ((n + (k - n % 8)) * cyc + 9) / 10 else t

/-- The next command of a request that its bank serves: whether it is an activate, and the first instant at which its
timings are met (R29, R57). -/
def State.nextCommand (s : State) (pc : Nat) (r : Req) : Bool × Nat :=
  let p := s.placeOf r.loc
  let b := (s.pc pc).bank p.bank
  if b.openRow = some p.row then (false, s.slotAt pc r (max s.now b.colReady))
  else (true, s.slotAt pc r (s.activateAt pc p.bank))

/-- The requests that the banks of a controller serve next, in order of age; a bank with a table entry being reloaded
activates nothing (R57, R110). -/
def State.candidates (s : State) (pc : Nat) : List (Req × Bool × Nat) :=
  ((s.pc pc).queue.filter fun r =>
      decide (s.bestReq pc (fun x => decide ((s.placeOf x.loc).bank = (s.placeOf r.loc).bank)) [] (s.pc pc).queue none =
        some r)).filterMap fun r =>
    let n := s.nextCommand pc r
    if n.1 && s.reloads pc (s.placeOf r.loc).bank then none else some (r, n)

/-- The command that a controller issues next, and when: the highest-ranked of those whose timings are met, or the first
whose timings come to be met (R57). -/
def State.nextIssue (s : State) (pc : Nat) : Option (Req × Bool × Nat) :=
  let l := s.candidates pc
  let at_ := max s.now (((l.map (·.2.2)).min?).getD 0)
  (l.filter fun e => decide (e.2.2 ≤ at_)).foldl (fun best e =>
    match best with
    | none => some e
    | some b => if s.ranksAbove pc e.1 b.1 then some e else best) none

/-- ACTIVATE_ISSUE (R57, R72): a row is opened, where the controller's next command is an activate. -/
def execActivateIssue (pc : PcNo) (s : State) : Result :=
  if !s.pcAwake pc then .next s else
  match s.nextIssue pc with
  | some (r, true, t) =>
    let p := s.placeOf r.loc
    .next ((s.advanceTo t).activateRow pc p.bank p.row)
  | _ => .next s

/-- A request leaves the queue for its column command. A younger one to its line takes its place and, where it is higher,
its class (R59). -/
def takePlace (r : Req) (queue : List Req) : List Req :=
  match queue.find? fun x => decide (x.id ≠ r.id ∧ lineAddr x.loc = lineAddr r.loc) with
  | none => queue.filter fun x => decide (x.id ≠ r.id)
  | some y =>
    let y' := { y with cls := max y.cls r.cls, promoted := y.promoted || r.promoted }
    (queue.filter fun x => decide (x.id ≠ y.id)).map fun x => if x.id = r.id then y' else x

/-- COLUMN_COMMAND_ISSUE (R57, R60): where the controller's next command is a column command, the request leaves its bank
queue. -/
def execColumnCommandIssue (pc : PcNo) (s : State) : Result :=
  if !s.pcAwake pc then .next s else
  match s.nextIssue pc with
  | some (r, false, t) =>
    let p := s.placeOf r.loc
    let s := s.advanceTo t
    let c := s.pc pc
    let c := { c with queue := takePlace r c.queue }
    let burst := s.cycles pc 1250
    let b := c.bank p.bank
    let b := { b with
      colReady := s.now + burst
      preReady := if r.kind = .read then b.preReady else max b.preReady (s.now + burst + s.cycles pc 16000)
      afterForced := false }
    let c := c.setBank p.bank b
    let s := s.setPc pc (if r.kind = .read then { c with bursts := c.bursts ++ [r] }
      else { c with wbursts := c.wbursts ++ [r] })
    let waited := (s.now - r.entered) / psNs
    let s := (s.longest (PC_AGE_MAX.ns.pc pc) waited).heatCount (pc / 4) 0 1 0
    let s := if r.kind = .read then s.charge (pairOf r.master r.mark) 1 else s
    let bound := s.rd (PC_SCHED_CTL.age_limit.pc pc) * 125 + (if s.onHo (pc / 4) then 1500 else 1000)
    if bound < (s.now - r.entered - r.excused) / psNs then
      .next (s.errReq (0x40 + pc) 0x0102 r.dpa r.kind.access r.master)
    else .next s
  | _ => .next s

/-- READ_BURST_COMPLETE (R92): the oldest outstanding read burst of the PC returns. -/
def execReadBurstComplete (pc : PcNo) (errs : List SymErr) (tag : TagFaults) (decAgree cryptoAgree : Bool) (s : State) :
    Result :=
  match (s.pc pc).bursts with
  | [] => .next s
  | r :: rest =>
    let s := s.setPc pc { s.pc pc with bursts := rest, idleSince := s.now }
    .next (s.finishRead r { LineFaults.none with
      errs := errs, tagErrs := tag.errs, sramOk := tag.sramOk, decAgree := decAgree, cryptoAgree := cryptoAgree })

/-- WRITE_BURST_ISSUE (R63, R95, R97, R196): the oldest write whose column command has issued reaches the array, behind the
reads of its line that came before it (R59). -/
def execWriteBurstIssue (pc : PcNo) (errs : List SymErr) (tag : TagFaults) (agree : ReadAgree) (encFails cryptoFails : Fin 3)
    (s : State) : Result :=
  match (s.pc pc).wbursts with
  | [] => .next s
  | r :: rest =>
    if (s.pc pc).bursts.any fun x => decide (lineAddr x.loc = lineAddr r.loc) then .next s else
    let s := s.setPc pc { s.pc pc with wbursts := rest, idleSince := s.now }
    let faults : LineFaults := {
      errs := errs, tagErrs := tag.errs, sramOk := tag.sramOk, decAgree := agree.dec, cryptoAgree := agree.crypto
      encFails := encFails, cryptoFails := cryptoFails }
    .next ((s.finishWrite r faults).fixDrain pc)

/-- AGE_PROMOTION (R58): the oldest request not yet promoted reaches the age limit. -/
def execAgePromotion (pc : PcNo) (s : State) : Result :=
  let c := s.pc pc
  match c.queue.find? fun r => !r.promoted with
  | none => .next s
  | some r =>
    let s := s.advanceTo (r.entered + s.rd (PC_SCHED_CTL.age_limit.pc pc) * 125 * psNs)
    let c := s.pc pc
    let s := s.setPc pc { c with queue := c.queue.map fun x => if x.id = r.id then { x with promoted := true } else x }
    .next (s.bump (PC_AGE_PROMO.count.pc pc))

end Sys2Proof.Machine
end

