-- ==== Sys2Proof/Machine/Refresh.lean ====
section
/-!
DEFINITION. Refresh, targeted refresh and self-refresh of the pseudo-channels (R66 to R83).
-/

namespace Sys2Proof.Machine

/-! ## Refresh windows -/

/-- A layer takes a refresh window in all four of its PC pages (R87). -/
def State.setWindow (s : State) (layer w : Nat) : State :=
  if s.window layer = w || s.layerAbsent (0x40 + layer * 4) then s else
  (s.forAll (List.range 4) fun s i =>
    (s.wr (PC_REF_STAT.window.pc (layer * 4 + i)) w).cause (0x40 + layer * 4 + i) 2).fixGauge

/-- The strongest window that any of the layer's four PC pages forces (R71), and the one of a run of suspect layers
(R497). -/
def State.forced (s : State) (layer : Nat) : Nat :=
  if s.inRun layer then 2 else
  ((List.range 4).map fun i =>
    let f := s.rd (PC_REF_CTL.window_force.pc (layer * 4 + i))
    if f = 3 then 0 else f).foldl max 0

/-- A window that must be shortened is shortened at once (R70, R71). -/
def State.shortenWindow (s : State) (layer : Nat) : State :=
  let t := s.layerTemp layer
  let need := if 93 * 8 ≤ t then 2 else if 83 * 8 ≤ t then 1 else 0
  s.setWindow layer (max (s.window layer) (max need (s.forced layer)))

/-- The window that the qualifying spans allow: 8 ms at most 90 °C leads from 8 ms to 16 ms, 16 ms at most 80 °C to 32 ms
(R70, R71). -/
def State.lengthened (s : State) (layer : Nat) : Nat :=
  let l := s.layer layer
  let held (since : Option Nat) (ms : Nat) : Bool := match since with
    | some t => decide (t + ms * psMs ≤ s.now)
    | none => false
  let w := s.window layer
  let w := if w = 2 ∧ held l.below90 8 then 1 else w
  if w = 1 ∧ held l.below80 16 then 0 else w

/-- WINDOW_LENGTHEN (R71): the span that qualifies next ends. A layer in self-refresh does not lengthen its window until it
exits (R83). -/
def execWindowLengthen (layer : LayerNo) (s : State) : Result :=
  let l := s.layer layer
  let due := if s.window layer = 2 then l.below90.map (· + 8 * psMs) else l.below80.map (· + 16 * psMs)
  match due with
  | none => .next s
  | some t =>
    let s := s.advanceTo t
    if s.layerSr layer then .next s else .next (s.setWindow layer (max (s.lengthened layer) (s.forced layer)))

/-! ## Per-bank refresh -/

/-- REFRESH_DUE (R66, R67): the bank's balance rises; past postpone_max a refresh is forced, and past one interval more
FE_CODE 0x0101 is logged, unless the catch-up of R67 runs. -/
def execRefreshDue (pc : PcNo) (bank : BankNo) (s : State) : Result :=
  if !s.pcPresent pc || s.on (PC_SR_STAT.in_sr.pc pc) then .next s else
  let s := s.advanceTo ((s.pc pc).bank bank).dueAt
  let c := s.pc pc
  let b := c.bank bank
  let lim : Int := s.rd (PC_REF_CTL.postpone_max.pc pc)
  let bal := b.balance + 1
  let s := s.setPc pc (c.setBank bank { b with
    balance := bal, dueAt := b.dueAt + s.trefi pc, forced := if lim < bal then b.forced + 1 else b.forced })
  if lim + 1 < bal ∧ !b.catchUp then .next (s.err (0x40 + pc) 0x0101 bank) else .next s

/-- The instant at which a refresh may issue in a bank: at a column-command boundary, with an open row past tRAS and tWR,
and with none past the refresh before it (R29, R68). -/
def State.refreshAt (s : State) (b : DramBank) : Nat :=
  max s.now (max b.colReady (if b.openRow.isSome then b.preReady else b.actReady))

/-- The bank is held by a forced refresh: with a row open it is closed and reopened after tRP + tRFCpb, which the sampler
takes as an activation, else the next activate waits for tRFCpb (R68, R72). -/
def State.holdBank (s : State) (pc bank : Nat) (b : DramBank) : State :=
  let c := s.pc pc
  match b.openRow with
  | some row =>
    let t := s.now + s.refHold pc
    (s.setPc pc (c.setBank bank { b with
      colReady := t, preReady := t + s.cycles pc 29000, actReady := t + s.cycles pc 43000 })).sampleAt pc bank row t
  | none => s.setPc pc (c.setBank bank { b with actReady := max b.actReady (s.now + s.cycles pc 160000) })

/-- The catch-up of R67 delays the requests of a bank, and the bound of R60 does not cover it. -/
def State.excuseBank (s : State) (pc bank ps : Nat) : State :=
  let c := s.pc pc
  s.setPc pc { c with queue := c.queue.map fun r =>
    if (s.placeOf r.loc).bank = bank then { r with excused := r.excused + ps } else r }

/-- FORCED_REFRESH_ISSUE (R68). -/
def execForcedRefreshIssue (pc : PcNo) (bank : BankNo) (s : State) : Result :=
  let b := (s.pc pc).bank bank
  if b.forced = 0 ∨ s.on (PC_SR_STAT.in_sr.pc pc) then .next s else
  let s := s.advanceTo (s.refreshAt b)
  let s := s.holdBank pc bank { b with
    balance := b.balance - 1, forced := b.forced - 1, afterForced := true
    rowPtr := (b.rowPtr + 4) % 32768, catchUp := b.catchUp && decide (b.forced ≠ 1) }
  let s := if b.catchUp then s.excuseBank pc bank (s.refHold pc) else s
  .next (((s.bump (PC_REF_FORCED.count.pc pc)).refreshed pc 1).cause (0x40 + pc) 1)

/-- No request of the bank is queued (R67). -/
def State.bankIdle (s : State) (pc bank : Nat) : Bool := decide (s.bankQueue pc bank = [])

/-- No request of the bank waits at the input (R67). -/
def State.inputIdle (s : State) (pc bank : Nat) : Bool :=
  !(s.pc pc).input.any fun r => decide ((s.placeOf r.loc).bank = bank)

/-- REFRESH_ISSUE (R67): a refresh that is owed, or an early one, while the bank is idle. -/
def execRefreshIssue (pc : PcNo) (bank : BankNo) (s : State) : Result :=
  let b := (s.pc pc).bank bank
  if s.on (PC_SR_STAT.in_sr.pc pc) || !s.pcPresent pc || !s.bankIdle pc bank then .next s
  else if b.balance ≤ 0 ∧ (b.balance < -7 ∨ !s.inputIdle pc bank) then .next s
  else
    let start := if b.openRow.isSome then max s.now b.preReady + s.cycles pc 14000 else max s.now b.actReady
    let s := s.setPc pc ((s.pc pc).setBank bank { b with
      balance := b.balance - 1, openRow := none, forced := b.forced - 1, rowPtr := (b.rowPtr + 4) % 32768
      catchUp := b.catchUp && decide (1 < b.forced)
      actReady := max b.actReady (start + s.cycles pc 160000) })
    .next (s.refreshed pc 1)

/-- The physical bank and row that serve a row of a bank: its tip-in row, counted on from 32,768, or the row itself; in the
spare bank, numbered 32, where that serves it (R73, R108, R113). -/
def State.physicalRow (s : State) (pc bank row : Nat) : Nat × Nat :=
  if s.rowCopied pc bank row then (32, row) else
  let spare := decide (s.rd (PC_REPAIR_STAT.spare_state.pc pc) = 2 ∧ s.rd (PC_REPAIR_STAT.retired_bank.pc pc) = bank)
  (if spare then 32 else bank, match s.slotOfRow pc bank row with
    | some i => 32768 + i
    | none => row)

/-- The four physical neighbours of a row; a row at the edge of its field has fewer (R73). That the tip-in rows stand apart
from the others is the model's choice (DESIGN CHOICE, assumption 81). -/
def neighbours (row : Nat) : List Nat :=
  let base := row / 32768 * 32768
  let stop := if row < 32768 then 32768 else 32800
  [row - 2, row - 1, row + 1, row + 2].zip [decide (base + 2 ≤ row), decide (base + 1 ≤ row), decide (row + 1 < stop),
    decide (row + 2 < stop)] |>.filterMap fun e => if e.2 then some e.1 else none

/-- TARGETED_REFRESH_ISSUE (R73, R74): the oldest waiting targeted refresh of the bank refreshes the neighbours of its row.
The bank's open row is open again afterwards (DESIGN CHOICE, assumption 81). -/
def execTargetedRefreshIssue (pc : PcNo) (bank : BankNo) (s : State) : Result :=
  let b := (s.pc pc).bank bank
  match b.targets with
  | [] => .next s
  | row :: rest =>
    if s.on (PC_SR_STAT.in_sr.pc pc) || (b.afterForced && !s.bankIdle pc bank) then .next s else
    let s := s.advanceTo (s.refreshAt b)
    let t := s.now + s.refHold pc
    let p := s.physicalRow pc bank row
    let c := (s.pc pc).setBank bank { b with targets := rest, colReady := t, actReady := max b.actReady t }
    let s := s.setPc pc { c with victims := (neighbours p.2).map fun n => (p.1, n) }
    let s := ((s.wr (PC_RFM_LAST.bank.pc pc) bank).wr (PC_RFM_LAST.row.pc pc) row).put (PC_RFM_LAST.valid.pc pc)
    .next (((s.bump (PC_RFM_CNT.count.pc pc)).refreshed pc 1).cause (0x40 + pc) 3)

/-- PC_REF_CTL takes its fields (R67, R71): where the limit falls, a bank whose balance is above it catches up. -/
def State.setRefCtl (s : State) (pc limit force : Nat) : State :=
  let lim := min 8 limit
  let falls := decide (lim < s.rd (PC_REF_CTL.postpone_max.pc pc))
  let s := (s.wr (PC_REF_CTL.postpone_max.pc pc) lim).wr (PC_REF_CTL.window_force.pc pc) (if force = 3 then 0 else force)
  let s := s.forAll (List.range 32) fun s i =>
    let b := (s.pc pc).bank i
    if falls ∧ (lim : Int) < b.balance then
      s.setPc pc ((s.pc pc).setBank i { b with forced := (b.balance - lim).toNat, catchUp := true })
    else s
  (s.setWindow (pc / 4) (max (s.lengthened (pc / 4)) (s.forced (pc / 4)))).shortenWindow (pc / 4)

/-- POSTPONE_MAX_WRITE (R67, R71): the word written to PC_REF_CTL. -/
def execPostponeMaxWrite (who : Accessor) (pc : PcNo) (val : Word) (s : State) : Result :=
  .next <| s.command who (0x40 + pc) 0x120 fun s => s.setRefCtl pc (val.toNat % 16) (val.toNat / 2 ^ 16 % 4)

/-! ## Self-refresh -/

/-- The second and third conditions of R77: no entry is held, nothing waits at the input, no engine holds a line. A stroke
of Resync holds lines of every PC, for 16 KiB reach all 64 (R30). -/
def State.pcIdle (s : State) (pc : Nat) : Bool :=
  decide (s.reads pc = 0 ∧ (s.pc pc).writes = 0 ∧ (s.pc pc).input = []) && decide (s.dove.strokes = [])

/-- Entry begins (R77, R78): never while the layer's sensors are suspect. -/
def State.beginSr (s : State) (pc : Nat) : State :=
  if !s.pcAwake pc || !s.pcIdle pc || (s.heat (pc / 4)).suspect then s else s.startEntry pc

/-- SR_IDLE_EXPIRY (R77). -/
def execSrIdleExpiry (pc : PcNo) (s : State) : Result :=
  if !s.on (PC_SR_CTL.sr_en.pc pc) || !s.pcIdle pc then .next s else
  .next ((s.advanceTo ((s.pc pc).idleSince + s.rd (PC_SR_CTL.sr_idle_us.pc pc) * psUs)).beginSr pc)

/-- SR_NOW (R77). -/
def execSrNow (who : Accessor) (pc : PcNo) (s : State) : Result :=
  .next <| s.command who (0x40 + pc) 0x140 fun s => s.beginSr pc

/-- SRE_ISSUE (R78). -/
def execSreIssue (pc : PcNo) (s : State) : Result :=
  if !s.on (PC_SR_STAT.entering.pc pc) then .next s else .next (s.issueSre pc)

/-- A PC that does not serve its queue enters self-refresh with the idle condition waived (R85, R416). -/
def State.forceSr (s : State) (pc : Nat) : State :=
  if s.pcPresent pc && !s.on (PC_SR_STAT.in_sr.pc pc) then
    (if s.on (PC_SR_STAT.entering.pc pc) then s else s.startEntry pc).issueSre pc
  else s

/-- SRX_ISSUE (R80): the PC leaves self-refresh for a request. -/
def execSrxIssue (pc : PcNo) (s : State) : Result :=
  if !s.on (PC_SR_STAT.in_sr.pc pc) then .next s else .next (s.exitSr pc)

end Sys2Proof.Machine
end

