-- ==== Sys2Proof/Machine/ChiselOps.lean ====
section
/-!
DEFINITION. Jobs of Chisel: descriptors (R251 to R254), the operations (R255 to R259), keys and poison (R260 to R262) and
completion records (R263 to R265).
-/

namespace Sys2Proof.Machine

/-! ## Descriptors -/

/-- The 128 bytes of a descriptor as one number. -/
def Job.bits (j : Job) : Nat := j.lo.toNat + j.hi.toNat * 2 ^ 512

/-- A little-endian field of a descriptor: offset and size in bytes (R251). -/
def Job.field (j : Job) (off n : Nat) : Nat := j.bits / 2 ^ (8 * off) % 2 ^ (8 * n)

def Job.opcode (j : Job) : Nat := j.field 0 1
def Job.flag (j : Job) (n : Nat) : Bool := bitOf (j.field 1 1) n
def Job.maskEn (j : Job) : Bool := j.flag 0
def Job.invert (j : Job) : Bool := j.flag 1
def Job.outList (j : Job) : Bool := j.flag 2
def Job.irq (j : Job) : Bool := j.flag 3
def Job.fence (j : Job) : Bool := j.flag 4
def Job.skip (j : Job) : Bool := j.flag 5
/-- The element width in bits. -/
def Job.width (j : Job) : Nat := 8 * 2 ^ (j.field 2 1 % 4)
def Job.signed (j : Job) : Bool := bitOf (j.field 2 1) 2
def Job.mark (j : Job) : Nat := j.field 3 1 % 8
def Job.id (j : Job) : Nat := j.field 4 2
def Job.gen (j : Job) : Nat := j.field 6 1
def Job.keyId (j : Job) : Nat := j.field 7 1
def Job.src (j : Job) : Nat := j.field 0x08 8
def Job.count (j : Job) : Nat := j.field 0x10 8
def Job.mask (j : Job) : Nat := j.field 0x18 8
def Job.aux (j : Job) : Nat := j.field 0x20 8
def Job.auxCount (j : Job) : Nat := j.field 0x28 8
def Job.result (j : Job) : Nat := j.field 0x30 8
def Job.limit (j : Job) : Nat := j.field 0x38 8
def Job.record (j : Job) : Nat := j.field 0x40 8
def Job.conj (j : Job) (k : Nat) : Nat := j.field (0x48 + k) 1
def Job.conjOn (j : Job) (k : Nat) : Bool := bitOf (j.conj k) 7
/-- Constant k, of which only the low width bits are used (R253). -/
def Job.const (j : Job) (k : Nat) : Nat := j.field (0x50 + 8 * k) 8 % 2 ^ j.width
def Job.aggFn (j : Job) : Nat := j.field 0x70 1
def Job.groups (j : Job) : Nat := j.field 0x71 1 + 1
def Job.groupEn (j : Job) : Bool := bitOf (j.field 0x72 1) 0
def Job.cookie (j : Job) : Nat := j.field 0x78 8

/-- Bytes of the primary stream, and of the mask and auxiliary streams that the operation reads; 0 where it reads none
(R255). -/
def Job.srcBytes (j : Job) : Nat := if j.opcode = 0 then 0 else (j.count * j.width + 7) / 8
def Job.maskBytes (j : Job) : Nat := if j.maskEn then (j.count + 7) / 8 else 0
def Job.auxBytes (j : Job) : Nat :=
  match j.opcode with
  | 3 => 8192
  | 4 => j.auxCount * 4
  | 5 => if j.groupEn then j.count else 0
  | _ => 0

/-- The fixed size of the result (R255). -/
def Job.fixedResult (j : Job) : Nat :=
  match j.opcode with
  | 0 => 0
  | 4 => (j.auxCount * j.width / 8 + 63) / 64 * 64
  | 5 => (j.groups * 32 + 63) / 64 * 64
  | 6 => 0
  | _ => if j.outList then 0 else (j.count + 511) / 512 * 64

/-- The form of the descriptor is wrong: status 0x10 (R254). -/
def Job.malformed (j : Job) : Bool :=
  let op := j.opcode
  decide (6 < op) || decide (64 ≤ j.field 1 1) || decide (8 ≤ j.field 2 1) || decide (8 ≤ j.field 3 1) ||
  decide (j.field 0x4C 4 ≠ 0) || decide (16 ≤ j.aggFn) || decide (2 ≤ j.field 0x72 1) || decide (j.field 0x73 5 ≠ 0) ||
  ((List.range 4).any fun k => decide (j.conj k / 8 % 16 ≠ 0) || decide (6 ≤ j.conj k % 8)) ||
  (decide (op = 1) && !(List.range 4).any j.conjOn) ||
  (decide (op = 2) && !(j.conjOn 0 || j.conjOn 2)) ||
  (decide (op = 3) && decide (16 < j.width)) ||
  (j.outList && !decide (op = 1 ∨ op = 2 ∨ op = 3)) ||
  (j.maskEn && decide (op = 4)) || (decide (op = 6) && !j.maskEn) ||
  (decide (op = 5) && decide (j.aggFn = 0)) || (decide (op ≠ 5) && decide (j.aggFn ≠ 0))

/-- A region is aligned to 64 bytes and lies in the space open to hosts. -/
def State.goodRegion (s : State) (addr n : Nat) : Bool :=
  decide (addr % 64 = 0) && decide (addr + n ≤ s.capacity * 2 ^ 20) && decide (addr < s.capacity * 2 ^ 20)

/-- Two regions share a byte. -/
def overlap (a n b m : Nat) : Bool := decide (0 < n ∧ 0 < m ∧ a < b + m ∧ b < a + n)

/-- The base of a ring (R274), its size in entries, and the location of an entry (R247). -/
def State.ringBase (s : State) (r : Nat) : Nat :=
  s.rd (CHISEL_RING_BASE_LO.base.ix r) * 2 ^ 12 + s.rd (CHISEL_RING_BASE_HI.base.ix r) * 2 ^ 32
def State.ringSize (s : State) (r : Nat) : Nat := 2 ^ s.rd (CHISEL_RING_CTL.size_log2.ix r)
def State.ringEntry (s : State) (r i : Nat) : Nat := s.ringBase r + 128 * i

/-- A region is named wrongly: status 0x11 (R254). -/
def State.badRegions (s : State) (j : Job) : Bool :=
  let used (addr n : Nat) : Bool := if n = 0 then decide (addr % 64 ≠ 0) else !s.goodRegion addr n
  let ring := s.ringBase j.ring
  decide (2 ^ 32 < j.count) || (decide (j.opcode ≠ 0) && used j.src j.srcBytes) || (j.maskEn && used j.mask j.maskBytes) ||
  ((decide (j.opcode = 3 ∨ j.opcode = 4) || (decide (j.opcode = 5) && j.groupEn)) && used j.aux j.auxBytes) ||
  (decide (j.opcode ≠ 0) && (!s.goodRegion j.result j.limit || decide (j.limit % 64 ≠ 0) ||
    decide (j.limit < j.fixedResult) || overlap j.result j.limit j.src j.srcBytes ||
    overlap j.result j.limit j.mask j.maskBytes || overlap j.result j.limit j.aux j.auxBytes ||
    overlap j.result j.limit ring (128 * s.ringSize j.ring) || overlap j.result j.limit j.record 64))

/-- The status with which a fetched descriptor is refused (R254). -/
def State.descriptorStatus (s : State) (j : Job) : Option Nat :=
  if j.malformed then some 0x10
  else if s.badRegions j then some 0x11
  else if 15 < j.keyId ∧ !s.keyAttr (j.ring / 4) (j.ring % 4) then some 0x13
  else none

/-! ## Accesses of a job -/

/-- Why key selection refuses an access of a ring's logical device (R201, R260). -/
def State.ringRefusal (s : State) (ring : Nat) (r : Req) : Option Nat :=
  let slot := s.slotFor r.loc r.keyId
  if !(s.key slot).loaded then some 0x0703 else if !s.permitted ring slot then some 0x0704 else none

/-- What a read of a line by Chisel gives. -/
inductive LaneRead where
  | data (d : LineData)
  | poison
  | refused
  deriving DecidableEq, Repr

/-- Chisel reads a line under a KeyID with the rights of a ring's logical device (R250, R260, R261). -/
def State.laneRead (s : State) (ring key mark loc : Nat) : LaneRead × State :=
  let r := { s.engineReq 0x10 .read loc key 0 0 with mark := mark }
  match s.ringRefusal ring r with
  | some code => (.refused, s.refuseKey r code)
  | none =>
    let o := s.engineData r
    match o.1 with
    | .data d => (.data d, o.2)
    | _ => (.poison, o.2)

/-- Chisel writes a line whole (R257, R260). -/
def State.laneWrite (s : State) (ring key mark loc : Nat) (d : LineData) : State :=
  let r := { s.engineReq 0x10 .full loc key d (BitVec.allOnes 64) with mark := mark }
  match s.ringRefusal ring r with
  | some code => s.refuseKey r code
  | none => s.engineWrite r

/-- Lines of a stream in ascending order: each read once; a refusal ends the reading (R244, R260). -/
def State.readStream (s : State) (j : Job) (base : Nat) : Nat → List LaneRead × State
  | 0 => ([], s)
  | n + 1 =>
    let p := s.readStream j base n
    if p.1.any fun x => decide (x = .refused) then p
    else
      let o := p.2.laneRead j.ring j.keyId j.mark (base + 64 * n)
      (p.1 ++ [o.1], o.2)

/-- Whole lines that hold a number of bytes. -/
def linesFor (bytes : Nat) : Nat := (bytes + 63) / 64

/-- Bits of a stream at a bit offset: none where the line that holds them is poisoned. -/
def bitsAt (l : List LaneRead) (off w : Nat) : Option Nat :=
  match l[off / 512]? with
  | some (.data d) => some (d.toNat / 2 ^ (off % 512) % 2 ^ w)
  | _ => none

/-! ## Evaluation -/

/-- Element comparison in the signedness of the job (R253). -/
def Job.value (j : Job) (v : Nat) : Int := if j.signed then toSigned j.width v else (v : Int)

/-- A conjunct holds of an element. -/
def Job.conjunct (j : Job) (k v : Nat) : Bool :=
  let a := j.value v
  let c := j.value (j.const k)
  match j.conj k % 8 with
  | 0 => decide (a = c)
  | 1 => decide (a ≠ c)
  | 2 => decide (a < c)
  | 3 => decide (a ≤ c)
  | 4 => decide (c < a)
  | _ => decide (c ≤ a)

/-- An element lies in the range of two constants. -/
def Job.inRange (j : Job) (k v : Nat) : Bool :=
  decide (j.value (j.const k) ≤ j.value v ∧ j.value v ≤ j.value (j.const (k + 1)))

/-- The streams of a job as read. -/
structure Streams where
  src : List LaneRead
  mask : List LaneRead
  aux : List LaneRead
  deriving DecidableEq, Repr

/-- The predicate of a scan on an element; `none` where the line it needs is poisoned. -/
def Job.predicate (j : Job) (t : Streams) (v : Nat) : Option Bool :=
  match j.opcode with
  | 1 => some ((List.range 4).all fun k => !j.conjOn k || j.conjunct k v)
  | 2 => some ((j.conjOn 0 && j.inRange 0 v) || (j.conjOn 2 && j.inRange 2 v))
  | 3 => (bitsAt t.aux v 1).map fun b => decide (b = 1)
  | _ => some true

/-- What an element gives: `none` where a poisoned line covers it, else its value, whether it is selected, and its group
code. -/
def Job.element (j : Job) (t : Streams) (i : Nat) : Option (Nat × Bool × Nat) :=
  let m := if j.maskEn then bitsAt t.mask i 1 else some 1
  let g := if j.opcode = 5 ∧ j.groupEn then bitsAt t.aux (8 * i) 8 else some 0
  match bitsAt t.src (j.width * i) j.width, m, g with
  | some v, some m, some g =>
    match j.predicate t v with
    | some p => some (v, (if j.opcode ≤ 3 then p != j.invert else true) && decide (m = 1), g)
    | none => none
  | _, _, _ => none

/-- What a job leaves: the values of its result, by width, how many were selected and processed, poisoned lines met and
the flags of R263. -/
structure JobOut where
  values : List Nat
  width : Nat
  selected : Nat
  processed : Nat
  poisoned : Nat
  flags : Nat
  status : Nat
  deriving DecidableEq, Repr

/-- Totals of a group (R258): count, sum, minimum and maximum of its elements. -/
def Job.groupTotals (j : Job) (vals : List Nat) : Nat × Bool :=
  let xs := vals.map j.value
  let sum := xs.foldl (· + ·) 0
  let lo : Int := if j.signed then -(2 ^ (j.width - 1) : Int) else 0
  let hi : Int := if j.signed then 2 ^ (j.width - 1) - 1 else 2 ^ j.width - 1
  let want (n : Nat) (v : Int) : Nat := if bitOf j.aggFn n then ofSigned 64 v else 0
  let ovf := bitOf j.aggFn 1 &&
    (if j.signed then decide (sum < -(2 ^ 63 : Int) ∨ (2 ^ 63 : Int) ≤ sum) else decide ((2 ^ 64 : Int) ≤ sum))
  (want 0 xs.length + want 1 sum * 2 ^ 64 + want 2 (xs.foldl min hi) * 2 ^ 128 + want 3 (xs.foldl max lo) * 2 ^ 192, ovf)

/-- A flag of the record. -/
def flagIf (b : Bool) (n : Nat) : Nat := if b then 2 ^ n else 0

/-- The status of a job that has run to its end (R264). -/
def doneStatus (flags : Nat) : Nat := if flags = 0 then 0x01 else 0x02

/-- The result of a scan, aggregation or compaction over streams as read (R255 to R258, R262). -/
def Job.evaluate (j : Job) (t : Streams) : JobOut :=
  let es := (List.range j.count).map (j.element t)
  let bad := ((t.src ++ t.mask ++ t.aux).filter fun x => decide (x = .poison)).length
  let setBad := decide (j.opcode = 3) && t.aux.any fun x => decide (x = .poison)
  let cut := if j.skip || bad = 0 then j.count else if setBad then 0 else (es.takeWhile Option.isSome).length
  let used := es.take cut
  let ended := !j.skip && decide (bad ≠ 0)
  let sel := (List.range cut).filterMap fun i => (used.getD i none).bind fun e => if e.2.1 then some (i, e.1, e.2.2) else none
  let skipped := j.skip && decide (bad ≠ 0)
  let wide := sel.filter fun e => decide (j.groups ≤ e.2.2)
  let kept := sel.filter fun e => decide (e.2.2 < j.groups)
  let totals := (List.range j.groups).map fun g =>
    j.groupTotals ((kept.filter fun e => decide (e.2.2 = g)).map fun e => e.2.1)
  let fit (w : Nat) : Nat := j.limit * 8 / w
  let chosen := if j.opcode = 5 then kept else sel
  let vals : List Nat × Nat := match j.opcode with
    | 5 => (totals.map (·.1), 256)
    | 6 => ((sel.map fun e => e.2.1).take (fit j.width), j.width)
    | _ => if j.outList then ((sel.map (·.1)).take (fit 32), 32)
      else (used.map fun e => match e with | some x => if x.2.1 then 1 else 0 | none => 0, 1)
  let truncated := (decide (j.opcode = 6) && decide (fit j.width < sel.length)) ||
    (decide (j.opcode ≤ 3) && j.outList && decide (fit 32 < sel.length))
  let flags := flagIf truncated 0 + flagIf (decide (j.opcode = 5) && totals.any (·.2)) 1 + flagIf skipped 3 +
    flagIf (decide (j.opcode = 5) && decide (wide ≠ [])) 4
  { values := vals.1, width := vals.2, selected := chosen.length, processed := cut
    poisoned := if ended then 1 else bad, flags := flags, status := if ended then 0x21 else doneStatus flags }

/-- The elements that a gather reads, one by one in list order (R259, R262). -/
def State.gather (s : State) (j : Job) (aux : List LaneRead) : Nat → Nat → JobOut → JobOut × State
  | _, 0, o => (o, s)
  | k, n + 1, o =>
    let stop (o : JobOut) : JobOut := { o with status := 0x21, poisoned := o.poisoned + 1 }
    let next (o : JobOut) (v : Nat) : JobOut := { o with values := o.values ++ [v], processed := o.processed + 1 }
    match bitsAt aux (32 * k) 32 with
    | none => if j.skip then s.gather j aux (k + 1) n (next { o with flags := o.flags ||| 8 } 0) else (stop o, s)
    | some id =>
      if j.count ≤ id then s.gather j aux (k + 1) n (next { o with flags := o.flags ||| 4 } 0)
      else
        let off := id * j.width
        let p := s.laneRead j.ring j.keyId j.mark (j.src + off / 512 * 64)
        match p.1 with
        | .data d => p.2.gather j aux (k + 1) n (next o (d.toNat / 2 ^ (off % 512) % 2 ^ j.width))
        | .poison =>
          if j.skip then p.2.gather j aux (k + 1) n (next { o with flags := o.flags ||| 8, poisoned := o.poisoned + 1 } 0)
          else (stop o, p.2)
        | .refused => ({ o with status := 0x12 }, p.2)

/-- Values packed into lines, the rest of the last line 0 (R256, R257). -/
def packLines (w : Nat) (vals : List Nat) : List LineData :=
  let per := 512 / w
  (List.range ((vals.length + per - 1) / per)).map fun i =>
    BitVec.ofNat 512 (((vals.drop (per * i)).take per).foldr (fun v acc => acc * 2 ^ w + v % 2 ^ w) 0)

/-- A job that was not run. -/
def JobOut.none (status flags : Nat) : JobOut :=
  { values := [], width := 8, selected := 0, processed := 0, poisoned := 0, flags := flags, status := status }

/-- A job runs over its streams (R244, R255, R260). -/
def State.runJob (s : State) (j : Job) : JobOut × State :=
  match j.early with
  | some st => (JobOut.none st 0, s)
  | none =>
    let src := if j.opcode = 4 then ([], s) else s.readStream j j.src (linesFor j.srcBytes)
    let mask := src.2.readStream j j.mask (linesFor j.maskBytes)
    let aux := mask.2.readStream j j.aux (linesFor j.auxBytes)
    let n := src.1.length + mask.1.length + aux.1.length
    let total := min (aux.2.rd64 CHISEL_BYTES_LO.bytes CHISEL_BYTES_HI.bytes + 64 * n) (2 ^ 64 - 1)
    let s := aux.2.wr64 CHISEL_BYTES_LO.bytes CHISEL_BYTES_HI.bytes total
    if (src.1 ++ mask.1 ++ aux.1).any fun x => decide (x = .refused) then (JobOut.none 0x12 0, s)
    else if j.opcode = 0 then (JobOut.none 0x01 0, s)
    else if j.opcode = 4 then
      let bad := (aux.1.filter fun x => decide (x = .poison)).length
      let o := s.gather j aux.1 0 j.auxCount { JobOut.none 0 0 with width := j.width, selected := j.auxCount }
      let flags := o.1.flags
      ({ o.1 with
          poisoned := if j.skip then o.1.poisoned + bad else o.1.poisoned
          status := if o.1.status = 0 then doneStatus flags else o.1.status }, o.2)
    else (j.evaluate { src := src.1, mask := mask.1, aux := aux.1 }, s)

/-! ## Results and records -/

/-- The result lines of a job are written; one that key selection refuses ends the job with status 0x12 (R260). -/
def State.writeResult (s : State) (j : Job) (o : JobOut) : Nat × Nat × State :=
  (List.range (packLines o.width o.values).length).foldl (fun acc i =>
    let loc := j.result + 64 * i
    let r := { acc.2.2.engineReq 0x10 .full loc j.keyId 0 0 with mark := j.mark }
    if acc.2.1 = 0x12 then acc
    else match acc.2.2.ringRefusal j.ring r with
      | some code => (acc.1, 0x12, acc.2.2.refuseKey r code)
      | none => (acc.1 + 64, acc.2.1, acc.2.2.laneWrite j.ring j.keyId j.mark loc ((packLines o.width o.values).getD i 0)))
    (0, o.status, s)

/-- The completion record of a job (R263). -/
def recordLine (j : Job) (status flags selected processed bytes poisoned startTb endTb : Nat) : LineData :=
  BitVec.ofNat 512 (j.id + j.gen * 2 ^ 16 + status * 2 ^ 24 + flags * 2 ^ 32 + selected * 2 ^ 64 + processed * 2 ^ 128 +
    bytes * 2 ^ 192 + poisoned * 2 ^ 256 + startTb * 2 ^ 320 + endTb * 2 ^ 384 + j.cookie * 2 ^ 448)

/-- The record of a job is written under its ring's KeyID; it is counted, a failed one sets its cause, and the MSI-X
message waits where the job asks for one (R263 to R265). A record that key selection refuses is not written (R201, R260).
-/
def State.writeRecord (s : State) (j : Job) (o : JobOut) (bytes : Nat) (irq : Bool) : State :=
  let line := recordLine j o.status o.flags o.selected o.processed bytes o.poisoned j.startTb s.tbOr0
  let key := (j.cut.map (·.2)).getD (s.rd (CHISEL_RING_CTL.keyid.ix j.ring))
  let refused := s.ringRefusal j.ring { s.engineReq 0x10 .full j.record key line (BitVec.allOnes 64) with mark := j.mark }
  let s := (s.laneWrite j.ring key j.mark j.record line).count CHISEL_POISON_LINES.count o.poisoned
  if refused.isSome then s else
  let s := s.bump (CHISEL_RING_DONE.count.ix j.ring)
  let s := if o.status = 1 ∨ o.status = 2 then s.bump CHISEL_JOBS_DONE.count
    else (s.bump CHISEL_JOBS_FAILED.count).cause 0x1D 1
  if j.irq && irq then { s with chisel := { s.chisel with msix := s.chisel.msix ++ [j.ring] } } else s

/-- An error in the CHISEL page (R275). -/
def State.chiselErr (s : State) (code addr ring : Nat) : State :=
  s.log { page := 0x1D, code := code, addr := addr, access := 5, master := ring, tied := none }

/-- The result region of a job that was cut: its contents are undefined (R246, R269), a free value in every line that the
job may have written. -/
def State.undefineResult (s : State) (j : Job) : State :=
  if j.opcode = 0 then s else
  let n := linesFor (if j.fixedResult = 0 then j.limit else j.fixedResult)
  let d := s.free
  s.drawn.forAll (List.range n) fun s i =>
    s.laneWrite j.ring j.keyId j.mark (j.result + 64 * i) (Config.jobResult d i)

/-- A job leaves the device. -/
def State.dropJob (s : State) (j : Job) : State := { s with chisel := { s.chisel with jobs := s.chisel.jobs.erase j } }

/-- The writes of a job would be held under R21, so that its lanes pause (R261). -/
def State.jobPauses (s : State) (j : Job) : Bool :=
  let n := linesFor (if j.opcode = 0 then 0 else if j.fixedResult = 0 then j.limit else j.fixedResult)
  (j.record :: (List.range n).map fun i => j.result + 64 * i).any fun a =>
    s.holdsAny (s.writeQuires (s.engineReq 0x10 .full a j.keyId 0 0))

/-- Outputs of an aborted job that reach the assembler after its record are discarded and counted; how many there are is
not said (R269). -/
def State.discardLate (s : State) : State :=
  let n := Config.lateOutputs s.free
  if n = 0 then s.drawn else (s.drawn.count CHISEL_LATE.count n).cause 0x1D 3

/-- MSI-X messages of a ring that a port reset drops (R270). -/
def State.dropMsix (s : State) (ring addr n : Nat) : State :=
  if n = 0 then s else ((s.count CHISEL_IRQ_DROPPED.count n).cause 0x1D 5).chiselErr 0x0906 addr ring

/-- The writes of a lane pause (R261). -/
def State.pauseLane (s : State) : State :=
  let s := s.holdEngine 0x10
  { s with chisel := { s.chisel with pauseAt := some (s.chisel.pauseAt.getD s.now) } }

/-- The writes of the lane go on; the longest pause is kept (R273). -/
def State.resumeLane (s : State) : State :=
  match s.chisel.pauseAt with
  | none => s
  | some t =>
    ({ s with chisel := { s.chisel with pauseAt := none } } : State).wr CHISEL_HOLD_NS.ns
      (max (s.rd CHISEL_HOLD_NS.ns) (min ((s.now - t) / psNs) (2 ^ 32 - 1)))

/-- An abort of a job takes effect: it writes its record with status 0x20, and whatever it had written is undefined (R267,
R269). -/
def State.cutJob (s : State) (j : Job) (portReset : Bool) : State :=
  let ran := decide (j.started ∧ j.early = none)
  let s := if ran then s.undefineResult j else s
  let s := s.dropJob j
  let s := s.writeRecord j (JobOut.none 0x20 (flagIf portReset 5)) 0 (!portReset)
  let s := if ran then s.discardLate else s
  s.dropMsix j.ring j.dpa (if portReset && j.irq then 1 else 0)

/-- A job is aborted: at once, or as soon as R21 no longer holds its writes (R261, R267). -/
def State.abortJob (s : State) (j : Job) (portReset : Bool) : State :=
  if j.cut.isSome then s
  else if s.jobPauses j then
    let j' := { j with cut := some (portReset, s.rd (CHISEL_RING_CTL.keyid.ix j.ring)) }
    ({ s with chisel := { s.chisel with jobs := s.chisel.jobs.map fun x => if x = j then j' else x } } : State).pauseLane
  else s.cutJob j portReset

/-- Every job of a ring. -/
def State.ringJobs (s : State) (r : Nat) : List Job := s.chisel.jobs.filter fun j => decide (j.ring = r)

/-- Every job of a ring is aborted. -/
def State.abortRing (s : State) (r : Nat) (portReset : Bool) : State :=
  s.forAll (s.ringJobs r) fun s j => s.abortJob j portReset

/-- A ring's registers return to their reset values (R270). -/
def State.resetRing (s : State) (r : Nat) : State :=
  let s := ((s.wr (CHISEL_RING_BASE_LO.base.ix r) 0).wr (CHISEL_RING_BASE_HI.base.ix r) 0).clr (CHISEL_RING_CTL.enable.ix r)
  let s := ((s.wr (CHISEL_RING_CTL.size_log2.ix r) 4).wr (CHISEL_RING_CTL.keyid.ix r) 0).wr (CHISEL_RING_CTL.msix_vec.ix r) 0
  let s := ((s.wr (CHISEL_RING_TAIL.tail.ix r) 0).wr (CHISEL_RING_HEAD.head.ix r) 0).clr (CHISEL_RING_STAT.stalled.ix r)
  (s.clr (CHISEL_RING_STAT.abort_nomatch.ix r)).wr (CHISEL_RING_DONE.count.ix r) 0

end Sys2Proof.Machine
end

