-- ==== Sys2Proof/Machine/Chisel.lean ====
section
/-!
DEFINITION. The commands of the CHISEL page and its rings (R248, R249, R254, R263, R265, R267, R274).
-/

namespace Sys2Proof.Machine

/-- A ring exists in the variant (R247). -/
def State.hasRing (s : State) (r : Nat) : Bool := !(decide (s.sys.variant = 2) && decide (8 ≤ r))

/-- A write of a ring's registers: by an admin function or the sideband, or by the function the ring belongs to (R321).
-/
def State.ringCommand (s : State) (who : Accessor) (r off : Nat) (act : State → State) : State :=
  let own := match who with
    | .fn port ld => decide (masterOf port ld = r)
    | .sideband => false
  if !s.hasRing r ∨ s.sys.phase = .off ∨ s.sys.phase = .hold then s
  else if own then (if s.present 0x1D && !s.safe then act s else s)
  else s.command who 0x1D (0x200 + r * 0x20 + off) act

/-- CHISEL_RING_TAIL (R248): the tail is taken modulo the ring size. -/
def execChiselRingTail (who : Accessor) (ring : RingNo) (val : Word) (s : State) : Result :=
  .next <| s.ringCommand who ring 0x0C fun s =>
    s.wr (CHISEL_RING_TAIL.tail.ix ring) (val.toNat % 2 ^ 16 % s.ringSize ring)

/-- A ring stops (R254). -/
def State.stallRing (s : State) (r code addr : Nat) : State :=
  ((s.put (CHISEL_RING_STAT.stalled.ix r)).cause 0x1D 2).chiselErr code addr r

/-- A ring has a descriptor to fetch, and may (R249, R254, R273). -/
def State.ringReady (s : State) (r : Nat) : Bool :=
  s.hasRing r && s.present 0x1D && s.serving && !s.safe && s.on CHISEL_CTL.chisel_en &&
  s.on (CHISEL_RING_CTL.enable.ix r) &&
  !s.on (CHISEL_RING_STAT.stalled.ix r) &&
  decide (s.rd (CHISEL_RING_HEAD.head.ix r) ≠ s.rd (CHISEL_RING_TAIL.tail.ix r)) &&
  decide ((s.ringJobs r).length < 4) && decide (s.chisel.jobs.length < 16)

/-- A ring fetches in its turn: no other that is ready comes between the ring served last and it (R249). -/
def State.mayFetch (s : State) (r : Nat) : Bool :=
  s.ringReady r && (((List.range 16).map fun k => (s.chisel.lastRing + 1 + k) % 16).takeWhile (decide <| · ≠ r)).all fun k =>
    !s.ringReady k

/-- The record of a job would be held under R21. -/
def State.recordPauses (s : State) (j : Job) : Bool :=
  s.holdsAny (s.writeQuires (s.engineReq 0x10 .full j.record (s.rd (CHISEL_RING_CTL.keyid.ix j.ring)) 0 0))

/-- The next descriptor of a ring is fetched and checked (R254); one whose record is due at once, and would be held under
R21, is fetched once it can be written (R261). -/
def State.fetchDescriptor (was : State) (ring : Nat) : State :=
  let s := was
  let head := s.rd (CHISEL_RING_HEAD.head.ix ring)
  let dpa := s.ringEntry ring head
  let key := s.rd (CHISEL_RING_CTL.keyid.ix ring)
  let a := s.laneRead ring key 0 dpa
  let b := a.2.laneRead ring key 0 (dpa + 64)
  let s := b.2.wr (CHISEL_RING_HEAD.head.ix ring) ((head + 1) % s.ringSize ring)
  match a.1, b.1 with
  | .data lo, .data hi =>
    let j : Job := { ring := ring, dpa := dpa, lo := lo, hi := hi, started := false, startTb := s.tbOr0, early := none, cut := none }
    if !s.goodRegion j.record 64 then s.stallRing ring 0x0903 dpa
    else match s.descriptorStatus j with
      | some st =>
        if s.recordPauses j then was.holdEngine 0x10
        else (s.writeRecord j (JobOut.none st 0) 0 true).chiselErr 0x0901 dpa ring
      | none =>
        if j.count = 0 then
          if s.recordPauses j then was.holdEngine 0x10 else s.writeRecord j (JobOut.none 0x01 0) 0 true
        else { s with chisel := { s.chisel with jobs := s.chisel.jobs ++ [j] } }
  | _, _ => s.stallRing ring 0x0902 dpa

/-- DESCRIPTOR_FETCH (R249, R254). -/
def execDescriptorFetch (ring : RingNo) (s : State) : Result :=
  if s.mayFetch ring then
    let t := s.fetchDescriptor ring
    .next (s.coherent { t with chisel := { t.chisel with lastRing := ring } })
  else .next s

/-- A fenced job waits for every earlier job of its ring (R249). -/
def State.fenceHolds (s : State) (j : Job) : Bool :=
  j.fence && decide ((s.ringJobs j.ring).head? ≠ some j)

/-- JOB_START (R249, R260): the KeyID's slot and the right to it are checked at start. -/
def execJobStart (ring : RingNo) (s : State) : Result :=
  match (s.ringJobs ring).find? fun j => !j.started && j.cut.isNone with
  | none => .next s
  | some j =>
    if s.fenceHolds j then .next s else
    let slot := s.slotFor (locOf j.src) j.keyId
    let r := { s.engineReq 0x10 .read j.src j.keyId 0 0 with mark := j.mark }
    let code := if !(s.key slot).loaded then some 0x0703 else if !s.permitted ring slot then some 0x0704 else none
    let j' := { j with started := true, startTb := s.tbOr0, early := code.map fun _ => 0x12 }
    let s := { s with chisel := { s.chisel with jobs := s.chisel.jobs.map fun x => if x = j then j' else x } }
    match code with
    | some c => .next (s.refuseKey r c)
    | none => .next s

/-- A job ends: its results and its record are written, or its record alone where the lane copies disagreed (R246, R263 to
R265). -/
def State.finishJob (s : State) (j : Job) (agree : Bool) (lane : Nat) : State :=
  if !agree then
    let s := (s.undefineResult j).dropJob j
    ((s.writeRecord j (JobOut.none 0x30 0) 0 true).cause 0x1D 4).chiselErr 0x0905 lane j.ring
  else
    let o := s.runJob j
    let w := o.2.writeResult j o.1
    let s := w.2.2.dropJob j
    let s := s.writeRecord j { o.1 with status := w.2.1 } w.1 true
    if w.2.1 = 0x21 then s.chiselErr 0x0904 j.src j.ring else s

/-- JOB_COMPLETE (R246, R263): the oldest running job of the ring ends; where the lane copies disagree it ends with
status 0x30. A job whose abort waited on the budget ends so (R267). -/
def execJobComplete (ring : RingNo) (agree : Bool) (lane : PcNo) (s : State) : Result :=
  match (s.ringJobs ring).find? fun j => j.started || j.cut.isSome with
  | none => .next s
  | some j =>
    if s.jobPauses j then .next s.pauseLane
    else match j.cut with
      | some c => .next (s.coherent (s.resumeLane.cutJob j c.1))
      | none => .next (s.coherent (s.resumeLane.finishJob j agree lane))

/-- MSIX_SEND (R265): the oldest message that waits. -/
def execMsixSend (s : State) : Result :=
  match s.chisel.msix with
  | [] => .next s
  | r :: rest =>
    .next (({ s with chisel := { s.chisel with msix := rest } } : State).send (r / 4)
      (.msix (r / 4) (r % 4) (s.rd (CHISEL_RING_CTL.msix_vec.ix r))))

/-- CHISEL_RING_ABORT (R267, R268): where the job's own outcome comes first, its record carries that. -/
def execChiselRingAbort (who : Accessor) (ring : RingNo) (val : Word) (completionFirst : Grant) (s : State) : Result :=
  .next <| s.ringCommand who ring 0x18 fun s =>
    let v := val.toNat
    if !bitOf v 24 then s
    else
      let hit := (s.ringJobs ring).filter fun j =>
        bitOf v 25 || (decide (j.id = v % 2 ^ 16) && decide (j.gen = v / 2 ^ 16 % 256))
      if hit = [] then s.put (CHISEL_RING_STAT.abort_nomatch.ix ring)
      else s.forAll hit fun s j =>
        if completionFirst && j.started && j.cut.isNone && !s.jobPauses j then s.finishJob j true 0 else s.abortJob j false

/-- CHISEL_RING_ENABLE (R274): the word written to CHISEL_RING_CTL. A write of 0 to enable aborts every job of the ring
and sets head equal to tail. -/
def execChiselRingEnable (who : Accessor) (ring : RingNo) (val : Word) (s : State) : Result :=
  .next <| s.ringCommand who ring 0x08 fun s =>
    let v := val.toNat
    let s := if s.on (CHISEL_RING_CTL.enable.ix ring) then s else
      (s.wr (CHISEL_RING_CTL.size_log2.ix ring) (clampTo 4 16 (v / 2 ^ 8 % 32))).wr
        (CHISEL_RING_CTL.keyid.ix ring) (v / 2 ^ 16 % 256)
    let s := s.wr (CHISEL_RING_CTL.msix_vec.ix ring) (v / 2 ^ 24 % 32)
    if bitOf v 0 then s.put (CHISEL_RING_CTL.enable.ix ring)
    else
      let s := (s.abortRing ring false).clr (CHISEL_RING_CTL.enable.ix ring)
      (s.wr (CHISEL_RING_HEAD.head.ix ring) (s.rd (CHISEL_RING_TAIL.tail.ix ring))).clr (CHISEL_RING_STAT.stalled.ix ring)

end Sys2Proof.Machine
end

