-- ==== Sys2Proof/Machine/Safe.lean ====
section
/-!
DEFINITION. Safe State (R518 to R521) and the commands of ERR_N (R524 to R527).
-/

namespace Sys2Proof.Machine

/-- A running Checkpoint stops: it writes no Colophon, and its slots in flight are abandoned (R149). -/
def State.stopCheckpoint (s : State) : State :=
  match s.folio.running with
  | none => s
  | some c =>
    if c.kind = 1 ∨ c.kind = 4 then s else
    let s := s.forAll c.flight fun s e => s.setSlot e.2 none
    { s with folio := { s.folio with running := none } }

/-- ERR_N is held low (R525). -/
def State.holdErrN (s : State) : State :=
  let s := if s.on ERRPIN_STAT.driven then s else s.errPulseStart 2
  { ((s.put ERRPIN_STAT.held).wr ERRPIN_STAT.last_source 2) with pin := { s.pin with pulseEnd := none, releaseAsked := false } }

/-- The escalation timer of a page stops, and nothing is pending (R513, R519). -/
def State.stopTimer (s : State) (page : Nat) : State :=
  (s.clr (ESC_STAT.running.on page)).setPage page { s.page page with sev := 0, code := 0 }

/-- The pages of R15 that hold a block. -/
def allPages : List Nat := (List.range 128).filter pageExists

/-- No timer escalates further (R519). -/
def State.stopTimers (s : State) : State :=
  s.forAll (allPages.filter fun p => s.on (ESC_STAT.running.on p)) State.stopTimer

/-- Safe State is entered for a trigger, its page and code (R518). -/
def State.enterSafe (s : State) (page code : Nat) : State :=
  if s.safe then s else
  let s := (((s.put SYS_START_STAT.safe).wr SYS_SAFE_CAUSE.page page).wr SYS_SAFE_CAUSE.code code).stopTimers
  let s := s.wr64 ERRPIN_SAFE_TIME_LO.time ERRPIN_SAFE_TIME_HI.time s.tb
  let s := ((s.err 0x07 0x1202 (page + code * 2 ^ 32)).holdErrN).cause 0x00 2
  let s := s.forAll (List.range 16) fun s r => (s.abortRing r false).clr (CHISEL_RING_CTL.enable.ix r)
  let s := (s.stopCheckpoint.clr SCRUB_STAT.running).flushTags
  let s := if s.persists then
      { s.put ERRPIN_SAFE_STAT.bind_run with
        folio := { s.folio with bindDue := some (1, true) }, sys := { s.sys with bindOwed := true } }
    else s
  (s.put ERRPIN_SAFE_STAT.entered).cause 0x07 3

/-- A page records an error of an Immediate reaction, which enters Safe State (R514, R515). -/
def State.errImmediate (s : State) (page code addr : Nat) : State := (s.err page code addr).enterSafe page code

/-- SAFE (R518): ERRPIN_CMD.safe with its key; the trigger is FE_CODE 0x1209. -/
def execSafe (who : Accessor) (key : BitVec 16) (s : State) : Result :=
  .next <| s.command who 0x07 0x104 fun s =>
    if key = 0x5346 ∧ !s.safe then s.errImmediate 0x07 0x1209 0 else s

/-- ERR_N goes high and stays so for 20 µs (R525). -/
def State.releaseErrN (s : State) : State :=
  { ((s.clr ERRPIN_STAT.driven).clr ERRPIN_STAT.held).emit (.errN false) with
    pin := { s.pin with pulseEnd := none, gapEnd := some (s.now + errGap), releaseAsked := false, highRun := 0 } }

/-- RELEASE (R525): ignored in Safe State; during a pulse it acts at the pulse's end. -/
def execRelease (who : Accessor) (s : State) : Result :=
  .next <| s.command who 0x07 0x104 fun s =>
    if s.safe || !s.on ERRPIN_STAT.driven then s
    else if s.pin.pulseEnd.isSome then { s with pin := { s.pin with releaseAsked := true } }
    else s.releaseErrN

/-- TEST (R524). -/
def execTest (who : Accessor) (s : State) : Result :=
  .next <| s.command who 0x07 0x104 fun s => s.errEvent 5

/-- ERR_N_PULSE_END (R525): the pin is released, or held until a release is written. -/
def execErrNPulseEnd (s : State) : Result :=
  match s.pin.pulseEnd with
  | none => .next s
  | some t =>
    let s := s.advanceTo t
    if s.on ERRPIN_CTL.hold && !s.pin.releaseAsked then
      .next { s.put ERRPIN_STAT.held with pin := { s.pin with pulseEnd := none } }
    else .next s.releaseErrN

/-- ERR_N_GAP_END (R525): the high time ends; events of the gap begin one pulse. -/
def execErrNGapEnd (s : State) : Result :=
  match s.pin.gapEnd with
  | none => .next s
  | some t =>
    let s := s.advanceTo t
    let was := s.pin.gapEvent
    let s := { s with pin := { s.pin with gapEnd := none, gapEvent := false } }
    .next (if was then s.errPulseStart (s.rd ERRPIN_STAT.last_source) else s)

/-- ERR_N_READBACK (R527): three samples in a row that read high while the pin is driven low are a fault; a low level
while it is not driven is another module's pulse. -/
def execErrNReadback (high : Bool) (s : State) : Result :=
  if s.on ERRPIN_STAT.driven then
    let n := if high then s.pin.highRun + 1 else 0
    let s := ({ s with pin := { s.pin with highRun := n } } : State).clr ERRPIN_STAT.ext_low
    .next (if n = 3 then ((s.put ERRPIN_STAT.stuck_high).cause 0x07 5).err 0x07 0x1207 0 else s)
  else .next (s.wrb ERRPIN_STAT.ext_low (!high))

/-- ERRPIN_FF_VALID_CLEAR (R510). -/
def execErrpinFfValidClear (who : Accessor) (s : State) : Result :=
  .next <| s.command who 0x07 0x13C fun s => s.clr ERRPIN_FF_VALID.valid

end Sys2Proof.Machine
end

