-- ==== Sys2Proof/Machine/Scrub.lean ====
section
/-!
DEFINITION. Lane erasure, write-back and the patrol scrub (R96, R100 to R105).
-/

namespace Sys2Proof.Machine

/-- An erasure of a lane of a PC ends (R100). -/
def State.clearErasure (s : State) (pc lane : Nat) : State :=
  let left := (s.erasedLanes pc).filter fun l => decide (l ≠ lane)
  let s := ((s.wr (PC_ECC_STAT.erased.pc pc) left.length).wr (PC_ECC_STAT.lane0.pc pc) (left.headD 0)).wr
    (PC_ECC_STAT.lane1.pc pc) (left.getD 1 0)
  let c := s.pc pc
  let s := s.setPc pc { c with laneEv := c.laneEv.filter (fun e => decide (e.1 ≠ lane)), thirdLogged := [] }
  s.wr ((PC_LANE_CNT.count.pc pc).ix lane) 0

/-- LANE_ERASURE_CLEAR (R100): the word written to PC_ECC_CMD. A write that clears two erasures logs 0x0208 once, with the
first lane (DESIGN CHOICE, assumption 73). -/
def execLaneErasureClear (who : Accessor) (pc : PcNo) (val : Word) (s : State) : Result :=
  .next <| s.command who (0x40 + pc) 0x230 fun s =>
    let clear := val.toNat % 4
    let lanes := s.erasedLanes pc
    if (s.lifeCycle ≠ 1 ∧ s.lifeCycle ≠ 3) ∨ val.toNat / 2 ^ 16 ≠ 0x4552 ∨ clear = 0 ∨
        (bitOf clear 0 ∧ lanes.length < 1) ∨ (bitOf clear 1 ∧ lanes.length < 2) then
      s.put (PC_ECC_STAT.clear_refused.pc pc)
    else
      let gone := (if bitOf clear 0 then [lanes.getD 0 0] else []) ++ (if bitOf clear 1 then [lanes.getD 1 0] else [])
      let s := s.forAll gone fun s l => s.clearErasure pc l
      (s.err (0x40 + pc) 0x0208 (gone.headD 0)).appendRecord

/-- CORRECTED_WRITEBACK (R96): the oldest queued write-back of the PC; one whose line has a write queued is dropped. -/
def execCorrectedWriteback (pc : PcNo) (s : State) : Result :=
  let c := s.pc pc
  match c.wb with
  | [] => .next s
  | (loc, l) :: rest =>
    let s := s.setPc pc { c with wb := rest }
    if (c.writeTo loc).isSome || c.wbursts.any (fun r => decide (lineAddr r.loc = loc)) then .next s
    else .next ((s.writeLine loc l 4 0x11).chargeEng 0x11 1)

/-- Lines of a PC, and lines of a row over its 32 banks (R27). -/
def pcLines : Nat := 32768 * 1024

/-- The place of the scrub pointer: row by row, within a row bank by bank (R102). -/
def scrubPlace (pc pos : Nat) : Place := { pc := pc, bank := pos / 32 % 32, row := pos / 1024, col := pos % 32 }

/-- The lines of a quire that lie in a PC. -/
def State.quireLinesIn (s : State) (pc q : Nat) : List Nat :=
  ((List.range quireLines).map fun i => (q * quireLines + i) * 64).filter fun a => decide ((s.placeOf a).pc = pc)

/-- The place of a line in its PC's pass. -/
def State.scrubIndex (s : State) (loc : Nat) : Nat :=
  let p := s.placeOf loc
  p.row * 1024 + p.bank * 32 + p.col

/-- When the least recently scrubbed line of a PC was scrubbed; lines not scrubbed since the start count from it (R104,
assumption 78). -/
def State.scrubOldest (s : State) (pc : Nat) : Nat :=
  let c := s.pc pc
  if c.scrubbed.length < pcLines then c.scrubFrom else ((c.scrubbed.filterMap (·.2)).min?).getD c.scrubFrom

/-- The age of the least recently scrubbed line of a PC (R104, R118). -/
def State.scrubAge (s : State) (pc : Nat) : Nat := s.now - s.scrubOldest pc

/-- The scrub period in ps. -/
def State.scrubPeriod (s : State) : Nat := s.rd SCRUB_CTL.period_h * psH

/-- The time in which a PC comes to owe a batch of lines, where its pass ends by 0.9 of the period (R102). -/
def State.scrubBatch (s : State) : Nat := s.scrubPeriod * 9 / 10 * (s.rd SCRUB_CTL.batch_kib * 16) / pcLines

/-- The PCs in use. -/
def State.pcsInUse (s : State) : List Nat := (List.range 64).filter s.pcPresent

/-- Passes completed over all PCs. -/
def State.passesDone (s : State) : Nat :=
  match s.pcsInUse.map fun p => (s.pc p).passes with
  | [] => 0
  | n :: l => l.foldl min n

/-- A PC ends its pass (R101, R104). -/
def State.endPass (s : State) (pc : Nat) : State :=
  let was := s.passesDone
  let c := s.pc pc
  let s := s.setPc pc { c with
    scrubPos := 0, scrubBack := [], backDone := 0, passes := c.passes + 1 }
  if was < s.passesDone then ((s.bump SCRUB_PASSES.count).wr SCRUB_SKIPPED.count 0).cause 0x1E 1 else s

/-- What is reported of a PC follows the age of its oldest line down, and SCRUB_STAT follows the PCs (R104, R118). -/
def State.fixScrub (s : State) (pc : Nat) : State :=
  let age := s.scrubAge pc
  let c := s.pc pc
  let n := if s.scrubPeriod < age then 2 else if s.scrubPeriod * 95 / 100 < age then 1 else 0
  if c.scrubLate ≤ n then s else
  let s := s.setPc pc { c with scrubLate := n }
  (s.wrb SCRUB_STAT.behind (s.pcsInUse.any fun p => decide (1 ≤ (s.pc p).scrubLate))).wrb SCRUB_STAT.overdue
    (s.pcsInUse.any fun p => decide (2 ≤ (s.pc p).scrubLate))

/-- The scrub reads a line and counts what it finds (R101). -/
def State.scrubLine (s : State) (pc loc : Nat) (errs : List (Nat × Nat)) (agree : Bool) : State :=
  let v := s.judge loc errs
  let s := (s.chargeEng 0x11 1).wr SCRUB_STAT.pc_last pc
  let s := (s.engineRead loc errs agree 4 0x11).2
  let c := s.pc pc
  let s := (s.setPc pc { c with
    scrubbed := Sparse.set (fun _ => none) c.scrubbed (s.scrubIndex loc) (some s.now) }).fixScrub pc
  if !agree then s
  else if v.outcome = .uncorrectable then s.bump SCRUB_UC.count
  else
    let s := if v.lanes ≠ [] then s.bump SCRUB_CE.count else s
    if v.outcome = .poisoned then s.bump SCRUB_POISON.count else s

/-- The line that the scrub of a PC comes to next: of the pass, or of a quire that the pointer comes back to. -/
def State.scrubNext (s : State) (pc : Nat) : Option Nat :=
  let c := s.pc pc
  if c.scrubPos < pcLines then some (s.locAt (scrubPlace pc c.scrubPos))
  else match c.scrubBack with
    | [] => none
    | q :: _ => (s.quireLinesIn pc q)[c.backDone]?

/-- The scrub waits for its line: a Resync stroke holds it in flight, which counts as a stall on that Kerf, or its bank
waits for an entry of the Tip-in Table (R41, R52, R103, R110). -/
def State.scrubStalls (s : State) (pc : Nat) : Option State :=
  match s.scrubNext pc with
  | none => none
  | some loc =>
    let c := s.pc pc
    if s.spanInFlight (loc / 64) then some (s.setPc pc { c with scrubWaits := some (c.scrubWaits.getD s.now) })
    else if s.reloads pc (s.placeOf loc).bank then some s
    else none

/-- A wait of the scrub is over. -/
def State.scrubGoesOn (s : State) (pc : Nat) : State :=
  match (s.pc pc).scrubWaits with
  | some t => (s.longest (KERF_STALL_MAX.ns.ix 4) ((s.now - t) / psNs)).setPc pc { s.pc pc with scrubWaits := none }
  | none => s

/-- SCRUB_READ (R101 to R103): the PC's next line. A quire lies in every PC; SCRUB_SKIPPED counts it once for each PC that
skips it (DESIGN CHOICE, assumption 72). -/
def execScrubRead (pc : PcNo) (errs : List SymErr) (decAgree : Bool) (s : State) : Result :=
  if !s.on SCRUB_CTL.scrub_en || s.safe || !s.serving || !s.pcPresent pc || s.on (PC_SR_STAT.in_sr.pc pc) then .next s
  else match s.scrubStalls pc with
  | some t => .next t
  | none =>
    let s := (s.scrubGoesOn pc).put SCRUB_STAT.running
    let c := s.pc pc
    if c.scrubPos < pcLines then
      let loc := s.locAt (scrubPlace pc c.scrubPos)
      let q := quireOf loc
      let s := s.setPc pc { c with scrubPos := c.scrubPos + 1 }
      let c := s.pc pc
      let s := if (s.unfinishedBy q).isSome then
          (if q ∈ c.scrubBack then s
           else (s.setPc pc { c with scrubBack := c.scrubBack ++ [q] }).bump SCRUB_SKIPPED.count)
        else if q ∈ c.scrubBack then s
        else s.scrubLine pc loc (symErrs errs) decAgree
      .next (if c.scrubPos = pcLines ∧ (s.pc pc).scrubBack = [] then s.endPass pc else s)
    else match c.scrubBack with
      | [] => .next (s.endPass pc)
      | q :: rest =>
        if (s.unfinishedBy q).isSome then .next s else
        match (s.quireLinesIn pc q)[c.backDone]? with
        | some loc => .next ((s.setPc pc { c with backDone := c.backDone + 1 }).scrubLine pc loc (symErrs errs) decAgree)
        | none =>
          let s := s.setPc pc { c with backDone := 0, scrubBack := rest }
          .next (if rest = [] then s.endPass pc else s)

/-- SCRUB_BATCH_WAKE (R102): the PC leaves self-refresh for a batch. -/
def execScrubBatchWake (pc : PcNo) (s : State) : Result :=
  if !s.on (PC_SR_STAT.in_sr.pc pc) || !s.on SCRUB_CTL.scrub_en || s.safe then .next s
  else
    let s := s.advanceTo ((s.pc pc).sreAt + s.scrubBatch)
    .next (s.wakeForEngine pc (s.locAt (scrubPlace pc (s.pc pc).scrubPos), 4, 0x11))

/-- The oldest line of a PC in use passes a part of the period: it is reported once, until the line is scrubbed (R104,
R119). FE_ADDR holds the PC (assumption 24). -/
def State.scrubLateNow (s : State) (pc level percent : Nat) (flag : Fld) (cause code : Nat) : State :=
  if !s.pcPresent pc || decide (level ≤ (s.pc pc).scrubLate) then s else
  let s := s.advanceTo (s.scrubOldest pc + s.scrubPeriod * percent / 100)
  let s := s.setPc pc { s.pc pc with scrubLate := level }
  ((s.put flag).cause 0x1E cause).err 0x1E code pc

/-- SCRUB_BEHIND (R104). -/
def execScrubBehind (pc : PcNo) (s : State) : Result :=
  .next (s.scrubLateNow pc 1 95 SCRUB_STAT.behind 2 0x0301)

/-- SCRUB_OVERDUE (R104). -/
def execScrubOverdue (pc : PcNo) (s : State) : Result :=
  .next (s.scrubLateNow pc 2 100 SCRUB_STAT.overdue 3 0x0302)

/-- An unused tip-in row that does not read back the cleared form is marked bad (R105, R108). FE_ADDR holds its entry
(assumption 24). -/
def State.slotFails (s : State) (i : Nat) : State :=
  let t := s.tip i
  if t.valid || t.bad then s else
  let s := s.setTip i { t with bad := true, pending := true }
  (((s.bump SCRUB_SELFCHK_FAIL.count).cause 0x1E 4).err 0x1E 0x0304 i).appendRecord

/-- The outcome seen of a test line differs from the one that R105 expects (R92). -/
def State.testFails (s : State) (pc : Nat) (wrong : List (Fin 8 × Outcome92)) : Bool :=
  let mode := s.rd (PC_ECC_CTL.mode.pc pc)
  let erased := s.erasedLanes pc
  (List.range 8).any fun k =>
    decide ((((wrong.find? fun e => decide (e.1.val = k)).map (·.2)).getD (testOutcome mode erased k)) ≠
      (testExpected mode erased).getD k .clean)

/-- SCRUB_SELF_CHECK (R105): the cleared form in every unused tip-in row and every row of a free spare bank, and 8 test
lines in one unused row. What those rows hold is not in State: no DPA reaches them, and every use of one writes it whole
first. FE_ADDR of 0x0305 and 0x0306 holds the PC (assumption 24). -/
def execScrubSelfCheck (pc : PcNo) (badSlots : List (BankNo × Fin 32)) (spareFail : Bool)
    (wrong : List (Fin 8 × Outcome92)) (s : State) : Result :=
  if !s.pcPresent pc || !s.on SCRUB_CTL.scrub_en || s.safe then .next s else
  let unused := (List.range 32).any fun b => decide (s.freeSlots pc b ≠ [])
  let s := s.forAll badSlots fun s e => s.slotFails (tipIndex pc e.1 e.2)
  let s := if spareFail ∧ s.rd (PC_REPAIR_STAT.spare_state.pc pc) = 0 then
      (((s.wr (PC_REPAIR_STAT.spare_state.pc pc) 3).bump SCRUB_SELFCHK_FAIL.count).cause 0x1E 4).err 0x1E 0x0305 pc
        |>.appendRecord
    else s
  if !unused then .next ((s.bump SCRUB_SELFCHK_SKIP.count).err 0x1E 0x0306 pc)
  else if s.testFails pc wrong then
    .next (((s.bump SCRUB_SELFCHK_FAIL.count).cause 0x1E 4).errImmediate 0x1E 0x0303 pc)
  else .next s

end Sys2Proof.Machine
end

