-- ==== Sys2Proof/Machine/Repair.lean ====
section
/-!
DEFINITION. Row repair, the Tip-in record, Migrate and the hold of a recovery (R107 to R113, R116).
-/

namespace Sys2Proof.Machine

/-- The lines of a row as locations, by column. -/
def State.rowLocs (s : State) (pc bank row : Nat) : List Nat :=
  (List.range 32).map fun col => s.locAt { pc := pc, bank := bank, row := row, col := col }

/-- The errors a command gives for a line of a row. -/
def rowErrs (errs : List (Fin 32 × List SymErr)) (i : Nat) : List (Nat × Nat) :=
  (errs.filter fun e => decide (e.1.val = i)).flatMap fun e => symErrs e.2

/-- An engine copies a row: each line through the decoders, written as it carries it on (R107, R113). A line in the
cleared form that reads clean stays so. -/
def State.copyRow (s : State) (pc bank row : Nat) (errs : List (Fin 32 × List SymErr)) (agree : Bool)
    (access master : Nat) : State :=
  let locs := s.rowLocs pc bank row
  let s := ((s.settle fun a => locs.contains a).engineRow (locs.headD 0) access master).chargeEng master 64
  s.forAll (List.range 32) fun s i =>
    let loc := locs.getD i 0
    if s.line loc = StoredLine.cleared ∧ rowErrs errs i = [] ∧ agree then s else
    let r := s.engineRead loc (rowErrs errs i) agree access master
    r.2.writeLine loc r.1 access master

/-- The row of the request in TIPIN_REQ (R111). -/
def State.requestRow (s : State) : Nat × Nat × Nat :=
  let p := s.placeOf (s.rd64 TIPIN_REQ_LO.dpa TIPIN_REQ_HI.dpa)
  (p.pc, p.bank, p.row)

/-- The request that runs is done (R111). -/
def State.requestDone (s : State) (row : Nat × Nat × Nat) : State :=
  if s.repair.request = some row then
    let s : State := { s with repair := { s.repair with request := none } }
    ((s.clr TIPIN_REQ_STAT.busy).put TIPIN_REQ_STAT.done).cause 0x1F 6
  else s

/-- A row is redirected to a free slot; the slot that served it, if any, is marked bad (R107, R108). Which free slot is a
free choice. -/
def State.redirect (s : State) (pc bank row : Nat) (free : List Nat) : State :=
  let slot := free.getD (Config.pick s.free free.length % free.length) 0
  let s := match s.slotOfRow pc bank row with
    | some old => s.setTip (tipIndex pc bank old) { TipEntry.none with bad := true, field := true, pending := true }
    | none => s
  s.drawn.setTip (tipIndex pc bank slot) { valid := true, field := true, bad := false, pending := true, row := row }

/-- A repair is no longer due. -/
def State.notDue (s : State) (t : Nat × Nat × Nat) : State :=
  { s with repair := { s.repair with due := s.repair.due.filter fun x => decide (x ≠ t) } }

/-- ROW_REPAIR (R107, R108): a repair that has been triggered or requested. It waits while an entry of its bank is being
reloaded (R110). The reads of the copy trigger no repair of the row that it moves. -/
def execRowRepair (pc : PcNo) (bank : BankNo) (row : Fin 32768) (faults : RowFaults) (s : State) : Result :=
  let t : Nat × Nat × Nat := (pc.val, bank.val, row.val)
  if !s.repair.due.contains t || s.reloads pc bank then .next s else
  let s := s.notDue t
  if s.rowCopied pc bank row then .next { s with repair := { s.repair with waiting := s.repair.waiting ++ [t] } }
  else
    let free := s.freeSlots pc bank
    let loc := s.locAt { pc := pc, bank := bank, row := row, col := 0 }
    if free = [] then
      let s := ((s.cause 0x1F 5).err 0x1F 0x0401 loc).requestDone t
      .next (if s.rd (PC_REPAIR_STAT.spare_state.pc pc) = 0 then s.retireBank loc else s)
    else
      let s := ((s.copyRow pc bank row faults.errs faults.decAgree 3 0x11).notDue t).redirect pc bank row free
      let c := s.pc pc
      let s := s.setPc pc { c with watch := c.watch.filter fun w => decide (w.bank ≠ bank.val ∨ w.row ≠ row.val) }
      let s := ((s.cause 0x1F 1).cause (0x40 + pc) 9).dramEvent 0x1F 0 pc bank row
      .next (s.appendRecord.requestDone t)

/-- Why the request in TIPIN_REQ is refused (R111, R344). -/
def State.repairRefusal (s : State) : Option Nat :=
  let t := s.requestRow
  if s.fullQuires ≤ quireOf (s.rd64 TIPIN_REQ_LO.dpa TIPIN_REQ_HI.dpa) then some 1
  else if s.freeSlots t.1 t.2.1 = [] then some 2
  else if s.on TIPIN_REQ_STAT.busy then some 3
  else none

/-- The request in TIPIN_REQ is taken or refused (R111). -/
def State.requestRepair (s : State) : State :=
  match s.repairRefusal with
  | some reason => (s.put TIPIN_REQ_STAT.refused).wr TIPIN_REQ_STAT.reason reason
  | none =>
    let t := s.requestRow
    { s.put TIPIN_REQ_STAT.busy with
      repair := { s.repair with due := s.repair.due.filter (· ≠ t) ++ [t], request := some t } }

/-- TIPIN_REQ_REPAIR (R111). -/
def execTipinReqRepair (who : Accessor) (s : State) : Result := .next (s.command who 0x1F 0x120 State.requestRepair)

/-- TIPIN_RECORD_APPEND (R109): an append begins with every change made so far, once the table has been loaded. -/
def execTipinRecordAppend (s : State) : Result :=
  if s.repair.append.isSome || !s.repair.appendAgain || !s.repair.loaded then .next s
  else .next { s with
    repair := { s.repair with append := some s.tipRecordNow, appendAgain := false }
    folio := { s.folio with changed := true } }

/-- TIPIN_RECORD_COMMIT (R109): the append verified, and its changes are no longer pending; or it failed, and is made
again. On the LR128-V4 the record is held only in SRAM. -/
def execTipinRecordCommit (ok : Bool) (s : State) : Result :=
  match s.repair.append with
  | none => .next s
  | some r =>
    if !ok then
      .next (({ s with repair := { s.repair with append := none, appendAgain := true } } : State).err 0x1F 0x0404 0)
    else
      let table := Sparse.mapWith (fun _ => TipEntry.none) s.repair.table fun k e =>
        if e.pending ∧ Sparse.get (fun _ => TipEntry.none) r.entries k = { e with pending := false } then
          { e with pending := false }
        else e
      let s := { s with
        repair := { s.repair with append := none, table := table, sramRecord := some r }
        folio := if s.persistFused then { s.folio with tipRecord := some r, tipPrev := s.folio.tipRecord } else s.folio }
      let s := if s.persistFused then s.appendSys recTipin else s
      let s := s.wr64 TIPIN_RECORD_SEQ_LO.seq TIPIN_RECORD_SEQ_HI.seq r.seq
      .next ((s.wrb TIPIN_RECORD_STAT.pending s.repair.appendAgain).cause 0x1F 7)

/-- TIPIN_TABLE_SWEEP (R110): a corrected entry is rewritten; an entry with an uncorrectable error is reloaded, and
stalls activates in its bank meanwhile. -/
def execTipinTableSweep (_corrected uncorrectable : List (Fin 65536)) (s : State) : Result :=
  .next <| s.forAll uncorrectable fun s e =>
    let l := s.repair.reloading
    let s := { s with repair := { s.repair with reloading := if l.contains e.val then l else l ++ [e.val] } }
    s.err 0x1F 0x0403 e

/-- The source of a table entry (R110, R113): the Tip-in record for a field entry or a bad slot, else the identity word of
the bank, or of the spare bank that serves it. A change that no record holds yet is the one that the next append carries,
and stands (assumption 79). -/
def State.tipSource (s : State) (i : Nat) : TipEntry :=
  let e := s.tip i
  let pc := i / 1024
  let spare := decide (s.rd (PC_REPAIR_STAT.spare_state.pc pc) = 2 ∧ s.rd (PC_REPAIR_STAT.retired_bank.pc pc) = i / 32 % 32)
  let record := if s.persistFused then s.folio.tipRecord else s.repair.sramRecord
  if e.pending then e
  else match record.bind fun r => r.entries.find? fun x => decide (x.1 = i) with
    | some x => x.2
    | none => if spare then Sparse.get (fun _ => TipEntry.none) s.repair.spareFactory (pc * 32 + i % 32)
      else Sparse.get (fun _ => TipEntry.none) s.repair.factory i

/-- TIPIN_ENTRY_RELOADED (R110): the entry is loaded from its source, and activates in its bank go on. -/
def execTipinEntryReloaded (entry : Fin 65536) (s : State) : Result :=
  if !s.repair.reloading.contains entry.val then .next s else
  let s := s.setTip entry (s.tipSource entry)
  .next { s with repair := { s.repair with reloading := s.repair.reloading.filter fun e => decide (e ≠ entry.val) } }

/-- MIGRATE_START (R112): the oldest retirement that waits. -/
def execMigrateStart (s : State) : Result :=
  match s.repair.retire with
  | [] => .next s
  | (pc, bank) :: rest =>
    if s.kerfActive 3 then .next s
    else .next ((({ s with repair := { s.repair with retire := rest } } : State).drop TIPIN_RETIRE_PEND.count 1).startMigrate
      pc bank)

/-- The PC and bank of the Migrate that runs (R52). -/
def State.migrating (s : State) : Nat × Nat :=
  let b := s.rd (KERF_ARG.bank.ix 3)
  (b % 64, b / 64 % 8 * 4 + b / 512)

/-- MIGRATE_ROW (R113). -/
def execMigrateRow (errs : List (Fin 32 × List SymErr)) (decAgree : Bool) (s : State) : Result :=
  if !s.mayStroke 3 || decide (32768 ≤ (s.eng 3).cur) then .next s else
  let (pc, bank) := s.migrating
  let row := (s.eng 3).cur
  let locs := s.rowLocs pc bank row
  if s.reloads pc bank then .next s
  else if locs.any fun a => (s.unfinishedBy (quireOf a)).isSome ∨
      s.dove.strokes.any (fun k => decide (k.quire * 64 + k.piece = a / 16384)) then .next (s.engineWaits 3)
  else
    let s := (s.wr (KERF_STAT.state.ix 3) 2).copyRow pc bank row errs decAgree 5 0x15
    let e := s.eng 3
    .next ((s.setEng 3 { e with cur := e.cur + 1 }).bump (KERF_QDONE.quires.ix 3))

/-- MIGRATE_DONE (R113): the spare bank serves the bank, with its own factory entries. -/
def execMigrateDone (s : State) : Result :=
  if !s.kerfRuns 3 || decide ((s.eng 3).cur < 32768) then .next s else
  let (pc, bank) := s.migrating
  let s := (s.wr (KERF_STAT.state.ix 3) 4).wr (PC_REPAIR_STAT.spare_state.pc pc) 2
  let s := s.forAll (List.range 32) fun s i =>
    s.setTip (tipIndex pc bank i) (Sparse.get (fun _ => TipEntry.none) s.repair.spareFactory (pc * 32 + i))
  let ready := s.repair.waiting.filter fun t => decide (t.1 = pc ∧ t.2.1 = bank)
  let s := { s with repair := { s.repair with
    waiting := s.repair.waiting.filter (fun t => !decide (t.1 = pc ∧ t.2.1 = bank)), due := s.repair.due ++ ready } }
  .next ((((s.cause 0x1F 3).cause 0x1A 4).dramEvent 0x1F 0 pc bank 0).appendRecord)

/-- RECOVERY_WAIT_EXPIRY (R116): the read whose hold ends first, and those whose hold ends with it, return poison; the
recovery continues. -/
def execRecoveryWaitExpiry (loc : Loc) (s : State) : Result :=
  match s.recoveries.find? fun r => decide (r.loc = lineAddr loc.toNat) with
  | none => .next s
  | some r =>
    match (r.waiting.map (·.1)).min? with
    | none => .next s
    | some t =>
      let s := s.advanceTo t
      let over_ (w : Nat × Req) : Bool := decide (w.1 ≤ s.now)
      let s := { s with recoveries := s.recoveries.map fun (x : Recovery) =>
        if x.loc = r.loc then { x with waiting := x.waiting.filter fun w => !over_ w } else x }
      .next (s.forAll (r.waiting.filter over_) fun s q => (s.poisonEvent q.2).answerRead q.2 none)

end Sys2Proof.Machine
end

