-- ==== Sys2Proof/Machine/Kerf.lean ====
section
/-!
DEFINITION. The commands and strokes of the Kerf engines (R39 to R54, R152, R213).
-/

namespace Sys2Proof.Machine

/-- A command in a slot of the KERF page is refused with a reason (R52, R53). -/
def State.kerfRefuse (s : State) (k reason : Nat) : State :=
  ((s.put (KERF_STAT.refused.ix k)).wr (KERF_STAT.refuse_reason.ix k) reason).cause 0x1A 6

/-- A Bind is in progress: none of its commands starts a Kerf (R52). -/
def State.bindBusy (s : State) : Bool := s.bindRuns || s.folio.bindDue.isSome

/-- The range in a slot's registers. -/
def State.kerfRange (s : State) (k : Nat) : Nat × Nat :=
  (s.rd (KERF_START.start_quire.ix k), s.rd (KERF_END.end_quire.ix k))

/-- The slots of a Rekey are distinct and loaded, and the to-slot names the from-slot as its rekey source (R212). -/
def State.rekeySlots (s : State) : Bool :=
  let src := s.rd (KERF_ARG.from_slot.ix 2)
  let dst := s.rd (KERF_ARG.to_slot.ix 2)
  decide (src ≠ dst) && (s.key src).loaded && (s.key dst).loaded && decide ((s.key dst).src = some src)

/-- Why a start of a Kerf by a host is refused, in the order of R52. -/
def State.startRefusal (s : State) (k : Nat) : Option Nat :=
  let r := s.kerfRange k
  if k ≠ 0 ∧ k ≠ 2 then some 0x4
  else if s.bindBusy then some 0x6
  else if s.kerfActive k then some 0x1
  else if k = 0 ∧ s.kerfActive 1 then some 0x7
  else if r.2 ≤ r.1 ∨ s.rd KERF_CAPACITY.quires < r.2 then some 0x2
  else if k = 2 ∧ !s.rekeySlots then some 0x3
  else none

/-- KERF_START (R52). -/
def execKerfStart (who : Accessor) (slot : KerfNo) (s : State) : Result :=
  .next <| s.command who 0x1A (0x200 + slot * 0x40) fun s =>
    match s.startRefusal slot with
    | some reason => s.kerfRefuse slot reason
    | none => s.startKerf slot [s.kerfRange slot] 0

/-- KERF_ABORT (R49, R52): a Resync is Aborted once its strokes in flight are finished. -/
def execKerfAbort (who : Accessor) (slot : KerfNo) (s : State) : Result :=
  .next <| s.command who 0x1A (0x200 + slot * 0x40) fun s =>
    if (slot.val = 2 ∨ slot.val = 4) ∧ s.kerfRuns slot then
      if slot.val = 4 ∧ s.dove.strokes ≠ [] then s.setEng 4 { s.eng 4 with aborting := true }
      else (s.wr (KERF_STAT.state.ix slot) 5).cause 0x1A 8
    else s.kerfRefuse slot 0x5

/-- KERF_RESUME (R52). -/
def execKerfResume (who : Accessor) (slot : KerfNo) (s : State) : Result :=
  .next <| s.command who 0x1A (0x200 + slot * 0x40) fun s =>
    if (slot.val = 2 ∨ slot.val = 4) ∧ s.rd (KERF_STAT.state.ix slot) = 5 then s.wr (KERF_STAT.state.ix slot) 2
    else s.kerfRefuse slot 0x8

/-- The lines of a span that a port tracks (R329). -/
def State.trackedIn (s : State) (lo hi : Nat) : List (Nat × Nat) :=
  (List.range 4).flatMap fun p => (s.port p).filter.filterMap fun e =>
    if lo ≤ e.1 ∧ e.1 < hi ∧ e.2.isSome then some (p, e.1 * 64) else none

/-- CLEAR_STROKE (R39, R42): 16 KiB of the demanded quire, or of the ascending run, take the cleared form. Lines that a
host may hold are called back first (R329). -/
def execClearStroke (s : State) : Result :=
  if !s.mayStroke 0 then .next s else
  let e := s.eng 0
  match e.target with
  | none => .next s
  | some q =>
    let lo := q * quireLines + e.strokesOf q * strokeLines
    let hi := lo + strokeLines
    let held := s.trackedIn lo hi
    if s.spanInFlight lo then .next (s.engineWaits 0)
    else if held ≠ [] then .next (s.forAll held fun s t => s.snoop t.1 t.2 true)
    else
      let s := (s.wr (KERF_STAT.state.ix 0) 2).settle fun a => decide (lo * 64 ≤ a ∧ a < hi * 64)
      let s := ((s.strokeRows lo 5 0x12).clearSpan lo hi).chargeEng 0x12 strokeLines
      let s := s.setEng 0 ((s.eng 0).stroke q)
      let s := if quireStrokes ≤ (s.eng 0).strokesOf q then (s.markCleared q).finishQuire 0 q else s
      .next s.releaseStalled

/-- LIFT_QUIRE (R152, R154): the demanded quire, or the next of the ascending run, is restored; `fails` of the reads of
its slot failed. -/
def execLiftQuire (fails : Fin 3) (s : State) : Result :=
  if !s.mayStroke 1 then .next s else
  match (s.eng 1).target with
  | none => .next s
  | some q => .next ((s.wr (KERF_STAT.state.ix 1) 2).liftQuireNow q fails).releaseStalled

/-- The Rekey engine treats one line, with the faults of its read and its write (R95, R196, R213). -/
def State.rekeyLine (s : State) (loc : Nat) (f : LineFaults) : State :=
  let src := ((s.eng 2).src, s.key (s.eng 2).src)
  let dst := ((s.eng 2).dst, s.key (s.eng 2).dst)
  let u := s.upset loc f
  let fa := u.1
  let o := u.2.engineRead loc (symErrs fa.errs) fa.decAgree 5 0x14
  let s := o.2.dropWb loc
  let lost (s : State) (source : Nat) : State := (s.markDirty (quireOf loc) 0x14).poisonLine loc o.1.data source
  if o.1.isPoisoned then lost s 2
  else if o.1 = StoredLine.cleared then s.setLine loc StoredLine.cleared
  else if !fa.cryptoAgree then lost (s.errReq 0x19 0x0705 loc 5 0x14) 2
  else
    let r := { s.engineReq 0x14 .full loc 0 (decryptLine src loc o.1.data) (BitVec.allOnes 64) with sel := some dst }
    let write (s : State) (fa : LineFaults) : State :=
      (s.forAll (s.writeQuires r) fun s q => s.markDirty q 0x14).storeLine r r.data fa
    if !src.2.integrity then write s fa
    else
      let t := s.fetchTag r fa
      match t.1 with
      | none => t.2
      | some tag =>
        if tagHolds src loc o.1.data tag then write t.2 { fa with sramOk := true }
        else (lost t.2.tagFailed 7).errReq 0x19 0x0701 loc 5 0x14

/-- The quires that a stroke of the Rekey engine may turn Dirty. -/
def State.rekeyQuires (s : State) (q lo : Nat) : List Nat :=
  if (s.key (s.eng 2).dst).integrity then [q, quireOf (s.tagLineOf (lo * 64))] else [q]

/-- The Rekey engine pauses: a slot is not loaded, or a write of its own is held (R45, R52). -/
def State.pauseRekey (s : State) (unloaded : Bool) : State :=
  if s.rd (KERF_STAT.state.ix 2) = 3 then s
  else
    let s := s.wr (KERF_STAT.state.ix 2) 3
    if unloaded then s.err 0x1A 0x0004 0 else s.holdEngine 0x14

/-- REKEY_STROKE (R45, R46, R213): 16 KiB are re-encrypted. -/
def execRekeyStroke (faults : List (Fin 256 × LineFaults)) (rest : LineFaults) (s : State) : Result :=
  if !s.mayStroke 2 then .next s else
  let e := s.eng 2
  match e.target with
  | none => .next s
  | some q =>
    let lo := q * quireLines + e.strokesOf q * strokeLines
    let src := e.src
    let dst := e.dst
    let faultsOf (i : Nat) : LineFaults := ((faults.find? fun e => decide (e.1.val = i)).map (·.2)).getD rest
    let lines := ((List.range strokeLines).map fun i => (lo + i, faultsOf i)).filter fun x =>
      (s.lines.any fun l => decide (l.1 = x.1)) || decide (x.2 ≠ LineFaults.none)
    if !(s.key src).loaded || !(s.key dst).loaded then .next (s.pauseRekey true)
    else if (s.rekeyQuires q lo).any (fun x => (s.unfinishedBy x).isSome) || s.spanInFlight lo then
      .next (s.engineWaits 2)
    else if lines ≠ [] ∧ s.holdsAny (s.rekeyQuires q lo) then .next (s.pauseRekey false)
    else
      let s := (s.wr (KERF_STAT.state.ix 2) 2).settle fun a => decide (lo * 64 ≤ a ∧ a < (lo + strokeLines) * 64)
      let s := (s.strokeRows lo 5 0x14).chargeEng 0x14 (2 * strokeLines)
      let s := s.forAll lines fun s x => s.rekeyLine (x.1 * 64) x.2
      let s := (s.setEng 2 ((s.eng 2).stroke q)).reposition src dst lo (lo + strokeLines)
      let s := if quireStrokes ≤ (s.eng 2).strokesOf q then s.finishQuire 2 q else s
      .next s.releaseStalled

/-- KERF_DONE (R53): the selection of a Clear, Lift, Rekey or Resync is finished. A Clear of the carve-out ends the
change that it carried out (R205). -/
def execKerfDone (slot : KerfNo) (s : State) : Result :=
  if slot.val = 3 ∨ !s.kerfRuns slot ∨ (s.eng slot).todo ≠ [] then .next s else
  let s := (s.wr (KERF_STAT.state.ix slot) 4).cause 0x1A (slot + 1)
  let e := s.eng slot
  .next (if slot.val = 0 ∧ (e.purpose = 2 ∨ e.purpose = 3) then s.clr CRYPT_CARVE_STAT.busy else s)

/-- KERF_LINE_TIMEOUT (R54): an engine did not finish a line within its bound. -/
def execKerfLineTimeout (slot : KerfNo) (loc : Loc) (s : State) : Result :=
  if !s.kerfRuns slot then .next s else
  .next (s.log { page := 0x1A, code := 0x0003, addr := loc.toNat, access := 5, master := 0x12 + slot, tied := none })

end Sys2Proof.Machine
end

