-- ==== Sys2Proof/Machine/Folio.lean ====
section
/-!
DEFINITION. Checkpoints, the health of the persistence layers, key records and the Global Persistent Flush (R133, R138,
R145 to R150, R157 to R162).
-/

namespace Sys2Proof.Machine

/-! ## Ordering a Checkpoint -/

/-- CKPT (R145). -/
def execCkpt (who : Accessor) (s : State) : Result :=
  .next <| s.command who 0x1B 0x104 fun s => if s.persists then s.orderCkpt 1 else s

/-- CKPT_LIMITED (R145). -/
def execCkptLimited (who : Accessor) (s : State) : Result :=
  .next <| s.command who 0x1B 0x104 fun s => if s.persists then s.orderCkpt 0 else s

/-- CKPT_CANCEL (R147): the Checkpoint stops once its slots in flight have read back. -/
def execCkptCancel (who : Accessor) (s : State) : Result :=
  .next <| s.command who 0x1B 0x104 fun s =>
    match s.folio.running with
    | none => s
    | some c =>
      if c.kind ≠ 2 ∧ c.kind ≠ 3 then s
      else if c.flight = [] then s.endCkpt
      else { s with folio := { s.folio with running := some { c with kind := 6, todo := [] } } }

/-- CHECKPOINT_START (R145, R148): an ordered Checkpoint, or the limited one that the level or a held write asks for.
While a persistence layer is hot, Checkpoints that a host ordered wait (R502). -/
def execCheckpointStart (s : State) : Result :=
  if s.folio.running.isSome || s.safe || !s.serving || s.bindBusy then .next s else
  match s.folio.ordered with
  | some k =>
    if s.folio.plimit ∧ k ≠ 2 then .next (if s.wantsLimited then s.startCheckpoint true false else s)
    else .next (s.startCheckpoint (decide (k = 0)) (decide (k = 2)))
  | none => .next (if s.wantsLimited then s.startCheckpoint true false else s)

/-! ## Blocks -/

/-- Persistence becomes Failed: a void Colophon is tried, and persistence is no longer active, so that held writes
complete without coverage (R161). -/
def State.failPersist (s : State) (voidOk : Bool) : State :=
  let s := s.stopCheckpoint
  let s := if voidOk ∧ 1 ≤ s.bsnLeft then s.commitVoid else s
  let s := (({ s with folio := { s.folio with failed := true } } : State).setPersist 3).err 0x1B 0x0505 0
  s.releaseHeld.fixLevel.fixGauge

/-- The healthy stripes have fallen to those of the system area, the reserve and the image in force (R161). -/
def State.stripesFail (s : State) : Bool := decide (s.healthy ≤ 64 + 128 + (s.imageSlots.map (· / 64)).dedup.length)

/-- Persistence becomes Failed or Partial when too few stripes are healthy (R160, R161). Whether the void Colophon of a
failure commits is a free value. FE_ADDR of 0x0504 holds the healthy stripes (DESIGN CHOICE, assumption 24). -/
def State.fixPersist (s : State) : State :=
  if s.persists && s.stripesFail then s.drawn.failPersist (decide (Config.pick s.free 2 % 2 = 0))
  else
    let s := if s.rd FOLIO_STAT.persist = 1 ∧ s.healthy < s.required then
        (s.setPersist 2).err 0x1B 0x0504 s.healthy
      else s
    s.fixBudget

/-- A block is retired (R158). -/
def State.retireBlock (s : State) (b : Nat) : State :=
  if (s.block b).retired then s else
  let s := (s.setBlock b { s.block b with retired := true }).bump FOLIO_RETIRED.count
  ((s.cause 0x1B 8).err 0x1B 0x0503 b).fixPersist

/-- The block may not be erased: it is retired, or its stripe holds a slot of the image in force, a Staged slot or one in
flight, or is open (R139, R158). -/
def State.blockKept (s : State) (b : Nat) : Bool :=
  (s.block b).retired || (match s.stripeOfBlock b with
    | some t => (s.stripesUsed ++ s.stripesBusy).contains t
    | none => false)

/-- BLOCK_ERASE (R139, R157, R158): the block is free for a new stripe, and the stripe that it was part of is no more. -/
def execBlockErase (block : Fin 278528) (ok : Bool) (s : State) : Result :=
  if s.blockKept block then .next s else
  let b := s.block block
  let w := min (b.wear + 1) 0xFFFF
  let s : State := match s.stripeOfBlock block with
    | some t => { s with folio := { s.folio with stripes := Sparse.erase s.folio.stripes t } }
    | none => s
  let s := s.setBlock block { b with wear := w, erased := ok }
  let s := if w = 18000 then s.cause 0x1B 6 else s
  .next (if 20000 ≤ w ∨ !ok then s.retireBlock block else s)

/-! ## Slots and commits -/

/-- A Bind or Checkpoint goes on after a slot: it programs its next quire, unless a cancelled Checkpoint has no slot left
in flight, or a Checkpoint is paused in Hold (R147, R451). -/
def State.goOn (s : State) (c : Commit) : State :=
  if c.kind = 6 ∧ c.flight = [] then s.endCkpt
  else
    let r := s.pump c (if s.serving ∨ c.kind = 1 ∨ c.kind = 4 then 1 else 0)
    { r.1 with folio := { r.1.folio with running := some r.2 } }

/-- SLOT_READ_BACK (R133, R158): the oldest slot in flight. The block of one that fails is retired, and the slot is
programmed again in another stripe. A slot of a quire that R134 keeps Dirty stands until the Bind commits. -/
def execSlotReadBack (bad : Option (Fin 64)) (s : State) : Result :=
  match s.folio.running with
  | none => .next s
  | some c =>
    match c.flight with
    | [] => .next s
    | (q, n) :: rest =>
      match bad with
      | none =>
        if (c.kind = 1 ∨ c.kind = 4) ∧ s.keptDirty q then
          .next { s with folio := { s.folio with running := some { c with flight := rest ++ [(q, n)] } } }
        else .next ((s.readBack q n).goOn { c with flight := rest })
      | some g =>
        let s := s.retireBlock (s.blockOfSlot n g)
        if s.folio.running.isNone then .next s
        else if c.kind = 6 then .next ((s.setSlot n none).goOn { c with flight := rest })
        else
          let r := s.reprogram { c with flight := rest } q n
          .next { r.1 with folio := { r.1.folio with running := some r.2 } }

/-- CHECKPOINT_COMMIT (R138): the commit takes effect where the P0 or the P1 copy reads back good; where neither does,
ckpt_done is not set (DESIGN CHOICE, assumption 76). A paused Checkpoint waits for the end of the Hold (R451). -/
def execCheckpointCommit (p0 p1 : Bool) (s : State) : Result :=
  match s.folio.running with
  | none => .next s
  | some c =>
    if (c.kind ≠ 2 ∧ c.kind ≠ 3) ∨ c.todo ≠ [] ∨ c.flight ≠ [] ∨ !s.serving then .next s else
    if p0 || p1 then .next (((s.commit c p0 p1).bump FOLIO_CKPTS.count).cause 0x1B 1).endCkpt
    else .next (s.err 0x1B 0x0509 0).endCkpt

/-- PERSISTENCE_FAILED (R161). -/
def execPersistenceFailed (voidOk : Bool) (s : State) : Result :=
  .next (if s.persists then s.failPersist voidOk else s)

/-! ## Global Persistent Flush -/

/-- GPF_PHASE1 (R150). -/
def execGpfPhase1 (port : PortNo) (ld : LdNo) (tag : Nat) (s : State) : Result :=
  if !s.carries port ld then .next s
  else .next ((s.bump FOLIO_GPF.count).emit (.gpf port ld tag 1))

/-- The writes that a host has sent and that are not complete under R20. -/
def State.openWrites (s : State) : List Nat :=
  ((s.transit ++ s.folio.held ++ s.stalled.map (·.2) ++ s.dove.waiting.map (·.1) ++ s.pcs.flatMap fun e => e.2.input).filter
    fun r => decide (r.kind ≠ .read)).map (·.id)

/-- GPF_PHASE2 (R150): it completes when every write received before it is complete. -/
def execGpfPhase2 (port : PortNo) (ld : LdNo) (tag : Nat) (s : State) : Result :=
  if !s.carries port ld then .next s else
  let w : GpfWait := { port := port, ld := ld, tag := tag, open_ := s.openWrites }
  .next (if w.open_ = [] then s.gpfDone w else { s with folio := { s.folio with gpf := s.folio.gpf ++ [w] } })

end Sys2Proof.Machine
end

