-- ==== Sys2Proof/Machine/Keys.lean ====
section
/-!
DEFINITION. Key commands and key records (R162, R192, R203, R214 to R222), the carve-out commands (R38, R205) and the
flush of the tag cache (R209).
-/

namespace Sys2Proof.Machine

/-! ## Key records -/

/-- The key tables as they stand. -/
def State.keyTables (s : State) : KeyTables :=
  { keys := s.crypto.keys, rights := s.crypto.rights, ranges := s.crypto.ranges, rekey := s.rd (KERF_STAT.state.ix 2) }

/-- A change to the key table writes a key record; the answers that wait complete with it (R162). -/
def State.writeKeyRecord (s : State) (before : KeyTables) (answers : List (List Nat)) : State :=
  { s with crypto := { s.crypto with commit := match s.crypto.commit with
      | some c => some (c.1, c.2 ++ answers)
      | none => some (before, answers) } }

/-- KEY_RETAIN_CLEAR (R162): key_retain goes from 1 to 0, and an empty key record commits at once. -/
def execKeyRetainClear (who : Accessor) (s : State) : Result :=
  .next <| s.command who 0x1B 0x100 fun s =>
    if s.on FOLIO_CTL.key_retain ∧ !s.on (LOCK.lock.on 0x1B) then
      (s.clr FOLIO_CTL.key_retain).writeKeyRecord s.keyTables []
    else s

/-- The commands whose key record could not be appended fail with status 0x06, and have changed nothing (R216). -/
def State.keyRecordFails (s : State) (before : KeyTables) (answers : List (List Nat)) : State :=
  let c := { s.crypto with
    keys := before.keys, rights := before.rights, ranges := before.ranges, commit := none, retried := false }
  let s := ({ s with crypto := c } : State).wr (KERF_STAT.state.ix 2) before.rekey
  s.forAll answers fun s _ => ((s.wr CRYPT_KEYCMD_LAST.status 0x06).cause 0x19 7).emit (.keyAnswer 0x06 [])

/-- KEY_RECORD_COMMIT (R162, R203, R216): the record holds the loaded slots while key retention is on, and the commands
that waited complete. An append that fails is retried once (R165); where the retry fails too, the commands fail. -/
def execKeyRecordCommit (ok : Bool) (s : State) : Result :=
  match s.crypto.commit with
  | none => .next s
  | some (before, answers) =>
    if !ok then
      if s.crypto.retried then .next (s.keyRecordFails before answers)
      else .next (({ s with crypto := { s.crypto with retried := true } } : State).err 0x1B 0x0508 0)
    else
      let keep := s.on FOLIO_CTL.key_retain
      let keys := Sparse.mapWith (fun _ => KeySlot.empty) s.crypto.keys fun _ k => { k with pending := false }
      let c := { s.crypto with
        commit := none
        retried := false
        keys := keys
        recKeys := if keep then keys.filter (fun e => e.2.loaded) else []
        recRights := if keep then s.crypto.rights else []
        recRanges := if keep then s.crypto.ranges else [] }
      let s := ({ s with crypto := c } : State).appendSys recKey
      let s := { s with folio := { s.folio with keyRecordSeq := s.folio.keyRecordSeq + 1, changed := true } }
      .next (s.forAll answers fun s a => s.emit (.keyAnswer 0 a))

/-! ## Key commands -/

/-- A key command is recorded with its status (R225, R226). -/
def State.keyCmd (s : State) (opcode status : Nat) (session : Session) : State :=
  let s := (s.wr CRYPT_KEYCMD_LAST.opcode opcode).wr CRYPT_KEYCMD_LAST.status status
  let s := (s.wrb CRYPT_KEYCMD_LAST.fm (decide (session = .fm))).bump CRYPT_KEYCMD_CNT.count
  if status = 0 then s else s.cause 0x19 7

/-- A key command fails: it returns its status and changes nothing (R216). -/
def State.keyFail (s : State) (opcode status : Nat) (session : Session) : State :=
  (s.keyCmd opcode status session).emit (.keyAnswer status [])

/-- A key command succeeds. With key retention on, it completes after its key record commits (R162, R203). -/
def State.keyDone (s : State) (opcode : Nat) (session : Session) (before : KeyTables) (payload : List Nat) : State :=
  let s := s.keyCmd opcode 0 session
  if s.on FOLIO_CTL.key_retain ∧ s.persistFused then s.writeKeyRecord before [payload]
  else s.emit (.keyAnswer 0 payload)

/-- A key command is taken within an open session of the authority that it claims, and discarded otherwise (R214). -/
def State.inSession (s : State) (who : Session) (t : State) : Result :=
  .next (if s.sessionOpen who then t else s)

/-- The life cycle forbids key commands: MANUFACTURE or DECOMMISSIONED (R216), or a failed root or seed does (R555). -/
def State.keysForbidden (s : State) : Bool :=
  decide (s.lifeCycle = 0 ∨ s.lifeCycle = 4) || bitOf (s.rd OTP_STAT.region_fail) 3 || bitOf (s.rd OTP_STAT.region_fail) 4

/-- A session has authority over a slot (R214). -/
def State.hasAuthority (s : State) (session : Session) (slot : Nat) : Bool :=
  match session with
  | .fm => true
  | .ld port ld => decide (1 ≤ slot ∧ slot ≤ 255) && s.permitted (masterOf port ld) slot

/-- Only a fabric-manager session has authority over rights and ranges (R214). -/
def Session.isFm : Session → Bool
  | .fm => true
  | .ld _ _ => false

/-- An active Rekey names the slot (R46, R213). -/
def State.rekeyNames (s : State) (slot : Nat) : Bool :=
  s.kerfActive 2 && decide (slot = (s.eng 2).src ∨ slot = (s.eng 2).dst)

/-- Both slots of the Rekey are loaded. -/
def State.rekeyLoaded (s : State) : Bool :=
  (s.key (s.eng 2).src).loaded && (s.key (s.eng 2).dst).loaded

/-- A slot is about to be unloaded. Where a Rekey that runs names it, the engine pauses and logs 0x0004 (R45). -/
def State.unloadPauses (s : State) (slot : Nat) : State :=
  if s.kerfRuns 2 ∧ s.rekeyNames slot ∧ s.rekeyLoaded then (s.wr (KERF_STAT.state.ix 2) 3).err 0x1A 0x0004 0 else s

/-- A slot has been loaded. A Rekey that names it, and whose slots are both loaded again, resumes (R45). -/
def State.loadResumes (s : State) (slot : Nat) : State :=
  if s.rd (KERF_STAT.state.ix 2) = 3 ∧ s.rekeyNames slot ∧ s.rekeyLoaded then s.wr (KERF_STAT.state.ix 2) 2 else s

/-- Flag bits of Load Key (R215). -/
def KeyLoad.flag (l : KeyLoad) (n : Nat) : Bool := l.flags.getLsbD n

/-- The status that refuses a Load Key, in the order of R216. Status 0x05 refuses the replacement of a loaded slot
(R217); a slot of an active Rekey that was unloaded can be loaded again (R45). -/
def State.loadStatus (s : State) (session : Session) (l : KeyLoad) : Option Nat :=
  let integrity := l.flags.getLsbD 0
  let plain := l.flags.getLsbD 1
  let src := l.flags.getLsbD 2
  if s.keysForbidden then some 0x07
  else if 263 < l.slot ∨ (src ∧ 263 < l.src) then some 0x02
  else if !s.hasAuthority session l.slot ∨ (src ∧ !s.hasAuthority session l.src) then some 0x01
  else if 8 ≤ l.flags.toNat ∨ (plain ∧ (l.slot ≠ 0 ∨ integrity ∨ l.k1 ≠ 0 ∨ l.k2 ≠ 0 ∨ l.ki ≠ 0)) ∨
      (integrity ∧ !s.carve) then some 0x04
  else if !plain ∧ l.k1 = l.k2 then some 0x03
  else if (s.key l.slot).loaded ∧ s.rekeyNames l.slot then some 0x05
  else none

/-- The entry that a Load Key gives its slot: every field from the payload (R217). -/
def loadedSlot (l : KeyLoad) (pending : Bool) : KeySlot :=
  { loaded := true, k1 := l.k1, k2 := l.k2, ki := if l.flags.getLsbD 0 then l.ki else 0
    integrity := l.flags.getLsbD 0, plaintext := l.flags.getLsbD 1, gen := l.gen.toNat
    src := if l.flags.getLsbD 2 then some l.src else none, pending := pending, lost := false }

/-- LOAD_KEY (R45, R215 to R217). -/
def execLoadKey (session : Session) (load : KeyLoad) (s : State) : Result :=
  s.inSession session <|
    match s.loadStatus session load with
    | some st => s.keyFail 0xC410 st session
    | none =>
      let wait := s.on FOLIO_CTL.key_retain && s.persistFused
      (((s.setKey load.slot (loadedSlot load wait)).loadResumes load.slot).cause 0x19 3).keyDone 0xC410 session s.keyTables
        [checkValue load.k1]

/-- UNLOAD_KEY (R45, R218). -/
def execUnloadKey (session : Session) (slot : Nat) (s : State) : Result :=
  s.inSession session <|
    if s.keysForbidden then s.keyFail 0xC411 0x07 session
    else if 263 < slot then s.keyFail 0xC411 0x02 session
    else if !s.hasAuthority session slot then s.keyFail 0xC411 0x01 session
    else
      let wait := s.on FOLIO_CTL.key_retain && s.persistFused
      (((s.unloadPauses slot).setKey slot { KeySlot.empty with pending := wait }).cause 0x19 3).keyDone 0xC411 session
        s.keyTables []

/-- SET_RIGHTS (R215). -/
def execSetRights (session : Session) (ld : Nat) (bitmap : BitVec 256) (s : State) : Result :=
  s.inSession session <|
    if s.keysForbidden then s.keyFail 0xC412 0x07 session
    else if 15 < ld then s.keyFail 0xC412 0x02 session
    else if !Session.isFm session then s.keyFail 0xC412 0x01 session
    else (s.setRights ld bitmap).keyDone 0xC412 session s.keyTables []

/-- A Set Range with enable set is refused (R221). -/
def State.rangeRefused (s : State) (index base stop : Nat) : Bool :=
  (s.range index).enabled || decide (stop ≤ base) || decide (s.rd KERF_CAPACITY.quires < stop) ||
  (s.carve && decide (s.carveBase < stop)) ||
  (List.range 8).any fun n => (s.range n).enabled && decide (base < (s.range n).stop ∧ (s.range n).base < stop)

/-- SET_RANGE (R221, R222). -/
def execSetRange (session : Session) (index : Nat) (enable : Bool) (mask : BitVec 16) (base stop : Nat) (s : State) :
    Result :=
  s.inSession session <|
    if s.keysForbidden then s.keyFail 0xC413 0x07 session
    else if 7 < index then s.keyFail 0xC413 0x02 session
    else if !Session.isFm session then s.keyFail 0xC413 0x01 session
    else if !enable then
      (s.setRange index { s.range index with enabled := false }).keyDone 0xC413 session s.keyTables []
    else if s.rangeRefused index base stop then s.keyFail 0xC413 0x08 session
    else
      (s.setRange index { enabled := true, mask := mask, base := base, stop := stop }).keyDone 0xC413 session s.keyTables []

/-- CRYPT_SLOT_STAT of a slot (R225). -/
def State.slotStat (s : State) (slot : Nat) : Nat :=
  let k := s.key slot
  let b (x : Bool) (n : Nat) : Nat := if x then 2 ^ n else 0
  let active := s.kerfActive 2
  b k.loaded 0 + b k.plaintext 1 + b k.integrity 2 + b k.pending 3 +
  b (active && decide (slot = (s.eng 2).src)) 4 +
  b (active && decide (slot = (s.eng 2).dst)) 5 + b k.src.isSome 6 + k.gen % 256 * 2 ^ 8 +
  k.src.getD 0 * 2 ^ 16

/-- CRYPT_SLOT_KCV of a slot: 0 when unloaded (R225). -/
def State.slotKcv (s : State) (slot : Nat) : Nat := if (s.key slot).loaded then checkValue (s.key slot).k1 else 0

/-- QUERY_SLOT (R215). -/
def execQuerySlot (session : Session) (slot : Nat) (s : State) : Result :=
  s.inSession session <|
    if s.keysForbidden then s.keyFail 0xC414 0x07 session
    else if 263 < slot then s.keyFail 0xC414 0x02 session
    else if !s.hasAuthority session slot then s.keyFail 0xC414 0x01 session
    else (s.keyCmd 0xC414 0 session).emit (.keyAnswer 0 [s.slotStat slot, s.slotKcv slot])

/-- KEY_CMD_UNKNOWN (R216): an opcode from 0xC410 to 0xC41F that names no key command. -/
def execKeyCmdUnknown (session : Session) (opcode : BitVec 16) (s : State) : Result :=
  s.inSession session (s.keyFail opcode.toNat 0x09 session)

/-- KEY_TABLE_SWEEP (R192): corrected entries are rewritten; a master entry with an uncorrectable error unloads its
slot, which is reloaded from the key record while key retention is on. -/
def execKeyTableSweep (corrected uncorrectable : List SlotNo) (s : State) : Result :=
  let s := s.forAll corrected fun s k => s.err 0x19 0x0709 k
  .next <| s.forAll uncorrectable fun s k =>
    let lost := (s.key k).loaded && s.on FOLIO_CTL.key_retain
    ((s.setKey k { KeySlot.empty with lost := lost }).cause 0x19 6).err 0x19 0x0707 k

/-- KEY_SLOT_RELOADED (R192). -/
def execKeySlotReloaded (slot : SlotNo) (s : State) : Result :=
  if (s.key slot).lost then
    .next ((s.setKey slot (Sparse.get (fun _ => KeySlot.empty) s.crypto.recKeys slot)).cause 0x19 3)
  else .next s

/-! ## The carve-out -/

/-- A decoder maps a location of a span of bytes (R38). -/
def Decoder.maps (d : Decoder) (lo hi : Nat) : Bool :=
  let first := d.dpaBase
  let stop := d.dpaBase + d.size / d.ways
  (List.range 128).any fun a => decide (first < a * 2 ^ 37 + hi ∧ a * 2 ^ 37 + lo < stop)

/-- A committed decoder on any port maps part of the carve-out. -/
def State.carveMapped (s : State) : Bool :=
  s.lds.any fun e => e.2.decoders.any fun d => match d.2 with
    | some d => Decoder.maps d s.carveByte (s.fullQuires * 2 ^ 20)
    | none => false

/-- A configured mirrored range overlaps the carve-out. -/
def State.carveMirrored (s : State) : Bool :=
  (List.range 16).any fun r => s.configured r && decide (s.carveBase < s.rd (DOVE_RANGE_END.end_quire.ix r))

/-- A slot with integrity is loaded. -/
def State.integrityLoaded (s : State) : Bool := s.crypto.keys.any fun e => e.2.loaded && e.2.integrity

/-- Why a carve-out command is refused, in the order of R205. -/
def State.carveRefusal (s : State) (activate both : Bool) : Option Nat :=
  if both then some 0x7
  else if s.bindBusy then some 0x6
  else if s.kerfActive 1 then some 0x3
  else if s.kerfActive 0 then some 0x4
  else if activate ∧ s.carveMapped then some 0x1
  else if activate ∧ s.carveMirrored then some 0x5
  else if !activate ∧ s.integrityLoaded then some 0x2
  else none

/-- The carve-out becomes active or inactive, and a Clear Kerf runs over it but for the mirror area (R38). -/
def State.setCarve (s : State) (on_ : Bool) : State :=
  let stop := if s.area then s.fullQuires - 32 else s.fullQuires
  let s := { s with crypto := { s.crypto with tags := [] } }
  let s := ((s.wrb KERF_STACK_CFG.carve_out on_).wrb CRYPT_CARVE_STAT.active on_).put CRYPT_CARVE_STAT.busy
  (s.fixCapacity.cause 0x19 4).startKerf 0 [(s.carveBase, stop)] (if on_ then 2 else 3)

/-- A carve-out command (R205). -/
def State.carveCommand (s : State) (activate both : Bool) : State :=
  if !both ∧ s.carve = activate then s
  else match s.carveRefusal activate both with
    | some reason => (s.put CRYPT_CARVE_STAT.refused).wr CRYPT_CARVE_STAT.reason reason
    | none => s.setCarve activate

/-- CARVE_ACTIVATE (R38, R205). -/
def execCarveActivate (who : Accessor) (both : Bool) (s : State) : Result :=
  .next <| s.command who 0x19 0x104 fun s => s.carveCommand true both

/-- CARVE_DEACTIVATE (R38, R205). -/
def execCarveDeactivate (who : Accessor) (s : State) : Result :=
  .next <| s.command who 0x19 0x104 fun s => s.carveCommand false false

/-- TCACHE_FLUSH (R209). -/
def execTcacheFlush (who : Accessor) (s : State) : Result :=
  .next <| s.command who 0x19 0x124 fun s => s.flushTags

end Sys2Proof.Machine
end

