-- ==== Sys2Proof/Machine/DoveOps.lean ====
section
/-!
DEFINITION. What the meanings share of the pair (R276 to R309): the mirror area, the ranges, the join decision, the
messages and what each does, Resync, partner loss and promotion.
-/

namespace Sys2Proof.Machine

/-! ## Ranges and the mirror area -/

def State.rangeState (s : State) (n : Nat) : Nat := s.rd (DOVE_RANGE_STAT.state.ix n)
def State.setRangeState (s : State) (n st : Nat) : State := s.wr (DOVE_RANGE_STAT.state.ix n) st
def State.rangeBase (s : State) (n : Nat) : Nat := s.rd (DOVE_RANGE_BASE.base_quire.ix n)
def State.rangeEnd (s : State) (n : Nat) : Nat := s.rd (DOVE_RANGE_END.end_quire.ix n)

/-- A quire lies in a range. -/
def State.inRange (s : State) (n q : Nat) : Bool := decide (s.rangeBase n ≤ q ∧ q < s.rangeEnd n)

/-- Quires of a range with a push bit, with a pull bit, and with either, in ascending order (R278). -/
def State.pushed (s : State) (n : Nat) : List Nat := (s.dove.push.map (·.1)).filter (s.inRange n)
def State.pulled (s : State) (n : Nat) : List Nat := (s.dove.pull.map (·.1)).filter (s.inRange n)
def State.marked (s : State) (n : Nat) : List Nat :=
  (s.pushed n ++ (s.pulled n).filter fun q => !s.pushBit q).mergeSort (fun a b => decide (a ≤ b))

/-- Every push bit of a range is set. -/
def State.pushAll (s : State) (n : Nat) : State :=
  let lo := s.rangeBase n
  let hi := s.rangeEnd n
  { s with dove := { s.dove with
      push := (s.dove.push.filter fun e => decide (e.1 < lo)) ++ ((List.range' lo (hi - lo)).map fun q => (q, true)) ++
        s.dove.push.filter fun e => decide (hi ≤ e.1) } }

/-- Both bitmaps of a range are clear. -/
def State.clearMarks (s : State) (n : Nat) : State :=
  { s with dove := { s.dove with
      push := s.dove.push.filter fun e => !s.inRange n e.1, pull := s.dove.pull.filter fun e => !s.inRange n e.1 } }

/-- A committed decoder on any port maps part of the mirror area (R277). -/
def State.areaMapped (s : State) : Bool :=
  s.lds.any fun e => e.2.decoders.any fun d => match d.2 with
    | some d => Decoder.maps d ((s.fullQuires - 32) * 2 ^ 20) (s.fullQuires * 2 ^ 20)
    | none => false

/-- A span may be range `n` of this module (R276, R277): within the capacity, clear of the mirror area, the carve-out and
every other range. -/
def State.rangeFits (s : State) (n base stop : Nat) : Bool :=
  decide (base < stop) && decide (stop ≤ (if s.carve then s.carveBase else s.fullQuires - 32)) &&
  (List.range 16).all (fun m => decide (m = n) || !s.configured m || decide (stop ≤ s.rangeBase m ∨ s.rangeEnd m ≤ base)) &&
  (s.area || !s.areaMapped)

/-- The mirror area is reserved with the first range: its key is drawn and its quires are Dirty (R134, R277, R278). -/
def State.reserveArea (s : State) : State :=
  if s.area then s else
  let s := { (s.put DOVE_STAT.area).fixCapacity.drawn with dove := { s.dove with mirrorKey := some s.free } }
  s.forAll (List.range 32) fun s i => s.markDirty (s.fullQuires - 32 + i) 0x18

/-- A range is Unconfigured; with the last one the mirror area is given up (R277). -/
def State.dropRange (s : State) (n : Nat) : State :=
  let s := ((s.clearMarks n).setRangeState n 0).clr (DOVE_RANGE_STAT.primary.ix n)
  let s := { s with dove := { s.dove with withdrawing := s.dove.withdrawing.filter fun m => decide (m ≠ n) } }
  if s.anyConfigured then s.fixLevel
  else { ((s.clr DOVE_STAT.area).fixCapacity.fixLevel) with dove := { s.dove with mirrorKey := none, queue := [] } }

/-! ## The link -/

/-- The link of the pair is up, or carries protected flits (R291). -/
def State.linkUp (s : State) : Bool := decide (2 ≤ s.rd DOVE_STAT.link)
def State.linkSafe (s : State) : Bool := decide (s.rd DOVE_STAT.link = 3)

/-- Messages that waited for the replay buffer leave. -/
def State.flushTx (s : State) : State :=
  let l := s.dove.txWait
  ({ s with dove := { s.dove with txWait := [] } } : State).forAll l State.sendDove

/-- A sequence number of the replay buffer is covered by an ack (R283). -/
def covered (ack n : BitVec 24) : Bool := decide ((ack - n).toNat < 2 ^ 23)

/-- An ack frees the replay buffer (R283). -/
def State.ackFlits (s : State) (ack : BitVec 24) : State :=
  ({ s with dove := { s.dove with replay := s.dove.replay.filter fun f => !covered ack f.seq } } : State).flushTx

/-- Queue entries not yet sent go out in OSN order (R299). -/
def State.sendQueue (s : State) : State :=
  if !s.joined || !s.linkSafe then s else
  let l := s.dove.queue.filter fun e => !e.sent
  let s := { s with dove := { s.dove with queue := s.dove.queue.map fun (e : QueueEntry) => { e with sent := true } } }
  s.forAll l fun s e => s.sendDove (.mwrite e.w)

/-- A replay request: it repeats the seq of the last data flit and carries nothing (R283, R284, assumption 91). -/
def State.replayFlit (s : State) : SentFlit := s.flit 2 s.dove.txSeq false []

/-- The link retrains, keeping its session, buffers and sequence; traffic resumes with a replay (R285). -/
def State.retrain (s : State) : State :=
  let s := { s with dove := { s.dove with sameAck := 0, fecRun := 0 } }
  let s := ((s.bump (PHY_RECOVERY.count.port 4)).cause 0x14 8).err 0x14 0x0A01 0
  s.emit (.doveFlit s.replayFlit)

/-- A replay request is sent (R284); the fourth in a row for one ack retrains the link, as do eight flits in a row that
failed FEC (R285). -/
def State.askReplay (s : State) : State :=
  let s := { s with dove := { s.dove with rxDiscard := true, sameAck := s.dove.sameAck + 1 } }
  let s := (s.bump DOVE_REPLAYS.count).emit (.doveFlit s.replayFlit)
  if 4 ≤ s.dove.sameAck ∨ 8 ≤ s.dove.fecRun then s.retrain else s

/-- The link is down: its session, its buffers and what waits to be sent are gone (R355, R375). -/
def State.doveDown (s : State) : State :=
  let s := ((s.wr DOVE_STAT.link 0).wr (PHY_STAT.ltssm.port 4) 0)
  { s with dove := { s.dove with
      session := false, authFailed := false, helloSent := false, hello := none, replay := [], txWait := []
      rxDiscard := false, sameAck := 0, fecRun := 0, txSeq := 0, rxSeq := 0, txCount := 0, rxCount := 0 } }

/-- The DOVE port begins to train (R291). -/
def State.doveTrain (s : State) : State :=
  if s.present 0x14 && decide (s.rd (PAGE_STAT.state.on 0x14) ≠ 4) && s.on DOVE_CTL.dove_en && s.dove.perstHigh &&
      decide (s.sys.phase = .active) && decide (s.rd DOVE_STAT.link = 0) &&
      s.on (PHY_STAT.refclk_ok.port 4) then
    (s.wr DOVE_STAT.link 1).wr (PHY_STAT.ltssm.port 4) 1
  else s

/-! ## Resync -/

/-- A Resync runs: a range of which this module is Primary is Resyncing (R290). -/
def State.resyncs (s : State) : Bool := (List.range 16).any fun n => s.primary n && decide (s.rangeState n = 2)

/-- Ranges of which this module is Primary and that have no bit left are Joined (R306). -/
def State.settleRanges (s : State) : State :=
  s.forAll (List.range 16) fun s n =>
    if s.primary n && decide (s.rangeState n = 2) && decide (s.marked n = []) &&
        !(s.dove.strokes.any fun k => decide (k.range = n)) then
      (s.setRangeState n 1).cause 0x14 6
    else s

/-- The Resync Kerf begins over the first range that needs it (R306), unless it is active or the pair is apart. -/
def State.startResync (s : State) : State :=
  let s := s.settleRanges
  if s.kerfActive 4 || !s.joined || s.safe then s else
  match (List.range 16).find? fun n => s.primary n && decide (s.rangeState n = 2) && decide (s.marked n ≠ []) with
  | some n =>
    -- The first run after a start goes on where the Kerf record left it (R50).
    let was := s.eng 4
    let first := (s.marked n).headD 0
    let t := (s.wr (KERF_ARG.range.ix 4) n).startKerf 4 (Spans.ofList (s.marked n)) 0
    if s.rd (KERF_STAT.state.ix 4) = 0 ∧ was.cur = first then
      t.setEng 4 { t.eng 4 with curStrokes := was.curStrokes % quireStrokes } else t
  | none => s

/-- A range becomes Resyncing with every quire pushed. -/
def State.resyncAll (s : State) (n : Nat) : State := (s.pushAll n).setRangeState n 2

/-- The tag word of a line's slot in the carve-out, or 0 (R290). -/
def State.tagWord (s : State) (loc : Nat) : BitVec 32 :=
  if !s.carve || decide (s.carveBase ≤ quireOf loc) then 0 else
  match s.cached (s.tagLineOf loc) with
  | some t => tagIn t.data loc
  | none => let l := s.line (s.tagLineOf loc); if l = StoredLine.cleared then 0 else tagIn l.data loc

/-- The stored form of a line as a message carries it (R290). -/
def State.formLine (s : State) (loc : Nat) (l : StoredLine) : FormLine :=
  { kind := if l = StoredLine.cleared then 2 else if l.isPoisoned then 1 else 0, data := l.data, tag := s.tagWord loc }

/-- A stored form from the partner is written at its location, with its tag word (R115, R306). -/
def State.writeForm (s : State) (loc : Nat) (f : FormLine) (master : Nat) : State :=
  if f.kind = 4 then s else
  let s := ((s.ensure (quireOf loc)).settleLine loc).callBack loc true
  let s := (s.markDirty (quireOf loc) master).chargeEng master 1
  let access := if master = 0x16 then 5 else 3
  if f.kind = 2 then s.writeLine loc StoredLine.cleared access master
  else if f.kind = 0 then
    let s := s.writeLine loc (StoredLine.ofData f.data) access master
    if s.carve && decide (quireOf loc < s.carveBase) then
      let r := s.engineReq master .full loc 0 0 0
      let t := s.fetchTag r .none
      (t.2.cacheTag (s.tagLineOf loc) { data := setTagIn (t.1.getD 0) loc f.tag, dirty := true, pair := pairOf master (s.engMark master) }).markDirty
        (quireOf (s.tagLineOf loc)) master
    else s
  else s.poisonLine loc f.data 2

/-! ## HELLO and the join -/

/-- A range entry of this module's HELLO (R290). -/
def State.helloRange (s : State) (n : Nat) : HelloRange :=
  { base := s.rangeBase n, stop := s.rangeEnd n, configured := s.configured n, primary := s.primary n
    push := decide (s.pushed n ≠ []), pull := decide (s.pulled n ≠ []) }

/-- This module's HELLO (R290). -/
def State.ownHello (s : State) : Hello :=
  { format := 1, variant := s.rd SYS_ID.variant, unit := s.rd SYS_UNIT.unit, pool := s.rd SYS_POOL.pool
    bsn := s.rd64 FOLIO_BSN_LO.bsn FOLIO_BSN_HI.bsn, capacity := s.rd KERF_CAPACITY.quires, carve := s.carve
    noMirror := !s.area, imageLost := s.sys.imageLost, safe := s.safe, recorded := s.dove.recorded
    applied := s.dove.applied, coveredFrom := s.dove.coveredFrom, ranges := (List.range 16).map s.helloRange }

/-- A join or a CONFIG is refused with a reason (R292). -/
def State.refuseDove (s : State) (reason : Nat) : State :=
  ((s.wr DOVE_REFUSE.reason reason).cause 0x14 3).err 0x14 0x0A04 reason

/-- Why a join is refused (R292). -/
def State.joinRefusal (s : State) (h : Hello) : Option Nat :=
  if h.pool ≠ s.rd SYS_POOL.pool then some 1
  else if h.unit = s.rd SYS_UNIT.unit then some 2
  else if s.dove.authFailed then some 3
  else if s.dove.recorded.isSome ∧ s.dove.recorded ≠ some h.unit ∧ !s.dove.accepted ∧ !h.noMirror then some 4
  else if h.format ≠ 1 then some 5
  else none

/-- A range is found Diverged (R293). -/
def State.diverge (s : State) (n : Nat) : State := ((s.setRangeState n 4).cause 0x14 5).err 0x14 0x0A05 n

/-- A range is offered to the partner (R293, R296). -/
def State.offer (s : State) (n : Nat) : State :=
  (s.setRangeState n 5).sendDove (.config (Fin.ofNat 16 n) 1 0 (s.rangeBase n) (s.rangeEnd n))

/-- The applied OSN and the covered-from OSN that rows 2 and 5 of R293 compare, Secondary's and Primary's. -/
def State.joinOsns (s : State) (n : Nat) (h : Hello) : Nat × Nat :=
  if s.primary n then (h.applied, s.dove.coveredFrom) else (s.dove.applied, h.coveredFrom)

/-- The state that a range takes after a good HELLO exchange (R293). -/
def State.joinRange (s : State) (h : Hello) (n : Nat) : State :=
  let p : HelloRange := h.ranges.getD n { base := 0, stop := 0, configured := false, primary := false, push := false, pull := false }
  let own := s.primary n
  let o := s.joinOsns n h
  if !s.configured n then s
  else if !p.configured then (if own then s.offer n else s.setRangeState n 3)
  else if p.base ≠ s.rangeBase n ∨ p.stop ≠ s.rangeEnd n ∨ p.primary = own ∨ (own ∧ s.dove.osnNext ≤ h.applied) then
    s.diverge n
  else if o.2 ≤ o.1 + 1 then
    s.setRangeState n (if s.marked n = [] ∧ !p.push ∧ !p.pull then 1 else 2)
  else
    let s := (s.setRangeState n 2).err 0x14 0x0A06 0
    if own then s.pushAll n else s

/-- The BITMAP messages of a bitmap: one for each block of 1,024 quires with a bit set (R291). -/
def State.sendBitmap (s : State) (pull : Bool) (bits : Sparse Bool) : State :=
  s.forAll ((bits.map fun e => e.1 / 1024).dedup) fun s b =>
    let v := (bits.filter fun e => decide (e.1 / 1024 = b)).foldl (fun (a : BitVec 1024) e => a ||| (1 <<< (e.1 % 1024))) 0
    s.sendDove (.bitmap pull (Fin.ofNat 131072 (b * 1024)) v)

/-- The Secondary's bits pass to the Primary (R294). -/
def State.giveBits (s : State) : State :=
  let s := (s.sendBitmap false s.dove.push).sendBitmap true s.dove.pull
  s.forAll (List.range 16) fun s n => if s.configured n && !s.primary n then s.clearMarks n else s

/-- The pair joins on the partner's protected HELLO (R293 to R295): every range takes its state, the Primary replays its
queue from what the Secondary has applied, and ROLE messages that waited are sent. -/
def State.join (s : State) (h : Hello) : State :=
  let s := (s.wr DOVE_STAT.pair 1).cause 0x14 1
  let s := { s with dove := { s.dove with
    recorded := some h.unit, lossAt := none, beatAt := s.now
    partner := { s.dove.partner with safe := h.safe }
    queue := (s.dove.queue.filter fun (e : QueueEntry) => decide (h.applied < e.w.osn)).map fun (e : QueueEntry) => { e with sent := false } } }
  let s := s.forAll (List.range 16) fun s n => s.joinRange h n
  let s := s.giveBits
  let due := s.dove.roleDue
  let s := ({ s with dove := { s.dove with roleDue := [] } } : State).forAll due fun s r =>
    s.sendDove (.role (Fin.ofNat 16 r.1) r.2)
  let s := if s.rd (KERF_STAT.state.ix 4) = 5 then s.wr (KERF_STAT.state.ix 4) 0 else s
  (s.sendQueue.startResync)

/-- The protected HELLO is judged once both modules have sent theirs (R291, R292). -/
def State.judgeHello (s : State) : State :=
  match s.dove.hello with
  | none => s
  | some h =>
    if !s.dove.helloSent then s else
    match s.joinRefusal h with
    | some reason => (s.wr DOVE_STAT.pair 3).refuseDove reason
    | none => s.join h

/-- This module's HELLO is sent: unprotected as the link comes up, and protected once its own Lift has finished (R291).
-/
def State.sendHello (s : State) : State :=
  if s.rd DOVE_STAT.link = 2 then s.sendDove (.hello s.ownHello)
  else if s.linkSafe && !s.dove.helloSent && decide (s.unlifted = 0) then
    let s := s.sendDove (.hello s.ownHello)
    ({ s with dove := { s.dove with helloSent := true } } : State).judgeHello
  else s

/-! ## Loss and promotion -/

/-- A range is Apart from a loss on: on the Primary the quires of its queued entries are marked and the entries freed
(R303). -/
def State.rangeApart (s : State) (n : Nat) : State :=
  if s.rangeState n ≠ 1 ∧ s.rangeState n ≠ 2 then s else
  let s := s.setRangeState n 3
  if !s.primary n then s else
  let mine := fun (e : QueueEntry) => s.inRange n (quireOf e.w.loc.toNat)
  let l := s.dove.queue.filter mine
  let s := s.forAll l fun s e => s.setPush (quireOf e.w.loc.toNat) true
  { s with dove := { s.dove with queue := s.dove.queue.filter fun e => !mine e } }

/-- The Resync Kerf of a range stops as at an abort (R303); its lines are released. -/
def State.stopResync (s : State) : State :=
  let s := if s.kerfRuns 4 then ((s.wr (KERF_STAT.state.ix 4) 5).cause 0x1A 8).setEng 4 { s.eng 4 with aborting := false }
    else s
  ({ s with dove := { s.dove with strokes := [] } } : State).releaseStalled

/-- A recovery is over without a good copy: a line that a read found uncorrectable is poisoned, its reads return poison,
and its partial writes are judged on the line as it then stands (R97, R115). -/
def State.failRecovery (s : State) (r : Recovery) : State :=
  let s := { s with recoveries := s.recoveries.filter fun (x : Recovery) => decide (x.loc ≠ r.loc) }
  let s := ((s.bump TIPIN_RECOVER_FAIL.count).cause 0x1F 8).err 0x1F 0x0405 r.loc
  let s := if r.lost then s.poisonLine r.loc (s.line r.loc).data 2 else s
  let s := s.forAll r.waiting fun s q => (s.poisonEvent q.2).answerRead q.2 none
  (s.forAll r.writes fun s q => s.mergeWrite q .none true r.forTag).releaseStalled

/-- Writes that waited for the outbound queue go on as it has room (R298). -/
def State.releaseQueue (s : State) : State :=
  let l := s.dove.waiting
  let s := { s with dove := { s.dove with waiting := [] } }
  s.forAll l fun s e =>
    if s.dove.waiting ≠ [] ∨ s.queueBlocks e.1 then
      { s with dove := { s.dove with waiting := s.dove.waiting ++ [e] } }
    else (s.longest DOVE_WAIT_MAX.ns ((s.now - e.2) / psNs)).intake (s.placeOf e.1.loc).pc e.1

/-- What every end of a pair does to its ranges (R303, R305). -/
def State.splitPair (s : State) : State :=
  let s := (s.forAll (List.range 16) State.rangeApart).stopResync
  let l := s.recoveries
  let s := s.forAll l State.failRecovery
  let s := { s with dove := { s.dove with
    helloSent := false, hello := none, accepted := false
    partner := { safe := false, rekey := false, resync := false, rekeyStart := 0, rekeyEnd := 0 } } }
  s.releaseQueue

/-- The partner is lost (R303). -/
def State.loseDove (s : State) : State :=
  if !s.joined then s else
  let s := s.splitPair.wr DOVE_STAT.pair 2
  let s := ((s.cause 0x14 2).err 0x14 0x0A02 0).bump DOVE_LOSSES.count
  let s := s.wr64 DOVE_LOSS_TIME_LO.time DOVE_LOSS_TIME_HI.time s.tb
  { s with dove := { s.dove with lossAt := some s.now } }

/-- A ROLE notice goes out, now or when the link next carries protected flits (R304). -/
def State.sendRole (s : State) (n : Nat) (promoted : Bool) : State :=
  if s.joined && s.linkSafe then s.sendDove (.role (Fin.ofNat 16 n) promoted)
  else { s with dove := { s.dove with roleDue := s.dove.roleDue ++ [(n, promoted)] } }

/-- This module becomes Primary of a range of which it is Secondary (R304). With the pair joined both sides are then
Primary, which row 2 of R293 calls Diverged. -/
def State.promote (s : State) (n : Nat) : State :=
  let s := (s.put (DOVE_RANGE_STAT.primary.ix n)).sendRole n true
  let s := if s.rangeState n = 1 ∨ s.rangeState n = 2 then s.diverge n else s
  s.cause 0x14 4

/-! ## Applies -/

/-- An apply that cannot be made consumes its entry and sends the quire back (R300). -/
def State.markBack (s : State) (loc : Nat) : State :=
  (s.sendDove (.mark false [Fin.ofNat 131072 (quireOf loc)])).err 0x14 0x0A08 loc

/-- A mirrored write as a request of master 0x18, under the slot that it carries and this module's own Rekey position
(R299). -/
def State.mwriteReq (s : State) (w : Mwrite) : Req :=
  let loc := lineAddr w.loc.toNat
  let slot := s.rekeySlot loc w.slot.val
  { s.engineReq 0x18 (if w.partialWrite then .part else .full) loc 0 w.data w.mask with sel := some (slot, s.key slot) }

/-- A mirrored write is applied, or its quire sent back (R299, R300). -/
def State.applyWrite (s : State) (w : Mwrite) : State :=
  let r := s.mwriteReq w
  let v := s.judge r.loc []
  let s :=
    if !(match r.sel with | some k => k.2.loaded | none => false) then s.markBack r.loc
    else if r.kind = .part ∧ (v.outcome = .poisoned ∨ v.outcome = .uncorrectable) then
      let s := s.settleLine r.loc
      let s := if v.outcome = .uncorrectable then s.observe v r.loc 3 0x18 else s
      (s.discardWrite r v.line.data (0x40 + (s.placeOf r.loc).pc) 0x0204).markBack r.loc
    else s.engineWrite r
  { s with dove := { s.dove with applied := w.osn, mackDue := true } }

/-- Two lines of a Resync stroke are written in their stored form (R306); the last pair of the stroke's piece completes
it. -/
def State.applyRdata (s : State) (stroke loc : Nat) (first second : FormLine) : State :=
  let s := (s.writeForm loc first 0x16).writeForm (loc + 64) second 0x16
  if (loc / 64 + 2) % 256 = 0 then
    { s with dove := { s.dove with strokeApplied := max s.dove.strokeApplied stroke, mackDue := true } }
  else s

/-- A recovery request is answered with the line's stored form (R115); a location of which this module gives no copy is
refused (R302). -/
def State.answerRreq (s : State) (ident loc : Nat) : State :=
  let a := lineAddr loc
  let reply (f : FormLine) (s : State) : State := s.sendDove (.rrsp ident (BitVec.ofNat 37 a) f)
  let none_ : FormLine := { kind := 4, data := 0, tag := 0 }
  match s.mirrorOf a with
  | none => reply none_ s
  | some n =>
    if s.rekeyCovers (quireOf a) || (!s.primary n && s.pushBit (quireOf a)) then reply none_ s else
    let s := (((s.ensure (quireOf a)).settleLine a).callBack a false).chargeEng 0x18 1
    let v := s.judge a []
    let s := s.observe v a 0 0x18
    if v.outcome = .uncorrectable then reply { kind := 3, data := v.line.data, tag := 0 } s
    else reply (s.formLine a v.line) s

/-! ## Messages -/

/-- HELLO (R291 to R293, R295, R522). -/
def State.onHello (s : State) (prot : Bool) (h : Hello) : State :=
  let s := ((s.wr DOVE_PARTNER.unit h.unit).put DOVE_PARTNER.valid).wr DOVE_PARTNER_POOL.pool h.pool
  let other := decide (s.dove.recorded.isSome ∧ s.dove.recorded ≠ some h.unit)
  let s := if other && !s.on DOVE_PARTNER.replaced then s.cause 0x14 9 else s
  let s := s.wrb DOVE_PARTNER.replaced other
  if !prot then s else
  -- A HELLO that repeats the exchange is answered with this module's own.
  let s := if s.dove.hello.isSome && s.dove.helloSent then s.sendDove (.hello s.ownHello) else s
  ({ s with dove := { s.dove with hello := some h } } : State).judgeHello

/-- A Secondary in Safe State is treated as lost for its ranges (R522). -/
def State.partnerSafe (s : State) (safe : Bool) : State :=
  if safe then (s.forAll (List.range 16) fun s n => if s.primary n then s.rangeApart n else s) else s

/-- The OSNs up to one are acknowledged: their entries are freed, and with no push bit left covered-from follows the
queue (R299, R301). -/
def State.ackOsn (s : State) (osn : Nat) : State :=
  let s := { s with dove := { s.dove with
    acked := max s.dove.acked osn, queue := s.dove.queue.filter fun e => decide (osn < e.w.osn) } }
  if s.dove.push = [] then
    { s with dove := { s.dove with coveredFrom := match s.dove.queue with
        | e :: _ => e.w.osn
        | [] => s.dove.osnNext } }
  else s

/-- Ranges whose withdrawal waited for the queue are withdrawn (R296). -/
def State.finishWithdraw (s : State) : State :=
  s.forAll s.dove.withdrawing fun s n =>
    if s.dove.queue.any fun e => s.inRange n (quireOf e.w.loc.toNat) then s
    else (s.sendDove (.config (Fin.ofNat 16 n) 3 0 (s.rangeBase n) (s.rangeEnd n))).dropRange n

/-- HEARTBEAT (R287, R299, R522). While the partner reports no Resync, ranges it is Primary of are Joined. -/
def State.onHeartbeat (s : State) (b : Beat) : State :=
  let s := { s with dove := { s.dove with
    beatAt := s.now
    partner := { safe := b.safe, rekey := b.rekey, resync := b.resync, rekeyStart := b.rekeyStart, rekeyEnd := b.rekeyEnd } } }
  if !s.joined then s else
  let s := ((s.ackOsn b.applied).partnerSafe b.safe).finishWithdraw
  if b.resync then s else
  s.forAll (List.range 16) fun s n => if !s.primary n && decide (s.rangeState n = 2) then s.setRangeState n 1 else s

/-- A stroke is finished. Once the last of a quire is, the quire's bits clear (R306); once the last in flight is, an
abort that waited takes effect (R49). -/
def State.finishStroke (s : State) (k : Stroke) : State :=
  let s := { s with dove := { s.dove with strokes := s.dove.strokes.filter fun x => decide (x.num ≠ k.num) } }
  let s := if quireStrokes ≤ (s.eng 4).strokesOf k.quire ∧ !(s.dove.strokes.any fun x => decide (x.quire = k.quire)) then
      ((s.setPush k.quire false).setPull k.quire false).finishQuire 4 k.quire
    else s
  if (s.eng 4).aborting && s.dove.strokes.isEmpty then
    ((s.setEng 4 { s.eng 4 with aborting := false }).wr (KERF_STAT.state.ix 4) 5).cause 0x1A 8
  else s

/-- MACK (R299, R306). -/
def State.onMack (s : State) (osn stroke : Nat) : State :=
  let s := s.ackOsn osn
  let done := s.dove.strokes.filter fun k => decide (k.num ≤ stroke) && !k.pulled
  let s := s.forAll done State.finishStroke
  ((s.finishWithdraw.startResync).releaseStalled).sendQueue

/-- A line of a pulled stroke has come (R306). -/
def State.onPulled (s : State) (k : Stroke) (loc : Nat) (f : FormLine) : State :=
  let s := if f.kind = 0 ∨ f.kind = 2 then s.writeForm loc f 0x16 else s
  let s := { s with dove := { s.dove with strokes := s.dove.strokes.map fun x =>
    if x.num = k.num then { x with left := x.left - 1 } else x } }
  if k.left ≤ 1 then ((s.finishStroke k).startResync).releaseStalled else s

/-- RRSP (R115 to R117): the copy is written over the line where it is good, and what waited is served. -/
def State.onRrsp (s : State) (ident loc : Nat) (f : FormLine) : State :=
  match s.recoveries.find? fun r => decide (r.ident = ident) with
  | some r =>
    if f.kind = 0 ∨ f.kind = 2 then
      let s := { s with recoveries := s.recoveries.filter fun (x : Recovery) => decide (x.loc ≠ r.loc) }
      let s := (s.writeForm r.loc f 0x18).bump TIPIN_RECOVER_OK.count
      let s := s.forAll r.waiting fun s q => s.finishRead q.2 .none
      (s.forAll r.writes fun s q => s.mergeWrite q .none true r.forTag).releaseStalled
    else s.failRecovery r
  | none =>
    match s.dove.strokes.find? fun k => k.pulled && decide (k.quire * 64 + k.piece = loc / 16384) with
    | some k => s.onPulled k (lineAddr loc) f
    | none => s

/-- The quires that a stored form from the partner makes Dirty: its own, and that of its tag line (R133, R207). -/
def State.formQuires (s : State) (loc : Nat) (f : FormLine) : List Nat :=
  if f.kind = 4 then []
  else if f.kind = 0 ∧ s.carve ∧ quireOf loc < s.carveBase then [quireOf loc, quireOf (s.tagLineOf loc)]
  else [quireOf loc]

/-- A form waits for a quire that Clear or Lift has not finished: Resync never demands it. The wait is counted once
(R46). -/
def State.formWaits (s : State) : State :=
  if s.dove.formWaits then s
  else ({ s with dove := { s.dove with formWaits := true } } : State).bump (KERF_WAITS.count.ix 4)

/-- The line that an RRSP writes, with the master that writes it: a recovered line, or one of a pulled stroke (R115,
R306). -/
def State.rrspTarget (s : State) (ident loc : Nat) (f : FormLine) : Option (Nat × Nat) :=
  if f.kind ≠ 0 ∧ f.kind ≠ 2 then none else
  match s.recoveries.find? fun r => decide (r.ident = ident) with
  | some r => some (r.loc, 0x18)
  | none => if s.dove.strokes.any fun k => k.pulled && decide (k.quire * 64 + k.piece = loc / 16384) then
      some (lineAddr loc, 0x16) else none

/-- A message that writes here, or waits behind one that does: whether it takes effect, and the state after. It waits on
the dirty budget, and a line of Resync on a quire that Clear or Lift has not finished (R21, R46). -/
def State.applyMsg (s : State) : DoveMsg → Bool × State
  | .mwrite w =>
    if s.holdsAny (s.writeQuires (s.mwriteReq w)) then (false, s.holdEngine 0x18) else (true, s.applyWrite w)
  | .rdata stroke loc first second =>
    let a := loc.toNat
    if (s.unfinishedBy (quireOf a)).isSome then (false, s.formWaits)
    else if s.holdsAny (s.formQuires a first ++ s.formQuires (a + 64) second) then (false, s.holdEngine 0x16)
    else (true, s.applyRdata stroke a first second)
  | .rreq ident loc => (true, s.answerRreq ident loc.toNat)
  | .rrsp ident loc f =>
    match s.rrspTarget ident loc.toNat f with
    | some (a, m) =>
      if (s.unfinishedBy (quireOf a)).isSome ∧ m = 0x16 then (false, s.formWaits)
      else if s.holdsAny (s.formQuires a f) then (false, s.holdEngine m)
      else (true, s.onRrsp ident loc.toNat f)
    | none => (true, s.onRrsp ident loc.toNat f)
  | _ => (true, s)

/-- Messages take effect in link order as far as the budget and the copies of hosts allow (R47, R329). -/
def State.applyList (s : State) : List DoveMsg → State
  | [] => { s with dove := { s.dove with applyWait := [] } }
  | m :: rest =>
    let o := s.applyMsg m
    let t := o.2
    if !o.1 then { t with dove := { t.dove with applyWait := m :: rest } }
    else if s.recalls t = [] then ({ t with dove := { t.dove with formWaits := false } } : State).applyList rest
    else
      let t := s.recall (s.recalls t)
      { t with dove := { t.dove with applyWait := m :: rest } }

/-- A message joins those that wait. -/
def State.applyNext (s : State) (m : DoveMsg) : State := s.applyList (s.dove.applyWait ++ [m])

/-- The Primary marks a quire: its range is Resyncing from then on (R294, R300). -/
def State.markQuire (s : State) (pull : Bool) (q : Nat) : State :=
  match s.mirrorOf (q * 2 ^ 20) with
  | none => s
  | some n =>
    if !s.primary n then s else
    let s := if pull then s.setPull q true else s.setPush q true
    if s.rangeState n = 1 then s.setRangeState n 2 else s

/-- The quires of a BITMAP message. -/
def bitmapQuires (first : Nat) (bits : BitVec 1024) : List Nat :=
  ((List.range 1024).filter fun i => bits.getLsbD i).map (first + ·)

/-- CONFIG (R296): offer, adopted, withdraw, refused. -/
def State.onConfig (s : State) (n op reason base stop : Nat) : State :=
  match op with
  | 1 =>
    if !s.configured n && s.rangeFits n base stop then
      let s := (s.wr (DOVE_RANGE_BASE.base_quire.ix n) base).wr (DOVE_RANGE_END.end_quire.ix n) stop
      let s := ((s.clr (DOVE_RANGE_STAT.primary.ix n)).setRangeState n 2).reserveArea
      s.sendDove (.config (Fin.ofNat 16 n) 2 0 base stop)
    else (s.refuseDove 6).sendDove (.config (Fin.ofNat 16 n) 4 6 base stop)
  | 2 => if s.rangeState n = 5 then (s.resyncAll n).startResync else s
  | 3 => if s.configured n then s.dropRange n else s
  | 4 => if s.rangeState n = 5 then ((s.dropRange n).put (DOVE_RANGE_STAT.refused.ix n)).refuseDove reason else s
  | _ => s

/-- ROLE (R304): two Primaries, or two Secondaries, of a range are Diverged. -/
def State.onRole (s : State) (n : Nat) (promoted : Bool) : State :=
  if s.configured n && decide (s.primary n = promoted) && decide (s.rangeState n ≠ 4) then s.diverge n else s

/-- SPDM (R282): the session stands, with keys of its own, or authentication failed. -/
def State.onSpdm (s : State) (established failed : Bool) : State :=
  if failed then
    (({ s with dove := { s.dove with authFailed := true } } : State).wr DOVE_STAT.pair 3).refuseDove 3
  else if established && decide (s.rd DOVE_STAT.link = 2) then
    let s := { s.drawn with dove := { s.dove with session := true, sessionDraw := s.free, txCount := 0, rxCount := 0 } }
    (s.wr DOVE_STAT.link 3).sendHello
  else s

/-- Messages that an unprotected flit may carry (R282), and that a refused join leaves the link (R292). -/
def plainMsg : DoveMsg → Bool
  | .pad | .hello _ | .spdm _ _ | .bye _ => true
  | _ => false
def msgWhenRefused : DoveMsg → Bool
  | .heartbeat _ => true
  | m => plainMsg m

/-- A message of an accepted flit is processed (R289, R291 to R308). -/
def State.onMessage (s : State) (prot : Bool) (m : DoveMsg) : State :=
  if !s.linkUp || (!prot && !plainMsg m) || (s.rd DOVE_STAT.pair == 3 && !msgWhenRefused m) then s else
  match m with
  | .pad => s
  | .hello h => s.onHello prot h
  | .heartbeat b => s.onHeartbeat b
  | .spdm e f => s.onSpdm e f
  | .mwrite w =>
    match s.mirrorOf w.loc.toNat with
    | some n => if s.primary n ∨ !s.joined ∨ w.osn ≤ s.dove.applied then s else s.applyNext m
    | none => s
  | .mack osn stroke => if s.joined then s.onMack osn stroke else s
  | .rreq _ _ => if s.joined then s.applyNext m else s
  | .rrsp _ _ _ => if s.joined then s.applyNext m else s
  | .rdata _ _ _ _ => if s.joined then s.applyNext m else s
  | .mark pull qs => if s.joined then (s.forAll qs fun s q => s.markQuire pull q.val).startResync else s
  | .bitmap pull first bits =>
    if s.joined then (s.forAll (bitmapQuires first bits) fun s q => s.markQuire pull q).startResync else s
  | .config n op reason base stop => if s.joined then s.onConfig n op reason base stop else s
  | .role n promoted => if s.joined then s.onRole n promoted else s
  | .bye _ => s.loseDove
  | .unknown => s.err 0x14 0x0A07 0

/-- The messages of a flit, up to one of an unknown type (R289). -/
def State.onMessages (s : State) (prot : Bool) : List DoveMsg → State
  | [] => s
  | .unknown :: _ => s.onMessage prot .unknown
  | m :: rest => (s.onMessage prot m).onMessages prot rest

end Sys2Proof.Machine
end

