-- ==== Sys2Proof/Machine/OtpOps.lean ====
section
/-!
DEFINITION. What the meanings share of the OTP (R552 to R561): its rows, the life-cycle fuses and the region locks.
-/

namespace Sys2Proof.Machine


/-- The highest index blown among FS_in, and among FS_out (R558). -/
def fsIn (f : Nat) : Nat := (List.range 4).foldl (fun m i => if bitOf f (2 + i) then i + 1 else m) 0
def fsOut (f : Nat) : Nat := (List.range 4).foldl (fun m i => if bitOf f (6 + i) then i + 1 else m) 0

/-- The life-cycle state of the fuses (R558). -/
def lifeOf (f : Nat) : Nat :=
  if bitOf f 10 then 4
  else if bitOf f 1 then (if fsOut f < fsIn f then 3 else 2)
  else if bitOf f 0 then 1
  else 0

/-- The fuses form a sequence of R458. -/
def lifeLegal (f : Nat) : Bool :=
  (!bitOf f 1 || bitOf f 0) && (decide (fsIn f = 0) || bitOf f 1) &&
  decide (f / 4 % 16 = 2 ^ fsIn f - 1) && decide (f / 64 % 16 = 2 ^ fsOut f - 1) &&
  decide (fsOut f = fsIn f ∨ fsOut f + 1 = fsIn f)

/-- What a command has programmed into a row: 0 while nothing has. -/
def State.rowOf (s : State) (r : Nat) : Nat := (Sparse.get (fun _ => (0 : BitVec 56)) s.otp.rows r).toNat

def State.setRow (s : State) (r v : Nat) : State :=
  { s with otp := { s.otp with rows := Sparse.set (fun _ => (0 : BitVec 56)) s.otp.rows r (BitVec.ofNat 56 v) } }

/-- A bit by majority over its three copies (R554). -/
def majority (a b c : Nat) : Nat := (a &&& b) ||| (a &&& c) ||| (b &&& c)

/-- The lock bits of the regions (R553). -/
def State.lockMask (s : State) : Nat :=
  let l := (s.otp.locked.map (2 ^ ·)).foldl (· ||| ·) 0
  majority (l ||| s.rowOf 287) (l ||| s.rowOf 288) (l ||| s.rowOf 289) % 128

def State.isLocked (s : State) (region : Nat) : Bool := bitOf s.lockMask region

/-- OTP_STAT.region_locked follows the lock bits. -/
def State.fixLocks (s : State) : State := s.wr OTP_STAT.region_locked s.lockMask

/-- The fuse that a transition to a state blows (R558). -/
def fuseOf (f target : Nat) : Nat :=
  match target with
  | 1 => 1
  | 2 => if bitOf f 1 then 2 ^ (5 + fsIn f) else 2
  | 3 => 2 ^ (2 + fsIn f)
  | _ => 1024

/-- The committed transition's fuse is blown, in all three copies (R459, R558). -/
def State.blowFuse (s : State) : State :=
  match s.sys.lcPending with
  | none => s
  | some t =>
    let s := { s with sys := { s.sys with
      lcFuses := s.sys.lcFuses ||| fuseOf s.sys.lcFuses t, lcPending := none } }
    (s.clr SYS_LC_STAT.busy).wr SYS_LC.next (lifeOf s.sys.lcFuses)

/-- Every slot is unloaded, and the Folio key and the identity seed are gone (R457, R561). -/
def State.zeroise (s : State) : State :=
  let s := { s with
    crypto := { s.crypto with keys := [], recKeys := [], commit := none }, folio := { s.folio with key := none, recs := Sparse.erase s.folio.recs 8 } }
  s.forAll (List.range' 276 8) fun s r => s.setRow r (2 ^ 56 - 1)

/-- The regions of R553 by row: the region, its last row of data or check, and whether it has a check row. -/
def regionOf (row : Nat) : Nat :=
  if row ≤ 7 then 0 else if row ≤ 11 then 1 else if row ≤ 267 then 2 else if row ≤ 275 then 3 else if row ≤ 283 then 4
  else if row ≤ 286 then 5 else if row ≤ 289 then 6 else 7

/-- The check row of a region that has one (R553). -/
def checkRow : Nat → Option Nat
  | 0 => some 7
  | 1 => some 11
  | 2 => some 267
  | 3 => some 275
  | 4 => some 283
  | _ => none

/-- A row as it reads at the normal level: the fuses, what a command has programmed, and on a device that has left the
factory what the factory has programmed (R553). -/
def State.otpRow (s : State) (r : Nat) : Nat :=
  if 284 ≤ r ∧ r ≤ 286 then s.sys.lcFuses ||| s.rowOf r
  else if 287 ≤ r ∧ r ≤ 289 then (s.otp.locked.map (2 ^ ·)).foldl (· ||| ·) 0 ||| s.rowOf r
  else if s.rowOf r ≠ 0 ∨ !s.otp.factory then s.rowOf r
  else (Config.otpRow r).toNat

/-! ## Check rows -/

/-- The first row of a region that has a check row (R553). -/
def firstRow : Nat → Nat
  | 0 => 0
  | 1 => 8
  | 2 => 12
  | 3 => 268
  | _ => 276

/-- One byte of the CRC-32 of IEEE 802.3, least significant bit first. -/
def crc32Byte (c : BitVec 32) (b : Nat) : BitVec 32 :=
  (List.range 8).foldl (fun (c : BitVec 32) _ => if c.getLsbD 0 then (c >>> 1) ^^^ 0xEDB88320#32 else c >>> 1)
    (c ^^^ BitVec.ofNat 32 (b % 256))

/-- The CRC-32 of IEEE 802.3. -/
def crc32 (l : List Nat) : BitVec 32 := ~~~(l.foldl crc32Byte 0xFFFFFFFF#32)

/-- The check row over data rows: their CRC, each taken as 7 bytes little-endian, their count and the magic (R553). -/
def checkRowOf (rows : List Nat) : Nat :=
  (crc32 (rows.flatMap fun v => (List.range 7).map fun i => v / 256 ^ i % 256)).toNat + rows.length % 256 * 2 ^ 32 +
    0xA5C3 * 2 ^ 40

/-- The feature row agrees with the properties of its variant (R1, R557). -/
def featureOk (f : Nat) : Bool :=
  let v := f % 256
  decide (1 ≤ v ∧ v ≤ 5) && decide (f / 2 ^ 8 % 16 = if v = 2 then 3 else 15) && (bitOf f 12 == decide (v ≠ 4)) &&
  bitOf f 13 && bitOf f 14 && decide (f / 2 ^ 16 % 4 = if v = 5 then 1 else 2) && (bitOf f 18 == decide (v = 3)) &&
  (bitOf f 18 || decide (f / 2 ^ 20 % 16 = 0))

/-- A row as stage 2 latches it: one that failed is read from the spare that its redirection entry names (R554). -/
def State.latchedRow (s : State) (sparedRows : List Nat) (r : Nat) : Nat :=
  match (if sparedRows.contains r then s.otp.spared.lookup r else none) with
  | some n => s.rowOf n
  | none => s.otpRow r

/-- A region's check row carries the magic, the count and the CRC over its data rows, and the feature row agrees with its
variant (R555). -/
def State.regionReads (s : State) (sparedRows : List Nat) (region : Nat) : Bool :=
  match checkRow region with
  | none => true
  | some c =>
    let rows := (List.range' (firstRow region) (c - firstRow region)).map (s.latchedRow sparedRows)
    decide (s.latchedRow sparedRows c = checkRowOf rows) && (region != 1 || featureOk (rows.headD 0))

end Sys2Proof.Machine
end

