-- ==== Sys2Proof/Machine/PortOps.lean ====
section
/-!
DEFINITION. What the meanings share of the ports and their lanes (R315 to R388): link state and training, port reset and
CXL Reset, back-invalidates, IDE and HDM decoders.
-/

namespace Sys2Proof.Machine

/-! ## The registers of a logical device -/

/-- PORT_LD_STAT of the logical devices of a port follows their decoders and the key attribute (R332, R357). -/
def State.fixPort (s : State) (p : Nat) : State :=
  s.forAll (List.range 4) fun s l =>
    let d := (s.ld (masterOf p l)).decoders.filterMap (·.2)
    ((s.wr (PORT_LD_STAT.dec_committed.ld p l) d.length).wrb (PORT_LD_STAT.hdmdb.ld p l) (d.any (·.db))).wrb
      (PORT_LD_STAT.tsp_active.ld p l) (s.keyAttr p l)

/-! ## Lanes -/

/-- A register field of a lane. -/
def Fld.lane (f : Fld) (g n : Nat) : Fld := (f.port g).ix n

/-- The fields of a lane that read 0 while it is not in a trained link (R386), but `failed`. -/
def laneFields : List Fld :=
  [PHY_LANE_STAT.logical, PHY_LANE_STAT.inverted, PHY_LANE_STAT.active, PHY_LANE_STAT.precode_tx,
   PHY_LANE_STAT.precode_rx, PHY_LANE_STAT.state, PHY_LANE_TXEQ.preset, PHY_LANE_TXEQ.pre2, PHY_LANE_TXEQ.pre1,
   PHY_LANE_TXEQ.post, PHY_LANE_TXEQ.main, PHY_LANE_RXEQ.ctle_dc, PHY_LANE_RXEQ.peaking, PHY_LANE_RXEQ.dfe1,
   PHY_LANE_ERR.count]

/-- A lane's number in the table of lanes. -/
def laneNo (g n : Nat) : Nat := g * 8 + n

/-- The link's receiver state of a lane is gone. -/
def State.clearLane (s : State) (g n : Nat) : State :=
  let s := s.forAll laneFields fun s f => s.clr (f.lane g n)
  let l := s.lane (laneNo g n)
  (s.setLane (laneNo g n) { l with lock := none, huntAt := s.now, failed := false }).wrb (PHY_LANE_STAT.failed.lane g n) l.held

/-- The lanes of a link. -/
def State.activeLanes (s : State) (g : Nat) : List Nat :=
  (List.range 8).filter fun n => s.on (PHY_LANE_STAT.active.lane g n)

/-- The lanes of a link take a state of R377: 0 Active, 1 Lane Idle, 2 and 3 Lane Off. -/
def State.setLanes (s : State) (g st : Nat) : State :=
  s.forAll (s.activeLanes g) fun s n => s.wr (PHY_LANE_STAT.state.lane g n) st

/-- The page that takes the PHY events of a lane group: its port page, or the DOVE page (R384, R388). -/
def phyPage (g : Nat) : Nat := 0x10 + g

/-- A PHY interrupt cause: its bit in a port page, and in the DOVE page where it has one (R387). -/
def State.phyCause (s : State) (g port dove : Nat) : State :=
  if g < 4 then s.cause (phyPage g) port else if dove = 0 then s else s.cause 0x14 dove

/-! ## The link -/

/-- The link of a host port goes down: its status reads as down, and what waited to be sent is gone (R350). -/
def State.linkDown (s : State) (g : Nat) : State :=
  let was := s.rd (PORT_LINK_STAT.mode.port g)
  let s := s.forAll [PORT_LINK_STAT.mode, PORT_LINK_STAT.rate, PORT_LINK_STAT.width, PORT_LINK_STAT.mld,
      PORT_LINK_STAT.lds_bound, PORT_LINK_STAT.mem_active, PHY_STAT.ltssm, PHY_STAT.reversed, PHY_STAT.pm_state]
    fun s f => s.clr (f.port g)
  let s := s.forAll (List.range 4) fun s l => s.clr (PORT_LD_CFG.bound.ld g l)
  let s := s.forAll (List.range 8) fun s n => s.clearLane g n
  let s := s.setPort g { s.port g with l1Req := false, waitOut := [], retryAt := none }
  let s := (s.fixPort g).fixCal (64 + g)
  if was = 0 then s else s.cause (phyPage g) 1

/-- The lanes of the DOVE link stop with it. -/
def State.doveLanesDown (s : State) : State :=
  let s := (s.doveDown.clr (PHY_STAT.reversed.port 4)).clr (PHY_STAT.pm_state.port 4)
  (s.forAll (List.range 8) fun s n => s.clearLane 4 n).fixCal 68

/-- A host port may train (R317, R355, R375, R444, R447, R555). -/
def State.mayTrain (s : State) (p : Nat) : Bool :=
  s.hasPort p && s.on (PORT_CTL.port_en.port p) && (s.port p).perstHigh && !(s.port p).isolated &&
  s.on CLK_SRC_STAT.ref_ok && decide (4 ≤ s.rd SYS_START_STAT.stage) &&
  (decide (s.sys.phase = .starting) || decide (s.sys.phase = .active)) &&
  (decide (p = 0) || !s.on SYS_LC.restrictive)

/-- A port that is down enters Polling (R355, R444), where every lane hunts. -/
def State.train (s : State) (g : Nat) : State :=
  let t := if g = 4 then s.doveTrain
    else if s.mayTrain g && decide (s.rd (PHY_STAT.ltssm.port g) = 0) then s.wr (PHY_STAT.ltssm.port g) 1
    else s
  if s.rd (PHY_STAT.ltssm.port g) = 0 ∧ t.rd (PHY_STAT.ltssm.port g) = 1 then
    (t.forAll (List.range 8) fun s n => s.clearLane g n).setPort g { t.port g with retryAt := none }
  else t

/-- Every port that may train does. -/
def State.trainAll (s : State) : State := s.forAll (List.range 5) fun s g => s.train g

/-! ## Reset of a port -/

/-- The requests of the device changed, wherever they wait. -/
def State.mapReqs (s : State) (f : Req → Req) : State :=
  { s with
    transit := s.transit.map f
    stalled := s.stalled.map fun w => (w.1, f w.2)
    pcs := Sparse.mapWith (fun _ => Pc.reset) s.pcs fun _ (c : Pc) =>
      { c with input := c.input.map f, queue := c.queue.map f, bursts := c.bursts.map f, wbursts := c.wbursts.map f }
    folio := { s.folio with held := s.folio.held.map f }
    dove := { s.dove with waiting := s.dove.waiting.map fun w => (f w.1, w.2) }
    recoveries := s.recoveries.map fun (r : Recovery) =>
      { r with waiting := r.waiting.map (fun w => (w.1, f w.2)), writes := r.writes.map f } }

/-- Requests of a port, or of one of its logical devices, are of an epoch that has ended: they complete, and their
completions are dropped (R351). -/
def State.endEpoch (s : State) (p : Nat) (ld : Option Nat) : State :=
  s.mapReqs fun r => match r.src with
    | .host q l _ => if q = p ∧ (ld = none ∨ ld = some l) then { r with src := .old q l, cache := 0 } else r
    | _ => r

/-- The Chisel ring of a logical device is reset with its port (R270). -/
def State.resetPortRing (s : State) (p l : Nat) : State :=
  let r := p * 4 + l
  let n := (s.chisel.msix.filter fun x => decide (x = r)).length
  let s := { s with chisel := { s.chisel with msix := s.chisel.msix.filter fun x => decide (x ≠ r) } }
  let s := s.dropMsix r (s.ringBase r) n
  (s.abortRing r true).resetRing r

/-- The configuration space, decoders, mailbox, MSI-X and event interrupt policy of a logical device return to reset; its
logs stay (R350, R353). -/
def LdState.portReset (l : LdState) : LdState :=
  { l with
    decoders := [], notCommitted := [], l0s := false, l1 := false, l11 := false, l12 := false, tsp := false
    polInfo := 0, polWarn := 0, polFail := 0, polFatal := 0, fwOffset := none }

/-- IDE streams and keys are gone (R350). -/
def State.clearIde (s : State) (p : Nat) : State :=
  let s := s.setPort p { s.port p with streams := [], keysProgrammed := [], keySets := [] }
  s.forAll [PORT_IDE_STAT.io_link, PORT_IDE_STAT.io_sel, PORT_IDE_STAT.cachemem, PORT_IDE_STAT.skid,
      PORT_IDE_STAT.key_set, PORT_IDE_STAT.insecure] fun s f => s.clr (f.port p)

/-- A reset of a port or logical device is counted (R356, R358). -/
def State.countReset (s : State) (p cause : Nat) : State :=
  ((s.wr (PORT_RESET_STAT.last_cause.port p) cause).bump (PORT_RESETS.count.port p)).cause (phyPage p) 2

/-- A flit that a port had partly received is discarded (R351, step 1). -/
def State.discardFlit (s : State) (p : Nat) : State :=
  (s.bump (PORT_DISCARD_FLITS.count.port p)).err (phyPage p) 0x0B09 0

/-- The closing of a port: no further flit is taken, the epoch rises, and every back-invalidate is taken as answered
invalid (R351, steps 1 to 3). -/
def State.closePort (s : State) (p : Nat) (partFlit : Bool) : State :=
  let s := if partFlit then s.discardFlit p else s
  let s := (s.wr (PORT_LINK_STAT.epoch.port p) (s.rd (PORT_LINK_STAT.epoch.port p) + 1)).endEpoch p none
  let s := s.setPort p { s.port p with filter := [], inv := [] }
  s.linkDown p

/-- A port reset (R350, R351, R353): causes 1 PERST, 2 link down, 3 hot or secondary bus reset, 4 port_en. -/
def State.portReset (s : State) (p cause : Nat) (partFlit : Bool) : State :=
  let s := s.closePort p partFlit
  let s := s.forAll (List.range 4) fun s l =>
    let m := masterOf p l
    (s.setLd m (s.ld m).portReset).resetPortRing p l
  let s := (((s.clearIde p).fixPort p).countReset p cause).releaseStalled
  if cause = 1 then (s.setPort p { s.port p with perstHigh := false }).wakeOver p else s

/-- The lines of a filter that a logical device has read. -/
def PortState.linesOf (p : PortState) (m : Nat) : List Nat :=
  p.filter.filterMap fun e => match e.2 with
    | some t => if t.master = m then some (e.1 * 64) else none
    | none => none

/-- A CXL Reset of one logical device (R350, R351). -/
def State.resetLd (s : State) (p l : Nat) : State :=
  let s := s.endEpoch p (some l)
  let t := s.port p
  let gone := t.linesOf (masterOf p l)
  let s := s.setPort p { t with
    filter := t.filter.filter fun e => decide (e.1 * 64 ∉ gone), inv := t.inv.filter fun i => decide (i.loc ∉ gone) }
  let s := (s.resetPortRing p l).wr (PORT_RESET_STAT.last_ld.port p) l
  (s.countReset p 5).releaseStalled

/-- A port leaves service until the next power-on or device reset: its link goes down and no longer trains (R408, R427,
R447, R514). -/
def State.stopPort (s : State) (p : Nat) : State :=
  let s := s.setPort p { s.port p with isolated := true }
  if s.rd (PHY_STAT.ltssm.port p) = 0 then s else s.portReset p 2 false

/-- The loss of the reference stops every lane: each host port takes a port reset with cause link down, and the DOVE link
goes down (R375). -/
def State.loseRefclk (s : State) : State :=
  let s := s.forAll (List.range 4) fun s p =>
    if s.rd (PHY_STAT.ltssm.port p) = 0 then s
    else (((s.portReset p 2 false).err (phyPage p) 0x0B14 0).cause (phyPage p) 10)
  let s := if s.rd (PHY_STAT.ltssm.port 4) = 0 then s else (s.doveLanesDown.err 0x14 0x0B14 0).cause 0x14 11
  s.forAll (List.range 5) fun s g => s.clr (PHY_STAT.refclk_ok.port g)

/-- Every lane enters Lane Off, and the links are down (R381). -/
def State.lanesOff (s : State) : State :=
  (s.forAll ((List.range 4).filter fun p => decide (s.rd (PHY_STAT.ltssm.port p) ≠ 0)) fun s p => s.closePort p false).doveLanesDown

/-! ## Denied commands -/

/-- A command denied to a logical device is counted and logged in its port page (R334, R359). -/
def State.denied (s : State) (p l opcode : Nat) : State :=
  ((s.bump (PORT_DENIED.count.port p)).cause (phyPage p) 6).log
    { page := phyPage p, code := 0x0B0A, addr := opcode, access := 6, master := masterOf p l, tied := none }

end Sys2Proof.Machine
end

