-- ==== Sys2Proof/Machine/PowerOn.lean ====
section
/-!
DEFINITION. The power-on reset (R449): what it keeps and what returns to its reset value. The end of power and the
draining of requests, which a power failure, an orderly shutdown and a Hold share (R22, R141, R451, R454).
-/

namespace Sys2Proof.Machine

/-- The Time Base, its skew and whether it is valid are stored in the Always-On domain (R434). -/
def State.storeTb (s : State) : State :=
  { s with clk := { s.clk with
    stored := s.clk.tbPs, a0 := s.ao, storedAt := s.now, storedValid := s.tbValid } }

/-- Registers that a power-on reset keeps: the identity, the life cycle and the start count, which come from OTP and the
Always-On domain, BANK_PF_LAST, which is kept across the Bind, and the firmware slots (R188, R449, R460, R574). -/
def keptAtPowerOn (page off : Nat) : Bool :=
  (page == 0x00 && (off == 0x100 || off == 0x104 || off == 0x10C || off == 0x134)) ||
  (page == 0x1C && off == 0x150) || (page == 0x1A && off == 0x100) || (page == 0x08 && (off == 0x134 || off == 0x138))

/-- What the Folio holds in the persistence layers stands; its working state returns to reset. -/
def Folio.powerOn (f : Folio) : Folio :=
  { Folio.reset with
    slots := f.slots, blocks := f.blocks, stripes := f.stripes, col0 := f.col0, col1 := f.col1, image := f.image
    recs := f.recs, kerfRecords := f.kerfRecords, kerfSeq := f.kerfSeq, tipRecord := f.tipRecord
    tipPrev := f.tipPrev
    keyRecordSeq := f.keyRecordSeq, markers := f.markers, key := f.key, bsnNext := f.bsnNext, bsnTop := f.bsnTop
    dirtyShutdowns := f.dirtyShutdowns, doveRecord := f.doveRecord }

/-- The pins of a port keep the level that the board gives them. -/
def PortState.powerOn (p : PortState) : PortState := { PortState.reset with perstHigh := p.perstHigh }

/-- The pins are no longer driven. -/
def State.releasePins (s : State) : State :=
  let s := if s.on ERRPIN_STAT.driven then (s.clr ERRPIN_STAT.driven).emit (.errN false) else s
  let s := if s.pin.wakeLow then s.emit (.wakeN false) else s
  let s := if s.pin.alertLow then s.emit (.alertN false) else s
  { s with pin := PinState.reset }

/-- A power-on reset with its cause (R449, R460): every die and domain but the Always-On domain returns to its reset
state; the Folio, OTP, the firmware store, the key record and the self-test record stand. -/
def State.powerOn (s : State) (cause : Nat) (aoRan : Bool) : State :=
  let s := s.releasePins
  let starts := if aoRan then min (s.rd SYS_STARTS.count + 1) 0xFFFFFFFF else 1
  let t : State := { State.reset with
    flds := s.flds.filter fun e => keptAtPowerOn (e.1 / 131072 % 128) (e.1 / 32 % 4096)
    now := s.now, free := s.free, out := s.out, nextReq := s.nextReq, pending := s.pending
    folio := s.folio.powerOn
    bank := { ReserveBank.reset with pfailLowAt := s.bank.pfailLowAt }
    crypto := { Crypto.reset with recKeys := s.crypto.recKeys, recRights := s.crypto.recRights, recRanges := s.crypto.recRanges }
    repair := Repair.reset
    gauge := { GaugeState.reset with windowAt := s.now, countFrom := s.now }
    dove := { DoveState.reset with perstHigh := s.dove.perstHigh }
    ports := Sparse.mapWith (fun _ => PortState.reset) s.ports fun _ p => p.powerOn
    clk := { ClockState.reset with
      stored := s.clk.stored, a0 := s.clk.a0, storedAt := s.clk.storedAt, storedValid := s.clk.storedValid
      skewPs := s.clk.skewPs }
    sys := { SysState.reset with
      startAt := s.now, stageAt := s.now, vauxGood := s.sys.vauxGood, bindOwed := s.sys.bindOwed
      lcPending := s.sys.lcPending, lcFuses := s.sys.lcFuses, fsUsed := s.sys.fsUsed, shutdownCut := s.sys.shutdownCut
      aoRan := aoRan, variant := s.sys.variant }
    bist := { BistState.reset with
      recSeq := s.bist.recSeq, recAt := s.bist.recAt, recHeld := s.bist.recHeld, held := s.bist.recHeld
      recValid := s.bist.recValid }
    otp := s.otp
    sb := { SidebandState.reset with
      slot0 := s.sb.slot0, slot1 := s.sb.slot1, minSec := s.sb.minSec } }
  let t := (t.wr SYS_STARTS.count starts).wr SYS_RST_CAUSE.cause cause
  let t := ((t.clr SYS_LC.restrictive).clr SYS_LC.otp_marginal).clr KERF_STACK_CFG.carve_out
  let t := if s.sys.vauxGood then t.wr SB_STAT.mode 1 else t
  let t := t.wrb SYS_SUPPLY.vaux_good s.sys.vauxGood
  let t := (t.wrb BANK_PF_CTL.bus48 (s.on BANK_PF_CTL.bus48)).wr BANK_PF_CTL.vin_thresh (if s.on BANK_PF_CTL.bus48 then 360 else 85)
  t.wrb BANK_PF_STAT.pfail s.bank.pfailLowAt.isSome

/-- Whether the bus is one of 48 V is judged by VIN at VIN good (R184). -/
def State.judgeBus (s : State) (vinMv : Nat) : State := s.wrb BANK_PF_CTL.bus48 (decide (24000 < vinMv))

/-- What the mirror area holds, where it is reserved (R278). -/
def State.doveRecordNow (s : State) : Option DoveRecord :=
  if !s.area then none else
  some {
    queue := s.dove.queue.map (·.w)
    ranges := (List.range 16).map fun r =>
      if s.configured r then
        (s.rd (DOVE_RANGE_BASE.base_quire.ix r), s.rd (DOVE_RANGE_END.end_quire.ix r), s.on (DOVE_RANGE_STAT.primary.ix r))
      else (0, 0, false)
    recorded := s.dove.recorded, osnNext := s.dove.osnNext, acked := s.dove.acked, applied := s.dove.applied
    coveredFrom := s.dove.coveredFrom, mirrorKey := s.dove.mirrorKey, push := s.dove.push, pull := s.dove.pull }

/-- Power is off: nothing runs but the Always-On domain and the sideband (R456). -/
def State.powerOff (s : State) : State :=
  let s := ({ s with sys := { s.sys with phase := .off } } : State).releasePins
  ((s.clr SYS_START_STAT.mem_active).clr SB_STAT.core_ready).forAll (List.range 4) fun s p => s.clr (PORT_LINK_STAT.mem_active.port p)

/-- A request that waits completes whatever it waits for: a quire of Clear or Lift is finished for it, and a write becomes
Dirty without regard to the budget (R22, R187). -/
def State.finishAccepted (s : State) (r : Req) : State :=
  if r.kind = .read then (s.ensure (quireOf r.loc)).perform r
  else
    let s := s.forAll (s.writeQuires r) State.ensure
    (s.completeWrite r).perform r

/-- Requests that the device has accepted complete (R22, R141, R187, R451, R454): those on their way arrive, recoveries
end, every queue drains, and those that waited on a Kerf, a host, a budget or the partner are finished, oldest first. -/
def State.drain (s : State) : State :=
  let l := s.transit
  let s := ({ s with transit := [] } : State).forAll l State.arrive
  let s := s.forAll s.recoveries State.failRecovery
  let s := s.settle fun _ => true
  let l := (s.stalled.map (·.2) ++ s.folio.held ++ s.dove.waiting.map (·.1)).mergeSort fun a b => decide (a.id ≤ b.id)
  let s := { s with stalled := [], folio := { s.folio with held := [] }, dove := { s.dove with waiting := [] } }
  (s.forAll l State.finishAccepted).endHolding

/-- The Time Base takes its carried value, where its domain sleeps (R432). `a1` is the Always-On count at the tick edge,
and the time carried ends there (R430, the ten-second example). -/
def State.carryTo (s : State) (a1 : Nat) : State :=
  let ticks := a1 - s.clk.a0
  let ns := (aoPs a1 - s.clk.storedAt + 500) / psNs
  let added := 30518 + (ns * 150 + 500000) / 1000000
  let s := { s with clk := { s.clk with
    tbPs := (s.clk.stored / psNs + (aoPs ticks + 500) / psNs) * psNs + (s.now - aoPs a1), tbAsleep := false
    skewPs := s.clk.skewPs + added * psNs } }
  let s := ((s.bump TB_CARRIES.count).wr TB_LAST_CARRY_MS.ms (min (ns / 1000000) 0xFFFFFFFF)).cause 0x01 1
  if 1000000 < added then s.err 0x01 0x0F01 (added / 1000) else s

/-- A carry at the present count, where the Time Base sleeps; the Gauge window in progress ends at once (R232). -/
def State.carryTb (s : State) : State := if s.clk.tbAsleep then (s.carryTo s.ao).endWindow true else s

/-- The Time Base domain is in Run. -/
def State.readyTb (s : State) : State := if s.rd (PWR_DOM_STAT.state.ix 74) = 0 then s else s.readyDomain 74

/-- Every power domain that sleeps is woken (R428). -/
def State.wakeDomains (s : State) : State :=
  (s.forAll (List.range 74) State.runDomain).carryTb.readyTb

/-- PCs in self-refresh are woken (R85). -/
def State.wakePcs (s : State) : State :=
  s.forAll (List.range 64) fun s p => if s.on (PC_SR_STAT.in_sr.pc p) then s.exitSr p else s.clr (PC_SR_STAT.entering.pc p)

/-- The pages of blocks of the logic die. -/
def logicPages : List Nat := [0x09, 0x18, 0x19, 0x1A, 0x1B, 0x1D, 0x1E, 0x1F] ++ (List.range 64).map (0x40 + ·)

/-- The state that a page reports outside Hold: that of its power domain (R421). -/
def State.pageHome (s : State) (p : Nat) : Nat :=
  match domainOf p with
  | none => 1
  | some d => match s.rd (PWR_DOM_STAT.state.ix d) with
    | 1 => 2
    | 2 => 3
    | 5 => 4
    | _ => 1

/-- The pages of the logic die that report Hold report their own state again. -/
def State.pagesBack (s : State) : State :=
  s.forAll logicPages fun s p =>
    if s.rd (PAGE_STAT.state.on p) = 5 then s.wr (PAGE_STAT.state.on p) (s.pageHome p) else s

/-- The block that a self-test step has isolated is back in its own state, and its port may train again (R540). -/
def State.endStep (s : State) : State :=
  match s.bist.under with
  | none => s
  | some p =>
    let s := ({ s with bist := { s.bist with under := none } } : State).wr (PAGE_STAT.state.on p)
      (if s.on BIST_ENG_STAT.offline ∧ p ∈ logicPages then 5 else s.pageHome p)
    if 0x10 ≤ p ∧ p < 0x14 then (s.setPort (p - 0x10) { s.port (p - 0x10) with isolated := false }).train (p - 0x10)
    else if p = 0x14 then s.train 4
    else s

/-- Offline ends: the logic die leaves its Hold (R451, R548). -/
def State.endOffline (s : State) : State :=
  if s.on BIST_ENG_STAT.offline then (s.clr BIST_ENG_STAT.offline).pagesBack else s

/-- The self-test engine stops in a state of BIST_ENG_STAT: its target is re-initialised, Offline ends, and so does every
sensor offset (R549, R551). -/
def State.endBist (s : State) (st : Nat) : State :=
  let s := { s with bist := { s.bist with inj := s.bist.inj.filter fun e => decide (e.1 ≠ 7) } }
  (s.endStep.endOffline).wr BIST_ENG_STAT.state st

/-- The step in progress is abandoned (R549). -/
def State.abandonStep (s : State) : State :=
  if s.rd BIST_ENG_STAT.state ≠ 1 then s else
  let n := s.rd BIST_ENG_STAT.step
  ({ s with bist := { s.bist with results := Sparse.set (fun _ => (0, 0, false)) s.bist.results n (0, 0, true) } } :
    State).endBist 3

/-- The device stops for a Bind (R141, steps 1 to 3): requests drain, PCs wake, the Checkpoint stops and the tag cache is
flushed (R149, R209). -/
def State.stopForBind (s : State) : State := ((s.wakeDomains.drain).wakePcs.stopCheckpoint).flushTags

end Sys2Proof.Machine
end

