-- ==== Sys2Proof/Machine/Bank.lean ====
section
/-!
DEFINITION. The Reserve Bank: its EEPROM and records (R168 to R170, R575 to R578), sampling and charging (R171, R172),
measurement (R173 to R178), the power-fail detector (R183, R535) and the power-fail declaration (R22, R141, R185).
-/

namespace Sys2Proof.Machine

/-! ## The identity EEPROM -/

/-- A little-endian field of the EEPROM (R168). -/
def eeNum (d : EepromData) (off n : Nat) : Nat :=
  ((d.bytes.drop off).take n).foldr (fun b v => b.toNat + 256 * v) 0

/-- The bytes of a little-endian field. -/
def leBytes : Nat → Nat → List Byte
  | 0, _ => []
  | n + 1, v => BitVec.ofNat 8 v :: leBytes n (v / 256)

/-- One byte of CRC-16 with polynomial 0x1021, most significant bit first (R168). -/
def crc16Byte (c : BitVec 16) (b : Byte) : BitVec 16 :=
  (List.range 8).foldl (fun (c : BitVec 16) _ => if c.msb then (c <<< 1) ^^^ 0x1021#16 else c <<< 1)
    (c ^^^ (b.zeroExtend 16 <<< 8))

/-- CRC-16 with polynomial 0x1021 and initial value 0xFFFF (R168). -/
def crc16 (l : List Byte) : BitVec 16 := l.foldl crc16Byte 0xFFFF#16

/-- A 32-byte block of the EEPROM verifies: its last two bytes hold the CRC over its first 30 (R168). -/
def eeVerifies (d : EepromData) (off : Nat) : Bool :=
  decide ((crc16 ((d.bytes.drop off).take 30)).toNat = eeNum d (off + 0x1E) 2)

/-- The factory block, where its magic and CRC hold (R168, R170). -/
def EepromData.factory (d : EepromData) : Option EepromFactory :=
  if eeNum d 0 2 = 0xD7A5 ∧ eeVerifies d 0 then
    some { format := eeNum d 2 1, cells := eeNum d 3 1, capMf := eeNum d 4 2, voltDv := eeNum d 6 2, year := eeNum d 8 2
           month := eeNum d 0x0A 1, day := eeNum d 0x0B 1, esr := eeNum d 0x0C 2, maxMa := eeNum d 0x0E 2
           serial := eeNum d 0x10 8 }
  else none

/-- The record at an offset, where its CRC verifies (R168, R169). -/
def eeRecord (d : EepromData) (off : Nat) : Option EepromRec :=
  if eeVerifies d off then
    some { seq := eeNum d off 4, cycles := eeNum d (off + 4) 4, capUf := eeNum d (off + 8) 4, esr := eeNum d (off + 0x0C) 2
           unit := eeNum d (off + 0x0E) 2, time := eeNum d (off + 0x10) 8 }
  else none

/-- The bytes of a record with its CRC: its reserved bytes are 0 (R168). -/
def recordBytes (r : EepromRec) : List Byte :=
  let l := leBytes 4 r.seq ++ leBytes 4 r.cycles ++ leBytes 4 r.capUf ++ leBytes 2 r.esr ++ leBytes 2 r.unit ++
    leBytes 8 r.time ++ leBytes 6 0
  l ++ leBytes 2 (crc16 l).toNat

/-- The offset of the current record: the valid one with the higher sequence (R169). -/
def eeCurrentAt (d : EepromData) : Option Nat :=
  match eeRecord d 0x40, eeRecord d 0x60 with
  | some a, some b => some (if b.seq ≤ a.seq then 0x40 else 0x60)
  | some _, none => some 0x40
  | none, some _ => some 0x60
  | none, none => none

/-- The current record (R169). -/
def EepromData.current (d : EepromData) : Option EepromRec := (eeCurrentAt d).bind (eeRecord d)

/-- The current record of the bank, as last read. -/
def State.bankRecord (s : State) : Option EepromRec := s.bank.eeprom.bind EepromData.current

/-- The bank is identified: its EEPROM answered and its factory block verifies (R170). -/
def State.identified (s : State) : Bool :=
  (s.bank.eeprom.bind EepromData.factory).isSome

/-- BANK_STAT.presence of a bank that has not failed. -/
def State.presenceNow (s : State) : Nat := if s.identified then 1 else 2

/-- The ESR in force is above 0.139 Ω or not: as it comes to be so, that is reported (R175). -/
def State.judgeEsr (s : State) (esr : Nat) (again : Bool) : State :=
  let was := s.on BANK_STAT.esr_high
  let s := s.wrb BANK_STAT.esr_high (decide (1390 < esr))
  if 1390 < esr ∧ (again ∨ !was) then (s.cause 0x1C 4).err 0x1C 0x0603 esr else s

/-- The C, ESR and end voltage in force from the current record, until a measurement of this start is valid (R175,
R178). -/
def State.provisional (s : State) : State :=
  if s.on BANK_STAT.meas_valid then s else
  let c := match s.bankRecord with | some r => r.capUf * 77 / 100 | none => 0
  let e := match s.bankRecord with | some r => r.esr | none => 0
  (((s.wr BANK_CAP.uf (min c (2 ^ 22 - 1))).wr BANK_ESR.esr e).wr BANK_VEND.mv (endVoltage e)).judgeEsr e false

/-- The registers that the EEPROM gives (R188). -/
def State.bankFields (s : State) : State :=
  let s := match s.bank.eeprom.bind EepromData.factory with
    | some f =>
      let s := (s.wr BANK_RATED.cap_mf f.capMf).wr BANK_RATED.volt_dv f.voltDv
      ((s.wr BANK_MFG_DATE.year f.year).wr BANK_MFG_DATE.month f.month).wr BANK_MFG_DATE.day f.day
    | none => s
  match s.bankRecord with
  | some r => (s.wr BANK_CYCLES.count r.cycles).wrb BANK_STAT.foreign (decide (r.unit ≠ s.rd SYS_UNIT.unit))
  | none => (s.wr BANK_CYCLES.count 0).clr BANK_STAT.foreign

/-- The bank is unidentified (R170). -/
def State.unidentified (s : State) : State :=
  let s := { s with bank := { s.bank with eeprom := none } }
  let s := if s.rd BANK_STAT.presence = 3 then s else s.wr BANK_STAT.presence 2
  (((s.err 0x1C 0x0601 0).bankFields).provisional.fixEnergy).fixBudget

/-- A bank bus operation has failed (R581, R582). -/
def State.busFailed (s : State) : State :=
  ((s.bump SB_BANK_ERR.count).cause 0x08 3).clr SB_BANK_STAT.last_ok

/-- A read of the EEPROM has returned its bytes (R168, R576). -/
def State.eepromRead (s : State) (d : EepromData) : State :=
  let s := ((s.put SB_BANK_STAT.present).put SB_BANK_STAT.last_ok).clr SB_BANK_STAT.busy
  let s := { s with
    bank := { s.bank with eeprom := some d, eepromRead := true }
    sb := { s.sb with retrying := none, stuckRun := 0 } }
  let s := if s.rd BANK_STAT.presence = 3 then s else s.wr BANK_STAT.presence s.presenceNow
  let s := if s.identified then s else s.err 0x1C 0x0601 0
  ((s.bankFields).provisional.fixEnergy).fixBudget

/-- A read of the EEPROM (R576): an address that is not acknowledged is retried. -/
def State.readEeprom (s : State) (data : Option EepromData) : State :=
  let s := s.wr SB_BANK_STAT.retries 0
  match data with
  | some d => s.eepromRead d
  | none => ({ s with sb := { s.sb with retrying := some 0 } } : State).put SB_BANK_STAT.busy

/-- The third retry has failed: the bank is unidentified, or its values stand where it was identified earlier in this
start (R576). -/
def State.readFailed (s : State) : State :=
  let s := (((({ s with sb := { s.sb with retrying := none } } : State).clr SB_BANK_STAT.busy).clr
    SB_BANK_STAT.present)).busFailed
  if s.identified then s.err 0x08 0x1503 0 else s.unidentified

/-- EEPROM_REREAD (R576): during a record write it waits until the read-back ends (R577). -/
def execEepromReread (who : Accessor) (data : Option EepromData) (s : State) : Result :=
  .next <| s.command who 0x1C 0x108 fun s =>
    if !s.sys.vauxGood then s
    else if s.bank.recWrite.isSome then { s with bank := { s.bank with rereadWaits := true } }
    else s.readEeprom data

/-- BANK_BUS_RETRY (R576). -/
def execBankBusRetry (data : Option EepromData) (s : State) : Result :=
  match s.sb.retrying with
  | none => .next s
  | some n =>
    let s := (s.advance psMs).count SB_BANK_STAT.retries 1
    match data with
    | some d => .next (s.eepromRead d)
    | none => .next (if 2 ≤ n then s.readFailed else { s with sb := { s.sb with retrying := some (n + 1) } })

/-- BANK_BUS_STUCK (R578): the bus is cleared; after three clears in a row that leave it low the bank is unidentified. -/
def execBankBusStuck (stillLow : Bool) (s : State) : Result :=
  if !s.sys.vauxGood || s.bank.recWrite.isSome || s.sb.retrying.isSome then .next s else
  let n := if stillLow then s.sb.stuckRun + 1 else 0
  let s := ({ s with sb := { s.sb with stuckRun := n } } : State).bump SB_BANK_CLEARS.count
  let s := s.err 0x08 0x1503 0
  .next (if n = 3 then ((s.clr SB_BANK_STAT.present).busFailed).unidentified else s)

/-! ## Records -/

/-- A record falls due: after a valid measurement, or after a cycle (R169). -/
def State.dueRecord (s : State) (cycles : Nat) : State :=
  { s with bank := { s.bank with recDue := some (s.bank.recDue.getD 0 + cycles) } }

/-- The record that is written: the sequence is raised by 1, and a record that no measurement of this start stands behind
keeps the last measured values and their time (R168, R169). -/
def State.newRecord (s : State) (cycles : Nat) : EepromRec :=
  let old := s.bankRecord
  { seq := (old.map (·.seq)).getD 0 + 1
    cycles := (old.map (·.cycles)).getD 0 + cycles
    capUf := if s.on BANK_STAT.meas_valid then s.rd BANK_CAP.uf else (old.map (·.capUf)).getD 0
    esr := s.rd BANK_ESR.esr
    unit := s.rd SYS_UNIT.unit
    time := if s.on BANK_STAT.meas_valid then s.rd64 BANK_MEAS_TIME_LO.time BANK_MEAS_TIME_HI.time
      else (old.map (·.time)).getD 0 }

/-- EEPROM_RECORD_WRITE (R577): the write of a due record begins. None is written during a Bind. -/
def execEepromRecordWrite (s : State) : Result :=
  match s.bank.recDue with
  | none => .next s
  | some k =>
    if s.bank.recWrite.isSome || s.sb.retrying.isSome || s.bank.eeprom.isNone || !s.sys.vauxGood || s.bindBusy ||
        decide (s.sys.phase = .failing) then .next s
    else
      .next (({ s with bank := { s.bank with recDue := none, recWrite := some (s.newRecord k, 1) } } : State).put
        SB_BANK_STAT.busy)

/-- The EEPROM with a record in the slot that is not current (R169). -/
def EepromData.withRecord (d : EepromData) (r : EepromRec) : EepromData :=
  let off := if eeCurrentAt d = some 0x40 then 0x60 else 0x40
  { d with bytes := d.bytes.take off ++ recordBytes r ++ d.bytes.drop (off + 32) }

/-- The record write has ended; a reread that waited runs and sees the record (R577). -/
def State.recordEnds (s : State) : State :=
  let s := s.clr SB_BANK_STAT.busy
  let waits := s.bank.rereadWaits
  let s := { s with bank := { s.bank with recWrite := none, rereadWaits := false } }
  if waits then s.readEeprom s.bank.eeprom else s

/-- EEPROM_WRITE_CYCLE_DONE (R575, R577): the first page is followed by the second; after the second the slot is read
back. A check that fails repeats the whole write once. -/
def execEepromWriteCycleDone (verified : Bool) (s : State) : Result :=
  match s.bank.recWrite with
  | none => .next s
  | some (r, n) =>
    let step (k : Nat) : State := { s with bank := { s.bank with recWrite := some (r, k) } }
    if n = 1 ∨ n = 3 then .next ((step (n + 1)).emit (.eepromWrite (r.seq) 1))
    else if verified then
      let s := ({ s with bank := { s.bank with eeprom := s.bank.eeprom.map fun d => EepromData.withRecord d r } } : State).emit
        (.eepromWrite r.seq 2)
      .next ((s.put SB_BANK_STAT.last_ok).bankFields).recordEnds
    else if n = 2 then .next (step 3)
    else .next ((s.busFailed).err 0x1C 0x0607 0).recordEnds

/-! ## The budget's bank -/

/-- The bank has failed or is lost (R174, R182). -/
def State.bankLost (s : State) : State := (((s.wr BANK_STAT.presence 3).cause 0x1C 5).err 0x1C 0x0605 0)

/-- E and B follow the open-circuit voltage (R172, R179, R182). -/
def State.followBank (s : State) : State := s.fixEnergy.fixBudget

/-- The highest charge target in mV (R170, R171). -/
def State.targetTop (s : State) : Nat := if s.identified then min 58000 (96 * s.rd BANK_RATED.volt_dv) else 24000

/-- The charge target in mV (R171). -/
def State.chargeTarget (s : State) : Nat := min (500 * s.rd BANK_CTL.target) s.targetTop

/-- The charge current in mA for a current that the headroom under the power cap allows: i_max, the bank's own maximum or
the 2 A of an unidentified one, and at least the 0.25 A floor of the headroom (R25, R170, R171). -/
def State.chargeLimit (s : State) (headroomMa : Nat) : Nat :=
  let most := match s.bank.eeprom.bind EepromData.factory with
    | some f => f.maxMa
    | none => 2000
  min (min (125 * s.rd BANK_CTL.i_max) most) (max 250 headroomMa)

/-! ## Measurement -/

/-- A measurement begins with V0 in mV (R173). -/
def State.beginMeasure (s : State) (v0Mv : Nat) : State :=
  if s.on BANK_STAT.measuring || decide (s.sys.phase = .off ∨ s.sys.phase = .failing) then s else
  let s := ((s.put BANK_STAT.measuring).clr BANK_STAT.charging).put BANK_PF_STAT.bank_sw
  { s with bank := { s.bank with measAt := s.now, v0 := v0Mv * 100, v1 := none, v2 := none, retryAt := none } }

/-- MEASURE (R173): ignored while one runs. -/
def execMeasure (who : Accessor) (v0Mv : Nat) (s : State) : Result :=
  .next <| s.command who 0x1C 0x108 fun s => s.beginMeasure v0Mv

/-- MEASURE_PERIOD_EXPIRY (R173). -/
def execMeasurePeriodExpiry (v0Mv : Nat) (s : State) : Result :=
  if !(s.bank.startMeasured || decide (s.bank.discards ≠ 0)) || !s.present 0x1C then .next s
  else .next ((s.advanceTo (s.bank.measAt + s.rd BANK_MEAS_CTL.period_h * psH)).beginMeasure v0Mv)

/-- MEASURE_SAMPLE (R173): V1 at 100 µs, V2 at 10 ms. -/
def execMeasureSample (second : Bool) (v : Nat) (s : State) : Result :=
  if !s.on BANK_STAT.measuring then .next s
  else if second then
    let s := s.advanceTo (s.bank.measAt + 10 * psMs)
    .next { s with bank := { s.bank with v2 := some v } }
  else
    let s := s.advanceTo (s.bank.measAt + 100 * psUs)
    .next { s with bank := { s.bank with v1 := some v } }

/-- The bank switch opens, unless a dip of VIN holds it closed (R173, R183). -/
def State.openSwitch (s : State) : State :=
  if s.on BANK_PF_STAT.vin_low || decide (s.sys.phase = .failing) then s else s.clr BANK_PF_STAT.bank_sw

/-- A measurement is discarded: it is repeated after 1 s, and after the third in a row the bank has failed (R174). -/
def State.discardMeasure (s : State) : State :=
  let n := s.bank.discards + 1
  let s := s.err 0x1C 0x0606 0
  let s := { s with bank := { s.bank with discards := n, retryAt := if n < 3 then some (s.now + psS) else none } }
  if 3 ≤ n then (if s.rd BANK_STAT.presence = 3 then s else s.bankLost).followBank else s

/-- The marks of a measured bank: worn, and a high ESR (R174, R175). -/
def State.judgeBank (s : State) (c esr : Nat) : State :=
  let worn := s.identified && decide (c * 10 < s.rd BANK_RATED.cap_mf * 1000 * 7)
  let s := s.wrb BANK_STAT.worn worn
  let s := if worn then (s.cause 0x1C 3).err 0x1C 0x0602 c else s
  s.judgeEsr esr true

/-- A valid measurement is in force (R174 to R176). -/
def State.acceptMeasure (s : State) (c esr v3 : Nat) : State :=
  let s := { s with bank := { s.bank with discards := 0, startMeasured := true } }
  let s := ((s.wr BANK_CAP.uf c).wr BANK_ESR.esr (min esr 0xFFFF)).wr BANK_VEND.mv (endVoltage (min esr 0xFFFF))
  let s := ((s.put BANK_STAT.meas_valid).bump BANK_MEAS_CNT.count).wr64 BANK_MEAS_TIME_LO.time BANK_MEAS_TIME_HI.time s.tbOr0
  let s := (s.wr BANK_STAT.presence s.presenceNow).wr BANK_VBANK.mv (v3 / 100)
  (((s.judgeBank c esr).cause 0x1C 1).dueRecord 0).followBank

/-- The charger is on and may charge (R171, R173, R188). -/
def State.chargerOn (s : State) : Bool :=
  s.on BANK_CTL.charge_en && !s.on BANK_STAT.measuring && decide (s.sys.phase ≠ .failing)

/-- MEASURE_END (R173, R174): the charger resumes; C and ESR come from the four samples, or the measurement is discarded.
-/
def execMeasureEnd (v3 : Nat) (s : State) : Result :=
  match s.on BANK_STAT.measuring, s.bank.v1, s.bank.v2 with
  | true, some v1, some v2 =>
    let s := ((s.advanceTo (s.bank.measAt + 200 * psMs)).clr BANK_STAT.measuring).openSwitch
    let s := s.wrb BANK_STAT.charging (s.chargerOn && decide (v3 / 100 < s.chargeTarget))
    let esr := (s.bank.v0 - v1) / 5
    let c := if v3 < v2 then 9500000000 / (v2 - v3) else 0
    if c < 20000 ∨ 1000000 < c ∨ v3 < 1000000 then .next s.discardMeasure
    else .next (s.acceptMeasure c esr v3)
  | _, _, _ => .next s

/-- MEASURE_RETRY (R174). -/
def execMeasureRetry (v0Mv : Nat) (s : State) : Result :=
  match s.bank.retryAt with
  | none => .next s
  | some t => .next ((s.advanceTo t).beginMeasure v0Mv)

/-! ## Housekeeping -/

/-- The VIN sample is compared with the fast comparator: a disagreement of more than 0.5 V across the threshold in two
rounds in a row is fatal (R535). -/
def State.checkDetector (s : State) (vinMv : Nat) : State :=
  let t := s.rd BANK_PF_CTL.vin_thresh * 100
  let bad := if s.on BANK_PF_STAT.vin_low then decide (t + 500 < vinMv) else decide (vinMv + 500 < t)
  let n := if bad then s.bank.vinDisagree + 1 else 0
  let s := { s with bank := { s.bank with vinDisagree := n } }
  if n = 2 then s.errImmediate 0x07 0x1208 0 else s

/-- The charge current of a round, in mA: constant, at its limit, below the target; what holds the bank there, within the
limit, at it; none with the charger off (R171). -/
def State.chargeNow (s : State) (vbankMv ichgMa headroomMa : Nat) : Nat :=
  if !s.chargerOn then 0
  else if vbankMv < s.chargeTarget then s.chargeLimit headroomMa
  else min ichgMa (s.chargeLimit headroomMa)

/-- The samples of a round (R171, R172). -/
def State.sampleBank (s : State) (vbankMv ichgMa headroomMa vinMv : Nat) : State :=
  let ma := s.chargeNow vbankMv ichgMa headroomMa
  let s := ((s.wr BANK_VIN.mv (min vinMv 0xFFFF)).wr BANK_ICHG.ma (min ma 0xFFF)).wrb SYS_SUPPLY.vbank_present
    (decide (10000 ≤ vbankMv))
  let s := s.wr BANK_VBANK.mv (min (vbankMv - ma * s.rd BANK_ESR.esr / 10000) 0xFFFF)
  let t := s.chargeTarget
  let s := s.wrb BANK_STAT.at_target (decide (t ≤ vbankMv + 500 ∧ vbankMv ≤ t + 500))
  s.wrb BANK_STAT.charging (s.chargerOn && decide (vbankMv < t))

/-- A cycle is counted when the charger has brought the bank back to its target from below 90 % of it (R169). -/
def State.countCycle (s : State) (vbankMv : Nat) : State :=
  if s.on BANK_STAT.at_target ∧ s.bank.below90 then
    ({ s with bank := { s.bank with below90 := false } } : State).dueRecord 1
  else if vbankMv * 10 < s.chargeTarget * 9 then { s with bank := { s.bank with below90 := true } }
  else s

/-- BANK_HOUSEKEEPING_ROUND (R172): the samples, the loss of the bank (R182), the energy and the budget, the cycle count,
the first measurement of a start once VBANK is at least 12 V (R173), and the check of the detector (R535). -/
def execBankHousekeepingRound (vbankMv : Nat) (charge : ChargeCurrent) (vinMv : Nat) (s : State) : Result :=
  if s.sys.phase = .off then .next s else
  let s := match s.bank.roundAt with
    | some t => s.advanceTo (t + 10 * psMs)
    | none => s
  let s := { s with bank := { s.bank with roundAt := some s.now } }
  if !s.present 0x1C then .next (s.checkDetector vinMv) else
  let prev := s.bank.sampleMv
  let s := s.sampleBank vbankMv charge.takenMa charge.headroomMa vinMv
  let s := { s with bank := { s.bank with sampleMv := vbankMv } }
  let vend := s.rd BANK_VEND.mv
  let lost := decide (vbankMv + 2000 < prev) || (decide (vend ≤ prev) && decide (vbankMv < vend))
  let s := if lost ∧ s.rd BANK_STAT.presence ≠ 3 then (s.fixEnergy.bankLost).fixBudget else s.followBank
  let s := s.countCycle vbankMv
  let s := if !s.bank.startMeasured ∧ s.bank.discards = 0 ∧ 12000 ≤ vbankMv then s.beginMeasure vbankMv else s
  .next (s.checkDetector vinMv)

/-! ## The power-fail detector -/

/-- VIN_BELOW_THRESHOLD (R183): the bank switch closes, and the filter runs. -/
def execVinBelowThreshold (s : State) : Result :=
  if s.sys.phase = .off ∨ s.on BANK_PF_STAT.vin_low then .next s else
  let s := (s.put BANK_PF_STAT.vin_low).put BANK_PF_STAT.bank_sw
  let s := if s.rd BANK_PF_CTL.vin_thresh ≤ 88 then s.clr SYS_SUPPLY.vin_good else s
  .next { s with bank := { s.bank with vinLowAt := some s.now } }

/-- VIN_RECOVERED (R183): before the filter expires the dip is over; after a declaration it changes nothing but the
comparator (R185). -/
def execVinRecovered (s : State) : Result :=
  if !s.on BANK_PF_STAT.vin_low then .next s else
  let s := ({ s with bank := { s.bank with vinLowAt := none } } : State).clr BANK_PF_STAT.vin_low
  if s.sys.phase = .failing ∨ s.sys.phase = .off then .next s
  else
    let s := if s.on BANK_STAT.measuring then s else s.clr BANK_PF_STAT.bank_sw
    .next ((s.bump BANK_RIDETHRU.count).cause 0x1C 6)

/-- PFAIL_N_LOW (R183). -/
def execPfailNLow (s : State) : Result :=
  if s.bank.pfailLowAt.isSome then .next s else
  .next (({ s with bank := { s.bank with pfailLowAt := some s.now } } : State).put BANK_PF_STAT.pfail)

/-- PFAIL_N_RELEASE (R183). -/
def execPfailNRelease (s : State) : Result :=
  .next (({ s with bank := { s.bank with pfailLowAt := none } } : State).clr BANK_PF_STAT.pfail)

/-- The condition of VIN, and that of PFAIL_N, to declare power failure (R183). -/
def State.pfailAsserted (s : State) : Bool := s.on BANK_PF_STAT.pfail && s.on BANK_PF_CTL.pfail_en

/-- The instant at which the declaring input's own filter has run out (R183). -/
def State.declareAt (s : State) (byVin : Bool) : Nat :=
  if byVin then s.bank.vinLowAt.getD s.now + s.rd BANK_PF_CTL.filter_us * psUs
  else s.bank.pfailLowAt.getD s.now + 2 * psUs

/-- What power failure does to the device as a whole (R22, R141, R185): the input opens, measurement and Chisel end, the
ports take no more flits, and every accepted request completes. -/
def State.failPower (s : State) (cause : Nat) : State :=
  let s := ((s.put BANK_PF_STAT.input_open).put BANK_PF_STAT.bank_sw).wr BANK_PF_LAST.cause cause
  let s := ((s.clr BANK_PF_LAST.false_alarm).clr BANK_STAT.measuring).clr BANK_STAT.charging
  let s := { s with bank := { s.bank with v1 := none, v2 := none, retryAt := none } }
  let s := ({ s with chisel := ChiselState.reset } : State).stopForBind
  -- The cap controller stops with no slot withheld (R501), and running calibration stops (R479).
  let s := (s.clr THERM_PCAP_STAT.cap_skip).clr THERM_PCAP_STAT.binding
  let s := s.forAll (List.range 69) fun s u => if s.calMode u = 0 then s else (s.stopRun u).setCalMode u 3
  { s.lanesOff.abandonStep with sys := { s.sys with phase := .failing } }

/-- A start that has not reached the end of step 6 of R151 is abandoned, and nothing is bound (R448). -/
def State.startAbandoned (s : State) : Bool := decide (s.sys.phase = .starting) && decide (s.rd SYS_START_STAT.stage ≤ 7)

/-- A shutdown has passed its Bind: its self-test is abandoned (R455). -/
def State.shutdownBound (s : State) : Bool :=
  decide (s.sys.phase = .shutdown) && s.folio.bindDue.isNone && s.folio.running.isNone

/-- The Safe State Bind is due, runs or has ended: no other Bind follows it (R520). -/
def State.bindOwing (s : State) : Bool := s.folio.bindDue.isSome || s.bindRuns

/-- POWER_FAIL_DECLARE (R183, R185): a start before its image is chosen, and a shutdown after its Bind, end at once; a
Bind that runs goes on; otherwise a Bind is due, a shutdown's as one of kind 1 (R144, R448, R455). -/
def execPowerFailDeclare (byVin byPfail : Bool) (s : State) : Result :=
  let vin := s.on BANK_PF_STAT.vin_low
  let pf := s.pfailAsserted
  if s.sys.phase = .off ∨ s.sys.phase = .failing ∨ !((byVin && vin) || (byPfail && pf)) then .next s else
  let s := s.advanceTo (s.declareAt (byVin && vin))
  let cause := (if vin then 1 else 0) + (if pf then 2 else 0)
  if s.startAbandoned then .next ((s.wr BANK_PF_LAST.cause cause).clr BANK_PF_LAST.false_alarm).powerOff
  else if s.shutdownBound then
    .next ((({ s with sys := { s.sys with shutdownCut := true } } : State).wr BANK_PF_LAST.cause cause).clr
      BANK_PF_LAST.false_alarm).powerOff
  else
    let safe := s.safe
    let s := s.failPower cause
    if s.bindRuns then .next s
    else if safe ∧ s.folio.bindDue.isNone then .next s.powerOff
    else
      let due := match s.folio.bindDue with
        | some (4, _) => some (1, false)
        | some d => some d
        | none => some (1, false)
      .next { s with folio := { s.folio with bindDue := due } }

/-! ## The Bind -/

/-- The end of power of a failing device: it starts afresh where VIN is good, from that VIN, and is off otherwise (R141,
R184, R185, R443); either way the start that follows is one after a power-fail Bind (R460). -/
def State.endPower (s : State) (vinMv : Nat) : State :=
  let good := decide (8800 < vinMv)
  let s := ((s.storeTb).wrb BANK_PF_LAST.false_alarm good).wrb SYS_SUPPLY.vin_good good
  if good then (s.judgeBus vinMv).powerOn 3 true
  else ({ s with sys := { s.sys with afterBind := true } } : State).powerOff

/-- What follows a Bind with power, or one with nothing to write: the Bind of a shutdown that waited for a Safe State Bind,
which commits even with nothing to program (R523); or the shutdown's self-test, or Safe State. -/
def State.afterBindPowered (s : State) (safe : Bool) : State :=
  if s.sys.phase = .shutdown ∧ safe ∧ s.persists then
    { s.storeTb with folio := { s.storeTb.folio with bindDue := some (4, false) } }
  else s.storeTb

/-- What follows a Bind: at a power failure, the end of power. -/
def State.afterBind (s : State) (safe : Bool) (vinMv : Nat) : State :=
  if s.sys.phase = .failing then s.endPower vinMv else s.afterBindPowered safe

/-- The Dirty quires in ascending order: what a Bind programs (R141). -/
def State.bindQuires (s : State) : List Nat := s.quiresIn .dirty

/-- A Bind of kind 1 writes nothing: no quire is Dirty or Staged, and nothing has changed since the last commit (R142).
-/
def State.nothingToBind (s : State) : Bool := s.dirty == 0 && s.staged == 0 && !s.folio.changed

/-- The Bind begins: it takes its BSN with a marker, and programs every Dirty quire in turn (R135, R141, R143). -/
def State.beginBind (s : State) (kind : Nat) (safe : Bool) : State :=
  let s := s.advance (50 * psUs)
  let b := s.takeBsn true
  let c : Commit := {
    kind := kind, safe := safe, bsn := b.1, startAt := b.2.now, todo := b.2.bindQuires, flight := [], reclaim := []
    programmed := 0, urgent := true }
  let r := b.2.pump c c.todo.length
  { r.1 with folio := { r.1.folio with running := some r.2, bindDue := none } }

/-- The Safe State Bind has ended without a commit of its own: nothing was to be bound, or persistence is not active. -/
def State.bindSkipped (s : State) (safe : Bool) : State :=
  let s := { s with folio := { s.folio with bindDue := none } }
  if safe then { s.clr ERRPIN_SAFE_STAT.bind_run with sys := { s.sys with bindOwed := false } } else s

/-- BIND_START (R141, R142, R144, R520): the Bind that is due, once the device has stopped for it. One with nothing to write
is over, but for the end of power at a power failure. -/
def execBindStart (s : State) : Result :=
  if s.bindRuns then .next s else
  match s.folio.bindDue with
  | none => .next s
  | some (kind, safe) =>
    let s := s.stopForBind.blowFuse
    if !s.persists ∨ (kind ≠ 4 ∧ s.nothingToBind) then
      let s := s.bindSkipped safe
      .next (if s.sys.phase = .failing then { s with folio := { s.folio with bindEmpty := true } } else s.afterBindPowered safe)
    else .next (s.beginBind kind safe)

/-- A Bind has committed: its image holds the mirror area too (R278). -/
def State.bindDone (s : State) (c : Commit) (p0 p1 : Bool) : State :=
  let s := s.commit c p0 p1
  let s := { s with folio := { s.folio with doveRecord := s.doveRecordNow } }
  if c.safe then
    { ((s.put ERRPIN_SAFE_STAT.bind_committed).clr ERRPIN_SAFE_STAT.bind_run).cause 0x07 4 with
      sys := { s.sys with bindOwed := false } }
  else s

/-- A Bind has failed to commit (R138); after that of Safe State persistence is Failed (R161, R520). -/
def State.unbound (s : State) (c : Commit) : State :=
  let s := { s with folio := { s.folio with running := none } }
  let s := s.err 0x1B 0x0509 0
  if c.safe then
    let s := (((s.put ERRPIN_SAFE_STAT.bind_failed).clr ERRPIN_SAFE_STAT.bind_run).cause 0x07 4).err 0x07 0x1203 0
    (({ s with folio := { s.folio with failed := true } } : State).setPersist 3).fixLevel.err 0x1B 0x0505 0
  else s

/-- BIND_COMMIT (R138, R140, R141, R142, R185): the records, the map and the Colophon are written, and the power stage shuts
down; of a Bind with nothing to write, only the last. -/
def execBindCommit (p0 p1 : Bool) (vinMv : Nat) (s : State) : Result :=
  match s.folio.running with
  | none =>
    .next (if s.sys.phase = .failing ∧ s.folio.bindEmpty then
      ({ s with folio := { s.folio with bindEmpty := false } } : State).endPower vinMv else s)
  | some c =>
    if (c.kind ≠ 1 ∧ c.kind ≠ 4) ∨ c.todo ≠ [] then .next s else
    let s := s.advanceTo (c.startAt + bindPs c.programmed)
    .next ((if p0 || p1 then s.bindDone c p0 p1 else s.unbound c).afterBind c.safe vinMv)

/-- BANK_END_VOLTAGE (R144): the power stage of a device that runs from its bank stops, and a Bind ends without a
Colophon. -/
def execBankEndVoltage (s : State) : Result :=
  if s.sys.phase ≠ .failing then .next s
  else .next ({ s with folio := { s.folio with running := none, bindDue := none, bindEmpty := false } } : State).powerOff

end Sys2Proof.Machine
end

