-- ==== Sys2Proof/Machine/Gauge.lean ====
section
/-!
DEFINITION. The commands of the Gauge: the window start (R232) and the sweep of its table (R241).
-/

namespace Sys2Proof.Machine

/-- GAUGE_WINDOW_START (R232): the window in progress ends at its next multiple; one that did not begin at a multiple, or
that began under another length, may be short. -/
def execGaugeWindowStart (s : State) : Result :=
  if s.sys.phase = .off then .next s else
  let s := s.advance s.windowLeft
  .next (s.endWindow s.windowShort)

/-- A pair entry returns to its reset values (R240, R241). -/
def State.resetPair (s : State) (p : Nat) : State :=
  let s := ((s.wr (GAUGE_PAIR_CFG.map_class.ix p) (p % 8)).clr (GAUGE_PAIR_CFG.budget_en.ix p)).clr
    (GAUGE_PAIR_CFG.guar_en.ix p)
  let s := (s.wr (GAUGE_PAIR_BUDGET.lines.ix p) 0).wr (GAUGE_PAIR_GUAR.lines.ix p) 0
  let s := { s with gauge := { s.gauge with stagedPairs := s.gauge.stagedPairs.filter fun q => decide (q ≠ p) } }
  s.setPair p (PairForce.reset p)

/-- GAUGE_TABLE_SWEEP (R241). -/
def execGaugeTableSweep (corrected uncorrectable : List (Fin 208)) (s : State) : Result :=
  let s := s.forAll corrected fun s _ => s.err 0x18 0x0801 0
  .next (s.forAll uncorrectable fun s p => (s.resetPair p).err 0x18 0x0802 p).fixGauge

end Sys2Proof.Machine
end

