-- ==== Sys2Proof/Machine/Cal.lean ====
section
/-!
DEFINITION. Recalibration of the vias of the pseudo-channels and of the serial lanes (R462 to R483).
-/

namespace Sys2Proof.Machine

/-! ## Settings -/

/-- A value of the start training of a PC; 0 before it (R464). -/
def State.trainedValue (s : State) (pc item limit : Nat) : Nat :=
  match (s.cal pc).trained with
  | some d => Config.trained d pc item % limit
  | none => 0

/-- The read delay of a via: its start reference and the drift since (R463, R466). -/
def State.rdDly (s : State) (pc via : Nat) : Int :=
  (s.trainedValue pc via 128 : Int) + toSigned 8 (s.rd ((PC_CAL_LANE_EYE.drift.pc pc).ix via))

/-- The write delay of a via, from the last write training (R464, R474). -/
def State.wrDly (s : State) (pc via : Nat) : Nat :=
  match (s.cal pc).wrTrained with
  | some d => Config.trained d pc (128 + via) % 128
  | none => 0

/-- Read Vref and write Vref (R463). -/
def State.rdVref (s : State) (pc : Nat) : Int := (s.trainedValue pc 400 64 : Int) + (s.cal pc).vref
def State.wrVref (s : State) (pc : Nat) : Nat :=
  match (s.cal pc).wrTrained with
  | some d => Config.trained d pc 401 % 64
  | none => 0

/-- The eye of a via at start training: its passing window of at least 24 steps (R465). -/
def State.eyeStart (s : State) (pc via : Nat) : Nat :=
  match (s.cal pc).trained with
  | some d => 24 + Config.trained d pc (256 + via) % 105
  | none => 0

/-- A setting of a lane: 0, 1, 2 its thresholds, 3 its sampling phase (R468). -/
def laneSetting (g lane which : Nat) : Fld :=
  (match which with
   | 0 => PHY_CAL_LANE_THR.thr_lo
   | 1 => PHY_CAL_LANE_THR.thr_mid
   | 2 => PHY_CAL_LANE_THR.thr_hi
   | _ => PHY_CAL_LANE_THR.phase).port g |>.ix lane

/-- The width of a lane setting. -/
def settingWidth (which : Nat) : Nat := if which = 3 then 6 else 8

/-- The value of a setting of a unit by the number that its steps carry. -/
def State.setting (s : State) (u n : Nat) : Int :=
  if u < 64 then (if n = 96 then s.rdVref u else s.rdDly u n)
  else toSigned (settingWidth (n % 4)) (s.rd (laneSetting (u - 64) (n / 4) (n % 4)))

/-- A setting moved by one step (R478). -/
def State.moveSetting (s : State) (u n : Nat) (d : Int) : State :=
  if u < 64 then
    if n = 96 then s.setCal u { s.cal u with vref := (s.cal u).vref + d }
    else
      let f := (PC_CAL_LANE_EYE.drift.pc u).ix n
      s.wr f (ofSigned 8 (toSigned 8 (s.rd f) + d))
  else
    let w := settingWidth (n % 4)
    let f := laneSetting (u - 64) (n / 4) (n % 4)
    s.wr f (ofSigned w (toSigned w (s.rd f) + d))

/-! ## Events and ends of a run -/

/-- CAL_RUN (R469). -/
def execCalRun (who : Accessor) (pc : PcNo) (s : State) : Result :=
  .next <| s.command who (0x40 + pc) 0x304 fun s => s.calEvent pc true

/-- PC_CAL_CMD.abort and PHY_CAL_CMD.abort stop a run (R479); one that waits follows it (R470). -/
def State.abortRun (s : State) (u : Nat) : State :=
  let m := s.calMode u
  if m = 0 ∨ m = 3 then s else
  let s := s.stopRun u
  if s.on (calPending u) then s.beginRun u false else s

/-- CAL_ABORT (R479). -/
def execCalAbort (who : Accessor) (pc : PcNo) (s : State) : Result :=
  .next <| s.command who (0x40 + pc) 0x304 fun s => s.abortRun pc

/-- The page through which a lane group's registers are reached: those of DOVE through PORTA (R384, R481). -/
def groupPage (g : Nat) : Nat := if g = 4 then 0x10 else 0x10 + g

/-- PHY_CAL_RUN (R469). -/
def execPhyCalRun (who : Accessor) (group : GroupNo) (s : State) : Result :=
  .next <| s.command who (groupPage group) 0x604 fun s => s.calEvent (64 + group) true

/-- PHY_CAL_ABORT (R479). -/
def execPhyCalAbort (who : Accessor) (group : GroupNo) (s : State) : Result :=
  .next <| s.command who (groupPage group) 0x604 fun s => s.abortRun (64 + group)

/-- CAL_PERIOD_EXPIRY (R469): the period has passed since the last run began. -/
def execCalPeriodExpiry (unit : Fin 69) (s : State) : Result :=
  if s.sys.phase ≠ .active then .next s else
  .next ((s.advanceTo ((s.cal unit).lastAt + s.rd (calFld PC_CAL_CTL.period_s PHY_CAL_CTL.period_s unit) * psS)).calEvent
    unit false)

/-- The interrupt causes of a unit: cal_done, and cal_reject one above it (R482). -/
def calDoneBit (u : Nat) : Nat := if u < 64 then 10 else if u = 68 then 13 else 12

/-- A run is over: it is counted, and a run that waits follows (R470, R480). -/
def State.endRun (s : State) (u : Nat) : State :=
  let c := s.cal u
  let s := (s.bump (calFld PC_CAL_RUNS.count PHY_CAL_RUNS.count u)).wrb
    (calFld PC_CAL_STAT.last_ok PHY_CAL_STAT.last_ok u) (!c.rejected)
  let s := if u < 64 then s.wr64 (PC_CAL_LAST_TIME_LO.time.pc u) (PC_CAL_LAST_TIME_HI.time.pc u) s.tb else s
  let s := if c.accepted then s.wr (calFld PC_CAL_STAT.tj_last PHY_CAL_STAT.tj_last u) (regC (s.driftReading u)) else s
  let s := (s.setCalMode u 0).cause (calPage u) (calDoneBit u)
  let s := if c.rejected then s.cause (calPage u) (calDoneBit u + 1) else s
  if s.on (calPending u) then s.beginRun u false else s

/-- A result is rejected: the old values stand (R476, R477). -/
def State.rejectResult (s : State) (u n : Nat) (run last : Fld) : State :=
  let s := (s.bump (calFld PC_CAL_REJECTS.count PHY_CAL_REJECTS.count u)).put last
  let k := min (s.rd run + 1) 7
  let s := s.wr run k
  let s := s.err (calPage u) (if u < 64 then 0x0150 else 0x0B20) n
  let s := if k = 4 then s.err (calPage u) (if u < 64 then 0x0151 else 0x0B21) n else s
  s.setCal u { s.cal u with rejected := true }

/-- A result is accepted: its steps wait (R478). -/
def State.acceptResult (s : State) (u : Nat) (run last : Fld) (steps : List (Nat × Int)) : State :=
  let s := (s.clr last).wr run 0
  let todo := steps.filter fun e => decide (s.setting u e.1 ≠ e.2)
  s.setCal u { s.cal u with accepted := true, steps := (s.cal u).steps ++ todo }

/-! ## Results of a PC -/

/-- The median of a list of shifts: the middle one, of an even count the lower of the two. -/
def median (l : List Int) : Int := (l.mergeSort (fun a b => decide (a ≤ b))).getD ((l.length - 1) / 2) 0

/-- The shift that a result wants of its via. -/
def State.shiftOf (s : State) (pc : Nat) (r : CalResult) : Int := r.target - s.rdDly pc r.index

/-- The checks of R476 on a via. -/
def State.viaOk (s : State) (pc : Nat) (all : List CalResult) (r : CalResult) : Bool :=
  let d := s.shiftOf pc r
  let others := (all.filter fun x => decide (x.index ≠ r.index)).map (s.shiftOf pc)
  r.complete && decide (16 ≤ r.eye) && decide (d.natAbs ≤ min (2 + s.drift pc) 24) &&
    decide ((d - median others).natAbs ≤ 6)

/-- The result of one via, accepted or rejected (R476). -/
def State.judgeVia (s : State) (pc : Nat) (ok : Bool) (r : CalResult) : State :=
  let run := (PC_CAL_LANE_DLY.reject_run.pc pc).ix r.index
  let last := (PC_CAL_LANE_DLY.rejected_last.pc pc).ix r.index
  if ok then
    (s.wr ((PC_CAL_LANE_EYE.eye.pc pc).ix r.index) (min r.eye 255)).acceptResult pc run last [(r.index, r.target)]
  else s.rejectResult pc r.index run last

/-- The target read Vref of the PC (R474, R476). One that moves by more than 4 steps is rejected; it stands for no via,
and is logged with the number 96. -/
def State.judgeVref (s : State) (pc vref : Nat) : State :=
  if ((vref : Int) - s.rdVref pc).natAbs ≤ 4 then
    s.setCal pc { s.cal pc with
      steps := (s.cal pc).steps ++ (if s.rdVref pc = vref then [] else [(96, (vref : Int))]) }
  else
    let s := (s.bump (PC_CAL_REJECTS.count.pc pc)).err (0x40 + pc) 0x0150 96
    s.setCal pc { s.cal pc with rejected := true }

/-- The narrowest eye of the run and its via (R480). -/
def State.narrowest (s : State) (pc : Nat) (rs : List CalResult) : State :=
  match rs with
  | [] => s
  | r :: rest =>
    let m := rest.foldl (fun (m x : CalResult) => if x.eye < m.eye then x else m) r
    (s.wr (PC_CAL_EYE_MIN.eye.pc pc) (min m.eye 255)).wr (PC_CAL_EYE_MIN.via.pc pc) m.index

/-- The results of a run of a PC: those of erased vias are measured only (R472), and a run begun by a command derives the
write settings anew (R474). -/
def State.judgePc (s : State) (pc : Nat) (results : List CalResult) (vref : Nat) : State :=
  let rs := results.filter fun r => decide (r.index.val < 72)
  let use := rs.filter fun r => !(s.erasedLanes pc).contains r.index.val
  let s := s.narrowest pc rs
  let old := s
  let s := s.forAll use fun s r => s.judgeVia pc (old.viaOk pc use r) r
  let s := s.judgeVref pc vref
  if (s.cal pc).derive_ then s.drawn.setCal pc { s.cal pc with wrTrained := some s.free } else s

/-- The collection is over: steps are applied, or the run ends (R478). -/
def State.applyRun (s : State) (u : Nat) : State :=
  if (s.cal u).steps = [] then s.endRun u else s.setCalMode u 2

/-! ## Results of a lane group -/

/-- The checks of R476 on a lane. -/
def State.laneOk (s : State) (g : Nat) (r : CalResult) : Bool :=
  let lane := r.index.val % 8
  r.complete && r.peaksOk && decide (10 ≤ r.eye) &&
  (r.thresholds.zipIdx.all fun e =>
    let which := if r.thresholds.length = 1 then 1 else e.2
    decide ((e.1 - s.setting (64 + g) (lane * 4 + which)).natAbs ≤ 6)) &&
  decide ((r.target - s.setting (64 + g) (lane * 4 + 3)).natAbs ≤ 4)

/-- The result of one lane: its thresholds, or at an NRZ rate the middle one alone, and its phase (R475, R476). -/
def State.judgeLane (s : State) (g : Nat) (r : CalResult) : State :=
  let lane := r.index.val % 8
  let run := (PHY_CAL_LANE_EYE.reject_run.port g).ix lane
  let last := (PHY_CAL_LANE_EYE.rejected_last.port g).ix lane
  if s.laneOk g r then
    let s := (s.wr ((PHY_CAL_LANE_EYE.height.port g).ix lane) (min r.eye 255)).wr
      ((PHY_CAL_LANE_EYE.width.port g).ix lane) (min r.width 255)
    let s := if r.eye < 16 then s.err (0x10 + g) 0x0B22 lane else s
    s.acceptResult (64 + g) run last
      ((r.thresholds.zipIdx.map fun e => (lane * 4 + (if r.thresholds.length = 1 then 1 else e.2), e.1)) ++
        [(lane * 4 + 3, r.target)])
  else s.rejectResult (64 + g) lane run last

/-- The results of a run of a lane group (R475). -/
def State.judgeGroup (s : State) (g : Nat) (results : List CalResult) : State :=
  let s := match results with
    | [] => s
    | r :: rest =>
      let m := rest.foldl (fun (m x : CalResult) => if x.eye < m.eye then x else m) r
      (s.wr (PHY_CAL_EYE_MIN.height.port g) (min m.eye 255)).wr (PHY_CAL_EYE_MIN.lane.port g) (m.index.val % 8)
  s.forAll results fun s r => s.judgeLane g r

/-- CAL_COLLECTION_COMPLETE (R473 to R477). -/
def execCalCollectionComplete (unit : Fin 69) (results : List CalResult) (vref : Nat) (s : State) : Result :=
  if s.calMode unit ≠ 1 ∧ s.calMode unit ≠ 4 then .next s else
  let s := if unit.val < 64 then s.judgePc unit results vref else s.judgeGroup (unit - 64) results
  .next (s.applyRun unit)

/-- CAL_PROBE_TIMEOUT (R473): probe bursts are issued for the vias that are short. -/
def execCalProbeTimeout (pc : PcNo) (s : State) : Result :=
  if s.calMode pc ≠ 1 then .next s else
  let s := s.advanceTo ((s.cal pc).startAt + 100 * psMs)
  .next ((s.setCal pc { s.cal pc with probed := true }).setCalMode pc 4)

/-- CAL_RUN_TIMEOUT (R473): the run ends with the vias it has; the others are left unchanged and counted. -/
def execCalRunTimeout (pc : PcNo) (results : List CalResult) (vref : Nat) (s : State) : Result :=
  if s.calMode pc ≠ 1 ∧ s.calMode pc ≠ 4 then .next s else
  let s := s.advanceTo ((s.cal pc).startAt + 1000 * psMs)
  let have_ := results.filter fun r => r.complete && decide (r.index.val < 72)
  let short := (List.range 72).filter fun v =>
    !(s.erasedLanes pc).contains v && !have_.any fun r => decide (r.index.val = v)
  let s := if short = [] then s else
    ((s.count (PC_CAL_STARVED.count.pc pc) short.length).cause (0x40 + pc) 12).err (0x40 + pc) 0x0152 (short.headD 0)
  .next ((s.judgePc pc have_ vref).applyRun pc)

/-- CAL_STEP (R478): one step of one via, of read Vref, or of one setting of a lane. -/
def execCalStep (unit : Fin 69) (index : Fin 97) (s : State) : Result :=
  if s.calMode unit ≠ 2 then .next s else
  let mine (e : Nat × Int) : Bool := if unit.val < 64 then decide (e.1 = index.val) else decide (e.1 / 4 = index.val)
  match (s.cal unit).steps.find? mine with
  | none => .next s
  | some (n, target) =>
    let d : Int := if s.setting unit n < target then 1 else -1
    let s := (s.moveSetting unit n d).bump (calFld PC_CAL_STEPS.count PHY_CAL_STEPS.count unit)
    let left := (s.cal unit).steps.filter fun e => decide (e ≠ (n, target)) || decide (s.setting unit n ≠ target)
    let s := s.setCal unit { s.cal unit with steps := left }
    .next (if left = [] then s.endRun unit else s)

end Sys2Proof.Machine
end

