-- ==== Sys2Proof/Machine/Therm.lean ====
section
/-!
DEFINITION. Temperature sensing and throttling (R484 to R502): the sensors, the readings of the dies, the throttle ladder,
the neighbour cross-check, the limits, and the power cap. Temperatures are in units of 0.125 °C.
-/

namespace Sys2Proof.Machine

/-! ## Dies and sensors -/

/-- The die of a sensor (R484): 0 to 15 the DRAM layers, 16 logic, 17 carrier, 18 and 19 P0 and P1. -/
def dieOf (n : Nat) : Nat := if n < 64 then n / 4 else if n < 72 then 16 else if n < 80 then 17 else if n < 82 then 18 else 19

/-- The sensors of a die. -/
def sensorsOf (d : Nat) : List Nat := (List.range 84).filter fun n => decide (dieOf n = d)

/-- The critical and the fatal limit of a die (R491); P0 and P1 have no fatal limit. -/
def State.criticalLimit (s : State) (d : Nat) : Int :=
  if d < 16 then 832 else if d = 16 then 8 * (s.rd THERM_LIMIT.logic_c + 4 : Int) else if d = 17 then 840 else 720
def fatalLimit (d : Nat) : Option Int := if d < 16 then some 840 else if d = 16 then some 880 else if d = 17 then some 920 else none

/-- throttle_c, and throttle_c − hyst_c; for the logic die with logic_c in its place (R489, R494). -/
def State.throttleOn (s : State) (d : Nat) : Int :=
  8 * (if d = 16 then s.rd THERM_LIMIT.logic_c else s.rd THERM_LIMIT.throttle_c : Int)
def State.throttleOff (s : State) (d : Nat) : Int := s.throttleOn d - 8 * (s.rd THERM_LIMIT.hyst_c : Int)

/-- The limits near which a sensor of a die converts fast (R485). -/
def State.limitsOf (s : State) (d : Nat) : List Int :=
  [664, 744, 720, 640, s.throttleOn 0, s.throttleOff 0, 832] ++ (if d = 16 then [s.throttleOn 16] else [])

/-- A temperature lies in the fast band (R485): within 5 °C of a limit. -/
def State.inBand (s : State) (d : Nat) (t : Int) : Bool := (s.limitsOf d).any fun l => decide ((t - l).natAbs ≤ 40)

def State.isFast (s : State) (n : Nat) : Bool := s.on (THERM_SENS_VAL.fast.ix n)
def State.isFailed (s : State) (n : Nat) : Bool := s.on (THERM_SENS_VAL.failed.ix n)

/-- A sensor enters fast conversion (R485). -/
def State.goFast (s : State) (n : Nat) : State :=
  if s.isFast n || s.isFailed n then s else
  (s.put (THERM_SENS_VAL.fast.ix n)).setSensor n { s.sensor n with outRun := 0, readAt := s.now, hist := [] }

/-- The sensors of a die in use. -/
def State.inUse (s : State) (d : Nat) : List Nat :=
  (sensorsOf d).filter fun n => !s.isFailed n && (s.sensor n).value.isSome

/-- The sensor of a die that reads highest, and its reading (R487). -/
def State.hottest (s : State) (d : Nat) : Option (Nat × Int) :=
  (s.inUse d).foldl (fun m n =>
    let v := (s.sensor n).value.getD 0
    match m with
    | none => some (n, v)
    | some (k, w) => if w < v then some (n, v) else some (k, w)) none

/-- A sensor has failed (R486). -/
def State.failSensor (s : State) (n : Nat) : State :=
  let s := ((s.put (THERM_SENS_VAL.failed.ix n)).clr (THERM_SENS_VAL.fast.ix n)).setSensor n { s.sensor n with run := 0 }
  (s.cause 0x04 7).err 0x04 0x1104 n

/-- A reading is taken: the register shows it, and the highest one follows. -/
def State.takeReading (s : State) (n : Nat) (v : Int) : State :=
  let s := (s.setSensor n { s.sensor n with value := some v, readAt := s.now }).wr (THERM_SENS_VAL.temp.ix n) (ofSigned 12 v)
  let m := s.rd (THERM_SENS_MAX.temp.ix n)
  if m = 0 ∨ toSigned 12 m < v then s.wr (THERM_SENS_MAX.temp.ix n) (ofSigned 12 v) else s

/-! ## Levels -/

/-- The level below which a layer may not fall (R489): the logic die's, 4 in a run of suspect layers, 7 at a critical
limit of its own or of the logic die. -/
def State.levelFloor (s : State) (l : Nat) : Nat :=
  if !s.on THERM_CTL.throttle_en then 0
  else if (s.heat l).critical || (s.heat 16).critical then 7
  else max (s.heat 16).level (if s.inRun l then 4 else 0)

/-- A layer takes a throttle level (R488, R489); the clock divider waits for DIVIDER_CHANGE (R492). -/
def State.setLevel (s : State) (l level : Nat) : State :=
  let h := s.heat l
  if h.level = level ∨ !s.pcPresent (l * 4) then s else
  let s := s.setHeat l { h with
    level := level, highAt := h.highAt.map fun _ => s.now, lowAt := h.lowAt.map fun _ => s.now }
  let s := (s.wr (THERM_LAYER_STAT.level.ix l) level).bump THERM_EVENTS.count
  let s := if level = 0 then s.clrBit THERM_THROTTLE_MAP.layers l else s.setBit THERM_THROTTLE_MAP.layers l
  let s := if h.level = 0 ∨ level = 0 then s.cause 0x04 1 else s
  let s := s.setLayer l { s.layer l with wanted := levelDivider level }
  s.fixGauge

/-- A layer rises to its floor. -/
def State.keepFloor (s : State) (l : Nat) : State := s.setLevel l (max (s.heat l).level (s.levelFloor l))

/-- Every layer rises to its floor. -/
def State.keepFloors (s : State) : State := s.forAll (List.range 16) State.keepFloor

/-- The level of a die: a layer's, or the logic die's, which every layer follows (R494). -/
def State.setDieLevel (s : State) (d level : Nat) : State :=
  if d < 16 then s.setLevel d level
  else
    let h := s.heat 16
    if h.level = level then s else
    let s := (s.setHeat 16 { h with
      level := level, highAt := h.highAt.map fun _ => s.now, lowAt := h.lowAt.map fun _ => s.now }).wr
        THERM_THROTTLE_MAP.logic_level level
    s.keepFloors

/-- The temperature of a die that its throttle level follows. -/
def State.dieTemp (s : State) (d : Nat) : Int := if d < 16 then s.layerTemp d else (s.heat d).reading

/-- THROTTLE_RISE (R489). -/
def execThrottleRise (die : Fin 17) (s : State) : Result :=
  match (s.heat die).highAt with
  | none => .next s
  | some t =>
    if !s.on THERM_CTL.throttle_en || (s.heat die).level == 7 then .next s else
    let s := s.advanceTo (t + s.rd THERM_STEP.up_us * psUs)
    .next (s.setDieLevel die ((s.heat die).level + 1))

/-- THROTTLE_FALL (R489): not below the floor of the layer. -/
def execThrottleFall (die : Fin 17) (s : State) : Result :=
  match (s.heat die).lowAt with
  | none => .next s
  | some t =>
    let floor := if die.val < 16 then s.levelFloor die else 0
    if (s.heat die).level ≤ floor then .next s else
    let s := s.advanceTo (t + s.rd THERM_STEP.down_us * psUs)
    .next (s.setDieLevel die ((s.heat die).level - 1))

/-- DIVIDER_CHANGE (R492): a layer whose clock is not gated takes its divider while no burst is on its PCs. -/
def execDividerChange (layer : LayerNo) (s : State) : Result :=
  let l := layer.val
  let busy := (List.range 4).any fun i => decide ((s.pc (l * 4 + i)).bursts ≠ [] ∨ (s.pc (l * 4 + i)).wbursts ≠ [])
  if busy || s.on (PC_SR_STAT.clk_gated.pc (l * 4)) then .next s
  else .next ((s.advance 30000).takeDivider l)

/-! ## Rate of rise -/

/-- The rate rule (R490): the event is counted and logged, the level rises by 2, and the sensors of the layer and of the
two beside it convert fast. -/
def State.rateEvent (s : State) (n : Nat) : State :=
  let d := dieOf n
  if 16 < d ∨ s.now < (s.heat d).riseLock then s else
  let s := ((s.bump THERM_RISE_EVENTS.count).cause 0x04 2).err 0x04 0x1101 n
  let s := s.setHeat d { s.heat d with riseLock := s.now + psMs }
  let near := if d = 16 then sensorsOf 16 else
    (List.range 64).filter fun k => decide (k / 4 = d ∨ k / 4 + 1 = d ∨ k / 4 = d + 1)
  let s := s.forAll near State.goFast
  if s.on THERM_CTL.throttle_en then s.setDieLevel d (min 7 ((s.heat d).level + 2)) else s

/-! ## The neighbour cross-check -/

/-- The nearest die below a layer that is not suspect, the logic die as layer −1, and the nearest above, P0 as layer 16
(R495): its place and its reading. -/
def State.below (s : State) : Nat → Int × Int
  | 0 => (-1, (s.heat 16).reading)
  | l + 1 => if (s.heat l).suspect then s.below l else (l, (s.heat l).reading)
def State.above (s : State) (l : Nat) : Int × Int :=
  match ((List.range 16).filter fun k => decide (l < k)).find? fun k => !(s.heat k).suspect with
  | some k => (k, (s.heat k).reading)
  | none => (16, (s.heat 18).reading)

/-- The self-heating of a layer, θ × P(n) (R495). -/
def State.selfHeat (s : State) (l : Nat) : Int :=
  let (a, b, r) := (s.heat l).lastMs
  ((200 + Config.theta l % 101) * Config.layerPower a b r / 125000 : Nat)

/-- E(n) of R495. -/
def State.estimateOf (s : State) (l : Nat) : Int :=
  let b := s.below l
  let a := s.above l
  b.2 + (a.2 - b.2) * (l - b.1) / (a.1 - b.1) + s.selfHeat l

/-- The corroboration of R498: corrected events in the last second, and their mean per second over the hour. -/
def State.corroborate (s : State) (l : Nat) : Nat × Nat :=
  let ev := (s.heat l).ceAt
  let one := (ev.filter fun t => decide (s.now < t + psS)).length
  let hour := (ev.filter fun t => decide (s.now < t + psH)).length
  (min one 0xFFFF, min (hour / 3600) 0xFFFF)

/-- A layer becomes suspect (R496 to R498). -/
def State.becomeSuspect (s : State) (l : Nat) : State :=
  if (s.heat l).suspect || s.layerAbsent (0x40 + l * 4) then s else
  let ran := s.inRun (l - 1) || s.inRun (l + 1)
  let s := s.setHeat l { s.heat l with suspect := true, exceed := 0, agreeAt := none }
  let s := (s.put (THERM_LAYER_STAT.suspect.ix l)).setBit THERM_SUSPECT_MAP.layers l
  let s := s.forAll (List.range 4) fun s i => s.put (PC_REF_STAT.estimate.pc (l * 4 + i))
  let (one, ref) := s.corroborate l
  let s := (s.wr (THERM_LAYER_CE.ce_1s.ix l) one).wr (THERM_LAYER_CE.ce_ref.ix l) ref
  let s := ((s.bump THERM_SUSPECTS.count).cause 0x04 3).err 0x04 0x1102 (l + (one + ref * 2 ^ 16) * 2 ^ 32)
  let s := if s.inRun l && !ran then s.err 0x04 0x1103 0 else s
  (s.forAll (List.range 16) State.shortenWindow).keepFloors

/-- One sample of a layer in the cross-check (R496): samples count while they are of the kind, fast or slow, that the
reading and the estimate ask for; sensors convert fast while the estimate lies in the fast band. -/
def State.crossCheck (s : State) (l : Nat) (fast : Bool) : State :=
  let h := s.heat l
  let near := s.inBand l h.reading || s.inBand l h.estimate
  let s := if near then s.forAll (s.inUse l) State.goFast else s
  if h.suspect then
    let agrees := decide ((h.estimate - h.reading).natAbs ≤ 4 * s.rd THERM_XCHECK.margin_c) && decide (s.inUse l ≠ [])
    s.setHeat l { h with agreeAt := if agrees then some (h.agreeAt.getD s.now) else none }
  else if !s.on THERM_CTL.xcheck_en || near != fast || h.exceedAt == some s.now then s
  else if h.reading + 8 * (s.rd THERM_XCHECK.margin_c : Int) < h.estimate then
    let s := s.setHeat l { h with exceed := h.exceed + 1, exceedAt := some s.now }
    if s.rd THERM_XCHECK.samples ≤ h.exceed + 1 then s.becomeSuspect l else s
  else s.setHeat l { h with exceed := 0, exceedAt := some s.now }

/-! ## A sample of a die -/

/-- The start of a span in which a condition has held at every sample. -/
def sinceWhen (now : Nat) (holds : Bool) (was : Option Nat) : Option Nat := if holds then some (was.getD now) else none

/-- A die's counts of the last millisecond (R495). -/
def State.rollCounts (s : State) (l : Nat) : State :=
  let h := s.heat l
  if s.now < h.countAt + psMs then s else
  s.setHeat l { h with lastMs := (h.acts, h.bursts, h.refs), acts := 0, bursts := 0, refs := 0, countAt := s.now }

/-- The limits of a die (R491): the spans of its temperature, the critical limit when it is reached, and the start of the
time at or above its fatal limit. -/
def State.judgeLimits (s : State) (d : Nat) : State :=
  let t := s.dieTemp d
  let h := s.heat d
  let crit := decide (s.criticalLimit d ≤ t)
  let h' := { h with
    critical := crit
    highAt := sinceWhen s.now (decide (s.throttleOn d ≤ t)) h.highAt
    lowAt := sinceWhen s.now (decide (t ≤ s.throttleOff d)) h.lowAt
    fatalAt := match fatalLimit d with
      | some f => sinceWhen s.now (decide (f ≤ t)) h.fatalAt
      | none => none }
  let s := s.setHeat d h'
  let s := if d < 16 then s.wrb (THERM_LAYER_STAT.critical.ix d) crit else s
  if crit && !h.critical && decide (d < 18) then
    (s.cause 0x04 4).err 0x04 0x1105 (((s.hottest d).map (·.1)).getD 0)
  else s

/-- A persistence layer at 90 °C puts R502 in effect, until both read 85 °C or less. -/
def State.judgePersist (s : State) : State :=
  let p0 := (s.heat 18).reading
  let p1 := (s.heat 19).reading
  if !s.folio.plimit && decide (720 ≤ p0 ∨ 720 ≤ p1) then
    ((({ s with folio := { s.folio with plimit := true } } : State).cause 0x04 8).cause 0x04 4).err 0x04 0x1108 0
  else if s.folio.plimit && decide (p0 ≤ 680 ∧ p1 ≤ 680) then { s with folio := { s.folio with plimit := false } }
  else s

/-- The registers of a layer follow its reading, its estimate and its temperature in use (R487). -/
def State.showLayer (s : State) (l : Nat) : State :=
  let h := s.heat l
  let tj := regC (wholeC (s.layerTemp l))
  let s := (s.wr (THERM_LAYER_STAT.reading.ix l) (regC (wholeC h.reading))).wr (THERM_LAYER_STAT.estimate.ix l)
    (regC (wholeC h.estimate))
  let s := s.wr (THERM_LAYER_STAT.tj_used.ix l) tj
  if s.layerAbsent (0x40 + l * 4) then s else
  s.forAll (List.range 4) fun s i => s.wr (PC_REF_STAT.tj_used.pc (l * 4 + i)) tj

/-- The spans that may lengthen the refresh window of a layer (R70, R71). -/
def State.spanLayer (s : State) (l : Nat) : State :=
  let t := s.layerTemp l
  let y := s.layer l
  s.setLayer l { y with
    below90 := sinceWhen s.now (decide (t ≤ 720)) y.below90, below80 := sinceWhen s.now (decide (t ≤ 640)) y.below80 }

/-- One sample of a DRAM layer: cross-check, registers, refresh window, limits, and the drift of its four PCs. -/
def State.sampleLayer (s : State) (l : Nat) (fast : Bool) : State :=
  let s := (s.rollCounts l).crossCheck l fast
  let s := if s.inUse l = [] ∧ (sensorsOf l).all s.isFailed then s.becomeSuspect l else s
  let s := (((s.showLayer l).spanLayer l).shortenWindow l).judgeLimits l
  s.forAll (List.range 4) fun s i => s.calDrift (l * 4 + i)

/-- The readings of the dies are taken from their sensors (R487). -/
def State.readDie (s : State) (d : Nat) : State :=
  match s.hottest d with
  | some (_, v) => s.setHeat d { s.heat d with reading := v }
  | none => s

/-- The estimates of all layers (R495). -/
def State.estimateAll (s : State) : State :=
  s.forAll (List.range 16) fun s l => s.setHeat l { s.heat l with estimate := s.estimateOf l }

/-- ALERT_N follows the two conditions of R591. -/
def State.fixAlert (s : State) : State :=
  let low := (decide (s.rd SB_STAT.mode = 1) && s.sb.uncollected) ||
    (List.range 20).any fun d => decide (s.criticalLimit d ≤ (s.heat d).reading)
  if low = s.pin.alertLow then s else { s with pin := { s.pin with alertLow := low } }.emit (.alertN low)

/-- Samples of the sensors of some dies have been taken: each die is judged on them. -/
def State.judgeDies (s : State) (dies : List Nat) (fast : Bool) : State :=
  let s := (s.forAll dies State.readDie).estimateAll
  let s := s.forAll dies fun s d => if d < 16 then s.sampleLayer d fast else s.judgeLimits d
  let s := (s.wr THERM_DIE_STAT.logic (regC (wholeC (s.heat 16).reading))).wr THERM_DIE_STAT.carrier
    (regC (wholeC (s.heat 17).reading))
  let s := (s.wr THERM_DIE_STAT.p0 (regC (wholeC (s.heat 18).reading))).wr THERM_DIE_STAT.p1
    (regC (wholeC (s.heat 19).reading))
  let s := if 17 ∈ dies then s.forAll (List.range 5) fun s g => s.calDrift (64 + g) else s
  (s.judgePersist.keepFloors).fixAlert

/-- The device senses: the housekeeping converter and its logic have power. -/
def State.senses (s : State) : Bool := decide (s.sys.phase ≠ .off ∧ s.sys.phase ≠ .hold)

/-! ## Slow rounds and fast samples -/

/-- A converter gave a plausible reading (R486): −40 °C to 150 °C. -/
def plausible : Option Int → Bool
  | some v => decide (-320 ≤ v ∧ v ≤ 1200)
  | none => false

/-- A reading with the offset that an injection adds to its sensor (R551). -/
def State.offsetReading (s : State) (r : SensorReading) : SensorReading :=
  match s.injectedArg 7 r.sensor with
  | some a => { r with value := r.value.map fun v => v + 8 * toSigned 28 (a % 2 ^ 28) }
  | none => r

/-- A reading of the slow round (R485, R486, R490): a failed sensor returns after 100 plausible ones. -/
def State.slowReading (s : State) (r : SensorReading) : State :=
  let n := r.sensor.val
  let e := s.sensor n
  match plausible r.value, r.value with
  | true, some v =>
    if s.isFailed n then
      let s := (s.takeReading n v).setSensor n { e with value := some v, readAt := s.now, slow := some v, run := e.run + 1 }
      if 100 ≤ e.run + 1 then (s.clr (THERM_SENS_VAL.failed.ix n)).setSensor n { s.sensor n with run := 0 } else s
    else
      let s := s.takeReading n v
      let s := s.setSensor n { s.sensor n with slow := some v }
      match e.slow with
      | some w => if w + 20 * (s.rd THERM_LIMIT.rise : Int) < v then s.rateEvent n else s
      | none => s
  | _, _ => if s.isFailed n then s.setSensor n { e with run := 0 } else s.failSensor n

/-- A sensor in use differs by more than 20 °C from the median of the others of its die (R486). -/
def State.disagrees (s : State) (n : Nat) : Bool :=
  let others := ((s.inUse (dieOf n)).filter fun k => decide (k ≠ n)).filterMap fun k => (s.sensor k).value
  decide (others ≠ []) && decide (160 < ((s.sensor n).value.getD 0 - median others).natAbs)

/-- Disagreement in two slow rounds in a row fails a sensor (R486). -/
def State.judgeAgreement (s : State) (n : Nat) (bad : Bool) : State :=
  if s.isFailed n then s else
  let k := if bad then (s.sensor n).run + 1 else 0
  let s := s.setSensor n { s.sensor n with run := k }
  if 2 ≤ k then s.failSensor n else s

/-- A sensor whose reading lies in the fast band converts fast from now on (R485). -/
def State.bandOf (s : State) (n : Nat) : State :=
  match (s.sensor n).value with
  | some v => if s.inBand (dieOf n) v then s.goFast n else s
  | none => s

/-- SENSOR_SLOW_ROUND (R485 to R487): the readings of the round; a sensor that is not listed reads as before. -/
def execSensorSlowRound (readings : List SensorReading) (s : State) : Result :=
  if !s.senses then .next s else
  let s := match s.bank.senseAt with
    | some t => s.advanceTo (t + 10 * psMs)
    | none => s
  let s := { s with bank := { s.bank with senseAt := some s.now } }
  let s := s.forAll readings fun s r => s.slowReading (s.offsetReading r)
  let read := readings.map fun r => r.sensor.val
  let bad := read.filter fun n => !s.isFailed n && s.disagrees n
  let s := s.forAll read fun s n => s.judgeAgreement n (bad.contains n)
  let s := s.forAll read State.bandOf
  .next (s.judgeDies (List.range 20) false)

/-- The oldest fast sample of the last 1 ms (R490). -/
def oldestOf (now : Nat) (hist : List (Nat × Int)) (v : Int) : Int :=
  (((hist.filter fun e => decide (now ≤ e.1 + psMs)).getLast?).map (·.2)).getD v

/-- SENSOR_FAST_SAMPLE (R485, R486, R490). -/
def execSensorFastSample (reading : SensorReading) (s : State) : Result :=
  let n := reading.sensor.val
  if !s.senses || !s.isFast n then .next s else
  let s := s.advanceTo ((s.sensor n).readAt + 50 * psUs)
  let value := (s.offsetReading reading).value
  match plausible value, value with
  | true, some v =>
    let s := s.takeReading n v
    let e := s.sensor n
    let old := oldestOf s.now e.hist v
    let near := s.inBand (dieOf n) v || (decide (n < 64) && s.inBand (n / 4) (s.heat (n / 4)).estimate)
    let out := if near then 0 else e.outRun + 1
    let s := s.setSensor n { e with
      outRun := out, hist := (s.now, v) :: e.hist.filter fun x => decide (s.now ≤ x.1 + psMs) }
    let s := if 100 ≤ out then s.clr (THERM_SENS_VAL.fast.ix n) else s
    let s := if old + 2 * (s.rd THERM_LIMIT.rise : Int) < v then s.rateEvent n else s
    .next (s.judgeDies [dieOf n] true)
  | _, _ => .next ((s.failSensor n).judgeDies [dieOf n] true)

/-- BAND_COMPARATOR_TRIP (R485). -/
def execBandComparatorTrip (sensor : SensorNo) (s : State) : Result :=
  .next (if s.senses then s.goFast sensor else s)

/-- FATAL_TEMPERATURE (R491): the die has been at or above its fatal limit for 10 ms without a break. -/
def execFatalTemperature (sensor : SensorNo) (s : State) : Result :=
  let d := dieOf sensor
  match (s.heat d).fatalAt with
  | none => .next s
  | some t =>
    if !s.senses then .next s else
    let s := (s.advanceTo (t + 10 * psMs)).setHeat d { s.heat d with fatalAt := none }
    .next ((s.cause 0x04 4).errImmediate 0x04 0x1106 sensor)

/-- SUSPECT_CLEAR (R497): the reading has agreed with the estimate at every sample for clear_s. -/
def execSuspectClear (layer : LayerNo) (s : State) : Result :=
  let l := layer.val
  match (s.heat l).suspect, (s.heat l).agreeAt with
  | true, some t =>
    let s := s.advanceTo (t + s.rd THERM_XCHECK.clear_s * psS)
    let s := s.setHeat l { s.heat l with suspect := false, agreeAt := none, exceed := 0 }
    let s := (s.clr (THERM_LAYER_STAT.suspect.ix l)).clrBit THERM_SUSPECT_MAP.layers l
    let s := s.forAll (List.range 4) fun s i => s.clr (PC_REF_STAT.estimate.pc (l * 4 + i))
    .next ((s.showLayer l).shortenWindow l)
  | _, _ => .next s

/-! ## The power cap -/

/-- POWER_SAMPLE (R499). -/
def execPowerSample (meanDw avgDw : Nat) (s : State) : Result :=
  if !s.senses then .next s else
  .next ((s.wr THERM_POWER.w (min meanDw 0xFFFF)).wr THERM_PCAP_STAT.avg_w (min avgDw 0xFFFF))

/-- cap_skip as the controller adjusts it (R500). -/
def State.nextSkip (s : State) : Nat :=
  let avg := s.rd THERM_PCAP_STAT.avg_w
  let cap := 10 * s.rd THERM_PCAP_CTL.cap_w
  let up := (if cap < avg then 1 else 0) + (if 1400 < s.rd THERM_POWER.w then 8 else 0)
  min 48 (s.rd THERM_PCAP_STAT.cap_skip + up - (if avg + 20 < cap then 1 else 0))

/-- CAP_ADJUST (R500, R501): from a power failure on the controller stands still. -/
def execCapAdjust (s : State) : Result :=
  if !s.senses || decide (s.sys.phase = .failing) then .next s else
  let k := if s.on THERM_CTL.pcap_en then s.nextSkip else 0
  let was := s.on THERM_PCAP_STAT.binding
  let s := (s.wr THERM_PCAP_STAT.cap_skip k).wrb THERM_PCAP_STAT.binding (decide (0 < k))
  let s := if !was ∧ 0 < k then (s.cause 0x04 5).err 0x04 0x1107 (s.rd THERM_PCAP_STAT.avg_w)
    else if was ∧ k = 0 then s.cause 0x04 6 else s
  .next s.fixGauge

end Sys2Proof.Machine
end

