-- ==== Sys2Proof/Machine/Dove.lean ====
section
/-!
DEFINITION. The commands, flits, messages and timers of the pair (R276 to R309, R376).
-/

namespace Sys2Proof.Machine

/-! ## Flits -/

/-- DOVE_REPLAY_REQUEST (R284): the buffered flits from ack + 1 on are sent again; a repeat for the same ack within 2 µs
is ignored. -/
def State.resend (s : State) (ack : BitVec 24) : State :=
  let again := match s.dove.lastReplay with
    | some (a, t) => a == ack && decide (s.now < t + 2 * psUs)
    | none => false
  if !s.linkUp || again then s else
  let s := ({ s with dove := { s.dove with lastReplay := some (ack, s.now) } } : State).ackFlits ack
  s.forAll s.dove.replay fun s f => s.emit (.doveFlit f)

/-- What a receiver counts on a flit that fails a check (R284, R314, R388). -/
def State.badFlit (s : State) (f : FlitRead) : State :=
  if !f.fecOk then
    let s := { s with dove := { s.dove with fecRun := s.dove.fecRun + 1 } }
    ((s.bump (PHY_FEC_UNCORR.count.port 4)).cause 0x14 12).err 0x14 0x0B16 0
  else if !f.crcOk then s.bump DOVE_CRC_FAIL.count
  else s.bump DOVE_MAC_FAIL.count

/-- A good data flit (R284): the expected one is accepted and its messages processed; a duplicate is discarded silently;
one out of order is discarded and asked for again. -/
def State.dataFlit (s : State) (f : FlitRead) : State :=
  if f.seq = s.dove.rxSeq + 1 then
    let s := { s with dove := { s.dove with
      rxSeq := f.seq, rxDiscard := false, sameAck := 0
      rxCount := if f.prot then s.dove.rxCount + 1 else s.dove.rxCount } }
    s.onMessages f.prot f.messages
  else if covered s.dove.rxSeq f.seq || s.dove.rxDiscard then s
  else s.askReplay

/-- DOVE_FLIT_RECEIVE (R281 to R285). -/
def execDoveFlitReceive (flit : DoveFlit) (s : State) : Result :=
  if !s.linkUp then .next s else
  let f := s.readFlit flit
  let s := if f.fecOk ∧ f.fecCorrected then (s.bump DOVE_FEC_CORR.count).bump (PHY_FEC_CORR.count.port 4) else s
  if !f.fecOk || !f.crcOk || (f.prot && !f.macOk) then .next (s.badFlit f).askReplay
  else
    let s := ({ s with dove := { s.dove with fecRun := 0 } } : State).ackFlits f.ack
    match f.kind with
    | 0 => .next (s.dataFlit f)
    | 2 => .next (s.resend f.ack)
    | _ => .next s

/-- DOVE_REPLAY_REQUEST (R284). -/
def execDoveReplayRequest (ack : BitVec 24) (s : State) : Result := .next (s.resend ack)

/-! ## Timers -/

/-- The body of this module's HEARTBEAT (R290). -/
def State.ownBeat (s : State) : Beat :=
  { count := s.dove.beatSent % 2 ^ 32, safe := s.safe, rekey := s.kerfRuns 2, resync := s.resyncs, time := s.tbOr0
    rekeyStart := s.rd (KERF_START.start_quire.ix 2), rekeyEnd := s.rd (KERF_END.end_quire.ix 2)
    applied := s.dove.applied }

/-- The mark that follows the last heartbeat (R286): a multiple of 10 µs of the Time Base, or of a free-running count while
it is invalid. -/
def State.beatMark (s : State) : Nat :=
  let t := (if s.tbValid then s.clk.tbPs else s.now) - (s.now - s.dove.tickAt)
  s.dove.tickAt + (10 * psUs - t % (10 * psUs))

/-- HEARTBEAT_TIMER (R286, R287): a mark of 10 µs. A heartbeat is sent, an interval without one from the partner is
counted, and what waited for the link or the budget goes on. -/
def execHeartbeatTimer (s : State) : Result :=
  if !s.linkSafe then .next s else
  let was := s.dove.tickAt
  let s := s.advanceTo s.beatMark
  let s := if s.joined ∧ s.dove.beatAt < was then s.bump DOVE_HB_MISS.count else s
  let s := { s with dove := { s.dove with tickAt := s.now, beatSent := s.dove.beatSent + 1 } }
  let s := (s.sendDove (.heartbeat s.ownBeat)).sendHello
  .next ((s.applyList s.dove.applyWait).sendQueue).startResync

/-- PARTNER_LOST (R287, R303): no good heartbeat for 30 µs. -/
def execPartnerLost (s : State) : Result :=
  if !s.joined then .next s else .next (s.advanceTo (s.dove.beatAt + 30 * psUs)).loseDove

/-- MACK_TIMER (R299): applies not yet reported are. -/
def execMackTimer (s : State) : Result :=
  let s := s.applyList s.dove.applyWait
  if s.dove.mackDue && s.joined && s.linkSafe then
    .next (({ s with dove := { s.dove with mackDue := false } } : State).sendDove (.mack s.dove.applied s.dove.strokeApplied))
  else .next s

/-- AUTO_PROMOTE_EXPIRY (R304). -/
def execAutoPromoteExpiry (s : State) : Result :=
  match s.dove.lossAt with
  | none => .next s
  | some t =>
    if !s.on DOVE_CTL.auto_promote then .next s else
    let s := s.advanceTo (t + s.rd DOVE_CTL.promote_delay_us * psUs)
    let s := { s with dove := { s.dove with lossAt := none } }
    .next (s.forAll (List.range 16) fun s n => if s.configured n && !s.primary n then s.promote n else s)

/-! ## Messages -/

/-- PAD (R288). -/
def execPad (s : State) : Result := .next (s.onMessage s.linkSafe .pad)

/-- HELLO (R291 to R295). -/
def execHello (prot : Bool) (h : Hello) (s : State) : Result := .next (s.onMessage (prot && s.linkSafe) (.hello h))

/-- HEARTBEAT (R287, R299, R522). -/
def execHeartbeat (b : Beat) (s : State) : Result := .next (s.onMessage s.linkSafe (.heartbeat b))

/-- SPDM (R282). -/
def execSpdm (established failed : Bool) (s : State) : Result := .next (s.onMessage s.linkSafe (.spdm established failed))

/-- MWRITE (R299, R300). -/
def execMwrite (w : Mwrite) (s : State) : Result := .next (s.onMessage s.linkSafe (.mwrite w))

/-- MACK (R299, R306). -/
def execMack (osn stroke : Nat) (s : State) : Result := .next (s.onMessage s.linkSafe (.mack osn stroke))

/-- RREQ (R115). -/
def execRreq (ident : Nat) (loc : Loc) (s : State) : Result := .next (s.onMessage s.linkSafe (.rreq ident loc))

/-- RRSP (R115 to R117). -/
def execRrsp (ident : Nat) (loc : Loc) (line : FormLine) (s : State) : Result :=
  .next (s.onMessage s.linkSafe (.rrsp ident loc line))

/-- RDATA (R306). -/
def execRdata (stroke : Nat) (loc : Loc) (first second : FormLine) (s : State) : Result :=
  .next (s.onMessage s.linkSafe (.rdata stroke loc first second))

/-- MARK (R300). -/
def execMark (pull : Bool) (quires : List QuireNo) (s : State) : Result := .next (s.onMessage s.linkSafe (.mark pull quires))

/-- BITMAP (R294). -/
def execBitmap (pull : Bool) (first : QuireNo) (bits : BitVec 1024) (s : State) : Result :=
  .next (s.onMessage s.linkSafe (.bitmap pull first bits))

/-- CONFIG (R296). -/
def execConfig (range : RangeNo) (op reason base stop : Nat) (s : State) : Result :=
  .next (s.onMessage s.linkSafe (.config range op reason base stop))

/-- ROLE (R304). -/
def execRole (range : RangeNo) (promoted : Bool) (s : State) : Result := .next (s.onMessage s.linkSafe (.role range promoted))

/-- BYE (R305). -/
def execBye (reason : Nat) (s : State) : Result := .next (s.onMessage s.linkSafe (.bye reason))

/-! ## The queue and Resync -/

/-- DOVE_QUEUE_ROOM (R298). -/
def execDoveQueueRoom (s : State) : Result := .next s.releaseQueue

/-- A module runs a Rekey over a quire of the range (R308). -/
def State.rekeyMeets (s : State) (n : Nat) : Bool :=
  let meets (a b : Nat) : Bool := decide (a < s.rangeEnd n ∧ s.rangeBase n < b)
  (s.kerfRuns 2 && meets (s.rd (KERF_START.start_quire.ix 2)) (s.rd (KERF_END.end_quire.ix 2))) ||
  (s.dove.partner.rekey && meets s.dove.partner.rekeyStart s.dove.partner.rekeyEnd)

/-- A pushed piece goes out in RDATA, two lines at a time (R306). -/
def State.pushPiece (s : State) (num lo : Nat) : State :=
  let s := s.settle fun a => decide (lo * 64 ≤ a ∧ a < (lo + strokeLines) * 64)
  s.forAll (List.range 128) fun s i =>
    let a := (lo + 2 * i) * 64
    let r := s.engineRead a [] true 5 0x16
    let t := r.2.engineRead (a + 64) [] true 5 0x16
    t.2.sendDove (.rdata num (BitVec.ofNat 37 a) (t.2.formLine a r.1) (t.2.formLine (a + 64) t.1))

/-- A pulled piece is asked for line by line (R306). -/
def State.pullPiece (s : State) (lo : Nat) : State :=
  s.forAll (List.range strokeLines) fun s i =>
    let id := s.dove.reqNext
    ({ s with dove := { s.dove with reqNext := id + 1 } } : State).sendDove (.rreq id (BitVec.ofNat 37 ((lo + i) * 64)))

/-- The lines of a piece that a host may hold exclusive: they are called back before the Resync reads them (R329). -/
def State.exclIn (s : State) (lo : Nat) : List (Nat × Nat × Bool) :=
  (List.range 4).flatMap fun p => (s.port p).filter.filterMap fun e =>
    if lo ≤ e.1 ∧ e.1 < lo + strokeLines ∧ (e.2.any fun t => t.excl) then some (p, e.1 * 64, false) else none

/-- RESYNC_STROKE (R306 to R308): the next 16 KiB of the range's marked quires. A quire with both bits is pushed (R307).
-/
def execResyncStroke (s : State) : Result :=
  if !s.mayStroke 4 || !s.joined || !s.linkSafe then .next s else
  match (s.eng 4).target with
  | none => .next s
  | some q =>
    let n := s.rd (KERF_ARG.range.ix 4)
    let piece := (s.eng 4).strokesOf q
    let lo := q * quireLines + piece * strokeLines
    if quireStrokes ≤ piece then .next s
    else if s.rekeyMeets n then .next (s.wr (KERF_STAT.state.ix 4) 1)
    else if (s.unfinishedBy q).isSome then .next (s.engineWaits 4)
    else if !(s.pullBit q && !s.pushBit q) && s.exclIn lo != [] then .next (s.recall (s.exclIn lo))
    else
      let num := s.dove.strokeNext
      let pull := s.pullBit q && !s.pushBit q
      let s := ((s.wr (KERF_STAT.state.ix 4) 2).chargeEng 0x16 (if pull then 0 else strokeLines)).setEng 4 ((s.eng 4).stroke q)
      let k : Stroke := { num := num, range := n, quire := q, piece := piece, pulled := pull, left := strokeLines }
      let s := { s with dove := { s.dove with strokes := s.dove.strokes ++ [k], strokeNext := num + 1 } }
      .next (if pull then s.pullPiece lo else s.pushPiece num lo)

/-! ## Commands of DOVE_CMD -/

/-- DOVE_CMD_JOIN (R291, R312): a link that is down is trained; the HELLO exchange is repeated on one that is up. -/
def execDoveCmdJoin (who : Accessor) (s : State) : Result :=
  .next <| s.command who 0x14 0x104 fun s =>
    if !s.linkUp then s.doveTrain
    else ({ s with dove := { s.dove with helloSent := false, hello := none } } : State).sendHello

/-- DOVE_CMD_LEAVE (R305, R312): BYE is sent and the pair splits. -/
def execDoveCmdLeave (who : Accessor) (s : State) : Result :=
  .next <| s.command who 0x14 0x104 fun s =>
    let s := s.sendDove (.bye 1)
    if s.joined then s.splitPair.wr DOVE_STAT.pair 0 else s

/-- DOVE_CMD_CONFIG (R277, R296). -/
def execDoveCmdConfig (who : Accessor) (range : RangeNo) (s : State) : Result :=
  .next <| s.command who 0x14 0x104 fun s =>
    let n := range.val
    if s.configured n || !s.rangeFits n (s.rangeBase n) (s.rangeEnd n) then
      (s.put (DOVE_RANGE_STAT.refused.ix n)).refuseDove 6
    else
      let s := (s.put (DOVE_RANGE_STAT.primary.ix n)).setRangeState n 3
      let s := s.reserveArea
      if s.joined then s.offer n else s

/-- DOVE_CMD_UNCONFIG (R296): the range is withdrawn once its queued entries are acknowledged. -/
def execDoveCmdUnconfig (who : Accessor) (range : RangeNo) (s : State) : Result :=
  .next <| s.command who 0x14 0x104 fun s =>
    if !s.configured range then s else
    ({ s with dove := { s.dove with
      withdrawing := s.dove.withdrawing.filter (fun m => decide (m ≠ range.val)) ++ [range.val] } } : State).finishWithdraw

/-- DOVE_CMD_PROMOTE (R304). -/
def execDoveCmdPromote (who : Accessor) (range : RangeNo) (all : Bool) (s : State) : Result :=
  .next <| s.command who 0x14 0x104 fun s =>
    if all then s.forAll (List.range 16) fun s n => if s.configured n && !s.primary n then s.promote n else s
    else if s.configured range && !s.primary range then s.promote range
    else (s.put (DOVE_RANGE_STAT.refused.ix range)).cause 0x14 3

/-- This module becomes Secondary of a range that is Diverged or Apart; what its queue holds for the range is discarded
(R293, R312). -/
def State.demoteRange (s : State) (n : Nat) : State :=
  if !s.primary n || !(decide (s.rangeState n = 3 ∨ s.rangeState n = 4)) then s else
  let s := { s with dove := { s.dove with
    queue := s.dove.queue.filter fun e => !s.inRange n (quireOf e.w.loc.toNat) } }
  (s.clr (DOVE_RANGE_STAT.primary.ix n)).sendRole n false

/-- DOVE_CMD_DEMOTE (R293, R312). -/
def execDoveCmdDemote (who : Accessor) (range : RangeNo) (all : Bool) (s : State) : Result :=
  .next <| s.command who 0x14 0x104 fun s =>
    if all then s.forAll (List.range 16) State.demoteRange else s.demoteRange range

/-- DOVE_CMD_ACCEPT (R295): the replacement is recorded, this module becomes Primary of every range, and offers them. -/
def execDoveCmdAccept (who : Accessor) (s : State) : Result :=
  .next <| s.command who 0x14 0x104 fun s =>
    if !s.on DOVE_PARTNER.valid || !s.on DOVE_PARTNER.replaced then s else
    let s := { s.clr DOVE_PARTNER.replaced with
      dove := { s.dove with recorded := some (s.rd DOVE_PARTNER.unit), accepted := true } }
    let s := s.forAll (List.range 16) fun s n => if s.configured n && !s.primary n then s.promote n else s
    s.judgeHello

/-- DOVE_FREQ_OFFSET (R376): an offset above 100 ppm stops the training. -/
def execDoveFreqOffset (ppm : Int) (s : State) : Result :=
  let s := s.wr (PHY_REFCLK.offset_ppm.port 4) (ofSigned 16 ppm)
  if 100 < ppm.natAbs ∧ s.rd DOVE_STAT.link = 1 then
    let s := (s.advance psMs).doveDown
    .next ((s.setPort 4 { s.port 4 with retryAt := some s.now }).err 0x14 0x0B15 0)
  else .next s

end Sys2Proof.Machine
end

