-- ==== Sys2Proof/Machine/Ports.lean ====
section
/-!
DEFINITION. The commands of a host port: resets (R350, R351, R355), HDM decoders (R323), back-invalidates (R329, R330),
IDE (R224, R325), configuration space (R332, R379) and AER (R528, R529).
-/

namespace Sys2Proof.Machine

/-! ## Resets -/

/-- A reset of the DOVE port: by PERST_DOVE_N, or with its link (R355). -/
def State.doveReset (s : State) (cause : Nat) : State :=
  let s := s.doveLanesDown
  if cause = 1 then { s with dove := { s.dove with perstHigh := false } } else s.train 4

/-- A port reset is recognised, with its cause: PERST is low, port_en is written 0, or the port trains afresh at once
(R351, R355). -/
def State.takeReset (s : State) (p cause : Nat) (partFlit : Bool) : State :=
  let s := if cause = 4 then s.clr (PORT_CTL.port_en.port p) else s
  (s.portReset p cause partFlit).train p

/-- PORT_RESET (R350, R351, R355). A Bind on bank energy ignores every reset, and a device that is off only sees the pin
(R185). -/
def execPortReset (group : GroupNo) (cause : Fin 5) (partFlit : Bool) (s : State) : Result :=
  let c := cause.val
  if c = 0 then .next s
  else if group.val = 4 then .next (s.doveReset c)
  else if s.sys.phase = .failing ∨ s.sys.phase = .off ∨ !s.hasPort group then
    .next (if c = 1 then s.setPort group { s.port group with perstHigh := false } else s)
  else if (c = 2 ∨ c = 3) ∧ s.rd (PHY_STAT.ltssm.port group) = 0 then .next s
  else .next (s.takeReset group c partFlit)

/-- CXL_RESET (R350, R351): of a logical device whose port has a link. -/
def execCxlReset (port : PortNo) (ld : LdNo) (s : State) : Result :=
  if s.hasPort port && s.linkOpen port && s.sys.phase != .failing then .next (s.resetLd port ld) else .next s

/-- FUNCTION_LEVEL_RESET (R350): the function's CXL.io state returns to reset, and its waiting MSI-X messages are gone;
CXL.mem state stays. -/
def execFunctionLevelReset (port : PortNo) (ld : LdNo) (s : State) : Result :=
  if !(s.hasPort port && s.linkOpen port && s.sys.phase != .failing) then .next s else
  let m := masterOf port ld
  let s := s.setLd m { s.ld m with fwOffset := none }
  let p := s.port port
  .next <| s.setPort port { p with
    waitOut := p.waitOut.filter fun o => match o with
      | .msix _ l _ => decide (l ≠ ld.val)
      | _ => true }

/-- PERST_RELEASE (R355): the port begins to train. -/
def execPerstRelease (group : GroupNo) (s : State) : Result :=
  if group.val = 4 then .next (({ s with dove := { s.dove with perstHigh := true } } : State).train 4)
  else .next ((s.setPort group { s.port group with perstHigh := true }).train group)

/-! ## HDM decoders -/

/-- The DPA just past a decoder's range (R323). -/
def Decoder.stop (d : Decoder) : Nat := d.dpaBase + d.size / d.ways

/-- The ways and granularities that a decoder supports (R323). -/
def decoderWays : List Nat := [1, 2, 4, 8, 16, 3, 6, 12]
def decoderGrans : List Nat := [256, 512, 1024, 2048, 4096, 8192, 16384]

/-- A decoder may commit (R323): its form is supported, HDM-DB is allowed, and its DPA range keeps the order of the
indices. -/
def State.mayCommit (s : State) (p l i : Nat) (d : Decoder) : Bool :=
  decide (d.ways ∈ decoderWays) && decide (d.gran ∈ decoderGrans) && decide (d.pos < d.ways) &&
  (!d.db || (decide (2 ≤ s.rd (PORT_LINK_STAT.mode.port p)) && s.on (PORT_CTL.hdmdb_en.port p))) &&
  decide (Decoder.stop d ≤ 2 ^ 44) &&
  (s.ld (masterOf p l)).decoders.all fun e => match e.2 with
    | some o => decide (e.1 = i ∨ (e.1 < i ∧ Decoder.stop o ≤ d.dpaBase) ∨ (i < e.1 ∧ Decoder.stop d ≤ o.dpaBase))
    | none => true

/-- HDM_DECODER_COMMIT (R323): a locked decoder stands until the next port reset; a commit that breaks the rule leaves the
decoder with its error-not-committed status. -/
def execHdmDecoderCommit (port : PortNo) (ld : LdNo) (index : LdNo × Bool) (dec : Decoder) (s : State) : Result :=
  if !(s.hasPort port && s.linkOpen port) then .next s else
  let i := index.1.val * 2 + (if index.2 then 1 else 0)
  let m := masterOf port ld
  let l := s.ld m
  let old := Sparse.get (fun _ => none) l.decoders i
  if old.any (·.lock) then .next s
  else if s.mayCommit port ld i dec then
    .next ((s.setLd m { l with
      decoders := Sparse.set (fun _ => none) l.decoders i (some dec)
      notCommitted := l.notCommitted.filter (· ≠ i) }).fixPort port)
  else
    .next ((s.setLd m { l with
      decoders := Sparse.set (fun _ => none) l.decoders i none
      notCommitted := l.notCommitted.filter (· ≠ i) ++ [i] }).fixPort port)

/-! ## Back-invalidates -/

/-- A back-invalidate of a port is over: its wait is measured, and the filter keeps the line shared after a BISnpData and
drops it otherwise (R329). -/
def State.endSnoop (s : State) (p : Nat) (i : BackInv) (keep : Bool) : State :=
  let t := s.port p
  let left := if keep && !i.inval then (t.tracked i.loc).map fun e => { e with excl := false } else none
  (s.setPort p ({ t with inv := t.inv.erase i } |>.track i.loc left)).longest (PORT_BI_MAX_NS.ns.port p)
    ((s.now - i.sentAt) / psNs)

/-- The data that a host returns is written under the KeyID of the read that entered the line, selected as it arrives
(R203, R329). -/
def State.returned (s : State) (loc : Nat) (t : Tracked) (d : LineData) : Req :=
  let r := { s.engineReq t.master .full t.dpa t.keyId d (BitVec.allOnes 64) with mark := classMark t.dpa, loc := loc }
  { r with sel := some (s.select r) }

/-- What waited for a back-invalidate goes on: host requests, and the partner's messages. -/
def State.resumeSnooped (s : State) : State := let s := s.releaseStalled; s.applyList s.dove.applyWait

/-- BI_RESPONSE (R329): modified data is written first, then the waiting access is served. The answer is taken once the
write may complete under R21 and R298; a line of a mirrored range on the Secondary takes no write (R302). An answer
with no back-invalidate outstanding is discarded (R330). -/
def execBiResponse (port : PortNo) (loc : Loc) (modified : Option LineData) (s : State) : Result :=
  let a := lineAddr loc.toNat
  match (s.port port).inv.find? fun i => decide (i.loc = a) with
  | none => .next s
  | some i =>
    match modified, (s.port port).tracked a with
    | some d, some t =>
      let r := s.returned a t d
      if s.holdsAny (s.writeQuires r) || s.queueBlocks r then .next s
      else
        let s := s.endSnoop port i true
        if let some code := s.keyRefusal r then .next (s.refuseKey r code).resumeSnooped
        else if s.secondaryRefuses r then
          .next ((s.bump DOVE_WRITE_REFUSED.count).refuse 0x14 0x0A03 r).resumeSnooped
        else .next ((s.completeWrite r).perform r).resumeSnooped
    | _, _ => .next (s.endSnoop port i true).resumeSnooped

/-- BI_TIMEOUT (R330): the access proceeds, the entry is dropped, and the logical devices that hold the line are told. -/
def execBiTimeout (port : PortNo) (loc : Loc) (s : State) : Result :=
  let a := lineAddr loc.toNat
  match (s.port port).inv.find? fun i => decide (i.loc = a) with
  | none => .next s
  | some i =>
    let s := s.advanceTo (i.sentAt + s.rd (PORT_BI_CTL.timeout_us.port port) * psUs)
    let by_ := (s.stalled.find? fun w => match w.1 with
      | .snoop p l _ => decide (p = port.val ∧ l = a)
      | _ => false).map (·.2)
    let dpa := (by_.map (·.dpa)).getD a
    let e : Err := { page := phyPage port, code := 0x0B07, addr := dpa, access := (by_.map Req.access).getD 5
                     master := (by_.map (·.master)).getD 0x19, tied := some a }
    let s := ((s.endSnoop port i false).bump (PORT_BI_TIMEOUT.count.port port)).cause (phyPage port) 5
    let s := s.log e
    let s := s.forAll ((List.range 4).filter fun l => s.allocHolds port l (quireOf a)) fun s l =>
      s.enterLog 2 (s.eventOf e .media) (port, l)
    .next s.resumeSnooped

/-! ## IDE -/

/-- PORT_IDE_STAT follows the streams: 0 the CXL.io link stream, 1 and 2 the selective ones, 3 CXL.cachemem. -/
def State.fixIde (s : State) (p : Nat) : State :=
  let l := (s.port p).streams
  let s := (s.wrb (PORT_IDE_STAT.io_link.port p) (l.contains 0)).wr (PORT_IDE_STAT.io_sel.port p)
    ((l.filter fun x => decide (x = 1 ∨ x = 2)).length)
  (s.wrb (PORT_IDE_STAT.cachemem.port p) (l.contains 3)).fixPort p

/-- IDE_KM (R224), inside an SPDM session: a stream is established, or switched, only under a key set that has been
programmed; at its end its keys are gone. -/
def execIdeKm (port : PortNo) (stream : Fin 4) (op : Fin 4) (keySet : Bool) (skid : Bool) (s : State) : Result :=
  if !(s.hasPort port && s.linkOpen port) || decide (s.sb.sessions = []) then .next s else
  let p := s.port port
  let n := stream.val
  let use_ (b : Bool) : Sparse Bool := Sparse.set (fun _ => false) p.keySets n b
  let have_ := p.keysProgrammed.contains (n, keySet)
  match op.val with
  | 0 => .next (if have_ then s else s.setPort port { p with keysProgrammed := p.keysProgrammed ++ [(n, keySet)] })
  | 1 =>
    if !have_ then .next s else
    let s := s.setPort port { p with streams := p.streams.filter (· ≠ n) ++ [n], keySets := use_ keySet }
    let s := if n = 3 then
        ((s.wrb (PORT_IDE_STAT.skid.port port) skid).wrb (PORT_IDE_STAT.key_set.port port) keySet).clr
          (PORT_IDE_STAT.insecure.port port)
      else s
    .next (s.fixIde port)
  | 2 =>
    if !(have_ && p.streams.contains n) then .next s else
    let s := s.setPort port { p with keySets := use_ keySet }
    .next (if n = 3 then s.wrb (PORT_IDE_STAT.key_set.port port) keySet else s)
  | _ =>
    let s := s.setPort port { p with
      streams := p.streams.filter (· ≠ n), keySets := use_ false, keysProgrammed := p.keysProgrammed.filter fun k => decide (k.1 ≠ n) }
    let s := if n = 3 then (s.clr (PORT_IDE_STAT.skid.port port)).clr (PORT_IDE_STAT.key_set.port port) else s
    .next (s.fixIde port)

/-- IDE_CHECK_FAIL (R224, R325, R358): the CXL.cachemem stream, where it is established, enters the insecure state. -/
def execIdeCheckFail (port : PortNo) (s : State) : Result :=
  let p := s.port port
  if p.streams = [] then .next s else
  let s := (s.bump (PORT_IDE_ERR.count.port port)).cause (phyPage port) 4
  let s := if p.streams.contains 3 then
      ((s.setPort port { p with streams := p.streams.filter (· ≠ 3) }).put (PORT_IDE_STAT.insecure.port port)).fixIde port
    else s
  .next (s.err (phyPage port) 0x0B06 0)

/-! ## Configuration space and AER -/

/-- CONFIG_SPACE_WRITE (R332, R379). -/
def execConfigSpaceWrite (port : PortNo) (ld : LdNo) (l0s l1 l11 l12 tsp : Bool) (s : State) : Result :=
  if !(s.hasPort port && s.linkOpen port) then .next s else
  let m := masterOf port ld
  .next ((s.setLd m { s.ld m with l0s := l0s, l1 := l1, l11 := l11, l12 := l12, tsp := tsp }).fixPort port)

/-- When a function last sent a message of a severity (R529). -/
def LdState.aerAt (l : LdState) : Nat → Option Nat
  | 1 => l.aerCor
  | 2 => l.aerNon
  | _ => l.aerFat

def LdState.setAerAt (l : LdState) (sev t : Nat) : LdState :=
  match sev with
  | 1 => { l with aerCor := some t }
  | 2 => { l with aerNon := some t }
  | _ => { l with aerFat := some t }

/-- AER_SEND (R517, R528, R529): the oldest message due on the port leaves once its link is up, 100 µs or more after the
function's last of its severity. -/
def execAerSend (port : PortNo) (s : State) : Result :=
  match (s.port port).aer with
  | [] => .next s
  | (l, sev) :: rest =>
    if s.rd (PORT_LINK_STAT.mode.port port) = 0 then .next s else
    let m := masterOf port l
    let s := match (s.ld m).aerAt sev with
      | some t => s.advanceTo (t + 100 * psUs)
      | none => s
    let s := s.setPort port { s.port port with aer := rest }
    .next ((s.setLd m ((s.ld m).setAerAt sev s.now)).send port (.aer port l sev))

end Sys2Proof.Machine
end

