-- ==== Sys2Proof/Machine/Mailbox.lean ====
section
/-!
DEFINITION. The mailbox of a logical device (R333, R334): event records, policy, firmware, time, maintenance, identity,
health, poison, scans, erase and the vendor commands that touch no register (R335 to R349). Return codes are those of the
CXL mailbox (assumption 31): 0 Success, 1 Background Command Started, 2 Invalid Input, 3 Unsupported, 6 Busy.
-/

namespace Sys2Proof.Machine

/-- What a mailbox command gives: its return code, its payload as numbers, and the state after it. -/
abbrev Answer := Nat × List Nat × State

def rcSuccess : Nat := 0
def rcBackground : Nat := 1
def rcInvalid : Nat := 2
def rcUnsupported : Nat := 3
def rcBusy : Nat := 6

/-- A host reaches the mailbox of a logical device: the port has a link, the LD is bound, and the ports take traffic. -/
def State.mboxOpen (s : State) (p l : Nat) : Bool :=
  s.bound p l && decide (s.rd (PORT_LINK_STAT.mode.port p) ≠ 0) &&
  (decide (s.sys.phase = .starting) || decide (s.sys.phase = .active))

/-- A mailbox command is served and answered. In DECOMMISSIONED only the identify and health commands answer (R457). -/
def State.served (s : State) (p l : Nat) (dead : Bool) (f : State → Answer) : State :=
  let a := if s.lifeCycle = 4 ∧ !dead then (rcUnsupported, [], s) else f s
  a.2.2.emit (.mailbox p l a.1 a.2.1)

/-- A doorbell: while the management core does not run, the command waits for it (R453). -/
def State.mailbox (s : State) (c : Instr) (p l : Nat) (dead : Bool) (f : State → Answer) : Result :=
  .next <|
    if !s.mboxOpen p l then s
    else if s.sys.mgmtDown.isSome then { s with mbox := { s.mbox with waiting := s.mbox.waiting ++ [c] } }
    else s.served p l dead f

/-- A command that only an admin function may give (R334). -/
def State.adminOnly (s : State) (p l opcode : Nat) (f : State → Answer) : Answer :=
  if s.admin p l then f s else (rcUnsupported, [], s.denied p l opcode)

/-- A range of DPAs lies wholly within the allocation ranges of a logical device. -/
def State.owns (s : State) (p l dpa len : Nat) : Bool :=
  let a := locOf dpa
  decide (dpa / 2 ^ 37 = (dpa + (len - 1)) / 2 ^ 37) &&
  ((List.range' (quireOf a) (quireOf (a + (len - 1)) + 1 - quireOf a)).all fun q => s.allocHolds p l q)

/-- A command whose range must be the LD's own (R334). -/
def State.ownOnly (s : State) (p l opcode dpa len : Nat) (f : State → Answer) : Answer :=
  if s.owns p l dpa len then f s else (rcUnsupported, [], s.denied p l opcode)

/-- A background operation of this kind runs (R333). -/
def State.bgBusy (s : State) (kind : Nat) : Bool := s.mbox.ops.any fun o => decide (o.kind = kind)

/-- A background operation begins (R333). -/
def State.bgStart (s : State) (kind p l first lines : Nat) : State :=
  { s with mbox := { s.mbox with ops := s.mbox.ops ++ [{ kind := kind, port := p, ld := l, first := first, lines := lines }] } }

/-! ## Event records -/

def logNo : LogName → Nat
  | .info => 0
  | .warn => 1
  | .fail => 2
  | .fatal => 3

/-- The UUID of a Drahus vendor record, and its 80 bytes of record-specific data, little-endian (R336). -/
def vendorUuid : Nat := 0x4c52a7d10b364e2f9a85d7a5c0e11b28
def EventRec.vendorData (r : EventRec) : Nat :=
  r.page % 2 ^ 8 + (r.access % 2 ^ 4 + r.cls % 2 ^ 2 * 2 ^ 4) * 2 ^ 8 + r.code % 2 ^ 16 * 2 ^ 16 + r.master % 2 ^ 8 * 2 ^ 32 +
    r.addr % 2 ^ 64 * 2 ^ 64 + r.time % 2 ^ 64 * 2 ^ 128 + r.count % 2 ^ 32 * 2 ^ 192

/-- A record as its payload gives it: a vendor record by its UUID and its data (R336), another by its fields. -/
def EventRec.words (r : EventRec) : List Nat :=
  if r.kind = 3 then [r.handle, r.kind, vendorUuid, r.vendorData] else
  [r.handle, r.kind, r.page, r.access, r.cls, r.code, r.master, r.addr, r.time, r.count]

/-- Records that fit in one 4 KiB payload. -/
def recordsPerPayload : Nat := 31

def LdState.lostOf (l : LdState) : Nat → Nat
  | 0 => l.lostInfo
  | 1 => l.lostWarn
  | 2 => l.lostFail
  | _ => l.lostFatal

def LdState.setLost (l : LdState) (n v : Nat) : LdState :=
  match n with
  | 0 => { l with lostInfo := v }
  | 1 => { l with lostWarn := v }
  | 2 => { l with lostFail := v }
  | _ => { l with lostFatal := v }

def State.mbGetEvents (p l n : Nat) (s : State) : Answer :=
  let d := s.ld (masterOf p l)
  let r := (d.log n).take recordsPerPayload
  (rcSuccess, [if recordsPerPayload < (d.log n).length then 1 else 0, d.lostOf n, r.length] ++ r.flatMap EventRec.words, s)

/-- GET_EVENT_RECORDS (R335). -/
def execGetEventRecords (port : PortNo) (ld : LdNo) (log : LogName) (s : State) : Result :=
  s.mailbox (.getEventRecords port ld log) port ld false (State.mbGetEvents port ld (logNo log))

def State.mbClearEvents (p l n : Nat) (all : Bool) (handles : List Nat) (s : State) : Answer :=
  let m := masterOf p l
  let d := s.ld m
  if all then (rcSuccess, [], s.setLd m ((d.setLog n []).setLost n 0))
  else if handles.all fun h => (d.log n).any fun r => decide (r.handle = h) then
    (rcSuccess, [], s.setLd m ((d.setLog n ((d.log n).filter fun r => decide (r.handle ∉ handles))).setLost n 0))
  else (rcInvalid, [], s)

/-- CLEAR_EVENT_RECORDS (R335): all records of a log, or those named; the overflow report ends with it. -/
def execClearEventRecords (port : PortNo) (ld : LdNo) (log : LogName) (all : Bool) (handles : List Nat) (s : State) :
    Result :=
  s.mailbox (.clearEventRecords port ld log all handles) port ld false
    (State.mbClearEvents port ld (logNo log) all handles)

def State.mbGetPolicy (p l : Nat) (s : State) : Answer :=
  let d := s.ld (masterOf p l)
  (rcSuccess, [d.polInfo, d.polWarn, d.polFail, d.polFatal], s)

/-- GET_EVENT_INTERRUPT_POLICY (R334). -/
def execGetEventInterruptPolicy (port : PortNo) (ld : LdNo) (s : State) : Result :=
  s.mailbox (.getEventInterruptPolicy port ld) port ld false (State.mbGetPolicy port ld)

def State.mbSetPolicy (p l info warn fail fatal : Nat) (s : State) : Answer :=
  let m := masterOf p l
  (rcSuccess, [], s.setLd m { s.ld m with polInfo := info, polWarn := warn, polFail := fail, polFatal := fatal })

/-- SET_EVENT_INTERRUPT_POLICY (R334). -/
def execSetEventInterruptPolicy (port : PortNo) (ld : LdNo) (info warn fail fatal : Fin 3) (s : State) : Result :=
  s.mailbox (.setEventInterruptPolicy port ld info warn fail fatal) port ld false
    (State.mbSetPolicy port ld info warn fail fatal)

/-! ## Firmware (R574) -/

/-- The firmware slot that runs, and the other. -/
def State.fwActive (s : State) : Nat := s.rd SB_FW_STAT.active_slot
def State.fwSlot (s : State) (n : Nat) : FwSlot := if n = 0 then s.sb.slot0 else s.sb.slot1
def State.setFwSlot (s : State) (n : Nat) (v : FwSlot) : State :=
  { s with sb := if n = 0 then { s.sb with slot0 := v } else { s.sb with slot1 := v } }

/-- The image that runs, as SB_FW_STAT and SB_FW_VER report it. -/
def State.fixFw (s : State) : State :=
  let f := s.fwSlot s.fwActive
  ((s.wr SB_FW_STAT.secver f.secver).wr SB_FW_VER.version f.version).wr SB_FW_STAT.min_secver s.sb.minSec

/-- A firmware transfer runs in the device, other than this one's. -/
def State.fwBusy (s : State) (own : Option Nat) : Bool :=
  (decide (own ≠ none) && s.sb.fwOffset.isSome) ||
  s.lds.any fun e => e.2.fwOffset.isSome && decide (own ≠ some e.1)

/-- An image has entered the inactive slot. -/
def State.fwArrived (s : State) (version secver : Nat) (sigOk : Bool) : State :=
  (s.setFwSlot (1 - s.fwActive) { version := version, secver := secver, good := sigOk }).put SB_FW_STAT.pending

/-- The management core is reset (R453): mailboxes and the sideband wait for it. -/
def State.resetMgmt (s : State) : State :=
  { s.clr SB_STAT.core_ready with sys := { s.sys with mgmtDown := some s.now } }

/-- An activation of the image in the inactive slot may commit: it verifies, and its security version is at or above the
minimum. -/
def State.fwFits (s : State) : Bool :=
  let f := s.fwSlot (1 - s.fwActive)
  s.on SB_FW_STAT.pending && f.good && decide (s.sb.minSec ≤ f.secver) && decide (s.sys.phase ≠ .failing)

/-- The slot selector is written, and the management core starts the new image. -/
def State.activateImage (s : State) : State :=
  let old := s.fwActive
  let s := ((s.wr SB_FW_STAT.active_slot (1 - old)).clr SB_FW_STAT.pending).fixFw
  { (s.resetMgmt).cause 0x08 4 with sb := { s.sb with trying := some (old, s.now) } }

def State.mbFwInfo (s : State) : Answer :=
  (rcSuccess, [2, s.fwActive + 1, if s.on SB_FW_STAT.pending then 2 - s.fwActive else 0, 1, (s.fwSlot 0).version,
    (s.fwSlot 1).version], s)

/-- GET_FW_INFO (R334): slots, the active and the staged one, online activation, versions. -/
def execGetFwInfo (port : PortNo) (ld : LdNo) (s : State) : Result :=
  s.mailbox (.getFwInfo port ld) port ld false State.mbFwInfo

def State.mbTransferFw (p l action offset version secver : Nat) (sigOk : Bool) (s : State) : Answer :=
  s.adminOnly p l 0x0201 fun s =>
    let m := masterOf p l
    let d := s.ld m
    if s.fwBusy (some m) then (rcBusy, [], s)
    else match action with
      | 0 => (rcSuccess, [], (s.setLd m { d with fwOffset := none }).fwArrived version secver sigOk)
      | 1 => if offset = 0 then (rcSuccess, [], s.setLd m { d with fwOffset := some 0 }) else (rcInvalid, [], s)
      | 2 => match d.fwOffset with
        | some at_ => if at_ < offset then (rcSuccess, [], s.setLd m { d with fwOffset := some offset })
                      else (rcInvalid, [], s)
        | none => (rcInvalid, [], s)
      | 3 => match d.fwOffset with
        | some at_ => if at_ < offset then
            (rcSuccess, [], (s.setLd m { d with fwOffset := none }).fwArrived version secver sigOk)
          else (rcInvalid, [], s)
        | none => (rcInvalid, [], s)
      | _ => (rcSuccess, [], s.setLd m { d with fwOffset := none })

/-- TRANSFER_FW (R353, R574): whole, or part after part from offset 0; one transfer runs at a time in the device. -/
def execTransferFw (port : PortNo) (ld : LdNo) (action : Fin 5) (offset : Nat) (version secver : Nat) (sigOk : Bool)
    (s : State) : Result :=
  s.mailbox (.transferFw port ld action offset version secver sigOk) port ld false
    (State.mbTransferFw port ld action offset version secver sigOk)

def State.mbActivateFw (p l : Nat) (s : State) : Answer :=
  s.adminOnly p l 0x0202 fun s => if s.fwFits then (rcSuccess, [], s.activateImage) else (rcInvalid, [], s)

/-- ACTIVATE_FW (R574). -/
def execActivateFw (port : PortNo) (ld : LdNo) (s : State) : Result :=
  s.mailbox (.activateFw port ld) port ld false (State.mbActivateFw port ld)

/-- FW_FALLBACK (R574): 100 ms after the reset, the boot ROM starts the other slot. -/
def execFwFallback (s : State) : Result :=
  match s.sb.trying with
  | none => .next s
  | some (old, t) =>
    let s := s.advanceTo (t + 100 * psMs)
    let s := ({ s with sb := { s.sb with trying := none } } : State).wr SB_FW_STAT.active_slot old
    .next (((s.fixFw.put SB_FW_STAT.fallback).cause 0x08 5).err 0x08 0x1504 0).resetMgmt

/-! ## Time -/

def State.mbGetTime (s : State) : Answer := (rcSuccess, [s.tb], s)

/-- GET_TIMESTAMP (R347). -/
def execGetTimestamp (port : PortNo) (ld : LdNo) (s : State) : Result :=
  s.mailbox (.getTimestamp port ld) port ld false State.mbGetTime

/-- The Time Base is set (R232, R435). -/
def State.setTb (s : State) (ns : Nat) : State :=
  let was := s.tb
  let s := { s with clk := { s.clk with tbPs := ns * psNs, skewPs := 0 } }
  let s := ((s.put TB_STAT.valid).bump TB_SETS.count).cause 0x01 2
  let s := if ns < was then ((s.put TB_STAT.stepped_back).cause 0x01 3).err 0x01 0x0F03 was else s
  s.endWindow true

def State.mbSetTime (p l ns : Nat) (s : State) : Answer :=
  if !s.tbValid || s.on (PORT_LD_CFG.ts_master.ld p l) then (rcSuccess, [], s.setTb ns)
  else (rcSuccess, [], s.bump (PORT_TS_IGNORED.count.port p))

/-- SET_TIMESTAMP (R347, R435). -/
def execSetTimestamp (port : PortNo) (ld : LdNo) (ns : BitVec 64) (s : State) : Result :=
  s.mailbox (.setTimestamp port ld ns) port ld false (State.mbSetTime port ld ns.toNat)

/-! ## Logs and features -/

/-- An output whose bytes another standard defines: its draw (assumption 3). -/
def blobWords (kind index : Nat) : List Nat := [(Config.blob kind index).toNat]

/-- GET_SUPPORTED_LOGS (R334): the Command Effects Log and the vendor log. -/
def execGetSupportedLogs (port : PortNo) (ld : LdNo) (s : State) : Result :=
  s.mailbox (.getSupportedLogs port ld) port ld false fun s => (rcSuccess, [0, 1], s)

/-- The opcodes that the Command Effects Log lists (R334, R349). -/
def mailboxOpcodes : List Nat :=
  [0x0100, 0x0101, 0x0102, 0x0103, 0x0200, 0x0201, 0x0202, 0x0300, 0x0301, 0x0400, 0x0401, 0x0500, 0x0600, 0x4000,
   0x4100, 0x4200, 0x4201, 0x4202, 0x4203, 0x4204, 0x4300, 0x4301, 0x4302, 0x4303, 0x4304, 0x4305, 0x4400, 0x4401,
   0x4402, 0xC400, 0xC401, 0xC402, 0xC403, 0xC404, 0xC405, 0xC406]

/-- GET_LOG (R334): the Command Effects Log, or the vendor log, whose content the spec does not give. -/
def execGetLog (port : PortNo) (ld : LdNo) (vendor : Bool) (s : State) : Result :=
  s.mailbox (.getLog port ld vendor) port ld false fun s =>
    if vendor then (rcSuccess, blobWords 0 s.free, s.drawn) else (rcSuccess, mailboxOpcodes, s)

/-- GET_SUPPORTED_FEATURES (R334, R344): soft and hard Post Package Repair and row sparing. -/
def execGetSupportedFeatures (port : PortNo) (ld : LdNo) (s : State) : Result :=
  s.mailbox (.getSupportedFeatures port ld) port ld false fun s => (rcSuccess, [0, 1, 2], s)

/-! ## Maintenance, identity and health -/

def State.mbMaintain (p l cls dpa : Nat) (s : State) : Answer :=
  s.adminOnly p l 0x0600 fun s =>
    if cls = 3 then (rcUnsupported, [], s) else
    let loc := locOf dpa
    let s := (s.wr TIPIN_REQ_LO.dpa loc).wr TIPIN_REQ_HI.dpa (loc / 2 ^ 32)
    let rc := match s.repairRefusal with
      | none => rcBackground
      | some 3 => rcBusy
      | some _ => rcInvalid
    let s := s.requestRepair
    (rc, [], if rc = rcBackground then s.bgStart 4 p l 0 0 else s)

/-- PERFORM_MAINTENANCE (R344). -/
def execPerformMaintenance (port : PortNo) (ld : LdNo) (cls : Fin 4) (dpa : BitVec 44) (s : State) : Result :=
  s.mailbox (.performMaintenance port ld cls dpa) port ld false (State.mbMaintain port ld cls dpa.toNat)

/-- The DPA space in bytes, 16 TiB (R324). -/
def dpaSpace : Nat := 2 ^ 44

/-- The CDAT of a port (R324): the base and length of its one DSMAS entry, the read latency (the typical precharged one of
R19) and write latency in ns, and the bandwidth in 0.1 GB/s, by rate and width; at 32 GT/s none is given. -/
def State.cdat (s : State) (port : Nat) : List Nat :=
  let x8 := match s.rd (PORT_LINK_STAT.rate.port port) with
    | 2 => 1125
    | 1 => 562
    | _ => 0
  [0, dpaSpace, 76, 42, if s.on (PORT_LINK_STAT.width.port port) then x8 / 2 else x8]

def State.mbIdentify (s : State) : Answer :=
  let v := decide (s.sys.variant = 4)
  let inject := if s.lifeCycle = 1 then Config.pick s.free 4096 else 0
  (rcSuccess, [dpaSpace, if v then dpaSpace else 0, if v then 0 else dpaSpace, 0, 4096, inject],
    if s.lifeCycle = 1 then s.drawn else s)

/-- IDENTIFY_MEMORY_DEVICE (R324, R334): total, volatile and persistent capacity, LSA size, poison list entries and
injection capacity. -/
def execIdentifyMemoryDevice (port : PortNo) (ld : LdNo) (s : State) : Result :=
  s.mailbox (.identifyMemoryDevice port ld) port ld true State.mbIdentify

/-- GET_PARTITION_INFO (R324): active volatile and persistent capacity. -/
def execGetPartitionInfo (port : PortNo) (ld : LdNo) (s : State) : Result :=
  s.mailbox (.getPartitionInfo port ld) port ld true fun s =>
    (rcSuccess, if s.sys.variant = 4 then [dpaSpace, 0] else [0, dpaSpace], s)

/-- A fatal error is outstanding in some page. -/
def State.fatalStands (s : State) : Bool := allPages.any fun p => s.on (ERR_STAT.fatal.on p)

/-- Persistence terms of health apply: not on the LR128-V4 (R348). -/
def State.needsCare (s : State) : Bool :=
  ((List.range 64).any fun p => decide (s.rd (PC_REPAIR_STAT.spare_state.pc p) ≠ 0)) ||
  (s.persistFused && (decide (s.rd FOLIO_STAT.persist = 2) || s.on BANK_STAT.worn || s.on BANK_STAT.esr_high))

def State.degraded (s : State) : Bool :=
  ((List.range 16).any fun l => decide ((s.heat l).level ≠ 0)) || s.on GAUGE_STAT.oversub

def State.replaceNeeded (s : State) : Bool :=
  (s.persistFused && (decide (s.rd FOLIO_STAT.persist = 3) || decide (2 ≤ s.rd BANK_STAT.presence))) || s.fatalStands ||
  s.safe

/-- Media status in the order of R348: 1 Not Ready, 3 All Data Lost, 2 Write Persistency Lost, 4 Write Persistency Loss in
Event of Power Loss, 0 Normal. -/
def State.mediaStatus (s : State) : Nat :=
  if !s.on SYS_START_STAT.mem_active then 1
  else if !s.persistFused then 0
  else if s.on FOLIO_STAT.map_lost then 3
  else if s.rd FOLIO_STAT.persist = 3 then 2
  else if !s.on BANK_STAT.covered then 4
  else 0

/-- The largest wear of a block (R157). -/
def State.wearMax (s : State) : Nat := (s.folio.blocks.map fun e => e.2.wear).foldl max 0

/-- Tip-in slots used in a PC, in percent of 1,024 (R348). -/
def State.slotsUsedPct (s : State) (pc : Nat) : Nat :=
  (s.repair.table.filter fun e => decide (e.1 / 1024 = pc) && (e.2.valid || e.2.bad)).length * 100 / 1024

def State.lifeUsed (s : State) : Nat :=
  let wear := if s.persistFused then s.wearMax / 200 else 0
  ((List.range 64).map s.slotsUsedPct).foldl max wear

def State.hottestDie (s : State) : Int := (s.layersPresent.map fun l => wholeC (s.layerTemp l)).foldl max (-273)

def State.correctedSum (s : State) : Nat :=
  min ((List.range 64).map fun p =>
    s.rd (PC_CORR1.count.pc p) + s.rd (PC_CORR2.count.pc p) + s.rd (PC_CORR3.count.pc p)).sum (2 ^ 32 - 1)

def State.mbHealth (s : State) : Answer :=
  let b (x : Bool) (n : Nat) : Nat := if x then 2 ^ n else 0
  (rcSuccess, [b s.needsCare 0 + b s.degraded 1 + b s.replaceNeeded 2, s.mediaStatus, s.lifeUsed, ofSigned 16 s.hottestDie,
    if s.persistFused then s.folio.dirtyShutdowns else 0, s.correctedSum,
    if s.persistFused then min (Config.correctedReads s.free) (2 ^ 32 - 1) else 0], s.drawn)

/-- GET_HEALTH_INFO (R348): the health bits, media status, life used, temperature, dirty shutdowns, corrected errors. -/
def execGetHealthInfo (port : PortNo) (ld : LdNo) (s : State) : Result :=
  s.mailbox (.getHealthInfo port ld) port ld true State.mbHealth

def State.mbGetAlert (p l : Nat) (s : State) : Answer :=
  (rcSuccess, [(s.ld (masterOf p l)).alertLife, (s.ld (masterOf p l)).alertTemp], s)

/-- GET_ALERT_CONFIG (R334). -/
def execGetAlertConfig (port : PortNo) (ld : LdNo) (s : State) : Result :=
  s.mailbox (.getAlertConfig port ld) port ld true (State.mbGetAlert port ld)

def State.mbSetAlert (p l life temp : Nat) (s : State) : Answer :=
  s.adminOnly p l 0x4202 fun s =>
    (rcSuccess, [], s.setLd (masterOf p l) { s.ld (masterOf p l) with alertLife := life, alertTemp := temp })

/-- SET_ALERT_CONFIG (R334). -/
def execSetAlertConfig (port : PortNo) (ld : LdNo) (life temp : Nat) (s : State) : Result :=
  s.mailbox (.setAlertConfig port ld life temp) port ld false (State.mbSetAlert port ld life temp)

/-- The shutdown state reads Clean (R346). -/
def State.cleanShutdown (s : State) : Bool :=
  s.folio.shutdownSet.getD (match s.folio.image with
    | some i => decide (i.kind = 4)
    | none => false)

/-- GET_SHUTDOWN_STATE (R346): 1 for Dirty. -/
def execGetShutdownState (port : PortNo) (ld : LdNo) (s : State) : Result :=
  s.mailbox (.getShutdownState port ld) port ld true fun s => (rcSuccess, [if s.cleanShutdown then 0 else 1], s)

def State.mbSetShutdown (p l : Nat) (clean : Bool) (s : State) : Answer :=
  s.adminOnly p l 0x4204 fun s => (rcSuccess, [], { s with folio := { s.folio with shutdownSet := some clean } })

/-- SET_SHUTDOWN_STATE (R346): the value reported until the next start, and nothing else. -/
def execSetShutdownState (port : PortNo) (ld : LdNo) (clean : Bool) (s : State) : Result :=
  s.mailbox (.setShutdownState port ld clean) port ld false (State.mbSetShutdown port ld clean)

/-! ## Poison and scans -/

def State.mbGetPoison (p l dpa len : Nat) (s : State) : Answer :=
  s.ownOnly p l 0x4300 dpa len fun s =>
    let a := locOf dpa
    let hit := s.mbox.poison.filter fun e => decide (a ≤ e.loc ∧ e.loc < a + len) && s.allocHolds p l (quireOf e.loc)
    (rcSuccess, [if s.mbox.poisonOverflow.isSome then 1 else 0, s.mbox.poisonOverflow.getD 0, hit.length] ++
      hit.flatMap (fun e => [e.loc, e.source]), s)

/-- GET_POISON_LIST (R338): the overflow flag and time, then each location and its source. -/
def execGetPoisonList (port : PortNo) (ld : LdNo) (dpa : BitVec 44) (len : Nat) (s : State) : Result :=
  s.mailbox (.getPoisonList port ld dpa len) port ld false (State.mbGetPoison port ld dpa.toNat len)

/-- A line is written outside the queues: the copies of hosts are called back, and its quire becomes Dirty (R329,
R133). -/
def State.touchLine (s : State) (loc master : Nat) : State :=
  (((((s.ensure (quireOf loc)).settleLine loc).engineRow loc 1 master).callBack loc true).markDirty (quireOf loc) master).chargeEng master 1

def State.mbInject (p l dpa : Nat) (s : State) : Answer :=
  s.adminOnly p l 0x4301 fun s =>
    let a := lineAddr (locOf dpa)
    if s.lifeCycle ≠ 1 then (rcUnsupported, [], s)
    else if !s.openLoc a then (rcInvalid, [], s)
    else
      let s := s.touchLine a 0x19
      (rcSuccess, [], s.poisonLine a (s.line a).data 3)

/-- Inject Poison would make a quire Dirty that R21 does not let become so. -/
def State.injectWaits (s : State) (p l dpa : Nat) : Bool :=
  decide (s.lifeCycle = 1) && s.admin p l && s.openLoc (lineAddr (locOf dpa)) && s.wouldHold (quireOf (locOf dpa))

/-- INJECT_POISON (R341); it waits as Clear Poison does. -/
def execInjectPoison (port : PortNo) (ld : LdNo) (dpa : BitVec 44) (s : State) : Result :=
  if s.injectWaits port ld dpa.toNat then .next (s.holdEngine 0x19)
  else .next (s.coherent (s.after
    (s.mailbox (.injectPoison port ld dpa) port ld false (State.mbInject port ld dpa.toNat))))

/-- The line lies in a mirrored range of which this module is Secondary: no command writes it (R302, R340). -/
def State.onSecondary (s : State) (loc : Nat) : Bool :=
  match s.mirrorOf loc with
  | some n => !s.primary n
  | none => false

/-- Clear Poison of a line waits under R21. -/
def State.clearWaits (s : State) (p l dpa : Nat) (data : LineData) : Bool :=
  decide (data = 0) && s.owns p l dpa 64 && !s.onSecondary (locOf dpa) && s.openLoc (lineAddr (locOf dpa)) &&
  s.wouldHold (quireOf (locOf dpa))

def State.mbClearPoison (p l dpa : Nat) (data : LineData) (s : State) : Answer :=
  s.ownOnly p l 0x4302 dpa 64 fun s =>
    let a := lineAddr (locOf dpa)
    if data ≠ 0 ∨ s.onSecondary a ∨ !s.openLoc a then (rcInvalid, [], s)
    else
      let s := (s.touchLine a 0x19).clearSpan (a / 64) (a / 64 + 1)
      (rcSuccess, [], if (s.mirrorOf a).isSome then s.setPush (quireOf a) true else s)

/-- CLEAR_POISON (R340): a command whose write R21 would hold, or whose line a host may hold, is not taken until it may be
made. -/
def execClearPoison (port : PortNo) (ld : LdNo) (dpa : BitVec 44) (data : LineData) (s : State) : Result :=
  if s.clearWaits port ld dpa.toNat data then .next (s.holdEngine 0x19)
  else .next (s.coherent (s.after
    (s.mailbox (.clearPoison port ld dpa data) port ld false (State.mbClearPoison port ld dpa.toNat data))))

def State.mbScanCaps (p l dpa len : Nat) (s : State) : Answer :=
  s.ownOnly p l 0x4303 dpa len fun s => (rcSuccess, [len / 20000000], s)

/-- GET_SCAN_MEDIA_CAPABILITIES (R339): the time of the scan in ms, the range ÷ 20 GB/s. -/
def execGetScanMediaCapabilities (port : PortNo) (ld : LdNo) (dpa : BitVec 44) (len : Nat) (s : State) : Result :=
  s.mailbox (.getScanMediaCapabilities port ld dpa len) port ld false (State.mbScanCaps port ld dpa.toNat len)

def State.mbScan (p l dpa len : Nat) (s : State) : Answer :=
  s.ownOnly p l 0x4304 dpa len fun s =>
    if s.bgBusy 2 then (rcBusy, [], s)
    else (rcBackground, [], s.bgStart 2 p l (locOf dpa / 64) (len / 64))

/-- SCAN_MEDIA (R339). -/
def execScanMedia (port : PortNo) (ld : LdNo) (dpa : BitVec 44) (len : Nat) (s : State) : Result :=
  s.mailbox (.scanMedia port ld dpa len) port ld false (State.mbScan port ld dpa.toNat len)

/-- Results that fit in one payload. -/
def scanPerPayload : Nat := 254

def State.mbScanResults (s : State) : Answer :=
  let now_ := s.mbox.scan.take scanPerPayload
  let rest := s.mbox.scan.drop scanPerPayload
  (rcSuccess, [if rest = [] then 0 else 1, now_.length] ++ now_, { s with mbox := { s.mbox with scan := rest } })

/-- GET_SCAN_MEDIA_RESULTS (R339): the more-entries flag, then the lines found. -/
def execGetScanMediaResults (port : PortNo) (ld : LdNo) (s : State) : Result :=
  s.mailbox (.getScanMediaResults port ld) port ld false State.mbScanResults

/-! ## Erase -/

/-- A media erase (R130): a new Folio key in a new Folio key record and a void Colophon, whatever the state of
persistence, then a Clear over every quire. -/
def State.mediaErase (s : State) : State :=
  let s := if s.persistFused then
      (({ s.drawn with folio := { s.folio with key := some s.free } } : State).appendSys recFolioKey).commitVoid
    else s
  s.startKerf 0 [(0, s.fullQuires)] 0

/-- The cryptographic erase of the whole device (R218, R220, R342). -/
def State.cryptoErase (s : State) : State :=
  let s := { s with crypto := { s.crypto with
    keys := [], rights := [], ranges := [], tags := [], recKeys := [], recRights := [], recRanges := [] } }
  (s.cause 0x19 3).mediaErase

/-- Why an erase is refused (R342). -/
def State.eraseRefusal (s : State) : Option Nat :=
  if s.anyConfigured then some rcInvalid
  else if s.bindBusy || s.folio.running.isSome || s.kerfActive 1 || s.kerfActive 0 || s.bgBusy 0 then some rcBusy
  else none

def State.mbSanitize (p l : Nat) (s : State) : Answer :=
  s.adminOnly p l 0x4400 fun s =>
    match s.eraseRefusal with
    | some rc => (rc, [], s)
    | none =>
      let s := s.cryptoErase.bgStart 0 p l 0 0
      (rcBackground, [], { s with mbox := { s.mbox with sanitizing := true } })

/-- SANITIZE (R342). -/
def execSanitize (port : PortNo) (ld : LdNo) (s : State) : Result :=
  s.mailbox (.sanitize port ld) port ld false (State.mbSanitize port ld)

def State.mbSecureErase (p l : Nat) (s : State) : Answer :=
  s.adminOnly p l 0x4401 fun s =>
    match s.eraseRefusal with
    | some rc => (rc, [], s)
    | none => (rcSuccess, [], s.cryptoErase)

/-- SECURE_ERASE (R342). -/
def execSecureErase (port : PortNo) (ld : LdNo) (s : State) : Result :=
  s.mailbox (.secureErase port ld) port ld false (State.mbSecureErase port ld)

def State.mbMediaOps (p l op dpa len : Nat) (s : State) : Answer :=
  match op with
  | 0 => (rcSuccess, [2 ^ 20, 1], s)
  | 1 => s.ownOnly p l 0x4402 dpa len fun s =>
    let q := quireOf (locOf dpa)
    let n := len / 2 ^ 20
    let quires := List.range' q n
    let secondary := quires.any fun i => s.onSecondary (i * 2 ^ 20)
    if locOf dpa % 2 ^ 20 ≠ 0 ∨ len % 2 ^ 20 ≠ 0 ∨ n = 0 ∨ s.capacity < q + n ∨ secondary then (rcInvalid, [], s)
    else if s.kerfActive 0 || s.kerfActive 1 || s.bgBusy 1 || s.bindBusy then (rcBusy, [], s)
    else
      let s := s.forAll quires fun s i => if (s.mirrorOf (i * 2 ^ 20)).isSome then s.setPush i true else s
      (rcBackground, [], (s.startKerf 0 [(q, q + n)] 0).bgStart 1 p l (q * quireLines) (n * quireLines))
  | _ => (rcUnsupported, [], s)

/-- MEDIA_OPERATIONS (R343): discovery gives the granularity and Zero alone. -/
def execMediaOperations (port : PortNo) (ld : LdNo) (op : Fin 3) (dpa : BitVec 44) (len : Nat) (s : State) : Result :=
  s.mailbox (.mediaOperations port ld op dpa len) port ld false (State.mbMediaOps port ld op dpa.toNat len)

/-! ## The end of a background operation -/

/-- A line of a scan is read (R339): what it is listed as. -/
def State.scanOne (s : State) (loc : Nat) (errs : List (Nat × Nat)) : State :=
  let v := s.judge loc errs
  let s := (s.engineRead loc errs true 4 0x11).2
  if v.outcome = .uncorrectable ∨ v.outcome = .poisoned then
    { s with mbox := { s.mbox with scan := s.mbox.scan ++ [loc] } }
  else s

/-- A media scan over a span of lines (R339): the lines listed in DRAM and those whose read picks up errors; every other
line reads clean. A scan over the whole capacity ends the overflow of the poison list (R337). -/
def State.runScan (s : State) (o : Background) (errs : List (Nat × List SymErr)) : State :=
  let inside (n : Nat) : Bool := decide (o.first ≤ n ∧ n < o.first + o.lines)
  let s := s.forAll (List.range' (o.first / quireLines) ((o.first + o.lines + quireLines - 1) / quireLines - o.first / quireLines))
    State.ensure
  let s := { s with mbox := { s.mbox with scan := [] } }.forAll (List.range 64) fun s p =>
    if s.pcPresent p then s.wakeForEngine p (o.first * 64, 4, 0x11) else s
  let stored := (s.lines.map (·.1)).filter inside
  let hit := (errs.map (·.1)).filter fun n => inside n && !stored.contains n
  let s := s.forAll (stored ++ hit) fun s n => s.scanOne (n * 64) (symErrs ((errs.lookup n).getD []))
  let s := s.chargeEng 0x11 o.lines
  if o.first = 0 ∧ s.capacity * quireLines ≤ o.lines then { s with mbox := { s.mbox with poisonOverflow := none } } else s

/-- What a kind of background operation waits for. -/
def State.bgDone (s : State) (kind : Nat) : Bool :=
  match kind with
  | 0 => !s.kerfActive 0
  | 1 => !s.kerfActive 0
  | 3 => s.folio.running.isNone && s.folio.ordered.isNone && !s.on FOLIO_STAT.ckpt_queued
  | 4 => !s.on TIPIN_REQ_STAT.busy
  | _ => true

/-- BACKGROUND_OP_COMPLETE (R333, R339, R342, R343, R349): its status becomes readable. A scan's errors are given by line
number. -/
def execBackgroundOpComplete (kind : Fin 5) (errs : List (Nat × List SymErr)) (s : State) : Result :=
  match s.mbox.ops.find? fun o => decide (o.kind = kind.val) with
  | none => .next s
  | some o =>
    if !s.bgDone kind then .next s else
    let s := { s with mbox := { s.mbox with ops := s.mbox.ops.erase o } }
    let s := match kind.val with
      | 0 => { s with mbox := { s.mbox with sanitizing := false } }
      | 2 => s.runScan o errs
      | _ => s
    let pay := if kind.val = 3 then s.rd64 FOLIO_BSN_LO.bsn FOLIO_BSN_HI.bsn else 0
    .next { s with mbox := { s.mbox with
      done := Sparse.set (fun _ => none) s.mbox.done (masterOf o.port o.ld) (some (o.kind, rcSuccess, pay)) } }

/-! ## Vendor commands and the FM API -/

/-- A 4-byte value that stands for a base that is not there (R349). -/
def noBase : Nat := 0xFFFFFFFF

def State.mbLocationMap (p l : Nat) (s : State) : Answer :=
  let allocs := (List.range 4).flatMap fun a =>
    [s.rd (PORT_LD_ALLOC_BASE.base_quire.ld p (l * 4 + a)), s.rd (PORT_LD_ALLOC_END.end_quire.ld p (l * 4 + a))]
  (rcSuccess, [s.rd SYS_ID.variant, s.capacity, if s.carve then s.carveBase else noBase,
    if s.area then s.fullQuires - 32 else noBase, if s.keyAttr p l then 2 else 1] ++ allocs, s)

/-- GET_LOCATION_MAP (R349). -/
def execGetLocationMap (port : PortNo) (ld : LdNo) (s : State) : Result :=
  s.mailbox (.getLocationMap port ld) port ld false (State.mbLocationMap port ld)

def State.mbCheckpoint (p l : Nat) (limited : Bool) (s : State) : Answer :=
  if !s.persists then (rcUnsupported, [], s)
  else if s.bgBusy 3 then (rcBusy, [], s)
  else (rcBackground, [], (s.orderCkpt (if limited then 0 else 1)).bgStart 3 p l 0 0)

/-- ORDER_CHECKPOINT (R349). -/
def execOrderCheckpoint (port : PortNo) (ld : LdNo) (limited : Bool) (s : State) : Result :=
  s.mailbox (.orderCheckpoint port ld limited) port ld false (State.mbCheckpoint port ld limited)

def State.mbSetAlloc (p l tp tl range base stop : Nat) (s : State) : Answer :=
  s.adminOnly p l 0xC406 fun s =>
    if s.on (LOCK.lock.on (0x10 + tp)) || !s.hasPort tp then (rcInvalid, [], s)
    else
      let i := tl * 4 + range
      (rcSuccess, [], (s.wr (PORT_LD_ALLOC_BASE.base_quire.ld tp i) base).wr (PORT_LD_ALLOC_END.end_quire.ld tp i) stop)

/-- SET_LD_ALLOCATION (R320, R349): the port, LD and range named. -/
def execSetLdAllocation (port : PortNo) (ld : LdNo) (toPort : PortNo) (toLd : LdNo) (range : Fin 4) (base stop : Nat)
    (s : State) : Result :=
  s.mailbox (.setLdAllocation port ld toPort toLd range base stop) port ld false
    (State.mbSetAlloc port ld toPort toLd range base stop)

/-- The summed size of a logical device's allocation ranges, in quires (R320). -/
def State.allocSize (s : State) (p l : Nat) : Nat :=
  ((List.range 4).map fun a => s.rd (PORT_LD_ALLOC_END.end_quire.ld p (l * 4 + a)) -
    s.rd (PORT_LD_ALLOC_BASE.base_quire.ld p (l * 4 + a))).sum

/-- A command of the FM API reaches the FM-owned LD of a port that runs as a multiple logical device (R318, R333). -/
def State.fmApi (s : State) (c : Instr) (p : Nat) (f : State → Answer) : State :=
  if !(s.hasPort p && s.on (PORT_LINK_STAT.mld.port p) && decide (s.rd (PORT_LINK_STAT.mode.port p) ≠ 0)) then s
  else if s.sys.mgmtDown.isSome then { s with mbox := { s.mbox with waiting := s.mbox.waiting ++ [c] } }
  else s.served p 4 false f

/-- GET_LD_ALLOCATIONS (R320). -/
def execGetLdAllocations (port : PortNo) (s : State) : Result :=
  .next (s.fmApi (.getLdAllocations port) port fun s => (rcSuccess, (List.range 4).map (s.allocSize port), s))

/-- SET_LD_ALLOCATIONS (R320): refused as unsupported. -/
def execSetLdAllocations (port : PortNo) (s : State) : Result :=
  .next (s.fmApi (.setLdAllocations port) port fun s => (rcUnsupported, [], s))

/-- MAILBOX_UNSUPPORTED (R334). -/
def execMailboxUnsupported (port : PortNo) (ld : LdNo) (opcode : BitVec 16) (s : State) : Result :=
  s.mailbox (.mailboxUnsupported port ld opcode) port ld true fun s => (rcUnsupported, [], s)

end Sys2Proof.Machine
end

