-- ==== Sys2Proof/Machine/Lanes.lean ====
section
/-!
DEFINITION. The serial lanes and the link states of their ports (R360 to R388), and the adaptation of R467.
-/

namespace Sys2Proof.Machine

/-- The state of the LTSSM of a lane group: 0 Detect, 1 Polling, 2 Configuration, 3 L0, 4 Recovery, 5 Recovery
equalisation, 6 L0s, 7 L1 (R385). -/
def State.ltssm (s : State) (g : Nat) : Nat := s.rd (PHY_STAT.ltssm.port g)

/-! ## Block alignment -/

/-- A lane of the group hunts for its block boundaries: it is in training, or a lane of a link in Recovery. -/
def State.hunts (s : State) (g n : Nat) : Bool :=
  decide ((s.lane (laneNo g n)).lock = none) &&
  (decide (s.ltssm g = 1 ∨ s.ltssm g = 2) ||
    (decide (s.ltssm g = 4 ∨ s.ltssm g = 5) && s.on (PHY_LANE_STAT.active.lane g n)))

/-- The link of a group is back in L0: its lanes are Active and what waited to be sent leaves (R364, R380). -/
def State.resumeLink (s : State) (g : Nat) : State :=
  let s := (s.wr (PHY_STAT.ltssm.port g) 3).clr (PHY_STAT.pm_state.port g)
  let s := s.runDomain (64 + g)
  let l := (s.port g).waitOut
  let s := (s.setLanes g 0).setPort g { s.port g with waitOut := [], idleAt := s.now, l1Req := false }
  (s.forAll l State.emit).fixCal (64 + g)

/-- The counts of consecutive valid headers at the 130 offsets after one more block (R363). -/
def alignCounts (c : List Nat) (b : BitVec 130) : List Nat :=
  (List.range 130).map fun o => if b.getLsbD o then c.getD o 0 + 1 else 0

/-- The offset to which the aligner locks: the first that alone holds a count of 32 or more (R363). -/
def alignerLock : List Nat → List (BitVec 130) → Option Nat
  | _, [] => none
  | c, b :: rest =>
    match (List.range 130).filter fun o => decide (32 ≤ (alignCounts c b).getD o 0) with
    | [o] => some o
    | _ => alignerLock (alignCounts c b) rest

/-- What is seen locks a lane to an offset (R363). -/
def lockSeen (f : LockFinding) (offset : Nat) : Bool := f.eieos || decide (alignerLock [] f.blocks = some offset)

/-- A lane locks to an offset; a link in Recovery whose lanes are all locked is back in L0. -/
def State.lockLane (s : State) (g n offset : Nat) : State :=
  let s := s.setLane (laneNo g n) { s.lane (laneNo g n) with lock := some offset }
  if s.ltssm g = 4 ∧ (s.activeLanes g).all fun n => (s.lane (laneNo g n)).lock.isSome then s.resumeLink g else s

/-- The level index of a level (R366). -/
def levelIndex : PamLevel → Nat
  | .minus3 => 0
  | .minus1 => 1
  | .plus1 => 2
  | .plus3 => 3

/-- The level of a level index (R366). -/
def levelOf (k : Nat) : PamLevel :=
  if k % 4 = 0 then .minus3 else if k % 4 = 1 then .minus1 else if k % 4 = 2 then .plus1 else .plus3

/-- The level index of a bit pair, the first bit b1 (R366). -/
def pamIndex (b1 b0 : Bool) : Nat := if b1 then (if b0 then 2 else 3) else if b0 then 1 else 0

/-- The bit pair of a level index (R366). -/
def pamPair (k : Nat) : List Bool := [decide (2 ≤ k % 4), decide (k % 4 = 1 ∨ k % 4 = 2)]

/-- The levels that a transmitter sends for bits, after the symbol P(n − 1) (R366, R367). -/
def pamSend (precode : Bool) : Nat → List Bool → List PamLevel
  | prev, b1 :: b0 :: rest =>
    let p := if precode then (pamIndex b1 b0 + 4 - prev) % 4 else pamIndex b1 b0
    levelOf p :: pamSend precode p rest
  | _, _ => []

/-- The bits that a receiver recovers from levels, after the symbol P(n − 1); an inverted lane takes level index k as
3 − k first (R366, R367). -/
def pamReceive (inverted precode : Bool) : Nat → List PamLevel → List Bool
  | _, [] => []
  | prev, l :: rest =>
    let p := if inverted then 3 - levelIndex l else levelIndex l
    pamPair (if precode then (p + prev) % 4 else p) ++ pamReceive inverted precode p rest

/-- The rate of a group's link: 0 32 GT/s or below, 1 64 GT/s, 2 128 GT/s. -/
def State.linkRate (s : State) (g : Nat) : Nat :=
  if g = 4 then (if s.on DOVE_STAT.speed then 1 else 2) else s.rd (PORT_LINK_STAT.rate.port g)

/-- The symbols that a locked lane takes, none where it has no PAM4 symbols: a link out of training has them at 64 and
128 GT/s alone (R366, R367). -/
def State.takeSymbols (s : State) (g n : Nat) (levels : List PamLevel) : State :=
  if levels = [] ∨ (s.linkRate g = 0 ∧ s.ltssm g ≠ 1 ∧ s.ltssm g ≠ 2) then s
  else s.setLane (laneNo g n) { s.lane (laneNo g n) with
    rxBits := pamReceive (s.on (PHY_LANE_STAT.inverted.lane g n)) (s.on (PHY_LANE_STAT.precode_rx.lane g n)) 0 levels }

/-- LANE_LOCK (R363, R366, R367): 32 valid headers at one offset alone lock a lane that hunts; an EIEOS locks one at once. -/
def execLaneLock (group : GroupNo) (lane : LaneNo) (offset : Fin 130) (finding : LockFinding) (s : State) : Result :=
  let inLink := decide (s.ltssm group = 1 ∨ s.ltssm group = 2) || s.on (PHY_LANE_STAT.active.lane group lane)
  if lockSeen finding offset && (s.hunts group lane || (finding.eieos && inLink)) then
    .next ((s.lockLane group lane offset).takeSymbols group lane finding.levels)
  else .next s

/-- ALIGNMENT_LOSS (R364): of a lane in L0 at an NRZ rate, by its fourth invalid header within 64 blocks (R386). -/
def execAlignmentLoss (group : GroupNo) (lane : LaneNo) (s : State) : Result :=
  let g := group.val
  if g = 4 ∨ s.ltssm g ≠ 3 ∨ s.rd (PORT_LINK_STAT.mode.port g) ≠ 1 ∨ !s.on (PHY_LANE_STAT.active.lane g lane) then .next s
  else
    let s := s.setLane (laneNo g lane) { s.lane (laneNo g lane) with lock := none, huntAt := s.now }
    let s := ((s.wr (PHY_STAT.ltssm.port g) 4).bump (PHY_ALIGN_LOSS.count.port g)).cause (phyPage g) 8
    let s := (s.err (phyPage g) 0x0B12 lane).count (PHY_LANE_ERR.count.lane g lane) 4
    .next (((s.bump (PHY_RECOVERY.count.port g)).cause (phyPage g) 7).fixCal (64 + g))

/-- LANE_UNLOCKED_TIMEOUT (R365): 24 ms without lock in Polling or Recovery. -/
def execLaneUnlockedTimeout (group : GroupNo) (lane : LaneNo) (s : State) : Result :=
  if !s.hunts group lane then .next s else
  let l := s.lane (laneNo group lane)
  let s := s.advanceTo (l.huntAt + 24 * psMs)
  .next (s.setLane (laneNo group lane) { l with failed := true })

/-! ## Training -/

/-- TRAINING_RETRY (R362, R376): 100 ms after the last training failed. -/
def execTrainingRetry (group : GroupNo) (s : State) : Result :=
  match (s.port group).retryAt with
  | none => .next s
  | some t =>
    let s := s.advanceTo (t + 100 * psMs)
    .next ((s.setPort group { s.port group with retryAt := none }).train group)

/-- The highest mode that a group offers (R315, R317, R361, R555). -/
def State.modeCap (s : State) (g : Nat) : Nat :=
  if g < 4 ∧ (s.on SYS_LC.restrictive ∨ s.rd (PORT_CTL.rate_cap.port g) = 2) then 1
  else if s.sys.variant = 5 ∨ (g < 4 ∧ s.rd (PORT_CTL.rate_cap.port g) = 1) then 3
  else 4

/-- The mode in which the link forms, where the ends could reach `mode`; a port limited from mode 4 to 64 GT/s keeps the
flit form. 0 is no mode at 32 GT/s or more. -/
def State.modeFormed (s : State) (g mode : Nat) (lo : Bool) : Nat :=
  let cap := s.modeCap g
  if mode ≤ cap then mode else if cap = 1 then 1 else if mode = 4 ∧ !lo then 2 else 3

/-- The rate of a mode: 0 32 GT/s, 1 64 GT/s, 2 128 GT/s. -/
def modeRate (mode : Nat) : Nat := if mode = 1 then 0 else if mode = 4 then 2 else 1

/-- The lanes that training cannot use (R373, R546): receiver detection failed (the operand's bits), lane_disable from the
last Detect on, R365, or the self-test. -/
def State.unusable (s : State) (g : Nat) (undetected : BitVec 8) : List Nat :=
  (List.range 8).filter fun n =>
    let l := s.lane (laneNo g n)
    undetected.getLsbD n || l.failed || l.held ||
      (bitOf (s.rd (PHY_CTL.lane_disable.port g)) n && !s.on (PHY_LANE_STAT.active.lane g n))

/-- The physical lanes in the order of the logical lanes, by the order of R373; `none` where no width forms. The partner
sends its lane 0 on physical lane 7 where the free draw says so. -/
def State.lanesFormed (s : State) (g : Nat) (bad : List Nat) : Option (List Nat) :=
  let ok := fun (l : List Nat) => l.all fun n => decide (n ∉ bad)
  let rev := s.on (PHY_CTL.reversal_en.port g)
  let x4 := g < 4 && (s.on (PORT_CTL.x4_only.port g) || s.on SYS_LC.restrictive)
  if !x4 && ok (List.range 8) then
    some (if rev && decide (Config.trained s.free (64 + g) 200 % 2 = 1) then (List.range 8).reverse else List.range 8)
  else if ok [0, 1, 2, 3] then some [0, 1, 2, 3]
  else if rev && ok [4, 5, 6, 7] then some [7, 6, 5, 4]
  else none

/-- What equalisation leaves in a lane's registers (R368, R369): the transmitter's coefficients that the partner asked
for, and this receiver's settings. -/
def State.equalise (s : State) (g n rate : Nat) (set : Nat × Nat × Nat × Nat) : State :=
  let v := fun k => Config.trained set.1 (64 + g) (n * 16 + k)
  let pre2 := if rate = 0 then 0 else v 1 % 7
  let pre1 := v 2 % (if rate = 0 then 11 else 13)
  let post := v 3 % (if rate = 0 then 17 else 13)
  let s := ((s.wr (PHY_LANE_TXEQ.preset.lane g n) (v 0)).wr (PHY_LANE_TXEQ.pre2.lane g n) pre2).wr
    (PHY_LANE_TXEQ.pre1.lane g n) pre1
  let s := (s.wr (PHY_LANE_TXEQ.post.lane g n) post).wr (PHY_LANE_TXEQ.main.lane g n) (48 - pre2 - pre1 - post)
  ((s.wr (PHY_LANE_RXEQ.ctle_dc.lane g n) set.2.1).wr (PHY_LANE_RXEQ.peaking.lane g n) set.2.2.1).wr
    (PHY_LANE_RXEQ.dfe1.lane g n) set.2.2.2

/-- The greatest peaking of a rate in dB (R369). -/
def peakMax (rate : Nat) : Nat := if rate = 0 then 20 else 24

/-- A lane saves its settings at a rate (R370). -/
def State.saveLane (s : State) (g n rate : Nat) (set : Nat × Nat × Nat × Nat) : State :=
  let l := s.lane (laneNo g n)
  s.setLane (laneNo g n) { l with saved := Sparse.set (fun _ => none) l.saved rate (some set) }

/-- A lane joins a link as a logical lane (R367, R370 to R372, R386). Saved settings serve again in the
no-equalisation-needed mode; else every phase runs. -/
def State.joinLane (s : State) (g n logical rate : Nat) : State :=
  let v := fun k => Config.trained s.free (64 + g) (n * 16 + k)
  let l := s.lane (laneNo g n)
  let s := s.setLane (laneNo g n) { l with lock := if rate = 0 then l.lock <|> some (v 9 % 130) else l.lock }
  let pam4 := decide (rate ≠ 0)
  let s := ((s.wr (PHY_LANE_STAT.logical.lane g n) logical).put (PHY_LANE_STAT.active.lane g n)).wr
    (PHY_LANE_STAT.state.lane g n) 0
  let s := s.wrb (PHY_LANE_STAT.inverted.lane g n) (s.on (PHY_CTL.polarity_auto.port g) && decide (v 5 % 2 = 1))
  let s := s.wrb (PHY_LANE_STAT.precode_tx.lane g n) (pam4 && decide (v 6 % 2 = 1))
  let s := s.wrb (PHY_LANE_STAT.precode_rx.lane g n) (pam4 && s.on (PHY_CTL.precode_req.port g))
  let new := (s.free, v 7 % 13, v 8 % (peakMax rate + 1), ofSigned 8 ((v 4 % 129 : Nat) - 64 : Int))
  let set := if s.on (PHY_CTL.no_eq_en.port g) then (Sparse.get (fun _ => none) l.saved rate).getD new else new
  (s.equalise g n rate set).saveLane g n rate set

/-- A training fails: the group is back in Detect (R362, R373, R382). A host port whose link was up takes a port reset. -/
def State.trainFailed (s : State) (g : Nat) (retry : Bool) : State :=
  let s := if g = 4 then s.doveLanesDown
    else if s.ltssm g = 1 ∨ s.ltssm g = 2 then s.linkDown g
    else s.portReset g 2 false
  s.setPort g { s.port g with retryAt := if retry then some s.now else none }

/-- The registers of a host port whose link has formed (R318, R357). -/
def State.hostLinkUp (s : State) (p mode : Nat) (lo : Bool) (rate : Nat) (bound : BitVec 4) (mld : Bool) : State :=
  let was := s.rd (PORT_LINK_STAT.mode.port p)
  let flits := if mode = 4 then (if lo then 3 else 2) else mode
  let on := fun l => if mld then bound.getLsbD l else decide (l = 0)
  let s := ((s.wr (PORT_LINK_STAT.mode.port p) flits).wr (PORT_LINK_STAT.rate.port p) rate).wrb
    (PORT_LINK_STAT.mld.port p) mld
  let s := s.forAll (List.range 4) fun s l => s.wrb (PORT_LD_CFG.bound.ld p l) (on l)
  let s := s.wr (PORT_LINK_STAT.lds_bound.port p) ((List.range 4).filter on).length
  let s := (s.wrb (PORT_LINK_STAT.mem_active.port p) (s.on SYS_START_STAT.mem_active)).fixPort p
  (if was = flits then s else s.cause (phyPage p) 1).wakeOver p

/-- The registers of the DOVE port whose link has formed; the modules exchange unprotected HELLO messages (R279, R291). -/
def State.doveLinkUp (s : State) (mode : Nat) (x4 : Bool) : State :=
  (((s.wr DOVE_STAT.link 2).wrb DOVE_STAT.width x4).wrb DOVE_STAT.speed (decide (mode ≠ 4))).sendHello

/-- A link forms on its lanes (R373). -/
def State.formLink (s : State) (g mode : Nat) (lo : Bool) (bound : BitVec 4) (mld : Bool) (bad l : List Nat) : State :=
  let rate := modeRate mode
  let x4 := decide (l.length = 4)
  let s := s.forAll (List.range 8) fun s n =>
    if n ∈ l then s.joinLane g n (l.idxOf n) rate
    else s.forAll laneFields fun s f => s.clr (f.lane g n)
  let s := s.forAll (List.range 8) fun s n => s.wrb (PHY_LANE_STAT.failed.lane g n) (decide (n ∈ bad))
  let s := ((s.wrb (PHY_STAT.reversed.port g) (decide (l.head? = some 7))).wr (PHY_REFCLK.offset_ppm.port g)
    (Config.trained s.free (64 + g) 201)).drawn
  let s := if g = 4 then s.doveLinkUp mode x4
    else (s.hostLinkUp g mode lo rate bound mld).wrb (PORT_LINK_STAT.width.port g) x4
  let s := s.resumeLink g
  if x4 ∧ (g = 4 ∨ !s.on (PORT_CTL.x4_only.port g)) then
    (s.err (phyPage g) 0x0B10 (bad.map fun n => 2 ^ n).sum).phyCause g 9 10
  else s

/-- LINK_TRAINED (R315, R362, R373): a training ends, in Polling or Configuration or out of Recovery. -/
def execLinkTrained (group : GroupNo) (mode : Fin 5) (lo : Bool) (unusable : BitVec 8) (bound : BitVec 4) (mld : Bool)
    (s : State) : Result :=
  let g := group.val
  if s.ltssm g ∉ [1, 2, 4, 5] then .next s else
  let m := s.modeFormed g mode lo
  let bad := s.unusable g unusable
  if m = 0 ∨ (g = 4 ∧ m = 1) then
    let s := s.trainFailed g true
    .next (if g = 4 then s else s.err (phyPage g) 0x0B13 0)
  else match s.lanesFormed g bad with
    | none =>
      let s := s.trainFailed g false
      let s := s.forAll (List.range 8) fun s n => s.wrb (PHY_LANE_STAT.failed.lane g n) (decide (n ∈ bad))
      .next (s.err (phyPage g) 0x0B11 0)
    | some l => .next (s.formLink g m lo bound mld bad l)

/-- A setting one step nearer to what adaptation wants, held in its range (R467). -/
def adapted (v want lo hi : Int) : Int := max lo (min hi (v + max (-1) (min 1 want)))

/-- LANE_ADAPT_STEP (R467): at most one step of each setting; a tap at the end of its range stops there. The range of the
tap at 128 GT/s is that of its register. -/
def execLaneAdaptStep (group : GroupNo) (lane : LaneNo) (ctle peaking dfe : Int) (s : State) : Result :=
  let g := group.val
  let n := lane.val
  if s.ltssm g ≠ 3 ∨ !s.on (PHY_LANE_STAT.active.lane g n) then .next s else
  let rate := s.linkRate g
  let c := (adapted (s.rd (PHY_LANE_RXEQ.ctle_dc.lane g n)) ctle 0 12).toNat
  let p := (adapted (s.rd (PHY_LANE_RXEQ.peaking.lane g n)) peaking 0 (peakMax rate)).toNat
  let lim : Int := if rate = 2 then 127 else 64
  let d := ofSigned 8 (adapted (toSigned 8 (s.rd (PHY_LANE_RXEQ.dfe1.lane g n))) dfe (if rate = 2 then -128 else -64) lim)
  let s := ((s.wr (PHY_LANE_RXEQ.ctle_dc.lane g n) c).wr (PHY_LANE_RXEQ.peaking.lane g n) p).wr
    (PHY_LANE_RXEQ.dfe1.lane g n) d
  let draw := ((Sparse.get (fun _ => none) (s.lane (laneNo g n)).saved rate).map (·.1)).getD s.free
  .next (s.saveLane g n rate (draw, c, p, d))

/-! ## Link power management -/

/-- The enables of LD0's function (R379). -/
def State.pmOf (s : State) (p : Nat) : LdState := s.ld (masterOf p 0)

/-- L0S_ENTRY (R377, R379): in mode 1, after the idle time. -/
def execL0sEntry (port : PortNo) (s : State) : Result :=
  let p := port.val
  if s.ltssm p ≠ 3 ∨ s.rd (PORT_LINK_STAT.mode.port p) ≠ 1 ∨ !(s.pmOf p).l0s ∨ !s.on (PHY_CTL.l0s_adv.port p) then .next s
  else
    let s := s.advanceTo ((s.port p).idleAt + s.rd (PHY_PM_CTL.l0s_idle.port p) * 16 * psNs)
    let s := (s.wr (PHY_STAT.ltssm.port p) 6).wr (PHY_STAT.pm_state.port p) 1
    .next (((s.setLanes p 1).setPort p { s.port p with pmAt := s.now }).fixCal (64 + p))

/-- Every request that the device holds. -/
def State.requests (s : State) : List Req :=
  s.transit ++ s.stalled.map (·.2) ++ (s.pcs.flatMap fun e => e.2.input ++ e.2.queue ++ e.2.bursts ++ e.2.wbursts) ++
  s.folio.held ++ s.dove.waiting.map (·.1) ++ s.recoveries.flatMap fun r => r.waiting.map (·.2) ++ r.writes

/-- A logical device of the port has something pending (R379). -/
def State.portPending (s : State) (p : Nat) : Bool :=
  (s.requests.any fun r => decide (r.port = some p)) || decide ((s.port p).inv ≠ []) ||
  s.mbox.ops.any fun b => decide (b.port = p)

/-- L1_IDLE_EXPIRY (R379, R380): the port asks for L1, which is its commit point; a message that was ready first aborts
the entry. -/
def execL1IdleExpiry (port : PortNo) (messageFirst : Grant) (s : State) : Result :=
  let p := port.val
  let t := s.port p
  if s.ltssm p ≠ 3 ∨ t.l1Req ∨ !(s.pmOf p).l1 ∨ !s.on (PHY_PM_CTL.l1_req_en.port p) ∨ s.portPending p then .next s else
  let s := s.advanceTo (t.idleAt + s.rd (PHY_PM_CTL.l1_idle_us.port p) * psUs)
  if messageFirst then
    .next (((s.bump (PHY_L1_ABORTS.count.port p)).clr (PHY_PM_STAT.last_outcome.port p)).busy p)
  else .next ((s.setPort p { t with l1Req := true }).emit (.pm p 1))

/-- PM_REQUEST_ACK (R380): the host accepts, and the link enters L1, or refuses, and the port sends in L0. -/
def execPmRequestAck (port : PortNo) (accepted : Bool) (s : State) : Result :=
  let p := port.val
  if !(s.port p).l1Req then .next s
  else if accepted then
    let s := (s.wr (PHY_STAT.ltssm.port p) 7).wr (PHY_STAT.pm_state.port p) 3
    let s := ((s.bump (PHY_L1_ENTRIES.count.port p)).clr (PHY_PM_STAT.nak.port p)).setLanes p 1
    .next ((s.setPort p { s.port p with l1Req := false, pmAt := s.now }).fixCal (64 + p))
  else .next ((s.put (PHY_PM_STAT.nak.port p)).resumeLink p)

/-- L1_EXIT (R377, R378): from L0s, or from L1 or a substate after its least residency. -/
def execL1Exit (port : PortNo) (ns : Nat) (s : State) : Result :=
  let p := port.val
  let pm := s.rd (PHY_STAT.pm_state.port p)
  if pm = 0 ∨ pm = 2 then .next s else
  let s := if 3 ≤ pm then s.advanceTo ((s.port p).pmAt + 100 * psNs) else s
  .next (((s.advance (ns * psNs)).longest (PHY_EXIT_MAX_NS.ns.port p) ns).resumeLink p)

/-- L0P_WIDTH_CHANGE (R377, R379): the host parks, or wakes, the upper four lanes of a x8 link in modes 2 to 4. -/
def execL0pWidthChange (port : PortNo) (narrow : Bool) (s : State) : Result :=
  let p := port.val
  if s.ltssm p ≠ 3 ∨ s.rd (PORT_LINK_STAT.mode.port p) < 2 ∨ s.on (PORT_LINK_STAT.width.port p) then .next s else
  let s := s.wr (PHY_STAT.pm_state.port p) (if narrow then 2 else 0)
  .next (s.forAll (s.activeLanes p) fun s n =>
    if 4 ≤ s.rd (PHY_LANE_STAT.logical.lane p n) then s.wrb (PHY_LANE_STAT.state.lane p n) narrow else s)

/-- L1_SUBSTATE_ENTRY (R377, R380): from L1.0, with the substate enabled and no message waiting. -/
def execL1SubstateEntry (port : PortNo) (deep : Bool) (s : State) : Result :=
  let p := port.val
  let enabled := if deep then (s.pmOf p).l12 else (s.pmOf p).l11
  if s.rd (PHY_STAT.pm_state.port p) ≠ 3 ∨ !enabled ∨ !s.on (PHY_CTL.lane_off_en.port p) ∨ (s.port p).waitOut ≠ [] then
    .next s
  else .next ((s.wr (PHY_STAT.pm_state.port p) (if deep then 5 else 4)).setLanes p (if deep then 3 else 2))

end Sys2Proof.Machine
end

