-- ==== Sys2Proof/Machine/Spline.lean ====
section
/-!
DEFINITION. The Spline and its crossings (R389 to R412).
-/

namespace Sys2Proof.Machine

/-- A link as FE_ADDR_LO names it: router × 16 + router port (R412). -/
def splineLink (router : Fin 16) (rport : Fin 12) : Nat := router.val * 16 + rport.val

/-- A corrected half or a retried word (R393, R411, R412). -/
def State.splineCorr (s : State) (f : Fld) (n link : Nat) : State :=
  if n = 0 then s else ((s.count f n).cause 0x09 1).err 0x09 0x0C01 link

/-- A word with a half that no code corrects (R393): it is sent once more, and a second time is fatal, as a first is while
retry is off. -/
def State.splineBad (s : State) (d : SplineSend) (link : Nat) : State :=
  if d ∈ s.spline.retry ∨ !s.on SPLINE_CTL.retry_en then
    ({ s with spline := { s.spline with retry := s.spline.retry.erase d } } : State).errImmediate 0x09 0x0C02 link
  else
    ({ s with spline := { s.spline with retry := s.spline.retry ++ [d] } } : State).splineCorr SPLINE_RETRY.count 1 link

/-- A word as its receiver checks it: accepted, or asked for once more (R393). -/
def State.splineWord (s : State) (d : SplineSend) (link : Nat) (lo hi : Nat) : State :=
  let s := s.splineCorr SPLINE_CORR.count ([lo, hi].count 1) link
  if lo = 2 ∨ hi = 2 then s.splineBad d link
  else { s with spline := { s.spline.accept d with retry := s.spline.retry.erase d } }

/-- SPLINE_WORD_RECEIVE (R391, R393, R399): an injection makes a half fail its check once, or twice (R551). -/
def execSplineWordReceive (router : Fin 16) (rport : Fin 12) (receipt : SplineReceipt) (halves : Fin 3 × Fin 3)
    (s : State) : Result :=
  match s.splineArrives router rport receipt.off receipt.plane receipt.word with
  | none => .next s
  | some d =>
    let link := splineLink router rport
    let j := s.takeInjection 6 link
    .next (match j.1 with
      | some 2 => (j.2.splineWord d link 2 halves.2).splineWord d link 2 halves.2
      | some _ => j.2.splineWord d link 2 halves.2
      | none => j.2.splineWord d link halves.1 halves.2)

/-- A declared wait of R409 is in force at a PC: the budget hold, a write that waits for an entry, a mirrored write that
waits for the outbound queue, a back-invalidate, a full demand queue. -/
def State.declaredWait (s : State) (pc : Nat) : Bool :=
  let here := fun (r : Req) => decide ((s.placeOf r.loc).pc = pc)
  s.folio.held.any here || s.dove.waiting.any (fun w => here w.1) ||
  ((s.pc pc).input.any fun r => decide (r.kind ≠ .read)) ||
  s.stalled.any fun w => here w.2 && match w.1 with
    | .snoop _ _ _ => true
    | .quire k q => decide (q ∉ (s.eng k).demand)
    | _ => false

/-- SPLINE_WATCHDOG_EXPIRY (R409): the watchdog of a REQ word is paused while its destination declares a wait. -/
def execSplineWatchdogExpiry (router : Fin 16) (rport : Fin 12) (cls : Fin 5) (dest : Option PcNo) (s : State) : Result :=
  if cls.val = 0 ∧ dest.any fun d => s.declaredWait d then .next s
  else .next (s.errImmediate 0x09 0x0C03 (splineLink router rport + cls.val * 256))

/-- TOGGLE_OVERRUN (R403). -/
def execToggleOverrun (xing : XingNo) (s : State) : Result :=
  .next ((s.bump SPLINE_TOGGLE_OVR.count).errImmediate 0x09 0x0C04 xing)

/-! ## Crossings -/

/-- CROSSING_RESET (R407): one side is reset. Words toward it are discarded and counted; step 4 completes after `ns` where
that lies within 2 µs. -/
def execCrossingReset (xing : XingNo) (dropped ns : Nat) (s : State) : Result :=
  let x := xing.val
  if s.xingState x = 3 then .next s else
  let s := ((s.setXing x { s.xing x with resetAt := s.now }).count (SPLINE_XING_DROP.count.ix x) dropped).setXingState x 1
  if 2000 < ns then .next s
  else
    let s := ((s.advance (ns * psNs)).setXingState x 2).bump SPLINE_RESYNC.count
    .next ((s.longest SPLINE_RESYNC_MAX_NS.ns ns).cause 0x09 3)

/-- CROSSING_READY (R407, step 5). -/
def execCrossingReady (xing : XingNo) (s : State) : Result :=
  .next (if s.xingState xing = 2 then s.setXingState xing 0 else s)

/-- CROSSING_RESYNC_TIMEOUT (R408): a crossing not at step 4 within 2 µs fails; a port's takes the port out of service. -/
def execCrossingResyncTimeout (xing : XingNo) (s : State) : Result :=
  let x := xing.val
  if s.xingState x ≠ 1 then .next s else
  let s := s.advanceTo ((s.xing x).resetAt + 2 * psUs)
  let s := (s.setXing x { s.xing x with failed := true }).setXingState x 3
  if 64 ≤ x ∧ x ≤ 71 then
    let p := (x - 64) / 2
    .next ((s.err (phyPage p) 0x0B0B x).stopPort p)
  else .next (s.errImmediate 0x09 0x0C05 x)

/-- HOP_TIME_OVER_LIMIT (R410, R411): the present hop time, which is judged against the limit. -/
def execHopTimeOverLimit (ps : Nat) (s : State) : Result :=
  let v := min ps 1023
  let s := (s.wr SPLINE_HOP_PS.ps v).longest SPLINE_HOP_MAX_PS.ps v
  if s.rd SPLINE_HOP_LIMIT.ps < v then .next ((s.cause 0x09 2).err 0x09 0x0C06 v) else .next s

end Sys2Proof.Machine
end

