-- ==== Sys2Proof/Machine/Clocks.lean ====
section
/-!
DEFINITION. Clock sources and fail-over, power domains, and the Time Base (R413 to R441).
-/

namespace Sys2Proof.Machine

/-! ## Quiescence -/

/-- A page has no transaction open on its block's Spline port (R10, R14): requests at a controller or of a port, work of
an engine, a recovery, a key record being written. -/
def State.quiescent (s : State) (page : Nat) : Bool :=
  if 0x40 ≤ page then
    let c := s.pc (page - 0x40)
    decide (c.input = [] ∧ c.queue = [] ∧ c.bursts = [] ∧ c.wbursts = []) &&
      !s.stalled.any fun w => decide ((s.placeOf w.2.loc).pc = page - 0x40)
  else if 0x10 ≤ page ∧ page < 0x14 then
    !(s.requests.any fun r => decide (r.port = some (page - 0x10))) && decide ((s.port (page - 0x10)).inv = [])
  else match page with
    | 0x06 => decide (s.rd BIST_ENG_STAT.state ≠ 1)
    | 0x14 => decide (s.dove.waiting = [] ∧ s.dove.applyWait = [] ∧ s.dove.strokes = [])
    | 0x19 => s.crypto.commit.isNone
    | 0x1A => (List.range 5).all fun k => !s.kerfRuns k
    | 0x1B => s.folio.running.isNone && decide (s.folio.held = [])
    | 0x1D => decide (s.chisel.jobs = [])
    | 0x1F => s.repair.append.isNone && decide (s.recoveries = [])
    | _ => true

/-! ## Switching -/

/-- The PLL of a clock domain: the layers their own, the management core clock and the Time Base the system PLL. -/
def pllOf (dom : Nat) : Nat := min dom 16

/-- The clock domains of a PLL. -/
def pllDomains (pll : Nat) : List Nat := if pll < 16 then [pll] else [16, 17]

/-- The lock of a PLL and the readiness of its domains (R436). -/
def State.setLock (s : State) (pll : Nat) (b : Bool) : State :=
  let s := if pll < 16 then (if b then s.setBit CLK_PLL_LOCK.layer pll else s.clrBit CLK_PLL_LOCK.layer pll)
    else s.wrb CLK_PLL_LOCK.system b
  s.forAll (pllDomains pll) fun s d => s.wrb (CLK_DOM_STAT.pll_ready.ix d) b

/-- A domain takes a source. A layer does so through self-refresh, and a PC that has a request wakes at once (R416). -/
def State.takeSource (s : State) (dom : Nat) (toHo failover : Bool) : State :=
  let pcs := (List.range 4).map fun i => dom * 4 + i
  let s := if dom < 16 then (s.forAll pcs State.forceSr).runLfsrs dom else s
  let s := (s.wrb (CLK_DOM_STAT.src.ix dom) toHo).wrb (CLK_DOM_STAT.failover.ix dom) failover
  let s := (s.wrb (CLK_DOM_CTL.src.ix dom) toHo).clr (CLK_DOM_STAT.switching.ix dom)
  if dom < 16 then
    let s := s.forAll pcs fun s p =>
      if (s.pc p).queue ≠ [] ∨ (s.pc p).input ≠ [] then s.exitSr p else s
    (s.fixCalLayer dom).fixGauge
  else s

/-- A switch is refused with its reason (R420). -/
def State.refuseSwitch (s : State) (dom reason : Nat) : State :=
  let s := (s.put (CLK_DOM_STAT.refused.ix dom)).wr (CLK_DOM_STAT.reason.ix dom) reason
  ((s.clr (CLK_DOM_STAT.switching.ix dom)).cause 0x02 6).err 0x02 0x0D05 (dom + reason * 256)

/-- Switches under way end: those to the reference are refused, for its ready flag has fallen, and those to the House
Oscillator are overtaken by the fail-over (R420). -/
def State.dropSwitches (s : State) (doms : List Nat) : State :=
  let l := s.clk.switching.filter fun e => decide (e.1 ∈ doms)
  let s := { s with clk := { s.clk with switching := s.clk.switching.filter fun e => decide (e.1 ∉ doms) } }
  s.forAll l fun s e => if e.2 then s else s.refuseSwitch e.1 1

/-- Domains move to the House Oscillator (R416). -/
def State.failOver (s : State) (doms : List Nat) : State :=
  (s.dropSwitches doms).forAll doms fun s d => if s.on (CLK_DOM_STAT.src.ix d) then s else s.takeSource d true true

/-- The reference fails (R375, R415, R416): a Clock Loss, and with no House Oscillator a fatal error. -/
def State.clockLost (s : State) (stallNs : Nat) : State :=
  let s := { s with clk := { s.clk with refGood := 0 } }
  let s := (((s.clr CLK_SRC_STAT.ref_ok).put CLK_SRC_STAT.ref_lost).put CLK_SRC_STAT.holdover).wr CLK_AO_PPM.ppm 0
  let s := (s.bump CLK_LOSS_CNT.count).wr64 CLK_LOSS_TIME_LO.time CLK_LOSS_TIME_HI.time s.tb
  let s := (s.cause 0x02 1).err 0x02 0x0D01 (s.rd CLK_REF_KHZ.khz)
  let s := s.forAll (List.range 17) fun s p => s.setLock p false
  let s := s.loseRefclk
  if s.on CLK_SRC_STAT.ho_ok then (s.failOver (List.range 18)).longest CLK_SWITCH_MAX_NS.ns stallNs
  else s.errImmediate 0x02 0x0D06 0

/-! ## Sources -/

/-- CLOCK_LOSS (R415 to R417): no reference edge for 16 cycles; the stall of the longest access in ns. -/
def execClockLoss (stallNs : Nat) (s : State) : Result :=
  if !s.on CLK_SRC_STAT.ref_ok || !s.on CLK_CTL.mon_en then .next s else .next (s.clockLost stallNs)

/-- REF_WINDOW_CHECK (R414): a window of 16,384 House Oscillator cycles and its mean. A mean below 99.97 MHz is a spread
reference (R374). -/
def execRefWindowCheck (khz : Nat) (s : State) : Result :=
  if !s.on CLK_SRC_STAT.ho_ok || !s.on CLK_CTL.mon_en then .next s else
  let s := (s.advance (s.clk.hoPeriod * 250)).wr CLK_REF_KHZ.khz (min khz 131071)
  let s := s.forAll (List.range 5) fun s g => s.wrb (PHY_STAT.ssc_seen.port g) (decide (99000 ≤ khz ∧ khz < 99970))
  if s.on CLK_SRC_STAT.ref_ok then
    .next (if 98500 ≤ khz ∧ khz ≤ 101500 then s else s.clockLost 0)
  else
    let n := if 99400 ≤ khz ∧ khz ≤ 100100 then s.clk.refGood + 1 else 0
    .next { s with clk := { s.clk with refGood := n } }

/-- The reference qualifies: the lanes have their clock again, and the ports train (R375, R414, R418). -/
def State.refQualified (s : State) : State :=
  let s := (s.put CLK_SRC_STAT.ref_ok).clr CLK_SRC_STAT.holdover
  let s := ((s.wr CLK_AO_PPM.ppm (Config.trained s.free 70 0)).drawn).cause 0x02 2
  let s := s.forAll (List.range 5) fun s g => s.put (PHY_STAT.refclk_ok.port g)
  let s := if s.rd CLK_LOSS_CNT.count = 0 then s else s.err 0x02 0x0D02 0
  s.trainAll

/-- REF_QUALIFY (R414, R418): four good windows in a row qualify the reference; the ports train again (R375). -/
def execRefQualify (s : State) : Result :=
  if s.on CLK_SRC_STAT.ref_ok ∨ s.clk.refGood < 4 then .next s else .next s.refQualified

/-- The House Oscillator's calibration, and it and the Always-On oscillator qualify (R414). -/
def State.hoCalibrated (s : State) (count : Nat) : State :=
  let s := s.forAll (List.range 16) State.runLfsrs
  let s := { s with clk := { s.clk with hoPeriod := 64000000000 / count } }
  ((s.wr CLK_HO_KHZ.khz (count * 128 / 125)).put CLK_SRC_STAT.ho_ok).put CLK_SRC_STAT.ao_ok

/-- HO_CHECK (R414): the count over 32 Always-On ticks, within ±10 % of 390,625, calibrates the House Oscillator. One that
passes qualifies it and the Always-On oscillator again. -/
def execHoCheck (count : Nat) (s : State) : Result :=
  let s := s.advance (aoPs 32)
  if 351563 ≤ count ∧ count ≤ 429687 then .next (s.hoCalibrated count)
  else if s.on CLK_SRC_STAT.ho_ok then .next (((s.clr CLK_SRC_STAT.ho_ok).cause 0x02 3).err 0x02 0x0D03 0)
  else .next s

/-- AO_TICK_TIMEOUT (R414): no tick within 4 nominal periods. -/
def execAoTickTimeout (s : State) : Result :=
  if !s.on CLK_SRC_STAT.ao_ok then .next s else
  .next ((((s.advance (aoPs 4)).clr CLK_SRC_STAT.ao_ok).cause 0x02 4).err 0x02 0x0D04 0)

/-- A PLL's lock reads 1. -/
def State.locked (s : State) (pll : Nat) : Bool :=
  if pll < 16 then bitOf (s.rd CLK_PLL_LOCK.layer) pll else s.on CLK_PLL_LOCK.system

/-- PLL_LOCK_LOST (R414): the PLL is restarted once; a second failure within 1 ms takes its domains to the House
Oscillator. -/
def execPllLockLost (pll : Fin 17) (s : State) : Result :=
  let p := pll.val
  if !s.locked p then .next s else
  let again := s.clk.relock.any fun e => decide (e.1 = p ∧ s.now ≤ e.2 + psMs)
  let s := { s with clk := { s.clk with
    relock := (p, s.now) :: s.clk.relock.filter fun e => decide (e.1 ≠ p) } }
  let s := s.setLock p false
  if again ∧ s.on CLK_SRC_STAT.ho_ok then .next (s.failOver (pllDomains p)) else .next (s.err 0x02 0x0D07 p)

/-- A layer's domain begins its switch through self-refresh; any other switches at once (R420). -/
def State.beginSwitch (s : State) (dom : Nat) (toHo : Bool) : State :=
  if dom < 16 then
    { s.put (CLK_DOM_STAT.switching.ix dom) with
      clk := { s.clk with switching := s.clk.switching ++ [(dom, toHo)] } }
  else (s.takeSource dom toHo false).cause 0x02 5

/-- PLL_LOCKED (R414, R418): the domains are ready, and one that failed over returns where auto_return is 1. -/
def execPllLocked (pll : Fin 17) (s : State) : Result :=
  if !s.on CLK_SRC_STAT.ref_ok then .next s else
  let s := s.setLock pll true
  .next <| s.forAll (pllDomains pll) fun s d =>
    if s.on (CLK_DOM_STAT.failover.ix d) && s.on CLK_CTL.auto_return && !s.on (CLK_DOM_STAT.switching.ix d) then
      s.beginSwitch d false
    else s

/-- A domain's source is ready (R436). -/
def State.sourceReady (s : State) (dom : Nat) (toHo : Bool) : Bool :=
  if toHo then s.on CLK_SRC_STAT.ho_ok else s.on (CLK_DOM_STAT.pll_ready.ix dom)

/-- CLK_DOM_SWITCH (R420): a write of CLK_DOM_CTL.src for the domain selected. -/
def execClkDomSwitch (who : Accessor) (toHo : Bool) (s : State) : Result :=
  .next <| s.command who 0x02 0x11C fun s =>
    let d := s.rd CLK_DOM_SEL.domain
    if s.on (CLK_DOM_STAT.src.ix d) = toHo then s
    else if !s.sourceReady d toHo then s.refuseSwitch d 1
    else if s.on (CLK_DOM_STAT.switching.ix d) then
      (((s.put (CLK_DOM_STAT.refused.ix d)).wr (CLK_DOM_STAT.reason.ix d) 2).cause 0x02 6).err 0x02 0x0D05 (d + 512)
    else if s.sys.phase = .failing then s.refuseSwitch d 3
    else s.beginSwitch d toHo

/-- CLK_SWITCH_DONE (R416, R417, R420): the layer's selector changes; the longest stall of an access in ns. -/
def execClkSwitchDone (dom : ClkNo) (stallNs : Nat) (s : State) : Result :=
  match s.clk.switching.find? fun e => decide (e.1 = dom.val) with
  | none => .next s
  | some e =>
    let s := { s with clk := { s.clk with switching := s.clk.switching.filter fun x => decide (x.1 ≠ e.1) } }
    if !s.sourceReady e.1 e.2 then .next (s.refuseSwitch e.1 1)
    else .next (((s.takeSource e.1 e.2 false).longest CLK_SWITCH_MAX_NS.ns stallNs).cause 0x02 5)

/-! ## Power domains -/

/-- A domain supports Sleep, or Deep Sleep (R422). -/
def sleepCap (d : Nat) : Bool := decide (d < 74)
def deepCap (d : Nat) : Bool := decide (d ≠ 70 ∧ d ≠ 72)

/-- The wake time of a domain in ns, from Sleep or from Deep Sleep (R422). -/
def wakeNs (d : Nat) (deep : Bool) : Nat :=
  if !deep then 40
  else if 64 ≤ d ∧ d ≤ 68 then 10000
  else if d = 73 then 5000
  else if d = 74 then 51000
  else 2000

/-- Deep Sleep is allowed a domain: a PC's in self-refresh, a port's in L1.2 or in reset, DOVE's while its link is down. -/
def State.mayDeep (s : State) (d : Nat) : Bool :=
  if d < 64 then s.on (PC_SR_STAT.in_sr.pc d)
  else if d < 68 then decide (s.rd (PHY_STAT.pm_state.port (d - 64)) = 5 ∨ s.ltssm (d - 64) = 0)
  else if d = 68 then !s.linkUp
  else deepCap d

/-- Sleep is allowed a domain: a port's in L1, and on its way to Deep Sleep in reset. -/
def State.maySleep (s : State) (d : Nat) : Bool :=
  if 64 ≤ d ∧ d < 68 then decide (s.ltssm (d - 64) = 7) || s.mayDeep d
  else if d = 70 ∨ d = 72 then true
  else s.mayDeep d

/-- The pages of a domain that are present. -/
def State.presentPages (s : State) (d : Nat) : List Nat := (domainPages d).filter s.present

/-- Every block of a domain is quiescent; the management core's while it holds no mailbox work. -/
def State.domainQuiet (s : State) (d : Nat) : Bool :=
  (s.presentPages d).all s.quiescent && (decide (d ≠ 73) || decide (s.mbox.ops = [] ∧ s.mbox.waiting = []))

/-- Idle timers run: PWR_CTL.idle_en is 1 and no power failure has been declared (R423, R428). -/
def State.timersRun (s : State) : Bool := s.on PWR_CTL.idle_en && s.serving

/-- The commit point of Sleep entry: the clock gate closes (R424). -/
def State.enterSleep (s : State) (d : Nat) : State :=
  let s := s.setDomain d { s.domain d with sleepAt := s.now }
  (s.wr (PWR_DOM_STAT.state.ix d) 1).setDomainPages d 2

/-- A gate closure is abandoned and reported in every page of the domain (R14, R424): the management core has no page of
its own, and reports it in the PWR page alone. -/
def State.abandonGate (s : State) (d : Nat) : State :=
  let s := s.forAll (s.presentPages d) fun s p => s.put (PAGE_STAT.gate_abandoned.on p)
  let s := (s.wr (PWR_DOM_STAT.state.ix d) 0).setDomain d { s.domain d with idleAt := s.now, gateAt := none }
  (s.cause 0x03 1).err 0x03 0x0E02 d

/-- A request that waits for quiescence since an instant is past its 2 µs (R14). -/
def State.gateLate (s : State) (since : Option Nat) : Bool := since.any fun t => decide (t + 2 * psUs < s.now)

/-- The idle timer of a domain takes it to Sleep, at its commit point, or begins an entry that waits for quiescence; one
that has waited 2 µs is abandoned (R14, R424). -/
def State.sleepDue (s : State) (d : Nat) : State :=
  let st := s.rd (PWR_DOM_STAT.state.ix d)
  if !s.timersRun || !(st == 0 || st == 3) || !sleepCap d || !s.maySleep d ||
      !(s.presentPages d).all fun p => s.on (PAGE_CTL.sleep_en.on p) then s
  else
    let idle := if d < 64 then max (s.domain d).idleAt (s.pc d).idleSince else (s.domain d).idleAt
    let s := s.advanceTo (idle + s.rd (PWR_DOM_CTL.sleep_idle.ix d) * 10 * psNs)
    if s.gateLate (s.domain d).gateAt then s.abandonGate d
    else if s.domainQuiet d then (s.setGate d none).enterSleep d
    else if st = 3 then s
    else (s.wr (PWR_DOM_STAT.state.ix d) 3).setGate d (some s.now)

/-- DOMAIN_SLEEP_ENTRY (R422 to R424). -/
def execDomainSleepEntry (dom : DomainNo) (s : State) : Result := .next (s.sleepDue dom)

/-- DOMAIN_DEEP_SLEEP_ENTRY (R422 to R424): the isolation clamps set, and the domain is in Deep Sleep. -/
def execDomainDeepSleepEntry (dom : DomainNo) (s : State) : Result :=
  let d := dom.val
  if !s.timersRun || s.rd (PWR_DOM_STAT.state.ix d) != 1 || !deepCap d || !s.mayDeep d ||
      !(s.presentPages d).all fun p => s.on (PAGE_CTL.deep_en.on p) then .next s
  else
    let s := s.advanceTo ((s.domain d).sleepAt + s.rd (PWR_DOM_CTL.deep_idle_us.ix d) * psUs)
    let s := s.setDomain d { s.domain d with sleepAt := s.now }
    .next (((s.wr (PWR_DOM_STAT.state.ix d) 2).put (PWR_DOM_STAT.clamped.ix d)).setDomainPages d 3)

/-- DOMAIN_WAKE (R425): a word reaches the domain's crossing. Before a commit point it aborts the entry; after it, it
wakes the domain. Where an entry is due at this instant, `wordFirst` orders the two. -/
def execDomainWake (dom : DomainNo) (wordFirst : Grant) (s : State) : Result :=
  let d := dom.val
  match s.rd (PWR_DOM_STAT.state.ix d) with
  | 0 => if wordFirst then .next (s.abortEntry d) else .next ((s.sleepDue d).wakeDomain d)
  | 3 => .next (s.abortEntry d)
  | _ => .next (s.wakeDomain d)

/-- A domain is isolated (R427): its ports leave service and its pages read Isolated. -/
def State.isolateDomain (s : State) (d code : Nat) : State :=
  let s := (s.wr (PWR_DOM_STAT.state.ix d) 5).put (PWR_DOM_STAT.clamped.ix d)
  let s := (s.setDomain d { s.domain d with isolated := true, wakeAt := none }).setDomainPages d 4
  let s := if 64 ≤ d ∧ d < 68 then s.stopPort (d - 64)
    else if d = 68 then s.doveLanesDown
    else if d = 71 then s.forAll (List.range 16) fun s r => s.abortRing r false
    else s
  let s := s.cause 0x03 2
  if (64 ≤ d ∧ d ≤ 68) ∨ d = 71 then s.err 0x03 code d else s.errImmediate 0x03 code d

/-- The longest time in which a domain must be ready: 10 µs beyond its wake time (R427). -/
def State.wakeLimit (s : State) (d : Nat) : Nat := 10000 + wakeNs d (s.on (PWR_DOM_STAT.clamped.ix d))

/-- DOMAIN_READY (R422, R424): the domain is ready `ns` after its wake. -/
def execDomainReady (dom : DomainNo) (ns : Nat) (s : State) : Result :=
  let d := dom.val
  match (s.domain d).wakeAt with
  | none => .next s
  | some t =>
    if d = 74 ∧ s.clk.tbAsleep then .next s
    else if s.wakeLimit d < ns then .next ((s.advanceTo (t + s.wakeLimit d * psNs)).isolateDomain d 0x0E01)
    else .next (((s.advanceTo (t + ns * psNs)).readyDomain d).longest (PWR_WAKE_MAX_NS.ns.ix d) ns)

/-- DOMAIN_WAKE_TIMEOUT (R427). -/
def execDomainWakeTimeout (dom : DomainNo) (s : State) : Result :=
  let d := dom.val
  match (s.domain d).wakeAt with
  | none => .next s
  | some t => .next ((s.advanceTo (t + s.wakeLimit d * psNs)).isolateDomain d 0x0E01)

/-- DOMAIN_RAIL_LOW (R427): in Run. -/
def execDomainRailLow (dom : DomainNo) (s : State) : Result :=
  let d := dom.val
  if s.rd (PWR_DOM_STAT.state.ix d) ≠ 0 then .next s
  else .next ((s.clr (PWR_DOM_STAT.rail_good.ix d)).isolateDomain d 0x0E03)

/-- Entries stop and every sleeping domain begins to wake (R423). -/
def State.wakeAll (s : State) : State :=
  s.forAll (List.range 75) fun s d =>
    if s.rd (PWR_DOM_STAT.state.ix d) = 3 then (s.setGate d none).wr (PWR_DOM_STAT.state.ix d) 0 else s.wakeDomain d

/-- IDLE_DISABLE (R423): PWR_CTL.idle_en is written 0. -/
def execIdleDisable (who : Accessor) (s : State) : Result :=
  .next <| s.command who 0x03 0x100 fun s => (s.clr PWR_CTL.idle_en).wakeAll

/-! ## The Time Base -/

/-- A domain is at rest (R432): in Deep Sleep where it supports it, else in Sleep. A block that is absent takes no copy of
the Time Base. -/
def State.atRest (s : State) (d : Nat) : Bool :=
  (decide (domainPages d ≠ []) && decide (s.presentPages d = [])) ||
  decide (s.rd (PWR_DOM_STAT.state.ix d) = if deepCap d then 2 else 1)

/-- TB_DEEP_ENTRY (R432): the count and the Always-On count are stored, and the system PLL stops. -/
def execTbDeepEntry (s : State) : Result :=
  if !s.timersRun || !s.on TB_CTL.deep_carry_en || !s.on CLK_SRC_STAT.ao_ok || !s.on (PAGE_CTL.deep_en.on 0x01) ||
      s.clk.tbAsleep || s.rd (PWR_DOM_STAT.state.ix 74) != 0 || !(List.range 74).all s.atRest then .next s
  else
    let last := ((List.range 74).map fun d => (s.domain d).sleepAt).foldl max (s.domain 74).idleAt
    let s := s.advanceTo (last + 100 * psUs)
    let s := { s with clk := { s.clk with stored := s.clk.tbPs, a0 := s.ao, storedAt := s.now, tbAsleep := true } }
    let s := s.setDomain 74 { s.domain 74 with sleepAt := s.now }
    .next ((((s.wr (PWR_DOM_STAT.state.ix 74) 2).put (PWR_DOM_STAT.clamped.ix 74)).setDomainPages 74 3).setLock 16 false)

/-- TB_CARRY (R430 to R433): at the first tick edge after the system PLL has locked, or with the Time Base on the House
Oscillator, it takes the carried value. -/
def execTbCarry (a1 : Nat) (s : State) : Result :=
  if !s.clk.tbAsleep ∨ s.rd (PWR_DOM_STAT.state.ix 74) ≠ 4 ∨ !(s.locked 16 || s.on (CLK_DOM_STAT.src.ix 17)) then .next s
  else .next (((s.advanceTo (aoPs a1)).carryTo (max a1 s.clk.a0)).endWindow true)

end Sys2Proof.Machine
end

