-- ==== Sys2Proof/Machine/StartOps.lean ====
section
/-!
DEFINITION. What the start stages do (R444 to R447): rails and oscillators, the OTP read (R552 to R561), clocks and Time
Base, start checks (R543 to R546), the layers (R464, R465, R579, R580), the Tip-in Table (R109), the Folio start stage
(R50, R151, R155) and activation (R446).
-/

namespace Sys2Proof.Machine

/-! ## The OTP read -/

/-- The life cycle is latched (R457, R558). A device that enters PROVISIONED draws its Folio key, and no image stands
under it (R130, R458). -/
def State.latchLife (s : State) : State :=
  let s := s.blowFuse
  let was := s.lifeCycle
  let l := s.sys.lcFuses
  let f := majority (l ||| s.rowOf 284) (l ||| s.rowOf 285) (l ||| s.rowOf 286) % 2048
  let st := lifeOf f
  let s := { s with sys := { s.sys with lcFuses := f, fsUsed := fsIn f } }
  let s := (((s.wr SYS_LC.state st).wr SYS_LC.next st).wr SYS_LC.fs_left (4 - fsIn f)).wr OTP_LC_FUSES.fuses f
  let s := if lifeLegal f then s else s.err 0x05 0x1406 5
  if st = 4 then s.zeroise
  else if st = 2 ∧ was < 2 then
    ({ s.drawn with folio := { s.folio with
        key := some s.free, col0 := none, col1 := none, image := none, kerfRecords := [], slots := [] } } : State).appendSys
      recFolioKey
  else s

/-- The variant takes the feature row, where one has been programmed here (R557); the registers that depend on the variant
follow it. -/
def State.latchVariant (s : State) (sparedRows : List Nat) : State :=
  let f := if s.otp.factory && decide (s.rowOf 8 = 0) then 0 else s.latchedRow sparedRows 8
  let s := if !featureOk f then s
    else
      let s := { s with sys := { s.sys with variant := f % 256 } }
      let s := (s.wr KERF_STACK_CFG.map_out (f / 2 ^ 18)).wr KERF_STACK_CFG.absent_layer (f / 2 ^ 20)
      s.wr KERF_STACK_CFG.layers_present (if bitOf f 18 then 0xFFFF - 2 ^ (f / 2 ^ 20 % 16) else 0xFFFF)
  let s := s.wr KERF_CARVE_BASE.base_quire (if s.sys.variant = 3 then 115200 else 122880)
  let s := s.wr CHISEL_CAP.rings (if s.sys.variant = 2 then 8 else 16)
  (s.fixCapacity).forAll ((List.range 4).filter fun p => s.present (0x10 + p)) fun s p =>
    s.wr (PORT_CAP.rate_max.port p) (if s.sys.variant = 5 then 1 else 2)

/-- The rows that stage 2 found failed or marginal (R554). -/
def State.readRows (s : State) (f : StageFinding) : State :=
  let s := s.forAll f.sparedRows fun s r => s.err 0x05 0x1401 r
  let s := s.forAll f.failedRows fun s r => s.err 0x05 0x1402 r
  let s := s.forAll f.marginalRows fun s r =>
    let s := if s.on OTP_MARGIN_ROW.valid then s else (s.wr OTP_MARGIN_ROW.row r).put OTP_MARGIN_ROW.valid
    ((s.put OTP_STAT.marginal).cause 0x05 2).err 0x05 0x1403 r
  let s := { s with otp := { s.otp with failed := f.failedRows, differs := f.marginalRows } }
  let s := s.wr OTP_ROWS_FAILED.count (f.sparedRows.length + f.failedRows.length)
  let s := (s.wr OTP_CORRECTED.count (min f.corrected (2 ^ 32 - 1))).wrb SYS_LC.otp_marginal (decide (f.marginalRows ≠ []))
  s.wrb OTP_STAT.second_pass f.secondPass

/-- The regions that fail (R555): those with a row that failed without a spare, those that do not read as their check row
says where every row is known, the SEED region of a zeroised device (R561), and what the read of the others found. -/
def State.regionFails (s : State) (f : StageFinding) : Nat :=
  let bad (r : Nat) : Bool :=
    (checkRow r).isSome && (f.regionFail.getLsbD r || f.failedRows.any (fun n => decide (regionOf n = r ∧ n < 290)) ||
      (!s.otp.factory && !s.regionReads f.sparedRows r) || (r == 4 && bitOf s.sys.lcFuses 10))
  (((List.range 7).filter bad).map (2 ^ ·)).sum

/-- The regions that failed, and the restrictive defaults (R555). -/
def State.readRegions (s : State) (fail : Nat) : State :=
  let s := s.wr OTP_STAT.region_fail fail
  let s := s.wrb SYS_UNIT.valid (!bitOf fail 0)
  if fail = 0 then s.wr SYS_ID.variant s.sys.variant
  else
    let s := s.forAll ((List.range 7).filter (bitOf fail)) fun s r => (s.cause 0x05 3).err 0x05 0x1404 r
    let s := ((s.put OTP_STAT.restrictive).put SYS_LC.restrictive).wr SYS_ID.variant 0
    s.err 0x00 0x1005 0

/-- Stage 2 (R554 to R558). -/
def State.stageOtp (s : State) (f : StageFinding) : State :=
  let s := ((s.readRows f).latchVariant f.sparedRows).latchLife
  (s.readRegions (s.regionFails f)).fixLocks

/-! ## Rails, clocks and Time Base -/

/-- Stage 1: the oscillators qualify, and the House Oscillator is calibrated within its window (R414). -/
def State.stageRails (s : State) : State := (s.drawn).hoCalibrated (351563 + Config.trained s.free 71 0 % 78125)

/-- Without a reference every domain runs on the House Oscillator (R445). -/
def State.startOnHo (s : State) : State :=
  (s.put SYS_START_STAT.on_ho).forAll (List.range 18) fun s d =>
    ((s.put (CLK_DOM_STAT.src.ix d)).put (CLK_DOM_STAT.failover.ix d)).put (CLK_DOM_CTL.src.ix d)

/-- The Time Base is carried from the stored values, or is invalid and counts from VIN good (R434). -/
def State.startTb (s : State) : State :=
  if s.sys.aoRan then (s.carryTo s.ao).wrb TB_STAT.valid s.clk.storedValid
  else
    let s : State := { s with clk := { s.clk with skewPs := 0 } }
    ((s.clr TB_STAT.valid).cause 0x01 4).err 0x01 0x0F02 0

/-- Stage 3. -/
def State.stageClocks (s : State) (refOk : Bool) : State :=
  let s := s.startTb
  if refOk then
    let s := { s with clk := { s.clk with refGood := 4 } }
    let s := (s.wr CLK_REF_KHZ.khz (99400 + Config.trained s.free 72 0 % 701)).drawn
    (s.refQualified).forAll (List.range 17) fun s p => s.setLock p true
  else s.startOnHo

/-! ## Start checks -/

/-- The blocks of R447 that are essential, by page: the register hub and the Spline, the Gauge, CRYPT and KERF, the
Folio while persistence is fused on, and every PC in use. -/
def State.essentialPage (s : State) (p : Nat) : Bool :=
  decide (p < 0x10) || p == 0x18 || p == 0x19 || p == 0x1A || (p == 0x1B && s.persistFused) ||
  (decide (0x40 ≤ p) && s.pcPresent (p - 0x40))

/-- A start that an essential block ends in Safe State (R447). -/
def State.essentialFails (s : State) (page code : Nat) : State :=
  if s.sys.essential.isSome then s else { s with sys := { s.sys with essential := some (page, code) } }

/-- A block that is not essential stays isolated, and the device starts without it (R447). -/
def State.withoutBlock (s : State) (p : Nat) : State :=
  let s := if 0x10 ≤ p ∧ p < 0x14 then s.stopPort (p - 0x10) else s
  (if p = 0x1D then s.clr CHISEL_CTL.chisel_en else s).isolate p

/-- A lane is taken as failing every training (R546). -/
def State.holdLane (s : State) (g n : Nat) : State :=
  let l := s.lane (laneNo g n)
  (s.setLane (laneNo g n) { l with held := true }).put (PHY_LANE_STAT.failed.lane g n)

/-- The treatment of a unit that failed, or that is held (R546). -/
def State.treatUnit (s : State) (page test unit : Nat) : State :=
  if test = 1 ∧ unit < 40 then s.holdLane (unit / 8) (unit % 8)
  else if test = 2 ∧ 17 ≤ unit ∧ unit < 57 then s.holdLane ((unit - 17) / 8) ((unit - 17) % 8)
  else if test = 3 then s
  else if test = 4 ∧ unit < 84 then s.failSensor unit
  else if s.essentialPage page then s.essentialFails page (0x1300 + test)
  else s.withoutBlock page

/-- A unit fails a test: it is held and reported (R543, R563). -/
def State.unitFails (s : State) (page test unit : Nat) : State :=
  let u := (page, test, unit)
  let s := { s with bist := { s.bist with held := if u ∈ s.bist.held then s.bist.held else s.bist.held ++ [u] } }
  (s.cause 0x06 2).err 0x06 (0x1300 + test) (page + unit * 256)

/-- The age of the shutdown record in Always-On ticks, where it is known: not where the counter stopped (R544). -/
def State.recordAge (s : State) : Option Nat :=
  match s.bist.recAt with
  | none => none
  | some a => if s.rd SYS_RST_CAUSE.cause = 1 ∨ s.sys.aoRan = false ∨ s.ao < a then none else some (s.ao - a)

/-- 30 days in Always-On ticks. -/
def quickTicks : Nat := 84934656000

/-- Quick checks run where the record is valid and holds nothing, and is less than 30 days old (R544). -/
def State.quickChecks (s : State) : Bool :=
  s.bist.recValid && decide (s.bist.recHeld = []) &&
    match s.recordAge with
    | some n => decide (n < quickTicks)
    | none => false

/-- Stage 4. On the LR128-V4 the record survives only with the Always-On domain (R542). -/
def State.stageChecks (s : State) (failures : List (Page × Fin 12 × Nat)) : State :=
  let s := if s.sys.variant = 4 ∧ !s.sys.aoRan then
      { s with bist := { s.bist with recValid := false, recAt := none, recHeld := [], held := [] } } else s
  let quick := s.quickChecks
  let s := (s.wrb BIST_REC_STAT.valid s.bist.recValid).wrb BIST_REC_STAT.age_known s.recordAge.isSome
  let s := (s.wrb BIST_REC_STAT.quick quick).wrb SYS_START_STAT.full_checks (!quick)
  let s := (s.wr BIST_REC_STAT.age_days (min (s.recordAge.getD 0 / 2831155200) 255)).wr BIST_REC_STAT.held s.bist.recHeld.length
  let s := s.wr BIST_REC_SEQ.seq s.bist.recSeq
  let s := if s.bist.recValid then s else s.err 0x06 0x130D 0
  let s := s.forAll s.bist.held fun s u => s.treatUnit u.1 u.2.1 u.2.2
  let s := s.forAll failures fun s u => (s.unitFails u.1 u.2.1 u.2.2).treatUnit u.1 u.2.1 u.2.2
  (s.wrb BIST_START_STAT.pass (decide (failures = []))).wr BIST_START_STAT.failed (min failures.length 255)

/-! ## Layers -/

/-- A little-endian number of a layer identity block. -/
def identNum (d : LayerIdent) (off n : Nat) : Nat :=
  ((List.range n).map fun i => ((d.bytes.getD (off + i) 0).toNat) * 256 ^ i).sum

/-- The block of the layer at a position passes (R579, R580): both reads agree, magic, kind and position hold, and the
CRC-32 follows the map-out entries. -/
def identPasses (d : LayerIdent) (pos : Nat) : Bool :=
  let last := 0x12 + 4 * identNum d 0x10 2
  d.same && decide (identNum d 0 4 = 0x4C524C49) && decide (identNum d 4 1 = if pos < 16 then 1 else 2) &&
  decide (identNum d 5 1 = pos) &&
  decide (last + 4 ≤ d.bytes.length) && decide ((crc32 ((d.bytes.take last).map (·.toNat))).toNat = identNum d last 4)

/-- The map-out entries of a block (R579). -/
def identEntries (d : LayerIdent) : List Nat := (List.range (identNum d 0x10 2)).map fun i => identNum d (0x12 + 4 * i) 4

/-- A factory tip-in entry (R107, R579). -/
def factoryTip (row : Nat) (bad : Bool) : TipEntry := { valid := !bad, field := false, bad := bad, pending := false, row := row }

/-- The factory tip-in entries of a DRAM layer's block (R579), and those of its spare banks (R113, assumption 80). -/
def State.readTips (s : State) (pos : Nat) (d : LayerIdent) : State :=
  let s := s.forAll (identEntries d) fun s v =>
    let i := tipIndex (pos * 4 + v % 4) (v / 2 ^ 2 % 32) (v / 2 ^ 7 % 32)
    let e := factoryTip (v / 2 ^ 12 % 2 ^ 15) (bitOf v 27)
    { s.setTip i e with repair := { (s.setTip i e).repair with
      factory := Sparse.set (fun _ => TipEntry.none) s.repair.factory i e } }
  s.forAll d.spare fun s m =>
    let i := (pos * 4 + m.1.val) * 32 + m.2.1.val
    let e := factoryTip m.2.2.1.val m.2.2.2
    { s with repair := { s.repair with spareFactory := Sparse.set (fun _ => TipEntry.none) s.repair.spareFactory i e } }

/-- The factory bad blocks of a persistence layer's block (R579, R580). -/
def State.readBadBlocks (s : State) (pos : Nat) (d : LayerIdent) : State :=
  s.forAll (identEntries d) fun s v =>
    let n := (pos - 16) * layerSlots + v % 64 * 2176 + v / 64 % 4096
    s.setBlock n { s.block n with retired := true }

/-- The identity block of a layer as read (R579, R580). -/
def State.readIdent (s : State) (pos : Nat) (d : LayerIdent) : State :=
  let s := s.forAll (List.range 8) fun s i =>
    { s with sb := { s.sb with ident := Sparse.set (fun _ => 0) s.sb.ident (pos * 8 + i) (identNum d (4 * i) 4) } }
  if !identPasses d pos then
    let s := ({ s with sb := { s.sb with identBad := s.sb.identBad ++ [pos] } } : State).err 0x08 0x1505 pos
    if (pos < 16 ∧ s.pcPresent (pos * 4)) ∨ (16 ≤ pos ∧ s.persistFused) then s.essentialFails 0x08 0x1505 else s
  else
    let s := s.wr (SB_LAYER_STAT.mapout.ix pos) (identNum d 0x10 2)
    if pos < 16 then s.readTips pos d else s.readBadBlocks pos d

/-- A PC has failed its training (R465). -/
def State.pcFails (s : State) (pc : Nat) : State := (s.err (0x40 + pc) 0x0154 0).essentialFails (0x40 + pc) 0x0154

/-- A via that failed its training: a data or check via is erased, within the two of its PC (R99, R465). -/
def State.viaFails (s : State) (pc via : Nat) : State :=
  let n := s.rd (PC_ECC_STAT.erased.pc pc)
  if 72 ≤ via then s.pcFails pc
  else if (s.erasedLanes pc).contains via then s
  else if n < 2 then
    let s := (s.wr (PC_ECC_STAT.erased.pc pc) (n + 1)).wr
      ((if n = 0 then PC_ECC_STAT.lane0 else PC_ECC_STAT.lane1).pc pc) via
    (s.err (0x40 + pc) 0x0153 via).appendRecord
  else s.pcFails pc

/-- The vias of every PC in use take the settings that their training finds (R464). -/
def State.trainVias (s : State) : State :=
  let n := s.free
  s.drawn.forAll s.pcsInUse fun s p =>
    let s := s.setCal p { s.cal p with trained := some n, wrTrained := some n, lastAt := s.now }
    s.wr (PC_CAL_STAT.tj_last.pc p) (regC (s.driftReading p))

/-- Stage 5. -/
def State.stageLayers (s : State) (f : StageFinding) : State :=
  let s := s.forAll f.idents fun s d => s.readIdent d.1 d.2
  let s := s.trainVias
  let s := s.forAll (f.badVias.filter fun v => s.pcPresent v.1) fun s v => s.viaFails v.1 v.2
  let s := s.forAll (f.badVref.filter fun p => s.pcPresent p) fun s p => s.pcFails p
  if f.badFolioVias ≠ [] ∧ s.persistFused then s.essentialFails 0x1B 0x1303 else s

/-! ## Tip-in -/

/-- A retired bank is served from the spare bank, with its own factory entries (R108, R113). -/
def State.useSpare (s : State) (pc bank : Nat) : State :=
  s.forAll (List.range 32) fun s i =>
    s.setTip (tipIndex pc bank i) (Sparse.get (fun _ => TipEntry.none) s.repair.spareFactory (pc * 32 + i))

/-- The Tip-in record is loaded over the factory entries (R109). -/
def State.loadRecord (s : State) (r : TipRecord) : State :=
  let s := s.forAll r.spares fun s p =>
    let s := (s.wr (PC_REPAIR_STAT.spare_state.pc p.1) p.2.1).wr (PC_REPAIR_STAT.retired_bank.pc p.1) p.2.2
    let s := if p.2.1 = 1 ∨ p.2.1 = 2 then s.spareBit p.1 else s
    if p.2.1 = 2 then s.useSpare p.1 p.2.2 else s
  let s := s.forAll r.entries fun s e => s.setTip e.1 e.2
  let s := s.forAll r.erasures fun s e =>
    let n := s.rd (PC_ECC_STAT.erased.pc e.1)
    if (s.erasedLanes e.1).contains e.2 ∨ 2 ≤ n then s
    else (s.wr (PC_ECC_STAT.erased.pc e.1) (n + 1)).wr ((if n = 0 then PC_ECC_STAT.lane0 else PC_ECC_STAT.lane1).pc e.1) e.2
  s.wr64 TIPIN_RECORD_SEQ_LO.seq TIPIN_RECORD_SEQ_HI.seq r.seq

/-- Stage 6. On the LR128-V4 no record outlives the power (R109). A record that fails to verify gives way to the one before
it. -/
def State.stageTipin (s : State) (ok : Bool) : State :=
  let s := { s with repair := { s.repair with loaded := true } }
  if !s.persistFused then s.put TIPIN_RECORD_STAT.volatile else
  let s := if ok ∨ s.folio.tipRecord.isNone then s
    else { s.err 0x1F 0x0404 0 with folio := { s.folio with tipRecord := s.folio.tipPrev, tipPrev := none } }
  match s.folio.tipRecord with
  | some r => s.loadRecord r
  | none => s

/-! ## The Folio start stage -/

/-- The start path of R446: 0 none, 1 Clear without persistence, 2 Safe State, 3 the path that stage 7 finds. -/
def State.startPath (s : State) : Nat :=
  if s.lifeCycle = 4 then 0
  else if s.sys.essential.isSome then 2
  else if !s.persistFused || s.on SYS_LC.restrictive || decide (s.lifeCycle = 0) then 1
  else 3

/-- A new BSN reservation is committed above the last (R135, R151). -/
def State.reserveAtStart (s : State) : State :=
  let t := s.folio.bsnTop
  let s := s.appendSys recReserve
  let s := { s with folio := { s.folio with bsnNext := t + 1, bsnTop := t + 256 } }
  s.wr64 FOLIO_BSN_TOP_LO.bsn FOLIO_BSN_TOP_HI.bsn s.folio.bsnTop

/-- The quires that R50 selects for Clear: those of an interrupted Clear's range, at or beyond its position, whose slot
is no newer than the record. -/
def State.clearSelected (s : State) (img : Image) : List Nat :=
  (s.folio.kerfRecords.filter fun r => decide (r.kind = 0)).flatMap fun r =>
    img.map.filterMap fun e =>
      match e.2.bind s.slotData with
      | some d => if r.start ≤ e.1 ∧ e.1 < r.stop ∧ r.pos / 2 ^ 20 ≤ e.1 ∧ d.bsn ≤ r.bsn then some e.1 else none
      | none => none

/-- The key table, rights and ranges of the key record (R151, R162). -/
def State.restoreKeys (s : State) (ok : Bool) : State :=
  let s := s.put FOLIO_CTL.key_retain
  let s := { s with sys := { s.sys with retainGiven := true } }
  if !ok ∨ s.folio.keyRecordSeq = 0 then s.err 0x1B 0x0507 0 else
  let c := { s.crypto with keys := s.crypto.recKeys, rights := s.crypto.recRights, ranges := s.crypto.recRanges }
  { s with crypto := c }

/-- The mirror area of the image gives the pair's state back; every range is Apart until the pair joins (R278, R293). -/
def State.restoreDove (s : State) (r : DoveRecord) : State :=
  let s := s.forAll ((List.range 16).zip r.ranges) fun s e =>
    if e.2.1 < e.2.2.1 then
      let s := (s.wr (DOVE_RANGE_BASE.base_quire.ix e.1) e.2.1).wr (DOVE_RANGE_END.end_quire.ix e.1) e.2.2.1
      (s.wrb (DOVE_RANGE_STAT.primary.ix e.1) e.2.2.2).setRangeState e.1 3
    else s
  let s := { s with dove := { s.dove with
    queue := r.queue.map fun w => { w := w, sent := false }
    recorded := r.recorded, osnNext := r.osnNext, acked := r.acked, applied := r.applied, coveredFrom := r.coveredFrom
    mirrorKey := r.mirrorKey, push := r.push, pull := r.pull } }
  let s := (s.put DOVE_STAT.area).fixCapacity
  s.forAll (List.range 32) fun s i =>
    let q := s.fullQuires - 32 + i
    s.setQuire q { s.quire q with state := .dirty, unlifted := false, wtime := s.now }

/-- Rekey and Migrate resume behind Lift from their recorded positions; a Resync does when its pair joins again (R50,
R309). -/
def State.resumeKerf (s : State) (r : KerfRecord) : State :=
  let q := r.pos / 2 ^ 20
  if r.kind = 2 then
    let s := (s.wr (KERF_START.start_quire.ix 2) r.start).wr (KERF_END.end_quire.ix 2) r.stop
    let s := (s.wr (KERF_ARG.from_slot.ix 2) r.fromSlot).wr (KERF_ARG.to_slot.ix 2) r.toSlot
    let s := s.startKerf 2 (if q < r.stop then [(q, r.stop)] else []) 0
    (s.setEng 2 { s.eng 2 with sel := [(r.start, r.stop)], curStrokes := r.pos % 2 ^ 20 / 16384, bsn := r.bsn }).wr
      (KERF_STAT.state.ix 2) 1
  else if r.kind = 3 then
    let s := s.startMigrate (r.bank % 64) (r.bank / 64 % 8 * 4 + r.bank / 512)
    (s.setEng 3 { s.eng 3 with cur := q }).wr (KERF_STAT.state.ix 3) 1
  else if r.kind = 4 then s.setEng 4 { s.eng 4 with cur := q, curStrokes := r.pos % 2 ^ 20 / 16384 }
  else s

/-- The Clear Kerf of the start runs over every quire that is Cleared (R50, R151). -/
def State.startClear (s : State) : State :=
  let sel := Spans.without 0 s.fullQuires (s.folio.map.map (·.1))
  if sel = [] then s else s.startKerf 0 sel 1

/-- Step 4 of R151: the key record is read where the Colophon of the image in force, a void one too, carries the key
retention flag (R162). -/
def State.restoreRetained (s : State) (img : Image) (keyOk : Bool) : State :=
  if img.keyRetain then s.restoreKeys keyOk else s.clr FOLIO_CTL.key_retain

/-- Steps 3 and 6 of R151 with an image in force. -/
def State.restoreImage (s : State) (img : Image) : State :=
  let clear := s.clearSelected img
  let map : Sparse QEntry := img.map.filterMap fun e =>
    if e.2.isNone || clear.contains e.1 then none
    else some (e.1, { state := .clean, slot := e.2, unlifted := true, redirty := false, wtime := 0 })
  let s := { s with folio := { s.folio with map := map, changed := decide (clear ≠ []) } }
  let s := (s.wrb KERF_STACK_CFG.carve_out img.carve).wrb CRYPT_CARVE_STAT.active img.carve
  let s := (s.fixCapacity).wr SYS_POOL.pool img.pool
  let s := { s with sys := { s.sys with poolGiven := img.pool } }
  let s := s.put FOLIO_STAT.image_valid
  let s := match s.folio.doveRecord with
    | some r => s.restoreDove r
    | none => s
  let lift := Spans.ofList ((s.folio.map.filter fun e => e.2.unlifted).map (·.1))
  let s := if lift = [] then s else s.startKerf 1 lift 0
  let s := s.startClear
  s.forAll s.folio.kerfRecords State.resumeKerf

/-- Bind-begun markers of a Bind above the image in force (R155). -/
def State.bindMarker (s : State) (bsn : Nat) : Bool := s.folio.markers.any fun m => m.2 && decide (bsn < m.1)

/-- The quire map of the image failed in both layers (R151): the image is lost and reported. -/
def State.loseMap (s : State) (img : Image) : State :=
  let s := ((s.put FOLIO_STAT.map_lost).cause 0x1B 7).err 0x1B 0x0502 0
  { s with
    folio := { s.folio with image := some { img with kind := 5, map := [] }, slots := [] }
    sys := { s.sys with imageLost := true } }

/-- A power-fail Bind did not commit: the loss is reported with the BSN restored (R155). -/
def State.reportUnbound (s : State) (bsn : Nat) : State :=
  if s.bindMarker bsn then
    (({ s with sys := { s.sys with imageLost := true } } : State).cause 0x1B 7).err 0x1B 0x0506 bsn
  else s

/-- Stage 7 of a start with persistence (R137, R151): the Colophons that read good are judged, the image in force is
chosen, its map is read from P0 or else from P1, the key record follows its flag, a new reservation is committed, and the
Lift and Clear Kerfs start. -/
def State.chooseImage (s : State) (f : StageFinding) : State :=
  let read := (if f.col0Ok then s.folio.col0.toList else []) ++ (if f.col1Ok then s.folio.col1.toList else [])
  let img := s.newestColophon read
  let s := { s with folio := { s.folio with image := img } }
  let bsn := (img.map (·.bsn)).getD 0
  let s := s.reportUnbound bsn
  let s := match img with
    | some i => s.restoreRetained i f.keyRecOk
    | none => s.clr FOLIO_CTL.key_retain
  let s := s.reserveAtStart
  let s := (s.wr64 FOLIO_BSN_LO.bsn FOLIO_BSN_HI.bsn bsn).wr64 FOLIO_LIFT_BSN_LO.bsn FOLIO_LIFT_BSN_HI.bsn bsn
  match img with
  | none => s.startClear
  | some i =>
    let s := s.wrb FOLIO_STAT.colophon_time_valid i.time.isSome
    if i.kind = 5 then s.startClear
    else if !(f.map0Ok || f.map1Ok) then (s.loseMap i).startClear
    else s.restoreImage i

/-- Stage 7: on a start without persistence only the Clear of its step 6 (R444, R446). -/
def State.stageFolio (s : State) (f : StageFinding) : State :=
  match s.startPath with
  | 3 => s.chooseImage f
  | 1 => (s.setPersist 0).startClear
  | _ => s.setPersist 0

/-! ## Activation -/

/-- The seed of a controller's shift register: a drawn value, nonzero and other than those of the controllers before it
(R72). -/
def State.freshSeed (s : State) (draw pc : Nat) : BitVec 32 :=
  let used := (List.range pc).map fun p => (s.pc p).lfsr
  (((List.range 66).map fun i => Config.lfsrSeed draw pc + BitVec.ofNat 32 i).find? fun v =>
    decide (v ≠ 0) && !used.contains v).getD 1

/-- A PC in use begins to refresh, to sample and to scrub (R66, R72, R102). -/
def State.startPc (s : State) (draw pc : Nat) : State :=
  let c := s.pc pc
  let c := (List.range 32).foldl (fun (c : Pc) b =>
    c.setBank b { c.bank b with dueAt := s.now + b * trefi32 / 32 }) c
  s.setPc pc { c with
    lfsr := s.freshSeed draw pc, lfsrAt := 10 * s.now, idleSince := s.now
    scrubFrom := s.now }

/-- Slot 0 starts loaded plaintext (R457, R555). -/
def State.plainStart (s : State) : Bool :=
  decide (s.lifeCycle < 2) || bitOf (s.rd OTP_STAT.region_fail) 3 || bitOf (s.rd OTP_STAT.region_fail) 4

/-- Retirements that had not been migrated wait for Migrate, or start it (R112). -/
def State.resumeRetire (s : State) : State :=
  s.forAll ((List.range 64).filter fun p => decide (s.rd (PC_REPAIR_STAT.spare_state.pc p) = 1)) fun s p =>
    let b := s.rd (PC_REPAIR_STAT.retired_bank.pc p)
    if s.kerfActive 3 then
      if s.rd (KERF_ARG.bank.ix 3) % 64 = p then s
      else ({ s with repair := { s.repair with retire := s.repair.retire ++ [(p, b)] } } : State).bump TIPIN_RETIRE_PEND.count
    else s.startMigrate p b

/-- What every start does at its end: the management core serves, a Bind-owed flag is reported (R521), and the dirty
shutdown count rises once (R346). -/
def State.startEnds (s : State) : State :=
  let s := State.fixGauge { s with sys := { s.sys with phase := .active } }
  let s := if s.sys.mgmtDown.isNone then s.put SB_STAT.core_ready else s
  let owed := s.sys.bindOwed
  let s := if owed then (s.put ERRPIN_SAFE_STAT.owed).err 0x07 0x1204 0 else s
  let s := if owed ∨ s.sys.imageLost then
      { s with folio := { s.folio with dirtyShutdowns := s.folio.dirtyShutdowns + 1 } } else s
  let s := { s with sys := { s.sys with bindOwed := false } }
  if s.sys.shutdownCut then
    ({ s with sys := { s.sys with shutdownCut := false } } : State).err 0x00 0x1006 0
  else s

/-- The allocation ranges after a power-on reset (R320). -/
def State.startAlloc (s : State) : State :=
  s.forAll ((List.range 4).filter fun p => s.hasPort p) fun s p =>
    s.wr (PORT_LD_ALLOC_END.end_quire.ld p 0) (s.rd KERF_CAPACITY.quires)

/-- Memory Active (R445): every path but the empty one and Safe State ends in it. -/
def State.activate (s : State) : State :=
  let s := if s.plainStart then s.setKey 0 { KeySlot.empty with loaded := true, plaintext := true } else s
  let n := s.free
  let s := s.drawn.forAll s.pcsInUse fun s p => s.startPc n p
  let s := (s.startAlloc).resumeRetire
  let s := { s with gauge := { s.gauge with windowAt := s.now } }
  let s := if s.startPath = 3 then (s.fixEnergy).fixPersist else s
  let sv := max s.sb.minSec (s.fwSlot s.fwActive).secver
  let s := ({ s with sb := { s.sb with minSec := sv } } : State).wr SB_FW_STAT.min_secver sv
  let s := s.wr SYS_START_STAT.path (if s.on FOLIO_STAT.image_valid then 2 else 1)
  let s := ((s.put SYS_START_STAT.mem_active).wr SYS_START_STAT.stage 9).wr SYS_START_US.us
    (min ((s.now - s.sys.startAt) / psUs) (2 ^ 32 - 1))
  let s := s.forAll (List.range 4) fun s p =>
    if s.rd (PORT_LINK_STAT.mode.port p) = 0 then s else s.put (PORT_LINK_STAT.mem_active.port p)
  ((s.cause 0x00 1).forAll (List.range 69) State.fixCal).trainAll

/-- A start into Safe State (R446, R447). -/
def State.startSafe (s : State) (page code : Nat) : State :=
  let s := (s.wr SYS_START_STAT.path 3).err 0x00 0x1003 0
  (s.enterSafe page code).trainAll

/-- Stage 8 (R446). -/
def State.stageActivate (s : State) : State :=
  let s := s.startEnds
  match s.startPath, s.sys.essential with
  | 0, _ => s.trainAll
  | 2, some e => s.startSafe e.1 e.2
  | _, _ => s.activate

/-! ## The sequence -/

/-- What a stage does. -/
def State.runStage (s : State) (n : Nat) (f : StageFinding) : State :=
  match n with
  | 1 => s.stageRails
  | 2 => s.stageOtp f
  | 3 => s.stageClocks f.refOk
  | 4 => s.stageChecks f.failures
  | 5 => s.stageLayers f
  | 6 => s.stageTipin f.tipinOk
  | 7 => s.stageFolio f
  | _ => s.stageActivate

/-- The longest a stage takes, in µs (R444). -/
def State.stageMax (s : State) (n : Nat) : Nat :=
  match n with
  | 4 => if s.quickChecks then 6000 else 35000
  | 1 => 3000
  | 2 => 3000
  | 3 => 2000
  | 5 => 12000
  | 6 => 8000
  | 7 => 40000
  | _ => 2000

end Sys2Proof.Machine
end

