-- ==== Sys2Proof/Machine/Start.lean ====
section
/-!
DEFINITION. The supplies (R442, R443), the start sequence (R444 to R448), the resets and Hold (R449 to R453), orderly
shutdown (R454 to R456, R541 to R543) and the life cycle (R457 to R459).
-/

namespace Sys2Proof.Machine

/-! ## Supplies and the start -/

/-- VIN_GOOD (R443, R184): VIN has stayed above 8.8 V for 1 ms, and is good again. A device that is off starts; `aoRan` says whether the
Always-On counter ran without a break, and with it the Bind-owed flag stood (R521). A start after a power-fail Bind has cause 3
whether or not it ran (R460). -/
def execVinGood (vinMv : Nat) (aoRan : Bool) (s : State) : Result :=
  if vinMv ≤ 8800 then .next s
  else if s.sys.phase ≠ .off then .next (if s.on SYS_SUPPLY.vin_good then s else (s.advance psMs).put SYS_SUPPLY.vin_good)
  else
  let s := (s.advance psMs).judgeBus vinMv
  let s := { s with sys := { s.sys with bindOwed := s.sys.bindOwed && aoRan } }
  .next (s.powerOn (if s.sys.afterBind then 3 else if aoRan then 2 else 1) aoRan)

/-- A stage has run past its maximum (R444). -/
def State.overrun (s : State) : State :=
  if s.sys.overran then s else
  ({ s with sys := { s.sys with overran := true } } : State).err 0x00 0x1002 (s.rd SYS_START_STAT.stage)

/-- The next stage begins (R444); the ports may train once stage 3 has ended. -/
def State.nextStage (s : State) (n : Nat) : State :=
  let s := { s with sys := { s.sys with stageAt := s.now, overran := false } }
  if s.sys.phase = .starting ∧ n < 8 then
    let s := s.wr SYS_START_STAT.stage (n + 1)
    if n = 3 then s.trainAll else s
  else s

/-- How long a stage took: stage 3 that finds no reference ends at its maximum (R445). -/
def stageUs (n us : Nat) (refOk : Bool) : Nat := if n = 3 ∧ !refOk then 2000 else us

/-- START_STAGE_END (R444 to R447): the stage in progress ends after `us` µs with what it found. -/
def execStartStageEnd (found : StageFinding) (us : Nat) (s : State) : Result :=
  if s.sys.phase ≠ .starting then .next s else
  let n := s.rd SYS_START_STAT.stage
  let t := stageUs n us found.refOk
  let s := if s.stageMax n < t then (s.advanceTo (s.sys.stageAt + s.stageMax n * psUs)).overrun else s
  let s := (s.advanceTo (s.sys.stageAt + t * psUs)).wr (SYS_STAGE_US.us.ix n) t
  .next ((s.runStage n found).nextStage n)

/-- STAGE_OVERRUN (R444): the stage in progress has reached its maximum, and the start goes on. -/
def execStageOverrun (s : State) : Result :=
  if s.sys.phase ≠ .starting then .next s
  else .next (s.advanceTo (s.sys.stageAt + s.stageMax (s.rd SYS_START_STAT.stage) * psUs)).overrun

/-- VAUX is good: the sideband answers on SMBus (R443, R567). -/
def State.vauxUp (s : State) : State :=
  let s := ({ s with sys := { s.sys with vauxGood := true } } : State).put SYS_SUPPLY.vaux_good
  if s.rd SB_STAT.mode = 0 then (s.wr SB_STAT.mode 1).cause 0x08 2 else s

/-- VAUX_GOOD (R443, R576): the bank's EEPROM is read once in a start. -/
def execVauxGood (data : Option EepromData) (s : State) : Result :=
  let s := s.vauxUp
  if s.sys.phase = .off ∨ s.bank.eepromRead ∨ !s.present 0x1C then .next s
  else .next (({ s with bank := { s.bank with eepromRead := true } } : State).readEeprom data)

/-- VAUX_LOST (R443): the sideband and the bank bus stop, and nothing else. -/
def execVauxLost (s : State) : Result :=
  let s := { s with
    sys := { s.sys with vauxGood := false }
    bank := { s.bank with recWrite := none, rereadWaits := false }
    sb := { s.sb with uncollected := false, retrying := none, fwOffset := none } }
  let s := ((s.clr SYS_SUPPLY.vaux_good).clr SB_BANK_STAT.busy).clr SB_STAT.dyn_addr
  let s := s.clr SB_STAT.eid
  .next ((if s.rd SB_STAT.mode = 0 then s else (s.wr SB_STAT.mode 0).cause 0x08 2).fixAlert)

/-- VAUX_TIMEOUT (R443): VAUX was not good 100 ms after VIN good, and the bank is unidentified. -/
def execVauxTimeout (s : State) : Result :=
  if s.sys.phase = .off ∨ s.sys.vauxGood ∨ s.bank.eepromRead ∨ !s.present 0x1C then .next s else
  let s := s.advanceTo (s.sys.startAt + 100 * psMs)
  .next ({ s with bank := { s.bank with eepromRead := true } } : State).unidentified

/-! ## Hold -/

/-- Requests inside the logic die complete, but those that wait on a Kerf, a budget or the partner (R451). -/
def State.complete (s : State) : State :=
  let l := s.transit
  (({ s with transit := [] } : State).forAll l State.arrive).settle fun _ => true

/-- The logic die enters Hold (R451, steps 2 to 5): jobs are aborted, every PC enters self-refresh, and the pages say so.
-/
def State.enterHold (s : State) (portReset : Bool) : State :=
  let s := s.forAll (List.range 16) fun s r =>
    if portReset then s.resetPortRing (r / 4) (r % 4) else s.abortRing r false
  let s := s.complete.forAll (List.range 64) State.forceSr
  let s := s.forAll logicPages fun s p => if s.rd (PAGE_STAT.state.on p) = 4 then s else s.wr (PAGE_STAT.state.on p) 5
  s.bump SYS_HOLDS.count

/-- The carrier I/O domain is reset (R449 to R451): every port closes and takes its reset state, and so do the DOVE link,
the sideband and the bank bus. Register pages stand, as they do in a port reset. -/
def State.resetCarrier (s : State) : State :=
  let s := s.forAll ((List.range 4).filter s.hasPort) fun s p =>
    let s := s.closePort p false
    let s := s.forAll (List.range 4) fun s l => s.setLd (masterOf p l) (s.ld (masterOf p l)).portReset
    (s.clearIde p).fixPort p
  let s := s.doveLanesDown
  let s := { s with
    sb := { s.sb with uncollected := false, sessions := [], retrying := none, fwOffset := none }
    bank := { s.bank with recWrite := none, rereadWaits := false } }
  let s := ((s.clr SB_STAT.eid).clr SB_STAT.dyn_addr).clr SB_BANK_STAT.busy
  ((s.wr SB_STAT.mode (if s.sys.vauxGood then 1 else 0)).forAll (List.range' 64 5) State.fixCal).fixAlert

/-- A carrier I/O reset (R451). It is taken from service; a second one in Hold extends the Hold, and one after the
declaration of a power failure is ignored (R452). -/
def State.beginHold (s : State) : State :=
  if s.sys.phase ≠ .active then s else
  let s := s.abandonStep.forAll (List.range' 64 5) State.runDomain
  let s := (s.resetCarrier.enterHold true).cause 0x00 4
  { s with sys := { s.sys with phase := .hold, holdAt := s.now } }

/-- A Checkpoint that was paused goes on (R451, step 7). -/
def State.resumeCkpt (s : State) : State :=
  match s.folio.running with
  | none => s
  | some c =>
    if c.kind ≠ 2 ∧ c.kind ≠ 3 then s else
    let r := s.pump c (2 - c.flight.length)
    { r.1 with folio := { r.1.folio with running := some r.2 } }

/-- The logic die leaves Hold (R451, step 7). -/
def State.leaveHold (s : State) : State := s.pagesBack.resumeCkpt

/-- HOLD_END (R451, steps 6 to 8): after at least 10 µs the ports train and the bank's EEPROM is read again. A Hold of more
than 30 µs loses the partner (R287). -/
def execHoldEnd (us : Nat) (data : Option EepromData) (s : State) : Result :=
  if s.sys.phase ≠ .hold then .next s else
  let t := max us 10
  let s := if 30 < t then (s.advanceTo (s.sys.holdAt + 30 * psUs)).loseDove else s
  let s := s.advanceTo (s.sys.holdAt + t * psUs)
  let s := { s with sys := { s.sys with
    phase := .active, holdEndAt := if s.sys.holdForPage then some s.now else s.sys.holdEndAt, holdForPage := false } }
  let s := ((s.leaveHold.longest SYS_HOLD_MAX_US.us t).cause 0x00 5).trainAll
  .next (if s.sys.vauxGood && s.present 0x1C then s.readEeprom data else s)

/-- A command of SYS_RST_CMD, with its key (R449). -/
def State.rstCmd (s : State) (who : Accessor) (key : BitVec 16) (act : State → State) : State :=
  s.command who 0x00 0x12C fun s => if key = 0x5253 then act s else s

/-- SYS_RST_CARRIER_IO (R449, R451). -/
def execSysRstCarrierIo (who : Accessor) (key : BitVec 16) (s : State) : Result := .next (s.rstCmd who key State.beginHold)

/-- CARRIER_IO_RAIL_LOW (R449, R461). -/
def execCarrierIoRailLow (s : State) : Result :=
  if s.sys.phase ≠ .active then .next s else .next (s.err 0x00 0x1007 0).beginHold

/-! ## The management core -/

/-- SYS_RST_MGMT (R449, R453). -/
def execSysRstMgmt (who : Accessor) (key : BitVec 16) (s : State) : Result := .next (s.rstCmd who key State.resetMgmt)

/-- MGMT_WATCHDOG_EXPIRY (R535): the core has not served its 10 ms watchdog. -/
def execMgmtWatchdogExpiry (s : State) : Result :=
  if s.sys.phase = .off ∨ s.sys.mgmtDown.isSome then .next s else .next s.resetMgmt

/-- MGMT_NOT_RUNNING (R453, R535): 100 ms after its reset. Where a new firmware image is being tried, the fallback of R574
comes first. -/
def execMgmtNotRunning (s : State) : Result :=
  match s.sys.mgmtDown with
  | none => .next s
  | some t =>
    if s.sb.trying.isSome ∨ s.sys.phase = .off then .next s
    else .next ((s.advanceTo (t + 100 * psMs)).errImmediate 0x07 0x1206 0)

/-- The core runs again (R453, R574): it serves the sideband, and the image being tried has started. -/
def State.coreReady (s : State) : State :=
  let s := { s with sys := { s.sys with mgmtDown := none }, sb := { s.sb with trying := none } }
  if s.sys.phase = .off ∨ s.sys.phase = .starting then s else s.put SB_STAT.core_ready

end Sys2Proof.Machine
end

