-- ==== Sys2Proof/Machine/Life.lean ====
section
/-!
DEFINITION. Orderly shutdown (R454 to R456, R541 to R543) and the life cycle (R457 to R459).
-/

namespace Sys2Proof.Machine

/-! ## Orderly shutdown -/

/-- BYE goes to the partner, which is left (R305). -/
def State.sayBye (s : State) (reason : Nat) : State :=
  let s := s.sendDove (.bye reason)
  (if s.joined then s.splitPair.wr DOVE_STAT.pair 0 else s).doveLanesDown

/-- An orderly shutdown begins (R454, steps 1 to 3): ports close, accepted requests complete, Chisel ends, BYE goes out,
and the shutdown Bind is due where persistence is active. A Safe State Bind that is due or runs ends first. `restart` is 4
for a device reset. -/
def State.beginShutdown (s : State) (restart : Nat) : State :=
  if s.sys.phase ≠ .active then s else
  let s := s.abandonStep.drain
  let s := s.forAll ((List.range 4).filter fun p => decide (s.rd (PHY_STAT.ltssm.port p) ≠ 0)) fun s p => s.closePort p false
  let s := s.forAll (List.range 16) fun s r => (s.abortRing r false).clr (CHISEL_RING_CTL.enable.ix r)
  let s := (s.sayBye 2).stopCheckpoint
  let s := { s with sys := { s.sys with phase := .shutdown, restart := restart } }
  if s.persists && !s.bindOwing then { s with folio := { s.folio with bindDue := some (4, false) } } else s

/-- SYS_RST_SHUTDOWN (R454): to Off. -/
def execSysRstShutdown (who : Accessor) (key : BitVec 16) (s : State) : Result :=
  .next (s.rstCmd who key fun s => s.beginShutdown 0)

/-- SYS_RST_DEVICE (R449, R454): a fresh start follows the shutdown. -/
def execSysRstDevice (who : Accessor) (key : BitVec 16) (s : State) : Result :=
  .next (s.rstCmd who key fun s => s.beginShutdown 4)

/-- The shutdown record is committed with every unit held now (R541 to R543). -/
def State.commitRecord (s : State) : State :=
  let b := s.bist
  let s := if s.persistFused then s.appendSys recSelfTest else s
  let s := { s with bist := { b with recSeq := b.recSeq + 1, recAt := some s.ao, recHeld := b.held, recValid := true } }
  ((s.put BIST_REC_STAT.valid).wr BIST_REC_STAT.held b.held.length).wr BIST_REC_SEQ.seq s.bist.recSeq

/-- The bank's record is written on the way to Off (R454, step 6). -/
def State.writeBankRecord (s : State) : State :=
  match s.bank.eeprom with
  | some d =>
    if !s.sys.vauxGood || !s.present 0x1C then s else
    let r := s.newRecord (s.bank.recDue.getD 0)
    let s := { s with bank := { s.bank with eeprom := some (EepromData.withRecord d r), recDue := none, recWrite := none } }
    (s.emit (.eepromWrite r.seq 1)).emit (.eepromWrite r.seq 2)
  | none => s

/-- The end of a shutdown (R454, steps 6 and 7): Off, a fresh start of a device reset, or one that a sideband Restart
waited for (R570). -/
def State.endShutdown (s : State) (vinMv : Nat) : State :=
  let s := ((s.judgeBus vinMv).storeTb.writeBankRecord.clr BANK_STAT.charging).clr BANK_PF_STAT.bank_sw
  if s.sys.restart = 4 then s.powerOn 4 true
  else if s.sys.restartWaits then s.powerOff.powerOn 5 true
  else s.powerOff

/-- SHUTDOWN_SELF_TEST_DONE (R541 to R543): after the shutdown Bind, each unit that failed is held, and the record commits.
A device that is DECOMMISSIONED runs no self-test. -/
def execShutdownSelfTestDone (finding : SelfTestEnd) (s : State) : Result :=
  if !s.shutdownBound then .next s
  else if s.lifeCycle = 4 then .next (s.endShutdown finding.vinMv)
  else .next (((s.forAll finding.failures fun s u => s.unitFails u.1 u.2.1 u.2.2).commitRecord).endShutdown finding.vinMv)

/-! ## Life cycle -/

/-- The regions that a transition needs locked (R458): TRIM; Unit Number, identity seed and fabric-manager root. -/
def regionsFor (target : Nat) : List Nat := if target = 1 then [2] else if target = 2 then [0, 3, 4] else []

/-- The pairs of R458. -/
def lifePair (from_ to_ : Nat) : Bool :=
  decide (from_ = 0 ∧ to_ = 1) || decide (from_ = 1 ∧ to_ = 2) || decide (from_ = 2 ∧ to_ = 3) ||
  decide (from_ = 3 ∧ to_ = 2) || decide (from_ < 4 ∧ to_ = 4)

/-- Why a request is refused, 0 where it is not (R458, R459): `reg` is one made by SYS_LC_CMD. -/
def State.lifeRefusal (s : State) (target : Nat) (reg : Bool) : Nat :=
  let st := s.lifeCycle
  if reg ∧ (st = 2 ∨ st = 3) then 4
  else if s.on SYS_LC_STAT.busy then 5
  else if s.sys.phase = .failing then 6
  else if !lifePair st target || (!reg && decide (st < 2)) then 1
  else if s.rd SYS_LC.next ≠ st ∧ target ≠ 4 then 5
  else if st < 2 ∧ !(regionsFor target).all s.isLocked then 2
  else if target = 3 ∧ 4 ≤ fsIn s.sys.lcFuses then 3
  else 0

/-- The device enters DECOMMISSIONED at once (R457). -/
def State.decommission (s : State) : State :=
  let s := (s.zeroise.wr SYS_LC.state 4).sendDove (.bye 3)
  let s := if s.joined then s.splitPair.wr DOVE_STAT.pair 0 else s
  (s.clr SYS_START_STAT.mem_active).forAll (List.range 4) fun s p => s.clr (PORT_LINK_STAT.mem_active.port p)

/-- A transition is committed: its fuse begins to program (R459). -/
def State.commitLife (s : State) (target : Nat) : State :=
  { (s.put SYS_LC_STAT.busy).cause 0x00 3 with sys := { s.sys with lcPending := some target } }

/-- A life-cycle request (R458): refused with its reason, or committed. -/
def State.lifeRequest (s : State) (target : Nat) (reg : Bool) : State :=
  let r := s.lifeRefusal target reg
  if r = 0 then s.commitLife target
  else ((s.put SYS_LC_STAT.refused).wr SYS_LC_STAT.reason r).err 0x00 0x1004 r

/-- SYS_LC_CMD (R458). -/
def execSysLcCmd (who : Accessor) (target : Fin 8) (key : BitVec 16) (s : State) : Result :=
  .next <| s.command who 0x00 0x110 fun s => if key = 0x4C43 then s.lifeRequest target true else s

/-- SET_LIFE_CYCLE (R458): its status byte is 0x00, 0x01 for a session without authority, or 0x10 plus the reason. -/
def execSetLifeCycle (session : Session) (target : Fin 8) (s : State) : Result :=
  if s.sys.phase = .off ∨ s.sys.phase = .hold ∨ !s.sessionOpen session then .next s
  else if session ≠ .fm then .next (s.emit (.keyAnswer 0x01 []))
  else
    let r := s.lifeRefusal target false
    .next ((s.lifeRequest target false).emit (.keyAnswer (if r = 0 then 0 else 0x10 + r) []))

/-- LC_FUSE_PROGRAMMED (R458, R459): within 20 µs of the commit point the fuse is blown. A transition to or from
FIELD_SERVICE takes a device reset, and DECOMMISSIONED is entered at once. -/
def execLcFuseProgrammed (s : State) : Result :=
  match s.sys.lcPending with
  | none => .next s
  | some t =>
    let st := s.lifeCycle
    let s := (s.advance (20 * psUs)).blowFuse
    .next (if t = 4 then s.decommission else if 2 ≤ st then s.beginShutdown 4 else s)

end Sys2Proof.Machine
end

