-- ==== Sys2Proof/Machine/Bist.lean ====
section
/-!
DEFINITION. The programmable self-test engine (R547 to R551) and OTP programming (R552 to R561).
-/

namespace Sys2Proof.Machine

/-! ## Steps of a program -/

/-- A step of the program as BIST_PROG and BIST_PROG_ARG hold it (R547, R562). -/
structure Step where
  test : Nat
  page : Nat
  unit : Nat
  loops : Nat
  stop : Bool
  inject : Bool
  arg : Nat
  deriving DecidableEq, Repr

def State.bistStep (s : State) (i : Nat) : Step :=
  { test := s.rd (BIST_PROG.test.ix i), page := s.rd (BIST_PROG.page.ix i), unit := s.rd (BIST_PROG.unit.ix i)
    loops := 2 ^ s.rd (BIST_PROG.loops_log2.ix i), stop := s.on (BIST_PROG.stop_on_fail.ix i)
    inject := s.on (BIST_PROG.inject.ix i), arg := s.rd (BIST_PROG_ARG.arg.ix i) }

/-- The unit a step tests, as the held list names it. -/
def Step.target (p : Step) : Nat × Nat × Nat := (p.page, p.test, p.unit)

/-- The first step at or after `i` that is part of the program. -/
def State.nextStep (s : State) (i : Nat) : Option Nat :=
  (List.range 16).find? fun n => decide (i ≤ n) && s.on (BIST_PROG.valid.ix n)

/-- The kind and argument of an injection (R551). -/
def Step.kind (p : Step) : Nat := p.arg / 2 ^ 28
def Step.value (p : Step) : Nat := p.arg % 2 ^ 28

/-- The lanes that a symbol-error injection names. -/
def Step.lanes (p : Step) : List Nat :=
  (List.range 16).filter fun j => bitOf p.arg j && decide (p.value / 2 ^ 20 + j < 72)

/-- An injection is well formed (R551). -/
def Step.injectOk (p : Step) : Bool :=
  match p.kind with
  | 1 => decide (1 ≤ p.lanes.length ∧ p.lanes.length ≤ 8)
  | 2 => true
  | 3 => decide (p.value = 1 ∨ p.value = 2)
  | 4 => true
  | 5 => true
  | 6 => decide (p.value = 1 ∨ p.value = 2)
  | 7 => decide (-20 ≤ toSigned 28 p.value ∧ toSigned 28 p.value ≤ 20)
  | _ => false

/-- The life cycle allows a step: injections, and a march of the key table or the quire map, in FACTORY_TEST alone (R547,
R548, R551). -/
def State.stepAllowed (s : State) (p : Step) : Bool :=
  let ft := decide (s.lifeCycle = 1)
  if p.inject then ft && p.injectOk
  else decide (1 ≤ p.test ∧ p.test ≤ 11) && pageExists p.page && s.present p.page &&
    (ft || !(decide (p.test = 6) && (p.page == 0x19 || p.page == 0x1B)))

/-- A step takes the logic die Offline (R548). -/
def Step.offline (p : Step) : Bool :=
  !p.inject && (decide (p.test = 10) || (decide (p.test ≠ 11) && decide (p.page ∈ logicPages)))

/-- The target that an injection waits at: a PC, a Spline link or a sensor. -/
def Step.place (p : Step) : Nat := if p.kind = 6 ∨ p.kind = 7 then p.unit else p.page - 0x40

/-- An injection is made (R551). -/
def State.makeInjection (s : State) (p : Step) : State :=
  let e := (p.kind, p.place, p.value, if p.kind = 1 then p.loops else 1)
  (({ s with bist := { s.bist with inj := s.bist.inj ++ [e] } } : State).bump BIST_INJ_CNT.count).err 0x06 0x130C 0

/-- The target of a test is isolated (R540, R548): a host port and the DOVE port are held in reset, and a layer whose PLL is
tested runs on the House Oscillator. -/
def State.isolateTarget (s : State) (p : Step) : State :=
  if p.test = 11 ∨ s.rd (PAGE_STAT.state.on p.page) = 4 then s
  else if p.test = 2 ∧ p.page = 0x02 then (if p.unit < 16 then s.takeSource p.unit true false else s)
  else if 0x10 ≤ p.page ∧ p.page < 0x14 then
    let s := s.stopPort (p.page - 0x10)
    { s.wr (PAGE_STAT.state.on p.page) 4 with bist := { s.bist with under := some p.page } }
  else if p.page = 0x14 then
    { s.doveLanesDown.wr (PAGE_STAT.state.on 0x14) 4 with bist := { s.bist with under := some 0x14 } }
  else if p.page ∈ logicPages then
    { s.wr (PAGE_STAT.state.on p.page) 4 with bist := { s.bist with under := some p.page } }
  else s

/-- A step begins. -/
def State.beginStep (s : State) (i : Nat) : State :=
  let p := s.bistStep i
  let s := s.wr BIST_ENG_STAT.step i
  if p.inject then s.makeInjection p
  else
    let s := if p.offline then
        (if s.on BIST_ENG_STAT.offline then s else (s.enterHold false).put BIST_ENG_STAT.offline)
      else s.endOffline
    s.isolateTarget p

/-- What a test leaves of its target in FACTORY_TEST: a marched key table or quire map is in its reset state, and an array
march leaves the lines it wrote undefined (R539, R540, R548). -/
def State.afterTest (s : State) (p : Step) : State :=
  if p.test = 6 ∧ p.page = 0x19 then { s with crypto := { s.crypto with keys := [] } }
  else if p.test = 6 ∧ p.page = 0x1B then { s with folio := { s.folio with map := [] } }
  else if p.test = 10 ∧ s.lifeCycle = 1 ∧ 0x40 ≤ p.page then
    let n := s.free
    s.drawn.forAll ((s.lines.map (·.1)).filter fun l => decide ((s.placeOf (l * 64)).pc = p.page - 0x40)) fun s l =>
      s.setLine (l * 64) (StoredLine.ofData (Config.jobResult n l))
  else if p.test = 11 then
    let b := s.block p.arg
    if s.blockKept p.arg then s
    else s.setBlock p.arg { b with wear := b.wear + 1 }
  else if p.test = 2 ∧ p.page = 0x02 ∧ p.unit < 16 ∧ s.sourceReady p.unit false then s.takeSource p.unit false false
  else s

/-- A step ends with its outcome (R543, R548): the next one begins, or the program is done. -/
def State.stepEnds (s : State) (passed : Bool) (errors : Nat) : State :=
  let n := s.rd BIST_ENG_STAT.step
  let p := s.bistStep n
  let ok := passed || p.inject
  let s := if p.inject then s else s.endStep.afterTest p
  let r := (if ok then 0 else 0x1300 + p.test, min errors 0x7FFF, false)
  let s := { s with bist := { s.bist with
    results := Sparse.set (fun _ => (0, 0, false)) s.bist.results n r
    passed := if ok && !p.inject then s.bist.passed ++ [p.target] else s.bist.passed.erase p.target } }
  let s := if ok then s else (s.bump BIST_ENG_STAT.fails).unitFails p.page p.test p.unit
  match (if !ok && p.stop then none else s.nextStep (n + 1)) with
  | some i => s.beginStep i
  | none => (s.endBist 2).cause 0x06 1

/-! ## Commands of BIST_CMD -/

/-- A command of BIST_CMD acts with its key, in FACTORY_TEST and FIELD_SERVICE alone (R547). -/
def State.bistCmd (s : State) (who : Accessor) (key : BitVec 16) (act : State → State) : State :=
  s.command who 0x06 0x120 fun s =>
    if key = 0x4254 ∧ (s.lifeCycle = 1 ∨ s.lifeCycle = 3) ∧ s.sys.phase = .active then act s else s

/-- BIST_RUN (R547): a program with a step that the life cycle forbids is refused, and nothing runs. -/
def execBistRun (who : Accessor) (key : BitVec 16) (s : State) : Result :=
  .next <| s.bistCmd who key fun s =>
    if s.rd BIST_ENG_STAT.state = 1 then s else
    let steps := (List.range 16).filter fun n => s.on (BIST_PROG.valid.ix n)
    let s := (s.wr BIST_ENG_STAT.step 0).wr BIST_ENG_STAT.fails 0
    if !steps.all fun n => s.stepAllowed (s.bistStep n) then s.wr BIST_ENG_STAT.state 4
    else
      let s := ({ s with bist := { s.bist with results := [], passed := [] } } : State).wr BIST_ENG_STAT.state 1
      match steps with
      | [] => (s.endBist 2).cause 0x06 1
      | n :: _ => s.beginStep n

/-- BIST_STEP_DONE (R548). -/
def execBistStepDone (passed : Bool) (errors : Nat) (s : State) : Result :=
  .next (if s.rd BIST_ENG_STAT.state = 1 then s.stepEnds passed errors else s)

/-- BIST_ABORT (R549): a step that ends first is whole; the one in progress is else abandoned. -/
def execBistAbort (who : Accessor) (key : BitVec 16) (stepFirst : Grant) (s : State) : Result :=
  .next <| s.bistCmd who key fun s =>
    if s.rd BIST_ENG_STAT.state ≠ 1 then s
    else if stepFirst then
      let t := s.stepEnds true 0
      if t.rd BIST_ENG_STAT.state = 1 then t.endBist 3 else t
    else s.abandonStep

/-- The hold of a unit ends (R550): a lane may be trained again. -/
def State.releaseUnit (s : State) (u : Nat × Nat × Nat) : State :=
  let s := { s with bist := { s.bist with held := s.bist.held.erase u } }
  let n := if u.2.1 = 1 then u.2.2 else u.2.2 - 17
  if (u.2.1 = 1 ∧ u.2.2 < 40) ∨ (u.2.1 = 2 ∧ 17 ≤ u.2.2 ∧ u.2.2 < 57) then
    (s.setLane n { s.lane n with held := false }).clr (PHY_LANE_STAT.failed.lane (n / 8) (n % 8))
  else s

/-- BIST_RELEASE (R550): in FIELD_SERVICE, of the unit of the selected step, which has just passed. -/
def execBistRelease (who : Accessor) (key : BitVec 16) (s : State) : Result :=
  .next <| s.bistCmd who key fun s =>
    let u := (s.bistStep (s.rd BIST_PROG_SEL.step)).target
    if s.lifeCycle = 3 ∧ u ∈ s.bist.passed ∧ u ∈ s.bist.held then ((s.releaseUnit u).commitRecord).cause 0x06 3 else s

/-! ## OTP programming -/

/-- An OTP command is refused with its reason (R564). -/
def State.otpRefuse (s : State) (reason : Nat) : State := (s.put OTP_CMD_STAT.refused).wr OTP_CMD_STAT.reason reason

/-- An OTP command has completed (R564, R565). -/
def State.otpDone (s : State) : State := (s.put OTP_CMD_STAT.done).cause 0x05 1

/-- A command of OTP_CMD acts with its key; it is refused outside MANUFACTURE and FACTORY_TEST (R559), and after the
declaration of a power failure. -/
def State.otpCmd (s : State) (who : Accessor) (key : BitVec 16) (act : State → State) : State :=
  s.command who 0x05 0x12C fun s =>
    if key ≠ 0x4F54 then s
    else if 2 ≤ s.lifeCycle then s.otpRefuse 1
    else if s.sys.phase = .failing then s.otpRefuse 6
    else act s

/-- The data that OTP_PROG_LO and OTP_PROG_HI hold. -/
def State.progData (s : State) : Nat := s.rd OTP_PROG_LO.data + s.rd OTP_PROG_HI.data * 2 ^ 32

/-- A program has failed its verify, and its row is left failed (R559). -/
def State.verifyFails (s : State) (row : Nat) : State :=
  ({ s with otp := { s.otp with failed := s.otp.failed ++ [row] } } : State).err 0x05 0x1405 row

/-- OTP_PROGRAM (R559): a row that is not blank is never programmed again. A fuse row is programmed bit by bit, so that
bits are only added to it (R553). -/
def execOtpProgram (who : Accessor) (key : BitVec 16) (verified : Bool) (s : State) : Result :=
  .next <| s.otpCmd who key fun s =>
    let r := s.rd OTP_PROG_IDX.row
    let fuses := decide (284 ≤ r ∧ r ≤ 289)
    if s.isLocked (regionOf r) ∧ r < 290 then s.otpRefuse 2
    else if 544 ≤ r ∨ (!fuses ∧ s.otpRow r ≠ 0) then s.otpRefuse 3
    else
      let s := (s.setRow r (s.rowOf r ||| s.progData)).fixLocks
      (if verified then s else s.verifyFails r).otpDone

/-- The next free spare row: those with an entry and those consumed without one are spent (R559). -/
def State.nextSpare (s : State) : Nat := 512 + s.otp.spared.length + s.otp.unlinked.length

/-- OTP_REPAIR (R559): the data goes into the next spare row, and only a spare that verifies gets its redirection entry. A
program that is cut between the two leaves the spare consumed. -/
def execOtpRepair (who : Accessor) (key : BitVec 16) (verified linked : Bool) (s : State) : Result :=
  .next <| s.otpCmd who key fun s =>
    let r := s.rd OTP_PROG_IDX.row
    let n := s.nextSpare
    if s.isLocked (regionOf r) ∧ r < 290 then s.otpRefuse 2
    else if 544 ≤ n then s.otpRefuse 4
    else
      let s := s.setRow n s.progData
      let s := if verified then s else s.verifyFails n
      let s := { s with otp :=
        if verified && linked then { s.otp with spared := s.otp.spared.filter (fun (e : Nat × Nat) => decide (e.1 ≠ r)) ++ [(r, n)] }
        else { s.otp with unlinked := s.otp.unlinked ++ [n] } }
      s.otpDone

/-- The check row of a region is blank (R559). -/
def State.checkBlank (s : State) (region : Nat) : Bool :=
  match checkRow region with
  | some r => decide (s.otpRow r = 0)
  | none => false

/-- OTP_LOCK (R559, R560): the lock bit of a region is blown; over a blank check row only with force. -/
def execOtpLock (who : Accessor) (key : BitVec 16) (region : Fin 8) (force : Bool) (s : State) : Result :=
  .next <| s.otpCmd who key fun s =>
    let r := region.val
    let blank := s.checkBlank r
    if s.isLocked r ∨ r = 7 then s.otpRefuse 2
    else if blank ∧ !force then s.otpRefuse 5
    else
      let s := ({ s with otp := { s.otp with locked := s.otp.locked ++ [r] } } : State).fixLocks
      (if blank then s.err 0x05 0x1408 r else s).otpDone

/-- The rows of SEED as they are drawn: seven of data, and their check row. -/
def seedRows (free : Nat) : List Nat :=
  let l := (List.range 7).map fun i => (Config.randomKey (free + i)).toNat % 2 ^ 56
  l ++ [checkRowOf l]

/-- OTP_GEN_SEED (R559): SEED is filled from the on-die random source, with its check row (assumption 54). -/
def execOtpGenSeed (who : Accessor) (key : BitVec 16) (s : State) : Result :=
  .next <| s.otpCmd who key fun s =>
    if s.isLocked 4 then s.otpRefuse 2
    else if (List.range' 276 8).any fun r => decide (s.otpRow r ≠ 0) then s.otpRefuse 3
    else
      let t := s.forAll (seedRows s.free).zipIdx fun s e => s.setRow (276 + e.2) e.1
      { t with free := s.free + 7 }.otpDone

/-- OTP_LATCH_COMPARE (R556): every 1 ms the two copies of what stage 2 has latched are compared. -/
def execOtpLatchCompare (agree : Bool) (row : Fin 512) (s : State) : Result :=
  if s.sys.phase = .off then .next s
  else if agree then .next (s.advance psMs)
  else .next ((s.advance psMs).err 0x05 0x1407 row)

end Sys2Proof.Machine
end

