-- ==== Sys2Proof/Machine/Sideband.lean ====
section
/-!
DEFINITION. The sideband (R565 to R570), identity and attestation (R571 to R573), firmware over PLDM (R574) and the vendor
commands Orderly Shutdown and Restart. Codes of MCTP, PLDM and SPDM are those of their standards (assumption 33).
-/

namespace Sys2Proof.Machine

/-! ## The endpoint -/

/-- The endpoint answers on the bus (R567, R568): VAUX is good, its mode is enabled, and the logic die is not in Hold. -/
def State.sbUp (s : State) : Bool :=
  decide (s.sys.phase ≠ .hold) &&
  ((decide (s.rd SB_STAT.mode = 1) && s.on SB_CTL.smbus_en) || (decide (s.rd SB_STAT.mode = 2) && s.on SB_CTL.i3c_en))

/-- A response goes out and waits for the bus owner, which has collected the one before (R591). -/
def State.sbReply (s : State) (mtype cmd code : Nat) (payload : List Nat) : State :=
  (({ s with sb := { s.sb with uncollected := true } } : State).emit (.sideband mtype cmd code payload)).fixAlert

/-- A message is dropped and counted (R567, R569, R570). -/
def State.sbDrop (s : State) : State := (s.bump SB_MCTP_DROP.count).err 0x08 0x1502 0

/-- Message types that the endpoint supports (R569). -/
def mctpTypes : List Nat := [0x00, 0x01, 0x05, 0x06, 0x07, 0x08]

/-- A change is accepted only in a fabric-manager session (R570). -/
def State.sbSecure (s : State) : Bool := s.on SB_CTL.secure_only && decide (2 ≤ s.lifeCycle)

/-- MCTP_MESSAGE (R567 to R570): the front end counts a message and drops it, refuses it, or hands it to its service. -/
def execMctpMessage (mtype : BitVec 8) (len : Nat) (changes fmSession pecOk : Bool) (s : State) : Result :=
  if !s.sbUp then .next s
  else if s.rd SB_STAT.mode = 1 ∧ !pecOk then .next ((s.bump SB_PEC_ERR.count).err 0x08 0x1501 0)
  else
    let s := (({ s with sb := { s.sb with uncollected := false } } : State).bump SB_MCTP_RX.count).fixAlert
    if 4096 < len ∨ mtype.toNat ∉ mctpTypes ∨ (mtype ≠ 0 ∧ s.rd SB_STAT.eid = 0) then .next s.sbDrop
    else if changes ∧ !(fmSession ∧ s.sessionOpen .fm) ∧ s.sbSecure then .next (s.sbDrop.sbReply mtype.toNat 0 rcUnsupported [])
    else .next s

/-- The mode changes (R567, R582): a packet that is partly received is discarded. -/
def State.sbMode (s : State) (mode : Nat) (part : Bool) : State :=
  let s := if part then s.sbDrop else s
  ((s.wr SB_STAT.mode mode).cause 0x08 2).fixAlert

/-- I3C_DYNAMIC_ADDRESS (R567). -/
def execI3cDynamicAddress (addr : BitVec 7) (partPacket : Bool) (s : State) : Result :=
  if s.rd SB_STAT.mode = 0 ∨ !s.on SB_CTL.i3c_en ∨ s.sys.phase = .hold then .next s else
  let s := s.wr SB_STAT.dyn_addr addr.toNat
  .next (if s.rd SB_STAT.mode = 2 then s else s.sbMode 2 partPacket)

/-- I3C_RESET (R567): RSTDAA or a target reset; an I3C transfer in progress is aborted. -/
def execI3cReset (partPacket : Bool) (s : State) : Result :=
  if s.rd SB_STAT.mode ≠ 2 ∨ s.sys.phase = .hold then .next s else
  let s := if partPacket then s.err 0x08 0x1501 0 else s
  .next ((s.wr SB_STAT.dyn_addr 0).sbMode 1 partPacket)

/-! ## MCTP control -/

/-- An MCTP control command is answered by the front end, in every state but Hold (R568). -/
def State.sbControl (s : State) (f : State → State) : Result := .next (if s.sbUp then f s else s)

/-- SET_ENDPOINT_ID (R569): the EIDs 0x00 and 0xFF are not assigned. -/
def execSetEndpointId (eid : BitVec 8) (s : State) : Result :=
  s.sbControl fun s =>
    if eid = 0 ∨ eid = 0xFF then s.sbReply 0 1 2 []
    else ((s.wr SB_STAT.eid eid.toNat).cause 0x08 1).sbReply 0 1 0 [eid.toNat]

/-- GET_ENDPOINT_ID (R569). -/
def execGetEndpointId (s : State) : Result := s.sbControl fun s => s.sbReply 0 2 0 [s.rd SB_STAT.eid]

/-- GET_ENDPOINT_UUID (R569): the UUID is the module's own. -/
def execGetEndpointUuid (s : State) : Result := s.sbControl fun s => s.sbReply 0 3 0 (blobWords 1 0)

/-- GET_MCTP_VERSION_SUPPORT (R569): version 1.3. -/
def execGetMctpVersionSupport (s : State) : Result := s.sbControl fun s => s.sbReply 0 4 0 [1, 3]

/-- GET_MESSAGE_TYPE_SUPPORT (R569). -/
def execGetMessageTypeSupport (s : State) : Result := s.sbControl fun s => s.sbReply 0 5 0 mctpTypes

/-! ## Services of the management core -/

/-- A service needs an EID (R569), and the management core: without it the answer is "not ready" (R568). -/
def State.sbService (s : State) (mtype cmd busy : Nat) (f : State → State) : Result :=
  .next <|
    if !s.sbUp || decide (s.rd SB_STAT.eid = 0) then s
    else if !s.on SB_STAT.core_ready then s.sbReply mtype cmd busy []
    else f s

/-- Codes of PLDM: not ready, invalid sensor, failed verification. -/
def pldmNotReady : Nat := 4
def pldmNoSensor : Nat := 0x80
def pldmVerifyFail : Nat := 2

/-- What a sensor reads (R569): 0 to 19 the dies of R487, 20 to 22 VIN, VAUX and VBANK, 23 module power, 24 BANK_ENERGY,
25 FOLIO_BUDGET, 26 FOLIO_STAT.persist, 27 Safe State, 28 the life-cycle state. No register holds VAUX, whose reading is
a free value. -/
def State.pldmSensor (s : State) (n : Nat) : Option Nat :=
  if n < 20 then some (ofSigned 16 (s.heat n).reading)
  else match n with
    | 20 => some (s.rd BANK_VIN.mv)
    | 21 => some (Config.pick s.free 65536)
    | 22 => some (s.rd BANK_VBANK.mv)
    | 23 => some (s.rd THERM_POWER.w)
    | 24 => some (s.rd BANK_ENERGY.mj)
    | 25 => some (s.rd FOLIO_BUDGET.quires)
    | 26 => some (s.rd FOLIO_STAT.persist)
    | 27 => some (if s.safe then 1 else 0)
    | 28 => some s.lifeCycle
    | _ => none

/-- PLDM_MONITORING (R568, R569): before the core serves, the supply sensors alone answer. -/
def execPldmMonitoring (sensor : Fin 32) (s : State) : Result :=
  .next <|
    let n := sensor.val
    if !s.sbUp || decide (s.rd SB_STAT.eid = 0) then s
    else if !s.on SB_STAT.core_ready ∧ !(decide (20 ≤ n ∧ n ≤ 22)) then s.sbReply 1 0x11 pldmNotReady []
    else match s.pldmSensor n with
      | none => s.sbReply 1 0x11 pldmNoSensor []
      | some v => (if n = 21 then s.drawn else s).sbReply 1 0x11 0 [v]

/-- A part of an image arrives by PLDM (R574). -/
def State.pldmTransfer (s : State) (offset version secver : Nat) (sigOk last : Bool) : State :=
  let at_ := fun (o : Option Nat) => ({ s with sb := { s.sb with fwOffset := o } } : State)
  let fits : Bool := match s.sb.fwOffset with
    | none => decide (offset = 0)
    | some n => decide (offset = 0 ∨ n < offset)
  if s.fwBusy none then s.sbReply 1 0x15 pldmNotReady []
  else if !fits then s.sbReply 1 0x15 pldmVerifyFail []
  else if last then ((at_ none).fwArrived version secver sigOk).sbReply 1 0x15 0 []
  else (at_ (some offset)).sbReply 1 0x15 0 []

/-- PLDM_FIRMWARE_UPDATE (R570, R574): a transfer or an activation. -/
def execPldmFirmwareUpdate (activate : Bool) (fmSession : Bool) (offset version secver : Nat) (sigOk last : Bool)
    (s : State) : Result :=
  s.sbService 1 0x15 pldmNotReady fun s =>
    if s.sbSecure ∧ !(fmSession ∧ s.sessionOpen .fm) then s.sbDrop.sbReply 1 0x15 rcUnsupported []
    else if activate then
      (if s.fwFits then s.activateImage.sbReply 1 0x1A 0 [] else s.sbReply 1 0x1A pldmVerifyFail [])
    else s.pldmTransfer offset version secver sigOk last

/-! ## SPDM -/

/-- Errors of SPDM. -/
def spdmInvalid : Nat := 0x01
def spdmNoSession : Nat := 0x02
def spdmBusy : Nat := 0x03
def spdmUnspecified : Nat := 0x05
def spdmLimit : Nat := 0x0A

/-- An SPDM request. -/
def State.spdm (s : State) (cmd : Nat) (f : State → State) : Result := s.sbService 5 cmd spdmBusy f

/-- An SPDM request that needs the identity seed, which is gone in DECOMMISSIONED (R573). -/
def State.spdmSigned (s : State) (cmd : Nat) (f : State → State) : Result :=
  s.spdm cmd fun s => if s.lifeCycle = 4 then s.sbReply 5 cmd spdmUnspecified [] else f s

/-- GET_CERTIFICATE (R572): slot 0 holds the chain, which follows the running firmware; slots 1 to 7 hold none. -/
def execGetCertificate (slot : Fin 8) (s : State) : Result :=
  s.spdm 0x82 fun s =>
    if slot = 0 then s.sbReply 5 0x82 0 (blobWords 2 (s.rd SB_FW_VER.version)) else s.sbReply 5 0x82 spdmInvalid []

/-- CHALLENGE (R571, R573): a nonce of the device and a signature over the requester's. -/
def execChallenge (nonce : BitVec 256) (s : State) : Result :=
  s.spdmSigned 0x83 fun s =>
    s.drawn.sbReply 5 0x83 0 ([nonce.toNat, (Config.nonce s.free).toNat] ++ blobWords 3 s.free)

/-- The raw measurement of index 6 (R573): life cycle, Unit Number, SYS_ID and the security version. -/
def State.rawMeasure (s : State) : List Nat :=
  [s.lifeCycle, s.rd SYS_UNIT.unit, s.rd SYS_ID.variant + s.rd SYS_ID.stepping * 2 ^ 8 + s.rd SYS_ID.product * 2 ^ 16,
   s.rd SB_FW_STAT.secver]

/-- The measurement of an index: 0 gives their number. -/
def State.measure (s : State) (index : Nat) : Option (List Nat) :=
  if index = 0 then some [6]
  else if index ≤ 5 then some (blobWords (3 + index) (if index = 2 then s.rd SB_FW_VER.version else 0))
  else if index = 6 then some s.rawMeasure
  else none

/-- GET_MEASUREMENTS (R573): signed ones need the seed. -/
def execGetMeasurements (index : Fin 8) (signed : Bool) (s : State) : Result :=
  s.spdm 0xE0 fun s =>
    match s.measure index with
    | none => s.sbReply 5 0xE0 spdmInvalid []
    | some m =>
      if !signed then s.sbReply 5 0xE0 0 m
      else if s.lifeCycle = 4 then s.sbReply 5 0xE0 spdmUnspecified []
      else s.drawn.sbReply 5 0xE0 0 (m ++ [(Config.nonce s.free).toNat] ++ blobWords 3 s.free)

/-- Sessions open on every transport, the Dovetail link's among them (R571). -/
def State.openSessions (s : State) : Nat := s.sb.sessions.length + (if s.dove.session then 1 else 0)

/-- KEY_EXCHANGE (R571, R573): at most 8 sessions are open; a requester that fails mutual authentication is refused. -/
def execKeyExchange (auth : KeyAuth) (s : State) : Result :=
  s.spdmSigned 0xE4 fun s =>
    if 8 ≤ s.openSessions then s.sbReply 5 0xE4 spdmLimit []
    else if !auth.ok then (s.err 0x08 0x1506 0).sbReply 5 0xE4 spdmInvalid []
    else
      let n := ((List.range 8).find? fun i => !(s.sb.sessions.any fun e => decide (e.1 = i))).getD 0
      ({ s with sb := { s.sb with sessions := s.sb.sessions ++ [(n, 0, auth.who)] } } : State).sbReply 5 0xE4 0 [n]

/-- KEY_UPDATE (R571): the keys of an open session take their next generation. -/
def execKeyUpdate (session : Fin 8) (s : State) : Result :=
  s.spdm 0xE9 fun s =>
    if s.sb.sessions.any fun e => decide (e.1 = session.val) then
      ({ s with sb := { s.sb with
        sessions := s.sb.sessions.map fun e => if e.1 = session.val then (e.1, e.2.1 + 1, e.2.2) else e } } : State).sbReply 5 0xE9 0 []
    else s.sbReply 5 0xE9 spdmNoSession []

/-! ## Vendor commands -/

/-- ORDERLY_SHUTDOWN (R570): Success is returned before step 1 of R454. -/
def execOrderlyShutdown (fmSession : Bool) (s : State) : Result :=
  s.sbService 8 0xC430 rcBusy fun s =>
    if s.sbSecure ∧ !(fmSession ∧ s.sessionOpen .fm) then s.sbDrop.sbReply 8 0xC430 rcUnsupported []
    else if s.sys.phase ≠ .active then s.sbReply 8 0xC430 rcBusy []
    else (s.sbReply 8 0xC430 rcSuccess []).beginShutdown 0

/-- RESTART (R456, R570): in Off, with VIN good, the module starts; while a shutdown runs it waits. -/
def execRestart (s : State) : Result :=
  .next <|
    if !s.sbUp || decide (s.rd SB_STAT.eid = 0) then s
    else if s.sys.phase = .off ∧ s.on SYS_SUPPLY.vin_good then (s.sbReply 8 0xC431 rcSuccess []).powerOn 5 true
    else if s.sys.phase = .shutdown then
      ({ s with sys := { s.sys with restartWaits := true } } : State).sbReply 8 0xC431 rcSuccess []
    else s.sbReply 8 0xC431 rcInvalid []

end Sys2Proof.Machine
end

