-- ==== Sys2Proof/Machine/Pages.lean ====
section
/-!
DEFINITION. What every page does: the block soft reset (R14, R607), interrupt set (R10), the escalation timer (R511 to
R516) and the sweep of the quire map (R535).
-/

namespace Sys2Proof.Machine

/-! ## What follows the registers of a page -/

/-- Persistence is enabled or disabled (R163): off, its Checkpoint stops and held writes complete without coverage. Enabled again, it is Failed where it has failed in this power-up (R161). -/
def State.setPersistEn (s : State) (on_ : Bool) : State :=
  let s := s.wrb FOLIO_CTL.persist_en on_
  if !s.persistFused then s
  else if !on_ then ((s.stopCheckpoint).setPersist 0).releaseHeld.fixLevel.fixGauge
  else if s.rd FOLIO_STAT.persist = 0 ∧ s.startPath = 3 ∧ s.on SYS_START_STAT.mem_active then
    (if s.folio.failed then s.setPersist 3 else (s.setPersist 1).fixPersist).fixGauge
  else s

/-- Quantities that a page computes from its registers are computed again: the windows and the calibration of a PC, the
decoders' registers of a port, the DOVE link, the Gauge, the budgets, the throttle floors, the idle timers. -/
def State.rewired (s : State) (page : Nat) : State :=
  if 0x40 ≤ page then
    let pc := page - 0x40
    ((s.setRefCtl pc (s.rd (PC_REF_CTL.postpone_max.pc pc)) (s.rd (PC_REF_CTL.window_force.pc pc))).fixCal pc).calDrift pc
  else if 0x10 ≤ page ∧ page < 0x14 then ((s.fixPort (page - 0x10)).fixCal (64 + (page - 0x10))).train (page - 0x10)
  else match page with
    | 0x03 => if s.on PWR_CTL.idle_en then s else s.wakeAll
    | 0x04 => s.keepFloors.fixGauge
    | 0x08 => s.fixAlert
    | 0x14 => if s.on DOVE_CTL.dove_en then (s.fixCal 68).train 4 else s.doveLanesDown
    | 0x18 => s.fixGauge
    | 0x1B => s.setPersistEn (s.on FOLIO_CTL.persist_en)
    | 0x1C => ((if s.on BANK_CTL.charge_en then s else s.clr BANK_STAT.charging).fixEnergy).fixBudget
    | _ => s

/-! ## Block soft reset -/

/-- The registers of a page that a soft reset keeps (R607): the read-only ones whose reset value is per variant, per
device, per start or from OTP, those of the trained values (R466), and those that report a state which the block shares
with others and does not lose (which they are is DEDUCED, assumption 90). -/
def keptFields (page : Nat) : List Fld :=
  match canonPage page with
  | 0x00 => [SYS_ID.variant, SYS_ID.stepping, SYS_UNIT.unit, SYS_UNIT.valid, SYS_LC.state, SYS_LC.next, SYS_LC.fs_left,
      SYS_LC.restrictive, SYS_LC.otp_marginal, SYS_LC_STAT.busy, SYS_START_STAT.stage, SYS_START_STAT.mem_active,
      SYS_START_STAT.safe, SYS_START_STAT.path, SYS_START_STAT.on_ho, SYS_RST_CAUSE.cause,
      SYS_SUPPLY.vin_good, SYS_SUPPLY.vaux_good, SYS_SUPPLY.vbank_present, SYS_STARTS.count, SYS_SAFE_CAUSE.page,
      SYS_SAFE_CAUSE.code]
  | 0x01 => [TB_STAT.valid]
  | 0x02 => [CLK_SRC_STAT.ref_ok, CLK_SRC_STAT.ho_ok, CLK_SRC_STAT.ao_ok, CLK_SRC_STAT.holdover, CLK_REF_KHZ.khz,
      CLK_HO_KHZ.khz, CLK_AO_PPM.ppm, CLK_PLL_LOCK.layer, CLK_PLL_LOCK.system, CLK_DOM_CTL.src, CLK_DOM_STAT.src,
      CLK_DOM_STAT.pll_ready, CLK_DOM_STAT.switching, CLK_DOM_STAT.failover]
  | 0x03 => [PWR_DOM_STAT.state, PWR_DOM_STAT.clamped, PWR_DOM_STAT.rail_good]
  | 0x04 => [THERM_PCAP_STAT.cap_skip, THERM_PCAP_STAT.binding, THERM_PCAP_STAT.avg_w, THERM_POWER.w,
      THERM_SENS_VAL.temp, THERM_SENS_VAL.fast, THERM_SENS_VAL.failed, THERM_LAYER_STAT.reading,
      THERM_LAYER_STAT.estimate, THERM_LAYER_STAT.tj_used, THERM_LAYER_STAT.level, THERM_LAYER_STAT.suspect,
      THERM_LAYER_STAT.critical, THERM_SUSPECT_MAP.layers, THERM_THROTTLE_MAP.layers, THERM_THROTTLE_MAP.logic_level,
      THERM_DIE_STAT.logic, THERM_DIE_STAT.carrier, THERM_DIE_STAT.p0, THERM_DIE_STAT.p1]
  | 0x05 => [OTP_STAT.restrictive, OTP_STAT.marginal, OTP_STAT.second_pass, OTP_STAT.region_fail, OTP_STAT.region_locked,
      OTP_ROWS_FAILED.count, OTP_SPARES.used, OTP_SPARES.unlinked, OTP_LC_FUSES.fuses]
  | 0x07 => [ERRPIN_STAT.driven, ERRPIN_STAT.held, ERRPIN_STAT.ext_low, ERRPIN_SAFE_STAT.entered,
      ERRPIN_SAFE_STAT.bind_run, ERRPIN_SAFE_STAT.bind_committed, ERRPIN_SAFE_STAT.bind_failed, ERRPIN_SAFE_STAT.owed,
      ERRPIN_SAFE_TIME_LO.time, ERRPIN_SAFE_TIME_HI.time]
  | 0x08 => [SB_STAT.mode, SB_STAT.dyn_addr, SB_STAT.eid, SB_STAT.core_ready, SB_BANK_STAT.busy, SB_BANK_STAT.present,
      SB_BANK_STAT.last_ok, SB_FW_STAT.active_slot, SB_FW_STAT.pending, SB_FW_STAT.secver, SB_FW_STAT.min_secver,
      SB_FW_VER.version]
  | 0x10 => [PORT_CAP.rate_max, PORT_LINK_STAT.mode, PORT_LINK_STAT.rate, PORT_LINK_STAT.width,
      PORT_LINK_STAT.mld, PORT_LINK_STAT.lds_bound, PORT_LINK_STAT.mem_active, PORT_LINK_STAT.epoch, PORT_IDE_STAT.io_link,
      PORT_IDE_STAT.io_sel, PORT_IDE_STAT.cachemem, PORT_IDE_STAT.skid, PORT_IDE_STAT.key_set, PORT_IDE_STAT.insecure,
      PORT_LD_CFG.bound, PORT_LD_STAT.dec_committed, PORT_LD_STAT.hdmdb, PORT_LD_STAT.tsp_active]
  | 0x14 => [DOVE_STAT.link, DOVE_STAT.pair, DOVE_STAT.width, DOVE_STAT.speed, DOVE_STAT.area, DOVE_PARTNER.unit,
      DOVE_PARTNER.valid, DOVE_PARTNER.replaced, DOVE_PARTNER_POOL.pool, DOVE_RANGE_BASE.base_quire,
      DOVE_RANGE_END.end_quire, DOVE_RANGE_STAT.state, DOVE_RANGE_STAT.primary]
  | 0x19 => [CRYPT_CARVE_STAT.active, CRYPT_CARVE_STAT.busy]
  | 0x1A => [KERF_STACK_CFG.layers_present, KERF_STACK_CFG.absent_layer, KERF_STACK_CFG.map_out, KERF_STACK_CFG.carve_out,
      KERF_CAPACITY.quires, KERF_CARVE_BASE.base_quire]
  | 0x1B => [FOLIO_STAT.persist, FOLIO_STAT.image_valid, FOLIO_STAT.map_lost,
      FOLIO_STAT.ckpt_queued, FOLIO_STAT.colophon_time_valid, FOLIO_SPACE.quires, FOLIO_BUDGET.quires, FOLIO_BSN_LO.bsn,
      FOLIO_BSN_HI.bsn, FOLIO_LIFT_BSN_LO.bsn, FOLIO_LIFT_BSN_HI.bsn, FOLIO_BSN_TOP_LO.bsn, FOLIO_BSN_TOP_HI.bsn,
      FOLIO_RETIRED.count]
  | 0x1C => [BANK_STAT.presence, BANK_STAT.charging, BANK_STAT.at_target, BANK_STAT.measuring,
      BANK_STAT.covered, BANK_STAT.foreign, BANK_STAT.level, BANK_VBANK.mv,
      BANK_ICHG.ma, BANK_ENERGY.mj, BANK_BUDGET_E.quires, BANK_RATED.cap_mf, BANK_RATED.volt_dv, BANK_MFG_DATE.year, BANK_MFG_DATE.month,
      BANK_MFG_DATE.day, BANK_CYCLES.count, BANK_PF_CTL.bus48, BANK_PF_STAT.vin_low,
      BANK_PF_STAT.pfail, BANK_PF_STAT.bank_sw, BANK_PF_STAT.input_open, BANK_PF_LAST.cause, BANK_PF_LAST.false_alarm,
      BANK_VIN.mv]
  | 0x1D => [CHISEL_CAP.rings]
  | 0x1E => [SCRUB_STAT.running, SCRUB_STAT.behind, SCRUB_STAT.overdue]
  | 0x1F => [TIPIN_SPARE_LO.in_use, TIPIN_SPARE_HI.in_use, TIPIN_RETIRE_PEND.count, TIPIN_RECORD_SEQ_LO.seq,
      TIPIN_RECORD_SEQ_HI.seq, TIPIN_RECORD_STAT.pending, TIPIN_RECORD_STAT.volatile, TIPIN_REQ_STAT.busy]
  | 0x40 => [PC_REF_STAT.window, PC_REF_STAT.tj_used, PC_REF_STAT.estimate, PC_SR_STAT.in_sr, PC_SR_STAT.entering,
      PC_SR_STAT.clk_gated, PC_ECC_STAT.erased, PC_ECC_STAT.lane0, PC_ECC_STAT.lane1, PC_REPAIR_STAT.spare_state,
      PC_REPAIR_STAT.retired_bank, PC_CAL_STAT.last_ok, PC_CAL_STAT.tj_last, PC_CAL_LAST_TIME_LO.time,
      PC_CAL_LAST_TIME_HI.time, PC_CAL_LANE_EYE.eye, PC_CAL_LANE_EYE.drift]
  | _ => []

/-- Where a field stands in its page, whatever the page and the copy. -/
def Fld.slot (f : Fld) : Nat := f.off * 32 + f.lsb

/-- A field of the PHY registers of a lane group that reports its lanes, their settings and their calibration: the link
stands, and so do the values trained (R466). -/
def keptPhy (slot : Nat) : Bool :=
  let off := slot / 32
  decide (off = 0x408 ∨ (0x500 ≤ off ∧ off < 0x580) ∨ off = 0x608 ∨ (0x61C ≤ off ∧ off < 0x628))

/-- The registers of a page that a soft reset keeps, by key: the RWL fields of a locked page, the fields of
`keptFields`, the lanes of a port page, and the slots of active Kerfs. -/
def State.keepsField (s : State) (page key : Nat) : Bool :=
  let slot := key % 131072
  ((keptFields page).any fun f => decide (f.slot = slot)) ||
  (s.on (LOCK.lock.on page) && (rowsOf page).any fun r => decide (r.ty = .rwl ∧ r.f.slot = slot)) ||
  (decide (0x10 ≤ page ∧ page ≤ 0x14) && keptPhy slot) ||
  (decide (page = 0x1A ∧ 0x200 ≤ slot / 32) && s.kerfActive (key / 16777216))

/-- The internal state of a block that no other rule keeps returns to reset (R607). -/
def State.resetInside (s : State) (page : Nat) : State :=
  if 0x40 ≤ page then
    let pc := page - 0x40
    let c := s.pc pc
    let c := { c with watch := [], laneEv := [], thirdLogged := [], wb := [] }
    let c := (List.range 32).foldl (fun (c : Pc) b => c.setBank b { c.bank b with rows := [] }) c
    (s.setPc pc c).stopRun pc
  else match page with
    | 0x01 => { s with clk := { s.clk with latch := [] } }
    | 0x02 => { s with clk := { s.clk with refGood := 0 } }
    | 0x03 => s.forAll (List.range 75) fun s d => s.setDomain d { s.domain d with idleAt := s.now }
    | 0x04 => { s with sensors := Sparse.mapWith (fun _ => Sensor.reset) s.sensors fun _ x =>
        { x with run := 0, outRun := 0, hist := [] } }
    | 0x07 => { s with pin := { s.pin with releaseAsked := false, highRun := 0 } }
    | 0x08 => { s with sb := { s.sb with stuckRun := 0, fwOffset := none } }
    | 0x1C => ({ s with bank := { s.bank with discards := 0, retryAt := none, startMeasured := false } } : State)
    | 0x1E => { s with pcs := Sparse.mapWith (fun _ => Pc.reset) s.pcs fun _ c =>
        { c with scrubPos := 0, scrubBack := [], passes := 0, backDone := 0 } }
    | 0x06 => { s with bist := { s.bist with results := [], passed := [], inj := [] } }
    | 0x18 => { s with gauge := { GaugeState.reset with windowAt := s.now, countFrom := s.now } }
    | 0x1A => s.forAll ((List.range 5).filter fun k => !s.kerfActive k) fun s k => s.setEng k KerfEng.reset
    | 0x1D => { s with chisel := ChiselState.reset }
    | _ => s

/-- The RWL fields whose reset value the latest start or the bus gives take that value while the page is not locked
(R184, R607); PORT_CTL.port_en is 1 in every port that the variant has. What the bank's record gives stands in for its
measurement again (R174). -/
def State.startValues (s : State) (page : Nat) : State :=
  let locked := s.on (LOCK.lock.on page)
  match page with
  | 0x00 => if locked then s else s.wr SYS_POOL.pool s.sys.poolGiven
  | 0x1B => if locked then s else s.wrb FOLIO_CTL.key_retain s.sys.retainGiven
  | 0x1C =>
    (if locked then s else s.wr BANK_PF_CTL.vin_thresh (if s.on BANK_PF_CTL.bus48 then 360 else 85)).provisional
  | _ =>
    if 0x10 ≤ page ∧ page < 0x14 ∧ !locked then
      s.wr (PORT_LD_ALLOC_END.end_quire.ld (page - 0x10) 0) (s.rd KERF_CAPACITY.quires)
    else s

/-- The block is reset (R607): its internal state and its block-specific registers, but what the rule keeps. The page
header stands, and so does a timer that runs. Key retention that ends so ends as a write of 0 ends it (R162). -/
def State.softResetNow (s : State) (page : Nat) : State :=
  let kept := s.on FOLIO_CTL.key_retain
  let s := ((s.resetInside page).resetPage page (s.keepsField page)).startValues page
  let s := if kept && !s.on FOLIO_CTL.key_retain then s.writeKeyRecord s.keyTables [] else s
  s.rewired page

/-- SOFT_RESET (R14, R607): a write of PAGE_CTL.soft_reset. The SPLINE page takes none (R410). -/
def execSoftReset (who : Accessor) (page : Page) (s : State) : Result :=
  .next <| s.command who page 0x008 fun s =>
    let p := s.page page
    if page.val = 0x09 ∨ p.softReq then s else s.setPage page { p with softReq := true, reqAt := s.now }

/-- A soft reset is abandoned and reported (R14). -/
def State.abandonReset (s : State) (page : Nat) : State :=
  (s.setPage page { s.page page with softReq := false }).put (PAGE_STAT.reset_abandoned.on page)

/-- SOFT_RESET_PROCEED (R14, R607): the block is quiescent, within 2 µs of the request. -/
def execSoftResetProceed (page : Page) (s : State) : Result :=
  let p := s.page page
  if !p.softReq || !s.quiescent page then .next s
  else if s.gateLate (some p.reqAt) then .next (s.abandonReset page)
  else .next ((s.setPage page { p with softReq := false }).softResetNow page)

/-- QUIESCENCE_TIMEOUT (R14, R424): the block is not quiescent 2 µs after the request for its soft reset, or the domain
after the request for its entry, which is abandoned. -/
def execQuiescenceTimeout (page : Page) (gate : Option DomainNo) (s : State) : Result :=
  match gate with
  | some d =>
    match (s.domain d).gateAt with
    | none => .next s
    | some t => if s.domainQuiet d then .next s else .next ((s.advanceTo (t + 2 * psUs)).abandonGate d)
  | none =>
    if !(s.page page).softReq || s.quiescent page then .next s
    else .next ((s.advanceTo ((s.page page).reqAt + 2 * psUs)).abandonReset page)

/-! ## Interrupts and captures -/

/-- The causes of a page that a word of INT_SET names, set one by one. -/
def State.setCauses (s : State) (page : Nat) (bits : Nat) : State :=
  s.forAll ((List.range' 1 31).filter (bitOf bits)) fun s b => s.cause page b

/-- INT_SET (R10): in FACTORY_TEST only. -/
def execIntSet (who : Accessor) (page : Page) (bits : Word) (s : State) : Result :=
  .next <| s.command who page 0x058 fun s => if s.lifeCycle = 1 then s.setCauses page bits.toNat else s

/-- A write of a register that Safe State leaves open in every page: ESC_ACK, ERR_STAT and FE_VALID (R519). -/
def State.safeWrite (s : State) (who : Accessor) (page off : Nat) (act : State → State) : State :=
  if s.sys.phase = .off ∨ s.sys.phase = .hold then s
  else if !s.mayAdmin who then s.deny who (page * 4096 + off)
  else if !s.present page then s
  else act (s.wakePage page)

/-- FE_VALID_CLEAR (R12): the capture is released. -/
def execFeValidClear (who : Accessor) (page : Page) (s : State) : Result :=
  .next <| s.safeWrite who page 0x03C fun s => s.clr (FE_VALID.valid.on page)

/-! ## Escalation -/

/-- The pages whose timed fatal error takes a carrier I/O reset first (R516). -/
def carrierPage (page : Nat) : Bool := decide (0x10 ≤ page ∧ page ≤ 0x14) || page == 0x08

/-- A timed fatal error of a page expires (R512, R514, R516). -/
def State.fatalExpiry (s : State) (page : Nat) : State :=
  let code := (s.page page).code
  let s := s.stopTimer page
  let second := match s.sys.holdEndAt with
    | some t => decide (s.now ≤ t + psS)
    | none => false
  if carrierPage page && !second && decide (s.sys.phase = .active) then
    let s := ({ s with sys := { s.sys with holdForPage := true } } : State).beginHold
    s.clr (ERR_STAT.fatal.on page)
  else s.enterSafe page code

/-- The escalation timer of a page expires (R512): an uncorrected-contained error becomes fatal, and the timer starts
again; a fatal one takes its reaction. -/
def State.escExpiry (s : State) (page : Nat) : State :=
  let p := s.page page
  let s := s.advanceTo p.escAt
  let s := s.put (ESC_STAT.escalated.on page)
  if 3 ≤ p.sev then s.fatalExpiry page
  else
    let s := (s.put (ERR_STAT.fatal.on page)).bump ERRPIN_ESCALATIONS.count
    let s := s.setPage page { p with sev := 3, escAt := s.now + s.rd (ESC_CTL.esc_time_us.on page) * psUs }
    (s.cause 0x07 1).err 0x07 0x1201 page

/-- ESC_TIMER_EXPIRY (R512). -/
def execEscTimerExpiry (page : Page) (s : State) : Result :=
  if s.on (ESC_STAT.running.on page) then .next (s.escExpiry page) else .next s

/-- The acknowledge is taken (R513): the timer stops, and the error's bits and captures stand. -/
def State.escAckNow (s : State) (page : Nat) : State := (s.stopTimer page).put (ESC_STAT.acked.on page)

/-- ESC_ACK (R13, R513): where the expiry is due at the same instant, the arbiter grants one of the two. -/
def execEscAck (who : Accessor) (page : Page) (expiryFirst : Grant) (s : State) : Result :=
  .next <| s.safeWrite who page 0x044 fun s =>
    if !s.on (ESC_STAT.running.on page) then s
    else if expiryFirst ∧ (s.page page).escAt ≤ s.now then s.escExpiry page
    else s.escAckNow page

/-! ## The quire map -/

/-- QUIRE_MAP_SWEEP (R535): an entry on which the copies differ is rewritten from the good copy; one that failed in both
is lost, and the device enters Safe State. A lost entry counts as Dirty, so that the Safe State Bind writes its quire
(R520, DEDUCED). -/
def execQuireMapSweep (_repaired failed : List QuireNo) (s : State) : Result :=
  .next (match failed with
    | [] => s
    | q :: _ =>
      let lost := failed.map fun (q : QuireNo) => q.val
      let s := { s with folio := { s.folio with lostEntries := (s.folio.lostEntries ++ lost).dedup } }
      let s := s.forAll lost fun s q => s.setQuire q { s.quire q with state := .dirty, wtime := s.now }
      s.errImmediate 0x07 0x1205 q)

end Sys2Proof.Machine
end

