-- ==== Sys2Proof/Machine/Registers.lean ====
section
/-!
DEFINITION. The register window (R5 to R9, R321): where an offset leads, what a register reads, what a write of a
register takes, and the commands that read and write registers (R7, R349, R440).
-/

namespace Sys2Proof.Machine

/-! ## Where an offset leads -/

/-- The registers that stand more than once: the offset of the first copy, and the number of the copy (R51, R225, R242,
R274, R313, R357, R386, R536). -/
def copyOf (cp off : Nat) : Nat × Nat :=
  let stride (base step : Nat) : Nat × Nat := (base + (off - base) % step, (off - base) / step)
  if cp = 0x1A ∧ 0x200 ≤ off ∧ off < 0x340 then stride 0x200 0x40
  else if cp = 0x19 ∧ 0x140 ≤ off ∧ off < 0x1C0 then stride 0x140 0x10
  else if cp = 0x18 ∧ 0x140 ≤ off ∧ off < 0x15C then stride 0x140 4
  else if cp = 0x18 ∧ 0x160 ≤ off ∧ off < 0x17C then stride 0x160 4
  else if cp = 0x1D ∧ 0x200 ≤ off ∧ off < 0x400 then stride 0x200 0x20
  else if cp = 0x14 ∧ 0x200 ≤ off ∧ off < 0x300 then stride 0x200 0x10
  else if cp = 0x10 ∧ 0x200 ≤ off ∧ off < 0x300 then
    let r := (off - 0x200) % 0x40
    let l := (off - 0x200) / 0x40
    if 0x10 ≤ r ∧ r < 0x30 then (0x210 + r % 8, l * 4 + (r - 0x10) / 8) else (0x200 + r, l)
  else if cp = 0x10 ∧ 0x500 ≤ off ∧ off < 0x580 then stride 0x500 0x10
  else if cp = 0x07 ∧ 0x120 ≤ off ∧ off < 0x130 then stride 0x120 4
  else (off, 0)

/-- The registers that a selector register chooses among, by page: the selector and their offsets. -/
def selectors (cp : Nat) : List (Fld × List Nat) :=
  match cp with
  | 0x00 => [(SYS_STAGE_SEL.stage, [SYS_STAGE_US.us.off])]
  | 0x02 => [(CLK_DOM_SEL.domain, [CLK_DOM_CTL.src.off, CLK_DOM_STAT.src.off])]
  | 0x03 => [(PWR_DOM_SEL.domain, [PWR_DOM_CTL.sleep_idle.off, PWR_DOM_STAT.state.off, PWR_DOM_WAKES.count.off,
      PWR_DOM_ABORTS.count.off, PWR_WAKE_MAX_NS.ns.off])]
  | 0x04 => [(THERM_SENS_SEL.sensor, [THERM_SENS_VAL.temp.off, THERM_SENS_MAX.temp.off]),
      (THERM_LAYER_SEL.layer, [THERM_LAYER_STAT.reading.off, THERM_LAYER_CE.ce_1s.off])]
  | 0x06 => [(BIST_PROG_SEL.step, [BIST_PROG.test.off, BIST_PROG_ARG.arg.off, BIST_RESULT.code.off]),
      (BIST_FAIL_IDX.index, [BIST_FAIL.test.off])]
  | 0x08 => [(SB_LAYER_SEL.layer, [SB_LAYER_ID.data.off, SB_LAYER_STAT.valid.off])]
  | 0x09 => [(SPLINE_XING_SEL.index, [SPLINE_XING_STAT.state.off, SPLINE_XING_DROP.count.off])]
  | 0x10 => [(PHY_CAL_LANE_SEL.lane, [PHY_CAL_LANE_THR.thr_lo.off, PHY_CAL_LANE_EYE.height.off])]
  | 0x18 => [(GAUGE_PAIR_IDX.pair, [GAUGE_PAIR_CFG.map_class.off, GAUGE_PAIR_BUDGET.lines.off, GAUGE_PAIR_GUAR.lines.off,
      GAUGE_PAIR_USED.lines.off, GAUGE_PAIR_MISS.count.off, GAUGE_PAIR_STAT.over.off])]
  | 0x40 => [(PC_LANE_SEL.lane, [PC_LANE_CNT.count.off]),
      (PC_CAL_LANE_SEL.via, [PC_CAL_LANE_DLY.rd_dly.off, PC_CAL_LANE_EYE.eye.off])]
  | _ => []

/-- Where an access leads: the page whose fields it reaches, the rows of its table, the offset of the first copy and the
copy. PHY_GRP_SEL of PORTA turns its PHY offsets to the DOVE lanes (R384, R481). The LR128-P2 has no registers of rings 8
to 15 (R247). -/
structure Reg where
  page : Nat
  rows : List Row
  copy : Nat
  deriving DecidableEq, Repr

/-- The register at an offset of a page. -/
def State.reg (s : State) (page off : Nat) : Reg :=
  let dove := decide (page = 0x10) && s.on PHY_GRP_SEL.dove && decide (0x404 ≤ off ∧ off < 0x700)
  let p := if dove then 0x14 else page
  let cp := canonPage page
  let c := copyOf cp off
  let n := match (selectors cp).find? fun e => decide (c.1 ∈ e.2) with
    | some e => s.rd (e.1.on p)
    | none => c.2
  let rows := if inHeader off then rowsHeader else if s.sys.variant = 2 ∧ page = 0x1D ∧ 0x300 ≤ off then [] else rowsOf page
  { page := p, rows := rows.filter fun r => decide (r.f.off = c.1) && !(off == 0x400 && page != 0x10), copy := n }

/-! ## What a register reads -/

/-- A number from truth values, lowest bit first. -/
def fromBits (l : List Bool) : Nat := l.foldr (fun b acc => (if b then 1 else 0) + 2 * acc) 0

/-- A truth value as a bit. -/
def bit (b : Bool) : Nat := if b then 1 else 0

/-- The time left on the escalation timer of a page in µs, rounded up (R10). -/
def State.escLeft (s : State) (page : Nat) : Nat :=
  if s.on (ESC_STAT.running.on page) then ((s.page page).escAt - s.now + psUs - 1) / psUs else 0

/-- The fields of a page header that follow from the state (R10). Work is in progress, so the model reads busy, while the
block is not quiescent (DESIGN CHOICE, assumption 88). The PC pages of an absent layer read Off (R33). -/
def State.readHeader (s : State) (page : Nat) (f : Fld) : Option Nat :=
  let dom := domainOf page
  if f = PAGE_CAP.present then some (bit (s.present page))
  else if f = PAGE_CAP.sleep_cap then some (bit (dom.any sleepCap))
  else if f = PAGE_CAP.deep_cap then some (bit (dom.any deepCap))
  else if f = PAGE_CAP.block_cap then some (Config.blockCap page % 2 ^ 16)
  else if f = PAGE_STAT.state ∧ s.layerAbsent page then some 0
  else if f = PAGE_STAT.busy then some (bit (!s.quiescent page))
  else if f = PAGE_STAT.quiescent then some (bit (s.quiescent page))
  else if f = ESC_STAT.remaining_us then some (min (s.escLeft page) (2 ^ 17 - 1))
  else if f = INT_STAT.err then some (bit (s.intErr page))
  else none

/-- KERF (R51, R52): the position reads 0 in a slot that is Idle or Done, and KERF_ARG is read by the kind of the slot. -/
def State.readKerf (s : State) (n : Nat) (f : Fld) : Option Nat :=
  let st (k : Nat) : Nat := s.rd (KERF_STAT.state.ix k)
  let pos := if st n = 0 ∨ st n = 4 then 0 else s.kerfPos n
  if f = KERF_ACTIVE.running then some (fromBits ((List.range 5).map fun k => decide (st k = 2)))
  else if f = KERF_ACTIVE.waiting then some (fromBits ((List.range 5).map fun k => decide (st k = 1)))
  else if f = KERF_STAT.demand_depth then some (if n < 2 then (s.eng n).demand.length else 0)
  else if f = KERF_POS_LO.pos then some (pos % 2 ^ 32)
  else if f = KERF_POS_HI.pos then some (pos / 2 ^ 32)
  else if f = KERF_ARG.from_slot ∨ f = KERF_ARG.to_slot then (if n = 2 then none else some 0)
  else if f = KERF_ARG.bank then (if n = 3 then none else some 0)
  else if f = KERF_ARG.range then (if n = 4 then none else some 0)
  else none

/-- PC pages (R86, R118, R480). -/
def State.readPc (s : State) (pc n : Nat) (f : Fld) : Option Nat :=
  let c := s.pc pc
  if f = PC_QUEUE_STAT.rd_occ then some (s.reads pc)
  else if f = PC_QUEUE_STAT.wr_occ then some c.writes
  else if f = PC_QUEUE_STAT.bank_max then some (((List.range 32).map fun b => (s.bankQueue pc b).length).foldl max 0)
  else if f = PC_REF_STAT.balance_max then some (((List.range 32).map fun b => (c.bank b).balance.toNat).foldl max 0)
  else if f = PC_REPAIR_STAT.watch_occ then some c.watch.length
  else if f = PC_CAL_LANE_DLY.rd_dly then some (s.rdDly pc n).toNat
  else if f = PC_CAL_LANE_DLY.wr_dly then some (s.wrDly pc n)
  else if f = PC_CAL_LANE_EYE.eye_start then some (s.eyeStart pc n)
  else if f = PC_CAL_VREF.rd_vref then some (s.rdVref pc).toNat
  else if f = PC_CAL_VREF.wr_vref then some (s.wrVref pc)
  else none

/-- An entry of the Tip-in Table in the layout of R108. -/
def TipEntry.word (t : TipEntry) : Nat := bit t.valid + 2 * bit t.field + 4 * bit t.bad + 8 * bit t.pending + 16 * t.row

/-- Scrub and repair (R120, R122). -/
def State.readRepair (s : State) (f : Fld) : Option Nat :=
  let count (p : TipEntry → Bool) : Nat := (s.repair.table.filter fun e => p e.2).length
  if f = SCRUB_OLDEST_S.s then some (((s.pcsInUse.map s.scrubAge).foldl max 0) / psS)
  else if f = TIPIN_ENTRY.entry then some (s.tip (s.rd TIPIN_IDX.index)).word
  else if f = TIPIN_FIELD_USED.count then some (count fun t => t.valid && t.field)
  else if f = TIPIN_FACTORY_USED.count then some (count fun t => t.valid && !t.field)
  else if f = TIPIN_BAD_SLOTS.count then some (count fun t => t.bad)
  else none

/-- The number of a quire state in a map entry (R132). -/
def QState.code : QState → Nat
  | .cleared => 0
  | .clean => 1
  | .dirty => 2
  | .staged => 3

/-- A map entry in the layout of R132. -/
def QEntry.word (e : QEntry) : Nat :=
  let place := match e.slot with
    | some n => slotWord n
    | none => 0
  place + e.state.code * 2 ^ 19 + bit e.unlifted * 2 ^ 22 + bit e.redirty * 2 ^ 23

/-- The mean wear counter over all blocks, rounded down (R163). -/
def State.wearMean (s : State) : Nat := (s.folio.blocks.map fun e => e.2.wear).sum / (2 * layerSlots)

/-- A block lies in the system area, which the model lays in stripes 0 to 31 of each layer (R129). -/
def systemBlock (b : Nat) : Bool := decide (b % layerSlots % 2176 < 32)

/-- FOLIO_STAT.activity (R163). Where several go on at once, the model shows a Bind, else a Checkpoint, else a record
append, else the Lift (DESIGN CHOICE, assumption 77). -/
def State.folioActivity (s : State) : Nat :=
  if s.bindRuns then 3
  else if s.folio.running.isSome then 2
  else if s.repair.append.isSome || s.crypto.commit.isSome then 4
  else if s.kerfRuns 1 then 1
  else 0

/-- The Folio (R163). -/
def State.readFolio (s : State) (f : Fld) : Option Nat :=
  let blk := s.block (s.rd FOLIO_WEAR_IDX.block)
  if f = FOLIO_DIRTY.count then some s.dirty
  else if f = FOLIO_STAT.activity then some s.folioActivity
  else if f = FOLIO_SPACE.quires then some (if s.persistFused then min s.space 0x3FFFF else 0)
  else if f = FOLIO_STAGED.count then some s.staged
  else if f = FOLIO_LIFT_LEFT.quires then some s.unlifted
  else if f = FOLIO_HEALTH.healthy then some s.healthy
  else if f = FOLIO_HEALTH.required then some s.required
  else if f = FOLIO_WEAR.max then some (min s.wearMax 0xFFFF)
  else if f = FOLIO_WEAR.mean then some (min s.wearMean 0xFFFF)
  else if f = FOLIO_WEAR_VAL.count then some (min blk.wear 0xFFFF)
  else if f = FOLIO_WEAR_VAL.retired then some (bit blk.retired)
  else if f = FOLIO_WEAR_VAL.system then some (bit (systemBlock (s.rd FOLIO_WEAR_IDX.block)))
  else if f = FOLIO_QUIRE_ENTRY.entry then some (s.quire (s.rd FOLIO_QUIRE_IDX.quire)).word
  else none

/-- CRYPT (R225). -/
def State.readCrypt (s : State) (n : Nat) (f : Fld) : Option Nat :=
  let slot := s.rd CRYPT_SLOT_IDX.slot
  if f.off = CRYPT_SLOT_STAT.loaded.off then some (s.slotStat slot / 2 ^ f.lsb % 2 ^ f.width)
  else if f = CRYPT_SLOT_KCV.kcv then some (s.slotKcv slot)
  else if f = CRYPT_LOADED.count then some (s.crypto.keys.filter fun e => e.2.loaded).length
  else if f = CRYPT_RIGHTS_VAL.rights then
    some ((s.rights (s.rd CRYPT_RIGHTS_SEL.ld)).toNat / 2 ^ (32 * s.rd CRYPT_RIGHTS_SEL.word) % 2 ^ 32)
  else if f = CRYPT_TCACHE_STAT.dirty then some (s.crypto.tags.filter fun e => e.2.any (·.dirty)).length
  else if f = CRYPT_TCACHE_STAT.flushing then some 0
  else if f = CRYPT_RANGE_BASE.base_quire then some (s.range n).base
  else if f = CRYPT_RANGE_END.end_quire then some (s.range n).stop
  else if f = CRYPT_RANGE_CFG.enabled then some (bit (s.range n).enabled)
  else if f = CRYPT_RANGE_CFG.ld_mask then some (s.range n).mask.toNat
  else none

/-- The Gauge (R242). -/
def State.readGauge (s : State) (n : Nat) (f : Fld) : Option Nat :=
  if f = GAUGE_PAIR_STAT.over then some (bit (s.overBudget n))
  else if f = GAUGE_PAIR_STAT.demoted then some (bit (s.demoted (n / 8)))
  else if f = GAUGE_OVER_MAP.over then
    some (fromBits ((List.range 32).map fun i => decide (n * 32 + i < 208) && s.overBudget (n * 32 + i)))
  else none

/-- The lanes that the running jobs' source lines name (R244, R273). -/
def State.lanesBusy (s : State) : Nat :=
  ((s.chisel.jobs.filter (·.started)).flatMap fun j =>
    (List.range (min (linesFor j.srcBytes) 256)).map fun i => (s.placeOf (locOf j.src + 64 * i)).pc).dedup.length

/-- Chisel (R273, R274). -/
def State.readChisel (s : State) (n : Nat) (f : Fld) : Option Nat :=
  if f = CHISEL_STAT.jobs then some s.chisel.jobs.length
  else if f = CHISEL_STAT.lanes_busy then some s.lanesBusy
  else if f = CHISEL_RING_STAT.in_flight then some (s.ringJobs n).length
  else if f = CHISEL_RING_STAT.fence_wait then
    some (bit (((s.ringJobs n).find? fun j => !j.started).any fun j => s.fenceHolds j))
  else none

/-- Dovetail (R312, R313). -/
def State.readDove (s : State) (n : Nat) (f : Fld) : Option Nat :=
  let d := s.dove
  if f = DOVE_Q_OCC.entries then some d.queue.length
  else if f = DOVE_OSN_LO.osn then some (d.osnNext % 2 ^ 32)
  else if f = DOVE_OSN_HI.osn then some (d.osnNext / 2 ^ 32 % 2 ^ 32)
  else if f = DOVE_ACKED_LO.osn then some (d.acked % 2 ^ 32)
  else if f = DOVE_ACKED_HI.osn then some (d.acked / 2 ^ 32 % 2 ^ 32)
  else if f = DOVE_APPLIED_LO.osn then some (d.applied % 2 ^ 32)
  else if f = DOVE_APPLIED_HI.osn then some (d.applied / 2 ^ 32 % 2 ^ 32)
  else if f = DOVE_RANGE_MARKED.quires then some (s.marked n).length
  else none

/-- Ports (R356, R357). -/
def State.readPort (s : State) (p n : Nat) (f : Fld) : Option Nat :=
  let l := s.ld (masterOf p n)
  if f = PORT_BI_STAT.sf_occ then some (s.port p).filter.length
  else if f = PORT_LD_EVT_OCC.info then some l.info.length
  else if f = PORT_LD_EVT_OCC.warn then some l.warn.length
  else if f = PORT_LD_EVT_OCC.fail then some l.fail.length
  else if f = PORT_LD_EVT_OCC.fatal then some l.fatal.length
  else none

/-- The power domain on the clocked side of a crossing (R390, R422). -/
def xingDomain (x : Nat) : Option Nat :=
  if x < 64 then some x
  else if x < 74 then some (64 + (x - 64) / 2)
  else if x < 76 then some 69
  else if x < 78 then some 71
  else if x = 78 then some 72
  else if x = 80 then some 70
  else if x = 81 then some 73
  else none

/-- A domain is in Sleep or Deep Sleep (R438). -/
def State.asleep (s : State) (d : Nat) : Bool :=
  decide (s.rd (PWR_DOM_STAT.state.ix d) = 1 ∨ s.rd (PWR_DOM_STAT.state.ix d) = 2)

/-- SPLINE, CLK and PWR (R410, R436, R438): words cross the fabric within a step, so that no FIFO holds one between
steps. -/
def State.readFabric (s : State) (n : Nat) (f : Fld) : Option Nat :=
  let map (lo k : Nat) : Nat := fromBits ((List.range k).map fun i => s.asleep (lo + i))
  if f = SPLINE_XING_STAT.far_clock then some (bit (!(xingDomain n).any s.asleep))
  else if f = CLK_DOM_STAT.ho_ready then some (bit (s.on CLK_SRC_STAT.ho_ok))
  else if f = PWR_SLEEP_MAP0.asleep then some (map 0 32)
  else if f = PWR_SLEEP_MAP1.asleep then some (map 32 32)
  else if f = PWR_SLEEP_MAP2.asleep then some (map 64 11)
  else none

/-- The Time Base (R440): a read of TB_NOW_HI returns what the last read of TB_NOW_LO of the same attachment latched. -/
def State.readTb (s : State) (who : Accessor) (f : Fld) : Option Nat :=
  if f = TB_STAT.source then
    some (if s.clk.tbAsleep then (if s.rd (PWR_DOM_STAT.state.ix 74) = 4 then 3 else 2)
      else bit (s.on (CLK_DOM_STAT.src.ix 17)))
  else if f = TB_STAT.skew then some (bit (decide (s.clk.skewPs / psNs ≠ 0)))
  else if f = TB_NOW_LO.time then some (s.tb % 2 ^ 32)
  else if f = TB_NOW_HI.time then some (Sparse.get (fun _ => 0) s.clk.latch (Accessor.master who))
  else if f = TB_SKEW_NS.ns then some (min (s.clk.skewPs / psNs) (2 ^ 32 - 1))
  else none

/-- A page has an error pending (R536). -/
def State.pagePending (s : State) (p : Nat) : Bool :=
  pageExists p && (s.on (ERR_STAT.uc.on p) || s.on (ERR_STAT.fatal.on p) || s.on (ESC_STAT.running.on p))

/-- A word of a layer's identity block (R579). -/
def State.identOf (s : State) (pos word : Nat) : Nat :=
  if (s.sb.ident.any fun e => decide (e.1 / 8 = pos)) then Sparse.get (fun _ => 0) s.sb.ident (pos * 8 + word)
  else if s.rd SYS_START_STAT.stage < 6 ∨ 17 < pos then 0
  else match word with
    | 0 => 0x4C524C49
    | 1 => (if pos < 16 then 1 else 2) + pos * 2 ^ 8 + s.rd SYS_ID.stepping * 2 ^ 16
    | _ => Config.identWord pos word % 2 ^ 32

/-- An OTP row as OTP_READ shows it: the rows of SEED read 0 (R559, R564). -/
def State.otpShown (s : State) (row : Nat) : Nat := if (276 ≤ row ∧ row ≤ 283) ∨ 543 < row then 0 else s.otpRow row

/-- ERRPIN, BIST, OTP and SB (R536, R562, R564, R581). -/
def State.readService (s : State) (n : Nat) (f : Fld) : Option Nat :=
  let held := s.bist.held[n]?
  let res := Sparse.get (fun _ => (0, 0, false)) s.bist.results n
  let row := s.rd OTP_READ_IDX.row
  if f = ERRPIN_PEND_MAP.pages then some (fromBits ((List.range 32).map fun i => s.pagePending (n * 32 + i)))
  else if f = BIST_FAIL.test then some ((held.map (·.2.1)).getD 0)
  else if f = BIST_FAIL.page then some ((held.map (·.1)).getD 0)
  else if f = BIST_FAIL.unit then some ((held.map (·.2.2)).getD 0)
  else if f = BIST_FAIL.valid then some (bit held.isSome)
  else if f = BIST_RESULT.code then some res.1
  else if f = BIST_RESULT.errors then some res.2.1
  else if f = BIST_RESULT.abandoned then some (bit res.2.2)
  else if f = OTP_SPARES.used then some s.otp.spared.length
  else if f = OTP_SPARES.unlinked then some s.otp.unlinked.length
  else if f = OTP_READ_LO.data then some (s.otpShown row % 2 ^ 32)
  else if f = OTP_READ_HI.data then some (s.otpShown row / 2 ^ 32)
  else if f = OTP_READ_HI.differs then some (bit (decide (row ∈ s.otp.differs)))
  else if f = SB_SESSIONS.open then some s.openSessions
  else if f = SB_LAYER_ID.data then some (s.identOf n (s.rd SB_LAYER_SEL.word))
  else if f = SB_LAYER_STAT.valid then
    some (bit (decide (6 ≤ s.rd SYS_START_STAT.stage ∧ n ≤ 17 ∧ n ∉ s.sb.identBad)))
  else none

/-- A field that follows from the state beside the registers. -/
def State.derived (s : State) (who : Accessor) (page n : Nat) (f : Fld) : Option Nat :=
  if f.off < 0x100 then s.readHeader page f else
  match canonPage page with
  | 0x01 => s.readTb who f
  | 0x02 => s.readFabric n f
  | 0x03 => s.readFabric n f
  | 0x05 => s.readService n f
  | 0x06 => s.readService n f
  | 0x07 => s.readService n f
  | 0x08 => s.readService n f
  | 0x09 => s.readFabric n f
  | 0x10 => s.readPort (page - 0x10) n f
  | 0x14 => s.readDove n f
  | 0x18 => s.readGauge n f
  | 0x19 => s.readCrypt n f
  | 0x1A => s.readKerf n f
  | 0x1B => s.readFolio f
  | 0x1D => s.readChisel n f
  | 0x1E => s.readRepair f
  | 0x1F => s.readRepair f
  | 0x40 => s.readPc (page - 0x40) n f
  | _ => none

/-- What a field of a row reads: a write-only field reads 0, a register of an absent layer's page its reset value (R33), and the enable of clock_loss reads 1 (R7, R437). -/
def State.readField (s : State) (who : Accessor) (g : Reg) (r : Row) : Nat :=
  let f := (r.f.on g.page).ix g.copy
  let v := if r.ty = .wo then 0
    else if s.layerAbsent g.page && decide (0x100 ≤ r.f.off) then Fld.resetVal f.key
    else (s.derived who g.page g.copy r.f).getD (s.rd f)
  let v := if r.f = INT_EN.enables ∧ g.page = 0x02 then v ||| 2 else v
  v % 2 ^ r.f.width

/-- A register reads its fields, each at its place, and 0 elsewhere (R6). A page whose block is absent reads 0 but in
PAGE_ID (R3), and so does a reserved page (R15). -/
def State.readReg (s : State) (who : Accessor) (page off : Nat) : Nat :=
  let g := s.reg page off
  if !pageExists page || (!s.present page && off != 0) then 0
  else (g.rows.map fun r => s.readField who g r * 2 ^ r.f.lsb).sum % 2 ^ 32

/-! ## What a write takes -/

/-- The fields whose writes take effect only in FACTORY_TEST (R86, R410, R436, R505). -/
def factoryOnly : List Fld := [PC_RFM_CTL.rfm_en, SPLINE_CTL.retry_en, CLK_CTL.mon_en, THERM_CTL.throttle_en]

/-- The fields whose writes take effect only in FACTORY_TEST and FIELD_SERVICE (R118, R480, R481, R505). -/
def serviceOnly : List Fld := [SCRUB_CTL.scrub_en, PC_CAL_CTL.cal_en, PHY_CAL_CTL.cal_en, THERM_CTL.xcheck_en]

/-- The fields of which a written 0 is taken as 1 (R86, R163, R438). -/
def neverZero : List Fld := [PC_SR_CTL.sr_idle_us, FOLIO_CKPT_LIMIT.quires, PWR_DOM_CTL.sleep_idle]

/-- The greatest value a selector takes: a write above it is ignored (R242, R410, R436, R438, R480, R505). PC_LANE_SEL is
not among them: what a write of 72 to 127 does is not said, and the model stores it (DESIGN CHOICE, assumption 17). -/
def selectorTop : List (Fld × Nat) :=
  [(GAUGE_PAIR_IDX.pair, 207), (SPLINE_XING_SEL.index, 82), (CLK_DOM_SEL.domain, 17), (PWR_DOM_SEL.domain, 74),
   (PC_CAL_LANE_SEL.via, 95), (THERM_SENS_SEL.sensor, 83)]

/-- TB_RATE_TRIM.ppm clamped to −3,000 to +3,000, in two's complement (R440). -/
def clampTrim (v : Nat) : Nat := if v < 0x8000 then min v 3000 else max v (0x10000 - 3000)

/-- The value that a field takes from a write, or none where the field's own rule ignores the write. -/
def State.fieldValue (s : State) (g : Reg) (r : Row) (v : Nat) : Option Nat :=
  let cur (f : Fld) : Nat := s.rd ((f.on g.page).ix g.copy)
  let unless_ (b : Bool) : Option Nat := if b then none else some v
  let f := r.f
  if f ∈ factoryOnly then (if s.lifeCycle = 1 then some v else none)
  else if f ∈ serviceOnly then (if s.lifeCycle = 1 ∨ s.lifeCycle = 3 then some v else none)
  else if f ∈ neverZero then some (max 1 v)
  else if f = KERF_START.start_quire ∨ f = KERF_END.end_quire then
    unless_ (s.kerfActive g.copy || !(decide (g.copy = 0) || decide (g.copy = 2)))
  else if f = KERF_ARG.from_slot ∨ f = KERF_ARG.to_slot then unless_ (s.kerfActive g.copy || decide (g.copy ≠ 2))
  else if f = PC_WQ_CTL.wq_high then some (clampTo 1 48 v)
  else if f = PC_WQ_CTL.wq_low then some (min v (cur PC_WQ_CTL.wq_high - 1))
  else if f = SCRUB_CTL.batch_kib then some (clampTo 64 16384 v / 64 * 64)
  else if f = BANK_CTL.target then some (min (clampTo 48 116 v) (s.targetTop / 500))
  else if f = BANK_LEVEL_CTL.demote_pct then some (clampTo (cur BANK_LEVEL_CTL.trickle_pct + 1) 99 v)
  else if f = TB_RATE_TRIM.ppm then some (clampTrim v)
  else if f = PORT_CTL.rate_cap then some (if v = 3 then 0 else v)
  else if f = DOVE_RANGE_BASE.base_quire ∨ f = DOVE_RANGE_END.end_quire then
    unless_ (decide (cur DOVE_RANGE_STAT.state ≠ 0))
  else if f = CHISEL_RING_BASE_LO.base ∨ f = CHISEL_RING_BASE_HI.base then unless_ (cur CHISEL_RING_CTL.enable == 1)
  else match selectorTop.find? fun e => decide (e.1 = f) with
    | some e => unless_ (decide (e.2 < v))
    | none => some (match r.clamp with
      | some c => clampTo c.1 c.2 v
      | none => v)

/-- A field takes its part of a written word, by its type (R7). `locked` is the LOCK.lock of the page. -/
def State.writeField (s : State) (locked : Bool) (g : Reg) (r : Row) (w : Nat) : State :=
  let f := (r.f.on g.page).ix g.copy
  let v := w / 2 ^ r.f.lsb % 2 ^ r.f.width
  let set (s : State) : State :=
    match s.fieldValue g r v with
    | some x => s.wr f x
    | none => s
  match r.ty with
  | .ro => s
  | .wo => s
  | .rw1c => s.wr f (s.rd f &&& ((2 ^ r.f.width - 1) ^^^ v))
  | .rwl => if locked then s else set s
  | .rw => set s

/-- A write to a staged register of the Gauge is noted for the next window start (R239). -/
def State.noteStaged (s : State) (off n : Nat) : State :=
  if off = GAUGE_WINDOW.window_us.off then s.put GAUGE_STAT.staged
  else if off = GAUGE_PAIR_CFG.map_class.off ∨ off = GAUGE_PAIR_BUDGET.lines.off ∨ off = GAUGE_PAIR_GUAR.lines.off then
    ({ s with gauge := { s.gauge with stagedPairs := (n :: s.gauge.stagedPairs).dedup } } : State).put GAUGE_STAT.staged
  else s

/-- What follows a write of a register that is no command: `t` was the state before it. -/
def State.afterWrite (s t : State) (page off n : Nat) : State :=
  if off = 0x014 then (if !t.intErr page && s.intErr page then s.intOut page 0 else s)
  else if off < 0x100 then s
  else match page with
    | 0x03 => if off = 0x100 ∧ t.on PWR_CTL.idle_en then s.rewired page else s
    | 0x04 => s.rewired page
    | 0x08 => s.rewired page
    | 0x14 => if off = 0x100 ∧ s.on DOVE_CTL.dove_en ≠ t.on DOVE_CTL.dove_en then s.rewired page else s
    | 0x18 => ((if off = 0x100 then s.latchOver t else s).noteStaged off n).rewired page
    | 0x1B =>
      if off ≠ 0x100 then s else
      let s := if s.on FOLIO_CTL.persist_en ≠ t.on FOLIO_CTL.persist_en then s.rewired page else s
      if t.on FOLIO_CTL.key_retain && !s.on FOLIO_CTL.key_retain then s.writeKeyRecord s.keyTables [] else s
    | 0x1C => s.rewired page
    | _ =>
      if 0x40 ≤ page then
        let pc := page - 0x40
        if off = 0x300 then s.rewired page
        else if off = 0x140 ∧ !t.on (PC_SR_CTL.sr_en.pc pc) ∧ s.on (PC_SR_CTL.sr_en.pc pc) then
          s.setPc pc { s.pc pc with idleSince := s.now }
        else s
      else if 0x10 ≤ page ∧ page < 0x14 then
        let p := page - 0x10
        if off = 0x104 ∧ t.on (PORT_CTL.port_en.port p) ∧ !s.on (PORT_CTL.port_en.port p) then s.takeReset p 4 false
        else if off = 0x600 then s.fixCal (if s.on PHY_GRP_SEL.dove ∧ p = 0 then 68 else 64 + p)
        else s.rewired page
      else s

/-- A register of fields takes a word (R7). -/
def State.plainWrite (s : State) (page off : Nat) (w : Nat) : State :=
  let g := s.reg page off
  let locked := s.on (LOCK.lock.on page)
  (s.forAll g.rows fun s r => s.writeField locked g r w).afterWrite s page off g.copy

/-! ## Registers that command -/

/-- What the arbiter or the world decides where a register write, and no row of its own, gives a command (R13). -/
def State.coin (s : State) : Bool := decide (Config.pick s.free 2 % 2 = 1)

/-- The commands that a word written to a register gives, with their operands read from the word. -/
def State.regActs (s : State) (who : Accessor) (page off : Nat) (w : Word) : List (State → Result) :=
  let v := w.toNat
  let b (i : Nat) (f : State → Result) : List (State → Result) := if bitOf v i then [f] else []
  let key : BitVec 16 := w.extractLsb' 16 16
  let pg : Page := Fin.ofNat 128 page
  let pc : PcNo := Fin.ofNat 64 page
  let g := s.reg page off
  let range : RangeNo := Fin.ofNat 16 (v / 2 ^ 8)
  let port : GroupNo := if s.on PHY_GRP_SEL.dove ∧ page = 0x10 then 4 else Fin.ofNat 5 (page - 0x10)
  let slot : KerfNo := Fin.ofNat 5 g.copy
  let ring : RingNo := Fin.ofNat 16 g.copy
  let first := (copyOf (canonPage page) off).1
  match off with
  | 0x008 => b 4 (execSoftReset who pg)
  | 0x044 => b 0 fun s => execEscAck who pg s.coin s.drawn
  | 0x058 => [execIntSet who pg w]
  | _ =>
  match canonPage page, first with
  | 0x00, 0x110 => [execSysLcCmd who (Fin.ofNat 8 v) key]
  | 0x00, 0x12C => b 0 (execSysRstDevice who key) ++ b 1 (execSysRstCarrierIo who key) ++ b 2 (execSysRstMgmt who key) ++
      b 3 (execSysRstShutdown who key)
  | 0x02, 0x11C => [execClkDomSwitch who (bitOf v 0)]
  | 0x05, 0x12C =>
      b 0 (fun s => execOtpProgram who key s.coin s.drawn) ++
      b 1 (fun s => execOtpRepair who key s.coin s.drawn.coin s.drawn.drawn) ++
      b 2 (execOtpLock who key (Fin.ofNat 8 (v / 2 ^ 8)) (bitOf v 3)) ++ b 4 (execOtpGenSeed who key)
  | 0x06, 0x120 => b 0 (execBistRun who key) ++ b 1 (fun s => execBistAbort who key s.coin s.drawn) ++
      b 2 (execBistRelease who key)
  | 0x07, 0x104 => b 0 (execRelease who) ++ b 1 (execTest who) ++ b 2 (execSafe who key)
  | 0x10, 0x604 => b 0 (execPhyCalRun who port) ++ b 1 (execPhyCalAbort who port)
  | 0x14, 0x104 => b 0 (execDoveCmdJoin who) ++ b 1 (execDoveCmdLeave who) ++ b 2 (execDoveCmdConfig who range) ++
      b 3 (execDoveCmdUnconfig who range) ++ b 4 (execDoveCmdPromote who range (bitOf v 12)) ++
      b 5 (execDoveCmdDemote who range (bitOf v 12)) ++ b 6 (execDoveCmdAccept who)
  | 0x19, 0x104 => b 0 (execCarveActivate who (bitOf v 1)) ++ (if bitOf v 0 then [] else b 1 (execCarveDeactivate who))
  | 0x19, 0x124 => b 0 (execTcacheFlush who)
  | 0x1A, 0x200 => b 0 (execKerfStart who slot) ++ b 1 (execKerfAbort who slot) ++ b 2 (execKerfResume who slot)
  | 0x1B, 0x104 => b 0 (execCkpt who) ++ b 1 (execCkptLimited who) ++ b 2 (execCkptCancel who)
  | 0x1C, 0x108 => b 0 (fun s => execMeasure who (s.rd BANK_VBANK.mv) s) ++
      b 1 (fun s => execEepromReread who s.bank.eeprom s)
  | 0x1D, 0x208 => [execChiselRingEnable who ring w]
  | 0x1D, 0x20C => [execChiselRingTail who ring w]
  | 0x1D, 0x218 => [fun s => execChiselRingAbort who ring w s.coin s.drawn]
  | 0x1F, 0x120 => b 0 (execTipinReqRepair who)
  | 0x40, 0x120 => [execPostponeMaxWrite who pc w]
  | 0x40, 0x140 => b 1 (execSrNow who pc)
  | 0x40, 0x230 => [execLaneErasureClear who pc w]
  | 0x40, 0x304 => b 0 (execCalRun who pc) ++ b 1 (execCalAbort who pc)
  | _, _ => []

/-- The registers that their command writes whole, so that no field is written beside it. -/
def commandOnly (cp first : Nat) : Bool :=
  (cp == 0x02 && first == 0x11C) || (cp == 0x40 && first == 0x120) ||
  (cp == 0x1D && (first == 0x208 || first == 0x20C))

/-- A word reaches a register: its fields take it, and what it commands is done. The registers of an absent layer's page
take none (R33). -/
def State.writeReg (s : State) (who : Accessor) (page off : Nat) (w : Word) : State :=
  if s.layerAbsent page && decide (0x100 ≤ off) then s else
  let s := if commandOnly (canonPage page) (copyOf (canonPage page) off).1 then s else s.plainWrite page off w.toNat
  s.forAll (s.regActs who page off w) fun s a => s.after (a s)

/-! ## The commands -/

/-- An offset of the ring registers of an accessor's own ring (R274, R321). -/
def ownRing (who : Accessor) (off : Nat) : Bool :=
  match who with
  | .fn port ld => decide (0x1D200 + masterOf port ld * 0x20 ≤ off ∧ off < 0x1D200 + masterOf port ld * 0x20 + 0x20)
  | .sideband => false

/-- An accessor may read an offset (R321). -/
def State.mayRead (s : State) (who : Accessor) (off : Nat) : Bool :=
  s.mayAdmin who || ownRing who off || decide (off < 0x100) ||
  (match who with
  | .fn port _ => decide (off / 4096 = 0x10 + port.val)
  | .sideband => false)

/-- An access that breaks R5: counted, and logged as a corrected error in the SYS page. -/
def State.badAccess (s : State) (who : Accessor) (off : Nat) : State :=
  ((s.bump SYS_BAD_ACCESS.count).cause 0x00 6).log
    { page := 0, code := 0x1001, addr := off, access := 6, master := (Accessor.master who), tied := none }

/-- The registers answer: not in Off, nor in Hold (R451, R456). -/
def State.regsOpen (s : State) : Bool := decide (s.sys.phase ≠ .off) && decide (s.sys.phase ≠ .hold)

/-- Safe State takes a write of this offset (R519). -/
def openInSafe (off : Nat) : Bool :=
  decide (off / 4096 = 0x00 ∨ off / 4096 = 0x07 ∨ off % 4096 = 0x044 ∨ off % 4096 = 0x010 ∨ off % 4096 = 0x03C)

/-- A write of a register of the window (R3, R5, R7, R321, R519). -/
def State.writeAccess (s : State) (who : Accessor) (off : Nat) (w : Word) : State :=
  let page := off / 4096
  if off % 4 ≠ 0 then s.badAccess who off
  else if 0x80000 ≤ off then s
  else if !(s.mayAdmin who || ownRing who off) then s.deny who off
  else if !pageExists page || !s.present page || (s.safe && !openInSafe off) then s
  else (s.wakePage page).writeReg who page (off % 4096) w

/-- A read of a register of the window: its value, and the state after it. A read of TB_NOW_LO latches the high half
(R440). -/
def State.readAccess (s : State) (who : Accessor) (off : Nat) : Nat × State :=
  let page := off / 4096
  if off % 4 ≠ 0 then (0xFFFFFFFF, s.badAccess who off)
  else if !s.mayRead who off then (0, s.deny who off)
  else
    let s := if pageExists page && s.present page then s.wakePage page else s
    let s := if off = 0x1108 then
        { s with clk := { s.clk with latch := Sparse.set (fun _ => 0) s.clk.latch (Accessor.master who) (s.tb / 2 ^ 32 % 2 ^ 32) } }
      else s
    (s.readReg who page (off % 4096), s)

/-- REGISTER_WRITE (R5, R7). -/
def execRegisterWrite (who : Accessor) (off size : Nat) (val : Word) (s : State) : Result :=
  .next (if !s.regsOpen then s else if size ≠ 4 then s.badAccess who off else s.writeAccess who off val)

/-- TB_NOW_LO_READ (R440). -/
def execTbNowLoRead (who : Accessor) (s : State) : Result :=
  .next (if !s.regsOpen then s else
    let r := s.readAccess who 0x1108
    r.2.emit (.regData r.1))

/-- REGISTER_READ_REFUSED (R5, R321): an access that neither rule refuses is no such read. -/
def execRegisterReadRefused (who : Accessor) (off size : Nat) (s : State) : Result :=
  .next (
    if !s.regsOpen then s
    else if size ≠ 4 ∨ off % 4 ≠ 0 then (s.badAccess who off).emit (.regData 0xFFFFFFFF)
    else if !s.mayRead who off then (s.deny who off).emit (.regData 0)
    else s)

def State.mbReadRegister (p l : Nat) (who : Accessor) (off : Nat) (s : State) : Answer :=
  s.adminOnly p l 0xC404 fun s =>
    if 0x80000 ≤ off then (rcInvalid, [], s) else
    let r := s.readAccess who off
    (rcSuccess, [r.1], r.2)

/-- READ_REGISTER (R349). -/
def execReadRegister (port : PortNo) (ld : LdNo) (off : BitVec 32) (s : State) : Result :=
  s.mailbox (.readRegister port ld off) port ld false (State.mbReadRegister port ld (.fn port ld) off.toNat)

def State.mbWriteRegister (p l : Nat) (who : Accessor) (off : Nat) (val : Word) (s : State) : Answer :=
  s.adminOnly p l 0xC405 fun s =>
    if 0x80000 ≤ off then (rcInvalid, [], s) else (rcSuccess, [], s.writeAccess who off val)

/-- WRITE_REGISTER (R349). -/
def execWriteRegister (port : PortNo) (ld : LdNo) (off : BitVec 32) (val : Word) (s : State) : Result :=
  s.mailbox (.writeRegister port ld off val) port ld false (State.mbWriteRegister port ld (.fn port ld) off.toNat val)

def State.mbGetPersistence (who : Accessor) (s : State) : Answer :=
  let word (f : Fld) : Nat := s.readReg who f.page f.off
  (rcSuccess, [word FOLIO_STAT.persist, word FOLIO_DIRTY.count, word FOLIO_BUDGET.quires, word BANK_STAT.presence,
    word BANK_ENERGY.mj, word FOLIO_BSN_LO.bsn + word FOLIO_BSN_HI.bsn * 2 ^ 32], s)

/-- GET_PERSISTENCE_STATUS (R349). -/
def execGetPersistenceStatus (port : PortNo) (ld : LdNo) (s : State) : Result :=
  s.mailbox (.getPersistenceStatus port ld) port ld false (State.mbGetPersistence (.fn port ld))

def State.mbGetCapture (p l : Nat) (who : Accessor) (page : Nat) (s : State) : Answer :=
  s.adminOnly p l 0xC403 fun s =>
    if !pageExists page || !s.present page then (rcInvalid, [], s)
    else (rcSuccess, (List.range 15).map fun i => s.readReg who page (0x10 + 4 * i), s)

/-- GET_ERROR_CAPTURE (R349): the words at 0x010 to 0x048 of a page. -/
def execGetErrorCapture (port : PortNo) (ld : LdNo) (page : Page) (s : State) : Result :=
  s.mailbox (.getErrorCapture port ld page) port ld false (State.mbGetCapture port ld (.fn port ld) page)

end Sys2Proof.Machine
end

