-- ==== Sys2Proof/Machine/Mgmt.lean ====
section
/-!
DEFINITION. The management core serves again (R453): the doorbells that were rung while it did not run.
-/

namespace Sys2Proof.Machine

/-- A mailbox command that waited is served (R453): the commands that a doorbell may leave waiting are those of the
mailbox. -/
def serveMailbox (c : Instr) (s : State) : State :=
  match c with
  | .getEventRecords port ld log => s.after (execGetEventRecords port ld log s)
  | .clearEventRecords port ld log all handles => s.after (execClearEventRecords port ld log all handles s)
  | .getEventInterruptPolicy port ld => s.after (execGetEventInterruptPolicy port ld s)
  | .setEventInterruptPolicy port ld info warn fail fatal => s.after (execSetEventInterruptPolicy port ld info warn fail fatal s)
  | .getFwInfo port ld => s.after (execGetFwInfo port ld s)
  | .transferFw port ld action offset version secver sigOk => s.after (execTransferFw port ld action offset version secver sigOk s)
  | .activateFw port ld => s.after (execActivateFw port ld s)
  | .getTimestamp port ld => s.after (execGetTimestamp port ld s)
  | .setTimestamp port ld ns => s.after (execSetTimestamp port ld ns s)
  | .getSupportedLogs port ld => s.after (execGetSupportedLogs port ld s)
  | .getLog port ld vendor => s.after (execGetLog port ld vendor s)
  | .getSupportedFeatures port ld => s.after (execGetSupportedFeatures port ld s)
  | .performMaintenance port ld cls dpa => s.after (execPerformMaintenance port ld cls dpa s)
  | .identifyMemoryDevice port ld => s.after (execIdentifyMemoryDevice port ld s)
  | .getPartitionInfo port ld => s.after (execGetPartitionInfo port ld s)
  | .getHealthInfo port ld => s.after (execGetHealthInfo port ld s)
  | .getAlertConfig port ld => s.after (execGetAlertConfig port ld s)
  | .setAlertConfig port ld life temp => s.after (execSetAlertConfig port ld life temp s)
  | .getShutdownState port ld => s.after (execGetShutdownState port ld s)
  | .setShutdownState port ld clean => s.after (execSetShutdownState port ld clean s)
  | .getPoisonList port ld dpa len => s.after (execGetPoisonList port ld dpa len s)
  | .injectPoison port ld dpa => s.after (execInjectPoison port ld dpa s)
  | .clearPoison port ld dpa data => s.after (execClearPoison port ld dpa data s)
  | .getScanMediaCapabilities port ld dpa len => s.after (execGetScanMediaCapabilities port ld dpa len s)
  | .scanMedia port ld dpa len => s.after (execScanMedia port ld dpa len s)
  | .getScanMediaResults port ld => s.after (execGetScanMediaResults port ld s)
  | .sanitize port ld => s.after (execSanitize port ld s)
  | .secureErase port ld => s.after (execSecureErase port ld s)
  | .mediaOperations port ld op dpa len => s.after (execMediaOperations port ld op dpa len s)
  | .getLocationMap port ld => s.after (execGetLocationMap port ld s)
  | .orderCheckpoint port ld limited => s.after (execOrderCheckpoint port ld limited s)
  | .setLdAllocation port ld toPort toLd range base stop => s.after (execSetLdAllocation port ld toPort toLd range base stop s)
  | .mailboxUnsupported port ld opcode => s.after (execMailboxUnsupported port ld opcode s)
  | .readRegister port ld off => s.after (execReadRegister port ld off s)
  | .writeRegister port ld off val => s.after (execWriteRegister port ld off val s)
  | .getPersistenceStatus port ld => s.after (execGetPersistenceStatus port ld s)
  | .getErrorCapture port ld page => s.after (execGetErrorCapture port ld page s)
  | .getLdAllocations port => s.after (execGetLdAllocations port s)
  | .setLdAllocations port => s.after (execSetLdAllocations port s)
  | _ => s

/-- MGMT_CORE_READY (R453): the mailboxes report ready, and each doorbell is served in turn. -/
def execMgmtCoreReady (s : State) : Result :=
  .next (
    if s.sys.mgmtDown.isNone then s else
    let waiting := s.mbox.waiting
    let s := ({ s with mbox := { s.mbox with waiting := [] } } : State).coreReady
    s.forAll waiting fun s c => serveMailbox c s)

end Sys2Proof.Machine
end

