-- ==== Sys2Proof/Machine/Dispatch.lean ====
section
/-!
DEFINITION. The dispatch: one arm for each command, each a direct call of the meaning of that command.
-/

namespace Sys2Proof.Machine

/-- The effect of a command on everything but the queue. -/
def exec (i : Instr) (s : State) : Host.Outcome State Fault Refusal :=
  match i with
  | .registerWrite who off size val => Sys2Proof.Machine.execRegisterWrite who off size val s
  | .tbNowLoRead who => Sys2Proof.Machine.execTbNowLoRead who s
  | .softReset who page => Sys2Proof.Machine.execSoftReset who page s
  | .softResetProceed page => Sys2Proof.Machine.execSoftResetProceed page s
  | .quiescenceTimeout page gate => Sys2Proof.Machine.execQuiescenceTimeout page gate s
  | .intSet who page bits => Sys2Proof.Machine.execIntSet who page bits s
  | .feValidClear who page => Sys2Proof.Machine.execFeValidClear who page s
  | .escAck who page expiryFirst => Sys2Proof.Machine.execEscAck who page expiryFirst s
  | .escTimerExpiry page => Sys2Proof.Machine.execEscTimerExpiry page s
  | .hostRead port ld req cache => Sys2Proof.Machine.execHostRead port ld req cache s
  | .hostWrite port ld req data mask poison => Sys2Proof.Machine.execHostWrite port ld req data mask poison s
  | .pcRequestArrival pc master => Sys2Proof.Machine.execPcRequestArrival pc master s
  | .writeHoldRelease => Sys2Proof.Machine.execWriteHoldRelease s
  | .inputAdmit pc => Sys2Proof.Machine.execInputAdmit pc s
  | .activateIssue pc => Sys2Proof.Machine.execActivateIssue pc s
  | .columnCommandIssue pc => Sys2Proof.Machine.execColumnCommandIssue pc s
  | .readBurstComplete pc errs tag decAgree cryptoAgree => Sys2Proof.Machine.execReadBurstComplete pc errs tag decAgree cryptoAgree s
  | .writeBurstIssue pc errs tag agree encFails cryptoFails => Sys2Proof.Machine.execWriteBurstIssue pc errs tag agree encFails cryptoFails s
  | .agePromotion pc => Sys2Proof.Machine.execAgePromotion pc s
  | .refreshDue pc bank => Sys2Proof.Machine.execRefreshDue pc bank s
  | .forcedRefreshIssue pc bank => Sys2Proof.Machine.execForcedRefreshIssue pc bank s
  | .refreshIssue pc bank => Sys2Proof.Machine.execRefreshIssue pc bank s
  | .targetedRefreshIssue pc bank => Sys2Proof.Machine.execTargetedRefreshIssue pc bank s
  | .postponeMaxWrite who pc val => Sys2Proof.Machine.execPostponeMaxWrite who pc val s
  | .windowLengthen layer => Sys2Proof.Machine.execWindowLengthen layer s
  | .srIdleExpiry pc => Sys2Proof.Machine.execSrIdleExpiry pc s
  | .srNow who pc => Sys2Proof.Machine.execSrNow who pc s
  | .sreIssue pc => Sys2Proof.Machine.execSreIssue pc s
  | .srxIssue pc => Sys2Proof.Machine.execSrxIssue pc s
  | .laneErasureClear who pc val => Sys2Proof.Machine.execLaneErasureClear who pc val s
  | .correctedWriteback pc => Sys2Proof.Machine.execCorrectedWriteback pc s
  | .scrubRead pc errs decAgree => Sys2Proof.Machine.execScrubRead pc errs decAgree s
  | .scrubBatchWake pc => Sys2Proof.Machine.execScrubBatchWake pc s
  | .scrubBehind pc => Sys2Proof.Machine.execScrubBehind pc s
  | .scrubOverdue pc => Sys2Proof.Machine.execScrubOverdue pc s
  | .scrubSelfCheck pc badSlots spareFail wrong => Sys2Proof.Machine.execScrubSelfCheck pc badSlots spareFail wrong s
  | .rowRepair pc bank row faults => Sys2Proof.Machine.execRowRepair pc bank row faults s
  | .tipinReqRepair who => Sys2Proof.Machine.execTipinReqRepair who s
  | .tipinRecordAppend => Sys2Proof.Machine.execTipinRecordAppend s
  | .tipinRecordCommit ok => Sys2Proof.Machine.execTipinRecordCommit ok s
  | .tipinTableSweep corrected uncorrectable => Sys2Proof.Machine.execTipinTableSweep corrected uncorrectable s
  | .tipinEntryReloaded entry => Sys2Proof.Machine.execTipinEntryReloaded entry s
  | .migrateStart => Sys2Proof.Machine.execMigrateStart s
  | .migrateRow errs decAgree => Sys2Proof.Machine.execMigrateRow errs decAgree s
  | .migrateDone => Sys2Proof.Machine.execMigrateDone s
  | .recoveryWaitExpiry loc => Sys2Proof.Machine.execRecoveryWaitExpiry loc s
  | .kerfStart who slot => Sys2Proof.Machine.execKerfStart who slot s
  | .kerfAbort who slot => Sys2Proof.Machine.execKerfAbort who slot s
  | .kerfResume who slot => Sys2Proof.Machine.execKerfResume who slot s
  | .clearStroke => Sys2Proof.Machine.execClearStroke s
  | .liftQuire fails => Sys2Proof.Machine.execLiftQuire fails s
  | .rekeyStroke faults rest => Sys2Proof.Machine.execRekeyStroke faults rest s
  | .kerfDone slot => Sys2Proof.Machine.execKerfDone slot s
  | .kerfLineTimeout slot loc => Sys2Proof.Machine.execKerfLineTimeout slot loc s
  | .ckpt who => Sys2Proof.Machine.execCkpt who s
  | .ckptLimited who => Sys2Proof.Machine.execCkptLimited who s
  | .ckptCancel who => Sys2Proof.Machine.execCkptCancel who s
  | .checkpointStart => Sys2Proof.Machine.execCheckpointStart s
  | .slotReadBack bad => Sys2Proof.Machine.execSlotReadBack bad s
  | .checkpointCommit p0 p1 => Sys2Proof.Machine.execCheckpointCommit p0 p1 s
  | .blockErase block ok => Sys2Proof.Machine.execBlockErase block ok s
  | .persistenceFailed voidOk => Sys2Proof.Machine.execPersistenceFailed voidOk s
  | .keyRetainClear who => Sys2Proof.Machine.execKeyRetainClear who s
  | .keyRecordCommit ok => Sys2Proof.Machine.execKeyRecordCommit ok s
  | .gpfPhase1 port ld tag => Sys2Proof.Machine.execGpfPhase1 port ld tag s
  | .gpfPhase2 port ld tag => Sys2Proof.Machine.execGpfPhase2 port ld tag s
  | .powerFailDeclare byVin byPfail => Sys2Proof.Machine.execPowerFailDeclare byVin byPfail s
  | .bindStart => Sys2Proof.Machine.execBindStart s
  | .bindCommit p0 p1 vinMv => Sys2Proof.Machine.execBindCommit p0 p1 vinMv s
  | .vinBelowThreshold => Sys2Proof.Machine.execVinBelowThreshold s
  | .vinRecovered => Sys2Proof.Machine.execVinRecovered s
  | .pfailNLow => Sys2Proof.Machine.execPfailNLow s
  | .bankHousekeepingRound vbankMv charge vinMv => Sys2Proof.Machine.execBankHousekeepingRound vbankMv charge vinMv s
  | .measure who v0Mv => Sys2Proof.Machine.execMeasure who v0Mv s
  | .measurePeriodExpiry v0Mv => Sys2Proof.Machine.execMeasurePeriodExpiry v0Mv s
  | .measureSample second v => Sys2Proof.Machine.execMeasureSample second v s
  | .measureEnd v3 => Sys2Proof.Machine.execMeasureEnd v3 s
  | .measureRetry v0Mv => Sys2Proof.Machine.execMeasureRetry v0Mv s
  | .eepromReread who data => Sys2Proof.Machine.execEepromReread who data s
  | .eepromRecordWrite => Sys2Proof.Machine.execEepromRecordWrite s
  | .eepromWriteCycleDone verified => Sys2Proof.Machine.execEepromWriteCycleDone verified s
  | .bankBusRetry data => Sys2Proof.Machine.execBankBusRetry data s
  | .bankBusStuck stillLow => Sys2Proof.Machine.execBankBusStuck stillLow s
  | .loadKey session load => Sys2Proof.Machine.execLoadKey session load s
  | .unloadKey session slot => Sys2Proof.Machine.execUnloadKey session slot s
  | .setRights session ld bitmap => Sys2Proof.Machine.execSetRights session ld bitmap s
  | .setRange session index enable mask base stop => Sys2Proof.Machine.execSetRange session index enable mask base stop s
  | .querySlot session slot => Sys2Proof.Machine.execQuerySlot session slot s
  | .keyCmdUnknown session opcode => Sys2Proof.Machine.execKeyCmdUnknown session opcode s
  | .keyTableSweep corrected uncorrectable => Sys2Proof.Machine.execKeyTableSweep corrected uncorrectable s
  | .carveActivate who both => Sys2Proof.Machine.execCarveActivate who both s
  | .carveDeactivate who => Sys2Proof.Machine.execCarveDeactivate who s
  | .tcacheFlush who => Sys2Proof.Machine.execTcacheFlush who s
  | .gaugeWindowStart => Sys2Proof.Machine.execGaugeWindowStart s
  | .gaugeTableSweep corrected uncorrectable => Sys2Proof.Machine.execGaugeTableSweep corrected uncorrectable s
  | .chiselRingTail who ring val => Sys2Proof.Machine.execChiselRingTail who ring val s
  | .descriptorFetch ring => Sys2Proof.Machine.execDescriptorFetch ring s
  | .jobStart ring => Sys2Proof.Machine.execJobStart ring s
  | .jobComplete ring agree lane => Sys2Proof.Machine.execJobComplete ring agree lane s
  | .msixSend => Sys2Proof.Machine.execMsixSend s
  | .chiselRingAbort who ring val completionFirst => Sys2Proof.Machine.execChiselRingAbort who ring val completionFirst s
  | .chiselRingEnable who ring val => Sys2Proof.Machine.execChiselRingEnable who ring val s
  | .doveFlitReceive flit => Sys2Proof.Machine.execDoveFlitReceive flit s
  | .doveReplayRequest ack => Sys2Proof.Machine.execDoveReplayRequest ack s
  | .heartbeatTimer => Sys2Proof.Machine.execHeartbeatTimer s
  | .partnerLost => Sys2Proof.Machine.execPartnerLost s
  | .mackTimer => Sys2Proof.Machine.execMackTimer s
  | .autoPromoteExpiry => Sys2Proof.Machine.execAutoPromoteExpiry s
  | .pad => Sys2Proof.Machine.execPad s
  | .hello prot h => Sys2Proof.Machine.execHello prot h s
  | .heartbeat b => Sys2Proof.Machine.execHeartbeat b s
  | .spdm established failed => Sys2Proof.Machine.execSpdm established failed s
  | .mwrite w => Sys2Proof.Machine.execMwrite w s
  | .mack osn stroke => Sys2Proof.Machine.execMack osn stroke s
  | .rreq ident loc => Sys2Proof.Machine.execRreq ident loc s
  | .rrsp ident loc line => Sys2Proof.Machine.execRrsp ident loc line s
  | .rdata stroke loc first second => Sys2Proof.Machine.execRdata stroke loc first second s
  | .mark pull quires => Sys2Proof.Machine.execMark pull quires s
  | .bitmap pull first bits => Sys2Proof.Machine.execBitmap pull first bits s
  | .config range op reason base stop => Sys2Proof.Machine.execConfig range op reason base stop s
  | .role range promoted => Sys2Proof.Machine.execRole range promoted s
  | .bye reason => Sys2Proof.Machine.execBye reason s
  | .doveQueueRoom => Sys2Proof.Machine.execDoveQueueRoom s
  | .resyncStroke => Sys2Proof.Machine.execResyncStroke s
  | .doveCmdJoin who => Sys2Proof.Machine.execDoveCmdJoin who s
  | .doveCmdLeave who => Sys2Proof.Machine.execDoveCmdLeave who s
  | .doveCmdConfig who range => Sys2Proof.Machine.execDoveCmdConfig who range s
  | .doveCmdUnconfig who range => Sys2Proof.Machine.execDoveCmdUnconfig who range s
  | .doveCmdPromote who range all => Sys2Proof.Machine.execDoveCmdPromote who range all s
  | .doveCmdDemote who range all => Sys2Proof.Machine.execDoveCmdDemote who range all s
  | .doveCmdAccept who => Sys2Proof.Machine.execDoveCmdAccept who s
  | .doveFreqOffset ppm => Sys2Proof.Machine.execDoveFreqOffset ppm s
  | .portReset group cause partFlit => Sys2Proof.Machine.execPortReset group cause partFlit s
  | .cxlReset port ld => Sys2Proof.Machine.execCxlReset port ld s
  | .functionLevelReset port ld => Sys2Proof.Machine.execFunctionLevelReset port ld s
  | .perstRelease group => Sys2Proof.Machine.execPerstRelease group s
  | .hdmDecoderCommit port ld index dec => Sys2Proof.Machine.execHdmDecoderCommit port ld index dec s
  | .biResponse port loc modified => Sys2Proof.Machine.execBiResponse port loc modified s
  | .biTimeout port loc => Sys2Proof.Machine.execBiTimeout port loc s
  | .ideCheckFail port => Sys2Proof.Machine.execIdeCheckFail port s
  | .aerSend port => Sys2Proof.Machine.execAerSend port s
  | .getEventRecords port ld log => Sys2Proof.Machine.execGetEventRecords port ld log s
  | .clearEventRecords port ld log all handles => Sys2Proof.Machine.execClearEventRecords port ld log all handles s
  | .getEventInterruptPolicy port ld => Sys2Proof.Machine.execGetEventInterruptPolicy port ld s
  | .setEventInterruptPolicy port ld info warn fail fatal => Sys2Proof.Machine.execSetEventInterruptPolicy port ld info warn fail fatal s
  | .getFwInfo port ld => Sys2Proof.Machine.execGetFwInfo port ld s
  | .transferFw port ld action offset version secver sigOk => Sys2Proof.Machine.execTransferFw port ld action offset version secver sigOk s
  | .activateFw port ld => Sys2Proof.Machine.execActivateFw port ld s
  | .fwFallback => Sys2Proof.Machine.execFwFallback s
  | .getTimestamp port ld => Sys2Proof.Machine.execGetTimestamp port ld s
  | .setTimestamp port ld ns => Sys2Proof.Machine.execSetTimestamp port ld ns s
  | .getSupportedLogs port ld => Sys2Proof.Machine.execGetSupportedLogs port ld s
  | .getLog port ld vendor => Sys2Proof.Machine.execGetLog port ld vendor s
  | .getSupportedFeatures port ld => Sys2Proof.Machine.execGetSupportedFeatures port ld s
  | .performMaintenance port ld cls dpa => Sys2Proof.Machine.execPerformMaintenance port ld cls dpa s
  | .identifyMemoryDevice port ld => Sys2Proof.Machine.execIdentifyMemoryDevice port ld s
  | .getPartitionInfo port ld => Sys2Proof.Machine.execGetPartitionInfo port ld s
  | .getHealthInfo port ld => Sys2Proof.Machine.execGetHealthInfo port ld s
  | .getAlertConfig port ld => Sys2Proof.Machine.execGetAlertConfig port ld s
  | .setAlertConfig port ld life temp => Sys2Proof.Machine.execSetAlertConfig port ld life temp s
  | .getShutdownState port ld => Sys2Proof.Machine.execGetShutdownState port ld s
  | .setShutdownState port ld clean => Sys2Proof.Machine.execSetShutdownState port ld clean s
  | .getPoisonList port ld dpa len => Sys2Proof.Machine.execGetPoisonList port ld dpa len s
  | .injectPoison port ld dpa => Sys2Proof.Machine.execInjectPoison port ld dpa s
  | .clearPoison port ld dpa data => Sys2Proof.Machine.execClearPoison port ld dpa data s
  | .getScanMediaCapabilities port ld dpa len => Sys2Proof.Machine.execGetScanMediaCapabilities port ld dpa len s
  | .scanMedia port ld dpa len => Sys2Proof.Machine.execScanMedia port ld dpa len s
  | .getScanMediaResults port ld => Sys2Proof.Machine.execGetScanMediaResults port ld s
  | .sanitize port ld => Sys2Proof.Machine.execSanitize port ld s
  | .secureErase port ld => Sys2Proof.Machine.execSecureErase port ld s
  | .mediaOperations port ld op dpa len => Sys2Proof.Machine.execMediaOperations port ld op dpa len s
  | .backgroundOpComplete kind errs => Sys2Proof.Machine.execBackgroundOpComplete kind errs s
  | .getLocationMap port ld => Sys2Proof.Machine.execGetLocationMap port ld s
  | .orderCheckpoint port ld limited => Sys2Proof.Machine.execOrderCheckpoint port ld limited s
  | .getPersistenceStatus port ld => Sys2Proof.Machine.execGetPersistenceStatus port ld s
  | .getErrorCapture port ld page => Sys2Proof.Machine.execGetErrorCapture port ld page s
  | .readRegister port ld off => Sys2Proof.Machine.execReadRegister port ld off s
  | .writeRegister port ld off val => Sys2Proof.Machine.execWriteRegister port ld off val s
  | .setLdAllocation port ld toPort toLd range base stop => Sys2Proof.Machine.execSetLdAllocation port ld toPort toLd range base stop s
  | .getLdAllocations port => Sys2Proof.Machine.execGetLdAllocations port s
  | .setLdAllocations port => Sys2Proof.Machine.execSetLdAllocations port s
  | .mailboxUnsupported port ld opcode => Sys2Proof.Machine.execMailboxUnsupported port ld opcode s
  | .laneLock group lane offset finding => Sys2Proof.Machine.execLaneLock group lane offset finding s
  | .alignmentLoss group lane => Sys2Proof.Machine.execAlignmentLoss group lane s
  | .laneUnlockedTimeout group lane => Sys2Proof.Machine.execLaneUnlockedTimeout group lane s
  | .trainingRetry group => Sys2Proof.Machine.execTrainingRetry group s
  | .laneAdaptStep group lane ctle peaking dfe => Sys2Proof.Machine.execLaneAdaptStep group lane ctle peaking dfe s
  | .l0sEntry port => Sys2Proof.Machine.execL0sEntry port s
  | .l1IdleExpiry port messageFirst => Sys2Proof.Machine.execL1IdleExpiry port messageFirst s
  | .pmRequestAck port accepted => Sys2Proof.Machine.execPmRequestAck port accepted s
  | .l1Exit port ns => Sys2Proof.Machine.execL1Exit port ns s
  | .l0pWidthChange port narrow => Sys2Proof.Machine.execL0pWidthChange port narrow s
  | .splineWordReceive router rport receipt halves => Sys2Proof.Machine.execSplineWordReceive router rport receipt halves s
  | .splineWatchdogExpiry router rport cls dest => Sys2Proof.Machine.execSplineWatchdogExpiry router rport cls dest s
  | .toggleOverrun xing => Sys2Proof.Machine.execToggleOverrun xing s
  | .crossingReset xing dropped ns => Sys2Proof.Machine.execCrossingReset xing dropped ns s
  | .crossingReady xing => Sys2Proof.Machine.execCrossingReady xing s
  | .crossingResyncTimeout xing => Sys2Proof.Machine.execCrossingResyncTimeout xing s
  | .clockLoss stallNs => Sys2Proof.Machine.execClockLoss stallNs s
  | .refWindowCheck khz => Sys2Proof.Machine.execRefWindowCheck khz s
  | .refQualify => Sys2Proof.Machine.execRefQualify s
  | .hoCheck count => Sys2Proof.Machine.execHoCheck count s
  | .aoTickTimeout => Sys2Proof.Machine.execAoTickTimeout s
  | .pllLockLost pll => Sys2Proof.Machine.execPllLockLost pll s
  | .clkDomSwitch who toHo => Sys2Proof.Machine.execClkDomSwitch who toHo s
  | .clkSwitchDone dom stallNs => Sys2Proof.Machine.execClkSwitchDone dom stallNs s
  | .domainSleepEntry dom => Sys2Proof.Machine.execDomainSleepEntry dom s
  | .domainDeepSleepEntry dom => Sys2Proof.Machine.execDomainDeepSleepEntry dom s
  | .domainWake dom wordFirst => Sys2Proof.Machine.execDomainWake dom wordFirst s
  | .domainReady dom ns => Sys2Proof.Machine.execDomainReady dom ns s
  | .domainWakeTimeout dom => Sys2Proof.Machine.execDomainWakeTimeout dom s
  | .domainRailLow dom => Sys2Proof.Machine.execDomainRailLow dom s
  | .idleDisable who => Sys2Proof.Machine.execIdleDisable who s
  | .tbDeepEntry => Sys2Proof.Machine.execTbDeepEntry s
  | .tbCarry a1 => Sys2Proof.Machine.execTbCarry a1 s
  | .vinGood vinMv aoRan => Sys2Proof.Machine.execVinGood vinMv aoRan s
  | .startStageEnd found us => Sys2Proof.Machine.execStartStageEnd found us s
  | .stageOverrun => Sys2Proof.Machine.execStageOverrun s
  | .vauxGood data => Sys2Proof.Machine.execVauxGood data s
  | .vauxLost => Sys2Proof.Machine.execVauxLost s
  | .vauxTimeout => Sys2Proof.Machine.execVauxTimeout s
  | .sysRstDevice who key => Sys2Proof.Machine.execSysRstDevice who key s
  | .sysRstCarrierIo who key => Sys2Proof.Machine.execSysRstCarrierIo who key s
  | .holdEnd us data => Sys2Proof.Machine.execHoldEnd us data s
  | .sysRstMgmt who key => Sys2Proof.Machine.execSysRstMgmt who key s
  | .mgmtWatchdogExpiry => Sys2Proof.Machine.execMgmtWatchdogExpiry s
  | .mgmtNotRunning => Sys2Proof.Machine.execMgmtNotRunning s
  | .sysRstShutdown who key => Sys2Proof.Machine.execSysRstShutdown who key s
  | .sysLcCmd who target key => Sys2Proof.Machine.execSysLcCmd who target key s
  | .setLifeCycle session target => Sys2Proof.Machine.execSetLifeCycle session target s
  | .lcFuseProgrammed => Sys2Proof.Machine.execLcFuseProgrammed s
  | .calRun who pc => Sys2Proof.Machine.execCalRun who pc s
  | .calAbort who pc => Sys2Proof.Machine.execCalAbort who pc s
  | .phyCalRun who group => Sys2Proof.Machine.execPhyCalRun who group s
  | .phyCalAbort who group => Sys2Proof.Machine.execPhyCalAbort who group s
  | .calPeriodExpiry unit => Sys2Proof.Machine.execCalPeriodExpiry unit s
  | .calCollectionComplete unit results vref => Sys2Proof.Machine.execCalCollectionComplete unit results vref s
  | .calProbeTimeout pc => Sys2Proof.Machine.execCalProbeTimeout pc s
  | .calRunTimeout pc results vref => Sys2Proof.Machine.execCalRunTimeout pc results vref s
  | .calStep unit index => Sys2Proof.Machine.execCalStep unit index s
  | .sensorSlowRound readings => Sys2Proof.Machine.execSensorSlowRound readings s
  | .sensorFastSample reading => Sys2Proof.Machine.execSensorFastSample reading s
  | .bandComparatorTrip sensor => Sys2Proof.Machine.execBandComparatorTrip sensor s
  | .throttleRise die => Sys2Proof.Machine.execThrottleRise die s
  | .throttleFall die => Sys2Proof.Machine.execThrottleFall die s
  | .fatalTemperature sensor => Sys2Proof.Machine.execFatalTemperature sensor s
  | .dividerChange layer => Sys2Proof.Machine.execDividerChange layer s
  | .suspectClear layer => Sys2Proof.Machine.execSuspectClear layer s
  | .powerSample meanDw avgDw => Sys2Proof.Machine.execPowerSample meanDw avgDw s
  | .capAdjust => Sys2Proof.Machine.execCapAdjust s
  | .safe who key => Sys2Proof.Machine.execSafe who key s
  | .release who => Sys2Proof.Machine.execRelease who s
  | .test who => Sys2Proof.Machine.execTest who s
  | .errNPulseEnd => Sys2Proof.Machine.execErrNPulseEnd s
  | .errNGapEnd => Sys2Proof.Machine.execErrNGapEnd s
  | .errNReadback high => Sys2Proof.Machine.execErrNReadback high s
  | .errpinFfValidClear who => Sys2Proof.Machine.execErrpinFfValidClear who s
  | .quireMapSweep repaired failed => Sys2Proof.Machine.execQuireMapSweep repaired failed s
  | .bistRun who key => Sys2Proof.Machine.execBistRun who key s
  | .bistAbort who key stepFirst => Sys2Proof.Machine.execBistAbort who key stepFirst s
  | .bistRelease who key => Sys2Proof.Machine.execBistRelease who key s
  | .bistStepDone passed errors => Sys2Proof.Machine.execBistStepDone passed errors s
  | .shutdownSelfTestDone finding => Sys2Proof.Machine.execShutdownSelfTestDone finding s
  | .otpProgram who key verified => Sys2Proof.Machine.execOtpProgram who key verified s
  | .otpRepair who key verified linked => Sys2Proof.Machine.execOtpRepair who key verified linked s
  | .otpLock who key region force => Sys2Proof.Machine.execOtpLock who key region force s
  | .otpGenSeed who key => Sys2Proof.Machine.execOtpGenSeed who key s
  | .otpLatchCompare agree row => Sys2Proof.Machine.execOtpLatchCompare agree row s
  | .mctpMessage mtype len changes fmSession pecOk => Sys2Proof.Machine.execMctpMessage mtype len changes fmSession pecOk s
  | .i3cDynamicAddress addr partPacket => Sys2Proof.Machine.execI3cDynamicAddress addr partPacket s
  | .i3cReset partPacket => Sys2Proof.Machine.execI3cReset partPacket s
  | .setEndpointId eid => Sys2Proof.Machine.execSetEndpointId eid s
  | .getEndpointId => Sys2Proof.Machine.execGetEndpointId s
  | .getMctpVersionSupport => Sys2Proof.Machine.execGetMctpVersionSupport s
  | .getMessageTypeSupport => Sys2Proof.Machine.execGetMessageTypeSupport s
  | .getEndpointUuid => Sys2Proof.Machine.execGetEndpointUuid s
  | .pldmMonitoring sensor => Sys2Proof.Machine.execPldmMonitoring sensor s
  | .pldmFirmwareUpdate activate fmSession offset version secver sigOk last => Sys2Proof.Machine.execPldmFirmwareUpdate activate fmSession offset version secver sigOk last s
  | .getCertificate slot => Sys2Proof.Machine.execGetCertificate slot s
  | .challenge nonce => Sys2Proof.Machine.execChallenge nonce s
  | .getMeasurements index signed => Sys2Proof.Machine.execGetMeasurements index signed s
  | .keyExchange auth => Sys2Proof.Machine.execKeyExchange auth s
  | .keyUpdate session => Sys2Proof.Machine.execKeyUpdate session s
  | .orderlyShutdown fmSession => Sys2Proof.Machine.execOrderlyShutdown fmSession s
  | .restart => Sys2Proof.Machine.execRestart s
  | .registerReadRefused who off size => Sys2Proof.Machine.execRegisterReadRefused who off size s
  | .pfailNRelease => Sys2Proof.Machine.execPfailNRelease s
  | .bankEndVoltage => Sys2Proof.Machine.execBankEndVoltage s
  | .linkTrained group mode lo unusable bound mld => Sys2Proof.Machine.execLinkTrained group mode lo unusable bound mld s
  | .ideKm port stream op keySet skid => Sys2Proof.Machine.execIdeKm port stream op keySet skid s
  | .configSpaceWrite port ld l0s l1 l11 l12 tsp => Sys2Proof.Machine.execConfigSpaceWrite port ld l0s l1 l11 l12 tsp s
  | .l1SubstateEntry port deep => Sys2Proof.Machine.execL1SubstateEntry port deep s
  | .pllLocked pll => Sys2Proof.Machine.execPllLocked pll s
  | .carrierIoRailLow => Sys2Proof.Machine.execCarrierIoRailLow s
  | .mgmtCoreReady => Sys2Proof.Machine.execMgmtCoreReady s
  | .keySlotReloaded slot => Sys2Proof.Machine.execKeySlotReloaded slot s
  | .hopTimeOverLimit ps => Sys2Proof.Machine.execHopTimeOverLimit ps s

end Sys2Proof.Machine
end

