-- ==== Sys2Proof/WellFormed.lean ====
section
/-!
DEFINITION. Which commands the outside can send: where an operand lists errors, units or readings, it names each once,
and it says nothing that contradicts itself. A meaning is total all the same: it never asks whether its command is
well-formed.
-/

namespace Sys2Proof

/-- The errors of one burst: one for a lane, and each adds something to its symbol (R90). -/
def errsOk (errs : List SymErr) : Bool := decide (errs.map (·.lane)).Nodup && errs.all fun e => decide (e.xor ≠ 0)

/-- The errors of several lines: each line once. -/
def keyedOk {α : Type} [DecidableEq α] (errs : List (α × List SymErr)) : Bool :=
  decide (errs.map (·.1)).Nodup && errs.all fun e => errsOk e.2

/-- A read of the bank's EEPROM returns its 256 bytes (R168). -/
def eepromOk (data : Option EepromData) : Bool := data.all fun d => decide (d.bytes.length = 256)

/-- The errors of one access to a line and of a fetch of its tag line. -/
def faultsOk (f : LineFaults) : Bool := errsOk f.errs && errsOk f.tagErrs

/-- The operations of CONFIG: offer, adopted, withdraw, refused (R290). -/
def configOk (op : Nat) : Bool := decide (1 ≤ op ∧ op ≤ 4)

/-- A full write of MWRITE carries every byte (R290). -/
def Mwrite.wf (w : Mwrite) : Bool := w.partialWrite || decide (w.mask = BitVec.allOnes 64)

/-- What a stage found: OTP rows that exist, layers and vias each once (R444 to R447, R554). -/
def StageFinding.wf (f : StageFinding) : Bool :=
  ((f.sparedRows ++ f.failedRows ++ f.marginalRows).all fun r => decide (r < 544)) &&
  decide (f.sparedRows ++ f.failedRows).Nodup && decide (f.idents.map (·.1)).Nodup && decide f.badVias.Nodup &&
  decide f.badVref.Nodup && decide f.badFolioVias.Nodup && decide f.failures.Nodup

/-- A command that the outside can send. -/
def Instr.wf : Instr → Bool
  | .registerWrite .. => true
  | .tbNowLoRead .. => true
  | .softReset .. => true
  | .softResetProceed .. => true
  | .quiescenceTimeout .. => true
  | .intSet .. => true
  | .feValidClear .. => true
  | .escAck .. => true
  | .escTimerExpiry .. => true
  | .hostRead .. => true
  | .hostWrite .. => true
  | .pcRequestArrival .. => true
  | .writeHoldRelease => true
  | .inputAdmit .. => true
  | .activateIssue .. => true
  | .columnCommandIssue .. => true
  | .readBurstComplete _ errs tag _ _ => errsOk errs && errsOk tag.errs
  | .writeBurstIssue _ errs tag _ _ _ => errsOk errs && errsOk tag.errs
  | .agePromotion .. => true
  | .refreshDue .. => true
  | .forcedRefreshIssue .. => true
  | .refreshIssue .. => true
  | .targetedRefreshIssue .. => true
  | .postponeMaxWrite .. => true
  | .windowLengthen .. => true
  | .srIdleExpiry .. => true
  | .srNow .. => true
  | .sreIssue .. => true
  | .srxIssue .. => true
  | .laneErasureClear .. => true
  | .correctedWriteback .. => true
  | .scrubRead _ errs _ => errsOk errs
  | .scrubBatchWake .. => true
  | .scrubBehind .. => true
  | .scrubOverdue .. => true
  | .scrubSelfCheck _ badSlots _ wrong => decide badSlots.Nodup && decide (wrong.map (·.1)).Nodup
  | .rowRepair _ _ _ faults => keyedOk faults.errs
  | .tipinReqRepair .. => true
  | .tipinRecordAppend => true
  | .tipinRecordCommit .. => true
  | .tipinTableSweep corrected uncorrectable => decide (corrected ++ uncorrectable).Nodup
  | .tipinEntryReloaded .. => true
  | .migrateStart => true
  | .migrateRow errs _ => keyedOk errs
  | .migrateDone => true
  | .recoveryWaitExpiry .. => true
  | .kerfStart .. => true
  | .kerfAbort .. => true
  | .kerfResume .. => true
  | .clearStroke => true
  | .liftQuire .. => true
  | .rekeyStroke faults rest => decide (faults.map (·.1)).Nodup && (faults.all fun e => faultsOk e.2) && faultsOk rest
  | .kerfDone .. => true
  | .kerfLineTimeout .. => true
  | .ckpt .. => true
  | .ckptLimited .. => true
  | .ckptCancel .. => true
  | .checkpointStart => true
  | .slotReadBack .. => true
  | .checkpointCommit .. => true
  | .blockErase .. => true
  | .persistenceFailed .. => true
  | .keyRetainClear .. => true
  | .keyRecordCommit .. => true
  | .gpfPhase1 .. => true
  | .gpfPhase2 .. => true
  | .powerFailDeclare byVin byPfail => byVin || byPfail
  | .bindStart => true
  | .bindCommit .. => true
  | .vinBelowThreshold => true
  | .vinRecovered => true
  | .pfailNLow => true
  | .bankHousekeepingRound .. => true
  | .measure .. => true
  | .measurePeriodExpiry .. => true
  | .measureSample .. => true
  | .measureEnd .. => true
  | .measureRetry .. => true
  | .eepromReread _ data => eepromOk data
  | .eepromRecordWrite => true
  | .eepromWriteCycleDone .. => true
  | .bankBusRetry data => eepromOk data
  | .bankBusStuck .. => true
  | .loadKey .. => true
  | .unloadKey .. => true
  | .setRights .. => true
  | .setRange .. => true
  | .querySlot .. => true
  | .keyCmdUnknown .. => true
  | .keyTableSweep corrected uncorrectable => decide (corrected ++ uncorrectable).Nodup
  | .carveActivate .. => true
  | .carveDeactivate .. => true
  | .tcacheFlush .. => true
  | .gaugeWindowStart => true
  | .gaugeTableSweep corrected uncorrectable => decide (corrected ++ uncorrectable).Nodup
  | .chiselRingTail .. => true
  | .descriptorFetch .. => true
  | .jobStart .. => true
  | .jobComplete .. => true
  | .msixSend => true
  | .chiselRingAbort .. => true
  | .chiselRingEnable .. => true
  | .doveFlitReceive flit => decide (flit.bytes.length = 256)
  | .doveReplayRequest .. => true
  | .heartbeatTimer => true
  | .partnerLost => true
  | .mackTimer => true
  | .autoPromoteExpiry => true
  | .pad => true
  | .hello .. => true
  | .heartbeat .. => true
  | .spdm .. => true
  | .mwrite w => w.wf
  | .mack .. => true
  | .rreq .. => true
  | .rrsp .. => true
  | .rdata .. => true
  | .mark _ quires => decide quires.Nodup
  | .bitmap .. => true
  | .config _ op _ _ _ => configOk op
  | .role .. => true
  | .bye .. => true
  | .doveQueueRoom => true
  | .resyncStroke => true
  | .doveCmdJoin .. => true
  | .doveCmdLeave .. => true
  | .doveCmdConfig .. => true
  | .doveCmdUnconfig .. => true
  | .doveCmdPromote .. => true
  | .doveCmdDemote .. => true
  | .doveCmdAccept .. => true
  | .doveFreqOffset .. => true
  | .portReset _ cause _ => decide (cause ≠ 0)
  | .cxlReset .. => true
  | .functionLevelReset .. => true
  | .perstRelease .. => true
  | .hdmDecoderCommit .. => true
  | .biResponse .. => true
  | .biTimeout .. => true
  | .ideCheckFail .. => true
  | .aerSend .. => true
  | .getEventRecords .. => true
  | .clearEventRecords .. => true
  | .getEventInterruptPolicy .. => true
  | .setEventInterruptPolicy .. => true
  | .getFwInfo .. => true
  | .transferFw .. => true
  | .activateFw .. => true
  | .fwFallback => true
  | .getTimestamp .. => true
  | .setTimestamp .. => true
  | .getSupportedLogs .. => true
  | .getLog .. => true
  | .getSupportedFeatures .. => true
  | .performMaintenance .. => true
  | .identifyMemoryDevice .. => true
  | .getPartitionInfo .. => true
  | .getHealthInfo .. => true
  | .getAlertConfig .. => true
  | .setAlertConfig .. => true
  | .getShutdownState .. => true
  | .setShutdownState .. => true
  | .getPoisonList .. => true
  | .injectPoison .. => true
  | .clearPoison .. => true
  | .getScanMediaCapabilities .. => true
  | .scanMedia .. => true
  | .getScanMediaResults .. => true
  | .sanitize .. => true
  | .secureErase .. => true
  | .mediaOperations .. => true
  | .backgroundOpComplete _ errs => keyedOk errs
  | .getLocationMap .. => true
  | .orderCheckpoint .. => true
  | .getPersistenceStatus .. => true
  | .getErrorCapture .. => true
  | .readRegister .. => true
  | .writeRegister .. => true
  | .setLdAllocation .. => true
  | .getLdAllocations .. => true
  | .setLdAllocations .. => true
  | .mailboxUnsupported .. => true
  | .laneLock .. => true
  | .alignmentLoss .. => true
  | .laneUnlockedTimeout .. => true
  | .trainingRetry .. => true
  | .laneAdaptStep .. => true
  | .l0sEntry .. => true
  | .l1IdleExpiry .. => true
  | .pmRequestAck .. => true
  | .l1Exit .. => true
  | .l0pWidthChange .. => true
  | .splineWordReceive .. => true
  | .splineWatchdogExpiry .. => true
  | .toggleOverrun .. => true
  | .crossingReset .. => true
  | .crossingReady .. => true
  | .crossingResyncTimeout .. => true
  | .clockLoss .. => true
  | .refWindowCheck .. => true
  | .refQualify => true
  | .hoCheck .. => true
  | .aoTickTimeout => true
  | .pllLockLost .. => true
  | .clkDomSwitch .. => true
  | .clkSwitchDone .. => true
  | .domainSleepEntry .. => true
  | .domainDeepSleepEntry .. => true
  | .domainWake .. => true
  | .domainReady .. => true
  | .domainWakeTimeout .. => true
  | .domainRailLow .. => true
  | .idleDisable .. => true
  | .tbDeepEntry => true
  | .tbCarry .. => true
  | .vinGood .. => true
  | .startStageEnd found _ => found.wf
  | .stageOverrun => true
  | .vauxGood data => eepromOk data
  | .vauxLost => true
  | .vauxTimeout => true
  | .sysRstDevice .. => true
  | .sysRstCarrierIo .. => true
  | .holdEnd _ data => eepromOk data
  | .sysRstMgmt .. => true
  | .mgmtWatchdogExpiry => true
  | .mgmtNotRunning => true
  | .sysRstShutdown .. => true
  | .sysLcCmd .. => true
  | .setLifeCycle .. => true
  | .lcFuseProgrammed => true
  | .calRun .. => true
  | .calAbort .. => true
  | .phyCalRun .. => true
  | .phyCalAbort .. => true
  | .calPeriodExpiry .. => true
  | .calCollectionComplete _ results _ => decide (results.map (·.index)).Nodup
  | .calProbeTimeout .. => true
  | .calRunTimeout _ results _ => decide (results.map (·.index)).Nodup
  | .calStep .. => true
  | .sensorSlowRound readings => decide (readings.map (·.sensor)).Nodup
  | .sensorFastSample .. => true
  | .bandComparatorTrip .. => true
  | .throttleRise .. => true
  | .throttleFall .. => true
  | .fatalTemperature .. => true
  | .dividerChange .. => true
  | .suspectClear .. => true
  | .powerSample .. => true
  | .capAdjust => true
  | .safe .. => true
  | .release .. => true
  | .test .. => true
  | .errNPulseEnd => true
  | .errNGapEnd => true
  | .errNReadback .. => true
  | .errpinFfValidClear .. => true
  | .quireMapSweep repaired failed => decide (repaired ++ failed).Nodup
  | .bistRun .. => true
  | .bistAbort .. => true
  | .bistRelease .. => true
  | .bistStepDone .. => true
  | .shutdownSelfTestDone finding => decide finding.failures.Nodup
  | .otpProgram .. => true
  | .otpRepair .. => true
  | .otpLock .. => true
  | .otpGenSeed .. => true
  | .otpLatchCompare .. => true
  | .mctpMessage .. => true
  | .i3cDynamicAddress .. => true
  | .i3cReset .. => true
  | .setEndpointId .. => true
  | .getEndpointId => true
  | .getMctpVersionSupport => true
  | .getMessageTypeSupport => true
  | .getEndpointUuid => true
  | .pldmMonitoring .. => true
  | .pldmFirmwareUpdate .. => true
  | .getCertificate .. => true
  | .challenge .. => true
  | .getMeasurements .. => true
  | .keyExchange .. => true
  | .keyUpdate .. => true
  | .orderlyShutdown .. => true
  | .restart => true
  | .registerReadRefused .. => true
  | .pfailNRelease => true
  | .bankEndVoltage => true
  | .linkTrained .. => true
  | .ideKm .. => true
  | .configSpaceWrite .. => true
  | .l1SubstateEntry .. => true
  | .pllLocked .. => true
  | .carrierIoRailLow => true
  | .mgmtCoreReady => true
  | .keySlotReloaded .. => true
  | .hopTimeOverLimit .. => true

end Sys2Proof
end

