-- ==== Sys2Proof/Safety.lean ====
section
/-!
DEFINITION. What claims about the block are stated in: runs, the canonical form of its memory and its register file, a
run that nothing stops, the conditions under which a command acts at once, and frames.
-/

namespace Sys2Proof

open Machine

/-! ## Runs and forms -/

/-- The DRAM array is in the canonical form: line numbers rise, and no listed line is in the cleared form. -/
def memoryWf (s : State) : Bool := Sparse.wf (fun _ => StoredLine.cleared) s.lines

/-- The register file is in the canonical form: keys rise, and no listed field is at its reset value. -/
def registersWf (s : State) : Bool := Sparse.wf Fld.resetVal s.flds

/-- Every command that waits is one that the outside can send. -/
def queueWf (s : State) : Bool := s.pending.all Instr.wf

/-- A run of `n` steps from `s` ends in `t`. -/
def Reaches (n : Nat) (s t : State) : Prop := core.run n s = .next t

/-- No run from `s` ends in a fault or a refusal. -/
def Safe (s : State) : Prop := ∀ n, ∃ t, Reaches n s t

/-! ## Frames -/

/-- Every register field but those listed reads as before. -/
def SameRegs (s t : State) (l : List Fld) : Prop := ∀ f : Fld, f.key ∉ l.map Fld.key → t.rd f = s.rd f

/-- The page of a field, as the register file files it. -/
def pageOf (f : Fld) : Nat := f.key / 131072 % 128

/-- Every register field of every page but those listed reads as before. -/
def SamePages (s t : State) (l : List Nat) : Prop := ∀ f : Fld, pageOf f ∉ l → t.rd f = s.rd f

/-- A saturating count has gone up by one. -/
def CountedUp (s t : State) (f : Fld) : Prop := t.rd f = min (s.rd f + 1) (2 ^ f.width - 1)

/-- Nothing that memory, the keys, the Folio or the life of the device hold has changed. -/
def KeepsData (s t : State) : Prop := t.lines = s.lines ∧ t.crypto = s.crypto ∧ t.folio = s.folio ∧ t.sys = s.sys

/-! ## When a command acts at once -/

/-- No controller holds a request, and none waits: an engine meets no traffic. -/
def quiet (s : State) : Bool :=
  decide (s.stalled = []) && s.pcs.all fun e =>
    decide (e.2.input = [] ∧ e.2.queue = [] ∧ e.2.bursts = [] ∧ e.2.wbursts = [])

/-- An access to a page finds its power domain in Run, so that nothing wakes for it (R425). -/
def awake (s : State) (page : Nat) : Bool :=
  if page = 0x01 then decide (s.rd (PWR_DOM_STAT.state.ix 74) ≠ 2) else
  match domainOf page with
  | some d => decide (s.rd (PWR_DOM_STAT.state.ix d) = 0 ∨ s.rd (PWR_DOM_STAT.state.ix d) = 5)
  | none => true

/-- A command register of a page takes a write at once: the registers answer (R451, R456), the accessor may write the
page (R321), its block is present (R3) and is no controller of an absent layer (R33), no Safe State closes it (R519), and its
domain is in Run (R425). -/
def takes (s : State) (who : Accessor) (page : Nat) : Bool :=
  s.regsOpen && s.mayAdmin who && s.present page && (!s.safe || page == 0x00 || page == 0x07) && awake s page &&
  !s.layerAbsent page

/-- A register access of the window is carried out at once: as `takes`, on a page that exists. -/
def reaches (s : State) (who : Accessor) (page : Nat) : Bool := takes s who page && pageExists page

end Sys2Proof
end

