-- ==== Sys2Proof/Certificates/Slice0/Obligations.lean ====
section
/-!
DEFINITION. The statements about the LR128 for the provers. Each docstring names the rules that its clauses formalise. A
clause whose conclusion is that `exec` answers a next state holds under hypotheses on the state and the operands alone;
`SameRegs` and the equation on `t` say what the command leaves as it was.
-/

open Sys2Proof Sys2Proof.Machine

/-- Nothing of Chisel, of the tag cache or of the Folio is under way that an entry to Safe State would stop. -/
def calm (s : State) : Bool :=
  decide (s.chisel.jobs = []) && decide (s.crypto.tags = []) && decide (s.folio.running = none)

/-- Safe State has been entered for a trigger (R518). -/
def EnteredSafe (t : State) (page code : Nat) : Prop :=
  t.rd SYS_START_STAT.safe = 1 ∧ t.rd SYS_SAFE_CAUSE.page = page ∧ t.rd SYS_SAFE_CAUSE.code = code ∧
  t.rd ERRPIN_SAFE_STAT.entered = 1

/-! ## The queue, reset and the forms of the state -/

/-- The step runs the command at the front of the queue with the queue's rest. -/
def Obligations.StepRunsFrontCommand : Prop :=
  ∀ (c : Instr) (rest : List Instr) (s : State),
    step { s with pending := c :: rest } = exec c { s with pending := rest }

/-- The model's choice (assumption 5): on an empty queue the block idles for one nanosecond. -/
def Obligations.StepIdlesOnEmptyQueue : Prop :=
  ∀ s : State, s.pending = [] → ∃ t, step s = .next t ∧ t.now = s.now + 1000 ∧
    SameRegs s t [] ∧ t = { s with now := t.now, clk := t.clk }

/-! ## Pages and the register window -/

/-- R5: an access of another size than 4 bytes, or off its alignment, reads all ones, is ignored as a write, and is logged as
a corrected error in the SYS page. R7, R10 and R440: a write of INT_EN sets its bits and no other register; a read of
TB_NOW_LO returns the low half of the Time Base and latches its high half for the attachment. -/
def Obligations.RegisterAccessesActAndAnswer : Prop :=
  (∀ (who : Accessor) (page : Page) (val : Word) (s : State), reaches s who page.val = true → s.safe = false →
    ∃ t, exec (.registerWrite who (page.val * 4096 + 0x054) 4 val) s = .next t ∧
      t.rd (INT_EN.enables.on page.val) = val.toNat ∧ SameRegs s t [INT_EN.enables.on page.val] ∧
      t = { s with flds := t.flds }) ∧
  (∀ (who : Accessor) (page : Page) (val : Word) (s : State), reaches s who page.val = true → s.safe = false →
    exec (.registerWrite who (page.val * 4096) 4 val) s = .next s) ∧
  (∀ (who : Accessor) (s : State), reaches s who 0x01 = true →
    ∃ t, exec (.tbNowLoRead who) s = .next t ∧ t.out = .regData (s.tb % 2 ^ 32) :: s.out ∧
      Sparse.get (fun _ => 0) t.clk.latch (Accessor.master who) = s.tb / 2 ^ 32 % 2 ^ 32 ∧
      SameRegs s t [] ∧ t = { s with out := t.out, clk := t.clk }) ∧
  (∀ (who : Accessor) (off size : Nat) (s : State), s.regsOpen = true → size ≠ 4 ∨ off % 4 ≠ 0 →
    ∃ t, exec (.registerReadRefused who off size) s = .next t ∧ t.out.head? = some (.regData 0xFFFFFFFF) ∧
      t.rd (ERR_STAT.ce.on 0x00) = 1 ∧ CountedUp s t (ERR_CNT_CE.count.on 0x00) ∧
      (s.on (FE_VALID.valid.on 0x00) = false → t.rd (FE_CODE.code.on 0x00) = 0x1001) ∧
      CountedUp s t SYS_BAD_ACCESS.count ∧ t.lines = s.lines ∧ t.crypto = s.crypto ∧ t.folio = s.folio) ∧
  (∀ (who : Accessor) (off size : Nat) (val : Word) (s : State), s.regsOpen = true → size ≠ 4 ∨ off % 4 ≠ 0 →
    awake s 0x01 = true →
    ∃ t, exec (.registerWrite who off size val) s = .next t ∧ t.rd (ERR_STAT.ce.on 0x00) = 1 ∧
      CountedUp s t (ERR_CNT_CE.count.on 0x00) ∧
      (s.on (FE_VALID.valid.on 0x00) = false → t.rd (FE_CODE.code.on 0x00) = 0x1001) ∧
      CountedUp s t SYS_BAD_ACCESS.count ∧ (∀ d, Out.regData d ∈ t.out → Out.regData d ∈ s.out) ∧
      SamePages s t [0x00, 0x10, 0x11, 0x12, 0x13] ∧ KeepsData s t)

/-- R14, R424 and R607: a soft reset waits for quiescence, proceeds once the block is quiescent, and is abandoned after
2 µs, as a gate closure of a power domain is; R12: a write of FE_VALID.valid releases the capture. -/
def Obligations.SoftResetAndCaptureRelease : Prop :=
  (∀ (who : Accessor) (page : Page) (s : State), takes s who page.val = true → page.val ≠ 0x09 →
    (s.page page.val).softReq = false →
    ∃ t, exec (.softReset who page) s = .next t ∧
      t.page page.val = { s.page page.val with softReq := true, reqAt := s.now } ∧
      (∀ p, p ≠ page.val → t.page p = s.page p) ∧ t = { s with pages := t.pages }) ∧
  (∀ (page : Page) (s : State), (s.page page.val).softReq = true → s.quiescent page.val = true → page.val = 0x1D →
    s.now ≤ (s.page page.val).reqAt + 2000000 →
    ∃ t, exec (.softResetProceed page) s = .next t ∧ t.chisel = ChiselState.reset ∧
      (t.page page.val).softReq = false ∧
      (∀ f : Fld, pageOf f = 0x1D → 0x100 ≤ f.key / 32 % 4096 → s.keepsField 0x1D f.key = false →
        t.rd f = Fld.resetVal f.key) ∧
      SamePages s t [0x1D] ∧ t = { s with flds := t.flds, pages := t.pages, chisel := t.chisel }) ∧
  (∀ (page : Page) (s : State), (s.page page.val).softReq = true → s.quiescent page.val = true →
    (s.page page.val).reqAt + 2000000 < s.now →
    ∃ t, exec (.softResetProceed page) s = .next t ∧ (t.page page.val).softReq = false ∧
      t.rd (PAGE_STAT.reset_abandoned.on page.val) = 1 ∧ SameRegs s t [PAGE_STAT.reset_abandoned.on page.val] ∧
      t = { s with flds := t.flds, pages := t.pages }) ∧
  (∀ (page : Page) (dom : DomainNo) (at_ : Nat) (s : State), (s.domain dom).gateAt = some at_ → s.domainQuiet dom = false →
    ∃ t, exec (.quiescenceTimeout page (some dom)) s = .next t ∧ (t.domain dom).gateAt = none ∧
      (∀ p ∈ s.presentPages dom, t.rd (PAGE_STAT.gate_abandoned.on p) = 1) ∧
      t.rd (ERR_STAT.uc.on 0x03) = s.rd (ERR_STAT.uc.on 0x03) ∧ t.rd (ERR_STAT.ce.on 0x03) = 1 ∧
      t.rd (PWR_DOM_STAT.state.ix dom) = 0 ∧ KeepsData s t) ∧
  (∀ (page : Page) (s : State), (s.page page.val).softReq = true → s.quiescent page.val = false →
    ∃ t, exec (.quiescenceTimeout page none) s = .next t ∧ (t.page page.val).softReq = false ∧
      t.rd (PAGE_STAT.reset_abandoned.on page.val) = 1 ∧ SameRegs s t [PAGE_STAT.reset_abandoned.on page.val] ∧
      t = { s with flds := t.flds, pages := t.pages, now := t.now, clk := t.clk }) ∧
  (∀ (who : Accessor) (page : Page) (s : State), s.regsOpen = true → s.mayAdmin who = true →
    s.present page.val = true → awake s page.val = true →
    ∃ t, exec (.feValidClear who page) s = .next t ∧ t.rd (FE_VALID.valid.on page.val) = 0 ∧
      SameRegs s t [FE_VALID.valid.on page.val] ∧ t = { s with flds := t.flds })

/-- R10, R512, R513 and R514: INT_SET sets the causes it names, and only in FACTORY_TEST; an expired timer turns a contained
error fatal and runs again, and of a fatal one, outside the carrier die's pages, enters Safe State; an acknowledge before
the expiry stops the timer. R33: a command register of an absent layer's page takes nothing. -/
def Obligations.InterruptCausesAndEscalation : Prop :=
  (∀ (who : Accessor) (page : Page) (bits : Word) (s : State), takes s who page.val = true → s.lifeCycle = 1 →
    ∃ t, exec (.intSet who page bits) s = .next t ∧
      (∀ i, 1 ≤ i → i ≤ 31 → bitOf (t.rd (INT_STAT.causes.on page.val)) (i - 1) =
        (bitOf (s.rd (INT_STAT.causes.on page.val)) (i - 1) || bitOf bits.toNat i)) ∧
      SameRegs s t ([INT_STAT.causes.on page.val] ++
        (List.range 4).map fun p => PHY_PM_STAT.last_outcome.port p) ∧
      t = { s with flds := t.flds, ports := t.ports, out := t.out }) ∧
  (∀ (who : Accessor) (page : Page) (bits : Word) (s : State), takes s who page.val = true → s.lifeCycle ≠ 1 →
    exec (.intSet who page bits) s = .next s) ∧
  (∀ (page : Page) (s : State), s.on (ESC_STAT.running.on page.val) = true → (s.page page.val).sev < 3 →
    ∃ t, exec (.escTimerExpiry page) s = .next t ∧ t.rd (ESC_STAT.escalated.on page.val) = 1 ∧
      t.rd (ERR_STAT.fatal.on page.val) = 1 ∧ (t.page page.val).sev = 3 ∧ t.rd (ESC_STAT.running.on page.val) = 1 ∧
      CountedUp s t ERRPIN_ESCALATIONS.count ∧ KeepsData s t) ∧
  (∀ (page : Page) (s : State), s.on (ESC_STAT.running.on page.val) = true → 3 ≤ (s.page page.val).sev →
    carrierPage page.val = false → s.safe = false → calm s = true →
    ∃ t, exec (.escTimerExpiry page) s = .next t ∧ t.rd (ESC_STAT.escalated.on page.val) = 1 ∧
      EnteredSafe t page.val ((s.page page.val).code % 65536)) ∧
  (∀ (who : Accessor) (page : Page) (expiryFirst : Grant) (s : State), s.regsOpen = true → s.mayAdmin who = true →
    s.present page.val = true → awake s page.val = true → s.on (ESC_STAT.running.on page.val) = true →
    expiryFirst = false ∨ s.now < (s.page page.val).escAt →
    ∃ t, exec (.escAck who page expiryFirst) s = .next t ∧ t.rd (ESC_STAT.running.on page.val) = 0 ∧
      t.rd (ESC_STAT.acked.on page.val) = 1 ∧ (t.page page.val).sev = 0 ∧
      SameRegs s t [ESC_STAT.running.on page.val, ESC_STAT.acked.on page.val] ∧
      t = { s with flds := t.flds, pages := t.pages }) ∧
  (∀ (who : Accessor) (page : Page) (s : State), s.layerAbsent page.val = true → s.mayAdmin who = true →
    exec (.softReset who page) s = .next s)

/-! ## Requests -/

/-- R323, R325 and R34: a host request that no row of R325 refuses goes on its way to its controller with the DPA, the
Class Mark and the key of its address. -/
def Obligations.HostRequestsGoOnToTheirController : Prop :=
  (∀ (port : PortNo) (ld : LdNo) (req : HostReq) (cache : Fin 3) (d : Decoder) (dpa : Nat) (s : State),
    s.carries port ld = true → s.safe = false → s.on BIST_ENG_STAT.offline = false →
    s.on SYS_START_STAT.mem_active = true → s.decode port ld req.hpa.toNat = some (d, dpa) →
    s.portRefusal port ld dpa = none → s.mbox.sanitizing = false →
    ∃ t r, exec (.hostRead port ld req cache) s = .next t ∧ t.transit = s.transit ++ [r] ∧
      r.src = .host port ld req.tag ∧ r.kind = .read ∧ r.master = masterOf port ld ∧ r.dpa = dpa ∧
      r.loc = lineAddr (locOf dpa) ∧ r.mark = classMark dpa ∧
      r.keyId = (if s.keyAttr port ld then (req.ckid.map (·.toNat)).getD 0 else aliasKey dpa) ∧
      SameRegs s t [] ∧ t = { s with nextReq := s.nextReq + 1, ports := t.ports, transit := t.transit }) ∧
  (∀ (port : PortNo) (ld : LdNo) (req : HostReq) (data : LineData) (mask : BitVec 64) (poison : Bool) (d : Decoder)
    (dpa : Nat) (s : State),
    s.carries port ld = true → s.safe = false → s.on BIST_ENG_STAT.offline = false →
    s.on SYS_START_STAT.mem_active = true → s.decode port ld req.hpa.toNat = some (d, dpa) →
    s.portRefusal port ld dpa = none → s.mbox.sanitizing = false →
    ∃ t r, exec (.hostWrite port ld req data mask poison) s = .next t ∧ t.transit = s.transit ++ [r] ∧
      r.src = .host port ld req.tag ∧ r.kind = (if mask = BitVec.allOnes 64 then .full else .part) ∧
      r.data = data ∧ r.mask = mask ∧ r.poison = poison ∧ r.dpa = dpa ∧ r.loc = lineAddr (locOf dpa) ∧
      r.mark = classMark dpa ∧ SameRegs s t [] ∧
      t = { s with nextReq := s.nextReq + 1, ports := t.ports, transit := t.transit })

/-- R325: the port judges a request in the order of the rows; the first row that holds refuses it with its code, and one that
passes every row goes on its way. -/
def Obligations.PortRefusesInTheOrderOfItsRows : Prop :=
  (∀ (port : PortNo) (ld : LdNo) (dpa : Nat) (s : State),
    let broken := s.on (PORT_IDE_STAT.insecure.port port) = true ∨
      ((s.ld (masterOf port ld)).tsp = true ∧ s.on (PORT_IDE_STAT.cachemem.port port) = false)
    let alias_ := s.keyAttr port ld = true ∧ aliasKey dpa ≠ 0
    let beyond := s.capacity ≤ quireOf (locOf dpa)
    let outside := s.allocHolds port ld (quireOf (locOf dpa)) = false
    (s.portRefusal port ld dpa = some 0x0B05 ↔ broken) ∧
    (s.portRefusal port ld dpa = some 0x0B01 ↔ ¬broken ∧ alias_) ∧
    (s.portRefusal port ld dpa = some 0x0B02 ↔ ¬broken ∧ ¬alias_ ∧ beyond) ∧
    (s.portRefusal port ld dpa = some 0x0B03 ↔ ¬broken ∧ ¬alias_ ∧ ¬beyond ∧ outside) ∧
    (s.portRefusal port ld dpa = none ↔ ¬broken ∧ ¬alias_ ∧ ¬beyond ∧ ¬outside)) ∧
  (∀ (port : PortNo) (ld : LdNo) (req : HostReq) (cache : Fin 3) (code : Nat) (s : State), s.carries port ld = true →
    s.safe = false → s.on BIST_ENG_STAT.offline = false → s.on SYS_START_STAT.mem_active = true →
    (match s.decode port ld req.hpa.toNat with
      | none => some 0x0B04
      | some (_, dpa) => s.portRefusal port ld dpa) = some code →
    ∃ t, exec (.hostRead port ld req cache) s = .next t ∧ t.transit = s.transit ∧
      (s.on (FE_VALID.valid.on (0x10 + port.val)) = false → t.rd (FE_CODE.code.on (0x10 + port.val)) = code) ∧
      CountedUp s t (PORT_REFUSED.count.port port) ∧ KeepsData s t) ∧
  (∀ (port : PortNo) (ld : LdNo) (req : HostReq) (data : LineData) (mask : BitVec 64) (poison : Bool) (code : Nat)
    (s : State), s.carries port ld = true → s.safe = false → s.on BIST_ENG_STAT.offline = false →
    s.on SYS_START_STAT.mem_active = true →
    (match s.decode port ld req.hpa.toNat with
      | none => some 0x0B04
      | some (_, dpa) => s.portRefusal port ld dpa) = some code →
    ∃ t, exec (.hostWrite port ld req data mask poison) s = .next t ∧ t.transit = s.transit ∧
      (s.on (FE_VALID.valid.on (0x10 + port.val)) = false → t.rd (FE_CODE.code.on (0x10 + port.val)) = code) ∧
      CountedUp s t (PORT_REFUSED.count.port port) ∧ KeepsData s t) ∧
  (∀ (port : PortNo) (ld : LdNo) (req : HostReq) (cache : Fin 3) (d : Decoder) (dpa : Nat) (s : State),
    s.carries port ld = true → s.safe = false → s.on BIST_ENG_STAT.offline = false →
    s.on SYS_START_STAT.mem_active = true → s.mbox.sanitizing = false →
    s.decode port ld req.hpa.toNat = some (d, dpa) → s.portRefusal port ld dpa = none →
    ∃ t r, exec (.hostRead port ld req cache) s = .next t ∧ t.transit = s.transit ++ [r] ∧ r.src = .host port ld req.tag)

/-- R40, R55, R57, R58 and R72: the oldest request on its way to a PC arrives in its bank queue where nothing makes it wait
and there is room, and one that waits at the input enters when there is; an activate opens the row of the request that
ranks highest; a column command takes the request out of its queue; a request that reaches the age limit is promoted. -/
def Obligations.RequestsAreQueuedAndScheduled : Prop :=
  (∀ (pc : PcNo) (master : Fin 26) (r : Req) (s : State),
    (s.transit.find? fun x => decide ((s.placeOf x.loc).pc = pc.val ∧ x.master = master.val)) = some r →
    s.rd (PWR_DOM_STAT.state.ix pc.val) = 0 → s.keyRefusal r = none → r.kind = .read → r.cache = 0 →
    s.waitOf { r with sel := some (s.select r), arrived := s.now } = none → s.recovering r.loc = false →
    s.on (PC_SR_STAT.entering.pc pc) = false → s.on (PC_SR_STAT.in_sr.pc pc) = false →
    (s.pc pc).writeTo r.loc = none → s.hasRoom pc r = true → s.inputClear pc r = true → s.behindOther pc r = false →
    ∃ t x, exec (.pcRequestArrival pc master) s = .next t ∧ t.transit = s.transit.erase r ∧
      (t.pc pc).queue = (s.pc pc).queue ++ [x] ∧ x.id = r.id ∧ x.loc = r.loc ∧ x.kind = .read ∧
      x.sel = some (s.select r) ∧ x.entered = s.now ∧ (∀ p, p ≠ pc.val → t.pc p = s.pc p) ∧
      SameRegs s t [PC_QUEUE_STAT.drain.pc pc] ∧ t = { s with flds := t.flds, transit := t.transit, pcs := t.pcs }) ∧
  (∀ (pc : PcNo) (r : Req) (s : State), s.firstInput pc [] (s.pc pc).input = some r → r.kind = .read →
    (s.pc pc).writeTo r.loc = none →
    ∃ t x, exec (.inputAdmit pc) s = .next t ∧ (t.pc pc).input = (s.pc pc).input.erase r ∧
      (t.pc pc).queue = (s.pc pc).queue ++ [x] ∧ x.id = r.id ∧ x.loc = r.loc ∧ x.entered = s.now ∧
      (∀ p, p ≠ pc.val → t.pc p = s.pc p) ∧
      SameRegs s t [PC_QUEUE_STAT.drain.pc pc] ∧ t = { s with flds := t.flds, pcs := t.pcs }) ∧
  (∀ (r : Req) (s : State), s.folio.held = [r] → r.kind ≠ .read → r.poison = false →
    s.holdsAny (s.writeQuires r) = false → s.queueBlocks r = false → (s.pc (s.placeOf r.loc).pc).writeTo r.loc = none →
    s.hasRoom (s.placeOf r.loc).pc r = false →
    ∃ t, exec .writeHoldRelease s = .next t ∧ t.folio.held = [] ∧ t.rd FOLIO_STAT.hold = 0 ∧
      (t.pc (s.placeOf r.loc).pc).input = (s.pc (s.placeOf r.loc).pc).input ++ [r] ∧
      SameRegs s t [FOLIO_STAT.hold, FOLIO_HOLD_MAX.us] ∧ t = { s with flds := t.flds, pcs := t.pcs, folio := t.folio }) ∧
  (∀ (pc : PcNo) (r : Req) (at_ : Nat) (s : State), s.pcAwake pc = true → s.nextIssue pc = some (r, true, at_) →
    ∃ t, exec (.activateIssue pc) s = .next t ∧
      ((t.pc pc).bank (s.placeOf r.loc).bank).openRow = some (s.placeOf r.loc).row ∧
      t.now = max s.now at_ ∧ (t.pc pc).queue = (s.pc pc).queue ∧
      (t.heat (pc.val / 4)).acts = (s.heat (pc.val / 4)).acts + 1 ∧ (∀ p, p ≠ pc.val → t.pc p = s.pc p) ∧
      SameRegs s t [] ∧ t = { s with now := t.now, clk := t.clk, pcs := t.pcs, therm := t.therm }) ∧
  (∀ (pc : PcNo) (r : Req) (at_ : Nat) (s : State), s.pcAwake pc = true → s.nextIssue pc = some (r, false, at_) →
    r.kind ≠ .read → max s.now at_ ≤ r.entered + 1000000 →
    ∃ t, exec (.columnCommandIssue pc) s = .next t ∧ (t.pc pc).wbursts = (s.pc pc).wbursts ++ [r] ∧
      (t.pc pc).queue = takePlace r (s.pc pc).queue ∧ t.now = max s.now at_ ∧
      ((t.pc pc).bank (s.placeOf r.loc).bank).afterForced = false ∧
      SameRegs s t [PC_AGE_MAX.ns.pc pc] ∧
      t = { s with now := t.now, clk := t.clk, flds := t.flds, pcs := t.pcs, therm := t.therm }) ∧
  (∀ (pc : PcNo) (r : Req) (at_ : Nat) (s : State), s.pcAwake pc = true → s.nextIssue pc = some (r, false, at_) →
    r.kind = .read → max s.now at_ ≤ r.entered + 1000000 →
    ∃ t, exec (.columnCommandIssue pc) s = .next t ∧ (t.pc pc).bursts = (s.pc pc).bursts ++ [r] ∧
      (t.pc pc).queue = takePlace r (s.pc pc).queue ∧ t.lines = s.lines ∧ t.now = max s.now at_) ∧
  (∀ (pc : PcNo) (r : Req) (s : State), (s.pc pc).queue.find? (fun r => !r.promoted) = some r →
    ∃ t, exec (.agePromotion pc) s = .next t ∧
      (t.pc pc).queue = (s.pc pc).queue.map (fun x => if x.id = r.id then { x with promoted := true } else x) ∧
      CountedUp s t (PC_AGE_PROMO.count.pc pc) ∧
      SameRegs s t [PC_AGE_PROMO.count.pc pc] ∧ t = { s with now := t.now, clk := t.clk, flds := t.flds, pcs := t.pcs })

/-- R18, R92 and R195: a read burst that returns good, under a slot without integrity, answers the host with the data
that the slot's cipher gives. -/
def Obligations.ReadBurstAnswersTheHost : Prop :=
  ∀ (pc : PcNo) (r : Req) (rest : List Req) (port ld tag : Nat) (s : State), (s.pc pc).bursts = r :: rest →
    r.src = .host port ld tag → s.bist.inj = [] → s.recovering r.loc = false → (s.selOf r).2.integrity = false →
    (s.judge r.loc []).outcome = .clean → (s.judge r.loc []).lanes = [] →
    ∃ t, exec (.readBurstComplete pc [] ⟨[], true⟩ true true) s = .next t ∧ (t.pc pc).bursts = rest ∧
      t.out = .hostData port ld tag (some (decryptLine (s.selOf r) r.loc (s.judge r.loc []).line.data)) :: s.out ∧
      SameRegs s t [] ∧ t = { s with pcs := t.pcs, ports := t.ports, out := t.out }

/-- R91, R193 and R195: a full write that reaches the array under a slot without integrity stores the cipher of its data
with its check symbols, and changes no other line. -/
def Obligations.WriteBurstStoresTheLine : Prop :=
  ∀ (pc : PcNo) (r : Req) (rest : List Req) (s : State), (s.pc pc).wbursts = r :: rest → r.kind = .full →
    r.poison = false → s.bist.inj = [] → (s.selOf r).2.integrity = false →
    (∀ x ∈ (s.pc pc).bursts, lineAddr x.loc ≠ lineAddr r.loc) →
    ∃ t, exec (.writeBurstIssue pc [] ⟨[], true⟩ ⟨true, true⟩ 0 0) s = .next t ∧ (t.pc pc).wbursts = rest ∧
      t.line (lineAddr r.loc) = StoredLine.ofData (encryptLine (s.selOf r) (lineAddr r.loc) r.data) ∧
      (∀ a, a / 64 ≠ r.loc / 64 → t.line a = s.line a) ∧
      SameRegs s t [PC_QUEUE_STAT.drain.pc pc] ∧ t.crypto = s.crypto ∧ t.folio = s.folio ∧ t.sys = s.sys ∧
      t.out = s.out ∧ t.now = s.now

/-! ## Refresh and self-refresh -/

/-- R66 to R68: a due time raises the balance of its bank; a refresh lowers it. -/
def Obligations.RefreshesFollowTheBalance : Prop :=
  (∀ (pc : PcNo) (bank : BankNo) (s : State), s.pcPresent pc = true → s.on (PC_SR_STAT.in_sr.pc pc) = false →
    ((s.pc pc).bank bank).balance ≤ s.rd (PC_REF_CTL.postpone_max.pc pc) →
    ∃ t, exec (.refreshDue pc bank) s = .next t ∧
      ((t.pc pc).bank bank).balance = ((s.pc pc).bank bank).balance + 1 ∧
      ((t.pc pc).bank bank).dueAt = ((s.pc pc).bank bank).dueAt + s.trefi pc ∧
      t.now = max s.now ((s.pc pc).bank bank).dueAt ∧ (∀ p, p ≠ pc.val → t.pc p = s.pc p) ∧
      SameRegs s t [] ∧ t = { s with now := t.now, clk := t.clk, pcs := t.pcs }) ∧
  (∀ (pc : PcNo) (bank : BankNo) (s : State), s.on (PC_SR_STAT.in_sr.pc pc) = false →
    ((s.pc pc).bank bank).forced ≠ 0 →
    ∃ t, exec (.forcedRefreshIssue pc bank) s = .next t ∧
      ((t.pc pc).bank bank).balance = ((s.pc pc).bank bank).balance - 1 ∧
      ((t.pc pc).bank bank).forced = ((s.pc pc).bank bank).forced - 1 ∧
      ((t.pc pc).bank bank).afterForced = true ∧
      CountedUp s t (PC_REF_FORCED.count.pc pc) ∧
      KeepsData s t) ∧
  (∀ (pc : PcNo) (bank : BankNo) (s : State), s.on (PC_SR_STAT.in_sr.pc pc) = false → s.pcPresent pc = true →
    s.bankIdle pc bank = true → 0 < ((s.pc pc).bank bank).balance →
    ∃ t, exec (.refreshIssue pc bank) s = .next t ∧
      ((t.pc pc).bank bank).balance = ((s.pc pc).bank bank).balance - 1 ∧ ((t.pc pc).bank bank).openRow = none ∧
      CountedUp s t (PC_REF_CNT.count.pc pc) ∧
      SameRegs s t [PC_REF_CNT.count.pc pc] ∧ t = { s with flds := t.flds, pcs := t.pcs, therm := t.therm }) ∧
  (∀ (pc : PcNo) (bank : BankNo) (row : Nat) (rest : List Nat) (s : State), s.on (PC_SR_STAT.in_sr.pc pc) = false →
    ((s.pc pc).bank bank).targets = row :: rest → ((s.pc pc).bank bank).afterForced = false →
    ∃ t, exec (.targetedRefreshIssue pc bank) s = .next t ∧ ((t.pc pc).bank bank).targets = rest ∧
      t.rd (PC_RFM_LAST.bank.pc pc) = bank.val ∧ t.rd (PC_RFM_LAST.row.pc pc) = row % 2 ^ PC_RFM_LAST.row.width ∧
      t.rd (PC_RFM_LAST.valid.pc pc) = 1 ∧
      CountedUp s t (PC_RFM_CNT.count.pc pc) ∧
      KeepsData s t)

/-- R67, R71 and R77 to R80: PC_REF_CTL holds its postponement limit to 8, and a window that has qualified lengthens; an idle
PC begins to enter self-refresh, enters it with every owed refresh done, and leaves it. -/
def Obligations.RefreshControlAndSelfRefresh : Prop :=
  (∀ (who : Accessor) (pc : PcNo) (val : Word) (s : State), takes s who (0x40 + pc.val) = true →
    ∃ t, exec (.postponeMaxWrite who pc val) s = .next t ∧
      t.rd (PC_REF_CTL.postpone_max.pc pc) = min 8 (val.toNat % 16) ∧
      t.rd (PC_REF_CTL.window_force.pc pc) = (if val.toNat / 2 ^ 16 % 4 = 3 then 0 else val.toNat / 2 ^ 16 % 4) ∧
      KeepsData s t ∧ t.now = s.now) ∧
  (∀ (layer : LayerNo) (since : Nat) (s : State), s.window layer = 1 → (s.layer layer).below80 = some since →
    s.forced layer = 0 → s.layerSr layer = false → s.layerAbsent (0x40 + layer.val * 4) = false →
    ∃ t, exec (.windowLengthen layer) s = .next t ∧ t.window layer = 0 ∧ t.now = max s.now (since + 16000000000) ∧
      KeepsData s t ∧ t.pcs = s.pcs) ∧
  (∀ (pc : PcNo) (s : State), s.on (PC_SR_CTL.sr_en.pc pc) = true → s.pcIdle pc = true → s.pcAwake pc = true →
    (s.heat (pc.val / 4)).suspect = false →
    ∃ t, exec (.srIdleExpiry pc) s = .next t ∧ t.rd (PC_SR_STAT.entering.pc pc) = 1 ∧
      (∀ b < 32, ((t.pc pc).bank b).openRow = none) ∧ SameRegs s t [PC_SR_STAT.entering.pc pc] ∧
      t = { s with now := t.now, clk := t.clk, flds := t.flds, pcs := t.pcs }) ∧
  (∀ (who : Accessor) (pc : PcNo) (s : State), takes s who (0x40 + pc.val) = true → s.pcIdle pc = true →
    s.pcAwake pc = true → (s.heat (pc.val / 4)).suspect = false →
    ∃ t, exec (.srNow who pc) s = .next t ∧ t.rd (PC_SR_STAT.entering.pc pc) = 1 ∧
      (∀ b < 32, ((t.pc pc).bank b).openRow = none) ∧ SameRegs s t [PC_SR_STAT.entering.pc pc] ∧
      t = { s with flds := t.flds, pcs := t.pcs }) ∧
  (∀ (pc : PcNo) (s : State), s.on (PC_SR_STAT.entering.pc pc) = true →
    ∃ t, exec (.sreIssue pc) s = .next t ∧ t.rd (PC_SR_STAT.in_sr.pc pc) = 1 ∧ t.rd (PC_SR_STAT.entering.pc pc) = 0 ∧
      CountedUp s t (PC_SR_ENTRIES.count.pc pc) ∧
      (∀ b < 32, ((t.pc pc).bank b).balance ≤ 0) ∧
      KeepsData s t) ∧
  (∀ (pc : PcNo) (s : State), s.on (PC_SR_STAT.in_sr.pc pc) = true →
    ∃ t, exec (.srxIssue pc) s = .next t ∧ t.rd (PC_SR_STAT.in_sr.pc pc) = 0 ∧
      (∀ b < 32, ((t.pc pc).bank b).balance = 0) ∧
      KeepsData s t)

/-! ## Lane erasure, scrub and repair -/

/-- R96 and R100: PC_ECC_CMD ends an erasure with its key and in its life-cycle states only; a queued write-back writes
the corrected line. R101, R102 and R104: the scrub reads the PC's next line and moves its pointer on, leaves self-refresh
for a batch, and reports a line that is behind or overdue. -/
def Obligations.ErasuresWritebackAndScrub : Prop :=
  (∀ (who : Accessor) (pc : PcNo) (lane : Nat) (s : State), takes s who (0x40 + pc.val) = true →
    s.lifeCycle = 3 → s.erasedLanes pc = [lane] →
    ∃ t, exec (.laneErasureClear who pc 0x45520001) s = .next t ∧ t.rd (PC_ECC_STAT.erased.pc pc) = 0 ∧
      t.rd ((PC_LANE_CNT.count.pc pc).ix lane) = 0 ∧ t.lines = s.lines ∧ t.crypto = s.crypto) ∧
  (∀ (who : Accessor) (pc : PcNo) (val : Word) (s : State), takes s who (0x40 + pc.val) = true →
    (s.lifeCycle = 2 ∨ val.toNat / 2 ^ 16 ≠ 0x4552) →
    ∃ t, exec (.laneErasureClear who pc val) s = .next t ∧ t.rd (PC_ECC_STAT.clear_refused.pc pc) = 1 ∧
      SameRegs s t [PC_ECC_STAT.clear_refused.pc pc] ∧ t = { s with flds := t.flds }) ∧
  (∀ (pc : PcNo) (loc : Nat) (l : StoredLine) (rest : List (Nat × StoredLine)) (s : State),
    (s.pc pc).wb = (loc, l) :: rest → (s.pc pc).writeTo loc = none → (s.pc pc).wbursts = [] → s.bist.inj = [] →
    l ≠ StoredLine.poisoned l.data → (s.placeOf loc).pc = pc.val → s.on (PC_SR_STAT.in_sr.pc pc) = false →
    s.on (PC_SR_STAT.entering.pc pc) = false →
    ∃ t, exec (.correctedWriteback pc) s = .next t ∧ t.line loc = l ∧ (∀ a, a / 64 ≠ loc / 64 → t.line a = s.line a) ∧
      (t.pc pc).wb = rest.filter (fun e => decide (e.1 ≠ lineAddr loc)) ∧ SameRegs s t [] ∧
      t = { s with pcs := t.pcs, lines := t.lines, gauge := t.gauge, therm := t.therm, mbox := t.mbox }) ∧
  (∀ (pc : PcNo) (s : State), s.on SCRUB_CTL.scrub_en = true → s.safe = false → s.serving = true →
    s.pcPresent pc = true → s.on (PC_SR_STAT.in_sr.pc pc) = false → s.on (PC_SR_STAT.entering.pc pc) = false →
    s.bist.inj = [] → (s.pc pc).scrubPos + 1 < pcLines → (s.pc pc).scrubBack = [] →
    s.unfinishedBy (quireOf (s.locAt (scrubPlace pc (s.pc pc).scrubPos))) = none → s.scrubStalls pc = none →
    (s.judge (s.locAt (scrubPlace pc (s.pc pc).scrubPos)) []).outcome = .cleared →
    (s.judge (s.locAt (scrubPlace pc (s.pc pc).scrubPos)) []).lanes = [] →
    ∃ t, exec (.scrubRead pc [] true) s = .next t ∧ (t.pc pc).scrubPos = (s.pc pc).scrubPos + 1 ∧
      t.rd SCRUB_STAT.running = 1 ∧ t.rd SCRUB_STAT.pc_last = pc.val ∧ KeepsData s t) ∧
  (∀ (pc : PcNo) (s : State), s.on (PC_SR_STAT.in_sr.pc pc) = true → s.on (PC_SR_STAT.entering.pc pc) = false →
    s.on SCRUB_CTL.scrub_en = true → s.safe = false →
    ∃ t, exec (.scrubBatchWake pc) s = .next t ∧ t.rd (PC_SR_STAT.in_sr.pc pc) = 0 ∧ KeepsData s t) ∧
  (∀ (pc : PcNo) (s : State), s.pcPresent pc = true → (s.pc pc).scrubLate = 0 →
    ∃ t, exec (.scrubBehind pc) s = .next t ∧ t.rd SCRUB_STAT.behind = 1 ∧ t.rd (ERR_STAT.ce.on 0x1E) = 1 ∧
      (t.pc pc).scrubLate = 1 ∧ t.now = max s.now (s.scrubOldest pc + s.scrubPeriod * 95 / 100) ∧ KeepsData s t) ∧
  (∀ (pc : PcNo) (s : State), s.pcPresent pc = true → (s.pc pc).scrubLate < 2 →
    ∃ t, exec (.scrubOverdue pc) s = .next t ∧ t.rd SCRUB_STAT.overdue = 1 ∧ t.rd (ERR_STAT.uc.on 0x1E) = 1 ∧
      (t.pc pc).scrubLate = 2 ∧ t.now = max s.now (s.scrubOldest pc + s.scrubPeriod * 100 / 100) ∧ KeepsData s t)

/-- R105, R107 and R109 to R111: the self-check marks an unused slot bad; a repair redirects the row to a free slot; a request
for a repair is taken or refused with its reason; the Tip-in record is appended and committed; an entry with an
uncorrectable error is reloaded. -/
def Obligations.RowsAreRepairedAndRecorded : Prop :=
  (∀ (pc : PcNo) (b : BankNo) (k : Fin 32) (s : State), s.pcPresent pc = true → s.on SCRUB_CTL.scrub_en = true →
    s.safe = false → (s.tip (tipIndex pc b k)).valid = false → (s.tip (tipIndex pc b k)).bad = false →
    ((List.range 32).any fun b => decide (s.freeSlots pc b ≠ [])) = true → s.testFails pc [] = false →
    ∃ t, exec (.scrubSelfCheck pc [(b, k)] false []) s = .next t ∧ (t.tip (tipIndex pc b k)).bad = true ∧
      CountedUp s t SCRUB_SELFCHK_FAIL.count ∧ t.lines = s.lines ∧ t.crypto = s.crypto) ∧
  (∀ (pc : PcNo) (bank : BankNo) (row : Fin 32768) (s : State),
    (pc.val, bank.val, row.val) ∈ s.repair.due → s.rowCopied pc bank row = false → s.freeSlots pc bank ≠ [] →
    s.reloads pc bank = false →
    ∃ t, exec (.rowRepair pc bank row ⟨[], true⟩) s = .next t ∧
      ∃ k ∈ s.freeSlots pc bank, (t.tip (tipIndex pc bank k)).valid = true ∧ (t.tip (tipIndex pc bank k)).field = true ∧
        (t.tip (tipIndex pc bank k)).row = row.val) ∧
  (∀ (who : Accessor) (s : State), takes s who 0x1F = true → s.repairRefusal = none →
    ∃ t, exec (.tipinReqRepair who) s = .next t ∧ t.rd TIPIN_REQ_STAT.busy = 1 ∧ s.requestRow ∈ t.repair.due ∧
      SameRegs s t [TIPIN_REQ_STAT.busy] ∧ t = { s with flds := t.flds, repair := t.repair }) ∧
  (∀ (who : Accessor) (reason : Nat) (s : State), takes s who 0x1F = true → s.repairRefusal = some reason →
    ∃ t, exec (.tipinReqRepair who) s = .next t ∧ t.rd TIPIN_REQ_STAT.refused = 1 ∧
      t.rd TIPIN_REQ_STAT.reason = reason ∧ SameRegs s t [TIPIN_REQ_STAT.refused, TIPIN_REQ_STAT.reason] ∧
      t = { s with flds := t.flds }) ∧
  (∀ s : State, s.repair.append = none → s.repair.appendAgain = true → s.repair.loaded = true →
    ∃ t, exec .tipinRecordAppend s = .next t ∧ t.repair.append = some s.tipRecordNow ∧ t.repair.appendAgain = false ∧
      SameRegs s t [] ∧ t = { s with repair := t.repair, folio := t.folio }) ∧
  (∀ (r : TipRecord) (s : State), s.repair.append = some r → s.persistFused = true →
    ∃ t, exec (.tipinRecordCommit true) s = .next t ∧ t.folio.tipRecord = some r ∧ t.folio.tipPrev = s.folio.tipRecord ∧
      t.repair.append = none ∧ t.rd TIPIN_RECORD_SEQ_LO.seq = r.seq % 2 ^ 32 ∧
      t.rd TIPIN_RECORD_STAT.pending = (if s.repair.appendAgain then 1 else 0) ∧ t.lines = s.lines ∧
      t.crypto = s.crypto) ∧
  (∀ (c u : List (Fin 65536)) (s : State),
    ∃ t, exec (.tipinTableSweep c u) s = .next t ∧ (∀ e ∈ u, e.val ∈ t.repair.reloading) ∧
      t.repair.table = s.repair.table ∧ KeepsData s t) ∧
  (∀ (e : Fin 65536) (s : State), s.repair.reloading.contains e.val = true →
    ∃ t, exec (.tipinEntryReloaded e) s = .next t ∧ e.val ∉ t.repair.reloading ∧ t.tip e = s.tipSource e ∧ SameRegs s t [] ∧
      t = { s with repair := t.repair })

/-- R112, R113 and R116: Migrate starts for the oldest retirement, copies row by row and ends with the spare bank in
service; a recovery that outlasts its hold lets its reads go. -/
def Obligations.MigrateAndRecoveryRun : Prop :=
  (∀ (pc bank : Nat) (rest : List (Nat × Nat)) (s : State), s.repair.retire = (pc, bank) :: rest →
    s.kerfActive 3 = false →
    ∃ t, exec .migrateStart s = .next t ∧ t.repair.retire = rest ∧ t.rd (KERF_STAT.state.ix 3) = 2 ∧
      t.eng 3 = KerfEng.reset ∧
      SameRegs s t [TIPIN_RETIRE_PEND.count, KERF_STAT.state.ix 3, KERF_ARG.bank.ix 3, KERF_QDONE.quires.ix 3] ∧
      t = { s with flds := t.flds, repair := t.repair, kerf := t.kerf }) ∧
  (∀ s : State, s.mayStroke 3 = true → (s.eng 3).cur < 32768 → quiet s = true →
    s.kerfActive 0 = false → s.kerfActive 1 = false → s.dove.strokes = [] → s.lines = [] →
    s.reloads s.migrating.1 s.migrating.2 = false →
    ∃ t, exec (.migrateRow [] true) s = .next t ∧ (t.eng 3).cur = (s.eng 3).cur + 1 ∧
      t.rd (KERF_STAT.state.ix 3) = 2 ∧ CountedUp s t (KERF_QDONE.quires.ix 3) ∧ KeepsData s t) ∧
  (∀ s : State, s.kerfRuns 3 = true → 32768 ≤ (s.eng 3).cur →
    ∃ t, exec .migrateDone s = .next t ∧ t.rd (KERF_STAT.state.ix 3) = 4 ∧
      t.rd (PC_REPAIR_STAT.spare_state.pc s.migrating.1) = 2 ∧ t.lines = s.lines ∧ t.crypto = s.crypto) ∧
  (∀ (loc : Loc) (r : Recovery) (ends : Nat) (s : State),
    s.recoveries.find? (fun r => decide (r.loc = lineAddr loc.toNat)) = some r →
    (r.waiting.map (·.1)).min? = some ends →
    ∃ t, exec (.recoveryWaitExpiry loc) s = .next t ∧ t.now = max s.now ends ∧
      t.recoveries = s.recoveries.map (fun x => if x.loc = r.loc then
        { x with waiting := x.waiting.filter fun w => decide (t.now < w.1) } else x) ∧ KeepsData s t)

/-! ## Kerf engines and the Folio -/

/-- R49, R52 and R53: a Kerf starts over the range of its slot, is aborted, resumes, and is Done when its selection is. -/
def Obligations.KerfCommandsMoveTheSlot : Prop :=
  (∀ (who : Accessor) (slot : KerfNo) (s : State), takes s who 0x1A = true → s.startRefusal slot = none →
    ∃ t, exec (.kerfStart who slot) s = .next t ∧ t.rd (KERF_STAT.state.ix slot) = 2 ∧
      (t.eng slot).todo = [s.kerfRange slot] ∧ t.rd (KERF_QDONE.quires.ix slot) = 0 ∧
      SameRegs s t [KERF_STAT.state.ix slot, KERF_QDONE.quires.ix slot] ∧ t = { s with flds := t.flds, kerf := t.kerf }) ∧
  (∀ (who : Accessor) (slot : KerfNo) (reason : Nat) (s : State), takes s who 0x1A = true →
    s.startRefusal slot = some reason →
    ∃ t, exec (.kerfStart who slot) s = .next t ∧ t.rd (KERF_STAT.refused.ix slot) = 1 ∧
      t.rd (KERF_STAT.refuse_reason.ix slot) = reason ∧ t.kerf = s.kerf ∧ KeepsData s t) ∧
  (∀ (who : Accessor) (slot : KerfNo) (s : State), takes s who 0x1A = true → slot.val = 2 ∨ slot.val = 4 →
    s.kerfRuns slot = true → slot.val = 2 ∨ s.dove.strokes = [] →
    ∃ t, exec (.kerfAbort who slot) s = .next t ∧ t.rd (KERF_STAT.state.ix slot) = 5 ∧ t.kerf = s.kerf ∧ KeepsData s t) ∧
  (∀ (who : Accessor) (s : State), takes s who 0x1A = true → s.kerfRuns 4 = true → s.dove.strokes ≠ [] →
    ∃ t, exec (.kerfAbort who 4) s = .next t ∧ t.eng 4 = { s.eng 4 with aborting := true } ∧ SameRegs s t [] ∧
      t = { s with kerf := t.kerf }) ∧
  (∀ (who : Accessor) (slot : KerfNo) (s : State), takes s who 0x1A = true → slot.val = 2 ∨ slot.val = 4 →
    s.rd (KERF_STAT.state.ix slot) = 5 →
    ∃ t, exec (.kerfResume who slot) s = .next t ∧ t.rd (KERF_STAT.state.ix slot) = 2 ∧
      SameRegs s t [KERF_STAT.state.ix slot] ∧ t = { s with flds := t.flds }) ∧
  (∀ (slot : KerfNo) (s : State), slot.val ≠ 3 → s.kerfRuns slot = true → (s.eng slot).todo = [] →
    ∃ t, exec (.kerfDone slot) s = .next t ∧ t.rd (KERF_STAT.state.ix slot) = 4 ∧ t.kerf = s.kerf ∧ KeepsData s t) ∧
  (∀ (slot : KerfNo) (loc : Loc) (s : State), s.kerfRuns slot = true →
    ∃ t, exec (.kerfLineTimeout slot loc) s = .next t ∧ t.rd (ERR_STAT.fatal.on 0x1A) = 1 ∧ t.kerf = s.kerf ∧
      KeepsData s t)

/-- R52: the reasons for which a start is refused, in their order. -/
def Obligations.KerfStartRefusedInTheOrderOfItsReasons : Prop :=
  ∀ (k : KerfNo) (s : State),
    let range := s.rd (KERF_END.end_quire.ix k) ≤ s.rd (KERF_START.start_quire.ix k) ∨
      s.rd KERF_CAPACITY.quires < s.rd (KERF_END.end_quire.ix k)
    (s.startRefusal k = some 4 ↔ k.val ≠ 0 ∧ k.val ≠ 2) ∧
    (s.startRefusal k = some 6 ↔ (k.val = 0 ∨ k.val = 2) ∧ s.bindBusy = true) ∧
    (s.startRefusal k = some 1 ↔ (k.val = 0 ∨ k.val = 2) ∧ s.bindBusy = false ∧ s.kerfActive k = true) ∧
    (s.startRefusal k = some 7 ↔ k.val = 0 ∧ s.bindBusy = false ∧ s.kerfActive 0 = false ∧ s.kerfActive 1 = true) ∧
    (s.startRefusal k = some 2 ↔ (k.val = 0 ∧ s.kerfActive 1 = false ∨ k.val = 2) ∧ s.bindBusy = false ∧
      s.kerfActive k = false ∧ range) ∧
    (s.startRefusal k = some 3 ↔ k.val = 2 ∧ s.bindBusy = false ∧ s.kerfActive 2 = false ∧ ¬range ∧
      s.rekeySlots = false)

/-- R39, R152 and R213: the strokes of Clear and Rekey and the work of Lift. -/
def Obligations.KerfEnginesDoTheirStrokes : Prop :=
  (∀ (q : Nat) (s : State), s.mayStroke 0 = true → (s.eng 0).target = some q → quiet s = true →
    s.spanInFlight (q * quireLines + (s.eng 0).strokesOf q * strokeLines) = false →
    s.trackedIn (q * quireLines + (s.eng 0).strokesOf q * strokeLines)
      (q * quireLines + (s.eng 0).strokesOf q * strokeLines + strokeLines) = [] →
    ∃ t, exec .clearStroke s = .next t ∧
      (∀ n, q * quireLines + (s.eng 0).strokesOf q * strokeLines ≤ n →
        n < q * quireLines + (s.eng 0).strokesOf q * strokeLines + strokeLines → t.line (n * 64) = StoredLine.cleared) ∧
      (∀ n, (n < q * quireLines + (s.eng 0).strokesOf q * strokeLines ∨
        q * quireLines + (s.eng 0).strokesOf q * strokeLines + strokeLines ≤ n) → t.line (n * 64) = s.line (n * 64)) ∧
      ((s.eng 0).strokesOf q < 63 → (t.eng 0).strokesOf q = (s.eng 0).strokesOf q + 1 ∧ (t.eng 0).todo = (s.eng 0).todo) ∧
      (63 ≤ (s.eng 0).strokesOf q → Spans.mem q (t.eng 0).todo = false ∧ t.quire q = QEntry.reset ∧
        CountedUp s t (KERF_QDONE.quires.ix 0)) ∧
      t.rd (KERF_STAT.state.ix 0) = 2) ∧
  (∀ (q : Nat) (fails : Fin 3) (d : SlotData) (s : State), s.mayStroke 1 = true → (s.eng 1).target = some q →
    quiet s = true → fails.val < 2 → s.liftSource q = some d →
    ∃ t, exec (.liftQuire fails) s = .next t ∧
      t.lines = (s.replaceLines (q * quireLines) (q * quireLines + quireLines) d.opened).lines ∧
      t.quire q = { s.quire q with unlifted := false } ∧ (∀ p, p ≠ q → t.quire p = s.quire p) ∧
      Spans.mem q (t.eng 1).todo = false ∧ CountedUp s t (KERF_QDONE.quires.ix 1) ∧ t.rd (KERF_STAT.state.ix 1) = 2) ∧
  (∀ (q : Nat) (fails : Fin 3) (s : State), s.mayStroke 1 = true → (s.eng 1).target = some q → quiet s = true →
    fails.val = 2 ∨ s.liftSource q = none →
    ∃ t, exec (.liftQuire fails) s = .next t ∧
      t.lines = (s.replaceLines (q * quireLines) (q * quireLines + quireLines)
        ((List.range quireLines).map fun i => (i, StoredLine.poisoned 0))).lines ∧
      (t.quire q).state = .dirty ∧ (t.quire q).unlifted = false ∧ CountedUp s t FOLIO_LIFT_FAIL.count ∧
      Spans.mem q (t.eng 1).todo = false ∧ t.rd (KERF_STAT.state.ix 1) = 2) ∧
  (∀ (q : Nat) (s : State), s.mayStroke 2 = true → (s.eng 2).target = some q → quiet s = true →
    (s.key (s.eng 2).src).loaded = true → (s.key (s.eng 2).dst).loaded = true →
    (∀ x, x ∈ s.rekeyQuires q (q * quireLines + (s.eng 2).strokesOf q * strokeLines) → s.unfinishedBy x = none) →
    s.spanInFlight (q * quireLines + (s.eng 2).strokesOf q * strokeLines) = false → s.lines = [] →
    ∃ t, exec (.rekeyStroke [] .none) s = .next t ∧ t.lines = s.lines ∧ t.crypto = s.crypto ∧ t.folio.map = s.folio.map ∧
      ((s.eng 2).strokesOf q < 63 → (t.eng 2).strokesOf q = (s.eng 2).strokesOf q + 1 ∧ (t.eng 2).todo = (s.eng 2).todo) ∧
      (63 ≤ (s.eng 2).strokesOf q → Spans.mem q (t.eng 2).todo = false ∧ CountedUp s t (KERF_QDONE.quires.ix 2)) ∧
      t.rd (KERF_STAT.state.ix 2) = 2) ∧
  (∀ (q n : Nat) (l : StoredLine) (s : State), s.mayStroke 2 = true → (s.eng 2).target = some q → quiet s = true →
    s.bist.inj = [] → q < 131072 →
    (s.key (s.eng 2).src).loaded = true → (s.key (s.eng 2).dst).loaded = true →
    (s.key (s.eng 2).src).integrity = false → (s.key (s.eng 2).dst).integrity = false →
    s.unfinishedBy q = none → s.spanInFlight (q * quireLines + (s.eng 2).strokesOf q * strokeLines) = false →
    s.holdsAny [q] = false → s.lines = [(n, l)] →
    q * quireLines + (s.eng 2).strokesOf q * strokeLines ≤ n →
    n < q * quireLines + (s.eng 2).strokesOf q * strokeLines + strokeLines → (s.eng 2).strokesOf q < 63 →
    s.cached (n * 64) = none → (s.judge (n * 64) []).outcome = .clean →
    (s.judge (n * 64) []).line.isPoisoned = false → (s.judge (n * 64) []).line ≠ StoredLine.cleared →
    ∃ t, exec (.rekeyStroke [] .none) s = .next t ∧
      t.line (n * 64) = StoredLine.ofData (encryptLine ((s.eng 2).dst, s.key (s.eng 2).dst) (n * 64)
        (decryptLine ((s.eng 2).src, s.key (s.eng 2).src) (n * 64) (s.judge (n * 64) []).line.data)) ∧
      (∀ m, m ≠ n → t.line (m * 64) = s.line (m * 64)) ∧ (s.persistFused = true → (t.quire q).state = .dirty) ∧
      (t.eng 2).strokesOf q = (s.eng 2).strokesOf q + 1 ∧ t.rd (KERF_STAT.state.ix 2) = 2 ∧ t.crypto = s.crypto) ∧
  (∀ (q : Nat) (faults : List (Fin 256 × LineFaults)) (rest : LineFaults) (s : State), s.mayStroke 2 = true → (s.eng 2).target = some q →
    (s.key (s.eng 2).src).loaded = false ∨ (s.key (s.eng 2).dst).loaded = false →
    ∃ t, exec (.rekeyStroke faults rest) s = .next t ∧ t.rd (KERF_STAT.state.ix 2) = 3 ∧ t.kerf = s.kerf ∧ KeepsData s t)

/-- R145 and R147: Checkpoints are ordered, queued behind one that runs, cancelled and started. -/
def Obligations.CheckpointsAreOrderedAndStarted : Prop :=
  (∀ (who : Accessor) (s : State), takes s who 0x1B = true → s.persists = true → s.folio.running = none →
    ∃ t, exec (.ckpt who) s = .next t ∧ t.folio.ordered = some (max 1 (s.folio.ordered.getD 0)) ∧ SameRegs s t [] ∧
      t = { s with folio := t.folio }) ∧
  (∀ (who : Accessor) (s : State), takes s who 0x1B = true → s.persists = true → s.folio.running = none →
    ∃ t, exec (.ckptLimited who) s = .next t ∧ t.folio.ordered = some (s.folio.ordered.getD 0) ∧ SameRegs s t [] ∧
      t = { s with folio := t.folio }) ∧
  (∀ (who : Accessor) (c : Commit) (s : State), takes s who 0x1B = true → s.persists = true →
    s.folio.running = some c →
    ∃ t, exec (.ckpt who) s = .next t ∧ t.rd FOLIO_STAT.ckpt_queued = 1 ∧ SameRegs s t [FOLIO_STAT.ckpt_queued] ∧
      t = { s with flds := t.flds }) ∧
  (∀ (who : Accessor) (c : Commit) (s : State), takes s who 0x1B = true → s.folio.running = some c →
    c.kind = 2 ∨ c.kind = 3 → c.flight ≠ [] →
    ∃ t, exec (.ckptCancel who) s = .next t ∧ t.folio.running = some { c with kind := 6, todo := [] } ∧
      SameRegs s t [] ∧ t = { s with folio := t.folio }) ∧
  (∀ s : State, s.folio.running = none → s.safe = false → s.serving = true → s.bindBusy = false →
    s.folio.ordered = some 1 → s.folio.plimit = false → s.persists = true → 2 ≤ s.bsnLeft →
    ∃ t, exec .checkpointStart s = .next t ∧ t.folio.running.isSome = true ∧ t.folio.ordered = none ∧
      t.folioActivity = 2 ∧ t.sys = s.sys)

/-- R133, R138, R157 and R161: a slot that reads back good is Staged, the commit ends the Checkpoint, an erase counts
wear, and persistence that failed is no longer active. -/
def Obligations.SlotsCommitsAndBlocks : Prop :=
  (∀ (c : Commit) (q n : Nat) (rest : List (Nat × Nat)) (s : State), s.folio.running = some c →
    c.kind = 2 → c.flight = (q, n) :: rest → c.todo = [] → (s.quire q).state = .clean ∨ (s.quire q).state = .dirty →
    (s.quire q).redirty = false →
    ∃ t, exec (.slotReadBack none) s = .next t ∧ (t.quire q).state = .staged ∧ (t.quire q).slot = some n ∧
      t.folio.running = some { c with flight := rest } ∧ t.lines = s.lines ∧ t.crypto = s.crypto ∧ t.sys = s.sys) ∧
  (∀ (c : Commit) (p0 p1 : Bool) (s : State), s.folio.running = some c → c.kind = 2 ∨ c.kind = 3 → c.todo = [] →
    c.flight = [] → s.serving = true → s.on FOLIO_STAT.ckpt_queued = false → (p0 || p1) = true →
    ∃ t, exec (.checkpointCommit p0 p1) s = .next t ∧ t.folio.running = none ∧
      (∃ i, t.folio.image = some i ∧ i.bsn = c.bsn ∧ i.kind = c.kind) ∧
      CountedUp s t FOLIO_CKPTS.count ∧ t.lines = s.lines) ∧
  (∀ (c : Commit) (s : State), s.folio.running = some c → c.kind = 2 ∨ c.kind = 3 → c.todo = [] →
    c.flight = [] → s.serving = true → s.on FOLIO_STAT.ckpt_queued = false →
    ∃ t, exec (.checkpointCommit false false) s = .next t ∧ t.folio.running = none ∧ t.folio.image = s.folio.image ∧
      t.rd FOLIO_CKPTS.count = s.rd FOLIO_CKPTS.count ∧ t.rd (ERR_STAT.uc.on 0x1B) = 1 ∧ t.lines = s.lines) ∧
  (∀ (block : Fin 278528) (s : State), s.blockKept block = false → (s.block block).wear + 1 < 18000 →
    ∃ t, exec (.blockErase block true) s = .next t ∧
      t.block block = { s.block block with wear := (s.block block).wear + 1, erased := true } ∧
      SameRegs s t [] ∧ t = { s with folio := t.folio }) ∧
  (∀ s : State, s.persists = true → s.folio.held = [] →
    ∃ t, exec (.persistenceFailed false) s = .next t ∧ t.rd FOLIO_STAT.persist = 3 ∧ t.rd (ERR_STAT.fatal.on 0x1B) =
      s.rd (ERR_STAT.fatal.on 0x1B) ∧ t.rd (ERR_STAT.uc.on 0x1B) = 1 ∧ t.lines = s.lines ∧ t.crypto = s.crypto)

/-- R150 and R535: the phases of a Global Persistent Flush complete, and a map entry that failed in both copies sends the
device to Safe State. -/
def Obligations.FlushCompletesAndLostEntriesStop : Prop :=
  (∀ (port : PortNo) (ld : LdNo) (tag : Nat) (s : State), s.carries port ld = true →
    ∃ t, exec (.gpfPhase1 port ld tag) s = .next t ∧ t.out = .gpf port ld tag 1 :: s.out ∧
      CountedUp s t FOLIO_GPF.count ∧ SameRegs s t [FOLIO_GPF.count] ∧ t = { s with flds := t.flds, out := t.out }) ∧
  (∀ (port : PortNo) (ld : LdNo) (tag : Nat) (s : State), s.carries port ld = true → s.openWrites = [] →
    ∃ t, exec (.gpfPhase2 port ld tag) s = .next t ∧ Out.gpf port ld tag 2 ∈ t.out ∧
      bitOf (t.rd (INT_STAT.causes.on 0x1B)) 8 = true ∧ t.lines = s.lines ∧ t.crypto = s.crypto) ∧
  (∀ (port : PortNo) (ld : LdNo) (tag : Nat) (s : State), s.carries port ld = true → s.openWrites ≠ [] →
    ∃ t, exec (.gpfPhase2 port ld tag) s = .next t ∧
      t.folio.gpf = s.folio.gpf ++ [{ port := port, ld := ld, tag := tag, open_ := s.openWrites }] ∧
      SameRegs s t [] ∧ t = { s with folio := t.folio }) ∧
  (∀ (repaired failed : List QuireNo) (q : QuireNo) (s : State), q ∈ failed →
    ∃ t, exec (.quireMapSweep repaired failed) s = .next t ∧ q.val ∈ t.folio.lostEntries ∧ t.safe = true) ∧
  (∀ (repaired : List QuireNo) (s : State), exec (.quireMapSweep repaired []) s = .next s)

/-! ## Power and the Reserve Bank -/

/-- R183: the comparator and PFAIL_N, the ride-through and the declaration of a power failure, after which a Bind is due;
R141, R142 and R144: the Bind begins, commits, ends with
nothing written, or is cut off by the bank's end voltage. -/
def Obligations.PowerFailureLeadsToABind : Prop :=
  (∀ s : State, s.sys.phase ≠ .off → s.on BANK_PF_STAT.vin_low = false →
    ∃ t, exec .vinBelowThreshold s = .next t ∧ t.rd BANK_PF_STAT.vin_low = 1 ∧ t.rd BANK_PF_STAT.bank_sw = 1 ∧
      t.bank.vinLowAt = some s.now ∧
      SameRegs s t [BANK_PF_STAT.vin_low, BANK_PF_STAT.bank_sw, SYS_SUPPLY.vin_good] ∧
      t = { s with flds := t.flds, bank := t.bank }) ∧
  (∀ s : State, s.on BANK_PF_STAT.vin_low = true → s.sys.phase ≠ .off → s.sys.phase ≠ .failing →
    ∃ t, exec .vinRecovered s = .next t ∧ t.rd BANK_PF_STAT.vin_low = 0 ∧ t.bank.vinLowAt = none ∧
      CountedUp s t BANK_RIDETHRU.count ∧ KeepsData s t) ∧
  (∀ s : State, s.bank.pfailLowAt = none →
    ∃ t, exec .pfailNLow s = .next t ∧ t.rd BANK_PF_STAT.pfail = 1 ∧ t.bank.pfailLowAt = some s.now ∧
      SameRegs s t [BANK_PF_STAT.pfail] ∧ t = { s with flds := t.flds, bank := t.bank }) ∧
  (∀ s : State,
    ∃ t, exec .pfailNRelease s = .next t ∧ t.rd BANK_PF_STAT.pfail = 0 ∧ t.bank.pfailLowAt = none ∧
      SameRegs s t [BANK_PF_STAT.pfail] ∧ t = { s with flds := t.flds, bank := t.bank }) ∧
  (∀ s : State, s.sys.phase = .active → s.on BANK_PF_STAT.vin_low = true → s.bindRuns = false → s.safe = false →
    s.folio.bindDue = none →
    ∃ t, exec (.powerFailDeclare true false) s = .next t ∧ t.sys.phase = .failing ∧
      t.folio.bindDue = some (1, false) ∧ t.rd BANK_PF_STAT.input_open = 1 ∧ t.chisel.jobs = []) ∧
  (∀ s : State, s.bindRuns = false → s.folio.bindDue = some (4, false) → s.persists = true →
    ∃ t, exec .bindStart s = .next t ∧ t.folio.bindDue = none ∧ t.bindRuns = true ∧
      (t.folio.running.map (·.kind)) = some 4) ∧
  (∀ (c : Commit) (p0 p1 : Bool) (vin : Nat) (s : State), s.folio.running = some c → c.kind = 1 → c.todo = [] →
    s.sys.phase = .failing → (p0 || p1) = true →
    ∃ t, exec (.bindCommit p0 p1 vin) s = .next t ∧ t.folio.running = none ∧
      (t.folio.image.map (·.bsn)) = some c.bsn ∧
      (vin ≤ 8800 → t.sys.phase = .off ∧ t.rd BANK_PF_LAST.false_alarm = 0) ∧
      (8800 < vin → t.sys.phase = .starting ∧ t.rd SYS_RST_CAUSE.cause = 3 ∧ t.rd BANK_PF_LAST.false_alarm = 1 ∧
        t.rd BANK_PF_CTL.bus48 = (if 24000 < vin then 1 else 0))) ∧
  (∀ (p0 p1 : Bool) (vin : Nat) (s : State), s.folio.running = none → s.folio.bindEmpty = true →
    s.sys.phase = .failing →
    ∃ t, exec (.bindCommit p0 p1 vin) s = .next t ∧ t.folio.bindEmpty = false ∧ t.folio.image = s.folio.image ∧
      (vin ≤ 8800 → t.sys.phase = .off ∧ t.rd BANK_PF_LAST.false_alarm = 0) ∧
      (8800 < vin → t.sys.phase = .starting ∧ t.rd SYS_RST_CAUSE.cause = 3 ∧ t.rd BANK_PF_LAST.false_alarm = 1)) ∧
  (∀ s : State, s.sys.phase = .failing →
    ∃ t, exec .bankEndVoltage s = .next t ∧ t.sys.phase = .off ∧ t.folio.running = none ∧ t.folio.bindDue = none ∧
      t.folio.image = s.folio.image ∧ t.folio.slots = s.folio.slots)

/-- R172 to R174 and R576 to R578: the housekeeping round samples the bank; a measurement takes V0, V1, V2 and V3 and gives C
and ESR; the bank's EEPROM is read, retried, written in two pages of a record, and a stuck bus is cleared. -/
def Obligations.ReserveBankIsMeasuredAndRecorded : Prop :=
  (∀ (v i headroom vin : Nat) (s : State), s.sys.phase ≠ .off → s.present 0x1C = true → s.bank.vinDisagree = 0 →
    ∃ t, exec (.bankHousekeepingRound v ⟨i, headroom⟩ vin) s = .next t ∧ t.bank.sampleMv = v ∧
      t.bank.roundAt = some (match s.bank.roundAt with | some r => max s.now (r + 10000000000) | none => s.now) ∧
      t.rd BANK_VIN.mv = min vin 65535 ∧ t.rd BANK_ICHG.ma ≤ max 250 headroom ∧
      t.rd BANK_ICHG.ma ≤ 125 * s.rd BANK_CTL.i_max ∧
      (s.chargerOn = true → v < s.chargeTarget → t.rd BANK_ICHG.ma = min (s.chargeLimit headroom) 4095) ∧
      (s.chargerOn = false → t.rd BANK_ICHG.ma = 0) ∧
      t.lines = s.lines ∧ t.crypto.keys = s.crypto.keys) ∧
  (∀ (v i headroom vin : Nat) (s : State), s.sys.phase ≠ .off → s.safe = false → s.bank.vinDisagree = 1 →
    (if s.on BANK_PF_STAT.vin_low = true then s.rd BANK_PF_CTL.vin_thresh * 100 + 500 < vin
      else vin + 500 < s.rd BANK_PF_CTL.vin_thresh * 100) →
    ∃ t, exec (.bankHousekeepingRound v ⟨i, headroom⟩ vin) s = .next t ∧ EnteredSafe t 0x07 0x1208) ∧
  (∀ (who : Accessor) (v : Nat) (s : State), takes s who 0x1C = true → s.on BANK_STAT.measuring = false →
    s.sys.phase ≠ .failing →
    ∃ t, exec (.measure who v) s = .next t ∧ t.rd BANK_STAT.measuring = 1 ∧ t.rd BANK_STAT.charging = 0 ∧
      t.rd BANK_PF_STAT.bank_sw = 1 ∧ t.bank.v0 = v * 100 ∧ t.bank.measAt = s.now ∧
      SameRegs s t [BANK_STAT.measuring, BANK_STAT.charging, BANK_PF_STAT.bank_sw] ∧
      t = { s with flds := t.flds, bank := t.bank }) ∧
  (∀ (v : Nat) (s : State), s.bank.startMeasured = true ∨ s.bank.discards ≠ 0 → s.present 0x1C = true → s.on BANK_STAT.measuring = false →
    s.sys.phase ≠ .off → s.sys.phase ≠ .failing →
    ∃ t, exec (.measurePeriodExpiry v) s = .next t ∧ t.rd BANK_STAT.measuring = 1 ∧ t.bank.v0 = v * 100 ∧
      t.bank.measAt = t.now ∧ t.now = max s.now (s.bank.measAt + s.rd BANK_MEAS_CTL.period_h * 3600000000000000) ∧
      KeepsData s t) ∧
  (∀ (v r : Nat) (s : State), s.bank.retryAt = some r → s.on BANK_STAT.measuring = false → s.sys.phase ≠ .off →
    s.sys.phase ≠ .failing →
    ∃ t, exec (.measureRetry v) s = .next t ∧ t.rd BANK_STAT.measuring = 1 ∧ t.bank.v0 = v * 100 ∧
      t.bank.retryAt = none ∧ t.now = max s.now r ∧ KeepsData s t) ∧
  (∀ (second : Bool) (v : Nat) (s : State), s.on BANK_STAT.measuring = true →
    ∃ t, exec (.measureSample second v) s = .next t ∧ (if second then t.bank.v2 else t.bank.v1) = some v ∧
      (if second then t.bank.v1 else t.bank.v2) = (if second then s.bank.v1 else s.bank.v2) ∧ SameRegs s t [] ∧
      t = { s with now := t.now, clk := t.clk, bank := t.bank }) ∧
  (∀ (v1 v2 v3 : Nat) (s : State), s.on BANK_STAT.measuring = true → s.bank.v1 = some v1 → s.bank.v2 = some v2 →
    v3 < v2 → 20000 ≤ 9500000000 / (v2 - v3) → 9500000000 / (v2 - v3) ≤ 1000000 → 1000000 ≤ v3 →
    ∃ t, exec (.measureEnd v3) s = .next t ∧ t.rd BANK_CAP.uf = 9500000000 / (v2 - v3) ∧
      t.rd BANK_ESR.esr = min ((s.bank.v0 - v1) / 5) 0xFFFF ∧ t.rd BANK_STAT.meas_valid = 1 ∧
      t.rd BANK_STAT.measuring = 0 ∧ t.lines = s.lines) ∧
  (∀ (who : Accessor) (d : EepromData) (s : State), takes s who 0x1C = true → s.sys.vauxGood = true →
    s.bank.recWrite = none →
    ∃ t, exec (.eepromReread who (some d)) s = .next t ∧ t.bank.eeprom = some d ∧ t.rd SB_BANK_STAT.last_ok = 1 ∧
      t.lines = s.lines ∧ t.crypto = s.crypto) ∧
  (∀ (d : EepromData) (n : Nat) (s : State), s.sb.retrying = some n →
    ∃ t, exec (.bankBusRetry (some d)) s = .next t ∧ t.bank.eeprom = some d ∧ t.sb.retrying = none ∧
      t.now = s.now + 1000000000 ∧ t.lines = s.lines ∧ t.crypto = s.crypto) ∧
  (∀ s : State, s.sys.vauxGood = true → s.bank.recWrite = none → s.sb.retrying = none →
    ∃ t, exec (.bankBusStuck false) s = .next t ∧ t.sb.stuckRun = 0 ∧ CountedUp s t SB_BANK_CLEARS.count ∧
      KeepsData s t) ∧
  (∀ (k : Nat) (s : State), s.bank.recDue = some k → s.bank.recWrite = none → s.sb.retrying = none →
    s.bank.eeprom.isSome = true → s.sys.vauxGood = true → s.bindBusy = false → s.sys.phase ≠ .failing →
    ∃ t, exec .eepromRecordWrite s = .next t ∧ t.bank.recDue = none ∧ t.bank.recWrite = some (s.newRecord k, 1) ∧
      t.rd SB_BANK_STAT.busy = 1 ∧ SameRegs s t [SB_BANK_STAT.busy] ∧ t = { s with flds := t.flds, bank := t.bank }) ∧
  (∀ (r : EepromRec) (ok : Bool) (s : State), s.bank.recWrite = some (r, 1) →
    ∃ t, exec (.eepromWriteCycleDone ok) s = .next t ∧ t.bank.recWrite = some (r, 2) ∧
      t.out = .eepromWrite r.seq 1 :: s.out ∧ SameRegs s t [] ∧ t = { s with bank := t.bank, out := t.out }) ∧
  (∀ (r : EepromRec) (s : State), s.bank.recWrite = some (r, 2) →
    ∃ t, exec (.eepromWriteCycleDone true) s = .next t ∧
      t.bank.eeprom = s.bank.eeprom.map (fun d => EepromData.withRecord d r) ∧ t.rd SB_BANK_STAT.last_ok = 1 ∧
      t.lines = s.lines)

/-! ## Keys and the carve-out -/

/-- The registers that a key command may write besides what it sets: its record, the interrupt cause, and the note of a
message that met a link in low power. -/
def keyCmdRegs : List Fld :=
  [CRYPT_KEYCMD_LAST.opcode, CRYPT_KEYCMD_LAST.status, CRYPT_KEYCMD_LAST.fm, CRYPT_KEYCMD_CNT.count,
   INT_STAT.causes.on 0x19] ++ (List.range 4).map fun p => PHY_PM_STAT.last_outcome.port p

/-- R215 to R222: what the key commands set when nothing refuses them, with key retention off. R45: the unload of a slot
that a running Rekey names pauses its engine, and the load that restores its slots resumes it. -/
def Obligations.KeyCommandsSetTheirTables : Prop :=
  (∀ (session : Session) (load : KeyLoad) (s : State), s.sessionOpen session = true →
    s.loadStatus session load = none → s.on FOLIO_CTL.key_retain = false →
    ∃ t, exec (.loadKey session load) s = .next t ∧ t.key load.slot = loadedSlot load false ∧
      (∀ k, k ≠ load.slot → t.key k = s.key k) ∧ t.out.head? = some (.keyAnswer 0 [checkValue load.k1]) ∧
      t.rd CRYPT_KEYCMD_LAST.status = 0 ∧
      t.rd (KERF_STAT.state.ix 2) =
        (if s.rd (KERF_STAT.state.ix 2) = 3 ∧ s.rekeyNames load.slot = true ∧ t.rekeyLoaded = true then 2
          else s.rd (KERF_STAT.state.ix 2)) ∧
      SameRegs s t (KERF_STAT.state.ix 2 :: keyCmdRegs) ∧
      t = { s with flds := t.flds, crypto := t.crypto, ports := t.ports, out := t.out }) ∧
  (∀ (session : Session) (slot : Nat) (s : State), s.sessionOpen session = true → s.keysForbidden = false →
    slot ≤ 263 → s.hasAuthority session slot = true → s.on FOLIO_CTL.key_retain = false →
    ∃ t, exec (.unloadKey session slot) s = .next t ∧ t.key slot = KeySlot.empty ∧
      (∀ k, k ≠ slot → t.key k = s.key k) ∧ t.out.head? = some (.keyAnswer 0 []) ∧
      (if s.kerfRuns 2 = true ∧ s.rekeyNames slot = true ∧ s.rekeyLoaded = true then
        t.rd (KERF_STAT.state.ix 2) = 3 ∧ t.rd (ERR_STAT.ce.on 0x1A) = 1 ∧ t.kerf = s.kerf ∧ t.lines = s.lines ∧
          t.folio = s.folio ∧ t.crypto.rights = s.crypto.rights ∧ t.crypto.ranges = s.crypto.ranges
      else SameRegs s t keyCmdRegs ∧
        t = { s with flds := t.flds, crypto := t.crypto, ports := t.ports, out := t.out })) ∧
  (∀ (ld : Nat) (bitmap : BitVec 256) (s : State), s.sessionOpen .fm = true → s.keysForbidden = false →
    ld ≤ 15 → s.on FOLIO_CTL.key_retain = false →
    ∃ t, exec (.setRights .fm ld bitmap) s = .next t ∧ t.rights ld = bitmap ∧ (∀ m, m ≠ ld → t.rights m = s.rights m) ∧
      t.out.head? = some (.keyAnswer 0 []) ∧ SameRegs s t keyCmdRegs ∧
      t = { s with flds := t.flds, crypto := t.crypto, out := t.out }) ∧
  (∀ (index : Nat) (mask : BitVec 16) (base stop : Nat) (s : State), s.sessionOpen .fm = true →
    s.keysForbidden = false → index ≤ 7 → s.rangeRefused index base stop = false → s.on FOLIO_CTL.key_retain = false →
    ∃ t, exec (.setRange .fm index true mask base stop) s = .next t ∧
      t.range index = { enabled := true, mask := mask, base := base, stop := stop } ∧
      (∀ n, n ≠ index → t.range n = s.range n) ∧ t.readCrypt index CRYPT_RANGE_CFG.enabled = some 1 ∧
      t.out.head? = some (.keyAnswer 0 []) ∧ t = { s with flds := t.flds, crypto := t.crypto, out := t.out }) ∧
  (∀ (session : Session) (slot : Nat) (s : State), s.sessionOpen session = true → s.keysForbidden = false →
    slot ≤ 263 → s.hasAuthority session slot = true →
    ∃ t, exec (.querySlot session slot) s = .next t ∧
      t.out = .keyAnswer 0 [s.slotStat slot, s.slotKcv slot] :: s.out ∧ SameRegs s t keyCmdRegs ∧
      t = { s with flds := t.flds, out := t.out })

/-- R214 and R216: a key command that fails returns its status, and changes no key table; one outside an open session of
the authority that it claims changes nothing. -/
def Obligations.FailedKeyCommandsChangeNoTable : Prop :=
  (∀ (session : Session) (load : KeyLoad) (st : Nat) (s : State), s.sessionOpen session = true →
    s.loadStatus session load = some st →
    ∃ t, exec (.loadKey session load) s = .next t ∧ t.crypto = s.crypto ∧ t.out.head? = some (.keyAnswer st []) ∧
      SameRegs s t keyCmdRegs) ∧
  (∀ (port : PortNo) (ld : LdNo) (n : Nat) (bitmap : BitVec 256) (s : State), s.sessionOpen (.ld port ld) = true →
    s.keysForbidden = false → n ≤ 15 →
    ∃ t, exec (.setRights (.ld port ld) n bitmap) s = .next t ∧ t.crypto = s.crypto ∧
      t.out.head? = some (.keyAnswer 1 []) ∧ SameRegs s t keyCmdRegs) ∧
  (∀ (session : Session) (opcode : BitVec 16) (s : State), s.sessionOpen session = true →
    ∃ t, exec (.keyCmdUnknown session opcode) s = .next t ∧ t.crypto = s.crypto ∧
      t.rd CRYPT_KEYCMD_LAST.status = 9 ∧ t.out.head? = some (.keyAnswer 9 []) ∧ SameRegs s t keyCmdRegs) ∧
  (∀ (session : Session) (load : KeyLoad) (slot ld index base stop : Nat) (bitmap : BitVec 256) (enable : Bool)
    (mask : BitVec 16) (opcode : BitVec 16) (s : State), s.sessionOpen session = false →
    exec (.loadKey session load) s = .next s ∧ exec (.unloadKey session slot) s = .next s ∧
    exec (.setRights session ld bitmap) s = .next s ∧
    exec (.setRange session index enable mask base stop) s = .next s ∧ exec (.querySlot session slot) s = .next s ∧
    exec (.keyCmdUnknown session opcode) s = .next s)

/-- R162 and R192: the key record commits or is taken back; a master entry with an uncorrectable error unloads its slot,
which is reloaded from the record. -/
def Obligations.KeyRecordAndKeyTable : Prop :=
  (∀ (who : Accessor) (s : State), takes s who 0x1B = true → s.on FOLIO_CTL.key_retain = true →
    s.on (LOCK.lock.on 0x1B) = false →
    ∃ t, exec (.keyRetainClear who) s = .next t ∧ t.rd FOLIO_CTL.key_retain = 0 ∧ t.crypto.commit.isSome = true ∧
      SameRegs s t [FOLIO_CTL.key_retain] ∧ t = { s with flds := t.flds, crypto := t.crypto }) ∧
  (∀ (before : KeyTables) (answers : List (List Nat)) (s : State), s.crypto.commit = some (before, answers) →
    s.on FOLIO_CTL.key_retain = false → Sparse.wf (fun _ => KeySlot.empty) s.crypto.keys = true →
    ∃ t, exec (.keyRecordCommit true) s = .next t ∧ t.crypto.commit = none ∧ t.crypto.recKeys = [] ∧
      t.crypto.recRights = [] ∧ t.crypto.recRanges = [] ∧ t.out = (answers.map (Out.keyAnswer 0)).reverse ++ s.out ∧
      (∀ k, (t.key k).loaded = (s.key k).loaded ∧ (t.key k).k1 = (s.key k).k1) ∧ SameRegs s t [] ∧
      t = { s with free := t.free, crypto := t.crypto, folio := t.folio, out := t.out }) ∧
  (∀ (before : KeyTables) (answers : List (List Nat)) (s : State), s.crypto.commit = some (before, answers) →
    s.crypto.retried = false →
    ∃ t, exec (.keyRecordCommit false) s = .next t ∧ t.crypto = { s.crypto with retried := true } ∧
      t.rd (ERR_STAT.ce.on 0x1B) = 1 ∧ t.folio = s.folio ∧ t.lines = s.lines) ∧
  (∀ (before : KeyTables) (answers : List (List Nat)) (s : State), s.crypto.commit = some (before, answers) →
    s.crypto.retried = true →
    ∃ t, exec (.keyRecordCommit false) s = .next t ∧
      t.rd (KERF_STAT.state.ix 2) = before.rekey % 2 ^ KERF_STAT.state.width ∧ t.crypto.keys = before.keys ∧ t.crypto.rights = before.rights ∧
      t.crypto.ranges = before.ranges ∧ t.crypto.commit = none ∧ t.folio = s.folio ∧ t.lines = s.lines) ∧
  (∀ (c u : List SlotNo) (s : State),
    ∃ t, exec (.keyTableSweep c u) s = .next t ∧ (∀ k ∈ u, (t.key k).loaded = false) ∧
      (∀ k : Nat, (∀ x ∈ u, x.val ≠ k) → t.key k = s.key k) ∧ t.lines = s.lines ∧ t.folio = s.folio) ∧
  (∀ (slot : SlotNo) (s : State), (s.key slot).lost = true →
    ∃ t, exec (.keySlotReloaded slot) s = .next t ∧
      t.key slot = Sparse.get (fun _ => KeySlot.empty) s.crypto.recKeys slot ∧
      (∀ k, k ≠ slot.val → t.key k = s.key k) ∧ t.lines = s.lines ∧ t.folio = s.folio)

/-- R38 and R205: the carve-out becomes active or inactive with a Clear over it and a new capacity; R209: a flush leaves
no dirty line in the tag cache. -/
def Obligations.CarveOutAndTagCache : Prop :=
  (∀ (who : Accessor) (s : State), takes s who 0x19 = true → s.carve = false → s.carveRefusal true false = none →
    ∃ t, exec (.carveActivate who false) s = .next t ∧ t.carve = true ∧ t.rd CRYPT_CARVE_STAT.active = 1 ∧
      t.rd CRYPT_CARVE_STAT.busy = 1 ∧ t.rd KERF_CAPACITY.quires = s.carveBase % 2 ^ KERF_CAPACITY.quires.width ∧ t.rd (KERF_STAT.state.ix 0) = 2 ∧
      (t.eng 0).todo = [(s.carveBase, if s.area then s.fullQuires - 32 else s.fullQuires)] ∧ t.crypto.tags = [] ∧
      t.lines = s.lines ∧ t.folio = s.folio) ∧
  (∀ (who : Accessor) (s : State), takes s who 0x19 = true → s.carve = true → s.carveRefusal false false = none →
    ∃ t, exec (.carveDeactivate who) s = .next t ∧ t.carve = false ∧ t.rd CRYPT_CARVE_STAT.active = 0 ∧
      t.rd CRYPT_CARVE_STAT.busy = 1 ∧
      t.rd KERF_CAPACITY.quires = (if s.area then s.fullQuires - 32 else s.fullQuires) ∧
      t.rd (KERF_STAT.state.ix 0) = 2 ∧ t.crypto.tags = [] ∧ t.lines = s.lines ∧ t.folio = s.folio) ∧
  (∀ (who : Accessor) (activate : Bool) (reason : Nat) (s : State), takes s who 0x19 = true →
    s.carve ≠ activate → s.carveRefusal activate false = some reason →
    ∃ t, exec (if activate then .carveActivate who false else .carveDeactivate who) s = .next t ∧
      t.rd CRYPT_CARVE_STAT.refused = 1 ∧ t.rd CRYPT_CARVE_STAT.reason = reason ∧
      SameRegs s t [CRYPT_CARVE_STAT.refused, CRYPT_CARVE_STAT.reason] ∧ t = { s with flds := t.flds }) ∧
  (∀ (who : Accessor) (s : State), takes s who 0x19 = true →
    ∃ t, exec (.tcacheFlush who) s = .next t ∧ (∀ a x, t.cached a = some x → x.dirty = false) ∧
      (∀ a x, s.cached a = some x → ∃ y, t.cached a = some y) ∧ SameRegs s t [] ∧
      t = { s with lines := t.lines, pcs := t.pcs, crypto := t.crypto, gauge := t.gauge })

/-! ## Chisel and the Gauge -/

/-- The registers of a ring may be written by its own function at once (R321). -/
def ownRingOpen (s : State) (who : Accessor) (ring : Nat) : Bool :=
  s.regsOpen && s.hasRing ring && s.present 0x1D && !s.safe &&
  (match who with
   | .fn port ld => decide (masterOf port ld = ring)
   | .sideband => false)

/-- R248, R249, R254, R263, R265, R267 and R274: the tail is taken modulo the ring size; a ring that is enabled takes its size
between 2^4 and 2^16; a good descriptor becomes a job, a job starts, completes or is aborted, and its message is sent. -/
def Obligations.ChiselRingsAndJobs : Prop :=
  (∀ (who : Accessor) (ring : RingNo) (val : Word) (s : State), ownRingOpen s who ring = true →
    ∃ t, exec (.chiselRingTail who ring val) s = .next t ∧
      t.rd (CHISEL_RING_TAIL.tail.ix ring) = val.toNat % 2 ^ 16 % s.ringSize ring ∧
      SameRegs s t [CHISEL_RING_TAIL.tail.ix ring] ∧ t = { s with flds := t.flds }) ∧
  (∀ (who : Accessor) (ring : RingNo) (val : Word) (s : State), ownRingOpen s who ring = true →
    s.on (CHISEL_RING_CTL.enable.ix ring) = false → bitOf val.toNat 0 = true →
    ∃ t, exec (.chiselRingEnable who ring val) s = .next t ∧ t.rd (CHISEL_RING_CTL.enable.ix ring) = 1 ∧
      t.rd (CHISEL_RING_CTL.size_log2.ix ring) = clampTo 4 16 (val.toNat / 2 ^ 8 % 32) ∧
      t.rd (CHISEL_RING_CTL.keyid.ix ring) = val.toNat / 2 ^ 16 % 256 ∧
      SameRegs s t [CHISEL_RING_CTL.enable.ix ring, CHISEL_RING_CTL.size_log2.ix ring, CHISEL_RING_CTL.keyid.ix ring,
        CHISEL_RING_CTL.msix_vec.ix ring] ∧ t = { s with flds := t.flds }) ∧
  (∀ (who : Accessor) (ring : RingNo) (val : Word) (s : State), ownRingOpen s who ring = true →
    s.ringJobs ring = [] → bitOf val.toNat 0 = false →
    ∃ t, exec (.chiselRingEnable who ring val) s = .next t ∧ t.rd (CHISEL_RING_CTL.enable.ix ring) = 0 ∧
      t.rd (CHISEL_RING_STAT.stalled.ix ring) = 0 ∧ t = { s with flds := t.flds }) ∧
  (∀ (ring : RingNo) (lo hi : LineData) (s : State),
    let head := s.rd (CHISEL_RING_HEAD.head.ix ring)
    let dpa := s.ringEntry ring head
    let key := s.rd (CHISEL_RING_CTL.keyid.ix ring)
    let a := s.laneRead ring key 0 dpa
    let b := a.2.laneRead ring key 0 (dpa + 64)
    let u := b.2.wr (CHISEL_RING_HEAD.head.ix ring) ((head + 1) % s.ringSize ring)
    let j : Job :=
      { ring := ring, dpa := dpa, lo := lo, hi := hi, started := false, startTb := u.tbOr0, early := none, cut := none }
    s.mayFetch ring = true → a.1 = .data lo → b.1 = .data hi → u.goodRegion j.record 64 = true →
    u.descriptorStatus j = none → 0 < j.count → s.recalls (s.fetchDescriptor ring) = [] → b.2.ringSize ring = s.ringSize ring →
    ∃ t, exec (.descriptorFetch ring) s = .next t ∧ t.chisel.jobs.getLast? = some j ∧
      t.rd (CHISEL_RING_HEAD.head.ix ring) = (head + 1) % s.ringSize ring % 2 ^ CHISEL_RING_HEAD.head.width) ∧
  (∀ (ring : RingNo) (j : Job) (s : State), (s.ringJobs ring).find? (fun j => !j.started && j.cut.isNone) = some j →
    s.fenceHolds j = false → (s.key (s.slotFor (locOf j.src) j.keyId)).loaded = true →
    s.permitted ring (s.slotFor (locOf j.src) j.keyId) = true →
    ∃ t, exec (.jobStart ring) s = .next t ∧
      t.chisel.jobs = s.chisel.jobs.map (fun x =>
        if x = j then { j with started := true, startTb := s.tbOr0, early := none } else x) ∧
      SameRegs s t [] ∧ t = { s with chisel := t.chisel }) ∧
  (∀ (ring : RingNo) (lane : PcNo) (j : Job) (s : State),
    (s.ringJobs ring).find? (fun j => j.started || j.cut.isSome) = some j → j.cut = none → s.jobPauses j = false →
    s.recalls (s.resumeLane.finishJob j false lane) = [] →
    ∃ t, exec (.jobComplete ring false lane) s = .next t ∧ t.chisel.jobs = s.chisel.jobs.erase j) ∧
  (∀ (r : Nat) (rest : List Nat) (s : State), s.chisel.msix = r :: rest → (s.port (r / 4)).l1Req = false →
    s.rd (PHY_STAT.pm_state.port (r / 4)) = 0 →
    ∃ t, exec .msixSend s = .next t ∧ t.chisel.msix = rest ∧
      t.out = .msix (r / 4) (r % 4) (s.rd (CHISEL_RING_CTL.msix_vec.ix r)) :: s.out ∧ SameRegs s t [] ∧
      t = { s with chisel := t.chisel, out := t.out }) ∧
  (∀ (who : Accessor) (ring : RingNo) (val : Word) (j : Job) (s : State), ownRingOpen s who ring = true →
    bitOf val.toNat 24 = true → bitOf val.toNat 25 = true → s.ringJobs ring = [j] → j.cut = none →
    s.jobPauses j = false →
    ∃ t, exec (.chiselRingAbort who ring val false) s = .next t ∧ t.chisel.jobs = s.chisel.jobs.erase j)

/-- R232, R239 and R241: a window ends with every count of it, and an entry that failed returns to its reset values. -/
def Obligations.GaugeWindowAndTable : Prop :=
  (∀ s : State, s.sys.phase ≠ .off →
    ∃ t, exec .gaugeWindowStart s = .next t ∧ t.gauge.used = [] ∧ t.gauge.windowAt = t.now ∧
      t.now = s.now + s.windowLeft ∧ CountedUp s t GAUGE_WINDOWS.count ∧ t.rd GAUGE_DEMOTE_MAP.master = 0 ∧
      KeepsData s t) ∧
  (∀ (c u : List (Fin 208)) (s : State),
    ∃ t, exec (.gaugeTableSweep c u) s = .next t ∧ (∀ p ∈ u, t.pair p = PairForce.reset p) ∧
      (∀ p : Nat, (∀ x ∈ u, x.val ≠ p) → t.pair p = s.pair p) ∧ KeepsData s t)

/-! ## Dovetail -/

/-- A message has left for the partner, or waits only for room in the replay buffer (R283). -/
def DoveSent (t : State) (m : DoveMsg) : Prop := Out.dove m ∈ t.out ∨ m ∈ t.dove.txWait

/-- The pair is joined over a protected link (R282, R291). -/
def pairUp (s : State) : Bool := s.linkSafe && s.joined

/-- R284 and R288: the expected flit is accepted, one that fails its CRC is asked for again, a replay request is
remembered, and PAD does nothing. -/
def Obligations.DoveFlitsAreAcceptedOrReplayed : Prop :=
  (∀ (f : DoveFlit) (r : FlitRead) (s : State), s.linkUp = true → s.readFlit f = r → r.fecOk = true →
    r.fecCorrected = false → r.crcOk = true → (r.prot = true → r.macOk = true) → r.kind = 0 →
    r.seq = s.dove.rxSeq + 1 → r.messages = [.pad] →
    ∃ t, exec (.doveFlitReceive f) s = .next t ∧ t.dove.rxSeq = r.seq ∧ t.dove.rxDiscard = false ∧
      t.dove.rxCount = (if r.prot then s.dove.rxCount + 1 else s.dove.rxCount) ∧ SameRegs s t [] ∧
      t = { s with dove := t.dove, out := t.out }) ∧
  (∀ (f : DoveFlit) (r : FlitRead) (s : State), s.linkUp = true → s.readFlit f = r → r.fecOk = true →
    r.fecCorrected = false → r.crcOk = false → s.dove.sameAck < 3 → s.dove.fecRun < 8 →
    ∃ t, exec (.doveFlitReceive f) s = .next t ∧ t.dove.rxSeq = s.dove.rxSeq ∧ t.dove.rxDiscard = true ∧
      t.out = .doveFlit s.replayFlit :: s.out ∧ CountedUp s t DOVE_CRC_FAIL.count ∧
      CountedUp s t DOVE_REPLAYS.count ∧ SameRegs s t [DOVE_CRC_FAIL.count, DOVE_REPLAYS.count] ∧
      t = { s with flds := t.flds, dove := t.dove, out := t.out }) ∧
  (∀ (ack : BitVec 24) (s : State), s.linkUp = true → s.dove.lastReplay = none → s.dove.txWait = [] →
    ∃ t, exec (.doveReplayRequest ack) s = .next t ∧ t.dove.lastReplay = some (ack, s.now) ∧
      t.dove.replay = s.dove.replay.filter (fun f => !covered ack f.seq) ∧
      t.out = (t.dove.replay.map Out.doveFlit).reverse ++ s.out ∧ SameRegs s t [] ∧
      t = { s with dove := t.dove, out := t.out }) ∧
  (∀ s : State, exec .pad s = .next s)

/-- R282, R287, R299 and R304: the messages that set up, keep and order the pair. -/
def Obligations.DovePairMessages : Prop :=
  (∀ (h : Hello) (s : State), s.linkUp = true → s.rd DOVE_STAT.pair ≠ 3 →
    ∃ t, exec (.hello false h) s = .next t ∧ t.rd DOVE_PARTNER.unit = h.unit % 2 ^ DOVE_PARTNER.unit.width ∧
      t.rd DOVE_PARTNER.valid = 1 ∧
      t.rd DOVE_PARTNER.replaced = (if s.dove.recorded.isSome ∧ s.dove.recorded ≠ some h.unit then 1 else 0) ∧
      t.dove = s.dove ∧ KeepsData s t) ∧
  (∀ (b : Beat) (s : State), pairUp s = true → b.safe = false → b.resync = true → s.dove.withdrawing = [] →
    ∃ t, exec (.heartbeat b) s = .next t ∧ t.dove.beatAt = s.now ∧ t.dove.acked = max s.dove.acked b.applied ∧
      t.dove.partner.resync = true ∧ t.dove.queue = s.dove.queue.filter (fun e => decide (b.applied < e.w.osn)) ∧
      SameRegs s t [] ∧ t = { s with dove := t.dove }) ∧
  (∀ s : State, s.rd DOVE_STAT.link = 2 → s.rd DOVE_STAT.pair ≠ 3 →
    ∃ t, exec (.spdm true false) s = .next t ∧ t.rd DOVE_STAT.link = 3 ∧ t.dove.session = true ∧ t.lines = s.lines) ∧
  (∀ (osn stroke : Nat) (s : State), pairUp s = true → s.dove.strokes = [] → s.stalled = [] →
    s.dove.withdrawing = [] →
    ∃ t, exec (.mack osn stroke) s = .next t ∧ t.dove.acked = max s.dove.acked osn ∧
      (∀ e ∈ t.dove.queue, osn < e.w.osn) ∧ t.lines = s.lines ∧ t.crypto = s.crypto ∧ t.folio = s.folio) ∧
  (∀ (range : RangeNo) (promoted : Bool) (s : State), pairUp s = true → s.configured range = true →
    s.primary range = promoted → s.rangeState range ≠ 4 →
    ∃ t, exec (.role range promoted) s = .next t ∧ t.rangeState range = 4 ∧ t.dove = s.dove ∧ KeepsData s t) ∧
  (∀ (reason : Nat) (s : State), pairUp s = true →
    ∃ t, exec (.bye reason) s = .next t ∧ t.joined = false ∧ t.rd DOVE_STAT.pair = 2 ∧ t.dove.lossAt = some s.now ∧
      CountedUp s t DOVE_LOSSES.count)

/-- R115, R294, R296, R299, R300 and R306: the messages that carry lines, marks and ranges. -/
def Obligations.DoveLineAndRangeMessages : Prop :=
  (∀ (w : Mwrite) (n : Nat) (s : State), pairUp s = true → s.mirrorOf w.loc.toNat = some n → s.primary n = false →
    s.dove.applied < w.osn → s.dove.applyWait = [] → s.holdsAny (s.writeQuires (s.mwriteReq w)) = false →
    s.recalls (s.applyWrite w) = [] →
    ∃ t, exec (.mwrite w) s = .next t ∧ t.dove.applied = w.osn ∧ t.dove.mackDue = true ∧ t.dove.applyWait = []) ∧
  (∀ (ident : Nat) (loc : Loc) (n : Nat) (s : State), pairUp s = true → s.dove.applyWait = [] →
    s.mirrorOf (lineAddr loc.toNat) = some n → s.rekeyCovers (quireOf (lineAddr loc.toNat)) = false →
    s.primary n = true → s.unfinishedBy (quireOf (lineAddr loc.toNat)) = none → quiet s = true →
    s.snoopPort none (lineAddr loc.toNat) false = none →
    (s.judge (lineAddr loc.toNat) []).outcome = .cleared → (s.judge (lineAddr loc.toNat) []).lanes = [] →
    ∃ t, exec (.rreq ident loc) s = .next t ∧
      DoveSent t (.rrsp ident (BitVec.ofNat 37 (lineAddr loc.toNat))
        (s.formLine (lineAddr loc.toNat) (s.judge (lineAddr loc.toNat) []).line)) ∧
      SameRegs s t [] ∧ t = { s with dove := t.dove, gauge := t.gauge, out := t.out }) ∧
  (∀ (ident : Nat) (loc : Loc) (f : FormLine) (r : Recovery) (s : State), pairUp s = true → s.dove.applyWait = [] →
    s.recoveries.find? (fun r => decide (r.ident = ident)) = some r → f.kind = 2 → r.waiting = [] → r.writes = [] →
    quiet s = true → s.unfinishedBy (quireOf r.loc) = none → s.holdsAny [quireOf r.loc] = false → s.bist.inj = [] →
    s.recalls (s.onRrsp ident loc.toNat f) = [] →
    ∃ t, exec (.rrsp ident loc f) s = .next t ∧ t.line r.loc = StoredLine.cleared ∧
      t.recoveries = s.recoveries.filter (fun x => decide (x.loc ≠ r.loc)) ∧
      CountedUp s t TIPIN_RECOVER_OK.count) ∧
  (∀ (stroke : Nat) (loc : Loc) (f g : FormLine) (s : State), pairUp s = true → s.dove.applyWait = [] →
    f.kind = 2 → g.kind = 2 → quiet s = true → s.bist.inj = [] →
    s.holdsAny [quireOf loc.toNat, quireOf (loc.toNat + 64)] = false →
    s.unfinishedBy (quireOf loc.toNat) = none → s.unfinishedBy (quireOf (loc.toNat + 64)) = none →
    s.recalls (s.applyRdata stroke loc.toNat f g) = [] →
    ∃ t, exec (.rdata stroke loc f g) s = .next t ∧ t.line loc.toNat = StoredLine.cleared ∧
      t.line (loc.toNat + 64) = StoredLine.cleared ∧
      ((loc.toNat / 64 + 2) % 256 = 0 → t.dove.strokeApplied = max s.dove.strokeApplied stroke ∧ t.dove.mackDue = true)) ∧
  (∀ (quires : List QuireNo) (s : State), pairUp s = true →
    ∃ t, exec (.mark false quires) s = .next t ∧
      ∀ q ∈ quires, ∀ n, s.mirrorOf (q.val * 2 ^ 20) = some n → s.primary n = true → t.pushBit q = true) ∧
  (∀ (first : QuireNo) (bits : BitVec 1024) (s : State), pairUp s = true →
    ∃ t, exec (.bitmap true first bits) s = .next t ∧
      ∀ q ∈ bitmapQuires first bits, ∀ n, s.mirrorOf (q * 2 ^ 20) = some n → s.primary n = true → t.pullBit q = true) ∧
  (∀ (range : RangeNo) (base stop : Nat) (s : State), pairUp s = true → s.configured range = false →
    s.rangeFits range base stop = true →
    ∃ t, exec (.config range 1 0 base stop) s = .next t ∧ t.rangeState range = 2 ∧ t.primary range = false ∧
      t.rangeBase range = base % 2 ^ DOVE_RANGE_BASE.base_quire.width ∧
      t.rangeEnd range = stop % 2 ^ DOVE_RANGE_END.end_quire.width ∧
      DoveSent t (.config range 2 0 base stop) ∧ t.lines = s.lines ∧ t.crypto = s.crypto ∧ t.sys = s.sys)

/-- R286, R299, R303, R304 and R306: the timers of the pair and the Resync engine. -/
def Obligations.DoveTimersAndResync : Prop :=
  (∀ s : State, s.linkSafe = true → s.dove.applyWait = [] →
    ∃ t, exec .heartbeatTimer s = .next t ∧ t.dove.beatSent = s.dove.beatSent + 1 ∧ t.dove.tickAt = t.now ∧
      t.now = max s.now s.beatMark ∧ t.lines = s.lines) ∧
  (∀ s : State, s.joined = true →
    ∃ t, exec .partnerLost s = .next t ∧ t.joined = false ∧ t.rd DOVE_STAT.pair = 2 ∧
      t.now = max s.now (s.dove.beatAt + 30000000) ∧ t.dove.lossAt = some t.now ∧ CountedUp s t DOVE_LOSSES.count) ∧
  (∀ s : State, pairUp s = true → s.dove.applyWait = [] → s.dove.mackDue = true →
    ∃ t, exec .mackTimer s = .next t ∧ t.dove.mackDue = false ∧
      DoveSent t (.mack s.dove.applied s.dove.strokeApplied) ∧ SameRegs s t [] ∧
      t = { s with dove := t.dove, out := t.out }) ∧
  (∀ (l : Nat) (s : State), s.dove.lossAt = some l → s.on DOVE_CTL.auto_promote = true →
    ∃ t, exec .autoPromoteExpiry s = .next t ∧ t.dove.lossAt = none ∧
      (∀ n < 16, s.configured n = true → t.primary n = true) ∧
      t.now = max s.now (l + s.rd DOVE_CTL.promote_delay_us * 1000000) ∧ KeepsData s t) ∧
  (∀ (r : Req) (since : Nat) (s : State), s.dove.waiting = [(r, since)] → s.queueBlocks r = false →
    ∃ t, exec .doveQueueRoom s = .next t ∧ t.dove.waiting = []) ∧
  (∀ (q : Nat) (s : State), s.mayStroke 4 = true → pairUp s = true → (s.eng 4).target = some q →
    (s.eng 4).strokesOf q < 64 → s.rekeyMeets (s.rd (KERF_ARG.range.ix 4)) = false → s.unfinishedBy q = none →
    s.pullBit q = true → s.pushBit q = false →
    ∃ t, exec .resyncStroke s = .next t ∧ t.rd (KERF_STAT.state.ix 4) = 2 ∧ t.dove.strokeNext = s.dove.strokeNext + 1 ∧
      t.eng 4 = (s.eng 4).stroke q ∧ t.dove.reqNext = s.dove.reqNext + 256 ∧
      (t.dove.strokes.map (·.num)) = s.dove.strokes.map (·.num) ++ [s.dove.strokeNext] ∧ KeepsData s t)

/-- R291, R293, R295, R296, R304, R305 and R376: the commands of DOVE_CMD. -/
def Obligations.DoveCommandsAct : Prop :=
  (∀ (who : Accessor) (s : State), takes s who 0x14 = true → s.linkSafe = true → s.unlifted = 0 →
    ∃ t h, exec (.doveCmdJoin who) s = .next t ∧ t.dove.helloSent = true ∧ t.dove.hello = none ∧ DoveSent t (.hello h) ∧
      SameRegs s t [] ∧ t = { s with dove := t.dove, out := t.out }) ∧
  (∀ (who : Accessor) (s : State), takes s who 0x14 = true → pairUp s = true →
    ∃ t, exec (.doveCmdLeave who) s = .next t ∧ t.rd DOVE_STAT.pair = 0) ∧
  (∀ (who : Accessor) (range : RangeNo) (s : State), takes s who 0x14 = true → s.joined = false →
    s.configured range = false → s.rangeFits range (s.rangeBase range) (s.rangeEnd range) = true →
    ∃ t, exec (.doveCmdConfig who range) s = .next t ∧ t.primary range = true ∧ t.rangeState range = 3 ∧
      t.lines = s.lines ∧ t.crypto = s.crypto ∧ t.sys = s.sys) ∧
  (∀ (who : Accessor) (range : RangeNo) (s : State), takes s who 0x14 = true → s.configured range = true →
    s.dove.queue = [] → s.dove.withdrawing = [] →
    ∃ t, exec (.doveCmdUnconfig who range) s = .next t ∧ t.configured range = false ∧ t.lines = s.lines) ∧
  (∀ (who : Accessor) (range : RangeNo) (s : State), takes s who 0x14 = true → s.configured range = true →
    s.primary range = false →
    ∃ t, exec (.doveCmdPromote who range false) s = .next t ∧ t.primary range = true ∧ KeepsData s t) ∧
  (∀ (who : Accessor) (range : RangeNo) (s : State), takes s who 0x14 = true → s.primary range = true →
    s.rangeState range = 3 ∨ s.rangeState range = 4 →
    ∃ t, exec (.doveCmdDemote who range false) s = .next t ∧ t.primary range = false ∧
      t.dove.queue = s.dove.queue.filter (fun e => !s.inRange range (quireOf e.w.loc.toNat)) ∧
      SameRegs s t [DOVE_RANGE_STAT.primary.ix range] ∧ KeepsData s t) ∧
  (∀ (who : Accessor) (s : State), takes s who 0x14 = true → s.on DOVE_PARTNER.valid = true →
    s.on DOVE_PARTNER.replaced = true → s.dove.hello = none →
    ∃ t, exec (.doveCmdAccept who) s = .next t ∧ t.rd DOVE_PARTNER.replaced = 0 ∧ t.dove.accepted = true ∧
      t.dove.recorded = some (s.rd DOVE_PARTNER.unit) ∧ (∀ n < 16, s.configured n = true → t.primary n = true) ∧
      KeepsData s t) ∧
  (∀ (ppm : Int) (s : State), ppm.natAbs ≤ 100 →
    ∃ t, exec (.doveFreqOffset ppm) s = .next t ∧ t.rd (PHY_REFCLK.offset_ppm.port 4) = ofSigned 16 ppm ∧
      SameRegs s t [PHY_REFCLK.offset_ppm.port 4] ∧ t = { s with flds := t.flds })

/-! ## Ports and mailboxes -/

/-- R350, R351 and R355: what the resets of a port and of a logical device take away, and that a port trains once PERST
is high. -/
def Obligations.PortsAreResetAndTrain : Prop :=
  (∀ (port : PortNo) (group : GroupNo) (s : State), group.val = port.val → s.hasPort port = true →
    s.sys.phase = .active → s.stalled = [] → s.chisel.jobs = [] → s.folio.held = [] →
    ∃ t, exec (.portReset group 1 false) s = .next t ∧ (t.port port).perstHigh = false ∧ (t.port port).filter = [] ∧
      (t.port port).inv = [] ∧ (t.port port).streams = [] ∧ (t.port port).keysProgrammed = [] ∧
      t.rd (PORT_LINK_STAT.mode.port port) = 0 ∧ t.rd (PHY_STAT.ltssm.port port) = 0 ∧
      t.rd (PORT_LINK_STAT.epoch.port port) = (s.rd (PORT_LINK_STAT.epoch.port port) + 1) % 2 ^ PORT_LINK_STAT.epoch.width ∧
      t.rd (PORT_RESET_STAT.last_cause.port port) = 1 ∧ CountedUp s t (PORT_RESETS.count.port port) ∧
      (∀ l < 4, (t.ld (masterOf port l)).decoders = [] ∧
        (t.ld (masterOf port l)).info = (s.ld (masterOf port l)).info ∧
        (t.ld (masterOf port l)).fail = (s.ld (masterOf port l)).fail) ∧
      KeepsData s t) ∧
  (∀ (port : PortNo) (ld : LdNo) (s : State), s.hasPort port = true → s.linkOpen port = true → s.sys.phase = .active →
    s.stalled = [] → s.chisel.jobs = [] → s.folio.held = [] →
    ∃ t, exec (.cxlReset port ld) s = .next t ∧ (∀ e ∈ (t.port port).filter, e ∈ (s.port port).filter) ∧
      t.rd (PORT_RESET_STAT.last_cause.port port) = 5 ∧ t.rd (PORT_RESET_STAT.last_ld.port port) = ld.val ∧
      CountedUp s t (PORT_RESETS.count.port port) ∧ t.lds = s.lds ∧ KeepsData s t) ∧
  (∀ (port : PortNo) (ld : LdNo) (s : State), s.hasPort port = true → s.linkOpen port = true → s.sys.phase = .active →
    ∃ t, exec (.functionLevelReset port ld) s = .next t ∧ (t.ld (masterOf port ld)).fwOffset = none ∧
      (∀ l v, Out.msix l ld.val v ∉ (t.port port).waitOut) ∧ (t.port port).filter = (s.port port).filter ∧
      (t.ld (masterOf port ld)).decoders = (s.ld (masterOf port ld)).decoders ∧ SameRegs s t [] ∧
      t = { s with lds := t.lds, ports := t.ports }) ∧
  (∀ (port : PortNo) (group : GroupNo) (s : State), group.val = port.val →
    (s.setPort port { s.port port with perstHigh := true }).mayTrain port = true →
    s.rd (PHY_STAT.ltssm.port port) = 0 →
    ∃ t, exec (.perstRelease group) s = .next t ∧ (t.port port).perstHigh = true ∧
      t.rd (PHY_STAT.ltssm.port port) = 1 ∧ (∀ n < 8, (t.lane (port.val * 8 + n)).lock = none) ∧
      t = { s with flds := t.flds, ports := t.ports, lanes := t.lanes })

/-- R224, R323, R325, R332 and R358: decoders, the streams of IDE and the enables of configuration space. -/
def Obligations.DecodersAndIdeStreams : Prop :=
  (∀ (port : PortNo) (ld : LdNo) (index : LdNo × Bool) (dec : Decoder) (s : State), s.hasPort port = true →
    s.linkOpen port = true →
    (∀ o, Sparse.get (fun _ => none) (s.ld (masterOf port ld)).decoders (index.1.val * 2 + index.2.toNat) = some o →
      o.lock = false) →
    ∃ t, exec (.hdmDecoderCommit port ld index dec) s = .next t ∧
      (if s.mayCommit port ld (index.1.val * 2 + index.2.toNat) dec then
        Sparse.get (fun _ => none) (t.ld (masterOf port ld)).decoders (index.1.val * 2 + index.2.toNat) = some dec ∧
          index.1.val * 2 + index.2.toNat ∉ (t.ld (masterOf port ld)).notCommitted
      else Sparse.get (fun _ => none) (t.ld (masterOf port ld)).decoders (index.1.val * 2 + index.2.toNat) = none ∧
          index.1.val * 2 + index.2.toNat ∈ (t.ld (masterOf port ld)).notCommitted) ∧
      (∀ n, n ≠ masterOf port ld → t.ld n = s.ld n) ∧ t = { s with flds := t.flds, lds := t.lds }) ∧
  (∀ (port : PortNo) (ld : LdNo) (index : LdNo × Bool) (dec o : Decoder) (s : State),
    Sparse.get (fun _ => none) (s.ld (masterOf port ld)).decoders (index.1.val * 2 + index.2.toNat) = some o →
    o.lock = true → exec (.hdmDecoderCommit port ld index dec) s = .next s) ∧
  (∀ (port : PortNo) (keySet skid : Bool) (s : State), s.hasPort port = true → s.linkOpen port = true →
    s.sb.sessions ≠ [] → (3, keySet) ∈ (s.port port).keysProgrammed →
    ∃ t, exec (.ideKm port 3 1 keySet skid) s = .next t ∧ 3 ∈ (t.port port).streams ∧
      t.rd (PORT_IDE_STAT.cachemem.port port) = 1 ∧ t.rd (PORT_IDE_STAT.skid.port port) = skid.toNat ∧
      t.rd (PORT_IDE_STAT.key_set.port port) = keySet.toNat ∧ t.rd (PORT_IDE_STAT.insecure.port port) = 0 ∧
      t = { s with flds := t.flds, ports := t.ports }) ∧
  (∀ (port : PortNo) (stream : Fin 4) (keySet skid : Bool) (s : State), s.hasPort port = true →
    s.linkOpen port = true → s.sb.sessions ≠ [] → (stream.val, keySet) ∈ (s.port port).keysProgrammed →
    stream.val ∈ (s.port port).streams →
    ∃ t, exec (.ideKm port stream 2 keySet skid) s = .next t ∧
      Sparse.get (fun _ => false) (t.port port).keySets stream.val = keySet ∧
      (t.port port).streams = (s.port port).streams ∧ SameRegs s t [PORT_IDE_STAT.key_set.port port] ∧
      t = { s with flds := t.flds, ports := t.ports }) ∧
  (∀ (port : PortNo) (stream op : Fin 4) (keySet skid : Bool) (s : State), s.sb.sessions = [] →
    exec (.ideKm port stream op keySet skid) s = .next s) ∧
  (∀ (port : PortNo) (s : State), 3 ∈ (s.port port).streams →
    ∃ t, exec (.ideCheckFail port) s = .next t ∧ 3 ∉ (t.port port).streams ∧
      t.rd (PORT_IDE_STAT.insecure.port port) = 1 ∧ t.rd (PORT_IDE_STAT.cachemem.port port) = 0 ∧
      CountedUp s t (PORT_IDE_ERR.count.port port) ∧ KeepsData s t) ∧
  (∀ (port : PortNo) (ld : LdNo) (l0s l1 l11 l12 tsp : Bool) (s : State), s.hasPort port = true →
    s.linkOpen port = true →
    ∃ t, exec (.configSpaceWrite port ld l0s l1 l11 l12 tsp) s = .next t ∧
      t.ld (masterOf port ld) = { s.ld (masterOf port ld) with l0s := l0s, l1 := l1, l11 := l11, l12 := l12, tsp := tsp } ∧
      (∀ n, n ≠ masterOf port ld → t.ld n = s.ld n) ∧ t = { s with flds := t.flds, lds := t.lds })

/-- R329, R330, R528 and R529: a back-invalidate ends with its answer or at its timeout, and the oldest AER message
leaves no sooner than 100 µs after the function's last of its severity. -/
def Obligations.BackInvalidatesEndAndAerIsSent : Prop :=
  (∀ (port : PortNo) (loc : Loc) (i : BackInv) (s : State),
    (s.port port).inv.find? (fun i => decide (i.loc = lineAddr loc.toNat)) = some i → s.stalled = [] →
    s.dove.applyWait = [] →
    ∃ t, exec (.biResponse port loc none) s = .next t ∧ (t.port port).inv = (s.port port).inv.erase i ∧
      (i.inval = true → (t.port port).tracked i.loc = none) ∧ KeepsData s t) ∧
  (∀ (port : PortNo) (loc : Loc) (modified : Option LineData) (s : State),
    (s.port port).inv.find? (fun i => decide (i.loc = lineAddr loc.toNat)) = none →
    exec (.biResponse port loc modified) s = .next s ∧ exec (.biTimeout port loc) s = .next s) ∧
  (∀ (port : PortNo) (loc : Loc) (i : BackInv) (s : State),
    (s.port port).inv.find? (fun i => decide (i.loc = lineAddr loc.toNat)) = some i → s.stalled = [] →
    s.dove.applyWait = [] →
    ∃ t, exec (.biTimeout port loc) s = .next t ∧ (t.port port).inv = (s.port port).inv.erase i ∧
      (t.port port).tracked i.loc = none ∧ CountedUp s t (PORT_BI_TIMEOUT.count.port port) ∧
      t.now = max s.now (i.sentAt + s.rd (PORT_BI_CTL.timeout_us.port port) * 1000000) ∧ KeepsData s t) ∧
  (∀ (port : PortNo) (l sev : Nat) (rest : List (Nat × Nat)) (s : State), (s.port port).aer = (l, sev) :: rest →
    s.rd (PORT_LINK_STAT.mode.port port) ≠ 0 → s.rd (PHY_STAT.pm_state.port port) = 0 → (s.port port).l1Req = false →
    ∃ t, exec (.aerSend port) s = .next t ∧ t.out = .aer port l sev :: s.out ∧ (t.port port).aer = rest ∧
      (t.ld (masterOf port l)).aerAt sev = some t.now ∧
      (∀ at_, (s.ld (masterOf port l)).aerAt sev = some at_ → at_ + 100000000 ≤ t.now) ∧ SameRegs s t [] ∧
      t = { s with out := t.out, ports := t.ports, lds := t.lds, now := t.now, clk := t.clk })

/-- A mailbox serves at once: it is open (R318), the management core runs (R453), and the device is not DECOMMISSIONED
(R457). -/
def mboxServes (s : State) (port ld : Nat) : Bool :=
  s.mboxOpen port ld && decide (s.sys.mgmtDown = none) && decide (s.lifeCycle ≠ 4)

/-- The last output is the answer of a mailbox. -/
def Answered (t : State) (port ld code : Nat) (payload : List Nat) : Prop :=
  t.out.head? = some (.mailbox port ld code payload)

/-- The state once PERFORM_MAINTENANCE has named its row in TIPIN_REQ (R344). -/
def askedRepair (s : State) (dpa : Nat) : State :=
  (s.wr TIPIN_REQ_LO.dpa (dpa % 2 ^ 37)).wr TIPIN_REQ_HI.dpa (dpa % 2 ^ 37 / 2 ^ 32)

/-- R320, R324, R334 to R349: the commands that report answer with what they report and change nothing else. The numbers
that stand for return codes and payload fields are the model's (assumption 31). -/
def Obligations.MailboxReportsChangeNothing : Prop :=
  (∀ (port : PortNo) (ld : LdNo) (s : State), mboxServes s port ld = true →
    (∀ log : LogName, ((s.ld (masterOf port ld)).log (logNo log)).length ≤ 31 →
      exec (.getEventRecords port ld log) s = .next (s.emit (.mailbox port ld 0
        ([0, (s.ld (masterOf port ld)).lostOf (logNo log), ((s.ld (masterOf port ld)).log (logNo log)).length] ++
          ((s.ld (masterOf port ld)).log (logNo log)).flatMap EventRec.words)))) ∧
    exec (.getEventInterruptPolicy port ld) s = .next (s.emit (.mailbox port ld 0
      [(s.ld (masterOf port ld)).polInfo, (s.ld (masterOf port ld)).polWarn, (s.ld (masterOf port ld)).polFail,
       (s.ld (masterOf port ld)).polFatal])) ∧
    (∃ pay, exec (.getFwInfo port ld) s = .next (s.emit (.mailbox port ld 0
      ([2, s.rd SB_FW_STAT.active_slot + 1] ++ pay)))) ∧
    exec (.getTimestamp port ld) s = .next (s.emit (.mailbox port ld 0 [s.tb])) ∧
    exec (.getSupportedLogs port ld) s = .next (s.emit (.mailbox port ld 0 [0, 1])) ∧
    exec (.getLog port ld false) s = .next (s.emit (.mailbox port ld 0 mailboxOpcodes)) ∧
    exec (.getSupportedFeatures port ld) s = .next (s.emit (.mailbox port ld 0 [0, 1, 2])) ∧
    (s.lifeCycle ≠ 1 → exec (.identifyMemoryDevice port ld) s = .next (s.emit (.mailbox port ld 0
      [2 ^ 44, if s.sys.variant = 4 then 2 ^ 44 else 0, if s.sys.variant = 4 then 0 else 2 ^ 44, 0, 4096, 0]))) ∧
    exec (.getPartitionInfo port ld) s = .next (s.emit (.mailbox port ld 0
      (if s.sys.variant = 4 then [2 ^ 44, 0] else [0, 2 ^ 44]))) ∧
    (∃ temp dirty corr pers, exec (.getHealthInfo port ld) s = .next (s.drawn.emit (.mailbox port ld 0
      [s.needsCare.toNat + s.degraded.toNat * 2 + s.replaceNeeded.toNat * 4, s.mediaStatus, s.lifeUsed, temp, dirty, corr,
       pers]))) ∧
    exec (.getAlertConfig port ld) s = .next (s.emit (.mailbox port ld 0
      [(s.ld (masterOf port ld)).alertLife, (s.ld (masterOf port ld)).alertTemp])) ∧
    exec (.getShutdownState port ld) s = .next (s.emit (.mailbox port ld 0 [if s.cleanShutdown then 0 else 1])) ∧
    (∀ (dpa : BitVec 44) (len : Nat), s.owns port ld dpa.toNat len = true → s.mbox.poison = [] →
      s.mbox.poisonOverflow = none →
      exec (.getPoisonList port ld dpa len) s = .next (s.emit (.mailbox port ld 0 [0, 0, 0]))) ∧
    (∀ (dpa : BitVec 44) (len : Nat), s.owns port ld dpa.toNat len = true →
      exec (.getScanMediaCapabilities port ld dpa len) s = .next (s.emit (.mailbox port ld 0 [len / 20000000]))) ∧
    (∃ allocs, exec (.getLocationMap port ld) s = .next (s.emit (.mailbox port ld 0
      ([s.rd SYS_ID.variant, s.capacity, if s.carve then s.carveBase else 0xFFFFFFFF,
        if s.area then s.fullQuires - 32 else 0xFFFFFFFF, if s.keyAttr port ld then 2 else 1] ++ allocs)))) ∧
    (∃ pay, exec (.getPersistenceStatus port ld) s = .next (s.emit (.mailbox port ld 0 pay)) ∧ pay.length = 6) ∧
    (∀ page : Page, s.admin port ld = true → s.present page.val = true →
      ∃ pay, exec (.getErrorCapture port ld page) s = .next (s.emit (.mailbox port ld 0 pay)) ∧ pay.length = 15) ∧
    (∀ off : BitVec 32, s.admin port ld = true → off.toNat % 4 = 0 → off.toNat < 0x80000 → off.toNat ≠ 0x1108 →
      awake s (off.toNat / 4096) = true →
      ∃ v, exec (.readRegister port ld off) s = .next (s.emit (.mailbox port ld 0 [v])))) ∧
  (∀ (port : PortNo) (s : State), s.hasPort port = true → s.on (PORT_LINK_STAT.mld.port port) = true →
    s.rd (PORT_LINK_STAT.mode.port port) ≠ 0 → s.sys.mgmtDown = none → s.lifeCycle ≠ 4 →
    exec (.getLdAllocations port) s = .next (s.emit (.mailbox port 4 0 ((List.range 4).map (s.allocSize port)))) ∧
    exec (.setLdAllocations port) s = .next (s.emit (.mailbox port 4 3 [])))

/-- R320, R334, R335, R338 to R344, R346, R347, R349 and R574: what the commands that set something set, for a function
that may give them. The numbers that stand for return codes and payload fields are the model's (assumption 31). -/
def Obligations.MailboxCommandsTakeEffect : Prop :=
  (∀ (port : PortNo) (ld : LdNo) (log : LogName) (handles : List Nat) (s : State), mboxServes s port ld = true →
    ∃ t, exec (.clearEventRecords port ld log true handles) s = .next t ∧
      (t.ld (masterOf port ld)).log (logNo log) = [] ∧ (t.ld (masterOf port ld)).lostOf (logNo log) = 0 ∧
      (∀ n, n ≠ masterOf port ld → t.ld n = s.ld n) ∧ SameRegs s t [] ∧ t = { s with lds := t.lds, out := t.out }) ∧
  (∀ (port : PortNo) (ld : LdNo) (info warn fail fatal : Fin 3) (s : State), mboxServes s port ld = true →
    ∃ t, exec (.setEventInterruptPolicy port ld info warn fail fatal) s = .next t ∧
      t.ld (masterOf port ld) = { s.ld (masterOf port ld) with
        polInfo := info, polWarn := warn, polFail := fail, polFatal := fatal } ∧
      (∀ n, n ≠ masterOf port ld → t.ld n = s.ld n) ∧ SameRegs s t [] ∧ t = { s with lds := t.lds, out := t.out }) ∧
  (∀ (port : PortNo) (ld : LdNo) (offset version secver : Nat) (sigOk : Bool) (s : State),
    mboxServes s port ld = true → s.admin port ld = true → s.fwBusy (some (masterOf port ld)) = false →
    s.rd SB_FW_STAT.active_slot = 0 →
    ∃ t, exec (.transferFw port ld 0 offset version secver sigOk) s = .next t ∧ t.rd SB_FW_STAT.pending = 1 ∧
      t.sb.slot1 = { version := version, secver := secver, good := sigOk } ∧ t.sb.slot0 = s.sb.slot0 ∧
      Answered t port ld 0 [] ∧ SameRegs s t [SB_FW_STAT.pending] ∧
      t = { s with flds := t.flds, lds := t.lds, sb := t.sb, out := t.out }) ∧
  (∀ (port : PortNo) (ld : LdNo) (s : State), mboxServes s port ld = true → s.admin port ld = true → s.fwFits = true →
    ∃ t, exec (.activateFw port ld) s = .next t ∧
      t.rd SB_FW_STAT.active_slot = (1 - s.rd SB_FW_STAT.active_slot) % 2 ∧ t.rd SB_FW_STAT.pending = 0 ∧
      t.sb.trying = some (s.rd SB_FW_STAT.active_slot, s.now) ∧ t.sys.mgmtDown = some s.now ∧
      t.lines = s.lines ∧ t.crypto = s.crypto ∧ t.folio = s.folio) ∧
  (∀ (old at_ : Nat) (s : State), s.sb.trying = some (old, at_) →
    ∃ t, exec .fwFallback s = .next t ∧ t.rd SB_FW_STAT.active_slot = old % 2 ∧ t.rd SB_FW_STAT.fallback = 1 ∧
      t.now = max s.now (at_ + 100000000000) ∧ t.sb.trying = none ∧ t.sys.mgmtDown = some t.now ∧
      t.lines = s.lines ∧ t.crypto = s.crypto ∧ t.folio = s.folio) ∧
  (∀ (port : PortNo) (ld : LdNo) (ns : BitVec 64) (s : State), mboxServes s port ld = true →
    s.tbValid = false ∨ s.on (PORT_LD_CFG.ts_master.ld port ld) = true →
    ∃ t, exec (.setTimestamp port ld ns) s = .next t ∧ t.tbValid = true ∧ t.clk.tbPs = ns.toNat * 1000 ∧
      CountedUp s t TB_SETS.count ∧ t.rd GAUGE_STAT.short = 1 ∧ t.gauge.windowAt = s.now ∧ t.gauge.used = [] ∧
      Answered t port ld 0 [] ∧ KeepsData s t) ∧
  (∀ (port : PortNo) (ld : LdNo) (ns : BitVec 64) (s : State), mboxServes s port ld = true → s.tbValid = true →
    s.on (PORT_LD_CFG.ts_master.ld port ld) = false →
    ∃ t, exec (.setTimestamp port ld ns) s = .next t ∧ CountedUp s t (PORT_TS_IGNORED.count.port port) ∧
      Answered t port ld 0 [] ∧ SameRegs s t [PORT_TS_IGNORED.count.port port] ∧
      t = { s with flds := t.flds, out := t.out }) ∧
  (∀ (port : PortNo) (ld : LdNo) (s : State), mboxServes s port ld = true →
    exec (.getTimestamp port ld) s = .next (s.emit (.mailbox port ld 0 [s.tb]))) ∧
  (∀ (port : PortNo) (ld : LdNo) (dpa : BitVec 44) (s : State), mboxServes s port ld = true → s.lifeCycle ≠ 1 →
    ∃ t, exec (.injectPoison port ld dpa) s = .next t ∧ Answered t port ld 3 [] ∧ KeepsData s t) ∧
  (∀ (port : PortNo) (ld : LdNo) (cls : Fin 4) (dpa : BitVec 44) (s : State), mboxServes s port ld = true →
    s.admin port ld = true → cls.val ≠ 3 →
    (askedRepair s dpa.toNat).repairRefusal = none →
    ∃ t, exec (.performMaintenance port ld cls dpa) s = .next t ∧ Answered t port ld 1 [] ∧
      t.rd64 TIPIN_REQ_LO.dpa TIPIN_REQ_HI.dpa = dpa.toNat % 2 ^ 37 ∧ t.rd TIPIN_REQ_STAT.busy = 1 ∧
      t.repair.request = some (askedRepair s dpa.toNat).requestRow ∧
      (askedRepair s dpa.toNat).requestRow ∈ t.repair.due ∧
      t.mbox.ops = s.mbox.ops ++ [{ kind := 4, port := port, ld := ld, first := 0, lines := 0 }] ∧
      SameRegs s t [TIPIN_REQ_LO.dpa, TIPIN_REQ_HI.dpa, TIPIN_REQ_STAT.busy] ∧
      t = { s with flds := t.flds, repair := t.repair, mbox := t.mbox, out := t.out }) ∧
  (∀ (port : PortNo) (ld : LdNo) (cls : Fin 4) (dpa : BitVec 44) (reason : Nat) (s : State),
    mboxServes s port ld = true → s.admin port ld = true → cls.val ≠ 3 →
    (askedRepair s dpa.toNat).repairRefusal = some reason →
    ∃ t, exec (.performMaintenance port ld cls dpa) s = .next t ∧ Answered t port ld (if reason = 3 then 6 else 2) [] ∧
      t.rd64 TIPIN_REQ_LO.dpa TIPIN_REQ_HI.dpa = dpa.toNat % 2 ^ 37 ∧ t.rd TIPIN_REQ_STAT.refused = 1 ∧
      t.rd TIPIN_REQ_STAT.reason = reason ∧
      SameRegs s t [TIPIN_REQ_LO.dpa, TIPIN_REQ_HI.dpa, TIPIN_REQ_STAT.refused, TIPIN_REQ_STAT.reason] ∧
      t = { s with flds := t.flds, out := t.out }) ∧
  (∀ (port : PortNo) (ld : LdNo) (life temp : Nat) (s : State), mboxServes s port ld = true → s.admin port ld = true →
    ∃ t, exec (.setAlertConfig port ld life temp) s = .next t ∧
      t.ld (masterOf port ld) = { s.ld (masterOf port ld) with alertLife := life, alertTemp := temp } ∧
      (∀ n, n ≠ masterOf port ld → t.ld n = s.ld n) ∧ SameRegs s t [] ∧ t = { s with lds := t.lds, out := t.out }) ∧
  (∀ (port : PortNo) (ld : LdNo) (clean : Bool) (s : State), mboxServes s port ld = true → s.admin port ld = true →
    ∃ t, exec (.setShutdownState port ld clean) s = .next t ∧ t.cleanShutdown = clean ∧ t.folio.image = s.folio.image ∧
      SameRegs s t [] ∧ t = { s with folio := t.folio, out := t.out }) ∧
  (∀ (port : PortNo) (ld : LdNo) (dpa : BitVec 44) (s : State), mboxServes s port ld = true → s.admin port ld = true →
    s.lifeCycle = 1 → s.openLoc (lineAddr (locOf dpa.toNat)) = true → quiet s = true →
    s.wouldHold (quireOf (locOf dpa.toNat)) = false →
    s.unfinishedBy (quireOf (lineAddr (locOf dpa.toNat))) = none →
    s.snoopPort none (lineAddr (locOf dpa.toNat)) true = none →
    ∃ t, exec (.injectPoison port ld dpa) s = .next t ∧ Answered t port ld 0 [] ∧
      t.line (lineAddr (locOf dpa.toNat)) =
        StoredLine.poisoned (s.line (lineAddr (locOf dpa.toNat))).data ∧
      (∀ a, a / 64 ≠ locOf dpa.toNat / 64 → t.line a = s.line a) ∧ t.crypto = s.crypto ∧ t.sys = s.sys) ∧
  (∀ (port : PortNo) (ld : LdNo) (dpa : BitVec 44) (s : State), mboxServes s port ld = true →
    s.owns port ld dpa.toNat 64 = true → s.openLoc (lineAddr (locOf dpa.toNat)) = true → quiet s = true →
    s.wouldHold (quireOf (locOf dpa.toNat)) = false →
    s.unfinishedBy (quireOf (lineAddr (locOf dpa.toNat))) = none → s.anyConfigured = false →
    s.snoopPort none (lineAddr (locOf dpa.toNat)) true = none →
    ∃ t, exec (.clearPoison port ld dpa 0) s = .next t ∧ Answered t port ld 0 [] ∧
      t.line (locOf dpa.toNat) = StoredLine.cleared ∧
      (∀ a, a / 64 ≠ locOf dpa.toNat / 64 → t.line a = s.line a) ∧ t.crypto.keys = s.crypto.keys ∧ t.sys = s.sys) ∧
  (∀ (port : PortNo) (ld : LdNo) (dpa : BitVec 44) (len : Nat) (s : State), mboxServes s port ld = true →
    s.owns port ld dpa.toNat len = true → s.bgBusy 2 = false →
    exec (.scanMedia port ld dpa len) s =
      .next ((s.bgStart 2 port ld (locOf dpa.toNat / 64) (len / 64)).emit (.mailbox port ld 1 []))) ∧
  (∀ (port : PortNo) (ld : LdNo) (s : State), mboxServes s port ld = true → s.mbox.scan.length ≤ 254 →
    ∃ t, exec (.getScanMediaResults port ld) s = .next t ∧ t.mbox.scan = [] ∧
      Answered t port ld 0 ([0, s.mbox.scan.length] ++ s.mbox.scan) ∧ SameRegs s t [] ∧
      t = { s with mbox := t.mbox, out := t.out }) ∧
  (∀ (port : PortNo) (ld : LdNo) (s : State), mboxServes s port ld = true → s.admin port ld = true →
    s.eraseRefusal = none →
    ∃ t u, exec (.sanitize port ld) s = .next t ∧ exec (.secureErase port ld) s = .next u ∧
      t.crypto.keys = [] ∧ t.crypto.rights = [] ∧ t.crypto.ranges = [] ∧ u.crypto = t.crypto ∧
      t.mbox.sanitizing = true ∧ t.rd (KERF_STAT.state.ix 0) = 2 ∧ u.rd (KERF_STAT.state.ix 0) = 2 ∧
      (t.eng 0).todo = [(0, s.fullQuires)] ∧ (s.persistFused = true → t.folio.key = some s.free) ∧
      Answered t port ld 1 [] ∧ Answered u port ld 0 []) ∧
  (∀ (port : PortNo) (ld : LdNo) (dpa : BitVec 44) (n : Nat) (s : State), mboxServes s port ld = true → 0 < n →
    s.owns port ld dpa.toNat (n * 2 ^ 20) = true → locOf dpa.toNat % 2 ^ 20 = 0 →
    quireOf (locOf dpa.toNat) + n ≤ s.capacity → s.anyConfigured = false → s.kerfActive 0 = false →
    s.kerfActive 1 = false → s.bgBusy 1 = false → s.bindBusy = false →
    ∃ t, exec (.mediaOperations port ld 1 dpa (n * 2 ^ 20)) s = .next t ∧ t.rd (KERF_STAT.state.ix 0) = 2 ∧
      (t.eng 0).todo = [(quireOf (locOf dpa.toNat), quireOf (locOf dpa.toNat) + n)] ∧ Answered t port ld 1 [] ∧
      SameRegs s t [KERF_STAT.state.ix 0, KERF_QDONE.quires.ix 0] ∧
      t = { s with flds := t.flds, kerf := t.kerf, mbox := t.mbox, out := t.out }) ∧
  (∀ (o : Background) (s : State), s.mbox.ops.find? (fun o => decide (o.kind = 0)) = some o → s.kerfActive 0 = false →
    ∃ t, exec (.backgroundOpComplete 0 []) s = .next t ∧ t.mbox.sanitizing = false ∧
      t.mbox.ops = s.mbox.ops.erase o ∧
      Sparse.get (fun _ => none) t.mbox.done (masterOf o.port o.ld) = some (0, 0, 0) ∧ SameRegs s t [] ∧
      t = { s with mbox := t.mbox }) ∧
  (∀ (port : PortNo) (ld : LdNo) (limited : Bool) (s : State), mboxServes s port ld = true → s.persists = true →
    s.bgBusy 3 = false → s.folio.running = none → s.folio.ordered = none →
    ∃ t, exec (.orderCheckpoint port ld limited) s = .next t ∧ t.folio.ordered = some (if limited then 0 else 1) ∧
      Answered t port ld 1 [] ∧ SameRegs s t [] ∧ t = { s with folio := t.folio, mbox := t.mbox, out := t.out }) ∧
  (∀ (port : PortNo) (ld : LdNo) (off : BitVec 32) (val : Word) (s : State), mboxServes s port ld = true →
    s.admin port ld = true → off.toNat < 0x80000 →
    exec (.writeRegister port ld off val) s =
      .next ((s.writeAccess (.fn port ld) off.toNat val).emit (.mailbox port ld 0 []))) ∧
  (∀ (port : PortNo) (ld : LdNo) (toPort : PortNo) (toLd : LdNo) (range : Fin 4) (base stop : Nat) (s : State),
    mboxServes s port ld = true → s.admin port ld = true → s.hasPort toPort = true →
    s.on (LOCK.lock.on (0x10 + toPort.val)) = false →
    ∃ t, exec (.setLdAllocation port ld toPort toLd range base stop) s = .next t ∧
      t.rd (PORT_LD_ALLOC_BASE.base_quire.ld toPort (toLd.val * 4 + range.val)) =
        base % 2 ^ PORT_LD_ALLOC_BASE.base_quire.width ∧
      t.rd (PORT_LD_ALLOC_END.end_quire.ld toPort (toLd.val * 4 + range.val)) =
        stop % 2 ^ PORT_LD_ALLOC_END.end_quire.width ∧
      SameRegs s t [PORT_LD_ALLOC_BASE.base_quire.ld toPort (toLd.val * 4 + range.val),
        PORT_LD_ALLOC_END.end_quire.ld toPort (toLd.val * 4 + range.val)] ∧
      Answered t port ld 0 [] ∧ t = { s with flds := t.flds, out := t.out }) ∧
  (∀ (port : PortNo) (ld : LdNo) (opcode : BitVec 16) (s : State), mboxServes s port ld = true →
    exec (.mailboxUnsupported port ld opcode) s = .next (s.emit (.mailbox port ld 3 [])))

/-- R334 and R453: a command that only an admin function may give is refused as Unsupported, counted and changes nothing
that it would set; a doorbell waits while the management core does not run. The numbers are the model's (assumption 31). -/
def Obligations.MailboxRefusesOrWaits : Prop :=
  (∀ (port : PortNo) (ld : LdNo) (off : BitVec 32) (val : Word) (s : State), mboxServes s port ld = true →
    s.admin port ld = false →
    ∃ t, exec (.writeRegister port ld off val) s = .next t ∧ Answered t port ld 3 [] ∧
      CountedUp s t (PORT_DENIED.count.port port) ∧ KeepsData s t) ∧
  (∀ (port : PortNo) (ld : LdNo) (dpa : BitVec 44) (len : Nat) (s : State), mboxServes s port ld = true →
    s.owns port ld dpa.toNat len = false →
    ∃ t, exec (.scanMedia port ld dpa len) s = .next t ∧ Answered t port ld 3 [] ∧ t.mbox.ops = s.mbox.ops ∧
      CountedUp s t (PORT_DENIED.count.port port) ∧ KeepsData s t) ∧
  (∀ (port : PortNo) (ld : LdNo) (at_ : Nat) (s : State), s.mboxOpen port ld = true → s.sys.mgmtDown = some at_ →
    ∃ t, exec (.sanitize port ld) s = .next t ∧ t.mbox.waiting = s.mbox.waiting ++ [.sanitize port ld] ∧
      SameRegs s t [] ∧ t = { s with mbox := t.mbox })

/-! ## Lanes, links and the Spline -/

/-- A lane's entry of the table of lanes. -/
def laneOf (s : State) (g n : Nat) : LaneState := s.lane (g * 8 + n)

/-- R315, R362 to R367, R373, R376 and R467: PAM4 levels carry bits, also on an inverted lane; lanes lock to the offset
that alone has 32 valid headers in a row, or that an EIEOS marks, and lose lock, a training ends with the link that its lanes
allow or with none, and adaptation moves a setting by at most one step. -/
def Obligations.LinksTrain : Prop :=
  (∀ (precode : Bool) (prev : Nat) (bits : List Bool), prev < 4 → bits.length % 2 = 0 →
    pamReceive false precode prev (pamSend precode prev bits) = bits) ∧
  (∀ (precode : Bool) (prev : Nat) (levels : List PamLevel),
    pamReceive true precode prev (levels.map fun l => levelOf (3 - levelIndex l)) =
      pamReceive false precode prev levels) ∧
  (∀ (group : GroupNo) (lane : LaneNo) (offset : Fin 130) (eieos : Bool) (blocks : List (BitVec 130))
      (levels : List PamLevel) (s : State),
    s.rd (PHY_STAT.ltssm.port group) = 1 → (laneOf s group lane).lock = none →
    (eieos = true ∨ alignerLock [] blocks = some offset.val) →
    ∃ t, exec (.laneLock group lane offset ⟨eieos, blocks, levels⟩) s = .next t ∧ (laneOf t group lane).lock = some offset.val ∧
      (levels ≠ [] → (laneOf t group lane).rxBits = pamReceive (s.on (PHY_LANE_STAT.inverted.lane group lane))
        (s.on (PHY_LANE_STAT.precode_rx.lane group lane)) 0 levels) ∧
      (∀ n, n ≠ group.val * 8 + lane.val → t.lane n = s.lane n) ∧ SameRegs s t [] ∧ t = { s with lanes := t.lanes }) ∧
  (∀ (group : GroupNo) (lane : LaneNo) (s : State), group.val ≠ 4 → s.rd (PHY_STAT.ltssm.port group) = 3 →
    s.rd (PORT_LINK_STAT.mode.port group) = 1 → s.on (PHY_LANE_STAT.active.lane group lane) = true →
    ∃ t, exec (.alignmentLoss group lane) s = .next t ∧ (laneOf t group lane).lock = none ∧
      t.rd (PHY_STAT.ltssm.port group) = 4 ∧ CountedUp s t (PHY_ALIGN_LOSS.count.port group) ∧
      CountedUp s t (PHY_RECOVERY.count.port group) ∧ KeepsData s t) ∧
  (∀ (group : GroupNo) (lane : LaneNo) (s : State), s.rd (PHY_STAT.ltssm.port group) = 1 →
    (laneOf s group lane).lock = none →
    ∃ t, exec (.laneUnlockedTimeout group lane) s = .next t ∧ (laneOf t group lane).failed = true ∧
      t.now = max s.now ((laneOf s group lane).huntAt + 24000000000) ∧ SameRegs s t [] ∧
      t = { s with lanes := t.lanes, now := t.now, clk := t.clk }) ∧
  (∀ (group : GroupNo) (at_ : Nat) (s : State), (s.port group).retryAt = some at_ →
    ∃ t, exec (.trainingRetry group) s = .next t ∧ (t.port group).retryAt = none ∧
      t.now = max s.now (at_ + 100000000000) ∧ KeepsData s t) ∧
  (∀ (group : GroupNo) (mode : Fin 5) (lo : Bool) (unusable : BitVec 8) (bound : BitVec 4) (mld : Bool) (l : List Nat)
      (s : State), group.val ≠ 4 → s.rd (PHY_STAT.ltssm.port group) = 1 → s.modeFormed group mode lo ≠ 0 →
    s.lanesFormed group (s.unusable group unusable) = some l → s.rd (PWR_DOM_STAT.state.ix (64 + group.val)) = 0 →
    ∃ t, exec (.linkTrained group mode lo unusable bound mld) s = .next t ∧ t.rd (PHY_STAT.ltssm.port group) = 3 ∧
      t.rd (PORT_LINK_STAT.mode.port group) = (if s.modeFormed group mode lo = 4 then (if lo then 3 else 2)
        else s.modeFormed group mode lo) ∧
      t.rd (PORT_LINK_STAT.width.port group) = (if l.length = 4 then 1 else 0) ∧
      (∀ n < 8, t.rd (PHY_LANE_STAT.active.lane group n) = if n ∈ l then 1 else 0) ∧
      (∀ n < 4, t.rd (PORT_LD_CFG.bound.ld group n) =
        (if mld then (bound.getLsbD n).toNat else if n = 0 then 1 else 0)) ∧
      KeepsData s t) ∧
  (∀ (group : GroupNo) (mode : Fin 5) (lo : Bool) (unusable : BitVec 8) (bound : BitVec 4) (mld : Bool) (s : State),
    group.val ≠ 4 → s.rd (PHY_STAT.ltssm.port group) = 1 → s.modeFormed group mode lo ≠ 0 →
    s.lanesFormed group (s.unusable group unusable) = none →
    ∃ t, exec (.linkTrained group mode lo unusable bound mld) s = .next t ∧ t.rd (PHY_STAT.ltssm.port group) = 0 ∧
      t.rd (ERR_STAT.uc.on (0x10 + group.val)) = 1 ∧
      (∀ n < 8, t.rd (PHY_LANE_STAT.failed.lane group n) = if n ∈ s.unusable group unusable then 1 else 0) ∧
      KeepsData s t) ∧
  (∀ (group : GroupNo) (lane : LaneNo) (ctle peaking dfe : Int) (s : State), s.rd (PHY_STAT.ltssm.port group) = 3 →
    s.on (PHY_LANE_STAT.active.lane group lane) = true →
    ∃ t, exec (.laneAdaptStep group lane ctle peaking dfe) s = .next t ∧
      t.rd (PHY_LANE_RXEQ.ctle_dc.lane group lane) ≤ 12 ∧ t.rd (PHY_LANE_RXEQ.peaking.lane group lane) ≤ 24 ∧
      (s.rd (PHY_LANE_RXEQ.ctle_dc.lane group lane) ≤ 12 →
        ((t.rd (PHY_LANE_RXEQ.ctle_dc.lane group lane) : Int) - s.rd (PHY_LANE_RXEQ.ctle_dc.lane group lane)).natAbs ≤ 1) ∧
      SameRegs s t [PHY_LANE_RXEQ.ctle_dc.lane group lane, PHY_LANE_RXEQ.peaking.lane group lane,
        PHY_LANE_RXEQ.dfe1.lane group lane] ∧
      t = { s with flds := t.flds, lanes := t.lanes })

/-- R377 to R380: the low-power states of a host link. -/
def Obligations.LinkPowerStates : Prop :=
  (∀ (port : PortNo) (s : State), s.rd (PHY_STAT.ltssm.port port) = 3 → s.rd (PORT_LINK_STAT.mode.port port) = 1 →
    (s.ld (masterOf port 0)).l0s = true → s.on (PHY_CTL.l0s_adv.port port) = true →
    ∃ t, exec (.l0sEntry port) s = .next t ∧ t.rd (PHY_STAT.ltssm.port port) = 6 ∧
      t.rd (PHY_STAT.pm_state.port port) = 1 ∧
      t.now = max s.now ((s.port port).idleAt + s.rd (PHY_PM_CTL.l0s_idle.port port) * 16000) ∧ KeepsData s t) ∧
  (∀ (port : PortNo) (s : State), s.rd (PHY_STAT.ltssm.port port) = 3 → (s.port port).l1Req = false →
    (s.ld (masterOf port 0)).l1 = true → s.on (PHY_PM_CTL.l1_req_en.port port) = true → s.portPending port = false →
    (∃ t, exec (.l1IdleExpiry port false) s = .next t ∧ (t.port port).l1Req = true ∧ t.out = .pm port 1 :: s.out ∧
      t.now = max s.now ((s.port port).idleAt + s.rd (PHY_PM_CTL.l1_idle_us.port port) * 1000000) ∧ SameRegs s t [] ∧
      t = { s with ports := t.ports, out := t.out, now := t.now, clk := t.clk }) ∧
    (∃ t, exec (.l1IdleExpiry port true) s = .next t ∧ (t.port port).l1Req = false ∧ t.out = s.out ∧
      CountedUp s t (PHY_L1_ABORTS.count.port port) ∧ t.rd (PHY_PM_STAT.last_outcome.port port) = 0 ∧
      SameRegs s t [PHY_L1_ABORTS.count.port port, PHY_PM_STAT.last_outcome.port port] ∧
      t = { s with flds := t.flds, ports := t.ports, now := t.now, clk := t.clk })) ∧
  (∀ (port : PortNo) (s : State), (s.port port).l1Req = true →
    ∃ t, exec (.pmRequestAck port true) s = .next t ∧ t.rd (PHY_STAT.ltssm.port port) = 7 ∧
      t.rd (PHY_STAT.pm_state.port port) = 3 ∧ t.rd (PHY_PM_STAT.nak.port port) = 0 ∧ (t.port port).l1Req = false ∧
      CountedUp s t (PHY_L1_ENTRIES.count.port port) ∧ t.out = s.out ∧ KeepsData s t) ∧
  (∀ (port : PortNo) (s : State), (s.port port).l1Req = true → s.rd (PWR_DOM_STAT.state.ix (64 + port.val)) = 0 →
    ∃ t, exec (.pmRequestAck port false) s = .next t ∧ t.rd (PHY_STAT.ltssm.port port) = 3 ∧
      t.rd (PHY_PM_STAT.nak.port port) = 1 ∧ (t.port port).waitOut = [] ∧
      t.out = (s.port port).waitOut.reverse ++ s.out ∧ KeepsData s t) ∧
  (∀ (port : PortNo) (ns : Nat) (s : State), 3 ≤ s.rd (PHY_STAT.pm_state.port port) →
    s.rd (PWR_DOM_STAT.state.ix (64 + port.val)) = 0 →
    ∃ t, exec (.l1Exit port ns) s = .next t ∧ t.rd (PHY_STAT.ltssm.port port) = 3 ∧
      t.rd (PHY_STAT.pm_state.port port) = 0 ∧ t.now = max s.now ((s.port port).pmAt + 100000) + ns * 1000 ∧
      (t.port port).waitOut = [] ∧ t.out = (s.port port).waitOut.reverse ++ s.out ∧ KeepsData s t) ∧
  (∀ (port : PortNo) (narrow : Bool) (s : State), s.rd (PHY_STAT.ltssm.port port) = 3 →
    2 ≤ s.rd (PORT_LINK_STAT.mode.port port) → s.on (PORT_LINK_STAT.width.port port) = false →
    ∃ t, exec (.l0pWidthChange port narrow) s = .next t ∧
      t.rd (PHY_STAT.pm_state.port port) = (if narrow then 2 else 0) ∧
      (∀ n < 8, s.on (PHY_LANE_STAT.active.lane port n) = true → 4 ≤ s.rd (PHY_LANE_STAT.logical.lane port n) →
        t.rd (PHY_LANE_STAT.state.lane port n) = narrow.toNat) ∧
      SameRegs s t (PHY_STAT.pm_state.port port :: (List.range 8).map fun n => PHY_LANE_STAT.state.lane port n) ∧
      t = { s with flds := t.flds }) ∧
  (∀ (port : PortNo) (deep : Bool) (s : State), s.rd (PHY_STAT.pm_state.port port) = 3 →
    (if deep then (s.ld (masterOf port 0)).l12 else (s.ld (masterOf port 0)).l11) = true →
    s.on (PHY_CTL.lane_off_en.port port) = true → (s.port port).waitOut = [] →
    ∃ t, exec (.l1SubstateEntry port deep) s = .next t ∧
      t.rd (PHY_STAT.pm_state.port port) = (if deep then 5 else 4) ∧
      SameRegs s t (PHY_STAT.pm_state.port port :: (List.range 8).map fun n => PHY_LANE_STAT.state.lane port n) ∧
      t = { s with flds := t.flds })

/-- R391, R393, R399, R403 and R407 to R411: words go along the row and then along the column; an output grants by class
and by the bound of 8; words are corrected, sent once more or fatal; crossings resynchronise; the hop time is judged. That
a class that waited through 7 grants goes first is the model's choice (assumption 89). -/
def Obligations.SplineWordsAndCrossings : Prop :=
  (∀ router dest port : Nat, router < 16 → dest < 16 → port < 6 →
    (router = dest → splineRoute router dest port = port) ∧
    (router ≠ dest → ∃ q, splineNeighbour router (splineRoute router dest port) = some q ∧ q < 16 ∧
      ((q : Int) % 4 - dest % 4).natAbs + ((q : Int) / 4 - dest / 4).natAbs + 1 =
        ((router : Int) % 4 - dest % 4).natAbs + ((router : Int) / 4 - dest / 4).natAbs ∧
      (router % 4 ≠ dest % 4 → q / 4 = router / 4))) ∧
  (∀ (x : SplineState) (router port plane i : Nat) (room : Nat → Bool) (w : SplineWord),
    x.grant router port plane room = some (i, w) →
    classPlane w.cls = plane ∧ room w.cls = true ∧ x.head router i w.cls = some w ∧
      splineRoute router w.router w.port = port ∧
      ((∀ c < 5, classPlane c = plane → room c = true → x.holders router port c ≠ [] → x.waitedOut router port c < 7) →
        ∀ c < 5, classPlane c = plane → room c = true → x.holders router port c ≠ [] → c ≤ w.cls.val) ∧
      (∀ c < 5, classPlane c = plane → room c = true → x.holders router port c ≠ [] → 7 ≤ x.waitedOut router port c →
        x.waitedOut router port c ≤ x.waitedOut router port w.cls)) ∧
  (∀ (router : Fin 16) (rport : Fin 12) (off : Bool) (plane : Fin 2) (word : SplineWord) (lo hi : Fin 3) (s : State),
    s.splineArrives router rport off plane word = none →
    exec (.splineWordReceive router rport ⟨off, plane, word⟩ (lo, hi)) s = .next s) ∧
  (∀ (router : Fin 16) (rport : Fin 12) (off : Bool) (plane : Fin 2) (word : SplineWord) (d : SplineSend) (s : State),
    s.splineArrives router rport off plane word = some d → s.injectedArg 6 (router.val * 16 + rport.val) = none →
    (∃ t, exec (.splineWordReceive router rport ⟨off, plane, word⟩ (0, 0)) s = .next t ∧ SameRegs s t [] ∧
      t.spline = { s.spline.accept d with retry := s.spline.retry.erase d } ∧ t = { s with spline := t.spline }) ∧
    (∃ t, exec (.splineWordReceive router rport ⟨off, plane, word⟩ (1, 0)) s = .next t ∧ CountedUp s t SPLINE_CORR.count ∧
      t.spline = { s.spline.accept d with retry := s.spline.retry.erase d } ∧ KeepsData s t) ∧
    (d ∉ s.spline.retry → s.on SPLINE_CTL.retry_en = true →
      ∃ t, exec (.splineWordReceive router rport ⟨off, plane, word⟩ (2, 0)) s = .next t ∧ CountedUp s t SPLINE_RETRY.count ∧
        t.spline = { s.spline with retry := s.spline.retry ++ [d] } ∧ KeepsData s t) ∧
    (d ∈ s.spline.retry → s.safe = false → calm s = true →
      ∃ t, exec (.splineWordReceive router rport ⟨off, plane, word⟩ (0, 2)) s = .next t ∧ EnteredSafe t 0x09 0x0C02)) ∧
  (∀ (router : Fin 16) (rport : Fin 12) (cls : Fin 5) (s : State), s.safe = false → calm s = true →
    ∃ t, exec (.splineWatchdogExpiry router rport cls none) s = .next t ∧ EnteredSafe t 0x09 0x0C03) ∧
  (∀ (router : Fin 16) (rport : Fin 12) (pc : PcNo) (s : State), s.declaredWait pc = true →
    exec (.splineWatchdogExpiry router rport 0 (some pc)) s = .next s) ∧
  (∀ (xing : XingNo) (s : State), s.safe = false → calm s = true →
    ∃ t, exec (.toggleOverrun xing) s = .next t ∧ EnteredSafe t 0x09 0x0C04 ∧
      CountedUp s t SPLINE_TOGGLE_OVR.count) ∧
  (∀ (xing : XingNo) (dropped ns : Nat) (s : State), s.rd (SPLINE_XING_STAT.state.ix xing) ≠ 3 → ns ≤ 2000 →
    ∃ t, exec (.crossingReset xing dropped ns) s = .next t ∧ t.rd (SPLINE_XING_STAT.state.ix xing) = 2 ∧
      t.rd (SPLINE_XING_DROP.count.ix xing) = min (s.rd (SPLINE_XING_DROP.count.ix xing) + dropped) (2 ^ 32 - 1) ∧
      CountedUp s t SPLINE_RESYNC.count ∧ t.now = s.now + ns * 1000 ∧ KeepsData s t) ∧
  (∀ (xing : XingNo) (s : State), s.rd (SPLINE_XING_STAT.state.ix xing) = 2 →
    ∃ t, exec (.crossingReady xing) s = .next t ∧ t.rd (SPLINE_XING_STAT.state.ix xing) = 0 ∧
      SameRegs s t [SPLINE_XING_STAT.state.ix xing] ∧ t = { s with flds := t.flds }) ∧
  (∀ (xing : XingNo) (s : State), s.rd (SPLINE_XING_STAT.state.ix xing) = 1 → s.safe = false → calm s = true →
    s.stalled = [] →
    ∃ t, exec (.crossingResyncTimeout xing) s = .next t ∧ t.rd (SPLINE_XING_STAT.state.ix xing) = 3 ∧
      t.now = max s.now ((s.xing xing).resetAt + 2000000) ∧
      (if 64 ≤ xing.val ∧ xing.val ≤ 71 then (t.port ((xing.val - 64) / 2)).isolated = true
      else EnteredSafe t 0x09 0x0C05)) ∧
  (∀ (ps : Nat) (s : State), ps ≤ 1023 →
    ∃ t, exec (.hopTimeOverLimit ps) s = .next t ∧ t.rd SPLINE_HOP_PS.ps = ps ∧
      (s.rd SPLINE_HOP_LIMIT.ps < ps → t.rd (ERR_STAT.ce.on 0x09) = 1 ∧
        bitOf (t.rd (INT_STAT.causes.on 0x09)) 1 = true) ∧
      (ps ≤ s.rd SPLINE_HOP_LIMIT.ps → SameRegs s t [SPLINE_HOP_PS.ps, SPLINE_HOP_MAX_PS.ps]) ∧ KeepsData s t)

/-! ## Clocks, power domains and the Time Base -/

/-- Every link is down. -/
def linksDown (s : State) : Prop := ∀ g < 5, s.rd (PHY_STAT.ltssm.port g) = 0

/-- R414 to R418, R420 and R436: what the monitors of the clock sources find, and the switches of the domains. -/
def Obligations.ClockSourcesAndSwitches : Prop :=
  (∀ (stall : Nat) (s : State), s.on CLK_SRC_STAT.ref_ok = true → s.on CLK_CTL.mon_en = true → linksDown s →
    s.clk.switching = [] →
    (s.on CLK_SRC_STAT.ho_ok = true →
      ∃ t, exec (.clockLoss stall) s = .next t ∧ t.rd CLK_SRC_STAT.ref_ok = 0 ∧ t.rd CLK_SRC_STAT.ref_lost = 1 ∧
        t.rd CLK_SRC_STAT.holdover = 1 ∧ CountedUp s t CLK_LOSS_CNT.count ∧
        (∀ d < 18, t.rd (CLK_DOM_STAT.src.ix d) = 1)) ∧
    (s.on CLK_SRC_STAT.ho_ok = false → s.safe = false → calm s = true →
      ∃ t, exec (.clockLoss stall) s = .next t ∧ t.rd CLK_SRC_STAT.ref_ok = 0 ∧ EnteredSafe t 0x02 0x0D06)) ∧
  (∀ (khz : Nat) (s : State), s.on CLK_SRC_STAT.ho_ok = true → s.on CLK_CTL.mon_en = true →
    s.on CLK_SRC_STAT.ref_ok = true → 98500 ≤ khz → khz ≤ 101500 →
    ∃ t, exec (.refWindowCheck khz) s = .next t ∧ t.rd CLK_REF_KHZ.khz = khz ∧ t.now = s.now + s.clk.hoPeriod * 250 ∧
      SameRegs s t (CLK_REF_KHZ.khz :: (List.range 5).map fun g => PHY_STAT.ssc_seen.port g) ∧
      t = { s with flds := t.flds, now := t.now, clk := t.clk }) ∧
  (∀ (khz : Nat) (s : State), s.on CLK_SRC_STAT.ho_ok = true → s.on CLK_CTL.mon_en = true →
    s.on CLK_SRC_STAT.ref_ok = false →
    ∃ t, exec (.refWindowCheck khz) s = .next t ∧
      t.clk.refGood = (if 99400 ≤ khz ∧ khz ≤ 100100 then s.clk.refGood + 1 else 0) ∧ t.rd CLK_SRC_STAT.ref_ok = s.rd CLK_SRC_STAT.ref_ok ∧
      t = { s with flds := t.flds, now := t.now, clk := t.clk }) ∧
  (∀ s : State, s.on CLK_SRC_STAT.ref_ok = false → 4 ≤ s.clk.refGood →
    ∃ t, exec .refQualify s = .next t ∧ t.rd CLK_SRC_STAT.ref_ok = 1 ∧ t.rd CLK_SRC_STAT.holdover = 0 ∧
      (∀ g < 5, t.rd (PHY_STAT.refclk_ok.port g) = 1) ∧ KeepsData s t) ∧
  (∀ (count : Nat) (s : State), 351563 ≤ count → count ≤ 429687 →
    ∃ t, exec (.hoCheck count) s = .next t ∧ t.rd CLK_SRC_STAT.ho_ok = 1 ∧ t.rd CLK_SRC_STAT.ao_ok = 1 ∧
      t.rd CLK_HO_KHZ.khz = count * 128 / 125 ∧ t.now = s.now + 976562500 ∧
      SameRegs s t [CLK_HO_KHZ.khz, CLK_SRC_STAT.ho_ok, CLK_SRC_STAT.ao_ok] ∧
      (∀ p, t.pc p = { s.pc p with lfsr := (t.pc p).lfsr, lfsrAt := (t.pc p).lfsrAt }) ∧
      t = { s with flds := t.flds, pcs := t.pcs, now := t.now, clk := t.clk }) ∧
  (∀ (count : Nat) (s : State), count < 351563 ∨ 429687 < count → s.on CLK_SRC_STAT.ho_ok = true →
    ∃ t, exec (.hoCheck count) s = .next t ∧ t.rd CLK_SRC_STAT.ho_ok = 0 ∧ t.rd (ERR_STAT.uc.on 0x02) = 1 ∧
      KeepsData s t) ∧
  (∀ s : State, s.on CLK_SRC_STAT.ao_ok = true →
    ∃ t, exec .aoTickTimeout s = .next t ∧ t.rd CLK_SRC_STAT.ao_ok = 0 ∧ t.rd (ERR_STAT.uc.on 0x02) = 1 ∧
      KeepsData s t) ∧
  (∀ (pll : Fin 17) (s : State), s.locked pll = true →
    (s.clk.relock.any fun e => decide (e.1 = pll.val ∧ s.now ≤ e.2 + 1000000000)) = false →
    ∃ t, exec (.pllLockLost pll) s = .next t ∧ t.locked pll = false ∧ (pll.val, s.now) ∈ t.clk.relock ∧
      t.rd (ERR_STAT.ce.on 0x02) = 1 ∧ KeepsData s t) ∧
  (∀ (pll : Fin 17) (s : State), s.locked pll = true → s.on CLK_SRC_STAT.ho_ok = true →
    (s.clk.relock.any fun e => decide (e.1 = pll.val ∧ s.now ≤ e.2 + 1000000000)) = true →
    ∃ t, exec (.pllLockLost pll) s = .next t ∧ t.locked pll = false ∧
      ∀ d ∈ pllDomains pll, t.rd (CLK_DOM_STAT.src.ix d) = 1) ∧
  (∀ (pll : Fin 17) (s : State), s.on CLK_SRC_STAT.ref_ok = true → s.on CLK_CTL.auto_return = false →
    ∃ t, exec (.pllLocked pll) s = .next t ∧ t.locked pll = true ∧
      (∀ d ∈ pllDomains pll, t.rd (CLK_DOM_STAT.pll_ready.ix d) = 1) ∧
      SameRegs s t ([CLK_PLL_LOCK.layer, CLK_PLL_LOCK.system] ++ (pllDomains pll).map fun d => CLK_DOM_STAT.pll_ready.ix d) ∧
      t = { s with flds := t.flds }) ∧
  (∀ (who : Accessor) (toHo : Bool) (s : State), takes s who 0x02 = true → s.rd CLK_DOM_SEL.domain < 16 →
    s.on (CLK_DOM_STAT.src.ix (s.rd CLK_DOM_SEL.domain)) ≠ toHo → s.sourceReady (s.rd CLK_DOM_SEL.domain) toHo = true →
    s.on (CLK_DOM_STAT.switching.ix (s.rd CLK_DOM_SEL.domain)) = false → s.sys.phase = .active →
    ∃ t, exec (.clkDomSwitch who toHo) s = .next t ∧
      t.clk.switching = s.clk.switching ++ [(s.rd CLK_DOM_SEL.domain, toHo)] ∧
      t.rd (CLK_DOM_STAT.switching.ix (s.rd CLK_DOM_SEL.domain)) = 1 ∧
      SameRegs s t [CLK_DOM_STAT.switching.ix (s.rd CLK_DOM_SEL.domain)] ∧ t = { s with flds := t.flds, clk := t.clk }) ∧
  (∀ (who : Accessor) (toHo : Bool) (s : State), takes s who 0x02 = true →
    s.on (CLK_DOM_STAT.src.ix (s.rd CLK_DOM_SEL.domain)) ≠ toHo → s.sourceReady (s.rd CLK_DOM_SEL.domain) toHo = false →
    ∃ t, exec (.clkDomSwitch who toHo) s = .next t ∧
      t.rd (CLK_DOM_STAT.refused.ix (s.rd CLK_DOM_SEL.domain)) = 1 ∧
      t.rd (CLK_DOM_STAT.reason.ix (s.rd CLK_DOM_SEL.domain)) = 1 ∧
      t.rd (CLK_DOM_STAT.src.ix (s.rd CLK_DOM_SEL.domain)) = s.rd (CLK_DOM_STAT.src.ix (s.rd CLK_DOM_SEL.domain)) ∧
      KeepsData s t) ∧
  (∀ (dom : ClkNo) (stall : Nat) (e : Nat × Bool) (s : State),
    s.clk.switching.find? (fun e => decide (e.1 = dom.val)) = some e → s.sourceReady e.1 e.2 = true →
    ∃ t, exec (.clkSwitchDone dom stall) s = .next t ∧ t.rd (CLK_DOM_STAT.src.ix dom) = e.2.toNat ∧
      t.rd (CLK_DOM_STAT.switching.ix dom) = 0 ∧ t.rd (CLK_DOM_STAT.failover.ix dom) = 0 ∧
      t.lines = s.lines ∧ t.crypto = s.crypto ∧ t.folio = s.folio)

/-- R422 to R427 and R431 to R433: a power domain sleeps, wakes and is isolated, and the Time Base is carried. -/
def Obligations.PowerDomainsSleepAndWake : Prop :=
  (∀ (dom : DomainNo) (s : State), s.timersRun = true → s.rd (PWR_DOM_STAT.state.ix dom) = 0 → sleepCap dom = true →
    s.maySleep dom = true → ((s.presentPages dom).all fun p => s.on (PAGE_CTL.sleep_en.on p)) = true →
    (s.domain dom).gateAt = none →
    (s.domainQuiet dom = true →
      ∃ t, exec (.domainSleepEntry dom) s = .next t ∧ t.rd (PWR_DOM_STAT.state.ix dom) = 1 ∧
        (∀ p ∈ s.presentPages dom, t.rd (PAGE_STAT.state.on p) = 2) ∧
        SameRegs s t (PWR_DOM_STAT.state.ix dom :: (domainPages dom).map fun p => PAGE_STAT.state.on p) ∧
        t = { s with flds := t.flds, domains := t.domains, now := t.now, clk := t.clk }) ∧
    (s.domainQuiet dom = false →
      ∃ t, exec (.domainSleepEntry dom) s = .next t ∧ t.rd (PWR_DOM_STAT.state.ix dom) = 3 ∧
        (t.domain dom).gateAt = some t.now ∧ SameRegs s t [PWR_DOM_STAT.state.ix dom] ∧
        t = { s with flds := t.flds, domains := t.domains, now := t.now, clk := t.clk })) ∧
  (∀ (dom : DomainNo) (at_ : Nat) (s : State), s.timersRun = true → s.rd (PWR_DOM_STAT.state.ix dom) = 3 →
    sleepCap dom = true → s.maySleep dom = true →
    ((s.presentPages dom).all fun p => s.on (PAGE_CTL.sleep_en.on p)) = true → (s.domain dom).gateAt = some at_ →
    at_ + 2000000 < s.now →
    ∃ t, exec (.domainSleepEntry dom) s = .next t ∧ t.rd (PWR_DOM_STAT.state.ix dom) = 0 ∧
      (t.domain dom).gateAt = none ∧ (∀ p ∈ s.presentPages dom, t.rd (PAGE_STAT.gate_abandoned.on p) = 1) ∧
      t.rd (ERR_STAT.ce.on 0x03) = 1 ∧ KeepsData s t) ∧
  (∀ (dom : DomainNo) (s : State), s.timersRun = true → s.rd (PWR_DOM_STAT.state.ix dom) = 1 → deepCap dom = true →
    s.mayDeep dom = true → ((s.presentPages dom).all fun p => s.on (PAGE_CTL.deep_en.on p)) = true →
    ∃ t, exec (.domainDeepSleepEntry dom) s = .next t ∧ t.rd (PWR_DOM_STAT.state.ix dom) = 2 ∧
      t.rd (PWR_DOM_STAT.clamped.ix dom) = 1 ∧ (∀ p ∈ s.presentPages dom, t.rd (PAGE_STAT.state.on p) = 3) ∧
      t.now = max s.now ((s.domain dom).sleepAt + s.rd (PWR_DOM_CTL.deep_idle_us.ix dom) * 1000000) ∧
      t = { s with flds := t.flds, domains := t.domains, now := t.now, clk := t.clk }) ∧
  (∀ (dom : DomainNo) (first : Grant) (s : State), s.rd (PWR_DOM_STAT.state.ix dom) = 1 ∨
    s.rd (PWR_DOM_STAT.state.ix dom) = 2 →
    ∃ t, exec (.domainWake dom first) s = .next t ∧ t.rd (PWR_DOM_STAT.state.ix dom) = 4 ∧
      (t.domain dom).wakeAt = some s.now ∧ CountedUp s t (PWR_DOM_WAKES.count.ix dom) ∧
      t.rd (PWR_DOM_STAT.last_outcome.ix dom) = 1 ∧ t = { s with flds := t.flds, domains := t.domains }) ∧
  (∀ (dom : DomainNo) (first : Grant) (s : State), s.rd (PWR_DOM_STAT.state.ix dom) = 3 →
    ∃ t, exec (.domainWake dom first) s = .next t ∧ t.rd (PWR_DOM_STAT.state.ix dom) = 0 ∧
      CountedUp s t (PWR_DOM_ABORTS.count.ix dom) ∧ t.rd (PWR_DOM_STAT.last_outcome.ix dom) = 0 ∧
      (t.domain dom).gateAt = none ∧ t = { s with flds := t.flds, domains := t.domains }) ∧
  (∀ (dom : DomainNo) (ns at_ : Nat) (s : State), (s.domain dom).wakeAt = some at_ → dom.val ≠ 74 →
    ns ≤ s.wakeLimit dom →
    ∃ t, exec (.domainReady dom ns) s = .next t ∧ t.rd (PWR_DOM_STAT.state.ix dom) = 0 ∧
      t.rd (PWR_DOM_STAT.clamped.ix dom) = 0 ∧ (t.domain dom).wakeAt = none ∧ t.now = max s.now (at_ + ns * 1000) ∧
      (∀ p ∈ s.presentPages dom, t.rd (PAGE_STAT.state.on p) = 1) ∧
      t = { s with flds := t.flds, domains := t.domains, now := t.now, clk := t.clk }) ∧
  (∀ (dom : DomainNo) (at_ : Nat) (s : State), (s.domain dom).wakeAt = some at_ → s.safe = false → calm s = true →
    s.stalled = [] →
    ∃ t, exec (.domainWakeTimeout dom) s = .next t ∧ t.rd (PWR_DOM_STAT.state.ix dom) = 5 ∧
      t.rd (PWR_DOM_STAT.clamped.ix dom) = 1 ∧ (t.domain dom).isolated = true ∧
      t.now = max s.now (at_ + s.wakeLimit dom * 1000) ∧
      (if (64 ≤ dom.val ∧ dom.val ≤ 68) ∨ dom.val = 71 then t.rd (ERR_STAT.fatal.on 0x03) = 1
      else EnteredSafe t 0x03 0x0E01)) ∧
  (∀ (dom : DomainNo) (s : State), s.rd (PWR_DOM_STAT.state.ix dom) = 0 → s.safe = false → calm s = true →
    s.stalled = [] →
    ∃ t, exec (.domainRailLow dom) s = .next t ∧ t.rd (PWR_DOM_STAT.state.ix dom) = 5 ∧
      t.rd (PWR_DOM_STAT.rail_good.ix dom) = 0 ∧ (t.domain dom).isolated = true ∧
      (if (64 ≤ dom.val ∧ dom.val ≤ 68) ∨ dom.val = 71 then t.rd (ERR_STAT.fatal.on 0x03) = 1
      else EnteredSafe t 0x03 0x0E03)) ∧
  (∀ (who : Accessor) (s : State), takes s who 0x03 = true →
    ∃ t, exec (.idleDisable who) s = .next t ∧ t.rd PWR_CTL.idle_en = 0 ∧
      (∀ d < 75, s.rd (PWR_DOM_STAT.state.ix d) = 1 ∨ s.rd (PWR_DOM_STAT.state.ix d) = 2 →
        t.rd (PWR_DOM_STAT.state.ix d) = 4) ∧
      (∀ d < 75, s.rd (PWR_DOM_STAT.state.ix d) = 3 → t.rd (PWR_DOM_STAT.state.ix d) = 0) ∧
      t = { s with flds := t.flds, domains := t.domains }) ∧
  (∀ s : State, s.timersRun = true → s.on TB_CTL.deep_carry_en = true → s.on CLK_SRC_STAT.ao_ok = true →
    s.on (PAGE_CTL.deep_en.on 0x01) = true → s.clk.tbAsleep = false → s.rd (PWR_DOM_STAT.state.ix 74) = 0 →
    (List.range 74).all s.atRest = true →
    ∃ t, exec .tbDeepEntry s = .next t ∧ t.clk.tbAsleep = true ∧ t.clk.stored = t.clk.tbPs ∧ t.clk.a0 = t.ao ∧
      t.rd (PWR_DOM_STAT.state.ix 74) = 2 ∧ t.locked 16 = false ∧
      t = { s with flds := t.flds, domains := t.domains, now := t.now, clk := t.clk }) ∧
  (∀ (a1 : Nat) (s : State), s.clk.tbAsleep = true → s.rd (PWR_DOM_STAT.state.ix 74) = 4 → s.locked 16 = true →
    s.clk.a0 ≤ a1 → s.now ≤ aoPs a1 →
    ∃ t, exec (.tbCarry a1) s = .next t ∧ t.clk.tbAsleep = false ∧ CountedUp s t TB_CARRIES.count ∧
      t.clk.tbPs = (s.clk.stored / 1000 + (aoPs (a1 - s.clk.a0) + 500) / 1000) * 1000 ∧ t.now = aoPs a1 ∧ KeepsData s t)

/-! ## Start, Hold, shutdown and life cycle -/

/-- No request is on its way, at a controller, held under R21 or waits on the partner, no recovery runs, and no
self-test. -/
def settled (s : State) : Bool :=
  quiet s && decide (s.transit = []) && decide (s.recoveries = []) && decide (s.dove.waiting = []) &&
  decide (s.dove.applyWait = []) && decide (s.folio.held = []) && decide (s.rd BIST_ENG_STAT.state ≠ 1)

/-- R434, R443 to R446 and R449: the supplies, the stages of the start, and the reset that a start is. That
cause 3 stands wherever the last power failure ended with its Bind is the model's reading (assumption 37). -/
def Obligations.StartRunsItsStages : Prop :=
  (∀ (mv : Nat) (aoRan : Bool) (s : State), s.sys.phase = .off → 8800 < mv →
    ∃ t, exec (.vinGood mv aoRan) s = .next t ∧ t.sys.phase = .starting ∧ t.now = s.now + 1000000000 ∧
      t.sys.startAt = t.now ∧ t.rd SYS_START_STAT.stage = 1 ∧ 
      t.rd SYS_RST_CAUSE.cause = (if s.sys.afterBind then 3 else if aoRan then 2 else 1) ∧
      t.rd BANK_PF_CTL.bus48 = (decide (24000 < mv)).toNat ∧ t.rd SYS_START_STAT.mem_active = 0 ∧ t.lines = [] ∧
      t.crypto.keys = [] ∧ t.folio.image = s.folio.image ∧ t.folio.slots = s.folio.slots ∧ t.otp = s.otp ∧
      t.sys.variant = s.sys.variant) ∧
  (∀ (found : StageFinding) (us : Nat) (s : State), s.sys.phase = .starting → s.rd SYS_START_STAT.stage = 1 → us ≤ 3000 →
    ∃ t, exec (.startStageEnd found us) s = .next t ∧ t.rd SYS_START_STAT.stage = 2 ∧ t.rd CLK_SRC_STAT.ho_ok = 1 ∧
      t.rd CLK_SRC_STAT.ao_ok = 1 ∧ t.rd (SYS_STAGE_US.us.ix 1) = us ∧
      t.now = max s.now (s.sys.stageAt + us * 1000000) ∧ t.sys.stageAt = t.now ∧
      SameRegs s t [SYS_START_STAT.stage, SYS_STAGE_US.us.ix 1, CLK_HO_KHZ.khz, CLK_SRC_STAT.ho_ok, CLK_SRC_STAT.ao_ok] ∧
      (∀ p, t.pc p = { s.pc p with lfsr := (t.pc p).lfsr, lfsrAt := (t.pc p).lfsrAt }) ∧
      t = { s with flds := t.flds, sys := t.sys, pcs := t.pcs, now := t.now, clk := t.clk, free := t.free }) ∧
  (∀ (found : StageFinding) (us : Nat) (s : State), s.sys.phase = .starting → s.rd SYS_START_STAT.stage = 8 → us ≤ 2000 →
    s.startPath = 1 →
    ∃ t, exec (.startStageEnd found us) s = .next t ∧ t.sys.phase = .active ∧ t.rd SYS_START_STAT.mem_active = 1 ∧
      t.rd SYS_START_STAT.stage = 9 ∧ t.lines = s.lines) ∧
  (∀ s : State, s.sys.phase = .starting → s.sys.overran = false →
    ∃ t, exec .stageOverrun s = .next t ∧ t.sys.overran = true ∧ t.rd (ERR_STAT.uc.on 0x00) = 1 ∧
      t.now = max s.now (s.sys.stageAt + s.stageMax (s.rd SYS_START_STAT.stage) * 1000000) ∧
      t.rd SYS_START_STAT.stage = s.rd SYS_START_STAT.stage ∧ t.lines = s.lines ∧ t.crypto = s.crypto ∧
      t.folio = s.folio) ∧
  (∀ (data : Option EepromData) (s : State), s.bank.eepromRead = true → s.rd SB_STAT.mode = 0 →
    ∃ t, exec (.vauxGood data) s = .next t ∧ t.sys.vauxGood = true ∧ t.rd SYS_SUPPLY.vaux_good = 1 ∧
      t.rd SB_STAT.mode = 1 ∧ t.lines = s.lines ∧ t.crypto = s.crypto ∧ t.folio = s.folio ∧ t.bank = s.bank) ∧
  (∀ s : State,
    ∃ t, exec .vauxLost s = .next t ∧ t.sys.vauxGood = false ∧ t.rd SYS_SUPPLY.vaux_good = 0 ∧ t.rd SB_STAT.mode = 0 ∧
      t.rd SB_STAT.eid = 0 ∧ t.rd SB_STAT.dyn_addr = 0 ∧ t.lines = s.lines ∧ t.crypto = s.crypto ∧ t.folio = s.folio ∧
      t.sys.phase = s.sys.phase) ∧
  (∀ s : State, s.sys.phase ≠ .off → s.sys.vauxGood = false → s.bank.eepromRead = false → s.present 0x1C = true →
    ∃ t, exec .vauxTimeout s = .next t ∧ t.bank.eepromRead = true ∧ t.bank.eeprom = none ∧
      t.now = max s.now (s.sys.startAt + 100000000000) ∧ t.lines = s.lines ∧ t.crypto = s.crypto)

/-- R449, R451, R453, R461 and R535: the Hold of a carrier I/O reset and the reset of the management core. -/
def Obligations.HoldAndManagementCore : Prop :=
  (∀ (who : Accessor) (s : State), takes s who 0x00 = true → s.sys.phase = .active → settled s = true → calm s = true →
    ∃ t, exec (.sysRstCarrierIo who 0x5253) s = .next t ∧ t.sys.phase = .hold ∧ t.sys.holdAt = t.now ∧
      CountedUp s t SYS_HOLDS.count ∧ (∀ p < 4, s.hasPort p = true → t.rd (PHY_STAT.ltssm.port p) = 0) ∧
      t.rd DOVE_STAT.link = 0 ∧ t.lines = s.lines) ∧
  (∀ s : State, s.sys.phase = .active → settled s = true → calm s = true →
    ∃ t, exec .carrierIoRailLow s = .next t ∧ t.sys.phase = .hold ∧ t.rd (ERR_STAT.uc.on 0x00) = 1 ∧
      CountedUp s t SYS_HOLDS.count ∧ t.lines = s.lines) ∧
  (∀ (us : Nat) (data : Option EepromData) (s : State), s.sys.phase = .hold → us ≤ 30 → s.folio.running = none →
    ∃ t, exec (.holdEnd us data) s = .next t ∧ t.sys.phase = .active ∧
      t.now = max s.now (s.sys.holdAt + max us 10 * 1000000) ∧ t.lines = s.lines ∧ t.crypto = s.crypto) ∧
  (∀ (who : Accessor) (s : State), takes s who 0x00 = true →
    ∃ t, exec (.sysRstMgmt who 0x5253) s = .next t ∧ t.sys.mgmtDown = some s.now ∧ t.rd SB_STAT.core_ready = 0 ∧
      SameRegs s t [SB_STAT.core_ready] ∧ t = { s with flds := t.flds, sys := t.sys }) ∧
  (∀ (who : Accessor) (key : BitVec 16) (s : State), takes s who 0x00 = true → key ≠ 0x5253 →
    exec (.sysRstMgmt who key) s = .next s ∧ exec (.sysRstCarrierIo who key) s = .next s ∧
    exec (.sysRstShutdown who key) s = .next s ∧ exec (.sysRstDevice who key) s = .next s) ∧
  (∀ s : State, s.sys.phase = .active → s.sys.mgmtDown = none →
    ∃ t, exec .mgmtWatchdogExpiry s = .next t ∧ t.sys.mgmtDown = some s.now ∧ t.rd SB_STAT.core_ready = 0 ∧
      SameRegs s t [SB_STAT.core_ready] ∧ t = { s with flds := t.flds, sys := t.sys }) ∧
  (∀ (at_ : Nat) (s : State), s.sys.mgmtDown = some at_ → s.sb.trying = none → s.sys.phase = .active → s.safe = false →
    calm s = true →
    ∃ t, exec .mgmtNotRunning s = .next t ∧ EnteredSafe t 0x07 0x1206 ∧ t.now = max s.now (at_ + 100000000000)) ∧
  (∀ (at_ : Nat) (port : PortNo) (ld : LdNo) (s : State), s.sys.mgmtDown = some at_ → s.sys.phase = .active →
    (s.mbox.waiting = [] →
      ∃ t, exec .mgmtCoreReady s = .next t ∧ t.sys.mgmtDown = none ∧ t.rd SB_STAT.core_ready = 1 ∧
        SameRegs s t [SB_STAT.core_ready] ∧ t = { s with flds := t.flds, sys := t.sys, sb := t.sb }) ∧
    (s.mbox.waiting = [.getSupportedLogs port ld] → s.mboxOpen port ld = true → s.lifeCycle ≠ 4 →
      ∃ t, exec .mgmtCoreReady s = .next t ∧ t.mbox.waiting = [] ∧ t.out = .mailbox port ld 0 [0, 1] :: s.out))

/-- R454, R457 to R459 and R541 to R543: the orderly shutdown, and the transitions of the life cycle. -/
def Obligations.ShutdownAndLifeCycle : Prop :=
  (∀ (who : Accessor) (s : State), takes s who 0x00 = true → s.sys.phase = .active → settled s = true → calm s = true →
    (∃ t, exec (.sysRstShutdown who 0x5253) s = .next t ∧ t.sys.phase = .shutdown ∧ t.sys.restart = 0 ∧
      (s.persists = true → s.folio.bindDue = none → t.folio.bindDue = some (4, false)) ∧
      (∀ r < 16, t.rd (CHISEL_RING_CTL.enable.ix r) = 0) ∧ t.lines = s.lines) ∧
    (∃ t, exec (.sysRstDevice who 0x5253) s = .next t ∧ t.sys.phase = .shutdown ∧ t.sys.restart = 4 ∧
      (∀ r < 16, t.rd (CHISEL_RING_CTL.enable.ix r) = 0) ∧ t.lines = s.lines)) ∧
  (∀ (vin : Nat) (s : State), s.shutdownBound = true → s.lifeCycle ≠ 4 → s.sys.restartWaits = false →
    s.sys.restart ≠ 4 →
    ∃ t, exec (.shutdownSelfTestDone ⟨[], vin⟩) s = .next t ∧ t.sys.phase = .off ∧ t.bist.recValid = true ∧
      t.bist.recSeq = s.bist.recSeq + 1 ∧ t.bist.recHeld = s.bist.held ∧ t.clk.stored = s.clk.tbPs ∧
      t.rd SYS_START_STAT.mem_active = 0 ∧ t.lines = s.lines) ∧
  (∀ (vin : Nat) (s : State), s.shutdownBound = true → s.lifeCycle ≠ 4 → s.sys.restart = 4 →
    ∃ t, exec (.shutdownSelfTestDone ⟨[], vin⟩) s = .next t ∧ t.sys.phase = .starting ∧ t.rd SYS_RST_CAUSE.cause = 4 ∧
      t.rd BANK_PF_CTL.bus48 = (decide (24000 < vin)).toNat ∧
      t.bist.recSeq = s.bist.recSeq + 1 ∧ t.lines = []) ∧
  (∀ (who : Accessor) (target : Fin 8) (s : State), takes s who 0x00 = true →
    (s.lifeRefusal target true = 0 →
      ∃ t, exec (.sysLcCmd who target 0x4C43) s = .next t ∧ t.sys.lcPending = some target.val ∧
        t.rd SYS_LC_STAT.busy = 1 ∧ t.lifeCycle = s.lifeCycle ∧ t.lines = s.lines ∧ t.crypto = s.crypto ∧
        t.folio = s.folio) ∧
    (s.lifeRefusal target true ≠ 0 →
      ∃ t, exec (.sysLcCmd who target 0x4C43) s = .next t ∧ t.rd SYS_LC_STAT.refused = 1 ∧
        t.rd SYS_LC_STAT.reason = s.lifeRefusal target true ∧ t.lifeCycle = s.lifeCycle ∧ KeepsData s t)) ∧
  (∀ (target : Fin 8) (s : State), s.sys.phase = .active → s.sessionOpen .fm = true →
    (s.lifeRefusal target false = 0 →
      ∃ t, exec (.setLifeCycle .fm target) s = .next t ∧ t.sys.lcPending = some target.val ∧
        t.out.head? = some (.keyAnswer 0 []) ∧ t.lines = s.lines ∧ t.crypto = s.crypto ∧ t.folio = s.folio) ∧
    (s.lifeRefusal target false ≠ 0 →
      ∃ t, exec (.setLifeCycle .fm target) s = .next t ∧
        t.out.head? = some (.keyAnswer (0x10 + s.lifeRefusal target false) []) ∧ KeepsData s t) ∧
    (∀ (port : PortNo) (ld : LdNo), s.sessionOpen (.ld port ld) = true →
      exec (.setLifeCycle (.ld port ld) target) s = .next (s.emit (.keyAnswer 0x01 [])))) ∧
  (∀ (session : Session) (target : Fin 8) (s : State), s.sessionOpen session = false →
    exec (.setLifeCycle session target) s = .next s) ∧
  (∀ (target : Nat) (s : State), s.sys.lcPending = some target → target ≠ 4 → s.lifeCycle < 2 →
    ∃ t, exec .lcFuseProgrammed s = .next t ∧ t.sys.lcPending = none ∧ t.rd SYS_LC_STAT.busy = 0 ∧
      t.sys.lcFuses = s.sys.lcFuses ||| fuseOf s.sys.lcFuses target ∧ t.now = s.now + 20000000 ∧
      SameRegs s t [SYS_LC_STAT.busy, SYS_LC.next] ∧
      t = { s with flds := t.flds, sys := t.sys, now := t.now, clk := t.clk }) ∧
  (∀ s : State, s.sys.lcPending = some 4 → settled s = true →
    ∃ t, exec .lcFuseProgrammed s = .next t ∧ t.lifeCycle = 4 ∧ t.crypto.keys = [] ∧ t.crypto.recKeys = [] ∧
      t.folio.key = none ∧ t.rd SYS_START_STAT.mem_active = 0 ∧ t.lines = s.lines)

/-! ## Calibration and temperature -/

/-- A calibration unit is idle and may begin a run (R469 to R471). -/
def calIdle (s : State) (u : Nat) : Bool :=
  decide (s.calMode u = 0) && !s.calPaused u && s.on (calFld PC_CAL_CTL.cal_en PHY_CAL_CTL.cal_en u)

/-- A calibration unit collects, has no step waiting from before, and no further run waits. -/
def collecting (s : State) (u : Nat) : Bool :=
  decide (s.calMode u = 1) && decide ((s.cal u).steps = []) && !s.on (calPending u)

/-- R469 to R480: a run begins, collects, is judged, takes its steps one at a time and ends. -/
def Obligations.CalibrationRuns : Prop :=
  (∀ (who : Accessor) (pc : PcNo) (s : State), takes s who (0x40 + pc.val) = true → calIdle s pc = true →
    ∃ t, exec (.calRun who pc) s = .next t ∧ t.calMode pc = 1 ∧ (t.cal pc).startAt = s.now ∧ (t.cal pc).derive_ = true ∧
      SameRegs s t [PC_CAL_STAT.state.pc pc, PC_CAL_STAT.pending.pc pc] ∧ t = { s with flds := t.flds, cals := t.cals }) ∧
  (∀ (who : Accessor) (pc : PcNo) (s : State), takes s who (0x40 + pc.val) = true → s.calMode pc = 2 →
    s.on (PC_CAL_STAT.pending.pc pc) = false →
    ∃ t, exec (.calAbort who pc) s = .next t ∧ t.calMode pc = 0 ∧ (t.cal pc).steps = [] ∧
      SameRegs s t [PC_CAL_STAT.state.pc pc] ∧ t = { s with flds := t.flds, cals := t.cals }) ∧
  (∀ (who : Accessor) (group : GroupNo) (s : State), takes s who (groupPage group) = true →
    calIdle s (64 + group.val) = true →
    ∃ t, exec (.phyCalRun who group) s = .next t ∧ t.calMode (64 + group.val) = 1 ∧
      SameRegs s t [PHY_CAL_STAT.state.port group, PHY_CAL_STAT.pending.port group] ∧
      t = { s with flds := t.flds, cals := t.cals }) ∧
  (∀ (who : Accessor) (group : GroupNo) (s : State), takes s who (groupPage group) = true →
    s.calMode (64 + group.val) = 2 → s.on (PHY_CAL_STAT.pending.port group) = false →
    ∃ t, exec (.phyCalAbort who group) s = .next t ∧ t.calMode (64 + group.val) = 0 ∧
      (t.cal (64 + group.val)).steps = [] ∧ SameRegs s t [PHY_CAL_STAT.state.port group] ∧
      t = { s with flds := t.flds, cals := t.cals }) ∧
  (∀ (unit : Fin 69) (s : State), s.sys.phase = .active → calIdle s unit = true →
    ∃ t, exec (.calPeriodExpiry unit) s = .next t ∧ t.calMode unit = 1 ∧
      t.now = max s.now ((s.cal unit).lastAt +
        s.rd (calFld PC_CAL_CTL.period_s PHY_CAL_CTL.period_s unit) * 1000000000000) ∧
      t = { s with flds := t.flds, cals := t.cals, now := t.now, clk := t.clk }) ∧
  (∀ (unit : Fin 69) (vref : Nat) (s : State), collecting s unit = true →
    (unit.val < 64 → (vref : Int) = s.rdVref unit) →
    ∃ t, exec (.calCollectionComplete unit [] vref) s = .next t ∧ t.calMode unit = 0 ∧
      CountedUp s t (calFld PC_CAL_RUNS.count PHY_CAL_RUNS.count unit) ∧ KeepsData s t) ∧
  (∀ (unit : Fin 69) (pc : PcNo) (r : CalResult) (s : State), unit.val = pc.val → collecting s pc = true →
    0 ≤ s.rdVref pc → r.complete = false → r.index.val < 72 → (s.erasedLanes pc).contains r.index.val = false →
    ∃ t, exec (.calCollectionComplete unit [r] (s.rdVref pc).toNat) s = .next t ∧
      t.rd ((PC_CAL_LANE_DLY.rejected_last.pc pc).ix r.index) = 1 ∧ t.rdDly pc r.index = s.rdDly pc r.index ∧
      CountedUp s t (PC_CAL_REJECTS.count.pc pc) ∧ KeepsData s t) ∧
  (∀ (pc : PcNo) (s : State), s.calMode pc = 1 →
    ∃ t, exec (.calProbeTimeout pc) s = .next t ∧ t.calMode pc = 4 ∧ (t.cal pc).probed = true ∧
      t.now = max s.now ((s.cal pc).startAt + 100000000000) ∧ SameRegs s t [PC_CAL_STAT.state.pc pc] ∧
      t = { s with flds := t.flds, cals := t.cals, now := t.now, clk := t.clk }) ∧
  (∀ (pc : PcNo) (vref : Nat) (s : State), collecting s pc = true → (vref : Int) = s.rdVref pc →
    ∃ t, exec (.calRunTimeout pc [] vref) s = .next t ∧ t.calMode pc = 0 ∧
      t.now = max s.now ((s.cal pc).startAt + 1000000000000) ∧
      t.rd (PC_CAL_STARVED.count.pc pc) = min (s.rd (PC_CAL_STARVED.count.pc pc) +
        ((List.range 72).filter fun v => !(s.erasedLanes pc).contains v).length) (2 ^ PC_CAL_STARVED.count.width - 1) ∧
      KeepsData s t) ∧
  (∀ (unit : Fin 69) (pc : PcNo) (index : Fin 97) (target : Int) (s : State), unit.val = pc.val → s.calMode pc = 2 →
    index.val < 72 → (s.cal pc).steps = [(index.val, target)] → s.rdDly pc index < target →
    s.rd ((PC_CAL_LANE_EYE.drift.pc pc).ix index) < 127 →
    ∃ t, exec (.calStep unit index) s = .next t ∧ t.rdDly pc index = s.rdDly pc index + 1 ∧
      CountedUp s t (PC_CAL_STEPS.count.pc pc) ∧
      (target ≠ s.rdDly pc index + 1 → t.calMode pc = 2 ∧ (t.cal pc).steps = [(index.val, target)]) ∧ KeepsData s t)

/-- R485 to R501: sensors are read, levels rise and fall, and limits and the power cap act. -/
def Obligations.TemperatureAndPowerAct : Prop :=
  (∀ (sensor : SensorNo) (v : Int) (s : State), s.senses = true → s.isFailed sensor = false → -320 ≤ v → v ≤ 1200 →
    s.injectedArg 7 sensor = none →
    (∃ t, exec (.sensorSlowRound [{ sensor := sensor, value := some v }]) s = .next t ∧
      (t.sensor sensor).value = some v ∧ t.rd (THERM_SENS_VAL.temp.ix sensor) = ofSigned 12 v ∧
      (∀ at_, s.bank.senseAt = some at_ → t.now = max s.now (at_ + 10000000000)) ∧ t.lines = s.lines ∧
      t.crypto = s.crypto ∧ t.sys = s.sys) ∧
    (s.isFast sensor = true →
      ∃ t, exec (.sensorFastSample { sensor := sensor, value := some v }) s = .next t ∧
        (t.sensor sensor).value = some v ∧ t.rd (THERM_SENS_VAL.temp.ix sensor) = ofSigned 12 v ∧
        t.now = max s.now ((s.sensor sensor).readAt + 50000000) ∧ t.lines = s.lines ∧ t.crypto = s.crypto ∧
        t.sys = s.sys)) ∧
  (∀ (sensor : SensorNo) (s : State), s.senses = true → s.isFast sensor = false → s.isFailed sensor = false →
    ∃ t, exec (.bandComparatorTrip sensor) s = .next t ∧ t.isFast sensor = true ∧
      SameRegs s t [THERM_SENS_VAL.fast.ix sensor] ∧ t = { s with flds := t.flds, sensors := t.sensors }) ∧
  (∀ (die : Fin 17) (at_ : Nat) (s : State), (s.heat die).highAt = some at_ → s.on THERM_CTL.throttle_en = true →
    (s.heat die).level < 7 → (die.val < 16 → s.pcPresent (die.val * 4) = true) →
    ∃ t, exec (.throttleRise die) s = .next t ∧ (t.heat die).level = (s.heat die).level + 1 ∧
      (die.val < 16 → t.rd (THERM_LAYER_STAT.level.ix die) = (s.heat die).level + 1) ∧
      (die.val = 16 → t.rd THERM_THROTTLE_MAP.logic_level = (s.heat die).level + 1) ∧
      t.now = max s.now (at_ + s.rd THERM_STEP.up_us * 1000000) ∧ KeepsData s t) ∧
  (∀ (die : Fin 17) (at_ : Nat) (s : State), (s.heat die).lowAt = some at_ → (s.heat die).level ≤ 7 →
    (if die.val < 16 then s.levelFloor die else 0) < (s.heat die).level →
    (die.val < 16 → s.pcPresent (die.val * 4) = true) →
    ∃ t, exec (.throttleFall die) s = .next t ∧ (t.heat die).level = (s.heat die).level - 1 ∧
      (die.val < 16 → t.rd (THERM_LAYER_STAT.level.ix die) = (s.heat die).level - 1) ∧
      t.now = max s.now (at_ + s.rd THERM_STEP.down_us * 1000000) ∧ KeepsData s t) ∧
  (∀ (sensor : SensorNo) (at_ : Nat) (s : State), (s.heat (dieOf sensor)).fatalAt = some at_ → s.senses = true →
    s.safe = false → calm s = true →
    ∃ t, exec (.fatalTemperature sensor) s = .next t ∧ EnteredSafe t 0x04 0x1106 ∧
      t.now = max s.now (at_ + 10000000000)) ∧
  (∀ (layer : LayerNo) (s : State),
    (∀ i < 4, (s.pc (layer.val * 4 + i)).bursts = [] ∧ (s.pc (layer.val * 4 + i)).wbursts = []) →
    s.on (PC_SR_STAT.clk_gated.pc (layer.val * 4)) = false →
    ∃ t, exec (.dividerChange layer) s = .next t ∧ (t.layer layer).divider = (s.layer layer).wanted ∧
      t.now = s.now + 30000 ∧ KeepsData s t) ∧
  (∀ (layer : LayerNo) (at_ : Nat) (s : State), (s.heat layer).suspect = true → (s.heat layer).agreeAt = some at_ →
    ∃ t, exec (.suspectClear layer) s = .next t ∧ (t.heat layer).suspect = false ∧
      t.rd (THERM_LAYER_STAT.suspect.ix layer) = 0 ∧ bitOf (t.rd THERM_SUSPECT_MAP.layers) layer = false ∧
      t.now = max s.now (at_ + s.rd THERM_XCHECK.clear_s * 1000000000000) ∧ KeepsData s t) ∧
  (∀ (mean avg : Nat) (s : State), s.senses = true →
    ∃ t, exec (.powerSample mean avg) s = .next t ∧ t.rd THERM_POWER.w = min mean 65535 ∧
      t.rd THERM_PCAP_STAT.avg_w = min avg 65535 ∧ SameRegs s t [THERM_POWER.w, THERM_PCAP_STAT.avg_w] ∧
      t = { s with flds := t.flds }) ∧
  (∀ s : State, s.senses = true → s.sys.phase ≠ .failing →
    ∃ t, exec .capAdjust s = .next t ∧
      t.rd THERM_PCAP_STAT.cap_skip = (if s.on THERM_CTL.pcap_en then s.nextSkip else 0) ∧
      t.rd THERM_PCAP_STAT.binding = (if 0 < t.rd THERM_PCAP_STAT.cap_skip then 1 else 0) ∧ KeepsData s t)

/-! ## Safe State, ERR_N, self-test and OTP -/

/-- R510, R518 and R524 to R527: the trigger of Safe State by command, and the pulses of ERR_N. -/
def Obligations.SafeStateAndErrN : Prop :=
  (∀ (who : Accessor) (s : State), takes s who 0x07 = true → s.safe = false → calm s = true →
    ∃ t, exec (.safe who 0x5346) s = .next t ∧ EnteredSafe t 0x07 0x1209 ∧ t.rd ERRPIN_STAT.held = 1 ∧
      (∀ r < 16, t.rd (CHISEL_RING_CTL.enable.ix r) = 0) ∧
      (s.persists = true → t.folio.bindDue = some (1, true) ∧ t.sys.bindOwed = true) ∧ t.lines = s.lines) ∧
  (∀ (who : Accessor) (key : BitVec 16) (s : State), takes s who 0x07 = true → key ≠ 0x5346 →
    exec (.safe who key) s = .next s) ∧
  (∀ (who : Accessor) (s : State), takes s who 0x07 = true → s.safe = false → s.on ERRPIN_STAT.driven = true →
    s.pin.pulseEnd = none →
    ∃ t, exec (.release who) s = .next t ∧ t.rd ERRPIN_STAT.driven = 0 ∧ t.rd ERRPIN_STAT.held = 0 ∧
      t.out = .errN false :: s.out ∧ t.pin.gapEnd = some (s.now + 20000000) ∧
      SameRegs s t [ERRPIN_STAT.driven, ERRPIN_STAT.held] ∧ t = { s with flds := t.flds, pin := t.pin, out := t.out }) ∧
  (∀ (who : Accessor) (s : State), takes s who 0x07 = true → s.safe = true → exec (.release who) s = .next s) ∧
  (∀ (who : Accessor) (s : State), takes s who 0x07 = true → s.on ERRPIN_STAT.driven = false → s.pin.gapEnd = none →
    ∃ t, exec (.test who) s = .next t ∧ t.rd ERRPIN_STAT.driven = 1 ∧ t.rd ERRPIN_STAT.last_source = 5 ∧
      CountedUp s t ERRPIN_PULSES.count ∧ t.pin.pulseEnd = some (s.now + 22000000) ∧ t.out = .errN true :: s.out ∧
      SameRegs s t [ERRPIN_STAT.driven, ERRPIN_STAT.last_source, ERRPIN_PULSES.count, ERRPIN_LAST_TIME_LO.time,
        ERRPIN_LAST_TIME_HI.time] ∧ t = { s with flds := t.flds, pin := t.pin, out := t.out }) ∧
  (∀ (who : Accessor) (s : State), takes s who 0x07 = true → s.on ERRPIN_STAT.driven = true →
    ∃ t, exec (.test who) s = .next t ∧ CountedUp s t ERRPIN_COALESCED.count ∧
      SameRegs s t [ERRPIN_COALESCED.count] ∧ t = { s with flds := t.flds }) ∧
  (∀ (at_ : Nat) (s : State), s.pin.pulseEnd = some at_ →
    (s.on ERRPIN_CTL.hold = false →
      ∃ t, exec .errNPulseEnd s = .next t ∧ t.rd ERRPIN_STAT.driven = 0 ∧ t.now = max s.now at_ ∧
        t.pin.gapEnd = some (t.now + 20000000) ∧ t.out = .errN false :: s.out ∧
        SameRegs s t [ERRPIN_STAT.driven, ERRPIN_STAT.held]) ∧
    (s.on ERRPIN_CTL.hold = true → s.pin.releaseAsked = false →
      ∃ t, exec .errNPulseEnd s = .next t ∧ t.rd ERRPIN_STAT.held = 1 ∧ t.pin.pulseEnd = none ∧ t.out = s.out ∧
        SameRegs s t [ERRPIN_STAT.held])) ∧
  (∀ (at_ : Nat) (s : State), s.pin.gapEnd = some at_ →
    (s.pin.gapEvent = false →
      ∃ t, exec .errNGapEnd s = .next t ∧ t.pin.gapEnd = none ∧ t.now = max s.now at_ ∧ SameRegs s t [] ∧
        t = { s with pin := t.pin, now := t.now, clk := t.clk }) ∧
    (s.pin.gapEvent = true →
      ∃ t, exec .errNGapEnd s = .next t ∧ t.rd ERRPIN_STAT.driven = 1 ∧ CountedUp s t ERRPIN_PULSES.count ∧
        t.out = .errN true :: s.out ∧ t.pin.pulseEnd = some (t.now + 22000000))) ∧
  (∀ s : State, s.on ERRPIN_STAT.driven = true → s.pin.highRun = 2 →
    ∃ t, exec (.errNReadback true) s = .next t ∧ t.rd ERRPIN_STAT.stuck_high = 1 ∧ t.rd (ERR_STAT.uc.on 0x07) = 1 ∧
      KeepsData s t) ∧
  (∀ (high : Bool) (s : State), s.on ERRPIN_STAT.driven = false →
    ∃ t, exec (.errNReadback high) s = .next t ∧ t.rd ERRPIN_STAT.ext_low = (!high).toNat ∧
      SameRegs s t [ERRPIN_STAT.ext_low] ∧ t = { s with flds := t.flds }) ∧
  (∀ (who : Accessor) (s : State), takes s who 0x07 = true →
    ∃ t, exec (.errpinFfValidClear who) s = .next t ∧ t.rd ERRPIN_FF_VALID.valid = 0 ∧
      SameRegs s t [ERRPIN_FF_VALID.valid] ∧ t = { s with flds := t.flds })

/-- A command of BIST_CMD acts: the page takes it, and the life cycle allows self-test (R547). -/
def bistOpen (s : State) (who : Accessor) : Bool :=
  takes s who 0x06 && decide (s.lifeCycle = 1 ∨ s.lifeCycle = 3) && decide (s.sys.phase = .active)

/-- A command of OTP_CMD acts: the page takes it, before the device leaves the factory (R559). -/
def otpOpen (s : State) (who : Accessor) : Bool :=
  takes s who 0x05 && decide (s.lifeCycle < 2) && decide (s.sys.phase ≠ .failing)

/-- R543 and R547 to R551: a program runs its steps, an injection is made, and units are held and released. -/
def Obligations.SelfTestRunsItsProgram : Prop :=
  (∀ (who : Accessor) (s : State), bistOpen s who = true → s.rd BIST_ENG_STAT.state ≠ 1 →
    (∃ n < 16, s.on (BIST_PROG.valid.ix n) = true ∧ s.stepAllowed (s.bistStep n) = false) →
    ∃ t, exec (.bistRun who 0x4254) s = .next t ∧ t.rd BIST_ENG_STAT.state = 4 ∧
      SameRegs s t [BIST_ENG_STAT.state, BIST_ENG_STAT.step, BIST_ENG_STAT.fails] ∧ t = { s with flds := t.flds }) ∧
  (∀ (who : Accessor) (n : Nat) (s : State), bistOpen s who = true → s.rd BIST_ENG_STAT.state ≠ 1 →
    (List.range 16).filter (fun i => s.on (BIST_PROG.valid.ix i)) = [n] → (s.bistStep n).inject = true →
    s.stepAllowed (s.bistStep n) = true →
    ∃ t, exec (.bistRun who 0x4254) s = .next t ∧ t.rd BIST_ENG_STAT.state = 1 ∧ t.rd BIST_ENG_STAT.step = n ∧
      t.bist.inj = s.bist.inj ++ [((s.bistStep n).kind, (s.bistStep n).place, (s.bistStep n).value,
        if (s.bistStep n).kind = 1 then (s.bistStep n).loops else 1)] ∧ CountedUp s t BIST_INJ_CNT.count ∧
      KeepsData s t) ∧
  (∀ (passed : Bool) (errors : Nat) (s : State), s.rd BIST_ENG_STAT.state = 1 → s.bist.under = none →
    s.on BIST_ENG_STAT.offline = false → (s.bistStep (s.rd BIST_ENG_STAT.step)).inject = false →
    (s.bistStep (s.rd BIST_ENG_STAT.step)).test = 1 → s.nextStep (s.rd BIST_ENG_STAT.step + 1) = none →
    ∃ t, exec (.bistStepDone passed errors) s = .next t ∧ t.rd BIST_ENG_STAT.state = 2 ∧
      Sparse.get (fun _ => (0, 0, false)) t.bist.results (s.rd BIST_ENG_STAT.step) =
        (if passed then 0 else 0x1301, min errors 0x7FFF, false) ∧
      (passed = true → (s.bistStep (s.rd BIST_ENG_STAT.step)).target ∈ t.bist.passed) ∧
      (passed = false → (s.bistStep (s.rd BIST_ENG_STAT.step)).target ∈ t.bist.held ∧
        CountedUp s t BIST_ENG_STAT.fails) ∧ KeepsData s t) ∧
  (∀ (who : Accessor) (s : State), bistOpen s who = true → s.rd BIST_ENG_STAT.state = 1 → s.bist.under = none →
    s.on BIST_ENG_STAT.offline = false →
    ∃ t, exec (.bistAbort who 0x4254 false) s = .next t ∧ t.rd BIST_ENG_STAT.state = 3 ∧
      Sparse.get (fun _ => (0, 0, false)) t.bist.results (s.rd BIST_ENG_STAT.step) = (0, 0, true) ∧
      SameRegs s t [BIST_ENG_STAT.state] ∧ t = { s with flds := t.flds, bist := t.bist }) ∧
  (∀ (who : Accessor) (s : State), bistOpen s who = true → s.lifeCycle = 3 →
    (s.bistStep (s.rd BIST_PROG_SEL.step)).target ∈ s.bist.passed →
    (s.bistStep (s.rd BIST_PROG_SEL.step)).target ∈ s.bist.held →
    ∃ t, exec (.bistRelease who 0x4254) s = .next t ∧
      t.bist.held = s.bist.held.erase (s.bistStep (s.rd BIST_PROG_SEL.step)).target ∧
      t.bist.recHeld = t.bist.held ∧ t.bist.recSeq = s.bist.recSeq + 1 ∧ t.now ≤ s.now + 100000000000 ∧
      t.lines = s.lines ∧ t.crypto = s.crypto ∧ t.sys = s.sys ∧ t.folio = { s.folio with recs := t.folio.recs }) ∧
  (∀ (who : Accessor) (key : BitVec 16) (s : State),
    s.lifeCycle ≠ 3 ∨ (s.bistStep (s.rd BIST_PROG_SEL.step)).target ∉ s.bist.passed →
    ∃ t, exec (.bistRelease who key) s = .next t ∧ t.bist = s.bist)

/-- R554 to R565: what the commands of OTP program, and when they are refused. -/
def Obligations.OtpCommandsProgramRows : Prop :=
  (∀ (who : Accessor) (s : State), otpOpen s who = true → s.rd OTP_PROG_IDX.row < 284 →
    s.isLocked (regionOf (s.rd OTP_PROG_IDX.row)) = false → s.otpRow (s.rd OTP_PROG_IDX.row) = 0 →
    ∃ t, exec (.otpProgram who 0x4F54 true) s = .next t ∧
      t.rowOf (s.rd OTP_PROG_IDX.row) = s.progData % 2 ^ 56 ∧
      (∀ r, r ≠ s.rd OTP_PROG_IDX.row → t.rowOf r = s.rowOf r) ∧ t.rd OTP_CMD_STAT.done = 1 ∧ KeepsData s t) ∧
  (∀ (who : Accessor) (verified linked force : Bool) (region : Fin 8) (s : State), takes s who 0x05 = true →
    2 ≤ s.lifeCycle →
    ∃ t, exec (.otpProgram who 0x4F54 verified) s = .next t ∧ t.rd OTP_CMD_STAT.refused = 1 ∧
      t.rd OTP_CMD_STAT.reason = 1 ∧ SameRegs s t [OTP_CMD_STAT.refused, OTP_CMD_STAT.reason] ∧
      t = { s with flds := t.flds } ∧ exec (.otpRepair who 0x4F54 verified linked) s = .next t ∧
      exec (.otpLock who 0x4F54 region force) s = .next t ∧ exec (.otpGenSeed who 0x4F54) s = .next t) ∧
  (∀ (who : Accessor) (s : State), otpOpen s who = true → s.isLocked (regionOf (s.rd OTP_PROG_IDX.row)) = false →
    s.nextSpare < 544 →
    ∃ t, exec (.otpRepair who 0x4F54 true true) s = .next t ∧ t.rowOf s.nextSpare = s.progData % 2 ^ 56 ∧
      (s.rd OTP_PROG_IDX.row, s.nextSpare) ∈ t.otp.spared ∧ t.rd OTP_CMD_STAT.done = 1 ∧ KeepsData s t) ∧
  (∀ (who : Accessor) (region : Fin 8) (s : State), otpOpen s who = true → region.val < 7 →
    s.isLocked region = false → s.checkBlank region = false →
    ∃ t, exec (.otpLock who 0x4F54 region false) s = .next t ∧ t.isLocked region = true ∧
      bitOf (t.rd OTP_STAT.region_locked) region = true ∧ t.rd OTP_CMD_STAT.done = 1 ∧ KeepsData s t) ∧
  (∀ (who : Accessor) (s : State), otpOpen s who = true → s.isLocked 4 = false →
    (∀ r < 8, s.otpRow (276 + r) = 0) →
    ∃ t, exec (.otpGenSeed who 0x4F54) s = .next t ∧ t.free = s.free + 7 ∧
      t.rowOf 283 = checkRowOf ((List.range 7).map fun r => t.rowOf (276 + r)) ∧
      (∀ r, r < 276 ∨ 283 < r → t.rowOf r = s.rowOf r) ∧ t.rd OTP_CMD_STAT.done = 1 ∧ KeepsData s t) ∧
  (∀ (row : Fin 512) (s : State), s.sys.phase ≠ .off →
    (∃ t, exec (.otpLatchCompare true row) s = .next t ∧ t.now = s.now + 1000000000 ∧ SameRegs s t [] ∧
      t = { s with now := t.now, clk := t.clk }) ∧
    (∃ t, exec (.otpLatchCompare false row) s = .next t ∧ t.rd (ERR_STAT.fatal.on 0x05) = 1 ∧ KeepsData s t))

/-! ## The sideband -/

/-- A response has gone out on the sideband and waits to be collected (R591); ALERT_N may follow it. -/
def SbReplied (s t : State) (mtype cmd code : Nat) (payload : List Nat) : Prop :=
  t.sb.uncollected = true ∧
  (t.out = .sideband mtype cmd code payload :: s.out ∨
    ∃ low, t.out = .alertN low :: .sideband mtype cmd code payload :: s.out)

/-- The endpoint serves: it answers on the bus, has an EID, and the management core runs (R568, R569). -/
def sbServes (s : State) : Bool := s.sbUp && decide (s.rd SB_STAT.eid ≠ 0) && s.on SB_STAT.core_ready

/-- R456, R567 to R574 and R591: the front end counts, drops and answers messages, the bus modes change, and the services
of the management core answer. Command and status numbers are the model's (assumption 33). -/
def Obligations.SidebandAnswers : Prop :=
  (∀ (mtype : BitVec 8) (len : Nat) (changes : Bool) (s : State), s.sbUp = true → len ≤ 4096 → mtype.toNat ∈ mctpTypes →
    mtype = 0 ∨ s.rd SB_STAT.eid ≠ 0 → (changes = true → s.sbSecure = true → s.sessionOpen .fm = true) →
    ∃ t, exec (.mctpMessage mtype len changes true true) s = .next t ∧ CountedUp s t SB_MCTP_RX.count ∧
      t.sb.uncollected = false ∧ SameRegs s t [SB_MCTP_RX.count] ∧
      t = { s with flds := t.flds, sb := t.sb, pin := t.pin, out := t.out }) ∧
  (∀ (mtype : BitVec 8) (len : Nat) (fm : Bool) (s : State), s.sbUp = true → s.sbSecure = true →
    (fm && s.sessionOpen .fm) = false →
    ∃ t, exec (.mctpMessage mtype len true fm true) s = .next t ∧ CountedUp s t SB_MCTP_RX.count ∧
      CountedUp s t SB_MCTP_DROP.count ∧ KeepsData s t) ∧
  (∀ (mtype : BitVec 8) (len : Nat) (changes fm : Bool) (s : State), s.sbUp = true → 4096 < len →
    ∃ t, exec (.mctpMessage mtype len changes fm true) s = .next t ∧ CountedUp s t SB_MCTP_RX.count ∧
      CountedUp s t SB_MCTP_DROP.count ∧ KeepsData s t) ∧
  (∀ (mtype : BitVec 8) (len : Nat) (changes fm : Bool) (s : State), s.sbUp = true → s.rd SB_STAT.mode = 1 →
    ∃ t, exec (.mctpMessage mtype len changes fm false) s = .next t ∧ CountedUp s t SB_PEC_ERR.count ∧
      t.rd SB_MCTP_RX.count = s.rd SB_MCTP_RX.count ∧ KeepsData s t) ∧
  (∀ (addr : BitVec 7) (s : State), s.rd SB_STAT.mode = 1 → s.on SB_CTL.i3c_en = true → s.sys.phase ≠ .hold →
    ∃ t, exec (.i3cDynamicAddress addr false) s = .next t ∧ t.rd SB_STAT.mode = 2 ∧
      t.rd SB_STAT.dyn_addr = addr.toNat ∧ KeepsData s t) ∧
  (∀ s : State, s.rd SB_STAT.mode = 2 → s.sys.phase ≠ .hold →
    ∃ t, exec (.i3cReset false) s = .next t ∧ t.rd SB_STAT.mode = 1 ∧ t.rd SB_STAT.dyn_addr = 0 ∧ KeepsData s t) ∧
  (∀ (eid : BitVec 8) (s : State), s.sbUp = true → eid ≠ 0 → eid ≠ 0xFF →
    ∃ t, exec (.setEndpointId eid) s = .next t ∧ t.rd SB_STAT.eid = eid.toNat ∧
      Out.sideband 0 1 0 [eid.toNat] ∈ t.out ∧ KeepsData s t) ∧
  (∀ s : State, s.sbUp = true →
    (∃ t, exec (.setEndpointId 0) s = .next t ∧ SbReplied s t 0 1 2 [] ∧ SameRegs s t [] ∧
      t = { s with sb := t.sb, pin := t.pin, out := t.out }) ∧
    (∃ t, exec .getEndpointId s = .next t ∧ SbReplied s t 0 2 0 [s.rd SB_STAT.eid] ∧ SameRegs s t [] ∧
      t = { s with sb := t.sb, pin := t.pin, out := t.out }) ∧
    (∃ t, exec .getEndpointUuid s = .next t ∧ SbReplied s t 0 3 0 (blobWords 1 0) ∧
      t = { s with sb := t.sb, pin := t.pin, out := t.out }) ∧
    (∃ t, exec .getMctpVersionSupport s = .next t ∧ SbReplied s t 0 4 0 [1, 3] ∧
      t = { s with sb := t.sb, pin := t.pin, out := t.out }) ∧
    (∃ t, exec .getMessageTypeSupport s = .next t ∧ SbReplied s t 0 5 0 [0, 1, 5, 6, 7, 8] ∧
      t = { s with sb := t.sb, pin := t.pin, out := t.out })) ∧
  (∀ s : State, sbServes s = true →
    (∃ t, exec (.pldmMonitoring 26) s = .next t ∧ SbReplied s t 1 0x11 0 [s.rd FOLIO_STAT.persist] ∧
      t = { s with sb := t.sb, pin := t.pin, out := t.out }) ∧
    (∃ t, exec (.pldmMonitoring 31) s = .next t ∧ SbReplied s t 1 0x11 0x80 [] ∧
      t = { s with sb := t.sb, pin := t.pin, out := t.out }) ∧
    (∀ version secver : Nat, s.fwBusy none = false → s.sb.fwOffset = none →
      (s.sbSecure = true → s.sessionOpen .fm = true) →
      ∃ t, exec (.pldmFirmwareUpdate false true 0 version secver true false) s = .next t ∧ t.sb.fwOffset = some 0 ∧
        SbReplied s t 1 0x15 0 [] ∧ t = { s with sb := t.sb, pin := t.pin, out := t.out }) ∧
    (∀ (version secver : Nat), s.fwBusy none = false → s.sb.fwOffset = none → s.rd SB_FW_STAT.active_slot = 0 →
      (s.sbSecure = true → s.sessionOpen .fm = true) →
      ∃ t, exec (.pldmFirmwareUpdate false true 0 version secver true true) s = .next t ∧
        t.sb.slot1 = { version := version, secver := secver, good := true } ∧ t.rd SB_FW_STAT.pending = 1 ∧
        SbReplied s t 1 0x15 0 []) ∧
    (∃ t, exec (.getCertificate 0) s = .next t ∧ SbReplied s t 5 0x82 0 (blobWords 2 (s.rd SB_FW_VER.version)) ∧
      t = { s with sb := t.sb, pin := t.pin, out := t.out }) ∧
    (∀ slot : Fin 8, slot ≠ 0 →
      ∃ t, exec (.getCertificate slot) s = .next t ∧ SbReplied s t 5 0x82 1 [] ∧
        t = { s with sb := t.sb, pin := t.pin, out := t.out }) ∧
    (∀ nonce : BitVec 256, s.lifeCycle ≠ 4 →
      ∃ t, exec (.challenge nonce) s = .next t ∧
        SbReplied s t 5 0x83 0 ([nonce.toNat, (Config.nonce s.free).toNat] ++ blobWords 3 s.free) ∧
        t.free = s.free + 1 ∧
        t = { s with sb := t.sb, pin := t.pin, out := t.out, free := t.free }) ∧
    (∃ t, exec (.getMeasurements 6 false) s = .next t ∧ SbReplied s t 5 0xE0 0 [s.lifeCycle, s.rd SYS_UNIT.unit,
        s.rd SYS_ID.variant + s.rd SYS_ID.stepping * 2 ^ 8 + s.rd SYS_ID.product * 2 ^ 16, s.rd SB_FW_STAT.secver] ∧
      t = { s with sb := t.sb, pin := t.pin, out := t.out }) ∧
    (∀ who : Option Session, s.lifeCycle ≠ 4 → s.openSessions < 8 → s.sb.sessions = [] →
      ∃ t, exec (.keyExchange ⟨true, who⟩) s = .next t ∧ t.sb.sessions = [(0, 0, who)] ∧ SbReplied s t 5 0xE4 0 [0] ∧
        t = { s with sb := t.sb, pin := t.pin, out := t.out }) ∧
    (∀ who : Option Session, s.lifeCycle ≠ 4 → 8 ≤ s.openSessions →
      ∃ t, exec (.keyExchange ⟨true, who⟩) s = .next t ∧ t.sb.sessions = s.sb.sessions ∧ SbReplied s t 5 0xE4 0x0A [] ∧
        t = { s with sb := t.sb, pin := t.pin, out := t.out }) ∧
    (∀ (session : Fin 8) (gen : Nat) (who : Option Session), s.sb.sessions = [(session.val, gen, who)] →
      ∃ t, exec (.keyUpdate session) s = .next t ∧ t.sb.sessions = [(session.val, gen + 1, who)] ∧
        SbReplied s t 5 0xE9 0 [] ∧ t = { s with sb := t.sb, pin := t.pin, out := t.out }) ∧
    (s.sys.phase = .active → settled s = true → calm s = true → (s.sbSecure = true → s.sessionOpen .fm = true) →
      ∃ t, exec (.orderlyShutdown true) s = .next t ∧ t.sys.phase = .shutdown ∧ t.sys.restart = 0 ∧
        Out.sideband 8 0xC430 0 [] ∈ t.out ∧ t.lines = s.lines)) ∧
  (∀ s : State, s.sbUp = true → s.rd SB_STAT.eid ≠ 0 →
    (s.sys.phase = .off → s.on SYS_SUPPLY.vin_good = true →
      ∃ t, exec .restart s = .next t ∧ t.sys.phase = .starting ∧ t.rd SYS_RST_CAUSE.cause = 5 ∧
        Out.sideband 8 0xC431 0 [] ∈ t.out) ∧
    (s.sys.phase = .shutdown →
      ∃ t, exec .restart s = .next t ∧ t.sys.restartWaits = true ∧ SbReplied s t 8 0xC431 0 [] ∧
        t = { s with sys := t.sys, sb := t.sb, pin := t.pin, out := t.out }) ∧
    (s.sys.phase = .active →
      ∃ t, exec .restart s = .next t ∧ SbReplied s t 8 0xC431 2 [] ∧
        t = { s with sb := t.sb, pin := t.pin, out := t.out }))

/-! ## Reset and the invariants -/

/-- The fields that R87 names read the same in all four PC pages of a layer. -/
def layersAgree (s : State) : Prop :=
  ∀ layer < 16, ∀ i < 4,
    s.rd (PC_REF_STAT.window.pc (layer * 4 + i)) = s.rd (PC_REF_STAT.window.pc (layer * 4)) ∧
    s.rd (PC_SR_STAT.clk_gated.pc (layer * 4 + i)) = s.rd (PC_SR_STAT.clk_gated.pc (layer * 4))

/-- R220, R444 and the registers' reset columns: what reset leaves; the invariants below hold there. -/
def Obligations.ResetState : Prop :=
  State.reset.sys.phase = .starting ∧ State.reset.rd SYS_START_STAT.stage = 1 ∧
  State.reset.rd SYS_START_STAT.mem_active = 0 ∧ State.reset.rd SYS_START_STAT.safe = 0 ∧
  State.reset.crypto.keys = [] ∧ (∀ m, State.reset.rights m = rightsReset) ∧ State.reset.pending = [] ∧
  State.reset.lines = [] ∧ (∀ f : Fld, State.reset.rd f = Fld.resetVal f.key) ∧
  (∀ page : Page, State.reset.rd (INT_EN.enables.on page.val) = 0) ∧
  State.reset.rd (ESC_CTL.esc_en.on 0x40) = 1 ∧
  registersWf State.reset = true ∧ memoryWf State.reset = true ∧ queueWf State.reset = true ∧ layersAgree State.reset

/-- Every step keeps the canonical form of the register file. -/
def Obligations.StepsKeepRegisterForm : Prop :=
  ∀ s t : State, registersWf s = true → step s = .next t → registersWf t = true

/-- Every step keeps the canonical form of the DRAM array. -/
def Obligations.StepsKeepMemoryForm : Prop :=
  ∀ s t : State, memoryWf s = true → step s = .next t → memoryWf t = true

/-- R87: in every page of a layer its window and its gated clock read the same, and every step keeps it so. -/
def Obligations.StepsKeepTheFieldsOfALayerEqual : Prop :=
  ∀ s t : State, layersAgree s → step s = .next t → layersAgree t

/-- R11: a set LOCK.lock stays set through every command, unless it is the power-on reset of a device that was off, or
whose power failure or shutdown has ended; a soft reset leaves it, and a power-on reset clears it. -/
def Obligations.LocksClearOnlyAtPowerOn : Prop :=
  (∀ (c : Instr) (page : Page) (s t : State), s.rd (LOCK.lock.on page.val) = 1 → exec c s = .next t →
    t.rd (LOCK.lock.on page.val) = 1 ∨
    (t.sys.phase = .starting ∧ (s.sys.phase = .off ∨ s.sys.phase = .failing ∨ s.sys.phase = .shutdown))) ∧
  (∀ (p page : Page) (s : State), ∃ t, exec (.softResetProceed p) s = .next t ∧
    t.rd (LOCK.lock.on page.val) = s.rd (LOCK.lock.on page.val)) ∧
  (∀ (mv : Nat) (aoRan : Bool) (page : Page) (s : State), s.sys.phase = .off → 8800 < mv →
    ∃ t, exec (.vinGood mv aoRan) s = .next t ∧ t.rd (LOCK.lock.on page.val) = 0)

/-- Every command completes in every state, since the spec gives each its effect and stops the block on none (assumption 9),
and what it does leaves the queue alone: only the step takes commands out of it, and only the outside puts them in. -/
def Obligations.EveryCommandCompletesAndLeavesTheQueue : Prop :=
  ∀ (c : Instr) (s : State), ∃ t, exec c s = .next t ∧ t.pending = s.pending
end

