-- ==== Sys2Proof/Laws/Sparse.lean ====
section
/-!
SUPPORT. The laws of sparse tables: reading after setting, and that every table operation keeps the canonical form.
The reading laws need no canonical form: setting drops every other entry of its key.
-/

namespace Sys2Proof.Machine

variable {α : Type} {dflt : Nat → α}

@[simp] theorem Sparse.get_nil (k : Nat) : Sparse.get dflt [] k = dflt k := rfl

theorem Sparse.erase_cons (i : Nat) (w : α) (m : Sparse α) (k : Nat) :
    Sparse.erase ((i, w) :: m) k = if i = k then Sparse.erase m k else (i, w) :: Sparse.erase m k := by
  by_cases h : i = k <;> simp [Sparse.erase, h]

@[simp] theorem Sparse.get_erase_self (m : Sparse α) (k : Nat) : Sparse.get dflt (Sparse.erase m k) k = dflt k := by
  induction m with
  | nil => rfl
  | cons e m ih =>
    rw [Sparse.erase_cons]
    split
    · exact ih
    · rename_i h
      simp [Sparse.get, h, ih]

theorem Sparse.get_erase_ne (m : Sparse α) {j k : Nat} (h : j ≠ k) :
    Sparse.get dflt (Sparse.erase m k) j = Sparse.get dflt m j := by
  induction m with
  | nil => rfl
  | cons e m ih =>
    rw [Sparse.erase_cons]
    split
    · rename_i hk
      simp [Sparse.get, hk, Ne.symm h, ih]
    · simp [Sparse.get, ih]

@[simp] theorem Sparse.get_insert_self (m : Sparse α) (k : Nat) (v : α) :
    Sparse.get dflt (Sparse.insert m k v) k = v := by
  induction m with
  | nil => simp [Sparse.insert, Sparse.get]
  | cons e m ih =>
    obtain ⟨i, w⟩ := e
    unfold Sparse.insert
    split
    · simp [Sparse.get]
    · split
      · simp [Sparse.get]
      · rename_i h
        simp [Sparse.get, Ne.symm h, ih]

theorem Sparse.get_insert_ne (m : Sparse α) {j k : Nat} (v : α) (h : j ≠ k) :
    Sparse.get dflt (Sparse.insert m k v) j = Sparse.get dflt m j := by
  induction m with
  | nil => simp [Sparse.insert, Sparse.get, Ne.symm h]
  | cons e m ih =>
    obtain ⟨i, w⟩ := e
    unfold Sparse.insert
    split
    · simp [Sparse.get, Ne.symm h]
    · split
      · rename_i hk
        simp [Sparse.get, ← hk, Ne.symm h]
      · simp [Sparse.get, ih]

variable [DecidableEq α]

@[simp] theorem Sparse.get_set_self (m : Sparse α) (k : Nat) (v : α) :
    Sparse.get dflt (Sparse.set dflt m k v) k = v := by
  unfold Sparse.set
  split
  · rename_i h
    simp [h]
  · simp

theorem Sparse.get_set_ne (m : Sparse α) {j k : Nat} (v : α) (h : j ≠ k) :
    Sparse.get dflt (Sparse.set dflt m k v) j = Sparse.get dflt m j := by
  unfold Sparse.set
  split
  · exact Sparse.get_erase_ne m h
  · exact Sparse.get_insert_ne m v h

/-- Reading after setting, for any two keys. -/
theorem Sparse.get_set (m : Sparse α) (j k : Nat) (v : α) :
    Sparse.get dflt (Sparse.set dflt m k v) j = if j = k then v else Sparse.get dflt m j := by
  split
  · rename_i h
    simp [h]
  · rename_i h
    exact Sparse.get_set_ne m v h

/-! ## The canonical form -/

omit [DecidableEq α] in
/-- Keys rise strictly exactly where the list of keys is pairwise rising. -/
theorem Sparse.sorted_iff (m : Sparse α) : Sparse.sorted m = true ↔ m.Pairwise fun a b => a.1 < b.1 := by
  induction m with
  | nil => simp [Sparse.sorted]
  | cons e m ih =>
    cases m with
    | nil => simp [Sparse.sorted]
    | cons e' m' =>
      simp only [Sparse.sorted, Bool.and_eq_true, decide_eq_true_eq, ih, List.pairwise_cons, List.mem_cons]
      constructor
      · rintro ⟨h, h1, h2⟩
        refine ⟨fun x hx => ?_, h1, h2⟩
        rcases hx with rfl | hx
        · exact h
        · exact lt_trans h (h1 x hx)
      · rintro ⟨h, h1, h2⟩
        exact ⟨h e' (Or.inl rfl), h1, h2⟩

theorem Sparse.wf_iff (m : Sparse α) :
    Sparse.wf dflt m = true ↔ (m.Pairwise fun a b => a.1 < b.1) ∧ ∀ e ∈ m, e.2 ≠ dflt e.1 := by
  simp [Sparse.wf, Sparse.sorted_iff]

@[simp] theorem Sparse.wf_nil : Sparse.wf dflt ([] : Sparse α) = true := by simp [Sparse.wf_iff]

/-- Every part of a canonical table is canonical: what a filter keeps, for one. -/
theorem Sparse.wf_sublist {l m : Sparse α} (h : l.Sublist m) (w : Sparse.wf dflt m = true) : Sparse.wf dflt l = true := by
  rw [Sparse.wf_iff] at *
  exact ⟨w.1.sublist h, fun e he => w.2 e (h.subset he)⟩

theorem Sparse.wf_filter {m : Sparse α} (p : Nat × α → Bool) (w : Sparse.wf dflt m = true) :
    Sparse.wf dflt (m.filter p) = true := Sparse.wf_sublist List.filter_sublist w

theorem Sparse.wf_erase {m : Sparse α} (k : Nat) (w : Sparse.wf dflt m = true) :
    Sparse.wf dflt (Sparse.erase m k) = true := Sparse.wf_filter _ w

omit [DecidableEq α] in
theorem Sparse.mem_insert {m : Sparse α} {k : Nat} {v : α} {e : Nat × α} (h : e ∈ Sparse.insert m k v) :
    e = (k, v) ∨ e ∈ m := by
  induction m with
  | nil => simpa [Sparse.insert] using h
  | cons x m ih =>
    obtain ⟨j, w⟩ := x
    unfold Sparse.insert at h
    split at h
    · simpa using h
    · split at h
      · simp only [List.mem_cons] at h ⊢
        tauto
      · simp only [List.mem_cons] at h ⊢
        rcases h with h | h
        · exact Or.inr (Or.inl h)
        · exact (ih h).imp id Or.inr

theorem Sparse.wf_insert {m : Sparse α} {k : Nat} {v : α} (hv : v ≠ dflt k) (w : Sparse.wf dflt m = true) :
    Sparse.wf dflt (Sparse.insert m k v) = true := by
  rw [Sparse.wf_iff] at *
  refine ⟨?_, fun e he => ?_⟩
  · obtain ⟨w, -⟩ := w
    induction m with
    | nil => simp [Sparse.insert]
    | cons x m ih =>
      obtain ⟨j, u⟩ := x
      rw [List.pairwise_cons] at w
      unfold Sparse.insert
      split
      · rename_i hk
        refine List.pairwise_cons.2 ⟨fun e he => ?_, List.pairwise_cons.2 w⟩
        rcases List.mem_cons.1 he with rfl | he
        · exact hk
        · exact lt_trans hk (w.1 e he)
      · split
        · rename_i hk
          subst hk
          exact List.pairwise_cons.2 w
        · rename_i h1 h2
          refine List.pairwise_cons.2 ⟨fun e he => ?_, ih w.2⟩
          rcases Sparse.mem_insert he with rfl | he
          · exact lt_of_le_of_ne (Nat.le_of_not_lt h1) (Ne.symm h2)
          · exact w.1 e he
  · rcases Sparse.mem_insert he with rfl | he
    · exact hv
    · exact w.2 e he

/-- Setting an entry keeps the canonical form. -/
theorem Sparse.wf_set {m : Sparse α} (k : Nat) (v : α) (w : Sparse.wf dflt m = true) :
    Sparse.wf dflt (Sparse.set dflt m k v) = true := by
  unfold Sparse.set
  split
  · exact Sparse.wf_erase k w
  · rename_i h
    exact Sparse.wf_insert h w

theorem Sparse.wf_modify {m : Sparse α} (k : Nat) (f : α → α) (w : Sparse.wf dflt m = true) :
    Sparse.wf dflt (Sparse.modify dflt m k f) = true := Sparse.wf_set k _ w

/-- Changing every entry keeps the canonical form. -/
theorem Sparse.wf_mapWith {m : Sparse α} (f : Nat → α → α) (w : Sparse.wf dflt m = true) :
    Sparse.wf dflt (Sparse.mapWith dflt m f) = true := by
  rw [Sparse.wf_iff] at *
  constructor
  · unfold Sparse.mapWith
    rw [List.pairwise_filterMap]
    refine w.1.imp fun {a b} h => ?_
    intro x hx y hy
    split at hx <;> split at hy <;> simp_all
    obtain ⟨rfl, rfl⟩ := hx, hy
    exact h
  · intro e he
    simp only [Sparse.mapWith, List.mem_filterMap] at he
    obtain ⟨x, -, hx⟩ := he
    split at hx
    · cases hx
    · rename_i h
      cases hx
      exact h

end Sys2Proof.Machine
end

