-- ==== Sys2Proof/Laws/State.lean ====
section
/-!
SUPPORT. The laws of the named operations over State: what each update writes, and one lemma for each field that it
leaves, so that no later proof unfolds a record update.
-/

namespace Sys2Proof.Machine

variable (s : State)

/-! ## The register file -/

/-- Reading a field after writing one. -/
theorem State.rd_wr (f g : Fld) (v : Nat) :
    (s.wr f v).rd g = if g.key = f.key then v % 2 ^ f.width else s.rd g := by
  simp only [State.rd, State.wr, Sparse.get_set]

@[simp] theorem State.rd_wr_self (f : Fld) (v : Nat) : (s.wr f v).rd f = v % 2 ^ f.width := by simp [State.rd_wr]

theorem State.rd_wr_ne {f g : Fld} (h : g.key ≠ f.key) (v : Nat) : (s.wr f v).rd g = s.rd g := by
  simp [State.rd_wr, h]

@[simp] theorem State.put_eq (f : Fld) : s.put f = s.wr f 1 := rfl
@[simp] theorem State.clr_eq (f : Fld) : s.clr f = s.wr f 0 := rfl
@[simp] theorem State.wrb_eq (f : Fld) (b : Bool) : s.wrb f b = s.wr f (if b then 1 else 0) := rfl
@[simp] theorem State.count_eq (f : Fld) (n : Nat) : s.count f n = s.wr f (min (s.rd f + n) (2 ^ f.width - 1)) := rfl
@[simp] theorem State.bump_eq (f : Fld) : s.bump f = s.wr f (min (s.rd f + 1) (2 ^ f.width - 1)) := rfl
@[simp] theorem State.drop_eq (f : Fld) (n : Nat) : s.drop f n = s.wr f (s.rd f - n) := rfl
@[simp] theorem State.wr64_eq (lo hi : Fld) (v : Nat) : s.wr64 lo hi v = (s.wr lo (v % 2 ^ 32)).wr hi (v / 2 ^ 32) := rfl
@[simp] theorem State.setBit_eq (f : Fld) (n : Nat) : s.setBit f n = s.wr f (s.rd f ||| 2 ^ n) := rfl
@[simp] theorem State.clrBit_eq (f : Fld) (n : Nat) : s.clrBit f n = s.wr f (s.rd f - (s.rd f &&& 2 ^ n)) := rfl
@[simp] theorem State.fixCapacity_eq : s.fixCapacity = s.wr KERF_CAPACITY.quires s.capacity := rfl
@[simp] theorem State.after_next (t : State) : s.after (.next t) = t := rfl

/-! ## What each table read gives after its own update -/

@[simp] theorem State.page_setPage (n : Nat) (v : PageState) : (s.setPage n v).page n = v := by simp [State.page, State.setPage]
theorem State.page_setPage_ne {m n : Nat} (h : m ≠ n) (v : PageState) : (s.setPage n v).page m = s.page m := by
  simp [State.page, State.setPage, Sparse.get_set_ne _ _ h]
@[simp] theorem State.pc_setPc (n : Nat) (v : Pc) : (s.setPc n v).pc n = v := by simp [State.pc, State.setPc]
theorem State.pc_setPc_ne {m n : Nat} (h : m ≠ n) (v : Pc) : (s.setPc n v).pc m = s.pc m := by
  simp [State.pc, State.setPc, Sparse.get_set_ne _ _ h]
@[simp] theorem State.layer_setLayer (n : Nat) (v : Layer) : (s.setLayer n v).layer n = v := by simp [State.layer, State.setLayer]
theorem State.layer_setLayer_ne {m n : Nat} (h : m ≠ n) (v : Layer) : (s.setLayer n v).layer m = s.layer m := by
  simp [State.layer, State.setLayer, Sparse.get_set_ne _ _ h]
@[simp] theorem State.eng_setEng (n : Nat) (v : KerfEng) : (s.setEng n v).eng n = v := by simp [State.eng, State.setEng]
theorem State.eng_setEng_ne {m n : Nat} (h : m ≠ n) (v : KerfEng) : (s.setEng n v).eng m = s.eng m := by
  simp [State.eng, State.setEng, Sparse.get_set_ne _ _ h]
@[simp] theorem State.quire_setQuire (n : Nat) (v : QEntry) : (s.setQuire n v).quire n = v := by simp [State.quire, State.setQuire]
theorem State.quire_setQuire_ne {m n : Nat} (h : m ≠ n) (v : QEntry) : (s.setQuire n v).quire m = s.quire m := by
  simp [State.quire, State.setQuire, Sparse.get_set_ne _ _ h]
@[simp] theorem State.key_setKey (n : Nat) (v : KeySlot) : (s.setKey n v).key n = v := by simp [State.key, State.setKey]
theorem State.key_setKey_ne {m n : Nat} (h : m ≠ n) (v : KeySlot) : (s.setKey n v).key m = s.key m := by
  simp [State.key, State.setKey, Sparse.get_set_ne _ _ h]
@[simp] theorem State.rights_setRights (n : Nat) (v : BitVec 256) : (s.setRights n v).rights n = v := by simp [State.rights, State.setRights]
theorem State.rights_setRights_ne {m n : Nat} (h : m ≠ n) (v : BitVec 256) : (s.setRights n v).rights m = s.rights m := by
  simp [State.rights, State.setRights, Sparse.get_set_ne _ _ h]
@[simp] theorem State.range_setRange (n : Nat) (v : KeyRange) : (s.setRange n v).range n = v := by simp [State.range, State.setRange]
theorem State.range_setRange_ne {m n : Nat} (h : m ≠ n) (v : KeyRange) : (s.setRange n v).range m = s.range m := by
  simp [State.range, State.setRange, Sparse.get_set_ne _ _ h]
@[simp] theorem State.pair_setPair (n : Nat) (v : PairForce) : (s.setPair n v).pair n = v := by simp [State.pair, State.setPair]
theorem State.pair_setPair_ne {m n : Nat} (h : m ≠ n) (v : PairForce) : (s.setPair n v).pair m = s.pair m := by
  simp [State.pair, State.setPair, Sparse.get_set_ne _ _ h]
@[simp] theorem State.port_setPort (n : Nat) (v : PortState) : (s.setPort n v).port n = v := by simp [State.port, State.setPort]
theorem State.port_setPort_ne {m n : Nat} (h : m ≠ n) (v : PortState) : (s.setPort n v).port m = s.port m := by
  simp [State.port, State.setPort, Sparse.get_set_ne _ _ h]
@[simp] theorem State.ld_setLd (n : Nat) (v : LdState) : (s.setLd n v).ld n = v := by simp [State.ld, State.setLd]
theorem State.ld_setLd_ne {m n : Nat} (h : m ≠ n) (v : LdState) : (s.setLd n v).ld m = s.ld m := by
  simp [State.ld, State.setLd, Sparse.get_set_ne _ _ h]
@[simp] theorem State.lane_setLane (n : Nat) (v : LaneState) : (s.setLane n v).lane n = v := by simp [State.lane, State.setLane]
theorem State.lane_setLane_ne {m n : Nat} (h : m ≠ n) (v : LaneState) : (s.setLane n v).lane m = s.lane m := by
  simp [State.lane, State.setLane, Sparse.get_set_ne _ _ h]
@[simp] theorem State.xing_setXing (n : Nat) (v : Crossing) : (s.setXing n v).xing n = v := by simp [State.xing, State.setXing]
theorem State.xing_setXing_ne {m n : Nat} (h : m ≠ n) (v : Crossing) : (s.setXing n v).xing m = s.xing m := by
  simp [State.xing, State.setXing, Sparse.get_set_ne _ _ h]
@[simp] theorem State.domain_setDomain (n : Nat) (v : DomainState) : (s.setDomain n v).domain n = v := by simp [State.domain, State.setDomain]
theorem State.domain_setDomain_ne {m n : Nat} (h : m ≠ n) (v : DomainState) : (s.setDomain n v).domain m = s.domain m := by
  simp [State.domain, State.setDomain, Sparse.get_set_ne _ _ h]
@[simp] theorem State.cal_setCal (n : Nat) (v : CalState) : (s.setCal n v).cal n = v := by simp [State.cal, State.setCal]
theorem State.cal_setCal_ne {m n : Nat} (h : m ≠ n) (v : CalState) : (s.setCal n v).cal m = s.cal m := by
  simp [State.cal, State.setCal, Sparse.get_set_ne _ _ h]
@[simp] theorem State.sensor_setSensor (n : Nat) (v : Sensor) : (s.setSensor n v).sensor n = v := by simp [State.sensor, State.setSensor]
theorem State.sensor_setSensor_ne {m n : Nat} (h : m ≠ n) (v : Sensor) : (s.setSensor n v).sensor m = s.sensor m := by
  simp [State.sensor, State.setSensor, Sparse.get_set_ne _ _ h]
@[simp] theorem State.heat_setHeat (n : Nat) (v : LayerTherm) : (s.setHeat n v).heat n = v := by simp [State.heat, State.setHeat]
theorem State.heat_setHeat_ne {m n : Nat} (h : m ≠ n) (v : LayerTherm) : (s.setHeat n v).heat m = s.heat m := by
  simp [State.heat, State.setHeat, Sparse.get_set_ne _ _ h]
@[simp] theorem State.tip_setTip (n : Nat) (v : TipEntry) : (s.setTip n v).tip n = v := by simp [State.tip, State.setTip]
theorem State.tip_setTip_ne {m n : Nat} (h : m ≠ n) (v : TipEntry) : (s.setTip n v).tip m = s.tip m := by
  simp [State.tip, State.setTip, Sparse.get_set_ne _ _ h]
@[simp] theorem State.line_setLine (a : Nat) (v : StoredLine) : (s.setLine a v).line a = v := by
  simp [State.line, State.setLine]
theorem State.line_setLine_ne {a b : Nat} (h : b / 64 ≠ a / 64) (v : StoredLine) : (s.setLine a v).line b = s.line b := by
  simp [State.line, State.setLine, Sparse.get_set_ne _ _ h]

/-! ## What each update leaves -/

@[simp] theorem State.wr_now (f : Fld) (v : Nat) : (s.wr f v).now = s.now := rfl
@[simp] theorem State.wr_free (f : Fld) (v : Nat) : (s.wr f v).free = s.free := rfl
@[simp] theorem State.wr_out (f : Fld) (v : Nat) : (s.wr f v).out = s.out := rfl
@[simp] theorem State.wr_pages (f : Fld) (v : Nat) : (s.wr f v).pages = s.pages := rfl
@[simp] theorem State.wr_transit (f : Fld) (v : Nat) : (s.wr f v).transit = s.transit := rfl
@[simp] theorem State.wr_nextReq (f : Fld) (v : Nat) : (s.wr f v).nextReq = s.nextReq := rfl
@[simp] theorem State.wr_stalled (f : Fld) (v : Nat) : (s.wr f v).stalled = s.stalled := rfl
@[simp] theorem State.wr_pcs (f : Fld) (v : Nat) : (s.wr f v).pcs = s.pcs := rfl
@[simp] theorem State.wr_layers (f : Fld) (v : Nat) : (s.wr f v).layers = s.layers := rfl
@[simp] theorem State.wr_lines (f : Fld) (v : Nat) : (s.wr f v).lines = s.lines := rfl
@[simp] theorem State.wr_kerf (f : Fld) (v : Nat) : (s.wr f v).kerf = s.kerf := rfl
@[simp] theorem State.wr_repair (f : Fld) (v : Nat) : (s.wr f v).repair = s.repair := rfl
@[simp] theorem State.wr_recoveries (f : Fld) (v : Nat) : (s.wr f v).recoveries = s.recoveries := rfl
@[simp] theorem State.wr_folio (f : Fld) (v : Nat) : (s.wr f v).folio = s.folio := rfl
@[simp] theorem State.wr_bank (f : Fld) (v : Nat) : (s.wr f v).bank = s.bank := rfl
@[simp] theorem State.wr_crypto (f : Fld) (v : Nat) : (s.wr f v).crypto = s.crypto := rfl
@[simp] theorem State.wr_gauge (f : Fld) (v : Nat) : (s.wr f v).gauge = s.gauge := rfl
@[simp] theorem State.wr_chisel (f : Fld) (v : Nat) : (s.wr f v).chisel = s.chisel := rfl
@[simp] theorem State.wr_dove (f : Fld) (v : Nat) : (s.wr f v).dove = s.dove := rfl
@[simp] theorem State.wr_ports (f : Fld) (v : Nat) : (s.wr f v).ports = s.ports := rfl
@[simp] theorem State.wr_lds (f : Fld) (v : Nat) : (s.wr f v).lds = s.lds := rfl
@[simp] theorem State.wr_mbox (f : Fld) (v : Nat) : (s.wr f v).mbox = s.mbox := rfl
@[simp] theorem State.wr_lanes (f : Fld) (v : Nat) : (s.wr f v).lanes = s.lanes := rfl
@[simp] theorem State.wr_spline (f : Fld) (v : Nat) : (s.wr f v).spline = s.spline := rfl
@[simp] theorem State.wr_clk (f : Fld) (v : Nat) : (s.wr f v).clk = s.clk := rfl
@[simp] theorem State.wr_domains (f : Fld) (v : Nat) : (s.wr f v).domains = s.domains := rfl
@[simp] theorem State.wr_sys (f : Fld) (v : Nat) : (s.wr f v).sys = s.sys := rfl
@[simp] theorem State.wr_cals (f : Fld) (v : Nat) : (s.wr f v).cals = s.cals := rfl
@[simp] theorem State.wr_sensors (f : Fld) (v : Nat) : (s.wr f v).sensors = s.sensors := rfl
@[simp] theorem State.wr_therm (f : Fld) (v : Nat) : (s.wr f v).therm = s.therm := rfl
@[simp] theorem State.wr_pin (f : Fld) (v : Nat) : (s.wr f v).pin = s.pin := rfl
@[simp] theorem State.wr_bist (f : Fld) (v : Nat) : (s.wr f v).bist = s.bist := rfl
@[simp] theorem State.wr_otp (f : Fld) (v : Nat) : (s.wr f v).otp = s.otp := rfl
@[simp] theorem State.wr_sb (f : Fld) (v : Nat) : (s.wr f v).sb = s.sb := rfl
@[simp] theorem State.wr_pending (f : Fld) (v : Nat) : (s.wr f v).pending = s.pending := rfl
@[simp] theorem State.wr_page (f : Fld) (v : Nat) (i : Nat) : (s.wr f v).page i = s.page i := rfl
@[simp] theorem State.wr_pc (f : Fld) (v : Nat) (i : Nat) : (s.wr f v).pc i = s.pc i := rfl
@[simp] theorem State.wr_layer (f : Fld) (v : Nat) (i : Nat) : (s.wr f v).layer i = s.layer i := rfl
@[simp] theorem State.wr_eng (f : Fld) (v : Nat) (i : Nat) : (s.wr f v).eng i = s.eng i := rfl
@[simp] theorem State.wr_quire (f : Fld) (v : Nat) (i : Nat) : (s.wr f v).quire i = s.quire i := rfl
@[simp] theorem State.wr_key (f : Fld) (v : Nat) (i : Nat) : (s.wr f v).key i = s.key i := rfl
@[simp] theorem State.wr_rights (f : Fld) (v : Nat) (i : Nat) : (s.wr f v).rights i = s.rights i := rfl
@[simp] theorem State.wr_range (f : Fld) (v : Nat) (i : Nat) : (s.wr f v).range i = s.range i := rfl
@[simp] theorem State.wr_pair (f : Fld) (v : Nat) (i : Nat) : (s.wr f v).pair i = s.pair i := rfl
@[simp] theorem State.wr_port (f : Fld) (v : Nat) (i : Nat) : (s.wr f v).port i = s.port i := rfl
@[simp] theorem State.wr_ld (f : Fld) (v : Nat) (i : Nat) : (s.wr f v).ld i = s.ld i := rfl
@[simp] theorem State.wr_lane (f : Fld) (v : Nat) (i : Nat) : (s.wr f v).lane i = s.lane i := rfl
@[simp] theorem State.wr_xing (f : Fld) (v : Nat) (i : Nat) : (s.wr f v).xing i = s.xing i := rfl
@[simp] theorem State.wr_domain (f : Fld) (v : Nat) (i : Nat) : (s.wr f v).domain i = s.domain i := rfl
@[simp] theorem State.wr_cal (f : Fld) (v : Nat) (i : Nat) : (s.wr f v).cal i = s.cal i := rfl
@[simp] theorem State.wr_sensor (f : Fld) (v : Nat) (i : Nat) : (s.wr f v).sensor i = s.sensor i := rfl
@[simp] theorem State.wr_heat (f : Fld) (v : Nat) (i : Nat) : (s.wr f v).heat i = s.heat i := rfl
@[simp] theorem State.wr_tip (f : Fld) (v : Nat) (i : Nat) : (s.wr f v).tip i = s.tip i := rfl
@[simp] theorem State.wr_line (f : Fld) (v : Nat) (i : Nat) : (s.wr f v).line i = s.line i := rfl
@[simp] theorem State.resetPage_now (p : Nat) (k : Nat → Bool) : (s.resetPage p k).now = s.now := rfl
@[simp] theorem State.resetPage_free (p : Nat) (k : Nat → Bool) : (s.resetPage p k).free = s.free := rfl
@[simp] theorem State.resetPage_out (p : Nat) (k : Nat → Bool) : (s.resetPage p k).out = s.out := rfl
@[simp] theorem State.resetPage_pages (p : Nat) (k : Nat → Bool) : (s.resetPage p k).pages = s.pages := rfl
@[simp] theorem State.resetPage_transit (p : Nat) (k : Nat → Bool) : (s.resetPage p k).transit = s.transit := rfl
@[simp] theorem State.resetPage_nextReq (p : Nat) (k : Nat → Bool) : (s.resetPage p k).nextReq = s.nextReq := rfl
@[simp] theorem State.resetPage_stalled (p : Nat) (k : Nat → Bool) : (s.resetPage p k).stalled = s.stalled := rfl
@[simp] theorem State.resetPage_pcs (p : Nat) (k : Nat → Bool) : (s.resetPage p k).pcs = s.pcs := rfl
@[simp] theorem State.resetPage_layers (p : Nat) (k : Nat → Bool) : (s.resetPage p k).layers = s.layers := rfl
@[simp] theorem State.resetPage_lines (p : Nat) (k : Nat → Bool) : (s.resetPage p k).lines = s.lines := rfl
@[simp] theorem State.resetPage_kerf (p : Nat) (k : Nat → Bool) : (s.resetPage p k).kerf = s.kerf := rfl
@[simp] theorem State.resetPage_repair (p : Nat) (k : Nat → Bool) : (s.resetPage p k).repair = s.repair := rfl
@[simp] theorem State.resetPage_recoveries (p : Nat) (k : Nat → Bool) : (s.resetPage p k).recoveries = s.recoveries := rfl
@[simp] theorem State.resetPage_folio (p : Nat) (k : Nat → Bool) : (s.resetPage p k).folio = s.folio := rfl
@[simp] theorem State.resetPage_bank (p : Nat) (k : Nat → Bool) : (s.resetPage p k).bank = s.bank := rfl
@[simp] theorem State.resetPage_crypto (p : Nat) (k : Nat → Bool) : (s.resetPage p k).crypto = s.crypto := rfl
@[simp] theorem State.resetPage_gauge (p : Nat) (k : Nat → Bool) : (s.resetPage p k).gauge = s.gauge := rfl
@[simp] theorem State.resetPage_chisel (p : Nat) (k : Nat → Bool) : (s.resetPage p k).chisel = s.chisel := rfl
@[simp] theorem State.resetPage_dove (p : Nat) (k : Nat → Bool) : (s.resetPage p k).dove = s.dove := rfl
@[simp] theorem State.resetPage_ports (p : Nat) (k : Nat → Bool) : (s.resetPage p k).ports = s.ports := rfl
@[simp] theorem State.resetPage_lds (p : Nat) (k : Nat → Bool) : (s.resetPage p k).lds = s.lds := rfl
@[simp] theorem State.resetPage_mbox (p : Nat) (k : Nat → Bool) : (s.resetPage p k).mbox = s.mbox := rfl
@[simp] theorem State.resetPage_lanes (p : Nat) (k : Nat → Bool) : (s.resetPage p k).lanes = s.lanes := rfl
@[simp] theorem State.resetPage_spline (p : Nat) (k : Nat → Bool) : (s.resetPage p k).spline = s.spline := rfl
@[simp] theorem State.resetPage_clk (p : Nat) (k : Nat → Bool) : (s.resetPage p k).clk = s.clk := rfl
@[simp] theorem State.resetPage_domains (p : Nat) (k : Nat → Bool) : (s.resetPage p k).domains = s.domains := rfl
@[simp] theorem State.resetPage_sys (p : Nat) (k : Nat → Bool) : (s.resetPage p k).sys = s.sys := rfl
@[simp] theorem State.resetPage_cals (p : Nat) (k : Nat → Bool) : (s.resetPage p k).cals = s.cals := rfl
@[simp] theorem State.resetPage_sensors (p : Nat) (k : Nat → Bool) : (s.resetPage p k).sensors = s.sensors := rfl
@[simp] theorem State.resetPage_therm (p : Nat) (k : Nat → Bool) : (s.resetPage p k).therm = s.therm := rfl
@[simp] theorem State.resetPage_pin (p : Nat) (k : Nat → Bool) : (s.resetPage p k).pin = s.pin := rfl
@[simp] theorem State.resetPage_bist (p : Nat) (k : Nat → Bool) : (s.resetPage p k).bist = s.bist := rfl
@[simp] theorem State.resetPage_otp (p : Nat) (k : Nat → Bool) : (s.resetPage p k).otp = s.otp := rfl
@[simp] theorem State.resetPage_sb (p : Nat) (k : Nat → Bool) : (s.resetPage p k).sb = s.sb := rfl
@[simp] theorem State.resetPage_pending (p : Nat) (k : Nat → Bool) : (s.resetPage p k).pending = s.pending := rfl
@[simp] theorem State.resetPage_page (p : Nat) (k : Nat → Bool) (i : Nat) : (s.resetPage p k).page i = s.page i := rfl
@[simp] theorem State.resetPage_pc (p : Nat) (k : Nat → Bool) (i : Nat) : (s.resetPage p k).pc i = s.pc i := rfl
@[simp] theorem State.resetPage_layer (p : Nat) (k : Nat → Bool) (i : Nat) : (s.resetPage p k).layer i = s.layer i := rfl
@[simp] theorem State.resetPage_eng (p : Nat) (k : Nat → Bool) (i : Nat) : (s.resetPage p k).eng i = s.eng i := rfl
@[simp] theorem State.resetPage_quire (p : Nat) (k : Nat → Bool) (i : Nat) : (s.resetPage p k).quire i = s.quire i := rfl
@[simp] theorem State.resetPage_key (p : Nat) (k : Nat → Bool) (i : Nat) : (s.resetPage p k).key i = s.key i := rfl
@[simp] theorem State.resetPage_rights (p : Nat) (k : Nat → Bool) (i : Nat) : (s.resetPage p k).rights i = s.rights i := rfl
@[simp] theorem State.resetPage_range (p : Nat) (k : Nat → Bool) (i : Nat) : (s.resetPage p k).range i = s.range i := rfl
@[simp] theorem State.resetPage_pair (p : Nat) (k : Nat → Bool) (i : Nat) : (s.resetPage p k).pair i = s.pair i := rfl
@[simp] theorem State.resetPage_port (p : Nat) (k : Nat → Bool) (i : Nat) : (s.resetPage p k).port i = s.port i := rfl
@[simp] theorem State.resetPage_ld (p : Nat) (k : Nat → Bool) (i : Nat) : (s.resetPage p k).ld i = s.ld i := rfl
@[simp] theorem State.resetPage_lane (p : Nat) (k : Nat → Bool) (i : Nat) : (s.resetPage p k).lane i = s.lane i := rfl
@[simp] theorem State.resetPage_xing (p : Nat) (k : Nat → Bool) (i : Nat) : (s.resetPage p k).xing i = s.xing i := rfl
@[simp] theorem State.resetPage_domain (p : Nat) (k : Nat → Bool) (i : Nat) : (s.resetPage p k).domain i = s.domain i := rfl
@[simp] theorem State.resetPage_cal (p : Nat) (k : Nat → Bool) (i : Nat) : (s.resetPage p k).cal i = s.cal i := rfl
@[simp] theorem State.resetPage_sensor (p : Nat) (k : Nat → Bool) (i : Nat) : (s.resetPage p k).sensor i = s.sensor i := rfl
@[simp] theorem State.resetPage_heat (p : Nat) (k : Nat → Bool) (i : Nat) : (s.resetPage p k).heat i = s.heat i := rfl
@[simp] theorem State.resetPage_tip (p : Nat) (k : Nat → Bool) (i : Nat) : (s.resetPage p k).tip i = s.tip i := rfl
@[simp] theorem State.resetPage_line (p : Nat) (k : Nat → Bool) (i : Nat) : (s.resetPage p k).line i = s.line i := rfl
@[simp] theorem State.advance_flds (dt : Nat) : (s.advance dt).flds = s.flds := rfl
@[simp] theorem State.advance_free (dt : Nat) : (s.advance dt).free = s.free := rfl
@[simp] theorem State.advance_out (dt : Nat) : (s.advance dt).out = s.out := rfl
@[simp] theorem State.advance_pages (dt : Nat) : (s.advance dt).pages = s.pages := rfl
@[simp] theorem State.advance_transit (dt : Nat) : (s.advance dt).transit = s.transit := rfl
@[simp] theorem State.advance_nextReq (dt : Nat) : (s.advance dt).nextReq = s.nextReq := rfl
@[simp] theorem State.advance_stalled (dt : Nat) : (s.advance dt).stalled = s.stalled := rfl
@[simp] theorem State.advance_pcs (dt : Nat) : (s.advance dt).pcs = s.pcs := rfl
@[simp] theorem State.advance_layers (dt : Nat) : (s.advance dt).layers = s.layers := rfl
@[simp] theorem State.advance_lines (dt : Nat) : (s.advance dt).lines = s.lines := rfl
@[simp] theorem State.advance_kerf (dt : Nat) : (s.advance dt).kerf = s.kerf := rfl
@[simp] theorem State.advance_repair (dt : Nat) : (s.advance dt).repair = s.repair := rfl
@[simp] theorem State.advance_recoveries (dt : Nat) : (s.advance dt).recoveries = s.recoveries := rfl
@[simp] theorem State.advance_folio (dt : Nat) : (s.advance dt).folio = s.folio := rfl
@[simp] theorem State.advance_bank (dt : Nat) : (s.advance dt).bank = s.bank := rfl
@[simp] theorem State.advance_crypto (dt : Nat) : (s.advance dt).crypto = s.crypto := rfl
@[simp] theorem State.advance_gauge (dt : Nat) : (s.advance dt).gauge = s.gauge := rfl
@[simp] theorem State.advance_chisel (dt : Nat) : (s.advance dt).chisel = s.chisel := rfl
@[simp] theorem State.advance_dove (dt : Nat) : (s.advance dt).dove = s.dove := rfl
@[simp] theorem State.advance_ports (dt : Nat) : (s.advance dt).ports = s.ports := rfl
@[simp] theorem State.advance_lds (dt : Nat) : (s.advance dt).lds = s.lds := rfl
@[simp] theorem State.advance_mbox (dt : Nat) : (s.advance dt).mbox = s.mbox := rfl
@[simp] theorem State.advance_lanes (dt : Nat) : (s.advance dt).lanes = s.lanes := rfl
@[simp] theorem State.advance_spline (dt : Nat) : (s.advance dt).spline = s.spline := rfl
@[simp] theorem State.advance_domains (dt : Nat) : (s.advance dt).domains = s.domains := rfl
@[simp] theorem State.advance_sys (dt : Nat) : (s.advance dt).sys = s.sys := rfl
@[simp] theorem State.advance_cals (dt : Nat) : (s.advance dt).cals = s.cals := rfl
@[simp] theorem State.advance_sensors (dt : Nat) : (s.advance dt).sensors = s.sensors := rfl
@[simp] theorem State.advance_therm (dt : Nat) : (s.advance dt).therm = s.therm := rfl
@[simp] theorem State.advance_pin (dt : Nat) : (s.advance dt).pin = s.pin := rfl
@[simp] theorem State.advance_bist (dt : Nat) : (s.advance dt).bist = s.bist := rfl
@[simp] theorem State.advance_otp (dt : Nat) : (s.advance dt).otp = s.otp := rfl
@[simp] theorem State.advance_sb (dt : Nat) : (s.advance dt).sb = s.sb := rfl
@[simp] theorem State.advance_pending (dt : Nat) : (s.advance dt).pending = s.pending := rfl
@[simp] theorem State.advance_rd (dt : Nat) (g : Fld) : (s.advance dt).rd g = s.rd g := rfl
@[simp] theorem State.advance_on (dt : Nat) (g : Fld) : (s.advance dt).on g = s.on g := rfl
@[simp] theorem State.advance_page (dt : Nat) (i : Nat) : (s.advance dt).page i = s.page i := rfl
@[simp] theorem State.advance_pc (dt : Nat) (i : Nat) : (s.advance dt).pc i = s.pc i := rfl
@[simp] theorem State.advance_layer (dt : Nat) (i : Nat) : (s.advance dt).layer i = s.layer i := rfl
@[simp] theorem State.advance_eng (dt : Nat) (i : Nat) : (s.advance dt).eng i = s.eng i := rfl
@[simp] theorem State.advance_quire (dt : Nat) (i : Nat) : (s.advance dt).quire i = s.quire i := rfl
@[simp] theorem State.advance_key (dt : Nat) (i : Nat) : (s.advance dt).key i = s.key i := rfl
@[simp] theorem State.advance_rights (dt : Nat) (i : Nat) : (s.advance dt).rights i = s.rights i := rfl
@[simp] theorem State.advance_range (dt : Nat) (i : Nat) : (s.advance dt).range i = s.range i := rfl
@[simp] theorem State.advance_pair (dt : Nat) (i : Nat) : (s.advance dt).pair i = s.pair i := rfl
@[simp] theorem State.advance_port (dt : Nat) (i : Nat) : (s.advance dt).port i = s.port i := rfl
@[simp] theorem State.advance_ld (dt : Nat) (i : Nat) : (s.advance dt).ld i = s.ld i := rfl
@[simp] theorem State.advance_lane (dt : Nat) (i : Nat) : (s.advance dt).lane i = s.lane i := rfl
@[simp] theorem State.advance_xing (dt : Nat) (i : Nat) : (s.advance dt).xing i = s.xing i := rfl
@[simp] theorem State.advance_domain (dt : Nat) (i : Nat) : (s.advance dt).domain i = s.domain i := rfl
@[simp] theorem State.advance_cal (dt : Nat) (i : Nat) : (s.advance dt).cal i = s.cal i := rfl
@[simp] theorem State.advance_sensor (dt : Nat) (i : Nat) : (s.advance dt).sensor i = s.sensor i := rfl
@[simp] theorem State.advance_heat (dt : Nat) (i : Nat) : (s.advance dt).heat i = s.heat i := rfl
@[simp] theorem State.advance_tip (dt : Nat) (i : Nat) : (s.advance dt).tip i = s.tip i := rfl
@[simp] theorem State.advance_line (dt : Nat) (i : Nat) : (s.advance dt).line i = s.line i := rfl
@[simp] theorem State.emit_flds (o : Out) : (s.emit o).flds = s.flds := rfl
@[simp] theorem State.emit_now (o : Out) : (s.emit o).now = s.now := rfl
@[simp] theorem State.emit_free (o : Out) : (s.emit o).free = s.free := rfl
@[simp] theorem State.emit_pages (o : Out) : (s.emit o).pages = s.pages := rfl
@[simp] theorem State.emit_transit (o : Out) : (s.emit o).transit = s.transit := rfl
@[simp] theorem State.emit_nextReq (o : Out) : (s.emit o).nextReq = s.nextReq := rfl
@[simp] theorem State.emit_stalled (o : Out) : (s.emit o).stalled = s.stalled := rfl
@[simp] theorem State.emit_pcs (o : Out) : (s.emit o).pcs = s.pcs := rfl
@[simp] theorem State.emit_layers (o : Out) : (s.emit o).layers = s.layers := rfl
@[simp] theorem State.emit_lines (o : Out) : (s.emit o).lines = s.lines := rfl
@[simp] theorem State.emit_kerf (o : Out) : (s.emit o).kerf = s.kerf := rfl
@[simp] theorem State.emit_repair (o : Out) : (s.emit o).repair = s.repair := rfl
@[simp] theorem State.emit_recoveries (o : Out) : (s.emit o).recoveries = s.recoveries := rfl
@[simp] theorem State.emit_folio (o : Out) : (s.emit o).folio = s.folio := rfl
@[simp] theorem State.emit_bank (o : Out) : (s.emit o).bank = s.bank := rfl
@[simp] theorem State.emit_crypto (o : Out) : (s.emit o).crypto = s.crypto := rfl
@[simp] theorem State.emit_gauge (o : Out) : (s.emit o).gauge = s.gauge := rfl
@[simp] theorem State.emit_chisel (o : Out) : (s.emit o).chisel = s.chisel := rfl
@[simp] theorem State.emit_dove (o : Out) : (s.emit o).dove = s.dove := rfl
@[simp] theorem State.emit_ports (o : Out) : (s.emit o).ports = s.ports := rfl
@[simp] theorem State.emit_lds (o : Out) : (s.emit o).lds = s.lds := rfl
@[simp] theorem State.emit_mbox (o : Out) : (s.emit o).mbox = s.mbox := rfl
@[simp] theorem State.emit_lanes (o : Out) : (s.emit o).lanes = s.lanes := rfl
@[simp] theorem State.emit_spline (o : Out) : (s.emit o).spline = s.spline := rfl
@[simp] theorem State.emit_clk (o : Out) : (s.emit o).clk = s.clk := rfl
@[simp] theorem State.emit_domains (o : Out) : (s.emit o).domains = s.domains := rfl
@[simp] theorem State.emit_sys (o : Out) : (s.emit o).sys = s.sys := rfl
@[simp] theorem State.emit_cals (o : Out) : (s.emit o).cals = s.cals := rfl
@[simp] theorem State.emit_sensors (o : Out) : (s.emit o).sensors = s.sensors := rfl
@[simp] theorem State.emit_therm (o : Out) : (s.emit o).therm = s.therm := rfl
@[simp] theorem State.emit_pin (o : Out) : (s.emit o).pin = s.pin := rfl
@[simp] theorem State.emit_bist (o : Out) : (s.emit o).bist = s.bist := rfl
@[simp] theorem State.emit_otp (o : Out) : (s.emit o).otp = s.otp := rfl
@[simp] theorem State.emit_sb (o : Out) : (s.emit o).sb = s.sb := rfl
@[simp] theorem State.emit_pending (o : Out) : (s.emit o).pending = s.pending := rfl
@[simp] theorem State.emit_rd (o : Out) (g : Fld) : (s.emit o).rd g = s.rd g := rfl
@[simp] theorem State.emit_on (o : Out) (g : Fld) : (s.emit o).on g = s.on g := rfl
@[simp] theorem State.emit_page (o : Out) (i : Nat) : (s.emit o).page i = s.page i := rfl
@[simp] theorem State.emit_pc (o : Out) (i : Nat) : (s.emit o).pc i = s.pc i := rfl
@[simp] theorem State.emit_layer (o : Out) (i : Nat) : (s.emit o).layer i = s.layer i := rfl
@[simp] theorem State.emit_eng (o : Out) (i : Nat) : (s.emit o).eng i = s.eng i := rfl
@[simp] theorem State.emit_quire (o : Out) (i : Nat) : (s.emit o).quire i = s.quire i := rfl
@[simp] theorem State.emit_key (o : Out) (i : Nat) : (s.emit o).key i = s.key i := rfl
@[simp] theorem State.emit_rights (o : Out) (i : Nat) : (s.emit o).rights i = s.rights i := rfl
@[simp] theorem State.emit_range (o : Out) (i : Nat) : (s.emit o).range i = s.range i := rfl
@[simp] theorem State.emit_pair (o : Out) (i : Nat) : (s.emit o).pair i = s.pair i := rfl
@[simp] theorem State.emit_port (o : Out) (i : Nat) : (s.emit o).port i = s.port i := rfl
@[simp] theorem State.emit_ld (o : Out) (i : Nat) : (s.emit o).ld i = s.ld i := rfl
@[simp] theorem State.emit_lane (o : Out) (i : Nat) : (s.emit o).lane i = s.lane i := rfl
@[simp] theorem State.emit_xing (o : Out) (i : Nat) : (s.emit o).xing i = s.xing i := rfl
@[simp] theorem State.emit_domain (o : Out) (i : Nat) : (s.emit o).domain i = s.domain i := rfl
@[simp] theorem State.emit_cal (o : Out) (i : Nat) : (s.emit o).cal i = s.cal i := rfl
@[simp] theorem State.emit_sensor (o : Out) (i : Nat) : (s.emit o).sensor i = s.sensor i := rfl
@[simp] theorem State.emit_heat (o : Out) (i : Nat) : (s.emit o).heat i = s.heat i := rfl
@[simp] theorem State.emit_tip (o : Out) (i : Nat) : (s.emit o).tip i = s.tip i := rfl
@[simp] theorem State.emit_line (o : Out) (i : Nat) : (s.emit o).line i = s.line i := rfl
@[simp] theorem State.drawn_flds : (s.drawn).flds = s.flds := rfl
@[simp] theorem State.drawn_now : (s.drawn).now = s.now := rfl
@[simp] theorem State.drawn_out : (s.drawn).out = s.out := rfl
@[simp] theorem State.drawn_pages : (s.drawn).pages = s.pages := rfl
@[simp] theorem State.drawn_transit : (s.drawn).transit = s.transit := rfl
@[simp] theorem State.drawn_nextReq : (s.drawn).nextReq = s.nextReq := rfl
@[simp] theorem State.drawn_stalled : (s.drawn).stalled = s.stalled := rfl
@[simp] theorem State.drawn_pcs : (s.drawn).pcs = s.pcs := rfl
@[simp] theorem State.drawn_layers : (s.drawn).layers = s.layers := rfl
@[simp] theorem State.drawn_lines : (s.drawn).lines = s.lines := rfl
@[simp] theorem State.drawn_kerf : (s.drawn).kerf = s.kerf := rfl
@[simp] theorem State.drawn_repair : (s.drawn).repair = s.repair := rfl
@[simp] theorem State.drawn_recoveries : (s.drawn).recoveries = s.recoveries := rfl
@[simp] theorem State.drawn_folio : (s.drawn).folio = s.folio := rfl
@[simp] theorem State.drawn_bank : (s.drawn).bank = s.bank := rfl
@[simp] theorem State.drawn_crypto : (s.drawn).crypto = s.crypto := rfl
@[simp] theorem State.drawn_gauge : (s.drawn).gauge = s.gauge := rfl
@[simp] theorem State.drawn_chisel : (s.drawn).chisel = s.chisel := rfl
@[simp] theorem State.drawn_dove : (s.drawn).dove = s.dove := rfl
@[simp] theorem State.drawn_ports : (s.drawn).ports = s.ports := rfl
@[simp] theorem State.drawn_lds : (s.drawn).lds = s.lds := rfl
@[simp] theorem State.drawn_mbox : (s.drawn).mbox = s.mbox := rfl
@[simp] theorem State.drawn_lanes : (s.drawn).lanes = s.lanes := rfl
@[simp] theorem State.drawn_spline : (s.drawn).spline = s.spline := rfl
@[simp] theorem State.drawn_clk : (s.drawn).clk = s.clk := rfl
@[simp] theorem State.drawn_domains : (s.drawn).domains = s.domains := rfl
@[simp] theorem State.drawn_sys : (s.drawn).sys = s.sys := rfl
@[simp] theorem State.drawn_cals : (s.drawn).cals = s.cals := rfl
@[simp] theorem State.drawn_sensors : (s.drawn).sensors = s.sensors := rfl
@[simp] theorem State.drawn_therm : (s.drawn).therm = s.therm := rfl
@[simp] theorem State.drawn_pin : (s.drawn).pin = s.pin := rfl
@[simp] theorem State.drawn_bist : (s.drawn).bist = s.bist := rfl
@[simp] theorem State.drawn_otp : (s.drawn).otp = s.otp := rfl
@[simp] theorem State.drawn_sb : (s.drawn).sb = s.sb := rfl
@[simp] theorem State.drawn_pending : (s.drawn).pending = s.pending := rfl
@[simp] theorem State.drawn_rd (g : Fld) : (s.drawn).rd g = s.rd g := rfl
@[simp] theorem State.drawn_on (g : Fld) : (s.drawn).on g = s.on g := rfl
@[simp] theorem State.drawn_page (i : Nat) : (s.drawn).page i = s.page i := rfl
@[simp] theorem State.drawn_pc (i : Nat) : (s.drawn).pc i = s.pc i := rfl
@[simp] theorem State.drawn_layer (i : Nat) : (s.drawn).layer i = s.layer i := rfl
@[simp] theorem State.drawn_eng (i : Nat) : (s.drawn).eng i = s.eng i := rfl
@[simp] theorem State.drawn_quire (i : Nat) : (s.drawn).quire i = s.quire i := rfl
@[simp] theorem State.drawn_key (i : Nat) : (s.drawn).key i = s.key i := rfl
@[simp] theorem State.drawn_rights (i : Nat) : (s.drawn).rights i = s.rights i := rfl
@[simp] theorem State.drawn_range (i : Nat) : (s.drawn).range i = s.range i := rfl
@[simp] theorem State.drawn_pair (i : Nat) : (s.drawn).pair i = s.pair i := rfl
@[simp] theorem State.drawn_port (i : Nat) : (s.drawn).port i = s.port i := rfl
@[simp] theorem State.drawn_ld (i : Nat) : (s.drawn).ld i = s.ld i := rfl
@[simp] theorem State.drawn_lane (i : Nat) : (s.drawn).lane i = s.lane i := rfl
@[simp] theorem State.drawn_xing (i : Nat) : (s.drawn).xing i = s.xing i := rfl
@[simp] theorem State.drawn_domain (i : Nat) : (s.drawn).domain i = s.domain i := rfl
@[simp] theorem State.drawn_cal (i : Nat) : (s.drawn).cal i = s.cal i := rfl
@[simp] theorem State.drawn_sensor (i : Nat) : (s.drawn).sensor i = s.sensor i := rfl
@[simp] theorem State.drawn_heat (i : Nat) : (s.drawn).heat i = s.heat i := rfl
@[simp] theorem State.drawn_tip (i : Nat) : (s.drawn).tip i = s.tip i := rfl
@[simp] theorem State.drawn_line (i : Nat) : (s.drawn).line i = s.line i := rfl
@[simp] theorem State.setPage_flds (n : Nat) (v : PageState) : (s.setPage n v).flds = s.flds := rfl
@[simp] theorem State.setPage_now (n : Nat) (v : PageState) : (s.setPage n v).now = s.now := rfl
@[simp] theorem State.setPage_free (n : Nat) (v : PageState) : (s.setPage n v).free = s.free := rfl
@[simp] theorem State.setPage_out (n : Nat) (v : PageState) : (s.setPage n v).out = s.out := rfl
@[simp] theorem State.setPage_transit (n : Nat) (v : PageState) : (s.setPage n v).transit = s.transit := rfl
@[simp] theorem State.setPage_nextReq (n : Nat) (v : PageState) : (s.setPage n v).nextReq = s.nextReq := rfl
@[simp] theorem State.setPage_stalled (n : Nat) (v : PageState) : (s.setPage n v).stalled = s.stalled := rfl
@[simp] theorem State.setPage_pcs (n : Nat) (v : PageState) : (s.setPage n v).pcs = s.pcs := rfl
@[simp] theorem State.setPage_layers (n : Nat) (v : PageState) : (s.setPage n v).layers = s.layers := rfl
@[simp] theorem State.setPage_lines (n : Nat) (v : PageState) : (s.setPage n v).lines = s.lines := rfl
@[simp] theorem State.setPage_kerf (n : Nat) (v : PageState) : (s.setPage n v).kerf = s.kerf := rfl
@[simp] theorem State.setPage_repair (n : Nat) (v : PageState) : (s.setPage n v).repair = s.repair := rfl
@[simp] theorem State.setPage_recoveries (n : Nat) (v : PageState) : (s.setPage n v).recoveries = s.recoveries := rfl
@[simp] theorem State.setPage_folio (n : Nat) (v : PageState) : (s.setPage n v).folio = s.folio := rfl
@[simp] theorem State.setPage_bank (n : Nat) (v : PageState) : (s.setPage n v).bank = s.bank := rfl
@[simp] theorem State.setPage_crypto (n : Nat) (v : PageState) : (s.setPage n v).crypto = s.crypto := rfl
@[simp] theorem State.setPage_gauge (n : Nat) (v : PageState) : (s.setPage n v).gauge = s.gauge := rfl
@[simp] theorem State.setPage_chisel (n : Nat) (v : PageState) : (s.setPage n v).chisel = s.chisel := rfl
@[simp] theorem State.setPage_dove (n : Nat) (v : PageState) : (s.setPage n v).dove = s.dove := rfl
@[simp] theorem State.setPage_ports (n : Nat) (v : PageState) : (s.setPage n v).ports = s.ports := rfl
@[simp] theorem State.setPage_lds (n : Nat) (v : PageState) : (s.setPage n v).lds = s.lds := rfl
@[simp] theorem State.setPage_mbox (n : Nat) (v : PageState) : (s.setPage n v).mbox = s.mbox := rfl
@[simp] theorem State.setPage_lanes (n : Nat) (v : PageState) : (s.setPage n v).lanes = s.lanes := rfl
@[simp] theorem State.setPage_spline (n : Nat) (v : PageState) : (s.setPage n v).spline = s.spline := rfl
@[simp] theorem State.setPage_clk (n : Nat) (v : PageState) : (s.setPage n v).clk = s.clk := rfl
@[simp] theorem State.setPage_domains (n : Nat) (v : PageState) : (s.setPage n v).domains = s.domains := rfl
@[simp] theorem State.setPage_sys (n : Nat) (v : PageState) : (s.setPage n v).sys = s.sys := rfl
@[simp] theorem State.setPage_cals (n : Nat) (v : PageState) : (s.setPage n v).cals = s.cals := rfl
@[simp] theorem State.setPage_sensors (n : Nat) (v : PageState) : (s.setPage n v).sensors = s.sensors := rfl
@[simp] theorem State.setPage_therm (n : Nat) (v : PageState) : (s.setPage n v).therm = s.therm := rfl
@[simp] theorem State.setPage_pin (n : Nat) (v : PageState) : (s.setPage n v).pin = s.pin := rfl
@[simp] theorem State.setPage_bist (n : Nat) (v : PageState) : (s.setPage n v).bist = s.bist := rfl
@[simp] theorem State.setPage_otp (n : Nat) (v : PageState) : (s.setPage n v).otp = s.otp := rfl
@[simp] theorem State.setPage_sb (n : Nat) (v : PageState) : (s.setPage n v).sb = s.sb := rfl
@[simp] theorem State.setPage_pending (n : Nat) (v : PageState) : (s.setPage n v).pending = s.pending := rfl
@[simp] theorem State.setPage_rd (n : Nat) (v : PageState) (g : Fld) : (s.setPage n v).rd g = s.rd g := rfl
@[simp] theorem State.setPage_on (n : Nat) (v : PageState) (g : Fld) : (s.setPage n v).on g = s.on g := rfl
@[simp] theorem State.setPage_pc (n : Nat) (v : PageState) (i : Nat) : (s.setPage n v).pc i = s.pc i := rfl
@[simp] theorem State.setPage_layer (n : Nat) (v : PageState) (i : Nat) : (s.setPage n v).layer i = s.layer i := rfl
@[simp] theorem State.setPage_eng (n : Nat) (v : PageState) (i : Nat) : (s.setPage n v).eng i = s.eng i := rfl
@[simp] theorem State.setPage_quire (n : Nat) (v : PageState) (i : Nat) : (s.setPage n v).quire i = s.quire i := rfl
@[simp] theorem State.setPage_key (n : Nat) (v : PageState) (i : Nat) : (s.setPage n v).key i = s.key i := rfl
@[simp] theorem State.setPage_rights (n : Nat) (v : PageState) (i : Nat) : (s.setPage n v).rights i = s.rights i := rfl
@[simp] theorem State.setPage_range (n : Nat) (v : PageState) (i : Nat) : (s.setPage n v).range i = s.range i := rfl
@[simp] theorem State.setPage_pair (n : Nat) (v : PageState) (i : Nat) : (s.setPage n v).pair i = s.pair i := rfl
@[simp] theorem State.setPage_port (n : Nat) (v : PageState) (i : Nat) : (s.setPage n v).port i = s.port i := rfl
@[simp] theorem State.setPage_ld (n : Nat) (v : PageState) (i : Nat) : (s.setPage n v).ld i = s.ld i := rfl
@[simp] theorem State.setPage_lane (n : Nat) (v : PageState) (i : Nat) : (s.setPage n v).lane i = s.lane i := rfl
@[simp] theorem State.setPage_xing (n : Nat) (v : PageState) (i : Nat) : (s.setPage n v).xing i = s.xing i := rfl
@[simp] theorem State.setPage_domain (n : Nat) (v : PageState) (i : Nat) : (s.setPage n v).domain i = s.domain i := rfl
@[simp] theorem State.setPage_cal (n : Nat) (v : PageState) (i : Nat) : (s.setPage n v).cal i = s.cal i := rfl
@[simp] theorem State.setPage_sensor (n : Nat) (v : PageState) (i : Nat) : (s.setPage n v).sensor i = s.sensor i := rfl
@[simp] theorem State.setPage_heat (n : Nat) (v : PageState) (i : Nat) : (s.setPage n v).heat i = s.heat i := rfl
@[simp] theorem State.setPage_tip (n : Nat) (v : PageState) (i : Nat) : (s.setPage n v).tip i = s.tip i := rfl
@[simp] theorem State.setPage_line (n : Nat) (v : PageState) (i : Nat) : (s.setPage n v).line i = s.line i := rfl
@[simp] theorem State.setPc_flds (n : Nat) (v : Pc) : (s.setPc n v).flds = s.flds := rfl
@[simp] theorem State.setPc_now (n : Nat) (v : Pc) : (s.setPc n v).now = s.now := rfl
@[simp] theorem State.setPc_free (n : Nat) (v : Pc) : (s.setPc n v).free = s.free := rfl
@[simp] theorem State.setPc_out (n : Nat) (v : Pc) : (s.setPc n v).out = s.out := rfl
@[simp] theorem State.setPc_pages (n : Nat) (v : Pc) : (s.setPc n v).pages = s.pages := rfl
@[simp] theorem State.setPc_transit (n : Nat) (v : Pc) : (s.setPc n v).transit = s.transit := rfl
@[simp] theorem State.setPc_nextReq (n : Nat) (v : Pc) : (s.setPc n v).nextReq = s.nextReq := rfl
@[simp] theorem State.setPc_stalled (n : Nat) (v : Pc) : (s.setPc n v).stalled = s.stalled := rfl
@[simp] theorem State.setPc_layers (n : Nat) (v : Pc) : (s.setPc n v).layers = s.layers := rfl
@[simp] theorem State.setPc_lines (n : Nat) (v : Pc) : (s.setPc n v).lines = s.lines := rfl
@[simp] theorem State.setPc_kerf (n : Nat) (v : Pc) : (s.setPc n v).kerf = s.kerf := rfl
@[simp] theorem State.setPc_repair (n : Nat) (v : Pc) : (s.setPc n v).repair = s.repair := rfl
@[simp] theorem State.setPc_recoveries (n : Nat) (v : Pc) : (s.setPc n v).recoveries = s.recoveries := rfl
@[simp] theorem State.setPc_folio (n : Nat) (v : Pc) : (s.setPc n v).folio = s.folio := rfl
@[simp] theorem State.setPc_bank (n : Nat) (v : Pc) : (s.setPc n v).bank = s.bank := rfl
@[simp] theorem State.setPc_crypto (n : Nat) (v : Pc) : (s.setPc n v).crypto = s.crypto := rfl
@[simp] theorem State.setPc_gauge (n : Nat) (v : Pc) : (s.setPc n v).gauge = s.gauge := rfl
@[simp] theorem State.setPc_chisel (n : Nat) (v : Pc) : (s.setPc n v).chisel = s.chisel := rfl
@[simp] theorem State.setPc_dove (n : Nat) (v : Pc) : (s.setPc n v).dove = s.dove := rfl
@[simp] theorem State.setPc_ports (n : Nat) (v : Pc) : (s.setPc n v).ports = s.ports := rfl
@[simp] theorem State.setPc_lds (n : Nat) (v : Pc) : (s.setPc n v).lds = s.lds := rfl
@[simp] theorem State.setPc_mbox (n : Nat) (v : Pc) : (s.setPc n v).mbox = s.mbox := rfl
@[simp] theorem State.setPc_lanes (n : Nat) (v : Pc) : (s.setPc n v).lanes = s.lanes := rfl
@[simp] theorem State.setPc_spline (n : Nat) (v : Pc) : (s.setPc n v).spline = s.spline := rfl
@[simp] theorem State.setPc_clk (n : Nat) (v : Pc) : (s.setPc n v).clk = s.clk := rfl
@[simp] theorem State.setPc_domains (n : Nat) (v : Pc) : (s.setPc n v).domains = s.domains := rfl
@[simp] theorem State.setPc_sys (n : Nat) (v : Pc) : (s.setPc n v).sys = s.sys := rfl
@[simp] theorem State.setPc_cals (n : Nat) (v : Pc) : (s.setPc n v).cals = s.cals := rfl
@[simp] theorem State.setPc_sensors (n : Nat) (v : Pc) : (s.setPc n v).sensors = s.sensors := rfl
@[simp] theorem State.setPc_therm (n : Nat) (v : Pc) : (s.setPc n v).therm = s.therm := rfl
@[simp] theorem State.setPc_pin (n : Nat) (v : Pc) : (s.setPc n v).pin = s.pin := rfl
@[simp] theorem State.setPc_bist (n : Nat) (v : Pc) : (s.setPc n v).bist = s.bist := rfl
@[simp] theorem State.setPc_otp (n : Nat) (v : Pc) : (s.setPc n v).otp = s.otp := rfl
@[simp] theorem State.setPc_sb (n : Nat) (v : Pc) : (s.setPc n v).sb = s.sb := rfl
@[simp] theorem State.setPc_pending (n : Nat) (v : Pc) : (s.setPc n v).pending = s.pending := rfl
@[simp] theorem State.setPc_rd (n : Nat) (v : Pc) (g : Fld) : (s.setPc n v).rd g = s.rd g := rfl
@[simp] theorem State.setPc_on (n : Nat) (v : Pc) (g : Fld) : (s.setPc n v).on g = s.on g := rfl
@[simp] theorem State.setPc_page (n : Nat) (v : Pc) (i : Nat) : (s.setPc n v).page i = s.page i := rfl
@[simp] theorem State.setPc_layer (n : Nat) (v : Pc) (i : Nat) : (s.setPc n v).layer i = s.layer i := rfl
@[simp] theorem State.setPc_eng (n : Nat) (v : Pc) (i : Nat) : (s.setPc n v).eng i = s.eng i := rfl
@[simp] theorem State.setPc_quire (n : Nat) (v : Pc) (i : Nat) : (s.setPc n v).quire i = s.quire i := rfl
@[simp] theorem State.setPc_key (n : Nat) (v : Pc) (i : Nat) : (s.setPc n v).key i = s.key i := rfl
@[simp] theorem State.setPc_rights (n : Nat) (v : Pc) (i : Nat) : (s.setPc n v).rights i = s.rights i := rfl
@[simp] theorem State.setPc_range (n : Nat) (v : Pc) (i : Nat) : (s.setPc n v).range i = s.range i := rfl
@[simp] theorem State.setPc_pair (n : Nat) (v : Pc) (i : Nat) : (s.setPc n v).pair i = s.pair i := rfl
@[simp] theorem State.setPc_port (n : Nat) (v : Pc) (i : Nat) : (s.setPc n v).port i = s.port i := rfl
@[simp] theorem State.setPc_ld (n : Nat) (v : Pc) (i : Nat) : (s.setPc n v).ld i = s.ld i := rfl
@[simp] theorem State.setPc_lane (n : Nat) (v : Pc) (i : Nat) : (s.setPc n v).lane i = s.lane i := rfl
@[simp] theorem State.setPc_xing (n : Nat) (v : Pc) (i : Nat) : (s.setPc n v).xing i = s.xing i := rfl
@[simp] theorem State.setPc_domain (n : Nat) (v : Pc) (i : Nat) : (s.setPc n v).domain i = s.domain i := rfl
@[simp] theorem State.setPc_cal (n : Nat) (v : Pc) (i : Nat) : (s.setPc n v).cal i = s.cal i := rfl
@[simp] theorem State.setPc_sensor (n : Nat) (v : Pc) (i : Nat) : (s.setPc n v).sensor i = s.sensor i := rfl
@[simp] theorem State.setPc_heat (n : Nat) (v : Pc) (i : Nat) : (s.setPc n v).heat i = s.heat i := rfl
@[simp] theorem State.setPc_tip (n : Nat) (v : Pc) (i : Nat) : (s.setPc n v).tip i = s.tip i := rfl
@[simp] theorem State.setPc_line (n : Nat) (v : Pc) (i : Nat) : (s.setPc n v).line i = s.line i := rfl
@[simp] theorem State.setLayer_flds (n : Nat) (v : Layer) : (s.setLayer n v).flds = s.flds := rfl
@[simp] theorem State.setLayer_now (n : Nat) (v : Layer) : (s.setLayer n v).now = s.now := rfl
@[simp] theorem State.setLayer_free (n : Nat) (v : Layer) : (s.setLayer n v).free = s.free := rfl
@[simp] theorem State.setLayer_out (n : Nat) (v : Layer) : (s.setLayer n v).out = s.out := rfl
@[simp] theorem State.setLayer_pages (n : Nat) (v : Layer) : (s.setLayer n v).pages = s.pages := rfl
@[simp] theorem State.setLayer_transit (n : Nat) (v : Layer) : (s.setLayer n v).transit = s.transit := rfl
@[simp] theorem State.setLayer_nextReq (n : Nat) (v : Layer) : (s.setLayer n v).nextReq = s.nextReq := rfl
@[simp] theorem State.setLayer_stalled (n : Nat) (v : Layer) : (s.setLayer n v).stalled = s.stalled := rfl
@[simp] theorem State.setLayer_pcs (n : Nat) (v : Layer) : (s.setLayer n v).pcs = s.pcs := rfl
@[simp] theorem State.setLayer_lines (n : Nat) (v : Layer) : (s.setLayer n v).lines = s.lines := rfl
@[simp] theorem State.setLayer_kerf (n : Nat) (v : Layer) : (s.setLayer n v).kerf = s.kerf := rfl
@[simp] theorem State.setLayer_repair (n : Nat) (v : Layer) : (s.setLayer n v).repair = s.repair := rfl
@[simp] theorem State.setLayer_recoveries (n : Nat) (v : Layer) : (s.setLayer n v).recoveries = s.recoveries := rfl
@[simp] theorem State.setLayer_folio (n : Nat) (v : Layer) : (s.setLayer n v).folio = s.folio := rfl
@[simp] theorem State.setLayer_bank (n : Nat) (v : Layer) : (s.setLayer n v).bank = s.bank := rfl
@[simp] theorem State.setLayer_crypto (n : Nat) (v : Layer) : (s.setLayer n v).crypto = s.crypto := rfl
@[simp] theorem State.setLayer_gauge (n : Nat) (v : Layer) : (s.setLayer n v).gauge = s.gauge := rfl
@[simp] theorem State.setLayer_chisel (n : Nat) (v : Layer) : (s.setLayer n v).chisel = s.chisel := rfl
@[simp] theorem State.setLayer_dove (n : Nat) (v : Layer) : (s.setLayer n v).dove = s.dove := rfl
@[simp] theorem State.setLayer_ports (n : Nat) (v : Layer) : (s.setLayer n v).ports = s.ports := rfl
@[simp] theorem State.setLayer_lds (n : Nat) (v : Layer) : (s.setLayer n v).lds = s.lds := rfl
@[simp] theorem State.setLayer_mbox (n : Nat) (v : Layer) : (s.setLayer n v).mbox = s.mbox := rfl
@[simp] theorem State.setLayer_lanes (n : Nat) (v : Layer) : (s.setLayer n v).lanes = s.lanes := rfl
@[simp] theorem State.setLayer_spline (n : Nat) (v : Layer) : (s.setLayer n v).spline = s.spline := rfl
@[simp] theorem State.setLayer_clk (n : Nat) (v : Layer) : (s.setLayer n v).clk = s.clk := rfl
@[simp] theorem State.setLayer_domains (n : Nat) (v : Layer) : (s.setLayer n v).domains = s.domains := rfl
@[simp] theorem State.setLayer_sys (n : Nat) (v : Layer) : (s.setLayer n v).sys = s.sys := rfl
@[simp] theorem State.setLayer_cals (n : Nat) (v : Layer) : (s.setLayer n v).cals = s.cals := rfl
@[simp] theorem State.setLayer_sensors (n : Nat) (v : Layer) : (s.setLayer n v).sensors = s.sensors := rfl
@[simp] theorem State.setLayer_therm (n : Nat) (v : Layer) : (s.setLayer n v).therm = s.therm := rfl
@[simp] theorem State.setLayer_pin (n : Nat) (v : Layer) : (s.setLayer n v).pin = s.pin := rfl
@[simp] theorem State.setLayer_bist (n : Nat) (v : Layer) : (s.setLayer n v).bist = s.bist := rfl
@[simp] theorem State.setLayer_otp (n : Nat) (v : Layer) : (s.setLayer n v).otp = s.otp := rfl
@[simp] theorem State.setLayer_sb (n : Nat) (v : Layer) : (s.setLayer n v).sb = s.sb := rfl
@[simp] theorem State.setLayer_pending (n : Nat) (v : Layer) : (s.setLayer n v).pending = s.pending := rfl
@[simp] theorem State.setLayer_rd (n : Nat) (v : Layer) (g : Fld) : (s.setLayer n v).rd g = s.rd g := rfl
@[simp] theorem State.setLayer_on (n : Nat) (v : Layer) (g : Fld) : (s.setLayer n v).on g = s.on g := rfl
@[simp] theorem State.setLayer_page (n : Nat) (v : Layer) (i : Nat) : (s.setLayer n v).page i = s.page i := rfl
@[simp] theorem State.setLayer_pc (n : Nat) (v : Layer) (i : Nat) : (s.setLayer n v).pc i = s.pc i := rfl
@[simp] theorem State.setLayer_eng (n : Nat) (v : Layer) (i : Nat) : (s.setLayer n v).eng i = s.eng i := rfl
@[simp] theorem State.setLayer_quire (n : Nat) (v : Layer) (i : Nat) : (s.setLayer n v).quire i = s.quire i := rfl
@[simp] theorem State.setLayer_key (n : Nat) (v : Layer) (i : Nat) : (s.setLayer n v).key i = s.key i := rfl
@[simp] theorem State.setLayer_rights (n : Nat) (v : Layer) (i : Nat) : (s.setLayer n v).rights i = s.rights i := rfl
@[simp] theorem State.setLayer_range (n : Nat) (v : Layer) (i : Nat) : (s.setLayer n v).range i = s.range i := rfl
@[simp] theorem State.setLayer_pair (n : Nat) (v : Layer) (i : Nat) : (s.setLayer n v).pair i = s.pair i := rfl
@[simp] theorem State.setLayer_port (n : Nat) (v : Layer) (i : Nat) : (s.setLayer n v).port i = s.port i := rfl
@[simp] theorem State.setLayer_ld (n : Nat) (v : Layer) (i : Nat) : (s.setLayer n v).ld i = s.ld i := rfl
@[simp] theorem State.setLayer_lane (n : Nat) (v : Layer) (i : Nat) : (s.setLayer n v).lane i = s.lane i := rfl
@[simp] theorem State.setLayer_xing (n : Nat) (v : Layer) (i : Nat) : (s.setLayer n v).xing i = s.xing i := rfl
@[simp] theorem State.setLayer_domain (n : Nat) (v : Layer) (i : Nat) : (s.setLayer n v).domain i = s.domain i := rfl
@[simp] theorem State.setLayer_cal (n : Nat) (v : Layer) (i : Nat) : (s.setLayer n v).cal i = s.cal i := rfl
@[simp] theorem State.setLayer_sensor (n : Nat) (v : Layer) (i : Nat) : (s.setLayer n v).sensor i = s.sensor i := rfl
@[simp] theorem State.setLayer_heat (n : Nat) (v : Layer) (i : Nat) : (s.setLayer n v).heat i = s.heat i := rfl
@[simp] theorem State.setLayer_tip (n : Nat) (v : Layer) (i : Nat) : (s.setLayer n v).tip i = s.tip i := rfl
@[simp] theorem State.setLayer_line (n : Nat) (v : Layer) (i : Nat) : (s.setLayer n v).line i = s.line i := rfl
@[simp] theorem State.setEng_flds (n : Nat) (v : KerfEng) : (s.setEng n v).flds = s.flds := rfl
@[simp] theorem State.setEng_now (n : Nat) (v : KerfEng) : (s.setEng n v).now = s.now := rfl
@[simp] theorem State.setEng_free (n : Nat) (v : KerfEng) : (s.setEng n v).free = s.free := rfl
@[simp] theorem State.setEng_out (n : Nat) (v : KerfEng) : (s.setEng n v).out = s.out := rfl
@[simp] theorem State.setEng_pages (n : Nat) (v : KerfEng) : (s.setEng n v).pages = s.pages := rfl
@[simp] theorem State.setEng_transit (n : Nat) (v : KerfEng) : (s.setEng n v).transit = s.transit := rfl
@[simp] theorem State.setEng_nextReq (n : Nat) (v : KerfEng) : (s.setEng n v).nextReq = s.nextReq := rfl
@[simp] theorem State.setEng_stalled (n : Nat) (v : KerfEng) : (s.setEng n v).stalled = s.stalled := rfl
@[simp] theorem State.setEng_pcs (n : Nat) (v : KerfEng) : (s.setEng n v).pcs = s.pcs := rfl
@[simp] theorem State.setEng_layers (n : Nat) (v : KerfEng) : (s.setEng n v).layers = s.layers := rfl
@[simp] theorem State.setEng_lines (n : Nat) (v : KerfEng) : (s.setEng n v).lines = s.lines := rfl
@[simp] theorem State.setEng_repair (n : Nat) (v : KerfEng) : (s.setEng n v).repair = s.repair := rfl
@[simp] theorem State.setEng_recoveries (n : Nat) (v : KerfEng) : (s.setEng n v).recoveries = s.recoveries := rfl
@[simp] theorem State.setEng_folio (n : Nat) (v : KerfEng) : (s.setEng n v).folio = s.folio := rfl
@[simp] theorem State.setEng_bank (n : Nat) (v : KerfEng) : (s.setEng n v).bank = s.bank := rfl
@[simp] theorem State.setEng_crypto (n : Nat) (v : KerfEng) : (s.setEng n v).crypto = s.crypto := rfl
@[simp] theorem State.setEng_gauge (n : Nat) (v : KerfEng) : (s.setEng n v).gauge = s.gauge := rfl
@[simp] theorem State.setEng_chisel (n : Nat) (v : KerfEng) : (s.setEng n v).chisel = s.chisel := rfl
@[simp] theorem State.setEng_dove (n : Nat) (v : KerfEng) : (s.setEng n v).dove = s.dove := rfl
@[simp] theorem State.setEng_ports (n : Nat) (v : KerfEng) : (s.setEng n v).ports = s.ports := rfl
@[simp] theorem State.setEng_lds (n : Nat) (v : KerfEng) : (s.setEng n v).lds = s.lds := rfl
@[simp] theorem State.setEng_mbox (n : Nat) (v : KerfEng) : (s.setEng n v).mbox = s.mbox := rfl
@[simp] theorem State.setEng_lanes (n : Nat) (v : KerfEng) : (s.setEng n v).lanes = s.lanes := rfl
@[simp] theorem State.setEng_spline (n : Nat) (v : KerfEng) : (s.setEng n v).spline = s.spline := rfl
@[simp] theorem State.setEng_clk (n : Nat) (v : KerfEng) : (s.setEng n v).clk = s.clk := rfl
@[simp] theorem State.setEng_domains (n : Nat) (v : KerfEng) : (s.setEng n v).domains = s.domains := rfl
@[simp] theorem State.setEng_sys (n : Nat) (v : KerfEng) : (s.setEng n v).sys = s.sys := rfl
@[simp] theorem State.setEng_cals (n : Nat) (v : KerfEng) : (s.setEng n v).cals = s.cals := rfl
@[simp] theorem State.setEng_sensors (n : Nat) (v : KerfEng) : (s.setEng n v).sensors = s.sensors := rfl
@[simp] theorem State.setEng_therm (n : Nat) (v : KerfEng) : (s.setEng n v).therm = s.therm := rfl
@[simp] theorem State.setEng_pin (n : Nat) (v : KerfEng) : (s.setEng n v).pin = s.pin := rfl
@[simp] theorem State.setEng_bist (n : Nat) (v : KerfEng) : (s.setEng n v).bist = s.bist := rfl
@[simp] theorem State.setEng_otp (n : Nat) (v : KerfEng) : (s.setEng n v).otp = s.otp := rfl
@[simp] theorem State.setEng_sb (n : Nat) (v : KerfEng) : (s.setEng n v).sb = s.sb := rfl
@[simp] theorem State.setEng_pending (n : Nat) (v : KerfEng) : (s.setEng n v).pending = s.pending := rfl
@[simp] theorem State.setEng_rd (n : Nat) (v : KerfEng) (g : Fld) : (s.setEng n v).rd g = s.rd g := rfl
@[simp] theorem State.setEng_on (n : Nat) (v : KerfEng) (g : Fld) : (s.setEng n v).on g = s.on g := rfl
@[simp] theorem State.setEng_page (n : Nat) (v : KerfEng) (i : Nat) : (s.setEng n v).page i = s.page i := rfl
@[simp] theorem State.setEng_pc (n : Nat) (v : KerfEng) (i : Nat) : (s.setEng n v).pc i = s.pc i := rfl
@[simp] theorem State.setEng_layer (n : Nat) (v : KerfEng) (i : Nat) : (s.setEng n v).layer i = s.layer i := rfl
@[simp] theorem State.setEng_quire (n : Nat) (v : KerfEng) (i : Nat) : (s.setEng n v).quire i = s.quire i := rfl
@[simp] theorem State.setEng_key (n : Nat) (v : KerfEng) (i : Nat) : (s.setEng n v).key i = s.key i := rfl
@[simp] theorem State.setEng_rights (n : Nat) (v : KerfEng) (i : Nat) : (s.setEng n v).rights i = s.rights i := rfl
@[simp] theorem State.setEng_range (n : Nat) (v : KerfEng) (i : Nat) : (s.setEng n v).range i = s.range i := rfl
@[simp] theorem State.setEng_pair (n : Nat) (v : KerfEng) (i : Nat) : (s.setEng n v).pair i = s.pair i := rfl
@[simp] theorem State.setEng_port (n : Nat) (v : KerfEng) (i : Nat) : (s.setEng n v).port i = s.port i := rfl
@[simp] theorem State.setEng_ld (n : Nat) (v : KerfEng) (i : Nat) : (s.setEng n v).ld i = s.ld i := rfl
@[simp] theorem State.setEng_lane (n : Nat) (v : KerfEng) (i : Nat) : (s.setEng n v).lane i = s.lane i := rfl
@[simp] theorem State.setEng_xing (n : Nat) (v : KerfEng) (i : Nat) : (s.setEng n v).xing i = s.xing i := rfl
@[simp] theorem State.setEng_domain (n : Nat) (v : KerfEng) (i : Nat) : (s.setEng n v).domain i = s.domain i := rfl
@[simp] theorem State.setEng_cal (n : Nat) (v : KerfEng) (i : Nat) : (s.setEng n v).cal i = s.cal i := rfl
@[simp] theorem State.setEng_sensor (n : Nat) (v : KerfEng) (i : Nat) : (s.setEng n v).sensor i = s.sensor i := rfl
@[simp] theorem State.setEng_heat (n : Nat) (v : KerfEng) (i : Nat) : (s.setEng n v).heat i = s.heat i := rfl
@[simp] theorem State.setEng_tip (n : Nat) (v : KerfEng) (i : Nat) : (s.setEng n v).tip i = s.tip i := rfl
@[simp] theorem State.setEng_line (n : Nat) (v : KerfEng) (i : Nat) : (s.setEng n v).line i = s.line i := rfl
@[simp] theorem State.setQuire_flds (n : Nat) (v : QEntry) : (s.setQuire n v).flds = s.flds := rfl
@[simp] theorem State.setQuire_now (n : Nat) (v : QEntry) : (s.setQuire n v).now = s.now := rfl
@[simp] theorem State.setQuire_free (n : Nat) (v : QEntry) : (s.setQuire n v).free = s.free := rfl
@[simp] theorem State.setQuire_out (n : Nat) (v : QEntry) : (s.setQuire n v).out = s.out := rfl
@[simp] theorem State.setQuire_pages (n : Nat) (v : QEntry) : (s.setQuire n v).pages = s.pages := rfl
@[simp] theorem State.setQuire_transit (n : Nat) (v : QEntry) : (s.setQuire n v).transit = s.transit := rfl
@[simp] theorem State.setQuire_nextReq (n : Nat) (v : QEntry) : (s.setQuire n v).nextReq = s.nextReq := rfl
@[simp] theorem State.setQuire_stalled (n : Nat) (v : QEntry) : (s.setQuire n v).stalled = s.stalled := rfl
@[simp] theorem State.setQuire_pcs (n : Nat) (v : QEntry) : (s.setQuire n v).pcs = s.pcs := rfl
@[simp] theorem State.setQuire_layers (n : Nat) (v : QEntry) : (s.setQuire n v).layers = s.layers := rfl
@[simp] theorem State.setQuire_lines (n : Nat) (v : QEntry) : (s.setQuire n v).lines = s.lines := rfl
@[simp] theorem State.setQuire_kerf (n : Nat) (v : QEntry) : (s.setQuire n v).kerf = s.kerf := rfl
@[simp] theorem State.setQuire_repair (n : Nat) (v : QEntry) : (s.setQuire n v).repair = s.repair := rfl
@[simp] theorem State.setQuire_recoveries (n : Nat) (v : QEntry) : (s.setQuire n v).recoveries = s.recoveries := rfl
@[simp] theorem State.setQuire_bank (n : Nat) (v : QEntry) : (s.setQuire n v).bank = s.bank := rfl
@[simp] theorem State.setQuire_crypto (n : Nat) (v : QEntry) : (s.setQuire n v).crypto = s.crypto := rfl
@[simp] theorem State.setQuire_gauge (n : Nat) (v : QEntry) : (s.setQuire n v).gauge = s.gauge := rfl
@[simp] theorem State.setQuire_chisel (n : Nat) (v : QEntry) : (s.setQuire n v).chisel = s.chisel := rfl
@[simp] theorem State.setQuire_dove (n : Nat) (v : QEntry) : (s.setQuire n v).dove = s.dove := rfl
@[simp] theorem State.setQuire_ports (n : Nat) (v : QEntry) : (s.setQuire n v).ports = s.ports := rfl
@[simp] theorem State.setQuire_lds (n : Nat) (v : QEntry) : (s.setQuire n v).lds = s.lds := rfl
@[simp] theorem State.setQuire_mbox (n : Nat) (v : QEntry) : (s.setQuire n v).mbox = s.mbox := rfl
@[simp] theorem State.setQuire_lanes (n : Nat) (v : QEntry) : (s.setQuire n v).lanes = s.lanes := rfl
@[simp] theorem State.setQuire_spline (n : Nat) (v : QEntry) : (s.setQuire n v).spline = s.spline := rfl
@[simp] theorem State.setQuire_clk (n : Nat) (v : QEntry) : (s.setQuire n v).clk = s.clk := rfl
@[simp] theorem State.setQuire_domains (n : Nat) (v : QEntry) : (s.setQuire n v).domains = s.domains := rfl
@[simp] theorem State.setQuire_sys (n : Nat) (v : QEntry) : (s.setQuire n v).sys = s.sys := rfl
@[simp] theorem State.setQuire_cals (n : Nat) (v : QEntry) : (s.setQuire n v).cals = s.cals := rfl
@[simp] theorem State.setQuire_sensors (n : Nat) (v : QEntry) : (s.setQuire n v).sensors = s.sensors := rfl
@[simp] theorem State.setQuire_therm (n : Nat) (v : QEntry) : (s.setQuire n v).therm = s.therm := rfl
@[simp] theorem State.setQuire_pin (n : Nat) (v : QEntry) : (s.setQuire n v).pin = s.pin := rfl
@[simp] theorem State.setQuire_bist (n : Nat) (v : QEntry) : (s.setQuire n v).bist = s.bist := rfl
@[simp] theorem State.setQuire_otp (n : Nat) (v : QEntry) : (s.setQuire n v).otp = s.otp := rfl
@[simp] theorem State.setQuire_sb (n : Nat) (v : QEntry) : (s.setQuire n v).sb = s.sb := rfl
@[simp] theorem State.setQuire_pending (n : Nat) (v : QEntry) : (s.setQuire n v).pending = s.pending := rfl
@[simp] theorem State.setQuire_rd (n : Nat) (v : QEntry) (g : Fld) : (s.setQuire n v).rd g = s.rd g := rfl
@[simp] theorem State.setQuire_on (n : Nat) (v : QEntry) (g : Fld) : (s.setQuire n v).on g = s.on g := rfl
@[simp] theorem State.setQuire_page (n : Nat) (v : QEntry) (i : Nat) : (s.setQuire n v).page i = s.page i := rfl
@[simp] theorem State.setQuire_pc (n : Nat) (v : QEntry) (i : Nat) : (s.setQuire n v).pc i = s.pc i := rfl
@[simp] theorem State.setQuire_layer (n : Nat) (v : QEntry) (i : Nat) : (s.setQuire n v).layer i = s.layer i := rfl
@[simp] theorem State.setQuire_eng (n : Nat) (v : QEntry) (i : Nat) : (s.setQuire n v).eng i = s.eng i := rfl
@[simp] theorem State.setQuire_key (n : Nat) (v : QEntry) (i : Nat) : (s.setQuire n v).key i = s.key i := rfl
@[simp] theorem State.setQuire_rights (n : Nat) (v : QEntry) (i : Nat) : (s.setQuire n v).rights i = s.rights i := rfl
@[simp] theorem State.setQuire_range (n : Nat) (v : QEntry) (i : Nat) : (s.setQuire n v).range i = s.range i := rfl
@[simp] theorem State.setQuire_pair (n : Nat) (v : QEntry) (i : Nat) : (s.setQuire n v).pair i = s.pair i := rfl
@[simp] theorem State.setQuire_port (n : Nat) (v : QEntry) (i : Nat) : (s.setQuire n v).port i = s.port i := rfl
@[simp] theorem State.setQuire_ld (n : Nat) (v : QEntry) (i : Nat) : (s.setQuire n v).ld i = s.ld i := rfl
@[simp] theorem State.setQuire_lane (n : Nat) (v : QEntry) (i : Nat) : (s.setQuire n v).lane i = s.lane i := rfl
@[simp] theorem State.setQuire_xing (n : Nat) (v : QEntry) (i : Nat) : (s.setQuire n v).xing i = s.xing i := rfl
@[simp] theorem State.setQuire_domain (n : Nat) (v : QEntry) (i : Nat) : (s.setQuire n v).domain i = s.domain i := rfl
@[simp] theorem State.setQuire_cal (n : Nat) (v : QEntry) (i : Nat) : (s.setQuire n v).cal i = s.cal i := rfl
@[simp] theorem State.setQuire_sensor (n : Nat) (v : QEntry) (i : Nat) : (s.setQuire n v).sensor i = s.sensor i := rfl
@[simp] theorem State.setQuire_heat (n : Nat) (v : QEntry) (i : Nat) : (s.setQuire n v).heat i = s.heat i := rfl
@[simp] theorem State.setQuire_tip (n : Nat) (v : QEntry) (i : Nat) : (s.setQuire n v).tip i = s.tip i := rfl
@[simp] theorem State.setQuire_line (n : Nat) (v : QEntry) (i : Nat) : (s.setQuire n v).line i = s.line i := rfl
@[simp] theorem State.setKey_flds (n : Nat) (v : KeySlot) : (s.setKey n v).flds = s.flds := rfl
@[simp] theorem State.setKey_now (n : Nat) (v : KeySlot) : (s.setKey n v).now = s.now := rfl
@[simp] theorem State.setKey_free (n : Nat) (v : KeySlot) : (s.setKey n v).free = s.free := rfl
@[simp] theorem State.setKey_out (n : Nat) (v : KeySlot) : (s.setKey n v).out = s.out := rfl
@[simp] theorem State.setKey_pages (n : Nat) (v : KeySlot) : (s.setKey n v).pages = s.pages := rfl
@[simp] theorem State.setKey_transit (n : Nat) (v : KeySlot) : (s.setKey n v).transit = s.transit := rfl
@[simp] theorem State.setKey_nextReq (n : Nat) (v : KeySlot) : (s.setKey n v).nextReq = s.nextReq := rfl
@[simp] theorem State.setKey_stalled (n : Nat) (v : KeySlot) : (s.setKey n v).stalled = s.stalled := rfl
@[simp] theorem State.setKey_pcs (n : Nat) (v : KeySlot) : (s.setKey n v).pcs = s.pcs := rfl
@[simp] theorem State.setKey_layers (n : Nat) (v : KeySlot) : (s.setKey n v).layers = s.layers := rfl
@[simp] theorem State.setKey_lines (n : Nat) (v : KeySlot) : (s.setKey n v).lines = s.lines := rfl
@[simp] theorem State.setKey_kerf (n : Nat) (v : KeySlot) : (s.setKey n v).kerf = s.kerf := rfl
@[simp] theorem State.setKey_repair (n : Nat) (v : KeySlot) : (s.setKey n v).repair = s.repair := rfl
@[simp] theorem State.setKey_recoveries (n : Nat) (v : KeySlot) : (s.setKey n v).recoveries = s.recoveries := rfl
@[simp] theorem State.setKey_folio (n : Nat) (v : KeySlot) : (s.setKey n v).folio = s.folio := rfl
@[simp] theorem State.setKey_bank (n : Nat) (v : KeySlot) : (s.setKey n v).bank = s.bank := rfl
@[simp] theorem State.setKey_gauge (n : Nat) (v : KeySlot) : (s.setKey n v).gauge = s.gauge := rfl
@[simp] theorem State.setKey_chisel (n : Nat) (v : KeySlot) : (s.setKey n v).chisel = s.chisel := rfl
@[simp] theorem State.setKey_dove (n : Nat) (v : KeySlot) : (s.setKey n v).dove = s.dove := rfl
@[simp] theorem State.setKey_ports (n : Nat) (v : KeySlot) : (s.setKey n v).ports = s.ports := rfl
@[simp] theorem State.setKey_lds (n : Nat) (v : KeySlot) : (s.setKey n v).lds = s.lds := rfl
@[simp] theorem State.setKey_mbox (n : Nat) (v : KeySlot) : (s.setKey n v).mbox = s.mbox := rfl
@[simp] theorem State.setKey_lanes (n : Nat) (v : KeySlot) : (s.setKey n v).lanes = s.lanes := rfl
@[simp] theorem State.setKey_spline (n : Nat) (v : KeySlot) : (s.setKey n v).spline = s.spline := rfl
@[simp] theorem State.setKey_clk (n : Nat) (v : KeySlot) : (s.setKey n v).clk = s.clk := rfl
@[simp] theorem State.setKey_domains (n : Nat) (v : KeySlot) : (s.setKey n v).domains = s.domains := rfl
@[simp] theorem State.setKey_sys (n : Nat) (v : KeySlot) : (s.setKey n v).sys = s.sys := rfl
@[simp] theorem State.setKey_cals (n : Nat) (v : KeySlot) : (s.setKey n v).cals = s.cals := rfl
@[simp] theorem State.setKey_sensors (n : Nat) (v : KeySlot) : (s.setKey n v).sensors = s.sensors := rfl
@[simp] theorem State.setKey_therm (n : Nat) (v : KeySlot) : (s.setKey n v).therm = s.therm := rfl
@[simp] theorem State.setKey_pin (n : Nat) (v : KeySlot) : (s.setKey n v).pin = s.pin := rfl
@[simp] theorem State.setKey_bist (n : Nat) (v : KeySlot) : (s.setKey n v).bist = s.bist := rfl
@[simp] theorem State.setKey_otp (n : Nat) (v : KeySlot) : (s.setKey n v).otp = s.otp := rfl
@[simp] theorem State.setKey_sb (n : Nat) (v : KeySlot) : (s.setKey n v).sb = s.sb := rfl
@[simp] theorem State.setKey_pending (n : Nat) (v : KeySlot) : (s.setKey n v).pending = s.pending := rfl
@[simp] theorem State.setKey_rd (n : Nat) (v : KeySlot) (g : Fld) : (s.setKey n v).rd g = s.rd g := rfl
@[simp] theorem State.setKey_on (n : Nat) (v : KeySlot) (g : Fld) : (s.setKey n v).on g = s.on g := rfl
@[simp] theorem State.setKey_page (n : Nat) (v : KeySlot) (i : Nat) : (s.setKey n v).page i = s.page i := rfl
@[simp] theorem State.setKey_pc (n : Nat) (v : KeySlot) (i : Nat) : (s.setKey n v).pc i = s.pc i := rfl
@[simp] theorem State.setKey_layer (n : Nat) (v : KeySlot) (i : Nat) : (s.setKey n v).layer i = s.layer i := rfl
@[simp] theorem State.setKey_eng (n : Nat) (v : KeySlot) (i : Nat) : (s.setKey n v).eng i = s.eng i := rfl
@[simp] theorem State.setKey_quire (n : Nat) (v : KeySlot) (i : Nat) : (s.setKey n v).quire i = s.quire i := rfl
@[simp] theorem State.setKey_pair (n : Nat) (v : KeySlot) (i : Nat) : (s.setKey n v).pair i = s.pair i := rfl
@[simp] theorem State.setKey_port (n : Nat) (v : KeySlot) (i : Nat) : (s.setKey n v).port i = s.port i := rfl
@[simp] theorem State.setKey_ld (n : Nat) (v : KeySlot) (i : Nat) : (s.setKey n v).ld i = s.ld i := rfl
@[simp] theorem State.setKey_lane (n : Nat) (v : KeySlot) (i : Nat) : (s.setKey n v).lane i = s.lane i := rfl
@[simp] theorem State.setKey_xing (n : Nat) (v : KeySlot) (i : Nat) : (s.setKey n v).xing i = s.xing i := rfl
@[simp] theorem State.setKey_domain (n : Nat) (v : KeySlot) (i : Nat) : (s.setKey n v).domain i = s.domain i := rfl
@[simp] theorem State.setKey_cal (n : Nat) (v : KeySlot) (i : Nat) : (s.setKey n v).cal i = s.cal i := rfl
@[simp] theorem State.setKey_sensor (n : Nat) (v : KeySlot) (i : Nat) : (s.setKey n v).sensor i = s.sensor i := rfl
@[simp] theorem State.setKey_heat (n : Nat) (v : KeySlot) (i : Nat) : (s.setKey n v).heat i = s.heat i := rfl
@[simp] theorem State.setKey_tip (n : Nat) (v : KeySlot) (i : Nat) : (s.setKey n v).tip i = s.tip i := rfl
@[simp] theorem State.setKey_line (n : Nat) (v : KeySlot) (i : Nat) : (s.setKey n v).line i = s.line i := rfl
@[simp] theorem State.setRights_flds (n : Nat) (v : BitVec 256) : (s.setRights n v).flds = s.flds := rfl
@[simp] theorem State.setRights_now (n : Nat) (v : BitVec 256) : (s.setRights n v).now = s.now := rfl
@[simp] theorem State.setRights_free (n : Nat) (v : BitVec 256) : (s.setRights n v).free = s.free := rfl
@[simp] theorem State.setRights_out (n : Nat) (v : BitVec 256) : (s.setRights n v).out = s.out := rfl
@[simp] theorem State.setRights_pages (n : Nat) (v : BitVec 256) : (s.setRights n v).pages = s.pages := rfl
@[simp] theorem State.setRights_transit (n : Nat) (v : BitVec 256) : (s.setRights n v).transit = s.transit := rfl
@[simp] theorem State.setRights_nextReq (n : Nat) (v : BitVec 256) : (s.setRights n v).nextReq = s.nextReq := rfl
@[simp] theorem State.setRights_stalled (n : Nat) (v : BitVec 256) : (s.setRights n v).stalled = s.stalled := rfl
@[simp] theorem State.setRights_pcs (n : Nat) (v : BitVec 256) : (s.setRights n v).pcs = s.pcs := rfl
@[simp] theorem State.setRights_layers (n : Nat) (v : BitVec 256) : (s.setRights n v).layers = s.layers := rfl
@[simp] theorem State.setRights_lines (n : Nat) (v : BitVec 256) : (s.setRights n v).lines = s.lines := rfl
@[simp] theorem State.setRights_kerf (n : Nat) (v : BitVec 256) : (s.setRights n v).kerf = s.kerf := rfl
@[simp] theorem State.setRights_repair (n : Nat) (v : BitVec 256) : (s.setRights n v).repair = s.repair := rfl
@[simp] theorem State.setRights_recoveries (n : Nat) (v : BitVec 256) : (s.setRights n v).recoveries = s.recoveries := rfl
@[simp] theorem State.setRights_folio (n : Nat) (v : BitVec 256) : (s.setRights n v).folio = s.folio := rfl
@[simp] theorem State.setRights_bank (n : Nat) (v : BitVec 256) : (s.setRights n v).bank = s.bank := rfl
@[simp] theorem State.setRights_gauge (n : Nat) (v : BitVec 256) : (s.setRights n v).gauge = s.gauge := rfl
@[simp] theorem State.setRights_chisel (n : Nat) (v : BitVec 256) : (s.setRights n v).chisel = s.chisel := rfl
@[simp] theorem State.setRights_dove (n : Nat) (v : BitVec 256) : (s.setRights n v).dove = s.dove := rfl
@[simp] theorem State.setRights_ports (n : Nat) (v : BitVec 256) : (s.setRights n v).ports = s.ports := rfl
@[simp] theorem State.setRights_lds (n : Nat) (v : BitVec 256) : (s.setRights n v).lds = s.lds := rfl
@[simp] theorem State.setRights_mbox (n : Nat) (v : BitVec 256) : (s.setRights n v).mbox = s.mbox := rfl
@[simp] theorem State.setRights_lanes (n : Nat) (v : BitVec 256) : (s.setRights n v).lanes = s.lanes := rfl
@[simp] theorem State.setRights_spline (n : Nat) (v : BitVec 256) : (s.setRights n v).spline = s.spline := rfl
@[simp] theorem State.setRights_clk (n : Nat) (v : BitVec 256) : (s.setRights n v).clk = s.clk := rfl
@[simp] theorem State.setRights_domains (n : Nat) (v : BitVec 256) : (s.setRights n v).domains = s.domains := rfl
@[simp] theorem State.setRights_sys (n : Nat) (v : BitVec 256) : (s.setRights n v).sys = s.sys := rfl
@[simp] theorem State.setRights_cals (n : Nat) (v : BitVec 256) : (s.setRights n v).cals = s.cals := rfl
@[simp] theorem State.setRights_sensors (n : Nat) (v : BitVec 256) : (s.setRights n v).sensors = s.sensors := rfl
@[simp] theorem State.setRights_therm (n : Nat) (v : BitVec 256) : (s.setRights n v).therm = s.therm := rfl
@[simp] theorem State.setRights_pin (n : Nat) (v : BitVec 256) : (s.setRights n v).pin = s.pin := rfl
@[simp] theorem State.setRights_bist (n : Nat) (v : BitVec 256) : (s.setRights n v).bist = s.bist := rfl
@[simp] theorem State.setRights_otp (n : Nat) (v : BitVec 256) : (s.setRights n v).otp = s.otp := rfl
@[simp] theorem State.setRights_sb (n : Nat) (v : BitVec 256) : (s.setRights n v).sb = s.sb := rfl
@[simp] theorem State.setRights_pending (n : Nat) (v : BitVec 256) : (s.setRights n v).pending = s.pending := rfl
@[simp] theorem State.setRights_rd (n : Nat) (v : BitVec 256) (g : Fld) : (s.setRights n v).rd g = s.rd g := rfl
@[simp] theorem State.setRights_on (n : Nat) (v : BitVec 256) (g : Fld) : (s.setRights n v).on g = s.on g := rfl
@[simp] theorem State.setRights_page (n : Nat) (v : BitVec 256) (i : Nat) : (s.setRights n v).page i = s.page i := rfl
@[simp] theorem State.setRights_pc (n : Nat) (v : BitVec 256) (i : Nat) : (s.setRights n v).pc i = s.pc i := rfl
@[simp] theorem State.setRights_layer (n : Nat) (v : BitVec 256) (i : Nat) : (s.setRights n v).layer i = s.layer i := rfl
@[simp] theorem State.setRights_eng (n : Nat) (v : BitVec 256) (i : Nat) : (s.setRights n v).eng i = s.eng i := rfl
@[simp] theorem State.setRights_quire (n : Nat) (v : BitVec 256) (i : Nat) : (s.setRights n v).quire i = s.quire i := rfl
@[simp] theorem State.setRights_pair (n : Nat) (v : BitVec 256) (i : Nat) : (s.setRights n v).pair i = s.pair i := rfl
@[simp] theorem State.setRights_port (n : Nat) (v : BitVec 256) (i : Nat) : (s.setRights n v).port i = s.port i := rfl
@[simp] theorem State.setRights_ld (n : Nat) (v : BitVec 256) (i : Nat) : (s.setRights n v).ld i = s.ld i := rfl
@[simp] theorem State.setRights_lane (n : Nat) (v : BitVec 256) (i : Nat) : (s.setRights n v).lane i = s.lane i := rfl
@[simp] theorem State.setRights_xing (n : Nat) (v : BitVec 256) (i : Nat) : (s.setRights n v).xing i = s.xing i := rfl
@[simp] theorem State.setRights_domain (n : Nat) (v : BitVec 256) (i : Nat) : (s.setRights n v).domain i = s.domain i := rfl
@[simp] theorem State.setRights_cal (n : Nat) (v : BitVec 256) (i : Nat) : (s.setRights n v).cal i = s.cal i := rfl
@[simp] theorem State.setRights_sensor (n : Nat) (v : BitVec 256) (i : Nat) : (s.setRights n v).sensor i = s.sensor i := rfl
@[simp] theorem State.setRights_heat (n : Nat) (v : BitVec 256) (i : Nat) : (s.setRights n v).heat i = s.heat i := rfl
@[simp] theorem State.setRights_tip (n : Nat) (v : BitVec 256) (i : Nat) : (s.setRights n v).tip i = s.tip i := rfl
@[simp] theorem State.setRights_line (n : Nat) (v : BitVec 256) (i : Nat) : (s.setRights n v).line i = s.line i := rfl
@[simp] theorem State.setRange_flds (n : Nat) (v : KeyRange) : (s.setRange n v).flds = s.flds := rfl
@[simp] theorem State.setRange_now (n : Nat) (v : KeyRange) : (s.setRange n v).now = s.now := rfl
@[simp] theorem State.setRange_free (n : Nat) (v : KeyRange) : (s.setRange n v).free = s.free := rfl
@[simp] theorem State.setRange_out (n : Nat) (v : KeyRange) : (s.setRange n v).out = s.out := rfl
@[simp] theorem State.setRange_pages (n : Nat) (v : KeyRange) : (s.setRange n v).pages = s.pages := rfl
@[simp] theorem State.setRange_transit (n : Nat) (v : KeyRange) : (s.setRange n v).transit = s.transit := rfl
@[simp] theorem State.setRange_nextReq (n : Nat) (v : KeyRange) : (s.setRange n v).nextReq = s.nextReq := rfl
@[simp] theorem State.setRange_stalled (n : Nat) (v : KeyRange) : (s.setRange n v).stalled = s.stalled := rfl
@[simp] theorem State.setRange_pcs (n : Nat) (v : KeyRange) : (s.setRange n v).pcs = s.pcs := rfl
@[simp] theorem State.setRange_layers (n : Nat) (v : KeyRange) : (s.setRange n v).layers = s.layers := rfl
@[simp] theorem State.setRange_lines (n : Nat) (v : KeyRange) : (s.setRange n v).lines = s.lines := rfl
@[simp] theorem State.setRange_kerf (n : Nat) (v : KeyRange) : (s.setRange n v).kerf = s.kerf := rfl
@[simp] theorem State.setRange_repair (n : Nat) (v : KeyRange) : (s.setRange n v).repair = s.repair := rfl
@[simp] theorem State.setRange_recoveries (n : Nat) (v : KeyRange) : (s.setRange n v).recoveries = s.recoveries := rfl
@[simp] theorem State.setRange_folio (n : Nat) (v : KeyRange) : (s.setRange n v).folio = s.folio := rfl
@[simp] theorem State.setRange_bank (n : Nat) (v : KeyRange) : (s.setRange n v).bank = s.bank := rfl
@[simp] theorem State.setRange_gauge (n : Nat) (v : KeyRange) : (s.setRange n v).gauge = s.gauge := rfl
@[simp] theorem State.setRange_chisel (n : Nat) (v : KeyRange) : (s.setRange n v).chisel = s.chisel := rfl
@[simp] theorem State.setRange_dove (n : Nat) (v : KeyRange) : (s.setRange n v).dove = s.dove := rfl
@[simp] theorem State.setRange_ports (n : Nat) (v : KeyRange) : (s.setRange n v).ports = s.ports := rfl
@[simp] theorem State.setRange_lds (n : Nat) (v : KeyRange) : (s.setRange n v).lds = s.lds := rfl
@[simp] theorem State.setRange_mbox (n : Nat) (v : KeyRange) : (s.setRange n v).mbox = s.mbox := rfl
@[simp] theorem State.setRange_lanes (n : Nat) (v : KeyRange) : (s.setRange n v).lanes = s.lanes := rfl
@[simp] theorem State.setRange_spline (n : Nat) (v : KeyRange) : (s.setRange n v).spline = s.spline := rfl
@[simp] theorem State.setRange_clk (n : Nat) (v : KeyRange) : (s.setRange n v).clk = s.clk := rfl
@[simp] theorem State.setRange_domains (n : Nat) (v : KeyRange) : (s.setRange n v).domains = s.domains := rfl
@[simp] theorem State.setRange_sys (n : Nat) (v : KeyRange) : (s.setRange n v).sys = s.sys := rfl
@[simp] theorem State.setRange_cals (n : Nat) (v : KeyRange) : (s.setRange n v).cals = s.cals := rfl
@[simp] theorem State.setRange_sensors (n : Nat) (v : KeyRange) : (s.setRange n v).sensors = s.sensors := rfl
@[simp] theorem State.setRange_therm (n : Nat) (v : KeyRange) : (s.setRange n v).therm = s.therm := rfl
@[simp] theorem State.setRange_pin (n : Nat) (v : KeyRange) : (s.setRange n v).pin = s.pin := rfl
@[simp] theorem State.setRange_bist (n : Nat) (v : KeyRange) : (s.setRange n v).bist = s.bist := rfl
@[simp] theorem State.setRange_otp (n : Nat) (v : KeyRange) : (s.setRange n v).otp = s.otp := rfl
@[simp] theorem State.setRange_sb (n : Nat) (v : KeyRange) : (s.setRange n v).sb = s.sb := rfl
@[simp] theorem State.setRange_pending (n : Nat) (v : KeyRange) : (s.setRange n v).pending = s.pending := rfl
@[simp] theorem State.setRange_rd (n : Nat) (v : KeyRange) (g : Fld) : (s.setRange n v).rd g = s.rd g := rfl
@[simp] theorem State.setRange_on (n : Nat) (v : KeyRange) (g : Fld) : (s.setRange n v).on g = s.on g := rfl
@[simp] theorem State.setRange_page (n : Nat) (v : KeyRange) (i : Nat) : (s.setRange n v).page i = s.page i := rfl
@[simp] theorem State.setRange_pc (n : Nat) (v : KeyRange) (i : Nat) : (s.setRange n v).pc i = s.pc i := rfl
@[simp] theorem State.setRange_layer (n : Nat) (v : KeyRange) (i : Nat) : (s.setRange n v).layer i = s.layer i := rfl
@[simp] theorem State.setRange_eng (n : Nat) (v : KeyRange) (i : Nat) : (s.setRange n v).eng i = s.eng i := rfl
@[simp] theorem State.setRange_quire (n : Nat) (v : KeyRange) (i : Nat) : (s.setRange n v).quire i = s.quire i := rfl
@[simp] theorem State.setRange_pair (n : Nat) (v : KeyRange) (i : Nat) : (s.setRange n v).pair i = s.pair i := rfl
@[simp] theorem State.setRange_port (n : Nat) (v : KeyRange) (i : Nat) : (s.setRange n v).port i = s.port i := rfl
@[simp] theorem State.setRange_ld (n : Nat) (v : KeyRange) (i : Nat) : (s.setRange n v).ld i = s.ld i := rfl
@[simp] theorem State.setRange_lane (n : Nat) (v : KeyRange) (i : Nat) : (s.setRange n v).lane i = s.lane i := rfl
@[simp] theorem State.setRange_xing (n : Nat) (v : KeyRange) (i : Nat) : (s.setRange n v).xing i = s.xing i := rfl
@[simp] theorem State.setRange_domain (n : Nat) (v : KeyRange) (i : Nat) : (s.setRange n v).domain i = s.domain i := rfl
@[simp] theorem State.setRange_cal (n : Nat) (v : KeyRange) (i : Nat) : (s.setRange n v).cal i = s.cal i := rfl
@[simp] theorem State.setRange_sensor (n : Nat) (v : KeyRange) (i : Nat) : (s.setRange n v).sensor i = s.sensor i := rfl
@[simp] theorem State.setRange_heat (n : Nat) (v : KeyRange) (i : Nat) : (s.setRange n v).heat i = s.heat i := rfl
@[simp] theorem State.setRange_tip (n : Nat) (v : KeyRange) (i : Nat) : (s.setRange n v).tip i = s.tip i := rfl
@[simp] theorem State.setRange_line (n : Nat) (v : KeyRange) (i : Nat) : (s.setRange n v).line i = s.line i := rfl
@[simp] theorem State.setPair_flds (n : Nat) (v : PairForce) : (s.setPair n v).flds = s.flds := rfl
@[simp] theorem State.setPair_now (n : Nat) (v : PairForce) : (s.setPair n v).now = s.now := rfl
@[simp] theorem State.setPair_free (n : Nat) (v : PairForce) : (s.setPair n v).free = s.free := rfl
@[simp] theorem State.setPair_out (n : Nat) (v : PairForce) : (s.setPair n v).out = s.out := rfl
@[simp] theorem State.setPair_pages (n : Nat) (v : PairForce) : (s.setPair n v).pages = s.pages := rfl
@[simp] theorem State.setPair_transit (n : Nat) (v : PairForce) : (s.setPair n v).transit = s.transit := rfl
@[simp] theorem State.setPair_nextReq (n : Nat) (v : PairForce) : (s.setPair n v).nextReq = s.nextReq := rfl
@[simp] theorem State.setPair_stalled (n : Nat) (v : PairForce) : (s.setPair n v).stalled = s.stalled := rfl
@[simp] theorem State.setPair_pcs (n : Nat) (v : PairForce) : (s.setPair n v).pcs = s.pcs := rfl
@[simp] theorem State.setPair_layers (n : Nat) (v : PairForce) : (s.setPair n v).layers = s.layers := rfl
@[simp] theorem State.setPair_lines (n : Nat) (v : PairForce) : (s.setPair n v).lines = s.lines := rfl
@[simp] theorem State.setPair_kerf (n : Nat) (v : PairForce) : (s.setPair n v).kerf = s.kerf := rfl
@[simp] theorem State.setPair_repair (n : Nat) (v : PairForce) : (s.setPair n v).repair = s.repair := rfl
@[simp] theorem State.setPair_recoveries (n : Nat) (v : PairForce) : (s.setPair n v).recoveries = s.recoveries := rfl
@[simp] theorem State.setPair_folio (n : Nat) (v : PairForce) : (s.setPair n v).folio = s.folio := rfl
@[simp] theorem State.setPair_bank (n : Nat) (v : PairForce) : (s.setPair n v).bank = s.bank := rfl
@[simp] theorem State.setPair_crypto (n : Nat) (v : PairForce) : (s.setPair n v).crypto = s.crypto := rfl
@[simp] theorem State.setPair_chisel (n : Nat) (v : PairForce) : (s.setPair n v).chisel = s.chisel := rfl
@[simp] theorem State.setPair_dove (n : Nat) (v : PairForce) : (s.setPair n v).dove = s.dove := rfl
@[simp] theorem State.setPair_ports (n : Nat) (v : PairForce) : (s.setPair n v).ports = s.ports := rfl
@[simp] theorem State.setPair_lds (n : Nat) (v : PairForce) : (s.setPair n v).lds = s.lds := rfl
@[simp] theorem State.setPair_mbox (n : Nat) (v : PairForce) : (s.setPair n v).mbox = s.mbox := rfl
@[simp] theorem State.setPair_lanes (n : Nat) (v : PairForce) : (s.setPair n v).lanes = s.lanes := rfl
@[simp] theorem State.setPair_spline (n : Nat) (v : PairForce) : (s.setPair n v).spline = s.spline := rfl
@[simp] theorem State.setPair_clk (n : Nat) (v : PairForce) : (s.setPair n v).clk = s.clk := rfl
@[simp] theorem State.setPair_domains (n : Nat) (v : PairForce) : (s.setPair n v).domains = s.domains := rfl
@[simp] theorem State.setPair_sys (n : Nat) (v : PairForce) : (s.setPair n v).sys = s.sys := rfl
@[simp] theorem State.setPair_cals (n : Nat) (v : PairForce) : (s.setPair n v).cals = s.cals := rfl
@[simp] theorem State.setPair_sensors (n : Nat) (v : PairForce) : (s.setPair n v).sensors = s.sensors := rfl
@[simp] theorem State.setPair_therm (n : Nat) (v : PairForce) : (s.setPair n v).therm = s.therm := rfl
@[simp] theorem State.setPair_pin (n : Nat) (v : PairForce) : (s.setPair n v).pin = s.pin := rfl
@[simp] theorem State.setPair_bist (n : Nat) (v : PairForce) : (s.setPair n v).bist = s.bist := rfl
@[simp] theorem State.setPair_otp (n : Nat) (v : PairForce) : (s.setPair n v).otp = s.otp := rfl
@[simp] theorem State.setPair_sb (n : Nat) (v : PairForce) : (s.setPair n v).sb = s.sb := rfl
@[simp] theorem State.setPair_pending (n : Nat) (v : PairForce) : (s.setPair n v).pending = s.pending := rfl
@[simp] theorem State.setPair_rd (n : Nat) (v : PairForce) (g : Fld) : (s.setPair n v).rd g = s.rd g := rfl
@[simp] theorem State.setPair_on (n : Nat) (v : PairForce) (g : Fld) : (s.setPair n v).on g = s.on g := rfl
@[simp] theorem State.setPair_page (n : Nat) (v : PairForce) (i : Nat) : (s.setPair n v).page i = s.page i := rfl
@[simp] theorem State.setPair_pc (n : Nat) (v : PairForce) (i : Nat) : (s.setPair n v).pc i = s.pc i := rfl
@[simp] theorem State.setPair_layer (n : Nat) (v : PairForce) (i : Nat) : (s.setPair n v).layer i = s.layer i := rfl
@[simp] theorem State.setPair_eng (n : Nat) (v : PairForce) (i : Nat) : (s.setPair n v).eng i = s.eng i := rfl
@[simp] theorem State.setPair_quire (n : Nat) (v : PairForce) (i : Nat) : (s.setPair n v).quire i = s.quire i := rfl
@[simp] theorem State.setPair_key (n : Nat) (v : PairForce) (i : Nat) : (s.setPair n v).key i = s.key i := rfl
@[simp] theorem State.setPair_rights (n : Nat) (v : PairForce) (i : Nat) : (s.setPair n v).rights i = s.rights i := rfl
@[simp] theorem State.setPair_range (n : Nat) (v : PairForce) (i : Nat) : (s.setPair n v).range i = s.range i := rfl
@[simp] theorem State.setPair_port (n : Nat) (v : PairForce) (i : Nat) : (s.setPair n v).port i = s.port i := rfl
@[simp] theorem State.setPair_ld (n : Nat) (v : PairForce) (i : Nat) : (s.setPair n v).ld i = s.ld i := rfl
@[simp] theorem State.setPair_lane (n : Nat) (v : PairForce) (i : Nat) : (s.setPair n v).lane i = s.lane i := rfl
@[simp] theorem State.setPair_xing (n : Nat) (v : PairForce) (i : Nat) : (s.setPair n v).xing i = s.xing i := rfl
@[simp] theorem State.setPair_domain (n : Nat) (v : PairForce) (i : Nat) : (s.setPair n v).domain i = s.domain i := rfl
@[simp] theorem State.setPair_cal (n : Nat) (v : PairForce) (i : Nat) : (s.setPair n v).cal i = s.cal i := rfl
@[simp] theorem State.setPair_sensor (n : Nat) (v : PairForce) (i : Nat) : (s.setPair n v).sensor i = s.sensor i := rfl
@[simp] theorem State.setPair_heat (n : Nat) (v : PairForce) (i : Nat) : (s.setPair n v).heat i = s.heat i := rfl
@[simp] theorem State.setPair_tip (n : Nat) (v : PairForce) (i : Nat) : (s.setPair n v).tip i = s.tip i := rfl
@[simp] theorem State.setPair_line (n : Nat) (v : PairForce) (i : Nat) : (s.setPair n v).line i = s.line i := rfl
@[simp] theorem State.setPort_flds (n : Nat) (v : PortState) : (s.setPort n v).flds = s.flds := rfl
@[simp] theorem State.setPort_now (n : Nat) (v : PortState) : (s.setPort n v).now = s.now := rfl
@[simp] theorem State.setPort_free (n : Nat) (v : PortState) : (s.setPort n v).free = s.free := rfl
@[simp] theorem State.setPort_out (n : Nat) (v : PortState) : (s.setPort n v).out = s.out := rfl
@[simp] theorem State.setPort_pages (n : Nat) (v : PortState) : (s.setPort n v).pages = s.pages := rfl
@[simp] theorem State.setPort_transit (n : Nat) (v : PortState) : (s.setPort n v).transit = s.transit := rfl
@[simp] theorem State.setPort_nextReq (n : Nat) (v : PortState) : (s.setPort n v).nextReq = s.nextReq := rfl
@[simp] theorem State.setPort_stalled (n : Nat) (v : PortState) : (s.setPort n v).stalled = s.stalled := rfl
@[simp] theorem State.setPort_pcs (n : Nat) (v : PortState) : (s.setPort n v).pcs = s.pcs := rfl
@[simp] theorem State.setPort_layers (n : Nat) (v : PortState) : (s.setPort n v).layers = s.layers := rfl
@[simp] theorem State.setPort_lines (n : Nat) (v : PortState) : (s.setPort n v).lines = s.lines := rfl
@[simp] theorem State.setPort_kerf (n : Nat) (v : PortState) : (s.setPort n v).kerf = s.kerf := rfl
@[simp] theorem State.setPort_repair (n : Nat) (v : PortState) : (s.setPort n v).repair = s.repair := rfl
@[simp] theorem State.setPort_recoveries (n : Nat) (v : PortState) : (s.setPort n v).recoveries = s.recoveries := rfl
@[simp] theorem State.setPort_folio (n : Nat) (v : PortState) : (s.setPort n v).folio = s.folio := rfl
@[simp] theorem State.setPort_bank (n : Nat) (v : PortState) : (s.setPort n v).bank = s.bank := rfl
@[simp] theorem State.setPort_crypto (n : Nat) (v : PortState) : (s.setPort n v).crypto = s.crypto := rfl
@[simp] theorem State.setPort_gauge (n : Nat) (v : PortState) : (s.setPort n v).gauge = s.gauge := rfl
@[simp] theorem State.setPort_chisel (n : Nat) (v : PortState) : (s.setPort n v).chisel = s.chisel := rfl
@[simp] theorem State.setPort_dove (n : Nat) (v : PortState) : (s.setPort n v).dove = s.dove := rfl
@[simp] theorem State.setPort_lds (n : Nat) (v : PortState) : (s.setPort n v).lds = s.lds := rfl
@[simp] theorem State.setPort_mbox (n : Nat) (v : PortState) : (s.setPort n v).mbox = s.mbox := rfl
@[simp] theorem State.setPort_lanes (n : Nat) (v : PortState) : (s.setPort n v).lanes = s.lanes := rfl
@[simp] theorem State.setPort_spline (n : Nat) (v : PortState) : (s.setPort n v).spline = s.spline := rfl
@[simp] theorem State.setPort_clk (n : Nat) (v : PortState) : (s.setPort n v).clk = s.clk := rfl
@[simp] theorem State.setPort_domains (n : Nat) (v : PortState) : (s.setPort n v).domains = s.domains := rfl
@[simp] theorem State.setPort_sys (n : Nat) (v : PortState) : (s.setPort n v).sys = s.sys := rfl
@[simp] theorem State.setPort_cals (n : Nat) (v : PortState) : (s.setPort n v).cals = s.cals := rfl
@[simp] theorem State.setPort_sensors (n : Nat) (v : PortState) : (s.setPort n v).sensors = s.sensors := rfl
@[simp] theorem State.setPort_therm (n : Nat) (v : PortState) : (s.setPort n v).therm = s.therm := rfl
@[simp] theorem State.setPort_pin (n : Nat) (v : PortState) : (s.setPort n v).pin = s.pin := rfl
@[simp] theorem State.setPort_bist (n : Nat) (v : PortState) : (s.setPort n v).bist = s.bist := rfl
@[simp] theorem State.setPort_otp (n : Nat) (v : PortState) : (s.setPort n v).otp = s.otp := rfl
@[simp] theorem State.setPort_sb (n : Nat) (v : PortState) : (s.setPort n v).sb = s.sb := rfl
@[simp] theorem State.setPort_pending (n : Nat) (v : PortState) : (s.setPort n v).pending = s.pending := rfl
@[simp] theorem State.setPort_rd (n : Nat) (v : PortState) (g : Fld) : (s.setPort n v).rd g = s.rd g := rfl
@[simp] theorem State.setPort_on (n : Nat) (v : PortState) (g : Fld) : (s.setPort n v).on g = s.on g := rfl
@[simp] theorem State.setPort_page (n : Nat) (v : PortState) (i : Nat) : (s.setPort n v).page i = s.page i := rfl
@[simp] theorem State.setPort_pc (n : Nat) (v : PortState) (i : Nat) : (s.setPort n v).pc i = s.pc i := rfl
@[simp] theorem State.setPort_layer (n : Nat) (v : PortState) (i : Nat) : (s.setPort n v).layer i = s.layer i := rfl
@[simp] theorem State.setPort_eng (n : Nat) (v : PortState) (i : Nat) : (s.setPort n v).eng i = s.eng i := rfl
@[simp] theorem State.setPort_quire (n : Nat) (v : PortState) (i : Nat) : (s.setPort n v).quire i = s.quire i := rfl
@[simp] theorem State.setPort_key (n : Nat) (v : PortState) (i : Nat) : (s.setPort n v).key i = s.key i := rfl
@[simp] theorem State.setPort_rights (n : Nat) (v : PortState) (i : Nat) : (s.setPort n v).rights i = s.rights i := rfl
@[simp] theorem State.setPort_range (n : Nat) (v : PortState) (i : Nat) : (s.setPort n v).range i = s.range i := rfl
@[simp] theorem State.setPort_pair (n : Nat) (v : PortState) (i : Nat) : (s.setPort n v).pair i = s.pair i := rfl
@[simp] theorem State.setPort_ld (n : Nat) (v : PortState) (i : Nat) : (s.setPort n v).ld i = s.ld i := rfl
@[simp] theorem State.setPort_lane (n : Nat) (v : PortState) (i : Nat) : (s.setPort n v).lane i = s.lane i := rfl
@[simp] theorem State.setPort_xing (n : Nat) (v : PortState) (i : Nat) : (s.setPort n v).xing i = s.xing i := rfl
@[simp] theorem State.setPort_domain (n : Nat) (v : PortState) (i : Nat) : (s.setPort n v).domain i = s.domain i := rfl
@[simp] theorem State.setPort_cal (n : Nat) (v : PortState) (i : Nat) : (s.setPort n v).cal i = s.cal i := rfl
@[simp] theorem State.setPort_sensor (n : Nat) (v : PortState) (i : Nat) : (s.setPort n v).sensor i = s.sensor i := rfl
@[simp] theorem State.setPort_heat (n : Nat) (v : PortState) (i : Nat) : (s.setPort n v).heat i = s.heat i := rfl
@[simp] theorem State.setPort_tip (n : Nat) (v : PortState) (i : Nat) : (s.setPort n v).tip i = s.tip i := rfl
@[simp] theorem State.setPort_line (n : Nat) (v : PortState) (i : Nat) : (s.setPort n v).line i = s.line i := rfl
@[simp] theorem State.setLd_flds (n : Nat) (v : LdState) : (s.setLd n v).flds = s.flds := rfl
@[simp] theorem State.setLd_now (n : Nat) (v : LdState) : (s.setLd n v).now = s.now := rfl
@[simp] theorem State.setLd_free (n : Nat) (v : LdState) : (s.setLd n v).free = s.free := rfl
@[simp] theorem State.setLd_out (n : Nat) (v : LdState) : (s.setLd n v).out = s.out := rfl
@[simp] theorem State.setLd_pages (n : Nat) (v : LdState) : (s.setLd n v).pages = s.pages := rfl
@[simp] theorem State.setLd_transit (n : Nat) (v : LdState) : (s.setLd n v).transit = s.transit := rfl
@[simp] theorem State.setLd_nextReq (n : Nat) (v : LdState) : (s.setLd n v).nextReq = s.nextReq := rfl
@[simp] theorem State.setLd_stalled (n : Nat) (v : LdState) : (s.setLd n v).stalled = s.stalled := rfl
@[simp] theorem State.setLd_pcs (n : Nat) (v : LdState) : (s.setLd n v).pcs = s.pcs := rfl
@[simp] theorem State.setLd_layers (n : Nat) (v : LdState) : (s.setLd n v).layers = s.layers := rfl
@[simp] theorem State.setLd_lines (n : Nat) (v : LdState) : (s.setLd n v).lines = s.lines := rfl
@[simp] theorem State.setLd_kerf (n : Nat) (v : LdState) : (s.setLd n v).kerf = s.kerf := rfl
@[simp] theorem State.setLd_repair (n : Nat) (v : LdState) : (s.setLd n v).repair = s.repair := rfl
@[simp] theorem State.setLd_recoveries (n : Nat) (v : LdState) : (s.setLd n v).recoveries = s.recoveries := rfl
@[simp] theorem State.setLd_folio (n : Nat) (v : LdState) : (s.setLd n v).folio = s.folio := rfl
@[simp] theorem State.setLd_bank (n : Nat) (v : LdState) : (s.setLd n v).bank = s.bank := rfl
@[simp] theorem State.setLd_crypto (n : Nat) (v : LdState) : (s.setLd n v).crypto = s.crypto := rfl
@[simp] theorem State.setLd_gauge (n : Nat) (v : LdState) : (s.setLd n v).gauge = s.gauge := rfl
@[simp] theorem State.setLd_chisel (n : Nat) (v : LdState) : (s.setLd n v).chisel = s.chisel := rfl
@[simp] theorem State.setLd_dove (n : Nat) (v : LdState) : (s.setLd n v).dove = s.dove := rfl
@[simp] theorem State.setLd_ports (n : Nat) (v : LdState) : (s.setLd n v).ports = s.ports := rfl
@[simp] theorem State.setLd_mbox (n : Nat) (v : LdState) : (s.setLd n v).mbox = s.mbox := rfl
@[simp] theorem State.setLd_lanes (n : Nat) (v : LdState) : (s.setLd n v).lanes = s.lanes := rfl
@[simp] theorem State.setLd_spline (n : Nat) (v : LdState) : (s.setLd n v).spline = s.spline := rfl
@[simp] theorem State.setLd_clk (n : Nat) (v : LdState) : (s.setLd n v).clk = s.clk := rfl
@[simp] theorem State.setLd_domains (n : Nat) (v : LdState) : (s.setLd n v).domains = s.domains := rfl
@[simp] theorem State.setLd_sys (n : Nat) (v : LdState) : (s.setLd n v).sys = s.sys := rfl
@[simp] theorem State.setLd_cals (n : Nat) (v : LdState) : (s.setLd n v).cals = s.cals := rfl
@[simp] theorem State.setLd_sensors (n : Nat) (v : LdState) : (s.setLd n v).sensors = s.sensors := rfl
@[simp] theorem State.setLd_therm (n : Nat) (v : LdState) : (s.setLd n v).therm = s.therm := rfl
@[simp] theorem State.setLd_pin (n : Nat) (v : LdState) : (s.setLd n v).pin = s.pin := rfl
@[simp] theorem State.setLd_bist (n : Nat) (v : LdState) : (s.setLd n v).bist = s.bist := rfl
@[simp] theorem State.setLd_otp (n : Nat) (v : LdState) : (s.setLd n v).otp = s.otp := rfl
@[simp] theorem State.setLd_sb (n : Nat) (v : LdState) : (s.setLd n v).sb = s.sb := rfl
@[simp] theorem State.setLd_pending (n : Nat) (v : LdState) : (s.setLd n v).pending = s.pending := rfl
@[simp] theorem State.setLd_rd (n : Nat) (v : LdState) (g : Fld) : (s.setLd n v).rd g = s.rd g := rfl
@[simp] theorem State.setLd_on (n : Nat) (v : LdState) (g : Fld) : (s.setLd n v).on g = s.on g := rfl
@[simp] theorem State.setLd_page (n : Nat) (v : LdState) (i : Nat) : (s.setLd n v).page i = s.page i := rfl
@[simp] theorem State.setLd_pc (n : Nat) (v : LdState) (i : Nat) : (s.setLd n v).pc i = s.pc i := rfl
@[simp] theorem State.setLd_layer (n : Nat) (v : LdState) (i : Nat) : (s.setLd n v).layer i = s.layer i := rfl
@[simp] theorem State.setLd_eng (n : Nat) (v : LdState) (i : Nat) : (s.setLd n v).eng i = s.eng i := rfl
@[simp] theorem State.setLd_quire (n : Nat) (v : LdState) (i : Nat) : (s.setLd n v).quire i = s.quire i := rfl
@[simp] theorem State.setLd_key (n : Nat) (v : LdState) (i : Nat) : (s.setLd n v).key i = s.key i := rfl
@[simp] theorem State.setLd_rights (n : Nat) (v : LdState) (i : Nat) : (s.setLd n v).rights i = s.rights i := rfl
@[simp] theorem State.setLd_range (n : Nat) (v : LdState) (i : Nat) : (s.setLd n v).range i = s.range i := rfl
@[simp] theorem State.setLd_pair (n : Nat) (v : LdState) (i : Nat) : (s.setLd n v).pair i = s.pair i := rfl
@[simp] theorem State.setLd_port (n : Nat) (v : LdState) (i : Nat) : (s.setLd n v).port i = s.port i := rfl
@[simp] theorem State.setLd_lane (n : Nat) (v : LdState) (i : Nat) : (s.setLd n v).lane i = s.lane i := rfl
@[simp] theorem State.setLd_xing (n : Nat) (v : LdState) (i : Nat) : (s.setLd n v).xing i = s.xing i := rfl
@[simp] theorem State.setLd_domain (n : Nat) (v : LdState) (i : Nat) : (s.setLd n v).domain i = s.domain i := rfl
@[simp] theorem State.setLd_cal (n : Nat) (v : LdState) (i : Nat) : (s.setLd n v).cal i = s.cal i := rfl
@[simp] theorem State.setLd_sensor (n : Nat) (v : LdState) (i : Nat) : (s.setLd n v).sensor i = s.sensor i := rfl
@[simp] theorem State.setLd_heat (n : Nat) (v : LdState) (i : Nat) : (s.setLd n v).heat i = s.heat i := rfl
@[simp] theorem State.setLd_tip (n : Nat) (v : LdState) (i : Nat) : (s.setLd n v).tip i = s.tip i := rfl
@[simp] theorem State.setLd_line (n : Nat) (v : LdState) (i : Nat) : (s.setLd n v).line i = s.line i := rfl
@[simp] theorem State.setLane_flds (n : Nat) (v : LaneState) : (s.setLane n v).flds = s.flds := rfl
@[simp] theorem State.setLane_now (n : Nat) (v : LaneState) : (s.setLane n v).now = s.now := rfl
@[simp] theorem State.setLane_free (n : Nat) (v : LaneState) : (s.setLane n v).free = s.free := rfl
@[simp] theorem State.setLane_out (n : Nat) (v : LaneState) : (s.setLane n v).out = s.out := rfl
@[simp] theorem State.setLane_pages (n : Nat) (v : LaneState) : (s.setLane n v).pages = s.pages := rfl
@[simp] theorem State.setLane_transit (n : Nat) (v : LaneState) : (s.setLane n v).transit = s.transit := rfl
@[simp] theorem State.setLane_nextReq (n : Nat) (v : LaneState) : (s.setLane n v).nextReq = s.nextReq := rfl
@[simp] theorem State.setLane_stalled (n : Nat) (v : LaneState) : (s.setLane n v).stalled = s.stalled := rfl
@[simp] theorem State.setLane_pcs (n : Nat) (v : LaneState) : (s.setLane n v).pcs = s.pcs := rfl
@[simp] theorem State.setLane_layers (n : Nat) (v : LaneState) : (s.setLane n v).layers = s.layers := rfl
@[simp] theorem State.setLane_lines (n : Nat) (v : LaneState) : (s.setLane n v).lines = s.lines := rfl
@[simp] theorem State.setLane_kerf (n : Nat) (v : LaneState) : (s.setLane n v).kerf = s.kerf := rfl
@[simp] theorem State.setLane_repair (n : Nat) (v : LaneState) : (s.setLane n v).repair = s.repair := rfl
@[simp] theorem State.setLane_recoveries (n : Nat) (v : LaneState) : (s.setLane n v).recoveries = s.recoveries := rfl
@[simp] theorem State.setLane_folio (n : Nat) (v : LaneState) : (s.setLane n v).folio = s.folio := rfl
@[simp] theorem State.setLane_bank (n : Nat) (v : LaneState) : (s.setLane n v).bank = s.bank := rfl
@[simp] theorem State.setLane_crypto (n : Nat) (v : LaneState) : (s.setLane n v).crypto = s.crypto := rfl
@[simp] theorem State.setLane_gauge (n : Nat) (v : LaneState) : (s.setLane n v).gauge = s.gauge := rfl
@[simp] theorem State.setLane_chisel (n : Nat) (v : LaneState) : (s.setLane n v).chisel = s.chisel := rfl
@[simp] theorem State.setLane_dove (n : Nat) (v : LaneState) : (s.setLane n v).dove = s.dove := rfl
@[simp] theorem State.setLane_ports (n : Nat) (v : LaneState) : (s.setLane n v).ports = s.ports := rfl
@[simp] theorem State.setLane_lds (n : Nat) (v : LaneState) : (s.setLane n v).lds = s.lds := rfl
@[simp] theorem State.setLane_mbox (n : Nat) (v : LaneState) : (s.setLane n v).mbox = s.mbox := rfl
@[simp] theorem State.setLane_spline (n : Nat) (v : LaneState) : (s.setLane n v).spline = s.spline := rfl
@[simp] theorem State.setLane_clk (n : Nat) (v : LaneState) : (s.setLane n v).clk = s.clk := rfl
@[simp] theorem State.setLane_domains (n : Nat) (v : LaneState) : (s.setLane n v).domains = s.domains := rfl
@[simp] theorem State.setLane_sys (n : Nat) (v : LaneState) : (s.setLane n v).sys = s.sys := rfl
@[simp] theorem State.setLane_cals (n : Nat) (v : LaneState) : (s.setLane n v).cals = s.cals := rfl
@[simp] theorem State.setLane_sensors (n : Nat) (v : LaneState) : (s.setLane n v).sensors = s.sensors := rfl
@[simp] theorem State.setLane_therm (n : Nat) (v : LaneState) : (s.setLane n v).therm = s.therm := rfl
@[simp] theorem State.setLane_pin (n : Nat) (v : LaneState) : (s.setLane n v).pin = s.pin := rfl
@[simp] theorem State.setLane_bist (n : Nat) (v : LaneState) : (s.setLane n v).bist = s.bist := rfl
@[simp] theorem State.setLane_otp (n : Nat) (v : LaneState) : (s.setLane n v).otp = s.otp := rfl
@[simp] theorem State.setLane_sb (n : Nat) (v : LaneState) : (s.setLane n v).sb = s.sb := rfl
@[simp] theorem State.setLane_pending (n : Nat) (v : LaneState) : (s.setLane n v).pending = s.pending := rfl
@[simp] theorem State.setLane_rd (n : Nat) (v : LaneState) (g : Fld) : (s.setLane n v).rd g = s.rd g := rfl
@[simp] theorem State.setLane_on (n : Nat) (v : LaneState) (g : Fld) : (s.setLane n v).on g = s.on g := rfl
@[simp] theorem State.setLane_page (n : Nat) (v : LaneState) (i : Nat) : (s.setLane n v).page i = s.page i := rfl
@[simp] theorem State.setLane_pc (n : Nat) (v : LaneState) (i : Nat) : (s.setLane n v).pc i = s.pc i := rfl
@[simp] theorem State.setLane_layer (n : Nat) (v : LaneState) (i : Nat) : (s.setLane n v).layer i = s.layer i := rfl
@[simp] theorem State.setLane_eng (n : Nat) (v : LaneState) (i : Nat) : (s.setLane n v).eng i = s.eng i := rfl
@[simp] theorem State.setLane_quire (n : Nat) (v : LaneState) (i : Nat) : (s.setLane n v).quire i = s.quire i := rfl
@[simp] theorem State.setLane_key (n : Nat) (v : LaneState) (i : Nat) : (s.setLane n v).key i = s.key i := rfl
@[simp] theorem State.setLane_rights (n : Nat) (v : LaneState) (i : Nat) : (s.setLane n v).rights i = s.rights i := rfl
@[simp] theorem State.setLane_range (n : Nat) (v : LaneState) (i : Nat) : (s.setLane n v).range i = s.range i := rfl
@[simp] theorem State.setLane_pair (n : Nat) (v : LaneState) (i : Nat) : (s.setLane n v).pair i = s.pair i := rfl
@[simp] theorem State.setLane_port (n : Nat) (v : LaneState) (i : Nat) : (s.setLane n v).port i = s.port i := rfl
@[simp] theorem State.setLane_ld (n : Nat) (v : LaneState) (i : Nat) : (s.setLane n v).ld i = s.ld i := rfl
@[simp] theorem State.setLane_xing (n : Nat) (v : LaneState) (i : Nat) : (s.setLane n v).xing i = s.xing i := rfl
@[simp] theorem State.setLane_domain (n : Nat) (v : LaneState) (i : Nat) : (s.setLane n v).domain i = s.domain i := rfl
@[simp] theorem State.setLane_cal (n : Nat) (v : LaneState) (i : Nat) : (s.setLane n v).cal i = s.cal i := rfl
@[simp] theorem State.setLane_sensor (n : Nat) (v : LaneState) (i : Nat) : (s.setLane n v).sensor i = s.sensor i := rfl
@[simp] theorem State.setLane_heat (n : Nat) (v : LaneState) (i : Nat) : (s.setLane n v).heat i = s.heat i := rfl
@[simp] theorem State.setLane_tip (n : Nat) (v : LaneState) (i : Nat) : (s.setLane n v).tip i = s.tip i := rfl
@[simp] theorem State.setLane_line (n : Nat) (v : LaneState) (i : Nat) : (s.setLane n v).line i = s.line i := rfl
@[simp] theorem State.setXing_flds (n : Nat) (v : Crossing) : (s.setXing n v).flds = s.flds := rfl
@[simp] theorem State.setXing_now (n : Nat) (v : Crossing) : (s.setXing n v).now = s.now := rfl
@[simp] theorem State.setXing_free (n : Nat) (v : Crossing) : (s.setXing n v).free = s.free := rfl
@[simp] theorem State.setXing_out (n : Nat) (v : Crossing) : (s.setXing n v).out = s.out := rfl
@[simp] theorem State.setXing_pages (n : Nat) (v : Crossing) : (s.setXing n v).pages = s.pages := rfl
@[simp] theorem State.setXing_transit (n : Nat) (v : Crossing) : (s.setXing n v).transit = s.transit := rfl
@[simp] theorem State.setXing_nextReq (n : Nat) (v : Crossing) : (s.setXing n v).nextReq = s.nextReq := rfl
@[simp] theorem State.setXing_stalled (n : Nat) (v : Crossing) : (s.setXing n v).stalled = s.stalled := rfl
@[simp] theorem State.setXing_pcs (n : Nat) (v : Crossing) : (s.setXing n v).pcs = s.pcs := rfl
@[simp] theorem State.setXing_layers (n : Nat) (v : Crossing) : (s.setXing n v).layers = s.layers := rfl
@[simp] theorem State.setXing_lines (n : Nat) (v : Crossing) : (s.setXing n v).lines = s.lines := rfl
@[simp] theorem State.setXing_kerf (n : Nat) (v : Crossing) : (s.setXing n v).kerf = s.kerf := rfl
@[simp] theorem State.setXing_repair (n : Nat) (v : Crossing) : (s.setXing n v).repair = s.repair := rfl
@[simp] theorem State.setXing_recoveries (n : Nat) (v : Crossing) : (s.setXing n v).recoveries = s.recoveries := rfl
@[simp] theorem State.setXing_folio (n : Nat) (v : Crossing) : (s.setXing n v).folio = s.folio := rfl
@[simp] theorem State.setXing_bank (n : Nat) (v : Crossing) : (s.setXing n v).bank = s.bank := rfl
@[simp] theorem State.setXing_crypto (n : Nat) (v : Crossing) : (s.setXing n v).crypto = s.crypto := rfl
@[simp] theorem State.setXing_gauge (n : Nat) (v : Crossing) : (s.setXing n v).gauge = s.gauge := rfl
@[simp] theorem State.setXing_chisel (n : Nat) (v : Crossing) : (s.setXing n v).chisel = s.chisel := rfl
@[simp] theorem State.setXing_dove (n : Nat) (v : Crossing) : (s.setXing n v).dove = s.dove := rfl
@[simp] theorem State.setXing_ports (n : Nat) (v : Crossing) : (s.setXing n v).ports = s.ports := rfl
@[simp] theorem State.setXing_lds (n : Nat) (v : Crossing) : (s.setXing n v).lds = s.lds := rfl
@[simp] theorem State.setXing_mbox (n : Nat) (v : Crossing) : (s.setXing n v).mbox = s.mbox := rfl
@[simp] theorem State.setXing_lanes (n : Nat) (v : Crossing) : (s.setXing n v).lanes = s.lanes := rfl
@[simp] theorem State.setXing_clk (n : Nat) (v : Crossing) : (s.setXing n v).clk = s.clk := rfl
@[simp] theorem State.setXing_domains (n : Nat) (v : Crossing) : (s.setXing n v).domains = s.domains := rfl
@[simp] theorem State.setXing_sys (n : Nat) (v : Crossing) : (s.setXing n v).sys = s.sys := rfl
@[simp] theorem State.setXing_cals (n : Nat) (v : Crossing) : (s.setXing n v).cals = s.cals := rfl
@[simp] theorem State.setXing_sensors (n : Nat) (v : Crossing) : (s.setXing n v).sensors = s.sensors := rfl
@[simp] theorem State.setXing_therm (n : Nat) (v : Crossing) : (s.setXing n v).therm = s.therm := rfl
@[simp] theorem State.setXing_pin (n : Nat) (v : Crossing) : (s.setXing n v).pin = s.pin := rfl
@[simp] theorem State.setXing_bist (n : Nat) (v : Crossing) : (s.setXing n v).bist = s.bist := rfl
@[simp] theorem State.setXing_otp (n : Nat) (v : Crossing) : (s.setXing n v).otp = s.otp := rfl
@[simp] theorem State.setXing_sb (n : Nat) (v : Crossing) : (s.setXing n v).sb = s.sb := rfl
@[simp] theorem State.setXing_pending (n : Nat) (v : Crossing) : (s.setXing n v).pending = s.pending := rfl
@[simp] theorem State.setXing_rd (n : Nat) (v : Crossing) (g : Fld) : (s.setXing n v).rd g = s.rd g := rfl
@[simp] theorem State.setXing_on (n : Nat) (v : Crossing) (g : Fld) : (s.setXing n v).on g = s.on g := rfl
@[simp] theorem State.setXing_page (n : Nat) (v : Crossing) (i : Nat) : (s.setXing n v).page i = s.page i := rfl
@[simp] theorem State.setXing_pc (n : Nat) (v : Crossing) (i : Nat) : (s.setXing n v).pc i = s.pc i := rfl
@[simp] theorem State.setXing_layer (n : Nat) (v : Crossing) (i : Nat) : (s.setXing n v).layer i = s.layer i := rfl
@[simp] theorem State.setXing_eng (n : Nat) (v : Crossing) (i : Nat) : (s.setXing n v).eng i = s.eng i := rfl
@[simp] theorem State.setXing_quire (n : Nat) (v : Crossing) (i : Nat) : (s.setXing n v).quire i = s.quire i := rfl
@[simp] theorem State.setXing_key (n : Nat) (v : Crossing) (i : Nat) : (s.setXing n v).key i = s.key i := rfl
@[simp] theorem State.setXing_rights (n : Nat) (v : Crossing) (i : Nat) : (s.setXing n v).rights i = s.rights i := rfl
@[simp] theorem State.setXing_range (n : Nat) (v : Crossing) (i : Nat) : (s.setXing n v).range i = s.range i := rfl
@[simp] theorem State.setXing_pair (n : Nat) (v : Crossing) (i : Nat) : (s.setXing n v).pair i = s.pair i := rfl
@[simp] theorem State.setXing_port (n : Nat) (v : Crossing) (i : Nat) : (s.setXing n v).port i = s.port i := rfl
@[simp] theorem State.setXing_ld (n : Nat) (v : Crossing) (i : Nat) : (s.setXing n v).ld i = s.ld i := rfl
@[simp] theorem State.setXing_lane (n : Nat) (v : Crossing) (i : Nat) : (s.setXing n v).lane i = s.lane i := rfl
@[simp] theorem State.setXing_domain (n : Nat) (v : Crossing) (i : Nat) : (s.setXing n v).domain i = s.domain i := rfl
@[simp] theorem State.setXing_cal (n : Nat) (v : Crossing) (i : Nat) : (s.setXing n v).cal i = s.cal i := rfl
@[simp] theorem State.setXing_sensor (n : Nat) (v : Crossing) (i : Nat) : (s.setXing n v).sensor i = s.sensor i := rfl
@[simp] theorem State.setXing_heat (n : Nat) (v : Crossing) (i : Nat) : (s.setXing n v).heat i = s.heat i := rfl
@[simp] theorem State.setXing_tip (n : Nat) (v : Crossing) (i : Nat) : (s.setXing n v).tip i = s.tip i := rfl
@[simp] theorem State.setXing_line (n : Nat) (v : Crossing) (i : Nat) : (s.setXing n v).line i = s.line i := rfl
@[simp] theorem State.setDomain_flds (n : Nat) (v : DomainState) : (s.setDomain n v).flds = s.flds := rfl
@[simp] theorem State.setDomain_now (n : Nat) (v : DomainState) : (s.setDomain n v).now = s.now := rfl
@[simp] theorem State.setDomain_free (n : Nat) (v : DomainState) : (s.setDomain n v).free = s.free := rfl
@[simp] theorem State.setDomain_out (n : Nat) (v : DomainState) : (s.setDomain n v).out = s.out := rfl
@[simp] theorem State.setDomain_pages (n : Nat) (v : DomainState) : (s.setDomain n v).pages = s.pages := rfl
@[simp] theorem State.setDomain_transit (n : Nat) (v : DomainState) : (s.setDomain n v).transit = s.transit := rfl
@[simp] theorem State.setDomain_nextReq (n : Nat) (v : DomainState) : (s.setDomain n v).nextReq = s.nextReq := rfl
@[simp] theorem State.setDomain_stalled (n : Nat) (v : DomainState) : (s.setDomain n v).stalled = s.stalled := rfl
@[simp] theorem State.setDomain_pcs (n : Nat) (v : DomainState) : (s.setDomain n v).pcs = s.pcs := rfl
@[simp] theorem State.setDomain_layers (n : Nat) (v : DomainState) : (s.setDomain n v).layers = s.layers := rfl
@[simp] theorem State.setDomain_lines (n : Nat) (v : DomainState) : (s.setDomain n v).lines = s.lines := rfl
@[simp] theorem State.setDomain_kerf (n : Nat) (v : DomainState) : (s.setDomain n v).kerf = s.kerf := rfl
@[simp] theorem State.setDomain_repair (n : Nat) (v : DomainState) : (s.setDomain n v).repair = s.repair := rfl
@[simp] theorem State.setDomain_recoveries (n : Nat) (v : DomainState) : (s.setDomain n v).recoveries = s.recoveries := rfl
@[simp] theorem State.setDomain_folio (n : Nat) (v : DomainState) : (s.setDomain n v).folio = s.folio := rfl
@[simp] theorem State.setDomain_bank (n : Nat) (v : DomainState) : (s.setDomain n v).bank = s.bank := rfl
@[simp] theorem State.setDomain_crypto (n : Nat) (v : DomainState) : (s.setDomain n v).crypto = s.crypto := rfl
@[simp] theorem State.setDomain_gauge (n : Nat) (v : DomainState) : (s.setDomain n v).gauge = s.gauge := rfl
@[simp] theorem State.setDomain_chisel (n : Nat) (v : DomainState) : (s.setDomain n v).chisel = s.chisel := rfl
@[simp] theorem State.setDomain_dove (n : Nat) (v : DomainState) : (s.setDomain n v).dove = s.dove := rfl
@[simp] theorem State.setDomain_ports (n : Nat) (v : DomainState) : (s.setDomain n v).ports = s.ports := rfl
@[simp] theorem State.setDomain_lds (n : Nat) (v : DomainState) : (s.setDomain n v).lds = s.lds := rfl
@[simp] theorem State.setDomain_mbox (n : Nat) (v : DomainState) : (s.setDomain n v).mbox = s.mbox := rfl
@[simp] theorem State.setDomain_lanes (n : Nat) (v : DomainState) : (s.setDomain n v).lanes = s.lanes := rfl
@[simp] theorem State.setDomain_spline (n : Nat) (v : DomainState) : (s.setDomain n v).spline = s.spline := rfl
@[simp] theorem State.setDomain_clk (n : Nat) (v : DomainState) : (s.setDomain n v).clk = s.clk := rfl
@[simp] theorem State.setDomain_sys (n : Nat) (v : DomainState) : (s.setDomain n v).sys = s.sys := rfl
@[simp] theorem State.setDomain_cals (n : Nat) (v : DomainState) : (s.setDomain n v).cals = s.cals := rfl
@[simp] theorem State.setDomain_sensors (n : Nat) (v : DomainState) : (s.setDomain n v).sensors = s.sensors := rfl
@[simp] theorem State.setDomain_therm (n : Nat) (v : DomainState) : (s.setDomain n v).therm = s.therm := rfl
@[simp] theorem State.setDomain_pin (n : Nat) (v : DomainState) : (s.setDomain n v).pin = s.pin := rfl
@[simp] theorem State.setDomain_bist (n : Nat) (v : DomainState) : (s.setDomain n v).bist = s.bist := rfl
@[simp] theorem State.setDomain_otp (n : Nat) (v : DomainState) : (s.setDomain n v).otp = s.otp := rfl
@[simp] theorem State.setDomain_sb (n : Nat) (v : DomainState) : (s.setDomain n v).sb = s.sb := rfl
@[simp] theorem State.setDomain_pending (n : Nat) (v : DomainState) : (s.setDomain n v).pending = s.pending := rfl
@[simp] theorem State.setDomain_rd (n : Nat) (v : DomainState) (g : Fld) : (s.setDomain n v).rd g = s.rd g := rfl
@[simp] theorem State.setDomain_on (n : Nat) (v : DomainState) (g : Fld) : (s.setDomain n v).on g = s.on g := rfl
@[simp] theorem State.setDomain_page (n : Nat) (v : DomainState) (i : Nat) : (s.setDomain n v).page i = s.page i := rfl
@[simp] theorem State.setDomain_pc (n : Nat) (v : DomainState) (i : Nat) : (s.setDomain n v).pc i = s.pc i := rfl
@[simp] theorem State.setDomain_layer (n : Nat) (v : DomainState) (i : Nat) : (s.setDomain n v).layer i = s.layer i := rfl
@[simp] theorem State.setDomain_eng (n : Nat) (v : DomainState) (i : Nat) : (s.setDomain n v).eng i = s.eng i := rfl
@[simp] theorem State.setDomain_quire (n : Nat) (v : DomainState) (i : Nat) : (s.setDomain n v).quire i = s.quire i := rfl
@[simp] theorem State.setDomain_key (n : Nat) (v : DomainState) (i : Nat) : (s.setDomain n v).key i = s.key i := rfl
@[simp] theorem State.setDomain_rights (n : Nat) (v : DomainState) (i : Nat) : (s.setDomain n v).rights i = s.rights i := rfl
@[simp] theorem State.setDomain_range (n : Nat) (v : DomainState) (i : Nat) : (s.setDomain n v).range i = s.range i := rfl
@[simp] theorem State.setDomain_pair (n : Nat) (v : DomainState) (i : Nat) : (s.setDomain n v).pair i = s.pair i := rfl
@[simp] theorem State.setDomain_port (n : Nat) (v : DomainState) (i : Nat) : (s.setDomain n v).port i = s.port i := rfl
@[simp] theorem State.setDomain_ld (n : Nat) (v : DomainState) (i : Nat) : (s.setDomain n v).ld i = s.ld i := rfl
@[simp] theorem State.setDomain_lane (n : Nat) (v : DomainState) (i : Nat) : (s.setDomain n v).lane i = s.lane i := rfl
@[simp] theorem State.setDomain_xing (n : Nat) (v : DomainState) (i : Nat) : (s.setDomain n v).xing i = s.xing i := rfl
@[simp] theorem State.setDomain_cal (n : Nat) (v : DomainState) (i : Nat) : (s.setDomain n v).cal i = s.cal i := rfl
@[simp] theorem State.setDomain_sensor (n : Nat) (v : DomainState) (i : Nat) : (s.setDomain n v).sensor i = s.sensor i := rfl
@[simp] theorem State.setDomain_heat (n : Nat) (v : DomainState) (i : Nat) : (s.setDomain n v).heat i = s.heat i := rfl
@[simp] theorem State.setDomain_tip (n : Nat) (v : DomainState) (i : Nat) : (s.setDomain n v).tip i = s.tip i := rfl
@[simp] theorem State.setDomain_line (n : Nat) (v : DomainState) (i : Nat) : (s.setDomain n v).line i = s.line i := rfl
@[simp] theorem State.setCal_flds (n : Nat) (v : CalState) : (s.setCal n v).flds = s.flds := rfl
@[simp] theorem State.setCal_now (n : Nat) (v : CalState) : (s.setCal n v).now = s.now := rfl
@[simp] theorem State.setCal_free (n : Nat) (v : CalState) : (s.setCal n v).free = s.free := rfl
@[simp] theorem State.setCal_out (n : Nat) (v : CalState) : (s.setCal n v).out = s.out := rfl
@[simp] theorem State.setCal_pages (n : Nat) (v : CalState) : (s.setCal n v).pages = s.pages := rfl
@[simp] theorem State.setCal_transit (n : Nat) (v : CalState) : (s.setCal n v).transit = s.transit := rfl
@[simp] theorem State.setCal_nextReq (n : Nat) (v : CalState) : (s.setCal n v).nextReq = s.nextReq := rfl
@[simp] theorem State.setCal_stalled (n : Nat) (v : CalState) : (s.setCal n v).stalled = s.stalled := rfl
@[simp] theorem State.setCal_pcs (n : Nat) (v : CalState) : (s.setCal n v).pcs = s.pcs := rfl
@[simp] theorem State.setCal_layers (n : Nat) (v : CalState) : (s.setCal n v).layers = s.layers := rfl
@[simp] theorem State.setCal_lines (n : Nat) (v : CalState) : (s.setCal n v).lines = s.lines := rfl
@[simp] theorem State.setCal_kerf (n : Nat) (v : CalState) : (s.setCal n v).kerf = s.kerf := rfl
@[simp] theorem State.setCal_repair (n : Nat) (v : CalState) : (s.setCal n v).repair = s.repair := rfl
@[simp] theorem State.setCal_recoveries (n : Nat) (v : CalState) : (s.setCal n v).recoveries = s.recoveries := rfl
@[simp] theorem State.setCal_folio (n : Nat) (v : CalState) : (s.setCal n v).folio = s.folio := rfl
@[simp] theorem State.setCal_bank (n : Nat) (v : CalState) : (s.setCal n v).bank = s.bank := rfl
@[simp] theorem State.setCal_crypto (n : Nat) (v : CalState) : (s.setCal n v).crypto = s.crypto := rfl
@[simp] theorem State.setCal_gauge (n : Nat) (v : CalState) : (s.setCal n v).gauge = s.gauge := rfl
@[simp] theorem State.setCal_chisel (n : Nat) (v : CalState) : (s.setCal n v).chisel = s.chisel := rfl
@[simp] theorem State.setCal_dove (n : Nat) (v : CalState) : (s.setCal n v).dove = s.dove := rfl
@[simp] theorem State.setCal_ports (n : Nat) (v : CalState) : (s.setCal n v).ports = s.ports := rfl
@[simp] theorem State.setCal_lds (n : Nat) (v : CalState) : (s.setCal n v).lds = s.lds := rfl
@[simp] theorem State.setCal_mbox (n : Nat) (v : CalState) : (s.setCal n v).mbox = s.mbox := rfl
@[simp] theorem State.setCal_lanes (n : Nat) (v : CalState) : (s.setCal n v).lanes = s.lanes := rfl
@[simp] theorem State.setCal_spline (n : Nat) (v : CalState) : (s.setCal n v).spline = s.spline := rfl
@[simp] theorem State.setCal_clk (n : Nat) (v : CalState) : (s.setCal n v).clk = s.clk := rfl
@[simp] theorem State.setCal_domains (n : Nat) (v : CalState) : (s.setCal n v).domains = s.domains := rfl
@[simp] theorem State.setCal_sys (n : Nat) (v : CalState) : (s.setCal n v).sys = s.sys := rfl
@[simp] theorem State.setCal_sensors (n : Nat) (v : CalState) : (s.setCal n v).sensors = s.sensors := rfl
@[simp] theorem State.setCal_therm (n : Nat) (v : CalState) : (s.setCal n v).therm = s.therm := rfl
@[simp] theorem State.setCal_pin (n : Nat) (v : CalState) : (s.setCal n v).pin = s.pin := rfl
@[simp] theorem State.setCal_bist (n : Nat) (v : CalState) : (s.setCal n v).bist = s.bist := rfl
@[simp] theorem State.setCal_otp (n : Nat) (v : CalState) : (s.setCal n v).otp = s.otp := rfl
@[simp] theorem State.setCal_sb (n : Nat) (v : CalState) : (s.setCal n v).sb = s.sb := rfl
@[simp] theorem State.setCal_pending (n : Nat) (v : CalState) : (s.setCal n v).pending = s.pending := rfl
@[simp] theorem State.setCal_rd (n : Nat) (v : CalState) (g : Fld) : (s.setCal n v).rd g = s.rd g := rfl
@[simp] theorem State.setCal_on (n : Nat) (v : CalState) (g : Fld) : (s.setCal n v).on g = s.on g := rfl
@[simp] theorem State.setCal_page (n : Nat) (v : CalState) (i : Nat) : (s.setCal n v).page i = s.page i := rfl
@[simp] theorem State.setCal_pc (n : Nat) (v : CalState) (i : Nat) : (s.setCal n v).pc i = s.pc i := rfl
@[simp] theorem State.setCal_layer (n : Nat) (v : CalState) (i : Nat) : (s.setCal n v).layer i = s.layer i := rfl
@[simp] theorem State.setCal_eng (n : Nat) (v : CalState) (i : Nat) : (s.setCal n v).eng i = s.eng i := rfl
@[simp] theorem State.setCal_quire (n : Nat) (v : CalState) (i : Nat) : (s.setCal n v).quire i = s.quire i := rfl
@[simp] theorem State.setCal_key (n : Nat) (v : CalState) (i : Nat) : (s.setCal n v).key i = s.key i := rfl
@[simp] theorem State.setCal_rights (n : Nat) (v : CalState) (i : Nat) : (s.setCal n v).rights i = s.rights i := rfl
@[simp] theorem State.setCal_range (n : Nat) (v : CalState) (i : Nat) : (s.setCal n v).range i = s.range i := rfl
@[simp] theorem State.setCal_pair (n : Nat) (v : CalState) (i : Nat) : (s.setCal n v).pair i = s.pair i := rfl
@[simp] theorem State.setCal_port (n : Nat) (v : CalState) (i : Nat) : (s.setCal n v).port i = s.port i := rfl
@[simp] theorem State.setCal_ld (n : Nat) (v : CalState) (i : Nat) : (s.setCal n v).ld i = s.ld i := rfl
@[simp] theorem State.setCal_lane (n : Nat) (v : CalState) (i : Nat) : (s.setCal n v).lane i = s.lane i := rfl
@[simp] theorem State.setCal_xing (n : Nat) (v : CalState) (i : Nat) : (s.setCal n v).xing i = s.xing i := rfl
@[simp] theorem State.setCal_domain (n : Nat) (v : CalState) (i : Nat) : (s.setCal n v).domain i = s.domain i := rfl
@[simp] theorem State.setCal_sensor (n : Nat) (v : CalState) (i : Nat) : (s.setCal n v).sensor i = s.sensor i := rfl
@[simp] theorem State.setCal_heat (n : Nat) (v : CalState) (i : Nat) : (s.setCal n v).heat i = s.heat i := rfl
@[simp] theorem State.setCal_tip (n : Nat) (v : CalState) (i : Nat) : (s.setCal n v).tip i = s.tip i := rfl
@[simp] theorem State.setCal_line (n : Nat) (v : CalState) (i : Nat) : (s.setCal n v).line i = s.line i := rfl
@[simp] theorem State.setSensor_flds (n : Nat) (v : Sensor) : (s.setSensor n v).flds = s.flds := rfl
@[simp] theorem State.setSensor_now (n : Nat) (v : Sensor) : (s.setSensor n v).now = s.now := rfl
@[simp] theorem State.setSensor_free (n : Nat) (v : Sensor) : (s.setSensor n v).free = s.free := rfl
@[simp] theorem State.setSensor_out (n : Nat) (v : Sensor) : (s.setSensor n v).out = s.out := rfl
@[simp] theorem State.setSensor_pages (n : Nat) (v : Sensor) : (s.setSensor n v).pages = s.pages := rfl
@[simp] theorem State.setSensor_transit (n : Nat) (v : Sensor) : (s.setSensor n v).transit = s.transit := rfl
@[simp] theorem State.setSensor_nextReq (n : Nat) (v : Sensor) : (s.setSensor n v).nextReq = s.nextReq := rfl
@[simp] theorem State.setSensor_stalled (n : Nat) (v : Sensor) : (s.setSensor n v).stalled = s.stalled := rfl
@[simp] theorem State.setSensor_pcs (n : Nat) (v : Sensor) : (s.setSensor n v).pcs = s.pcs := rfl
@[simp] theorem State.setSensor_layers (n : Nat) (v : Sensor) : (s.setSensor n v).layers = s.layers := rfl
@[simp] theorem State.setSensor_lines (n : Nat) (v : Sensor) : (s.setSensor n v).lines = s.lines := rfl
@[simp] theorem State.setSensor_kerf (n : Nat) (v : Sensor) : (s.setSensor n v).kerf = s.kerf := rfl
@[simp] theorem State.setSensor_repair (n : Nat) (v : Sensor) : (s.setSensor n v).repair = s.repair := rfl
@[simp] theorem State.setSensor_recoveries (n : Nat) (v : Sensor) : (s.setSensor n v).recoveries = s.recoveries := rfl
@[simp] theorem State.setSensor_folio (n : Nat) (v : Sensor) : (s.setSensor n v).folio = s.folio := rfl
@[simp] theorem State.setSensor_bank (n : Nat) (v : Sensor) : (s.setSensor n v).bank = s.bank := rfl
@[simp] theorem State.setSensor_crypto (n : Nat) (v : Sensor) : (s.setSensor n v).crypto = s.crypto := rfl
@[simp] theorem State.setSensor_gauge (n : Nat) (v : Sensor) : (s.setSensor n v).gauge = s.gauge := rfl
@[simp] theorem State.setSensor_chisel (n : Nat) (v : Sensor) : (s.setSensor n v).chisel = s.chisel := rfl
@[simp] theorem State.setSensor_dove (n : Nat) (v : Sensor) : (s.setSensor n v).dove = s.dove := rfl
@[simp] theorem State.setSensor_ports (n : Nat) (v : Sensor) : (s.setSensor n v).ports = s.ports := rfl
@[simp] theorem State.setSensor_lds (n : Nat) (v : Sensor) : (s.setSensor n v).lds = s.lds := rfl
@[simp] theorem State.setSensor_mbox (n : Nat) (v : Sensor) : (s.setSensor n v).mbox = s.mbox := rfl
@[simp] theorem State.setSensor_lanes (n : Nat) (v : Sensor) : (s.setSensor n v).lanes = s.lanes := rfl
@[simp] theorem State.setSensor_spline (n : Nat) (v : Sensor) : (s.setSensor n v).spline = s.spline := rfl
@[simp] theorem State.setSensor_clk (n : Nat) (v : Sensor) : (s.setSensor n v).clk = s.clk := rfl
@[simp] theorem State.setSensor_domains (n : Nat) (v : Sensor) : (s.setSensor n v).domains = s.domains := rfl
@[simp] theorem State.setSensor_sys (n : Nat) (v : Sensor) : (s.setSensor n v).sys = s.sys := rfl
@[simp] theorem State.setSensor_cals (n : Nat) (v : Sensor) : (s.setSensor n v).cals = s.cals := rfl
@[simp] theorem State.setSensor_therm (n : Nat) (v : Sensor) : (s.setSensor n v).therm = s.therm := rfl
@[simp] theorem State.setSensor_pin (n : Nat) (v : Sensor) : (s.setSensor n v).pin = s.pin := rfl
@[simp] theorem State.setSensor_bist (n : Nat) (v : Sensor) : (s.setSensor n v).bist = s.bist := rfl
@[simp] theorem State.setSensor_otp (n : Nat) (v : Sensor) : (s.setSensor n v).otp = s.otp := rfl
@[simp] theorem State.setSensor_sb (n : Nat) (v : Sensor) : (s.setSensor n v).sb = s.sb := rfl
@[simp] theorem State.setSensor_pending (n : Nat) (v : Sensor) : (s.setSensor n v).pending = s.pending := rfl
@[simp] theorem State.setSensor_rd (n : Nat) (v : Sensor) (g : Fld) : (s.setSensor n v).rd g = s.rd g := rfl
@[simp] theorem State.setSensor_on (n : Nat) (v : Sensor) (g : Fld) : (s.setSensor n v).on g = s.on g := rfl
@[simp] theorem State.setSensor_page (n : Nat) (v : Sensor) (i : Nat) : (s.setSensor n v).page i = s.page i := rfl
@[simp] theorem State.setSensor_pc (n : Nat) (v : Sensor) (i : Nat) : (s.setSensor n v).pc i = s.pc i := rfl
@[simp] theorem State.setSensor_layer (n : Nat) (v : Sensor) (i : Nat) : (s.setSensor n v).layer i = s.layer i := rfl
@[simp] theorem State.setSensor_eng (n : Nat) (v : Sensor) (i : Nat) : (s.setSensor n v).eng i = s.eng i := rfl
@[simp] theorem State.setSensor_quire (n : Nat) (v : Sensor) (i : Nat) : (s.setSensor n v).quire i = s.quire i := rfl
@[simp] theorem State.setSensor_key (n : Nat) (v : Sensor) (i : Nat) : (s.setSensor n v).key i = s.key i := rfl
@[simp] theorem State.setSensor_rights (n : Nat) (v : Sensor) (i : Nat) : (s.setSensor n v).rights i = s.rights i := rfl
@[simp] theorem State.setSensor_range (n : Nat) (v : Sensor) (i : Nat) : (s.setSensor n v).range i = s.range i := rfl
@[simp] theorem State.setSensor_pair (n : Nat) (v : Sensor) (i : Nat) : (s.setSensor n v).pair i = s.pair i := rfl
@[simp] theorem State.setSensor_port (n : Nat) (v : Sensor) (i : Nat) : (s.setSensor n v).port i = s.port i := rfl
@[simp] theorem State.setSensor_ld (n : Nat) (v : Sensor) (i : Nat) : (s.setSensor n v).ld i = s.ld i := rfl
@[simp] theorem State.setSensor_lane (n : Nat) (v : Sensor) (i : Nat) : (s.setSensor n v).lane i = s.lane i := rfl
@[simp] theorem State.setSensor_xing (n : Nat) (v : Sensor) (i : Nat) : (s.setSensor n v).xing i = s.xing i := rfl
@[simp] theorem State.setSensor_domain (n : Nat) (v : Sensor) (i : Nat) : (s.setSensor n v).domain i = s.domain i := rfl
@[simp] theorem State.setSensor_cal (n : Nat) (v : Sensor) (i : Nat) : (s.setSensor n v).cal i = s.cal i := rfl
@[simp] theorem State.setSensor_heat (n : Nat) (v : Sensor) (i : Nat) : (s.setSensor n v).heat i = s.heat i := rfl
@[simp] theorem State.setSensor_tip (n : Nat) (v : Sensor) (i : Nat) : (s.setSensor n v).tip i = s.tip i := rfl
@[simp] theorem State.setSensor_line (n : Nat) (v : Sensor) (i : Nat) : (s.setSensor n v).line i = s.line i := rfl
@[simp] theorem State.setHeat_flds (n : Nat) (v : LayerTherm) : (s.setHeat n v).flds = s.flds := rfl
@[simp] theorem State.setHeat_now (n : Nat) (v : LayerTherm) : (s.setHeat n v).now = s.now := rfl
@[simp] theorem State.setHeat_free (n : Nat) (v : LayerTherm) : (s.setHeat n v).free = s.free := rfl
@[simp] theorem State.setHeat_out (n : Nat) (v : LayerTherm) : (s.setHeat n v).out = s.out := rfl
@[simp] theorem State.setHeat_pages (n : Nat) (v : LayerTherm) : (s.setHeat n v).pages = s.pages := rfl
@[simp] theorem State.setHeat_transit (n : Nat) (v : LayerTherm) : (s.setHeat n v).transit = s.transit := rfl
@[simp] theorem State.setHeat_nextReq (n : Nat) (v : LayerTherm) : (s.setHeat n v).nextReq = s.nextReq := rfl
@[simp] theorem State.setHeat_stalled (n : Nat) (v : LayerTherm) : (s.setHeat n v).stalled = s.stalled := rfl
@[simp] theorem State.setHeat_pcs (n : Nat) (v : LayerTherm) : (s.setHeat n v).pcs = s.pcs := rfl
@[simp] theorem State.setHeat_layers (n : Nat) (v : LayerTherm) : (s.setHeat n v).layers = s.layers := rfl
@[simp] theorem State.setHeat_lines (n : Nat) (v : LayerTherm) : (s.setHeat n v).lines = s.lines := rfl
@[simp] theorem State.setHeat_kerf (n : Nat) (v : LayerTherm) : (s.setHeat n v).kerf = s.kerf := rfl
@[simp] theorem State.setHeat_repair (n : Nat) (v : LayerTherm) : (s.setHeat n v).repair = s.repair := rfl
@[simp] theorem State.setHeat_recoveries (n : Nat) (v : LayerTherm) : (s.setHeat n v).recoveries = s.recoveries := rfl
@[simp] theorem State.setHeat_folio (n : Nat) (v : LayerTherm) : (s.setHeat n v).folio = s.folio := rfl
@[simp] theorem State.setHeat_bank (n : Nat) (v : LayerTherm) : (s.setHeat n v).bank = s.bank := rfl
@[simp] theorem State.setHeat_crypto (n : Nat) (v : LayerTherm) : (s.setHeat n v).crypto = s.crypto := rfl
@[simp] theorem State.setHeat_gauge (n : Nat) (v : LayerTherm) : (s.setHeat n v).gauge = s.gauge := rfl
@[simp] theorem State.setHeat_chisel (n : Nat) (v : LayerTherm) : (s.setHeat n v).chisel = s.chisel := rfl
@[simp] theorem State.setHeat_dove (n : Nat) (v : LayerTherm) : (s.setHeat n v).dove = s.dove := rfl
@[simp] theorem State.setHeat_ports (n : Nat) (v : LayerTherm) : (s.setHeat n v).ports = s.ports := rfl
@[simp] theorem State.setHeat_lds (n : Nat) (v : LayerTherm) : (s.setHeat n v).lds = s.lds := rfl
@[simp] theorem State.setHeat_mbox (n : Nat) (v : LayerTherm) : (s.setHeat n v).mbox = s.mbox := rfl
@[simp] theorem State.setHeat_lanes (n : Nat) (v : LayerTherm) : (s.setHeat n v).lanes = s.lanes := rfl
@[simp] theorem State.setHeat_spline (n : Nat) (v : LayerTherm) : (s.setHeat n v).spline = s.spline := rfl
@[simp] theorem State.setHeat_clk (n : Nat) (v : LayerTherm) : (s.setHeat n v).clk = s.clk := rfl
@[simp] theorem State.setHeat_domains (n : Nat) (v : LayerTherm) : (s.setHeat n v).domains = s.domains := rfl
@[simp] theorem State.setHeat_sys (n : Nat) (v : LayerTherm) : (s.setHeat n v).sys = s.sys := rfl
@[simp] theorem State.setHeat_cals (n : Nat) (v : LayerTherm) : (s.setHeat n v).cals = s.cals := rfl
@[simp] theorem State.setHeat_sensors (n : Nat) (v : LayerTherm) : (s.setHeat n v).sensors = s.sensors := rfl
@[simp] theorem State.setHeat_pin (n : Nat) (v : LayerTherm) : (s.setHeat n v).pin = s.pin := rfl
@[simp] theorem State.setHeat_bist (n : Nat) (v : LayerTherm) : (s.setHeat n v).bist = s.bist := rfl
@[simp] theorem State.setHeat_otp (n : Nat) (v : LayerTherm) : (s.setHeat n v).otp = s.otp := rfl
@[simp] theorem State.setHeat_sb (n : Nat) (v : LayerTherm) : (s.setHeat n v).sb = s.sb := rfl
@[simp] theorem State.setHeat_pending (n : Nat) (v : LayerTherm) : (s.setHeat n v).pending = s.pending := rfl
@[simp] theorem State.setHeat_rd (n : Nat) (v : LayerTherm) (g : Fld) : (s.setHeat n v).rd g = s.rd g := rfl
@[simp] theorem State.setHeat_on (n : Nat) (v : LayerTherm) (g : Fld) : (s.setHeat n v).on g = s.on g := rfl
@[simp] theorem State.setHeat_page (n : Nat) (v : LayerTherm) (i : Nat) : (s.setHeat n v).page i = s.page i := rfl
@[simp] theorem State.setHeat_pc (n : Nat) (v : LayerTherm) (i : Nat) : (s.setHeat n v).pc i = s.pc i := rfl
@[simp] theorem State.setHeat_layer (n : Nat) (v : LayerTherm) (i : Nat) : (s.setHeat n v).layer i = s.layer i := rfl
@[simp] theorem State.setHeat_eng (n : Nat) (v : LayerTherm) (i : Nat) : (s.setHeat n v).eng i = s.eng i := rfl
@[simp] theorem State.setHeat_quire (n : Nat) (v : LayerTherm) (i : Nat) : (s.setHeat n v).quire i = s.quire i := rfl
@[simp] theorem State.setHeat_key (n : Nat) (v : LayerTherm) (i : Nat) : (s.setHeat n v).key i = s.key i := rfl
@[simp] theorem State.setHeat_rights (n : Nat) (v : LayerTherm) (i : Nat) : (s.setHeat n v).rights i = s.rights i := rfl
@[simp] theorem State.setHeat_range (n : Nat) (v : LayerTherm) (i : Nat) : (s.setHeat n v).range i = s.range i := rfl
@[simp] theorem State.setHeat_pair (n : Nat) (v : LayerTherm) (i : Nat) : (s.setHeat n v).pair i = s.pair i := rfl
@[simp] theorem State.setHeat_port (n : Nat) (v : LayerTherm) (i : Nat) : (s.setHeat n v).port i = s.port i := rfl
@[simp] theorem State.setHeat_ld (n : Nat) (v : LayerTherm) (i : Nat) : (s.setHeat n v).ld i = s.ld i := rfl
@[simp] theorem State.setHeat_lane (n : Nat) (v : LayerTherm) (i : Nat) : (s.setHeat n v).lane i = s.lane i := rfl
@[simp] theorem State.setHeat_xing (n : Nat) (v : LayerTherm) (i : Nat) : (s.setHeat n v).xing i = s.xing i := rfl
@[simp] theorem State.setHeat_domain (n : Nat) (v : LayerTherm) (i : Nat) : (s.setHeat n v).domain i = s.domain i := rfl
@[simp] theorem State.setHeat_cal (n : Nat) (v : LayerTherm) (i : Nat) : (s.setHeat n v).cal i = s.cal i := rfl
@[simp] theorem State.setHeat_sensor (n : Nat) (v : LayerTherm) (i : Nat) : (s.setHeat n v).sensor i = s.sensor i := rfl
@[simp] theorem State.setHeat_tip (n : Nat) (v : LayerTherm) (i : Nat) : (s.setHeat n v).tip i = s.tip i := rfl
@[simp] theorem State.setHeat_line (n : Nat) (v : LayerTherm) (i : Nat) : (s.setHeat n v).line i = s.line i := rfl
@[simp] theorem State.setTip_flds (n : Nat) (v : TipEntry) : (s.setTip n v).flds = s.flds := rfl
@[simp] theorem State.setTip_now (n : Nat) (v : TipEntry) : (s.setTip n v).now = s.now := rfl
@[simp] theorem State.setTip_free (n : Nat) (v : TipEntry) : (s.setTip n v).free = s.free := rfl
@[simp] theorem State.setTip_out (n : Nat) (v : TipEntry) : (s.setTip n v).out = s.out := rfl
@[simp] theorem State.setTip_pages (n : Nat) (v : TipEntry) : (s.setTip n v).pages = s.pages := rfl
@[simp] theorem State.setTip_transit (n : Nat) (v : TipEntry) : (s.setTip n v).transit = s.transit := rfl
@[simp] theorem State.setTip_nextReq (n : Nat) (v : TipEntry) : (s.setTip n v).nextReq = s.nextReq := rfl
@[simp] theorem State.setTip_stalled (n : Nat) (v : TipEntry) : (s.setTip n v).stalled = s.stalled := rfl
@[simp] theorem State.setTip_pcs (n : Nat) (v : TipEntry) : (s.setTip n v).pcs = s.pcs := rfl
@[simp] theorem State.setTip_layers (n : Nat) (v : TipEntry) : (s.setTip n v).layers = s.layers := rfl
@[simp] theorem State.setTip_lines (n : Nat) (v : TipEntry) : (s.setTip n v).lines = s.lines := rfl
@[simp] theorem State.setTip_kerf (n : Nat) (v : TipEntry) : (s.setTip n v).kerf = s.kerf := rfl
@[simp] theorem State.setTip_recoveries (n : Nat) (v : TipEntry) : (s.setTip n v).recoveries = s.recoveries := rfl
@[simp] theorem State.setTip_folio (n : Nat) (v : TipEntry) : (s.setTip n v).folio = s.folio := rfl
@[simp] theorem State.setTip_bank (n : Nat) (v : TipEntry) : (s.setTip n v).bank = s.bank := rfl
@[simp] theorem State.setTip_crypto (n : Nat) (v : TipEntry) : (s.setTip n v).crypto = s.crypto := rfl
@[simp] theorem State.setTip_gauge (n : Nat) (v : TipEntry) : (s.setTip n v).gauge = s.gauge := rfl
@[simp] theorem State.setTip_chisel (n : Nat) (v : TipEntry) : (s.setTip n v).chisel = s.chisel := rfl
@[simp] theorem State.setTip_dove (n : Nat) (v : TipEntry) : (s.setTip n v).dove = s.dove := rfl
@[simp] theorem State.setTip_ports (n : Nat) (v : TipEntry) : (s.setTip n v).ports = s.ports := rfl
@[simp] theorem State.setTip_lds (n : Nat) (v : TipEntry) : (s.setTip n v).lds = s.lds := rfl
@[simp] theorem State.setTip_mbox (n : Nat) (v : TipEntry) : (s.setTip n v).mbox = s.mbox := rfl
@[simp] theorem State.setTip_lanes (n : Nat) (v : TipEntry) : (s.setTip n v).lanes = s.lanes := rfl
@[simp] theorem State.setTip_spline (n : Nat) (v : TipEntry) : (s.setTip n v).spline = s.spline := rfl
@[simp] theorem State.setTip_clk (n : Nat) (v : TipEntry) : (s.setTip n v).clk = s.clk := rfl
@[simp] theorem State.setTip_domains (n : Nat) (v : TipEntry) : (s.setTip n v).domains = s.domains := rfl
@[simp] theorem State.setTip_sys (n : Nat) (v : TipEntry) : (s.setTip n v).sys = s.sys := rfl
@[simp] theorem State.setTip_cals (n : Nat) (v : TipEntry) : (s.setTip n v).cals = s.cals := rfl
@[simp] theorem State.setTip_sensors (n : Nat) (v : TipEntry) : (s.setTip n v).sensors = s.sensors := rfl
@[simp] theorem State.setTip_therm (n : Nat) (v : TipEntry) : (s.setTip n v).therm = s.therm := rfl
@[simp] theorem State.setTip_pin (n : Nat) (v : TipEntry) : (s.setTip n v).pin = s.pin := rfl
@[simp] theorem State.setTip_bist (n : Nat) (v : TipEntry) : (s.setTip n v).bist = s.bist := rfl
@[simp] theorem State.setTip_otp (n : Nat) (v : TipEntry) : (s.setTip n v).otp = s.otp := rfl
@[simp] theorem State.setTip_sb (n : Nat) (v : TipEntry) : (s.setTip n v).sb = s.sb := rfl
@[simp] theorem State.setTip_pending (n : Nat) (v : TipEntry) : (s.setTip n v).pending = s.pending := rfl
@[simp] theorem State.setTip_rd (n : Nat) (v : TipEntry) (g : Fld) : (s.setTip n v).rd g = s.rd g := rfl
@[simp] theorem State.setTip_on (n : Nat) (v : TipEntry) (g : Fld) : (s.setTip n v).on g = s.on g := rfl
@[simp] theorem State.setTip_page (n : Nat) (v : TipEntry) (i : Nat) : (s.setTip n v).page i = s.page i := rfl
@[simp] theorem State.setTip_pc (n : Nat) (v : TipEntry) (i : Nat) : (s.setTip n v).pc i = s.pc i := rfl
@[simp] theorem State.setTip_layer (n : Nat) (v : TipEntry) (i : Nat) : (s.setTip n v).layer i = s.layer i := rfl
@[simp] theorem State.setTip_eng (n : Nat) (v : TipEntry) (i : Nat) : (s.setTip n v).eng i = s.eng i := rfl
@[simp] theorem State.setTip_quire (n : Nat) (v : TipEntry) (i : Nat) : (s.setTip n v).quire i = s.quire i := rfl
@[simp] theorem State.setTip_key (n : Nat) (v : TipEntry) (i : Nat) : (s.setTip n v).key i = s.key i := rfl
@[simp] theorem State.setTip_rights (n : Nat) (v : TipEntry) (i : Nat) : (s.setTip n v).rights i = s.rights i := rfl
@[simp] theorem State.setTip_range (n : Nat) (v : TipEntry) (i : Nat) : (s.setTip n v).range i = s.range i := rfl
@[simp] theorem State.setTip_pair (n : Nat) (v : TipEntry) (i : Nat) : (s.setTip n v).pair i = s.pair i := rfl
@[simp] theorem State.setTip_port (n : Nat) (v : TipEntry) (i : Nat) : (s.setTip n v).port i = s.port i := rfl
@[simp] theorem State.setTip_ld (n : Nat) (v : TipEntry) (i : Nat) : (s.setTip n v).ld i = s.ld i := rfl
@[simp] theorem State.setTip_lane (n : Nat) (v : TipEntry) (i : Nat) : (s.setTip n v).lane i = s.lane i := rfl
@[simp] theorem State.setTip_xing (n : Nat) (v : TipEntry) (i : Nat) : (s.setTip n v).xing i = s.xing i := rfl
@[simp] theorem State.setTip_domain (n : Nat) (v : TipEntry) (i : Nat) : (s.setTip n v).domain i = s.domain i := rfl
@[simp] theorem State.setTip_cal (n : Nat) (v : TipEntry) (i : Nat) : (s.setTip n v).cal i = s.cal i := rfl
@[simp] theorem State.setTip_sensor (n : Nat) (v : TipEntry) (i : Nat) : (s.setTip n v).sensor i = s.sensor i := rfl
@[simp] theorem State.setTip_heat (n : Nat) (v : TipEntry) (i : Nat) : (s.setTip n v).heat i = s.heat i := rfl
@[simp] theorem State.setTip_line (n : Nat) (v : TipEntry) (i : Nat) : (s.setTip n v).line i = s.line i := rfl
@[simp] theorem State.setLine_flds (n : Nat) (v : StoredLine) : (s.setLine n v).flds = s.flds := rfl
@[simp] theorem State.setLine_now (n : Nat) (v : StoredLine) : (s.setLine n v).now = s.now := rfl
@[simp] theorem State.setLine_free (n : Nat) (v : StoredLine) : (s.setLine n v).free = s.free := rfl
@[simp] theorem State.setLine_out (n : Nat) (v : StoredLine) : (s.setLine n v).out = s.out := rfl
@[simp] theorem State.setLine_pages (n : Nat) (v : StoredLine) : (s.setLine n v).pages = s.pages := rfl
@[simp] theorem State.setLine_transit (n : Nat) (v : StoredLine) : (s.setLine n v).transit = s.transit := rfl
@[simp] theorem State.setLine_nextReq (n : Nat) (v : StoredLine) : (s.setLine n v).nextReq = s.nextReq := rfl
@[simp] theorem State.setLine_stalled (n : Nat) (v : StoredLine) : (s.setLine n v).stalled = s.stalled := rfl
@[simp] theorem State.setLine_pcs (n : Nat) (v : StoredLine) : (s.setLine n v).pcs = s.pcs := rfl
@[simp] theorem State.setLine_layers (n : Nat) (v : StoredLine) : (s.setLine n v).layers = s.layers := rfl
@[simp] theorem State.setLine_kerf (n : Nat) (v : StoredLine) : (s.setLine n v).kerf = s.kerf := rfl
@[simp] theorem State.setLine_repair (n : Nat) (v : StoredLine) : (s.setLine n v).repair = s.repair := rfl
@[simp] theorem State.setLine_recoveries (n : Nat) (v : StoredLine) : (s.setLine n v).recoveries = s.recoveries := rfl
@[simp] theorem State.setLine_folio (n : Nat) (v : StoredLine) : (s.setLine n v).folio = s.folio := rfl
@[simp] theorem State.setLine_bank (n : Nat) (v : StoredLine) : (s.setLine n v).bank = s.bank := rfl
@[simp] theorem State.setLine_crypto (n : Nat) (v : StoredLine) : (s.setLine n v).crypto = s.crypto := rfl
@[simp] theorem State.setLine_gauge (n : Nat) (v : StoredLine) : (s.setLine n v).gauge = s.gauge := rfl
@[simp] theorem State.setLine_chisel (n : Nat) (v : StoredLine) : (s.setLine n v).chisel = s.chisel := rfl
@[simp] theorem State.setLine_dove (n : Nat) (v : StoredLine) : (s.setLine n v).dove = s.dove := rfl
@[simp] theorem State.setLine_ports (n : Nat) (v : StoredLine) : (s.setLine n v).ports = s.ports := rfl
@[simp] theorem State.setLine_lds (n : Nat) (v : StoredLine) : (s.setLine n v).lds = s.lds := rfl
@[simp] theorem State.setLine_mbox (n : Nat) (v : StoredLine) : (s.setLine n v).mbox = s.mbox := rfl
@[simp] theorem State.setLine_lanes (n : Nat) (v : StoredLine) : (s.setLine n v).lanes = s.lanes := rfl
@[simp] theorem State.setLine_spline (n : Nat) (v : StoredLine) : (s.setLine n v).spline = s.spline := rfl
@[simp] theorem State.setLine_clk (n : Nat) (v : StoredLine) : (s.setLine n v).clk = s.clk := rfl
@[simp] theorem State.setLine_domains (n : Nat) (v : StoredLine) : (s.setLine n v).domains = s.domains := rfl
@[simp] theorem State.setLine_sys (n : Nat) (v : StoredLine) : (s.setLine n v).sys = s.sys := rfl
@[simp] theorem State.setLine_cals (n : Nat) (v : StoredLine) : (s.setLine n v).cals = s.cals := rfl
@[simp] theorem State.setLine_sensors (n : Nat) (v : StoredLine) : (s.setLine n v).sensors = s.sensors := rfl
@[simp] theorem State.setLine_therm (n : Nat) (v : StoredLine) : (s.setLine n v).therm = s.therm := rfl
@[simp] theorem State.setLine_pin (n : Nat) (v : StoredLine) : (s.setLine n v).pin = s.pin := rfl
@[simp] theorem State.setLine_bist (n : Nat) (v : StoredLine) : (s.setLine n v).bist = s.bist := rfl
@[simp] theorem State.setLine_otp (n : Nat) (v : StoredLine) : (s.setLine n v).otp = s.otp := rfl
@[simp] theorem State.setLine_sb (n : Nat) (v : StoredLine) : (s.setLine n v).sb = s.sb := rfl
@[simp] theorem State.setLine_pending (n : Nat) (v : StoredLine) : (s.setLine n v).pending = s.pending := rfl
@[simp] theorem State.setLine_rd (n : Nat) (v : StoredLine) (g : Fld) : (s.setLine n v).rd g = s.rd g := rfl
@[simp] theorem State.setLine_on (n : Nat) (v : StoredLine) (g : Fld) : (s.setLine n v).on g = s.on g := rfl
@[simp] theorem State.setLine_page (n : Nat) (v : StoredLine) (i : Nat) : (s.setLine n v).page i = s.page i := rfl
@[simp] theorem State.setLine_pc (n : Nat) (v : StoredLine) (i : Nat) : (s.setLine n v).pc i = s.pc i := rfl
@[simp] theorem State.setLine_layer (n : Nat) (v : StoredLine) (i : Nat) : (s.setLine n v).layer i = s.layer i := rfl
@[simp] theorem State.setLine_eng (n : Nat) (v : StoredLine) (i : Nat) : (s.setLine n v).eng i = s.eng i := rfl
@[simp] theorem State.setLine_quire (n : Nat) (v : StoredLine) (i : Nat) : (s.setLine n v).quire i = s.quire i := rfl
@[simp] theorem State.setLine_key (n : Nat) (v : StoredLine) (i : Nat) : (s.setLine n v).key i = s.key i := rfl
@[simp] theorem State.setLine_rights (n : Nat) (v : StoredLine) (i : Nat) : (s.setLine n v).rights i = s.rights i := rfl
@[simp] theorem State.setLine_range (n : Nat) (v : StoredLine) (i : Nat) : (s.setLine n v).range i = s.range i := rfl
@[simp] theorem State.setLine_pair (n : Nat) (v : StoredLine) (i : Nat) : (s.setLine n v).pair i = s.pair i := rfl
@[simp] theorem State.setLine_port (n : Nat) (v : StoredLine) (i : Nat) : (s.setLine n v).port i = s.port i := rfl
@[simp] theorem State.setLine_ld (n : Nat) (v : StoredLine) (i : Nat) : (s.setLine n v).ld i = s.ld i := rfl
@[simp] theorem State.setLine_lane (n : Nat) (v : StoredLine) (i : Nat) : (s.setLine n v).lane i = s.lane i := rfl
@[simp] theorem State.setLine_xing (n : Nat) (v : StoredLine) (i : Nat) : (s.setLine n v).xing i = s.xing i := rfl
@[simp] theorem State.setLine_domain (n : Nat) (v : StoredLine) (i : Nat) : (s.setLine n v).domain i = s.domain i := rfl
@[simp] theorem State.setLine_cal (n : Nat) (v : StoredLine) (i : Nat) : (s.setLine n v).cal i = s.cal i := rfl
@[simp] theorem State.setLine_sensor (n : Nat) (v : StoredLine) (i : Nat) : (s.setLine n v).sensor i = s.sensor i := rfl
@[simp] theorem State.setLine_heat (n : Nat) (v : StoredLine) (i : Nat) : (s.setLine n v).heat i = s.heat i := rfl
@[simp] theorem State.setLine_tip (n : Nat) (v : StoredLine) (i : Nat) : (s.setLine n v).tip i = s.tip i := rfl
@[simp] theorem State.clearLines_flds (lo hi : Nat) : (s.clearLines lo hi).flds = s.flds := rfl
@[simp] theorem State.clearLines_now (lo hi : Nat) : (s.clearLines lo hi).now = s.now := rfl
@[simp] theorem State.clearLines_free (lo hi : Nat) : (s.clearLines lo hi).free = s.free := rfl
@[simp] theorem State.clearLines_out (lo hi : Nat) : (s.clearLines lo hi).out = s.out := rfl
@[simp] theorem State.clearLines_pages (lo hi : Nat) : (s.clearLines lo hi).pages = s.pages := rfl
@[simp] theorem State.clearLines_transit (lo hi : Nat) : (s.clearLines lo hi).transit = s.transit := rfl
@[simp] theorem State.clearLines_nextReq (lo hi : Nat) : (s.clearLines lo hi).nextReq = s.nextReq := rfl
@[simp] theorem State.clearLines_stalled (lo hi : Nat) : (s.clearLines lo hi).stalled = s.stalled := rfl
@[simp] theorem State.clearLines_pcs (lo hi : Nat) : (s.clearLines lo hi).pcs = s.pcs := rfl
@[simp] theorem State.clearLines_layers (lo hi : Nat) : (s.clearLines lo hi).layers = s.layers := rfl
@[simp] theorem State.clearLines_kerf (lo hi : Nat) : (s.clearLines lo hi).kerf = s.kerf := rfl
@[simp] theorem State.clearLines_repair (lo hi : Nat) : (s.clearLines lo hi).repair = s.repair := rfl
@[simp] theorem State.clearLines_recoveries (lo hi : Nat) : (s.clearLines lo hi).recoveries = s.recoveries := rfl
@[simp] theorem State.clearLines_folio (lo hi : Nat) : (s.clearLines lo hi).folio = s.folio := rfl
@[simp] theorem State.clearLines_bank (lo hi : Nat) : (s.clearLines lo hi).bank = s.bank := rfl
@[simp] theorem State.clearLines_crypto (lo hi : Nat) : (s.clearLines lo hi).crypto = s.crypto := rfl
@[simp] theorem State.clearLines_gauge (lo hi : Nat) : (s.clearLines lo hi).gauge = s.gauge := rfl
@[simp] theorem State.clearLines_chisel (lo hi : Nat) : (s.clearLines lo hi).chisel = s.chisel := rfl
@[simp] theorem State.clearLines_dove (lo hi : Nat) : (s.clearLines lo hi).dove = s.dove := rfl
@[simp] theorem State.clearLines_ports (lo hi : Nat) : (s.clearLines lo hi).ports = s.ports := rfl
@[simp] theorem State.clearLines_lds (lo hi : Nat) : (s.clearLines lo hi).lds = s.lds := rfl
@[simp] theorem State.clearLines_mbox (lo hi : Nat) : (s.clearLines lo hi).mbox = s.mbox := rfl
@[simp] theorem State.clearLines_lanes (lo hi : Nat) : (s.clearLines lo hi).lanes = s.lanes := rfl
@[simp] theorem State.clearLines_spline (lo hi : Nat) : (s.clearLines lo hi).spline = s.spline := rfl
@[simp] theorem State.clearLines_clk (lo hi : Nat) : (s.clearLines lo hi).clk = s.clk := rfl
@[simp] theorem State.clearLines_domains (lo hi : Nat) : (s.clearLines lo hi).domains = s.domains := rfl
@[simp] theorem State.clearLines_sys (lo hi : Nat) : (s.clearLines lo hi).sys = s.sys := rfl
@[simp] theorem State.clearLines_cals (lo hi : Nat) : (s.clearLines lo hi).cals = s.cals := rfl
@[simp] theorem State.clearLines_sensors (lo hi : Nat) : (s.clearLines lo hi).sensors = s.sensors := rfl
@[simp] theorem State.clearLines_therm (lo hi : Nat) : (s.clearLines lo hi).therm = s.therm := rfl
@[simp] theorem State.clearLines_pin (lo hi : Nat) : (s.clearLines lo hi).pin = s.pin := rfl
@[simp] theorem State.clearLines_bist (lo hi : Nat) : (s.clearLines lo hi).bist = s.bist := rfl
@[simp] theorem State.clearLines_otp (lo hi : Nat) : (s.clearLines lo hi).otp = s.otp := rfl
@[simp] theorem State.clearLines_sb (lo hi : Nat) : (s.clearLines lo hi).sb = s.sb := rfl
@[simp] theorem State.clearLines_pending (lo hi : Nat) : (s.clearLines lo hi).pending = s.pending := rfl
@[simp] theorem State.clearLines_rd (lo hi : Nat) (g : Fld) : (s.clearLines lo hi).rd g = s.rd g := rfl
@[simp] theorem State.clearLines_on (lo hi : Nat) (g : Fld) : (s.clearLines lo hi).on g = s.on g := rfl
@[simp] theorem State.clearLines_page (lo hi : Nat) (i : Nat) : (s.clearLines lo hi).page i = s.page i := rfl
@[simp] theorem State.clearLines_pc (lo hi : Nat) (i : Nat) : (s.clearLines lo hi).pc i = s.pc i := rfl
@[simp] theorem State.clearLines_layer (lo hi : Nat) (i : Nat) : (s.clearLines lo hi).layer i = s.layer i := rfl
@[simp] theorem State.clearLines_eng (lo hi : Nat) (i : Nat) : (s.clearLines lo hi).eng i = s.eng i := rfl
@[simp] theorem State.clearLines_quire (lo hi : Nat) (i : Nat) : (s.clearLines lo hi).quire i = s.quire i := rfl
@[simp] theorem State.clearLines_key (lo hi : Nat) (i : Nat) : (s.clearLines lo hi).key i = s.key i := rfl
@[simp] theorem State.clearLines_rights (lo hi : Nat) (i : Nat) : (s.clearLines lo hi).rights i = s.rights i := rfl
@[simp] theorem State.clearLines_range (lo hi : Nat) (i : Nat) : (s.clearLines lo hi).range i = s.range i := rfl
@[simp] theorem State.clearLines_pair (lo hi : Nat) (i : Nat) : (s.clearLines lo hi).pair i = s.pair i := rfl
@[simp] theorem State.clearLines_port (lo hi : Nat) (i : Nat) : (s.clearLines lo hi).port i = s.port i := rfl
@[simp] theorem State.clearLines_ld (lo hi : Nat) (i : Nat) : (s.clearLines lo hi).ld i = s.ld i := rfl
@[simp] theorem State.clearLines_lane (lo hi : Nat) (i : Nat) : (s.clearLines lo hi).lane i = s.lane i := rfl
@[simp] theorem State.clearLines_xing (lo hi : Nat) (i : Nat) : (s.clearLines lo hi).xing i = s.xing i := rfl
@[simp] theorem State.clearLines_domain (lo hi : Nat) (i : Nat) : (s.clearLines lo hi).domain i = s.domain i := rfl
@[simp] theorem State.clearLines_cal (lo hi : Nat) (i : Nat) : (s.clearLines lo hi).cal i = s.cal i := rfl
@[simp] theorem State.clearLines_sensor (lo hi : Nat) (i : Nat) : (s.clearLines lo hi).sensor i = s.sensor i := rfl
@[simp] theorem State.clearLines_heat (lo hi : Nat) (i : Nat) : (s.clearLines lo hi).heat i = s.heat i := rfl
@[simp] theorem State.clearLines_tip (lo hi : Nat) (i : Nat) : (s.clearLines lo hi).tip i = s.tip i := rfl
@[simp] theorem State.setKey_rights (n : Nat) (v : KeySlot) (i : Nat) : (s.setKey n v).rights i = s.rights i := rfl
@[simp] theorem State.setKey_range (n : Nat) (v : KeySlot) (i : Nat) : (s.setKey n v).range i = s.range i := rfl
@[simp] theorem State.setRights_key (n : Nat) (v : BitVec 256) (i : Nat) : (s.setRights n v).key i = s.key i := rfl
@[simp] theorem State.setRights_range (n : Nat) (v : BitVec 256) (i : Nat) : (s.setRights n v).range i = s.range i := rfl
@[simp] theorem State.setRange_key (n : Nat) (v : KeyRange) (i : Nat) : (s.setRange n v).key i = s.key i := rfl
@[simp] theorem State.setRange_rights (n : Nat) (v : KeyRange) (i : Nat) : (s.setRange n v).rights i = s.rights i := rfl

end Sys2Proof.Machine
end

