-- ==== Sys2Proof/Laws/Memory.lean ====
section
/-!
SUPPORT. The laws of the DRAM array and of the register file as memories: a line reads as it was last written, and every
operation keeps the canonical form of `memoryWf` and of `registersWf`.
-/

namespace Sys2Proof.Laws

open Sys2Proof Sys2Proof.Machine

variable {s t : State}

/-! ## Reading and writing a line -/

theorem line_setLine (a b : Nat) (l : StoredLine) :
    (s.setLine a l).line b = if b / 64 = a / 64 then l else s.line b := by
  simp only [State.line, State.setLine, Sparse.get_set]

theorem line_clearLines (lo hi a : Nat) :
    (s.clearLines lo hi).line a = if lo ≤ a / 64 ∧ a / 64 < hi then StoredLine.cleared else s.line a := by
  simp only [State.line, State.clearLines]
  generalize s.lines = m
  induction m with
  | nil => simp
  | cons e m ih =>
    obtain ⟨k, v⟩ := e
    by_cases hk : k < lo ∨ hi ≤ k
    · have : (decide (k < lo) || decide (hi ≤ k)) = true := by simpa using hk
      rw [List.filter_cons_of_pos (by simpa using this)]
      by_cases h : k = a / 64
      · subst h
        have : ¬(lo ≤ a / 64 ∧ a / 64 < hi) := by omega
        simp [Sparse.get, this]
      · simp only [Sparse.get, h, if_false]
        exact ih
    · have : ¬(decide (k < lo) || decide (hi ≤ k)) = true := by simpa using hk
      rw [List.filter_cons_of_neg (by simpa using this), ih]
      by_cases h : k = a / 64
      · subst h
        have : lo ≤ a / 64 ∧ a / 64 < hi := by omega
        simp [this]
      · simp [Sparse.get, h]

/-! ## The canonical form of the DRAM array -/

theorem reset_memoryWf : memoryWf State.reset = true := by simp [memoryWf, State.reset]

/-- The form depends on nothing but the listed lines. -/
theorem memoryWf_of_lines (h : t.lines = s.lines) (w : memoryWf s = true) : memoryWf t = true := by
  simpa [memoryWf, h] using w

theorem setLine_memoryWf (a : Nat) (l : StoredLine) (w : memoryWf s = true) : memoryWf (s.setLine a l) = true :=
  Sparse.wf_set _ _ w

theorem clearLines_memoryWf (lo hi : Nat) (w : memoryWf s = true) : memoryWf (s.clearLines lo hi) = true :=
  Sparse.wf_filter _ w

theorem replaceLines_memoryWf (lo hi : Nat) (new : Sparse StoredLine) (w : memoryWf s = true) :
    memoryWf (s.replaceLines lo hi new) = true := by
  have h : Sparse.wf (fun _ => StoredLine.cleared) (s.lines.filter fun e => decide (e.1 < lo) || decide (hi ≤ e.1)) = true :=
    Sparse.wf_filter _ w
  show Sparse.wf _ (new.foldl _ _) = true
  generalize (s.lines.filter fun e => decide (e.1 < lo) || decide (hi ≤ e.1)) = m at h
  induction new generalizing m with
  | nil => exact h
  | cons e new ih => exact ih _ (Sparse.wf_set _ _ h)

theorem forgetLines_memoryWf (lo hi : Nat) (w : memoryWf s = true) : memoryWf (s.forgetLines lo hi) = true := w

theorem clearSpan_memoryWf (lo hi : Nat) (w : memoryWf s = true) : memoryWf (s.clearSpan lo hi) = true :=
  forgetLines_memoryWf lo hi (clearLines_memoryWf lo hi w)

/-! ## The canonical form of the register file -/

/-- The form depends on nothing but the register file. -/
theorem registersWf_of_flds (h : t.flds = s.flds) (w : registersWf s = true) : registersWf t = true := by
  simpa [registersWf, h] using w

theorem wr_registersWf (f : Fld) (v : Nat) (w : registersWf s = true) : registersWf (s.wr f v) = true :=
  Sparse.wf_set _ _ w

theorem resetPage_registersWf (p : Nat) (keep : Nat → Bool) (w : registersWf s = true) :
    registersWf (s.resetPage p keep) = true := Sparse.wf_filter _ w

/-! ## What holds of every turn of a loop holds of the loop -/

theorem forAll_keeps {α : Type} {P : State → Prop} {f : State → α → State} (h : ∀ s a, P s → P (f s a)) (l : List α)
    (w : P s) : P (s.forAll l f) := by
  induction l generalizing s with
  | nil => exact w
  | cons a l ih => exact ih (h s a w)

end Sys2Proof.Laws
end

