-- ==== Sys2Proof/Laws/Flags.lean ====
section
/-!
SUPPORT. What an error, an interrupt cause, a message or a command register can do to the state: `Logged` says once which
components they reach and that the register file keeps its form; `command_takes` says when a command acts at once.
-/

namespace Sys2Proof.Laws

open Sys2Proof Sys2Proof.Machine

/-- From the first state to the second nothing has changed but registers, outputs, page states, ports, event logs, ERR_N
and the wakes of power domains, and the register file has kept its form. -/
structure Logged (s t : State) : Prop where
  frame : t = { s with flds := t.flds, out := t.out, pages := t.pages, ports := t.ports, lds := t.lds,
                       domains := t.domains, pin := t.pin }
  form : registersWf s = true → registersWf t = true

variable {s t u : State}

theorem Logged.refl (s : State) : Logged s s := ⟨rfl, id⟩

theorem Logged.trans (h : Logged s t) (k : Logged t u) : Logged s u :=
  ⟨by rw [k.frame, h.frame], fun w => k.form (h.form w)⟩

/-- Memory keeps its form, and memory, keys, the Folio and the life of the device are as they were. -/
theorem Logged.keepsData (h : Logged s t) : KeepsData s t := by
  rw [h.frame]
  exact ⟨rfl, rfl, rfl, rfl⟩

theorem Logged.memoryWf (h : Logged s t) (w : memoryWf s = true) : Sys2Proof.memoryWf t = true :=
  memoryWf_of_lines h.keepsData.1 w

theorem Logged.pending (h : Logged s t) : t.pending = s.pending := by rw [h.frame]

theorem logged_wr (f : Fld) (v : Nat) : Logged s (s.wr f v) := ⟨rfl, wr_registersWf f v⟩
theorem logged_emit (o : Out) : Logged s (s.emit o) := ⟨rfl, id⟩
theorem logged_setPage (p : Nat) (v : PageState) : Logged s (s.setPage p v) := ⟨rfl, id⟩
theorem logged_setPort (p : Nat) (v : PortState) : Logged s (s.setPort p v) := ⟨rfl, id⟩
theorem logged_setLd (m : Nat) (v : LdState) : Logged s (s.setLd m v) := ⟨rfl, id⟩
theorem logged_setDomain (d : Nat) (v : DomainState) : Logged s (s.setDomain d v) := ⟨rfl, id⟩
theorem logged_pin (p : PinState) : Logged s { s with pin := p } := ⟨rfl, id⟩

theorem Logged.wr (h : Logged s t) (f : Fld) (v : Nat) : Logged s (t.wr f v) := h.trans (logged_wr f v)

theorem logged_forAll {α : Type} {f : State → α → State} (h : ∀ s a, Logged s (f s a)) (l : List α) :
    Logged s (s.forAll l f) := by
  induction l generalizing s with
  | nil => exact Logged.refl s
  | cons a l ih => exact (h s a).trans ih

/-! ## Messages and interrupt causes -/

theorem logged_send (p : Nat) (o : Out) : Logged s (s.send p o) := by
  simp only [State.send]
  split
  · exact (logged_setPort p _).wr _ _
  · split
    · exact logged_setPort p _
    · exact logged_emit o

theorem logged_pageMsix : Logged s s.pageMsix := logged_forAll (fun _ _ => logged_send _ _) _

theorem logged_intOut (page bit : Nat) : Logged s (s.intOut page bit) := by
  simp only [State.intOut]
  split
  · exact logged_pageMsix
  · exact Logged.refl s

theorem logged_cause (page bit : Nat) : Logged s (s.cause page bit) := by
  simp only [State.cause]
  split
  · exact Logged.refl s
  · exact (logged_wr _ _).trans (logged_intOut page bit)

/-! ## ERR_N, WAKE_N and the event logs -/

theorem logged_errPulseStart (source : Nat) : Logged s (s.errPulseStart source) :=
  ((((((logged_wr _ _).wr _ _).wr _ _).wr _ _).wr _ _).trans (logged_pin _)).trans (logged_emit _)

theorem logged_errEvent (source : Nat) : Logged s (s.errEvent source) := by
  simp only [State.errEvent]
  split
  · exact Logged.refl s
  · split
    · exact logged_wr _ _
    · split
      · split
        · exact logged_wr _ _
        · exact (logged_pin _).wr _ _
      · exact logged_errPulseStart source

theorem logged_fixWake : Logged s s.fixWake := by
  simp only [State.fixWake]
  split
  · exact Logged.refl s
  · exact (logged_pin _).trans (logged_emit _)

theorem logged_wakeFor (port : Nat) : Logged s (s.wakeFor port) := by
  simp only [State.wakeFor]
  split
  · exact (logged_setPort _ _).trans logged_fixWake
  · exact Logged.refl s

theorem logged_enterLog (log : Nat) (r : EventRec) (m : Nat × Nat) : Logged s (s.enterLog log r m) := by
  simp only [State.enterLog]
  have h {u : State} (k : Logged s u) (b : Prop) [Decidable b] : Logged s (if b then u.wakeFor m.1 else u) := by
    split
    · exact k.trans (logged_wakeFor _)
    · exact k
  refine h ?_ _
  split
  · exact (logged_setLd _ _).trans (logged_send _ _)
  · split
    · exact (logged_setLd _ _).trans (logged_send _ _)
    · exact logged_setLd _ _

theorem logged_aerDue (severity : Nat) (l : List (Nat × Nat)) : Logged s (s.aerDue severity l) := by
  refine logged_forAll (fun s m => ?_) l
  simp only
  split
  · exact Logged.refl s
  · exact logged_setPort _ _

/-! ## Errors -/

theorem logged_report (e : Err) (r : Report) : Logged s (s.report e r) := by
  simp only [State.report]
  split
  · exact Logged.refl s
  · exact logged_forAll (fun _ _ => logged_enterLog _ _ _) _

theorem logged_captureFirst (e : Err) : Logged s (s.captureFirst e) := by
  simp only [State.captureFirst]
  split
  · exact logged_wr _ _
  · exact ((((((((((logged_wr _ _).wr _ _).wr _ _).wr _ _).wr _ _).wr _ _).wr _ _).wr _ _).wr _ _).wr _ _)

theorem logged_tally (e : Err) : Logged s (s.tally e) := by
  simp only [State.tally]
  split <;> exact (logged_wr _ _).wr _ _

theorem logged_firstFatal (page code : Nat) : Logged s (s.firstFatal page code) := by
  simp only [State.firstFatal]
  have h : Logged s ((s.bump ERRPIN_FATALS.count).cause 0x07 2) := (logged_wr _ _).trans (logged_cause _ _)
  split
  · exact h
  · exact ((((h.wr _ _).wr _ _).wr _ _).wr _ _).wr _ _

theorem logged_escalate (page code : Nat) : Logged s (s.escalate page code) := by
  simp only [State.escalate]
  split
  · split
    · exact logged_setPage _ _
    · exact Logged.refl s
  · split
    · exact (logged_wr _ _).trans (logged_setPage _ _)
    · exact Logged.refl s

theorem logged_startWake (d : Nat) : Logged s (s.startWake d) := ((logged_setDomain _ _).wr _ _).wr _ _

theorem logged_wakeTb : Logged s s.wakeTb := by
  simp only [State.wakeTb]
  split
  · exact logged_startWake 74
  · exact Logged.refl s

/-- Everything that recording an error can do (R509). -/
theorem logged_log (e : Err) : Logged s (s.log e) := by
  simp only [State.log]
  have h : ∀ b : Prop, [Decidable b] → Logged s
      (State.report (if b then ((s.wakeTb.tally e).captureFirst e).intOut e.page 0
        else (s.wakeTb.tally e).captureFirst e) e (codeReport e.code)) := by
    intro b _
    have k : Logged s ((s.wakeTb.tally e).captureFirst e) :=
      (logged_wakeTb.trans (logged_tally e)).trans (logged_captureFirst e)
    split
    · exact (k.trans (logged_intOut _ _)).trans (logged_report _ _)
    · exact k.trans (logged_report _ _)
  refine (h ((!s.intErr e.page && ((s.wakeTb.tally e).captureFirst e).intErr e.page) = true)).trans ?_
  generalize State.report _ e (codeReport e.code) = u
  split
  · split
    · exact logged_aerDue _ _
    · exact Logged.refl _
  · refine (logged_aerDue 2 (u.routed e.tied)).trans ?_
    split
    · exact logged_errEvent _
    · split
      · exact Logged.refl _
      · split
        · exact (logged_errEvent _).trans (logged_escalate _ _)
        · exact logged_escalate _ _
  · refine (((logged_firstFatal e.page e.code).trans (logged_aerDue 3 u.allBound)).trans (logged_errEvent 1)).trans ?_
    split
    · exact logged_escalate _ _
    · split
      · exact logged_wr _ _
      · exact Logged.refl _
    · exact Logged.refl _

theorem logged_err (page code addr : Nat) : Logged s (s.err page code addr) := logged_log _

theorem logged_errReq (page code dpa access master : Nat) : Logged s (s.errReq page code dpa access master) := logged_log _

/-! ## Command registers -/

theorem logged_deny (who : Accessor) (off : Nat) : Logged s (s.deny who off) := by
  unfold State.deny
  split
  · exact ((logged_wr _ _).trans (logged_cause _ _)).trans (logged_log _)
  · exact Logged.refl s

theorem logged_setDomainPages (d st : Nat) : Logged s (s.setDomainPages d st) := by
  refine logged_forAll (fun s p => ?_) _
  split
  · exact logged_wr _ _
  · exact Logged.refl s

theorem logged_runDomain (d : Nat) : Logged s (s.runDomain d) := by
  simp only [State.runDomain]
  split
  · exact Logged.refl s
  · have w : Logged s (s.wakeDomain d) := by
      simp only [State.wakeDomain]
      split
      · exact ((logged_startWake d).wr _ _).trans logged_wakeTb
      · exact Logged.refl s
    exact (((w.wr _ _).wr _ _).trans (logged_setDomain _ _)).trans (logged_setDomainPages _ _)

theorem logged_abortEntry (d : Nat) : Logged s (s.abortEntry d) := by
  simp only [State.abortEntry, State.setGate]
  exact ((((logged_setDomain _ _).trans (logged_wr _ _)).wr _ _).wr _ _).trans (logged_setDomain _ _)

theorem logged_wakePage (page : Nat) : Logged s (s.wakePage page) := by
  simp only [State.wakePage]
  split
  · exact logged_wakeTb
  · split
    · split
      · exact logged_abortEntry _
      · exact logged_runDomain _
    · exact Logged.refl s

/-- Everything that a command register can do, where its act is one of these effects. -/
theorem logged_command (who : Accessor) (page off : Nat) {act : State → State} (h : ∀ s, Logged s (act s)) :
    Logged s (s.command who page off act) := by
  simp only [State.command]
  split
  · exact Logged.refl s
  · split
    · exact logged_deny _ _
    · split
      · exact Logged.refl s
      · split
        · exact Logged.refl s
        · exact (logged_wakePage page).trans (h _)

/-- An awake page wakes nothing (R425). -/
theorem wakePage_awake {page : Nat} (h : awake s page = true) : s.wakePage page = s := by
  unfold awake at h
  unfold State.wakePage
  split
  · rename_i hp
    simp only [hp, if_true, decide_eq_true_eq] at h
    simp [State.wakeTb, h]
  · rename_i hp
    simp only [hp, if_false] at h
    cases hd : domainOf page with
    | none => rfl
    | some d =>
      simp only [hd, decide_eq_true_eq] at h
      have h3 : s.rd (PWR_DOM_STAT.state.ix d) ≠ 3 := by omega
      simp [State.runDomain, h, h3]

/-- A command register takes its write at once (R3, R321, R425, R451, R456, R519). -/
theorem command_takes {who : Accessor} {page : Nat} (h : takes s who page = true) (off : Nat) (act : State → State) :
    s.command who page off act = act s := by
  simp only [takes, State.regsOpen, Bool.and_eq_true, Bool.or_eq_true, Bool.not_eq_true', decide_eq_true_eq, ne_eq] at h
  obtain ⟨⟨⟨⟨⟨⟨h1, h2⟩, h3⟩, h4⟩, h5⟩, h6⟩, h9⟩ := h
  have h7 : ¬(s.sys.phase = .off ∨ s.sys.phase = .hold) := by tauto
  have h8 : (s.safe && page != 0x00 && page != 0x07) = false := by
    rcases h5 with (h5 | h5) | h5 <;> simp_all
  simp [State.command, h7, h3, h4, h8, h9, wakePage_awake h6]

end Sys2Proof.Laws
end

