-- ==== Sys2Proof/Tests/Slice0.lean ====
section
/-!
SUPPORT. Small tests. The first part shows, for every statement that has hypotheses, states and operands that meet them,
clause by clause. The second refuses an ill-formed command for each check of `Instr.wf`. The third checks worked examples
and tables of the spec, and single commands on small states.
-/

set_option Elab.async false

namespace Sys2Proof.Tests

open Sys2Proof Sys2Proof.Machine

/-! ## Small states and operands -/

/-- A state with register fields written. -/
def withRegs (s : State) (l : List (Fld × Nat)) : State := l.foldl (fun s e => s.wr e.1 e.2) s

/-- An active device with nothing under way. -/
def act : State :=
  withRegs { State.reset with sys := { State.reset.sys with phase := .active } } [(SYS_START_STAT.mem_active, 1)]

/-- The same with register fields set. -/
def regs (l : List (Fld × Nat)) : State := withRegs act l

/-- Port 0 has a link, with a bound logical device that holds every quire. -/
def hosted : State :=
  regs [(PHY_STAT.ltssm.port 0, 3), (PORT_LINK_STAT.mode.port 0, 2), (PORT_LD_CFG.bound.ld 0 0, 1),
    (PORT_LD_ALLOC_END.end_quire.ld 0 0, 131072)]

/-- The same, and the logical device has the admin bit. -/
def admin : State := withRegs hosted [(PORT_LD_CFG.admin.ld 0 0, 1)]

/-- A joined Dovetail pair. -/
def paired : State := regs [(DOVE_STAT.link, 3), (DOVE_STAT.pair, 1)]

/-- An endpoint with an EID on SMBus, whose management core runs. -/
def served : State := regs [(SB_STAT.mode, 1), (SB_STAT.eid, 9), (SB_STAT.core_ready, 1)]

/-- A word of the Spline to port C. -/
def word0 : SplineWord := { router := 3, port := 4, cls := 2, first := true, last := true }

/-- That word on its way from the edge attachment of router 0. -/
def send0 : SplineSend := { router := 0, rport := 5, off := false, plane := 1, held := none, word := word0 }

/-- A slot of quire 3 with nothing in it. -/
def slot3 : SlotData := { unit := 0, quire := 3, bsn := 1, key := 7, lines := [] }

/-- A request of a host. -/
def hreq : HostReq := { tag := 1, hpa := 0, ckid := none }

/-- A decoder that maps the whole array. -/
def span : Decoder := { base := 0, size := 2 ^ 37, dpaBase := 0, skip := 0, ways := 1, gran := 256, pos := 0,
                        db := false, lock := false }

/-- A read that a controller holds. -/
def rq : Req := { id := 3, src := .host 0 0 7, master := 0, mark := 1, kind := .read, loc := 0, dpa := 0, keyId := 0,
                  sel := none, data := 0, mask := 0, poison := false, cache := 0, arrived := 0, entered := 0,
                  cls := 0, promoted := false, queued := false, excused := 0 }

/-- A full write. -/
def rqF : Req := { rq with kind := .full, data := 5 }

/-- A state whose PC `n` is given. -/
def setPc (n : Nat) (c : Pc) (s : State) : State := { s with pcs := [(n, c)] }

/-- A Checkpoint that has just begun. -/
def cmt : Commit := { kind := 2, safe := false, bsn := 9, startAt := 0, todo := [], flight := [], reclaim := [],
                      programmed := 0, urgent := false }

/-- A Checkpoint or Bind runs. -/
def running (c : Commit) : State := { withRegs act [(FOLIO_STAT.persist, 1)] with folio := { Folio.reset with
                                                                                                              running := some
                                                                                                                c,
                                                                                                              bsnNext := 9,
                                                                                                              bsnTop := 100
                                                                                                                } }

/-- Persistence is Full. -/
def full1 : State := withRegs act [(FOLIO_STAT.persist, 1)]

/-- A state with the Reserve Bank given. -/
def bankS (b : ReserveBank) : State := { act with bank := b }

/-- A loaded key slot. -/
def slotL (i : Bool) : KeySlot := { KeySlot.empty with loaded := true, k1 := 5, k2 := 6, integrity := i, gen := 3 }

/-- A record of the EEPROM. -/
def rec1 : EepromRec := { seq := 1, cycles := 0, capUf := 220000, esr := 450, unit := 3, time := 0 }

/-- What an EEPROM holds. -/
def ee : EepromData := { bytes := List.replicate 64 0 ++ recordBytes rec1 ++ List.replicate 160 0 }

/-- A good Load Key. -/
def load0 : KeyLoad := { slot := 5, flags := 0, gen := 4, src := 0, k1 := 7, k2 := 8, ki := 9 }

/-- A provisioned device. -/
def keyed : State := { regs [(SYS_LC.state, 2)] with sb := { SidebandState.reset with sessions := [(0, 0, some .fm),
                                                                                                   (1, 0, some (.ld 0
                                                                                                                  0))]
                                                                                        } }

/-- A job of ring 0. -/
def job0 : Job := { ring := 0, dpa := 64, lo := 0, hi := 0, started := false, startTb := 0, early := none, cut := none
                      }

/-- One job, and a key for it. -/
def jobS (j : Job) : State := { withRegs keyed [(FOLIO_STAT.persist, 0)] with chisel := { ChiselState.reset with
                                                                                                                 jobs := [j]
                                                                                                                   },
                                                                              crypto := { Crypto.reset with
                                                                                                            keys := [(0,
                                                                                                                      slotL
                                                                                                                        false)]
                                                                                                              } }

/-- A heartbeat. -/
def beat0 : Beat := { count := 1, safe := false, rekey := false, resync := true, time := 0, rekeyStart := 0,
                      rekeyEnd := 0, applied := 0 }

/-- The next flit, with nothing in it. -/
def flit0 : DoveFlit := { bytes := (State.reset.flit 0 1 false []).bytes.map (BitVec.ofNat 8), established := false,
                          failed := false }

/-- A flit of zeros: its FEC holds and its CRC does not. -/
def flitCrc : DoveFlit := { bytes := List.replicate 256 0, established := false, failed := false }

/-- A mirrored write. -/
def mw0 : Mwrite := { osn := 3, loc := 64, mask := 0xFF, slot := 0, mark := 1, data := 5, partialWrite := true }

/-- A joined pair with mirrored range 2. -/
def ranged (l : List (Fld × Nat)) : State := withRegs paired ([(DOVE_RANGE_STAT.state.ix 2, 1),
                                                               (DOVE_RANGE_END.end_quire.ix 2, 64)] ++ l)

/-- A line in the cleared form, as it crosses. -/
def form0 : FormLine := { kind := 2, data := 0, tag := 0 }

/-- A recovery with nobody waiting. -/
def rec0 : Recovery := { loc := 64, ident := 3, waiting := [], writes := [], forTag := false, lost := false }

/-- An event record. -/
def evr1 : EventRec := { kind := 0, page := 0, code := 0, cls := 0, access := 0, master := 0, addr := 0, time := 0,
                         count := 0, handle := 1 }

/-- Port 0 has a link of a mode, with lane 7 active. -/
def up (mode : Nat) (l : List (Fld × Nat)) : State :=
  regs ([(PHY_STAT.ltssm.port 0, 3), (PORT_LINK_STAT.mode.port 0, mode), (PORT_LD_CFG.bound.ld 0 0, 1),
         (PHY_LANE_STAT.active.lane 0 7, 1), (PHY_LANE_STAT.logical.lane 0 7, 7)] ++ l)

/-- Port 0 with every power state allowed. -/
def pmLd (p : PortState) (s : State) : State :=
  { s with ports := [(0, p)], lds := [(0, { LdState.reset with l0s := true, l1 := true, l11 := true, l12 := true })] }

/-- A power domain that sleeps and wakes. -/
def asleep (d st : Nat) : State := { regs [(PWR_DOM_STAT.state.ix d, st)] with domains := [(d, { DomainState.reset
                                                                                                   with wakeAt := some
                                                                                                          5 })] }

/-- A state with the life of the device given. -/
def sysS (y : SysState) : State := { act with sys := y }

/-- A stage that finds nothing wrong. -/
def find0 : StageFinding := { sparedRows := [], failedRows := [], marginalRows := [], regionFail := 0, corrected := 0,
                              secondPass := false, refOk := true, failures := [], idents := [], badVias := [],
                              badVref := [], badFolioVias := [], tipinOk := true, col0Ok := true, col1Ok := true,
                              map0Ok := true, map1Ok := true, keyRecOk := true }

/-- A state with the calibration of PC 0 given. -/
def calS (c : CalState) (l : List (Fld × Nat)) : State := { regs l with cals := [(0, c)] }

/-- A state with the heat of a die given. -/
def heatS (d : Nat) (h : LayerTherm) (l : List (Fld × Nat)) : State := { regs l with therm := [(d, h)] }

/-- A state with ERR_N given. -/
def pinS (p : PinState) (l : List (Fld × Nat)) : State := { regs l with pin := p }

/-! ## The hypotheses of the statements are met -/

theorem test_meets_StepIdlesOnEmptyQueue :
    ∃ (s : State), s.pending = [] :=
  ⟨act, by decide +kernel⟩

theorem test_meets_RegisterAccessesActAndAnswer :
    (∃ (who : Accessor) (page : Page) (s : State), reaches s who page.val = true ∧ s.safe = false) ∧
    (∃ (who : Accessor) (page : Page) (s : State), reaches s who page.val = true ∧ s.safe = false) ∧
    (∃ (who : Accessor) (s : State), reaches s who 0x01 = true) ∧
    (∃ (off size : Nat) (s : State), s.regsOpen = true ∧ (size ≠ 4 ∨ off % 4 ≠ 0)) ∧
    (∃ (off size : Nat) (s : State), s.regsOpen = true ∧ (size ≠ 4 ∨ off % 4 ≠ 0) ∧ awake s 0x01 = true) :=
  ⟨⟨.sideband, 0x14, act, by decide +kernel⟩,
    ⟨.sideband, 0x14, act, by decide +kernel⟩,
    ⟨.fn 0 0, admin, by decide +kernel⟩,
    ⟨0x1A102, 4, act, by decide +kernel⟩,
    ⟨0x1A102, 4, act, by decide +kernel⟩⟩

theorem test_meets_SoftResetAndCaptureRelease :
    (∃ (who : Accessor) (page : Page) (s : State), takes s who page.val = true ∧ page.val ≠ 0x09 ∧
       (s.page page.val).softReq = false) ∧
    (∃ (page : Page) (s : State), (s.page page.val).softReq = true ∧ s.quiescent page.val = true ∧ page.val = 0x1D ∧
       s.now ≤ (s.page page.val).reqAt + 2000000) ∧
    (∃ (page : Page) (s : State), (s.page page.val).softReq = true ∧ s.quiescent page.val = true ∧
       (s.page page.val).reqAt + 2000000 < s.now) ∧
    (∃ (dom : DomainNo) (at_ : Nat) (s : State), (s.domain dom).gateAt = some at_ ∧ s.domainQuiet dom = false) ∧
    (∃ (page : Page) (s : State), (s.page page.val).softReq = true ∧ s.quiescent page.val = false) ∧
    (∃ (who : Accessor) (page : Page) (s : State), s.regsOpen = true ∧ s.mayAdmin who = true ∧
       s.present page.val = true ∧ awake s page.val = true) :=
  ⟨⟨.sideband, 0x1D, act, by decide +kernel⟩,
    ⟨0x1D, { regs [(CHISEL_RING_CTL.enable.ix 0, 1), (CHISEL_RING_TAIL.tail.ix 0, 3)] with pages := [(0x1D, {
                                                                                                              softReq := true
                                                                                                                })] },
     by decide +kernel⟩,
    ⟨0x1D, { act with now := 3000000, pages := [(0x1D, { softReq := true })] }, by decide +kernel⟩,
    ⟨70, 5, { regs [(KERF_STAT.state.ix 1, 2)] with domains := [(70, { DomainState.reset with gateAt := some 5 })] },
     by decide +kernel⟩,
    ⟨0x1A, { regs [(KERF_STAT.state.ix 0, 2)] with pages := [(0x1A, { softReq := true })] }, by decide +kernel⟩,
    ⟨.sideband, 0x40, regs [(FE_VALID.valid.on 0x40, 1)], by decide +kernel⟩⟩

theorem test_meets_InterruptCausesAndEscalation :
    (∃ (who : Accessor) (page : Page) (s : State), takes s who page.val = true ∧ s.lifeCycle = 1) ∧
    (∃ (who : Accessor) (page : Page) (s : State), takes s who page.val = true ∧ s.lifeCycle ≠ 1) ∧
    (∃ (page : Page) (s : State), s.on (ESC_STAT.running.on page.val) = true ∧ (s.page page.val).sev < 3) ∧
    (∃ (page : Page) (s : State), s.on (ESC_STAT.running.on page.val) = true ∧ 3 ≤ (s.page page.val).sev ∧
       carrierPage page.val = false ∧ s.safe = false ∧ calm s = true) ∧
    (∃ (who : Accessor) (page : Page) (expiryFirst : Grant) (s : State), s.regsOpen = true ∧ s.mayAdmin who = true ∧
       s.present page.val = true ∧ awake s page.val = true ∧ s.on (ESC_STAT.running.on page.val) = true ∧
       (expiryFirst = false ∨ s.now < (s.page page.val).escAt)) ∧
    (∃ (who : Accessor) (page : Page) (s : State), s.layerAbsent page.val = true ∧ s.mayAdmin who = true) :=
  ⟨⟨.sideband, 0x1F, regs [(SYS_LC.state, 1)], by decide +kernel⟩,
    ⟨.sideband, 0x1F, regs [(SYS_LC.state, 2)], by decide +kernel⟩,
    ⟨0x1F, { regs [(ESC_STAT.running.on 0x1F, 1)] with pages := [(0x1F, { sev := 2, code := 5 })] }, by
       decide +kernel⟩,
    ⟨0x1F, { regs [(ESC_STAT.running.on 0x1F, 1)] with pages := [(0x1F, { sev := 3, code := 5 })] }, by
       decide +kernel⟩,
    ⟨.sideband, 0x1F, false, { regs [(ESC_STAT.running.on 0x1F, 1)] with pages := [(0x1F, { sev := 2, code := 5 })] },
     by decide +kernel⟩,
    ⟨.sideband, 0x5C, regs [(KERF_STACK_CFG.map_out, 1), (KERF_STACK_CFG.layers_present, 0xFF7F)], by decide +kernel⟩⟩

theorem test_meets_HostRequestsGoOnToTheirController :
    (∃ (port : PortNo) (ld : LdNo) (req : HostReq) (d : Decoder) (dpa : Nat) (s : State), s.carries port ld = true ∧
       s.safe = false ∧ s.on BIST_ENG_STAT.offline = false ∧ s.on SYS_START_STAT.mem_active = true ∧
       s.decode port ld req.hpa.toNat = some (d, dpa) ∧ s.portRefusal port ld dpa = none ∧ s.mbox.sanitizing = false) ∧
    (∃ (port : PortNo) (ld : LdNo) (req : HostReq) (d : Decoder) (dpa : Nat) (s : State), s.carries port ld = true ∧
       s.safe = false ∧ s.on BIST_ENG_STAT.offline = false ∧ s.on SYS_START_STAT.mem_active = true ∧
       s.decode port ld req.hpa.toNat = some (d, dpa) ∧ s.portRefusal port ld dpa = none ∧ s.mbox.sanitizing = false) :=
  ⟨⟨0, 0, hreq, span, 0, { hosted with lds := [(0, { LdState.reset with decoders := [(0, some span)] })] }, by
       decide +kernel⟩,
    ⟨0, 0, hreq, span, 0, { hosted with lds := [(0, { LdState.reset with decoders := [(0, some span)] })] }, by
       decide +kernel⟩⟩

theorem test_meets_PortRefusesInTheOrderOfItsRows :
    (∃ (port : PortNo) (ld : LdNo) (req : HostReq) (code : Nat) (s : State), s.carries port ld = true ∧ s.safe = false
       ∧ s.on BIST_ENG_STAT.offline = false ∧ s.on SYS_START_STAT.mem_active = true ∧ (match s.decode port ld
                                                                                         req.hpa.toNat with | none =>
                                                                                                              some
                                                                                                              0x0B04 |
                                                                                                              some (_,
                                                                                                                    dpa)
                                                                                                              =>
                                                                                                              s.portRefusal
                                                                                                              port ld
                                                                                                              dpa) =
       some code) ∧
    (∃ (port : PortNo) (ld : LdNo) (req : HostReq) (code : Nat) (s : State), s.carries port ld = true ∧ s.safe = false
       ∧ s.on BIST_ENG_STAT.offline = false ∧ s.on SYS_START_STAT.mem_active = true ∧ (match s.decode port ld
                                                                                         req.hpa.toNat with | none =>
                                                                                                              some
                                                                                                              0x0B04 |
                                                                                                              some (_,
                                                                                                                    dpa)
                                                                                                              =>
                                                                                                              s.portRefusal
                                                                                                              port ld
                                                                                                              dpa) =
       some code) ∧
    (∃ (port : PortNo) (ld : LdNo) (req : HostReq) (d : Decoder) (dpa : Nat) (s : State), s.carries port ld = true ∧
       s.safe = false ∧ s.on BIST_ENG_STAT.offline = false ∧ s.on SYS_START_STAT.mem_active = true ∧
       s.mbox.sanitizing = false ∧ s.decode port ld req.hpa.toNat = some (d, dpa) ∧ s.portRefusal port ld dpa = none) :=
  ⟨⟨0, 0, hreq, 0x0B04, hosted, by decide +kernel⟩,
    ⟨0, 0, hreq, 0x0B03, withRegs { hosted with lds := [(0, { LdState.reset with decoders := [(0, some span)] })] }
       [(PORT_LD_ALLOC_END.end_quire.ld 0 0, 0)], by decide +kernel⟩,
    ⟨0, 0, hreq, span, 0, { hosted with lds := [(0, { LdState.reset with decoders := [(0, some span)] })] }, by
       decide +kernel⟩⟩

theorem test_meets_RequestsAreQueuedAndScheduled :
    (∃ (pc : PcNo) (master : Fin 26) (r : Req) (s : State), (s.transit.find? fun x => decide ((s.placeOf x.loc).pc =
                                                                                                pc.val ∧ x.master =
                                                                                                master.val)) = some r
       ∧ s.rd (PWR_DOM_STAT.state.ix pc.val) = 0 ∧ s.keyRefusal r = none ∧ r.kind = .read ∧ r.cache = 0 ∧
       s.waitOf { r with sel := some (s.select r), arrived := s.now } = none ∧ s.recovering r.loc = false ∧
       s.on (PC_SR_STAT.entering.pc pc) = false ∧ s.on (PC_SR_STAT.in_sr.pc pc) = false ∧
       (s.pc pc).writeTo r.loc = none ∧ s.hasRoom pc r = true ∧ s.inputClear pc r = true ∧ s.behindOther pc r = false) ∧
    (∃ (pc : PcNo) (r : Req) (s : State), s.firstInput pc [] (s.pc pc).input = some r ∧ r.kind = .read ∧
       (s.pc pc).writeTo r.loc = none) ∧
    (∃ (r : Req) (s : State), s.folio.held = [r] ∧ r.kind ≠ .read ∧ r.poison = false ∧
       s.holdsAny (s.writeQuires r) = false ∧ s.queueBlocks r = false ∧
       (s.pc (s.placeOf r.loc).pc).writeTo r.loc = none ∧ s.hasRoom (s.placeOf r.loc).pc r = false) ∧
    (∃ (pc : PcNo) (r : Req) (at_ : Nat) (s : State), s.pcAwake pc = true ∧ s.nextIssue pc = some (r, true, at_)) ∧
    (∃ (pc : PcNo) (r : Req) (at_ : Nat) (s : State), s.pcAwake pc = true ∧ s.nextIssue pc = some (r, false, at_) ∧
       r.kind ≠ .read ∧ max s.now at_ ≤ r.entered + 1000000) ∧
    (∃ (pc : PcNo) (r : Req) (at_ : Nat) (s : State), s.pcAwake pc = true ∧ s.nextIssue pc = some (r, false, at_) ∧
       r.kind = .read ∧ max s.now at_ ≤ r.entered + 1000000) ∧
    (∃ (pc : PcNo) (r : Req) (s : State), (s.pc pc).queue.find? (fun r => !r.promoted) = some r) :=
  ⟨⟨0, 0, { rq with sel := some (0, slotL false) }, { act with transit := [{ rq with sel := some (0, slotL false) }],
                                                                crypto := { Crypto.reset with keys := [(0, slotL
                                                                                                          false)] } },
     by decide +kernel⟩,
    ⟨0, rq, setPc 0 { Pc.reset with input := [rq] } act, by decide +kernel⟩,
    ⟨rqF, { regs [(FOLIO_STAT.persist, 0)] with folio := { Folio.reset with held := [rqF] }, pcs := [(0, { Pc.reset
                                                                                                             with
                                                                                                                  queue := List.replicate
                                                                                                                    12
                                                                                                                    rq
                                                                                                                    })]
                                                  }, by decide +kernel⟩,
    ⟨0, rq, 0, setPc 0 { Pc.reset with queue := [rq] } act, by decide +kernel⟩,
    ⟨0, rqF, 0, setPc 0 { Pc.reset with queue := [rqF], banks := [(0, { DramBank.reset 0 with openRow := some 0 })] }
       act, by decide +kernel⟩,
    ⟨0, rq, 0, setPc 0 { Pc.reset with queue := [rq], banks := [(0, { DramBank.reset 0 with openRow := some 0 })] }
       act, by decide +kernel⟩,
    ⟨0, rq, setPc 0 { Pc.reset with queue := [{ rq with promoted := true, id := 1 }, rq] } act, by decide +kernel⟩⟩

theorem test_meets_ReadBurstAnswersTheHost :
    ∃ (pc : PcNo) (r : Req) (rest : List Req) (port ld tag : Nat) (s : State), (s.pc pc).bursts = r :: rest ∧
      r.src = .host port ld tag ∧ s.bist.inj = [] ∧ s.recovering r.loc = false ∧ (s.selOf r).2.integrity = false ∧
      (s.judge r.loc []).outcome = .clean ∧ (s.judge r.loc []).lanes = [] :=
  ⟨0, rq, [rqF], 0, 0, 7, { setPc 0 { Pc.reset with bursts := [rq, rqF] } act with lines := [(0, StoredLine.ofData 5)]
                                                                                     }, by decide +kernel⟩

theorem test_meets_WriteBurstStoresTheLine :
    ∃ (pc : PcNo) (r : Req) (rest : List Req) (s : State), (s.pc pc).wbursts = r :: rest ∧ r.kind = .full ∧
      r.poison = false ∧ s.bist.inj = [] ∧ (s.selOf r).2.integrity = false ∧
      ((∀ x ∈ (s.pc pc).bursts, lineAddr x.loc ≠ lineAddr r.loc)) :=
  ⟨0, rqF, [], setPc 0 { Pc.reset with wbursts := [rqF] } act, by decide +kernel⟩

theorem test_meets_RefreshesFollowTheBalance :
    (∃ (pc : PcNo) (bank : BankNo) (s : State), s.pcPresent pc = true ∧ s.on (PC_SR_STAT.in_sr.pc pc) = false ∧
       ((s.pc pc).bank bank).balance ≤ s.rd (PC_REF_CTL.postpone_max.pc pc)) ∧
    (∃ (pc : PcNo) (bank : BankNo) (s : State), s.on (PC_SR_STAT.in_sr.pc pc) = false ∧
       ((s.pc pc).bank bank).forced ≠ 0) ∧
    (∃ (pc : PcNo) (bank : BankNo) (s : State), s.on (PC_SR_STAT.in_sr.pc pc) = false ∧ s.pcPresent pc = true ∧
       s.bankIdle pc bank = true ∧ 0 < ((s.pc pc).bank bank).balance) ∧
    (∃ (pc : PcNo) (bank : BankNo) (row : Nat) (rest : List Nat) (s : State), s.on (PC_SR_STAT.in_sr.pc pc) = false ∧
       ((s.pc pc).bank bank).targets = row :: rest ∧ ((s.pc pc).bank bank).afterForced = false) :=
  ⟨⟨0, 0, act, by decide +kernel⟩,
    ⟨0, 0, setPc 0 { Pc.reset with banks := [(0, { DramBank.reset 0 with forced := 2 })] } act, by decide +kernel⟩,
    ⟨0, 5, setPc 0 { Pc.reset with banks := [(5, { DramBank.reset 5 with balance := 3 })] } act, by decide +kernel⟩,
    ⟨0, 5, 77, [79], setPc 0 { Pc.reset with banks := [(5, { DramBank.reset 5 with targets := [77, 79] })] } act, by
       decide +kernel⟩⟩

theorem test_meets_RefreshControlAndSelfRefresh :
    (∃ (who : Accessor) (pc : PcNo) (s : State), takes s who (0x40 + pc.val) = true) ∧
    (∃ (layer : LayerNo) (since : Nat) (s : State), s.window layer = 1 ∧ (s.layer layer).below80 = some since ∧
       s.forced layer = 0 ∧ s.layerSr layer = false ∧ s.layerAbsent (0x40 + layer.val * 4) = false) ∧
    (∃ (pc : PcNo) (s : State), s.on (PC_SR_CTL.sr_en.pc pc) = true ∧ s.pcIdle pc = true ∧ s.pcAwake pc = true ∧
       (s.heat (pc.val / 4)).suspect = false) ∧
    (∃ (who : Accessor) (pc : PcNo) (s : State), takes s who (0x40 + pc.val) = true ∧ s.pcIdle pc = true ∧
       s.pcAwake pc = true ∧ (s.heat (pc.val / 4)).suspect = false) ∧
    (∃ (pc : PcNo) (s : State), s.on (PC_SR_STAT.entering.pc pc) = true) ∧
    (∃ (pc : PcNo) (s : State), s.on (PC_SR_STAT.in_sr.pc pc) = true) :=
  ⟨⟨.sideband, 0, act, by decide +kernel⟩,
    ⟨0, 7, { regs [(PC_REF_STAT.window.pc 0, 1), (PC_REF_STAT.window.pc 1, 1), (PC_REF_STAT.window.pc 2, 1),
                   (PC_REF_STAT.window.pc 3, 1)] with layers := [(0, { Layer.reset with below80 := some 7 })] }, by
       decide +kernel⟩,
    ⟨0, regs [(PC_SR_CTL.sr_en.pc 0, 1)], by decide +kernel⟩,
    ⟨.sideband, 0, act, by decide +kernel⟩,
    ⟨0, regs [(PC_SR_STAT.entering.pc 0, 1)], by decide +kernel⟩,
    ⟨0, regs [(PC_SR_STAT.in_sr.pc 0, 1)], by decide +kernel⟩⟩

theorem test_meets_ErasuresWritebackAndScrub :
    (∃ (who : Accessor) (pc : PcNo) (lane : Nat) (s : State), takes s who (0x40 + pc.val) = true ∧ s.lifeCycle = 3 ∧
       s.erasedLanes pc = [lane]) ∧
    (∃ (who : Accessor) (pc : PcNo) (val : Word) (s : State), takes s who (0x40 + pc.val) = true ∧
       ((s.lifeCycle = 2 ∨ val.toNat / 2 ^ 16 ≠ 0x4552))) ∧
    (∃ (pc : PcNo) (loc : Nat) (l : StoredLine) (rest : List (Nat × StoredLine)) (s : State),
     (s.pc pc).wb = (loc, l) :: rest ∧ (s.pc pc).writeTo loc = none ∧ (s.pc pc).wbursts = [] ∧ s.bist.inj = [] ∧
       l ≠ StoredLine.poisoned l.data ∧ (s.placeOf loc).pc = pc.val ∧ s.on (PC_SR_STAT.in_sr.pc pc) = false ∧
       s.on (PC_SR_STAT.entering.pc pc) = false) ∧
    (∃ (pc : PcNo) (s : State), s.on SCRUB_CTL.scrub_en = true ∧ s.safe = false ∧ s.serving = true ∧
       s.pcPresent pc = true ∧ s.on (PC_SR_STAT.in_sr.pc pc) = false ∧ s.on (PC_SR_STAT.entering.pc pc) = false ∧
       s.bist.inj = [] ∧ (s.pc pc).scrubPos + 1 < pcLines ∧ (s.pc pc).scrubBack = [] ∧
       s.unfinishedBy (quireOf (s.locAt (scrubPlace pc (s.pc pc).scrubPos))) = none ∧ s.scrubStalls pc = none ∧
       (s.judge (s.locAt (scrubPlace pc (s.pc pc).scrubPos)) []).outcome = .cleared ∧
       (s.judge (s.locAt (scrubPlace pc (s.pc pc).scrubPos)) []).lanes = []) ∧
    (∃ (pc : PcNo) (s : State), s.on (PC_SR_STAT.in_sr.pc pc) = true ∧ s.on (PC_SR_STAT.entering.pc pc) = false ∧
       s.on SCRUB_CTL.scrub_en = true ∧ s.safe = false) ∧
    (∃ (pc : PcNo) (s : State), s.pcPresent pc = true ∧ (s.pc pc).scrubLate = 0) ∧
    (∃ (pc : PcNo) (s : State), s.pcPresent pc = true ∧ (s.pc pc).scrubLate < 2) :=
  ⟨⟨.sideband, 0, 5, regs [(SYS_LC.state, 3), (PC_ECC_STAT.erased.pc 0, 1), (PC_ECC_STAT.lane0.pc 0, 5)], by
       decide +kernel⟩,
    ⟨.sideband, 0, 0x45520001, regs [(SYS_LC.state, 2), (PC_ECC_STAT.erased.pc 0, 1)], by decide +kernel⟩,
    ⟨0, 0, { data := 9, check := 1 }, [], setPc 0 { Pc.reset with wb := [(0, { data := 9, check := 1 })] } act, by
       decide +kernel⟩,
    ⟨0, regs [(SCRUB_CTL.scrub_en, 1)], by decide +kernel⟩,
    ⟨0, regs [(SCRUB_CTL.scrub_en, 1), (PC_SR_STAT.in_sr.pc 0, 1)], by decide +kernel⟩,
    ⟨0, act, by decide +kernel⟩,
    ⟨0, act, by decide +kernel⟩⟩

theorem test_meets_RowsAreRepairedAndRecorded :
    (∃ (pc : PcNo) (b : BankNo) (k : Fin 32) (s : State), s.pcPresent pc = true ∧ s.on SCRUB_CTL.scrub_en = true ∧
       s.safe = false ∧ (s.tip (tipIndex pc b k)).valid = false ∧ (s.tip (tipIndex pc b k)).bad = false ∧
       ((List.range 32).any fun b => decide (s.freeSlots pc b ≠ [])) = true ∧ s.testFails pc [] = false) ∧
    (∃ (pc : PcNo) (bank : BankNo) (row : Fin 32768) (s : State), (pc.val, bank.val, row.val) ∈ s.repair.due ∧
       s.rowCopied pc bank row = false ∧ s.freeSlots pc bank ≠ [] ∧ s.reloads pc bank = false) ∧
    (∃ (who : Accessor) (s : State), takes s who 0x1F = true ∧ s.repairRefusal = none) ∧
    (∃ (who : Accessor) (reason : Nat) (s : State), takes s who 0x1F = true ∧ s.repairRefusal = some reason) ∧
    (∃ (s : State), s.repair.append = none ∧ s.repair.appendAgain = true ∧ s.repair.loaded = true) ∧
    (∃ (r : TipRecord) (s : State), s.repair.append = some r ∧ s.persistFused = true) ∧
    (∃ (e : Fin 65536) (s : State), s.repair.reloading.contains e.val = true) :=
  ⟨⟨0, 4, 31, regs [(SCRUB_CTL.scrub_en, 1)], by decide +kernel⟩,
    ⟨0, 4, 32767, { act with repair := { Repair.reset with due := [(0, 4, 32767)] } }, by decide +kernel⟩,
    ⟨.sideband, act, by decide +kernel⟩,
    ⟨.sideband, 3, regs [(TIPIN_REQ_STAT.busy, 1)], by decide +kernel⟩,
    ⟨{ act with repair := { Repair.reset with appendAgain := true, loaded := true } }, by decide +kernel⟩,
    ⟨{ seq := 4, entries := [], erasures := [], spares := [] }, { act with repair := { Repair.reset with
                                                                                                         append := some
                                                                                                           { seq := 4,
                                                                                                             entries := [],
                                                                                                             erasures := [],
                                                                                                             spares := []
                                                                                                               } } },
     by decide +kernel⟩,
    ⟨9, { act with repair := { Repair.reset with reloading := [9, 11] } }, by decide +kernel⟩⟩

theorem test_meets_MigrateAndRecoveryRun :
    (∃ (pc bank : Nat) (rest : List (Nat × Nat)) (s : State), s.repair.retire = (pc, bank) :: rest ∧
       s.kerfActive 3 = false) ∧
    (∃ (s : State), s.mayStroke 3 = true ∧ (s.eng 3).cur < 32768 ∧ quiet s = true ∧ s.kerfActive 0 = false ∧
       s.kerfActive 1 = false ∧ s.dove.strokes = [] ∧ s.lines = [] ∧ s.reloads s.migrating.1 s.migrating.2 = false) ∧
    (∃ (s : State), s.kerfRuns 3 = true ∧ 32768 ≤ (s.eng 3).cur) ∧
    (∃ (loc : Loc) (r : Recovery) (ends : Nat) (s : State),
     s.recoveries.find? (fun r => decide (r.loc = lineAddr loc.toNat)) = some r ∧
       (r.waiting.map (·.1)).min? = some ends) :=
  ⟨⟨3, 7, [(4, 1)], { act with repair := { Repair.reset with retire := [(3, 7), (4, 1)] } }, by decide +kernel⟩,
    ⟨regs [(KERF_STAT.state.ix 3, 2)], by decide +kernel⟩,
    ⟨{ regs [(KERF_STAT.state.ix 3, 2)] with kerf := [(3, { KerfEng.reset with cur := 32768 })] }, by decide +kernel⟩,
    ⟨64, { rec0 with waiting := [(9, rq)] }, 9, { act with recoveries := [{ rec0 with waiting := [(9, rq)] }] }, by
       decide +kernel⟩⟩

theorem test_meets_KerfCommandsMoveTheSlot :
    (∃ (who : Accessor) (slot : KerfNo) (s : State), takes s who 0x1A = true ∧ s.startRefusal slot = none) ∧
    (∃ (who : Accessor) (slot : KerfNo) (reason : Nat) (s : State), takes s who 0x1A = true ∧
       s.startRefusal slot = some reason) ∧
    (∃ (who : Accessor) (slot : KerfNo) (s : State), takes s who 0x1A = true ∧ (slot.val = 2 ∨ slot.val = 4) ∧
       s.kerfRuns slot = true ∧ (slot.val = 2 ∨ s.dove.strokes = [])) ∧
    (∃ (who : Accessor) (s : State), takes s who 0x1A = true ∧ s.kerfRuns 4 = true ∧ s.dove.strokes ≠ []) ∧
    (∃ (who : Accessor) (slot : KerfNo) (s : State), takes s who 0x1A = true ∧ (slot.val = 2 ∨ slot.val = 4) ∧
       s.rd (KERF_STAT.state.ix slot) = 5) ∧
    (∃ (slot : KerfNo) (s : State), slot.val ≠ 3 ∧ s.kerfRuns slot = true ∧ (s.eng slot).todo = []) ∧
    (∃ (slot : KerfNo) (s : State), s.kerfRuns slot = true) :=
  ⟨⟨.sideband, 0, regs [(KERF_END.end_quire.ix 0, 4)], by decide +kernel⟩,
    ⟨.sideband, 0, 2, act, by decide +kernel⟩,
    ⟨.sideband, 2, regs [(KERF_STAT.state.ix 2, 2)], by decide +kernel⟩,
    ⟨.sideband, { regs [(KERF_STAT.state.ix 4, 2)] with dove := { DoveState.reset with strokes := [{ num := 1,
                                                                                                     range := 2,
                                                                                                     quire := 3,
                                                                                                     piece := 4,
                                                                                                     pulled := true,
                                                                                                     left := 256 }] }
                                                          }, by decide +kernel⟩,
    ⟨.sideband, 2, regs [(KERF_STAT.state.ix 2, 5)], by decide +kernel⟩,
    ⟨1, regs [(KERF_STAT.state.ix 1, 2)], by decide +kernel⟩,
    ⟨1, regs [(KERF_STAT.state.ix 1, 2)], by decide +kernel⟩⟩

theorem test_meets_KerfEnginesDoTheirStrokes :
    (∃ (q : Nat) (s : State), s.mayStroke 0 = true ∧ (s.eng 0).target = some q ∧ quiet s = true ∧
       s.spanInFlight (q * quireLines + (s.eng 0).strokesOf q * strokeLines) = false ∧ s.trackedIn (q * quireLines +
                                                                                                      (s.eng
                                                                                                         0).strokesOf
                                                                                                      q * strokeLines)
       (q * quireLines + (s.eng 0).strokesOf q * strokeLines + strokeLines) = []) ∧
    (∃ (q : Nat) (fails : Fin 3) (d : SlotData) (s : State), s.mayStroke 1 = true ∧ (s.eng 1).target = some q ∧
       quiet s = true ∧ fails.val < 2 ∧ s.liftSource q = some d) ∧
    (∃ (q : Nat) (fails : Fin 3) (s : State), s.mayStroke 1 = true ∧ (s.eng 1).target = some q ∧ quiet s = true ∧
       (fails.val = 2 ∨ s.liftSource q = none)) ∧
    (∃ (q : Nat) (s : State), s.mayStroke 2 = true ∧ (s.eng 2).target = some q ∧ quiet s = true ∧
       (s.key (s.eng 2).src).loaded = true ∧ (s.key (s.eng 2).dst).loaded = true ∧ ((∀ x, x ∈ s.rekeyQuires q (q *
                                                                                                                 quireLines
                                                                                                                 +
                                                                                                                 (s.eng
                                                                                                                    2).strokesOf
                                                                                                                 q *
                                                                                                                 strokeLines)
                                                                                       → s.unfinishedBy x = none)) ∧
       s.spanInFlight (q * quireLines + (s.eng 2).strokesOf q * strokeLines) = false ∧ s.lines = []) ∧
    (∃ (q n : Nat) (l : StoredLine) (s : State), s.mayStroke 2 = true ∧ (s.eng 2).target = some q ∧ quiet s = true ∧
       s.bist.inj = [] ∧ q < 131072 ∧ (s.key (s.eng 2).src).loaded = true ∧ (s.key (s.eng 2).dst).loaded = true ∧
       (s.key (s.eng 2).src).integrity = false ∧ (s.key (s.eng 2).dst).integrity = false ∧ s.unfinishedBy q = none ∧
       s.spanInFlight (q * quireLines + (s.eng 2).strokesOf q * strokeLines) = false ∧ s.holdsAny [q] = false ∧
       s.lines = [(n, l)] ∧ q * quireLines + (s.eng 2).strokesOf q * strokeLines ≤ n ∧
       n < q * quireLines + (s.eng 2).strokesOf q * strokeLines + strokeLines ∧ (s.eng 2).strokesOf q < 63 ∧
       s.cached (n * 64) = none ∧ (s.judge (n * 64) []).outcome = .clean ∧
       (s.judge (n * 64) []).line.isPoisoned = false ∧ (s.judge (n * 64) []).line ≠ StoredLine.cleared) ∧
    (∃ (q : Nat) (s : State), s.mayStroke 2 = true ∧ (s.eng 2).target = some q ∧
       ((s.key (s.eng 2).src).loaded = false ∨ (s.key (s.eng 2).dst).loaded = false)) :=
  ⟨⟨3, { regs [(KERF_STAT.state.ix 0, 2)] with kerf := [(0, { KerfEng.reset with sel := [(3, 5)], todo := [(3, 5)]
                                                                                    })] }, by decide +kernel⟩,
    ⟨3, 1, slot3, { regs [(SYS_UNIT.unit, 0), (KERF_STAT.state.ix 1, 2)] with kerf := [(1, { KerfEng.reset with
                                                                                                                sel := [(3,
                                                                                                                         5)],
                                                                                                                todo := [(3,
                                                                                                                          5)]
                                                                                                                  })],
                                                                              folio := { Folio.reset with key := some
                                                                                                            7,
                                                                                                          slots := [(2300,
                                                                                                                     some
                                                                                                                       slot3)],
                                                                                                          map := [(3,
                                                                                                                   {
                                                                                                                     QEntry.reset
                                                                                                                       with
                                                                                                                            state := .clean,
                                                                                                                            slot := some
                                                                                                                              2300,
                                                                                                                            unlifted := true
                                                                                                                              })]
                                                                                                            } }, by
       decide +kernel⟩,
    ⟨3, 2, { regs [(KERF_STAT.state.ix 1, 2)] with kerf := [(1, { KerfEng.reset with sel := [(3, 5)], todo := [(3, 5)]
                                                                                       })], folio := { Folio.reset
                                                                                                         with
                                                                                                              key := some
                                                                                                                7,
                                                                                                              slots := [(2300,
                                                                                                                         some
                                                                                                                           slot3)],
                                                                                                              map := [(3,
                                                                                                                       {
                                                                                                                         QEntry.reset
                                                                                                                           with
                                                                                                                                state := .clean,
                                                                                                                                slot := some
                                                                                                                                  2300,
                                                                                                                                unlifted := true
                                                                                                                                  })]
                                                                                                                } },
     by decide +kernel⟩,
    ⟨3, { regs [(KERF_STAT.state.ix 2, 2)] with kerf := [(2, { KerfEng.reset with sel := [(3, 5)], todo := [(3, 5)],
                                                                                  src := 1, dst := 2 })], crypto := {
                                                                                                                      Crypto.reset
                                                                                                                        with
                                                                                                                             keys := [(1,
                                                                                                                                       slotL
                                                                                                                                         false),
                                                                                                                                      (2,
                                                                                                                                       slotL
                                                                                                                                         false)]
                                                                                                                               }
                                                  }, by decide +kernel⟩,
    ⟨3, 49152, StoredLine.ofData 77, { regs [(FOLIO_STAT.persist, 0), (KERF_STAT.state.ix 2, 2)] with kerf := [(2, {
                                                                                                                     KerfEng.reset
                                                                                                                       with
                                                                                                                            sel := [(3,
                                                                                                                                     5)],
                                                                                                                            todo := [(3,
                                                                                                                                      5)],
                                                                                                                            src := 1,
                                                                                                                            dst := 2
                                                                                                                              })],
                                                                                                      crypto := {
                                                                                                                  Crypto.reset
                                                                                                                    with
                                                                                                                         keys := [(1,
                                                                                                                                   slotL
                                                                                                                                     false),
                                                                                                                                  (2,
                                                                                                                                   slotL
                                                                                                                                     false)]
                                                                                                                           },
                                                                                                      lines := [(49152,
                                                                                                                 StoredLine.ofData
                                                                                                                   77)]
                                                                                                        }, by
       decide +kernel⟩,
    ⟨3, { regs [(KERF_STAT.state.ix 2, 2)] with kerf := [(2, { KerfEng.reset with sel := [(3, 5)], todo := [(3, 5)],
                                                                                  src := 1, dst := 2 })], crypto := {
                                                                                                                      Crypto.reset
                                                                                                                        with
                                                                                                                             keys := [(1,
                                                                                                                                       slotL
                                                                                                                                         false)]
                                                                                                                               }
                                                  }, by decide +kernel⟩⟩

theorem test_meets_CheckpointsAreOrderedAndStarted :
    (∃ (who : Accessor) (s : State), takes s who 0x1B = true ∧ s.persists = true ∧ s.folio.running = none) ∧
    (∃ (who : Accessor) (s : State), takes s who 0x1B = true ∧ s.persists = true ∧ s.folio.running = none) ∧
    (∃ (who : Accessor) (c : Commit) (s : State), takes s who 0x1B = true ∧ s.persists = true ∧
       s.folio.running = some c) ∧
    (∃ (who : Accessor) (c : Commit) (s : State), takes s who 0x1B = true ∧ s.folio.running = some c ∧
       (c.kind = 2 ∨ c.kind = 3) ∧ c.flight ≠ []) ∧
    (∃ (s : State), s.folio.running = none ∧ s.safe = false ∧ s.serving = true ∧ s.bindBusy = false ∧
       s.folio.ordered = some 1 ∧ s.folio.plimit = false ∧ s.persists = true ∧ 2 ≤ s.bsnLeft) :=
  ⟨⟨.sideband, full1, by decide +kernel⟩,
    ⟨.sideband, full1, by decide +kernel⟩,
    ⟨.sideband, cmt, running cmt, by decide +kernel⟩,
    ⟨.sideband, { cmt with flight := [(3, 2300)] }, running { cmt with flight := [(3, 2300)] }, by decide +kernel⟩,
    ⟨{ full1 with folio := { Folio.reset with ordered := some 1, bsnNext := 5, bsnTop := 100 } }, by decide +kernel⟩⟩

theorem test_meets_SlotsCommitsAndBlocks :
    (∃ (c : Commit) (q n : Nat) (rest : List (Nat × Nat)) (s : State), s.folio.running = some c ∧ c.kind = 2 ∧
       c.flight = (q, n) :: rest ∧ c.todo = [] ∧ ((s.quire q).state = .clean ∨ (s.quire q).state = .dirty) ∧
       (s.quire q).redirty = false) ∧
    (∃ (c : Commit) (p0 p1 : Bool) (s : State), s.folio.running = some c ∧ (c.kind = 2 ∨ c.kind = 3) ∧ c.todo = [] ∧
       c.flight = [] ∧ s.serving = true ∧ s.on FOLIO_STAT.ckpt_queued = false ∧ (p0 || p1) = true) ∧
    (∃ (c : Commit) (s : State), s.folio.running = some c ∧ (c.kind = 2 ∨ c.kind = 3) ∧ c.todo = [] ∧ c.flight = [] ∧
       s.serving = true ∧ s.on FOLIO_STAT.ckpt_queued = false) ∧
    (∃ (block : Fin 278528) (s : State), s.blockKept block = false ∧ (s.block block).wear + 1 < 18000) ∧
    (∃ (s : State), s.persists = true ∧ s.folio.held = []) :=
  ⟨⟨{ cmt with flight := [(3, 2300), (4, 2301)] }, 3, 2300, [(4, 2301)], { running { cmt with flight := [(3, 2300),
                                                                                                          (4, 2301)] }
                                                                              with folio := { (running { cmt with
                                                                                                                  flight := [(3,
                                                                                                                              2300),
                                                                                                                             (4,
                                                                                                                              2301)]
                                                                                                                    }).folio
                                                                                                with map := [(3, {
                                                                                                                   QEntry.reset
                                                                                                                     with
                                                                                                                          state := .clean
                                                                                                                            })]
                                                                                                       } }, by
       decide +kernel⟩,
    ⟨cmt, true, false, running cmt, by decide +kernel⟩,
    ⟨cmt, running cmt, by decide +kernel⟩,
    ⟨9, act, by decide +kernel⟩,
    ⟨{ full1 with folio := { Folio.reset with changed := true } }, by decide +kernel⟩⟩

theorem test_meets_FlushCompletesAndLostEntriesStop :
    (∃ (port : PortNo) (ld : LdNo) (s : State), s.carries port ld = true) ∧
    (∃ (port : PortNo) (ld : LdNo) (s : State), s.carries port ld = true ∧ s.openWrites = []) ∧
    (∃ (port : PortNo) (ld : LdNo) (s : State), s.carries port ld = true ∧ s.openWrites ≠ []) ∧
    (∃ (failed : List QuireNo) (q : QuireNo), q ∈ failed) :=
  ⟨⟨0, 0, hosted, by decide +kernel⟩,
    ⟨0, 0, hosted, by decide +kernel⟩,
    ⟨0, 0, { hosted with transit := [rqF] }, by decide +kernel⟩,
    ⟨[5, 6], 5, by decide +kernel⟩⟩

theorem test_meets_PowerFailureLeadsToABind :
    (∃ (s : State), s.sys.phase ≠ .off ∧ s.on BANK_PF_STAT.vin_low = false) ∧
    (∃ (s : State), s.on BANK_PF_STAT.vin_low = true ∧ s.sys.phase ≠ .off ∧ s.sys.phase ≠ .failing) ∧
    (∃ (s : State), s.bank.pfailLowAt = none) ∧
    (∃ (s : State), s.sys.phase = .active ∧ s.on BANK_PF_STAT.vin_low = true ∧ s.bindRuns = false ∧ s.safe = false ∧
       s.folio.bindDue = none) ∧
    (∃ (s : State), s.bindRuns = false ∧ s.folio.bindDue = some (4, false) ∧ s.persists = true) ∧
    (∃ (c : Commit) (p0 p1 : Bool) (s : State), s.folio.running = some c ∧ c.kind = 1 ∧ c.todo = [] ∧
       s.sys.phase = .failing ∧ (p0 || p1) = true) ∧
    (∃ (s : State), s.folio.running = none ∧ s.folio.bindEmpty = true ∧ s.sys.phase = .failing) ∧
    (∃ (s : State), s.sys.phase = .failing) :=
  ⟨⟨act, by decide +kernel⟩,
    ⟨regs [(BANK_PF_STAT.vin_low, 1)], by decide +kernel⟩,
    ⟨act, by decide +kernel⟩,
    ⟨regs [(BANK_PF_STAT.vin_low, 1), (FOLIO_STAT.persist, 1)], by decide +kernel⟩,
    ⟨{ full1 with folio := { Folio.reset with bindDue := some (4, false), bsnNext := 5, bsnTop := 100 } }, by
       decide +kernel⟩,
    ⟨{ cmt with kind := 1 }, true, true, { running { cmt with kind := 1 } with sys := { SysState.reset with
                                                                                                            phase := .failing
                                                                                                              } }, by
       decide +kernel⟩,
    ⟨{ act with sys := { SysState.reset with phase := .failing }, folio := { Folio.reset with bindEmpty := true } },
     by decide +kernel⟩,
    ⟨{ act with sys := { SysState.reset with phase := .failing } }, by decide +kernel⟩⟩

theorem test_meets_ReserveBankIsMeasuredAndRecorded :
    (∃ (s : State), s.sys.phase ≠ .off ∧ s.present 0x1C = true ∧ s.bank.vinDisagree = 0) ∧
    (∃ (vin : Nat) (s : State), s.sys.phase ≠ .off ∧ s.safe = false ∧ s.bank.vinDisagree = 1 ∧ (if s.on
                                                                                                  BANK_PF_STAT.vin_low
                                                                                                  = true then s.rd
                                                                                                  BANK_PF_CTL.vin_thresh
                                                                                                  * 100 + 500 < vin
                                                                                                  else vin + 500 <
                                                                                                  s.rd
                                                                                                  BANK_PF_CTL.vin_thresh
                                                                                                  * 100)) ∧
    (∃ (who : Accessor) (s : State), takes s who 0x1C = true ∧ s.on BANK_STAT.measuring = false ∧
       s.sys.phase ≠ .failing) ∧
    (∃ (s : State), (s.bank.startMeasured = true ∨ s.bank.discards ≠ 0) ∧ s.present 0x1C = true ∧
       s.on BANK_STAT.measuring = false ∧ s.sys.phase ≠ .off ∧ s.sys.phase ≠ .failing) ∧
    (∃ (r : Nat) (s : State), s.bank.retryAt = some r ∧ s.on BANK_STAT.measuring = false ∧ s.sys.phase ≠ .off ∧
       s.sys.phase ≠ .failing) ∧
    (∃ (s : State), s.on BANK_STAT.measuring = true) ∧
    (∃ (v1 v2 v3 : Nat) (s : State), s.on BANK_STAT.measuring = true ∧ s.bank.v1 = some v1 ∧ s.bank.v2 = some v2 ∧
       v3 < v2 ∧ 20000 ≤ 9500000000 / (v2 - v3) ∧ 9500000000 / (v2 - v3) ≤ 1000000 ∧ 1000000 ≤ v3) ∧
    (∃ (who : Accessor) (s : State), takes s who 0x1C = true ∧ s.sys.vauxGood = true ∧ s.bank.recWrite = none) ∧
    (∃ (n : Nat) (s : State), s.sb.retrying = some n) ∧
    (∃ (s : State), s.sys.vauxGood = true ∧ s.bank.recWrite = none ∧ s.sb.retrying = none) ∧
    (∃ (k : Nat) (s : State), s.bank.recDue = some k ∧ s.bank.recWrite = none ∧ s.sb.retrying = none ∧
       s.bank.eeprom.isSome = true ∧ s.sys.vauxGood = true ∧ s.bindBusy = false ∧ s.sys.phase ≠ .failing) ∧
    (∃ (r : EepromRec) (s : State), s.bank.recWrite = some (r, 1)) ∧
    (∃ (r : EepromRec) (s : State), s.bank.recWrite = some (r, 2)) :=
  ⟨⟨act, by decide +kernel⟩,
    ⟨7999, bankS { ReserveBank.reset with vinDisagree := 1 }, by decide +kernel⟩,
    ⟨.sideband, act, by decide +kernel⟩,
    ⟨bankS { ReserveBank.reset with startMeasured := true }, by decide +kernel⟩,
    ⟨9, bankS { ReserveBank.reset with retryAt := some 9 }, by decide +kernel⟩,
    ⟨regs [(BANK_STAT.measuring, 1)], by decide +kernel⟩,
    ⟨56000000, 55990000, 55947000, { regs [(BANK_STAT.measuring, 1)] with bank := { ReserveBank.reset with
                                                                                                           v0 := 56001000,
                                                                                                           v1 := some
                                                                                                             56000000,
                                                                                                           v2 := some
                                                                                                             55990000
                                                                                                             } }, by
       decide +kernel⟩,
    ⟨.sideband, { act with sys := { act.sys with vauxGood := true } }, by decide +kernel⟩,
    ⟨2, { act with sb := { SidebandState.reset with retrying := some 2 } }, by decide +kernel⟩,
    ⟨{ act with sys := { act.sys with vauxGood := true } }, by decide +kernel⟩,
    ⟨3, { act with sys := { act.sys with vauxGood := true }, bank := { ReserveBank.reset with recDue := some 3,
                                                                                              eeprom := some ee } },
     by decide +kernel⟩,
    ⟨rec1, bankS { ReserveBank.reset with recWrite := some (rec1, 1) }, by decide +kernel⟩,
    ⟨rec1, bankS { ReserveBank.reset with recWrite := some (rec1, 2) }, by decide +kernel⟩⟩

theorem test_meets_KeyCommandsSetTheirTables :
    (∃ (session : Session) (load : KeyLoad) (s : State), s.sessionOpen session = true ∧
       s.loadStatus session load = none ∧ s.on FOLIO_CTL.key_retain = false) ∧
    (∃ (session : Session) (slot : Nat) (s : State), s.sessionOpen session = true ∧ s.keysForbidden = false ∧
       slot ≤ 263 ∧ s.hasAuthority session slot = true ∧ s.on FOLIO_CTL.key_retain = false) ∧
    (∃ (ld : Nat) (s : State), s.sessionOpen .fm = true ∧ s.keysForbidden = false ∧ ld ≤ 15 ∧
       s.on FOLIO_CTL.key_retain = false) ∧
    (∃ (index base stop : Nat) (s : State), s.sessionOpen .fm = true ∧ s.keysForbidden = false ∧ index ≤ 7 ∧
       s.rangeRefused index base stop = false ∧ s.on FOLIO_CTL.key_retain = false) ∧
    (∃ (session : Session) (slot : Nat) (s : State), s.sessionOpen session = true ∧ s.keysForbidden = false ∧
       slot ≤ 263 ∧ s.hasAuthority session slot = true) :=
  ⟨⟨.fm, load0, keyed, by decide +kernel⟩,
    ⟨.fm, 263, { keyed with crypto := { Crypto.reset with keys := [(0, slotL false), (263, slotL true)] } }, by
       decide +kernel⟩,
    ⟨15, keyed, by decide +kernel⟩,
    ⟨7, 0, 4, keyed, by decide +kernel⟩,
    ⟨.fm, 5, keyed, by decide +kernel⟩⟩

theorem test_meets_FailedKeyCommandsChangeNoTable :
    (∃ (session : Session) (load : KeyLoad) (st : Nat) (s : State), s.sessionOpen session = true ∧
       s.loadStatus session load = some st) ∧
    (∃ (port : PortNo) (ld : LdNo) (n : Nat) (s : State), s.sessionOpen (.ld port ld) = true ∧ s.keysForbidden = false
       ∧ n ≤ 15) ∧
    (∃ (session : Session) (s : State), s.sessionOpen session = true) ∧
    (∃ (session : Session) (s : State), s.sessionOpen session = false) ∧
    (∃ (session : Session) (s : State), s.sessionOpen session = false) ∧
    (∃ (session : Session) (s : State), s.sessionOpen session = false) ∧
    (∃ (session : Session) (s : State), s.sessionOpen session = false) ∧
    (∃ (session : Session) (s : State), s.sessionOpen session = false) ∧
    (∃ (session : Session) (s : State), s.sessionOpen session = false) :=
  ⟨⟨.fm, { load0 with k2 := 7 }, 3, keyed, by decide +kernel⟩,
    ⟨0, 0, 15, keyed, by decide +kernel⟩,
    ⟨.fm, keyed, by decide +kernel⟩,
    ⟨.fm, act, by decide +kernel⟩,
    ⟨.fm, act, by decide +kernel⟩,
    ⟨.fm, act, by decide +kernel⟩,
    ⟨.fm, act, by decide +kernel⟩,
    ⟨.fm, act, by decide +kernel⟩,
    ⟨.fm, act, by decide +kernel⟩⟩

theorem test_meets_KeyRecordAndKeyTable :
    (∃ (who : Accessor) (s : State), takes s who 0x1B = true ∧ s.on FOLIO_CTL.key_retain = true ∧
       s.on (LOCK.lock.on 0x1B) = false) ∧
    (∃ (before : KeyTables) (answers : List (List Nat)) (s : State), s.crypto.commit = some (before, answers) ∧
       s.on FOLIO_CTL.key_retain = false ∧ Sparse.wf (fun _ => KeySlot.empty) s.crypto.keys = true) ∧
    (∃ (before : KeyTables) (answers : List (List Nat)) (s : State), s.crypto.commit = some (before, answers) ∧
       s.crypto.retried = false) ∧
    (∃ (before : KeyTables) (answers : List (List Nat)) (s : State), s.crypto.commit = some (before, answers) ∧
       s.crypto.retried = true) ∧
    (∃ (slot : SlotNo) (s : State), (s.key slot).lost = true) :=
  ⟨⟨.sideband, withRegs keyed [(FOLIO_CTL.key_retain, 1)], by decide +kernel⟩,
    ⟨{ keys := [(5, slotL false)], rights := [], ranges := [], rekey := 0 }, [[0, 7]], { keyed with crypto := {
                                                                                                                Crypto.reset
                                                                                                                  with
                                                                                                                       commit := some
                                                                                                                         ({
                                                                                                                            keys := [(5,
                                                                                                                                      slotL
                                                                                                                                        false)],
                                                                                                                            rights := [],
                                                                                                                            ranges := [],
                                                                                                                            rekey := 0
                                                                                                                              },
                                                                                                                          [[0,
                                                                                                                            7]])
                                                                                                                         }
                                                                                                      }, by
       decide +kernel⟩,
    ⟨{ keys := [(5, slotL false)], rights := [], ranges := [], rekey := 0 }, [[0, 7]], { keyed with crypto := {
                                                                                                                Crypto.reset
                                                                                                                  with
                                                                                                                       commit := some
                                                                                                                         ({
                                                                                                                            keys := [(5,
                                                                                                                                      slotL
                                                                                                                                        false)],
                                                                                                                            rights := [],
                                                                                                                            ranges := [],
                                                                                                                            rekey := 0
                                                                                                                              },
                                                                                                                          [[0,
                                                                                                                            7]])
                                                                                                                         }
                                                                                                      }, by
       decide +kernel⟩,
    ⟨{ keys := [(5, slotL false)], rights := [], ranges := [], rekey := 0 }, [[0, 7]], { keyed with crypto := {
                                                                                                                Crypto.reset
                                                                                                                  with
                                                                                                                       commit := some
                                                                                                                         ({
                                                                                                                            keys := [(5,
                                                                                                                                      slotL
                                                                                                                                        false)],
                                                                                                                            rights := [],
                                                                                                                            ranges := [],
                                                                                                                            rekey := 0
                                                                                                                              },
                                                                                                                          [[0,
                                                                                                                            7]]),
                                                                                                                       retried := true
                                                                                                                         }
                                                                                                      }, by
       decide +kernel⟩,
    ⟨5, { keyed with crypto := { Crypto.reset with keys := [(5, { slotL false with loaded := false, lost := true })] }
                       }, by decide +kernel⟩⟩

theorem test_meets_CarveOutAndTagCache :
    (∃ (who : Accessor) (s : State), takes s who 0x19 = true ∧ s.carve = false ∧ s.carveRefusal true false = none) ∧
    (∃ (who : Accessor) (s : State), takes s who 0x19 = true ∧ s.carve = true ∧ s.carveRefusal false false = none) ∧
    (∃ (who : Accessor) (activate : Bool) (reason : Nat) (s : State), takes s who 0x19 = true ∧ s.carve ≠ activate ∧
       s.carveRefusal activate false = some reason) ∧
    (∃ (who : Accessor) (s : State), takes s who 0x19 = true) :=
  ⟨⟨.sideband, act, by decide +kernel⟩,
    ⟨.sideband, regs [(KERF_STACK_CFG.carve_out, 1)], by decide +kernel⟩,
    ⟨.sideband, true, 4, regs [(KERF_STAT.state.ix 0, 2)], by decide +kernel⟩,
    ⟨.sideband, { act with crypto := { Crypto.reset with tags := [(4, some { data := 5, dirty := true, pair := 3 })] }
                             }, by decide +kernel⟩⟩

theorem test_meets_ChiselRingsAndJobs :
    (∃ (who : Accessor) (ring : RingNo) (s : State), ownRingOpen s who ring = true) ∧
    (∃ (who : Accessor) (ring : RingNo) (val : Word) (s : State), ownRingOpen s who ring = true ∧
       s.on (CHISEL_RING_CTL.enable.ix ring) = false ∧ bitOf val.toNat 0 = true) ∧
    (∃ (who : Accessor) (ring : RingNo) (val : Word) (s : State), ownRingOpen s who ring = true ∧ s.ringJobs ring = []
       ∧ bitOf val.toNat 0 = false) ∧
    (∃ (ring : RingNo) (j : Job) (s : State), (s.ringJobs ring).find? (fun j => !j.started && j.cut.isNone) = some j ∧
       s.fenceHolds j = false ∧ (s.key (s.slotFor (locOf j.src) j.keyId)).loaded = true ∧
       s.permitted ring (s.slotFor (locOf j.src) j.keyId) = true) ∧
    (∃ (ring : RingNo) (lane : PcNo) (j : Job) (s : State),
     (s.ringJobs ring).find? (fun j => j.started || j.cut.isSome) = some j ∧ j.cut = none ∧ s.jobPauses j = false ∧
       s.recalls (s.resumeLane.finishJob j false lane) = []) ∧
    (∃ (r : Nat) (rest : List Nat) (s : State), s.chisel.msix = r :: rest ∧ (s.port (r / 4)).l1Req = false ∧
       s.rd (PHY_STAT.pm_state.port (r / 4)) = 0) ∧
    (∃ (who : Accessor) (ring : RingNo) (val : Word) (j : Job) (s : State), ownRingOpen s who ring = true ∧
       bitOf val.toNat 24 = true ∧ bitOf val.toNat 25 = true ∧ s.ringJobs ring = [j] ∧ j.cut = none ∧
       s.jobPauses j = false) :=
  ⟨⟨.fn 0 0, 0, hosted, by decide +kernel⟩,
    ⟨.fn 0 0, 0, 0x501, hosted, by decide +kernel⟩,
    ⟨.fn 0 0, 0, 0, withRegs hosted [(CHISEL_RING_CTL.enable.ix 0, 1)], by decide +kernel⟩,
    ⟨0, job0, jobS job0, by decide +kernel⟩,
    ⟨0, 0, { job0 with started := true }, jobS { job0 with started := true }, by decide +kernel⟩,
    ⟨1, [2], { act with chisel := { ChiselState.reset with msix := [1, 2] } }, by decide +kernel⟩,
    ⟨.fn 0 0, 0, 0x03000000, { job0 with started := true }, { jobS { job0 with started := true } with
                                                                                                      flds := (withRegs
                                                                                                                 hosted
                                                                                                                 [(FOLIO_STAT.persist,
                                                                                                                   0)]).flds
                                                                                                        }, by
       decide +kernel⟩⟩

theorem test_meets_GaugeWindowAndTable :
    ∃ (s : State), s.sys.phase ≠ .off :=
  ⟨act, by decide +kernel⟩

theorem test_meets_DoveFlitsAreAcceptedOrReplayed :
    (∃ (f : DoveFlit) (r : FlitRead) (s : State), s.linkUp = true ∧ s.readFlit f = r ∧ r.fecOk = true ∧
       r.fecCorrected = false ∧ r.crcOk = true ∧ ((r.prot = true → r.macOk = true)) ∧ r.kind = 0 ∧
       r.seq = s.dove.rxSeq + 1 ∧ r.messages = [.pad]) ∧
    (∃ (f : DoveFlit) (r : FlitRead) (s : State), s.linkUp = true ∧ s.readFlit f = r ∧ r.fecOk = true ∧
       r.fecCorrected = false ∧ r.crcOk = false ∧ s.dove.sameAck < 3 ∧ s.dove.fecRun < 8) ∧
    (∃ (s : State), s.linkUp = true ∧ s.dove.lastReplay = none ∧ s.dove.txWait = []) :=
  ⟨⟨flit0, paired.readFlit flit0, paired, by decide +kernel⟩,
    ⟨flitCrc, paired.readFlit flitCrc, paired, by decide +kernel⟩,
    ⟨paired, by decide +kernel⟩⟩

theorem test_meets_DovePairMessages :
    (∃ (s : State), s.linkUp = true ∧ s.rd DOVE_STAT.pair ≠ 3) ∧
    (∃ (b : Beat) (s : State), pairUp s = true ∧ b.safe = false ∧ b.resync = true ∧ s.dove.withdrawing = []) ∧
    (∃ (s : State), s.rd DOVE_STAT.link = 2 ∧ s.rd DOVE_STAT.pair ≠ 3) ∧
    (∃ (s : State), pairUp s = true ∧ s.dove.strokes = [] ∧ s.stalled = [] ∧ s.dove.withdrawing = []) ∧
    (∃ (range : RangeNo) (promoted : Bool) (s : State), pairUp s = true ∧ s.configured range = true ∧
       s.primary range = promoted ∧ s.rangeState range ≠ 4) ∧
    (∃ (s : State), pairUp s = true) :=
  ⟨⟨regs [(DOVE_STAT.link, 3)], by decide +kernel⟩,
    ⟨beat0, paired, by decide +kernel⟩,
    ⟨regs [(DOVE_STAT.link, 2)], by decide +kernel⟩,
    ⟨paired, by decide +kernel⟩,
    ⟨2, true, ranged [(DOVE_RANGE_STAT.primary.ix 2, 1)], by decide +kernel⟩,
    ⟨paired, by decide +kernel⟩⟩

theorem test_meets_DoveLineAndRangeMessages :
    (∃ (w : Mwrite) (n : Nat) (s : State), pairUp s = true ∧ s.mirrorOf w.loc.toNat = some n ∧ s.primary n = false ∧
       s.dove.applied < w.osn ∧ s.dove.applyWait = [] ∧ s.holdsAny (s.writeQuires (s.mwriteReq w)) = false ∧
       s.recalls (s.applyWrite w) = []) ∧
    (∃ (loc : Loc) (n : Nat) (s : State), pairUp s = true ∧ s.dove.applyWait = [] ∧
       s.mirrorOf (lineAddr loc.toNat) = some n ∧ s.rekeyCovers (quireOf (lineAddr loc.toNat)) = false ∧
       s.primary n = true ∧ s.unfinishedBy (quireOf (lineAddr loc.toNat)) = none ∧ quiet s = true ∧
       s.snoopPort none (lineAddr loc.toNat) false = none ∧ (s.judge (lineAddr loc.toNat) []).outcome = .cleared ∧
       (s.judge (lineAddr loc.toNat) []).lanes = []) ∧
    (∃ (ident : Nat) (loc : Loc) (f : FormLine) (r : Recovery) (s : State), pairUp s = true ∧ s.dove.applyWait = [] ∧
       s.recoveries.find? (fun r => decide (r.ident = ident)) = some r ∧ f.kind = 2 ∧ r.waiting = [] ∧ r.writes = [] ∧
       quiet s = true ∧ s.unfinishedBy (quireOf r.loc) = none ∧ s.holdsAny [quireOf r.loc] = false ∧ s.bist.inj = [] ∧
       s.recalls (s.onRrsp ident loc.toNat f) = []) ∧
    (∃ (stroke : Nat) (loc : Loc) (f g : FormLine) (s : State), pairUp s = true ∧ s.dove.applyWait = [] ∧ f.kind = 2 ∧
       g.kind = 2 ∧ quiet s = true ∧ s.bist.inj = [] ∧
       s.holdsAny [quireOf loc.toNat, quireOf (loc.toNat + 64)] = false ∧ s.unfinishedBy (quireOf loc.toNat) = none ∧
       s.unfinishedBy (quireOf (loc.toNat + 64)) = none ∧ s.recalls (s.applyRdata stroke loc.toNat f g) = []) ∧
    (∃ (s : State), pairUp s = true) ∧
    (∃ (s : State), pairUp s = true) ∧
    (∃ (range : RangeNo) (base stop : Nat) (s : State), pairUp s = true ∧ s.configured range = false ∧
       s.rangeFits range base stop = true) :=
  ⟨⟨mw0, 2, ranged [(FOLIO_STAT.persist, 0)], by decide +kernel⟩,
    ⟨64, 2, ranged [(DOVE_RANGE_STAT.primary.ix 2, 1)], by decide +kernel⟩,
    ⟨3, 64, form0, rec0, { ranged [(DOVE_RANGE_STAT.primary.ix 2, 1), (FOLIO_STAT.persist, 0)] with
                                                                                                    recoveries := [rec0]
                                                                                                      }, by
       decide +kernel⟩,
    ⟨3, 64, form0, form0, ranged [(FOLIO_STAT.persist, 0)], by decide +kernel⟩,
    ⟨ranged [], by decide +kernel⟩,
    ⟨ranged [], by decide +kernel⟩,
    ⟨2, 0, 64, paired, by decide +kernel⟩⟩

theorem test_meets_DoveTimersAndResync :
    (∃ (s : State), s.linkSafe = true ∧ s.dove.applyWait = []) ∧
    (∃ (s : State), s.joined = true) ∧
    (∃ (s : State), pairUp s = true ∧ s.dove.applyWait = [] ∧ s.dove.mackDue = true) ∧
    (∃ (l : Nat) (s : State), s.dove.lossAt = some l ∧ s.on DOVE_CTL.auto_promote = true) ∧
    (∃ (r : Req) (since : Nat) (s : State), s.dove.waiting = [(r, since)] ∧ s.queueBlocks r = false) ∧
    (∃ (q : Nat) (s : State), s.mayStroke 4 = true ∧ pairUp s = true ∧ (s.eng 4).target = some q ∧
       (s.eng 4).strokesOf q < 64 ∧ s.rekeyMeets (s.rd (KERF_ARG.range.ix 4)) = false ∧ s.unfinishedBy q = none ∧
       s.pullBit q = true ∧ s.pushBit q = false) :=
  ⟨⟨paired, by decide +kernel⟩,
    ⟨paired, by decide +kernel⟩,
    ⟨{ paired with dove := { DoveState.reset with mackDue := true } }, by decide +kernel⟩,
    ⟨7, { ranged [(DOVE_CTL.auto_promote, 1)] with dove := { DoveState.reset with lossAt := some 7 } }, by
       decide +kernel⟩,
    ⟨rqF, 4, { paired with dove := { DoveState.reset with waiting := [(rqF, 4)] } }, by decide +kernel⟩,
    ⟨3, { ranged [(KERF_STAT.state.ix 4, 2), (KERF_ARG.range.ix 4, 2)] with kerf := [(4, { KerfEng.reset with
                                                                                                              sel := [(3,
                                                                                                                       4)],
                                                                                                              todo := [(3,
                                                                                                                        4)]
                                                                                                                })],
                                                                            dove := { DoveState.reset with
                                                                                                           pull := [(3,
                                                                                                                     true)]
                                                                                                             } }, by
       decide +kernel⟩⟩

theorem test_meets_DoveCommandsAct :
    (∃ (who : Accessor) (s : State), takes s who 0x14 = true ∧ s.linkSafe = true ∧ s.unlifted = 0) ∧
    (∃ (who : Accessor) (s : State), takes s who 0x14 = true ∧ pairUp s = true) ∧
    (∃ (who : Accessor) (range : RangeNo) (s : State), takes s who 0x14 = true ∧ s.joined = false ∧
       s.configured range = false ∧ s.rangeFits range (s.rangeBase range) (s.rangeEnd range) = true) ∧
    (∃ (who : Accessor) (range : RangeNo) (s : State), takes s who 0x14 = true ∧ s.configured range = true ∧
       s.dove.queue = [] ∧ s.dove.withdrawing = []) ∧
    (∃ (who : Accessor) (range : RangeNo) (s : State), takes s who 0x14 = true ∧ s.configured range = true ∧
       s.primary range = false) ∧
    (∃ (who : Accessor) (range : RangeNo) (s : State), takes s who 0x14 = true ∧ s.primary range = true ∧
       (s.rangeState range = 3 ∨ s.rangeState range = 4)) ∧
    (∃ (who : Accessor) (s : State), takes s who 0x14 = true ∧ s.on DOVE_PARTNER.valid = true ∧
       s.on DOVE_PARTNER.replaced = true ∧ s.dove.hello = none) ∧
    (∃ (ppm : Int), ppm.natAbs ≤ 100) :=
  ⟨⟨.sideband, regs [(DOVE_STAT.link, 3)], by decide +kernel⟩,
    ⟨.sideband, paired, by decide +kernel⟩,
    ⟨.sideband, 2, regs [(DOVE_RANGE_BASE.base_quire.ix 2, 4), (DOVE_RANGE_END.end_quire.ix 2, 64)], by
       decide +kernel⟩,
    ⟨.sideband, 2, ranged [], by decide +kernel⟩,
    ⟨.sideband, 2, ranged [], by decide +kernel⟩,
    ⟨.sideband, 2, ranged [(DOVE_RANGE_STAT.primary.ix 2, 1), (DOVE_RANGE_STAT.state.ix 2, 3)], by decide +kernel⟩,
    ⟨.sideband, regs [(DOVE_PARTNER.valid, 1), (DOVE_PARTNER.replaced, 1)], by decide +kernel⟩,
    ⟨-100, by decide +kernel⟩⟩

theorem test_meets_PortsAreResetAndTrain :
    (∃ (port : PortNo) (group : GroupNo) (s : State), group.val = port.val ∧ s.hasPort port = true ∧
       s.sys.phase = .active ∧ s.stalled = [] ∧ s.chisel.jobs = [] ∧ s.folio.held = []) ∧
    (∃ (port : PortNo) (s : State), s.hasPort port = true ∧ s.linkOpen port = true ∧ s.sys.phase = .active ∧
       s.stalled = [] ∧ s.chisel.jobs = [] ∧ s.folio.held = []) ∧
    (∃ (port : PortNo) (s : State), s.hasPort port = true ∧ s.linkOpen port = true ∧ s.sys.phase = .active) ∧
    (∃ (port : PortNo) (group : GroupNo) (s : State), group.val = port.val ∧
       (s.setPort port { s.port port with perstHigh := true }).mayTrain port = true ∧
       s.rd (PHY_STAT.ltssm.port port) = 0) :=
  ⟨⟨0, 0, hosted, by decide +kernel⟩,
    ⟨0, hosted, by decide +kernel⟩,
    ⟨0, hosted, by decide +kernel⟩,
    ⟨0, 0, regs [(CLK_SRC_STAT.ref_ok, 1), (SYS_START_STAT.stage, 9)], by decide +kernel⟩⟩

theorem test_meets_DecodersAndIdeStreams :
    (∃ (port : PortNo) (ld : LdNo) (index : LdNo × Bool) (s : State), s.hasPort port = true ∧ s.linkOpen port = true ∧
       ((∀ o, Sparse.get (fun _ => none) (s.ld (masterOf port ld)).decoders (index.1.val * 2 + index.2.toNat) = some o
           → o.lock = false))) ∧
    (∃ (port : PortNo) (ld : LdNo) (index : LdNo × Bool) (o : Decoder) (s : State), Sparse.get (fun _ => none) (s.ld
                                                                                                                  (masterOf
                                                                                                                     port
                                                                                                                     ld)).decoders
       (index.1.val * 2 + index.2.toNat) = some o ∧ o.lock = true) ∧
    (∃ (port : PortNo) (keySet : Bool) (s : State), s.hasPort port = true ∧ s.linkOpen port = true ∧
       s.sb.sessions ≠ [] ∧ (3, keySet) ∈ (s.port port).keysProgrammed) ∧
    (∃ (port : PortNo) (stream : Fin 4) (keySet : Bool) (s : State), s.hasPort port = true ∧ s.linkOpen port = true ∧
       s.sb.sessions ≠ [] ∧ (stream.val, keySet) ∈ (s.port port).keysProgrammed ∧ stream.val ∈ (s.port port).streams) ∧
    (∃ (s : State), s.sb.sessions = []) ∧
    (∃ (port : PortNo) (s : State), 3 ∈ (s.port port).streams) ∧
    (∃ (port : PortNo) (s : State), s.hasPort port = true ∧ s.linkOpen port = true) :=
  ⟨⟨0, 0, (9, true), hosted, by decide +kernel⟩,
    ⟨0, 0, (0, false), { span with lock := true }, { hosted with lds := [(0, { LdState.reset with decoders := [(0,
                                                                                                                some {
                                                                                                                       span
                                                                                                                         with
                                                                                                                              lock := true
                                                                                                                                })]
                                                                                                    })] }, by
       decide +kernel⟩,
    ⟨0, true, { hosted with ports := [(0, { PortState.reset with keysProgrammed := [(3, true)] })], sb := {
                                                                                                            SidebandState.reset
                                                                                                              with
                                                                                                                   sessions := [(0,
                                                                                                                                 0,
                                                                                                                                 none)]
                                                                                                                     }
                              }, by decide +kernel⟩,
    ⟨0, 2, true, { hosted with ports := [(0, { PortState.reset with keysProgrammed := [(2, true)], streams := [2] })],
                               sb := { SidebandState.reset with sessions := [(0, 0, none)] } }, by decide +kernel⟩,
    ⟨hosted, by decide +kernel⟩,
    ⟨0, { hosted with ports := [(0, { PortState.reset with streams := [3] })] }, by decide +kernel⟩,
    ⟨0, hosted, by decide +kernel⟩⟩

theorem test_meets_BackInvalidatesEndAndAerIsSent :
    (∃ (port : PortNo) (loc : Loc) (i : BackInv) (s : State),
     (s.port port).inv.find? (fun i => decide (i.loc = lineAddr loc.toNat)) = some i ∧ s.stalled = [] ∧
       s.dove.applyWait = []) ∧
    (∃ (port : PortNo) (loc : Loc) (s : State),
     (s.port port).inv.find? (fun i => decide (i.loc = lineAddr loc.toNat)) = none) ∧
    (∃ (port : PortNo) (loc : Loc) (s : State),
     (s.port port).inv.find? (fun i => decide (i.loc = lineAddr loc.toNat)) = none) ∧
    (∃ (port : PortNo) (loc : Loc) (i : BackInv) (s : State),
     (s.port port).inv.find? (fun i => decide (i.loc = lineAddr loc.toNat)) = some i ∧ s.stalled = [] ∧
       s.dove.applyWait = []) ∧
    (∃ (port : PortNo) (l sev : Nat) (rest : List (Nat × Nat)) (s : State), (s.port port).aer = (l, sev) :: rest ∧
       s.rd (PORT_LINK_STAT.mode.port port) ≠ 0 ∧ s.rd (PHY_STAT.pm_state.port port) = 0 ∧
       (s.port port).l1Req = false) :=
  ⟨⟨0, 64, { loc := 64, inval := true, sentAt := 5 }, { hosted with ports := [(0, { PortState.reset with inv := [{
                                                                                                                    loc := 64,
                                                                                                                    inval := true,
                                                                                                                    sentAt := 5
                                                                                                                      }]
                                                                                                            })] }, by
       decide +kernel⟩,
    ⟨0, 64, hosted, by decide +kernel⟩,
    ⟨0, 64, hosted, by decide +kernel⟩,
    ⟨0, 64, { loc := 64, inval := true, sentAt := 5 }, { hosted with ports := [(0, { PortState.reset with inv := [{
                                                                                                                    loc := 64,
                                                                                                                    inval := true,
                                                                                                                    sentAt := 5
                                                                                                                      }]
                                                                                                            })] }, by
       decide +kernel⟩,
    ⟨0, 2, 1, [(3, 0)], { hosted with ports := [(0, { PortState.reset with aer := [(2, 1), (3, 0)] })] }, by
       decide +kernel⟩⟩

theorem test_meets_MailboxReportsChangeNothing :
    (∃ (port : PortNo) (ld : LdNo) (s : State) (log : LogName), mboxServes s port ld = true ∧
       ((s.ld (masterOf port ld)).log (logNo log)).length ≤ 31) ∧
    (∃ (port : PortNo) (ld : LdNo) (s : State), mboxServes s port ld = true) ∧
    (∃ (port : PortNo) (ld : LdNo) (s : State), mboxServes s port ld = true) ∧
    (∃ (port : PortNo) (ld : LdNo) (s : State), mboxServes s port ld = true) ∧
    (∃ (port : PortNo) (ld : LdNo) (s : State), mboxServes s port ld = true) ∧
    (∃ (port : PortNo) (ld : LdNo) (s : State), mboxServes s port ld = true) ∧
    (∃ (port : PortNo) (ld : LdNo) (s : State), mboxServes s port ld = true) ∧
    (∃ (port : PortNo) (ld : LdNo) (s : State), mboxServes s port ld = true ∧ s.lifeCycle ≠ 1) ∧
    (∃ (port : PortNo) (ld : LdNo) (s : State), mboxServes s port ld = true) ∧
    (∃ (port : PortNo) (ld : LdNo) (s : State), mboxServes s port ld = true) ∧
    (∃ (port : PortNo) (ld : LdNo) (s : State), mboxServes s port ld = true) ∧
    (∃ (port : PortNo) (ld : LdNo) (s : State), mboxServes s port ld = true) ∧
    (∃ (port : PortNo) (ld : LdNo) (s : State) (dpa : BitVec 44) (len : Nat), mboxServes s port ld = true ∧
       s.owns port ld dpa.toNat len = true ∧ s.mbox.poison = [] ∧ s.mbox.poisonOverflow = none) ∧
    (∃ (port : PortNo) (ld : LdNo) (s : State) (dpa : BitVec 44) (len : Nat), mboxServes s port ld = true ∧
       s.owns port ld dpa.toNat len = true) ∧
    (∃ (port : PortNo) (ld : LdNo) (s : State), mboxServes s port ld = true) ∧
    (∃ (port : PortNo) (ld : LdNo) (s : State), mboxServes s port ld = true) ∧
    (∃ (port : PortNo) (ld : LdNo) (s : State) (page : Page), mboxServes s port ld = true ∧ s.admin port ld = true ∧
       s.present page.val = true) ∧
    (∃ (port : PortNo) (ld : LdNo) (s : State) (off : BitVec 32), mboxServes s port ld = true ∧ s.admin port ld = true
       ∧ off.toNat % 4 = 0 ∧ off.toNat < 0x80000 ∧ off.toNat ≠ 0x1108 ∧ awake s (off.toNat / 4096) = true) ∧
    (∃ (port : PortNo) (s : State), s.hasPort port = true ∧ s.on (PORT_LINK_STAT.mld.port port) = true ∧
       s.rd (PORT_LINK_STAT.mode.port port) ≠ 0 ∧ s.sys.mgmtDown = none ∧ s.lifeCycle ≠ 4) ∧
    (∃ (port : PortNo) (s : State), s.hasPort port = true ∧ s.on (PORT_LINK_STAT.mld.port port) = true ∧
       s.rd (PORT_LINK_STAT.mode.port port) ≠ 0 ∧ s.sys.mgmtDown = none ∧ s.lifeCycle ≠ 4) :=
  ⟨⟨0, 0, admin, .fail, by decide +kernel⟩,
    ⟨0, 0, admin, by decide +kernel⟩,
    ⟨0, 0, admin, by decide +kernel⟩,
    ⟨0, 0, admin, by decide +kernel⟩,
    ⟨0, 0, admin, by decide +kernel⟩,
    ⟨0, 0, admin, by decide +kernel⟩,
    ⟨0, 0, admin, by decide +kernel⟩,
    ⟨0, 0, admin, by decide +kernel⟩,
    ⟨0, 0, admin, by decide +kernel⟩,
    ⟨0, 0, admin, by decide +kernel⟩,
    ⟨0, 0, admin, by decide +kernel⟩,
    ⟨0, 0, admin, by decide +kernel⟩,
    ⟨0, 0, admin, 5, 20000003, by decide +kernel⟩,
    ⟨0, 0, admin, 5, 20000003, by decide +kernel⟩,
    ⟨0, 0, admin, by decide +kernel⟩,
    ⟨0, 0, admin, by decide +kernel⟩,
    ⟨0, 0, admin, 0x1B, by decide +kernel⟩,
    ⟨0, 0, admin, 0x1A104, by decide +kernel⟩,
    ⟨0, withRegs hosted [(PORT_LINK_STAT.mld.port 0, 1)], by decide +kernel⟩,
    ⟨0, withRegs hosted [(PORT_LINK_STAT.mld.port 0, 1)], by decide +kernel⟩⟩

theorem test_meets_MailboxCommandsTakeEffect :
    (∃ (port : PortNo) (ld : LdNo) (s : State), mboxServes s port ld = true) ∧
    (∃ (port : PortNo) (ld : LdNo) (s : State), mboxServes s port ld = true) ∧
    (∃ (port : PortNo) (ld : LdNo) (s : State), mboxServes s port ld = true ∧ s.admin port ld = true ∧
       s.fwBusy (some (masterOf port ld)) = false ∧ s.rd SB_FW_STAT.active_slot = 0) ∧
    (∃ (port : PortNo) (ld : LdNo) (s : State), mboxServes s port ld = true ∧ s.admin port ld = true ∧
       s.fwFits = true) ∧
    (∃ (old at_ : Nat) (s : State), s.sb.trying = some (old, at_)) ∧
    (∃ (port : PortNo) (ld : LdNo) (s : State), mboxServes s port ld = true ∧
       (s.tbValid = false ∨ s.on (PORT_LD_CFG.ts_master.ld port ld) = true)) ∧
    (∃ (port : PortNo) (ld : LdNo) (s : State), mboxServes s port ld = true ∧ s.tbValid = true ∧
       s.on (PORT_LD_CFG.ts_master.ld port ld) = false) ∧
    (∃ (port : PortNo) (ld : LdNo) (s : State), mboxServes s port ld = true) ∧
    (∃ (port : PortNo) (ld : LdNo) (s : State), mboxServes s port ld = true ∧ s.lifeCycle ≠ 1) ∧
    (∃ (port : PortNo) (ld : LdNo) (cls : Fin 4) (dpa : BitVec 44) (s : State), mboxServes s port ld = true ∧
       s.admin port ld = true ∧ cls.val ≠ 3 ∧ (askedRepair s dpa.toNat).repairRefusal = none) ∧
    (∃ (port : PortNo) (ld : LdNo) (cls : Fin 4) (dpa : BitVec 44) (reason : Nat) (s : State),
     mboxServes s port ld = true ∧ s.admin port ld = true ∧ cls.val ≠ 3 ∧
       (askedRepair s dpa.toNat).repairRefusal = some reason) ∧
    (∃ (port : PortNo) (ld : LdNo) (s : State), mboxServes s port ld = true ∧ s.admin port ld = true) ∧
    (∃ (port : PortNo) (ld : LdNo) (s : State), mboxServes s port ld = true ∧ s.admin port ld = true) ∧
    (∃ (port : PortNo) (ld : LdNo) (dpa : BitVec 44) (s : State), mboxServes s port ld = true ∧ s.admin port ld = true
       ∧ s.lifeCycle = 1 ∧ s.openLoc (lineAddr (locOf dpa.toNat)) = true ∧ quiet s = true ∧
       s.wouldHold (quireOf (locOf dpa.toNat)) = false ∧ s.unfinishedBy (quireOf (lineAddr (locOf dpa.toNat))) = none
       ∧ s.snoopPort none (lineAddr (locOf dpa.toNat)) true = none) ∧
    (∃ (port : PortNo) (ld : LdNo) (dpa : BitVec 44) (s : State), mboxServes s port ld = true ∧
       s.owns port ld dpa.toNat 64 = true ∧ s.openLoc (lineAddr (locOf dpa.toNat)) = true ∧ quiet s = true ∧
       s.wouldHold (quireOf (locOf dpa.toNat)) = false ∧ s.unfinishedBy (quireOf (lineAddr (locOf dpa.toNat))) = none
       ∧ s.anyConfigured = false ∧ s.snoopPort none (lineAddr (locOf dpa.toNat)) true = none) ∧
    (∃ (port : PortNo) (ld : LdNo) (dpa : BitVec 44) (len : Nat) (s : State), mboxServes s port ld = true ∧
       s.owns port ld dpa.toNat len = true ∧ s.bgBusy 2 = false) ∧
    (∃ (port : PortNo) (ld : LdNo) (s : State), mboxServes s port ld = true ∧ s.mbox.scan.length ≤ 254) ∧
    (∃ (port : PortNo) (ld : LdNo) (s : State), mboxServes s port ld = true ∧ s.admin port ld = true ∧
       s.eraseRefusal = none) ∧
    (∃ (port : PortNo) (ld : LdNo) (dpa : BitVec 44) (n : Nat) (s : State), mboxServes s port ld = true ∧ 0 < n ∧
       s.owns port ld dpa.toNat (n * 2 ^ 20) = true ∧ locOf dpa.toNat % 2 ^ 20 = 0 ∧
       quireOf (locOf dpa.toNat) + n ≤ s.capacity ∧ s.anyConfigured = false ∧ s.kerfActive 0 = false ∧
       s.kerfActive 1 = false ∧ s.bgBusy 1 = false ∧ s.bindBusy = false) ∧
    (∃ (o : Background) (s : State), s.mbox.ops.find? (fun o => decide (o.kind = 0)) = some o ∧
       s.kerfActive 0 = false) ∧
    (∃ (port : PortNo) (ld : LdNo) (s : State), mboxServes s port ld = true ∧ s.persists = true ∧ s.bgBusy 3 = false ∧
       s.folio.running = none ∧ s.folio.ordered = none) ∧
    (∃ (port : PortNo) (ld : LdNo) (off : BitVec 32) (s : State), mboxServes s port ld = true ∧ s.admin port ld = true
       ∧ off.toNat < 0x80000) ∧
    (∃ (port : PortNo) (ld : LdNo) (toPort : PortNo) (s : State), mboxServes s port ld = true ∧ s.admin port ld = true
       ∧ s.hasPort toPort = true ∧ s.on (LOCK.lock.on (0x10 + toPort.val)) = false) ∧
    (∃ (port : PortNo) (ld : LdNo) (s : State), mboxServes s port ld = true) :=
  ⟨⟨0, 0, { hosted with lds := [(0, { LdState.reset with fail := [evr1, { evr1 with handle := 2 }] })] }, by
       decide +kernel⟩,
    ⟨0, 0, hosted, by decide +kernel⟩,
    ⟨0, 0, admin, by decide +kernel⟩,
    ⟨0, 0, { withRegs admin [(SB_FW_STAT.pending, 1)] with sb := { SidebandState.reset with slot1 := { version := 2,
                                                                                                       secver := 0,
                                                                                                       good := true }
                                                                                              } }, by decide +kernel⟩,
    ⟨1, 9, { act with sb := { SidebandState.reset with trying := some (1, 9) } }, by decide +kernel⟩,
    ⟨0, 0, hosted, by decide +kernel⟩,
    ⟨0, 0, withRegs hosted [(TB_STAT.valid, 1), (PORT_LD_CFG.ts_master.ld 0 0, 0)], by decide +kernel⟩,
    ⟨0, 0, hosted, by decide +kernel⟩,
    ⟨0, 0, withRegs admin [(SYS_LC.state, 2)], by decide +kernel⟩,
    ⟨0, 0, 2, 64, admin, by decide +kernel⟩,
    ⟨0, 0, 2, 64, 3, withRegs admin [(TIPIN_REQ_STAT.busy, 1)], by decide +kernel⟩,
    ⟨0, 0, admin, by decide +kernel⟩,
    ⟨0, 0, admin, by decide +kernel⟩,
    ⟨0, 0, 64, withRegs admin [(SYS_LC.state, 1), (FOLIO_STAT.persist, 0)], by decide +kernel⟩,
    ⟨0, 0, 64, withRegs admin [(FOLIO_STAT.persist, 0)], by decide +kernel⟩,
    ⟨0, 0, 0, 640, admin, by decide +kernel⟩,
    ⟨0, 0, admin, by decide +kernel⟩,
    ⟨0, 0, admin, by decide +kernel⟩,
    ⟨0, 0, 0, 3, admin, by decide +kernel⟩,
    ⟨{ kind := 0, port := 0, ld := 0, first := 0, lines := 0 }, { admin with mbox := { Mailbox.reset with ops := [{
                                                                                                                    kind := 0,
                                                                                                                    port := 0,
                                                                                                                    ld := 0,
                                                                                                                    first := 0,
                                                                                                                    lines := 0
                                                                                                                      }]
                                                                                                            } }, by
       decide +kernel⟩,
    ⟨0, 0, withRegs hosted [(FOLIO_STAT.persist, 1)], by decide +kernel⟩,
    ⟨0, 0, 0x14054, admin, by decide +kernel⟩,
    ⟨0, 0, 1, admin, by decide +kernel⟩,
    ⟨0, 0, hosted, by decide +kernel⟩⟩

theorem test_meets_MailboxRefusesOrWaits :
    (∃ (port : PortNo) (ld : LdNo) (s : State), mboxServes s port ld = true ∧ s.admin port ld = false) ∧
    (∃ (port : PortNo) (ld : LdNo) (dpa : BitVec 44) (len : Nat) (s : State), mboxServes s port ld = true ∧
       s.owns port ld dpa.toNat len = false) ∧
    (∃ (port : PortNo) (ld : LdNo) (at_ : Nat) (s : State), s.mboxOpen port ld = true ∧ s.sys.mgmtDown = some at_) :=
  ⟨⟨0, 0, withRegs hosted [(PORT_LD_CFG.admin.ld 0 0, 0)], by decide +kernel⟩,
    ⟨0, 0, 0, 64, withRegs hosted [(PORT_LD_ALLOC_END.end_quire.ld 0 0, 0)], by decide +kernel⟩,
    ⟨0, 0, 4, { hosted with sys := { hosted.sys with mgmtDown := some 4 } }, by decide +kernel⟩⟩

theorem test_meets_LinksTrain :
    (∃ (prev : Nat) (bits : List Bool), prev < 4 ∧ bits.length % 2 = 0) ∧
    (∃ (group : GroupNo) (lane : LaneNo) (offset : Fin 130) (eieos : Bool) (blocks : List (BitVec 130)) (s : State),
     s.rd (PHY_STAT.ltssm.port group) = 1 ∧ (laneOf s group lane).lock = none ∧
       ((eieos = true ∨ alignerLock [] blocks = some offset.val))) ∧
    (∃ (group : GroupNo) (lane : LaneNo) (s : State), group.val ≠ 4 ∧ s.rd (PHY_STAT.ltssm.port group) = 3 ∧
       s.rd (PORT_LINK_STAT.mode.port group) = 1 ∧ s.on (PHY_LANE_STAT.active.lane group lane) = true) ∧
    (∃ (group : GroupNo) (lane : LaneNo) (s : State), s.rd (PHY_STAT.ltssm.port group) = 1 ∧
       (laneOf s group lane).lock = none) ∧
    (∃ (group : GroupNo) (at_ : Nat) (s : State), (s.port group).retryAt = some at_) ∧
    (∃ (group : GroupNo) (mode : Fin 5) (lo : Bool) (unusable : BitVec 8) (l : List Nat) (s : State), group.val ≠ 4 ∧
       s.rd (PHY_STAT.ltssm.port group) = 1 ∧ s.modeFormed group mode lo ≠ 0 ∧
       s.lanesFormed group (s.unusable group unusable) = some l ∧ s.rd (PWR_DOM_STAT.state.ix (64 + group.val)) = 0) ∧
    (∃ (group : GroupNo) (mode : Fin 5) (lo : Bool) (unusable : BitVec 8) (s : State), group.val ≠ 4 ∧
       s.rd (PHY_STAT.ltssm.port group) = 1 ∧ s.modeFormed group mode lo ≠ 0 ∧
       s.lanesFormed group (s.unusable group unusable) = none) ∧
    (∃ (group : GroupNo) (lane : LaneNo) (s : State), s.rd (PHY_STAT.ltssm.port group) = 3 ∧
       s.on (PHY_LANE_STAT.active.lane group lane) = true) :=
  ⟨⟨3, [true, false, true, true], by decide +kernel⟩,
    ⟨0, 7, 129, true, [], regs [(PHY_STAT.ltssm.port 0, 1)], by decide +kernel⟩,
    ⟨0, 7, up 1 [], by decide +kernel⟩,
    ⟨0, 7, regs [(PHY_STAT.ltssm.port 0, 1)], by decide +kernel⟩,
    ⟨0, 5, { act with ports := [(0, { PortState.reset with retryAt := some 5 })] }, by decide +kernel⟩,
    ⟨0, 4, true, 0, [0, 1, 2, 3, 4, 5, 6, 7], regs [(PHY_STAT.ltssm.port 0, 1), (PHY_CTL.reversal_en.port 0, 0)], by
       decide +kernel⟩,
    ⟨0, 4, false, 0xFF, regs [(PHY_STAT.ltssm.port 0, 1)], by decide +kernel⟩,
    ⟨0, 7, up 2 [], by decide +kernel⟩⟩

theorem test_meets_LinkPowerStates :
    (∃ (port : PortNo) (s : State), s.rd (PHY_STAT.ltssm.port port) = 3 ∧ s.rd (PORT_LINK_STAT.mode.port port) = 1 ∧
       (s.ld (masterOf port 0)).l0s = true ∧ s.on (PHY_CTL.l0s_adv.port port) = true) ∧
    (∃ (port : PortNo) (s : State), s.rd (PHY_STAT.ltssm.port port) = 3 ∧ (s.port port).l1Req = false ∧
       (s.ld (masterOf port 0)).l1 = true ∧ s.on (PHY_PM_CTL.l1_req_en.port port) = true ∧ s.portPending port = false) ∧
    (∃ (port : PortNo) (s : State), s.rd (PHY_STAT.ltssm.port port) = 3 ∧ (s.port port).l1Req = false ∧
       (s.ld (masterOf port 0)).l1 = true ∧ s.on (PHY_PM_CTL.l1_req_en.port port) = true ∧ s.portPending port = false) ∧
    (∃ (port : PortNo) (s : State), (s.port port).l1Req = true) ∧
    (∃ (port : PortNo) (s : State), (s.port port).l1Req = true ∧ s.rd (PWR_DOM_STAT.state.ix (64 + port.val)) = 0) ∧
    (∃ (port : PortNo) (s : State), 3 ≤ s.rd (PHY_STAT.pm_state.port port) ∧
       s.rd (PWR_DOM_STAT.state.ix (64 + port.val)) = 0) ∧
    (∃ (port : PortNo) (s : State), s.rd (PHY_STAT.ltssm.port port) = 3 ∧ 2 ≤ s.rd (PORT_LINK_STAT.mode.port port) ∧
       s.on (PORT_LINK_STAT.width.port port) = false) ∧
    (∃ (port : PortNo) (deep : Bool) (s : State), s.rd (PHY_STAT.pm_state.port port) = 3 ∧
       (if deep then (s.ld (masterOf port 0)).l12 else (s.ld (masterOf port 0)).l11) = true ∧
       s.on (PHY_CTL.lane_off_en.port port) = true ∧ (s.port port).waitOut = []) :=
  ⟨⟨0, pmLd PortState.reset (up 1 [(PHY_CTL.l0s_adv.port 0, 1)]), by decide +kernel⟩,
    ⟨0, pmLd PortState.reset (up 2 [(PHY_PM_CTL.l1_req_en.port 0, 1)]), by decide +kernel⟩,
    ⟨0, pmLd PortState.reset (up 2 [(PHY_PM_CTL.l1_req_en.port 0, 1)]), by decide +kernel⟩,
    ⟨0, pmLd { PortState.reset with l1Req := true, waitOut := [.msix 0 0 3] } (up 2 []), by decide +kernel⟩,
    ⟨0, pmLd { PortState.reset with l1Req := true, waitOut := [.msix 0 0 3] } (up 2 []), by decide +kernel⟩,
    ⟨0, pmLd { PortState.reset with waitOut := [.msix 0 0 3] } (up 2 [(PHY_STAT.ltssm.port 0, 7),
                                                                      (PHY_STAT.pm_state.port 0, 4)]), by
       decide +kernel⟩,
    ⟨0, up 2 [], by decide +kernel⟩,
    ⟨0, true, pmLd PortState.reset (up 2 [(PHY_STAT.ltssm.port 0, 7), (PHY_STAT.pm_state.port 0, 3),
                                          (PHY_CTL.lane_off_en.port 0, 1)]), by decide +kernel⟩⟩

theorem test_meets_SplineWordsAndCrossings :
    (∃ (router dest port : Nat), router < 16 ∧ dest < 16 ∧ port < 6 ∧ router = dest) ∧
    (∃ (router dest port : Nat), router < 16 ∧ dest < 16 ∧ port < 6 ∧ router ≠ dest) ∧
    (∃ (x : SplineState) (router port plane i : Nat) (room : Nat → Bool) (w : SplineWord),
     x.grant router port plane room = some (i, w)) ∧
    (∃ (router : Fin 16) (rport : Fin 12) (off : Bool) (plane : Fin 2) (word : SplineWord) (s : State),
     s.splineArrives router rport off plane word = none) ∧
    (∃ (router : Fin 16) (rport : Fin 12) (off : Bool) (plane : Fin 2) (word : SplineWord) (d : SplineSend) (s :
                                                                                                               State),
     s.splineArrives router rport off plane word = some d ∧ s.injectedArg 6 (router.val * 16 + rport.val) = none) ∧
    (∃ (router : Fin 16) (rport : Fin 12) (off : Bool) (plane : Fin 2) (word : SplineWord) (d : SplineSend) (s :
                                                                                                               State),
     s.splineArrives router rport off plane word = some d ∧ s.injectedArg 6 (router.val * 16 + rport.val) = none) ∧
    (∃ (router : Fin 16) (rport : Fin 12) (off : Bool) (plane : Fin 2) (word : SplineWord) (d : SplineSend) (s :
                                                                                                               State),
     s.splineArrives router rport off plane word = some d ∧ s.injectedArg 6 (router.val * 16 + rport.val) = none ∧
       d ∉ s.spline.retry ∧ s.on SPLINE_CTL.retry_en = true) ∧
    (∃ (router : Fin 16) (rport : Fin 12) (off : Bool) (plane : Fin 2) (word : SplineWord) (d : SplineSend) (s :
                                                                                                               State),
     s.splineArrives router rport off plane word = some d ∧ s.injectedArg 6 (router.val * 16 + rport.val) = none ∧
       d ∈ s.spline.retry ∧ s.safe = false ∧ calm s = true) ∧
    (∃ (s : State), s.safe = false ∧ calm s = true) ∧
    (∃ (pc : PcNo) (s : State), s.declaredWait pc = true) ∧
    (∃ (s : State), s.safe = false ∧ calm s = true) ∧
    (∃ (xing : XingNo) (ns : Nat) (s : State), s.rd (SPLINE_XING_STAT.state.ix xing) ≠ 3 ∧ ns ≤ 2000) ∧
    (∃ (xing : XingNo) (s : State), s.rd (SPLINE_XING_STAT.state.ix xing) = 2) ∧
    (∃ (xing : XingNo) (s : State), s.rd (SPLINE_XING_STAT.state.ix xing) = 1 ∧ s.safe = false ∧ calm s = true ∧
       s.stalled = []) ∧
    (∃ (ps : Nat), ps ≤ 1023) :=
  ⟨⟨5, 5, 3, by decide +kernel⟩,
    ⟨12, 3, 5, by decide +kernel⟩,
    ⟨{ SplineState.reset with words := [⟨0, 5, word0⟩] }, 0, 9, 1, 5, fun _ => true, word0, by decide +kernel⟩,
    ⟨15, 9, true, 0, word0, act, by decide +kernel⟩,
    ⟨0, 5, false, 1, word0, send0, regs [(SPLINE_CTL.retry_en, 1)], by decide +kernel⟩,
    ⟨0, 5, false, 1, word0, send0, regs [(SPLINE_CTL.retry_en, 1)], by decide +kernel⟩,
    ⟨0, 5, false, 1, word0, send0, regs [(SPLINE_CTL.retry_en, 1)], by decide +kernel⟩,
    ⟨0, 5, false, 1, word0, send0, { act with spline := { SplineState.reset with retry := [send0] } }, by
       decide +kernel⟩,
    ⟨act, by decide +kernel⟩,
    ⟨0, { act with folio := { Folio.reset with held := [rqF] } }, by decide +kernel⟩,
    ⟨act, by decide +kernel⟩,
    ⟨3, 2000, act, by decide +kernel⟩,
    ⟨3, regs [(SPLINE_XING_STAT.state.ix 3, 2)], by decide +kernel⟩,
    ⟨3, regs [(SPLINE_XING_STAT.state.ix 3, 1)], by decide +kernel⟩,
    ⟨1023, by decide +kernel⟩⟩

theorem test_meets_ClockSourcesAndSwitches :
    (∃ (s : State), s.on CLK_SRC_STAT.ref_ok = true ∧ s.on CLK_CTL.mon_en = true ∧ linksDown s ∧ s.clk.switching = []
       ∧ s.on CLK_SRC_STAT.ho_ok = true) ∧
    (∃ (s : State), s.on CLK_SRC_STAT.ref_ok = true ∧ s.on CLK_CTL.mon_en = true ∧ linksDown s ∧ s.clk.switching = []
       ∧ s.on CLK_SRC_STAT.ho_ok = false ∧ s.safe = false ∧ calm s = true) ∧
    (∃ (khz : Nat) (s : State), s.on CLK_SRC_STAT.ho_ok = true ∧ s.on CLK_CTL.mon_en = true ∧
       s.on CLK_SRC_STAT.ref_ok = true ∧ 98500 ≤ khz ∧ khz ≤ 101500) ∧
    (∃ (s : State), s.on CLK_SRC_STAT.ho_ok = true ∧ s.on CLK_CTL.mon_en = true ∧ s.on CLK_SRC_STAT.ref_ok = false) ∧
    (∃ (s : State), s.on CLK_SRC_STAT.ref_ok = false ∧ 4 ≤ s.clk.refGood) ∧
    (∃ (count : Nat), 351563 ≤ count ∧ count ≤ 429687) ∧
    (∃ (count : Nat) (s : State), (count < 351563 ∨ 429687 < count) ∧ s.on CLK_SRC_STAT.ho_ok = true) ∧
    (∃ (s : State), s.on CLK_SRC_STAT.ao_ok = true) ∧
    (∃ (pll : Fin 17) (s : State), s.locked pll = true ∧
       (s.clk.relock.any fun e => decide (e.1 = pll.val ∧ s.now ≤ e.2 + 1000000000)) = false) ∧
    (∃ (pll : Fin 17) (s : State), s.locked pll = true ∧ s.on CLK_SRC_STAT.ho_ok = true ∧
       (s.clk.relock.any fun e => decide (e.1 = pll.val ∧ s.now ≤ e.2 + 1000000000)) = true) ∧
    (∃ (s : State), s.on CLK_SRC_STAT.ref_ok = true ∧ s.on CLK_CTL.auto_return = false) ∧
    (∃ (who : Accessor) (toHo : Bool) (s : State), takes s who 0x02 = true ∧ s.rd CLK_DOM_SEL.domain < 16 ∧
       s.on (CLK_DOM_STAT.src.ix (s.rd CLK_DOM_SEL.domain)) ≠ toHo ∧
       s.sourceReady (s.rd CLK_DOM_SEL.domain) toHo = true ∧
       s.on (CLK_DOM_STAT.switching.ix (s.rd CLK_DOM_SEL.domain)) = false ∧ s.sys.phase = .active) ∧
    (∃ (who : Accessor) (toHo : Bool) (s : State), takes s who 0x02 = true ∧
       s.on (CLK_DOM_STAT.src.ix (s.rd CLK_DOM_SEL.domain)) ≠ toHo ∧
       s.sourceReady (s.rd CLK_DOM_SEL.domain) toHo = false) ∧
    (∃ (dom : ClkNo) (e : Nat × Bool) (s : State), s.clk.switching.find? (fun e => decide (e.1 = dom.val)) = some e ∧
       s.sourceReady e.1 e.2 = true) :=
  ⟨⟨regs [(CLK_SRC_STAT.ref_ok, 1), (CLK_CTL.mon_en, 1), (CLK_SRC_STAT.ho_ok, 1)],
     (by unfold linksDown; decide +kernel)⟩,
    ⟨regs [(CLK_SRC_STAT.ref_ok, 1), (CLK_CTL.mon_en, 1)], (by unfold linksDown; decide +kernel)⟩,
    ⟨101500, regs [(CLK_SRC_STAT.ref_ok, 1), (CLK_CTL.mon_en, 1), (CLK_SRC_STAT.ho_ok, 1)], by decide +kernel⟩,
    ⟨regs [(CLK_SRC_STAT.ho_ok, 1), (CLK_CTL.mon_en, 1)], by decide +kernel⟩,
    ⟨{ act with clk := { ClockState.reset with refGood := 4 } }, by decide +kernel⟩,
    ⟨351563, by decide +kernel⟩,
    ⟨429688, regs [(CLK_SRC_STAT.ho_ok, 1)], by decide +kernel⟩,
    ⟨regs [(CLK_SRC_STAT.ao_ok, 1)], by decide +kernel⟩,
    ⟨16, regs [(CLK_PLL_LOCK.system, 1)], by decide +kernel⟩,
    ⟨16, { regs [(CLK_PLL_LOCK.system, 1), (CLK_SRC_STAT.ho_ok, 1)] with clk := { ClockState.reset with
                                                                                                        relock := [(16,
                                                                                                                    0)]
                                                                                                          } }, by
       decide +kernel⟩,
    ⟨regs [(CLK_SRC_STAT.ref_ok, 1), (CLK_CTL.auto_return, 0)], by decide +kernel⟩,
    ⟨.sideband, true, regs [(CLK_DOM_SEL.domain, 15), (CLK_SRC_STAT.ho_ok, 1)], by decide +kernel⟩,
    ⟨.sideband, true, act, by decide +kernel⟩,
    ⟨15, (15, true), { regs [(CLK_SRC_STAT.ho_ok, 1)] with clk := { ClockState.reset with switching := [(15, true)] }
                                                             }, by decide +kernel⟩⟩

theorem test_meets_PowerDomainsSleepAndWake :
    (∃ (dom : DomainNo) (s : State), s.timersRun = true ∧ s.rd (PWR_DOM_STAT.state.ix dom) = 0 ∧ sleepCap dom = true ∧
       s.maySleep dom = true ∧ ((s.presentPages dom).all fun p => s.on (PAGE_CTL.sleep_en.on p)) = true ∧
       (s.domain dom).gateAt = none ∧ s.domainQuiet dom = true) ∧
    (∃ (dom : DomainNo) (s : State), s.timersRun = true ∧ s.rd (PWR_DOM_STAT.state.ix dom) = 0 ∧ sleepCap dom = true ∧
       s.maySleep dom = true ∧ ((s.presentPages dom).all fun p => s.on (PAGE_CTL.sleep_en.on p)) = true ∧
       (s.domain dom).gateAt = none ∧ s.domainQuiet dom = false) ∧
    (∃ (dom : DomainNo) (at_ : Nat) (s : State), s.timersRun = true ∧ s.rd (PWR_DOM_STAT.state.ix dom) = 3 ∧
       sleepCap dom = true ∧ s.maySleep dom = true ∧
       ((s.presentPages dom).all fun p => s.on (PAGE_CTL.sleep_en.on p)) = true ∧ (s.domain dom).gateAt = some at_ ∧
       at_ + 2000000 < s.now) ∧
    (∃ (dom : DomainNo) (s : State), s.timersRun = true ∧ s.rd (PWR_DOM_STAT.state.ix dom) = 1 ∧ deepCap dom = true ∧
       s.mayDeep dom = true ∧ ((s.presentPages dom).all fun p => s.on (PAGE_CTL.deep_en.on p)) = true) ∧
    (∃ (dom : DomainNo) (s : State), (s.rd (PWR_DOM_STAT.state.ix dom) = 1 ∨ s.rd (PWR_DOM_STAT.state.ix dom) = 2)) ∧
    (∃ (dom : DomainNo) (s : State), s.rd (PWR_DOM_STAT.state.ix dom) = 3) ∧
    (∃ (dom : DomainNo) (ns at_ : Nat) (s : State), (s.domain dom).wakeAt = some at_ ∧ dom.val ≠ 74 ∧
       ns ≤ s.wakeLimit dom) ∧
    (∃ (dom : DomainNo) (at_ : Nat) (s : State), (s.domain dom).wakeAt = some at_ ∧ s.safe = false ∧ calm s = true ∧
       s.stalled = []) ∧
    (∃ (dom : DomainNo) (s : State), s.rd (PWR_DOM_STAT.state.ix dom) = 0 ∧ s.safe = false ∧ calm s = true ∧
       s.stalled = []) ∧
    (∃ (who : Accessor) (s : State), takes s who 0x03 = true) ∧
    (∃ (s : State), s.timersRun = true ∧ s.on TB_CTL.deep_carry_en = true ∧ s.on CLK_SRC_STAT.ao_ok = true ∧
       s.on (PAGE_CTL.deep_en.on 0x01) = true ∧ s.clk.tbAsleep = false ∧ s.rd (PWR_DOM_STAT.state.ix 74) = 0 ∧
       (List.range 74).all s.atRest = true) ∧
    (∃ (a1 : Nat) (s : State), s.clk.tbAsleep = true ∧ s.rd (PWR_DOM_STAT.state.ix 74) = 4 ∧ s.locked 16 = true ∧
       s.clk.a0 ≤ a1 ∧ s.now ≤ aoPs a1) :=
  ⟨⟨70, regs [(PWR_CTL.idle_en, 1)], by decide +kernel⟩,
    ⟨70, regs [(PWR_CTL.idle_en, 1), (KERF_STAT.state.ix 1, 2)], by decide +kernel⟩,
    ⟨70, 5, { regs [(PWR_CTL.idle_en, 1), (PWR_DOM_STAT.state.ix 70, 3)] with now := 3000000, domains := [(70, {
                                                                                                                 DomainState.reset
                                                                                                                   with
                                                                                                                        gateAt := some
                                                                                                                          5
                                                                                                                          })]
                                                                                }, by decide +kernel⟩,
    ⟨3, regs [(PWR_CTL.idle_en, 1), (PWR_DOM_STAT.state.ix 3, 1), (PC_SR_STAT.in_sr.pc 3, 1), (PAGE_CTL.deep_en.on
                                                                                                 0x43, 1)], by
       decide +kernel⟩,
    ⟨3, asleep 3 2, by decide +kernel⟩,
    ⟨3, asleep 3 3, by decide +kernel⟩,
    ⟨3, 50, 5, asleep 3 4, by decide +kernel⟩,
    ⟨3, 5, asleep 3 4, by decide +kernel⟩,
    ⟨3, act, by decide +kernel⟩,
    ⟨.sideband, act, by decide +kernel⟩,
    ⟨{ regs ([(PWR_CTL.idle_en, 1), (TB_CTL.deep_carry_en, 1), (CLK_SRC_STAT.ao_ok, 1), (PAGE_CTL.deep_en.on 1, 1)] ++
               (List.range 74).map fun d => (PWR_DOM_STAT.state.ix d, if deepCap d then 2 else 1)) with now := 1000 },
     by decide +kernel⟩,
    ⟨9, { regs [(PWR_DOM_STAT.state.ix 74, 4), (CLK_PLL_LOCK.system, 1)] with clk := { ClockState.reset with
                                                                                                             tbAsleep := true
                                                                                                               } }, by
       decide +kernel⟩⟩

theorem test_meets_StartRunsItsStages :
    (∃ (mv : Nat) (s : State), s.sys.phase = .off ∧ 8800 < mv) ∧
    (∃ (us : Nat) (s : State), s.sys.phase = .starting ∧ s.rd SYS_START_STAT.stage = 1 ∧ us ≤ 3000) ∧
    (∃ (us : Nat) (s : State), s.sys.phase = .starting ∧ s.rd SYS_START_STAT.stage = 8 ∧ us ≤ 2000 ∧ s.startPath = 1) ∧
    (∃ (s : State), s.sys.phase = .starting ∧ s.sys.overran = false) ∧
    (∃ (s : State), s.bank.eepromRead = true ∧ s.rd SB_STAT.mode = 0) ∧
    (∃ (s : State), s.sys.phase ≠ .off ∧ s.sys.vauxGood = false ∧ s.bank.eepromRead = false ∧ s.present 0x1C = true) :=
  ⟨⟨8801, sysS { SysState.reset with phase := .off }, by decide +kernel⟩,
    ⟨3000, withRegs State.reset [(SYS_START_STAT.stage, 1)], by decide +kernel⟩,
    ⟨2000, { withRegs State.reset [(SYS_START_STAT.stage, 8)] with sys := { SysState.reset with variant := 4 } }, by
       decide +kernel⟩,
    ⟨withRegs State.reset [(SYS_START_STAT.stage, 3)], by decide +kernel⟩,
    ⟨bankS { ReserveBank.reset with eepromRead := true }, by decide +kernel⟩,
    ⟨act, by decide +kernel⟩⟩

theorem test_meets_HoldAndManagementCore :
    (∃ (who : Accessor) (s : State), takes s who 0x00 = true ∧ s.sys.phase = .active ∧ settled s = true ∧
       calm s = true) ∧
    (∃ (s : State), s.sys.phase = .active ∧ settled s = true ∧ calm s = true) ∧
    (∃ (us : Nat) (s : State), s.sys.phase = .hold ∧ us ≤ 30 ∧ s.folio.running = none) ∧
    (∃ (who : Accessor) (s : State), takes s who 0x00 = true) ∧
    (∃ (who : Accessor) (key : BitVec 16) (s : State), takes s who 0x00 = true ∧ key ≠ 0x5253) ∧
    (∃ (who : Accessor) (key : BitVec 16) (s : State), takes s who 0x00 = true ∧ key ≠ 0x5253) ∧
    (∃ (who : Accessor) (key : BitVec 16) (s : State), takes s who 0x00 = true ∧ key ≠ 0x5253) ∧
    (∃ (who : Accessor) (key : BitVec 16) (s : State), takes s who 0x00 = true ∧ key ≠ 0x5253) ∧
    (∃ (s : State), s.sys.phase = .active ∧ s.sys.mgmtDown = none) ∧
    (∃ (at_ : Nat) (s : State), s.sys.mgmtDown = some at_ ∧ s.sb.trying = none ∧ s.sys.phase = .active ∧
       s.safe = false ∧ calm s = true) ∧
    (∃ (at_ : Nat) (s : State), s.sys.mgmtDown = some at_ ∧ s.sys.phase = .active ∧ s.mbox.waiting = []) ∧
    (∃ (at_ : Nat) (port : PortNo) (ld : LdNo) (s : State), s.sys.mgmtDown = some at_ ∧ s.sys.phase = .active ∧
       s.mbox.waiting = [.getSupportedLogs port ld] ∧ s.mboxOpen port ld = true ∧ s.lifeCycle ≠ 4) :=
  ⟨⟨.sideband, act, by decide +kernel⟩,
    ⟨act, by decide +kernel⟩,
    ⟨30, sysS { SysState.reset with phase := .hold }, by decide +kernel⟩,
    ⟨.sideband, act, by decide +kernel⟩,
    ⟨.sideband, 0x1234, act, by decide +kernel⟩,
    ⟨.sideband, 0x1234, act, by decide +kernel⟩,
    ⟨.sideband, 0x1234, act, by decide +kernel⟩,
    ⟨.sideband, 0x1234, act, by decide +kernel⟩,
    ⟨act, by decide +kernel⟩,
    ⟨5, sysS { SysState.reset with phase := .active, mgmtDown := some 5 }, by decide +kernel⟩,
    ⟨5, sysS { SysState.reset with phase := .active, mgmtDown := some 5 }, by decide +kernel⟩,
    ⟨5, 0, 0, { hosted with sys := { SysState.reset with phase := .active, mgmtDown := some 5 }, mbox := {
                                                                                                           Mailbox.reset
                                                                                                             with
                                                                                                                  waiting := [.getSupportedLogs
                                                                                                                                0
                                                                                                                                0]
                                                                                                                    }
                              }, by decide +kernel⟩⟩

theorem test_meets_ShutdownAndLifeCycle :
    (∃ (who : Accessor) (s : State), takes s who 0x00 = true ∧ s.sys.phase = .active ∧ settled s = true ∧
       calm s = true) ∧
    (∃ (who : Accessor) (s : State), takes s who 0x00 = true ∧ s.sys.phase = .active ∧ settled s = true ∧
       calm s = true) ∧
    (∃ (s : State), s.shutdownBound = true ∧ s.lifeCycle ≠ 4 ∧ s.sys.restartWaits = false ∧ s.sys.restart ≠ 4) ∧
    (∃ (s : State), s.shutdownBound = true ∧ s.lifeCycle ≠ 4 ∧ s.sys.restart = 4) ∧
    (∃ (who : Accessor) (target : Fin 8) (s : State), takes s who 0x00 = true ∧ s.lifeRefusal target true = 0) ∧
    (∃ (who : Accessor) (target : Fin 8) (s : State), takes s who 0x00 = true ∧ s.lifeRefusal target true ≠ 0) ∧
    (∃ (target : Fin 8) (s : State), s.sys.phase = .active ∧ s.sessionOpen .fm = true ∧
       s.lifeRefusal target false = 0) ∧
    (∃ (target : Fin 8) (s : State), s.sys.phase = .active ∧ s.sessionOpen .fm = true ∧
       s.lifeRefusal target false ≠ 0) ∧
    (∃ (s : State) (port : PortNo) (ld : LdNo), s.sys.phase = .active ∧ s.sessionOpen .fm = true ∧
       s.sessionOpen (.ld port ld) = true) ∧
    (∃ (session : Session) (s : State), s.sessionOpen session = false) ∧
    (∃ (target : Nat) (s : State), s.sys.lcPending = some target ∧ target ≠ 4 ∧ s.lifeCycle < 2) ∧
    (∃ (s : State), s.sys.lcPending = some 4 ∧ settled s = true) :=
  ⟨⟨.sideband, act, by decide +kernel⟩,
    ⟨.sideband, act, by decide +kernel⟩,
    ⟨sysS { SysState.reset with phase := .shutdown }, by decide +kernel⟩,
    ⟨sysS { SysState.reset with phase := .shutdown, restart := 4 }, by decide +kernel⟩,
    ⟨.sideband, 1, { regs [(SYS_LC.state, 0), (SYS_LC.next, 0)] with sys := { act.sys with lcFuses := 0 } }, by
       decide +kernel⟩,
    ⟨.sideband, 7, act, by decide +kernel⟩,
    ⟨3, { regs [(SYS_LC.state, 2), (SYS_LC.next, 2)] with sb := keyed.sb }, by decide +kernel⟩,
    ⟨7, keyed, by decide +kernel⟩,
    ⟨keyed, 0, 0, by decide +kernel⟩,
    ⟨.fm, act, by decide +kernel⟩,
    ⟨2, { regs [(SYS_LC.state, 1)] with sys := { SysState.reset with phase := .active, lcPending := some 2 } }, by
       decide +kernel⟩,
    ⟨sysS { SysState.reset with phase := .active, lcPending := some 4 }, by decide +kernel⟩⟩

theorem test_meets_CalibrationRuns :
    (∃ (who : Accessor) (pc : PcNo) (s : State), takes s who (0x40 + pc.val) = true ∧ calIdle s pc = true) ∧
    (∃ (who : Accessor) (pc : PcNo) (s : State), takes s who (0x40 + pc.val) = true ∧ s.calMode pc = 2 ∧
       s.on (PC_CAL_STAT.pending.pc pc) = false) ∧
    (∃ (who : Accessor) (group : GroupNo) (s : State), takes s who (groupPage group) = true ∧
       calIdle s (64 + group.val) = true) ∧
    (∃ (who : Accessor) (group : GroupNo) (s : State), takes s who (groupPage group) = true ∧
       s.calMode (64 + group.val) = 2 ∧ s.on (PHY_CAL_STAT.pending.port group) = false) ∧
    (∃ (unit : Fin 69) (s : State), s.sys.phase = .active ∧ calIdle s unit = true) ∧
    (∃ (unit : Fin 69) (vref : Nat) (s : State), collecting s unit = true ∧
       ((unit.val < 64 → (vref : Int) = s.rdVref unit))) ∧
    (∃ (unit : Fin 69) (pc : PcNo) (r : CalResult) (s : State), unit.val = pc.val ∧ collecting s pc = true ∧
       0 ≤ s.rdVref pc ∧ r.complete = false ∧ r.index.val < 72 ∧ (s.erasedLanes pc).contains r.index.val = false) ∧
    (∃ (pc : PcNo) (s : State), s.calMode pc = 1) ∧
    (∃ (pc : PcNo) (vref : Nat) (s : State), collecting s pc = true ∧ (vref : Int) = s.rdVref pc) ∧
    (∃ (unit : Fin 69) (pc : PcNo) (index : Fin 97) (target : Int) (s : State), unit.val = pc.val ∧ s.calMode pc = 2 ∧
       index.val < 72 ∧ (s.cal pc).steps = [(index.val, target)] ∧ s.rdDly pc index < target ∧
       s.rd ((PC_CAL_LANE_EYE.drift.pc pc).ix index) < 127) :=
  ⟨⟨.sideband, 0, act, by decide +kernel⟩,
    ⟨.sideband, 0, regs [(PC_CAL_STAT.state.pc 0, 2)], by decide +kernel⟩,
    ⟨.sideband, 1, regs [(PHY_STAT.ltssm.port 1, 3), (PORT_LINK_STAT.mode.port 1, 3)], by decide +kernel⟩,
    ⟨.sideband, 1, regs [(PHY_CAL_STAT.state.port 1, 2)], by decide +kernel⟩,
    ⟨63, act, by decide +kernel⟩,
    ⟨0, (calS CalState.reset [(PC_CAL_STAT.state.pc 0, 1), (PC_CAL_VREF.rd_vref.pc 0, 20)]).rdVref 0 |>.toNat, calS
       CalState.reset [(PC_CAL_STAT.state.pc 0, 1), (PC_CAL_VREF.rd_vref.pc 0, 20)], by decide +kernel⟩,
    ⟨0, 0, { index := 71, target := 5, eye := 3, width := 4, complete := false, peaksOk := true, thresholds := [] },
     calS CalState.reset [(PC_CAL_STAT.state.pc 0, 1), (PC_CAL_VREF.rd_vref.pc 0, 20)], by decide +kernel⟩,
    ⟨0, regs [(PC_CAL_STAT.state.pc 0, 1)], by decide +kernel⟩,
    ⟨0, (calS CalState.reset [(PC_CAL_STAT.state.pc 0, 1), (PC_CAL_VREF.rd_vref.pc 0, 20)]).rdVref 0 |>.toNat, calS
       CalState.reset [(PC_CAL_STAT.state.pc 0, 1), (PC_CAL_VREF.rd_vref.pc 0, 20)], by decide +kernel⟩,
    ⟨0, 0, 71, 40, calS { CalState.reset with steps := [(71, 40)] } [(PC_CAL_STAT.state.pc 0, 2)], by decide +kernel⟩⟩

theorem test_meets_TemperatureAndPowerAct :
    (∃ (sensor : SensorNo) (v : Int) (s : State), s.senses = true ∧ s.isFailed sensor = false ∧ -320 ≤ v ∧ v ≤ 1200 ∧
       s.injectedArg 7 sensor = none) ∧
    (∃ (sensor : SensorNo) (v : Int) (s : State), s.senses = true ∧ s.isFailed sensor = false ∧ -320 ≤ v ∧ v ≤ 1200 ∧
       s.injectedArg 7 sensor = none ∧ s.isFast sensor = true) ∧
    (∃ (sensor : SensorNo) (s : State), s.senses = true ∧ s.isFast sensor = false ∧ s.isFailed sensor = false) ∧
    (∃ (die : Fin 17) (at_ : Nat) (s : State), (s.heat die).highAt = some at_ ∧ s.on THERM_CTL.throttle_en = true ∧
       (s.heat die).level < 7 ∧ ((die.val < 16 → s.pcPresent (die.val * 4) = true))) ∧
    (∃ (die : Fin 17) (at_ : Nat) (s : State), (s.heat die).lowAt = some at_ ∧ (s.heat die).level ≤ 7 ∧
       (if die.val < 16 then s.levelFloor die else 0) < (s.heat die).level ∧
       ((die.val < 16 → s.pcPresent (die.val * 4) = true))) ∧
    (∃ (sensor : SensorNo) (at_ : Nat) (s : State), (s.heat (dieOf sensor)).fatalAt = some at_ ∧ s.senses = true ∧
       s.safe = false ∧ calm s = true) ∧
    (∃ (layer : LayerNo) (s : State),
     ((∀ i < 4, (s.pc (layer.val * 4 + i)).bursts = [] ∧ (s.pc (layer.val * 4 + i)).wbursts = [])) ∧
       s.on (PC_SR_STAT.clk_gated.pc (layer.val * 4)) = false) ∧
    (∃ (layer : LayerNo) (at_ : Nat) (s : State), (s.heat layer).suspect = true ∧ (s.heat layer).agreeAt = some at_) ∧
    (∃ (s : State), s.senses = true) ∧
    (∃ (s : State), s.senses = true ∧ s.sys.phase ≠ .failing) :=
  ⟨⟨3, 1200, act, by decide +kernel⟩,
    ⟨3, -320, regs [(THERM_SENS_VAL.fast.ix 3, 1)], by decide +kernel⟩,
    ⟨3, act, by decide +kernel⟩,
    ⟨3, 5, heatS 3 { LayerTherm.reset with highAt := some 5, level := 6 } [(THERM_CTL.throttle_en, 1)], by
       decide +kernel⟩,
    ⟨3, 5, heatS 3 { LayerTherm.reset with lowAt := some 5, level := 7 } [], by decide +kernel⟩,
    ⟨3, 5, heatS (dieOf 3) { LayerTherm.reset with fatalAt := some 5 } [], by decide +kernel⟩,
    ⟨15, { act with layers := [(15, { Layer.reset with wanted := 2 })] }, by decide +kernel⟩,
    ⟨3, 5, heatS 3 { LayerTherm.reset with suspect := true, agreeAt := some 5 } [], by decide +kernel⟩,
    ⟨act, by decide +kernel⟩,
    ⟨act, by decide +kernel⟩⟩

theorem test_meets_SafeStateAndErrN :
    (∃ (who : Accessor) (s : State), takes s who 0x07 = true ∧ s.safe = false ∧ calm s = true) ∧
    (∃ (who : Accessor) (key : BitVec 16) (s : State), takes s who 0x07 = true ∧ key ≠ 0x5346) ∧
    (∃ (who : Accessor) (s : State), takes s who 0x07 = true ∧ s.safe = false ∧ s.on ERRPIN_STAT.driven = true ∧
       s.pin.pulseEnd = none) ∧
    (∃ (who : Accessor) (s : State), takes s who 0x07 = true ∧ s.safe = true) ∧
    (∃ (who : Accessor) (s : State), takes s who 0x07 = true ∧ s.on ERRPIN_STAT.driven = false ∧ s.pin.gapEnd = none) ∧
    (∃ (who : Accessor) (s : State), takes s who 0x07 = true ∧ s.on ERRPIN_STAT.driven = true) ∧
    (∃ (at_ : Nat) (s : State), s.pin.pulseEnd = some at_ ∧ s.on ERRPIN_CTL.hold = false) ∧
    (∃ (at_ : Nat) (s : State), s.pin.pulseEnd = some at_ ∧ s.on ERRPIN_CTL.hold = true ∧ s.pin.releaseAsked = false) ∧
    (∃ (at_ : Nat) (s : State), s.pin.gapEnd = some at_ ∧ s.pin.gapEvent = false) ∧
    (∃ (at_ : Nat) (s : State), s.pin.gapEnd = some at_ ∧ s.pin.gapEvent = true) ∧
    (∃ (s : State), s.on ERRPIN_STAT.driven = true ∧ s.pin.highRun = 2) ∧
    (∃ (s : State), s.on ERRPIN_STAT.driven = false) ∧
    (∃ (who : Accessor) (s : State), takes s who 0x07 = true) :=
  ⟨⟨.sideband, act, by decide +kernel⟩,
    ⟨.sideband, 0x5345, act, by decide +kernel⟩,
    ⟨.sideband, regs [(ERRPIN_STAT.driven, 1), (ERRPIN_STAT.held, 1)], by decide +kernel⟩,
    ⟨.sideband, regs [(SYS_START_STAT.safe, 1)], by decide +kernel⟩,
    ⟨.sideband, act, by decide +kernel⟩,
    ⟨.sideband, regs [(ERRPIN_STAT.driven, 1)], by decide +kernel⟩,
    ⟨5, pinS { PinState.reset with pulseEnd := some 5 } [(ERRPIN_STAT.driven, 1)], by decide +kernel⟩,
    ⟨5, pinS { PinState.reset with pulseEnd := some 5 } [(ERRPIN_STAT.driven, 1), (ERRPIN_CTL.hold, 1)], by
       decide +kernel⟩,
    ⟨5, pinS { PinState.reset with gapEnd := some 5 } [], by decide +kernel⟩,
    ⟨5, pinS { PinState.reset with gapEnd := some 5, gapEvent := true } [], by decide +kernel⟩,
    ⟨pinS { PinState.reset with highRun := 2 } [(ERRPIN_STAT.driven, 1)], by decide +kernel⟩,
    ⟨act, by decide +kernel⟩,
    ⟨.sideband, regs [(ERRPIN_FF_VALID.valid, 1)], by decide +kernel⟩⟩

theorem test_meets_SelfTestRunsItsProgram :
    (∃ (who : Accessor) (s : State), bistOpen s who = true ∧ s.rd BIST_ENG_STAT.state ≠ 1 ∧
       ((∃ n < 16, s.on (BIST_PROG.valid.ix n) = true ∧ s.stepAllowed (s.bistStep n) = false))) ∧
    (∃ (who : Accessor) (n : Nat) (s : State), bistOpen s who = true ∧ s.rd BIST_ENG_STAT.state ≠ 1 ∧
       (List.range 16).filter (fun i => s.on (BIST_PROG.valid.ix i)) = [n] ∧ (s.bistStep n).inject = true ∧
       s.stepAllowed (s.bistStep n) = true) ∧
    (∃ (s : State), s.rd BIST_ENG_STAT.state = 1 ∧ s.bist.under = none ∧ s.on BIST_ENG_STAT.offline = false ∧
       (s.bistStep (s.rd BIST_ENG_STAT.step)).inject = false ∧ (s.bistStep (s.rd BIST_ENG_STAT.step)).test = 1 ∧
       s.nextStep (s.rd BIST_ENG_STAT.step + 1) = none) ∧
    (∃ (who : Accessor) (s : State), bistOpen s who = true ∧ s.rd BIST_ENG_STAT.state = 1 ∧ s.bist.under = none ∧
       s.on BIST_ENG_STAT.offline = false) ∧
    (∃ (who : Accessor) (s : State), bistOpen s who = true ∧ s.lifeCycle = 3 ∧
       (s.bistStep (s.rd BIST_PROG_SEL.step)).target ∈ s.bist.passed ∧
       (s.bistStep (s.rd BIST_PROG_SEL.step)).target ∈ s.bist.held) ∧
    (∃ (s : State), (s.lifeCycle ≠ 3 ∨ (s.bistStep (s.rd BIST_PROG_SEL.step)).target ∉ s.bist.passed)) :=
  ⟨⟨.sideband, regs [(SYS_LC.state, 3), (BIST_PROG.valid.ix 15, 1)], by decide +kernel⟩,
    ⟨.sideband, 15, regs [(SYS_LC.state, 1), (BIST_PROG.valid.ix 15, 1), (BIST_PROG.inject.ix 15, 1),
                          (BIST_PROG.page.ix 15, 0x40), (BIST_PROG_ARG.arg.ix 15, 0x20000000)], by decide +kernel⟩,
    ⟨regs [(SYS_LC.state, 1), (BIST_ENG_STAT.state, 1), (BIST_PROG.valid.ix 0, 1), (BIST_PROG.test.ix 0, 1),
           (BIST_PROG.page.ix 0, 0x40)], by decide +kernel⟩,
    ⟨.sideband, regs [(SYS_LC.state, 1), (BIST_ENG_STAT.state, 1)], by decide +kernel⟩,
    ⟨.sideband, { regs [(SYS_LC.state, 3), (BIST_PROG.test.ix 0, 2), (BIST_PROG.page.ix 0, 0x41)] with bist := {
                                                                                                                 BistState.reset
                                                                                                                   with
                                                                                                                        passed := [(0x41,
                                                                                                                                    2,
                                                                                                                                    0)],
                                                                                                                        held := [(0x41,
                                                                                                                                  2,
                                                                                                                                  0),
                                                                                                                                 (0x42,
                                                                                                                                  2,
                                                                                                                                  0)]
                                                                                                                          }
                                                                                                         }, by
       decide +kernel⟩,
    ⟨act, by decide +kernel⟩⟩

theorem test_meets_OtpCommandsProgramRows :
    (∃ (who : Accessor) (s : State), otpOpen s who = true ∧ s.rd OTP_PROG_IDX.row < 284 ∧
       s.isLocked (regionOf (s.rd OTP_PROG_IDX.row)) = false ∧ s.otpRow (s.rd OTP_PROG_IDX.row) = 0) ∧
    (∃ (who : Accessor) (s : State), takes s who 0x05 = true ∧ 2 ≤ s.lifeCycle) ∧
    (∃ (who : Accessor) (s : State), otpOpen s who = true ∧ s.isLocked (regionOf (s.rd OTP_PROG_IDX.row)) = false ∧
       s.nextSpare < 544) ∧
    (∃ (who : Accessor) (region : Fin 8) (s : State), otpOpen s who = true ∧ region.val < 7 ∧
       s.isLocked region = false ∧ s.checkBlank region = false) ∧
    (∃ (who : Accessor) (s : State), otpOpen s who = true ∧ s.isLocked 4 = false ∧
       ((∀ r < 8, s.otpRow (276 + r) = 0))) ∧
    (∃ (s : State), s.sys.phase ≠ .off) ∧
    (∃ (s : State), s.sys.phase ≠ .off) :=
  ⟨⟨.sideband, { regs [(SYS_LC.state, 1), (OTP_PROG_IDX.row, 8), (OTP_PROG_LO.data, 5)] with sys := { act.sys with
                                                                                                                    lcFuses := 0
                                                                                                                      },
                                                                                              otp := { OtpState.reset
                                                                                                         with
                                                                                                              factory := false
                                                                                                                } },
     by decide +kernel⟩,
    ⟨.sideband, keyed, by decide +kernel⟩,
    ⟨.sideband, { regs [(SYS_LC.state, 1), (OTP_PROG_IDX.row, 8), (OTP_PROG_LO.data, 5)] with sys := { act.sys with
                                                                                                                    lcFuses := 0
                                                                                                                      },
                                                                                              otp := { OtpState.reset
                                                                                                         with
                                                                                                              factory := false
                                                                                                                } },
     by decide +kernel⟩,
    ⟨.sideband, 6, regs [(SYS_LC.state, 1)], by decide +kernel⟩,
    ⟨.sideband, { { regs [(SYS_LC.state, 1)] with sys := { act.sys with lcFuses := 0 }, otp := { OtpState.reset with
                                                                                                                     factory := false
                                                                                                                       }
                                                    } with otp := { OtpState.reset with factory := false, locked := []
                                                                                          } }, by decide +kernel⟩,
    ⟨act, by decide +kernel⟩,
    ⟨act, by decide +kernel⟩⟩

theorem test_meets_SidebandAnswers :
    (∃ (mtype : BitVec 8) (len : Nat) (changes : Bool) (s : State), s.sbUp = true ∧ len ≤ 4096 ∧
       mtype.toNat ∈ mctpTypes ∧ (mtype = 0 ∨ s.rd SB_STAT.eid ≠ 0) ∧
       ((changes = true → s.sbSecure = true → s.sessionOpen .fm = true))) ∧
    (∃ (fm : Bool) (s : State), s.sbUp = true ∧ s.sbSecure = true ∧ (fm && s.sessionOpen .fm) = false) ∧
    (∃ (len : Nat) (s : State), s.sbUp = true ∧ 4096 < len) ∧
    (∃ (s : State), s.sbUp = true ∧ s.rd SB_STAT.mode = 1) ∧
    (∃ (s : State), s.rd SB_STAT.mode = 1 ∧ s.on SB_CTL.i3c_en = true ∧ s.sys.phase ≠ .hold) ∧
    (∃ (s : State), s.rd SB_STAT.mode = 2 ∧ s.sys.phase ≠ .hold) ∧
    (∃ (eid : BitVec 8) (s : State), s.sbUp = true ∧ eid ≠ 0 ∧ eid ≠ 0xFF) ∧
    (∃ (s : State), s.sbUp = true) ∧
    (∃ (s : State), s.sbUp = true) ∧
    (∃ (s : State), s.sbUp = true) ∧
    (∃ (s : State), s.sbUp = true) ∧
    (∃ (s : State), s.sbUp = true) ∧
    (∃ (s : State), sbServes s = true) ∧
    (∃ (s : State), sbServes s = true) ∧
    (∃ (s : State), sbServes s = true ∧ s.fwBusy none = false ∧ s.sb.fwOffset = none ∧
       ((s.sbSecure = true → s.sessionOpen .fm = true))) ∧
    (∃ (s : State), sbServes s = true ∧ s.fwBusy none = false ∧ s.sb.fwOffset = none ∧ s.rd SB_FW_STAT.active_slot = 0
       ∧ ((s.sbSecure = true → s.sessionOpen .fm = true))) ∧
    (∃ (s : State), sbServes s = true) ∧
    (∃ (s : State) (slot : Fin 8), sbServes s = true ∧ slot ≠ 0) ∧
    (∃ (s : State), sbServes s = true ∧ s.lifeCycle ≠ 4) ∧
    (∃ (s : State), sbServes s = true) ∧
    (∃ (s : State), sbServes s = true ∧ s.lifeCycle ≠ 4 ∧ s.openSessions < 8 ∧ s.sb.sessions = []) ∧
    (∃ (s : State), sbServes s = true ∧ s.lifeCycle ≠ 4 ∧ 8 ≤ s.openSessions) ∧
    (∃ (s : State) (session : Fin 8) (gen : Nat) (who : Option Session), sbServes s = true ∧
       s.sb.sessions = [(session.val, gen, who)]) ∧
    (∃ (s : State), sbServes s = true ∧ s.sys.phase = .active ∧ settled s = true ∧ calm s = true ∧
       ((s.sbSecure = true → s.sessionOpen .fm = true))) ∧
    (∃ (s : State), s.sbUp = true ∧ s.rd SB_STAT.eid ≠ 0 ∧ s.sys.phase = .off ∧ s.on SYS_SUPPLY.vin_good = true) ∧
    (∃ (s : State), s.sbUp = true ∧ s.rd SB_STAT.eid ≠ 0 ∧ s.sys.phase = .shutdown) ∧
    (∃ (s : State), s.sbUp = true ∧ s.rd SB_STAT.eid ≠ 0 ∧ s.sys.phase = .active) :=
  ⟨⟨5, 4096, true, { served with sb := keyed.sb }, by decide +kernel⟩,
    ⟨true, withRegs served [(SYS_LC.state, 2), (SB_CTL.secure_only, 1)], by decide +kernel⟩,
    ⟨4097, served, by decide +kernel⟩,
    ⟨served, by decide +kernel⟩,
    ⟨served, by decide +kernel⟩,
    ⟨withRegs served [(SB_STAT.mode, 2), (SB_STAT.dyn_addr, 7)], by decide +kernel⟩,
    ⟨0xFE, served, by decide +kernel⟩,
    ⟨served, by decide +kernel⟩,
    ⟨served, by decide +kernel⟩,
    ⟨served, by decide +kernel⟩,
    ⟨served, by decide +kernel⟩,
    ⟨served, by decide +kernel⟩,
    ⟨served, by decide +kernel⟩,
    ⟨served, by decide +kernel⟩,
    ⟨{ served with sb := keyed.sb }, by decide +kernel⟩,
    ⟨{ served with sb := keyed.sb }, by decide +kernel⟩,
    ⟨served, by decide +kernel⟩,
    ⟨served, 7, by decide +kernel⟩,
    ⟨served, by decide +kernel⟩,
    ⟨served, by decide +kernel⟩,
    ⟨served, by decide +kernel⟩,
    ⟨{ served with sb := { SidebandState.reset with sessions := (List.range 8).map fun i => (i, 0, none) } }, by
       decide +kernel⟩,
    ⟨{ served with sb := { SidebandState.reset with sessions := [(0, 4, some .fm)] } }, 0, 4, some .fm, by
       decide +kernel⟩,
    ⟨{ served with sb := keyed.sb }, by decide +kernel⟩,
    ⟨{ withRegs served [(SYS_SUPPLY.vin_good, 1)] with sys := { SysState.reset with phase := .off } }, by
       decide +kernel⟩,
    ⟨{ served with sys := { SysState.reset with phase := .shutdown } }, by decide +kernel⟩,
    ⟨served, by decide +kernel⟩⟩

/-! ## Ill-formed commands are refused -/

/-- An error of lane 3. -/
def err3 : SymErr := { lane := 3, xor := 0x5A }

/-- A MWRITE that is full and leaves bytes out. -/
def mwBad : Mwrite := { mw0 with partialWrite := false, mask := 1 }

/-- A calibration result, as often as it is listed. -/
def calR : CalResult :=
  { index := 3, target := 5, eye := 3, width := 4, complete := true, peaksOk := true, thresholds := [] }

/-- An identification of a layer. -/
def ident0 : LayerIdent := { bytes := [], same := true, spare := [] }

/-- An access with two errors of one lane. -/
def faults2 : LineFaults := { LineFaults.none with errs := [err3, err3] }

/-- A fetch of a tag line with an error of zero. -/
def tag0 : TagFaults := { errs := [{ err3 with xor := 0 }], sramOk := true }

/-- R90: an error of zero, and two errors of one lane, are none. -/
theorem test_wf_errors :
    [Instr.readBurstComplete 0 [err3, err3] ⟨[], true⟩ true true, .readBurstComplete 0 [] tag0 true true,
      .writeBurstIssue 0 [err3, err3] ⟨[], true⟩ ⟨true, true⟩ 0 0, .writeBurstIssue 0 [] tag0 ⟨true, true⟩ 0 0,
      .scrubRead 0 [{ err3 with xor := 0 }] true, .rowRepair 0 0 0 ⟨[(1, []), (1, [])], true⟩,
      .rowRepair 0 0 0 ⟨[(1, [err3, err3])], true⟩, .migrateRow [(1, []), (1, [])] true,
      .rekeyStroke [(1, LineFaults.none), (1, LineFaults.none)] .none, .rekeyStroke [(1, faults2)] .none,
      .rekeyStroke [] faults2,
      .backgroundOpComplete 1 [(1, []), (1, [])]].all (fun i => !i.wf) = true := by decide

/-- A unit, a quire or a slot is named once. -/
theorem test_wf_named_once :
    [Instr.scrubSelfCheck 0 [(1, 2), (1, 2)] false [], .scrubSelfCheck 0 [] false [(1, .clean), (1, .poisoned)],
      .tipinTableSweep [3] [3], .keyTableSweep [3] [3],
      .gaugeTableSweep [3] [3], .mark false [4, 4], .calCollectionComplete 0 [calR, calR] 0,
      .calRunTimeout 0 [calR, calR] 0, .sensorSlowRound [{ sensor := 1, value := none }, { sensor := 1, value := none }],
      .quireMapSweep [3] [3], .shutdownSelfTestDone ⟨[(1, 2, 3), (1, 2, 3)], 0⟩].all (fun i => !i.wf) = true := by decide

/-- What a start stage found is refused where it names a row that does not exist, or something twice. -/
theorem test_wf_findings :
    [{ find0 with sparedRows := [544] }, { find0 with failedRows := [7], sparedRows := [7] },
      { find0 with idents := [(1, ident0), (1, ident0)] }, { find0 with badVias := [(1, 2), (1, 2)] },
      { find0 with badVref := [1, 1] }, { find0 with badFolioVias := [1, 1] },
      { find0 with failures := [(1, 2, 3), (1, 2, 3)] }].all (fun f => !Instr.wf (.startStageEnd f 0)) = true := by decide

/-- R168: an EEPROM has 256 bytes, no fewer. -/
theorem test_wf_eeprom :
    [Instr.eepromReread .sideband (some { bytes := [1] }), .bankBusRetry (some { bytes := [] }),
      .vauxGood (some { bytes := [] }), .holdEnd 10 (some { bytes := [] })].all (fun i => !i.wf) = true ∧
    Instr.wf (.vauxGood (some ee)) = true := by decide +kernel

/-- The CRC-64 of the nine digits: the published check value of the ECMA-182 polynomial with this initial value, without
its final inversion (R281). -/
theorem test_crc64_check :
    crc64 [0x31, 0x32, 0x33, 0x34, 0x35, 0x36, 0x37, 0x38, 0x39] = 0x9D13A61C0E5B0FF5 := by decide +kernel

/-- A flit with two symbols of one codeword changed reads as sent (R281), and its messages come back (R288 to R290). -/
theorem test_flit_reads_as_sent :
    let f := State.reset.flit 0 1 false [.mwrite mw0, .mack 3 4]
    let w := (f.bytes.map (BitVec.ofNat 8)).zipIdx.map fun e => if e.2 = 4 ∨ e.2 = 248 then e.1 ^^^ 0x5A else e.1
    let r := State.reset.readFlit { bytes := w, established := false, failed := false }
    r.messages = [.mwrite mw0, .mack 3 4, .pad] ∧ r.seq = 1 ∧ r.fecCorrected = true ∧ r.crcOk = true := by decide +kernel

/-- R290: what no partner sends; R183 and R353: what no pin or port reports. -/
theorem test_wf_messages :
    [Instr.mwrite mwBad, .config 0 0 0 0 0, .config 0 5 0 0 0, .doveFlitReceive { flit0 with bytes := [1] },
      .powerFailDeclare false false, .portReset 0 0 false].all (fun i => !i.wf) = true := by decide

/-- The same commands in good form. -/
theorem test_wf_accepts :
    [Instr.readBurstComplete 0 [] ⟨[], true⟩ true true, .rowRepair 0 0 0 ⟨[(1, [err3]), (2, [err3])], true⟩, .mwrite mw0,
      .config 0 4 0 0 0, .mark false [4, 5], .powerFailDeclare true false, .portReset 0 1 false,
      .startStageEnd find0 0].all Instr.wf = true := by decide

/-! ## Worked examples and tables of the spec -/

/-- The worked example after R38: DPA 0x9A0_8F3A_5D80. -/
theorem test_decode_of_a_request :
    aliasKey 0x9A08F3A5D80 = 9 ∧ classMark 0x9A08F3A5D80 = 5 ∧ locOf 0x9A08F3A5D80 = 0x8F3A5D80 ∧
    act.placeOf 0x8F3A5D80 = { pc := 29, bank := 5 * 4 + 3, row := 572, col := 6 } ∧ quireOf 0x8F3A5D80 = 2291 ∧
    (regs [(KERF_STACK_CFG.carve_out, 1)]).tagLineOf 0x8F3A5D80 = 0x1E08F3A5C0 ∧
    (act.placeOf 0x1E08F3A5C0).pc = 37 := by decide +kernel

/-- The same example on an LR120-P4 whose layer 7 is absent. -/
theorem test_decode_without_a_layer :
    ({ regs [(KERF_STACK_CFG.map_out, 1), (KERF_STACK_CFG.absent_layer, 7)] with
        sys := { act.sys with variant := 3 } } : State).placeOf 0x8F3A5D80 =
      { pc := 1, bank := 5 * 4 + 3, row := 31292, col := 6 } := by decide +kernel

/-- AES-256 as FIPS 197 gives its example (appendix C.3), which R193 rests on. -/
theorem test_aes_example :
    aesEncrypt (roundKeys (List.range 32)) ((List.range 16).map fun i => i * 17) =
      [0x8e, 0xa2, 0xb7, 0xca, 0x51, 0x67, 0x45, 0xbf, 0xea, 0xfc, 0x49, 0x90, 0x4b, 0x49, 0x60, 0x89] := by
  decide +kernel

/-- R92 and R93: two bad symbols are corrected, and their lanes reported. -/
theorem test_two_symbols_corrected :
    (decodeLine 0 [] (withErrors (StoredLine.ofData 0x1234) [(3, 0x5A), (70, 1)])).outcome = .corrected ∧
    (decodeLine 0 [] (withErrors (StoredLine.ofData 0x1234) [(3, 0x5A), (70, 1)])).line = StoredLine.ofData 0x1234 := by
  decide +kernel

/-- R91 and R92: the cleared form and a poisoned line read as what they are. -/
theorem test_marks :
    (decodeLine 0 [] StoredLine.cleared.symbols).outcome = .cleared ∧
    (decodeLine 0 [] (StoredLine.poisoned 0x1234).symbols).outcome = .poisoned := by decide +kernel

/-- R366: the levels of the four bit pairs, and an inverted lane. -/
theorem test_pam4_levels :
    pamSend false 0 [false, false, false, true, true, true, true, false] = [.minus3, .minus1, .plus1, .plus3] ∧
    pamReceive true false 0 [.plus3, .plus1, .minus1, .minus3] = [false, false, false, true, true, true, true, false] :=
  by decide

/-- R391: along the row first, then along the column; router 4 r + c stands in row r and column c. -/
theorem test_spline_routes :
    splineRoute 0 5 4 = 9 ∧ splineRoute 1 5 4 = 10 ∧ splineRoute 5 5 4 = 4 ∧ splineRoute 15 12 5 = 11 := by decide

/-- R168: the record that an EEPROM holds reads back. -/
theorem test_eeprom_record : EepromData.current ee = some rec1 := by decide +kernel

/-- One state in every form that the invariants name, and a step from it. -/
theorem test_meets_invariants :
    ∃ s t : State, registersWf s = true ∧ memoryWf s = true ∧ s.pending ≠ [] ∧ s.flds ≠ [] ∧ step s = .next t :=
  ⟨{ act with pending := [.softReset .sideband 0x1D] }, _, by decide +kernel, by decide +kernel, by decide +kernel,
    by decide +kernel, rfl⟩

theorem test_meets_StepsKeepTheFieldsOfALayerEqual :
    ∃ s t : State, layersAgree s ∧ step s = .next t :=
  ⟨{ act with pending := [.softReset .sideband 0x40] }, _, by unfold layersAgree; decide +kernel, rfl⟩

theorem test_meets_LocksClearOnlyAtPowerOn_first :
    ∃ (c : Instr) (page : Page) (s t : State), s.rd (LOCK.lock.on page.val) = 1 ∧ exec c s = .next t :=
  ⟨.softReset .sideband 0x40, 0x40, regs [(LOCK.lock.on 0x40, 1)], _, by decide +kernel, rfl⟩

/-! ## Single commands -/

/-- The state that a command leaves; the state before where it left none. -/
def after (r : Result) (s : State) : State :=
  match r with
  | .next t => t
  | _ => s

/-- R52: a start of the Migrate slot is refused with reason 0x4. -/
theorem test_kerf_start_refused :
    (after (execKerfStart .sideband 3 act) act).rd (KERF_STAT.refuse_reason.ix 3) = 4 := by decide +kernel

/-- R216: a Load Key with K1 equal to K2 answers status 0x03. -/
theorem test_equal_keys_refused :
    (after (execLoadKey .fm { load0 with k2 := 7 } keyed) keyed).out = [.keyAnswer 3 []] := by decide +kernel

/-- R5: an access of eight bytes reads all ones. -/
theorem test_wide_access :
    (after (execRegisterReadRefused .sideband 0x1A104 8 act) act).out = [.regData 0xFFFFFFFF] := by decide +kernel

/-- R451: a device reset with a key other than 0x5253 is refused. -/
theorem test_reset_key :
    (after (execSysRstDevice .sideband 0x5252 act) act).sys.phase = .active := by decide +kernel

/-- R488: a rise takes the throttle one level up. -/
theorem test_throttle_rise :
    ((after (execThrottleRise 3 (heatS 3 { LayerTherm.reset with highAt := some 5, level := 6 }
      [(THERM_CTL.throttle_en, 1)])) act).heat 3).level = 7 := by decide +kernel

end Sys2Proof.Tests
end

/-! # What every operation but a power-on reset leaves -/

namespace Sys2Proof.Proofs

open Sys2Proof Sys2Proof.Machine Sys2Proof.Laws

set_option Elab.async false

/-! ## The relation -/

/-- A function of a number that is evaluated first, so that `rfl` computes it for a field of whatever page and copy. -/
def atNumeral (n : Nat) (k : Nat → Bool) : Bool :=
  match n with
  | 0 => k 0
  | m + 1 => k (m + 1)

theorem atNumeral_eq (n : Nat) (k : Nat → Bool) : atNumeral n k = k n := by cases n <;> rfl

/-- A field stands in its page where LOCK.lock does, whatever the page and the copy (R11). -/
def isLock (f : Fld) : Bool := atNumeral f.off fun o => atNumeral f.lsb fun l => (o * 32 + l) % 131072 == 0x060 * 32

theorem isLock_eq (f : Fld) : isLock f = (f.slot % 131072 == 0x060 * 32) := by
  simp only [isLock, atNumeral_eq, Fld.slot]

theorem isLock_ite {c : Prop} [Decidable c] {f g : Fld} (hf : isLock f = false) (hg : isLock g = false) :
    isLock (if c then f else g) = false := by
  split
  · exact hf
  · exact hg

/-- What every operation but a power-on reset leaves: each LOCK.lock, as `R` says of its value before and after (R11),
and the queue; and the register file and the DRAM array keep their canonical form. -/
structure Keeps (R : Nat → Nat → Prop) (s t : State) : Prop where
  locks : ∀ p, R (s.rd (LOCK.lock.on p)) (t.rd (LOCK.lock.on p))
  queue : t.pending = s.pending
  registers : registersWf s = true → registersWf t = true
  memory : memoryWf s = true → memoryWf t = true

/-- The command answers a next state that is as `Keeps` says. -/
def Answers (R : Nat → Nat → Prop) (s : State) (r : Result) : Prop := ∃ t, r = .next t ∧ Keeps R s t

variable {R : Nat → Nat → Prop} {s t : State}

theorem Keeps.refl (hR : ∀ n, R n n) (s : State) : Keeps R s s := ⟨fun _ => hR _, rfl, id, id⟩

theorem Answers.next (h : Keeps R s t) : Answers R s (.next t) := ⟨t, rfl, h⟩

/-! ## Branches and loops -/

theorem Keeps.fst {β : Type} {b : β} (h : Keeps R s t) : Keeps R s (t, b).1 := h
theorem Keeps.snd {α : Type} {a : α} (h : Keeps R s t) : Keeps R s (a, t).2 := h
theorem Keeps.thd {α β : Type} {a : α} {b : β} (h : Keeps R s t) : Keeps R s (a, b, t).2.2 := h

theorem Keeps.ite {c : Prop} [Decidable c] {a b : State} (ha : Keeps R s a) (hb : Keeps R s b) :
    Keeps R s (if c then a else b) := by
  split
  · exact ha
  · exact hb

theorem Keeps.iteSnd {α : Type} {c : Prop} [Decidable c] {a b : α × State} (ha : Keeps R s a.2) (hb : Keeps R s b.2) :
    Keeps R s (if c then a else b).2 := by
  split
  · exact ha
  · exact hb

theorem Answers.ite {c : Prop} [Decidable c] {a b : Result} (ha : Answers R s a) (hb : Answers R s b) :
    Answers R s (if c then a else b) := by
  split
  · exact ha
  · exact hb

theorem Keeps.forAll {α : Type} {f : State → α → State} {l : List α} (h : Keeps R s t)
    (hf : ∀ u a, Keeps R s u → Keeps R s (f u a)) : Keeps R s (t.forAll l f) :=
  forAll_keeps (P := Keeps R s) hf l h

/-- A loop that carries more than the state, of which `π` gives the state. -/
theorem Keeps.foldl {α β : Type} {π : β → State} {f : β → α → β} {l : List α} {b : β} (h : Keeps R s (π b))
    (hf : ∀ b a, Keeps R s (π b) → Keeps R s (π (f b a))) : Keeps R s (π (l.foldl f b)) :=
  List.foldlRecOn (motive := fun b => Keeps R s (π b)) l f h fun b hb a _ => hf b a hb

/-- A result is taken for the state it leaves. -/
theorem Keeps.after {r : Result} (hr : Answers R s r) : Keeps R s (t.after r) := by
  obtain ⟨u, rfl, hu⟩ := hr
  exact hu

/-! ## The register file -/

/-- The key of a field tells where it stands in its page. -/
theorem key_mod (f : Fld) : f.key % 131072 = f.slot % 131072 := by
  simp only [Fld.key, Fld.slot]
  omega

/-- A field that stands elsewhere in its page is no LOCK.lock. -/
theorem lock_key_ne {f : Fld} (hf : isLock f = false) (p : Nat) : (LOCK.lock.on p).key ≠ f.key := by
  intro e
  have hs : (LOCK.lock.on p).slot % 131072 = f.slot % 131072 := by rw [← key_mod, e, key_mod]
  have hl : (LOCK.lock.on p).slot = 0x060 * 32 := rfl
  simp only [isLock_eq, beq_eq_false_iff_ne] at hf
  omega

theorem Keeps.wr {f : Fld} {v : Nat} (h : Keeps R s t) (hf : isLock f = false := by rfl) : Keeps R s (t.wr f v) :=
  ⟨fun p => (State.rd_wr_ne t (lock_key_ne hf p) v).symm ▸ h.locks p, h.queue,
    fun w => wr_registersWf f v (h.registers w), h.memory⟩

section
variable {f g : Fld} {n v : Nat}

theorem Keeps.put (h : Keeps R s t) (hf : isLock f = false := by rfl) : Keeps R s (t.put f) := h.wr hf
theorem Keeps.clr (h : Keeps R s t) (hf : isLock f = false := by rfl) : Keeps R s (t.clr f) := h.wr hf
theorem Keeps.wrb {b : Bool} (h : Keeps R s t) (hf : isLock f = false := by rfl) : Keeps R s (t.wrb f b) := h.wr hf
theorem Keeps.count (h : Keeps R s t) (hf : isLock f = false := by rfl) : Keeps R s (t.count f n) := h.wr hf
theorem Keeps.bump (h : Keeps R s t) (hf : isLock f = false := by rfl) : Keeps R s (t.bump f) := h.wr hf
theorem Keeps.drop (h : Keeps R s t) (hf : isLock f = false := by rfl) : Keeps R s (t.drop f n) := h.wr hf
theorem Keeps.setBit (h : Keeps R s t) (hf : isLock f = false := by rfl) : Keeps R s (t.setBit f n) := h.wr hf
theorem Keeps.clrBit (h : Keeps R s t) (hf : isLock f = false := by rfl) : Keeps R s (t.clrBit f n) := h.wr hf

/-- A loop that clears fields of one place. -/
theorem Keeps.clrAll {l : List Fld} {place : Fld → Fld} (h : Keeps R s t)
    (hl : l.all (fun f => !isLock (place f)) = true := by rfl) : Keeps R s (t.forAll l fun u f => u.clr (place f)) := by
  induction l generalizing t with
  | nil => exact h
  | cons f l ih =>
    simp only [List.all_cons, Bool.and_eq_true, Bool.not_eq_true'] at hl
    exact ih (h.clr hl.1) hl.2

theorem Keeps.longest (h : Keeps R s t) (hf : isLock f = false := by rfl) : Keeps R s (t.longest f v) :=
  .ite (h.wr hf) h

theorem Keeps.wr64 (h : Keeps R s t) (hf : isLock f = false := by rfl) (hg : isLock g = false := by rfl) :
    Keeps R s (t.wr64 f g v) := (h.wr hf).wr hg

end

/-- Reading a table of which only the entries of some keys are left. -/
theorem get_filter_key {α : Type} {dflt : Nat → α} (q : Nat → Bool) (m : Sparse α) (k : Nat) :
    Sparse.get dflt (m.filter fun e => q e.1) k = if q k then Sparse.get dflt m k else dflt k := by
  induction m with
  | nil => simp
  | cons e m ih =>
    obtain ⟨j, v⟩ := e
    by_cases hj : q j = true <;> by_cases hk : j = k <;> simp_all [Sparse.get]

/-- The offset of LOCK in its page, as the key of its field tells it. -/
theorem lock_key_off (p : Nat) : (LOCK.lock.on p).key / 32 % 4096 = 0x060 := by
  simp only [Fld.key, Fld.on, LOCK.lock]
  omega

/-- A soft reset's registers stand at 0x100 and above, so that it meets no page header. -/
theorem Keeps.resetPage {page : Nat} {keep : Nat → Bool} (h : Keeps R s t) : Keeps R s (t.resetPage page keep) := by
  refine ⟨fun p => ?_, h.queue, fun w => resetPage_registersWf page keep (h.registers w), h.memory⟩
  have hp : (t.resetPage page keep).rd (LOCK.lock.on p) = t.rd (LOCK.lock.on p) := by
    simp only [State.rd, State.resetPage]
    rw [get_filter_key fun k => !(decide (k / 131072 % 128 = page) && decide (0x100 ≤ k / 32 % 4096)) || keep k]
    simp [lock_key_off]
  exact hp ▸ h.locks p

/-! ## The other components -/

/-- Whatever changes beside the register file, the DRAM array and the queue. -/
theorem Keeps.upd (h : Keeps R s t) {now free out pages transit nextReq stalled pcs layers kerf repair recoveries folio
    bank crypto gauge chisel dove ports lds mbox lanes spline clk domains sys cals sensors therm pin bist otp sb} :
    Keeps R s { t with now, free, out, pages, transit, nextReq, stalled, pcs, layers, kerf, repair, recoveries, folio,
                       bank, crypto, gauge, chisel, dove, ports, lds, mbox, lanes, spline, clk, domains, sys, cals,
                       sensors, therm, pin, bist, otp, sb } :=
  ⟨h.locks, h.queue, h.registers, h.memory⟩

theorem Keeps.setLine {a : Nat} {l : StoredLine} (h : Keeps R s t) : Keeps R s (t.setLine a l) :=
  ⟨h.locks, h.queue, h.registers, fun w => setLine_memoryWf a l (h.memory w)⟩

theorem Keeps.clearLines {lo hi : Nat} (h : Keeps R s t) : Keeps R s (t.clearLines lo hi) :=
  ⟨h.locks, h.queue, h.registers, fun w => clearLines_memoryWf lo hi (h.memory w)⟩

theorem Keeps.replaceLines {lo hi : Nat} {new : Sparse StoredLine} (h : Keeps R s t) :
    Keeps R s (t.replaceLines lo hi new) :=
  ⟨h.locks, h.queue, h.registers, fun w => replaceLines_memoryWf lo hi new (h.memory w)⟩

end Sys2Proof.Proofs

/-! # Each operation of the model keeps the locks, in the order of its files -/

namespace Sys2Proof.Proofs

open Sys2Proof Sys2Proof.Machine Sys2Proof.Laws

-- The walk has more theorems than the check has memory for threads: they are compiled one after another.
set_option Elab.async false

variable {R : Nat → Nat → Prop} {s t : State}

/-! ### Machine/Ops -/

theorem Keeps.advance {dt : Nat} (h : Keeps R s t) : Keeps R s (t.advance dt) := h.upd
theorem Keeps.advanceTo {t' : Nat} (h : Keeps R s t) : Keeps R s (t.advanceTo t') := h.advance
theorem Keeps.emit {o : Out} (h : Keeps R s t) : Keeps R s (t.emit o) := h.upd
theorem Keeps.drawn (h : Keeps R s t) : Keeps R s t.drawn := h.upd
theorem Keeps.setPage {p : Nat} {v : PageState} (h : Keeps R s t) : Keeps R s (t.setPage p v) := h.upd
theorem Keeps.setPc {p : Nat} {v : Pc} (h : Keeps R s t) : Keeps R s (t.setPc p v) := h.upd
theorem Keeps.setLayer {l : Nat} {v : Layer} (h : Keeps R s t) : Keeps R s (t.setLayer l v) := h.upd
theorem Keeps.setEng {k : Nat} {v : KerfEng} (h : Keeps R s t) : Keeps R s (t.setEng k v) := h.upd
theorem Keeps.setQuire {q : Nat} {v : QEntry} (h : Keeps R s t) : Keeps R s (t.setQuire q v) := h.upd
theorem Keeps.setKey {k : Nat} {v : KeySlot} (h : Keeps R s t) : Keeps R s (t.setKey k v) := h.upd
theorem Keeps.setRights {m : Nat} {v : BitVec 256} (h : Keeps R s t) : Keeps R s (t.setRights m v) := h.upd
theorem Keeps.setRange {n : Nat} {v : KeyRange} (h : Keeps R s t) : Keeps R s (t.setRange n v) := h.upd
theorem Keeps.setPair {p : Nat} {v : PairForce} (h : Keeps R s t) : Keeps R s (t.setPair p v) := h.upd
theorem Keeps.setPort {p : Nat} {v : PortState} (h : Keeps R s t) : Keeps R s (t.setPort p v) := h.upd
theorem Keeps.setLd {m : Nat} {v : LdState} (h : Keeps R s t) : Keeps R s (t.setLd m v) := h.upd
theorem Keeps.setLane {n : Nat} {v : LaneState} (h : Keeps R s t) : Keeps R s (t.setLane n v) := h.upd
theorem Keeps.setXing {n : Nat} {v : Crossing} (h : Keeps R s t) : Keeps R s (t.setXing n v) := h.upd
theorem Keeps.setDomain {n : Nat} {v : DomainState} (h : Keeps R s t) : Keeps R s (t.setDomain n v) := h.upd
theorem Keeps.setCal {n : Nat} {v : CalState} (h : Keeps R s t) : Keeps R s (t.setCal n v) := h.upd
theorem Keeps.setSensor {n : Nat} {v : Sensor} (h : Keeps R s t) : Keeps R s (t.setSensor n v) := h.upd
theorem Keeps.setHeat {n : Nat} {v : LayerTherm} (h : Keeps R s t) : Keeps R s (t.setHeat n v) := h.upd
theorem Keeps.setTip {e : Nat} {v : TipEntry} (h : Keeps R s t) : Keeps R s (t.setTip e v) := h.upd
theorem Keeps.fixCapacity (h : Keeps R s t) : Keeps R s t.fixCapacity := h.wr

/-! ### Machine/Flags -/

theorem Keeps.send {p : Nat} {o : Out} (h : Keeps R s t) : Keeps R s (t.send p o) :=
  .ite h.setPort.put (.ite h.setPort h.emit)

theorem Keeps.pageMsix (h : Keeps R s t) : Keeps R s t.pageMsix := h.forAll fun _ _ k => k.send
theorem Keeps.intOut {page bit : Nat} (h : Keeps R s t) : Keeps R s (t.intOut page bit) := .ite h.pageMsix h
theorem Keeps.cause {page bit : Nat} (h : Keeps R s t) : Keeps R s (t.cause page bit) := .ite h h.setBit.intOut

theorem Keeps.errPulseStart {source : Nat} (h : Keeps R s t) : Keeps R s (t.errPulseStart source) :=
  h.put.wr.bump.wr64.upd.emit

theorem Keeps.errEvent {source : Nat} (h : Keeps R s t) : Keeps R s (t.errEvent source) :=
  .ite h (.ite h.bump (.ite (.ite h.bump h.upd.wr) h.errPulseStart))

theorem Keeps.fixWake (h : Keeps R s t) : Keeps R s t.fixWake := .ite h h.upd.emit
theorem Keeps.wakeFor {port : Nat} (h : Keeps R s t) : Keeps R s (t.wakeFor port) := .ite h.setPort.fixWake h
theorem Keeps.wakeOver {port : Nat} (h : Keeps R s t) : Keeps R s (t.wakeOver port) := h.setPort.fixWake

theorem Keeps.enterLog {log : Nat} {r : EventRec} {m : Nat × Nat} (h : Keeps R s t) :
    Keeps R s (t.enterLog log r m) :=
  .ite (.wakeFor (.ite h.setLd.send (.ite h.setLd.send h.setLd))) (.ite h.setLd.send (.ite h.setLd.send h.setLd))

theorem Keeps.aerDue {severity : Nat} {lds : List (Nat × Nat)} (h : Keeps R s t) :
    Keeps R s (t.aerDue severity lds) :=
  h.forAll fun _ _ k => .ite k k.setPort

theorem Keeps.report {e : Err} {r : Report} (h : Keeps R s t) : Keeps R s (t.report e r) :=
  .ite h (h.forAll fun _ _ k => k.enterLog)

theorem Keeps.capture {e : Err} (h : Keeps R s t) : Keeps R s (t.capture e) := h.wr64.wr.wr.wr.wr.wr64.wrb.put
theorem Keeps.captureFirst {e : Err} (h : Keeps R s t) : Keeps R s (t.captureFirst e) := .ite h.put h.capture

theorem Keeps.tally {e : Err} (h : Keeps R s t) : Keeps R s (t.tally e) := by
  unfold State.tally
  split
  · exact h.put.bump
  · exact h.put.bump
  · exact h.put.bump

theorem Keeps.firstFatal {page code : Nat} (h : Keeps R s t) : Keeps R s (t.firstFatal page code) :=
  .ite h.bump.cause h.bump.cause.wr.wr.wr64.put

theorem Keeps.escalate {page code : Nat} (h : Keeps R s t) : Keeps R s (t.escalate page code) :=
  .ite (.ite h.setPage h) (.ite h.put.setPage h)

theorem Keeps.isolate {page : Nat} (h : Keeps R s t) : Keeps R s (t.isolate page) := h.wr
theorem Keeps.startWake {d : Nat} (h : Keeps R s t) : Keeps R s (t.startWake d) := h.setDomain.wr.bump
theorem Keeps.wakeTb (h : Keeps R s t) : Keeps R s t.wakeTb := .ite h.startWake h

theorem Keeps.log {e : Err} (h : Keeps R s t) : Keeps R s (t.log e) := by
  unfold State.log
  extract_lets _ t₁ t₂ t₃ t₄ t₅ t₆
  have h₁ : Keeps R s t₁ := h.wakeTb.tally.captureFirst
  have h₂ : Keeps R s t₂ := .ite h₁.intOut h₁
  have h₃ : Keeps R s t₃ := h₂.report
  have h₄ : Keeps R s t₄ := h₃.aerDue
  have h₅ : Keeps R s t₅ := .ite h₄.errEvent h₄
  have h₆ : Keeps R s t₆ := h₃.firstFatal.aerDue.errEvent
  split
  · exact .ite h₃.aerDue h₃
  · exact .ite h₄.errEvent (.ite h₄ h₅.escalate)
  · split
    · exact h₆.escalate
    · exact .ite h₆.isolate h₆
    · exact h₆

theorem Keeps.err {page code addr : Nat} (h : Keeps R s t) : Keeps R s (t.err page code addr) := h.log

theorem Keeps.errReq {page code dpa access master : Nat} (h : Keeps R s t) :
    Keeps R s (t.errReq page code dpa access master) :=
  h.log

/-! ### Machine/Operands -/

theorem Keeps.deny {who : Accessor} {off : Nat} (h : Keeps R s t) : Keeps R s (t.deny who off) := by
  unfold State.deny
  split
  · exact h.bump.cause.log
  · exact h

theorem Keeps.setDomainPages {d st : Nat} (h : Keeps R s t) : Keeps R s (t.setDomainPages d st) :=
  h.forAll fun _ _ k => .ite k.wr k

theorem Keeps.wakeDomain {d : Nat} (h : Keeps R s t) : Keeps R s (t.wakeDomain d) :=
  .ite h.startWake.put.wakeTb h

theorem Keeps.setGate {d : Nat} {since : Option Nat} (h : Keeps R s t) : Keeps R s (t.setGate d since) :=
  h.setDomain

theorem Keeps.readyDomain {d : Nat} (h : Keeps R s t) : Keeps R s (t.readyDomain d) :=
  h.wr.clr.setDomain.setDomainPages

theorem Keeps.runDomain {d : Nat} (h : Keeps R s t) : Keeps R s (t.runDomain d) :=
  .ite h h.wakeDomain.readyDomain

theorem Keeps.abortEntry {d : Nat} (h : Keeps R s t) : Keeps R s (t.abortEntry d) :=
  h.setGate.bump.clr.wr.setDomain

theorem Keeps.wakePage {page : Nat} (h : Keeps R s t) : Keeps R s (t.wakePage page) := by
  unfold State.wakePage
  split
  · exact h.wakeTb
  · split
    · exact .ite h.abortEntry h.runDomain
    · exact h

theorem Keeps.command {who : Accessor} {page off : Nat} {act : State → State} (h : Keeps R s t)
    (hact : ∀ u, Keeps R s u → Keeps R s (act u)) : Keeps R s (t.command who page off act) :=
  .ite h (.ite h.deny (.ite h (.ite h (hact _ h.wakePage))))

/-! ### Machine/FolioOps -/

theorem Keeps.charge {pair n : Nat} (h : Keeps R s t) : Keeps R s (t.charge pair n) := h.upd
theorem Keeps.chargeEng {master n : Nat} (h : Keeps R s t) : Keeps R s (t.chargeEng master n) := h.charge
theorem Keeps.latchOver {u : State} (h : Keeps R s t) : Keeps R s (t.latchOver u) := h.upd
theorem Keeps.setBlock {b : Nat} {v : BlockState} (h : Keeps R s t) : Keeps R s (t.setBlock b v) := h.upd

theorem Keeps.openStripe {layer : Nat} {bind : Bool} {o : Nat × State} (h : Keeps R s t)
    (ho : t.openStripe layer bind = some o) : Keeps R s o.2 := by
  simp only [State.openStripe] at ho
  split at ho
  · cases ho
  · cases ho
    exact h.upd.forAll fun _ _ k => k.setBlock

theorem Keeps.setOpen {layer : Nat} {o : Option (Nat × Nat)} (h : Keeps R s t) : Keeps R s (t.setOpen layer o) :=
  h.upd

theorem Keeps.takeSlot {layer : Nat} {bind : Bool} {o : Nat × State} (h : Keeps R s t)
    (ho : t.takeSlot layer bind = some o) : Keeps R s o.2 := by
  simp only [State.takeSlot] at ho
  split at ho
  · cases ho
    exact h.setOpen
  · obtain ⟨a, ha, rfl⟩ := Option.map_eq_some_iff.1 ho
    exact (h.openStripe ha).setOpen

theorem Keeps.nextSlot {bind : Bool} {o : Nat × State} (h : Keeps R s t) (ho : t.nextSlot bind = some o) :
    Keeps R s o.2 := by
  simp only [State.nextSlot] at ho
  split at ho
  · rename_i a ha
    cases ho
    exact (h.takeSlot ha).upd
  · obtain ⟨a, ha, rfl⟩ := Option.map_eq_some_iff.1 ho
    exact (h.takeSlot ha).upd

theorem Keeps.fixEnergy (h : Keeps R s t) : Keeps R s t.fixEnergy := h.wr.wr

theorem Keeps.fixLevel (h : Keeps R s t) : Keeps R s t.fixLevel :=
  .ite (.forAll (.ite (.ite h h.wrb.cause) (.cause (.wr (.ite h h.wrb.cause)))) fun _ _ k => k.setBit.cause)
    (.ite (.ite h h.wrb.cause) (.cause (.wr (.ite h h.wrb.cause))))

theorem Keeps.fixBudget (h : Keeps R s t) : Keeps R s t.fixBudget := by
  unfold State.fixBudget
  extract_lets _ _ _ t₁ t₂ _ t₃
  have h₁ : Keeps R s t₁ := h.wr
  have h₂ : Keeps R s t₂ := h₁.cause.err
  have h₃ : Keeps R s t₃ := by
    unfold t₃
    split
    · split
      · exact .ite h₂.upd h₂
      · exact h₂.upd
    · exact h₁
  exact .ite h h₃.fixLevel

theorem Keeps.markDirty {q master : Nat} (h : Keeps R s t) : Keeps R s (t.markDirty q master) :=
  .ite h (.ite h.setQuire.upd h.setQuire.upd.upd.fixLevel)

theorem Keeps.markCleared {q : Nat} (h : Keeps R s t) : Keeps R s (t.markCleared q) :=
  .ite h.setQuire (.ite h.setQuire.upd.fixLevel h.setQuire.upd.fixBudget)

theorem Keeps.beginHolding (h : Keeps R s t) : Keeps R s t.beginHolding := .ite h.bump.put.cause.upd h.bump
theorem Keeps.hold {r : Req} (h : Keeps R s t) : Keeps R s (t.hold r) := h.beginHolding.upd

theorem Keeps.holdEngine {master : Nat} (h : Keeps R s t) : Keeps R s (t.holdEngine master) :=
  .ite h h.beginHolding.upd

theorem Keeps.endHolding (h : Keeps R s t) : Keeps R s t.endHolding :=
  .ite (.longest (.clr (.ite h h.upd))) (.ite h h.upd)

theorem Keeps.setPersist {v : Nat} (h : Keeps R s t) : Keeps R s (t.setPersist v) := .ite h h.wr.cause

theorem Keeps.orderCkpt {kind : Nat} (h : Keeps R s t) : Keeps R s (t.orderCkpt kind) := by
  unfold State.orderCkpt
  split
  · exact h.put
  · exact h.upd

theorem Keeps.endCkpt (h : Keeps R s t) : Keeps R s t.endCkpt := .ite h.upd.clr.orderCkpt h.upd

theorem Keeps.gpfDone {w : GpfWait} (h : Keeps R s t) : Keeps R s (t.gpfDone w) :=
  .ite h.emit.cause.orderCkpt h.emit.cause

theorem Keeps.gpfWritten {id : Nat} (h : Keeps R s t) : Keeps R s (t.gpfWritten id) :=
  .ite h (h.upd.forAll fun _ _ k => k.gpfDone)

theorem Keeps.appendSys {kind : Nat} (h : Keeps R s t) : Keeps R s (t.appendSys kind) := h.drawn.upd
theorem Keeps.reserveBsns (h : Keeps R s t) : Keeps R s t.reserveBsns := h.appendSys.upd.wr64

theorem Keeps.takeBsn {bind : Bool} (h : Keeps R s t) : Keeps R s (t.takeBsn bind).2 := by
  unfold State.takeBsn
  exact .snd (.ite h.appendSys.upd.reserveBsns h.appendSys.upd)

theorem Keeps.setSlot {n : Nat} {d : Option SlotData} (h : Keeps R s t) : Keeps R s (t.setSlot n d) := h.upd

/-! ### Machine/GaugeOps -/

theorem Keeps.fixGauge (h : Keeps R s t) : Keeps R s t.fixGauge :=
  .ite (.ite h.wr.wr.wr.wr.upd h.wr.wr.wr.wr.upd.put.bump.cause) h.wr.wr.wr.wr

theorem Keeps.countMiss {pair : Nat} (h : Keeps R s t) : Keeps R s (t.countMiss pair) := h.bump.setBit.cause

theorem Keeps.applyStaged (h : Keeps R s t) : Keeps R s t.applyStaged :=
  .ite h (.cause (.clr (.upd (h.forAll fun _ _ k => k.setPair))))

theorem Keeps.endWindow {short : Bool} (h : Keeps R s t) : Keeps R s (t.endWindow short) := by
  unfold State.endWindow
  extract_lets t₁ t₂ t₃ t₄ t₅ _ t₆
  have h₁ : Keeps R s t₁ := .ite h (h.forAll fun _ _ k => k.countMiss)
  have h₂ : Keeps R s t₂ := h₁.forAll fun _ _ k => k.wr
  have h₃ : Keeps R s t₃ := h₂.bump.wrb
  have h₄ : Keeps R s t₄ := .ite h₃.clr.cause h₃
  have h₅ : Keeps R s t₅ := h₄.wr
  have h₆ : Keeps R s t₆ := h₅.upd
  exact h₆.applyStaged.fixGauge

/-! ### Machine/CalOps -/

theorem Keeps.setCalMode {u' m : Nat} (h : Keeps R s t) : Keeps R s (t.setCalMode u' m) := h.wr (isLock_ite rfl rfl)

theorem isLock_calPending {u : Nat} : isLock (calPending u) = false := isLock_ite rfl rfl

theorem Keeps.beginRun {u' : Nat} {command : Bool} (h : Keeps R s t) : Keeps R s (t.beginRun u' command) :=
  .ite h (Keeps.setCalMode (h.clr isLock_calPending)).setCal

theorem Keeps.calEvent {u' : Nat} {command : Bool} (h : Keeps R s t) : Keeps R s (t.calEvent u' command) :=
  .ite h (.ite (h.setCal.put isLock_calPending) h.beginRun)

theorem Keeps.stopRun {u' : Nat} (h : Keeps R s t) : Keeps R s (t.stopRun u') := h.setCal.setCalMode

theorem Keeps.fixCal {u' : Nat} (h : Keeps R s t) : Keeps R s (t.fixCal u') :=
  .ite (.ite h h.stopRun.setCalMode) (.ite (.ite h.setCalMode.beginRun h.setCalMode) h)

theorem Keeps.fixCalLayer {layer : Nat} (h : Keeps R s t) : Keeps R s (t.fixCalLayer layer) :=
  h.forAll fun _ _ k => k.fixCal

theorem Keeps.calDrift {u' : Nat} (h : Keeps R s t) : Keeps R s (t.calDrift u') := .ite h.calEvent h

/-! ### Machine/DramOps -/

theorem Keeps.runLfsr {pc : Nat} (h : Keeps R s t) : Keeps R s (t.runLfsr pc) := .ite h h.setPc

theorem Keeps.runLfsrs {layer : Nat} (h : Keeps R s t) : Keeps R s (t.runLfsrs layer) :=
  h.forAll fun _ _ k => k.runLfsr

theorem Keeps.sampleAt {pc bank row t' : Nat} (h : Keeps R s t) : Keeps R s (t.sampleAt pc bank row t') :=
  .ite h h.setPc

theorem Keeps.sample {pc bank row : Nat} (h : Keeps R s t) : Keeps R s (t.sample pc bank row) :=
  h.runLfsr.sampleAt

theorem Keeps.heatCount {layer acts bursts refs : Nat} (h : Keeps R s t) :
    Keeps R s (t.heatCount layer acts bursts refs) :=
  h.setHeat

theorem Keeps.activateRow {pc bank row : Nat} (h : Keeps R s t) : Keeps R s (t.activateRow pc bank row) :=
  h.setPc.sample.heatCount

theorem Keeps.refreshed {pc n : Nat} (h : Keeps R s t) : Keeps R s (t.refreshed pc n) := h.count.heatCount

theorem Keeps.takeDivider {layer : Nat} (h : Keeps R s t) : Keeps R s (t.takeDivider layer) :=
  .ite h h.runLfsrs.setLayer.fixCalLayer.fixGauge

theorem Keeps.gate {layer : Nat} (h : Keeps R s t) : Keeps R s (t.gate layer) :=
  h.runLfsrs.forAll fun _ _ k => k.put

theorem Keeps.ungate {layer : Nat} (h : Keeps R s t) : Keeps R s (t.ungate layer) :=
  .ite h (.takeDivider (h.forAll fun _ _ k => k.setPc.clr))

theorem Keeps.startEntry {pc : Nat} (h : Keeps R s t) : Keeps R s (t.startEntry pc) := h.setPc.put
theorem Keeps.abortSr {pc : Nat} (h : Keeps R s t) : Keeps R s (t.abortSr pc) := h.setPc.refreshed.clr.bump.clr

theorem Keeps.issueSre {pc : Nat} (h : Keeps R s t) : Keeps R s (t.issueSre pc) :=
  .ite h.advanceTo.refreshed.setPc.clr.put.bump.cause.fixCal.gate
    h.advanceTo.refreshed.setPc.clr.put.bump.cause.fixCal

theorem Keeps.rouse {pc : Nat} {who : Nat × Nat × Nat} (h : Keeps R s t) : Keeps R s (t.rouse pc who) :=
  .ite h.abortSr (.ite h.ungate.setPc.put h)

theorem Keeps.exitSr {pc : Nat} (h : Keeps R s t) : Keeps R s (t.exitSr pc) := by
  unfold State.exitSr
  extract_lets t₁ _ t₂ t₃ _ _ _ _ t₄ t₅
  have h₁ : Keeps R s t₁ := h.runDomain
  have h₂ : Keeps R s t₂ := h₁.advanceTo
  have h₃ : Keeps R s t₃ := h₂.ungate
  have h₄ : Keeps R s t₄ := h₃.setPc
  have h₅ : Keeps R s t₅ := h₄.clr.cause.fixCal
  split
  · exact h₅
  · exact .ite h₅.longest.errReq h₅.longest

theorem Keeps.wakeForEngine {pc : Nat} {who : Nat × Nat × Nat} (h : Keeps R s t) :
    Keeps R s (t.wakeForEngine pc who) :=
  .setPc (.ite h.rouse.exitSr h.rouse)

theorem Keeps.engineRow {loc access master : Nat} (h : Keeps R s t) : Keeps R s (t.engineRow loc access master) :=
  .ite h.wakeForEngine h.wakeForEngine.activateRow

theorem Keeps.strokeRows {lo access master : Nat} (h : Keeps R s t) : Keeps R s (t.strokeRows lo access master) :=
  h.forAll fun _ _ k => k.engineRow

theorem Keeps.quireRows {q access master : Nat} (h : Keeps R s t) : Keeps R s (t.quireRows q access master) :=
  h.forAll fun _ _ k => k.engineRow

/-! ### Machine/RepairOps -/

theorem Keeps.addPoison {loc source : Nat} (h : Keeps R s t) : Keeps R s (t.addPoison loc source) :=
  .ite h (.ite h.upd h.upd)

theorem Keeps.dropPoison {loc : Nat} (h : Keeps R s t) : Keeps R s (t.dropPoison loc) := h.upd
theorem Keeps.dropWb {loc : Nat} (h : Keeps R s t) : Keeps R s (t.dropWb loc) := .ite h.setPc h

theorem Keeps.poisonLine {loc : Nat} {d : LineData} {source : Nat} (h : Keeps R s t) :
    Keeps R s (t.poisonLine loc d source) :=
  h.dropWb.setLine.addPoison

theorem Keeps.appendRecord (h : Keeps R s t) : Keeps R s t.appendRecord := h.put.upd

theorem Keeps.startMigrate {pc bank : Nat} (h : Keeps R s t) : Keeps R s (t.startMigrate pc bank) :=
  h.wr.wr.wr.setEng

theorem Keeps.dramEvent {page code pc bank row : Nat} (h : Keeps R s t) :
    Keeps R s (t.dramEvent page code pc bank row) :=
  h.report

theorem Keeps.spareBit {pc : Nat} (h : Keeps R s t) : Keeps R s (t.spareBit pc) := .ite h.setBit h.setBit

theorem Keeps.retireBank {loc : Nat} (h : Keeps R s t) : Keeps R s (t.retireBank loc) :=
  .ite h (.ite (.appendRecord (.ite h.wr.wr.spareBit.cause.dramEvent.upd.bump
    h.wr.wr.spareBit.cause.dramEvent.startMigrate)) h.cause.err)

theorem Keeps.triggerRepair {pc bank row : Nat} (h : Keeps R s t) : Keeps R s (t.triggerRepair pc bank row) :=
  .ite h h.upd

theorem Keeps.eraseLane {pc lane : Nat} (h : Keeps R s t) : Keeps R s (t.eraseLane pc lane) := by
  unfold State.eraseLane
  extract_lets n t₁
  have h₁ : Keeps R s t₁ := .wr h.wr (by unfold Fld.pc; split <;> rfl)
  exact .ite h (.ite h₁.cause.err.appendRecord (.ite h h.setPc.err))

theorem Keeps.laneEvent {pc bank : Nat} {lanes : List Nat} (h : Keeps R s t) :
    Keeps R s (t.laneEvent pc bank lanes) :=
  h.forAll fun _ _ k => .ite k.setPc.bump.eraseLane k.setPc.bump

theorem Keeps.watchRow {pc bank row : Nat} {lanes : List Nat} (h : Keeps R s t) :
    Keeps R s (t.watchRow pc bank row lanes) := by
  unfold State.watchRow
  extract_lets _ hit t₁ _ _ _ t₂
  have h₁ : Keeps R s t₁ := .ite h.triggerRepair h
  have h₂ : Keeps R s t₂ := .ite h₁.setPc h₁.setPc.bump
  cases hit with
  | some w => exact .ite h₁ (.laneEvent (.ite h₁.setPc.triggerRepair h₁.setPc))
  | none => exact h₂.laneEvent

theorem Keeps.sendDove {m : DoveMsg} (h : Keeps R s t) : Keeps R s (t.sendDove m) :=
  .ite h (.ite h.upd h.upd.emit)

theorem Keeps.startRecovery {loc : Nat} {forTag lost : Bool} (h : Keeps R s t) :
    Keeps R s (t.startRecovery loc forTag lost) :=
  .ite h.upd h.upd.sendDove

theorem Keeps.checkerFault {code dpa access master : Nat} (h : Keeps R s t) :
    Keeps R s (t.checkerFault code dpa access master) :=
  h.bump.cause.errReq

theorem Keeps.countCorrected {pc n : Nat} (h : Keeps R s t) : Keeps R s (t.countCorrected pc n) :=
  h.setHeat.bump (by split <;> [rfl; split <;> rfl])

theorem Keeps.queueWriteback {pc loc : Nat} {l : StoredLine} (h : Keeps R s t) :
    Keeps R s (t.queueWriteback pc loc l) :=
  .ite h.setPc h

theorem Keeps.observe {v : Verdict} {dpa access master : Nat} (h : Keeps R s t) :
    Keeps R s (t.observe v dpa access master) := by
  unfold State.observe
  extract_lets _ _ t₁ t₂ t₃
  have h₁ : Keeps R s t₁ := .ite h.countCorrected.errReq h
  have h₂ : Keeps R s t₂ := .ite h h₁.queueWriteback.watchRow
  have h₃ : Keeps R s t₃ := h₂.bump.cause.errReq
  split
  · exact h₂.bump
  · exact h₃.addPoison.retireBank
  · exact h₂

theorem Keeps.takeInjection {kind target : Nat} (h : Keeps R s t) : Keeps R s (t.takeInjection kind target).2 := by
  unfold State.takeInjection
  split
  · exact .snd h.upd
  · exact .snd h

theorem Keeps.encodeOut {loc : Nat} {l : StoredLine} {fails dpa access master : Nat} (h : Keeps R s t) :
    Keeps R s (t.encodeOut loc l fails dpa access master).2 := by
  unfold State.encodeOut
  extract_lets _ i k n _ t₁ t₂
  have h₀ : Keeps R s k.2 := h.takeInjection.takeInjection
  have h₁ : Keeps R s t₁ := .ite h₀.drawn h₀
  have h₂ : Keeps R s t₂ := .ite h₁ h₁.count.cause
  split
  · exact .snd h₂
  · exact .snd h₂.errReq

theorem Keeps.writeLine {loc : Nat} {l : StoredLine} {access master : Nat} (h : Keeps R s t) :
    Keeps R s (t.writeLine loc l access master) := by
  unfold State.writeLine
  extract_lets o
  have ho : Keeps R s o.2 := h.engineRow.encodeOut
  clear_value o
  exact .ite ho.poisonLine ho.dropWb.setLine.dropPoison

theorem Keeps.engineRead {loc : Nat} {errs : List (Nat × Nat)} {agree : Bool} {access master : Nat} (h : Keeps R s t)
    : Keeps R s (t.engineRead loc errs agree access master).2 := by
  unfold State.engineRead
  extract_lets _ t₁ _ _ t₂ t₃ t₄ _ t₅ t₆
  have h₁ : Keeps R s t₁ := h.engineRow.takeInjection
  have h₂ : Keeps R s t₂ := h₁.checkerFault
  have h₃ : Keeps R s t₃ := .ite h₂.errReq h₂
  have h₄ : Keeps R s t₄ := h₁.observe
  have h₅ : Keeps R s t₅ := .ite h₄.errReq h₄
  have h₆ : Keeps R s t₆ := .ite h₅.startRecovery h₅
  split
  · exact .snd h
  · split
    · exact .snd h₃
    · exact .snd h₆

/-! ### Machine/KerfOps -/

theorem Keeps.setPush {q : Nat} {b : Bool} (h : Keeps R s t) : Keeps R s (t.setPush q b) := h.upd
theorem Keeps.setPull {q : Nat} {b : Bool} (h : Keeps R s t) : Keeps R s (t.setPull q b) := h.upd

theorem Keeps.demand {k q : Nat} (h : Keeps R s t) : Keeps R s (t.demand k q) :=
  .ite h (.ite h.setEng.bump h.bump.cause)

theorem Keeps.refillDemand {k : Nat} (h : Keeps R s t) : Keeps R s (t.refillDemand k) :=
  h.forAll fun _ _ k => .ite k.demand k

theorem Keeps.finishQuire {k q : Nat} (h : Keeps R s t) : Keeps R s (t.finishQuire k q) :=
  h.setEng.bump.refillDemand

theorem Keeps.engineWaits {k : Nat} (h : Keeps R s t) : Keeps R s (t.engineWaits k) := .ite h h.wr.bump

theorem Keeps.startKerf {k : Nat} {sel : Spans} {purpose : Nat} (h : Keeps R s t) :
    Keeps R s (t.startKerf k sel purpose) :=
  h.setEng.wr.wr

theorem Keeps.forgetLines {lo hi : Nat} (h : Keeps R s t) : Keeps R s (t.forgetLines lo hi) := h.upd

theorem Keeps.clearSpan {lo hi : Nat} (h : Keeps R s t) : Keeps R s (t.clearSpan lo hi) :=
  h.clearLines.forgetLines

theorem Keeps.clearQuireNow {q : Nat} (h : Keeps R s t) : Keeps R s (t.clearQuireNow q) :=
  h.quireRows.clearSpan.markCleared.finishQuire.chargeEng

theorem Keeps.liftPoisoned {q : Nat} (h : Keeps R s t) : Keeps R s (t.liftPoisoned q) := by
  -- The kernel would run the body to compare it with its match: so the states on the way are named only, by `id`.
  generalize hF : @State.liftPoisoned = F
  delta State.liftPoisoned at hF
  subst hF
  beta_reduce
  extract_lets +onlyGivenNames lo t₁ t₂ t₃
  have h₃ : Keeps R s t₃ := (h.replaceLines.forAll fun _ _ k => k.addPoison).bump.cause.err
  clear_value t₃
  revert t₃
  refine id fun t₃ h₃ => ?_
  extract_lets _ t₄ _ t₅
  have h₅ : Keeps R s t₅ := h₃.setQuire.upd.fixBudget
  clear_value t₅
  revert t₅
  refine id fun t₅ h₅ => ?_
  split
  · exact .ite h₅.setPull h₅.setPush
  · exact h₅

theorem Keeps.liftQuireNow {q fails : Nat} (h : Keeps R s t) : Keeps R s (t.liftQuireNow q fails) := by
  unfold State.liftQuireNow
  extract_lets _ t₁ t₂
  have h₁ : Keeps R s t₁ := h.quireRows.chargeEng.forgetLines
  have h₂ : Keeps R s t₂ := by
    unfold t₂
    split
    · exact h₁.liftPoisoned
    · exact .setQuire (h₁.replaceLines.forAll fun _ _ k => k.addPoison)
  exact .finishQuire (.ite h₂.cause h₂)

theorem Keeps.serveDemands {k q n : Nat} (h : Keeps R s t) : Keeps R s (t.serveDemands k q n) := by
  induction n generalizing t with
  | zero => exact h
  | succ n ih =>
    unfold State.serveDemands
    extract_lets t₁ t₂
    have h₁ : Keeps R s t₁ := by
      unfold t₁
      split
      · exact h
      · exact .ite h.clearQuireNow h.liftQuireNow
    have h₂ : Keeps R s t₂ := .ite h₁.demand h₁
    exact .ite h (ih h₂)

theorem Keeps.ensureQuire {q : Nat} (h : Keeps R s t) : Keeps R s (t.ensureQuire q) := by
  unfold State.ensureQuire
  split
  · exact h.demand.serveDemands
  · exact h

/-! ### Machine/Access -/

theorem Keeps.busy {p : Nat} (h : Keeps R s t) : Keeps R s (t.busy p) := h.setPort

theorem Keeps.dropOld {port : Nat} (h : Keeps R s t) : Keeps R s (t.dropOld port) := by
  unfold State.dropOld
  exact h.bump.err

theorem Keeps.answerRead {r : Req} {d : Option LineData} (h : Keeps R s t) : Keeps R s (t.answerRead r d) := by
  unfold State.answerRead
  split
  · exact h.busy.emit
  · exact h.dropOld
  · exact h

theorem Keeps.answerWrite {r : Req} {good : Bool} (h : Keeps R s t) : Keeps R s (t.answerWrite r good) := by
  unfold State.answerWrite
  split
  · exact h.busy.emit.gpfWritten
  · exact h.dropOld.gpfWritten
  · exact h

theorem Keeps.tellLd {e : Err} {m : Nat × Nat} (h : Keeps R s t) : Keeps R s (t.tellLd e m) :=
  .ite h h.enterLog.aerDue

theorem Keeps.endRefused {r : Req} (h : Keeps R s t) : Keeps R s (t.endRefused r) :=
  .ite h.answerRead h.answerWrite

theorem Keeps.refuse {page code : Nat} {r : Req} (h : Keeps R s t) : Keeps R s (t.refuse page code r) := by
  unfold State.refuse
  extract_lets _ t₁ t₂
  have h₁ : Keeps R s t₁ := h.log
  have h₂ : Keeps R s t₂ := by
    unfold t₂
    split
    · exact h₁.tellLd
    · exact h₁.tellLd
    · exact h₁
  exact h₂.endRefused

theorem Keeps.quietReport {port ld : Nat} {r : Req} (h : Keeps R s t) : Keeps R s (t.quietReport port ld r) :=
  h.enterLog.aerDue

theorem Keeps.refuseQuiet {r : Req} (h : Keeps R s t) : Keeps R s (t.refuseQuiet r) := by
  unfold State.refuseQuiet
  split
  · exact h.quietReport.endRefused
  · exact h.quietReport.endRefused
  · exact h.endRefused

theorem Keeps.refuseKey {r : Req} {code : Nat} (h : Keeps R s t) : Keeps R s (t.refuseKey r code) := by
  unfold State.refuseKey
  extract_lets t₁ t₂
  have h₁ : Keeps R s t₁ := h.bump.cause
  have h₂ : Keeps R s t₂ := by
    unfold t₂
    split
    · exact .ite h₁.bump h₁
    · exact h₁
  exact h₂.refuse

theorem Keeps.poisonEvent {r : Req} (h : Keeps R s t) : Keeps R s (t.poisonEvent r) := h.report

theorem Keeps.setCached {addr : Nat} {t' : Option TagLine} (h : Keeps R s t) : Keeps R s (t.setCached addr t') :=
  h.upd

theorem Keeps.writeBackTag {addr : Nat} {t' : TagLine} (h : Keeps R s t) : Keeps R s (t.writeBackTag addr t') :=
  .ite h.dropWb.setLine.setCached.charge h

theorem Keeps.flushTags (h : Keeps R s t) : Keeps R s t.flushTags := h.forAll fun _ _ k => k.writeBackTag

theorem Keeps.cacheTag {addr : Nat} {t' : TagLine} (h : Keeps R s t) : Keeps R s (t.cacheTag addr t') := by
  unfold State.cacheTag
  extract_lets _ _ t₁ t₂
  have h₁ : Keeps R s t₁ := by
    unfold t₁
    split
    · exact h.writeBackTag
    · exact h
  have h₂ : Keeps R s t₂ := .ite h₁.setCached.drawn h
  exact h₂.setCached

theorem Keeps.tagLost {addr dpa master : Nat} (h : Keeps R s t) : Keeps R s (t.tagLost addr dpa master) := by
  unfold State.tagLost
  extract_lets t₁ t₂ t₃
  have h₁ : Keeps R s t₁ := by
    unfold t₁
    refine .forAll h (fun _ _ k => .ite k (.ite
      (.ite (.startRecovery (.poisonLine (.ite k.observe k))) (.poisonLine (.ite k.observe k)))
      (.report (.ite (.startRecovery (.poisonLine (.ite k.observe k))) (.poisonLine (.ite k.observe k))))))
  have h₂ : Keeps R s t₂ := h₁.setLine.setCached
  have h₃ : Keeps R s t₃ := h₂.markDirty.markDirty
  exact h₃.cause.log

theorem Keeps.fetchTag {r : Req} {f : LineFaults} (h : Keeps R s t) : Keeps R s (t.fetchTag r f).2 := by
  unfold State.fetchTag
  extract_lets _ _ t₁ _ t₂
  have h₁ : Keeps R s t₁ := h.bump.charge.engineRow
  have h₂ : Keeps R s t₂ := h₁.observe
  split
  · exact .snd h.bump
  · exact .snd h.tagLost
  · split
    · exact .snd h₂.tagLost
    · exact .snd h₂.cacheTag

theorem Keeps.writeTag {r : Req} {sel : Nat × KeySlot} {cipher : LineData} {fa : LineFaults} (h : Keeps R s t) :
    Keeps R s (t.writeTag r sel cipher fa) :=
  .ite h h.takeInjection.fetchTag.cacheTag

theorem Keeps.tagFailed (h : Keeps R s t) : Keeps R s t.tagFailed := h.bump.cause

theorem Keeps.openLine {r : Req} {v : Verdict} {fa : LineFaults} (h : Keeps R s t) :
    Keeps R s (t.openLine r v fa).2 := by
  unfold State.openLine
  extract_lets
  split
  · exact .snd h.errReq
  · split
    · exact .snd h
    · split
      · split
        · exact .snd h.fetchTag
        · exact .snd h.fetchTag
      · split
        · exact .snd h.fetchTag
        · exact .snd h.fetchTag.tagFailed.errReq

theorem Keeps.upset {loc : Nat} {f : LineFaults} (h : Keeps R s t) : Keeps R s (t.upset loc f).2 := by
  unfold State.upset
  exact .snd h.takeInjection.takeInjection

theorem Keeps.readLine {r : Req} {f : LineFaults} (h : Keeps R s t) : Keeps R s (t.readLine r f).2 := by
  unfold State.readLine
  extract_lets _ _ t₁ _ t₂
  have h₁ : Keeps R s t₁ := h.upset
  have h₂ : Keeps R s t₂ := h₁.observe
  split
  · exact .snd h₁
  · split
    · exact .snd h₁.checkerFault
    · split
      · exact .snd h₂
      · split
        · exact .snd h₂.startRecovery
        · exact .snd h₂.poisonEvent
      · split
        · exact .snd h₂.startRecovery
        · exact .snd h₂
      · exact h₂.openLine

theorem Keeps.joinRecovery {r : Req} (h : Keeps R s t) : Keeps R s (t.joinRecovery r) := h.upd

theorem Keeps.finishRead {r : Req} {f : LineFaults} (h : Keeps R s t) : Keeps R s (t.finishRead r f) := by
  unfold State.finishRead
  extract_lets
  split
  · exact h.readLine.answerRead
  · exact h.readLine.answerRead
  · exact h.readLine.joinRecovery

theorem Keeps.storeLine {r : Req} {d : LineData} {f : LineFaults} (h : Keeps R s t) : Keeps R s (t.storeLine r d f) :=
  .ite h.takeInjection.encodeOut.poisonLine.errReq
    (.ite h.takeInjection.encodeOut.poisonLine h.takeInjection.encodeOut.dropWb.setLine.dropPoison.writeTag)

theorem Keeps.discardWrite {r : Req} {d : LineData} {page code : Nat} (h : Keeps R s t) :
    Keeps R s (t.discardWrite r d page code) :=
  h.poisonLine.errReq

theorem Keeps.mergeWrite {r : Req} {f : LineFaults} {last tag : Bool} (h : Keeps R s t) :
    Keeps R s (t.mergeWrite r f last tag) := by
  unfold State.mergeWrite
  extract_lets _ _ _ _ t₁ _ t₂ _ _ _ t₃
  have h₁ : Keeps R s t₁ := h.upset
  have h₂ : Keeps R s t₂ := h₁.observe
  have h₃ : Keeps R s t₃ := .ite h₂.fetchTag.bump.errReq h₂.fetchTag
  split
  · exact h₁.checkerFault.discardWrite
  · split
    · exact h₂.storeLine
    · exact .ite h₂.startRecovery.joinRecovery h₂.discardWrite
    · exact .ite h₂.startRecovery.joinRecovery h₂.discardWrite
    · split
      · exact h₂.errReq.discardWrite
      · split
        · exact h₂.storeLine
        · split
          · exact .ite h₂.fetchTag.joinRecovery h₂.fetchTag.discardWrite
          · exact .ite h₃.storeLine (.ite h₂.fetchTag.tagFailed.startRecovery.joinRecovery
              h₂.fetchTag.tagFailed.discardWrite)

theorem Keeps.finishWrite {r : Req} {f : LineFaults} (h : Keeps R s t) : Keeps R s (t.finishWrite r f) :=
  .ite h.poisonLine (.ite h.mergeWrite h.storeLine)

theorem Keeps.perform {r : Req} (h : Keeps R s t) : Keeps R s (t.perform r) := .ite h.finishRead h.finishWrite

theorem Keeps.mirrorWrite {r : Req} (h : Keeps R s t) : Keeps R s (t.mirrorWrite r) := by
  unfold State.mirrorWrite
  extract_lets _ _ t₁ t₂
  have h₁ : Keeps R s t₁ := h.upd
  have h₂ : Keeps R s t₂ := .ite h₁.sendDove h₁
  split
  · exact h
  · exact .ite h (.ite h₂.charge.longest h.setPush)

theorem Keeps.completeWrite {r : Req} (h : Keeps R s t) : Keeps R s (t.completeWrite r) :=
  .answerWrite (.mirrorWrite (.charge (h.forAll fun _ _ k => k.markDirty)))

theorem Keeps.fixDrain {pc : Nat} (h : Keeps R s t) : Keeps R s (t.fixDrain pc) := .ite h.put (.ite h.clr h)
theorem Keeps.enqueue {pc : Nat} {r : Req} (h : Keeps R s t) : Keeps R s (t.enqueue pc r) := h.setPc.fixDrain

theorem Keeps.forward {w r : Req} (h : Keeps R s t) : Keeps R s (t.forward w r) := by
  unfold State.forward
  extract_lets _ t₁
  have h₁ : Keeps R s t₁ := h.charge
  split
  · exact h₁.answerRead
  · exact h₁.answerRead

theorem Keeps.enter {pc : Nat} {r : Req} (h : Keeps R s t) : Keeps R s (t.enter pc r) := by
  unfold State.enter
  extract_lets t₁
  have h₁ : Keeps R s t₁ := h.completeWrite
  split
  · exact .ite h.forward (.ite h₁.setPc h₁.setPc.perform)
  · exact .ite h.enqueue h₁.enqueue

theorem Keeps.waitQueue {r : Req} (h : Keeps R s t) : Keeps R s (t.waitQueue r) := h.cause.upd

theorem Keeps.intake {pc : Nat} {r : Req} (h : Keeps R s t) : Keeps R s (t.intake pc r) :=
  .ite h.hold (.ite h.waitQueue (.ite h.enter h.setPc))

theorem Keeps.snoop {p loc : Nat} {inval : Bool} (h : Keeps R s t) : Keeps R s (t.snoop p loc inval) :=
  .ite h (.ite h h.setPort.bump.emit)

theorem Keeps.stall {w : Wait} {r : Req} (h : Keeps R s t) : Keeps R s (t.stall w r) := by
  unfold State.stall
  extract_lets t₁
  have h₁ : Keeps R s t₁ := by
    unfold t₁
    split
    · exact h.demand
    · exact h.snoop
    · exact h
  exact h₁.upd

theorem Keeps.trackRead {pc : Nat} {r : Req} (h : Keeps R s t) : Keeps R s (t.trackRead pc r) := by
  unfold State.trackRead
  split
  · split
    · exact h.intake
    · split
      · exact h.drawn.stall
      · exact h.setPort.intake
  · exact h.intake

theorem Keeps.serve {r : Req} (h : Keeps R s t) : Keeps R s (t.serve r) := by
  unfold State.serve
  split
  · exact h.stall
  · exact .ite h.joinRecovery h.rouse.trackRead

theorem Keeps.arrive {r : Req} (h : Keeps R s t) : Keeps R s (t.arrive r) := by
  unfold State.arrive
  split
  · exact h.refuseKey
  · exact .ite h.bump.refuse h.serve

theorem Keeps.stallEnds {w : Wait} {r : Req} (h : Keeps R s t) : Keeps R s (t.stallEnds w r) := by
  unfold State.stallEnds
  split
  · exact h.longest
  · exact h.longest
  · exact h

theorem Keeps.releaseStalled (h : Keeps R s t) : Keeps R s t.releaseStalled := by
  unfold State.releaseStalled
  extract_lets _ t₁ t₂
  have h₁ : Keeps R s t₁ := h.upd
  have h₂ : Keeps R s t₂ := h₁.forAll fun _ _ k => k.stallEnds.serve
  refine .forAll h₂ (fun u _ k => ?_)
  split
  · exact k.snoop
  · exact k

theorem Keeps.releaseHeld (h : Keeps R s t) : Keeps R s t.releaseHeld :=
  .endHolding (h.upd.forAll fun _ _ k => .ite k.upd k.intake)

theorem Keeps.settle {pick : Nat → Bool} (h : Keeps R s t) : Keeps R s (t.settle pick) :=
  h.forAll fun _ _ k => .ite k (.fixDrain (.forAll (k.setPc.forAll fun _ _ l => l.perform) fun _ _ l => .ite l.perform
    (.ite l.hold l.completeWrite.perform)))

theorem Keeps.reposition {src dst lo hi : Nat} (h : Keeps R s t) : Keeps R s (t.reposition src dst lo hi) :=
  h.upd

theorem Keeps.settleLine {loc : Nat} (h : Keeps R s t) : Keeps R s (t.settleLine loc) := h.settle

theorem Keeps.callBack {loc : Nat} {write : Bool} (h : Keeps R s t) : Keeps R s (t.callBack loc write) := by
  unfold State.callBack
  split
  · exact h.setPort.bump.emit
  · exact h

theorem Keeps.recall {l : List (Nat × Nat × Bool)} (h : Keeps R s t) : Keeps R s (t.recall l) :=
  h.forAll fun _ _ k => k.snoop

theorem Keeps.coherent {u : State} (h : Keeps R s t) (hu : Keeps R s u) : Keeps R s (t.coherent u) :=
  .ite hu h.recall

theorem Keeps.ensure {q : Nat} (h : Keeps R s t) : Keeps R s (t.ensure q) := .ite h.ensureQuire.releaseStalled h

theorem Keeps.engineData {r : Req} (h : Keeps R s t) : Keeps R s (t.engineData r).2 := by
  unfold State.engineData
  exact h.ensure.settleLine.engineRow.charge.readLine

theorem Keeps.engineWrite {r : Req} (h : Keeps R s t) : Keeps R s (t.engineWrite r) :=
  .perform (.charge (h.ensure.settleLine.engineRow.callBack.forAll fun _ _ k => k.markDirty))

/-! ### Machine/FolioProg -/

theorem Keeps.readQuire {q : Nat} (h : Keeps R s t) : Keeps R s (t.readQuire q).2 := by
  unfold State.readQuire
  extract_lets lo t₁ o
  have h₁ : Keeps R s t₁ := h.settle.quireRows
  clear_value lo t₁
  have h₂ : Keeps R s o.2 := .foldl (π := fun a : Sparse StoredLine × State => a.2) h₁ fun _ _ k => k.engineRead
  exact .snd h₂

theorem Keeps.slotContents {c : Commit} {q : Nat} (h : Keeps R s t) : Keeps R s (t.slotContents c q).2 := by
  unfold State.slotContents
  split
  · exact .snd h
  · split
    · exact .snd h
    · exact .snd h.readQuire

theorem Keeps.programQuire {c : Commit} {q : Nat} {r : State × Commit} (h : Keeps R s t)
    (hr : t.programQuire c q = some r) : Keeps R s r.1 := by
  obtain ⟨o, ho, rfl⟩ := Option.map_eq_some_iff.1 hr
  exact .fst (h.nextSlot ho).slotContents.setSlot.chargeEng

theorem Keeps.pump {c : Commit} {n : Nat} (h : Keeps R s t) : Keeps R s (t.pump c n).1 := by
  induction n generalizing t c with
  | zero => exact h
  | succ n ih =>
    unfold State.pump
    split
    · exact h
    · split
      · exact ih h
      · split
        · rename_i hr
          exact ih (h.programQuire hr)
        · split
          · exact h
          · exact ih h

theorem Keeps.readBack {q n : Nat} (h : Keeps R s t) : Keeps R s (t.readBack q n) := by
  unfold State.readBack
  extract_lets
  split
  · exact h.setSlot.setQuire
  · split
    · exact h.setQuire.fixBudget
    · exact h.setQuire.fixBudget
    · exact h.setSlot

theorem Keeps.reprogram {c : Commit} {q n : Nat} (h : Keeps R s t) : Keeps R s (t.reprogram c q n).1 := by
  unfold State.reprogram
  extract_lets _ _ _ _ t₁
  have h₁ : Keeps R s t₁ := h.setSlot.setOpen
  split
  · rename_i ho
    exact .fst (h₁.nextSlot ho).setSlot.chargeEng
  · exact .fst h₁

theorem Keeps.putColophon {i : Image} {p0 p1 : Bool} (h : Keeps R s t) : Keeps R s (t.putColophon i p0 p1) :=
  h.upd.wr64.wrb

theorem Keeps.lastCommit {i : Image} {us : Nat} (h : Keeps R s t) : Keeps R s (t.lastCommit i us) := h.wr.wr.wr

theorem Keeps.commit {c : Commit} {p0 p1 : Bool} (h : Keeps R s t) : Keeps R s (t.commit c p0 p1) :=
  .fixBudget (.lastCommit (.putColophon (.upd (.ite h.upd.appendSys.upd h.upd))))

theorem Keeps.commitVoid (h : Keeps R s t) : Keeps R s t.commitVoid := h.takeBsn.putColophon.lastCommit.drawn

theorem Keeps.startCheckpoint {limited urgent : Bool} (h : Keeps R s t) :
    Keeps R s (t.startCheckpoint limited urgent) :=
  .ite h h.takeBsn.pump.upd

/-! ### Machine/SplineOps -/

theorem Keeps.setXingState {x v : Nat} (h : Keeps R s t) : Keeps R s (t.setXingState x v) := h.wr

/-! ### Machine/Requests -/

theorem Keeps.portRefuse {port ld code : Nat} {r : Req} (h : Keeps R s t) : Keeps R s (t.portRefuse port ld code r) :=
  h.bump.bump.cause.refuse

theorem Keeps.hostAccess {port ld : Nat} {req : HostReq} {r : Req} {cache : Nat} (h : Keeps R s t) :
    Keeps R s (t.hostAccess port ld req r cache) := by
  unfold State.hostAccess
  extract_lets t₁ t₂
  have h₁ : Keeps R s t₁ := h.upd
  have h₂ : Keeps R s t₂ := h₁.busy
  split
  · exact h
  · split
    · exact h.bump.refuseQuiet
    · split
      · exact h₁.portRefuse
      · split
        · exact h₂.portRefuse
        · extract_lets
          split
          · exact h₂.portRefuse
          · exact .ite h₂.refuseQuiet h₂.upd

theorem Keeps.execHostRead {port : PortNo} {ld : LdNo} {req : HostReq} {cache : Fin 3} (h : Keeps R s t) :
    Answers R s (execHostRead port ld req cache t) :=
  .next h.hostAccess

theorem Keeps.execHostWrite {port : PortNo} {ld : LdNo} {req : HostReq} {data : LineData} {mask : BitVec 64}
    {poison : Bool} (h : Keeps R s t) : Answers R s (execHostWrite port ld req data mask poison t) :=
  .next h.hostAccess

theorem Keeps.execPcRequestArrival {pc : PcNo} {master : Fin 26} (h : Keeps R s t) :
    Answers R s (execPcRequestArrival pc master t) := by
  unfold Machine.execPcRequestArrival
  extract_lets t₁
  have h₁ : Keeps R s t₁ := h.abortEntry
  split
  · exact .next h
  · exact .ite (.next h) (.ite (.next h.upd.arrive) (.ite (.next h₁.upd.arrive) (.next h.wakeDomain)))

theorem Keeps.execWriteHoldRelease (h : Keeps R s t) : Answers R s (execWriteHoldRelease t) :=
  .next h.releaseHeld

theorem Keeps.execInputAdmit {pc : PcNo} (h : Keeps R s t) : Answers R s (execInputAdmit pc t) := by
  unfold Machine.execInputAdmit
  split
  · exact .next h
  · exact .ite (.next h.setPc.hold) (.ite (.next h.setPc.waitQueue) (.next h.setPc.enter))

theorem Keeps.execActivateIssue {pc : PcNo} (h : Keeps R s t) : Answers R s (execActivateIssue pc t) := by
  unfold Machine.execActivateIssue
  split
  · exact .next h
  · split
    · exact .next h.advanceTo.activateRow
    · exact .next h

theorem Keeps.execColumnCommandIssue {pc : PcNo} (h : Keeps R s t) : Answers R s (execColumnCommandIssue pc t) := by
  unfold Machine.execColumnCommandIssue
  split
  · exact .next h
  · split
    · extract_lets _ t₁ _ _ _ _ _ _ t₂ _ t₃ t₄
      have h₁ : Keeps R s t₁ := h.advanceTo
      have h₂ : Keeps R s t₂ := h₁.setPc
      have h₃ : Keeps R s t₃ := h₂.longest.heatCount
      have h₄ : Keeps R s t₄ := .ite h₃.charge h₃
      exact .ite (.next h₄.errReq) (.next h₄)
    · exact .next h

theorem Keeps.execReadBurstComplete {pc : PcNo} {errs : List SymErr} {tag : TagFaults} {decAgree cryptoAgree : Bool}
    (h : Keeps R s t) : Answers R s (execReadBurstComplete pc errs tag decAgree cryptoAgree t) := by
  unfold Machine.execReadBurstComplete
  split
  · exact .next h
  · exact .next h.setPc.finishRead

theorem Keeps.execWriteBurstIssue {pc : PcNo} {errs : List SymErr} {tag : TagFaults} {agree : ReadAgree}
    {encFails cryptoFails : Fin 3} (h : Keeps R s t) :
    Answers R s (execWriteBurstIssue pc errs tag agree encFails cryptoFails t) := by
  unfold Machine.execWriteBurstIssue
  split
  · exact .next h
  · exact .ite (.next h) (.next h.setPc.finishWrite.fixDrain)

theorem Keeps.execAgePromotion {pc : PcNo} (h : Keeps R s t) : Answers R s (execAgePromotion pc t) := by
  unfold Machine.execAgePromotion
  extract_lets
  split
  · exact .next h
  · exact .next h.advanceTo.setPc.bump

/-! ### Machine/Refresh -/

theorem Keeps.setWindow {layer w : Nat} (h : Keeps R s t) : Keeps R s (t.setWindow layer w) :=
  .ite h (.fixGauge (h.forAll fun _ _ k => k.wr.cause))

theorem Keeps.shortenWindow {layer : Nat} (h : Keeps R s t) : Keeps R s (t.shortenWindow layer) := h.setWindow

theorem Keeps.execWindowLengthen {layer : LayerNo} (h : Keeps R s t) : Answers R s (execWindowLengthen layer t) := by
  unfold Machine.execWindowLengthen
  extract_lets _ due
  cases due with
  | none => exact .next h
  | some due => exact .ite (.next h.advanceTo) (.next h.advanceTo.setWindow)

theorem Keeps.execRefreshDue {pc : PcNo} {bank : BankNo} (h : Keeps R s t) : Answers R s (execRefreshDue pc bank t) :=
  .ite (.next h) (.ite (.next h.advanceTo.setPc.err) (.next h.advanceTo.setPc))

theorem Keeps.holdBank {pc bank : Nat} {b : DramBank} (h : Keeps R s t) : Keeps R s (t.holdBank pc bank b) := by
  unfold State.holdBank
  split
  · exact h.setPc.sampleAt
  · exact h.setPc

theorem Keeps.excuseBank {pc bank ps : Nat} (h : Keeps R s t) : Keeps R s (t.excuseBank pc bank ps) := h.setPc

theorem Keeps.execForcedRefreshIssue {pc : PcNo} {bank : BankNo} (h : Keeps R s t) :
    Answers R s (execForcedRefreshIssue pc bank t) :=
  .ite (.next h) (.next (.cause (.refreshed (.bump (.ite h.advanceTo.holdBank.excuseBank h.advanceTo.holdBank)))))

theorem Keeps.execRefreshIssue {pc : PcNo} {bank : BankNo} (h : Keeps R s t) :
    Answers R s (execRefreshIssue pc bank t) :=
  .ite (.next h) (.ite (.next h) (.next h.setPc.refreshed))

theorem Keeps.execTargetedRefreshIssue {pc : PcNo} {bank : BankNo} (h : Keeps R s t) :
    Answers R s (execTargetedRefreshIssue pc bank t) := by
  unfold Machine.execTargetedRefreshIssue
  extract_lets _ t₁
  have h₁ : Keeps R s t₁ := h.advanceTo
  split
  · exact .next h
  · exact .ite (.next h) (.next h₁.setPc.wr.wr.put.bump.refreshed.cause)

theorem Keeps.setRefCtl {pc limit force : Nat} (h : Keeps R s t) : Keeps R s (t.setRefCtl pc limit force) :=
  .shortenWindow (.setWindow (h.wr.wr.forAll fun _ _ k => .ite k.setPc k))

theorem Keeps.execPostponeMaxWrite {who : Accessor} {pc : PcNo} {val : Word} (h : Keeps R s t) :
    Answers R s (execPostponeMaxWrite who pc val t) :=
  .next (h.command fun _ k => k.setRefCtl)

theorem Keeps.beginSr {pc : Nat} (h : Keeps R s t) : Keeps R s (t.beginSr pc) := .ite h h.startEntry

theorem Keeps.execSrIdleExpiry {pc : PcNo} (h : Keeps R s t) : Answers R s (execSrIdleExpiry pc t) :=
  .ite (.next h) (.next h.advanceTo.beginSr)

theorem Keeps.execSrNow {who : Accessor} {pc : PcNo} (h : Keeps R s t) : Answers R s (execSrNow who pc t) :=
  .next (h.command fun _ k => k.beginSr)

theorem Keeps.execSreIssue {pc : PcNo} (h : Keeps R s t) : Answers R s (execSreIssue pc t) :=
  .ite (.next h) (.next h.issueSre)

theorem Keeps.forceSr {pc : Nat} (h : Keeps R s t) : Keeps R s (t.forceSr pc) :=
  .ite (.issueSre (.ite h h.startEntry)) h

theorem Keeps.execSrxIssue {pc : PcNo} (h : Keeps R s t) : Answers R s (execSrxIssue pc t) :=
  .ite (.next h) (.next h.exitSr)

/-! ### Machine/ChiselOps -/

theorem Keeps.laneRead {ring key mark loc : Nat} (h : Keeps R s t) : Keeps R s (t.laneRead ring key mark loc).2 := by
  unfold State.laneRead
  extract_lets
  split
  · exact .snd h.refuseKey
  · split
    · exact .snd h.engineData
    · exact .snd h.engineData

theorem Keeps.laneWrite {ring key mark loc : Nat} {d : LineData} (h : Keeps R s t) :
    Keeps R s (t.laneWrite ring key mark loc d) := by
  unfold State.laneWrite
  extract_lets
  split
  · exact h.refuseKey
  · exact h.engineWrite

theorem Keeps.readStream {j : Job} {base n : Nat} (h : Keeps R s t) : Keeps R s (t.readStream j base n).2 := by
  induction n with
  | zero => exact h
  | succ n ih =>
    unfold State.readStream
    extract_lets
    split
    · exact ih
    · exact ih.laneRead

theorem Keeps.gather {j : Job} {aux : List LaneRead} {k n : Nat} {o : JobOut} (h : Keeps R s t) :
    Keeps R s (t.gather j aux k n o).2 := by
  induction n generalizing t k o with
  | zero => exact h
  | succ n ih =>
    unfold State.gather
    extract_lets
    split
    · split
      · exact ih h
      · exact h
    · split
      · exact ih h
      · extract_lets
        split
        · exact ih h.laneRead
        · split
          · exact ih h.laneRead
          · exact h.laneRead
        · exact h.laneRead

theorem Keeps.runJob {j : Job} (h : Keeps R s t) : Keeps R s (t.runJob j).2 := by
  generalize hr : t.runJob j = r
  unfold State.runJob at hr
  split at hr
  · exact hr ▸ .snd h
  · extract_lets src mask aux n total t₁ at hr
    have h₀ : Keeps R s src.2 := by
      clear hr
      exact .iteSnd h h.readStream
    clear_value src
    have h₁ : Keeps R s t₁ := h₀.readStream.readStream.wr64
    clear_value t₁
    exact hr ▸ .iteSnd h₁ (.iteSnd h₁ (.iteSnd (.snd h₁.gather) h₁))

theorem Keeps.writeResult {j : Job} {o : JobOut} (h : Keeps R s t) : Keeps R s (t.writeResult j o).2.2 := by
  unfold State.writeResult
  refine .foldl (π := fun a : Nat × Nat × State => a.2.2) h fun _ _ k => ?_
  extract_lets
  split
  · exact k
  · split
    · exact .thd k.refuseKey
    · exact .thd k.laneWrite

theorem Keeps.writeRecord {j : Job} {o : JobOut} {bytes : Nat} {irq : Bool} (h : Keeps R s t) :
    Keeps R s (t.writeRecord j o bytes irq) :=
  .ite h.laneWrite.count (.ite (.upd (.ite h.laneWrite.count.bump.bump h.laneWrite.count.bump.bump.cause))
    (.ite h.laneWrite.count.bump.bump h.laneWrite.count.bump.bump.cause))

theorem Keeps.chiselErr {code addr ring : Nat} (h : Keeps R s t) : Keeps R s (t.chiselErr code addr ring) :=
  h.log

theorem Keeps.undefineResult {j : Job} (h : Keeps R s t) : Keeps R s (t.undefineResult j) :=
  .ite h (h.drawn.forAll fun _ _ k => k.laneWrite)

theorem Keeps.dropJob {j : Job} (h : Keeps R s t) : Keeps R s (t.dropJob j) := h.upd
theorem Keeps.discardLate (h : Keeps R s t) : Keeps R s t.discardLate := .ite h.drawn h.drawn.count.cause

theorem Keeps.dropMsix {ring addr n : Nat} (h : Keeps R s t) : Keeps R s (t.dropMsix ring addr n) :=
  .ite h h.count.cause.chiselErr

theorem Keeps.pauseLane (h : Keeps R s t) : Keeps R s t.pauseLane := h.holdEngine.upd

theorem Keeps.resumeLane (h : Keeps R s t) : Keeps R s t.resumeLane := by
  unfold State.resumeLane
  split
  · exact h
  · exact h.upd.wr

theorem Keeps.cutJob {j : Job} {portReset : Bool} (h : Keeps R s t) : Keeps R s (t.cutJob j portReset) :=
  .dropMsix (.ite (.discardLate (.writeRecord (.dropJob (.ite h.undefineResult h))))
    (.writeRecord (.dropJob (.ite h.undefineResult h))))

theorem Keeps.abortJob {j : Job} {portReset : Bool} (h : Keeps R s t) : Keeps R s (t.abortJob j portReset) :=
  .ite h (.ite h.upd.pauseLane h.cutJob)

theorem Keeps.abortRing {r : Nat} {portReset : Bool} (h : Keeps R s t) : Keeps R s (t.abortRing r portReset) :=
  h.forAll fun _ _ k => k.abortJob

theorem Keeps.resetRing {r : Nat} (h : Keeps R s t) : Keeps R s (t.resetRing r) :=
  h.wr.wr.clr.wr.wr.wr.wr.wr.clr.clr.wr

/-! ### Machine/Chisel -/

theorem Keeps.ringCommand {who : Accessor} {r off : Nat} {act : State → State} (h : Keeps R s t)
    (hact : ∀ u, Keeps R s u → Keeps R s (act u)) : Keeps R s (t.ringCommand who r off act) :=
  .ite h (.ite (.ite (hact _ h) h) (h.command fun _ k => hact _ k))

theorem Keeps.execChiselRingTail {who : Accessor} {ring : RingNo} {val : Word} (h : Keeps R s t) :
    Answers R s (execChiselRingTail who ring val t) :=
  .next (h.ringCommand fun _ k => k.wr)

theorem Keeps.stallRing {r code addr : Nat} (h : Keeps R s t) : Keeps R s (t.stallRing r code addr) :=
  h.put.cause.chiselErr

theorem Keeps.fetchDescriptor {ring : Nat} (h : Keeps R s t) : Keeps R s (t.fetchDescriptor ring) := by
  -- The kernel would run the body to compare it with its match: so the states on the way are named only, by `id`.
  generalize hF : @State.fetchDescriptor = F
  delta State.fetchDescriptor at hF
  subst hF
  beta_reduce
  extract_lets +onlyGivenNames t₁ head dpa key a b t₂
  have hb : Keeps R s b.2 := h.laneRead.laneRead
  have h₂ : Keeps R s t₂ := hb.wr
  clear_value t₂ b a
  revert a b t₂
  refine id fun a b hb t₂ h₂ => ?_
  split
  · extract_lets +onlyGivenNames j
    split
    · exact h₂.stallRing
    · split
      · exact .ite h.holdEngine h₂.writeRecord.chiselErr
      · exact .ite (.ite h.holdEngine h₂.writeRecord) h₂.upd
  · exact h₂.stallRing

theorem Keeps.execDescriptorFetch {ring : RingNo} (h : Keeps R s t) : Answers R s (execDescriptorFetch ring t) :=
  .ite (.next (h.coherent h.fetchDescriptor.upd)) (.next h)

theorem Keeps.execJobStart {ring : RingNo} (h : Keeps R s t) : Answers R s (execJobStart ring t) := by
  unfold Machine.execJobStart
  extract_lets
  split
  · exact .next h
  · extract_lets _ _ _ code _ t₁
    have h₁ : Keeps R s t₁ := h.upd
    split
    · exact .next h
    · cases code with
      | some c => exact .next h₁.refuseKey
      | none => exact .next h₁

theorem Keeps.finishJob {j : Job} {agree : Bool} {lane : Nat} (h : Keeps R s t) :
    Keeps R s (t.finishJob j agree lane) :=
  .ite h.undefineResult.dropJob.writeRecord.cause.chiselErr
    (.ite h.runJob.writeResult.dropJob.writeRecord.chiselErr h.runJob.writeResult.dropJob.writeRecord)

theorem Keeps.execJobComplete {ring : RingNo} {agree : Bool} {lane : PcNo} (h : Keeps R s t) :
    Answers R s (execJobComplete ring agree lane t) := by
  unfold Machine.execJobComplete
  split
  · exact .next h
  · split
    · exact .next h.pauseLane
    · split
      · exact .next (h.coherent h.resumeLane.cutJob)
      · exact .next (h.coherent h.resumeLane.finishJob)

theorem Keeps.execMsixSend (h : Keeps R s t) : Answers R s (execMsixSend t) := by
  unfold Machine.execMsixSend
  split
  · exact .next h
  · exact .next h.upd.send

theorem Keeps.execChiselRingAbort {who : Accessor} {ring : RingNo} {val : Word} {completionFirst : Grant}
    (h : Keeps R s t) : Answers R s (execChiselRingAbort who ring val completionFirst t) :=
  .next (h.ringCommand fun _ k => .ite k (.ite k.put (k.forAll fun _ _ l => .ite l.finishJob l.abortJob)))

theorem Keeps.execChiselRingEnable {who : Accessor} {ring : RingNo} {val : Word} (h : Keeps R s t) :
    Answers R s (execChiselRingEnable who ring val t) :=
  .next (h.ringCommand fun _ k => .ite (.put (.wr (.ite k k.wr.wr)))
    (.clr (.wr (.clr (.abortRing (.wr (.ite k k.wr.wr)))))))

/-! ### Machine/Safe -/

theorem Keeps.stopCheckpoint (h : Keeps R s t) : Keeps R s t.stopCheckpoint := by
  unfold State.stopCheckpoint
  split
  · exact h
  · exact .ite h (.upd (h.forAll fun _ _ k => k.setSlot))

theorem Keeps.holdErrN (h : Keeps R s t) : Keeps R s t.holdErrN := .upd (.wr (.put (.ite h h.errPulseStart)))
theorem Keeps.stopTimer {page : Nat} (h : Keeps R s t) : Keeps R s (t.stopTimer page) := h.clr.setPage
theorem Keeps.stopTimers (h : Keeps R s t) : Keeps R s t.stopTimers := h.forAll fun _ _ k => k.stopTimer

theorem Keeps.enterSafe {page code : Nat} (h : Keeps R s t) : Keeps R s (t.enterSafe page code) := by
  unfold State.enterSafe
  extract_lets t₁ t₂ t₃ t₄ t₅ t₆ _ _ t₇
  have h₁ : Keeps R s t₁ := h.put.wr.wr.stopTimers
  have h₂ : Keeps R s t₂ := h₁.wr64
  have h₃ : Keeps R s t₃ := h₂.err.holdErrN.cause
  have h₄ : Keeps R s t₄ := h₃.forAll fun _ _ k => k.abortRing.clr
  have h₅ : Keeps R s t₅ := h₄.stopCheckpoint.clr.flushTags
  have h₆ : Keeps R s t₆ := h₅.put
  have h₇ : Keeps R s t₇ := .ite h₆.upd h₅
  exact .ite h h₇.put.cause

theorem Keeps.errImmediate {page code addr : Nat} (h : Keeps R s t) : Keeps R s (t.errImmediate page code addr) :=
  h.err.enterSafe

theorem Keeps.execSafe {who : Accessor} {key : BitVec 16} (h : Keeps R s t) : Answers R s (execSafe who key t) :=
  .next (h.command fun _ k => .ite k.errImmediate k)

theorem Keeps.releaseErrN (h : Keeps R s t) : Keeps R s t.releaseErrN := h.clr.clr.emit.upd

theorem Keeps.execRelease {who : Accessor} (h : Keeps R s t) : Answers R s (execRelease who t) :=
  .next (h.command fun _ k => .ite k (.ite k.upd k.releaseErrN))

theorem Keeps.execTest {who : Accessor} (h : Keeps R s t) : Answers R s (execTest who t) :=
  .next (h.command fun _ k => k.errEvent)

theorem Keeps.execErrNPulseEnd (h : Keeps R s t) : Answers R s (execErrNPulseEnd t) := by
  unfold Machine.execErrNPulseEnd
  split
  · exact .next h
  · exact .ite (.next h.advanceTo.put.upd) (.next h.advanceTo.releaseErrN)

theorem Keeps.execErrNGapEnd (h : Keeps R s t) : Answers R s (execErrNGapEnd t) := by
  unfold Machine.execErrNGapEnd
  split
  · exact .next h
  · exact .next (.ite h.advanceTo.upd.errPulseStart h.advanceTo.upd)

theorem Keeps.execErrNReadback {high : Bool} (h : Keeps R s t) : Answers R s (execErrNReadback high t) :=
  .ite (.next (.ite h.upd.clr.put.cause.err h.upd.clr)) (.next h.wrb)

theorem Keeps.execErrpinFfValidClear {who : Accessor} (h : Keeps R s t) :
    Answers R s (execErrpinFfValidClear who t) :=
  .next (h.command fun _ k => k.clr)

/-! ### Machine/Scrub -/

theorem Keeps.clearErasure {pc lane : Nat} (h : Keeps R s t) : Keeps R s (t.clearErasure pc lane) :=
  h.wr.wr.wr.setPc.wr

theorem Keeps.execLaneErasureClear {who : Accessor} {pc : PcNo} {val : Word} (h : Keeps R s t) :
    Answers R s (execLaneErasureClear who pc val t) :=
  .next (h.command fun _ k => .ite k.put (.appendRecord (.err (k.forAll fun _ _ l => l.clearErasure))))

theorem Keeps.execCorrectedWriteback {pc : PcNo} (h : Keeps R s t) : Answers R s (execCorrectedWriteback pc t) := by
  unfold Machine.execCorrectedWriteback
  extract_lets
  split
  · exact .next h
  · exact .ite (.next h.setPc) (.next h.setPc.writeLine.chargeEng)

theorem Keeps.endPass {pc : Nat} (h : Keeps R s t) : Keeps R s (t.endPass pc) :=
  .ite h.setPc.bump.wr.cause h.setPc

theorem Keeps.fixScrub {pc : Nat} (h : Keeps R s t) : Keeps R s (t.fixScrub pc) := .ite h h.setPc.wrb.wrb

theorem Keeps.scrubLine {pc loc : Nat} {errs : List (Nat × Nat)} {agree : Bool} (h : Keeps R s t) :
    Keeps R s (t.scrubLine pc loc errs agree) := by
  unfold State.scrubLine
  extract_lets _ t₁ t₂ _ t₃ t₄
  have h₁ : Keeps R s t₁ := h.chargeEng.wr
  have h₂ : Keeps R s t₂ := h₁.engineRead
  have h₃ : Keeps R s t₃ := h₂.setPc.fixScrub
  have h₄ : Keeps R s t₄ := .ite h₃.bump h₃
  exact .ite h₃ (.ite h₃.bump (.ite h₄.bump h₄))

theorem Keeps.scrubStalls {pc : Nat} {u : State} (h : Keeps R s t) (hu : t.scrubStalls pc = some u) : Keeps R s u := by
  simp only [State.scrubStalls] at hu
  split at hu
  · cases hu
  · split at hu
    · cases hu
      exact h.setPc
    · split at hu
      · cases hu
        exact h
      · cases hu

theorem Keeps.scrubGoesOn {pc : Nat} (h : Keeps R s t) : Keeps R s (t.scrubGoesOn pc) := by
  unfold State.scrubGoesOn
  split
  · exact h.longest.setPc
  · exact h

theorem Keeps.execScrubRead {pc : PcNo} {errs : List SymErr} {decAgree : Bool} (h : Keeps R s t) :
    Answers R s (execScrubRead pc errs decAgree t) := by
  unfold Machine.execScrubRead
  extract_lets t₁ _ _ _ t₂ _ t₃
  have h₁ : Keeps R s t₁ := h.scrubGoesOn.put
  have h₂ : Keeps R s t₂ := h₁.setPc
  have h₃ : Keeps R s t₃ := .ite (.ite h₂ h₂.setPc.bump) (.ite h₂ h₂.scrubLine)
  split
  · exact .next h
  · split
    · rename_i hu
      exact .next (h.scrubStalls hu)
    · split
      · exact .next (.ite h₃.endPass h₃)
      · split
        · exact .next h₁.endPass
        · split
          · exact .next h₁
          · split
            · exact .next h₁.setPc.scrubLine
            · exact .next (.ite h₁.setPc.endPass h₁.setPc)

theorem Keeps.execScrubBatchWake {pc : PcNo} (h : Keeps R s t) : Answers R s (execScrubBatchWake pc t) :=
  .ite (.next h) (.next h.advanceTo.wakeForEngine)

theorem Keeps.scrubLateNow {pc level percent : Nat} {flag : Fld} {cause code : Nat} (h : Keeps R s t)
    (hf : isLock flag = false := by rfl) : Keeps R s (t.scrubLateNow pc level percent flag cause code) :=
  .ite h (h.advanceTo.setPc.put hf).cause.err

theorem Keeps.execScrubBehind {pc : PcNo} (h : Keeps R s t) : Answers R s (execScrubBehind pc t) :=
  .next h.scrubLateNow

theorem Keeps.execScrubOverdue {pc : PcNo} (h : Keeps R s t) : Answers R s (execScrubOverdue pc t) :=
  .next h.scrubLateNow

theorem Keeps.slotFails {i : Nat} (h : Keeps R s t) : Keeps R s (t.slotFails i) :=
  .ite h h.setTip.bump.cause.err.appendRecord

theorem Keeps.execScrubSelfCheck {pc : PcNo} {badSlots : List (BankNo × Fin 32)} {spareFail : Bool}
    {wrong : List (Fin 8 × Outcome92)} (h : Keeps R s t) :
    Answers R s (execScrubSelfCheck pc badSlots spareFail wrong t) := by
  unfold Machine.execScrubSelfCheck
  extract_lets _ t₁ t₂
  have h₁ : Keeps R s t₁ := h.forAll fun _ _ k => k.slotFails
  have h₂ : Keeps R s t₂ := .ite h₁.wr.bump.cause.err.appendRecord h₁
  exact .ite (.next h) (.ite (.next h₂.bump.err) (.ite (.next h₂.bump.cause.errImmediate) (.next h₂)))

/-! ### Machine/Repair -/

theorem Keeps.copyRow {pc bank row : Nat} {errs : List (Fin 32 × List SymErr)} {agree : Bool} {access master : Nat}
    (h : Keeps R s t) : Keeps R s (t.copyRow pc bank row errs agree access master) :=
  h.settle.engineRow.chargeEng.forAll fun _ _ k => .ite k k.engineRead.writeLine

theorem Keeps.requestDone {row : Nat × Nat × Nat} (h : Keeps R s t) : Keeps R s (t.requestDone row) :=
  .ite h.upd.clr.put.cause h

theorem Keeps.redirect {pc bank row : Nat} {free : List Nat} (h : Keeps R s t) :
    Keeps R s (t.redirect pc bank row free) := by
  unfold State.redirect
  extract_lets _ _ t₁
  have h₁ : Keeps R s t₁ := by
    unfold t₁
    split
    · exact h.setTip
    · exact h
  exact h₁.drawn.setTip

theorem Keeps.notDue {t' : Nat × Nat × Nat} (h : Keeps R s t) : Keeps R s (t.notDue t') := h.upd

theorem Keeps.execRowRepair {pc : PcNo} {bank : BankNo} {row : Fin 32768} {faults : RowFaults} (h : Keeps R s t) :
    Answers R s (execRowRepair pc bank row faults t) := by
  unfold Machine.execRowRepair
  extract_lets _ t₁ _ _ _ t₂ t₃ _ t₄ t₅
  have h₁ : Keeps R s t₁ := h.notDue
  have h₂ : Keeps R s t₂ := h₁.cause.err.requestDone
  have h₃ : Keeps R s t₃ := h₁.copyRow.notDue.redirect
  have h₄ : Keeps R s t₄ := h₃.setPc
  have h₅ : Keeps R s t₅ := h₄.cause.cause.dramEvent
  exact .ite (.next h) (.ite (.next h₁.upd)
    (.ite (.next (.ite h₂.retireBank h₂)) (.next h₅.appendRecord.requestDone)))

theorem Keeps.requestRepair (h : Keeps R s t) : Keeps R s t.requestRepair := by
  unfold State.requestRepair
  extract_lets _ t₁
  have h₁ : Keeps R s t₁ := h.put
  split
  · exact h.put.wr
  · exact h₁.upd

theorem Keeps.execTipinReqRepair {who : Accessor} (h : Keeps R s t) : Answers R s (execTipinReqRepair who t) :=
  .next (h.command fun _ k => k.requestRepair)

theorem Keeps.execTipinRecordAppend (h : Keeps R s t) : Answers R s (execTipinRecordAppend t) :=
  .ite (.next h) (.next h.upd)

theorem Keeps.execTipinRecordCommit {ok : Bool} (h : Keeps R s t) : Answers R s (execTipinRecordCommit ok t) := by
  unfold Machine.execTipinRecordCommit
  split
  · exact .next h
  · exact .ite (.next h.upd.err) (.next (.cause (.wrb (.wr64 (.ite h.upd.appendSys h.upd)))))

theorem Keeps.execTipinTableSweep {corrected uncorrectable : List (Fin 65536)} (h : Keeps R s t) :
    Answers R s (execTipinTableSweep corrected uncorrectable t) :=
  .next (h.forAll fun _ _ k => k.upd.err)

theorem Keeps.execTipinEntryReloaded {entry : Fin 65536} (h : Keeps R s t) :
    Answers R s (execTipinEntryReloaded entry t) :=
  .ite (.next h) (.next h.setTip.upd)

theorem Keeps.execMigrateStart (h : Keeps R s t) : Answers R s (execMigrateStart t) := by
  unfold Machine.execMigrateStart
  split
  · exact .next h
  · exact .ite (.next h) (.next h.upd.drop.startMigrate)

theorem Keeps.execMigrateRow {errs : List (Fin 32 × List SymErr)} {decAgree : Bool} (h : Keeps R s t) :
    Answers R s (execMigrateRow errs decAgree t) := by
  unfold Machine.execMigrateRow
  split
  · exact .next h
  · split
    · exact .ite (.next h) (.ite (.next h.engineWaits) (.next h.wr.copyRow.setEng.bump))

theorem Keeps.execMigrateDone (h : Keeps R s t) : Answers R s (execMigrateDone t) := by
  unfold Machine.execMigrateDone
  split
  · exact .next h
  · split
    · exact .next (.appendRecord (.dramEvent (.cause (.cause (.upd (h.wr.wr.forAll fun _ _ k => k.setTip))))))

theorem Keeps.execRecoveryWaitExpiry {loc : Loc} (h : Keeps R s t) : Answers R s (execRecoveryWaitExpiry loc t) := by
  unfold Machine.execRecoveryWaitExpiry
  split
  · exact .next h
  · split
    · exact .next h
    · exact .next (h.advanceTo.upd.forAll fun _ _ k => k.poisonEvent.answerRead)

/-! ### Machine/Kerf -/

theorem Keeps.kerfRefuse {k reason : Nat} (h : Keeps R s t) : Keeps R s (t.kerfRefuse k reason) :=
  h.put.wr.cause

theorem Keeps.execKerfStart {who : Accessor} {slot : KerfNo} (h : Keeps R s t) :
    Answers R s (execKerfStart who slot t) := by
  unfold Machine.execKerfStart
  refine .next ?_
  refine .command h (fun u k => ?_)
  split
  · exact k.kerfRefuse
  · exact k.startKerf

theorem Keeps.execKerfAbort {who : Accessor} {slot : KerfNo} (h : Keeps R s t) :
    Answers R s (execKerfAbort who slot t) :=
  .next (h.command fun _ k => .ite (.ite k.setEng k.wr.cause) k.kerfRefuse)

theorem Keeps.execKerfResume {who : Accessor} {slot : KerfNo} (h : Keeps R s t) :
    Answers R s (execKerfResume who slot t) :=
  .next (h.command fun _ k => .ite k.wr k.kerfRefuse)

theorem Keeps.execClearStroke (h : Keeps R s t) : Answers R s (execClearStroke t) := by
  unfold Machine.execClearStroke
  extract_lets
  split
  · exact .next h
  · split
    · exact .next h
    · extract_lets _ _ _ t₁ t₂ t₃ t₄
      have h₁ : Keeps R s t₁ := h.wr.settle
      have h₂ : Keeps R s t₂ := h₁.strokeRows.clearSpan.chargeEng
      have h₃ : Keeps R s t₃ := h₂.setEng
      have h₄ : Keeps R s t₄ := .ite h₃.markCleared.finishQuire h₃
      exact .ite (.next h.engineWaits) (.ite (.next (h.forAll fun _ _ k => k.snoop)) (.next h₄.releaseStalled))

theorem Keeps.execLiftQuire {fails : Fin 3} (h : Keeps R s t) : Answers R s (execLiftQuire fails t) := by
  unfold Machine.execLiftQuire
  split
  · exact .next h
  · split
    · exact .next h
    · exact .next h.wr.liftQuireNow.releaseStalled

theorem Keeps.rekeyLine {loc : Nat} {f : LineFaults} (h : Keeps R s t) : Keeps R s (t.rekeyLine loc f) := by
  unfold State.rekeyLine
  extract_lets _ _ u fa o t₁ lost _ _ write
  have h₁ : Keeps R s t₁ := h.upset.engineRead.dropWb
  have hlost : ∀ u n, Keeps R s u → Keeps R s (lost u n) := fun _ _ k => k.markDirty.poisonLine
  have hwrite : ∀ u f, Keeps R s u → Keeps R s (write u f) :=
    fun _ _ k => .storeLine (k.forAll fun _ _ l => l.markDirty)
  refine .ite (hlost _ _ h₁) (.ite h₁.setLine (.ite (hlost _ _ h₁.errReq) (.ite (hwrite _ _ h₁) ?_)))
  split
  · exact h₁.fetchTag
  · exact .ite (hwrite _ _ h₁.fetchTag) (.errReq (hlost _ _ h₁.fetchTag.tagFailed))

theorem Keeps.pauseRekey {unloaded : Bool} (h : Keeps R s t) : Keeps R s (t.pauseRekey unloaded) :=
  .ite h (.ite h.wr.err h.wr.holdEngine)

theorem Keeps.execRekeyStroke {faults : List (Fin 256 × LineFaults)} {rest : LineFaults} (h : Keeps R s t) :
    Answers R s (execRekeyStroke faults rest t) := by
  unfold Machine.execRekeyStroke
  extract_lets
  split
  · exact .next h
  · split
    · exact .next h
    · extract_lets _ _ t₁ t₂ t₃ t₄ t₅
      have h₁ : Keeps R s t₁ := h.wr.settle
      have h₂ : Keeps R s t₂ := h₁.strokeRows.chargeEng
      have h₃ : Keeps R s t₃ := h₂.forAll fun _ _ k => k.rekeyLine
      have h₄ : Keeps R s t₄ := h₃.setEng.reposition
      have h₅ : Keeps R s t₅ := .ite h₄.finishQuire h₄
      exact .ite (.next h.pauseRekey) (.ite (.next h.engineWaits)
        (.ite (.next h.pauseRekey) (.next h₅.releaseStalled)))

theorem Keeps.execKerfDone {slot : KerfNo} (h : Keeps R s t) : Answers R s (execKerfDone slot t) :=
  .ite (.next h) (.next (.ite h.wr.cause.clr h.wr.cause))

theorem Keeps.execKerfLineTimeout {slot : KerfNo} {loc : Loc} (h : Keeps R s t) :
    Answers R s (execKerfLineTimeout slot loc t) :=
  .ite (.next h) (.next h.log)

/-! ### Machine/Folio -/

theorem Keeps.execCkpt {who : Accessor} (h : Keeps R s t) : Answers R s (execCkpt who t) :=
  .next (h.command fun _ k => .ite k.orderCkpt k)

theorem Keeps.execCkptLimited {who : Accessor} (h : Keeps R s t) : Answers R s (execCkptLimited who t) :=
  .next (h.command fun _ k => .ite k.orderCkpt k)

theorem Keeps.execCkptCancel {who : Accessor} (h : Keeps R s t) : Answers R s (execCkptCancel who t) := by
  unfold Machine.execCkptCancel
  refine .next ?_
  refine .command h (fun u k => ?_)
  split
  · exact k
  · exact .ite k (.ite k.endCkpt k.upd)

theorem Keeps.execCheckpointStart (h : Keeps R s t) : Answers R s (execCheckpointStart t) := by
  unfold Machine.execCheckpointStart
  split
  · exact .next h
  · split
    · exact .ite (.next (.ite h.startCheckpoint h)) (.next h.startCheckpoint)
    · exact .next (.ite h.startCheckpoint h)

theorem Keeps.failPersist {voidOk : Bool} (h : Keeps R s t) : Keeps R s (t.failPersist voidOk) := by
  unfold State.failPersist
  extract_lets t₁ t₂
  have h₁ : Keeps R s t₁ := h.stopCheckpoint
  have h₂ : Keeps R s t₂ := .ite h₁.commitVoid h₁
  exact h₂.upd.setPersist.err.releaseHeld.fixLevel.fixGauge

theorem Keeps.fixPersist (h : Keeps R s t) : Keeps R s t.fixPersist :=
  .ite h.drawn.failPersist (.fixBudget (.ite h.setPersist.err h))

theorem Keeps.retireBlock {b : Nat} (h : Keeps R s t) : Keeps R s (t.retireBlock b) :=
  .ite h h.setBlock.bump.cause.err.fixPersist

theorem Keeps.execBlockErase {block : Fin 278528} {ok : Bool} (h : Keeps R s t) :
    Answers R s (execBlockErase block ok t) := by
  unfold Machine.execBlockErase
  extract_lets _ _ _ t₁ t₂ t₃
  have h₁ : Keeps R s t₁ := by
    unfold t₁
    split
    · exact h.upd
    · exact h
  have h₂ : Keeps R s t₂ := h₁.setBlock
  have h₃ : Keeps R s t₃ := .ite h₂.cause h₂
  exact .ite (.next h) (.next (.ite h₃.retireBlock h₃))

theorem Keeps.goOn {c : Commit} (h : Keeps R s t) : Keeps R s (t.goOn c) := .ite h.endCkpt h.pump.upd

theorem Keeps.execSlotReadBack {bad : Option (Fin 64)} (h : Keeps R s t) : Answers R s (execSlotReadBack bad t) := by
  unfold Machine.execSlotReadBack
  split
  · exact .next h
  · split
    · exact .next h
    · split
      · exact .ite (.next h.upd) (.next h.readBack.goOn)
      · exact .ite (.next h.retireBlock) (.ite (.next h.retireBlock.setSlot.goOn) (.next h.retireBlock.reprogram.upd))

theorem Keeps.execCheckpointCommit {p0 p1 : Bool} (h : Keeps R s t) : Answers R s (execCheckpointCommit p0 p1 t) := by
  unfold Machine.execCheckpointCommit
  split
  · exact .next h
  · exact .ite (.next h) (.ite (.next h.commit.bump.cause.endCkpt) (.next h.err.endCkpt))

theorem Keeps.execPersistenceFailed {voidOk : Bool} (h : Keeps R s t) :
    Answers R s (execPersistenceFailed voidOk t) :=
  .next (.ite h.failPersist h)

theorem Keeps.execGpfPhase1 {port : PortNo} {ld : LdNo} {tag : Nat} (h : Keeps R s t) :
    Answers R s (execGpfPhase1 port ld tag t) :=
  .ite (.next h) (.next h.bump.emit)

theorem Keeps.execGpfPhase2 {port : PortNo} {ld : LdNo} {tag : Nat} (h : Keeps R s t) :
    Answers R s (execGpfPhase2 port ld tag t) :=
  .ite (.next h) (.next (.ite h.gpfDone h.upd))

/-! ### Machine/Keys -/

theorem Keeps.writeKeyRecord {before : KeyTables} {answers : List (List Nat)} (h : Keeps R s t) :
    Keeps R s (t.writeKeyRecord before answers) :=
  h.upd

theorem Keeps.execKeyRetainClear {who : Accessor} (h : Keeps R s t) : Answers R s (execKeyRetainClear who t) :=
  .next (h.command fun _ k => .ite k.clr.writeKeyRecord k)

theorem Keeps.keyRecordFails {before : KeyTables} {answers : List (List Nat)} (h : Keeps R s t) :
    Keeps R s (t.keyRecordFails before answers) :=
  h.upd.wr.forAll fun _ _ k => k.wr.cause.emit

theorem Keeps.execKeyRecordCommit {ok : Bool} (h : Keeps R s t) : Answers R s (execKeyRecordCommit ok t) := by
  unfold Machine.execKeyRecordCommit
  extract_lets _ _ _ _ t₁ _ t₂
  have h₁ : Keeps R s t₁ := h.upd.appendSys
  have h₂ : Keeps R s t₂ := h₁.upd
  split
  · exact .next h
  · exact .ite (.ite (.next h.keyRecordFails) (.next h.upd.err)) (.next (h₂.forAll fun _ _ k => k.emit))

theorem Keeps.keyCmd {opcode status : Nat} {session : Session} (h : Keeps R s t) :
    Keeps R s (t.keyCmd opcode status session) :=
  .ite h.wr.wr.wrb.bump h.wr.wr.wrb.bump.cause

theorem Keeps.keyFail {opcode status : Nat} {session : Session} (h : Keeps R s t) :
    Keeps R s (t.keyFail opcode status session) :=
  h.keyCmd.emit

theorem Keeps.keyDone {opcode : Nat} {session : Session} {before : KeyTables} {payload : List Nat} (h : Keeps R s t) :
    Keeps R s (t.keyDone opcode session before payload) :=
  .ite h.keyCmd.writeKeyRecord h.keyCmd.emit

theorem Keeps.inSession {who : Session} {u : State} (h : Keeps R s t) (hu : Keeps R s u) :
    Answers R s (t.inSession who u) := .next (.ite hu h)

theorem Keeps.unloadPauses {slot : Nat} (h : Keeps R s t) : Keeps R s (t.unloadPauses slot) := .ite h.wr.err h
theorem Keeps.loadResumes {slot : Nat} (h : Keeps R s t) : Keeps R s (t.loadResumes slot) := .ite h.wr h

theorem Keeps.execLoadKey {session : Session} {load : KeyLoad} (h : Keeps R s t) :
    Answers R s (execLoadKey session load t) := by
  refine h.inSession ?_
  split
  · exact h.keyFail
  · exact h.setKey.loadResumes.cause.keyDone

theorem Keeps.execUnloadKey {session : Session} {slot : Nat} (h : Keeps R s t) :
    Answers R s (execUnloadKey session slot t) :=
  h.inSession (.ite h.keyFail (.ite h.keyFail (.ite h.keyFail h.unloadPauses.setKey.cause.keyDone)))

theorem Keeps.execSetRights {session : Session} {ld : Nat} {bitmap : BitVec 256} (h : Keeps R s t) :
    Answers R s (execSetRights session ld bitmap t) :=
  h.inSession (.ite h.keyFail (.ite h.keyFail (.ite h.keyFail h.setRights.keyDone)))

theorem Keeps.execSetRange {session : Session} {index : Nat} {enable : Bool} {mask : BitVec 16} {base stop : Nat}
    (h : Keeps R s t) : Answers R s (execSetRange session index enable mask base stop t) :=
  h.inSession (.ite h.keyFail (.ite h.keyFail
    (.ite h.keyFail (.ite h.setRange.keyDone (.ite h.keyFail h.setRange.keyDone)))))

theorem Keeps.execQuerySlot {session : Session} {slot : Nat} (h : Keeps R s t) :
    Answers R s (execQuerySlot session slot t) :=
  h.inSession (.ite h.keyFail (.ite h.keyFail (.ite h.keyFail h.keyCmd.emit)))

theorem Keeps.execKeyCmdUnknown {session : Session} {opcode : BitVec 16} (h : Keeps R s t) :
    Answers R s (execKeyCmdUnknown session opcode t) :=
  h.inSession h.keyFail

theorem Keeps.execKeyTableSweep {corrected uncorrectable : List SlotNo} (h : Keeps R s t) :
    Answers R s (execKeyTableSweep corrected uncorrectable t) :=
  .next (.forAll (h.forAll fun _ _ k => k.err) fun _ _ k => k.setKey.cause.err)

theorem Keeps.execKeySlotReloaded {slot : SlotNo} (h : Keeps R s t) : Answers R s (execKeySlotReloaded slot t) :=
  .ite (.next h.setKey.cause) (.next h)

theorem Keeps.setCarve {on_ : Bool} (h : Keeps R s t) : Keeps R s (t.setCarve on_) :=
  h.upd.wrb.wrb.put.fixCapacity.cause.startKerf

theorem Keeps.carveCommand {activate both : Bool} (h : Keeps R s t) : Keeps R s (t.carveCommand activate both) := by
  unfold State.carveCommand
  split
  · exact h
  · split
    · exact h.put.wr
    · exact h.setCarve

theorem Keeps.execCarveActivate {who : Accessor} {both : Bool} (h : Keeps R s t) :
    Answers R s (execCarveActivate who both t) :=
  .next (h.command fun _ k => k.carveCommand)

theorem Keeps.execCarveDeactivate {who : Accessor} (h : Keeps R s t) : Answers R s (execCarveDeactivate who t) :=
  .next (h.command fun _ k => k.carveCommand)

theorem Keeps.execTcacheFlush {who : Accessor} (h : Keeps R s t) : Answers R s (execTcacheFlush who t) :=
  .next (h.command fun _ k => k.flushTags)

/-! ### Machine/DoveOps -/

theorem Keeps.setRangeState {n st : Nat} (h : Keeps R s t) : Keeps R s (t.setRangeState n st) := h.wr
theorem Keeps.pushAll {n : Nat} (h : Keeps R s t) : Keeps R s (t.pushAll n) := h.upd
theorem Keeps.clearMarks {n : Nat} (h : Keeps R s t) : Keeps R s (t.clearMarks n) := h.upd

theorem Keeps.reserveArea (h : Keeps R s t) : Keeps R s t.reserveArea :=
  .ite h (h.put.fixCapacity.drawn.upd.forAll fun _ _ k => k.markDirty)

theorem Keeps.dropRange {n : Nat} (h : Keeps R s t) : Keeps R s (t.dropRange n) :=
  .ite h.clearMarks.setRangeState.clr.upd.fixLevel h.clearMarks.setRangeState.clr.upd.clr.fixCapacity.fixLevel.upd

theorem Keeps.flushTx (h : Keeps R s t) : Keeps R s t.flushTx := h.upd.forAll fun _ _ k => k.sendDove
theorem Keeps.ackFlits {ack : BitVec 24} (h : Keeps R s t) : Keeps R s (t.ackFlits ack) := h.upd.flushTx

theorem Keeps.sendQueue (h : Keeps R s t) : Keeps R s t.sendQueue :=
  .ite h (h.upd.forAll fun _ _ k => k.sendDove)

theorem Keeps.retrain (h : Keeps R s t) : Keeps R s t.retrain := h.upd.bump.cause.err.emit

theorem Keeps.askReplay (h : Keeps R s t) : Keeps R s t.askReplay :=
  .ite h.upd.bump.emit.retrain h.upd.bump.emit

theorem Keeps.doveDown (h : Keeps R s t) : Keeps R s t.doveDown := h.wr.wr.upd
theorem Keeps.doveTrain (h : Keeps R s t) : Keeps R s t.doveTrain := .ite h.wr.wr h

theorem Keeps.settleRanges (h : Keeps R s t) : Keeps R s t.settleRanges :=
  h.forAll fun _ _ k => .ite k.setRangeState.cause k

theorem Keeps.startResync (h : Keeps R s t) : Keeps R s t.startResync := by
  unfold State.startResync
  extract_lets t₁
  have h₁ : Keeps R s t₁ := h.settleRanges
  split
  · exact h₁
  · split
    · exact .ite h₁.wr.startKerf.setEng h₁.wr.startKerf
    · exact h₁

theorem Keeps.resyncAll {n : Nat} (h : Keeps R s t) : Keeps R s (t.resyncAll n) := h.pushAll.setRangeState

theorem Keeps.writeForm {loc : Nat} {f : FormLine} {master : Nat} (h : Keeps R s t) :
    Keeps R s (t.writeForm loc f master) := by
  unfold State.writeForm
  extract_lets t₁ t₂ _ t₃
  have h₁ : Keeps R s t₁ := h.ensure.settleLine.callBack
  have h₂ : Keeps R s t₂ := h₁.markDirty.chargeEng
  have h₃ : Keeps R s t₃ := h₂.writeLine
  exact .ite h (.ite h₂.writeLine (.ite (.ite h₃.fetchTag.cacheTag.markDirty h₃) h₂.poisonLine))

theorem Keeps.refuseDove {reason : Nat} (h : Keeps R s t) : Keeps R s (t.refuseDove reason) := h.wr.cause.err
theorem Keeps.diverge {n : Nat} (h : Keeps R s t) : Keeps R s (t.diverge n) := h.setRangeState.cause.err
theorem Keeps.offer {n : Nat} (h : Keeps R s t) : Keeps R s (t.offer n) := h.setRangeState.sendDove

theorem Keeps.joinRange {h' : Hello} {n : Nat} (h : Keeps R s t) : Keeps R s (t.joinRange h' n) :=
  .ite h (.ite (.ite h.offer h.setRangeState)
    (.ite h.diverge (.ite h.setRangeState (.ite h.setRangeState.err.pushAll h.setRangeState.err))))

theorem Keeps.sendBitmap {pull : Bool} {bits : Sparse Bool} (h : Keeps R s t) : Keeps R s (t.sendBitmap pull bits) :=
  h.forAll fun _ _ k => k.sendDove

theorem Keeps.giveBits (h : Keeps R s t) : Keeps R s t.giveBits :=
  h.sendBitmap.sendBitmap.forAll fun _ _ k => .ite k.clearMarks k

theorem Keeps.join {h' : Hello} (h : Keeps R s t) : Keeps R s (t.join h') := by
  unfold State.join
  extract_lets t₁ _ _ t₂ t₃ t₄ _ _ t₅ t₆
  have h₁ : Keeps R s t₁ := h.wr.cause
  have h₂ : Keeps R s t₂ := h₁.upd
  have h₃ : Keeps R s t₃ := h₂.forAll fun _ _ k => k.joinRange
  have h₄ : Keeps R s t₄ := h₃.giveBits
  have h₅ : Keeps R s t₅ := h₄.upd.forAll fun _ _ k => k.sendDove
  have h₆ : Keeps R s t₆ := .ite h₅.wr h₅
  exact h₆.sendQueue.startResync

theorem Keeps.judgeHello (h : Keeps R s t) : Keeps R s t.judgeHello := by
  unfold State.judgeHello
  split
  · exact h
  · split
    · exact h
    · split
      · exact h.wr.refuseDove
      · exact h.join

theorem Keeps.sendHello (h : Keeps R s t) : Keeps R s t.sendHello :=
  .ite h.sendDove (.ite h.sendDove.upd.judgeHello h)

theorem Keeps.rangeApart {n : Nat} (h : Keeps R s t) : Keeps R s (t.rangeApart n) :=
  .ite h (.ite h.setRangeState (.upd (h.setRangeState.forAll fun _ _ k => k.setPush)))

theorem Keeps.stopResync (h : Keeps R s t) : Keeps R s t.stopResync :=
  .releaseStalled (.upd (.ite h.wr.cause.setEng h))

theorem Keeps.failRecovery {r : Recovery} (h : Keeps R s t) : Keeps R s (t.failRecovery r) :=
  .releaseStalled (.forAll (.forAll (.ite h.upd.bump.cause.err.poisonLine h.upd.bump.cause.err) fun _ _ k =>
    k.poisonEvent.answerRead) fun _ _ k => k.mergeWrite)

theorem Keeps.releaseQueue (h : Keeps R s t) : Keeps R s t.releaseQueue :=
  h.upd.forAll fun _ _ k => .ite k.upd k.longest.intake

theorem Keeps.splitPair (h : Keeps R s t) : Keeps R s t.splitPair :=
  .releaseQueue (.upd (.forAll (.stopResync (h.forAll fun _ _ k => k.rangeApart)) fun _ _ k => k.failRecovery))

theorem Keeps.loseDove (h : Keeps R s t) : Keeps R s t.loseDove := .ite h h.splitPair.wr.cause.err.bump.wr64.upd

theorem Keeps.sendRole {n : Nat} {promoted : Bool} (h : Keeps R s t) : Keeps R s (t.sendRole n promoted) :=
  .ite h.sendDove h.upd

theorem Keeps.promote {n : Nat} (h : Keeps R s t) : Keeps R s (t.promote n) :=
  .cause (.ite h.put.sendRole.diverge h.put.sendRole)

theorem Keeps.markBack {loc : Nat} (h : Keeps R s t) : Keeps R s (t.markBack loc) := h.sendDove.err

theorem Keeps.applyWrite {w : Mwrite} (h : Keeps R s t) : Keeps R s (t.applyWrite w) :=
  .upd (.ite h.markBack (.ite (.markBack (.discardWrite (.ite h.settleLine.observe h.settleLine))) h.engineWrite))

theorem Keeps.applyRdata {stroke loc : Nat} {first second : FormLine} (h : Keeps R s t) :
    Keeps R s (t.applyRdata stroke loc first second) :=
  .ite h.writeForm.writeForm.upd h.writeForm.writeForm

theorem Keeps.answerRreq {ident loc : Nat} (h : Keeps R s t) : Keeps R s (t.answerRreq ident loc) := by
  unfold State.answerRreq
  extract_lets a reply
  have hreply : ∀ f u, Keeps R s u → Keeps R s (reply f u) := fun _ _ k => k.sendDove
  have h₁ : Keeps R s (((t.ensure (quireOf a)).settleLine a).callBack a false |>.chargeEng 0x18 1) :=
    h.ensure.settleLine.callBack.chargeEng
  split
  · exact hreply _ _ h
  · exact .ite (hreply _ _ h) (.ite (hreply _ _ h₁.observe) (hreply _ _ h₁.observe))

theorem Keeps.onHello {prot : Bool} {h' : Hello} (h : Keeps R s t) : Keeps R s (t.onHello prot h') :=
  .ite (.wrb (.ite h.wr.put.wr.cause h.wr.put.wr))
    (.judgeHello (.upd (.ite (.sendDove (.wrb (.ite h.wr.put.wr.cause h.wr.put.wr)))
    (.wrb (.ite h.wr.put.wr.cause h.wr.put.wr)))))

theorem Keeps.partnerSafe {safe : Bool} (h : Keeps R s t) : Keeps R s (t.partnerSafe safe) :=
  .ite (h.forAll fun _ _ k => .ite k.rangeApart k) h

theorem Keeps.ackOsn {osn : Nat} (h : Keeps R s t) : Keeps R s (t.ackOsn osn) := .ite h.upd.upd h.upd

theorem Keeps.finishWithdraw (h : Keeps R s t) : Keeps R s t.finishWithdraw :=
  h.forAll fun _ _ k => .ite k k.sendDove.dropRange

theorem Keeps.onHeartbeat {b : Beat} (h : Keeps R s t) : Keeps R s (t.onHeartbeat b) :=
  .ite h.upd (.ite h.upd.ackOsn.partnerSafe.finishWithdraw
    (h.upd.ackOsn.partnerSafe.finishWithdraw.forAll fun _ _ k => .ite k.setRangeState k))

theorem Keeps.finishStroke {k : Stroke} (h : Keeps R s t) : Keeps R s (t.finishStroke k) :=
  .ite (.cause (.wr (.setEng (.ite h.upd.setPush.setPull.finishQuire h.upd))))
    (.ite h.upd.setPush.setPull.finishQuire h.upd)

theorem Keeps.onMack {osn stroke : Nat} (h : Keeps R s t) : Keeps R s (t.onMack osn stroke) :=
  .sendQueue (.releaseStalled (.startResync (.finishWithdraw (h.ackOsn.forAll fun _ _ k => k.finishStroke))))

theorem Keeps.onPulled {k : Stroke} {loc : Nat} {f : FormLine} (h : Keeps R s t) : Keeps R s (t.onPulled k loc f) :=
  .ite (.releaseStalled (.startResync (.finishStroke (.upd (.ite h.writeForm h))))) (.upd (.ite h.writeForm h))

theorem Keeps.onRrsp {ident loc : Nat} {f : FormLine} (h : Keeps R s t) : Keeps R s (t.onRrsp ident loc f) := by
  unfold State.onRrsp
  split
  · exact .ite (.releaseStalled (.forAll (h.upd.writeForm.bump.forAll fun _ _ k => k.finishRead) fun _ _ k =>
      k.mergeWrite)) h.failRecovery
  · split
    · exact h.onPulled
    · exact h

theorem Keeps.formWaits (h : Keeps R s t) : Keeps R s t.formWaits := .ite h h.upd.bump

theorem Keeps.applyMsg {m : DoveMsg} (h : Keeps R s t) : Keeps R s (t.applyMsg m).2 := by
  cases m with
  | mwrite w =>
    simp only [State.applyMsg]
    split
    · exact h.holdEngine
    · exact h.applyWrite
  | rdata stroke loc first second =>
    simp only [State.applyMsg]
    split
    · exact h.formWaits
    · split
      · exact h.holdEngine
      · exact h.applyRdata
  | rreq ident loc => exact h.answerRreq
  | rrsp ident loc f =>
    simp only [State.applyMsg]
    split
    · split
      · exact h.formWaits
      · split
        · exact h.holdEngine
        · exact h.onRrsp
    · exact h.onRrsp
  | _ => exact h

theorem Keeps.applyList {l : List DoveMsg} (h : Keeps R s t) : Keeps R s (t.applyList l) := by
  induction l generalizing t with
  | nil => exact h.upd
  | cons m rest ih =>
    unfold State.applyList
    exact .ite h.applyMsg.upd (.ite (ih h.applyMsg.upd) h.recall.upd)

theorem Keeps.applyNext {m : DoveMsg} (h : Keeps R s t) : Keeps R s (t.applyNext m) := h.applyList

theorem Keeps.markQuire {pull : Bool} {q : Nat} (h : Keeps R s t) : Keeps R s (t.markQuire pull q) := by
  unfold State.markQuire
  extract_lets t₁
  have h₁ : Keeps R s t₁ := .ite h.setPull h.setPush
  split
  · exact h
  · exact .ite h (.ite h₁.setRangeState h₁)

theorem Keeps.onConfig {n op reason base stop : Nat} (h : Keeps R s t) :
    Keeps R s (t.onConfig n op reason base stop) := by
  unfold State.onConfig
  extract_lets t₁ t₂
  have h₁ : Keeps R s t₁ := h.wr.wr
  have h₂ : Keeps R s t₂ := h₁.clr.setRangeState.reserveArea
  split
  · exact .ite h₂.sendDove h.refuseDove.sendDove
  · exact .ite h.resyncAll.startResync h
  · exact .ite h.dropRange h
  · exact .ite h.dropRange.put.refuseDove h
  · exact h

theorem Keeps.onRole {n : Nat} {promoted : Bool} (h : Keeps R s t) : Keeps R s (t.onRole n promoted) :=
  .ite h.diverge h

theorem Keeps.onSpdm {established failed : Bool} (h : Keeps R s t) : Keeps R s (t.onSpdm established failed) :=
  .ite h.upd.wr.refuseDove (.ite h.drawn.upd.wr.sendHello h)

theorem Keeps.onMessage {prot : Bool} {m : DoveMsg} (h : Keeps R s t) : Keeps R s (t.onMessage prot m) := by
  unfold State.onMessage
  split
  · exact h
  · split
    · exact h
    · exact h.onHello
    · exact h.onHeartbeat
    · exact h.onSpdm
    · split
      · exact .ite h h.applyNext
      · exact h
    · exact .ite h.onMack h
    · exact .ite h.applyNext h
    · exact .ite h.applyNext h
    · exact .ite h.applyNext h
    · exact .ite (.startResync (h.forAll fun _ _ k => k.markQuire)) h
    · exact .ite (.startResync (h.forAll fun _ _ k => k.markQuire)) h
    · exact .ite h.onConfig h
    · exact .ite h.onRole h
    · exact h.loseDove
    · exact h.err

theorem Keeps.onMessages {prot : Bool} {l : List DoveMsg} (h : Keeps R s t) : Keeps R s (t.onMessages prot l) := by
  induction l generalizing t with
  | nil => exact h
  | cons m rest ih =>
    cases m with
    | unknown => exact h.onMessage
    | _ => exact ih h.onMessage

/-! ### Machine/OtpOps -/

theorem Keeps.setRow {r v : Nat} (h : Keeps R s t) : Keeps R s (t.setRow r v) := h.upd
theorem Keeps.fixLocks (h : Keeps R s t) : Keeps R s t.fixLocks := h.wr

theorem Keeps.blowFuse (h : Keeps R s t) : Keeps R s t.blowFuse := by
  unfold State.blowFuse
  split
  · exact h
  · exact h.upd.clr.wr

theorem Keeps.zeroise (h : Keeps R s t) : Keeps R s t.zeroise := h.upd.forAll fun _ _ k => k.setRow

/-! ### Machine/PortOps -/

theorem Keeps.fixPort {p : Nat} (h : Keeps R s t) : Keeps R s (t.fixPort p) :=
  h.forAll fun _ _ k => k.wr.wrb.wrb

theorem Keeps.clearLane {g n : Nat} (h : Keeps R s t) : Keeps R s (t.clearLane g n) := h.clrAll.setLane.wrb

theorem Keeps.setLanes {g st : Nat} (h : Keeps R s t) : Keeps R s (t.setLanes g st) :=
  h.forAll fun _ _ k => k.wr

theorem Keeps.phyCause {g port dove : Nat} (h : Keeps R s t) : Keeps R s (t.phyCause g port dove) :=
  .ite h.cause (.ite h h.cause)

theorem Keeps.linkDown {g : Nat} (h : Keeps R s t) : Keeps R s (t.linkDown g) := by
  unfold State.linkDown
  extract_lets was t₁ t₂ t₃ _ t₄ t₅
  have h₁ : Keeps R s t₁ := h.clrAll
  have h₃ : Keeps R s t₃ := (h₁.forAll fun _ _ k => k.clr).forAll fun _ _ k => k.clearLane
  have h₅ : Keeps R s t₅ := h₃.setPort.fixPort.fixCal
  exact .ite h₅ h₅.cause

theorem Keeps.doveLanesDown (h : Keeps R s t) : Keeps R s t.doveLanesDown :=
  .fixCal (h.doveDown.clr.clr.forAll fun _ _ k => k.clearLane)

theorem Keeps.train {g : Nat} (h : Keeps R s t) : Keeps R s (t.train g) :=
  .ite (.setPort (.forAll (.ite h.doveTrain (.ite h.wr h)) fun _ _ k => k.clearLane)) (.ite h.doveTrain (.ite h.wr h))

theorem Keeps.trainAll (h : Keeps R s t) : Keeps R s t.trainAll := h.forAll fun _ _ k => k.train
theorem Keeps.mapReqs {f : Req → Req} (h : Keeps R s t) : Keeps R s (t.mapReqs f) := h.upd
theorem Keeps.endEpoch {p : Nat} {ld : Option Nat} (h : Keeps R s t) : Keeps R s (t.endEpoch p ld) := h.mapReqs

theorem Keeps.resetPortRing {p l : Nat} (h : Keeps R s t) : Keeps R s (t.resetPortRing p l) :=
  h.upd.dropMsix.abortRing.resetRing

theorem Keeps.clearIde {p : Nat} (h : Keeps R s t) : Keeps R s (t.clearIde p) := h.setPort.clrAll
theorem Keeps.countReset {p cause : Nat} (h : Keeps R s t) : Keeps R s (t.countReset p cause) := h.wr.bump.cause
theorem Keeps.discardFlit {p : Nat} (h : Keeps R s t) : Keeps R s (t.discardFlit p) := h.bump.err

theorem Keeps.closePort {p : Nat} {partFlit : Bool} (h : Keeps R s t) : Keeps R s (t.closePort p partFlit) :=
  .linkDown (.setPort (.endEpoch (.wr (.ite h.discardFlit h))))

theorem Keeps.portReset {p cause : Nat} {partFlit : Bool} (h : Keeps R s t) :
    Keeps R s (t.portReset p cause partFlit) := by
  unfold State.portReset
  extract_lets t₁ t₂ t₃
  have h₁ : Keeps R s t₁ := h.closePort
  have h₂ : Keeps R s t₂ := h₁.forAll fun _ _ k => k.setLd.resetPortRing
  have h₃ : Keeps R s t₃ := h₂.clearIde.fixPort.countReset.releaseStalled
  exact .ite h₃.setPort.wakeOver h₃

theorem Keeps.resetLd {p l : Nat} (h : Keeps R s t) : Keeps R s (t.resetLd p l) :=
  h.endEpoch.setPort.resetPortRing.wr.countReset.releaseStalled

theorem Keeps.stopPort {p : Nat} (h : Keeps R s t) : Keeps R s (t.stopPort p) :=
  .ite h.setPort h.setPort.portReset

theorem Keeps.loseRefclk (h : Keeps R s t) : Keeps R s t.loseRefclk :=
  .forAll (.ite (h.forAll fun _ _ k => .ite k k.portReset.err.cause)
    (.cause (.err (.doveLanesDown (h.forAll fun _ _ k => .ite k k.portReset.err.cause))))) fun _ _ k => k.clr

theorem Keeps.lanesOff (h : Keeps R s t) : Keeps R s t.lanesOff :=
  .doveLanesDown (h.forAll fun _ _ k => k.closePort)

theorem Keeps.denied {p l opcode : Nat} (h : Keeps R s t) : Keeps R s (t.denied p l opcode) := h.bump.cause.log

/-! ### Machine/PowerOn -/

theorem Keeps.storeTb (h : Keeps R s t) : Keeps R s t.storeTb := h.upd

theorem Keeps.releasePins (h : Keeps R s t) : Keeps R s t.releasePins :=
  .upd (.ite (.emit (.ite (.emit (.ite h.clr.emit h)) (.ite h.clr.emit h)))
    (.ite (.emit (.ite h.clr.emit h)) (.ite h.clr.emit h)))

theorem Keeps.judgeBus {vinMv : Nat} (h : Keeps R s t) : Keeps R s (t.judgeBus vinMv) := h.wrb

theorem Keeps.powerOff (h : Keeps R s t) : Keeps R s t.powerOff :=
  h.upd.releasePins.clr.clr.forAll fun _ _ k => k.clr

theorem Keeps.finishAccepted {r : Req} (h : Keeps R s t) : Keeps R s (t.finishAccepted r) :=
  .ite h.ensure.perform (.perform (.completeWrite (h.forAll fun _ _ k => k.ensure)))

theorem Keeps.drain (h : Keeps R s t) : Keeps R s t.drain :=
  .endHolding (.forAll (.upd (.settle (.forAll (h.upd.forAll fun _ _ k => k.arrive) fun _ _ k => k.failRecovery)))
    fun _ _ k => k.finishAccepted)

theorem Keeps.carryTo {a1 : Nat} (h : Keeps R s t) : Keeps R s (t.carryTo a1) :=
  .ite h.upd.bump.wr.cause.err h.upd.bump.wr.cause

theorem Keeps.carryTb (h : Keeps R s t) : Keeps R s t.carryTb := .ite h.carryTo.endWindow h
theorem Keeps.readyTb (h : Keeps R s t) : Keeps R s t.readyTb := .ite h h.readyDomain

theorem Keeps.wakeDomains (h : Keeps R s t) : Keeps R s t.wakeDomains :=
  .readyTb (.carryTb (h.forAll fun _ _ k => k.runDomain))

theorem Keeps.wakePcs (h : Keeps R s t) : Keeps R s t.wakePcs := h.forAll fun _ _ k => .ite k.exitSr k.clr
theorem Keeps.pagesBack (h : Keeps R s t) : Keeps R s t.pagesBack := h.forAll fun _ _ k => .ite k.wr k

theorem Keeps.endStep (h : Keeps R s t) : Keeps R s t.endStep := by
  unfold State.endStep
  split
  · exact h
  · exact .ite h.upd.wr.setPort.train (.ite h.upd.wr.train h.upd.wr)

theorem Keeps.endOffline (h : Keeps R s t) : Keeps R s t.endOffline := .ite h.clr.pagesBack h
theorem Keeps.endBist {st : Nat} (h : Keeps R s t) : Keeps R s (t.endBist st) := h.upd.endStep.endOffline.wr
theorem Keeps.abandonStep (h : Keeps R s t) : Keeps R s t.abandonStep := .ite h h.upd.endBist

theorem Keeps.stopForBind (h : Keeps R s t) : Keeps R s t.stopForBind :=
  h.wakeDomains.drain.wakePcs.stopCheckpoint.flushTags

/-! ### Machine/Bank -/

theorem Keeps.judgeEsr {esr : Nat} {again : Bool} (h : Keeps R s t) : Keeps R s (t.judgeEsr esr again) :=
  .ite h.wrb.cause.err h.wrb

theorem Keeps.provisional (h : Keeps R s t) : Keeps R s t.provisional := .ite h h.wr.wr.wr.judgeEsr

theorem Keeps.bankFields (h : Keeps R s t) : Keeps R s t.bankFields := by
  unfold State.bankFields
  extract_lets t₁
  have h₁ : Keeps R s t₁ := by
    unfold t₁
    split
    · exact h.wr.wr.wr.wr.wr
    · exact h
  split
  · exact h₁.wr.wrb
  · exact h₁.wr.clr

theorem Keeps.unidentified (h : Keeps R s t) : Keeps R s t.unidentified :=
  .fixBudget (.fixEnergy (.provisional (.bankFields (.err (.ite h.upd h.upd.wr)))))

theorem Keeps.busFailed (h : Keeps R s t) : Keeps R s t.busFailed := h.bump.cause.clr

theorem Keeps.eepromRead {d : EepromData} (h : Keeps R s t) : Keeps R s (t.eepromRead d) :=
  .fixBudget (.fixEnergy (.provisional (.bankFields
    (.ite (.ite h.put.put.clr.upd h.put.put.clr.upd.wr) (.err (.ite h.put.put.clr.upd h.put.put.clr.upd.wr))))))

theorem Keeps.readEeprom {data : Option EepromData} (h : Keeps R s t) : Keeps R s (t.readEeprom data) := by
  unfold State.readEeprom
  extract_lets t₁
  have h₁ : Keeps R s t₁ := h.wr
  split
  · exact h₁.eepromRead
  · exact h₁.upd.put

theorem Keeps.readFailed (h : Keeps R s t) : Keeps R s t.readFailed :=
  .ite h.upd.clr.clr.busFailed.err h.upd.clr.clr.busFailed.unidentified

theorem Keeps.execEepromReread {who : Accessor} {data : Option EepromData} (h : Keeps R s t) :
    Answers R s (execEepromReread who data t) :=
  .next (h.command fun _ k => .ite k (.ite k.upd k.readEeprom))

theorem Keeps.execBankBusRetry {data : Option EepromData} (h : Keeps R s t) :
    Answers R s (execBankBusRetry data t) := by
  unfold Machine.execBankBusRetry
  extract_lets t₁
  have h₁ : Keeps R s t₁ := h.advance.count
  split
  · exact .next h
  · split
    · exact .next h₁.eepromRead
    · exact .next (.ite h₁.readFailed h₁.upd)

theorem Keeps.execBankBusStuck {stillLow : Bool} (h : Keeps R s t) : Answers R s (execBankBusStuck stillLow t) :=
  .ite (.next h) (.next (.ite h.upd.bump.err.clr.busFailed.unidentified h.upd.bump.err))

theorem Keeps.dueRecord {cycles : Nat} (h : Keeps R s t) : Keeps R s (t.dueRecord cycles) := h.upd

theorem Keeps.execEepromRecordWrite (h : Keeps R s t) : Answers R s (execEepromRecordWrite t) := by
  unfold Machine.execEepromRecordWrite
  split
  · exact .next h
  · exact .ite (.next h) (.next h.upd.put)

theorem Keeps.recordEnds (h : Keeps R s t) : Keeps R s t.recordEnds := .ite h.clr.upd.readEeprom h.clr.upd

theorem Keeps.execEepromWriteCycleDone {verified : Bool} (h : Keeps R s t) :
    Answers R s (execEepromWriteCycleDone verified t) := by
  unfold Machine.execEepromWriteCycleDone
  split
  · exact .next h
  · exact .ite (.next h.upd.emit) (.ite (.next h.upd.emit.put.bankFields.recordEnds)
      (.ite (.next h.upd) (.next h.busFailed.err.recordEnds)))

theorem Keeps.bankLost (h : Keeps R s t) : Keeps R s t.bankLost := h.wr.cause.err
theorem Keeps.followBank (h : Keeps R s t) : Keeps R s t.followBank := h.fixEnergy.fixBudget

theorem Keeps.beginMeasure {v0Mv : Nat} (h : Keeps R s t) : Keeps R s (t.beginMeasure v0Mv) :=
  .ite h h.put.clr.put.upd

theorem Keeps.execMeasure {who : Accessor} {v0Mv : Nat} (h : Keeps R s t) : Answers R s (execMeasure who v0Mv t) :=
  .next (h.command fun _ k => k.beginMeasure)

theorem Keeps.execMeasurePeriodExpiry {v0Mv : Nat} (h : Keeps R s t) : Answers R s (execMeasurePeriodExpiry v0Mv t) :=
  .ite (.next h) (.next h.advanceTo.beginMeasure)

theorem Keeps.execMeasureSample {second : Bool} {v : Nat} (h : Keeps R s t) :
    Answers R s (execMeasureSample second v t) :=
  .ite (.next h) (.ite (.next h.advanceTo.upd) (.next h.advanceTo.upd))

theorem Keeps.openSwitch (h : Keeps R s t) : Keeps R s t.openSwitch := .ite h h.clr

theorem Keeps.discardMeasure (h : Keeps R s t) : Keeps R s t.discardMeasure :=
  .ite (.followBank (.ite h.err.upd h.err.upd.bankLost)) h.err.upd

theorem Keeps.judgeBank {c esr : Nat} (h : Keeps R s t) : Keeps R s (t.judgeBank c esr) :=
  .judgeEsr (.ite h.wrb.cause.err h.wrb)

theorem Keeps.acceptMeasure {c esr v3 : Nat} (h : Keeps R s t) : Keeps R s (t.acceptMeasure c esr v3) :=
  h.upd.wr.wr.wr.put.bump.wr64.wr.wr.judgeBank.cause.dueRecord.followBank

theorem Keeps.execMeasureEnd {v3 : Nat} (h : Keeps R s t) : Answers R s (execMeasureEnd v3 t) := by
  unfold Machine.execMeasureEnd
  extract_lets t₁ t₂
  have h₁ : Keeps R s t₁ := h.advanceTo.clr.openSwitch
  have h₂ : Keeps R s t₂ := h₁.wrb
  split
  · exact .ite (.next h₂.discardMeasure) (.next h₂.acceptMeasure)
  · exact .next h

theorem Keeps.execMeasureRetry {v0Mv : Nat} (h : Keeps R s t) : Answers R s (execMeasureRetry v0Mv t) := by
  unfold Machine.execMeasureRetry
  split
  · exact .next h
  · exact .next h.advanceTo.beginMeasure

theorem Keeps.checkDetector {vinMv : Nat} (h : Keeps R s t) : Keeps R s (t.checkDetector vinMv) :=
  .ite h.upd.errImmediate h.upd

theorem Keeps.sampleBank {vbankMv ichgMa headroomMa vinMv : Nat} (h : Keeps R s t) :
    Keeps R s (t.sampleBank vbankMv ichgMa headroomMa vinMv) :=
  h.wr.wr.wrb.wr.wrb.wrb

theorem Keeps.countCycle {vbankMv : Nat} (h : Keeps R s t) : Keeps R s (t.countCycle vbankMv) :=
  .ite h.upd.dueRecord (.ite h.upd h)

theorem Keeps.execBankHousekeepingRound {vbankMv : Nat} {charge : ChargeCurrent} {vinMv : Nat} (h : Keeps R s t) :
    Answers R s (execBankHousekeepingRound vbankMv charge vinMv t) := by
  unfold Machine.execBankHousekeepingRound
  extract_lets t₁ _ t₂ _ t₃ _ t₄ _ _ t₅ t₆ t₇
  have h₁ : Keeps R s t₁ := by
    unfold t₁
    split
    · exact h.advanceTo
    · exact h
  have h₂ : Keeps R s t₂ := h₁.upd
  have h₃ : Keeps R s t₃ := h₂.sampleBank
  have h₄ : Keeps R s t₄ := h₃.upd
  have h₅ : Keeps R s t₅ := .ite h₄.fixEnergy.bankLost.fixBudget h₄.followBank
  have h₆ : Keeps R s t₆ := h₅.countCycle
  have h₇ : Keeps R s t₇ := .ite h₆.beginMeasure h₆
  exact .ite (.next h) (.ite (.next h₂.checkDetector) (.next h₇.checkDetector))

theorem Keeps.execVinBelowThreshold (h : Keeps R s t) : Answers R s (execVinBelowThreshold t) :=
  .ite (.next h) (.next (.upd (.ite h.put.put.clr h.put.put)))

theorem Keeps.execVinRecovered (h : Keeps R s t) : Answers R s (execVinRecovered t) :=
  .ite (.next h) (.ite (.next h.upd.clr) (.next (.cause (.bump (.ite h.upd.clr h.upd.clr.clr)))))

theorem Keeps.execPfailNLow (h : Keeps R s t) : Answers R s (execPfailNLow t) :=
  .ite (.next h) (.next h.upd.put)

theorem Keeps.execPfailNRelease (h : Keeps R s t) : Answers R s (execPfailNRelease t) := .next h.upd.clr

theorem Keeps.failPower {cause : Nat} (h : Keeps R s t) : Keeps R s (t.failPower cause) :=
  .upd (.abandonStep (.lanesOff (h.put.put.wr.clr.clr.clr.upd.upd.stopForBind.clr.clr.forAll fun _ _ k => .ite k
    k.stopRun.setCalMode)))

theorem Keeps.execPowerFailDeclare {byVin byPfail : Bool} (h : Keeps R s t) :
    Answers R s (execPowerFailDeclare byVin byPfail t) := by
  unfold Machine.execPowerFailDeclare
  extract_lets _ _ t₁ _ _ _ t₂
  have h₁ : Keeps R s t₁ := h.advanceTo
  have h₂ : Keeps R s t₂ := h₁.failPower
  exact .ite (.next h) (.ite (.next h₁.wr.clr.powerOff)
    (.ite (.next h₁.upd.wr.clr.powerOff) (.ite (.next h₂) (.ite (.next h₂.powerOff) (.next h₂.upd)))))

theorem Keeps.afterBindPowered {safe : Bool} (h : Keeps R s t) : Keeps R s (t.afterBindPowered safe) :=
  .ite h.storeTb.upd h.storeTb

theorem Keeps.beginBind {kind : Nat} {safe : Bool} (h : Keeps R s t) : Keeps R s (t.beginBind kind safe) :=
  h.advance.takeBsn.pump.upd

theorem Keeps.bindSkipped {safe : Bool} (h : Keeps R s t) : Keeps R s (t.bindSkipped safe) :=
  .ite h.upd.clr.upd h.upd

theorem Keeps.execBindStart (h : Keeps R s t) : Answers R s (execBindStart t) := by
  unfold Machine.execBindStart
  extract_lets t₁
  have h₁ : Keeps R s t₁ := h.stopForBind.blowFuse
  split
  · exact .next h
  · split
    · exact .next h
    · exact .ite (.next (.ite h₁.bindSkipped.upd h₁.bindSkipped.afterBindPowered)) (.next h₁.beginBind)

theorem Keeps.bindDone {c : Commit} {p0 p1 : Bool} (h : Keeps R s t) : Keeps R s (t.bindDone c p0 p1) :=
  .ite h.commit.upd.put.clr.cause.upd h.commit.upd

theorem Keeps.unbound {c : Commit} (h : Keeps R s t) : Keeps R s (t.unbound c) :=
  .ite h.upd.err.put.clr.cause.err.upd.setPersist.fixLevel.err h.upd.err

theorem Keeps.execBankEndVoltage (h : Keeps R s t) : Answers R s (execBankEndVoltage t) :=
  .ite (.next h) (.next h.upd.powerOff)

/-! ### Machine/Gauge -/

theorem Keeps.execGaugeWindowStart (h : Keeps R s t) : Answers R s (execGaugeWindowStart t) :=
  .ite (.next h) (.next h.advance.endWindow)

theorem Keeps.resetPair {p : Nat} (h : Keeps R s t) : Keeps R s (t.resetPair p) :=
  h.wr.clr.clr.wr.wr.upd.setPair

theorem Keeps.execGaugeTableSweep {corrected uncorrectable : List (Fin 208)} (h : Keeps R s t) :
    Answers R s (execGaugeTableSweep corrected uncorrectable t) :=
  .next (.fixGauge (.forAll (h.forAll fun _ _ k => k.err) fun _ _ k => k.resetPair.err))

/-! ### Machine/Cal -/

theorem isLock_laneSetting {g l w : Nat} : isLock (laneSetting g l w) = false := by
  unfold laneSetting
  split <;> rfl

theorem Keeps.moveSetting {u' n : Nat} {d : Int} (h : Keeps R s t) : Keeps R s (t.moveSetting u' n d) :=
  .ite (.ite h.setCal h.wr) (h.wr isLock_laneSetting)

theorem Keeps.execCalRun {who : Accessor} {pc : PcNo} (h : Keeps R s t) : Answers R s (execCalRun who pc t) :=
  .next (h.command fun _ k => k.calEvent)

theorem Keeps.abortRun {u' : Nat} (h : Keeps R s t) : Keeps R s (t.abortRun u') :=
  .ite h (.ite h.stopRun.beginRun h.stopRun)

theorem Keeps.execCalAbort {who : Accessor} {pc : PcNo} (h : Keeps R s t) : Answers R s (execCalAbort who pc t) :=
  .next (h.command fun _ k => k.abortRun)

theorem Keeps.execPhyCalRun {who : Accessor} {group : GroupNo} (h : Keeps R s t) :
    Answers R s (execPhyCalRun who group t) :=
  .next (h.command fun _ k => k.calEvent)

theorem Keeps.execPhyCalAbort {who : Accessor} {group : GroupNo} (h : Keeps R s t) :
    Answers R s (execPhyCalAbort who group t) :=
  .next (h.command fun _ k => k.abortRun)

theorem Keeps.execCalPeriodExpiry {unit : Fin 69} (h : Keeps R s t) : Answers R s (execCalPeriodExpiry unit t) :=
  .ite (.next h) (.next h.advanceTo.calEvent)

theorem Keeps.endRun {u' : Nat} (h : Keeps R s t) : Keeps R s (t.endRun u') := by
  unfold State.endRun
  extract_lets c t₁ t₂ t₃ t₄ t₅
  have h₁ : Keeps R s t₁ := (h.bump (isLock_ite rfl rfl)).wrb (isLock_ite rfl rfl)
  have h₂ : Keeps R s t₂ := .ite h₁.wr64 h₁
  have h₃ : Keeps R s t₃ := .ite (h₂.wr (isLock_ite rfl rfl)) h₂
  have h₄ : Keeps R s t₄ := h₃.setCalMode.cause
  have h₅ : Keeps R s t₅ := .ite h₄.cause h₄
  exact .ite h₅.beginRun h₅

theorem Keeps.rejectResult {u' n : Nat} {run last : Fld} (h : Keeps R s t) (hr : isLock run = false := by rfl)
    (hl : isLock last = false := by rfl) : Keeps R s (t.rejectResult u' n run last) := by
  unfold State.rejectResult
  extract_lets t₁ k t₂ t₃ t₄
  have h₁ : Keeps R s t₁ := (h.bump (isLock_ite rfl rfl)).put hl
  have h₃ : Keeps R s t₃ := (h₁.wr hr).err
  have h₄ : Keeps R s t₄ := .ite h₃.err h₃
  exact h₄.setCal

theorem Keeps.acceptResult {u' : Nat} {run last : Fld} {steps : List (Nat × Int)} (h : Keeps R s t)
    (hr : isLock run = false := by rfl) (hl : isLock last = false := by rfl) :
    Keeps R s (t.acceptResult u' run last steps) :=
  ((h.clr hl).wr hr).setCal

theorem Keeps.judgeVia {pc : Nat} {ok : Bool} {r : CalResult} (h : Keeps R s t) : Keeps R s (t.judgeVia pc ok r) :=
  .ite h.wr.acceptResult h.rejectResult

theorem Keeps.judgeVref {pc vref : Nat} (h : Keeps R s t) : Keeps R s (t.judgeVref pc vref) :=
  .ite h.setCal h.bump.err.setCal

theorem Keeps.narrowest {pc : Nat} {rs : List CalResult} (h : Keeps R s t) : Keeps R s (t.narrowest pc rs) := by
  unfold State.narrowest
  split
  · exact h
  · exact h.wr.wr

theorem Keeps.judgePc {pc : Nat} {results : List CalResult} {vref : Nat} (h : Keeps R s t) :
    Keeps R s (t.judgePc pc results vref) :=
  .ite (.setCal (.drawn (.judgeVref (h.narrowest.forAll fun _ _ k => k.judgeVia))))
    (.judgeVref (h.narrowest.forAll fun _ _ k => k.judgeVia))

theorem Keeps.applyRun {u' : Nat} (h : Keeps R s t) : Keeps R s (t.applyRun u') := .ite h.endRun h.setCalMode

theorem Keeps.judgeLane {g : Nat} {r : CalResult} (h : Keeps R s t) : Keeps R s (t.judgeLane g r) :=
  .ite (.acceptResult (.ite h.wr.wr.err h.wr.wr)) h.rejectResult

theorem Keeps.judgeGroup {g : Nat} {results : List CalResult} (h : Keeps R s t) :
    Keeps R s (t.judgeGroup g results) := by
  unfold State.judgeGroup
  extract_lets t₁
  have h₁ : Keeps R s t₁ := by
    unfold t₁
    split
    · exact h
    · exact h.wr.wr
  exact h₁.forAll fun _ _ k => k.judgeLane

theorem Keeps.execCalCollectionComplete {unit : Fin 69} {results : List CalResult} {vref : Nat} (h : Keeps R s t) :
    Answers R s (execCalCollectionComplete unit results vref t) :=
  .ite (.next h) (.next (.applyRun (.ite h.judgePc h.judgeGroup)))

theorem Keeps.execCalProbeTimeout {pc : PcNo} (h : Keeps R s t) : Answers R s (execCalProbeTimeout pc t) :=
  .ite (.next h) (.next h.advanceTo.setCal.setCalMode)

theorem Keeps.execCalRunTimeout {pc : PcNo} {results : List CalResult} {vref : Nat} (h : Keeps R s t) :
    Answers R s (execCalRunTimeout pc results vref t) :=
  .ite (.next h) (.next (.applyRun (.judgePc (.ite h.advanceTo h.advanceTo.count.cause.err))))

theorem Keeps.execCalStep {unit : Fin 69} {index : Fin 97} (h : Keeps R s t) :
    Answers R s (execCalStep unit index t) := by
  unfold Machine.execCalStep
  split
  · exact .next h
  · extract_lets mine
    split
    · exact .next h
    · extract_lets d t₁ left _ t₂
      have h₁ : Keeps R s t₁ := h.moveSetting.bump (isLock_ite rfl rfl)
      have h₂ : Keeps R s t₂ := h₁.setCal
      exact .next (.ite h₂.endRun h₂)

/-! ### Machine/Therm -/

theorem Keeps.goFast {n : Nat} (h : Keeps R s t) : Keeps R s (t.goFast n) := .ite h h.put.setSensor

theorem Keeps.failSensor {n : Nat} (h : Keeps R s t) : Keeps R s (t.failSensor n) := by
  unfold State.failSensor
  exact h.put.clr.setSensor.cause.err

theorem Keeps.takeReading {n : Nat} {v : Int} (h : Keeps R s t) : Keeps R s (t.takeReading n v) :=
  .ite h.setSensor.wr.wr h.setSensor.wr

theorem Keeps.setLevel {l level : Nat} (h : Keeps R s t) : Keeps R s (t.setLevel l level) :=
  .ite h (.fixGauge (.setLayer (.ite (.cause (.ite h.setHeat.wr.bump.clrBit h.setHeat.wr.bump.setBit))
    (.ite h.setHeat.wr.bump.clrBit h.setHeat.wr.bump.setBit))))

theorem Keeps.keepFloor {l : Nat} (h : Keeps R s t) : Keeps R s (t.keepFloor l) := h.setLevel
theorem Keeps.keepFloors (h : Keeps R s t) : Keeps R s t.keepFloors := h.forAll fun _ _ k => k.keepFloor

theorem Keeps.setDieLevel {d level : Nat} (h : Keeps R s t) : Keeps R s (t.setDieLevel d level) :=
  .ite h.setLevel (.ite h h.setHeat.wr.keepFloors)

theorem Keeps.execThrottleRise {die : Fin 17} (h : Keeps R s t) : Answers R s (execThrottleRise die t) := by
  unfold Machine.execThrottleRise
  split
  · exact .next h
  · exact .ite (.next h) (.next h.advanceTo.setDieLevel)

theorem Keeps.execThrottleFall {die : Fin 17} (h : Keeps R s t) : Answers R s (execThrottleFall die t) := by
  unfold Machine.execThrottleFall
  split
  · exact .next h
  · exact .ite (.next h) (.next h.advanceTo.setDieLevel)

theorem Keeps.execDividerChange {layer : LayerNo} (h : Keeps R s t) : Answers R s (execDividerChange layer t) :=
  .ite (.next h) (.next h.advance.takeDivider)

theorem Keeps.rateEvent {n : Nat} (h : Keeps R s t) : Keeps R s (t.rateEvent n) :=
  .ite h (.ite (.setDieLevel (h.bump.cause.err.setHeat.forAll fun _ _ k => k.goFast))
    (h.bump.cause.err.setHeat.forAll fun _ _ k => k.goFast))

theorem Keeps.becomeSuspect {l : Nat} (h : Keeps R s t) : Keeps R s (t.becomeSuspect l) := by
  unfold State.becomeSuspect
  extract_lets _ _ t₁ t₂ t₃
  have h₁ : Keeps R s t₁ := h.setHeat
  have h₂ : Keeps R s t₂ := h₁.put.setBit
  have h₃ : Keeps R s t₃ := h₂.forAll fun _ _ k => k.put
  split
  · exact h
  · split
    · exact .keepFloors (.forAll (.ite h₃.wr.wr.bump.cause.err.err h₃.wr.wr.bump.cause.err) fun _ _ k =>
        k.shortenWindow)

theorem Keeps.crossCheck {l : Nat} {fast : Bool} (h : Keeps R s t) : Keeps R s (t.crossCheck l fast) := by
  unfold State.crossCheck
  extract_lets _ _ t₁ _ t₂
  have h₁ : Keeps R s t₁ := .ite (h.forAll fun _ _ k => k.goFast) h
  have h₂ : Keeps R s t₂ := h₁.setHeat
  exact .ite h₁.setHeat (.ite h₁ (.ite (.ite h₂.becomeSuspect h₂) h₁.setHeat))

theorem Keeps.rollCounts {l : Nat} (h : Keeps R s t) : Keeps R s (t.rollCounts l) := .ite h h.setHeat

theorem Keeps.judgeLimits {d : Nat} (h : Keeps R s t) : Keeps R s (t.judgeLimits d) :=
  .ite (.err (.cause (.ite h.setHeat.wrb h.setHeat))) (.ite h.setHeat.wrb h.setHeat)

theorem Keeps.judgePersist (h : Keeps R s t) : Keeps R s t.judgePersist :=
  .ite h.upd.cause.cause.err (.ite h.upd h)

theorem Keeps.showLayer {l : Nat} (h : Keeps R s t) : Keeps R s (t.showLayer l) :=
  .ite h.wr.wr.wr (h.wr.wr.wr.forAll fun _ _ k => k.wr)

theorem Keeps.spanLayer {l : Nat} (h : Keeps R s t) : Keeps R s (t.spanLayer l) := h.setLayer

theorem Keeps.sampleLayer {l : Nat} {fast : Bool} (h : Keeps R s t) : Keeps R s (t.sampleLayer l fast) :=
  .forAll (.judgeLimits (.shortenWindow (.spanLayer
    (.showLayer (.ite h.rollCounts.crossCheck.becomeSuspect h.rollCounts.crossCheck))))) fun _ _ k => k.calDrift

theorem Keeps.readDie {d : Nat} (h : Keeps R s t) : Keeps R s (t.readDie d) := by
  unfold State.readDie
  split
  · exact h.setHeat
  · exact h

theorem Keeps.estimateAll (h : Keeps R s t) : Keeps R s t.estimateAll := h.forAll fun _ _ k => k.setHeat
theorem Keeps.fixAlert (h : Keeps R s t) : Keeps R s t.fixAlert := .ite h h.upd.emit

theorem Keeps.judgeDies {dies : List Nat} {fast : Bool} (h : Keeps R s t) : Keeps R s (t.judgeDies dies fast) := by
  unfold State.judgeDies
  extract_lets t₁ t₂ t₃ t₄ t₅
  have h₁ : Keeps R s t₁ := .estimateAll (h.forAll fun _ _ k => k.readDie)
  have h₂ : Keeps R s t₂ := h₁.forAll fun _ _ k => .ite k.sampleLayer k.judgeLimits
  have h₃ : Keeps R s t₃ := h₂.wr.wr
  have h₄ : Keeps R s t₄ := h₃.wr.wr
  have h₅ : Keeps R s t₅ := .ite (h₄.forAll fun _ _ k => k.calDrift) h₄
  exact h₅.judgePersist.keepFloors.fixAlert

theorem Keeps.slowReading {r : SensorReading} (h : Keeps R s t) : Keeps R s (t.slowReading r) := by
  unfold State.slowReading
  extract_lets
  split
  · extract_lets t₁ _ t₂ _ t₃
    have h₁ : Keeps R s t₁ := h.takeReading.setSensor
    have h₂ : Keeps R s t₂ := h.takeReading
    have h₃ : Keeps R s t₃ := h₂.setSensor
    split
    · exact .ite h₁.clr.setSensor h₁
    · split
      · exact .ite h₃.rateEvent h₃
      · exact h₃
  · exact .ite h.setSensor h.failSensor

theorem Keeps.judgeAgreement {n : Nat} {bad : Bool} (h : Keeps R s t) : Keeps R s (t.judgeAgreement n bad) :=
  .ite h (.ite h.setSensor.failSensor h.setSensor)

theorem Keeps.bandOf {n : Nat} (h : Keeps R s t) : Keeps R s (t.bandOf n) := by
  unfold State.bandOf
  split
  · exact .ite h.goFast h
  · exact h

theorem Keeps.execSensorSlowRound {readings : List SensorReading} (h : Keeps R s t) :
    Answers R s (execSensorSlowRound readings t) := by
  unfold Machine.execSensorSlowRound
  extract_lets t₁ _ t₂ t₃ _ _ t₄ t₅
  have h₁ : Keeps R s t₁ := by
    unfold t₁
    split
    · exact h.advanceTo
    · exact h
  have h₂ : Keeps R s t₂ := h₁.upd
  have h₃ : Keeps R s t₃ := h₂.forAll fun _ _ k => k.slowReading
  have h₄ : Keeps R s t₄ := h₃.forAll fun _ _ k => k.judgeAgreement
  have h₅ : Keeps R s t₅ := h₄.forAll fun _ _ k => k.bandOf
  exact .ite (.next h) (.next h₅.judgeDies)

theorem Keeps.execSensorFastSample {reading : SensorReading} (h : Keeps R s t) :
    Answers R s (execSensorFastSample reading t) := by
  unfold Machine.execSensorFastSample
  extract_lets _ t₁
  have h₁ : Keeps R s t₁ := h.advanceTo
  split
  · exact .next h
  · split
    · exact .next (.judgeDies (.ite (.rateEvent (.ite h₁.takeReading.setSensor.clr h₁.takeReading.setSensor))
        (.ite h₁.takeReading.setSensor.clr h₁.takeReading.setSensor)))
    · exact .next h₁.failSensor.judgeDies

theorem Keeps.execBandComparatorTrip {sensor : SensorNo} (h : Keeps R s t) :
    Answers R s (execBandComparatorTrip sensor t) :=
  .next (.ite h.goFast h)

theorem Keeps.execFatalTemperature {sensor : SensorNo} (h : Keeps R s t) :
    Answers R s (execFatalTemperature sensor t) := by
  unfold Machine.execFatalTemperature
  extract_lets
  split
  · exact .next h
  · exact .ite (.next h) (.next h.advanceTo.setHeat.cause.errImmediate)

theorem Keeps.execSuspectClear {layer : LayerNo} (h : Keeps R s t) : Answers R s (execSuspectClear layer t) := by
  unfold Machine.execSuspectClear
  extract_lets
  split
  · exact .next (.shortenWindow (.showLayer (h.advanceTo.setHeat.clr.clrBit.forAll fun _ _ k => k.clr)))
  · exact .next h

theorem Keeps.execPowerSample {meanDw avgDw : Nat} (h : Keeps R s t) : Answers R s (execPowerSample meanDw avgDw t) :=
  .ite (.next h) (.next h.wr.wr)

theorem Keeps.execCapAdjust (h : Keeps R s t) : Answers R s (execCapAdjust t) :=
  .ite (.next h) (.next (.fixGauge (.ite h.wr.wrb.cause.err (.ite h.wr.wrb.cause h.wr.wrb))))

/-! ### Machine/Dove -/

theorem Keeps.resend {ack : BitVec 24} (h : Keeps R s t) : Keeps R s (t.resend ack) :=
  .ite h (h.upd.ackFlits.forAll fun _ _ k => k.emit)

theorem Keeps.badFlit {f : FlitRead} (h : Keeps R s t) : Keeps R s (t.badFlit f) :=
  .ite h.upd.bump.cause.err (.ite h.bump h.bump)

theorem Keeps.dataFlit {f : FlitRead} (h : Keeps R s t) : Keeps R s (t.dataFlit f) :=
  .ite h.upd.onMessages (.ite h h.askReplay)

theorem Keeps.execDoveFlitReceive {flit : DoveFlit} (h : Keeps R s t) : Answers R s (execDoveFlitReceive flit t) := by
  unfold Machine.execDoveFlitReceive
  extract_lets _ t₁ _ t₂
  have h₁ : Keeps R s t₁ := .ite h.bump.bump h
  have h₂ : Keeps R s t₂ := h₁.upd.ackFlits
  split
  · exact .next h
  · split
    · exact .next h₁.badFlit.askReplay
    · split
      · exact .next h₂.dataFlit
      · exact .next h₂.resend
      · exact .next h₂

theorem Keeps.execDoveReplayRequest {ack : BitVec 24} (h : Keeps R s t) : Answers R s (execDoveReplayRequest ack t) :=
  .next h.resend

theorem Keeps.execHeartbeatTimer (h : Keeps R s t) : Answers R s (execHeartbeatTimer t) :=
  .ite (.next h) (.next (.startResync (.sendQueue
    (.applyList (.sendHello (.sendDove (.upd (.ite h.advanceTo.bump h.advanceTo))))))))

theorem Keeps.execPartnerLost (h : Keeps R s t) : Answers R s (execPartnerLost t) :=
  .ite (.next h) (.next h.advanceTo.loseDove)

theorem Keeps.execMackTimer (h : Keeps R s t) : Answers R s (execMackTimer t) :=
  .ite (.next h.applyList.upd.sendDove) (.next h.applyList)

theorem Keeps.execAutoPromoteExpiry (h : Keeps R s t) : Answers R s (execAutoPromoteExpiry t) := by
  unfold Machine.execAutoPromoteExpiry
  split
  · exact .next h
  · exact .ite (.next h) (.next (h.advanceTo.upd.forAll fun _ _ k => .ite k.promote k))

theorem Keeps.execPad (h : Keeps R s t) : Answers R s (execPad t) := .next h.onMessage

theorem Keeps.execHello {prot : Bool} {h' : Hello} (h : Keeps R s t) : Answers R s (execHello prot h' t) :=
  .next h.onMessage

theorem Keeps.execHeartbeat {b : Beat} (h : Keeps R s t) : Answers R s (execHeartbeat b t) := .next h.onMessage

theorem Keeps.execSpdm {established failed : Bool} (h : Keeps R s t) : Answers R s (execSpdm established failed t) :=
  .next h.onMessage

theorem Keeps.execMwrite {w : Mwrite} (h : Keeps R s t) : Answers R s (execMwrite w t) := .next h.onMessage

theorem Keeps.execMack {osn stroke : Nat} (h : Keeps R s t) : Answers R s (execMack osn stroke t) :=
  .next h.onMessage

theorem Keeps.execRreq {ident : Nat} {loc : Loc} (h : Keeps R s t) : Answers R s (execRreq ident loc t) :=
  .next h.onMessage

theorem Keeps.execRrsp {ident : Nat} {loc : Loc} {line : FormLine} (h : Keeps R s t) :
    Answers R s (execRrsp ident loc line t) :=
  .next h.onMessage

theorem Keeps.execRdata {stroke : Nat} {loc : Loc} {first second : FormLine} (h : Keeps R s t) :
    Answers R s (execRdata stroke loc first second t) :=
  .next h.onMessage

theorem Keeps.execMark {pull : Bool} {quires : List QuireNo} (h : Keeps R s t) :
    Answers R s (execMark pull quires t) :=
  .next h.onMessage

theorem Keeps.execBitmap {pull : Bool} {first : QuireNo} {bits : BitVec 1024} (h : Keeps R s t) :
    Answers R s (execBitmap pull first bits t) :=
  .next h.onMessage

theorem Keeps.execConfig {range : RangeNo} {op reason base stop : Nat} (h : Keeps R s t) :
    Answers R s (execConfig range op reason base stop t) :=
  .next h.onMessage

theorem Keeps.execRole {range : RangeNo} {promoted : Bool} (h : Keeps R s t) :
    Answers R s (execRole range promoted t) :=
  .next h.onMessage

theorem Keeps.execBye {reason : Nat} (h : Keeps R s t) : Answers R s (execBye reason t) := .next h.onMessage
theorem Keeps.execDoveQueueRoom (h : Keeps R s t) : Answers R s (execDoveQueueRoom t) := .next h.releaseQueue

theorem Keeps.pushPiece {num lo : Nat} (h : Keeps R s t) : Keeps R s (t.pushPiece num lo) :=
  h.settle.forAll fun _ _ k => k.engineRead.engineRead.sendDove

theorem Keeps.pullPiece {lo : Nat} (h : Keeps R s t) : Keeps R s (t.pullPiece lo) :=
  h.forAll fun _ _ k => k.upd.sendDove

theorem Keeps.execResyncStroke (h : Keeps R s t) : Answers R s (execResyncStroke t) := by
  unfold Machine.execResyncStroke
  split
  · exact .next h
  · split
    · exact .next h
    · exact .ite (.next h) (.ite (.next h.wr) (.ite (.next h.engineWaits)
        (.ite (.next h.recall) (.next (.ite h.wr.chargeEng.setEng.upd.pullPiece
        h.wr.chargeEng.setEng.upd.pushPiece)))))

theorem Keeps.execDoveCmdJoin {who : Accessor} (h : Keeps R s t) : Answers R s (execDoveCmdJoin who t) :=
  .next (h.command fun _ k => .ite k.doveTrain k.upd.sendHello)

theorem Keeps.execDoveCmdLeave {who : Accessor} (h : Keeps R s t) : Answers R s (execDoveCmdLeave who t) :=
  .next (h.command fun _ k => .ite k.sendDove.splitPair.wr k.sendDove)

theorem Keeps.execDoveCmdConfig {who : Accessor} {range : RangeNo} (h : Keeps R s t) :
    Answers R s (execDoveCmdConfig who range t) :=
  .next (h.command fun _ k => .ite k.put.refuseDove
    (.ite k.put.setRangeState.reserveArea.offer k.put.setRangeState.reserveArea))

theorem Keeps.execDoveCmdUnconfig {who : Accessor} {range : RangeNo} (h : Keeps R s t) :
    Answers R s (execDoveCmdUnconfig who range t) :=
  .next (h.command fun _ k => .ite k k.upd.finishWithdraw)

theorem Keeps.execDoveCmdPromote {who : Accessor} {range : RangeNo} {all : Bool} (h : Keeps R s t) :
    Answers R s (execDoveCmdPromote who range all t) :=
  .next (h.command fun _ k => .ite (k.forAll fun _ _ l => .ite l.promote l) (.ite k.promote k.put.cause))

theorem Keeps.demoteRange {n : Nat} (h : Keeps R s t) : Keeps R s (t.demoteRange n) := .ite h h.upd.clr.sendRole

theorem Keeps.execDoveCmdDemote {who : Accessor} {range : RangeNo} {all : Bool} (h : Keeps R s t) :
    Answers R s (execDoveCmdDemote who range all t) :=
  .next (h.command fun _ k => .ite (k.forAll fun _ _ l => l.demoteRange) k.demoteRange)

theorem Keeps.execDoveCmdAccept {who : Accessor} (h : Keeps R s t) : Answers R s (execDoveCmdAccept who t) :=
  .next (h.command fun _ k => .ite k (.judgeHello (k.clr.upd.forAll fun _ _ l => .ite l.promote l)))

theorem Keeps.execDoveFreqOffset {ppm : Int} (h : Keeps R s t) : Answers R s (execDoveFreqOffset ppm t) :=
  .ite (.next h.wr.advance.doveDown.setPort.err) (.next h.wr)

/-! ### Machine/Ports -/

theorem Keeps.doveReset {cause : Nat} (h : Keeps R s t) : Keeps R s (t.doveReset cause) :=
  .ite h.doveLanesDown.upd h.doveLanesDown.train

theorem Keeps.takeReset {p cause : Nat} {partFlit : Bool} (h : Keeps R s t) :
    Keeps R s (t.takeReset p cause partFlit) :=
  .train (.portReset (.ite h.clr h))

theorem Keeps.execPortReset {group : GroupNo} {cause : Fin 5} {partFlit : Bool} (h : Keeps R s t) :
    Answers R s (execPortReset group cause partFlit t) :=
  .ite (.next h) (.ite (.next h.doveReset) (.ite (.next (.ite h.setPort h)) (.ite (.next h) (.next h.takeReset))))

theorem Keeps.execCxlReset {port : PortNo} {ld : LdNo} (h : Keeps R s t) : Answers R s (execCxlReset port ld t) :=
  .ite (.next h.resetLd) (.next h)

theorem Keeps.execFunctionLevelReset {port : PortNo} {ld : LdNo} (h : Keeps R s t) :
    Answers R s (execFunctionLevelReset port ld t) :=
  .ite (.next h) (.next h.setLd.setPort)

theorem Keeps.execPerstRelease {group : GroupNo} (h : Keeps R s t) : Answers R s (execPerstRelease group t) :=
  .ite (.next h.upd.train) (.next h.setPort.train)

theorem Keeps.execHdmDecoderCommit {port : PortNo} {ld : LdNo} {index : LdNo × Bool} {dec : Decoder} (h : Keeps R s t)
    : Answers R s (execHdmDecoderCommit port ld index dec t) :=
  .ite (.next h) (.ite (.next h) (.ite (.next h.setLd.fixPort) (.next h.setLd.fixPort)))

theorem Keeps.endSnoop {p : Nat} {i : BackInv} {keep : Bool} (h : Keeps R s t) : Keeps R s (t.endSnoop p i keep) :=
  h.setPort.longest

theorem Keeps.resumeSnooped (h : Keeps R s t) : Keeps R s t.resumeSnooped := h.releaseStalled.applyList

theorem Keeps.execBiResponse {port : PortNo} {loc : Loc} {modified : Option LineData} (h : Keeps R s t) :
    Answers R s (execBiResponse port loc modified t) := by
  unfold Machine.execBiResponse
  extract_lets
  split
  · exact .next h
  · extract_lets t₁
    have h₁ : Keeps R s t₁ := h.endSnoop
    split
    · extract_lets
      split
      · exact .next h
      · split
        · exact .next h₁.refuseKey.resumeSnooped
        · exact .ite (.next h₁.bump.refuse.resumeSnooped) (.next h₁.completeWrite.perform.resumeSnooped)
    · exact .next h₁.resumeSnooped

theorem Keeps.execBiTimeout {port : PortNo} {loc : Loc} (h : Keeps R s t) :
    Answers R s (execBiTimeout port loc t) := by
  unfold Machine.execBiTimeout
  extract_lets
  split
  · exact .next h
  · exact .next (.resumeSnooped (h.advanceTo.endSnoop.bump.cause.log.forAll fun _ _ k => k.enterLog))

theorem Keeps.fixIde {p : Nat} (h : Keeps R s t) : Keeps R s (t.fixIde p) := h.wrb.wr.wrb.fixPort

theorem Keeps.execIdeKm {port : PortNo} {stream : Fin 4} {op : Fin 4} {keySet : Bool} {skid : Bool} (h : Keeps R s t)
    : Answers R s (execIdeKm port stream op keySet skid t) := by
  unfold Machine.execIdeKm
  extract_lets _ _ _ _ t₁ t₂ t₃ t₄ t₅
  have h₁ : Keeps R s t₁ := h.setPort
  have h₂ : Keeps R s t₂ := .ite h₁.wrb.wrb.clr h₁
  have h₃ : Keeps R s t₃ := h.setPort
  have h₄ : Keeps R s t₄ := h.setPort
  have h₅ : Keeps R s t₅ := .ite h₄.clr.clr h₄
  split
  · exact .next h
  · split
    · exact .next (.ite h h.setPort)
    · exact .ite (.next h) (.next h₂.fixIde)
    · exact .ite (.next h) (.next (.ite h₃.wrb h₃))
    · exact .next h₅.fixIde

theorem Keeps.execIdeCheckFail {port : PortNo} (h : Keeps R s t) : Answers R s (execIdeCheckFail port t) :=
  .ite (.next h) (.next (.err (.ite h.bump.cause.setPort.put.fixIde h.bump.cause)))

theorem Keeps.execConfigSpaceWrite {port : PortNo} {ld : LdNo} {l0s l1 l11 l12 tsp : Bool} (h : Keeps R s t) :
    Answers R s (execConfigSpaceWrite port ld l0s l1 l11 l12 tsp t) :=
  .ite (.next h) (.next h.setLd.fixPort)

theorem Keeps.execAerSend {port : PortNo} (h : Keeps R s t) : Answers R s (execAerSend port t) := by
  unfold Machine.execAerSend
  split
  · exact .next h
  · extract_lets _ t₁ _ t₂
    have h₁ : Keeps R s t₁ := by
      unfold t₁
      split
      · exact h.advanceTo
      · exact h
    have h₂ : Keeps R s t₂ := h₁.setPort
    exact .ite (.next h) (.next h₂.setLd.send)

/-! ### Machine/Mailbox -/

theorem Keeps.served {p l : Nat} {dead : Bool} {f : State → Answer} (h : Keeps R s t)
    (hf : ∀ u, Keeps R s u → Keeps R s (f u).2.2) : Keeps R s (t.served p l dead f) := by
  unfold State.served
  refine .emit ?_
  split
  · exact h
  · exact hf _ h

theorem Keeps.mailbox {c : Instr} {p l : Nat} {dead : Bool} {f : State → Answer} (h : Keeps R s t)
    (hf : ∀ u, Keeps R s u → Keeps R s (f u).2.2) : Answers R s (t.mailbox c p l dead f) :=
  .next (.ite h (.ite h.upd (h.served fun _ k => hf _ k)))

theorem Keeps.adminOnly {p l opcode : Nat} {f : State → Answer} (h : Keeps R s t)
    (hf : ∀ u, Keeps R s u → Keeps R s (f u).2.2) : Keeps R s (t.adminOnly p l opcode f).2.2 := by
  unfold State.adminOnly
  split
  · exact hf _ h
  · exact .thd h.denied

theorem Keeps.ownOnly {p l opcode dpa len : Nat} {f : State → Answer} (h : Keeps R s t)
    (hf : ∀ u, Keeps R s u → Keeps R s (f u).2.2) : Keeps R s (t.ownOnly p l opcode dpa len f).2.2 := by
  unfold State.ownOnly
  split
  · exact hf _ h
  · exact .thd h.denied

theorem Keeps.bgStart {kind p l first lines : Nat} (h : Keeps R s t) : Keeps R s (t.bgStart kind p l first lines) :=
  h.upd

theorem Keeps.mbGetEvents {p l n : Nat} (h : Keeps R s t) : Keeps R s (t.mbGetEvents p l n).2.2 := by
  unfold State.mbGetEvents
  exact .thd h

theorem Keeps.execGetEventRecords {port : PortNo} {ld : LdNo} {log : LogName} (h : Keeps R s t) :
    Answers R s (execGetEventRecords port ld log t) :=
  h.mailbox fun _ k => k.mbGetEvents

theorem Keeps.mbClearEvents {p l n : Nat} {all : Bool} {handles : List Nat} (h : Keeps R s t) :
    Keeps R s (t.mbClearEvents p l n all handles).2.2 := by
  unfold State.mbClearEvents
  extract_lets
  split
  · exact .thd h.setLd
  · split
    · exact .thd h.setLd
    · exact .thd h

theorem Keeps.execClearEventRecords {port : PortNo} {ld : LdNo} {log : LogName} {all : Bool} {handles : List Nat}
    (h : Keeps R s t) : Answers R s (execClearEventRecords port ld log all handles t) :=
  h.mailbox fun _ k => k.mbClearEvents

theorem Keeps.mbGetPolicy {p l : Nat} (h : Keeps R s t) : Keeps R s (t.mbGetPolicy p l).2.2 := by
  unfold State.mbGetPolicy
  exact .thd h

theorem Keeps.execGetEventInterruptPolicy {port : PortNo} {ld : LdNo} (h : Keeps R s t) :
    Answers R s (execGetEventInterruptPolicy port ld t) :=
  h.mailbox fun _ k => k.mbGetPolicy

theorem Keeps.mbSetPolicy {p l info warn fail fatal : Nat} (h : Keeps R s t) :
    Keeps R s (t.mbSetPolicy p l info warn fail fatal).2.2 := by
  unfold State.mbSetPolicy
  exact .thd h.setLd

theorem Keeps.execSetEventInterruptPolicy {port : PortNo} {ld : LdNo} {info warn fail fatal : Fin 3} (h : Keeps R s t)
    : Answers R s (execSetEventInterruptPolicy port ld info warn fail fatal t) :=
  h.mailbox fun _ k => k.mbSetPolicy

theorem Keeps.setFwSlot {n : Nat} {v : FwSlot} (h : Keeps R s t) : Keeps R s (t.setFwSlot n v) := h.upd
theorem Keeps.fixFw (h : Keeps R s t) : Keeps R s t.fixFw := h.wr.wr.wr

theorem Keeps.fwArrived {version secver : Nat} {sigOk : Bool} (h : Keeps R s t) :
    Keeps R s (t.fwArrived version secver sigOk) :=
  h.setFwSlot.put

theorem Keeps.resetMgmt (h : Keeps R s t) : Keeps R s t.resetMgmt := h.clr.upd
theorem Keeps.activateImage (h : Keeps R s t) : Keeps R s t.activateImage := h.wr.clr.fixFw.resetMgmt.cause.upd

theorem Keeps.mbFwInfo (h : Keeps R s t) : Keeps R s t.mbFwInfo.2.2 := by
  unfold State.mbFwInfo
  exact .thd h

theorem Keeps.execGetFwInfo {port : PortNo} {ld : LdNo} (h : Keeps R s t) : Answers R s (execGetFwInfo port ld t) :=
  h.mailbox fun _ k => k.mbFwInfo

theorem Keeps.mbTransferFw {p l action offset version secver : Nat} {sigOk : Bool} (h : Keeps R s t) :
    Keeps R s (t.mbTransferFw p l action offset version secver sigOk).2.2 := by
  unfold State.mbTransferFw
  extract_lets
  refine .adminOnly h (fun u k => ?_)
  extract_lets
  split
  · exact .thd k
  · split
    · exact .thd k.setLd.fwArrived
    · split
      · exact .thd k.setLd
      · exact .thd k
    · split
      · split
        · exact .thd k.setLd
        · exact .thd k
      · exact .thd k
    · split
      · split
        · exact .thd k.setLd.fwArrived
        · exact .thd k
      · exact .thd k
    · exact .thd k.setLd

theorem Keeps.execTransferFw {port : PortNo} {ld : LdNo} {action : Fin 5} {offset : Nat} {version secver : Nat}
    {sigOk : Bool} (h : Keeps R s t) : Answers R s (execTransferFw port ld action offset version secver sigOk t) :=
  h.mailbox fun _ k => k.mbTransferFw

theorem Keeps.mbActivateFw {p l : Nat} (h : Keeps R s t) : Keeps R s (t.mbActivateFw p l).2.2 := by
  unfold State.mbActivateFw
  refine .adminOnly h (fun u k => ?_)
  split
  · exact .thd k.activateImage
  · exact .thd k

theorem Keeps.execActivateFw {port : PortNo} {ld : LdNo} (h : Keeps R s t) : Answers R s (execActivateFw port ld t) :=
  h.mailbox fun _ k => k.mbActivateFw

theorem Keeps.execFwFallback (h : Keeps R s t) : Answers R s (execFwFallback t) := by
  unfold Machine.execFwFallback
  split
  · exact .next h
  · exact .next h.advanceTo.upd.wr.fixFw.put.cause.err.resetMgmt

theorem Keeps.mbGetTime (h : Keeps R s t) : Keeps R s t.mbGetTime.2.2 := by
  unfold State.mbGetTime
  exact .thd h

theorem Keeps.execGetTimestamp {port : PortNo} {ld : LdNo} (h : Keeps R s t) :
    Answers R s (execGetTimestamp port ld t) :=
  h.mailbox fun _ k => k.mbGetTime

theorem Keeps.setTb {ns : Nat} (h : Keeps R s t) : Keeps R s (t.setTb ns) := by
  unfold State.setTb
  exact .endWindow (.ite h.upd.put.bump.cause.put.cause.err h.upd.put.bump.cause)

theorem Keeps.mbSetTime {p l ns : Nat} (h : Keeps R s t) : Keeps R s (t.mbSetTime p l ns).2.2 := by
  unfold State.mbSetTime
  split
  · exact .thd h.setTb
  · exact .thd h.bump

theorem Keeps.execSetTimestamp {port : PortNo} {ld : LdNo} {ns : BitVec 64} (h : Keeps R s t) :
    Answers R s (execSetTimestamp port ld ns t) :=
  h.mailbox fun _ k => k.mbSetTime

theorem Keeps.execGetSupportedLogs {port : PortNo} {ld : LdNo} (h : Keeps R s t) :
    Answers R s (execGetSupportedLogs port ld t) :=
  h.mailbox fun _ k => .thd k

theorem Keeps.execGetLog {port : PortNo} {ld : LdNo} {vendor : Bool} (h : Keeps R s t) :
    Answers R s (execGetLog port ld vendor t) := by
  refine h.mailbox fun u k => ?_
  split
  · exact .thd k.drawn
  · exact .thd k

theorem Keeps.execGetSupportedFeatures {port : PortNo} {ld : LdNo} (h : Keeps R s t) :
    Answers R s (execGetSupportedFeatures port ld t) :=
  h.mailbox fun _ k => .thd k

theorem Keeps.mbMaintain {p l cls dpa : Nat} (h : Keeps R s t) : Keeps R s (t.mbMaintain p l cls dpa).2.2 := by
  unfold State.mbMaintain
  extract_lets
  refine .adminOnly h (fun u k => ?_)
  extract_lets t₁ _ t₂
  have h₁ : Keeps R s t₁ := k.wr.wr
  have h₂ : Keeps R s t₂ := h₁.requestRepair
  split
  · exact .thd k
  · exact .thd (.ite h₂.bgStart h₂)

theorem Keeps.execPerformMaintenance {port : PortNo} {ld : LdNo} {cls : Fin 4} {dpa : BitVec 44} (h : Keeps R s t) :
    Answers R s (execPerformMaintenance port ld cls dpa t) :=
  h.mailbox fun _ k => k.mbMaintain

theorem Keeps.mbIdentify (h : Keeps R s t) : Keeps R s t.mbIdentify.2.2 := by
  unfold State.mbIdentify
  exact .thd (.ite h.drawn h)

theorem Keeps.execIdentifyMemoryDevice {port : PortNo} {ld : LdNo} (h : Keeps R s t) :
    Answers R s (execIdentifyMemoryDevice port ld t) :=
  h.mailbox fun _ k => k.mbIdentify

theorem Keeps.execGetPartitionInfo {port : PortNo} {ld : LdNo} (h : Keeps R s t) :
    Answers R s (execGetPartitionInfo port ld t) :=
  h.mailbox fun _ k => .thd k

theorem Keeps.mbHealth (h : Keeps R s t) : Keeps R s t.mbHealth.2.2 := by
  unfold State.mbHealth
  exact .thd h.drawn

theorem Keeps.execGetHealthInfo {port : PortNo} {ld : LdNo} (h : Keeps R s t) :
    Answers R s (execGetHealthInfo port ld t) :=
  h.mailbox fun _ k => k.mbHealth

theorem Keeps.mbGetAlert {p l : Nat} (h : Keeps R s t) : Keeps R s (t.mbGetAlert p l).2.2 := by
  unfold State.mbGetAlert
  exact .thd h

theorem Keeps.execGetAlertConfig {port : PortNo} {ld : LdNo} (h : Keeps R s t) :
    Answers R s (execGetAlertConfig port ld t) :=
  h.mailbox fun _ k => k.mbGetAlert

theorem Keeps.mbSetAlert {p l life temp : Nat} (h : Keeps R s t) : Keeps R s (t.mbSetAlert p l life temp).2.2 := by
  unfold State.mbSetAlert
  exact h.adminOnly fun _ k => .thd k.setLd

theorem Keeps.execSetAlertConfig {port : PortNo} {ld : LdNo} {life temp : Nat} (h : Keeps R s t) :
    Answers R s (execSetAlertConfig port ld life temp t) :=
  h.mailbox fun _ k => k.mbSetAlert

theorem Keeps.execGetShutdownState {port : PortNo} {ld : LdNo} (h : Keeps R s t) :
    Answers R s (execGetShutdownState port ld t) :=
  h.mailbox fun _ k => .thd k

theorem Keeps.mbSetShutdown {p l : Nat} {clean : Bool} (h : Keeps R s t) :
    Keeps R s (t.mbSetShutdown p l clean).2.2 := by
  unfold State.mbSetShutdown
  exact h.adminOnly fun _ k => .thd k.upd

theorem Keeps.execSetShutdownState {port : PortNo} {ld : LdNo} {clean : Bool} (h : Keeps R s t) :
    Answers R s (execSetShutdownState port ld clean t) :=
  h.mailbox fun _ k => k.mbSetShutdown

theorem Keeps.mbGetPoison {p l dpa len : Nat} (h : Keeps R s t) : Keeps R s (t.mbGetPoison p l dpa len).2.2 := by
  unfold State.mbGetPoison
  exact h.ownOnly fun _ k => .thd k

theorem Keeps.execGetPoisonList {port : PortNo} {ld : LdNo} {dpa : BitVec 44} {len : Nat} (h : Keeps R s t) :
    Answers R s (execGetPoisonList port ld dpa len t) :=
  h.mailbox fun _ k => k.mbGetPoison

theorem Keeps.touchLine {loc master : Nat} (h : Keeps R s t) : Keeps R s (t.touchLine loc master) :=
  h.ensure.settleLine.engineRow.callBack.markDirty.chargeEng

theorem Keeps.mbInject {p l dpa : Nat} (h : Keeps R s t) : Keeps R s (t.mbInject p l dpa).2.2 := by
  unfold State.mbInject
  extract_lets
  refine .adminOnly h (fun u k => ?_)
  extract_lets t₁
  have h₁ : Keeps R s t₁ := k.touchLine
  split
  · exact .thd k
  · split
    · exact .thd k
    · exact .thd h₁.poisonLine

theorem Keeps.execInjectPoison {port : PortNo} {ld : LdNo} {dpa : BitVec 44} (h : Keeps R s t) :
    Answers R s (execInjectPoison port ld dpa t) :=
  .ite (.next h.holdEngine) (.next (h.coherent (.after (h.mailbox fun _ k => k.mbInject))))

theorem Keeps.mbClearPoison {p l dpa : Nat} {data : LineData} (h : Keeps R s t) :
    Keeps R s (t.mbClearPoison p l dpa data).2.2 := by
  unfold State.mbClearPoison
  extract_lets
  refine .ownOnly h (fun u k => ?_)
  extract_lets t₁
  have h₁ : Keeps R s t₁ := k.touchLine.clearSpan
  split
  · exact .thd k
  · exact .thd (.ite h₁.setPush h₁)

theorem Keeps.execClearPoison {port : PortNo} {ld : LdNo} {dpa : BitVec 44} {data : LineData} (h : Keeps R s t) :
    Answers R s (execClearPoison port ld dpa data t) :=
  .ite (.next h.holdEngine) (.next (h.coherent (.after (h.mailbox fun _ k => k.mbClearPoison))))

theorem Keeps.mbScanCaps {p l dpa len : Nat} (h : Keeps R s t) : Keeps R s (t.mbScanCaps p l dpa len).2.2 := by
  unfold State.mbScanCaps
  exact h.ownOnly fun _ k => .thd k

theorem Keeps.execGetScanMediaCapabilities {port : PortNo} {ld : LdNo} {dpa : BitVec 44} {len : Nat} (h : Keeps R s t)
    : Answers R s (execGetScanMediaCapabilities port ld dpa len t) :=
  h.mailbox fun _ k => k.mbScanCaps

theorem Keeps.mbScan {p l dpa len : Nat} (h : Keeps R s t) : Keeps R s (t.mbScan p l dpa len).2.2 := by
  unfold State.mbScan
  refine .ownOnly h (fun u k => ?_)
  split
  · exact .thd k
  · exact .thd k.bgStart

theorem Keeps.execScanMedia {port : PortNo} {ld : LdNo} {dpa : BitVec 44} {len : Nat} (h : Keeps R s t) :
    Answers R s (execScanMedia port ld dpa len t) :=
  h.mailbox fun _ k => k.mbScan

theorem Keeps.mbScanResults (h : Keeps R s t) : Keeps R s t.mbScanResults.2.2 := by
  unfold State.mbScanResults
  exact .thd h.upd

theorem Keeps.execGetScanMediaResults {port : PortNo} {ld : LdNo} (h : Keeps R s t) :
    Answers R s (execGetScanMediaResults port ld t) :=
  h.mailbox fun _ k => k.mbScanResults

theorem Keeps.mediaErase (h : Keeps R s t) : Keeps R s t.mediaErase :=
  .startKerf (.ite h.drawn.upd.appendSys.commitVoid h)

theorem Keeps.cryptoErase (h : Keeps R s t) : Keeps R s t.cryptoErase := h.upd.cause.mediaErase

theorem Keeps.mbSanitize {p l : Nat} (h : Keeps R s t) : Keeps R s (t.mbSanitize p l).2.2 := by
  unfold State.mbSanitize
  refine .adminOnly h (fun u k => ?_)
  extract_lets t₁
  have h₁ : Keeps R s t₁ := k.cryptoErase.bgStart
  split
  · exact .thd k
  · exact .thd h₁.upd

theorem Keeps.execSanitize {port : PortNo} {ld : LdNo} (h : Keeps R s t) : Answers R s (execSanitize port ld t) :=
  h.mailbox fun _ k => k.mbSanitize

theorem Keeps.mbSecureErase {p l : Nat} (h : Keeps R s t) : Keeps R s (t.mbSecureErase p l).2.2 := by
  unfold State.mbSecureErase
  refine .adminOnly h (fun u k => ?_)
  split
  · exact .thd k
  · exact .thd k.cryptoErase

theorem Keeps.execSecureErase {port : PortNo} {ld : LdNo} (h : Keeps R s t) :
    Answers R s (execSecureErase port ld t) :=
  h.mailbox fun _ k => k.mbSecureErase

theorem Keeps.mbMediaOps {p l op dpa len : Nat} (h : Keeps R s t) : Keeps R s (t.mbMediaOps p l op dpa len).2.2 := by
  unfold State.mbMediaOps
  extract_lets
  split
  · exact .thd h
  · refine .ownOnly h (fun u k => ?_)
    extract_lets _ t₁
    have h₁ : Keeps R s t₁ := k.forAll fun _ _ k => .ite k.setPush k
    split
    · exact .thd k
    · split
      · exact .thd k
      · exact .thd h₁.startKerf.bgStart
  · exact .thd h

theorem Keeps.execMediaOperations {port : PortNo} {ld : LdNo} {op : Fin 3} {dpa : BitVec 44} {len : Nat}
    (h : Keeps R s t) : Answers R s (execMediaOperations port ld op dpa len t) :=
  h.mailbox fun _ k => k.mbMediaOps

theorem Keeps.scanOne {loc : Nat} {errs : List (Nat × Nat)} (h : Keeps R s t) : Keeps R s (t.scanOne loc errs) :=
  .ite h.engineRead.upd h.engineRead

theorem Keeps.runScan {o : Background} {errs : List (Nat × List SymErr)} (h : Keeps R s t) :
    Keeps R s (t.runScan o errs) := by
  unfold State.runScan
  extract_lets _ t₁ _ t₂ _ _ t₃ t₄
  have h₁ : Keeps R s t₁ := h.forAll fun _ _ k => k.ensure
  have h₂ : Keeps R s t₂ := h₁.upd.forAll fun _ _ k => .ite k.wakeForEngine k
  have h₃ : Keeps R s t₃ := h₂.forAll fun _ _ k => k.scanOne
  have h₄ : Keeps R s t₄ := h₃.chargeEng
  exact .ite h₄.upd h₄

theorem Keeps.execBackgroundOpComplete {kind : Fin 5} {errs : List (Nat × List SymErr)} (h : Keeps R s t) :
    Answers R s (execBackgroundOpComplete kind errs t) := by
  unfold Machine.execBackgroundOpComplete
  extract_lets
  split
  · exact .next h
  · extract_lets t₁ _ t₂
    have h₁ : Keeps R s t₁ := h.upd
    have h₂ : Keeps R s t₂ := by
      unfold t₂
      split
      · exact h₁.upd
      · exact h₁.runScan
      · exact h₁
    exact .ite (.next h) (.next h₂.upd)

theorem Keeps.mbLocationMap {p l : Nat} (h : Keeps R s t) : Keeps R s (t.mbLocationMap p l).2.2 := by
  unfold State.mbLocationMap
  exact .thd h

theorem Keeps.execGetLocationMap {port : PortNo} {ld : LdNo} (h : Keeps R s t) :
    Answers R s (execGetLocationMap port ld t) :=
  h.mailbox fun _ k => k.mbLocationMap

theorem Keeps.mbCheckpoint {p l : Nat} {limited : Bool} (h : Keeps R s t) :
    Keeps R s (t.mbCheckpoint p l limited).2.2 := by
  unfold State.mbCheckpoint
  split
  · exact .thd h
  · split
    · exact .thd h
    · exact .thd h.orderCkpt.bgStart

theorem Keeps.execOrderCheckpoint {port : PortNo} {ld : LdNo} {limited : Bool} (h : Keeps R s t) :
    Answers R s (execOrderCheckpoint port ld limited t) :=
  h.mailbox fun _ k => k.mbCheckpoint

theorem Keeps.mbSetAlloc {p l tp tl range base stop : Nat} (h : Keeps R s t) :
    Keeps R s (t.mbSetAlloc p l tp tl range base stop).2.2 := by
  unfold State.mbSetAlloc
  refine .adminOnly h (fun u k => ?_)
  split
  · exact .thd k
  · exact .thd k.wr.wr

theorem Keeps.execSetLdAllocation {port : PortNo} {ld : LdNo} {toPort : PortNo} {toLd : LdNo} {range : Fin 4}
    {base stop : Nat} (h : Keeps R s t) : Answers R s (execSetLdAllocation port ld toPort toLd range base stop t) :=
  h.mailbox fun _ k => k.mbSetAlloc

theorem Keeps.fmApi {c : Instr} {p : Nat} {f : State → Answer} (h : Keeps R s t)
    (hf : ∀ u, Keeps R s u → Keeps R s (f u).2.2) : Keeps R s (t.fmApi c p f) :=
  .ite h (.ite h.upd (h.served fun _ k => hf _ k))

theorem Keeps.execGetLdAllocations {port : PortNo} (h : Keeps R s t) : Answers R s (execGetLdAllocations port t) :=
  .next (h.fmApi fun _ k => .thd k)

theorem Keeps.execSetLdAllocations {port : PortNo} (h : Keeps R s t) : Answers R s (execSetLdAllocations port t) :=
  .next (h.fmApi fun _ k => .thd k)

theorem Keeps.execMailboxUnsupported {port : PortNo} {ld : LdNo} {opcode : BitVec 16} (h : Keeps R s t) :
    Answers R s (execMailboxUnsupported port ld opcode t) :=
  h.mailbox fun _ k => .thd k

/-! ### Machine/Lanes -/

theorem Keeps.resumeLink {g : Nat} (h : Keeps R s t) : Keeps R s (t.resumeLink g) :=
  .fixCal (h.wr.clr.runDomain.setLanes.setPort.forAll fun _ _ k => k.emit)

theorem Keeps.lockLane {g n offset : Nat} (h : Keeps R s t) : Keeps R s (t.lockLane g n offset) :=
  .ite h.setLane.resumeLink h.setLane

theorem Keeps.takeSymbols {g n : Nat} {levels : List PamLevel} (h : Keeps R s t) :
    Keeps R s (t.takeSymbols g n levels) :=
  .ite h h.setLane

theorem Keeps.execLaneLock {group : GroupNo} {lane : LaneNo} {offset : Fin 130} {finding : LockFinding}
    (h : Keeps R s t) : Answers R s (execLaneLock group lane offset finding t) :=
  .ite (.next h.lockLane.takeSymbols) (.next h)

theorem Keeps.execAlignmentLoss {group : GroupNo} {lane : LaneNo} (h : Keeps R s t) :
    Answers R s (execAlignmentLoss group lane t) :=
  .ite (.next h) (.next h.setLane.wr.bump.cause.err.count.bump.cause.fixCal)

theorem Keeps.execLaneUnlockedTimeout {group : GroupNo} {lane : LaneNo} (h : Keeps R s t) :
    Answers R s (execLaneUnlockedTimeout group lane t) :=
  .ite (.next h) (.next h.advanceTo.setLane)

theorem Keeps.execTrainingRetry {group : GroupNo} (h : Keeps R s t) : Answers R s (execTrainingRetry group t) := by
  unfold Machine.execTrainingRetry
  split
  · exact .next h
  · exact .next h.advanceTo.setPort.train

theorem Keeps.equalise {g n rate : Nat} {set : Nat × Nat × Nat × Nat} (h : Keeps R s t) :
    Keeps R s (t.equalise g n rate set) :=
  h.wr.wr.wr.wr.wr.wr.wr.wr

theorem Keeps.saveLane {g n rate : Nat} {set : Nat × Nat × Nat × Nat} (h : Keeps R s t) :
    Keeps R s (t.saveLane g n rate set) :=
  h.setLane

theorem Keeps.joinLane {g n logical rate : Nat} (h : Keeps R s t) : Keeps R s (t.joinLane g n logical rate) :=
  h.setLane.wr.put.wr.wrb.wrb.wrb.equalise.saveLane

theorem Keeps.trainFailed {g : Nat} {retry : Bool} (h : Keeps R s t) : Keeps R s (t.trainFailed g retry) :=
  .setPort (.ite h.doveLanesDown (.ite h.linkDown h.portReset))

theorem Keeps.hostLinkUp {p mode : Nat} {lo : Bool} {rate : Nat} {bound : BitVec 4} {mld : Bool} (h : Keeps R s t) :
    Keeps R s (t.hostLinkUp p mode lo rate bound mld) :=
  .wakeOver (.ite (.fixPort (.wrb (.wr (h.wr.wr.wrb.forAll fun _ _ k => k.wrb))))
    (.cause (.fixPort (.wrb (.wr (h.wr.wr.wrb.forAll fun _ _ k => k.wrb))))))

theorem Keeps.doveLinkUp {mode : Nat} {x4 : Bool} (h : Keeps R s t) : Keeps R s (t.doveLinkUp mode x4) :=
  h.wr.wrb.wrb.sendHello

theorem Keeps.formLink {g mode : Nat} {lo : Bool} {bound : BitVec 4} {mld : Bool} {bad l : List Nat} (h : Keeps R s t) :
    Keeps R s (t.formLink g mode lo bound mld bad l) := by
  unfold State.formLink
  extract_lets rate x4 t₁ t₂ t₃ t₄ t₅
  have h₁ : Keeps R s t₁ := h.forAll fun _ _ k => .ite k.joinLane k.clrAll
  have h₂ : Keeps R s t₂ := h₁.forAll fun _ _ k => k.wrb
  have h₃ : Keeps R s t₃ := h₂.wrb.wr.drawn
  have h₄ : Keeps R s t₄ := .ite h₃.doveLinkUp h₃.hostLinkUp.wrb
  have h₅ : Keeps R s t₅ := h₄.resumeLink
  exact .ite h₅.err.phyCause h₅

theorem Keeps.execLinkTrained {group : GroupNo} {mode : Fin 5} {lo : Bool} {unusable : BitVec 8} {bound : BitVec 4}
    {mld : Bool} (h : Keeps R s t) : Answers R s (execLinkTrained group mode lo unusable bound mld t) := by
  unfold Machine.execLinkTrained
  extract_lets _ _ _ t₁ t₂ t₃
  have h₁ : Keeps R s t₁ := h.trainFailed
  have h₂ : Keeps R s t₂ := h.trainFailed
  have h₃ : Keeps R s t₃ := h₂.forAll fun _ _ k => k.wrb
  split
  · exact .next h
  · split
    · exact .next (.ite h₁ h₁.err)
    · split
      · exact .next h₃.err
      · exact .next h.formLink

theorem Keeps.execLaneAdaptStep {group : GroupNo} {lane : LaneNo} {ctle peaking dfe : Int} (h : Keeps R s t) :
    Answers R s (execLaneAdaptStep group lane ctle peaking dfe t) :=
  .ite (.next h) (.next h.wr.wr.wr.saveLane)

theorem Keeps.execL0sEntry {port : PortNo} (h : Keeps R s t) : Answers R s (execL0sEntry port t) :=
  .ite (.next h) (.next h.advanceTo.wr.wr.setLanes.setPort.fixCal)

theorem Keeps.execL1IdleExpiry {port : PortNo} {messageFirst : Grant} (h : Keeps R s t) :
    Answers R s (execL1IdleExpiry port messageFirst t) :=
  .ite (.next h) (.ite (.next h.advanceTo.bump.clr.busy) (.next h.advanceTo.setPort.emit))

theorem Keeps.execPmRequestAck {port : PortNo} {accepted : Bool} (h : Keeps R s t) :
    Answers R s (execPmRequestAck port accepted t) :=
  .ite (.next h) (.ite (.next h.wr.wr.bump.clr.setLanes.setPort.fixCal) (.next h.put.resumeLink))

theorem Keeps.execL1Exit {port : PortNo} {ns : Nat} (h : Keeps R s t) : Answers R s (execL1Exit port ns t) :=
  .ite (.next h) (.next (.resumeLink (.longest (.advance (.ite h.advanceTo h)))))

theorem Keeps.execL0pWidthChange {port : PortNo} {narrow : Bool} (h : Keeps R s t) :
    Answers R s (execL0pWidthChange port narrow t) :=
  .ite (.next h) (.next (h.wr.forAll fun _ _ k => .ite k.wrb k))

theorem Keeps.execL1SubstateEntry {port : PortNo} {deep : Bool} (h : Keeps R s t) :
    Answers R s (execL1SubstateEntry port deep t) :=
  .ite (.next h) (.next h.wr.setLanes)

/-! ### Machine/Spline -/

theorem Keeps.splineCorr {f : Fld} {n link : Nat} (h : Keeps R s t) (hf : isLock f = false := by rfl) :
    Keeps R s (t.splineCorr f n link) :=
  .ite h (h.count hf).cause.err

theorem Keeps.splineBad {d : SplineSend} {link : Nat} (h : Keeps R s t) : Keeps R s (t.splineBad d link) :=
  .ite h.upd.errImmediate h.upd.splineCorr

theorem Keeps.splineWord {d : SplineSend} {link : Nat} {lo hi : Nat} (h : Keeps R s t) :
    Keeps R s (t.splineWord d link lo hi) :=
  .ite h.splineCorr.splineBad h.splineCorr.upd

theorem Keeps.execSplineWordReceive {router : Fin 16} {rport : Fin 12} {receipt : SplineReceipt}
    {halves : Fin 3 × Fin 3} (h : Keeps R s t) :
    Answers R s (execSplineWordReceive router rport receipt halves t) := by
  unfold Machine.execSplineWordReceive
  split
  · exact .next h
  · refine .next ?_
    split
    · exact h.takeInjection.splineWord.splineWord
    · exact h.takeInjection.splineWord
    · exact h.takeInjection.splineWord

theorem Keeps.execSplineWatchdogExpiry {router : Fin 16} {rport : Fin 12} {cls : Fin 5} {dest : Option PcNo}
    (h : Keeps R s t) : Answers R s (execSplineWatchdogExpiry router rport cls dest t) :=
  .ite (.next h) (.next h.errImmediate)

theorem Keeps.execToggleOverrun {xing : XingNo} (h : Keeps R s t) : Answers R s (execToggleOverrun xing t) :=
  .next h.bump.errImmediate

theorem Keeps.execCrossingReset {xing : XingNo} {dropped ns : Nat} (h : Keeps R s t) :
    Answers R s (execCrossingReset xing dropped ns t) :=
  .ite (.next h) (.ite (.next h.setXing.count.setXingState)
    (.next h.setXing.count.setXingState.advance.setXingState.bump.longest.cause))

theorem Keeps.execCrossingReady {xing : XingNo} (h : Keeps R s t) : Answers R s (execCrossingReady xing t) :=
  .next (.ite h.setXingState h)

theorem Keeps.execCrossingResyncTimeout {xing : XingNo} (h : Keeps R s t) :
    Answers R s (execCrossingResyncTimeout xing t) :=
  .ite (.next h) (.ite (.next h.advanceTo.setXing.setXingState.err.stopPort)
    (.next h.advanceTo.setXing.setXingState.errImmediate))

theorem Keeps.execHopTimeOverLimit {ps : Nat} (h : Keeps R s t) : Answers R s (execHopTimeOverLimit ps t) :=
  .ite (.next h.wr.longest.cause.err) (.next h.wr.longest)

/-! ### Machine/Clocks -/

theorem Keeps.setLock {pll : Nat} {b : Bool} (h : Keeps R s t) : Keeps R s (t.setLock pll b) :=
  .forAll (.ite (.ite h.setBit h.clrBit) h.wrb) fun _ _ k => k.wrb

theorem Keeps.takeSource {dom : Nat} {toHo failover : Bool} (h : Keeps R s t) :
    Keeps R s (t.takeSource dom toHo failover) := by
  unfold State.takeSource
  extract_lets _ t₁ t₂ t₃ t₄
  have h₁ : Keeps R s t₁ := .ite (.runLfsrs (h.forAll fun _ _ k => k.forceSr)) h
  have h₂ : Keeps R s t₂ := h₁.wrb.wrb
  have h₃ : Keeps R s t₃ := h₂.wrb.clr
  have h₄ : Keeps R s t₄ := h₃.forAll fun _ _ k => .ite k.exitSr k
  exact .ite h₄.fixCalLayer.fixGauge h₃

theorem Keeps.refuseSwitch {dom reason : Nat} (h : Keeps R s t) : Keeps R s (t.refuseSwitch dom reason) := by
  unfold State.refuseSwitch
  exact h.put.wr.clr.cause.err

theorem Keeps.dropSwitches {doms : List Nat} (h : Keeps R s t) : Keeps R s (t.dropSwitches doms) :=
  h.upd.forAll fun _ _ k => .ite k k.refuseSwitch

theorem Keeps.failOver {doms : List Nat} (h : Keeps R s t) : Keeps R s (t.failOver doms) :=
  h.dropSwitches.forAll fun _ _ k => .ite k k.takeSource

theorem Keeps.clockLost {stallNs : Nat} (h : Keeps R s t) : Keeps R s (t.clockLost stallNs) := by
  unfold State.clockLost
  extract_lets _ t₁ t₂ t₃ t₄ t₅ t₆
  have h₁ : Keeps R s t₁ := h.upd
  have h₂ : Keeps R s t₂ := h₁.clr.put.put.wr
  have h₃ : Keeps R s t₃ := h₂.bump.wr64
  have h₄ : Keeps R s t₄ := h₃.cause.err
  have h₅ : Keeps R s t₅ := h₄.forAll fun _ _ k => k.setLock
  have h₆ : Keeps R s t₆ := h₅.loseRefclk
  exact .ite h₆.failOver.longest h₆.errImmediate

theorem Keeps.execClockLoss {stallNs : Nat} (h : Keeps R s t) : Answers R s (execClockLoss stallNs t) :=
  .ite (.next h) (.next h.clockLost)

theorem Keeps.execRefWindowCheck {khz : Nat} (h : Keeps R s t) : Answers R s (execRefWindowCheck khz t) :=
  .ite (.next h) (.ite (.next (.ite (h.advance.wr.forAll fun _ _ k => k.wrb)
    (.clockLost (h.advance.wr.forAll fun _ _ k => k.wrb)))) (.next (.upd (h.advance.wr.forAll fun _ _ k => k.wrb))))

theorem Keeps.refQualified (h : Keeps R s t) : Keeps R s t.refQualified :=
  .trainAll (.ite (h.put.clr.wr.drawn.cause.forAll fun _ _ k => k.put)
    (.err (h.put.clr.wr.drawn.cause.forAll fun _ _ k => k.put)))

theorem Keeps.execRefQualify (h : Keeps R s t) : Answers R s (execRefQualify t) :=
  .ite (.next h) (.next h.refQualified)

theorem Keeps.hoCalibrated {count : Nat} (h : Keeps R s t) : Keeps R s (t.hoCalibrated count) :=
  .put (.put (.wr (.upd (h.forAll fun _ _ k => k.runLfsrs))))

theorem Keeps.execHoCheck {count : Nat} (h : Keeps R s t) : Answers R s (execHoCheck count t) :=
  .ite (.next h.advance.hoCalibrated) (.ite (.next h.advance.clr.cause.err) (.next h.advance))

theorem Keeps.execAoTickTimeout (h : Keeps R s t) : Answers R s (execAoTickTimeout t) :=
  .ite (.next h) (.next h.advance.clr.cause.err)

theorem Keeps.execPllLockLost {pll : Fin 17} (h : Keeps R s t) : Answers R s (execPllLockLost pll t) :=
  .ite (.next h) (.ite (.next h.upd.setLock.failOver) (.next h.upd.setLock.err))

theorem Keeps.beginSwitch {dom : Nat} {toHo : Bool} (h : Keeps R s t) : Keeps R s (t.beginSwitch dom toHo) :=
  .ite h.put.upd h.takeSource.cause

theorem Keeps.execPllLocked {pll : Fin 17} (h : Keeps R s t) : Answers R s (execPllLocked pll t) :=
  .ite (.next h) (.next (h.setLock.forAll fun _ _ k => .ite k.beginSwitch k))

theorem Keeps.execClkDomSwitch {who : Accessor} {toHo : Bool} (h : Keeps R s t) :
    Answers R s (execClkDomSwitch who toHo t) :=
  .next (h.command fun _ k => .ite k (.ite k.refuseSwitch
    (.ite k.put.wr.cause.err (.ite k.refuseSwitch k.beginSwitch))))

theorem Keeps.execClkSwitchDone {dom : ClkNo} {stallNs : Nat} (h : Keeps R s t) :
    Answers R s (execClkSwitchDone dom stallNs t) := by
  unfold Machine.execClkSwitchDone
  split
  · exact .next h
  · exact .ite (.next h.upd.refuseSwitch) (.next h.upd.takeSource.longest.cause)

theorem Keeps.enterSleep {d : Nat} (h : Keeps R s t) : Keeps R s (t.enterSleep d) :=
  h.setDomain.wr.setDomainPages

theorem Keeps.abandonGate {d : Nat} (h : Keeps R s t) : Keeps R s (t.abandonGate d) := by
  unfold State.abandonGate
  exact .err (.cause (.setDomain (.wr (h.forAll fun _ _ k => k.put))))

theorem Keeps.sleepDue {d : Nat} (h : Keeps R s t) : Keeps R s (t.sleepDue d) :=
  .ite h (.ite h.advanceTo.abandonGate (.ite h.advanceTo.setGate.enterSleep
    (.ite h.advanceTo h.advanceTo.wr.setGate)))

theorem Keeps.execDomainSleepEntry {dom : DomainNo} (h : Keeps R s t) : Answers R s (execDomainSleepEntry dom t) :=
  .next h.sleepDue

theorem Keeps.execDomainDeepSleepEntry {dom : DomainNo} (h : Keeps R s t) :
    Answers R s (execDomainDeepSleepEntry dom t) :=
  .ite (.next h) (.next h.advanceTo.setDomain.wr.put.setDomainPages)

theorem Keeps.execDomainWake {dom : DomainNo} {wordFirst : Grant} (h : Keeps R s t) :
    Answers R s (execDomainWake dom wordFirst t) := by
  unfold Machine.execDomainWake
  extract_lets
  split
  · exact .ite (.next h.abortEntry) (.next h.sleepDue.wakeDomain)
  · exact .next h.abortEntry
  · exact .next h.wakeDomain

theorem Keeps.isolateDomain {d code : Nat} (h : Keeps R s t) : Keeps R s (t.isolateDomain d code) := by
  unfold State.isolateDomain
  extract_lets t₁ _ t₂ t₃ t₄
  have h₁ : Keeps R s t₁ := h.wr.put
  have h₂ : Keeps R s t₂ := h₁.setDomain.setDomainPages
  have h₃ : Keeps R s t₃ := .ite h₂.stopPort (.ite h₂.doveLanesDown (.ite (h₂.forAll fun _ _ k => k.abortRing) h₂))
  have h₄ : Keeps R s t₄ := h₃.cause
  exact .ite h₄.err h₄.errImmediate

theorem Keeps.execDomainReady {dom : DomainNo} {ns : Nat} (h : Keeps R s t) :
    Answers R s (execDomainReady dom ns t) := by
  unfold Machine.execDomainReady
  extract_lets
  split
  · exact .next h
  · exact .ite (.next h) (.ite (.next h.advanceTo.isolateDomain) (.next h.advanceTo.readyDomain.longest))

theorem Keeps.execDomainWakeTimeout {dom : DomainNo} (h : Keeps R s t) :
    Answers R s (execDomainWakeTimeout dom t) := by
  unfold Machine.execDomainWakeTimeout
  extract_lets
  split
  · exact .next h
  · exact .next h.advanceTo.isolateDomain

theorem Keeps.execDomainRailLow {dom : DomainNo} (h : Keeps R s t) : Answers R s (execDomainRailLow dom t) :=
  .ite (.next h) (.next h.clr.isolateDomain)

theorem Keeps.wakeAll (h : Keeps R s t) : Keeps R s t.wakeAll :=
  h.forAll fun _ _ k => .ite k.setGate.wr k.wakeDomain

theorem Keeps.execIdleDisable {who : Accessor} (h : Keeps R s t) : Answers R s (execIdleDisable who t) :=
  .next (h.command fun _ k => k.clr.wakeAll)

theorem Keeps.execTbDeepEntry (h : Keeps R s t) : Answers R s (execTbDeepEntry t) :=
  .ite (.next h) (.next h.advanceTo.upd.setDomain.wr.put.setDomainPages.setLock)

theorem Keeps.execTbCarry {a1 : Nat} (h : Keeps R s t) : Answers R s (execTbCarry a1 t) :=
  .ite (.next h) (.next h.advanceTo.carryTo.endWindow)

/-! ### Machine/StartOps -/

theorem Keeps.latchLife (h : Keeps R s t) : Keeps R s t.latchLife := by
  unfold State.latchLife
  extract_lets t₁ _ _ _ _ _ t₂ t₃ t₄ t₅
  have h₁ : Keeps R s t₁ := h.blowFuse
  have h₂ : Keeps R s t₂ := h₁.upd
  have h₃ : Keeps R s t₃ := h₂.wr.wr.wr.wr
  have h₄ : Keeps R s t₄ := .ite h₃ h₃.err
  have h₅ : Keeps R s t₅ := h₄.drawn
  exact .ite h₄.zeroise (.ite h₅.upd.appendSys h₄)

theorem Keeps.latchVariant {sparedRows : List Nat} (h : Keeps R s t) : Keeps R s (t.latchVariant sparedRows) :=
  .forAll (.fixCapacity (.wr (.wr (.ite h h.upd.wr.wr.wr)))) fun _ _ k => k.wr

theorem Keeps.readRows {f : StageFinding} (h : Keeps R s t) : Keeps R s (t.readRows f) :=
  .wrb (.wrb (.wr (.wr (.upd (.forAll (.forAll (h.forAll fun _ _ k => k.err) fun _ _ k => k.err) fun _ _ k => .err
    (.cause (.put (.ite k k.wr.put))))))))

theorem Keeps.readRegions {fail : Nat} (h : Keeps R s t) : Keeps R s (t.readRegions fail) :=
  .ite h.wr.wrb.wr (.err (.wr (.put (.put (h.wr.wrb.forAll fun _ _ k => k.cause.err)))))

theorem Keeps.stageOtp {f : StageFinding} (h : Keeps R s t) : Keeps R s (t.stageOtp f) :=
  h.readRows.latchVariant.latchLife.readRegions.fixLocks

theorem Keeps.stageRails (h : Keeps R s t) : Keeps R s t.stageRails := h.drawn.hoCalibrated
theorem Keeps.startOnHo (h : Keeps R s t) : Keeps R s t.startOnHo := h.put.forAll fun _ _ k => k.put.put.put
theorem Keeps.startTb (h : Keeps R s t) : Keeps R s t.startTb := .ite h.carryTo.wrb h.upd.clr.cause.err

theorem Keeps.stageClocks {refOk : Bool} (h : Keeps R s t) : Keeps R s (t.stageClocks refOk) :=
  .ite (h.startTb.upd.wr.drawn.refQualified.forAll fun _ _ k => k.setLock) h.startTb.startOnHo

theorem Keeps.essentialFails {page code : Nat} (h : Keeps R s t) : Keeps R s (t.essentialFails page code) :=
  .ite h h.upd

theorem Keeps.withoutBlock {p : Nat} (h : Keeps R s t) : Keeps R s (t.withoutBlock p) :=
  .isolate (.ite (.clr (.ite h.stopPort h)) (.ite h.stopPort h))

theorem Keeps.holdLane {g n : Nat} (h : Keeps R s t) : Keeps R s (t.holdLane g n) := h.setLane.put

theorem Keeps.treatUnit {page test unit : Nat} (h : Keeps R s t) : Keeps R s (t.treatUnit page test unit) :=
  .ite h.holdLane (.ite h.holdLane (.ite h (.ite h.failSensor (.ite h.essentialFails h.withoutBlock))))

theorem Keeps.unitFails {page test unit : Nat} (h : Keeps R s t) : Keeps R s (t.unitFails page test unit) :=
  h.upd.cause.err

theorem Keeps.stageChecks {failures : List (Page × Fin 12 × Nat)} (h : Keeps R s t) :
    Keeps R s (t.stageChecks failures) := by
  unfold State.stageChecks
  extract_lets _ t₁ _ t₂ t₃ t₄ t₅ t₆ t₇ t₈
  have h₁ : Keeps R s t₁ := .ite h.upd h
  have h₂ : Keeps R s t₂ := h₁.wrb.wrb
  have h₃ : Keeps R s t₃ := h₂.wrb.wrb
  have h₄ : Keeps R s t₄ := h₃.wr.wr
  have h₅ : Keeps R s t₅ := h₄.wr
  have h₆ : Keeps R s t₆ := .ite h₅ h₅.err
  have h₇ : Keeps R s t₇ := h₆.forAll fun _ _ k => k.treatUnit
  have h₈ : Keeps R s t₈ := h₇.forAll fun _ _ k => k.unitFails.treatUnit
  exact h₈.wrb.wr

theorem Keeps.readTips {pos : Nat} {d : LayerIdent} (h : Keeps R s t) : Keeps R s (t.readTips pos d) :=
  .forAll (h.forAll fun _ _ k => k.setTip.upd) fun _ _ k => k.upd

theorem Keeps.readBadBlocks {pos : Nat} {d : LayerIdent} (h : Keeps R s t) : Keeps R s (t.readBadBlocks pos d) :=
  h.forAll fun _ _ k => k.setBlock

theorem Keeps.readIdent {pos : Nat} {d : LayerIdent} (h : Keeps R s t) : Keeps R s (t.readIdent pos d) := by
  unfold State.readIdent
  extract_lets t₁ _ t₂ t₃
  have h₁ : Keeps R s t₁ := h.forAll fun _ _ k => k.upd
  have h₂ : Keeps R s t₂ := h₁.upd.err
  have h₃ : Keeps R s t₃ := h₁.wr
  exact .ite (.ite h₂.essentialFails h₂) (.ite h₃.readTips h₃.readBadBlocks)

theorem Keeps.pcFails {pc : Nat} (h : Keeps R s t) : Keeps R s (t.pcFails pc) := h.err.essentialFails

theorem Keeps.viaFails {pc via : Nat} (h : Keeps R s t) : Keeps R s (t.viaFails pc via) := by
  unfold State.viaFails
  extract_lets n t₁
  have h₁ : Keeps R s t₁ := .wr h.wr (by unfold Fld.pc; split <;> rfl)
  exact .ite h.pcFails (.ite h (.ite h₁.err.appendRecord h.pcFails))

theorem Keeps.trainVias (h : Keeps R s t) : Keeps R s t.trainVias := h.drawn.forAll fun _ _ k => k.setCal.wr

theorem Keeps.stageLayers {f : StageFinding} (h : Keeps R s t) : Keeps R s (t.stageLayers f) := by
  unfold State.stageLayers
  extract_lets t₁ t₂ t₃ t₄
  have h₁ : Keeps R s t₁ := h.forAll fun _ _ k => k.readIdent
  have h₂ : Keeps R s t₂ := h₁.trainVias
  have h₃ : Keeps R s t₃ := h₂.forAll fun _ _ k => k.viaFails
  have h₄ : Keeps R s t₄ := h₃.forAll fun _ _ k => k.pcFails
  exact .ite h₄.essentialFails h₄

theorem Keeps.useSpare {pc bank : Nat} (h : Keeps R s t) : Keeps R s (t.useSpare pc bank) :=
  h.forAll fun _ _ k => k.setTip

theorem Keeps.loadRecord {r : TipRecord} (h : Keeps R s t) : Keeps R s (t.loadRecord r) := by
  unfold State.loadRecord
  extract_lets t₁ t₂ t₃
  have h₁ : Keeps R s t₁ := h.forAll fun _ _ k => .ite (.useSpare (.ite k.wr.wr.spareBit k.wr.wr))
    (.ite k.wr.wr.spareBit k.wr.wr)
  have h₂ : Keeps R s t₂ := h₁.forAll fun _ _ k => k.setTip
  have h₃ : Keeps R s t₃ := h₂.forAll fun _ _ k => .ite k (k.wr.wr (by unfold Fld.pc; split <;> rfl))
  exact h₃.wr64

theorem Keeps.stageTipin {ok : Bool} (h : Keeps R s t) : Keeps R s (t.stageTipin ok) := by
  unfold State.stageTipin
  extract_lets _ t₁ t₂ _ t₃
  have h₁ : Keeps R s t₁ := h.upd
  have h₂ : Keeps R s t₂ := h₁.err
  have h₃ : Keeps R s t₃ := .ite h₁ h₂.upd
  split
  · exact h₁.put
  · split
    · exact h₃.loadRecord
    · exact h₃

theorem Keeps.reserveAtStart (h : Keeps R s t) : Keeps R s t.reserveAtStart := h.appendSys.upd.wr64

theorem Keeps.restoreKeys {ok : Bool} (h : Keeps R s t) : Keeps R s (t.restoreKeys ok) :=
  .ite h.put.upd.err h.put.upd.upd

theorem Keeps.restoreDove {r : DoveRecord} (h : Keeps R s t) : Keeps R s (t.restoreDove r) :=
  .forAll (.fixCapacity (.put (.upd (h.forAll fun _ _ k => .ite k.wr.wr.wrb.setRangeState k)))) fun _ _ k =>
    k.setQuire

theorem Keeps.resumeKerf {r : KerfRecord} (h : Keeps R s t) : Keeps R s (t.resumeKerf r) :=
  .ite h.wr.wr.wr.wr.startKerf.setEng.wr (.ite h.startMigrate.setEng.wr (.ite h.setEng h))

theorem Keeps.startClear (h : Keeps R s t) : Keeps R s t.startClear := .ite h h.startKerf

theorem Keeps.restoreRetained {img : Image} {keyOk : Bool} (h : Keeps R s t) :
    Keeps R s (t.restoreRetained img keyOk) :=
  .ite h.restoreKeys h.clr

theorem Keeps.restoreImage {img : Image} (h : Keeps R s t) : Keeps R s (t.restoreImage img) := by
  unfold State.restoreImage
  extract_lets _ _ _ t₁ t₂ t₃ _ t₄ t₅ t₆ _ t₇ t₈
  have h₁ : Keeps R s t₁ := h.upd
  have h₂ : Keeps R s t₂ := h₁.wrb.wrb
  have h₃ : Keeps R s t₃ := h₂.fixCapacity.wr
  have h₄ : Keeps R s t₄ := h₃.upd
  have h₅ : Keeps R s t₅ := h₄.put
  have h₆ : Keeps R s t₆ := by
    unfold t₆
    split
    · exact h₅.restoreDove
    · exact h₅
  have h₇ : Keeps R s t₇ := .ite h₆ h₆.startKerf
  have h₈ : Keeps R s t₈ := h₇.startClear
  exact h₈.forAll fun _ _ k => k.resumeKerf

theorem Keeps.loseMap {img : Image} (h : Keeps R s t) : Keeps R s (t.loseMap img) := h.put.cause.err.upd

theorem Keeps.reportUnbound {bsn : Nat} (h : Keeps R s t) : Keeps R s (t.reportUnbound bsn) :=
  .ite h.upd.cause.err h

theorem Keeps.chooseImage {f : StageFinding} (h : Keeps R s t) : Keeps R s (t.chooseImage f) := by
  unfold State.chooseImage
  extract_lets _ img _ t₁ bsn t₂ t₃ t₄ t₅
  have h₂ : Keeps R s t₂ := h.upd.reportUnbound
  have h₅ : Keeps R s t₅ := by
    refine .wr64 (.wr64 (.reserveAtStart ?_))
    clear_value img
    unfold t₃
    split
    · exact h₂.restoreRetained
    · exact h₂.clr
  clear_value t₅
  cases img with
  | none => exact h₅.startClear
  | some i => exact .ite h₅.wrb.startClear (.ite h₅.wrb.loseMap.startClear h₅.wrb.restoreImage)

theorem Keeps.stageFolio {f : StageFinding} (h : Keeps R s t) : Keeps R s (t.stageFolio f) := by
  unfold State.stageFolio
  split
  · exact h.chooseImage
  · exact h.setPersist.startClear
  · exact h.setPersist

theorem Keeps.startPc {draw pc : Nat} (h : Keeps R s t) : Keeps R s (t.startPc draw pc) := h.setPc

theorem Keeps.resumeRetire (h : Keeps R s t) : Keeps R s t.resumeRetire :=
  h.forAll fun _ _ k => .ite (.ite k k.upd.bump) k.startMigrate

theorem Keeps.startEnds (h : Keeps R s t) : Keeps R s t.startEnds := by
  unfold State.startEnds
  extract_lets _ t₁ t₂ _ t₃ _ t₄ _ t₅
  have h₁ : Keeps R s t₁ := h.upd.fixGauge
  have h₂ : Keeps R s t₂ := .ite h₁.put h₁
  have h₃ : Keeps R s t₃ := .ite h₂.put.err h₂
  have h₄ : Keeps R s t₄ := .ite h₃.upd h₃
  have h₅ : Keeps R s t₅ := h₄.upd
  exact .ite h₅.upd.err h₅

theorem Keeps.startAlloc (h : Keeps R s t) : Keeps R s t.startAlloc := h.forAll fun _ _ k => k.wr

theorem Keeps.activate (h : Keeps R s t) : Keeps R s t.activate := by
  unfold State.activate
  extract_lets _ t₁ _ t₂ t₃ _ t₄ t₅ _ _ t₆ t₇ t₈ t₉
  have h₁ : Keeps R s t₁ := .ite h.setKey h
  have h₂ : Keeps R s t₂ := h₁.drawn.forAll fun _ _ k => k.startPc
  have h₃ : Keeps R s t₃ := h₂.startAlloc.resumeRetire
  have h₄ : Keeps R s t₄ := h₃.upd
  have h₅ : Keeps R s t₅ := .ite h₄.fixEnergy.fixPersist h₄
  have h₆ : Keeps R s t₆ := h₅.upd.wr
  have h₇ : Keeps R s t₇ := h₆.wr
  have h₈ : Keeps R s t₈ := h₇.put.wr.wr
  have h₉ : Keeps R s t₉ := h₈.forAll fun _ _ k => .ite k k.put
  exact .trainAll (h₉.cause.forAll fun _ _ k => k.fixCal)

theorem Keeps.startSafe {page code : Nat} (h : Keeps R s t) : Keeps R s (t.startSafe page code) :=
  h.wr.err.enterSafe.trainAll

theorem Keeps.stageActivate (h : Keeps R s t) : Keeps R s t.stageActivate := by
  unfold State.stageActivate
  extract_lets t₁
  have h₁ : Keeps R s t₁ := h.startEnds
  split
  · exact h₁.trainAll
  · exact h₁.startSafe
  · exact h₁.activate

theorem Keeps.runStage {n : Nat} {f : StageFinding} (h : Keeps R s t) : Keeps R s (t.runStage n f) := by
  unfold State.runStage
  split
  · exact h.stageRails
  · exact h.stageOtp
  · exact h.stageClocks
  · exact h.stageChecks
  · exact h.stageLayers
  · exact h.stageTipin
  · exact h.stageFolio
  · exact h.stageActivate

/-! ### Machine/Start -/

theorem Keeps.overrun (h : Keeps R s t) : Keeps R s t.overrun := .ite h h.upd.err

theorem Keeps.nextStage {n : Nat} (h : Keeps R s t) : Keeps R s (t.nextStage n) :=
  .ite (.ite h.upd.wr.trainAll h.upd.wr) h.upd

theorem Keeps.execStartStageEnd {found : StageFinding} {us : Nat} (h : Keeps R s t) :
    Answers R s (execStartStageEnd found us t) :=
  .ite (.next h) (.next (.nextStage (.runStage (.wr (.advanceTo (.ite h.advanceTo.overrun h))))))

theorem Keeps.execStageOverrun (h : Keeps R s t) : Answers R s (execStageOverrun t) :=
  .ite (.next h) (.next h.advanceTo.overrun)

theorem Keeps.vauxUp (h : Keeps R s t) : Keeps R s t.vauxUp := by
  unfold State.vauxUp
  exact .ite h.upd.put.wr.cause h.upd.put

theorem Keeps.execVauxGood {data : Option EepromData} (h : Keeps R s t) : Answers R s (execVauxGood data t) := by
  unfold Machine.execVauxGood
  exact .ite (.next h.vauxUp) (.next h.vauxUp.upd.readEeprom)

theorem Keeps.execVauxLost (h : Keeps R s t) : Answers R s (execVauxLost t) :=
  .next (.fixAlert (.ite h.upd.clr.clr.clr.clr h.upd.clr.clr.clr.clr.wr.cause))

theorem Keeps.execVauxTimeout (h : Keeps R s t) : Answers R s (execVauxTimeout t) :=
  .ite (.next h) (.next h.advanceTo.upd.unidentified)

theorem Keeps.complete (h : Keeps R s t) : Keeps R s t.complete := by
  unfold State.complete
  exact .settle (h.upd.forAll fun _ _ k => k.arrive)

theorem Keeps.enterHold {portReset : Bool} (h : Keeps R s t) : Keeps R s (t.enterHold portReset) :=
  .bump (.forAll (.forAll (.complete (h.forAll fun _ _ k => .ite k.resetPortRing k.abortRing)) fun _ _ k => k.forceSr)
    fun _ _ k => .ite k k.wr)

theorem Keeps.resetCarrier (h : Keeps R s t) : Keeps R s t.resetCarrier := by
  unfold State.resetCarrier
  extract_lets t₁
  have h₁ : Keeps R s t₁ :=
    h.forAll fun _ _ k => (Keeps.forAll k.closePort fun _ _ l => l.setLd).clearIde.fixPort
  exact .fixAlert (.forAll h₁.doveLanesDown.upd.clr.clr.clr.wr fun _ _ k => k.fixCal)

theorem Keeps.beginHold (h : Keeps R s t) : Keeps R s t.beginHold :=
  .ite h (.upd (.cause (.enterHold (.resetCarrier (h.abandonStep.forAll fun _ _ k => k.runDomain)))))

theorem Keeps.resumeCkpt (h : Keeps R s t) : Keeps R s t.resumeCkpt := by
  unfold State.resumeCkpt
  split
  · exact h
  · exact .ite h h.pump.upd

theorem Keeps.leaveHold (h : Keeps R s t) : Keeps R s t.leaveHold := h.pagesBack.resumeCkpt

theorem Keeps.execHoldEnd {us : Nat} {data : Option EepromData} (h : Keeps R s t) :
    Answers R s (execHoldEnd us data t) := by
  unfold Machine.execHoldEnd
  extract_lets _ t₁ t₂ _ t₃ t₄
  have h₁ : Keeps R s t₁ := .ite h.advanceTo.loseDove h
  have h₂ : Keeps R s t₂ := h₁.advanceTo
  have h₃ : Keeps R s t₃ := h₂.upd
  have h₄ : Keeps R s t₄ := h₃.leaveHold.longest.cause.trainAll
  exact .ite (.next h) (.next (.ite h₄.readEeprom h₄))

theorem Keeps.rstCmd {who : Accessor} {key : BitVec 16} {act : State → State} (h : Keeps R s t)
    (hact : ∀ u, Keeps R s u → Keeps R s (act u)) : Keeps R s (t.rstCmd who key act) :=
  h.command fun _ k => .ite (hact _ k) k

theorem Keeps.execSysRstCarrierIo {who : Accessor} {key : BitVec 16} (h : Keeps R s t) :
    Answers R s (execSysRstCarrierIo who key t) :=
  .next (h.rstCmd fun _ k => k.beginHold)

theorem Keeps.execCarrierIoRailLow (h : Keeps R s t) : Answers R s (execCarrierIoRailLow t) :=
  .ite (.next h) (.next h.err.beginHold)

theorem Keeps.execSysRstMgmt {who : Accessor} {key : BitVec 16} (h : Keeps R s t) :
    Answers R s (execSysRstMgmt who key t) :=
  .next (h.rstCmd fun _ k => k.resetMgmt)

theorem Keeps.execMgmtWatchdogExpiry (h : Keeps R s t) : Answers R s (execMgmtWatchdogExpiry t) :=
  .ite (.next h) (.next h.resetMgmt)

theorem Keeps.execMgmtNotRunning (h : Keeps R s t) : Answers R s (execMgmtNotRunning t) := by
  unfold Machine.execMgmtNotRunning
  split
  · exact .next h
  · exact .ite (.next h) (.next h.advanceTo.errImmediate)

theorem Keeps.coreReady (h : Keeps R s t) : Keeps R s t.coreReady := .ite h.upd h.upd.put

/-! ### Machine/Life -/

theorem Keeps.sayBye {reason : Nat} (h : Keeps R s t) : Keeps R s (t.sayBye reason) :=
  .doveLanesDown (.ite h.sendDove.splitPair.wr h.sendDove)

theorem Keeps.beginShutdown {restart : Nat} (h : Keeps R s t) : Keeps R s (t.beginShutdown restart) := by
  unfold State.beginShutdown
  extract_lets t₁ t₂ t₃ t₄ _ t₅
  have h₁ : Keeps R s t₁ := h.abandonStep.drain
  have h₂ : Keeps R s t₂ := h₁.forAll fun _ _ k => k.closePort
  have h₃ : Keeps R s t₃ := h₂.forAll fun _ _ k => k.abortRing.clr
  have h₄ : Keeps R s t₄ := h₃.sayBye.stopCheckpoint
  have h₅ : Keeps R s t₅ := h₄.upd
  exact .ite h (.ite h₅.upd h₅)

theorem Keeps.execSysRstShutdown {who : Accessor} {key : BitVec 16} (h : Keeps R s t) :
    Answers R s (execSysRstShutdown who key t) :=
  .next (h.rstCmd fun _ k => k.beginShutdown)

theorem Keeps.execSysRstDevice {who : Accessor} {key : BitVec 16} (h : Keeps R s t) :
    Answers R s (execSysRstDevice who key t) :=
  .next (h.rstCmd fun _ k => k.beginShutdown)

theorem Keeps.commitRecord (h : Keeps R s t) : Keeps R s t.commitRecord :=
  .wr (.wr (.put (.upd (.ite h.appendSys h))))

theorem Keeps.writeBankRecord (h : Keeps R s t) : Keeps R s t.writeBankRecord := by
  unfold State.writeBankRecord
  split
  · exact .ite h h.upd.emit.emit
  · exact h

theorem Keeps.decommission (h : Keeps R s t) : Keeps R s t.decommission :=
  .forAll (.clr (.ite h.zeroise.wr.sendDove.splitPair.wr h.zeroise.wr.sendDove)) fun _ _ k => k.clr

theorem Keeps.commitLife {target : Nat} (h : Keeps R s t) : Keeps R s (t.commitLife target) := h.put.cause.upd

theorem Keeps.lifeRequest {target : Nat} {reg : Bool} (h : Keeps R s t) : Keeps R s (t.lifeRequest target reg) :=
  .ite h.commitLife h.put.wr.err

theorem Keeps.execSysLcCmd {who : Accessor} {target : Fin 8} {key : BitVec 16} (h : Keeps R s t) :
    Answers R s (execSysLcCmd who target key t) :=
  .next (h.command fun _ k => .ite k.lifeRequest k)

theorem Keeps.execSetLifeCycle {session : Session} {target : Fin 8} (h : Keeps R s t) :
    Answers R s (execSetLifeCycle session target t) :=
  .ite (.next h) (.ite (.next h.emit) (.next h.lifeRequest.emit))

theorem Keeps.execLcFuseProgrammed (h : Keeps R s t) : Answers R s (execLcFuseProgrammed t) := by
  unfold Machine.execLcFuseProgrammed
  extract_lets _ t₁
  have h₁ : Keeps R s t₁ := h.advance.blowFuse
  split
  · exact .next h
  · exact .next (.ite h₁.decommission (.ite h₁.beginShutdown h₁))

/-! ### Machine/Bist -/

theorem Keeps.makeInjection {p : Step} (h : Keeps R s t) : Keeps R s (t.makeInjection p) := by
  unfold State.makeInjection
  exact h.upd.bump.err

theorem Keeps.isolateTarget {p : Step} (h : Keeps R s t) : Keeps R s (t.isolateTarget p) :=
  .ite h (.ite (.ite h.takeSource h) (.ite h.stopPort.wr.upd (.ite h.doveLanesDown.wr.upd (.ite h.wr.upd h))))

theorem Keeps.beginStep {i : Nat} (h : Keeps R s t) : Keeps R s (t.beginStep i) :=
  .ite h.wr.makeInjection (.isolateTarget (.ite (.ite h.wr h.wr.enterHold.put) h.wr.endOffline))

theorem Keeps.afterTest {p : Step} (h : Keeps R s t) : Keeps R s (t.afterTest p) :=
  .ite h.upd (.ite h.upd (.ite (h.drawn.forAll fun _ _ k => k.setLine)
    (.ite (.ite h h.setBlock) (.ite h.takeSource h))))

theorem Keeps.stepEnds {passed : Bool} {errors : Nat} (h : Keeps R s t) : Keeps R s (t.stepEnds passed errors) := by
  unfold State.stepEnds
  extract_lets _ _ _ t₁ _ _ t₂ t₃
  have h₁ : Keeps R s t₁ := .ite h h.endStep.afterTest
  have h₂ : Keeps R s t₂ := h₁.upd
  have h₃ : Keeps R s t₃ := .ite h₂ h₂.bump.unitFails
  split
  · exact h₃.beginStep
  · exact h₃.endBist.cause

theorem Keeps.bistCmd {who : Accessor} {key : BitVec 16} {act : State → State} (h : Keeps R s t)
    (hact : ∀ u, Keeps R s u → Keeps R s (act u)) : Keeps R s (t.bistCmd who key act) :=
  h.command fun _ k => .ite (hact _ k) k

theorem Keeps.execBistRun {who : Accessor} {key : BitVec 16} (h : Keeps R s t) :
    Answers R s (execBistRun who key t) := by
  refine .next (h.bistCmd fun u k => ?_)
  extract_lets steps t₁ _ t₂
  have h₁ : Keeps R s t₁ := k.wr.wr
  have h₂ : Keeps R s t₂ := h₁.upd.wr
  refine .ite k (.ite h₁.wr ?_)
  cases steps with
  | nil => exact h₂.endBist.cause
  | cons n _ => exact h₂.beginStep

theorem Keeps.execBistStepDone {passed : Bool} {errors : Nat} (h : Keeps R s t) :
    Answers R s (execBistStepDone passed errors t) :=
  .next (.ite h.stepEnds h)

theorem Keeps.execBistAbort {who : Accessor} {key : BitVec 16} {stepFirst : Grant} (h : Keeps R s t) :
    Answers R s (execBistAbort who key stepFirst t) :=
  .next (h.bistCmd fun _ k => .ite k (.ite (.ite k.stepEnds.endBist k.stepEnds) k.abandonStep))

theorem Keeps.releaseUnit {u' : Nat × Nat × Nat} (h : Keeps R s t) : Keeps R s (t.releaseUnit u') :=
  .ite h.upd.setLane.clr h.upd

theorem Keeps.execBistRelease {who : Accessor} {key : BitVec 16} (h : Keeps R s t) :
    Answers R s (execBistRelease who key t) :=
  .next (h.bistCmd fun _ k => .ite k.releaseUnit.commitRecord.cause k)

theorem Keeps.otpRefuse {reason : Nat} (h : Keeps R s t) : Keeps R s (t.otpRefuse reason) := h.put.wr
theorem Keeps.otpDone (h : Keeps R s t) : Keeps R s t.otpDone := h.put.cause

theorem Keeps.otpCmd {who : Accessor} {key : BitVec 16} {act : State → State} (h : Keeps R s t)
    (hact : ∀ u, Keeps R s u → Keeps R s (act u)) : Keeps R s (t.otpCmd who key act) :=
  h.command fun _ k => .ite k (.ite k.otpRefuse (.ite k.otpRefuse (hact _ k)))

theorem Keeps.verifyFails {row : Nat} (h : Keeps R s t) : Keeps R s (t.verifyFails row) := h.upd.err

theorem Keeps.execOtpProgram {who : Accessor} {key : BitVec 16} {verified : Bool} (h : Keeps R s t) :
    Answers R s (execOtpProgram who key verified t) :=
  .next (h.otpCmd fun _ k => .ite k.otpRefuse
    (.ite k.otpRefuse (.otpDone (.ite k.setRow.fixLocks k.setRow.fixLocks.verifyFails))))

theorem Keeps.execOtpRepair {who : Accessor} {key : BitVec 16} {verified linked : Bool} (h : Keeps R s t) :
    Answers R s (execOtpRepair who key verified linked t) :=
  .next (h.otpCmd fun _ k => .ite k.otpRefuse
    (.ite k.otpRefuse (.otpDone (.upd (.ite k.setRow k.setRow.verifyFails)))))

theorem Keeps.execOtpLock {who : Accessor} {key : BitVec 16} {region : Fin 8} {force : Bool} (h : Keeps R s t) :
    Answers R s (execOtpLock who key region force t) :=
  .next (h.otpCmd fun _ k => .ite k.otpRefuse (.ite k.otpRefuse (.otpDone (.ite k.upd.fixLocks.err k.upd.fixLocks))))

theorem Keeps.execOtpGenSeed {who : Accessor} {key : BitVec 16} (h : Keeps R s t) :
    Answers R s (execOtpGenSeed who key t) :=
  .next (h.otpCmd fun _ k => .ite k.otpRefuse (.ite k.otpRefuse (.otpDone (.upd (k.forAll fun _ _ l => l.setRow)))))

theorem Keeps.execOtpLatchCompare {agree : Bool} {row : Fin 512} (h : Keeps R s t) :
    Answers R s (execOtpLatchCompare agree row t) :=
  .ite (.next h) (.ite (.next h.advance) (.next h.advance.err))

/-! ### Machine/Sideband -/

theorem Keeps.sbReply {mtype cmd code : Nat} {payload : List Nat} (h : Keeps R s t) :
    Keeps R s (t.sbReply mtype cmd code payload) :=
  h.upd.emit.fixAlert

theorem Keeps.sbDrop (h : Keeps R s t) : Keeps R s t.sbDrop := h.bump.err

theorem Keeps.execMctpMessage {mtype : BitVec 8} {len : Nat} {changes fmSession pecOk : Bool} (h : Keeps R s t) :
    Answers R s (execMctpMessage mtype len changes fmSession pecOk t) :=
  .ite (.next h) (.ite (.next h.bump.err) (.ite (.next h.upd.bump.fixAlert.sbDrop)
    (.ite (.next h.upd.bump.fixAlert.sbDrop.sbReply) (.next h.upd.bump.fixAlert))))

theorem Keeps.sbMode {mode : Nat} {part : Bool} (h : Keeps R s t) : Keeps R s (t.sbMode mode part) :=
  .fixAlert (.cause (.wr (.ite h.sbDrop h)))

theorem Keeps.execI3cDynamicAddress {addr : BitVec 7} {partPacket : Bool} (h : Keeps R s t) :
    Answers R s (execI3cDynamicAddress addr partPacket t) :=
  .ite (.next h) (.next (.ite h.wr h.wr.sbMode))

theorem Keeps.execI3cReset {partPacket : Bool} (h : Keeps R s t) : Answers R s (execI3cReset partPacket t) :=
  .ite (.next h) (.next (.sbMode (.wr (.ite h.err h))))

theorem Keeps.sbControl {f : State → State} (h : Keeps R s t) (hf : ∀ u, Keeps R s u → Keeps R s (f u)) :
    Answers R s (t.sbControl f) :=
  .next (.ite (hf _ h) h)

theorem Keeps.execSetEndpointId {eid : BitVec 8} (h : Keeps R s t) : Answers R s (execSetEndpointId eid t) :=
  h.sbControl fun _ k => .ite k.sbReply k.wr.cause.sbReply

theorem Keeps.execGetEndpointId (h : Keeps R s t) : Answers R s (execGetEndpointId t) :=
  h.sbControl fun _ k => k.sbReply

theorem Keeps.execGetEndpointUuid (h : Keeps R s t) : Answers R s (execGetEndpointUuid t) :=
  h.sbControl fun _ k => k.sbReply

theorem Keeps.execGetMctpVersionSupport (h : Keeps R s t) : Answers R s (execGetMctpVersionSupport t) :=
  h.sbControl fun _ k => k.sbReply

theorem Keeps.execGetMessageTypeSupport (h : Keeps R s t) : Answers R s (execGetMessageTypeSupport t) :=
  h.sbControl fun _ k => k.sbReply

theorem Keeps.sbService {mtype cmd busy : Nat} {f : State → State} (h : Keeps R s t)
    (hf : ∀ u, Keeps R s u → Keeps R s (f u)) : Answers R s (t.sbService mtype cmd busy f) :=
  .next (.ite h (.ite h.sbReply (hf _ h)))

theorem Keeps.execPldmMonitoring {sensor : Fin 32} (h : Keeps R s t) : Answers R s (execPldmMonitoring sensor t) := by
  unfold Machine.execPldmMonitoring
  extract_lets
  refine .next ?_
  split
  · exact h
  · split
    · exact h.sbReply
    · split
      · exact h.sbReply
      · exact .sbReply (.ite h.drawn h)

theorem Keeps.pldmTransfer {offset version secver : Nat} {sigOk last : Bool} (h : Keeps R s t) :
    Keeps R s (t.pldmTransfer offset version secver sigOk last) :=
  .ite h.sbReply (.ite h.sbReply (.ite h.upd.fwArrived.sbReply h.upd.sbReply))

theorem Keeps.execPldmFirmwareUpdate {activate : Bool} {fmSession : Bool} {offset version secver : Nat}
    {sigOk last : Bool} (h : Keeps R s t) :
    Answers R s (execPldmFirmwareUpdate activate fmSession offset version secver sigOk last t) :=
  h.sbService fun _ k => .ite k.sbDrop.sbReply (.ite (.ite k.activateImage.sbReply k.sbReply) k.pldmTransfer)

theorem Keeps.spdm {cmd : Nat} {f : State → State} (h : Keeps R s t) (hf : ∀ u, Keeps R s u → Keeps R s (f u)) :
    Answers R s (t.spdm cmd f) :=
  h.sbService fun _ k => hf _ k

theorem Keeps.spdmSigned {cmd : Nat} {f : State → State} (h : Keeps R s t) (hf : ∀ u, Keeps R s u → Keeps R s (f u)) :
    Answers R s (t.spdmSigned cmd f) :=
  h.spdm fun _ k => .ite k.sbReply (hf _ k)

theorem Keeps.execGetCertificate {slot : Fin 8} (h : Keeps R s t) : Answers R s (execGetCertificate slot t) :=
  h.spdm fun _ k => .ite k.sbReply k.sbReply

theorem Keeps.execChallenge {nonce : BitVec 256} (h : Keeps R s t) : Answers R s (execChallenge nonce t) :=
  h.spdmSigned fun _ k => k.drawn.sbReply

theorem Keeps.execGetMeasurements {index : Fin 8} {signed : Bool} (h : Keeps R s t) :
    Answers R s (execGetMeasurements index signed t) := by
  refine h.spdm fun u k => ?_
  split
  · exact k.sbReply
  · exact .ite k.sbReply (.ite k.sbReply k.drawn.sbReply)

theorem Keeps.execKeyExchange {auth : KeyAuth} (h : Keeps R s t) : Answers R s (execKeyExchange auth t) :=
  h.spdmSigned fun _ k => .ite k.sbReply (.ite k.err.sbReply k.upd.sbReply)

theorem Keeps.execKeyUpdate {session : Fin 8} (h : Keeps R s t) : Answers R s (execKeyUpdate session t) :=
  h.spdm fun _ k => .ite k.upd.sbReply k.sbReply

theorem Keeps.execOrderlyShutdown {fmSession : Bool} (h : Keeps R s t) :
    Answers R s (execOrderlyShutdown fmSession t) :=
  h.sbService fun _ k => .ite k.sbDrop.sbReply (.ite k.sbReply k.sbReply.beginShutdown)

/-! ### Machine/Pages -/

theorem Keeps.setPersistEn {on_ : Bool} (h : Keeps R s t) : Keeps R s (t.setPersistEn on_) :=
  .ite h.wrb (.ite h.wrb.stopCheckpoint.setPersist.releaseHeld.fixLevel.fixGauge
    (.ite (.fixGauge (.ite h.wrb.setPersist h.wrb.setPersist.fixPersist)) h.wrb))

theorem Keeps.rewired {page : Nat} (h : Keeps R s t) : Keeps R s (t.rewired page) := by
  unfold State.rewired
  split
  · exact h.setRefCtl.fixCal.calDrift
  · split
    · exact h.fixPort.fixCal.train
    · split
      · exact .ite h h.wakeAll
      · exact h.keepFloors.fixGauge
      · exact h.fixAlert
      · exact .ite h.fixCal.train h.doveLanesDown
      · exact h.fixGauge
      · exact h.setPersistEn
      · exact .fixBudget (.fixEnergy (.ite h h.clr))
      · exact h

theorem Keeps.resetInside {page : Nat} (h : Keeps R s t) : Keeps R s (t.resetInside page) := by
  unfold State.resetInside
  split
  · exact h.setPc.stopRun
  · split
    · exact h.upd
    · exact h.upd
    · exact h.forAll fun _ _ k => k.setDomain
    · exact h.upd
    · exact h.upd
    · exact h.upd
    · exact h.upd
    · exact h.upd
    · exact h.upd
    · exact h.upd
    · exact h.forAll fun _ _ k => k.setEng
    · exact h.upd
    · exact h

theorem Keeps.startValues {page : Nat} (h : Keeps R s t) : Keeps R s (t.startValues page) := by
  unfold State.startValues
  split
  · exact .ite h h.wr
  · exact .ite h h.wrb
  · exact .provisional (.ite h h.wr)
  · exact .ite h.wr h

theorem Keeps.softResetNow {page : Nat} (h : Keeps R s t) : Keeps R s (t.softResetNow page) :=
  .rewired (.ite h.resetInside.resetPage.startValues.writeKeyRecord h.resetInside.resetPage.startValues)

theorem Keeps.execSoftReset {who : Accessor} {page : Page} (h : Keeps R s t) :
    Answers R s (execSoftReset who page t) :=
  .next (h.command fun _ k => .ite k k.setPage)

theorem Keeps.abandonReset {page : Nat} (h : Keeps R s t) : Keeps R s (t.abandonReset page) := h.setPage.put

theorem Keeps.execSoftResetProceed {page : Page} (h : Keeps R s t) : Answers R s (execSoftResetProceed page t) :=
  .ite (.next h) (.ite (.next h.abandonReset) (.next h.setPage.softResetNow))

theorem Keeps.execQuiescenceTimeout {page : Page} {gate : Option DomainNo} (h : Keeps R s t) :
    Answers R s (execQuiescenceTimeout page gate t) := by
  unfold Machine.execQuiescenceTimeout
  split
  · split
    · exact .next h
    · exact .ite (.next h) (.next h.advanceTo.abandonGate)
  · exact .ite (.next h) (.next h.advanceTo.abandonReset)

theorem Keeps.setCauses {page : Nat} {bits : Nat} (h : Keeps R s t) : Keeps R s (t.setCauses page bits) :=
  h.forAll fun _ _ k => k.cause

theorem Keeps.execIntSet {who : Accessor} {page : Page} {bits : Word} (h : Keeps R s t) :
    Answers R s (execIntSet who page bits t) :=
  .next (h.command fun _ k => .ite k.setCauses k)

theorem Keeps.safeWrite {who : Accessor} {page off : Nat} {act : State → State} (h : Keeps R s t)
    (hact : ∀ u, Keeps R s u → Keeps R s (act u)) : Keeps R s (t.safeWrite who page off act) :=
  .ite h (.ite h.deny (.ite h (hact _ h.wakePage)))

theorem Keeps.execFeValidClear {who : Accessor} {page : Page} (h : Keeps R s t) :
    Answers R s (execFeValidClear who page t) :=
  .next (h.safeWrite fun _ k => k.clr)

theorem Keeps.fatalExpiry {page : Nat} (h : Keeps R s t) : Keeps R s (t.fatalExpiry page) :=
  .ite h.stopTimer.upd.beginHold.clr h.stopTimer.enterSafe

theorem Keeps.escExpiry {page : Nat} (h : Keeps R s t) : Keeps R s (t.escExpiry page) :=
  .ite h.advanceTo.put.fatalExpiry h.advanceTo.put.put.bump.setPage.cause.err

theorem Keeps.execEscTimerExpiry {page : Page} (h : Keeps R s t) : Answers R s (execEscTimerExpiry page t) :=
  .ite (.next h.escExpiry) (.next h)

theorem Keeps.escAckNow {page : Nat} (h : Keeps R s t) : Keeps R s (t.escAckNow page) := h.stopTimer.put

theorem Keeps.execEscAck {who : Accessor} {page : Page} {expiryFirst : Grant} (h : Keeps R s t) :
    Answers R s (execEscAck who page expiryFirst t) :=
  .next (h.safeWrite fun _ k => .ite k (.ite k.escExpiry k.escAckNow))

theorem Keeps.execQuireMapSweep {repaired failed : List QuireNo} (h : Keeps R s t) :
    Answers R s (execQuireMapSweep repaired failed t) := by
  unfold Machine.execQuireMapSweep
  extract_lets _ _ t₁ t₂
  have h₁ : Keeps R s t₁ := h.upd
  have h₂ : Keeps R s t₂ := h₁.forAll fun _ _ k => k.setQuire
  refine .next ?_
  split
  · exact h
  · exact h₂.errImmediate

/-! ### Machine/Registers -/

theorem Keeps.noteStaged {off n : Nat} (h : Keeps R s t) : Keeps R s (t.noteStaged off n) :=
  .ite h.put (.ite h.upd.put h)

theorem Keeps.afterWrite {u : State} {page off n : Nat} (h : Keeps R s t) :
    Keeps R s (t.afterWrite u page off n) := by
  unfold State.afterWrite
  extract_lets t₁
  have h₁ : Keeps R s t₁ := .ite h.rewired h
  split
  · exact .ite h.intOut h
  · split
    · exact h
    · split
      · exact .ite h.rewired h
      · exact h.rewired
      · exact h.rewired
      · exact .ite h.rewired h
      · exact .rewired (.noteStaged (.ite h.latchOver h))
      · exact .ite h (.ite h₁.writeKeyRecord h₁)
      · exact h.rewired
      · exact .ite (.ite h.rewired (.ite h.setPc h)) (.ite (.ite h.takeReset (.ite h.fixCal h.rewired)) h)

theorem Keeps.badAccess {who : Accessor} {off : Nat} (h : Keeps R s t) : Keeps R s (t.badAccess who off) :=
  h.bump.cause.log

theorem Keeps.readAccess {who : Accessor} {off : Nat} (h : Keeps R s t) : Keeps R s (t.readAccess who off).2 := by
  unfold State.readAccess
  extract_lets _ t₁ _ t₂
  have h₁ : Keeps R s t₁ := .ite h.wakePage h
  have h₂ : Keeps R s t₂ := .ite h₁.upd h₁
  split
  · exact .snd h.badAccess
  · split
    · exact .snd h.deny
    · exact .snd h₂

theorem Keeps.execTbNowLoRead {who : Accessor} (h : Keeps R s t) : Answers R s (execTbNowLoRead who t) :=
  .next (.ite h h.readAccess.emit)

theorem Keeps.execRegisterReadRefused {who : Accessor} {off size : Nat} (h : Keeps R s t) :
    Answers R s (execRegisterReadRefused who off size t) :=
  .next (.ite h (.ite h.badAccess.emit (.ite h.deny.emit h)))

theorem Keeps.mbReadRegister {p l : Nat} {who : Accessor} {off : Nat} (h : Keeps R s t) :
    Keeps R s (t.mbReadRegister p l who off).2.2 := by
  unfold State.mbReadRegister
  refine .adminOnly h (fun u k => ?_)
  split
  · exact .thd k
  · exact .thd k.readAccess

theorem Keeps.execReadRegister {port : PortNo} {ld : LdNo} {off : BitVec 32} (h : Keeps R s t) :
    Answers R s (execReadRegister port ld off t) :=
  h.mailbox fun _ k => k.mbReadRegister

theorem Keeps.mbGetPersistence {who : Accessor} (h : Keeps R s t) : Keeps R s (t.mbGetPersistence who).2.2 := by
  unfold State.mbGetPersistence
  exact .thd h

theorem Keeps.execGetPersistenceStatus {port : PortNo} {ld : LdNo} (h : Keeps R s t) :
    Answers R s (execGetPersistenceStatus port ld t) :=
  h.mailbox fun _ k => k.mbGetPersistence

theorem Keeps.mbGetCapture {p l : Nat} {who : Accessor} {page : Nat} (h : Keeps R s t) :
    Keeps R s (t.mbGetCapture p l who page).2.2 := by
  unfold State.mbGetCapture
  refine .adminOnly h (fun u k => ?_)
  split
  · exact .thd k
  · exact .thd k

theorem Keeps.execGetErrorCapture {port : PortNo} {ld : LdNo} {page : Page} (h : Keeps R s t) :
    Answers R s (execGetErrorCapture port ld page t) :=
  h.mailbox fun _ k => k.mbGetCapture

end Sys2Proof.Proofs

/-! # Register writes leave the set locks (R11) -/

namespace Sys2Proof.Proofs

open Sys2Proof Sys2Proof.Machine Sys2Proof.Laws

-- The walk has more theorems than the check has memory for threads: they are compiled one after another.
set_option Elab.async false

variable {R : Nat → Nat → Prop} {s t : State}

/-- A set lock stays set (R11). -/
abbrev Stays (before after : Nat) : Prop := before = 1 → after = 1

theorem rowsHeader_lock : ∀ r ∈ rowsHeader, isLock r.f = true → r.f = LOCK.lock ∧ r.ty = .rwl := by decide

theorem rowsOf_isLock (page : Nat) : (rowsOf page).all (fun r => !isLock r.f) = true := by
  unfold rowsOf
  split <;> rfl

/-- No selector register chooses among registers of the page header. -/
theorem selectors_above_header (cp : Nat) : (selectors cp).all (fun e => e.2.all (0x100 ≤ ·)) = true := by
  unfold selectors
  split <;> rfl

theorem copyOf_of_inHeader {cp off : Nat} (ho : off < 0x100) : copyOf cp off = (off, 0) := by
  unfold copyOf
  simp only
  repeat rw [if_neg (by omega)]

theorem reg_of_inHeader {page off : Nat} (ho : off < 0x100) :
    t.reg page off = { page := page, rows := rowsHeader.filter fun r => decide (r.f.off = off), copy := 0 } := by
  have hsel : (selectors (canonPage page)).find? (fun e => decide (off ∈ e.2)) = none := by
    refine List.find?_eq_none.2 fun e he hoff => ?_
    have habove := List.all_eq_true.1 (List.all_eq_true.1 (selectors_above_header (canonPage page)) e he) off
      (of_decide_eq_true hoff)
    exact absurd (of_decide_eq_true habove) (by omega)
  have h404 : ¬ (0x404 ≤ off ∧ off < 0x700) := by omega
  have h400 : (off == 0x400) = false := by simp; omega
  simp [State.reg, copyOf_of_inHeader ho, hsel, h404, h400, inHeader, ho]

/-- The one register row that stands where LOCK.lock does is that of LOCK.lock, which is RWL, and it is of the page it
is written through. -/
theorem reg_lock_row {page off : Nat} {r : Row} (hr : r ∈ (t.reg page off).rows) (hl : isLock r.f = true) :
    r.ty = .rwl ∧ (r.f.on (t.reg page off).page).ix (t.reg page off).copy = LOCK.lock.on page := by
  by_cases ho : off < 0x100
  · rw [reg_of_inHeader ho] at hr ⊢
    obtain ⟨hf, hty⟩ := rowsHeader_lock r (List.mem_filter.1 hr).1 hl
    exact ⟨hty, by rw [hf]; rfl⟩
  · have hmem : r ∈ rowsOf page := by
      have hr := (List.mem_filter.1 hr).1
      simp only [inHeader, ho, decide_false, Bool.false_eq_true, if_false] at hr
      split at hr
      · cases hr
      · exact hr
    have hno := List.all_eq_true.1 (rowsOf_isLock page) r hmem
    simp [hl] at hno

/-- A register row of a locked page that is RWL takes nothing. -/
theorem writeField_locked {g : Reg} {r : Row} {w : Nat} (hr : r.ty = .rwl) : t.writeField true g r w = t := by
  simp only [State.writeField, hr, if_true]

/-- A register row writes nothing but its own field. -/
theorem Keeps.writeField {locked : Bool} {g : Reg} {r : Row} {w : Nat} (h : Keeps R s t)
    (hw : ∀ v, Keeps R s (t.wr ((r.f.on g.page).ix g.copy) v)) : Keeps R s (t.writeField locked g r w) := by
  have hset : ∀ o : Option Nat, Keeps R s (match o with
      | some x => t.wr ((r.f.on g.page).ix g.copy) x
      | none => t) := fun o => by
    cases o with
    | some x => exact hw x
    | none => exact h
  unfold State.writeField
  split
  · exact h
  · exact h
  · exact hw _
  · exact .ite h (hset _)
  · exact hset _

/-- Where the lock of a page is not set, its write unsets no lock that was. -/
theorem Keeps.wrLock {page v : Nat} (h : Keeps Stays s t) (hp : s.rd (LOCK.lock.on page) ≠ 1) :
    Keeps Stays s (t.wr (LOCK.lock.on page) v) := by
  refine ⟨fun p hs => ?_, h.queue, fun w => wr_registersWf _ v (h.registers w), h.memory⟩
  have hk : (LOCK.lock.on p).key ≠ (LOCK.lock.on page).key := fun hk => hp (by rw [State.rd, ← hk]; exact hs)
  exact (State.rd_wr_ne t hk v).trans (h.locks p hs)

theorem Keeps.forAllMem {α : Type} {f : State → α → State} {l : List α} (h : Keeps R s t)
    (hf : ∀ u, ∀ a ∈ l, Keeps R s u → Keeps R s (f u a)) : Keeps R s (t.forAll l f) :=
  List.foldlRecOn (motive := Keeps R s) l f h fun u hu a ha => hf u a ha hu

theorem Keeps.plainWrite {page off w : Nat} (h : Keeps Stays s t) : Keeps Stays s (t.plainWrite page off w) := by
  unfold State.plainWrite
  extract_lets g locked
  refine .afterWrite (h.forAllMem fun u r hr k => ?_)
  by_cases hl : isLock r.f = true
  · obtain ⟨hty, hf⟩ := reg_lock_row hr hl
    by_cases hlocked : locked = true
    · rw [hlocked, writeField_locked hty]
      exact k
    · refine k.writeField fun v => ?_
      rw [hf]
      exact k.wrLock fun hs => hlocked (decide_eq_true (h.locks page hs))
  · exact k.writeField fun v => k.wr (Bool.eq_false_iff.2 hl)

/-- What a list of commands does to a state that is as `Keeps` says. -/
def Acts (R : Nat → Nat → Prop) (s : State) (l : List (State → Result)) : Prop :=
  ∀ a ∈ l, ∀ u, Keeps R s u → Answers R s (a u)

theorem Acts.nil : Acts R s [] := fun _ ha => by cases ha

theorem Acts.one {a : State → Result} (h : ∀ u, Keeps R s u → Answers R s (a u)) : Acts R s [a] := fun _ hb => by
  rw [List.mem_singleton.1 hb]
  exact h

theorem Acts.append {l m : List (State → Result)} (hl : Acts R s l) (hm : Acts R s m) : Acts R s (l ++ m) :=
  fun a ha => (List.mem_append.1 ha).elim (hl a) (hm a)

theorem Acts.ite {c : Prop} [Decidable c] {l m : List (State → Result)} (hl : Acts R s l) (hm : Acts R s m) :
    Acts R s (if c then l else m) := by
  split
  · exact hl
  · exact hm

theorem Acts.bit {c : Prop} [Decidable c] {a : State → Result} (h : ∀ u, Keeps R s u → Answers R s (a u)) :
    Acts R s (if c then [a] else []) := .ite (.one h) .nil

/-- What a register's write commands are commands of the walk. -/
theorem acts_regActs {who : Accessor} {page off : Nat} {w : Word} : Acts R s (t.regActs who page off w) := by
  unfold State.regActs
  extract_lets v b key pg pc g range port slot ring first
  have hb : ∀ (i : Nat) (a : State → Result), (∀ u, Keeps R s u → Answers R s (a u)) → Acts R s (b i a) :=
    fun _ _ ha => .bit ha
  clear_value b pg pc range port slot ring key
  split
  · exact hb _ _ fun _ k => k.execSoftReset
  · exact hb _ _ fun _ k => k.drawn.execEscAck
  · exact .one fun _ k => k.execIntSet
  · split
    · exact .one fun _ k => k.execSysLcCmd
    · exact .append (.append (.append (hb _ _ fun _ k => k.execSysRstDevice) (hb _ _ fun _ k => k.execSysRstCarrierIo))
        (hb _ _ fun _ k => k.execSysRstMgmt)) (hb _ _ fun _ k => k.execSysRstShutdown)
    · exact .one fun _ k => k.execClkDomSwitch
    · exact .append (.append (.append (hb _ _ fun _ k => k.drawn.execOtpProgram)
        (hb _ _ fun _ k => k.drawn.drawn.execOtpRepair))
        (hb _ _ fun _ k => k.execOtpLock)) (hb _ _ fun _ k => k.execOtpGenSeed)
    · exact .append (.append (hb _ _ fun _ k => k.execBistRun) (hb _ _ fun _ k => k.drawn.execBistAbort))
        (hb _ _ fun _ k => k.execBistRelease)
    · exact .append (.append (hb _ _ fun _ k => k.execRelease) (hb _ _ fun _ k => k.execTest))
        (hb _ _ fun _ k => k.execSafe)
    · exact .append (hb _ _ fun _ k => k.execPhyCalRun) (hb _ _ fun _ k => k.execPhyCalAbort)
    · exact .append (.append (.append (.append (.append (.append (hb _ _ fun _ k => k.execDoveCmdJoin)
        (hb _ _ fun _ k => k.execDoveCmdLeave)) (hb _ _ fun _ k => k.execDoveCmdConfig))
        (hb _ _ fun _ k => k.execDoveCmdUnconfig)) (hb _ _ fun _ k => k.execDoveCmdPromote))
        (hb _ _ fun _ k => k.execDoveCmdDemote)) (hb _ _ fun _ k => k.execDoveCmdAccept)
    · exact .append (hb _ _ fun _ k => k.execCarveActivate) (.ite .nil (hb _ _ fun _ k => k.execCarveDeactivate))
    · exact hb _ _ fun _ k => k.execTcacheFlush
    · exact .append (.append (hb _ _ fun _ k => k.execKerfStart) (hb _ _ fun _ k => k.execKerfAbort))
        (hb _ _ fun _ k => k.execKerfResume)
    · exact .append (.append (hb _ _ fun _ k => k.execCkpt) (hb _ _ fun _ k => k.execCkptLimited))
        (hb _ _ fun _ k => k.execCkptCancel)
    · exact .append (hb _ _ fun _ k => k.execMeasure) (hb _ _ fun _ k => k.execEepromReread)
    · exact .one fun _ k => k.execChiselRingEnable
    · exact .one fun _ k => k.execChiselRingTail
    · exact .one fun _ k => k.drawn.execChiselRingAbort
    · exact hb _ _ fun _ k => k.execTipinReqRepair
    · exact .one fun _ k => k.execPostponeMaxWrite
    · exact hb _ _ fun _ k => k.execSrNow
    · exact .one fun _ k => k.execLaneErasureClear
    · exact .append (hb _ _ fun _ k => k.execCalRun) (hb _ _ fun _ k => k.execCalAbort)
    · exact .nil

theorem Keeps.writeReg {who : Accessor} {page off : Nat} {w : Word} (h : Keeps Stays s t) :
    Keeps Stays s (t.writeReg who page off w) := by
  refine .ite h (Keeps.forAllMem (.ite h h.plainWrite) fun u a ha k => Keeps.after (acts_regActs a ha u k))

theorem Keeps.writeAccess {who : Accessor} {off : Nat} {w : Word} (h : Keeps Stays s t) :
    Keeps Stays s (t.writeAccess who off w) :=
  .ite h.badAccess (.ite h (.ite h.deny (.ite h h.wakePage.writeReg)))

theorem Keeps.execRegisterWrite {who : Accessor} {off size : Nat} {val : Word} (h : Keeps Stays s t) :
    Answers Stays s (execRegisterWrite who off size val t) :=
  .next (.ite h (.ite h.badAccess h.writeAccess))

theorem Keeps.mbWriteRegister {p l off : Nat} {who : Accessor} {val : Word} (h : Keeps Stays s t) :
    Keeps Stays s (t.mbWriteRegister p l who off val).2.2 :=
  h.adminOnly fun u k => by
    split
    · exact .thd k
    · exact .thd k.writeAccess

theorem Keeps.execWriteRegister {port : PortNo} {ld : LdNo} {off : BitVec 32} {val : Word} (h : Keeps Stays s t) :
    Answers Stays s (execWriteRegister port ld off val t) :=
  h.mailbox fun _ k => k.mbWriteRegister

theorem Keeps.serveMailbox {c : Instr} (h : Keeps Stays s t) : Keeps Stays s (serveMailbox c t) := by
  unfold Machine.serveMailbox
  split
  · exact .after h.execGetEventRecords
  · exact .after h.execClearEventRecords
  · exact .after h.execGetEventInterruptPolicy
  · exact .after h.execSetEventInterruptPolicy
  · exact .after h.execGetFwInfo
  · exact .after h.execTransferFw
  · exact .after h.execActivateFw
  · exact .after h.execGetTimestamp
  · exact .after h.execSetTimestamp
  · exact .after h.execGetSupportedLogs
  · exact .after h.execGetLog
  · exact .after h.execGetSupportedFeatures
  · exact .after h.execPerformMaintenance
  · exact .after h.execIdentifyMemoryDevice
  · exact .after h.execGetPartitionInfo
  · exact .after h.execGetHealthInfo
  · exact .after h.execGetAlertConfig
  · exact .after h.execSetAlertConfig
  · exact .after h.execGetShutdownState
  · exact .after h.execSetShutdownState
  · exact .after h.execGetPoisonList
  · exact .after h.execInjectPoison
  · exact .after h.execClearPoison
  · exact .after h.execGetScanMediaCapabilities
  · exact .after h.execScanMedia
  · exact .after h.execGetScanMediaResults
  · exact .after h.execSanitize
  · exact .after h.execSecureErase
  · exact .after h.execMediaOperations
  · exact .after h.execGetLocationMap
  · exact .after h.execOrderCheckpoint
  · exact .after h.execSetLdAllocation
  · exact .after h.execMailboxUnsupported
  · exact .after h.execReadRegister
  · exact .after h.execWriteRegister
  · exact .after h.execGetPersistenceStatus
  · exact .after h.execGetErrorCapture
  · exact .after h.execGetLdAllocations
  · exact .after h.execSetLdAllocations
  · exact h

theorem Keeps.execMgmtCoreReady (h : Keeps Stays s t) : Answers Stays s (execMgmtCoreReady t) :=
  .next (.ite h (h.upd.coreReady.forAll fun _ _ k => k.serveMailbox))

end Sys2Proof.Proofs

/-! # Only a power-on reset clears a lock (R11, R449) -/

namespace Sys2Proof.Proofs

open Sys2Proof Sys2Proof.Machine Sys2Proof.Laws

-- The walk has more theorems than the check has memory for threads: they are compiled one after another.
set_option Elab.async false

variable {R : Nat → Nat → Prop} {s t : State}

/-! ## The phase of the device -/

section
variable {ph : Phase}

/-- The device is in a phase. -/
structure InPhase (ph : Phase) (t : State) : Prop where
  phase : t.sys.phase = ph

theorem InPhase.ite {c : Prop} [Decidable c] {a b : State} (ha : InPhase ph a) (hb : InPhase ph b) :
    InPhase ph (if c then a else b) := by
  split
  · exact ha
  · exact hb

theorem InPhase.forAll {α : Type} {f : State → α → State} {l : List α} (h : InPhase ph t)
    (hf : ∀ u a, InPhase ph u → InPhase ph (f u a)) : InPhase ph (t.forAll l f) :=
  forAll_keeps (P := InPhase ph) hf l h

theorem InPhase.wr {f : Fld} {v : Nat} (h : InPhase ph t) : InPhase ph (t.wr f v) := ⟨h.phase⟩
theorem InPhase.wrb {f : Fld} {b : Bool} (h : InPhase ph t) : InPhase ph (t.wrb f b) := h.wr
theorem InPhase.put {f : Fld} (h : InPhase ph t) : InPhase ph (t.put f) := h.wr
theorem InPhase.clr {f : Fld} (h : InPhase ph t) : InPhase ph (t.clr f) := h.wr
theorem InPhase.setBit {f : Fld} {n : Nat} (h : InPhase ph t) : InPhase ph (t.setBit f n) := h.wr
theorem InPhase.wr64 {f g : Fld} {v : Nat} (h : InPhase ph t) : InPhase ph (t.wr64 f g v) := h.wr.wr

/-- A change beside the register file that leaves the phase. -/
theorem InPhase.upd (h : InPhase ph t) {now free folio} : InPhase ph { t with now, free, folio } := ⟨h.phase⟩

theorem InPhase.logged {u : State} (h : InPhase ph t) (hu : Logged t u) : InPhase ph u := by
  obtain ⟨-, -, -, hsys⟩ := hu.keepsData
  exact ⟨(congrArg SysState.phase hsys).trans h.phase⟩

theorem InPhase.cause {page bit : Nat} (h : InPhase ph t) : InPhase ph (t.cause page bit) := h.logged (logged_cause ..)
theorem InPhase.err {page code addr : Nat} (h : InPhase ph t) : InPhase ph (t.err page code addr) :=
  h.logged (logged_log _)

theorem InPhase.setPersist {v : Nat} (h : InPhase ph t) : InPhase ph (t.setPersist v) := .ite h h.wr.cause

theorem InPhase.fixLevel (h : InPhase ph t) : InPhase ph t.fixLevel := by
  unfold State.fixLevel
  extract_lets old lv cov t₁ t₂
  have h₁ : InPhase ph t₁ := .ite h h.wrb.cause
  have h₂ : InPhase ph t₂ := .ite h₁ h₁.wr.cause
  exact .ite (h₂.forAll fun _ _ k => k.setBit.cause) h₂

theorem InPhase.fixBudget (h : InPhase ph t) : InPhase ph t.fixBudget := by
  unfold State.fixBudget
  extract_lets was d b t₁ t₂ _ t₃
  have h₁ : InPhase ph t₁ := h.wr
  have h₂ : InPhase ph t₂ := h₁.cause.err
  have h₃ : InPhase ph t₃ := by
    unfold t₃
    split
    · split
      · exact .ite h₂.upd h₂
      · exact h₂.upd
    · exact h₁
  exact .ite h h₃.fixLevel

theorem InPhase.appendSys {kind : Nat} (h : InPhase ph t) : InPhase ph (t.appendSys kind) := h.upd

theorem InPhase.putColophon {i : Image} {p0 p1 : Bool} (h : InPhase ph t) : InPhase ph (t.putColophon i p0 p1) :=
  h.upd.wr64.wrb

theorem InPhase.lastCommit {i : Image} {us : Nat} (h : InPhase ph t) : InPhase ph (t.lastCommit i us) := h.wr.wr.wr

theorem InPhase.commit {c : Commit} {p0 p1 : Bool} (h : InPhase ph t) : InPhase ph (t.commit c p0 p1) :=
  .fixBudget (.lastCommit (.putColophon (.upd (.ite h.upd.appendSys.upd h.upd))))

theorem InPhase.bindDone {c : Commit} {p0 p1 : Bool} (h : InPhase ph t) : InPhase ph (t.bindDone c p0 p1) :=
  .ite ⟨h.commit.phase⟩ h.commit.upd

theorem InPhase.unbound {c : Commit} (h : InPhase ph t) : InPhase ph (t.unbound c) :=
  .ite h.upd.err.put.clr.cause.err.upd.setPersist.fixLevel.err h.upd.err

theorem InPhase.advanceTo {now : Nat} (h : InPhase ph t) : InPhase ph (t.advanceTo now) := ⟨h.phase⟩

end

/-! ## Power-on -/

theorem keptAtPowerOn_lock (page : Nat) : keptAtPowerOn page 0x060 = false := by simp [keptAtPowerOn]

/-- LOCK.lock resets to 0 in every page. -/
theorem resetVal_lock (page : Nat) : Fld.resetVal (LOCK.lock.on page).key = 0 := by
  have hslot : (LOCK.lock.on page).key % 131072 = 0x060 * 32 := by
    simp only [Fld.key, Fld.on, LOCK.lock]
    omega
  simp only [Fld.resetVal, hslot]
  rfl

/-- A lock is clear afterwards. -/
abbrev Clears (_ after : Nat) : Prop := after = 0

/-- A power-on reset clears each lock, and leaves the queue and the canonical forms. -/
theorem Keeps.powerOn {cause : Nat} {aoRan : Bool} (h : Keeps R s t) : Keeps Clears s (t.powerOn cause aoRan) := by
  unfold State.powerOn
  extract_lets u starts _ _ _ _ _ _ _ _ _ v v₁ v₂ v₃ v₄ v₅
  have hv : Keeps Clears s v := by
    have hu : Keeps R s u := h.releasePins
    refine ⟨fun page => ?_, hu.queue, fun w => Sparse.wf_filter _ (hu.registers w), fun _ => rfl⟩
    have hget := get_filter_key (dflt := Fld.resetVal) (fun k => keptAtPowerOn (k / 131072 % 128) (k / 32 % 4096))
      u.flds (LOCK.lock.on page).key
    rw [lock_key_off, keptAtPowerOn_lock, if_neg Bool.false_ne_true, resetVal_lock] at hget
    exact hget
  have h₂ : Keeps Clears s v₂ := hv.wr.wr.clr.clr.clr
  have h₃ : Keeps Clears s v₃ := .ite h₂.wr h₂
  exact h₃.wrb.wrb.wr.wrb

/-- The device starts. -/
def Starting (t : State) : Prop := t.sys.phase = .starting

theorem starting_powerOn {cause : Nat} {aoRan : Bool} : Starting (t.powerOn cause aoRan) := by
  unfold State.powerOn
  extract_lets u starts _ _ _ _ _ _ _ _ _ v v₁ v₂ v₃ v₄ v₅
  have h₃ : Starting v₃ := by
    unfold v₃
    split
    · exact (rfl : v₂.sys.phase = .starting)
    · exact (rfl : v₂.sys.phase = .starting)
  exact h₃

/-- A power-on reset of a device that was off, or whose power failure or shutdown has ended. -/
structure Restarts (s t : State) : Prop where
  keeps : Keeps Clears s t
  starting : Starting t
  before : s.sys.phase = .off ∨ s.sys.phase = .failing ∨ s.sys.phase = .shutdown

/-- Set locks stay, or the command is a power-on reset (R11). -/
def Obeys (s t : State) : Prop := Keeps Stays s t ∨ Restarts s t

theorem Obeys.ite {c : Prop} [Decidable c] {a b : State} (ha : Obeys s a) (hb : Obeys s b) :
    Obeys s (if c then a else b) := by
  split
  · exact ha
  · exact hb

theorem Keeps.restarts {cause : Nat} {aoRan : Bool} (h : Keeps R s t)
    (hs : s.sys.phase = .off ∨ s.sys.phase = .failing ∨ s.sys.phase = .shutdown) : Restarts s (t.powerOn cause aoRan) :=
  ⟨h.powerOn, starting_powerOn, hs⟩

theorem obeys_endShutdown {vinMv : Nat} (h : Keeps Stays s t) (hs : s.sys.phase = .shutdown) :
    Obeys s (t.endShutdown vinMv) := by
  have h₁ : Keeps Stays s
      (((t.judgeBus vinMv).storeTb.writeBankRecord.clr BANK_STAT.charging).clr BANK_PF_STAT.bank_sw) :=
    h.judgeBus.storeTb.writeBankRecord.clr.clr
  exact .ite (.inr (h₁.restarts (.inr (.inr hs))))
    (.ite (.inr (h₁.powerOff.restarts (.inr (.inr hs)))) (.inl h₁.powerOff))

theorem obeys_endPower {vinMv : Nat} (h : Keeps Stays s t) (hs : s.sys.phase = .failing) :
    Obeys s (t.endPower vinMv) := by
  have h₁ : Keeps Stays s ((t.storeTb.wrb BANK_PF_LAST.false_alarm (decide (8800 < vinMv))).wrb SYS_SUPPLY.vin_good
      (decide (8800 < vinMv))) := h.storeTb.wrb.wrb
  exact .ite (.inr (h₁.judgeBus.restarts (.inr (.inl hs)))) (.inl h₁.upd.powerOff)

theorem obeys_afterBind {safe : Bool} {vinMv : Nat} (h : Keeps Stays s t) (hp : InPhase s.sys.phase t) :
    Obeys s (t.afterBind safe vinMv) := by
  unfold State.afterBind
  split
  case isTrue hf => exact obeys_endPower h (hp.phase.symm.trans hf)
  case isFalse => exact .inl h.afterBindPowered

/-- The command answers a next state that obeys the locks. -/
def Completes (s : State) (r : Result) : Prop := ∃ t, r = .next t ∧ Obeys s t

theorem Completes.next (h : Obeys s t) : Completes s (.next t) := ⟨t, rfl, h⟩

theorem Answers.completes {r : Result} (h : Answers Stays s r) : Completes s r := by
  obtain ⟨t, hr, ht⟩ := h
  exact ⟨t, hr, .inl ht⟩

theorem Keeps.stays (s : State) : Keeps Stays s s := .refl (fun _ => id) s

theorem completes_execBindCommit {p0 p1 : Bool} {vinMv : Nat} : Completes s (execBindCommit p0 p1 vinMv s) := by
  have h := Keeps.stays s
  unfold Machine.execBindCommit
  split
  · refine .next ?_
    split
    case isTrue hc => exact obeys_endPower h.upd hc.1
    case isFalse => exact .inl h
  · rename_i c _
    split
    · exact .next (.inl h)
    · extract_lets u
      have hu : Keeps Stays s u := h.advanceTo
      have hp : InPhase s.sys.phase u := .advanceTo ⟨rfl⟩
      refine .next (obeys_afterBind (.ite hu.bindDone hu.unbound) (.ite hp.bindDone hp.unbound))

theorem completes_execShutdownSelfTestDone {finding : SelfTestEnd} :
    Completes s (execShutdownSelfTestDone finding s) := by
  have h := Keeps.stays s
  unfold Machine.execShutdownSelfTestDone
  split
  · exact .next (.inl h)
  case isFalse hb =>
    have hs : s.sys.phase = .shutdown := by
      simp only [State.shutdownBound, Bool.not_eq_true, Bool.not_eq_false', Bool.and_eq_true, decide_eq_true_eq] at hb
      exact hb.1.1
    split
    · exact .next (obeys_endShutdown h hs)
    · exact .next (obeys_endShutdown (h.forAll fun _ _ k => k.unitFails).commitRecord hs)

theorem completes_execRestart : Completes s (execRestart s) := by
  have h := Keeps.stays s
  refine .next (.ite (.inl h) ?_)
  split
  case isTrue hc => exact .inr (h.sbReply.restarts (.inl hc.1))
  case isFalse => exact .ite (.inl h.upd.sbReply) (.inl h.sbReply)

/-- A good VIN starts a device that is off. -/
theorem execVinGood_of_off {vinMv : Nat} {aoRan : Bool} (hoff : s.sys.phase = .off) (hv : 8800 < vinMv) :
    ∃ t, execVinGood vinMv aoRan s = .next t ∧ Restarts s t := by
  unfold Machine.execVinGood
  rw [if_neg (Nat.not_le.2 hv), if_neg (not_not.2 hoff)]
  exact ⟨_, rfl, (Keeps.stays s).advance.judgeBus.upd.restarts (.inl hoff)⟩

theorem completes_execVinGood {vinMv : Nat} {aoRan : Bool} : Completes s (execVinGood vinMv aoRan s) := by
  by_cases hc : s.sys.phase = .off ∧ 8800 < vinMv
  · obtain ⟨t, ht, hr⟩ := execVinGood_of_off hc.1 hc.2
    exact ⟨t, ht, .inr hr⟩
  · have h := Keeps.stays s
    refine Answers.completes ?_
    unfold Machine.execVinGood
    split
    · exact .next h
    · rw [if_pos fun hoff => hc ⟨hoff, by omega⟩]
      exact .next (.ite h h.advance.put)
/-- Every command completes, and it keeps the set locks or is a power-on reset. -/
theorem completes_exec (c : Instr) (s : State) : Completes s (exec c s) := by
  have h := Keeps.stays s
  cases c with
  | registerWrite => exact h.execRegisterWrite.completes
  | tbNowLoRead => exact h.execTbNowLoRead.completes
  | softReset => exact h.execSoftReset.completes
  | softResetProceed => exact h.execSoftResetProceed.completes
  | quiescenceTimeout => exact h.execQuiescenceTimeout.completes
  | intSet => exact h.execIntSet.completes
  | feValidClear => exact h.execFeValidClear.completes
  | escAck => exact h.execEscAck.completes
  | escTimerExpiry => exact h.execEscTimerExpiry.completes
  | hostRead => exact h.execHostRead.completes
  | hostWrite => exact h.execHostWrite.completes
  | pcRequestArrival => exact h.execPcRequestArrival.completes
  | writeHoldRelease => exact h.execWriteHoldRelease.completes
  | inputAdmit => exact h.execInputAdmit.completes
  | activateIssue => exact h.execActivateIssue.completes
  | columnCommandIssue => exact h.execColumnCommandIssue.completes
  | readBurstComplete => exact h.execReadBurstComplete.completes
  | writeBurstIssue => exact h.execWriteBurstIssue.completes
  | agePromotion => exact h.execAgePromotion.completes
  | refreshDue => exact h.execRefreshDue.completes
  | forcedRefreshIssue => exact h.execForcedRefreshIssue.completes
  | refreshIssue => exact h.execRefreshIssue.completes
  | targetedRefreshIssue => exact h.execTargetedRefreshIssue.completes
  | postponeMaxWrite => exact h.execPostponeMaxWrite.completes
  | windowLengthen => exact h.execWindowLengthen.completes
  | srIdleExpiry => exact h.execSrIdleExpiry.completes
  | srNow => exact h.execSrNow.completes
  | sreIssue => exact h.execSreIssue.completes
  | srxIssue => exact h.execSrxIssue.completes
  | laneErasureClear => exact h.execLaneErasureClear.completes
  | correctedWriteback => exact h.execCorrectedWriteback.completes
  | scrubRead => exact h.execScrubRead.completes
  | scrubBatchWake => exact h.execScrubBatchWake.completes
  | scrubBehind => exact h.execScrubBehind.completes
  | scrubOverdue => exact h.execScrubOverdue.completes
  | scrubSelfCheck => exact h.execScrubSelfCheck.completes
  | rowRepair => exact h.execRowRepair.completes
  | tipinReqRepair => exact h.execTipinReqRepair.completes
  | tipinRecordAppend => exact h.execTipinRecordAppend.completes
  | tipinRecordCommit => exact h.execTipinRecordCommit.completes
  | tipinTableSweep corrected _ => exact (Keeps.execTipinTableSweep (corrected := corrected) h).completes
  | tipinEntryReloaded => exact h.execTipinEntryReloaded.completes
  | migrateStart => exact h.execMigrateStart.completes
  | migrateRow => exact h.execMigrateRow.completes
  | migrateDone => exact h.execMigrateDone.completes
  | recoveryWaitExpiry => exact h.execRecoveryWaitExpiry.completes
  | kerfStart => exact h.execKerfStart.completes
  | kerfAbort => exact h.execKerfAbort.completes
  | kerfResume => exact h.execKerfResume.completes
  | clearStroke => exact h.execClearStroke.completes
  | liftQuire => exact h.execLiftQuire.completes
  | rekeyStroke => exact h.execRekeyStroke.completes
  | kerfDone => exact h.execKerfDone.completes
  | kerfLineTimeout => exact h.execKerfLineTimeout.completes
  | ckpt => exact h.execCkpt.completes
  | ckptLimited => exact h.execCkptLimited.completes
  | ckptCancel => exact h.execCkptCancel.completes
  | checkpointStart => exact h.execCheckpointStart.completes
  | slotReadBack => exact h.execSlotReadBack.completes
  | checkpointCommit => exact h.execCheckpointCommit.completes
  | blockErase => exact h.execBlockErase.completes
  | persistenceFailed => exact h.execPersistenceFailed.completes
  | keyRetainClear => exact h.execKeyRetainClear.completes
  | keyRecordCommit => exact h.execKeyRecordCommit.completes
  | gpfPhase1 => exact h.execGpfPhase1.completes
  | gpfPhase2 => exact h.execGpfPhase2.completes
  | powerFailDeclare => exact h.execPowerFailDeclare.completes
  | bindStart => exact h.execBindStart.completes
  | bindCommit => exact completes_execBindCommit
  | vinBelowThreshold => exact h.execVinBelowThreshold.completes
  | vinRecovered => exact h.execVinRecovered.completes
  | pfailNLow => exact h.execPfailNLow.completes
  | bankHousekeepingRound => exact h.execBankHousekeepingRound.completes
  | measure => exact h.execMeasure.completes
  | measurePeriodExpiry => exact h.execMeasurePeriodExpiry.completes
  | measureSample => exact h.execMeasureSample.completes
  | measureEnd => exact h.execMeasureEnd.completes
  | measureRetry => exact h.execMeasureRetry.completes
  | eepromReread => exact h.execEepromReread.completes
  | eepromRecordWrite => exact h.execEepromRecordWrite.completes
  | eepromWriteCycleDone => exact h.execEepromWriteCycleDone.completes
  | bankBusRetry => exact h.execBankBusRetry.completes
  | bankBusStuck => exact h.execBankBusStuck.completes
  | loadKey => exact h.execLoadKey.completes
  | unloadKey => exact h.execUnloadKey.completes
  | setRights => exact h.execSetRights.completes
  | setRange => exact h.execSetRange.completes
  | querySlot => exact h.execQuerySlot.completes
  | keyCmdUnknown => exact h.execKeyCmdUnknown.completes
  | keyTableSweep => exact h.execKeyTableSweep.completes
  | carveActivate => exact h.execCarveActivate.completes
  | carveDeactivate => exact h.execCarveDeactivate.completes
  | tcacheFlush => exact h.execTcacheFlush.completes
  | gaugeWindowStart => exact h.execGaugeWindowStart.completes
  | gaugeTableSweep => exact h.execGaugeTableSweep.completes
  | chiselRingTail => exact h.execChiselRingTail.completes
  | descriptorFetch => exact h.execDescriptorFetch.completes
  | jobStart => exact h.execJobStart.completes
  | jobComplete => exact h.execJobComplete.completes
  | msixSend => exact h.execMsixSend.completes
  | chiselRingAbort => exact h.execChiselRingAbort.completes
  | chiselRingEnable => exact h.execChiselRingEnable.completes
  | doveFlitReceive => exact h.execDoveFlitReceive.completes
  | doveReplayRequest => exact h.execDoveReplayRequest.completes
  | heartbeatTimer => exact h.execHeartbeatTimer.completes
  | partnerLost => exact h.execPartnerLost.completes
  | mackTimer => exact h.execMackTimer.completes
  | autoPromoteExpiry => exact h.execAutoPromoteExpiry.completes
  | pad => exact h.execPad.completes
  | hello => exact h.execHello.completes
  | heartbeat => exact h.execHeartbeat.completes
  | spdm => exact h.execSpdm.completes
  | mwrite => exact h.execMwrite.completes
  | mack => exact h.execMack.completes
  | rreq => exact h.execRreq.completes
  | rrsp => exact h.execRrsp.completes
  | rdata => exact h.execRdata.completes
  | mark => exact h.execMark.completes
  | bitmap => exact h.execBitmap.completes
  | config => exact h.execConfig.completes
  | role => exact h.execRole.completes
  | bye => exact h.execBye.completes
  | doveQueueRoom => exact h.execDoveQueueRoom.completes
  | resyncStroke => exact h.execResyncStroke.completes
  | doveCmdJoin => exact h.execDoveCmdJoin.completes
  | doveCmdLeave => exact h.execDoveCmdLeave.completes
  | doveCmdConfig => exact h.execDoveCmdConfig.completes
  | doveCmdUnconfig => exact h.execDoveCmdUnconfig.completes
  | doveCmdPromote => exact h.execDoveCmdPromote.completes
  | doveCmdDemote => exact h.execDoveCmdDemote.completes
  | doveCmdAccept => exact h.execDoveCmdAccept.completes
  | doveFreqOffset => exact h.execDoveFreqOffset.completes
  | portReset => exact h.execPortReset.completes
  | cxlReset => exact h.execCxlReset.completes
  | functionLevelReset => exact h.execFunctionLevelReset.completes
  | perstRelease => exact h.execPerstRelease.completes
  | hdmDecoderCommit => exact h.execHdmDecoderCommit.completes
  | biResponse => exact h.execBiResponse.completes
  | biTimeout => exact h.execBiTimeout.completes
  | ideCheckFail => exact h.execIdeCheckFail.completes
  | aerSend => exact h.execAerSend.completes
  | getEventRecords => exact h.execGetEventRecords.completes
  | clearEventRecords => exact h.execClearEventRecords.completes
  | getEventInterruptPolicy => exact h.execGetEventInterruptPolicy.completes
  | setEventInterruptPolicy => exact h.execSetEventInterruptPolicy.completes
  | getFwInfo => exact h.execGetFwInfo.completes
  | transferFw => exact h.execTransferFw.completes
  | activateFw => exact h.execActivateFw.completes
  | fwFallback => exact h.execFwFallback.completes
  | getTimestamp => exact h.execGetTimestamp.completes
  | setTimestamp => exact h.execSetTimestamp.completes
  | getSupportedLogs => exact h.execGetSupportedLogs.completes
  | getLog => exact h.execGetLog.completes
  | getSupportedFeatures => exact h.execGetSupportedFeatures.completes
  | performMaintenance => exact h.execPerformMaintenance.completes
  | identifyMemoryDevice => exact h.execIdentifyMemoryDevice.completes
  | getPartitionInfo => exact h.execGetPartitionInfo.completes
  | getHealthInfo => exact h.execGetHealthInfo.completes
  | getAlertConfig => exact h.execGetAlertConfig.completes
  | setAlertConfig => exact h.execSetAlertConfig.completes
  | getShutdownState => exact h.execGetShutdownState.completes
  | setShutdownState => exact h.execSetShutdownState.completes
  | getPoisonList => exact h.execGetPoisonList.completes
  | injectPoison => exact h.execInjectPoison.completes
  | clearPoison => exact h.execClearPoison.completes
  | getScanMediaCapabilities => exact h.execGetScanMediaCapabilities.completes
  | scanMedia => exact h.execScanMedia.completes
  | getScanMediaResults => exact h.execGetScanMediaResults.completes
  | sanitize => exact h.execSanitize.completes
  | secureErase => exact h.execSecureErase.completes
  | mediaOperations => exact h.execMediaOperations.completes
  | backgroundOpComplete => exact h.execBackgroundOpComplete.completes
  | getLocationMap => exact h.execGetLocationMap.completes
  | orderCheckpoint => exact h.execOrderCheckpoint.completes
  | getPersistenceStatus => exact h.execGetPersistenceStatus.completes
  | getErrorCapture => exact h.execGetErrorCapture.completes
  | readRegister => exact h.execReadRegister.completes
  | writeRegister => exact h.execWriteRegister.completes
  | setLdAllocation => exact h.execSetLdAllocation.completes
  | getLdAllocations => exact h.execGetLdAllocations.completes
  | setLdAllocations => exact h.execSetLdAllocations.completes
  | mailboxUnsupported => exact h.execMailboxUnsupported.completes
  | laneLock => exact h.execLaneLock.completes
  | alignmentLoss => exact h.execAlignmentLoss.completes
  | laneUnlockedTimeout => exact h.execLaneUnlockedTimeout.completes
  | trainingRetry => exact h.execTrainingRetry.completes
  | laneAdaptStep => exact h.execLaneAdaptStep.completes
  | l0sEntry => exact h.execL0sEntry.completes
  | l1IdleExpiry => exact h.execL1IdleExpiry.completes
  | pmRequestAck => exact h.execPmRequestAck.completes
  | l1Exit => exact h.execL1Exit.completes
  | l0pWidthChange => exact h.execL0pWidthChange.completes
  | splineWordReceive => exact h.execSplineWordReceive.completes
  | splineWatchdogExpiry => exact h.execSplineWatchdogExpiry.completes
  | toggleOverrun => exact h.execToggleOverrun.completes
  | crossingReset => exact h.execCrossingReset.completes
  | crossingReady => exact h.execCrossingReady.completes
  | crossingResyncTimeout => exact h.execCrossingResyncTimeout.completes
  | clockLoss => exact h.execClockLoss.completes
  | refWindowCheck => exact h.execRefWindowCheck.completes
  | refQualify => exact h.execRefQualify.completes
  | hoCheck => exact h.execHoCheck.completes
  | aoTickTimeout => exact h.execAoTickTimeout.completes
  | pllLockLost => exact h.execPllLockLost.completes
  | clkDomSwitch => exact h.execClkDomSwitch.completes
  | clkSwitchDone => exact h.execClkSwitchDone.completes
  | domainSleepEntry => exact h.execDomainSleepEntry.completes
  | domainDeepSleepEntry => exact h.execDomainDeepSleepEntry.completes
  | domainWake => exact h.execDomainWake.completes
  | domainReady => exact h.execDomainReady.completes
  | domainWakeTimeout => exact h.execDomainWakeTimeout.completes
  | domainRailLow => exact h.execDomainRailLow.completes
  | idleDisable => exact h.execIdleDisable.completes
  | tbDeepEntry => exact h.execTbDeepEntry.completes
  | tbCarry => exact h.execTbCarry.completes
  | vinGood => exact completes_execVinGood
  | startStageEnd => exact h.execStartStageEnd.completes
  | stageOverrun => exact h.execStageOverrun.completes
  | vauxGood data => exact (Keeps.execVauxGood (data := data) h).completes
  | vauxLost => exact h.execVauxLost.completes
  | vauxTimeout => exact h.execVauxTimeout.completes
  | sysRstDevice => exact h.execSysRstDevice.completes
  | sysRstCarrierIo => exact h.execSysRstCarrierIo.completes
  | holdEnd => exact h.execHoldEnd.completes
  | sysRstMgmt => exact h.execSysRstMgmt.completes
  | mgmtWatchdogExpiry => exact h.execMgmtWatchdogExpiry.completes
  | mgmtNotRunning => exact h.execMgmtNotRunning.completes
  | sysRstShutdown => exact h.execSysRstShutdown.completes
  | sysLcCmd => exact h.execSysLcCmd.completes
  | setLifeCycle => exact h.execSetLifeCycle.completes
  | lcFuseProgrammed => exact h.execLcFuseProgrammed.completes
  | calRun => exact h.execCalRun.completes
  | calAbort => exact h.execCalAbort.completes
  | phyCalRun => exact h.execPhyCalRun.completes
  | phyCalAbort => exact h.execPhyCalAbort.completes
  | calPeriodExpiry => exact h.execCalPeriodExpiry.completes
  | calCollectionComplete => exact h.execCalCollectionComplete.completes
  | calProbeTimeout => exact h.execCalProbeTimeout.completes
  | calRunTimeout => exact h.execCalRunTimeout.completes
  | calStep => exact h.execCalStep.completes
  | sensorSlowRound => exact h.execSensorSlowRound.completes
  | sensorFastSample => exact h.execSensorFastSample.completes
  | bandComparatorTrip => exact h.execBandComparatorTrip.completes
  | throttleRise => exact h.execThrottleRise.completes
  | throttleFall => exact h.execThrottleFall.completes
  | fatalTemperature => exact h.execFatalTemperature.completes
  | dividerChange => exact h.execDividerChange.completes
  | suspectClear => exact h.execSuspectClear.completes
  | powerSample => exact h.execPowerSample.completes
  | capAdjust => exact h.execCapAdjust.completes
  | safe => exact h.execSafe.completes
  | release => exact h.execRelease.completes
  | test => exact h.execTest.completes
  | errNPulseEnd => exact h.execErrNPulseEnd.completes
  | errNGapEnd => exact h.execErrNGapEnd.completes
  | errNReadback => exact h.execErrNReadback.completes
  | errpinFfValidClear => exact h.execErrpinFfValidClear.completes
  | quireMapSweep repaired _ => exact (Keeps.execQuireMapSweep (repaired := repaired) h).completes
  | bistRun => exact h.execBistRun.completes
  | bistAbort => exact h.execBistAbort.completes
  | bistRelease => exact h.execBistRelease.completes
  | bistStepDone => exact h.execBistStepDone.completes
  | shutdownSelfTestDone => exact completes_execShutdownSelfTestDone
  | otpProgram => exact h.execOtpProgram.completes
  | otpRepair => exact h.execOtpRepair.completes
  | otpLock => exact h.execOtpLock.completes
  | otpGenSeed => exact h.execOtpGenSeed.completes
  | otpLatchCompare => exact h.execOtpLatchCompare.completes
  | mctpMessage => exact h.execMctpMessage.completes
  | i3cDynamicAddress => exact h.execI3cDynamicAddress.completes
  | i3cReset => exact h.execI3cReset.completes
  | setEndpointId => exact h.execSetEndpointId.completes
  | getEndpointId => exact h.execGetEndpointId.completes
  | getMctpVersionSupport => exact h.execGetMctpVersionSupport.completes
  | getMessageTypeSupport => exact h.execGetMessageTypeSupport.completes
  | getEndpointUuid => exact h.execGetEndpointUuid.completes
  | pldmMonitoring => exact h.execPldmMonitoring.completes
  | pldmFirmwareUpdate => exact h.execPldmFirmwareUpdate.completes
  | getCertificate => exact h.execGetCertificate.completes
  | challenge => exact h.execChallenge.completes
  | getMeasurements => exact h.execGetMeasurements.completes
  | keyExchange => exact h.execKeyExchange.completes
  | keyUpdate => exact h.execKeyUpdate.completes
  | orderlyShutdown => exact h.execOrderlyShutdown.completes
  | restart => exact completes_execRestart
  | registerReadRefused => exact h.execRegisterReadRefused.completes
  | pfailNRelease => exact h.execPfailNRelease.completes
  | bankEndVoltage => exact h.execBankEndVoltage.completes
  | linkTrained => exact h.execLinkTrained.completes
  | ideKm => exact h.execIdeKm.completes
  | configSpaceWrite => exact h.execConfigSpaceWrite.completes
  | l1SubstateEntry => exact h.execL1SubstateEntry.completes
  | pllLocked => exact h.execPllLocked.completes
  | carrierIoRailLow => exact h.execCarrierIoRailLow.completes
  | mgmtCoreReady => exact h.execMgmtCoreReady.completes
  | keySlotReloaded => exact h.execKeySlotReloaded.completes
  | hopTimeOverLimit => exact h.execHopTimeOverLimit.completes

/-- Settles O59: every command keeps the set locks, or is a power-on reset, by a walk through the model. -/
theorem locksClearOnlyAtPowerOn : Obligations.LocksClearOnlyAtPowerOn := by
  unfold Obligations.LocksClearOnlyAtPowerOn
  refine ⟨fun c page s t hs ht => ?_, fun p page s => ?_, fun mv aoRan page s hoff hmv => ?_⟩
  · obtain ⟨u, hu, hobeys⟩ := completes_exec c s
    rw [ht] at hu
    cases hu
    obtain hk | hr := hobeys
    · exact .inl (hk.locks _ hs)
    · exact .inr ⟨hr.starting, hr.before⟩
  · obtain ⟨t, ht, hk⟩ := (Keeps.refl (R := fun a b => b = a) (fun _ => rfl) s).execSoftResetProceed (page := p)
    exact ⟨t, ht, hk.locks _⟩
  · obtain ⟨t, ht, hr⟩ := execVinGood_of_off (aoRan := aoRan) hoff hmv
    exact ⟨t, ht, hr.keeps.locks _⟩

end Sys2Proof.Proofs

/-! # Register accesses -/

namespace Sys2Proof.Proofs

open Sys2Proof Sys2Proof.Machine Sys2Proof.Laws

variable {s t : State}

/-! ## What a report to the hosts changes -/

/-- The pages of the host ports. -/
def hostPages : List Nat := [0x10, 0x11, 0x12, 0x13]

/-- Beside the fields listed no field outside the port pages has changed, and no register access has been answered. -/
structure Reports (l : List Fld) (s t : State) : Prop where
  regs : ∀ f : Fld, f.key ∉ l.map Fld.key → pageOf f ∉ hostPages → t.rd f = s.rd f
  answers : ∀ d, Out.regData d ∈ t.out → Out.regData d ∈ s.out

section
variable {l : List Fld}

theorem Reports.refl (s : State) : Reports l s s := ⟨fun _ _ _ => rfl, fun _ => id⟩

theorem Reports.trans {u : State} (h : Reports l s t) (k : Reports l t u) : Reports l s u :=
  ⟨fun f hf hp => (k.regs f hf hp).trans (h.regs f hf hp), fun d hd => h.answers d (k.answers d hd)⟩

theorem Reports.mono {m : List Fld} (h : Reports l s t) (hlm : l ⊆ m) : Reports m s t :=
  ⟨fun f hf => h.regs f fun hl => hf (List.map_subset _ hlm hl), h.answers⟩

theorem Reports.ite {c : Prop} [Decidable c] {a b : State} (ha : Reports l s a) (hb : Reports l s b) :
    Reports l s (if c then a else b) := by
  split
  · exact ha
  · exact hb

theorem Reports.forAllMem {α : Type} {f : State → α → State} {as : List α} (h : Reports l s t)
    (hf : ∀ u, ∀ a ∈ as, Reports l s u → Reports l s (f u a)) : Reports l s (t.forAll as f) :=
  List.foldlRecOn (motive := Reports l s) as f h fun u hu a ha => hf u a ha hu

theorem Reports.wr {f : Fld} {v : Nat} (h : Reports l s t) (hf : f ∈ l ∨ pageOf f ∈ hostPages) :
    Reports l s (t.wr f v) := by
  refine ⟨fun g hg hp => ?_, h.answers⟩
  have hk : g.key ≠ f.key := by
    intro e
    obtain hl | hp' := hf
    · exact hg (List.mem_map.2 ⟨f, hl, e.symm⟩)
    · exact hp (by rwa [pageOf, e])
  exact (State.rd_wr_ne _ hk v).trans (h.regs g hg hp)

theorem Reports.setPort {p : Nat} {v : PortState} (h : Reports l s t) : Reports l s (t.setPort p v) :=
  ⟨h.regs, h.answers⟩

theorem Reports.setDomain {d : Nat} {v : DomainState} (h : Reports l s t) : Reports l s (t.setDomain d v) :=
  ⟨h.regs, h.answers⟩

theorem Reports.emit {o : Out} (h : Reports l s t) (ho : ∀ d, o ≠ .regData d) : Reports l s (t.emit o) :=
  ⟨h.regs, fun d hd => h.answers d ((List.mem_cons.1 hd).resolve_left fun e => ho d e.symm)⟩

theorem pageOf_port {f : Fld} (ho : f.off * 32 + f.lsb < 131072) {p : Nat} (hp : p < 4) :
    pageOf (f.port p) ∈ hostPages := by
  have hpage : pageOf (f.port p) = 0x10 + p := by
    simp only [pageOf, Fld.key, Fld.port]
    omega
  simp only [hpage, hostPages, List.mem_cons]
  omega

theorem Reports.send {p : Nat} {o : Out} (h : Reports l s t) (hp : p < 4) (ho : ∀ d, o ≠ .regData d) :
    Reports l s (t.send p o) :=
  .ite (h.setPort.wr (.inr (pageOf_port (by decide) hp))) (.ite h.setPort (h.emit ho))

theorem port_of_mem_allLds {m : Nat × Nat} (hm : m ∈ allLds) : m.1 < 4 := by
  revert m
  decide

theorem Reports.pageMsix (h : Reports l s t) : Reports l s t.pageMsix :=
  h.forAllMem fun _ _ hm k => k.send (port_of_mem_allLds (List.mem_filter.1 hm).1) nofun

theorem Reports.intOut {page bit : Nat} (h : Reports l s t) : Reports l s (t.intOut page bit) := .ite h.pageMsix h

theorem Reports.cause {page bit : Nat} (h : Reports l s t) (hf : INT_STAT.causes.on page ∈ l) :
    Reports l s (t.cause page bit) := .ite h (h.wr (.inl hf)).intOut

theorem Reports.aerDue {severity : Nat} {lds : List (Nat × Nat)} (h : Reports l s t) :
    Reports l s (t.aerDue severity lds) := h.forAllMem fun _ _ _ k => .ite k k.setPort

end

/-! ## The capture of a first error (R12) -/

/-- The fields of the first-error capture of a page (R12). -/
def captureFields (page : Nat) : List Fld :=
  [ERR_STAT.overflow, FE_ADDR_LO.addr, FE_ADDR_HI.addr, FE_MASTER.master, FE_ACCESS.access, FE_ACCESS.class,
   FE_CODE.code, FE_TIME_LO.time, FE_TIME_HI.time, FE_VALID.time_valid, FE_VALID.valid].map fun f => f.on page

theorem reports_capture (e : Err) : Reports (captureFields e.page) s (s.capture e) := by
  have hwr : ∀ {f : Fld} {v : Nat} {u : State}, Reports (captureFields e.page) s u →
      f.on e.page ∈ captureFields e.page → Reports (captureFields e.page) s (u.wr (f.on e.page) v) := fun h hf => h.wr (.inl hf)
  unfold State.capture
  extract_lets u₁ u₂ u₃
  have h₁ : Reports (captureFields e.page) s u₁ :=
    hwr (hwr (.refl s) (List.mem_map_of_mem (by decide))) (List.mem_map_of_mem (by decide))
  have h₂ : Reports (captureFields e.page) s u₂ :=
    hwr (hwr (hwr h₁ (List.mem_map_of_mem (by decide))) (List.mem_map_of_mem (by decide)))
      (List.mem_map_of_mem (by decide))
  have h₃ : Reports (captureFields e.page) s u₃ :=
    hwr (hwr (hwr h₂ (List.mem_map_of_mem (by decide))) (List.mem_map_of_mem (by decide)))
      (List.mem_map_of_mem (by decide))
  exact hwr (hwr h₃ (List.mem_map_of_mem (by decide))) (List.mem_map_of_mem (by decide))

theorem reports_captureFirst (e : Err) : Reports (captureFields e.page) s (s.captureFirst e) :=
  .ite ((Reports.refl s).wr (.inl (List.mem_map_of_mem (by decide)))) (reports_capture e)

/-- Fields that stand apart in their pages are not the same, whatever the pages. -/
theorem on_key_ne {f g : Fld} {p q : Nat} (h : f.slot % 131072 ≠ g.slot % 131072) : (f.on p).key ≠ (g.on q).key := by
  intro hk
  have hf : (f.on p).key % 131072 = f.slot % 131072 := key_mod (f.on p)
  have hg : (g.on q).key % 131072 = g.slot % 131072 := key_mod (g.on q)
  exact h (by rw [← hf, hk, hg])

theorem rd_capture_code (e : Err) : (s.capture e).rd (FE_CODE.code.on e.page) = e.code % 2 ^ 16 := by
  unfold State.capture
  extract_lets u₁ u₂ u₃
  have hcode : (u₂.wr (FE_CODE.code.on e.page) e.code).rd (FE_CODE.code.on e.page) = e.code % 2 ^ 16 :=
    State.rd_wr_self _ _ _
  have hwr : ∀ {f : Fld} {v : Nat} {u : State}, u.rd (FE_CODE.code.on e.page) = e.code % 2 ^ 16 →
      FE_CODE.code.slot % 131072 ≠ f.slot % 131072 →
      (u.wr (f.on e.page) v).rd (FE_CODE.code.on e.page) = e.code % 2 ^ 16 :=
    fun hu hf => (State.rd_wr_ne _ (on_key_ne hf) _).trans hu
  exact hwr (hwr (hwr (hwr hcode (by decide)) (by decide)) (by decide)) (by decide)

/-! ## A refused register access (R5) -/

/-- The error that a register access of another size or alignment logs. -/
def badAccessErr (who : Accessor) (off : Nat) : Err :=
  { page := 0, code := 0x1001, addr := off, access := 6, master := Accessor.master who, tied := none }

theorem rd_bump (f : Fld) : (s.bump f).rd f = min (s.rd f + 1) (2 ^ f.width - 1) := by
  have hpos : 0 < 2 ^ f.width := Nat.two_pow_pos _
  rw [State.bump_eq, State.rd_wr_self]
  exact Nat.mod_eq_of_lt (by omega)

/-- A corrected error that no host is told of is tallied and captured. -/
theorem reports_log_badAccess {who : Accessor} {off : Nat} :
    Reports [] ((s.wakeTb.tally (badAccessErr who off)).captureFirst (badAccessErr who off))
      (s.log (badAccessErr who off)) := by
  have hclass : codeClass (badAccessErr who off).code = 1 := (by decide : codeClass 0x1001 = 1)
  have hreport : codeReport 0x1001 = .none := by decide
  unfold State.log
  extract_lets was u₁ u₂ u₃
  have h₂ : Reports [] u₁ u₂ := .ite (Reports.refl _).intOut (.refl _)
  have h₃ : u₃ = u₂ := by
    unfold u₃ State.report
    exact if_pos hreport
  have hlast : Reports [] u₁ (if u₃.on ERRPIN_CTL.ce_aer then u₃.aerDue 1 (u₃.routed none) else u₃) := by
    rw [h₃]
    exact .ite h₂.aerDue h₂
  rw [hclass]
  exact hlast

/-- The fields that tell of the Time Base domain. -/
def tbDomainFields : List Fld := [PWR_DOM_STAT.state.ix 74, PWR_DOM_WAKES.count.ix 74]

theorem reports_wakeTb : Reports tbDomainFields s s.wakeTb :=
  .ite (((Reports.refl s).setDomain.wr (.inl (.head _))).wr (.inl (.tail _ (.head _)))) (.refl s)

/-- The fields of the SYS page that a refused access changes beside the capture. -/
def refusalFields : List Fld :=
  [SYS_BAD_ACCESS.count, INT_STAT.causes.on 0x00, ERR_STAT.ce.on 0x00, ERR_CNT_CE.count.on 0x00]

/-- What a refused access changes (R5): it is counted, and logged as a corrected error in the SYS page. -/
structure Refused (s t : State) : Prop where
  ce : t.rd (ERR_STAT.ce.on 0x00) = 1
  ceCount : CountedUp s t (ERR_CNT_CE.count.on 0x00)
  code : s.on (FE_VALID.valid.on 0x00) = false → t.rd (FE_CODE.code.on 0x00) = 0x1001
  badAccesses : CountedUp s t SYS_BAD_ACCESS.count
  reports : awake s 0x01 = true → Reports (refusalFields ++ captureFields 0x00) s t
  logged : Logged s t

/-- The stages of a refused access: it is counted and its cause raised, the Time Base wakes, the error is tallied, and
it is captured and told. -/
structure RefusalStages (s a b c t : State) : Prop where
  counted : Reports [INT_STAT.causes.on 0x00] (s.bump SYS_BAD_ACCESS.count) a
  woken : Reports tbDomainFields a b
  awake : awake a 0x01 = true → b = a
  tallied : c = (b.put (ERR_STAT.ce.on 0x00)).bump (ERR_CNT_CE.count.on 0x00)
  captured : c.on (FE_VALID.valid.on 0x00) = false → t.rd (FE_CODE.code.on 0x00) = 0x1001
  told : Reports (captureFields 0x00) c t

theorem refusalStages (who : Accessor) (off : Nat) : ∃ a b c, RefusalStages s a b c (s.badAccess who off) := by
  let e := badAccessErr who off
  let a := (s.bump SYS_BAD_ACCESS.count).cause 0x00 6
  have htold : Reports [] ((a.wakeTb.tally e).captureFirst e) (s.badAccess who off) := reports_log_badAccess
  refine ⟨a, a.wakeTb, a.wakeTb.tally e, (Reports.refl _).cause (.head _), reports_wakeTb,
    wakePage_awake (page := 0x01), rfl, fun hc => ?_, (reports_captureFirst e).trans (htold.mono (List.nil_subset _))⟩
  have hcap : (a.wakeTb.tally e).captureFirst e = (a.wakeTb.tally e).capture e := if_neg (ne_true_of_eq_false hc)
  rw [htold.regs _ List.not_mem_nil (by decide), hcap]
  exact rd_capture_code e

theorem Reports.samePages {l : List Fld} {ps : List Nat} (h : Reports l s t) (hl : ∀ f ∈ l, pageOf f ∈ ps) :
    SamePages s t (ps ++ hostPages) := fun f hf => by
  obtain ⟨hps, hhost⟩ := not_or.1 (mt List.mem_append.2 hf)
  refine h.regs f (fun hk => hps ?_) hhost
  obtain ⟨g, hg, hgf⟩ := List.mem_map.1 hk
  have := hl g hg
  rwa [pageOf, hgf] at this

theorem RefusalStages.rd_woken {a b c : State} (h : RefusalStages s a b c t) {f : Fld}
    (hf : f.key ∉ (INT_STAT.causes.on 0x00 :: tbDomainFields).map Fld.key) (hp : pageOf f ∉ hostPages) :
    b.rd f = (s.bump SYS_BAD_ACCESS.count).rd f := by
  obtain ⟨hint, hdom⟩ := not_or.1 (mt List.mem_cons.2 hf)
  rw [h.woken.regs f hdom hp, h.counted.regs f (mt List.mem_singleton.1 hint) hp]

theorem RefusalStages.rd_told {a b c : State} (h : RefusalStages s a b c t) {f : Fld}
    (hce : f.key ≠ (ERR_STAT.ce.on 0x00).key) (hcnt : f.key ≠ (ERR_CNT_CE.count.on 0x00).key) (hf : f.key ∉ (captureFields 0x00).map Fld.key)
    (hp : pageOf f ∉ hostPages) : t.rd f = b.rd f := by
  rw [h.told.regs f hf hp, h.tallied, State.bump_eq, State.rd_wr_ne _ hcnt, State.put_eq, State.rd_wr_ne _ hce]

theorem RefusalStages.reports {a b c : State} (h : RefusalStages s a b c t) (hs : Sys2Proof.awake s 0x01 = true) :
    Reports (refusalFields ++ captureFields 0x00) s t := by
  have hbump : Reports refusalFields s (s.bump SYS_BAD_ACCESS.count) := (Reports.refl s).wr (.inl (by decide))
  have hcause : Reports refusalFields (s.bump SYS_BAD_ACCESS.count) a := h.counted.mono (by decide)
  have ha : Sys2Proof.awake a 0x01 = true := by
    have hdom : a.rd (PWR_DOM_STAT.state.ix 74) = s.rd (PWR_DOM_STAT.state.ix 74) :=
      (hbump.trans hcause).regs _ (by decide) (by decide)
    exact (congrArg (fun n => decide (n ≠ 2)) hdom).trans hs
  have htally : Reports refusalFields a c := by
    rw [h.tallied, h.awake ha]
    exact ((Reports.refl a).wr (.inl (by decide))).wr (.inl (by decide))
  exact (((hbump.trans hcause).trans htally).mono (List.subset_append_left _ _)).trans
    (h.told.mono (List.subset_append_right _ _))

theorem refused_badAccess (who : Accessor) (off : Nat) : Refused s (s.badAccess who off) := by
  obtain ⟨a, b, c, h⟩ := refusalStages (s := s) who off
  have hlogged : Logged s (s.badAccess who off) := ((logged_wr _ _).trans (logged_cause _ _)).trans (logged_log _)
  generalize s.badAccess who off = t at h hlogged
  have hs : ∀ f : Fld, f.key ∉ (SYS_BAD_ACCESS.count :: INT_STAT.causes.on 0x00 :: tbDomainFields).map Fld.key →
      pageOf f ∉ hostPages → b.rd f = s.rd f := fun f hf hp => by
    obtain ⟨hbad, hf⟩ := not_or.1 (mt List.mem_cons.2 hf)
    rw [h.rd_woken hf hp, State.bump_eq, State.rd_wr_ne _ hbad]
  refine { ce := ?_, ceCount := ?_, code := fun hv => h.captured ?_, badAccesses := ?_, reports := h.reports,
           logged := hlogged }
  · rw [h.told.regs _ (by decide) (by decide), h.tallied, State.bump_eq, State.rd_wr_ne _ (by decide), State.put_eq,
      State.rd_wr_self]
    rfl
  · rw [CountedUp, h.told.regs _ (by decide) (by decide), h.tallied, rd_bump, State.put_eq,
      State.rd_wr_ne _ (by decide), hs _ (by decide) (by decide)]
  · rw [h.tallied, State.on, State.bump_eq, State.rd_wr_ne _ (by decide), State.put_eq, State.rd_wr_ne _ (by decide),
      hs _ (by decide) (by decide)]
    exact hv
  · rw [CountedUp, h.rd_told (by decide) (by decide) (by decide) (by decide),
      h.rd_woken (by decide) (by decide), rd_bump]

theorem registerReadRefused_badAccess {who : Accessor} {off size : Nat} (hopen : s.regsOpen = true)
    (hbad : size ≠ 4 ∨ off % 4 ≠ 0) :
    exec (.registerReadRefused who off size) s = .next ((s.badAccess who off).emit (.regData 0xFFFFFFFF)) := by
  simp only [exec, Machine.execRegisterReadRefused, hopen, hbad, Bool.not_true, Bool.false_eq_true, if_false, if_true]

theorem registerWrite_badAccess {who : Accessor} {off size : Nat} {val : Word} (hopen : s.regsOpen = true)
    (hbad : size ≠ 4 ∨ off % 4 ≠ 0) :
    exec (.registerWrite who off size val) s = .next (s.badAccess who off) := by
  simp only [exec, Machine.execRegisterWrite, hopen, Bool.not_true, Bool.false_eq_true, if_false]
  split
  · rfl
  case isFalse hsize =>
    rw [State.writeAccess, if_pos (hbad.resolve_left hsize)]

/-! ## Writes of the page header (R10) -/

/-- A header register commands nothing, but for PAGE_CTL.soft_reset, ESC_ACK and INT_SET. -/
theorem regActs_of_inHeader {who : Accessor} {page off : Nat} {w : Word} (ho : off < 0x100) (hctl : off ≠ 0x008)
    (hack : off ≠ 0x044) (hset : off ≠ 0x058) : s.regActs who page off w = [] := by
  unfold State.regActs
  extract_lets v b key pg pc g range port slot ring first
  have hfirst : first = off := congrArg Prod.fst (copyOf_of_inHeader ho)
  clear_value first b
  subst hfirst
  split
  · exact absurd rfl hctl
  · exact absurd rfl hack
  · exact absurd rfl hset
  · split
    case h_22 => rfl
    all_goals omega

theorem afterWrite_of_inHeader {u : State} {page off n : Nat} (ho : off < 0x100) (hmask : off ≠ 0x014) :
    s.afterWrite u page off n = s := by
  unfold State.afterWrite
  rw [if_neg hmask, if_pos ho]

/-- A write of a header register other than ERR_MASK writes its fields, and nothing follows. -/
theorem plainWrite_of_inHeader {page off w : Nat} (ho : off < 0x100) (hmask : off ≠ 0x014) :
    s.plainWrite page off w =
      s.forAll (rowsHeader.filter fun r => decide (r.f.off = off)) fun u r =>
        u.writeField (s.on (LOCK.lock.on page))
          { page := page, rows := rowsHeader.filter fun r => decide (r.f.off = off), copy := 0 } r w := by
  rw [State.plainWrite, reg_of_inHeader ho, afterWrite_of_inHeader ho hmask]

theorem writeReg_of_inHeader {who : Accessor} {page off : Nat} {w : Word} (ho : off < 0x100) (hctl : off ≠ 0x008)
    (hack : off ≠ 0x044) (hset : off ≠ 0x058) :
    s.writeReg who page off w = s.plainWrite page off w.toNat := by
  have hcmd : commandOnly (canonPage page) (copyOf (canonPage page) off).1 = false := by
    rw [copyOf_of_inHeader ho]
    simp only [commandOnly, Bool.or_eq_false_iff, Bool.and_eq_false_iff, beq_eq_false_iff_ne]
    omega
  have habs : ¬ (s.layerAbsent page && decide (0x100 ≤ off)) = true := by simp; omega
  simp only [State.writeReg, habs, hcmd, Bool.false_eq_true, if_false, regActs_of_inHeader ho hctl hack hset]
  rfl

theorem of_reaches {who : Accessor} {page : Nat} (h : reaches s who page = true) :
    s.regsOpen = true ∧ s.mayAdmin who = true ∧ s.present page = true ∧ awake s page = true ∧
      pageExists page = true := by
  simp only [reaches, takes, Bool.and_eq_true] at h
  obtain ⟨⟨⟨⟨⟨⟨hopen, hadmin⟩, hpresent⟩, -⟩, hawake⟩, -⟩, hexists⟩ := h
  exact ⟨hopen, hadmin, hpresent, hawake, hexists⟩

/-- A write that reaches its page is taken by the register. -/
theorem registerWrite_of_reaches {who : Accessor} {page : Page} {off : Nat} {val : Word}
    (h : reaches s who page.val = true) (hsafe : s.safe = false) (ho : off < 0x1000) (halign : off % 4 = 0) :
    exec (.registerWrite who (page.val * 4096 + off) 4 val) s = .next (s.writeReg who page.val off val) := by
  obtain ⟨hopen, hadmin, hpresent, hawake, hexists⟩ := of_reaches h
  have hpage : (page.val * 4096 + off) / 4096 = page.val := by omega
  have hoff : (page.val * 4096 + off) % 4096 = off := by omega
  have hwindow : ¬ 0x80000 ≤ page.val * 4096 + off := by have := page.isLt; omega
  have haligned : ¬ (page.val * 4096 + off) % 4 ≠ 0 := by omega
  have htake : s.writeAccess who (page.val * 4096 + off) val = s.writeReg who page.val off val := by
    simp only [State.writeAccess, hpage, hoff, haligned, hwindow, hadmin, hexists, hpresent, hsafe,
      wakePage_awake hawake, Bool.true_or, Bool.not_true, Bool.or_false, Bool.false_and, Bool.false_eq_true, if_false]
  simp only [exec, Machine.execRegisterWrite, hopen, htake, Bool.not_true, Bool.false_eq_true, if_false, ne_eq,
    not_true_eq_false]

theorem fieldValue_int_en {g : Reg} {v : Nat} : s.fieldValue g ⟨INT_EN.enables, .rw, 0x0, none⟩ v = some v := rfl

/-- A write of INT_EN sets its bits. -/
theorem plainWrite_int_en {page w : Nat} : s.plainWrite page 0x054 w = s.wr (INT_EN.enables.on page) (w % 2 ^ 32) := by
  have hrows : rowsHeader.filter (fun r => decide (r.f.off = 0x054)) = [⟨INT_EN.enables, .rw, 0x0, none⟩] := by decide
  rw [plainWrite_of_inHeader (by decide) (by decide), hrows]
  simp only [State.forAll, List.foldl_cons, List.foldl_nil, State.writeField, fieldValue_int_en]
  rw [show INT_EN.enables.lsb = 0 from rfl, pow_zero, Nat.div_one]
  rfl

/-- PAGE_ID takes no write. -/
theorem plainWrite_page_id {page w : Nat} : s.plainWrite page 0x000 w = s := by
  have hrows : rowsHeader.filter (fun r => decide (r.f.off = 0x000)) =
      [⟨PAGE_ID.block_type, .ro, 0x0, none⟩, ⟨PAGE_ID.inst, .ro, 0x0, none⟩,
       ⟨PAGE_ID.layout_version, .ro, 0x1, none⟩] := by decide
  rw [plainWrite_of_inHeader (by decide) (by decide), hrows]
  rfl

/-! ## The read of TB_NOW_LO (R440) -/

/-- The state with the high half of the Time Base latched for an accessor. -/
def latched (s : State) (who : Accessor) : State :=
  { s with clk := { s.clk with
      latch := Sparse.set (fun _ => 0) s.clk.latch (Accessor.master who) (s.tb / 2 ^ 32 % 2 ^ 32) } }

theorem reg_tbNowLo : s.reg 0x01 0x108 = { page := 0x01, rows := [⟨TB_NOW_LO.time, .ro, 0x0, none⟩], copy := 0 } := by
  have hsel : selectors 0x01 = [] := rfl
  have hrows : (rowsOf 0x01).filter (fun r => decide (r.f.off = 0x108)) = [⟨TB_NOW_LO.time, .ro, 0x0, none⟩] := by
    decide
  simp [State.reg, hsel, copyOf, canonPage, inHeader, hrows]

theorem readReg_tbNowLo {who : Accessor} (hp : s.present 0x01 = true) : s.readReg who 0x01 0x108 = s.tb % 2 ^ 32 := by
  have hfield : s.readField who (s.reg 0x01 0x108) ⟨TB_NOW_LO.time, .ro, 0x0, none⟩ = s.tb % 2 ^ 32 := by
    have hderived : s.derived who 0x01 0 TB_NOW_LO.time = some (s.tb % 2 ^ 32) := rfl
    have habs : s.layerAbsent 0x01 = false := rfl
    have hne : TB_NOW_LO.time ≠ INT_EN.enables := by decide
    have hwidth : TB_NOW_LO.time.width = 32 := rfl
    simp [reg_tbNowLo, State.readField, hderived, habs, hne, hwidth]
  have hexists : pageExists 0x01 = true := rfl
  have hlsb : TB_NOW_LO.time.lsb = 0 := rfl
  rw [reg_tbNowLo] at hfield
  simp [State.readReg, hexists, hp, reg_tbNowLo, hfield, hlsb]

theorem readAccess_tbNowLo {who : Accessor} (h : reaches s who 0x01 = true) :
    s.readAccess who 0x1108 = (s.tb % 2 ^ 32, latched s who) := by
  obtain ⟨-, hadmin, hpresent, hawake, hexists⟩ := of_reaches h
  have hread : (latched s who).readReg who 0x01 0x108 = s.tb % 2 ^ 32 := readReg_tbNowLo hpresent
  have hmay : s.mayRead who 0x1108 = true := by simp only [State.mayRead, hadmin, Bool.true_or]
  simp only [State.readAccess, hmay, hexists, hpresent, wakePage_awake hawake, Nat.reduceMod, Nat.reduceDiv, ne_eq,
    not_true_eq_false, Bool.not_true, Bool.false_eq_true, Bool.and_self, if_false, if_true]
  exact Prod.ext hread rfl

/-! ## O3 -/

/-- Settles O3: what a register access of the window does, and what one of another size or alignment logs. -/
theorem registerAccessesActAndAnswer : Obligations.RegisterAccessesActAndAnswer := by
  unfold Obligations.RegisterAccessesActAndAnswer
  refine ⟨fun who page val s h hsafe => ?_, fun who page val s h hsafe => ?_, fun who s h => ?_,
    fun who off size s hopen hbad => ?_, fun who off size val s hopen hbad hawake => ?_⟩
  · refine ⟨s.wr (INT_EN.enables.on page.val) (val.toNat % 2 ^ 32), ?_, ?_, fun f hf => ?_, rfl⟩
    · rw [registerWrite_of_reaches h hsafe (by decide) (by decide),
        writeReg_of_inHeader (by decide) (by decide) (by decide) (by decide), plainWrite_int_en]
    · have hval : val.toNat < 2 ^ 32 := val.isLt
      rw [State.rd_wr_self, Nat.mod_eq_of_lt hval]
      exact Nat.mod_eq_of_lt hval
    · exact State.rd_wr_ne _ (mt List.mem_singleton.2 hf) _
  · have hwrite := registerWrite_of_reaches (val := val) (off := 0x000) h hsafe (by decide) (by decide)
    rw [writeReg_of_inHeader (by decide) (by decide) (by decide) (by decide), plainWrite_page_id,
      Nat.add_zero] at hwrite
    exact hwrite
  · refine ⟨(latched s who).emit (.regData (s.tb % 2 ^ 32)), ?_, rfl, ?_, fun _ _ => rfl, rfl⟩
    · obtain ⟨hopen, -⟩ := of_reaches h
      simp only [exec, Machine.execTbNowLoRead, hopen, Bool.not_true, Bool.false_eq_true, if_false,
        readAccess_tbNowLo h]
    · exact Sparse.get_set_self _ _ _
  · have hr := refused_badAccess (s := s) who off
    have hexec := registerReadRefused_badAccess (who := who) hopen hbad
    generalize s.badAccess who off = t at hr hexec
    obtain ⟨hlines, hcrypto, hfolio, -⟩ := hr.logged.keepsData
    exact ⟨_, hexec, rfl, hr.ce, hr.ceCount, hr.code, hr.badAccesses, hlines, hcrypto, hfolio⟩
  · have hr := refused_badAccess (s := s) who off
    have hexec := registerWrite_badAccess (who := who) (val := val) hopen hbad
    generalize s.badAccess who off = t at hr hexec
    have hreports := hr.reports hawake
    exact ⟨t, hexec, hr.ce, hr.ceCount, hr.code, hr.badAccesses, hreports.answers,
      hreports.samePages (ps := [0x00]) (by decide), hr.logged.keepsData⟩

end Sys2Proof.Proofs

/-! # The fields that a layer's pages share (R87)

A walk through the model as the one for LOCK.lock above, of which nothing can be had here: `Keeps` speaks of the locks'
values alone. `Agrees` is an invariant of one state. It turns on where the two fields stand in a page (`inLayer`) and on
the three operations that write them, each in all four pages of a layer (`Agrees.writeLayer`). -/

namespace Sys2Proof.Proofs

open Sys2Proof Sys2Proof.Machine Sys2Proof.Laws

set_option Elab.async false

/-! ## The invariant -/

/-- The fields that read the same in all four PC pages of a layer (R87). -/
def layerFields : List Fld := [PC_REF_STAT.window, PC_SR_STAT.clk_gated]

/-- Each of these fields reads in a layer's pages as in its first page (R87). -/
structure Agrees (t : State) : Prop where
  equal : ∀ g ∈ layerFields, ∀ layer < 16, ∀ i < 4, t.rd (g.pc (layer * 4 + i)) = t.rd (g.pc (layer * 4))

theorem agrees_iff (t : State) : Agrees t ↔ layersAgree t := by
  refine ⟨fun h layer hl i hi => ⟨h.equal _ (by decide) layer hl i hi, h.equal _ (by decide) layer hl i hi⟩,
    fun h => ⟨fun g hg layer hl i hi => ?_⟩⟩
  simp only [layerFields, List.mem_cons, List.not_mem_nil, or_false] at hg
  obtain rfl | rfl := hg
  · exact (h layer hl i hi).1
  · exact (h layer hl i hi).2

/-- A field stands in its page where one of these does, whatever the page and the copy. -/
def layerPlace (f : Fld) : Bool := f.slot == 0x124 * 32 || f.slot == 0x144 * 32 + 2

/-- A field may stand so in the page of a PC: the pages below have fields of their own at these places. -/
def inLayer (f : Fld) : Bool :=
  atNumeral f.off fun o => atNumeral f.lsb fun l =>
    (o * 32 + l == 0x124 * 32 || o * 32 + l == 0x144 * 32 + 2) && atNumeral f.page (Nat.ble 0x40) ||
      Nat.ble 131072 (o * 32 + l)

theorem inLayer_eq (f : Fld) :
    inLayer f = (layerPlace f && decide (0x40 ≤ f.page) || decide (131072 ≤ f.slot)) := by
  have hble : ∀ a b : Nat, Nat.ble a b = decide (a ≤ b) := fun a b => Bool.eq_iff_iff.2 (by simp)
  simp only [inLayer, atNumeral_eq, hble]
  rfl

theorem inLayer_ite {c : Prop} [Decidable c] {f g : Fld} (hf : inLayer f = false) (hg : inLayer g = false) :
    inLayer (if c then f else g) = false := by
  split
  · exact hf
  · exact hg

/-- The command answers a next state with the layers' fields alike. -/
def AgreesNext (r : Result) : Prop := ∃ t, r = .next t ∧ Agrees t

variable {t u : State}

theorem AgreesNext.next (h : Agrees t) : AgreesNext (.next t) := ⟨t, rfl, h⟩

/-! ## Branches and loops -/

theorem Agrees.fst {β : Type} {b : β} (h : Agrees t) : Agrees (t, b).1 := h
theorem Agrees.snd {α : Type} {a : α} (h : Agrees t) : Agrees (a, t).2 := h
theorem Agrees.thd {α β : Type} {a : α} {b : β} (h : Agrees t) : Agrees (a, b, t).2.2 := h

theorem Agrees.ite {c : Prop} [Decidable c] {a b : State} (ha : Agrees a) (hb : Agrees b) :
    Agrees (if c then a else b) := by
  split
  · exact ha
  · exact hb

theorem Agrees.iteSnd {α : Type} {c : Prop} [Decidable c] {a b : α × State} (ha : Agrees a.2) (hb : Agrees b.2) :
    Agrees (if c then a else b).2 := by
  split
  · exact ha
  · exact hb

theorem AgreesNext.ite {c : Prop} [Decidable c] {a b : Result} (ha : AgreesNext a) (hb : AgreesNext b) :
    AgreesNext (if c then a else b) := by
  split
  · exact ha
  · exact hb

theorem Agrees.forAllMem {α : Type} {f : State → α → State} {l : List α} (h : Agrees t)
    (hf : ∀ u, ∀ a ∈ l, Agrees u → Agrees (f u a)) : Agrees (t.forAll l f) :=
  List.foldlRecOn (motive := Agrees) l f h fun u hu a ha => hf u a ha hu

theorem Agrees.forAll {α : Type} {f : State → α → State} {l : List α} (h : Agrees t)
    (hf : ∀ u a, Agrees u → Agrees (f u a)) : Agrees (t.forAll l f) :=
  forAll_keeps (P := Agrees) hf l h

/-- A loop that carries more than the state, of which `π` gives the state. -/
theorem Agrees.foldl {α β : Type} {π : β → State} {f : β → α → β} {l : List α} {b : β} (h : Agrees (π b))
    (hf : ∀ b a, Agrees (π b) → Agrees (π (f b a))) : Agrees (π (l.foldl f b)) :=
  List.foldlRecOn (motive := fun b => Agrees (π b)) l f h fun b hb a _ => hf b a hb

/-- A result is taken for the state it leaves. -/
theorem Agrees.after {r : Result} (hr : AgreesNext r) : Agrees (t.after r) := by
  obtain ⟨u, rfl, hu⟩ := hr
  exact hu

/-! ## The register file -/

/-- The key of such a field tells its page and its place. -/
theorem layer_key {g : Fld} (hg : g ∈ layerFields) (p : Nat) : (g.pc p).key = (0x40 + p) * 131072 + g.slot := by
  have hinst : ∀ g ∈ layerFields, g.inst = 0 := by decide
  simp only [Fld.key, Fld.pc, Fld.slot, hinst g hg]
  omega

theorem layer_slot {g : Fld} (hg : g ∈ layerFields) : g.slot = 0x124 * 32 ∨ g.slot = 0x144 * 32 + 2 := by
  revert g
  decide

theorem layer_key_slot {g : Fld} (hg : g ∈ layerFields) (p : Nat) : (g.pc p).key % 131072 = g.slot := by
  have hs := layer_slot hg
  rw [layer_key hg]
  omega

theorem layer_key_page {g : Fld} (hg : g ∈ layerFields) {p : Nat} (hp : p < 64) :
    (g.pc p).key / 131072 % 128 = 0x40 + p := by
  have hs := layer_slot hg
  rw [layer_key hg]
  omega

/-- Two of these fields are the same where their pages and they themselves are. -/
theorem layer_key_inj {f g : Fld} (hf : f ∈ layerFields) (hg : g ∈ layerFields) {p q : Nat} :
    (f.pc p).key = (g.pc q).key ↔ f = g ∧ p = q := by
  refine ⟨fun e => ?_, fun ⟨hfg, hpq⟩ => by rw [hfg, hpq]⟩
  have hslots : ∀ f ∈ layerFields, ∀ g ∈ layerFields, f.slot = g.slot → f = g := by decide
  have hf' := layer_slot hf
  have hg' := layer_slot hg
  rw [layer_key hf, layer_key hg] at e
  exact ⟨hslots f hf g hg (by omega), by omega⟩

/-- A field that stands elsewhere is none of them. -/
theorem layer_key_ne {f g : Fld} (hf : inLayer f = false) (hg : g ∈ layerFields) {p : Nat} (hp : p < 64) :
    (g.pc p).key ≠ f.key := by
  intro e
  have hs := layer_slot hg
  have hkey : f.key = (f.inst * 128 + f.page) * 131072 + f.slot := by
    simp only [Fld.key, Fld.slot]
    omega
  rw [layer_key hg, hkey] at e
  simp only [inLayer_eq, layerPlace, Bool.and_eq_false_iff, Bool.or_eq_false_iff, beq_eq_false_iff_ne,
    decide_eq_false_iff_not] at hf
  omega

/-- What leaves these fields as they were. -/
theorem Agrees.of_rd (h : Agrees t) (hu : ∀ g ∈ layerFields, ∀ p < 64, u.rd (g.pc p) = t.rd (g.pc p)) : Agrees u := by
  refine ⟨fun g hg layer hl i hi => ?_⟩
  rw [hu g hg _ (by omega), hu g hg _ (by omega)]
  exact h.equal g hg layer hl i hi

theorem Agrees.wr {f : Fld} {v : Nat} (h : Agrees t) (hf : inLayer f = false := by rfl) : Agrees (t.wr f v) :=
  h.of_rd fun _ hg _ hp => State.rd_wr_ne t (layer_key_ne hf hg hp) v

section
variable {f g : Fld} {n v : Nat}

theorem Agrees.put (h : Agrees t) (hf : inLayer f = false := by rfl) : Agrees (t.put f) := h.wr hf
theorem Agrees.clr (h : Agrees t) (hf : inLayer f = false := by rfl) : Agrees (t.clr f) := h.wr hf
theorem Agrees.wrb {b : Bool} (h : Agrees t) (hf : inLayer f = false := by rfl) : Agrees (t.wrb f b) := h.wr hf
theorem Agrees.count (h : Agrees t) (hf : inLayer f = false := by rfl) : Agrees (t.count f n) := h.wr hf
theorem Agrees.bump (h : Agrees t) (hf : inLayer f = false := by rfl) : Agrees (t.bump f) := h.wr hf
theorem Agrees.drop (h : Agrees t) (hf : inLayer f = false := by rfl) : Agrees (t.drop f n) := h.wr hf
theorem Agrees.setBit (h : Agrees t) (hf : inLayer f = false := by rfl) : Agrees (t.setBit f n) := h.wr hf
theorem Agrees.clrBit (h : Agrees t) (hf : inLayer f = false := by rfl) : Agrees (t.clrBit f n) := h.wr hf

/-- A loop that clears fields of one place. -/
theorem Agrees.clrAll {l : List Fld} {place : Fld → Fld} (h : Agrees t)
    (hl : l.all (fun f => !inLayer (place f)) = true := by rfl) : Agrees (t.forAll l fun u f => u.clr (place f)) := by
  refine h.forAllMem fun u f hf k => k.clr ?_
  simpa using List.all_eq_true.1 hl f hf

theorem Agrees.longest (h : Agrees t) (hf : inLayer f = false := by rfl) : Agrees (t.longest f v) :=
  .ite (h.wr hf) h

theorem Agrees.wr64 (h : Agrees t) (hf : inLayer f = false := by rfl) (hg : inLayer g = false := by rfl) :
    Agrees (t.wr64 f g v) := (h.wr hf).wr hg

end

/-- A soft reset of a page that keeps these fields. -/
theorem Agrees.resetPage {page : Nat} {keep : Nat → Bool} (h : Agrees t)
    (hk : ∀ g ∈ layerFields, ∀ p < 64, page = 0x40 + p → keep (g.pc p).key = true) :
    Agrees (t.resetPage page keep) := by
  refine h.of_rd fun g hg p hp => ?_
  simp only [State.rd, State.resetPage]
  rw [get_filter_key fun k => !(decide (k / 131072 % 128 = page) && decide (0x100 ≤ k / 32 % 4096)) || keep k, if_pos]
  by_cases he : page = 0x40 + p
  · simp [hk g hg p hp he]
  · simp [layer_key_page hg hp, Ne.symm he]

/-! ## A write of one of these fields in all four pages of a layer -/

/-- Of one field, the first `n` pages of a layer read `v`; beside these four the fields agree. -/
structure Written (g : Fld) (layer v n : Nat) (t : State) : Prop where
  others : ∀ f ∈ layerFields, ∀ l < 16, f ≠ g ∨ l ≠ layer → ∀ i < 4, t.rd (f.pc (l * 4 + i)) = t.rd (f.pc (l * 4))
  done : layer < 16 → ∀ i < n, t.rd (g.pc (layer * 4 + i)) = v

section
variable {g : Fld} {layer v n : Nat}

theorem Agrees.written (h : Agrees t) : Written g layer v 0 t :=
  ⟨fun f hf l hl _ => h.equal f hf l hl, fun _ _ hi => absurd hi (Nat.not_lt_zero _)⟩

theorem Written.agrees (h : Written g layer v 4 t) : Agrees t := by
  refine ⟨fun f hf l hl i hi => ?_⟩
  by_cases hfl : f = g ∧ l = layer
  · obtain ⟨rfl, rfl⟩ := hfl
    rw [h.done hl i hi]
    exact (h.done hl 0 (by decide)).symm
  · exact h.others f hf l hl (by tauto) i hi

theorem Written.next (hg : g ∈ layerFields) (h : Written g layer (v % 2 ^ g.width) n t) (hn : n < 4)
    (hu : ∀ f ∈ layerFields, ∀ p < 64, u.rd (f.pc p) = (t.wr (g.pc (layer * 4 + n)) v).rd (f.pc p)) :
    Written g layer (v % 2 ^ g.width) (n + 1) u := by
  refine ⟨fun f hf l hl hfl i hi => ?_, fun hl i hi => ?_⟩
  · have hne : ∀ j < 4, (f.pc (l * 4 + j)).key ≠ (g.pc (layer * 4 + n)).key := fun j hj e => by
      obtain ⟨hfg, hp⟩ := (layer_key_inj hf hg).1 e
      obtain hne | hne := hfl
      · exact hne hfg
      · omega
    rw [hu f hf _ (by omega), hu f hf _ (by omega), State.rd_wr_ne _ (hne i hi),
      State.rd_wr_ne (f := g.pc (layer * 4 + n)) (g := f.pc (l * 4)) _ (hne 0 (by decide))]
    exact h.others f hf l hl hfl i hi
  · rw [hu g hg _ (by omega)]
    by_cases hin : i = n
    · rw [hin, State.rd_wr_self]
      rfl
    · rw [State.rd_wr_ne _ fun e => hin (by have := (layer_key_inj hg hg).1 e; omega)]
      exact h.done hl i (by omega)

/-- A loop over a layer's four pages that writes one value to one of these fields in each. -/
theorem Agrees.writeLayer {a : State → Nat → State} (hg : g ∈ layerFields) (h : Agrees t)
    (ha : ∀ u i, ∀ f ∈ layerFields, ∀ p < 64, (a u i).rd (f.pc p) = (u.wr (g.pc (layer * 4 + i)) v).rd (f.pc p)) :
    Agrees (t.forAll (List.range 4) a) := by
  have hn : ∀ n ≤ 4, Written g layer (v % 2 ^ g.width) n (t.forAll (List.range n) a) := by
    intro n hn
    induction n with
    | zero => exact h.written
    | succ n ih =>
      simp only [State.forAll, List.range_succ, List.foldl_append, List.foldl_cons, List.foldl_nil]
      exact .next hg (ih (by omega)) (by omega) (ha _ n)
  exact (hn 4 le_rfl).agrees

end

/-! ## The other components -/

/-- Whatever changes beside the register file. -/
theorem Agrees.upd (h : Agrees t) {pending lines now free out pages transit nextReq stalled pcs layers kerf repair
    recoveries folio bank crypto gauge chisel dove ports lds mbox lanes spline clk domains sys cals sensors therm pin
    bist otp sb} :
    Agrees { t with pending, lines, now, free, out, pages, transit, nextReq, stalled, pcs, layers, kerf, repair,
                    recoveries, folio, bank, crypto, gauge, chisel, dove, ports, lds, mbox, lanes, spline, clk, domains,
                    sys, cals, sensors, therm, pin, bist, otp, sb } := ⟨h.equal⟩

theorem Agrees.setLine {a : Nat} {l : StoredLine} (h : Agrees t) : Agrees (t.setLine a l) := h.upd
theorem Agrees.clearLines {lo hi : Nat} (h : Agrees t) : Agrees (t.clearLines lo hi) := h.upd
theorem Agrees.replaceLines {lo hi : Nat} {new : Sparse StoredLine} (h : Agrees t) :
    Agrees (t.replaceLines lo hi new) := h.upd

end Sys2Proof.Proofs

/-! # Each operation of the model keeps the fields of a layer equal, in the order of its files -/

namespace Sys2Proof.Proofs

open Sys2Proof Sys2Proof.Machine Sys2Proof.Laws

-- The walk has more theorems than the check has memory for threads: they are compiled one after another.
set_option Elab.async false

variable {t u : State} {who : Accessor} {r : Req} {req : HostReq} {e : Err} {c : Commit} {img : Image} {f : LineFaults}
  {pc layer bank row page off loc lo hi len base stop addr dpa access master code kind reason source : Nat}
  {k n q p l g d u' ring ident op opcode offset version secver cmd mode st level rate : Nat}
  {us ns stroke osn vinMv v0Mv : Nat}
  {agree decAgree ok verified sigOk bind limited safe all prot partFlit promoted pull fast mld toHo : Bool}
  {p0 p1 fmSession : Bool} {port : PortNo} {ld : LdNo} {slot : KerfNo} {range : RangeNo} {dom : DomainNo}
  {xing : XingNo} {group : GroupNo} {lane : LaneNo} {key : BitVec 16} {val : Word} {ack : BitVec 24} {bound : BitVec 4}
  {session : Session} {before : KeyTables} {j : Job} {m : DoveMsg} {h' : Hello} {results : List CalResult}
  {act : State → State}

/-! ### Machine/Ops -/

theorem Agrees.advance {dt : Nat} (h : Agrees t) : Agrees (t.advance dt) := h.upd
theorem Agrees.advanceTo {t' : Nat} (h : Agrees t) : Agrees (t.advanceTo t') := h.advance
theorem Agrees.emit {o : Out} (h : Agrees t) : Agrees (t.emit o) := h.upd
theorem Agrees.drawn (h : Agrees t) : Agrees t.drawn := h.upd
theorem Agrees.setPage {v : PageState} (h : Agrees t) : Agrees (t.setPage p v) := h.upd
theorem Agrees.setPc {v : Pc} (h : Agrees t) : Agrees (t.setPc p v) := h.upd
theorem Agrees.setLayer {v : Layer} (h : Agrees t) : Agrees (t.setLayer l v) := h.upd
theorem Agrees.setEng {v : KerfEng} (h : Agrees t) : Agrees (t.setEng k v) := h.upd
theorem Agrees.setQuire {v : QEntry} (h : Agrees t) : Agrees (t.setQuire q v) := h.upd
theorem Agrees.setKey {v : KeySlot} (h : Agrees t) : Agrees (t.setKey k v) := h.upd
theorem Agrees.setRights {m : Nat} {v : BitVec 256} (h : Agrees t) : Agrees (t.setRights m v) := h.upd
theorem Agrees.setRange {v : KeyRange} (h : Agrees t) : Agrees (t.setRange n v) := h.upd
theorem Agrees.setPair {v : PairForce} (h : Agrees t) : Agrees (t.setPair p v) := h.upd
theorem Agrees.setPort {v : PortState} (h : Agrees t) : Agrees (t.setPort p v) := h.upd
theorem Agrees.setLd {m : Nat} {v : LdState} (h : Agrees t) : Agrees (t.setLd m v) := h.upd
theorem Agrees.setLane {v : LaneState} (h : Agrees t) : Agrees (t.setLane n v) := h.upd
theorem Agrees.setXing {v : Crossing} (h : Agrees t) : Agrees (t.setXing n v) := h.upd
theorem Agrees.setDomain {v : DomainState} (h : Agrees t) : Agrees (t.setDomain n v) := h.upd
theorem Agrees.setCal {v : CalState} (h : Agrees t) : Agrees (t.setCal n v) := h.upd
theorem Agrees.setSensor {v : Sensor} (h : Agrees t) : Agrees (t.setSensor n v) := h.upd
theorem Agrees.setHeat {v : LayerTherm} (h : Agrees t) : Agrees (t.setHeat n v) := h.upd
theorem Agrees.setTip {e : Nat} {v : TipEntry} (h : Agrees t) : Agrees (t.setTip e v) := h.upd
theorem Agrees.fixCapacity (h : Agrees t) : Agrees t.fixCapacity := h.wr

/-! ### Machine/Flags -/

theorem Agrees.send {o : Out} (h : Agrees t) : Agrees (t.send p o) := .ite h.setPort.put (.ite h.setPort h.emit)
theorem Agrees.pageMsix (h : Agrees t) : Agrees t.pageMsix := h.forAll fun _ _ k => k.send
theorem Agrees.intOut {bit : Nat} (h : Agrees t) : Agrees (t.intOut page bit) := .ite h.pageMsix h
theorem Agrees.cause {bit : Nat} (h : Agrees t) : Agrees (t.cause page bit) := .ite h h.setBit.intOut
theorem Agrees.errPulseStart (h : Agrees t) : Agrees (t.errPulseStart source) := h.put.wr.bump.wr64.upd.emit

theorem Agrees.errEvent (h : Agrees t) : Agrees (t.errEvent source) :=
  .ite h (.ite h.bump (.ite (.ite h.bump h.upd.wr) h.errPulseStart))

theorem Agrees.fixWake (h : Agrees t) : Agrees t.fixWake := .ite h h.upd.emit
theorem Agrees.wakeFor {port : Nat} (h : Agrees t) : Agrees (t.wakeFor port) := .ite h.setPort.fixWake h
theorem Agrees.wakeOver {port : Nat} (h : Agrees t) : Agrees (t.wakeOver port) := h.setPort.fixWake

theorem Agrees.enterLog {log : Nat} {r : EventRec} {m : Nat × Nat} (h : Agrees t) : Agrees (t.enterLog log r m) :=
  .ite (.wakeFor (.ite h.setLd.send (.ite h.setLd.send h.setLd))) (.ite h.setLd.send (.ite h.setLd.send h.setLd))

theorem Agrees.aerDue {severity : Nat} {lds : List (Nat × Nat)} (h : Agrees t) : Agrees (t.aerDue severity lds) :=
  h.forAll fun _ _ k => .ite k k.setPort

theorem Agrees.report {r : Report} (h : Agrees t) : Agrees (t.report e r) := .ite h (h.forAll fun _ _ k => k.enterLog)
theorem Agrees.capture (h : Agrees t) : Agrees (t.capture e) := h.wr64.wr.wr.wr.wr.wr64.wrb.put
theorem Agrees.captureFirst (h : Agrees t) : Agrees (t.captureFirst e) := .ite h.put h.capture

theorem Agrees.tally (h : Agrees t) : Agrees (t.tally e) := by
  unfold State.tally
  split <;> exact h.put.bump

theorem Agrees.firstFatal (h : Agrees t) : Agrees (t.firstFatal page code) :=
  .ite h.bump.cause h.bump.cause.wr.wr.wr64.put

theorem Agrees.escalate (h : Agrees t) : Agrees (t.escalate page code) := .ite (.ite h.setPage h) (.ite h.put.setPage h)
theorem Agrees.isolate (h : Agrees t) : Agrees (t.isolate page) := h.wr
theorem Agrees.startWake (h : Agrees t) : Agrees (t.startWake d) := h.setDomain.wr.bump
theorem Agrees.wakeTb (h : Agrees t) : Agrees t.wakeTb := .ite h.startWake h

theorem Agrees.log (h : Agrees t) : Agrees (t.log e) := by
  unfold State.log
  extract_lets _ t₁ t₂ t₃ t₄ t₅ t₆
  have h₁ : Agrees t₁ := h.wakeTb.tally.captureFirst
  have h₂ : Agrees t₂ := .ite h₁.intOut h₁
  have h₃ : Agrees t₃ := h₂.report
  have h₄ : Agrees t₄ := h₃.aerDue
  have h₅ : Agrees t₅ := .ite h₄.errEvent h₄
  have h₆ : Agrees t₆ := h₃.firstFatal.aerDue.errEvent
  split
  · exact .ite h₃.aerDue h₃
  · exact .ite h₄.errEvent (.ite h₄ h₅.escalate)
  · split
    · exact h₆.escalate
    · exact .ite h₆.isolate h₆
    · exact h₆

theorem Agrees.err (h : Agrees t) : Agrees (t.err page code addr) := h.log
theorem Agrees.errReq (h : Agrees t) : Agrees (t.errReq page code dpa access master) := h.log

/-! ### Machine/Operands -/

theorem Agrees.deny (h : Agrees t) : Agrees (t.deny who off) := by
  unfold State.deny
  split
  · exact h.bump.cause.log
  · exact h

theorem Agrees.setDomainPages (h : Agrees t) : Agrees (t.setDomainPages d st) := h.forAll fun _ _ k => .ite k.wr k
theorem Agrees.wakeDomain (h : Agrees t) : Agrees (t.wakeDomain d) := .ite h.startWake.put.wakeTb h
theorem Agrees.setGate {since : Option Nat} (h : Agrees t) : Agrees (t.setGate d since) := h.setDomain
theorem Agrees.readyDomain (h : Agrees t) : Agrees (t.readyDomain d) := h.wr.clr.setDomain.setDomainPages
theorem Agrees.runDomain (h : Agrees t) : Agrees (t.runDomain d) := .ite h h.wakeDomain.readyDomain
theorem Agrees.abortEntry (h : Agrees t) : Agrees (t.abortEntry d) := h.setGate.bump.clr.wr.setDomain

theorem Agrees.wakePage (h : Agrees t) : Agrees (t.wakePage page) := by
  unfold State.wakePage
  split
  · exact h.wakeTb
  · split
    · exact .ite h.abortEntry h.runDomain
    · exact h

theorem Agrees.command (h : Agrees t) (hact : ∀ u, Agrees u → Agrees (act u)) : Agrees (t.command who page off act) :=
  .ite h (.ite h.deny (.ite h (.ite h (hact _ h.wakePage))))

/-! ### Machine/FolioOps -/

theorem Agrees.charge {pair : Nat} (h : Agrees t) : Agrees (t.charge pair n) := h.upd
theorem Agrees.chargeEng (h : Agrees t) : Agrees (t.chargeEng master n) := h.charge
theorem Agrees.latchOver (h : Agrees t) : Agrees (t.latchOver u) := h.upd
theorem Agrees.setBlock {b : Nat} {v : BlockState} (h : Agrees t) : Agrees (t.setBlock b v) := h.upd

theorem Agrees.openStripe {o : Nat × State} (h : Agrees t) (ho : t.openStripe layer bind = some o) : Agrees o.2 := by
  simp only [State.openStripe] at ho
  split at ho
  · cases ho
  · cases ho
    exact h.upd.forAll fun _ _ k => k.setBlock

theorem Agrees.setOpen {o : Option (Nat × Nat)} (h : Agrees t) : Agrees (t.setOpen layer o) := h.upd

theorem Agrees.takeSlot {o : Nat × State} (h : Agrees t) (ho : t.takeSlot layer bind = some o) : Agrees o.2 := by
  simp only [State.takeSlot] at ho
  split at ho
  · cases ho
    exact h.setOpen
  · obtain ⟨a, ha, rfl⟩ := Option.map_eq_some_iff.1 ho
    exact (h.openStripe ha).setOpen

theorem Agrees.nextSlot {o : Nat × State} (h : Agrees t) (ho : t.nextSlot bind = some o) : Agrees o.2 := by
  simp only [State.nextSlot] at ho
  split at ho
  · rename_i a ha
    cases ho
    exact (h.takeSlot ha).upd
  · obtain ⟨a, ha, rfl⟩ := Option.map_eq_some_iff.1 ho
    exact (h.takeSlot ha).upd

theorem Agrees.fixEnergy (h : Agrees t) : Agrees t.fixEnergy := h.wr.wr

theorem Agrees.fixLevel (h : Agrees t) : Agrees t.fixLevel :=
  .ite (.forAll (.ite (.ite h h.wrb.cause) (.cause (.wr (.ite h h.wrb.cause)))) fun _ _ k => k.setBit.cause)
    (.ite (.ite h h.wrb.cause) (.cause (.wr (.ite h h.wrb.cause))))

theorem Agrees.fixBudget (h : Agrees t) : Agrees t.fixBudget := by
  unfold State.fixBudget
  extract_lets _ _ _ t₁ t₂ _ t₃
  have h₁ : Agrees t₁ := h.wr
  have h₂ : Agrees t₂ := h₁.cause.err
  have h₃ : Agrees t₃ := by
    unfold t₃
    split
    · split
      · exact .ite h₂.upd h₂
      · exact h₂.upd
    · exact h₁
  exact .ite h h₃.fixLevel

theorem Agrees.markDirty (h : Agrees t) : Agrees (t.markDirty q master) :=
  .ite h (.ite h.setQuire.upd h.setQuire.upd.upd.fixLevel)

theorem Agrees.markCleared (h : Agrees t) : Agrees (t.markCleared q) :=
  .ite h.setQuire (.ite h.setQuire.upd.fixLevel h.setQuire.upd.fixBudget)

theorem Agrees.beginHolding (h : Agrees t) : Agrees t.beginHolding := .ite h.bump.put.cause.upd h.bump
theorem Agrees.hold (h : Agrees t) : Agrees (t.hold r) := h.beginHolding.upd
theorem Agrees.holdEngine (h : Agrees t) : Agrees (t.holdEngine master) := .ite h h.beginHolding.upd
theorem Agrees.endHolding (h : Agrees t) : Agrees t.endHolding := .ite (.longest (.clr (.ite h h.upd))) (.ite h h.upd)
theorem Agrees.setPersist {v : Nat} (h : Agrees t) : Agrees (t.setPersist v) := .ite h h.wr.cause

theorem Agrees.orderCkpt (h : Agrees t) : Agrees (t.orderCkpt kind) := by
  unfold State.orderCkpt
  split
  · exact h.put
  · exact h.upd

theorem Agrees.endCkpt (h : Agrees t) : Agrees t.endCkpt := .ite h.upd.clr.orderCkpt h.upd
theorem Agrees.gpfDone {w : GpfWait} (h : Agrees t) : Agrees (t.gpfDone w) := .ite h.emit.cause.orderCkpt h.emit.cause

theorem Agrees.gpfWritten {id : Nat} (h : Agrees t) : Agrees (t.gpfWritten id) :=
  .ite h (h.upd.forAll fun _ _ k => k.gpfDone)

theorem Agrees.appendSys (h : Agrees t) : Agrees (t.appendSys kind) := h.drawn.upd
theorem Agrees.reserveBsns (h : Agrees t) : Agrees t.reserveBsns := h.appendSys.upd.wr64

theorem Agrees.takeBsn (h : Agrees t) : Agrees (t.takeBsn bind).2 :=
  .snd (.ite h.appendSys.upd.reserveBsns h.appendSys.upd)

theorem Agrees.setSlot {d : Option SlotData} (h : Agrees t) : Agrees (t.setSlot n d) := h.upd

/-! ### Machine/GaugeOps -/

theorem Agrees.fixGauge (h : Agrees t) : Agrees t.fixGauge :=
  .ite (.ite h.wr.wr.wr.wr.upd h.wr.wr.wr.wr.upd.put.bump.cause) h.wr.wr.wr.wr

theorem Agrees.countMiss {pair : Nat} (h : Agrees t) : Agrees (t.countMiss pair) := h.bump.setBit.cause

theorem Agrees.applyStaged (h : Agrees t) : Agrees t.applyStaged :=
  .ite h (.cause (.clr (.upd (h.forAll fun _ _ k => k.setPair))))

theorem Agrees.endWindow {short : Bool} (h : Agrees t) : Agrees (t.endWindow short) := by
  unfold State.endWindow
  extract_lets t₁ t₂ t₃ t₄
  have h₁ : Agrees t₁ := .ite h (h.forAll fun _ _ k => k.countMiss)
  have h₂ : Agrees t₂ := h₁.forAll fun _ _ k => k.wr
  have h₃ : Agrees t₃ := h₂.bump.wrb
  have h₄ : Agrees t₄ := .ite h₃.clr.cause h₃
  exact h₄.wr.upd.applyStaged.fixGauge

/-! ### Machine/CalOps -/

theorem Agrees.setCalMode {m : Nat} (h : Agrees t) : Agrees (t.setCalMode u' m) := h.wr (inLayer_ite rfl rfl)
theorem inLayer_calPending {u : Nat} : inLayer (calPending u) = false := inLayer_ite rfl rfl

theorem Agrees.beginRun {command : Bool} (h : Agrees t) : Agrees (t.beginRun u' command) :=
  .ite h (Agrees.setCalMode (h.clr inLayer_calPending)).setCal

theorem Agrees.calEvent {command : Bool} (h : Agrees t) : Agrees (t.calEvent u' command) :=
  .ite h (.ite (h.setCal.put inLayer_calPending) h.beginRun)

theorem Agrees.stopRun (h : Agrees t) : Agrees (t.stopRun u') := h.setCal.setCalMode

theorem Agrees.fixCal (h : Agrees t) : Agrees (t.fixCal u') :=
  .ite (.ite h h.stopRun.setCalMode) (.ite (.ite h.setCalMode.beginRun h.setCalMode) h)

theorem Agrees.fixCalLayer (h : Agrees t) : Agrees (t.fixCalLayer layer) := h.forAll fun _ _ k => k.fixCal
theorem Agrees.calDrift (h : Agrees t) : Agrees (t.calDrift u') := .ite h.calEvent h

/-! ### Machine/DramOps -/

theorem Agrees.runLfsr (h : Agrees t) : Agrees (t.runLfsr pc) := .ite h h.setPc
theorem Agrees.runLfsrs (h : Agrees t) : Agrees (t.runLfsrs layer) := h.forAll fun _ _ k => k.runLfsr
theorem Agrees.sampleAt {t' : Nat} (h : Agrees t) : Agrees (t.sampleAt pc bank row t') := .ite h h.setPc
theorem Agrees.sample (h : Agrees t) : Agrees (t.sample pc bank row) := h.runLfsr.sampleAt

theorem Agrees.heatCount {acts bursts refs : Nat} (h : Agrees t) : Agrees (t.heatCount layer acts bursts refs) :=
  h.setHeat

theorem Agrees.activateRow (h : Agrees t) : Agrees (t.activateRow pc bank row) := h.setPc.sample.heatCount
theorem Agrees.refreshed (h : Agrees t) : Agrees (t.refreshed pc n) := h.count.heatCount

theorem Agrees.takeDivider (h : Agrees t) : Agrees (t.takeDivider layer) :=
  .ite h h.runLfsrs.setLayer.fixCalLayer.fixGauge

theorem Agrees.gate (h : Agrees t) : Agrees (t.gate layer) :=
  .writeLayer (g := PC_SR_STAT.clk_gated) (v := 1) (by decide) h.runLfsrs fun _ _ _ _ _ _ => rfl

theorem Agrees.ungate (h : Agrees t) : Agrees (t.ungate layer) :=
  .ite h (.takeDivider (.writeLayer (g := PC_SR_STAT.clk_gated) (v := 0) (by decide) h fun _ _ _ _ _ _ => rfl))

theorem Agrees.startEntry (h : Agrees t) : Agrees (t.startEntry pc) := h.setPc.put
theorem Agrees.abortSr (h : Agrees t) : Agrees (t.abortSr pc) := h.setPc.refreshed.clr.bump.clr

theorem Agrees.issueSre (h : Agrees t) : Agrees (t.issueSre pc) :=
  .ite h.advanceTo.refreshed.setPc.clr.put.bump.cause.fixCal.gate h.advanceTo.refreshed.setPc.clr.put.bump.cause.fixCal

theorem Agrees.rouse {who : Nat × Nat × Nat} (h : Agrees t) : Agrees (t.rouse pc who) :=
  .ite h.abortSr (.ite h.ungate.setPc.put h)

theorem Agrees.exitSr (h : Agrees t) : Agrees (t.exitSr pc) := by
  unfold State.exitSr
  extract_lets _ _ _ _ _ _ _ _ _ t₅
  have h₅ : Agrees t₅ := h.runDomain.advanceTo.ungate.setPc.clr.cause.fixCal
  split
  · exact h₅
  · exact .ite h₅.longest.errReq h₅.longest

theorem Agrees.wakeForEngine {who : Nat × Nat × Nat} (h : Agrees t) : Agrees (t.wakeForEngine pc who) :=
  .setPc (.ite h.rouse.exitSr h.rouse)

theorem Agrees.engineRow (h : Agrees t) : Agrees (t.engineRow loc access master) :=
  .ite h.wakeForEngine h.wakeForEngine.activateRow

theorem Agrees.strokeRows (h : Agrees t) : Agrees (t.strokeRows lo access master) := h.forAll fun _ _ k => k.engineRow
theorem Agrees.quireRows (h : Agrees t) : Agrees (t.quireRows q access master) := h.forAll fun _ _ k => k.engineRow

/-! ### Machine/RepairOps -/

theorem Agrees.addPoison (h : Agrees t) : Agrees (t.addPoison loc source) := .ite h (.ite h.upd h.upd)
theorem Agrees.dropPoison (h : Agrees t) : Agrees (t.dropPoison loc) := h.upd
theorem Agrees.dropWb (h : Agrees t) : Agrees (t.dropWb loc) := .ite h.setPc h

theorem Agrees.poisonLine {d : LineData} (h : Agrees t) : Agrees (t.poisonLine loc d source) :=
  h.dropWb.setLine.addPoison

theorem Agrees.appendRecord (h : Agrees t) : Agrees t.appendRecord := h.put.upd
theorem Agrees.startMigrate (h : Agrees t) : Agrees (t.startMigrate pc bank) := h.wr.wr.wr.setEng
theorem Agrees.dramEvent (h : Agrees t) : Agrees (t.dramEvent page code pc bank row) := h.report
theorem Agrees.spareBit (h : Agrees t) : Agrees (t.spareBit pc) := .ite h.setBit h.setBit

theorem Agrees.retireBank (h : Agrees t) : Agrees (t.retireBank loc) :=
  .ite h (.ite (.appendRecord (.ite h.wr.wr.spareBit.cause.dramEvent.upd.bump
    h.wr.wr.spareBit.cause.dramEvent.startMigrate)) h.cause.err)

theorem Agrees.triggerRepair (h : Agrees t) : Agrees (t.triggerRepair pc bank row) := .ite h h.upd

theorem Agrees.eraseLane {lane : Nat} (h : Agrees t) : Agrees (t.eraseLane pc lane) := by
  unfold State.eraseLane
  extract_lets n t₁
  have h₁ : Agrees t₁ := .wr h.wr (by unfold Fld.pc; split <;> rfl)
  exact .ite h (.ite h₁.cause.err.appendRecord (.ite h h.setPc.err))

theorem Agrees.laneEvent {lanes : List Nat} (h : Agrees t) : Agrees (t.laneEvent pc bank lanes) :=
  h.forAll fun _ _ k => .ite k.setPc.bump.eraseLane k.setPc.bump

theorem Agrees.watchRow {lanes : List Nat} (h : Agrees t) : Agrees (t.watchRow pc bank row lanes) := by
  unfold State.watchRow
  extract_lets _ hit t₁ _ _ _ t₂
  have h₁ : Agrees t₁ := .ite h.triggerRepair h
  have h₂ : Agrees t₂ := .ite h₁.setPc h₁.setPc.bump
  cases hit with
  | some w => exact .ite h₁ (.laneEvent (.ite h₁.setPc.triggerRepair h₁.setPc))
  | none => exact h₂.laneEvent

theorem Agrees.sendDove (h : Agrees t) : Agrees (t.sendDove m) := .ite h (.ite h.upd h.upd.emit)

theorem Agrees.startRecovery {forTag lost : Bool} (h : Agrees t) : Agrees (t.startRecovery loc forTag lost) :=
  .ite h.upd h.upd.sendDove

theorem Agrees.checkerFault (h : Agrees t) : Agrees (t.checkerFault code dpa access master) := h.bump.cause.errReq

theorem Agrees.countCorrected (h : Agrees t) : Agrees (t.countCorrected pc n) :=
  h.setHeat.bump (by split <;> [rfl; split <;> rfl])

theorem Agrees.queueWriteback {l : StoredLine} (h : Agrees t) : Agrees (t.queueWriteback pc loc l) := .ite h.setPc h

theorem Agrees.observe {v : Verdict} (h : Agrees t) : Agrees (t.observe v dpa access master) := by
  unfold State.observe
  extract_lets _ _ t₁ t₂
  have h₁ : Agrees t₁ := .ite h.countCorrected.errReq h
  have h₂ : Agrees t₂ := .ite h h₁.queueWriteback.watchRow
  split
  · exact h₂.bump
  · exact h₂.bump.cause.errReq.addPoison.retireBank
  · exact h₂

theorem Agrees.takeInjection {target : Nat} (h : Agrees t) : Agrees (t.takeInjection kind target).2 := by
  unfold State.takeInjection
  split
  · exact .snd h.upd
  · exact .snd h

theorem Agrees.encodeOut {l : StoredLine} {fails : Nat} (h : Agrees t) :
    Agrees (t.encodeOut loc l fails dpa access master).2 := by
  unfold State.encodeOut
  extract_lets _ i k n _ t₁ t₂
  have h₀ : Agrees k.2 := h.takeInjection.takeInjection
  have h₁ : Agrees t₁ := .ite h₀.drawn h₀
  have h₂ : Agrees t₂ := .ite h₁ h₁.count.cause
  split
  · exact .snd h₂
  · exact .snd h₂.errReq

theorem Agrees.writeLine {l : StoredLine} (h : Agrees t) : Agrees (t.writeLine loc l access master) := by
  unfold State.writeLine
  extract_lets o
  have ho : Agrees o.2 := h.engineRow.encodeOut
  clear_value o
  exact .ite ho.poisonLine ho.dropWb.setLine.dropPoison

theorem Agrees.engineRead {errs : List (Nat × Nat)} (h : Agrees t) :
    Agrees (t.engineRead loc errs agree access master).2 := by
  unfold State.engineRead
  extract_lets _ t₁ _ _ t₂ _ t₄ _ t₅
  have h₁ : Agrees t₁ := h.engineRow.takeInjection
  have h₂ : Agrees t₂ := h₁.checkerFault
  have h₄ : Agrees t₄ := h₁.observe
  have h₅ : Agrees t₅ := .ite h₄.errReq h₄
  split
  · exact .snd h
  · split
    · exact .snd (.ite h₂.errReq h₂)
    · exact .snd (.ite h₅.startRecovery h₅)

/-! ### Machine/KerfOps -/

theorem Agrees.setPush {b : Bool} (h : Agrees t) : Agrees (t.setPush q b) := h.upd
theorem Agrees.setPull {b : Bool} (h : Agrees t) : Agrees (t.setPull q b) := h.upd
theorem Agrees.demand (h : Agrees t) : Agrees (t.demand k q) := .ite h (.ite h.setEng.bump h.bump.cause)
theorem Agrees.refillDemand (h : Agrees t) : Agrees (t.refillDemand k) := h.forAll fun _ _ k => .ite k.demand k
theorem Agrees.finishQuire (h : Agrees t) : Agrees (t.finishQuire k q) := h.setEng.bump.refillDemand
theorem Agrees.engineWaits (h : Agrees t) : Agrees (t.engineWaits k) := .ite h h.wr.bump

theorem Agrees.startKerf {sel : Spans} {purpose : Nat} (h : Agrees t) : Agrees (t.startKerf k sel purpose) :=
  h.setEng.wr.wr

theorem Agrees.forgetLines (h : Agrees t) : Agrees (t.forgetLines lo hi) := h.upd
theorem Agrees.clearSpan (h : Agrees t) : Agrees (t.clearSpan lo hi) := h.clearLines.forgetLines

theorem Agrees.clearQuireNow (h : Agrees t) : Agrees (t.clearQuireNow q) :=
  h.quireRows.clearSpan.markCleared.finishQuire.chargeEng

theorem Agrees.liftPoisoned (h : Agrees t) : Agrees (t.liftPoisoned q) := by
  -- The kernel would run the body to compare it with its match: so the states on the way are named only, by `id`.
  generalize hF : @State.liftPoisoned = F
  delta State.liftPoisoned at hF
  subst hF
  beta_reduce
  extract_lets +onlyGivenNames lo t₁ t₂ t₃
  have h₃ : Agrees t₃ := (h.replaceLines.forAll fun _ _ k => k.addPoison).bump.cause.err
  clear_value t₃
  revert t₃
  refine id fun t₃ h₃ => ?_
  extract_lets _ t₄ _ t₅
  have h₅ : Agrees t₅ := h₃.setQuire.upd.fixBudget
  clear_value t₅
  revert t₅
  refine id fun t₅ h₅ => ?_
  split
  · exact .ite h₅.setPull h₅.setPush
  · exact h₅

theorem Agrees.liftQuireNow {fails : Nat} (h : Agrees t) : Agrees (t.liftQuireNow q fails) := by
  unfold State.liftQuireNow
  extract_lets _ t₁ t₂
  have h₁ : Agrees t₁ := h.quireRows.chargeEng.forgetLines
  have h₂ : Agrees t₂ := by
    unfold t₂
    split
    · exact h₁.liftPoisoned
    · exact .setQuire (h₁.replaceLines.forAll fun _ _ k => k.addPoison)
  exact .finishQuire (.ite h₂.cause h₂)

theorem Agrees.serveDemands (h : Agrees t) : Agrees (t.serveDemands k q n) := by
  induction n generalizing t with
  | zero => exact h
  | succ n ih =>
    unfold State.serveDemands
    extract_lets t₁
    have h₁ : Agrees t₁ := by
      unfold t₁
      split
      · exact h
      · exact .ite h.clearQuireNow h.liftQuireNow
    exact .ite h (ih (.ite h₁.demand h₁))

theorem Agrees.ensureQuire (h : Agrees t) : Agrees (t.ensureQuire q) := by
  unfold State.ensureQuire
  split
  · exact h.demand.serveDemands
  · exact h

/-! ### Machine/Access -/

theorem Agrees.busy (h : Agrees t) : Agrees (t.busy p) := h.setPort

theorem Agrees.dropOld {port : Nat} (h : Agrees t) : Agrees (t.dropOld port) := by
  unfold State.dropOld
  exact h.bump.err

theorem Agrees.answerRead {d : Option LineData} (h : Agrees t) : Agrees (t.answerRead r d) := by
  unfold State.answerRead
  split
  · exact h.busy.emit
  · exact h.dropOld
  · exact h

theorem Agrees.answerWrite {good : Bool} (h : Agrees t) : Agrees (t.answerWrite r good) := by
  unfold State.answerWrite
  split
  · exact h.busy.emit.gpfWritten
  · exact h.dropOld.gpfWritten
  · exact h

theorem Agrees.tellLd {m : Nat × Nat} (h : Agrees t) : Agrees (t.tellLd e m) := .ite h h.enterLog.aerDue
theorem Agrees.endRefused (h : Agrees t) : Agrees (t.endRefused r) := .ite h.answerRead h.answerWrite

theorem Agrees.refuse (h : Agrees t) : Agrees (t.refuse page code r) := by
  unfold State.refuse
  extract_lets _ t₁ t₂
  have h₁ : Agrees t₁ := h.log
  have h₂ : Agrees t₂ := by
    unfold t₂
    split
    · exact h₁.tellLd
    · exact h₁.tellLd
    · exact h₁
  exact h₂.endRefused

theorem Agrees.quietReport {port ld : Nat} (h : Agrees t) : Agrees (t.quietReport port ld r) := h.enterLog.aerDue

theorem Agrees.refuseQuiet (h : Agrees t) : Agrees (t.refuseQuiet r) := by
  unfold State.refuseQuiet
  split
  · exact h.quietReport.endRefused
  · exact h.quietReport.endRefused
  · exact h.endRefused

theorem Agrees.refuseKey (h : Agrees t) : Agrees (t.refuseKey r code) := by
  unfold State.refuseKey
  extract_lets t₁ t₂
  have h₁ : Agrees t₁ := h.bump.cause
  have h₂ : Agrees t₂ := by
    unfold t₂
    split
    · exact .ite h₁.bump h₁
    · exact h₁
  exact h₂.refuse

theorem Agrees.poisonEvent (h : Agrees t) : Agrees (t.poisonEvent r) := h.report
theorem Agrees.setCached {t' : Option TagLine} (h : Agrees t) : Agrees (t.setCached addr t') := h.upd

theorem Agrees.writeBackTag {t' : TagLine} (h : Agrees t) : Agrees (t.writeBackTag addr t') :=
  .ite h.dropWb.setLine.setCached.charge h

theorem Agrees.flushTags (h : Agrees t) : Agrees t.flushTags := h.forAll fun _ _ k => k.writeBackTag

theorem Agrees.cacheTag {t' : TagLine} (h : Agrees t) : Agrees (t.cacheTag addr t') := by
  unfold State.cacheTag
  extract_lets _ _ t₁ t₂
  have h₁ : Agrees t₁ := by
    unfold t₁
    split
    · exact h.writeBackTag
    · exact h
  have h₂ : Agrees t₂ := .ite h₁.setCached.drawn h
  exact h₂.setCached

theorem Agrees.tagLost (h : Agrees t) : Agrees (t.tagLost addr dpa master) := by
  unfold State.tagLost
  extract_lets t₁
  have h₁ : Agrees t₁ := by
    unfold t₁
    refine .forAll h (fun _ _ k => .ite k (.ite
      (.ite (.startRecovery (.poisonLine (.ite k.observe k))) (.poisonLine (.ite k.observe k)))
      (.report (.ite (.startRecovery (.poisonLine (.ite k.observe k))) (.poisonLine (.ite k.observe k))))))
  exact h₁.setLine.setCached.markDirty.markDirty.cause.log

theorem Agrees.fetchTag (h : Agrees t) : Agrees (t.fetchTag r f).2 := by
  unfold State.fetchTag
  extract_lets _ _ _ _ t₂
  have h₂ : Agrees t₂ := h.bump.charge.engineRow.observe
  split
  · exact .snd h.bump
  · exact .snd h.tagLost
  · split
    · exact .snd h₂.tagLost
    · exact .snd h₂.cacheTag

theorem Agrees.writeTag {sel : Nat × KeySlot} {cipher : LineData} {fa : LineFaults} (h : Agrees t) :
    Agrees (t.writeTag r sel cipher fa) :=
  .ite h h.takeInjection.fetchTag.cacheTag

theorem Agrees.tagFailed (h : Agrees t) : Agrees t.tagFailed := h.bump.cause

theorem Agrees.openLine {v : Verdict} {fa : LineFaults} (h : Agrees t) : Agrees (t.openLine r v fa).2 := by
  unfold State.openLine
  extract_lets
  split
  · exact .snd h.errReq
  · split
    · exact .snd h
    · split
      · split <;> exact .snd h.fetchTag
      · split
        · exact .snd h.fetchTag
        · exact .snd h.fetchTag.tagFailed.errReq

theorem Agrees.upset (h : Agrees t) : Agrees (t.upset loc f).2 := .snd h.takeInjection.takeInjection

theorem Agrees.readLine (h : Agrees t) : Agrees (t.readLine r f).2 := by
  unfold State.readLine
  extract_lets _ _ t₁ _ t₂
  have h₁ : Agrees t₁ := h.upset
  have h₂ : Agrees t₂ := h₁.observe
  split
  · exact .snd h₁
  · split
    · exact .snd h₁.checkerFault
    · split
      · exact .snd h₂
      · split
        · exact .snd h₂.startRecovery
        · exact .snd h₂.poisonEvent
      · split
        · exact .snd h₂.startRecovery
        · exact .snd h₂
      · exact h₂.openLine

theorem Agrees.joinRecovery (h : Agrees t) : Agrees (t.joinRecovery r) := h.upd

theorem Agrees.finishRead (h : Agrees t) : Agrees (t.finishRead r f) := by
  unfold State.finishRead
  extract_lets
  split
  · exact h.readLine.answerRead
  · exact h.readLine.answerRead
  · exact h.readLine.joinRecovery

theorem Agrees.storeLine {d : LineData} (h : Agrees t) : Agrees (t.storeLine r d f) :=
  .ite h.takeInjection.encodeOut.poisonLine.errReq
    (.ite h.takeInjection.encodeOut.poisonLine h.takeInjection.encodeOut.dropWb.setLine.dropPoison.writeTag)

theorem Agrees.discardWrite {d : LineData} (h : Agrees t) : Agrees (t.discardWrite r d page code) := h.poisonLine.errReq

theorem Agrees.mergeWrite {last tag : Bool} (h : Agrees t) : Agrees (t.mergeWrite r f last tag) := by
  unfold State.mergeWrite
  extract_lets _ _ _ _ t₁ _ t₂ _ _ _ t₃
  have h₁ : Agrees t₁ := h.upset
  have h₂ : Agrees t₂ := h₁.observe
  have h₃ : Agrees t₃ := .ite h₂.fetchTag.bump.errReq h₂.fetchTag
  split
  · exact h₁.checkerFault.discardWrite
  · split
    · exact h₂.storeLine
    · exact .ite h₂.startRecovery.joinRecovery h₂.discardWrite
    · exact .ite h₂.startRecovery.joinRecovery h₂.discardWrite
    · split
      · exact h₂.errReq.discardWrite
      · split
        · exact h₂.storeLine
        · split
          · exact .ite h₂.fetchTag.joinRecovery h₂.fetchTag.discardWrite
          · exact .ite h₃.storeLine (.ite h₂.fetchTag.tagFailed.startRecovery.joinRecovery
              h₂.fetchTag.tagFailed.discardWrite)

theorem Agrees.finishWrite (h : Agrees t) : Agrees (t.finishWrite r f) :=
  .ite h.poisonLine (.ite h.mergeWrite h.storeLine)

theorem Agrees.perform (h : Agrees t) : Agrees (t.perform r) := .ite h.finishRead h.finishWrite

theorem Agrees.mirrorWrite (h : Agrees t) : Agrees (t.mirrorWrite r) := by
  unfold State.mirrorWrite
  extract_lets _ _ t₁ t₂
  have h₁ : Agrees t₁ := h.upd
  have h₂ : Agrees t₂ := .ite h₁.sendDove h₁
  split
  · exact h
  · exact .ite h (.ite h₂.charge.longest h.setPush)

theorem Agrees.completeWrite (h : Agrees t) : Agrees (t.completeWrite r) :=
  .answerWrite (.mirrorWrite (.charge (h.forAll fun _ _ k => k.markDirty)))

theorem Agrees.fixDrain (h : Agrees t) : Agrees (t.fixDrain pc) := .ite h.put (.ite h.clr h)
theorem Agrees.enqueue (h : Agrees t) : Agrees (t.enqueue pc r) := h.setPc.fixDrain

theorem Agrees.forward {w : Req} (h : Agrees t) : Agrees (t.forward w r) := by
  unfold State.forward
  extract_lets
  split <;> exact h.charge.answerRead

theorem Agrees.enter (h : Agrees t) : Agrees (t.enter pc r) := by
  unfold State.enter
  extract_lets t₁
  have h₁ : Agrees t₁ := h.completeWrite
  split
  · exact .ite h.forward (.ite h₁.setPc h₁.setPc.perform)
  · exact .ite h.enqueue h₁.enqueue

theorem Agrees.waitQueue (h : Agrees t) : Agrees (t.waitQueue r) := h.cause.upd
theorem Agrees.intake (h : Agrees t) : Agrees (t.intake pc r) := .ite h.hold (.ite h.waitQueue (.ite h.enter h.setPc))
theorem Agrees.snoop {inval : Bool} (h : Agrees t) : Agrees (t.snoop p loc inval) := .ite h (.ite h h.setPort.bump.emit)

theorem Agrees.stall {w : Wait} (h : Agrees t) : Agrees (t.stall w r) := by
  unfold State.stall
  extract_lets t₁
  have h₁ : Agrees t₁ := by
    unfold t₁
    split
    · exact h.demand
    · exact h.snoop
    · exact h
  exact h₁.upd

theorem Agrees.trackRead (h : Agrees t) : Agrees (t.trackRead pc r) := by
  unfold State.trackRead
  split
  · split
    · exact h.intake
    · split
      · exact h.drawn.stall
      · exact h.setPort.intake
  · exact h.intake

theorem Agrees.serve (h : Agrees t) : Agrees (t.serve r) := by
  unfold State.serve
  split
  · exact h.stall
  · exact .ite h.joinRecovery h.rouse.trackRead

theorem Agrees.arrive (h : Agrees t) : Agrees (t.arrive r) := by
  unfold State.arrive
  split
  · exact h.refuseKey
  · exact .ite h.bump.refuse h.serve

theorem Agrees.stallEnds {w : Wait} (h : Agrees t) : Agrees (t.stallEnds w r) := by
  unfold State.stallEnds
  split
  · exact h.longest
  · exact h.longest
  · exact h

theorem Agrees.releaseStalled (h : Agrees t) : Agrees t.releaseStalled := by
  unfold State.releaseStalled
  extract_lets
  refine .forAll (h.upd.forAll fun _ _ k => k.stallEnds.serve) (fun u _ k => ?_)
  split
  · exact k.snoop
  · exact k

theorem Agrees.releaseHeld (h : Agrees t) : Agrees t.releaseHeld :=
  .endHolding (h.upd.forAll fun _ _ k => .ite k.upd k.intake)

theorem Agrees.settle {pick : Nat → Bool} (h : Agrees t) : Agrees (t.settle pick) :=
  h.forAll fun _ _ k => .ite k (.fixDrain (.forAll (k.setPc.forAll fun _ _ l => l.perform) fun _ _ l => .ite l.perform
    (.ite l.hold l.completeWrite.perform)))

theorem Agrees.reposition {src dst : Nat} (h : Agrees t) : Agrees (t.reposition src dst lo hi) := h.upd
theorem Agrees.settleLine (h : Agrees t) : Agrees (t.settleLine loc) := h.settle

theorem Agrees.callBack {write : Bool} (h : Agrees t) : Agrees (t.callBack loc write) := by
  unfold State.callBack
  split
  · exact h.setPort.bump.emit
  · exact h

theorem Agrees.recall {l : List (Nat × Nat × Bool)} (h : Agrees t) : Agrees (t.recall l) :=
  h.forAll fun _ _ k => k.snoop

theorem Agrees.coherent (h : Agrees t) (hu : Agrees u) : Agrees (t.coherent u) := .ite hu h.recall
theorem Agrees.ensure (h : Agrees t) : Agrees (t.ensure q) := .ite h.ensureQuire.releaseStalled h

theorem Agrees.engineData (h : Agrees t) : Agrees (t.engineData r).2 := by
  unfold State.engineData
  exact h.ensure.settleLine.engineRow.charge.readLine

theorem Agrees.engineWrite (h : Agrees t) : Agrees (t.engineWrite r) :=
  .perform (.charge (h.ensure.settleLine.engineRow.callBack.forAll fun _ _ k => k.markDirty))

/-! ### Machine/FolioProg -/

theorem Agrees.readQuire (h : Agrees t) : Agrees (t.readQuire q).2 := by
  unfold State.readQuire
  extract_lets lo t₁ o
  have h₁ : Agrees t₁ := h.settle.quireRows
  clear_value lo t₁
  have h₂ : Agrees o.2 := .foldl (π := fun a : Sparse StoredLine × State => a.2) h₁ fun _ _ k => k.engineRead
  exact .snd h₂

theorem Agrees.slotContents (h : Agrees t) : Agrees (t.slotContents c q).2 := by
  unfold State.slotContents
  split
  · exact .snd h
  · split
    · exact .snd h
    · exact .snd h.readQuire

theorem Agrees.programQuire {r : State × Commit} (h : Agrees t) (hr : t.programQuire c q = some r) : Agrees r.1 := by
  obtain ⟨o, ho, rfl⟩ := Option.map_eq_some_iff.1 hr
  exact .fst (h.nextSlot ho).slotContents.setSlot.chargeEng

theorem Agrees.pump (h : Agrees t) : Agrees (t.pump c n).1 := by
  induction n generalizing t c with
  | zero => exact h
  | succ n ih =>
    unfold State.pump
    split
    · exact h
    · split
      · exact ih h
      · split
        · rename_i hr
          exact ih (h.programQuire hr)
        · split
          · exact h
          · exact ih h

theorem Agrees.readBack (h : Agrees t) : Agrees (t.readBack q n) := by
  unfold State.readBack
  extract_lets
  split
  · exact h.setSlot.setQuire
  · split
    · exact h.setQuire.fixBudget
    · exact h.setQuire.fixBudget
    · exact h.setSlot

theorem Agrees.reprogram (h : Agrees t) : Agrees (t.reprogram c q n).1 := by
  unfold State.reprogram
  extract_lets _ _ _ _ t₁
  have h₁ : Agrees t₁ := h.setSlot.setOpen
  split
  · rename_i ho
    exact .fst (h₁.nextSlot ho).setSlot.chargeEng
  · exact .fst h₁

theorem Agrees.putColophon {i : Image} (h : Agrees t) : Agrees (t.putColophon i p0 p1) := h.upd.wr64.wrb
theorem Agrees.lastCommit {i : Image} (h : Agrees t) : Agrees (t.lastCommit i us) := h.wr.wr.wr

theorem Agrees.commit (h : Agrees t) : Agrees (t.commit c p0 p1) :=
  .fixBudget (.lastCommit (.putColophon (.upd (.ite h.upd.appendSys.upd h.upd))))

theorem Agrees.commitVoid (h : Agrees t) : Agrees t.commitVoid := h.takeBsn.putColophon.lastCommit.drawn

theorem Agrees.startCheckpoint {urgent : Bool} (h : Agrees t) : Agrees (t.startCheckpoint limited urgent) :=
  .ite h h.takeBsn.pump.upd

/-! ### Machine/SplineOps -/

theorem Agrees.setXingState {x v : Nat} (h : Agrees t) : Agrees (t.setXingState x v) := h.wr

/-! ### Machine/Requests -/

theorem Agrees.portRefuse {port ld : Nat} (h : Agrees t) : Agrees (t.portRefuse port ld code r) :=
  h.bump.bump.cause.refuse

theorem Agrees.hostAccess {port ld : Nat} {cache : Nat} (h : Agrees t) : Agrees (t.hostAccess port ld req r cache) := by
  unfold State.hostAccess
  extract_lets t₁ t₂
  have h₁ : Agrees t₁ := h.upd
  have h₂ : Agrees t₂ := h₁.busy
  split
  · exact h
  · split
    · exact h.bump.refuseQuiet
    · split
      · exact h₁.portRefuse
      · split
        · exact h₂.portRefuse
        · extract_lets
          split
          · exact h₂.portRefuse
          · exact .ite h₂.refuseQuiet h₂.upd

theorem Agrees.execHostRead {cache : Fin 3} (h : Agrees t) : AgreesNext (execHostRead port ld req cache t) :=
  .next h.hostAccess

theorem Agrees.execHostWrite {data : LineData} {mask : BitVec 64} {poison : Bool} (h : Agrees t) :
    AgreesNext (execHostWrite port ld req data mask poison t) :=
  .next h.hostAccess

theorem Agrees.execPcRequestArrival {pc : PcNo} {master : Fin 26} (h : Agrees t) :
    AgreesNext (execPcRequestArrival pc master t) := by
  unfold Machine.execPcRequestArrival
  extract_lets
  split
  · exact .next h
  · exact .ite (.next h) (.ite (.next h.upd.arrive) (.ite (.next h.abortEntry.upd.arrive) (.next h.wakeDomain)))

theorem Agrees.execWriteHoldRelease (h : Agrees t) : AgreesNext (execWriteHoldRelease t) := .next h.releaseHeld

theorem Agrees.execInputAdmit {pc : PcNo} (h : Agrees t) : AgreesNext (execInputAdmit pc t) := by
  unfold Machine.execInputAdmit
  split
  · exact .next h
  · exact .ite (.next h.setPc.hold) (.ite (.next h.setPc.waitQueue) (.next h.setPc.enter))

theorem Agrees.execActivateIssue {pc : PcNo} (h : Agrees t) : AgreesNext (execActivateIssue pc t) := by
  unfold Machine.execActivateIssue
  split
  · exact .next h
  · split
    · exact .next h.advanceTo.activateRow
    · exact .next h

theorem Agrees.execColumnCommandIssue {pc : PcNo} (h : Agrees t) : AgreesNext (execColumnCommandIssue pc t) := by
  unfold Machine.execColumnCommandIssue
  split
  · exact .next h
  · split
    · extract_lets _ _ _ _ _ _ _ _ _ _ t₃ t₄
      have h₃ : Agrees t₃ := h.advanceTo.setPc.longest.heatCount
      have h₄ : Agrees t₄ := .ite h₃.charge h₃
      exact .ite (.next h₄.errReq) (.next h₄)
    · exact .next h

theorem Agrees.execReadBurstComplete {pc : PcNo} {errs : List SymErr} {tag : TagFaults} {cryptoAgree : Bool}
    (h : Agrees t) : AgreesNext (execReadBurstComplete pc errs tag decAgree cryptoAgree t) := by
  unfold Machine.execReadBurstComplete
  split
  · exact .next h
  · exact .next h.setPc.finishRead

theorem Agrees.execWriteBurstIssue {pc : PcNo} {errs : List SymErr} {tag : TagFaults} {agree : ReadAgree}
    {encFails cryptoFails : Fin 3} (h : Agrees t) : AgreesNext
    (execWriteBurstIssue pc errs tag agree encFails cryptoFails t) := by
  unfold Machine.execWriteBurstIssue
  split
  · exact .next h
  · exact .ite (.next h) (.next h.setPc.finishWrite.fixDrain)

theorem Agrees.execAgePromotion {pc : PcNo} (h : Agrees t) : AgreesNext (execAgePromotion pc t) := by
  unfold Machine.execAgePromotion
  extract_lets
  split
  · exact .next h
  · exact .next h.advanceTo.setPc.bump

/-! ### Machine/Refresh -/

/-- An interrupt cause leaves these fields as they were. -/
theorem rd_cause_layer {bit : Nat} {g : Fld} (hg : g ∈ layerFields) (hp : p < 64) :
    (t.cause page bit).rd (g.pc p) = t.rd (g.pc p) := by
  have hr : Reports [INT_STAT.causes.on page] t (t.cause page bit) := (Reports.refl t).cause (List.mem_singleton.2 rfl)
  have hs := layer_slot hg
  refine hr.regs _ ?_ ?_
  · simpa using layer_key_ne (f := INT_STAT.causes.on page) rfl hg hp
  · simp only [pageOf, layer_key hg, hostPages, List.mem_cons, List.not_mem_nil, or_false]
    omega

theorem Agrees.setWindow {w : Nat} (h : Agrees t) : Agrees (t.setWindow layer w) :=
  .ite h (.fixGauge (.writeLayer (g := PC_REF_STAT.window) (v := w) (by decide) h fun _ _ _ hf _ => rd_cause_layer hf))

theorem Agrees.shortenWindow (h : Agrees t) : Agrees (t.shortenWindow layer) := h.setWindow

theorem Agrees.execWindowLengthen {layer : LayerNo} (h : Agrees t) : AgreesNext (execWindowLengthen layer t) := by
  unfold Machine.execWindowLengthen
  extract_lets _ due
  cases due with
  | none => exact .next h
  | some due => exact .ite (.next h.advanceTo) (.next h.advanceTo.setWindow)

theorem Agrees.execRefreshDue {pc : PcNo} {bank : BankNo} (h : Agrees t) : AgreesNext (execRefreshDue pc bank t) :=
  .ite (.next h) (.ite (.next h.advanceTo.setPc.err) (.next h.advanceTo.setPc))

theorem Agrees.holdBank {b : DramBank} (h : Agrees t) : Agrees (t.holdBank pc bank b) := by
  unfold State.holdBank
  split
  · exact h.setPc.sampleAt
  · exact h.setPc

theorem Agrees.excuseBank {ps : Nat} (h : Agrees t) : Agrees (t.excuseBank pc bank ps) := h.setPc

theorem Agrees.execForcedRefreshIssue {pc : PcNo} {bank : BankNo} (h : Agrees t) :
    AgreesNext (execForcedRefreshIssue pc bank t) :=
  .ite (.next h) (.next (.cause (.refreshed (.bump (.ite h.advanceTo.holdBank.excuseBank h.advanceTo.holdBank)))))

theorem Agrees.execRefreshIssue {pc : PcNo} {bank : BankNo} (h : Agrees t) : AgreesNext (execRefreshIssue pc bank t) :=
  .ite (.next h) (.ite (.next h) (.next h.setPc.refreshed))

theorem Agrees.execTargetedRefreshIssue {pc : PcNo} {bank : BankNo} (h : Agrees t) :
    AgreesNext (execTargetedRefreshIssue pc bank t) := by
  unfold Machine.execTargetedRefreshIssue
  extract_lets
  split
  · exact .next h
  · exact .ite (.next h) (.next h.advanceTo.setPc.wr.wr.put.bump.refreshed.cause)

theorem Agrees.setRefCtl {limit force : Nat} (h : Agrees t) : Agrees (t.setRefCtl pc limit force) :=
  .shortenWindow (.setWindow (h.wr.wr.forAll fun _ _ k => .ite k.setPc k))

theorem Agrees.execPostponeMaxWrite {pc : PcNo} (h : Agrees t) : AgreesNext (execPostponeMaxWrite who pc val t) :=
  .next (h.command fun _ k => k.setRefCtl)

theorem Agrees.beginSr (h : Agrees t) : Agrees (t.beginSr pc) := .ite h h.startEntry

theorem Agrees.execSrIdleExpiry {pc : PcNo} (h : Agrees t) : AgreesNext (execSrIdleExpiry pc t) :=
  .ite (.next h) (.next h.advanceTo.beginSr)

theorem Agrees.execSrNow {pc : PcNo} (h : Agrees t) : AgreesNext (execSrNow who pc t) :=
  .next (h.command fun _ k => k.beginSr)

theorem Agrees.execSreIssue {pc : PcNo} (h : Agrees t) : AgreesNext (execSreIssue pc t) :=
  .ite (.next h) (.next h.issueSre)

theorem Agrees.forceSr (h : Agrees t) : Agrees (t.forceSr pc) := .ite (.issueSre (.ite h h.startEntry)) h

theorem Agrees.execSrxIssue {pc : PcNo} (h : Agrees t) : AgreesNext (execSrxIssue pc t) :=
  .ite (.next h) (.next h.exitSr)

/-! ### Machine/ChiselOps -/

theorem Agrees.laneRead {key mark : Nat} (h : Agrees t) : Agrees (t.laneRead ring key mark loc).2 := by
  unfold State.laneRead
  extract_lets
  split
  · exact .snd h.refuseKey
  · split <;> exact .snd h.engineData

theorem Agrees.laneWrite {key mark : Nat} {d : LineData} (h : Agrees t) : Agrees (t.laneWrite ring key mark loc d) := by
  unfold State.laneWrite
  extract_lets
  split
  · exact h.refuseKey
  · exact h.engineWrite

theorem Agrees.readStream (h : Agrees t) : Agrees (t.readStream j base n).2 := by
  induction n with
  | zero => exact h
  | succ n ih =>
    unfold State.readStream
    extract_lets
    split
    · exact ih
    · exact ih.laneRead

theorem Agrees.gather {aux : List LaneRead} {o : JobOut} (h : Agrees t) : Agrees (t.gather j aux k n o).2 := by
  induction n generalizing t k o with
  | zero => exact h
  | succ n ih =>
    unfold State.gather
    extract_lets
    split
    · split
      · exact ih h
      · exact h
    · split
      · exact ih h
      · extract_lets
        split
        · exact ih h.laneRead
        · split
          · exact ih h.laneRead
          · exact h.laneRead
        · exact h.laneRead

theorem Agrees.runJob (h : Agrees t) : Agrees (t.runJob j).2 := by
  generalize hr : t.runJob j = r
  unfold State.runJob at hr
  split at hr
  · exact hr ▸ .snd h
  · extract_lets src mask aux n total t₁ at hr
    have h₀ : Agrees src.2 := by
      clear hr
      exact .iteSnd h h.readStream
    clear_value src
    have h₁ : Agrees t₁ := h₀.readStream.readStream.wr64
    clear_value t₁
    exact hr ▸ .iteSnd h₁ (.iteSnd h₁ (.iteSnd (.snd h₁.gather) h₁))

theorem Agrees.writeResult {o : JobOut} (h : Agrees t) : Agrees (t.writeResult j o).2.2 := by
  unfold State.writeResult
  refine .foldl (π := fun a : Nat × Nat × State => a.2.2) h fun _ _ k => ?_
  extract_lets
  split
  · exact k
  · split
    · exact .thd k.refuseKey
    · exact .thd k.laneWrite

theorem Agrees.writeRecord {o : JobOut} {bytes : Nat} {irq : Bool} (h : Agrees t) :
    Agrees (t.writeRecord j o bytes irq) :=
  .ite h.laneWrite.count (.ite (.upd (.ite h.laneWrite.count.bump.bump h.laneWrite.count.bump.bump.cause))
    (.ite h.laneWrite.count.bump.bump h.laneWrite.count.bump.bump.cause))

theorem Agrees.chiselErr (h : Agrees t) : Agrees (t.chiselErr code addr ring) := h.log

theorem Agrees.undefineResult (h : Agrees t) : Agrees (t.undefineResult j) :=
  .ite h (h.drawn.forAll fun _ _ k => k.laneWrite)

theorem Agrees.dropJob (h : Agrees t) : Agrees (t.dropJob j) := h.upd
theorem Agrees.discardLate (h : Agrees t) : Agrees t.discardLate := .ite h.drawn h.drawn.count.cause
theorem Agrees.dropMsix (h : Agrees t) : Agrees (t.dropMsix ring addr n) := .ite h h.count.cause.chiselErr
theorem Agrees.pauseLane (h : Agrees t) : Agrees t.pauseLane := h.holdEngine.upd

theorem Agrees.resumeLane (h : Agrees t) : Agrees t.resumeLane := by
  unfold State.resumeLane
  split
  · exact h
  · exact h.upd.wr

theorem Agrees.cutJob {portReset : Bool} (h : Agrees t) : Agrees (t.cutJob j portReset) :=
  .dropMsix (.ite (.discardLate (.writeRecord (.dropJob (.ite h.undefineResult h))))
    (.writeRecord (.dropJob (.ite h.undefineResult h))))

theorem Agrees.abortJob {portReset : Bool} (h : Agrees t) : Agrees (t.abortJob j portReset) :=
  .ite h (.ite h.upd.pauseLane h.cutJob)

theorem Agrees.abortRing {r : Nat} {portReset : Bool} (h : Agrees t) : Agrees (t.abortRing r portReset) :=
  h.forAll fun _ _ k => k.abortJob

theorem Agrees.resetRing {r : Nat} (h : Agrees t) : Agrees (t.resetRing r) := h.wr.wr.clr.wr.wr.wr.wr.wr.clr.clr.wr

/-! ### Machine/Chisel -/

theorem Agrees.ringCommand {r : Nat} (h : Agrees t) (hact : ∀ u, Agrees u → Agrees (act u)) :
    Agrees (t.ringCommand who r off act) :=
  .ite h (.ite (.ite (hact _ h) h) (h.command fun _ k => hact _ k))

theorem Agrees.execChiselRingTail {ring : RingNo} (h : Agrees t) : AgreesNext (execChiselRingTail who ring val t) :=
  .next (h.ringCommand fun _ k => k.wr)

theorem Agrees.stallRing {r : Nat} (h : Agrees t) : Agrees (t.stallRing r code addr) := h.put.cause.chiselErr

theorem Agrees.fetchDescriptor (h : Agrees t) : Agrees (t.fetchDescriptor ring) := by
  -- The kernel would run the body to compare it with its match: so the states on the way are named only, by `id`.
  generalize hF : @State.fetchDescriptor = F
  delta State.fetchDescriptor at hF
  subst hF
  beta_reduce
  extract_lets +onlyGivenNames t₁ head dpa key a b t₂
  have hb : Agrees b.2 := h.laneRead.laneRead
  have h₂ : Agrees t₂ := hb.wr
  clear_value t₂ b a
  revert a b t₂
  refine id fun a b hb t₂ h₂ => ?_
  split
  · extract_lets +onlyGivenNames j
    split
    · exact h₂.stallRing
    · split
      · exact .ite h.holdEngine h₂.writeRecord.chiselErr
      · exact .ite (.ite h.holdEngine h₂.writeRecord) h₂.upd
  · exact h₂.stallRing

theorem Agrees.execDescriptorFetch {ring : RingNo} (h : Agrees t) : AgreesNext (execDescriptorFetch ring t) :=
  .ite (.next (h.coherent h.fetchDescriptor.upd)) (.next h)

theorem Agrees.execJobStart {ring : RingNo} (h : Agrees t) : AgreesNext (execJobStart ring t) := by
  unfold Machine.execJobStart
  extract_lets
  split
  · exact .next h
  · extract_lets _ _ _ code _ t₁
    have h₁ : Agrees t₁ := h.upd
    split
    · exact .next h
    · cases code with
      | some c => exact .next h₁.refuseKey
      | none => exact .next h₁

theorem Agrees.finishJob {lane : Nat} (h : Agrees t) : Agrees (t.finishJob j agree lane) :=
  .ite h.undefineResult.dropJob.writeRecord.cause.chiselErr
    (.ite h.runJob.writeResult.dropJob.writeRecord.chiselErr h.runJob.writeResult.dropJob.writeRecord)

theorem Agrees.execJobComplete {ring : RingNo} {lane : PcNo} (h : Agrees t) :
    AgreesNext (execJobComplete ring agree lane t) := by
  unfold Machine.execJobComplete
  split
  · exact .next h
  · split
    · exact .next h.pauseLane
    · split
      · exact .next (h.coherent h.resumeLane.cutJob)
      · exact .next (h.coherent h.resumeLane.finishJob)

theorem Agrees.execMsixSend (h : Agrees t) : AgreesNext (execMsixSend t) := by
  unfold Machine.execMsixSend
  split
  · exact .next h
  · exact .next h.upd.send

theorem Agrees.execChiselRingAbort {ring : RingNo} {completionFirst : Grant} (h : Agrees t) :
    AgreesNext (execChiselRingAbort who ring val completionFirst t) :=
  .next (h.ringCommand fun _ k => .ite k (.ite k.put (k.forAll fun _ _ l => .ite l.finishJob l.abortJob)))

theorem Agrees.execChiselRingEnable {ring : RingNo} (h : Agrees t) : AgreesNext (execChiselRingEnable who ring val t) :=
  .next (h.ringCommand fun _ k => .ite (.put (.wr (.ite k k.wr.wr)))
    (.clr (.wr (.clr (.abortRing (.wr (.ite k k.wr.wr)))))))

/-! ### Machine/Safe -/

theorem Agrees.stopCheckpoint (h : Agrees t) : Agrees t.stopCheckpoint := by
  unfold State.stopCheckpoint
  split
  · exact h
  · exact .ite h (.upd (h.forAll fun _ _ k => k.setSlot))

theorem Agrees.holdErrN (h : Agrees t) : Agrees t.holdErrN := .upd (.wr (.put (.ite h h.errPulseStart)))
theorem Agrees.stopTimer (h : Agrees t) : Agrees (t.stopTimer page) := h.clr.setPage
theorem Agrees.stopTimers (h : Agrees t) : Agrees t.stopTimers := h.forAll fun _ _ k => k.stopTimer

theorem Agrees.enterSafe (h : Agrees t) : Agrees (t.enterSafe page code) := by
  unfold State.enterSafe
  extract_lets _ _ _ t₄ t₅ _ _ _ t₇
  have h₄ : Agrees t₄ := h.put.wr.wr.stopTimers.wr64.err.holdErrN.cause.forAll fun _ _ k => k.abortRing.clr
  have h₅ : Agrees t₅ := h₄.stopCheckpoint.clr.flushTags
  have h₇ : Agrees t₇ := .ite h₅.put.upd h₅
  exact .ite h h₇.put.cause

theorem Agrees.errImmediate (h : Agrees t) : Agrees (t.errImmediate page code addr) := h.err.enterSafe

theorem Agrees.execSafe (h : Agrees t) : AgreesNext (execSafe who key t) :=
  .next (h.command fun _ k => .ite k.errImmediate k)

theorem Agrees.releaseErrN (h : Agrees t) : Agrees t.releaseErrN := h.clr.clr.emit.upd

theorem Agrees.execRelease (h : Agrees t) : AgreesNext (execRelease who t) :=
  .next (h.command fun _ k => .ite k (.ite k.upd k.releaseErrN))

theorem Agrees.execTest (h : Agrees t) : AgreesNext (execTest who t) := .next (h.command fun _ k => k.errEvent)

theorem Agrees.execErrNPulseEnd (h : Agrees t) : AgreesNext (execErrNPulseEnd t) := by
  unfold Machine.execErrNPulseEnd
  split
  · exact .next h
  · exact .ite (.next h.advanceTo.put.upd) (.next h.advanceTo.releaseErrN)

theorem Agrees.execErrNGapEnd (h : Agrees t) : AgreesNext (execErrNGapEnd t) := by
  unfold Machine.execErrNGapEnd
  split
  · exact .next h
  · exact .next (.ite h.advanceTo.upd.errPulseStart h.advanceTo.upd)

theorem Agrees.execErrNReadback {high : Bool} (h : Agrees t) : AgreesNext (execErrNReadback high t) :=
  .ite (.next (.ite h.upd.clr.put.cause.err h.upd.clr)) (.next h.wrb)

theorem Agrees.execErrpinFfValidClear (h : Agrees t) : AgreesNext (execErrpinFfValidClear who t) :=
  .next (h.command fun _ k => k.clr)

/-! ### Machine/Scrub -/

theorem Agrees.clearErasure {lane : Nat} (h : Agrees t) : Agrees (t.clearErasure pc lane) := h.wr.wr.wr.setPc.wr

theorem Agrees.execLaneErasureClear {pc : PcNo} (h : Agrees t) : AgreesNext (execLaneErasureClear who pc val t) :=
  .next (h.command fun _ k => .ite k.put (.appendRecord (.err (k.forAll fun _ _ l => l.clearErasure))))

theorem Agrees.execCorrectedWriteback {pc : PcNo} (h : Agrees t) : AgreesNext (execCorrectedWriteback pc t) := by
  unfold Machine.execCorrectedWriteback
  extract_lets
  split
  · exact .next h
  · exact .ite (.next h.setPc) (.next h.setPc.writeLine.chargeEng)

theorem Agrees.endPass (h : Agrees t) : Agrees (t.endPass pc) := .ite h.setPc.bump.wr.cause h.setPc
theorem Agrees.fixScrub (h : Agrees t) : Agrees (t.fixScrub pc) := .ite h h.setPc.wrb.wrb

theorem Agrees.scrubLine {errs : List (Nat × Nat)} (h : Agrees t) : Agrees (t.scrubLine pc loc errs agree) := by
  unfold State.scrubLine
  extract_lets _ _ _ _ t₃ t₄
  have h₃ : Agrees t₃ := h.chargeEng.wr.engineRead.setPc.fixScrub
  have h₄ : Agrees t₄ := .ite h₃.bump h₃
  exact .ite h₃ (.ite h₃.bump (.ite h₄.bump h₄))

theorem Agrees.scrubStalls (h : Agrees t) (hu : t.scrubStalls pc = some u) : Agrees u := by
  simp only [State.scrubStalls] at hu
  split at hu
  · cases hu
  · split at hu
    · cases hu
      exact h.setPc
    · split at hu
      · cases hu
        exact h
      · cases hu

theorem Agrees.scrubGoesOn (h : Agrees t) : Agrees (t.scrubGoesOn pc) := by
  unfold State.scrubGoesOn
  split
  · exact h.longest.setPc
  · exact h

theorem Agrees.execScrubRead {pc : PcNo} {errs : List SymErr} (h : Agrees t) :
    AgreesNext (execScrubRead pc errs decAgree t) := by
  unfold Machine.execScrubRead
  extract_lets t₁ _ _ _ t₂ _ t₃
  have h₁ : Agrees t₁ := h.scrubGoesOn.put
  have h₂ : Agrees t₂ := h₁.setPc
  have h₃ : Agrees t₃ := .ite (.ite h₂ h₂.setPc.bump) (.ite h₂ h₂.scrubLine)
  split
  · exact .next h
  · split
    · rename_i hu
      exact .next (h.scrubStalls hu)
    · split
      · exact .next (.ite h₃.endPass h₃)
      · split
        · exact .next h₁.endPass
        · split
          · exact .next h₁
          · split
            · exact .next h₁.setPc.scrubLine
            · exact .next (.ite h₁.setPc.endPass h₁.setPc)

theorem Agrees.execScrubBatchWake {pc : PcNo} (h : Agrees t) : AgreesNext (execScrubBatchWake pc t) :=
  .ite (.next h) (.next h.advanceTo.wakeForEngine)

theorem Agrees.scrubLateNow {percent : Nat} {flag : Fld} {cause : Nat} (h : Agrees t)
    (hf : inLayer flag = false := by rfl) : Agrees (t.scrubLateNow pc level percent flag cause code) :=
  .ite h (h.advanceTo.setPc.put hf).cause.err

theorem Agrees.execScrubBehind {pc : PcNo} (h : Agrees t) : AgreesNext (execScrubBehind pc t) := .next h.scrubLateNow
theorem Agrees.execScrubOverdue {pc : PcNo} (h : Agrees t) : AgreesNext (execScrubOverdue pc t) := .next h.scrubLateNow

theorem Agrees.slotFails {i : Nat} (h : Agrees t) : Agrees (t.slotFails i) :=
  .ite h h.setTip.bump.cause.err.appendRecord

theorem Agrees.execScrubSelfCheck {pc : PcNo} {badSlots : List (BankNo × Fin 32)} {spareFail : Bool}
    {wrong : List (Fin 8 × Outcome92)} (h : Agrees t) : AgreesNext (execScrubSelfCheck pc badSlots spareFail wrong t) :=
    by
  unfold Machine.execScrubSelfCheck
  extract_lets _ t₁ t₂
  have h₁ : Agrees t₁ := h.forAll fun _ _ k => k.slotFails
  have h₂ : Agrees t₂ := .ite h₁.wr.bump.cause.err.appendRecord h₁
  exact .ite (.next h) (.ite (.next h₂.bump.err) (.ite (.next h₂.bump.cause.errImmediate) (.next h₂)))

/-! ### Machine/Repair -/

theorem Agrees.copyRow {errs : List (Fin 32 × List SymErr)} (h : Agrees t) :
    Agrees (t.copyRow pc bank row errs agree access master) :=
  h.settle.engineRow.chargeEng.forAll fun _ _ k => .ite k k.engineRead.writeLine

theorem Agrees.requestDone {row : Nat × Nat × Nat} (h : Agrees t) : Agrees (t.requestDone row) :=
  .ite h.upd.clr.put.cause h

theorem Agrees.redirect {free : List Nat} (h : Agrees t) : Agrees (t.redirect pc bank row free) := by
  unfold State.redirect
  extract_lets _ _ t₁
  have h₁ : Agrees t₁ := by
    unfold t₁
    split
    · exact h.setTip
    · exact h
  exact h₁.drawn.setTip

theorem Agrees.notDue {t' : Nat × Nat × Nat} (h : Agrees t) : Agrees (t.notDue t') := h.upd

theorem Agrees.execRowRepair {pc : PcNo} {bank : BankNo} {row : Fin 32768} {faults : RowFaults} (h : Agrees t) :
    AgreesNext (execRowRepair pc bank row faults t) := by
  unfold Machine.execRowRepair
  extract_lets _ t₁ _ _ _ t₂ _ _ _ t₅
  have h₁ : Agrees t₁ := h.notDue
  have h₂ : Agrees t₂ := h₁.cause.err.requestDone
  have h₅ : Agrees t₅ := h₁.copyRow.notDue.redirect.setPc.cause.cause.dramEvent
  exact .ite (.next h) (.ite (.next h₁.upd)
    (.ite (.next (.ite h₂.retireBank h₂)) (.next h₅.appendRecord.requestDone)))

theorem Agrees.requestRepair (h : Agrees t) : Agrees t.requestRepair := by
  unfold State.requestRepair
  extract_lets
  split
  · exact h.put.wr
  · exact h.put.upd

theorem Agrees.execTipinReqRepair (h : Agrees t) : AgreesNext (execTipinReqRepair who t) :=
  .next (h.command fun _ k => k.requestRepair)

theorem Agrees.execTipinRecordAppend (h : Agrees t) : AgreesNext (execTipinRecordAppend t) :=
  .ite (.next h) (.next h.upd)

theorem Agrees.execTipinRecordCommit (h : Agrees t) : AgreesNext (execTipinRecordCommit ok t) := by
  unfold Machine.execTipinRecordCommit
  split
  · exact .next h
  · exact .ite (.next h.upd.err) (.next (.cause (.wrb (.wr64 (.ite h.upd.appendSys h.upd)))))

theorem Agrees.execTipinTableSweep {corrected uncorrectable : List (Fin 65536)} (h : Agrees t) :
    AgreesNext (execTipinTableSweep corrected uncorrectable t) :=
  .next (h.forAll fun _ _ k => k.upd.err)

theorem Agrees.execTipinEntryReloaded {entry : Fin 65536} (h : Agrees t) :
    AgreesNext (execTipinEntryReloaded entry t) :=
  .ite (.next h) (.next h.setTip.upd)

theorem Agrees.execMigrateStart (h : Agrees t) : AgreesNext (execMigrateStart t) := by
  unfold Machine.execMigrateStart
  split
  · exact .next h
  · exact .ite (.next h) (.next h.upd.drop.startMigrate)

theorem Agrees.execMigrateRow {errs : List (Fin 32 × List SymErr)} (h : Agrees t) :
    AgreesNext (execMigrateRow errs decAgree t) := by
  unfold Machine.execMigrateRow
  split
  · exact .next h
  · split
    · exact .ite (.next h) (.ite (.next h.engineWaits) (.next h.wr.copyRow.setEng.bump))

theorem Agrees.execMigrateDone (h : Agrees t) : AgreesNext (execMigrateDone t) := by
  unfold Machine.execMigrateDone
  split
  · exact .next h
  · split
    · exact .next (.appendRecord (.dramEvent (.cause (.cause (.upd (h.wr.wr.forAll fun _ _ k => k.setTip))))))

theorem Agrees.execRecoveryWaitExpiry {loc : Loc} (h : Agrees t) : AgreesNext (execRecoveryWaitExpiry loc t) := by
  unfold Machine.execRecoveryWaitExpiry
  split
  · exact .next h
  · split
    · exact .next h
    · exact .next (h.advanceTo.upd.forAll fun _ _ k => k.poisonEvent.answerRead)

/-! ### Machine/Kerf -/

theorem Agrees.kerfRefuse (h : Agrees t) : Agrees (t.kerfRefuse k reason) := h.put.wr.cause

theorem Agrees.execKerfStart (h : Agrees t) : AgreesNext (execKerfStart who slot t) := by
  unfold Machine.execKerfStart
  refine .next ?_
  refine .command h (fun u k => ?_)
  split
  · exact k.kerfRefuse
  · exact k.startKerf

theorem Agrees.execKerfAbort (h : Agrees t) : AgreesNext (execKerfAbort who slot t) :=
  .next (h.command fun _ k => .ite (.ite k.setEng k.wr.cause) k.kerfRefuse)

theorem Agrees.execKerfResume (h : Agrees t) : AgreesNext (execKerfResume who slot t) :=
  .next (h.command fun _ k => .ite k.wr k.kerfRefuse)

theorem Agrees.execClearStroke (h : Agrees t) : AgreesNext (execClearStroke t) := by
  unfold Machine.execClearStroke
  extract_lets
  split
  · exact .next h
  · split
    · exact .next h
    · extract_lets _ _ _ _ _ t₃ t₄
      have h₃ : Agrees t₃ := h.wr.settle.strokeRows.clearSpan.chargeEng.setEng
      have h₄ : Agrees t₄ := .ite h₃.markCleared.finishQuire h₃
      exact .ite (.next h.engineWaits) (.ite (.next (h.forAll fun _ _ k => k.snoop)) (.next h₄.releaseStalled))

theorem Agrees.execLiftQuire {fails : Fin 3} (h : Agrees t) : AgreesNext (execLiftQuire fails t) := by
  unfold Machine.execLiftQuire
  split
  · exact .next h
  · split
    · exact .next h
    · exact .next h.wr.liftQuireNow.releaseStalled

theorem Agrees.rekeyLine (h : Agrees t) : Agrees (t.rekeyLine loc f) := by
  unfold State.rekeyLine
  extract_lets _ _ u fa o t₁ lost _ _ write
  have h₁ : Agrees t₁ := h.upset.engineRead.dropWb
  have hlost : ∀ u n, Agrees u → Agrees (lost u n) := fun _ _ k => k.markDirty.poisonLine
  have hwrite : ∀ u f, Agrees u → Agrees (write u f) :=
    fun _ _ k => .storeLine (k.forAll fun _ _ l => l.markDirty)
  refine .ite (hlost _ _ h₁) (.ite h₁.setLine (.ite (hlost _ _ h₁.errReq) (.ite (hwrite _ _ h₁) ?_)))
  split
  · exact h₁.fetchTag
  · exact .ite (hwrite _ _ h₁.fetchTag) (.errReq (hlost _ _ h₁.fetchTag.tagFailed))

theorem Agrees.pauseRekey {unloaded : Bool} (h : Agrees t) : Agrees (t.pauseRekey unloaded) :=
  .ite h (.ite h.wr.err h.wr.holdEngine)

theorem Agrees.execRekeyStroke {faults : List (Fin 256 × LineFaults)} {rest : LineFaults} (h : Agrees t) :
    AgreesNext (execRekeyStroke faults rest t) := by
  unfold Machine.execRekeyStroke
  extract_lets
  split
  · exact .next h
  · split
    · exact .next h
    · extract_lets _ _ _ _ t₃ t₄ t₅
      have h₃ : Agrees t₃ := h.wr.settle.strokeRows.chargeEng.forAll fun _ _ k => k.rekeyLine
      have h₄ : Agrees t₄ := h₃.setEng.reposition
      have h₅ : Agrees t₅ := .ite h₄.finishQuire h₄
      exact .ite (.next h.pauseRekey) (.ite (.next h.engineWaits)
        (.ite (.next h.pauseRekey) (.next h₅.releaseStalled)))

theorem Agrees.execKerfDone (h : Agrees t) : AgreesNext (execKerfDone slot t) :=
  .ite (.next h) (.next (.ite h.wr.cause.clr h.wr.cause))

theorem Agrees.execKerfLineTimeout {loc : Loc} (h : Agrees t) : AgreesNext (execKerfLineTimeout slot loc t) :=
  .ite (.next h) (.next h.log)

/-! ### Machine/Folio -/

theorem Agrees.execCkpt (h : Agrees t) : AgreesNext (execCkpt who t) := .next (h.command fun _ k => .ite k.orderCkpt k)

theorem Agrees.execCkptLimited (h : Agrees t) : AgreesNext (execCkptLimited who t) :=
  .next (h.command fun _ k => .ite k.orderCkpt k)

theorem Agrees.execCkptCancel (h : Agrees t) : AgreesNext (execCkptCancel who t) := by
  unfold Machine.execCkptCancel
  refine .next ?_
  refine .command h (fun u k => ?_)
  split
  · exact k
  · exact .ite k (.ite k.endCkpt k.upd)

theorem Agrees.execCheckpointStart (h : Agrees t) : AgreesNext (execCheckpointStart t) := by
  unfold Machine.execCheckpointStart
  split
  · exact .next h
  · split
    · exact .ite (.next (.ite h.startCheckpoint h)) (.next h.startCheckpoint)
    · exact .next (.ite h.startCheckpoint h)

theorem Agrees.failPersist {voidOk : Bool} (h : Agrees t) : Agrees (t.failPersist voidOk) := by
  unfold State.failPersist
  extract_lets t₁ t₂
  have h₁ : Agrees t₁ := h.stopCheckpoint
  have h₂ : Agrees t₂ := .ite h₁.commitVoid h₁
  exact h₂.upd.setPersist.err.releaseHeld.fixLevel.fixGauge

theorem Agrees.fixPersist (h : Agrees t) : Agrees t.fixPersist :=
  .ite h.drawn.failPersist (.fixBudget (.ite h.setPersist.err h))

theorem Agrees.retireBlock {b : Nat} (h : Agrees t) : Agrees (t.retireBlock b) :=
  .ite h h.setBlock.bump.cause.err.fixPersist

theorem Agrees.execBlockErase {block : Fin 278528} (h : Agrees t) : AgreesNext (execBlockErase block ok t) := by
  unfold Machine.execBlockErase
  extract_lets _ _ _ t₁ t₂ t₃
  have h₁ : Agrees t₁ := by
    unfold t₁
    split
    · exact h.upd
    · exact h
  have h₂ : Agrees t₂ := h₁.setBlock
  have h₃ : Agrees t₃ := .ite h₂.cause h₂
  exact .ite (.next h) (.next (.ite h₃.retireBlock h₃))

theorem Agrees.goOn (h : Agrees t) : Agrees (t.goOn c) := .ite h.endCkpt h.pump.upd

theorem Agrees.execSlotReadBack {bad : Option (Fin 64)} (h : Agrees t) : AgreesNext (execSlotReadBack bad t) := by
  unfold Machine.execSlotReadBack
  split
  · exact .next h
  · split
    · exact .next h
    · split
      · exact .ite (.next h.upd) (.next h.readBack.goOn)
      · exact .ite (.next h.retireBlock) (.ite (.next h.retireBlock.setSlot.goOn) (.next h.retireBlock.reprogram.upd))

theorem Agrees.execCheckpointCommit (h : Agrees t) : AgreesNext (execCheckpointCommit p0 p1 t) := by
  unfold Machine.execCheckpointCommit
  split
  · exact .next h
  · exact .ite (.next h) (.ite (.next h.commit.bump.cause.endCkpt) (.next h.err.endCkpt))

theorem Agrees.execPersistenceFailed {voidOk : Bool} (h : Agrees t) : AgreesNext (execPersistenceFailed voidOk t) :=
  .next (.ite h.failPersist h)

theorem Agrees.execGpfPhase1 {tag : Nat} (h : Agrees t) : AgreesNext (execGpfPhase1 port ld tag t) :=
  .ite (.next h) (.next h.bump.emit)

theorem Agrees.execGpfPhase2 {tag : Nat} (h : Agrees t) : AgreesNext (execGpfPhase2 port ld tag t) :=
  .ite (.next h) (.next (.ite h.gpfDone h.upd))

/-! ### Machine/Keys -/

theorem Agrees.writeKeyRecord {answers : List (List Nat)} (h : Agrees t) : Agrees (t.writeKeyRecord before answers) :=
  h.upd

theorem Agrees.execKeyRetainClear (h : Agrees t) : AgreesNext (execKeyRetainClear who t) :=
  .next (h.command fun _ k => .ite k.clr.writeKeyRecord k)

theorem Agrees.keyRecordFails {answers : List (List Nat)} (h : Agrees t) : Agrees (t.keyRecordFails before answers) :=
  h.upd.wr.forAll fun _ _ k => k.wr.cause.emit

theorem Agrees.execKeyRecordCommit (h : Agrees t) : AgreesNext (execKeyRecordCommit ok t) := by
  unfold Machine.execKeyRecordCommit
  extract_lets _ _ _ _ _ _ t₂
  have h₂ : Agrees t₂ := h.upd.appendSys.upd
  split
  · exact .next h
  · exact .ite (.ite (.next h.keyRecordFails) (.next h.upd.err)) (.next (h₂.forAll fun _ _ k => k.emit))

theorem Agrees.keyCmd {status : Nat} (h : Agrees t) : Agrees (t.keyCmd opcode status session) :=
  .ite h.wr.wr.wrb.bump h.wr.wr.wrb.bump.cause

theorem Agrees.keyFail {status : Nat} (h : Agrees t) : Agrees (t.keyFail opcode status session) := h.keyCmd.emit

theorem Agrees.keyDone {payload : List Nat} (h : Agrees t) : Agrees (t.keyDone opcode session before payload) :=
  .ite h.keyCmd.writeKeyRecord h.keyCmd.emit

theorem Agrees.inSession {who : Session} (h : Agrees t) (hu : Agrees u) : AgreesNext (t.inSession who u) :=
  .next (.ite hu h)

theorem Agrees.unloadPauses {slot : Nat} (h : Agrees t) : Agrees (t.unloadPauses slot) := .ite h.wr.err h
theorem Agrees.loadResumes {slot : Nat} (h : Agrees t) : Agrees (t.loadResumes slot) := .ite h.wr h

theorem Agrees.execLoadKey {load : KeyLoad} (h : Agrees t) : AgreesNext (execLoadKey session load t) := by
  refine h.inSession ?_
  split
  · exact h.keyFail
  · exact h.setKey.loadResumes.cause.keyDone

theorem Agrees.execUnloadKey {slot : Nat} (h : Agrees t) : AgreesNext (execUnloadKey session slot t) :=
  h.inSession (.ite h.keyFail (.ite h.keyFail (.ite h.keyFail h.unloadPauses.setKey.cause.keyDone)))

theorem Agrees.execSetRights {ld : Nat} {bitmap : BitVec 256} (h : Agrees t) :
    AgreesNext (execSetRights session ld bitmap t) :=
  h.inSession (.ite h.keyFail (.ite h.keyFail (.ite h.keyFail h.setRights.keyDone)))

theorem Agrees.execSetRange {index : Nat} {enable : Bool} {mask : BitVec 16} (h : Agrees t) :
    AgreesNext (execSetRange session index enable mask base stop t) :=
  h.inSession (.ite h.keyFail (.ite h.keyFail
    (.ite h.keyFail (.ite h.setRange.keyDone (.ite h.keyFail h.setRange.keyDone)))))

theorem Agrees.execQuerySlot {slot : Nat} (h : Agrees t) : AgreesNext (execQuerySlot session slot t) :=
  h.inSession (.ite h.keyFail (.ite h.keyFail (.ite h.keyFail h.keyCmd.emit)))

theorem Agrees.execKeyCmdUnknown {opcode : BitVec 16} (h : Agrees t) :
    AgreesNext (execKeyCmdUnknown session opcode t) :=
  h.inSession h.keyFail

theorem Agrees.execKeyTableSweep {corrected uncorrectable : List SlotNo} (h : Agrees t) :
    AgreesNext (execKeyTableSweep corrected uncorrectable t) :=
  .next (.forAll (h.forAll fun _ _ k => k.err) fun _ _ k => k.setKey.cause.err)

theorem Agrees.execKeySlotReloaded {slot : SlotNo} (h : Agrees t) : AgreesNext (execKeySlotReloaded slot t) :=
  .ite (.next h.setKey.cause) (.next h)

theorem Agrees.setCarve {on_ : Bool} (h : Agrees t) : Agrees (t.setCarve on_) :=
  h.upd.wrb.wrb.put.fixCapacity.cause.startKerf

theorem Agrees.carveCommand {activate both : Bool} (h : Agrees t) : Agrees (t.carveCommand activate both) := by
  unfold State.carveCommand
  split
  · exact h
  · split
    · exact h.put.wr
    · exact h.setCarve

theorem Agrees.execCarveActivate {both : Bool} (h : Agrees t) : AgreesNext (execCarveActivate who both t) :=
  .next (h.command fun _ k => k.carveCommand)

theorem Agrees.execCarveDeactivate (h : Agrees t) : AgreesNext (execCarveDeactivate who t) :=
  .next (h.command fun _ k => k.carveCommand)

theorem Agrees.execTcacheFlush (h : Agrees t) : AgreesNext (execTcacheFlush who t) :=
  .next (h.command fun _ k => k.flushTags)

/-! ### Machine/DoveOps -/

theorem Agrees.setRangeState (h : Agrees t) : Agrees (t.setRangeState n st) := h.wr
theorem Agrees.pushAll (h : Agrees t) : Agrees (t.pushAll n) := h.upd
theorem Agrees.clearMarks (h : Agrees t) : Agrees (t.clearMarks n) := h.upd

theorem Agrees.reserveArea (h : Agrees t) : Agrees t.reserveArea :=
  .ite h (h.put.fixCapacity.drawn.upd.forAll fun _ _ k => k.markDirty)

theorem Agrees.dropRange (h : Agrees t) : Agrees (t.dropRange n) :=
  .ite h.clearMarks.setRangeState.clr.upd.fixLevel h.clearMarks.setRangeState.clr.upd.clr.fixCapacity.fixLevel.upd

theorem Agrees.flushTx (h : Agrees t) : Agrees t.flushTx := h.upd.forAll fun _ _ k => k.sendDove
theorem Agrees.ackFlits (h : Agrees t) : Agrees (t.ackFlits ack) := h.upd.flushTx
theorem Agrees.sendQueue (h : Agrees t) : Agrees t.sendQueue := .ite h (h.upd.forAll fun _ _ k => k.sendDove)
theorem Agrees.retrain (h : Agrees t) : Agrees t.retrain := h.upd.bump.cause.err.emit
theorem Agrees.askReplay (h : Agrees t) : Agrees t.askReplay := .ite h.upd.bump.emit.retrain h.upd.bump.emit
theorem Agrees.doveDown (h : Agrees t) : Agrees t.doveDown := h.wr.wr.upd
theorem Agrees.doveTrain (h : Agrees t) : Agrees t.doveTrain := .ite h.wr.wr h
theorem Agrees.settleRanges (h : Agrees t) : Agrees t.settleRanges := h.forAll fun _ _ k => .ite k.setRangeState.cause k

theorem Agrees.startResync (h : Agrees t) : Agrees t.startResync := by
  unfold State.startResync
  extract_lets t₁
  have h₁ : Agrees t₁ := h.settleRanges
  split
  · exact h₁
  · split
    · exact .ite h₁.wr.startKerf.setEng h₁.wr.startKerf
    · exact h₁

theorem Agrees.resyncAll (h : Agrees t) : Agrees (t.resyncAll n) := h.pushAll.setRangeState

theorem Agrees.writeForm {f : FormLine} (h : Agrees t) : Agrees (t.writeForm loc f master) := by
  unfold State.writeForm
  extract_lets _ t₂ _ t₃
  have h₂ : Agrees t₂ := h.ensure.settleLine.callBack.markDirty.chargeEng
  have h₃ : Agrees t₃ := h₂.writeLine
  exact .ite h (.ite h₂.writeLine (.ite (.ite h₃.fetchTag.cacheTag.markDirty h₃) h₂.poisonLine))

theorem Agrees.refuseDove (h : Agrees t) : Agrees (t.refuseDove reason) := h.wr.cause.err
theorem Agrees.diverge (h : Agrees t) : Agrees (t.diverge n) := h.setRangeState.cause.err
theorem Agrees.offer (h : Agrees t) : Agrees (t.offer n) := h.setRangeState.sendDove

theorem Agrees.joinRange (h : Agrees t) : Agrees (t.joinRange h' n) :=
  .ite h (.ite (.ite h.offer h.setRangeState)
    (.ite h.diverge (.ite h.setRangeState (.ite h.setRangeState.err.pushAll h.setRangeState.err))))

theorem Agrees.sendBitmap {bits : Sparse Bool} (h : Agrees t) : Agrees (t.sendBitmap pull bits) :=
  h.forAll fun _ _ k => k.sendDove

theorem Agrees.giveBits (h : Agrees t) : Agrees t.giveBits :=
  h.sendBitmap.sendBitmap.forAll fun _ _ k => .ite k.clearMarks k

theorem Agrees.join (h : Agrees t) : Agrees (t.join h') := by
  unfold State.join
  extract_lets _ _ _ _ t₃ _ _ _ t₅ t₆
  have h₃ : Agrees t₃ := h.wr.cause.upd.forAll fun _ _ k => k.joinRange
  have h₅ : Agrees t₅ := h₃.giveBits.upd.forAll fun _ _ k => k.sendDove
  have h₆ : Agrees t₆ := .ite h₅.wr h₅
  exact h₆.sendQueue.startResync

theorem Agrees.judgeHello (h : Agrees t) : Agrees t.judgeHello := by
  unfold State.judgeHello
  split
  · exact h
  · split
    · exact h
    · split
      · exact h.wr.refuseDove
      · exact h.join

theorem Agrees.sendHello (h : Agrees t) : Agrees t.sendHello := .ite h.sendDove (.ite h.sendDove.upd.judgeHello h)

theorem Agrees.rangeApart (h : Agrees t) : Agrees (t.rangeApart n) :=
  .ite h (.ite h.setRangeState (.upd (h.setRangeState.forAll fun _ _ k => k.setPush)))

theorem Agrees.stopResync (h : Agrees t) : Agrees t.stopResync := .releaseStalled (.upd (.ite h.wr.cause.setEng h))

theorem Agrees.failRecovery {r : Recovery} (h : Agrees t) : Agrees (t.failRecovery r) :=
  .releaseStalled (.forAll (.forAll (.ite h.upd.bump.cause.err.poisonLine h.upd.bump.cause.err) fun _ _ k =>
    k.poisonEvent.answerRead) fun _ _ k => k.mergeWrite)

theorem Agrees.releaseQueue (h : Agrees t) : Agrees t.releaseQueue :=
  h.upd.forAll fun _ _ k => .ite k.upd k.longest.intake

theorem Agrees.splitPair (h : Agrees t) : Agrees t.splitPair :=
  .releaseQueue (.upd (.forAll (.stopResync (h.forAll fun _ _ k => k.rangeApart)) fun _ _ k => k.failRecovery))

theorem Agrees.loseDove (h : Agrees t) : Agrees t.loseDove := .ite h h.splitPair.wr.cause.err.bump.wr64.upd
theorem Agrees.sendRole (h : Agrees t) : Agrees (t.sendRole n promoted) := .ite h.sendDove h.upd
theorem Agrees.promote (h : Agrees t) : Agrees (t.promote n) := .cause (.ite h.put.sendRole.diverge h.put.sendRole)
theorem Agrees.markBack (h : Agrees t) : Agrees (t.markBack loc) := h.sendDove.err

theorem Agrees.applyWrite {w : Mwrite} (h : Agrees t) : Agrees (t.applyWrite w) :=
  .upd (.ite h.markBack (.ite (.markBack (.discardWrite (.ite h.settleLine.observe h.settleLine))) h.engineWrite))

theorem Agrees.applyRdata {first second : FormLine} (h : Agrees t) : Agrees (t.applyRdata stroke loc first second) :=
  .ite h.writeForm.writeForm.upd h.writeForm.writeForm

theorem Agrees.answerRreq (h : Agrees t) : Agrees (t.answerRreq ident loc) := by
  unfold State.answerRreq
  extract_lets a reply
  have hreply : ∀ f u, Agrees u → Agrees (reply f u) := fun _ _ k => k.sendDove
  have h₁ : Agrees (((t.ensure (quireOf a)).settleLine a).callBack a false |>.chargeEng 0x18 1) :=
    h.ensure.settleLine.callBack.chargeEng
  split
  · exact hreply _ _ h
  · exact .ite (hreply _ _ h) (.ite (hreply _ _ h₁.observe) (hreply _ _ h₁.observe))

theorem Agrees.onHello (h : Agrees t) : Agrees (t.onHello prot h') :=
  .ite (.wrb (.ite h.wr.put.wr.cause h.wr.put.wr))
    (.judgeHello (.upd (.ite (.sendDove (.wrb (.ite h.wr.put.wr.cause h.wr.put.wr)))
    (.wrb (.ite h.wr.put.wr.cause h.wr.put.wr)))))

theorem Agrees.partnerSafe (h : Agrees t) : Agrees (t.partnerSafe safe) :=
  .ite (h.forAll fun _ _ k => .ite k.rangeApart k) h

theorem Agrees.ackOsn (h : Agrees t) : Agrees (t.ackOsn osn) := .ite h.upd.upd h.upd

theorem Agrees.finishWithdraw (h : Agrees t) : Agrees t.finishWithdraw :=
  h.forAll fun _ _ k => .ite k k.sendDove.dropRange

theorem Agrees.onHeartbeat {b : Beat} (h : Agrees t) : Agrees (t.onHeartbeat b) :=
  .ite h.upd (.ite h.upd.ackOsn.partnerSafe.finishWithdraw
    (h.upd.ackOsn.partnerSafe.finishWithdraw.forAll fun _ _ k => .ite k.setRangeState k))

theorem Agrees.finishStroke {k : Stroke} (h : Agrees t) : Agrees (t.finishStroke k) :=
  .ite (.cause (.wr (.setEng (.ite h.upd.setPush.setPull.finishQuire h.upd))))
    (.ite h.upd.setPush.setPull.finishQuire h.upd)

theorem Agrees.onMack (h : Agrees t) : Agrees (t.onMack osn stroke) :=
  .sendQueue (.releaseStalled (.startResync (.finishWithdraw (h.ackOsn.forAll fun _ _ k => k.finishStroke))))

theorem Agrees.onPulled {k : Stroke} {f : FormLine} (h : Agrees t) : Agrees (t.onPulled k loc f) :=
  .ite (.releaseStalled (.startResync (.finishStroke (.upd (.ite h.writeForm h))))) (.upd (.ite h.writeForm h))

theorem Agrees.onRrsp {f : FormLine} (h : Agrees t) : Agrees (t.onRrsp ident loc f) := by
  unfold State.onRrsp
  split
  · exact .ite (.releaseStalled (.forAll (h.upd.writeForm.bump.forAll fun _ _ k => k.finishRead) fun _ _ k =>
      k.mergeWrite)) h.failRecovery
  · split
    · exact h.onPulled
    · exact h

theorem Agrees.formWaits (h : Agrees t) : Agrees t.formWaits := .ite h h.upd.bump

theorem Agrees.applyMsg (h : Agrees t) : Agrees (t.applyMsg m).2 := by
  cases m with
  | mwrite w =>
    simp only [State.applyMsg]
    split
    · exact h.holdEngine
    · exact h.applyWrite
  | rdata stroke loc first second =>
    simp only [State.applyMsg]
    split
    · exact h.formWaits
    · split
      · exact h.holdEngine
      · exact h.applyRdata
  | rreq ident loc => exact h.answerRreq
  | rrsp ident loc f =>
    simp only [State.applyMsg]
    split
    · split
      · exact h.formWaits
      · split
        · exact h.holdEngine
        · exact h.onRrsp
    · exact h.onRrsp
  | _ => exact h

theorem Agrees.applyList {l : List DoveMsg} (h : Agrees t) : Agrees (t.applyList l) := by
  induction l generalizing t with
  | nil => exact h.upd
  | cons m rest ih =>
    unfold State.applyList
    exact .ite h.applyMsg.upd (.ite (ih h.applyMsg.upd) h.recall.upd)

theorem Agrees.applyNext (h : Agrees t) : Agrees (t.applyNext m) := h.applyList

theorem Agrees.markQuire (h : Agrees t) : Agrees (t.markQuire pull q) := by
  unfold State.markQuire
  extract_lets t₁
  have h₁ : Agrees t₁ := .ite h.setPull h.setPush
  split
  · exact h
  · exact .ite h (.ite h₁.setRangeState h₁)

theorem Agrees.onConfig (h : Agrees t) : Agrees (t.onConfig n op reason base stop) := by
  unfold State.onConfig
  extract_lets
  split
  · exact .ite h.wr.wr.clr.setRangeState.reserveArea.sendDove h.refuseDove.sendDove
  · exact .ite h.resyncAll.startResync h
  · exact .ite h.dropRange h
  · exact .ite h.dropRange.put.refuseDove h
  · exact h

theorem Agrees.onRole (h : Agrees t) : Agrees (t.onRole n promoted) := .ite h.diverge h

theorem Agrees.onSpdm {established failed : Bool} (h : Agrees t) : Agrees (t.onSpdm established failed) :=
  .ite h.upd.wr.refuseDove (.ite h.drawn.upd.wr.sendHello h)

theorem Agrees.onMessage (h : Agrees t) : Agrees (t.onMessage prot m) := by
  unfold State.onMessage
  split
  · exact h
  · split
    · exact h
    · exact h.onHello
    · exact h.onHeartbeat
    · exact h.onSpdm
    · split
      · exact .ite h h.applyNext
      · exact h
    · exact .ite h.onMack h
    · exact .ite h.applyNext h
    · exact .ite h.applyNext h
    · exact .ite h.applyNext h
    · exact .ite (.startResync (h.forAll fun _ _ k => k.markQuire)) h
    · exact .ite (.startResync (h.forAll fun _ _ k => k.markQuire)) h
    · exact .ite h.onConfig h
    · exact .ite h.onRole h
    · exact h.loseDove
    · exact h.err

theorem Agrees.onMessages {l : List DoveMsg} (h : Agrees t) : Agrees (t.onMessages prot l) := by
  induction l generalizing t with
  | nil => exact h
  | cons m rest ih =>
    cases m with
    | unknown => exact h.onMessage
    | _ => exact ih h.onMessage

/-! ### Machine/OtpOps -/

theorem Agrees.setRow {r v : Nat} (h : Agrees t) : Agrees (t.setRow r v) := h.upd
theorem Agrees.fixLocks (h : Agrees t) : Agrees t.fixLocks := h.wr

theorem Agrees.blowFuse (h : Agrees t) : Agrees t.blowFuse := by
  unfold State.blowFuse
  split
  · exact h
  · exact h.upd.clr.wr

theorem Agrees.zeroise (h : Agrees t) : Agrees t.zeroise := h.upd.forAll fun _ _ k => k.setRow

/-! ### Machine/PortOps -/

theorem Agrees.fixPort (h : Agrees t) : Agrees (t.fixPort p) := h.forAll fun _ _ k => k.wr.wrb.wrb
theorem Agrees.clearLane (h : Agrees t) : Agrees (t.clearLane g n) := h.clrAll.setLane.wrb
theorem Agrees.setLanes (h : Agrees t) : Agrees (t.setLanes g st) := h.forAll fun _ _ k => k.wr

theorem Agrees.phyCause {port dove : Nat} (h : Agrees t) : Agrees (t.phyCause g port dove) :=
  .ite h.cause (.ite h h.cause)

theorem Agrees.linkDown (h : Agrees t) : Agrees (t.linkDown g) := by
  unfold State.linkDown
  extract_lets was _ t₂ t₃ _ t₄ t₅
  have h₃ : Agrees t₃ := (h.clrAll.forAll fun _ _ k => k.clr).forAll fun _ _ k => k.clearLane
  have h₅ : Agrees t₅ := h₃.setPort.fixPort.fixCal
  exact .ite h₅ h₅.cause

theorem Agrees.doveLanesDown (h : Agrees t) : Agrees t.doveLanesDown :=
  .fixCal (h.doveDown.clr.clr.forAll fun _ _ k => k.clearLane)

theorem Agrees.train (h : Agrees t) : Agrees (t.train g) :=
  .ite (.setPort (.forAll (.ite h.doveTrain (.ite h.wr h)) fun _ _ k => k.clearLane)) (.ite h.doveTrain (.ite h.wr h))

theorem Agrees.trainAll (h : Agrees t) : Agrees t.trainAll := h.forAll fun _ _ k => k.train
theorem Agrees.mapReqs {f : Req → Req} (h : Agrees t) : Agrees (t.mapReqs f) := h.upd
theorem Agrees.endEpoch {ld : Option Nat} (h : Agrees t) : Agrees (t.endEpoch p ld) := h.mapReqs
theorem Agrees.resetPortRing (h : Agrees t) : Agrees (t.resetPortRing p l) := h.upd.dropMsix.abortRing.resetRing
theorem Agrees.clearIde (h : Agrees t) : Agrees (t.clearIde p) := h.setPort.clrAll
theorem Agrees.countReset {cause : Nat} (h : Agrees t) : Agrees (t.countReset p cause) := h.wr.bump.cause
theorem Agrees.discardFlit (h : Agrees t) : Agrees (t.discardFlit p) := h.bump.err

theorem Agrees.closePort (h : Agrees t) : Agrees (t.closePort p partFlit) :=
  .linkDown (.setPort (.endEpoch (.wr (.ite h.discardFlit h))))

theorem Agrees.portReset {cause : Nat} (h : Agrees t) : Agrees (t.portReset p cause partFlit) := by
  unfold State.portReset
  extract_lets _ t₂ t₃
  have h₂ : Agrees t₂ := h.closePort.forAll fun _ _ k => k.setLd.resetPortRing
  have h₃ : Agrees t₃ := h₂.clearIde.fixPort.countReset.releaseStalled
  exact .ite h₃.setPort.wakeOver h₃

theorem Agrees.resetLd (h : Agrees t) : Agrees (t.resetLd p l) :=
  h.endEpoch.setPort.resetPortRing.wr.countReset.releaseStalled

theorem Agrees.stopPort (h : Agrees t) : Agrees (t.stopPort p) := .ite h.setPort h.setPort.portReset

theorem Agrees.loseRefclk (h : Agrees t) : Agrees t.loseRefclk :=
  .forAll (.ite (h.forAll fun _ _ k => .ite k k.portReset.err.cause)
    (.cause (.err (.doveLanesDown (h.forAll fun _ _ k => .ite k k.portReset.err.cause))))) fun _ _ k => k.clr

theorem Agrees.lanesOff (h : Agrees t) : Agrees t.lanesOff := .doveLanesDown (h.forAll fun _ _ k => k.closePort)
theorem Agrees.denied (h : Agrees t) : Agrees (t.denied p l opcode) := h.bump.cause.log

/-! ### Machine/PowerOn -/

theorem Agrees.storeTb (h : Agrees t) : Agrees t.storeTb := h.upd

theorem Agrees.releasePins (h : Agrees t) : Agrees t.releasePins :=
  .upd (.ite (.emit (.ite (.emit (.ite h.clr.emit h)) (.ite h.clr.emit h)))
    (.ite (.emit (.ite h.clr.emit h)) (.ite h.clr.emit h)))

theorem Agrees.judgeBus (h : Agrees t) : Agrees (t.judgeBus vinMv) := h.wrb
theorem Agrees.powerOff (h : Agrees t) : Agrees t.powerOff := h.upd.releasePins.clr.clr.forAll fun _ _ k => k.clr

theorem Agrees.finishAccepted (h : Agrees t) : Agrees (t.finishAccepted r) :=
  .ite h.ensure.perform (.perform (.completeWrite (h.forAll fun _ _ k => k.ensure)))

theorem Agrees.drain (h : Agrees t) : Agrees t.drain :=
  .endHolding (.forAll (.upd (.settle (.forAll (h.upd.forAll fun _ _ k => k.arrive) fun _ _ k => k.failRecovery)))
    fun _ _ k => k.finishAccepted)

theorem Agrees.carryTo {a1 : Nat} (h : Agrees t) : Agrees (t.carryTo a1) :=
  .ite h.upd.bump.wr.cause.err h.upd.bump.wr.cause

theorem Agrees.carryTb (h : Agrees t) : Agrees t.carryTb := .ite h.carryTo.endWindow h
theorem Agrees.readyTb (h : Agrees t) : Agrees t.readyTb := .ite h h.readyDomain

theorem Agrees.wakeDomains (h : Agrees t) : Agrees t.wakeDomains :=
  .readyTb (.carryTb (h.forAll fun _ _ k => k.runDomain))

theorem Agrees.wakePcs (h : Agrees t) : Agrees t.wakePcs := h.forAll fun _ _ k => .ite k.exitSr k.clr
theorem Agrees.pagesBack (h : Agrees t) : Agrees t.pagesBack := h.forAll fun _ _ k => .ite k.wr k

theorem Agrees.endStep (h : Agrees t) : Agrees t.endStep := by
  unfold State.endStep
  split
  · exact h
  · exact .ite h.upd.wr.setPort.train (.ite h.upd.wr.train h.upd.wr)

theorem Agrees.endOffline (h : Agrees t) : Agrees t.endOffline := .ite h.clr.pagesBack h
theorem Agrees.endBist (h : Agrees t) : Agrees (t.endBist st) := h.upd.endStep.endOffline.wr
theorem Agrees.abandonStep (h : Agrees t) : Agrees t.abandonStep := .ite h h.upd.endBist
theorem Agrees.stopForBind (h : Agrees t) : Agrees t.stopForBind := h.wakeDomains.drain.wakePcs.stopCheckpoint.flushTags

/-! ### Machine/Bank -/

theorem Agrees.judgeEsr {esr : Nat} {again : Bool} (h : Agrees t) : Agrees (t.judgeEsr esr again) :=
  .ite h.wrb.cause.err h.wrb

theorem Agrees.provisional (h : Agrees t) : Agrees t.provisional := .ite h h.wr.wr.wr.judgeEsr

theorem Agrees.bankFields (h : Agrees t) : Agrees t.bankFields := by
  unfold State.bankFields
  extract_lets t₁
  have h₁ : Agrees t₁ := by
    unfold t₁
    split
    · exact h.wr.wr.wr.wr.wr
    · exact h
  split
  · exact h₁.wr.wrb
  · exact h₁.wr.clr

theorem Agrees.unidentified (h : Agrees t) : Agrees t.unidentified :=
  .fixBudget (.fixEnergy (.provisional (.bankFields (.err (.ite h.upd h.upd.wr)))))

theorem Agrees.busFailed (h : Agrees t) : Agrees t.busFailed := h.bump.cause.clr

theorem Agrees.eepromRead {d : EepromData} (h : Agrees t) : Agrees (t.eepromRead d) :=
  .fixBudget (.fixEnergy (.provisional (.bankFields
    (.ite (.ite h.put.put.clr.upd h.put.put.clr.upd.wr) (.err (.ite h.put.put.clr.upd h.put.put.clr.upd.wr))))))

theorem Agrees.readEeprom {data : Option EepromData} (h : Agrees t) : Agrees (t.readEeprom data) := by
  unfold State.readEeprom
  extract_lets t₁
  have h₁ : Agrees t₁ := h.wr
  split
  · exact h₁.eepromRead
  · exact h₁.upd.put

theorem Agrees.readFailed (h : Agrees t) : Agrees t.readFailed :=
  .ite h.upd.clr.clr.busFailed.err h.upd.clr.clr.busFailed.unidentified

theorem Agrees.execEepromReread {data : Option EepromData} (h : Agrees t) : AgreesNext (execEepromReread who data t) :=
  .next (h.command fun _ k => .ite k (.ite k.upd k.readEeprom))

theorem Agrees.execBankBusRetry {data : Option EepromData} (h : Agrees t) : AgreesNext (execBankBusRetry data t) := by
  unfold Machine.execBankBusRetry
  extract_lets t₁
  have h₁ : Agrees t₁ := h.advance.count
  split
  · exact .next h
  · split
    · exact .next h₁.eepromRead
    · exact .next (.ite h₁.readFailed h₁.upd)

theorem Agrees.execBankBusStuck {stillLow : Bool} (h : Agrees t) : AgreesNext (execBankBusStuck stillLow t) :=
  .ite (.next h) (.next (.ite h.upd.bump.err.clr.busFailed.unidentified h.upd.bump.err))

theorem Agrees.dueRecord {cycles : Nat} (h : Agrees t) : Agrees (t.dueRecord cycles) := h.upd

theorem Agrees.execEepromRecordWrite (h : Agrees t) : AgreesNext (execEepromRecordWrite t) := by
  unfold Machine.execEepromRecordWrite
  split
  · exact .next h
  · exact .ite (.next h) (.next h.upd.put)

theorem Agrees.recordEnds (h : Agrees t) : Agrees t.recordEnds := .ite h.clr.upd.readEeprom h.clr.upd

theorem Agrees.execEepromWriteCycleDone (h : Agrees t) : AgreesNext (execEepromWriteCycleDone verified t) := by
  unfold Machine.execEepromWriteCycleDone
  split
  · exact .next h
  · exact .ite (.next h.upd.emit) (.ite (.next h.upd.emit.put.bankFields.recordEnds)
      (.ite (.next h.upd) (.next h.busFailed.err.recordEnds)))

theorem Agrees.bankLost (h : Agrees t) : Agrees t.bankLost := h.wr.cause.err
theorem Agrees.followBank (h : Agrees t) : Agrees t.followBank := h.fixEnergy.fixBudget
theorem Agrees.beginMeasure (h : Agrees t) : Agrees (t.beginMeasure v0Mv) := .ite h h.put.clr.put.upd

theorem Agrees.execMeasure (h : Agrees t) : AgreesNext (execMeasure who v0Mv t) :=
  .next (h.command fun _ k => k.beginMeasure)

theorem Agrees.execMeasurePeriodExpiry (h : Agrees t) : AgreesNext (execMeasurePeriodExpiry v0Mv t) :=
  .ite (.next h) (.next h.advanceTo.beginMeasure)

theorem Agrees.execMeasureSample {second : Bool} {v : Nat} (h : Agrees t) : AgreesNext (execMeasureSample second v t) :=
  .ite (.next h) (.ite (.next h.advanceTo.upd) (.next h.advanceTo.upd))

theorem Agrees.openSwitch (h : Agrees t) : Agrees t.openSwitch := .ite h h.clr

theorem Agrees.discardMeasure (h : Agrees t) : Agrees t.discardMeasure :=
  .ite (.followBank (.ite h.err.upd h.err.upd.bankLost)) h.err.upd

theorem Agrees.judgeBank {c esr : Nat} (h : Agrees t) : Agrees (t.judgeBank c esr) :=
  .judgeEsr (.ite h.wrb.cause.err h.wrb)

theorem Agrees.acceptMeasure {c esr v3 : Nat} (h : Agrees t) : Agrees (t.acceptMeasure c esr v3) :=
  h.upd.wr.wr.wr.put.bump.wr64.wr.wr.judgeBank.cause.dueRecord.followBank

theorem Agrees.execMeasureEnd {v3 : Nat} (h : Agrees t) : AgreesNext (execMeasureEnd v3 t) := by
  unfold Machine.execMeasureEnd
  extract_lets _ t₂
  have h₂ : Agrees t₂ := h.advanceTo.clr.openSwitch.wrb
  split
  · exact .ite (.next h₂.discardMeasure) (.next h₂.acceptMeasure)
  · exact .next h

theorem Agrees.execMeasureRetry (h : Agrees t) : AgreesNext (execMeasureRetry v0Mv t) := by
  unfold Machine.execMeasureRetry
  split
  · exact .next h
  · exact .next h.advanceTo.beginMeasure

theorem Agrees.checkDetector (h : Agrees t) : Agrees (t.checkDetector vinMv) := .ite h.upd.errImmediate h.upd

theorem Agrees.sampleBank {vbankMv ichgMa headroomMa : Nat} (h : Agrees t) :
    Agrees (t.sampleBank vbankMv ichgMa headroomMa vinMv) :=
  h.wr.wr.wrb.wr.wrb.wrb

theorem Agrees.countCycle {vbankMv : Nat} (h : Agrees t) : Agrees (t.countCycle vbankMv) :=
  .ite h.upd.dueRecord (.ite h.upd h)

theorem Agrees.execBankHousekeepingRound {vbankMv : Nat} {charge : ChargeCurrent} (h : Agrees t) :
    AgreesNext (execBankHousekeepingRound vbankMv charge vinMv t) := by
  unfold Machine.execBankHousekeepingRound
  extract_lets t₁ _ t₂ _ _ _ t₄ _ _ t₅ t₆ t₇
  have h₁ : Agrees t₁ := by
    unfold t₁
    split
    · exact h.advanceTo
    · exact h
  have h₂ : Agrees t₂ := h₁.upd
  have h₄ : Agrees t₄ := h₂.sampleBank.upd
  have h₅ : Agrees t₅ := .ite h₄.fixEnergy.bankLost.fixBudget h₄.followBank
  have h₆ : Agrees t₆ := h₅.countCycle
  have h₇ : Agrees t₇ := .ite h₆.beginMeasure h₆
  exact .ite (.next h) (.ite (.next h₂.checkDetector) (.next h₇.checkDetector))

theorem Agrees.execVinBelowThreshold (h : Agrees t) : AgreesNext (execVinBelowThreshold t) :=
  .ite (.next h) (.next (.upd (.ite h.put.put.clr h.put.put)))

theorem Agrees.execVinRecovered (h : Agrees t) : AgreesNext (execVinRecovered t) :=
  .ite (.next h) (.ite (.next h.upd.clr) (.next (.cause (.bump (.ite h.upd.clr h.upd.clr.clr)))))

theorem Agrees.execPfailNLow (h : Agrees t) : AgreesNext (execPfailNLow t) := .ite (.next h) (.next h.upd.put)
theorem Agrees.execPfailNRelease (h : Agrees t) : AgreesNext (execPfailNRelease t) := .next h.upd.clr

theorem Agrees.failPower {cause : Nat} (h : Agrees t) : Agrees (t.failPower cause) :=
  .upd (.abandonStep (.lanesOff (h.put.put.wr.clr.clr.clr.upd.upd.stopForBind.clr.clr.forAll fun _ _ k => .ite k
    k.stopRun.setCalMode)))

theorem Agrees.execPowerFailDeclare {byVin byPfail : Bool} (h : Agrees t) :
    AgreesNext (execPowerFailDeclare byVin byPfail t) := by
  unfold Machine.execPowerFailDeclare
  extract_lets _ _ t₁ _ _ _ t₂
  have h₁ : Agrees t₁ := h.advanceTo
  have h₂ : Agrees t₂ := h₁.failPower
  exact .ite (.next h) (.ite (.next h₁.wr.clr.powerOff)
    (.ite (.next h₁.upd.wr.clr.powerOff) (.ite (.next h₂) (.ite (.next h₂.powerOff) (.next h₂.upd)))))

theorem Agrees.afterBindPowered (h : Agrees t) : Agrees (t.afterBindPowered safe) := .ite h.storeTb.upd h.storeTb
theorem Agrees.beginBind (h : Agrees t) : Agrees (t.beginBind kind safe) := h.advance.takeBsn.pump.upd
theorem Agrees.bindSkipped (h : Agrees t) : Agrees (t.bindSkipped safe) := .ite h.upd.clr.upd h.upd

theorem Agrees.execBindStart (h : Agrees t) : AgreesNext (execBindStart t) := by
  unfold Machine.execBindStart
  extract_lets t₁
  have h₁ : Agrees t₁ := h.stopForBind.blowFuse
  split
  · exact .next h
  · split
    · exact .next h
    · exact .ite (.next (.ite h₁.bindSkipped.upd h₁.bindSkipped.afterBindPowered)) (.next h₁.beginBind)

theorem Agrees.bindDone (h : Agrees t) : Agrees (t.bindDone c p0 p1) := .ite h.commit.upd.put.clr.cause.upd h.commit.upd

theorem Agrees.unbound (h : Agrees t) : Agrees (t.unbound c) :=
  .ite h.upd.err.put.clr.cause.err.upd.setPersist.fixLevel.err h.upd.err

theorem Agrees.execBankEndVoltage (h : Agrees t) : AgreesNext (execBankEndVoltage t) :=
  .ite (.next h) (.next h.upd.powerOff)

/-! ### Machine/Gauge -/

theorem Agrees.execGaugeWindowStart (h : Agrees t) : AgreesNext (execGaugeWindowStart t) :=
  .ite (.next h) (.next h.advance.endWindow)

theorem Agrees.resetPair (h : Agrees t) : Agrees (t.resetPair p) := h.wr.clr.clr.wr.wr.upd.setPair

theorem Agrees.execGaugeTableSweep {corrected uncorrectable : List (Fin 208)} (h : Agrees t) :
    AgreesNext (execGaugeTableSweep corrected uncorrectable t) :=
  .next (.fixGauge (.forAll (h.forAll fun _ _ k => k.err) fun _ _ k => k.resetPair.err))

/-! ### Machine/Cal -/

theorem inLayer_laneSetting {w : Nat} : inLayer (laneSetting g l w) = false := by
  unfold laneSetting
  split <;> rfl

theorem Agrees.moveSetting {d : Int} (h : Agrees t) : Agrees (t.moveSetting u' n d) :=
  .ite (.ite h.setCal h.wr) (h.wr inLayer_laneSetting)

theorem Agrees.execCalRun {pc : PcNo} (h : Agrees t) : AgreesNext (execCalRun who pc t) :=
  .next (h.command fun _ k => k.calEvent)

theorem Agrees.abortRun (h : Agrees t) : Agrees (t.abortRun u') := .ite h (.ite h.stopRun.beginRun h.stopRun)

theorem Agrees.execCalAbort {pc : PcNo} (h : Agrees t) : AgreesNext (execCalAbort who pc t) :=
  .next (h.command fun _ k => k.abortRun)

theorem Agrees.execPhyCalRun (h : Agrees t) : AgreesNext (execPhyCalRun who group t) :=
  .next (h.command fun _ k => k.calEvent)

theorem Agrees.execPhyCalAbort (h : Agrees t) : AgreesNext (execPhyCalAbort who group t) :=
  .next (h.command fun _ k => k.abortRun)

theorem Agrees.execCalPeriodExpiry {unit : Fin 69} (h : Agrees t) : AgreesNext (execCalPeriodExpiry unit t) :=
  .ite (.next h) (.next h.advanceTo.calEvent)

theorem Agrees.endRun (h : Agrees t) : Agrees (t.endRun u') := by
  unfold State.endRun
  extract_lets c t₁ t₂ t₃ t₄ t₅
  have h₁ : Agrees t₁ := (h.bump (inLayer_ite rfl rfl)).wrb (inLayer_ite rfl rfl)
  have h₂ : Agrees t₂ := .ite h₁.wr64 h₁
  have h₃ : Agrees t₃ := .ite (h₂.wr (inLayer_ite rfl rfl)) h₂
  have h₄ : Agrees t₄ := h₃.setCalMode.cause
  have h₅ : Agrees t₅ := .ite h₄.cause h₄
  exact .ite h₅.beginRun h₅

theorem Agrees.rejectResult {run last : Fld} (h : Agrees t) (hr : inLayer run = false := by rfl)
    (hl : inLayer last = false := by rfl) : Agrees (t.rejectResult u' n run last) := by
  unfold State.rejectResult
  extract_lets t₁ k t₂ t₃ t₄
  have h₁ : Agrees t₁ := (h.bump (inLayer_ite rfl rfl)).put hl
  have h₃ : Agrees t₃ := (h₁.wr hr).err
  have h₄ : Agrees t₄ := .ite h₃.err h₃
  exact h₄.setCal

theorem Agrees.acceptResult {run last : Fld} {steps : List (Nat × Int)} (h : Agrees t)
    (hr : inLayer run = false := by rfl) (hl : inLayer last = false := by rfl) : Agrees
    (t.acceptResult u' run last steps) :=
  ((h.clr hl).wr hr).setCal

theorem Agrees.judgeVia {r : CalResult} (h : Agrees t) : Agrees (t.judgeVia pc ok r) :=
  .ite h.wr.acceptResult h.rejectResult

theorem Agrees.judgeVref {vref : Nat} (h : Agrees t) : Agrees (t.judgeVref pc vref) := .ite h.setCal h.bump.err.setCal

theorem Agrees.narrowest {rs : List CalResult} (h : Agrees t) : Agrees (t.narrowest pc rs) := by
  unfold State.narrowest
  split
  · exact h
  · exact h.wr.wr

theorem Agrees.judgePc {vref : Nat} (h : Agrees t) : Agrees (t.judgePc pc results vref) :=
  .ite (.setCal (.drawn (.judgeVref (h.narrowest.forAll fun _ _ k => k.judgeVia))))
    (.judgeVref (h.narrowest.forAll fun _ _ k => k.judgeVia))

theorem Agrees.applyRun (h : Agrees t) : Agrees (t.applyRun u') := .ite h.endRun h.setCalMode

theorem Agrees.judgeLane {r : CalResult} (h : Agrees t) : Agrees (t.judgeLane g r) :=
  .ite (.acceptResult (.ite h.wr.wr.err h.wr.wr)) h.rejectResult

theorem Agrees.judgeGroup (h : Agrees t) : Agrees (t.judgeGroup g results) := by
  unfold State.judgeGroup
  extract_lets t₁
  have h₁ : Agrees t₁ := by
    unfold t₁
    split
    · exact h
    · exact h.wr.wr
  exact h₁.forAll fun _ _ k => k.judgeLane

theorem Agrees.execCalCollectionComplete {unit : Fin 69} {vref : Nat} (h : Agrees t) :
    AgreesNext (execCalCollectionComplete unit results vref t) :=
  .ite (.next h) (.next (.applyRun (.ite h.judgePc h.judgeGroup)))

theorem Agrees.execCalProbeTimeout {pc : PcNo} (h : Agrees t) : AgreesNext (execCalProbeTimeout pc t) :=
  .ite (.next h) (.next h.advanceTo.setCal.setCalMode)

theorem Agrees.execCalRunTimeout {pc : PcNo} {vref : Nat} (h : Agrees t) :
    AgreesNext (execCalRunTimeout pc results vref t) :=
  .ite (.next h) (.next (.applyRun (.judgePc (.ite h.advanceTo h.advanceTo.count.cause.err))))

theorem Agrees.execCalStep {unit : Fin 69} {index : Fin 97} (h : Agrees t) : AgreesNext (execCalStep unit index t) := by
  unfold Machine.execCalStep
  split
  · exact .next h
  · extract_lets mine
    split
    · exact .next h
    · extract_lets d t₁ left _ t₂
      have h₁ : Agrees t₁ := h.moveSetting.bump (inLayer_ite rfl rfl)
      have h₂ : Agrees t₂ := h₁.setCal
      exact .next (.ite h₂.endRun h₂)

/-! ### Machine/Therm -/

theorem Agrees.goFast (h : Agrees t) : Agrees (t.goFast n) := .ite h h.put.setSensor

theorem Agrees.failSensor (h : Agrees t) : Agrees (t.failSensor n) := by
  unfold State.failSensor
  exact h.put.clr.setSensor.cause.err

theorem Agrees.takeReading {v : Int} (h : Agrees t) : Agrees (t.takeReading n v) :=
  .ite h.setSensor.wr.wr h.setSensor.wr

theorem Agrees.setLevel (h : Agrees t) : Agrees (t.setLevel l level) :=
  .ite h (.fixGauge (.setLayer (.ite (.cause (.ite h.setHeat.wr.bump.clrBit h.setHeat.wr.bump.setBit))
    (.ite h.setHeat.wr.bump.clrBit h.setHeat.wr.bump.setBit))))

theorem Agrees.keepFloor (h : Agrees t) : Agrees (t.keepFloor l) := h.setLevel
theorem Agrees.keepFloors (h : Agrees t) : Agrees t.keepFloors := h.forAll fun _ _ k => k.keepFloor

theorem Agrees.setDieLevel (h : Agrees t) : Agrees (t.setDieLevel d level) :=
  .ite h.setLevel (.ite h h.setHeat.wr.keepFloors)

theorem Agrees.execThrottleRise {die : Fin 17} (h : Agrees t) : AgreesNext (execThrottleRise die t) := by
  unfold Machine.execThrottleRise
  split
  · exact .next h
  · exact .ite (.next h) (.next h.advanceTo.setDieLevel)

theorem Agrees.execThrottleFall {die : Fin 17} (h : Agrees t) : AgreesNext (execThrottleFall die t) := by
  unfold Machine.execThrottleFall
  split
  · exact .next h
  · exact .ite (.next h) (.next h.advanceTo.setDieLevel)

theorem Agrees.execDividerChange {layer : LayerNo} (h : Agrees t) : AgreesNext (execDividerChange layer t) :=
  .ite (.next h) (.next h.advance.takeDivider)

theorem Agrees.rateEvent (h : Agrees t) : Agrees (t.rateEvent n) :=
  .ite h (.ite (.setDieLevel (h.bump.cause.err.setHeat.forAll fun _ _ k => k.goFast))
    (h.bump.cause.err.setHeat.forAll fun _ _ k => k.goFast))

theorem Agrees.becomeSuspect (h : Agrees t) : Agrees (t.becomeSuspect l) := by
  unfold State.becomeSuspect
  extract_lets _ _ _ _ t₃
  have h₃ : Agrees t₃ := h.setHeat.put.setBit.forAll fun _ _ k => k.put
  split
  · exact h
  · split
    · exact .keepFloors (.forAll (.ite h₃.wr.wr.bump.cause.err.err h₃.wr.wr.bump.cause.err) fun _ _ k =>
        k.shortenWindow)

theorem Agrees.crossCheck (h : Agrees t) : Agrees (t.crossCheck l fast) := by
  unfold State.crossCheck
  extract_lets _ _ t₁ _ t₂
  have h₁ : Agrees t₁ := .ite (h.forAll fun _ _ k => k.goFast) h
  have h₂ : Agrees t₂ := h₁.setHeat
  exact .ite h₁.setHeat (.ite h₁ (.ite (.ite h₂.becomeSuspect h₂) h₁.setHeat))

theorem Agrees.rollCounts (h : Agrees t) : Agrees (t.rollCounts l) := .ite h h.setHeat

theorem Agrees.judgeLimits (h : Agrees t) : Agrees (t.judgeLimits d) :=
  .ite (.err (.cause (.ite h.setHeat.wrb h.setHeat))) (.ite h.setHeat.wrb h.setHeat)

theorem Agrees.judgePersist (h : Agrees t) : Agrees t.judgePersist := .ite h.upd.cause.cause.err (.ite h.upd h)

theorem Agrees.showLayer (h : Agrees t) : Agrees (t.showLayer l) :=
  .ite h.wr.wr.wr (h.wr.wr.wr.forAll fun _ _ k => k.wr)

theorem Agrees.spanLayer (h : Agrees t) : Agrees (t.spanLayer l) := h.setLayer

theorem Agrees.sampleLayer (h : Agrees t) : Agrees (t.sampleLayer l fast) :=
  .forAll (.judgeLimits (.shortenWindow (.spanLayer
    (.showLayer (.ite h.rollCounts.crossCheck.becomeSuspect h.rollCounts.crossCheck))))) fun _ _ k => k.calDrift

theorem Agrees.readDie (h : Agrees t) : Agrees (t.readDie d) := by
  unfold State.readDie
  split
  · exact h.setHeat
  · exact h

theorem Agrees.estimateAll (h : Agrees t) : Agrees t.estimateAll := h.forAll fun _ _ k => k.setHeat
theorem Agrees.fixAlert (h : Agrees t) : Agrees t.fixAlert := .ite h h.upd.emit

theorem Agrees.judgeDies {dies : List Nat} (h : Agrees t) : Agrees (t.judgeDies dies fast) := by
  unfold State.judgeDies
  extract_lets t₁ t₂ _ t₄ t₅
  have h₁ : Agrees t₁ := .estimateAll (h.forAll fun _ _ k => k.readDie)
  have h₂ : Agrees t₂ := h₁.forAll fun _ _ k => .ite k.sampleLayer k.judgeLimits
  have h₄ : Agrees t₄ := h₂.wr.wr.wr.wr
  have h₅ : Agrees t₅ := .ite (h₄.forAll fun _ _ k => k.calDrift) h₄
  exact h₅.judgePersist.keepFloors.fixAlert

theorem Agrees.slowReading {r : SensorReading} (h : Agrees t) : Agrees (t.slowReading r) := by
  unfold State.slowReading
  extract_lets
  split
  · extract_lets t₁ _ _ _ t₃
    have h₁ : Agrees t₁ := h.takeReading.setSensor
    have h₃ : Agrees t₃ := h.takeReading.setSensor
    split
    · exact .ite h₁.clr.setSensor h₁
    · split
      · exact .ite h₃.rateEvent h₃
      · exact h₃
  · exact .ite h.setSensor h.failSensor

theorem Agrees.judgeAgreement {bad : Bool} (h : Agrees t) : Agrees (t.judgeAgreement n bad) :=
  .ite h (.ite h.setSensor.failSensor h.setSensor)

theorem Agrees.bandOf (h : Agrees t) : Agrees (t.bandOf n) := by
  unfold State.bandOf
  split
  · exact .ite h.goFast h
  · exact h

theorem Agrees.execSensorSlowRound {readings : List SensorReading} (h : Agrees t) :
    AgreesNext (execSensorSlowRound readings t) := by
  unfold Machine.execSensorSlowRound
  extract_lets t₁ _ _ t₃ _ _ t₄ t₅
  have h₁ : Agrees t₁ := by
    unfold t₁
    split
    · exact h.advanceTo
    · exact h
  have h₃ : Agrees t₃ := h₁.upd.forAll fun _ _ k => k.slowReading
  have h₄ : Agrees t₄ := h₃.forAll fun _ _ k => k.judgeAgreement
  have h₅ : Agrees t₅ := h₄.forAll fun _ _ k => k.bandOf
  exact .ite (.next h) (.next h₅.judgeDies)

theorem Agrees.execSensorFastSample {reading : SensorReading} (h : Agrees t) :
    AgreesNext (execSensorFastSample reading t) := by
  unfold Machine.execSensorFastSample
  extract_lets _ t₁
  have h₁ : Agrees t₁ := h.advanceTo
  split
  · exact .next h
  · split
    · exact .next (.judgeDies (.ite (.rateEvent (.ite h₁.takeReading.setSensor.clr h₁.takeReading.setSensor))
        (.ite h₁.takeReading.setSensor.clr h₁.takeReading.setSensor)))
    · exact .next h₁.failSensor.judgeDies

theorem Agrees.execBandComparatorTrip {sensor : SensorNo} (h : Agrees t) :
    AgreesNext (execBandComparatorTrip sensor t) :=
  .next (.ite h.goFast h)

theorem Agrees.execFatalTemperature {sensor : SensorNo} (h : Agrees t) :
    AgreesNext (execFatalTemperature sensor t) := by
  unfold Machine.execFatalTemperature
  extract_lets
  split
  · exact .next h
  · exact .ite (.next h) (.next h.advanceTo.setHeat.cause.errImmediate)

theorem Agrees.execSuspectClear {layer : LayerNo} (h : Agrees t) : AgreesNext (execSuspectClear layer t) := by
  unfold Machine.execSuspectClear
  extract_lets
  split
  · exact .next (.shortenWindow (.showLayer (h.advanceTo.setHeat.clr.clrBit.forAll fun _ _ k => k.clr)))
  · exact .next h

theorem Agrees.execPowerSample {meanDw avgDw : Nat} (h : Agrees t) : AgreesNext (execPowerSample meanDw avgDw t) :=
  .ite (.next h) (.next h.wr.wr)

theorem Agrees.execCapAdjust (h : Agrees t) : AgreesNext (execCapAdjust t) :=
  .ite (.next h) (.next (.fixGauge (.ite h.wr.wrb.cause.err (.ite h.wr.wrb.cause h.wr.wrb))))

/-! ### Machine/Dove -/

theorem Agrees.resend (h : Agrees t) : Agrees (t.resend ack) := .ite h (h.upd.ackFlits.forAll fun _ _ k => k.emit)

theorem Agrees.badFlit {f : FlitRead} (h : Agrees t) : Agrees (t.badFlit f) :=
  .ite h.upd.bump.cause.err (.ite h.bump h.bump)

theorem Agrees.dataFlit {f : FlitRead} (h : Agrees t) : Agrees (t.dataFlit f) :=
  .ite h.upd.onMessages (.ite h h.askReplay)

theorem Agrees.execDoveFlitReceive {flit : DoveFlit} (h : Agrees t) : AgreesNext (execDoveFlitReceive flit t) := by
  unfold Machine.execDoveFlitReceive
  extract_lets _ t₁ _ t₂
  have h₁ : Agrees t₁ := .ite h.bump.bump h
  have h₂ : Agrees t₂ := h₁.upd.ackFlits
  split
  · exact .next h
  · split
    · exact .next h₁.badFlit.askReplay
    · split
      · exact .next h₂.dataFlit
      · exact .next h₂.resend
      · exact .next h₂

theorem Agrees.execDoveReplayRequest (h : Agrees t) : AgreesNext (execDoveReplayRequest ack t) := .next h.resend

theorem Agrees.execHeartbeatTimer (h : Agrees t) : AgreesNext (execHeartbeatTimer t) :=
  .ite (.next h) (.next (.startResync (.sendQueue
    (.applyList (.sendHello (.sendDove (.upd (.ite h.advanceTo.bump h.advanceTo))))))))

theorem Agrees.execPartnerLost (h : Agrees t) : AgreesNext (execPartnerLost t) :=
  .ite (.next h) (.next h.advanceTo.loseDove)

theorem Agrees.execMackTimer (h : Agrees t) : AgreesNext (execMackTimer t) :=
  .ite (.next h.applyList.upd.sendDove) (.next h.applyList)

theorem Agrees.execAutoPromoteExpiry (h : Agrees t) : AgreesNext (execAutoPromoteExpiry t) := by
  unfold Machine.execAutoPromoteExpiry
  split
  · exact .next h
  · exact .ite (.next h) (.next (h.advanceTo.upd.forAll fun _ _ k => .ite k.promote k))

theorem Agrees.execPad (h : Agrees t) : AgreesNext (execPad t) := .next h.onMessage
theorem Agrees.execHello (h : Agrees t) : AgreesNext (execHello prot h' t) := .next h.onMessage
theorem Agrees.execHeartbeat {b : Beat} (h : Agrees t) : AgreesNext (execHeartbeat b t) := .next h.onMessage

theorem Agrees.execSpdm {established failed : Bool} (h : Agrees t) : AgreesNext (execSpdm established failed t) :=
  .next h.onMessage

theorem Agrees.execMwrite {w : Mwrite} (h : Agrees t) : AgreesNext (execMwrite w t) := .next h.onMessage
theorem Agrees.execMack (h : Agrees t) : AgreesNext (execMack osn stroke t) := .next h.onMessage
theorem Agrees.execRreq {loc : Loc} (h : Agrees t) : AgreesNext (execRreq ident loc t) := .next h.onMessage

theorem Agrees.execRrsp {loc : Loc} {line : FormLine} (h : Agrees t) : AgreesNext (execRrsp ident loc line t) :=
  .next h.onMessage

theorem Agrees.execRdata {loc : Loc} {first second : FormLine} (h : Agrees t) :
    AgreesNext (execRdata stroke loc first second t) :=
  .next h.onMessage

theorem Agrees.execMark {quires : List QuireNo} (h : Agrees t) : AgreesNext (execMark pull quires t) :=
  .next h.onMessage

theorem Agrees.execBitmap {first : QuireNo} {bits : BitVec 1024} (h : Agrees t) :
    AgreesNext (execBitmap pull first bits t) :=
  .next h.onMessage

theorem Agrees.execConfig (h : Agrees t) : AgreesNext (execConfig range op reason base stop t) := .next h.onMessage
theorem Agrees.execRole (h : Agrees t) : AgreesNext (execRole range promoted t) := .next h.onMessage
theorem Agrees.execBye (h : Agrees t) : AgreesNext (execBye reason t) := .next h.onMessage
theorem Agrees.execDoveQueueRoom (h : Agrees t) : AgreesNext (execDoveQueueRoom t) := .next h.releaseQueue

theorem Agrees.pushPiece {num : Nat} (h : Agrees t) : Agrees (t.pushPiece num lo) :=
  h.settle.forAll fun _ _ k => k.engineRead.engineRead.sendDove

theorem Agrees.pullPiece (h : Agrees t) : Agrees (t.pullPiece lo) := h.forAll fun _ _ k => k.upd.sendDove

theorem Agrees.execResyncStroke (h : Agrees t) : AgreesNext (execResyncStroke t) := by
  unfold Machine.execResyncStroke
  split
  · exact .next h
  · split
    · exact .next h
    · exact .ite (.next h) (.ite (.next h.wr) (.ite (.next h.engineWaits)
        (.ite (.next h.recall) (.next (.ite h.wr.chargeEng.setEng.upd.pullPiece
        h.wr.chargeEng.setEng.upd.pushPiece)))))

theorem Agrees.execDoveCmdJoin (h : Agrees t) : AgreesNext (execDoveCmdJoin who t) :=
  .next (h.command fun _ k => .ite k.doveTrain k.upd.sendHello)

theorem Agrees.execDoveCmdLeave (h : Agrees t) : AgreesNext (execDoveCmdLeave who t) :=
  .next (h.command fun _ k => .ite k.sendDove.splitPair.wr k.sendDove)

theorem Agrees.execDoveCmdConfig (h : Agrees t) : AgreesNext (execDoveCmdConfig who range t) :=
  .next (h.command fun _ k => .ite k.put.refuseDove
    (.ite k.put.setRangeState.reserveArea.offer k.put.setRangeState.reserveArea))

theorem Agrees.execDoveCmdUnconfig (h : Agrees t) : AgreesNext (execDoveCmdUnconfig who range t) :=
  .next (h.command fun _ k => .ite k k.upd.finishWithdraw)

theorem Agrees.execDoveCmdPromote (h : Agrees t) : AgreesNext (execDoveCmdPromote who range all t) :=
  .next (h.command fun _ k => .ite (k.forAll fun _ _ l => .ite l.promote l) (.ite k.promote k.put.cause))

theorem Agrees.demoteRange (h : Agrees t) : Agrees (t.demoteRange n) := .ite h h.upd.clr.sendRole

theorem Agrees.execDoveCmdDemote (h : Agrees t) : AgreesNext (execDoveCmdDemote who range all t) :=
  .next (h.command fun _ k => .ite (k.forAll fun _ _ l => l.demoteRange) k.demoteRange)

theorem Agrees.execDoveCmdAccept (h : Agrees t) : AgreesNext (execDoveCmdAccept who t) :=
  .next (h.command fun _ k => .ite k (.judgeHello (k.clr.upd.forAll fun _ _ l => .ite l.promote l)))

theorem Agrees.execDoveFreqOffset {ppm : Int} (h : Agrees t) : AgreesNext (execDoveFreqOffset ppm t) :=
  .ite (.next h.wr.advance.doveDown.setPort.err) (.next h.wr)

/-! ### Machine/Ports -/

theorem Agrees.doveReset {cause : Nat} (h : Agrees t) : Agrees (t.doveReset cause) :=
  .ite h.doveLanesDown.upd h.doveLanesDown.train

theorem Agrees.takeReset {cause : Nat} (h : Agrees t) : Agrees (t.takeReset p cause partFlit) :=
  .train (.portReset (.ite h.clr h))

theorem Agrees.execPortReset {cause : Fin 5} (h : Agrees t) : AgreesNext (execPortReset group cause partFlit t) :=
  .ite (.next h) (.ite (.next h.doveReset) (.ite (.next (.ite h.setPort h)) (.ite (.next h) (.next h.takeReset))))

theorem Agrees.execCxlReset (h : Agrees t) : AgreesNext (execCxlReset port ld t) := .ite (.next h.resetLd) (.next h)

theorem Agrees.execFunctionLevelReset (h : Agrees t) : AgreesNext (execFunctionLevelReset port ld t) :=
  .ite (.next h) (.next h.setLd.setPort)

theorem Agrees.execPerstRelease (h : Agrees t) : AgreesNext (execPerstRelease group t) :=
  .ite (.next h.upd.train) (.next h.setPort.train)

theorem Agrees.execHdmDecoderCommit {index : LdNo × Bool} {dec : Decoder} (h : Agrees t) :
    AgreesNext (execHdmDecoderCommit port ld index dec t) :=
  .ite (.next h) (.ite (.next h) (.ite (.next h.setLd.fixPort) (.next h.setLd.fixPort)))

theorem Agrees.endSnoop {i : BackInv} {keep : Bool} (h : Agrees t) : Agrees (t.endSnoop p i keep) := h.setPort.longest
theorem Agrees.resumeSnooped (h : Agrees t) : Agrees t.resumeSnooped := h.releaseStalled.applyList

theorem Agrees.execBiResponse {loc : Loc} {modified : Option LineData} (h : Agrees t) :
    AgreesNext (execBiResponse port loc modified t) := by
  unfold Machine.execBiResponse
  extract_lets
  split
  · exact .next h
  · extract_lets t₁
    have h₁ : Agrees t₁ := h.endSnoop
    split
    · extract_lets
      split
      · exact .next h
      · split
        · exact .next h₁.refuseKey.resumeSnooped
        · exact .ite (.next h₁.bump.refuse.resumeSnooped) (.next h₁.completeWrite.perform.resumeSnooped)
    · exact .next h₁.resumeSnooped

theorem Agrees.execBiTimeout {loc : Loc} (h : Agrees t) : AgreesNext (execBiTimeout port loc t) := by
  unfold Machine.execBiTimeout
  extract_lets
  split
  · exact .next h
  · exact .next (.resumeSnooped (h.advanceTo.endSnoop.bump.cause.log.forAll fun _ _ k => k.enterLog))

theorem Agrees.fixIde (h : Agrees t) : Agrees (t.fixIde p) := h.wrb.wr.wrb.fixPort

theorem Agrees.execIdeKm {stream : Fin 4} {op : Fin 4} {keySet : Bool} {skid : Bool} (h : Agrees t) :
    AgreesNext (execIdeKm port stream op keySet skid t) := by
  unfold Machine.execIdeKm
  extract_lets _ _ _ _ t₁ t₂ t₃ t₄ t₅
  have h₁ : Agrees t₁ := h.setPort
  have h₂ : Agrees t₂ := .ite h₁.wrb.wrb.clr h₁
  have h₃ : Agrees t₃ := h.setPort
  have h₄ : Agrees t₄ := h.setPort
  have h₅ : Agrees t₅ := .ite h₄.clr.clr h₄
  split
  · exact .next h
  · split
    · exact .next (.ite h h.setPort)
    · exact .ite (.next h) (.next h₂.fixIde)
    · exact .ite (.next h) (.next (.ite h₃.wrb h₃))
    · exact .next h₅.fixIde

theorem Agrees.execIdeCheckFail (h : Agrees t) : AgreesNext (execIdeCheckFail port t) := by
  have hf : inLayer (PORT_IDE_ERR.count.port port) = false := by
    simp only [inLayer_eq, Bool.and_eq_false_iff, Bool.or_eq_false_iff, decide_eq_false_iff_not]
    have hpage : (PORT_IDE_ERR.count.port port).page = 0x10 + port := rfl
    have hslot : (PORT_IDE_ERR.count.port port).slot = 0x124 * 32 := rfl
    omega
  exact .ite (.next h) (.next (.err (.ite (h.bump hf).cause.setPort.put.fixIde (h.bump hf).cause)))

theorem Agrees.execConfigSpaceWrite {l0s l1 l11 l12 tsp : Bool} (h : Agrees t) :
    AgreesNext (execConfigSpaceWrite port ld l0s l1 l11 l12 tsp t) :=
  .ite (.next h) (.next h.setLd.fixPort)

theorem Agrees.execAerSend (h : Agrees t) : AgreesNext (execAerSend port t) := by
  unfold Machine.execAerSend
  split
  · exact .next h
  · extract_lets _ t₁
    have h₁ : Agrees t₁ := by
      unfold t₁
      split
      · exact h.advanceTo
      · exact h
    exact .ite (.next h) (.next h₁.setPort.setLd.send)

/-! ### Machine/Mailbox -/

theorem Agrees.served {dead : Bool} {f : State → Answer} (h : Agrees t) (hf : ∀ u, Agrees u → Agrees (f u).2.2) :
    Agrees (t.served p l dead f) := by
  unfold State.served
  refine .emit ?_
  split
  · exact h
  · exact hf _ h

theorem Agrees.mailbox {c : Instr} {dead : Bool} {f : State → Answer} (h : Agrees t)
    (hf : ∀ u, Agrees u → Agrees (f u).2.2) : AgreesNext (t.mailbox c p l dead f) :=
  .next (.ite h (.ite h.upd (h.served fun _ k => hf _ k)))

theorem Agrees.adminOnly {f : State → Answer} (h : Agrees t) (hf : ∀ u, Agrees u → Agrees (f u).2.2) :
    Agrees (t.adminOnly p l opcode f).2.2 := by
  unfold State.adminOnly
  split
  · exact hf _ h
  · exact .thd h.denied

theorem Agrees.ownOnly {f : State → Answer} (h : Agrees t) (hf : ∀ u, Agrees u → Agrees (f u).2.2) :
    Agrees (t.ownOnly p l opcode dpa len f).2.2 := by
  unfold State.ownOnly
  split
  · exact hf _ h
  · exact .thd h.denied

theorem Agrees.bgStart {first lines : Nat} (h : Agrees t) : Agrees (t.bgStart kind p l first lines) := h.upd

theorem Agrees.mbGetEvents (h : Agrees t) : Agrees (t.mbGetEvents p l n).2.2 := h.upd

theorem Agrees.execGetEventRecords {log : LogName} (h : Agrees t) : AgreesNext (execGetEventRecords port ld log t) :=
  h.mailbox fun _ k => k.mbGetEvents

theorem Agrees.mbClearEvents {handles : List Nat} (h : Agrees t) : Agrees (t.mbClearEvents p l n all handles).2.2 := by
  unfold State.mbClearEvents
  extract_lets
  split
  · exact .thd h.setLd
  · split
    · exact .thd h.setLd
    · exact .thd h

theorem Agrees.execClearEventRecords {log : LogName} {handles : List Nat} (h : Agrees t) :
    AgreesNext (execClearEventRecords port ld log all handles t) :=
  h.mailbox fun _ k => k.mbClearEvents

theorem Agrees.mbGetPolicy (h : Agrees t) : Agrees (t.mbGetPolicy p l).2.2 := h.upd

theorem Agrees.execGetEventInterruptPolicy (h : Agrees t) : AgreesNext (execGetEventInterruptPolicy port ld t) :=
  h.mailbox fun _ k => k.mbGetPolicy

theorem Agrees.mbSetPolicy {info warn fail fatal : Nat} (h : Agrees t) :
    Agrees (t.mbSetPolicy p l info warn fail fatal).2.2 :=
  h.upd

theorem Agrees.execSetEventInterruptPolicy {info warn fail fatal : Fin 3} (h : Agrees t) :
    AgreesNext (execSetEventInterruptPolicy port ld info warn fail fatal t) :=
  h.mailbox fun _ k => k.mbSetPolicy

theorem Agrees.setFwSlot {v : FwSlot} (h : Agrees t) : Agrees (t.setFwSlot n v) := h.upd
theorem Agrees.fixFw (h : Agrees t) : Agrees t.fixFw := h.wr.wr.wr
theorem Agrees.fwArrived (h : Agrees t) : Agrees (t.fwArrived version secver sigOk) := h.setFwSlot.put
theorem Agrees.resetMgmt (h : Agrees t) : Agrees t.resetMgmt := h.clr.upd
theorem Agrees.activateImage (h : Agrees t) : Agrees t.activateImage := h.wr.clr.fixFw.resetMgmt.cause.upd

theorem Agrees.mbFwInfo (h : Agrees t) : Agrees t.mbFwInfo.2.2 := h.upd

theorem Agrees.execGetFwInfo (h : Agrees t) : AgreesNext (execGetFwInfo port ld t) := h.mailbox fun _ k => k.mbFwInfo

theorem Agrees.mbTransferFw {action : Nat} (h : Agrees t) :
    Agrees (t.mbTransferFw p l action offset version secver sigOk).2.2 := by
  unfold State.mbTransferFw
  extract_lets
  refine .adminOnly h (fun u k => ?_)
  extract_lets
  split
  · exact .thd k
  · split
    · exact .thd k.setLd.fwArrived
    · split
      · exact .thd k.setLd
      · exact .thd k
    · split
      · split
        · exact .thd k.setLd
        · exact .thd k
      · exact .thd k
    · split
      · split
        · exact .thd k.setLd.fwArrived
        · exact .thd k
      · exact .thd k
    · exact .thd k.setLd

theorem Agrees.execTransferFw {action : Fin 5} (h : Agrees t) :
    AgreesNext (execTransferFw port ld action offset version secver sigOk t) :=
  h.mailbox fun _ k => k.mbTransferFw

theorem Agrees.mbActivateFw (h : Agrees t) : Agrees (t.mbActivateFw p l).2.2 := by
  unfold State.mbActivateFw
  refine .adminOnly h (fun u k => ?_)
  split
  · exact .thd k.activateImage
  · exact .thd k

theorem Agrees.execActivateFw (h : Agrees t) : AgreesNext (execActivateFw port ld t) :=
  h.mailbox fun _ k => k.mbActivateFw

theorem Agrees.execFwFallback (h : Agrees t) : AgreesNext (execFwFallback t) := by
  unfold Machine.execFwFallback
  split
  · exact .next h
  · exact .next h.advanceTo.upd.wr.fixFw.put.cause.err.resetMgmt

theorem Agrees.mbGetTime (h : Agrees t) : Agrees t.mbGetTime.2.2 := h.upd

theorem Agrees.execGetTimestamp (h : Agrees t) : AgreesNext (execGetTimestamp port ld t) :=
  h.mailbox fun _ k => k.mbGetTime

theorem Agrees.setTb (h : Agrees t) : Agrees (t.setTb ns) := by
  unfold State.setTb
  exact .endWindow (.ite h.upd.put.bump.cause.put.cause.err h.upd.put.bump.cause)

theorem Agrees.mbSetTime (h : Agrees t) : Agrees (t.mbSetTime p l ns).2.2 := by
  unfold State.mbSetTime
  split
  · exact .thd h.setTb
  · exact .thd h.bump

theorem Agrees.execSetTimestamp {ns : BitVec 64} (h : Agrees t) : AgreesNext (execSetTimestamp port ld ns t) :=
  h.mailbox fun _ k => k.mbSetTime

theorem Agrees.execGetSupportedLogs (h : Agrees t) : AgreesNext (execGetSupportedLogs port ld t) :=
  h.mailbox fun _ k => .thd k

theorem Agrees.execGetLog {vendor : Bool} (h : Agrees t) : AgreesNext (execGetLog port ld vendor t) := by
  refine h.mailbox fun u k => ?_
  split
  · exact .thd k.drawn
  · exact .thd k

theorem Agrees.execGetSupportedFeatures (h : Agrees t) : AgreesNext (execGetSupportedFeatures port ld t) :=
  h.mailbox fun _ k => .thd k

theorem Agrees.mbMaintain {cls : Nat} (h : Agrees t) : Agrees (t.mbMaintain p l cls dpa).2.2 := by
  unfold State.mbMaintain
  extract_lets
  refine .adminOnly h (fun u k => ?_)
  extract_lets _ _ t₂
  have h₂ : Agrees t₂ := k.wr.wr.requestRepair
  split
  · exact .thd k
  · exact .thd (.ite h₂.bgStart h₂)

theorem Agrees.execPerformMaintenance {cls : Fin 4} {dpa : BitVec 44} (h : Agrees t) :
    AgreesNext (execPerformMaintenance port ld cls dpa t) :=
  h.mailbox fun _ k => k.mbMaintain

theorem Agrees.mbIdentify (h : Agrees t) : Agrees t.mbIdentify.2.2 := .thd (.ite h.drawn h)

theorem Agrees.execIdentifyMemoryDevice (h : Agrees t) : AgreesNext (execIdentifyMemoryDevice port ld t) :=
  h.mailbox fun _ k => k.mbIdentify

theorem Agrees.execGetPartitionInfo (h : Agrees t) : AgreesNext (execGetPartitionInfo port ld t) :=
  h.mailbox fun _ k => .thd k

theorem Agrees.mbHealth (h : Agrees t) : Agrees t.mbHealth.2.2 := h.upd

theorem Agrees.execGetHealthInfo (h : Agrees t) : AgreesNext (execGetHealthInfo port ld t) :=
  h.mailbox fun _ k => k.mbHealth

theorem Agrees.mbGetAlert (h : Agrees t) : Agrees (t.mbGetAlert p l).2.2 := h.upd

theorem Agrees.execGetAlertConfig (h : Agrees t) : AgreesNext (execGetAlertConfig port ld t) :=
  h.mailbox fun _ k => k.mbGetAlert

theorem Agrees.mbSetAlert {life temp : Nat} (h : Agrees t) : Agrees (t.mbSetAlert p l life temp).2.2 :=
  h.adminOnly fun _ k => .thd k.setLd

theorem Agrees.execSetAlertConfig {life temp : Nat} (h : Agrees t) :
    AgreesNext (execSetAlertConfig port ld life temp t) :=
  h.mailbox fun _ k => k.mbSetAlert

theorem Agrees.execGetShutdownState (h : Agrees t) : AgreesNext (execGetShutdownState port ld t) :=
  h.mailbox fun _ k => .thd k

theorem Agrees.mbSetShutdown {clean : Bool} (h : Agrees t) : Agrees (t.mbSetShutdown p l clean).2.2 :=
  h.adminOnly fun _ k => .thd k.upd

theorem Agrees.execSetShutdownState {clean : Bool} (h : Agrees t) : AgreesNext (execSetShutdownState port ld clean t) :=
  h.mailbox fun _ k => k.mbSetShutdown

theorem Agrees.mbGetPoison (h : Agrees t) : Agrees (t.mbGetPoison p l dpa len).2.2 := h.ownOnly fun _ k => .thd k

theorem Agrees.execGetPoisonList {dpa : BitVec 44} (h : Agrees t) : AgreesNext (execGetPoisonList port ld dpa len t) :=
  h.mailbox fun _ k => k.mbGetPoison

theorem Agrees.touchLine (h : Agrees t) : Agrees (t.touchLine loc master) :=
  h.ensure.settleLine.engineRow.callBack.markDirty.chargeEng

theorem Agrees.mbInject (h : Agrees t) : Agrees (t.mbInject p l dpa).2.2 := by
  unfold State.mbInject
  extract_lets
  refine .adminOnly h (fun u k => ?_)
  extract_lets
  split
  · exact .thd k
  · split
    · exact .thd k
    · exact .thd k.touchLine.poisonLine

theorem Agrees.execInjectPoison {dpa : BitVec 44} (h : Agrees t) : AgreesNext (execInjectPoison port ld dpa t) :=
  .ite (.next h.holdEngine) (.next (h.coherent (.after (h.mailbox fun _ k => k.mbInject))))

theorem Agrees.mbClearPoison {data : LineData} (h : Agrees t) : Agrees (t.mbClearPoison p l dpa data).2.2 := by
  unfold State.mbClearPoison
  extract_lets
  refine .ownOnly h (fun u k => ?_)
  extract_lets t₁
  have h₁ : Agrees t₁ := k.touchLine.clearSpan
  split
  · exact .thd k
  · exact .thd (.ite h₁.setPush h₁)

theorem Agrees.execClearPoison {dpa : BitVec 44} {data : LineData} (h : Agrees t) :
    AgreesNext (execClearPoison port ld dpa data t) :=
  .ite (.next h.holdEngine) (.next (h.coherent (.after (h.mailbox fun _ k => k.mbClearPoison))))

theorem Agrees.mbScanCaps (h : Agrees t) : Agrees (t.mbScanCaps p l dpa len).2.2 := h.ownOnly fun _ k => .thd k

theorem Agrees.execGetScanMediaCapabilities {dpa : BitVec 44} (h : Agrees t) :
    AgreesNext (execGetScanMediaCapabilities port ld dpa len t) :=
  h.mailbox fun _ k => k.mbScanCaps

theorem Agrees.mbScan (h : Agrees t) : Agrees (t.mbScan p l dpa len).2.2 := by
  unfold State.mbScan
  refine .ownOnly h (fun u k => ?_)
  split
  · exact .thd k
  · exact .thd k.bgStart

theorem Agrees.execScanMedia {dpa : BitVec 44} (h : Agrees t) : AgreesNext (execScanMedia port ld dpa len t) :=
  h.mailbox fun _ k => k.mbScan

theorem Agrees.mbScanResults (h : Agrees t) : Agrees t.mbScanResults.2.2 := h.upd

theorem Agrees.execGetScanMediaResults (h : Agrees t) : AgreesNext (execGetScanMediaResults port ld t) :=
  h.mailbox fun _ k => k.mbScanResults

theorem Agrees.mediaErase (h : Agrees t) : Agrees t.mediaErase := .startKerf (.ite h.drawn.upd.appendSys.commitVoid h)
theorem Agrees.cryptoErase (h : Agrees t) : Agrees t.cryptoErase := h.upd.cause.mediaErase

theorem Agrees.mbSanitize (h : Agrees t) : Agrees (t.mbSanitize p l).2.2 := by
  unfold State.mbSanitize
  refine .adminOnly h (fun u k => ?_)
  extract_lets
  split
  · exact .thd k
  · exact .thd k.cryptoErase.bgStart.upd

theorem Agrees.execSanitize (h : Agrees t) : AgreesNext (execSanitize port ld t) := h.mailbox fun _ k => k.mbSanitize

theorem Agrees.mbSecureErase (h : Agrees t) : Agrees (t.mbSecureErase p l).2.2 := by
  unfold State.mbSecureErase
  refine .adminOnly h (fun u k => ?_)
  split
  · exact .thd k
  · exact .thd k.cryptoErase

theorem Agrees.execSecureErase (h : Agrees t) : AgreesNext (execSecureErase port ld t) :=
  h.mailbox fun _ k => k.mbSecureErase

theorem Agrees.mbMediaOps (h : Agrees t) : Agrees (t.mbMediaOps p l op dpa len).2.2 := by
  unfold State.mbMediaOps
  extract_lets
  split
  · exact .thd h
  · refine .ownOnly h (fun u k => ?_)
    extract_lets _ t₁
    have h₁ : Agrees t₁ := k.forAll fun _ _ k => .ite k.setPush k
    split
    · exact .thd k
    · split
      · exact .thd k
      · exact .thd h₁.startKerf.bgStart
  · exact .thd h

theorem Agrees.execMediaOperations {op : Fin 3} {dpa : BitVec 44} (h : Agrees t) :
    AgreesNext (execMediaOperations port ld op dpa len t) :=
  h.mailbox fun _ k => k.mbMediaOps

theorem Agrees.scanOne {errs : List (Nat × Nat)} (h : Agrees t) : Agrees (t.scanOne loc errs) :=
  .ite h.engineRead.upd h.engineRead

theorem Agrees.runScan {o : Background} {errs : List (Nat × List SymErr)} (h : Agrees t) :
    Agrees (t.runScan o errs) := by
  unfold State.runScan
  extract_lets _ t₁ _ t₂ _ _ t₃ t₄
  have h₁ : Agrees t₁ := h.forAll fun _ _ k => k.ensure
  have h₂ : Agrees t₂ := h₁.upd.forAll fun _ _ k => .ite k.wakeForEngine k
  have h₃ : Agrees t₃ := h₂.forAll fun _ _ k => k.scanOne
  have h₄ : Agrees t₄ := h₃.chargeEng
  exact .ite h₄.upd h₄

theorem Agrees.execBackgroundOpComplete {kind : Fin 5} {errs : List (Nat × List SymErr)} (h : Agrees t) :
    AgreesNext (execBackgroundOpComplete kind errs t) := by
  unfold Machine.execBackgroundOpComplete
  extract_lets
  split
  · exact .next h
  · extract_lets t₁ _ t₂
    have h₁ : Agrees t₁ := h.upd
    have h₂ : Agrees t₂ := by
      unfold t₂
      split
      · exact h₁.upd
      · exact h₁.runScan
      · exact h₁
    exact .ite (.next h) (.next h₂.upd)

theorem Agrees.mbLocationMap (h : Agrees t) : Agrees (t.mbLocationMap p l).2.2 := h.upd

theorem Agrees.execGetLocationMap (h : Agrees t) : AgreesNext (execGetLocationMap port ld t) :=
  h.mailbox fun _ k => k.mbLocationMap

theorem Agrees.mbCheckpoint (h : Agrees t) : Agrees (t.mbCheckpoint p l limited).2.2 := by
  unfold State.mbCheckpoint
  split
  · exact .thd h
  · split
    · exact .thd h
    · exact .thd h.orderCkpt.bgStart

theorem Agrees.execOrderCheckpoint (h : Agrees t) : AgreesNext (execOrderCheckpoint port ld limited t) :=
  h.mailbox fun _ k => k.mbCheckpoint

theorem Agrees.mbSetAlloc {tp tl range : Nat} (h : Agrees t) : Agrees (t.mbSetAlloc p l tp tl range base stop).2.2 := by
  unfold State.mbSetAlloc
  refine .adminOnly h (fun u k => ?_)
  split
  · exact .thd k
  · exact .thd k.wr.wr

theorem Agrees.execSetLdAllocation {toPort : PortNo} {toLd : LdNo} {range : Fin 4} (h : Agrees t) :
    AgreesNext (execSetLdAllocation port ld toPort toLd range base stop t) :=
  h.mailbox fun _ k => k.mbSetAlloc

theorem Agrees.fmApi {c : Instr} {f : State → Answer} (h : Agrees t) (hf : ∀ u, Agrees u → Agrees (f u).2.2) :
    Agrees (t.fmApi c p f) :=
  .ite h (.ite h.upd (h.served fun _ k => hf _ k))

theorem Agrees.execGetLdAllocations (h : Agrees t) : AgreesNext (execGetLdAllocations port t) :=
  .next (h.fmApi fun _ k => .thd k)

theorem Agrees.execSetLdAllocations (h : Agrees t) : AgreesNext (execSetLdAllocations port t) :=
  .next (h.fmApi fun _ k => .thd k)

theorem Agrees.execMailboxUnsupported {opcode : BitVec 16} (h : Agrees t) :
    AgreesNext (execMailboxUnsupported port ld opcode t) :=
  h.mailbox fun _ k => .thd k

/-! ### Machine/Lanes -/

theorem Agrees.resumeLink (h : Agrees t) : Agrees (t.resumeLink g) :=
  .fixCal (h.wr.clr.runDomain.setLanes.setPort.forAll fun _ _ k => k.emit)

theorem Agrees.lockLane (h : Agrees t) : Agrees (t.lockLane g n offset) := .ite h.setLane.resumeLink h.setLane

theorem Agrees.takeSymbols {levels : List PamLevel} (h : Agrees t) : Agrees (t.takeSymbols g n levels) :=
  .ite h h.setLane

theorem Agrees.execLaneLock {offset : Fin 130} {finding : LockFinding} (h : Agrees t) :
    AgreesNext (execLaneLock group lane offset finding t) :=
  .ite (.next h.lockLane.takeSymbols) (.next h)

theorem Agrees.execAlignmentLoss (h : Agrees t) : AgreesNext (execAlignmentLoss group lane t) :=
  .ite (.next h) (.next h.setLane.wr.bump.cause.err.count.bump.cause.fixCal)

theorem Agrees.execLaneUnlockedTimeout (h : Agrees t) : AgreesNext (execLaneUnlockedTimeout group lane t) :=
  .ite (.next h) (.next h.advanceTo.setLane)

theorem Agrees.execTrainingRetry (h : Agrees t) : AgreesNext (execTrainingRetry group t) := by
  unfold Machine.execTrainingRetry
  split
  · exact .next h
  · exact .next h.advanceTo.setPort.train

theorem Agrees.equalise {set : Nat × Nat × Nat × Nat} (h : Agrees t) : Agrees (t.equalise g n rate set) :=
  h.wr.wr.wr.wr.wr.wr.wr.wr

theorem Agrees.saveLane {set : Nat × Nat × Nat × Nat} (h : Agrees t) : Agrees (t.saveLane g n rate set) := h.setLane

theorem Agrees.joinLane {logical : Nat} (h : Agrees t) : Agrees (t.joinLane g n logical rate) :=
  h.setLane.wr.put.wr.wrb.wrb.wrb.equalise.saveLane

theorem Agrees.trainFailed {retry : Bool} (h : Agrees t) : Agrees (t.trainFailed g retry) :=
  .setPort (.ite h.doveLanesDown (.ite h.linkDown h.portReset))

theorem Agrees.hostLinkUp {lo : Bool} (h : Agrees t) : Agrees (t.hostLinkUp p mode lo rate bound mld) :=
  .wakeOver (.ite (.fixPort (.wrb (.wr (h.wr.wr.wrb.forAll fun _ _ k => k.wrb))))
    (.cause (.fixPort (.wrb (.wr (h.wr.wr.wrb.forAll fun _ _ k => k.wrb))))))

theorem Agrees.doveLinkUp {x4 : Bool} (h : Agrees t) : Agrees (t.doveLinkUp mode x4) := h.wr.wrb.wrb.sendHello

theorem Agrees.formLink {lo : Bool} {bad l : List Nat} (h : Agrees t) :
    Agrees (t.formLink g mode lo bound mld bad l) := by
  unfold State.formLink
  extract_lets rate x4 t₁ t₂ t₃ t₄ t₅
  have h₁ : Agrees t₁ := h.forAll fun _ _ k => .ite k.joinLane k.clrAll
  have h₂ : Agrees t₂ := h₁.forAll fun _ _ k => k.wrb
  have h₃ : Agrees t₃ := h₂.wrb.wr.drawn
  have h₄ : Agrees t₄ := .ite h₃.doveLinkUp h₃.hostLinkUp.wrb
  have h₅ : Agrees t₅ := h₄.resumeLink
  exact .ite h₅.err.phyCause h₅

theorem Agrees.execLinkTrained {mode : Fin 5} {lo : Bool} {unusable : BitVec 8} (h : Agrees t) :
    AgreesNext (execLinkTrained group mode lo unusable bound mld t) := by
  unfold Machine.execLinkTrained
  extract_lets _ _ _ t₁ _ t₃
  have h₁ : Agrees t₁ := h.trainFailed
  have h₃ : Agrees t₃ := h.trainFailed.forAll fun _ _ k => k.wrb
  split
  · exact .next h
  · split
    · exact .next (.ite h₁ h₁.err)
    · split
      · exact .next h₃.err
      · exact .next h.formLink

theorem Agrees.execLaneAdaptStep {ctle peaking dfe : Int} (h : Agrees t) :
    AgreesNext (execLaneAdaptStep group lane ctle peaking dfe t) :=
  .ite (.next h) (.next h.wr.wr.wr.saveLane)

theorem Agrees.execL0sEntry (h : Agrees t) : AgreesNext (execL0sEntry port t) :=
  .ite (.next h) (.next h.advanceTo.wr.wr.setLanes.setPort.fixCal)

theorem Agrees.execL1IdleExpiry {messageFirst : Grant} (h : Agrees t) :
    AgreesNext (execL1IdleExpiry port messageFirst t) :=
  .ite (.next h) (.ite (.next h.advanceTo.bump.clr.busy) (.next h.advanceTo.setPort.emit))

theorem Agrees.execPmRequestAck {accepted : Bool} (h : Agrees t) : AgreesNext (execPmRequestAck port accepted t) :=
  .ite (.next h) (.ite (.next h.wr.wr.bump.clr.setLanes.setPort.fixCal) (.next h.put.resumeLink))

theorem Agrees.execL1Exit (h : Agrees t) : AgreesNext (execL1Exit port ns t) :=
  .ite (.next h) (.next (.resumeLink (.longest (.advance (.ite h.advanceTo h)))))

theorem Agrees.execL0pWidthChange {narrow : Bool} (h : Agrees t) : AgreesNext (execL0pWidthChange port narrow t) :=
  .ite (.next h) (.next (h.wr.forAll fun _ _ k => .ite k.wrb k))

theorem Agrees.execL1SubstateEntry {deep : Bool} (h : Agrees t) : AgreesNext (execL1SubstateEntry port deep t) :=
  .ite (.next h) (.next h.wr.setLanes)

/-! ### Machine/Spline -/

theorem Agrees.splineCorr {f : Fld} {link : Nat} (h : Agrees t) (hf : inLayer f = false := by rfl) :
    Agrees (t.splineCorr f n link) :=
  .ite h (h.count hf).cause.err

theorem Agrees.splineBad {d : SplineSend} {link : Nat} (h : Agrees t) : Agrees (t.splineBad d link) :=
  .ite h.upd.errImmediate h.upd.splineCorr

theorem Agrees.splineWord {d : SplineSend} {link : Nat} (h : Agrees t) : Agrees (t.splineWord d link lo hi) :=
  .ite h.splineCorr.splineBad h.splineCorr.upd

theorem Agrees.execSplineWordReceive {router : Fin 16} {rport : Fin 12} {receipt : SplineReceipt}
    {halves : Fin 3 × Fin 3} (h : Agrees t) : AgreesNext (execSplineWordReceive router rport receipt halves t) := by
  unfold Machine.execSplineWordReceive
  split
  · exact .next h
  · refine .next ?_
    split
    · exact h.takeInjection.splineWord.splineWord
    · exact h.takeInjection.splineWord
    · exact h.takeInjection.splineWord

theorem Agrees.execSplineWatchdogExpiry {router : Fin 16} {rport : Fin 12} {cls : Fin 5} {dest : Option PcNo}
    (h : Agrees t) : AgreesNext (execSplineWatchdogExpiry router rport cls dest t) :=
  .ite (.next h) (.next h.errImmediate)

theorem Agrees.execToggleOverrun (h : Agrees t) : AgreesNext (execToggleOverrun xing t) := .next h.bump.errImmediate

theorem Agrees.execCrossingReset {dropped : Nat} (h : Agrees t) : AgreesNext (execCrossingReset xing dropped ns t) :=
  .ite (.next h) (.ite (.next h.setXing.count.setXingState)
    (.next h.setXing.count.setXingState.advance.setXingState.bump.longest.cause))

theorem Agrees.execCrossingReady (h : Agrees t) : AgreesNext (execCrossingReady xing t) := .next (.ite h.setXingState h)

theorem Agrees.execCrossingResyncTimeout (h : Agrees t) : AgreesNext (execCrossingResyncTimeout xing t) :=
  .ite (.next h) (.ite (.next h.advanceTo.setXing.setXingState.err.stopPort)
    (.next h.advanceTo.setXing.setXingState.errImmediate))

theorem Agrees.execHopTimeOverLimit {ps : Nat} (h : Agrees t) : AgreesNext (execHopTimeOverLimit ps t) :=
  .ite (.next h.wr.longest.cause.err) (.next h.wr.longest)

/-! ### Machine/Clocks -/

theorem Agrees.setLock {pll : Nat} {b : Bool} (h : Agrees t) : Agrees (t.setLock pll b) :=
  .forAll (.ite (.ite h.setBit h.clrBit) h.wrb) fun _ _ k => k.wrb

theorem Agrees.takeSource {dom : Nat} {failover : Bool} (h : Agrees t) : Agrees (t.takeSource dom toHo failover) := by
  unfold State.takeSource
  extract_lets _ t₁ _ t₃ t₄
  have h₁ : Agrees t₁ := .ite (.runLfsrs (h.forAll fun _ _ k => k.forceSr)) h
  have h₃ : Agrees t₃ := h₁.wrb.wrb.wrb.clr
  have h₄ : Agrees t₄ := h₃.forAll fun _ _ k => .ite k.exitSr k
  exact .ite h₄.fixCalLayer.fixGauge h₃

theorem Agrees.refuseSwitch {dom : Nat} (h : Agrees t) : Agrees (t.refuseSwitch dom reason) := by
  unfold State.refuseSwitch
  exact h.put.wr.clr.cause.err

theorem Agrees.dropSwitches {doms : List Nat} (h : Agrees t) : Agrees (t.dropSwitches doms) :=
  h.upd.forAll fun _ _ k => .ite k k.refuseSwitch

theorem Agrees.failOver {doms : List Nat} (h : Agrees t) : Agrees (t.failOver doms) :=
  h.dropSwitches.forAll fun _ _ k => .ite k k.takeSource

theorem Agrees.clockLost {stallNs : Nat} (h : Agrees t) : Agrees (t.clockLost stallNs) := by
  unfold State.clockLost
  extract_lets _ _ _ _ _ t₅ t₆
  have h₅ : Agrees t₅ := h.upd.clr.put.put.wr.bump.wr64.cause.err.forAll fun _ _ k => k.setLock
  have h₆ : Agrees t₆ := h₅.loseRefclk
  exact .ite h₆.failOver.longest h₆.errImmediate

theorem Agrees.execClockLoss {stallNs : Nat} (h : Agrees t) : AgreesNext (execClockLoss stallNs t) :=
  .ite (.next h) (.next h.clockLost)

theorem Agrees.execRefWindowCheck {khz : Nat} (h : Agrees t) : AgreesNext (execRefWindowCheck khz t) :=
  .ite (.next h) (.ite (.next (.ite (h.advance.wr.forAll fun _ _ k => k.wrb)
    (.clockLost (h.advance.wr.forAll fun _ _ k => k.wrb)))) (.next (.upd (h.advance.wr.forAll fun _ _ k => k.wrb))))

theorem Agrees.refQualified (h : Agrees t) : Agrees t.refQualified :=
  .trainAll (.ite (h.put.clr.wr.drawn.cause.forAll fun _ _ k => k.put)
    (.err (h.put.clr.wr.drawn.cause.forAll fun _ _ k => k.put)))

theorem Agrees.execRefQualify (h : Agrees t) : AgreesNext (execRefQualify t) := .ite (.next h) (.next h.refQualified)

theorem Agrees.hoCalibrated {count : Nat} (h : Agrees t) : Agrees (t.hoCalibrated count) :=
  .put (.put (.wr (.upd (h.forAll fun _ _ k => k.runLfsrs))))

theorem Agrees.execHoCheck {count : Nat} (h : Agrees t) : AgreesNext (execHoCheck count t) :=
  .ite (.next h.advance.hoCalibrated) (.ite (.next h.advance.clr.cause.err) (.next h.advance))

theorem Agrees.execAoTickTimeout (h : Agrees t) : AgreesNext (execAoTickTimeout t) :=
  .ite (.next h) (.next h.advance.clr.cause.err)

theorem Agrees.execPllLockLost {pll : Fin 17} (h : Agrees t) : AgreesNext (execPllLockLost pll t) :=
  .ite (.next h) (.ite (.next h.upd.setLock.failOver) (.next h.upd.setLock.err))

theorem Agrees.beginSwitch {dom : Nat} (h : Agrees t) : Agrees (t.beginSwitch dom toHo) :=
  .ite h.put.upd h.takeSource.cause

theorem Agrees.execPllLocked {pll : Fin 17} (h : Agrees t) : AgreesNext (execPllLocked pll t) :=
  .ite (.next h) (.next (h.setLock.forAll fun _ _ k => .ite k.beginSwitch k))

theorem Agrees.execClkDomSwitch (h : Agrees t) : AgreesNext (execClkDomSwitch who toHo t) :=
  .next (h.command fun _ k => .ite k (.ite k.refuseSwitch
    (.ite k.put.wr.cause.err (.ite k.refuseSwitch k.beginSwitch))))

theorem Agrees.execClkSwitchDone {dom : ClkNo} {stallNs : Nat} (h : Agrees t) :
    AgreesNext (execClkSwitchDone dom stallNs t) := by
  unfold Machine.execClkSwitchDone
  split
  · exact .next h
  · exact .ite (.next h.upd.refuseSwitch) (.next h.upd.takeSource.longest.cause)

theorem Agrees.enterSleep (h : Agrees t) : Agrees (t.enterSleep d) := h.setDomain.wr.setDomainPages

theorem Agrees.abandonGate (h : Agrees t) : Agrees (t.abandonGate d) := by
  unfold State.abandonGate
  exact .err (.cause (.setDomain (.wr (h.forAll fun _ _ k => k.put))))

theorem Agrees.sleepDue (h : Agrees t) : Agrees (t.sleepDue d) :=
  .ite h (.ite h.advanceTo.abandonGate (.ite h.advanceTo.setGate.enterSleep (.ite h.advanceTo h.advanceTo.wr.setGate)))

theorem Agrees.execDomainSleepEntry (h : Agrees t) : AgreesNext (execDomainSleepEntry dom t) := .next h.sleepDue

theorem Agrees.execDomainDeepSleepEntry (h : Agrees t) : AgreesNext (execDomainDeepSleepEntry dom t) :=
  .ite (.next h) (.next h.advanceTo.setDomain.wr.put.setDomainPages)

theorem Agrees.execDomainWake {wordFirst : Grant} (h : Agrees t) : AgreesNext (execDomainWake dom wordFirst t) := by
  unfold Machine.execDomainWake
  extract_lets
  split
  · exact .ite (.next h.abortEntry) (.next h.sleepDue.wakeDomain)
  · exact .next h.abortEntry
  · exact .next h.wakeDomain

theorem Agrees.isolateDomain (h : Agrees t) : Agrees (t.isolateDomain d code) := by
  unfold State.isolateDomain
  extract_lets _ _ t₂ t₃ t₄
  have h₂ : Agrees t₂ := h.wr.put.setDomain.setDomainPages
  have h₃ : Agrees t₃ := .ite h₂.stopPort (.ite h₂.doveLanesDown (.ite (h₂.forAll fun _ _ k => k.abortRing) h₂))
  have h₄ : Agrees t₄ := h₃.cause
  exact .ite h₄.err h₄.errImmediate

theorem Agrees.execDomainReady (h : Agrees t) : AgreesNext (execDomainReady dom ns t) := by
  unfold Machine.execDomainReady
  extract_lets
  split
  · exact .next h
  · exact .ite (.next h) (.ite (.next h.advanceTo.isolateDomain) (.next h.advanceTo.readyDomain.longest))

theorem Agrees.execDomainWakeTimeout (h : Agrees t) : AgreesNext (execDomainWakeTimeout dom t) := by
  unfold Machine.execDomainWakeTimeout
  extract_lets
  split
  · exact .next h
  · exact .next h.advanceTo.isolateDomain

theorem Agrees.execDomainRailLow (h : Agrees t) : AgreesNext (execDomainRailLow dom t) :=
  .ite (.next h) (.next h.clr.isolateDomain)

theorem Agrees.wakeAll (h : Agrees t) : Agrees t.wakeAll := h.forAll fun _ _ k => .ite k.setGate.wr k.wakeDomain

theorem Agrees.execIdleDisable (h : Agrees t) : AgreesNext (execIdleDisable who t) :=
  .next (h.command fun _ k => k.clr.wakeAll)

theorem Agrees.execTbDeepEntry (h : Agrees t) : AgreesNext (execTbDeepEntry t) :=
  .ite (.next h) (.next h.advanceTo.upd.setDomain.wr.put.setDomainPages.setLock)

theorem Agrees.execTbCarry {a1 : Nat} (h : Agrees t) : AgreesNext (execTbCarry a1 t) :=
  .ite (.next h) (.next h.advanceTo.carryTo.endWindow)

/-! ### Machine/StartOps -/

theorem Agrees.latchLife (h : Agrees t) : Agrees t.latchLife := by
  unfold State.latchLife
  extract_lets _ _ _ _ _ _ _ t₃ t₄
  have h₃ : Agrees t₃ := h.blowFuse.upd.wr.wr.wr.wr
  have h₄ : Agrees t₄ := .ite h₃ h₃.err
  exact .ite h₄.zeroise (.ite h₄.drawn.upd.appendSys h₄)

theorem Agrees.latchVariant {sparedRows : List Nat} (h : Agrees t) : Agrees (t.latchVariant sparedRows) :=
  .forAll (.fixCapacity (.wr (.wr (.ite h h.upd.wr.wr.wr)))) fun _ _ k => k.wr

theorem Agrees.readRows {f : StageFinding} (h : Agrees t) : Agrees (t.readRows f) :=
  .wrb (.wrb (.wr (.wr (.upd (.forAll (.forAll (h.forAll fun _ _ k => k.err) fun _ _ k => k.err) fun _ _ k => .err
    (.cause (.put (.ite k k.wr.put))))))))

theorem Agrees.readRegions {fail : Nat} (h : Agrees t) : Agrees (t.readRegions fail) :=
  .ite h.wr.wrb.wr (.err (.wr (.put (.put (h.wr.wrb.forAll fun _ _ k => k.cause.err)))))

theorem Agrees.stageOtp {f : StageFinding} (h : Agrees t) : Agrees (t.stageOtp f) :=
  h.readRows.latchVariant.latchLife.readRegions.fixLocks

theorem Agrees.stageRails (h : Agrees t) : Agrees t.stageRails := h.drawn.hoCalibrated
theorem Agrees.startOnHo (h : Agrees t) : Agrees t.startOnHo := h.put.forAll fun _ _ k => k.put.put.put
theorem Agrees.startTb (h : Agrees t) : Agrees t.startTb := .ite h.carryTo.wrb h.upd.clr.cause.err

theorem Agrees.stageClocks {refOk : Bool} (h : Agrees t) : Agrees (t.stageClocks refOk) :=
  .ite (h.startTb.upd.wr.drawn.refQualified.forAll fun _ _ k => k.setLock) h.startTb.startOnHo

theorem Agrees.essentialFails (h : Agrees t) : Agrees (t.essentialFails page code) := .ite h h.upd

theorem Agrees.withoutBlock (h : Agrees t) : Agrees (t.withoutBlock p) :=
  .isolate (.ite (.clr (.ite h.stopPort h)) (.ite h.stopPort h))

theorem Agrees.holdLane (h : Agrees t) : Agrees (t.holdLane g n) := h.setLane.put

theorem Agrees.treatUnit {test unit : Nat} (h : Agrees t) : Agrees (t.treatUnit page test unit) :=
  .ite h.holdLane (.ite h.holdLane (.ite h (.ite h.failSensor (.ite h.essentialFails h.withoutBlock))))

theorem Agrees.unitFails {test unit : Nat} (h : Agrees t) : Agrees (t.unitFails page test unit) := h.upd.cause.err

theorem Agrees.stageChecks {failures : List (Page × Fin 12 × Nat)} (h : Agrees t) :
    Agrees (t.stageChecks failures) := by
  unfold State.stageChecks
  extract_lets _ t₁ _ _ _ _ t₅ t₆ t₇ t₈
  have h₁ : Agrees t₁ := .ite h.upd h
  have h₅ : Agrees t₅ := h₁.wrb.wrb.wrb.wrb.wr.wr.wr
  have h₆ : Agrees t₆ := .ite h₅ h₅.err
  have h₇ : Agrees t₇ := h₆.forAll fun _ _ k => k.treatUnit
  have h₈ : Agrees t₈ := h₇.forAll fun _ _ k => k.unitFails.treatUnit
  exact h₈.wrb.wr

theorem Agrees.readTips {pos : Nat} {d : LayerIdent} (h : Agrees t) : Agrees (t.readTips pos d) :=
  .forAll (h.forAll fun _ _ k => k.setTip.upd) fun _ _ k => k.upd

theorem Agrees.readBadBlocks {pos : Nat} {d : LayerIdent} (h : Agrees t) : Agrees (t.readBadBlocks pos d) :=
  h.forAll fun _ _ k => k.setBlock

theorem Agrees.readIdent {pos : Nat} {d : LayerIdent} (h : Agrees t) : Agrees (t.readIdent pos d) := by
  unfold State.readIdent
  extract_lets t₁ _ t₂ t₃
  have h₁ : Agrees t₁ := h.forAll fun _ _ k => k.upd
  have h₂ : Agrees t₂ := h₁.upd.err
  have h₃ : Agrees t₃ := h₁.wr
  exact .ite (.ite h₂.essentialFails h₂) (.ite h₃.readTips h₃.readBadBlocks)

theorem Agrees.pcFails (h : Agrees t) : Agrees (t.pcFails pc) := h.err.essentialFails

theorem Agrees.viaFails {via : Nat} (h : Agrees t) : Agrees (t.viaFails pc via) := by
  unfold State.viaFails
  extract_lets n t₁
  have h₁ : Agrees t₁ := .wr h.wr (by unfold Fld.pc; split <;> rfl)
  exact .ite h.pcFails (.ite h (.ite h₁.err.appendRecord h.pcFails))

theorem Agrees.trainVias (h : Agrees t) : Agrees t.trainVias := h.drawn.forAll fun _ _ k => k.setCal.wr

theorem Agrees.stageLayers {f : StageFinding} (h : Agrees t) : Agrees (t.stageLayers f) := by
  unfold State.stageLayers
  extract_lets t₁ _ t₃ t₄
  have h₁ : Agrees t₁ := h.forAll fun _ _ k => k.readIdent
  have h₃ : Agrees t₃ := h₁.trainVias.forAll fun _ _ k => k.viaFails
  have h₄ : Agrees t₄ := h₃.forAll fun _ _ k => k.pcFails
  exact .ite h₄.essentialFails h₄

theorem Agrees.useSpare (h : Agrees t) : Agrees (t.useSpare pc bank) := h.forAll fun _ _ k => k.setTip

theorem Agrees.loadRecord {r : TipRecord} (h : Agrees t) : Agrees (t.loadRecord r) := by
  unfold State.loadRecord
  extract_lets t₁ t₂ t₃
  have h₁ : Agrees t₁ := h.forAll fun _ _ k => .ite (.useSpare (.ite k.wr.wr.spareBit k.wr.wr))
    (.ite k.wr.wr.spareBit k.wr.wr)
  have h₂ : Agrees t₂ := h₁.forAll fun _ _ k => k.setTip
  have h₃ : Agrees t₃ := h₂.forAll fun _ _ k => .ite k (k.wr.wr (by unfold Fld.pc; split <;> rfl))
  exact h₃.wr64

theorem Agrees.stageTipin (h : Agrees t) : Agrees (t.stageTipin ok) := by
  unfold State.stageTipin
  extract_lets _ t₁ _ _ t₃
  have h₁ : Agrees t₁ := h.upd
  have h₃ : Agrees t₃ := .ite h₁ h₁.err.upd
  split
  · exact h₁.put
  · split
    · exact h₃.loadRecord
    · exact h₃

theorem Agrees.reserveAtStart (h : Agrees t) : Agrees t.reserveAtStart := h.appendSys.upd.wr64
theorem Agrees.restoreKeys (h : Agrees t) : Agrees (t.restoreKeys ok) := .ite h.put.upd.err h.put.upd.upd

theorem Agrees.restoreDove {r : DoveRecord} (h : Agrees t) : Agrees (t.restoreDove r) :=
  .forAll (.fixCapacity (.put (.upd (h.forAll fun _ _ k => .ite k.wr.wr.wrb.setRangeState k)))) fun _ _ k =>
    k.setQuire

theorem Agrees.resumeKerf {r : KerfRecord} (h : Agrees t) : Agrees (t.resumeKerf r) :=
  .ite h.wr.wr.wr.wr.startKerf.setEng.wr (.ite h.startMigrate.setEng.wr (.ite h.setEng h))

theorem Agrees.startClear (h : Agrees t) : Agrees t.startClear := .ite h h.startKerf

theorem Agrees.restoreRetained {keyOk : Bool} (h : Agrees t) : Agrees (t.restoreRetained img keyOk) :=
  .ite h.restoreKeys h.clr

theorem Agrees.restoreImage (h : Agrees t) : Agrees (t.restoreImage img) := by
  unfold State.restoreImage
  extract_lets _ _ _ _ _ _ _ _ t₅ t₆ _ t₇
  have h₅ : Agrees t₅ := h.upd.wrb.wrb.fixCapacity.wr.upd.put
  have h₆ : Agrees t₆ := by
    unfold t₆
    split
    · exact h₅.restoreDove
    · exact h₅
  have h₇ : Agrees t₇ := .ite h₆ h₆.startKerf
  exact h₇.startClear.forAll fun _ _ k => k.resumeKerf

theorem Agrees.loseMap (h : Agrees t) : Agrees (t.loseMap img) := h.put.cause.err.upd
theorem Agrees.reportUnbound {bsn : Nat} (h : Agrees t) : Agrees (t.reportUnbound bsn) := .ite h.upd.cause.err h

theorem Agrees.chooseImage {f : StageFinding} (h : Agrees t) : Agrees (t.chooseImage f) := by
  unfold State.chooseImage
  extract_lets _ img _ t₁ bsn t₂ t₃ t₄ t₅
  have h₂ : Agrees t₂ := h.upd.reportUnbound
  have h₅ : Agrees t₅ := by
    refine .wr64 (.wr64 (.reserveAtStart ?_))
    clear_value img
    unfold t₃
    split
    · exact h₂.restoreRetained
    · exact h₂.clr
  clear_value t₅
  cases img with
  | none => exact h₅.startClear
  | some i => exact .ite h₅.wrb.startClear (.ite h₅.wrb.loseMap.startClear h₅.wrb.restoreImage)

theorem Agrees.stageFolio {f : StageFinding} (h : Agrees t) : Agrees (t.stageFolio f) := by
  unfold State.stageFolio
  split
  · exact h.chooseImage
  · exact h.setPersist.startClear
  · exact h.setPersist

theorem Agrees.startPc {draw : Nat} (h : Agrees t) : Agrees (t.startPc draw pc) := h.setPc

theorem Agrees.resumeRetire (h : Agrees t) : Agrees t.resumeRetire :=
  h.forAll fun _ _ k => .ite (.ite k k.upd.bump) k.startMigrate

theorem Agrees.startEnds (h : Agrees t) : Agrees t.startEnds := by
  unfold State.startEnds
  extract_lets _ t₁ t₂ _ t₃ _ t₄ _ t₅
  have h₁ : Agrees t₁ := h.upd.fixGauge
  have h₂ : Agrees t₂ := .ite h₁.put h₁
  have h₃ : Agrees t₃ := .ite h₂.put.err h₂
  have h₄ : Agrees t₄ := .ite h₃.upd h₃
  have h₅ : Agrees t₅ := h₄.upd
  exact .ite h₅.upd.err h₅

theorem Agrees.startAlloc (h : Agrees t) : Agrees t.startAlloc := h.forAll fun _ _ k => k.wr

theorem Agrees.activate (h : Agrees t) : Agrees t.activate := by
  unfold State.activate
  extract_lets _ t₁ _ t₂ _ _ t₄ t₅ _ _ _ _ _ t₉
  have h₁ : Agrees t₁ := .ite h.setKey h
  have h₂ : Agrees t₂ := h₁.drawn.forAll fun _ _ k => k.startPc
  have h₄ : Agrees t₄ := h₂.startAlloc.resumeRetire.upd
  have h₅ : Agrees t₅ := .ite h₄.fixEnergy.fixPersist h₄
  have h₉ : Agrees t₉ := h₅.upd.wr.wr.put.wr.wr.forAll fun _ _ k => .ite k k.put
  exact .trainAll (h₉.cause.forAll fun _ _ k => k.fixCal)

theorem Agrees.startSafe (h : Agrees t) : Agrees (t.startSafe page code) := h.wr.err.enterSafe.trainAll

theorem Agrees.stageActivate (h : Agrees t) : Agrees t.stageActivate := by
  unfold State.stageActivate
  extract_lets t₁
  have h₁ : Agrees t₁ := h.startEnds
  split
  · exact h₁.trainAll
  · exact h₁.startSafe
  · exact h₁.activate

theorem Agrees.runStage {f : StageFinding} (h : Agrees t) : Agrees (t.runStage n f) := by
  unfold State.runStage
  split
  · exact h.stageRails
  · exact h.stageOtp
  · exact h.stageClocks
  · exact h.stageChecks
  · exact h.stageLayers
  · exact h.stageTipin
  · exact h.stageFolio
  · exact h.stageActivate

/-! ### Machine/Start -/

theorem Agrees.overrun (h : Agrees t) : Agrees t.overrun := .ite h h.upd.err
theorem Agrees.nextStage (h : Agrees t) : Agrees (t.nextStage n) := .ite (.ite h.upd.wr.trainAll h.upd.wr) h.upd

theorem Agrees.execStartStageEnd {found : StageFinding} (h : Agrees t) : AgreesNext (execStartStageEnd found us t) :=
  .ite (.next h) (.next (.nextStage (.runStage (.wr (.advanceTo (.ite h.advanceTo.overrun h))))))

theorem Agrees.execStageOverrun (h : Agrees t) : AgreesNext (execStageOverrun t) :=
  .ite (.next h) (.next h.advanceTo.overrun)

theorem Agrees.vauxUp (h : Agrees t) : Agrees t.vauxUp := by
  unfold State.vauxUp
  exact .ite h.upd.put.wr.cause h.upd.put

theorem Agrees.execVauxGood {data : Option EepromData} (h : Agrees t) : AgreesNext (execVauxGood data t) := by
  unfold Machine.execVauxGood
  exact .ite (.next h.vauxUp) (.next h.vauxUp.upd.readEeprom)

theorem Agrees.execVauxLost (h : Agrees t) : AgreesNext (execVauxLost t) :=
  .next (.fixAlert (.ite h.upd.clr.clr.clr.clr h.upd.clr.clr.clr.clr.wr.cause))

theorem Agrees.execVauxTimeout (h : Agrees t) : AgreesNext (execVauxTimeout t) :=
  .ite (.next h) (.next h.advanceTo.upd.unidentified)

theorem Agrees.complete (h : Agrees t) : Agrees t.complete := by
  unfold State.complete
  exact .settle (h.upd.forAll fun _ _ k => k.arrive)

theorem Agrees.enterHold {portReset : Bool} (h : Agrees t) : Agrees (t.enterHold portReset) :=
  .bump (.forAll (.forAll (.complete (h.forAll fun _ _ k => .ite k.resetPortRing k.abortRing)) fun _ _ k => k.forceSr)
    fun _ _ k => .ite k k.wr)

theorem Agrees.resetCarrier (h : Agrees t) : Agrees t.resetCarrier := by
  unfold State.resetCarrier
  extract_lets t₁
  have h₁ : Agrees t₁ :=
    h.forAll fun _ _ k => (Agrees.forAll k.closePort fun _ _ l => l.setLd).clearIde.fixPort
  exact .fixAlert (.forAll h₁.doveLanesDown.upd.clr.clr.clr.wr fun _ _ k => k.fixCal)

theorem Agrees.beginHold (h : Agrees t) : Agrees t.beginHold :=
  .ite h (.upd (.cause (.enterHold (.resetCarrier (h.abandonStep.forAll fun _ _ k => k.runDomain)))))

theorem Agrees.resumeCkpt (h : Agrees t) : Agrees t.resumeCkpt := by
  unfold State.resumeCkpt
  split
  · exact h
  · exact .ite h h.pump.upd

theorem Agrees.leaveHold (h : Agrees t) : Agrees t.leaveHold := h.pagesBack.resumeCkpt

theorem Agrees.execHoldEnd {data : Option EepromData} (h : Agrees t) : AgreesNext (execHoldEnd us data t) := by
  unfold Machine.execHoldEnd
  extract_lets _ t₁ _ _ _ t₄
  have h₁ : Agrees t₁ := .ite h.advanceTo.loseDove h
  have h₄ : Agrees t₄ := h₁.advanceTo.upd.leaveHold.longest.cause.trainAll
  exact .ite (.next h) (.next (.ite h₄.readEeprom h₄))

theorem Agrees.rstCmd (h : Agrees t) (hact : ∀ u, Agrees u → Agrees (act u)) : Agrees (t.rstCmd who key act) :=
  h.command fun _ k => .ite (hact _ k) k

theorem Agrees.execSysRstCarrierIo (h : Agrees t) : AgreesNext (execSysRstCarrierIo who key t) :=
  .next (h.rstCmd fun _ k => k.beginHold)

theorem Agrees.execCarrierIoRailLow (h : Agrees t) : AgreesNext (execCarrierIoRailLow t) :=
  .ite (.next h) (.next h.err.beginHold)

theorem Agrees.execSysRstMgmt (h : Agrees t) : AgreesNext (execSysRstMgmt who key t) :=
  .next (h.rstCmd fun _ k => k.resetMgmt)

theorem Agrees.execMgmtWatchdogExpiry (h : Agrees t) : AgreesNext (execMgmtWatchdogExpiry t) :=
  .ite (.next h) (.next h.resetMgmt)

theorem Agrees.execMgmtNotRunning (h : Agrees t) : AgreesNext (execMgmtNotRunning t) := by
  unfold Machine.execMgmtNotRunning
  split
  · exact .next h
  · exact .ite (.next h) (.next h.advanceTo.errImmediate)

theorem Agrees.coreReady (h : Agrees t) : Agrees t.coreReady := .ite h.upd h.upd.put

/-! ### Machine/Life -/

theorem Agrees.sayBye (h : Agrees t) : Agrees (t.sayBye reason) :=
  .doveLanesDown (.ite h.sendDove.splitPair.wr h.sendDove)

theorem Agrees.beginShutdown {restart : Nat} (h : Agrees t) : Agrees (t.beginShutdown restart) := by
  unfold State.beginShutdown
  extract_lets _ t₂ t₃ _ _ t₅
  have h₂ : Agrees t₂ := h.abandonStep.drain.forAll fun _ _ k => k.closePort
  have h₃ : Agrees t₃ := h₂.forAll fun _ _ k => k.abortRing.clr
  have h₅ : Agrees t₅ := h₃.sayBye.stopCheckpoint.upd
  exact .ite h (.ite h₅.upd h₅)

theorem Agrees.execSysRstShutdown (h : Agrees t) : AgreesNext (execSysRstShutdown who key t) :=
  .next (h.rstCmd fun _ k => k.beginShutdown)

theorem Agrees.execSysRstDevice (h : Agrees t) : AgreesNext (execSysRstDevice who key t) :=
  .next (h.rstCmd fun _ k => k.beginShutdown)

theorem Agrees.commitRecord (h : Agrees t) : Agrees t.commitRecord := .wr (.wr (.put (.upd (.ite h.appendSys h))))

theorem Agrees.writeBankRecord (h : Agrees t) : Agrees t.writeBankRecord := by
  unfold State.writeBankRecord
  split
  · exact .ite h h.upd.emit.emit
  · exact h

theorem Agrees.decommission (h : Agrees t) : Agrees t.decommission :=
  .forAll (.clr (.ite h.zeroise.wr.sendDove.splitPair.wr h.zeroise.wr.sendDove)) fun _ _ k => k.clr

theorem Agrees.commitLife {target : Nat} (h : Agrees t) : Agrees (t.commitLife target) := h.put.cause.upd

theorem Agrees.lifeRequest {target : Nat} {reg : Bool} (h : Agrees t) : Agrees (t.lifeRequest target reg) :=
  .ite h.commitLife h.put.wr.err

theorem Agrees.execSysLcCmd {target : Fin 8} (h : Agrees t) : AgreesNext (execSysLcCmd who target key t) :=
  .next (h.command fun _ k => .ite k.lifeRequest k)

theorem Agrees.execSetLifeCycle {target : Fin 8} (h : Agrees t) : AgreesNext (execSetLifeCycle session target t) :=
  .ite (.next h) (.ite (.next h.emit) (.next h.lifeRequest.emit))

theorem Agrees.execLcFuseProgrammed (h : Agrees t) : AgreesNext (execLcFuseProgrammed t) := by
  unfold Machine.execLcFuseProgrammed
  extract_lets _ t₁
  have h₁ : Agrees t₁ := h.advance.blowFuse
  split
  · exact .next h
  · exact .next (.ite h₁.decommission (.ite h₁.beginShutdown h₁))

/-! ### Machine/Bist -/

theorem Agrees.makeInjection {p : Step} (h : Agrees t) : Agrees (t.makeInjection p) := by
  unfold State.makeInjection
  exact h.upd.bump.err

theorem Agrees.isolateTarget {p : Step} (h : Agrees t) : Agrees (t.isolateTarget p) :=
  .ite h (.ite (.ite h.takeSource h) (.ite h.stopPort.wr.upd (.ite h.doveLanesDown.wr.upd (.ite h.wr.upd h))))

theorem Agrees.beginStep {i : Nat} (h : Agrees t) : Agrees (t.beginStep i) :=
  .ite h.wr.makeInjection (.isolateTarget (.ite (.ite h.wr h.wr.enterHold.put) h.wr.endOffline))

theorem Agrees.afterTest {p : Step} (h : Agrees t) : Agrees (t.afterTest p) :=
  .ite h.upd (.ite h.upd (.ite (h.drawn.forAll fun _ _ k => k.setLine)
    (.ite (.ite h h.setBlock) (.ite h.takeSource h))))

theorem Agrees.stepEnds {passed : Bool} {errors : Nat} (h : Agrees t) : Agrees (t.stepEnds passed errors) := by
  unfold State.stepEnds
  extract_lets _ _ _ t₁ _ _ t₂ t₃
  have h₁ : Agrees t₁ := .ite h h.endStep.afterTest
  have h₂ : Agrees t₂ := h₁.upd
  have h₃ : Agrees t₃ := .ite h₂ h₂.bump.unitFails
  split
  · exact h₃.beginStep
  · exact h₃.endBist.cause

theorem Agrees.bistCmd (h : Agrees t) (hact : ∀ u, Agrees u → Agrees (act u)) : Agrees (t.bistCmd who key act) :=
  h.command fun _ k => .ite (hact _ k) k

theorem Agrees.execBistRun (h : Agrees t) : AgreesNext (execBistRun who key t) := by
  refine .next (h.bistCmd fun u k => ?_)
  extract_lets steps t₁ _ t₂
  have h₁ : Agrees t₁ := k.wr.wr
  have h₂ : Agrees t₂ := h₁.upd.wr
  refine .ite k (.ite h₁.wr ?_)
  cases steps with
  | nil => exact h₂.endBist.cause
  | cons n _ => exact h₂.beginStep

theorem Agrees.execBistStepDone {passed : Bool} {errors : Nat} (h : Agrees t) :
    AgreesNext (execBistStepDone passed errors t) :=
  .next (.ite h.stepEnds h)

theorem Agrees.execBistAbort {stepFirst : Grant} (h : Agrees t) : AgreesNext (execBistAbort who key stepFirst t) :=
  .next (h.bistCmd fun _ k => .ite k (.ite (.ite k.stepEnds.endBist k.stepEnds) k.abandonStep))

theorem Agrees.releaseUnit {u' : Nat × Nat × Nat} (h : Agrees t) : Agrees (t.releaseUnit u') :=
  .ite h.upd.setLane.clr h.upd

theorem Agrees.execBistRelease (h : Agrees t) : AgreesNext (execBistRelease who key t) :=
  .next (h.bistCmd fun _ k => .ite k.releaseUnit.commitRecord.cause k)

theorem Agrees.otpRefuse (h : Agrees t) : Agrees (t.otpRefuse reason) := h.put.wr
theorem Agrees.otpDone (h : Agrees t) : Agrees t.otpDone := h.put.cause

theorem Agrees.otpCmd (h : Agrees t) (hact : ∀ u, Agrees u → Agrees (act u)) : Agrees (t.otpCmd who key act) :=
  h.command fun _ k => .ite k (.ite k.otpRefuse (.ite k.otpRefuse (hact _ k)))

theorem Agrees.verifyFails (h : Agrees t) : Agrees (t.verifyFails row) := h.upd.err

theorem Agrees.execOtpProgram (h : Agrees t) : AgreesNext (execOtpProgram who key verified t) :=
  .next (h.otpCmd fun _ k => .ite k.otpRefuse
    (.ite k.otpRefuse (.otpDone (.ite k.setRow.fixLocks k.setRow.fixLocks.verifyFails))))

theorem Agrees.execOtpRepair {linked : Bool} (h : Agrees t) : AgreesNext (execOtpRepair who key verified linked t) :=
  .next (h.otpCmd fun _ k => .ite k.otpRefuse
    (.ite k.otpRefuse (.otpDone (.upd (.ite k.setRow k.setRow.verifyFails)))))

theorem Agrees.execOtpLock {region : Fin 8} {force : Bool} (h : Agrees t) :
    AgreesNext (execOtpLock who key region force t) :=
  .next (h.otpCmd fun _ k => .ite k.otpRefuse (.ite k.otpRefuse (.otpDone (.ite k.upd.fixLocks.err k.upd.fixLocks))))

theorem Agrees.execOtpGenSeed (h : Agrees t) : AgreesNext (execOtpGenSeed who key t) :=
  .next (h.otpCmd fun _ k => .ite k.otpRefuse (.ite k.otpRefuse (.otpDone (.upd (k.forAll fun _ _ l => l.setRow)))))

theorem Agrees.execOtpLatchCompare {row : Fin 512} (h : Agrees t) : AgreesNext (execOtpLatchCompare agree row t) :=
  .ite (.next h) (.ite (.next h.advance) (.next h.advance.err))

/-! ### Machine/Sideband -/

theorem Agrees.sbReply {mtype : Nat} {payload : List Nat} (h : Agrees t) : Agrees (t.sbReply mtype cmd code payload) :=
  h.upd.emit.fixAlert

theorem Agrees.sbDrop (h : Agrees t) : Agrees t.sbDrop := h.bump.err

theorem Agrees.execMctpMessage {mtype : BitVec 8} {changes pecOk : Bool} (h : Agrees t) :
    AgreesNext (execMctpMessage mtype len changes fmSession pecOk t) :=
  .ite (.next h) (.ite (.next h.bump.err) (.ite (.next h.upd.bump.fixAlert.sbDrop)
    (.ite (.next h.upd.bump.fixAlert.sbDrop.sbReply) (.next h.upd.bump.fixAlert))))

theorem Agrees.sbMode {part : Bool} (h : Agrees t) : Agrees (t.sbMode mode part) :=
  .fixAlert (.cause (.wr (.ite h.sbDrop h)))

theorem Agrees.execI3cDynamicAddress {addr : BitVec 7} {partPacket : Bool} (h : Agrees t) :
    AgreesNext (execI3cDynamicAddress addr partPacket t) :=
  .ite (.next h) (.next (.ite h.wr h.wr.sbMode))

theorem Agrees.execI3cReset {partPacket : Bool} (h : Agrees t) : AgreesNext (execI3cReset partPacket t) :=
  .ite (.next h) (.next (.sbMode (.wr (.ite h.err h))))

theorem Agrees.sbControl {f : State → State} (h : Agrees t) (hf : ∀ u, Agrees u → Agrees (f u)) :
    AgreesNext (t.sbControl f) :=
  .next (.ite (hf _ h) h)

theorem Agrees.execSetEndpointId {eid : BitVec 8} (h : Agrees t) : AgreesNext (execSetEndpointId eid t) :=
  h.sbControl fun _ k => .ite k.sbReply k.wr.cause.sbReply

theorem Agrees.execGetEndpointId (h : Agrees t) : AgreesNext (execGetEndpointId t) := h.sbControl fun _ k => k.sbReply

theorem Agrees.execGetEndpointUuid (h : Agrees t) : AgreesNext (execGetEndpointUuid t) :=
  h.sbControl fun _ k => k.sbReply

theorem Agrees.execGetMctpVersionSupport (h : Agrees t) : AgreesNext (execGetMctpVersionSupport t) :=
  h.sbControl fun _ k => k.sbReply

theorem Agrees.execGetMessageTypeSupport (h : Agrees t) : AgreesNext (execGetMessageTypeSupport t) :=
  h.sbControl fun _ k => k.sbReply

theorem Agrees.sbService {mtype busy : Nat} {f : State → State} (h : Agrees t) (hf : ∀ u, Agrees u → Agrees (f u)) :
    AgreesNext (t.sbService mtype cmd busy f) :=
  .next (.ite h (.ite h.sbReply (hf _ h)))

theorem Agrees.execPldmMonitoring {sensor : Fin 32} (h : Agrees t) : AgreesNext (execPldmMonitoring sensor t) := by
  unfold Machine.execPldmMonitoring
  extract_lets
  refine .next ?_
  split
  · exact h
  · split
    · exact h.sbReply
    · split
      · exact h.sbReply
      · exact .sbReply (.ite h.drawn h)

theorem Agrees.pldmTransfer {last : Bool} (h : Agrees t) : Agrees (t.pldmTransfer offset version secver sigOk last) :=
  .ite h.sbReply (.ite h.sbReply (.ite h.upd.fwArrived.sbReply h.upd.sbReply))

theorem Agrees.execPldmFirmwareUpdate {activate : Bool} {last : Bool} (h : Agrees t) :
    AgreesNext (execPldmFirmwareUpdate activate fmSession offset version secver sigOk last t) :=
  h.sbService fun _ k => .ite k.sbDrop.sbReply (.ite (.ite k.activateImage.sbReply k.sbReply) k.pldmTransfer)

theorem Agrees.spdm {f : State → State} (h : Agrees t) (hf : ∀ u, Agrees u → Agrees (f u)) :
    AgreesNext (t.spdm cmd f) :=
  h.sbService fun _ k => hf _ k

theorem Agrees.spdmSigned {f : State → State} (h : Agrees t) (hf : ∀ u, Agrees u → Agrees (f u)) :
    AgreesNext (t.spdmSigned cmd f) :=
  h.spdm fun _ k => .ite k.sbReply (hf _ k)

theorem Agrees.execGetCertificate {slot : Fin 8} (h : Agrees t) : AgreesNext (execGetCertificate slot t) :=
  h.spdm fun _ k => .ite k.sbReply k.sbReply

theorem Agrees.execChallenge {nonce : BitVec 256} (h : Agrees t) : AgreesNext (execChallenge nonce t) :=
  h.spdmSigned fun _ k => k.drawn.sbReply

theorem Agrees.execGetMeasurements {index : Fin 8} {signed : Bool} (h : Agrees t) :
    AgreesNext (execGetMeasurements index signed t) := by
  refine h.spdm fun u k => ?_
  split
  · exact k.sbReply
  · exact .ite k.sbReply (.ite k.sbReply k.drawn.sbReply)

theorem Agrees.execKeyExchange {auth : KeyAuth} (h : Agrees t) : AgreesNext (execKeyExchange auth t) :=
  h.spdmSigned fun _ k => .ite k.sbReply (.ite k.err.sbReply k.upd.sbReply)

theorem Agrees.execKeyUpdate {session : Fin 8} (h : Agrees t) : AgreesNext (execKeyUpdate session t) :=
  h.spdm fun _ k => .ite k.upd.sbReply k.sbReply

theorem Agrees.execOrderlyShutdown (h : Agrees t) : AgreesNext (execOrderlyShutdown fmSession t) :=
  h.sbService fun _ k => .ite k.sbDrop.sbReply (.ite k.sbReply k.sbReply.beginShutdown)

/-! ### Machine/Pages -/

theorem Agrees.setPersistEn {on_ : Bool} (h : Agrees t) : Agrees (t.setPersistEn on_) :=
  .ite h.wrb (.ite h.wrb.stopCheckpoint.setPersist.releaseHeld.fixLevel.fixGauge
    (.ite (.fixGauge (.ite h.wrb.setPersist h.wrb.setPersist.fixPersist)) h.wrb))

theorem Agrees.rewired (h : Agrees t) : Agrees (t.rewired page) := by
  unfold State.rewired
  split
  · exact h.setRefCtl.fixCal.calDrift
  · split
    · exact h.fixPort.fixCal.train
    · split
      · exact .ite h h.wakeAll
      · exact h.keepFloors.fixGauge
      · exact h.fixAlert
      · exact .ite h.fixCal.train h.doveLanesDown
      · exact h.fixGauge
      · exact h.setPersistEn
      · exact .fixBudget (.fixEnergy (.ite h h.clr))
      · exact h

theorem Agrees.resetInside (h : Agrees t) : Agrees (t.resetInside page) := by
  unfold State.resetInside
  split
  · exact h.setPc.stopRun
  · split
    · exact h.upd
    · exact h.upd
    · exact h.forAll fun _ _ k => k.setDomain
    · exact h.upd
    · exact h.upd
    · exact h.upd
    · exact h.upd
    · exact h.upd
    · exact h.upd
    · exact h.upd
    · exact h.forAll fun _ _ k => k.setEng
    · exact h.upd
    · exact h

theorem Agrees.startValues (h : Agrees t) : Agrees (t.startValues page) := by
  unfold State.startValues
  split
  · exact .ite h h.wr
  · exact .ite h h.wrb
  · exact .provisional (.ite h h.wr)
  · exact .ite h.wr h

/-- What a soft reset keeps of a PC page holds these fields (R607). -/
theorem keepsField_layer {g : Fld} (hg : g ∈ layerFields) : t.keepsField (0x40 + p) (g.pc p).key = true := by
  have hkept : ∀ g ∈ layerFields, (keptFields 0x40).any (fun f => decide (f.slot = g.slot)) = true := by decide
  have hpage : keptFields (0x40 + p) = keptFields 0x40 := by
    have hcanon : canonPage (0x40 + p) = canonPage 0x40 := (if_pos (by omega)).trans rfl
    simp only [keptFields, hcanon]
  simp only [State.keepsField, layer_key_slot hg, hpage, hkept g hg, Bool.true_or]

theorem Agrees.softResetNow (h : Agrees t) : Agrees (t.softResetNow page) := by
  unfold State.softResetNow
  extract_lets kept t₁ t₂
  have h₁ : Agrees t₁ := .startValues (h.resetInside.resetPage fun g hg p _ hp => hp ▸ keepsField_layer hg)
  exact .rewired (.ite h₁.writeKeyRecord h₁)

theorem Agrees.execSoftReset {page : Page} (h : Agrees t) : AgreesNext (execSoftReset who page t) :=
  .next (h.command fun _ k => .ite k k.setPage)

theorem Agrees.abandonReset (h : Agrees t) : Agrees (t.abandonReset page) := h.setPage.put

theorem Agrees.execSoftResetProceed {page : Page} (h : Agrees t) : AgreesNext (execSoftResetProceed page t) :=
  .ite (.next h) (.ite (.next h.abandonReset) (.next h.setPage.softResetNow))

theorem Agrees.execQuiescenceTimeout {page : Page} {gate : Option DomainNo} (h : Agrees t) :
    AgreesNext (execQuiescenceTimeout page gate t) := by
  unfold Machine.execQuiescenceTimeout
  split
  · split
    · exact .next h
    · exact .ite (.next h) (.next h.advanceTo.abandonGate)
  · exact .ite (.next h) (.next h.advanceTo.abandonReset)

theorem Agrees.setCauses {bits : Nat} (h : Agrees t) : Agrees (t.setCauses page bits) := h.forAll fun _ _ k => k.cause

theorem Agrees.execIntSet {page : Page} {bits : Word} (h : Agrees t) : AgreesNext (execIntSet who page bits t) :=
  .next (h.command fun _ k => .ite k.setCauses k)

theorem Agrees.safeWrite (h : Agrees t) (hact : ∀ u, Agrees u → Agrees (act u)) :
    Agrees (t.safeWrite who page off act) :=
  .ite h (.ite h.deny (.ite h (hact _ h.wakePage)))

theorem Agrees.execFeValidClear {page : Page} (h : Agrees t) : AgreesNext (execFeValidClear who page t) :=
  .next (h.safeWrite fun _ k => k.clr)

theorem Agrees.fatalExpiry (h : Agrees t) : Agrees (t.fatalExpiry page) :=
  .ite h.stopTimer.upd.beginHold.clr h.stopTimer.enterSafe

theorem Agrees.escExpiry (h : Agrees t) : Agrees (t.escExpiry page) :=
  .ite h.advanceTo.put.fatalExpiry h.advanceTo.put.put.bump.setPage.cause.err

theorem Agrees.execEscTimerExpiry {page : Page} (h : Agrees t) : AgreesNext (execEscTimerExpiry page t) :=
  .ite (.next h.escExpiry) (.next h)

theorem Agrees.escAckNow (h : Agrees t) : Agrees (t.escAckNow page) := h.stopTimer.put

theorem Agrees.execEscAck {page : Page} {expiryFirst : Grant} (h : Agrees t) :
    AgreesNext (execEscAck who page expiryFirst t) :=
  .next (h.safeWrite fun _ k => .ite k (.ite k.escExpiry k.escAckNow))

theorem Agrees.execQuireMapSweep {repaired failed : List QuireNo} (h : Agrees t) :
    AgreesNext (execQuireMapSweep repaired failed t) := by
  unfold Machine.execQuireMapSweep
  extract_lets _ _ _ t₂
  have h₂ : Agrees t₂ := h.upd.forAll fun _ _ k => k.setQuire
  refine .next ?_
  split
  · exact h
  · exact h₂.errImmediate

/-! ### Machine/Registers -/

theorem Agrees.noteStaged (h : Agrees t) : Agrees (t.noteStaged off n) := .ite h.put (.ite h.upd.put h)

theorem Agrees.afterWrite (h : Agrees t) : Agrees (t.afterWrite u page off n) := by
  unfold State.afterWrite
  extract_lets t₁
  have h₁ : Agrees t₁ := .ite h.rewired h
  split
  · exact .ite h.intOut h
  · split
    · exact h
    · split
      · exact .ite h.rewired h
      · exact h.rewired
      · exact h.rewired
      · exact .ite h.rewired h
      · exact .rewired (.noteStaged (.ite h.latchOver h))
      · exact .ite h (.ite h₁.writeKeyRecord h₁)
      · exact h.rewired
      · exact .ite (.ite h.rewired (.ite h.setPc h)) (.ite (.ite h.takeReset (.ite h.fixCal h.rewired)) h)

theorem Agrees.badAccess (h : Agrees t) : Agrees (t.badAccess who off) := h.bump.cause.log

theorem Agrees.readAccess (h : Agrees t) : Agrees (t.readAccess who off).2 := by
  unfold State.readAccess
  extract_lets _ t₁
  have h₁ : Agrees t₁ := .ite h.wakePage h
  split
  · exact .snd h.badAccess
  · split
    · exact .snd h.deny
    · exact .snd (.ite h₁.upd h₁)

theorem Agrees.execTbNowLoRead (h : Agrees t) : AgreesNext (execTbNowLoRead who t) := .next (.ite h h.readAccess.emit)

theorem Agrees.execRegisterReadRefused {size : Nat} (h : Agrees t) :
    AgreesNext (execRegisterReadRefused who off size t) :=
  .next (.ite h (.ite h.badAccess.emit (.ite h.deny.emit h)))

theorem Agrees.mbReadRegister (h : Agrees t) : Agrees (t.mbReadRegister p l who off).2.2 := by
  unfold State.mbReadRegister
  refine .adminOnly h (fun u k => ?_)
  split
  · exact .thd k
  · exact .thd k.readAccess

theorem Agrees.execReadRegister {off : BitVec 32} (h : Agrees t) : AgreesNext (execReadRegister port ld off t) :=
  h.mailbox fun _ k => k.mbReadRegister

theorem Agrees.mbGetPersistence (h : Agrees t) : Agrees (t.mbGetPersistence who).2.2 := h.upd

theorem Agrees.execGetPersistenceStatus (h : Agrees t) : AgreesNext (execGetPersistenceStatus port ld t) :=
  h.mailbox fun _ k => k.mbGetPersistence

theorem Agrees.mbGetCapture (h : Agrees t) : Agrees (t.mbGetCapture p l who page).2.2 := by
  unfold State.mbGetCapture
  refine .adminOnly h (fun u k => ?_)
  split <;> exact .thd k

theorem Agrees.execGetErrorCapture {page : Page} (h : Agrees t) : AgreesNext (execGetErrorCapture port ld page t) :=
  h.mailbox fun _ k => k.mbGetCapture

end Sys2Proof.Proofs

/-! # Register writes keep the fields of a layer equal: they are read-only (R7, R86) -/

namespace Sys2Proof.Proofs

open Sys2Proof Sys2Proof.Machine Sys2Proof.Laws

set_option Elab.async false

variable {t : State}

theorem rowsHeader_slot : rowsHeader.all (fun r => decide (r.f.slot < 0x100 * 32)) = true := by rfl

theorem rowsOf_slot (page : Nat) : (rowsOf page).all (fun r => decide (r.f.slot < 131072)) = true := by
  unfold rowsOf
  split <;> rfl

theorem rowsPc_ro : rowsPc.all (fun r => !layerPlace r.f || r.ty == .ro) = true := by rfl

/-- A register row that stands where one of these fields does is read-only. -/
theorem reg_layer_row {page off : Nat} {r : Row} (hr : r ∈ (t.reg page off).rows)
    (hl : inLayer ((r.f.on (t.reg page off).page).ix (t.reg page off).copy) = true) : r.ty = .ro := by
  replace hl : layerPlace r.f = true ∧ 0x40 ≤ (t.reg page off).page ∨ 131072 ≤ r.f.slot := by
    simp only [inLayer_eq, Bool.or_eq_true, Bool.and_eq_true, decide_eq_true_eq] at hl
    exact hl
  have hrows : r ∈ rowsHeader ∨ r ∈ rowsOf page := by
    have hr := (List.mem_filter.1 hr).1
    split at hr
    · exact .inl hr
    · split at hr
      · cases hr
      · exact .inr hr
  obtain hr | hr := hrows
  · have hslot : r.f.slot < 0x100 * 32 := of_decide_eq_true (List.all_eq_true.1 rowsHeader_slot r hr)
    simp only [layerPlace, Bool.or_eq_true, beq_iff_eq] at hl
    omega
  · have hslot : r.f.slot < 131072 := of_decide_eq_true (List.all_eq_true.1 (rowsOf_slot page) r hr)
    obtain ⟨hplace, hp⟩ := hl.resolve_right (Nat.not_le.2 hslot)
    have hpc : 0x40 ≤ page := by
      simp only [State.reg] at hp
      split at hp
      · omega
      · exact hp
    rw [rowsOf, canonPage, if_pos hpc] at hr
    simpa [hplace] using List.all_eq_true.1 rowsPc_ro r hr

/-- A register row writes nothing but its own field, and nothing where it is read-only. -/
theorem Agrees.writeField {locked : Bool} {g : Reg} {r : Row} {w : Nat} (h : Agrees t)
    (hw : inLayer ((r.f.on g.page).ix g.copy) = true → r.ty = .ro) : Agrees (t.writeField locked g r w) := by
  by_cases hro : r.ty = .ro
  · simpa only [State.writeField, hro] using h
  · have hf : inLayer ((r.f.on g.page).ix g.copy) = false := Bool.eq_false_iff.2 fun hl => hro (hw hl)
    have hset : Agrees (match t.fieldValue g r (w / 2 ^ r.f.lsb % 2 ^ r.f.width) with
        | some x => t.wr ((r.f.on g.page).ix g.copy) x
        | none => t) := by
      split
      · exact h.wr hf
      · exact h
    unfold State.writeField
    split
    · exact h
    · exact h
    · exact h.wr hf
    · exact .ite h hset
    · exact hset

theorem Agrees.plainWrite {page off w : Nat} (h : Agrees t) : Agrees (t.plainWrite page off w) :=
  .afterWrite (h.forAllMem fun _ _ hr k => k.writeField (reg_layer_row hr))

/-- Every command of a list keeps the fields equal. -/
def ActsAgree (l : List (State → Result)) : Prop := ∀ a ∈ l, ∀ u, Agrees u → AgreesNext (a u)

theorem ActsAgree.nil : ActsAgree [] := fun _ ha => by cases ha

theorem ActsAgree.one {a : State → Result} (h : ∀ u, Agrees u → AgreesNext (a u)) : ActsAgree [a] := fun _ hb => by
  rw [List.mem_singleton.1 hb]
  exact h

theorem ActsAgree.append {l m : List (State → Result)} (hl : ActsAgree l) (hm : ActsAgree m) : ActsAgree (l ++ m) :=
  fun a ha => (List.mem_append.1 ha).elim (hl a) (hm a)

theorem ActsAgree.ite {c : Prop} [Decidable c] {l m : List (State → Result)} (hl : ActsAgree l) (hm : ActsAgree m) :
    ActsAgree (if c then l else m) := by
  split
  · exact hl
  · exact hm

theorem ActsAgree.bit {c : Prop} [Decidable c] {a : State → Result} (h : ∀ u, Agrees u → AgreesNext (a u)) :
    ActsAgree (if c then [a] else []) := .ite (.one h) .nil

/-- What a register's write commands are commands of the walk. -/
theorem actsAgree_regActs {who : Accessor} {page off : Nat} {w : Word} : ActsAgree (t.regActs who page off w) := by
  unfold State.regActs
  extract_lets v b key pg pc g range port slot ring first
  have hb : ∀ (i : Nat) (a : State → Result), (∀ u, Agrees u → AgreesNext (a u)) → ActsAgree (b i a) :=
    fun _ _ ha => .bit ha
  clear_value b pg pc range port slot ring key
  split
  · exact hb _ _ fun _ k => k.execSoftReset
  · exact hb _ _ fun _ k => k.drawn.execEscAck
  · exact .one fun _ k => k.execIntSet
  · split
    · exact .one fun _ k => k.execSysLcCmd
    · exact .append (.append (.append (hb _ _ fun _ k => k.execSysRstDevice) (hb _ _ fun _ k => k.execSysRstCarrierIo))
        (hb _ _ fun _ k => k.execSysRstMgmt)) (hb _ _ fun _ k => k.execSysRstShutdown)
    · exact .one fun _ k => k.execClkDomSwitch
    · exact .append (.append (.append (hb _ _ fun _ k => k.drawn.execOtpProgram)
        (hb _ _ fun _ k => k.drawn.drawn.execOtpRepair))
        (hb _ _ fun _ k => k.execOtpLock)) (hb _ _ fun _ k => k.execOtpGenSeed)
    · exact .append (.append (hb _ _ fun _ k => k.execBistRun) (hb _ _ fun _ k => k.drawn.execBistAbort))
        (hb _ _ fun _ k => k.execBistRelease)
    · exact .append (.append (hb _ _ fun _ k => k.execRelease) (hb _ _ fun _ k => k.execTest))
        (hb _ _ fun _ k => k.execSafe)
    · exact .append (hb _ _ fun _ k => k.execPhyCalRun) (hb _ _ fun _ k => k.execPhyCalAbort)
    · exact .append (.append (.append (.append (.append (.append (hb _ _ fun _ k => k.execDoveCmdJoin)
        (hb _ _ fun _ k => k.execDoveCmdLeave)) (hb _ _ fun _ k => k.execDoveCmdConfig))
        (hb _ _ fun _ k => k.execDoveCmdUnconfig)) (hb _ _ fun _ k => k.execDoveCmdPromote))
        (hb _ _ fun _ k => k.execDoveCmdDemote)) (hb _ _ fun _ k => k.execDoveCmdAccept)
    · exact .append (hb _ _ fun _ k => k.execCarveActivate) (.ite .nil (hb _ _ fun _ k => k.execCarveDeactivate))
    · exact hb _ _ fun _ k => k.execTcacheFlush
    · exact .append (.append (hb _ _ fun _ k => k.execKerfStart) (hb _ _ fun _ k => k.execKerfAbort))
        (hb _ _ fun _ k => k.execKerfResume)
    · exact .append (.append (hb _ _ fun _ k => k.execCkpt) (hb _ _ fun _ k => k.execCkptLimited))
        (hb _ _ fun _ k => k.execCkptCancel)
    · exact .append (hb _ _ fun _ k => k.execMeasure) (hb _ _ fun _ k => k.execEepromReread)
    · exact .one fun _ k => k.execChiselRingEnable
    · exact .one fun _ k => k.execChiselRingTail
    · exact .one fun _ k => k.drawn.execChiselRingAbort
    · exact hb _ _ fun _ k => k.execTipinReqRepair
    · exact .one fun _ k => k.execPostponeMaxWrite
    · exact hb _ _ fun _ k => k.execSrNow
    · exact .one fun _ k => k.execLaneErasureClear
    · exact .append (hb _ _ fun _ k => k.execCalRun) (hb _ _ fun _ k => k.execCalAbort)
    · exact .nil

theorem Agrees.writeReg {who : Accessor} {page off : Nat} {w : Word} (h : Agrees t) :
    Agrees (t.writeReg who page off w) := by
  refine .ite h (Agrees.forAllMem (.ite h h.plainWrite) fun u a ha k => Agrees.after (actsAgree_regActs a ha u k))

theorem Agrees.writeAccess {who : Accessor} {off : Nat} {w : Word} (h : Agrees t) :
    Agrees (t.writeAccess who off w) :=
  .ite h.badAccess (.ite h (.ite h.deny (.ite h h.wakePage.writeReg)))

theorem Agrees.execRegisterWrite {who : Accessor} {off size : Nat} {val : Word} (h : Agrees t) :
    AgreesNext (execRegisterWrite who off size val t) :=
  .next (.ite h (.ite h.badAccess h.writeAccess))

theorem Agrees.mbWriteRegister {p l off : Nat} {who : Accessor} {val : Word} (h : Agrees t) :
    Agrees (t.mbWriteRegister p l who off val).2.2 :=
  h.adminOnly fun u k => by
    split
    · exact .thd k
    · exact .thd k.writeAccess

theorem Agrees.execWriteRegister {port : PortNo} {ld : LdNo} {off : BitVec 32} {val : Word} (h : Agrees t) :
    AgreesNext (execWriteRegister port ld off val t) :=
  h.mailbox fun _ k => k.mbWriteRegister

theorem Agrees.serveMailbox {c : Instr} (h : Agrees t) : Agrees (serveMailbox c t) := by
  unfold Machine.serveMailbox
  split
  · exact .after h.execGetEventRecords
  · exact .after h.execClearEventRecords
  · exact .after h.execGetEventInterruptPolicy
  · exact .after h.execSetEventInterruptPolicy
  · exact .after h.execGetFwInfo
  · exact .after h.execTransferFw
  · exact .after h.execActivateFw
  · exact .after h.execGetTimestamp
  · exact .after h.execSetTimestamp
  · exact .after h.execGetSupportedLogs
  · exact .after h.execGetLog
  · exact .after h.execGetSupportedFeatures
  · exact .after h.execPerformMaintenance
  · exact .after h.execIdentifyMemoryDevice
  · exact .after h.execGetPartitionInfo
  · exact .after h.execGetHealthInfo
  · exact .after h.execGetAlertConfig
  · exact .after h.execSetAlertConfig
  · exact .after h.execGetShutdownState
  · exact .after h.execSetShutdownState
  · exact .after h.execGetPoisonList
  · exact .after h.execInjectPoison
  · exact .after h.execClearPoison
  · exact .after h.execGetScanMediaCapabilities
  · exact .after h.execScanMedia
  · exact .after h.execGetScanMediaResults
  · exact .after h.execSanitize
  · exact .after h.execSecureErase
  · exact .after h.execMediaOperations
  · exact .after h.execGetLocationMap
  · exact .after h.execOrderCheckpoint
  · exact .after h.execSetLdAllocation
  · exact .after h.execMailboxUnsupported
  · exact .after h.execReadRegister
  · exact .after h.execWriteRegister
  · exact .after h.execGetPersistenceStatus
  · exact .after h.execGetErrorCapture
  · exact .after h.execGetLdAllocations
  · exact .after h.execSetLdAllocations
  · exact h

theorem Agrees.execMgmtCoreReady (h : Agrees t) : AgreesNext (execMgmtCoreReady t) :=
  .next (.ite h (h.upd.coreReady.forAll fun _ _ k => k.serveMailbox))

end Sys2Proof.Proofs

/-! # A power-on reset and every command keep the fields of a layer equal -/

namespace Sys2Proof.Proofs

open Sys2Proof Sys2Proof.Machine Sys2Proof.Laws

set_option Elab.async false

variable {t : State}

/-- These fields reset to 0 in every PC page. -/
theorem resetVal_layer {g : Fld} (hg : g ∈ layerFields) {p : Nat} (hp : p < 64) : Fld.resetVal (g.pc p).key = 0 := by
  have hs := layer_slot hg
  have hcanon : canonPage (0x40 + p) = 0x40 := if_pos (by omega)
  have hresets : ∀ g ∈ layerFields, (resetsPc.lookup g.slot).getD 0 = 0 := by decide
  have hhead : ¬ g.slot / 32 < 0x100 := by omega
  have hgauge : ¬ (0x40 + p = 0x18) := by omega
  have hdove : ¬ (0x40 + p = 0x14) := by omega
  simp [Fld.resetVal, layer_key_slot hg, layer_key_page hg hp, hcanon, hhead, hgauge, hdove, resetsOf, hresets g hg]

/-- No register of a PC page is kept over a power-on reset. -/
theorem keptAtPowerOn_pc (p off : Nat) : keptAtPowerOn (0x40 + p) off = false := by
  have h00 : ¬ 0x40 + p = 0x00 := by omega
  have h1C : ¬ 0x40 + p = 0x1C := by omega
  have h1A : ¬ 0x40 + p = 0x1A := by omega
  have h08 : ¬ 0x40 + p = 0x08 := by omega
  simp only [keptAtPowerOn, beq_eq_false_iff_ne.2 h00, beq_eq_false_iff_ne.2 h1C, beq_eq_false_iff_ne.2 h1A,
    beq_eq_false_iff_ne.2 h08, Bool.false_and, Bool.or_self]

/-- A power-on reset resets these fields in every page (R449). -/
theorem agrees_powerOn {cause : Nat} {aoRan : Bool} : Agrees (t.powerOn cause aoRan) := by
  unfold State.powerOn
  extract_lets u starts _ _ _ _ _ _ _ _ _ v v₁ v₂ v₃ v₄ v₅
  have hv : Agrees v := by
    have hrd : ∀ g ∈ layerFields, ∀ p < 64, v.rd (g.pc p) = 0 := fun g hg p hp => by
      have hget := get_filter_key (dflt := Fld.resetVal) (fun k => keptAtPowerOn (k / 131072 % 128) (k / 32 % 4096))
        u.flds (g.pc p).key
      rw [layer_key_page hg hp, keptAtPowerOn_pc, if_neg Bool.false_ne_true, resetVal_layer hg hp] at hget
      exact hget
    refine ⟨fun g hg layer hl i hi => ?_⟩
    rw [hrd g hg _ (by omega), hrd g hg _ (by omega)]
  have h₂ : Agrees v₂ := hv.wr.wr.clr.clr.clr
  have h₃ : Agrees v₃ := .ite h₂.wr h₂
  exact h₃.wrb.wrb.wr.wrb

theorem Agrees.endShutdown {vinMv : Nat} (h : Agrees t) : Agrees (t.endShutdown vinMv) :=
  .ite agrees_powerOn (.ite agrees_powerOn h.judgeBus.storeTb.writeBankRecord.clr.clr.powerOff)

theorem Agrees.endPower {vinMv : Nat} (h : Agrees t) : Agrees (t.endPower vinMv) :=
  .ite agrees_powerOn h.storeTb.wrb.wrb.upd.powerOff

theorem Agrees.afterBind {safe : Bool} {vinMv : Nat} (h : Agrees t) : Agrees (t.afterBind safe vinMv) :=
  .ite h.endPower h.afterBindPowered

theorem Agrees.execBindCommit {p0 p1 : Bool} {vinMv : Nat} (h : Agrees t) :
    AgreesNext (execBindCommit p0 p1 vinMv t) := by
  unfold Machine.execBindCommit
  split
  · exact .next (.ite h.upd.endPower h)
  · exact .ite (.next h) (.next (.afterBind (.ite h.advanceTo.bindDone h.advanceTo.unbound)))

theorem Agrees.execShutdownSelfTestDone {finding : SelfTestEnd} (h : Agrees t) :
    AgreesNext (execShutdownSelfTestDone finding t) :=
  .ite (.next h) (.ite (.next h.endShutdown)
    (.next (.endShutdown (.commitRecord (h.forAll fun _ _ k => k.unitFails)))))

theorem Agrees.execRestart (h : Agrees t) : AgreesNext (execRestart t) :=
  .next (.ite h (.ite agrees_powerOn (.ite h.upd.sbReply h.sbReply)))

theorem Agrees.execVinGood {vinMv : Nat} {aoRan : Bool} (h : Agrees t) : AgreesNext (execVinGood vinMv aoRan t) :=
  .ite (.next h) (.ite (.next (.ite h h.advance.put)) (.next agrees_powerOn))

/-- Every command keeps the fields of a layer equal. -/
theorem Agrees.exec (h : Agrees t) (c : Instr) : AgreesNext (exec c t) := by
  cases c with
  | registerWrite => exact h.execRegisterWrite
  | tbNowLoRead => exact h.execTbNowLoRead
  | softReset => exact h.execSoftReset
  | softResetProceed => exact h.execSoftResetProceed
  | quiescenceTimeout => exact h.execQuiescenceTimeout
  | intSet => exact h.execIntSet
  | feValidClear => exact h.execFeValidClear
  | escAck => exact h.execEscAck
  | escTimerExpiry => exact h.execEscTimerExpiry
  | hostRead => exact h.execHostRead
  | hostWrite => exact h.execHostWrite
  | pcRequestArrival => exact h.execPcRequestArrival
  | writeHoldRelease => exact h.execWriteHoldRelease
  | inputAdmit => exact h.execInputAdmit
  | activateIssue => exact h.execActivateIssue
  | columnCommandIssue => exact h.execColumnCommandIssue
  | readBurstComplete => exact h.execReadBurstComplete
  | writeBurstIssue => exact h.execWriteBurstIssue
  | agePromotion => exact h.execAgePromotion
  | refreshDue => exact h.execRefreshDue
  | forcedRefreshIssue => exact h.execForcedRefreshIssue
  | refreshIssue => exact h.execRefreshIssue
  | targetedRefreshIssue => exact h.execTargetedRefreshIssue
  | postponeMaxWrite => exact h.execPostponeMaxWrite
  | windowLengthen => exact h.execWindowLengthen
  | srIdleExpiry => exact h.execSrIdleExpiry
  | srNow => exact h.execSrNow
  | sreIssue => exact h.execSreIssue
  | srxIssue => exact h.execSrxIssue
  | laneErasureClear => exact h.execLaneErasureClear
  | correctedWriteback => exact h.execCorrectedWriteback
  | scrubRead => exact h.execScrubRead
  | scrubBatchWake => exact h.execScrubBatchWake
  | scrubBehind => exact h.execScrubBehind
  | scrubOverdue => exact h.execScrubOverdue
  | scrubSelfCheck => exact h.execScrubSelfCheck
  | rowRepair => exact h.execRowRepair
  | tipinReqRepair => exact h.execTipinReqRepair
  | tipinRecordAppend => exact h.execTipinRecordAppend
  | tipinRecordCommit => exact h.execTipinRecordCommit
  | tipinTableSweep corrected _ => exact Agrees.execTipinTableSweep (corrected := corrected) h
  | tipinEntryReloaded => exact h.execTipinEntryReloaded
  | migrateStart => exact h.execMigrateStart
  | migrateRow => exact h.execMigrateRow
  | migrateDone => exact h.execMigrateDone
  | recoveryWaitExpiry => exact h.execRecoveryWaitExpiry
  | kerfStart => exact h.execKerfStart
  | kerfAbort => exact h.execKerfAbort
  | kerfResume => exact h.execKerfResume
  | clearStroke => exact h.execClearStroke
  | liftQuire => exact h.execLiftQuire
  | rekeyStroke => exact h.execRekeyStroke
  | kerfDone => exact h.execKerfDone
  | kerfLineTimeout => exact h.execKerfLineTimeout
  | ckpt => exact h.execCkpt
  | ckptLimited => exact h.execCkptLimited
  | ckptCancel => exact h.execCkptCancel
  | checkpointStart => exact h.execCheckpointStart
  | slotReadBack => exact h.execSlotReadBack
  | checkpointCommit => exact h.execCheckpointCommit
  | blockErase => exact h.execBlockErase
  | persistenceFailed => exact h.execPersistenceFailed
  | keyRetainClear => exact h.execKeyRetainClear
  | keyRecordCommit => exact h.execKeyRecordCommit
  | gpfPhase1 => exact h.execGpfPhase1
  | gpfPhase2 => exact h.execGpfPhase2
  | powerFailDeclare => exact h.execPowerFailDeclare
  | bindStart => exact h.execBindStart
  | bindCommit => exact h.execBindCommit
  | vinBelowThreshold => exact h.execVinBelowThreshold
  | vinRecovered => exact h.execVinRecovered
  | pfailNLow => exact h.execPfailNLow
  | bankHousekeepingRound => exact h.execBankHousekeepingRound
  | measure => exact h.execMeasure
  | measurePeriodExpiry => exact h.execMeasurePeriodExpiry
  | measureSample => exact h.execMeasureSample
  | measureEnd => exact h.execMeasureEnd
  | measureRetry => exact h.execMeasureRetry
  | eepromReread => exact h.execEepromReread
  | eepromRecordWrite => exact h.execEepromRecordWrite
  | eepromWriteCycleDone => exact h.execEepromWriteCycleDone
  | bankBusRetry => exact h.execBankBusRetry
  | bankBusStuck => exact h.execBankBusStuck
  | loadKey => exact h.execLoadKey
  | unloadKey => exact h.execUnloadKey
  | setRights => exact h.execSetRights
  | setRange => exact h.execSetRange
  | querySlot => exact h.execQuerySlot
  | keyCmdUnknown => exact h.execKeyCmdUnknown
  | keyTableSweep => exact h.execKeyTableSweep
  | carveActivate => exact h.execCarveActivate
  | carveDeactivate => exact h.execCarveDeactivate
  | tcacheFlush => exact h.execTcacheFlush
  | gaugeWindowStart => exact h.execGaugeWindowStart
  | gaugeTableSweep => exact h.execGaugeTableSweep
  | chiselRingTail => exact h.execChiselRingTail
  | descriptorFetch => exact h.execDescriptorFetch
  | jobStart => exact h.execJobStart
  | jobComplete => exact h.execJobComplete
  | msixSend => exact h.execMsixSend
  | chiselRingAbort => exact h.execChiselRingAbort
  | chiselRingEnable => exact h.execChiselRingEnable
  | doveFlitReceive => exact h.execDoveFlitReceive
  | doveReplayRequest => exact h.execDoveReplayRequest
  | heartbeatTimer => exact h.execHeartbeatTimer
  | partnerLost => exact h.execPartnerLost
  | mackTimer => exact h.execMackTimer
  | autoPromoteExpiry => exact h.execAutoPromoteExpiry
  | pad => exact h.execPad
  | hello => exact h.execHello
  | heartbeat => exact h.execHeartbeat
  | spdm => exact h.execSpdm
  | mwrite => exact h.execMwrite
  | mack => exact h.execMack
  | rreq => exact h.execRreq
  | rrsp => exact h.execRrsp
  | rdata => exact h.execRdata
  | mark => exact h.execMark
  | bitmap => exact h.execBitmap
  | config => exact h.execConfig
  | role => exact h.execRole
  | bye => exact h.execBye
  | doveQueueRoom => exact h.execDoveQueueRoom
  | resyncStroke => exact h.execResyncStroke
  | doveCmdJoin => exact h.execDoveCmdJoin
  | doveCmdLeave => exact h.execDoveCmdLeave
  | doveCmdConfig => exact h.execDoveCmdConfig
  | doveCmdUnconfig => exact h.execDoveCmdUnconfig
  | doveCmdPromote => exact h.execDoveCmdPromote
  | doveCmdDemote => exact h.execDoveCmdDemote
  | doveCmdAccept => exact h.execDoveCmdAccept
  | doveFreqOffset => exact h.execDoveFreqOffset
  | portReset => exact h.execPortReset
  | cxlReset => exact h.execCxlReset
  | functionLevelReset => exact h.execFunctionLevelReset
  | perstRelease => exact h.execPerstRelease
  | hdmDecoderCommit => exact h.execHdmDecoderCommit
  | biResponse => exact h.execBiResponse
  | biTimeout => exact h.execBiTimeout
  | ideCheckFail => exact h.execIdeCheckFail
  | aerSend => exact h.execAerSend
  | getEventRecords => exact h.execGetEventRecords
  | clearEventRecords => exact h.execClearEventRecords
  | getEventInterruptPolicy => exact h.execGetEventInterruptPolicy
  | setEventInterruptPolicy => exact h.execSetEventInterruptPolicy
  | getFwInfo => exact h.execGetFwInfo
  | transferFw => exact h.execTransferFw
  | activateFw => exact h.execActivateFw
  | fwFallback => exact h.execFwFallback
  | getTimestamp => exact h.execGetTimestamp
  | setTimestamp => exact h.execSetTimestamp
  | getSupportedLogs => exact h.execGetSupportedLogs
  | getLog => exact h.execGetLog
  | getSupportedFeatures => exact h.execGetSupportedFeatures
  | performMaintenance => exact h.execPerformMaintenance
  | identifyMemoryDevice => exact h.execIdentifyMemoryDevice
  | getPartitionInfo => exact h.execGetPartitionInfo
  | getHealthInfo => exact h.execGetHealthInfo
  | getAlertConfig => exact h.execGetAlertConfig
  | setAlertConfig => exact h.execSetAlertConfig
  | getShutdownState => exact h.execGetShutdownState
  | setShutdownState => exact h.execSetShutdownState
  | getPoisonList => exact h.execGetPoisonList
  | injectPoison => exact h.execInjectPoison
  | clearPoison => exact h.execClearPoison
  | getScanMediaCapabilities => exact h.execGetScanMediaCapabilities
  | scanMedia => exact h.execScanMedia
  | getScanMediaResults => exact h.execGetScanMediaResults
  | sanitize => exact h.execSanitize
  | secureErase => exact h.execSecureErase
  | mediaOperations => exact h.execMediaOperations
  | backgroundOpComplete => exact h.execBackgroundOpComplete
  | getLocationMap => exact h.execGetLocationMap
  | orderCheckpoint => exact h.execOrderCheckpoint
  | getPersistenceStatus => exact h.execGetPersistenceStatus
  | getErrorCapture => exact h.execGetErrorCapture
  | readRegister => exact h.execReadRegister
  | writeRegister => exact h.execWriteRegister
  | setLdAllocation => exact h.execSetLdAllocation
  | getLdAllocations => exact h.execGetLdAllocations
  | setLdAllocations => exact h.execSetLdAllocations
  | mailboxUnsupported => exact h.execMailboxUnsupported
  | laneLock => exact h.execLaneLock
  | alignmentLoss => exact h.execAlignmentLoss
  | laneUnlockedTimeout => exact h.execLaneUnlockedTimeout
  | trainingRetry => exact h.execTrainingRetry
  | laneAdaptStep => exact h.execLaneAdaptStep
  | l0sEntry => exact h.execL0sEntry
  | l1IdleExpiry => exact h.execL1IdleExpiry
  | pmRequestAck => exact h.execPmRequestAck
  | l1Exit => exact h.execL1Exit
  | l0pWidthChange => exact h.execL0pWidthChange
  | splineWordReceive => exact h.execSplineWordReceive
  | splineWatchdogExpiry => exact h.execSplineWatchdogExpiry
  | toggleOverrun => exact h.execToggleOverrun
  | crossingReset => exact h.execCrossingReset
  | crossingReady => exact h.execCrossingReady
  | crossingResyncTimeout => exact h.execCrossingResyncTimeout
  | clockLoss => exact h.execClockLoss
  | refWindowCheck => exact h.execRefWindowCheck
  | refQualify => exact h.execRefQualify
  | hoCheck => exact h.execHoCheck
  | aoTickTimeout => exact h.execAoTickTimeout
  | pllLockLost => exact h.execPllLockLost
  | clkDomSwitch => exact h.execClkDomSwitch
  | clkSwitchDone => exact h.execClkSwitchDone
  | domainSleepEntry => exact h.execDomainSleepEntry
  | domainDeepSleepEntry => exact h.execDomainDeepSleepEntry
  | domainWake => exact h.execDomainWake
  | domainReady => exact h.execDomainReady
  | domainWakeTimeout => exact h.execDomainWakeTimeout
  | domainRailLow => exact h.execDomainRailLow
  | idleDisable => exact h.execIdleDisable
  | tbDeepEntry => exact h.execTbDeepEntry
  | tbCarry => exact h.execTbCarry
  | vinGood => exact h.execVinGood
  | startStageEnd => exact h.execStartStageEnd
  | stageOverrun => exact h.execStageOverrun
  | vauxGood data => exact (h.execVauxGood : AgreesNext (Machine.execVauxGood data t))
  | vauxLost => exact h.execVauxLost
  | vauxTimeout => exact h.execVauxTimeout
  | sysRstDevice => exact h.execSysRstDevice
  | sysRstCarrierIo => exact h.execSysRstCarrierIo
  | holdEnd => exact h.execHoldEnd
  | sysRstMgmt => exact h.execSysRstMgmt
  | mgmtWatchdogExpiry => exact h.execMgmtWatchdogExpiry
  | mgmtNotRunning => exact h.execMgmtNotRunning
  | sysRstShutdown => exact h.execSysRstShutdown
  | sysLcCmd => exact h.execSysLcCmd
  | setLifeCycle => exact h.execSetLifeCycle
  | lcFuseProgrammed => exact h.execLcFuseProgrammed
  | calRun => exact h.execCalRun
  | calAbort => exact h.execCalAbort
  | phyCalRun => exact h.execPhyCalRun
  | phyCalAbort => exact h.execPhyCalAbort
  | calPeriodExpiry => exact h.execCalPeriodExpiry
  | calCollectionComplete => exact h.execCalCollectionComplete
  | calProbeTimeout => exact h.execCalProbeTimeout
  | calRunTimeout => exact h.execCalRunTimeout
  | calStep => exact h.execCalStep
  | sensorSlowRound => exact h.execSensorSlowRound
  | sensorFastSample => exact h.execSensorFastSample
  | bandComparatorTrip => exact h.execBandComparatorTrip
  | throttleRise => exact h.execThrottleRise
  | throttleFall => exact h.execThrottleFall
  | fatalTemperature => exact h.execFatalTemperature
  | dividerChange => exact h.execDividerChange
  | suspectClear => exact h.execSuspectClear
  | powerSample => exact h.execPowerSample
  | capAdjust => exact h.execCapAdjust
  | safe => exact h.execSafe
  | release => exact h.execRelease
  | test => exact h.execTest
  | errNPulseEnd => exact h.execErrNPulseEnd
  | errNGapEnd => exact h.execErrNGapEnd
  | errNReadback => exact h.execErrNReadback
  | errpinFfValidClear => exact h.execErrpinFfValidClear
  | quireMapSweep repaired _ => exact Agrees.execQuireMapSweep (repaired := repaired) h
  | bistRun => exact h.execBistRun
  | bistAbort => exact h.execBistAbort
  | bistRelease => exact h.execBistRelease
  | bistStepDone => exact h.execBistStepDone
  | shutdownSelfTestDone => exact h.execShutdownSelfTestDone
  | otpProgram => exact h.execOtpProgram
  | otpRepair => exact h.execOtpRepair
  | otpLock => exact h.execOtpLock
  | otpGenSeed => exact h.execOtpGenSeed
  | otpLatchCompare => exact h.execOtpLatchCompare
  | mctpMessage => exact h.execMctpMessage
  | i3cDynamicAddress => exact h.execI3cDynamicAddress
  | i3cReset => exact h.execI3cReset
  | setEndpointId => exact h.execSetEndpointId
  | getEndpointId => exact h.execGetEndpointId
  | getMctpVersionSupport => exact h.execGetMctpVersionSupport
  | getMessageTypeSupport => exact h.execGetMessageTypeSupport
  | getEndpointUuid => exact h.execGetEndpointUuid
  | pldmMonitoring => exact h.execPldmMonitoring
  | pldmFirmwareUpdate => exact h.execPldmFirmwareUpdate
  | getCertificate => exact h.execGetCertificate
  | challenge => exact h.execChallenge
  | getMeasurements => exact h.execGetMeasurements
  | keyExchange => exact h.execKeyExchange
  | keyUpdate => exact h.execKeyUpdate
  | orderlyShutdown => exact h.execOrderlyShutdown
  | restart => exact h.execRestart
  | registerReadRefused => exact h.execRegisterReadRefused
  | pfailNRelease => exact h.execPfailNRelease
  | bankEndVoltage => exact h.execBankEndVoltage
  | linkTrained => exact h.execLinkTrained
  | ideKm => exact h.execIdeKm
  | configSpaceWrite => exact h.execConfigSpaceWrite
  | l1SubstateEntry => exact h.execL1SubstateEntry
  | pllLocked => exact h.execPllLocked
  | carrierIoRailLow => exact h.execCarrierIoRailLow
  | mgmtCoreReady => exact h.execMgmtCoreReady
  | keySlotReloaded => exact h.execKeySlotReloaded
  | hopTimeOverLimit => exact h.execHopTimeOverLimit

/-- Every step, which runs a command or idles, keeps the fields of a layer equal. -/
theorem Agrees.step (h : Agrees t) : AgreesNext (step t) := by
  unfold Machine.step
  split
  · exact .next h.advance
  · rename_i c rest _
    have hrest : Agrees { t with pending := rest } := h.upd
    exact hrest.exec c

/-- Settles O58: each command keeps the fields equal, by a walk through the model. -/
theorem stepsKeepTheFieldsOfALayerEqual : Obligations.StepsKeepTheFieldsOfALayerEqual := by
  unfold Obligations.StepsKeepTheFieldsOfALayerEqual
  intro s t hs hstep
  obtain ⟨u, hu, hagrees⟩ := ((agrees_iff s).2 hs).step
  obtain rfl : u = t := by simpa [hu] using hstep
  exact (agrees_iff u).1 hagrees

end Sys2Proof.Proofs

/-! # What recording an error changes in the register file -/

namespace Sys2Proof.Proofs

open Sys2Proof Sys2Proof.Machine Sys2Proof.Laws

variable {s t : State}

/-- The fields of ERRPIN that an error can change (R510, R525). -/
def errPinFields : List Fld :=
  [ERRPIN_STAT.driven, ERRPIN_STAT.last_source, ERRPIN_PULSES.count, ERRPIN_LAST_TIME_LO.time,
   ERRPIN_LAST_TIME_HI.time, ERRPIN_COALESCED.count, ERRPIN_FATALS.count, INT_STAT.causes.on 0x07, ERRPIN_FF_PAGE.page,
   ERRPIN_FF_PAGE.code, ERRPIN_FF_TIME_LO.time, ERRPIN_FF_TIME_HI.time, ERRPIN_FF_VALID.valid]

/-- The status and counter fields of a page's header that an error can change beside the capture (R10, R511, R514). -/
def statusFields (page : Nat) : List Fld :=
  [ERR_STAT.ce, ERR_STAT.uc, ERR_STAT.fatal, ERR_CNT_CE.count, ERR_CNT_UC.count, ESC_STAT.running,
   PAGE_STAT.state].map fun f => f.on page

/-- Every field outside the port pages that an error of a page can change (R509). -/
def errorFields (page : Nat) : List Fld := tbDomainFields ++ (statusFields page ++ (captureFields page ++ errPinFields))

theorem tbDomainFields_subset (page : Nat) : tbDomainFields ⊆ errorFields page := List.subset_append_left _ _

theorem statusFields_subset (page : Nat) : statusFields page ⊆ errorFields page :=
  List.subset_append_of_subset_right _ (List.subset_append_left _ _)

theorem captureFields_subset (page : Nat) : captureFields page ⊆ errorFields page :=
  List.subset_append_of_subset_right _ (List.subset_append_of_subset_right _ (List.subset_append_left _ _))

theorem errPinFields_subset (page : Nat) : errPinFields ⊆ errorFields page :=
  List.subset_append_of_subset_right _ (List.subset_append_of_subset_right _ (List.subset_append_right _ _))

section
variable {l : List Fld}

theorem Reports.setPage {p : Nat} {v : PageState} (h : Reports l s t) : Reports l s (t.setPage p v) :=
  ⟨h.regs, h.answers⟩

theorem Reports.setLd {m : Nat} {v : LdState} (h : Reports l s t) : Reports l s (t.setLd m v) := ⟨h.regs, h.answers⟩

theorem Reports.pin {v : PinState} (h : Reports l s t) : Reports l s { t with pin := v } := ⟨h.regs, h.answers⟩

theorem Reports.wakeFor {p : Nat} (h : Reports l s t) : Reports l s (t.wakeFor p) :=
  .ite (.ite h.setPort (h.setPort.pin.emit nofun)) h

theorem Reports.enterLog {log : Nat} {r : EventRec} {m : Nat × Nat} (h : Reports l s t) (hm : m.1 < 4) :
    Reports l s (t.enterLog log r m) := by
  unfold State.enterLog
  extract_lets d _ d' t₁ t₂
  have h₁ : Reports l s t₁ := h.setLd
  have h₂ : Reports l s t₂ := .ite (h₁.send hm nofun) (.ite (h₁.send hm nofun) h₁)
  exact .ite h₂.wakeFor h₂

/-- The logical devices that an event goes to are of the device. -/
theorem port_of_mem_routed {tied : Option Nat} {m : Nat × Nat} (hm : m ∈ s.routed tied) : m.1 < 4 :=
  port_of_mem_allLds (List.mem_filter.1 hm).1

theorem Reports.report {e : Err} {r : Report} (h : Reports l s t) : Reports l s (t.report e r) := by
  refine .ite h (h.forAllMem fun _ m hm k => k.enterLog ?_)
  split at hm
  · exact port_of_mem_allLds (List.mem_filter.1 hm).1
  · exact port_of_mem_routed hm

end

theorem reports_errEvent {source : Nat} : Reports errPinFields s (s.errEvent source) := by
  have hpulse : Reports errPinFields s (s.errPulseStart source) :=
    ((((((Reports.refl s).wr (.inl (by decide))).wr (.inl (by decide))).wr (.inl (by decide))).wr
      (.inl (by decide))).wr (.inl (by decide))).pin.emit nofun
  have hcount : Reports errPinFields s (s.bump ERRPIN_COALESCED.count) := (Reports.refl s).wr (.inl (by decide))
  exact .ite (.refl s) (.ite hcount (.ite (.ite hcount ((Reports.refl s).pin.wr (.inl (by decide)))) hpulse))

theorem reports_firstFatal {page code : Nat} : Reports errPinFields s (s.firstFatal page code) := by
  have hcount : Reports errPinFields s ((s.bump ERRPIN_FATALS.count).cause 0x07 2) :=
    ((Reports.refl s).wr (.inl (by decide))).cause (by decide)
  exact .ite hcount (((((hcount.wr (.inl (by decide))).wr (.inl (by decide))).wr (.inl (by decide))).wr
    (.inl (by decide))).wr (.inl (by decide)))

theorem reports_tally (e : Err) : Reports (statusFields e.page) s (s.tally e) := by
  have htwo : ∀ {f g : Fld} {v w : Nat}, f.on e.page ∈ statusFields e.page →
      g.on e.page ∈ statusFields e.page →
      Reports (statusFields e.page) s ((s.wr (f.on e.page) v).wr (g.on e.page) w) :=
    fun hf hg => ((Reports.refl s).wr (.inl hf)).wr (.inl hg)
  unfold State.tally
  split <;> exact htwo (List.mem_map_of_mem (by decide)) (List.mem_map_of_mem (by decide))

theorem reports_escalate {page code : Nat} : Reports (statusFields page) s (s.escalate page code) := by
  have hrun : Reports (statusFields page) s (s.put (ESC_STAT.running.on page)) :=
    (Reports.refl s).wr (.inl (List.mem_map_of_mem (by decide)))
  exact .ite (.ite (Reports.refl s).setPage (.refl s)) (.ite hrun.setPage (.refl s))

theorem reports_isolate {page : Nat} : Reports (statusFields page) s (s.isolate page) :=
  (Reports.refl s).wr (.inl (List.mem_map_of_mem (by decide)))

/-- Recording an error changes no field outside the port pages but those of `errorFields` (R509). -/
theorem reports_log (e : Err) : Reports (errorFields e.page) s (s.log e) := by
  have hescalate : ∀ {u : State}, Reports (errorFields e.page) s u →
      Reports (errorFields e.page) s (u.escalate e.page e.code) :=
    fun h => h.trans (reports_escalate.mono (statusFields_subset _))
  have herrN : ∀ {u : State} {n : Nat}, Reports (errorFields e.page) s u →
      Reports (errorFields e.page) s (u.errEvent n) := fun h => h.trans (reports_errEvent.mono (errPinFields_subset _))
  unfold State.log
  extract_lets _ u₁ u₂ u₃ u₄ u₅ u₆
  have h₁ : Reports (errorFields e.page) s u₁ :=
    ((reports_wakeTb.mono (tbDomainFields_subset _)).trans ((reports_tally e).mono (statusFields_subset _))).trans
      ((reports_captureFirst e).mono (captureFields_subset _))
  have h₂ : Reports (errorFields e.page) s u₂ := .ite h₁.intOut h₁
  have h₃ : Reports (errorFields e.page) s u₃ := h₂.report
  have h₄ : Reports (errorFields e.page) s u₄ := h₃.aerDue
  have h₅ : Reports (errorFields e.page) s u₅ := .ite (herrN h₄) h₄
  have h₆ : Reports (errorFields e.page) s u₆ :=
    herrN (h₃.trans (reports_firstFatal.mono (errPinFields_subset _))).aerDue
  split
  · exact .ite h₃.aerDue h₃
  · exact .ite (herrN h₄) (.ite h₄ (hescalate h₅))
  · split
    · exact hescalate h₆
    · exact .ite (h₆.trans (reports_isolate.mono (statusFields_subset _))) h₆
    · exact h₆

end Sys2Proof.Proofs

/-! # The self-test engine (R541 to R551) -/

namespace Sys2Proof.Proofs

open Sys2Proof Sys2Proof.Machine Sys2Proof.Laws

variable {s t : State}

/-! ## The registers that hold the program -/

/-- The key of a field of BIST_PROG or of BIST_PROG_ARG. -/
def programKey (k : Nat) : Bool :=
  k / 131072 % 128 == 0x06 && (k / 32 % 4096 == 0x118 || k / 32 % 4096 == 0x11C)

/-- Each step of the program reads as before (R547, R562). -/
def SameProgram (s t : State) : Prop := ∀ f : Fld, programKey f.key = true → t.rd f = s.rd f

theorem SameProgram.refl (s : State) : SameProgram s s := fun _ _ => rfl

theorem SameProgram.wr {f : Fld} {v : Nat} (h : SameProgram s t) (hf : programKey f.key = false) :
    SameProgram s (t.wr f v) := fun g hg => by
  have hne : g.key ≠ f.key := fun e => by simp [← e, hg] at hf
  exact (State.rd_wr_ne _ hne v).trans (h g hg)

theorem SameProgram.bist {b : BistState} (h : SameProgram s t) : SameProgram s { t with bist := b } := h

/-- The key of a copy of a field in a register of the self-test page. -/
theorem programKey_ix {f : Fld} (hpage : f.page = 0x06) (hoff : f.off = 0x118 ∨ f.off = 0x11C) (hlsb : f.lsb < 32)
    (i : Nat) : programKey (f.ix i).key = true := by
  simp only [programKey, Fld.key, Fld.ix, hpage, Bool.and_eq_true, Bool.or_eq_true, beq_iff_eq]
  omega

theorem SameProgram.rd_ix {f : Fld} (h : SameProgram s t) (hpage : f.page = 0x06 := by rfl)
    (hoff : f.off = 0x118 ∨ f.off = 0x11C := by decide) (hlsb : f.lsb < 32 := by decide) (i : Nat) :
    t.rd (f.ix i) = s.rd (f.ix i) := h _ (programKey_ix hpage hoff hlsb i)

theorem SameProgram.bistStep (h : SameProgram s t) (i : Nat) : t.bistStep i = s.bistStep i := by
  simp only [State.bistStep, State.on, h.rd_ix (f := BIST_PROG.test), h.rd_ix (f := BIST_PROG.page),
    h.rd_ix (f := BIST_PROG.unit), h.rd_ix (f := BIST_PROG.loops_log2), h.rd_ix (f := BIST_PROG.stop_on_fail),
    h.rd_ix (f := BIST_PROG.inject), h.rd_ix (f := BIST_PROG_ARG.arg)]

theorem SameProgram.nextStep (h : SameProgram s t) (i : Nat) : t.nextStep i = s.nextStep i := by
  simp only [State.nextStep, State.on, h.rd_ix (f := BIST_PROG.valid)]

/-- What the life cycle allows stands in the SYS page alone. -/
theorem stepAllowed_wr {f : Fld} (hf : pageOf f ≠ 0x00) (v : Nat) (p : Step) :
    (s.wr f v).stepAllowed p = s.stepAllowed p := by
  have hsys : ∀ g : Fld, pageOf g = 0x00 → (s.wr f v).rd g = s.rd g := fun g hg =>
    State.rd_wr_ne _ (fun e => hf (by rwa [pageOf, ← e])) v
  have hlife : (s.wr f v).lifeCycle = s.lifeCycle := hsys SYS_LC.state rfl
  have hpresent : (s.wr f v).present p.page = s.present p.page := by
    rw [State.present, State.present, State.on, hsys SYS_LC.restrictive rfl]
    rfl
  rw [State.stepAllowed, State.stepAllowed, hlife, hpresent]

/-- A field that takes a value of its width reads it back. -/
theorem rd_wr_lt {f : Fld} {v : Nat} (h : v < 2 ^ f.width) : (s.wr f v).rd f = v :=
  (State.rd_wr_self s f v).trans (Nat.mod_eq_of_lt h)

/-- Where nothing but registers and the engine has changed, a register write changes no more. -/
theorem wr_of_frame {b : BistState} {f : Fld} {v : Nat} (h : t = { s with flds := t.flds, bist := b }) :
    t.wr f v = { s with flds := (t.wr f v).flds, bist := b } := congrArg (fun u => u.wr f v) h

/-! ## What the engine's errors and causes change -/

/-- The fields outside the port pages that a cause or an error of the self-test page can change. -/
def selfTestReports : List Fld := INT_STAT.causes.on 0x06 :: errorFields 0x06

theorem Reports.selfTestCause {bit : Nat} (h : Reports selfTestReports s t) :
    Reports selfTestReports s (t.cause 0x06 bit) := h.cause (.head _)

theorem Reports.selfTestErr {code addr : Nat} (h : Reports selfTestReports s t) :
    Reports selfTestReports s (t.err 0x06 code addr) :=
  h.trans ((reports_log _).mono (List.subset_cons_self _ _))

theorem Reports.sameProgram (h : Reports selfTestReports s t) : SameProgram s t := fun f hf => by
  have hreports : ∀ k ∈ selfTestReports.map Fld.key, programKey k = false := by decide
  refine h.regs f (fun hk => ?_) fun hp => ?_
  · simp [hreports _ hk] at hf
  · simp only [programKey, Bool.and_eq_true, beq_iff_eq] at hf
    rw [pageOf, hf.1] at hp
    exact absurd hp (by decide)

theorem bist_of_logged (h : Logged s t) : t.bist = s.bist := by rw [h.frame]
theorem now_of_logged (h : Logged s t) : t.now = s.now := by rw [h.frame]

theorem keepsData_wr {f : Fld} {v : Nat} (h : KeepsData s t) : KeepsData s (t.wr f v) := h
theorem keepsData_bist {b : BistState} (h : KeepsData s t) : KeepsData s { t with bist := b } := h

theorem keepsData_trans {u : State} (h : KeepsData s t) (k : KeepsData t u) : KeepsData s u := by
  obtain ⟨hlines, hcrypto, hfolio, hsys⟩ := h
  obtain ⟨klines, kcrypto, kfolio, ksys⟩ := k
  exact ⟨klines.trans hlines, kcrypto.trans hcrypto, kfolio.trans hfolio, ksys.trans hsys⟩

/-! ## Commands of BIST_CMD -/

/-- A command with its key acts where self-test is open (R547). -/
theorem bistCmd_of_open {who : Accessor} (h : bistOpen s who = true) (act : State → State) :
    s.bistCmd who 0x4254 act = act s := by
  simp only [bistOpen, Bool.and_eq_true, decide_eq_true_eq] at h
  obtain ⟨⟨htakes, hlife⟩, hphase⟩ := h
  rw [State.bistCmd, command_takes htakes, if_pos ⟨rfl, hlife, hphase⟩]

/-- A command that does nothing on its page leaves what any write of a register can leave. -/
theorem logged_command_of_idle {who : Accessor} {page off : Nat} {act : State → State}
    (h : act (s.wakePage page) = s.wakePage page) : Logged s (s.command who page off act) := by
  have hid : s.command who page off act = s.command who page off id := by simp only [State.command, h, id]
  exact hid ▸ logged_command who page off Logged.refl

/-- No power domain holds the self-test page, so that nothing wakes for it (R422). -/
theorem wakePage_selfTest : s.wakePage 0x06 = s := by
  have hdomain : domainOf 0x06 = none := by decide
  simp [State.wakePage, hdomain]

theorem logged_bistCmd_of_idle {who : Accessor} {key : BitVec 16} {act : State → State} (h : act s = s) :
    Logged s (s.bistCmd who key act) := by
  refine logged_command_of_idle ?_
  rw [wakePage_selfTest, h, ite_self]

/-! ## A program begins -/

/-- The engine's status as BIST_RUN takes it: no step, and no failure. -/
def readied (s : State) : State := (s.wr BIST_ENG_STAT.step 0).wr BIST_ENG_STAT.fails 0

theorem sameProgram_readied : SameProgram s (readied s) := ((SameProgram.refl s).wr (by decide)).wr (by decide)

theorem rd_readied {f : Fld} (hstep : f.key ≠ BIST_ENG_STAT.step.key) (hfails : f.key ≠ BIST_ENG_STAT.fails.key) :
    (readied s).rd f = s.rd f := by
  rw [readied, State.rd_wr_ne _ hfails, State.rd_wr_ne _ hstep]

theorem stepAllowed_readied (n : Nat) :
    (readied s).stepAllowed ((readied s).bistStep n) = s.stepAllowed (s.bistStep n) := by
  rw [sameProgram_readied.bistStep, readied, stepAllowed_wr (by decide), stepAllowed_wr (by decide)]

/-- No step of the program has ended. -/
def unresolved (s : State) : State := { s with bist := { s.bist with results := [], passed := [] } }

theorem rd_unresolved (f : Fld) : (unresolved s).rd f = s.rd f := rfl

/-- The program runs, with no result yet. -/
def running (s : State) : State := (unresolved (readied s)).wr BIST_ENG_STAT.state 1

/-- A program with a step that is not allowed is refused (R547). -/
theorem bistRun_refused {who : Accessor} (h : bistOpen s who = true) (hst : s.rd BIST_ENG_STAT.state ≠ 1)
    (hbad : ∃ n < 16, s.on (BIST_PROG.valid.ix n) = true ∧ s.stepAllowed (s.bistStep n) = false) :
    exec (.bistRun who 0x4254) s = .next ((readied s).wr BIST_ENG_STAT.state 4) := by
  obtain ⟨n, hn, hvalid, hno⟩ := hbad
  have hall : ((List.range 16).filter fun n => s.on (BIST_PROG.valid.ix n)).all
      (fun n => (readied s).stepAllowed ((readied s).bistStep n)) = false := by
    simp only [stepAllowed_readied, List.all_eq_false]
    exact ⟨n, List.mem_filter.2 ⟨List.mem_range.2 hn, hvalid⟩, by simp [hno]⟩
  show Machine.execBistRun who 0x4254 s = _
  rw [Machine.execBistRun, bistCmd_of_open h, if_neg hst]
  exact congrArg Host.Outcome.next (if_pos (by rw [← readied, hall]; rfl))

/-- A program of one step that is allowed begins it (R547, R548). -/
theorem bistRun_one {who : Accessor} {n : Nat} (h : bistOpen s who = true) (hst : s.rd BIST_ENG_STAT.state ≠ 1)
    (hsteps : (List.range 16).filter (fun i => s.on (BIST_PROG.valid.ix i)) = [n])
    (hok : s.stepAllowed (s.bistStep n) = true) :
    exec (.bistRun who 0x4254) s = .next ((running s).beginStep n) := by
  show Machine.execBistRun who 0x4254 s = _
  rw [Machine.execBistRun, bistCmd_of_open h, if_neg hst, hsteps]
  refine congrArg Host.Outcome.next (if_neg ?_)
  rw [← readied, List.all_cons, stepAllowed_readied, hok]
  exact Bool.false_ne_true

/-! ## An injection (R551) -/

theorem beginStep_of_inject {n : Nat} (h : (s.bistStep n).inject = true) :
    s.beginStep n = (s.wr BIST_ENG_STAT.step n).makeInjection (s.bistStep n) := if_pos h

/-- The state with an injection that waits. -/
def waiting (s : State) (p : Step) : State :=
  { s with bist := { s.bist with
      inj := s.bist.inj ++ [(p.kind, p.place, p.value, if p.kind = 1 then p.loops else 1)] } }

theorem rd_waiting {p : Step} (f : Fld) : (waiting s p).rd f = s.rd f := rfl

/-- The injection is counted, and not yet reported. -/
def injected (s : State) (p : Step) : State := (waiting s p).bump BIST_INJ_CNT.count

theorem reports_makeInjection (p : Step) : Reports selfTestReports (injected s p) (s.makeInjection p) :=
  (Reports.refl (injected s p)).selfTestErr (code := 0x130C) (addr := 0)

theorem logged_makeInjection (p : Step) : Logged (injected s p) (s.makeInjection p) :=
  logged_err (s := injected s p) 0x06 0x130C 0

/-- An injection leaves the fields that it neither counts nor reports. -/
theorem rd_makeInjection {p : Step} {f : Fld} (hcount : f.key ≠ BIST_INJ_CNT.count.key)
    (hf : f.key ∉ selfTestReports.map Fld.key) (hp : pageOf f ∉ hostPages) : (s.makeInjection p).rd f = s.rd f := by
  rw [(reports_makeInjection p).regs f hf hp, injected, State.bump_eq, State.rd_wr_ne _ hcount, rd_waiting]

theorem countedUp_makeInjection (p : Step) : CountedUp s (s.makeInjection p) BIST_INJ_CNT.count := by
  rw [CountedUp, (reports_makeInjection p).regs _ (by decide) (by decide), injected, rd_bump, rd_waiting]

theorem makeInjection_bist (p : Step) : (s.makeInjection p).bist = (waiting s p).bist :=
  bist_of_logged ((logged_wr _ _).trans (logged_makeInjection p))

theorem keepsData_makeInjection (p : Step) : KeepsData s (s.makeInjection p) :=
  keepsData_trans (keepsData_wr (keepsData_bist ⟨rfl, rfl, rfl, rfl⟩)) (logged_makeInjection p).keepsData

/-! ## A program of one injection -/

theorem sameProgram_running : SameProgram s (running s) := sameProgram_readied.bist.wr (by decide)

theorem keepsData_running : KeepsData s (running s) :=
  keepsData_wr (keepsData_bist (keepsData_wr (keepsData_wr ⟨rfl, rfl, rfl, rfl⟩)))

theorem rd_running {f : Fld} (hstate : f.key ≠ BIST_ENG_STAT.state.key) (hstep : f.key ≠ BIST_ENG_STAT.step.key)
    (hfails : f.key ≠ BIST_ENG_STAT.fails.key) : (running s).rd f = s.rd f := by
  rw [running, State.rd_wr_ne _ hstate, rd_unresolved, rd_readied hstep hfails]

/-- The program runs at a step that injects: the injection waits, and is counted (R551). -/
structure InjectionRuns (n : Nat) (p : Step) (s t : State) : Prop where
  state : t.rd BIST_ENG_STAT.state = 1
  step : t.rd BIST_ENG_STAT.step = n
  inj : t.bist.inj = s.bist.inj ++ [(p.kind, p.place, p.value, if p.kind = 1 then p.loops else 1)]
  count : CountedUp s t BIST_INJ_CNT.count
  data : KeepsData s t

theorem injectionRuns {n : Nat} (hn : n < 16) (hinj : (s.bistStep n).inject = true) :
    InjectionRuns n (s.bistStep n) s ((running s).beginStep n) := by
  have hstep : (running s).bistStep n = s.bistStep n := sameProgram_running.bistStep n
  rw [beginStep_of_inject (by rw [hstep]; exact hinj), hstep]
  refine { state := ?_, step := ?_, inj := ?_, count := ?_, data := ?_ }
  · rw [rd_makeInjection (by decide) (by decide) (by decide), State.rd_wr_ne _ (by decide), running]
    exact rd_wr_lt (by decide)
  · rw [rd_makeInjection (by decide) (by decide) (by decide)]
    exact rd_wr_lt hn
  · rw [makeInjection_bist]
    rfl
  · rw [CountedUp, countedUp_makeInjection, State.rd_wr_ne _ (by decide),
      rd_running (by decide) (by decide) (by decide)]
  · exact keepsData_trans (keepsData_wr keepsData_running) (keepsData_makeInjection _)

/-! ## A program ends -/

theorem endStep_of_none (h : s.bist.under = none) : s.endStep = s := by rw [State.endStep, h]

theorem endOffline_of_not_offline (h : s.on BIST_ENG_STAT.offline = false) : s.endOffline = s :=
  if_neg (ne_true_of_eq_false h)

/-- Every sensor offset has ended (R551). -/
def offsetsOver (s : State) : State :=
  { s with bist := { s.bist with inj := s.bist.inj.filter fun e => decide (e.1 ≠ 7) } }

/-- Where no block is isolated and the device is not Offline, the engine stops with nothing to undo but the sensor
offsets (R549, R551). -/
theorem endBist_of_idle {st : Nat} (hunder : s.bist.under = none) (hoff : s.on BIST_ENG_STAT.offline = false) :
    s.endBist st = (offsetsOver s).wr BIST_ENG_STAT.state st := by
  have hstep : (offsetsOver s).endStep = offsetsOver s := endStep_of_none hunder
  have hoffline : (offsetsOver s).endOffline = offsetsOver s := endOffline_of_not_offline hoff
  show ((offsetsOver s).endStep.endOffline).wr BIST_ENG_STAT.state st = _
  rw [hstep, hoffline]

/-- A program is done, and the cause of its end is raised (R548). -/
structure Done (s t : State) : Prop where
  state : t.rd BIST_ENG_STAT.state = 2
  fails : t.rd BIST_ENG_STAT.fails = s.rd BIST_ENG_STAT.fails
  results : t.bist.results = s.bist.results
  passed : t.bist.passed = s.bist.passed
  held : t.bist.held = s.bist.held
  data : KeepsData s t

theorem done_of_idle (hunder : s.bist.under = none) (hoff : s.on BIST_ENG_STAT.offline = false) :
    Done s ((s.endBist 2).cause 0x06 1) := by
  rw [endBist_of_idle hunder hoff]
  have hreports : Reports selfTestReports ((offsetsOver s).wr BIST_ENG_STAT.state 2)
      (((offsetsOver s).wr BIST_ENG_STAT.state 2).cause 0x06 1) := (Reports.refl _).selfTestCause
  have hlogged : Logged (offsetsOver s) (((offsetsOver s).wr BIST_ENG_STAT.state 2).cause 0x06 1) :=
    (logged_wr _ _).trans (logged_cause _ _)
  have hbist := bist_of_logged hlogged
  exact { state := (hreports.regs _ (by decide) (by decide)).trans (rd_wr_lt (by decide)),
          fails := (hreports.regs _ (by decide) (by decide)).trans (State.rd_wr_ne _ (by decide) _),
          results := by rw [hbist]; rfl, passed := by rw [hbist]; rfl, held := by rw [hbist]; rfl,
          data := hlogged.keepsData }

/-! ## A step ends -/

/-- The state with a unit held. -/
def holding (s : State) (u : Nat × Nat × Nat) : State :=
  { s with bist := { s.bist with held := if u ∈ s.bist.held then s.bist.held else s.bist.held ++ [u] } }

theorem reports_unitFails (page test unit : Nat) :
    Reports selfTestReports (holding s (page, test, unit)) (s.unitFails page test unit) :=
  ((Reports.refl (holding s (page, test, unit))).selfTestCause (bit := 2)).selfTestErr (code := 0x1300 + test)
    (addr := page + unit * 256)

theorem logged_unitFails (page test unit : Nat) : Logged (holding s (page, test, unit)) (s.unitFails page test unit) :=
  (logged_cause 0x06 2).trans (logged_err 0x06 (0x1300 + test) (page + unit * 256))

theorem mem_held_unitFails (page test unit : Nat) : (page, test, unit) ∈ (s.unitFails page test unit).bist.held := by
  rw [bist_of_logged (logged_unitFails page test unit)]
  show _ ∈ if _ then _ else _
  split
  · assumption
  · exact List.mem_append_right _ (List.mem_singleton.2 rfl)

/-- The outcome of the step in progress stands in the results and among the units that have passed (R548, R550). -/
def recorded (s : State) (passed : Bool) (errors : Nat) : State :=
  let n := s.rd BIST_ENG_STAT.step
  let p := s.bistStep n
  { s with bist := { s.bist with
    results := Sparse.set (fun _ => (0, 0, false)) s.bist.results n
      (if passed then 0 else 0x1300 + p.test, min errors 0x7FFF, false)
    passed := if passed then s.bist.passed ++ [p.target] else s.bist.passed.erase p.target } }

/-- The step in progress is judged: a unit that failed is counted and held. -/
def judged (s : State) (passed : Bool) (errors : Nat) : State :=
  let p := s.bistStep (s.rd BIST_ENG_STAT.step)
  if passed then recorded s passed errors
  else ((recorded s passed errors).bump BIST_ENG_STAT.fails).unitFails p.page p.test p.unit

theorem sameProgram_judged (passed : Bool) (errors : Nat) : SameProgram s (judged s passed errors) := by
  unfold judged
  split
  · exact SameProgram.refl s
  · have hcount : SameProgram s ((recorded s passed errors).bump BIST_ENG_STAT.fails) :=
      (SameProgram.refl s).wr (by decide)
    exact fun f hf => ((reports_unitFails _ _ _).sameProgram f hf).trans (hcount f hf)

/-- The last step of a program, a test that isolates nothing, ends the program with its outcome (R548). -/
theorem stepEnds_of_last {passed : Bool} {errors : Nat} (hunder : s.bist.under = none)
    (hinj : (s.bistStep (s.rd BIST_ENG_STAT.step)).inject = false)
    (htest : (s.bistStep (s.rd BIST_ENG_STAT.step)).test = 1)
    (hlast : s.nextStep (s.rd BIST_ENG_STAT.step + 1) = none) :
    s.stepEnds passed errors = ((judged s passed errors).endBist 2).cause 0x06 1 := by
  have hend : s.endStep.afterTest (s.bistStep (s.rd BIST_ENG_STAT.step)) = s := by
    simp only [endStep_of_none hunder, State.afterTest, htest, false_and, if_false, Nat.reduceEqDiff]
  have hnext := ((sameProgram_judged (s := s) passed errors).nextStep _).trans hlast
  unfold State.stepEnds
  extract_lets n p ok s₁ r b s₂ s₃
  have hp : p.inject = false := hinj
  have hok : ok = passed := by
    show (passed || p.inject) = passed
    rw [hp, Bool.or_false]
  have h₁ : s₁ = s := (if_neg (ne_true_of_eq_false hp)).trans hend
  have h₂ : s₂ = recorded s passed errors := by
    simp only [s₂, b, r, h₁, hok, hp, Bool.not_false, Bool.and_true]
    rfl
  have h₃ : s₃ = judged s passed errors := by
    simp only [s₃, hok, h₂]
    rfl
  have hdone : (if !ok && p.stop then none else (judged s passed errors).nextStep (n + 1)) = none := by
    rw [hnext, ite_self]
  rw [h₃, hdone]

/-- What the judgement of a step leaves in the engine. -/
structure Judged (passed : Bool) (errors : Nat) (s t : State) : Prop where
  under : t.bist.under = s.bist.under
  offline : t.on BIST_ENG_STAT.offline = s.on BIST_ENG_STAT.offline
  results : t.bist.results = (recorded s passed errors).bist.results
  passes : passed = true → (s.bistStep (s.rd BIST_ENG_STAT.step)).target ∈ t.bist.passed
  holds : passed = false → (s.bistStep (s.rd BIST_ENG_STAT.step)).target ∈ t.bist.held
  counts : passed = false → CountedUp s t BIST_ENG_STAT.fails
  data : KeepsData s t

theorem judged_spec (passed : Bool) (errors : Nat) : Judged passed errors s (judged s passed errors) := by
  cases passed with
  | true =>
    exact { under := rfl, offline := rfl, results := rfl, data := ⟨rfl, rfl, rfl, rfl⟩,
            passes := fun _ => List.mem_append_right _ (List.mem_singleton.2 rfl), holds := nofun, counts := nofun }
  | false =>
    let p := s.bistStep (s.rd BIST_ENG_STAT.step)
    let u := (recorded s false errors).bump BIST_ENG_STAT.fails
    have hlogged : Logged (holding u p.target) (judged s false errors) := logged_unitFails p.page p.test p.unit
    have hreports : Reports selfTestReports (holding u p.target) (judged s false errors) :=
      reports_unitFails p.page p.test p.unit
    have hbist := bist_of_logged hlogged
    have hoffline : (judged s false errors).rd BIST_ENG_STAT.offline = s.rd BIST_ENG_STAT.offline :=
      (hreports.regs _ (by decide) (by decide)).trans (State.rd_wr_ne _ (by decide) _)
    exact { under := by rw [hbist]; rfl, offline := by rw [State.on, hoffline, State.on],
            results := by rw [hbist]; rfl, data := hlogged.keepsData, passes := nofun,
            holds := fun _ => mem_held_unitFails p.page p.test p.unit,
            counts := fun _ => (hreports.regs _ (by decide) (by decide)).trans (rd_bump _) }

/-- The result of a step that is abandoned (R549). -/
def abandoned (s : State) : State :=
  { s with bist := { s.bist with
      results := Sparse.set (fun _ => (0, 0, false)) s.bist.results (s.rd BIST_ENG_STAT.step) (0, 0, true) } }

theorem results_abandoned {st : Nat} :
    Sparse.get (fun _ => (0, 0, false)) ((offsetsOver (abandoned s)).wr BIST_ENG_STAT.state st).bist.results
      (s.rd BIST_ENG_STAT.step) = (0, 0, true) := by
  rw [State.wr_bist, offsetsOver, abandoned, Sparse.get_set_self]

/-- The step in progress is abandoned, where nothing is isolated (R549). -/
theorem abandonStep_of_idle (hrun : s.rd BIST_ENG_STAT.state = 1) (hunder : s.bist.under = none)
    (hoff : s.on BIST_ENG_STAT.offline = false) :
    s.abandonStep = (offsetsOver (abandoned s)).wr BIST_ENG_STAT.state 3 :=
  (if_neg (not_not_intro hrun)).trans (endBist_of_idle hunder hoff)

/-- An abort that finds the step in progress abandons it (R549). -/
theorem bistAbort_running {who : Accessor} (h : bistOpen s who = true) (hrun : s.rd BIST_ENG_STAT.state = 1) :
    exec (.bistAbort who 0x4254 false) s = .next s.abandonStep := by
  show Machine.execBistAbort who 0x4254 false s = _
  rw [Machine.execBistAbort, bistCmd_of_open h, if_neg (not_not_intro hrun)]
  rfl

/-! ## A unit is released (R550) -/

/-- Time, memory, the keys and the life of the device are as they were, and the Folio but for its system records. -/
structure SameDevice (s t : State) : Prop where
  now : t.now = s.now
  lines : t.lines = s.lines
  crypto : t.crypto = s.crypto
  sys : t.sys = s.sys
  folio : t.folio = { s.folio with recs := t.folio.recs }

theorem SameDevice.trans {u : State} (h : SameDevice s t) (k : SameDevice t u) : SameDevice s u :=
  { now := k.now.trans h.now, lines := k.lines.trans h.lines, crypto := k.crypto.trans h.crypto,
    sys := k.sys.trans h.sys, folio := by rw [k.folio, h.folio] }

theorem SameDevice.wr {f : Fld} {v : Nat} (h : SameDevice s t) : SameDevice s (t.wr f v) :=
  ⟨h.now, h.lines, h.crypto, h.sys, h.folio⟩

theorem sameDevice_of_logged (h : Logged s t) : SameDevice s t := by
  obtain ⟨hlines, hcrypto, hfolio, hsys⟩ := h.keepsData
  exact ⟨now_of_logged h, hlines, hcrypto, hsys, by rw [hfolio]⟩

theorem sameDevice_releaseUnit (u : Nat × Nat × Nat) : SameDevice s (s.releaseUnit u) := by
  unfold State.releaseUnit
  extract_lets _ t n
  have ht : SameDevice s t := ⟨rfl, rfl, rfl, rfl, rfl⟩
  split
  · have hlane : SameDevice s (t.setLane n { t.lane n with held := false }) :=
      ⟨ht.now, ht.lines, ht.crypto, ht.sys, ht.folio⟩
    exact hlane.wr
  · exact ht

theorem releaseUnit_bist (u : Nat × Nat × Nat) :
    (s.releaseUnit u).bist = { s.bist with held := s.bist.held.erase u } := by
  unfold State.releaseUnit
  extract_lets t n
  split <;> rfl

theorem sameDevice_commitRecord : SameDevice s s.commitRecord := by
  unfold State.commitRecord
  extract_lets b t u
  have ht : SameDevice s t := by
    unfold t
    split
    · exact ⟨rfl, rfl, rfl, rfl, rfl⟩
    · exact ⟨rfl, rfl, rfl, rfl, rfl⟩
  have hu : SameDevice s u := ⟨ht.now, ht.lines, ht.crypto, ht.sys, ht.folio⟩
  exact hu.wr.wr.wr

/-- The record commits with every unit held now (R541 to R543). -/
theorem commitRecord_bist :
    s.commitRecord.bist =
      { s.bist with recSeq := s.bist.recSeq + 1, recAt := some s.ao, recHeld := s.bist.held, recValid := true } := by
  unfold State.commitRecord
  split <;> rfl

/-- A unit is no longer held, and the record that commits holds the units that are held now (R550). -/
structure Released (u : Nat × Nat × Nat) (s t : State) : Prop where
  held : t.bist.held = s.bist.held.erase u
  recHeld : t.bist.recHeld = t.bist.held
  recSeq : t.bist.recSeq = s.bist.recSeq + 1
  device : SameDevice s t

theorem released (u : Nat × Nat × Nat) : Released u s (((s.releaseUnit u).commitRecord).cause 0x06 3) := by
  have hlogged : Logged (s.releaseUnit u).commitRecord (((s.releaseUnit u).commitRecord).cause 0x06 3) :=
    logged_cause _ _
  have hbist := bist_of_logged hlogged
  rw [commitRecord_bist, releaseUnit_bist] at hbist
  exact { held := by rw [hbist], recHeld := by rw [hbist], recSeq := by rw [hbist],
          device := ((sameDevice_releaseUnit u).trans sameDevice_commitRecord).trans (sameDevice_of_logged hlogged) }

/-- The unit of the selected step is released where it has passed and is held, and the record commits (R550). -/
theorem bistRelease_passed {who : Accessor} (h : bistOpen s who = true) (hlife : s.lifeCycle = 3)
    (hpassed : (s.bistStep (s.rd BIST_PROG_SEL.step)).target ∈ s.bist.passed)
    (hheld : (s.bistStep (s.rd BIST_PROG_SEL.step)).target ∈ s.bist.held) :
    exec (.bistRelease who 0x4254) s =
      .next (((s.releaseUnit (s.bistStep (s.rd BIST_PROG_SEL.step)).target).commitRecord).cause 0x06 3) := by
  show Machine.execBistRelease who 0x4254 s = _
  rw [Machine.execBistRelease, bistCmd_of_open h]
  exact congrArg Host.Outcome.next (if_pos ⟨hlife, hpassed, hheld⟩)

/-- A release outside FIELD_SERVICE, or of a unit that has not passed, leaves the engine as it was (R550). -/
theorem bistRelease_idle {who : Accessor} {key : BitVec 16}
    (h : s.lifeCycle ≠ 3 ∨ (s.bistStep (s.rd BIST_PROG_SEL.step)).target ∉ s.bist.passed) :
    ∃ t, exec (.bistRelease who key) s = .next t ∧ t.bist = s.bist :=
  ⟨_, rfl, bist_of_logged (logged_bistCmd_of_idle (if_neg (by tauto)))⟩

/-! ## O52 -/

/-- Settles O52: a program of BIST_CMD is refused, injects, ends, is abandoned, and releases its units. -/
theorem selfTestRunsItsProgram : Obligations.SelfTestRunsItsProgram := by
  unfold Obligations.SelfTestRunsItsProgram
  refine ⟨fun who s hopen hst hbad => ?_, fun who n s hopen hst hsteps hinj hok => ?_,
    fun passed errors s hrun hunder hoff hinj htest hlast => ?_, fun who s hopen hrun hunder hoff => ?_,
    fun who s hopen hlife hpassed hheld => ?_, fun who key s h => bistRelease_idle h⟩
  · refine ⟨_, bistRun_refused hopen hst hbad, rd_wr_lt (by decide), fun f hf => ?_,
      wr_of_frame (wr_of_frame (wr_of_frame rfl))⟩
    simp only [List.map_cons, List.map_nil, List.mem_cons, List.not_mem_nil, or_false, not_or] at hf
    obtain ⟨hstate, hstep, hfails⟩ := hf
    rw [State.rd_wr_ne _ hstate, rd_readied hstep hfails]
  · have hmem : n ∈ (List.range 16).filter fun i => s.on (BIST_PROG.valid.ix i) :=
      hsteps ▸ List.mem_singleton.2 rfl
    have hr := injectionRuns (List.mem_range.1 (List.mem_filter.1 hmem).1) hinj
    exact ⟨_, bistRun_one hopen hst hsteps hok, hr.state, hr.step, hr.inj, hr.count, hr.data⟩
  · have hj := judged_spec (s := s) passed errors
    have hdone := done_of_idle (hj.under.trans hunder) (hj.offline.trans hoff)
    refine ⟨_, ?_, hdone.state, ?_, fun hp => ?_, fun hp => ⟨?_, ?_⟩, keepsData_trans hj.data hdone.data⟩
    · show Machine.execBistStepDone passed errors s = _
      rw [Machine.execBistStepDone, if_pos hrun, stepEnds_of_last hunder hinj htest hlast]
    · rw [hdone.results, hj.results]
      simp [recorded, htest]
    · exact hdone.passed ▸ hj.passes hp
    · exact hdone.held ▸ hj.holds hp
    · exact hdone.fails.trans (hj.counts hp)
  · refine ⟨_, bistAbort_running hopen hrun, ?_⟩
    rw [abandonStep_of_idle hrun hunder hoff]
    exact ⟨rd_wr_lt (by decide), results_abandoned, fun f hf => State.rd_wr_ne _ (mt List.mem_singleton.2 hf) _,
      wr_of_frame rfl⟩
  · refine ⟨_, bistRelease_passed hopen hlife hpassed hheld, ?_⟩
    have hr := released (s := s) (s.bistStep (s.rd BIST_PROG_SEL.step)).target
    exact ⟨hr.held, hr.recHeld, hr.recSeq, by rw [hr.device.now]; exact Nat.le_add_right _ _, hr.device.lines,
      hr.device.crypto, hr.device.sys, hr.device.folio⟩

end Sys2Proof.Proofs

/-! # Every command completes, and every step keeps the canonical forms -/

namespace Sys2Proof.Proofs

open Sys2Proof Sys2Proof.Machine Sys2Proof.Laws

variable {s t : State}

theorem Obeys.queue (h : Obeys s t) : t.pending = s.pending := by
  obtain hk | hr := h
  · exact hk.queue
  · exact hr.keeps.queue

theorem Obeys.registers (h : Obeys s t) : registersWf s = true → registersWf t = true := by
  obtain hk | hr := h
  · exact hk.registers
  · exact hr.keeps.registers

theorem Obeys.memory (h : Obeys s t) : memoryWf s = true → memoryWf t = true := by
  obtain hk | hr := h
  · exact hk.memory
  · exact hr.keeps.memory

/-- A step runs a command in the state with the queue's rest, or idles. -/
theorem step_cases (h : step s = .next t) :
    (∃ c rest, s.pending = c :: rest ∧ exec c { s with pending := rest } = .next t) ∨
      (s.pending = [] ∧ t = s.idle) := by
  unfold Machine.step at h
  split at h
  case h_1 hp => exact .inr ⟨hp, by cases h; rfl⟩
  case h_2 c rest hp => exact .inl ⟨c, rest, hp, h⟩

/-- What every command keeps, whatever the queue holds, and what idling keeps, every step keeps. -/
theorem step_keeps {P : State → Prop} (hqueue : ∀ (u : State) (l : List Instr), P u → P { u with pending := l })
    (hidle : ∀ u : State, P u → P u.idle) (hexec : ∀ u v, Obeys u v → P u → P v) (hs : P s)
    (hstep : step s = .next t) : P t := by
  obtain ⟨c, rest, -, hc⟩ | ⟨-, rfl⟩ := step_cases hstep
  · obtain ⟨u, hu, hobeys⟩ := completes_exec c { s with pending := rest }
    obtain rfl : u = t := by simpa [hu] using hc
    exact hexec _ _ hobeys (hqueue s rest hs)
  · exact hidle s hs

/-- Settles O56: the walk for LOCK.lock shows that each command keeps the register file's form. -/
theorem stepsKeepRegisterForm : Obligations.StepsKeepRegisterForm := by
  unfold Obligations.StepsKeepRegisterForm
  intro s t hs hstep
  exact step_keeps (P := fun u => registersWf u = true) (fun _ _ h => h) (fun _ h => h) (fun _ _ h => h.registers) hs hstep

/-- Settles O57: the walk for LOCK.lock shows that each command keeps the DRAM array's form. -/
theorem stepsKeepMemoryForm : Obligations.StepsKeepMemoryForm := by
  unfold Obligations.StepsKeepMemoryForm
  intro s t hs hstep
  exact step_keeps (P := fun u => memoryWf u = true) (fun _ _ h => h) (fun _ h => h) (fun _ _ h => h.memory) hs hstep

/-- Settles O60: each command answers a next state, and leaves the queue. -/
theorem everyCommandCompletesAndLeavesTheQueue : Obligations.EveryCommandCompletesAndLeavesTheQueue := by
  unfold Obligations.EveryCommandCompletesAndLeavesTheQueue
  intro c s
  obtain ⟨t, ht, hobeys⟩ := completes_exec c s
  exact ⟨t, ht, hobeys.queue⟩

/-- Settles O1: with a command in front of the queue, the step is that command's. -/
theorem stepRunsFrontCommand : Obligations.StepRunsFrontCommand := by
  unfold Obligations.StepRunsFrontCommand
  exact fun _ _ _ => rfl

/-- Settles O2: idling passes one nanosecond, and moves nothing but the instant and the Time Base. -/
theorem stepIdlesOnEmptyQueue : Obligations.StepIdlesOnEmptyQueue := by
  unfold Obligations.StepIdlesOnEmptyQueue
  intro s hempty
  refine ⟨s.idle, ?_, rfl, fun _ _ => rfl, rfl⟩
  rw [Machine.step, hempty]

/-- Every interrupt is disabled at reset (R10). -/
theorem resetVal_intEn (page : Nat) : Fld.resetVal (INT_EN.enables.on page).key = 0 := by
  have hslot : (INT_EN.enables.on page).key % 131072 = 0x054 * 32 := by
    simp only [Fld.key, Fld.on, INT_EN.enables]
    omega
  simp only [Fld.resetVal, hslot]
  rfl

/-- Settles O55: the reset state lists no field, no line and no command, so that each reads as its reset value. -/
theorem resetState : Obligations.ResetState := by
  unfold Obligations.ResetState
  have hrd : ∀ f : Fld, State.reset.rd f = Fld.resetVal f.key := fun _ => rfl
  refine ⟨rfl, ?_, ?_, ?_, rfl, fun _ => rfl, rfl, rfl, hrd, fun page => ?_, ?_, rfl, reset_memoryWf, rfl,
    fun layer hl i hi => ⟨?_, ?_⟩⟩
  · rw [hrd]
    decide +kernel
  · rw [hrd]
    decide +kernel
  · rw [hrd]
    decide +kernel
  · rw [hrd, resetVal_intEn]
  · rw [hrd]
    decide +kernel
  · rw [hrd, hrd, resetVal_layer (by decide) (by omega), resetVal_layer (by decide) (by omega)]
  · rw [hrd, hrd, resetVal_layer (by decide) (by omega), resetVal_layer (by decide) (by omega)]

end Sys2Proof.Proofs

/-! # Which registers an operation writes

`Writes l s t` says that no field but those of `l` has changed. That a field stands apart from the fields of a list is
computed (`apart`), whatever page, copy or port the fields are of, so that `rfl` closes that side condition. -/

namespace Sys2Proof.Proofs

open Sys2Proof Sys2Proof.Machine Sys2Proof.Laws

variable {s t u : State}

/-! ## Fields that stand apart -/

/-- Two fields stand at different places of their pages, or on different pages, or are different copies. -/
def apart (f g : Fld) : Bool :=
  atNumeral f.off fun o => atNumeral f.lsb fun l => atNumeral g.off fun o' => atNumeral g.lsb fun l' =>
    !Nat.beq ((o * 32 + l) % 131072) ((o' * 32 + l') % 131072) ||
      (Nat.blt (o * 32 + l) 131072 && Nat.blt (o' * 32 + l') 131072 &&
        atNumeral f.page fun p => atNumeral g.page fun p' =>
          !Nat.beq (p % 128) (p' % 128) ||
            (Nat.blt p 128 && Nat.blt p' 128 && atNumeral f.inst fun i => atNumeral g.inst fun i' => !Nat.beq i i'))

theorem key_ne_of_apart {f g : Fld} (h : apart f g = true) : f.key ≠ g.key := by
  intro hk
  simp only [Fld.key] at hk
  have hbeq : ∀ a b : Nat, Nat.beq a b = false ↔ a ≠ b := fun a b => by simp [← Bool.not_eq_true]
  simp only [apart, atNumeral_eq, Bool.or_eq_true, Bool.and_eq_true, Nat.blt, Nat.ble_eq, Bool.not_eq_true', hbeq] at h
  omega

/-- A field stands apart from every field of a list. -/
def clear (l : List Fld) (f : Fld) : Bool := l.all (apart f)

theorem key_notMem_of_clear {f : Fld} {l : List Fld} (h : clear l f = true) : f.key ∉ l.map Fld.key := by
  intro hf
  obtain ⟨g, hg, hk⟩ := List.mem_map.1 hf
  exact key_ne_of_apart (List.all_eq_true.1 h g hg) hk.symm

/-- Reading a field that stands apart from the one written. -/
theorem rd_wr_apart {f g : Fld} (h : apart g f = true) (v : Nat) : (s.wr f v).rd g = s.rd g :=
  State.rd_wr_ne s (key_ne_of_apart h) v

/-! ## The relation -/

/-- No field but those listed has changed. -/
structure Writes (l : List Fld) (s t : State) : Prop where
  regs : SameRegs s t l

section
variable {l m : List Fld}

theorem Writes.refl (s : State) : Writes l s s := ⟨fun _ _ => rfl⟩

theorem Writes.trans (h : Writes l s t) (k : Writes l t u) : Writes l s u :=
  ⟨fun f hf => (k.regs f hf).trans (h.regs f hf)⟩

theorem Writes.mono (h : Writes l s t) (hlm : l ⊆ m) : Writes m s t :=
  ⟨fun f hf => h.regs f fun hl => hf (List.map_subset _ hlm hl)⟩

theorem Writes.rd (h : Writes l s t) {f : Fld} (hf : clear l f = true := by rfl) : t.rd f = s.rd f :=
  h.regs f (key_notMem_of_clear hf)

theorem Writes.on (h : Writes l s t) {f : Fld} (hf : clear l f = true := by rfl) : t.on f = s.on f := by
  rw [State.on, State.on, h.rd hf]

/-- Nothing outside the register file is read here. -/
theorem Writes.flds (h : Writes l s t) (hu : u.flds = t.flds) : Writes l s u :=
  ⟨fun f hf => (congrArg (fun m => Sparse.get Fld.resetVal m f.key) hu).trans (h.regs f hf)⟩

theorem Writes.ite {c : Prop} [Decidable c] {a b : State} (ha : Writes l s a) (hb : Writes l s b) :
    Writes l s (if c then a else b) := by
  split
  · exact ha
  · exact hb

theorem Writes.forAllMem {α : Type} {f : State → α → State} {as : List α} (h : Writes l s t)
    (hf : ∀ u, ∀ a ∈ as, Writes l s u → Writes l s (f u a)) : Writes l s (t.forAll as f) :=
  List.foldlRecOn (motive := Writes l s) as f h fun u hu a ha => hf u a ha hu

theorem Writes.forAll {α : Type} {f : State → α → State} {as : List α} (h : Writes l s t)
    (hf : ∀ u a, Writes l s u → Writes l s (f u a)) : Writes l s (t.forAll as f) :=
  h.forAllMem fun u a _ => hf u a

/-- A write of a field whose key is among those of the list. -/
theorem Writes.wr {f : Fld} {v : Nat} (h : Writes l s t) (hf : f ∈ l) : Writes l s (t.wr f v) :=
  ⟨fun g hg => (State.rd_wr_ne _ (fun e => hg (List.mem_map.2 ⟨f, hf, e.symm⟩)) v).trans (h.regs g hg)⟩

theorem Writes.setPort {p : Nat} {v : PortState} (h : Writes l s t) : Writes l s (t.setPort p v) := h.flds rfl
theorem Writes.setPage {p : Nat} {v : PageState} (h : Writes l s t) : Writes l s (t.setPage p v) := h.flds rfl
theorem Writes.setLd {p : Nat} {v : LdState} (h : Writes l s t) : Writes l s (t.setLd p v) := h.flds rfl
theorem Writes.setDomain {p : Nat} {v : DomainState} (h : Writes l s t) : Writes l s (t.setDomain p v) := h.flds rfl
theorem Writes.pin {v : PinState} (h : Writes l s t) : Writes l s { t with pin := v } := h.flds rfl
theorem Writes.emit {o : Out} (h : Writes l s t) : Writes l s (t.emit o) := h.flds rfl

end

/-! ## Messages, causes and errors -/

/-- The fields that a message to a host may write: what became of a link's low-power state (R380). -/
def sendFields : List Fld := (List.range 4).map fun p => PHY_PM_STAT.last_outcome.port p

/-- The fields that an interrupt cause of a page may write (R10). -/
def causeFields (page : Nat) : List Fld := INT_STAT.causes.on page :: sendFields

/-- The fields that an error of a page may write once ERR_STAT and its counters have taken it (R509). -/
def toldFields (page : Nat) : List Fld :=
  captureFields page ++ ([ESC_STAT.running, PAGE_STAT.state].map (fun f => f.on page) ++ (errPinFields ++ sendFields))

/-- The fields that an error of a page may write (R509). -/
def errFields (page : Nat) : List Fld := errorFields page ++ sendFields

/-- What a port keeps when a host is told of something. -/
def SamePort (p q : PortState) : Prop := q = { p with waitOut := q.waitOut, aer := q.aer, wake := q.wake }

/-- What is sent does not call a line back from a host (R329). -/
def callsNone (o : Out) : Bool :=
  match o with
  | .backInvalidate .. => false
  | _ => true

/-- What has been sent calls no line back from a host, and each port keeps what it has established. -/
structure Uncalled (s t : State) : Prop where
  grown : ∃ l, t.out = l ++ s.out ∧ ∀ o ∈ l, callsNone o = true
  ports : ∀ p, SamePort (s.port p) (t.port p)

/-- Hosts have been sent messages: beside the fields listed nothing has changed but what was sent or waits at a port. -/
structure Alerted (l : List Fld) (s t : State) : Prop where
  regs : SameRegs s t l
  frame : t = { s with flds := t.flds, out := t.out, ports := t.ports }
  ports : ∀ p, SamePort (s.port p) (t.port p)
  out : Uncalled s t

/-- Hosts, event logs and ERR_N have been told of something: beside the fields listed nothing has changed but what waits
for the hosts, the logs, the pins and the state of some pages. -/
structure Told (ps : List Nat) (l : List Fld) (s t : State) : Prop where
  regs : SameRegs s t l
  frame : t = { s with flds := t.flds, out := t.out, pages := t.pages, ports := t.ports, lds := t.lds, pin := t.pin }
  pages : ∀ p, p ∉ ps → t.page p = s.page p
  ports : ∀ p, SamePort (s.port p) (t.port p)
  out : Uncalled s t

theorem Uncalled.refl (s : State) : Uncalled s s := ⟨⟨[], rfl, fun _ ho => absurd ho List.not_mem_nil⟩, fun _ => rfl⟩

theorem Uncalled.trans (h : Uncalled s t) (k : Uncalled t u) : Uncalled s u := by
  obtain ⟨a, ha, hca⟩ := h.grown
  obtain ⟨b, hb, hcb⟩ := k.grown
  exact ⟨⟨b ++ a, by rw [hb, ha, List.append_assoc], fun o ho => (List.mem_append.1 ho).elim (hcb o) (hca o)⟩,
    fun p => by rw [SamePort, k.ports p, h.ports p]⟩

theorem Uncalled.emit {o : Out} (h : Uncalled s t) (ho : callsNone o = true) : Uncalled s (t.emit o) :=
  h.trans ⟨⟨[o], rfl, fun _ hm => List.mem_singleton.1 hm ▸ ho⟩, fun _ => rfl⟩

section
variable {l m : List Fld}

/-- The ports after one of them takes what is to be told its host. -/
theorem samePort_setPort {p : Nat} {v : PortState} (h : ∀ q, SamePort (s.port q) (t.port q)) (hv : SamePort (t.port p) v)
    (q : Nat) : SamePort (s.port q) ((t.setPort p v).port q) := by
  by_cases hq : q = p
  · subst hq
    rw [SamePort, State.port_setPort, hv, h q]
  · rw [State.port_setPort_ne _ hq]
    exact h q

theorem mem_sendFields {p : Nat} (hp : p < 4) : PHY_PM_STAT.last_outcome.port p ∈ sendFields :=
  List.mem_map_of_mem (List.mem_range.2 hp)

/-! ### Messages -/

theorem Alerted.refl (s : State) : Alerted l s s := ⟨fun _ _ => rfl, rfl, fun _ => rfl, .refl s⟩

theorem Alerted.trans (h : Alerted l s t) (k : Alerted l t u) : Alerted l s u :=
  ⟨fun f hf => (k.regs f hf).trans (h.regs f hf), by rw [k.frame, h.frame],
    fun p => by rw [SamePort, k.ports p, h.ports p], h.out.trans k.out⟩

theorem Alerted.mono (h : Alerted l s t) (hlm : l ⊆ m) : Alerted m s t :=
  ⟨fun f hf => h.regs f fun hl => hf (List.map_subset _ hlm hl), h.frame, h.ports, h.out⟩

theorem Alerted.writes (h : Alerted l s t) : Writes l s t := ⟨h.regs⟩

theorem Alerted.ite {c : Prop} [Decidable c] {a b : State} (ha : Alerted l s a) (hb : Alerted l s b) :
    Alerted l s (if c then a else b) := by
  split
  · exact ha
  · exact hb

theorem Alerted.forAllMem {α : Type} {f : State → α → State} {as : List α} (h : Alerted l s t)
    (hf : ∀ u, ∀ a ∈ as, Alerted l s u → Alerted l s (f u a)) : Alerted l s (t.forAll as f) :=
  List.foldlRecOn (motive := Alerted l s) as f h fun u hu a ha => hf u a ha hu

theorem Alerted.wr {f : Fld} {v : Nat} (h : Alerted l s t) (hf : f ∈ l) : Alerted l s (t.wr f v) :=
  ⟨(h.writes.wr hf).regs, congrArg (fun u => u.wr f v) h.frame, h.ports, ⟨h.out.grown, h.out.ports⟩⟩

theorem Alerted.setPort {p : Nat} {v : PortState} (h : Alerted l s t)
    (hv : SamePort (t.port p) v := by exact rfl) : Alerted l s (t.setPort p v) :=
  ⟨h.regs, congrArg (fun u => u.setPort p v) h.frame, samePort_setPort h.ports hv,
    ⟨h.out.grown, samePort_setPort h.ports hv⟩⟩

theorem Alerted.emit {o : Out} (h : Alerted l s t) (ho : callsNone o = true := by rfl) : Alerted l s (t.emit o) :=
  ⟨h.regs, congrArg (fun u => u.emit o) h.frame, h.ports, h.out.emit ho⟩

theorem Alerted.send {p : Nat} {o : Out} (h : Alerted l s t) (hl : sendFields ⊆ l) (hp : p < 4)
    (ho : callsNone o = true := by rfl) : Alerted l s (t.send p o) :=
  .ite (h.setPort.wr (hl (mem_sendFields hp))) (.ite h.setPort (h.emit ho))

theorem Alerted.pageMsix (h : Alerted l s t) (hl : sendFields ⊆ l) : Alerted l s t.pageMsix :=
  h.forAllMem fun _ _ hm k => k.send hl (port_of_mem_allLds (List.mem_filter.1 hm).1)

theorem Alerted.intOut {p bit : Nat} (h : Alerted l s t) (hl : sendFields ⊆ l) : Alerted l s (t.intOut p bit) :=
  .ite (h.pageMsix hl) h

theorem Alerted.cause {p bit : Nat} (h : Alerted l s t) (hl : causeFields p ⊆ l) : Alerted l s (t.cause p bit) := by
  obtain ⟨hc, hs⟩ := List.cons_subset.1 hl
  exact .ite h ((h.wr hc).intOut hs)

theorem alerted_cause (page bit : Nat) : Alerted (causeFields page) s (s.cause page bit) :=
  (Alerted.refl s).cause (List.Subset.refl _)

/-! ### Event logs and pins -/

variable {ps qs : List Nat}

theorem Told.refl (s : State) : Told ps l s s := ⟨fun _ _ => rfl, rfl, fun _ _ => rfl, fun _ => rfl, .refl s⟩

theorem Told.trans (h : Told ps l s t) (k : Told ps l t u) : Told ps l s u :=
  ⟨fun f hf => (k.regs f hf).trans (h.regs f hf), by rw [k.frame, h.frame],
    fun p hp => (k.pages p hp).trans (h.pages p hp),
    fun p => by rw [SamePort, k.ports p, h.ports p], h.out.trans k.out⟩

theorem Told.mono (h : Told ps l s t) (hlm : l ⊆ m) : Told ps m s t :=
  ⟨fun f hf => h.regs f fun hl => hf (List.map_subset _ hlm hl), h.frame, h.pages, h.ports, h.out⟩

theorem Told.monoPages (h : Told ps l s t) (hpq : ps ⊆ qs) : Told qs l s t :=
  ⟨h.regs, h.frame, fun p hp => h.pages p fun hps => hp (hpq hps), h.ports, h.out⟩

theorem Told.writes (h : Told ps l s t) : Writes l s t := ⟨h.regs⟩

theorem Told.keepsData (h : Told ps l s t) : KeepsData s t := by
  rw [h.frame]
  exact ⟨rfl, rfl, rfl, rfl⟩

theorem Told.alerted (h : Told ps l s t) (k : Alerted l t u) : Told ps l s u :=
  h.trans ⟨k.regs, by rw [k.frame], fun p _ => by rw [State.page, k.frame]; rfl, k.ports, k.out⟩

theorem Told.ite {c : Prop} [Decidable c] {a b : State} (ha : Told ps l s a) (hb : Told ps l s b) :
    Told ps l s (if c then a else b) := by
  split
  · exact ha
  · exact hb

theorem Told.forAllMem {α : Type} {f : State → α → State} {as : List α} (h : Told ps l s t)
    (hf : ∀ u, ∀ a ∈ as, Told ps l s u → Told ps l s (f u a)) : Told ps l s (t.forAll as f) :=
  List.foldlRecOn (motive := Told ps l s) as f h fun u hu a ha => hf u a ha hu

theorem Told.wr {f : Fld} {v : Nat} (h : Told ps l s t) (hf : f ∈ l) : Told ps l s (t.wr f v) :=
  h.alerted ((Alerted.refl t).wr hf)

theorem Told.setPage {p : Nat} {v : PageState} (h : Told ps l s t) (hp : p ∈ ps) : Told ps l s (t.setPage p v) :=
  ⟨h.regs, congrArg (fun u => u.setPage p v) h.frame,
    fun q hq => (State.page_setPage_ne _ (ne_of_mem_of_not_mem hp hq).symm _).trans (h.pages q hq), h.ports, ⟨h.out.grown, h.out.ports⟩⟩

/-- A port takes what is to be told its host. -/
theorem Told.setPort {p : Nat} {v : PortState} (h : Told ps l s t) (hv : SamePort (t.port p) v := by exact rfl) :
    Told ps l s (t.setPort p v) := h.alerted ((Alerted.refl t).setPort hv)

theorem Told.setLd {n : Nat} {v : LdState} (h : Told ps l s t) : Told ps l s (t.setLd n v) :=
  ⟨h.regs, congrArg (fun u => u.setLd n v) h.frame, h.pages, h.ports, ⟨h.out.grown, h.out.ports⟩⟩

theorem Told.pin {v : PinState} (h : Told ps l s t) : Told ps l s { t with pin := v } :=
  ⟨h.regs, congrArg (fun u : State => { u with pin := v }) h.frame, h.pages, h.ports, ⟨h.out.grown, h.out.ports⟩⟩

theorem Told.emit {o : Out} (h : Told ps l s t) (ho : callsNone o = true := by rfl) : Told ps l s (t.emit o) :=
  h.alerted ((Alerted.refl t).emit ho)

theorem Told.send {p : Nat} {o : Out} (h : Told ps l s t) (hl : sendFields ⊆ l) (hp : p < 4)
    (ho : callsNone o = true := by rfl) : Told ps l s (t.send p o) := h.alerted ((Alerted.refl t).send hl hp ho)

theorem Told.intOut {p bit : Nat} (h : Told ps l s t) (hl : sendFields ⊆ l) : Told ps l s (t.intOut p bit) :=
  h.alerted ((Alerted.refl t).intOut hl)

theorem Told.cause {p bit : Nat} (h : Told ps l s t) (hl : causeFields p ⊆ l) : Told ps l s (t.cause p bit) :=
  h.alerted ((Alerted.refl t).cause hl)

theorem Told.aerDue {severity : Nat} {lds : List (Nat × Nat)} (h : Told ps l s t) :
    Told ps l s (t.aerDue severity lds) := h.forAllMem fun _ _ _ k => .ite k k.setPort

theorem Told.fixWake (h : Told ps l s t) : Told ps l s t.fixWake := .ite h h.pin.emit
theorem Told.wakeFor {p : Nat} (h : Told ps l s t) : Told ps l s (t.wakeFor p) := .ite h.setPort.fixWake h

theorem Told.enterLog {log : Nat} {r : EventRec} {m : Nat × Nat} (h : Told ps l s t) (hl : sendFields ⊆ l)
    (hm : m.1 < 4) : Told ps l s (t.enterLog log r m) := by
  unfold State.enterLog
  extract_lets d _ d' t₁ t₂
  have h₁ : Told ps l s t₁ := h.setLd
  have h₂ : Told ps l s t₂ := .ite (h₁.send hl hm) (.ite (h₁.send hl hm) h₁)
  exact .ite h₂.wakeFor h₂

theorem Told.report {e : Err} {r : Report} (h : Told ps l s t) (hl : sendFields ⊆ l) :
    Told ps l s (t.report e r) := by
  refine .ite h (h.forAllMem fun _ m hm k => k.enterLog hl ?_)
  split at hm
  · exact port_of_mem_allLds (List.mem_filter.1 hm).1
  · exact port_of_mem_routed hm

theorem Told.errEvent {source : Nat} (h : Told ps l s t) (hl : errPinFields ⊆ l) :
    Told ps l s (t.errEvent source) := by
  have hcount : Told ps l s (t.bump ERRPIN_COALESCED.count) := h.wr (hl (by decide))
  have hpulse : Told ps l s (t.errPulseStart source) :=
    ((((((h.wr (hl (by decide))).wr (hl (by decide))).wr (hl (by decide))).wr (hl (by decide))).wr
      (hl (by decide))).pin).emit
  exact .ite h (.ite hcount (.ite (.ite hcount (h.pin.wr (hl (by decide)))) hpulse))

theorem Told.firstFatal {p code : Nat} (h : Told ps l s t) (hl : errPinFields ⊆ l) (hs : sendFields ⊆ l) :
    Told ps l s (t.firstFatal p code) := by
  have hcount : Told ps l s ((t.bump ERRPIN_FATALS.count).cause 0x07 2) :=
    (h.wr (hl (by decide))).cause (List.cons_subset.2 ⟨hl (by decide), hs⟩)
  exact .ite hcount (((((hcount.wr (hl (by decide))).wr (hl (by decide))).wr (hl (by decide))).wr
    (hl (by decide))).wr (hl (by decide)))

theorem Told.escalate {page code : Nat} (h : Told ps l s t) (hl : ESC_STAT.running.on page ∈ l) (hp : page ∈ ps) :
    Told ps l s (t.escalate page code) :=
  .ite (.ite (h.setPage hp) h) (.ite ((h.wr hl).setPage hp) h)

theorem Told.captureFirst {e : Err} (h : Told ps l s t) (hl : captureFields e.page ⊆ l) :
    Told ps l s (t.captureFirst e) := by
  have hwr : ∀ {f : Fld} {v : Nat} {u : State}, Told ps l s u → f ∈ [ERR_STAT.overflow, FE_ADDR_LO.addr,
      FE_ADDR_HI.addr, FE_MASTER.master, FE_ACCESS.access, FE_ACCESS.class, FE_CODE.code, FE_TIME_LO.time,
      FE_TIME_HI.time, FE_VALID.time_valid, FE_VALID.valid] → Told ps l s (u.wr (f.on e.page) v) :=
    fun k hf => k.wr (hl (List.mem_map_of_mem hf))
  refine .ite (hwr h (by decide)) ?_
  unfold State.capture
  extract_lets u₁ u₂ u₃
  have h₁ : Told ps l s u₁ := hwr (hwr h (by decide)) (by decide)
  have h₂ : Told ps l s u₂ := hwr (hwr (hwr h₁ (by decide)) (by decide)) (by decide)
  have h₃ : Told ps l s u₃ := hwr (hwr (hwr h₂ (by decide)) (by decide)) (by decide)
  exact hwr (hwr h₃ (by decide)) (by decide)

end

/-- The fields of an error that tell of it: the capture, ERR_N and what became of messages (R12, R509). -/
def tellFields (page : Nat) : List Fld := captureFields page ++ (errPinFields ++ sendFields)

/-- How an error ends once it has been told: with nothing, with its timer, or with its page out of service. -/
def Reacts (e : Err) (u t : State) : Prop := t = u ∨ t = u.escalate e.page e.code ∨ t = u.isolate e.page

/-- The stages of an error (R509): the Time Base wakes, the error is tallied and told, and it takes its reaction. -/
theorem log_stages (e : Err) : ∃ u, Told [] (tellFields e.page) (s.wakeTb.tally e) u ∧ Reacts e u (s.log e) := by
  have hcapture : captureFields e.page ⊆ tellFields e.page := List.subset_append_left _ _
  have hpin : errPinFields ⊆ tellFields e.page :=
    List.subset_append_of_subset_right _ (List.subset_append_left _ _)
  have hsend : sendFields ⊆ tellFields e.page :=
    List.subset_append_of_subset_right _ (List.subset_append_right _ _)
  unfold State.log
  extract_lets _ u₁ u₂ u₃ u₄ u₅ u₆
  have h₁ : Told [] (tellFields e.page) (s.wakeTb.tally e) u₁ := (Told.refl _).captureFirst hcapture
  have h₂ : Told [] (tellFields e.page) (s.wakeTb.tally e) u₂ := .ite (h₁.intOut hsend) h₁
  have h₃ : Told [] (tellFields e.page) (s.wakeTb.tally e) u₃ := h₂.report hsend
  have h₄ : Told [] (tellFields e.page) (s.wakeTb.tally e) u₄ := h₃.aerDue
  have h₅ : Told [] (tellFields e.page) (s.wakeTb.tally e) u₅ := .ite (h₄.errEvent hpin) h₄
  have h₆ : Told [] (tellFields e.page) (s.wakeTb.tally e) u₆ := ((h₃.firstFatal hpin hsend).aerDue).errEvent hpin
  split
  · exact ⟨_, .ite h₃.aerDue h₃, .inl rfl⟩
  · split
    · exact ⟨_, h₄.errEvent hpin, .inl rfl⟩
    · split
      · exact ⟨_, h₄, .inl rfl⟩
      · exact ⟨_, h₅, .inr (.inl rfl)⟩
  · split
    · exact ⟨_, h₆, .inr (.inl rfl)⟩
    · split
      · exact ⟨_, h₆, .inr (.inr rfl)⟩
      · exact ⟨_, h₆, .inl rfl⟩
    · exact ⟨_, h₆, .inl rfl⟩

/-- An error is tallied once the Time Base has woken for it; what follows only tells of it (R509). -/
theorem told_log (e : Err) : Told [e.page] (toldFields e.page) (s.wakeTb.tally e) (s.log e) := by
  have hrunning : ESC_STAT.running.on e.page ∈ toldFields e.page := List.mem_append_right _ (.head _)
  have hstate : PAGE_STAT.state.on e.page ∈ toldFields e.page := List.mem_append_right _ (.tail _ (.head _))
  have htell : tellFields e.page ⊆ toldFields e.page :=
    List.append_subset.2 ⟨List.subset_append_left _ _,
      List.subset_append_of_subset_right _ (List.subset_append_right _ _)⟩
  obtain ⟨u, hu, hreacts⟩ := log_stages (s := s) e
  replace hu := (hu.mono htell).monoPages (List.nil_subset [e.page])
  obtain h | h | h := hreacts
  · exact h ▸ hu
  · exact h ▸ hu.escalate hrunning (.head _)
  · exact h ▸ hu.wr hstate

/-! ## The writes of a cause and of an error -/

section
variable {l : List Fld} {page : Nat}

theorem Writes.told {m : List Fld} {ps : List Nat} (h : Writes l s t) (k : Told ps m t u) (hl : m ⊆ l) : Writes l s u :=
  h.trans (k.writes.mono hl)

theorem Writes.send {p : Nat} {o : Out} (h : Writes l s t) (hl : sendFields ⊆ l) (hp : p < 4) :
    Writes l s (t.send p o) :=
  .ite (h.setPort.wr (hl (mem_sendFields hp))) (.ite h.setPort (h.flds rfl))

theorem Writes.cause {bit : Nat} (h : Writes l s t) (hl : causeFields page ⊆ l) : Writes l s (t.cause page bit) :=
  h.trans ((alerted_cause page bit).writes.mono hl)

theorem Writes.wakeTb (h : Writes l s t) (hl : tbDomainFields ⊆ l) : Writes l s t.wakeTb :=
  .ite ((h.setDomain.wr (hl (.head _))).wr (hl (.tail _ (.head _)))) h

theorem Writes.tally {e : Err} (h : Writes l s t) (hl : statusFields e.page ⊆ l) : Writes l s (t.tally e) := by
  have hf : ∀ {f : Fld}, f ∈ [ERR_STAT.ce, ERR_STAT.uc, ERR_STAT.fatal, ERR_CNT_CE.count, ERR_CNT_UC.count,
      ESC_STAT.running, PAGE_STAT.state] → f.on e.page ∈ l := fun hf => hl (List.mem_map_of_mem hf)
  unfold State.tally
  split <;> exact (h.wr (hf (by decide))).wr (hf (by decide))

theorem Writes.log {e : Err} (h : Writes l s t) (hl : errFields e.page ⊆ l) : Writes l s (t.log e) := by
  have herror : errorFields e.page ⊆ l := List.Subset.trans (List.subset_append_left _ _) hl
  have hstatus : statusFields e.page ⊆ l := List.Subset.trans (statusFields_subset _) herror
  refine ((h.wakeTb (List.Subset.trans (tbDomainFields_subset _) herror)).tally hstatus).told (told_log e) ?_
  refine List.append_subset.2 ⟨List.Subset.trans (captureFields_subset _) herror, List.append_subset.2 ⟨?_,
    List.append_subset.2 ⟨List.Subset.trans (errPinFields_subset _) herror,
      List.Subset.trans (List.subset_append_right _ _) hl⟩⟩⟩
  exact List.Subset.trans (List.map_subset _ (by decide)) hstatus

theorem Writes.err {code addr : Nat} (h : Writes l s t) (hl : errFields page ⊆ l) :
    Writes l s (t.err page code addr) := h.log hl

theorem Writes.errReq {code dpa access master : Nat} (h : Writes l s t) (hl : errFields page ⊆ l) :
    Writes l s (t.errReq page code dpa access master) := h.log hl

end

/-! ## Nothing that an error sends calls a line back -/

theorem Uncalled.cause (h : Uncalled s t) (page bit : Nat) : Uncalled s (t.cause page bit) :=
  h.trans (alerted_cause page bit).out

theorem Uncalled.wr (h : Uncalled s t) (f : Fld) (v : Nat) : Uncalled s (t.wr f v) := ⟨h.grown, h.ports⟩

theorem Uncalled.setDomain (h : Uncalled s t) (d : Nat) (v : DomainState) : Uncalled s (t.setDomain d v) := ⟨h.grown, h.ports⟩

theorem Uncalled.ite {c : Prop} [Decidable c] {a b : State} (ha : Uncalled s a) (hb : Uncalled s b) :
    Uncalled s (if c then a else b) := by
  split
  · exact ha
  · exact hb

theorem Uncalled.wakeTb (h : Uncalled s t) : Uncalled s t.wakeTb := .ite (((h.setDomain _ _).wr _ _).wr _ _) h

theorem Uncalled.tally (h : Uncalled s t) (e : Err) : Uncalled s (t.tally e) := by
  unfold State.tally
  split <;> exact (h.wr _ _).wr _ _

theorem Uncalled.log (h : Uncalled s t) (e : Err) : Uncalled s (t.log e) := (h.wakeTb.tally e).trans (told_log e).out

theorem Uncalled.err (h : Uncalled s t) (page code addr : Nat) : Uncalled s (t.err page code addr) := h.log _

theorem Uncalled.errReq (h : Uncalled s t) (page code dpa access master : Nat) :
    Uncalled s (t.errReq page code dpa access master) := h.log _

/-- An effect that called no line back needs no back-invalidate (R329). -/
theorem recalls_of_uncalled (h : Uncalled s t) : s.recalls t = [] := by
  obtain ⟨l, hout, hl⟩ := h.grown
  have hlen : t.out.length - s.out.length = l.length := by rw [hout, List.length_append, Nat.add_sub_cancel]
  rw [State.recalls, hlen, hout, List.take_left]
  refine List.filterMap_eq_nil_iff.2 fun o ho => ?_
  have hnone := hl o (List.mem_reverse.1 ho)
  cases o with
  | backInvalidate => exact absurd hnone Bool.false_ne_true
  | _ => rfl

/-! ## Reading past a cause or an error -/

section
variable {f : Fld} {page : Nat}

theorem rd_cause (hf : clear (causeFields page) f = true) (bit : Nat) : (s.cause page bit).rd f = s.rd f :=
  (alerted_cause page bit).writes.rd hf

theorem rd_log {e : Err} (hf : clear (errFields e.page) f = true) : (s.log e).rd f = s.rd f :=
  ((Writes.refl s).log (List.Subset.refl _)).rd hf

theorem rd_err (hf : clear (errFields page) f = true) (code addr : Nat) : (s.err page code addr).rd f = s.rd f :=
  ((Writes.refl s).err (List.Subset.refl _)).rd hf

theorem rd_errReq (hf : clear (errFields page) f = true) (code dpa access master : Nat) :
    (s.errReq page code dpa access master).rd f = s.rd f :=
  ((Writes.refl s).errReq (List.Subset.refl _)).rd hf

end

/-! ## What an error writes in its page (R10, R508) -/

section
variable {e : Err}

/-- A status field of the error's page reads as it does once the error is tallied. -/
theorem rd_log_tally {f : Fld} (hf : clear (toldFields e.page) f = true) :
    (s.log e).rd f = (s.wakeTb.tally e).rd f := (told_log e).writes.rd hf

theorem rd_wakeTb {f : Fld} (hf : clear tbDomainFields f = true) : s.wakeTb.rd f = s.rd f :=
  ((Writes.refl s).wakeTb (List.Subset.refl _)).rd hf

theorem tally_corrected (h : codeClass e.code = 1) :
    s.tally e = (s.put (ERR_STAT.ce.on e.page)).bump (ERR_CNT_CE.count.on e.page) := by
  rw [State.tally, h]
  rfl

theorem tally_contained (h : codeClass e.code = 2) :
    s.tally e = (s.put (ERR_STAT.uc.on e.page)).bump (ERR_CNT_UC.count.on e.page) := by
  rw [State.tally, h]
  rfl

theorem tally_fatal (h : codeClass e.code = 3) :
    s.tally e = (s.put (ERR_STAT.fatal.on e.page)).bump (ERR_CNT_UC.count.on e.page) := by
  rw [State.tally, h]
  rfl

theorem rd_put_self {f : Fld} (hf : 0 < f.width := by exact Nat.succ_pos _) : (s.put f).rd f = 1 :=
  rd_wr_lt (Nat.one_lt_two_pow hf.ne')

/-- A corrected error sets ERR_STAT.ce and is counted, and leaves the other bits of ERR_STAT. -/
theorem rd_log_corrected (h : codeClass e.code = 1) :
    (s.log e).rd (ERR_STAT.ce.on e.page) = 1 ∧ (s.log e).rd (ERR_STAT.uc.on e.page) = s.rd (ERR_STAT.uc.on e.page) ∧
      (s.log e).rd (ERR_STAT.fatal.on e.page) = s.rd (ERR_STAT.fatal.on e.page) ∧
      CountedUp s (s.log e) (ERR_CNT_CE.count.on e.page) := by
  refine ⟨?_, ?_, ?_, ?_⟩
  · rw [rd_log_tally (by rfl), tally_corrected h, State.bump_eq, rd_wr_apart (by rfl)]
    exact rd_put_self
  · rw [rd_log_tally (by rfl), tally_corrected h, State.bump_eq, rd_wr_apart (by rfl), State.put_eq,
      rd_wr_apart (by rfl), rd_wakeTb (by rfl)]
  · rw [rd_log_tally (by rfl), tally_corrected h, State.bump_eq, rd_wr_apart (by rfl), State.put_eq,
      rd_wr_apart (by rfl), rd_wakeTb (by rfl)]
  · rw [CountedUp, rd_log_tally (by rfl), tally_corrected h, rd_bump, State.put_eq, rd_wr_apart (by rfl),
      rd_wakeTb (by rfl)]

/-- An uncorrected-contained error sets ERR_STAT.uc and is counted, and leaves the other bits of ERR_STAT. -/
theorem rd_log_contained (h : codeClass e.code = 2) :
    (s.log e).rd (ERR_STAT.uc.on e.page) = 1 ∧ (s.log e).rd (ERR_STAT.ce.on e.page) = s.rd (ERR_STAT.ce.on e.page) ∧
      (s.log e).rd (ERR_STAT.fatal.on e.page) = s.rd (ERR_STAT.fatal.on e.page) ∧
      CountedUp s (s.log e) (ERR_CNT_UC.count.on e.page) := by
  refine ⟨?_, ?_, ?_, ?_⟩
  · rw [rd_log_tally (by rfl), tally_contained h, State.bump_eq, rd_wr_apart (by rfl)]
    exact rd_put_self
  · rw [rd_log_tally (by rfl), tally_contained h, State.bump_eq, rd_wr_apart (by rfl), State.put_eq,
      rd_wr_apart (by rfl), rd_wakeTb (by rfl)]
  · rw [rd_log_tally (by rfl), tally_contained h, State.bump_eq, rd_wr_apart (by rfl), State.put_eq,
      rd_wr_apart (by rfl), rd_wakeTb (by rfl)]
  · rw [CountedUp, rd_log_tally (by rfl), tally_contained h, rd_bump, State.put_eq, rd_wr_apart (by rfl),
      rd_wakeTb (by rfl)]

/-- A fatal error sets ERR_STAT.fatal. -/
theorem rd_log_fatal (h : codeClass e.code = 3) : (s.log e).rd (ERR_STAT.fatal.on e.page) = 1 := by
  rw [rd_log_tally (by rfl), tally_fatal h, State.bump_eq, rd_wr_apart (by rfl)]
  exact rd_put_self

end

/-! ## The other components -/

theorem told_tally (e : Err) : Told [] (statusFields e.page) s (s.tally e) := by
  have hf : ∀ {f : Fld}, f ∈ [ERR_STAT.ce, ERR_STAT.uc, ERR_STAT.fatal, ERR_CNT_CE.count, ERR_CNT_UC.count,
      ESC_STAT.running, PAGE_STAT.state] → f.on e.page ∈ statusFields e.page := fun hf => List.mem_map_of_mem hf
  unfold State.tally
  split <;> exact ((Told.refl s).wr (hf (by decide))).wr (hf (by decide))

/-- A power domain is left as it was but for the Time Base's, which may begin to wake (R432). -/
theorem domain_log (e : Err) (d : Nat) : ∃ w, (s.log e).domain d = { s.domain d with wakeAt := w } := by
  have hlog : (s.log e).domains = s.wakeTb.domains := by rw [(told_log e).frame, (told_tally e).frame]
  rw [State.domain, hlog]
  change ∃ w, s.wakeTb.domain d = _
  unfold State.wakeTb
  split
  · refine ⟨if d = 74 then some s.now else (s.domain d).wakeAt, ?_⟩
    rw [State.startWake, State.bump_eq, State.wr_domain, State.wr_domain]
    split
    case isTrue hd => rw [hd, State.domain_setDomain]
    case isFalse hd => rw [State.domain_setDomain_ne _ hd]
  · exact ⟨_, rfl⟩

/-- A domain in Run stays there: only one that sleeps begins to wake (R432). -/
theorem rd_log_run {e : Err} {d : Nat} (h : s.rd (PWR_DOM_STAT.state.ix d) = 0) :
    (s.log e).rd (PWR_DOM_STAT.state.ix d) = 0 := by
  rw [rd_log_tally (by rfl), (told_tally e).writes.rd (by rfl)]
  unfold State.wakeTb
  split
  · have hd : (PWR_DOM_STAT.state.ix d).key ≠ (PWR_DOM_STAT.state.ix 74).key := fun hk => by
      rename_i h74
      rw [State.rd, ← hk] at h74
      exact absurd (h.symm.trans h74) (by decide)
    rw [State.startWake, State.bump_eq, rd_wr_apart (by rfl), State.rd_wr_ne _ hd]
    exact h
  · exact h

end Sys2Proof.Proofs

/-! # Soft resets, captures, causes and escalation (R10 to R14, R512 to R514, R607) -/

namespace Sys2Proof.Proofs

open Sys2Proof Sys2Proof.Machine Sys2Proof.Laws

variable {s t u : State}

/-! ## Shared facts -/

theorem KeepsData.refl (s : State) : KeepsData s s := ⟨rfl, rfl, rfl, rfl⟩

/-- A loop that writes one value to a field for each entry of a list. -/
theorem rd_forAll_wr {α : Type} {f : α → Fld} {v c : Nat} {g : Fld} (l : List α)
    (hc : ∀ a ∈ l, (f a).key = g.key → v % 2 ^ (f a).width = c) (s : State) :
    (s.forAll l fun s a => s.wr (f a) v).rd g = if ∃ a ∈ l, (f a).key = g.key then c else s.rd g := by
  induction l generalizing s with
  | nil => simp [State.forAll]
  | cons a l ih =>
    have hrest : (s.forAll (a :: l) fun s a => s.wr (f a) v) = (s.wr (f a) v).forAll l fun s a => s.wr (f a) v := rfl
    rw [hrest, ih (fun b hb => hc b (.tail _ hb)), State.rd_wr]
    by_cases hl : ∃ b ∈ l, (f b).key = g.key
    · obtain ⟨b, hb, hk⟩ := hl
      rw [if_pos ⟨b, hb, hk⟩, if_pos ⟨b, .tail _ hb, hk⟩]
    · rw [if_neg hl]
      by_cases ha : g.key = (f a).key
      · rw [if_pos ha, if_pos ⟨a, .head _, ha.symm⟩, hc a (.head _) ha.symm]
      · rw [if_neg ha, if_neg]
        rintro ⟨b, hb, hk⟩
        obtain rfl | hb := List.mem_cons.1 hb
        · exact ha hk.symm
        · exact hl ⟨b, hb, hk⟩

/-- A write of a register that Safe State leaves open is carried out at once (R3, R321, R425, R451, R456). -/
theorem safeWrite_acts {who : Accessor} {page : Nat} (hopen : s.regsOpen = true) (hadmin : s.mayAdmin who = true)
    (hpresent : s.present page = true) (hawake : awake s page = true) (off : Nat) (act : State → State) :
    s.safeWrite who page off act = act s := by
  simp only [State.regsOpen, Bool.and_eq_true, decide_eq_true_eq] at hopen
  have hphase : ¬(s.sys.phase = .off ∨ s.sys.phase = .hold) := by tauto
  simp [State.safeWrite, hphase, hadmin, hpresent, wakePage_awake hawake]

/-! ## Soft resets -/

theorem softReset_asks {who : Accessor} {page : Page} (h : takes s who page.val = true) (hne : page.val ≠ 0x09)
    (hreq : (s.page page.val).softReq = false) :
    exec (.softReset who page) s =
      .next (s.setPage page.val { s.page page.val with softReq := true, reqAt := s.now }) := by
  show Machine.execSoftReset who page s = _
  rw [Machine.execSoftReset, command_takes h]
  simp [hne, hreq]

/-- The instant at which a request for quiescence is abandoned, of the state's own numerals (R14). -/
theorem gateLate_iff (at_ : Nat) : s.gateLate (some at_) = true ↔ at_ + 2000000 < s.now := by
  have hlimit : 2 * psUs = 2000000 := by norm_num [psUs]
  rw [State.gateLate, Option.any_some, decide_eq_true_eq, hlimit]

/-- The Chisel page's own fields at reset, but those that the page keeps (R607). -/
def chiselReset (s : State) : State :=
  ({ s with chisel := ChiselState.reset } : State).resetPage 0x1D (s.keepsField 0x1D)

theorem rd_resetPage_of_page {p : Nat} {keep : Nat → Bool} {f : Fld} (hf : pageOf f ≠ p) :
    (s.resetPage p keep).rd f = s.rd f := by
  simp only [State.rd, State.resetPage]
  rw [get_filter_key fun k => !(decide (k / 131072 % 128 = p) && decide (0x100 ≤ k / 32 % 4096)) || keep k]
  rw [pageOf] at hf
  simp [hf]

theorem rd_resetPage_self {keep : Nat → Bool} {f : Fld} (hoff : 0x100 ≤ f.key / 32 % 4096) (hkeep : keep f.key = false) :
    (s.resetPage (pageOf f) keep).rd f = Fld.resetVal f.key := by
  simp only [State.rd, State.resetPage]
  rw [get_filter_key fun k => !(decide (k / 131072 % 128 = pageOf f) && decide (0x100 ≤ k / 32 % 4096)) || keep k]
  simp [pageOf, hoff, hkeep]

/-- A soft reset of the Chisel page resets its state and its fields, and nothing follows (R607). -/
theorem softResetNow_chisel : s.softResetNow 0x1D = chiselReset s := by
  have hretain : (chiselReset s).on FOLIO_CTL.key_retain = s.on FOLIO_CTL.key_retain :=
    congrArg (fun n => decide (n = 1)) (rd_resetPage_of_page (by decide))
  have hstep : s.softResetNow 0x1D =
      if s.on FOLIO_CTL.key_retain && !(chiselReset s).on FOLIO_CTL.key_retain then
        ((chiselReset s).writeKeyRecord (chiselReset s).keyTables []).rewired 0x1D
      else (chiselReset s).rewired 0x1D := by
    rw [← apply_ite (State.rewired · 0x1D)]
    rfl
  rw [hstep, hretain, if_neg (by simp)]
  rfl

theorem softResetProceed_quiescent {page : Page} (hreq : (s.page page.val).softReq = true)
    (hquiet : s.quiescent page.val = true) :
    exec (.softResetProceed page) s =
      .next (if s.gateLate (some (s.page page.val).reqAt) then s.abandonReset page
        else (s.setPage page.val { s.page page.val with softReq := false }).softResetNow page) := by
  show Machine.execSoftResetProceed page s = _
  simp only [Machine.execSoftResetProceed, hreq, hquiet, Bool.not_true, Bool.or_self, Bool.false_eq_true, if_false]
  split <;> rfl

/-- An abandoned reset is reported, and no other register changes (R14). -/
structure Abandons (page : Nat) (s t : State) : Prop where
  asked : (t.page page).softReq = false
  reported : t.rd (PAGE_STAT.reset_abandoned.on page) = 1
  regs : SameRegs s t [PAGE_STAT.reset_abandoned.on page]

theorem abandons_abandonReset (page : Nat) : Abandons page s (s.abandonReset page) where
  asked := by rw [State.abandonReset, State.put_eq, State.wr_page, State.page_setPage]
  reported := rd_put_self
  regs := ((Writes.refl s).setPage.wr (.head _)).regs

/-! ## A gate closure that is abandoned -/

/-- The pages of the domain report that its entry was abandoned, and the domain runs (R424). -/
def reopened (s : State) (d : Nat) : State :=
  let t := s.forAll (s.presentPages d) fun s p => s.put (PAGE_STAT.gate_abandoned.on p)
  (t.wr (PWR_DOM_STAT.state.ix d) 0).setDomain d { t.domain d with idleAt := t.now, gateAt := none }

theorem abandonGate_eq (d : Nat) : s.abandonGate d = ((reopened s d).cause 0x03 1).err 0x03 0x0E02 d := rfl

theorem logged_abandonGate (d : Nat) : Logged (reopened s d) (s.abandonGate d) :=
  (logged_cause 0x03 1).trans (logged_err 0x03 0x0E02 d)

theorem keepsData_reopened (d : Nat) : KeepsData s (reopened s d) :=
  (logged_forAll (fun _ _ => logged_wr _ _) (s.presentPages d)).keepsData

/-- An entry that is abandoned is reported in each page of the domain and as a corrected error, and the domain is in
Run (R14, R424). -/
structure GateAbandoned (d : Nat) (s t : State) : Prop where
  gate : (t.domain d).gateAt = none
  pages : ∀ p ∈ s.presentPages d, t.rd (PAGE_STAT.gate_abandoned.on p) = 1
  uc : t.rd (ERR_STAT.uc.on 0x03) = s.rd (ERR_STAT.uc.on 0x03)
  ce : t.rd (ERR_STAT.ce.on 0x03) = 1
  run : t.rd (PWR_DOM_STAT.state.ix d) = 0
  data : KeepsData s t

theorem gateAbandoned (d : Nat) : GateAbandoned d s (s.abandonGate d) := by
  have hstat : ∀ {f : Fld}, clear [PWR_DOM_STAT.state.ix d] f = true →
      (reopened s d).rd f = (s.forAll (s.presentPages d) fun s p => s.put (PAGE_STAT.gate_abandoned.on p)).rd f :=
    fun hf => (Writes.setDomain (.wr (.refl _) (.head _))).rd hf
  obtain ⟨hce, huc, -, -⟩ := rd_log_corrected (s := (reopened s d).cause 0x03 1)
    (e := { page := 0x03, code := 0x0E02, addr := d, access := 6, master := 0x19, tied := none })
    (by decide : codeClass 0x0E02 = 1)
  have hlog : (s.abandonGate d) = ((reopened s d).cause 0x03 1).log
      { page := 0x03, code := 0x0E02, addr := d, access := 6, master := 0x19, tied := none } := rfl
  refine { gate := ?_, pages := fun p hp => ?_, uc := ?_, ce := ?_, run := ?_, data := ?_ }
  · obtain ⟨w, hw⟩ := domain_log (s := (reopened s d).cause 0x03 1)
      { page := 0x03, code := 0x0E02, addr := d, access := 6, master := 0x19, tied := none } d
    have hcause : ((reopened s d).cause 0x03 1).domain d = (reopened s d).domain d := by
      rw [State.domain, (alerted_cause 0x03 1).frame]
      rfl
    rw [hlog, hw, hcause, reopened, State.domain_setDomain]
  · rw [abandonGate_eq, rd_err (by rfl), rd_cause (by rfl), hstat (by rfl)]
    exact (rd_forAll_wr (c := 1) _ (fun _ _ _ => rfl) s).trans (if_pos ⟨p, hp, rfl⟩)
  · rw [hlog, huc, rd_cause (by rfl), hstat (by rfl)]
    refine (rd_forAll_wr (c := 1) _ (fun _ _ _ => rfl) s).trans (if_neg ?_)
    rintro ⟨p, -, hp⟩
    exact key_ne_of_apart (by rfl) hp
  · exact hlog ▸ hce
  · rw [hlog]
    refine rd_log_run ?_
    rw [rd_cause (by rfl)]
    exact State.rd_wr_self _ _ _
  · exact keepsData_trans (keepsData_reopened d) (logged_abandonGate d).keepsData

/-- The same once time has passed. -/
theorem GateAbandoned.advanceTo {d now : Nat} (h : GateAbandoned d (s.advanceTo now) t) : GateAbandoned d s t :=
  ⟨h.gate, h.pages, h.uc, h.ce, h.run, h.data⟩

theorem Abandons.advanceTo {page now : Nat} (h : Abandons page (s.advanceTo now) t) : Abandons page s t :=
  ⟨h.asked, h.reported, h.regs⟩

theorem abandonReset_advanceTo (page now : Nat) :
    (s.advanceTo now).abandonReset page =
      { s with flds := ((s.advanceTo now).abandonReset page).flds, pages := ((s.advanceTo now).abandonReset page).pages,
               now := ((s.advanceTo now).abandonReset page).now, clk := ((s.advanceTo now).abandonReset page).clk } := rfl

/-! ## O4 -/

/-- Settles O4: soft resets wait, proceed or are abandoned, and FE_VALID releases the capture. -/
theorem softResetAndCaptureRelease : Obligations.SoftResetAndCaptureRelease := by
  unfold Obligations.SoftResetAndCaptureRelease
  refine ⟨fun who page s h hne hreq => ?_, fun page s hreq hquiet hpage hlate => ?_, fun page s hreq hquiet hlate => ?_,
    fun page dom at_ s hgate hquiet => ?_, fun page s hreq hquiet => ?_,
    fun who page s hopen hadmin hpresent hawake => ?_⟩
  · exact ⟨_, softReset_asks h hne hreq, State.page_setPage _ _ _, fun p hp => State.page_setPage_ne _ hp _, rfl⟩
  · have hexec := softResetProceed_quiescent hreq hquiet
    rw [if_neg (mt (gateLate_iff _).1 (Nat.not_lt.2 hlate)), hpage, softResetNow_chisel] at hexec
    refine ⟨_, hexec, rfl, ?_, fun f hf hoff hkeep => ?_, fun f hf => ?_, rfl⟩
    · rw [hpage]
      exact congrArg PageState.softReq (State.page_setPage s 0x1D _)
    · rw [chiselReset, ← hf]
      exact rd_resetPage_self hoff (hf ▸ hkeep)
    · exact rd_resetPage_of_page (mt List.mem_singleton.2 hf)
  · have hexec := softResetProceed_quiescent hreq hquiet
    rw [if_pos ((gateLate_iff _).2 hlate)] at hexec
    have ha := abandons_abandonReset (s := s) page.val
    exact ⟨_, hexec, ha.asked, ha.reported, ha.regs, rfl⟩
  · have ha := (gateAbandoned (s := s.advanceTo (at_ + 2 * psUs)) dom.val).advanceTo
    refine ⟨_, ?_, ha.gate, ha.pages, ha.uc, ha.ce, ha.run, ha.data⟩
    show Machine.execQuiescenceTimeout page (some dom) s = _
    simp only [Machine.execQuiescenceTimeout, hgate, hquiet, Bool.false_eq_true, if_false]
  · have ha := (abandons_abandonReset (s := s.advanceTo ((s.page page.val).reqAt + 2 * psUs)) page.val).advanceTo
    refine ⟨_, ?_, ha.asked, ha.reported, ha.regs, abandonReset_advanceTo _ _⟩
    show Machine.execQuiescenceTimeout page none s = _
    simp only [Machine.execQuiescenceTimeout, hreq, hquiet, Bool.not_true, Bool.or_self, Bool.false_eq_true, if_false]
  · refine ⟨s.clr (FE_VALID.valid.on page.val), ?_, State.rd_wr_self _ _ _, ((Writes.refl s).wr (.head _)).regs, rfl⟩
    show Machine.execFeValidClear who page s = _
    rw [Machine.execFeValidClear, safeWrite_acts hopen hadmin hpresent hawake]

end Sys2Proof.Proofs

/-! # Interrupt causes, Safe State and escalation (R10, R511 to R519) -/

namespace Sys2Proof.Proofs

open Sys2Proof Sys2Proof.Machine Sys2Proof.Laws

variable {s t u : State}

/-! ## Errors that no request makes -/

/-- An error that no request makes is logged under its code. -/
theorem err_eq_log (page code addr : Nat) : ∃ e : Err, e.page = page ∧ e.code = code ∧ s.err page code addr = s.log e :=
  ⟨_, rfl, rfl, rfl⟩

theorem rd_err_corrected {page code addr : Nat} (h : codeClass code = 1) :
    (s.err page code addr).rd (ERR_STAT.ce.on page) = 1 ∧
      (s.err page code addr).rd (ERR_STAT.uc.on page) = s.rd (ERR_STAT.uc.on page) ∧
      (s.err page code addr).rd (ERR_STAT.fatal.on page) = s.rd (ERR_STAT.fatal.on page) ∧
      CountedUp s (s.err page code addr) (ERR_CNT_CE.count.on page) := by
  obtain ⟨e, rfl, rfl, he⟩ := err_eq_log (s := s) page code addr
  rw [he]
  exact rd_log_corrected h

theorem rd_err_contained {page code addr : Nat} (h : codeClass code = 2) :
    (s.err page code addr).rd (ERR_STAT.uc.on page) = 1 ∧
      (s.err page code addr).rd (ERR_STAT.ce.on page) = s.rd (ERR_STAT.ce.on page) ∧
      (s.err page code addr).rd (ERR_STAT.fatal.on page) = s.rd (ERR_STAT.fatal.on page) ∧
      CountedUp s (s.err page code addr) (ERR_CNT_UC.count.on page) := by
  obtain ⟨e, rfl, rfl, he⟩ := err_eq_log (s := s) page code addr
  rw [he]
  exact rd_log_contained h

theorem rd_err_fatal {page code addr : Nat} (h : codeClass code = 3) :
    (s.err page code addr).rd (ERR_STAT.fatal.on page) = 1 := by
  obtain ⟨e, rfl, rfl, he⟩ := err_eq_log (s := s) page code addr
  rw [he]
  exact rd_log_fatal h

/-! ## Interrupt causes -/

theorem bitOf_eq_testBit (v n : Nat) : bitOf v n = v.testBit n := by
  rw [bitOf, Nat.testBit_eq_decide_div_mod_eq]

/-- A cause sets its own bit of INT_STAT and no other (R10). -/
theorem bitOf_rd_cause {page b j : Nat} (hj : j < 31) :
    bitOf ((s.cause page b).rd (INT_STAT.causes.on page)) j =
      (bitOf (s.rd (INT_STAT.causes.on page)) j || decide (j = b - 1)) := by
  simp only [State.cause]
  split
  case isTrue h =>
    by_cases hjb : j = b - 1
    · rw [hjb, h, Bool.true_or]
    · rw [decide_eq_false hjb, Bool.or_false]
  case isFalse h =>
    have hout : ∀ v : State, (v.intOut page b).rd (INT_STAT.causes.on page) = v.rd (INT_STAT.causes.on page) :=
      fun v => ((Alerted.refl v).intOut (List.Subset.refl sendFields)).writes.rd
    rw [hout, State.setBit_eq, State.rd_wr_self]
    have hwidth : (INT_STAT.causes.on page).width = 31 := rfl
    rw [hwidth, bitOf_eq_testBit, bitOf_eq_testBit, Nat.testBit_mod_two_pow, Nat.testBit_or, Nat.testBit_two_pow]
    simp [hj, eq_comm]

theorem alerted_setCauses (page bits : Nat) : Alerted (causeFields page) s (s.setCauses page bits) :=
  (Alerted.refl s).forAllMem fun _ _ _ k => k.cause (List.Subset.refl _)

/-- INT_SET sets the bits that its word names (R10). -/
theorem bitOf_rd_setCauses {page bits i : Nat} (hi : 1 ≤ i) (hi' : i ≤ 31) :
    bitOf ((s.setCauses page bits).rd (INT_STAT.causes.on page)) (i - 1) =
      (bitOf (s.rd (INT_STAT.causes.on page)) (i - 1) || bitOf bits i) := by
  have hloop : ∀ (l : List Nat) (u : State), (∀ b ∈ l, 1 ≤ b) →
      bitOf ((u.forAll l fun s b => s.cause page b).rd (INT_STAT.causes.on page)) (i - 1) =
        (bitOf (u.rd (INT_STAT.causes.on page)) (i - 1) || decide (i ∈ l)) := by
    intro l
    induction l with
    | nil => simp [State.forAll]
    | cons b l ih =>
      intro u hl
      have hb : (i - 1 = b - 1) = (i = b) := by
        have := hl b (.head _)
        exact propext (by omega)
      refine (ih (u.cause page b) fun c hc => hl c (.tail _ hc)).trans ?_
      rw [bitOf_rd_cause (by omega), Bool.or_assoc]
      simp only [hb, List.mem_cons, Bool.decide_or]
  refine (hloop _ s fun b hb => ?_).trans ?_
  · exact (List.mem_range'_1.1 (List.mem_filter.1 hb).1).1
  · have hmem : i ∈ (List.range' 1 31).filter (bitOf bits) ↔ bitOf bits i = true := by
      simp only [List.mem_filter, List.mem_range'_1]
      exact and_iff_right ⟨hi, by omega⟩
    simp only [hmem, Bool.decide_eq_true]

/-! ## Timers through an error -/

/-- A timer that runs is stopped by no error. -/
theorem rd_log_running {e : Err} {p : Nat} (h : s.rd (ESC_STAT.running.on p) = 1) :
    (s.log e).rd (ESC_STAT.running.on p) = 1 := by
  have htally : (s.wakeTb.tally e).rd (ESC_STAT.running.on p) = 1 := by
    have hwake : s.wakeTb.rd (ESC_STAT.running.on p) = 1 := (rd_wakeTb (by rfl)).trans h
    unfold State.tally
    split <;> rwa [State.bump_eq, rd_wr_apart (by rfl), State.put_eq, rd_wr_apart (by rfl)]
  obtain ⟨u, hu, hreacts⟩ := log_stages (s := s) e
  have hrun : u.rd (ESC_STAT.running.on p) = 1 := (hu.writes.rd (by rfl)).trans htally
  obtain hlog | hlog | hlog := hreacts
  · rwa [hlog]
  · rw [hlog]
    simp only [State.escalate]
    split
    · split
      · exact hrun
      · exact hrun
    · split
      · show (u.put (ESC_STAT.running.on e.page)).rd _ = 1
        rw [State.put_eq, State.rd_wr]
        split
        · exact Nat.mod_eq_of_lt (by decide : 1 < 2 ^ 1)
        · exact hrun
      · exact hrun
  · rwa [hlog, State.isolate, rd_wr_apart (by rfl)]

theorem pages_wakeTb : s.wakeTb.pages = s.pages := by
  unfold State.wakeTb
  split
  · simp [State.startWake]
  · rfl

/-- An error leaves the state of each page, but of its own where its timer starts or its pending severity rises. -/
theorem page_log {e : Err} {p : Nat}
    (h : p ≠ e.page ∨ (s.rd (ESC_STAT.running.on p) = 1 ∧ codeClass e.code ≤ (s.page p).sev)) :
    (s.log e).page p = s.page p := by
  have htally : (s.wakeTb.tally e).page p = s.page p := by
    rw [(told_tally e).pages p List.not_mem_nil, State.page, pages_wakeTb]
    rfl
  obtain hne | ⟨hrun, hsev⟩ := h
  · exact ((told_log e).pages p (by simpa using hne)).trans htally
  · by_cases hp : p = e.page
    · subst hp
      obtain ⟨u, hu, hreacts⟩ := log_stages (s := s) e
      have hpage : u.page e.page = s.page e.page := (hu.pages _ List.not_mem_nil).trans htally
      have htold : u.rd (ESC_STAT.running.on e.page) = 1 := by
        rw [hu.writes.rd (by rfl)]
        unfold State.tally
        split <;>
          rwa [State.bump_eq, rd_wr_apart (by rfl), State.put_eq, rd_wr_apart (by rfl), rd_wakeTb (by rfl)]
      obtain hlog | hlog | hlog := hreacts
      · rw [hlog, hpage]
      · rw [hlog, State.escalate, if_pos (by simp [State.on, htold]), if_neg (by rw [hpage]; omega), hpage]
      · rw [hlog, State.isolate, State.wr_page, hpage]
    · exact ((told_log e).pages p (by simpa using hp)).trans htally

/-! ## Entry to Safe State (R518) -/

/-- What an entry to Safe State writes beside its cause and the pages' timers. -/
def safeFields : List Fld :=
  ([ERRPIN_SAFE_TIME_LO.time, ERRPIN_SAFE_TIME_HI.time,
    ERRPIN_STAT.held, SCRUB_STAT.running, ERRPIN_SAFE_STAT.bind_run, ERRPIN_SAFE_STAT.entered] ++
    ((List.range 16).map (fun r => CHISEL_RING_CTL.enable.ix r) ++ (errFields 0x07 ++ (causeFields 0x00 ++ causeFields 0x07))))

theorem calm_iff : calm s = true ↔ s.chisel.jobs = [] ∧ s.crypto.tags = [] ∧ s.folio.running = none := by
  simp [calm, and_assoc]

theorem calm_of_logged (h : Logged s t) (hs : calm s = true) : calm t = true := by
  rw [h.frame]
  exact hs

theorem logged_stopTimers : Logged s s.stopTimers :=
  logged_forAll (fun _ _ => (logged_wr _ _).trans (logged_setPage _ _)) _

theorem logged_holdErrN : Logged s s.holdErrN := by
  have h : Logged s (if s.on ERRPIN_STAT.driven then s else s.errPulseStart 2) := by
    split
    · exact Logged.refl s
    · exact logged_errPulseStart 2
  exact ((h.wr _ _).wr _ _).trans (logged_pin _)

theorem ringJobs_of_calm (h : calm s = true) (r : Nat) : s.ringJobs r = [] := by
  rw [State.ringJobs, (calm_iff.1 h).1, List.filter_nil]

theorem abortRing_of_calm (h : calm s = true) (r : Nat) (portReset : Bool) : s.abortRing r portReset = s := by
  rw [State.abortRing, ringJobs_of_calm h]
  rfl

theorem stopCheckpoint_of_calm (h : calm s = true) : s.stopCheckpoint = s := by
  rw [State.stopCheckpoint, (calm_iff.1 h).2.2]

theorem flushTags_of_calm (h : calm s = true) : s.flushTags = s := by
  rw [State.flushTags, (calm_iff.1 h).2.1]
  rfl

section
variable {l : List Fld}

theorem Writes.holdErrN (h : Writes l s t) (hl : errPinFields ⊆ l) (hheld : ERRPIN_STAT.held ∈ l) :
    Writes l s t.holdErrN := by
  have hpulse : Writes l s (t.errPulseStart 2) :=
    ((((((h.wr (hl (by decide))).wr (hl (by decide))).wr (hl (by decide))).wr (hl (by decide))).wr
      (hl (by decide))).pin).emit
  exact (((Writes.ite h hpulse).wr hheld).wr (hl (by decide))).pin

/-- The timers of the pages stop, and no other field changes (R519). -/
theorem rd_stopTimers {f : Fld} (hf : ∀ p, apart f (ESC_STAT.running.on p) = true) : s.stopTimers.rd f = s.rd f :=
  forAll_keeps (P := fun u => u.rd f = s.rd f) (f := State.stopTimer) (fun _ p hu => (rd_wr_apart (hf p) 0).trans hu)
    _ rfl

/-- The rings stop where no job is to be aborted. -/
theorem rings_of_calm (h : Writes l s t) (hl : ∀ r < 16, CHISEL_RING_CTL.enable.ix r ∈ l) (hc : calm t = true) :
    Writes l s (t.forAll (List.range 16) fun s r => (s.abortRing r false).clr (CHISEL_RING_CTL.enable.ix r)) ∧
      Logged t (t.forAll (List.range 16) fun s r => (s.abortRing r false).clr (CHISEL_RING_CTL.enable.ix r)) := by
  refine List.foldlRecOn (motive := fun u => Writes l s u ∧ Logged t u) _ _ ⟨h, Logged.refl t⟩ fun u hu r hr => ?_
  obtain ⟨hw, hlogged⟩ := hu
  rw [abortRing_of_calm (calm_of_logged hlogged hc)]
  exact ⟨hw.wr (hl r (List.mem_range.1 hr)), hlogged.wr _ _⟩

end

/-- The cause of an entry to Safe State stands in SYS_SAFE_CAUSE. -/
def safeCaused (s : State) (page code : Nat) : State :=
  ((s.put SYS_START_STAT.safe).wr SYS_SAFE_CAUSE.page page).wr SYS_SAFE_CAUSE.code code

/-- Where nothing is under way to be stopped, an entry to Safe State writes its cause, then fields of `safeFields`
alone, and is entered. -/
theorem enterSafe_of_calm {page code : Nat} (hsafe : s.safe = false) (hcalm : calm s = true) :
    Writes safeFields (safeCaused s page code).stopTimers (s.enterSafe page code) ∧
      (s.enterSafe page code).rd ERRPIN_SAFE_STAT.entered = 1 := by
  have hring : ∀ r < 16, CHISEL_RING_CTL.enable.ix r ∈ safeFields := fun r hr =>
    List.mem_append_right _ (List.mem_append_left _ (List.mem_map_of_mem (List.mem_range.2 hr)))
  have htail : errFields 0x07 ++ (causeFields 0x00 ++ causeFields 0x07) ⊆ safeFields :=
    List.subset_append_of_subset_right _ (List.subset_append_right _ _)
  obtain ⟨herr, hcauses⟩ := List.append_subset.1 htail
  obtain ⟨hcause0, hcause7⟩ := List.append_subset.1 hcauses
  have hown : ∀ f ∈ [ERRPIN_SAFE_TIME_LO.time, ERRPIN_SAFE_TIME_HI.time, ERRPIN_STAT.held, SCRUB_STAT.running,
      ERRPIN_SAFE_STAT.bind_run, ERRPIN_SAFE_STAT.entered], f ∈ safeFields := fun f hf =>
    List.mem_append_left _ hf
  have hpin : errPinFields ⊆ safeFields :=
    List.Subset.trans (List.Subset.trans (errPinFields_subset 0x07) (List.subset_append_left _ _)) herr
  rw [State.enterSafe, if_neg (ne_true_of_eq_false hsafe)]
  extract_lets u₁ u₂ u₃ u₄ u₅ ub _ _ u₆
  have hl₁ : Logged s u₁ := (((logged_wr _ _).wr _ _).wr _ _).trans logged_stopTimers
  have h₁ : Writes safeFields (safeCaused s page code).stopTimers u₁ := Writes.refl _
  have hl₂ : Logged s u₂ := (hl₁.wr _ _).wr _ _
  have h₂ : Writes safeFields (safeCaused s page code).stopTimers u₂ := (h₁.wr (hown _ (by decide))).wr (hown _ (by decide))
  have hl₃ : Logged s u₃ := ((hl₂.trans (logged_err _ _ _)).trans logged_holdErrN).trans (logged_cause _ _)
  have h₃ : Writes safeFields (safeCaused s page code).stopTimers u₃ :=
    ((h₂.err herr).holdErrN hpin (hown _ (by decide))).cause hcause0
  obtain ⟨h₄, hl₄⟩ : Writes safeFields (safeCaused s page code).stopTimers u₄ ∧ Logged u₃ u₄ :=
    rings_of_calm h₃ hring (calm_of_logged hl₃ hcalm)
  have hc₄ : calm u₄ = true := calm_of_logged (hl₃.trans hl₄) hcalm
  have h₅ : Writes safeFields (safeCaused s page code).stopTimers u₅ := by
    have hc₅ : calm (u₄.clr SCRUB_STAT.running) = true := calm_of_logged (logged_wr _ _) hc₄
    unfold u₅
    rw [stopCheckpoint_of_calm hc₄, flushTags_of_calm hc₅]
    exact h₄.wr (hown _ (by decide))
  have h₆ : Writes safeFields (safeCaused s page code).stopTimers u₆ := by
    have hbind : Writes safeFields (safeCaused s page code).stopTimers ub :=
      h₅.wr (hown ERRPIN_SAFE_STAT.bind_run (by decide))
    unfold u₆
    clear_value ub
    split
    · exact hbind.flds rfl
    · exact h₅
  refine ⟨(h₆.wr (hown _ (by decide))).cause hcause7, ?_⟩
  exact (rd_cause (by rfl) 3).trans rd_put_self

/-- Safe State has been entered for its trigger (R518). -/
theorem enteredSafe_of_calm {page code : Nat} (hsafe : s.safe = false) (hcalm : calm s = true) (hpage : page < 128) :
    EnteredSafe (s.enterSafe page code) page (code % 65536) := by
  obtain ⟨hw, hentered⟩ := enterSafe_of_calm (page := page) (code := code) hsafe hcalm
  refine ⟨?_, ?_, ?_, hentered⟩
  · rw [hw.rd, rd_stopTimers (fun _ => rfl), safeCaused, rd_wr_apart (by rfl), rd_wr_apart (by rfl)]
    exact rd_put_self
  · rw [hw.rd, rd_stopTimers (fun _ => rfl), safeCaused, rd_wr_apart (by rfl)]
    exact rd_wr_lt (by show page < 2 ^ 8; omega)
  · rw [hw.rd, rd_stopTimers (fun _ => rfl), safeCaused]
    exact State.rd_wr_self _ _ _

/-! ## The timer of a page (R512 to R514) -/

theorem page_cause (page bit p : Nat) : (s.cause page bit).page p = s.page p := by
  rw [State.page, (alerted_cause page bit).frame]
  rfl

/-- A contained error whose timer has expired, before the expiry is told: it is fatal (R512). -/
def madeFatal (s : State) (page : Nat) (v : PageState) : State :=
  (((s.put (ESC_STAT.escalated.on page)).put (ERR_STAT.fatal.on page)).bump ERRPIN_ESCALATIONS.count).setPage page v

theorem logged_madeFatal (page : Nat) (v : PageState) : Logged s (madeFatal s page v) := by
  rw [madeFatal, State.put_eq, State.put_eq, State.bump_eq]
  exact (((logged_wr _ _).wr _ _).wr _ _).trans (logged_setPage _ _)

/-- What the expiry of a contained error's timer leaves. -/
structure MadeFatal (page : Nat) (s t : State) : Prop where
  escalated : t.rd (ESC_STAT.escalated.on page) = 1
  fatal : t.rd (ERR_STAT.fatal.on page) = 1
  sev : (t.page page).sev = 3
  running : t.rd (ESC_STAT.running.on page) = 1
  counted : CountedUp s t ERRPIN_ESCALATIONS.count
  data : KeepsData s t

theorem MadeFatal.advanceTo {page now : Nat} (h : MadeFatal page (s.advanceTo now) t) : MadeFatal page s t :=
  ⟨h.escalated, h.fatal, h.sev, h.running, h.counted, h.data⟩

theorem madeFatal_told {page : Nat} {v : PageState} (hrun : s.on (ESC_STAT.running.on page) = true) (hv : v.sev = 3) :
    MadeFatal page s (((madeFatal s page v).cause 0x07 1).err 0x07 0x1201 page) := by
  obtain ⟨e, he, hcode, hlog⟩ := err_eq_log (s := (madeFatal s page v).cause 0x07 1) 0x07 0x1201 page
  have hclass : codeClass e.code = 3 := by
    rw [hcode]
    decide
  have hpage : ((madeFatal s page v).cause 0x07 1).page page = v := by
    rw [page_cause, madeFatal, State.page_setPage]
  have hrunning : ((madeFatal s page v).cause 0x07 1).rd (ESC_STAT.running.on page) = 1 := by
    rw [rd_cause (by rfl), madeFatal, State.setPage_rd, State.bump_eq, rd_wr_apart (by rfl), State.put_eq,
      rd_wr_apart (by rfl), State.put_eq, rd_wr_apart (by rfl)]
    exact of_decide_eq_true hrun
  have hfatal : ((madeFatal s page v).cause 0x07 1).rd (ERR_STAT.fatal.on page) = 1 := by
    rw [rd_cause (by rfl), madeFatal, State.setPage_rd, State.bump_eq, rd_wr_apart (by rfl)]
    exact rd_put_self
  refine { escalated := ?_, fatal := ?_, sev := ?_, running := ?_, counted := ?_, data := ?_ }
  · rw [rd_err (by rfl), rd_cause (by rfl), madeFatal, State.setPage_rd, State.bump_eq, rd_wr_apart (by rfl),
      State.put_eq (f := ERR_STAT.fatal.on page), rd_wr_apart (by rfl)]
    exact rd_put_self
  · rw [hlog, rd_log_tally (by rfl), tally_fatal hclass, State.bump_eq, rd_wr_apart (by rfl), State.put_eq,
      State.rd_wr]
    split
    · rfl
    · exact (rd_wakeTb (by rfl)).trans hfatal
  · have hpending : codeClass e.code ≤ (((madeFatal s page v).cause 0x07 1).page page).sev := by
      rw [hclass, hpage, hv]
    rw [hlog, page_log (.inr ⟨hrunning, hpending⟩), hpage, hv]
  · rw [hlog]
    exact rd_log_running hrunning
  · rw [CountedUp, rd_err (by rfl), rd_cause (by rfl), madeFatal, State.setPage_rd, rd_bump, State.put_eq,
      rd_wr_apart (by rfl), State.put_eq, rd_wr_apart (by rfl)]
  · exact (((logged_madeFatal page v).trans (logged_cause _ _)).trans (logged_err _ _ _)).keepsData

theorem escExpiry_contained {page : Nat} (hsev : (s.page page).sev < 3) :
    ∃ v : PageState, v.sev = 3 ∧ s.escExpiry page =
      ((madeFatal (s.advanceTo (s.page page).escAt) page v).cause 0x07 1).err 0x07 0x1201 page := by
  rw [State.escExpiry, if_neg (Nat.not_le.2 hsev)]
  refine ⟨_, ?_, by rfl⟩
  rfl

/-- A fatal error of a page whose reaction is Safe State alone (R514, R516). -/
theorem escExpiry_fatal {page : Nat} (hsev : 3 ≤ (s.page page).sev) (hcarrier : carrierPage page = false) :
    s.escExpiry page = ((((s.advanceTo (s.page page).escAt).put (ESC_STAT.escalated.on page)).stopTimer page).enterSafe
      page (s.page page).code) := by
  rw [State.escExpiry, if_pos hsev, State.fatalExpiry]
  simp only [hcarrier, Bool.false_and, Bool.false_eq_true, if_false, State.put_eq, State.wr_page, State.advanceTo,
    State.advance_page]

/-- The acknowledge stops the timer (R513). -/
theorem writes_escAckNow (page : Nat) :
    Writes [ESC_STAT.running.on page, ESC_STAT.acked.on page] s (s.escAckNow page) :=
  ((Writes.refl s).wr (.head _)).setPage.wr (.tail _ (.head _))

/-! ## O5 -/

/-- Settles O5: INT_SET, escalation and its acknowledge, and the command registers of an absent layer. -/
theorem interruptCausesAndEscalation : Obligations.InterruptCausesAndEscalation := by
  unfold Obligations.InterruptCausesAndEscalation
  refine ⟨fun who page bits s h hlc => ?_, fun who page bits s h hlc => ?_, fun page s hrun hsev => ?_,
    fun page s hrun hsev hcarrier hsafe hcalm => ?_,
    fun who page expiryFirst s hopen hadmin hpresent hawake hrun hfirst => ?_, fun who page s habsent hadmin => ?_⟩
  · have ha := alerted_setCauses (s := s) page.val bits.toNat
    refine ⟨s.setCauses page.val bits.toNat, ?_, fun i hi hi' => bitOf_rd_setCauses hi hi', ha.regs, ?_⟩
    · show Machine.execIntSet who page bits s = _
      rw [Machine.execIntSet, command_takes h, if_pos hlc]
    · exact ha.frame
  · show Machine.execIntSet who page bits s = _
    rw [Machine.execIntSet, command_takes h, if_neg hlc]
  · obtain ⟨v, hv, hexpiry⟩ := escExpiry_contained hsev
    have hrun' : (s.advanceTo (s.page page.val).escAt).on (ESC_STAT.running.on page.val) = true := hrun
    have hm : MadeFatal page.val s (s.escExpiry page.val) := by
      rw [hexpiry]
      exact (madeFatal_told hrun' hv).advanceTo
    exact ⟨_, if_pos hrun, hm.escalated, hm.fatal, hm.sev, hm.running, hm.counted, hm.data⟩
  · have hexpiry := escExpiry_fatal hsev hcarrier
    generalize (s.page page.val).escAt = at_ at hexpiry
    obtain ⟨u, hu⟩ : ∃ u, u = ((s.advanceTo at_).put (ESC_STAT.escalated.on page.val)).stopTimer page.val := ⟨_, rfl⟩
    have hsafe' : u.safe = false := by
      rw [State.safe, State.on, hu, State.stopTimer, State.setPage_rd, State.clr_eq, rd_wr_apart (by rfl), State.put_eq,
        rd_wr_apart (by rfl)]
      exact hsafe
    have hcalm' : calm u = true := by
      rw [hu]
      exact hcalm
    rw [← hu] at hexpiry
    refine ⟨_, if_pos hrun, ?_, hexpiry ▸ enteredSafe_of_calm hsafe' hcalm' page.isLt⟩
    rw [hexpiry, (enterSafe_of_calm hsafe' hcalm').1.rd, rd_stopTimers (fun _ => rfl), safeCaused, rd_wr_apart (by rfl),
      rd_wr_apart (by rfl), State.put_eq, rd_wr_apart (by rfl), hu, State.stopTimer, State.setPage_rd, State.clr_eq,
      rd_wr_apart (by rfl)]
    exact rd_put_self
  · have hw := writes_escAckNow (s := s) page.val
    refine ⟨s.escAckNow page.val, ?_, ?_, rd_put_self, ?_, hw.regs, rfl⟩
    · have hearly : ¬(expiryFirst = true ∧ (s.page page.val).escAt ≤ s.now) := by
        rintro ⟨hgrant, hdue⟩
        obtain hgrant' | hdue' := hfirst
        · simp [hgrant] at hgrant'
        · omega
      show Machine.execEscAck who page expiryFirst s = _
      rw [Machine.execEscAck, safeWrite_acts hopen hadmin hpresent hawake, hrun, if_neg (by decide), if_neg hearly]
    · rw [State.escAckNow, State.put_eq, rd_wr_apart (by rfl), State.stopTimer, State.setPage_rd]
      exact State.rd_wr_self _ _ _
    · rw [State.escAckNow, State.put_eq, State.wr_page, State.stopTimer, State.page_setPage]
  · show Machine.execSoftReset who page s = _
    rw [Machine.execSoftReset, State.command]
    simp [habsent, hadmin]

end Sys2Proof.Proofs

/-! # Host requests at their port (R323 to R327) -/

namespace Sys2Proof.Proofs

open Sys2Proof Sys2Proof.Machine Sys2Proof.Laws

variable {s t u : State}

/-! ## O6 -/

/-- A request that passes every row of R325, with what its translation gives it. -/
def translated (s : State) (port ld : Nat) (req : HostReq) (r : Req) (cache : Nat) (d : Decoder) (dpa : Nat) : Req :=
  { r with dpa := dpa, loc := lineAddr (locOf dpa), mark := classMark dpa
           keyId := if s.keyAttr port ld then (req.ckid.map (·.toNat)).getD 0 else aliasKey dpa
           cache := if d.db then cache else 0 }

/-- The port sends a request on to its controller. -/
def passedOn (s : State) (port : Nat) (r : Req) : State :=
  let t := ({ s with nextReq := s.nextReq + 1 } : State).busy port
  { t with transit := t.transit ++ [r] }

theorem hostAccess_passes {port ld cache : Nat} {req : HostReq} {r : Req} {d : Decoder} {dpa : Nat}
    (hcarries : s.carries port ld = true) (hsafe : s.safe = false) (hoffline : s.on BIST_ENG_STAT.offline = false)
    (hactive : s.on SYS_START_STAT.mem_active = true) (hdecode : s.decode port ld req.hpa.toNat = some (d, dpa))
    (hrows : s.portRefusal port ld dpa = none) (hsanitizing : s.mbox.sanitizing = false) :
    s.hostAccess port ld req r cache = passedOn s port (translated s port ld req r cache d dpa) := by
  have hopen : ¬(s.safe = true ∨ s.on BIST_ENG_STAT.offline = true) := by simp [hsafe, hoffline]
  have hactive' : ({ s with nextReq := s.nextReq + 1 } : State).on SYS_START_STAT.mem_active = true := hactive
  have hdecode' : (({ s with nextReq := s.nextReq + 1 } : State).busy port).decode port ld req.hpa.toNat =
      some (d, dpa) := hdecode
  have hrows' : (({ s with nextReq := s.nextReq + 1 } : State).busy port).portRefusal port ld dpa = none := hrows
  have hsanitizing' : (({ s with nextReq := s.nextReq + 1 } : State).busy port).mbox.sanitizing = false := hsanitizing
  simp only [State.hostAccess, hcarries, hactive', hdecode', hrows', hsanitizing', Bool.not_true, Bool.false_eq_true,
    if_false, if_neg hopen]
  rfl

theorem sameRegs_passedOn (port : Nat) (r : Req) : SameRegs s (passedOn s port r) [] := fun _ _ => rfl

/-- Settles O6: a host request that no row of R325 refuses goes on to its controller. -/
theorem hostRequestsGoOnToTheirController : Obligations.HostRequestsGoOnToTheirController := by
  unfold Obligations.HostRequestsGoOnToTheirController
  refine ⟨fun port ld req cache d dpa s hcarries hsafe hoffline hactive hdecode hrows hsanitizing => ?_,
    fun port ld req data mask poison d dpa s hcarries hsafe hoffline hactive hdecode hrows hsanitizing => ?_⟩
  · exact ⟨_, _, congrArg Host.Outcome.next (hostAccess_passes hcarries hsafe hoffline hactive hdecode hrows hsanitizing), rfl,
      rfl, rfl, rfl, rfl, rfl, rfl, rfl, sameRegs_passedOn _ _, rfl⟩
  · exact ⟨_, _, congrArg Host.Outcome.next (hostAccess_passes hcarries hsafe hoffline hactive hdecode hrows hsanitizing), rfl,
      rfl, rfl, rfl, rfl, rfl, rfl, rfl, rfl, sameRegs_passedOn _ _, rfl⟩

/-! ## O7 -/

/-- A bound logical device with no decoder, while a Global Persistent Flush waits for the write that comes next. -/
def flushWaiting : State :=
  { Tests.hosted with folio := { Folio.reset with gpf := [{ port := 1, ld := 0, tag := 0, open_ := [0] }] } }

/-- Refutes O7: the completion of a refused write, too, ends what a Global Persistent Flush waited for (R150, R326), so
that the Folio does not stay as it was; the write of `flushWaiting` is the one its flush names. -/
theorem not_portRefusesInTheOrderOfItsRows : ¬ Obligations.PortRefusesInTheOrderOfItsRows := by
  unfold Obligations.PortRefusesInTheOrderOfItsRows
  rintro ⟨-, -, hwrite, -⟩
  obtain ⟨t, hexec, -, -, -, -, -, hfolio, -⟩ := hwrite 0 0 Tests.hreq 0 (BitVec.allOnes 64) false 0x0B04 flushWaiting
    (by decide +kernel) (by decide +kernel) (by decide +kernel) (by decide +kernel) (by decide +kernel)
  have hnext : Host.Outcome.next (flushWaiting.hostAccess 0 0 Tests.hreq
      (flushWaiting.hostReq 0 0 1 0 .full 0 (BitVec.allOnes 64) false) 0) = .next t := hexec
  have hdone : (flushWaiting.hostAccess 0 0 Tests.hreq
      (flushWaiting.hostReq 0 0 1 0 .full 0 (BitVec.allOnes 64) false) 0).folio.gpf = [] := by decide +kernel
  rw [Host.Outcome.next.inj hnext, hfolio] at hdone
  exact absurd hdone (by decide)

end Sys2Proof.Proofs

/-! # Requests and lines at their controller (R21, R55 to R65, R91, R92, R195) -/

namespace Sys2Proof.Proofs

open Sys2Proof Sys2Proof.Machine Sys2Proof.Laws

variable {s t u : State}

/-! ## O8 -/

/-- A Kerf engine and a host write are held at a spent dirty budget; the write is to a quire that is Dirty, and the queue
of its bank is full. -/
def engineHeld : State :=
  { Tests.regs [(FOLIO_STAT.persist, 1), (FOLIO_BUDGET.quires, 0), (FOLIO_STAT.hold, 1)] with
    folio := { Folio.reset with held := [Tests.rqF], engHeld := [0x12], map := [(0, { QEntry.reset with state := .dirty })] }
    pcs := [(0, { Pc.reset with queue := List.replicate 12 Tests.rq })] }

/-- Refutes O8: the last held write goes on, and FOLIO_STAT.hold stays set for an engine that is held still (R21, R148):
`engineHeld`. -/
theorem not_requestsAreQueuedAndScheduled : ¬ Obligations.RequestsAreQueuedAndScheduled := by
  unfold Obligations.RequestsAreQueuedAndScheduled
  rintro ⟨-, -, hrelease, -⟩
  obtain ⟨t, hexec, -, hhold, -⟩ := hrelease Tests.rqF engineHeld (by decide +kernel) (by decide +kernel)
    (by decide +kernel) (by decide +kernel) (by decide +kernel) (by decide +kernel) (by decide +kernel)
  have hnext : Host.Outcome.next engineHeld.releaseHeld = .next t := hexec
  have hstays : engineHeld.releaseHeld.rd FOLIO_STAT.hold = 1 := by decide +kernel
  rw [Host.Outcome.next.inj hnext, hhold] at hstays
  exact absurd hstays (by decide)

/-! ## Lines without faults or injections -/

theorem takeInjection_none {kind target : Nat} (h : s.bist.inj = []) : s.takeInjection kind target = (none, s) := by
  rw [State.takeInjection, State.injectedArg, h]
  rfl

theorem upset_none {f : LineFaults} {loc : Nat} (h : s.bist.inj = []) : s.upset loc f = (f, s) := by
  simp [State.upset, takeInjection_none h]

theorem observe_clean {v : Verdict} {dpa access master : Nat} (hout : v.outcome = .clean) (hlanes : v.lanes = []) :
    s.observe v dpa access master = s := by
  simp [State.observe, hout, hlanes]

/-- A line that is good is read as its slot's cipher gives it (R18, R92). -/
theorem readLine_clean {r : Req} {f : LineFaults} (hinj : s.bist.inj = []) (hrec : s.recovering r.loc = false)
    (hdec : f.decAgree = true) (hcrypto : f.cryptoAgree = true) (hplain : (s.selOf r).2.integrity = false)
    (hclean : (s.judge r.loc (symErrs f.errs)).outcome = .clean) (hlanes : (s.judge r.loc (symErrs f.errs)).lanes = []) :
    s.readLine r f = (.data (decryptLine (s.selOf r) r.loc (s.judge r.loc (symErrs f.errs)).line.data), s) := by
  simp [State.readLine, upset_none hinj, hrec, hdec, hclean, observe_clean hclean hlanes, State.openLine, hcrypto, hplain]

/-! ## O9 -/

/-- The burst of a read has returned. -/
def burstBack (s : State) (pc : Nat) (rest : List Req) : State :=
  s.setPc pc { s.pc pc with bursts := rest, idleSince := s.now }

/-- Settles O9: a good read burst answers the host with the decrypted line. -/
theorem readBurstAnswersTheHost : Obligations.ReadBurstAnswersTheHost := by
  unfold Obligations.ReadBurstAnswersTheHost
  intro pc r rest port ld tag s hbursts hsrc hinj hrec hplain hclean hlanes
  have hread : (burstBack s pc rest).readLine r LineFaults.none = (.data (decryptLine (s.selOf r) r.loc
      (s.judge r.loc []).line.data), burstBack s pc rest) :=
    readLine_clean (s := burstBack s pc rest) hinj hrec rfl rfl hplain hclean hlanes
  refine ⟨((burstBack s pc rest).busy port).emit
    (.hostData port ld tag (some (decryptLine (s.selOf r) r.loc (s.judge r.loc []).line.data))), ?_, ?_, rfl,
    fun _ _ => rfl, rfl⟩
  · show Machine.execReadBurstComplete pc [] ⟨[], true⟩ true true s = _
    rw [Machine.execReadBurstComplete, hbursts]
    show Host.Outcome.next ((burstBack s pc rest).finishRead r LineFaults.none) = _
    rw [State.finishRead, hread]
    simp only [State.answerRead, hsrc]
  · exact congrArg Pc.bursts (State.pc_setPc s pc.val _)

/-! ## O10 -/

/-- The code of a line's data differs from the mark of a poisoned line (R91). -/
theorem ofData_ne_poisoned (d : LineData) : StoredLine.ofData d ≠ StoredLine.poisoned d := by
  intro h
  have hcheck : checkOf d ^^^ 0#64 = checkOf d ^^^ poisonMark := by
    rw [BitVec.xor_zero]
    exact congrArg StoredLine.check h
  exact absurd ((BitVec.xor_right_inj _).1 hcheck) (by decide)

theorem encodeOut_none {loc dpa access master : Nat} {l : StoredLine} (hinj : s.bist.inj = []) :
    s.encodeOut loc l 0 dpa access master = (l, s) := by
  simp [State.encodeOut, takeInjection_none hinj]

/-- A line's cipher is stored, and what waited for the line or told of it is gone (R91, R96, R337). -/
def stored (s : State) (loc : Nat) (l : StoredLine) : State := ((s.dropWb loc).setLine loc l).dropPoison loc

/-- A line is stored under a slot without integrity as its cipher with its check symbols (R91, R193). -/
theorem storeLine_plain {r : Req} {d : LineData} {f : LineFaults} (hinj : s.bist.inj = []) (henc : f.encFails = 0)
    (hcrypto : f.cryptoFails = 0) (hplain : (s.selOf r).2.integrity = false) :
    s.storeLine r d f =
      stored s (lineAddr r.loc) (StoredLine.ofData (encryptLine (s.selOf r) (lineAddr r.loc) d)) := by
  have hgood : StoredLine.ofData (encryptLine (s.selOf r) (lineAddr r.loc) d) ≠
      StoredLine.poisoned (StoredLine.ofData (encryptLine (s.selOf r) (lineAddr r.loc) d)).data := ofData_ne_poisoned _
  simp only [State.storeLine, takeInjection_none hinj, henc, Fin.val_zero, encodeOut_none hinj, hcrypto,
    Option.isSome_none, Bool.false_eq_true, if_false, Nat.max_self, Nat.le_zero, OfNat.ofNat_ne_zero, if_neg hgood, State.writeTag,
    hplain, Bool.not_false, if_true]
  rfl

theorem wbursts_dropWb (loc p : Nat) : ((s.dropWb loc).pc p).wbursts = (s.pc p).wbursts := by
  simp only [State.dropWb]
  split
  · by_cases hp : p = (s.placeOf loc).pc
    · rw [hp, State.pc_setPc]
    · rw [State.pc_setPc_ne _ hp]
  · rfl

theorem dropWb_frame (loc : Nat) : s.dropWb loc = { s with pcs := (s.dropWb loc).pcs } := by
  simp only [State.dropWb]
  split <;> rfl

theorem line_stored (loc : Nat) (l : StoredLine) : (stored s loc l).line loc = l :=
  State.line_setLine _ _ _

theorem line_stored_ne {loc a : Nat} (l : StoredLine) (ha : a / 64 ≠ loc / 64) : (stored s loc l).line a = s.line a := by
  refine (State.line_setLine_ne _ ha l).trans ?_
  rw [dropWb_frame]
  rfl

theorem stored_frame (loc : Nat) (l : StoredLine) :
    stored s loc l = { s with pcs := (stored s loc l).pcs, lines := (stored s loc l).lines,
                              mbox := (stored s loc l).mbox } := by
  simp only [stored, State.dropPoison, State.setLine]
  rw [dropWb_frame]

theorem writes_fixDrain (pc : Nat) : Writes [PC_QUEUE_STAT.drain.pc pc] s (s.fixDrain pc) :=
  .ite ((Writes.refl s).wr (.head _)) (.ite ((Writes.refl s).wr (.head _)) (.refl s))

theorem fixDrain_frame (pc : Nat) : s.fixDrain pc = { s with flds := (s.fixDrain pc).flds } := by
  simp only [State.fixDrain]
  split
  · rfl
  · split <;> rfl

theorem pc_fixDrain (pc p : Nat) : (s.fixDrain pc).pc p = s.pc p := by
  rw [fixDrain_frame]
  rfl

theorem line_fixDrain (pc a : Nat) : (s.fixDrain pc).line a = s.line a := by
  rw [fixDrain_frame]
  rfl

theorem wbursts_stored {loc p : Nat} (l : StoredLine) : ((stored s loc l).pc p).wbursts = (s.pc p).wbursts :=
  wbursts_dropWb loc p

theorem rd_stored {loc : Nat} (l : StoredLine) (f : Fld) : (stored s loc l).rd f = s.rd f := by
  rw [stored_frame]
  rfl

/-- The burst of a write has gone out. -/
def burstOut (s : State) (pc : Nat) (rest : List Req) : State :=
  s.setPc pc { s.pc pc with wbursts := rest, idleSince := s.now }

theorem execWriteBurstIssue_none {pc : PcNo} {r : Req} {rest : List Req} (hbursts : (s.pc pc).wbursts = r :: rest)
    (hreads : ∀ x ∈ (s.pc pc).bursts, lineAddr x.loc ≠ lineAddr r.loc) :
    exec (.writeBurstIssue pc [] ⟨[], true⟩ ⟨true, true⟩ 0 0) s =
      .next (((burstOut s pc rest).finishWrite r LineFaults.none).fixDrain pc) := by
  have hbehind : ((s.pc pc).bursts.any fun x => decide (lineAddr x.loc = lineAddr r.loc)) = false :=
    List.any_eq_false.2 fun x hx => by simp [hreads x hx]
  show Machine.execWriteBurstIssue pc [] ⟨[], true⟩ ⟨true, true⟩ 0 0 s = _
  rw [Machine.execWriteBurstIssue, hbursts]
  simp only [hbehind, Bool.false_eq_true, if_false]
  rfl

/-- Settles O10: a full write stores the enciphered line, and no other line changes. -/
theorem writeBurstStoresTheLine : Obligations.WriteBurstStoresTheLine := by
  unfold Obligations.WriteBurstStoresTheLine
  intro pc r rest s hbursts hkind hgood hinj hplain hreads
  have hstore := storeLine_plain (s := burstOut s pc rest) (r := r) (d := r.data) (f := LineFaults.none) hinj rfl rfl hplain
  have hexec := execWriteBurstIssue_none hbursts hreads
  rw [State.finishWrite, if_neg (by simp [hgood]), if_neg (by simp [hkind]), hstore] at hexec
  have hsel : (burstOut s pc rest).selOf r = s.selOf r := rfl
  rw [hsel] at hexec
  generalize StoredLine.ofData (encryptLine (s.selOf r) (lineAddr r.loc) r.data) = l at hexec
  refine ⟨_, hexec, ?_, ?_, fun a ha => ?_, fun f hf => ?_, ?_⟩
  · rw [pc_fixDrain, wbursts_stored, burstOut, State.pc_setPc]
  · rw [line_fixDrain, line_stored]
  · have hline : a / 64 ≠ lineAddr r.loc / 64 := by
      rwa [lineAddr, Nat.mul_div_cancel _ (by decide)]
    rw [line_fixDrain, line_stored_ne _ hline, burstOut, State.setPc_line]
  · rw [(writes_fixDrain (s := stored (burstOut s pc rest) (lineAddr r.loc) l) pc).regs f hf, rd_stored, burstOut,
      State.setPc_rd]
  · rw [fixDrain_frame, stored_frame]
    exact ⟨rfl, rfl, rfl, rfl, rfl⟩

end Sys2Proof.Proofs

/-! ## What is logged after what is logged -/

namespace Sys2Proof.Laws

open Sys2Proof Sys2Proof.Machine

variable {s t : State}

theorem Logged.put (h : Logged s t) (f : Fld) : Logged s (t.put f) := h.wr f 1
theorem Logged.clr (h : Logged s t) (f : Fld) : Logged s (t.clr f) := h.wr f 0
theorem Logged.bump (h : Logged s t) (f : Fld) : Logged s (t.bump f) := h.wr f _
theorem Logged.cause (h : Logged s t) (page bit : Nat) : Logged s (t.cause page bit) := h.trans (logged_cause page bit)
theorem Logged.log (h : Logged s t) (e : Err) : Logged s (t.log e) := h.trans (logged_log e)
theorem Logged.report (h : Logged s t) (e : Err) (r : Report) : Logged s (t.report e r) := h.trans (logged_report e r)

theorem Logged.err (h : Logged s t) (page code addr : Nat) : Logged s (t.err page code addr) :=
  h.trans (logged_err page code addr)

theorem Logged.ite {c : Prop} [Decidable c] {a b : State} (ha : Logged s a) (hb : Logged s b) :
    Logged s (if c then a else b) := by
  split
  · exact ha
  · exact hb

end Sys2Proof.Laws

/-! # The Kerf engines: their commands and their refusals (R49, R52 to R54) -/

namespace Sys2Proof.Proofs

open Sys2Proof Sys2Proof.Machine Sys2Proof.Laws

variable {s t u : State}

/-! ## O17 -/

/-- Settles O17: the reasons for which a start of a Kerf is refused, in their order. -/
theorem kerfStartRefusedInTheOrderOfItsReasons : Obligations.KerfStartRefusedInTheOrderOfItsReasons := by
  unfold Obligations.KerfStartRefusedInTheOrderOfItsReasons
  intro k s
  simp only [State.startRefusal, State.kerfRange]
  by_cases hrange : s.rd (KERF_END.end_quire.ix k) ≤ s.rd (KERF_START.start_quire.ix k) ∨
      s.rd KERF_CAPACITY.quires < s.rd (KERF_END.end_quire.ix k)
  all_goals
    by_cases h0 : k.val = 0
    · rw [h0] at hrange ⊢
      simp only [hrange]
      split_ifs <;> simp_all
    · by_cases h2 : k.val = 2
      · rw [h2] at hrange ⊢
        simp only [hrange]
        split_ifs <;> simp_all
      · simp [h0, h2]

/-! ## O16 -/

theorem kerf_of_logged (h : Logged s t) : t.kerf = s.kerf := by rw [h.frame]

/-- A command of a slot is refused: the reason stands in its status (R52, R53). -/
theorem rd_kerfRefuse {k reason : Nat} (hreason : reason < 16) :
    (s.kerfRefuse k reason).rd (KERF_STAT.refused.ix k) = 1 ∧
      (s.kerfRefuse k reason).rd (KERF_STAT.refuse_reason.ix k) = reason := by
  constructor
  · rw [State.kerfRefuse, rd_cause (by rfl), rd_wr_apart (by rfl)]
    exact rd_put_self
  · rw [State.kerfRefuse, rd_cause (by rfl)]
    exact rd_wr_lt (by show reason < 2 ^ 4; omega)

theorem logged_kerfRefuse (k reason : Nat) : Logged s (s.kerfRefuse k reason) :=
  ((logged_wr _ _).wr _ _).trans (logged_cause _ _)

theorem startRefusal_lt {k reason : Nat} (h : s.startRefusal k = some reason) : reason < 16 := by
  simp only [State.startRefusal] at h
  split_ifs at h <;> simp_all <;> omega

/-- A Kerf starts over a selection (R39). -/
theorem startKerf_frame (k : Nat) (sel : Spans) (purpose : Nat) :
    s.startKerf k sel purpose =
      { s with flds := (s.startKerf k sel purpose).flds, kerf := (s.startKerf k sel purpose).kerf } := rfl

theorem writes_startKerf (k : Nat) (sel : Spans) (purpose : Nat) :
    Writes [KERF_STAT.state.ix k, KERF_QDONE.quires.ix k] s (s.startKerf k sel purpose) :=
  have heng : ∀ v : KerfEng, Writes [KERF_STAT.state.ix k, KERF_QDONE.quires.ix k] s (s.setEng k v) :=
    fun _ => (Writes.refl s).flds rfl
  ((heng _).wr (.head _)).wr (.tail _ (.head _))

/-- A slot takes a state and its cause (R52, R53). -/
def slotState (s : State) (k st bit : Nat) : State := (s.wr (KERF_STAT.state.ix k) st).cause 0x1A bit

theorem rd_slotState {k st bit : Nat} (hst : st < 8) : (slotState s k st bit).rd (KERF_STAT.state.ix k) = st :=
  (rd_cause (by rfl) bit).trans (rd_wr_lt (by show st < 2 ^ 3; omega))

theorem logged_slotState (k st bit : Nat) : Logged s (slotState s k st bit) :=
  (logged_wr _ _).trans (logged_cause _ _)

/-- The selection of a Kerf that is not Migrate is finished (R53). -/
theorem kerfDone_done {slot : KerfNo} (hslot : slot.val ≠ 3) (hruns : s.kerfRuns slot = true)
    (htodo : (s.eng slot).todo = []) :
    ∃ t, exec (.kerfDone slot) s = .next t ∧ t.rd (KERF_STAT.state.ix slot) = 4 ∧ Logged s t := by
  have hdone : Logged s (slotState s slot 4 (slot + 1)) := logged_slotState _ _ _
  refine ⟨if slot.val = 0 ∧ (((slotState s slot 4 (slot + 1)).eng slot).purpose = 2 ∨
    ((slotState s slot 4 (slot + 1)).eng slot).purpose = 3) then (slotState s slot 4 (slot + 1)).clr CRYPT_CARVE_STAT.busy
    else slotState s slot 4 (slot + 1), ?_, ?_, ?_⟩
  · show Machine.execKerfDone slot s = _
    rw [Machine.execKerfDone, if_neg (by simp [hslot, hruns, htodo])]
    rfl
  · split
    · rw [State.clr_eq, rd_wr_apart (by rfl)]
      exact rd_slotState (by decide)
    · exact rd_slotState (by decide)
  · split
    · exact hdone.wr _ _
    · exact hdone

/-- The error of a line that an engine did not finish in time (R54). -/
def lateLine (slot loc : Nat) : Err :=
  { page := 0x1A, code := 0x0003, addr := loc, access := 5, master := 0x12 + slot, tied := none }

/-- Settles O16: a Kerf starts, is aborted, resumes and is Done, and a line that outlasts its bound is fatal. -/
theorem kerfCommandsMoveTheSlot : Obligations.KerfCommandsMoveTheSlot := by
  unfold Obligations.KerfCommandsMoveTheSlot
  refine ⟨fun who slot s h hnone => ?_, fun who slot reason s h hreason => ?_, fun who slot s h hslot hruns hstrokes => ?_,
    fun who s h hruns hstrokes => ?_, fun who slot s h hslot hst => ?_, fun slot s hslot hruns htodo => ?_,
    fun slot loc s hruns => ?_⟩
  · refine ⟨s.startKerf slot [s.kerfRange slot] 0, ?_, ?_, ?_, ?_, (writes_startKerf _ _ _).regs, startKerf_frame _ _ _⟩
    · show Machine.execKerfStart who slot s = _
      rw [Machine.execKerfStart, command_takes h, hnone]
    · rw [State.startKerf, rd_wr_apart (by rfl)]
      exact rd_wr_lt (by decide : 2 < 2 ^ 3)
    · simp [State.startKerf]
    · rw [State.startKerf]
      exact State.rd_wr_self _ _ _
  · obtain ⟨hrefused, hreason'⟩ := rd_kerfRefuse (s := s) (k := slot) (startRefusal_lt hreason)
    have hl := logged_kerfRefuse (s := s) slot reason
    refine ⟨s.kerfRefuse slot reason, ?_, hrefused, hreason', kerf_of_logged hl, hl.keepsData⟩
    show Machine.execKerfStart who slot s = _
    rw [Machine.execKerfStart, command_takes h, hreason]
  · have hl := logged_slotState (s := s) slot 5 8
    refine ⟨slotState s slot 5 8, ?_, rd_slotState (by decide), kerf_of_logged hl, hl.keepsData⟩
    have hnow : ¬(slot.val = 4 ∧ s.dove.strokes ≠ []) := by
      rintro ⟨h4, hne⟩
      obtain h2 | hnil := hstrokes
      · omega
      · exact hne hnil
    show Machine.execKerfAbort who slot s = _
    rw [Machine.execKerfAbort, command_takes h, if_pos ⟨hslot, hruns⟩, if_neg hnow]
    rfl
  · refine ⟨s.setEng 4 { s.eng 4 with aborting := true }, ?_, State.eng_setEng _ _ _, fun _ _ => rfl, rfl⟩
    show Machine.execKerfAbort who 4 s = _
    rw [Machine.execKerfAbort, command_takes h, if_pos ⟨.inr rfl, hruns⟩, if_pos ⟨rfl, hstrokes⟩]
  · refine ⟨s.wr (KERF_STAT.state.ix slot) 2, ?_, rd_wr_lt (by decide : 2 < 2 ^ 3), ((Writes.refl s).wr (.head _)).regs, rfl⟩
    show Machine.execKerfResume who slot s = _
    rw [Machine.execKerfResume, command_takes h, if_pos ⟨hslot, hst⟩]
  · obtain ⟨t, hexec, hdone, hl⟩ := kerfDone_done hslot hruns htodo
    exact ⟨t, hexec, hdone, kerf_of_logged hl, hl.keepsData⟩
  · have hclass : codeClass (lateLine slot loc.toNat).code = 3 := (by decide : codeClass 0x0003 = 3)
    have hl := logged_log (s := s) (lateLine slot loc.toNat)
    refine ⟨s.log (lateLine slot loc.toNat), ?_, rd_log_fatal hclass, kerf_of_logged hl, hl.keepsData⟩
    show Machine.execKerfLineTimeout slot loc s = _
    rw [Machine.execKerfLineTimeout, if_neg (by simp [hruns])]
    rfl

end Sys2Proof.Proofs

/-! # Repair of rows and the Tip-in record (R105 to R111) -/

namespace Sys2Proof.Proofs

open Sys2Proof Sys2Proof.Machine Sys2Proof.Laws

variable {s t u : State}

theorem forAll_cons {α : Type} (a : α) (l : List α) (f : State → α → State) :
    s.forAll (a :: l) f = (f s a).forAll l f := rfl

/-- A write after writes of registers changes no more than registers. -/
theorem regs_wr {f : Fld} {v : Nat} (h : t = { s with flds := t.flds }) :
    t.wr f v = { s with flds := (t.wr f v).flds } := by
  rw [h]
  rfl

theorem regs_put {f : Fld} (h : t = { s with flds := t.flds }) : t.put f = { s with flds := (t.put f).flds } := regs_wr h

theorem Writes.withRepair {l : List Fld} (h : Writes l s t) (r : Repair) : Writes l s { t with repair := r } := h.flds rfl

/-! ## The table through a report -/

theorem repair_of_logged (h : Logged s t) : t.repair = s.repair := by rw [h.frame]

theorem lines_of_logged (h : Logged s t) : t.lines = s.lines := by rw [h.frame]

theorem crypto_of_logged (h : Logged s t) : t.crypto = s.crypto := by rw [h.frame]

theorem tip_of_table (h : t.repair.table = s.repair.table) (i : Nat) : t.tip i = s.tip i :=
  congrArg (fun m => Sparse.get (fun _ => TipEntry.none) m i) h

/-! ## The self-check (R105) -/

/-- A slot that does not read back is marked bad. -/
def markedBad (s : State) (i : Nat) : State := s.setTip i { s.tip i with bad := true, pending := true }

/-- A slot that does not read back is counted and reported. -/
def badReported (s : State) (i : Nat) : State :=
  (((markedBad s i).bump SCRUB_SELFCHK_FAIL.count).cause 0x1E 4).err 0x1E 0x0304 i

theorem slotFails_eq {i : Nat} (hvalid : (s.tip i).valid = false) (hbad : (s.tip i).bad = false) :
    s.slotFails i = (badReported s i).appendRecord := by
  simp only [State.slotFails, badReported, markedBad, hvalid, hbad, Bool.or_self, Bool.false_eq_true, if_false]

theorem logged_badReported (i : Nat) : Logged (markedBad s i) (badReported s i) :=
  (((Logged.refl (markedBad s i)).bump SCRUB_SELFCHK_FAIL.count).cause 0x1E 4).err 0x1E 0x0304 i

theorem rd_withRepair (r : Repair) (f : Fld) : ({ s with repair := r } : State).rd f = s.rd f := rfl

theorem rd_appendRecord {f : Fld} (hf : apart f TIPIN_RECORD_STAT.pending = true) : s.appendRecord.rd f = s.rd f := by
  rw [State.appendRecord, rd_withRepair, State.put_eq, rd_wr_apart hf]

/-- The self-check reads a field as before, but for the count of failed checks and what an error of its page writes. -/
theorem rd_slotFails {i : Nat} {f : Fld} (hvalid : (s.tip i).valid = false) (hbad : (s.tip i).bad = false)
    (hpending : apart f TIPIN_RECORD_STAT.pending = true) (herr : clear (errFields 0x1E) f = true)
    (hcause : clear (causeFields 0x1E) f = true) :
    (s.slotFails i).rd f = (s.bump SCRUB_SELFCHK_FAIL.count).rd f := by
  have hmark : ((markedBad s i).bump SCRUB_SELFCHK_FAIL.count).rd f = (s.bump SCRUB_SELFCHK_FAIL.count).rd f := rfl
  rw [slotFails_eq hvalid hbad, rd_appendRecord hpending, badReported, rd_err herr, rd_cause hcause, hmark]

theorem selfCheck_marks {pc : PcNo} {b : BankNo} {k : Fin 32} (hpc : s.pcPresent pc = true)
    (hen : s.on SCRUB_CTL.scrub_en = true) (hsafe : s.safe = false) (hvalid : (s.tip (tipIndex pc b k)).valid = false)
    (hbad : (s.tip (tipIndex pc b k)).bad = false)
    (hunused : ((List.range 32).any fun b => decide (s.freeSlots pc b ≠ [])) = true) (htest : s.testFails pc [] = false) :
    exec (.scrubSelfCheck pc [(b, k)] false []) s = .next (s.slotFails (tipIndex pc b k)) := by
  have hrd : ∀ {f : Fld}, apart f TIPIN_RECORD_STAT.pending = true → clear (errFields 0x1E) f = true →
      clear (causeFields 0x1E) f = true → apart f SCRUB_SELFCHK_FAIL.count = true →
      (s.slotFails (tipIndex pc b k)).rd f = s.rd f := fun h₁ h₂ h₃ h₄ =>
    (rd_slotFails hvalid hbad h₁ h₂ h₃).trans (rd_wr_apart h₄ _)
  have htest' : (s.slotFails (tipIndex pc b k)).testFails pc [] = false := by
    rw [← htest, State.testFails, State.testFails, State.erasedLanes, State.erasedLanes, hrd (f := PC_ECC_CTL.mode.pc pc) (by rfl) (by rfl) (by rfl) (by rfl),
      hrd (f := PC_ECC_STAT.erased.pc pc) (by rfl) (by rfl) (by rfl) (by rfl),
      hrd (f := PC_ECC_STAT.lane0.pc pc) (by rfl) (by rfl) (by rfl) (by rfl),
      hrd (f := PC_ECC_STAT.lane1.pc pc) (by rfl) (by rfl) (by rfl) (by rfl)]
  show Machine.execScrubSelfCheck pc [(b, k)] false [] s = _
  rw [Machine.execScrubSelfCheck, if_neg (by simp [hpc, hen, hsafe])]
  have hloop : (s.forAll [(b, k)] fun s e => s.slotFails (tipIndex pc e.1 e.2)) = s.slotFails (tipIndex pc b k) := rfl
  simp only [hloop, hunused, Bool.false_eq_true, false_and, if_false, Bool.not_true, htest']

/-! ## Repairs (R107, R108) -/

/-- The slot that a redirection takes is a free one. -/
theorem redirect_takes {pc bank row : Nat} {free : List Nat} (hfree : free ≠ []) :
    ∃ k ∈ free, (s.redirect pc bank row free).tip (tipIndex pc bank k) =
      { valid := true, field := true, bad := false, pending := true, row := row } := by
  have hlt : Config.pick s.free free.length % free.length < free.length :=
    Nat.mod_lt _ (List.length_pos_iff.2 hfree)
  refine ⟨free.getD (Config.pick s.free free.length % free.length) 0, ?_, State.tip_setTip _ _ _⟩
  rw [List.getD_eq_getElem _ _ hlt]
  exact List.getElem_mem hlt

theorem logged_dramEvent (page code pc bank row : Nat) : Logged s (s.dramEvent page code pc bank row) := by
  unfold State.dramEvent
  exact logged_report _ _

/-- A row that a repair has redirected leaves the Row Watch. -/
def unwatched (s : State) (pc bank row : Nat) : State :=
  s.setPc pc { s.pc pc with watch := (s.pc pc).watch.filter fun w => decide (w.bank ≠ bank ∨ w.row ≠ row) }

/-- The end of a repair once its row is redirected is told. -/
def repairTold (s : State) (pc bank row : Nat) : State :=
  (((unwatched s pc bank row).cause 0x1F 1).cause (0x40 + pc) 9).dramEvent 0x1F 0 pc bank row

/-- What a repair does once its row is redirected leaves the table. -/
theorem table_repairEnds {pc bank row : Nat} {r : Nat × Nat × Nat} :
    ((repairTold s pc bank row).appendRecord.requestDone r).repair.table = s.repair.table := by
  have htold : Logged (unwatched s pc bank row) (repairTold s pc bank row) :=
    (((Logged.refl (unwatched s pc bank row)).cause 0x1F 1).cause (0x40 + pc) 9).trans (logged_dramEvent _ _ _ _ _)
  have htable : (repairTold s pc bank row).repair.table = s.repair.table :=
    (congrArg Repair.table (repair_of_logged htold)).trans rfl
  unfold State.requestDone
  split
  · exact (congrArg Repair.table (repair_of_logged
      ((((Logged.refl _).clr TIPIN_REQ_STAT.busy).put TIPIN_REQ_STAT.done).cause 0x1F 6))).trans htable
  · exact htable

/-- The state of a repair as it redirects its row. -/
def rowCopiedOff (s : State) (pc bank row : Nat) : State :=
  ((s.notDue (pc, bank, row)).copyRow pc bank row [] true 3 0x11).notDue (pc, bank, row)

theorem rowRepair_redirects {pc : PcNo} {bank : BankNo} {row : Fin 32768}
    (hdue : (pc.val, bank.val, row.val) ∈ s.repair.due) (hcopied : s.rowCopied pc bank row = false)
    (hfree : s.freeSlots pc bank ≠ []) (hreloads : s.reloads pc bank = false) :
    exec (.rowRepair pc bank row ⟨[], true⟩) s = .next ((repairTold ((rowCopiedOff s pc bank row).redirect pc bank row
      (s.freeSlots pc bank)) pc bank row).appendRecord.requestDone (pc.val, bank.val, row.val)) := by
  have hdue' : (!s.repair.due.contains (pc.val, bank.val, row.val) || s.reloads pc bank) = false := by
    simp [hdue, hreloads]
  have hcopied' : ¬((s.notDue (pc.val, bank.val, row.val)).rowCopied pc bank row = true) := by
    have h : (s.notDue (pc.val, bank.val, row.val)).rowCopied pc bank row = s.rowCopied pc bank row := rfl
    simp [h, hcopied]
  have hfree' : ¬((s.notDue (pc.val, bank.val, row.val)).freeSlots pc bank = []) := hfree
  show Machine.execRowRepair pc bank row ⟨[], true⟩ s = _
  unfold Machine.execRowRepair
  simp only [hdue', Bool.false_eq_true, if_false, if_neg hcopied', if_neg hfree']
  rfl

/-! ## The record and the sweep of the table (R109, R110) -/

/-- The table once a record of it is committed: what the record holds is no longer pending. -/
def tableCommitted (s : State) (r : TipRecord) : Sparse TipEntry :=
  Sparse.mapWith (fun _ => TipEntry.none) s.repair.table fun k e =>
    if e.pending ∧ Sparse.get (fun _ => TipEntry.none) r.entries k = { e with pending := false } then
      { e with pending := false }
    else e

/-- A record is committed where persistence is fused. -/
def recordKept (s : State) (r : TipRecord) : State :=
  ({ s with
    repair := { s.repair with append := none, table := tableCommitted s r, sramRecord := some r }
    folio := { s.folio with tipRecord := some r, tipPrev := s.folio.tipRecord } } : State).appendSys recTipin

/-- The number of a record and the end of its append stand in the registers. -/
def recordTold (s : State) (seq : Nat) (again : Bool) : State :=
  ((s.wr64 TIPIN_RECORD_SEQ_LO.seq TIPIN_RECORD_SEQ_HI.seq seq).wrb TIPIN_RECORD_STAT.pending again).cause 0x1F 7

theorem logged_recordTold (seq : Nat) (again : Bool) : Logged s (recordTold s seq again) :=
  ((((Logged.refl s).wr TIPIN_RECORD_SEQ_LO.seq (seq % 2 ^ 32)).wr TIPIN_RECORD_SEQ_HI.seq (seq / 2 ^ 32)).wr
    TIPIN_RECORD_STAT.pending (if again then 1 else 0)).cause 0x1F 7

theorem recordTold_seq (seq : Nat) (again : Bool) : (recordTold s seq again).rd TIPIN_RECORD_SEQ_LO.seq = seq % 2 ^ 32 := by
  rw [recordTold, rd_cause (by rfl), State.wrb, rd_wr_apart (by rfl), State.wr64, rd_wr_apart (by rfl)]
  exact rd_wr_lt (Nat.mod_lt _ (by decide))

theorem recordTold_pending (seq : Nat) (again : Bool) :
    (recordTold s seq again).rd TIPIN_RECORD_STAT.pending = if again then 1 else 0 := by
  rw [recordTold, rd_cause (by rfl), State.wrb]
  exact rd_wr_lt (by cases again <;> decide)

theorem tipinRecordCommit_fused {r : TipRecord} (happend : s.repair.append = some r) (hfused : s.persistFused = true) :
    exec (.tipinRecordCommit true) s = .next (recordTold (recordKept s r) r.seq s.repair.appendAgain) := by
  have hfused' : ∀ (p : Repair) (f : Folio), ({ s with repair := p, folio := f } : State).persistFused = true :=
    fun _ _ => hfused
  show Machine.execTipinRecordCommit true s = _
  simp only [Machine.execTipinRecordCommit, happend, hfused, hfused', Bool.not_true, Bool.false_eq_true, if_false, if_true]
  rfl

/-- One entry of a sweep is reloaded. -/
def reloadNoted (s : State) (e : Nat) : State :=
  { s with repair := { s.repair with
    reloading := if s.repair.reloading.contains e then s.repair.reloading else s.repair.reloading ++ [e] } }

theorem keepsData_reloadNoted (s : State) (e : Nat) : KeepsData s (reloadNoted s e) := ⟨rfl, rfl, rfl, rfl⟩

/-- A sweep notes its entries for a reload, and keeps the table and the data. -/
structure Swept (u : List (Fin 65536)) (s t : State) : Prop where
  noted : ∀ e ∈ u, e.val ∈ t.repair.reloading
  kept : s.repair.reloading ⊆ t.repair.reloading
  table : t.repair.table = s.repair.table
  data : KeepsData s t

theorem Swept.cons {e : Fin 65536} {l : List (Fin 65536)} (hlogged : Logged (reloadNoted s e) t) (h : Swept l t u) :
    Swept (e :: l) s u := by
  obtain ⟨hnoted, hkept, htable, hdata⟩ := h
  rw [repair_of_logged hlogged] at hkept htable
  have hin : e.val ∈ (reloadNoted s e).repair.reloading := by
    simp only [reloadNoted]
    split <;> simp_all
  have hsub : s.repair.reloading ⊆ (reloadNoted s e).repair.reloading := by
    simp only [reloadNoted]
    split
    · exact fun _ h => h
    · exact List.subset_append_left _ _
  refine ⟨fun x hx => ?_, fun x hx => hkept (hsub hx), htable,
    keepsData_trans (keepsData_reloadNoted s e) (keepsData_trans hlogged.keepsData hdata)⟩
  obtain rfl | hx := List.mem_cons.1 hx
  · exact hkept hin
  · exact hnoted x hx

theorem swept_forAll (l : List (Fin 65536)) (s : State) :
    Swept l s (s.forAll l fun s e => (reloadNoted s e).err 0x1F 0x0403 e) := by
  induction l generalizing s with
  | nil => exact ⟨fun _ h => absurd h List.not_mem_nil, fun _ h => h, rfl, KeepsData.refl s⟩
  | cons e l ih =>
    rw [forAll_cons]
    exact Swept.cons (logged_err 0x1F 0x0403 e) (ih _)

/-! ## O14 -/

/-- An append keeps what it does not ask for. -/
theorem appendRecord_keeps (s : State) : s.appendRecord.repair.table = s.repair.table ∧ s.appendRecord.lines = s.lines ∧
    s.appendRecord.crypto = s.crypto := by
  rw [State.appendRecord]
  generalize hput : s.put TIPIN_RECORD_STAT.pending = t
  have hframe : t = { s with flds := t.flds } := hput ▸ regs_put rfl
  rw [hframe]
  exact ⟨rfl, rfl, rfl⟩

theorem data_slotFails {i : Nat} (hvalid : (s.tip i).valid = false) (hbad : (s.tip i).bad = false) :
    ((s.slotFails i).tip i).bad = true ∧ (s.slotFails i).lines = s.lines ∧ (s.slotFails i).crypto = s.crypto := by
  have hl := logged_badReported (s := s) i
  obtain ⟨htable, hlines, hcrypto⟩ := appendRecord_keeps (badReported s i)
  rw [slotFails_eq hvalid hbad, tip_of_table htable, hlines, hcrypto,
    tip_of_table (congrArg Repair.table (repair_of_logged hl)), lines_of_logged hl, crypto_of_logged hl, markedBad,
    State.tip_setTip]
  exact ⟨rfl, rfl, rfl⟩

theorem repairRefusal_lt {reason : Nat} (h : s.repairRefusal = some reason) : reason < 16 := by
  simp only [State.repairRefusal] at h
  split_ifs at h <;> simp_all <;> omega

/-- A request that is taken makes its row due. -/
theorem requestRepair_taken (h : s.repairRefusal = none) :
    s.requestRepair.rd TIPIN_REQ_STAT.busy = 1 ∧ s.requestRow ∈ s.requestRepair.repair.due ∧
      SameRegs s s.requestRepair [TIPIN_REQ_STAT.busy] ∧
      s.requestRepair = { s with flds := s.requestRepair.flds, repair := s.requestRepair.repair } := by
  simp only [State.requestRepair, h]
  have hw : Writes [TIPIN_REQ_STAT.busy] s (s.put TIPIN_REQ_STAT.busy) := (Writes.refl s).wr (.head _)
  refine ⟨?_, List.mem_append_right _ (List.mem_singleton.2 rfl), (hw.withRepair _).regs, ?_⟩
  · rw [rd_withRepair]
    exact rd_put_self
  · generalize hput : s.put TIPIN_REQ_STAT.busy = t
    have hframe : t = { s with flds := t.flds } := hput ▸ regs_put rfl
    rw [hframe]

theorem requestRepair_refused {reason : Nat} (h : s.repairRefusal = some reason) :
    s.requestRepair.rd TIPIN_REQ_STAT.refused = 1 ∧ s.requestRepair.rd TIPIN_REQ_STAT.reason = reason ∧
      SameRegs s s.requestRepair [TIPIN_REQ_STAT.refused, TIPIN_REQ_STAT.reason] ∧
      s.requestRepair = { s with flds := s.requestRepair.flds } := by
  simp only [State.requestRepair, h]
  refine ⟨(rd_wr_apart (by rfl) _).trans rd_put_self, rd_wr_lt (repairRefusal_lt h),
    (((Writes.refl s).wr (.head _)).wr (.tail _ (.head _))).regs, regs_wr (regs_put rfl)⟩

/-- An entry that has been reloaded. -/
def entryReloaded (s : State) (e : Nat) : State :=
  { s.setTip e (s.tipSource e) with repair := { (s.setTip e (s.tipSource e)).repair with
    reloading := s.repair.reloading.filter fun x => decide (x ≠ e) } }

/-- Settles O14: slots are checked and repaired, requests are judged, the record is appended and committed, and entries are
reloaded. -/
theorem rowsAreRepairedAndRecorded : Obligations.RowsAreRepairedAndRecorded := by
  unfold Obligations.RowsAreRepairedAndRecorded
  refine ⟨fun pc b k s hpc hen hsafe hvalid hbad hunused htest => ?_, fun pc bank row s hdue hcopied hfree hreloads => ?_,
    fun who s htakes hnone => ?_, fun who reason s htakes hreason => ?_, fun s happend hagain hloaded => ?_,
    fun r s happend hfused => ?_, fun c l s => ?_, fun e s hreload => ?_⟩
  · obtain ⟨htip, hlines, hcrypto⟩ := data_slotFails hvalid hbad
    refine ⟨_, selfCheck_marks hpc hen hsafe hvalid hbad hunused htest, htip, ?_, hlines, hcrypto⟩
    exact (rd_slotFails hvalid hbad (by rfl) (by rfl) (by rfl)).trans (rd_bump _)
  · refine ⟨_, rowRepair_redirects hdue hcopied hfree hreloads, ?_⟩
    obtain ⟨k, hk, htip⟩ := redirect_takes (s := rowCopiedOff s pc bank row) (pc := pc) (row := row) hfree
    refine ⟨k, hk, ?_⟩
    rw [tip_of_table table_repairEnds, htip]
    exact ⟨rfl, rfl, rfl⟩
  · exact ⟨_, congrArg Host.Outcome.next (command_takes htakes _ _), requestRepair_taken hnone⟩
  · exact ⟨_, congrArg Host.Outcome.next (command_takes htakes _ _), requestRepair_refused hreason⟩
  · refine ⟨{ s with
      repair := { s.repair with append := some s.tipRecordNow, appendAgain := false }
      folio := { s.folio with changed := true } }, ?_, rfl, rfl, ((Writes.refl s).flds rfl).regs, rfl⟩
    show Machine.execTipinRecordAppend s = _
    rw [Machine.execTipinRecordAppend, if_neg (by simp [happend, hagain, hloaded])]
  · have hl := logged_recordTold (s := recordKept s r) r.seq s.repair.appendAgain
    have hfolio : (recordTold (recordKept s r) r.seq s.repair.appendAgain).folio = (recordKept s r).folio :=
      hl.keepsData.2.2.1
    have hrepair := repair_of_logged hl
    refine ⟨_, tipinRecordCommit_fused happend hfused, ?_, ?_, ?_, recordTold_seq _ _, recordTold_pending _ _,
      (lines_of_logged hl).trans rfl, (crypto_of_logged hl).trans rfl⟩
    · rw [hfolio]
      rfl
    · rw [hfolio]
      rfl
    · rw [hrepair]
      rfl
  · obtain ⟨hnoted, -, htable, hdata⟩ := swept_forAll l s
    exact ⟨_, rfl, hnoted, htable, hdata⟩
  · refine ⟨entryReloaded s e, ?_, ?_, State.tip_setTip _ _ _, ((Writes.refl s).flds rfl).regs, rfl⟩
    · show Machine.execTipinEntryReloaded e s = _
      rw [Machine.execTipinEntryReloaded, if_neg (by simpa using hreload)]
      rfl
    · simp [entryReloaded]

end Sys2Proof.Proofs

/-! # What the clock, the rows and the self-refresh of a pseudo-channel touch

`Runs s t` says once what an operation of a DRAM controller can reach: the fields of a fixed list of places, whatever their
page, and the components that a controller, its layer, its calibration and an error have. -/

namespace Sys2Proof.Proofs

open Sys2Proof Sys2Proof.Machine Sys2Proof.Laws

variable {s t u : State}

/-! ## The fields of a walk -/

/-- The fields that a controller writes as it runs, on page 0: the relation looks at their places alone. -/
def runFields : List Fld :=
  tbDomainFields ++ statusFields 0 ++ captureFields 0 ++ causeFields 0 ++ [PWR_DOM_STAT.state, PWR_DOM_STAT.clamped, PWR_DOM_STAT.last_outcome, PWR_DOM_WAKES.count,
    PC_SR_STAT.in_sr, PC_SR_STAT.entering, PC_SR_STAT.clk_gated, PC_SR_STAT.last_outcome, PC_SR_ABORTS.count,
    PC_SR_ENTRIES.count, PC_SR_WAKE_MAX.ns, PC_REF_CNT.count, PC_CAL_STAT.state, PC_CAL_STAT.pending, PHY_CAL_STAT.state,
    PHY_CAL_STAT.pending]

/-- The fields of the GAUGE page that follow what a controller does. -/
def gaugeRunFields : List Fld :=
  [GAUGE_RAW.bw, GAUGE_PCAP.bw, GAUGE_DELIV.bw, GAUGE_GUAR_SUM.bw, GAUGE_STAT.oversub, GAUGE_OVERSUB_CNT.count]

/-- The fields that are known by their page as well: those of the GAUGE page, and those of ERR_N. -/
def exactRunFields : List Fld := gaugeRunFields ++ errPinFields

/-- Two fields stand at different places of their pages. -/
def offPlace (f g : Fld) : Bool :=
  atNumeral f.off fun o => atNumeral f.lsb fun l => atNumeral g.off fun o' => atNumeral g.lsb fun l' =>
    !Nat.beq ((o * 32 + l) % 131072) ((o' * 32 + l') % 131072)

/-- A field stands at none of the places that a walk writes, and is none of those known by their page. -/
def spared (f : Fld) : Bool := runFields.all (offPlace f) && exactRunFields.all (apart f)

/-- A field stands at one of the places that a walk writes. -/
def placed (f : Fld) : Bool := runFields.any fun g => !offPlace f g

theorem offPlace_iff (f g : Fld) : offPlace f g = true ↔ f.slot % 131072 ≠ g.slot % 131072 := by
  have hbeq : ∀ a b : Nat, Nat.beq a b = false ↔ a ≠ b := fun a b => by simp [← Bool.not_eq_true]
  simp only [offPlace, atNumeral_eq, Bool.not_eq_true', hbeq]
  rfl

theorem place_of_key {f g : Fld} (h : f.key = g.key) : f.slot % 131072 = g.slot % 131072 := by
  simp only [Fld.key] at h
  simp only [Fld.slot]
  omega

/-- A spared field is none that stands at a place of a walk. -/
theorem key_ne_of_spared {f g : Fld} (hf : spared f = true) (hg : placed g = true) : g.key ≠ f.key := by
  intro hk
  obtain ⟨hplaces, -⟩ := Bool.and_eq_true_iff.1 hf
  obtain ⟨r, hr, hgr⟩ := List.any_eq_true.1 hg
  rw [Bool.not_eq_true', ← Bool.not_eq_true, offPlace_iff, not_not] at hgr
  exact (offPlace_iff f r).1 (List.all_eq_true.1 hplaces r hr) ((place_of_key hk).symm.trans hgr)

/-- A spared field is none of those known by their page. -/
theorem key_ne_of_exact {f g : Fld} (hf : spared f = true) (hg : g ∈ exactRunFields) : g.key ≠ f.key := by
  obtain ⟨-, hexact⟩ := Bool.and_eq_true_iff.1 hf
  exact (key_ne_of_apart (List.all_eq_true.1 hexact g hg)).symm

/-- A spared field is none of the GAUGE page's that follow. -/
theorem key_ne_of_gauge {f g : Fld} (hf : spared f = true) (hg : g ∈ gaugeRunFields) : g.key ≠ f.key :=
  key_ne_of_exact hf (List.mem_append_left _ hg)

/-- A field is one that a walk may write. -/
def reached (f : Fld) : Bool := placed f || decide (f ∈ exactRunFields)

theorem key_ne_of_reached {f g : Fld} (hf : spared f = true) (hg : reached g = true) : g.key ≠ f.key := by
  rcases Bool.or_eq_true_iff.1 hg with hplace | hexact
  · exact key_ne_of_spared hf hplace
  · exact key_ne_of_exact hf (of_decide_eq_true hexact)

/-! ## The relation -/

/-- A controller has run: only fields at the places of a walk have changed, and the components of controllers, layers,
calibration, time, bandwidth and reports. -/
structure Runs (s t : State) : Prop where
  regs : ∀ f : Fld, spared f = true → t.rd f = s.rd f
  frame : t = { s with flds := t.flds, out := t.out, pages := t.pages, ports := t.ports, lds := t.lds,
                       domains := t.domains, pin := t.pin, now := t.now, clk := t.clk, pcs := t.pcs, layers := t.layers,
                       cals := t.cals, therm := t.therm, gauge := t.gauge }
  calls : Uncalled s t

theorem Runs.refl (s : State) : Runs s s := ⟨fun _ _ => rfl, rfl, .refl s⟩

theorem Runs.trans (h : Runs s t) (k : Runs t u) : Runs s u :=
  ⟨fun f hf => (k.regs f hf).trans (h.regs f hf), by rw [k.frame, h.frame], h.calls.trans k.calls⟩

theorem Runs.rd (h : Runs s t) {f : Fld} (hf : spared f = true := by rfl) : t.rd f = s.rd f := h.regs f hf

theorem Runs.on (h : Runs s t) {f : Fld} (hf : spared f = true := by rfl) : t.on f = s.on f := by
  rw [State.on, State.on, h.rd hf]

theorem Runs.keepsData (h : Runs s t) : KeepsData s t := by
  rw [h.frame]
  exact ⟨rfl, rfl, rfl, rfl⟩

theorem Runs.kerf (h : Runs s t) : t.kerf = s.kerf := by rw [h.frame]

theorem Runs.ite {c : Prop} [Decidable c] {a b : State} (ha : Runs s a) (hb : Runs s b) : Runs s (if c then a else b) := by
  split
  · exact ha
  · exact hb

theorem Runs.forAll {α : Type} {f : State → α → State} {as : List α} (h : Runs s t)
    (hf : ∀ u a, Runs s u → Runs s (f u a)) : Runs s (t.forAll as f) :=
  List.foldlRecOn (motive := Runs s) as f h fun u hu a _ => hf u a hu

/-- What only writes fields at the places of a walk, and tells of it. -/
theorem Runs.logged {l : List Fld} (h : Runs s t) (hw : Writes l t u) (hl : Logged t u)
    (hc : Uncalled t u) (hp : l.all reached = true := by rfl) : Runs s u := by
  refine ⟨fun f hf => (hw.regs f fun hm => ?_).trans (h.regs f hf), by rw [hl.frame, h.frame], h.calls.trans hc⟩
  obtain ⟨g, hg, hk⟩ := List.mem_map.1 hm
  exact key_ne_of_reached hf (List.all_eq_true.1 hp g hg) hk

theorem Runs.wr {f : Fld} {v : Nat} (h : Runs s t) (hf : placed f = true := by rfl) : Runs s (t.wr f v) :=
  ⟨fun _ hg => (State.rd_wr_ne _ (key_ne_of_spared hg hf).symm v).trans (h.regs _ hg),
    congrArg (fun u => u.wr f v) h.frame, ⟨h.calls.grown, h.calls.ports⟩⟩

theorem Runs.cause {page bit : Nat} (h : Runs s t) : Runs s (t.cause page bit) :=
  h.logged (alerted_cause page bit).writes (logged_cause page bit) (alerted_cause page bit).out

theorem Runs.errReq {page code dpa access master : Nat} (h : Runs s t) : Runs s (t.errReq page code dpa access master) :=
  h.logged ((Writes.refl t).errReq (List.Subset.refl (errFields page))) (logged_errReq page code dpa access master)
    ((Uncalled.refl t).errReq _ _ _ _ _)

theorem Runs.err {page code addr : Nat} (h : Runs s t) : Runs s (t.err page code addr) :=
  h.logged ((Writes.refl t).err (List.Subset.refl (errFields page))) (logged_err page code addr)
    ((Uncalled.refl t).err _ _ _)

theorem Runs.setPc {p : Nat} {c : Pc} (h : Runs s t) : Runs s (t.setPc p c) :=
  ⟨h.regs, congrArg (fun u => u.setPc p c) h.frame, ⟨h.calls.grown, h.calls.ports⟩⟩

theorem Runs.setLayer {n : Nat} {v : Layer} (h : Runs s t) : Runs s (t.setLayer n v) :=
  ⟨h.regs, congrArg (fun u => u.setLayer n v) h.frame, ⟨h.calls.grown, h.calls.ports⟩⟩

theorem Runs.setHeat {n : Nat} {v : LayerTherm} (h : Runs s t) : Runs s (t.setHeat n v) :=
  ⟨h.regs, congrArg (fun u => u.setHeat n v) h.frame, ⟨h.calls.grown, h.calls.ports⟩⟩

theorem Runs.setCal {n : Nat} {v : CalState} (h : Runs s t) : Runs s (t.setCal n v) :=
  ⟨h.regs, congrArg (fun u => u.setCal n v) h.frame, ⟨h.calls.grown, h.calls.ports⟩⟩

theorem Runs.gauge {g : GaugeState} (h : Runs s t) : Runs s { t with gauge := g } :=
  ⟨h.regs, congrArg (fun u : State => { u with gauge := g }) h.frame, ⟨h.calls.grown, h.calls.ports⟩⟩

theorem Runs.advance {dt : Nat} (h : Runs s t) : Runs s (t.advance dt) :=
  ⟨h.regs, by rw [State.advance, h.frame], ⟨h.calls.grown, h.calls.ports⟩⟩

theorem Runs.advanceTo {at_ : Nat} (h : Runs s t) : Runs s (t.advanceTo at_) := h.advance

/-! ## The operations -/

theorem Runs.put {f : Fld} (h : Runs s t) (hf : placed f = true := by rfl) : Runs s (t.put f) := h.wr hf
theorem Runs.clr {f : Fld} (h : Runs s t) (hf : placed f = true := by rfl) : Runs s (t.clr f) := h.wr hf
theorem Runs.bump {f : Fld} (h : Runs s t) (hf : placed f = true := by rfl) : Runs s (t.bump f) := h.wr hf

theorem Runs.longest {f : Fld} {n : Nat} (h : Runs s t) (hf : placed f = true := by rfl) : Runs s (t.longest f n) :=
  .ite (h.wr hf) h

theorem Runs.setDomain {d : Nat} {v : DomainState} (h : Runs s t) : Runs s (t.setDomain d v) :=
  ⟨h.regs, congrArg (fun u => u.setDomain d v) h.frame, ⟨h.calls.grown, h.calls.ports⟩⟩

theorem Runs.startWake {d : Nat} (h : Runs s t) : Runs s (t.startWake d) := (h.setDomain.wr).bump

theorem Runs.wakeTb (h : Runs s t) : Runs s t.wakeTb := .ite h.startWake h

theorem Runs.wakeDomain {d : Nat} (h : Runs s t) : Runs s (t.wakeDomain d) := .ite (h.startWake.put).wakeTb h

theorem Runs.setDomainPages {d st : Nat} (h : Runs s t) : Runs s (t.setDomainPages d st) :=
  h.forAll fun _ _ k => .ite k.wr k

theorem Runs.readyDomain {d : Nat} (h : Runs s t) : Runs s (t.readyDomain d) :=
  ((h.wr).clr).setDomain.setDomainPages

theorem Runs.runDomain {d : Nat} (h : Runs s t) : Runs s (t.runDomain d) := .ite h h.wakeDomain.readyDomain

theorem Runs.wrGauge {f : Fld} {v : Nat} (h : Runs s t) (hf : f ∈ gaugeRunFields) : Runs s (t.wr f v) :=
  ⟨fun _ hg => (State.rd_wr_ne _ (key_ne_of_gauge hg hf).symm v).trans (h.regs _ hg),
    congrArg (fun u => u.wr f v) h.frame, ⟨h.calls.grown, h.calls.ports⟩⟩

theorem Runs.fixGauge (h : Runs s t) : Runs s t.fixGauge := by
  unfold State.fixGauge
  extract_lets t₁ t₂ t₃ t₄ _ t₅
  have hf : ∀ {n : Nat} {f : Fld}, gaugeRunFields[n]? = some f → f ∈ gaugeRunFields := fun h => List.mem_of_getElem? h
  have hwr : Runs s t₄ := (((h.wrGauge (hf (n := 0) rfl)).wrGauge (hf (n := 1) rfl)).wrGauge (hf (n := 2) rfl)).wrGauge
    (hf (n := 3) rfl)
  have hover : Runs s t₅ := hwr.gauge
  exact .ite (.ite hover ((hover.wrGauge (hf (n := 4) rfl)).wrGauge (hf (n := 5) rfl)).cause) hwr

theorem placed_calFld {f g : Fld} (hf : placed f = true) (hg : placed g = true) (u : Nat) :
    placed (calFld f g u) = true := by
  unfold calFld
  split
  · exact hf
  · exact hg

theorem Runs.setCalMode {u m : Nat} (h : Runs s t) : Runs s (t.setCalMode u m) := h.wr (placed_calFld rfl rfl u)

theorem Runs.beginRun {u : Nat} {command : Bool} (h : Runs s t) : Runs s (t.beginRun u command) :=
  .ite h (h.clr (placed_calFld rfl rfl u)).setCalMode.setCal

theorem Runs.stopRun {u : Nat} (h : Runs s t) : Runs s (t.stopRun u) := h.setCal.setCalMode

theorem Runs.fixCal {u : Nat} (h : Runs s t) : Runs s (t.fixCal u) :=
  .ite (.ite h h.stopRun.setCalMode) (.ite (.ite h.setCalMode.beginRun h.setCalMode) h)

theorem Runs.fixCalLayer {layer : Nat} (h : Runs s t) : Runs s (t.fixCalLayer layer) := h.forAll fun _ _ k => k.fixCal

/-! ### The clock of a layer -/

theorem Runs.runLfsr {pc : Nat} (h : Runs s t) : Runs s (t.runLfsr pc) := .ite h h.setPc
theorem Runs.runLfsrs {layer : Nat} (h : Runs s t) : Runs s (t.runLfsrs layer) := h.forAll fun _ _ k => k.runLfsr

theorem Runs.takeDivider {layer : Nat} (h : Runs s t) : Runs s (t.takeDivider layer) :=
  .ite h h.runLfsrs.setLayer.fixCalLayer.fixGauge

theorem Runs.gate {layer : Nat} (h : Runs s t) : Runs s (t.gate layer) := h.runLfsrs.forAll fun _ _ k => k.put

theorem Runs.ungate {layer : Nat} (h : Runs s t) : Runs s (t.ungate layer) :=
  .ite h (h.forAll fun _ _ k => k.setPc.clr).takeDivider

/-! ### Rows, refresh and self-refresh -/

theorem Runs.heatCount {layer a b r : Nat} (h : Runs s t) : Runs s (t.heatCount layer a b r) := h.setHeat

theorem Runs.sampleAt {pc bank row at_ : Nat} (h : Runs s t) : Runs s (t.sampleAt pc bank row at_) := .ite h h.setPc

theorem Runs.sample {pc bank row : Nat} (h : Runs s t) : Runs s (t.sample pc bank row) := h.runLfsr.sampleAt

theorem Runs.activateRow {pc bank row : Nat} (h : Runs s t) : Runs s (t.activateRow pc bank row) :=
  h.setPc.sample.heatCount

theorem Runs.refreshed {pc n : Nat} (h : Runs s t) : Runs s (t.refreshed pc n) := h.wr.heatCount

theorem Runs.startEntry {pc : Nat} (h : Runs s t) : Runs s (t.startEntry pc) := h.setPc.put

theorem Runs.abortSr {pc : Nat} (h : Runs s t) : Runs s (t.abortSr pc) := h.setPc.refreshed.clr.bump.clr

theorem Runs.issueSre {pc : Nat} (h : Runs s t) : Runs s (t.issueSre pc) := by
  unfold State.issueSre
  extract_lets _ t₁ t₂ _ _ t₃ t₄ t₅ t₆
  have hin : Runs s t₆ := h.advanceTo.refreshed.setPc.clr.put.bump.cause.fixCal
  exact .ite hin.gate hin

theorem Runs.rouse {pc : Nat} {who : Nat × Nat × Nat} (h : Runs s t) : Runs s (t.rouse pc who) :=
  .ite h.abortSr (.ite h.ungate.setPc.put h)

theorem Runs.exitSr {pc : Nat} (h : Runs s t) : Runs s (t.exitSr pc) := by
  unfold State.exitSr
  extract_lets _ _ _ _ _ _ _ _ _ t₁
  have hout : Runs s t₁ := h.runDomain.advanceTo.ungate.setPc.clr.cause.fixCal
  split
  · exact hout
  · exact .ite hout.longest.errReq hout.longest

theorem Runs.wakeForEngine {pc : Nat} {who : Nat × Nat × Nat} (h : Runs s t) : Runs s (t.wakeForEngine pc who) :=
  (Runs.ite h.rouse.exitSr h.rouse).setPc

theorem Runs.engineRow {loc access master : Nat} (h : Runs s t) : Runs s (t.engineRow loc access master) :=
  .ite h.wakeForEngine h.wakeForEngine.activateRow

theorem Runs.charge {pair n : Nat} (h : Runs s t) : Runs s (t.charge pair n) := h.gauge

end Sys2Proof.Proofs

/-! # Migrate and recovery (R112, R113, R116) -/

namespace Sys2Proof.Proofs

open Sys2Proof Sys2Proof.Machine Sys2Proof.Laws

variable {s t u : State}

/-! ## A quiet state -/

/-- What a map reads is its default or one of its entries. -/
theorem get_cases {α : Type} (dflt : Nat → α) (m : Sparse α) (k : Nat) :
    Sparse.get dflt m k = dflt k ∨ (k, Sparse.get dflt m k) ∈ m := by
  induction m with
  | nil => exact .inl rfl
  | cons e m ih =>
    obtain ⟨j, v⟩ := e
    rw [Sparse.get]
    split
    case isTrue h => exact .inr (h ▸ List.mem_cons_self)
    case isFalse => exact ih.imp_right (List.mem_cons_of_mem _)

theorem quiet_wr (f : Fld) (v : Nat) : quiet (s.wr f v) = quiet s := rfl

/-- No controller of a quiet state holds a request. -/
theorem pc_of_quiet (h : quiet s = true) (p : Nat) :
    (s.pc p).input = [] ∧ (s.pc p).queue = [] ∧ (s.pc p).bursts = [] ∧ (s.pc p).wbursts = [] := by
  rw [quiet, Bool.and_eq_true, List.all_eq_true] at h
  obtain hreset | hmem := get_cases (fun _ => Pc.reset) s.pcs p
  · rw [State.pc, hreset]
    exact ⟨rfl, rfl, rfl, rfl⟩
  · exact of_decide_eq_true (h.2 _ hmem)

/-- A walk that leaves a state as it is at each of its items leaves it. -/
theorem forAll_fixed {α : Type} {f : State → α → State} {l : List α} (h : ∀ a ∈ l, f s a = s) : s.forAll l f = s := by
  induction l with
  | nil => rfl
  | cons a l ih =>
    rw [forAll_cons, h a List.mem_cons_self]
    exact ih fun b hb => h b (List.mem_cons_of_mem a hb)

/-- Nothing of a quiet state waits to be done before an engine (R40). -/
theorem settle_quiet (h : quiet s = true) (pick : Nat → Bool) : s.settle pick = s := by
  refine forAll_fixed fun e _ => ?_
  obtain ⟨hinput, hqueue, hbursts, hwbursts⟩ := pc_of_quiet h e.1
  simp [hinput, hqueue, hbursts, hwbursts]

/-! ## Starts and rows -/

theorem line_of_nil (h : s.lines = []) (loc : Nat) : s.line loc = StoredLine.cleared := by rw [State.line, h]; rfl

/-- The engine's state as it takes a row of the Migrate. -/
def rowReached (s : State) (loc : Nat) : State := ((s.wr (KERF_STAT.state.ix 3) 2).engineRow loc 5 0x15).chargeEng 0x15 64

theorem runs_rowReached (loc : Nat) : Runs (s.wr (KERF_STAT.state.ix 3) 2) (rowReached s loc) :=
  (Runs.refl _).engineRow.charge

/-- A row in the cleared form needs no copy (R48, R113). -/
theorem copyRow_cleared (hquiet : quiet s = true) (hlines : s.lines = []) (pc bank row access master : Nat) :
    s.copyRow pc bank row [] true access master =
      (s.engineRow ((s.rowLocs pc bank row).headD 0) access master).chargeEng master 64 := by
  unfold State.copyRow
  simp only [settle_quiet hquiet]
  refine forAll_fixed fun i _ => if_pos ⟨line_of_nil ?_ _, rfl, trivial⟩
  exact (((Runs.refl s).engineRow).charge).keepsData.1.trans hlines

theorem unfinishedBy_none (h₀ : s.kerfActive 0 = false) (h₁ : s.kerfActive 1 = false) (q : Nat) :
    s.unfinishedBy q = none := by
  simp [State.unfinishedBy, h₀, h₁]

/-- A row of the Migrate is done. -/
def rowDone (s : State) : State :=
  (s.setEng 3 { s.eng 3 with cur := (s.eng 3).cur + 1 }).bump (KERF_QDONE.quires.ix 3)

theorem keepsData_rowDone (s : State) : KeepsData s (rowDone s) :=
  keepsData_trans (⟨rfl, rfl, rfl, rfl⟩ : KeepsData s (s.setEng 3 { s.eng 3 with cur := (s.eng 3).cur + 1 }))
    (logged_wr _ _).keepsData

theorem migrateRow_cleared (hmay : s.mayStroke 3 = true) (hcur : (s.eng 3).cur < 32768) (hquiet : quiet s = true)
    (h₀ : s.kerfActive 0 = false) (h₁ : s.kerfActive 1 = false) (hstrokes : s.dove.strokes = []) (hlines : s.lines = [])
    (hreloads : s.reloads s.migrating.1 s.migrating.2 = false) :
    ∃ loc, exec (.migrateRow [] true) s = .next (rowDone (rowReached s loc)) := by
  refine ⟨((s.wr (KERF_STAT.state.ix 3) 2).rowLocs s.migrating.1 s.migrating.2 (s.eng 3).cur).headD 0, ?_⟩
  show Machine.execMigrateRow [] true s = _
  rw [Machine.execMigrateRow, if_neg (by simp [hmay, hcur])]
  simp only [hreloads, unfinishedBy_none h₀ h₁, hstrokes, Bool.false_eq_true, if_false, Option.isSome_none, List.any_nil,
    or_self, decide_false]
  rw [if_neg (by simp), copyRow_cleared (s := s.wr (KERF_STAT.state.ix 3) 2) ((quiet_wr _ _).trans hquiet) ((State.wr_lines s _ _).trans hlines)]
  rfl

/-! ## The end of a Migrate -/

theorem rd_report {e : Err} {r : Report} {f : Fld} (hf : clear sendFields f = true) : (s.report e r).rd f = s.rd f :=
  ((Told.refl (ps := []) s).report (List.Subset.refl sendFields)).writes.rd hf

theorem rd_dramEvent {page code pc bank row : Nat} {f : Fld} (hf : clear sendFields f = true) :
    (s.dramEvent page code pc bank row).rd f = s.rd f := rd_report hf

/-- The table of a migrated bank is that of its spare bank. -/
def spareTable (s : State) (pc bank : Nat) : State :=
  s.forAll (List.range 32) fun s i =>
    s.setTip (tipIndex pc bank i) (Sparse.get (fun _ => TipEntry.none) s.repair.spareFactory (pc * 32 + i))

theorem repairs_trans (h : t = { s with repair := t.repair }) (k : u = { t with repair := u.repair }) :
    u = { s with repair := u.repair } := by rw [k, h]

theorem repairs_forAll {α : Type} {f : State → α → State} (hf : ∀ s a, f s a = { s with repair := (f s a).repair })
    (l : List α) (s : State) : s.forAll l f = { s with repair := (s.forAll l f).repair } := by
  induction l generalizing s with
  | nil => rfl
  | cons a l ih =>
    rw [forAll_cons]
    exact repairs_trans (hf s a) (ih _)

theorem spareTable_frame (s : State) (pc bank : Nat) :
    spareTable s pc bank = { s with repair := (spareTable s pc bank).repair } :=
  repairs_forAll (fun _ _ => rfl) _ s

/-- The spare bank serves the bank: its state and its table. -/
def spareServes (s : State) (pc bank : Nat) : State :=
  spareTable ((s.wr (KERF_STAT.state.ix 3) 4).wr (PC_REPAIR_STAT.spare_state.pc pc) 2) pc bank

/-- The repairs that waited for a migrated bank are due. -/
def repairsReady (s : State) (pc bank : Nat) : State :=
  { s with repair := { s.repair with
    waiting := s.repair.waiting.filter (fun t => !decide (t.1 = pc ∧ t.2.1 = bank))
    due := s.repair.due ++ s.repair.waiting.filter fun t => decide (t.1 = pc ∧ t.2.1 = bank) } }

theorem repairsReady_data (s : State) (pc bank : Nat) :
    (repairsReady s pc bank).lines = s.lines ∧ (repairsReady s pc bank).crypto = s.crypto := ⟨rfl, rfl⟩

/-- The end of a Migrate is told. -/
def migrateTold (s : State) (pc bank : Nat) : State :=
  ((s.cause 0x1F 3).cause 0x1A 4).dramEvent 0x1F 0 pc bank 0

theorem migrateDone_eq (hruns : s.kerfRuns 3 = true) (hcur : 32768 ≤ (s.eng 3).cur) :
    exec .migrateDone s = .next (migrateTold (repairsReady (spareServes s s.migrating.1 s.migrating.2) s.migrating.1
      s.migrating.2) s.migrating.1 s.migrating.2).appendRecord := by
  show Machine.execMigrateDone s = _
  rw [Machine.execMigrateDone, if_neg (by simp [hruns, hcur])]
  rfl

theorem logged_migrateTold (pc bank : Nat) : Logged s (migrateTold s pc bank) :=
  (((Logged.refl s).cause 0x1F 3).cause 0x1A 4).trans (logged_dramEvent _ _ _ _ _)

theorem rd_migrateTold {pc bank : Nat} {f : Fld} (h₁ : clear (causeFields 0x1F) f = true)
    (h₂ : clear (causeFields 0x1A) f = true) (h₃ : clear sendFields f = true) :
    (migrateTold s pc bank).rd f = s.rd f := by
  rw [migrateTold, rd_dramEvent h₃, rd_cause h₂, rd_cause h₁]

/-- A field reads after the end of a Migrate as it was written then. -/
theorem rd_migrateEnd {pc bank : Nat} {f : Fld} (h₀ : apart f TIPIN_RECORD_STAT.pending = true)
    (h₁ : clear (causeFields 0x1F) f = true) (h₂ : clear (causeFields 0x1A) f = true) (h₃ : clear sendFields f = true) :
    (migrateTold (repairsReady (spareServes s pc bank) pc bank) pc bank).appendRecord.rd f =
      ((s.wr (KERF_STAT.state.ix 3) 4).wr (PC_REPAIR_STAT.spare_state.pc pc) 2).rd f := by
  have hflds : (spareServes s pc bank).flds = ((s.wr (KERF_STAT.state.ix 3) 4).wr (PC_REPAIR_STAT.spare_state.pc pc) 2).flds := by
    rw [spareServes, spareTable_frame]
  rw [rd_appendRecord h₀, rd_migrateTold h₁ h₂ h₃, repairsReady, rd_withRepair, State.rd, State.rd, hflds]

theorem data_migrateEnd (pc bank : Nat) :
    (migrateTold (repairsReady (spareServes s pc bank) pc bank) pc bank).appendRecord.lines = s.lines ∧
      (migrateTold (repairsReady (spareServes s pc bank) pc bank) pc bank).appendRecord.crypto = s.crypto := by
  obtain ⟨-, hlines, hcrypto⟩ := appendRecord_keeps (migrateTold (repairsReady (spareServes s pc bank) pc bank) pc bank)
  have hl := logged_migrateTold (s := repairsReady (spareServes s pc bank) pc bank) pc bank
  have hframe := spareTable_frame ((s.wr (KERF_STAT.state.ix 3) 4).wr (PC_REPAIR_STAT.spare_state.pc pc) 2) pc bank
  rw [hlines, hcrypto, lines_of_logged hl, crypto_of_logged hl]
  have hlines' : (spareServes s pc bank).lines = s.lines := by rw [spareServes, hframe, State.wr_lines, State.wr_lines]
  have hcrypto' : (spareServes s pc bank).crypto = s.crypto := by rw [spareServes, hframe, State.wr_crypto, State.wr_crypto]
  exact ⟨(repairsReady_data _ _ _).1.trans hlines', (repairsReady_data _ _ _).2.trans hcrypto'⟩

/-! ## A recovery that is overdue -/

theorem logged_answerRead (r : Req) (d : Option LineData) : Logged s (s.answerRead r d) := by
  unfold State.answerRead
  split
  · exact (logged_setPort _ _).trans (logged_emit _)
  · unfold State.dropOld
    exact (logged_wr _ _).trans (logged_err _ _ _)
  · exact Logged.refl s

theorem logged_poisonEvent (r : Req) : Logged s (s.poisonEvent r) := logged_report _ _

/-- The reads of a recovery whose hold has ended by an instant are let go. -/
def letGo (r : Recovery) (t : State) (x : Recovery) : Recovery :=
  if x.loc = r.loc then { x with waiting := x.waiting.filter fun w => !decide (w.1 ≤ t.now) } else x

/-- A read whose hold has ended returns poison. -/
def readPoisoned (s : State) (q : Nat × Req) : State := (s.poisonEvent q.2).answerRead q.2 none

theorem logged_readPoisoned (s : State) (q : Nat × Req) : Logged s (readPoisoned s q) :=
  (logged_poisonEvent q.2).trans (logged_answerRead q.2 none)

/-- The waiting reads of a recovery whose hold has ended return poison. -/
def poisonReturned (s : State) (l : List (Nat × Req)) : State := s.forAll l readPoisoned

theorem logged_poisonReturned (l : List (Nat × Req)) : Logged s (poisonReturned s l) := logged_forAll logged_readPoisoned l

/-- The recoveries once those reads are let go. -/
def recoveriesLetGo (s : State) (r : Recovery) : State := { s with recoveries := s.recoveries.map (letGo r s) }

theorem recoveryWaitExpiry_letsGo {loc : Loc} {r : Recovery} {ends : Nat}
    (hfind : s.recoveries.find? (fun r => decide (r.loc = lineAddr loc.toNat)) = some r)
    (hends : (r.waiting.map (·.1)).min? = some ends) :
    exec (.recoveryWaitExpiry loc) s = .next (poisonReturned (recoveriesLetGo (s.advanceTo ends) r)
      (r.waiting.filter fun w => decide (w.1 ≤ (s.advanceTo ends).now))) := by
  show Machine.execRecoveryWaitExpiry loc s = _
  unfold Machine.execRecoveryWaitExpiry
  simp only [hfind, hends]
  rfl

/-! ## O15 -/

theorem now_advanceTo (n : Nat) : (s.advanceTo n).now = max s.now n := by
  show s.now + (n - s.now) = _
  omega

/-- The oldest retirement is taken and its Migrate starts. -/
def migrateStarted (s : State) (pc bank : Nat) (rest : List (Nat × Nat)) : State :=
  (({ s with repair := { s.repair with retire := rest } } : State).drop TIPIN_RETIRE_PEND.count 1).startMigrate pc bank

theorem kerfRegs_wr (h : t = { s with flds := t.flds, kerf := t.kerf }) (f : Fld) (v : Nat) :
    t.wr f v = { s with flds := (t.wr f v).flds, kerf := (t.wr f v).kerf } := congrArg (fun u => u.wr f v) h

theorem kerfRegs_setEng (h : t = { s with flds := t.flds, kerf := t.kerf }) (k : Nat) (v : KerfEng) :
    t.setEng k v = { s with flds := (t.setEng k v).flds, kerf := (t.setEng k v).kerf } :=
  congrArg (fun u => u.setEng k v) h

theorem startMigrate_frame (pc bank : Nat) :
    s.startMigrate pc bank = { s with flds := (s.startMigrate pc bank).flds, kerf := (s.startMigrate pc bank).kerf } := by
  unfold State.startMigrate
  exact kerfRegs_setEng (kerfRegs_wr (kerfRegs_wr (kerfRegs_wr rfl _ _) _ _) _ _) _ _

theorem startMigrate_starts (pc bank : Nat) : (s.startMigrate pc bank).rd (KERF_STAT.state.ix 3) = 2 ∧
    (s.startMigrate pc bank).eng 3 = KerfEng.reset := by
  refine ⟨?_, State.eng_setEng _ _ _⟩
  rw [State.startMigrate, State.setEng_rd, rd_wr_apart (by rfl), rd_wr_apart (by rfl)]
  exact rd_wr_lt (by decide : 2 < 2 ^ 3)

theorem writes_setEng {l : List Fld} (h : Writes l s t) (k : Nat) (v : KerfEng) : Writes l s (t.setEng k v) := h.flds rfl

theorem writes_startMigrate (pc bank : Nat) :
    Writes [KERF_STAT.state.ix 3, KERF_ARG.bank.ix 3, KERF_QDONE.quires.ix 3] s (s.startMigrate pc bank) :=
  writes_setEng ((((Writes.refl s).wr (.head _)).wr (.tail _ (.head _))).wr (.tail _ (.tail _ (.head _)))) _ _

theorem migrateStarted_frame (s : State) (pc bank : Nat) (rest : List (Nat × Nat)) :
    migrateStarted s pc bank rest = { s with
      flds := (migrateStarted s pc bank rest).flds, repair := { s.repair with retire := rest }
      kerf := (migrateStarted s pc bank rest).kerf } := by
  unfold migrateStarted
  generalize hdrop : ({ s with repair := { s.repair with retire := rest } } : State).drop TIPIN_RETIRE_PEND.count 1 = t
  have hframe : t = { s with flds := t.flds, repair := { s.repair with retire := rest } } := hdrop ▸ rfl
  rw [startMigrate_frame, hframe]

/-- Settles O15: Migrate starts, copies a row and ends, and an overlong recovery lets its reads go. -/
theorem migrateAndRecoveryRun : Obligations.MigrateAndRecoveryRun := by
  unfold Obligations.MigrateAndRecoveryRun
  refine ⟨fun pc bank rest s hretire hactive => ?_, fun s hmay hcur hquiet h₀ h₁ hstrokes hlines hreloads => ?_,
    fun s hruns hcur => ?_, fun loc r ends s hfind hends => ?_⟩
  · obtain ⟨hstate, heng⟩ := startMigrate_starts (s :=
      ({ s with repair := { s.repair with retire := rest } } : State).drop TIPIN_RETIRE_PEND.count 1) pc bank
    have hframe := migrateStarted_frame s pc bank rest
    refine ⟨migrateStarted s pc bank rest, ?_, by rw [hframe], hstate, heng, ?_, ?_⟩
    · show Machine.execMigrateStart s = _
      simp only [Machine.execMigrateStart, hretire, hactive, Bool.false_eq_true, if_false]
      rfl
    · have hdrop : Writes [TIPIN_RETIRE_PEND.count] s
          (({ s with repair := { s.repair with retire := rest } } : State).drop TIPIN_RETIRE_PEND.count 1) :=
        ((Writes.refl s).withRepair _).wr (.head _)
      exact ((hdrop.mono (by simp)).trans ((writes_startMigrate pc bank).mono (by simp))).regs
    · rw [hframe]
  · obtain ⟨loc, hexec⟩ := migrateRow_cleared hmay hcur hquiet h₀ h₁ hstrokes hlines hreloads
    have hruns := runs_rowReached (s := s) loc
    have heng : (rowReached s loc).eng 3 = s.eng 3 := by rw [State.eng, hruns.kerf, State.eng, State.wr_kerf]
    refine ⟨_, hexec, ?_, ?_, ?_,
      keepsData_trans (logged_wr _ _).keepsData (keepsData_trans hruns.keepsData (keepsData_rowDone _))⟩
    · rw [rowDone, State.bump_eq, State.wr_eng, State.eng_setEng, heng]
    · rw [rowDone, State.bump_eq, rd_wr_apart (by rfl), State.setEng_rd, hruns.rd]
      exact rd_wr_lt (by decide : 2 < 2 ^ 3)
    · rw [CountedUp, rowDone, rd_bump, State.setEng_rd, hruns.rd, rd_wr_apart (by rfl)]
  · obtain ⟨hlines, hcrypto⟩ := data_migrateEnd (s := s) s.migrating.1 s.migrating.2
    refine ⟨_, migrateDone_eq hruns hcur, ?_, ?_, hlines, hcrypto⟩
    · rw [rd_migrateEnd (by rfl) (by rfl) (by rfl) (by rfl), rd_wr_apart (by rfl)]
      exact rd_wr_lt (by decide : 4 < 2 ^ 3)
    · rw [rd_migrateEnd (by rfl) (by rfl) (by rfl) (by rfl)]
      exact rd_wr_lt (by decide : 2 < 2 ^ 2)
  · have hl := logged_poisonReturned (s := recoveriesLetGo (s.advanceTo ends) r)
      (r.waiting.filter fun w => decide (w.1 ≤ (s.advanceTo ends).now))
    have hnow := (now_of_logged hl).trans (rfl : _ = (s.advanceTo ends).now)
    refine ⟨_, recoveryWaitExpiry_letsGo hfind hends, hnow.trans (now_advanceTo ends), ?_, ?_⟩
    · have hmap : (recoveriesLetGo (s.advanceTo ends) r).recoveries = s.recoveries.map (letGo r (s.advanceTo ends)) := rfl
      rw [hnow, hl.frame, hmap]
      refine congrArg (fun f => s.recoveries.map f) (funext fun x => ?_)
      rw [letGo]
      simp only [← decide_not, Nat.not_le]
    · exact keepsData_trans (⟨rfl, rfl, rfl, rfl⟩ : KeepsData s (recoveriesLetGo (s.advanceTo ends) r)) hl.keepsData

end Sys2Proof.Proofs

/-! # Refresh and self-refresh (R66 to R83) -/

namespace Sys2Proof.Proofs

open Sys2Proof Sys2Proof.Machine Sys2Proof.Laws

variable {s t u : State}

/-! ## Banks -/

theorem bank_setBank (c : Pc) (b : Nat) (v : DramBank) : (c.setBank b v).bank b = v := Sparse.get_set_self _ _ _

theorem pcs_of_logged (h : Logged s t) (p : Nat) : t.pc p = s.pc p := by rw [State.pc, State.pc, h.frame]

theorem pc_refreshed (pc n p : Nat) : (s.refreshed pc n).pc p = s.pc p := rfl

theorem pc_advanceTo (n p : Nat) : (s.advanceTo n).pc p = s.pc p := rfl

theorem rd_advanceTo (n : Nat) (f : Fld) : (s.advanceTo n).rd f = s.rd f := rfl

theorem hoPeriod_advanceTo (n : Nat) : (s.advanceTo n).clk.hoPeriod = s.clk.hoPeriod := by
  simp only [State.advanceTo, State.advance]
  split <;> rfl

theorem trefi_advanceTo (n pc : Nat) : (s.advanceTo n).trefi pc = s.trefi pc := by
  have hho : (s.advanceTo n).onHo (pc / 4) = s.onHo (pc / 4) := rfl
  rw [State.trefi, State.trefi, hho, State.window, State.window, rd_advanceTo, State.hoCycle, State.hoCycle,
    hoPeriod_advanceTo]

/-- A refresh of a PC is counted, and towards its layer's power. -/
theorem writes_refreshed (pc n : Nat) : Writes [PC_REF_CNT.count.pc pc] s (s.refreshed pc n) :=
  ((Writes.refl s).wr (.head _)).flds rfl

theorem refreshed_frame (pc n : Nat) (h : t = { s with pcs := t.pcs }) :
    t.refreshed pc n = { s with flds := (t.refreshed pc n).flds, pcs := t.pcs, therm := (t.refreshed pc n).therm } := by
  rw [h]
  rfl

theorem keepsData_refreshed (pc n : Nat) : KeepsData s (s.refreshed pc n) := ⟨rfl, rfl, rfl, rfl⟩

theorem keepsData_setPc (p : Nat) (c : Pc) : KeepsData s (s.setPc p c) := ⟨rfl, rfl, rfl, rfl⟩

theorem keepsData_advanceTo (n : Nat) : KeepsData s (s.advanceTo n) := ⟨rfl, rfl, rfl, rfl⟩

/-! ## Due times (R66, R68) -/

/-- A bank whose due time has come. -/
def bankDue (s : State) (pc : Nat) (b : DramBank) : DramBank :=
  { b with
    balance := b.balance + 1, dueAt := b.dueAt + s.trefi pc
    forced := if (s.rd (PC_REF_CTL.postpone_max.pc pc) : Int) < b.balance + 1 then b.forced + 1 else b.forced }

theorem refreshDue_raises {pc : PcNo} {bank : BankNo} (hpresent : s.pcPresent pc = true)
    (hin : s.on (PC_SR_STAT.in_sr.pc pc) = false)
    (hbal : ((s.pc pc).bank bank).balance ≤ s.rd (PC_REF_CTL.postpone_max.pc pc)) :
    exec (.refreshDue pc bank) s = .next ((s.advanceTo ((s.pc pc).bank bank).dueAt).setPc pc
      ((s.pc pc).setBank bank (bankDue (s.advanceTo ((s.pc pc).bank bank).dueAt) pc ((s.pc pc).bank bank)))) := by
  show Machine.execRefreshDue pc bank s = _
  rw [Machine.execRefreshDue, if_neg (by simp [hpresent, hin])]
  refine if_neg fun h => ?_
  have hlim : (s.rd (PC_REF_CTL.postpone_max.pc pc) : Int) + 1 < ((s.pc pc).bank bank).balance + 1 := h.1
  omega

/-! ## Forced and targeted refreshes (R68, R72 to R74) -/

/-- What a bank owes is the same. -/
def SameDebt (b c : DramBank) : Prop := c.balance = b.balance ∧ c.forced = b.forced ∧ c.afterForced = b.afterForced

theorem sameDebt_sampleAt (pc bank row at_ : Nat) :
    SameDebt ((s.pc pc).bank bank) (((s.sampleAt pc bank row at_).pc pc).bank bank) := by
  unfold State.sampleAt
  simp only
  split
  · exact ⟨rfl, rfl, rfl⟩
  · rw [State.pc_setPc, bank_setBank]
    exact ⟨rfl, rfl, rfl⟩

theorem sameDebt_holdBank (pc bank : Nat) (b : DramBank) :
    SameDebt b (((s.holdBank pc bank b).pc pc).bank bank) := by
  unfold State.holdBank
  simp only
  split
  · obtain ⟨hbal, hforced, hafter⟩ := sameDebt_sampleAt (s := s.setPc pc ((s.pc pc).setBank bank { b with
      colReady := s.now + s.refHold pc, preReady := s.now + s.refHold pc + s.cycles pc 29000
      actReady := s.now + s.refHold pc + s.cycles pc 43000 })) pc bank ‹_› (s.now + s.refHold pc)
    rw [State.pc_setPc, bank_setBank] at hbal hforced hafter
    exact ⟨hbal, hforced, hafter⟩
  · rw [State.pc_setPc, bank_setBank]
    exact ⟨rfl, rfl, rfl⟩

theorem banks_excuseBank (pc bank ps : Nat) : ((s.excuseBank pc bank ps).pc pc).banks = (s.pc pc).banks := by
  rw [State.excuseBank, State.pc_setPc]

/-- A bank that has been given a forced refresh. -/
def bankForced (b : DramBank) : DramBank :=
  { b with
    balance := b.balance - 1, forced := b.forced - 1, afterForced := true
    rowPtr := (b.rowPtr + 4) % 32768, catchUp := b.catchUp && decide (b.forced ≠ 1) }

/-- The bank is held for a forced refresh, which excuses its requests during a catch-up. -/
def forcedHeld (s : State) (pc bank : Nat) (b : DramBank) : State :=
  if b.catchUp then (s.holdBank pc bank (bankForced b)).excuseBank pc bank ((s.holdBank pc bank (bankForced b)).refHold pc)
  else s.holdBank pc bank (bankForced b)

/-- A refresh of a PC is counted in its own counter, and told. -/
def refreshCounted (s : State) (pc : Nat) (f : Fld) (bit : Nat) : State :=
  ((s.bump f).refreshed pc 1).cause (0x40 + pc) bit

theorem forcedRefresh_issues {pc : PcNo} {bank : BankNo} (hin : s.on (PC_SR_STAT.in_sr.pc pc) = false)
    (hforced : ((s.pc pc).bank bank).forced ≠ 0) :
    exec (.forcedRefreshIssue pc bank) s = .next (refreshCounted (forcedHeld
      (s.advanceTo (s.refreshAt ((s.pc pc).bank bank))) pc bank ((s.pc pc).bank bank)) pc (PC_REF_FORCED.count.pc pc) 1) := by
  show Machine.execForcedRefreshIssue pc bank s = _
  rw [Machine.execForcedRefreshIssue, if_neg (by simp [hin, hforced])]
  rfl

theorem bank_forcedHeld (pc bank : Nat) (b : DramBank) :
    SameDebt (bankForced b) (((forcedHeld s pc bank b).pc pc).bank bank) := by
  unfold forcedHeld
  split
  · rw [Pc.bank, banks_excuseBank]
    exact sameDebt_holdBank pc bank _
  · exact sameDebt_holdBank pc bank _

theorem pcs_setPc (h : t = { s with pcs := t.pcs }) (p : Nat) (c : Pc) :
    t.setPc p c = { s with pcs := (t.setPc p c).pcs } := congrArg (fun u => u.setPc p c) h

theorem pcs_holdBank (pc bank : Nat) (b : DramBank) : s.holdBank pc bank b = { s with pcs := (s.holdBank pc bank b).pcs } := by
  unfold State.holdBank State.sampleAt
  simp only
  split
  · split <;> rfl
  · rfl

theorem pcs_forcedHeld (pc bank : Nat) (b : DramBank) :
    forcedHeld s pc bank b = { s with pcs := (forcedHeld s pc bank b).pcs } := by
  unfold forcedHeld
  split
  · exact pcs_setPc (pcs_holdBank pc bank (bankForced b)) _ _
  · exact pcs_holdBank pc bank _

theorem refreshCounted_frame {pc : Nat} {f : Fld} {bit : Nat} :
    KeepsData s (refreshCounted s pc f bit) ∧ ∀ p, (refreshCounted s pc f bit).pc p = s.pc p :=
  ⟨keepsData_trans (logged_wr _ _).keepsData (keepsData_trans (keepsData_refreshed _ _) (logged_cause _ _).keepsData),
    fun _ => pcs_of_logged (logged_cause _ _) _⟩

theorem rd_refreshCounted {pc bit : Nat} {f g : Fld} (hg : apart g f = true)
    (hcount : apart g (PC_REF_CNT.count.pc pc) = true) (hcause : clear (causeFields (0x40 + pc)) g = true) :
    (refreshCounted s pc f bit).rd g = s.rd g := by
  rw [refreshCounted, rd_cause hcause, State.refreshed, State.heatCount, State.setHeat_rd, State.count_eq,
    rd_wr_apart hcount, State.bump_eq, rd_wr_apart hg]

theorem rd_refreshCounted_self {pc bit : Nat} {f : Fld} 
    (hcount : apart f (PC_REF_CNT.count.pc pc) = true) (hcause : clear (causeFields (0x40 + pc)) f = true) :
    CountedUp s (refreshCounted s pc f bit) f := by
  rw [CountedUp, refreshCounted, rd_cause hcause, State.refreshed, State.heatCount, State.setHeat_rd, State.count_eq,
    rd_wr_apart hcount, rd_bump]

/-- The instant and the row of a targeted refresh of a bank. -/
def targetHeld (s : State) (pc bank row : Nat) (rest : List Nat) (b : DramBank) : State :=
  s.setPc pc { (s.pc pc).setBank bank { b with
      targets := rest, colReady := s.now + s.refHold pc, actReady := max b.actReady (s.now + s.refHold pc) } with
    victims := (neighbours (s.physicalRow pc bank row).2).map fun n => ((s.physicalRow pc bank row).1, n) }

/-- The row refreshed last stands in PC_RFM_LAST. -/
def targetNoted (s : State) (pc bank row : Nat) : State :=
  ((s.wr (PC_RFM_LAST.bank.pc pc) bank).wr (PC_RFM_LAST.row.pc pc) row).put (PC_RFM_LAST.valid.pc pc)

theorem targetedRefresh_issues {pc : PcNo} {bank : BankNo} {row : Nat} {rest : List Nat}
    (hin : s.on (PC_SR_STAT.in_sr.pc pc) = false) (htargets : ((s.pc pc).bank bank).targets = row :: rest)
    (hafter : ((s.pc pc).bank bank).afterForced = false) :
    exec (.targetedRefreshIssue pc bank) s = .next (refreshCounted (targetNoted (targetHeld
      (s.advanceTo (s.refreshAt ((s.pc pc).bank bank))) pc bank row rest ((s.pc pc).bank bank)) pc bank row) pc
      (PC_RFM_CNT.count.pc pc) 3) := by
  show Machine.execTargetedRefreshIssue pc bank s = _
  unfold Machine.execTargetedRefreshIssue
  extract_lets b
  have hb : b.targets = row :: rest := htargets
  have hafter' : b.afterForced = false := hafter
  rw [hb]
  exact if_neg (by simp [hin, hafter'])

theorem targetNoted_reads {pc bank row : Nat} (hbank : bank < 32) : 
    (targetNoted s pc bank row).rd (PC_RFM_LAST.bank.pc pc) = bank ∧
      (targetNoted s pc bank row).rd (PC_RFM_LAST.row.pc pc) = row % 2 ^ PC_RFM_LAST.row.width ∧
      (targetNoted s pc bank row).rd (PC_RFM_LAST.valid.pc pc) = 1 := by
  refine ⟨?_, ?_, rd_put_self⟩
  · rw [targetNoted, State.put_eq, rd_wr_apart (by rfl), rd_wr_apart (by rfl)]
    exact rd_wr_lt hbank
  · rw [targetNoted, State.put_eq, rd_wr_apart (by rfl), State.rd_wr_self]
    rfl

theorem logged_targetNoted (pc bank row : Nat) : Logged s (targetNoted s pc bank row) :=
  ((logged_wr _ _).wr _ _).wr _ _

/-! ## O11 -/

/-- A bank that has been refreshed. -/
def bankRefreshed (s : State) (pc : Nat) (b : DramBank) : DramBank :=
  { b with
    balance := b.balance - 1, openRow := none, forced := b.forced - 1, rowPtr := (b.rowPtr + 4) % 32768
    catchUp := b.catchUp && decide (1 < b.forced)
    actReady := max b.actReady ((if b.openRow.isSome then max s.now b.preReady + s.cycles pc 14000
      else max s.now b.actReady) + s.cycles pc 160000) }

theorem refresh_issues {pc : PcNo} {bank : BankNo} (hin : s.on (PC_SR_STAT.in_sr.pc pc) = false)
    (hpresent : s.pcPresent pc = true) (hidle : s.bankIdle pc bank = true) (hbal : 0 < ((s.pc pc).bank bank).balance) :
    exec (.refreshIssue pc bank) s = .next ((s.setPc pc ((s.pc pc).setBank bank (bankRefreshed s pc
      ((s.pc pc).bank bank)))).refreshed pc 1) := by
  show Machine.execRefreshIssue pc bank s = _
  unfold Machine.execRefreshIssue
  simp only [hin, hpresent, hidle, Bool.not_true, Bool.or_self, Bool.false_eq_true, if_false,
    if_neg (fun h : ((s.pc pc).bank bank).balance ≤ 0 ∧ (((s.pc pc).bank bank).balance < -7 ∨ (!s.inputIdle pc bank) = true) =>
      absurd h.1 (not_le.2 hbal))]
  rfl

/-- Settles O11: due times raise the balance of a bank, and refreshes lower it. -/
theorem refreshesFollowTheBalance : Obligations.RefreshesFollowTheBalance := by
  unfold Obligations.RefreshesFollowTheBalance
  refine ⟨fun pc bank s hpresent hin hbal => ?_, fun pc bank s hin hforced => ?_,
    fun pc bank s hin hpresent hidle hbal => ?_, fun pc bank row rest s hin htargets hafter => ?_⟩
  · refine ⟨_, refreshDue_raises hpresent hin hbal, ?_, ?_, ?_, fun p hp => ?_, fun _ _ => rfl, rfl⟩
    · rw [State.pc_setPc, bank_setBank]
      rfl
    · rw [State.pc_setPc, bank_setBank, bankDue, trefi_advanceTo]
    · rw [State.setPc_now]
      exact now_advanceTo _
    · rw [State.pc_setPc_ne _ hp, pc_advanceTo]
  · obtain ⟨hdata, hpcs⟩ := refreshCounted_frame (s := forcedHeld (s.advanceTo (s.refreshAt ((s.pc pc).bank bank))) pc bank
      ((s.pc pc).bank bank)) (pc := pc) (f := PC_REF_FORCED.count.pc pc) (bit := 1)
    obtain ⟨hbal, hforced', hafter⟩ := bank_forcedHeld (s := s.advanceTo (s.refreshAt ((s.pc pc).bank bank))) pc bank
      ((s.pc pc).bank bank)
    have hframe := pcs_forcedHeld (s := s.advanceTo (s.refreshAt ((s.pc pc).bank bank))) pc bank ((s.pc pc).bank bank)
    refine ⟨_, forcedRefresh_issues hin hforced, ?_, ?_, ?_, ?_, ?_⟩
    · rw [hpcs, hbal]
      rfl
    · rw [hpcs, hforced']
      rfl
    · rw [hpcs, hafter]
      rfl
    · have hcount := rd_refreshCounted_self (s := forcedHeld (s.advanceTo (s.refreshAt ((s.pc pc).bank bank))) pc bank
        ((s.pc pc).bank bank)) (pc := pc) (bit := 1) (f := PC_REF_FORCED.count.pc pc) (by rfl) (by rfl)
      rw [CountedUp, hcount, hframe]
      rfl
    · refine keepsData_trans ?_ hdata
      rw [hframe]
      exact ⟨rfl, rfl, rfl, rfl⟩
  · refine ⟨_, refresh_issues hin hpresent hidle hbal, ?_, ?_, ?_, (((Writes.refl s).flds rfl).trans
      (writes_refreshed _ _)).regs, ?_⟩
    · rw [pc_refreshed, State.pc_setPc, bank_setBank]
      rfl
    · rw [pc_refreshed, State.pc_setPc, bank_setBank]
      rfl
    · exact rd_bump _
    · exact (refreshed_frame _ _ (pcs_setPc rfl _ _)).trans rfl
  · obtain ⟨hdata, hpcs⟩ := refreshCounted_frame (s := targetNoted (targetHeld
      (s.advanceTo (s.refreshAt ((s.pc pc).bank bank))) pc bank row rest ((s.pc pc).bank bank)) pc bank row)
      (pc := pc) (f := PC_RFM_CNT.count.pc pc) (bit := 3)
    obtain ⟨hbank, hrow, hvalid⟩ := targetNoted_reads (s := targetHeld
      (s.advanceTo (s.refreshAt ((s.pc pc).bank bank))) pc bank row rest ((s.pc pc).bank bank)) (pc := pc) (row := row)
      bank.isLt
    refine ⟨_, targetedRefresh_issues hin htargets hafter, ?_, ?_, ?_, ?_, ?_, ?_⟩
    · rw [hpcs, pcs_of_logged (logged_targetNoted _ _ _), targetHeld, State.pc_setPc]
      exact congrArg DramBank.targets (bank_setBank _ _ _)
    · rw [rd_refreshCounted (by rfl) (by rfl) (by rfl), hbank]
    · rw [rd_refreshCounted (by rfl) (by rfl) (by rfl), hrow]
    · rw [rd_refreshCounted (by rfl) (by rfl) (by rfl), hvalid]
    · rw [CountedUp, rd_refreshCounted_self (by rfl) (by rfl), targetNoted, State.put_eq, rd_wr_apart (by rfl),
        rd_wr_apart (by rfl), rd_wr_apart (by rfl), targetHeld]
      rfl
    · exact keepsData_trans (keepsData_trans (keepsData_advanceTo _) (keepsData_setPc _ _))
        (keepsData_trans (logged_targetNoted _ _ _).keepsData hdata)

end Sys2Proof.Proofs

/-! # Windows, PC_REF_CTL and self-refresh (R67, R71, R77 to R83) -/

namespace Sys2Proof.Proofs

open Sys2Proof Sys2Proof.Machine Sys2Proof.Laws

variable {s t u : State}

/-! ## Places -/

/-- Only fields at the places of some others have changed, whatever their page. -/
structure Places (l : List Fld) (s t : State) : Prop where
  regs : ∀ f : Fld, l.all (offPlace f) = true → t.rd f = s.rd f

section
variable {l : List Fld}

theorem Places.refl (s : State) : Places l s s := ⟨fun _ _ => rfl⟩

theorem Places.rd (h : Places l s t) {f : Fld} (hf : l.all (offPlace f) = true := by rfl) : t.rd f = s.rd f := h.regs f hf

theorem Places.wr {f : Fld} {v : Nat} (h : Places l s t) (hf : l.any (fun g => !offPlace f g) = true) :
    Places l s (t.wr f v) := by
  refine ⟨fun g hg => (State.rd_wr_ne _ (fun hk => ?_) v).trans (h.regs g hg)⟩
  obtain ⟨r, hr, hfr⟩ := List.any_eq_true.1 hf
  rw [Bool.not_eq_true', ← Bool.not_eq_true, offPlace_iff, not_not] at hfr
  exact (offPlace_iff g r).1 (List.all_eq_true.1 hg r hr) ((place_of_key hk).trans hfr)

theorem Places.flds (h : Places l s t) (hu : u.flds = t.flds) : Places l s u :=
  ⟨fun f hf => (congrArg (fun m => Sparse.get Fld.resetVal m f.key) hu).trans (h.regs f hf)⟩

theorem Places.ite {c : Prop} [Decidable c] {a b : State} (ha : Places l s a) (hb : Places l s b) :
    Places l s (if c then a else b) := by
  split
  · exact ha
  · exact hb

theorem Places.forAll {α : Type} {f : State → α → State} {as : List α} (h : Places l s t)
    (hf : ∀ u a, Places l s u → Places l s (f u a)) : Places l s (t.forAll as f) :=
  List.foldlRecOn (motive := Places l s) as f h fun u hu a _ => hf u a hu

end

/-- The places of a calibration unit's state. -/
def calPlaces : List Fld := [PC_CAL_STAT.state, PC_CAL_STAT.pending, PHY_CAL_STAT.state, PHY_CAL_STAT.pending]

theorem places_setCalMode {m v : Nat} (h : Places calPlaces s t) : Places calPlaces s (t.setCalMode m v) := by
  refine h.wr ?_
  unfold calFld
  split <;> rfl

theorem places_calPending {m : Nat} (h : Places calPlaces s t) : Places calPlaces s (t.clr (calPending m)) := by
  refine h.wr ?_
  unfold calPending calFld
  split <;> rfl

theorem places_beginRun {m : Nat} {c : Bool} (h : Places calPlaces s t) : Places calPlaces s (t.beginRun m c) :=
  .ite h ((places_setCalMode (places_calPending h)).flds rfl)

theorem places_fixCal (m : Nat) : Places calPlaces s (s.fixCal m) := by
  have h := Places.refl (l := calPlaces) s
  exact .ite (.ite h (places_setCalMode (places_setCalMode (h.flds rfl))))
    (.ite (.ite (places_beginRun (places_setCalMode h)) (places_setCalMode h)) h)

theorem places_gate (layer : Nat) : Places [PC_SR_STAT.clk_gated] s (s.gate layer) := by
  have h : Places [PC_SR_STAT.clk_gated] s (s.runLfsrs layer) :=
    (Places.refl s).forAll fun _ _ k => .ite k (k.flds rfl)
  exact h.forAll fun _ _ k => k.wr rfl

/-! ## The window of a layer -/

/-- The fields that bandwidth and oversubscription write (R236, R237). -/
def gaugeFields : List Fld :=
  [GAUGE_RAW.bw, GAUGE_PCAP.bw, GAUGE_DELIV.bw, GAUGE_GUAR_SUM.bw, GAUGE_STAT.oversub, GAUGE_OVERSUB_CNT.count] ++
    causeFields 0x18

theorem writes_fixGauge : Writes gaugeFields s s.fixGauge := by
  have hf : ∀ {f : Fld} {v : Nat} {u : State}, Writes gaugeFields s u → f ∈ [GAUGE_RAW.bw, GAUGE_PCAP.bw, GAUGE_DELIV.bw,
      GAUGE_GUAR_SUM.bw, GAUGE_STAT.oversub, GAUGE_OVERSUB_CNT.count] → Writes gaugeFields s (u.wr f v) :=
    fun k hf => k.wr (List.mem_append_left _ hf)
  unfold State.fixGauge
  extract_lets t₁ t₂ t₃ t₄ _ t₅
  have hwr : Writes gaugeFields s t₄ :=
    hf (hf (hf (hf (.refl s) (by decide)) (by decide)) (by decide)) (by decide)
  have hover : Writes gaugeFields s t₅ := hwr.flds rfl
  exact .ite (.ite hover ((hf (hf hover (by decide)) (by decide)).cause (List.subset_append_right _ _))) hwr

/-- The fields that a change of a layer's window writes. -/
def windowFields (layer : Nat) : List Fld :=
  (List.range 4).flatMap (fun i => PC_REF_STAT.window.pc (layer * 4 + i) :: causeFields (0x40 + layer * 4 + i)) ++ gaugeFields

/-- A page of a layer takes a window. -/
def pageWindow (layer w : Nat) (s : State) (i : Nat) : State :=
  (s.wr (PC_REF_STAT.window.pc (layer * 4 + i)) w).cause (0x40 + layer * 4 + i) 2

theorem writes_pageWindow {l : List Fld} {layer w i : Nat} (h : Writes l s t)
    (hl : PC_REF_STAT.window.pc (layer * 4 + i) :: causeFields (0x40 + layer * 4 + i) ⊆ l) :
    Writes l s (pageWindow layer w t i) :=
  (h.wr (hl List.mem_cons_self)).cause fun _ hf => hl (List.mem_cons_of_mem _ hf)

theorem writes_setWindow (layer w : Nat) : Writes (windowFields layer) s (s.setWindow layer w) := by
  have hpages : Writes (windowFields layer) s (s.forAll (List.range 4) (pageWindow layer w)) :=
    (Writes.refl s).forAllMem fun u i hi k => writes_pageWindow k
      fun f hf => List.mem_append_left _ (List.mem_flatMap.2 ⟨i, hi, hf⟩)
  exact .ite (.refl s) (hpages.trans (writes_fixGauge.mono (List.subset_append_right _ _)))

/-- Beside what a report touches, only the Gauge has changed. -/
structure Gauged (s t : State) : Prop where
  frame : t = { s with flds := t.flds, out := t.out, pages := t.pages, ports := t.ports, lds := t.lds,
                       domains := t.domains, pin := t.pin, gauge := t.gauge }

theorem Gauged.refl (s : State) : Gauged s s := ⟨rfl⟩

theorem Gauged.logged (h : Gauged s t) (k : Logged t u) : Gauged s u := ⟨by rw [k.frame, h.frame]⟩

theorem Gauged.trans (h : Gauged s t) (k : Gauged t u) : Gauged s u := ⟨by rw [k.frame, h.frame]⟩

theorem Gauged.gauge (h : Gauged s t) (g : GaugeState) : Gauged s { t with gauge := g } :=
  ⟨congrArg (fun u : State => { u with gauge := g }) h.frame⟩

theorem Gauged.ite {c : Prop} [Decidable c] {a b : State} (ha : Gauged s a) (hb : Gauged s b) :
    Gauged s (if c then a else b) := by
  split
  · exact ha
  · exact hb

theorem Gauged.keepsData (h : Gauged s t) : KeepsData s t := by
  rw [h.frame]
  exact ⟨rfl, rfl, rfl, rfl⟩

theorem Gauged.now (h : Gauged s t) : t.now = s.now := by rw [h.frame]
theorem Gauged.pcs (h : Gauged s t) : t.pcs = s.pcs := by rw [h.frame]

theorem gauged_fixGauge : Gauged s s.fixGauge := by
  unfold State.fixGauge
  extract_lets t₁ t₂ t₃ t₄ _ t₅
  have hwr : Gauged s t₄ := (Gauged.refl s).logged ((((logged_wr _ _).wr _ _).wr _ _).wr _ _)
  have hover : Gauged s t₅ := hwr.gauge _
  exact .ite (.ite hover (hover.logged (((logged_wr _ _).wr _ _).trans (logged_cause _ _)))) hwr

theorem logged_pageWindow (layer w : Nat) (s : State) (i : Nat) : Logged s (pageWindow layer w s i) :=
  (logged_wr _ _).trans (logged_cause _ _)

theorem gauged_setWindow (layer w : Nat) : Gauged s (s.setWindow layer w) :=
  .ite (.refl s) (((Gauged.refl s).logged (logged_forAll (logged_pageWindow layer w) _)).trans gauged_fixGauge)

/-- A layer whose window changes has it in its first page (R87). -/
theorem window_setWindow {layer w : Nat} (hw : w < 4) (hne : s.window layer ≠ w)
    (habsent : s.layerAbsent (0x40 + layer * 4) = false) : (s.setWindow layer w).window layer = w := by
  have hfirst : (pageWindow layer w s 0).rd (PC_REF_STAT.window.pc (layer * 4)) = w := by
    rw [pageWindow, rd_cause (by rfl)]
    exact rd_wr_lt hw
  have hother : ∀ (u : State) (i : Nat), 0 < i → i < 4 → (pageWindow layer w u i).rd (PC_REF_STAT.window.pc (layer * 4)) =
      u.rd (PC_REF_STAT.window.pc (layer * 4)) := by
    intro u i hi hlt
    rw [pageWindow, rd_cause (by rfl)]
    refine State.rd_wr_ne _ (fun hk => ?_) w
    simp only [Fld.key, Fld.pc, PC_REF_STAT.window] at hk
    omega
  have hloop : s.forAll (List.range 4) (pageWindow layer w) =
      pageWindow layer w (pageWindow layer w (pageWindow layer w (pageWindow layer w s 0) 1) 2) 3 := rfl
  unfold State.setWindow
  rw [if_neg (by simp [hne, habsent])]
  show ((s.forAll (List.range 4) (pageWindow layer w)).fixGauge).rd (PC_REF_STAT.window.pc (layer * 4)) = w
  rw [writes_fixGauge.rd, hloop, hother _ 3 (by decide) (by decide), hother _ 2 (by decide) (by decide),
    hother _ 1 (by decide) (by decide), hfirst]

theorem layerSr_advanceTo (n layer : Nat) : (s.advanceTo n).layerSr layer = s.layerSr layer := rfl
theorem forced_advanceTo (n layer : Nat) : (s.advanceTo n).forced layer = s.forced layer := rfl
theorem window_advanceTo (n layer : Nat) : (s.advanceTo n).window layer = s.window layer := rfl
theorem layer_advanceTo (n layer : Nat) : (s.advanceTo n).layer layer = s.layer layer := rfl

/-- A layer that has been cool for the span of R71 takes its longest window. -/
theorem lengthened_of_held {layer since : Nat} (hwindow : s.window layer = 1)
    (hbelow : (s.layer layer).below80 = some since) (hheld : since + 16 * psMs ≤ s.now) : s.lengthened layer = 0 := by
  simp [State.lengthened, hwindow, hbelow, hheld]

theorem windowLengthen_lengthens {layer : LayerNo} {due : Nat} (hwindow : s.window layer = 1)
    (hdue : (s.layer layer).below80.map (· + 16 * psMs) = some due) (hforced : s.forced layer = 0)
    (hsr : s.layerSr layer = false) (hlong : (s.advanceTo due).lengthened layer = 0) :
    exec (.windowLengthen layer) s = .next ((s.advanceTo due).setWindow layer 0) := by
  show Machine.execWindowLengthen layer s = _
  unfold Machine.execWindowLengthen
  simp only [hwindow, hdue, layerSr_advanceTo, forced_advanceTo, hsr, hforced, hlong, Nat.max_self, Bool.false_eq_true,
    if_false, Nat.reduceEqDiff]

theorem writes_shortenWindow (layer : Nat) : Writes (windowFields layer) s (s.shortenWindow layer) := by
  unfold State.shortenWindow
  exact writes_setWindow _ _

theorem gauged_shortenWindow (layer : Nat) : Gauged s (s.shortenWindow layer) := by
  unfold State.shortenWindow
  exact gauged_setWindow _ _

/-! ## PC_REF_CTL (R67, R71) -/

/-- The limit and the forced window of a PC stand in PC_REF_CTL. -/
def refCtlWritten (s : State) (pc limit force : Nat) : State :=
  (s.wr (PC_REF_CTL.postpone_max.pc pc) (min 8 limit)).wr (PC_REF_CTL.window_force.pc pc) (if force = 3 then 0 else force)

/-- Where the limit falls, a bank whose balance is above it catches up. -/
def catchesUp (pc limit : Nat) (falls : Bool) (s : State) (i : Nat) : State :=
  if falls ∧ ((min 8 limit : Nat) : Int) < ((s.pc pc).bank i).balance then
    s.setPc pc ((s.pc pc).setBank i { (s.pc pc).bank i with
      forced := (((s.pc pc).bank i).balance - (min 8 limit : Nat)).toNat, catchUp := true })
  else s

/-- The banks of a PC as a new limit leaves them. -/
def refCtlTaken (s : State) (pc limit force : Nat) : State :=
  (refCtlWritten s pc limit force).forAll (List.range 32)
    (catchesUp pc limit (decide (min 8 limit < s.rd (PC_REF_CTL.postpone_max.pc pc))))

theorem setRefCtl_eq (pc limit force : Nat) : s.setRefCtl pc limit force =
    ((refCtlTaken s pc limit force).setWindow (pc / 4) (max ((refCtlTaken s pc limit force).lengthened (pc / 4))
      ((refCtlTaken s pc limit force).forced (pc / 4)))).shortenWindow (pc / 4) := rfl

theorem pcs_forAll {α : Type} {f : State → α → State} (hf : ∀ s a, f s a = { s with pcs := (f s a).pcs })
    (l : List α) (s : State) : s.forAll l f = { s with pcs := (s.forAll l f).pcs } := by
  induction l generalizing s with
  | nil => rfl
  | cons a l ih =>
    rw [forAll_cons, ih (f s a)]
    generalize (f s a).forAll l f = t
    rw [hf s a]

theorem pcs_catchesUp (pc limit : Nat) (falls : Bool) (s : State) (i : Nat) :
    catchesUp pc limit falls s i = { s with pcs := (catchesUp pc limit falls s i).pcs } := by
  unfold catchesUp
  split <;> rfl

/-- A field that no change of a window writes. -/
theorem rd_setRefCtl {pc limit force : Nat} {f : Fld} (hf : f.key ∉ (windowFields (pc / 4)).map Fld.key) :
    (s.setRefCtl pc limit force).rd f = (refCtlWritten s pc limit force).rd f := by
  rw [setRefCtl_eq, (writes_shortenWindow _).regs f hf, (writes_setWindow _ _).regs f hf, State.rd, refCtlTaken,
    pcs_forAll (pcs_catchesUp _ _ _)]
  rfl

theorem setRefCtl_keeps (pc limit force : Nat) :
    KeepsData s (s.setRefCtl pc limit force) ∧ (s.setRefCtl pc limit force).now = s.now := by
  have hw : Logged s (refCtlWritten s pc limit force) := (logged_wr _ _).wr _ _
  have ht := pcs_forAll (pcs_catchesUp pc limit (decide (min 8 limit < s.rd (PC_REF_CTL.postpone_max.pc pc))))
    (List.range 32) (refCtlWritten s pc limit force)
  have htaken : KeepsData s (refCtlTaken s pc limit force) ∧ (refCtlTaken s pc limit force).now = s.now := by
    have hnow : (refCtlTaken s pc limit force).now = (refCtlWritten s pc limit force).now := by
      unfold refCtlTaken
      rw [ht]
    refine ⟨keepsData_trans hw.keepsData ?_, hnow.trans (now_of_logged hw)⟩
    unfold refCtlTaken
    rw [ht]
    exact ⟨rfl, rfl, rfl, rfl⟩
  obtain ⟨hdata, hnow⟩ := htaken
  rw [setRefCtl_eq]
  have hg := (gauged_setWindow (s := refCtlTaken s pc limit force) (pc / 4) (max
    ((refCtlTaken s pc limit force).lengthened (pc / 4)) ((refCtlTaken s pc limit force).forced (pc / 4)))).trans
    (gauged_shortenWindow (pc / 4))
  exact ⟨keepsData_trans hdata hg.keepsData, hg.now.trans hnow⟩

theorem eq_guarSum : ∀ g ∈ gaugeFields, g.off = GAUGE_GUAR_SUM.bw.off → g = GAUGE_GUAR_SUM.bw := by decide

/-- PC_REF_CTL stands apart from what a change of a window writes: the Gauge's sum has its place on another page. -/
theorem postponeMax_notMem {pc layer : Nat} (hpc : pc < 64) :
    (PC_REF_CTL.postpone_max.pc pc).key ∉ (windowFields layer).map Fld.key := by
  rw [windowFields, List.map_append, List.mem_append, not_or]
  refine ⟨key_notMem_of_clear (by rfl), ?_⟩
  have hother : clear (gaugeFields.filter fun g => decide (g.off ≠ GAUGE_GUAR_SUM.bw.off))
      (PC_REF_CTL.postpone_max.pc pc) = true := by rfl
  intro h
  obtain ⟨g, hg, hk⟩ := List.mem_map.1 h
  by_cases hoff : g.off = GAUGE_GUAR_SUM.bw.off
  · obtain rfl := eq_guarSum g hg hoff
    simp only [Fld.key, Fld.pc, PC_REF_CTL.postpone_max, GAUGE_GUAR_SUM.bw] at hk
    omega
  · exact key_ne_of_apart (List.all_eq_true.1 hother g (List.mem_filter.2 ⟨hg, by simpa using hoff⟩)) hk.symm

theorem windowForce_notMem {pc layer : Nat} :
    (PC_REF_CTL.window_force.pc pc).key ∉ (windowFields layer).map Fld.key := key_notMem_of_clear (by rfl)

/-! ## Entry into self-refresh (R77, R78) -/

theorem Writes.put {l : List Fld} {f : Fld} (h : Writes l s t) (hf : f ∈ l) : Writes l s (t.put f) := h.wr hf

theorem get_foldl_set {α : Type} [DecidableEq α] {dflt : Nat → α} (g : Nat → α → α) (m : Sparse α) (n k : Nat) :
    Sparse.get dflt ((List.range n).foldl (fun m i => Sparse.set dflt m i (g i (Sparse.get dflt m i))) m) k =
      if k < n then g k (Sparse.get dflt m k) else Sparse.get dflt m k := by
  induction n with
  | zero => rfl
  | succ n ih =>
    rw [List.range_succ, List.foldl_append]
    generalize (List.range n).foldl (fun m i => Sparse.set dflt m i (g i (Sparse.get dflt m i))) m = m' at ih ⊢
    rw [List.foldl_cons, List.foldl_nil]
    by_cases hk : k = n
    · subst hk
      rw [Sparse.get_set_self, ih, if_neg (lt_irrefl k), if_pos (Nat.lt_succ_self k)]
    · rw [Sparse.get_set_ne _ _ hk, ih]
      simp only [show k < n + 1 ↔ k < n by omega]

theorem Writes.setPc {l : List Fld} {p : Nat} {c : Pc} (h : Writes l s t) : Writes l s (t.setPc p c) := h.flds rfl

/-- What holds of every entry as changed, and of the default, holds of what the changed table reads. -/
theorem get_mapWith_of_forall {α : Type} [DecidableEq α] {dflt : Nat → α} {f : Nat → α → α} {p : α → Prop} (m : Sparse α)
    (k : Nat) (hd : p (dflt k)) (hf : ∀ j v, p (f j v)) : p (Sparse.get dflt (Sparse.mapWith dflt m f) k) := by
  obtain h | h := get_cases dflt (Sparse.mapWith dflt m f) k
  · rwa [h]
  · generalize hv : Sparse.get dflt (Sparse.mapWith dflt m f) k = v at h ⊢
    rw [Sparse.mapWith, List.mem_filterMap] at h
    obtain ⟨e, -, he⟩ := h
    split at he
    · exact absurd he (by simp)
    · obtain ⟨-, rfl⟩ := Prod.mk.inj (Option.some.inj he)
      exact hf _ _

/-- An entry into self-refresh begins with every bank precharged. -/
theorem startEntry_closes (pc b : Nat) : (((s.startEntry pc).pc pc).bank b).openRow = none := by
  rw [State.startEntry, State.put_eq, State.wr_pc, State.pc_setPc, Pc.bank]
  dsimp only
  refine get_mapWith_of_forall (dflt := DramBank.reset) (p := fun b => DramBank.openRow b = none) _ _ rfl fun _ v => ?_
  split
  case isTrue => rfl
  case isFalse h => simpa using h

theorem startEntry_frame (pc : Nat) :
    s.startEntry pc = { s with flds := (s.startEntry pc).flds, pcs := (s.startEntry pc).pcs } := by
  unfold State.startEntry
  rfl

theorem writes_startEntry (pc : Nat) : Writes [PC_SR_STAT.entering.pc pc] s (s.startEntry pc) := by
  unfold State.startEntry
  exact (Writes.refl s).setPc.put (.head _)

theorem entering_startEntry (pc : Nat) : (s.startEntry pc).rd (PC_SR_STAT.entering.pc pc) = 1 := rd_put_self

theorem beginSr_enters {pc : Nat} (hawake : s.pcAwake pc = true) (hidle : s.pcIdle pc = true)
    (hsuspect : (s.heat (pc / 4)).suspect = false) : s.beginSr pc = s.startEntry pc := by
  rw [State.beginSr, if_neg (by simp [hawake, hidle, hsuspect])]

/-! ## Self-refresh and its exit (R78, R80) -/

/-- The PC's owed refreshes have issued by the instant of SRE. -/
def sreBanks (s : State) (c : Pc) : Sparse DramBank :=
  (List.range 32).foldl (fun m i => Sparse.set DramBank.reset m i
    { (Sparse.get DramBank.reset m i).refreshed (Sparse.get DramBank.reset m i).balance.toNat s.now with
      forced := 0, catchUp := false }) c.banks

/-- A PC in self-refresh, before its layer's clock is looked at. -/
def sreTaken (s : State) (pc : Nat) : State :=
  ((((s.setPc pc { s.pc pc with sreAt := s.now, wakeAt := none, ungatedAt := 0, banks := sreBanks s (s.pc pc) }).clr
    (PC_SR_STAT.entering.pc pc)).put (PC_SR_STAT.in_sr.pc pc)).bump (PC_SR_ENTRIES.count.pc pc)).cause (0x40 + pc) 4

/-- The refreshes owed as an entry ends. -/
def sreOwed (s : State) (pc : Nat) : List Nat := (List.range 32).map fun i => ((s.pc pc).bank i).balance.toNat

/-- The refreshes of step 3 have issued. -/
def sreRefreshed (s : State) (pc : Nat) : State :=
  (s.advanceTo ((s.pc pc).srAt + (sreOwed s pc).foldl max 0 * s.cycles pc 160000)).refreshed pc (sreOwed s pc).sum

/-- The clock of a layer that is all in self-refresh is gated. -/
def sreGated (s : State) (layer : Nat) : State := if s.layerSr layer then s.gate layer else s

theorem issueSre_eq (pc : Nat) : s.issueSre pc = sreGated ((sreTaken (sreRefreshed s pc) pc).fixCal pc) (pc / 4) := rfl

theorem pc_fixCal (m p : Nat) : (s.fixCal m).pc p = s.pc p := by
  unfold State.fixCal State.stopRun State.beginRun
  simp only
  repeat' split
  all_goals rfl

/-- What only the shift register of a controller has changed leaves its banks. -/
def SameBanks (s t : State) : Prop := ∀ p, (t.pc p).banks = (s.pc p).banks

theorem sameBanks_setPc {p : Nat} {c : Pc} (h : SameBanks s t) (hc : c.banks = (t.pc p).banks) :
    SameBanks s (t.setPc p c) := by
  intro q
  by_cases hq : q = p
  · subst hq
    rw [State.pc_setPc, hc, h]
  · rw [State.pc_setPc_ne _ hq, h]

theorem sameBanks_gate (layer : Nat) : SameBanks s (s.gate layer) := by
  have hrun : SameBanks s (s.runLfsrs layer) := by
    refine List.foldlRecOn (motive := SameBanks s) _ _ (fun _ => rfl) fun u hu i _ => ?_
    unfold State.runLfsr
    split
    · exact hu
    · exact sameBanks_setPc hu rfl
  exact List.foldlRecOn (motive := SameBanks s) _ _ hrun fun u hu i _ => hu

theorem balance_sreTaken {pc b : Nat} (hb : b < 32) : (((sreTaken s pc).pc pc).bank b).balance ≤ 0 := by
  have hpc : (sreTaken s pc).pc pc =
      { s.pc pc with sreAt := s.now, wakeAt := none, ungatedAt := 0, banks := sreBanks s (s.pc pc) } := by
    rw [sreTaken, pcs_of_logged (logged_cause _ _), State.bump_eq, State.wr_pc, State.put_eq, State.wr_pc, State.clr_eq,
      State.wr_pc, State.pc_setPc]
  rw [hpc, Pc.bank]
  dsimp only
  rw [sreBanks, get_foldl_set (g := fun _ (b : DramBank) => { b.refreshed b.balance.toNat s.now with
    forced := 0, catchUp := false }), if_pos hb]
  show (Sparse.get DramBank.reset (s.pc pc).banks b).balance - (Sparse.get DramBank.reset (s.pc pc).banks b).balance.toNat ≤ 0
  omega

theorem sreTaken_reads {pc : Nat} : (sreTaken s pc).rd (PC_SR_STAT.in_sr.pc pc) = 1 ∧
    (sreTaken s pc).rd (PC_SR_STAT.entering.pc pc) = 0 ∧ CountedUp s (sreTaken s pc) (PC_SR_ENTRIES.count.pc pc) := by
  refine ⟨?_, ?_, ?_⟩
  · rw [sreTaken, rd_cause (by rfl), State.bump_eq, rd_wr_apart (by rfl)]
    exact rd_put_self
  · rw [sreTaken, rd_cause (by rfl), State.bump_eq, rd_wr_apart (by rfl), State.put_eq, rd_wr_apart (by rfl)]
    exact rd_wr_lt (Nat.two_pow_pos _)
  · rw [CountedUp, sreTaken, rd_cause (by rfl), rd_bump, State.put_eq, rd_wr_apart (by rfl), State.clr_eq,
      rd_wr_apart (by rfl), State.setPc_rd]

/-- The field of a PC that neither the calibration nor a gated clock touches. -/
theorem rd_issueSre {pc : Nat} {f : Fld} (hcal : calPlaces.all (offPlace f) = true)
    (hgate : [PC_SR_STAT.clk_gated].all (offPlace f) = true) :
    (s.issueSre pc).rd f = (sreTaken (sreRefreshed s pc) pc).rd f := by
  have hgated : ∀ u : State, (sreGated u (pc / 4)).rd f = u.rd f := fun u => by
    unfold sreGated
    split
    · exact (places_gate _).rd hgate
    · rfl
  rw [issueSre_eq, hgated, (places_fixCal pc).rd hcal]

theorem balance_issueSre {pc b : Nat} (hb : b < 32) : (((s.issueSre pc).pc pc).bank b).balance ≤ 0 := by
  have hgated : ∀ u : State, SameBanks u (sreGated u (pc / 4)) := fun u => by
    unfold sreGated
    split
    · exact sameBanks_gate _
    · exact fun _ => rfl
  rw [issueSre_eq, Pc.bank, hgated _ pc, pc_fixCal]
  exact balance_sreTaken hb

theorem rd_sreRefreshed {pc : Nat} {f : Fld} (hf : apart f (PC_REF_CNT.count.pc pc) = true) :
    (sreRefreshed s pc).rd f = s.rd f := by
  rw [sreRefreshed, State.refreshed, State.heatCount, State.setHeat_rd, State.count_eq, rd_wr_apart hf, rd_advanceTo]

/-- A PC as it leaves self-refresh, before the delay of its wake is judged. -/
def srxTaken (s : State) (pc : Nat) (c : Pc) : State :=
  (((s.setPc pc c).clr (PC_SR_STAT.in_sr.pc pc)).cause (0x40 + pc) 5).fixCal pc

theorem exitSr_stages (pc : Nat) : ∃ u c, (∀ b < 32, (c.bank b).balance = 0) ∧
    (s.exitSr pc).rd (PC_SR_STAT.in_sr.pc pc) = (srxTaken u pc c).rd (PC_SR_STAT.in_sr.pc pc) ∧
    (s.exitSr pc).pc pc = (srxTaken u pc c).pc pc := by
  unfold State.exitSr
  extract_lets s₁ c₁ s₂ s₃ c first own banks s₄ s₅
  refine ⟨s₃, { c with
    banks := banks, wakeAt := none, ungatedAt := 0, idleSince := s₃.now
    queue := c.queue.map fun r => { r with excused := r.excused + (first - r.entered) } }, fun b hb => ?_, ?_⟩
  · rw [Pc.bank]
    dsimp only [banks]
    rw [get_foldl_set (g := fun i (b : DramBank) => { b with
      openRow := none, balance := 0, forced := 0, catchUp := false, actReady := first
      rowPtr := (b.rowPtr + 4 * own) % 32768
      dueAt := s₃.now + i * s₃.trefi pc / 32 }), if_pos hb]
  · split
    · exact ⟨rfl, rfl⟩
    · have hlong : ∀ n, (s₅.longest (PC_SR_WAKE_MAX.ns.pc pc) n).rd (PC_SR_STAT.in_sr.pc pc) =
          s₅.rd (PC_SR_STAT.in_sr.pc pc) ∧ (s₅.longest (PC_SR_WAKE_MAX.ns.pc pc) n).pc pc = s₅.pc pc := fun n => by
        unfold State.longest
        split
        · exact ⟨rd_wr_apart (by rfl) _, State.wr_pc _ _ _ _⟩
        · exact ⟨rfl, rfl⟩
      extract_lets ns s₆
      refine iteInduction (motive := fun u : State => u.rd (PC_SR_STAT.in_sr.pc pc) = s₅.rd (PC_SR_STAT.in_sr.pc pc) ∧
        u.pc pc = s₅.pc pc) (fun _ => ?_) (fun _ => hlong ns)
      exact ⟨(rd_errReq (by rfl) _ _ _ _).trans (hlong ns).1,
        (pcs_of_logged (logged_errReq _ _ _ _ _) pc).trans (hlong ns).2⟩

theorem srxTaken_out {pc : Nat} {c : Pc} :
    (srxTaken s pc c).rd (PC_SR_STAT.in_sr.pc pc) = 0 ∧ (srxTaken s pc c).pc pc = c := by
  constructor
  · rw [srxTaken, (places_fixCal pc).rd, rd_cause (by rfl)]
    exact rd_wr_lt (Nat.two_pow_pos _)
  · rw [srxTaken, pc_fixCal, pcs_of_logged (logged_cause _ _), State.clr_eq, State.wr_pc, State.pc_setPc]

/-- A PC that has left self-refresh owes no refresh (R80). -/
theorem exitSr_out (pc : Nat) : (s.exitSr pc).rd (PC_SR_STAT.in_sr.pc pc) = 0 ∧
    ∀ b < 32, (((s.exitSr pc).pc pc).bank b).balance = 0 := by
  obtain ⟨u, c, hbal, hin, hpc⟩ := exitSr_stages (s := s) pc
  obtain ⟨hout, hc⟩ := srxTaken_out (s := u) (pc := pc) (c := c)
  exact ⟨hin.trans hout, fun b hb => by rw [hpc, hc, hbal b hb]⟩

/-! ## O12 -/

theorem pcAwake_advanceTo (n pc : Nat) : (s.advanceTo n).pcAwake pc = s.pcAwake pc := rfl
theorem pcIdle_advanceTo (n pc : Nat) : (s.advanceTo n).pcIdle pc = s.pcIdle pc := rfl
theorem heat_advanceTo (n layer : Nat) : (s.advanceTo n).heat layer = s.heat layer := rfl

theorem idleEntry_frame (n pc : Nat) : (s.advanceTo n).startEntry pc = { s with
    now := ((s.advanceTo n).startEntry pc).now, clk := ((s.advanceTo n).startEntry pc).clk
    flds := ((s.advanceTo n).startEntry pc).flds, pcs := ((s.advanceTo n).startEntry pc).pcs } := by
  rw [startEntry_frame]
  rfl

theorem srIdleExpiry_enters {pc : PcNo} (hen : s.on (PC_SR_CTL.sr_en.pc pc) = true) (hidle : s.pcIdle pc = true)
    (hawake : s.pcAwake pc = true) (hsuspect : (s.heat (pc.val / 4)).suspect = false) :
    ∃ n, exec (.srIdleExpiry pc) s = .next ((s.advanceTo n).startEntry pc) := by
  refine ⟨(s.pc pc).idleSince + s.rd (PC_SR_CTL.sr_idle_us.pc pc) * psUs, ?_⟩
  show Machine.execSrIdleExpiry pc s = _
  rw [Machine.execSrIdleExpiry, if_neg (by simp [hen, hidle]), beginSr_enters]
  · rw [pcAwake_advanceTo, hawake]
  · rw [pcIdle_advanceTo, hidle]
  · rw [heat_advanceTo, hsuspect]

theorem windowLengthen_meets {layer : LayerNo} {since n : Nat} (hwindow : s.window layer = 1)
    (hbelow : (s.layer layer).below80 = some since) (hforced : s.forced layer = 0) (hsr : s.layerSr layer = false)
    (habsent : s.layerAbsent (0x40 + layer.val * 4) = false)
    (hdue : (s.layer layer).below80.map (· + 16 * psMs) = some n) (hheld : since + 16 * psMs ≤ n) :
    ∃ t, exec (.windowLengthen layer) s = .next t ∧ t.window layer = 0 ∧ t.now = max s.now n ∧ KeepsData s t ∧
      t.pcs = s.pcs := by
  have hg := gauged_setWindow (s := s.advanceTo n) layer 0
  refine ⟨_, windowLengthen_lengthens hwindow hdue hforced hsr ?_, ?_, hg.now.trans (now_advanceTo n),
    keepsData_trans (keepsData_advanceTo n) hg.keepsData, hg.pcs⟩
  · refine lengthened_of_held (since := since) ?_ ?_ ?_
    · rw [window_advanceTo, hwindow]
    · rw [layer_advanceTo, hbelow]
    · rw [now_advanceTo]
      exact le_max_of_le_right hheld
  · refine window_setWindow (by decide) ?_ habsent
    rw [window_advanceTo, hwindow]
    decide

theorem sixteenMs : 16 * psMs = 16000000000 := by norm_num [psMs]

/-- Settles O12: PC_REF_CTL, longer windows, and entry to and exit from self-refresh. -/
theorem refreshControlAndSelfRefresh : Obligations.RefreshControlAndSelfRefresh := by
  unfold Obligations.RefreshControlAndSelfRefresh
  refine ⟨fun who pc val s htakes => ?_, fun layer since s hwindow hbelow hforced hsr habsent => ?_,
    fun pc s hen hidle hawake hsuspect => ?_, fun who pc s htakes hidle hawake hsuspect => ?_, fun pc s hentering => ?_,
    fun pc s hin => ?_⟩
  · obtain ⟨hdata, hnow⟩ := setRefCtl_keeps (s := s) pc (val.toNat % 16) (val.toNat / 2 ^ 16 % 4)
    refine ⟨s.setRefCtl pc (val.toNat % 16) (val.toNat / 2 ^ 16 % 4), congrArg Host.Outcome.next (command_takes htakes _ _),
      ?_, ?_, hdata, hnow⟩
    · rw [rd_setRefCtl (postponeMax_notMem pc.isLt), refCtlWritten, rd_wr_apart (by rfl)]
      exact rd_wr_lt (show min 8 (val.toNat % 16) < 16 by omega)
    · rw [rd_setRefCtl windowForce_notMem, refCtlWritten]
      refine rd_wr_lt (show _ < 4 from ?_)
      split <;> omega
  · have hdue : (s.layer layer).below80.map (· + 16 * psMs) = some (since + 16000000000) := by
      rw [hbelow, Option.map_some, sixteenMs]
    have hheld : since + 16 * psMs ≤ since + 16000000000 := by rw [sixteenMs]
    exact windowLengthen_meets hwindow hbelow hforced hsr habsent hdue hheld
  · obtain ⟨n, hexec⟩ := srIdleExpiry_enters hen hidle hawake hsuspect
    exact ⟨_, hexec, entering_startEntry _, fun b _ => startEntry_closes _ _, (writes_startEntry _).regs,
      idleEntry_frame _ _⟩
  · refine ⟨s.startEntry pc, ?_, entering_startEntry _, fun b _ => startEntry_closes _ _, (writes_startEntry _).regs,
      startEntry_frame _⟩
    exact congrArg Host.Outcome.next ((command_takes htakes _ _).trans (beginSr_enters hawake hidle hsuspect))
  · obtain ⟨hin, hout, hcount⟩ := sreTaken_reads (s := sreRefreshed s pc) (pc := pc)
    refine ⟨s.issueSre pc, ?_, ?_, ?_, ?_, fun b hb => balance_issueSre hb, ((Runs.refl s).issueSre).keepsData⟩
    · show Machine.execSreIssue pc s = _
      rw [Machine.execSreIssue, if_neg (by simp [hentering])]
    · rw [rd_issueSre (by rfl) (by rfl), hin]
    · rw [rd_issueSre (by rfl) (by rfl), hout]
    · rw [CountedUp, rd_issueSre (by rfl) (by rfl), hcount, rd_sreRefreshed (by rfl)]
  · obtain ⟨hout, hbal⟩ := exitSr_out (s := s) pc
    refine ⟨s.exitSr pc, ?_, hout, hbal, ((Runs.refl s).exitSr).keepsData⟩
    show Machine.execSrxIssue pc s = _
    rw [Machine.execSrxIssue, if_neg (by simp [hin])]

end Sys2Proof.Proofs

/-! # Erasures, write-backs and the scrub (R96, R100 to R104) -/

namespace Sys2Proof.Proofs

open Sys2Proof Sys2Proof.Machine Sys2Proof.Laws

variable {s t u : State}

/-! ## The end of an erasure (R100) -/

theorem clearErasure_only {pc lane : Nat} (h : s.erasedLanes pc = [lane]) :
    (s.clearErasure pc lane).rd (PC_ECC_STAT.erased.pc pc) = 0 ∧
      (s.clearErasure pc lane).rd ((PC_LANE_CNT.count.pc pc).ix lane) = 0 := by
  have hleft : (s.erasedLanes pc).filter (fun l => decide (l ≠ lane)) = [] := by simp [h]
  constructor
  · rw [State.clearErasure, rd_wr_apart (by rfl), State.setPc_rd, rd_wr_apart (by rfl), rd_wr_apart (by rfl), hleft]
    exact rd_wr_lt (Nat.two_pow_pos _)
  · exact rd_wr_lt (Nat.two_pow_pos _)

theorem keepsData_clearErasure (pc lane : Nat) : KeepsData s (s.clearErasure pc lane) := by
  unfold State.clearErasure
  exact keepsData_trans (((logged_wr _ _).wr _ _).wr _ _).keepsData
    (keepsData_trans (keepsData_setPc _ _) (logged_wr _ _).keepsData)

/-- The end of an erasure is told and recorded. -/
def erasureEnds (s : State) (pc lane : Nat) : State :=
  ((s.clearErasure pc lane).err (0x40 + pc) 0x0208 lane).appendRecord

theorem laneErasureClear_ends {who : Accessor} {pc : PcNo} {lane : Nat} (htakes : takes s who (0x40 + pc.val) = true)
    (hlife : s.lifeCycle = 3) (herased : s.erasedLanes pc = [lane]) :
    exec (.laneErasureClear who pc 0x45520001) s = .next (erasureEnds s pc lane) := by
  have hclear : (0x45520001 : Word).toNat % 4 = 1 := by decide
  have hkey : (0x45520001 : Word).toNat / 2 ^ 16 = 0x4552 := by decide
  have h₀ : bitOf 1 0 = true := by decide
  have h₁ : bitOf 1 1 = false := by decide
  refine congrArg Host.Outcome.next ((command_takes htakes _ _).trans ?_)
  simp only [hclear, hkey, hlife, herased, h₀, h₁]
  simp [erasureEnds, State.forAll]

theorem laneErasureClear_refused {who : Accessor} {pc : PcNo} {val : Word} (htakes : takes s who (0x40 + pc.val) = true)
    (hrefused : s.lifeCycle = 2 ∨ val.toNat / 2 ^ 16 ≠ 0x4552) :
    exec (.laneErasureClear who pc val) s = .next (s.put (PC_ECC_STAT.clear_refused.pc pc)) := by
  refine congrArg Host.Outcome.next ((command_takes htakes _ _).trans (if_pos ?_))
  obtain hlife | hkey := hrefused
  · exact .inl (by rw [hlife]; decide)
  · exact .inr (.inl hkey)

/-! ## Write-backs (R96) -/

theorem rouse_awake {pc : Nat} {who : Nat × Nat × Nat} (hin : s.on (PC_SR_STAT.in_sr.pc pc) = false)
    (hentering : s.on (PC_SR_STAT.entering.pc pc) = false) : s.rouse pc who = s := by
  rw [State.rouse, if_neg (by simp [hentering]), if_neg (by simp [hin])]

theorem wakeForEngine_awake {pc : Nat} {who : Nat × Nat × Nat} (hin : s.on (PC_SR_STAT.in_sr.pc pc) = false)
    (hentering : s.on (PC_SR_STAT.entering.pc pc) = false) :
    s.wakeForEngine pc who = s.setPc pc { s.pc pc with idleSince := s.now } := by
  rw [State.wakeForEngine, rouse_awake hin hentering]
  simp only [hin, Bool.false_eq_true, if_false]

/-- A row that an engine has reached: only its controller and its layer's heat have changed. -/
structure RowOpened (pc : Nat) (s t : State) : Prop where
  frame : t = { s with pcs := t.pcs, therm := t.therm }
  wb : (t.pc pc).wb = (s.pc pc).wb

theorem RowOpened.refl (pc : Nat) (s : State) : RowOpened pc s s := ⟨rfl, rfl⟩

theorem RowOpened.setPc {pc : Nat} {c : Pc} (h : RowOpened pc s t) (hc : c.wb = (t.pc pc).wb := by exact rfl) :
    RowOpened pc s (t.setPc pc c) :=
  ⟨congrArg (fun u => u.setPc pc c) h.frame, by rw [State.pc_setPc, hc, h.wb]⟩

theorem RowOpened.setHeat {pc n : Nat} {v : LayerTherm} (h : RowOpened pc s t) : RowOpened pc s (t.setHeat n v) :=
  ⟨congrArg (fun u => u.setHeat n v) h.frame, h.wb⟩

theorem RowOpened.ite {pc : Nat} {c : Prop} [Decidable c] {a b : State} (ha : RowOpened pc s a) (hb : RowOpened pc s b) :
    RowOpened pc s (if c then a else b) := by
  split
  · exact ha
  · exact hb

theorem RowOpened.runLfsr {pc : Nat} (h : RowOpened pc s t) : RowOpened pc s (t.runLfsr pc) := by
  unfold State.runLfsr
  exact .ite h h.setPc

theorem RowOpened.sampleAt {pc bank row at_ : Nat} (h : RowOpened pc s t) : RowOpened pc s (t.sampleAt pc bank row at_) := by
  unfold State.sampleAt
  exact .ite h h.setPc

theorem RowOpened.activateRow {pc bank row : Nat} (h : RowOpened pc s t) :
    RowOpened pc s (t.activateRow pc bank row) := by
  unfold State.activateRow State.sample State.heatCount
  extract_lets c b
  exact h.setPc.runLfsr.sampleAt.setHeat

theorem engineRow_awake {loc access master : Nat} (hin : s.on (PC_SR_STAT.in_sr.pc (s.placeOf loc).pc) = false)
    (hentering : s.on (PC_SR_STAT.entering.pc (s.placeOf loc).pc) = false) :
    RowOpened (s.placeOf loc).pc s (s.engineRow loc access master) := by
  have hwake := wakeForEngine_awake (who := (loc, access, master)) hin hentering
  have hset : RowOpened (s.placeOf loc).pc s (s.wakeForEngine (s.placeOf loc).pc (loc, access, master)) := by
    rw [hwake]
    exact (RowOpened.refl _ s).setPc
  unfold State.engineRow
  exact .ite hset hset.activateRow

theorem wb_dropWb (loc : Nat) : ((s.dropWb loc).pc (s.placeOf loc).pc).wb =
    (s.pc (s.placeOf loc).pc).wb.filter fun e => decide (e.1 ≠ lineAddr loc) := by
  unfold State.dropWb
  simp only
  split
  · rw [State.pc_setPc]
  case isFalse h =>
    refine (List.filter_eq_self.2 fun e he => ?_).symm
    have hne := List.any_eq_false.1 (Bool.eq_false_iff.2 h) e he
    simpa using hne

/-- A line that is no poisoned one is written as it is, where no injection waits. -/
theorem writeLine_plain {loc access master : Nat} {l : StoredLine} (hgood : l ≠ StoredLine.poisoned l.data)
    (hinj : (s.engineRow loc access master).bist.inj = []) :
    s.writeLine loc l access master = stored (s.engineRow loc access master) loc l := by
  unfold State.writeLine
  rw [encodeOut_none hinj]
  exact if_neg hgood

/-- The oldest write-back of a PC is taken. -/
def wbTaken (s : State) (pc : Nat) (rest : List (Nat × StoredLine)) : State :=
  s.setPc pc { s.pc pc with wb := rest }

/-- The line of the oldest write-back is stored. -/
def wbWritten (s : State) (pc loc : Nat) (l : StoredLine) (rest : List (Nat × StoredLine)) : State :=
  stored ((wbTaken s pc rest).engineRow loc 4 0x11) loc l

section
variable {pc loc : Nat} {l : StoredLine} {rest : List (Nat × StoredLine)}

theorem wbTaken_opened (hplace : (s.placeOf loc).pc = pc) (hin : s.on (PC_SR_STAT.in_sr.pc pc) = false)
    (hentering : s.on (PC_SR_STAT.entering.pc pc) = false) :
    RowOpened pc (wbTaken s pc rest) ((wbTaken s pc rest).engineRow loc 4 0x11) := by
  have hplace' : ((wbTaken s pc rest).placeOf loc).pc = pc := hplace
  have h := engineRow_awake (s := wbTaken s pc rest) (loc := loc) (access := 4) (master := 0x11)
    (by rw [hplace']; exact hin) (by rw [hplace']; exact hentering)
  rwa [hplace'] at h

theorem wbTaken_frame : wbTaken s pc rest = { s with pcs := (wbTaken s pc rest).pcs } := rfl

theorem opened_frame (h : RowOpened pc (wbTaken s pc rest) t) : t = { s with pcs := t.pcs, therm := t.therm } := by
  rw [h.frame, wbTaken_frame]

theorem correctedWriteback_writes {pc : PcNo} (hwb : (s.pc pc).wb = (loc, l) :: rest)
    (hwrite : (s.pc pc).writeTo loc = none) (hbursts : (s.pc pc).wbursts = []) (hinj : s.bist.inj = [])
    (hgood : l ≠ StoredLine.poisoned l.data)
    (hopened : RowOpened pc (wbTaken s pc rest) ((wbTaken s pc rest).engineRow loc 4 0x11)) :
    exec (.correctedWriteback pc) s = .next ((wbWritten s pc loc l rest).chargeEng 0x11 1) := by
  have hinj' : ((wbTaken s pc rest).engineRow loc 4 0x11).bist.inj = [] := by
    rw [opened_frame hopened]
    exact hinj
  show Machine.execCorrectedWriteback pc s = _
  have hwritten : (wbTaken s pc rest).writeLine loc l 4 0x11 = wbWritten s pc loc l rest := writeLine_plain hgood hinj'
  unfold Machine.execCorrectedWriteback
  extract_lets c
  have hc : c.wb = (loc, l) :: rest := hwb
  have hidle : ¬(((c.writeTo loc).isSome || c.wbursts.any fun r => decide (lineAddr r.loc = loc)) = true) := by
    simp [c, hwrite, hbursts]
  rw [hc]
  refine (if_neg hidle).trans ?_
  exact congrArg (fun u => Host.Outcome.next (State.chargeEng u 0x11 1)) hwritten

theorem wb_wbWritten (hplace : (s.placeOf loc).pc = pc)
    (hopened : RowOpened pc (wbTaken s pc rest) ((wbTaken s pc rest).engineRow loc 4 0x11)) :
    ((wbWritten s pc loc l rest).pc pc).wb = rest.filter fun e => decide (e.1 ≠ lineAddr loc) := by
  have hplace' : (((wbTaken s pc rest).engineRow loc 4 0x11).placeOf loc).pc = pc := by
    rw [opened_frame hopened]
    exact hplace
  have hstored : ∀ u : State, (stored u loc l).pc pc = (u.dropWb loc).pc pc := fun _ => rfl
  have hdrop := wb_dropWb (s := (wbTaken s pc rest).engineRow loc 4 0x11) loc
  rw [hplace'] at hdrop
  rw [wbWritten, hstored, hdrop, hopened.wb, wbTaken, State.pc_setPc]

theorem wbWritten_frame (hopened : RowOpened pc (wbTaken s pc rest) ((wbTaken s pc rest).engineRow loc 4 0x11)) :
    wbWritten s pc loc l rest = { s with
      pcs := (wbWritten s pc loc l rest).pcs, lines := (wbWritten s pc loc l rest).lines
      mbox := (wbWritten s pc loc l rest).mbox, therm := (wbWritten s pc loc l rest).therm } := by
  unfold wbWritten
  rw [stored_frame, opened_frame hopened]

theorem line_wbWritten_ne {a : Nat} (ha : a / 64 ≠ loc / 64)
    (hopened : RowOpened pc (wbTaken s pc rest) ((wbTaken s pc rest).engineRow loc 4 0x11)) :
    (wbWritten s pc loc l rest).line a = s.line a := by
  rw [wbWritten, line_stored_ne _ ha, opened_frame hopened]
  rfl

end

theorem chargeEng_frame (h : t = { s with pcs := t.pcs, lines := t.lines, mbox := t.mbox, therm := t.therm }) (m n : Nat) :
    t.chargeEng m n = { s with
      pcs := (t.chargeEng m n).pcs, lines := (t.chargeEng m n).lines, gauge := (t.chargeEng m n).gauge
      therm := (t.chargeEng m n).therm, mbox := (t.chargeEng m n).mbox } := by
  rw [h]
  rfl

theorem pc_chargeEng (m n p : Nat) : (s.chargeEng m n).pc p = s.pc p := rfl
theorem line_chargeEng (m n a : Nat) : (s.chargeEng m n).line a = s.line a := rfl
theorem rd_chargeEng (m n : Nat) (f : Fld) : (s.chargeEng m n).rd f = s.rd f := rfl

/-! ## What a walk leaves of each controller -/

/-- What of a controller is neither its rows nor its clock nor its queue. -/
def jobs (c : Pc) : Pc :=
  { c with
    queue := [], banks := [], acts := [], lfsr := 0, lfsrAt := 0, idleSince := 0, sreAt := 0, srAt := 0, wakeAt := none
    wakeBy := (0, 0, 0), ungatedAt := 0 }

/-- Every controller has kept its jobs. -/
structure JobsKept (s t : State) : Prop where
  same : ∀ p, jobs (t.pc p) = jobs (s.pc p)

theorem JobsKept.refl (s : State) : JobsKept s s := ⟨fun _ => rfl⟩

theorem JobsKept.pcs (h : JobsKept s t) (hu : u.pcs = t.pcs) : JobsKept s u :=
  ⟨fun p => by rw [State.pc, hu]; exact h.same p⟩

theorem JobsKept.setPc {p : Nat} {c : Pc} (h : JobsKept s t) (hc : jobs c = jobs (t.pc p) := by exact rfl) :
    JobsKept s (t.setPc p c) := by
  refine ⟨fun q => ?_⟩
  by_cases hq : q = p
  · subst hq
    rw [State.pc_setPc, hc, h.same]
  · rw [State.pc_setPc_ne _ hq, h.same]

theorem JobsKept.ite {c : Prop} [Decidable c] {a b : State} (ha : JobsKept s a) (hb : JobsKept s b) :
    JobsKept s (if c then a else b) := by
  split
  · exact ha
  · exact hb

theorem JobsKept.forAll {α : Type} {f : State → α → State} {as : List α} (h : JobsKept s t)
    (hf : ∀ u a, JobsKept s u → JobsKept s (f u a)) : JobsKept s (t.forAll as f) :=
  List.foldlRecOn (motive := JobsKept s) as f h fun u hu a _ => hf u a hu

theorem JobsKept.logged (h : JobsKept s t) (hl : Logged t u) : JobsKept s u := h.pcs (by rw [hl.frame])

theorem JobsKept.wr {f : Fld} {v : Nat} (h : JobsKept s t) : JobsKept s (t.wr f v) := h.pcs rfl
theorem JobsKept.put {f : Fld} (h : JobsKept s t) : JobsKept s (t.put f) := h.wr
theorem JobsKept.clr {f : Fld} (h : JobsKept s t) : JobsKept s (t.clr f) := h.wr
theorem JobsKept.bump {f : Fld} (h : JobsKept s t) : JobsKept s (t.bump f) := h.wr
theorem JobsKept.cause {p b : Nat} (h : JobsKept s t) : JobsKept s (t.cause p b) := h.logged (logged_cause p b)

theorem JobsKept.longest {f : Fld} {n : Nat} (h : JobsKept s t) : JobsKept s (t.longest f n) := .ite h.wr h

theorem JobsKept.errReq {page code dpa access master : Nat} (h : JobsKept s t) :
    JobsKept s (t.errReq page code dpa access master) := h.logged (logged_errReq _ _ _ _ _)

theorem JobsKept.runDomain {d : Nat} (h : JobsKept s t) : JobsKept s (t.runDomain d) := h.logged (logged_runDomain d)
theorem JobsKept.advanceTo {n : Nat} (h : JobsKept s t) : JobsKept s (t.advanceTo n) := h.pcs rfl
theorem JobsKept.setLayer {n : Nat} {v : Layer} (h : JobsKept s t) : JobsKept s (t.setLayer n v) := h.pcs rfl
theorem JobsKept.setHeat {n : Nat} {v : LayerTherm} (h : JobsKept s t) : JobsKept s (t.setHeat n v) := h.pcs rfl

theorem JobsKept.fixCal {m : Nat} (h : JobsKept s t) : JobsKept s (t.fixCal m) :=
  ⟨fun p => by rw [pc_fixCal, h.same]⟩

theorem JobsKept.fixGauge (h : JobsKept s t) : JobsKept s t.fixGauge := h.pcs gauged_fixGauge.pcs

theorem JobsKept.runLfsr {pc : Nat} (h : JobsKept s t) : JobsKept s (t.runLfsr pc) := by
  unfold State.runLfsr
  exact .ite h h.setPc

theorem JobsKept.takeDivider {layer : Nat} (h : JobsKept s t) : JobsKept s (t.takeDivider layer) := by
  have hrun : JobsKept s (t.runLfsrs layer) := h.forAll fun _ _ k => k.runLfsr
  unfold State.takeDivider
  exact .ite h (JobsKept.forAll hrun.setLayer fun _ _ k => k.fixCal).fixGauge

theorem JobsKept.ungate {layer : Nat} (h : JobsKept s t) : JobsKept s (t.ungate layer) := by
  unfold State.ungate
  exact .ite h (JobsKept.takeDivider (h.forAll fun _ _ k => k.setPc.clr))

theorem JobsKept.refreshed {pc n : Nat} (h : JobsKept s t) : JobsKept s (t.refreshed pc n) := h.pcs rfl

theorem JobsKept.abortSr {pc : Nat} (h : JobsKept s t) : JobsKept s (t.abortSr pc) := by
  unfold State.abortSr
  extract_lets c rfc done banks t₁
  clear_value banks done
  have h₁ : JobsKept s t₁ := JobsKept.refreshed h.setPc
  exact h₁.clr.bump.clr

theorem JobsKept.rouse {pc : Nat} {who : Nat × Nat × Nat} (h : JobsKept s t) : JobsKept s (t.rouse pc who) := by
  unfold State.rouse
  exact .ite h.abortSr (.ite h.ungate.setPc.put h)

theorem JobsKept.exitSr {pc : Nat} (h : JobsKept s t) : JobsKept s (t.exitSr pc) := by
  unfold State.exitSr
  extract_lets _ _ _ t₁ _ _ _ _ _ t₂
  have h₁ : JobsKept s t₁ := h.runDomain.advanceTo.ungate
  have h₂ : JobsKept s t₂ := h₁.setPc.clr.cause.fixCal
  split
  · exact h₂
  · exact .ite h₂.longest.errReq h₂.longest

theorem JobsKept.wakeForEngine {pc : Nat} {who : Nat × Nat × Nat} (h : JobsKept s t) :
    JobsKept s (t.wakeForEngine pc who) := by
  unfold State.wakeForEngine
  exact (JobsKept.ite h.rouse.exitSr h.rouse).setPc

theorem JobsKept.sampleAt {pc bank row at_ : Nat} (h : JobsKept s t) : JobsKept s (t.sampleAt pc bank row at_) := by
  unfold State.sampleAt
  exact .ite h h.setPc

theorem JobsKept.activateRow {pc bank row : Nat} (h : JobsKept s t) : JobsKept s (t.activateRow pc bank row) := by
  unfold State.activateRow State.sample State.heatCount
  extract_lets c b
  exact h.setPc.runLfsr.sampleAt.setHeat

theorem JobsKept.engineRow {loc access master : Nat} (h : JobsKept s t) : JobsKept s (t.engineRow loc access master) := by
  unfold State.engineRow
  exact .ite h.wakeForEngine h.wakeForEngine.activateRow

end Sys2Proof.Proofs

/-! # The scrub (R101 to R104) -/

namespace Sys2Proof.Proofs

open Sys2Proof Sys2Proof.Machine Sys2Proof.Laws

variable {s t u : State}

/-! ## A line that reads cleared -/

/-- The decoder judges a line alike where its array, its layout and the erasures of its PC are the same. -/
theorem judge_congr (hlines : t.lines = s.lines) (hmap : t.rd KERF_STACK_CFG.map_out = s.rd KERF_STACK_CFG.map_out)
    (habsent : t.rd KERF_STACK_CFG.absent_layer = s.rd KERF_STACK_CFG.absent_layer)
    (hlayers : t.rd KERF_STACK_CFG.layers_present = s.rd KERF_STACK_CFG.layers_present)
    (hecc : ∀ p, t.rd (PC_ECC_CTL.mode.pc p) = s.rd (PC_ECC_CTL.mode.pc p) ∧
      t.rd (PC_ECC_STAT.erased.pc p) = s.rd (PC_ECC_STAT.erased.pc p) ∧
      t.rd (PC_ECC_STAT.lane0.pc p) = s.rd (PC_ECC_STAT.lane0.pc p) ∧
      t.rd (PC_ECC_STAT.lane1.pc p) = s.rd (PC_ECC_STAT.lane1.pc p)) (loc : Nat) (errs : List (Nat × Nat)) :
    t.judge loc errs = s.judge loc errs := by
  have hon : t.on KERF_STACK_CFG.map_out = s.on KERF_STACK_CFG.map_out := by rw [State.on, State.on, hmap]
  have hpresent : t.layersPresent = s.layersPresent := by rw [State.layersPresent, State.layersPresent, hlayers]
  have hplace : t.placeOf loc = s.placeOf loc := by rw [State.placeOf, State.placeOf, hon, habsent, hpresent]
  obtain ⟨hmode, herased, hlane0, hlane1⟩ := hecc (s.placeOf loc).pc
  simp only [State.judge, hplace, State.erasedLanes, hmode, herased, hlane0, hlane1, State.line, hlines]

theorem Runs.judge (h : Runs s t) (loc : Nat) (errs : List (Nat × Nat)) : t.judge loc errs = s.judge loc errs :=
  judge_congr h.keepsData.1 h.rd h.rd h.rd (fun _ => ⟨h.rd, h.rd, h.rd, h.rd⟩) loc errs

/-- The scrub reads a line in the cleared form and finds nothing (R101, R48). -/
theorem engineRead_cleared {loc : Nat} (hinj : s.bist.inj = []) (hout : (s.judge loc []).outcome = .cleared)
    (hlanes : (s.judge loc []).lanes = []) :
    (s.engineRead loc [] true 4 0x11).2 = s.engineRow loc 4 0x11 := by
  have hruns := (Runs.refl s).engineRow (loc := loc) (access := 4) (master := 0x11)
  have hinj' : (s.engineRow loc 4 0x11).bist.inj = [] := by
    rw [hruns.frame]
    exact hinj
  have hjudge := hruns.judge loc []
  simp [State.engineRead, takeInjection_none hinj', hjudge, State.observe, hout, hlanes]

/-! ## A line of a pass -/

/-- The line that the scrub reads, its charge and its place in SCRUB_STAT. -/
def lineScrubbed (s : State) (pc loc : Nat) : State :=
  ((s.chargeEng 0x11 1).wr SCRUB_STAT.pc_last pc).engineRow loc 4 0x11

/-- The line is noted as scrubbed. -/
def scrubNoted (s : State) (pc loc : Nat) : State :=
  (s.setPc pc { s.pc pc with
    scrubbed := Sparse.set (fun _ => none) (s.pc pc).scrubbed (s.scrubIndex loc) (some s.now) }).fixScrub pc

theorem scrubLine_cleared {pc loc : Nat} (hinj : s.bist.inj = []) (hout : (s.judge loc []).outcome = .cleared)
    (hlanes : (s.judge loc []).lanes = []) :
    s.scrubLine pc loc [] true = scrubNoted (lineScrubbed s pc loc) pc loc := by
  have hjudge : ((s.chargeEng 0x11 1).wr SCRUB_STAT.pc_last pc).judge loc [] = s.judge loc [] :=
    judge_congr (State.wr_lines _ _ _) (rd_wr_apart (by rfl) _) (rd_wr_apart (by rfl) _) (rd_wr_apart (by rfl) _)
      (fun p => ⟨rd_wr_apart (by rfl) _, rd_wr_apart (by rfl) _, rd_wr_apart (by rfl) _, rd_wr_apart (by rfl) _⟩) loc []
  have hinj' : ((s.chargeEng 0x11 1).wr SCRUB_STAT.pc_last pc).bist.inj = [] := hinj
  have hread := engineRead_cleared (s := (s.chargeEng 0x11 1).wr SCRUB_STAT.pc_last pc) (loc := loc) hinj'
    (by rw [hjudge, hout]) (by rw [hjudge, hlanes])
  unfold State.scrubLine
  simp only [hread, hout, hlanes, Bool.not_true, Bool.false_eq_true, if_false, ne_eq, not_true_eq_false, reduceCtorEq,
    scrubNoted, lineScrubbed]

theorem scrubPos_of_jobs {p : Nat} (h : JobsKept s t) : (t.pc p).scrubPos = (s.pc p).scrubPos := by
  have hsame := congrArg Pc.scrubPos (h.same p)
  exact hsame

theorem jobsKept_chargeEng (m n : Nat) : JobsKept s (s.chargeEng m n) := (JobsKept.refl s).pcs rfl
theorem keepsData_chargeEng (m n : Nat) : KeepsData s (s.chargeEng m n) := ⟨rfl, rfl, rfl, rfl⟩

theorem lineScrubbed_keeps {pc loc : Nat} (hpc : pc < 64) : JobsKept s (lineScrubbed s pc loc) ∧
    KeepsData s (lineScrubbed s pc loc) ∧ (lineScrubbed s pc loc).rd SCRUB_STAT.running = s.rd SCRUB_STAT.running ∧
    (lineScrubbed s pc loc).rd SCRUB_STAT.pc_last = pc := by
  have hruns := (Runs.refl ((s.chargeEng 0x11 1).wr SCRUB_STAT.pc_last pc)).engineRow (loc := loc) (access := 4)
    (master := 0x11)
  have hjobs : JobsKept s ((s.chargeEng 0x11 1).wr SCRUB_STAT.pc_last pc) := (jobsKept_chargeEng _ _).wr
  have hdata : KeepsData s ((s.chargeEng 0x11 1).wr SCRUB_STAT.pc_last pc) :=
    keepsData_trans (keepsData_chargeEng _ _) (logged_wr _ _).keepsData
  unfold lineScrubbed
  refine ⟨hjobs.engineRow, keepsData_trans hdata hruns.keepsData, ?_, ?_⟩
  · rw [hruns.rd, rd_wr_apart (by rfl), rd_chargeEng]
  · rw [hruns.rd]
    exact rd_wr_lt hpc

theorem fixScrub_keeps (pc : Nat) : KeepsData s (s.fixScrub pc) ∧
    (∀ p, ((s.fixScrub pc).pc p).scrubPos = (s.pc p).scrubPos) ∧
    Writes [SCRUB_STAT.behind, SCRUB_STAT.overdue] s (s.fixScrub pc) := by
  unfold State.fixScrub
  extract_lets age c n t₁
  have hpos : ∀ p, (t₁.pc p).scrubPos = (s.pc p).scrubPos := fun p => by
    by_cases hp : p = pc
    · rw [hp, State.pc_setPc]
    · rw [State.pc_setPc_ne _ hp]
  have hw : Writes [SCRUB_STAT.behind, SCRUB_STAT.overdue] s t₁ := (Writes.refl s).setPc
  split
  · exact ⟨KeepsData.refl s, fun _ => rfl, .refl s⟩
  · exact ⟨keepsData_trans (keepsData_setPc _ _) ((logged_wr _ _).wr _ _).keepsData, hpos,
      (hw.wr (.head _)).wr (.tail _ (.head _))⟩

theorem scrubNoted_keeps (pc loc : Nat) : KeepsData s (scrubNoted s pc loc) ∧
    (∀ p, ((scrubNoted s pc loc).pc p).scrubPos = (s.pc p).scrubPos) ∧
    Writes [SCRUB_STAT.behind, SCRUB_STAT.overdue] s (scrubNoted s pc loc) := by
  obtain ⟨hdata, hpos, hw⟩ := fixScrub_keeps (s := s.setPc pc { s.pc pc with
    scrubbed := Sparse.set (fun _ => none) (s.pc pc).scrubbed (s.scrubIndex loc) (some s.now) }) pc
  refine ⟨keepsData_trans (keepsData_setPc _ _) hdata, fun p => (hpos p).trans ?_, ((Writes.refl s).setPc).trans hw⟩
  by_cases hp : p = pc
  · rw [hp, State.pc_setPc]
  · rw [State.pc_setPc_ne _ hp]

/-! ## The pass -/

/-- A wait of the scrub is over, and its pointer has moved on. -/
def scrubAdvanced (s : State) (pc : Nat) : State :=
  ((s.scrubGoesOn pc).put SCRUB_STAT.running).setPc pc
    { ((s.scrubGoesOn pc).put SCRUB_STAT.running).pc pc with
      scrubPos := (((s.scrubGoesOn pc).put SCRUB_STAT.running).pc pc).scrubPos + 1 }

/-- What the end of a wait keeps. -/
structure WaitOver (pc : Nat) (s t : State) : Prop where
  writes : Writes [KERF_STALL_MAX.ns.ix 4] s t
  frame : t = { s with flds := t.flds, pcs := t.pcs }
  pos : (t.pc pc).scrubPos = (s.pc pc).scrubPos
  back : (t.pc pc).scrubBack = (s.pc pc).scrubBack

theorem waitOver_scrubGoesOn (pc : Nat) : WaitOver pc s (s.scrubGoesOn pc) := by
  have hlong : ∀ n, Writes [KERF_STALL_MAX.ns.ix 4] s (s.longest (KERF_STALL_MAX.ns.ix 4) n) ∧
      s.longest (KERF_STALL_MAX.ns.ix 4) n = { s with flds := (s.longest (KERF_STALL_MAX.ns.ix 4) n).flds } := fun n => by
    unfold State.longest
    split
    · exact ⟨(Writes.refl s).wr (.head _), rfl⟩
    · exact ⟨.refl s, rfl⟩
  unfold State.scrubGoesOn
  split
  case h_1 t₀ _ =>
    obtain ⟨hw, hframe⟩ := hlong ((s.now - t₀) / psNs)
    generalize s.longest (KERF_STALL_MAX.ns.ix 4) ((s.now - t₀) / psNs) = u at hw hframe ⊢
    refine ⟨hw.setPc, ?_, ?_, ?_⟩
    · rw [hframe]
      rfl
    · rw [State.pc_setPc]
    · rw [State.pc_setPc]
  · exact ⟨.refl s, rfl, rfl, rfl⟩

/-- The scrub of a PC goes on with its next line. -/
def scrubRuns (s : State) (pc : Nat) : State := (s.scrubGoesOn pc).put SCRUB_STAT.running

theorem locAt_congr (hmap : t.rd KERF_STACK_CFG.map_out = s.rd KERF_STACK_CFG.map_out)
    (habsent : t.rd KERF_STACK_CFG.absent_layer = s.rd KERF_STACK_CFG.absent_layer)
    (hlayers : t.rd KERF_STACK_CFG.layers_present = s.rd KERF_STACK_CFG.layers_present) (p : Place) :
    t.locAt p = s.locAt p := by
  have hon : t.on KERF_STACK_CFG.map_out = s.on KERF_STACK_CFG.map_out := by rw [State.on, State.on, hmap]
  have hpresent : t.layersPresent = s.layersPresent := by rw [State.layersPresent, State.layersPresent, hlayers]
  rw [State.locAt, State.locAt, hon, habsent, hpresent]

theorem unfinishedBy_congr (hkerf : t.kerf = s.kerf) (h₀ : t.rd (KERF_STAT.state.ix 0) = s.rd (KERF_STAT.state.ix 0))
    (h₁ : t.rd (KERF_STAT.state.ix 1) = s.rd (KERF_STAT.state.ix 1)) (q : Nat) : t.unfinishedBy q = s.unfinishedBy q := by
  rw [State.unfinishedBy, State.unfinishedBy, State.kerfActive, State.kerfActive, State.kerfActive, State.kerfActive,
    State.eng, State.eng, State.eng, State.eng, hkerf, h₀, h₁]

theorem frame_put (h : t = { s with flds := t.flds, pcs := t.pcs }) (f : Fld) :
    t.put f = { s with flds := (t.put f).flds, pcs := (t.put f).pcs } :=
  congrArg (fun u => u.put f) h

theorem unfinishedBy_setPc (s : State) (pc : Nat) (c : Pc) (q : Nat) :
    (s.setPc pc c).unfinishedBy q = s.unfinishedBy q := rfl

/-- What the scrub of a PC keeps as it goes on. -/
theorem scrubRuns_keeps (pc : Nat) : (scrubRuns s pc).rd SCRUB_STAT.running = 1 ∧
    ((scrubRuns s pc).pc pc).scrubPos = (s.pc pc).scrubPos ∧ ((scrubRuns s pc).pc pc).scrubBack = (s.pc pc).scrubBack ∧
    scrubRuns s pc = { s with flds := (scrubRuns s pc).flds, pcs := (scrubRuns s pc).pcs } ∧
    Writes [KERF_STALL_MAX.ns.ix 4, SCRUB_STAT.running] s (scrubRuns s pc) := by
  obtain ⟨hw, hframe, hpos, hback⟩ := waitOver_scrubGoesOn (s := s) pc
  refine ⟨rd_put_self, ?_, ?_, frame_put hframe _, (hw.mono (by simp)).put (.tail _ (.head _))⟩
  · rw [scrubRuns, State.put_eq, State.wr_pc, hpos]
  · rw [scrubRuns, State.put_eq, State.wr_pc, hback]

theorem scrubAdvanced_eq (pc : Nat) : scrubAdvanced s pc = (scrubRuns s pc).setPc pc
    { (scrubRuns s pc).pc pc with scrubPos := ((scrubRuns s pc).pc pc).scrubPos + 1 } := rfl

theorem scrubRead_reads {pc : PcNo} {loc : Nat} (hen : s.on SCRUB_CTL.scrub_en = true) (hsafe : s.safe = false)
    (hserving : s.serving = true) (hpresent : s.pcPresent pc = true) (hin : s.on (PC_SR_STAT.in_sr.pc pc) = false)
    (hlast : (s.pc pc).scrubPos + 1 < pcLines) (hback : (s.pc pc).scrubBack = []) (hstalls : s.scrubStalls pc = none)
    (hloc : s.locAt (scrubPlace pc (s.pc pc).scrubPos) = loc) (hunfinished : s.unfinishedBy (quireOf loc) = none) :
    exec (.scrubRead pc [] true) s = .next ((scrubAdvanced s pc).scrubLine pc loc [] true) := by
  obtain ⟨-, hpos, hback', hframe, hw⟩ := scrubRuns_keeps (s := s) pc
  have hloc' : (scrubRuns s pc).locAt (scrubPlace pc (s.pc pc).scrubPos) = loc := by
    rw [locAt_congr (hw.rd (by rfl)) (hw.rd (by rfl)) (hw.rd (by rfl)), hloc]
  have hkerf : (scrubRuns s pc).kerf = s.kerf := by rw [hframe]
  have hunfinished' : ∀ c : Pc, ((scrubRuns s pc).setPc pc c).unfinishedBy (quireOf loc) = none := fun c =>
    (unfinishedBy_setPc _ _ _ _).trans
      ((unfinishedBy_congr hkerf (hw.rd (by rfl)) (hw.rd (by rfl)) _).trans hunfinished)
  have hne : ¬ (s.pc pc).scrubPos + 1 = pcLines := Nat.ne_of_lt hlast
  show Machine.execScrubRead pc [] true s = _
  rw [Machine.execScrubRead, if_neg (by simp [hen, hsafe, hserving, hpresent, hin]), hstalls]
  split
  next h => cases h
  extract_lets u c loc₁ q v c₁ w
  have hloc₁ : loc₁ = loc := by rw [← hloc', ← hpos]; rfl
  have hq : q = quireOf loc := congrArg quireOf hloc₁
  have hc₁ : c₁.scrubPos = (s.pc pc).scrubPos + 1 ∧ c₁.scrubBack = [] := by
    have h : c₁ = { c with scrubPos := c.scrubPos + 1 } := State.pc_setPc ..
    rw [h]
    exact ⟨congrArg (· + 1) hpos, hback'.trans hback⟩
  have hv : v.unfinishedBy (quireOf loc) = none := hunfinished' _
  have hw : w = v.scrubLine pc loc [] true := by
    unfold w
    rw [hq, hc₁.2, hloc₁, if_neg (by rw [hv]; decide), if_neg List.not_mem_nil]
    rfl
  refine (if_pos (show c.scrubPos < pcLines by rw [show c.scrubPos = _ from hpos]; omega)).trans ?_
  rw [if_neg (fun h => absurd (hc₁.1.symm.trans h.1) hne), hw]
  rfl

theorem scrubAdvanced_keeps (pc : Nat) : KeepsData s (scrubAdvanced s pc) ∧ (scrubAdvanced s pc).bist = s.bist ∧
    ((scrubAdvanced s pc).pc pc).scrubPos = (s.pc pc).scrubPos + 1 ∧ (scrubAdvanced s pc).rd SCRUB_STAT.running = 1 ∧
    Writes [KERF_STALL_MAX.ns.ix 4, SCRUB_STAT.running] s (scrubAdvanced s pc) := by
  obtain ⟨hrunning, hpos, -, hframe, hw⟩ := scrubRuns_keeps (s := s) pc
  rw [scrubAdvanced_eq]
  generalize scrubRuns s pc = u at *
  have hdata : KeepsData s u := by
    rw [hframe]
    exact ⟨rfl, rfl, rfl, rfl⟩
  have hbist : u.bist = s.bist := by rw [hframe]
  refine ⟨keepsData_trans hdata (keepsData_setPc _ _), hbist, ?_, hrunning, hw.setPc⟩
  rw [State.pc_setPc, hpos]

theorem scrubRead_meets {pc : PcNo} {loc : Nat} (hinj : s.bist.inj = []) (hout : (s.judge loc []).outcome = .cleared)
    (hlanes : (s.judge loc []).lanes = []) :
    (((scrubAdvanced s pc).scrubLine pc loc [] true).pc pc).scrubPos = (s.pc pc).scrubPos + 1 ∧
      ((scrubAdvanced s pc).scrubLine pc loc [] true).rd SCRUB_STAT.running = 1 ∧
      ((scrubAdvanced s pc).scrubLine pc loc [] true).rd SCRUB_STAT.pc_last = pc.val ∧
      KeepsData s ((scrubAdvanced s pc).scrubLine pc loc [] true) := by
  obtain ⟨hdata, hbist, hpos, hrunning, hw⟩ := scrubAdvanced_keeps (s := s) pc
  have hjudge : (scrubAdvanced s pc).judge loc [] = s.judge loc [] :=
    judge_congr hdata.1 (hw.rd (by rfl)) (hw.rd (by rfl)) (hw.rd (by rfl))
      (fun p => ⟨hw.rd (by rfl), hw.rd (by rfl), hw.rd (by rfl), hw.rd (by rfl)⟩) loc []
  rw [scrubLine_cleared (by rw [hbist, hinj]) (by rw [hjudge, hout]) (by rw [hjudge, hlanes])]
  obtain ⟨hjobs, hdata', hrunning', hlast⟩ := lineScrubbed_keeps (s := scrubAdvanced s pc) (loc := loc) pc.isLt
  obtain ⟨hdata'', hpos'', hw''⟩ := scrubNoted_keeps (s := lineScrubbed (scrubAdvanced s pc) pc loc) pc loc
  refine ⟨?_, ?_, ?_, keepsData_trans hdata (keepsData_trans hdata' hdata'')⟩
  · rw [hpos'', scrubPos_of_jobs hjobs, hpos]
  · rw [hw''.rd (by rfl), hrunning', hrunning]
  · rw [hw''.rd (by rfl), hlast]

/-! ## A batch of the scrub wakes a PC (R102) -/

/-- The places that the clock of a layer writes as it is ungated. -/
def ungatePlaces : List Fld := PC_SR_STAT.clk_gated :: PC_SR_STAT.last_outcome :: calPlaces ++ gaugeFields

theorem Places.mono {l m : List Fld} (h : Places l s t) (hlm : l ⊆ m) : Places m s t :=
  ⟨fun f hf => h.regs f (List.all_eq_true.2 fun g hg => List.all_eq_true.1 hf g (hlm hg))⟩

theorem Places.trans {l : List Fld} (h : Places l s t) (k : Places l t u) : Places l s u :=
  ⟨fun f hf => (k.regs f hf).trans (h.regs f hf)⟩

theorem Places.writes {l : List Fld} (h : Writes l s t) : Places l s t := by
  refine ⟨fun f hf => h.regs f fun hm => ?_⟩
  obtain ⟨g, hg, hk⟩ := List.mem_map.1 hm
  exact (offPlace_iff f g).1 (List.all_eq_true.1 hf g hg) (place_of_key hk).symm

theorem places_fixCalLayer (layer : Nat) : Places calPlaces s (s.fixCalLayer layer) :=
  (Places.refl s).forAll fun _ _ k => k.trans (places_fixCal _)

theorem places_runLfsrs {l : List Fld} (layer : Nat) : Places l s (s.runLfsrs layer) := by
  refine (Places.refl s).forAll fun u i k => ?_
  unfold State.runLfsr
  exact .ite k (k.flds rfl)

theorem Places.setLayer {l : List Fld} {n : Nat} {v : Layer} (h : Places l s t) : Places l s (t.setLayer n v) := h.flds rfl

theorem places_takeDivider (layer : Nat) : Places ungatePlaces s (s.takeDivider layer) := by
  have hcal : calPlaces ⊆ ungatePlaces := fun f hf => by simp [ungatePlaces, hf]
  have hgauge : gaugeFields ⊆ ungatePlaces := fun f hf => by simp [ungatePlaces, hf]
  unfold State.takeDivider
  extract_lets l
  split
  · exact .refl s
  · exact ((places_runLfsrs layer).setLayer.trans ((places_fixCalLayer layer).mono hcal)).trans
      ((Places.writes writes_fixGauge).mono hgauge)

theorem places_ungate (layer : Nat) : Places ungatePlaces s (s.ungate layer) := by
  have hpages : Places ungatePlaces s (s.forAll (List.range 4) fun s i =>
      (s.setPc (layer * 4 + i) { s.pc (layer * 4 + i) with lfsrAt := 10 * s.now }).clr
        (PC_SR_STAT.clk_gated.pc (layer * 4 + i))) :=
    (Places.refl s).forAll fun _ _ k => Places.wr (k.flds rfl) rfl
  exact .ite (.refl s) (hpages.trans (places_takeDivider layer))

theorem in_sr_rouse {pc : Nat} {who : Nat × Nat × Nat} (hentering : s.on (PC_SR_STAT.entering.pc pc) = false) :
    (s.rouse pc who).rd (PC_SR_STAT.in_sr.pc pc) = s.rd (PC_SR_STAT.in_sr.pc pc) := by
  rw [State.rouse, if_neg (by simp [hentering])]
  split
  · exact (rd_wr_apart (by rfl) _).trans ((places_ungate (pc / 4)).rd (by rfl))
  · rfl

theorem wakeForEngine_out {pc : Nat} {who : Nat × Nat × Nat} (hin : s.on (PC_SR_STAT.in_sr.pc pc) = true)
    (hentering : s.on (PC_SR_STAT.entering.pc pc) = false) :
    (s.wakeForEngine pc who).rd (PC_SR_STAT.in_sr.pc pc) = 0 := by
  have hin' : (s.rouse pc who).on (PC_SR_STAT.in_sr.pc pc) = true := by rw [State.on, in_sr_rouse hentering]; exact hin
  rw [State.wakeForEngine]
  simp only [hin', if_true, State.setPc_rd]
  exact (exitSr_out pc).1

theorem scrubBatchWake_wakes {pc : PcNo} (hin : s.on (PC_SR_STAT.in_sr.pc pc) = true)
    (hen : s.on SCRUB_CTL.scrub_en = true) (hsafe : s.safe = false) :
    ∃ n who, exec (.scrubBatchWake pc) s = .next ((s.advanceTo n).wakeForEngine pc who) := by
  refine ⟨(s.pc pc).sreAt + s.scrubBatch, ?_, ?_⟩
  rotate_left
  · show Machine.execScrubBatchWake pc s = _
    rw [Machine.execScrubBatchWake, if_neg (by simp [hin, hen, hsafe])]

/-! ## A line that is late (R104) -/

/-- A PC whose oldest line is late says so. -/
def lateNoted (s : State) (pc level : Nat) (flag : Fld) (cause code : Nat) : State :=
  (((s.setPc pc { s.pc pc with scrubLate := level }).put flag).cause 0x1E cause).err 0x1E code pc

theorem lateNoted_keeps (pc level : Nat) (flag : Fld) (cause code : Nat) :
    KeepsData s (lateNoted s pc level flag cause code) ∧ (lateNoted s pc level flag cause code).now = s.now ∧
      ((lateNoted s pc level flag cause code).pc pc).scrubLate = level := by
  have hl : Logged (s.setPc pc { s.pc pc with scrubLate := level }) (lateNoted s pc level flag cause code) :=
    (((Logged.refl _).put flag).cause 0x1E cause).err 0x1E code pc
  refine ⟨keepsData_trans (keepsData_setPc _ _) hl.keepsData, ?_, ?_⟩
  · rw [now_of_logged hl, State.setPc_now]
  · rw [pcs_of_logged hl, State.pc_setPc]

theorem scrubLateNow_late {pc level percent cause code : Nat} {flag : Fld} (hpresent : s.pcPresent pc = true)
    (hlate : (s.pc pc).scrubLate < level) : s.scrubLateNow pc level percent flag cause code =
      lateNoted (s.advanceTo (s.scrubOldest pc + s.scrubPeriod * percent / 100)) pc level flag cause code := by
  rw [State.scrubLateNow, if_neg (by simp [hpresent, hlate])]
  rfl

theorem lateNoted_flag {pc level cause code : Nat} {flag : Fld} (hw : 0 < flag.width)
    (herr : clear (errFields 0x1E) flag = true) (hcause : clear (causeFields 0x1E) flag = true) :
    (lateNoted s pc level flag cause code).rd flag = 1 := by
  rw [lateNoted, rd_err herr, rd_cause hcause]
  exact rd_put_self hw

/-! ## O13 -/

theorem erasureEnds_meets {pc lane : Nat} (h : s.erasedLanes pc = [lane]) :
    (erasureEnds s pc lane).rd (PC_ECC_STAT.erased.pc pc) = 0 ∧
      (erasureEnds s pc lane).rd ((PC_LANE_CNT.count.pc pc).ix lane) = 0 ∧ (erasureEnds s pc lane).lines = s.lines ∧
      (erasureEnds s pc lane).crypto = s.crypto := by
  obtain ⟨herased, hcount⟩ := clearErasure_only h
  obtain ⟨-, hlines, hcrypto⟩ := appendRecord_keeps ((s.clearErasure pc lane).err (0x40 + pc) 0x0208 lane)
  have hdata := keepsData_trans (keepsData_clearErasure (s := s) pc lane)
    (logged_err (s := s.clearErasure pc lane) (0x40 + pc) 0x0208 lane).keepsData
  refine ⟨?_, ?_, hlines.trans hdata.1, hcrypto.trans hdata.2.1⟩
  · rw [erasureEnds, rd_appendRecord (by rfl), rd_err (by rfl), herased]
  · rw [erasureEnds, rd_appendRecord (by rfl), rd_err (by rfl), hcount]

/-- Settles O13: erasures end, write-backs are written, and the scrub reads, wakes and reports. -/
theorem erasuresWritebackAndScrub : Obligations.ErasuresWritebackAndScrub := by
  unfold Obligations.ErasuresWritebackAndScrub
  refine ⟨fun who pc lane s htakes hlife herased => ?_, fun who pc val s htakes hrefused => ?_,
    fun pc loc l rest s hwb hwrite hbursts hinj hgood hplace hin hentering => ?_,
    fun pc s hen hsafe hserving hpresent hin hentering hinj hlast hback hunfinished hstalls hout hlanes => ?_,
    fun pc s hin hentering hen hsafe => ?_, fun pc s hpresent hlate => ?_, fun pc s hpresent hlate => ?_⟩
  · exact ⟨_, laneErasureClear_ends htakes hlife herased, erasureEnds_meets herased⟩
  · exact ⟨_, laneErasureClear_refused htakes hrefused, rd_put_self, ((Writes.refl s).put (.head _)).regs, regs_put rfl⟩
  · have hopened := wbTaken_opened (rest := rest) hplace hin hentering
    have hframe := chargeEng_frame (wbWritten_frame (l := l) hopened) 0x11 1
    refine ⟨_, correctedWriteback_writes hwb hwrite hbursts hinj hgood hopened, ?_, fun a ha => ?_, ?_, fun f _ => ?_, hframe⟩
    · rw [line_chargeEng, wbWritten, line_stored]
    · rw [line_chargeEng, line_wbWritten_ne ha hopened]
    · rw [pc_chargeEng, wb_wbWritten hplace hopened]
    · have hflds := congrArg State.flds hframe
      exact congrArg (fun m => Sparse.get Fld.resetVal m f.key) hflds
  · exact ⟨_, scrubRead_reads hen hsafe hserving hpresent hin hlast hback hstalls rfl hunfinished,
      scrubRead_meets hinj hout hlanes⟩
  · obtain ⟨n, who, hexec⟩ := scrubBatchWake_wakes hin hen hsafe
    exact ⟨_, hexec, wakeForEngine_out hin hentering, (((Runs.refl s).advanceTo).wakeForEngine).keepsData⟩
  · obtain ⟨hdata, hnow, hlevel⟩ := lateNoted_keeps
      (s := s.advanceTo (s.scrubOldest pc + s.scrubPeriod * 95 / 100)) pc 1 SCRUB_STAT.behind 2 0x0301
    refine ⟨_, congrArg Host.Outcome.next (scrubLateNow_late hpresent (by omega)), lateNoted_flag (by decide) (by rfl)
      (by rfl), (rd_err_corrected (by decide)).1, hlevel, ?_, keepsData_trans (keepsData_advanceTo _) hdata⟩
    rw [hnow, now_advanceTo]
  · obtain ⟨hdata, hnow, hlevel⟩ := lateNoted_keeps
      (s := s.advanceTo (s.scrubOldest pc + s.scrubPeriod * 100 / 100)) pc 2 SCRUB_STAT.overdue 3 0x0302
    refine ⟨_, congrArg Host.Outcome.next (scrubLateNow_late hpresent hlate), lateNoted_flag (by decide) (by rfl)
      (by rfl), (rd_err_contained (by decide)).1, hlevel, ?_, keepsData_trans (keepsData_advanceTo _) hdata⟩
    rw [hnow, now_advanceTo]

end Sys2Proof.Proofs

/-! # Slots, commits and blocks (R133, R138, R157, R161) -/

namespace Sys2Proof.Proofs

open Sys2Proof Sys2Proof.Machine Sys2Proof.Laws

variable {s t u : State}

/-! ## The dirty budget (R159, R180) -/

/-- The fields that the level of the Reserve Bank writes (R180). -/
def levelFields : List Fld :=
  [BANK_STAT.covered, BANK_STAT.level, GAUGE_DEMOTE_MAP.master] ++ causeFields 0x1C ++ causeFields 0x18

/-- The fields that the dirty budget writes (R159, R179 to R181). -/
def budgetFields : List Fld := FOLIO_BUDGET.quires :: errFields 0x1C ++ levelFields

/-- The level follows D and B: nothing but registers and reports has changed. -/
theorem writes_fixLevel : Writes levelFields s s.fixLevel := by
  have hf : ∀ {f : Fld} {v : Nat} {u : State}, Writes levelFields s u → f ∈ [BANK_STAT.covered, BANK_STAT.level,
      GAUGE_DEMOTE_MAP.master] → Writes levelFields s (u.wr f v) :=
    fun k hf => k.wr (List.mem_append_left _ (List.mem_append_left _ hf))
  have hbank : causeFields 0x1C ⊆ levelFields := fun f hf => by simp [levelFields, hf]
  have hgauge : causeFields 0x18 ⊆ levelFields := fun f hf => by simp [levelFields, hf]
  unfold State.fixLevel
  extract_lets old lv cov t₁ t₂
  have h₁ : Writes levelFields s t₁ := .ite (.refl s) ((hf (.refl s) (by decide)).cause hbank)
  have h₂ : Writes levelFields s t₂ := .ite h₁ ((hf h₁ (by decide)).cause hbank)
  exact .ite (h₂.forAll fun _ _ k => (hf k (by decide)).cause hgauge) h₂

theorem logged_fixLevel : Logged s s.fixLevel := by
  unfold State.fixLevel
  extract_lets old lv cov t₁ t₂
  have h₁ : Logged s t₁ := .ite (.refl s) ((logged_wr _ _).cause _ _)
  have h₂ : Logged s t₂ := .ite h₁ ((h₁.wr _ _).cause _ _)
  refine .ite (h₂.trans (logged_forAll (fun u m => ?_) _)) h₂
  exact (logged_wr _ _).cause _ _

/-- The budget is computed again: beside registers and reports only the order of a Checkpoint has changed. -/
structure Budgeted (s t : State) : Prop where
  writes : Writes budgetFields s t
  frame : t = { s with flds := t.flds, out := t.out, pages := t.pages, ports := t.ports, lds := t.lds,
                       domains := t.domains, pin := t.pin, folio := { s.folio with ordered := t.folio.ordered } }

theorem Budgeted.refl (s : State) : Budgeted s s := ⟨.refl s, rfl⟩

theorem Budgeted.trans (h : Budgeted s t) (k : Budgeted t u) : Budgeted s u :=
  ⟨h.writes.trans k.writes, by rw [k.frame, h.frame]⟩

theorem Budgeted.logged (h : Budgeted s t) (hw : Writes budgetFields t u) (hl : Logged t u) : Budgeted s u :=
  ⟨h.writes.trans hw, by rw [hl.frame, h.frame]⟩

theorem Budgeted.ordered (h : Budgeted s t) (o : Option Nat) :
    Budgeted s { t with folio := { t.folio with ordered := o } } :=
  ⟨h.writes.flds rfl, congrArg (fun u : State => { u with folio := { u.folio with ordered := o } }) h.frame⟩

theorem Budgeted.ite {c : Prop} [Decidable c] {a b : State} (ha : Budgeted s a) (hb : Budgeted s b) :
    Budgeted s (if c then a else b) := by
  split
  · exact ha
  · exact hb

theorem budgeted_fixBudget : Budgeted s s.fixBudget := by
  have hlevel : levelFields ⊆ budgetFields := List.subset_append_right _ _
  have hbank : causeFields 0x1C ⊆ budgetFields := fun f hf => hlevel (by simp [levelFields, hf])
  have herr : errFields 0x1C ⊆ budgetFields := fun f hf => by simp [budgetFields, hf]
  unfold State.fixBudget
  split
  · exact .refl s
  · extract_lets was d b t₁ t₂ _ t₃
    have h₁ : Budgeted s t₁ := (Budgeted.refl s).logged ((Writes.refl s).wr (.head _)) (logged_wr _ _)
    have h₂ : Budgeted s t₂ := h₁.logged (((Writes.refl t₁).cause hbank).err herr)
      (((Logged.refl t₁).cause _ _).err _ _ _)
    have h₃ : Budgeted s t₃ := by
      unfold t₃
      clear_value t₂
      split
      · split
        · exact .ite (h₂.ordered _) h₂
        · exact h₂.ordered _
      · exact h₁
    exact h₃.logged (writes_fixLevel.mono hlevel) logged_fixLevel

theorem Budgeted.lines (h : Budgeted s t) : t.lines = s.lines := by rw [h.frame]
theorem Budgeted.crypto (h : Budgeted s t) : t.crypto = s.crypto := by rw [h.frame]
theorem Budgeted.sys (h : Budgeted s t) : t.sys = s.sys := by rw [h.frame]
theorem Budgeted.folio (h : Budgeted s t) : t.folio = { s.folio with ordered := t.folio.ordered } :=
  congrArg State.folio h.frame
theorem Budgeted.map (h : Budgeted s t) : t.folio.map = s.folio.map := by rw [h.folio]
theorem Budgeted.running (h : Budgeted s t) : t.folio.running = s.folio.running := by rw [h.folio]
theorem Budgeted.image (h : Budgeted s t) : t.folio.image = s.folio.image := by rw [h.folio]

/-! ## A slot reads back (R133) -/

/-- A quire whose slot has read back is Staged in it. -/
def slotStaged (s : State) (q n : Nat) : State :=
  (s.setQuire q { s.quire q with state := .staged, slot := some n }).fixBudget

/-- A Bind or Checkpoint goes on with what it has left. -/
def commitRuns (s : State) (c : Commit) : State := { s with folio := { s.folio with running := some c } }

theorem pump_nil {c : Commit} (h : c.todo = []) (n : Nat) : s.pump c n = (s, c) := by
  cases n with
  | zero => rfl
  | succ n => rw [State.pump, h]

theorem goOn_nil {c : Commit} (hkind : c.kind ≠ 6) (h : c.todo = []) : s.goOn c = commitRuns s c := by
  rw [State.goOn, if_neg (fun hk => hkind hk.1)]
  simp only [pump_nil h]
  rfl

theorem readBack_stages {q n : Nat} (hstate : (s.quire q).state = .clean ∨ (s.quire q).state = .dirty)
    (hredirty : (s.quire q).redirty = false) : s.readBack q n = slotStaged s q n := by
  unfold State.readBack slotStaged
  extract_lets e
  rw [if_neg (show ¬ e.redirty = true from ne_true_of_eq_false hredirty)]
  obtain h | h : e.state = .clean ∨ e.state = .dirty := hstate
  · rw [h]
  · rw [h]

theorem slotReadBack_stages {c : Commit} {q n : Nat} {rest : List (Nat × Nat)} (hrunning : s.folio.running = some c)
    (hkind : c.kind = 2) (hflight : c.flight = (q, n) :: rest) (htodo : c.todo = [])
    (hstate : (s.quire q).state = .clean ∨ (s.quire q).state = .dirty) (hredirty : (s.quire q).redirty = false) :
    exec (.slotReadBack none) s = .next (commitRuns (slotStaged s q n) { c with flight := rest }) := by
  have hbind : ¬ ((c.kind = 1 ∨ c.kind = 4) ∧ s.keptDirty q = true) := by omega
  have hnext : (slotStaged s q n).goOn { c with flight := rest } = commitRuns (slotStaged s q n) { c with flight := rest } :=
    goOn_nil (fun h => absurd (hkind.symm.trans h) (by decide)) htodo
  show Machine.execSlotReadBack none s = _
  unfold Machine.execSlotReadBack
  rw [hrunning]
  dsimp only
  rw [hflight]
  refine (if_neg hbind).trans ?_
  rw [readBack_stages hstate hredirty, hnext]

theorem folio_of_logged (h : Logged s t) : t.folio = s.folio := by rw [h.frame]

theorem quire_of_map (h : t.folio.map = s.folio.map) (q : Nat) : t.quire q = s.quire q := by
  unfold State.quire
  rw [h]

theorem commitRuns_keeps (c : Commit) : (commitRuns s c).lines = s.lines ∧ (commitRuns s c).crypto = s.crypto ∧
    (commitRuns s c).sys = s.sys := ⟨rfl, rfl, rfl⟩

theorem setQuire_keeps (q : Nat) (v : QEntry) : (s.setQuire q v).lines = s.lines ∧
    (s.setQuire q v).crypto = s.crypto ∧ (s.setQuire q v).sys = s.sys := ⟨rfl, rfl, rfl⟩

theorem map_commitRuns (c : Commit) : (commitRuns s c).folio.map = s.folio.map := rfl

theorem slotStaged_meets (q n : Nat) (c : Commit) : ((commitRuns (slotStaged s q n) c).quire q).state = .staged ∧
    ((commitRuns (slotStaged s q n) c).quire q).slot = some n ∧ (commitRuns (slotStaged s q n) c).lines = s.lines ∧
    (commitRuns (slotStaged s q n) c).crypto = s.crypto ∧ (commitRuns (slotStaged s q n) c).sys = s.sys := by
  have h := budgeted_fixBudget (s := s.setQuire q { s.quire q with state := .staged, slot := some n })
  have hquire := quire_of_map ((map_commitRuns (s := slotStaged s q n) c).trans h.map) q
  obtain ⟨hlines, hcrypto, hsys⟩ := commitRuns_keeps (s := slotStaged s q n) c
  obtain ⟨hlines₁, hcrypto₁, hsys₁⟩ := setQuire_keeps (s := s) q { s.quire q with state := .staged, slot := some n }
  rw [hquire, State.quire_setQuire]
  exact ⟨rfl, rfl, hlines.trans (h.lines.trans hlines₁), hcrypto.trans (h.crypto.trans hcrypto₁),
    hsys.trans (h.sys.trans hsys₁)⟩

/-! ## A Checkpoint commits (R138) -/

/-- The fields that a commit writes (R138, R163). -/
def commitFields : List Fld :=
  [FOLIO_BSN_LO.bsn, FOLIO_BSN_HI.bsn, FOLIO_STAT.colophon_time_valid, FOLIO_LAST.quires, FOLIO_LAST.kind,
    FOLIO_LAST_US.us] ++ budgetFields

/-- What the commit of a Bind or Checkpoint leaves: the Colophon names it, and nothing runs. -/
structure Committed (c : Commit) (s t : State) : Prop where
  writes : Writes commitFields s t
  running : t.folio.running = none
  image : ∃ i, t.folio.image = some i ∧ i.bsn = c.bsn ∧ i.kind = c.kind
  lines : t.lines = s.lines

theorem writes_commitWr {f : Fld} (hf : f ∈ commitFields.take 6) (v : Nat) : Writes commitFields s (s.wr f v) :=
  (Writes.refl s).wr (List.mem_of_mem_take hf)

theorem writes_putColophon (i : Image) (p0 p1 : Bool) : Writes commitFields s (s.putColophon i p0 p1) := by
  unfold State.putColophon State.wrb State.wr64
  extract_lets c t
  have ht : Writes commitFields s t := (Writes.refl s).flds rfl
  exact ((ht.trans (writes_commitWr (f := FOLIO_BSN_LO.bsn) (by decide) _)).trans
    (writes_commitWr (f := FOLIO_BSN_HI.bsn) (by decide) _)).trans
    (writes_commitWr (f := FOLIO_STAT.colophon_time_valid) (by decide) _)

theorem writes_lastCommit (i : Image) (us : Nat) : Writes commitFields s (s.lastCommit i us) := by
  unfold State.lastCommit
  exact ((writes_commitWr (f := FOLIO_LAST.quires) (by decide) _).trans
    (writes_commitWr (f := FOLIO_LAST.kind) (by decide) _)).trans (writes_commitWr (f := FOLIO_LAST_US.us) (by decide) _)

theorem putColophon_folio (i : Image) (p0 p1 : Bool) : (s.putColophon i p0 p1).folio.running = s.folio.running ∧
    (s.putColophon i p0 p1).folio.image = some i ∧ (s.putColophon i p0 p1).lines = s.lines := ⟨rfl, rfl, rfl⟩

theorem lastCommit_keeps (i : Image) (us : Nat) :
    (s.lastCommit i us).folio = s.folio ∧ (s.lastCommit i us).lines = s.lines := ⟨rfl, rfl⟩

/-- The Colophon of a commit is on the media: what it leaves. -/
theorem committed_colophon {c : Commit} (hwrites : Writes commitFields s t) (hrunning : t.folio.running = none)
    (hlines : t.lines = s.lines) {i : Image} (hbsn : i.bsn = c.bsn) (hkind : i.kind = c.kind) (p0 p1 : Bool) (us : Nat) :
    Committed c s ((t.putColophon i p0 p1).lastCommit i us).fixBudget := by
  obtain ⟨hrun, himage, hline⟩ := putColophon_folio (s := t) i p0 p1
  obtain ⟨hfolio, hlast⟩ := lastCommit_keeps (s := t.putColophon i p0 p1) i us
  have hbudget := budgeted_fixBudget (s := (t.putColophon i p0 p1).lastCommit i us)
  refine ⟨?_, ?_, ⟨i, ?_, hbsn, hkind⟩, ?_⟩
  · exact ((hwrites.trans (writes_putColophon i p0 p1)).trans (writes_lastCommit i us)).trans
      (hbudget.writes.mono (List.subset_append_right _ _))
  · rw [hbudget.running, hfolio, hrun, hrunning]
  · rw [hbudget.image, hfolio, himage]
  · rw [hbudget.lines, hlast, hline, hlines]

theorem committed_commit (c : Commit) (p0 p1 : Bool) : Committed c s (s.commit c p0 p1) := by
  unfold State.commit
  extract_lets bind map kerfs f₀ s₁ f₁ f₂ s₂ f₃ s₃ i
  have h₁ : Writes commitFields s s₁ := (Writes.refl s).flds rfl
  have h₂ : Writes commitFields s s₂ := .ite (h₁.flds rfl) h₁
  have hlines : s₂.lines = s.lines := by
    unfold s₂
    split <;> rfl
  exact committed_colophon (t := s₃) (h₂.flds rfl) rfl hlines rfl rfl p0 p1 _

/-- No Bind or Checkpoint runs any more. -/
def commitOver (s : State) : State := { s with folio := { s.folio with running := none } }

theorem commitOver_keeps : (commitOver s).folio.running = none ∧ (commitOver s).folio.image = s.folio.image ∧
    (commitOver s).lines = s.lines ∧ ∀ f, (commitOver s).rd f = s.rd f := ⟨rfl, rfl, rfl, fun _ => rfl⟩

theorem endCkpt_unqueued (h : s.on FOLIO_STAT.ckpt_queued = false) : s.endCkpt = commitOver s := by
  unfold State.endCkpt
  exact if_neg (ne_true_of_eq_false h)

/-- A Checkpoint may commit: nothing of it is left to program. -/
structure MayCommit (c : Commit) (s : State) : Prop where
  running : s.folio.running = some c
  kind : c.kind = 2 ∨ c.kind = 3
  todo : c.todo = []
  flight : c.flight = []
  serving : s.serving = true

theorem MayCommit.exec {c : Commit} (h : MayCommit c s) (p0 p1 : Bool) : Machine.exec (.checkpointCommit p0 p1) s =
    if p0 || p1 then .next (((s.commit c p0 p1).bump FOLIO_CKPTS.count).cause 0x1B 1).endCkpt
    else .next (s.err 0x1B 0x0509 0).endCkpt := by
  show Machine.execCheckpointCommit p0 p1 s = _
  unfold Machine.execCheckpointCommit
  rw [h.running]
  refine if_neg ?_
  rw [h.todo, h.flight, h.serving]
  have := h.kind
  simp only [ne_eq, not_true_eq_false, Bool.not_true, Bool.false_eq_true, or_false]
  omega

/-- A Checkpoint whose Colophon is on a layer has committed. -/
theorem checkpoint_commits {c : Commit} {p0 p1 : Bool} (h : MayCommit c s)
    (hqueued : s.on FOLIO_STAT.ckpt_queued = false) (hp : (p0 || p1) = true) :
    ∃ t, exec (.checkpointCommit p0 p1) s = .next t ∧ t.folio.running = none ∧
      (∃ i, t.folio.image = some i ∧ i.bsn = c.bsn ∧ i.kind = c.kind) ∧
      CountedUp s t FOLIO_CKPTS.count ∧ t.lines = s.lines := by
  have hexec := (h.exec p0 p1).trans (if_pos hp)
  have hcommit := committed_commit (s := s) c p0 p1
  generalize s.commit c p0 p1 = u at hexec hcommit
  have hcause : Logged u ((u.bump FOLIO_CKPTS.count).cause 0x1B 1) := ((Logged.refl u).bump _).cause 0x1B 1
  have hrd : ∀ {f : Fld}, clear (causeFields 0x1B) f = true →
      ((u.bump FOLIO_CKPTS.count).cause 0x1B 1).rd f = (u.bump FOLIO_CKPTS.count).rd f := fun hf => rd_cause hf _
  have hon : ((u.bump FOLIO_CKPTS.count).cause 0x1B 1).on FOLIO_STAT.ckpt_queued = false := by
    unfold State.on
    rw [hrd (by rfl), State.bump_eq, rd_wr_apart (by rfl), hcommit.writes.rd (by rfl)]
    exact hqueued
  have hcount : ((u.bump FOLIO_CKPTS.count).cause 0x1B 1).rd FOLIO_CKPTS.count =
      min (s.rd FOLIO_CKPTS.count + 1) (2 ^ FOLIO_CKPTS.count.width - 1) := by
    rw [hrd (by rfl), rd_bump, hcommit.writes.rd (by rfl)]
  have hfolio := folio_of_logged hcause
  have hlines := lines_of_logged hcause
  generalize (u.bump FOLIO_CKPTS.count).cause 0x1B 1 = v at hexec hon hcount hfolio hlines
  rw [endCkpt_unqueued hon] at hexec
  obtain ⟨hover, himage, hover_lines, hover_rd⟩ := commitOver_keeps (s := v)
  refine ⟨_, hexec, hover, ?_, (hover_rd _).trans hcount, hover_lines.trans (hlines.trans hcommit.lines)⟩
  rw [himage, hfolio]
  exact hcommit.image

/-- A Checkpoint whose Colophon is on no layer has not committed. -/
theorem checkpoint_fails {c : Commit} (h : MayCommit c s) (hqueued : s.on FOLIO_STAT.ckpt_queued = false) :
    ∃ t, exec (.checkpointCommit false false) s = .next t ∧ t.folio.running = none ∧ t.folio.image = s.folio.image ∧
      t.rd FOLIO_CKPTS.count = s.rd FOLIO_CKPTS.count ∧ t.rd (ERR_STAT.uc.on 0x1B) = 1 ∧ t.lines = s.lines := by
  have hexec := (h.exec false false).trans (if_neg (by decide))
  have hlog := (Logged.refl s).err 0x1B 0x0509 0
  obtain ⟨huc, -⟩ := rd_err_contained (s := s) (page := 0x1B) (code := 0x0509) (addr := 0) (by rfl)
  have hon : (s.err 0x1B 0x0509 0).on FOLIO_STAT.ckpt_queued = false := by
    unfold State.on
    rw [rd_err (by rfl)]
    exact hqueued
  have hcount : (s.err 0x1B 0x0509 0).rd FOLIO_CKPTS.count = s.rd FOLIO_CKPTS.count := rd_err (by rfl) _ _
  generalize s.err 0x1B 0x0509 0 = v at hexec hlog huc hon hcount
  rw [endCkpt_unqueued hon] at hexec
  obtain ⟨hover, himage, hlines, hrd⟩ := commitOver_keeps (s := v)
  refine ⟨_, hexec, hover, ?_, (hrd _).trans hcount, (hrd _).trans huc, hlines.trans (lines_of_logged hlog)⟩
  rw [himage, folio_of_logged hlog]

/-! ## An erase counts wear (R157) -/

theorem block_setBlock (b : Nat) (v : BlockState) : (s.setBlock b v).block b = v := by
  rw [State.block, State.setBlock]
  exact Sparse.get_set_self ..

/-- The stripe that a block was part of is no more. -/
def stripeEnds (s : State) (b : Nat) : State :=
  match s.stripeOfBlock b with
  | some t => { s with folio := { s.folio with stripes := Sparse.erase s.folio.stripes t } }
  | none => s

theorem stripeEnds_frame (b : Nat) : stripeEnds s b = { s with folio := (stripeEnds s b).folio } := by
  unfold stripeEnds
  split <;> rfl

theorem setBlock_frame (b : Nat) (v : BlockState) (h : t = { s with folio := t.folio }) :
    t.setBlock b v = { s with folio := (t.setBlock b v).folio } :=
  congrArg (fun u : State => u.setBlock b v) h

theorem rd_of_folio (h : t = { s with folio := t.folio }) (f : Fld) : t.rd f = s.rd f := by
  rw [h]
  rfl

theorem blockErase_erases {block : Fin 278528} (hkept : s.blockKept block = false)
    (hwear : (s.block block).wear + 1 < 18000) : exec (.blockErase block true) s = .next ((stripeEnds s block).setBlock block
      { s.block block with wear := (s.block block).wear + 1, erased := true }) := by
  show Machine.execBlockErase block true s = _
  unfold Machine.execBlockErase
  refine (if_neg (ne_true_of_eq_false hkept)).trans ?_
  extract_lets b w f s₁ s₂ s₃
  have hw : w = (s.block block).wear + 1 := Nat.min_eq_left (show (s.block block).wear + 1 ≤ 0xFFFF by omega)
  have hold : ¬ (20000 ≤ w ∨ (!true) = true) := by simp; omega
  rw [if_neg hold, show s₃ = s₂ from if_neg (by omega)]
  unfold s₂
  rw [hw]
  rfl

/-- A block is erased once more. -/
theorem blockErase_wears {block : Fin 278528} (hkept : s.blockKept block = false)
    (hwear : (s.block block).wear + 1 < 18000) :
    ∃ t, exec (.blockErase block true) s = .next t ∧
      t.block block = { s.block block with wear := (s.block block).wear + 1, erased := true } ∧
      SameRegs s t [] ∧ t = { s with folio := t.folio } := by
  have hframe := setBlock_frame block { s.block block with wear := (s.block block).wear + 1, erased := true }
    (stripeEnds_frame (s := s) block)
  exact ⟨_, blockErase_erases hkept hwear, block_setBlock .., fun f _ => rd_of_folio hframe f, hframe⟩

/-! ## Persistence fails (R161) -/

/-- Beside registers, only folio, the Gauge and reports have changed. -/
structure Withdrawn (l : List Fld) (s t : State) : Prop where
  writes : Writes l s t
  lines : t.lines = s.lines
  crypto : t.crypto = s.crypto

theorem Withdrawn.trans {l m n : List Fld} (h : Withdrawn l s t) (k : Withdrawn m t u) (hl : l ⊆ n) (hm : m ⊆ n) :
    Withdrawn n s u :=
  ⟨(h.writes.mono hl).trans (k.writes.mono hm), k.lines.trans h.lines, k.crypto.trans h.crypto⟩

theorem Withdrawn.of_logged {l : List Fld} (hw : Writes l s t) (h : Logged s t) : Withdrawn l s t :=
  ⟨hw, lines_of_logged h, crypto_of_logged h⟩

theorem stopCheckpoint_withdraws : Withdrawn [] s s.stopCheckpoint ∧ s.stopCheckpoint.folio.held = s.folio.held := by
  have hfolio : ∀ {u : State} (f : Folio), Withdrawn [] u { u with folio := f } :=
    fun f => ⟨(Writes.refl _).flds rfl, rfl, rfl⟩
  have hslots : ∀ (l : List (Nat × Nat)) (u : State), Withdrawn [] u (u.forAll l fun u e => u.setSlot e.2 none) ∧
      (u.forAll l fun u e => u.setSlot e.2 none).folio.held = u.folio.held := by
    intro l
    induction l with
    | nil => exact fun u => ⟨⟨.refl u, rfl, rfl⟩, rfl⟩
    | cons e l ih =>
      intro u
      obtain ⟨h, hheld⟩ := ih (u.setSlot e.2 none)
      exact ⟨(hfolio _).trans h (List.Subset.refl _) (List.Subset.refl _), hheld⟩
  unfold State.stopCheckpoint
  split
  · exact ⟨⟨.refl s, rfl, rfl⟩, rfl⟩
  next c _ =>
    split
    · exact ⟨⟨.refl s, rfl, rfl⟩, rfl⟩
    · obtain ⟨h, hheld⟩ := hslots c.flight s
      exact ⟨h.trans (hfolio _) (List.Subset.refl _) (List.Subset.refl _), hheld⟩

/-- The fields that the end of a hold writes (R21, R163). -/
def holdFields : List Fld := [FOLIO_STAT.hold, FOLIO_HOLD_MAX.us]

theorem endHolding_withdraws : Withdrawn holdFields s s.endHolding := by
  unfold State.endHolding
  extract_lets f t
  have ht : Withdrawn holdFields s t := by
    unfold t
    split
    · exact ⟨.refl s, rfl, rfl⟩
    · exact ⟨(Writes.refl s).flds rfl, rfl, rfl⟩
  split
  · have hclr : Logged t (t.clr FOLIO_STAT.hold) := (Logged.refl t).clr _
    have hw : Writes holdFields t (t.clr FOLIO_STAT.hold) := (Writes.refl t).wr (.head _)
    unfold State.longest
    split
    · exact ht.trans (.of_logged (hw.wr (.tail _ (.head _))) (hclr.wr _ _)) (List.Subset.refl _) (List.Subset.refl _)
    · exact ht.trans (.of_logged hw hclr) (List.Subset.refl _) (List.Subset.refl _)
  · exact ht

/-- No write is held any more. -/
def noneHeld (s : State) : State := { s with folio := { s.folio with held := [] } }

theorem noneHeld_withdraws : Withdrawn [] s (noneHeld s) := ⟨(Writes.refl s).flds rfl, rfl, rfl⟩

theorem releaseHeld_none (h : s.folio.held = []) : s.releaseHeld = (noneHeld s).endHolding := by
  unfold State.releaseHeld
  rw [h]
  rfl

theorem releaseHeld_withdraws (h : s.folio.held = []) : Withdrawn holdFields s s.releaseHeld := by
  rw [releaseHeld_none h]
  exact noneHeld_withdraws.trans endHolding_withdraws (List.nil_subset _) (List.Subset.refl _)

theorem fixLevel_withdraws : Withdrawn levelFields s s.fixLevel := .of_logged writes_fixLevel logged_fixLevel

theorem fixGauge_withdraws : Withdrawn gaugeFields s s.fixGauge := by
  obtain ⟨hlines, hcrypto, -⟩ := gauged_fixGauge.keepsData (s := s)
  exact ⟨writes_fixGauge, hlines, hcrypto⟩

theorem setPersist_sets {v : Nat} (hv : v < 2 ^ FOLIO_STAT.persist.width) :
    (s.setPersist v).rd FOLIO_STAT.persist = v ∧ Logged s (s.setPersist v) ∧
      Writes (FOLIO_STAT.persist :: causeFields 0x1B) s (s.setPersist v) := by
  unfold State.setPersist
  split
  next h => exact ⟨h, .refl s, .refl s⟩
  · refine ⟨?_, (logged_wr _ _).cause _ _, ((Writes.refl s).wr (.head _)).cause (List.subset_cons_self _ _)⟩
    rw [rd_cause (by rfl)]
    exact rd_wr_lt hv

/-- What follows once persistence has failed. -/
def persistFields : List Fld := holdFields ++ (levelFields ++ gaugeFields)

/-- Persistence has failed. -/
def markFailed (s : State) : State := { s with folio := { s.folio with failed := true } }

theorem markFailed_withdraws : Withdrawn [] s (markFailed s) ∧ (markFailed s).folio.held = s.folio.held :=
  ⟨⟨(Writes.refl s).flds rfl, rfl, rfl⟩, rfl⟩

theorem failPersist_stages : s.failPersist false =
    (((markFailed s.stopCheckpoint).setPersist 3).err 0x1B 0x0505 0).releaseHeld.fixLevel.fixGauge := by
  unfold State.failPersist
  extract_lets t₀ t₁ f t₂
  rw [show t₂ = ((markFailed t₁).setPersist 3).err 0x1B 0x0505 0 from rfl, show t₁ = t₀ from if_neg (by simp)]

theorem failPersist_meets (hheld : s.folio.held = []) : (s.failPersist false).rd FOLIO_STAT.persist = 3 ∧
    (s.failPersist false).rd (ERR_STAT.fatal.on 0x1B) = s.rd (ERR_STAT.fatal.on 0x1B) ∧
    (s.failPersist false).rd (ERR_STAT.uc.on 0x1B) = 1 ∧ (s.failPersist false).lines = s.lines ∧
    (s.failPersist false).crypto = s.crypto := by
  obtain ⟨hstop, hheld₁⟩ := stopCheckpoint_withdraws (s := s)
  obtain ⟨hmark, hheld₂⟩ := markFailed_withdraws (s := s.stopCheckpoint)
  have hfailed : Withdrawn [] s (markFailed s.stopCheckpoint) :=
    hstop.trans hmark (List.Subset.refl _) (List.Subset.refl _)
  obtain ⟨hpersist, hlog, hwr⟩ := setPersist_sets (s := markFailed s.stopCheckpoint) (v := 3) (by decide)
  obtain ⟨huc, -, hfatal, -⟩ := rd_err_contained (s := (markFailed s.stopCheckpoint).setPersist 3) (page := 0x1B)
    (code := 0x0505) (addr := 0) (by rfl)
  have hpersist₁ : (((markFailed s.stopCheckpoint).setPersist 3).err 0x1B 0x0505 0).rd FOLIO_STAT.persist = 3 :=
    (rd_err (by rfl) _ _).trans hpersist
  have hlog₁ : Logged (markFailed s.stopCheckpoint)
    (((markFailed s.stopCheckpoint).setPersist 3).err 0x1B 0x0505 0) := hlog.err _ _ _
  have hfatal₁ := hfatal.trans ((hwr.rd (by rfl)).trans (hfailed.writes.rd (by rfl)))
  rw [failPersist_stages]
  generalize ((markFailed s.stopCheckpoint).setPersist 3).err 0x1B 0x0505 0 = u at *
  have hheld₃ : u.folio.held = [] := by
    rw [folio_of_logged hlog₁, hheld₂, hheld₁, hheld]
  have hend : Withdrawn persistFields u u.releaseHeld.fixLevel.fixGauge :=
    (((releaseHeld_withdraws hheld₃).trans fixLevel_withdraws (n := persistFields) (by simp [persistFields])
      (by simp [persistFields])).trans fixGauge_withdraws (List.Subset.refl _) (by simp [persistFields]))
  exact ⟨(hend.writes.rd (by rfl)).trans hpersist₁, (hend.writes.rd (by rfl)).trans hfatal₁,
    (hend.writes.rd (by rfl)).trans huc, hend.lines.trans ((lines_of_logged hlog₁).trans hfailed.lines),
    hend.crypto.trans ((crypto_of_logged hlog₁).trans hfailed.crypto)⟩

/-- Settles O20: what each step sets is read from what it leaves. -/
theorem slotsCommitsAndBlocks : Obligations.SlotsCommitsAndBlocks := by
  unfold Obligations.SlotsCommitsAndBlocks
  refine ⟨fun c q n rest s hrunning hkind hflight htodo hstate hredirty => ?_,
    fun c p0 p1 s hrunning hkind htodo hflight hserving hqueued hp => ?_,
    fun c s hrunning hkind htodo hflight hserving hqueued => ?_, fun block s hkept hwear => blockErase_wears hkept hwear,
    fun s hpersists hheld => ⟨_, congrArg Host.Outcome.next (if_pos hpersists), failPersist_meets hheld⟩⟩
  · obtain ⟨hstaged, hslot, hlines, hcrypto, hsys⟩ := slotStaged_meets (s := s) q n { c with flight := rest }
    exact ⟨_, slotReadBack_stages hrunning hkind hflight htodo hstate hredirty, hstaged, hslot, rfl, hlines, hcrypto,
      hsys⟩
  · exact checkpoint_commits ⟨hrunning, hkind, htodo, hflight, hserving⟩ hqueued hp
  · exact checkpoint_fails ⟨hrunning, hkind, htodo, hflight, hserving⟩ hqueued

end Sys2Proof.Proofs

/-! # Key commands (R45, R162, R192, R214 to R222) -/

namespace Sys2Proof.Proofs

open Sys2Proof Sys2Proof.Machine Sys2Proof.Laws

variable {s t u : State}

/-! ## The record and the answer of a key command -/

/-- A command taken in an open session does what it says. -/
theorem inSession_takes {session : Session} (h : s.sessionOpen session = true) (t : State) :
    s.inSession session t = .next t :=
  congrArg Host.Outcome.next (if_pos h)

theorem inSession_discards {session : Session} (h : s.sessionOpen session = false) (t : State) :
    s.inSession session t = .next s :=
  congrArg Host.Outcome.next (if_neg (ne_true_of_eq_false h))

/-- The fields of the record of a key command (R225). -/
def keyRecordFields : List Fld :=
  [CRYPT_KEYCMD_LAST.opcode, CRYPT_KEYCMD_LAST.status, CRYPT_KEYCMD_LAST.fm, CRYPT_KEYCMD_CNT.count]

theorem keyRecordFields_subset : keyRecordFields ⊆ keyCmdRegs := fun f hf => by
  simp only [keyRecordFields, List.mem_cons, List.not_mem_nil, or_false] at hf
  simp only [keyCmdRegs, List.mem_append, List.mem_cons]
  obtain rfl | rfl | rfl | rfl := hf <;> simp

theorem cause19_subset : causeFields 0x19 ⊆ keyCmdRegs := fun f hf => by
  simp only [causeFields, List.mem_cons] at hf
  simp only [keyCmdRegs, List.mem_append, List.mem_cons]
  obtain rfl | hf := hf
  · simp
  · exact .inr hf

/-- A key command that succeeds is recorded, and nothing else happens. -/
structure KeyNoted (opcode status : Nat) (s t : State) : Prop where
  alerted : Alerted keyRecordFields s t
  frame : t = { s with flds := t.flds }
  status : t.rd CRYPT_KEYCMD_LAST.status = status

theorem keyNoted_stages {opcode status : Nat} (hstatus : status < 2 ^ 8) (session : Session) :
    KeyNoted opcode status s ((((s.wr CRYPT_KEYCMD_LAST.opcode opcode).wr CRYPT_KEYCMD_LAST.status status).wrb
      CRYPT_KEYCMD_LAST.fm (decide (session = .fm))).bump CRYPT_KEYCMD_CNT.count) where
  alerted := (((((Alerted.refl s).wr (by simp [keyRecordFields])).wr (by simp [keyRecordFields])).wr
    (by simp [keyRecordFields])).wr (by simp [keyRecordFields]))
  frame := rfl
  status := by
    rw [State.bump_eq, rd_wr_apart (by rfl), State.wrb, rd_wr_apart (by rfl)]
    exact rd_wr_lt hstatus

theorem keyNoted_keyCmd (opcode : Nat) (session : Session) : KeyNoted opcode 0 s (s.keyCmd opcode 0 session) :=
  keyNoted_stages (by decide) session

/-- A command that fails is recorded with its status (R216). -/
theorem keyCmd_fails {opcode status : Nat} (hpos : status ≠ 0) (hstatus : status < 2 ^ 8) (session : Session) :
    Alerted keyCmdRegs s (s.keyCmd opcode status session) ∧
      (s.keyCmd opcode status session).rd CRYPT_KEYCMD_LAST.status = status := by
  have h := keyNoted_stages (s := s) (opcode := opcode) hstatus session
  have heq : s.keyCmd opcode status session = ((((s.wr CRYPT_KEYCMD_LAST.opcode opcode).wr CRYPT_KEYCMD_LAST.status
      status).wrb CRYPT_KEYCMD_LAST.fm (decide (session = .fm))).bump CRYPT_KEYCMD_CNT.count).cause 0x19 7 := by
    unfold State.keyCmd
    exact if_neg hpos
  rw [heq]
  refine ⟨(h.alerted.mono keyRecordFields_subset).cause cause19_subset, ?_⟩
  rw [rd_cause (by rfl), h.status]

/-- A key command that fails changes no table. -/
theorem keyFail_meets {opcode status : Nat} (hpos : status ≠ 0) (hstatus : status < 2 ^ 8) (session : Session) :
    (s.keyFail opcode status session).crypto = s.crypto ∧
      (s.keyFail opcode status session).rd CRYPT_KEYCMD_LAST.status = status ∧
      (s.keyFail opcode status session).out.head? = some (.keyAnswer status []) ∧
      SameRegs s (s.keyFail opcode status session) keyCmdRegs := by
  obtain ⟨h, hst⟩ := keyCmd_fails (s := s) (opcode := opcode) hpos hstatus session
  have hcrypto : (s.keyCmd opcode status session).crypto = s.crypto := by rw [h.frame]
  exact ⟨hcrypto, hst, rfl, (h.writes.emit (o := .keyAnswer status [])).regs⟩

/-! ## O25 -/

theorem loadStatus_bounds {session : Session} {load : KeyLoad} {st : Nat} (h : s.loadStatus session load = some st) :
    st ≠ 0 ∧ st < 2 ^ 8 := by
  simp only [State.loadStatus] at h
  grind

/-- Settles O25: each failing branch answers with its status and leaves the tables. -/
theorem failedKeyCommandsChangeNoTable : Obligations.FailedKeyCommandsChangeNoTable := by
  unfold Obligations.FailedKeyCommandsChangeNoTable
  refine ⟨fun session load st s hopen hst => ?_, fun port ld n bitmap s hopen hlife hn => ?_,
    fun session opcode s hopen => ?_, fun session load slot ld index base stop bitmap enable mask opcode s hclosed => ?_⟩
  · obtain ⟨hpos, hlt⟩ := loadStatus_bounds hst
    obtain ⟨hcrypto, -, hout, hregs⟩ := keyFail_meets (s := s) (opcode := 0xC410) hpos hlt session
    refine ⟨_, ?_, hcrypto, hout, hregs⟩
    show Machine.execLoadKey session load s = _
    rw [Machine.execLoadKey, hst, inSession_takes hopen]
  · obtain ⟨hcrypto, -, hout, hregs⟩ := keyFail_meets (s := s) (opcode := 0xC412) (status := 1) (by decide) (by decide)
      (.ld port ld)
    refine ⟨_, ?_, hcrypto, hout, hregs⟩
    show Machine.execSetRights (.ld port ld) n bitmap s = _
    rw [Machine.execSetRights, inSession_takes hopen, if_neg (ne_true_of_eq_false hlife), if_neg (by omega),
      if_pos (by rfl)]
  · obtain ⟨hcrypto, hst, hout, hregs⟩ := keyFail_meets (s := s) (opcode := opcode.toNat) (status := 9) (by decide)
      (by decide) session
    exact ⟨_, inSession_takes hopen _, hcrypto, hst, hout, hregs⟩
  · exact ⟨inSession_discards hclosed _, inSession_discards hclosed _, inSession_discards hclosed _,
      inSession_discards hclosed _, inSession_discards hclosed _, inSession_discards hclosed _⟩

/-! ## Commands that succeed -/

/-- With key retention off, a key command that succeeds answers at once. -/
theorem keyDone_answers {opcode : Nat} {session : Session} {before : KeyTables} {payload : List Nat}
    (hretain : s.on FOLIO_CTL.key_retain = false) :
    s.keyDone opcode session before payload = (s.keyCmd opcode 0 session).emit (.keyAnswer 0 payload) := by
  have h := keyNoted_keyCmd (s := s) opcode session
  unfold State.keyDone
  refine if_neg fun hon => ?_
  rw [State.on, h.alerted.writes.rd (by rfl)] at hon
  exact absurd hon.1 (ne_true_of_eq_false hretain)

/-- A table has been set, and a key command answers at once. -/
structure KeyAnswered (payload : List Nat) (s t : State) : Prop where
  writes : Writes keyRecordFields s t
  frame : t = { s with flds := t.flds, out := t.out }
  status : t.rd CRYPT_KEYCMD_LAST.status = 0
  out : t.out = .keyAnswer 0 payload :: s.out

theorem rd_emit (o : Out) (f : Fld) : (s.emit o).rd f = s.rd f := rfl

theorem frame_emit (h : t = { s with flds := t.flds }) (o : Out) :
    t.emit o = { s with flds := (t.emit o).flds, out := (t.emit o).out } := by
  rw [State.emit, h]

theorem keyAnswered_keyDone {opcode : Nat} {session : Session} {before : KeyTables} {payload : List Nat}
    (hretain : s.on FOLIO_CTL.key_retain = false) : KeyAnswered payload s (s.keyDone opcode session before payload) := by
  rw [keyDone_answers hretain]
  have h := keyNoted_keyCmd (s := s) opcode session
  have hout : (s.keyCmd opcode 0 session).out = s.out := by rw [h.frame]
  exact ⟨h.alerted.writes.emit, frame_emit h.frame _, (rd_emit _ _).trans h.status, congrArg (Out.keyAnswer 0 payload :: ·) hout⟩

theorem KeyAnswered.crypto {payload : List Nat} (h : KeyAnswered payload s t) : t.crypto = s.crypto := by rw [h.frame]

theorem KeyAnswered.kerf {payload : List Nat} (h : KeyAnswered payload s t) : t.kerf = s.kerf := by rw [h.frame]

theorem key_of_crypto (h : t.crypto = s.crypto) (k : Nat) : t.key k = s.key k := by
  rw [State.key, State.key, h]

theorem rights_of_crypto (h : t.crypto = s.crypto) (k : Nat) : t.rights k = s.rights k := by
  rw [State.rights, State.rights, h]

theorem range_of_crypto (h : t.crypto = s.crypto) (k : Nat) : t.range k = s.range k := by
  rw [State.range, State.range, h]

theorem on_of_rd {f : Fld} (h : t.rd f = s.rd f) : t.on f = s.on f := by rw [State.on, State.on, h]

/-! ## O24 -/

/-- A key is loaded, and a Rekey that waited for it goes on (R45, R217). -/
def keyLoaded (s : State) (load : KeyLoad) : State := (s.setKey load.slot (loadedSlot load false)).loadResumes load.slot

theorem rekeyLoaded_congr (hkerf : t.kerf = s.kerf) (hcrypto : t.crypto = s.crypto) : t.rekeyLoaded = s.rekeyLoaded := by
  rw [State.rekeyLoaded, State.rekeyLoaded, State.eng, State.eng, hkerf, key_of_crypto hcrypto, key_of_crypto hcrypto]

theorem rekeyNames_setKey (k : Nat) (v : KeySlot) (slot : Nat) : (s.setKey k v).rekeyNames slot = s.rekeyNames slot := rfl

theorem frame_wr (h : t = { s with flds := t.flds, crypto := t.crypto }) (f : Fld) (v : Nat) :
    t.wr f v = { s with flds := (t.wr f v).flds, crypto := (t.wr f v).crypto } :=
  congrArg (fun u => u.wr f v) h

theorem rekeyLoaded_wr (f : Fld) (v : Nat) : (s.wr f v).rekeyLoaded = s.rekeyLoaded := rfl

theorem rd_setKey (k : Nat) (v : KeySlot) (f : Fld) : (s.setKey k v).rd f = s.rd f := rfl

theorem keyLoaded_meets (load : KeyLoad) : (keyLoaded s load).crypto = (s.setKey load.slot (loadedSlot load false)).crypto ∧
    (keyLoaded s load).rd (KERF_STAT.state.ix 2) = (if s.rd (KERF_STAT.state.ix 2) = 3 ∧ s.rekeyNames load.slot = true ∧
      (keyLoaded s load).rekeyLoaded = true then 2 else s.rd (KERF_STAT.state.ix 2)) ∧
    Writes [KERF_STAT.state.ix 2] s (keyLoaded s load) ∧
    keyLoaded s load = { s with flds := (keyLoaded s load).flds, crypto := (keyLoaded s load).crypto } := by
  have hwrites : Writes [KERF_STAT.state.ix 2] s (s.setKey load.slot (loadedSlot load false)) := (Writes.refl s).flds rfl
  unfold keyLoaded State.loadResumes
  rw [rekeyNames_setKey, rd_setKey]
  split
  next h =>
    refine ⟨rfl, ?_, hwrites.wr (.head _), frame_wr rfl _ _⟩
    rw [if_pos ⟨h.1, h.2.1, (rekeyLoaded_wr _ _).trans h.2.2⟩]
    exact rd_wr_lt (by decide)
  next h =>
    exact ⟨rfl, rd_setKey .., hwrites, rfl⟩

/-- A key table has been set: the cause and the answer that follow. -/
structure KeyTold (payload : List Nat) (s t : State) : Prop where
  writes : Writes keyCmdRegs s t
  frame : t = { s with flds := t.flds, ports := t.ports, out := t.out }
  status : t.rd CRYPT_KEYCMD_LAST.status = 0
  out : t.out.head? = some (.keyAnswer 0 payload)

theorem KeyTold.crypto {payload : List Nat} (h : KeyTold payload s t) : t.crypto = s.crypto := by rw [h.frame]

theorem KeyTold.kerf {payload : List Nat} (h : KeyTold payload s t) : t.kerf = s.kerf := by rw [h.frame]

theorem KeyTold.data {payload : List Nat} (h : KeyTold payload s t) : t.lines = s.lines ∧ t.folio = s.folio :=
  ⟨by rw [h.frame], by rw [h.frame]⟩

theorem keyTold_of_cause {opcode : Nat} {session : Session} {before : KeyTables} {payload : List Nat}
    (hretain : s.on FOLIO_CTL.key_retain = false) :
    KeyTold payload s ((s.cause 0x19 3).keyDone opcode session before payload) := by
  have hcause := alerted_cause (s := s) 0x19 3
  have h := keyAnswered_keyDone (s := s.cause 0x19 3) (opcode := opcode) (session := session) (before := before)
    (payload := payload) ((on_of_rd (rd_cause (by rfl) _)).trans hretain)
  refine ⟨(hcause.writes.mono cause19_subset).trans (h.writes.mono keyRecordFields_subset), ?_, h.status, ?_⟩
  · rw [h.frame, hcause.frame]
  · rw [h.out]
    rfl

theorem loadKey_loads {session : Session} {load : KeyLoad} (hopen : s.sessionOpen session = true)
    (hst : s.loadStatus session load = none) (hretain : s.on FOLIO_CTL.key_retain = false) :
    exec (.loadKey session load) s = .next (((keyLoaded s load).cause 0x19 3).keyDone 0xC410 session s.keyTables
      [checkValue load.k1]) := by
  show Machine.execLoadKey session load s = _
  rw [Machine.execLoadKey, inSession_takes hopen, hst, hretain]
  rfl

theorem setKey_keeps (k : Nat) (v : KeySlot) : (s.setKey k v).kerf = s.kerf ∧ (s.setKey k v).lines = s.lines ∧
    (s.setKey k v).folio = s.folio ∧ (s.setKey k v).crypto.rights = s.crypto.rights ∧
    (s.setKey k v).crypto.ranges = s.crypto.ranges := ⟨rfl, rfl, rfl, rfl, rfl⟩

/-- A slot is unloaded, and a Rekey that names it waits (R45, R218). -/
def keyUnloaded (s : State) (slot : Nat) : State := (s.unloadPauses slot).setKey slot KeySlot.empty

theorem unloadKey_unloads {session : Session} {slot : Nat} (hopen : s.sessionOpen session = true)
    (hlife : s.keysForbidden = false) (hslot : slot ≤ 263) (hauth : s.hasAuthority session slot = true)
    (hretain : s.on FOLIO_CTL.key_retain = false) :
    exec (.unloadKey session slot) s = .next (((keyUnloaded s slot).cause 0x19 3).keyDone 0xC411 session s.keyTables
      []) := by
  show Machine.execUnloadKey session slot s = _
  rw [Machine.execUnloadKey, inSession_takes hopen, if_neg (ne_true_of_eq_false hlife), if_neg (Nat.not_lt.2 hslot),
    if_neg (by simp [hauth]), hretain]
  rfl

/-- The pause of a Rekey whose slot is unloaded (R45). -/
theorem unloadPauses_logged (slot : Nat) : (s.unloadPauses slot).crypto = s.crypto ∧
    Writes (KERF_STAT.state.ix 2 :: errFields 0x1A) s (s.unloadPauses slot) ∧ KeepsData s (s.unloadPauses slot) := by
  unfold State.unloadPauses
  split
  · have h : Logged s ((s.wr (KERF_STAT.state.ix 2) 3).err 0x1A 0x0004 0) := (logged_wr _ _).err _ _ _
    exact ⟨crypto_of_logged h,
      ((Writes.refl s).wr (.head _)).err (List.subset_cons_self _ _), h.keepsData⟩
  · exact ⟨rfl, .refl s, KeepsData.refl s⟩

theorem keyUnloaded_pauses {slot : Nat} (h : s.kerfRuns 2 = true ∧ s.rekeyNames slot = true ∧ s.rekeyLoaded = true) :
    (keyUnloaded s slot).rd (KERF_STAT.state.ix 2) = 3 ∧ (keyUnloaded s slot).rd (ERR_STAT.ce.on 0x1A) = 1 ∧
      (keyUnloaded s slot).kerf = s.kerf ∧ (keyUnloaded s slot).lines = s.lines ∧
      (keyUnloaded s slot).folio = s.folio ∧ (keyUnloaded s slot).crypto.rights = s.crypto.rights ∧
      (keyUnloaded s slot).crypto.ranges = s.crypto.ranges := by
  have hlog : Logged s ((s.wr (KERF_STAT.state.ix 2) 3).err 0x1A 0x0004 0) := (logged_wr _ _).err _ _ _
  have heq : s.unloadPauses slot = (s.wr (KERF_STAT.state.ix 2) 3).err 0x1A 0x0004 0 := if_pos h
  unfold keyUnloaded
  rw [rd_setKey, rd_setKey, heq]
  obtain ⟨hkerf, hlines, hfolio, hrights, hranges⟩ := setKey_keeps
    (s := (s.wr (KERF_STAT.state.ix 2) 3).err 0x1A 0x0004 0) slot KeySlot.empty
  have hcrypto := crypto_of_logged hlog
  refine ⟨?_, (rd_err_corrected (by decide)).1, hkerf.trans (kerf_of_logged hlog), hlines.trans (lines_of_logged hlog),
    hfolio.trans (folio_of_logged hlog), ?_, ?_⟩
  · rw [rd_err (by rfl)]
    exact rd_wr_lt (by decide)
  · rw [hrights, hcrypto]
  · rw [hranges, hcrypto]

theorem keyUnloaded_idle {slot : Nat} (h : ¬ (s.kerfRuns 2 = true ∧ s.rekeyNames slot = true ∧ s.rekeyLoaded = true)) :
    keyUnloaded s slot = s.setKey slot KeySlot.empty :=
  congrArg (fun u : State => u.setKey slot KeySlot.empty) (if_neg h)

theorem setRights_sets {ld : Nat} {bitmap : BitVec 256} (hopen : s.sessionOpen .fm = true)
    (hlife : s.keysForbidden = false) (hld : ld ≤ 15) :
    exec (.setRights .fm ld bitmap) s = .next ((s.setRights ld bitmap).keyDone 0xC412 .fm s.keyTables []) := by
  show Machine.execSetRights .fm ld bitmap s = _
  rw [Machine.execSetRights, inSession_takes hopen, if_neg (ne_true_of_eq_false hlife), if_neg (Nat.not_lt.2 hld),
    if_neg (by simp [Session.isFm])]

theorem setRange_sets {index base stop : Nat} {mask : BitVec 16} (hopen : s.sessionOpen .fm = true)
    (hlife : s.keysForbidden = false) (hindex : index ≤ 7) (hfree : s.rangeRefused index base stop = false) :
    exec (.setRange .fm index true mask base stop) s = .next ((s.setRange index
      { enabled := true, mask := mask, base := base, stop := stop }).keyDone 0xC413 .fm s.keyTables []) := by
  show Machine.execSetRange .fm index true mask base stop s = _
  rw [Machine.execSetRange, inSession_takes hopen, if_neg (ne_true_of_eq_false hlife), if_neg (Nat.not_lt.2 hindex),
    if_neg (by simp [Session.isFm]), if_neg (by simp), if_neg (ne_true_of_eq_false hfree)]

theorem querySlot_answers {session : Session} {slot : Nat} (hopen : s.sessionOpen session = true)
    (hlife : s.keysForbidden = false) (hslot : slot ≤ 263) (hauth : s.hasAuthority session slot = true) :
    exec (.querySlot session slot) s = .next ((s.keyCmd 0xC414 0 session).emit
      (.keyAnswer 0 [s.slotStat slot, s.slotKcv slot])) := by
  show Machine.execQuerySlot session slot s = _
  rw [Machine.execQuerySlot, inSession_takes hopen, if_neg (ne_true_of_eq_false hlife), if_neg (Nat.not_lt.2 hslot),
    if_neg (by simp [hauth])]

theorem frame_table (h : t = { s with crypto := t.crypto }) (k : u = { t with flds := u.flds, out := u.out }) :
    u = { s with flds := u.flds, crypto := u.crypto, out := u.out } := by
  rw [k, h]

theorem readCrypt_enabled (n : Nat) : s.readCrypt n CRYPT_RANGE_CFG.enabled = some (bit (s.range n).enabled) := rfl

/-- Settles O24: what each command sets is read from what it leaves. -/
theorem keyCommandsSetTheirTables : Obligations.KeyCommandsSetTheirTables := by
  unfold Obligations.KeyCommandsSetTheirTables
  refine ⟨fun session load s hopen hst hretain => ?_, fun session slot s hopen hlife hslot hauth hretain => ?_,
    fun ld bitmap s hopen hlife hld hretain => ?_, fun index mask base stop s hopen hlife hindex hfree hretain => ?_,
    fun session slot s hopen hlife hslot hauth => ?_⟩
  · obtain ⟨hcrypto, hstat, hwrites, hframe⟩ := keyLoaded_meets (s := s) load
    have h := keyTold_of_cause (s := keyLoaded s load) (opcode := 0xC410) (session := session) (before := s.keyTables)
      (payload := [checkValue load.k1]) ((on_of_rd (hwrites.rd (by rfl))).trans hretain)
    refine ⟨_, loadKey_loads hopen hst hretain, ?_, fun k hk => ?_, h.out, h.status, ?_, ?_, ?_⟩
    · rw [key_of_crypto (h.crypto.trans hcrypto), State.key_setKey]
    · rw [key_of_crypto (h.crypto.trans hcrypto), State.key_setKey_ne _ hk]
    · rw [h.writes.rd (by rfl), hstat, rekeyLoaded_congr h.kerf h.crypto]
    · exact ((hwrites.mono (by simp)).trans (h.writes.mono (List.subset_cons_self _ _))).regs
    · rw [h.frame, hframe]
  · obtain ⟨hcrypto, hwrites, -⟩ := unloadPauses_logged (s := s) slot
    have h := keyTold_of_cause (s := keyUnloaded s slot) (opcode := 0xC411) (session := session) (before := s.keyTables)
      (payload := []) ((on_of_rd ((rd_setKey ..).trans (hwrites.rd (by rfl)))).trans hretain)
    have hkeys : (keyUnloaded s slot).crypto = (s.setKey slot KeySlot.empty).crypto := by
      rw [keyUnloaded, State.setKey, State.setKey, hcrypto]
    refine ⟨_, unloadKey_unloads hopen hlife hslot hauth hretain, ?_, fun k hk => ?_, h.out, ?_⟩
    · rw [key_of_crypto (h.crypto.trans hkeys), State.key_setKey]
    · rw [key_of_crypto (h.crypto.trans hkeys), State.key_setKey_ne _ hk]
    · split
      next hruns =>
        obtain ⟨hstat, hce, hkerf, hlines, hfolio, hrights, hranges⟩ := keyUnloaded_pauses hruns
        refine ⟨(h.writes.rd (by rfl)).trans hstat, (h.writes.rd (by rfl)).trans hce, h.kerf.trans hkerf,
          h.data.1.trans hlines, h.data.2.trans hfolio, ?_, ?_⟩
        · rw [h.crypto, hrights]
        · rw [h.crypto, hranges]
      next hidle =>
        refine ⟨fun f hf => ?_, ?_⟩
        · rw [h.writes.regs f hf, keyUnloaded_idle hidle, rd_setKey]
        · rw [h.frame, keyUnloaded_idle hidle]
          rfl
  · have h := keyAnswered_keyDone (s := s.setRights ld bitmap) (opcode := 0xC412) (session := .fm)
      (before := s.keyTables) (payload := []) hretain
    refine ⟨_, setRights_sets hopen hlife hld, ?_, fun m hm => ?_, ?_, ?_, ?_⟩
    · rw [rights_of_crypto h.crypto, State.rights_setRights]
    · rw [rights_of_crypto h.crypto, State.rights_setRights_ne _ hm]
    · rw [h.out]
      rfl
    · exact (h.writes.mono keyRecordFields_subset).regs
    · exact frame_table rfl h.frame
  · have h := keyAnswered_keyDone (s := s.setRange index { enabled := true, mask := mask, base := base, stop := stop })
      (opcode := 0xC413) (session := .fm) (before := s.keyTables) (payload := []) hretain
    refine ⟨_, setRange_sets hopen hlife hindex hfree, ?_, fun n hn => ?_, ?_, ?_, ?_⟩
    · rw [range_of_crypto h.crypto, State.range_setRange]
    · rw [range_of_crypto h.crypto, State.range_setRange_ne _ hn]
    · rw [readCrypt_enabled, range_of_crypto h.crypto, State.range_setRange]
      rfl
    · rw [h.out]
      rfl
    · exact frame_table rfl h.frame
  · have h := keyNoted_keyCmd (s := s) 0xC414 session
    have hout : (s.keyCmd 0xC414 0 session).out = s.out := by rw [h.frame]
    exact ⟨_, querySlot_answers hopen hlife hslot hauth, congrArg (_ :: ·) hout,
      (h.alerted.writes.emit.mono keyRecordFields_subset).regs, frame_emit h.frame _⟩

end Sys2Proof.Proofs

/-! # The key record and the key table (R162, R192) -/

namespace Sys2Proof.Proofs

open Sys2Proof Sys2Proof.Machine Sys2Proof.Laws

variable {s t u : State}

/-! ## Tables whose entries are all changed -/

/-- In a table in its canonical form, what an entry as changed reads. -/
theorem get_mapWith {α : Type} [DecidableEq α] {dflt : Nat → α} {f : Nat → α → α} {m : Sparse α}
    (hwf : Sparse.wf dflt m = true) (k : Nat) (hd : f k (dflt k) = dflt k) :
    Sparse.get dflt (Sparse.mapWith dflt m f) k = f k (Sparse.get dflt m k) := by
  rw [Sparse.wf_iff] at hwf
  obtain ⟨hsorted, -⟩ := hwf
  induction m with
  | nil => exact hd.symm
  | cons e m ih =>
    obtain ⟨j, v⟩ := e
    obtain ⟨hlt, hrest⟩ := List.pairwise_cons.1 hsorted
    have hmap : Sparse.mapWith dflt ((j, v) :: m) f =
        (if f j v = dflt j then [] else [(j, f j v)]) ++ Sparse.mapWith dflt m f := by
      unfold Sparse.mapWith
      rw [List.filterMap_cons]
      split <;> simp_all
    rw [hmap, Sparse.get]
    by_cases hj : j = k
    · subst hj
      have hnone : Sparse.get dflt m j = dflt j := (get_cases dflt m j).resolve_right fun h => absurd (hlt _ h) (by simp)
      rw [if_pos rfl]
      split
      next hdrop => rw [List.nil_append, ih hrest, hnone, hd, hdrop]
      · exact if_pos rfl
    · rw [if_neg hj]
      split
      · exact ih hrest
      · exact (if_neg hj).trans (ih hrest)

/-! ## The key record commits (R162, R203) -/

/-- The answers that waited for the record leave in order. -/
theorem forAll_emit (answers : List (List Nat)) : s.forAll answers (fun s a => s.emit (.keyAnswer 0 a)) =
    { s with out := (answers.map (Out.keyAnswer 0)).reverse ++ s.out } := by
  induction answers generalizing s with
  | nil => rfl
  | cons a as ih =>
    rw [forAll_cons, ih, List.map_cons, List.reverse_cons, List.append_assoc]
    rfl

/-- No key waits for its record any more. -/
def noneWaits (keys : Sparse KeySlot) : Sparse KeySlot :=
  Sparse.mapWith (fun _ => KeySlot.empty) keys fun _ k => { k with pending := false }

/-- What the record and the tables are once an empty record has been written. -/
def emptyRecord (c : Crypto) : Crypto :=
  { c with
    commit := none, retried := false, keys := noneWaits c.keys, recKeys := [], recRights := [], recRanges := [] }

/-- The record has been written with key retention off: it is empty. -/
def recordEmptied (s : State) : State :=
  let s : State := { s with crypto := emptyRecord s.crypto }
  let s := s.appendSys recKey
  { s with folio := { s.folio with keyRecordSeq := s.folio.keyRecordSeq + 1, changed := true } }

theorem keyRecordCommit_empties {before : KeyTables} {answers : List (List Nat)}
    (hcommit : s.crypto.commit = some (before, answers)) (hretain : s.on FOLIO_CTL.key_retain = false) :
    exec (.keyRecordCommit true) s =
      .next { recordEmptied s with out := (answers.map (Out.keyAnswer 0)).reverse ++ s.out } := by
  have h : (recordEmptied s).forAll answers (fun s a => s.emit (.keyAnswer 0 a)) =
      { recordEmptied s with out := (answers.map (Out.keyAnswer 0)).reverse ++ s.out } := forAll_emit answers
  show Machine.execKeyRecordCommit true s = _
  rw [Machine.execKeyRecordCommit, hcommit]
  split
  next hnone => cases hnone
  next b a hsome =>
    obtain ⟨rfl, rfl⟩ := Prod.mk.inj (Option.some.inj hsome)
    rw [if_neg (by decide), ← h]
    extract_lets keep keys old c s₁ folio s₂
    have hkeep : keep = false := hretain
    have hc : c = emptyRecord s.crypto := by
      unfold c
      rw [hkeep]
      rfl
    have hs : s₂ = recordEmptied s := by
      unfold s₂ folio s₁
      rw [hc]
      rfl
    rw [hs]

theorem key_noneWaits (hwf : Sparse.wf (fun _ => KeySlot.empty) s.crypto.keys = true) (k : Nat) :
    Sparse.get (fun _ => KeySlot.empty) (noneWaits s.crypto.keys) k = { s.key k with pending := false } :=
  get_mapWith hwf k rfl

theorem key_of_keys {m : Sparse KeySlot} (h : t.crypto.keys = m) (k : Nat) :
    t.key k = Sparse.get (fun _ => KeySlot.empty) m k := by
  rw [State.key, h]

/-- The record is appended once more (R165). -/
def recordRetried (s : State) : State := { s with crypto := { s.crypto with retried := true } }

/-- The record could not be appended: the tables stand as they stood (R216). -/
def tablesBack (s : State) (before : KeyTables) : State :=
  ({ s with crypto := { s.crypto with
    keys := before.keys, rights := before.rights, ranges := before.ranges, commit := none, retried := false } } :
    State).wr (KERF_STAT.state.ix 2) before.rekey

/-- The commands that waited for the record have failed. -/
theorem keyRecordFails_tells (before : KeyTables) (answers : List (List Nat)) :
    Alerted keyCmdRegs (tablesBack s before) (s.keyRecordFails before answers) := by
  have hmem : CRYPT_KEYCMD_LAST.status ∈ keyCmdRegs := by simp [keyCmdRegs]
  exact (Alerted.refl (tablesBack s before)).forAllMem fun _ _ _ h => ((h.wr hmem).cause cause19_subset).emit

/-! ## Entries that failed (R192) -/

/-- An entry that failed unloads its slot. -/
def slotLost (s : State) (k : Nat) (lost : Bool) : State :=
  ((s.setKey k { KeySlot.empty with lost := lost }).cause 0x19 6).err 0x19 0x0707 k

theorem slotLost_loses (k : Nat) (lost : Bool) : ((slotLost s k lost).key k).loaded = false ∧
    (∀ j, j ≠ k → (slotLost s k lost).key j = s.key j) ∧ (slotLost s k lost).lines = s.lines ∧
    (slotLost s k lost).folio = s.folio := by
  have h : Logged (s.setKey k { KeySlot.empty with lost := lost }) (slotLost s k lost) :=
    ((Logged.refl _).cause 0x19 6).err 0x19 0x0707 k
  obtain ⟨-, hlines, hfolio, -⟩ := setKey_keeps (s := s) k { KeySlot.empty with lost := lost }
  refine ⟨?_, fun j hj => ?_, (lines_of_logged h).trans hlines, (folio_of_logged h).trans hfolio⟩
  · rw [key_of_crypto (crypto_of_logged h), State.key_setKey]
    rfl
  · rw [key_of_crypto (crypto_of_logged h), State.key_setKey_ne _ hj]

/-- Slots of a list are lost, each for its own reason. -/
def slotsLost (s : State) (ks : List SlotNo) : State :=
  s.forAll ks fun s k => slotLost s k ((s.key k).loaded && s.on FOLIO_CTL.key_retain)

theorem slotsLost_lose (ks : List SlotNo) : (∀ k ∈ ks, ((slotsLost s ks).key k).loaded = false) ∧
    (∀ k : Nat, (∀ x ∈ ks, x.val ≠ k) → (slotsLost s ks).key k = s.key k) ∧ (slotsLost s ks).lines = s.lines ∧
    (slotsLost s ks).folio = s.folio := by
  induction ks generalizing s with
  | nil => exact ⟨fun k hk => absurd hk List.not_mem_nil, fun _ _ => rfl, rfl, rfl⟩
  | cons x xs ih =>
    obtain ⟨hself, hother, hlines, hfolio⟩ := slotLost_loses (s := s) x ((s.key x).loaded && s.on FOLIO_CTL.key_retain)
    have hcons : slotsLost s (x :: xs) =
      slotsLost (slotLost s x ((s.key x).loaded && s.on FOLIO_CTL.key_retain)) xs := forAll_cons ..
    obtain ⟨hlost, hkept, hl, hf⟩ :=
      ih (s := slotLost s x ((s.key x).loaded && s.on FOLIO_CTL.key_retain))
    rw [hcons]
    refine ⟨fun k hk => ?_, fun k hk => ?_, hl.trans hlines, hf.trans hfolio⟩
    · by_cases hmem : k ∈ xs
      · exact hlost k hmem
      · obtain rfl : k = x := (List.mem_cons.1 hk).resolve_right hmem
        rw [hkept k fun y hy hyk => hmem (Fin.ext hyk ▸ hy)]
        exact hself
    · rw [hkept k fun y hy => hk y (.tail _ hy), hother k (Ne.symm (hk x (.head _)))]

/-- Corrected entries are rewritten: each is reported, and no slot changes. -/
theorem correctedNoted (cs : List SlotNo) : Logged s (s.forAll cs fun s k => s.err 0x19 0x0709 k) :=
  logged_forAll (fun _ _ => (Logged.refl _).err _ _ _) _

/-! ## O26 -/

theorem keyRetainClear_clears {who : Accessor} (htakes : takes s who 0x1B = true)
    (hretain : s.on FOLIO_CTL.key_retain = true) (hlock : s.on (LOCK.lock.on 0x1B) = false) :
    exec (.keyRetainClear who) s = .next ((s.clr FOLIO_CTL.key_retain).writeKeyRecord s.keyTables []) := by
  refine congrArg Host.Outcome.next ((command_takes htakes _ _).trans (if_pos ?_))
  simp [hretain, hlock]

theorem writeKeyRecord_waits (before : KeyTables) (answers : List (List Nat)) :
    (s.writeKeyRecord before answers).crypto.commit.isSome = true ∧
      s.writeKeyRecord before answers = { s with crypto := (s.writeKeyRecord before answers).crypto } := by
  refine ⟨?_, rfl⟩
  unfold State.writeKeyRecord
  dsimp only
  split <;> rfl

theorem rd_writeKeyRecord (before : KeyTables) (answers : List (List Nat)) (f : Fld) :
    (s.writeKeyRecord before answers).rd f = s.rd f := rfl

theorem frame_clr (f : Fld) (h : t = { s.clr f with crypto := t.crypto }) :
    t = { s with flds := t.flds, crypto := t.crypto } := by
  rw [h]
  rfl

/-- Settles O26: the record is read from what its commit leaves, the table from the slots that were lost. -/
theorem keyRecordAndKeyTable : Obligations.KeyRecordAndKeyTable := by
  unfold Obligations.KeyRecordAndKeyTable
  refine ⟨fun who s htakes hretain hlock => ?_, fun before answers s hcommit hretain hwf => ?_,
    fun before answers s hcommit hretried => ?_, fun before answers s hcommit hretried => ?_, fun c u s => ?_,
    fun slot s hlost => ?_⟩
  · obtain ⟨hsome, hframe⟩ := writeKeyRecord_waits (s := s.clr FOLIO_CTL.key_retain) s.keyTables []
    refine ⟨_, keyRetainClear_clears htakes hretain hlock, ?_, hsome, fun f hf => ?_, frame_clr _ hframe⟩
    · rw [rd_writeKeyRecord]
      exact rd_wr_lt (by decide)
    · rw [rd_writeKeyRecord]
      exact ((Writes.refl s).wr (.head _)).regs f hf
  · refine ⟨_, keyRecordCommit_empties hcommit hretain, rfl, rfl, rfl, rfl, rfl, fun k => ?_, fun f _ => rfl, rfl⟩
    have hkey := (key_of_keys (t := { recordEmptied s with out := (answers.map (Out.keyAnswer 0)).reverse ++ s.out })
      (m := noneWaits s.crypto.keys) rfl k).trans (key_noneWaits hwf k)
    exact ⟨(congrArg KeySlot.loaded hkey).trans rfl, (congrArg KeySlot.k1 hkey).trans rfl⟩
  · have hlog : Logged (recordRetried s) ((recordRetried s).err 0x1B 0x0508 0) := (Logged.refl _).err _ _ _
    refine ⟨(recordRetried s).err 0x1B 0x0508 0, ?_, (crypto_of_logged hlog).trans rfl,
      (rd_err_corrected (by decide)).1, (folio_of_logged hlog).trans rfl, (lines_of_logged hlog).trans rfl⟩
    show Machine.execKeyRecordCommit false s = _
    rw [Machine.execKeyRecordCommit, hcommit]
    exact if_neg (ne_true_of_eq_false hretried)
  · have h := keyRecordFails_tells (s := s) before answers
    have hcrypto : (s.keyRecordFails before answers).crypto = (tablesBack s before).crypto := by rw [h.frame]
    have hfolio : (s.keyRecordFails before answers).folio = (tablesBack s before).folio := by rw [h.frame]
    have hlines : (s.keyRecordFails before answers).lines = (tablesBack s before).lines := by rw [h.frame]
    refine ⟨_, ?_, ?_, ?_, ?_, ?_, ?_, hfolio, hlines⟩
    · show Machine.execKeyRecordCommit false s = .next (s.keyRecordFails before answers)
      rw [Machine.execKeyRecordCommit, hcommit]
      exact if_pos hretried
    · rw [h.writes.rd (by rfl), tablesBack, State.rd_wr_self]
      rfl
    all_goals exact hcrypto ▸ rfl
  · have hlog := correctedNoted (s := s) c
    obtain ⟨hlost, hkept, hlines, hfolio⟩ := slotsLost_lose (s := s.forAll c fun s k => s.err 0x19 0x0709 k) u
    refine ⟨_, rfl, hlost, fun k hk => ?_, hlines.trans (lines_of_logged hlog), hfolio.trans (folio_of_logged hlog)⟩
    rw [← key_of_crypto (crypto_of_logged hlog)]
    exact hkept k hk
  · have hlog : Logged (s.setKey slot (Sparse.get (fun _ => KeySlot.empty) s.crypto.recKeys slot))
      ((s.setKey slot (Sparse.get (fun _ => KeySlot.empty) s.crypto.recKeys slot)).cause 0x19 3) :=
      (Logged.refl _).cause _ _
    obtain ⟨-, hlines, hfolio, -⟩ :=
      setKey_keeps (s := s) slot (Sparse.get (fun _ => KeySlot.empty) s.crypto.recKeys slot)
    refine ⟨_, if_pos hlost, ?_, fun k hk => ?_, (lines_of_logged hlog).trans hlines,
      (folio_of_logged hlog).trans hfolio⟩
    · rw [key_of_crypto (crypto_of_logged hlog), State.key_setKey]
    · rw [key_of_crypto (crypto_of_logged hlog), State.key_setKey_ne _ hk]

end Sys2Proof.Proofs

/-! # Mailbox commands that report, that are refused and that wait (R320, R324, R334 to R349, R453) -/

namespace Sys2Proof.Proofs

open Sys2Proof Sys2Proof.Machine Sys2Proof.Laws

variable {s t u : State} {port : PortNo} {ld : LdNo}

/-! ## A mailbox serves, refuses or waits -/

/-- What a mailbox answers, and what the command leaves. -/
def answered (port ld : Nat) (a : Answer) : State := a.2.2.emit (.mailbox port ld a.1 a.2.1)

theorem mboxServes_iff {p l : Nat} : mboxServes s p l = true ↔
    s.mboxOpen p l = true ∧ s.sys.mgmtDown = none ∧ s.lifeCycle ≠ 4 := by
  simp only [mboxServes, Bool.and_eq_true, decide_eq_true_eq, and_assoc]

theorem mailbox_serves {p l : Nat} (h : mboxServes s p l = true) (c : Instr) (dead : Bool) (f : State → Answer) :
    s.mailbox c p l dead f = .next (answered p l (f s)) := by
  obtain ⟨hopen, hdown, hlife⟩ := mboxServes_iff.1 h
  unfold State.mailbox State.served
  rw [if_neg (by simp [hopen]), if_neg (by simp [hdown]), if_neg (fun hd => hlife hd.1)]
  rfl

theorem mailbox_waits {p l at_ : Nat} (hopen : s.mboxOpen p l = true) (hdown : s.sys.mgmtDown = some at_) (c : Instr)
    (dead : Bool) (f : State → Answer) : s.mailbox c p l dead f =
      .next { s with mbox := { s.mbox with waiting := s.mbox.waiting ++ [c] } } := by
  unfold State.mailbox
  rw [if_neg (by simp [hopen]), if_pos (by simp [hdown])]

theorem adminOnly_gives {p l opcode : Nat} {f : State → Answer} (h : s.admin p l = true) :
    s.adminOnly p l opcode f = f s := if_pos h

theorem ownOnly_gives {p l opcode dpa len : Nat} {f : State → Answer} (h : s.owns p l dpa len = true) :
    s.ownOnly p l opcode dpa len f = f s := if_pos h

/-- A command denied to a logical device is counted, and keeps what is stored (R334, R359). -/
theorem denied_keeps (l opcode : Nat) : CountedUp s (s.denied port l opcode) (PORT_DENIED.count.port port) ∧
    Logged s (s.denied port l opcode) := by
  have hclear : ∀ p : PortNo, clear (errFields (phyPage p)) (PORT_DENIED.count.port p) = true ∧
      clear (causeFields (phyPage p)) (PORT_DENIED.count.port p) = true := by decide
  obtain ⟨hlog, hcause⟩ := hclear port
  refine ⟨?_, (((Logged.refl s).bump _).cause _ _).log _⟩
  have hrd : (s.denied port l opcode).rd (PORT_DENIED.count.port port) =
      ((s.bump (PORT_DENIED.count.port port)).cause (phyPage port) 6).rd (PORT_DENIED.count.port port) :=
    rd_log (e := { page := phyPage port, code := 0x0B0A, addr := opcode, access := 6, master := masterOf port l, tied := none })
      hlog
  exact hrd.trans ((rd_cause hcause 6).trans (rd_bump ..))

theorem answered_answers (u : State) (p l code : Nat) (payload : List Nat) :
    Answered (answered p l (code, payload, u)) p l code payload := rfl

theorem rd_answered (u : State) (p l code : Nat) (payload : List Nat) (f : Fld) :
    (answered p l (code, payload, u)).rd f = u.rd f := rfl

theorem mbox_answered (u : State) (p l code : Nat) (payload : List Nat) :
    (answered p l (code, payload, u)).mbox = u.mbox := rfl

theorem keepsData_answered (u : State) (p l code : Nat) (payload : List Nat) :
    KeepsData u (answered p l (code, payload, u)) := KeepsData.refl u

/-- A command that is denied is answered as unsupported. -/
theorem denied_answers (l opcode : Nat) : Answered (answered port l (rcUnsupported, [], s.denied port l opcode)) port l 3 [] ∧
    CountedUp s (answered port l (rcUnsupported, [], s.denied port l opcode)) (PORT_DENIED.count.port port) ∧
    KeepsData s (answered port l (rcUnsupported, [], s.denied port l opcode)) ∧
    (answered port l (rcUnsupported, [], s.denied port l opcode)).mbox = s.mbox := by
  obtain ⟨hcount, hlog⟩ := denied_keeps (s := s) (port := port) l opcode
  refine ⟨answered_answers .., (rd_answered ..).trans hcount, keepsData_trans hlog.keepsData (keepsData_answered ..), ?_⟩
  rw [mbox_answered, hlog.frame]

/-! ## O40 -/

/-- Settles O40: a denied command is counted and logged, and a waiting one joins the queue of doorbells. -/
theorem mailboxRefusesOrWaits : Obligations.MailboxRefusesOrWaits := by
  unfold Obligations.MailboxRefusesOrWaits
  refine ⟨fun port ld off val s hserves hadmin => ?_, fun port ld dpa len s hserves howns => ?_,
    fun port ld at_ s hopen hdown => ?_⟩
  · obtain ⟨hans, hcount, hdata, -⟩ := denied_answers (s := s) (port := port) ld 0xC405
    refine ⟨_, (mailbox_serves hserves _ _ _).trans ?_, hans, hcount, hdata⟩
    exact congrArg (fun a => Host.Outcome.next (answered port ld a)) (if_neg (ne_true_of_eq_false hadmin))
  · obtain ⟨hans, hcount, hdata, hmbox⟩ := denied_answers (s := s) (port := port) ld 0x4304
    refine ⟨_, (mailbox_serves hserves _ _ _).trans ?_, hans, by rw [hmbox], hcount, hdata⟩
    exact congrArg (fun a => Host.Outcome.next (answered port ld a)) (if_neg (ne_true_of_eq_false howns))
  · exact ⟨_, mailbox_waits hopen hdown _ _ _, rfl, fun f _ => rfl, rfl⟩

/-! ## O38 -/

/-- A mailbox answers, and nothing else happens. -/
theorem mailbox_reports {p l code : Nat} {payload : List Nat} {f : State → Answer} {c : Instr} {dead : Bool}
    (h : mboxServes s p l = true) (hf : f s = (code, payload, s)) :
    s.mailbox c p l dead f = .next (s.emit (.mailbox p l code payload)) := by
  rw [mailbox_serves h, hf]
  rfl

theorem fmApi_reports {p code : Nat} {payload : List Nat} {f : State → Answer} {c : Instr} (hport : s.hasPort p = true)
    (hmld : s.on (PORT_LINK_STAT.mld.port p) = true) (hmode : s.rd (PORT_LINK_STAT.mode.port p) ≠ 0)
    (hdown : s.sys.mgmtDown = none) (hlife : s.lifeCycle ≠ 4) (hf : f s = (code, payload, s)) :
    s.fmApi c p f = s.emit (.mailbox p 4 code payload) := by
  unfold State.fmApi State.served
  rw [if_neg (by simp [hport, hmld, hmode]), if_neg (by simp [hdown]), if_neg (fun hd => hlife hd.1), hf]

theorem mbGetEvents_all {p l n : Nat} (h : ((s.ld (masterOf p l)).log n).length ≤ 31) :
    State.mbGetEvents p l n s = (0, [0, (s.ld (masterOf p l)).lostOf n, ((s.ld (masterOf p l)).log n).length] ++
      ((s.ld (masterOf p l)).log n).flatMap EventRec.words, s) := by
  unfold State.mbGetEvents
  extract_lets d r
  rw [show r = d.log n from List.take_of_length_le h,
    show (if recordsPerPayload < (d.log n).length then 1 else 0) = 0 from if_neg (Nat.not_lt.2 h)]
  rfl

theorem mbIdentify_fixed (h : s.lifeCycle ≠ 1) : State.mbIdentify s = (0,
    [2 ^ 44, if s.sys.variant = 4 then 2 ^ 44 else 0, if s.sys.variant = 4 then 0 else 2 ^ 44, 0, 4096, 0], s) := by
  unfold State.mbIdentify
  simp only [h, if_false, decide_eq_true_eq]
  rfl

theorem mbGetPoison_none {p l dpa len : Nat} (h : s.owns p l dpa len = true) (hpoison : s.mbox.poison = [])
    (hover : s.mbox.poisonOverflow = none) : State.mbGetPoison p l dpa len s = (0, [0, 0, 0], s) := by
  unfold State.mbGetPoison
  rw [ownOnly_gives h, hpoison, hover]
  rfl

theorem readAccess_awake {who : Accessor} {off : Nat} (haligned : off % 4 = 0) (hread : s.mayRead who off = true)
    (hlatch : off ≠ 0x1108) (hawake : awake s (off / 4096) = true) :
    s.readAccess who off = (s.readReg who (off / 4096) (off % 4096), s) := by
  unfold State.readAccess
  rw [if_neg (by omega), if_neg (by simp [hread]), wakePage_awake hawake, ite_self]
  extract_lets u clk v
  rw [show v = s from if_neg hlatch]

theorem mbReadRegister_reads {off : Nat} (hadmin : s.admin port ld = true) (haligned : off % 4 = 0) (hlt : off < 0x80000)
    (hlatch : off ≠ 0x1108) (hawake : awake s (off / 4096) = true) :
    State.mbReadRegister port ld (.fn port ld) off s = (0, [s.readReg (.fn port ld) (off / 4096) (off % 4096)], s) := by
  have hread : s.mayRead (.fn port ld) off = true := by simp [State.mayRead, State.mayAdmin, hadmin]
  unfold State.mbReadRegister
  rw [adminOnly_gives hadmin, if_neg (Nat.not_le.2 hlt), readAccess_awake haligned hread hlatch hawake]
  rfl

theorem mbGetCapture_reads {page : Page} (hadmin : s.admin port ld = true) (hpresent : s.present page.val = true) :
    State.mbGetCapture port ld (.fn port ld) page s =
      (0, (List.range 15).map fun i => s.readReg (.fn port ld) page (0x10 + 4 * i), s) := by
  have hexists : pageExists page = true := by
    simp only [State.present, Bool.and_eq_true, and_assoc] at hpresent
    exact hpresent.1
  unfold State.mbGetCapture
  rw [adminOnly_gives hadmin, if_neg (by simp [hexists, hpresent])]
  rfl

theorem mbHealth_bits (s : State) : State.mbHealth s = (0, [s.needsCare.toNat + s.degraded.toNat * 2 +
    s.replaceNeeded.toNat * 4, s.mediaStatus, s.lifeUsed, ofSigned 16 s.hottestDie,
    if s.persistFused then s.folio.dirtyShutdowns else 0, s.correctedSum,
    if s.persistFused then min (Config.correctedReads s.free) (2 ^ 32 - 1) else 0], s.drawn) := by
  have hbit : ∀ (x : Bool) (n : Nat), (if x then 2 ^ n else 0) = x.toNat * 2 ^ n := by
    intro x n
    cases x
    · exact (Nat.zero_mul _).symm
    · exact (Nat.one_mul _).symm
  unfold State.mbHealth
  extract_lets b
  have hb : ∀ (x : Bool) (n : Nat), b x n = x.toNat * 2 ^ n := hbit
  rw [hb, hb, hb, pow_zero, Nat.mul_one]
  rfl

/-- Settles O38: each report is read from the state, and the state stays. -/
theorem mailboxReportsChangeNothing : Obligations.MailboxReportsChangeNothing := by
  unfold Obligations.MailboxReportsChangeNothing
  refine ⟨fun port ld s h => ⟨fun log hlog => mailbox_reports h (mbGetEvents_all hlog), mailbox_reports h rfl,
    ⟨_, mailbox_reports h rfl⟩, mailbox_reports h rfl, mailbox_reports h rfl, mailbox_reports h rfl,
    mailbox_reports h rfl, fun hlife => mailbox_reports h (mbIdentify_fixed hlife), mailbox_reports h rfl, ?_,
    mailbox_reports h rfl, mailbox_reports h rfl, fun dpa len howns hpoison hover =>
      mailbox_reports h (mbGetPoison_none howns hpoison hover), fun dpa len howns =>
      mailbox_reports h (ownOnly_gives howns), ⟨_, mailbox_reports h rfl⟩, ⟨_, mailbox_reports h rfl, rfl⟩,
    fun page hadmin hpresent => ⟨_, mailbox_reports h (mbGetCapture_reads hadmin hpresent), by simp⟩,
    fun off hadmin haligned hlt hlatch hawake =>
      ⟨_, mailbox_reports h (mbReadRegister_reads hadmin haligned hlt hlatch hawake)⟩⟩,
    fun port s hport hmld hmode hdown hlife =>
      ⟨congrArg Host.Outcome.next (fmApi_reports hport hmld hmode hdown hlife rfl),
        congrArg Host.Outcome.next (fmApi_reports hport hmld hmode hdown hlife rfl)⟩⟩
  exact ⟨_, _, _, _, (mailbox_serves h _ _ _).trans
    (congrArg (fun a => Host.Outcome.next (answered port ld a)) (mbHealth_bits s))⟩

end Sys2Proof.Proofs

/-! # The Gauge's windows and entries, and the flits of the pair (R232, R239, R241, R284, R288) -/

namespace Sys2Proof.Proofs

open Sys2Proof Sys2Proof.Machine Sys2Proof.Laws

variable {s t u : State}

/-! ## A window ends (R232, R235, R239) -/

/-- The fields at whose places the end of a window writes, but for the count of windows. -/
def windowEndPlaces : List Fld :=
  [GAUGE_PAIR_MISS.count, GAUGE_MISS_MAP.miss, GAUGE_PAIR_USED.lines, GAUGE_STAT.staged] ++ gaugeFields

theorem gaugeFields_subset : gaugeFields ⊆ windowEndPlaces := List.subset_append_right _ _

theorem gaugeCause_subset : causeFields 0x18 ⊆ windowEndPlaces := fun f hf => by
  simp [windowEndPlaces, gaugeFields, hf]

theorem places_cause {page bit : Nat} {l : List Fld} (h : Places l s t) (hl : causeFields page ⊆ l) :
    Places l s (t.cause page bit) :=
  h.trans (.writes ((Writes.refl t).cause hl))

theorem gauged_forAll {α : Type} {f : State → α → State} {as : List α} (h : Gauged s t)
    (hf : ∀ u a, Gauged s u → Gauged s (f u a)) : Gauged s (t.forAll as f) :=
  List.foldlRecOn (motive := Gauged s) as f h fun u hu a _ => hf u a hu

/-- A window's counts are kept by pair: every pair that missed is counted and shown. -/
theorem countMisses_places (l : List Nat) : Places windowEndPlaces s (s.forAll l State.countMiss) ∧
    Gauged s (s.forAll l State.countMiss) ∧ (s.forAll l State.countMiss).gauge = s.gauge := by
  have hlog : Logged s (s.forAll l State.countMiss) :=
    logged_forAll (fun u p => (((Logged.refl u).bump _).wr _ _).cause _ _) l
  refine ⟨(Places.refl s).forAll fun u p k => ?_, (Gauged.refl s).logged hlog, ?_⟩
  · unfold State.countMiss State.setBit
    rw [State.bump_eq]
    exact places_cause ((k.wr (by rfl)).wr (by rfl)) gaugeCause_subset
  · rw [hlog.frame]

/-- What a window shows of each pair. -/
def usedShown (s : State) : State :=
  s.forAll (List.range 208) fun s p => s.wr (GAUGE_PAIR_USED.lines.ix p) (min (s.used p) (2 ^ 26 - 1))

theorem usedShown_places : Places windowEndPlaces s (usedShown s) ∧ Logged s (usedShown s) :=
  ⟨(Places.refl s).forAll fun _ _ k => k.wr (by rfl), logged_forAll (fun _ _ => logged_wr _ _) _⟩

/-- Staged writes take effect (R239). -/
theorem applyStaged_places : Places windowEndPlaces s s.applyStaged ∧ Gauged s s.applyStaged ∧
    s.applyStaged.gauge.used = s.gauge.used ∧ s.applyStaged.gauge.windowAt = s.gauge.windowAt := by
  have hstage : ∀ (l : List Nat) (u : State), Places windowEndPlaces u (u.forAll l fun u p => u.setPair p (u.stagedPair p)) ∧
      Gauged u (u.forAll l fun u p => u.setPair p (u.stagedPair p)) ∧
      (u.forAll l fun u p => u.setPair p (u.stagedPair p)).gauge.used = u.gauge.used ∧
      (u.forAll l fun u p => u.setPair p (u.stagedPair p)).gauge.windowAt = u.gauge.windowAt := by
    intro l
    induction l with
    | nil => exact fun u => ⟨.refl u, .refl u, rfl, rfl⟩
    | cons p l ih =>
      intro u
      obtain ⟨hp, hg, hused, hat⟩ := ih (u.setPair p (u.stagedPair p))
      rw [forAll_cons]
      have hu : Places windowEndPlaces u (u.setPair p (u.stagedPair p)) := (Places.refl u).flds rfl
      exact ⟨hu.trans hp, Gauged.trans ((Gauged.refl u).gauge _) hg, hused, hat⟩
  unfold State.applyStaged
  split
  · exact ⟨.refl s, .refl s, rfl, rfl⟩
  · extract_lets t
    obtain ⟨hp, hg, hused, hat⟩ := hstage s.gauge.stagedPairs s
    set v : State := { t with gauge := { t.gauge with stagedPairs := [], windowUs := t.rd GAUGE_WINDOW.window_us } }
    have hlog : Logged v ((v.clr GAUGE_STAT.staged).cause 0x18 5) := ((Logged.refl v).clr _).cause _ _
    have hgauge : ((v.clr GAUGE_STAT.staged).cause 0x18 5).gauge = v.gauge := by rw [hlog.frame]
    have hv : Places windowEndPlaces s v := hp.flds rfl
    refine ⟨places_cause (Places.wr (f := GAUGE_STAT.staged) (v := 0) hv (by rfl)) gaugeCause_subset, (hg.gauge _).logged hlog, ?_, ?_⟩
    · rw [hgauge]
      exact hused
    · rw [hgauge]
      exact hat

/-- Bandwidth is computed again; the counts of the window stay. -/
theorem fixGauge_window : s.fixGauge.gauge.used = s.gauge.used ∧ s.fixGauge.gauge.windowAt = s.gauge.windowAt ∧
    s.fixGauge.gauge.force = s.gauge.force := by
  unfold State.fixGauge
  extract_lets t₁ t₂ t₃ t₄ g t₅
  have h : t₄.gauge = s.gauge := rfl
  have h₅ : t₅.gauge = { s.gauge with overNow := true } := rfl
  split
  · split
    · exact ⟨rfl, rfl, rfl⟩
    · have hlog : Logged t₅ (((t₅.put GAUGE_STAT.oversub).bump GAUGE_OVERSUB_CNT.count).cause 0x18 2) :=
        (((Logged.refl _).put _).bump _).cause _ _
      have hgauge : (((t₅.put GAUGE_STAT.oversub).bump GAUGE_OVERSUB_CNT.count).cause 0x18 2).gauge = t₅.gauge := by
        rw [hlog.frame]
      rw [hgauge, h₅]
      exact ⟨rfl, rfl, rfl⟩
  · exact ⟨rfl, rfl, rfl⟩

/-- A window begins with every count of it. -/
def windowBegun (s : State) : State :=
  { s with gauge := { s.gauge with used := [], dirtied := [], windowAt := s.now, overPairs := [], overNow := false } }

theorem windowAt_windowBegun (s : State) : (windowBegun s).gauge.windowAt = s.now := rfl

theorem windowBegun_begins (s : State) : Places windowEndPlaces s (windowBegun s) ∧ Gauged s (windowBegun s) ∧
    (windowBegun s).gauge.used = [] :=
  ⟨(Places.refl s).flds rfl, (Gauged.refl s).gauge _, rfl⟩

/-- The next window is in progress. -/
structure WindowOpened (s t : State) : Prop where
  places : Places windowEndPlaces s t
  gauged : Gauged s t
  used : t.gauge.used = []
  windowAt : t.gauge.windowAt = s.now

theorem windowOpened_stages (s : State) : WindowOpened s (windowBegun s).applyStaged.fixGauge := by
  obtain ⟨hp, hg, hused⟩ := windowBegun_begins s
  have hat := windowAt_windowBegun s
  generalize windowBegun s = t at *
  obtain ⟨hp₁, hg₁, hused₁, hat₁⟩ := applyStaged_places (s := t)
  obtain ⟨hused₂, hat₂, -⟩ := fixGauge_window (s := t.applyStaged)
  exact ⟨(hp.trans hp₁).trans ((Places.writes writes_fixGauge).mono gaugeFields_subset),
    (hg.trans hg₁).trans gauged_fixGauge, (hused₂.trans hused₁).trans hused, (hat₂.trans hat₁).trans hat⟩

/-- The window that ends is counted, whole or short. -/
def windowCounted (s : State) (short : Bool) : State := (s.bump GAUGE_WINDOWS.count).wrb GAUGE_STAT.short short

/-- The fields at whose places the end of a window writes. -/
def windowPlaces : List Fld := GAUGE_WINDOWS.count :: GAUGE_STAT.short :: GAUGE_DEMOTE_MAP.master :: windowEndPlaces

theorem windowEndPlaces_subset : windowEndPlaces ⊆ windowPlaces := fun _ hf => .tail _ (.tail _ (.tail _ hf))

theorem windowCounted_counts (short : Bool) : CountedUp s (windowCounted s short) GAUGE_WINDOWS.count ∧
    (windowCounted s short).rd GAUGE_STAT.short = short.toNat ∧ Places windowPlaces s (windowCounted s short) ∧
    Logged s (windowCounted s short) := by
  unfold windowCounted State.wrb
  refine ⟨?_, ?_, ((Places.refl s).wr (by rfl)).wr (by rfl), ((Logged.refl s).bump _).wr _ _⟩
  · rw [CountedUp, rd_wr_apart (by rfl), rd_bump]
  · cases short
    · exact rd_wr_lt (by decide)
    · exact rd_wr_lt (by decide)

/-- Oversubscription ends with a whole window of enough bandwidth (R237). -/
theorem oversubEnds (c : Prop) [Decidable c] :
    Places windowEndPlaces s (if c then (s.clr GAUGE_STAT.oversub).cause 0x18 3 else s) ∧
      Logged s (if c then (s.clr GAUGE_STAT.oversub).cause 0x18 3 else s) := by
  split
  · exact ⟨places_cause ((Places.refl s).wr (by rfl)) gaugeCause_subset, ((Logged.refl _).clr _).cause _ _⟩
  · exact ⟨.refl s, .refl s⟩

/-- No master is demoted any more. -/
theorem demotions_end : Places windowPlaces s (s.wr GAUGE_DEMOTE_MAP.master 0) ∧
    (s.wr GAUGE_DEMOTE_MAP.master 0).rd GAUGE_DEMOTE_MAP.master = 0 ∧
    (s.wr GAUGE_DEMOTE_MAP.master 0).rd GAUGE_WINDOWS.count = s.rd GAUGE_WINDOWS.count ∧
    (s.wr GAUGE_DEMOTE_MAP.master 0).rd GAUGE_STAT.short = s.rd GAUGE_STAT.short :=
  ⟨(Places.refl s).wr (by rfl), rd_wr_lt (by decide), rd_wr_apart (by rfl) _, rd_wr_apart (by rfl) _⟩

/-- The pairs that missed their guarantee in a whole window are counted. -/
theorem missesCounted (short : Bool) (l : List Nat) :
    Places windowEndPlaces s (if short then s else s.forAll l State.countMiss) ∧
      Gauged s (if short then s else s.forAll l State.countMiss) := by
  obtain ⟨hp, hg, -⟩ := countMisses_places (s := s) l
  split
  · exact ⟨.refl s, .refl s⟩
  · exact ⟨hp, hg⟩

/-- What the end of a window leaves. -/
structure WindowEnded (short : Bool) (s t : State) : Prop where
  places : Places windowPlaces s t
  gauged : Gauged s t
  used : t.gauge.used = []
  windowAt : t.gauge.windowAt = s.now
  count : CountedUp s t GAUGE_WINDOWS.count
  short : t.rd GAUGE_STAT.short = short.toNat
  demote : t.rd GAUGE_DEMOTE_MAP.master = 0

theorem windowEnded_endWindow (short : Bool) : WindowEnded short s (s.endWindow short) := by
  unfold State.endWindow
  extract_lets t₁ t₂ t₃ t₄ t₅ g t₆
  obtain ⟨hp₁, hg₁⟩ : Places windowEndPlaces s t₁ ∧ Gauged s t₁ := missesCounted short _
  obtain ⟨hp₂, hl₂⟩ : Places windowEndPlaces t₁ t₂ ∧ Logged t₁ t₂ := usedShown_places
  obtain ⟨hcount₃, hshort₃, hp₃, hl₃⟩ : CountedUp t₂ t₃ GAUGE_WINDOWS.count ∧ t₃.rd GAUGE_STAT.short = short.toNat ∧
    Places windowPlaces t₂ t₃ ∧ Logged t₂ t₃ := windowCounted_counts short
  obtain ⟨hp₄, hl₄⟩ : Places windowEndPlaces t₃ t₄ ∧ Logged t₃ t₄ := oversubEnds _
  obtain ⟨hp₅, hdemote₅, hcount₅, hshort₅⟩ : Places windowPlaces t₄ t₅ ∧ t₅.rd GAUGE_DEMOTE_MAP.master = 0 ∧
    t₅.rd GAUGE_WINDOWS.count = t₄.rd GAUGE_WINDOWS.count ∧ t₅.rd GAUGE_STAT.short = t₄.rd GAUGE_STAT.short := demotions_end
  have hl₅ : Logged t₄ t₅ := logged_wr _ _
  have h : WindowOpened t₅ t₆.applyStaged.fixGauge := windowOpened_stages t₅
  have hg₅ : Gauged s t₅ := (((hg₁.logged hl₂).logged hl₃).logged hl₄).logged hl₅
  have hp₀ : Places windowEndPlaces s t₂ := hp₁.trans hp₂
  generalize t₆.applyStaged.fixGauge = t at h
  clear_value t₁ t₂ t₃ t₄ t₅
  refine ⟨?_, hg₅.trans h.gauged, h.used, h.windowAt.trans hg₅.now, ?_, ?_, ?_⟩
  · exact ((((hp₀.mono windowEndPlaces_subset).trans hp₃).trans (hp₄.mono windowEndPlaces_subset)).trans hp₅).trans
      (h.places.mono windowEndPlaces_subset)
  · rw [CountedUp, h.places.rd, hcount₅, hp₄.rd, hcount₃, hp₀.rd]
  · rw [h.places.rd, hshort₅, hp₄.rd, hshort₃]
  · rw [h.places.rd, hdemote₅]

/-! ## O29 -/

theorem now_advance (n : Nat) : (s.advance n).now = s.now + n := rfl

theorem rd_advance (n : Nat) (f : Fld) : (s.advance n).rd f = s.rd f := rfl

theorem keepsData_advance (n : Nat) : KeepsData s (s.advance n) := ⟨rfl, rfl, rfl, rfl⟩

/-- The forced class of a pair entry. -/
theorem pair_of_force (h : t.gauge.force = s.gauge.force) (p : Nat) : t.pair p = s.pair p := by
  rw [State.pair, State.pair, h]

/-- Corrected entries are reported. -/
theorem entriesCorrected (c : List (Fin 208)) : Logged s (s.forAll c fun s _ => s.err 0x18 0x0801 0) :=
  logged_forAll (fun _ _ => (Logged.refl _).err _ _ _) _

/-- A pair entry that failed has its reset values, and is reported. -/
def pairLost (s : State) (p : Nat) : State := (s.resetPair p).err 0x18 0x0802 p

theorem pairLost_loses (p : Nat) : (pairLost s p).pair p = PairForce.reset p ∧
    (∀ q, q ≠ p → (pairLost s p).pair q = s.pair q) ∧ Gauged s (pairLost s p) := by
  have hreset : Gauged s (s.resetPair p) := by
    unfold State.resetPair
    extract_lets t₁ t₂ g t₃
    have hlog : Logged s t₂ := ((((logged_wr _ _).wr _ _).wr _ _).wr _ _).wr _ _
    exact (((Gauged.refl s).logged hlog).gauge _).gauge _
  have hforce : ∀ q, (s.resetPair p).pair q = if q = p then PairForce.reset p else s.pair q := fun q => by
    unfold State.resetPair
    extract_lets t₁ t₂ g t₃
    by_cases hq : q = p
    · rw [hq, if_pos rfl, State.pair_setPair]
    · rw [if_neg hq, State.pair_setPair_ne _ hq]
      rfl
  have hlog : Logged (s.resetPair p) (pairLost s p) := (Logged.refl _).err _ _ _
  have hgauge : (pairLost s p).gauge.force = (s.resetPair p).gauge.force := by rw [hlog.frame]
  refine ⟨?_, fun q hq => ?_, hreset.logged hlog⟩
  · rw [pair_of_force hgauge, hforce, if_pos rfl]
  · rw [pair_of_force hgauge, hforce, if_neg hq]

/-- Pair entries of a list are lost. -/
def pairsLost (s : State) (ps : List (Fin 208)) : State := s.forAll ps fun s p => pairLost s p

theorem pairsLost_lose (ps : List (Fin 208)) : (∀ p ∈ ps, (pairsLost s ps).pair p = PairForce.reset p) ∧
    (∀ p : Nat, (∀ x ∈ ps, x.val ≠ p) → (pairsLost s ps).pair p = s.pair p) ∧ Gauged s (pairsLost s ps) := by
  induction ps generalizing s with
  | nil => exact ⟨fun p hp => absurd hp List.not_mem_nil, fun _ _ => rfl, .refl s⟩
  | cons x xs ih =>
    obtain ⟨hself, hother, hg⟩ := pairLost_loses (s := s) x
    obtain ⟨hlost, hkept, hgs⟩ := ih (s := pairLost s x)
    have hcons : pairsLost s (x :: xs) = pairsLost (pairLost s x) xs := forAll_cons ..
    rw [hcons]
    refine ⟨fun p hp => ?_, fun p hp => ?_, hg.trans hgs⟩
    · by_cases hmem : p ∈ xs
      · exact hlost p hmem
      · obtain rfl : p = x := (List.mem_cons.1 hp).resolve_right hmem
        rw [hkept p fun y hy hyp => hmem (Fin.ext hyp ▸ hy)]
        exact hself
    · rw [hkept p fun y hy => hp y (.tail _ hy), hother p (Ne.symm (hp x (.head _)))]

theorem gaugeWindowStart_ends (h : s.sys.phase ≠ .off) : exec .gaugeWindowStart s =
    .next ((s.advance s.windowLeft).endWindow (s.advance s.windowLeft).windowShort) := if_neg h

theorem gaugeTableSweep_resets (c u : List (Fin 208)) : exec (.gaugeTableSweep c u) s =
    .next (pairsLost (s.forAll c fun s _ => s.err 0x18 0x0801 0) u).fixGauge := rfl

/-- Settles O29: a window's end is read from what it leaves, and the entries from those that were lost. -/
theorem gaugeWindowAndTable : Obligations.GaugeWindowAndTable := by
  unfold Obligations.GaugeWindowAndTable
  refine ⟨fun s hphase => ?_, fun c u s => ?_⟩
  · have h := windowEnded_endWindow (s := s.advance s.windowLeft) (s.advance s.windowLeft).windowShort
    have hnow := h.gauged.now
    have hcount : CountedUp s ((s.advance s.windowLeft).endWindow (s.advance s.windowLeft).windowShort)
        GAUGE_WINDOWS.count := h.count.trans (by rw [rd_advance])
    exact ⟨_, gaugeWindowStart_ends hphase, h.used, h.windowAt.trans hnow.symm, hnow.trans (now_advance _), hcount, h.demote,
      keepsData_trans (keepsData_advance _) h.gauged.keepsData⟩
  · have hlog := entriesCorrected (s := s) c
    obtain ⟨hlost, hkept, hg⟩ := pairsLost_lose (s := s.forAll c fun s _ => s.err 0x18 0x0801 0) u
    obtain ⟨-, -, hforce⟩ := fixGauge_window (s := pairsLost (s.forAll c fun s _ => s.err 0x18 0x0801 0) u)
    have hgauge : (s.forAll c fun s _ => s.err 0x18 0x0801 0).gauge.force = s.gauge.force := by rw [hlog.frame]
    refine ⟨_, gaugeTableSweep_resets c u, fun p hp => (pair_of_force hforce p).trans (hlost p hp), fun p hp => ?_,
      keepsData_trans hlog.keepsData (hg.trans gauged_fixGauge).keepsData⟩
    exact (pair_of_force hforce p).trans ((hkept p hp).trans (pair_of_force hgauge p))

/-! ## O30 -/

end Sys2Proof.Proofs

/-! # Flits of the pair (R281 to R288) -/

namespace Sys2Proof.Proofs

open Sys2Proof Sys2Proof.Machine Sys2Proof.Laws

variable {s t u : State}

/-! ## Messages that leave -/

/-- Messages have been sent to the partner, or wait for room in the replay buffer (R283). -/
structure Sent (s t : State) : Prop where
  frame : t = { s with
    dove := { s.dove with
      txWait := t.dove.txWait, replay := t.dove.replay, txSeq := t.dove.txSeq, txCount := t.dove.txCount }
    out := t.out }
  out : s.out <:+ t.out
  waits : s.dove.txWait <+: t.dove.txWait

theorem Sent.refl (s : State) : Sent s s := ⟨rfl, List.suffix_rfl, List.prefix_rfl⟩

theorem Sent.dove (h : Sent s t) : t.dove = { s.dove with
    txWait := t.dove.txWait, replay := t.dove.replay, txSeq := t.dove.txSeq, txCount := t.dove.txCount } :=
  congrArg State.dove h.frame

theorem Sent.trans (h : Sent s t) (k : Sent t u) : Sent s u :=
  ⟨by rw [k.frame, h.frame], h.out.trans k.out, h.waits.trans k.waits⟩

theorem Sent.forAll {α : Type} {f : State → α → State} {as : List α} (h : Sent s t)
    (hf : ∀ u a, Sent u (f u a)) : Sent s (t.forAll as f) :=
  List.foldlRecOn (motive := Sent s) as f h fun u hu a _ => hu.trans (hf u a)

theorem sent_sendDove (m : DoveMsg) : Sent s (s.sendDove m) := by
  unfold State.sendDove
  extract_lets link n d
  split
  · exact .refl s
  · split
    · exact ⟨rfl, List.suffix_rfl, List.prefix_append _ _⟩
    · exact ⟨rfl, List.suffix_cons _ _, List.prefix_rfl⟩

/-- Over a link that is up, a message leaves or waits. -/
theorem doveSent_sendDove (m : DoveMsg) (h : s.linkUp = true) : DoveSent (s.sendDove m) m := by
  have hlink : ¬ s.rd DOVE_STAT.link < 2 := Nat.not_lt.2 (of_decide_eq_true h)
  unfold State.sendDove
  extract_lets link n d
  rw [if_neg hlink]
  split
  · exact .inr (List.mem_append_right _ (.head _))
  · exact .inl (.head _)

theorem DoveSent.sent {m : DoveMsg} (h : DoveSent s m) (k : Sent s t) : DoveSent t m :=
  h.imp (fun hm => k.out.subset hm) fun hm => k.waits.subset hm

theorem Sent.rd (h : Sent s t) (f : Fld) : t.rd f = s.rd f := by
  rw [h.frame]
  rfl

theorem Sent.regs (h : Sent s t) (l : List Fld) : SameRegs s t l := fun f _ => h.rd f

/-- What an ack leaves: the replay buffer without the flits that it covers, and what waited for room. -/
def acked (s : State) (ack : BitVec 24) : State :=
  { s with dove := { s.dove with replay := s.dove.replay.filter fun f => !covered ack f.seq, txWait := [] } }

theorem sent_ackFlits (ack : BitVec 24) : Sent (acked s ack) (s.ackFlits ack) :=
  (Sent.refl (acked s ack)).forAll fun _ _ => sent_sendDove _

theorem ackFlits_none (h : s.dove.txWait = []) (ack : BitVec 24) : s.ackFlits ack = acked s ack := by
  unfold State.ackFlits State.flushTx
  dsimp only
  rw [h]
  rfl

/-! ## A flit that is accepted, or fails its CRC (R284) -/

/-- The next flit in order has been accepted. -/
def flitTaken (s : State) (r : FlitRead) : State :=
  { s with dove := { s.dove with
    rxSeq := r.seq, rxDiscard := false, sameAck := 0
    rxCount := if r.prot then s.dove.rxCount + 1 else s.dove.rxCount } }

/-- A flit that passed its checks ends the run of failed FEC. -/
def fecPassed (s : State) : State := { s with dove := { s.dove with fecRun := 0 } }

theorem onMessages_pad (prot : Bool) : s.onMessages prot [.pad] = s := by
  unfold State.onMessages State.onMessages State.onMessage
  exact ite_self s

theorem dataFlit_next {r : FlitRead} (hseq : r.seq = s.dove.rxSeq + 1) (hpad : r.messages = [.pad]) :
    s.dataFlit r = flitTaken s r := by
  unfold State.dataFlit
  rw [if_pos hseq, hpad]
  exact onMessages_pad _

theorem doveFlitReceive_takes {f : DoveFlit} {r : FlitRead} (hup : s.linkUp = true) (hread : s.readFlit f = r)
    (hfec : r.fecOk = true) (hclean : r.fecCorrected = false) (hcrc : r.crcOk = true)
    (hmac : r.prot = true → r.macOk = true) (hkind : r.kind = 0) :
    exec (.doveFlitReceive f) s = .next (((fecPassed s).ackFlits r.ack).dataFlit r) := by
  have hchecks : ¬ (!r.fecOk || !r.crcOk || (r.prot && !r.macOk)) = true := by
    cases hprot : r.prot
    · simp [hfec, hcrc]
    · simp [hfec, hcrc, hmac hprot]
  show Machine.execDoveFlitReceive f s = _
  unfold Machine.execDoveFlitReceive
  rw [if_neg (by simp [hup]), hread]
  extract_lets fl t₁ d t₂
  have ht₁ : t₁ = s := if_neg (by simp [fl, hclean])
  have ht₂ : t₂ = (fecPassed s).ackFlits r.ack := by
    unfold t₂ d
    rw [ht₁]
    rfl
  rw [if_neg hchecks, ht₂]
  unfold fl
  rw [hkind]
  rfl

theorem flitTaken_meets {r : FlitRead} : (flitTaken s r).dove.rxSeq = r.seq ∧ (flitTaken s r).dove.rxDiscard = false ∧
    (flitTaken s r).dove.rxCount = (if r.prot then s.dove.rxCount + 1 else s.dove.rxCount) ∧
    (flitTaken s r) = { s with dove := (flitTaken s r).dove } := ⟨rfl, rfl, rfl, rfl⟩

theorem rd_of_dove (h : t = { s with dove := t.dove, out := t.out }) (f : Fld) : t.rd f = s.rd f := by
  rw [h]
  rfl

/-- A flit that fails its CRC has been counted, and asked for again. -/
def flitAsked (s : State) : State :=
  { s.bump DOVE_CRC_FAIL.count with dove := { s.dove with rxDiscard := true, sameAck := s.dove.sameAck + 1 } }

theorem askReplay_asks (hack : s.dove.sameAck < 3) (hrun : s.dove.fecRun < 8) :
    (s.bump DOVE_CRC_FAIL.count).askReplay =
      ((flitAsked s).bump DOVE_REPLAYS.count).emit (.doveFlit (flitAsked s).replayFlit) := by
  unfold State.askReplay
  refine if_neg ?_
  show ¬ (4 ≤ s.dove.sameAck + 1 ∨ 8 ≤ s.dove.fecRun)
  omega

theorem replayFlit_flitAsked : (flitAsked s).replayFlit = s.replayFlit := by
  have hunit : (flitAsked s).rd DOVE_PARTNER.unit = s.rd DOVE_PARTNER.unit := rd_wr_apart (by rfl) _
  have hown : (flitAsked s).rd SYS_UNIT.unit = s.rd SYS_UNIT.unit := rd_wr_apart (by rfl) _
  rw [State.replayFlit, State.replayFlit, State.flit, State.flit, hunit, hown]
  rfl

theorem rd_flitAsked (f : Fld) : (flitAsked s).rd f = (s.bump DOVE_CRC_FAIL.count).rd f := rfl

theorem doveFlitReceive_asks {f : DoveFlit} {r : FlitRead} (hup : s.linkUp = true) (hread : s.readFlit f = r)
    (hfec : r.fecOk = true) (hclean : r.fecCorrected = false) (hcrc : r.crcOk = false) :
    exec (.doveFlitReceive f) s = .next (s.bump DOVE_CRC_FAIL.count).askReplay := by
  have hbad : ∀ u : State, u.badFlit r = u.bump DOVE_CRC_FAIL.count := fun u => by
    unfold State.badFlit
    rw [if_neg (by simp [hfec]), if_pos (by simp [hcrc])]
  show Machine.execDoveFlitReceive f s = _
  unfold Machine.execDoveFlitReceive
  rw [if_neg (by simp [hup]), hread]
  extract_lets fl t₁ d t₂
  have ht₁ : t₁ = s := if_neg (by simp [fl, hclean])
  rw [if_pos (by simp [fl, hcrc]), ht₁]
  unfold fl
  rw [hbad]

/-- The flit asked for again: what it counts and what it leaves. -/
theorem flitAsked_meets : let t := ((flitAsked s).bump DOVE_REPLAYS.count).emit (.doveFlit (flitAsked s).replayFlit)
    t.dove.rxSeq = s.dove.rxSeq ∧ t.dove.rxDiscard = true ∧ t.out = .doveFlit s.replayFlit :: s.out ∧
      CountedUp s t DOVE_CRC_FAIL.count ∧ CountedUp s t DOVE_REPLAYS.count ∧
      SameRegs s t [DOVE_CRC_FAIL.count, DOVE_REPLAYS.count] ∧
      t = { s with flds := t.flds, dove := t.dove, out := t.out } := by
  intro t
  have hrd : ∀ f, t.rd f = ((flitAsked s).bump DOVE_REPLAYS.count).rd f := fun f => rd_emit _ f
  have hwr : Writes [DOVE_CRC_FAIL.count, DOVE_REPLAYS.count] s t := by
    have h : Writes [DOVE_CRC_FAIL.count, DOVE_REPLAYS.count] s (flitAsked s) :=
      ((Writes.refl s).wr (f := DOVE_CRC_FAIL.count) (.head _)).flds rfl
    exact (h.wr (.tail _ (.head _))).emit
  refine ⟨rfl, rfl, congrArg (fun f => Out.doveFlit f :: s.out) replayFlit_flitAsked, ?_, ?_, hwr.regs, rfl⟩
  · rw [CountedUp, hrd, State.bump_eq, rd_wr_apart (by rfl), rd_flitAsked, rd_bump]
  · rw [CountedUp, hrd, rd_bump, rd_flitAsked, State.bump_eq, rd_wr_apart (by rfl)]

/-! ## A replay request (R284) -/

/-- A replay request is remembered. -/
def replayNoted (s : State) (ack : BitVec 24) : State :=
  { s with dove := { s.dove with lastReplay := some (ack, s.now) } }

/-- The flits of the replay buffer leave again. -/
theorem forAll_replay (l : List SentFlit) : s.forAll l (fun s f => s.emit (.doveFlit f)) =
    { s with out := (l.map Out.doveFlit).reverse ++ s.out } := by
  induction l generalizing s with
  | nil => rfl
  | cons a as ih =>
    rw [forAll_cons, ih, List.map_cons, List.reverse_cons, List.append_assoc]
    rfl

theorem resend_replays {ack : BitVec 24} (hup : s.linkUp = true) (hlast : s.dove.lastReplay = none)
    (hwait : s.dove.txWait = []) : s.resend ack = { acked (replayNoted s ack) ack with
      out := ((acked (replayNoted s ack) ack).dove.replay.map Out.doveFlit).reverse ++ s.out } := by
  unfold State.resend
  rw [hlast]
  extract_lets again d t₁
  have ht₁ : t₁ = acked (replayNoted s ack) ack := ackFlits_none (s := replayNoted s ack) hwait ack
  rw [if_neg (by simp [hup, again]), ht₁]
  exact forAll_replay _

/-- Settles O30: what each flit changes is read from what it leaves. -/
theorem doveFlitsAreAcceptedOrReplayed : Obligations.DoveFlitsAreAcceptedOrReplayed := by
  unfold Obligations.DoveFlitsAreAcceptedOrReplayed
  refine ⟨fun f r s hup hread hfec hclean hcrc hmac hkind hseq hpad => ?_,
    fun f r s hup hread hfec hclean hcrc hack hrun => ?_, fun ack s hup hlast hwait => ?_, fun s => ?_⟩
  · have hsent := sent_ackFlits (s := fecPassed s) r.ack
    have hdove : ((fecPassed s).ackFlits r.ack).dove.rxSeq = s.dove.rxSeq ∧
        ((fecPassed s).ackFlits r.ack).dove.rxCount = s.dove.rxCount := by
      rw [hsent.dove]
      exact ⟨rfl, rfl⟩
    have hframe : (fecPassed s).ackFlits r.ack = { s with
        dove := ((fecPassed s).ackFlits r.ack).dove, out := ((fecPassed s).ackFlits r.ack).out } := by
      rw [hsent.frame]
      rfl
    have hexec := doveFlitReceive_takes hup hread hfec hclean hcrc hmac hkind
    generalize (fecPassed s).ackFlits r.ack = u at *
    rw [dataFlit_next (hseq.trans (by rw [hdove.1])) hpad] at hexec
    obtain ⟨hrx, hdiscard, hcount, htaken⟩ := flitTaken_meets (s := u) (r := r)
    have hall : flitTaken u r = { s with dove := (flitTaken u r).dove, out := (flitTaken u r).out } := by
      rw [htaken, hframe]
    exact ⟨_, hexec, hrx, hdiscard, hcount.trans (by rw [hdove.2]), fun f _ => rd_of_dove hall f, hall⟩
  · exact ⟨_, (doveFlitReceive_asks hup hread hfec hclean hcrc).trans
      (congrArg Host.Outcome.next (askReplay_asks hack hrun)), flitAsked_meets⟩
  · exact ⟨_, congrArg Host.Outcome.next (resend_replays hup hlast hwait), rfl, rfl, rfl, fun f _ => rfl, rfl⟩
  · exact congrArg Host.Outcome.next (ite_self s)

end Sys2Proof.Proofs

/-! # The commands of OTP (R553 to R565) -/

namespace Sys2Proof.Proofs

open Sys2Proof Sys2Proof.Machine Sys2Proof.Laws

variable {s t u : State}

/-! ## Rows -/

theorem rowOf_of_otp (h : t.otp = s.otp) (r : Nat) : t.rowOf r = s.rowOf r := by rw [State.rowOf, State.rowOf, h]

/-- What the OTP holds is none of the data. -/
theorem keepsData_otp (o : OtpState) : KeepsData s { s with otp := o } := ⟨rfl, rfl, rfl, rfl⟩

theorem keepsData_setRow (r v : Nat) : KeepsData s (s.setRow r v) := keepsData_otp _

/-- A drawn seed has used up its seven rows of the random source. -/
def drawn (s : State) (n : Nat) : State := { s with free := n }

theorem rowOf_drawn (n r : Nat) : (drawn s n).rowOf r = s.rowOf r := rfl

theorem keepsData_drawn (n : Nat) : KeepsData s (drawn s n) := ⟨rfl, rfl, rfl, rfl⟩

theorem rowOf_setRow (r v : Nat) : (s.setRow r v).rowOf r = v % 2 ^ 56 := by
  rw [State.rowOf, State.setRow, Sparse.get_set_self, BitVec.toNat_ofNat]

theorem rowOf_setRow_ne {r q : Nat} (h : q ≠ r) (v : Nat) : (s.setRow r v).rowOf q = s.rowOf q := by
  rw [State.rowOf, State.setRow, Sparse.get_set_ne _ _ h, State.rowOf]

/-- A row below the fuses that reads blank has not been programmed. -/
theorem rowOf_of_blank {r : Nat} (hr : r < 284) (h : s.otpRow r = 0) : s.rowOf r = 0 := by
  unfold State.otpRow at h
  rw [if_neg (by omega), if_neg (by omega)] at h
  split at h
  · exact h
  next hn => exact not_not.1 fun hne => hn (.inl hne)

/-! ## How a command ends -/

/-- The fields that a command of OTP writes. -/
def otpFields : List Fld :=
  OTP_STAT.region_locked :: OTP_CMD_STAT.done :: OTP_CMD_STAT.refused :: OTP_CMD_STAT.reason :: causeFields 0x05

theorem otpCmd_acts {who : Accessor} (h : otpOpen s who = true) (act : State → State) :
    s.otpCmd who 0x4F54 act = act s := by
  simp only [otpOpen, Bool.and_eq_true, decide_eq_true_eq] at h
  obtain ⟨⟨htakes, hlife⟩, hphase⟩ := h
  rw [State.otpCmd, command_takes htakes, if_neg (not_not.2 rfl), if_neg (by omega), if_neg hphase]

/-- A command that completes says so. -/
theorem done_otpDone : s.otpDone.rd OTP_CMD_STAT.done = 1 := by
  rw [State.otpDone, rd_cause (by rfl)]
  exact rd_put_self

theorem alerted_otpDone : Alerted otpFields s s.otpDone :=
  ((Alerted.refl s).wr (by decide)).cause (by decide)

theorem otp_otpDone : s.otpDone.otp = s.otp := by rw [alerted_otpDone.frame]

theorem free_otpDone : s.otpDone.free = s.free := by rw [alerted_otpDone.frame]

theorem keepsData_of_alerted {l : List Fld} (h : Alerted l s t) : KeepsData s t := by
  rw [h.frame]
  exact ⟨rfl, rfl, rfl, rfl⟩

/-! ## Locks -/

/-- The lock bits once they have been joined. -/
theorem testBit_foldl_or (l : List Nat) (a i : Nat) :
    ((l.map (2 ^ ·)).foldl (· ||| ·) a).testBit i = (a.testBit i || l.contains i) := by
  induction l generalizing a with
  | nil => simp
  | cons r l ih =>
    rw [List.map_cons, List.foldl_cons, ih, Nat.testBit_or, Nat.testBit_two_pow, List.contains_cons, Bool.or_assoc,
      show decide (r = i) = (i == r) from by simp [eq_comm, beq_eq_decide]]

/-- A region whose lock has been blown is locked. -/
theorem isLocked_of_mem {r : Nat} (hr : r < 7) (h : r ∈ s.otp.locked) : s.isLocked r = true := by
  have hblown : ∀ x : Nat, (((s.otp.locked.map (2 ^ ·)).foldl (· ||| ·) 0) ||| x).testBit r = true := fun x => by
    rw [Nat.testBit_or, testBit_foldl_or, List.contains_iff_mem.2 h]
    simp
  rw [State.isLocked, bitOf_eq_testBit, State.lockMask, show (128 : Nat) = 2 ^ 7 from rfl, Nat.testBit_mod_two_pow,
    decide_eq_true hr, majority, Nat.testBit_or, Nat.testBit_or, Nat.testBit_and, hblown, hblown]
  rfl

theorem isLocked_of_otp (h : t.otp = s.otp) (r : Nat) : t.isLocked r = s.isLocked r := by
  rw [State.isLocked, State.isLocked, State.lockMask, State.lockMask, h, rowOf_of_otp h, rowOf_of_otp h, rowOf_of_otp h]

theorem rd_fixLocks : s.fixLocks.rd OTP_STAT.region_locked = s.lockMask := by
  rw [State.fixLocks, State.rd_wr_self]
  exact Nat.mod_eq_of_lt (lt_of_lt_of_le (Nat.mod_lt _ (by decide)) (by decide))

/-! ## OTP_PROGRAM (R559) -/

/-- The row that OTP_PROG_IDX names takes the data. -/
def programmed (s : State) (r : Nat) : State := (s.setRow r (s.rowOf r ||| s.progData)).fixLocks

theorem otpProgram_programs {who : Accessor} (hopen : otpOpen s who = true) (hr : s.rd OTP_PROG_IDX.row < 284)
    (hlock : s.isLocked (regionOf (s.rd OTP_PROG_IDX.row)) = false) (hblank : s.otpRow (s.rd OTP_PROG_IDX.row) = 0) :
    exec (.otpProgram who 0x4F54 true) s = .next (programmed s (s.rd OTP_PROG_IDX.row)).otpDone := by
  show Machine.execOtpProgram who 0x4F54 true s = _
  rw [Machine.execOtpProgram, otpCmd_acts hopen]
  extract_lets r fuses
  rw [if_neg (fun h => absurd (hlock.symm.trans h.1) (by decide)),
    if_neg (fun h => h.elim (fun h => absurd hr (by omega)) fun h => h.2 hblank)]
  rfl

theorem programmed_takes {r : Nat} (hr : r < 284) (hblank : s.otpRow r = 0) :
    (programmed s r).rowOf r = s.progData % 2 ^ 56 ∧ (∀ q, q ≠ r → (programmed s r).rowOf q = s.rowOf q) ∧
      KeepsData s (programmed s r) := by
  refine ⟨?_, fun q hq => ?_, rfl, rfl, rfl, rfl⟩
  · rw [rowOf_of_otp (t := programmed s r) (s := s.setRow r (s.rowOf r ||| s.progData)) rfl, rowOf_setRow,
      rowOf_of_blank hr hblank, Nat.zero_or]
  · exact (rowOf_of_otp (s := s.setRow r (s.rowOf r ||| s.progData)) rfl q).trans (rowOf_setRow_ne hq _)

/-! ## Refusals (R559, R564) -/

/-- What the commands of OTP do after the factory. -/
theorem otpCmd_refuses {who : Accessor} (htakes : takes s who 0x05 = true) (hlife : 2 ≤ s.lifeCycle)
    (act : State → State) : s.otpCmd who 0x4F54 act = s.otpRefuse 1 := by
  rw [State.otpCmd, command_takes htakes, if_neg (not_not.2 rfl), if_pos hlife]

theorem frame_wr_wr (f g : Fld) (v w : Nat) : (s.wr f v).wr g w = { s with flds := ((s.wr f v).wr g w).flds } := rfl

theorem otpRefuse_refuses : (s.otpRefuse 1).rd OTP_CMD_STAT.refused = 1 ∧ (s.otpRefuse 1).rd OTP_CMD_STAT.reason = 1 ∧
    SameRegs s (s.otpRefuse 1) [OTP_CMD_STAT.refused, OTP_CMD_STAT.reason] ∧
    s.otpRefuse 1 = { s with flds := (s.otpRefuse 1).flds } := by
  refine ⟨?_, rd_wr_lt (by decide), (((Writes.refl s).wr (.head _)).wr (.tail _ (.head _))).regs, frame_wr_wr _ _ _ _⟩
  rw [State.otpRefuse, rd_wr_apart (by rfl)]
  exact rd_put_self

/-! ## OTP_REPAIR (R559) -/

/-- A row reads from its spare. -/
def redirect (s : State) (r n : Nat) : State :=
  { s with otp := { s.otp with spared := s.otp.spared.filter (fun (e : Nat × Nat) => decide (e.1 ≠ r)) ++ [(r, n)] } }

/-- A spare has taken the row's data and its redirection entry. -/
def sparedRow (s : State) (r n : Nat) : State := redirect (s.setRow n s.progData) r n

theorem rowOf_redirect (r n q : Nat) : (redirect s r n).rowOf q = s.rowOf q := rfl

theorem mem_redirect (r n : Nat) : (r, n) ∈ (redirect s r n).otp.spared :=
  List.mem_append_right _ (List.mem_singleton.2 rfl)

theorem otpRepair_repairs {who : Accessor} (hopen : otpOpen s who = true)
    (hlock : s.isLocked (regionOf (s.rd OTP_PROG_IDX.row)) = false) (hspare : s.nextSpare < 544) :
    exec (.otpRepair who 0x4F54 true true) s = .next (sparedRow s (s.rd OTP_PROG_IDX.row) s.nextSpare).otpDone := by
  show Machine.execOtpRepair who 0x4F54 true true s = _
  rw [Machine.execOtpRepair, otpCmd_acts hopen]
  extract_lets r n
  rw [if_neg (fun h => absurd (hlock.symm.trans h.1) (by decide)), if_neg (by omega)]
  rfl

theorem keepsData_sparedRow (r n : Nat) : KeepsData s (sparedRow s r n) :=
  keepsData_trans (keepsData_setRow n s.progData) (keepsData_otp _)

theorem rowOf_sparedRow (r n : Nat) : (sparedRow s r n).rowOf n = s.progData % 2 ^ 56 :=
  (rowOf_redirect r n n).trans (rowOf_setRow n _)

/-! ## OTP_LOCK (R559, R560) -/

/-- The lock bit of a region is blown. -/
def lockedRegion (s : State) (r : Nat) : State :=
  ({ s with otp := { s.otp with locked := s.otp.locked ++ [r] } } : State).fixLocks

theorem otpLock_locks {who : Accessor} {region : Fin 8} (hopen : otpOpen s who = true) (hr : region.val < 7)
    (hlock : s.isLocked region = false) (hcheck : s.checkBlank region = false) :
    exec (.otpLock who 0x4F54 region false) s = .next (lockedRegion s region).otpDone := by
  show Machine.execOtpLock who 0x4F54 region false s = _
  rw [Machine.execOtpLock, otpCmd_acts hopen]
  extract_lets r blank
  have hr7 : ¬(s.isLocked r = true ∨ r = 7) :=
    fun h => h.elim (fun h => absurd (hlock.symm.trans h) (by decide)) fun h => absurd hr (by omega)
  have hblank : blank = false := hcheck
  rw [if_neg hr7, hblank, if_neg (fun h => absurd h.1 (by decide)), if_neg (by decide)]
  rfl

theorem keepsData_lockedRegion (r : Nat) : KeepsData s (lockedRegion s r) := ⟨rfl, rfl, rfl, rfl⟩

theorem lockedRegion_locks {r : Nat} (hr : r < 7) : (lockedRegion s r).isLocked r = true :=
  isLocked_of_mem hr (List.mem_append_right _ (List.mem_singleton.2 rfl))

theorem bitOf_lockedRegion {r : Nat} (hr : r < 7) :
    bitOf ((lockedRegion s r).rd OTP_STAT.region_locked) r = true := by
  rw [lockedRegion, rd_fixLocks]
  exact isLocked_of_mem hr (List.mem_append_right _ (List.mem_singleton.2 rfl))

/-! ## OTP_GEN_SEED (R559) -/

/-- Rows that are set one after another from a first row on. -/
theorem forAll_setRow (l : List Nat) (first k : Nat) :
    ∃ o, s.forAll (l.zipIdx k) (fun s e => s.setRow (first + e.2) e.1) = { s with otp := o } ∧
      (∀ i < l.length, ({ s with otp := o } : State).rowOf (first + (k + i)) = l.getD i 0 % 2 ^ 56) ∧
      ∀ r, r < first + k ∨ first + k + l.length ≤ r → ({ s with otp := o } : State).rowOf r = s.rowOf r := by
  induction l generalizing s k with
  | nil => exact ⟨s.otp, rfl, fun i hi => absurd hi (Nat.not_lt_zero i), fun _ _ => rfl⟩
  | cons v l ih =>
    obtain ⟨o, hall, hrows, hother⟩ := ih (s := s.setRow (first + k) v) (k := k + 1)
    refine ⟨o, hall, fun i hi => ?_, fun r hr => ?_⟩
    · cases i with
      | zero =>
        have := hother (first + k) (.inl (by omega))
        exact this.trans (rowOf_setRow _ _)
      | succ i =>
        have := hrows i (by simpa using hi)
        rw [show first + (k + 1 + i) = first + (k + (i + 1)) by omega] at this
        exact this
    · rw [List.length_cons] at hr
      exact (hother r (by omega)).trans (rowOf_setRow_ne (by omega) v)

theorem length_seedRows (free : Nat) : (seedRows free).length = 8 := by simp [seedRows]

/-- The seed's eight rows. -/
def seeded (s : State) : State := s.forAll (seedRows s.free).zipIdx fun s e => s.setRow (276 + e.2) e.1

theorem seeded_takes : (∃ o, seeded s = { s with otp := o }) ∧
    (∀ i < 8, (seeded s).rowOf (276 + i) = (seedRows s.free).getD i 0 % 2 ^ 56) ∧
    ∀ r, r < 276 ∨ 283 < r → (seeded s).rowOf r = s.rowOf r := by
  obtain ⟨o, hall, hrows, hother⟩ := forAll_setRow (s := s) (seedRows s.free) 276 0
  rw [length_seedRows] at hrows hother
  rw [seeded, hall]
  refine ⟨⟨o, rfl⟩, fun i hi => ?_, fun r hr => hother r (by omega)⟩
  have := hrows i hi
  rw [Nat.zero_add] at this
  exact this

theorem otpGenSeed_draws {who : Accessor} (hopen : otpOpen s who = true) (hlock : s.isLocked 4 = false)
    (hblank : ∀ r < 8, s.otpRow (276 + r) = 0) :
    exec (.otpGenSeed who 0x4F54) s = .next (drawn (seeded s) (s.free + 7)).otpDone := by
  have hnone : ((List.range' 276 8).any fun r => decide (s.otpRow r ≠ 0)) = false := by
    refine List.any_eq_false.2 fun r hr => ?_
    obtain ⟨i, hi, rfl⟩ := List.mem_range'.1 hr
    simpa using hblank i hi
  show Machine.execOtpGenSeed who 0x4F54 s = _
  rw [Machine.execOtpGenSeed, otpCmd_acts hopen, if_neg (Bool.eq_false_iff.1 hlock), if_neg (Bool.eq_false_iff.1 hnone)]
  rfl

/-- A check row fits its row. -/
theorem checkRowOf_lt {rows : List Nat} : checkRowOf rows < 2 ^ 56 := by
  have hcrc := (crc32 (rows.flatMap fun v => (List.range 7).map fun i => v / 256 ^ i % 256)).isLt
  have hcount : rows.length % 256 < 256 := Nat.mod_lt _ (by decide)
  rw [checkRowOf]
  omega

/-- The seed's check row is over the rows that have been drawn. -/
theorem seeded_checks : (seeded s).rowOf 283 = checkRowOf ((List.range 7).map fun r => (seeded s).rowOf (276 + r)) := by
  obtain ⟨-, hrows, -⟩ := seeded_takes (s := s)
  have hdata : (List.range 7).map (fun r => (seeded s).rowOf (276 + r)) =
      (List.range 7).map fun i => (Config.randomKey (s.free + i)).toNat % 2 ^ 56 := by
    refine List.map_congr_left fun i hi => ?_
    have hi7 : i < 7 := List.mem_range.1 hi
    rw [hrows i (by omega), seedRows, List.getD_eq_getElem?_getD, List.getElem?_append_left (by simpa using hi7),
      List.getElem?_map, List.getElem?_range hi7]
    exact Nat.mod_mod _ _
  rw [hdata, show (283 : Nat) = 276 + 7 from rfl, hrows 7 (by decide)]
  exact Nat.mod_eq_of_lt checkRowOf_lt

/-! ## OTP_LATCH_COMPARE (R556) -/

theorem otpLatchCompare_agrees (row : Fin 512) (h : s.sys.phase ≠ .off) :
    exec (.otpLatchCompare true row) s = .next (s.advance psMs) := if_neg h

theorem otpLatchCompare_differs (row : Fin 512) (h : s.sys.phase ≠ .off) :
    exec (.otpLatchCompare false row) s = .next ((s.advance psMs).err 0x05 0x1407 row) := if_neg h

/-- Settles O53. -/
theorem otpCommandsProgramRows : Obligations.OtpCommandsProgramRows := by
  unfold Obligations.OtpCommandsProgramRows
  refine ⟨fun who s hopen hr hlock hblank => ?_, fun who verified linked force region s htakes hlife => ?_,
    fun who s hopen hlock hspare => ?_, fun who region s hopen hr hlock hcheck => ?_,
    fun who s hopen hlock hblank => ?_, fun row s hphase => ⟨?_, ?_⟩⟩
  · obtain ⟨hrow, hother, hkeeps⟩ := programmed_takes hr hblank
    exact ⟨_, otpProgram_programs hopen hr hlock hblank, (rowOf_of_otp otp_otpDone _).trans hrow,
      fun q hq => (rowOf_of_otp otp_otpDone q).trans (hother q hq), done_otpDone,
      keepsData_trans hkeeps (keepsData_of_alerted alerted_otpDone)⟩
  · obtain ⟨hrefused, hreason, hregs, hframe⟩ := otpRefuse_refuses (s := s)
    have hall := otpCmd_refuses htakes hlife
    exact ⟨_, congrArg Host.Outcome.next (hall _), hrefused, hreason, hregs, hframe,
      congrArg Host.Outcome.next (hall _), congrArg Host.Outcome.next (hall _), congrArg Host.Outcome.next (hall _)⟩
  · refine ⟨_, otpRepair_repairs hopen hlock hspare, (rowOf_of_otp otp_otpDone _).trans (rowOf_sparedRow _ _), ?_,
      done_otpDone, keepsData_trans (keepsData_sparedRow _ _) (keepsData_of_alerted alerted_otpDone)⟩
    rw [otp_otpDone]
    exact mem_redirect _ _
  · refine ⟨_, otpLock_locks hopen hr hlock hcheck, (isLocked_of_otp otp_otpDone _).trans (lockedRegion_locks hr), ?_,
      done_otpDone, keepsData_trans (keepsData_lockedRegion _) (keepsData_of_alerted alerted_otpDone)⟩
    rw [State.otpDone, rd_cause (by rfl), State.put_eq, rd_wr_apart (by rfl)]
    exact bitOf_lockedRegion hr
  · obtain ⟨⟨o, ho⟩, -, hother⟩ := seeded_takes (s := s)
    have hrow : ∀ r, (drawn (seeded s) (s.free + 7)).otpDone.rowOf r = (seeded s).rowOf r :=
      fun r => (rowOf_of_otp otp_otpDone r).trans (rowOf_drawn _ r)
    have hkeeps : KeepsData s (drawn (seeded s) (s.free + 7)) := by
      rw [ho]
      exact keepsData_trans (keepsData_otp o) (keepsData_drawn _)
    refine ⟨_, otpGenSeed_draws hopen hlock hblank, free_otpDone, ?_, fun r hr => (hrow r).trans (hother r hr),
      done_otpDone, keepsData_trans hkeeps (keepsData_of_alerted alerted_otpDone)⟩
    simp only [hrow]
    exact seeded_checks
  · exact ⟨_, otpLatchCompare_agrees row hphase, rfl, fun f _ => rd_advance _ f, rfl⟩
  · refine ⟨_, otpLatchCompare_differs row hphase, rd_err_fatal (by decide), ?_⟩
    exact keepsData_trans (keepsData_advance _) ((Logged.refl _).err 0x05 0x1407 _).keepsData

end Sys2Proof.Proofs

/-! # Safe State by command and the pulses of ERR_N (R510, R518, R524 to R527) -/

namespace Sys2Proof.Proofs

open Sys2Proof Sys2Proof.Machine Sys2Proof.Laws

variable {s t u : State}

/-! ## What an entry to Safe State leaves -/

/-- The rings stop. -/
def ringsStopped (s : State) : State := s.forAll (List.range 16) fun s r => s.wr (CHISEL_RING_CTL.enable.ix r) 0

theorem logged_ringsStopped : Logged s (ringsStopped s) := 
  logged_forAll (fun u _ => logged_wr (s := u) _ _) _

theorem ringsStopped_of_calm (h : calm s = true) :
    (s.forAll (List.range 16) fun s r => (s.abortRing r false).clr (CHISEL_RING_CTL.enable.ix r)) = ringsStopped s := by
  unfold ringsStopped
  generalize List.range 16 = l
  induction l generalizing s with
  | nil => rfl
  | cons r l ih => rw [forAll_cons, forAll_cons, abortRing_of_calm h, State.clr_eq, ih (calm_of_logged (logged_wr _ _) h)]

theorem rd_ringsStopped_ring {r : Nat} (hr : r < 16) : (ringsStopped s).rd (CHISEL_RING_CTL.enable.ix r) = 0 := by
  rw [ringsStopped, rd_forAll_wr (c := 0) _ (fun _ _ _ => Nat.zero_mod _),
    if_pos ⟨r, List.mem_range.2 hr, rfl⟩]

theorem rd_ringsStopped {f : Fld} (hf : ∀ r, apart f (CHISEL_RING_CTL.enable.ix r) = true) :
    (ringsStopped s).rd f = s.rd f :=
  forAll_keeps (P := fun u => u.rd f = s.rd f) (fun _ r hu => (rd_wr_apart (hf r) 0).trans hu) _ rfl

/-- Safe State has been entered and told, and what it stops still runs. -/
def safeTold (s : State) (page code : Nat) : State :=
  let u := (safeCaused s page code).stopTimers
  let u := u.wr64 ERRPIN_SAFE_TIME_LO.time ERRPIN_SAFE_TIME_HI.time u.tb
  ((u.err 0x07 0x1202 (page + code * 2 ^ 32)).holdErrN).cause 0x00 2

/-- What Safe State stops has stopped. -/
def safeStopped (s : State) (page code : Nat) : State := (ringsStopped (safeTold s page code)).clr SCRUB_STAT.running

/-- A Bind is owed. -/
def owesBind (s : State) : State :=
  { s with folio := { s.folio with bindDue := some (1, true) }, sys := { s.sys with bindOwed := true } }

theorem owesBind_owes : (owesBind s).flds = s.flds ∧ (owesBind s).lines = s.lines ∧
    (owesBind s).folio.bindDue = some (1, true) ∧ (owesBind s).sys.bindOwed = true := ⟨rfl, rfl, rfl, rfl⟩

/-- The Bind that Safe State owes where persistence is active. -/
def safeBound (s : State) : State :=
  if s.persists then owesBind (s.put ERRPIN_SAFE_STAT.bind_run) else s

theorem logged_safeTold (page code : Nat) : Logged s (safeTold s page code) := by
  unfold safeTold
  extract_lets u v
  have hu : Logged s u := (((logged_wr _ _).wr _ _).wr _ _).trans logged_stopTimers
  exact ((((hu.wr _ _).wr _ _).trans (logged_err _ _ _)).trans logged_holdErrN).trans (logged_cause _ _)

theorem enterSafe_eq {page code : Nat} (hsafe : s.safe = false) (hcalm : calm s = true) :
    s.enterSafe page code = ((safeBound (safeStopped s page code)).put ERRPIN_SAFE_STAT.entered).cause 0x07 3 := by
  have hcalm' : calm (safeTold s page code) = true := calm_of_logged (logged_safeTold page code) hcalm
  have hstop : calm (ringsStopped (safeTold s page code)) = true :=
    calm_of_logged logged_ringsStopped hcalm'
  rw [State.enterSafe, if_neg (ne_true_of_eq_false hsafe)]
  extract_lets u₁ u₂ u₃ u₄ u₅ ub _ _ u₆
  have h₃ : u₃ = safeTold s page code := rfl
  have h₅ : u₅ = safeStopped s page code := by
    unfold u₅ u₄
    rw [h₃, ringsStopped_of_calm hcalm', stopCheckpoint_of_calm hstop, safeStopped, State.clr_eq,
      flushTags_of_calm (calm_of_logged (logged_wr _ _) hstop)]
  have h₆ : u₆ = safeBound u₅ := by
    clear h₅ h₃
    clear_value u₅
    rfl
  rw [h₆, h₅]

theorem rd_of_flds (h : t.flds = s.flds) (f : Fld) : t.rd f = s.rd f := by rw [State.rd, State.rd, h]

/-- The pin changes, and no edge is seen. -/
def withPin (s : State) (v : PinState) : State := { s with pin := v }

theorem withPin_sets (v : PinState) : (withPin s v).flds = s.flds ∧ (withPin s v).pin = v ∧
    (withPin s v).out = s.out := ⟨rfl, rfl, rfl⟩

theorem rd_holdErrN_held : s.holdErrN.rd ERRPIN_STAT.held = 1 := by
  unfold State.holdErrN
  extract_lets u
  show (withPin ((u.put ERRPIN_STAT.held).wr ERRPIN_STAT.last_source 2) _).rd _ = _
  obtain ⟨hflds, -⟩ := withPin_sets (s := (u.put ERRPIN_STAT.held).wr ERRPIN_STAT.last_source 2) _
  rw [rd_of_flds hflds, rd_wr_apart (by rfl)]
  exact rd_put_self

theorem rd_safeBound {f : Fld} (hf : apart f ERRPIN_SAFE_STAT.bind_run = true) : (safeBound s).rd f = s.rd f := by
  unfold safeBound
  split
  · obtain ⟨hflds, -⟩ := owesBind_owes (s := s.put ERRPIN_SAFE_STAT.bind_run)
    exact (rd_of_flds hflds f).trans (rd_wr_apart hf 1)
  · rfl

/-- A field that the end of the entry does not write. -/
theorem rd_enterSafe {page code : Nat} {f : Fld} (hsafe : s.safe = false) (hcalm : calm s = true)
    (hf : clear (ERRPIN_SAFE_STAT.entered :: causeFields 0x07) f = true)
    (hbind : apart f ERRPIN_SAFE_STAT.bind_run = true) (hscrub : apart f SCRUB_STAT.running = true) :
    (s.enterSafe page code).rd f = (ringsStopped (safeTold s page code)).rd f := by
  rw [enterSafe_eq hsafe hcalm, ((alerted_cause 0x07 3).writes.mono (List.subset_cons_self _ _)).rd hf, State.put_eq,
    ((Writes.refl _).wr (List.mem_cons_self)).rd hf, rd_safeBound hbind, safeStopped, State.clr_eq, rd_wr_apart hscrub]

/-- The rings stop and ERR_N is held. -/
theorem enterSafe_stops {page code : Nat} (hsafe : s.safe = false) (hcalm : calm s = true) :
    (s.enterSafe page code).rd ERRPIN_STAT.held = 1 ∧
      ∀ r < 16, (s.enterSafe page code).rd (CHISEL_RING_CTL.enable.ix r) = 0 := by
  refine ⟨?_, fun r hr => ?_⟩
  · rw [rd_enterSafe hsafe hcalm (by rfl) (by rfl) (by rfl), rd_ringsStopped (fun _ => rfl), safeTold, rd_cause (by rfl)]
    exact rd_holdErrN_held
  · rw [rd_enterSafe hsafe hcalm (by rfl) (by rfl) (by rfl)]
    exact rd_ringsStopped_ring hr

theorem persists_of_rd (h : t.rd FOLIO_STAT.persist = s.rd FOLIO_STAT.persist) : t.persists = s.persists := by
  rw [State.persists, State.persists, h]

theorem persists_safeStopped (page code : Nat) : (safeStopped s page code).persists = s.persists := by
  have hw : Writes safeFields (safeCaused s page code).stopTimers (safeTold s page code) := by
    have htail : errFields 0x07 ++ (causeFields 0x00 ++ causeFields 0x07) ⊆ safeFields :=
      List.subset_append_of_subset_right _ (List.subset_append_right _ _)
    obtain ⟨herr, hcauses⟩ := List.append_subset.1 htail
    have hpin : errPinFields ⊆ safeFields :=
      List.Subset.trans (List.Subset.trans (errPinFields_subset 0x07) (List.subset_append_left _ _)) herr
    have hown : ∀ f ∈ [ERRPIN_SAFE_TIME_LO.time, ERRPIN_SAFE_TIME_HI.time, ERRPIN_STAT.held], f ∈ safeFields :=
      fun f hf => List.mem_append_left _ (List.mem_of_mem_take (i := 3) hf)
    exact ((((((Writes.refl _).wr (hown _ (by decide))).wr (hown _ (by decide))).err herr).holdErrN hpin
      (hown _ (by decide))).cause (List.append_subset.1 hcauses).1)
  apply persists_of_rd
  rw [safeStopped, State.clr_eq, rd_wr_apart (by rfl), rd_ringsStopped (fun _ => rfl), hw.rd (by rfl),
    rd_stopTimers (fun _ => rfl), safeCaused, rd_wr_apart (by rfl), rd_wr_apart (by rfl), State.put_eq,
    rd_wr_apart (by rfl)]

/-- A Bind is owed where persistence is active (R518). -/
theorem safeBound_owes (h : s.persists = true) :
    (safeBound s).folio.bindDue = some (1, true) ∧ (safeBound s).sys.bindOwed = true := by
  obtain ⟨-, -, howes⟩ := owesBind_owes (s := s.put ERRPIN_SAFE_STAT.bind_run)
  rw [safeBound, if_pos h]
  exact howes

theorem enterSafe_owes {page code : Nat} (hsafe : s.safe = false) (hcalm : calm s = true) (h : s.persists = true) :
    (s.enterSafe page code).folio.bindDue = some (1, true) ∧ (s.enterSafe page code).sys.bindOwed = true := by
  obtain ⟨hdue, howed⟩ := safeBound_owes ((persists_safeStopped (s := s) page code).trans h)
  have hl : Logged (safeBound (safeStopped s page code)) (s.enterSafe page code) := by
    rw [enterSafe_eq hsafe hcalm, State.put_eq]
    exact (logged_wr _ _).trans (logged_cause _ _)
  obtain ⟨-, -, hfolio, hsys⟩ := hl.keepsData
  rw [hfolio, hsys]
  exact ⟨hdue, howed⟩

theorem lines_safeBound : (safeBound s).lines = s.lines := by
  obtain ⟨-, hlines, -⟩ := owesBind_owes (s := s.put ERRPIN_SAFE_STAT.bind_run)
  unfold safeBound
  split
  · exact hlines.trans (lines_of_logged (logged_wr _ _))
  · rfl

theorem lines_enterSafe {page code : Nat} (hsafe : s.safe = false) (hcalm : calm s = true) :
    (s.enterSafe page code).lines = s.lines := by
  rw [enterSafe_eq hsafe hcalm, lines_of_logged (logged_cause _ _), State.put_eq, lines_of_logged (logged_wr _ _),
    lines_safeBound, safeStopped, State.clr_eq, lines_of_logged (logged_wr _ _)]
  exact (lines_of_logged logged_ringsStopped).trans (lines_of_logged (logged_safeTold page code))

/-! ## SAFE (R518) -/

theorem safe_commands {who : Accessor} {key : BitVec 16} (htakes : takes s who 0x07 = true) :
    exec (.safe who key) s = .next (if key = 0x5346 ∧ !s.safe then s.errImmediate 0x07 0x1209 0 else s) := by
  show Machine.execSafe who key s = _
  rw [Machine.execSafe, command_takes htakes]

theorem safe_err {page code addr : Nat} (hf : clear (errFields page) SYS_START_STAT.safe = true) :
    (s.err page code addr).safe = s.safe := by
  rw [State.safe, State.on, rd_err hf, State.safe, State.on]

/-- The trigger by command is logged, and Safe State is entered. -/
theorem safe_enters {who : Accessor} (htakes : takes s who 0x07 = true) (hsafe : s.safe = false) :
    ∃ v, Logged s v ∧ v.safe = false ∧ v.persists = s.persists ∧
      exec (.safe who 0x5346) s = .next (v.enterSafe 0x07 0x1209) := by
  refine ⟨s.err 0x07 0x1209 0, logged_err _ _ _, (safe_err (by rfl)).trans hsafe, persists_of_rd (rd_err (by rfl) _ _), ?_⟩
  rw [safe_commands htakes, if_pos ⟨rfl, by rw [hsafe]; rfl⟩, State.errImmediate]

/-! ## RELEASE and TEST (R524, R525) -/

theorem frame_wr_flds (f : Fld) (v : Nat) : s.wr f v = { s with flds := (s.wr f v).flds } := rfl

/-- ERR_N moves. -/
def pinMoves (s : State) (v : PinState) (low : Bool) : State := { s.emit (.errN low) with pin := v }

theorem pinMoves_moves (v : PinState) (low : Bool) : (pinMoves s v low).flds = s.flds ∧
    (pinMoves s v low).out = .errN low :: s.out ∧ (pinMoves s v low).pin = v ∧ (pinMoves s v low).now = s.now :=
  ⟨rfl, rfl, rfl, rfl⟩

theorem frame_pinMoves (h : t = { s with flds := t.flds }) (v : PinState) (low : Bool) : pinMoves t v low =
    { s with flds := (pinMoves t v low).flds, pin := (pinMoves t v low).pin, out := (pinMoves t v low).out } := by
  rw [h]
  rfl

/-- The registers of a pin that is released. -/
def releasedRegs (s : State) : State := (s.clr ERRPIN_STAT.driven).clr ERRPIN_STAT.held

theorem frame_releasedRegs : releasedRegs s = { s with flds := (releasedRegs s).flds } := frame_wr_wr _ _ _ _

theorem releaseErrN_eq : s.releaseErrN = pinMoves (releasedRegs s)
    { s.pin with pulseEnd := none, gapEnd := some (s.now + errGap), releaseAsked := false, highRun := 0 } false := rfl

theorem releaseErrN_releases : s.releaseErrN.rd ERRPIN_STAT.driven = 0 ∧ s.releaseErrN.rd ERRPIN_STAT.held = 0 ∧
    s.releaseErrN.out = .errN false :: s.out ∧ s.releaseErrN.pin.gapEnd = some (s.now + 20000000) ∧
    SameRegs s s.releaseErrN [ERRPIN_STAT.driven, ERRPIN_STAT.held] ∧
    s.releaseErrN = { s with flds := s.releaseErrN.flds, pin := s.releaseErrN.pin, out := s.releaseErrN.out } := by
  obtain ⟨hflds, hout, hpin, -⟩ := pinMoves_moves (s := releasedRegs s)
    { s.pin with pulseEnd := none, gapEnd := some (s.now + errGap), releaseAsked := false, highRun := 0 } false
  rw [← releaseErrN_eq] at hflds hout hpin
  have hw : Writes [ERRPIN_STAT.driven, ERRPIN_STAT.held] s (releasedRegs s) :=
    ((Writes.refl s).wr (.head _)).wr (.tail _ (.head _))
  refine ⟨?_, ?_, ?_, ?_, (hw.flds hflds).regs, ?_⟩
  · rw [rd_of_flds hflds, releasedRegs, State.clr_eq, rd_wr_apart (by rfl)]
    exact State.rd_wr_self _ _ _
  · rw [rd_of_flds hflds]
    exact State.rd_wr_self _ _ _
  · rw [hout, frame_releasedRegs]
  · rw [hpin]
    rfl
  · rw [releaseErrN_eq]
    exact frame_pinMoves frame_releasedRegs _ _

theorem now_releaseErrN : s.releaseErrN.now = s.now := by
  obtain ⟨-, -, -, -, -, hframe⟩ := releaseErrN_releases (s := s)
  rw [hframe]

theorem release_releases {who : Accessor} (htakes : takes s who 0x07 = true) (hsafe : s.safe = false)
    (hdriven : s.on ERRPIN_STAT.driven = true) (hpulse : s.pin.pulseEnd = none) :
    exec (.release who) s = .next s.releaseErrN := by
  show Machine.execRelease who s = _
  rw [Machine.execRelease, command_takes htakes, hsafe, hdriven, hpulse]
  rfl

theorem release_ignored {who : Accessor} (htakes : takes s who 0x07 = true) (hsafe : s.safe = true) :
    exec (.release who) s = .next s := by
  show Machine.execRelease who s = _
  rw [Machine.execRelease, command_takes htakes, hsafe]
  rfl

/-- The fields of a pulse of ERR_N. -/
def pulseFields : List Fld :=
  [ERRPIN_STAT.driven, ERRPIN_STAT.last_source, ERRPIN_PULSES.count, ERRPIN_LAST_TIME_LO.time, ERRPIN_LAST_TIME_HI.time]

/-- The registers of a pulse that begins. -/
def pulseRegs (s : State) (source : Nat) : State :=
  let s := ((s.put ERRPIN_STAT.driven).wr ERRPIN_STAT.last_source source).bump ERRPIN_PULSES.count
  s.wr64 ERRPIN_LAST_TIME_LO.time ERRPIN_LAST_TIME_HI.time s.tb

theorem pulseRegs_begin (source : Nat) : (pulseRegs s source).rd ERRPIN_STAT.driven = 1 ∧
      (source < 2 ^ ERRPIN_STAT.last_source.width → (pulseRegs s source).rd ERRPIN_STAT.last_source = source) ∧
      CountedUp s (pulseRegs s source) ERRPIN_PULSES.count ∧ Writes pulseFields s (pulseRegs s source) := by
  unfold pulseRegs
  extract_lets v
  refine ⟨?_, fun hsource => ?_, ?_, ?_⟩
  · rw [State.wr64, rd_wr_apart (by rfl), rd_wr_apart (by rfl)]
    show (((s.put ERRPIN_STAT.driven).wr ERRPIN_STAT.last_source source).bump ERRPIN_PULSES.count).rd _ = _
    rw [State.bump_eq, rd_wr_apart (by rfl), rd_wr_apart (by rfl)]
    exact rd_put_self
  · rw [State.wr64, rd_wr_apart (by rfl), rd_wr_apart (by rfl)]
    show (((s.put ERRPIN_STAT.driven).wr ERRPIN_STAT.last_source source).bump ERRPIN_PULSES.count).rd _ = _
    rw [State.bump_eq, rd_wr_apart (by rfl)]
    exact rd_wr_lt hsource
  · rw [CountedUp, State.wr64, rd_wr_apart (by rfl), rd_wr_apart (by rfl)]
    show (((s.put ERRPIN_STAT.driven).wr ERRPIN_STAT.last_source source).bump ERRPIN_PULSES.count).rd _ = _
    rw [rd_bump, rd_wr_apart (by rfl), State.put_eq, rd_wr_apart (by rfl)]
  · exact ((((Writes.refl s).wr (by decide)).wr (by decide)).wr (by decide)).wr (by decide) |>.wr (by decide)

theorem frame_wr_of (h : t = { s with flds := t.flds }) (f : Fld) (v : Nat) :
    t.wr f v = { s with flds := (t.wr f v).flds } := congrArg (fun u => u.wr f v) h

theorem frame_pulseRegs (source : Nat) : pulseRegs s source = { s with flds := (pulseRegs s source).flds } :=
  frame_wr_of (frame_wr_of (frame_wr_of (frame_wr_of (frame_wr_flds _ _) _ _) _ _) _ _) _ _

/-- The pin during a pulse. -/
def pulsePin (s : State) : PinState :=
  { s.pin with pulseEnd := some (s.now + errPulse), gapEnd := none, gapEvent := false }

theorem errPulseStart_eq (source : Nat) :
    s.errPulseStart source = pinMoves (pulseRegs s source) (pulsePin (pulseRegs s source)) true := by
  unfold State.errPulseStart
  extract_lets v w
  have hw : pulseRegs s source = w := rfl
  rw [hw]
  clear_value w
  rfl

/-- A pulse begins. -/
theorem errPulseStart_begins (source : Nat) : (s.errPulseStart source).rd ERRPIN_STAT.driven = 1 ∧
    (source < 2 ^ ERRPIN_STAT.last_source.width → (s.errPulseStart source).rd ERRPIN_STAT.last_source = source) ∧
    CountedUp s (s.errPulseStart source) ERRPIN_PULSES.count ∧
    (s.errPulseStart source).pin.pulseEnd = some (s.now + 22000000) ∧
    (s.errPulseStart source).out = .errN true :: s.out ∧ SameRegs s (s.errPulseStart source) pulseFields ∧
    s.errPulseStart source =
      { s with
        flds := (s.errPulseStart source).flds, pin := (s.errPulseStart source).pin,
        out := (s.errPulseStart source).out } := by
  obtain ⟨hflds, hout, hpin, -⟩ := pinMoves_moves (s := pulseRegs s source) (pulsePin (pulseRegs s source)) true
  rw [← errPulseStart_eq] at hflds hout hpin
  obtain ⟨hdriven, hlast, hcount, hwrites⟩ := pulseRegs_begin (s := s) source
  refine ⟨?_, fun hsource => ?_, ?_, ?_, ?_, (hwrites.flds hflds).regs, ?_⟩
  · rw [rd_of_flds hflds, hdriven]
  · rw [rd_of_flds hflds, hlast hsource]
  · rw [CountedUp, rd_of_flds hflds]
    exact hcount
  · rw [hpin, pulsePin, frame_pulseRegs]
    rfl
  · rw [hout, frame_pulseRegs]
  · rw [errPulseStart_eq]
    exact frame_pinMoves (frame_pulseRegs source) _ _

theorem phase_of_takes {who : Accessor} {page : Nat} (htakes : takes s who page = true) : s.sys.phase ≠ .off := by
  simp only [takes, State.regsOpen, Bool.and_eq_true, decide_eq_true_eq] at htakes
  tauto

theorem test_pulses {who : Accessor} (htakes : takes s who 0x07 = true) (hdriven : s.on ERRPIN_STAT.driven = false)
    (hgap : s.pin.gapEnd = none) : exec (.test who) s = .next (s.errPulseStart 5) := by
  show Machine.execTest who s = _
  rw [Machine.execTest, command_takes htakes, State.errEvent, if_neg (phase_of_takes htakes), hdriven,
    if_neg (by decide), hgap, if_neg (by decide)]

theorem test_joins {who : Accessor} (htakes : takes s who 0x07 = true) (hdriven : s.on ERRPIN_STAT.driven = true) :
    exec (.test who) s = .next (s.bump ERRPIN_COALESCED.count) := by
  show Machine.execTest who s = _
  rw [Machine.execTest, command_takes htakes, State.errEvent, if_neg (phase_of_takes htakes), if_pos hdriven]

/-! ## Ends of pulses and of high times (R525) -/

theorem errNPulseEnd_releases {at_ : Nat} (hpulse : s.pin.pulseEnd = some at_) (hhold : s.on ERRPIN_CTL.hold = false) :
    exec .errNPulseEnd s = .next (s.advanceTo at_).releaseErrN := by
  show Machine.execErrNPulseEnd s = _
  rw [Machine.execErrNPulseEnd, hpulse]
  have hstay : ((s.advanceTo at_).on ERRPIN_CTL.hold && !(s.advanceTo at_).pin.releaseAsked) = false := by
    rw [show (s.advanceTo at_).on ERRPIN_CTL.hold = false from hhold, Bool.false_and]
  exact if_neg (Bool.eq_false_iff.1 hstay)

theorem out_advanceTo (n : Nat) : (s.advanceTo n).out = s.out := rfl

/-- Time that passes changes no register. -/
theorem sameRegs_of_advanceTo {n : Nat} {l : List Fld} (h : SameRegs (s.advanceTo n) t l) : SameRegs s t l :=
  fun f hf => (h f hf).trans (rd_advanceTo n f)

/-- The pulse is over, and the pin stays low. -/
def pulseHeld (s : State) : State := withPin (s.put ERRPIN_STAT.held) { s.pin with pulseEnd := none }

theorem errNPulseEnd_holds {at_ : Nat} (hpulse : s.pin.pulseEnd = some at_) (hhold : s.on ERRPIN_CTL.hold = true)
    (hasked : s.pin.releaseAsked = false) : exec .errNPulseEnd s = .next (pulseHeld (s.advanceTo at_)) := by
  show Machine.execErrNPulseEnd s = _
  rw [Machine.execErrNPulseEnd, hpulse]
  have hstay : ((s.advanceTo at_).on ERRPIN_CTL.hold && !(s.advanceTo at_).pin.releaseAsked) = true := by
    rw [show (s.advanceTo at_).on ERRPIN_CTL.hold = true from hhold,
      show (s.advanceTo at_).pin.releaseAsked = false from hasked]
    rfl
  exact if_pos hstay

theorem pulseHeld_holds : (pulseHeld s).rd ERRPIN_STAT.held = 1 ∧ (pulseHeld s).pin.pulseEnd = none ∧
    (pulseHeld s).out = s.out ∧ SameRegs s (pulseHeld s) [ERRPIN_STAT.held] := by
  obtain ⟨hflds, hpin, hout⟩ := withPin_sets (s := s.put ERRPIN_STAT.held) { s.pin with pulseEnd := none }
  have hw : Writes [ERRPIN_STAT.held] s (s.put ERRPIN_STAT.held) := (Writes.refl s).wr (.head _)
  refine ⟨?_, ?_, ?_, (hw.flds hflds).regs⟩
  · rw [pulseHeld, rd_of_flds hflds]
    exact rd_put_self
  · rw [pulseHeld, hpin]
  · rw [pulseHeld, hout, State.put_eq, frame_wr_flds]

/-- The high time of ERR_N is over. -/
def gapEnded (s : State) : State := { s with pin := { s.pin with gapEnd := none, gapEvent := false } }

theorem errNGapEnd_ends {at_ : Nat} (hgap : s.pin.gapEnd = some at_) (hevent : s.pin.gapEvent = false) :
    exec .errNGapEnd s = .next (gapEnded (s.advanceTo at_)) := by
  show Machine.execErrNGapEnd s = _
  rw [Machine.execErrNGapEnd, hgap]
  exact congrArg Host.Outcome.next (if_neg (Bool.eq_false_iff.1 hevent))

theorem errNGapEnd_pulses {at_ : Nat} (hgap : s.pin.gapEnd = some at_) (hevent : s.pin.gapEvent = true) :
    exec .errNGapEnd s =
      .next ((gapEnded (s.advanceTo at_)).errPulseStart ((gapEnded (s.advanceTo at_)).rd ERRPIN_STAT.last_source)) := by
  show Machine.execErrNGapEnd s = _
  rw [Machine.execErrNGapEnd, hgap]
  exact congrArg Host.Outcome.next (if_pos hevent)

/-! ## The readback (R526, R527) -/

/-- The third readback in a row that is high while the pin is driven. -/
def stuckHigh (s : State) : State :=
  ((withPin s { s.pin with highRun := 3 }).clr ERRPIN_STAT.ext_low).put ERRPIN_STAT.stuck_high

theorem logged_withPin (v : PinState) : Logged s (withPin s v) := ⟨rfl, id⟩

theorem logged_stuckHigh : Logged s (stuckHigh s) := by
  rw [stuckHigh, State.put_eq, State.clr_eq]
  exact ((logged_withPin _).wr _ _).wr _ _

theorem errNReadback_sticks (hdriven : s.on ERRPIN_STAT.driven = true) (hrun : s.pin.highRun = 2) :
    exec (.errNReadback true) s = .next (((stuckHigh s).cause 0x07 5).err 0x07 0x1207 0) := by
  show Machine.execErrNReadback true s = _
  rw [Machine.execErrNReadback, if_pos hdriven]
  extract_lets n _ v
  have hn : n = 3 := congrArg (· + 1) hrun
  have hv : v.put ERRPIN_STAT.stuck_high = stuckHigh s := by
    unfold v stuckHigh withPin
    rw [hn]
  rw [if_pos hn, hv]

theorem errNReadback_hears (high : Bool) (hdriven : s.on ERRPIN_STAT.driven = false) :
    exec (.errNReadback high) s = .next (s.wrb ERRPIN_STAT.ext_low (!high)) := if_neg (Bool.eq_false_iff.1 hdriven)

theorem wrb_eq (f : Fld) (b : Bool) : s.wrb f b = s.wr f b.toNat := by
  rw [State.wrb]
  cases b <;> rfl

theorem rd_wrb_ext_low (b : Bool) : (s.wrb ERRPIN_STAT.ext_low b).rd ERRPIN_STAT.ext_low = b.toNat := by
  rw [wrb_eq, State.rd_wr_self]
  cases b <;> rfl

/-- Settles O51. -/
theorem safeStateAndErrN : Obligations.SafeStateAndErrN := by
  unfold Obligations.SafeStateAndErrN
  refine ⟨fun who s htakes hsafe hcalm => ?_, fun who key s htakes hkey => ?_,
    fun who s htakes hsafe hdriven hpulse => ?_, fun who s htakes hsafe => release_ignored htakes hsafe,
    fun who s htakes hdriven hgap => ?_, fun who s htakes hdriven => ?_,
    fun at_ s hpulse => ⟨fun hhold => ?_, fun hhold hasked => ?_⟩, fun at_ s hgap => ⟨fun hevent => ?_, fun hevent => ?_⟩,
    fun s hdriven hrun => ?_, fun high s hdriven => ?_, fun who s htakes => ?_⟩
  · obtain ⟨v, hl, hsafe', hpersists, hexec⟩ := safe_enters htakes hsafe
    have hcalm' := calm_of_logged hl hcalm
    obtain ⟨hheld, hrings⟩ := enterSafe_stops (page := 0x07) (code := 0x1209) hsafe' hcalm'
    exact ⟨_, hexec, enteredSafe_of_calm hsafe' hcalm' (by decide), hheld, hrings,
      fun h => enterSafe_owes hsafe' hcalm' (hpersists.trans h),
      (lines_enterSafe hsafe' hcalm').trans (lines_of_logged hl)⟩
  · rw [safe_commands htakes, if_neg fun h => hkey h.1]
  · obtain ⟨hd, hh, hout, hend, hregs, hframe⟩ := releaseErrN_releases (s := s)
    exact ⟨_, release_releases htakes hsafe hdriven hpulse, hd, hh, hout, hend, hregs, hframe⟩
  · obtain ⟨hd, hlast, hcount, hend, hout, hregs, hframe⟩ := errPulseStart_begins (s := s) 5
    exact ⟨_, test_pulses htakes hdriven hgap, hd, hlast (by decide), hcount, hend, hout, hregs, hframe⟩
  · exact ⟨_, test_joins htakes hdriven, rd_bump _, ((Writes.refl s).wr (.head _)).regs, frame_wr_flds _ _⟩
  · obtain ⟨hd, hh, hout, hend, hregs, -⟩ := releaseErrN_releases (s := s.advanceTo at_)
    refine ⟨_, errNPulseEnd_releases hpulse hhold, hd, ?_, ?_, hout.trans (by rw [out_advanceTo]),
      sameRegs_of_advanceTo hregs⟩
    · rw [now_releaseErrN, now_advanceTo]
    · rw [hend, now_releaseErrN]
  · obtain ⟨hheld, hend, hout, hregs⟩ := pulseHeld_holds (s := s.advanceTo at_)
    exact ⟨_, errNPulseEnd_holds hpulse hhold hasked, hheld, hend, hout.trans (by rw [out_advanceTo]),
      sameRegs_of_advanceTo hregs⟩
  · exact ⟨_, errNGapEnd_ends hgap hevent, rfl, now_advanceTo at_, fun f _ => rd_advanceTo at_ f, rfl⟩
  · obtain ⟨hd, -, hcount, hend, hout, -⟩ := errPulseStart_begins (s := gapEnded (s.advanceTo at_))
      ((gapEnded (s.advanceTo at_)).rd ERRPIN_STAT.last_source)
    exact ⟨_, errNGapEnd_pulses hgap hevent, hd, hcount, hout, hend⟩
  · refine ⟨_, errNReadback_sticks hdriven hrun, ?_, (rd_err_contained (by decide)).1, ?_⟩
    · rw [rd_err (by rfl), rd_cause (by rfl)]
      exact rd_put_self
    · exact ((logged_stuckHigh.cause 0x07 5).err 0x07 0x1207 0).keepsData
  · refine ⟨_, errNReadback_hears high hdriven, rd_wrb_ext_low _, ?_, ?_⟩
    · rw [wrb_eq]
      exact ((Writes.refl s).wr (.head _)).regs
    · rw [wrb_eq]
      exact frame_wr_flds _ _
  · refine ⟨s.clr ERRPIN_FF_VALID.valid, ?_, State.rd_wr_self _ _ _, ((Writes.refl s).wr (.head _)).regs,
      frame_wr_flds _ _⟩
    show Machine.execErrpinFfValidClear who s = _
    rw [Machine.execErrpinFfValidClear, command_takes htakes]

end Sys2Proof.Proofs

/-! # The low-power states of a host link (R364, R377 to R380) -/

namespace Sys2Proof.Proofs

open Sys2Proof Sys2Proof.Machine Sys2Proof.Laws

variable {s t u : State}

/-! ## Operations that write registers alone -/

/-- Beside the fields listed nothing has changed. -/
structure Sets (l : List Fld) (s t : State) : Prop where
  regs : SameRegs s t l
  frame : t = { s with flds := t.flds }

section
variable {l m : List Fld}

theorem Sets.refl (s : State) : Sets l s s := ⟨fun _ _ => rfl, rfl⟩

theorem Sets.trans (h : Sets l s t) (k : Sets l t u) : Sets l s u :=
  ⟨fun f hf => (k.regs f hf).trans (h.regs f hf), by rw [k.frame, h.frame]⟩

theorem Sets.mono (h : Sets l s t) (hlm : l ⊆ m) : Sets m s t :=
  ⟨fun f hf => h.regs f fun hl => hf (List.map_subset _ hlm hl), h.frame⟩

theorem Sets.writes (h : Sets l s t) : Writes l s t := ⟨h.regs⟩

theorem Sets.rd (h : Sets l s t) {f : Fld} (hf : clear l f = true := by rfl) : t.rd f = s.rd f := h.writes.rd hf

theorem Sets.wr {f : Fld} {v : Nat} (h : Sets l s t) (hf : f ∈ l) : Sets l s (t.wr f v) :=
  ⟨(h.writes.wr hf).regs, frame_wr_of h.frame f v⟩

theorem Sets.ite {c : Prop} [Decidable c] {a b : State} (ha : Sets l s a) (hb : Sets l s b) :
    Sets l s (if c then a else b) := by
  split
  · exact ha
  · exact hb

theorem Sets.forAllMem {α : Type} {f : State → α → State} {as : List α} (h : Sets l s t)
    (hf : ∀ u, ∀ a ∈ as, Sets l s u → Sets l s (f u a)) : Sets l s (t.forAll as f) :=
  List.foldlRecOn (motive := Sets l s) as f h fun u hu a ha => hf u a ha hu

theorem Sets.keepsData (h : Sets l s t) : KeepsData s t := by
  rw [h.frame]
  exact ⟨rfl, rfl, rfl, rfl⟩

theorem Sets.now (h : Sets l s t) : t.now = s.now := by rw [h.frame]

theorem Sets.out (h : Sets l s t) : t.out = s.out := by rw [h.frame]

theorem Sets.port (h : Sets l s t) (p : Nat) : t.port p = s.port p := by
  rw [State.port, State.port, h.frame]

end

/-! ## Recalibration follows a port (R471) -/

/-- The fields of a calibration unit that follow its pauses. -/
def calFields (u : Nat) : List Fld := [calFld PC_CAL_STAT.state PHY_CAL_STAT.state u, calPending u]

/-- The state of calibration units has followed what they depend on. -/
structure CalFollowed (l : List Fld) (s t : State) : Prop where
  regs : SameRegs s t l
  frame : t = { s with flds := t.flds, cals := t.cals }

section
variable {l m : List Fld}

theorem CalFollowed.refl (s : State) : CalFollowed l s s := ⟨fun _ _ => rfl, rfl⟩

theorem CalFollowed.trans (h : CalFollowed l s t) (k : CalFollowed l t u) : CalFollowed l s u :=
  ⟨fun f hf => (k.regs f hf).trans (h.regs f hf), by rw [k.frame, h.frame]⟩

theorem CalFollowed.mono (h : CalFollowed l s t) (hlm : l ⊆ m) : CalFollowed m s t :=
  ⟨fun f hf => h.regs f fun hl => hf (List.map_subset _ hlm hl), h.frame⟩

theorem CalFollowed.writes (h : CalFollowed l s t) : Writes l s t := ⟨h.regs⟩

theorem CalFollowed.rd (h : CalFollowed l s t) {f : Fld} (hf : clear l f = true := by rfl) : t.rd f = s.rd f :=
  h.writes.rd hf

theorem CalFollowed.wr {f : Fld} {v : Nat} (h : CalFollowed l s t) (hf : f ∈ l) : CalFollowed l s (t.wr f v) :=
  ⟨(h.writes.wr hf).regs, congrArg (fun u => u.wr f v) h.frame⟩

theorem CalFollowed.setCal {n : Nat} {v : CalState} (h : CalFollowed l s t) : CalFollowed l s (t.setCal n v) :=
  ⟨h.regs, congrArg (fun u => u.setCal n v) h.frame⟩

theorem CalFollowed.ite {c : Prop} [Decidable c] {a b : State} (ha : CalFollowed l s a) (hb : CalFollowed l s b) :
    CalFollowed l s (if c then a else b) := by
  split
  · exact ha
  · exact hb

theorem CalFollowed.keepsData (h : CalFollowed l s t) : KeepsData s t := by
  rw [h.frame]
  exact ⟨rfl, rfl, rfl, rfl⟩

theorem CalFollowed.now (h : CalFollowed l s t) : t.now = s.now := by rw [h.frame]

theorem CalFollowed.out (h : CalFollowed l s t) : t.out = s.out := by rw [h.frame]

theorem CalFollowed.port (h : CalFollowed l s t) (p : Nat) : t.port p = s.port p := by
  rw [State.port, State.port, h.frame]

end

theorem CalFollowed.beginRun {n : Nat} {command : Bool} (h : CalFollowed (calFields n) s t) :
    CalFollowed (calFields n) s (t.beginRun n command) := by
  have hpending : calPending n ∈ calFields n := .tail _ (.head _)
  exact .ite h ((h.wr hpending).wr (.head _)).setCal

/-- The calibration of a unit follows its pauses and changes nothing else. -/
theorem calFollowed_fixCal (n : Nat) : CalFollowed (calFields n) s (s.fixCal n) := by
  have h : CalFollowed (calFields n) s s := .refl s
  unfold State.fixCal
  extract_lets mode v
  have hv : CalFollowed (calFields n) s v := h.wr (.head _)
  exact .ite (.ite h ((h.setCal.wr (.head _)).wr (.head _))) (.ite (.ite hv.beginRun hv) h)

theorem calFld_port (pc phy : Fld) (p : Nat) : calFld pc phy (64 + p) = phy.port p := by
  rw [calFld, if_neg (by omega), Nat.add_sub_cancel_left]

theorem calFields_port (p : Nat) :
    calFields (64 + p) = [PHY_CAL_STAT.state.port p, PHY_CAL_STAT.pending.port p] := by
  rw [calFields, calPending, calFld_port, calFld_port]

/-! ## Lanes -/

/-- The states of the lanes of a group. -/
def laneStates (p : Nat) : List Fld := (List.range 8).map fun n => PHY_LANE_STAT.state.lane p n

theorem mem_activeLanes {p n : Nat} : n ∈ s.activeLanes p ↔ n < 8 ∧ s.on (PHY_LANE_STAT.active.lane p n) = true := by
  rw [State.activeLanes, List.mem_filter, List.mem_range]

theorem mem_laneStates {p n : Nat} (h : n < 8) : PHY_LANE_STAT.state.lane p n ∈ laneStates p :=
  List.mem_map.2 ⟨n, List.mem_range.2 h, rfl⟩

/-- The lanes of a link take a state, and nothing else changes. -/
theorem sets_setLanes (p v : Nat) : Sets (laneStates p) s (s.setLanes p v) :=
  (Sets.refl s).forAllMem fun _ _ hn h => h.wr (mem_laneStates (mem_activeLanes.1 hn).1)

/-! ## A link that is back in L0 (R364, R380) -/

theorem forAll_out (l : List Out) : s.forAll l State.emit = { s with out := l.reverse ++ s.out } := by
  induction l generalizing s with
  | nil => rfl
  | cons o l ih =>
    rw [forAll_cons, ih, List.reverse_cons, List.append_assoc]
    rfl

theorem runDomain_running {d : Nat} (h : s.rd (PWR_DOM_STAT.state.ix d) = 0) : s.runDomain d = s := by
  unfold State.runDomain
  extract_lets st
  rw [if_pos (.inl h)]

/-- The lanes of a link are Active, and what waited at its port has left. -/
def linkReleased (s : State) (p : Nat) : State :=
  ((s.setLanes p 0).setPort p { s.port p with waitOut := [], idleAt := s.now, l1Req := false }).forAll
    (s.port p).waitOut State.emit

theorem linkReleased_releases (p : Nat) : Writes (laneStates p) s (linkReleased s p) ∧ (linkReleased s p).now = s.now ∧
    ((linkReleased s p).port p).waitOut = [] ∧ (linkReleased s p).out = (s.port p).waitOut.reverse ++ s.out ∧
    KeepsData s (linkReleased s p) := by
  have hlanes := sets_setLanes (s := s) p 0
  rw [linkReleased, forAll_out]
  exact ⟨hlanes.writes.flds rfl, hlanes.now, congrArg PortState.waitOut (State.port_setPort _ p _),
    congrArg ((s.port p).waitOut.reverse ++ ·) hlanes.out, keepsData_trans hlanes.keepsData ⟨rfl, rfl, rfl, rfl⟩⟩

/-- The registers of a link that is back in L0. -/
def linkBack (s : State) (p : Nat) : State := (s.wr (PHY_STAT.ltssm.port p) 3).clr (PHY_STAT.pm_state.port p)

/-- The fields of a link that is back in L0. -/
def linkFields (p : Nat) : List Fld := PHY_STAT.ltssm.port p :: PHY_STAT.pm_state.port p :: laneStates p

theorem sets_linkBack (p : Nat) : Sets (linkFields p) s (linkBack s p) :=
  ((Sets.refl s).wr (.head _)).wr (.tail _ (.head _))

theorem linkBack_back (p : Nat) : (linkBack s p).rd (PHY_STAT.ltssm.port p) = 3 ∧
    (linkBack s p).rd (PHY_STAT.pm_state.port p) = 0 := by
  refine ⟨?_, State.rd_wr_self _ _ _⟩
  rw [linkBack, State.clr_eq, rd_wr_apart (by rfl)]
  exact State.rd_wr_self _ _ _

theorem resumeLink_eq {p : Nat} (h : s.rd (PWR_DOM_STAT.state.ix (64 + p)) = 0) :
    s.resumeLink p = (linkReleased (linkBack s p) p).fixCal (64 + p) := by
  have hrun : (linkBack s p).rd (PWR_DOM_STAT.state.ix (64 + p)) = 0 := by
    rw [linkBack, State.clr_eq, rd_wr_apart (by rfl), rd_wr_apart (by rfl), h]
  have hv : (linkBack s p).runDomain (64 + p) = linkBack s p := runDomain_running hrun
  show (linkReleased ((linkBack s p).runDomain (64 + p)) p).fixCal (64 + p) = _
  rw [hv]

/-- A link that resumes is in L0, and what waited to be sent has left. -/
structure LinkResumed (p : Nat) (s t : State) : Prop where
  writes : Writes (linkFields p ++ [PHY_CAL_STAT.state.port p, PHY_CAL_STAT.pending.port p]) s t
  ltssm : t.rd (PHY_STAT.ltssm.port p) = 3
  pm : t.rd (PHY_STAT.pm_state.port p) = 0
  waitOut : (t.port p).waitOut = []
  out : t.out = (s.port p).waitOut.reverse ++ s.out
  now : t.now = s.now
  data : KeepsData s t

theorem linkResumed_resumeLink {p : Nat} (h : s.rd (PWR_DOM_STAT.state.ix (64 + p)) = 0) :
    LinkResumed p s (s.resumeLink p) := by
  rw [resumeLink_eq h]
  have hback := sets_linkBack (s := s) p
  obtain ⟨hltssm, hpm⟩ := linkBack_back (s := s) p
  obtain ⟨hlanes, hnow, hwait, hout, hdata⟩ := linkReleased_releases (s := linkBack s p) p
  have hcal := calFollowed_fixCal (s := linkReleased (linkBack s p) p) (64 + p)
  rw [calFields_port] at hcal
  have hlink : laneStates p ⊆ linkFields p := List.subset_cons_of_subset _ (List.subset_cons_self _ _)
  refine ⟨?_, ?_, ?_, ?_, ?_, ?_, keepsData_trans (keepsData_trans hback.keepsData hdata) hcal.keepsData⟩
  · exact ((hback.writes.trans (hlanes.mono hlink)).mono (List.subset_append_left _ _)).trans
      (hcal.writes.mono (List.subset_append_right _ _))
  · rw [hcal.rd, hlanes.rd, hltssm]
  · rw [hcal.rd, hlanes.rd, hpm]
  · rw [hcal.port, hwait]
  · rw [hcal.out, hout, hback.port, hback.out]
  · rw [hcal.now, hnow, hback.now]

/-! ## L0s (R377, R379) -/

/-- A link enters a low-power state. -/
def linkSleeps (s : State) (p ltssm pm : Nat) : State :=
  (s.wr (PHY_STAT.ltssm.port p) ltssm).wr (PHY_STAT.pm_state.port p) pm

theorem linkSleeps_sleeps {p ltssm pm : Nat} (hl : ltssm < 32) (hp : pm < 8) :
    (linkSleeps s p ltssm pm).rd (PHY_STAT.ltssm.port p) = ltssm ∧
      (linkSleeps s p ltssm pm).rd (PHY_STAT.pm_state.port p) = pm := by
  refine ⟨?_, rd_wr_lt hp⟩
  rw [linkSleeps, rd_wr_apart (by rfl)]
  exact rd_wr_lt hl

theorem sets_linkSleeps (p ltssm pm : Nat) : Sets (linkFields p) s (linkSleeps s p ltssm pm) :=
  ((Sets.refl s).wr (.head _)).wr (.tail _ (.head _))

/-- The lanes of a link idle, and its port notes since when and that it asks for nothing. -/
def linkIdles (s : State) (p : Nat) (v : PortState) : State := ((s.setLanes p 1).setPort p v).fixCal (64 + p)

theorem linkIdles_keeps (p : Nat) (v : PortState) :
    Writes (laneStates p ++ [PHY_CAL_STAT.state.port p, PHY_CAL_STAT.pending.port p]) s (linkIdles s p v) ∧
      (linkIdles s p v).now = s.now ∧ (linkIdles s p v).out = s.out ∧ (linkIdles s p v).port p = v ∧
      KeepsData s (linkIdles s p v) := by
  have hlanes := sets_setLanes (s := s) p 1
  have hcal := calFollowed_fixCal (s := (s.setLanes p 1).setPort p v) (64 + p)
  rw [calFields_port] at hcal
  refine ⟨?_, ?_, ?_, ?_, ?_⟩
  · exact ((hlanes.writes.mono (List.subset_append_left _ _)).setPort).trans
      (hcal.writes.mono (List.subset_append_right _ _))
  · exact hcal.now.trans hlanes.now
  · exact hcal.out.trans hlanes.out
  · exact (hcal.port p).trans (State.port_setPort _ p v)
  · exact keepsData_trans hlanes.keepsData (keepsData_trans ⟨rfl, rfl, rfl, rfl⟩ hcal.keepsData)

/-- The end of the idle time of L0s. -/
def l0sAt (s : State) (p : Nat) : Nat := (s.port p).idleAt + s.rd (PHY_PM_CTL.l0s_idle.port p) * 16 * psNs

theorem l0sEntry_enters {port : PortNo} (hltssm : s.rd (PHY_STAT.ltssm.port port) = 3)
    (hmode : s.rd (PORT_LINK_STAT.mode.port port) = 1) (hl0s : (s.ld (masterOf port 0)).l0s = true)
    (hadv : s.on (PHY_CTL.l0s_adv.port port) = true) :
    ∃ v, exec (.l0sEntry port) s = .next (linkIdles (linkSleeps (s.advanceTo (l0sAt s port)) port 6 1) port v) := by
  refine ⟨{ (linkSleeps (s.advanceTo (l0sAt s port)) port 6 1).port port with
    pmAt := (linkSleeps (s.advanceTo (l0sAt s port)) port 6 1).now }, ?_⟩
  show Machine.execL0sEntry port s = _
  unfold Machine.execL0sEntry
  extract_lets p u v
  have hstay : ¬(s.ltssm p ≠ 3 ∨ s.rd (PORT_LINK_STAT.mode.port p) ≠ 1 ∨ (!(s.pmOf p).l0s) = true ∨
      (!s.on (PHY_CTL.l0s_adv.port p)) = true) := by
    have h : (s.pmOf p).l0s = true := hl0s
    simp [State.ltssm, hltssm, hmode, h, hadv, p]
  rw [if_neg hstay]
  rfl

/-! ## L1 (R377 to R380) -/

/-- The end of the idle time of L1. -/
def l1At (s : State) (p : Nat) : Nat := (s.port p).idleAt + s.rd (PHY_PM_CTL.l1_idle_us.port p) * psUs

/-- A link that asks for L1. -/
def l1Asked (s : State) (p : Nat) (v : PortState) : State := (s.setPort p v).emit (.pm p 1)

/-- A message came first, and the entry to L1 is given up. -/
def l1GivenUp (s : State) (p : Nat) : State :=
  ((s.bump (PHY_L1_ABORTS.count.port p)).clr (PHY_PM_STAT.last_outcome.port p)).busy p

theorem l1IdleExpiry_asks {port : PortNo} (hltssm : s.rd (PHY_STAT.ltssm.port port) = 3)
    (hreq : (s.port port).l1Req = false) (hl1 : (s.ld (masterOf port 0)).l1 = true)
    (hen : s.on (PHY_PM_CTL.l1_req_en.port port) = true) (hpending : s.portPending port = false) (messageFirst : Bool) :
    exec (.l1IdleExpiry port messageFirst) s = .next (if messageFirst then l1GivenUp (s.advanceTo (l1At s port)) port
      else l1Asked (s.advanceTo (l1At s port)) port { s.port port with l1Req := true }) := by
  show Machine.execL1IdleExpiry port messageFirst s = _
  unfold Machine.execL1IdleExpiry
  extract_lets p v w
  have hstay : ¬(s.ltssm p ≠ 3 ∨ v.l1Req = true ∨ (!(s.pmOf p).l1) = true ∨
      (!s.on (PHY_PM_CTL.l1_req_en.port p)) = true ∨ s.portPending p = true) := by
    have h : (s.pmOf p).l1 = true := hl1
    simp [State.ltssm, hltssm, h, hen, hreq, hpending, p, v]
  rw [if_neg hstay]
  cases messageFirst <;> rfl

theorem l1Asked_asks {p n : Nat} (v : PortState) : (l1Asked (s.advanceTo n) p v).port p = v ∧
    (l1Asked (s.advanceTo n) p v).out = .pm p 1 :: s.out ∧ (l1Asked (s.advanceTo n) p v).now = max s.now n ∧
    SameRegs s (l1Asked (s.advanceTo n) p v) [] ∧
    l1Asked (s.advanceTo n) p v =
      { s with
        ports := (l1Asked (s.advanceTo n) p v).ports, out := (l1Asked (s.advanceTo n) p v).out,
        now := (l1Asked (s.advanceTo n) p v).now, clk := (l1Asked (s.advanceTo n) p v).clk } :=
  ⟨State.port_setPort (s.advanceTo n) p v, rfl, now_advanceTo n, fun f _ => rd_advanceTo n f, rfl⟩

/-- The registers of an entry to L1 that is given up. -/
def abortRegs (s : State) (p : Nat) : State :=
  (s.bump (PHY_L1_ABORTS.count.port p)).clr (PHY_PM_STAT.last_outcome.port p)

theorem frame_busy {l : List Fld} {n p : Nat} (h : Sets l (s.advanceTo n) t) :
    t.busy p = { s with
      flds := (t.busy p).flds, ports := (t.busy p).ports, now := (t.busy p).now, clk := (t.busy p).clk } := by
  rw [h.frame]
  rfl

theorem busy_keeps (p : Nat) : (s.busy p).flds = s.flds ∧ (s.busy p).out = s.out ∧
    ((s.busy p).port p).l1Req = (s.port p).l1Req :=
  ⟨rfl, rfl, by rw [State.busy, State.port_setPort]⟩

theorem port_advanceTo (n p : Nat) : (s.advanceTo n).port p = s.port p := rfl

theorem l1GivenUp_gives {p n : Nat} : ((l1GivenUp (s.advanceTo n) p).port p).l1Req = (s.port p).l1Req ∧
    (l1GivenUp (s.advanceTo n) p).out = s.out ∧ CountedUp s (l1GivenUp (s.advanceTo n) p) (PHY_L1_ABORTS.count.port p) ∧
    (l1GivenUp (s.advanceTo n) p).rd (PHY_PM_STAT.last_outcome.port p) = 0 ∧
    SameRegs s (l1GivenUp (s.advanceTo n) p) [PHY_L1_ABORTS.count.port p, PHY_PM_STAT.last_outcome.port p] ∧
    l1GivenUp (s.advanceTo n) p =
      { s with
        flds := (l1GivenUp (s.advanceTo n) p).flds, ports := (l1GivenUp (s.advanceTo n) p).ports,
        now := (l1GivenUp (s.advanceTo n) p).now, clk := (l1GivenUp (s.advanceTo n) p).clk } := by
  have hs : Sets [PHY_L1_ABORTS.count.port p, PHY_PM_STAT.last_outcome.port p] (s.advanceTo n)
      (abortRegs (s.advanceTo n) p) := ((Sets.refl _).wr (.head _)).wr (.tail _ (.head _))
  obtain ⟨hflds, hout, hreq⟩ := busy_keeps (s := abortRegs (s.advanceTo n) p) p
  have heq : l1GivenUp (s.advanceTo n) p = (abortRegs (s.advanceTo n) p).busy p := rfl
  rw [heq]
  refine ⟨?_, ?_, ?_, ?_, sameRegs_of_advanceTo (hs.writes.flds hflds).regs, frame_busy hs⟩
  · rw [hreq, hs.port, port_advanceTo]
  · rw [hout, hs.out, out_advanceTo]
  · rw [CountedUp, rd_of_flds hflds, abortRegs, State.clr_eq, rd_wr_apart (by rfl), rd_bump, rd_advanceTo]
  · rw [rd_of_flds hflds]
    exact State.rd_wr_self _ _ _

/-- The registers of a link whose host has accepted L1. -/
def l1Accepted (s : State) (p : Nat) : State :=
  ((linkSleeps s p 7 3).bump (PHY_L1_ENTRIES.count.port p)).clr (PHY_PM_STAT.nak.port p)

theorem pmRequestAck_enters {port : PortNo} (hreq : (s.port port).l1Req = true) :
    ∃ v : PortState, v.l1Req = false ∧
      exec (.pmRequestAck port true) s = .next (linkIdles (l1Accepted s port) port v) := by
  refine ⟨{ ((l1Accepted s port).setLanes port 1).port port with
    l1Req := false, pmAt := ((l1Accepted s port).setLanes port 1).now }, rfl, ?_⟩
  show Machine.execPmRequestAck port true s = _
  unfold Machine.execPmRequestAck
  extract_lets p
  rw [if_neg (by rw [hreq]; decide), if_pos rfl]
  rfl

theorem pmRequestAck_resumes {port : PortNo} (hreq : (s.port port).l1Req = true) :
    exec (.pmRequestAck port false) s = .next ((s.put (PHY_PM_STAT.nak.port port)).resumeLink port) := by
  show Machine.execPmRequestAck port false s = _
  unfold Machine.execPmRequestAck
  extract_lets p
  rw [if_neg (by rw [hreq]; decide), if_neg (by decide)]

/-- The registers and the time of a link's exit from L1. -/
def l1Left (s : State) (p ns : Nat) : State :=
  ((s.advanceTo ((s.port p).pmAt + 100 * psNs)).advance (ns * psNs)).longest (PHY_EXIT_MAX_NS.ns.port p) ns

theorem l1Exit_resumes {port : PortNo} (ns : Nat) (hpm : 3 ≤ s.rd (PHY_STAT.pm_state.port port)) :
    exec (.l1Exit port ns) s = .next ((l1Left s port ns).resumeLink port) := by
  show Machine.execL1Exit port ns s = _
  unfold Machine.execL1Exit
  extract_lets p pm v
  have hv : v = s.advanceTo ((s.port port).pmAt + 100 * psNs) := if_pos hpm
  have hpm' : ¬(pm = 0 ∨ pm = 2) := by
    have : 3 ≤ pm := hpm
    omega
  rw [if_neg hpm', hv]
  rfl

theorem sets_longest (f : Fld) (v : Nat) : Sets [f] s (s.longest f v) := .ite ((Sets.refl s).wr (.head _)) (.refl s)

theorem keepsData_left (a b : Nat) : KeepsData s ((s.advanceTo a).advance b) := ⟨rfl, rfl, rfl, rfl⟩

/-! ## L0p (R377, R379) -/

/-- The upper lanes of a link park or wake. -/
def upperLanes (s : State) (p : Nat) (narrow : Bool) (l : List Nat) : State :=
  s.forAll l fun s n =>
    if 4 ≤ s.rd (PHY_LANE_STAT.logical.lane p n) then s.wrb (PHY_LANE_STAT.state.lane p n) narrow else s

theorem sets_upperLanes {p : Nat} {narrow : Bool} {l : List Nat} (hl : ∀ n ∈ l, n < 8) :
    Sets (laneStates p) s (upperLanes s p narrow l) :=
  (Sets.refl s).forAllMem fun _ _ hn h => .ite (h.wr (mem_laneStates (hl _ hn))) h

theorem key_lane_inj {p m n : Nat} (h : (PHY_LANE_STAT.state.lane p m).key = (PHY_LANE_STAT.state.lane p n).key) :
    m = n := by
  have hf : ∀ k, (PHY_LANE_STAT.state.lane p k).key = ((k * 128 + (0x10 + p)) * 4096 + 1280) * 32 + 8 := fun _ => rfl
  rw [hf, hf] at h
  omega

theorem rd_upperLanes {p n : Nat} {narrow : Bool} {l : List Nat} (hn : n ∈ l)
    (hlogical : 4 ≤ s.rd (PHY_LANE_STAT.logical.lane p n)) :
    (upperLanes s p narrow l).rd (PHY_LANE_STAT.state.lane p n) = narrow.toNat := by
  have hvalue : ∀ u : State, (u.wrb (PHY_LANE_STAT.state.lane p n) narrow).rd (PHY_LANE_STAT.state.lane p n) =
      narrow.toNat := fun u => by
    rw [wrb_eq]
    exact rd_wr_lt (show _ < 2 ^ 2 by cases narrow <;> decide)
  induction l using List.reverseRecOn with
  | nil => cases hn
  | append_singleton l m ih =>
    have hlast : upperLanes s p narrow (l ++ [m]) = upperLanes (upperLanes s p narrow l) p narrow [m] := by
      rw [upperLanes, State.forAll, List.foldl_append]
      rfl
    have hread : ∀ k, (upperLanes s p narrow l).rd (PHY_LANE_STAT.logical.lane p k) =
        s.rd (PHY_LANE_STAT.logical.lane p k) := fun k =>
      forAll_keeps (P := fun u => u.rd (PHY_LANE_STAT.logical.lane p k) = s.rd (PHY_LANE_STAT.logical.lane p k))
        (fun u m hu => by
          split
          · exact (rd_wr_apart (by rfl) _).trans hu
          · exact hu) _ rfl
    rw [hlast]
    show (if 4 ≤ (upperLanes s p narrow l).rd (PHY_LANE_STAT.logical.lane p m) then
      (upperLanes s p narrow l).wrb (PHY_LANE_STAT.state.lane p m) narrow else upperLanes s p narrow l).rd _ = _
    by_cases hmn : m = n
    · rw [hmn, hread, if_pos hlogical, hvalue]
    · have hn' : n ∈ l := (List.mem_append.1 hn).resolve_right fun h => hmn (List.mem_singleton.1 h).symm
      split
      · rw [wrb_eq, State.rd_wr_ne _ fun h => hmn (key_lane_inj h).symm]
        exact ih hn'
      · exact ih hn'

theorem l0pWidthChange_changes {port : PortNo} (narrow : Bool) (hltssm : s.rd (PHY_STAT.ltssm.port port) = 3)
    (hmode : 2 ≤ s.rd (PORT_LINK_STAT.mode.port port)) (hwidth : s.on (PORT_LINK_STAT.width.port port) = false) :
    exec (.l0pWidthChange port narrow) s = .next (upperLanes (s.wr (PHY_STAT.pm_state.port port) (if narrow then 2 else 0))
      port narrow ((s.wr (PHY_STAT.pm_state.port port) (if narrow then 2 else 0)).activeLanes port)) := by
  show Machine.execL0pWidthChange port narrow s = _
  unfold Machine.execL0pWidthChange
  extract_lets p u
  have hstay : ¬(s.ltssm p ≠ 3 ∨ s.rd (PORT_LINK_STAT.mode.port p) < 2 ∨ s.on (PORT_LINK_STAT.width.port p) = true) := by
    simp [State.ltssm, hltssm, hwidth, p]
    exact hmode
  rw [if_neg hstay]
  rfl

/-! ## Substates of L1 (R377, R380) -/

theorem l1SubstateEntry_enters {port : PortNo} {deep : Bool} (hpm : s.rd (PHY_STAT.pm_state.port port) = 3)
    (hen : (if deep then (s.ld (masterOf port 0)).l12 else (s.ld (masterOf port 0)).l11) = true)
    (hoff : s.on (PHY_CTL.lane_off_en.port port) = true) (hwait : (s.port port).waitOut = []) :
    exec (.l1SubstateEntry port deep) s =
      .next ((s.wr (PHY_STAT.pm_state.port port) (if deep then 5 else 4)).setLanes port (if deep then 3 else 2)) := by
  show Machine.execL1SubstateEntry port deep s = _
  unfold Machine.execL1SubstateEntry
  extract_lets p enabled
  have henabled : enabled = true := hen
  have hstay : ¬(s.rd (PHY_STAT.pm_state.port p) ≠ 3 ∨ (!enabled) = true ∨ (!s.on (PHY_CTL.lane_off_en.port p)) = true ∨
      (s.port p).waitOut ≠ []) := by
    simp [hpm, henabled, hoff, hwait, p]
  rw [if_neg hstay]

/-- Settles O42. -/
theorem linkPowerStates : Obligations.LinkPowerStates := by
  unfold Obligations.LinkPowerStates
  refine ⟨fun port s hltssm hmode hl0s hadv => ?_, fun port s hltssm hreq hl1 hen hpending => ⟨?_, ?_⟩,
    fun port s hreq => ?_, fun port s hreq hrun => ?_, fun port ns s hpm hrun => ?_,
    fun port narrow s hltssm hmode hwidth => ?_, fun port deep s hpm hen hoff hwait => ?_⟩
  · obtain ⟨v, hexec⟩ := l0sEntry_enters hltssm hmode hl0s hadv
    obtain ⟨hw, hnow, -, -, hdata⟩ := linkIdles_keeps (s := linkSleeps (s.advanceTo (l0sAt s port)) port 6 1) port v
    have hs := sets_linkSleeps (s := s.advanceTo (l0sAt s port)) port 6 1
    obtain ⟨h6, h1⟩ := linkSleeps_sleeps (s := s.advanceTo (l0sAt s port)) (p := port) (ltssm := 6) (pm := 1) (by decide)
      (by decide)
    refine ⟨_, hexec, hw.rd.trans h6, hw.rd.trans h1, ?_,
      keepsData_trans (keepsData_advanceTo _) (keepsData_trans hs.keepsData hdata)⟩
    rw [hnow, hs.now, now_advanceTo, l0sAt, Nat.mul_assoc]
    rfl
  · obtain ⟨hport, hout, hnow, hregs, hframe⟩ := l1Asked_asks (s := s) (p := port) (n := l1At s port)
      { s.port port with l1Req := true }
    exact ⟨_, l1IdleExpiry_asks hltssm hreq hl1 hen hpending false, congrArg PortState.l1Req hport, hout, hnow, hregs,
      hframe⟩
  · obtain ⟨hport, hout, hcount, hlast, hregs, hframe⟩ := l1GivenUp_gives (s := s) (p := port) (n := l1At s port)
    exact ⟨_, l1IdleExpiry_asks hltssm hreq hl1 hen hpending true, hport.trans hreq, hout, hcount, hlast, hregs, hframe⟩
  · obtain ⟨v, hv, hexec⟩ := pmRequestAck_enters hreq
    obtain ⟨hw, -, hout, hport, hdata⟩ := linkIdles_keeps (s := l1Accepted s port) port v
    have hs : Sets (PHY_L1_ENTRIES.count.port port :: PHY_PM_STAT.nak.port port :: linkFields port) s
        (l1Accepted s port) :=
      ((((sets_linkSleeps port.val 7 3).mono (List.subset_cons_of_subset _ (List.subset_cons_self _ _)))).wr
        (.head _)).wr (.tail _ (.head _))
    obtain ⟨h7, h3⟩ := linkSleeps_sleeps (s := s) (p := port) (ltssm := 7) (pm := 3) (by decide) (by decide)
    refine ⟨_, hexec, hw.rd.trans ?_, hw.rd.trans ?_, hw.rd.trans ?_, ?_, hw.rd.trans ?_, hout.trans hs.out,
      keepsData_trans hs.keepsData hdata⟩
    · rw [l1Accepted, State.clr_eq, rd_wr_apart (by rfl), State.bump_eq, rd_wr_apart (by rfl), h7]
    · rw [l1Accepted, State.clr_eq, rd_wr_apart (by rfl), State.bump_eq, rd_wr_apart (by rfl), h3]
    · exact State.rd_wr_self _ _ _
    · rw [hport, hv]
    · rw [l1Accepted, State.clr_eq, rd_wr_apart (by rfl), rd_bump, (sets_linkSleeps port.val 7 3).rd]
  · have hrun' : (s.put (PHY_PM_STAT.nak.port port)).rd (PWR_DOM_STAT.state.ix (64 + port.val)) = 0 := by
      rw [State.put_eq, rd_wr_apart (by rfl), hrun]
    have h := linkResumed_resumeLink hrun'
    exact ⟨_, pmRequestAck_resumes hreq, h.ltssm, h.writes.rd.trans rd_put_self, h.waitOut, h.out,
      keepsData_trans ⟨rfl, rfl, rfl, rfl⟩ h.data⟩
  · have hs := sets_longest (s := (s.advanceTo ((s.port port).pmAt + 100 * psNs)).advance (ns * psNs))
      (PHY_EXIT_MAX_NS.ns.port port) ns
    have hrun' : (l1Left s port ns).rd (PWR_DOM_STAT.state.ix (64 + port.val)) = 0 := by
      rw [l1Left, hs.rd, rd_advance, rd_advanceTo, hrun]
    have h := linkResumed_resumeLink hrun'
    refine ⟨_, l1Exit_resumes ns hpm, h.ltssm, h.pm, ?_, h.waitOut, ?_,
      keepsData_trans (keepsData_trans (keepsData_left _ _) hs.keepsData) h.data⟩
    · rw [h.now, l1Left, hs.now, now_advance, now_advanceTo]
      rfl
    · rw [h.out, l1Left, hs.port, hs.out]
      rfl
  · have hsub : laneStates port ⊆ PHY_STAT.pm_state.port port :: laneStates port := List.subset_cons_self _ _
    have hset : Sets (PHY_STAT.pm_state.port port :: laneStates port) s
        (s.wr (PHY_STAT.pm_state.port port) (if narrow then 2 else 0)) := (Sets.refl s).wr (.head _)
    have hup := sets_upperLanes (s := s.wr (PHY_STAT.pm_state.port port) (if narrow then 2 else 0)) (p := port)
      (narrow := narrow) (l := (s.wr (PHY_STAT.pm_state.port port) (if narrow then 2 else 0)).activeLanes port)
      fun n hn => (mem_activeLanes.1 hn).1
    refine ⟨_, l0pWidthChange_changes narrow hltssm hmode hwidth, hup.rd.trans (rd_wr_lt (show _ < 2 ^ 3 from ?_)), fun n hn hactive hlogical => ?_,
      (hset.trans (hup.mono hsub)).regs, (hset.trans (hup.mono hsub)).frame⟩
    · cases narrow <;> decide
    · refine rd_upperLanes (mem_activeLanes.2 ⟨hn, ?_⟩) ?_
      · rw [State.on, rd_wr_apart (by rfl)]
        exact hactive
      · rw [rd_wr_apart (by rfl)]
        exact hlogical
  · have hset : Sets (PHY_STAT.pm_state.port port :: laneStates port) s
        (s.wr (PHY_STAT.pm_state.port port) (if deep then 5 else 4)) := (Sets.refl s).wr (.head _)
    have hlanes := sets_setLanes (s := s.wr (PHY_STAT.pm_state.port port) (if deep then 5 else 4)) port.val
      (if deep then 3 else 2)
    have hall := hset.trans (hlanes.mono (List.subset_cons_self _ _))
    refine ⟨_, l1SubstateEntry_enters hpm hen hoff hwait, hlanes.rd.trans (rd_wr_lt (show _ < 2 ^ 3 from ?_)), hall.regs, hall.frame⟩
    cases deep <;> decide

end Sys2Proof.Proofs

/-! # Recalibration runs (R469 to R480) -/

namespace Sys2Proof.Proofs

open Sys2Proof Sys2Proof.Machine Sys2Proof.Laws

variable {s t u : State}

/-! ## The fields of a unit -/

theorem clear_calFld {l : List Fld} {pc phy : Fld} {n : Nat} (hpc : clear l (pc.pc n) = true)
    (hphy : clear l (phy.port (n - 64)) = true) : clear l (calFld pc phy n) = true := by
  unfold calFld
  split
  · exact hpc
  · exact hphy

theorem calFld_cases (pc phy : Fld) (n : Nat) : calFld pc phy n = pc.pc n ∨ calFld pc phy n = phy.port (n - 64) := by
  unfold calFld
  split
  · exact .inl rfl
  · exact .inr rfl

theorem calFld_mem {l : List Fld} {pc phy : Fld} {n : Nat} (hpc : pc.pc n ∈ l) (hphy : phy.port (n - 64) ∈ l) :
    calFld pc phy n ∈ l := by
  obtain h | h := calFld_cases pc phy n
  · exact h ▸ hpc
  · exact h ▸ hphy

theorem calFld_pc (pc phy : Fld) (p : PcNo) : calFld pc phy p = pc.pc p := if_pos p.isLt

theorem calMode_eq (n : Nat) : s.calMode n = s.rd (calFld PC_CAL_STAT.state PHY_CAL_STAT.state n) := rfl

theorem width_calFld {pc phy : Fld} {n w : Nat} (hpc : pc.width = w) (hphy : phy.width = w) :
    (calFld pc phy n).width = w := by
  obtain h | h := calFld_cases pc phy n
  · rw [h]
    exact hpc
  · rw [h]
    exact hphy

theorem calMode_setCalMode {n m : Nat} (hm : m < 8) : (s.setCalMode n m).calMode n = m := by
  rw [calMode_eq, State.setCalMode]
  exact rd_wr_lt (by rw [width_calFld (w := 3) rfl rfl]; exact hm)

/-! ## A run begins (R469) -/

/-- A unit that may begin a run begins it. -/
theorem beginRun_begins {n : Nat} {command : Bool} (h : s.on (calFld PC_CAL_CTL.cal_en PHY_CAL_CTL.cal_en n) = true) :
    (s.beginRun n command).calMode n = 1 ∧ ((s.beginRun n command).cal n).startAt = s.now ∧
      ((s.beginRun n command).cal n).derive_ = (command || (s.cal n).nextDerives) := by
  rw [State.beginRun, if_neg (by rw [h]; decide)]
  extract_lets v w
  have hmode : v.calMode n = 1 := calMode_setCalMode (by decide)
  refine ⟨?_, ?_, ?_⟩
  · rw [calMode_eq, State.setCal_rd]
    exact hmode
  · rw [State.cal_setCal]
    rfl
  · rw [State.cal_setCal]
    rfl

theorem calIdle_iff {n : Nat} : calIdle s n = true ↔ s.calMode n = 0 ∧ s.calPaused n = false ∧
    s.on (calFld PC_CAL_CTL.cal_en PHY_CAL_CTL.cal_en n) = true := by
  simp [calIdle, and_assoc]

theorem calEvent_begins {n : Nat} (command : Bool) (h : calIdle s n = true) :
    s.calEvent n command = s.beginRun n command := by
  obtain ⟨hmode, hpaused, -⟩ := calIdle_iff.1 h
  unfold State.calEvent
  extract_lets m
  have hm : m = 0 := hmode
  rw [hm, if_neg (by decide), hpaused, if_neg (by decide)]

/-- A unit that collects leaves its run, and none waits. -/
theorem abortRun_stops {n : Nat} (hmode : s.calMode n = 2) (hpending : s.on (calPending n) = false) :
    s.abortRun n = s.stopRun n := by
  unfold State.abortRun
  extract_lets m v
  have hm : m = 2 := hmode
  have hv : v.on (calPending n) = false := by
    have hne : apart (calPending n) (calFld PC_CAL_STAT.state PHY_CAL_STAT.state n) = true := by
      unfold calPending calFld
      split <;> rfl
    show (((s.setCal n _).wr _ 0).on (calPending n)) = false
    rw [State.on, rd_wr_apart hne, State.setCal_rd]
    exact hpending
  rw [hm, if_neg (by decide), hv, if_neg (by decide)]

theorem stopRun_stops (n : Nat) : (s.stopRun n).calMode n = 0 ∧ ((s.stopRun n).cal n).steps = [] ∧
    CalFollowed [calFld PC_CAL_STAT.state PHY_CAL_STAT.state n] s (s.stopRun n) := by
  refine ⟨calMode_setCalMode (by decide), ?_, (CalFollowed.refl s).setCal.wr (.head _)⟩
  have h : (s.stopRun n).cal n = (s.setCal n { s.cal n with steps := [] }).cal n := rfl
  rw [h, State.cal_setCal]

theorem calFollowed_beginRun (n : Nat) (command : Bool) : CalFollowed (calFields n) s (s.beginRun n command) :=
  (CalFollowed.refl s).beginRun

theorem calFields_pc (p : PcNo) : calFields p = [PC_CAL_STAT.state.pc p, PC_CAL_STAT.pending.pc p] := by
  rw [calFields, calPending, calFld_pc, calFld_pc]

theorem calRun_begins {who : Accessor} {pc : PcNo} (htakes : takes s who (0x40 + pc.val) = true)
    (hidle : calIdle s pc = true) : exec (.calRun who pc) s = .next (s.beginRun pc true) := by
  show Machine.execCalRun who pc s = _
  rw [Machine.execCalRun, command_takes htakes, calEvent_begins true hidle]

theorem calAbort_stops {who : Accessor} {pc : PcNo} (htakes : takes s who (0x40 + pc.val) = true)
    (hmode : s.calMode pc = 2) (hpending : s.on (calPending pc) = false) :
    exec (.calAbort who pc) s = .next (s.stopRun pc) := by
  show Machine.execCalAbort who pc s = _
  rw [Machine.execCalAbort, command_takes htakes, abortRun_stops hmode hpending]

theorem phyCalRun_begins {who : Accessor} {group : GroupNo} (htakes : takes s who (groupPage group) = true)
    (hidle : calIdle s (64 + group.val) = true) :
    exec (.phyCalRun who group) s = .next (s.beginRun (64 + group.val) true) := by
  show Machine.execPhyCalRun who group s = _
  rw [Machine.execPhyCalRun, command_takes htakes, calEvent_begins true hidle]

theorem phyCalAbort_stops {who : Accessor} {group : GroupNo} (htakes : takes s who (groupPage group) = true)
    (hmode : s.calMode (64 + group.val) = 2) (hpending : s.on (calPending (64 + group.val)) = false) :
    exec (.phyCalAbort who group) s = .next (s.stopRun (64 + group.val)) := by
  show Machine.execPhyCalAbort who group s = _
  rw [Machine.execPhyCalAbort, command_takes htakes, abortRun_stops hmode hpending]

theorem psS_eq : psS = 1000000000000 := rfl

theorem hundred_psMs : 100 * psMs = 100000000000 := rfl

theorem thousand_psMs : 1000 * psMs = 1000000000000 := rfl

/-- The end of a unit's period. -/
def periodAt (s : State) (n : Nat) : Nat :=
  (s.cal n).lastAt + s.rd (calFld PC_CAL_CTL.period_s PHY_CAL_CTL.period_s n) * psS

theorem on_advanceTo (k : Nat) (f : Fld) : (s.advanceTo k).on f = s.on f := rfl

theorem cal_advanceTo (k n : Nat) : (s.advanceTo k).cal n = s.cal n := rfl

theorem calIdle_advanceTo (k n : Nat) : calIdle (s.advanceTo k) n = calIdle s n := rfl

theorem calPeriodExpiry_begins {unit : Fin 69} (hphase : s.sys.phase = .active) (hidle : calIdle s unit = true) :
    exec (.calPeriodExpiry unit) s = .next ((s.advanceTo (periodAt s unit)).beginRun unit false) := by
  show Machine.execCalPeriodExpiry unit s = _
  rw [Machine.execCalPeriodExpiry, if_neg (not_not.2 hphase), ← calEvent_begins false ((calIdle_advanceTo _ _).trans hidle)]
  rfl

theorem frame_cals_advanceTo {n : Nat} {l : List Fld} (h : CalFollowed l (s.advanceTo n) t) :
    t = { s with flds := t.flds, cals := t.cals, now := t.now, clk := t.clk } := by
  rw [h.frame]
  rfl

/-! ## A run ends (R470, R480) -/

/-- The fields of the end of a run, beside its count. -/
def runEndFields (n : Nat) : List Fld :=
  [PC_CAL_STAT.last_ok.pc n, PHY_CAL_STAT.last_ok.port (n - 64), PC_CAL_STAT.tj_last.pc n,
    PHY_CAL_STAT.tj_last.port (n - 64), PC_CAL_STAT.state.pc n, PHY_CAL_STAT.state.port (n - 64),
    PC_CAL_LAST_TIME_LO.time.pc n, PC_CAL_LAST_TIME_HI.time.pc n] ++ causeFields (calPage n)

/-- The registers and messages of the end of a run. -/
def runEnding (s : State) (n : Nat) : State :=
  let c := s.cal n
  let s := (s.bump (calFld PC_CAL_RUNS.count PHY_CAL_RUNS.count n)).wrb
    (calFld PC_CAL_STAT.last_ok PHY_CAL_STAT.last_ok n) (!c.rejected)
  let s := if n < 64 then s.wr64 (PC_CAL_LAST_TIME_LO.time.pc n) (PC_CAL_LAST_TIME_HI.time.pc n) s.tb else s
  let s := if c.accepted then s.wr (calFld PC_CAL_STAT.tj_last PHY_CAL_STAT.tj_last n) (regC (s.driftReading n)) else s
  let s := (s.setCalMode n 0).cause (calPage n) (calDoneBit n)
  if c.rejected then s.cause (calPage n) (calDoneBit n + 1) else s

/-- A run has ended, and one that waits has not begun. -/
structure RunEnded (n : Nat) (s t : State) : Prop where
  alerted : Alerted (runEndFields n) (s.bump (calFld PC_CAL_RUNS.count PHY_CAL_RUNS.count n)) t
  mode : t.calMode n = 0

theorem runEnded_runEnding (n : Nat) : RunEnded n s (runEnding s n) := by
  have hcause : causeFields (calPage n) ⊆ runEndFields n := List.subset_append_right _ _
  have hown : ∀ f ∈ [PC_CAL_STAT.last_ok.pc n, PHY_CAL_STAT.last_ok.port (n - 64), PC_CAL_STAT.tj_last.pc n,
      PHY_CAL_STAT.tj_last.port (n - 64), PC_CAL_STAT.state.pc n, PHY_CAL_STAT.state.port (n - 64),
      PC_CAL_LAST_TIME_LO.time.pc n, PC_CAL_LAST_TIME_HI.time.pc n], f ∈ runEndFields n :=
    fun f hf => List.mem_append_left _ hf
  have hok : calFld PC_CAL_STAT.last_ok PHY_CAL_STAT.last_ok n ∈ runEndFields n :=
    calFld_mem (hown _ (by simp)) (hown _ (by simp))
  have htj : calFld PC_CAL_STAT.tj_last PHY_CAL_STAT.tj_last n ∈ runEndFields n :=
    calFld_mem (hown _ (by simp)) (hown _ (by simp))
  have hstate : calFld PC_CAL_STAT.state PHY_CAL_STAT.state n ∈ runEndFields n :=
    calFld_mem (hown _ (by simp)) (hown _ (by simp))
  unfold runEnding
  extract_lets c u₁ u₂ u₃ u₄
  have h₁ : Alerted (runEndFields n) (s.bump (calFld PC_CAL_RUNS.count PHY_CAL_RUNS.count n)) u₁ := (Alerted.refl _).wr hok
  have h₂ : Alerted (runEndFields n) (s.bump (calFld PC_CAL_RUNS.count PHY_CAL_RUNS.count n)) u₂ :=
    .ite ((h₁.wr (hown _ (by simp))).wr (hown _ (by simp))) h₁
  have h₃ : Alerted (runEndFields n) (s.bump (calFld PC_CAL_RUNS.count PHY_CAL_RUNS.count n)) u₃ := .ite (h₂.wr htj) h₂
  have h₄ : Alerted (runEndFields n) (s.bump (calFld PC_CAL_RUNS.count PHY_CAL_RUNS.count n)) u₄ :=
    (h₃.wr hstate).cause hcause
  have hfirst : Alerted (causeFields (calPage n)) (u₃.setCalMode n 0) u₄ := alerted_cause _ _
  refine ⟨.ite (h₄.cause hcause) h₄, ?_⟩
  have hlast := Alerted.ite (c := c.rejected = true) (hfirst.trans (alerted_cause _ (calDoneBit n + 1))) hfirst
  rw [calMode_eq, hlast.writes.rd (clear_calFld (by rfl) (by rfl))]
  exact calMode_setCalMode (by decide)

theorem endRun_eq (n : Nat) : s.endRun n =
    if (runEnding s n).on (calPending n) then (runEnding s n).beginRun n false else runEnding s n := rfl

theorem runEnded_endRun {n : Nat} (hpending : s.on (calPending n) = false) : RunEnded n s (s.endRun n) := by
  have h := runEnded_runEnding (s := s) n
  have hr : apart (calPending n) (calFld PC_CAL_RUNS.count PHY_CAL_RUNS.count n) = true := by
    unfold calPending calFld
    split <;> rfl
  have hnone : (runEnding s n).on (calPending n) = false := by
    have hp : clear (runEndFields n) (calPending n) = true := clear_calFld (by rfl) (by rfl)
    rw [State.on, h.alerted.writes.rd hp, State.bump_eq, rd_wr_apart hr]
    exact hpending
  rw [endRun_eq, hnone, if_neg (by decide)]
  exact h

section
variable {n : Nat}

theorem RunEnded.rd (h : RunEnded n s t) {f : Fld} (hf : clear (runEndFields n) f = true)
    (hr : apart f (calFld PC_CAL_RUNS.count PHY_CAL_RUNS.count n) = true) : t.rd f = s.rd f := by
  rw [h.alerted.writes.rd hf, State.bump_eq, rd_wr_apart hr]

theorem RunEnded.counted (h : RunEnded n s t) : CountedUp s t (calFld PC_CAL_RUNS.count PHY_CAL_RUNS.count n) := by
  rw [CountedUp, h.alerted.writes.rd (clear_calFld (by rfl) (by rfl)), rd_bump]

theorem RunEnded.cal (h : RunEnded n s t) (k : Nat) : t.cal k = s.cal k := by
  rw [State.cal, h.alerted.frame]
  rfl

theorem RunEnded.keepsData (h : RunEnded n s t) : KeepsData s t :=
  keepsData_trans (logged_wr _ _).keepsData (keepsData_of_alerted h.alerted)

theorem RunEnded.now (h : RunEnded n s t) : t.now = s.now := by
  rw [h.alerted.frame]
  rfl

end

/-- What the end of a run keeps of its unit, whether a run waits or none. -/
structure CalSame (n : Nat) (s t : State) : Prop where
  writes : Writes (runEndFields n ++ [PC_CAL_RUNS.count.pc n, PHY_CAL_RUNS.count.port (n - 64), PC_CAL_STAT.pending.pc n,
    PHY_CAL_STAT.pending.port (n - 64)]) s t
  trained : (t.cal n).trained = (s.cal n).trained
  data : KeepsData s t

theorem trained_beginRun (n : Nat) (command : Bool) : ((s.beginRun n command).cal n).trained = (s.cal n).trained := by
  unfold State.beginRun
  split
  · rfl
  · rw [State.cal_setCal]
    rfl

theorem calSame_endRun (n : Nat) : CalSame n s (s.endRun n) := by
  have h := runEnded_runEnding (s := s) n
  have hown : ∀ f ∈ [PC_CAL_RUNS.count.pc n, PHY_CAL_RUNS.count.port (n - 64), PC_CAL_STAT.pending.pc n,
      PHY_CAL_STAT.pending.port (n - 64)], f ∈ runEndFields n ++ [PC_CAL_RUNS.count.pc n,
      PHY_CAL_RUNS.count.port (n - 64), PC_CAL_STAT.pending.pc n, PHY_CAL_STAT.pending.port (n - 64)] :=
    fun f hf => List.mem_append_right _ hf
  have hstate : ∀ f ∈ [PC_CAL_STAT.state.pc n, PHY_CAL_STAT.state.port (n - 64)], f ∈ runEndFields n := fun f hf =>
    List.mem_append_left _ (List.mem_of_mem_drop (i := 4) (List.mem_of_mem_take (i := 2) hf))
  have hw : CalSame n s (runEnding s n) := by
    refine ⟨?_, by rw [h.cal], h.keepsData⟩
    exact ((Writes.refl s).wr (calFld_mem (hown _ (by simp)) (hown _ (by simp)))).trans
      (h.alerted.writes.mono (List.subset_append_left _ _))
  have hsub : calFields n ⊆ runEndFields n ++ [PC_CAL_RUNS.count.pc n, PHY_CAL_RUNS.count.port (n - 64),
      PC_CAL_STAT.pending.pc n, PHY_CAL_STAT.pending.port (n - 64)] := by
    intro f hf
    obtain rfl | hf := List.mem_cons.1 hf
    · exact List.mem_append_left _ (calFld_mem (hstate _ (by simp)) (hstate _ (by simp)))
    · rw [List.mem_singleton.1 hf]
      exact calFld_mem (hown _ (by simp)) (hown _ (by simp))
  rw [endRun_eq]
  split
  · have hb := calFollowed_beginRun (s := runEnding s n) n false
    exact ⟨hw.writes.trans (hb.writes.mono hsub), (trained_beginRun n false).trans hw.trained,
      keepsData_trans hw.data hb.keepsData⟩
  · exact hw

/-! ## Results of a PC (R474 to R477) -/

/-- The settings of a PC and its waiting steps stay, and registers do. -/
structure Weighed (n : Nat) (s t : State) : Prop where
  frame : t = { s with cals := t.cals, free := t.free }
  steps : (t.cal n).steps = (s.cal n).steps
  trained : (t.cal n).trained = (s.cal n).trained
  vref : (t.cal n).vref = (s.cal n).vref

section
variable {n : Nat}

theorem Weighed.refl (s : State) : Weighed n s s := ⟨rfl, rfl, rfl, rfl⟩

theorem Weighed.rd (h : Weighed n s t) (f : Fld) : t.rd f = s.rd f := by
  rw [h.frame]
  rfl

theorem Weighed.on (h : Weighed n s t) (f : Fld) : t.on f = s.on f := by rw [State.on, State.on, h.rd]

theorem Weighed.keepsData (h : Weighed n s t) : KeepsData s t := by
  rw [h.frame]
  exact ⟨rfl, rfl, rfl, rfl⟩

theorem Weighed.now (h : Weighed n s t) : t.now = s.now := by rw [h.frame]

theorem Weighed.setCal {v : CalState} (h : Weighed n s t) (hs : v.steps = (t.cal n).steps)
    (ht : v.trained = (t.cal n).trained) (hv : v.vref = (t.cal n).vref) : Weighed n s (t.setCal n v) := by
  refine ⟨congrArg (fun u => u.setCal n v) h.frame, ?_, ?_, ?_⟩
  · rw [State.cal_setCal, hs, h.steps]
  · rw [State.cal_setCal, ht, h.trained]
  · rw [State.cal_setCal, hv, h.vref]

theorem Weighed.drawn (h : Weighed n s t) : Weighed n s t.drawn :=
  ⟨congrArg State.drawn h.frame, h.steps, h.trained, h.vref⟩

end

/-- A target read Vref that stands already needs no step. -/
theorem weighed_judgeVref {pc vref : Nat} (h : (vref : Int) = s.rdVref pc) : Weighed pc s (s.judgeVref pc vref) := by
  rw [State.judgeVref, if_pos (by rw [h, Int.sub_self]; decide), if_pos h.symm]
  exact (Weighed.refl s).setCal (List.append_nil _) rfl rfl

/-- The write settings are derived anew where the run was begun by a command (R474). -/
def derived (s : State) (pc : Nat) : State :=
  if (s.cal pc).derive_ then s.drawn.setCal pc { s.cal pc with wrTrained := some s.free } else s

theorem Weighed.derived {n : Nat} (h : Weighed n s t) : Weighed n s (derived t n) := by
  unfold Proofs.derived
  split
  · exact h.drawn.setCal rfl rfl rfl
  · exact h

/-- No via has a result, and read Vref stands. -/
theorem weighed_judgePc {pc vref : Nat} (h : (vref : Int) = s.rdVref pc) : Weighed pc s (s.judgePc pc [] vref) :=
  (weighed_judgeVref h).derived

theorem applyRun_ends {n : Nat} (h : (s.cal n).steps = []) : s.applyRun n = s.endRun n := if_pos h

theorem collecting_iff {n : Nat} : collecting s n = true ↔
    s.calMode n = 1 ∧ (s.cal n).steps = [] ∧ s.on (calPending n) = false := by
  simp [collecting, and_assoc]

/-- A run whose results ask for no step is over. -/
theorem runEnded_applyRun {n : Nat} (h : Weighed n s t) (hsteps : (s.cal n).steps = [])
    (hpending : s.on (calPending n) = false) : RunEnded n t (t.applyRun n) := by
  rw [applyRun_ends (h.steps.trans hsteps)]
  exact runEnded_endRun ((h.on _).trans hpending)

theorem RunEnded.countedFrom {n : Nat} (h : RunEnded n t u) (k : Weighed n s t) :
    CountedUp s u (calFld PC_CAL_RUNS.count PHY_CAL_RUNS.count n) := by
  have := h.counted
  rw [CountedUp, k.rd] at this
  exact this

theorem calCollectionComplete_applies {unit : Fin 69} {results : List CalResult} {vref : Nat}
    (hmode : s.calMode unit = 1) : exec (.calCollectionComplete unit results vref) s =
      .next ((if unit.val < 64 then s.judgePc unit results vref else s.judgeGroup (unit - 64) results).applyRun unit) := by
  show Machine.execCalCollectionComplete unit results vref s = _
  rw [Machine.execCalCollectionComplete, if_neg fun h => h.1 hmode]

theorem weighed_collected {unit : Fin 69} {vref : Nat} (h : unit.val < 64 → (vref : Int) = s.rdVref unit) :
    Weighed unit s (if unit.val < 64 then s.judgePc unit [] vref else s.judgeGroup (unit - 64) []) := by
  split
  next hlt => exact weighed_judgePc (h hlt)
  · exact Weighed.refl s

/-! ### A result that is rejected -/

/-- The fields of a rejected result of a PC. -/
def rejectFields (n via : Nat) : List Fld :=
  [(PC_CAL_LANE_DLY.rejected_last.pc n).ix via, (PC_CAL_LANE_DLY.reject_run.pc n).ix via] ++ errFields (0x40 + n)

/-- A result of a PC has been rejected. -/
structure Rejected (n via : Nat) (s t : State) : Prop where
  writes : Writes (rejectFields n via) (s.bump (PC_CAL_REJECTS.count.pc n)) t
  last : t.rd ((PC_CAL_LANE_DLY.rejected_last.pc n).ix via) = 1
  data : KeepsData s t
  steps : (t.cal n).steps = (s.cal n).steps
  trained : (t.cal n).trained = (s.cal n).trained
  vref : (t.cal n).vref = (s.cal n).vref

theorem cal_of_logged (h : Logged s t) (n : Nat) : t.cal n = s.cal n := by
  rw [State.cal, h.frame]
  rfl

theorem keepsData_setCal (n : Nat) (v : CalState) : KeepsData s (s.setCal n v) := ⟨rfl, rfl, rfl, rfl⟩

/-- The registers of a rejected result, before it is logged. -/
def rejectRegs (s : State) (n via run : Nat) : State :=
  ((s.bump (PC_CAL_REJECTS.count.pc n)).put ((PC_CAL_LANE_DLY.rejected_last.pc n).ix via)).wr
    ((PC_CAL_LANE_DLY.reject_run.pc n).ix via) run

theorem rejectRegs_reject (n via run : Nat) :
    Writes (rejectFields n via) (s.bump (PC_CAL_REJECTS.count.pc n)) (rejectRegs s n via run) ∧
      Logged s (rejectRegs s n via run) ∧
      (rejectRegs s n via run).rd ((PC_CAL_LANE_DLY.rejected_last.pc n).ix via) = 1 := by
  refine ⟨((Writes.refl _).wr (.head _)).wr (.tail _ (.head _)), ?_, ?_⟩
  · rw [rejectRegs, State.bump_eq, State.put_eq]
    exact ((logged_wr _ _).wr _ _).wr _ _
  · rw [rejectRegs, rd_wr_apart (by rfl)]
    exact rd_put_self

theorem rejected_rejectResult (pc : PcNo) (via : Nat) :
    Rejected pc via s (s.rejectResult pc via ((PC_CAL_LANE_DLY.reject_run.pc pc).ix via)
      ((PC_CAL_LANE_DLY.rejected_last.pc pc).ix via)) := by
  have herr : errFields (0x40 + pc.val) ⊆ rejectFields pc via := List.subset_append_right _ _
  have hpage : calPage pc = 0x40 + pc.val := if_pos pc.isLt
  unfold State.rejectResult
  rw [calFld_pc, hpage]
  extract_lets u₁ k u₂ u₃ u₄
  obtain ⟨hw₂, hl₂, hlast⟩ : Writes (rejectFields pc via) (s.bump (PC_CAL_REJECTS.count.pc pc)) u₂ ∧ Logged s u₂ ∧
    u₂.rd ((PC_CAL_LANE_DLY.rejected_last.pc pc).ix via) = 1 := rejectRegs_reject pc.val via k
  have hw₃ : Writes (errFields (0x40 + pc.val)) u₂ u₃ := (Writes.refl u₂).err (List.Subset.refl _)
  have hw₄ : Writes (errFields (0x40 + pc.val)) u₂ u₄ := .ite (hw₃.err (List.Subset.refl _)) hw₃
  have hl₃ : Logged u₂ u₃ := logged_err _ _ _
  have hl₄ : Logged s u₄ := hl₂.trans (.ite (hl₃.err _ _ _) hl₃)
  have hcal := cal_of_logged hl₄ pc
  clear_value u₂ u₃ u₄
  refine ⟨(hw₂.trans (hw₄.mono herr)).flds rfl, ?_, keepsData_trans hl₄.keepsData (keepsData_setCal _ _), ?_, ?_, ?_⟩
  · rw [State.setCal_rd, hw₄.rd (by rfl), hlast]
  · rw [State.cal_setCal, ← hcal]
  · rw [State.cal_setCal, ← hcal]
  · rw [State.cal_setCal, ← hcal]

theorem rdVref_of_cal {n : Nat} (ht : (t.cal n).trained = (s.cal n).trained) (hv : (t.cal n).vref = (s.cal n).vref) :
    t.rdVref n = s.rdVref n := by
  rw [State.rdVref, State.rdVref, State.trainedValue, State.trainedValue, ht, hv]

theorem rdDly_of_cal {n via : Nat} (ht : (t.cal n).trained = (s.cal n).trained)
    (hd : t.rd ((PC_CAL_LANE_EYE.drift.pc n).ix via) = s.rd ((PC_CAL_LANE_EYE.drift.pc n).ix via)) :
    t.rdDly n via = s.rdDly n via := by
  rw [State.rdDly, State.rdDly, State.trainedValue, State.trainedValue, ht, hd]

/-- The narrowest eye stands in its register. -/
theorem sets_narrowest (n : Nat) (rs : List CalResult) :
    Sets [PC_CAL_EYE_MIN.eye.pc n, PC_CAL_EYE_MIN.via.pc n] s (s.narrowest n rs) := by
  unfold State.narrowest
  split
  · exact .refl s
  · exact ((Sets.refl s).wr (.head _)).wr (.tail _ (.head _))

theorem Sets.cal {l : List Fld} (h : Sets l s t) (n : Nat) : t.cal n = s.cal n := by
  rw [State.cal, h.frame]
  rfl

/-- The results of a PC's run in which the only via fails. -/
theorem judgePc_rejects {pc : PcNo} {r : CalResult} (hcomplete : r.complete = false) (hindex : r.index.val < 72)
    (herased : (s.erasedLanes pc).contains r.index.val = false) (vref : Nat) :
    s.judgePc pc [r] vref = derived (((s.narrowest pc [r]).rejectResult pc r.index
      ((PC_CAL_LANE_DLY.reject_run.pc pc).ix r.index) ((PC_CAL_LANE_DLY.rejected_last.pc pc).ix r.index)).judgeVref
        pc vref) pc := by
  have hrs : [r].filter (fun r : CalResult => decide (r.index.val < 72)) = [r] :=
    List.filter_cons_of_pos (decide_eq_true hindex)
  have huse : [r].filter (fun r : CalResult => !(s.erasedLanes pc).contains r.index.val) = [r] :=
    List.filter_cons_of_pos (by rw [herased]; rfl)
  have hok : ∀ (v : State) (l : List CalResult), v.viaOk pc l r = false := fun v l => by
    rw [State.viaOk, hcomplete, Bool.false_and, Bool.false_and, Bool.false_and]
  unfold State.judgePc
  extract_lets rs use v old w
  have hrs' : rs = [r] := hrs
  have huse' : use = [r] := (congrArg (List.filter _) hrs').trans huse
  have hv : v = s.narrowest pc [r] := by
    unfold v
    rw [hrs']
  have hw : w = v.rejectResult pc r.index ((PC_CAL_LANE_DLY.reject_run.pc pc).ix r.index)
      ((PC_CAL_LANE_DLY.rejected_last.pc pc).ix r.index) := by
    unfold w
    rw [huse']
    show v.judgeVia pc (v.viaOk pc [r] r) r = _
    rw [hok]
    rfl
  rw [← hv, ← hw]
  rfl

/-- What a run of a PC has done whose only via failed. -/
structure OnlyRejected (pc via : Nat) (s t : State) : Prop where
  last : t.rd ((PC_CAL_LANE_DLY.rejected_last.pc pc).ix via) = 1
  counted : CountedUp s t (PC_CAL_REJECTS.count.pc pc)
  dly : t.rdDly pc via = s.rdDly pc via
  steps : (t.cal pc).steps = []
  data : KeepsData s t

theorem judgePc_rejected {pc : PcNo} {r : CalResult} (hcomplete : r.complete = false) (hindex : r.index.val < 72)
    (herased : (s.erasedLanes pc).contains r.index.val = false) (hsteps : (s.cal pc).steps = [])
    (hpending : s.on (calPending pc) = false) (hvref : 0 ≤ s.rdVref pc) :
    ∃ v, s.judgePc pc [r] (s.rdVref pc).toNat = v ∧ OnlyRejected pc r.index s v ∧ v.on (calPending pc) = false := by
  refine ⟨_, judgePc_rejects hcomplete hindex herased _, ?_⟩
  have hnarrow := sets_narrowest (s := s) pc [r]
  have hreject := rejected_rejectResult (s := s.narrowest pc [r]) pc r.index
  have hcal := hnarrow.cal pc
  generalize (s.narrowest pc [r]).rejectResult pc r.index ((PC_CAL_LANE_DLY.reject_run.pc pc).ix r.index)
    ((PC_CAL_LANE_DLY.rejected_last.pc pc).ix r.index) = v at hreject ⊢
  have htrained : (v.cal pc).trained = (s.cal pc).trained := hreject.trained.trans (by rw [hcal])
  have hsame : v.rdVref pc = s.rdVref pc := rdVref_of_cal htrained (hreject.vref.trans (by rw [hcal]))
  have hweighed : Weighed pc v (derived (v.judgeVref pc (s.rdVref pc).toNat) pc) :=
    (weighed_judgeVref (by rw [hsame, Int.toNat_of_nonneg hvref])).derived
  have hrd : ∀ {f : Fld}, clear (rejectFields pc r.index) f = true → apart f (PC_CAL_REJECTS.count.pc pc) = true →
      clear [PC_CAL_EYE_MIN.eye.pc pc, PC_CAL_EYE_MIN.via.pc pc] f = true → v.rd f = s.rd f := fun h1 h2 h3 => by
    rw [hreject.writes.rd h1, State.bump_eq, rd_wr_apart h2, hnarrow.rd h3]
  refine ⟨⟨?_, ?_, ?_, ?_, keepsData_trans hnarrow.keepsData (keepsData_trans hreject.data hweighed.keepsData)⟩, ?_⟩
  · rw [hweighed.rd, hreject.last]
  · rw [CountedUp, hweighed.rd, hreject.writes.rd (by rfl), rd_bump, hnarrow.rd]
  · exact rdDly_of_cal (hweighed.trained.trans htrained) ((hweighed.rd _).trans (hrd (by rfl) (by rfl) (by rfl)))
  · rw [hweighed.steps, hreject.steps, hcal, hsteps]
  · rw [hweighed.on, State.on, calPending, calFld_pc, hrd (by rfl) (by rfl) (by rfl)]
    rw [calPending, calFld_pc] at hpending
    exact hpending

/-! ## Probes, overlong runs and steps (R473, R478) -/

/-- Probe bursts are issued. -/
def probing (s : State) (pc : Nat) : State := (s.setCal pc { s.cal pc with probed := true }).setCalMode pc 4

theorem calProbeTimeout_probes {pc : PcNo} (hmode : s.calMode pc = 1) :
    exec (.calProbeTimeout pc) s = .next (probing (s.advanceTo ((s.cal pc).startAt + 100 * psMs)) pc) := by
  show Machine.execCalProbeTimeout pc s = _
  rw [Machine.execCalProbeTimeout, if_neg (not_not.2 hmode)]
  rfl

theorem probing_probes (n : Nat) : (probing s n).calMode n = 4 ∧ ((probing s n).cal n).probed = true ∧
    CalFollowed [calFld PC_CAL_STAT.state PHY_CAL_STAT.state n] s (probing s n) := by
  refine ⟨calMode_setCalMode (by decide), ?_, (CalFollowed.refl s).setCal.wr (.head _)⟩
  have h : (probing s n).cal n = (s.setCal n { s.cal n with probed := true }).cal n := rfl
  rw [h, State.cal_setCal]

/-- The vias that a run has no result of. -/
def starvedVias (s : State) (pc : Nat) : List Nat := (List.range 72).filter fun v => !(s.erasedLanes pc).contains v

theorem starvedVias_advanceTo (n pc : Nat) : starvedVias (s.advanceTo n) pc = starvedVias s pc := rfl

/-- At most two lanes are erased, so some via always has no result. -/
theorem starvedVias_ne_nil (pc : Nat) : starvedVias s pc ≠ [] := by
  intro h
  have hmem : ∀ v < 3, v ∈ s.erasedLanes pc := fun v hv => by
    have := List.filter_eq_nil_iff.1 h v (List.mem_range.2 (by omega))
    simpa using this
  have h0 := hmem 0 (by decide)
  have h1 := hmem 1 (by decide)
  have h2 := hmem 2 (by decide)
  unfold State.erasedLanes at h0 h1 h2
  extract_lets n at h0 h1 h2
  split at h0 <;> split at h0 <;> simp_all <;> omega

/-- The vias without a result are counted and told. -/
def starved (s : State) (pc : Nat) : State :=
  ((s.count (PC_CAL_STARVED.count.pc pc) (starvedVias s pc).length).cause (0x40 + pc) 12).err (0x40 + pc) 0x0152
    ((starvedVias s pc).headD 0)

theorem calRunTimeout_ends {pc : PcNo} {vref : Nat} (hmode : s.calMode pc = 1) : exec (.calRunTimeout pc [] vref) s =
    .next (((starved (s.advanceTo ((s.cal pc).startAt + 1000 * psMs)) pc).judgePc pc [] vref).applyRun pc) := by
  show Machine.execCalRunTimeout pc [] vref s = _
  rw [Machine.execCalRunTimeout, if_neg fun h => h.1 hmode]
  extract_lets v have_ short w
  have hshort : short = starvedVias v pc :=
    List.filter_congr fun x _ => (congrArg (!(v.erasedLanes pc).contains x && ·) rfl).trans (Bool.and_true _)
  have hw : w = starved v pc := by
    unfold w
    rw [hshort, if_neg (starvedVias_ne_nil _)]
    rfl
  rw [hw]
  rfl

theorem starved_counts (pc : PcNo) : (starved s pc).rd (PC_CAL_STARVED.count.pc pc) =
      min (s.rd (PC_CAL_STARVED.count.pc pc) + (starvedVias s pc).length) (2 ^ PC_CAL_STARVED.count.width - 1) ∧
    Logged s (starved s pc) ∧ (starved s pc).on (calPending pc) = s.on (calPending pc) := by
  refine ⟨?_, (logged_wr _ _ |>.cause _ _).err _ _ _, ?_⟩
  · rw [starved, rd_err (by rfl), rd_cause (by rfl)]
    exact rd_wr_lt (lt_of_le_of_lt (Nat.min_le_right _ _) (Nat.sub_lt (Nat.two_pow_pos _) Nat.one_pos))
  · rw [State.on, State.on, calPending, calFld_pc, starved, rd_err (by rfl), rd_cause (by rfl)]
    show decide ((s.wr _ _).rd _ = 1) = _
    rw [rd_wr_apart (by rfl)]

/-! ### One step of a via (R478) -/

/-- A via has taken one step up. -/
def stepped (s : State) (pc via : Nat) : State :=
  (s.wr ((PC_CAL_LANE_EYE.drift.pc pc).ix via) (s.rd ((PC_CAL_LANE_EYE.drift.pc pc).ix via) + 1)).bump
    (PC_CAL_STEPS.count.pc pc)

/-- A drift below its greatest value moves up by one. -/
theorem ofSigned_succ {v : Nat} (h : v < 127) : ofSigned 8 (toSigned 8 v + 1) = v + 1 := by
  rw [toSigned, if_pos (by omega), ofSigned]
  omega

theorem toSigned_succ {v : Nat} (h : v < 127) : toSigned 8 (v + 1) = toSigned 8 v + 1 := by
  rw [toSigned, toSigned, if_pos (by omega), if_pos (by omega)]
  omega

theorem moveSetting_up {pc : PcNo} {via : Nat} (hvia : via < 72)
    (hdrift : s.rd ((PC_CAL_LANE_EYE.drift.pc pc).ix via) < 127) :
    (s.moveSetting pc via 1).bump (calFld PC_CAL_STEPS.count PHY_CAL_STEPS.count pc) = stepped s pc via := by
  rw [State.moveSetting, if_pos pc.isLt, if_neg (by omega), calFld_pc]
  extract_lets f
  rw [ofSigned_succ hdrift]
  rfl

theorem sets_stepped (pc via : Nat) :
    Sets [(PC_CAL_LANE_EYE.drift.pc pc).ix via, PC_CAL_STEPS.count.pc pc] s (stepped s pc via) :=
  ((Sets.refl s).wr (.head _)).wr (.tail _ (.head _))

theorem rd_stepped {pc via : Nat} (hdrift : s.rd ((PC_CAL_LANE_EYE.drift.pc pc).ix via) < 127) :
    (stepped s pc via).rd ((PC_CAL_LANE_EYE.drift.pc pc).ix via) = s.rd ((PC_CAL_LANE_EYE.drift.pc pc).ix via) + 1 ∧
      CountedUp s (stepped s pc via) (PC_CAL_STEPS.count.pc pc) := by
  refine ⟨?_, ?_⟩
  · rw [stepped, State.bump_eq, rd_wr_apart (by rfl)]
    exact rd_wr_lt (show _ < 2 ^ 8 by omega)
  · rw [CountedUp, stepped, rd_bump, rd_wr_apart (by rfl)]

theorem rdDly_stepped {pc via : Nat} (hdrift : s.rd ((PC_CAL_LANE_EYE.drift.pc pc).ix via) < 127) :
    (stepped s pc via).rdDly pc via = s.rdDly pc via + 1 := by
  obtain ⟨hrd, -⟩ := rd_stepped hdrift
  have hcal := (sets_stepped (s := s) pc via).cal pc
  rw [State.rdDly, State.rdDly, State.trainedValue, State.trainedValue, hcal, hrd, toSigned_succ hdrift, Int.add_assoc]

/-- The steps of a unit that wait. -/
def withSteps (s : State) (n : Nat) (l : List (Nat × Int)) : State := s.setCal n { s.cal n with steps := l }

theorem weighed_withSteps (n : Nat) (l : List (Nat × Int)) : (withSteps s n l).flds = s.flds ∧
    ((withSteps s n l).cal n).trained = (s.cal n).trained ∧ ((withSteps s n l).cal n).steps = l ∧
    KeepsData s (withSteps s n l) := by
  refine ⟨rfl, ?_, ?_, keepsData_setCal _ _⟩
  · rw [withSteps, State.cal_setCal]
  · rw [withSteps, State.cal_setCal]

theorem calStep_steps {unit : Fin 69} {pc : PcNo} {index : Fin 97} {target : Int} (hunit : unit.val = pc.val)
    (hmode : s.calMode pc = 2) (hindex : index.val < 72) (hsteps : (s.cal pc).steps = [(index.val, target)])
    (hdly : s.rdDly pc index < target) (hdrift : s.rd ((PC_CAL_LANE_EYE.drift.pc pc).ix index) < 127) :
    exec (.calStep unit index) s = .next (if s.rdDly pc index + 1 = target then
        (withSteps (stepped s pc index) pc []).endRun pc
      else withSteps (stepped s pc index) pc [(index.val, target)]) := by
  have hsetting : ∀ v : State, v.setting pc index = v.rdDly pc index := fun v => by
    rw [State.setting, if_pos pc.isLt, if_neg (by omega)]
  have hcal := (sets_stepped (s := s) pc index).cal pc
  show Machine.execCalStep unit index s = _
  unfold Machine.execCalStep
  rw [hunit, if_neg (not_not.2 hmode)]
  extract_lets mine
  have hmine : mine (index.val, target) = true := by
    show (if pc.val < 64 then decide (index.val = index.val) else _) = true
    rw [if_pos pc.isLt]
    exact decide_eq_true rfl
  rw [hsteps, List.find?_cons_of_pos hmine]
  split
  next hnone => cases hnone
  next n target' hsome =>
    obtain ⟨rfl, rfl⟩ := Prod.mk.inj (Option.some.inj hsome)
    extract_lets d v left _ w
    have hd : d = 1 := if_pos (by rw [hsetting]; exact hdly)
    have hv : v = stepped s pc index := by
      unfold v
      rw [hd, moveSetting_up hindex hdrift]
    have hleft : left = if s.rdDly pc index + 1 = target then [] else [(index.val, target)] := by
      unfold left
      rw [hv, hcal, hsteps, hsetting, rdDly_stepped hdrift]
      by_cases h : s.rdDly pc index + 1 = target <;> simp [h]
    have hw : w = withSteps (stepped s pc index) pc left := by
      rw [← hv]
      rfl
    rw [hw, hleft]
    by_cases h : s.rdDly pc index + 1 = target
    · rw [if_pos h, if_pos h, if_pos rfl]
    · rw [if_neg h, if_neg h, if_neg (List.cons_ne_nil _ _)]

/-- Settles O49. -/
theorem calibrationRuns : Obligations.CalibrationRuns := by
  unfold Obligations.CalibrationRuns
  refine ⟨fun who pc s htakes hidle => ?_, fun who pc s htakes hmode hpending => ?_,
    fun who group s htakes hidle => ?_, fun who group s htakes hmode hpending => ?_,
    fun unit s hphase hidle => ?_, fun unit vref s hcollecting hvref => ?_,
    fun unit pc r s hunit hcollecting hvref hcomplete hindex herased => ?_, fun pc s hmode => ?_,
    fun pc vref s hcollecting hvref => ?_,
    fun unit pc index target s hunit hmode hindex hsteps hdly hdrift => ?_⟩
  · obtain ⟨-, -, hen⟩ := calIdle_iff.1 hidle
    obtain ⟨hmode, hstart, hderive⟩ := beginRun_begins (command := true) hen
    have hcal := calFollowed_beginRun (s := s) pc true
    rw [calFields_pc] at hcal
    exact ⟨_, calRun_begins htakes hidle, hmode, hstart, hderive, hcal.regs, hcal.frame⟩
  · obtain ⟨hstopped, hnone, hcal⟩ := stopRun_stops (s := s) pc.val
    rw [calFld_pc] at hcal
    refine ⟨_, calAbort_stops htakes hmode ?_, hstopped, hnone, hcal.regs, hcal.frame⟩
    rw [calPending, calFld_pc]
    exact hpending
  · obtain ⟨-, -, hen⟩ := calIdle_iff.1 hidle
    obtain ⟨hmode, -⟩ := beginRun_begins (command := true) hen
    have hcal := calFollowed_beginRun (s := s) (64 + group.val) true
    rw [calFields_port] at hcal
    exact ⟨_, phyCalRun_begins htakes hidle, hmode, hcal.regs, hcal.frame⟩
  · obtain ⟨hstopped, hnone, hcal⟩ := stopRun_stops (s := s) (64 + group.val)
    rw [calFld_port] at hcal
    refine ⟨_, phyCalAbort_stops htakes hmode ?_, hstopped, hnone, hcal.regs, hcal.frame⟩
    rw [calPending, calFld_port]
    exact hpending
  · obtain ⟨-, -, hen⟩ := calIdle_iff.1 hidle
    obtain ⟨hmode, -⟩ := beginRun_begins (s := s.advanceTo (periodAt s unit)) (command := false)
      ((on_advanceTo _ _).trans hen)
    have hcal := calFollowed_beginRun (s := s.advanceTo (periodAt s unit)) unit.val false
    refine ⟨_, calPeriodExpiry_begins hphase hidle, hmode, ?_, frame_cals_advanceTo hcal⟩
    rw [hcal.now, now_advanceTo, periodAt, psS_eq]
  · obtain ⟨hmode, hsteps, hpending⟩ := collecting_iff.1 hcollecting
    have hweighed := weighed_collected hvref
    have hended := runEnded_applyRun hweighed hsteps hpending
    exact ⟨_, calCollectionComplete_applies hmode, hended.mode, hended.countedFrom hweighed,
      keepsData_trans hweighed.keepsData hended.keepsData⟩
  · obtain ⟨hmode, hsteps, hpending⟩ := collecting_iff.1 hcollecting
    obtain ⟨v, hv, hrejected, hpending'⟩ := judgePc_rejected hcomplete hindex herased hsteps hpending hvref
    have hended : RunEnded pc v (v.applyRun pc) := by
      rw [applyRun_ends hrejected.steps]
      exact runEnded_endRun hpending'
    refine ⟨v.applyRun pc, ?_, ?_, ?_, ?_, keepsData_trans hrejected.data hended.keepsData⟩
    · rw [calCollectionComplete_applies (hunit ▸ hmode), hunit, if_pos pc.isLt, hv]
    · rw [hended.rd (by rfl) (by rw [calFld_pc]; rfl), hrejected.last]
    · rw [rdDly_of_cal (by rw [hended.cal]) (hended.rd (by rfl) (by rw [calFld_pc]; rfl)), hrejected.dly]
    · rw [CountedUp, hended.rd (by rfl) (by rw [calFld_pc]; rfl)]
      exact hrejected.counted
  · obtain ⟨hprobing, hprobed, hcal⟩ := probing_probes (s := s.advanceTo ((s.cal pc).startAt + 100 * psMs)) pc.val
    rw [calFld_pc] at hcal
    refine ⟨_, calProbeTimeout_probes hmode, hprobing, hprobed, ?_, sameRegs_of_advanceTo hcal.regs,
      frame_cals_advanceTo hcal⟩
    rw [hcal.now, now_advanceTo, hundred_psMs]
  · obtain ⟨hmode, hsteps, hpending⟩ := collecting_iff.1 hcollecting
    have hstart : KeepsData s (s.advanceTo ((s.cal pc).startAt + 1000 * psMs)) := keepsData_advanceTo _
    obtain ⟨hcount, hlogged, hon⟩ := starved_counts (s := s.advanceTo ((s.cal pc).startAt + 1000 * psMs)) pc
    have hcal := (cal_of_logged hlogged pc).trans (cal_advanceTo _ _)
    have hvref' : (vref : Int) = (starved (s.advanceTo ((s.cal pc).startAt + 1000 * psMs)) pc).rdVref pc :=
      hvref.trans (rdVref_of_cal (by rw [hcal]) (by rw [hcal])).symm
    have hweighed := weighed_judgePc hvref'
    have hended := runEnded_applyRun hweighed (by rw [hcal]; exact hsteps) (hon.trans ((on_advanceTo _ _).trans hpending))
    refine ⟨_, calRunTimeout_ends hmode, hended.mode, ?_, ?_,
      keepsData_trans hstart (keepsData_trans hlogged.keepsData (keepsData_trans hweighed.keepsData hended.keepsData))⟩
    · rw [hended.now, hweighed.now, now_of_logged hlogged, now_advanceTo, thousand_psMs]
    · rw [hended.rd (by rfl) (by rw [calFld_pc]; rfl), hweighed.rd, hcount, rd_advanceTo, starvedVias_advanceTo,
        starvedVias]
  · obtain ⟨hrd, hcount⟩ := rd_stepped hdrift
    have hdly' := rdDly_stepped hdrift
    have hstep := sets_stepped (s := s) pc.val index.val
    have hexec := calStep_steps hunit hmode hindex hsteps hdly hdrift
    by_cases htarget : s.rdDly pc index + 1 = target
    · obtain ⟨hflds, htrained, -, hdata⟩ := weighed_withSteps (s := stepped s pc index) pc []
      have hsame := calSame_endRun (s := withSteps (stepped s pc index) pc []) pc
      rw [if_pos htarget] at hexec
      refine ⟨_, hexec, ?_, ?_, fun h => absurd htarget.symm h,
        keepsData_trans hstep.keepsData (keepsData_trans hdata hsame.data)⟩
      · rw [rdDly_of_cal hsame.trained (hsame.writes.rd), rdDly_of_cal htrained (rd_of_flds hflds _), hdly']
      · rw [CountedUp, hsame.writes.rd, rd_of_flds hflds]
        exact hcount
    · obtain ⟨hflds, htrained, hwaits, hdata⟩ := weighed_withSteps (s := stepped s pc index) pc [(index.val, target)]
      rw [if_neg htarget] at hexec
      refine ⟨_, hexec, ?_, ?_, fun _ => ⟨?_, hwaits⟩, keepsData_trans hstep.keepsData hdata⟩
      · rw [rdDly_of_cal htrained (rd_of_flds hflds _), hdly']
      · rw [CountedUp, rd_of_flds hflds]
        exact hcount
      · rw [calMode_eq, rd_of_flds hflds, hstep.rd (clear_calFld (by rfl) (by rfl))]
        exact hmode

end Sys2Proof.Proofs

/-! # Sensors, throttle levels, limits and the power cap (R485 to R501) -/

namespace Sys2Proof.Proofs

open Sys2Proof Sys2Proof.Machine Sys2Proof.Laws

variable {s t u : State}

/-! ## What the judgement of samples keeps -/

/-- Readings, memory, the keys, the life of the device and the time stand. -/
structure Sampled (s t : State) : Prop where
  lines : t.lines = s.lines
  crypto : t.crypto = s.crypto
  sys : t.sys = s.sys
  now : t.now = s.now
  value : ∀ n, (t.sensor n).value = (s.sensor n).value
  temp : ∀ n, t.rd (THERM_SENS_VAL.temp.ix n) = s.rd (THERM_SENS_VAL.temp.ix n)

/-- A list of fields that stands apart from the readings of every sensor. -/
def offReadings (l : List Fld) : Prop := ∀ n : Nat, clear l (THERM_SENS_VAL.temp.ix n) = true

theorem Sampled.refl (s : State) : Sampled s s := ⟨rfl, rfl, rfl, rfl, fun _ => rfl, fun _ => rfl⟩

theorem Sampled.trans (h : Sampled s t) (k : Sampled t u) : Sampled s u :=
  ⟨k.lines.trans h.lines, k.crypto.trans h.crypto, k.sys.trans h.sys, k.now.trans h.now,
    fun n => (k.value n).trans (h.value n), fun n => (k.temp n).trans (h.temp n)⟩

theorem Sampled.ite {c : Prop} [Decidable c] {a b : State} (ha : Sampled s a) (hb : Sampled s b) :
    Sampled s (if c then a else b) := by
  split
  · exact ha
  · exact hb

theorem Sampled.forAll {α : Type} {f : State → α → State} {as : List α} (h : Sampled s t)
    (hf : ∀ u a, Sampled s u → Sampled s (f u a)) : Sampled s (t.forAll as f) :=
  List.foldlRecOn (motive := Sampled s) as f h fun u hu a _ => hf u a hu

theorem sampled_of_gauged {l : List Fld} (h : Gauged t u) (hw : Writes l t u) (hl : offReadings l) : Sampled t u := by
  obtain ⟨hlines, hcrypto, -, hsys⟩ := h.keepsData
  refine ⟨hlines, hcrypto, hsys, h.now, fun n => ?_, fun n => hw.rd (hl n)⟩
  rw [State.sensor, h.frame]
  rfl

theorem sampled_of_logged {l : List Fld} (h : Logged t u) (hw : Writes l t u) (hl : offReadings l) : Sampled t u :=
  sampled_of_gauged ((Gauged.refl t).logged h) hw hl

theorem Sampled.wr {f : Fld} {v : Nat} (h : Sampled s t) (hf : offReadings [f] := by exact fun _ => rfl) :
    Sampled s (t.wr f v) := h.trans (sampled_of_logged (logged_wr f v) ((Writes.refl t).wr (.head _)) hf)

theorem Sampled.cause (h : Sampled s t) (page bit : Nat) (hp : offReadings (causeFields page) := by exact fun _ => rfl) :
    Sampled s (t.cause page bit) :=
  h.trans (sampled_of_logged (logged_cause _ _) (alerted_cause page bit).writes hp)

theorem Sampled.err (h : Sampled s t) (page code addr : Nat)
    (hp : offReadings (errFields page) := by exact fun _ => rfl) : Sampled s (t.err page code addr) :=
  h.trans (sampled_of_logged (logged_err _ _ _) ((Writes.refl t).err (List.Subset.refl _)) hp)

theorem Sampled.fixGauge (h : Sampled s t) : Sampled s t.fixGauge :=
  h.trans (sampled_of_gauged gauged_fixGauge writes_fixGauge fun _ => rfl)

theorem Sampled.shortenWindow (h : Sampled s t) (layer : Nat) : Sampled s (t.shortenWindow layer) :=
  h.trans (sampled_of_gauged (gauged_shortenWindow layer) (writes_shortenWindow layer) fun _ => rfl)

theorem Sampled.setHeat (h : Sampled s t) {n : Nat} {v : LayerTherm} : Sampled s (t.setHeat n v) :=
  ⟨h.lines, h.crypto, h.sys, h.now, h.value, h.temp⟩

theorem Sampled.setLayer (h : Sampled s t) {n : Nat} {v : Layer} : Sampled s (t.setLayer n v) :=
  ⟨h.lines, h.crypto, h.sys, h.now, h.value, h.temp⟩

theorem Sampled.setSensor (h : Sampled s t) {n : Nat} {v : Sensor} (hv : v.value = (t.sensor n).value := by rfl) :
    Sampled s (t.setSensor n v) := by
  refine ⟨h.lines, h.crypto, h.sys, h.now, fun k => ?_, h.temp⟩
  by_cases hk : k = n
  · rw [hk, State.sensor_setSensor, hv, h.value]
  · rw [State.sensor_setSensor_ne _ hk, h.value]

theorem Sampled.plimit (h : Sampled s t) {f : Folio} : Sampled s { t with folio := f } :=
  ⟨h.lines, h.crypto, h.sys, h.now, h.value, h.temp⟩

theorem Sampled.pin (h : Sampled s t) {v : PinState} {o : Out} : Sampled s ({ t with pin := v }.emit o) :=
  ⟨h.lines, h.crypto, h.sys, h.now, h.value, h.temp⟩

/-! ### Levels -/

theorem Sampled.setLevel (h : Sampled s t) (l level : Nat) : Sampled s (t.setLevel l level) := by
  unfold State.setLevel
  extract_lets heat u₁ u₂ u₃ u₄ _ u₅
  have h₁ : Sampled s u₁ := h.setHeat
  have h₂ : Sampled s u₂ := h₁.wr.wr
  have h₃ : Sampled s u₃ := .ite h₂.wr h₂.wr
  have h₄ : Sampled s u₄ := .ite (h₃.cause _ _) h₃
  have h₅ : Sampled s u₅ := h₄.setLayer
  exact .ite h h₅.fixGauge

theorem Sampled.keepFloors (h : Sampled s t) : Sampled s t.keepFloors := h.forAll fun _ _ k => k.setLevel _ _

theorem Sampled.setDieLevel (h : Sampled s t) (d level : Nat) : Sampled s (t.setDieLevel d level) :=
  .ite (h.setLevel _ _) (.ite h (h.setHeat.wr).keepFloors)

/-! ### Fast conversion, the rate rule and the cross-check -/

theorem Sampled.goFast (h : Sampled s t) (n : Nat) : Sampled s (t.goFast n) := .ite h (h.wr.setSensor)

theorem Sampled.failSensor (h : Sampled s t) (n : Nat) : Sampled s (t.failSensor n) :=
  (((h.wr.wr).setSensor).cause 0x04 7).err 0x04 0x1104 n

theorem Sampled.rateEvent (h : Sampled s t) (n : Nat) : Sampled s (t.rateEvent n) := by
  unfold State.rateEvent
  extract_lets d u₁ _ u₂ near u₃
  have h₁ : Sampled s u₁ := (h.wr.cause 0x04 2).err 0x04 0x1101 n
  have h₂ : Sampled s u₂ := h₁.setHeat
  have h₃ : Sampled s u₃ := h₂.forAll fun _ _ k => k.goFast _
  exact .ite h (.ite (h₃.setDieLevel _ _) h₃)

theorem Sampled.becomeSuspect (h : Sampled s t) (l : Nat) : Sampled s (t.becomeSuspect l) := by
  unfold State.becomeSuspect
  extract_lets ran _ u₁ u₂ u₃
  have h₁ : Sampled s u₁ := h.setHeat
  have h₂ : Sampled s u₂ := h₁.wr.wr
  have h₃ : Sampled s u₃ := h₂.forAll fun _ _ k => k.wr
  refine .ite h ?_
  split
  next one ref _ =>
    extract_lets u₄ u₅ u₆
    have h₄ : Sampled s u₄ := h₃.wr.wr
    have h₅ : Sampled s u₅ := (h₄.wr.cause 0x04 3).err 0x04 0x1102 _
    have h₆ : Sampled s u₆ := .ite (h₅.err 0x04 0x1103 0) h₅
    exact (h₆.forAll fun _ _ k => k.shortenWindow _).keepFloors

theorem Sampled.crossCheck (h : Sampled s t) (l : Nat) (fast : Bool) : Sampled s (t.crossCheck l fast) := by
  unfold State.crossCheck
  extract_lets heat near u₁ agrees u₂
  have h₁ : Sampled s u₁ := .ite (h.forAll fun _ _ k => k.goFast _) h
  have h₂ : Sampled s u₂ := h₁.setHeat
  exact .ite h₁.setHeat (.ite h₁ (.ite (.ite (h₂.becomeSuspect l) h₂) h₁.setHeat))

/-! ### A sample of a die -/

theorem Sampled.rollCounts (h : Sampled s t) (l : Nat) : Sampled s (t.rollCounts l) := .ite h h.setHeat

theorem Sampled.judgeLimits (h : Sampled s t) (d : Nat) : Sampled s (t.judgeLimits d) := by
  unfold State.judgeLimits
  extract_lets temp heat crit heat' u₁ u₂
  have h₁ : Sampled s u₁ := h.setHeat
  have h₂ : Sampled s u₂ := .ite h₁.wr h₁
  exact .ite ((h₂.cause 0x04 4).err 0x04 0x1105 _) h₂

theorem Sampled.judgePersist (h : Sampled s t) : Sampled s t.judgePersist := by
  unfold State.judgePersist
  extract_lets p0 p1
  exact .ite (((h.plimit.cause 0x04 8).cause 0x04 4).err 0x04 0x1108 0) (.ite h.plimit h)

theorem Sampled.showLayer (h : Sampled s t) (l : Nat) : Sampled s (t.showLayer l) := by
  unfold State.showLayer
  extract_lets heat tj u₁ u₂
  have h₂ : Sampled s u₂ := h.wr.wr.wr
  exact .ite h₂ (h₂.forAll fun _ _ k => k.wr)

theorem Sampled.calEvent (h : Sampled s t) (n : Nat) (command : Bool) : Sampled s (t.calEvent n command) := by
  have hcal : ∀ {u : State} {v : CalState}, Sampled s u → Sampled s (u.setCal n v) := fun k =>
    ⟨k.lines, k.crypto, k.sys, k.now, k.value, k.temp⟩
  have hpending : offReadings [calPending n] := fun k => by
    unfold calPending calFld
    split <;> rfl
  have hstate : offReadings [calFld PC_CAL_STAT.state PHY_CAL_STAT.state n] := fun k => by
    unfold calFld
    split <;> rfl
  exact .ite h (.ite ((hcal h).wr hpending) (.ite h (hcal ((h.wr hpending).wr hstate))))

theorem Sampled.calDrift (h : Sampled s t) (n : Nat) : Sampled s (t.calDrift n) := .ite (h.calEvent n false) h

theorem Sampled.sampleLayer (h : Sampled s t) (l : Nat) (fast : Bool) : Sampled s (t.sampleLayer l fast) := by
  unfold State.sampleLayer
  extract_lets u₁ u₂ u₃
  have h₁ : Sampled s u₁ := (h.rollCounts l).crossCheck l fast
  have h₂ : Sampled s u₂ := .ite (h₁.becomeSuspect l) h₁
  have hspan : Sampled s ((u₂.showLayer l).spanLayer l) := (h₂.showLayer l).setLayer
  have h₃ : Sampled s u₃ := (hspan.shortenWindow l).judgeLimits l
  exact h₃.forAll fun _ _ k => k.calDrift _

theorem Sampled.readDie (h : Sampled s t) (d : Nat) : Sampled s (t.readDie d) := by
  unfold State.readDie
  split
  · exact h.setHeat
  · exact h

theorem Sampled.fixAlert (h : Sampled s t) : Sampled s t.fixAlert := .ite h h.pin

/-- Judging dies keeps the readings on which it judges. -/
theorem sampled_judgeDies (dies : List Nat) (fast : Bool) : Sampled s (s.judgeDies dies fast) := by
  unfold State.judgeDies
  extract_lets u₁ u₂ u₃ u₄ u₅
  have h₁ : Sampled s u₁ := ((Sampled.refl s).forAll fun _ _ k => k.readDie _).forAll fun _ _ k => k.setHeat
  have h₂ : Sampled s u₂ := h₁.forAll fun _ _ k => .ite (k.sampleLayer _ fast) (k.judgeLimits _)
  have h₄ : Sampled s u₄ := h₂.wr.wr.wr.wr
  have h₅ : Sampled s u₅ := .ite (h₄.forAll fun _ _ k => k.calDrift _) h₄
  exact h₅.judgePersist.keepFloors.fixAlert

theorem Sampled.judgeAgreement (h : Sampled s t) (n : Nat) (bad : Bool) : Sampled s (t.judgeAgreement n bad) := by
  unfold State.judgeAgreement
  extract_lets k _ u₁
  have h₁ : Sampled s u₁ := h.setSensor
  exact .ite h (.ite (h₁.failSensor n) h₁)

theorem Sampled.bandOf (h : Sampled s t) (n : Nat) : Sampled s (t.bandOf n) := by
  unfold State.bandOf
  split
  · exact .ite (h.goFast n) h
  · exact h

/-! ## Readings (R485 to R487) -/

theorem ofSigned_lt (v : Int) : ofSigned 12 v < 4096 := by
  rw [ofSigned]
  omega

/-- The reading of a sensor and its register. -/
def readingTaken (s : State) (n : Nat) (v : Int) : State :=
  (s.setSensor n { s.sensor n with value := some v, readAt := s.now }).wr (THERM_SENS_VAL.temp.ix n) (ofSigned 12 v)

theorem readingTaken_takes (n : Nat) (v : Int) : ((readingTaken s n v).sensor n).value = some v ∧
    (readingTaken s n v).rd (THERM_SENS_VAL.temp.ix n) = ofSigned 12 v ∧ (readingTaken s n v).lines = s.lines ∧
    (readingTaken s n v).crypto = s.crypto ∧ (readingTaken s n v).sys = s.sys ∧ (readingTaken s n v).now = s.now := by
  refine ⟨?_, rd_wr_lt (ofSigned_lt v), rfl, rfl, rfl, rfl⟩
  rw [readingTaken, State.wr_sensor, State.sensor_setSensor]

theorem sampled_takeReading (n : Nat) (v : Int) : Sampled (readingTaken s n v) (s.takeReading n v) := by
  have h := Sampled.refl (readingTaken s n v)
  exact .ite h.wr h

/-- A reading stands, and memory, the keys, the life of the device and the time do. -/
structure ReadingStands (n : Nat) (v : Int) (s t : State) : Prop where
  value : (t.sensor n).value = some v
  temp : t.rd (THERM_SENS_VAL.temp.ix n) = ofSigned 12 v
  lines : t.lines = s.lines
  crypto : t.crypto = s.crypto
  sys : t.sys = s.sys
  now : t.now = s.now

theorem readingStands_takeReading (n : Nat) (v : Int) : ReadingStands n v s (s.takeReading n v) := by
  obtain ⟨hvalue, htemp, hlines, hcrypto, hsys, hnow⟩ := readingTaken_takes (s := s) n v
  have h := sampled_takeReading (s := s) n v
  exact ⟨(h.value n).trans hvalue, (h.temp n).trans htemp, h.lines.trans hlines, h.crypto.trans hcrypto,
    h.sys.trans hsys, h.now.trans hnow⟩

theorem ReadingStands.sampled {n : Nat} {v : Int} (h : ReadingStands n v s t) (k : Sampled t u) : ReadingStands n v s u :=
  ⟨(k.value n).trans h.value, (k.temp n).trans h.temp, k.lines.trans h.lines, k.crypto.trans h.crypto,
    k.sys.trans h.sys, k.now.trans h.now⟩

theorem offsetReading_none {r : SensorReading} (h : s.injectedArg 7 r.sensor = none) : s.offsetReading r = r := by
  rw [State.offsetReading, h]

theorem plausible_some {v : Int} (hlo : -320 ≤ v) (hhi : v ≤ 1200) : plausible (some v) = true :=
  decide_eq_true ⟨hlo, hhi⟩

/-- A plausible reading of a sensor in use stands after its slow round. -/
theorem readingStands_slowReading {n : SensorNo} {v : Int} (hlo : -320 ≤ v) (hhi : v ≤ 1200)
    (hworks : s.isFailed n = false) : ReadingStands n v s (s.slowReading { sensor := n, value := some v }) := by
  unfold State.slowReading
  extract_lets k e
  have hk : s.isFailed k = false := hworks
  rw [plausible_some hlo hhi]
  show ReadingStands n v s (if s.isFailed k = true then _ else _)
  rw [hk, if_neg (by decide)]
  extract_lets u₁ _ u₂
  have h₁ : ReadingStands n v s u₁ := readingStands_takeReading n v
  have h₂ : ReadingStands n v s u₂ := h₁.sampled (Sampled.refl u₁).setSensor
  split
  · exact h₂.sampled (.ite ((Sampled.refl u₂).rateEvent k) (.refl u₂))
  · exact h₂

/-- The bank notes when the sensors have been read. -/
def senseNoted (s : State) : State := { s with bank := { s.bank with senseAt := some s.now } }

/-- What a round of readings starts from stands as it was. -/
structure StartsFrom (n : Nat) (s t : State) : Prop where
  lines : t.lines = s.lines
  crypto : t.crypto = s.crypto
  sys : t.sys = s.sys
  failed : t.isFailed n = s.isFailed n
  injected : t.injectedArg 7 n = s.injectedArg 7 n

theorem StartsFrom.senseNoted {n : Nat} (h : StartsFrom n s t) : StartsFrom n s (senseNoted t) :=
  ⟨h.lines, h.crypto, h.sys, h.failed, h.injected⟩

theorem startsFrom_advanceTo (n k : Nat) : StartsFrom n s (s.advanceTo k) := ⟨rfl, rfl, rfl, rfl, rfl⟩

theorem now_senseNoted : (senseNoted s).now = s.now := rfl

/-- The time at a slow round. -/
def roundTime (s : State) : State :=
  match s.bank.senseAt with
  | some t => s.advanceTo (t + 10 * psMs)
  | none => s

theorem startsFrom_roundTime (n : Nat) : StartsFrom n s (roundTime s) := by
  unfold roundTime
  split
  · exact startsFrom_advanceTo n _
  · exact ⟨rfl, rfl, rfl, rfl, rfl⟩

theorem ten_psMs : 10 * psMs = 10000000000 := rfl

theorem now_roundTime {at_ : Nat} (h : s.bank.senseAt = some at_) : (roundTime s).now = max s.now (at_ + 10000000000) := by
  rw [roundTime, h, ← ten_psMs]
  exact now_advanceTo _

theorem sensorSlowRound_reads {sensor : SensorNo} {v : Int} (hsenses : s.senses = true)
    (hworks : s.isFailed sensor = false) (hlo : -320 ≤ v) (hhi : v ≤ 1200)
    (hinjected : s.injectedArg 7 sensor = none) :
    ∃ t, exec (.sensorSlowRound [{ sensor := sensor, value := some v }]) s = .next t ∧
      ReadingStands sensor v (senseNoted (roundTime s)) t := by
  have hstart := (startsFrom_roundTime (s := s) sensor).senseNoted
  have hread := readingStands_slowReading hlo hhi (hstart.failed.trans hworks)
  obtain ⟨r, hr⟩ : ∃ r, Machine.execSensorSlowRound [{ sensor := sensor, value := some v }] s = r := ⟨_, rfl⟩
  have hexec : exec (.sensorSlowRound [{ sensor := sensor, value := some v }]) s = r := hr
  rw [Machine.execSensorSlowRound, if_neg (by rw [hsenses]; decide)] at hr
  extract_lets u₁ _ u₂ u₃ read bad u₄ u₅ at hr
  have h₂ : u₂ = senseNoted (roundTime s) := rfl
  have h₃ : u₃ = (senseNoted (roundTime s)).slowReading { sensor := sensor, value := some v } := by
    show u₂.slowReading (u₂.offsetReading { sensor := sensor, value := some v }) = _
    rw [h₂, offsetReading_none (hstart.injected.trans hinjected)]
  have h₄ : Sampled u₃ u₄ := (Sampled.refl u₃).forAll fun _ _ k => k.judgeAgreement _ _
  have h₅ : Sampled u₃ u₅ := h₄.forAll fun _ _ k => k.bandOf _
  rw [← h₃] at hread
  exact ⟨_, hexec.trans hr.symm, (hread.sampled h₅).sampled (sampled_judgeDies _ _)⟩

/-- A fast sample stands. -/
theorem sensorFastSample_reads {sensor : SensorNo} {v : Int} (hsenses : s.senses = true)
    (hfast : s.isFast sensor = true) (hlo : -320 ≤ v) (hhi : v ≤ 1200) (hinjected : s.injectedArg 7 sensor = none) :
    ∃ t, exec (.sensorFastSample { sensor := sensor, value := some v }) s = .next t ∧
      ReadingStands sensor v (s.advanceTo ((s.sensor sensor).readAt + 50 * psUs)) t := by
  obtain ⟨r, hr⟩ : ∃ r, Machine.execSensorFastSample { sensor := sensor, value := some v } s = r := ⟨_, rfl⟩
  have hexec : exec (.sensorFastSample { sensor := sensor, value := some v }) s = r := hr
  unfold Machine.execSensorFastSample at hr
  extract_lets n u value at hr
  have hgo : ¬((!s.senses || !s.isFast n) = true) := by
    have : s.isFast n = true := hfast
    rw [hsenses, this]
    decide
  have hvalue : value = some v := by
    unfold value
    rw [offsetReading_none ((startsFrom_advanceTo (s := s) sensor _).injected.trans hinjected)]
  rw [if_neg hgo, hvalue, plausible_some hlo hhi] at hr
  split at hr
  next w _ hw =>
    obtain rfl : v = w := Option.some.inj hw
    extract_lets u₁ e old near out u₂ u₃ u₄ at hr
    have h₁ : ReadingStands sensor v u u₁ := readingStands_takeReading n v
    have h₂ : Sampled u₁ u₂ := (Sampled.refl u₁).setSensor
    have h₃ : Sampled u₁ u₃ := .ite h₂.wr h₂
    have h₄ : Sampled u₁ u₄ := .ite (h₃.rateEvent n) h₃
    exact ⟨_, hexec.trans hr.symm, (h₁.sampled h₄).sampled (sampled_judgeDies _ _)⟩
  next hno => exact absurd rfl (hno v rfl)

theorem bandComparatorTrip_speeds {sensor : SensorNo} (hsenses : s.senses = true) (hslow : s.isFast sensor = false)
    (hworks : s.isFailed sensor = false) : exec (.bandComparatorTrip sensor) s =
      .next ((s.put (THERM_SENS_VAL.fast.ix sensor)).setSensor sensor
        { s.sensor sensor with outRun := 0, readAt := s.now, hist := [] }) := by
  show Machine.execBandComparatorTrip sensor s = _
  rw [Machine.execBandComparatorTrip, if_pos hsenses, State.goFast, hslow, hworks, if_neg (by decide)]

theorem setSensor_keeps (n : Nat) (v : Sensor) : (s.setSensor n v).flds = s.flds ∧
    s.setSensor n v = { s with sensors := (s.setSensor n v).sensors } := ⟨rfl, rfl⟩

/-! ## Throttle levels (R488, R489, R494) -/

/-- The fields that a level writes. -/
def levelRegs (l : Nat) : List Fld :=
  [THERM_LAYER_STAT.level.ix l, THERM_EVENTS.count, THERM_THROTTLE_MAP.layers] ++ (causeFields 0x04 ++ gaugeFields)

/-- A layer has been given a level. -/
structure Levelled (l level : Nat) (s t : State) : Prop where
  data : KeepsData s t
  now : t.now = s.now
  other : ∀ d, d ≠ l → t.heat d = s.heat d
  writes : Writes (levelRegs l) s t

/-- A layer takes its level. -/
structure TookLevel (l level : Nat) (t : State) : Prop where
  taken : (t.heat l).level = level
  shown : level < 8 → t.rd (THERM_LAYER_STAT.level.ix l) = level

theorem heat_of_logged (h : Logged s t) (n : Nat) : t.heat n = s.heat n := by
  rw [State.heat, h.frame]
  rfl

theorem heat_of_gauged (h : Gauged s t) (n : Nat) : t.heat n = s.heat n := by
  rw [State.heat, h.frame]
  rfl

theorem setHeat_keeps (n : Nat) (v : LayerTherm) : KeepsData s (s.setHeat n v) ∧ (s.setHeat n v).now = s.now ∧
    (s.setHeat n v).flds = s.flds := ⟨⟨rfl, rfl, rfl, rfl⟩, rfl, rfl⟩

theorem setLayer_keeps (n : Nat) (v : Layer) : KeepsData s (s.setLayer n v) ∧ (s.setLayer n v).now = s.now ∧
    (s.setLayer n v).flds = s.flds ∧ ∀ d, (s.setLayer n v).heat d = s.heat d :=
  ⟨⟨rfl, rfl, rfl, rfl⟩, rfl, rfl, fun _ => rfl⟩

/-- The level of a layer and what follows it, before the Gauge does. -/
def levelGiven (s : State) (l level : Nat) : State :=
  let h := s.heat l
  let s := s.setHeat l { h with
    level := level, highAt := h.highAt.map fun _ => s.now, lowAt := h.lowAt.map fun _ => s.now }
  let s := (s.wr (THERM_LAYER_STAT.level.ix l) level).bump THERM_EVENTS.count
  let s := if level = 0 then s.clrBit THERM_THROTTLE_MAP.layers l else s.setBit THERM_THROTTLE_MAP.layers l
  let s := if h.level = 0 ∨ level = 0 then s.cause 0x04 1 else s
  s.setLayer l { s.layer l with wanted := levelDivider level }

theorem levelGiven_gives (l level : Nat) :
    Levelled l level s (levelGiven s l level) ∧ TookLevel l level (levelGiven s l level) := by
  have hown : ∀ f ∈ [THERM_LAYER_STAT.level.ix l, THERM_EVENTS.count, THERM_THROTTLE_MAP.layers], f ∈ levelRegs l :=
    fun f hf => List.mem_append_left _ hf
  have hcauses : causeFields 0x04 ⊆ levelRegs l :=
    List.subset_append_of_subset_right _ (List.subset_append_left _ _)
  unfold levelGiven
  extract_lets h u₁ u₂ u₃ u₄
  have hheat : u₁.heat l = { h with level := level, highAt := h.highAt.map fun _ => s.now, lowAt := h.lowAt.map fun _ => s.now } :=
    State.heat_setHeat _ _ _
  have hother : ∀ d, d ≠ l → u₁.heat d = s.heat d := fun d hd => State.heat_setHeat_ne _ hd _
  obtain ⟨hdata, hnow, hflds⟩ : KeepsData s u₁ ∧ u₁.now = s.now ∧ u₁.flds = s.flds := setHeat_keeps _ _
  have hw₁ : Writes (levelRegs l) s u₁ := (Writes.refl s).flds hflds
  have hl₂ : Logged u₁ u₂ := (logged_wr _ _).wr _ _
  have hw₂ : Writes (levelRegs l) s u₂ := (hw₁.wr (hown _ (by simp))).wr (hown _ (by simp))
  have hl₃ : Logged u₁ u₃ := .ite (hl₂.wr _ _) (hl₂.wr _ _)
  have hw₃ : Writes [THERM_THROTTLE_MAP.layers] u₂ u₃ :=
    .ite ((Writes.refl u₂).wr (.head _)) ((Writes.refl u₂).wr (.head _))
  have hl₄ : Logged u₁ u₄ := .ite (hl₃.cause _ _) hl₃
  have hw₄ : Writes (THERM_THROTTLE_MAP.layers :: causeFields 0x04) u₂ u₄ :=
    have h3 := hw₃.mono (List.cons_subset_cons (l₂ := causeFields 0x04) _ (List.nil_subset _))
    .ite (h3.cause (List.subset_cons_self _ _)) h3
  have hshown : level < 8 → u₂.rd (THERM_LAYER_STAT.level.ix l) = level := fun hlt => by
    show ((u₁.wr _ level).bump _).rd _ = _
    rw [State.bump_eq, rd_wr_apart (by rfl)]
    exact rd_wr_lt hlt
  obtain ⟨hd5, hn5, hf5, hh5⟩ := setLayer_keeps (s := u₄) l { u₄.layer l with wanted := levelDivider level }
  refine ⟨⟨keepsData_trans hdata (keepsData_trans hl₄.keepsData hd5), hn5.trans ((now_of_logged hl₄).trans hnow),
    fun d hd => (hh5 d).trans ((heat_of_logged hl₄ d).trans (hother d hd)), ?_⟩, ?_, fun hlt => ?_⟩
  · exact (hw₂.trans (hw₄.mono (List.cons_subset.2 ⟨hown _ (by simp), hcauses⟩))).flds hf5
  · rw [hh5, heat_of_logged hl₄, hheat]
  · rw [rd_of_flds hf5, hw₄.rd, hshown hlt]

theorem setLevel_eq {l level : Nat} (hne : (s.heat l).level ≠ level) (hpresent : s.pcPresent (l * 4) = true) :
    s.setLevel l level = (levelGiven s l level).fixGauge := by
  exact if_neg (not_or.2 ⟨hne, by rw [hpresent]; decide⟩)

/-- A layer that is given another level takes it. -/
theorem levelled_setLevel (l level : Nat) : Levelled l level s (s.setLevel l level) := by
  by_cases hstay : (s.heat l).level = level ∨ (!s.pcPresent (l * 4)) = true
  · have h : s.setLevel l level = s := if_pos hstay
    rw [h]
    exact ⟨⟨rfl, rfl, rfl, rfl⟩, rfl, fun _ _ => rfl, .refl s⟩
  · obtain ⟨hne, hpresent⟩ := not_or.1 hstay
    obtain ⟨h, -⟩ := levelGiven_gives (s := s) l level
    have hg := gauged_fixGauge (s := levelGiven s l level)
    rw [setLevel_eq hne (by simpa using hpresent)]
    exact ⟨keepsData_trans h.data hg.keepsData, hg.now.trans h.now,
      fun d hd => (heat_of_gauged hg d).trans (h.other d hd),
      h.writes.trans (writes_fixGauge.mono (List.subset_append_of_subset_right _ (List.subset_append_right _ _)))⟩

theorem tookLevel_setLevel {l level : Nat} (hne : (s.heat l).level ≠ level) (hpresent : s.pcPresent (l * 4) = true) :
    TookLevel l level (s.setLevel l level) := by
  obtain ⟨-, h⟩ := levelGiven_gives (s := s) l level
  rw [setLevel_eq hne hpresent]
  exact ⟨(congrArg LayerTherm.level (heat_of_gauged gauged_fixGauge l)).trans h.taken,
    fun hlt => writes_fixGauge.rd.trans (h.shown hlt)⟩

/-- Layers rise to their floors, and the logic die keeps its level. -/
structure FloorsKept (s t : State) : Prop where
  data : KeepsData s t
  now : t.now = s.now
  logic : t.heat 16 = s.heat 16
  shown : t.rd THERM_THROTTLE_MAP.logic_level = s.rd THERM_THROTTLE_MAP.logic_level

theorem floorsKept_keepFloors : FloorsKept s s.keepFloors := by
  refine List.foldlRecOn (motive := FloorsKept s) _ _ ⟨⟨rfl, rfl, rfl, rfl⟩, rfl, rfl, rfl⟩ fun u hu l hl => ?_
  have h := levelled_setLevel (s := u) l (max (u.heat l).level (u.levelFloor l))
  have hlt : l < 16 := List.mem_range.1 hl
  exact ⟨keepsData_trans hu.data h.data, h.now.trans hu.now, (h.other 16 (by omega)).trans hu.logic,
    h.writes.rd.trans hu.shown⟩

/-- The logic die has been given a level, and no layer has followed it yet. -/
def logicGiven (s : State) (level : Nat) : State :=
  let h := s.heat 16
  (s.setHeat 16 { h with
    level := level, highAt := h.highAt.map fun _ => s.now, lowAt := h.lowAt.map fun _ => s.now }).wr
      THERM_THROTTLE_MAP.logic_level level

/-- A die that is given another level takes it. -/
structure DieLevel (d level : Nat) (s t : State) : Prop where
  taken : (t.heat d).level = level
  layer : d < 16 → level < 8 → t.rd (THERM_LAYER_STAT.level.ix d) = level
  logic : d = 16 → level < 8 → t.rd THERM_THROTTLE_MAP.logic_level = level
  now : t.now = s.now
  data : KeepsData s t

theorem dieLevel_setDieLevel {d : Fin 17} {level : Nat} (hne : (s.heat d).level ≠ level)
    (hpresent : d.val < 16 → s.pcPresent (d.val * 4) = true) : DieLevel d level s (s.setDieLevel d level) := by
  by_cases hd : d.val < 16
  · have heq : s.setDieLevel d level = s.setLevel d level := if_pos hd
    have h := levelled_setLevel (s := s) d.val level
    have ht := tookLevel_setLevel hne (hpresent hd)
    rw [heq]
    exact ⟨ht.taken, fun _ => ht.shown, fun h16 => absurd hd (by omega), h.now, h.data⟩
  · have h16 : d.val = 16 := by omega
    rw [h16] at hne ⊢
    have heq : s.setDieLevel 16 level = (logicGiven s level).keepFloors := by
      unfold State.setDieLevel
      rw [if_neg (by decide)]
      extract_lets h u
      exact if_neg hne
    have hk := floorsKept_keepFloors (s := logicGiven s level)
    have hlogic : ((logicGiven s level).heat 16).level = level := by
      rw [logicGiven, State.wr_heat, State.heat_setHeat]
    rw [heq]
    refine ⟨(congrArg LayerTherm.level hk.logic).trans hlogic, fun h => absurd h (by decide), fun _ hlt => ?_,
      hk.now.trans rfl, keepsData_trans ⟨rfl, rfl, rfl, rfl⟩ hk.data⟩
    rw [hk.shown]
    exact rd_wr_lt hlt

theorem pcPresent_advanceTo (n pc : Nat) : (s.advanceTo n).pcPresent pc = s.pcPresent pc := rfl

theorem throttleRise_rises {die : Fin 17} {at_ : Nat} (hhigh : (s.heat die).highAt = some at_)
    (hon : s.on THERM_CTL.throttle_en = true) (hlevel : (s.heat die).level < 7) : exec (.throttleRise die) s =
      .next ((s.advanceTo (at_ + s.rd THERM_STEP.up_us * psUs)).setDieLevel die ((s.heat die).level + 1)) := by
  show Machine.execThrottleRise die s = _
  rw [Machine.execThrottleRise, hhigh]
  have hgo : ¬((!s.on THERM_CTL.throttle_en || (s.heat die).level == 7) = true) := by
    rw [hon]
    simpa using hlevel.ne
  dsimp only
  rw [if_neg hgo, heat_advanceTo]

theorem throttleFall_falls {die : Fin 17} {at_ : Nat} (hlow : (s.heat die).lowAt = some at_)
    (hfloor : (if die.val < 16 then s.levelFloor die else 0) < (s.heat die).level) : exec (.throttleFall die) s =
      .next ((s.advanceTo (at_ + s.rd THERM_STEP.down_us * psUs)).setDieLevel die ((s.heat die).level - 1)) := by
  show Machine.execThrottleFall die s = _
  rw [Machine.execThrottleFall, hlow]
  dsimp only
  rw [if_neg (Nat.not_le.2 hfloor), heat_advanceTo]

theorem psUs_eq : psUs = 1000000 := rfl

/-! ## The fatal limit (R491) -/

theorem calm_eq_of_logged (h : Logged s t) : calm t = calm s := by
  rw [h.frame]
  rfl

/-- The span at a die's fatal limit is over. -/
def fatalSeen (s : State) (d : Nat) : State := s.setHeat d { s.heat d with fatalAt := none }

/-- A die at its fatal limit, before Safe State. -/
def fatalTold (s : State) (d sensor : Nat) : State := ((fatalSeen s d).cause 0x04 4).err 0x04 0x1106 sensor

theorem fatalTemperature_enters {sensor : SensorNo} {at_ : Nat} (hfatal : (s.heat (dieOf sensor)).fatalAt = some at_)
    (hsenses : s.senses = true) : exec (.fatalTemperature sensor) s =
      .next ((fatalTold (s.advanceTo (at_ + 10 * psMs)) (dieOf sensor) sensor).enterSafe 0x04 0x1106) := by
  show Machine.execFatalTemperature sensor s = _
  unfold Machine.execFatalTemperature
  extract_lets d
  rw [hfatal]
  dsimp only
  rw [if_neg (by rw [hsenses]; decide), State.errImmediate, fatalTold, fatalSeen, heat_advanceTo]

theorem calm_advanceTo (n : Nat) : calm (s.advanceTo n) = calm s := rfl

theorem safe_advanceTo (n : Nat) : (s.advanceTo n).safe = s.safe := rfl

theorem fatalSeen_keeps (d : Nat) : (fatalSeen s d).safe = s.safe ∧ calm (fatalSeen s d) = calm s ∧
    (fatalSeen s d).now = s.now := ⟨rfl, rfl, rfl⟩

theorem fatalTold_keeps (d sensor : Nat) : (fatalTold s d sensor).safe = s.safe ∧
    calm (fatalTold s d sensor) = calm s ∧ (fatalTold s d sensor).now = s.now := by
  have hl : Logged (fatalSeen s d) (fatalTold s d sensor) := (logged_cause _ _).err _ _ _
  obtain ⟨hsafe, hcalm, hnow⟩ := fatalSeen_keeps (s := s) d
  refine ⟨?_, ?_, (now_of_logged hl).trans hnow⟩
  · rw [← hsafe, State.safe, State.on, fatalTold, rd_err (by rfl), rd_cause (by rfl), State.safe, State.on]
  · exact (calm_eq_of_logged hl).trans hcalm

theorem now_owesBind : (owesBind s).now = s.now := rfl

theorem now_safeBound : (safeBound s).now = s.now := by
  unfold safeBound
  split
  · exact now_owesBind.trans (now_of_logged (logged_wr _ _))
  · rfl

theorem now_enterSafe {page code : Nat} (hsafe : s.safe = false) (hcalm : calm s = true) :
    (s.enterSafe page code).now = s.now := by
  rw [enterSafe_eq hsafe hcalm, now_of_logged (logged_cause _ _), State.put_eq, now_of_logged (logged_wr _ _),
    now_safeBound, safeStopped, State.clr_eq, now_of_logged (logged_wr _ _), now_of_logged logged_ringsStopped,
    now_of_logged (logged_safeTold page code)]

/-! ## The divider of a layer's clock (R492) -/

theorem dividerChange_changes {layer : LayerNo}
    (hidle : ∀ i < 4, (s.pc (layer.val * 4 + i)).bursts = [] ∧ (s.pc (layer.val * 4 + i)).wbursts = [])
    (hgated : s.on (PC_SR_STAT.clk_gated.pc (layer.val * 4)) = false) :
    exec (.dividerChange layer) s = .next ((s.advance 30000).takeDivider layer) := by
  show Machine.execDividerChange layer s = _
  unfold Machine.execDividerChange
  extract_lets l busy
  have hbusy : busy = false := by
    refine List.any_eq_false.2 fun i hi => ?_
    obtain ⟨hb, hw⟩ := hidle i (List.mem_range.1 hi)
    have hb' : (s.pc (l * 4 + i)).bursts = [] := hb
    have hw' : (s.pc (l * 4 + i)).wbursts = [] := hw
    rw [hb', hw']
    decide
  have hgated' : s.on (PC_SR_STAT.clk_gated.pc (l * 4)) = false := hgated
  rw [hbusy, hgated', if_neg (by decide)]

/-- Memory, the keys, the Folio, the life of the device, the time and the layers stand. -/
structure LayersStand (s t : State) : Prop where
  data : KeepsData s t
  now : t.now = s.now
  layer : ∀ l, t.layer l = s.layer l

theorem LayersStand.refl (s : State) : LayersStand s s := ⟨⟨rfl, rfl, rfl, rfl⟩, rfl, fun _ => rfl⟩

theorem LayersStand.trans (h : LayersStand s t) (k : LayersStand t u) : LayersStand s u :=
  ⟨keepsData_trans h.data k.data, k.now.trans h.now, fun l => (k.layer l).trans (h.layer l)⟩

theorem layersStand_runLfsrs (l : Nat) : LayersStand s (s.runLfsrs l) := by
  refine List.foldlRecOn (motive := LayersStand s) _ _ (.refl s) fun u hu i _ => hu.trans ?_
  unfold State.runLfsr
  extract_lets c n
  split
  · exact .refl u
  · exact ⟨⟨rfl, rfl, rfl, rfl⟩, rfl, fun _ => rfl⟩

theorem layersStand_of_calFollowed {l : List Fld} (h : CalFollowed l s t) : LayersStand s t := by
  refine ⟨h.keepsData, h.now, fun k => ?_⟩
  rw [State.layer, h.frame]
  rfl

theorem layersStand_fixCalLayer (l : Nat) : LayersStand s (s.fixCalLayer l) :=
  List.foldlRecOn (motive := LayersStand s) _ _ (.refl s) fun _ hu _ _ =>
    hu.trans (layersStand_of_calFollowed (calFollowed_fixCal _))

theorem layersStand_fixGauge : LayersStand s s.fixGauge := by
  have h := gauged_fixGauge (s := s)
  refine ⟨h.keepsData, h.now, fun k => ?_⟩
  rw [State.layer, h.frame]
  rfl

theorem takeDivider_takes (l : Nat) : ((s.takeDivider l).layer l).divider = (s.layer l).wanted ∧
    KeepsData s (s.takeDivider l) ∧ (s.takeDivider l).now = s.now := by
  unfold State.takeDivider
  extract_lets y
  split
  next hsame => exact ⟨hsame, ⟨rfl, rfl, rfl, rfl⟩, rfl⟩
  · have hrun := layersStand_runLfsrs (s := s) l
    have hend := (layersStand_fixCalLayer (s := (s.runLfsrs l).setLayer l { y with divider := y.wanted }) l).trans
      layersStand_fixGauge
    obtain ⟨hdata, hnow, -⟩ := setLayer_keeps (s := s.runLfsrs l) l { y with divider := y.wanted }
    refine ⟨?_, keepsData_trans hrun.data (keepsData_trans hdata hend.data), hend.now.trans (hnow.trans hrun.now)⟩
    rw [hend.layer, State.layer_setLayer]

/-! ## A suspect layer clears (R497) -/

/-- A layer is suspect no more. -/
def cleared (s : State) (l : Nat) : State :=
  let s := s.setHeat l { s.heat l with suspect := false, agreeAt := none, exceed := 0 }
  let s := (s.clr (THERM_LAYER_STAT.suspect.ix l)).clrBit THERM_SUSPECT_MAP.layers l
  s.forAll (List.range 4) fun s i => s.clr (PC_REF_STAT.estimate.pc (l * 4 + i))

theorem suspectClear_clears {layer : LayerNo} {at_ : Nat} (hsuspect : (s.heat layer).suspect = true)
    (hagree : (s.heat layer).agreeAt = some at_) : exec (.suspectClear layer) s =
      .next (((cleared (s.advanceTo (at_ + s.rd THERM_XCHECK.clear_s * psS)) layer).showLayer layer).shortenWindow
        layer) := by
  show Machine.execSuspectClear layer s = _
  unfold Machine.execSuspectClear
  extract_lets l
  have hs : (s.heat l).suspect = true := hsuspect
  have ha : (s.heat l).agreeAt = some at_ := hagree
  rw [hs, ha]
  rfl

/-- A bit that is cleared reads 0, and so it does in the field. -/
theorem bitOf_clrBit {v n : Nat} : bitOf (v - (v &&& 2 ^ n)) n = false := by
  rw [bitOf_eq_testBit]
  by_cases h : v.testBit n
  · rw [Nat.and_two_pow, h]
    have hge : 2 ^ n ≤ v := Nat.ge_two_pow_of_testBit h
    rw [Bool.toNat_true, Nat.one_mul]
    have := Nat.testBit_two_pow_add_eq (v - 2 ^ n) n
    rw [Nat.add_sub_cancel' hge, h] at this
    simpa using this.symm
  · rw [Nat.and_two_pow, Bool.eq_false_iff.2 h]
    simpa using h

/-- The registers of a layer follow its readings, and the layer stands as it stood. -/
structure Shown (l : Nat) (s t : State) : Prop where
  heat : ∀ d, t.heat d = s.heat d
  now : t.now = s.now
  data : KeepsData s t
  suspect : t.rd (THERM_LAYER_STAT.suspect.ix l) = s.rd (THERM_LAYER_STAT.suspect.ix l)
  map : t.rd THERM_SUSPECT_MAP.layers = s.rd THERM_SUSPECT_MAP.layers

theorem Shown.trans {l : Nat} (h : Shown l s t) (k : Shown l t u) : Shown l s u :=
  ⟨fun d => (k.heat d).trans (h.heat d), k.now.trans h.now, keepsData_trans h.data k.data,
    k.suspect.trans h.suspect, k.map.trans h.map⟩

theorem Shown.refl (l : Nat) (s : State) : Shown l s s := ⟨fun _ => rfl, rfl, ⟨rfl, rfl, rfl, rfl⟩, rfl, rfl⟩

theorem Shown.ite {l : Nat} {c : Prop} [Decidable c] {a b : State} (ha : Shown l s a) (hb : Shown l s b) :
    Shown l s (if c then a else b) := by
  split
  · exact ha
  · exact hb

theorem shown_wr {l : Nat} {f : Fld} {v : Nat} (hs : apart (THERM_LAYER_STAT.suspect.ix l) f = true := by rfl)
    (hm : apart THERM_SUSPECT_MAP.layers f = true := by rfl) : Shown l s (s.wr f v) :=
  ⟨heat_of_logged (logged_wr _ _), now_of_logged (logged_wr _ _), (logged_wr _ _).keepsData, rd_wr_apart hs v,
    rd_wr_apart hm v⟩

theorem shown_showLayer (l : Nat) : Shown l s (s.showLayer l) := by
  unfold State.showLayer
  extract_lets heat tj u₁ u₂
  have h₁ : Shown l s u₁ := (shown_wr).trans shown_wr
  have h₂ : Shown l s u₂ := h₁.trans shown_wr
  exact .ite h₂ (List.foldlRecOn (motive := Shown l s) _ _ h₂ fun _ hu _ _ => hu.trans shown_wr)

theorem shown_shortenWindow (l : Nat) : Shown l s (s.shortenWindow l) := by
  have h := gauged_shortenWindow (s := s) l
  have hw := writes_shortenWindow (s := s) l
  exact ⟨heat_of_gauged h, h.now, h.keepsData, hw.rd, hw.rd⟩

/-- The layer is suspect no more, in its state and in its registers. -/
def suspectEnded (s : State) (l : Nat) : State :=
  ((s.setHeat l { s.heat l with suspect := false, agreeAt := none, exceed := 0 }).clr
    (THERM_LAYER_STAT.suspect.ix l)).clrBit THERM_SUSPECT_MAP.layers l

theorem cleared_eq (l : Nat) :
    cleared s l = (suspectEnded s l).forAll (List.range 4) fun s i => s.clr (PC_REF_STAT.estimate.pc (l * 4 + i)) := rfl

theorem shown_cleared (l : Nat) : Shown l (suspectEnded s l) (cleared s l) :=
  cleared_eq (s := s) l ▸ List.foldlRecOn (motive := Shown l (suspectEnded s l)) _ _ (.refl _ _)
    fun _ hu _ _ => hu.trans shown_wr

theorem suspectEnded_ends (l : Nat) : ((suspectEnded s l).heat l).suspect = false ∧
    (suspectEnded s l).rd (THERM_LAYER_STAT.suspect.ix l) = 0 ∧
    bitOf ((suspectEnded s l).rd THERM_SUSPECT_MAP.layers) l = false ∧ (suspectEnded s l).now = s.now ∧
    KeepsData s (suspectEnded s l) := by
  refine ⟨?_, ?_, ?_, rfl, rfl, rfl, rfl, rfl⟩
  · rw [suspectEnded, State.clrBit, State.wr_heat, State.clr_eq, State.wr_heat, State.heat_setHeat]
  · rw [suspectEnded, State.clrBit, rd_wr_apart (by rfl)]
    exact State.rd_wr_self _ _ _
  · rw [suspectEnded, State.clrBit, State.rd_wr_self, bitOf_eq_testBit, Nat.testBit_mod_two_pow, ← bitOf_eq_testBit,
      bitOf_clrBit, Bool.and_false]

theorem powerSample_samples {mean avg : Nat} (hsenses : s.senses = true) : exec (.powerSample mean avg) s =
    .next ((s.wr THERM_POWER.w (min mean 65535)).wr THERM_PCAP_STAT.avg_w (min avg 65535)) :=
  if_neg (by rw [hsenses]; decide)

/-! ## The power cap (R500, R501) -/

/-- The cap and whether it binds. -/
def capped (s : State) (k : Nat) : State :=
  (s.wr THERM_PCAP_STAT.cap_skip k).wr THERM_PCAP_STAT.binding (if 0 < k then 1 else 0)

/-- The cap as the controller adjusts it. -/
def capOf (s : State) : Nat := if s.on THERM_CTL.pcap_en then s.nextSkip else 0

theorem capOf_lt : capOf s < 64 := by
  unfold capOf State.nextSkip
  split
  · exact lt_of_le_of_lt (Nat.min_le_left _ _) (by decide)
  · decide

theorem capped_caps {k : Nat} (hk : k < 64) : (capped s k).rd THERM_PCAP_STAT.cap_skip = k ∧
    (capped s k).rd THERM_PCAP_STAT.binding = if 0 < k then 1 else 0 := by
  refine ⟨?_, rd_wr_lt (show _ < 2 ^ 1 by split <;> decide)⟩
  rw [capped, rd_wr_apart (by rfl)]
  exact rd_wr_lt hk

theorem keepsData_capped (k : Nat) : KeepsData s (capped s k) := ((logged_wr _ _).wr _ _).keepsData

theorem capAdjust_adjusts (hsenses : s.senses = true) (hphase : s.sys.phase ≠ .failing) :
    ∃ t, exec .capAdjust s = .next t ∧ KeepsData (capped s (capOf s)) t ∧
      t.rd THERM_PCAP_STAT.cap_skip = (capped s (capOf s)).rd THERM_PCAP_STAT.cap_skip ∧
      t.rd THERM_PCAP_STAT.binding = (capped s (capOf s)).rd THERM_PCAP_STAT.binding := by
  obtain ⟨r, hr⟩ : ∃ r, Machine.execCapAdjust s = r := ⟨_, rfl⟩
  have hexec : exec .capAdjust s = r := hr
  rw [Machine.execCapAdjust, hsenses, decide_eq_false hphase, if_neg (by decide)] at hr
  extract_lets k was u₁ u₂ at hr
  have h₁ : u₁ = capped s (capOf s) := by
    show (s.wr _ k).wrb _ (decide (0 < k)) = _
    rw [State.wrb]
    simp only [decide_eq_true_eq]
    rfl
  have hl₂ : Logged u₁ u₂ := .ite ((logged_cause _ _).err _ _ _) (.ite (logged_cause _ _) (.refl _))
  have hw₂ : Writes (errFields 0x04 ++ causeFields 0x04) u₁ u₂ := by
    have hc : Writes (errFields 0x04 ++ causeFields 0x04) u₁ u₁ := .refl _
    exact .ite ((hc.cause (List.subset_append_right _ _)).err (List.subset_append_left _ _))
      (.ite (hc.cause (List.subset_append_right _ _)) hc)
  have hg := gauged_fixGauge (s := u₂)
  rw [← h₁]
  exact ⟨_, hexec.trans hr.symm, keepsData_trans hl₂.keepsData hg.keepsData, writes_fixGauge.rd.trans hw₂.rd,
    writes_fixGauge.rd.trans hw₂.rd⟩

/-- Settles O50. -/
theorem temperatureAndPowerAct : Obligations.TemperatureAndPowerAct := by
  unfold Obligations.TemperatureAndPowerAct
  refine ⟨fun sensor v s hsenses hworks hlo hhi hinjected => ⟨?_, fun hfast => ?_⟩,
    fun sensor s hsenses hslow hworks => ?_, fun die at_ s hhigh hon hlevel hpresent => ?_,
    fun die at_ s hlow hlevel hfloor hpresent => ?_, fun sensor at_ s hfatal hsenses hsafe hcalm => ?_,
    fun layer s hidle hgated => ?_, fun layer at_ s hsuspect hagree => ?_, fun mean avg s hsenses => ?_,
    fun s hsenses hphase => ?_⟩
  · obtain ⟨t, hexec, h⟩ := sensorSlowRound_reads hsenses hworks hlo hhi hinjected
    have hstart := (startsFrom_roundTime (s := s) sensor).senseNoted
    refine ⟨t, hexec, h.value, h.temp, fun at_ hat => ?_, h.lines.trans hstart.lines, h.crypto.trans hstart.crypto,
      h.sys.trans hstart.sys⟩
    rw [h.now, now_senseNoted, now_roundTime hat]
  · obtain ⟨t, hexec, h⟩ := sensorFastSample_reads hsenses hfast hlo hhi hinjected
    have hstart := startsFrom_advanceTo (s := s) sensor ((s.sensor sensor).readAt + 50 * psUs)
    refine ⟨t, hexec, h.value, h.temp, ?_, h.lines.trans hstart.lines, h.crypto.trans hstart.crypto,
      h.sys.trans hstart.sys⟩
    rw [h.now, now_advanceTo, psUs_eq]
  · obtain ⟨hflds, hframe⟩ := setSensor_keeps (s := s.put (THERM_SENS_VAL.fast.ix sensor)) sensor
      { s.sensor sensor with outRun := 0, readAt := s.now, hist := [] }
    refine ⟨_, bandComparatorTrip_speeds hsenses hslow hworks, ?_,
      (((Writes.refl s).wr (.head _)).flds hflds).regs, ?_⟩
    · rw [State.isFast, State.on, rd_of_flds hflds, rd_put_self]
      rfl
    · rw [hframe]
      rfl
  · have h := dieLevel_setDieLevel (s := s.advanceTo (at_ + s.rd THERM_STEP.up_us * psUs)) (d := die)
      (level := (s.heat die).level + 1) (by rw [heat_advanceTo]; omega)
      fun hd => (pcPresent_advanceTo _ _).trans (hpresent hd)
    refine ⟨_, throttleRise_rises hhigh hon hlevel, h.taken, fun hd => h.layer hd (by omega),
      fun hd => h.logic hd (by omega), ?_, keepsData_trans (keepsData_advanceTo _) h.data⟩
    rw [h.now, now_advanceTo, psUs_eq]
  · have h := dieLevel_setDieLevel (s := s.advanceTo (at_ + s.rd THERM_STEP.down_us * psUs)) (d := die)
      (level := (s.heat die).level - 1) (by rw [heat_advanceTo]; omega)
      fun hd => (pcPresent_advanceTo _ _).trans (hpresent hd)
    refine ⟨_, throttleFall_falls hlow hfloor, h.taken, fun hd => h.layer hd (by omega), ?_,
      keepsData_trans (keepsData_advanceTo _) h.data⟩
    rw [h.now, now_advanceTo, psUs_eq]
  · obtain ⟨hsafe', hcalm', hnow⟩ := fatalTold_keeps (s := s.advanceTo (at_ + 10 * psMs)) (dieOf sensor) sensor
    have hs := hsafe'.trans ((safe_advanceTo _).trans hsafe)
    have hc := hcalm'.trans ((calm_advanceTo _).trans hcalm)
    refine ⟨_, fatalTemperature_enters hfatal hsenses, enteredSafe_of_calm hs hc (by decide), ?_⟩
    rw [now_enterSafe hs hc, hnow, now_advanceTo, ten_psMs]
  · obtain ⟨hdivider, hdata, hnow⟩ := takeDivider_takes (s := s.advance 30000) layer.val
    exact ⟨_, dividerChange_changes hidle hgated, hdivider, hnow.trans (now_advance _),
      keepsData_trans (keepsData_advance _) hdata⟩
  · obtain ⟨hheat, hstat, hmap, hnow, hdata⟩ := suspectEnded_ends
      (s := s.advanceTo (at_ + s.rd THERM_XCHECK.clear_s * psS)) layer.val
    have h := ((shown_cleared (s := s.advanceTo (at_ + s.rd THERM_XCHECK.clear_s * psS)) layer.val).trans
      (shown_showLayer layer.val)).trans (shown_shortenWindow layer.val)
    refine ⟨_, suspectClear_clears hsuspect hagree, ?_, h.suspect.trans hstat, ?_, ?_,
      keepsData_trans (keepsData_advanceTo _) (keepsData_trans hdata h.data)⟩
    · rw [h.heat, hheat]
    · rw [h.map, hmap]
    · rw [h.now, hnow, now_advanceTo, psS_eq]
  · refine ⟨_, powerSample_samples hsenses, ?_, rd_wr_lt (show _ < 2 ^ 16 by omega),
      (((Writes.refl s).wr (.head _)).wr (.tail _ (.head _))).regs, frame_wr_wr _ _ _ _⟩
    rw [rd_wr_apart (by rfl)]
    exact rd_wr_lt (show _ < 2 ^ 16 by omega)
  · obtain ⟨t, hexec, hdata, hskip, hbinding⟩ := capAdjust_adjusts hsenses hphase
    obtain ⟨hk, hb⟩ := capped_caps (s := s) (k := capOf s) capOf_lt
    refine ⟨t, hexec, hskip.trans hk, ?_, keepsData_trans (keepsData_capped _) hdata⟩
    rw [hbinding, hb, hskip, hk]

end Sys2Proof.Proofs

/-! # The reset of a port (R350, R351) -/

namespace Sys2Proof.Proofs

open Sys2Proof Sys2Proof.Machine Sys2Proof.Laws

variable {s t u : State}

/-! ## What a port's reset leaves -/

/-- What a port keeps while it or another is reset: its pin and its isolation; no line of a host comes
back, and what has been emptied stays empty. -/
structure PortKept (v w : PortState) : Prop where
  isolated : w.isolated = v.isolated
  perstHigh : w.perstHigh = v.perstHigh
  filter : w.filter ⊆ v.filter
  inv : v.inv = [] → w.inv = []
  streams : v.streams = [] → w.streams = []
  keys : v.keysProgrammed = [] → w.keysProgrammed = []

/-- What a logical device keeps while its port is reset: its logs, and no decoder comes back. -/
structure LdKept (v w : LdState) : Prop where
  info : w.info = v.info
  fail : w.fail = v.fail
  decoders : v.decoders = [] → w.decoders = []

/-- A part of a port's reset has been done: beside the fields listed the registers stand, and so do time, the jobs and
what memory, the keys and the Folio hold. -/
structure Shut (l : List Fld) (s t : State) : Prop where
  writes : Writes l s t
  now : t.now = s.now
  jobs : t.chisel.jobs = s.chisel.jobs
  stalled : s.stalled = [] → t.stalled = []
  data : s.folio.held = [] → KeepsData s t
  ports : ∀ q, PortKept (s.port q) (t.port q)
  lds : ∀ n, LdKept (s.ld n) (t.ld n)
  domains : ∀ d, (t.domain d).isolated = (s.domain d).isolated

theorem PortKept.refl (v : PortState) : PortKept v v := ⟨rfl, rfl, List.Subset.refl _, id, id, id⟩

theorem PortKept.filter_nil {v w : PortState} (h : PortKept v w) (hv : v.filter = []) : w.filter = [] :=
  List.eq_nil_of_subset_nil (hv ▸ h.filter)

theorem PortKept.trans {v w x : PortState} (h : PortKept v w) (k : PortKept w x) : PortKept v x :=
  ⟨k.isolated.trans h.isolated, k.perstHigh.trans h.perstHigh, List.Subset.trans k.filter h.filter, fun e => k.inv (h.inv e),
    fun e => k.streams (h.streams e), fun e => k.keys (h.keys e)⟩

theorem PortKept.of_same {v w : PortState} (h : SamePort v w) : PortKept v w := by
  rw [h]
  exact ⟨rfl, rfl, List.Subset.refl _, id, id, id⟩

theorem LdKept.refl (v : LdState) : LdKept v v := ⟨rfl, rfl, id⟩

theorem LdKept.trans {v w x : LdState} (h : LdKept v w) (k : LdKept w x) : LdKept v x :=
  ⟨k.info.trans h.info, k.fail.trans h.fail, fun e => k.decoders (h.decoders e)⟩

section
variable {l m : List Fld}

theorem Shut.refl (s : State) : Shut l s s :=
  ⟨.refl s, rfl, rfl, id, fun _ => ⟨rfl, rfl, rfl, rfl⟩, fun _ => .refl _, fun _ => .refl _,
    fun _ => rfl⟩

theorem Shut.trans (h : Shut l s t) (k : Shut l t u) : Shut l s u := by
  refine ⟨h.writes.trans k.writes, k.now.trans h.now, k.jobs.trans h.jobs, fun e => k.stalled (h.stalled e), fun e => ?_,
    fun q => (h.ports q).trans (k.ports q), fun n => (h.lds n).trans (k.lds n),
    fun d => (k.domains d).trans (h.domains d)⟩
  obtain hd := h.data e
  obtain ⟨-, -, hf, -⟩ := id hd
  exact keepsData_trans hd (k.data (by rw [hf, e]))

theorem Shut.mono (h : Shut l s t) (hlm : l ⊆ m) : Shut m s t := { h with writes := h.writes.mono hlm }

/-- What only sends messages, moves lanes and counts is part of a reset. -/
theorem shut_of_frame (h : Writes l s t)
    (hf : t = { s with flds := t.flds, out := t.out, pages := t.pages, ports := t.ports, lds := t.lds, domains := t.domains,
                       pin := t.pin, lanes := t.lanes, cals := t.cals, chisel := { s.chisel with msix := t.chisel.msix } })
    (hp : ∀ q, PortKept (s.port q) (t.port q)) (hl : ∀ n, LdKept (s.ld n) (t.ld n))
    (hd : ∀ d, (t.domain d).isolated = (s.domain d).isolated) : Shut l s t := by
  refine ⟨h, ?_, ?_, fun e => ?_, fun _ => ?_, hp, hl, hd⟩
  · rw [hf]
  · rw [hf]
  · rw [hf]
    exact e
  · rw [hf]
    exact ⟨rfl, rfl, rfl, rfl⟩

theorem ld_eq_of_lds (h : t.lds = s.lds) (n : Nat) : t.ld n = s.ld n := by rw [State.ld, State.ld, h]

theorem LdKept.of_lds (h : t.lds = s.lds) (n : Nat) : LdKept (s.ld n) (t.ld n) := ld_eq_of_lds h n ▸ .refl _

theorem shut_of_sets (h : Sets l s t) : Shut l s t := by
  refine shut_of_frame h.writes ?_ (fun q => h.port q ▸ .refl _) (fun n => .of_lds ?_ n) fun d => ?_
  · rw [h.frame]
  · rw [h.frame]
  · rw [h.frame]
    rfl

theorem shut_of_alerted (h : Alerted l s t) : Shut l s t := by
  refine shut_of_frame h.writes ?_ (fun q => .of_same (h.ports q)) (fun n => .of_lds ?_ n) fun d => ?_
  · rw [h.frame]
  · rw [h.frame]
  · rw [h.frame]
    rfl

theorem shut_of_calFollowed (h : CalFollowed l s t) : Shut l s t := by
  refine shut_of_frame h.writes ?_ (fun q => h.port q ▸ .refl _) (fun n => .of_lds ?_ n) fun d => ?_
  · rw [h.frame]
  · rw [h.frame]
  · rw [h.frame]
    rfl

theorem Shut.wr {f : Fld} {v : Nat} (h : Shut l s t) (hf : f ∈ l) : Shut l s (t.wr f v) :=
  h.trans (shut_of_sets ((Sets.refl t).wr hf))

theorem Shut.cause {page bit : Nat} (h : Shut l s t) (hl : causeFields page ⊆ l) : Shut l s (t.cause page bit) :=
  h.trans ((shut_of_alerted (alerted_cause page bit)).mono hl)

theorem Shut.ite {c : Prop} [Decidable c] {a b : State} (ha : Shut l s a) (hb : Shut l s b) :
    Shut l s (if c then a else b) := by
  split
  · exact ha
  · exact hb

theorem Shut.forAllMem {α : Type} {f : State → α → State} {as : List α} (h : Shut l s t)
    (hf : ∀ u, ∀ a ∈ as, Shut l s u → Shut l s (f u a)) : Shut l s (t.forAll as f) :=
  List.foldlRecOn (motive := Shut l s) as f h fun u hu a ha => hf u a ha hu

theorem Shut.setPort {p : Nat} {v : PortState} (h : Shut l s t) (hv : PortKept (t.port p) v) :
    Shut l s (t.setPort p v) := by
  refine h.trans (shut_of_frame ((Writes.refl t).flds rfl) rfl (fun q => ?_) (fun n => .of_lds rfl n) fun _ => rfl)
  obtain rfl | hq := eq_or_ne q p
  · rw [State.port_setPort]
    exact hv
  · rw [State.port_setPort_ne _ hq]
    exact .refl _

theorem Shut.setLd {n : Nat} {v : LdState} (h : Shut l s t) (hv : LdKept (t.ld n) v) : Shut l s (t.setLd n v) := by
  refine h.trans (shut_of_frame ((Writes.refl t).flds rfl) rfl (fun q => .refl _) (fun m => ?_) fun _ => rfl)
  obtain rfl | hm := eq_or_ne m n
  · rw [State.ld_setLd]
    exact hv
  · rw [State.ld_setLd_ne _ hm]
    exact .refl _

theorem Shut.setLane {n : Nat} {v : LaneState} (h : Shut l s t) : Shut l s (t.setLane n v) :=
  h.trans (shut_of_frame ((Writes.refl t).flds rfl) rfl (fun q => .refl _) (fun m => .of_lds rfl m) fun _ => rfl)

end

theorem clear_append {a b : List Fld} {f : Fld} : clear (a ++ b) f = true ↔ clear a f = true ∧ clear b f = true := by
  rw [clear, List.all_append, Bool.and_eq_true]
  rfl

theorem clear_cons {a : Fld} {l : List Fld} {f : Fld} : clear (a :: l) f = true ↔ apart f a = true ∧ clear l f = true := by
  rw [clear, List.all_cons, Bool.and_eq_true]
  rfl

theorem clear_flatMap {α : Type} {l : List α} {g : α → List Fld} {f : Fld} :
    clear (l.flatMap g) f = true ↔ ∀ a ∈ l, clear (g a) f = true := by
  simp only [clear, List.all_eq_true, List.mem_flatMap]
  exact ⟨fun h a ha x hx => h x ⟨a, ha, hx⟩, fun h x ⟨a, ha, hx⟩ => h a ha x hx⟩

/-! ## The link goes down -/

/-- The status fields of a port's link. -/
def linkStatFields (p : Nat) : List Fld :=
  [PORT_LINK_STAT.mode, PORT_LINK_STAT.rate, PORT_LINK_STAT.width, PORT_LINK_STAT.mld, PORT_LINK_STAT.lds_bound,
    PORT_LINK_STAT.mem_active, PHY_STAT.ltssm, PHY_STAT.reversed, PHY_STAT.pm_state].map fun f => f.port p

/-- The fields of a lane. -/
def clearedLane (g n : Nat) : List Fld := (PHY_LANE_STAT.failed :: laneFields).map fun f => f.lane g n

/-- The fields of the eight lanes of a group. -/
def groupLanes (g : Nat) : List Fld := (List.range 8).flatMap (clearedLane g)

/-- The fields that say which logical devices of a port are bound and what their decoders allow. -/
def boundFields (p : Nat) : List Fld :=
  (List.range 4).flatMap fun l => [PORT_LD_STAT.dec_committed, PORT_LD_STAT.hdmdb, PORT_LD_STAT.tsp_active].map fun f => f.ld p l

/-- The fields that a link writes as it goes down, once its status reads as down. -/
def stoppedFields (p : Nat) : List Fld :=
  (List.range 4).map (fun l => PORT_LD_CFG.bound.ld p l) ++ (groupLanes p ++ (boundFields p ++
    ([PHY_CAL_STAT.state.port p, PHY_CAL_STAT.pending.port p] ++ causeFields (phyPage p))))

section
variable {l : List Fld}

theorem Shut.clearLane {g n : Nat} (h : Shut l s t) (hl : clearedLane g n ⊆ l) : Shut l s (t.clearLane g n) := by
  have hfields : Shut l s (t.forAll laneFields fun s f => s.clr (f.lane g n)) :=
    h.forAllMem fun u f hf k => k.wr (hl (List.mem_map_of_mem (List.mem_cons_of_mem _ hf)))
  unfold State.clearLane
  extract_lets v w
  exact hfields.setLane.wr (hl (.head _))

theorem Shut.fixPort {p : Nat} (h : Shut l s t) (hl : boundFields p ⊆ l) : Shut l s (t.fixPort p) := by
  refine h.forAllMem fun u n hn k => ?_
  have hf : ∀ {f : Fld}, f ∈ [PORT_LD_STAT.dec_committed, PORT_LD_STAT.hdmdb, PORT_LD_STAT.tsp_active] →
      f.ld p n ∈ l := fun hf => hl (List.mem_flatMap.2 ⟨n, hn, List.mem_map_of_mem hf⟩)
  exact ((k.wr (hf (.head _))).wr (hf (.tail _ (.head _)))).wr (hf (.tail _ (.tail _ (.head _))))

end

/-- The status of a link reads as down. -/
def linkRead0 (s : State) (p : Nat) : State := s.forAll (linkStatFields p) State.clr

theorem sets_linkRead0 (p : Nat) : Sets (linkStatFields p) s (linkRead0 s p) :=
  (Sets.refl s).forAllMem fun _ _ hf h => h.wr hf

theorem rd_forAll_clr {fs : List Fld} {f : Fld} (hf : f ∈ fs) : (s.forAll fs State.clr).rd f = 0 :=
  (rd_forAll_wr (f := id) (c := 0) fs (fun _ _ _ => Nat.zero_mod _) s).trans (if_pos ⟨f, hf, rfl⟩)

/-- Once its status reads as down, a link's lanes, its logical devices and its calibration follow. -/
theorem shut_linkDown (p : Nat) : Shut (stoppedFields p) (linkRead0 s p) (s.linkDown p) := by
  have hl : stoppedFields p ⊆ stoppedFields p := List.Subset.refl _
  obtain ⟨hcfg, hl⟩ := List.append_subset.1 hl
  obtain ⟨hlanes, hl⟩ := List.append_subset.1 hl
  obtain ⟨hbound, hl⟩ := List.append_subset.1 hl
  obtain ⟨hcal, hcause⟩ := List.append_subset.1 hl
  unfold State.linkDown
  extract_lets was a b c v d e
  have ha : linkRead0 s p = a := by
    rw [linkRead0, linkStatFields, State.forAll, List.foldl_map]
    rfl
  have h : Shut (stoppedFields p) (linkRead0 s p) a := ha ▸ .refl _
  have hb : Shut (stoppedFields p) (linkRead0 s p) b := h.forAllMem fun u n hn k => k.wr (hcfg (List.mem_map_of_mem hn))
  have hc : Shut (stoppedFields p) (linkRead0 s p) c := hb.forAllMem fun u n hn k =>
    k.clearLane (List.Subset.trans (fun f hf => List.mem_flatMap.2 ⟨n, hn, hf⟩) hlanes)
  have hd : Shut (stoppedFields p) (linkRead0 s p) d := hc.setPort ⟨rfl, rfl, List.Subset.refl _, id, id, id⟩
  have he : Shut (stoppedFields p) (linkRead0 s p) e := (hd.fixPort hbound).trans
    ((shut_of_calFollowed (calFollowed_fixCal (64 + p))).mono (calFields_port p ▸ hcal))
  exact .ite he (he.cause hcause)

/-! ## The ring of a logical device (R270) -/

/-- The registers of a Chisel ring that its reset writes. -/
def ringFields (r : Nat) : List Fld :=
  [CHISEL_RING_BASE_LO.base, CHISEL_RING_BASE_HI.base, CHISEL_RING_CTL.enable, CHISEL_RING_CTL.size_log2,
    CHISEL_RING_CTL.keyid, CHISEL_RING_CTL.msix_vec, CHISEL_RING_TAIL.tail, CHISEL_RING_HEAD.head,
    CHISEL_RING_STAT.stalled, CHISEL_RING_STAT.abort_nomatch, CHISEL_RING_DONE.count].map fun f => f.ix r

/-- The fields that tell of dropped messages of a ring. -/
def droppedFields : List Fld := CHISEL_IRQ_DROPPED.count :: (causeFields 0x1D ++ errFields 0x1D)

theorem lds_wakeTb : s.wakeTb.lds = s.lds := by
  unfold State.wakeTb
  split
  · unfold State.startWake
    rw [State.bump_eq, State.wr_lds, State.wr_lds]
    rfl
  · rfl

theorem port_wakeTb (q : Nat) : s.wakeTb.port q = s.port q := by
  unfold State.wakeTb
  split
  · unfold State.startWake
    rw [State.bump_eq, State.wr_port, State.wr_port]
    rfl
  · rfl

/-- A corrected error that no event log takes leaves the logical devices alone. -/
theorem lds_log_quiet {e : Err} (hc : codeClass e.code = 1) (hr : codeReport e.code = .none) : (s.log e).lds = s.lds := by
  have htally : (s.wakeTb.tally e).lds = s.lds := by
    rw [State.tally, hc]
    exact lds_wakeTb
  have hcapture : ((s.wakeTb.tally e).captureFirst e).lds = s.lds := by
    unfold State.captureFirst
    split
    · exact htally
    · exact htally
  have hint : ∀ u : State, (u.intOut e.page 0).lds = u.lds := fun u => by
    rw [((Alerted.refl (l := sendFields) u).intOut (p := e.page) (bit := 0) (List.Subset.refl _)).frame]
  have haer : ∀ (u : State) (l : List (Nat × Nat)), (u.aerDue 1 l).lds = u.lds := fun u l =>
    List.foldlRecOn (motive := fun v : State => v.lds = u.lds) l _ rfl fun v hv m _ => by
      extract_lets p
      split
      · exact hv
      · exact hv
  unfold State.log
  extract_lets was a b c
  have hb : b.lds = s.lds := by
    unfold b
    split
    · rw [hint]
      exact hcapture
    · exact hcapture
  have hc' : c.lds = s.lds := by
    show (b.report e (codeReport e.code)).lds = s.lds
    rw [hr]
    exact hb
  rw [hc]
  show State.lds (if c.on ERRPIN_CTL.ce_aer = true then c.aerDue 1 (c.routed e.tied) else c) = s.lds
  split
  · rw [haer, hc']
  · exact hc'

theorem shut_log_quiet {e : Err} (hc : codeClass e.code = 1) (hr : codeReport e.code = .none) :
    Shut (errFields e.page) s (s.log e) := by
  have hlogged : Logged s (s.log e) := logged_log e
  refine shut_of_frame ((Writes.refl s).log (List.Subset.refl _)) ?_ (fun q => ?_) (fun n => .of_lds (lds_log_quiet hc hr) n)
    fun d => ?_
  · rw [hlogged.frame]
  · have htally : PortKept (s.port q) ((s.wakeTb.tally e).port q) :=
      .of_same (port_wakeTb (s := s) q ▸ (told_tally e).ports q)
    exact htally.trans (.of_same ((told_log e).ports q))
  · obtain ⟨w, hw⟩ := domain_log (s := s) e d
    rw [hw]

theorem resetRing_sets (r : Nat) : Sets (ringFields r) s (s.resetRing r) := by
  have h : Sets (ringFields r) s s := .refl s
  have hf : ∀ n, ∀ f, (ringFields r)[n]? = some f → f ∈ ringFields r := fun n f => List.mem_of_getElem?
  unfold State.resetRing
  extract_lets a b c
  have ha : Sets (ringFields r) s a := ((h.wr (hf 0 _ rfl)).wr (hf 1 _ rfl)).wr (hf 2 _ rfl)
  have hb : Sets (ringFields r) s b := ((ha.wr (hf 3 _ rfl)).wr (hf 4 _ rfl)).wr (hf 5 _ rfl)
  have hc : Sets (ringFields r) s c := ((hb.wr (hf 6 _ rfl)).wr (hf 7 _ rfl)).wr (hf 8 _ rfl)
  exact (hc.wr (hf 9 _ rfl)).wr (hf 10 _ rfl)

theorem abortRing_of_idle (h : s.chisel.jobs = []) (r : Nat) (portReset : Bool) : s.abortRing r portReset = s := by
  have : s.ringJobs r = [] := by rw [State.ringJobs, h]; rfl
  rw [State.abortRing, this]
  rfl

/-- The fields that the reset of a logical device's ring writes. -/
def portRingFields (r : Nat) : List Fld := ringFields r ++ droppedFields

theorem shut_dropMsix (ring addr n : Nat) : Shut droppedFields s (s.dropMsix ring addr n) ∧
    (s.dropMsix ring addr n).lds = s.lds := by
  have hcause : causeFields 0x1D ⊆ droppedFields :=
    List.subset_cons_of_subset _ (List.subset_append_left _ _)
  have herr : errFields 0x1D ⊆ droppedFields := List.subset_cons_of_subset _ (List.subset_append_right _ _)
  have hcounted : Shut droppedFields s ((s.count CHISEL_IRQ_DROPPED.count n).cause 0x1D 5) :=
    ((Shut.refl s).wr (.head _)).cause hcause
  have hlds : ((s.count CHISEL_IRQ_DROPPED.count n).cause 0x1D 5).lds = s.lds := by
    rw [(alerted_cause 0x1D 5).frame]
    rfl
  unfold State.dropMsix
  split
  · exact ⟨.refl s, rfl⟩
  · exact ⟨hcounted.trans ((shut_log_quiet (e := ⟨0x1D, 0x0906, addr, 5, ring, none⟩) rfl rfl).mono herr),
      (lds_log_quiet rfl rfl).trans hlds⟩

/-- The reset of a ring without jobs writes its registers, and its messages are dropped and counted. -/
theorem shut_resetPortRing (h : s.chisel.jobs = []) (p l : Nat) :
    Shut (portRingFields (p * 4 + l)) s (s.resetPortRing p l) ∧ (s.resetPortRing p l).lds = s.lds := by
  unfold State.resetPortRing
  extract_lets r n _ a b
  have ha : Shut droppedFields s a :=
    shut_of_frame ((Writes.refl s).flds rfl) rfl (fun _ => .refl _) (fun m => .of_lds rfl m) fun _ => rfl
  obtain ⟨hb, hlds⟩ := shut_dropMsix (s := a) r (a.ringBase r) n
  have hjobs : b.chisel.jobs = [] := (hb.jobs.trans ha.jobs).trans h
  rw [abortRing_of_idle hjobs]
  refine ⟨((ha.trans hb).mono (List.subset_append_right _ _)).trans
    ((shut_of_sets (resetRing_sets r)).mono (List.subset_append_left _ _)), ?_⟩
  rw [(resetRing_sets r).frame]
  exact hlds

/-! ## The reset of a port -/

theorem releaseStalled_of_none (h : s.stalled = []) : s.releaseStalled = s := by
  have hs : ({ s with stalled := [] } : State) = s := by rw [← h]
  unfold State.releaseStalled
  rw [h]
  exact hs

theorem mapReqs_keeps {l : List Fld} (f : Req → Req) : Shut l s (s.mapReqs f) ∧ (s.mapReqs f).lds = s.lds := by
  refine ⟨⟨(Writes.refl s).flds rfl, rfl, rfl, fun e => ?_, fun e => ?_, fun _ => .refl _, fun n => .of_lds rfl n,
    fun _ => rfl⟩, rfl⟩
  · show s.stalled.map _ = []
    rw [e, List.map_nil]
  · refine ⟨rfl, rfl, ?_, rfl⟩
    show { s.folio with held := s.folio.held.map f } = s.folio
    rw [e, List.map_nil, ← e]

theorem endEpoch_keeps {l : List Fld} (p : Nat) (ld : Option Nat) :
    Shut l s (s.endEpoch p ld) ∧ (s.endEpoch p ld).lds = s.lds := mapReqs_keeps _

/-- The fields that the close of a port writes. -/
def closeFields (p : Nat) : List Fld := PORT_LINK_STAT.epoch.port p :: (linkStatFields p ++ stoppedFields p)

/-- The fields of a port's IDE streams. -/
def ideFields (p : Nat) : List Fld :=
  [PORT_IDE_STAT.io_link, PORT_IDE_STAT.io_sel, PORT_IDE_STAT.cachemem, PORT_IDE_STAT.skid,
    PORT_IDE_STAT.key_set, PORT_IDE_STAT.insecure].map fun f => f.port p

/-- The fields that the count of a port's reset writes. -/
def countedFields (p : Nat) : List Fld :=
  PORT_RESET_STAT.last_cause.port p :: PORT_RESETS.count.port p :: causeFields (phyPage p)

/-- The fields of the rings of a port's logical devices, and those that tell of their dropped messages. -/
def portRings (p : Nat) : List Fld := (List.range 4).flatMap fun l => portRingFields (p * 4 + l)

/-- The fields that a port's reset writes once the port is closed, but the count of the reset. -/
def clearedFields (p : Nat) : List Fld := portRings p ++ (ideFields p ++ boundFields p)

/-- The fields that a port's reset writes. -/
def portResetFields (p : Nat) : List Fld := closeFields p ++ (clearedFields p ++ countedFields p)

/-- A port that holds neither lines of hosts nor back-invalidates. -/
def emptied (v : PortState) : PortState := { v with filter := [], inv := [] }

/-- A port is closed to further flits, and its epoch has risen. -/
def epochOver (s : State) (p : Nat) : State :=
  ((s.wr (PORT_LINK_STAT.epoch.port p) (s.rd (PORT_LINK_STAT.epoch.port p) + 1)).endEpoch p none).setPort p
    (emptied (s.port p))

theorem closePort_eq (p : Nat) : s.closePort p false = (epochOver s p).linkDown p := rfl

theorem shut_epochOver (p : Nat) : Shut [PORT_LINK_STAT.epoch.port p] s (epochOver s p) := by
  have hepoch : Shut [PORT_LINK_STAT.epoch.port p] s
      (s.wr (PORT_LINK_STAT.epoch.port p) (s.rd (PORT_LINK_STAT.epoch.port p) + 1)) := (Shut.refl s).wr (.head _)
  exact (hepoch.trans (endEpoch_keeps p none).1).setPort ⟨rfl, rfl, List.nil_subset _, fun _ => rfl, id, id⟩

/-- A port that is closed holds neither lines of hosts nor back-invalidates, and its link is down. -/
structure Closed (p : Nat) (s t : State) : Prop where
  shut : Shut (closeFields p) s t
  filter : (t.port p).filter = []
  inv : (t.port p).inv = []
  down : ∀ f ∈ linkStatFields p, clear (stoppedFields p) f = true → t.rd f = 0
  epoch : clear (linkStatFields p ++ stoppedFields p) (PORT_LINK_STAT.epoch.port p) = true →
    t.rd (PORT_LINK_STAT.epoch.port p) = (s.rd (PORT_LINK_STAT.epoch.port p) + 1) % 2 ^ PORT_LINK_STAT.epoch.width

theorem closed_closePort (p : Nat) : Closed p s (s.closePort p false) := by
  rw [closePort_eq]
  have hepoch := shut_epochOver (s := s) p
  have hread := shut_of_sets (sets_linkRead0 (s := epochOver s p) p)
  have hdown := shut_linkDown (s := epochOver s p) p
  have hlink : Shut (linkStatFields p ++ stoppedFields p) (epochOver s p) ((epochOver s p).linkDown p) :=
    (hread.mono (List.subset_append_left _ _)).trans (hdown.mono (List.subset_append_right _ _))
  have hport : ((epochOver s p).port p) = emptied (s.port p) := State.port_setPort _ p _
  refine ⟨(hepoch.mono (List.cons_subset_cons _ (List.nil_subset _))).trans (hlink.mono (List.subset_cons_self _ _)), ?_, ?_,
    fun f hf hc => ?_, fun hc => ?_⟩
  · exact (hlink.ports p).filter_nil (by rw [hport]; rfl)
  · exact (hlink.ports p).inv (by rw [hport]; rfl)
  · rw [hdown.writes.rd hc]
    exact rd_forAll_clr hf
  · rw [hlink.writes.rd hc]
    exact State.rd_wr_self s _ _

/-- The configuration and the rings of the logical devices of a port return to reset. -/
def ldsReset (s : State) (p : Nat) (ls : List Nat) : State :=
  s.forAll ls fun s l => (s.setLd (masterOf p l) (s.ld (masterOf p l)).portReset).resetPortRing p l

theorem LdKept.portReset (v : LdState) : LdKept v v.portReset := ⟨rfl, rfl, fun _ => rfl⟩

theorem ldsReset_resets {ls : List Nat} {fs : List Fld} (hjobs : s.chisel.jobs = []) (p : Nat)
    (hfs : ∀ l ∈ ls, portRingFields (p * 4 + l) ⊆ fs) :
    Shut fs s (ldsReset s p ls) ∧ ∀ l ∈ ls, ((ldsReset s p ls).ld (masterOf p l)).decoders = [] := by
  induction ls generalizing s with
  | nil => exact ⟨.refl s, fun l hl => absurd hl List.not_mem_nil⟩
  | cons l ls ih =>
    have hld : Shut fs s (s.setLd (masterOf p l) (s.ld (masterOf p l)).portReset) :=
      (Shut.refl s).setLd (LdKept.portReset _)
    obtain ⟨hring, hlds⟩ := shut_resetPortRing (s := s.setLd (masterOf p l) (s.ld (masterOf p l)).portReset)
      hjobs p l
    have hone := hld.trans (hring.mono (hfs l (.head _)))
    obtain ⟨hshut, hdec⟩ := ih (hone.jobs.trans hjobs) fun n hn => hfs n (.tail _ hn)
    refine ⟨hone.trans hshut, fun n hn => ?_⟩
    obtain rfl | hn := List.mem_cons.1 hn
    · refine (hshut.lds _).decoders ?_
      rw [ld_eq_of_lds hlds, State.ld_setLd]
      rfl
    · exact hdec n hn

/-- A port without IDE streams. -/
def unstreamed (v : PortState) : PortState := { v with streams := [], keysProgrammed := [], keySets := [] }

theorem shut_clearIde (p : Nat) : Shut (ideFields p) s (s.clearIde p) ∧ ((s.clearIde p).port p).streams = [] ∧
    ((s.clearIde p).port p).keysProgrammed = [] := by
  have hport : Shut (ideFields p) s (s.setPort p (unstreamed (s.port p))) :=
    (Shut.refl s).setPort ⟨rfl, rfl, List.Subset.refl _, id, fun _ => rfl, fun _ => rfl⟩
  have hregs : Shut (ideFields p) (s.setPort p (unstreamed (s.port p))) (s.clearIde p) :=
    (Shut.refl _).forAllMem fun u f hf k => k.wr (List.mem_map_of_mem hf)
  refine ⟨hport.trans hregs, (hregs.ports p).streams ?_, (hregs.ports p).keys ?_⟩
  · rw [State.port_setPort]
    rfl
  · rw [State.port_setPort]
    rfl

theorem shut_countReset (p cause : Nat) : Shut (countedFields p) s (s.countReset p cause) :=
  (((Shut.refl s).wr (.head _)).wr (.tail _ (.head _))).cause
    (List.subset_cons_of_subset _ (List.subset_cons_self _ _))

/-- A port after its reset, before its pin is looked at. -/
def portCleared (s : State) (p cause : Nat) : State :=
  (((ldsReset (s.closePort p false) p (List.range 4)).clearIde p).fixPort p).countReset p cause

/-- What a reset of a port leaves (R350, R351, R353, R356). -/
structure PortCleared (p cause : Nat) (s t : State) : Prop where
  shut : Shut (portResetFields p) s t
  filter : (t.port p).filter = []
  inv : (t.port p).inv = []
  streams : (t.port p).streams = []
  keys : (t.port p).keysProgrammed = []
  down : ∀ f ∈ linkStatFields p, clear (stoppedFields p ++ (clearedFields p ++ countedFields p)) f = true → t.rd f = 0
  epoch : clear (linkStatFields p ++ stoppedFields p ++ (clearedFields p ++ countedFields p)) (PORT_LINK_STAT.epoch.port p) = true →
    t.rd (PORT_LINK_STAT.epoch.port p) = (s.rd (PORT_LINK_STAT.epoch.port p) + 1) % 2 ^ PORT_LINK_STAT.epoch.width
  cause : clear (causeFields (phyPage p)) (PORT_RESET_STAT.last_cause.port p) = true → cause < 8 →
    t.rd (PORT_RESET_STAT.last_cause.port p) = cause
  counted : clear (closeFields p ++ clearedFields p ++ causeFields (phyPage p)) (PORT_RESETS.count.port p) = true →
    CountedUp s t (PORT_RESETS.count.port p)
  decoders : ∀ l < 4, (t.ld (masterOf p l)).decoders = []

theorem rd_countReset_cause {p cause : Nat} (hc : clear (causeFields (phyPage p)) (PORT_RESET_STAT.last_cause.port p) = true)
    (hcause : cause < 8) : (s.countReset p cause).rd (PORT_RESET_STAT.last_cause.port p) = cause := by
  rw [State.countReset, rd_cause hc, State.bump_eq, rd_wr_apart (by rfl)]
  exact rd_wr_lt hcause

theorem countedUp_countReset {p cause : Nat} (hc : clear (causeFields (phyPage p)) (PORT_RESETS.count.port p) = true) :
    CountedUp s (s.countReset p cause) (PORT_RESETS.count.port p) := by
  rw [CountedUp, State.countReset, rd_cause hc, rd_bump, rd_wr_apart (by rfl)]

theorem portCleared_clears {cause : Nat} (hjobs : s.chisel.jobs = []) (p : Nat) :
    PortCleared p cause s (portCleared s p cause) := by
  have hclose := closed_closePort (s := s) p
  obtain ⟨hlds, hdec⟩ := ldsReset_resets (s := s.closePort p false) (ls := List.range 4) (fs := portRings p)
    (hclose.shut.jobs.trans hjobs) p fun l hl => fun f hf => List.mem_flatMap.2 ⟨l, hl, hf⟩
  obtain ⟨hide, hstreams, hkeys⟩ := shut_clearIde (s := ldsReset (s.closePort p false) p (List.range 4)) p
  have hfix : Shut (boundFields p) ((ldsReset (s.closePort p false) p (List.range 4)).clearIde p)
      (((ldsReset (s.closePort p false) p (List.range 4)).clearIde p).fixPort p) :=
    (Shut.refl _).fixPort (List.Subset.refl _)
  have hcount := shut_countReset (s := ((ldsReset (s.closePort p false) p (List.range 4)).clearIde p).fixPort p) p cause
  rw [portCleared]
  generalize s.closePort p false = a at *
  generalize ldsReset a p (List.range 4) = b at *
  generalize b.clearIde p = c at *
  generalize c.fixPort p = d at *
  have hrings : portRings p ⊆ clearedFields p := List.subset_append_left _ _
  have hides : ideFields p ⊆ clearedFields p := List.subset_append_of_subset_right _ (List.subset_append_left _ _)
  have hbounds : boundFields p ⊆ clearedFields p := List.subset_append_of_subset_right _ (List.subset_append_right _ _)
  have hbd : Shut (clearedFields p) b d := (hide.mono hides).trans (hfix.mono hbounds)
  have had : Shut (clearedFields p) a d := (hlds.mono hrings).trans hbd
  have hae : Shut (clearedFields p ++ countedFields p) a (d.countReset p cause) :=
    (had.mono (List.subset_append_left _ _)).trans (hcount.mono (List.subset_append_right _ _))
  refine ⟨(hclose.shut.mono (List.subset_append_left _ _)).trans (hae.mono (List.subset_append_right _ _)),
    (hae.ports p).filter_nil hclose.filter, (hae.ports p).inv hclose.inv, ?_, ?_, fun f hf hclear => ?_, fun hclear => ?_,
    fun hclear hlt => rd_countReset_cause hclear hlt, fun hclear => ?_, fun l hl => ?_⟩
  · exact (hcount.ports p).streams ((hfix.ports p).streams hstreams)
  · exact (hcount.ports p).keys ((hfix.ports p).keys hkeys)
  · obtain ⟨hstop, hrest⟩ := clear_append.1 hclear
    rw [hae.writes.rd hrest]
    exact hclose.down f hf hstop
  · obtain ⟨hstop, hrest⟩ := clear_append.1 hclear
    rw [hae.writes.rd hrest]
    exact hclose.epoch hstop
  · obtain ⟨hbefore, hcauses⟩ := clear_append.1 hclear
    obtain ⟨hfirst, hsecond⟩ := clear_append.1 hbefore
    have := countedUp_countReset (s := d) (cause := cause) hcauses
    rw [CountedUp, had.writes.rd hsecond, hclose.shut.writes.rd hfirst] at this
    exact this
  · exact (hcount.lds _).decoders ((hbd.lds _).decoders (hdec l (List.mem_range.2 hl)))

theorem portReset_eq {p cause : Nat} (hjobs : s.chisel.jobs = []) (hstalled : s.stalled = []) (hcause : cause ≠ 1) :
    s.portReset p cause false = portCleared s p cause := by
  have hnone := (portCleared_clears (s := s) (cause := cause) hjobs p).shut.stalled hstalled
  unfold State.portReset
  extract_lets a b c
  have hc : c = portCleared s p cause := releaseStalled_of_none hnone
  rw [if_neg hcause, hc]

/-! ## Fields that a port's reset leaves -/

theorem clear_stoppedFields {p : Nat} {f : Fld} (hcfg : ∀ l, clear [PORT_LD_CFG.bound.ld p l] f = true)
    (hlanes : ∀ n, clear (clearedLane p n) f = true)
    (hbound : ∀ l, clear ([PORT_LD_STAT.dec_committed, PORT_LD_STAT.hdmdb, PORT_LD_STAT.tsp_active].map fun f => f.ld p l) f = true)
    (hcal : clear [PHY_CAL_STAT.state.port p, PHY_CAL_STAT.pending.port p] f = true)
    (hcause : clear (causeFields (phyPage p)) f = true) : clear (stoppedFields p) f = true := by
  have hmap : clear ((List.range 4).map fun l => PORT_LD_CFG.bound.ld p l) f = true := by
    rw [List.map_eq_flatMap]
    exact clear_flatMap.2 fun l _ => hcfg l
  exact clear_append.2 ⟨hmap, clear_append.2 ⟨clear_flatMap.2 fun n _ => hlanes n,
    clear_append.2 ⟨clear_flatMap.2 fun l _ => hbound l, clear_append.2 ⟨hcal, hcause⟩⟩⟩⟩

theorem clear_clearedFields {p : Nat} {f : Fld} (hrings : ∀ r, clear (portRingFields r) f = true)
    (hide : clear (ideFields p) f = true)
    (hbound : ∀ l, clear ([PORT_LD_STAT.dec_committed, PORT_LD_STAT.hdmdb, PORT_LD_STAT.tsp_active].map fun f => f.ld p l) f = true) :
    clear (clearedFields p) f = true :=
  clear_append.2 ⟨clear_flatMap.2 fun _ _ => hrings _, clear_append.2 ⟨hide, clear_flatMap.2 fun l _ => hbound l⟩⟩

end Sys2Proof.Proofs

/-! # Spline words and clock crossings (R391 to R411) -/

namespace Sys2Proof.Proofs

open Sys2Proof Sys2Proof.Machine Sys2Proof.Laws

variable {s t u : State}

/-! ## Routing (R391) -/

theorem splineRoute_self (router port : Nat) : splineRoute router router port = port := by
  simp [splineRoute]

/-- A word for another router goes one link nearer to it, along the row while the columns differ. -/
theorem splineRoute_nearer {router dest : Nat} (port : Nat) (hr : router < 16) (hd : dest < 16) (hne : router ≠ dest) :
    ∃ q, splineNeighbour router (splineRoute router dest port) = some q ∧ q < 16 ∧
      ((q : Int) % 4 - dest % 4).natAbs + ((q : Int) / 4 - dest / 4).natAbs + 1 =
        ((router : Int) % 4 - dest % 4).natAbs + ((router : Int) / 4 - dest / 4).natAbs ∧
      (router % 4 ≠ dest % 4 → q / 4 = router / 4) := by
  unfold splineRoute
  split_ifs with heast hwest hsouth hnorth
  · exact ⟨router + 1, by simp [splineNeighbour]; omega, by omega, by omega, by omega⟩
  · exact ⟨router - 1, by simp [splineNeighbour]; omega, by omega, by omega, by omega⟩
  · exact ⟨router + 4, by simp [splineNeighbour]; omega, by omega, by omega, by omega⟩
  · exact ⟨router - 4, by simp [splineNeighbour]; omega, by omega, by omega, by omega⟩
  · omega

/-! ## Grants (R396, R399) -/

section
variable {x : SplineState} {router port plane : Nat} {room : Nat → Bool}

/-- The better of a class so far and another, by how long they have waited. -/
def longerWait (f : Nat → Nat) (best : Option Nat) (c : Nat) : Option Nat :=
  match best with
  | none => some c
  | some b => if f b < f c then some c else best

/-- The longest wait of a list is at one of its classes, and no other has waited longer. -/
theorem foldl_longerWait (f : Nat → Nat) (l : List Nat) (b : Nat) :
    ∃ c, l.foldl (longerWait f) (some b) = some c ∧ (c = b ∨ c ∈ l) ∧ f b ≤ f c ∧ ∀ a ∈ l, f a ≤ f c := by
  induction l generalizing b with
  | nil => exact ⟨b, rfl, .inl rfl, Nat.le_refl _, fun a ha => absurd ha List.not_mem_nil⟩
  | cons a l ih =>
    by_cases h : f b < f a
    · obtain ⟨c, hc, hmem, hle, hall⟩ := ih a
      refine ⟨c, by rw [List.foldl_cons, longerWait, if_pos h, hc], .inr ?_, Nat.le_of_lt (Nat.lt_of_lt_of_le h hle), ?_⟩
      · exact List.mem_cons.2 hmem
      · exact List.forall_mem_cons.2 ⟨hle, hall⟩
    · obtain ⟨c, hc, hmem, hle, hall⟩ := ih b
      refine ⟨c, by rw [List.foldl_cons, longerWait, if_neg h, hc], hmem.imp_right (List.mem_cons_of_mem _), hle, ?_⟩
      exact List.forall_mem_cons.2 ⟨Nat.le_trans (Nat.le_of_not_lt h) hle, hall⟩

/-- The classes of an output that have waited through 7 grants. -/
def lateClasses (x : SplineState) (router port : Nat) (classes : List Nat) : List Nat :=
  classes.filter fun c => decide (7 ≤ x.waitedOut router port c)

theorem mem_lateClasses {classes : List Nat} {c : Nat} :
    c ∈ lateClasses x router port classes ↔ c ∈ classes ∧ 7 ≤ x.waitedOut router port c := by
  rw [lateClasses, List.mem_filter, decide_eq_true_iff]

theorem grantClass_eq (classes : List Nat) : x.grantClass router port classes =
    ((lateClasses x router port classes).foldl (longerWait (x.waitedOut router port)) none <|> classes.head?) := rfl

/-- With no class late the first in order is granted; otherwise none that is late has waited longer. -/
theorem grantClass_some {classes : List Nat} {c : Nat} (h : x.grantClass router port classes = some c) :
    c ∈ classes ∧ ((∀ a ∈ classes, x.waitedOut router port a < 7) → classes.head? = some c) ∧
      ∀ a ∈ classes, 7 ≤ x.waitedOut router port a → x.waitedOut router port a ≤ x.waitedOut router port c := by
  rw [grantClass_eq] at h
  cases hlate : lateClasses x router port classes with
  | nil =>
    rw [hlate] at h
    have hnone : ∀ a ∈ classes, ¬7 ≤ x.waitedOut router port a := fun a ha h7 =>
      absurd (mem_lateClasses.2 ⟨ha, h7⟩) (hlate ▸ List.not_mem_nil)
    exact ⟨List.mem_of_head? h, fun _ => h, fun a ha h7 => absurd h7 (hnone a ha)⟩
  | cons b l =>
    obtain ⟨d, hd, hmem, hle, hall⟩ := foldl_longerWait (x.waitedOut router port) l b
    rw [hlate] at h
    have hdc : d = c := Option.some.inj (hd.symm.trans (by simpa [longerWait, hd] using h))
    subst hdc
    have hlates : d ∈ lateClasses x router port classes := hlate ▸ List.mem_cons.2 hmem
    obtain ⟨hclass, h7⟩ := mem_lateClasses.1 hlates
    refine ⟨hclass, fun hshort => absurd h7 (Nat.not_le.2 (hshort d hclass)), fun a ha ha7 => ?_⟩
    have : a ∈ b :: l := hlate ▸ mem_lateClasses.2 ⟨ha, ha7⟩
    obtain rfl | hal := List.mem_cons.1 this
    · exact hle
    · exact hall a hal

/-- The classes that an output may grant, in their order. -/
def mayGrant (x : SplineState) (router port plane : Nat) (room : Nat → Bool) : List Nat :=
  [4, 3, 2, 1, 0].filter fun c => decide (classPlane c = plane) && room c && !(x.holders router port c).isEmpty

theorem mem_mayGrant {c : Nat} : c ∈ mayGrant x router port plane room ↔
    c < 5 ∧ classPlane c = plane ∧ room c = true ∧ x.holders router port c ≠ [] := by
  have hmem : c ∈ [4, 3, 2, 1, 0] ↔ c < 5 := by
    simp only [List.mem_cons, List.not_mem_nil, or_false]
    omega
  rw [mayGrant, List.mem_filter, hmem]
  simp [List.isEmpty_iff, and_assoc]

theorem head?_mayGrant {c d : Nat} (h : (mayGrant x router port plane room).head? = some c)
    (hd : d ∈ mayGrant x router port plane room) : d ≤ c := by
  have hsorted : (mayGrant x router port plane room).Pairwise (· > ·) := List.Pairwise.filter _ (by decide)
  cases hl : mayGrant x router port plane room with
  | nil => rw [hl] at hd; cases hd
  | cons a l =>
    rw [hl] at h hd hsorted
    obtain rfl : a = c := Option.some.inj h
    obtain rfl | hdl := List.mem_cons.1 hd
    · exact Nat.le_refl _
    · exact Nat.le_of_lt ((List.pairwise_cons.1 hsorted).1 d hdl)

theorem head_cls {input cls : Nat} {w : SplineWord} (h : x.head router input cls = some w) : w.cls.val = cls := by
  obtain ⟨e, he, rfl⟩ := Option.map_eq_some_iff.1 h
  have := List.find?_some he
  simp only [decide_eq_true_eq] at this
  exact this.2.2

theorem holders_routed {cls i : Nat} {w : SplineWord} (hi : i ∈ x.holders router port cls)
    (hw : x.head router i cls = some w) : splineRoute router w.router w.port = port := by
  have := (List.mem_filter.1 hi).2
  rw [hw] at this
  simpa using this

theorem grant_parts {i : Nat} {w : SplineWord} (h : x.grant router port plane room = some (i, w)) :
    x.grantClass router port (mayGrant x router port plane room) = some w.cls.val ∧ i ∈ x.holders router port w.cls ∧
      x.head router i w.cls = some w := by
  obtain ⟨c, hc, h⟩ := Option.bind_eq_some_iff.1 h
  obtain ⟨j, hj, h⟩ := Option.bind_eq_some_iff.1 h
  obtain ⟨v, hv, h⟩ := Option.map_eq_some_iff.1 h
  obtain ⟨rfl, rfl⟩ := Prod.mk.inj h
  obtain rfl := head_cls hv
  exact ⟨hc, List.mem_of_head? hj, hv⟩

end

theorem grant_grants {x : SplineState} {router port plane i : Nat} {room : Nat → Bool} {w : SplineWord}
    (h : x.grant router port plane room = some (i, w)) :
    classPlane w.cls = plane ∧ room w.cls = true ∧ x.head router i w.cls = some w ∧
      splineRoute router w.router w.port = port ∧
      ((∀ c < 5, classPlane c = plane → room c = true → x.holders router port c ≠ [] → x.waitedOut router port c < 7) →
        ∀ c < 5, classPlane c = plane → room c = true → x.holders router port c ≠ [] → c ≤ w.cls.val) ∧
      (∀ c < 5, classPlane c = plane → room c = true → x.holders router port c ≠ [] → 7 ≤ x.waitedOut router port c →
        x.waitedOut router port c ≤ x.waitedOut router port w.cls) := by
  obtain ⟨hclass, hi, hw⟩ := grant_parts h
  obtain ⟨hmem, hfirst, hlate⟩ := grantClass_some hclass
  obtain ⟨-, hplane, hroom, -⟩ := mem_mayGrant.1 hmem
  refine ⟨hplane, hroom, hw, holders_routed hi hw, fun hshort c h5 hp hr hh => ?_, fun c h5 hp hr hh => ?_⟩
  · have hall : ∀ a ∈ mayGrant x router port plane room, x.waitedOut router port a < 7 := fun a ha => by
      obtain ⟨ha5, hap, har, hah⟩ := mem_mayGrant.1 ha
      exact hshort a ha5 hap har hah
    exact head?_mayGrant (hfirst hall) (mem_mayGrant.2 ⟨h5, hp, hr, hh⟩)
  · exact hlate c (mem_mayGrant.2 ⟨h5, hp, hr, hh⟩)

/-! ## Words received (R393, R399) -/

theorem rd_count (f : Fld) (n : Nat) : (s.count f n).rd f = min (s.rd f + n) (2 ^ f.width - 1) := by
  have hpos : 0 < 2 ^ f.width := Nat.two_pow_pos _
  rw [State.count, State.rd_wr_self]
  exact Nat.mod_eq_of_lt (by omega)

/-- A word has been accepted from its link. -/
def wordAccepted (s : State) (d : SplineSend) : State :=
  { s with spline := { s.spline.accept d with retry := s.spline.retry.erase d } }

theorem splineWordReceive_takes {router : Fin 16} {rport : Fin 12} {off : Bool} {plane : Fin 2} {word : SplineWord}
    {d : SplineSend} (harrives : s.splineArrives router rport off plane word = some d)
    (hinj : s.injectedArg 6 (router.val * 16 + rport.val) = none) {lo hi : Fin 3} {a b : Nat}
    (hlo : lo.val = a) (hhi : hi.val = b) : exec (.splineWordReceive router rport ⟨off, plane, word⟩ (lo, hi)) s =
      .next (s.splineWord d (splineLink router rport) a b) := by
  have htake : s.takeInjection 6 (splineLink router rport) = (none, s) := by
    rw [State.takeInjection, show s.injectedArg 6 (splineLink router rport) = none from hinj]
  show Machine.execSplineWordReceive router rport ⟨off, plane, word⟩ (lo, hi) s = _
  unfold Machine.execSplineWordReceive
  rw [harrives]
  dsimp only
  rw [htake, hlo, hhi]

theorem rd_wordAccepted (d : SplineSend) (f : Fld) : (wordAccepted s d).rd f = s.rd f := rfl

theorem keepsData_wordAccepted (d : SplineSend) : KeepsData s (wordAccepted s d) := ⟨rfl, rfl, rfl, rfl⟩

theorem splineWord_passes {lo hi : Nat} (d : SplineSend) (link : Nat) (hlo : lo ≠ 2) (hhi : hi ≠ 2) :
    s.splineWord d link lo hi = wordAccepted (s.splineCorr SPLINE_CORR.count ([lo, hi].count 1) link) d := by
  unfold State.splineWord
  extract_lets a
  rw [if_neg (not_or.2 ⟨hlo, hhi⟩)]
  rfl

theorem splineWord_fails {lo hi : Nat} (d : SplineSend) (link : Nat) (h : lo = 2 ∨ hi = 2) (hno : [lo, hi].count 1 = 0) :
    s.splineWord d link lo hi = s.splineBad d link := by
  unfold State.splineWord
  extract_lets a
  have ha : a = s := if_pos hno
  rw [if_pos h, ha]

theorem splineWord_good (d : SplineSend) (link : Nat) : s.splineWord d link 0 0 = wordAccepted s d := by
  rw [splineWord_passes d link (by decide) (by decide), State.splineCorr, if_pos (by decide)]

/-- One corrected half, or one word asked for once more, is counted and reported. -/
def splineCounted (s : State) (f : Fld) (link : Nat) : State := ((s.count f 1).cause 0x09 1).err 0x09 0x0C01 link

theorem splineWord_corrected (d : SplineSend) (link : Nat) :
    s.splineWord d link 1 0 = wordAccepted (splineCounted s SPLINE_CORR.count link) d := by
  rw [splineWord_passes d link (by decide) (by decide), State.splineCorr, if_neg (by decide)]
  rfl

theorem logged_splineCounted (f : Fld) (link : Nat) : Logged s (splineCounted s f link) :=
  ((logged_wr _ _).trans (logged_cause _ _)).trans (logged_err _ _ _)

theorem countedUp_splineCounted {f : Fld} {link : Nat} (hf : clear (errFields 0x09) f = true)
    (hc : clear (causeFields 0x09) f = true) : CountedUp s (splineCounted s f link) f := by
  rw [CountedUp, splineCounted, rd_err hf, rd_cause hc, rd_count]

theorem spline_of_logged (h : Logged s t) : t.spline = s.spline := by rw [h.frame]

/-- A word that failed its check once is asked for once more. -/
def wordAsked (s : State) (d : SplineSend) : State := { s with spline := { s.spline with retry := s.spline.retry ++ [d] } }

theorem rd_wordAsked (d : SplineSend) (f : Fld) : (wordAsked s d).rd f = s.rd f := rfl

theorem keepsData_wordAsked (d : SplineSend) : KeepsData s (wordAsked s d) := ⟨rfl, rfl, rfl, rfl⟩

theorem splineWord_retried {d : SplineSend} (link : Nat) (hnew : d ∉ s.spline.retry)
    (hen : s.on SPLINE_CTL.retry_en = true) :
    s.splineWord d link 2 0 = splineCounted (wordAsked s d) SPLINE_RETRY.count link := by
  rw [splineWord_fails d link (.inl rfl) (by decide), State.splineBad, if_neg (by simp [hnew, hen]), State.splineCorr,
    if_neg (by decide)]
  rfl

/-- A word that failed its check twice waits for nothing more. -/
def wordLost (s : State) (d : SplineSend) : State := { s with spline := { s.spline with retry := s.spline.retry.erase d } }

theorem wordLost_keeps (d : SplineSend) : (wordLost s d).safe = s.safe ∧ calm (wordLost s d) = calm s := ⟨rfl, rfl⟩

theorem splineWord_fatal {d : SplineSend} (link : Nat) (hagain : d ∈ s.spline.retry) :
    s.splineWord d link 0 2 = (wordLost s d).errImmediate 0x09 0x0C02 link := by
  rw [splineWord_fails d link (.inr rfl) (by decide), State.splineBad, if_pos (.inl hagain)]
  rfl

/-- An error of an Immediate reaction enters Safe State where nothing is under way. -/
theorem errImmediate_enters {page code addr : Nat} (hsafe : s.safe = false) (hcalm : calm s = true) (hpage : page < 128)
    (hf : clear (errFields page) SYS_START_STAT.safe = true) :
    EnteredSafe (s.errImmediate page code addr) page (code % 65536) :=
  enteredSafe_of_calm ((safe_err hf).trans hsafe) (calm_of_logged (logged_err _ _ _) hcalm) hpage

theorem now_errImmediate {page code addr : Nat} (hsafe : s.safe = false) (hcalm : calm s = true)
    (hf : clear (errFields page) SYS_START_STAT.safe = true) : (s.errImmediate page code addr).now = s.now := by
  rw [State.errImmediate, now_enterSafe ((safe_err hf).trans hsafe) (calm_of_logged (logged_err _ _ _) hcalm),
    now_of_logged (logged_err _ _ _)]

/-- Fields apart from those of errors and of the entry to Safe State read as before. -/
theorem rd_errImmediate {page code addr : Nat} {f : Fld} (hsafe : s.safe = false) (hcalm : calm s = true)
    (hf : clear (errFields page) SYS_START_STAT.safe = true)
    (hfields : clear (safeFields ++ [SYS_START_STAT.safe, SYS_SAFE_CAUSE.page, SYS_SAFE_CAUSE.code]) f = true)
    (hrun : ∀ p, apart f (ESC_STAT.running.on p) = true) (herr : clear (errFields page) f = true) :
    (s.errImmediate page code addr).rd f = s.rd f := by
  obtain ⟨hown, hcause⟩ := clear_append.1 hfields
  have hcaused : Writes [SYS_START_STAT.safe, SYS_SAFE_CAUSE.page, SYS_SAFE_CAUSE.code] (s.err page code addr)
      (safeCaused (s.err page code addr) page code) :=
    (((Writes.refl _).wr (.head _)).wr (.tail _ (.head _))).wr (.tail _ (.tail _ (.head _)))
  rw [State.errImmediate, (enterSafe_of_calm ((safe_err hf).trans hsafe) (calm_of_logged (logged_err _ _ _) hcalm)).1.rd hown,
    rd_stopTimers hrun, hcaused.rd hcause, rd_err herr]

/-! ## Clock crossings (R403, R407, R408) -/

/-- A crossing whose side was reset drains the words toward it, which are counted. -/
def crossingDrains (s : State) (x dropped : Nat) : State :=
  ((s.setXing x { s.xing x with resetAt := s.now }).count (SPLINE_XING_DROP.count.ix x) dropped).setXingState x 1

/-- A crossing that has reached step 4 waits for the far side. -/
def crossingWaits (s : State) (x ns : Nat) : State :=
  ((s.setXingState x 2).bump SPLINE_RESYNC.count).longest SPLINE_RESYNC_MAX_NS.ns ns

theorem crossingReset_waits {xing : XingNo} {ns : Nat} (dropped : Nat) (h : s.rd (SPLINE_XING_STAT.state.ix xing) ≠ 3)
    (hns : ns ≤ 2000) : exec (.crossingReset xing dropped ns) s =
      .next ((crossingWaits ((crossingDrains s xing dropped).advance (ns * 1000)) xing ns).cause 0x09 3) := by
  show Machine.execCrossingReset xing dropped ns s = _
  unfold Machine.execCrossingReset
  extract_lets x a b
  rw [if_neg (show ¬s.xingState x = 3 from h), if_neg (by omega)]
  rfl

theorem sets_crossingWaits (x ns : Nat) :
    Sets [SPLINE_XING_STAT.state.ix x, SPLINE_RESYNC.count, SPLINE_RESYNC_MAX_NS.ns] s (crossingWaits s x ns) :=
  (((Sets.refl s).wr (.head _)).wr (.tail _ (.head _))).trans
    ((sets_longest _ ns).mono (List.subset_cons_of_subset _ (List.subset_cons_self _ _)))

theorem crossingWaits_waits (x ns : Nat) : (crossingWaits s x ns).rd (SPLINE_XING_STAT.state.ix x) = 2 ∧
    CountedUp s (crossingWaits s x ns) SPLINE_RESYNC.count := by
  refine ⟨?_, ?_⟩
  · rw [crossingWaits, (sets_longest _ ns).rd, State.bump_eq, rd_wr_apart (by rfl)]
    exact rd_wr_lt (show 2 < 2 ^ 2 by decide)
  · rw [CountedUp, crossingWaits, (sets_longest _ ns).rd, rd_bump, State.setXingState, rd_wr_apart (by rfl)]

theorem crossingDrains_drains (x dropped : Nat) :
    (crossingDrains s x dropped).rd (SPLINE_XING_DROP.count.ix x) =
      min (s.rd (SPLINE_XING_DROP.count.ix x) + dropped) (2 ^ 32 - 1) ∧
    (crossingDrains s x dropped).rd SPLINE_RESYNC.count = s.rd SPLINE_RESYNC.count ∧
    (crossingDrains s x dropped).now = s.now ∧ KeepsData s (crossingDrains s x dropped) := by
  refine ⟨?_, ?_, rfl, rfl, rfl, rfl, rfl⟩
  · rw [crossingDrains, State.setXingState, rd_wr_apart (by rfl), rd_count]
    rfl
  · rw [crossingDrains, State.setXingState, rd_wr_apart (by rfl), State.count, rd_wr_apart (by rfl)]
    rfl

/-- A crossing has not reached step 4 in time, and has failed. -/
def crossingFailed (s : State) (x : Nat) : State :=
  (s.setXing x { s.xing x with failed := true }).setXingState x 3

theorem crossingFailed_fails (x : Nat) : (crossingFailed s x).rd (SPLINE_XING_STAT.state.ix x) = 3 ∧
    (crossingFailed s x).now = s.now ∧ (crossingFailed s x).safe = s.safe ∧ calm (crossingFailed s x) = calm s ∧
    (crossingFailed s x).stalled = s.stalled := by
  unfold crossingFailed State.setXingState
  refine ⟨rd_wr_lt (show 3 < 2 ^ 2 by decide), rfl, ?_, rfl, rfl⟩
  rw [State.safe, State.on, rd_wr_apart (by rfl)]
  rfl

/-- An entry to Safe State leaves the crossings' states. -/
theorem clear_safeFields_xing (x : Nat) : clear (safeFields ++ [SYS_START_STAT.safe, SYS_SAFE_CAUSE.page, SYS_SAFE_CAUSE.code])
    (SPLINE_XING_STAT.state.ix x) = true := by
  have hrings : clear ((List.range 16).map fun r => CHISEL_RING_CTL.enable.ix r) (SPLINE_XING_STAT.state.ix x) = true := by
    rw [List.map_eq_flatMap]
    exact clear_flatMap.2 fun r _ => rfl
  exact clear_append.2 ⟨clear_append.2 ⟨rfl, clear_append.2 ⟨hrings, clear_append.2 ⟨rfl, clear_append.2 ⟨rfl, rfl⟩⟩⟩⟩, rfl⟩

/-- The end of the time in which a crossing must reach step 4. -/
def crossingLimit (s : State) (x : Nat) : Nat := (s.xing x).resetAt + 2 * psUs

theorem two_psUs : 2 * psUs = 2000000 := by decide

theorem stalled_advanceTo (n : Nat) : (s.advanceTo n).stalled = s.stalled := rfl

/-- The port of a crossing goes out of service. -/
def portFails (s : State) (x : Nat) : State := (s.err (phyPage ((x - 64) / 2)) 0x0B0B x).stopPort ((x - 64) / 2)

theorem crossingResyncTimeout_fails {xing : XingNo} (h : s.rd (SPLINE_XING_STAT.state.ix xing) = 1) :
    exec (.crossingResyncTimeout xing) s = .next (if 64 ≤ xing.val ∧ xing.val ≤ 71 then
        portFails (crossingFailed (s.advanceTo (crossingLimit s xing)) xing) xing
      else (crossingFailed (s.advanceTo (crossingLimit s xing)) xing).errImmediate 0x09 0x0C05 xing) := by
  show Machine.execCrossingResyncTimeout xing s = _
  unfold Machine.execCrossingResyncTimeout
  extract_lets x a b p
  rw [if_neg (show ¬s.xingState x ≠ 1 from not_not.2 h)]
  split <;> rfl

theorem clear_portResetFields {p x : Nat} (hp : p < 4) :
    clear (portResetFields p) (SPLINE_XING_STAT.state.ix x) = true := by
  have hclose : ∀ l, clear l (SPLINE_XING_STAT.state.ix x) = true →
      clear (PORT_LINK_STAT.epoch.port p :: l) (SPLINE_XING_STAT.state.ix x) = true := fun l hl => hl
  refine clear_append.2 ⟨hclose _ (clear_append.2 ⟨?_, clear_stoppedFields ?_ ?_ ?_ ?_ ?_⟩),
    clear_append.2 ⟨clear_clearedFields ?_ ?_ ?_, ?_⟩⟩ <;> (try intro n) <;> interval_cases p <;> rfl

/-- A port that leaves service is isolated, and crossings and time stand. -/
theorem stopPort_isolates {p x : Nat} (hp : p < 4) (hjobs : s.chisel.jobs = []) (hstalled : s.stalled = []) :
    ((s.stopPort p).port p).isolated = true ∧ (s.stopPort p).now = s.now ∧
      (s.stopPort p).rd (SPLINE_XING_STAT.state.ix x) = s.rd (SPLINE_XING_STAT.state.ix x) := by
  have hset : ∀ v : PortState, v.isolated = true → ((s.setPort p v).port p).isolated = true := fun v hv => by
    rw [State.port_setPort, hv]
  unfold State.stopPort
  extract_lets _ a
  split
  · exact ⟨hset _ rfl, rfl, rfl⟩
  · have hcleared := (portCleared_clears (s := a) (cause := 2) hjobs p).shut
    have heq : a.portReset p 2 false = portCleared a p 2 := portReset_eq hjobs hstalled (by decide)
    rw [heq]
    exact ⟨(hcleared.ports p).isolated.trans (hset _ rfl), hcleared.now,
      hcleared.writes.rd (clear_portResetFields hp)⟩

theorem stalled_of_logged (h : Logged s t) : t.stalled = s.stalled := by rw [h.frame]
theorem chisel_of_logged (h : Logged s t) : t.chisel = s.chisel := by rw [h.frame]

theorem portFails_isolates {x : Nat} (hx : 64 ≤ x ∧ x ≤ 71) (hcalm : calm s = true) (hstalled : s.stalled = []) :
    ((portFails s x).port ((x - 64) / 2)).isolated = true ∧ (portFails s x).now = s.now ∧
      (portFails s x).rd (SPLINE_XING_STAT.state.ix x) = s.rd (SPLINE_XING_STAT.state.ix x) := by
  have hp : (x - 64) / 2 < 4 := by omega
  have hlogged : Logged s (s.err (phyPage ((x - 64) / 2)) 0x0B0B x) := logged_err _ _ _
  obtain ⟨hisolated, hnow, hstate⟩ := stopPort_isolates (x := x) hp
    ((congrArg ChiselState.jobs (chisel_of_logged hlogged)).trans (calm_iff.1 hcalm).1)
    ((stalled_of_logged hlogged).trans hstalled)
  refine ⟨hisolated, hnow.trans (now_of_logged hlogged), hstate.trans (rd_err ?_ _ _)⟩
  generalize (x - 64) / 2 = p at hp
  interval_cases p <;> rfl

/-! ## The hop time (R410, R411) -/

/-- The hop time is measured. -/
def hopMeasured (s : State) (ps : Nat) : State := (s.wr SPLINE_HOP_PS.ps ps).longest SPLINE_HOP_MAX_PS.ps ps

theorem hopTimeOverLimit_judges {ps : Nat} (h : ps ≤ 1023) : exec (.hopTimeOverLimit ps) s =
    .next (if s.rd SPLINE_HOP_LIMIT.ps < ps then ((hopMeasured s ps).cause 0x09 2).err 0x09 0x0C06 ps
      else hopMeasured s ps) := by
  have hlimit : (hopMeasured s ps).rd SPLINE_HOP_LIMIT.ps = s.rd SPLINE_HOP_LIMIT.ps := by
    rw [hopMeasured, (sets_longest _ ps).rd, rd_wr_apart (by rfl)]
  show Machine.execHopTimeOverLimit ps s = _
  unfold Machine.execHopTimeOverLimit
  extract_lets v a
  have hv : v = ps := Nat.min_eq_left h
  have ha : a = hopMeasured s ps := by
    unfold a
    rw [hv]
    rfl
  rw [ha, hv, hlimit]
  split <;> rfl

theorem sets_hopMeasured (ps : Nat) : Sets [SPLINE_HOP_PS.ps, SPLINE_HOP_MAX_PS.ps] s (hopMeasured s ps) :=
  ((Sets.refl s).wr (.head _)).trans ((sets_longest _ ps).mono (List.subset_cons_self _ _))

theorem rd_hopMeasured {ps : Nat} (h : ps ≤ 1023) : (hopMeasured s ps).rd SPLINE_HOP_PS.ps = ps := by
  rw [hopMeasured, (sets_longest _ ps).rd]
  exact rd_wr_lt (show ps < 2 ^ 10 by omega)

/-! ## The obligation -/

theorem splineWordReceive_receives {router : Fin 16} {rport : Fin 12} {off : Bool} {plane : Fin 2} {word : SplineWord}
    {d : SplineSend} (harrives : s.splineArrives router rport off plane word = some d)
    (hinj : s.injectedArg 6 (router.val * 16 + rport.val) = none) :
    (∃ t, exec (.splineWordReceive router rport ⟨off, plane, word⟩ (0, 0)) s = .next t ∧ SameRegs s t [] ∧
      t.spline = { s.spline.accept d with retry := s.spline.retry.erase d } ∧ t = { s with spline := t.spline }) ∧
    (∃ t, exec (.splineWordReceive router rport ⟨off, plane, word⟩ (1, 0)) s = .next t ∧ CountedUp s t SPLINE_CORR.count ∧
      t.spline = { s.spline.accept d with retry := s.spline.retry.erase d } ∧ KeepsData s t) ∧
    (d ∉ s.spline.retry → s.on SPLINE_CTL.retry_en = true →
      ∃ t, exec (.splineWordReceive router rport ⟨off, plane, word⟩ (2, 0)) s = .next t ∧ CountedUp s t SPLINE_RETRY.count ∧
        t.spline = { s.spline with retry := s.spline.retry ++ [d] } ∧ KeepsData s t) ∧
    (d ∈ s.spline.retry → s.safe = false → calm s = true →
      ∃ t, exec (.splineWordReceive router rport ⟨off, plane, word⟩ (0, 2)) s = .next t ∧ EnteredSafe t 0x09 0x0C02) := by
  refine ⟨?_, ?_, fun hnew hen => ?_, fun hagain hsafe hcalm => ?_⟩
  · exact ⟨_, (splineWordReceive_takes harrives hinj (by rfl) (by rfl)).trans
      (congrArg Host.Outcome.next (splineWord_good d _)), fun _ _ => rfl, rfl, rfl⟩
  · have hlogged := logged_splineCounted (s := s) SPLINE_CORR.count (splineLink router rport)
    have hcounted : CountedUp s (splineCounted s SPLINE_CORR.count (splineLink router rport)) SPLINE_CORR.count :=
      countedUp_splineCounted (by rfl) (by rfl)
    refine ⟨_, (splineWordReceive_takes harrives hinj (by rfl) (by rfl)).trans
      (congrArg Host.Outcome.next (splineWord_corrected d _)), ?_, ?_,
      keepsData_trans hlogged.keepsData (keepsData_wordAccepted d)⟩
    · rw [CountedUp, rd_wordAccepted, hcounted]
    · rw [wordAccepted, spline_of_logged hlogged]
  · have hlogged := logged_splineCounted (s := wordAsked s d) SPLINE_RETRY.count (splineLink router rport)
    have hcounted : CountedUp (wordAsked s d) (splineCounted (wordAsked s d) SPLINE_RETRY.count (splineLink router rport))
      SPLINE_RETRY.count := countedUp_splineCounted (by rfl) (by rfl)
    rw [CountedUp, rd_wordAsked] at hcounted
    exact ⟨_, (splineWordReceive_takes harrives hinj (by rfl) (by rfl)).trans
      (congrArg Host.Outcome.next (splineWord_retried _ hnew hen)),
      hcounted, spline_of_logged hlogged, keepsData_trans (keepsData_wordAsked d) hlogged.keepsData⟩
  · obtain ⟨hs, hc⟩ := wordLost_keeps (s := s) d
    exact ⟨_, (splineWordReceive_takes harrives hinj (by rfl) (by rfl)).trans
      (congrArg Host.Outcome.next (splineWord_fatal _ hagain)),
      errImmediate_enters (hs.trans hsafe) (hc.trans hcalm) (by decide) (by rfl)⟩

theorem crossingReset_resets {xing : XingNo} {ns : Nat} (dropped : Nat) (h : s.rd (SPLINE_XING_STAT.state.ix xing) ≠ 3)
    (hns : ns ≤ 2000) : ∃ t, exec (.crossingReset xing dropped ns) s = .next t ∧
      t.rd (SPLINE_XING_STAT.state.ix xing) = 2 ∧
      t.rd (SPLINE_XING_DROP.count.ix xing) = min (s.rd (SPLINE_XING_DROP.count.ix xing) + dropped) (2 ^ 32 - 1) ∧
      CountedUp s t SPLINE_RESYNC.count ∧ t.now = s.now + ns * 1000 ∧ KeepsData s t := by
  obtain ⟨hdrop, hcount, hnow, hdata⟩ := crossingDrains_drains (s := s) xing dropped
  have hwaits := sets_crossingWaits (s := (crossingDrains s xing dropped).advance (ns * 1000)) xing ns
  obtain ⟨hstate, hcounted⟩ := crossingWaits_waits (s := (crossingDrains s xing dropped).advance (ns * 1000)) xing ns
  refine ⟨_, crossingReset_waits dropped h hns, ?_, ?_, ?_, ?_, ?_⟩
  · rw [rd_cause (by rfl), hstate]
  · rw [rd_cause (by rfl), hwaits.rd, rd_advance, hdrop]
  · rw [CountedUp, rd_cause (by rfl), hcounted, rd_advance, hcount]
  · rw [now_of_logged (logged_cause _ _), hwaits.now, now_advance, hnow]
  · exact keepsData_trans hdata (keepsData_trans (keepsData_advance _)
      (keepsData_trans hwaits.keepsData (logged_cause _ _).keepsData))

theorem crossingReady_readies {xing : XingNo} (h : s.rd (SPLINE_XING_STAT.state.ix xing) = 2) :
    exec (.crossingReady xing) s = .next (s.wr (SPLINE_XING_STAT.state.ix xing) 0) := by
  show Machine.execCrossingReady xing s = _
  rw [Machine.execCrossingReady, if_pos (show s.xingState xing = 2 from h)]
  rfl

theorem crossingResyncTimeout_ends {xing : XingNo} (h : s.rd (SPLINE_XING_STAT.state.ix xing) = 1) (hsafe : s.safe = false)
    (hcalm : calm s = true) (hstalled : s.stalled = []) :
    ∃ t, exec (.crossingResyncTimeout xing) s = .next t ∧ t.rd (SPLINE_XING_STAT.state.ix xing) = 3 ∧
      t.now = max s.now ((s.xing xing).resetAt + 2000000) ∧
      (if 64 ≤ xing.val ∧ xing.val ≤ 71 then (t.port ((xing.val - 64) / 2)).isolated = true
      else EnteredSafe t 0x09 0x0C05) := by
  obtain ⟨hstate, hnow, hsafe', hcalm', hstalled'⟩ :=
    crossingFailed_fails (s := s.advanceTo (crossingLimit s xing)) xing
  have hat : (s.advanceTo (crossingLimit s xing)).now = max s.now ((s.xing xing).resetAt + 2000000) := by
    rw [now_advanceTo, crossingLimit, two_psUs]
  have hc := hcalm'.trans ((calm_advanceTo _).trans hcalm)
  have hs := hsafe'.trans ((safe_advanceTo _).trans hsafe)
  refine ⟨_, crossingResyncTimeout_fails h, ?_⟩
  split
  · rename_i hx
    obtain ⟨hisolated, hnow', hstate'⟩ := portFails_isolates hx hc (hstalled'.trans ((stalled_advanceTo _).trans hstalled))
    exact ⟨hstate'.trans hstate, hnow'.trans (hnow.trans hat), hisolated⟩
  · refine ⟨?_, ?_, errImmediate_enters hs hc (by decide) (by rfl)⟩
    · rw [rd_errImmediate hs hc (by rfl) (clear_safeFields_xing xing) (fun _ => rfl) (by rfl), hstate]
    · rw [now_errImmediate hs hc (by rfl), hnow, hat]

theorem hopTimeOverLimit_shows {ps : Nat} (h : ps ≤ 1023) :
    ∃ t, exec (.hopTimeOverLimit ps) s = .next t ∧ t.rd SPLINE_HOP_PS.ps = ps ∧
      (s.rd SPLINE_HOP_LIMIT.ps < ps → t.rd (ERR_STAT.ce.on 0x09) = 1 ∧
        bitOf (t.rd (INT_STAT.causes.on 0x09)) 1 = true) ∧
      (ps ≤ s.rd SPLINE_HOP_LIMIT.ps → SameRegs s t [SPLINE_HOP_PS.ps, SPLINE_HOP_MAX_PS.ps]) ∧ KeepsData s t := by
  have hmeasured := sets_hopMeasured (s := s) ps
  refine ⟨_, hopTimeOverLimit_judges h, ?_⟩
  split
  · rename_i hover
    obtain ⟨hce, -⟩ := rd_err_corrected (s := (hopMeasured s ps).cause 0x09 2) (page := 0x09) (code := 0x0C06) (addr := ps) rfl
    refine ⟨?_, fun _ => ⟨hce, ?_⟩, fun hle => absurd hover (Nat.not_lt.2 hle), ?_⟩
    · rw [rd_err (by rfl), rd_cause (by rfl), rd_hopMeasured h]
    · rw [rd_err (by rfl), bitOf_rd_cause (by decide)]
      exact Bool.or_true _
    · exact keepsData_trans hmeasured.keepsData ((logged_cause _ _).trans (logged_err _ _ _)).keepsData
  · rename_i hunder
    exact ⟨rd_hopMeasured h, fun hlt => absurd hlt hunder, fun _ => hmeasured.regs, hmeasured.keepsData⟩

theorem toggleOverrun_enters (xing : XingNo) (hsafe : s.safe = false) (hcalm : calm s = true) :
    ∃ t, exec (.toggleOverrun xing) s = .next t ∧ EnteredSafe t 0x09 0x0C04 ∧ CountedUp s t SPLINE_TOGGLE_OVR.count := by
  have hs : (s.bump SPLINE_TOGGLE_OVR.count).safe = false := by
    rw [State.safe, State.on, State.bump_eq, rd_wr_apart (by rfl)]
    exact hsafe
  have hc : calm (s.bump SPLINE_TOGGLE_OVR.count) = true := calm_of_logged (logged_wr _ _) hcalm
  refine ⟨_, rfl, errImmediate_enters hs hc (by decide) (by rfl), ?_⟩
  rw [CountedUp, rd_errImmediate hs hc (by rfl) (by rfl) (fun _ => rfl) (by rfl), rd_bump]

theorem splineWatchdogExpiry_waits {router : Fin 16} {rport : Fin 12} {pc : PcNo} (h : s.declaredWait pc = true) :
    exec (.splineWatchdogExpiry router rport 0 (some pc)) s = .next s := by
  show Machine.execSplineWatchdogExpiry router rport 0 (some pc) s = _
  rw [Machine.execSplineWatchdogExpiry, if_pos ⟨rfl, h⟩]

theorem splineWatchdogExpiry_enters (router : Fin 16) (rport : Fin 12) (cls : Fin 5) :
    exec (.splineWatchdogExpiry router rport cls none) s =
      .next (s.errImmediate 0x09 0x0C03 (splineLink router rport + cls.val * 256)) := by
  show Machine.execSplineWatchdogExpiry router rport cls none s = _
  rw [Machine.execSplineWatchdogExpiry, if_neg (by simp)]

/-- Settles O43: a route is one of two axes; a grant is by class or by the longest wait; a reset side, a failed crossing
and a slow hop go through the lemmas above. -/
theorem splineWordsAndCrossings : Obligations.SplineWordsAndCrossings := by
  unfold Obligations.SplineWordsAndCrossings
  refine ⟨fun router dest port hr hd _ => ⟨?_, splineRoute_nearer port hr hd⟩, fun x router port plane i room w => grant_grants,
    fun router rport off plane word lo hi s harrives => ?_,
    fun router rport off plane word d s => splineWordReceive_receives,
    fun router rport cls s hsafe hcalm => ?_, fun router rport pc s => splineWatchdogExpiry_waits,
    fun xing s => toggleOverrun_enters xing, fun xing dropped ns s => crossingReset_resets dropped, fun xing s h => ?_,
    fun xing s => crossingResyncTimeout_ends, fun ps s => hopTimeOverLimit_shows⟩
  · rintro rfl
    exact splineRoute_self _ _
  · show Machine.execSplineWordReceive router rport ⟨off, plane, word⟩ (lo, hi) s = _
    unfold Machine.execSplineWordReceive
    rw [harrives]
  · exact ⟨_, splineWatchdogExpiry_enters router rport cls, errImmediate_enters hsafe hcalm (by decide) (by rfl)⟩
  · have hsets : Sets [SPLINE_XING_STAT.state.ix xing] s (s.wr (SPLINE_XING_STAT.state.ix xing) 0) :=
      (Sets.refl s).wr (.head _)
    exact ⟨_, crossingReady_readies h, rd_wr_lt (Nat.two_pow_pos _), hsets.regs, hsets.frame⟩

end Sys2Proof.Proofs

/-! # Resets of ports and logical devices, and training after PERST (R350, R351, R355) -/

namespace Sys2Proof.Proofs

open Sys2Proof Sys2Proof.Machine Sys2Proof.Laws

variable {s t u : State}

/-! ## A reset by PERST (R350, R355) -/

/-- A port whose PERST has been recognised low. -/
def perstLow (s : State) (p : Nat) : State :=
  (s.setPort p { s.port p with perstHigh := false }).wakeOver p

/-- What changes as a port that is in reset no longer asks for WAKE_N. -/
structure PerstTaken (p : Nat) (s t : State) : Prop where
  flds : t.flds = s.flds
  lds : t.lds = s.lds
  data : KeepsData s t
  port : t.port p = { s.port p with perstHigh := false, wake := false }
  phase : t.sys = s.sys

theorem perstLow_takes (p : Nat) : PerstTaken p s (perstLow s p) := by
  have hport : ((s.setPort p { s.port p with perstHigh := false }).setPort p
      { (s.setPort p { s.port p with perstHigh := false }).port p with wake := false }).port p =
      { s.port p with perstHigh := false, wake := false } := by
    rw [State.port_setPort, State.port_setPort]
  unfold perstLow State.wakeOver State.fixWake
  extract_lets a
  split
  · exact ⟨rfl, rfl, ⟨rfl, rfl, rfl, rfl⟩, hport, rfl⟩
  · exact ⟨rfl, rfl, ⟨rfl, rfl, rfl, rfl⟩, hport, rfl⟩

theorem portReset_perst {p : Nat} (hjobs : s.chisel.jobs = []) (hstalled : s.stalled = []) :
    s.portReset p 1 false = perstLow (portCleared s p 1) p := by
  have hnone := (portCleared_clears (s := s) (cause := 1) hjobs p).shut.stalled hstalled
  unfold State.portReset
  extract_lets a b c
  have hc : c = portCleared s p 1 := releaseStalled_of_none hnone
  rw [if_pos rfl]
  show perstLow c p = _
  rw [hc]

theorem mayTrain_of_low {p : Nat} (h : (s.port p).perstHigh = false) : s.mayTrain p = false := by
  simp [State.mayTrain, h]

/-- A host port that may not train stays as it is. -/
theorem train_of_not {p : Nat} (hp : p ≠ 4) (h : s.mayTrain p = false) : s.train p = s := by
  unfold State.train
  extract_lets v
  have hv : v = s := by
    unfold v
    rw [if_neg hp, h]
    rfl
  rw [hv, if_neg]
  rintro ⟨h0, h1⟩
  exact absurd (h0.symm.trans h1) (by decide)

theorem portReset_takes {port : PortNo} {group : GroupNo} (hg : group.val = port.val) (hport : s.hasPort port = true)
    (hphase : s.sys.phase = .active) (hstalled : s.stalled = []) (hjobs : s.chisel.jobs = []) :
    exec (.portReset group 1 false) s = .next (perstLow (portCleared s port 1) port) := by
  have hlt : port.val < 4 := port.isLt
  have hlow : ((perstLow (portCleared s port 1) port).port port).perstHigh = false := by
    rw [(perstLow_takes (s := portCleared s port 1) port).port]
  have htake : s.takeReset port 1 false = perstLow (portCleared s port 1) port := by
    rw [State.takeReset, if_neg (by decide), portReset_perst hjobs hstalled,
      train_of_not (Nat.ne_of_lt hlt) (mayTrain_of_low hlow)]
  show Machine.execPortReset group 1 false s = _
  unfold Machine.execPortReset
  extract_lets c
  have hc : c = 1 := rfl
  rw [hg, hc, if_neg (by decide), if_neg (Nat.ne_of_lt hlt), if_neg (by simp [hphase, hport]),
    if_neg (fun h => absurd h.1 (by decide)), htake]

/-- The status of a link and the count of resets stand while lanes stop and rings and streams are cleared. -/
theorem clear_walkFields {p : Nat} {g : Fld} (hp : p < 4)
    (hg : g = PORT_LINK_STAT.mode ∨ g = PHY_STAT.ltssm ∨ g = PORT_LINK_STAT.epoch ∨ g = PORT_RESETS.count) :
    clear (stoppedFields p) (g.port p) = true ∧ clear (clearedFields p) (g.port p) = true := by
  obtain rfl | rfl | rfl | rfl := hg <;>
    refine ⟨clear_stoppedFields ?_ ?_ ?_ ?_ ?_, clear_clearedFields ?_ ?_ ?_⟩ <;> (try intro n) <;> interval_cases p <;> rfl

theorem clear_counts {p : Nat} (hp : p < 4) : clear (countedFields p) (PORT_LINK_STAT.mode.port p) = true ∧
    clear (countedFields p) (PHY_STAT.ltssm.port p) = true ∧
    clear (linkStatFields p) (PORT_LINK_STAT.epoch.port p) = true ∧
    clear (countedFields p) (PORT_LINK_STAT.epoch.port p) = true ∧
    clear (linkStatFields p) (PORT_RESETS.count.port p) = true ∧
    apart (PORT_RESETS.count.port p) (PORT_LINK_STAT.epoch.port p) = true ∧
    clear (causeFields (phyPage p)) (PORT_RESETS.count.port p) = true ∧
    clear (causeFields (phyPage p)) (PORT_RESET_STAT.last_cause.port p) = true := by
  interval_cases p <;> exact ⟨rfl, rfl, rfl, rfl, rfl, rfl, rfl, rfl⟩

/-- What a reset of a port leaves in its registers. -/
theorem PortCleared.regs {p cause : Nat} (h : PortCleared p cause s t) (hp : p < 4) (hcause : cause < 8) :
    t.rd (PORT_LINK_STAT.mode.port p) = 0 ∧ t.rd (PHY_STAT.ltssm.port p) = 0 ∧
      t.rd (PORT_LINK_STAT.epoch.port p) = (s.rd (PORT_LINK_STAT.epoch.port p) + 1) % 2 ^ PORT_LINK_STAT.epoch.width ∧
      t.rd (PORT_RESET_STAT.last_cause.port p) = cause ∧ CountedUp s t (PORT_RESETS.count.port p) := by
  obtain ⟨hmode, hltssm, hepochLink, hepoch, hresetsLink, hresetsEpoch, hresets, hlast⟩ := clear_counts hp
  obtain ⟨hmodeStop, hmodeClear⟩ := clear_walkFields hp (.inl rfl)
  obtain ⟨hltssmStop, hltssmClear⟩ := clear_walkFields hp (.inr (.inl rfl))
  obtain ⟨hepochStop, hepochClear⟩ := clear_walkFields hp (.inr (.inr (.inl rfl)))
  obtain ⟨hresetsStop, hresetsClear⟩ := clear_walkFields hp (.inr (.inr (.inr rfl)))
  have hclose : clear (closeFields p) (PORT_RESETS.count.port p) = true :=
    clear_cons.2 ⟨hresetsEpoch, clear_append.2 ⟨hresetsLink, hresetsStop⟩⟩
  refine ⟨?_, ?_, ?_, h.cause hlast hcause, ?_⟩
  · exact h.down _ (.head _) (clear_append.2 ⟨hmodeStop, clear_append.2 ⟨hmodeClear, hmode⟩⟩)
  · exact h.down _ (List.mem_map_of_mem (f := fun f : Fld => f.port p) (by decide : PHY_STAT.ltssm ∈ _))
      (clear_append.2 ⟨hltssmStop, clear_append.2 ⟨hltssmClear, hltssm⟩⟩)
  · exact h.epoch (clear_append.2 ⟨clear_append.2 ⟨hepochLink, hepochStop⟩, clear_append.2 ⟨hepochClear, hepoch⟩⟩)
  · exact h.counted (clear_append.2 ⟨clear_append.2 ⟨hclose, hresetsClear⟩, hresets⟩)

theorem portReset_resets {port : PortNo} {group : GroupNo} (hg : group.val = port.val) (hport : s.hasPort port = true)
    (hphase : s.sys.phase = .active) (hstalled : s.stalled = []) (hjobs : s.chisel.jobs = []) (hheld : s.folio.held = []) :
    ∃ t, exec (.portReset group 1 false) s = .next t ∧ (t.port port).perstHigh = false ∧ (t.port port).filter = [] ∧
      (t.port port).inv = [] ∧ (t.port port).streams = [] ∧ (t.port port).keysProgrammed = [] ∧
      t.rd (PORT_LINK_STAT.mode.port port) = 0 ∧ t.rd (PHY_STAT.ltssm.port port) = 0 ∧
      t.rd (PORT_LINK_STAT.epoch.port port) = (s.rd (PORT_LINK_STAT.epoch.port port) + 1) % 2 ^ PORT_LINK_STAT.epoch.width ∧
      t.rd (PORT_RESET_STAT.last_cause.port port) = 1 ∧ CountedUp s t (PORT_RESETS.count.port port) ∧
      (∀ l < 4, (t.ld (masterOf port l)).decoders = [] ∧
        (t.ld (masterOf port l)).info = (s.ld (masterOf port l)).info ∧
        (t.ld (masterOf port l)).fail = (s.ld (masterOf port l)).fail) ∧
      KeepsData s t := by
  have hcleared := portCleared_clears (s := s) (cause := 1) hjobs port
  obtain ⟨hmode, hltssm, hepoch, hcause, hcounted⟩ := hcleared.regs port.isLt (by decide)
  have hperst := perstLow_takes (s := portCleared s port 1) port
  refine ⟨_, portReset_takes hg hport hphase hstalled hjobs, ?_, ?_, ?_, ?_, ?_, ?_, ?_, ?_, ?_, ?_, fun l hl => ?_,
    keepsData_trans (hcleared.shut.data hheld) hperst.data⟩
  · rw [hperst.port]
  · rw [hperst.port]
    exact hcleared.filter
  · rw [hperst.port]
    exact hcleared.inv
  · rw [hperst.port]
    exact hcleared.streams
  · rw [hperst.port]
    exact hcleared.keys
  · rw [rd_of_flds hperst.flds, hmode]
  · rw [rd_of_flds hperst.flds, hltssm]
  · rw [rd_of_flds hperst.flds, hepoch]
  · rw [rd_of_flds hperst.flds, hcause]
  · rw [CountedUp, rd_of_flds hperst.flds, hcounted]
  · rw [ld_eq_of_lds hperst.lds]
    exact ⟨hcleared.decoders l hl, (hcleared.shut.lds _).info, (hcleared.shut.lds _).fail⟩

/-! ## A CXL Reset of one logical device (R350, R351) -/

/-- A port without the lines that some of its devices have read. -/
def linesGone (v : PortState) (gone : List Nat) : PortState :=
  { v with filter := v.filter.filter fun e => decide (e.1 * 64 ∉ gone), inv := v.inv.filter fun i => decide (i.loc ∉ gone) }

/-- A logical device before its reset is counted. -/
def ldCleared (s : State) (p l : Nat) : State :=
  (((s.endEpoch p (some l)).setPort p (linesGone (s.port p) ((s.port p).linesOf (masterOf p l)))).resetPortRing p l).wr
    (PORT_RESET_STAT.last_ld.port p) l

/-- The fields that a CXL Reset writes before it is counted. -/
def ldClearedFields (p l : Nat) : List Fld := PORT_RESET_STAT.last_ld.port p :: portRingFields (p * 4 + l)

theorem ldCleared_clears (p l : Nat) (hjobs : s.chisel.jobs = []) :
    Shut (ldClearedFields p l) s (ldCleared s p l) ∧ (ldCleared s p l).lds = s.lds ∧
      ∀ e ∈ ((ldCleared s p l).port p).filter, e ∈ (s.port p).filter := by
  have hfilter : ∀ v : PortState, ∀ gone, (linesGone v gone).filter ⊆ v.filter := fun v gone e he =>
    (List.mem_filter.1 he).1
  have hinv : ∀ v : PortState, ∀ gone, v.inv = [] → (linesGone v gone).inv = [] := fun v gone h => by
    rw [linesGone, h]
    rfl
  obtain ⟨hend, hlds⟩ := endEpoch_keeps (s := s) (l := ldClearedFields p l) p (some l)
  have hport := hend.setPort (p := p) (v := linesGone (s.port p) ((s.port p).linesOf (masterOf p l)))
    ⟨rfl, rfl, hfilter _ _, hinv _ _, id, id⟩
  obtain ⟨hring, hlds'⟩ := shut_resetPortRing (s := (s.endEpoch p (some l)).setPort p
    (linesGone (s.port p) ((s.port p).linesOf (masterOf p l)))) (hport.jobs.trans hjobs) p l
  have hall := (hport.trans (hring.mono (List.subset_cons_self _ _))).wr (f := PORT_RESET_STAT.last_ld.port p) (v := l) (.head _)
  refine ⟨hall, ?_, fun e he => (hall.ports p).filter he⟩
  rw [ldCleared, State.wr_lds, hlds']
  exact hlds

theorem resetLd_eq {p l : Nat} (hjobs : s.chisel.jobs = []) (hstalled : s.stalled = []) :
    s.resetLd p l = (ldCleared s p l).countReset p 5 := by
  have hnone : ((ldCleared s p l).countReset p 5).stalled = [] :=
    (shut_countReset p 5).stalled ((ldCleared_clears p l hjobs).1.stalled hstalled)
  exact releaseStalled_of_none hnone

theorem clear_ldFields {p : Nat} (l : Nat) (hp : p < 4) : clear (ldClearedFields p l) (PORT_RESETS.count.port p) = true ∧
    clear (PORT_RESETS.count.port p :: PORT_RESET_STAT.last_cause.port p :: causeFields (phyPage p))
      (PORT_RESET_STAT.last_ld.port p) = true ∧
    clear (causeFields (phyPage p)) (PORT_RESETS.count.port p) = true ∧
    clear (causeFields (phyPage p)) (PORT_RESET_STAT.last_cause.port p) = true := by
  have hring : ∀ r, clear (portRingFields r) (PORT_RESETS.count.port p) = true := fun r => by
    interval_cases p <;> rfl
  refine ⟨clear_cons.2 ⟨rfl, hring _⟩, ?_⟩
  interval_cases p <;> exact ⟨rfl, rfl, rfl⟩

theorem lds_countReset (p cause : Nat) : (s.countReset p cause).lds = s.lds := by
  rw [State.countReset, (alerted_cause (phyPage p) 2).frame]
  rfl

theorem cxlReset_resets {port : PortNo} {ld : LdNo} (hport : s.hasPort port = true) (hopen : s.linkOpen port = true)
    (hphase : s.sys.phase = .active) (hstalled : s.stalled = []) (hjobs : s.chisel.jobs = []) (hheld : s.folio.held = []) :
    ∃ t, exec (.cxlReset port ld) s = .next t ∧ (∀ e ∈ (t.port port).filter, e ∈ (s.port port).filter) ∧
      t.rd (PORT_RESET_STAT.last_cause.port port) = 5 ∧ t.rd (PORT_RESET_STAT.last_ld.port port) = ld.val ∧
      CountedUp s t (PORT_RESETS.count.port port) ∧ t.lds = s.lds ∧ KeepsData s t := by
  obtain ⟨hshut, hlds, hfilter⟩ := ldCleared_clears (s := s) port ld hjobs
  obtain ⟨hresets, hld, hresetsCause, hcause⟩ := clear_ldFields ld.val port.isLt
  have hcount := shut_countReset (s := ldCleared s port ld) port 5
  have hcounted := countedUp_countReset (s := ldCleared s port ld) (cause := 5) hresetsCause
  have hexec : exec (.cxlReset port ld) s = .next ((ldCleared s port ld).countReset port 5) := by
    show Machine.execCxlReset port ld s = _
    rw [Machine.execCxlReset, if_pos (by simp [hport, hopen, hphase]), resetLd_eq hjobs hstalled]
  refine ⟨_, hexec, fun e he => hfilter e ((hcount.ports _).filter he), rd_countReset_cause hcause (by decide), ?_, ?_,
    (lds_countReset _ _).trans hlds, keepsData_trans (hshut.data hheld) (hcount.data ?_)⟩
  · have hwrites : Writes (PORT_RESETS.count.port port :: PORT_RESET_STAT.last_cause.port port :: causeFields (phyPage port))
        (ldCleared s port ld) ((ldCleared s port ld).countReset port 5) :=
      hcount.writes.mono (List.Perm.subset (.swap _ _ _))
    rw [hwrites.rd hld, ldCleared]
    exact rd_wr_lt (show ld.val < 2 ^ 2 from ld.isLt)
  · rw [CountedUp, hshut.writes.rd hresets] at hcounted
    exact hcounted
  · obtain ⟨-, -, hfolio, -⟩ := hshut.data hheld
    rw [hfolio, hheld]

/-! ## A Function Level Reset (R350) -/

/-- A message that a Function Level Reset of a logical device leaves waiting. -/
def otherLd (ld : Nat) (o : Out) : Bool :=
  match o with
  | .msix _ l _ => decide (l ≠ ld)
  | _ => true

/-- A port without the MSI-X messages of a logical device. -/
def msixGone (v : PortState) (ld : Nat) : PortState := { v with waitOut := v.waitOut.filter (otherLd ld) }

/-- A logical device without a firmware transfer. -/
def transferGone (v : LdState) : LdState := { v with fwOffset := none }

/-- A function after its reset. -/
def functionReset (s : State) (p ld : Nat) : State :=
  (s.setLd (masterOf p ld) (transferGone (s.ld (masterOf p ld)))).setPort p (msixGone (s.port p) ld)

theorem functionLevelReset_resets {port : PortNo} {ld : LdNo} (hport : s.hasPort port = true)
    (hopen : s.linkOpen port = true) (hphase : s.sys.phase = .active) :
    exec (.functionLevelReset port ld) s = .next (functionReset s port ld) := by
  show Machine.execFunctionLevelReset port ld s = _
  rw [Machine.execFunctionLevelReset, if_neg (by simp [hport, hopen, hphase])]
  rfl

theorem functionReset_clears (p ld : Nat) :
    ((functionReset s p ld).ld (masterOf p ld)) = transferGone (s.ld (masterOf p ld)) ∧
      (functionReset s p ld).port p = msixGone (s.port p) ld := by
  refine ⟨?_, State.port_setPort _ p _⟩
  show (s.setLd _ _).ld _ = _
  rw [State.ld_setLd]

theorem msix_notMem_msixGone (v : PortState) (ld l n : Nat) : Out.msix l ld n ∉ (msixGone v ld).waitOut := fun h => by
  have := (List.mem_filter.1 h).2
  simp [otherLd] at this

/-! ## PERST is high again (R355) -/

/-- A port whose link polls lets every lane hunt. -/
def hunting (s : State) (p : Nat) : State :=
  (s.forAll (List.range 8) fun s n => s.clearLane p n).setPort p { s.port p with retryAt := none }

theorem train_polls {p : Nat} (hp : p ≠ 4) (hmay : s.mayTrain p = true) (hdown : s.rd (PHY_STAT.ltssm.port p) = 0) :
    s.train p = hunting (s.wr (PHY_STAT.ltssm.port p) 1) p := by
  have hup : (s.wr (PHY_STAT.ltssm.port p) 1).rd (PHY_STAT.ltssm.port p) = 1 := rd_wr_lt (show 1 < 2 ^ 5 by decide)
  unfold State.train
  extract_lets v
  have hv : v = s.wr (PHY_STAT.ltssm.port p) 1 := by
    unfold v
    rw [if_neg hp, if_pos (by rw [hmay, decide_eq_true hdown]; rfl)]
  show (if _ then hunting v p else v) = _
  rw [hv, if_pos ⟨hdown, hup⟩]

/-- Lanes of a group have been cleared, and hunt. -/
structure LanesCleared (g : Nat) (ns : List Nat) (s t : State) : Prop where
  writes : Writes (ns.flatMap (clearedLane g)) s t
  frame : t = { s with flds := t.flds, lanes := t.lanes }
  locks : ∀ n ∈ ns, (t.lane (laneNo g n)).lock = none
  others : ∀ k, (s.lane k).lock = none → (t.lane k).lock = none

theorem lane_setLane_wr (k : Nat) (x : LaneState) (f : Fld) (y j : Nat) :
    ((s.setLane k x).wr f y).lane j = (s.setLane k x).lane j := State.wr_lane _ _ _ _

theorem frame_setLane_wr (h : t = { s with flds := t.flds }) (k : Nat) (x : LaneState) (f : Fld) (y : Nat) :
    (t.setLane k x).wr f y =
      { s with flds := ((t.setLane k x).wr f y).flds, lanes := ((t.setLane k x).wr f y).lanes } := by
  rw [h]
  rfl

theorem writes_setLane_wr {l : List Fld} (h : Writes l s t) {f : Fld} (hf : f ∈ l) (k : Nat) (x : LaneState) (y : Nat) :
    Writes l s ((t.setLane k x).wr f y) := (h.flds (u := t.setLane k x) rfl).wr hf

theorem lock_setLane {k j : Nat} {x : LaneState} (hx : x.lock = none) (h : k = j ∨ (s.lane k).lock = none) :
    ((s.setLane j x).lane k).lock = none := by
  by_cases hkj : k = j
  · rw [hkj, State.lane_setLane, hx]
  · rw [State.lane_setLane_ne _ hkj, h.resolve_left hkj]

/-- A lane that has lost its lock and hunts. -/
def laneHunting (l : LaneState) (now : Nat) : LaneState := { l with lock := none, huntAt := now, failed := false }

theorem clearLane_eq (g n : Nat) : ∃ v x y, Sets (clearedLane g n) s v ∧ x.lock = none ∧
    s.clearLane g n = (v.setLane (laneNo g n) x).wr (PHY_LANE_STAT.failed.lane g n) y := by
  have hfields : Sets (clearedLane g n) s (s.forAll laneFields fun s f => s.clr (f.lane g n)) :=
    (Sets.refl s).forAllMem fun u f hf k => k.wr (List.mem_map_of_mem (List.mem_cons_of_mem _ hf))
  exact ⟨_, laneHunting _ _, _, hfields, rfl, rfl⟩

theorem lanesCleared_clearLane (g n : Nat) : LanesCleared g [n] s (s.clearLane g n) := by
  obtain ⟨v, x, y, hfields, hx, heq⟩ := clearLane_eq (s := s) g n
  have hlane : ∀ k, v.lane k = s.lane k := fun k => by rw [State.lane, State.lane, hfields.frame]
  rw [heq]
  refine ⟨?_, frame_setLane_wr hfields.frame _ _ _ _, fun m hm => ?_, fun k hk => ?_⟩
  · rw [List.flatMap_cons, List.flatMap_nil, List.append_nil]
    exact writes_setLane_wr hfields.writes (.head _) _ _ _
  · rw [lane_setLane_wr, List.mem_singleton.1 hm]
    exact lock_setLane hx (.inl rfl)
  · rw [lane_setLane_wr]
    exact lock_setLane hx (.inr (by rw [hlane, hk]))

theorem lanesCleared_forAll (g : Nat) (ns : List Nat) :
    LanesCleared g ns s (s.forAll ns fun s n => s.clearLane g n) := by
  induction ns generalizing s with
  | nil => exact ⟨.refl s, rfl, fun n hn => absurd hn List.not_mem_nil, fun _ => id⟩
  | cons n ns ih =>
    have hone := lanesCleared_clearLane (s := s) g n
    have hrest := ih (s := s.clearLane g n)
    refine ⟨(hone.writes.mono ?_).trans (hrest.writes.mono ?_), ?_, fun m hm => ?_, fun k hk => hrest.others k (hone.others k hk)⟩
    · rw [List.flatMap_cons, List.flatMap_cons, List.flatMap_nil, List.append_nil]
      exact List.subset_append_left _ _
    · rw [List.flatMap_cons]
      exact List.subset_append_right _ _
    · rw [forAll_cons, hrest.frame, hone.frame]
    · obtain rfl | hm := List.mem_cons.1 hm
      · exact hrest.others _ (hone.locks _ (.head _))
      · exact hrest.locks m hm

/-- A port whose PERST has been released. -/
def perstHeld (s : State) (p : Nat) : State := s.setPort p { s.port p with perstHigh := true }

theorem perstRelease_polls {port : PortNo} {group : GroupNo} (hg : group.val = port.val)
    (hmay : (perstHeld s port).mayTrain port = true) (hdown : s.rd (PHY_STAT.ltssm.port port) = 0) :
    exec (.perstRelease group) s = .next (hunting ((perstHeld s port).wr (PHY_STAT.ltssm.port port) 1) port) := by
  have hlt : port.val < 4 := port.isLt
  show Machine.execPerstRelease group s = _
  rw [Machine.execPerstRelease, hg, if_neg (Nat.ne_of_lt hlt)]
  exact congrArg Host.Outcome.next (train_polls (s := perstHeld s port) (Nat.ne_of_lt hlt) hmay hdown)

theorem frame_setPort_lanes (h : t = { s with flds := t.flds, lanes := t.lanes }) (p : Nat) (v : PortState) :
    t.setPort p v =
      { s with flds := (t.setPort p v).flds, ports := (t.setPort p v).ports, lanes := (t.setPort p v).lanes } := by
  rw [h]
  rfl

theorem hunting_hunts {p : Nat} (hp : p < 4) : ((hunting s p).port p).perstHigh = (s.port p).perstHigh ∧
    (hunting s p).rd (PHY_STAT.ltssm.port p) = s.rd (PHY_STAT.ltssm.port p) ∧
    (∀ n < 8, ((hunting s p).lane (laneNo p n)).lock = none) ∧
    hunting s p = { s with flds := (hunting s p).flds, ports := (hunting s p).ports, lanes := (hunting s p).lanes } := by
  have hlanes := lanesCleared_forAll (s := s) p (List.range 8)
  have hltssm : (s.forAll (List.range 8) fun s n => s.clearLane p n).rd (PHY_STAT.ltssm.port p) =
      s.rd (PHY_STAT.ltssm.port p) := hlanes.writes.rd (clear_flatMap.2 fun n _ => by interval_cases p <;> rfl)
  unfold hunting
  refine ⟨?_, ?_, fun n hn => ?_, frame_setPort_lanes hlanes.frame _ _⟩
  · rw [State.port_setPort]
  · rw [State.setPort_rd, hltssm]
  · rw [State.setPort_lane]
    exact hlanes.locks n (List.mem_range.2 hn)

/-- Settles O35: a port's reset clears its parts one after another; a logical device's reset and a function's clear less;
a port whose PERST is high again polls. -/
theorem portsAreResetAndTrain : Obligations.PortsAreResetAndTrain := by
  unfold Obligations.PortsAreResetAndTrain
  refine ⟨fun port group s => portReset_resets, fun port ld s => cxlReset_resets,
    fun port ld s hport hopen hphase => ?_, fun port group s hg hmay hdown => ?_⟩
  · obtain ⟨hld, hp⟩ := functionReset_clears (s := s) port ld
    refine ⟨_, functionLevelReset_resets hport hopen hphase, ?_, fun l v => ?_, ?_, ?_, fun _ _ => rfl, rfl⟩
    · rw [hld]
      rfl
    · rw [hp]
      exact msix_notMem_msixGone _ _ _ _
    · rw [hp]
      rfl
    · rw [hld]
      rfl
  · obtain ⟨hperst, hltssm, hlocks, hframe⟩ :=
      hunting_hunts (s := (perstHeld s port).wr (PHY_STAT.ltssm.port port) 1) (p := port) port.isLt
    refine ⟨_, perstRelease_polls hg hmay hdown, hperst.trans ?_, hltssm.trans (rd_wr_lt (show 1 < 2 ^ 5 by decide)), hlocks,
      hframe⟩
    rw [State.wr_port, perstHeld, State.port_setPort]

end Sys2Proof.Proofs

/-! # HDM decoders, IDE streams and configuration space (R224, R323, R332) -/

namespace Sys2Proof.Proofs

open Sys2Proof Sys2Proof.Machine Sys2Proof.Laws

variable {s t u : State}

/-! ## Registers that follow the decoders -/

theorem sets_fixPort (p : Nat) : Sets (boundFields p) s (s.fixPort p) := by
  refine (Sets.refl s).forAllMem fun u n hn k => ?_
  have hf : ∀ {f : Fld}, f ∈ [PORT_LD_STAT.dec_committed, PORT_LD_STAT.hdmdb, PORT_LD_STAT.tsp_active] →
      f.ld p n ∈ boundFields p := fun hf => List.mem_flatMap.2 ⟨n, hn, List.mem_map_of_mem hf⟩
  exact ((k.wr (hf (.head _))).wr (hf (.tail _ (.head _)))).wr (hf (.tail _ (.tail _ (.head _))))

/-- A logical device has been set, and its port's registers follow. -/
def ldSet (s : State) (p n : Nat) (v : LdState) : State := (s.setLd n v).fixPort p

theorem ldSet_sets (p n : Nat) (v : LdState) : (ldSet s p n v).ld n = v ∧
    (∀ m, m ≠ n → (ldSet s p n v).ld m = s.ld m) ∧
    ldSet s p n v = { s with flds := (ldSet s p n v).flds, lds := (ldSet s p n v).lds } := by
  have h := sets_fixPort (s := s.setLd n v) p
  have hlds : (ldSet s p n v).lds = (s.setLd n v).lds := by
    rw [ldSet, h.frame]
  refine ⟨?_, fun m hm => ?_, ?_⟩
  · rw [ld_eq_of_lds hlds, State.ld_setLd]
  · rw [ld_eq_of_lds hlds, State.ld_setLd_ne _ hm]
  · rw [ldSet, h.frame]
    rfl

/-! ## HDM decoders (R323) -/

/-- The number of a decoder. -/
def decoderNo (index : LdNo × Bool) : Nat := index.1.val * 2 + index.2.toNat

theorem decoderNo_eq (index : LdNo × Bool) : index.1.val * 2 + (if index.2 = true then 1 else 0) = decoderNo index := by
  rw [decoderNo]
  cases index.2 <;> rfl

/-- A decoder has committed. -/
def committed (l : LdState) (n : Nat) (dec : Decoder) : LdState :=
  { l with decoders := Sparse.set (fun _ => none) l.decoders n (some dec), notCommitted := l.notCommitted.filter (· ≠ n) }

/-- A decoder has failed to commit. -/
def uncommitted (l : LdState) (n : Nat) : LdState :=
  { l with
    decoders := Sparse.set (fun _ => none) l.decoders n none, notCommitted := l.notCommitted.filter (· ≠ n) ++ [n] }

/-- A decoder after a commit that no lock refuses. -/
def decoderTaken (s : State) (port : PortNo) (ld : LdNo) (n : Nat) (dec : Decoder) : LdState :=
  if s.mayCommit port ld n dec then committed (s.ld (masterOf port ld)) n dec
  else uncommitted (s.ld (masterOf port ld)) n

theorem hdmDecoderCommit_takes {port : PortNo} {ld : LdNo} {index : LdNo × Bool} {dec : Decoder}
    (hport : s.hasPort port = true) (hopen : s.linkOpen port = true)
    (hlock : ∀ o, Sparse.get (fun _ => none) (s.ld (masterOf port ld)).decoders (decoderNo index) = some o →
      o.lock = false) :
    exec (.hdmDecoderCommit port ld index dec) s =
      .next (ldSet s port (masterOf port ld) (decoderTaken s port ld (decoderNo index) dec)) := by
  have hold : (Sparse.get (fun _ => none) (s.ld (masterOf port ld)).decoders (decoderNo index)).any (·.lock) = false := by
    cases h : Sparse.get (fun _ => none) (s.ld (masterOf port ld)).decoders (decoderNo index) with
    | none => rfl
    | some o => exact hlock o h
  show Machine.execHdmDecoderCommit port ld index dec s = _
  rw [Machine.execHdmDecoderCommit, if_neg (by simp [hport, hopen]), decoderNo_eq]
  extract_lets n m l old
  have hfree : ¬old.any (·.lock) = true := ne_true_of_eq_false hold
  rw [if_neg hfree, decoderTaken]
  split <;> rfl

theorem decoderTaken_commits {port : PortNo} {ld : LdNo} {n : Nat} {dec : Decoder} :
    if s.mayCommit port ld n dec then
      Sparse.get (fun _ => none) (decoderTaken s port ld n dec).decoders n = some dec ∧
        n ∉ (decoderTaken s port ld n dec).notCommitted
    else Sparse.get (fun _ => none) (decoderTaken s port ld n dec).decoders n = none ∧
        n ∈ (decoderTaken s port ld n dec).notCommitted := by
  unfold decoderTaken
  split
  · exact ⟨by simp only [committed, Sparse.get_set_self], by simp [committed]⟩
  · exact ⟨by simp only [uncommitted, Sparse.get_set_self], by simp [uncommitted]⟩

theorem hdmDecoderCommit_locked {port : PortNo} {ld : LdNo} {index : LdNo × Bool} {dec o : Decoder}
    (hget : Sparse.get (fun _ => none) (s.ld (masterOf port ld)).decoders (decoderNo index) = some o)
    (hlock : o.lock = true) : exec (.hdmDecoderCommit port ld index dec) s = .next s := by
  show Machine.execHdmDecoderCommit port ld index dec s = _
  rw [Machine.execHdmDecoderCommit, decoderNo_eq]
  split
  · rfl
  · extract_lets n m l old
    have hlocked : old.any (·.lock) = true := by
      unfold old l m n
      rw [hget]
      exact hlock
    rw [if_pos hlocked]

/-! ## IDE streams (R224, R325, R358) -/

/-- The fields of a port's IDE that follow its streams and its decoders. -/
def ideShown (p : Nat) : List Fld :=
  [PORT_IDE_STAT.io_link.port p, PORT_IDE_STAT.io_sel.port p, PORT_IDE_STAT.cachemem.port p] ++ boundFields p

theorem sets_fixIde (p : Nat) : Sets (ideShown p) s (s.fixIde p) ∧
    (clear (boundFields p) (PORT_IDE_STAT.cachemem.port p) = true →
      (s.fixIde p).rd (PORT_IDE_STAT.cachemem.port p) = ((s.port p).streams.contains 3).toNat) := by
  have hregs : ∀ a b c, Sets (ideShown p) s (((s.wr (PORT_IDE_STAT.io_link.port p) a).wr (PORT_IDE_STAT.io_sel.port p) b).wr
      (PORT_IDE_STAT.cachemem.port p) c) := fun a b c =>
    (((Sets.refl s).wr (.head _)).wr (.tail _ (.head _))).wr (.tail _ (.tail _ (.head _)))
  unfold State.fixIde
  extract_lets l v
  simp only [wrb_eq]
  refine ⟨(hregs _ _ _).trans ((sets_fixPort p).mono (List.subset_append_right _ _)), fun hclear => ?_⟩
  rw [(sets_fixPort p).rd hclear]
  exact rd_wr_lt (show _ < 2 ^ 1 from Bool.toNat_lt _)

/-- A key set is in use on a stream. -/
def keySetUsed (v : PortState) (n : Nat) (keySet : Bool) : PortState :=
  { v with keySets := Sparse.set (fun _ => false) v.keySets n keySet }

/-- A stream is established under a key set. -/
def streamed (v : PortState) (n : Nat) (keySet : Bool) : PortState :=
  { v with
    streams := v.streams.filter (· ≠ n) ++ [n], keySets := Sparse.set (fun _ => false) v.keySets n keySet }

/-- The registers of a port show the CXL.cachemem stream. -/
def cachememShown (s : State) (p : Nat) (keySet skid : Bool) : State :=
  ((s.wrb (PORT_IDE_STAT.skid.port p) skid).wrb (PORT_IDE_STAT.key_set.port p) keySet).clr (PORT_IDE_STAT.insecure.port p)

theorem ideKm_establishes {port : PortNo} {keySet skid : Bool} (hport : s.hasPort port = true)
    (hopen : s.linkOpen port = true) (hsessions : s.sb.sessions ≠ [])
    (hkeys : (3, keySet) ∈ (s.port port).keysProgrammed) :
    exec (.ideKm port 3 1 keySet skid) s =
      .next ((cachememShown (s.setPort port (streamed (s.port port) 3 keySet)) port keySet skid).fixIde port) := by
  show Machine.execIdeKm port 3 1 keySet skid s = _
  rw [Machine.execIdeKm, if_neg (by simp [hport, hopen, hsessions])]
  extract_lets p n use have_
  have hhave : ¬(!have_) = true := by
    have : have_ = true := List.contains_iff_mem.2 hkeys
    simp [this]
  show (if (!have_) = true then _ else _) = _
  rw [if_neg hhave]
  rfl

theorem cachememShown_shows (p : Nat) (keySet skid : Bool) :
    Sets [PORT_IDE_STAT.skid.port p, PORT_IDE_STAT.key_set.port p, PORT_IDE_STAT.insecure.port p] s
      (cachememShown s p keySet skid) ∧
    (cachememShown s p keySet skid).rd (PORT_IDE_STAT.skid.port p) = skid.toNat ∧
    (cachememShown s p keySet skid).rd (PORT_IDE_STAT.key_set.port p) = keySet.toNat ∧
    (cachememShown s p keySet skid).rd (PORT_IDE_STAT.insecure.port p) = 0 := by
  unfold cachememShown
  simp only [wrb_eq, State.clr_eq]
  refine ⟨(((Sets.refl s).wr (.head _)).wr (.tail _ (.head _))).wr (.tail _ (.tail _ (.head _))), ?_, ?_, ?_⟩
  · rw [rd_wr_apart (by rfl), rd_wr_apart (by rfl)]
    exact rd_wr_lt (show _ < 2 ^ 1 from Bool.toNat_lt _)
  · rw [rd_wr_apart (by rfl)]
    exact rd_wr_lt (show _ < 2 ^ 1 from Bool.toNat_lt _)
  · exact State.rd_wr_self _ _ _

theorem clear_ideShown {p : Nat} (hp : p < 4) : clear (boundFields p) (PORT_IDE_STAT.cachemem.port p) = true ∧
    clear (ideShown p) (PORT_IDE_STAT.skid.port p) = true ∧ clear (ideShown p) (PORT_IDE_STAT.key_set.port p) = true ∧
    clear (ideShown p) (PORT_IDE_STAT.insecure.port p) = true := by
  interval_cases p <;> exact ⟨rfl, rfl, rfl, rfl⟩

theorem frame_setPort_sets {l : List Fld} {p : Nat} {v : PortState} (h : Sets l (s.setPort p v) t) :
    t = { s with flds := t.flds, ports := t.ports } := by
  rw [h.frame]
  rfl

theorem ideKm_streams {port : PortNo} {keySet skid : Bool} (hport : s.hasPort port = true)
    (hopen : s.linkOpen port = true) (hsessions : s.sb.sessions ≠ [])
    (hkeys : (3, keySet) ∈ (s.port port).keysProgrammed) :
    ∃ t, exec (.ideKm port 3 1 keySet skid) s = .next t ∧ 3 ∈ (t.port port).streams ∧
      t.rd (PORT_IDE_STAT.cachemem.port port) = 1 ∧ t.rd (PORT_IDE_STAT.skid.port port) = skid.toNat ∧
      t.rd (PORT_IDE_STAT.key_set.port port) = keySet.toNat ∧ t.rd (PORT_IDE_STAT.insecure.port port) = 0 ∧
      t = { s with flds := t.flds, ports := t.ports } := by
  obtain ⟨hshown, hskid, hkeySet, hinsecure⟩ :=
    cachememShown_shows (s := s.setPort port (streamed (s.port port) 3 keySet)) port keySet skid
  obtain ⟨hfix, hcachemem⟩ := sets_fixIde
    (s := cachememShown (s.setPort port (streamed (s.port port) 3 keySet)) port keySet skid) port
  obtain ⟨hclear, hclearSkid, hclearKey, hclearInsecure⟩ := clear_ideShown port.isLt
  have hport' : (cachememShown (s.setPort port (streamed (s.port port) 3 keySet)) port keySet skid).port port =
      streamed (s.port port) 3 keySet := by
    rw [hshown.port, State.port_setPort]
  have hmem : 3 ∈ (streamed (s.port port) 3 keySet).streams := List.mem_append_right _ (.head _)
  refine ⟨_, ideKm_establishes hport hopen hsessions hkeys, ?_, ?_, ?_, ?_, ?_, ?_⟩
  · rw [hfix.port, hport']
    exact hmem
  · rw [hcachemem hclear, hport', List.contains_iff_mem.2 hmem]
    rfl
  · rw [hfix.rd hclearSkid, hskid]
  · rw [hfix.rd hclearKey, hkeySet]
  · rw [hfix.rd hclearInsecure, hinsecure]
  · exact frame_setPort_sets ((hshown.mono (List.subset_append_left _ _)).trans (hfix.mono (List.subset_append_right _ _)))

/-- A stream has switched to a key set. -/
def keySwitched (s : State) (p n : Nat) (keySet : Bool) : State :=
  if n = 3 then (s.setPort p (keySetUsed (s.port p) n keySet)).wrb (PORT_IDE_STAT.key_set.port p) keySet
  else s.setPort p (keySetUsed (s.port p) n keySet)

theorem ideKm_switches {port : PortNo} {stream : Fin 4} {keySet skid : Bool} (hport : s.hasPort port = true)
    (hopen : s.linkOpen port = true) (hsessions : s.sb.sessions ≠ [])
    (hkeys : (stream.val, keySet) ∈ (s.port port).keysProgrammed) (hstream : stream.val ∈ (s.port port).streams) :
    exec (.ideKm port stream 2 keySet skid) s = .next (keySwitched s port stream keySet) := by
  show Machine.execIdeKm port stream 2 keySet skid s = _
  rw [Machine.execIdeKm, if_neg (by simp [hport, hopen, hsessions])]
  extract_lets p n use have_
  have hhave : ¬(!(have_ && p.streams.contains n)) = true := by
    have h : have_ = true := List.contains_iff_mem.2 hkeys
    have h' : p.streams.contains n = true := List.contains_iff_mem.2 hstream
    rw [h, h']
    decide
  show (if (!(have_ && p.streams.contains n)) = true then _ else _) = _
  rw [if_neg hhave, keySwitched]
  split <;> rfl

theorem keySwitched_sets (p n : Nat) (keySet : Bool) :
    (keySwitched s p n keySet).port p = keySetUsed (s.port p) n keySet ∧
    SameRegs s (keySwitched s p n keySet) [PORT_IDE_STAT.key_set.port p] ∧
    keySwitched s p n keySet =
      { s with flds := (keySwitched s p n keySet).flds, ports := (keySwitched s p n keySet).ports } := by
  have hset : Writes [PORT_IDE_STAT.key_set.port p] s (s.setPort p (keySetUsed (s.port p) n keySet)) := (Writes.refl s).setPort
  unfold keySwitched
  split
  · rw [wrb_eq]
    exact ⟨by rw [State.wr_port, State.port_setPort], (hset.wr (.head _)).regs, rfl⟩
  · exact ⟨State.port_setPort _ p _, hset.regs, rfl⟩

/-- The CXL.cachemem stream of a port has failed a check. -/
def streamFailed (s u : State) (p : Nat) : State :=
  ((u.setPort p { s.port p with streams := (s.port p).streams.filter (· ≠ 3) }).put (PORT_IDE_STAT.insecure.port p)).fixIde p

/-- A failed check is counted. -/
def ideCounted (s : State) (p : Nat) : State := (s.bump (PORT_IDE_ERR.count.port p)).cause (phyPage p) 4

theorem ideCheckFail_fails {port : PortNo} (h : 3 ∈ (s.port port).streams) : exec (.ideCheckFail port) s =
    .next ((streamFailed s (ideCounted s port) port).err (phyPage port) 0x0B06 0) := by
  show Machine.execIdeCheckFail port s = _
  unfold Machine.execIdeCheckFail
  extract_lets p a b
  have hstreams : ¬p.streams = [] := fun hnil => absurd (hnil ▸ h : 3 ∈ ([] : List Nat)) List.not_mem_nil
  have hb : b = streamFailed s (ideCounted s port) port := if_pos (List.contains_iff_mem.2 h)
  rw [if_neg hstreams, hb]

theorem streamFailed_fails {p : Nat} (hp : p < 4) :
    ((streamFailed s u p).port p).streams = (s.port p).streams.filter (· ≠ 3) ∧
    (streamFailed s u p).rd (PORT_IDE_STAT.insecure.port p) = 1 ∧ (streamFailed s u p).rd (PORT_IDE_STAT.cachemem.port p) = 0 ∧
    (streamFailed s u p).rd (PORT_IDE_ERR.count.port p) = u.rd (PORT_IDE_ERR.count.port p) ∧
    KeepsData u (streamFailed s u p) := by
  obtain ⟨hfix, hcachemem⟩ := sets_fixIde (s := (u.setPort p
    { s.port p with streams := (s.port p).streams.filter (· ≠ 3) }).put (PORT_IDE_STAT.insecure.port p)) p
  obtain ⟨hclear, -, -, hinsecure⟩ := clear_ideShown hp
  have hcount : clear (ideShown p) (PORT_IDE_ERR.count.port p) = true := by interval_cases p <;> rfl
  have hport : ((u.setPort p { s.port p with streams := (s.port p).streams.filter (· ≠ 3) }).put
      (PORT_IDE_STAT.insecure.port p)).port p = { s.port p with streams := (s.port p).streams.filter (· ≠ 3) } := by
    rw [State.put_eq, State.wr_port, State.port_setPort]
  have hno : ((s.port p).streams.filter (· ≠ 3)).contains 3 = false := by simp
  refine ⟨?_, ?_, ?_, ?_, keepsData_trans ⟨rfl, rfl, rfl, rfl⟩ hfix.keepsData⟩
  · rw [streamFailed, hfix.port, hport]
  · rw [streamFailed, hfix.rd hinsecure]
    exact rd_put_self
  · rw [streamFailed, hcachemem hclear, hport, hno]
    rfl
  · rw [streamFailed, hfix.rd hcount, State.put_eq, rd_wr_apart (by rfl)]
    rfl

/-- An error leaves what a port has established. -/
theorem port_err (page code addr p : Nat) : SamePort (s.port p) ((s.err page code addr).port p) := by
  obtain ⟨e, -, -, he⟩ := err_eq_log (s := s) page code addr
  rw [he]
  have htally : SamePort (s.wakeTb.port p) ((s.wakeTb.tally e).port p) := (told_tally e).ports p
  have hlog := (told_log (s := s) e).ports p
  rw [port_wakeTb] at htally
  rw [SamePort] at *
  rw [hlog, htally]

/-! ## Configuration space (R332, R379) -/

/-- The enables of configuration space. -/
def enabled (l : LdState) (l0s l1 l11 l12 tsp : Bool) : LdState :=
  { l with l0s := l0s, l1 := l1, l11 := l11, l12 := l12, tsp := tsp }

theorem configSpaceWrite_sets {port : PortNo} {ld : LdNo} {l0s l1 l11 l12 tsp : Bool} (hport : s.hasPort port = true)
    (hopen : s.linkOpen port = true) : exec (.configSpaceWrite port ld l0s l1 l11 l12 tsp) s =
      .next (ldSet s port (masterOf port ld) (enabled (s.ld (masterOf port ld)) l0s l1 l11 l12 tsp)) := by
  show Machine.execConfigSpaceWrite port ld l0s l1 l11 l12 tsp s = _
  rw [Machine.execConfigSpaceWrite, if_neg (by simp [hport, hopen])]
  rfl

theorem ideCheckFail_ends {port : PortNo} (h : 3 ∈ (s.port port).streams) :
    ∃ t, exec (.ideCheckFail port) s = .next t ∧ 3 ∉ (t.port port).streams ∧
      t.rd (PORT_IDE_STAT.insecure.port port) = 1 ∧ t.rd (PORT_IDE_STAT.cachemem.port port) = 0 ∧
      CountedUp s t (PORT_IDE_ERR.count.port port) ∧ KeepsData s t := by
  have hlt : port.val < 4 := port.isLt
  obtain ⟨hstreams, hinsecure, hcachemem, hcount, hdata⟩ := streamFailed_fails (s := s) (u := ideCounted s port) hlt
  have hclear : clear (errFields (phyPage port)) (PORT_IDE_STAT.insecure.port port) = true ∧
      clear (errFields (phyPage port)) (PORT_IDE_STAT.cachemem.port port) = true ∧
      clear (errFields (phyPage port)) (PORT_IDE_ERR.count.port port) = true ∧
      clear (causeFields (phyPage port)) (PORT_IDE_ERR.count.port port) = true := by
    generalize port.val = p at hlt
    interval_cases p <;> exact ⟨rfl, rfl, rfl, rfl⟩
  obtain ⟨hc₁, hc₂, hc₃, hc₄⟩ := hclear
  have hsame := port_err (s := streamFailed s (ideCounted s port) port) (phyPage port) 0x0B06 0 port
  refine ⟨_, ideCheckFail_fails h, ?_, ?_, ?_, ?_, ?_⟩
  · rw [hsame]
    show 3 ∉ ((streamFailed s (ideCounted s port) port).port port).streams
    rw [hstreams]
    simp
  · rw [rd_err hc₁, hinsecure]
  · rw [rd_err hc₂, hcachemem]
  · rw [CountedUp, rd_err hc₃, hcount, ideCounted, rd_cause hc₄, rd_bump]
  · have hcounted : Logged s (ideCounted s port) := (logged_wr _ _).trans (logged_cause _ _)
    exact keepsData_trans hcounted.keepsData (keepsData_trans hdata (logged_err _ _ _).keepsData)

/-- Settles O36: a commit, a stream and the enables of a function go through the lemmas above. -/
theorem decodersAndIdeStreams : Obligations.DecodersAndIdeStreams := by
  unfold Obligations.DecodersAndIdeStreams
  refine ⟨fun port ld index dec s hport hopen hlock => ?_, fun port ld index dec o s => hdmDecoderCommit_locked,
    fun port keySet skid s => ideKm_streams, fun port stream keySet skid s hport hopen hsessions hkeys hstream => ?_,
    fun port stream op keySet skid s hsessions => ?_, fun port s => ideCheckFail_ends,
    fun port ld l0s l1 l11 l12 tsp s hport hopen => ?_⟩
  · obtain ⟨hld, hothers, hframe⟩ := ldSet_sets (s := s) port (masterOf port ld) (decoderTaken s port ld (decoderNo index) dec)
    refine ⟨_, hdmDecoderCommit_takes hport hopen hlock, ?_, hothers, hframe⟩
    rw [hld]
    exact decoderTaken_commits
  · obtain ⟨hset, hregs, hframe⟩ := keySwitched_sets (s := s) port stream keySet
    refine ⟨_, ideKm_switches hport hopen hsessions hkeys hstream, ?_, ?_, hregs, hframe⟩
    · rw [hset]
      exact Sparse.get_set_self _ _ _
    · rw [hset]
      rfl
  · show Machine.execIdeKm port stream op keySet skid s = _
    rw [Machine.execIdeKm, if_pos (by simp [hsessions])]
  · obtain ⟨hld, hothers, hframe⟩ := ldSet_sets (s := s) port (masterOf port ld)
      (enabled (s.ld (masterOf port ld)) l0s l1 l11 l12 tsp)
    exact ⟨_, configSpaceWrite_sets hport hopen, hld, hothers, hframe⟩

end Sys2Proof.Proofs

/-! # Back-invalidates and AER messages (R329, R330, R528, R529) -/

namespace Sys2Proof.Proofs

open Sys2Proof Sys2Proof.Machine Sys2Proof.Laws

variable {s t u : State}

/-! ## The end of a back-invalidate (R329) -/

/-- What the snoop filter keeps of a line whose back-invalidate is over. -/
def filterLeft (v : PortState) (i : BackInv) (keep : Bool) : Option Tracked :=
  if keep && !i.inval then (v.tracked i.loc).map fun e => { e with excl := false } else none

/-- A port whose back-invalidate is over. -/
def snoopEnded (v : PortState) (i : BackInv) (keep : Bool) : PortState :=
  PortState.track { v with inv := v.inv.erase i } i.loc (filterLeft v i keep)

theorem endSnoop_eq (p : Nat) (i : BackInv) (keep : Bool) : s.endSnoop p i keep =
    (s.setPort p (snoopEnded (s.port p) i keep)).longest (PORT_BI_MAX_NS.ns.port p) ((s.now - i.sentAt) / psNs) := rfl

theorem snoopEnded_ends (v : PortState) (i : BackInv) (keep : Bool) : (snoopEnded v i keep).inv = v.inv.erase i ∧
    (snoopEnded v i keep).tracked i.loc = filterLeft v i keep :=
  ⟨rfl, by rw [snoopEnded, PortState.track, PortState.tracked, Sparse.get_set_self]⟩

/-- A back-invalidate is over: its port has given it up, and its wait is measured. -/
structure SnoopEnded (p : Nat) (i : BackInv) (keep : Bool) (s t : State) : Prop where
  port : t.port p = snoopEnded (s.port p) i keep
  writes : Writes [PORT_BI_MAX_NS.ns.port p] s t
  frame : t = { s with flds := t.flds, ports := t.ports }

theorem endSnoop_ends (p : Nat) (i : BackInv) (keep : Bool) : SnoopEnded p i keep s (s.endSnoop p i keep) := by
  have h := sets_longest (s := s.setPort p (snoopEnded (s.port p) i keep)) (PORT_BI_MAX_NS.ns.port p)
    ((s.now - i.sentAt) / psNs)
  rw [endSnoop_eq]
  exact ⟨(h.port p).trans (State.port_setPort _ p _), ((Writes.refl s).setPort).trans h.writes, frame_setPort_sets h⟩

/-- The partner's messages that waited have taken effect. -/
def applied (s : State) : State := { s with dove := { s.dove with applyWait := [] } }

theorem resumeSnooped_of_none (hstalled : s.stalled = []) (happly : s.dove.applyWait = []) :
    s.resumeSnooped = applied s := by
  rw [State.resumeSnooped, releaseStalled_of_none hstalled, happly]
  rfl

theorem applied_keeps (s : State) : (applied s).ports = s.ports ∧ (applied s).flds = s.flds ∧ (applied s).now = s.now ∧
    KeepsData s (applied s) := ⟨rfl, rfl, rfl, rfl, rfl, rfl, rfl⟩

theorem port_of_ports (h : t.ports = s.ports) (p : Nat) : t.port p = s.port p := by rw [State.port, State.port, h]

theorem biResponse_ends {port : PortNo} {loc : Loc} {i : BackInv}
    (hfind : (s.port port).inv.find? (fun i => decide (i.loc = lineAddr loc.toNat)) = some i) (hstalled : s.stalled = [])
    (happly : s.dove.applyWait = []) :
    exec (.biResponse port loc none) s = .next (applied (s.endSnoop port i true)) := by
  have hend := endSnoop_ends (s := s) port i true
  have hs : (s.endSnoop port i true).stalled = [] := by rw [hend.frame]; exact hstalled
  have hd : (s.endSnoop port i true).dove.applyWait = [] := by rw [hend.frame]; exact happly
  show Machine.execBiResponse port loc none s = _
  unfold Machine.execBiResponse
  extract_lets a
  rw [show (s.port port).inv.find? (fun i => decide (i.loc = a)) = some i from hfind]
  exact congrArg Host.Outcome.next (resumeSnooped_of_none hs hd)

theorem biResponse_none {port : PortNo} {loc : Loc} (modified : Option LineData)
    (hfind : (s.port port).inv.find? (fun i => decide (i.loc = lineAddr loc.toNat)) = none) :
    exec (.biResponse port loc modified) s = .next s := by
  show Machine.execBiResponse port loc modified s = _
  unfold Machine.execBiResponse
  extract_lets a
  rw [show (s.port port).inv.find? (fun i => decide (i.loc = a)) = none from hfind]

theorem biTimeout_none {port : PortNo} {loc : Loc}
    (hfind : (s.port port).inv.find? (fun i => decide (i.loc = lineAddr loc.toNat)) = none) :
    exec (.biTimeout port loc) s = .next s := by
  show Machine.execBiTimeout port loc s = _
  unfold Machine.execBiTimeout
  extract_lets a
  rw [show (s.port port).inv.find? (fun i => decide (i.loc = a)) = none from hfind]

/-! ## The timeout of a back-invalidate (R330) -/

/-- The end of a back-invalidate's time. -/
def biLimit (s : State) (p : Nat) (i : BackInv) : Nat := i.sentAt + s.rd (PORT_BI_CTL.timeout_us.port p) * psUs

/-- A timeout is counted. -/
def biCounted (s : State) (p : Nat) (i : BackInv) : State :=
  ((s.endSnoop p i false).bump (PORT_BI_TIMEOUT.count.port p)).cause (phyPage p) 5

/-- The logical devices that hold a line are told of its timeout. -/
def biTold (s : State) (p : Nat) (e : Err) (a : Nat) : State :=
  s.forAll ((List.range 4).filter fun l => s.allocHolds p l (quireOf a)) fun s l =>
    s.enterLog 2 (s.eventOf e .media) (p, l)

theorem biTimeout_times {port : PortNo} {loc : Loc} {i : BackInv}
    (hfind : (s.port port).inv.find? (fun i => decide (i.loc = lineAddr loc.toNat)) = some i) :
    ∃ e : Err, e.page = phyPage port ∧ exec (.biTimeout port loc) s = .next
      (biTold ((biCounted (s.advanceTo (biLimit s port i)) port i).log e) port e (lineAddr loc.toNat)).resumeSnooped := by
  show ∃ e : Err, _ ∧ Machine.execBiTimeout port loc s = _
  unfold Machine.execBiTimeout
  extract_lets a
  rw [show (s.port port).inv.find? (fun i => decide (i.loc = a)) = some i from hfind]
  exact ⟨_, rfl, rfl⟩

theorem logged_biTold (p : Nat) (e : Err) (a : Nat) : Logged s (biTold s p e a) :=
  logged_forAll (fun _ _ => logged_enterLog _ _ _) _

theorem told_biTold {p : Nat} (hp : p < 4) (e : Err) (a : Nat) : Told [] sendFields s (biTold s p e a) :=
  (Told.refl s).forAllMem fun _ _ _ h => h.enterLog (List.Subset.refl _) hp

/-- A back-invalidate that was not answered in time is over, and this has been counted and told. -/
structure BiTimedOut (p : Nat) (i : BackInv) (s t : State) : Prop where
  inv : (t.port p).inv = (s.port p).inv.erase i
  tracked : (t.port p).tracked i.loc = none
  counted : CountedUp s t (PORT_BI_TIMEOUT.count.port p)
  now : t.now = s.now
  data : KeepsData s t
  stalled : t.stalled = s.stalled
  dove : t.dove = s.dove

theorem tracked_of_filter {v w : PortState} (h : v.filter = w.filter) (loc : Nat) : v.tracked loc = w.tracked loc := by
  rw [PortState.tracked, PortState.tracked, h]

theorem dove_of_logged (h : Logged s t) : t.dove = s.dove := by rw [h.frame]

/-- The logs, the counts and the messages of a timeout leave its port's snoop filter as the end of it left it. -/
theorem biTimedOut_told {p : Nat} {i : BackInv} {e : Err} (a : Nat) (hp : p < 4) (he : e.page = phyPage p) :
    BiTimedOut p i s (biTold ((biCounted s p i).log e) p e a) := by
  have hend := endSnoop_ends (s := s) p i false
  have hcount : Logged (s.endSnoop p i false) (biCounted s p i) := (logged_wr _ _).trans (logged_cause _ _)
  have hlogged : Logged (s.endSnoop p i false) (biTold ((biCounted s p i).log e) p e a) :=
    (hcount.trans (logged_log e)).trans (logged_biTold p e a)
  have hcounted : SamePort ((s.endSnoop p i false).port p) ((biCounted s p i).port p) :=
    (alerted_cause (s := (s.endSnoop p i false).bump (PORT_BI_TIMEOUT.count.port p)) (phyPage p) 5).ports p
  have htally : SamePort ((biCounted s p i).port p) (((biCounted s p i).wakeTb.tally e).port p) := by
    rw [← port_wakeTb (s := biCounted s p i)]
    exact (told_tally e).ports p
  have hlog := (told_log (s := biCounted s p i) e).ports p
  have htold := (told_biTold (s := (biCounted s p i).log e) hp e a).ports p
  have hport : (biTold ((biCounted s p i).log e) p e a).port p =
      { snoopEnded (s.port p) i false with
        waitOut := ((biTold ((biCounted s p i).log e) p e a).port p).waitOut
        aer := ((biTold ((biCounted s p i).log e) p e a).port p).aer
        wake := ((biTold ((biCounted s p i).log e) p e a).port p).wake } := by
    rw [SamePort] at hcounted htally hlog htold
    rw [← hend.port]
    generalize (biTold ((biCounted s p i).log e) p e a).port p = x at *
    generalize ((biCounted s p i).log e).port p = y at *
    generalize ((biCounted s p i).wakeTb.tally e).port p = z at *
    generalize (biCounted s p i).port p = w at *
    rw [htold, hlog, htally, hcounted]
  obtain ⟨hinv, htracked⟩ := snoopEnded_ends (s.port p) i false
  have hclear : clear (errFields (phyPage p)) (PORT_BI_TIMEOUT.count.port p) = true ∧
      clear (causeFields (phyPage p)) (PORT_BI_TIMEOUT.count.port p) = true ∧
      clear sendFields (PORT_BI_TIMEOUT.count.port p) = true := by
    interval_cases p <;> exact ⟨rfl, rfl, rfl⟩
  obtain ⟨hc₁, hc₂, hc₃⟩ := hclear
  refine ⟨?_, ?_, ?_, ?_, ?_, ?_, ?_⟩
  · rw [hport]
    exact hinv
  · rw [hport]
    exact htracked
  · rw [CountedUp, (told_biTold hp e a).writes.rd hc₃, rd_log (he ▸ hc₁), biCounted, rd_cause hc₂, rd_bump,
      hend.writes.rd (by rfl)]
  · rw [now_of_logged hlogged, hend.frame]
  · have hdata : KeepsData s (s.endSnoop p i false) := by
      rw [hend.frame]
      exact ⟨rfl, rfl, rfl, rfl⟩
    exact keepsData_trans hdata hlogged.keepsData
  · rw [stalled_of_logged hlogged, hend.frame]
  · rw [dove_of_logged hlogged, hend.frame]

/-! ## AER messages (R528, R529) -/

/-- A port has sent its oldest AER message. -/
def aerGone (v : PortState) (rest : List (Nat × Nat)) : PortState := { v with aer := rest }

theorem aerAt_setAerAt (l : LdState) (n : Nat) : ∀ sev, (l.setAerAt sev n).aerAt sev = some n
  | 0 => rfl
  | 1 => rfl
  | 2 => rfl
  | _ + 3 => rfl

theorem hundred_psUs : 100 * psUs = 100000000 := by decide

/-- The state at the instant at which a function may send a message of a severity. -/
def aerWaited (s : State) (m sev : Nat) : State :=
  match (s.ld m).aerAt sev with
  | some t => s.advanceTo (t + 100 * psUs)
  | none => s

/-- Time alone has passed. -/
structure Waited (s t : State) : Prop where
  frame : t = { s with now := t.now, clk := t.clk }

theorem waited_advanceTo (n : Nat) : Waited s (s.advanceTo n) := ⟨rfl⟩

theorem aerWaited_waits (m sev : Nat) : Waited s (aerWaited s m sev) ∧
    ∀ at_, (s.ld m).aerAt sev = some at_ → at_ + 100000000 ≤ (aerWaited s m sev).now := by
  unfold aerWaited
  split
  · rename_i t ht
    refine ⟨waited_advanceTo _, fun at_ hat => ?_⟩
    obtain rfl : t = at_ := Option.some.inj (ht.symm.trans hat)
    rw [now_advanceTo, hundred_psUs]
    exact Nat.le_max_right _ _
  · rename_i hnone
    exact ⟨⟨rfl⟩, fun at_ hat => absurd (hnone.symm.trans hat) (by simp)⟩

/-- A message has left a port, and the function notes when. -/
def aerSent (s : State) (p l sev : Nat) (rest : List (Nat × Nat)) : State :=
  ((s.setPort p (aerGone (s.port p) rest)).setLd (masterOf p l)
    ((s.ld (masterOf p l)).setAerAt sev s.now)).emit (.aer p l sev)

theorem aerSend_sends {port : PortNo} {l sev : Nat} {rest : List (Nat × Nat)} (haer : (s.port port).aer = (l, sev) :: rest)
    (hmode : s.rd (PORT_LINK_STAT.mode.port port) ≠ 0) (hpm : s.rd (PHY_STAT.pm_state.port port) = 0)
    (hreq : (s.port port).l1Req = false) :
    exec (.aerSend port) s = .next (aerSent (aerWaited s (masterOf port l) sev) port l sev rest) := by
  have hsend : ∀ v : State, (v.port port).l1Req = false → v.rd (PHY_STAT.pm_state.port port) = 0 →
      v.send port (.aer port l sev) = v.emit (.aer port l sev) := fun v hv hv' => by
    rw [State.send, hv, hv']
    rfl
  have hw := (aerWaited_waits (s := s) (masterOf port l) sev).1.frame
  have hport : (aerWaited s (masterOf port l) sev).port port = s.port port := by rw [State.port, State.port, hw]
  have hrd : (aerWaited s (masterOf port l) sev).rd (PHY_STAT.pm_state.port port) = 0 := by
    rw [← hpm, hw]
    rfl
  show Machine.execAerSend port s = _
  unfold Machine.execAerSend
  rw [haer]
  dsimp only
  rw [if_neg hmode]
  refine congrArg Host.Outcome.next (hsend _ ?_ ?_)
  · rw [State.setLd_port, State.port_setPort]
    exact hport ▸ hreq
  · rw [State.setLd_rd, State.setPort_rd]
    exact hrd

theorem aerSent_sends {w : State} (p l sev : Nat) (rest : List (Nat × Nat)) (hw : Waited s w) :
    (aerSent w p l sev rest).out = .aer p l sev :: s.out ∧ ((aerSent w p l sev rest).port p).aer = rest ∧
      ((aerSent w p l sev rest).ld (masterOf p l)).aerAt sev = some (aerSent w p l sev rest).now ∧
      (aerSent w p l sev rest).now = w.now ∧ SameRegs s (aerSent w p l sev rest) [] ∧
      aerSent w p l sev rest = { s with
        out := (aerSent w p l sev rest).out, ports := (aerSent w p l sev rest).ports, lds := (aerSent w p l sev rest).lds
        now := (aerSent w p l sev rest).now, clk := (aerSent w p l sev rest).clk } := by
  have hflds : w.flds = s.flds := by rw [hw.frame]
  refine ⟨?_, ?_, ?_, rfl, fun f _ => ?_, ?_⟩
  · rw [hw.frame]
    rfl
  · show ((State.setPort _ _ _).port p).aer = rest
    rw [State.port_setPort]
    rfl
  · show ((State.setLd _ _ _).ld _).aerAt sev = some w.now
    rw [State.ld_setLd, aerAt_setAerAt]
  · exact rd_of_flds (s := s) (t := aerSent w p l sev rest) hflds f
  · rw [hw.frame]
    rfl

theorem biTimeout_ends {port : PortNo} {loc : Loc} {i : BackInv}
    (hfind : (s.port port).inv.find? (fun i => decide (i.loc = lineAddr loc.toNat)) = some i) (hstalled : s.stalled = [])
    (happly : s.dove.applyWait = []) :
    ∃ t, exec (.biTimeout port loc) s = .next t ∧ (t.port port).inv = (s.port port).inv.erase i ∧
      (t.port port).tracked i.loc = none ∧ CountedUp s t (PORT_BI_TIMEOUT.count.port port) ∧
      t.now = max s.now (i.sentAt + s.rd (PORT_BI_CTL.timeout_us.port port) * 1000000) ∧ KeepsData s t := by
  obtain ⟨e, he, hexec⟩ := biTimeout_times hfind
  have hout := biTimedOut_told (s := s.advanceTo (biLimit s port i)) (i := i) (lineAddr loc.toNat) port.isLt he
  have hstalled' := hout.stalled.trans ((stalled_advanceTo _).trans hstalled)
  have hdove : ∀ n, (s.advanceTo n).dove = s.dove := fun _ => rfl
  have happly' := (congrArg DoveState.applyWait (hout.dove.trans (hdove _))).trans happly
  rw [resumeSnooped_of_none hstalled' happly'] at hexec
  generalize biTold ((biCounted (s.advanceTo (biLimit s port i)) port i).log e) port e (lineAddr loc.toNat) = u at *
  obtain ⟨hports, hflds, hnow, hdata⟩ := applied_keeps u
  have hcounted := hout.counted
  rw [CountedUp, rd_advanceTo] at hcounted
  refine ⟨_, hexec, ?_, ?_, ?_, ?_, keepsData_trans (keepsData_advanceTo _) (keepsData_trans hout.data hdata)⟩
  · rw [port_of_ports hports, hout.inv, port_advanceTo]
  · rw [port_of_ports hports, hout.tracked]
  · rw [CountedUp, rd_of_flds hflds, hcounted]
  · rw [hnow, hout.now, now_advanceTo, biLimit, psUs_eq]

/-- Settles O37: a back-invalidate ends by `endSnoop_ends`, with or without its timeout's report; a message leaves by
`aerSend_sends`. -/
theorem backInvalidatesEndAndAerIsSent : Obligations.BackInvalidatesEndAndAerIsSent := by
  unfold Obligations.BackInvalidatesEndAndAerIsSent
  refine ⟨fun port loc i s hfind hstalled happly => ?_,
    fun port loc modified s hfind => ⟨biResponse_none modified hfind, biTimeout_none hfind⟩,
    fun port loc i s => biTimeout_ends, fun port l sev rest s haer hmode hpm hreq => ?_⟩
  · have hend := endSnoop_ends (s := s) port i true
    obtain ⟨hinv, htracked⟩ := snoopEnded_ends (s.port port) i true
    obtain ⟨hports, -, -, hdata⟩ := applied_keeps (s.endSnoop port i true)
    refine ⟨_, biResponse_ends hfind hstalled happly, ?_, fun hinval => ?_, keepsData_trans ?_ hdata⟩
    · rw [port_of_ports hports, hend.port, hinv]
    · rw [port_of_ports hports, hend.port, htracked, filterLeft, hinval]
      rfl
    · rw [hend.frame]
      exact ⟨rfl, rfl, rfl, rfl⟩
  · obtain ⟨hwaited, hspaced⟩ := aerWaited_waits (s := s) (masterOf port l) sev
    obtain ⟨hout, haer', hat, hnow, hregs, hframe⟩ := aerSent_sends port l sev rest hwaited
    exact ⟨_, aerSend_sends haer hmode hpm hreq, hout, haer', hat, fun at_ h => hnow ▸ hspaced at_ h, hregs, hframe⟩

end Sys2Proof.Proofs

/-! # Clock sources and switches (R414 to R420, R436) -/

namespace Sys2Proof.Proofs

open Sys2Proof Sys2Proof.Machine Sys2Proof.Laws

variable {s t u : State}

/-! ## A domain takes a source (R416) -/

/-- The fields of a clock domain that a switch of its source writes. -/
def sourceFields (d : Nat) : List Fld :=
  [CLK_DOM_STAT.src.ix d, CLK_DOM_STAT.failover.ix d, CLK_DOM_CTL.src.ix d, CLK_DOM_STAT.switching.ix d]

/-- The selector of a domain and what the registers show of it. -/
def selected (s : State) (d : Nat) (toHo failover : Bool) : State :=
  (((s.wrb (CLK_DOM_STAT.src.ix d) toHo).wrb (CLK_DOM_STAT.failover.ix d) failover).wrb (CLK_DOM_CTL.src.ix d) toHo).clr
    (CLK_DOM_STAT.switching.ix d)

theorem sets_selected (d : Nat) (toHo failover : Bool) : Sets (sourceFields d) s (selected s d toHo failover) := by
  have hf : ∀ {n : Nat} {f : Fld}, (sourceFields d)[n]? = some f → f ∈ sourceFields d := fun h => List.mem_of_getElem? h
  simp only [selected, wrb_eq, State.clr_eq]
  exact ((((Sets.refl s).wr (hf (n := 0) rfl)).wr (hf (n := 1) rfl)).wr (hf (n := 2) rfl)).wr (hf (n := 3) rfl)

theorem selected_selects (d : Nat) (toHo failover : Bool) :
    (selected s d toHo failover).rd (CLK_DOM_STAT.src.ix d) = toHo.toNat ∧
    (selected s d toHo failover).rd (CLK_DOM_STAT.failover.ix d) = failover.toNat ∧
    (selected s d toHo failover).rd (CLK_DOM_STAT.switching.ix d) = 0 := by
  simp only [selected, wrb_eq, State.clr_eq]
  refine ⟨?_, ?_, State.rd_wr_self _ _ _⟩
  · rw [rd_wr_apart (by rfl), rd_wr_apart (by rfl), rd_wr_apart (by rfl)]
    exact rd_wr_lt (show _ < 2 ^ 1 from Bool.toNat_lt _)
  · rw [rd_wr_apart (by rfl), rd_wr_apart (by rfl)]
    exact rd_wr_lt (show _ < 2 ^ 1 from Bool.toNat_lt _)

/-- A domain has taken a source; beside the fields of the switch only what a running controller touches has changed. -/
structure SourceTaken (d : Nat) (toHo failover : Bool) (s t : State) : Prop where
  regs : ∀ f : Fld, spared f = true → f.key ∉ (sourceFields d).map Fld.key → t.rd f = s.rd f
  src : t.rd (CLK_DOM_STAT.src.ix d) = toHo.toNat
  failover : t.rd (CLK_DOM_STAT.failover.ix d) = failover.toNat
  switching : t.rd (CLK_DOM_STAT.switching.ix d) = 0
  data : KeepsData s t

theorem SourceTaken.of_runs {d : Nat} {toHo failover : Bool} (h : Runs s t) (k : Runs (selected t d toHo failover) u) :
    SourceTaken d toHo failover s u := by
  have hsets := sets_selected (s := t) d toHo failover
  obtain ⟨hsrc, hfail, hswitching⟩ := selected_selects (s := t) d toHo failover
  refine ⟨fun f hf hk => ?_, ?_, ?_, ?_, keepsData_trans h.keepsData (keepsData_trans hsets.keepsData k.keepsData)⟩
  · rw [k.regs f hf, hsets.regs f hk, h.regs f hf]
  · rw [k.rd, hsrc]
  · rw [k.rd, hfail]
  · rw [k.rd, hswitching]

theorem Runs.forceSr {pc : Nat} (h : Runs s t) : Runs s (t.forceSr pc) := .ite (Runs.issueSre (.ite h h.startEntry)) h

theorem sourceTaken_takeSource (d : Nat) (toHo failover : Bool) :
    SourceTaken d toHo failover s (s.takeSource d toHo failover) := by
  have h : Runs s s := .refl s
  unfold State.takeSource
  extract_lets pcs a b c e
  have ha : Runs s a := .ite (Runs.runLfsrs (h.forAll fun _ _ k => k.forceSr)) h
  have hc : c = selected a d toHo failover := rfl
  have he : Runs c e := (Runs.refl c).forAll fun _ _ k => .ite k.exitSr k
  refine .of_runs (u := if d < 16 then (e.fixCalLayer d).fixGauge else c) ha ?_
  rw [← hc]
  exact .ite he.fixCalLayer.fixGauge (.refl c)

/-- A field that no switch of a domain writes. -/
def unswitched (f : Fld) : Bool :=
  [CLK_DOM_STAT.src, CLK_DOM_STAT.failover, CLK_DOM_CTL.src, CLK_DOM_STAT.switching].all (offPlace f)

theorem notMem_sourceFields {f : Fld} (h : unswitched f = true) (d : Nat) : f.key ∉ (sourceFields d).map Fld.key := by
  intro hk
  obtain ⟨g, hg, hkey⟩ := List.mem_map.1 hk
  have hplace : ∃ r ∈ [CLK_DOM_STAT.src, CLK_DOM_STAT.failover, CLK_DOM_CTL.src, CLK_DOM_STAT.switching], g = r.ix d := by
    simpa [sourceFields] using hg
  obtain ⟨r, hr, rfl⟩ := hplace
  exact (offPlace_iff f r).1 (List.all_eq_true.1 h r hr) (place_of_key hkey).symm

theorem SourceTaken.rd {d : Nat} {toHo failover : Bool} (h : SourceTaken d toHo failover s t) {f : Fld}
    (hf : spared f = true := by rfl) (hu : unswitched f = true := by rfl) : t.rd f = s.rd f :=
  h.regs f hf (notMem_sourceFields hu d)

theorem key_src {d e : Nat} (h : (CLK_DOM_STAT.src.ix d).key = (CLK_DOM_STAT.src.ix e).key) : d = e := by
  have hkey : ∀ k, (CLK_DOM_STAT.src.ix k).key = ((k * 128 + 2) * 4096 + 288) * 32 + 0 := fun _ => rfl
  rw [hkey, hkey] at h
  omega

theorem src_notMem {d e : Nat} (h : d ≠ e) : (CLK_DOM_STAT.src.ix d).key ∉ (sourceFields e).map Fld.key := by
  intro hk
  obtain ⟨g, hg, hkey⟩ := List.mem_map.1 hk
  have hcases : g = CLK_DOM_STAT.src.ix e ∨ clear [CLK_DOM_STAT.src.ix d] g = true := by
    obtain rfl | hg := List.mem_cons.1 hg
    · exact .inl rfl
    · refine .inr ?_
      simp only [List.mem_cons, List.not_mem_nil, or_false] at hg
      obtain rfl | rfl | rfl := hg <;> rfl
  obtain rfl | hclear := hcases
  · exact h (key_src hkey).symm
  · exact key_notMem_of_clear hclear (List.mem_singleton.2 hkey)

/-- Another domain's source stands. -/
theorem SourceTaken.other {d e : Nat} {toHo failover : Bool} (h : SourceTaken e toHo failover s t) (hne : d ≠ e) :
    t.rd (CLK_DOM_STAT.src.ix d) = s.rd (CLK_DOM_STAT.src.ix d) := h.regs _ rfl (src_notMem hne)

/-! ## Fail-over (R416) -/

/-- Domains have failed over: each is on the House Oscillator, and no other's source has changed. -/
structure FailedOver (doms : List Nat) (s t : State) : Prop where
  regs : ∀ f : Fld, spared f = true → unswitched f = true → t.rd f = s.rd f
  kept : ∀ d, s.rd (CLK_DOM_STAT.src.ix d) = 1 → t.rd (CLK_DOM_STAT.src.ix d) = 1
  src : ∀ d ∈ doms, t.rd (CLK_DOM_STAT.src.ix d) = 1
  data : KeepsData s t

theorem failedOver_forAll (doms : List Nat) : FailedOver doms s
    (s.forAll doms fun s d => if s.on (CLK_DOM_STAT.src.ix d) then s else s.takeSource d true true) := by
  induction doms generalizing s with
  | nil => exact ⟨fun _ _ _ => rfl, fun _ => id, fun d hd => absurd hd List.not_mem_nil, rfl, rfl, rfl, rfl⟩
  | cons d doms ih =>
    rw [forAll_cons]
    split
    · rename_i hon
      have h := ih (s := s)
      refine ⟨h.regs, h.kept, fun e he => ?_, h.data⟩
      obtain rfl | he := List.mem_cons.1 he
      · exact h.kept _ (of_decide_eq_true hon)
      · exact h.src e he
    · have htaken := sourceTaken_takeSource (s := s) d true true
      have h := ih (s := s.takeSource d true true)
      refine ⟨fun f hf hu => ?_, fun e he => ?_, fun e he => ?_, keepsData_trans htaken.data h.data⟩
      · rw [h.regs f hf hu, htaken.rd hf hu]
      · refine h.kept e ?_
        obtain rfl | hne := eq_or_ne e d
        · exact htaken.src
        · rw [htaken.other hne, he]
      · obtain rfl | he := List.mem_cons.1 he
        · exact h.kept _ htaken.src
        · exact h.src e he

/-- The switches that a failed source overtakes are gone from the list of those under way. -/
def switchesGone (s : State) (doms : List Nat) : State :=
  { s with clk := { s.clk with switching := s.clk.switching.filter fun e => decide (e.1 ∉ doms) } }

/-- The fields of a domain that the refusal of its switch writes. -/
def refusedPlaces : List Fld := [CLK_DOM_STAT.refused, CLK_DOM_STAT.reason, CLK_DOM_STAT.switching]

/-- A refused switch has been shown and reported; its domain's source stands. -/
structure SwitchRefused (s t : State) : Prop where
  regs : ∀ f : Fld, refusedPlaces.all (offPlace f) = true → clear (errFields 0x02) f = true →
    clear (causeFields 0x02) f = true → t.rd f = s.rd f
  logged : Logged s t

theorem SwitchRefused.refl (s : State) : SwitchRefused s s := ⟨fun _ _ _ _ => rfl, .refl s⟩

theorem SwitchRefused.trans (h : SwitchRefused s t) (k : SwitchRefused t u) : SwitchRefused s u :=
  ⟨fun f h₁ h₂ h₃ => (k.regs f h₁ h₂ h₃).trans (h.regs f h₁ h₂ h₃), h.logged.trans k.logged⟩

/-- The registers of a domain show why its switch was refused. -/
def refusalShown (s : State) (d reason : Nat) : State :=
  ((s.put (CLK_DOM_STAT.refused.ix d)).wr (CLK_DOM_STAT.reason.ix d) reason).clr (CLK_DOM_STAT.switching.ix d)

theorem places_refusalShown (d reason : Nat) : Places refusedPlaces s (refusalShown s d reason) :=
  (((Places.refl s).wr (by rfl)).wr (by rfl)).wr (by rfl)

theorem refuseSwitch_eq (d reason : Nat) : s.refuseSwitch d reason =
    ((refusalShown s d reason).cause 0x02 6).err 0x02 0x0D05 (d + reason * 256) := rfl

theorem switchRefused_refuseSwitch (d reason : Nat) : SwitchRefused s (s.refuseSwitch d reason) := by
  have hshown : Logged s (refusalShown s d reason) := ((logged_wr _ _).wr _ _).wr _ _
  rw [refuseSwitch_eq]
  refine ⟨fun f hplace herr hcause => ?_, hshown.trans ((logged_cause _ _).trans (logged_err _ _ _))⟩
  rw [rd_err herr, rd_cause hcause, (places_refusalShown d reason).rd hplace]

theorem switchRefused_dropSwitches (doms : List Nat) : SwitchRefused (switchesGone s doms) (s.dropSwitches doms) := by
  refine List.foldlRecOn (motive := SwitchRefused (switchesGone s doms)) _ _ (.refl _) fun u hu e _ => ?_
  split
  · exact hu
  · exact hu.trans (switchRefused_refuseSwitch _ _)

theorem dropSwitches_none (doms : List Nat) (h : s.clk.switching = []) : s.dropSwitches doms = s := by
  have hs : ({ s with clk := { s.clk with switching := [] } } : State) = s := by rw [← h]
  unfold State.dropSwitches
  rw [h]
  exact hs

/-! ## PLLs (R414, R436) -/

theorem bitOf_setBit {v n w : Nat} (hn : n < w) : bitOf ((v ||| 2 ^ n) % 2 ^ w) n = true := by
  rw [bitOf_eq_testBit, Nat.testBit_mod_two_pow, decide_eq_true hn, Nat.testBit_or, Nat.testBit_two_pow_self]
  simp

theorem bitOf_clrBit_mod {v n w : Nat} : bitOf ((v - (v &&& 2 ^ n)) % 2 ^ w) n = false := by
  rw [bitOf_eq_testBit, Nat.testBit_mod_two_pow, ← bitOf_eq_testBit, bitOf_clrBit, Bool.and_false]

/-- The lock of a PLL alone. -/
def lockSet (s : State) (pll : Nat) (b : Bool) : State :=
  if pll < 16 then (if b then s.setBit CLK_PLL_LOCK.layer pll else s.clrBit CLK_PLL_LOCK.layer pll)
  else s.wrb CLK_PLL_LOCK.system b

theorem locked_lockSet {pll : Nat} (b : Bool) : (lockSet s pll b).locked pll = b := by
  unfold lockSet State.locked
  split
  · cases b
    · show bitOf ((s.clrBit CLK_PLL_LOCK.layer pll).rd CLK_PLL_LOCK.layer) pll = false
      rw [State.clrBit, State.rd_wr_self]
      exact bitOf_clrBit_mod
    · show bitOf ((s.setBit CLK_PLL_LOCK.layer pll).rd CLK_PLL_LOCK.layer) pll = true
      rw [State.setBit, State.rd_wr_self]
      exact bitOf_setBit (w := 16) ‹_›
  · rw [State.on, wrb_eq, State.rd_wr_self]
    cases b <;> rfl

/-- The locks of the PLLs. -/
def lockFields : List Fld := [CLK_PLL_LOCK.layer, CLK_PLL_LOCK.system]

theorem sets_lockSet (pll : Nat) (b : Bool) : Sets lockFields s (lockSet s pll b) := by
  have h : Sets lockFields s s := .refl s
  have hs : CLK_PLL_LOCK.system ∈ lockFields := .tail _ (.head _)
  exact .ite (.ite (h.wr (.head _)) (h.wr (.head _))) (by rw [wrb_eq]; exact h.wr hs)

theorem locked_of_rd {pll : Nat} (hlayer : t.rd CLK_PLL_LOCK.layer = s.rd CLK_PLL_LOCK.layer)
    (hsystem : t.rd CLK_PLL_LOCK.system = s.rd CLK_PLL_LOCK.system) : t.locked pll = s.locked pll := by
  rw [State.locked, State.locked, hlayer, on_of_rd hsystem]

/-- The readiness of a PLL's domains. -/
def readyFields (pll : Nat) : List Fld := (pllDomains pll).map fun d => CLK_DOM_STAT.pll_ready.ix d

theorem setLock_eq (pll : Nat) (b : Bool) : s.setLock pll b =
    (lockSet s pll b).forAll (pllDomains pll) fun s d => s.wr (CLK_DOM_STAT.pll_ready.ix d) b.toNat := by
  unfold State.setLock lockSet
  simp only [wrb_eq]

theorem sets_setLock (pll : Nat) (b : Bool) : Sets (lockFields ++ readyFields pll) s (s.setLock pll b) := by
  rw [setLock_eq]
  refine ((sets_lockSet pll b).mono (List.subset_append_left _ _)).forAllMem fun u d hd h => ?_
  exact h.wr (List.mem_append_right _ (List.mem_map_of_mem hd))

theorem places_setLock (pll : Nat) (b : Bool) :
    Places (lockFields ++ [CLK_DOM_STAT.pll_ready]) s (s.setLock pll b) := by
  rw [setLock_eq]
  exact ((Places.writes (sets_lockSet pll b).writes).mono (List.subset_append_left _ _)).forAll fun _ _ h => h.wr (by rfl)

theorem setLock_locks (pll : Nat) (b : Bool) : (s.setLock pll b).locked pll = b ∧
    ∀ d ∈ pllDomains pll, (s.setLock pll b).rd (CLK_DOM_STAT.pll_ready.ix d) = b.toNat := by
  rw [setLock_eq]
  have hready : Places [CLK_DOM_STAT.pll_ready] (lockSet s pll b)
      ((lockSet s pll b).forAll (pllDomains pll) fun s d => s.wr (CLK_DOM_STAT.pll_ready.ix d) b.toNat) :=
    (Places.refl _).forAll fun _ _ h => h.wr (by rfl)
  refine ⟨?_, fun d hd => ?_⟩
  · rw [locked_of_rd (hready.rd) (hready.rd), locked_lockSet]
  · have hb : b.toNat % 2 ^ 1 = b.toNat := Nat.mod_eq_of_lt (Bool.toNat_lt b)
    exact (rd_forAll_wr (c := b.toNat) _ (fun _ _ _ => hb) _).trans (if_pos ⟨d, hd, rfl⟩)

/-! ## The loss of the reference (R375, R415 to R417) -/

/-- The flags of a lost reference. -/
def refLost (s : State) : State :=
  ((({ s with clk := { s.clk with refGood := 0 } }.clr CLK_SRC_STAT.ref_ok).put CLK_SRC_STAT.ref_lost).put
    CLK_SRC_STAT.holdover).wr CLK_AO_PPM.ppm 0

/-- The count and the time of a lost reference. -/
def lossCounted (s : State) : State :=
  (s.bump CLK_LOSS_CNT.count).wr64 CLK_LOSS_TIME_LO.time CLK_LOSS_TIME_HI.time s.tb

/-- The report of a lost reference. -/
def lossTold (s : State) : State := (s.cause 0x02 1).err 0x02 0x0D01 (s.rd CLK_REF_KHZ.khz)

/-- No PLL is locked. -/
def unlocked (s : State) : State := s.forAll (List.range 17) fun s p => s.setLock p false

/-- No lane has its reference. -/
def refclkGone (s : State) : State := s.forAll (List.range 5) fun s g => s.clr (PHY_STAT.refclk_ok.port g)

/-- The reference is lost, and every link was down. -/
def referenceGone (s : State) : State := refclkGone (unlocked (lossTold (lossCounted (refLost s))))

/-- The fields that tell of a lost reference. -/
def lossFields : List Fld :=
  [CLK_SRC_STAT.ref_ok, CLK_SRC_STAT.ref_lost, CLK_SRC_STAT.holdover, CLK_AO_PPM.ppm, CLK_LOSS_CNT.count,
    CLK_LOSS_TIME_LO.time, CLK_LOSS_TIME_HI.time]

/-- What a lost reference leaves before its domains fail over. -/
structure ReferenceGone (s t : State) : Prop where
  regs : ∀ f : Fld, clear lossFields f = true → clear (causeFields 0x02) f = true → clear (errFields 0x02) f = true →
    (lockFields ++ [CLK_DOM_STAT.pll_ready, PHY_STAT.refclk_ok]).all (offPlace f) = true → t.rd f = s.rd f
  refOk : t.rd CLK_SRC_STAT.ref_ok = 0
  refLost : t.rd CLK_SRC_STAT.ref_lost = 1
  holdover : t.rd CLK_SRC_STAT.holdover = 1
  counted : CountedUp s t CLK_LOSS_CNT.count
  calm : calm t = calm s
  switching : t.clk.switching = s.clk.switching
  data : KeepsData s t

theorem refLost_shows : Sets lossFields { s with clk := { s.clk with refGood := 0 } } (refLost s) ∧
    (refLost s).rd CLK_SRC_STAT.ref_ok = 0 ∧ (refLost s).rd CLK_SRC_STAT.ref_lost = 1 ∧
    (refLost s).rd CLK_SRC_STAT.holdover = 1 := by
  have hf : ∀ {n : Nat} {f : Fld}, lossFields[n]? = some f → f ∈ lossFields := fun h => List.mem_of_getElem? h
  unfold refLost
  simp only [State.clr_eq, State.put_eq]
  refine ⟨((((Sets.refl _).wr (hf (n := 0) rfl)).wr (hf (n := 1) rfl)).wr (hf (n := 2) rfl)).wr (hf (n := 3) rfl), ?_, ?_, ?_⟩
  · rw [rd_wr_apart (by rfl), rd_wr_apart (by rfl), rd_wr_apart (by rfl)]
    exact State.rd_wr_self _ _ _
  · rw [rd_wr_apart (by rfl), rd_wr_apart (by rfl)]
    exact rd_wr_lt (show 1 < 2 ^ 1 by decide)
  · rw [rd_wr_apart (by rfl)]
    exact rd_wr_lt (show 1 < 2 ^ 1 by decide)

theorem sets_lossCounted : Sets lossFields s (lossCounted s) ∧ CountedUp s (lossCounted s) CLK_LOSS_CNT.count := by
  have hf : ∀ {n : Nat} {f : Fld}, lossFields[n]? = some f → f ∈ lossFields := fun h => List.mem_of_getElem? h
  refine ⟨(((Sets.refl s).wr (hf (n := 4) rfl)).wr (hf (n := 5) rfl)).wr (hf (n := 6) rfl), ?_⟩
  rw [CountedUp, lossCounted, State.wr64, rd_wr_apart (by rfl), rd_wr_apart (by rfl), rd_bump]

theorem logged_lossTold : Logged s (lossTold s) := (logged_cause _ _).trans (logged_err _ _ _)

theorem rd_lossTold {f : Fld} (hcause : clear (causeFields 0x02) f = true) (herr : clear (errFields 0x02) f = true) :
    (lossTold s).rd f = s.rd f := by
  rw [lossTold, rd_err herr, rd_cause hcause]

theorem logged_unlocked : Logged s (unlocked s) := by
  refine logged_forAll (fun u p => ?_) _
  rw [setLock_eq]
  refine Logged.trans ?_ (logged_forAll (fun v d => logged_wr _ _) _)
  unfold lockSet
  split
  · exact logged_wr _ _
  · exact logged_wr _ _

theorem places_unlocked : Places (lockFields ++ [CLK_DOM_STAT.pll_ready]) s (unlocked s) :=
  (Places.refl s).forAll fun _ p h => h.trans (places_setLock p false)

theorem places_refclkGone : Places [PHY_STAT.refclk_ok] s (refclkGone s) := (Places.refl s).forAll fun _ _ h => h.wr (by rfl)

theorem logged_refclkGone : Logged s (refclkGone s) := logged_forAll (fun _ _ => logged_wr _ _) _

theorem refGood_keeps : calm { s with clk := { s.clk with refGood := 0 } } = calm s ∧
    KeepsData s { s with clk := { s.clk with refGood := 0 } } ∧
    ({ s with clk := { s.clk with refGood := 0 } } : State).clk.switching = s.clk.switching :=
  ⟨rfl, ⟨rfl, rfl, rfl, rfl⟩, rfl⟩

theorem calm_of_sets {l : List Fld} (h : Sets l s t) : calm t = calm s := by
  rw [h.frame]
  rfl

theorem clk_of_sets {l : List Fld} (h : Sets l s t) : t.clk = s.clk := by rw [h.frame]

theorem clk_of_logged (h : Logged s t) : t.clk = s.clk := by rw [h.frame]

theorem referenceGone_goes : ReferenceGone s (referenceGone s) := by
  obtain ⟨hcalm, hdata, hswitching⟩ := refGood_keeps (s := s)
  obtain ⟨hlost, hrefOk, hrefLost, hholdover⟩ := refLost_shows (s := s)
  obtain ⟨hcounted, hcount⟩ := sets_lossCounted (s := refLost s)
  have hrd : ∀ f, ({ s with clk := { s.clk with refGood := 0 } } : State).rd f = s.rd f := fun _ => rfl
  have hlogged : Logged (lossCounted (refLost s)) (referenceGone s) :=
    (logged_lossTold.trans logged_unlocked).trans logged_refclkGone
  have hlast : ∀ f : Fld, clear (causeFields 0x02) f = true → clear (errFields 0x02) f = true →
      (lockFields ++ [CLK_DOM_STAT.pll_ready, PHY_STAT.refclk_ok]).all (offPlace f) = true →
      (referenceGone s).rd f = (lossCounted (refLost s)).rd f := fun f hcause herr hplace => by
    have hpll : (lockFields ++ [CLK_DOM_STAT.pll_ready]).all (offPlace f) = true :=
      List.all_eq_true.2 fun g hg => List.all_eq_true.1 hplace g (by
        obtain h | h := List.mem_append.1 hg
        · exact List.mem_append_left _ h
        · exact List.mem_append_right _ (List.mem_cons.2 (.inl (List.mem_singleton.1 h))))
    have hphy : [PHY_STAT.refclk_ok].all (offPlace f) = true :=
      List.all_eq_true.2 fun g hg => List.all_eq_true.1 hplace g
        (List.mem_append_right _ (List.mem_cons_of_mem _ hg))
    rw [referenceGone, places_refclkGone.rd hphy, places_unlocked.rd hpll, rd_lossTold hcause herr]
  have hafter : ∀ f : Fld, f = CLK_SRC_STAT.ref_ok ∨ f = CLK_SRC_STAT.ref_lost ∨ f = CLK_SRC_STAT.holdover ∨
      f = CLK_LOSS_CNT.count → (referenceGone s).rd f = (lossCounted (refLost s)).rd f := fun f hf => by
    obtain rfl | rfl | rfl | rfl := hf <;> exact hlast _ rfl rfl rfl
  have hbefore : ∀ f : Fld, f = CLK_SRC_STAT.ref_ok ∨ f = CLK_SRC_STAT.ref_lost ∨ f = CLK_SRC_STAT.holdover →
      (lossCounted (refLost s)).rd f = (refLost s).rd f := fun f hf => by
    obtain rfl | rfl | rfl := hf <;>
      rw [lossCounted, State.wr64, State.bump_eq, rd_wr_apart (by rfl), rd_wr_apart (by rfl), rd_wr_apart (by rfl)]
  refine ⟨fun f hloss hcause herr hplace => ?_, ?_, ?_, ?_, ?_, ?_, ?_, ?_⟩
  · rw [hlast f hcause herr hplace, hcounted.rd hloss, hlost.rd hloss, hrd]
  · rw [hafter _ (.inl rfl), hbefore _ (.inl rfl), hrefOk]
  · rw [hafter _ (.inr (.inl rfl)), hbefore _ (.inr (.inl rfl)), hrefLost]
  · rw [hafter _ (.inr (.inr (.inl rfl))), hbefore _ (.inr (.inr rfl)), hholdover]
  · have hstart : (refLost s).rd CLK_LOSS_CNT.count = s.rd CLK_LOSS_CNT.count := by
      rw [refLost, rd_wr_apart (by rfl), State.put_eq, rd_wr_apart (by rfl), State.put_eq, rd_wr_apart (by rfl),
        State.clr_eq, rd_wr_apart (by rfl), hrd]
    rw [CountedUp, hafter _ (.inr (.inr (.inr rfl))), hcount, hstart]
  · rw [calm_eq_of_logged hlogged, calm_of_sets hcounted, calm_of_sets hlost, hcalm]
  · rw [clk_of_logged hlogged, clk_of_sets hcounted, clk_of_sets hlost, hswitching]
  · exact keepsData_trans hdata (keepsData_trans hlost.keepsData (keepsData_trans hcounted.keepsData hlogged.keepsData))

/-- With every link down, a lost reference takes no link away. -/
theorem loseRefclk_down (h : linksDown s) : s.loseRefclk = refclkGone s := by
  unfold State.loseRefclk
  extract_lets a b
  have ha : a = s := forAll_fixed fun p hp => if_pos (h p (Nat.lt_trans (List.mem_range.1 hp) (by decide)))
  have hb : b = s := by
    unfold b
    rw [ha, if_pos (h 4 (by decide))]
  rw [hb]
  rfl

theorem linksDown_unlocked (h : linksDown s) : linksDown (unlocked (lossTold (lossCounted (refLost s)))) := fun g hg => by
  have hl : clear (causeFields 0x02) (PHY_STAT.ltssm.port g) = true ∧ clear (errFields 0x02) (PHY_STAT.ltssm.port g) = true ∧
      clear lossFields (PHY_STAT.ltssm.port g) = true := by
    interval_cases g <;> exact ⟨rfl, rfl, rfl⟩
  obtain ⟨hcause, herr, hloss⟩ := hl
  rw [places_unlocked.rd (by rfl), rd_lossTold hcause herr, sets_lossCounted.1.rd hloss, refLost_shows.1.rd hloss]
  exact h g hg

theorem clockLost_eq (stall : Nat) (h : linksDown s) : s.clockLost stall =
    if (referenceGone s).on CLK_SRC_STAT.ho_ok then
      ((referenceGone s).failOver (List.range 18)).longest CLK_SWITCH_MAX_NS.ns stall
    else (referenceGone s).errImmediate 0x02 0x0D06 0 := by
  have hdown := loseRefclk_down (linksDown_unlocked h)
  unfold State.clockLost
  extract_lets _ a b c d e f
  have ha : b = refLost s := rfl
  have hb : c = lossCounted b := rfl
  have hc : d = lossTold c := rfl
  have hd : e = unlocked d := rfl
  have hf : f = referenceGone s := by
    unfold f
    rw [hd, hc, hb, ha, hdown]
    rfl
  rw [hf]

theorem clockLoss_loses {stall : Nat} (href : s.on CLK_SRC_STAT.ref_ok = true) (hmon : s.on CLK_CTL.mon_en = true) :
    exec (.clockLoss stall) s = .next (s.clockLost stall) := by
  show Machine.execClockLoss stall s = _
  rw [Machine.execClockLoss, href, hmon]
  rfl

theorem clockLoss_ends {stall : Nat} (href : s.on CLK_SRC_STAT.ref_ok = true) (hmon : s.on CLK_CTL.mon_en = true)
    (hdown : linksDown s) (hswitching : s.clk.switching = []) :
    (s.on CLK_SRC_STAT.ho_ok = true →
      ∃ t, exec (.clockLoss stall) s = .next t ∧ t.rd CLK_SRC_STAT.ref_ok = 0 ∧ t.rd CLK_SRC_STAT.ref_lost = 1 ∧
        t.rd CLK_SRC_STAT.holdover = 1 ∧ CountedUp s t CLK_LOSS_CNT.count ∧
        (∀ d < 18, t.rd (CLK_DOM_STAT.src.ix d) = 1)) ∧
    (s.on CLK_SRC_STAT.ho_ok = false → s.safe = false → calm s = true →
      ∃ t, exec (.clockLoss stall) s = .next t ∧ t.rd CLK_SRC_STAT.ref_ok = 0 ∧ EnteredSafe t 0x02 0x0D06) := by
  have hgone := referenceGone_goes (s := s)
  have hexec := (clockLoss_loses (stall := stall) href hmon).trans (congrArg Host.Outcome.next (clockLost_eq stall hdown))
  have hho : (referenceGone s).on CLK_SRC_STAT.ho_ok = s.on CLK_SRC_STAT.ho_ok :=
    on_of_rd (hgone.regs _ rfl rfl rfl rfl)
  refine ⟨fun h => ?_, fun h hsafe hcalm => ?_⟩
  · have hover := failedOver_forAll (s := referenceGone s) (List.range 18)
    have hlongest := sets_longest (s := (referenceGone s).failOver (List.range 18)) CLK_SWITCH_MAX_NS.ns stall
    rw [State.failOver, dropSwitches_none _ (hgone.switching.trans hswitching)] at hlongest
    rw [hho, h, if_pos rfl, State.failOver, dropSwitches_none _ (hgone.switching.trans hswitching)] at hexec
    refine ⟨_, hexec, ?_, ?_, ?_, ?_, fun d hd => ?_⟩
    · rw [hlongest.rd, hover.regs _ rfl rfl, hgone.refOk]
    · rw [hlongest.rd, hover.regs _ rfl rfl, hgone.refLost]
    · rw [hlongest.rd, hover.regs _ rfl rfl, hgone.holdover]
    · rw [CountedUp, hlongest.rd, hover.regs _ rfl rfl, hgone.counted]
    · rw [hlongest.rd, hover.src d (List.mem_range.2 hd)]
  · rw [hho, h, if_neg (by decide)] at hexec
    have hs : (referenceGone s).safe = false := (on_of_rd (hgone.regs _ rfl rfl rfl rfl)).trans hsafe
    have hc : calm (referenceGone s) = true := hgone.calm.trans hcalm
    refine ⟨_, hexec, ?_, errImmediate_enters hs hc (by decide) (by rfl)⟩
    rw [rd_errImmediate hs hc (by rfl) (by rfl) (fun _ => rfl) (by rfl), hgone.refOk]

/-! ## Windows of the reference (R414) -/

theorem frame_advance (n : Nat) : s.advance n = { s with now := (s.advance n).now, clk := (s.advance n).clk } := rfl

theorem refGood_advance (n : Nat) : (s.advance n).clk.refGood = s.clk.refGood := by
  unfold State.advance
  dsimp only
  split <;> rfl

/-- A window of the reference has been measured. -/
def windowMeasured (s : State) (khz : Nat) (spread : Bool) : State :=
  ((s.advance (s.clk.hoPeriod * 250)).wr CLK_REF_KHZ.khz (min khz 131071)).forAll (List.range 5) fun s g =>
    s.wr (PHY_STAT.ssc_seen.port g) spread.toNat

/-- The fields of a window's measurement. -/
def windowShown : List Fld := CLK_REF_KHZ.khz :: (List.range 5).map fun g => PHY_STAT.ssc_seen.port g

theorem sets_windowMeasured (khz : Nat) (spread : Bool) :
    Sets windowShown (s.advance (s.clk.hoPeriod * 250)) (windowMeasured s khz spread) :=
  ((Sets.refl _).wr (.head _)).forAllMem fun _ _ hg h => h.wr (List.mem_cons_of_mem _ (List.mem_map_of_mem hg))

theorem rd_windowMeasured {khz : Nat} (spread : Bool) (h : khz ≤ 131071) :
    (windowMeasured s khz spread).rd CLK_REF_KHZ.khz = khz := by
  have hsets : Sets ((List.range 5).map fun g => PHY_STAT.ssc_seen.port g)
      ((s.advance (s.clk.hoPeriod * 250)).wr CLK_REF_KHZ.khz (min khz 131071)) (windowMeasured s khz spread) :=
    (Sets.refl _).forAllMem fun _ _ hg h => h.wr (List.mem_map_of_mem hg)
  rw [hsets.rd, Nat.min_eq_left h]
  exact rd_wr_lt (show khz < 2 ^ 17 by omega)

theorem windowMeasured_eq (khz : Nat) (spread : Bool) : windowMeasured s khz spread =
    ((s.advance (s.clk.hoPeriod * 250)).wr CLK_REF_KHZ.khz (min khz 131071)).forAll (List.range 5) fun s g =>
      s.wrb (PHY_STAT.ssc_seen.port g) spread := by
  simp only [windowMeasured, wrb_eq]

theorem refWindowCheck_measures {khz : Nat} (hho : s.on CLK_SRC_STAT.ho_ok = true) (hmon : s.on CLK_CTL.mon_en = true) :
    ∃ u, u = windowMeasured s khz (decide (99000 ≤ khz ∧ khz < 99970)) ∧ exec (.refWindowCheck khz) s = .next (
      if u.on CLK_SRC_STAT.ref_ok then (if 98500 ≤ khz ∧ khz ≤ 101500 then u else u.clockLost 0)
      else { u with clk := { u.clk with refGood := if 99400 ≤ khz ∧ khz ≤ 100100 then u.clk.refGood + 1 else 0 } }) := by
  refine ⟨_, rfl, ?_⟩
  show Machine.execRefWindowCheck khz s = _
  unfold Machine.execRefWindowCheck
  rw [hho, hmon, if_neg (by decide)]
  extract_lets a b n
  have hb : b = windowMeasured s khz (decide (99000 ≤ khz ∧ khz < 99970)) := (windowMeasured_eq _ _).symm
  rw [hb]
  split <;> rfl

theorem sameRegs_of_advance {n : Nat} {l : List Fld} (h : SameRegs (s.advance n) t l) : SameRegs s t l := fun f hf =>
  (h f hf).trans (rd_advance n f)

theorem refWindowCheck_good {khz : Nat} (hho : s.on CLK_SRC_STAT.ho_ok = true) (hmon : s.on CLK_CTL.mon_en = true)
    (href : s.on CLK_SRC_STAT.ref_ok = true) (hlo : 98500 ≤ khz) (hhi : khz ≤ 101500) :
    ∃ t, exec (.refWindowCheck khz) s = .next t ∧ t.rd CLK_REF_KHZ.khz = khz ∧ t.now = s.now + s.clk.hoPeriod * 250 ∧
      SameRegs s t (CLK_REF_KHZ.khz :: (List.range 5).map fun g => PHY_STAT.ssc_seen.port g) ∧
      t = { s with flds := t.flds, now := t.now, clk := t.clk } := by
  obtain ⟨u, rfl, hexec⟩ := refWindowCheck_measures (khz := khz) hho hmon
  have hsets := sets_windowMeasured (s := s) khz (decide (99000 ≤ khz ∧ khz < 99970))
  have hkhz := rd_windowMeasured (s := s) (decide (99000 ≤ khz ∧ khz < 99970)) (show khz ≤ 131071 by omega)
  generalize windowMeasured s khz (decide (99000 ≤ khz ∧ khz < 99970)) = u at *
  have hon : u.on CLK_SRC_STAT.ref_ok = true := by rw [on_of_rd (hsets.rd.trans (rd_advance _ _)), href]
  rw [hon, if_pos rfl, if_pos ⟨hlo, hhi⟩] at hexec
  refine ⟨_, hexec, hkhz, ?_, sameRegs_of_advance hsets.regs, ?_⟩
  · rw [hsets.now, now_advance]
  · rw [hsets.frame]
    rfl

theorem refWindowCheck_counts {khz : Nat} (hho : s.on CLK_SRC_STAT.ho_ok = true) (hmon : s.on CLK_CTL.mon_en = true)
    (href : s.on CLK_SRC_STAT.ref_ok = false) :
    ∃ t, exec (.refWindowCheck khz) s = .next t ∧
      t.clk.refGood = (if 99400 ≤ khz ∧ khz ≤ 100100 then s.clk.refGood + 1 else 0) ∧
      t.rd CLK_SRC_STAT.ref_ok = s.rd CLK_SRC_STAT.ref_ok ∧
      t = { s with flds := t.flds, now := t.now, clk := t.clk } := by
  obtain ⟨u, rfl, hexec⟩ := refWindowCheck_measures (khz := khz) hho hmon
  have hsets := sets_windowMeasured (s := s) khz (decide (99000 ≤ khz ∧ khz < 99970))
  generalize windowMeasured s khz (decide (99000 ≤ khz ∧ khz < 99970)) = u at *
  have hrd : u.rd CLK_SRC_STAT.ref_ok = s.rd CLK_SRC_STAT.ref_ok := hsets.rd.trans (rd_advance _ _)
  have hgood : u.clk.refGood = s.clk.refGood := by rw [clk_of_sets hsets, refGood_advance]
  rw [on_of_rd hrd, href, if_neg (by decide), hgood] at hexec
  refine ⟨_, hexec, rfl, hrd, ?_⟩
  rw [hsets.frame]
  rfl

/-! ## The reference qualifies (R414, R418) -/

/-- A field that training leaves. -/
structure Untrained (f : Fld) : Prop where
  lanes : ∀ g n, clear (clearedLane g n) f = true
  links : [PHY_STAT.ltssm, DOVE_STAT.link].all (offPlace f) = true

theorem places_doveTrain : Places [PHY_STAT.ltssm, DOVE_STAT.link] s s.doveTrain :=
  .ite (((Places.refl s).wr (by rfl)).wr (by rfl)) (.refl s)

theorem keepsData_doveTrain : KeepsData s s.doveTrain := by
  unfold State.doveTrain
  split
  · exact ((logged_wr _ _).wr _ _).keepsData
  · exact ⟨rfl, rfl, rfl, rfl⟩

theorem hunting_keeps (g : Nat) : KeepsData s (hunting s g) ∧ ∀ f, Untrained f → (hunting s g).rd f = s.rd f := by
  have hlanes := lanesCleared_forAll (s := s) g (List.range 8)
  refine ⟨?_, fun f hf => ?_⟩
  · rw [hunting, hlanes.frame]
    exact ⟨rfl, rfl, rfl, rfl⟩
  · rw [hunting, State.setPort_rd]
    exact hlanes.writes.rd (clear_flatMap.2 fun n _ => hf.lanes g n)

theorem train_keeps (g : Nat) : KeepsData s (s.train g) ∧ ∀ f, Untrained f → (s.train g).rd f = s.rd f := by
  unfold State.train
  extract_lets v
  have hv : KeepsData s v ∧ Places [PHY_STAT.ltssm, DOVE_STAT.link] s v := by
    unfold v
    split
    · exact ⟨keepsData_doveTrain, places_doveTrain⟩
    · split
      · exact ⟨(logged_wr _ _).keepsData, (Places.refl s).wr (by rfl)⟩
      · exact ⟨⟨rfl, rfl, rfl, rfl⟩, .refl s⟩
  obtain ⟨hdata, hplaces⟩ := hv
  clear_value v
  split
  · obtain ⟨hdata', hrd⟩ := hunting_keeps (s := v) g
    exact ⟨keepsData_trans hdata hdata', fun f hf => (hrd f hf).trans (hplaces.rd hf.links)⟩
  · exact ⟨hdata, fun f hf => hplaces.rd hf.links⟩

theorem trainAll_keeps : KeepsData s s.trainAll ∧ ∀ f, Untrained f → s.trainAll.rd f = s.rd f := by
  refine List.foldlRecOn (motive := fun u => KeepsData s u ∧ ∀ f, Untrained f → u.rd f = s.rd f) _ _
    ⟨⟨rfl, rfl, rfl, rfl⟩, fun _ _ => rfl⟩ fun u hu g _ => ?_
  obtain ⟨hdata, hrd⟩ := train_keeps (s := u) g
  exact ⟨keepsData_trans hu.1 hdata, fun f hf => (hrd f hf).trans (hu.2 f hf)⟩

/-- The flags of a reference that has qualified. -/
def refFound (s : State) : State := (s.put CLK_SRC_STAT.ref_ok).clr CLK_SRC_STAT.holdover

/-- The reference is measured against the Always-On oscillator, and its cause is set. -/
def refMeasured (s : State) : State := ((s.wr CLK_AO_PPM.ppm (Config.trained s.free 70 0)).drawn).cause 0x02 2

/-- Every lane has its reference. -/
def refclkBack (s : State) : State := s.forAll (List.range 5) fun s g => s.put (PHY_STAT.refclk_ok.port g)

/-- A reference that had been lost is reported as back. -/
def refTold (s : State) : State := if s.rd CLK_LOSS_CNT.count = 0 then s else s.err 0x02 0x0D02 0

theorem refQualified_eq : s.refQualified = (refTold (refclkBack (refMeasured (refFound s)))).trainAll := rfl

theorem logged_refTold : Logged s (refTold s) := by
  unfold refTold
  split
  · exact .refl s
  · exact logged_err _ _ _

theorem rd_refTold {f : Fld} (h : clear (errFields 0x02) f = true) : (refTold s).rd f = s.rd f := by
  unfold refTold
  split
  · rfl
  · exact rd_err h _ _

theorem refMeasured_keeps : KeepsData s (refMeasured s) ∧
    ∀ f, apart f CLK_AO_PPM.ppm = true → clear (causeFields 0x02) f = true → (refMeasured s).rd f = s.rd f := by
  have hd : ∀ u : State, KeepsData u u.drawn ∧ ∀ f, u.drawn.rd f = u.rd f := fun u => ⟨⟨rfl, rfl, rfl, rfl⟩, fun _ => rfl⟩
  obtain ⟨hdata, hrd⟩ := hd (s.wr CLK_AO_PPM.ppm (Config.trained s.free 70 0))
  refine ⟨keepsData_trans (keepsData_trans (logged_wr _ _).keepsData hdata) (logged_cause _ _).keepsData, fun f hf hc => ?_⟩
  rw [refMeasured, rd_cause hc, hrd, rd_wr_apart hf]

theorem refclkBack_puts : (∀ g < 5, (refclkBack s).rd (PHY_STAT.refclk_ok.port g) = 1) ∧
    Places [PHY_STAT.refclk_ok] s (refclkBack s) ∧ KeepsData s (refclkBack s) := by
  refine ⟨fun g hg => ?_, (Places.refl s).forAll fun _ _ h => h.wr (by rfl),
    (logged_forAll (fun _ _ => logged_wr _ _) _).keepsData⟩
  exact (rd_forAll_wr (c := 1) _ (fun _ _ _ => rfl) s).trans (if_pos ⟨g, List.mem_range.2 hg, rfl⟩)

theorem refQualify_qualifies (href : s.on CLK_SRC_STAT.ref_ok = false) (hgood : 4 ≤ s.clk.refGood) :
    exec .refQualify s = .next s.refQualified := by
  show Machine.execRefQualify s = _
  rw [Machine.execRefQualify, if_neg (by simp [href]; omega)]

theorem refQualified_shows : s.refQualified.rd CLK_SRC_STAT.ref_ok = 1 ∧ s.refQualified.rd CLK_SRC_STAT.holdover = 0 ∧
    (∀ g < 5, s.refQualified.rd (PHY_STAT.refclk_ok.port g) = 1) ∧ KeepsData s s.refQualified := by
  obtain ⟨hdata₁, hrd₁⟩ := refMeasured_keeps (s := refFound s)
  obtain ⟨hback, hplaces, hdata₂⟩ := refclkBack_puts (s := refMeasured (refFound s))
  obtain ⟨hdata₃, hrd₃⟩ := trainAll_keeps (s := refTold (refclkBack (refMeasured (refFound s))))
  have hfound : KeepsData s (refFound s) := ((logged_wr _ _).wr _ _).keepsData
  rw [refQualified_eq]
  refine ⟨?_, ?_, fun g hg => ?_, keepsData_trans hfound (keepsData_trans hdata₁ (keepsData_trans hdata₂
    (keepsData_trans logged_refTold.keepsData hdata₃)))⟩
  · rw [hrd₃ _ ⟨fun _ _ => rfl, rfl⟩, rd_refTold (by rfl), hplaces.rd, hrd₁ _ rfl rfl, refFound, State.clr_eq,
      rd_wr_apart (by rfl)]
    exact rd_put_self
  · rw [hrd₃ _ ⟨fun _ _ => rfl, rfl⟩, rd_refTold (by rfl), hplaces.rd, hrd₁ _ rfl rfl, refFound]
    exact State.rd_wr_self _ _ _
  · have hclear : clear (errFields 0x02) (PHY_STAT.refclk_ok.port g) = true := by interval_cases g <;> rfl
    rw [hrd₃ _ ⟨fun _ _ => rfl, rfl⟩, rd_refTold hclear, hback g hg]

/-! ## The House Oscillator and the Always-On oscillator (R414) -/

/-- Shift registers have been brought up to the present cycle; nothing else has changed. -/
structure LfsrsRun (s t : State) : Prop where
  frame : t = { s with pcs := t.pcs }
  pcs : ∀ p, t.pc p = { s.pc p with lfsr := (t.pc p).lfsr, lfsrAt := (t.pc p).lfsrAt }

theorem LfsrsRun.refl (s : State) : LfsrsRun s s := ⟨rfl, fun _ => rfl⟩

theorem LfsrsRun.trans (h : LfsrsRun s t) (k : LfsrsRun t u) : LfsrsRun s u :=
  ⟨by rw [k.frame, h.frame], fun p => by rw [k.pcs p, h.pcs p]⟩

theorem lfsrsRun_runLfsr (pc : Nat) : LfsrsRun s (s.runLfsr pc) := by
  unfold State.runLfsr
  split
  · exact .refl s
  · extract_lets c n
    refine ⟨rfl, fun p => ?_⟩
    obtain rfl | hp := eq_or_ne p pc
    · rw [State.pc_setPc]
    · rw [State.pc_setPc_ne _ hp]

theorem lfsrsRun_all : LfsrsRun s (s.forAll (List.range 16) State.runLfsrs) := by
  have hlayer : ∀ (u : State) (l : Nat), LfsrsRun u (u.runLfsrs l) := fun u l =>
    List.foldlRecOn (motive := LfsrsRun u) _ _ (.refl u) fun v hv i _ => hv.trans (lfsrsRun_runLfsr _)
  exact List.foldlRecOn (motive := LfsrsRun s) _ _ (.refl s) fun u hu l _ => hu.trans (hlayer u l)

/-- The House Oscillator's period is set. -/
def periodSet (s : State) (n : Nat) : State := { s with clk := { s.clk with hoPeriod := n } }

/-- The House Oscillator and the Always-On oscillator are good. -/
def oscillatorsGood (s : State) (khz : Nat) : State :=
  ((s.wr CLK_HO_KHZ.khz khz).put CLK_SRC_STAT.ho_ok).put CLK_SRC_STAT.ao_ok

/-- The fields of a good check of the House Oscillator. -/
def hoFields : List Fld := [CLK_HO_KHZ.khz, CLK_SRC_STAT.ho_ok, CLK_SRC_STAT.ao_ok]

theorem hoCalibrated_eq (count : Nat) : s.hoCalibrated count =
    oscillatorsGood (periodSet (s.forAll (List.range 16) State.runLfsrs) (64000000000 / count)) (count * 128 / 125) := rfl

theorem oscillatorsGood_shows {khz : Nat} (h : khz < 524288) : Sets hoFields s (oscillatorsGood s khz) ∧
    (oscillatorsGood s khz).rd CLK_HO_KHZ.khz = khz ∧ (oscillatorsGood s khz).rd CLK_SRC_STAT.ho_ok = 1 ∧
    (oscillatorsGood s khz).rd CLK_SRC_STAT.ao_ok = 1 := by
  unfold oscillatorsGood
  simp only [State.put_eq]
  refine ⟨(((Sets.refl s).wr (.head _)).wr (.tail _ (.head _))).wr (.tail _ (.tail _ (.head _))), ?_, ?_, ?_⟩
  · rw [rd_wr_apart (by rfl), rd_wr_apart (by rfl)]
    exact rd_wr_lt (show khz < 2 ^ 19 from h)
  · rw [rd_wr_apart (by rfl)]
    exact rd_wr_lt (show 1 < 2 ^ 1 by decide)
  · exact rd_wr_lt (show 1 < 2 ^ 1 by decide)

theorem aoPs_32 : aoPs 32 = 976562500 := by decide

theorem frame_hoCalibrated {w v : State} (hw : LfsrsRun (s.advance 976562500) w) (hv : Sets hoFields (periodSet w n) v) :
    v = { s with flds := v.flds, pcs := v.pcs, now := v.now, clk := v.clk } := by
  rw [hv.frame, hw.frame]
  rfl

theorem hoCheck_calibrates {count : Nat} (hlo : 351563 ≤ count) (hhi : count ≤ 429687) :
    ∃ t, exec (.hoCheck count) s = .next t ∧ t.rd CLK_SRC_STAT.ho_ok = 1 ∧ t.rd CLK_SRC_STAT.ao_ok = 1 ∧
      t.rd CLK_HO_KHZ.khz = count * 128 / 125 ∧ t.now = s.now + 976562500 ∧
      SameRegs s t [CLK_HO_KHZ.khz, CLK_SRC_STAT.ho_ok, CLK_SRC_STAT.ao_ok] ∧
      (∀ p, t.pc p = { s.pc p with lfsr := (t.pc p).lfsr, lfsrAt := (t.pc p).lfsrAt }) ∧
      t = { s with flds := t.flds, pcs := t.pcs, now := t.now, clk := t.clk } := by
  have hexec : exec (.hoCheck count) s = .next ((s.advance 976562500).hoCalibrated count) := by
    show Machine.execHoCheck count s = _
    rw [Machine.execHoCheck, aoPs_32, if_pos ⟨hlo, hhi⟩]
  rw [hoCalibrated_eq] at hexec
  have hrun := lfsrsRun_all (s := s.advance 976562500)
  generalize (s.advance 976562500).forAll (List.range 16) State.runLfsrs = w at *
  have hkeep : ∀ n, (periodSet w n).now = w.now ∧ (∀ f, (periodSet w n).rd f = w.rd f) ∧
      ∀ p, (periodSet w n).pc p = w.pc p := fun _ => ⟨rfl, fun _ => rfl, fun _ => rfl⟩
  obtain ⟨hnow, hrd, hpc⟩ := hkeep (64000000000 / count)
  obtain ⟨hsets, hkhz, hho, hao⟩ := oscillatorsGood_shows (s := periodSet w (64000000000 / count))
    (show count * 128 / 125 < 524288 by omega)
  have hpcs : ∀ p, (oscillatorsGood (periodSet w (64000000000 / count)) (count * 128 / 125)).pc p = w.pc p := fun p => by
    rw [State.pc, hsets.frame]
    exact hpc p
  refine ⟨_, hexec, hho, hao, hkhz, ?_, fun f hf => ?_, fun p => ?_, frame_hoCalibrated hrun hsets⟩
  · rw [hsets.now, hnow, hrun.frame]
    rfl
  · rw [hsets.regs f hf, hrd, hrun.frame]
    rfl
  · rw [hpcs]
    exact hrun.pcs p

/-- An oscillator that has failed is shown and reported. -/
def oscillatorBad (s : State) (f : Fld) (cause code : Nat) : State := ((s.clr f).cause 0x02 cause).err 0x02 code 0

theorem oscillatorBad_shows {f : Fld} (cause : Nat) {code : Nat} (hcause : clear (causeFields 0x02) f = true)
    (herr : clear (errFields 0x02) f = true) (hclass : codeClass code = 2) :
    (oscillatorBad s f cause code).rd f = 0 ∧ (oscillatorBad s f cause code).rd (ERR_STAT.uc.on 0x02) = 1 ∧
      KeepsData s (oscillatorBad s f cause code) := by
  have hlogged : Logged s (oscillatorBad s f cause code) :=
    (logged_wr _ _).trans ((logged_cause _ _).trans (logged_err _ _ _))
  refine ⟨?_, (rd_err_contained hclass).1, hlogged.keepsData⟩
  rw [oscillatorBad, rd_err herr, rd_cause hcause]
  exact (State.rd_wr_self _ _ _).trans (Nat.zero_mod _)

theorem hoCheck_fails {count : Nat} (h : count < 351563 ∨ 429687 < count) (hho : s.on CLK_SRC_STAT.ho_ok = true) :
    exec (.hoCheck count) s = .next (oscillatorBad (s.advance (aoPs 32)) CLK_SRC_STAT.ho_ok 3 0x0D03) := by
  show Machine.execHoCheck count s = _
  have hon : (s.advance (aoPs 32)).on CLK_SRC_STAT.ho_ok = true := (on_of_rd (rd_advance _ _)).trans hho
  rw [Machine.execHoCheck, if_neg (by omega), if_pos hon]
  rfl

theorem aoTickTimeout_fails (hao : s.on CLK_SRC_STAT.ao_ok = true) :
    exec .aoTickTimeout s = .next (oscillatorBad (s.advance (aoPs 4)) CLK_SRC_STAT.ao_ok 4 0x0D04) := by
  show Machine.execAoTickTimeout s = _
  rw [Machine.execAoTickTimeout, if_neg (by rw [hao]; decide)]
  rfl

/-! ## PLLs that lose and regain their lock (R414, R418) -/

/-- A PLL has been restarted once at this instant. -/
def restarted (s : State) (pll : Nat) : State :=
  { s with clk := { s.clk with relock := (pll, s.now) :: s.clk.relock.filter fun e => decide (e.1 ≠ pll) } }

theorem restarted_keeps (pll : Nat) : KeepsData s (restarted s pll) ∧ (∀ f, (restarted s pll).rd f = s.rd f) ∧
    (pll, s.now) ∈ (restarted s pll).clk.relock := ⟨⟨rfl, rfl, rfl, rfl⟩, fun _ => rfl, .head _⟩

theorem pllLockLost_loses {pll : Fin 17} (hlocked : s.locked pll = true) : exec (.pllLockLost pll) s = .next (
    if (s.clk.relock.any fun e => decide (e.1 = pll.val ∧ s.now ≤ e.2 + 1000000000)) = true ∧
        ((restarted s pll).setLock pll false).on CLK_SRC_STAT.ho_ok = true then
      ((restarted s pll).setLock pll false).failOver (pllDomains pll)
    else ((restarted s pll).setLock pll false).err 0x02 0x0D07 pll) := by
  show Machine.execPllLockLost pll s = _
  unfold Machine.execPllLockLost
  extract_lets p again _ a b
  have hl : ¬(!s.locked p) = true := by
    rw [show s.locked p = true from hlocked]
    decide
  rw [if_neg hl]
  show (if again = true ∧ b.on CLK_SRC_STAT.ho_ok = true then Host.Outcome.next (b.failOver (pllDomains p))
    else Host.Outcome.next (b.err 0x02 0x0D07 p)) = _
  split
  · rename_i h
    exact congrArg Host.Outcome.next (if_pos h).symm
  · rename_i h
    exact congrArg Host.Outcome.next (if_neg h).symm

theorem locked_err (addr pll : Nat) : (s.err 0x02 0x0D07 addr).locked pll = s.locked pll :=
  locked_of_rd (rd_err (by rfl) _ _) (rd_err (by rfl) _ _)

theorem pllLockLost_restarts {pll : Fin 17} (hlocked : s.locked pll = true)
    (hfirst : (s.clk.relock.any fun e => decide (e.1 = pll.val ∧ s.now ≤ e.2 + 1000000000)) = false) :
    ∃ t, exec (.pllLockLost pll) s = .next t ∧ t.locked pll = false ∧ (pll.val, s.now) ∈ t.clk.relock ∧
      t.rd (ERR_STAT.ce.on 0x02) = 1 ∧ KeepsData s t := by
  obtain ⟨hdata, -, hmem⟩ := restarted_keeps (s := s) pll.val
  have hexec := pllLockLost_loses hlocked
  rw [hfirst, if_neg (by simp)] at hexec
  have hsets := sets_setLock (s := restarted s pll) pll.val false
  refine ⟨_, hexec, ?_, ?_, (rd_err_corrected (by decide)).1,
    keepsData_trans hdata (keepsData_trans hsets.keepsData (logged_err _ _ _).keepsData)⟩
  · rw [locked_err, (setLock_locks _ _).1]
  · rw [clk_of_logged (logged_err _ _ _), clk_of_sets hsets]
    exact hmem

theorem pllLockLost_failsOver {pll : Fin 17} (hlocked : s.locked pll = true) (hho : s.on CLK_SRC_STAT.ho_ok = true)
    (hagain : (s.clk.relock.any fun e => decide (e.1 = pll.val ∧ s.now ≤ e.2 + 1000000000)) = true) :
    ∃ t, exec (.pllLockLost pll) s = .next t ∧ t.locked pll = false ∧
      ∀ d ∈ pllDomains pll, t.rd (CLK_DOM_STAT.src.ix d) = 1 := by
  obtain ⟨-, hrd, -⟩ := restarted_keeps (s := s) pll.val
  have hexec := pllLockLost_loses hlocked
  have hon : ((restarted s pll).setLock pll false).on CLK_SRC_STAT.ho_ok = true :=
    (on_of_rd (((places_setLock pll.val false).rd).trans (hrd _))).trans hho
  rw [if_pos ⟨hagain, hon⟩] at hexec
  have hlock := (setLock_locks (s := restarted s pll) pll.val false).1
  generalize (restarted s pll).setLock pll false = u at *
  have hdrop := switchRefused_dropSwitches (s := u) (pllDomains pll)
  have hgone : ∀ f, (switchesGone u (pllDomains pll)).rd f = u.rd f := fun _ => rfl
  have hover := failedOver_forAll (s := u.dropSwitches (pllDomains pll)) (pllDomains pll)
  refine ⟨_, hexec, ?_, hover.src⟩
  refine Eq.trans (locked_of_rd ?_ ?_) hlock
  · exact (hover.regs _ rfl rfl).trans ((hdrop.regs _ rfl rfl rfl).trans (hgone _))
  · exact (hover.regs _ rfl rfl).trans ((hdrop.regs _ rfl rfl rfl).trans (hgone _))

theorem pllLocked_locks {pll : Fin 17} (href : s.on CLK_SRC_STAT.ref_ok = true) (hreturn : s.on CLK_CTL.auto_return = false) :
    exec (.pllLocked pll) s = .next (s.setLock pll true) := by
  have hno : (s.setLock pll true).on CLK_CTL.auto_return = false := (on_of_rd (places_setLock pll.val true).rd).trans hreturn
  show Machine.execPllLocked pll s = _
  unfold Machine.execPllLocked
  extract_lets a
  rw [if_neg (by rw [href]; decide)]
  refine congrArg Host.Outcome.next (forAll_fixed fun d _ => if_neg ?_)
  rw [show a.on CLK_CTL.auto_return = false from hno]
  simp

/-! ## Switches by command (R420) -/

theorem clkDomSwitch_begins {who : Accessor} {toHo : Bool} (htakes : takes s who 0x02 = true)
    (hdom : s.rd CLK_DOM_SEL.domain < 16) (hother : s.on (CLK_DOM_STAT.src.ix (s.rd CLK_DOM_SEL.domain)) ≠ toHo)
    (hready : s.sourceReady (s.rd CLK_DOM_SEL.domain) toHo = true)
    (hidle : s.on (CLK_DOM_STAT.switching.ix (s.rd CLK_DOM_SEL.domain)) = false) (hphase : s.sys.phase = .active) :
    exec (.clkDomSwitch who toHo) s = .next
      { s.put (CLK_DOM_STAT.switching.ix (s.rd CLK_DOM_SEL.domain)) with
        clk := { s.clk with switching := s.clk.switching ++ [(s.rd CLK_DOM_SEL.domain, toHo)] } } := by
  show Machine.execClkDomSwitch who toHo s = _
  rw [Machine.execClkDomSwitch, command_takes htakes]
  refine congrArg Host.Outcome.next ?_
  show (if _ then s else if _ then s.refuseSwitch _ 1 else if _ then _ else if _ then s.refuseSwitch _ 3 else
    s.beginSwitch _ toHo) = _
  rw [if_neg hother, hready, if_neg (by decide), hidle, if_neg (by decide), if_neg (by rw [hphase]; decide),
    State.beginSwitch, if_pos hdom]

theorem clkDomSwitch_refuses {who : Accessor} {toHo : Bool} (htakes : takes s who 0x02 = true)
    (hother : s.on (CLK_DOM_STAT.src.ix (s.rd CLK_DOM_SEL.domain)) ≠ toHo)
    (hready : s.sourceReady (s.rd CLK_DOM_SEL.domain) toHo = false) :
    exec (.clkDomSwitch who toHo) s = .next (s.refuseSwitch (s.rd CLK_DOM_SEL.domain) 1) := by
  show Machine.execClkDomSwitch who toHo s = _
  rw [Machine.execClkDomSwitch, command_takes htakes]
  refine congrArg Host.Outcome.next ?_
  show (if _ then s else if _ then s.refuseSwitch _ 1 else _) = _
  rw [if_neg hother, hready, if_pos (show (!false) = true from rfl)]

theorem refuseSwitch_shows (d : Nat) : (s.refuseSwitch d 1).rd (CLK_DOM_STAT.refused.ix d) = 1 ∧
    (s.refuseSwitch d 1).rd (CLK_DOM_STAT.reason.ix d) = 1 ∧
    (s.refuseSwitch d 1).rd (CLK_DOM_STAT.src.ix d) = s.rd (CLK_DOM_STAT.src.ix d) ∧ KeepsData s (s.refuseSwitch d 1) := by
  have hrefuse := switchRefused_refuseSwitch (s := s) d 1
  refine ⟨?_, ?_, hrefuse.regs _ rfl rfl rfl, hrefuse.logged.keepsData⟩
  · rw [refuseSwitch_eq, rd_err (by rfl), rd_cause (by rfl), refusalShown, State.clr_eq, rd_wr_apart (by rfl),
      rd_wr_apart (by rfl)]
    exact rd_put_self
  · rw [refuseSwitch_eq, rd_err (by rfl), rd_cause (by rfl), refusalShown, State.clr_eq, rd_wr_apart (by rfl)]
    exact rd_wr_lt (show 1 < 2 ^ 4 by decide)

/-- A switch is no longer under way. -/
def switchOver (s : State) (d : Nat) : State :=
  { s with clk := { s.clk with switching := s.clk.switching.filter fun x => decide (x.1 ≠ d) } }

theorem clkSwitchDone_takes {dom : ClkNo} {stall : Nat} {e : Nat × Bool}
    (hfind : s.clk.switching.find? (fun e => decide (e.1 = dom.val)) = some e) (hready : s.sourceReady e.1 e.2 = true) :
    exec (.clkSwitchDone dom stall) s =
      .next ((((switchOver s dom).takeSource dom e.2 false).longest CLK_SWITCH_MAX_NS.ns stall).cause 0x02 5) := by
  have hdom : e.1 = dom.val := by simpa using List.find?_some hfind
  have hready' : (switchOver s dom).sourceReady e.1 e.2 = true := hready
  show Machine.execClkSwitchDone dom stall s = _
  unfold Machine.execClkSwitchDone
  rw [hfind]
  dsimp only
  show (if (!(switchOver s e.1).sourceReady e.1 e.2) = true then _ else _) = _
  rw [hdom] at *
  rw [hready', if_neg (by decide)]
  rfl

theorem clkSwitchDone_ends {dom : ClkNo} {stall : Nat} {e : Nat × Bool}
    (hfind : s.clk.switching.find? (fun e => decide (e.1 = dom.val)) = some e) (hready : s.sourceReady e.1 e.2 = true) :
    ∃ t, exec (.clkSwitchDone dom stall) s = .next t ∧ t.rd (CLK_DOM_STAT.src.ix dom) = e.2.toNat ∧
      t.rd (CLK_DOM_STAT.switching.ix dom) = 0 ∧ t.rd (CLK_DOM_STAT.failover.ix dom) = 0 ∧
      t.lines = s.lines ∧ t.crypto = s.crypto ∧ t.folio = s.folio := by
  have hover : KeepsData s (switchOver s dom) := ⟨rfl, rfl, rfl, rfl⟩
  have htaken := sourceTaken_takeSource (s := switchOver s dom) dom e.2 false
  have hlongest := sets_longest (s := (switchOver s dom).takeSource dom e.2 false) CLK_SWITCH_MAX_NS.ns stall
  obtain ⟨hlines, hcrypto, hfolio, -⟩ := keepsData_trans hover (keepsData_trans htaken.data
    (keepsData_trans hlongest.keepsData (logged_cause 0x02 5).keepsData))
  refine ⟨_, clkSwitchDone_takes hfind hready, ?_, ?_, ?_, hlines, hcrypto, hfolio⟩
  · rw [rd_cause (by rfl), hlongest.rd, htaken.src]
  · rw [rd_cause (by rfl), hlongest.rd, htaken.switching]
  · rw [rd_cause (by rfl), hlongest.rd, htaken.failover]
    rfl

/-- Settles O44: the monitors and the switches go through the lemmas above; a lost reference takes each domain over one
after another. -/
theorem clockSourcesAndSwitches : Obligations.ClockSourcesAndSwitches := by
  unfold Obligations.ClockSourcesAndSwitches
  refine ⟨fun stall s => clockLoss_ends, fun khz s => refWindowCheck_good, fun khz s => refWindowCheck_counts,
    fun s href hgood => ⟨_, refQualify_qualifies href hgood, refQualified_shows⟩, fun count s => hoCheck_calibrates,
    fun count s h hho => ?_, fun s hao => ?_, fun pll s => pllLockLost_restarts, fun pll s => pllLockLost_failsOver,
    fun pll s href hreturn => ?_, fun who toHo s htakes hdom hother hready hidle hphase => ?_,
    fun who toHo s htakes hother hready => ?_, fun dom stall e s => clkSwitchDone_ends⟩
  · obtain ⟨hok, huc, hdata⟩ := oscillatorBad_shows (s := s.advance (aoPs 32)) (f := CLK_SRC_STAT.ho_ok) 3 (code := 0x0D03)
      rfl rfl rfl
    exact ⟨_, hoCheck_fails h hho, hok, huc, keepsData_trans (keepsData_advance _) hdata⟩
  · obtain ⟨hok, huc, hdata⟩ := oscillatorBad_shows (s := s.advance (aoPs 4)) (f := CLK_SRC_STAT.ao_ok) 4 (code := 0x0D04)
      rfl rfl rfl
    exact ⟨_, aoTickTimeout_fails hao, hok, huc, keepsData_trans (keepsData_advance _) hdata⟩
  · obtain ⟨hlock, hready⟩ := setLock_locks (s := s) pll.val true
    have hsets := sets_setLock (s := s) pll.val true
    exact ⟨_, pllLocked_locks href hreturn, hlock, hready, hsets.regs, hsets.frame⟩
  · have hput : Sets [CLK_DOM_STAT.switching.ix (s.rd CLK_DOM_SEL.domain)] s
        (s.put (CLK_DOM_STAT.switching.ix (s.rd CLK_DOM_SEL.domain))) := (Sets.refl s).wr (.head _)
    exact ⟨_, clkDomSwitch_begins htakes hdom hother hready hidle hphase, rfl, rd_put_self, hput.regs, rfl⟩
  · exact ⟨_, clkDomSwitch_refuses htakes hother hready, refuseSwitch_shows _⟩

end Sys2Proof.Proofs

/-! # Power domains sleep, wake and are isolated (R422 to R427), and the Time Base is carried (R431 to R433) -/

namespace Sys2Proof.Proofs

open Sys2Proof Sys2Proof.Machine Sys2Proof.Laws

variable {s t u : State}

/-! ## What a domain moves -/

/-- Only registers and the state of power domains have changed. -/
structure Stirs (s t : State) : Prop where
  frame : t = { s with flds := t.flds, domains := t.domains }

theorem Stirs.refl (s : State) : Stirs s s := ⟨rfl⟩

theorem Stirs.trans (h : Stirs s t) (k : Stirs t u) : Stirs s u := ⟨by rw [k.frame, h.frame]⟩

theorem Stirs.wr {f : Fld} {v : Nat} (h : Stirs s t) : Stirs s (t.wr f v) := ⟨congrArg (fun u => u.wr f v) h.frame⟩

theorem Stirs.setDomain {d : Nat} {v : DomainState} (h : Stirs s t) : Stirs s (t.setDomain d v) :=
  ⟨congrArg (fun u => u.setDomain d v) h.frame⟩

theorem Stirs.sets {l : List Fld} (h : Stirs s t) (k : Sets l t u) : Stirs s u := ⟨by rw [k.frame, h.frame]⟩

theorem Stirs.startWake {d : Nat} (h : Stirs s t) : Stirs s (t.startWake d) := h.setDomain.wr.wr

theorem Stirs.wakeTb (h : Stirs s t) : Stirs s t.wakeTb := by
  unfold State.wakeTb
  split
  · exact h.startWake
  · exact h

theorem Stirs.now (h : Stirs s t) : t.now = s.now := by rw [h.frame]

theorem Stirs.calm (h : Stirs s t) : calm t = calm s := by
  rw [h.frame]
  rfl

theorem Stirs.stalled (h : Stirs s t) : t.stalled = s.stalled := by rw [h.frame]

/-- The frame of a move that comes after time has passed. -/
theorem Stirs.elapsed {n : Nat} (h : Stirs (s.advanceTo n) t) :
    t = { s with flds := t.flds, domains := t.domains, now := t.now, clk := t.clk } := by
  rw [h.frame]
  rfl

theorem domain_of_sets {l : List Fld} (h : Sets l s t) (d : Nat) : t.domain d = s.domain d := by
  rw [State.domain, h.frame, State.domain]

/-- Two copies of a field are two fields. -/
theorem key_ix (f : Fld) {a b : Nat} (h : a ≠ b) : (f.ix a).key ≠ (f.ix b).key := by
  simp only [Fld.key, Fld.ix]
  omega

/-! ## The pages of a domain -/

theorem present_wr {f : Fld} (hf : apart SYS_LC.restrictive f = true) (v page : Nat) :
    (s.wr f v).present page = s.present page := by
  rw [State.present, State.present, State.on, State.on, rd_wr_apart hf]
  rfl

theorem setDomainPages_eq (d st : Nat) :
    s.setDomainPages d st = s.forAll (s.presentPages d) fun u p => u.wr (PAGE_STAT.state.on p) st := by
  unfold State.setDomainPages State.presentPages
  generalize domainPages d = l
  induction l generalizing s with
  | nil => rfl
  | cons p l ih =>
    show ((if s.present p then s.wr (PAGE_STAT.state.on p) st else s).forAll l _) = _
    by_cases hp : s.present p = true
    · have hl : l.filter (s.wr (PAGE_STAT.state.on p) st).present = l.filter s.present :=
        List.filter_congr fun q _ => present_wr (by rfl) st q
      rw [if_pos hp, ih, hl, List.filter_cons_of_pos hp]
      rfl
    · rw [if_neg hp, ih, List.filter_cons_of_neg hp]

/-- The pages that report a domain's state. -/
def stateFields (d : Nat) : List Fld := (domainPages d).map fun p => PAGE_STAT.state.on p

theorem sets_setDomainPages (d st : Nat) : Sets (stateFields d) s (s.setDomainPages d st) :=
  (Sets.refl s).forAllMem fun _ _ hp h => .ite (h.wr (List.mem_map_of_mem hp)) h

theorem places_setDomainPages (d st : Nat) : Places [PAGE_STAT.state] s (s.setDomainPages d st) :=
  (Places.refl s).forAll fun _ _ h => .ite (h.wr (by rfl)) h

/-- Each present page of the domain reports its state. -/
theorem rd_setDomainPages {d st p : Nat} (hp : p ∈ s.presentPages d) (hst : st < 8) :
    (s.setDomainPages d st).rd (PAGE_STAT.state.on p) = st := by
  have hwidth : ∀ q, (PAGE_STAT.state.on q).width = 4 := fun _ => rfl
  rw [setDomainPages_eq]
  exact (rd_forAll_wr (c := st) _ (fun q _ _ => by rw [hwidth, Nat.mod_eq_of_lt (by omega)]) s).trans (if_pos ⟨p, hp, rfl⟩)

theorem presentPages_of_rd (h : t.rd SYS_LC.restrictive = s.rd SYS_LC.restrictive) (hsys : t.sys = s.sys) (d : Nat) :
    t.presentPages d = s.presentPages d :=
  List.filter_congr fun p _ => by rw [State.present, State.present, on_of_rd h, hsys]

/-! ## Sleep (R422 to R424) -/

/-- The instant at which a domain's idle timer ends. -/
def sleepDueAt (s : State) (d : Nat) : Nat :=
  (if d < 64 then max (s.domain d).idleAt (s.pc d).idleSince else (s.domain d).idleAt) +
    s.rd (PWR_DOM_CTL.sleep_idle.ix d) * 10 * psNs

/-- A domain whose idle timer ends. -/
structure MayTire (s : State) (d : Nat) : Prop where
  timers : s.timersRun = true
  state : s.rd (PWR_DOM_STAT.state.ix d) = 0 ∨ s.rd (PWR_DOM_STAT.state.ix d) = 3
  cap : sleepCap d = true
  may : s.maySleep d = true
  pages : ((s.presentPages d).all fun p => s.on (PAGE_CTL.sleep_en.on p)) = true

/-- What the idle timer of a domain does once its instant has come. -/
def tired (s : State) (d st : Nat) : State :=
  if s.gateLate (s.domain d).gateAt then s.abandonGate d
  else if s.domainQuiet d then (s.setGate d none).enterSleep d
  else if st = 3 then s
  else (s.wr (PWR_DOM_STAT.state.ix d) 3).setGate d (some s.now)

theorem sleepDue_tires {d : Nat} (h : MayTire s d) :
    s.sleepDue d = tired (s.advanceTo (sleepDueAt s d)) d (s.rd (PWR_DOM_STAT.state.ix d)) := by
  obtain ⟨htimers, hstate, hcap, hmay, hpages⟩ := h
  unfold State.sleepDue
  extract_lets st idle a
  have hst : (st == 0 || st == 3) = true := by
    rcases hstate with h | h <;> rw [show st = _ from h] <;> rfl
  rw [hst, htimers, hcap, hmay, hpages, if_neg (by decide)]
  rfl

theorem domainQuiet_advanceTo (n d : Nat) : (s.advanceTo n).domainQuiet d = s.domainQuiet d := rfl

theorem domain_advanceTo (n d : Nat) : (s.advanceTo n).domain d = s.domain d := rfl

theorem presentPages_advanceTo (n d : Nat) : (s.advanceTo n).presentPages d = s.presentPages d := rfl

/-- A domain takes its next state. -/
def marked (s : State) (d st : Nat) (v : DomainState) : State := (s.setDomain d v).wr (PWR_DOM_STAT.state.ix d) st

theorem rd_marked_other {d st : Nat} {v : DomainState} {f : Fld} (hf : apart f (PWR_DOM_STAT.state.ix d) = true) :
    (marked s d st v).rd f = s.rd f := rd_wr_apart hf st

theorem rd_marked {d st : Nat} {v : DomainState} (hst : st < 8) : (marked s d st v).rd (PWR_DOM_STAT.state.ix d) = st :=
  rd_wr_lt hst

theorem stirs_marked (d st : Nat) (v : DomainState) : Stirs s (marked s d st v) := (Stirs.refl s).setDomain.wr

theorem writes_marked (d st : Nat) (v : DomainState) : Writes [PWR_DOM_STAT.state.ix d] s (marked s d st v) :=
  (Writes.setDomain (.refl s)).wr (.head _)

theorem presentPages_marked (d st : Nat) (v : DomainState) : (marked s d st v).presentPages d = s.presentPages d :=
  presentPages_of_rd (rd_marked_other (by rfl)) rfl d

/-- A domain falls asleep: its state and its pages say so. -/
theorem enterSleep_sleeps (d : Nat) : Stirs s (s.enterSleep d) ∧ (s.enterSleep d).rd (PWR_DOM_STAT.state.ix d) = 1 ∧
    (∀ p ∈ s.presentPages d, (s.enterSleep d).rd (PAGE_STAT.state.on p) = 2) ∧
    SameRegs s (s.enterSleep d) (PWR_DOM_STAT.state.ix d :: stateFields d) := by
  let v : DomainState := { s.domain d with sleepAt := s.now }
  have hset := sets_setDomainPages (s := marked s d 1 v) d 2
  have heq : s.enterSleep d = (marked s d 1 v).setDomainPages d 2 := rfl
  rw [heq]
  refine ⟨(stirs_marked d 1 v).sets hset, ?_, fun p hp => rd_setDomainPages ?_ (by decide), ?_⟩
  · rw [(places_setDomainPages d 2).rd, rd_marked (by decide)]
  · rwa [presentPages_marked]
  · exact (((writes_marked d 1 v).mono (List.cons_subset_cons _ (List.nil_subset _))).trans
      (hset.writes.mono (List.subset_cons_self _ _))).regs

theorem setGate_stirs (d : Nat) (since : Option Nat) : Stirs s (s.setGate d since) ∧
    ((s.setGate d since).domain d).gateAt = since := by
  refine ⟨(Stirs.refl s).setDomain, ?_⟩
  rw [State.setGate, State.domain_setDomain]

theorem presentPages_setGate (d : Nat) (since : Option Nat) : (s.setGate d since).presentPages d = s.presentPages d := rfl

theorem tired_sleeps {d st : Nat} (hgate : (s.domain d).gateAt = none) (hquiet : s.domainQuiet d = true) :
    tired s d st = (s.setGate d none).enterSleep d := by
  rw [tired, hgate, if_neg (by simp [State.gateLate]), if_pos hquiet]

theorem tired_waits {d : Nat} (hgate : (s.domain d).gateAt = none) (hquiet : s.domainQuiet d = false) :
    tired s d 0 = (s.wr (PWR_DOM_STAT.state.ix d) 3).setGate d (some s.now) := by
  rw [tired, hgate, if_neg (by simp [State.gateLate]), if_neg (ne_true_of_eq_false hquiet), if_neg (by decide)]

theorem tired_abandons {d st at_ : Nat} (hgate : (s.domain d).gateAt = some at_) (hlate : at_ + 2000000 < s.now) :
    tired s d st = s.abandonGate d := by
  rw [tired, hgate, if_pos ((gateLate_iff _).2 hlate)]

/-- An idle domain that is quiet goes to Sleep. -/
theorem domainSleepEntry_sleeps {dom : DomainNo} (h : MayTire s dom) (hgate : (s.domain dom).gateAt = none)
    (hquiet : s.domainQuiet dom = true) :
    ∃ t, exec (.domainSleepEntry dom) s = .next t ∧ t.rd (PWR_DOM_STAT.state.ix dom) = 1 ∧
      (∀ p ∈ s.presentPages dom, t.rd (PAGE_STAT.state.on p) = 2) ∧
      SameRegs s t (PWR_DOM_STAT.state.ix dom :: (domainPages dom).map fun p => PAGE_STAT.state.on p) ∧
      t = { s with flds := t.flds, domains := t.domains, now := t.now, clk := t.clk } := by
  obtain ⟨hstirs, hstate, hpages, hregs⟩ :=
    enterSleep_sleeps (s := (s.advanceTo (sleepDueAt s dom)).setGate dom none) dom
  refine ⟨_, ?_, hstate, fun p hp => hpages p hp, hregs, ((setGate_stirs _ _).1.trans hstirs).elapsed⟩
  exact congrArg Host.Outcome.next ((sleepDue_tires h).trans (tired_sleeps hgate hquiet))

/-- An idle domain that is not quiet waits for quiescence. -/
theorem domainSleepEntry_waits {dom : DomainNo} (h : MayTire s dom) (hstate : s.rd (PWR_DOM_STAT.state.ix dom) = 0)
    (hgate : (s.domain dom).gateAt = none) (hquiet : s.domainQuiet dom = false) :
    ∃ t, exec (.domainSleepEntry dom) s = .next t ∧ t.rd (PWR_DOM_STAT.state.ix dom) = 3 ∧
      (t.domain dom).gateAt = some t.now ∧ SameRegs s t [PWR_DOM_STAT.state.ix dom] ∧
      t = { s with flds := t.flds, domains := t.domains, now := t.now, clk := t.clk } := by
  have hdue := sleepDue_tires h
  rw [hstate] at hdue
  obtain ⟨hstirs, hsince⟩ := setGate_stirs (s := (s.advanceTo (sleepDueAt s dom)).wr (PWR_DOM_STAT.state.ix dom) 3) dom
    (some (s.advanceTo (sleepDueAt s dom)).now)
  refine ⟨_, congrArg Host.Outcome.next (hdue.trans (tired_waits hgate hquiet)), State.rd_wr_self _ _ _, ?_, ?_,
    ((Stirs.refl _).wr.trans hstirs).elapsed⟩
  · rw [hsince, hstirs.now]
    rfl
  · exact (Writes.setDomain (Writes.wr (.refl _) (.head _))).regs

/-- A wait of more than 2 µs is abandoned. -/
theorem domainSleepEntry_abandons {dom : DomainNo} {at_ : Nat} (h : MayTire s dom)
    (hgate : (s.domain dom).gateAt = some at_) (hlate : at_ + 2000000 < s.now) :
    ∃ t, exec (.domainSleepEntry dom) s = .next t ∧ t.rd (PWR_DOM_STAT.state.ix dom) = 0 ∧
      (t.domain dom).gateAt = none ∧ (∀ p ∈ s.presentPages dom, t.rd (PAGE_STAT.gate_abandoned.on p) = 1) ∧
      t.rd (ERR_STAT.ce.on 0x03) = 1 ∧ KeepsData s t := by
  have hpast : at_ + 2000000 < (s.advanceTo (sleepDueAt s dom)).now := by
    rw [now_advanceTo]
    omega
  obtain ⟨hopen, hpages, -, hce, hrun, hdata⟩ :=
    (gateAbandoned (s := s.advanceTo (sleepDueAt s dom)) dom).advanceTo
  exact ⟨_, congrArg Host.Outcome.next ((sleepDue_tires h).trans (tired_abandons hgate hpast)), hrun, hopen, hpages, hce,
    hdata⟩

/-! ## Deep Sleep (R422 to R424) -/

/-- The clamps of a domain set, and it is in Deep Sleep. -/
def deepened (s : State) (d : Nat) : State :=
  ((marked s d 2 { s.domain d with sleepAt := s.now }).put (PWR_DOM_STAT.clamped.ix d)).setDomainPages d 3

theorem deepened_sleeps (d : Nat) : Stirs s (deepened s d) ∧ (deepened s d).rd (PWR_DOM_STAT.state.ix d) = 2 ∧
    (deepened s d).rd (PWR_DOM_STAT.clamped.ix d) = 1 ∧
    ∀ p ∈ s.presentPages d, (deepened s d).rd (PAGE_STAT.state.on p) = 3 := by
  rw [deepened]
  generalize hv : ({ s.domain d with sleepAt := s.now } : DomainState) = v
  have hput : ∀ {f : Fld}, apart f (PWR_DOM_STAT.clamped.ix d) = true →
      ((marked s d 2 v).put (PWR_DOM_STAT.clamped.ix d)).rd f = (marked s d 2 v).rd f := fun hf => rd_wr_apart hf 1
  have hpresent := presentPages_of_rd (s := marked s d 2 v) (t := (marked s d 2 v).put (PWR_DOM_STAT.clamped.ix d))
    (hput (by rfl)) rfl d
  refine ⟨(stirs_marked d 2 v).wr.sets (sets_setDomainPages d 3), ?_, ?_, fun p hp => rd_setDomainPages ?_ (by decide)⟩
  · rw [(places_setDomainPages d 3).rd, hput (by rfl), rd_marked (by decide)]
  · rw [(places_setDomainPages d 3).rd, rd_put_self]
  · rwa [hpresent, presentPages_marked]

theorem domainDeepSleepEntry_sleeps {dom : DomainNo} (htimers : s.timersRun = true)
    (hstate : s.rd (PWR_DOM_STAT.state.ix dom) = 1) (hcap : deepCap dom = true) (hmay : s.mayDeep dom = true)
    (hpages : ((s.presentPages dom).all fun p => s.on (PAGE_CTL.deep_en.on p)) = true) :
    exec (.domainDeepSleepEntry dom) s = .next (deepened
      (s.advanceTo ((s.domain dom).sleepAt + s.rd (PWR_DOM_CTL.deep_idle_us.ix dom) * 1000000)) dom) := by
  show Machine.execDomainDeepSleepEntry dom s = _
  unfold Machine.execDomainDeepSleepEntry
  extract_lets d a b
  rw [if_neg (by rw [htimers, hstate, hcap, hmay, hpages]; decide)]
  rfl

/-! ## Wakes (R425) -/

theorem wakeTb_of_ne (h : s.rd (PWR_DOM_STAT.state.ix 74) ≠ 2) : s.wakeTb = s := by rw [State.wakeTb, if_neg h]

/-- Copies of two fields with different numbers are two fields. -/
theorem key_ix_ne {f g : Fld} {a b : Nat} (h : a ≠ b) (hf : f.page < 128 ∧ f.off < 4096 ∧ f.lsb < 32 := by decide)
    (hg : g.page < 128 ∧ g.off < 4096 ∧ g.lsb < 32 := by decide) : (f.ix a).key ≠ (g.ix b).key := by
  simp only [Fld.key, Fld.ix]
  omega

/-- The wake of the Time Base moves no other domain. -/
theorem wakeTb_other {d : Nat} (h : d ≠ 74) :
    (∀ {f : Fld}, f.page < 128 ∧ f.off < 4096 ∧ f.lsb < 32 → s.wakeTb.rd (f.ix d) = s.rd (f.ix d)) ∧
    s.wakeTb.domain d = s.domain d := by
  unfold State.wakeTb
  split
  · rw [State.startWake]
    refine ⟨fun {f} hf => ?_, ?_⟩
    · rw [State.bump_eq, State.rd_wr_ne _ (key_ix_ne h hf), State.rd_wr_ne _ (key_ix_ne h hf)]
      rfl
    · rw [State.bump_eq, State.wr_domain, State.wr_domain, State.domain_setDomain_ne _ h]
  · exact ⟨fun _ => rfl, rfl⟩

/-- A domain that begins to wake. -/
theorem startWake_starts (d : Nat) : Stirs s (s.startWake d) ∧ (s.startWake d).rd (PWR_DOM_STAT.state.ix d) = 4 ∧
    CountedUp s (s.startWake d) (PWR_DOM_WAKES.count.ix d) ∧ ((s.startWake d).domain d).wakeAt = some s.now := by
  have heq : s.startWake d = (marked s d 4 { s.domain d with wakeAt := some s.now }).bump (PWR_DOM_WAKES.count.ix d) := rfl
  rw [heq]
  generalize hv : ({ s.domain d with wakeAt := some s.now } : DomainState) = v
  refine ⟨(stirs_marked d 4 v).wr, ?_, ?_, ?_⟩
  · rw [State.bump_eq, rd_wr_apart (by rfl), rd_marked (by decide)]
  · rw [CountedUp, rd_bump, rd_marked_other (by rfl)]
  · rw [State.bump_eq, State.wr_domain, marked, State.wr_domain, State.domain_setDomain, ← hv]

/-- A domain that sleeps begins to wake. -/
theorem wakeDomain_wakes {d : Nat} (h : s.rd (PWR_DOM_STAT.state.ix d) = 1 ∨ s.rd (PWR_DOM_STAT.state.ix d) = 2) :
    Stirs s (s.wakeDomain d) ∧ (s.wakeDomain d).rd (PWR_DOM_STAT.state.ix d) = 4 ∧
      CountedUp s (s.wakeDomain d) (PWR_DOM_WAKES.count.ix d) ∧
      (s.wakeDomain d).rd (PWR_DOM_STAT.last_outcome.ix d) = 1 ∧ ((s.wakeDomain d).domain d).wakeAt = some s.now := by
  obtain ⟨hstirs, hstate, hcount, hwake⟩ := startWake_starts (s := s) d
  have heq : s.wakeDomain d = ((s.startWake d).put (PWR_DOM_STAT.last_outcome.ix d)).wakeTb := by
    rw [State.wakeDomain, if_pos h]
  have hput : ∀ {f : Fld}, apart f (PWR_DOM_STAT.last_outcome.ix d) = true →
      ((s.startWake d).put (PWR_DOM_STAT.last_outcome.ix d)).rd f = (s.startWake d).rd f := fun hf => rd_wr_apart hf 1
  have hlast : ((s.startWake d).put (PWR_DOM_STAT.last_outcome.ix d)).rd (PWR_DOM_STAT.last_outcome.ix d) = 1 := rd_put_self
  have hkept : (∀ {f : Fld}, f.page < 128 ∧ f.off < 4096 ∧ f.lsb < 32 → (s.wakeDomain d).rd (f.ix d) =
      ((s.startWake d).put (PWR_DOM_STAT.last_outcome.ix d)).rd (f.ix d)) ∧
      (s.wakeDomain d).domain d = (s.startWake d).domain d := by
    rw [heq]
    by_cases hd : d = 74
    · subst hd
      rw [wakeTb_of_ne (by rw [hput (by rfl), hstate]; decide)]
      exact ⟨fun _ => rfl, by rw [State.put_eq, State.wr_domain]⟩
    · exact wakeTb_other hd
  obtain ⟨hrd, hdom⟩ := hkept
  refine ⟨heq ▸ hstirs.wr.wakeTb, ?_, ?_, ?_, hdom ▸ hwake⟩
  · rw [hrd (by decide), hput (by rfl), hstate]
  · rw [CountedUp, hrd (by decide), hput (by rfl)]
    exact hcount
  · rw [hrd (by decide), hlast]

theorem domainWake_wakes {dom : DomainNo} {first : Grant}
    (h : s.rd (PWR_DOM_STAT.state.ix dom) = 1 ∨ s.rd (PWR_DOM_STAT.state.ix dom) = 2) :
    exec (.domainWake dom first) s = .next (s.wakeDomain dom) := by
  show Machine.execDomainWake dom first s = _
  unfold Machine.execDomainWake
  extract_lets d
  rcases h with h | h <;> rw [show s.rd (PWR_DOM_STAT.state.ix d) = _ from h] <;> rfl

theorem domainWake_aborts {dom : DomainNo} {first : Grant} (h : s.rd (PWR_DOM_STAT.state.ix dom) = 3) :
    exec (.domainWake dom first) s = .next (s.abortEntry dom) := by
  show Machine.execDomainWake dom first s = _
  unfold Machine.execDomainWake
  extract_lets d
  rw [show s.rd (PWR_DOM_STAT.state.ix d) = _ from h]
  rfl

/-- A word before the commit point aborts an entry. -/
theorem abortEntry_aborts (d : Nat) : Stirs s (s.abortEntry d) ∧ (s.abortEntry d).rd (PWR_DOM_STAT.state.ix d) = 0 ∧
    CountedUp s (s.abortEntry d) (PWR_DOM_ABORTS.count.ix d) ∧
    (s.abortEntry d).rd (PWR_DOM_STAT.last_outcome.ix d) = 0 ∧ ((s.abortEntry d).domain d).gateAt = none := by
  obtain ⟨hgate, hnone⟩ := setGate_stirs (s := s) d none
  have hrd : ∀ f, (s.setGate d none).rd f = s.rd f := fun _ => rfl
  unfold State.abortEntry
  extract_lets a
  have ha : Stirs s a := hgate.wr.wr
  have hcount : CountedUp s a (PWR_DOM_ABORTS.count.ix d) := by
    rw [CountedUp, show a = ((s.setGate d none).bump (PWR_DOM_ABORTS.count.ix d)).clr _ from rfl, State.clr_eq,
      rd_wr_apart (by rfl), rd_bump, hrd]
  have hlast : a.rd (PWR_DOM_STAT.last_outcome.ix d) = 0 := State.rd_wr_self _ _ _
  have hdom : (a.domain d).gateAt = none := hnone
  clear_value a
  refine ⟨ha.wr.setDomain, State.rd_wr_self _ _ _, ?_, ?_, ?_⟩
  · exact (rd_wr_apart (by rfl) 0).trans hcount
  · exact (rd_wr_apart (by rfl) 0).trans hlast
  · rw [State.domain_setDomain]
    exact hdom

/-! ## Ready (R424) -/

/-- The domain is in Run, and its pages say so. -/
theorem readyDomain_runs (d : Nat) : Stirs s (s.readyDomain d) ∧ (s.readyDomain d).rd (PWR_DOM_STAT.state.ix d) = 0 ∧
    (s.readyDomain d).rd (PWR_DOM_STAT.clamped.ix d) = 0 ∧ ((s.readyDomain d).domain d).wakeAt = none ∧
    ∀ p ∈ s.presentPages d, (s.readyDomain d).rd (PAGE_STAT.state.on p) = 1 := by
  unfold State.readyDomain
  extract_lets a
  have ha : Stirs s a := (Stirs.refl s).wr.wr
  have hstate : a.rd (PWR_DOM_STAT.state.ix d) = 0 := (rd_wr_apart (by rfl) 0).trans (State.rd_wr_self _ _ _)
  have hclamped : a.rd (PWR_DOM_STAT.clamped.ix d) = 0 := State.rd_wr_self _ _ _
  have hpages : a.presentPages d = s.presentPages d :=
    presentPages_of_rd ((rd_wr_apart (by rfl) 0).trans (rd_wr_apart (by rfl) 0)) rfl d
  clear_value a
  generalize hv : ({ a.domain d with wakeAt := none, gateAt := none, idleAt := a.now } : DomainState) = v
  have hset := sets_setDomainPages (s := a.setDomain d v) d 1
  refine ⟨ha.setDomain.sets hset, ?_, ?_, ?_, fun p hp => rd_setDomainPages ?_ (by decide)⟩
  · rw [(places_setDomainPages d 1).rd]
    exact hstate
  · rw [(places_setDomainPages d 1).rd]
    exact hclamped
  · rw [domain_of_sets hset, State.domain_setDomain, ← hv]
  · exact hpages ▸ hp

theorem domainReady_runs {dom : DomainNo} {ns at_ : Nat} (hwake : (s.domain dom).wakeAt = some at_) (hdom : dom.val ≠ 74)
    (hns : ns ≤ s.wakeLimit dom) :
    exec (.domainReady dom ns) s =
      .next (((s.advanceTo (at_ + ns * 1000)).readyDomain dom).longest (PWR_WAKE_MAX_NS.ns.ix dom) ns) := by
  show Machine.execDomainReady dom ns s = _
  unfold Machine.execDomainReady
  extract_lets d
  simp only [hwake, d]
  rw [if_neg (fun h => hdom h.1), if_neg (Nat.not_lt.2 hns)]
  rfl

theorem domainReady_readies {dom : DomainNo} {ns at_ : Nat} (hwake : (s.domain dom).wakeAt = some at_)
    (hdom : dom.val ≠ 74) (hns : ns ≤ s.wakeLimit dom) :
    ∃ t, exec (.domainReady dom ns) s = .next t ∧ t.rd (PWR_DOM_STAT.state.ix dom) = 0 ∧
      t.rd (PWR_DOM_STAT.clamped.ix dom) = 0 ∧ (t.domain dom).wakeAt = none ∧ t.now = max s.now (at_ + ns * 1000) ∧
      (∀ p ∈ s.presentPages dom, t.rd (PAGE_STAT.state.on p) = 1) ∧
      t = { s with flds := t.flds, domains := t.domains, now := t.now, clk := t.clk } := by
  obtain ⟨hstirs, hstate, hclamped, hawake, hpages⟩ := readyDomain_runs (s := s.advanceTo (at_ + ns * 1000)) dom
  have hset := sets_longest (s := (s.advanceTo (at_ + ns * 1000)).readyDomain dom) (PWR_WAKE_MAX_NS.ns.ix dom) ns
  have hall := hstirs.sets hset
  refine ⟨_, domainReady_runs hwake hdom hns, ?_, ?_, ?_, ?_, fun p hp => ?_, hall.elapsed⟩
  · rw [hset.writes.rd (by rfl), hstate]
  · rw [hset.writes.rd (by rfl), hclamped]
  · rw [domain_of_sets hset, hawake]
  · rw [hall.now, now_advanceTo]
  · rw [hset.writes.rd (by rfl), hpages p hp]

/-! ## The end of idle entries (R423) -/

/-- The state of a domain once it has been woken: a sleeping one wakes, and an entry that waits is dropped. -/
def woken (st : Nat) : Nat := if st = 1 ∨ st = 2 then 4 else if st = 3 then 0 else st

theorem woken_woken (st : Nat) : woken (woken st) = woken st := by
  unfold woken
  split
  · rfl
  · split
    · rfl
    · rfl

/-- One domain is woken. -/
def wakeOne (s : State) (d : Nat) : State :=
  if s.rd (PWR_DOM_STAT.state.ix d) = 3 then (s.setGate d none).wr (PWR_DOM_STAT.state.ix d) 0 else s.wakeDomain d

theorem wakeAll_eq : s.wakeAll = s.forAll (List.range 75) wakeOne := rfl

theorem stirs_wakeOne (d : Nat) : Stirs s (wakeOne s d) := by
  unfold wakeOne State.wakeDomain
  split
  · exact (setGate_stirs d none).1.wr
  · dsimp only
    split
    · exact (startWake_starts d).1.wr.wakeTb
    · exact .refl s

theorem rd_wakeOne_self (d : Nat) : (wakeOne s d).rd (PWR_DOM_STAT.state.ix d) = woken (s.rd (PWR_DOM_STAT.state.ix d)) := by
  unfold wakeOne woken
  by_cases h3 : s.rd (PWR_DOM_STAT.state.ix d) = 3
  · rw [if_pos h3, if_neg (by omega), if_pos h3]
    exact State.rd_wr_self _ _ _
  · rw [if_neg h3, if_neg h3]
    by_cases h : s.rd (PWR_DOM_STAT.state.ix d) = 1 ∨ s.rd (PWR_DOM_STAT.state.ix d) = 2
    · rw [if_pos h, (wakeDomain_wakes h).2.1]
    · rw [if_neg h, State.wakeDomain, if_neg h]

theorem rd_wakeTb_state (d : Nat) : s.wakeTb.rd (PWR_DOM_STAT.state.ix d) = s.rd (PWR_DOM_STAT.state.ix d) ∨
    s.wakeTb.rd (PWR_DOM_STAT.state.ix d) = woken (s.rd (PWR_DOM_STAT.state.ix d)) := by
  by_cases hd : d = 74
  · subst hd
    by_cases h : s.rd (PWR_DOM_STAT.state.ix 74) = 2
    · right
      rw [State.wakeTb, if_pos h, (startWake_starts 74).2.1, h]
      rfl
    · left
      rw [wakeTb_of_ne h]
  · exact .inl ((wakeTb_other hd).1 (by decide))

/-- Another domain stays as it is, but for the Time Base's, which may wake with it. -/
theorem rd_wakeOne_other {d e : Nat} (h : d ≠ e) :
    (wakeOne s e).rd (PWR_DOM_STAT.state.ix d) = s.rd (PWR_DOM_STAT.state.ix d) ∨
      (wakeOne s e).rd (PWR_DOM_STAT.state.ix d) = woken (s.rd (PWR_DOM_STAT.state.ix d)) := by
  unfold wakeOne State.wakeDomain
  split
  · exact .inl (State.rd_wr_ne _ (key_ix _ h) 0)
  · dsimp only
    split
    · have hrd : ((s.startWake e).put (PWR_DOM_STAT.last_outcome.ix e)).rd (PWR_DOM_STAT.state.ix d) =
          s.rd (PWR_DOM_STAT.state.ix d) := by
        rw [State.put_eq, rd_wr_apart (by rfl), State.startWake, State.bump_eq, rd_wr_apart (by rfl),
          State.rd_wr_ne _ (key_ix _ h)]
        rfl
      rw [← hrd]
      exact rd_wakeTb_state d
    · exact .inl rfl

/-- Every domain of a list is woken, and no domain's state changes but so. -/
theorem forAll_wakeOne (l : List Nat) :
    (∀ d, (s.forAll l wakeOne).rd (PWR_DOM_STAT.state.ix d) = s.rd (PWR_DOM_STAT.state.ix d) ∨
      (s.forAll l wakeOne).rd (PWR_DOM_STAT.state.ix d) = woken (s.rd (PWR_DOM_STAT.state.ix d))) ∧
    ∀ d ∈ l, (s.forAll l wakeOne).rd (PWR_DOM_STAT.state.ix d) = woken (s.rd (PWR_DOM_STAT.state.ix d)) := by
  induction l generalizing s with
  | nil => exact ⟨fun _ => .inl rfl, fun d hd => absurd hd List.not_mem_nil⟩
  | cons e l ih =>
    obtain ⟨hone, hall⟩ := ih (s := wakeOne s e)
    have hstep : ∀ d, (wakeOne s e).rd (PWR_DOM_STAT.state.ix d) = s.rd (PWR_DOM_STAT.state.ix d) ∨
        (wakeOne s e).rd (PWR_DOM_STAT.state.ix d) = woken (s.rd (PWR_DOM_STAT.state.ix d)) := fun d => by
      by_cases hd : d = e
      · right
        rw [hd, rd_wakeOne_self]
      · exact rd_wakeOne_other hd
    have hwoken : ∀ d, woken ((wakeOne s e).rd (PWR_DOM_STAT.state.ix d)) = woken (s.rd (PWR_DOM_STAT.state.ix d)) :=
      fun d => by
        rcases hstep d with h | h
        · rw [h]
        · rw [h, woken_woken]
    rw [show s.forAll (e :: l) wakeOne = (wakeOne s e).forAll l wakeOne from rfl]
    refine ⟨fun d => ?_, fun d hd => ?_⟩
    · rcases hone d with h | h
      · rw [h]
        exact hstep d
      · exact .inr (h.trans (hwoken d))
    · obtain rfl | hd := List.mem_cons.1 hd
      · rcases hone d with h | h
        · rw [h, rd_wakeOne_self]
        · exact h.trans (hwoken d)
      · exact (hall d hd).trans (hwoken d)

theorem places_wakeAll :
    Places [PWR_DOM_STAT.state, PWR_DOM_STAT.last_outcome, PWR_DOM_WAKES.count] s s.wakeAll := by
  refine (Places.refl s).forAll fun u d h => ?_
  split
  · exact (h.flds rfl : Places _ s (u.setGate d none)).wr (by rfl)
  · have hstart : ∀ {v : State} (e : Nat),
        Places [PWR_DOM_STAT.state, PWR_DOM_STAT.last_outcome, PWR_DOM_WAKES.count] s v →
        Places [PWR_DOM_STAT.state, PWR_DOM_STAT.last_outcome, PWR_DOM_WAKES.count] s (v.startWake e) :=
      fun e k => ((k.flds rfl : Places _ s (State.setDomain _ _ _)).wr (by rfl)).wr (by rfl)
    have hput := (hstart d h).wr (f := PWR_DOM_STAT.last_outcome.ix d) (v := 1) (by rfl)
    exact .ite (.ite (hstart 74 hput) hput) h

theorem idleDisable_wakes {who : Accessor} (htakes : takes s who 0x03 = true) :
    ∃ t, exec (.idleDisable who) s = .next t ∧ t.rd PWR_CTL.idle_en = 0 ∧
      (∀ d < 75, s.rd (PWR_DOM_STAT.state.ix d) = 1 ∨ s.rd (PWR_DOM_STAT.state.ix d) = 2 →
        t.rd (PWR_DOM_STAT.state.ix d) = 4) ∧
      (∀ d < 75, s.rd (PWR_DOM_STAT.state.ix d) = 3 → t.rd (PWR_DOM_STAT.state.ix d) = 0) ∧
      t = { s with flds := t.flds, domains := t.domains } := by
  have hexec : exec (.idleDisable who) s = .next (s.clr PWR_CTL.idle_en).wakeAll := by
    show Machine.execIdleDisable who s = _
    rw [Machine.execIdleDisable, command_takes htakes]
  have hstate : ∀ d < 75, (s.clr PWR_CTL.idle_en).wakeAll.rd (PWR_DOM_STAT.state.ix d) =
      woken (s.rd (PWR_DOM_STAT.state.ix d)) := fun d hd => by
    rw [wakeAll_eq, (forAll_wakeOne _).2 d (List.mem_range.2 hd), State.clr_eq, rd_wr_apart (by rfl)]
  have hframe : Stirs s (s.clr PWR_CTL.idle_en).wakeAll :=
    forAll_keeps (P := Stirs s) (fun _ d h => h.trans (stirs_wakeOne d)) _ (Stirs.refl s).wr
  refine ⟨_, hexec, ?_, fun d hd h => ?_, fun d hd h => ?_, hframe.frame⟩
  · rw [places_wakeAll.rd]
    exact State.rd_wr_self _ _ _
  · rw [hstate d hd, woken, if_pos h]
  · rw [hstate d hd, h]
    rfl

/-! ## The Time Base (R431 to R433) -/

/-- The Time Base is stored and stops. -/
def tbStored (s : State) : State :=
  { s with clk := { s.clk with stored := s.clk.tbPs, a0 := s.ao, storedAt := s.now, tbAsleep := true } }

theorem tbStored_stores : (tbStored s).clk.tbAsleep = true ∧ (tbStored s).clk.stored = (tbStored s).clk.tbPs ∧
    (tbStored s).clk.a0 = (tbStored s).ao := ⟨rfl, rfl, rfl⟩

/-- The instant at which the Time Base may sleep. -/
def tbDueAt (s : State) : Nat :=
  ((List.range 74).map fun d => (s.domain d).sleepAt).foldl max (s.domain 74).idleAt + 100 * psUs

theorem tbDeepEntry_sleeps (htimers : s.timersRun = true) (hcarry : s.on TB_CTL.deep_carry_en = true)
    (hao : s.on CLK_SRC_STAT.ao_ok = true) (hdeep : s.on (PAGE_CTL.deep_en.on 0x01) = true) (hasleep : s.clk.tbAsleep = false)
    (hstate : s.rd (PWR_DOM_STAT.state.ix 74) = 0) (hrest : (List.range 74).all s.atRest = true) :
    exec .tbDeepEntry s = .next ((deepened (tbStored (s.advanceTo (tbDueAt s))) 74).setLock 16 false) := by
  show Machine.execTbDeepEntry s = _
  rw [Machine.execTbDeepEntry, htimers, hcarry, hao, hdeep, hasleep, hstate, hrest, if_neg (by decide)]
  rfl

theorem Stirs.clk (h : Stirs s t) : t.clk = s.clk := by rw [h.frame]

theorem Stirs.ao (h : Stirs s t) : t.ao = s.ao := by rw [State.ao, State.ao, h.now]

/-- The frame of a move that comes after the Time Base has been stored. -/
theorem Stirs.stored {n : Nat} (h : Stirs (tbStored (s.advanceTo n)) t) :
    t = { s with flds := t.flds, domains := t.domains, now := t.now, clk := t.clk } := by
  rw [h.frame]
  rfl

/-- What the Deep Sleep of the Time Base leaves. -/
structure TbSlept (s t : State) : Prop where
  asleep : t.clk.tbAsleep = true
  stored : t.clk.stored = t.clk.tbPs
  since : t.clk.a0 = t.ao
  state : t.rd (PWR_DOM_STAT.state.ix 74) = 2
  unlocked : t.locked 16 = false
  stirs : Stirs (tbStored s) t

theorem tbSlept_setLock (s : State) : TbSlept s ((deepened (tbStored s) 74).setLock 16 false) := by
  obtain ⟨hslept, hstored, hcount⟩ := tbStored_stores (s := s)
  generalize hu : tbStored s = u at *
  obtain ⟨hstirs, hstate, -, -⟩ := deepened_sleeps (s := u) 74
  generalize deepened u 74 = v at *
  have hall := hstirs.sets (sets_setLock (s := v) 16 false)
  have hrd : (v.setLock 16 false).rd (PWR_DOM_STAT.state.ix 74) = 2 := by rw [(places_setLock 16 false).rd, hstate]
  have hunlocked := (setLock_locks (s := v) 16 false).1
  generalize v.setLock 16 false = t at *
  refine ⟨?_, ?_, ?_, hrd, hunlocked, hu ▸ hall⟩
  · rw [hall.clk, hslept]
  · rw [hall.clk, hstored]
  · rw [hall.clk, hall.ao, hcount]

theorem tbDeepEntry_stores (htimers : s.timersRun = true) (hcarry : s.on TB_CTL.deep_carry_en = true)
    (hao : s.on CLK_SRC_STAT.ao_ok = true) (hdeep : s.on (PAGE_CTL.deep_en.on 0x01) = true) (hasleep : s.clk.tbAsleep = false)
    (hstate : s.rd (PWR_DOM_STAT.state.ix 74) = 0) (hrest : (List.range 74).all s.atRest = true) :
    ∃ t, exec .tbDeepEntry s = .next t ∧ t.clk.tbAsleep = true ∧ t.clk.stored = t.clk.tbPs ∧ t.clk.a0 = t.ao ∧
      t.rd (PWR_DOM_STAT.state.ix 74) = 2 ∧ t.locked 16 = false ∧
      t = { s with flds := t.flds, domains := t.domains, now := t.now, clk := t.clk } := by
  have h := tbSlept_setLock (s.advanceTo (tbDueAt s))
  have hexec := tbDeepEntry_sleeps htimers hcarry hao hdeep hasleep hstate hrest
  generalize (deepened (tbStored (s.advanceTo (tbDueAt s))) 74).setLock 16 false = t at *
  exact ⟨t, hexec, h.asleep, h.stored, h.since, h.state, h.unlocked, h.stirs.stored⟩

theorem clk_moves (c : ClockState) (f : Fld) : ({ s with clk := c } : State).rd f = s.rd f ∧
    KeepsData s { s with clk := c } ∧ ({ s with clk := c } : State).clk = c ∧ ({ s with clk := c } : State).now = s.now :=
  ⟨rfl, ⟨rfl, rfl, rfl, rfl⟩, rfl, rfl⟩

/-- The clocks once the Time Base has taken the carried value. -/
def tbTaken (s : State) (a1 skew : Nat) : ClockState :=
  { s.clk with
    tbPs := (s.clk.stored / psNs + (aoPs (a1 - s.clk.a0) + 500) / psNs) * psNs + (s.now - aoPs a1), tbAsleep := false
    skewPs := skew }

theorem carryTo_carries (a1 : Nat) :
    ∃ skew, Logged { s with clk := tbTaken s a1 skew } (s.carryTo a1) ∧ CountedUp s (s.carryTo a1) TB_CARRIES.count := by
  unfold State.carryTo
  extract_lets ticks ns added _ a b
  obtain ⟨hrd, -⟩ := clk_moves (s := s) (tbTaken s a1 (s.clk.skewPs + added * psNs)) TB_CARRIES.count
  refine ⟨s.clk.skewPs + added * psNs, ?_⟩
  have ha : a = { s with clk := tbTaken s a1 (s.clk.skewPs + added * psNs) } := rfl
  rw [← ha] at hrd ⊢
  have hb : Logged a b := (((Logged.refl a).bump _).wr _ _).trans (logged_cause _ _)
  have hcount : CountedUp s b TB_CARRIES.count := by
    rw [CountedUp, rd_cause (by rfl), rd_wr_apart (by rfl), rd_bump, hrd]
  clear_value b a added
  split
  · refine ⟨hb.trans (logged_err _ _ _), ?_⟩
    rw [CountedUp, rd_err (by rfl)]
    exact hcount
  · exact ⟨hb, hcount⟩

theorem Gauged.clk (h : Gauged s t) : t.clk = s.clk := by rw [h.frame]

/-- The counts of the Time Base stand. -/
structure TbCounted (s t : State) : Prop where
  read : t.rd TB_CARRIES.count = s.rd TB_CARRIES.count
  sets : t.rd TB_SETS.count = s.rd TB_SETS.count

theorem TbCounted.wr {f : Fld} {v : Nat} (h : TbCounted s t)
    (hf : clear [f] TB_CARRIES.count = true ∧ clear [f] TB_SETS.count = true := by exact ⟨rfl, rfl⟩) :
    TbCounted s (t.wr f v) :=
  have hw : Writes [f] t (t.wr f v) := (Writes.refl t).wr (.head _)
  ⟨(hw.rd hf.1).trans h.read, (hw.rd hf.2).trans h.sets⟩

theorem TbCounted.cause {page bit : Nat} (h : TbCounted s t)
    (hf : clear (causeFields page) TB_CARRIES.count = true ∧ clear (causeFields page) TB_SETS.count = true := by
      exact ⟨rfl, rfl⟩) : TbCounted s (t.cause page bit) :=
  ⟨(rd_cause hf.1 bit).trans h.read, (rd_cause hf.2 bit).trans h.sets⟩

theorem TbCounted.ite {c : Prop} [Decidable c] {a b : State} (ha : TbCounted s a) (hb : TbCounted s b) :
    TbCounted s (if c then a else b) := by
  split
  · exact ha
  · exact hb

theorem TbCounted.forAll {α : Type} {f : State → α → State} {as : List α} (h : TbCounted s t)
    (hf : ∀ u a, TbCounted s u → TbCounted s (f u a)) : TbCounted s (t.forAll as f) :=
  forAll_keeps (P := TbCounted s) hf as h

theorem tbCounted_usedShown (h : TbCounted s t) : TbCounted s (usedShown t) := h.forAll fun _ _ k => k.wr

theorem tbCounted_windowCounted {short : Bool} (h : TbCounted s t) : TbCounted s (windowCounted t short) := h.wr.wr

theorem TbCounted.gauge (h : TbCounted s t) (g : GaugeState) : TbCounted s { t with gauge := g } := ⟨h.read, h.sets⟩

theorem tbCounted_applyStaged (h : TbCounted s t) : TbCounted s t.applyStaged := by
  unfold State.applyStaged
  exact .ite h (TbCounted.cause (TbCounted.wr ((h.forAll fun _ _ k => k.gauge _).gauge _)))

theorem tbCounted_fixGauge (h : TbCounted s t) : TbCounted s t.fixGauge :=
  ⟨(writes_fixGauge.rd (by rfl)).trans h.read, (writes_fixGauge.rd (by rfl)).trans h.sets⟩

/-- The end of a window counts no carry and no setting. -/
theorem tbCounted_endWindow (short : Bool) : TbCounted s (s.endWindow short) := by
  have h : TbCounted s s := ⟨rfl, rfl⟩
  unfold State.endWindow
  extract_lets t₁ t₂ t₃ t₄ t₅ g t₆
  have h₁ : TbCounted s t₁ := .ite h (h.forAll fun _ _ k => k.wr.wr.cause)
  have h₂ : TbCounted s t₂ := tbCounted_usedShown h₁
  have h₃ : TbCounted s t₃ := tbCounted_windowCounted h₂
  have h₄ : TbCounted s t₄ := .ite h₃.wr.cause h₃
  have h₅ : TbCounted s t₅ := h₄.wr
  have h₆ : TbCounted s t₆ := h₅.gauge _
  exact tbCounted_fixGauge (tbCounted_applyStaged h₆)

theorem tbCarry_carries {a1 : Nat} (hasleep : s.clk.tbAsleep = true) (hstate : s.rd (PWR_DOM_STAT.state.ix 74) = 4)
    (hlocked : s.locked 16 = true) (ha1 : s.clk.a0 ≤ a1) :
    exec (.tbCarry a1) s = .next (((s.advanceTo (aoPs a1)).carryTo a1).endWindow true) := by
  show Machine.execTbCarry a1 s = _
  rw [Machine.execTbCarry, hasleep, hstate, hlocked, if_neg (by simp), Nat.max_eq_left ha1]

theorem clk_asleep (n : Nat) (h : s.clk.tbAsleep = true) : (s.advanceTo n).clk = s.clk := by
  simp only [State.advanceTo, State.advance, h, if_true]

theorem tbCarry_takes {a1 : Nat} (hasleep : s.clk.tbAsleep = true) (hstate : s.rd (PWR_DOM_STAT.state.ix 74) = 4)
    (hlocked : s.locked 16 = true) (ha1 : s.clk.a0 ≤ a1) (hnow : s.now ≤ aoPs a1) :
    ∃ t, exec (.tbCarry a1) s = .next t ∧ t.clk.tbAsleep = false ∧ CountedUp s t TB_CARRIES.count ∧
      t.clk.tbPs = (s.clk.stored / 1000 + (aoPs (a1 - s.clk.a0) + 500) / 1000) * 1000 ∧ t.now = aoPs a1 ∧ KeepsData s t := by
  have hexec := tbCarry_carries hasleep hstate hlocked ha1
  have hat : (s.advanceTo (aoPs a1)).now = aoPs a1 := (now_advanceTo _).trans (Nat.max_eq_right hnow)
  have hclk := clk_asleep (aoPs a1) hasleep
  have hrd := rd_advanceTo (s := s) (aoPs a1) TB_CARRIES.count
  have hdata := keepsData_advanceTo (s := s) (aoPs a1)
  generalize s.advanceTo (aoPs a1) = a at *
  obtain ⟨skew, hlogged, hcount⟩ := carryTo_carries (s := a) a1
  obtain ⟨-, hmoved, hclk', hnow'⟩ := clk_moves (s := a) (tbTaken a a1 skew) TB_CARRIES.count
  have hwindow := windowEnded_endWindow (s := a.carryTo a1) true
  have hend : ((a.carryTo a1).endWindow true).clk = tbTaken a a1 skew :=
    hwindow.gauged.clk.trans ((clk_of_logged hlogged).trans hclk')
  refine ⟨_, hexec, ?_, ?_, ?_, ?_, ?_⟩
  · rw [hend, tbTaken]
  · rw [CountedUp, (tbCounted_endWindow true).read, hcount, hrd]
  · rw [hend, tbTaken, hclk, hat, Nat.sub_self, Nat.add_zero, show psNs = 1000 from rfl]
  · rw [hwindow.gauged.now, now_of_logged hlogged, hnow', hat]
  · exact keepsData_trans (keepsData_trans (keepsData_trans hdata hmoved) hlogged.keepsData) hwindow.gauged.keepsData


/-! ## Isolation (R427) -/

/-- A domain is isolated: it says so, its clamps are set, and its rail reads as given. -/
structure Isolated (d rail : Nat) (s : State) : Prop where
  state : s.rd (PWR_DOM_STAT.state.ix d) = 5
  clamped : s.rd (PWR_DOM_STAT.clamped.ix d) = 1
  rail : s.rd (PWR_DOM_STAT.rail_good.ix d) = rail
  isolated : (s.domain d).isolated = true

/-- The fields of a domain that its isolation writes. -/
def isolationFields (d : Nat) : List Fld :=
  [PWR_DOM_STAT.state.ix d, PWR_DOM_STAT.clamped.ix d, PWR_DOM_STAT.rail_good.ix d]

section
variable {l : List Fld} {d rail : Nat}

/-- What reaches none of a domain's fields leaves it isolated. -/
theorem Isolated.kept (h : Isolated d rail s) (hw : Writes l s t) (hl : ∀ f ∈ isolationFields d, clear l f = true)
    (hd : (t.domain d).isolated = (s.domain d).isolated) : Isolated d rail t :=
  ⟨(hw.rd (hl _ (.head _))).trans h.state, (hw.rd (hl _ (.tail _ (.head _)))).trans h.clamped,
    (hw.rd (hl _ (.tail _ (.tail _ (.head _))))).trans h.rail, hd.trans h.isolated⟩

theorem isolationFields_all {P : Fld → Prop} (h₁ : P (PWR_DOM_STAT.state.ix d)) (h₂ : P (PWR_DOM_STAT.clamped.ix d))
    (h₃ : P (PWR_DOM_STAT.rail_good.ix d)) : ∀ f ∈ isolationFields d, P f := by
  intro f hf
  rcases hf with _ | ⟨_, _ | ⟨_, _ | ⟨_, hf⟩⟩⟩
  · exact h₁
  · exact h₂
  · exact h₃
  · exact absurd hf List.not_mem_nil

theorem Isolated.wr {f : Fld} {v : Nat} (h : Isolated d rail s) (hf : ∀ g ∈ isolationFields d, apart g f = true) :
    Isolated d rail (s.wr f v) :=
  h.kept (l := [f]) ((Writes.refl s).wr (.head _))
    (fun g hg => by rw [clear, List.all_cons, hf g hg]; rfl) (by rw [State.wr_domain])

theorem Isolated.cause {page bit : Nat} (h : Isolated d rail s)
    (hl : ∀ f ∈ isolationFields d, clear (causeFields page) f = true) : Isolated d rail (s.cause page bit) := by
  have ha := alerted_cause (s := s) page bit
  refine h.kept ha.writes hl ?_
  rw [State.domain, ha.frame]
  rfl

/-- A domain that is neither asleep nor waits stays as it is: an error wakes the Time Base alone. -/
theorem rd_log_still {e : Err} (h : s.rd (PWR_DOM_STAT.state.ix d) ≠ 2) :
    (s.log e).rd (PWR_DOM_STAT.state.ix d) = s.rd (PWR_DOM_STAT.state.ix d) := by
  rw [rd_log_tally (by rfl), (told_tally e).writes.rd (by rfl)]
  by_cases hd : d = 74
  · subst hd
    rw [wakeTb_of_ne h]
  · exact (wakeTb_other hd).1 (by decide)

theorem Isolated.err {page code addr : Nat} (h : Isolated d rail s)
    (hl : ∀ f ∈ [PWR_DOM_STAT.clamped.ix d, PWR_DOM_STAT.rail_good.ix d], clear (errFields page) f = true) :
    Isolated d rail (s.err page code addr) := by
  obtain ⟨e, hpage, -, he⟩ := err_eq_log (s := s) page code addr
  obtain ⟨w, hw⟩ := domain_log (s := s) e d
  refine ⟨?_, (rd_err (hl _ (.head _)) _ _).trans h.clamped, (rd_err (hl _ (.tail _ (.head _))) _ _).trans h.rail, ?_⟩
  · rw [he, rd_log_still (by rw [h.state]; decide), h.state]
  · rw [he, hw]
    exact h.isolated

theorem wr_domains (f : Fld) (v : Nat) : (s.wr f v).domains = s.domains := rfl

theorem stopTimers_domains : s.stopTimers.domains = s.domains := by
  have hone : ∀ (u : State) (p : Nat), (u.stopTimer p).domains = u.domains := fun _ _ => rfl
  exact forAll_keeps (P := fun u => u.domains = s.domains) (fun u p hu => (hone u p).trans hu) _ rfl

theorem holdErrN_domains : s.holdErrN.domains = s.domains := by
  unfold State.holdErrN
  extract_lets a held
  have ha : a.domains = s.domains := by
    unfold a
    split
    · rfl
    · obtain ⟨-, -, -, -, -, -, hframe⟩ := errPulseStart_begins (s := s) 2
      rw [hframe]
  clear_value a
  have hheld : held.domains = s.domains := by
    unfold held
    rw [wr_domains, State.put_eq, wr_domains, ha]
  clear_value held
  exact hheld

theorem ringsStopped_domains : (ringsStopped s).domains = s.domains :=
  forAll_keeps (P := fun u => u.domains = s.domains) (fun _ r hu => (wr_domains (CHISEL_RING_CTL.enable.ix r) 0).trans hu) _ rfl

theorem safeBound_domains : (safeBound s).domains = s.domains := by
  have howes : ∀ u : State, (owesBind u).domains = u.domains := fun _ => rfl
  unfold safeBound
  split
  · rw [howes, State.put_eq, wr_domains]
  · rfl

/-- The cause of an entry to Safe State, its timers and its time. -/
def safeTimed (s : State) (page code : Nat) : State :=
  let u := (safeCaused s page code).stopTimers
  u.wr64 ERRPIN_SAFE_TIME_LO.time ERRPIN_SAFE_TIME_HI.time u.tb

theorem safeTold_eq (page code : Nat) : safeTold s page code =
    (((safeTimed s page code).err 0x07 0x1202 (page + code * 2 ^ 32)).holdErrN).cause 0x00 2 := rfl

theorem Isolated.safeTimed {page code : Nat} (h : Isolated d rail s) : Isolated d rail (safeTimed s page code) := by
  have hcaused : Isolated d rail (safeCaused s page code) := by
    refine ((h.wr ?_).wr ?_).wr ?_ <;> exact isolationFields_all (by rfl) (by rfl) (by rfl)
  have hstopped : Isolated d rail (safeCaused s page code).stopTimers :=
    ⟨(rd_stopTimers fun _ => rfl).trans hcaused.state, (rd_stopTimers fun _ => rfl).trans hcaused.clamped,
      (rd_stopTimers fun _ => rfl).trans hcaused.rail, by rw [State.domain, stopTimers_domains]; exact hcaused.isolated⟩
  refine (hstopped.wr ?_).wr ?_ <;> exact isolationFields_all (by rfl) (by rfl) (by rfl)

/-- An entry to Safe State leaves a domain isolated. -/
theorem Isolated.enterSafe {page code : Nat} (h : Isolated d rail s) (hsafe : s.safe = false) (hcalm : calm s = true) :
    Isolated d rail (s.enterSafe page code) := by
  have htimed := h.safeTimed (page := page) (code := code)
  have htold : Isolated d rail (safeTold s page code) := by
    rw [safeTold_eq]
    generalize Proofs.safeTimed s page code = u at *
    have herr : Isolated d rail (u.err 0x07 0x1202 (page + code * 2 ^ 32)) := htimed.err (fun f hf => by
      rcases hf with _ | ⟨_, _ | ⟨_, hf⟩⟩
      · rfl
      · rfl
      · exact absurd hf List.not_mem_nil)
    generalize u.err 0x07 0x1202 (page + code * 2 ^ 32) = v at *
    have hheld : Isolated d rail v.holdErrN := by
      refine herr.kept (l := ERRPIN_STAT.held :: errPinFields) ((Writes.refl v).holdErrN (List.subset_cons_self _ _) (.head _))
        (isolationFields_all (by rfl) (by rfl) (by rfl)) ?_
      rw [State.domain, holdErrN_domains, State.domain]
    exact hheld.cause (isolationFields_all (by rfl) (by rfl) (by rfl))
  rw [enterSafe_eq hsafe hcalm, safeStopped]
  generalize safeTold s page code = u at *
  have hrings : Isolated d rail (ringsStopped u) :=
    ⟨(rd_ringsStopped fun _ => rfl).trans htold.state, (rd_ringsStopped fun _ => rfl).trans htold.clamped,
      (rd_ringsStopped fun _ => rfl).trans htold.rail, by rw [State.domain, ringsStopped_domains]; exact htold.isolated⟩
  have hscrub : Isolated d rail ((ringsStopped u).clr SCRUB_STAT.running) :=
    hrings.wr (isolationFields_all (by rfl) (by rfl) (by rfl))
  generalize (ringsStopped u).clr SCRUB_STAT.running = v at *
  have hbound : Isolated d rail (safeBound v) :=
    ⟨(rd_safeBound (by rfl)).trans hscrub.state, (rd_safeBound (by rfl)).trans hscrub.clamped,
      (rd_safeBound (by rfl)).trans hscrub.rail, by rw [State.domain, safeBound_domains]; exact hscrub.isolated⟩
  exact (hbound.wr (isolationFields_all (by rfl) (by rfl) (by rfl))).cause (isolationFields_all (by rfl) (by rfl) (by rfl))

/-! ### What leaves service with the domain -/

theorem clear_portResetFields_domain {p : Nat} (hp : p < 4) :
    ∀ f ∈ isolationFields (p + 64), clear (portResetFields p) f = true := by
  refine isolationFields_all ?_ ?_ ?_ <;>
    refine clear_append.2 ⟨clear_cons.2 ⟨?_, clear_append.2 ⟨?_, clear_stoppedFields ?_ ?_ ?_ ?_ ?_⟩⟩,
      clear_append.2 ⟨clear_clearedFields ?_ ?_ ?_, ?_⟩⟩ <;> (try intro n) <;> interval_cases p <;> rfl

/-- A part of the device leaves service and the domain stays isolated. -/
def Leaves (d rail : Nat) (s t : State) : Prop := Isolated d rail s → Isolated d rail t ∧ t.now = s.now

theorem leaves_stopPort {p : Nat} (hp : p < 4) (hjobs : s.chisel.jobs = []) (hstalled : s.stalled = []) :
    Leaves (p + 64) rail s (s.stopPort p) := by
  intro h
  have hset : Isolated (p + 64) rail (s.setPort p { s.port p with isolated := true }) :=
    h.kept (l := []) (.flds (.refl s) rfl) (fun _ _ => rfl) rfl
  unfold State.stopPort
  extract_lets _ a
  split
  · exact ⟨hset, rfl⟩
  · have hcleared := (portCleared_clears (s := a) (cause := 2) hjobs p).shut
    have heq : a.portReset p 2 false = portCleared a p 2 := portReset_eq hjobs hstalled (by decide)
    rw [heq]
    exact ⟨hset.kept hcleared.writes (clear_portResetFields_domain hp) (hcleared.domains _), hcleared.now⟩

/-- The fields of the DOVE link that stop with it. -/
def doveDownFields : List Fld :=
  [DOVE_STAT.link, PHY_STAT.ltssm.port 4, PHY_STAT.reversed.port 4, PHY_STAT.pm_state.port 4]

/-- The registers of the DOVE link read as down, and its buffers are gone. -/
theorem shut_doveDown : Shut doveDownFields s ((s.doveDown.clr (PHY_STAT.reversed.port 4)).clr (PHY_STAT.pm_state.port 4)) := by
  have hlink : Shut doveDownFields s ((s.wr DOVE_STAT.link 0).wr (PHY_STAT.ltssm.port 4) 0) :=
    ((Shut.refl s).wr (.head _)).wr (.tail _ (.head _))
  have hdown : Shut doveDownFields s s.doveDown := by
    unfold State.doveDown
    extract_lets a
    have ha : Shut doveDownFields s a := hlink
    clear_value a
    exact ha.trans ⟨(Writes.refl a).flds rfl, rfl, rfl, id, fun _ => ⟨rfl, rfl, rfl, rfl⟩, fun _ => .refl _, fun _ => .refl _,
      fun _ => rfl⟩
  exact (hdown.wr (.tail _ (.tail _ (.head _)))).wr (.tail _ (.tail _ (.tail _ (.head _))))

theorem shut_doveLanesDown : Shut (doveDownFields ++ (groupLanes 4 ++ calFields 68)) s s.doveLanesDown := by
  have hdown := (shut_doveDown (s := s)).mono (List.subset_append_left doveDownFields (groupLanes 4 ++ calFields 68))
  unfold State.doveLanesDown
  extract_lets a
  have ha : Shut (doveDownFields ++ (groupLanes 4 ++ calFields 68)) s a := hdown
  clear_value a
  have hlanes : Shut (doveDownFields ++ (groupLanes 4 ++ calFields 68)) s (a.forAll (List.range 8) fun s n => s.clearLane 4 n) :=
    ha.forAllMem fun u n hn k => k.clearLane fun f hf =>
      List.mem_append_right _ (List.mem_append_left _ (List.mem_flatMap.2 ⟨n, hn, hf⟩))
  exact hlanes.trans ((shut_of_calFollowed (calFollowed_fixCal 68)).mono
    (List.subset_append_of_subset_right _ (List.subset_append_right _ _)))

theorem leaves_doveLanesDown : Leaves d rail s s.doveLanesDown := fun h =>
  ⟨h.kept shut_doveLanesDown.writes (by
    refine isolationFields_all ?_ ?_ ?_ <;>
      exact clear_append.2 ⟨rfl, clear_append.2 ⟨clear_flatMap.2 fun _ _ => rfl, rfl⟩⟩) (shut_doveLanesDown.domains d),
    shut_doveLanesDown.now⟩

end

/-- What leaves service with a domain. -/
def leftService (s : State) (d : Nat) : State :=
  if 64 ≤ d ∧ d < 68 then s.stopPort (d - 64)
  else if d = 68 then s.doveLanesDown
  else if d = 71 then s.forAll (List.range 16) fun s r => s.abortRing r false
  else s

theorem leaves_leftService {rail : Nat} (d : Nat) (hjobs : s.chisel.jobs = []) (hstalled : s.stalled = []) :
    Leaves d rail s (leftService s d) := by
  unfold leftService
  split
  case isTrue hd =>
    have hleaves := leaves_stopPort (rail := rail) (p := d - 64) (by omega) hjobs hstalled
    rwa [Nat.sub_add_cancel hd.1] at hleaves
  case isFalse =>
    split
    · exact leaves_doveLanesDown
    · split
      · have hrings : (s.forAll (List.range 16) fun s r => s.abortRing r false) = s :=
          forAll_fixed fun r _ => abortRing_of_idle hjobs r false
        rw [hrings]
        exact fun h => ⟨h, rfl⟩
      · exact fun h => ⟨h, rfl⟩

/-- A domain that is cut off. -/
def cutOff (s : State) (d : Nat) : State :=
  let s := (s.wr (PWR_DOM_STAT.state.ix d) 5).put (PWR_DOM_STAT.clamped.ix d)
  (s.setDomain d { s.domain d with isolated := true, wakeAt := none }).setDomainPages d 4

theorem isolateDomain_eq (d code : Nat) : s.isolateDomain d code =
    if (64 ≤ d ∧ d ≤ 68) ∨ d = 71 then ((leftService (cutOff s d) d).cause 0x03 2).err 0x03 code d
    else ((leftService (cutOff s d) d).cause 0x03 2).errImmediate 0x03 code d := rfl

theorem cutOff_isolates (d : Nat) : Isolated d (s.rd (PWR_DOM_STAT.rail_good.ix d)) (cutOff s d) ∧ Stirs s (cutOff s d) ∧
    (cutOff s d).safe = s.safe := by
  unfold cutOff
  extract_lets a
  have ha : Stirs s a := (Stirs.refl s).wr.wr
  have hstate : a.rd (PWR_DOM_STAT.state.ix d) = 5 := (rd_wr_apart (by rfl) 1).trans (rd_wr_lt (by decide : 5 < 2 ^ 3))
  have hclamped : a.rd (PWR_DOM_STAT.clamped.ix d) = 1 := rd_put_self
  have hrail : a.rd (PWR_DOM_STAT.rail_good.ix d) = s.rd (PWR_DOM_STAT.rail_good.ix d) :=
    (rd_wr_apart (by rfl) 1).trans (rd_wr_apart (by rfl) 5)
  have hsafe : a.rd SYS_START_STAT.safe = s.rd SYS_START_STAT.safe := (rd_wr_apart (by rfl) 1).trans (rd_wr_apart (by rfl) 5)
  clear_value a
  generalize hv : ({ a.domain d with isolated := true, wakeAt := none } : DomainState) = v
  have hset := sets_setDomainPages (s := a.setDomain d v) d 4
  have hplaces := places_setDomainPages (s := a.setDomain d v) d 4
  refine ⟨⟨hplaces.rd.trans hstate, hplaces.rd.trans hclamped, hplaces.rd.trans hrail, ?_⟩, ha.setDomain.sets hset, ?_⟩
  · rw [domain_of_sets hset, State.domain_setDomain, ← hv]
  · rw [State.safe, State.on, hplaces.rd]
    exact congrArg (fun n => decide (n = 1)) hsafe

/-- What the isolation of a domain leaves. -/
structure DomainIsolated (d code rail : Nat) (s t : State) : Prop where
  isolated : Isolated d rail t
  now : t.now = s.now
  fatal : (64 ≤ d ∧ d ≤ 68) ∨ d = 71 → t.rd (ERR_STAT.fatal.on 0x03) = 1
  safe : ¬((64 ≤ d ∧ d ≤ 68) ∨ d = 71) → EnteredSafe t 0x03 code

theorem domainIsolated {d code : Nat} (hclass : codeClass code = 3) (hcode : code < 65536) (hsafe : s.safe = false)
    (hcalm : calm s = true) (hstalled : s.stalled = []) :
    DomainIsolated d code (s.rd (PWR_DOM_STAT.rail_good.ix d)) s (s.isolateDomain d code) := by
  obtain ⟨hcut, hstirs, hsafe'⟩ := cutOff_isolates (s := s) d
  have hcalm' := hstirs.calm.trans hcalm
  have hstalled' := hstirs.stalled.trans hstalled
  rw [isolateDomain_eq]
  generalize s.rd (PWR_DOM_STAT.rail_good.ix d) = rail at *
  have hnow := hstirs.now
  generalize cutOff s d = a at *
  obtain ⟨hleft, hleftNow⟩ := leaves_leftService (rail := rail) d (calm_iff.1 hcalm').1 hstalled' hcut
  have hcaused : Isolated d rail ((leftService a d).cause 0x03 2) :=
    hleft.cause (isolationFields_all (by rfl) (by rfl) (by rfl))
  have herr : Isolated d rail (((leftService a d).cause 0x03 2).err 0x03 code d) := hcaused.err (fun f hf => by
    rcases hf with _ | ⟨_, _ | ⟨_, hf⟩⟩
    · rfl
    · rfl
    · exact absurd hf List.not_mem_nil)
  have hcauseNow : ((leftService a d).cause 0x03 2).now = s.now := by
    rw [now_of_logged (logged_cause _ _), hleftNow, hnow]
  split
  case isTrue hd =>
    refine ⟨herr, ?_, fun _ => rd_err_fatal hclass, fun h => absurd hd h⟩
    rw [now_of_logged (logged_err _ _ _), hcauseNow]
  case isFalse hd =>
    have hstay : leftService a d = a := by
      rw [leftService, if_neg (by omega), if_neg (by omega), if_neg (by omega)]
    rw [hstay] at herr hcauseNow ⊢
    have hs : (a.cause 0x03 2).safe = false := by
      rw [State.safe, State.on, rd_cause (by rfl)]
      exact hsafe'.trans hsafe
    have hc : calm (a.cause 0x03 2) = true := calm_of_logged (logged_cause _ _) hcalm'
    refine ⟨?_, ?_, fun h => absurd h hd, fun _ => ?_⟩
    · rw [State.errImmediate]
      exact herr.enterSafe ((safe_err (by rfl)).trans hs) (calm_of_logged (logged_err _ _ _) hc)
    · rw [now_errImmediate hs hc (by rfl), hcauseNow]
    · have h := errImmediate_enters (page := 0x03) (code := code) (addr := d) hs hc (by decide) (by rfl)
      rwa [Nat.mod_eq_of_lt hcode] at h

theorem domainWakeTimeout_isolates {dom : DomainNo} {at_ : Nat} (hwake : (s.domain dom).wakeAt = some at_) :
    exec (.domainWakeTimeout dom) s =
      .next ((s.advanceTo (at_ + s.wakeLimit dom * 1000)).isolateDomain dom 0x0E01) := by
  show Machine.execDomainWakeTimeout dom s = _
  unfold Machine.execDomainWakeTimeout
  extract_lets d
  rw [show (s.domain d).wakeAt = some at_ from hwake]
  rfl

theorem domainRailLow_isolates {dom : DomainNo} (hstate : s.rd (PWR_DOM_STAT.state.ix dom) = 0) :
    exec (.domainRailLow dom) s = .next ((s.clr (PWR_DOM_STAT.rail_good.ix dom)).isolateDomain dom 0x0E03) := by
  show Machine.execDomainRailLow dom s = _
  unfold Machine.execDomainRailLow
  extract_lets d
  rw [if_neg (show ¬s.rd (PWR_DOM_STAT.state.ix d) ≠ 0 from not_not.2 hstate)]

theorem DomainIsolated.shown {d code rail : Nat} (h : DomainIsolated d code rail s t) :
    if (64 ≤ d ∧ d ≤ 68) ∨ d = 71 then t.rd (ERR_STAT.fatal.on 0x03) = 1 else EnteredSafe t 0x03 code := by
  split
  case isTrue hd => exact h.fatal hd
  case isFalse hd => exact h.safe hd

theorem domainWakeTimeout_leaves {dom : DomainNo} {at_ : Nat} (hwake : (s.domain dom).wakeAt = some at_)
    (hsafe : s.safe = false) (hcalm : calm s = true) (hstalled : s.stalled = []) :
    ∃ t, exec (.domainWakeTimeout dom) s = .next t ∧ t.rd (PWR_DOM_STAT.state.ix dom) = 5 ∧
      t.rd (PWR_DOM_STAT.clamped.ix dom) = 1 ∧ (t.domain dom).isolated = true ∧
      t.now = max s.now (at_ + s.wakeLimit dom * 1000) ∧
      (if (64 ≤ dom.val ∧ dom.val ≤ 68) ∨ dom.val = 71 then t.rd (ERR_STAT.fatal.on 0x03) = 1
      else EnteredSafe t 0x03 0x0E01) := by
  have hexec := domainWakeTimeout_isolates hwake
  have hat := now_advanceTo (s := s) (at_ + s.wakeLimit dom * 1000)
  have hsafe' := (safe_advanceTo (s := s) (at_ + s.wakeLimit dom * 1000)).trans hsafe
  have hcalm' := (calm_advanceTo (s := s) (at_ + s.wakeLimit dom * 1000)).trans hcalm
  have hstalled' := (stalled_advanceTo (s := s) (at_ + s.wakeLimit dom * 1000)).trans hstalled
  generalize s.advanceTo (at_ + s.wakeLimit dom * 1000) = a at *
  have h := domainIsolated (s := a) (d := dom) (code := 0x0E01) (by decide) (by decide) hsafe' hcalm' hstalled'
  exact ⟨_, hexec, h.isolated.state, h.isolated.clamped, h.isolated.isolated, h.now.trans hat, h.shown⟩

theorem domainRailLow_leaves {dom : DomainNo} (hstate : s.rd (PWR_DOM_STAT.state.ix dom) = 0)
    (hsafe : s.safe = false) (hcalm : calm s = true) (hstalled : s.stalled = []) :
    ∃ t, exec (.domainRailLow dom) s = .next t ∧ t.rd (PWR_DOM_STAT.state.ix dom) = 5 ∧
      t.rd (PWR_DOM_STAT.rail_good.ix dom) = 0 ∧ (t.domain dom).isolated = true ∧
      (if (64 ≤ dom.val ∧ dom.val ≤ 68) ∨ dom.val = 71 then t.rd (ERR_STAT.fatal.on 0x03) = 1
      else EnteredSafe t 0x03 0x0E03) := by
  have hexec := domainRailLow_isolates hstate
  have hl : Logged s (s.clr (PWR_DOM_STAT.rail_good.ix dom)) := logged_wr _ _
  have hsafe' : (s.clr (PWR_DOM_STAT.rail_good.ix dom)).safe = false := by
    rw [State.safe, State.on, State.clr_eq, rd_wr_apart (by rfl)]
    exact hsafe
  have hrail : (s.clr (PWR_DOM_STAT.rail_good.ix dom)).rd (PWR_DOM_STAT.rail_good.ix dom) = 0 := State.rd_wr_self _ _ _
  generalize s.clr (PWR_DOM_STAT.rail_good.ix dom) = a at *
  have h := domainIsolated (s := a) (d := dom) (code := 0x0E03) (by decide) (by decide) hsafe' (calm_of_logged hl hcalm)
    ((stalled_of_logged hl).trans hstalled)
  exact ⟨_, hexec, h.isolated.state, h.isolated.rail.trans hrail, h.isolated.isolated, h.shown⟩

theorem domainDeepSleepEntry_leaves {dom : DomainNo} (htimers : s.timersRun = true)
    (hstate : s.rd (PWR_DOM_STAT.state.ix dom) = 1) (hcap : deepCap dom = true) (hmay : s.mayDeep dom = true)
    (hpages : ((s.presentPages dom).all fun p => s.on (PAGE_CTL.deep_en.on p)) = true) :
    ∃ t, exec (.domainDeepSleepEntry dom) s = .next t ∧ t.rd (PWR_DOM_STAT.state.ix dom) = 2 ∧
      t.rd (PWR_DOM_STAT.clamped.ix dom) = 1 ∧ (∀ p ∈ s.presentPages dom, t.rd (PAGE_STAT.state.on p) = 3) ∧
      t.now = max s.now ((s.domain dom).sleepAt + s.rd (PWR_DOM_CTL.deep_idle_us.ix dom) * 1000000) ∧
      t = { s with flds := t.flds, domains := t.domains, now := t.now, clk := t.clk } := by
  obtain ⟨hstirs, hdeep, hclamped, hread⟩ := deepened_sleeps
    (s := s.advanceTo ((s.domain dom).sleepAt + s.rd (PWR_DOM_CTL.deep_idle_us.ix dom) * 1000000)) dom
  rw [presentPages_advanceTo] at hread
  exact ⟨_, domainDeepSleepEntry_sleeps htimers hstate hcap hmay hpages, hdeep, hclamped, hread,
    hstirs.now.trans (now_advanceTo _), hstirs.elapsed⟩

/-! ## O45 -/

/-- Settles O45: power domains sleep, wake, abort an entry, are ready in time or are isolated, and the Time Base is stored
and carried. -/
theorem powerDomainsSleepAndWake : Obligations.PowerDomainsSleepAndWake := by
  unfold Obligations.PowerDomainsSleepAndWake
  refine ⟨fun dom s htimers hstate hcap hmay hpages hgate => ?_,
    fun dom at_ s htimers hstate hcap hmay hpages => domainSleepEntry_abandons ⟨htimers, .inr hstate, hcap, hmay, hpages⟩,
    fun dom s => domainDeepSleepEntry_leaves, fun dom first s hstate => ?_, fun dom first s hstate => ?_,
    fun dom ns at_ s => domainReady_readies, fun dom at_ s => domainWakeTimeout_leaves, fun dom s => domainRailLow_leaves,
    fun who s => idleDisable_wakes, fun s => tbDeepEntry_stores, fun a1 s => tbCarry_takes⟩
  · have htire : MayTire s dom := ⟨htimers, .inl hstate, hcap, hmay, hpages⟩
    exact ⟨domainSleepEntry_sleeps htire hgate, domainSleepEntry_waits htire hstate hgate⟩
  · obtain ⟨hstirs, hwaking, hcount, hlast, hsince⟩ := wakeDomain_wakes hstate
    exact ⟨_, domainWake_wakes hstate, hwaking, hsince, hcount, hlast, hstirs.frame⟩
  · obtain ⟨hstirs, hrun, hcount, hlast, hgate⟩ := abortEntry_aborts (s := s) dom
    exact ⟨_, domainWake_aborts hstate, hrun, hcount, hlast, hgate, hstirs.frame⟩

end Sys2Proof.Proofs

/-! # Lanes lock and adapt, and a training ends with a link or with none (R315, R362 to R367, R373, R376, R467) -/

namespace Sys2Proof.Proofs

open Sys2Proof Sys2Proof.Machine Sys2Proof.Laws

variable {s t u : State}

/-! ## PAM4 (R366, R367) -/

theorem levelIndex_levelOf {k : Nat} (h : k < 4) : levelIndex (levelOf k) = k := by
  interval_cases k <;> rfl

theorem levelIndex_lt (l : PamLevel) : levelIndex l < 4 := by
  cases l <;> decide

theorem pamIndex_lt (b1 b0 : Bool) : pamIndex b1 b0 < 4 := by
  cases b1 <;> cases b0 <;> decide

/-- A bit pair comes back from its level index. -/
theorem pamPair_pamIndex (b1 b0 : Bool) : pamPair (pamIndex b1 b0) = [b1, b0] := by
  cases b1 <;> cases b0 <;> rfl

/-- The symbol of a bit pair, after the symbol before. -/
def pamSymbol (precode : Bool) (prev : Nat) (b1 b0 : Bool) : Nat :=
  if precode then (pamIndex b1 b0 + 4 - prev) % 4 else pamIndex b1 b0

theorem pamSymbol_lt (precode : Bool) (prev : Nat) (b1 b0 : Bool) : pamSymbol precode prev b1 b0 < 4 := by
  have := pamIndex_lt b1 b0
  unfold pamSymbol
  split <;> omega

theorem pamPair_pamSymbol {prev : Nat} (precode : Bool) (b1 b0 : Bool) (h : prev < 4) :
    pamPair (if precode then (pamSymbol precode prev b1 b0 + prev) % 4 else pamSymbol precode prev b1 b0) = [b1, b0] := by
  have hlt := pamIndex_lt b1 b0
  cases precode
  case false => exact pamPair_pamIndex b1 b0
  case true =>
    have hback : ((pamIndex b1 b0 + 4 - prev) % 4 + prev) % 4 = pamIndex b1 b0 := by omega
    show pamPair (((pamIndex b1 b0 + 4 - prev) % 4 + prev) % 4) = _
    rw [hback, pamPair_pamIndex]

/-- The receiver recovers the bits that were sent. -/
theorem pamReceive_pamSend (precode : Bool) (n : Nat) : ∀ (prev : Nat) (bits : List Bool), prev < 4 → bits.length = 2 * n →
    pamReceive false precode prev (pamSend precode prev bits) = bits := by
  induction n with
  | zero =>
    intro prev bits _ hlen
    rw [List.length_eq_zero_iff.1 hlen]
    rfl
  | succ n ih =>
    intro prev bits hprev hlen
    obtain _ | ⟨b1, _ | ⟨b0, rest⟩⟩ := bits
    · simp at hlen
    · simp at hlen
      omega
    · have hrest : rest.length = 2 * n := by
        simp only [List.length_cons] at hlen
        omega
      have hlt := pamSymbol_lt precode prev b1 b0
      show pamPair (if precode then (levelIndex (levelOf (pamSymbol precode prev b1 b0)) + prev) % 4
          else levelIndex (levelOf (pamSymbol precode prev b1 b0))) ++
        pamReceive false precode (levelIndex (levelOf (pamSymbol precode prev b1 b0)))
          (pamSend precode (pamSymbol precode prev b1 b0) rest) = _
      rw [levelIndex_levelOf hlt, pamPair_pamSymbol precode b1 b0 hprev, ih _ rest hlt hrest]
      rfl

/-- An inverted lane recovers the bits of the levels that were inverted. -/
theorem pamReceive_inverted (precode : Bool) (levels : List PamLevel) : ∀ prev : Nat,
    pamReceive true precode prev (levels.map fun l => levelOf (3 - levelIndex l)) = pamReceive false precode prev levels := by
  induction levels with
  | nil => exact fun _ => rfl
  | cons l levels ih =>
    intro prev
    have hlt := levelIndex_lt l
    have hback : 3 - levelIndex (levelOf (3 - levelIndex l)) = levelIndex l := by
      rw [levelIndex_levelOf (by omega)]
      omega
    simp only [List.map_cons, pamReceive, if_true, hback, ih]
    rfl

/-! ## Locks (R363 to R365) -/

theorem lane_setLane (n : Nat) (v : LaneState) : (s.setLane n v).lane n = v := Sparse.get_set_self _ _ _

theorem lane_setLane_ne {n m : Nat} (v : LaneState) (h : m ≠ n) : (s.setLane n v).lane m = s.lane m :=
  Sparse.get_set_ne _ _ h

theorem laneOf_eq (g n : Nat) : laneOf s g n = s.lane (laneNo g n) := rfl

/-- A lane that has locked and taken its symbols. -/
def lockedLane (s : State) (g n offset : Nat) (levels : List PamLevel) : State :=
  (s.setLane (laneNo g n) { s.lane (laneNo g n) with lock := some offset }).takeSymbols g n levels

theorem takeSymbols_takes {g n : Nat} {levels : List PamLevel} (hpoll : s.ltssm g = 1) : s.takeSymbols g n levels =
    if levels = [] then s else s.setLane (laneNo g n) { s.lane (laneNo g n) with
      rxBits := pamReceive (s.on (PHY_LANE_STAT.inverted.lane g n)) (s.on (PHY_LANE_STAT.precode_rx.lane g n)) 0 levels } := by
  unfold State.takeSymbols
  by_cases hl : levels = []
  · rw [if_pos (.inl hl), if_pos hl]
  · rw [if_neg hl, if_neg]
    rintro (h | ⟨-, h, -⟩)
    · exact hl h
    · exact h hpoll

theorem laneLock_locks {group : GroupNo} {lane : LaneNo} {offset : Fin 130} {finding : LockFinding}
    (hpoll : s.rd (PHY_STAT.ltssm.port group) = 1) (hlock : (laneOf s group lane).lock = none)
    (hseen : lockSeen finding offset = true) :
    exec (.laneLock group lane offset finding) s = .next (lockedLane s group lane offset finding.levels) := by
  have hhunts : s.hunts group lane = true := by
    rw [State.hunts, decide_eq_true (show (s.lane (laneNo group lane)).lock = none from hlock),
      decide_eq_true (show s.ltssm group = 1 ∨ s.ltssm group = 2 from .inl hpoll)]
    rfl
  show Machine.execLaneLock group lane offset finding s = _
  unfold Machine.execLaneLock
  extract_lets inLink
  rw [hseen, hhunts, if_pos (by rfl), lockedLane, State.lockLane]
  extract_lets _
  rw [if_neg]
  · rintro ⟨h, -⟩
    exact absurd (hpoll.symm.trans h) (by decide)

theorem lockedLane_locks {g n offset : Nat} {levels : List PamLevel} (hpoll : s.rd (PHY_STAT.ltssm.port g) = 1) :
    (laneOf (lockedLane s g n offset levels) g n).lock = some offset ∧
    (levels ≠ [] → (laneOf (lockedLane s g n offset levels) g n).rxBits =
      pamReceive (s.on (PHY_LANE_STAT.inverted.lane g n)) (s.on (PHY_LANE_STAT.precode_rx.lane g n)) 0 levels) ∧
    (∀ k, k ≠ laneNo g n → (lockedLane s g n offset levels).lane k = s.lane k) ∧
    SameRegs s (lockedLane s g n offset levels) [] ∧
    lockedLane s g n offset levels = { s with lanes := (lockedLane s g n offset levels).lanes } := by
  generalize hv : ({ s.lane (laneNo g n) with lock := some offset } : LaneState) = v
  have hlock : v.lock = some offset := by rw [← hv]
  have heq : lockedLane s g n offset levels = (s.setLane (laneNo g n) v).takeSymbols g n levels := by rw [lockedLane, hv]
  rw [heq, takeSymbols_takes (s := s.setLane (laneNo g n) v) hpoll]
  split
  case isTrue hl =>
    refine ⟨?_, fun h => absurd hl h, fun k hk => lane_setLane_ne _ hk, fun _ _ => rfl, rfl⟩
    rw [laneOf_eq, lane_setLane, hlock]
  case isFalse hl =>
    refine ⟨?_, fun _ => ?_, fun k hk => ?_, fun _ _ => rfl, rfl⟩
    · rw [laneOf_eq, lane_setLane, lane_setLane]
      exact hlock
    · rw [laneOf_eq, lane_setLane]
      rfl
    · rw [lane_setLane_ne _ hk, lane_setLane_ne _ hk]

/-- A lane without lock for 24 ms has failed. -/
theorem laneUnlockedTimeout_fails {group : GroupNo} {lane : LaneNo} (hpoll : s.rd (PHY_STAT.ltssm.port group) = 1)
    (hlock : (laneOf s group lane).lock = none) :
    exec (.laneUnlockedTimeout group lane) s = .next ((s.advanceTo ((laneOf s group lane).huntAt + 24000000000)).setLane
      (laneNo group lane) { laneOf s group lane with failed := true }) := by
  have hhunts : s.hunts group lane = true := by
    rw [State.hunts, decide_eq_true (show (s.lane (laneNo group lane)).lock = none from hlock),
      decide_eq_true (show s.ltssm group = 1 ∨ s.ltssm group = 2 from .inl hpoll)]
    rfl
  have hlimit : 24 * psMs = 24000000000 := by decide
  show Machine.execLaneUnlockedTimeout group lane s = _
  rw [Machine.execLaneUnlockedTimeout, hhunts, hlimit]
  rfl

theorem setLane_advanceTo (n k : Nat) (v : LaneState) : ((s.advanceTo n).setLane k v).lane k = v ∧
    ((s.advanceTo n).setLane k v).now = max s.now n ∧ SameRegs s ((s.advanceTo n).setLane k v) [] ∧
    (s.advanceTo n).setLane k v = { s with
      lanes := ((s.advanceTo n).setLane k v).lanes, now := ((s.advanceTo n).setLane k v).now
      clk := ((s.advanceTo n).setLane k v).clk } :=
  ⟨lane_setLane k v, now_advanceTo n, fun _ _ => rfl, rfl⟩

theorem laneUnlockedTimeout_failed {group : GroupNo} {lane : LaneNo} (hpoll : s.rd (PHY_STAT.ltssm.port group) = 1)
    (hlock : (laneOf s group lane).lock = none) :
    ∃ t, exec (.laneUnlockedTimeout group lane) s = .next t ∧ (laneOf t group lane).failed = true ∧
      t.now = max s.now ((laneOf s group lane).huntAt + 24000000000) ∧ SameRegs s t [] ∧
      t = { s with lanes := t.lanes, now := t.now, clk := t.clk } := by
  obtain ⟨hlane, hnow, hregs, hframe⟩ := setLane_advanceTo (s := s) ((laneOf s group lane).huntAt + 24000000000)
    (laneNo group lane) { laneOf s group lane with failed := true }
  refine ⟨_, laneUnlockedTimeout_fails hpoll hlock, ?_, hnow, hregs, hframe⟩
  rw [laneOf_eq, hlane]

/-! ## Alignment loss (R364) -/

/-- A link whose lane has lost its alignment goes to Recovery, and the loss is counted. -/
def alignLost (s : State) (g : Nat) : State :=
  ((s.wr (PHY_STAT.ltssm.port g) 4).bump (PHY_ALIGN_LOSS.count.port g)).cause (phyPage g) 8

theorem alignLost_counts {g : Nat} : (alignLost s g).rd (PHY_STAT.ltssm.port g) = 4 ∧
    CountedUp s (alignLost s g) (PHY_ALIGN_LOSS.count.port g) ∧
    (alignLost s g).rd (PHY_RECOVERY.count.port g) = s.rd (PHY_RECOVERY.count.port g) ∧ Logged s (alignLost s g) := by
  refine ⟨?_, ?_, ?_, ((logged_wr _ _).bump _).trans (logged_cause _ _)⟩
  · rw [alignLost, rd_cause (by rfl), State.bump_eq, rd_wr_apart (by rfl)]
    exact rd_wr_lt (by decide : 4 < 2 ^ 5)
  · rw [CountedUp, alignLost, rd_cause (by rfl), rd_bump, rd_wr_apart (by rfl)]
  · rw [alignLost, rd_cause (by rfl), State.bump_eq, rd_wr_apart (by rfl), rd_wr_apart (by rfl)]

/-- What an alignment loss does once it is counted. -/
def alignTold (s : State) (g n : Nat) : State :=
  ((((s.err (phyPage g) 0x0B12 n).count (PHY_LANE_ERR.count.lane g n) 4).bump (PHY_RECOVERY.count.port g)).cause (phyPage g) 7).fixCal (64 + g)

theorem alignTold_tells {g n : Nat} : (alignTold s g n).rd (PHY_STAT.ltssm.port g) = s.rd (PHY_STAT.ltssm.port g) ∧
    (alignTold s g n).rd (PHY_ALIGN_LOSS.count.port g) = s.rd (PHY_ALIGN_LOSS.count.port g) ∧
    CountedUp s (alignTold s g n) (PHY_RECOVERY.count.port g) ∧ KeepsData s (alignTold s g n) ∧
    ∀ k, (alignTold s g n).lane k = s.lane k := by
  have hcal := calFollowed_fixCal (s := (((s.err (phyPage g) 0x0B12 n).count (PHY_LANE_ERR.count.lane g n) 4).bump
    (PHY_RECOVERY.count.port g)).cause (phyPage g) 7) (64 + g)
  have hlogged : Logged s ((((s.err (phyPage g) 0x0B12 n).count (PHY_LANE_ERR.count.lane g n) 4).bump
      (PHY_RECOVERY.count.port g)).cause (phyPage g) 7) := by
    have h₁ : Logged s (s.err (phyPage g) 0x0B12 n) := logged_err _ _ _
    exact ((h₁.wr _ _).bump _).trans (logged_cause _ _)
  rw [calFields_port] at hcal
  refine ⟨?_, ?_, ?_, ?_, fun k => ?_⟩
  · rw [alignTold, hcal.writes.rd (by rfl), rd_cause (by rfl), State.bump_eq, rd_wr_apart (by rfl), State.count_eq,
      rd_wr_apart (by rfl), rd_err (by rfl)]
  · rw [alignTold, hcal.writes.rd (by rfl), rd_cause (by rfl), State.bump_eq, rd_wr_apart (by rfl), State.count_eq,
      rd_wr_apart (by rfl), rd_err (by rfl)]
  · rw [CountedUp, alignTold, hcal.writes.rd (by rfl), rd_cause (by rfl), rd_bump, State.count_eq, rd_wr_apart (by rfl),
      rd_err (by rfl)]
  · rw [alignTold]
    refine keepsData_trans hlogged.keepsData ?_
    rw [hcal.frame]
    exact ⟨rfl, rfl, rfl, rfl⟩
  · rw [alignTold, State.lane, hcal.frame]
    show Sparse.get _ (State.lanes _) k = _
    rw [hlogged.frame, State.lane]

/-- The lane hunts again. -/
def unlockedLane (s : State) (g n : Nat) : State :=
  s.setLane (laneNo g n) { s.lane (laneNo g n) with lock := none, huntAt := s.now }

theorem alignmentLoss_loses {group : GroupNo} {lane : LaneNo} (hgroup : group.val ≠ 4)
    (hl0 : s.rd (PHY_STAT.ltssm.port group) = 3) (hmode : s.rd (PORT_LINK_STAT.mode.port group) = 1)
    (hactive : s.on (PHY_LANE_STAT.active.lane group lane) = true) :
    exec (.alignmentLoss group lane) s = .next (alignTold (alignLost (unlockedLane s group lane) group) group lane) := by
  show Machine.execAlignmentLoss group lane s = _
  unfold Machine.execAlignmentLoss
  extract_lets g _ a b c
  rw [if_neg]
  · rfl
  · rintro (h | h | h | h)
    · exact hgroup h
    · exact h hl0
    · exact h hmode
    · rw [show s.on (PHY_LANE_STAT.active.lane g lane) = true from hactive] at h
      exact absurd h (by decide)

theorem alignmentLoss_recovers {group : GroupNo} {lane : LaneNo} (hgroup : group.val ≠ 4)
    (hl0 : s.rd (PHY_STAT.ltssm.port group) = 3) (hmode : s.rd (PORT_LINK_STAT.mode.port group) = 1)
    (hactive : s.on (PHY_LANE_STAT.active.lane group lane) = true) :
    ∃ t, exec (.alignmentLoss group lane) s = .next t ∧ (laneOf t group lane).lock = none ∧
      t.rd (PHY_STAT.ltssm.port group) = 4 ∧ CountedUp s t (PHY_ALIGN_LOSS.count.port group) ∧
      CountedUp s t (PHY_RECOVERY.count.port group) ∧ KeepsData s t := by
  have hexec := alignmentLoss_loses hgroup hl0 hmode hactive
  have hrd : ∀ f, (unlockedLane s group lane).rd f = s.rd f := fun _ => rfl
  have hdata : KeepsData s (unlockedLane s group lane) := ⟨rfl, rfl, rfl, rfl⟩
  have hlock : ((unlockedLane s group lane).lane (laneNo group lane)).lock = none := by rw [unlockedLane, lane_setLane]
  generalize unlockedLane s group lane = a at *
  obtain ⟨hltssm, hloss, hrecovery, hlogged⟩ := alignLost_counts (s := a) (g := group)
  have hlane : ∀ k, (alignLost a group).lane k = a.lane k := fun k => by rw [State.lane, hlogged.frame, State.lane]
  generalize alignLost a group = b at *
  obtain ⟨hltssm', hloss', hrecovery', hdata', hlane'⟩ := alignTold_tells (s := b) (g := group) (n := lane)
  refine ⟨_, hexec, ?_, hltssm'.trans hltssm, ?_, ?_, keepsData_trans (keepsData_trans hdata hlogged.keepsData) hdata'⟩
  · rw [laneOf_eq, hlane', hlane, hlock]
  · rw [CountedUp, hloss', hloss, hrd]
  · rw [CountedUp, hrecovery', hrecovery, hrd]

/-! ## Adaptation (R467) -/

theorem adapted_range {v want lo hi : Int} (h : lo ≤ hi) : lo ≤ adapted v want lo hi ∧ adapted v want lo hi ≤ hi := by
  unfold adapted
  omega

theorem adapted_step {v want lo hi : Int} (hlo : lo ≤ v) (hhi : v ≤ hi) : (adapted v want lo hi - v).natAbs ≤ 1 := by
  unfold adapted
  omega

theorem peakMax_le (rate : Nat) : peakMax rate ≤ 24 := by
  unfold peakMax
  split <;> decide

/-- A lane whose settings have moved. -/
def adaptedLane (s : State) (g n rate c p d : Nat) (draw : Nat) : State :=
  (((s.wr (PHY_LANE_RXEQ.ctle_dc.lane g n) c).wr (PHY_LANE_RXEQ.peaking.lane g n) p).wr
    (PHY_LANE_RXEQ.dfe1.lane g n) d).saveLane g n rate (draw, c, p, d)

theorem adaptedLane_sets {g n rate c p d draw : Nat} (hc : c < 16) (hp : p < 32) :
    (adaptedLane s g n rate c p d draw).rd (PHY_LANE_RXEQ.ctle_dc.lane g n) = c ∧
    (adaptedLane s g n rate c p d draw).rd (PHY_LANE_RXEQ.peaking.lane g n) = p ∧
    SameRegs s (adaptedLane s g n rate c p d draw) [PHY_LANE_RXEQ.ctle_dc.lane g n, PHY_LANE_RXEQ.peaking.lane g n,
      PHY_LANE_RXEQ.dfe1.lane g n] ∧
    adaptedLane s g n rate c p d draw = { s with
      flds := (adaptedLane s g n rate c p d draw).flds, lanes := (adaptedLane s g n rate c p d draw).lanes } := by
  have hw : Writes [PHY_LANE_RXEQ.ctle_dc.lane g n, PHY_LANE_RXEQ.peaking.lane g n, PHY_LANE_RXEQ.dfe1.lane g n] s
      (((s.wr (PHY_LANE_RXEQ.ctle_dc.lane g n) c).wr (PHY_LANE_RXEQ.peaking.lane g n) p).wr (PHY_LANE_RXEQ.dfe1.lane g n) d) :=
    (((Writes.refl s).wr (.head _)).wr (.tail _ (.head _))).wr (.tail _ (.tail _ (.head _)))
  refine ⟨?_, ?_, (hw.flds rfl).regs, rfl⟩
  · show (((s.wr (PHY_LANE_RXEQ.ctle_dc.lane g n) c).wr (PHY_LANE_RXEQ.peaking.lane g n) p).wr
      (PHY_LANE_RXEQ.dfe1.lane g n) d).rd _ = c
    rw [rd_wr_apart (by rfl), rd_wr_apart (by rfl)]
    exact rd_wr_lt (show c < 2 ^ 4 from hc)
  · show (((s.wr (PHY_LANE_RXEQ.ctle_dc.lane g n) c).wr (PHY_LANE_RXEQ.peaking.lane g n) p).wr
      (PHY_LANE_RXEQ.dfe1.lane g n) d).rd _ = p
    rw [rd_wr_apart (by rfl)]
    exact rd_wr_lt (show p < 2 ^ 5 from hp)

/-- The tap that adaptation leaves a lane. -/
def adaptedTap (s : State) (g n rate : Nat) (dfe : Int) : Nat :=
  ofSigned 8 (adapted (toSigned 8 (s.rd (PHY_LANE_RXEQ.dfe1.lane g n))) dfe (if rate = 2 then -128 else -64)
    (if rate = 2 then 127 else 64))

/-- The draw with which a lane's settings are saved. -/
def savedDraw (s : State) (g n rate : Nat) : Nat :=
  ((Sparse.get (fun _ => none) (s.lane (laneNo g n)).saved rate).map (·.1)).getD s.free

theorem laneAdaptStep_adapts {group : GroupNo} {lane : LaneNo} (ctle peaking dfe : Int)
    (hl0 : s.rd (PHY_STAT.ltssm.port group) = 3) (hactive : s.on (PHY_LANE_STAT.active.lane group lane) = true) :
    exec (.laneAdaptStep group lane ctle peaking dfe) s = .next (adaptedLane s group lane (s.linkRate group)
      (adapted (s.rd (PHY_LANE_RXEQ.ctle_dc.lane group lane)) ctle 0 12).toNat
      (adapted (s.rd (PHY_LANE_RXEQ.peaking.lane group lane)) peaking 0 (peakMax (s.linkRate group))).toNat
      (adaptedTap s group lane (s.linkRate group) dfe) (savedDraw s group lane (s.linkRate group))) := by
  show Machine.execLaneAdaptStep group lane ctle peaking dfe s = _
  unfold Machine.execLaneAdaptStep
  extract_lets g n rate c p lim d v draw
  rw [if_neg]
  · rfl
  · rintro (h | h)
    · exact h hl0
    · rw [show s.on (PHY_LANE_STAT.active.lane g n) = true from hactive] at h
      exact absurd h (by decide)

theorem laneAdaptStep_steps {group : GroupNo} {lane : LaneNo} {ctle peaking dfe : Int}
    (hl0 : s.rd (PHY_STAT.ltssm.port group) = 3) (hactive : s.on (PHY_LANE_STAT.active.lane group lane) = true) :
    ∃ t, exec (.laneAdaptStep group lane ctle peaking dfe) s = .next t ∧
      t.rd (PHY_LANE_RXEQ.ctle_dc.lane group lane) ≤ 12 ∧ t.rd (PHY_LANE_RXEQ.peaking.lane group lane) ≤ 24 ∧
      (s.rd (PHY_LANE_RXEQ.ctle_dc.lane group lane) ≤ 12 →
        ((t.rd (PHY_LANE_RXEQ.ctle_dc.lane group lane) : Int) - s.rd (PHY_LANE_RXEQ.ctle_dc.lane group lane)).natAbs ≤ 1) ∧
      SameRegs s t [PHY_LANE_RXEQ.ctle_dc.lane group lane, PHY_LANE_RXEQ.peaking.lane group lane,
        PHY_LANE_RXEQ.dfe1.lane group lane] ∧
      t = { s with flds := t.flds, lanes := t.lanes } := by
  have hexec := laneAdaptStep_adapts ctle peaking dfe hl0 hactive
  generalize hv : (s.rd (PHY_LANE_RXEQ.ctle_dc.lane group lane) : Int) = v at *
  generalize s.rd (PHY_LANE_RXEQ.peaking.lane group lane) = w at *
  have hmax := peakMax_le (s.linkRate group)
  obtain ⟨hc0, hc1⟩ := adapted_range (v := v) (want := ctle) (lo := 0) (hi := 12) (by decide)
  obtain ⟨hp0, hp1⟩ := adapted_range (v := w) (want := peaking) (lo := 0) (hi := peakMax (s.linkRate group)) (by omega)
  obtain ⟨hc, hp, hregs, hframe⟩ := adaptedLane_sets (s := s) (g := group) (n := lane) (rate := s.linkRate group)
    (d := adaptedTap s group lane (s.linkRate group) dfe) (draw := savedDraw s group lane (s.linkRate group))
    (c := (adapted v ctle 0 12).toNat) (p := (adapted w peaking 0 (peakMax (s.linkRate group))).toNat)
    (by omega) (by omega)
  refine ⟨_, hexec, by omega, by omega, fun hle => ?_, hregs, hframe⟩
  have hstep := adapted_step (v := v) (want := ctle) (lo := 0) (hi := 12) (by omega) (by omega)
  rw [hc]
  omega

/-! ## The retry of a training (R362, R376) -/

theorem wr_keeps (f : Fld) (v : Nat) : (s.wr f v).ports = s.ports ∧ (s.wr f v).now = s.now := ⟨rfl, rfl⟩

theorem setPort_keeps (p : Nat) (v : PortState) : (s.setPort p v).now = s.now ∧ KeepsData s (s.setPort p v) :=
  ⟨rfl, rfl, rfl, rfl, rfl⟩

theorem doveTrain_keeps : s.doveTrain.ports = s.ports ∧ s.doveTrain.now = s.now := by
  unfold State.doveTrain
  split
  · obtain ⟨hports, hnow⟩ := wr_keeps (s := s) DOVE_STAT.link 1
    obtain ⟨hports', hnow'⟩ := wr_keeps (s := s.wr DOVE_STAT.link 1) (PHY_STAT.ltssm.port 4) 1
    exact ⟨hports'.trans hports, hnow'.trans hnow⟩
  · exact ⟨rfl, rfl⟩

theorem hunting_ready (g : Nat) : ((hunting s g).port g).retryAt = none ∧ (hunting s g).now = s.now := by
  have hlanes := lanesCleared_forAll (s := s) g (List.range 8)
  rw [hunting]
  refine ⟨?_, ?_⟩
  · rw [State.port_setPort]
  · rw [(setPort_keeps _ _).1, hlanes.frame]

/-- A port that does not wait to train again does not when it trains. -/
theorem train_ready {g : Nat} (h : (s.port g).retryAt = none) :
    ((s.train g).port g).retryAt = none ∧ (s.train g).now = s.now := by
  unfold State.train
  extract_lets v
  have hv : v.ports = s.ports ∧ v.now = s.now := by
    unfold v
    split
    · exact doveTrain_keeps
    · split
      · exact wr_keeps _ _
      · exact ⟨rfl, rfl⟩
  obtain ⟨hports, hnow⟩ := hv
  clear_value v
  split
  · obtain ⟨hretry, hnow'⟩ := hunting_ready (s := v) g
    exact ⟨hretry, hnow'.trans hnow⟩
  · exact ⟨(congrArg PortState.retryAt (port_of_ports hports g)).trans h, hnow⟩

/-- A port trains again. -/
def retried (s : State) (g : Nat) : State := (s.setPort g { s.port g with retryAt := none }).train g

theorem retried_ready (g : Nat) :
    ((retried s g).port g).retryAt = none ∧ (retried s g).now = s.now ∧ KeepsData s (retried s g) := by
  have hset : ((s.setPort g { s.port g with retryAt := none }).port g).retryAt = none := by rw [State.port_setPort]
  obtain ⟨hnow, hdata⟩ := setPort_keeps (s := s) g { s.port g with retryAt := none }
  unfold retried
  generalize s.setPort g { s.port g with retryAt := none } = b at *
  obtain ⟨hready, hnow'⟩ := train_ready hset
  exact ⟨hready, hnow'.trans hnow, keepsData_trans hdata (train_keeps g).1⟩

theorem trainingRetry_trains {group : GroupNo} {at_ : Nat} (hretry : (s.port group).retryAt = some at_) :
    exec (.trainingRetry group) s = .next (retried (s.advanceTo (at_ + 100000000000)) group) := by
  have hwait : 100 * psMs = 100000000000 := by decide
  show Machine.execTrainingRetry group s = _
  rw [Machine.execTrainingRetry, hretry]
  show Host.Outcome.next (retried (s.advanceTo (at_ + 100 * psMs)) group) = _
  rw [hwait]

theorem trainingRetry_ready {group : GroupNo} {at_ : Nat} (hretry : (s.port group).retryAt = some at_) :
    ∃ t, exec (.trainingRetry group) s = .next t ∧ (t.port group).retryAt = none ∧
      t.now = max s.now (at_ + 100000000000) ∧ KeepsData s t := by
  have hexec := trainingRetry_trains hretry
  obtain ⟨hready, hnow, hdata⟩ := retried_ready (s := s.advanceTo (at_ + 100000000000)) group
  exact ⟨_, hexec, hready, hnow.trans (now_advanceTo _), keepsData_trans (keepsData_advanceTo _) hdata⟩

/-! ## What a training writes -/

/-- Only fields at the places of a list have changed, and memory, keys, the Folio and the system state stand. -/
structure Forms (l : List Fld) (s t : State) : Prop where
  places : Places l s t
  data : KeepsData s t

section
variable {l : List Fld}

theorem Forms.refl (s : State) : Forms l s s := ⟨.refl s, rfl, rfl, rfl, rfl⟩

theorem Forms.trans (h : Forms l s t) (k : Forms l t u) : Forms l s u :=
  ⟨h.places.trans k.places, keepsData_trans h.data k.data⟩

theorem Forms.mono {m : List Fld} (h : Forms l s t) (hlm : l ⊆ m) : Forms m s t := ⟨h.places.mono hlm, h.data⟩

theorem Forms.rd (h : Forms l s t) {f : Fld} (hf : l.all (offPlace f) = true := by rfl) : t.rd f = s.rd f := h.places.rd hf

theorem Forms.on (h : Forms l s t) {f : Fld} (hf : l.all (offPlace f) = true := by rfl) : t.on f = s.on f :=
  on_of_rd (h.rd hf)

theorem Forms.flds (h : Forms l s t) (hu : u.flds = t.flds) (hd : KeepsData t u) : Forms l s u :=
  ⟨h.places.flds hu, keepsData_trans h.data hd⟩

theorem Forms.wr {f : Fld} {v : Nat} (h : Forms l s t) (hf : l.any (fun g => !offPlace f g) = true := by rfl) :
    Forms l s (t.wr f v) := ⟨h.places.wr hf, keepsData_trans h.data ⟨rfl, rfl, rfl, rfl⟩⟩

theorem Forms.setLane {n : Nat} {v : LaneState} (h : Forms l s t) : Forms l s (t.setLane n v) :=
  h.flds rfl ⟨rfl, rfl, rfl, rfl⟩

theorem Forms.setPort {n : Nat} {v : PortState} (h : Forms l s t) : Forms l s (t.setPort n v) :=
  h.flds rfl ⟨rfl, rfl, rfl, rfl⟩

theorem Forms.drawn (h : Forms l s t) : Forms l s t.drawn := h.flds rfl ⟨rfl, rfl, rfl, rfl⟩

theorem Forms.ite {c : Prop} [Decidable c] {a b : State} (ha : Forms l s a) (hb : Forms l s b) :
    Forms l s (if c then a else b) := by
  split
  · exact ha
  · exact hb

theorem Forms.forAll {α : Type} {f : State → α → State} {as : List α} (h : Forms l s t)
    (hf : ∀ u a, Forms l s u → Forms l s (f u a)) : Forms l s (t.forAll as f) :=
  forAll_keeps (P := Forms l s) hf as h

theorem Forms.logged {m : List Fld} (h : Forms l s t) (hw : Writes m t u) (hl : Logged t u)
    (hm : ∀ f, l.all (offPlace f) = true → m.all (offPlace f) = true) : Forms l s u :=
  ⟨⟨fun f hf => ((Places.writes hw).regs f (hm f hf)).trans (h.places.regs f hf)⟩, keepsData_trans h.data hl.keepsData⟩

end

/-- A loop that writes a field of its own for each number. -/
theorem rd_forAll_each {f : Nat → Fld} {v : Nat → Nat} {b : Nat} {l : List Nat} (hb : b ∈ l) (hv : v b < 2 ^ (f b).width)
    (hf : ∀ a, a ≠ b → (f b).key ≠ (f a).key) (s : State) : (s.forAll l fun s a => s.wr (f a) (v a)).rd (f b) = v b := by
  have hkept : ∀ (l : List Nat) (s : State), s.rd (f b) = v b → (s.forAll l fun s a => s.wr (f a) (v a)).rd (f b) = v b := by
    refine fun l s hs => forAll_keeps (P := fun u => u.rd (f b) = v b) (fun u a hu => ?_) l hs
    by_cases ha : a = b
    · rw [ha]
      exact rd_wr_lt hv
    · rw [State.rd_wr_ne _ (hf a ha), hu]
  induction l generalizing s with
  | nil => exact absurd hb List.not_mem_nil
  | cons a l ih =>
    rw [forAll_cons]
    by_cases hl : b ∈ l
    · exact ih hl _
    · obtain rfl : b = a := (List.mem_cons.1 hb).resolve_right hl
      exact hkept l _ (rd_wr_lt hv)

/-- Two lanes' copies of fields are two fields. -/
theorem key_lane {f h : Fld} {g n m : Nat} (hg : g < 5) (hnm : n ≠ m) (hf : f.off < 4096 ∧ f.lsb < 32 := by decide)
    (hh : h.off < 4096 ∧ h.lsb < 32 := by decide) : (f.lane g n).key ≠ (h.lane g m).key := by
  simp only [Fld.key, Fld.lane, Fld.port, Fld.ix]
  omega

/-! ## A training that fails -/

theorem toNat_lt_two (b : Bool) : b.toNat < 2 := by cases b <;> decide

/-- The lanes that failed are shown. -/
def failedShown (s : State) (g : Nat) (bad : List Nat) : State :=
  s.forAll (List.range 8) fun s n => s.wrb (PHY_LANE_STAT.failed.lane g n) (decide (n ∈ bad))

theorem failedShown_shows {g : Nat} (bad : List Nat) (hg : g < 5) :
    (∀ n < 8, (failedShown s g bad).rd (PHY_LANE_STAT.failed.lane g n) = if n ∈ bad then 1 else 0) ∧
    Forms [PHY_LANE_STAT.failed] s (failedShown s g bad) := by
  have heq : failedShown s g bad =
      s.forAll (List.range 8) fun s n => s.wr (PHY_LANE_STAT.failed.lane g n) (decide (n ∈ bad)).toNat := by
    simp only [failedShown, wrb_eq]
  rw [heq]
  refine ⟨fun n hn => ?_, (Forms.refl s).forAll fun _ _ h => h.wr⟩
  rw [rd_forAll_each (f := fun n => PHY_LANE_STAT.failed.lane g n) (v := fun n => (decide (n ∈ bad)).toNat)
    (List.mem_range.2 hn) (toNat_lt_two _) (fun a ha => key_lane hg (Ne.symm ha))]
  by_cases h : n ∈ bad <;> simp [h]

theorem keepsData_lanesCleared {g : Nat} {ns : List Nat} (h : LanesCleared g ns s t) : KeepsData s t := by
  rw [h.frame]
  exact ⟨rfl, rfl, rfl, rfl⟩

theorem keepsData_calFollowed {l : List Fld} (h : CalFollowed l s t) : KeepsData s t := by
  rw [h.frame]
  exact ⟨rfl, rfl, rfl, rfl⟩

theorem keepsData_linkDown (p : Nat) : KeepsData s (s.linkDown p) := by
  unfold State.linkDown
  extract_lets was a b c v d e
  have ha : KeepsData s a := (logged_forAll (fun _ _ => logged_wr _ _) _).keepsData
  clear_value a
  have hb : KeepsData s b := keepsData_trans ha (logged_forAll (fun _ _ => logged_wr _ _) _).keepsData
  clear_value b
  have hc : KeepsData s c := keepsData_trans hb (keepsData_lanesCleared (lanesCleared_forAll p (List.range 8)))
  clear_value c
  have hd : KeepsData s d := keepsData_trans hc (setPort_keeps _ _).2
  clear_value d
  have he : KeepsData s e := keepsData_trans (keepsData_trans hd (sets_fixPort p).keepsData)
    (keepsData_calFollowed (calFollowed_fixCal _))
  clear_value e
  split
  · exact he
  · exact keepsData_trans he (logged_cause _ _).keepsData

theorem rd_linkDown_ltssm {p : Nat} (hp : p < 4) : (s.linkDown p).rd (PHY_STAT.ltssm.port p) = 0 := by
  have hclear : clear (stoppedFields p) (PHY_STAT.ltssm.port p) = true := by
    refine clear_stoppedFields ?_ ?_ ?_ ?_ ?_ <;> (try intro n) <;> interval_cases p <;> rfl
  rw [(shut_linkDown p).writes.rd hclear]
  exact rd_forAll_clr (List.mem_map_of_mem (by decide : PHY_STAT.ltssm ∈ _))

theorem linkTrained_fails {group : GroupNo} {mode : Fin 5} {lo : Bool} {unusable : BitVec 8} {bound : BitVec 4} {mld : Bool}
    (hgroup : group.val ≠ 4) (hpoll : s.rd (PHY_STAT.ltssm.port group) = 1) (hmode : s.modeFormed group mode lo ≠ 0)
    (hlanes : s.lanesFormed group (s.unusable group unusable) = none) :
    exec (.linkTrained group mode lo unusable bound mld) s = .next ((failedShown
      ((s.linkDown group).setPort group { (s.linkDown group).port group with retryAt := none }) group
      (s.unusable group unusable)).err (phyPage group) 0x0B11 0) := by
  show Machine.execLinkTrained group mode lo unusable bound mld s = _
  unfold Machine.execLinkTrained
  extract_lets g m bad
  have hltssm : s.ltssm g = 1 := hpoll
  rw [if_neg (by rw [hltssm]; decide), if_neg (fun h => h.elim hmode fun h => hgroup h.1),
    show s.lanesFormed g bad = none from hlanes]
  show Host.Outcome.next (((s.trainFailed g false).forAll _ _).err _ _ _) = _
  rw [State.trainFailed, if_neg hgroup, if_pos (.inl hltssm)]
  rfl

theorem linkTrained_noLink {group : GroupNo} {mode : Fin 5} {lo : Bool} {unusable : BitVec 8} {bound : BitVec 4} {mld : Bool}
    (hgroup : group.val ≠ 4) (hpoll : s.rd (PHY_STAT.ltssm.port group) = 1) (hmode : s.modeFormed group mode lo ≠ 0)
    (hlanes : s.lanesFormed group (s.unusable group unusable) = none) :
    ∃ t, exec (.linkTrained group mode lo unusable bound mld) s = .next t ∧ t.rd (PHY_STAT.ltssm.port group) = 0 ∧
      t.rd (ERR_STAT.uc.on (0x10 + group.val)) = 1 ∧
      (∀ n < 8, t.rd (PHY_LANE_STAT.failed.lane group n) = if n ∈ s.unusable group unusable then 1 else 0) ∧
      KeepsData s t := by
  have hexec := linkTrained_fails (bound := bound) (mld := mld) hgroup hpoll hmode hlanes
  have hlt := group.isLt
  have hltssm := rd_linkDown_ltssm (s := s) (p := group) (by omega)
  have hdata := keepsData_linkDown (s := s) group
  generalize s.linkDown group = a at *
  generalize s.unusable group unusable = bad at *
  have hset : KeepsData a (a.setPort group { a.port group with retryAt := none }) := ⟨rfl, rfl, rfl, rfl⟩
  have hrd : ∀ f, (a.setPort group { a.port group with retryAt := none }).rd f = a.rd f := fun _ => rfl
  generalize a.setPort group { a.port group with retryAt := none } = b at *
  obtain ⟨hfailed, hforms⟩ := failedShown_shows (s := b) bad hlt
  obtain ⟨huc, -⟩ := rd_err_contained (s := failedShown b group bad) (page := phyPage group) (code := 0x0B11) (addr := 0)
    (by decide)
  refine ⟨_, hexec, ?_, huc, fun n hn => ?_, ?_⟩
  · rw [rd_err (by rfl), hforms.rd, hrd, hltssm]
  · rw [rd_err (by rfl), hfailed n hn]
  · exact keepsData_trans (keepsData_trans (keepsData_trans hdata hset) hforms.data) (logged_err _ _ _).keepsData

/-! ## A link that forms (R373) -/

/-- The fields of a lane that joins a link, beside the mark that it is active. -/
def joinPlaces : List Fld :=
  [PHY_LANE_STAT.logical, PHY_LANE_STAT.inverted, PHY_LANE_STAT.precode_tx, PHY_LANE_STAT.precode_rx, PHY_LANE_STAT.state,
    PHY_LANE_TXEQ.preset, PHY_LANE_TXEQ.pre2, PHY_LANE_TXEQ.pre1, PHY_LANE_TXEQ.post, PHY_LANE_TXEQ.main,
    PHY_LANE_RXEQ.ctle_dc, PHY_LANE_RXEQ.peaking, PHY_LANE_RXEQ.dfe1, PHY_LANE_ERR.count]

theorem forms_equalise {g n rate : Nat} {set : Nat × Nat × Nat × Nat} (h : Forms joinPlaces s t) :
    Forms joinPlaces s (t.equalise g n rate set) := by
  unfold State.equalise
  extract_lets v pre2 pre1 post a b
  have ha : Forms joinPlaces s a := h.wr.wr.wr
  clear_value a
  have hb : Forms joinPlaces s b := ha.wr.wr
  clear_value b
  exact hb.wr.wr.wr

/-- A lane that joins a link is active. -/
theorem joinLane_joins {g n logical rate : Nat} : (s.joinLane g n logical rate).rd (PHY_LANE_STAT.active.lane g n) = 1 ∧
    ∃ u, Forms joinPlaces s u ∧ Forms joinPlaces (u.put (PHY_LANE_STAT.active.lane g n)) (s.joinLane g n logical rate) := by
  unfold State.joinLane
  extract_lets v l a pam4 b c d e new set
  have ha : Forms joinPlaces s (a.wr (PHY_LANE_STAT.logical.lane g n) logical) := Forms.wr (Forms.setLane (.refl s))
  have hb : Forms joinPlaces ((a.wr (PHY_LANE_STAT.logical.lane g n) logical).put (PHY_LANE_STAT.active.lane g n)) b :=
    (Forms.refl _).wr
  have hput : ((a.wr (PHY_LANE_STAT.logical.lane g n) logical).put (PHY_LANE_STAT.active.lane g n)).rd
      (PHY_LANE_STAT.active.lane g n) = 1 := rd_put_self
  clear_value set new
  have he : Forms joinPlaces ((a.wr (PHY_LANE_STAT.logical.lane g n) logical).put (PHY_LANE_STAT.active.lane g n)) e :=
    ((hb.wr : Forms joinPlaces _ c).wr : Forms joinPlaces _ d).wr
  generalize a.wr (PHY_LANE_STAT.logical.lane g n) logical = w at *
  clear_value a b c d e
  have hall : Forms joinPlaces (w.put (PHY_LANE_STAT.active.lane g n)) ((e.equalise g n rate set).saveLane g n rate set) :=
    (forms_equalise he).setLane
  exact ⟨hall.rd.trans hput, w, ha, hall⟩

/-- The fields of a training. -/
def formPlaces : List Fld :=
  PHY_LANE_STAT.active :: (joinPlaces ++ [PHY_LANE_STAT.failed, PHY_STAT.reversed, PHY_REFCLK.offset_ppm])

/-- A lane of a group joins the link, or its registers are cleared. -/
def joinOr (g rate : Nat) (l : List Nat) (s : State) (n : Nat) : State :=
  if n ∈ l then s.joinLane g n (l.idxOf n) rate else s.forAll laneFields fun s f => s.clr (f.lane g n)

theorem joinPlaces_subset : joinPlaces ⊆ formPlaces :=
  List.subset_cons_of_subset _ (List.subset_append_left _ _)

theorem forms_joinOr (g rate : Nat) (l : List Nat) (n : Nat) : Forms formPlaces s (joinOr g rate l s n) := by
  unfold joinOr
  split
  · obtain ⟨-, u, hu, hj⟩ := joinLane_joins (s := s) (g := g) (n := n) (logical := l.idxOf n) (rate := rate)
    exact ((hu.mono joinPlaces_subset).wr).trans (hj.mono joinPlaces_subset)
  · refine List.foldlRecOn (motive := Forms formPlaces s) _ _ (.refl s) fun u hu f hf => hu.wr ?_
    have hall : ∀ f ∈ laneFields, formPlaces.any (fun g => !offPlace f g) = true := by decide
    exact hall f hf

theorem rd_lanesCleared {g n : Nat} : (s.forAll laneFields fun s f => s.clr (f.lane g n)).rd (PHY_LANE_STAT.active.lane g n) = 0 := by
  have hclr : (s.forAll laneFields fun s f => s.clr (f.lane g n)) = s.forAll laneFields fun s f => s.wr (f.lane g n) 0 := rfl
  rw [hclr, rd_forAll_wr (f := fun f => f.lane g n) (c := 0) laneFields (fun _ _ _ => Nat.zero_mod _) s,
    if_pos ⟨PHY_LANE_STAT.active, by decide, rfl⟩]

theorem rd_joinOr_self {g rate n : Nat} {l : List Nat} :
    (joinOr g rate l s n).rd (PHY_LANE_STAT.active.lane g n) = if n ∈ l then 1 else 0 := by
  unfold joinOr
  by_cases h : n ∈ l
  · rw [if_pos h, if_pos h, joinLane_joins.1]
  · rw [if_neg h, if_neg h, rd_lanesCleared]

/-- A lane says nothing of another. -/
theorem rd_joinOr_other {g rate n m : Nat} {l : List Nat} (hg : g < 5) (hm : m ≠ n) :
    (joinOr g rate l s n).rd (PHY_LANE_STAT.active.lane g m) = s.rd (PHY_LANE_STAT.active.lane g m) := by
  unfold joinOr
  split
  · obtain ⟨-, u, hu, hj⟩ := joinLane_joins (s := s) (g := g) (n := n) (logical := l.idxOf n) (rate := rate)
    rw [hj.rd, State.put_eq, State.rd_wr_ne _ (key_lane hg hm), hu.rd]
  · have hall : ∀ f ∈ laneFields, f.off < 4096 ∧ f.lsb < 32 := by decide
    refine List.foldlRecOn (motive := fun u : State => u.rd (PHY_LANE_STAT.active.lane g m) = s.rd _) _ _ rfl fun u hu f hf => ?_
    rw [State.clr_eq, State.rd_wr_ne _ (key_lane hg hm (by decide) (hall f hf)), hu]

/-- The lanes of the group follow the link's. -/
theorem joined_lanes {g rate : Nat} {l : List Nat} (hg : g < 5) (ns : List Nat) :
    Forms formPlaces s (s.forAll ns (joinOr g rate l)) ∧
    ∀ n ∈ ns, (s.forAll ns (joinOr g rate l)).rd (PHY_LANE_STAT.active.lane g n) = if n ∈ l then 1 else 0 := by
  have hkept : ∀ (n : Nat) (ns : List Nat) (s : State), s.rd (PHY_LANE_STAT.active.lane g n) = (if n ∈ l then 1 else 0) →
      (s.forAll ns (joinOr g rate l)).rd (PHY_LANE_STAT.active.lane g n) = if n ∈ l then 1 else 0 := fun n ns s hs =>
    forAll_keeps (P := fun u => u.rd (PHY_LANE_STAT.active.lane g n) = if n ∈ l then 1 else 0) (fun u m hu => by
      by_cases hm : n = m
      · subst hm
        exact rd_joinOr_self
      · rw [rd_joinOr_other hg hm, hu]) ns hs
  refine ⟨(Forms.refl s).forAll fun u n h => h.trans (forms_joinOr g rate l n), fun n hn => ?_⟩
  induction ns generalizing s with
  | nil => exact absurd hn List.not_mem_nil
  | cons m ns ih =>
    rw [forAll_cons]
    by_cases hns : n ∈ ns
    · exact ih hns
    · obtain rfl : n = m := (List.mem_cons.1 hn).resolve_right hns
      exact hkept n ns _ rd_joinOr_self

/-! ### The registers of the link -/

/-- The fields of a host link that forms, beside those of its lanes. -/
def upPlaces : List Fld :=
  [PORT_LINK_STAT.rate, PORT_LINK_STAT.mld, PORT_LINK_STAT.lds_bound, PORT_LINK_STAT.mem_active, PORT_LD_STAT.dec_committed,
    PORT_LD_STAT.hdmdb, PORT_LD_STAT.tsp_active, INT_STAT.causes, PHY_PM_STAT.last_outcome]

/-- The mode that a host link shows. -/
def flitsShown (mode : Nat) (lo : Bool) : Nat := if mode = 4 then (if lo then 3 else 2) else mode

/-- A logical device of the port is bound. -/
def ldBound (bound : BitVec 4) (mld : Bool) (l : Nat) : Bool := if mld then bound.getLsbD l else decide (l = 0)

/-- The logical devices of the port are bound. -/
def ldsBound (s : State) (p : Nat) (bound : BitVec 4) (mld : Bool) : State :=
  s.forAll (List.range 4) fun s l => s.wrb (PORT_LD_CFG.bound.ld p l) (ldBound bound mld l)

theorem key_ld {f : Fld} {p n m : Nat} (hp : p < 4) (hnm : n ≠ m) (hf : f.off < 4096 ∧ f.lsb < 32 := by decide) :
    (f.ld p n).key ≠ (f.ld p m).key := key_lane (by omega : p < 5) hnm hf hf

theorem ldsBound_binds {p : Nat} {bound : BitVec 4} {mld : Bool} (hp : p < 4) :
    (∀ n < 4, (ldsBound s p bound mld).rd (PORT_LD_CFG.bound.ld p n) = (ldBound bound mld n).toNat) ∧
    Forms [PORT_LD_CFG.bound] s (ldsBound s p bound mld) := by
  have heq : ldsBound s p bound mld =
      s.forAll (List.range 4) fun s l => s.wr (PORT_LD_CFG.bound.ld p l) (ldBound bound mld l).toNat := by
    simp only [ldsBound, wrb_eq]
  rw [heq]
  refine ⟨fun n hn => ?_, (Forms.refl s).forAll fun _ _ h => h.wr⟩
  exact rd_forAll_each (f := fun n => PORT_LD_CFG.bound.ld p n) (v := fun n => (ldBound bound mld n).toNat)
    (List.mem_range.2 hn) (toNat_lt_two _) (fun a ha => key_ld hp (Ne.symm ha)) s

theorem forms_fixPort {l : List Fld} {p : Nat} (h : Forms l s t) (hl : upPlaces ⊆ l) : Forms l s (t.fixPort p) := by
  have hfix : Forms upPlaces t (t.fixPort p) := by
    unfold State.fixPort
    refine (Forms.refl t).forAll fun u n k => ?_
    rw [wrb_eq, wrb_eq]
    exact k.wr.wr.wr
  exact h.trans (hfix.mono hl)

theorem off_causeFields {f : Fld} (hcause : offPlace f INT_STAT.causes = true) (hsend : offPlace f PHY_PM_STAT.last_outcome = true)
    (page : Nat) : (causeFields page).all (offPlace f) = true := by
  refine List.all_eq_true.2 fun g hg => ?_
  obtain rfl | hg := List.mem_cons.1 hg
  · exact hcause
  · obtain ⟨p, -, rfl⟩ := List.mem_map.1 hg
    exact hsend

theorem forms_cause {l : List Fld} {page bit : Nat} (h : Forms l s t)
    (hl : [INT_STAT.causes, PHY_PM_STAT.last_outcome] ⊆ l) : Forms l s (t.cause page bit) :=
  h.logged (alerted_cause page bit).writes (logged_cause page bit) fun _ hf => off_causeFields
    (List.all_eq_true.1 hf _ (hl (.head _))) (List.all_eq_true.1 hf _ (hl (.tail _ (.head _)))) page

theorem fixWake_keeps : s.fixWake.flds = s.flds ∧ KeepsData s s.fixWake := by
  unfold State.fixWake
  extract_lets low
  split
  · exact ⟨rfl, rfl, rfl, rfl, rfl⟩
  · exact ⟨rfl, rfl, rfl, rfl, rfl⟩

theorem forms_wakeOver {l : List Fld} {p : Nat} (h : Forms l s t) : Forms l s (t.wakeOver p) := by
  obtain ⟨hflds, hdata⟩ := fixWake_keeps (s := t.setPort p { t.port p with wake := false })
  exact (h.setPort (n := p) (v := { t.port p with wake := false })).flds hflds hdata

/-- The status of a host link that has formed. -/
def linkShown (s : State) (p flits rate : Nat) (mld : Bool) : State :=
  ((s.wr (PORT_LINK_STAT.mode.port p) flits).wr (PORT_LINK_STAT.rate.port p) rate).wrb (PORT_LINK_STAT.mld.port p) mld

theorem linkShown_shows {p flits rate : Nat} {mld : Bool} (hflits : flits < 4) :
    (linkShown s p flits rate mld).rd (PORT_LINK_STAT.mode.port p) = flits ∧
    Forms (PORT_LINK_STAT.mode :: upPlaces) s (linkShown s p flits rate mld) := by
  unfold linkShown
  rw [wrb_eq]
  refine ⟨?_, (Forms.refl s).wr.wr.wr⟩
  rw [rd_wr_apart (by rfl), rd_wr_apart (by rfl)]
  exact rd_wr_lt (show flits < 2 ^ 2 from hflits)

/-- A host link that forms shows its mode and binds its logical devices. -/
theorem hostLinkUp_shows {p mode rate : Nat} {lo mld : Bool} {bound : BitVec 4} (hp : p < 4) (hmode : flitsShown mode lo < 4) :
    (s.hostLinkUp p mode lo rate bound mld).rd (PORT_LINK_STAT.mode.port p) = flitsShown mode lo ∧
    (∀ n < 4, (s.hostLinkUp p mode lo rate bound mld).rd (PORT_LD_CFG.bound.ld p n) = (ldBound bound mld n).toNat) ∧
    Forms (PORT_LD_CFG.bound :: PORT_LINK_STAT.mode :: upPlaces) s (s.hostLinkUp p mode lo rate bound mld) := by
  have hcauses : [INT_STAT.causes, PHY_PM_STAT.last_outcome] ⊆ upPlaces := by decide
  have hone : [PORT_LD_CFG.bound] ⊆ PORT_LD_CFG.bound :: PORT_LINK_STAT.mode :: upPlaces :=
    List.cons_subset_cons _ (List.nil_subset _)
  have hup : upPlaces ⊆ PORT_LINK_STAT.mode :: upPlaces := List.subset_cons_self _ _
  have hmode' : PORT_LINK_STAT.mode :: upPlaces ⊆ PORT_LD_CFG.bound :: PORT_LINK_STAT.mode :: upPlaces :=
    List.subset_cons_self _ _
  unfold State.hostLinkUp
  extract_lets was flits on a b c d
  obtain ⟨hshown, hforms⟩ : a.rd (PORT_LINK_STAT.mode.port p) = flitsShown mode lo ∧ Forms (PORT_LINK_STAT.mode :: upPlaces) s a :=
    linkShown_shows hmode
  clear_value a
  obtain ⟨hbound, hforms'⟩ : (∀ n < 4, b.rd (PORT_LD_CFG.bound.ld p n) = (ldBound bound mld n).toNat) ∧
      Forms [PORT_LD_CFG.bound] a b := ldsBound_binds hp
  clear_value b
  have hc : Forms upPlaces b c := (Forms.refl b).wr
  clear_value c
  have hd : Forms upPlaces b d := forms_fixPort (by rw [wrb_eq]; exact hc.wr) (List.Subset.refl _)
  clear_value d
  have hfollowed : Forms upPlaces b ((if was = flits then d else d.cause (phyPage p) 1).wakeOver p) :=
    forms_wakeOver (.ite hd (forms_cause hd hcauses))
  refine ⟨?_, fun n hn => ?_, ?_⟩
  · rw [hfollowed.rd, hforms'.rd, hshown]
  · rw [hfollowed.rd, hbound n hn]
  · exact ((hforms.mono hmode').trans (hforms'.mono hone)).trans (hfollowed.mono (List.Subset.trans hup hmode'))

/-- The registers of a group whose lanes have joined. -/
def lanesShown (s : State) (g : Nat) (bad l : List Nat) : State :=
  (((failedShown s g bad).wrb (PHY_STAT.reversed.port g) (decide (l.head? = some 7))).wr (PHY_REFCLK.offset_ppm.port g)
    (Config.trained (failedShown s g bad).free (64 + g) 201)).drawn

theorem forms_lanesShown {g : Nat} (bad l : List Nat) (hg : g < 5) :
    Forms [PHY_LANE_STAT.failed, PHY_STAT.reversed, PHY_REFCLK.offset_ppm] s (lanesShown s g bad l) := by
  obtain ⟨-, hfailed⟩ := failedShown_shows (s := s) bad hg
  unfold lanesShown
  rw [wrb_eq]
  generalize failedShown s g bad = a at *
  exact (hfailed.mono (List.cons_subset_cons _ (List.nil_subset _))).wr.wr.drawn

/-- A port whose link has formed, before the link resumes. -/
def portUp (s : State) (g mode : Nat) (lo : Bool) (bound : BitVec 4) (mld : Bool) (bad l : List Nat) : State :=
  ((lanesShown (s.forAll (List.range 8) (joinOr g (modeRate mode) l)) g bad l).hostLinkUp g mode lo (modeRate mode) bound mld).wrb
    (PORT_LINK_STAT.width.port g) (decide (l.length = 4))

/-- A link with four lanes is reported where the port allows eight. -/
def narrowTold (s : State) (g : Nat) (bad l : List Nat) : State :=
  if decide (l.length = 4) = true ∧ (g = 4 ∨ !s.on (PORT_CTL.x4_only.port g)) then
    (s.err (phyPage g) 0x0B10 (bad.map fun n => 2 ^ n).sum).phyCause g 9 10
  else s

theorem formLink_eq {g mode : Nat} {lo mld : Bool} {bound : BitVec 4} {bad l : List Nat} (hg : g ≠ 4) :
    s.formLink g mode lo bound mld bad l = narrowTold ((portUp s g mode lo bound mld bad l).resumeLink g) g bad l := by
  unfold State.formLink
  extract_lets rate x4 a b c d e
  have ha : a = s.forAll (List.range 8) (joinOr g (modeRate mode) l) := rfl
  have hc : c = lanesShown a g bad l := rfl
  have hd : d = portUp s g mode lo bound mld bad l := by
    unfold d
    rw [if_neg hg, hc, ha]
    rfl
  have he : e = (portUp s g mode lo bound mld bad l).resumeLink g := by rw [← hd]
  rw [he]
  rfl

/-- What a link that has formed shows. -/
structure LinkFormed (g mode : Nat) (lo : Bool) (bound : BitVec 4) (mld : Bool) (l : List Nat) (s t : State) : Prop where
  mode : t.rd (PORT_LINK_STAT.mode.port g) = flitsShown mode lo
  width : t.rd (PORT_LINK_STAT.width.port g) = if l.length = 4 then 1 else 0
  active : ∀ n < 8, t.rd (PHY_LANE_STAT.active.lane g n) = if n ∈ l then 1 else 0
  bound : ∀ n < 4, t.rd (PORT_LD_CFG.bound.ld g n) = (ldBound bound mld n).toNat
  data : KeepsData s t

theorem linkFormed_portUp {g mode : Nat} {lo mld : Bool} {bound : BitVec 4} {bad l : List Nat} (hg : g < 4)
    (hmode : flitsShown mode lo < 4) : LinkFormed g mode lo bound mld l s (portUp s g mode lo bound mld bad l) ∧
      (portUp s g mode lo bound mld bad l).rd (PWR_DOM_STAT.state.ix (64 + g)) = s.rd (PWR_DOM_STAT.state.ix (64 + g)) := by
  obtain ⟨hjoined, hactive⟩ := joined_lanes (s := s) (rate := modeRate mode) (l := l) (by omega : g < 5) (List.range 8)
  unfold portUp
  rw [wrb_eq]
  generalize s.forAll (List.range 8) (joinOr g (modeRate mode) l) = a at *
  have hshown := forms_lanesShown (s := a) bad l (by omega : g < 5)
  generalize lanesShown a g bad l = b at *
  obtain ⟨hflits, hbound, hup⟩ := hostLinkUp_shows (s := b) (rate := modeRate mode) (mld := mld) (bound := bound) hg hmode
  generalize b.hostLinkUp g mode lo (modeRate mode) bound mld = c at *
  have hwr : Forms [PORT_LINK_STAT.width] c (c.wr (PORT_LINK_STAT.width.port g) (decide (l.length = 4)).toNat) :=
    (Forms.refl c).wr
  refine ⟨⟨?_, ?_, fun n hn => ?_, fun n hn => ?_, ?_⟩, ?_⟩
  · rw [hwr.rd, hflits]
  · rw [rd_wr_lt (toNat_lt_two _)]
    by_cases h : l.length = 4 <;> simp [h]
  · rw [hwr.rd, hup.rd, hshown.rd, hactive n (List.mem_range.2 hn)]
  · rw [hwr.rd, hbound n hn]
  · exact keepsData_trans (keepsData_trans (keepsData_trans hjoined.data hshown.data) hup.data) hwr.data
  · rw [hwr.rd, hup.rd, hshown.rd, hjoined.rd]

theorem narrowTold_tells {g : Nat} {bad l : List Nat} (hg : g < 4) : KeepsData s (narrowTold s g bad l) ∧
    ∀ f, clear (errFields (phyPage g)) f = true → clear (causeFields (phyPage g)) f = true →
      (narrowTold s g bad l).rd f = s.rd f := by
  unfold narrowTold State.phyCause
  split
  · exact ⟨((logged_err _ _ _).trans (logged_cause _ _)).keepsData, fun f he hc => by rw [rd_cause hc, rd_err he]⟩
  · exact ⟨⟨rfl, rfl, rfl, rfl⟩, fun _ _ _ => rfl⟩

theorem linkTrained_forms {group : GroupNo} {mode : Fin 5} {lo : Bool} {unusable : BitVec 8} {bound : BitVec 4} {mld : Bool}
    {l : List Nat} (hgroup : group.val ≠ 4) (hpoll : s.rd (PHY_STAT.ltssm.port group) = 1)
    (hmode : s.modeFormed group mode lo ≠ 0) (hlanes : s.lanesFormed group (s.unusable group unusable) = some l) :
    exec (.linkTrained group mode lo unusable bound mld) s = .next
      (s.formLink group (s.modeFormed group mode lo) lo bound mld (s.unusable group unusable) l) := by
  show Machine.execLinkTrained group mode lo unusable bound mld s = _
  unfold Machine.execLinkTrained
  extract_lets g m bad
  have hltssm : s.ltssm g = 1 := hpoll
  rw [if_neg (by rw [hltssm]; decide), if_neg (fun h => h.elim hmode fun h => hgroup h.1),
    show s.lanesFormed g bad = some l from hlanes]

theorem modeCap_cases (g : Nat) : s.modeCap g = 1 ∨ s.modeCap g = 3 ∨ s.modeCap g = 4 := by
  unfold State.modeCap
  split
  · exact .inl rfl
  · split
    · exact .inr (.inl rfl)
    · exact .inr (.inr rfl)

theorem modeFormed_le {g : Nat} {mode : Fin 5} {lo : Bool} : s.modeFormed g mode lo ≤ 4 := by
  have hmode := mode.isLt
  unfold State.modeFormed
  extract_lets cap
  split
  · omega
  · split
    · decide
    · split <;> decide

theorem flitsShown_lt {mode : Nat} (lo : Bool) (h : mode ≤ 4) : flitsShown mode lo < 4 := by
  unfold flitsShown
  split
  · split <;> decide
  · omega

theorem clear_err_mode {g : Nat} (hg : g < 4) : clear (errFields (phyPage g)) (PORT_LINK_STAT.mode.port g) = true := by
  interval_cases g <;> rfl

theorem linkTrained_links {group : GroupNo} {mode : Fin 5} {lo : Bool} {unusable : BitVec 8} {bound : BitVec 4} {mld : Bool}
    {l : List Nat} (hgroup : group.val ≠ 4) (hpoll : s.rd (PHY_STAT.ltssm.port group) = 1)
    (hmode : s.modeFormed group mode lo ≠ 0) (hlanes : s.lanesFormed group (s.unusable group unusable) = some l)
    (hrun : s.rd (PWR_DOM_STAT.state.ix (64 + group.val)) = 0) :
    ∃ t, exec (.linkTrained group mode lo unusable bound mld) s = .next t ∧ t.rd (PHY_STAT.ltssm.port group) = 3 ∧
      t.rd (PORT_LINK_STAT.mode.port group) = (if s.modeFormed group mode lo = 4 then (if lo then 3 else 2)
        else s.modeFormed group mode lo) ∧
      t.rd (PORT_LINK_STAT.width.port group) = (if l.length = 4 then 1 else 0) ∧
      (∀ n < 8, t.rd (PHY_LANE_STAT.active.lane group n) = if n ∈ l then 1 else 0) ∧
      (∀ n < 4, t.rd (PORT_LD_CFG.bound.ld group n) =
        (if mld then (bound.getLsbD n).toNat else if n = 0 then 1 else 0)) ∧
      KeepsData s t := by
  have hexec := linkTrained_forms (bound := bound) (mld := mld) hgroup hpoll hmode hlanes
  have hlt := group.isLt
  have hg : group.val < 4 := by omega
  rw [formLink_eq hgroup] at hexec
  have hflits := flitsShown_lt lo (modeFormed_le (s := s) (g := group) (mode := mode) (lo := lo))
  obtain ⟨hup, hstate⟩ := linkFormed_portUp (s := s) (mld := mld) (bound := bound) (bad := s.unusable group unusable) (l := l) hg hflits
  have hflitsEq : flitsShown (s.modeFormed group mode lo) lo = (if s.modeFormed group mode lo = 4 then (if lo then 3 else 2)
    else s.modeFormed group mode lo) := rfl
  rw [← hflitsEq]
  generalize s.unusable group unusable = bad at *
  generalize s.modeFormed group mode lo = m at *
  generalize portUp s group m lo bound mld bad l = a at *
  have hback := linkResumed_resumeLink (s := a) (p := group) (hstate.trans hrun)
  generalize a.resumeLink group = b at *
  obtain ⟨hdata, htold⟩ := narrowTold_tells (s := b) (bad := bad) (l := l) hg
  refine ⟨_, hexec, ?_, ?_, ?_, fun n hn => ?_, fun n hn => ?_, keepsData_trans (keepsData_trans hup.data hback.data) hdata⟩
  · rw [htold _ (by rfl) (by rfl), hback.ltssm]
  · rw [htold _ (clear_err_mode hg) (by rfl), hback.writes.rd (by rfl), hup.mode]
  · rw [htold _ (by rfl) (by rfl), hback.writes.rd (by rfl), hup.width]
  · rw [htold _ (by rfl) (by rfl), hback.writes.rd (by rfl), hup.active n hn]
  · rw [htold _ (by rfl) (by rfl), hback.writes.rd (by rfl), hup.bound n hn, ldBound]
    by_cases hn0 : n = 0 <;> cases mld <;> simp [hn0]

/-! ## O41 -/

/-- Settles O41: PAM4 levels give their bits back, lanes lock, fail, lose their alignment and adapt, and a training ends with
the link that its lanes allow or with none. -/
theorem linksTrain : Obligations.LinksTrain := by
  unfold Obligations.LinksTrain
  refine ⟨fun precode prev bits hprev hlen => pamReceive_pamSend precode (bits.length / 2) prev bits hprev (by omega),
    fun precode prev levels => pamReceive_inverted precode levels prev,
    fun group lane offset eieos blocks levels s hpoll hlock hseen => ?_,
    fun group lane s => alignmentLoss_recovers, fun group lane s => laneUnlockedTimeout_failed,
    fun group at_ s => trainingRetry_ready, fun group mode lo unusable bound mld l s => linkTrained_links,
    fun group mode lo unusable bound mld s => linkTrained_noLink,
    fun group lane ctle peaking dfe s => laneAdaptStep_steps⟩
  have hfinding : lockSeen ⟨eieos, blocks, levels⟩ offset = true := by
    rw [lockSeen, Bool.or_eq_true, decide_eq_true_eq]
    exact hseen
  obtain ⟨hlocked, hbits, hothers, hregs, hframe⟩ :=
    lockedLane_locks (s := s) (g := group) (n := lane) (offset := offset) (levels := levels) hpoll
  exact ⟨_, laneLock_locks hpoll hlock hfinding, hlocked, hbits, hothers, hregs, hframe⟩

end Sys2Proof.Proofs

/-! # The commands of DOVE_CMD (R291, R293, R295, R296, R304, R305, R376) -/

namespace Sys2Proof.Proofs

open Sys2Proof Sys2Proof.Machine Sys2Proof.Laws

variable {s t u : State}

/-! ## JOIN and LEAVE (R291, R305) -/

/-- The HELLO exchange begins again. -/
def helloAgain (s : State) : State := { s with dove := { s.dove with helloSent := false, hello := none } }

/-- The HELLO exchange has begun again, and this module's HELLO has been sent. -/
def helloGiven (s : State) : State :=
  let u := (helloAgain s).sendDove (.hello (helloAgain s).ownHello)
  { u with dove := { u.dove with helloSent := true } }

theorem helloAgain_again : (helloAgain s).rd DOVE_STAT.link = s.rd DOVE_STAT.link ∧ (helloAgain s).linkSafe = s.linkSafe ∧
    (helloAgain s).unlifted = s.unlifted ∧ (helloAgain s).dove.helloSent = false ∧ (helloAgain s).dove.hello = none :=
  ⟨rfl, rfl, rfl, rfl, rfl⟩

theorem judgeHello_of_none (h : s.dove.hello = none) : s.judgeHello = s := by rw [State.judgeHello, h]

theorem linkUp_of_safe (h : s.linkSafe = true) : s.rd DOVE_STAT.link = 3 ∧ s.linkUp = true := by
  have h3 : s.rd DOVE_STAT.link = 3 := of_decide_eq_true h
  exact ⟨h3, decide_eq_true (by omega)⟩

/-- Marks of a HELLO that has been sent do not touch what the message left. -/
theorem helloSent_marks (s : State) : ({ s with dove := { s.dove with helloSent := true } } : State).dove.hello = s.dove.hello ∧
    ({ s with dove := { s.dove with helloSent := true } } : State).dove.txWait = s.dove.txWait ∧
    ({ s with dove := { s.dove with helloSent := true } } : State).out = s.out ∧
    ∀ f, ({ s with dove := { s.dove with helloSent := true } } : State).rd f = s.rd f := ⟨rfl, rfl, rfl, fun _ => rfl⟩

theorem sendHello_gives (hsafe : s.linkSafe = true) (hlift : s.unlifted = 0) : (helloAgain s).sendHello = helloGiven s := by
  obtain ⟨hlink, hsafe', hlift', hsent, hhello⟩ := helloAgain_again (s := s)
  rw [(linkUp_of_safe hsafe).1] at hlink
  have hdove := (sent_sendDove (s := helloAgain s) (.hello (helloAgain s).ownHello)).dove
  rw [State.sendHello, hlink, hsafe', hsafe, hlift', hlift, hsent, if_neg (by decide), if_pos (by rfl)]
  refine judgeHello_of_none (s := helloGiven s) ?_
  have hgiven : (helloGiven s).dove.hello = ((helloAgain s).sendDove (.hello (helloAgain s).ownHello)).dove.hello := rfl
  rw [hgiven, hdove, hhello]

theorem doveCmdJoin_gives {who : Accessor} (htakes : takes s who 0x14 = true) (hsafe : s.linkSafe = true)
    (hlift : s.unlifted = 0) : exec (.doveCmdJoin who) s = .next (helloGiven s) := by
  show Machine.execDoveCmdJoin who s = _
  rw [Machine.execDoveCmdJoin, command_takes htakes, (linkUp_of_safe hsafe).2]
  exact congrArg Host.Outcome.next (sendHello_gives hsafe hlift)

theorem doveCmdJoin_joins {who : Accessor} (htakes : takes s who 0x14 = true) (hsafe : s.linkSafe = true)
    (hlift : s.unlifted = 0) :
    ∃ t h, exec (.doveCmdJoin who) s = .next t ∧ t.dove.helloSent = true ∧ t.dove.hello = none ∧ DoveSent t (.hello h) ∧
      SameRegs s t [] ∧ t = { s with dove := t.dove, out := t.out } := by
  obtain ⟨hlink, -, -, -, hhello⟩ := helloAgain_again (s := s)
  have hup : (helloAgain s).linkUp = true := by
    rw [State.linkUp, hlink, (linkUp_of_safe hsafe).1]
    rfl
  have hsent := sent_sendDove (s := helloAgain s) (.hello (helloAgain s).ownHello)
  have hleft := doveSent_sendDove (.hello (helloAgain s).ownHello) hup
  refine ⟨helloGiven s, (helloAgain s).ownHello, doveCmdJoin_gives htakes hsafe hlift, rfl, ?_, hleft, fun f _ => hsent.rd f, ?_⟩
  · show ((helloAgain s).sendDove (.hello (helloAgain s).ownHello)).dove.hello = none
    rw [hsent.dove, hhello]
  · rw [helloGiven, hsent.frame]
    rfl

theorem doveCmdLeave_leaves {who : Accessor} (htakes : takes s who 0x14 = true) (hpair : pairUp s = true) :
    exec (.doveCmdLeave who) s = .next ((s.sendDove (.bye 1)).splitPair.wr DOVE_STAT.pair 0) := by
  have hjoined : (s.sendDove (.bye 1)).joined = true := by
    rw [State.joined, (sent_sendDove _).rd]
    exact (Bool.and_eq_true_iff.1 hpair).2
  show Machine.execDoveCmdLeave who s = _
  rw [Machine.execDoveCmdLeave, command_takes htakes]
  exact congrArg Host.Outcome.next (if_pos hjoined)

/-! ## The capacity and the level follow a range -/

/-- A range has moved: only fields of a list have changed, and the array, the keys and the system state stand. -/
structure Ranged (l : List Fld) (s t : State) : Prop where
  writes : Writes l s t
  lines : t.lines = s.lines
  crypto : t.crypto = s.crypto
  sys : t.sys = s.sys

section
variable {l m : List Fld}

theorem Ranged.refl (s : State) : Ranged l s s := ⟨.refl s, rfl, rfl, rfl⟩

theorem Ranged.trans (h : Ranged l s t) (k : Ranged l t u) : Ranged l s u :=
  ⟨h.writes.trans k.writes, k.lines.trans h.lines, k.crypto.trans h.crypto, k.sys.trans h.sys⟩

theorem Ranged.mono (h : Ranged l s t) (hlm : l ⊆ m) : Ranged m s t := { h with writes := h.writes.mono hlm }

theorem ranged_of_logged (h : Writes l s t) (k : Logged s t) : Ranged l s t := by
  obtain ⟨hlines, hcrypto, -, hsys⟩ := k.keepsData
  exact ⟨h, hlines, hcrypto, hsys⟩

theorem Ranged.wr {f : Fld} {v : Nat} (h : Ranged l s t) (hf : f ∈ l) : Ranged l s (t.wr f v) :=
  h.trans (ranged_of_logged ((Writes.refl t).wr hf) (logged_wr _ _))

/-- What leaves the registers, the array, the keys and the system state. -/
theorem Ranged.flds (h : Ranged l s t) (hu : u.flds = t.flds) (hlines : u.lines = t.lines) (hcrypto : u.crypto = t.crypto)
    (hsys : u.sys = t.sys) : Ranged l s u :=
  ⟨h.writes.flds hu, hlines.trans h.lines, hcrypto.trans h.crypto, hsys.trans h.sys⟩

theorem Ranged.dove (h : Ranged l s t) (d : DoveState) : Ranged l s { t with dove := d } := h.flds rfl rfl rfl rfl

theorem Ranged.drawn (h : Ranged l s t) : Ranged l s t.drawn := h.flds rfl rfl rfl rfl

theorem ranged_of_sent (h : Sent s t) : Ranged l s t := by
  refine ⟨⟨h.regs l⟩, ?_, ?_, ?_⟩ <;> rw [h.frame]

theorem Ranged.forAll {α : Type} {f : State → α → State} {as : List α} (h : Ranged l s t)
    (hf : ∀ u a, Ranged l s u → Ranged l s (f u a)) : Ranged l s (t.forAll as f) :=
  forAll_keeps (P := Ranged l s) hf as h

end

theorem ranged_fixLevel : Ranged levelFields s s.fixLevel := ranged_of_logged writes_fixLevel logged_fixLevel

/-- A quire's entry is Dirty. -/
def quireDirty (s : State) (q : Nat) (e : QEntry) : State :=
  { s.setQuire q e with folio := { (s.setQuire q e).folio with changed := true } }

theorem quireDirty_keeps (q : Nat) (e : QEntry) : (quireDirty s q e).flds = s.flds ∧ (quireDirty s q e).lines = s.lines ∧
    (quireDirty s q e).crypto = s.crypto ∧ (quireDirty s q e).sys = s.sys := ⟨rfl, rfl, rfl, rfl⟩

theorem gauge_keeps (g : GaugeState) : ({ s with gauge := g } : State).flds = s.flds ∧
    ({ s with gauge := g } : State).lines = s.lines ∧ ({ s with gauge := g } : State).crypto = s.crypto ∧
    ({ s with gauge := g } : State).sys = s.sys := ⟨rfl, rfl, rfl, rfl⟩

theorem ranged_markDirty (q master : Nat) : Ranged levelFields s (s.markDirty q master) := by
  unfold State.markDirty
  split
  · exact .refl s
  · extract_lets e was a _ b _ c
    obtain ⟨hflds, hlines, hcrypto, hsys⟩ := quireDirty_keeps (s := s) q
      { e with
        state := .dirty
        slot := if was then e.slot else s.committedSlot q
        redirty := e.redirty || s.checkpointReads q
        wtime := s.now }
    have hb : Ranged levelFields s b := (Ranged.refl s).flds hflds hlines hcrypto hsys
    clear_value b
    split
    · exact hb
    · obtain ⟨hflds', hlines', hcrypto', hsys'⟩ := gauge_keeps (s := b)
        { b.gauge with dirtied := if master ∈ b.gauge.dirtied then b.gauge.dirtied else b.gauge.dirtied ++ [master] }
      exact (hb.flds hflds' hlines' hcrypto' hsys').trans ranged_fixLevel

/-- The fields that the reservation of the mirror area writes. -/
def areaFields : List Fld := DOVE_STAT.area :: KERF_CAPACITY.quires :: levelFields

theorem levelFields_subset : levelFields ⊆ areaFields :=
  List.subset_cons_of_subset _ (List.subset_cons_self _ _)

theorem ranged_reserveArea : Ranged areaFields s s.reserveArea := by
  unfold State.reserveArea
  split
  · exact .refl s
  · extract_lets b d a
    have hput : Ranged areaFields s (s.put DOVE_STAT.area) := (Ranged.refl s).wr (.head _)
    have hcap : Ranged areaFields s (s.put DOVE_STAT.area).fixCapacity := by
      rw [State.fixCapacity]
      exact hput.wr (.tail _ (.head _))
    have hb : Ranged areaFields s b := hcap.drawn
    clear_value b
    have ha : Ranged areaFields s a := hb.dove _
    clear_value a
    exact ha.forAll fun u i k => k.trans ((ranged_markDirty _ _).mono levelFields_subset)

/-! ## CONFIG and UNCONFIG (R277, R296) -/

theorem doveCmdConfig_configures {who : Accessor} {range : RangeNo} (htakes : takes s who 0x14 = true)
    (hjoined : s.joined = false) (hnew : s.configured range = false)
    (hfits : s.rangeFits range (s.rangeBase range) (s.rangeEnd range) = true) :
    exec (.doveCmdConfig who range) s =
      .next ((s.put (DOVE_RANGE_STAT.primary.ix range)).setRangeState range 3).reserveArea := by
  have hset : Ranged [DOVE_RANGE_STAT.primary.ix range, DOVE_RANGE_STAT.state.ix range] s
      ((s.put (DOVE_RANGE_STAT.primary.ix range)).setRangeState range 3) :=
    ((Ranged.refl s).wr (.head _)).wr (.tail _ (.head _))
  have hapart : ((s.put (DOVE_RANGE_STAT.primary.ix range)).setRangeState range 3).reserveArea.joined = false := by
    rw [State.joined, ranged_reserveArea.writes.rd (by rfl), hset.writes.rd (by rfl)]
    exact hjoined
  show Machine.execDoveCmdConfig who range s = _
  rw [Machine.execDoveCmdConfig, command_takes htakes]
  refine congrArg Host.Outcome.next ?_
  extract_lets n a b
  rw [if_neg (by rw [show s.configured n = false from hnew, show s.rangeFits n _ _ = true from hfits]; decide)]
  exact if_neg (ne_true_of_eq_false hapart)

theorem doveCmdConfig_takes {who : Accessor} {range : RangeNo} (htakes : takes s who 0x14 = true)
    (hjoined : s.joined = false) (hnew : s.configured range = false)
    (hfits : s.rangeFits range (s.rangeBase range) (s.rangeEnd range) = true) :
    ∃ t, exec (.doveCmdConfig who range) s = .next t ∧ t.primary range = true ∧ t.rangeState range = 3 ∧
      t.lines = s.lines ∧ t.crypto = s.crypto ∧ t.sys = s.sys := by
  have hexec := doveCmdConfig_configures htakes hjoined hnew hfits
  have hset : Ranged [DOVE_RANGE_STAT.primary.ix range, DOVE_RANGE_STAT.state.ix range] s
      ((s.put (DOVE_RANGE_STAT.primary.ix range)).setRangeState range 3) :=
    ((Ranged.refl s).wr (.head _)).wr (.tail _ (.head _))
  have hprimary : ((s.put (DOVE_RANGE_STAT.primary.ix range)).setRangeState range 3).rd (DOVE_RANGE_STAT.primary.ix range) = 1 :=
    (rd_wr_apart (by rfl) 3).trans rd_put_self
  have hstate : ((s.put (DOVE_RANGE_STAT.primary.ix range)).setRangeState range 3).rd (DOVE_RANGE_STAT.state.ix range) = 3 :=
    rd_wr_lt (by decide : 3 < 2 ^ 3)
  generalize (s.put (DOVE_RANGE_STAT.primary.ix range)).setRangeState range 3 = a at *
  have harea := ranged_reserveArea (s := a)
  refine ⟨_, hexec, ?_, ?_, harea.lines.trans hset.lines, harea.crypto.trans hset.crypto, harea.sys.trans hset.sys⟩
  · rw [State.primary, State.on, harea.writes.rd (by rfl), hprimary]
    rfl
  · rw [State.rangeState, harea.writes.rd (by rfl), hstate]

/-- A range that is dropped is Unconfigured, and the array stands. -/
theorem dropRange_drops (n : Nat) : (s.dropRange n).configured n = false ∧ (s.dropRange n).lines = s.lines := by
  unfold State.dropRange
  extract_lets a _ b
  have hcleared : Ranged areaFields (s.clearMarks n) (s.clearMarks n) := .refl _
  have ha : a.rd (DOVE_RANGE_STAT.state.ix n) = 0 ∧ a.lines = s.lines :=
    ⟨(rd_wr_apart (by rfl) 0).trans (State.rd_wr_self _ _ _), rfl⟩
  clear_value a
  have hb : Ranged areaFields a b := (Ranged.refl a).dove _
  clear_value b
  have hend : ∀ t, Ranged areaFields b t → t.configured n = false ∧ t.lines = s.lines := fun t h => by
    refine ⟨?_, (h.lines.trans hb.lines).trans ha.2⟩
    rw [State.configured, h.writes.rd (by rfl), hb.writes.rd (by rfl), ha.1]
    rfl
  split
  · exact hend _ (ranged_fixLevel.mono levelFields_subset)
  · exact hend _ (Ranged.dove ((((Ranged.refl b).wr (.head _)).wr (.tail _ (.head _))).trans
      (ranged_fixLevel.mono levelFields_subset)) _)

/-- A range that this module withdraws. -/
def withdrawn (s : State) (n : Nat) : State :=
  { s with dove := { s.dove with withdrawing := s.dove.withdrawing.filter (fun m => decide (m ≠ n)) ++ [n] } }

theorem withdrawn_withdraws (n : Nat) (h : s.dove.withdrawing = []) : (withdrawn s n).dove.withdrawing = [n] ∧
    (withdrawn s n).dove.queue = s.dove.queue ∧ (withdrawn s n).lines = s.lines := by
  refine ⟨?_, rfl, rfl⟩
  show s.dove.withdrawing.filter (fun m => decide (m ≠ n)) ++ [n] = [n]
  rw [h]
  rfl

/-- A range that is withdrawn. -/
def rangeGone (s : State) (n : Nat) : State :=
  (s.sendDove (.config (Fin.ofNat 16 n) 3 0 (s.rangeBase n) (s.rangeEnd n))).dropRange n

theorem finishWithdraw_drops {n : Nat} (h : s.dove.withdrawing = [n]) (hq : s.dove.queue = []) :
    s.finishWithdraw = rangeGone s n := by
  rw [State.finishWithdraw, h, forAll_cons, hq, List.any_nil, if_neg (by decide)]
  rfl

theorem doveCmdUnconfig_drops {who : Accessor} {range : RangeNo} (htakes : takes s who 0x14 = true)
    (hconf : s.configured range = true) (hq : s.dove.queue = []) (hw : s.dove.withdrawing = []) :
    ∃ t, exec (.doveCmdUnconfig who range) s = .next t ∧ t.configured range = false ∧ t.lines = s.lines := by
  obtain ⟨hlist, hqueue, hlines⟩ := withdrawn_withdraws (s := s) range hw
  have hexec : exec (.doveCmdUnconfig who range) s = .next (withdrawn s range).finishWithdraw := by
    show Machine.execDoveCmdUnconfig who range s = _
    rw [Machine.execDoveCmdUnconfig, command_takes htakes, hconf]
    rfl
  rw [finishWithdraw_drops hlist (hqueue.trans hq), rangeGone] at hexec
  generalize withdrawn s range = a at *
  have hsent := ranged_of_sent (l := []) (sent_sendDove (s := a)
    (.config (Fin.ofNat 16 range) 3 0 (a.rangeBase range) (a.rangeEnd range)))
  obtain ⟨hdropped, hkept⟩ := dropRange_drops (s := a.sendDove
    (.config (Fin.ofNat 16 range) 3 0 (a.rangeBase range) (a.rangeEnd range))) range
  exact ⟨_, hexec, hdropped, (hkept.trans hsent.lines).trans hlines⟩

/-! ## PROMOTE, DEMOTE and ACCEPT (R293, R295, R304) -/

/-- A ROLE notice has left or waits: beside the messages nothing has changed. -/
structure RoleNoted (s t : State) : Prop where
  frame : t = { s with dove := t.dove, out := t.out }
  dove : t.dove = { s.dove with
    txWait := t.dove.txWait, replay := t.dove.replay, txSeq := t.dove.txSeq, txCount := t.dove.txCount
    roleDue := t.dove.roleDue }

theorem roleNoted_sendRole (n : Nat) (promoted : Bool) : RoleNoted s (s.sendRole n promoted) := by
  unfold State.sendRole
  split
  · have h := sent_sendDove (s := s) (.role (Fin.ofNat 16 n) promoted)
    refine ⟨?_, ?_⟩
    · rw [h.frame]
    · rw [h.dove]
  · exact ⟨rfl, rfl⟩

theorem RoleNoted.rd (h : RoleNoted s t) (f : Fld) : t.rd f = s.rd f := by
  rw [h.frame]
  rfl

theorem RoleNoted.now (h : RoleNoted s t) : t.now = s.now := by rw [h.frame]

theorem RoleNoted.keepsData (h : RoleNoted s t) : KeepsData s t := by
  rw [h.frame]
  exact ⟨rfl, rfl, rfl, rfl⟩

/-- The fields that the promotion of a range writes. -/
def promoteFields (n : Nat) : List Fld :=
  DOVE_RANGE_STAT.primary.ix n :: DOVE_RANGE_STAT.state.ix n :: (causeFields 0x14 ++ errFields 0x14)

/-- A range has been promoted. -/
structure Promoted (n : Nat) (s t : State) : Prop where
  writes : Writes (promoteFields n) s t
  primary : t.primary n = true
  configured : s.configured n = true → t.configured n = true
  dove : t.dove = { s.dove with
    txWait := t.dove.txWait, replay := t.dove.replay, txSeq := t.dove.txSeq, txCount := t.dove.txCount
    roleDue := t.dove.roleDue }
  data : KeepsData s t
  now : t.now = s.now

theorem logged_diverge (n : Nat) : Logged s (s.diverge n) :=
  ((logged_wr _ _).trans (logged_cause _ _)).trans (logged_err _ _ _)

/-- A range that two modules are Primary of is Diverged. -/
theorem diverge_keeps (n : Nat) : Writes (promoteFields n) s (s.diverge n) ∧
    (s.diverge n).rd (DOVE_RANGE_STAT.primary.ix n) = s.rd (DOVE_RANGE_STAT.primary.ix n) ∧
    (s.diverge n).rd (DOVE_RANGE_STAT.state.ix n) = 4 := by
  have htail : causeFields 0x14 ++ errFields 0x14 ⊆ promoteFields n :=
    List.subset_cons_of_subset _ (List.subset_cons_self _ _)
  obtain ⟨hcause, herr⟩ := List.append_subset.1 htail
  refine ⟨(((Writes.refl s).wr (.tail _ (.head _))).cause hcause).err herr, ?_, ?_⟩
  · rw [State.diverge, rd_err (by rfl), rd_cause (by rfl), State.setRangeState, rd_wr_apart (by rfl)]
  · rw [State.diverge, rd_err (by rfl), rd_cause (by rfl), State.setRangeState]
    exact rd_wr_lt (by decide : 4 < 2 ^ 3)

/-- A range becomes this module's, before the pair is told whether both claim it. -/
def claimed (s : State) (n : Nat) : State := (s.put (DOVE_RANGE_STAT.primary.ix n)).sendRole n true

theorem promoted_claimed (n : Nat) : Promoted n s (claimed s n) := by
  have hnoted := roleNoted_sendRole (s := s.put (DOVE_RANGE_STAT.primary.ix n)) n true
  have hw : Writes (promoteFields n) s (s.put (DOVE_RANGE_STAT.primary.ix n)) := (Writes.refl s).wr (.head _)
  have hput : (s.put (DOVE_RANGE_STAT.primary.ix n)).rd (DOVE_RANGE_STAT.primary.ix n) = 1 := rd_put_self
  have hstate : (s.put (DOVE_RANGE_STAT.primary.ix n)).rd (DOVE_RANGE_STAT.state.ix n) = s.rd (DOVE_RANGE_STAT.state.ix n) :=
    rd_wr_apart (by rfl) 1
  have hlogged : Logged s (s.put (DOVE_RANGE_STAT.primary.ix n)) := logged_wr _ _
  unfold claimed
  generalize s.put (DOVE_RANGE_STAT.primary.ix n) = a at *
  generalize a.sendRole n true = b at *
  refine ⟨hw.trans ⟨fun f _ => hnoted.rd f⟩, ?_, fun hc => ?_, ?_, keepsData_trans hlogged.keepsData hnoted.keepsData, ?_⟩
  · rw [State.primary, State.on, hnoted.rd, hput]
    rfl
  · rw [State.configured, hnoted.rd, hstate]
    exact hc
  · rw [hnoted.dove, dove_of_logged hlogged]
  · exact hnoted.now.trans (now_of_logged hlogged)

theorem Promoted.logged {n : Nat} (h : Promoted n s t) (hw : Writes (promoteFields n) t u) (hl : Logged t u)
    (hp : u.rd (DOVE_RANGE_STAT.primary.ix n) = t.rd (DOVE_RANGE_STAT.primary.ix n))
    (hc : t.configured n = true → u.configured n = true) : Promoted n s u := by
  refine ⟨h.writes.trans hw, ?_, fun e => hc (h.configured e), ?_, keepsData_trans h.data hl.keepsData,
    (now_of_logged hl).trans h.now⟩
  · rw [State.primary, on_of_rd hp]
    exact h.primary
  · rw [dove_of_logged hl, h.dove]

theorem promoted_promote (n : Nat) : Promoted n s (s.promote n) := by
  have hclaimed := promoted_claimed (s := s) n
  have hcause : causeFields 0x14 ⊆ promoteFields n :=
    List.subset_cons_of_subset _ (List.subset_cons_of_subset _ (List.subset_append_left _ _))
  unfold State.promote
  extract_lets a b
  have ha : Promoted n s a := hclaimed
  clear_value a
  have hb : Promoted n s b := by
    unfold b
    split
    · obtain ⟨hw, hp, hst⟩ := diverge_keeps (s := a) n
      refine ha.logged hw (logged_diverge n) hp fun _ => ?_
      rw [State.configured, hst]
      rfl
    · exact ha
  clear_value b
  refine hb.logged ((Writes.refl b).cause hcause) (logged_cause _ _) (rd_cause (by rfl) 4) fun hc => ?_
  rw [State.configured, rd_cause (by rfl)]
  exact hc

/-- Ranges of this module have been promoted: nothing of the pair but their roles has changed. -/
structure AllPromoted (s t : State) : Prop where
  kept : ∀ m < 16, s.primary m = true → t.primary m = true
  configured : ∀ m < 16, s.configured m = true → t.configured m = true
  partner : t.rd DOVE_PARTNER.replaced = s.rd DOVE_PARTNER.replaced ∧ t.rd DOVE_PARTNER.unit = s.rd DOVE_PARTNER.unit
  dove : t.dove = { s.dove with
    txWait := t.dove.txWait, replay := t.dove.replay, txSeq := t.dove.txSeq, txCount := t.dove.txCount
    roleDue := t.dove.roleDue }
  data : KeepsData s t
  now : t.now = s.now

theorem AllPromoted.refl (s : State) : AllPromoted s s :=
  ⟨fun _ _ => id, fun _ _ => id, ⟨rfl, rfl⟩, rfl, ⟨rfl, rfl, rfl, rfl⟩, rfl⟩

theorem AllPromoted.trans (h : AllPromoted s t) (k : AllPromoted t u) : AllPromoted s u := by
  refine ⟨fun m hm e => k.kept m hm (h.kept m hm e), fun m hm e => k.configured m hm (h.configured m hm e),
    ⟨k.partner.1.trans h.partner.1, k.partner.2.trans h.partner.2⟩, ?_, keepsData_trans h.data k.data, k.now.trans h.now⟩
  rw [k.dove, h.dove]

theorem clear_promoteFields {f : Fld} {m n : Nat} (hm : m ≠ n) (hf : f = DOVE_RANGE_STAT.primary ∨ f = DOVE_RANGE_STAT.state) :
    (f.ix m).key ∉ (promoteFields n).map Fld.key := by
  have htail : clear (causeFields 0x14 ++ errFields 0x14) (f.ix m) = true := by rcases hf with rfl | rfl <;> rfl
  rw [promoteFields, List.map_cons, List.map_cons, List.mem_cons, List.mem_cons]
  rintro (h | h | h)
  · rcases hf with rfl | rfl <;> exact key_ix_ne hm (by decide) (by decide) h
  · rcases hf with rfl | rfl <;> exact key_ix_ne hm (by decide) (by decide) h
  · exact key_notMem_of_clear htail h

theorem partner_promoteFields (n : Nat) : clear (promoteFields n) DOVE_PARTNER.replaced = true ∧
    clear (promoteFields n) DOVE_PARTNER.unit = true := by
  rw [promoteFields, clear_cons, clear_cons, clear_append, clear_cons, clear_cons, clear_append]
  exact ⟨⟨by rfl, by rfl, by rfl, by rfl⟩, by rfl, by rfl, by rfl, by rfl⟩

theorem allPromoted_promote (n : Nat) : AllPromoted s (s.promote n) := by
  have h := promoted_promote (s := s) n
  obtain ⟨hreplaced, hunit⟩ := partner_promoteFields n
  refine ⟨fun m _ hm => ?_, fun m _ hm => ?_, ⟨h.writes.rd hreplaced, h.writes.rd hunit⟩, h.dove, h.data, h.now⟩
  · by_cases hmn : m = n
    · rw [hmn]
      exact h.primary
    · rw [State.primary, on_of_rd (h.writes.regs _ (clear_promoteFields hmn (.inl rfl)))]
      exact hm
  · by_cases hmn : m = n
    · subst hmn
      exact h.configured hm
    · rw [State.configured, h.writes.regs _ (clear_promoteFields hmn (.inr rfl))]
      exact hm

/-- This module becomes Primary of a range of which it is Secondary. -/
def promoteOne (s : State) (n : Nat) : State := if s.configured n && !s.primary n then s.promote n else s

theorem promoteOne_primary {n : Nat} (hc : s.configured n = true) : (promoteOne s n).primary n = true := by
  unfold promoteOne
  by_cases hp : s.primary n = true
  · rw [hp, if_neg (by simp)]
    exact hp
  · rw [if_pos (by simp [hc, hp])]
    exact (promoted_promote n).primary

theorem allPromoted_promoteOne (n : Nat) : AllPromoted s (promoteOne s n) := by
  unfold promoteOne
  split
  · exact allPromoted_promote n
  · exact .refl s

theorem allPromoted_forAll (l : List Nat) : AllPromoted s (s.forAll l promoteOne) :=
  forAll_keeps (P := AllPromoted s) (fun _ n h => h.trans (allPromoted_promoteOne n)) l (.refl s)

/-- This module becomes Primary of every configured range. -/
theorem forAll_promoteOne {l : List Nat} {n : Nat} (hn : n < 16) (hl : n ∈ l) (hc : s.configured n = true) :
    (s.forAll l promoteOne).primary n = true := by
  induction l generalizing s with
  | nil => exact absurd hl List.not_mem_nil
  | cons m l ih =>
    rw [forAll_cons]
    by_cases hm : n ∈ l
    · exact ih hm ((allPromoted_promoteOne m).configured n hn hc)
    · obtain rfl : n = m := (List.mem_cons.1 hl).resolve_right hm
      exact (allPromoted_forAll l).kept n hn (promoteOne_primary hc)

theorem doveCmdPromote_promotes {who : Accessor} {range : RangeNo} (htakes : takes s who 0x14 = true)
    (hconf : s.configured range = true) (hsecond : s.primary range = false) :
    exec (.doveCmdPromote who range false) s = .next (s.promote range) := by
  show Machine.execDoveCmdPromote who range false s = _
  rw [Machine.execDoveCmdPromote, command_takes htakes, hconf, hsecond]
  rfl

/-- The queue without a range's entries. -/
def dequeued (s : State) (n : Nat) : State :=
  { s with dove := { s.dove with queue := s.dove.queue.filter fun e => !s.inRange n (quireOf e.w.loc.toNat) } }

/-- A range of which this module becomes Secondary. -/
def demoted (s : State) (n : Nat) : State := ((dequeued s n).clr (DOVE_RANGE_STAT.primary.ix n)).sendRole n false

theorem demoted_demotes (n : Nat) : (demoted s n).primary n = false ∧
    (demoted s n).dove.queue = s.dove.queue.filter (fun e => !s.inRange n (quireOf e.w.loc.toNat)) ∧
    SameRegs s (demoted s n) [DOVE_RANGE_STAT.primary.ix n] ∧ KeepsData s (demoted s n) := by
  have hnoted := roleNoted_sendRole (s := (dequeued s n).clr (DOVE_RANGE_STAT.primary.ix n)) n false
  have hw : Writes [DOVE_RANGE_STAT.primary.ix n] s ((dequeued s n).clr (DOVE_RANGE_STAT.primary.ix n)) :=
    ((Writes.refl s).flds rfl : Writes _ s (dequeued s n)).wr (.head _)
  have hclr : ((dequeued s n).clr (DOVE_RANGE_STAT.primary.ix n)).rd (DOVE_RANGE_STAT.primary.ix n) = 0 := State.rd_wr_self _ _ _
  have hqueue : ((dequeued s n).clr (DOVE_RANGE_STAT.primary.ix n)).dove.queue =
    s.dove.queue.filter (fun e => !s.inRange n (quireOf e.w.loc.toNat)) := rfl
  have hdata : KeepsData s ((dequeued s n).clr (DOVE_RANGE_STAT.primary.ix n)) := ⟨rfl, rfl, rfl, rfl⟩
  unfold demoted
  generalize (dequeued s n).clr (DOVE_RANGE_STAT.primary.ix n) = a at *
  generalize a.sendRole n false = b at *
  refine ⟨?_, ?_, fun f hf => (hnoted.rd f).trans (hw.regs f hf), keepsData_trans hdata hnoted.keepsData⟩
  · rw [State.primary, State.on, hnoted.rd, hclr]
    rfl
  · rw [hnoted.dove, hqueue]

theorem doveCmdDemote_demotes {who : Accessor} {range : RangeNo} (htakes : takes s who 0x14 = true)
    (hprimary : s.primary range = true) (hstate : s.rangeState range = 3 ∨ s.rangeState range = 4) :
    exec (.doveCmdDemote who range false) s = .next (demoted s range) := by
  show Machine.execDoveCmdDemote who range false s = _
  rw [Machine.execDoveCmdDemote, command_takes htakes]
  refine congrArg Host.Outcome.next ?_
  show s.demoteRange range = _
  rw [State.demoteRange, hprimary, if_neg (by rw [decide_eq_true hstate]; decide)]
  rfl

/-- The record of a partner that is accepted in the place of another. -/
def recordTaken (s : State) : DoveState := { s.dove with recorded := some (s.rd DOVE_PARTNER.unit), accepted := true }

/-- The partner's replacement is recorded. -/
def replacementTaken (s : State) : State := { s.clr DOVE_PARTNER.replaced with dove := recordTaken s }

theorem withDove_keeps (d : DoveState) : (∀ f, ({ s with dove := d } : State).rd f = s.rd f) ∧ ({ s with dove := d } : State).dove = d ∧
    KeepsData s { s with dove := d } := ⟨fun _ => rfl, rfl, rfl, rfl, rfl, rfl⟩

theorem replacementTaken_takes : (replacementTaken s).rd DOVE_PARTNER.replaced = 0 ∧
    (replacementTaken s).dove.accepted = true ∧ (replacementTaken s).dove.recorded = some (s.rd DOVE_PARTNER.unit) ∧
    (replacementTaken s).dove.hello = s.dove.hello ∧ (∀ n, (replacementTaken s).configured n = s.configured n) ∧
    KeepsData s (replacementTaken s) := by
  obtain ⟨hrd, hdove, hdata⟩ := withDove_keeps (s := s.clr DOVE_PARTNER.replaced) (recordTaken s)
  have hclr : (s.clr DOVE_PARTNER.replaced).rd DOVE_PARTNER.replaced = 0 := State.rd_wr_self _ _ _
  have hother : ∀ n, (s.clr DOVE_PARTNER.replaced).rd (DOVE_RANGE_STAT.state.ix n) = s.rd (DOVE_RANGE_STAT.state.ix n) :=
    fun n => by rw [State.clr_eq, rd_wr_apart (by rfl)]
  have hkept : KeepsData s (s.clr DOVE_PARTNER.replaced) := by
    rw [State.clr_eq]
    exact (logged_wr _ _).keepsData
  unfold replacementTaken
  generalize s.clr DOVE_PARTNER.replaced = a at *
  generalize ({ a with dove := recordTaken s } : State) = b at *
  refine ⟨(hrd _).trans hclr, ?_, ?_, ?_, fun n => ?_, keepsData_trans hkept hdata⟩
  · rw [hdove, recordTaken]
  · rw [hdove, recordTaken]
  · rw [hdove, recordTaken]
  · rw [State.configured, hrd, hother, State.configured]

theorem doveCmdAccept_accepts {who : Accessor} (htakes : takes s who 0x14 = true) (hvalid : s.on DOVE_PARTNER.valid = true)
    (hreplaced : s.on DOVE_PARTNER.replaced = true) :
    exec (.doveCmdAccept who) s = .next ((replacementTaken s).forAll (List.range 16) promoteOne).judgeHello := by
  show Machine.execDoveCmdAccept who s = _
  rw [Machine.execDoveCmdAccept, command_takes htakes, hvalid, hreplaced, if_neg (by decide)]
  refine congrArg Host.Outcome.next ?_
  extract_lets _ _ a b
  have ha : a = replacementTaken s := rfl
  have hb : b = a.forAll (List.range 16) promoteOne := rfl
  rw [hb, ha]

theorem doveCmdAccept_records {who : Accessor} (htakes : takes s who 0x14 = true) (hvalid : s.on DOVE_PARTNER.valid = true)
    (hreplaced : s.on DOVE_PARTNER.replaced = true) (hhello : s.dove.hello = none) :
    ∃ t, exec (.doveCmdAccept who) s = .next t ∧ t.rd DOVE_PARTNER.replaced = 0 ∧ t.dove.accepted = true ∧
      t.dove.recorded = some (s.rd DOVE_PARTNER.unit) ∧ (∀ n < 16, s.configured n = true → t.primary n = true) ∧
      KeepsData s t := by
  have hexec := doveCmdAccept_accepts htakes hvalid hreplaced
  obtain ⟨hcleared, haccepted, hrecorded, hsame, hconf, hdata⟩ := replacementTaken_takes (s := s)
  generalize replacementTaken s = a at *
  have hall := allPromoted_forAll (s := a) (List.range 16)
  have hprimary : ∀ n < 16, s.configured n = true → (a.forAll (List.range 16) promoteOne).primary n = true := fun n hn hc =>
    forAll_promoteOne hn (List.mem_range.2 hn) ((hconf n).trans hc)
  generalize a.forAll (List.range 16) promoteOne = b at *
  have hb : b.dove.hello = none := by rw [hall.dove, hsame, hhello]
  rw [judgeHello_of_none hb] at hexec
  refine ⟨b, hexec, hall.partner.1.trans hcleared, ?_, ?_, hprimary, keepsData_trans hdata hall.data⟩
  · rw [hall.dove, haccepted]
  · rw [hall.dove, hrecorded]

/-! ## The offset of the partner's clock (R376) -/

theorem ofSigned_lt_width (w : Nat) (v : Int) : ofSigned w v < 2 ^ w := by
  have hpos : (0 : Int) < 2 ^ w := by positivity
  have h := Int.emod_lt_of_pos v hpos
  have h0 := Int.emod_nonneg v (ne_of_gt hpos)
  rw [ofSigned, ← Int.ofNat_lt, Int.toNat_of_nonneg h0]
  exact_mod_cast h

theorem doveFreqOffset_shows {ppm : Int} (h : ppm.natAbs ≤ 100) :
    exec (.doveFreqOffset ppm) s = .next (s.wr (PHY_REFCLK.offset_ppm.port 4) (ofSigned 16 ppm)) := by
  show Machine.execDoveFreqOffset ppm s = _
  unfold Machine.execDoveFreqOffset
  extract_lets a
  exact if_neg fun hc => absurd hc.1 (Nat.not_lt.2 h)

/-! ## O34 -/

/-- Settles O34: each command of DOVE_CMD acts on the pair and its ranges as it says, and an offset within 100 ppm is shown. -/
theorem doveCommandsAct : Obligations.DoveCommandsAct := by
  unfold Obligations.DoveCommandsAct
  refine ⟨fun who s => doveCmdJoin_joins,
    fun who s htakes hpair => ⟨_, doveCmdLeave_leaves htakes hpair, State.rd_wr_self _ _ _⟩,
    fun who range s => doveCmdConfig_takes, fun who range s => doveCmdUnconfig_drops,
    fun who range s htakes hconf hsecond => ?_, fun who range s htakes hprimary hstate => ?_,
    fun who s => doveCmdAccept_records, fun ppm s hppm => ?_⟩
  · have h := promoted_promote (s := s) range
    exact ⟨_, doveCmdPromote_promotes htakes hconf hsecond, h.primary, h.data⟩
  · obtain ⟨hsecond, hqueue, hregs, hdata⟩ := demoted_demotes (s := s) range
    exact ⟨_, doveCmdDemote_demotes htakes hprimary hstate, hsecond, hqueue, hregs, hdata⟩
  · exact ⟨_, doveFreqOffset_shows hppm, rd_wr_lt (ofSigned_lt_width 16 ppm), ((Writes.refl s).wr (.head _)).regs, rfl⟩

end Sys2Proof.Proofs

/-! # What mailbox commands that set something set (R320, R334, R335, R342 to R349, R574) -/

namespace Sys2Proof.Proofs

open Sys2Proof Sys2Proof.Machine Sys2Proof.Laws

variable {s t u : State} {port : PortNo} {ld : LdNo}

/-! ## What is kept for each logical device (R334, R335, R340) -/

/-- A command has set what is kept for its logical device. -/
def ldAnswered (s : State) (port ld : Nat) (v : LdState) : State :=
  answered port ld (rcSuccess, [], s.setLd (masterOf port ld) v)

theorem ldAnswered_sets (port ld : Nat) (v : LdState) : (ldAnswered s port ld v).ld (masterOf port ld) = v ∧
    (∀ n, n ≠ masterOf port ld → (ldAnswered s port ld v).ld n = s.ld n) ∧ SameRegs s (ldAnswered s port ld v) [] ∧
    ldAnswered s port ld v = { s with lds := (ldAnswered s port ld v).lds, out := (ldAnswered s port ld v).out } :=
  ⟨State.ld_setLd s _ _, fun _ hn => State.ld_setLd_ne s hn _, fun _ _ => rfl, rfl⟩

/-- The records of a log of which none is left, and whose overflow has ended. -/
def logCleared (d : LdState) (n : Nat) : LdState := (d.setLog n []).setLost n 0

theorem logCleared_clears (d : LdState) (log : LogName) :
    (logCleared d (logNo log)).log (logNo log) = [] ∧ (logCleared d (logNo log)).lostOf (logNo log) = 0 := by
  cases log <;> exact ⟨rfl, rfl⟩

theorem clearEventRecords_clears (hserves : mboxServes s port ld = true) (log : LogName) (handles : List Nat) :
    exec (.clearEventRecords port ld log true handles) s =
      .next (ldAnswered s port ld (logCleared (s.ld (masterOf port ld)) (logNo log))) := by
  show Machine.execClearEventRecords port ld log true handles s = _
  exact mailbox_serves hserves _ _ _

theorem setEventInterruptPolicy_sets (hserves : mboxServes s port ld = true) (info warn fail fatal : Fin 3) :
    exec (.setEventInterruptPolicy port ld info warn fail fatal) s =
      .next (ldAnswered s port ld { s.ld (masterOf port ld) with
        polInfo := info, polWarn := warn, polFail := fail, polFatal := fatal }) := by
  show Machine.execSetEventInterruptPolicy port ld info warn fail fatal s = _
  exact mailbox_serves hserves _ _ _

theorem setAlertConfig_sets (hserves : mboxServes s port ld = true) (hadmin : s.admin port ld = true) (life temp : Nat) :
    exec (.setAlertConfig port ld life temp) s =
      .next (ldAnswered s port ld { s.ld (masterOf port ld) with alertLife := life, alertTemp := temp }) := by
  show Machine.execSetAlertConfig port ld life temp s = _
  rw [Machine.execSetAlertConfig, mailbox_serves hserves, State.mbSetAlert, adminOnly_gives hadmin]
  rfl

theorem setShutdownState_sets (hserves : mboxServes s port ld = true) (hadmin : s.admin port ld = true) (clean : Bool) :
    exec (.setShutdownState port ld clean) s = .next (answered port ld
      (rcSuccess, [], { s with folio := { s.folio with shutdownSet := some clean } })) := by
  show Machine.execSetShutdownState port ld clean s = _
  rw [Machine.execSetShutdownState, mailbox_serves hserves, State.mbSetShutdown, adminOnly_gives hadmin]

/-! ## Firmware (R353, R574) -/

/-- An image has entered slot 1. -/
theorem fwArrived_arrives (hslot : s.rd SB_FW_STAT.active_slot = 0) (version secver : Nat) (sigOk : Bool) :
    (s.fwArrived version secver sigOk).rd SB_FW_STAT.pending = 1 ∧
      (s.fwArrived version secver sigOk).sb = { s.sb with slot1 := { version := version, secver := secver, good := sigOk } } ∧
      SameRegs s (s.fwArrived version secver sigOk) [SB_FW_STAT.pending] ∧
      s.fwArrived version secver sigOk =
        { s with flds := (s.fwArrived version secver sigOk).flds, sb := (s.fwArrived version secver sigOk).sb } := by
  unfold State.fwArrived
  rw [State.fwActive, hslot]
  generalize ({ version := version, secver := secver, good := sigOk } : FwSlot) = v
  have hw : Writes [SB_FW_STAT.pending] s (s.setFwSlot 1 v) := (Writes.refl s).flds rfl
  have hsb : (s.setFwSlot 1 v).sb = { s.sb with slot1 := v } := rfl
  have hframe : s.setFwSlot 1 v = { s with sb := (s.setFwSlot 1 v).sb } := rfl
  have hsub : 1 - 0 = 1 := rfl
  rw [hsub]
  generalize s.setFwSlot 1 v = a at *
  have hput : (a.put SB_FW_STAT.pending).sb = a.sb := by rw [State.put_eq, State.wr_sb]
  refine ⟨rd_put_self, hput.trans hsb, (hw.wr (.head _)).regs, ?_⟩
  rw [hput]
  refine (frame_wr_flds SB_FW_STAT.pending 1).trans ?_
  rw [State.put_eq]
  generalize (a.wr SB_FW_STAT.pending 1).flds = flds
  rw [hframe]

/-- The state of a logical device whose transfer of firmware has ended. -/
def transferEnded (s : State) (m : Nat) : State := s.setLd m { s.ld m with fwOffset := none }

theorem transferEnded_keeps (m : Nat) : (∀ f, (transferEnded s m).rd f = s.rd f) ∧ (transferEnded s m).sb = s.sb ∧
    transferEnded s m = { s with lds := (transferEnded s m).lds } := ⟨fun _ => rfl, rfl, rfl⟩

theorem transferFw_whole (hserves : mboxServes s port ld = true) (hadmin : s.admin port ld = true)
    (hbusy : s.fwBusy (some (masterOf port ld)) = false) (offset version secver : Nat) (sigOk : Bool) :
    exec (.transferFw port ld 0 offset version secver sigOk) s = .next (answered port ld
      (rcSuccess, [], (transferEnded s (masterOf port ld)).fwArrived version secver sigOk)) := by
  show Machine.execTransferFw port ld 0 offset version secver sigOk s = _
  rw [Machine.execTransferFw, mailbox_serves hserves, State.mbTransferFw, adminOnly_gives hadmin]
  exact congrArg (fun a => Host.Outcome.next (answered port ld a)) (if_neg (ne_true_of_eq_false hbusy))

theorem transferFw_takes (hserves : mboxServes s port ld = true) (hadmin : s.admin port ld = true)
    (hbusy : s.fwBusy (some (masterOf port ld)) = false) (hslot : s.rd SB_FW_STAT.active_slot = 0)
    (offset version secver : Nat) (sigOk : Bool) :
    ∃ t, exec (.transferFw port ld 0 offset version secver sigOk) s = .next t ∧ t.rd SB_FW_STAT.pending = 1 ∧
      t.sb.slot1 = { version := version, secver := secver, good := sigOk } ∧ t.sb.slot0 = s.sb.slot0 ∧
      Answered t port ld 0 [] ∧ SameRegs s t [SB_FW_STAT.pending] ∧
      t = { s with flds := t.flds, lds := t.lds, sb := t.sb, out := t.out } := by
  have hexec := transferFw_whole hserves hadmin hbusy offset version secver sigOk
  obtain ⟨hrd, hsb, hframe⟩ := transferEnded_keeps (s := s) (masterOf port ld)
  generalize transferEnded s (masterOf port ld) = a at *
  obtain ⟨hpending, hslots, hregs, hmore⟩ := fwArrived_arrives ((hrd _).trans hslot) version secver sigOk
  generalize a.fwArrived version secver sigOk = b at *
  refine ⟨_, hexec, hpending, ?_, ?_, answered_answers .., fun f hf => (hregs f hf).trans (hrd f), ?_⟩
  · show b.sb.slot1 = _
    rw [hslots]
  · show b.sb.slot0 = _
    rw [hslots, hsb]
  · show b.emit _ = _
    rw [State.emit, hmore, hframe]
    rfl

/-- The management core is reset (R453). -/
theorem resetMgmt_resets : Writes [SB_STAT.core_ready] s s.resetMgmt ∧ s.resetMgmt.sys.mgmtDown = some s.now ∧
    s.resetMgmt.lines = s.lines ∧ s.resetMgmt.crypto = s.crypto ∧ s.resetMgmt.folio = s.folio ∧ s.resetMgmt.now = s.now ∧
    s.resetMgmt.sb = s.sb := by
  have hw : Writes [SB_STAT.core_ready] s (s.clr SB_STAT.core_ready) := (Writes.refl s).wr (.head _)
  have hl : Logged s (s.clr SB_STAT.core_ready) := logged_wr _ _
  have hsb : (s.clr SB_STAT.core_ready).sb = s.sb := by rw [State.clr_eq, State.wr_sb]
  unfold State.resetMgmt
  generalize s.clr SB_STAT.core_ready = a at *
  obtain ⟨hlines, hcrypto, hfolio, -⟩ := hl.keepsData
  have hnow := now_of_logged hl
  exact ⟨hw.flds rfl, rfl, hlines, hcrypto, hfolio, hnow, hsb⟩

/-- The fields in which the running image is reported. -/
def fwFields : List Fld := [SB_FW_STAT.secver, SB_FW_VER.version, SB_FW_STAT.min_secver]

theorem writes_fixFw : Writes fwFields s s.fixFw := (((Writes.refl s).wr (.head _)).wr (.tail _ (.head _))).wr (.tail _ (.tail _ (.head _)))

theorem logged_fixFw : Logged s s.fixFw := ((logged_wr _ _).trans (logged_wr _ _)).trans (logged_wr _ _)

theorem sys_of_logged (h : Logged s t) : t.sys = s.sys := by rw [h.frame]

/-- The slot selector stands at the other slot, and the image there is reported. -/
def imageChosen (s : State) : State := ((s.wr SB_FW_STAT.active_slot (1 - s.fwActive)).clr SB_FW_STAT.pending).fixFw

theorem imageChosen_chooses : (imageChosen s).rd SB_FW_STAT.active_slot = (1 - s.rd SB_FW_STAT.active_slot) % 2 ∧
    (imageChosen s).rd SB_FW_STAT.pending = 0 ∧ Logged s (imageChosen s) := by
  refine ⟨?_, ?_, ((logged_wr _ _).trans (logged_wr _ _)).trans logged_fixFw⟩
  · rw [imageChosen, writes_fixFw.rd (by rfl), State.clr_eq, rd_wr_apart (by rfl), State.rd_wr_self]
    rfl
  · rw [imageChosen, writes_fixFw.rd (by rfl), State.clr_eq, State.rd_wr_self]
    rfl

/-- The core starts an image, from which it may fall back. -/
def imageStarted (s : State) (old at_ : Nat) : State :=
  { (s.resetMgmt).cause 0x08 4 with sb := { s.sb with trying := some (old, at_) } }

theorem withSb_keeps (v : SidebandState) : (∀ f, ({ s with sb := v } : State).rd f = s.rd f) ∧ ({ s with sb := v } : State).sb = v ∧
    ({ s with sb := v } : State).sys = s.sys ∧ ({ s with sb := v } : State).lines = s.lines ∧
    ({ s with sb := v } : State).crypto = s.crypto ∧ ({ s with sb := v } : State).folio = s.folio :=
  ⟨fun _ => rfl, rfl, rfl, rfl, rfl, rfl⟩

theorem imageStarted_starts (old at_ : Nat) :
    (imageStarted s old at_).rd SB_FW_STAT.active_slot = s.rd SB_FW_STAT.active_slot ∧
    (imageStarted s old at_).rd SB_FW_STAT.pending = s.rd SB_FW_STAT.pending ∧
    (imageStarted s old at_).sb.trying = some (old, at_) ∧ (imageStarted s old at_).sys.mgmtDown = some s.now ∧
    (imageStarted s old at_).lines = s.lines ∧ (imageStarted s old at_).crypto = s.crypto ∧
    (imageStarted s old at_).folio = s.folio := by
  obtain ⟨hw, hdown, hlines, hcrypto, hfolio, -, -⟩ := resetMgmt_resets (s := s)
  unfold imageStarted
  generalize s.resetMgmt = a at *
  have hlogged : Logged a (a.cause 0x08 4) := logged_cause 0x08 4
  have hactive : (a.cause 0x08 4).rd SB_FW_STAT.active_slot = a.rd SB_FW_STAT.active_slot := rd_cause (by rfl) 4
  have hpending : (a.cause 0x08 4).rd SB_FW_STAT.pending = a.rd SB_FW_STAT.pending := rd_cause (by rfl) 4
  generalize a.cause 0x08 4 = b at *
  obtain ⟨hrd, hsb, hsys, hlines', hcrypto', hfolio'⟩ := withSb_keeps (s := b) { s.sb with trying := some (old, at_) }
  obtain ⟨hdata₁, hdata₂, hdata₃, hdata₄⟩ := hlogged.keepsData
  refine ⟨(hrd _).trans (hactive.trans (hw.rd (by rfl))), (hrd _).trans (hpending.trans (hw.rd (by rfl))), by rw [hsb], ?_,
    hlines'.trans (hdata₁.trans hlines), hcrypto'.trans (hdata₂.trans hcrypto), hfolio'.trans (hdata₃.trans hfolio)⟩
  rw [hsys, hdata₄, hdown]

theorem activateFw_activates (hserves : mboxServes s port ld = true) (hadmin : s.admin port ld = true) (hfits : s.fwFits = true) :
    exec (.activateFw port ld) s = .next (answered port ld
      (rcSuccess, [], imageStarted (imageChosen s) s.fwActive (imageChosen s).now)) := by
  show Machine.execActivateFw port ld s = _
  rw [Machine.execActivateFw, mailbox_serves hserves, State.mbActivateFw, adminOnly_gives hadmin, if_pos hfits]
  rfl

theorem activateFw_starts (hserves : mboxServes s port ld = true) (hadmin : s.admin port ld = true) (hfits : s.fwFits = true) :
    ∃ t, exec (.activateFw port ld) s = .next t ∧
      t.rd SB_FW_STAT.active_slot = (1 - s.rd SB_FW_STAT.active_slot) % 2 ∧ t.rd SB_FW_STAT.pending = 0 ∧
      t.sb.trying = some (s.rd SB_FW_STAT.active_slot, s.now) ∧ t.sys.mgmtDown = some s.now ∧
      t.lines = s.lines ∧ t.crypto = s.crypto ∧ t.folio = s.folio := by
  have hexec := activateFw_activates hserves hadmin hfits
  obtain ⟨hactive, hpending, hlogged⟩ := imageChosen_chooses (s := s)
  generalize imageChosen s = a at *
  have hnow : a.now = s.now := now_of_logged hlogged
  obtain ⟨hlines, hcrypto, hfolio, -⟩ := hlogged.keepsData
  have hstarts := imageStarted_starts (s := a) s.fwActive a.now
  generalize imageStarted a s.fwActive a.now = b at *
  obtain ⟨hactive', hpending', htrying, hdown, hlines', hcrypto', hfolio'⟩ := hstarts
  rw [hnow] at htrying hdown
  exact ⟨_, hexec, hactive'.trans hactive, hpending'.trans hpending, htrying, hdown, hlines'.trans hlines,
    hcrypto'.trans hcrypto, hfolio'.trans hfolio⟩

/-- An activation ends with the other slot, which the boot ROM starts. -/
def fellBack (s : State) (old : Nat) : State :=
  ((((({ s with sb := { s.sb with trying := none } } : State).wr SB_FW_STAT.active_slot old).fixFw.put
    SB_FW_STAT.fallback).cause 0x08 5).err 0x08 0x1504 0)

theorem fellBack_falls (old : Nat) : (fellBack s old).rd SB_FW_STAT.active_slot = old % 2 ∧
    (fellBack s old).rd SB_FW_STAT.fallback = 1 ∧ (fellBack s old).sb.trying = none ∧ (fellBack s old).now = s.now ∧
    KeepsData s (fellBack s old) := by
  have hend : KeepsData s { s with sb := { s.sb with trying := none } } := ⟨rfl, rfl, rfl, rfl⟩
  have hnow : ({ s with sb := { s.sb with trying := none } } : State).now = s.now := rfl
  have hnone : ({ s with sb := { s.sb with trying := none } } : State).sb.trying = none := rfl
  unfold fellBack
  generalize ({ s with sb := { s.sb with trying := none } } : State) = a at *
  have hlogged : Logged a ((((a.wr SB_FW_STAT.active_slot old).fixFw.put SB_FW_STAT.fallback).cause 0x08 5).err 0x08 0x1504 0) :=
    ((((logged_wr _ _).trans logged_fixFw).trans (logged_wr _ _)).trans (logged_cause _ _)).trans (logged_err _ _ _)
  refine ⟨?_, ?_, ?_, (now_of_logged hlogged).trans hnow, keepsData_trans hend hlogged.keepsData⟩
  · rw [rd_err (by rfl), rd_cause (by rfl), State.put_eq, rd_wr_apart (by rfl), writes_fixFw.rd (by rfl), State.rd_wr_self]
    rfl
  · rw [rd_err (by rfl), rd_cause (by rfl), rd_put_self]
  · rw [hlogged.frame, hnone]

theorem fwFallback_falls {old at_ : Nat} (h : s.sb.trying = some (old, at_)) :
    exec .fwFallback s = .next (fellBack (s.advanceTo (at_ + 100 * psMs)) old).resetMgmt := by
  show Machine.execFwFallback s = _
  rw [Machine.execFwFallback, h]
  rfl

theorem fwFallback_restarts {old at_ : Nat} (h : s.sb.trying = some (old, at_)) :
    ∃ t, exec .fwFallback s = .next t ∧ t.rd SB_FW_STAT.active_slot = old % 2 ∧ t.rd SB_FW_STAT.fallback = 1 ∧
      t.now = max s.now (at_ + 100000000000) ∧ t.sb.trying = none ∧ t.sys.mgmtDown = some t.now ∧
      t.lines = s.lines ∧ t.crypto = s.crypto ∧ t.folio = s.folio := by
  have hexec := fwFallback_falls h
  have hms : 100 * psMs = 100000000000 := by decide
  rw [hms] at hexec
  have hnow := now_advanceTo (s := s) (at_ + 100000000000)
  have hdata := keepsData_advanceTo (s := s) (at_ + 100000000000)
  generalize s.advanceTo (at_ + 100000000000) = a at *
  obtain ⟨hactive, hfallback, htrying, hsame, hdata'⟩ := fellBack_falls (s := a) old
  generalize fellBack a old = b at *
  obtain ⟨hw, hdown, hlines, hcrypto, hfolio, hnow', hsb⟩ := resetMgmt_resets (s := b)
  obtain ⟨hlines₂, hcrypto₂, hfolio₂, -⟩ := keepsData_trans hdata hdata'
  generalize b.resetMgmt = d at *
  refine ⟨d, hexec, (hw.rd (by rfl)).trans hactive, (hw.rd (by rfl)).trans hfallback, hnow'.trans (hsame.trans hnow), ?_,
    ?_, hlines.trans hlines₂, hcrypto.trans hcrypto₂, hfolio.trans hfolio₂⟩
  · rw [hsb, htrying]
  · rw [hdown, hnow']

/-! ## The Time Base (R232, R347, R435) -/

/-- The Time Base has been given a value. -/
def tbGiven (s : State) (ns : Nat) : State := { s with clk := { s.clk with tbPs := ns * psNs, skewPs := 0 } }

/-- The Time Base has been set, and told so. -/
def tbSet (s : State) (ns was : Nat) : State :=
  if ns < was then ((((((s.put TB_STAT.valid).bump TB_SETS.count).cause 0x01 2).put TB_STAT.stepped_back).cause 0x01 3).err
    0x01 0x0F03 was)
  else ((s.put TB_STAT.valid).bump TB_SETS.count).cause 0x01 2

theorem setTb_eq (ns : Nat) : s.setTb ns = (tbSet (tbGiven s ns) ns s.tb).endWindow true := rfl

theorem tbSet_sets (ns was : Nat) : (tbSet s ns was).rd TB_STAT.valid = 1 ∧ CountedUp s (tbSet s ns was) TB_SETS.count ∧
    Logged s (tbSet s ns was) := by
  have hvalid : (((s.put TB_STAT.valid).bump TB_SETS.count).cause 0x01 2).rd TB_STAT.valid = 1 := by
    rw [rd_cause (by rfl), State.bump_eq, rd_wr_apart (by rfl), rd_put_self]
  have hcount : CountedUp s (((s.put TB_STAT.valid).bump TB_SETS.count).cause 0x01 2) TB_SETS.count := by
    rw [CountedUp, rd_cause (by rfl), rd_bump, State.put_eq, rd_wr_apart (by rfl)]
  have hlogged : Logged s (((s.put TB_STAT.valid).bump TB_SETS.count).cause 0x01 2) :=
    (((Logged.refl s).put _).bump _).cause _ _
  unfold tbSet
  generalize ((s.put TB_STAT.valid).bump TB_SETS.count).cause 0x01 2 = a at *
  split
  · refine ⟨?_, ?_, hlogged.trans (((logged_wr _ _).trans (logged_cause _ _)).trans (logged_err _ _ _))⟩
    · rw [rd_err (by rfl), rd_cause (by rfl), State.put_eq, rd_wr_apart (by rfl), hvalid]
    · rw [CountedUp, rd_err (by rfl), rd_cause (by rfl), State.put_eq, rd_wr_apart (by rfl), hcount]
  · exact ⟨hvalid, hcount, hlogged⟩

theorem tbGiven_keeps (ns : Nat) : (∀ f, (tbGiven s ns).rd f = s.rd f) ∧ (tbGiven s ns).clk.tbPs = ns * 1000 ∧
    (tbGiven s ns).now = s.now ∧ KeepsData s (tbGiven s ns) := ⟨fun _ => rfl, rfl, rfl, rfl, rfl, rfl, rfl⟩

theorem setTb_sets (ns : Nat) : (s.setTb ns).tbValid = true ∧ (s.setTb ns).clk.tbPs = ns * 1000 ∧
    CountedUp s (s.setTb ns) TB_SETS.count ∧ (s.setTb ns).rd GAUGE_STAT.short = 1 ∧ (s.setTb ns).gauge.windowAt = s.now ∧
    (s.setTb ns).gauge.used = [] ∧ KeepsData s (s.setTb ns) := by
  rw [setTb_eq]
  obtain ⟨hrd, htb, hnow, hdata⟩ := tbGiven_keeps (s := s) ns
  generalize s.tb = was
  generalize tbGiven s ns = a at *
  obtain ⟨hvalid, hcount, hlogged⟩ := tbSet_sets (s := a) ns was
  generalize tbSet a ns was = b at *
  have hend := windowEnded_endWindow (s := b) true
  have hcounts := tbCounted_endWindow (s := b) true
  generalize b.endWindow true = d at *
  refine ⟨?_, ?_, ?_, hend.short, ?_, hend.used, keepsData_trans hdata (keepsData_trans hlogged.keepsData hend.gauged.keepsData)⟩
  · rw [State.tbValid, State.on, hend.places.rd (by rfl), hvalid]
    rfl
  · rw [hend.gauged.clk, clk_of_logged hlogged, htb]
  · rw [CountedUp, hcounts.sets, hcount, hrd]
  · rw [hend.windowAt, now_of_logged hlogged, hnow]

theorem setTimestamp_sets (hserves : mboxServes s port ld = true)
    (hmay : s.tbValid = false ∨ s.on (PORT_LD_CFG.ts_master.ld port ld) = true) (ns : BitVec 64) :
    exec (.setTimestamp port ld ns) s = .next (answered port ld (rcSuccess, [], s.setTb ns.toNat)) := by
  show Machine.execSetTimestamp port ld ns s = _
  rw [Machine.execSetTimestamp, mailbox_serves hserves, State.mbSetTime,
    if_pos (by rcases hmay with h | h <;> simp [h])]

theorem setTimestamp_ignored (hserves : mboxServes s port ld = true) (hvalid : s.tbValid = true)
    (hmaster : s.on (PORT_LD_CFG.ts_master.ld port ld) = false) (ns : BitVec 64) :
    exec (.setTimestamp port ld ns) s = .next (answered port ld (rcSuccess, [], s.bump (PORT_TS_IGNORED.count.port port))) := by
  show Machine.execSetTimestamp port ld ns s = _
  rw [Machine.execSetTimestamp, mailbox_serves hserves, State.mbSetTime, if_neg (by simp [hvalid, hmaster])]

end Sys2Proof.Proofs

/-! # Maintenance, erase and the operations in the background (R333, R339, R342 to R344, R349) -/

namespace Sys2Proof.Proofs

open Sys2Proof Sys2Proof.Machine Sys2Proof.Laws

variable {s t u : State} {port : PortNo} {ld : LdNo}

/-! ## Maintenance (R344) -/

theorem askedRepair_asks (dpa : Nat) : (askedRepair s dpa).rd64 TIPIN_REQ_LO.dpa TIPIN_REQ_HI.dpa = dpa % 2 ^ 37 ∧
    Writes [TIPIN_REQ_LO.dpa, TIPIN_REQ_HI.dpa] s (askedRepair s dpa) ∧
    askedRepair s dpa = { s with flds := (askedRepair s dpa).flds } := by
  refine ⟨?_, ((Writes.refl s).wr (.head _)).wr (.tail _ (.head _)), rfl⟩
  have hlo : (askedRepair s dpa).rd TIPIN_REQ_LO.dpa = dpa % 2 ^ 37 % 2 ^ 32 :=
    (rd_wr_apart (by rfl) _).trans (State.rd_wr_self _ _ _)
  have hhi : (askedRepair s dpa).rd TIPIN_REQ_HI.dpa = dpa % 2 ^ 37 / 2 ^ 32 % 2 ^ 5 := State.rd_wr_self _ _ _
  rw [State.rd64, hlo, hhi]
  omega

/-- The code of an answer to PERFORM_MAINTENANCE. -/
def maintainCode (refusal : Option Nat) : Nat :=
  match refusal with
  | none => rcBackground
  | some 3 => rcBusy
  | some _ => rcInvalid

theorem maintainCode_some (reason : Nat) : maintainCode (some reason) = if reason = 3 then 6 else 2 := by
  by_cases h : reason = 3
  · subst h
    rfl
  · rw [if_neg h]
    unfold maintainCode
    split
    · next h' => cases h'
    · next h' => exact absurd (Option.some.inj h') h
    · rfl

/-- What a command of maintenance leaves once it has named its row. -/
def maintained (s : State) (p l : Nat) : State :=
  if maintainCode s.repairRefusal = rcBackground then s.requestRepair.bgStart 4 p l 0 0 else s.requestRepair

theorem performMaintenance_asks (hserves : mboxServes s port ld = true) (hadmin : s.admin port ld = true) {cls : Fin 4}
    (hcls : cls.val ≠ 3) (dpa : BitVec 44) :
    exec (.performMaintenance port ld cls dpa) s = .next (answered port ld
      (maintainCode (askedRepair s dpa.toNat).repairRefusal, [], maintained (askedRepair s dpa.toNat) port ld)) := by
  show Machine.execPerformMaintenance port ld cls dpa s = _
  rw [Machine.execPerformMaintenance, mailbox_serves hserves, State.mbMaintain, adminOnly_gives hadmin]
  exact congrArg (fun a => Host.Outcome.next (answered port ld a)) (if_neg hcls)

theorem request_taken (h : s.repairRefusal = none) : s.requestRepair.repair.request = some s.requestRow := by
  rw [State.requestRepair, h]

theorem bgStart_starts (kind p l first lines : Nat) :
    (s.bgStart kind p l first lines).mbox.ops = s.mbox.ops ++ [{ kind := kind, port := p, ld := l, first := first, lines := lines }] ∧
    s.bgStart kind p l first lines = { s with mbox := (s.bgStart kind p l first lines).mbox } := ⟨rfl, rfl⟩

theorem performMaintenance_begins (hserves : mboxServes s port ld = true) (hadmin : s.admin port ld = true) {cls : Fin 4}
    (hcls : cls.val ≠ 3) {dpa : BitVec 44} (hnone : (askedRepair s dpa.toNat).repairRefusal = none) :
    ∃ t, exec (.performMaintenance port ld cls dpa) s = .next t ∧ Answered t port ld 1 [] ∧
      t.rd64 TIPIN_REQ_LO.dpa TIPIN_REQ_HI.dpa = dpa.toNat % 2 ^ 37 ∧ t.rd TIPIN_REQ_STAT.busy = 1 ∧
      t.repair.request = some (askedRepair s dpa.toNat).requestRow ∧
      (askedRepair s dpa.toNat).requestRow ∈ t.repair.due ∧
      t.mbox.ops = s.mbox.ops ++ [{ kind := 4, port := port, ld := ld, first := 0, lines := 0 }] ∧
      SameRegs s t [TIPIN_REQ_LO.dpa, TIPIN_REQ_HI.dpa, TIPIN_REQ_STAT.busy] ∧
      t = { s with flds := t.flds, repair := t.repair, mbox := t.mbox, out := t.out } := by
  have hexec := performMaintenance_asks hserves hadmin hcls dpa
  obtain ⟨haddr, hasked, hframe⟩ := askedRepair_asks (s := s) dpa.toNat
  generalize askedRepair s dpa.toNat = a at *
  obtain ⟨hbusy, hdue, hregs, hframe'⟩ := requestRepair_taken hnone
  have hw : Writes [TIPIN_REQ_STAT.busy] a a.requestRepair := ⟨hregs⟩
  have hrequest := request_taken hnone
  rw [maintained, hnone, if_pos (by rfl)] at hexec
  generalize a.requestRepair = b at *
  have hlo : b.rd64 TIPIN_REQ_LO.dpa TIPIN_REQ_HI.dpa = dpa.toNat % 2 ^ 37 := by
    rw [State.rd64, hw.rd (by rfl), hw.rd (by rfl)]
    exact haddr
  have hall : Writes [TIPIN_REQ_LO.dpa, TIPIN_REQ_HI.dpa, TIPIN_REQ_STAT.busy] s b :=
    (hasked.mono (by simp)).trans (hw.mono (by simp))
  have hmbox : b.mbox = s.mbox := by rw [hframe', hframe]
  obtain ⟨hops, hframe''⟩ := bgStart_starts (s := b) 4 port ld 0 0
  have hregs : ∀ f, (b.bgStart 4 port ld 0 0).rd f = b.rd f := fun _ => rfl
  refine ⟨_, hexec, answered_answers .., hlo, hbusy, hrequest, hdue, ?_, fun f hf => (hregs f).trans (hall.regs f hf), ?_⟩
  · show (b.bgStart 4 port ld 0 0).mbox.ops = _
    rw [hops, hmbox]
  · show (b.bgStart 4 port ld 0 0).emit _ = _
    rw [State.emit, hframe'', hframe', hframe]
    rfl

theorem performMaintenance_refused (hserves : mboxServes s port ld = true) (hadmin : s.admin port ld = true) {cls : Fin 4}
    (hcls : cls.val ≠ 3) {dpa : BitVec 44} {reason : Nat} (hsome : (askedRepair s dpa.toNat).repairRefusal = some reason) :
    ∃ t, exec (.performMaintenance port ld cls dpa) s = .next t ∧ Answered t port ld (if reason = 3 then 6 else 2) [] ∧
      t.rd64 TIPIN_REQ_LO.dpa TIPIN_REQ_HI.dpa = dpa.toNat % 2 ^ 37 ∧ t.rd TIPIN_REQ_STAT.refused = 1 ∧
      t.rd TIPIN_REQ_STAT.reason = reason ∧
      SameRegs s t [TIPIN_REQ_LO.dpa, TIPIN_REQ_HI.dpa, TIPIN_REQ_STAT.refused, TIPIN_REQ_STAT.reason] ∧
      t = { s with flds := t.flds, out := t.out } := by
  have hexec := performMaintenance_asks hserves hadmin hcls dpa
  obtain ⟨haddr, hasked, hframe⟩ := askedRepair_asks (s := s) dpa.toNat
  generalize askedRepair s dpa.toNat = a at *
  have hcode : ¬ maintainCode (some reason) = rcBackground := by
    rw [maintainCode_some]
    split <;> decide
  rw [maintained, hsome, if_neg hcode, maintainCode_some] at hexec
  obtain ⟨hrefused, hreason, hregs, hframe'⟩ := requestRepair_refused hsome
  have hw : Writes [TIPIN_REQ_STAT.refused, TIPIN_REQ_STAT.reason] a a.requestRepair := ⟨hregs⟩
  generalize a.requestRepair = b at *
  have hlo : b.rd64 TIPIN_REQ_LO.dpa TIPIN_REQ_HI.dpa = dpa.toNat % 2 ^ 37 := by
    rw [State.rd64, hw.rd (by rfl), hw.rd (by rfl)]
    exact haddr
  refine ⟨_, hexec, answered_answers .., hlo, hrefused, hreason, ((hasked.mono (by simp)).trans (hw.mono (by simp))).regs, ?_⟩
  show b.emit _ = _
  rw [State.emit, hframe', hframe]
  rfl

/-! ## Scans (R339) -/

theorem scanMedia_begins (hserves : mboxServes s port ld = true) {dpa : BitVec 44} {len : Nat}
    (howns : s.owns port ld dpa.toNat len = true) (hidle : s.bgBusy 2 = false) :
    exec (.scanMedia port ld dpa len) s =
      .next ((s.bgStart 2 port ld (locOf dpa.toNat / 64) (len / 64)).emit (.mailbox port ld 1 [])) := by
  show Machine.execScanMedia port ld dpa len s = _
  rw [Machine.execScanMedia, mailbox_serves hserves, State.mbScan, ownOnly_gives howns]
  exact congrArg (fun a => Host.Outcome.next (answered port ld a)) (if_neg (ne_true_of_eq_false hidle))

/-- The results of a scan have been taken. -/
def scanTaken (s : State) : State := { s with mbox := { s.mbox with scan := [] } }

theorem getScanMediaResults_gives (hserves : mboxServes s port ld = true) (hfits : s.mbox.scan.length ≤ 254) :
    exec (.getScanMediaResults port ld) s =
      .next (answered port ld (rcSuccess, [0, s.mbox.scan.length] ++ s.mbox.scan, scanTaken s)) := by
  show Machine.execGetScanMediaResults port ld s = _
  rw [Machine.execGetScanMediaResults, mailbox_serves hserves]
  refine congrArg (fun a => Host.Outcome.next (answered port ld a)) ?_
  have htake : s.mbox.scan.take scanPerPayload = s.mbox.scan := List.take_of_length_le hfits
  have hdrop : s.mbox.scan.drop scanPerPayload = [] := List.drop_of_length_le hfits
  simp only [State.mbScanResults, htake, hdrop, if_pos]
  rfl

/-! ## Erase (R130, R218, R342, R343) -/

/-- The key tables and their records are empty. -/
def keysErased (s : State) : State :=
  { s with crypto := { s.crypto with
    keys := [], rights := [], ranges := [], tags := [], recKeys := [], recRights := [], recRanges := [] } }

/-- A new Folio key has been recorded, and a void Colophon. -/
def folioErased (s : State) : State :=
  if s.persistFused then
    (({ s.drawn with folio := { s.folio with key := some s.free } } : State).appendSys recFolioKey).commitVoid
  else s

theorem cryptoErase_eq : s.cryptoErase =
    (folioErased ((keysErased s).cause 0x19 3)).startKerf 0 [(0, (folioErased ((keysErased s).cause 0x19 3)).fullQuires)] 0 := rfl

/-- A new Colophon leaves the keys, the Folio key and the state of the device. -/
structure Voided (s t : State) : Prop where
  crypto : t.crypto = s.crypto
  sys : t.sys = s.sys
  mbox : t.mbox = s.mbox
  key : t.folio.key = s.folio.key

theorem Voided.refl (s : State) : Voided s s := ⟨rfl, rfl, rfl, rfl⟩

theorem Voided.trans (h : Voided s t) (k : Voided t u) : Voided s u :=
  ⟨k.crypto.trans h.crypto, k.sys.trans h.sys, k.mbox.trans h.mbox, k.key.trans h.key⟩

theorem voided_wr (f : Fld) (v : Nat) : Voided s (s.wr f v) := ⟨rfl, rfl, rfl, rfl⟩

theorem voided_wr64 (f g : Fld) (v : Nat) : Voided s (s.wr64 f g v) := (voided_wr _ _).trans (voided_wr _ _)

/-- What changes the Folio, the draws and nothing else of it, keeping its key. -/
theorem voided_folio (free : Nat) {f : Folio} (hf : f.key = s.folio.key) : Voided s { s with free := free, folio := f } :=
  ⟨rfl, rfl, rfl, hf⟩

theorem voided_appendSys (kind : Nat) : Voided s (s.appendSys kind) := ⟨rfl, rfl, rfl, rfl⟩

theorem Voided.ite {c : Prop} [Decidable c] {a b : State} (ha : Voided s a) (hb : Voided s b) : Voided s (if c then a else b) := by
  split
  · exact ha
  · exact hb

theorem voided_reserveBsns : Voided s s.reserveBsns := by
  unfold State.reserveBsns
  extract_lets t₁ _ t₂
  have h₁ : Voided s t₁ := voided_appendSys recReserve
  have h₂ : Voided s t₂ := h₁.trans (voided_folio t₁.free rfl)
  clear_value t₂
  exact h₂.trans (voided_wr64 _ _ _)

theorem voided_takeBsn (bind : Bool) : Voided s (s.takeBsn bind).2 := by
  unfold State.takeBsn
  extract_lets b t₁ _ t₂
  have h₁ : Voided s t₁ := voided_appendSys recMarker
  have h₂ : Voided s t₂ := h₁.trans (voided_folio t₁.free rfl)
  exact .ite (h₂.trans voided_reserveBsns) h₂

theorem voided_putColophon (i : Image) (p0 p1 : Bool) : Voided s (s.putColophon i p0 p1) := by
  unfold State.putColophon
  extract_lets _ t₁
  have h₁ : Voided s t₁ := voided_folio _ rfl
  clear_value t₁
  have h₂ : Voided s (t₁.wr64 FOLIO_BSN_LO.bsn FOLIO_BSN_HI.bsn i.bsn) := h₁.trans (voided_wr64 _ _ _)
  rw [wrb_eq]
  exact h₂.trans (voided_wr _ _)

theorem voided_lastCommit (i : Image) (us : Nat) : Voided s (s.lastCommit i us) :=
  ((voided_wr _ _).trans (voided_wr _ _)).trans (voided_wr _ _)

theorem voided_drawn : Voided s s.drawn := ⟨rfl, rfl, rfl, rfl⟩

theorem voided_commitVoid : Voided s s.commitVoid := by
  unfold State.commitVoid
  extract_lets b t₁ i
  have h₁ : Voided s t₁ := voided_takeBsn false
  clear_value t₁
  exact (h₁.trans (voided_putColophon i true true)).trans ((voided_lastCommit _ _).trans voided_drawn)

theorem folioErased_erases : (folioErased s).crypto = s.crypto ∧ (folioErased s).sys = s.sys ∧
    (folioErased s).mbox = s.mbox ∧ (s.persistFused = true → (folioErased s).folio.key = some s.free) := by
  unfold folioErased
  split
  · have hkey : ({ s.drawn with folio := { s.folio with key := some s.free } } : State).crypto = s.crypto ∧
        ({ s.drawn with folio := { s.folio with key := some s.free } } : State).sys = s.sys ∧
        ({ s.drawn with folio := { s.folio with key := some s.free } } : State).mbox = s.mbox ∧
        ({ s.drawn with folio := { s.folio with key := some s.free } } : State).folio.key = some s.free := ⟨rfl, rfl, rfl, rfl⟩
    generalize ({ s.drawn with folio := { s.folio with key := some s.free } } : State) = a at *
    obtain ⟨hcrypto, hsys, hmbox, hkey⟩ := hkey
    have h := (voided_appendSys (s := a) recFolioKey).trans voided_commitVoid
    exact ⟨h.crypto.trans hcrypto, h.sys.trans hsys, h.mbox.trans hmbox, fun _ => h.key.trans hkey⟩
  · next h => exact ⟨rfl, rfl, rfl, fun hf => absurd hf h⟩

/-- The device has been erased: no key is left, and a Clear runs over every quire. -/
structure Erased (s t : State) : Prop where
  crypto : t.crypto = (keysErased s).crypto
  state : t.rd (KERF_STAT.state.ix 0) = 2
  todo : (t.eng 0).todo = [(0, s.fullQuires)]
  key : s.persistFused = true → t.folio.key = some s.free

theorem startKerf_starts (k : Nat) (sel : Spans) (purpose : Nat) :
    (s.startKerf k sel purpose).rd (KERF_STAT.state.ix k) = 2 ∧ ((s.startKerf k sel purpose).eng k).todo = sel := by
  unfold State.startKerf
  extract_lets first _ t₁
  have htodo : (t₁.eng k).todo = sel := by
    unfold t₁
    rw [State.eng_setEng]
  clear_value t₁
  exact ⟨(rd_wr_apart (by rfl) 0).trans (rd_wr_lt (by decide : 2 < 2 ^ 3)), htodo⟩

theorem keysErased_keeps : (keysErased s).sys = s.sys ∧ (keysErased s).free = s.free := ⟨rfl, rfl⟩

theorem cryptoErase_erases : Erased s s.cryptoErase := by
  rw [cryptoErase_eq]
  obtain ⟨hsys, hfree⟩ := keysErased_keeps (s := s)
  have hlogged : Logged (keysErased s) ((keysErased s).cause 0x19 3) := logged_cause _ _
  generalize (keysErased s).cause 0x19 3 = a at *
  have hsys' : a.sys = s.sys := (sys_of_logged hlogged).trans hsys
  have hfree' : a.free = s.free := by rw [hlogged.frame, hfree]
  obtain ⟨hcrypto, hsame, -, hkey⟩ := folioErased_erases (s := a)
  generalize folioErased a = b at *
  have hfull : b.fullQuires = s.fullQuires := by rw [State.fullQuires, State.fullQuires, hsame, hsys']
  have hframe := startKerf_frame (s := b) 0 [(0, b.fullQuires)] 0
  obtain ⟨hstate, htodo⟩ := startKerf_starts (s := b) 0 [(0, b.fullQuires)] 0
  generalize b.startKerf 0 [(0, b.fullQuires)] 0 = d at *
  refine ⟨?_, hstate, by rw [htodo, hfull], fun hfused => ?_⟩
  · rw [hframe, hcrypto, crypto_of_logged hlogged]
  · have hfused' : a.persistFused = true := by rw [State.persistFused, hsys']; exact hfused
    rw [hframe, hkey hfused', hfree']

/-- An erase in the background has begun. -/
def sanitizing (s : State) (p l : Nat) : State :=
  { s.bgStart 0 p l 0 0 with mbox := { (s.bgStart 0 p l 0 0).mbox with sanitizing := true } }

theorem sanitizing_keeps (p l : Nat) : (sanitizing s p l).crypto = s.crypto ∧ (∀ f, (sanitizing s p l).rd f = s.rd f) ∧
    (sanitizing s p l).eng 0 = s.eng 0 ∧ (sanitizing s p l).folio = s.folio ∧ (sanitizing s p l).mbox.sanitizing = true :=
  ⟨rfl, fun _ => rfl, rfl, rfl, rfl⟩

theorem sanitize_erases (hserves : mboxServes s port ld = true) (hadmin : s.admin port ld = true) (hmay : s.eraseRefusal = none) :
    exec (.sanitize port ld) s = .next (answered port ld (rcBackground, [], sanitizing s.cryptoErase port ld)) := by
  show Machine.execSanitize port ld s = _
  rw [Machine.execSanitize, mailbox_serves hserves, State.mbSanitize, adminOnly_gives hadmin, hmay]
  rfl

theorem secureErase_erases (hserves : mboxServes s port ld = true) (hadmin : s.admin port ld = true) (hmay : s.eraseRefusal = none) :
    exec (.secureErase port ld) s = .next (answered port ld (rcSuccess, [], s.cryptoErase)) := by
  show Machine.execSecureErase port ld s = _
  rw [Machine.execSecureErase, mailbox_serves hserves, State.mbSecureErase, adminOnly_gives hadmin, hmay]

theorem answered_keeps (u : State) (p l code : Nat) (payload : List Nat) :
    (answered p l (code, payload, u)).crypto = u.crypto ∧ (answered p l (code, payload, u)).mbox = u.mbox ∧
    (answered p l (code, payload, u)).eng 0 = u.eng 0 ∧ (answered p l (code, payload, u)).folio = u.folio :=
  ⟨rfl, rfl, rfl, rfl⟩

theorem erases (hserves : mboxServes s port ld = true) (hadmin : s.admin port ld = true) (hmay : s.eraseRefusal = none) :
    ∃ t u, exec (.sanitize port ld) s = .next t ∧ exec (.secureErase port ld) s = .next u ∧
      t.crypto.keys = [] ∧ t.crypto.rights = [] ∧ t.crypto.ranges = [] ∧ u.crypto = t.crypto ∧
      t.mbox.sanitizing = true ∧ t.rd (KERF_STAT.state.ix 0) = 2 ∧ u.rd (KERF_STAT.state.ix 0) = 2 ∧
      (t.eng 0).todo = [(0, s.fullQuires)] ∧ (s.persistFused = true → t.folio.key = some s.free) ∧
      Answered t port ld 1 [] ∧ Answered u port ld 0 [] := by
  have hsan := sanitize_erases hserves hadmin hmay
  have hsec := secureErase_erases hserves hadmin hmay
  have herased := cryptoErase_erases (s := s)
  generalize s.cryptoErase = a at *
  obtain ⟨hcrypto, hrd, heng, hfolio, hbusy⟩ := sanitizing_keeps (s := a) port ld
  generalize sanitizing a port ld = b at *
  obtain ⟨hcrypto', hmbox', heng', hfolio'⟩ := answered_keeps b port ld rcBackground []
  have hall : (answered port ld (rcBackground, [], b)).crypto = (keysErased s).crypto :=
    hcrypto'.trans (hcrypto.trans herased.crypto)
  refine ⟨_, _, hsan, hsec, ?_, ?_, ?_, ?_, ?_, (rd_answered ..).trans ((hrd _).trans herased.state),
    (rd_answered ..).trans herased.state, ?_, fun hf => ?_, answered_answers .., answered_answers ..⟩
  · rw [hall, keysErased]
  · rw [hall, keysErased]
  · rw [hall, keysErased]
  · rw [hall, ← herased.crypto]
    rfl
  · rw [hmbox', hbusy]
  · rw [heng', heng, herased.todo]
  · rw [hfolio', hfolio, herased.key hf]

/-! ## Zero (R343) -/

theorem mirrorOf_none (h : s.anyConfigured = false) (loc : Nat) : s.mirrorOf loc = none := by
  have hnone := List.any_eq_false.1 h
  refine List.find?_eq_none.2 fun r hr hmatch => hnone r hr (Bool.and_eq_true_iff.1 hmatch).1

theorem onSecondary_false (h : s.anyConfigured = false) (loc : Nat) : s.onSecondary loc = false := by
  rw [State.onSecondary, mirrorOf_none h]

theorem mediaOperations_zeroes (hserves : mboxServes s port ld = true) {dpa : BitVec 44} {n : Nat} (hn : 0 < n)
    (howns : s.owns port ld dpa.toNat (n * 2 ^ 20) = true) (halign : locOf dpa.toNat % 2 ^ 20 = 0)
    (hfits : quireOf (locOf dpa.toNat) + n ≤ s.capacity) (hnone : s.anyConfigured = false) (hk₀ : s.kerfActive 0 = false)
    (hk₁ : s.kerfActive 1 = false) (hbg : s.bgBusy 1 = false) (hbind : s.bindBusy = false) :
    exec (.mediaOperations port ld 1 dpa (n * 2 ^ 20)) s = .next (answered port ld (rcBackground, [],
      (s.startKerf 0 [(quireOf (locOf dpa.toNat), quireOf (locOf dpa.toNat) + n)] 0).bgStart 1 port ld
        (quireOf (locOf dpa.toNat) * quireLines) (n * quireLines))) := by
  show Machine.execMediaOperations port ld 1 dpa (n * 2 ^ 20) s = _
  rw [Machine.execMediaOperations, mailbox_serves hserves]
  refine congrArg (fun a => Host.Outcome.next (answered port ld a)) ?_
  show State.mbMediaOps port ld 1 dpa.toNat (n * 2 ^ 20) s = _
  rw [State.mbMediaOps, ownOnly_gives howns]
  have hlen : n * 2 ^ 20 / 2 ^ 20 = n := Nat.mul_div_cancel n (by decide)
  simp only [hlen]
  have hsecondary : (List.range' (quireOf (locOf dpa.toNat)) n).any (fun i => s.onSecondary (i * 2 ^ 20)) = false :=
    List.any_eq_false.2 fun i _ => by rw [onSecondary_false hnone]; decide
  have hvalid : ¬ (locOf dpa.toNat % 2 ^ 20 ≠ 0 ∨ n * 2 ^ 20 % 2 ^ 20 ≠ 0 ∨ n = 0 ∨
      s.capacity < quireOf (locOf dpa.toNat) + n ∨
      (List.range' (quireOf (locOf dpa.toNat)) n).any (fun i => s.onSecondary (i * 2 ^ 20)) = true) := by
    rw [hsecondary]
    have hmod : n * 2 ^ 20 % 2 ^ 20 = 0 := Nat.mul_mod_left n _
    rintro (h | h | h | h | h)
    · exact h halign
    · exact h hmod
    · omega
    · omega
    · cases h
  rw [if_neg hvalid, if_neg (by simp [hk₀, hk₁, hbg, hbind])]
  rw [forAll_fixed fun i _ => by rw [mirrorOf_none hnone]; rfl]

/-! ## Background operations and the FM API (R333, R349) -/

/-- The operation in the background of a Sanitize has ended. -/
def sanitizeEnded (s : State) (o : Background) : State :=
  { s with mbox := { s.mbox with
    ops := s.mbox.ops.erase o, sanitizing := false
    done := Sparse.set (fun _ => none) s.mbox.done (masterOf o.port o.ld) (some (0, 0, 0)) } }

theorem backgroundOpComplete_sanitize {o : Background} (hfind : s.mbox.ops.find? (fun o => decide (o.kind = 0)) = some o)
    (hidle : s.kerfActive 0 = false) : exec (.backgroundOpComplete 0 []) s = .next (sanitizeEnded s o) := by
  have hkind : o.kind = 0 := of_decide_eq_true (List.find?_some (p := fun o : Background => decide (o.kind = 0)) hfind)
  have hdone : s.bgDone 0 = true := by
    show (!s.kerfActive 0) = true
    rw [hidle]
    rfl
  show Machine.execBackgroundOpComplete 0 [] s = _
  rw [Machine.execBackgroundOpComplete]
  have hfind' : s.mbox.ops.find? (fun o => decide (o.kind = (0 : Fin 5).val)) = some o := hfind
  rw [hfind']
  show (if (!s.bgDone 0) = true then _ else _) = _
  rw [if_neg (by rw [hdone]; decide)]
  show Host.Outcome.next _ = _
  rw [hkind]
  rfl

theorem orderCheckpoint_orders (hserves : mboxServes s port ld = true) (hpersists : s.persists = true) (hidle : s.bgBusy 3 = false)
    (limited : Bool) : exec (.orderCheckpoint port ld limited) s = .next (answered port ld
      (rcBackground, [], (s.orderCkpt (if limited then 0 else 1)).bgStart 3 port ld 0 0)) := by
  show Machine.execOrderCheckpoint port ld limited s = _
  rw [Machine.execOrderCheckpoint, mailbox_serves hserves, State.mbCheckpoint, hpersists, hidle]
  rfl

theorem orderCkpt_idle (hrunning : s.folio.running = none) (hordered : s.folio.ordered = none) (kind : Nat) :
    s.orderCkpt kind = { s with folio := { s.folio with ordered := some kind } } := by
  rw [State.orderCkpt, hrunning, hordered]
  show ({ s with folio := { s.folio with ordered := some (max kind 0) } } : State) = _
  rw [Nat.max_zero]

theorem writeRegister_writes (hserves : mboxServes s port ld = true) (hadmin : s.admin port ld = true) {off : BitVec 32}
    (hoff : off.toNat < 0x80000) (val : Word) : exec (.writeRegister port ld off val) s =
      .next ((s.writeAccess (.fn port ld) off.toNat val).emit (.mailbox port ld 0 [])) := by
  show Machine.execWriteRegister port ld off val s = _
  rw [Machine.execWriteRegister, mailbox_serves hserves, State.mbWriteRegister, adminOnly_gives hadmin]
  exact congrArg (fun a => Host.Outcome.next (answered port ld a)) (if_neg (Nat.not_le.2 hoff))

/-- An allocation range of a logical device has been set. -/
def allocSet (s : State) (toPort : PortNo) (i base stop : Nat) : State :=
  (s.wr (PORT_LD_ALLOC_BASE.base_quire.ld toPort i) base).wr (PORT_LD_ALLOC_END.end_quire.ld toPort i) stop

theorem allocSet_sets (toPort : PortNo) (i base stop : Nat) :
    (allocSet s toPort i base stop).rd (PORT_LD_ALLOC_BASE.base_quire.ld toPort i) = base % 2 ^ PORT_LD_ALLOC_BASE.base_quire.width ∧
    (allocSet s toPort i base stop).rd (PORT_LD_ALLOC_END.end_quire.ld toPort i) = stop % 2 ^ PORT_LD_ALLOC_END.end_quire.width ∧
    Writes [PORT_LD_ALLOC_BASE.base_quire.ld toPort i, PORT_LD_ALLOC_END.end_quire.ld toPort i] s (allocSet s toPort i base stop) ∧
    allocSet s toPort i base stop = { s with flds := (allocSet s toPort i base stop).flds } :=
  ⟨(rd_wr_apart (by rfl) _).trans (State.rd_wr_self _ _ _), State.rd_wr_self _ _ _,
    ((Writes.refl s).wr (.head _)).wr (.tail _ (.head _)), rfl⟩

theorem setLdAllocation_sets (hserves : mboxServes s port ld = true) (hadmin : s.admin port ld = true) {toPort : PortNo}
    (hport : s.hasPort toPort = true) (hlock : s.on (LOCK.lock.on (0x10 + toPort.val)) = false) (toLd : LdNo) (range : Fin 4)
    (base stop : Nat) : exec (.setLdAllocation port ld toPort toLd range base stop) s = .next (answered port ld
      (rcSuccess, [], allocSet s toPort (toLd.val * 4 + range.val) base stop)) := by
  show Machine.execSetLdAllocation port ld toPort toLd range base stop s = _
  rw [Machine.execSetLdAllocation, mailbox_serves hserves, State.mbSetAlloc, adminOnly_gives hadmin, hport, hlock]
  rfl

end Sys2Proof.Proofs

/-! # Poison by the mailbox (R329, R340, R341) -/

namespace Sys2Proof.Proofs

open Sys2Proof Sys2Proof.Machine Sys2Proof.Laws

variable {s t u : State} {port : PortNo} {ld : LdNo}

/-! ## A line is written outside the queues -/

theorem Uncalled.forAll {α : Type} {f : State → α → State} {as : List α} (h : Uncalled s t)
    (hf : ∀ u a, Uncalled s u → Uncalled s (f u a)) : Uncalled s (t.forAll as f) :=
  forAll_keeps (P := Uncalled s) hf as h

/-- What leaves the messages and the ports. -/
theorem Uncalled.same (h : Uncalled s t) (hout : u.out = t.out) (hports : u.ports = t.ports) : Uncalled s u := by
  refine ⟨hout ▸ h.grown, fun p => ?_⟩
  have hport : u.port p = t.port p := by rw [State.port, hports, State.port]
  rw [hport]
  exact h.ports p

theorem Uncalled.fixLevel (h : Uncalled s t) : Uncalled s t.fixLevel := by
  unfold State.fixLevel
  extract_lets old lv cov t₁ t₂
  have h₁ : Uncalled s t₁ := by
    unfold t₁
    rw [wrb_eq]
    exact .ite h ((h.wr _ _).cause _ _)
  have h₂ : Uncalled s t₂ := .ite h₁ ((h₁.wr _ _).cause _ _)
  exact .ite (h₂.forAll fun _ _ k => (k.wr _ _).cause _ _) h₂

theorem uncalled_markDirty (q master : Nat) : Uncalled s (s.markDirty q master) := by
  unfold State.markDirty
  split
  · exact .refl s
  · extract_lets e was a _ b _ c
    have hb : Uncalled s b := (Uncalled.refl s).same rfl rfl
    clear_value b
    exact .ite hb (Uncalled.fixLevel (hb.same rfl rfl))

/-- A host's copies are sought where the ports keep what they have established. -/
theorem snoopPort_same (h : ∀ p, SamePort (s.port p) (t.port p)) (own : Option Nat) (loc : Nat) (write : Bool) :
    t.snoopPort own loc write = s.snoopPort own loc write := by
  have htracked : ∀ p, (t.port p).tracked (lineAddr loc) = (s.port p).tracked (lineAddr loc) := fun p => by rw [h p]; rfl
  simp only [State.snoopPort, htracked]

/-- A line has been touched: what is stored, the keys and the state of the device stand, and no host is called. -/
structure Touched (s t : State) : Prop where
  lines : t.lines = s.lines
  crypto : t.crypto = s.crypto
  sys : t.sys = s.sys
  calls : Uncalled s t
  rd : ∀ f, spared f = true → clear levelFields f = true → t.rd f = s.rd f

theorem touchLine_touches {loc : Nat} (hquiet : quiet s = true) (hfinished : s.unfinishedBy (quireOf loc) = none)
    (hsnoop : s.snoopPort none loc true = none) (master : Nat) : Touched s (s.touchLine loc master) := by
  have hensure : s.ensure (quireOf loc) = s := by
    rw [State.ensure, hfinished]
    rfl
  have hsettle : s.settleLine loc = s := settle_quiet hquiet _
  unfold State.touchLine
  rw [hensure, hsettle]
  have hrow : Runs s (s.engineRow loc 1 master) := (Runs.refl s).engineRow
  generalize s.engineRow loc 1 master = a at *
  have hcall : a.callBack loc true = a := by
    rw [State.callBack, snoopPort_same hrow.calls.ports, hsnoop]
  rw [hcall]
  have hdirty := ranged_markDirty (s := a) (quireOf loc) master
  have hcalls := uncalled_markDirty (s := a) (quireOf loc) master
  generalize a.markDirty (quireOf loc) master = b at *
  obtain ⟨hlines, hcrypto, -, hsys⟩ := hrow.keepsData
  exact ⟨hdirty.lines.trans hlines, hdirty.crypto.trans hcrypto, hdirty.sys.trans hsys,
    (hrow.calls.trans hcalls).same rfl rfl, fun f hf hl => (hdirty.writes.rd hl).trans (hrow.rd hf)⟩

/-! ## Inject Poison (R341) -/

/-- A command that has called no line back stands as it is (R329). -/
theorem coherent_uncalled (h : Uncalled s t) : s.coherent (s.after (.next t)) = t := if_pos (recalls_of_uncalled h)

theorem uncalled_answered {a : Answer} (h : Uncalled s a.2.2) (p l : Nat) : Uncalled s (answered p l a) := h.emit rfl

theorem uncalled_denied (p l opcode : Nat) : Uncalled s (s.denied p l opcode) :=
  (((Uncalled.refl s).wr _ _).cause _ _).log _

theorem injectPoison_answers (hserves : mboxServes s port ld = true) {dpa : BitVec 44} (hgo : s.injectWaits port ld dpa.toNat = false)
    (hcalls : Uncalled s (State.mbInject port ld dpa.toNat s).2.2) :
    exec (.injectPoison port ld dpa) s = .next (answered port ld (State.mbInject port ld dpa.toNat s)) := by
  show Machine.execInjectPoison port ld dpa s = _
  rw [Machine.execInjectPoison, if_neg (ne_true_of_eq_false hgo), mailbox_serves hserves,
    coherent_uncalled (uncalled_answered hcalls port ld)]

theorem injectPoison_unsupported (hserves : mboxServes s port ld = true) (hlife : s.lifeCycle ≠ 1) (dpa : BitVec 44) :
    ∃ t, exec (.injectPoison port ld dpa) s = .next t ∧ Answered t port ld 3 [] ∧ KeepsData s t := by
  have hgo : s.injectWaits port ld dpa.toNat = false := by simp [State.injectWaits, hlife]
  by_cases hadmin : s.admin port ld = true
  · have hgives : State.mbInject port ld dpa.toNat s = (rcUnsupported, [], s) := by
      rw [State.mbInject, adminOnly_gives hadmin, if_pos hlife]
    have hexec := injectPoison_answers hserves hgo (by rw [hgives]; exact .refl s)
    rw [hgives] at hexec
    exact ⟨_, hexec, answered_answers .., keepsData_answered ..⟩
  · have hgives : State.mbInject port ld dpa.toNat s = (rcUnsupported, [], s.denied port ld 0x4301) := if_neg hadmin
    have hexec := injectPoison_answers hserves hgo (by rw [hgives]; exact uncalled_denied port ld 0x4301)
    rw [hgives] at hexec
    obtain ⟨hans, -, hdata, -⟩ := denied_answers (s := s) (port := port) ld 0x4301
    exact ⟨_, hexec, hans, hdata⟩

theorem dropWb_keeps (loc : Nat) : (s.dropWb loc).lines = s.lines ∧ (s.dropWb loc).crypto = s.crypto ∧
    (s.dropWb loc).sys = s.sys ∧ (s.dropWb loc).out = s.out ∧ (s.dropWb loc).ports = s.ports := by
  unfold State.dropWb
  extract_lets pc c
  split <;> exact ⟨rfl, rfl, rfl, rfl, rfl⟩

theorem addPoison_keeps (loc source : Nat) : (s.addPoison loc source).lines = s.lines ∧
    (s.addPoison loc source).crypto = s.crypto ∧ (s.addPoison loc source).sys = s.sys ∧
    (s.addPoison loc source).out = s.out ∧ (s.addPoison loc source).ports = s.ports := by
  unfold State.addPoison
  extract_lets a
  split
  · exact ⟨rfl, rfl, rfl, rfl, rfl⟩
  · split <;> exact ⟨rfl, rfl, rfl, rfl, rfl⟩

theorem setLine_keeps (loc : Nat) (v : StoredLine) : (s.setLine loc v).crypto = s.crypto ∧ (s.setLine loc v).sys = s.sys ∧
    (s.setLine loc v).out = s.out ∧ (s.setLine loc v).ports = s.ports := ⟨rfl, rfl, rfl, rfl⟩

theorem line_of_lines (h : t.lines = s.lines) (a : Nat) : t.line a = s.line a := by rw [State.line, h, State.line]

theorem line_setLine (loc : Nat) (v : StoredLine) : (s.setLine loc v).line loc = v ∧
    ∀ a, a / 64 ≠ loc / 64 → (s.setLine loc v).line a = s.line a :=
  ⟨Sparse.get_set_self _ _ _, fun _ ha => Sparse.get_set_ne _ _ ha⟩

theorem poisonLine_poisons (loc : Nat) (d : LineData) (source : Nat) :
    (s.poisonLine loc d source).line loc = StoredLine.poisoned d ∧
    (∀ a, a / 64 ≠ loc / 64 → (s.poisonLine loc d source).line a = s.line a) ∧
    (s.poisonLine loc d source).crypto = s.crypto ∧ (s.poisonLine loc d source).sys = s.sys ∧
    (s.poisonLine loc d source).out = s.out ∧ (s.poisonLine loc d source).ports = s.ports := by
  unfold State.poisonLine
  obtain ⟨hlines, hcrypto, hsys, hout, hports⟩ := dropWb_keeps (s := s) loc
  generalize s.dropWb loc = a at *
  obtain ⟨hself, hother⟩ := line_setLine (s := a) loc (StoredLine.poisoned d)
  obtain ⟨hcrypto', hsys', hout', hports'⟩ := setLine_keeps (s := a) loc (StoredLine.poisoned d)
  generalize a.setLine loc (StoredLine.poisoned d) = b at *
  obtain ⟨hlines'', hcrypto'', hsys'', hout'', hports''⟩ := addPoison_keeps (s := b) loc source
  exact ⟨(line_of_lines hlines'' _).trans hself,
    fun x hx => (line_of_lines hlines'' _).trans ((hother x hx).trans (line_of_lines hlines _)),
    hcrypto''.trans (hcrypto'.trans hcrypto), hsys''.trans (hsys'.trans hsys), hout''.trans (hout'.trans hout),
    hports''.trans (hports'.trans hports)⟩

theorem lineAddr_div (loc : Nat) : lineAddr loc / 64 = loc / 64 := by
  rw [lineAddr]
  omega

theorem injectPoison_injects (hserves : mboxServes s port ld = true) (hadmin : s.admin port ld = true) (hlife : s.lifeCycle = 1)
    {dpa : BitVec 44} (hopen : s.openLoc (lineAddr (locOf dpa.toNat)) = true) (hquiet : quiet s = true)
    (hheld : s.wouldHold (quireOf (locOf dpa.toNat)) = false)
    (hfinished : s.unfinishedBy (quireOf (lineAddr (locOf dpa.toNat))) = none)
    (hsnoop : s.snoopPort none (lineAddr (locOf dpa.toNat)) true = none) :
    ∃ t, exec (.injectPoison port ld dpa) s = .next t ∧ Answered t port ld 0 [] ∧
      t.line (lineAddr (locOf dpa.toNat)) = StoredLine.poisoned (s.line (lineAddr (locOf dpa.toNat))).data ∧
      (∀ a, a / 64 ≠ locOf dpa.toNat / 64 → t.line a = s.line a) ∧ t.crypto = s.crypto ∧ t.sys = s.sys := by
  have hgo : s.injectWaits port ld dpa.toNat = false := by
    rw [State.injectWaits, hheld, Bool.and_false]
  have hdiv := lineAddr_div (locOf dpa.toNat)
  have hgives : State.mbInject port ld dpa.toNat s = (rcSuccess, [],
      (s.touchLine (lineAddr (locOf dpa.toNat)) 0x19).poisonLine (lineAddr (locOf dpa.toNat))
        ((s.touchLine (lineAddr (locOf dpa.toNat)) 0x19).line (lineAddr (locOf dpa.toNat))).data 3) := by
    rw [State.mbInject, adminOnly_gives hadmin, if_neg (not_not.2 hlife), hopen]
    rfl
  have htouched := touchLine_touches hquiet hfinished hsnoop 0x19
  have hexec := injectPoison_answers hserves hgo
  rw [hgives] at hexec
  generalize lineAddr (locOf dpa.toNat) = loc at *
  generalize s.touchLine loc 0x19 = a at *
  have hpoison := poisonLine_poisons (s := a) loc (a.line loc).data 3
  generalize a.poisonLine loc (a.line loc).data 3 = b at *
  obtain ⟨hline, hother, hcrypto, hsys, hout, hports⟩ := hpoison
  refine ⟨_, hexec (htouched.calls.same hout hports), answered_answers .., ?_, fun x hx => ?_,
    hcrypto.trans htouched.crypto, hsys.trans htouched.sys⟩
  · show b.line loc = _
    rw [hline, line_of_lines htouched.lines]
  · show b.line x = _
    rw [hother x (by rw [hdiv]; exact hx), line_of_lines htouched.lines]

/-! ## Clear Poison (R340) -/

theorem clearSpan_keeps (lo hi : Nat) : (s.clearSpan lo hi).crypto.keys = s.crypto.keys ∧ (s.clearSpan lo hi).sys = s.sys ∧
    (s.clearSpan lo hi).out = s.out ∧ (s.clearSpan lo hi).ports = s.ports ∧
    (∀ f, (s.clearSpan lo hi).rd f = s.rd f) ∧
    (s.clearSpan lo hi).lines = s.lines.filter (fun e => decide (e.1 < lo) || decide (hi ≤ e.1)) :=
  ⟨rfl, rfl, rfl, rfl, fun _ => rfl, rfl⟩

theorem line_clearSpan (lo hi loc : Nat) : (s.clearSpan lo hi).line loc =
    if decide (loc / 64 < lo) || decide (hi ≤ loc / 64) then s.line loc else StoredLine.cleared := by
  obtain ⟨-, -, -, -, -, hlines⟩ := clearSpan_keeps (s := s) lo hi
  rw [State.line, hlines]
  exact get_filter_key (fun n => decide (n < lo) || decide (hi ≤ n)) s.lines (loc / 64)

theorem anyConfigured_of_rd (h : ∀ n, t.rd (DOVE_RANGE_STAT.state.ix n) = s.rd (DOVE_RANGE_STAT.state.ix n)) :
    t.anyConfigured = s.anyConfigured := by
  have hconf : t.configured = s.configured := funext fun n => by rw [State.configured, State.configured, h]
  rw [State.anyConfigured, State.anyConfigured, hconf]

theorem clearPoison_clears (hserves : mboxServes s port ld = true) {dpa : BitVec 44}
    (howns : s.owns port ld dpa.toNat 64 = true) (hopen : s.openLoc (lineAddr (locOf dpa.toNat)) = true)
    (hquiet : quiet s = true) (hheld : s.wouldHold (quireOf (locOf dpa.toNat)) = false)
    (hfinished : s.unfinishedBy (quireOf (lineAddr (locOf dpa.toNat))) = none) (hnone : s.anyConfigured = false)
    (hsnoop : s.snoopPort none (lineAddr (locOf dpa.toNat)) true = none) :
    ∃ t, exec (.clearPoison port ld dpa 0) s = .next t ∧ Answered t port ld 0 [] ∧
      t.line (locOf dpa.toNat) = StoredLine.cleared ∧
      (∀ a, a / 64 ≠ locOf dpa.toNat / 64 → t.line a = s.line a) ∧ t.crypto.keys = s.crypto.keys ∧ t.sys = s.sys := by
  have hgo : s.clearWaits port ld dpa.toNat 0 = false := by
    rw [State.clearWaits, hheld, Bool.and_false]
  have hdiv := lineAddr_div (locOf dpa.toNat)
  have htouched := touchLine_touches hquiet hfinished hsnoop 0x19
  have hmay : ¬ ((0 : LineData) ≠ 0 ∨ s.onSecondary (lineAddr (locOf dpa.toNat)) = true ∨
      (!s.openLoc (lineAddr (locOf dpa.toNat))) = true) := by
    rw [onSecondary_false hnone, hopen]
    rintro (h | h | h)
    · exact h rfl
    · cases h
    · cases h
  have hunmirrored : ((s.touchLine (lineAddr (locOf dpa.toNat)) 0x19).clearSpan (lineAddr (locOf dpa.toNat) / 64)
      (lineAddr (locOf dpa.toNat) / 64 + 1)).mirrorOf (lineAddr (locOf dpa.toNat)) = none := by
    refine mirrorOf_none ?_ _
    obtain ⟨-, -, -, -, hrd, -⟩ := clearSpan_keeps (s := s.touchLine (lineAddr (locOf dpa.toNat)) 0x19)
      (lineAddr (locOf dpa.toNat) / 64) (lineAddr (locOf dpa.toNat) / 64 + 1)
    rw [anyConfigured_of_rd fun n => (hrd _).trans (htouched.rd _ (by rfl) (by rfl)), hnone]
  have hgives : State.mbClearPoison port ld dpa.toNat 0 s = (rcSuccess, [],
      (s.touchLine (lineAddr (locOf dpa.toNat)) 0x19).clearSpan (lineAddr (locOf dpa.toNat) / 64)
        (lineAddr (locOf dpa.toNat) / 64 + 1)) := by
    rw [State.mbClearPoison, ownOnly_gives howns]
    simp only [if_neg hmay, hunmirrored]
    rfl
  have hexec : Uncalled s (State.mbClearPoison port ld dpa.toNat 0 s).2.2 →
      exec (.clearPoison port ld dpa 0) s = .next (answered port ld (State.mbClearPoison port ld dpa.toNat 0 s)) := fun hcalls => by
    show Machine.execClearPoison port ld dpa 0 s = _
    rw [Machine.execClearPoison, if_neg (ne_true_of_eq_false hgo), mailbox_serves hserves,
      coherent_uncalled (uncalled_answered hcalls port ld)]
  rw [hgives, hdiv] at hexec
  generalize s.touchLine (lineAddr (locOf dpa.toNat)) 0x19 = a at *
  obtain ⟨hkeys, hsys, hout, hports, -, -⟩ := clearSpan_keeps (s := a) (locOf dpa.toNat / 64) (locOf dpa.toNat / 64 + 1)
  have hline := line_clearSpan (s := a) (locOf dpa.toNat / 64) (locOf dpa.toNat / 64 + 1)
  generalize a.clearSpan (locOf dpa.toNat / 64) (locOf dpa.toNat / 64 + 1) = b at *
  refine ⟨_, hexec (htouched.calls.same hout hports), answered_answers .., ?_, fun x hx => ?_, ?_, hsys.trans htouched.sys⟩
  · show b.line _ = _
    rw [hline, if_neg (by simp)]
  · show b.line x = _
    have hout : (decide (x / 64 < locOf dpa.toNat / 64) || decide (locOf dpa.toNat / 64 + 1 ≤ x / 64)) = true := by
      rw [Bool.or_eq_true, decide_eq_true_eq, decide_eq_true_eq]
      omega
    rw [hline, if_pos hout, line_of_lines htouched.lines]
  · show b.crypto.keys = _
    rw [hkeys, htouched.crypto]

/-- A Sanitize that has ended has its status. -/
theorem sanitizeEnded_ends (o : Background) : (sanitizeEnded s o).mbox.sanitizing = false ∧
    (sanitizeEnded s o).mbox.ops = s.mbox.ops.erase o ∧
    Sparse.get (fun _ => none) (sanitizeEnded s o).mbox.done (masterOf o.port o.ld) = some (0, 0, 0) ∧
    SameRegs s (sanitizeEnded s o) [] ∧ sanitizeEnded s o = { s with mbox := (sanitizeEnded s o).mbox } :=
  ⟨rfl, rfl, Sparse.get_set_self (dflt := fun _ => none) s.mbox.done (masterOf o.port o.ld) (some (0, 0, 0)), fun _ _ => rfl, rfl⟩

/-! ## Answers leave the rest -/

theorem answered_frame (h : t = { s with flds := t.flds }) (p l code : Nat) (payload : List Nat) :
    answered p l (code, payload, t) =
      { s with flds := (answered p l (code, payload, t)).flds, out := (answered p l (code, payload, t)).out } := by
  show t.emit _ = _
  rw [State.emit, h]
  rfl

theorem timeAnswered_keeps (s : State) (p l : Nat) : (answered p l (rcSuccess, [], s)).tbValid = s.tbValid ∧
    (answered p l (rcSuccess, [], s)).clk = s.clk ∧ (answered p l (rcSuccess, [], s)).gauge = s.gauge ∧
    (∀ f, (answered p l (rcSuccess, [], s)).rd f = s.rd f) ∧ Answered (answered p l (rcSuccess, [], s)) p l 0 [] ∧
    KeepsData s (answered p l (rcSuccess, [], s)) := ⟨rfl, rfl, rfl, fun _ => rfl, rfl, ⟨rfl, rfl, rfl, rfl⟩⟩

theorem shutdownAnswered_sets (p l : Nat) (clean : Bool) :
    (answered p l (rcSuccess, [], { s with folio := { s.folio with shutdownSet := some clean } })).cleanShutdown = clean ∧
    (answered p l (rcSuccess, [], { s with folio := { s.folio with shutdownSet := some clean } })).folio.image = s.folio.image ∧
    SameRegs s (answered p l (rcSuccess, [], { s with folio := { s.folio with shutdownSet := some clean } })) [] ∧
    answered p l (rcSuccess, [], { s with folio := { s.folio with shutdownSet := some clean } }) =
      { s with
        folio := (answered p l (rcSuccess, [], { s with folio := { s.folio with shutdownSet := some clean } })).folio
        out := (answered p l (rcSuccess, [], { s with folio := { s.folio with shutdownSet := some clean } })).out } :=
  ⟨rfl, rfl, fun _ _ => rfl, rfl⟩

theorem scanAnswered_takes (p l : Nat) (payload : List Nat) :
    (answered p l (rcSuccess, payload, scanTaken s)).mbox.scan = [] ∧
    Answered (answered p l (rcSuccess, payload, scanTaken s)) p l 0 payload ∧
    SameRegs s (answered p l (rcSuccess, payload, scanTaken s)) [] ∧
    answered p l (rcSuccess, payload, scanTaken s) =
      { s with
        mbox := (answered p l (rcSuccess, payload, scanTaken s)).mbox
        out := (answered p l (rcSuccess, payload, scanTaken s)).out } := ⟨rfl, rfl, fun _ _ => rfl, rfl⟩

/-- What a Zero in the background leaves of the Clear that does it. -/
theorem zeroAnswered_keeps (s : State) (p l kind first lines : Nat) :
    (∀ f, (answered p l (rcBackground, [], s.bgStart kind p l first lines)).rd f = s.rd f) ∧
    (answered p l (rcBackground, [], s.bgStart kind p l first lines)).eng 0 = s.eng 0 ∧
    Answered (answered p l (rcBackground, [], s.bgStart kind p l first lines)) p l 1 [] ∧
    answered p l (rcBackground, [], s.bgStart kind p l first lines) =
      { s with
        mbox := (answered p l (rcBackground, [], s.bgStart kind p l first lines)).mbox
        out := (answered p l (rcBackground, [], s.bgStart kind p l first lines)).out } := ⟨fun _ => rfl, rfl, rfl, rfl⟩

/-- A Checkpoint has been ordered by a host. -/
def checkpointAnswered (s : State) (p l kind : Nat) : State :=
  answered p l (rcBackground, [],
    ({ s with folio := { s.folio with ordered := some kind } } : State).bgStart 3 p l 0 0)

theorem checkpointAnswered_orders (p l kind : Nat) : (checkpointAnswered s p l kind).folio.ordered = some kind ∧
    Answered (checkpointAnswered s p l kind) p l 1 [] ∧ SameRegs s (checkpointAnswered s p l kind) [] ∧
    checkpointAnswered s p l kind =
      { s with
        folio := (checkpointAnswered s p l kind).folio, mbox := (checkpointAnswered s p l kind).mbox
        out := (checkpointAnswered s p l kind).out } := ⟨rfl, rfl, fun _ _ => rfl, rfl⟩

/-! ## O39 -/

/-- Settles O39: each command answers by its number and sets what it names, by the lemmas of its kind. -/
theorem mailboxCommandsTakeEffect : Obligations.MailboxCommandsTakeEffect := by
  unfold Obligations.MailboxCommandsTakeEffect
  refine ⟨fun port ld log handles s hserves => ?_, fun port ld info warn fail fatal s hserves => ?_,
    fun port ld offset version secver sigOk s hserves hadmin hbusy hslot =>
      transferFw_takes hserves hadmin hbusy hslot offset version secver sigOk,
    fun port ld s => activateFw_starts, fun old at_ s => fwFallback_restarts, fun port ld ns s hserves hmay => ?_,
    fun port ld ns s hserves hvalid hmaster => ?_, fun port ld s hserves => mailbox_serves hserves _ _ _,
    fun port ld dpa s hserves hlife => injectPoison_unsupported hserves hlife dpa,
    fun port ld cls dpa s hserves hadmin hcls hnone => performMaintenance_begins hserves hadmin hcls hnone,
    fun port ld cls dpa reason s hserves hadmin hcls hsome => performMaintenance_refused hserves hadmin hcls hsome,
    fun port ld life temp s hserves hadmin => ?_, fun port ld clean s hserves hadmin => ?_,
    fun port ld dpa s hserves hadmin hlife hopen hquiet hheld hfinished hsnoop =>
      injectPoison_injects hserves hadmin hlife hopen hquiet hheld hfinished hsnoop,
    fun port ld dpa s hserves howns hopen hquiet hheld hfinished hnone hsnoop =>
      clearPoison_clears hserves howns hopen hquiet hheld hfinished hnone hsnoop,
    fun port ld dpa len s hserves howns hidle => scanMedia_begins hserves howns hidle, fun port ld s hserves hfits => ?_, fun port ld s => erases,
    fun port ld dpa n s hserves hn howns halign hfits hnone hk₀ hk₁ hbg hbind => ?_, fun o s hfind hidle => ?_,
    fun port ld limited s hserves hpersists hidle hrunning hordered => ?_,
    fun port ld off val s hserves hadmin hoff => writeRegister_writes hserves hadmin hoff val,
    fun port ld toPort toLd range base stop s hserves hadmin hport hlock => ?_,
    fun port ld opcode s hserves => mailbox_serves hserves _ _ _⟩
  · obtain ⟨hld, hother, hregs, hframe⟩ := ldAnswered_sets (s := s) port ld (logCleared (s.ld (masterOf port ld)) (logNo log))
    obtain ⟨hlog, hlost⟩ := logCleared_clears (s.ld (masterOf port ld)) log
    refine ⟨_, clearEventRecords_clears hserves log handles, ?_, ?_, hother, hregs, hframe⟩
    · rw [hld, hlog]
    · rw [hld, hlost]
  · exact ⟨_, setEventInterruptPolicy_sets hserves info warn fail fatal, ldAnswered_sets port ld _⟩
  · obtain ⟨hvalid, htb, hcount, hshort, hat, hused, hdata⟩ := setTb_sets (s := s) ns.toNat
    have hexec := setTimestamp_sets hserves hmay ns
    generalize s.setTb ns.toNat = a at *
    obtain ⟨htbValid, hclk, hgauge, hrd, hans, hkept⟩ := timeAnswered_keeps a port ld
    generalize answered port ld (rcSuccess, [], a) = b at *
    refine ⟨b, hexec, htbValid.trans hvalid, by rw [hclk, htb], (hrd _).trans hcount, (hrd _).trans hshort, by rw [hgauge, hat],
      by rw [hgauge, hused], hans, keepsData_trans hdata hkept⟩
  · have hexec := setTimestamp_ignored hserves hvalid hmaster ns
    have hcount : CountedUp s (s.bump (PORT_TS_IGNORED.count.port port)) (PORT_TS_IGNORED.count.port port) := rd_bump ..
    have hw : Writes [PORT_TS_IGNORED.count.port port] s (s.bump (PORT_TS_IGNORED.count.port port)) := (Writes.refl s).wr (.head _)
    have hframe : s.bump (PORT_TS_IGNORED.count.port port) =
        { s with flds := (s.bump (PORT_TS_IGNORED.count.port port)).flds } := frame_wr_flds _ _
    generalize s.bump (PORT_TS_IGNORED.count.port port) = a at *
    exact ⟨_, hexec, hcount, answered_answers .., hw.regs, answered_frame hframe port ld _ _⟩
  · exact ⟨_, setAlertConfig_sets hserves hadmin life temp, ldAnswered_sets port ld _⟩
  · exact ⟨_, setShutdownState_sets hserves hadmin clean, shutdownAnswered_sets port ld clean⟩
  · exact ⟨_, getScanMediaResults_gives hserves hfits, scanAnswered_takes port ld _⟩
  · obtain ⟨hstate, htodo⟩ := startKerf_starts (s := s) 0 [(quireOf (locOf dpa.toNat), quireOf (locOf dpa.toNat) + n)] 0
    have hw := writes_startKerf (s := s) 0 [(quireOf (locOf dpa.toNat), quireOf (locOf dpa.toNat) + n)] 0
    have hexec := mediaOperations_zeroes hserves hn howns halign hfits hnone hk₀ hk₁ hbg hbind
    have hframe := startKerf_frame (s := s) 0 [(quireOf (locOf dpa.toNat), quireOf (locOf dpa.toNat) + n)] 0
    generalize s.startKerf 0 [(quireOf (locOf dpa.toNat), quireOf (locOf dpa.toNat) + n)] 0 = a at *
    obtain ⟨hrd, heng, hans, hframe'⟩ := zeroAnswered_keeps a port ld 1 (quireOf (locOf dpa.toNat) * quireLines) (n * quireLines)
    generalize answered port ld (rcBackground, [], a.bgStart 1 port ld (quireOf (locOf dpa.toNat) * quireLines)
      (n * quireLines)) = b at *
    refine ⟨b, hexec, (hrd _).trans hstate, by rw [heng, htodo], hans, fun f hf => (hrd f).trans (hw.regs f hf), ?_⟩
    rw [hframe', hframe]
  · obtain ⟨hbusy, hops, hdone, hregs, hframe⟩ := sanitizeEnded_ends (s := s) o
    exact ⟨_, backgroundOpComplete_sanitize hfind hidle, hbusy, hops, hdone, hregs, hframe⟩
  · have hexec := orderCheckpoint_orders hserves hpersists hidle limited
    rw [orderCkpt_idle hrunning hordered] at hexec
    exact ⟨_, hexec, checkpointAnswered_orders port ld _⟩
  · obtain ⟨hbase, hend, hw, hframe⟩ := allocSet_sets (s := s) toPort (toLd.val * 4 + range.val) base stop
    have hexec := setLdAllocation_sets hserves hadmin hport hlock toLd range base stop
    generalize allocSet s toPort (toLd.val * 4 + range.val) base stop = a at *
    exact ⟨_, hexec, hbase, hend, hw.regs, answered_answers .., answered_frame hframe port ld _ _⟩

end Sys2Proof.Proofs

/-! # The end of a pair may wake a controller (R84, R115, R208, R303) -/

namespace Sys2Proof.Proofs

open Sys2Proof Sys2Proof.Machine Sys2Proof.Laws

/-- A partial write under a slot with integrity, whose line is in recovery: its merge needs the tag line. -/
def mergeWaiting : Req :=
  { id := 0, src := .mgmt, master := 0, mark := 0, kind := .part, loc := 0, dpa := 0, keyId := 0
    sel := some (0, { State.reset.key 0 with integrity := true, plaintext := true }), data := 0, mask := 0, poison := false
    cache := 0, arrived := 0, entered := 0, cls := 0, promoted := false, queued := false, excused := 0 }

/-- A joined pair with a recovery under way, while the PC of the tag line is in self-refresh. -/
def sleepingSplit : State :=
  { ((State.reset.wr DOVE_STAT.link 3).wr DOVE_STAT.pair 1).wr (PC_SR_STAT.in_sr.pc 0) 1 with
    pcs := [(0, { Pc.reset with sreAt := 1000000000 })]
    recoveries := [{ loc := 0, ident := 0, waiting := [], writes := [mergeWaiting], forTag := false, lost := false }] }

/-! ## O31 -/

/-- Refutes O31: with the pair its recoveries end (R115), and the merge of a partial write that waited reads its tag line
from a PC in self-refresh, whose exit takes time (R82, R84); so the loss is not dated at the time of BYE. -/
theorem not_dovePairMessages : ¬ Obligations.DovePairMessages := by
  unfold Obligations.DovePairMessages
  rintro ⟨-, -, -, -, -, hbye⟩
  obtain ⟨t, hexec, -, -, hloss, -⟩ := hbye 0 sleepingSplit (by decide +kernel)
  have hnext : Host.Outcome.next (sleepingSplit.onMessage sleepingSplit.linkSafe (.bye 0)) = .next t := hexec
  have hlater : (sleepingSplit.onMessage sleepingSplit.linkSafe (.bye 0)).dove.lossAt = some 1000180000 := by decide +kernel
  rw [Host.Outcome.next.inj hnext, hloss] at hlater
  exact absurd hlater (by decide +kernel)

/-! ## O33 -/

/-- Refutes O33: as the partner is lost its recoveries end, and the exit from self-refresh that a merge then needs takes
more time than the 30 µs of R303. -/
theorem not_doveTimersAndResync : ¬ Obligations.DoveTimersAndResync := by
  unfold Obligations.DoveTimersAndResync
  rintro ⟨-, hlost, -⟩
  obtain ⟨t, hexec, -, -, hnow, -⟩ := hlost sleepingSplit (by decide +kernel)
  have hnext : Machine.execPartnerLost sleepingSplit = .next t := hexec
  have hlater : (sleepingSplit.after (Machine.execPartnerLost sleepingSplit)).now = 1000180000 := by decide +kernel
  rw [hnext] at hlater
  exact absurd (hnow.symm.trans hlater) (by decide +kernel)

end Sys2Proof.Proofs

/-! # What the service of requests leaves as it was

`Served s t` says what no service of requests touches, however they are performed: the registers of Safe State, of the
input switch and of persistence, the life of the device, the jobs of Chisel, the commit in progress and the applies that
wait. Draining the device, waking its domains and controllers, flushing the tag cache and programming the slots of a
commit are such services. -/

namespace Sys2Proof.Proofs

open Sys2Proof Sys2Proof.Machine Sys2Proof.Laws

-- As for the walks before: the theorems are compiled one after another, for the sake of memory.
set_option Elab.async false

variable {s t u : State}

/-! ## The relation -/

/-- The fields that no service of requests writes. -/
def standing : List Fld :=
  [SYS_START_STAT.safe, SYS_SAFE_CAUSE.page, SYS_SAFE_CAUSE.code, BANK_PF_STAT.input_open, FOLIO_STAT.persist]

/-- A field stands apart from every one of those. -/
def aloof (f : Fld) : Bool := standing.all fun g => apart g f

theorem aloof_ite {c : Prop} [Decidable c] {f g : Fld} (hf : aloof f = true) (hg : aloof g = true) :
    aloof (if c then f else g) = true := by
  split
  · exact hf
  · exact hg

theorem key_ne_of_aloof {f g : Fld} (hf : aloof f = true) (hg : g ∈ standing) : g.key ≠ f.key :=
  key_ne_of_apart (List.all_eq_true.1 hf g hg)

/-- A field of the page of a pseudo-channel is none of those: they stand on pages before. -/
theorem pc_key_ne_of_standing {f g : Fld} {p : Nat} (hf : f.lsb < 32 ∧ f.off < 4096) (hg : g ∈ standing) :
    g.key ≠ (f.pc p).key := by
  have hlow : ∀ g ∈ standing, g.key < 64 * 131072 := by decide
  have := hlow g hg
  simp only [Fld.key, Fld.pc] at this ⊢
  omega

/-- The components that no service of requests touches. -/
def held (s : State) : SysState × List Job × Option Commit × Option (Nat × Bool) × List Nat × List DoveMsg :=
  (s.sys, s.chisel.jobs, s.folio.running, s.folio.bindDue, s.folio.lostEntries, s.dove.applyWait)

/-- Requests have been served: the standing fields and the components held are as they were. -/
structure Served (s t : State) : Prop where
  regs : ∀ f ∈ standing, t.rd f = s.rd f
  held : held t = held s

theorem Served.refl (s : State) : Served s s := ⟨fun _ _ => rfl, rfl⟩

theorem Served.trans (h : Served s t) (k : Served t u) : Served s u :=
  ⟨fun f hf => (k.regs f hf).trans (h.regs f hf), k.held.trans h.held⟩

theorem Served.rd (h : Served s t) {f : Fld} (hf : f ∈ standing := by decide) : t.rd f = s.rd f := h.regs f hf

theorem Served.on (h : Served s t) {f : Fld} (hf : f ∈ standing := by decide) : t.on f = s.on f := by
  rw [State.on, State.on, h.rd hf]

theorem Served.sys (h : Served s t) : t.sys = s.sys := congrArg (·.1) h.held
theorem Served.jobs (h : Served s t) : t.chisel.jobs = s.chisel.jobs := congrArg (·.2.1) h.held
theorem Served.running (h : Served s t) : t.folio.running = s.folio.running := congrArg (·.2.2.1) h.held
theorem Served.bindDue (h : Served s t) : t.folio.bindDue = s.folio.bindDue := congrArg (·.2.2.2.1) h.held
theorem Served.lostEntries (h : Served s t) : t.folio.lostEntries = s.folio.lostEntries := congrArg (·.2.2.2.2.1) h.held
theorem Served.applyWait (h : Served s t) : t.dove.applyWait = s.dove.applyWait := congrArg (·.2.2.2.2.2) h.held

/-! ## Branches, loops and writes -/

theorem Served.fst {β : Type} {b : β} (h : Served s t) : Served s (t, b).1 := h
theorem Served.snd {α : Type} {a : α} (h : Served s t) : Served s (a, t).2 := h

theorem Served.thd {α β : Type} {a : α} {b : β} (h : Served s t) : Served s (a, b, t).2.2 := h

theorem Served.ite {c : Prop} [Decidable c] {a b : State} (ha : Served s a) (hb : Served s b) :
    Served s (if c then a else b) := by
  split
  · exact ha
  · exact hb

theorem Served.iteSnd {α : Type} {c : Prop} [Decidable c] {a b : α × State} (ha : Served s a.2) (hb : Served s b.2) :
    Served s (if c then a else b).2 := by
  split
  · exact ha
  · exact hb

theorem Served.forAll {α : Type} {f : State → α → State} {l : List α} (h : Served s t)
    (hf : ∀ u a, Served s u → Served s (f u a)) : Served s (t.forAll l f) :=
  forAll_keeps (P := Served s) hf l h

/-- A loop that carries more than the state, of which `π` gives the state. -/
theorem Served.foldl {α β : Type} {π : β → State} {f : β → α → β} {l : List α} {b : β} (h : Served s (π b))
    (hf : ∀ b a, Served s (π b) → Served s (π (f b a))) : Served s (π (l.foldl f b)) :=
  List.foldlRecOn (motive := fun b => Served s (π b)) l f h fun b hb a _ => hf b a hb

/-- What the Folio keeps of what is held. -/
def heldFolio (f : Folio) : Option Commit × Option (Nat × Bool) × List Nat := (f.running, f.bindDue, f.lostEntries)

/-- Whatever changes beside the register file and the components held. -/
theorem Served.upd (h : Served s t) {now free out pages transit nextReq stalled pcs layers kerf repair recoveries folio
    bank crypto gauge chisel dove ports lds mbox lanes spline clk domains cals sensors therm pin bist otp sb lines}
    (hf : heldFolio folio = heldFolio t.folio := by rfl) (hd : dove.applyWait = t.dove.applyWait := by rfl)
    (hc : chisel.jobs = t.chisel.jobs := by rfl) :
    Served s { t with now, free, out, pages, transit, nextReq, stalled, pcs, layers, kerf, repair, recoveries, folio,
                      bank, crypto, gauge, chisel, dove, ports, lds, mbox, lanes, spline, clk, domains, cals, sensors, therm,
                      pin, bist, otp, sb, lines } :=
  ⟨h.regs, .trans (by
    simp only [heldFolio, Prod.mk.injEq] at hf
    obtain ⟨hr, hb, hl⟩ := hf
    simp only [Proofs.held, hr, hb, hl, hd, hc]) h.held⟩

theorem Served.wr {f : Fld} {v : Nat} (h : Served s t) (hf : aloof f = true := by rfl) : Served s (t.wr f v) :=
  ⟨fun _ hg => (State.rd_wr_ne t (key_ne_of_aloof hf hg) v).trans (h.regs _ hg), h.held⟩

section
variable {f g : Fld} {n v p : Nat}

theorem Served.put (h : Served s t) (hf : aloof f = true := by rfl) : Served s (t.put f) := h.wr hf
theorem Served.clr (h : Served s t) (hf : aloof f = true := by rfl) : Served s (t.clr f) := h.wr hf
theorem Served.wrb {b : Bool} (h : Served s t) (hf : aloof f = true := by rfl) : Served s (t.wrb f b) := h.wr hf
theorem Served.count (h : Served s t) (hf : aloof f = true := by rfl) : Served s (t.count f n) := h.wr hf
theorem Served.bump (h : Served s t) (hf : aloof f = true := by rfl) : Served s (t.bump f) := h.wr hf
theorem Served.setBit (h : Served s t) (hf : aloof f = true := by rfl) : Served s (t.setBit f n) := h.wr hf

theorem Served.longest (h : Served s t) (hf : aloof f = true := by rfl) : Served s (t.longest f v) := .ite (h.wr hf) h

theorem Served.wr64 (h : Served s t) (hf : aloof f = true := by rfl) (hg : aloof g = true := by rfl) :
    Served s (t.wr64 f g v) := (h.wr hf).wr hg

/-- A field of the page of a pseudo-channel. -/
theorem Served.wrPc (h : Served s t) (hf : f.lsb < 32 ∧ f.off < 4096 := by decide) : Served s (t.wr (f.pc p) v) :=
  ⟨fun _ hg => (State.rd_wr_ne t (pc_key_ne_of_standing hf hg) v).trans (h.regs _ hg), h.held⟩

end

theorem Served.setLine {a : Nat} {l : StoredLine} (h : Served s t) : Served s (t.setLine a l) := h.upd
theorem Served.clearLines {lo hi : Nat} (h : Served s t) : Served s (t.clearLines lo hi) := h.upd

theorem Served.replaceLines {lo hi : Nat} {new : Sparse StoredLine} (h : Served s t) :
    Served s (t.replaceLines lo hi new) := h.upd


/-! ### Machine/Ops -/

theorem Served.advance {dt : Nat} (h : Served s t) : Served s (t.advance dt) := h.upd
theorem Served.advanceTo {t' : Nat} (h : Served s t) : Served s (t.advanceTo t') := h.advance
theorem Served.emit {o : Out} (h : Served s t) : Served s (t.emit o) := h.upd
theorem Served.drawn (h : Served s t) : Served s t.drawn := h.upd
theorem Served.setPage {p : Nat} {v : PageState} (h : Served s t) : Served s (t.setPage p v) := h.upd
theorem Served.setPc {p : Nat} {v : Pc} (h : Served s t) : Served s (t.setPc p v) := h.upd
theorem Served.setLayer {l : Nat} {v : Layer} (h : Served s t) : Served s (t.setLayer l v) := h.upd
theorem Served.setEng {k : Nat} {v : KerfEng} (h : Served s t) : Served s (t.setEng k v) := h.upd
theorem Served.setQuire {q : Nat} {v : QEntry} (h : Served s t) : Served s (t.setQuire q v) := h.upd
theorem Served.setPair {p : Nat} {v : PairForce} (h : Served s t) : Served s (t.setPair p v) := h.upd
theorem Served.setPort {p : Nat} {v : PortState} (h : Served s t) : Served s (t.setPort p v) := h.upd
theorem Served.setLd {m : Nat} {v : LdState} (h : Served s t) : Served s (t.setLd m v) := h.upd
theorem Served.setDomain {n : Nat} {v : DomainState} (h : Served s t) : Served s (t.setDomain n v) := h.upd
theorem Served.setCal {n : Nat} {v : CalState} (h : Served s t) : Served s (t.setCal n v) := h.upd
theorem Served.setHeat {n : Nat} {v : LayerTherm} (h : Served s t) : Served s (t.setHeat n v) := h.upd

/-! ### Machine/Flags -/

theorem Served.send {p : Nat} {o : Out} (h : Served s t) : Served s (t.send p o) :=
  .ite h.setPort.put (.ite h.setPort h.emit)

theorem Served.pageMsix (h : Served s t) : Served s t.pageMsix := h.forAll fun _ _ k => k.send
theorem Served.intOut {page bit : Nat} (h : Served s t) : Served s (t.intOut page bit) := .ite h.pageMsix h
theorem Served.cause {page bit : Nat} (h : Served s t) : Served s (t.cause page bit) := .ite h h.setBit.intOut

theorem Served.errPulseStart {source : Nat} (h : Served s t) : Served s (t.errPulseStart source) :=
  h.put.wr.bump.wr64.upd.emit

theorem Served.errEvent {source : Nat} (h : Served s t) : Served s (t.errEvent source) :=
  .ite h (.ite h.bump (.ite (.ite h.bump h.upd.wr) h.errPulseStart))

theorem Served.fixWake (h : Served s t) : Served s t.fixWake := .ite h h.upd.emit
theorem Served.wakeFor {port : Nat} (h : Served s t) : Served s (t.wakeFor port) := .ite h.setPort.fixWake h

theorem Served.enterLog {log : Nat} {r : EventRec} {m : Nat × Nat} (h : Served s t) :
    Served s (t.enterLog log r m) :=
  .ite (.wakeFor (.ite h.setLd.send (.ite h.setLd.send h.setLd))) (.ite h.setLd.send (.ite h.setLd.send h.setLd))

theorem Served.aerDue {severity : Nat} {lds : List (Nat × Nat)} (h : Served s t) :
    Served s (t.aerDue severity lds) :=
  h.forAll fun _ _ k => .ite k k.setPort

theorem Served.report {e : Err} {r : Report} (h : Served s t) : Served s (t.report e r) :=
  .ite h (h.forAll fun _ _ k => k.enterLog)

theorem Served.capture {e : Err} (h : Served s t) : Served s (t.capture e) := h.wr64.wr.wr.wr.wr.wr64.wrb.put
theorem Served.captureFirst {e : Err} (h : Served s t) : Served s (t.captureFirst e) := .ite h.put h.capture

theorem Served.tally {e : Err} (h : Served s t) : Served s (t.tally e) := by
  unfold State.tally
  split
  · exact h.put.bump
  · exact h.put.bump
  · exact h.put.bump

theorem Served.firstFatal {page code : Nat} (h : Served s t) : Served s (t.firstFatal page code) :=
  .ite h.bump.cause h.bump.cause.wr.wr.wr64.put

theorem Served.escalate {page code : Nat} (h : Served s t) : Served s (t.escalate page code) :=
  .ite (.ite h.setPage h) (.ite h.put.setPage h)

theorem Served.isolate {page : Nat} (h : Served s t) : Served s (t.isolate page) := h.wr
theorem Served.startWake {d : Nat} (h : Served s t) : Served s (t.startWake d) := h.setDomain.wr.bump
theorem Served.wakeTb (h : Served s t) : Served s t.wakeTb := .ite h.startWake h

theorem Served.log {e : Err} (h : Served s t) : Served s (t.log e) := by
  unfold State.log
  extract_lets _ t₁ t₂ t₃ t₄ t₅ t₆
  have h₁ : Served s t₁ := h.wakeTb.tally.captureFirst
  have h₂ : Served s t₂ := .ite h₁.intOut h₁
  have h₃ : Served s t₃ := h₂.report
  have h₄ : Served s t₄ := h₃.aerDue
  have h₅ : Served s t₅ := .ite h₄.errEvent h₄
  have h₆ : Served s t₆ := h₃.firstFatal.aerDue.errEvent
  split
  · exact .ite h₃.aerDue h₃
  · exact .ite h₄.errEvent (.ite h₄ h₅.escalate)
  · split
    · exact h₆.escalate
    · exact .ite h₆.isolate h₆
    · exact h₆

theorem Served.err {page code addr : Nat} (h : Served s t) : Served s (t.err page code addr) := h.log

theorem Served.errReq {page code dpa access master : Nat} (h : Served s t) :
    Served s (t.errReq page code dpa access master) :=
  h.log

/-! ### Machine/Operands -/

theorem Served.setDomainPages {d st : Nat} (h : Served s t) : Served s (t.setDomainPages d st) :=
  h.forAll fun _ _ k => .ite k.wr k

theorem Served.wakeDomain {d : Nat} (h : Served s t) : Served s (t.wakeDomain d) :=
  .ite h.startWake.put.wakeTb h

theorem Served.readyDomain {d : Nat} (h : Served s t) : Served s (t.readyDomain d) :=
  h.wr.clr.setDomain.setDomainPages

theorem Served.runDomain {d : Nat} (h : Served s t) : Served s (t.runDomain d) :=
  .ite h h.wakeDomain.readyDomain

/-! ### Machine/FolioOps -/

theorem Served.charge {pair n : Nat} (h : Served s t) : Served s (t.charge pair n) := h.upd
theorem Served.chargeEng {master n : Nat} (h : Served s t) : Served s (t.chargeEng master n) := h.charge
theorem Served.setBlock {b : Nat} {v : BlockState} (h : Served s t) : Served s (t.setBlock b v) := h.upd

theorem Served.openStripe {layer : Nat} {bind : Bool} {o : Nat × State} (h : Served s t)
    (ho : t.openStripe layer bind = some o) : Served s o.2 := by
  simp only [State.openStripe] at ho
  split at ho
  · cases ho
  · cases ho
    exact h.upd.forAll fun _ _ k => k.setBlock

theorem Served.setOpen {layer : Nat} {o : Option (Nat × Nat)} (h : Served s t) : Served s (t.setOpen layer o) :=
  h.upd (by split <;> rfl)

theorem Served.takeSlot {layer : Nat} {bind : Bool} {o : Nat × State} (h : Served s t)
    (ho : t.takeSlot layer bind = some o) : Served s o.2 := by
  simp only [State.takeSlot] at ho
  split at ho
  · cases ho
    exact h.setOpen
  · obtain ⟨a, ha, rfl⟩ := Option.map_eq_some_iff.1 ho
    exact (h.openStripe ha).setOpen

theorem Served.nextSlot {bind : Bool} {o : Nat × State} (h : Served s t) (ho : t.nextSlot bind = some o) :
    Served s o.2 := by
  simp only [State.nextSlot] at ho
  split at ho
  · rename_i a ha
    cases ho
    exact (h.takeSlot ha).upd
  · obtain ⟨a, ha, rfl⟩ := Option.map_eq_some_iff.1 ho
    exact (h.takeSlot ha).upd

theorem Served.fixLevel (h : Served s t) : Served s t.fixLevel :=
  .ite (.forAll (.ite (.ite h h.wrb.cause) (.cause (.wr (.ite h h.wrb.cause)))) fun _ _ k => k.setBit.cause)
    (.ite (.ite h h.wrb.cause) (.cause (.wr (.ite h h.wrb.cause))))

theorem Served.ordered {k : Option Nat} (h : Served s t) : Served s { t with folio := { t.folio with ordered := k } } :=
  h.upd

theorem Served.fixBudget (h : Served s t) : Served s t.fixBudget := by
  unfold State.fixBudget
  extract_lets _ _ _ t₁ t₂ _ t₃
  have h₁ : Served s t₁ := h.wr
  have h₂ : Served s t₂ := h₁.cause.err
  have h₃ : Served s t₃ := by
    unfold t₃
    split
    · split
      · exact .ite h₂.ordered h₂
      · exact h₂.ordered
    · exact h₁
  exact .ite h h₃.fixLevel

theorem Served.markDirty {q master : Nat} (h : Served s t) : Served s (t.markDirty q master) :=
  .ite h (.ite h.setQuire.upd h.setQuire.upd.upd.fixLevel)

theorem Served.markCleared {q : Nat} (h : Served s t) : Served s (t.markCleared q) :=
  .ite h.setQuire (.ite h.setQuire.upd.fixLevel h.setQuire.upd.fixBudget)

theorem Served.beginHolding (h : Served s t) : Served s t.beginHolding := .ite h.bump.put.cause.upd h.bump
theorem Served.hold {r : Req} (h : Served s t) : Served s (t.hold r) := h.beginHolding.upd

theorem Served.endHolding (h : Served s t) : Served s t.endHolding :=
  .ite (.longest (.clr (.ite h h.upd))) (.ite h h.upd)

theorem Served.orderCkpt {kind : Nat} (h : Served s t) : Served s (t.orderCkpt kind) := by
  unfold State.orderCkpt
  split
  · exact h.put
  · exact h.upd

theorem Served.gpfDone {w : GpfWait} (h : Served s t) : Served s (t.gpfDone w) :=
  .ite h.emit.cause.orderCkpt h.emit.cause

theorem Served.gpfWritten {id : Nat} (h : Served s t) : Served s (t.gpfWritten id) :=
  .ite h (h.upd.forAll fun _ _ k => k.gpfDone)

theorem Served.setSlot {n : Nat} {d : Option SlotData} (h : Served s t) : Served s (t.setSlot n d) := h.upd

/-! ### Machine/GaugeOps -/

theorem Served.fixGauge (h : Served s t) : Served s t.fixGauge :=
  .ite (.ite h.wr.wr.wr.wr.upd h.wr.wr.wr.wr.upd.put.bump.cause) h.wr.wr.wr.wr

theorem Served.countMiss {pair : Nat} (h : Served s t) : Served s (t.countMiss pair) := h.bump.setBit.cause

theorem Served.applyStaged (h : Served s t) : Served s t.applyStaged :=
  .ite h (.cause (.clr (.upd (h.forAll fun _ _ k => k.setPair))))

theorem Served.endWindow {short : Bool} (h : Served s t) : Served s (t.endWindow short) := by
  unfold State.endWindow
  extract_lets t₁ t₂ t₃ t₄ t₅ _ t₆
  have h₁ : Served s t₁ := .ite h (h.forAll fun _ _ k => k.countMiss)
  have h₂ : Served s t₂ := h₁.forAll fun _ _ k => k.wr
  have h₃ : Served s t₃ := h₂.bump.wrb
  have h₄ : Served s t₄ := .ite h₃.clr.cause h₃
  have h₅ : Served s t₅ := h₄.wr
  have h₆ : Served s t₆ := h₅.upd
  exact h₆.applyStaged.fixGauge

/-! ### Machine/CalOps -/

theorem Served.setCalMode {u' m : Nat} (h : Served s t) : Served s (t.setCalMode u' m) := h.wr (aloof_ite rfl rfl)
theorem aloof_calPending {u : Nat} : aloof (calPending u) = true := aloof_ite rfl rfl

theorem Served.beginRun {u' : Nat} {command : Bool} (h : Served s t) : Served s (t.beginRun u' command) :=
  .ite h (Served.setCalMode (h.clr aloof_calPending)).setCal

theorem Served.stopRun {u' : Nat} (h : Served s t) : Served s (t.stopRun u') := h.setCal.setCalMode

theorem Served.fixCal {u' : Nat} (h : Served s t) : Served s (t.fixCal u') :=
  .ite (.ite h h.stopRun.setCalMode) (.ite (.ite h.setCalMode.beginRun h.setCalMode) h)

theorem Served.fixCalLayer {layer : Nat} (h : Served s t) : Served s (t.fixCalLayer layer) :=
  h.forAll fun _ _ k => k.fixCal

/-! ### Machine/DramOps -/

theorem Served.runLfsr {pc : Nat} (h : Served s t) : Served s (t.runLfsr pc) := .ite h h.setPc

theorem Served.runLfsrs {layer : Nat} (h : Served s t) : Served s (t.runLfsrs layer) :=
  h.forAll fun _ _ k => k.runLfsr

theorem Served.sampleAt {pc bank row t' : Nat} (h : Served s t) : Served s (t.sampleAt pc bank row t') :=
  .ite h h.setPc

theorem Served.sample {pc bank row : Nat} (h : Served s t) : Served s (t.sample pc bank row) :=
  h.runLfsr.sampleAt

theorem Served.heatCount {layer acts bursts refs : Nat} (h : Served s t) :
    Served s (t.heatCount layer acts bursts refs) :=
  h.setHeat

theorem Served.activateRow {pc bank row : Nat} (h : Served s t) : Served s (t.activateRow pc bank row) :=
  h.setPc.sample.heatCount

theorem Served.refreshed {pc n : Nat} (h : Served s t) : Served s (t.refreshed pc n) := h.count.heatCount

theorem Served.takeDivider {layer : Nat} (h : Served s t) : Served s (t.takeDivider layer) :=
  .ite h h.runLfsrs.setLayer.fixCalLayer.fixGauge

theorem Served.ungate {layer : Nat} (h : Served s t) : Served s (t.ungate layer) :=
  .ite h (.takeDivider (h.forAll fun _ _ k => k.setPc.clr))

theorem Served.abortSr {pc : Nat} (h : Served s t) : Served s (t.abortSr pc) := h.setPc.refreshed.clr.bump.clr

theorem Served.rouse {pc : Nat} {who : Nat × Nat × Nat} (h : Served s t) : Served s (t.rouse pc who) :=
  .ite h.abortSr (.ite h.ungate.setPc.put h)

theorem Served.exitSr {pc : Nat} (h : Served s t) : Served s (t.exitSr pc) := by
  unfold State.exitSr
  extract_lets t₁ _ t₂ t₃ _ _ _ _ t₄ t₅
  have h₁ : Served s t₁ := h.runDomain
  have h₂ : Served s t₂ := h₁.advanceTo
  have h₃ : Served s t₃ := h₂.ungate
  have h₄ : Served s t₄ := h₃.setPc
  have h₅ : Served s t₅ := h₄.wrPc.cause.fixCal
  split
  · exact h₅
  · exact .ite h₅.longest.errReq h₅.longest

theorem Served.wakeForEngine {pc : Nat} {who : Nat × Nat × Nat} (h : Served s t) :
    Served s (t.wakeForEngine pc who) :=
  .setPc (.ite h.rouse.exitSr h.rouse)

theorem Served.engineRow {loc access master : Nat} (h : Served s t) : Served s (t.engineRow loc access master) :=
  .ite h.wakeForEngine h.wakeForEngine.activateRow

theorem Served.quireRows {q access master : Nat} (h : Served s t) : Served s (t.quireRows q access master) :=
  h.forAll fun _ _ k => k.engineRow

/-! ### Machine/RepairOps -/

theorem Served.addPoison {loc source : Nat} (h : Served s t) : Served s (t.addPoison loc source) :=
  .ite h (.ite h.upd h.upd)

theorem Served.dropPoison {loc : Nat} (h : Served s t) : Served s (t.dropPoison loc) := h.upd
theorem Served.dropWb {loc : Nat} (h : Served s t) : Served s (t.dropWb loc) := .ite h.setPc h

theorem Served.poisonLine {loc : Nat} {d : LineData} {source : Nat} (h : Served s t) :
    Served s (t.poisonLine loc d source) :=
  h.dropWb.setLine.addPoison

theorem Served.appendRecord (h : Served s t) : Served s t.appendRecord := h.put.upd

theorem Served.startMigrate {pc bank : Nat} (h : Served s t) : Served s (t.startMigrate pc bank) :=
  h.wr.wr.wr.setEng

theorem Served.dramEvent {page code pc bank row : Nat} (h : Served s t) :
    Served s (t.dramEvent page code pc bank row) :=
  h.report

theorem Served.spareBit {pc : Nat} (h : Served s t) : Served s (t.spareBit pc) := .ite h.setBit h.setBit

theorem Served.retireBank {loc : Nat} (h : Served s t) : Served s (t.retireBank loc) :=
  .ite h (.ite (.appendRecord (.ite h.wr.wr.spareBit.cause.dramEvent.upd.bump
    h.wr.wr.spareBit.cause.dramEvent.startMigrate)) h.cause.err)

theorem Served.triggerRepair {pc bank row : Nat} (h : Served s t) : Served s (t.triggerRepair pc bank row) :=
  .ite h h.upd

theorem Served.eraseLane {pc lane : Nat} (h : Served s t) : Served s (t.eraseLane pc lane) := by
  unfold State.eraseLane
  extract_lets n t₁
  have h₁ : Served s t₁ := .wr h.wr (by unfold Fld.pc; split <;> rfl)
  exact .ite h (.ite h₁.cause.err.appendRecord (.ite h h.setPc.err))

theorem Served.laneEvent {pc bank : Nat} {lanes : List Nat} (h : Served s t) :
    Served s (t.laneEvent pc bank lanes) :=
  h.forAll fun _ _ k => .ite k.setPc.bump.eraseLane k.setPc.bump

theorem Served.watchRow {pc bank row : Nat} {lanes : List Nat} (h : Served s t) :
    Served s (t.watchRow pc bank row lanes) := by
  unfold State.watchRow
  extract_lets _ hit t₁ _ _ _ t₂
  have h₁ : Served s t₁ := .ite h.triggerRepair h
  have h₂ : Served s t₂ := .ite h₁.setPc h₁.setPc.bump
  cases hit with
  | some w => exact .ite h₁ (.laneEvent (.ite h₁.setPc.triggerRepair h₁.setPc))
  | none => exact h₂.laneEvent

theorem Served.sendDove {m : DoveMsg} (h : Served s t) : Served s (t.sendDove m) :=
  .ite h (.ite h.upd h.upd.emit)

theorem Served.startRecovery {loc : Nat} {forTag lost : Bool} (h : Served s t) :
    Served s (t.startRecovery loc forTag lost) :=
  .ite h.upd h.upd.sendDove

theorem Served.checkerFault {code dpa access master : Nat} (h : Served s t) :
    Served s (t.checkerFault code dpa access master) :=
  h.bump.cause.errReq

theorem Served.countCorrected {pc n : Nat} (h : Served s t) : Served s (t.countCorrected pc n) :=
  h.setHeat.bump (by split <;> [rfl; split <;> rfl])

theorem Served.queueWriteback {pc loc : Nat} {l : StoredLine} (h : Served s t) :
    Served s (t.queueWriteback pc loc l) :=
  .ite h.setPc h

theorem Served.observe {v : Verdict} {dpa access master : Nat} (h : Served s t) :
    Served s (t.observe v dpa access master) := by
  unfold State.observe
  extract_lets _ _ t₁ t₂ t₃
  have h₁ : Served s t₁ := .ite h.countCorrected.errReq h
  have h₂ : Served s t₂ := .ite h h₁.queueWriteback.watchRow
  have h₃ : Served s t₃ := h₂.bump.cause.errReq
  split
  · exact h₂.bump
  · exact h₃.addPoison.retireBank
  · exact h₂

theorem Served.takeInjection {kind target : Nat} (h : Served s t) : Served s (t.takeInjection kind target).2 := by
  unfold State.takeInjection
  split
  · exact .snd h.upd
  · exact .snd h

theorem Served.encodeOut {loc : Nat} {l : StoredLine} {fails dpa access master : Nat} (h : Served s t) :
    Served s (t.encodeOut loc l fails dpa access master).2 := by
  unfold State.encodeOut
  extract_lets _ i k n _ t₁ t₂
  have h₀ : Served s k.2 := h.takeInjection.takeInjection
  have h₁ : Served s t₁ := .ite h₀.drawn h₀
  have h₂ : Served s t₂ := .ite h₁ h₁.count.cause
  split
  · exact .snd h₂
  · exact .snd h₂.errReq

theorem Served.engineRead {loc : Nat} {errs : List (Nat × Nat)} {agree : Bool} {access master : Nat} (h : Served s t)
    : Served s (t.engineRead loc errs agree access master).2 := by
  unfold State.engineRead
  extract_lets _ t₁ _ _ t₂ t₃ t₄ _ t₅ t₆
  have h₁ : Served s t₁ := h.engineRow.takeInjection
  have h₂ : Served s t₂ := h₁.checkerFault
  have h₃ : Served s t₃ := .ite h₂.errReq h₂
  have h₄ : Served s t₄ := h₁.observe
  have h₅ : Served s t₅ := .ite h₄.errReq h₄
  have h₆ : Served s t₆ := .ite h₅.startRecovery h₅
  split
  · exact .snd h
  · split
    · exact .snd h₃
    · exact .snd h₆

/-! ### Machine/KerfOps -/

theorem Served.setPush {q : Nat} {b : Bool} (h : Served s t) : Served s (t.setPush q b) := h.upd
theorem Served.setPull {q : Nat} {b : Bool} (h : Served s t) : Served s (t.setPull q b) := h.upd

theorem Served.demand {k q : Nat} (h : Served s t) : Served s (t.demand k q) :=
  .ite h (.ite h.setEng.bump h.bump.cause)

theorem Served.refillDemand {k : Nat} (h : Served s t) : Served s (t.refillDemand k) :=
  h.forAll fun _ _ k => .ite k.demand k

theorem Served.finishQuire {k q : Nat} (h : Served s t) : Served s (t.finishQuire k q) :=
  h.setEng.bump.refillDemand

theorem Served.forgetLines {lo hi : Nat} (h : Served s t) : Served s (t.forgetLines lo hi) := h.upd

theorem Served.clearSpan {lo hi : Nat} (h : Served s t) : Served s (t.clearSpan lo hi) :=
  h.clearLines.forgetLines

theorem Served.clearQuireNow {q : Nat} (h : Served s t) : Served s (t.clearQuireNow q) :=
  h.quireRows.clearSpan.markCleared.finishQuire.chargeEng

theorem Served.liftPoisoned {q : Nat} (h : Served s t) : Served s (t.liftPoisoned q) := by
  -- The kernel would run the body to compare it with its match: so the states on the way are named only, by `id`.
  generalize hF : @State.liftPoisoned = F
  delta State.liftPoisoned at hF
  subst hF
  beta_reduce
  extract_lets +onlyGivenNames lo t₁ t₂ t₃
  have h₃ : Served s t₃ := (h.replaceLines.forAll fun _ _ k => k.addPoison).bump.cause.err
  clear_value t₃
  revert t₃
  refine id fun t₃ h₃ => ?_
  extract_lets _ t₄ _ t₅
  have h₅ : Served s t₅ := h₃.setQuire.upd.fixBudget
  clear_value t₅
  revert t₅
  refine id fun t₅ h₅ => ?_
  split
  · exact .ite h₅.setPull h₅.setPush
  · exact h₅

theorem Served.liftQuireNow {q fails : Nat} (h : Served s t) : Served s (t.liftQuireNow q fails) := by
  unfold State.liftQuireNow
  extract_lets _ t₁ t₂
  have h₁ : Served s t₁ := h.quireRows.chargeEng.forgetLines
  have h₂ : Served s t₂ := by
    unfold t₂
    split
    · exact h₁.liftPoisoned
    · exact .setQuire (h₁.replaceLines.forAll fun _ _ k => k.addPoison)
  exact .finishQuire (.ite h₂.cause h₂)

theorem Served.serveDemands {k q n : Nat} (h : Served s t) : Served s (t.serveDemands k q n) := by
  induction n generalizing t with
  | zero => exact h
  | succ n ih =>
    unfold State.serveDemands
    extract_lets t₁ t₂
    have h₁ : Served s t₁ := by
      unfold t₁
      split
      · exact h
      · exact .ite h.clearQuireNow h.liftQuireNow
    have h₂ : Served s t₂ := .ite h₁.demand h₁
    exact .ite h (ih h₂)

theorem Served.ensureQuire {q : Nat} (h : Served s t) : Served s (t.ensureQuire q) := by
  unfold State.ensureQuire
  split
  · exact h.demand.serveDemands
  · exact h

/-! ### Machine/Access -/

theorem Served.busy {p : Nat} (h : Served s t) : Served s (t.busy p) := h.setPort

theorem Served.dropOld {port : Nat} (h : Served s t) : Served s (t.dropOld port) := by
  unfold State.dropOld
  exact h.bump.err

theorem Served.answerRead {r : Req} {d : Option LineData} (h : Served s t) : Served s (t.answerRead r d) := by
  unfold State.answerRead
  split
  · exact h.busy.emit
  · exact h.dropOld
  · exact h

theorem Served.answerWrite {r : Req} {good : Bool} (h : Served s t) : Served s (t.answerWrite r good) := by
  unfold State.answerWrite
  split
  · exact h.busy.emit.gpfWritten
  · exact h.dropOld.gpfWritten
  · exact h

theorem Served.tellLd {e : Err} {m : Nat × Nat} (h : Served s t) : Served s (t.tellLd e m) :=
  .ite h h.enterLog.aerDue

theorem Served.endRefused {r : Req} (h : Served s t) : Served s (t.endRefused r) :=
  .ite h.answerRead h.answerWrite

theorem Served.refuse {page code : Nat} {r : Req} (h : Served s t) : Served s (t.refuse page code r) := by
  unfold State.refuse
  extract_lets _ t₁ t₂
  have h₁ : Served s t₁ := h.log
  have h₂ : Served s t₂ := by
    unfold t₂
    split
    · exact h₁.tellLd
    · exact h₁.tellLd
    · exact h₁
  exact h₂.endRefused

theorem Served.refuseKey {r : Req} {code : Nat} (h : Served s t) : Served s (t.refuseKey r code) := by
  unfold State.refuseKey
  extract_lets t₁ t₂
  have h₁ : Served s t₁ := h.bump.cause
  have h₂ : Served s t₂ := by
    unfold t₂
    split
    · exact .ite h₁.bump h₁
    · exact h₁
  exact h₂.refuse

theorem Served.poisonEvent {r : Req} (h : Served s t) : Served s (t.poisonEvent r) := h.report

theorem Served.setCached {addr : Nat} {t' : Option TagLine} (h : Served s t) : Served s (t.setCached addr t') :=
  h.upd

theorem Served.writeBackTag {addr : Nat} {t' : TagLine} (h : Served s t) : Served s (t.writeBackTag addr t') :=
  .ite h.dropWb.setLine.setCached.charge h

theorem Served.flushTags (h : Served s t) : Served s t.flushTags := h.forAll fun _ _ k => k.writeBackTag

theorem Served.cacheTag {addr : Nat} {t' : TagLine} (h : Served s t) : Served s (t.cacheTag addr t') := by
  unfold State.cacheTag
  extract_lets _ _ t₁ t₂
  have h₁ : Served s t₁ := by
    unfold t₁
    split
    · exact h.writeBackTag
    · exact h
  have h₂ : Served s t₂ := .ite h₁.setCached.drawn h
  exact h₂.setCached

theorem Served.tagLost {addr dpa master : Nat} (h : Served s t) : Served s (t.tagLost addr dpa master) := by
  unfold State.tagLost
  extract_lets t₁ t₂ t₃
  have h₁ : Served s t₁ := by
    unfold t₁
    refine .forAll h (fun _ _ k => .ite k (.ite
      (.ite (.startRecovery (.poisonLine (.ite k.observe k))) (.poisonLine (.ite k.observe k)))
      (.report (.ite (.startRecovery (.poisonLine (.ite k.observe k))) (.poisonLine (.ite k.observe k))))))
  have h₂ : Served s t₂ := h₁.setLine.setCached
  have h₃ : Served s t₃ := h₂.markDirty.markDirty
  exact h₃.cause.log

theorem Served.fetchTag {r : Req} {f : LineFaults} (h : Served s t) : Served s (t.fetchTag r f).2 := by
  unfold State.fetchTag
  extract_lets _ _ t₁ _ t₂
  have h₁ : Served s t₁ := h.bump.charge.engineRow
  have h₂ : Served s t₂ := h₁.observe
  split
  · exact .snd h.bump
  · exact .snd h.tagLost
  · split
    · exact .snd h₂.tagLost
    · exact .snd h₂.cacheTag

theorem Served.writeTag {r : Req} {sel : Nat × KeySlot} {cipher : LineData} {fa : LineFaults} (h : Served s t) :
    Served s (t.writeTag r sel cipher fa) :=
  .ite h h.takeInjection.fetchTag.cacheTag

theorem Served.tagFailed (h : Served s t) : Served s t.tagFailed := h.bump.cause

theorem Served.openLine {r : Req} {v : Verdict} {fa : LineFaults} (h : Served s t) :
    Served s (t.openLine r v fa).2 := by
  unfold State.openLine
  extract_lets
  split
  · exact .snd h.errReq
  · split
    · exact .snd h
    · split
      · split
        · exact .snd h.fetchTag
        · exact .snd h.fetchTag
      · split
        · exact .snd h.fetchTag
        · exact .snd h.fetchTag.tagFailed.errReq

theorem Served.upset {loc : Nat} {f : LineFaults} (h : Served s t) : Served s (t.upset loc f).2 := by
  unfold State.upset
  exact .snd h.takeInjection.takeInjection

theorem Served.readLine {r : Req} {f : LineFaults} (h : Served s t) : Served s (t.readLine r f).2 := by
  unfold State.readLine
  extract_lets _ _ t₁ _ t₂
  have h₁ : Served s t₁ := h.upset
  have h₂ : Served s t₂ := h₁.observe
  split
  · exact .snd h₁
  · split
    · exact .snd h₁.checkerFault
    · split
      · exact .snd h₂
      · split
        · exact .snd h₂.startRecovery
        · exact .snd h₂.poisonEvent
      · split
        · exact .snd h₂.startRecovery
        · exact .snd h₂
      · exact h₂.openLine

theorem Served.joinRecovery {r : Req} (h : Served s t) : Served s (t.joinRecovery r) := h.upd

theorem Served.finishRead {r : Req} {f : LineFaults} (h : Served s t) : Served s (t.finishRead r f) := by
  unfold State.finishRead
  extract_lets
  split
  · exact h.readLine.answerRead
  · exact h.readLine.answerRead
  · exact h.readLine.joinRecovery

theorem Served.storeLine {r : Req} {d : LineData} {f : LineFaults} (h : Served s t) : Served s (t.storeLine r d f) :=
  .ite h.takeInjection.encodeOut.poisonLine.errReq
    (.ite h.takeInjection.encodeOut.poisonLine h.takeInjection.encodeOut.dropWb.setLine.dropPoison.writeTag)

theorem Served.discardWrite {r : Req} {d : LineData} {page code : Nat} (h : Served s t) :
    Served s (t.discardWrite r d page code) :=
  h.poisonLine.errReq

theorem Served.mergeWrite {r : Req} {f : LineFaults} {last tag : Bool} (h : Served s t) :
    Served s (t.mergeWrite r f last tag) := by
  unfold State.mergeWrite
  extract_lets _ _ _ _ t₁ _ t₂ _ _ _ t₃
  have h₁ : Served s t₁ := h.upset
  have h₂ : Served s t₂ := h₁.observe
  have h₃ : Served s t₃ := .ite h₂.fetchTag.bump.errReq h₂.fetchTag
  split
  · exact h₁.checkerFault.discardWrite
  · split
    · exact h₂.storeLine
    · exact .ite h₂.startRecovery.joinRecovery h₂.discardWrite
    · exact .ite h₂.startRecovery.joinRecovery h₂.discardWrite
    · split
      · exact h₂.errReq.discardWrite
      · split
        · exact h₂.storeLine
        · split
          · exact .ite h₂.fetchTag.joinRecovery h₂.fetchTag.discardWrite
          · exact .ite h₃.storeLine (.ite h₂.fetchTag.tagFailed.startRecovery.joinRecovery
              h₂.fetchTag.tagFailed.discardWrite)

theorem Served.finishWrite {r : Req} {f : LineFaults} (h : Served s t) : Served s (t.finishWrite r f) :=
  .ite h.poisonLine (.ite h.mergeWrite h.storeLine)

theorem Served.perform {r : Req} (h : Served s t) : Served s (t.perform r) := .ite h.finishRead h.finishWrite

theorem Served.mirrorWrite {r : Req} (h : Served s t) : Served s (t.mirrorWrite r) := by
  unfold State.mirrorWrite
  extract_lets _ _ t₁ t₂
  have h₁ : Served s t₁ := h.upd
  have h₂ : Served s t₂ := .ite h₁.sendDove h₁
  split
  · exact h
  · exact .ite h (.ite h₂.charge.longest h.setPush)

theorem Served.completeWrite {r : Req} (h : Served s t) : Served s (t.completeWrite r) :=
  .answerWrite (.mirrorWrite (.charge (h.forAll fun _ _ k => k.markDirty)))

theorem Served.fixDrain {pc : Nat} (h : Served s t) : Served s (t.fixDrain pc) := .ite h.put (.ite h.clr h)
theorem Served.enqueue {pc : Nat} {r : Req} (h : Served s t) : Served s (t.enqueue pc r) := h.setPc.fixDrain

theorem Served.forward {w r : Req} (h : Served s t) : Served s (t.forward w r) := by
  unfold State.forward
  extract_lets _ t₁
  have h₁ : Served s t₁ := h.charge
  split
  · exact h₁.answerRead
  · exact h₁.answerRead

theorem Served.enter {pc : Nat} {r : Req} (h : Served s t) : Served s (t.enter pc r) := by
  unfold State.enter
  extract_lets t₁
  have h₁ : Served s t₁ := h.completeWrite
  split
  · exact .ite h.forward (.ite h₁.setPc h₁.setPc.perform)
  · exact .ite h.enqueue h₁.enqueue

theorem Served.waitQueue {r : Req} (h : Served s t) : Served s (t.waitQueue r) := h.cause.upd

theorem Served.intake {pc : Nat} {r : Req} (h : Served s t) : Served s (t.intake pc r) :=
  .ite h.hold (.ite h.waitQueue (.ite h.enter h.setPc))

theorem Served.snoop {p loc : Nat} {inval : Bool} (h : Served s t) : Served s (t.snoop p loc inval) :=
  .ite h (.ite h h.setPort.bump.emit)

theorem Served.stall {w : Wait} {r : Req} (h : Served s t) : Served s (t.stall w r) := by
  unfold State.stall
  extract_lets t₁
  have h₁ : Served s t₁ := by
    unfold t₁
    split
    · exact h.demand
    · exact h.snoop
    · exact h
  exact h₁.upd

theorem Served.trackRead {pc : Nat} {r : Req} (h : Served s t) : Served s (t.trackRead pc r) := by
  unfold State.trackRead
  split
  · split
    · exact h.intake
    · split
      · exact h.drawn.stall
      · exact h.setPort.intake
  · exact h.intake

theorem Served.serve {r : Req} (h : Served s t) : Served s (t.serve r) := by
  unfold State.serve
  split
  · exact h.stall
  · exact .ite h.joinRecovery h.rouse.trackRead

theorem Served.arrive {r : Req} (h : Served s t) : Served s (t.arrive r) := by
  unfold State.arrive
  split
  · exact h.refuseKey
  · exact .ite h.bump.refuse h.serve

theorem Served.stallEnds {w : Wait} {r : Req} (h : Served s t) : Served s (t.stallEnds w r) := by
  unfold State.stallEnds
  split
  · exact h.longest
  · exact h.longest
  · exact h

theorem Served.releaseStalled (h : Served s t) : Served s t.releaseStalled := by
  unfold State.releaseStalled
  extract_lets _ t₁ t₂
  have h₁ : Served s t₁ := h.upd
  have h₂ : Served s t₂ := h₁.forAll fun _ _ k => k.stallEnds.serve
  refine .forAll h₂ (fun u _ k => ?_)
  split
  · exact k.snoop
  · exact k

theorem Served.settle {pick : Nat → Bool} (h : Served s t) : Served s (t.settle pick) :=
  h.forAll fun _ _ k => .ite k (.fixDrain (.forAll (k.setPc.forAll fun _ _ l => l.perform) fun _ _ l => .ite l.perform
    (.ite l.hold l.completeWrite.perform)))

theorem Served.settleLine {loc : Nat} (h : Served s t) : Served s (t.settleLine loc) := h.settle

theorem Served.callBack {loc : Nat} {write : Bool} (h : Served s t) : Served s (t.callBack loc write) := by
  unfold State.callBack
  split
  · exact h.setPort.bump.emit
  · exact h

theorem Served.recall {l : List (Nat × Nat × Bool)} (h : Served s t) : Served s (t.recall l) :=
  h.forAll fun _ _ k => k.snoop

theorem Served.coherent {u : State} (h : Served s t) (hu : Served s u) : Served s (t.coherent u) :=
  .ite hu h.recall

theorem Served.ensure {q : Nat} (h : Served s t) : Served s (t.ensure q) := .ite h.ensureQuire.releaseStalled h

theorem Served.engineData {r : Req} (h : Served s t) : Served s (t.engineData r).2 := by
  unfold State.engineData
  exact h.ensure.settleLine.engineRow.charge.readLine

theorem Served.engineWrite {r : Req} (h : Served s t) : Served s (t.engineWrite r) :=
  .perform (.charge (h.ensure.settleLine.engineRow.callBack.forAll fun _ _ k => k.markDirty))

/-! ### Machine/FolioProg -/

theorem Served.readQuire {q : Nat} (h : Served s t) : Served s (t.readQuire q).2 := by
  unfold State.readQuire
  extract_lets lo t₁ o
  have h₁ : Served s t₁ := h.settle.quireRows
  clear_value lo t₁
  have h₂ : Served s o.2 := .foldl (π := fun a : Sparse StoredLine × State => a.2) h₁ fun _ _ k => k.engineRead
  exact .snd h₂

theorem Served.slotContents {c : Commit} {q : Nat} (h : Served s t) : Served s (t.slotContents c q).2 := by
  unfold State.slotContents
  split
  · exact .snd h
  · split
    · exact .snd h
    · exact .snd h.readQuire

theorem Served.programQuire {c : Commit} {q : Nat} {r : State × Commit} (h : Served s t)
    (hr : t.programQuire c q = some r) : Served s r.1 := by
  obtain ⟨o, ho, rfl⟩ := Option.map_eq_some_iff.1 hr
  exact .fst (h.nextSlot ho).slotContents.setSlot.chargeEng

theorem Served.pump {c : Commit} {n : Nat} (h : Served s t) : Served s (t.pump c n).1 := by
  induction n generalizing t c with
  | zero => exact h
  | succ n ih =>
    unfold State.pump
    split
    · exact h
    · split
      · exact ih h
      · split
        · rename_i hr
          exact ih (h.programQuire hr)
        · split
          · exact h
          · exact ih h

/-! ### Machine/ChiselOps -/

theorem Served.laneRead {ring key mark loc : Nat} (h : Served s t) : Served s (t.laneRead ring key mark loc).2 := by
  unfold State.laneRead
  extract_lets
  split
  · exact .snd h.refuseKey
  · split
    · exact .snd h.engineData
    · exact .snd h.engineData

theorem Served.laneWrite {ring key mark loc : Nat} {d : LineData} (h : Served s t) :
    Served s (t.laneWrite ring key mark loc d) := by
  unfold State.laneWrite
  extract_lets
  split
  · exact h.refuseKey
  · exact h.engineWrite

/-! ### Machine/DoveOps -/

theorem Served.failRecovery {r : Recovery} (h : Served s t) : Served s (t.failRecovery r) :=
  .releaseStalled (.forAll (.forAll (.ite h.upd.bump.cause.err.poisonLine h.upd.bump.cause.err) fun _ _ k =>
    k.poisonEvent.answerRead) fun _ _ k => k.mergeWrite)

/-! ### Machine/PowerOn -/

theorem Served.finishAccepted {r : Req} (h : Served s t) : Served s (t.finishAccepted r) :=
  .ite h.ensure.perform (.perform (.completeWrite (h.forAll fun _ _ k => k.ensure)))

theorem Served.drain (h : Served s t) : Served s t.drain :=
  .endHolding (.forAll (.upd (.settle (.forAll (h.upd.forAll fun _ _ k => k.arrive) fun _ _ k => k.failRecovery)))
    fun _ _ k => k.finishAccepted)

theorem Served.carryTo {a1 : Nat} (h : Served s t) : Served s (t.carryTo a1) :=
  .ite h.upd.bump.wr.cause.err h.upd.bump.wr.cause

theorem Served.carryTb (h : Served s t) : Served s t.carryTb := .ite h.carryTo.endWindow h
theorem Served.readyTb (h : Served s t) : Served s t.readyTb := .ite h h.readyDomain

theorem Served.wakeDomains (h : Served s t) : Served s t.wakeDomains :=
  .readyTb (.carryTb (h.forAll fun _ _ k => k.runDomain))

theorem Served.wakePcs (h : Served s t) : Served s t.wakePcs := h.forAll fun _ _ k => .ite k.exitSr k.clr

end Sys2Proof.Proofs

/-! # Checkpoints are ordered, queued, cancelled and started (R145, R147) -/

namespace Sys2Proof.Proofs

open Sys2Proof Sys2Proof.Machine Sys2Proof.Laws

variable {s t : State}

/-! ## A commit takes its number and programs its quires -/

theorem Served.appendSys {kind : Nat} (h : Served s t) : Served s (t.appendSys kind) := h.drawn.upd
theorem Served.reserveBsns (h : Served s t) : Served s t.reserveBsns := h.appendSys.upd.wr64

theorem Served.takeBsn {bind : Bool} (h : Served s t) : Served s (t.takeBsn bind).2 := by
  unfold State.takeBsn
  exact .snd (.ite h.appendSys.upd.reserveBsns h.appendSys.upd)

/-- Programming a quire leaves the commit of its kind. -/
theorem programQuire_kind {c : Commit} {q : Nat} {r : State × Commit} (h : s.programQuire c q = some r) :
    r.2.kind = c.kind := by
  obtain ⟨o, -, rfl⟩ := Option.map_eq_some_iff.1 h
  rfl

theorem pump_kind (c : Commit) (n : Nat) : (s.pump c n).2.kind = c.kind := by
  induction n generalizing s c with
  | zero => rfl
  | succ n ih =>
    unfold State.pump
    split
    · rfl
    · split
      · exact ih _
      · split
        · rename_i hr
          have hone := programQuire_kind hr
          exact (ih _).trans hone
        · split
          · rfl
          · exact ih _

/-! ## A Checkpoint starts -/

/-- A Checkpoint starts: it runs, the order is taken, and the life of the device goes on. -/
theorem startCheckpoint_starts (hpersists : s.persists = true) (hrun : s.folio.running = none) (hleft : 2 ≤ s.bsnLeft)
    (limited urgent : Bool) :
    ∃ c, (s.startCheckpoint limited urgent).folio.running = some c ∧ c.kind = (if limited then 3 else 2) ∧
      (s.startCheckpoint limited urgent).folio.ordered = none ∧ (s.startCheckpoint limited urgent).sys = s.sys := by
  have hgo : ¬(!s.persists || s.folio.running.isSome || decide (s.bsnLeft < 2)) = true := by
    simp only [hpersists, hrun, Bool.not_true, Option.isSome_none, Bool.false_or, decide_eq_true_eq]
    omega
  unfold State.startCheckpoint
  rw [if_neg hgo]
  extract_lets b reclaim c r
  have hserved : Served s r.1 := ((Served.refl s).takeBsn (bind := false)).pump
  exact ⟨r.2, rfl, pump_kind c 2, rfl, hserved.sys⟩

theorem folioActivity_of_checkpoint {c : Commit} (hrun : s.folio.running = some c) (hkind : c.kind = 2) :
    s.folioActivity = 2 := by
  simp [State.folioActivity, State.bindRuns, hrun, hkind]

/-- CHECKPOINT_START of a full Checkpoint that a host has ordered. -/
theorem checkpointStart_starts (hrun : s.folio.running = none) (hsafe : s.safe = false) (hserving : s.serving = true)
    (hbind : s.bindBusy = false) (hordered : s.folio.ordered = some 1) (hplimit : s.folio.plimit = false) :
    exec .checkpointStart s = .next (s.startCheckpoint false false) := by
  show execCheckpointStart s = _
  unfold execCheckpointStart
  rw [if_neg (by simp [hrun, hsafe, hserving, hbind]), hordered]
  simp [hplimit]

/-- CKPT_CANCEL while slots are in flight (R147). -/
theorem ckptCancel_cancels {who : Accessor} {c : Commit} (htakes : takes s who 0x1B = true)
    (hrun : s.folio.running = some c) (hkind : c.kind = 2 ∨ c.kind = 3) (hflight : c.flight ≠ []) :
    exec (.ckptCancel who) s =
      .next { s with folio := { s.folio with running := some { c with kind := 6, todo := [] } } } := by
  show execCkptCancel who s = _
  have hnot : ¬(c.kind ≠ 2 ∧ c.kind ≠ 3) := by omega
  rw [execCkptCancel, command_takes htakes, hrun]
  simp [hnot, hflight]

theorem orderCkpt_queues {c : Commit} (hrun : s.folio.running = some c) (kind : Nat) :
    s.orderCkpt kind = s.put FOLIO_STAT.ckpt_queued := by
  rw [State.orderCkpt, hrun]

theorem orderCkpt_orders (hrun : s.folio.running = none) (kind : Nat) :
    s.orderCkpt kind = { s with folio := { s.folio with ordered := some (max kind (s.folio.ordered.getD 0)) } } := by
  rw [State.orderCkpt, hrun]

/-- CKPT takes its order (R145). -/
theorem ckpt_orders {who : Accessor} (htakes : takes s who 0x1B = true) (hpersists : s.persists = true) :
    exec (.ckpt who) s = .next (s.orderCkpt 1) := by
  show execCkpt who s = _
  rw [execCkpt, command_takes htakes, if_pos hpersists]

/-- CKPT_LIMITED takes its order (R145). -/
theorem ckptLimited_orders {who : Accessor} (htakes : takes s who 0x1B = true) (hpersists : s.persists = true) :
    exec (.ckptLimited who) s = .next (s.orderCkpt 0) := by
  show execCkptLimited who s = _
  rw [execCkptLimited, command_takes htakes, if_pos hpersists]

/-- Settles O19: each command of FOLIO_CMD takes its order at once, and a start serves requests alone until it runs. -/
theorem checkpointsAreOrderedAndStarted : Obligations.CheckpointsAreOrderedAndStarted := by
  unfold Obligations.CheckpointsAreOrderedAndStarted
  refine ⟨fun who s htakes hpersists hrun => ?_, fun who s htakes hpersists hrun => ?_,
    fun who c s htakes hpersists hrun => ?_, fun who c s htakes hrun hkind hflight => ?_,
    fun s hrun hsafe hserving hbind hordered hplimit hpersists hleft => ?_⟩
  · refine ⟨_, (ckpt_orders htakes hpersists).trans (congrArg Host.Outcome.next (orderCkpt_orders hrun 1)), rfl,
      fun _ _ => rfl, rfl⟩
  · refine ⟨_, (ckptLimited_orders htakes hpersists).trans (congrArg Host.Outcome.next (orderCkpt_orders hrun 0)), ?_,
      fun _ _ => rfl, rfl⟩
    exact congrArg some (Nat.zero_max _)
  · refine ⟨_, (ckpt_orders htakes hpersists).trans (congrArg Host.Outcome.next (orderCkpt_queues hrun 1)),
      rd_put_self (by decide), ((Writes.refl s).wr (List.mem_singleton.2 rfl)).regs, frame_wr_flds _ _⟩
  · exact ⟨_, ckptCancel_cancels htakes hrun hkind hflight, rfl, fun _ _ => rfl, rfl⟩
  · obtain ⟨c, hsome, hkind, hnone, hsys⟩ := startCheckpoint_starts hpersists hrun hleft false false
    exact ⟨_, checkpointStart_starts hrun hsafe hserving hbind hordered hplimit, by rw [hsome]; rfl, hnone,
      folioActivity_of_checkpoint hsome hkind, hsys⟩

end Sys2Proof.Proofs

/-! # Chisel jobs end and are aborted (R246, R263, R267, R269) -/

namespace Sys2Proof.Proofs

open Sys2Proof Sys2Proof.Machine Sys2Proof.Laws

set_option Elab.async false

variable {s t : State}

/-! ## What a job does leaves the list of jobs to `dropJob` -/

theorem Served.holdEngine {master : Nat} (h : Served s t) : Served s (t.holdEngine master) :=
  .ite h h.beginHolding.upd

theorem Served.readStream {j : Job} {base n : Nat} (h : Served s t) : Served s (t.readStream j base n).2 := by
  induction n with
  | zero => exact h
  | succ n ih =>
    unfold State.readStream
    extract_lets
    split
    · exact ih
    · exact ih.laneRead

theorem Served.gather {j : Job} {aux : List LaneRead} {k n : Nat} {o : JobOut} (h : Served s t) :
    Served s (t.gather j aux k n o).2 := by
  induction n generalizing t k o with
  | zero => exact h
  | succ n ih =>
    unfold State.gather
    extract_lets
    split
    · split
      · exact ih h
      · exact h
    · split
      · exact ih h
      · extract_lets
        split
        · exact ih h.laneRead
        · split
          · exact ih h.laneRead
          · exact h.laneRead
        · exact h.laneRead

theorem Served.runJob {j : Job} (h : Served s t) : Served s (t.runJob j).2 := by
  generalize hr : t.runJob j = r
  unfold State.runJob at hr
  split at hr
  · exact hr ▸ .snd h
  · extract_lets src mask aux n total t₁ at hr
    have h₀ : Served s src.2 := by
      clear hr
      exact .iteSnd h h.readStream
    clear_value src
    have h₁ : Served s t₁ := h₀.readStream.readStream.wr64
    clear_value t₁
    exact hr ▸ .iteSnd h₁ (.iteSnd h₁ (.iteSnd (.snd h₁.gather) h₁))

theorem Served.writeResult {j : Job} {o : JobOut} (h : Served s t) : Served s (t.writeResult j o).2.2 := by
  unfold State.writeResult
  refine .foldl (π := fun a : Nat × Nat × State => a.2.2) h fun _ _ k => ?_
  extract_lets
  split
  · exact k
  · split
    · exact .thd k.refuseKey
    · exact .thd k.laneWrite

theorem Served.writeRecord {j : Job} {o : JobOut} {bytes : Nat} {irq : Bool} (h : Served s t) :
    Served s (t.writeRecord j o bytes irq) :=
  .ite h.laneWrite.count (.ite (.upd (.ite h.laneWrite.count.bump.bump h.laneWrite.count.bump.bump.cause))
    (.ite h.laneWrite.count.bump.bump h.laneWrite.count.bump.bump.cause))

theorem Served.chiselErr {code addr ring : Nat} (h : Served s t) : Served s (t.chiselErr code addr ring) := h.log

theorem Served.undefineResult {j : Job} (h : Served s t) : Served s (t.undefineResult j) :=
  .ite h (h.drawn.forAll fun _ _ k => k.laneWrite)

theorem Served.discardLate (h : Served s t) : Served s t.discardLate := .ite h.drawn h.drawn.count.cause

theorem Served.dropMsix {ring addr n : Nat} (h : Served s t) : Served s (t.dropMsix ring addr n) :=
  .ite h h.count.cause.chiselErr

theorem Served.pauseLane (h : Served s t) : Served s t.pauseLane := h.holdEngine.upd

theorem Served.resumeLane (h : Served s t) : Served s t.resumeLane := by
  unfold State.resumeLane
  split
  · exact h
  · exact h.upd.wr

/-! ## A job leaves the device -/

/-- Requests are served, a job leaves the device, and further requests are served. -/
structure Dropped (j : Job) (s t : State) : Prop where
  jobs : t.chisel.jobs = s.chisel.jobs.erase j
  regs : ∀ f ∈ standing, t.rd f = s.rd f
  lostEntries : t.folio.lostEntries = s.folio.lostEntries

theorem dropped_dropJob (j : Job) (h : Served s t) : Dropped j s (t.dropJob j) :=
  ⟨congrArg (List.erase · j) h.jobs, h.regs, h.lostEntries⟩

theorem Dropped.served {u : State} {j : Job} (h : Dropped j s t) (k : Served t u) : Dropped j s u :=
  ⟨k.jobs.trans h.jobs, fun f hf => (k.regs f hf).trans (h.regs f hf), k.lostEntries.trans h.lostEntries⟩

/-- A job that completes leaves the device, with its results and its record written (R244, R263). -/
theorem dropped_finishJob (j : Job) (agree : Bool) (lane : Nat) : Dropped j s (s.finishJob j agree lane) := by
  unfold State.finishJob
  split
  · exact (dropped_dropJob j (Served.refl s).undefineResult).served (Served.refl _).writeRecord.cause.chiselErr
  · extract_lets o w t₁ _ t₂
    have h₁ : Dropped j s t₁ := dropped_dropJob j (Served.refl s).runJob.writeResult
    have h₂ : Dropped j s t₂ := h₁.served (Served.refl t₁).writeRecord
    split
    · exact h₂.served (Served.refl t₂).chiselErr
    · exact h₂

/-- A job that is cut leaves the device, with its record written (R267, R269). -/
theorem dropped_cutJob (j : Job) (portReset : Bool) : Dropped j s (s.cutJob j portReset) := by
  unfold State.cutJob
  extract_lets ran t₁ t₂ t₃ t₄
  have h₁ : Served s t₁ := .ite (Served.refl s).undefineResult (Served.refl s)
  have h₂ : Dropped j s t₂ := dropped_dropJob j h₁
  have h₃ : Dropped j s t₃ := h₂.served (Served.refl t₂).writeRecord
  have h₄ : Dropped j s t₄ := h₃.served (.ite (Served.refl t₃).discardLate (Served.refl t₃))
  exact h₄.served (Served.refl t₄).dropMsix

/-- A job whose abort takes effect at once leaves the device. -/
theorem abortJob_at_once {j : Job} {portReset : Bool} (hcut : j.cut = none) (hpauses : s.jobPauses j = false) :
    s.abortJob j portReset = s.cutJob j portReset := by
  rw [State.abortJob, if_neg (by simp [hcut]), if_neg (by simp [hpauses])]

end Sys2Proof.Proofs

/-! # The rings of Chisel and their jobs (R248, R249, R254, R263, R265, R267) -/

namespace Sys2Proof.Proofs

open Sys2Proof Sys2Proof.Machine Sys2Proof.Laws

variable {s t : State}

/-! ## The registers of a ring -/

/-- A ring's own function writes its registers at once (R321). -/
theorem ringCommand_open {who : Accessor} {ring : RingNo} (h : ownRingOpen s who ring = true) (off : Nat)
    (act : State → State) : s.ringCommand who ring off act = act s := by
  simp only [ownRingOpen, State.regsOpen, Bool.and_eq_true, Bool.not_eq_true', decide_eq_true_eq, ne_eq] at h
  obtain ⟨⟨⟨⟨⟨hon, hrun⟩, hring⟩, hpresent⟩, hsafe⟩, hown⟩ := h
  cases who with
  | sideband => exact absurd hown Bool.false_ne_true
  | fn port ld =>
    have hown : masterOf port ld = ring := of_decide_eq_true hown
    simp [State.ringCommand, hring, hon, hrun, hown, hpresent, hsafe]

/-- CHISEL_RING_TAIL (R248). -/
theorem ringTail_sets {who : Accessor} {ring : RingNo} (h : ownRingOpen s who ring = true) (val : Word) :
    exec (.chiselRingTail who ring val) s =
      .next (s.wr (CHISEL_RING_TAIL.tail.ix ring) (val.toNat % 2 ^ 16 % s.ringSize ring)) :=
  congrArg Host.Outcome.next (ringCommand_open h _ _)

/-- A write of CHISEL_RING_CTL takes the size and the KeyID of a ring that is not enabled, and the vector (R248, R249). -/
def ringMarked (s : State) (ring v : Nat) : State :=
  State.wr (if s.on (CHISEL_RING_CTL.enable.ix ring) then s else
    (s.wr (CHISEL_RING_CTL.size_log2.ix ring) (clampTo 4 16 (v / 2 ^ 8 % 32))).wr
      (CHISEL_RING_CTL.keyid.ix ring) (v / 2 ^ 16 % 256)) (CHISEL_RING_CTL.msix_vec.ix ring) (v / 2 ^ 24 % 32)

/-- A ring that is not enabled has its head at its tail, and is not stalled. -/
def ringStopped (s : State) (ring : Nat) : State :=
  let s := s.clr (CHISEL_RING_CTL.enable.ix ring)
  (s.wr (CHISEL_RING_HEAD.head.ix ring) (s.rd (CHISEL_RING_TAIL.tail.ix ring))).clr (CHISEL_RING_STAT.stalled.ix ring)

theorem ringEnable_eq {who : Accessor} {ring : RingNo} (h : ownRingOpen s who ring = true) (val : Word) :
    exec (.chiselRingEnable who ring val) s = .next (if bitOf val.toNat 0 then
      (ringMarked s ring val.toNat).put (CHISEL_RING_CTL.enable.ix ring)
      else ringStopped ((ringMarked s ring val.toNat).abortRing ring false) ring) :=
  congrArg Host.Outcome.next (ringCommand_open h _ _)

/-- The fields of CHISEL_RING_CTL. -/
def ringCtlFields (ring : Nat) : List Fld :=
  [CHISEL_RING_CTL.enable.ix ring, CHISEL_RING_CTL.size_log2.ix ring, CHISEL_RING_CTL.keyid.ix ring,
    CHISEL_RING_CTL.msix_vec.ix ring]

theorem clampTo_le_hi {lo hi : Nat} (h : lo ≤ hi) (n : Nat) : clampTo lo hi n ≤ hi := by
  simp only [clampTo]
  omega

/-- An enable takes the size, between 2^4 and 2^16, and the KeyID (R248). -/
theorem ringMarked_enables {ring v : Nat} (hoff : s.on (CHISEL_RING_CTL.enable.ix ring) = false) :
    ((ringMarked s ring v).put (CHISEL_RING_CTL.enable.ix ring)).rd (CHISEL_RING_CTL.size_log2.ix ring) =
      clampTo 4 16 (v / 2 ^ 8 % 32) ∧
    ((ringMarked s ring v).put (CHISEL_RING_CTL.enable.ix ring)).rd (CHISEL_RING_CTL.keyid.ix ring) =
      v / 2 ^ 16 % 256 := by
  have hsize := clampTo_le_hi (lo := 4) (hi := 16) (by omega) (v / 2 ^ 8 % 32)
  rw [ringMarked, if_neg (ne_true_of_eq_false hoff), State.put_eq]
  constructor
  · rw [rd_wr_apart (by rfl), rd_wr_apart (by rfl), rd_wr_apart (by rfl)]
    exact rd_wr_lt (by show _ < 2 ^ 5; omega)
  · rw [rd_wr_apart (by rfl), rd_wr_apart (by rfl)]
    exact rd_wr_lt (by show _ < 2 ^ 8; omega)

theorem writes_ringMarked (ring v : Nat) : Writes (ringCtlFields ring) s (ringMarked s ring v) :=
  (Writes.ite (Writes.refl s) (((Writes.refl s).wr (by simp [ringCtlFields])).wr (by simp [ringCtlFields]))).wr
    (by simp [ringCtlFields])

/-- Nothing outside the register file has changed. -/
theorem frame_ringMarked (ring v : Nat) : ringMarked s ring v = { s with flds := (ringMarked s ring v).flds } := by
  unfold ringMarked
  split
  · rfl
  · rfl

theorem frame_ringStopped (ring : Nat) : ringStopped t ring = { t with flds := (ringStopped t ring).flds } := rfl

theorem ringStopped_stops (ring : Nat) : (ringStopped s ring).rd (CHISEL_RING_CTL.enable.ix ring) = 0 ∧
    (ringStopped s ring).rd (CHISEL_RING_STAT.stalled.ix ring) = 0 := by
  refine ⟨?_, State.rd_wr_self _ _ 0⟩
  rw [ringStopped, State.clr_eq, rd_wr_apart (by rfl), rd_wr_apart (by rfl), State.clr_eq]
  exact State.rd_wr_self _ _ 0

/-- A ring of which no job is under way has none to abort. -/
theorem abortRing_of_none {ring : Nat} (h : s.ringJobs ring = []) (portReset : Bool) : s.abortRing ring portReset = s := by
  rw [State.abortRing, h]
  rfl

/-! ## Descriptors and jobs -/

/-- The job of a descriptor (R249). -/
def jobOf (ring dpa : Nat) (lo hi : LineData) (startTb : Nat) : Job :=
  { ring := ring, dpa := dpa, lo := lo, hi := hi, started := false, startTb := startTb, early := none, cut := none }

/-- A good descriptor becomes a job, last of the list, and the head of its ring moves on (R249, R254). -/
theorem fetchDescriptor_takes {ring dpa : Nat} {lo hi : LineData} {a b : LaneRead × State} {u : State}
    (hdpa : dpa = s.ringEntry ring (s.rd (CHISEL_RING_HEAD.head.ix ring)))
    (ha : a = s.laneRead ring (s.rd (CHISEL_RING_CTL.keyid.ix ring)) 0 dpa)
    (hb : b = a.2.laneRead ring (s.rd (CHISEL_RING_CTL.keyid.ix ring)) 0 (dpa + 64))
    (hu : u = b.2.wr (CHISEL_RING_HEAD.head.ix ring) ((s.rd (CHISEL_RING_HEAD.head.ix ring) + 1) % s.ringSize ring))
    (hlo : a.1 = .data lo) (hhi : b.1 = .data hi)
    (hgood : u.goodRegion (jobOf ring dpa lo hi u.tbOr0).record 64 = true)
    (hstatus : u.descriptorStatus (jobOf ring dpa lo hi u.tbOr0) = none) (hcount : 0 < (jobOf ring dpa lo hi u.tbOr0).count) :
    s.fetchDescriptor ring =
      { u with chisel := { u.chisel with jobs := u.chisel.jobs ++ [jobOf ring dpa lo hi u.tbOr0] } } := by
  unfold State.fetchDescriptor
  simp only [← hdpa, ← ha, ← hb, ← hu, hlo, hhi]
  rw [show ({ ring := ring, dpa := dpa, lo := lo, hi := hi, started := false, startTb := u.tbOr0, early := none
              cut := none } : Job) = jobOf ring dpa lo hi u.tbOr0 from rfl]
  simp only [hgood, hstatus, Bool.not_true, Bool.false_eq_true, if_false, if_neg hcount.ne']

/-- DESCRIPTOR_FETCH of a ring that is in turn, where the effect calls no line back. -/
theorem descriptorFetch_fetches {ring : RingNo} (hmay : s.mayFetch ring = true)
    (hcalls : s.recalls (s.fetchDescriptor ring) = []) :
    exec (.descriptorFetch ring) s = .next { s.fetchDescriptor ring with
      chisel := { (s.fetchDescriptor ring).chisel with lastRing := ring } } := by
  show execDescriptorFetch ring s = _
  rw [execDescriptorFetch, if_pos hmay]
  exact congrArg Host.Outcome.next (if_pos hcalls)

/-- A job as it starts. -/
def jobStarted (s : State) (j : Job) : State :=
  { s with chisel := { s.chisel with jobs := s.chisel.jobs.map fun x =>
      if x = j then { j with started := true, startTb := s.tbOr0, early := none } else x } }

/-- JOB_START of a job whose KeyID's slot is loaded and may be used (R249, R260). -/
theorem jobStart_starts {ring : RingNo} {j : Job}
    (hfind : (s.ringJobs ring).find? (fun j => !j.started && j.cut.isNone) = some j) (hfence : s.fenceHolds j = false)
    (hloaded : (s.key (s.slotFor (locOf j.src) j.keyId)).loaded = true)
    (hpermitted : s.permitted ring (s.slotFor (locOf j.src) j.keyId) = true) :
    exec (.jobStart ring) s = .next (jobStarted s j) := by
  show execJobStart ring s = _
  unfold execJobStart
  simp only [hfind, hfence, hloaded, hpermitted, Bool.not_true, Bool.false_eq_true, if_false, Option.map_none]
  rfl

/-- JOB_COMPLETE of a job that has run, where the effect calls no line back. -/
theorem jobComplete_completes {ring : RingNo} {agree : Bool} {lane : PcNo} {j : Job}
    (hfind : (s.ringJobs ring).find? (fun j => j.started || j.cut.isSome) = some j) (hcut : j.cut = none)
    (hpauses : s.jobPauses j = false) (hcalls : s.recalls (s.resumeLane.finishJob j agree lane) = []) :
    exec (.jobComplete ring agree lane) s = .next (s.resumeLane.finishJob j agree lane) := by
  show execJobComplete ring agree lane s = _
  unfold execJobComplete
  simp only [hfind, hpauses, hcut, Bool.false_eq_true, if_false]
  exact congrArg Host.Outcome.next (if_pos hcalls)

/-- A message to a port that is awake goes out at once (R380). -/
theorem send_awake {p : Nat} {o : Out} (hreq : (s.port p).l1Req = false) (hstate : s.rd (PHY_STAT.pm_state.port p) = 0) :
    s.send p o = s.emit o := by
  simp [State.send, hreq, hstate]

/-- MSIX_SEND to a port that is awake (R265). -/
theorem msixSend_sends {r : Nat} {rest : List Nat} (hmsix : s.chisel.msix = r :: rest)
    (hreq : (s.port (r / 4)).l1Req = false) (hstate : s.rd (PHY_STAT.pm_state.port (r / 4)) = 0) :
    exec .msixSend s = .next (State.emit { s with chisel := { s.chisel with msix := rest } }
      (.msix (r / 4) (r % 4) (s.rd (CHISEL_RING_CTL.msix_vec.ix r)))) := by
  show execMsixSend s = _
  unfold execMsixSend
  rw [hmsix]
  exact congrArg Host.Outcome.next (send_awake hreq hstate)

/-- CHISEL_RING_ABORT of every job of a ring that has one, whose own outcome does not come first (R267). -/
theorem ringAbort_aborts {who : Accessor} {ring : RingNo} {val : Word} {j : Job} (h : ownRingOpen s who ring = true)
    (habort : bitOf val.toNat 24 = true) (hall : bitOf val.toNat 25 = true) (hjobs : s.ringJobs ring = [j]) :
    exec (.chiselRingAbort who ring val false) s = .next (s.abortJob j false) := by
  show execChiselRingAbort who ring val false s = _
  refine congrArg Host.Outcome.next ((ringCommand_open h _ _).trans ?_)
  simp only [habort, hall, hjobs, Bool.not_true, Bool.false_eq_true, if_false, Bool.true_or, List.filter_true]
  rfl

/-- Settles O28: each register of a ring is written as its rule says, and what a job reads and writes leaves the list of
jobs to the end of the job. -/
theorem chiselRingsAndJobs : Obligations.ChiselRingsAndJobs := by
  unfold Obligations.ChiselRingsAndJobs
  refine ⟨fun who ring val s hopen => ?_, fun who ring val s hopen hoff hbit => ?_,
    fun who ring val s hopen hjobs hbit => ?_,
    fun ring lo hi s hmay hlo hhi hgood hstatus hcount hcalls _ => ?_,
    fun ring j s hfind hfence hloaded hpermitted => ?_, fun ring lane j s hfind hcut hpauses hcalls => ?_,
    fun r rest s hmsix hreq hstate => ?_, fun who ring val j s hopen habort hall hjobs hcut hpauses => ?_⟩
  · refine ⟨_, ringTail_sets hopen val, rd_wr_lt ?_, ((Writes.refl s).wr (List.mem_singleton.2 rfl)).regs,
      frame_wr_flds _ _⟩
    have hle := Nat.mod_le (val.toNat % 2 ^ 16) (s.ringSize ring)
    have hlt : val.toNat % 2 ^ 16 < 2 ^ 16 := Nat.mod_lt _ (by decide)
    exact lt_of_le_of_lt hle hlt
  · obtain ⟨hsize, hkey⟩ := ringMarked_enables (v := val.toNat) hoff
    have hexec := ringEnable_eq hopen val
    rw [if_pos hbit] at hexec
    refine ⟨_, hexec, rd_put_self, hsize, hkey, ((writes_ringMarked _ _).wr (List.mem_cons_self)).regs, ?_⟩
    rw [State.put_eq, frame_wr_flds, frame_ringMarked]
  · have hidle : (ringMarked s ring val.toNat).ringJobs ring = [] := by
      rw [frame_ringMarked]
      exact hjobs
    have hexec := ringEnable_eq hopen val
    rw [if_neg (ne_true_of_eq_false hbit), abortRing_of_none hidle] at hexec
    obtain ⟨henable, hstalled⟩ := ringStopped_stops (s := ringMarked s ring val.toNat) ring
    refine ⟨_, hexec, henable, hstalled, ?_⟩
    rw [frame_ringStopped, frame_ringMarked]
  · have htakes := fetchDescriptor_takes rfl rfl rfl rfl hlo hhi hgood hstatus hcount
    refine ⟨_, descriptorFetch_fetches hmay hcalls, ?_, ?_⟩
    · rw [htakes]
      exact List.getLast?_concat
    · rw [htakes]
      exact State.rd_wr_self _ _ _
  · exact ⟨_, jobStart_starts hfind hfence hloaded hpermitted, rfl, fun _ _ => rfl, rfl⟩
  · refine ⟨_, jobComplete_completes hfind hcut hpauses hcalls, ?_⟩
    rw [(dropped_finishJob j false lane).jobs, (Served.refl s).resumeLane.jobs]
  · exact ⟨_, msixSend_sends hmsix hreq hstate, rfl, rfl, fun _ _ => rfl, rfl⟩
  · refine ⟨_, (ringAbort_aborts hopen habort hall hjobs).trans (congrArg Host.Outcome.next (abortJob_at_once hcut hpauses)),
      (dropped_cutJob j false).jobs⟩

end Sys2Proof.Proofs

/-! # Safe State is entered whatever is under way (R149, R518, R535), and flushes complete (R150)

`enteredSafe_of_calm` speaks of a device with nothing under way. Here the jobs, the Checkpoint and the tag cache that an
entry stops are whatever they are: none of that writes the registers that say what Safe State was entered for. -/

namespace Sys2Proof.Proofs

open Sys2Proof Sys2Proof.Machine Sys2Proof.Laws

variable {s t u : State}

/-! ## What stops leaves the standing registers -/

/-- Requests have been served and jobs aborted: the standing fields and the lost entries of the map are as they were. -/
structure Steady (s t : State) : Prop where
  regs : ∀ f ∈ standing, t.rd f = s.rd f
  lostEntries : t.folio.lostEntries = s.folio.lostEntries

theorem Steady.refl (s : State) : Steady s s := ⟨fun _ _ => rfl, rfl⟩

theorem Steady.trans (h : Steady s t) (k : Steady t u) : Steady s u :=
  ⟨fun f hf => (k.regs f hf).trans (h.regs f hf), k.lostEntries.trans h.lostEntries⟩

theorem Served.steady (h : Served s t) : Steady s t := ⟨h.regs, h.lostEntries⟩

theorem Dropped.steady {j : Job} (h : Dropped j s t) : Steady s t := ⟨h.regs, h.lostEntries⟩

theorem Steady.forAll {α : Type} {f : State → α → State} {l : List α} (h : Steady s t)
    (hf : ∀ u a, Steady s u → Steady s (f u a)) : Steady s (t.forAll l f) :=
  forAll_keeps (P := Steady s) hf l h

/-- A job that is aborted is cut at once, or marked to be cut once its writes may go on (R261, R267). -/
theorem steady_abortJob (j : Job) (portReset : Bool) : Steady s (s.abortJob j portReset) := by
  unfold State.abortJob
  split
  · exact .refl s
  · split
    · extract_lets j' 
      have hmarked : Steady s { s with chisel := { s.chisel with
          jobs := s.chisel.jobs.map fun x => if x = j then j' else x } } := ⟨fun _ _ => rfl, rfl⟩
      exact hmarked.trans (Served.refl _).pauseLane.steady
    · exact (dropped_cutJob j portReset).steady

theorem steady_abortRing (r : Nat) (portReset : Bool) : Steady s (s.abortRing r portReset) :=
  (Steady.refl s).forAll fun _ j k => k.trans (steady_abortJob j portReset)

/-- A Checkpoint that stops abandons its slots in flight (R149). -/
theorem steady_stopCheckpoint : Steady s s.stopCheckpoint := by
  unfold State.stopCheckpoint
  split
  · exact .refl s
  · rename_i c _
    split
    · exact .refl s
    · extract_lets w
      have h : Served s w := (Served.refl s).forAll fun _ _ k => k.setSlot
      exact h.steady.trans ⟨fun _ _ => rfl, rfl⟩

theorem Served.stopTimer {page : Nat} (h : Served s t) : Served s (t.stopTimer page) := h.clr.setPage
theorem Served.stopTimers (h : Served s t) : Served s t.stopTimers := h.forAll fun _ _ k => k.stopTimer
theorem Served.holdErrN (h : Served s t) : Served s t.holdErrN := .upd (.wr (.put (.ite h h.errPulseStart)))

/-! ## The entry -/

/-- An entry to Safe State records its trigger (R518), and then leaves the registers that stand as they are. -/
theorem steady_enterSafe (hsafe : s.safe = false) (page code : Nat) :
    Steady (safeCaused s page code) (s.enterSafe page code) ∧ (s.enterSafe page code).rd ERRPIN_SAFE_STAT.entered = 1 := by
  rw [State.enterSafe, if_neg (ne_true_of_eq_false hsafe)]
  extract_lets u₁ u₂ u₃ u₄ u₅ ub _ _ u₆
  have h₃ : Served (safeCaused s page code) u₃ :=
    (((Served.refl (safeCaused s page code)).stopTimers.wr64 (v := u₁.tb)).err).holdErrN.cause
  have h₄ : Steady u₃ u₄ := (Steady.refl u₃).forAll fun u r k =>
    (k.trans (steady_abortRing r false)).trans (Served.refl _).clr.steady
  have h₅ : Steady u₄ u₅ := (steady_stopCheckpoint (s := u₄)).trans (Served.refl u₄.stopCheckpoint).clr.flushTags.steady
  have hbind : Steady u₅ ub := (Served.refl u₅).put.steady
  clear_value u₃ u₄ ub u₅
  have h₆ : Steady u₅ u₆ := by
    unfold u₆
    split
    · exact ⟨fun f hf => hbind.regs f hf, rfl⟩
    · exact .refl u₅
  clear_value u₆
  refine ⟨(((h₃.steady.trans h₄).trans h₅).trans h₆).trans (Served.refl u₆).put.cause.steady, ?_⟩
  exact (rd_cause (by rfl) 3).trans rd_put_self

/-- Safe State has been entered for its trigger, whatever was under way (R518). -/
theorem enteredSafe_enterSafe {page code : Nat} (hsafe : s.safe = false) (hpage : page < 256) :
    EnteredSafe (s.enterSafe page code) page (code % 65536) := by
  obtain ⟨h, hentered⟩ := steady_enterSafe hsafe page code
  refine ⟨?_, ?_, ?_, hentered⟩
  · rw [h.regs _ (by decide), safeCaused, rd_wr_apart (by rfl), rd_wr_apart (by rfl)]
    exact rd_put_self
  · rw [h.regs _ (by decide), safeCaused, rd_wr_apart (by rfl)]
    exact rd_wr_lt hpage
  · rw [h.regs _ (by decide), safeCaused]
    exact State.rd_wr_self _ _ _

/-- An error of an Immediate reaction ends in Safe State, and leaves the lost entries of the map (R514, R515). -/
theorem errImmediate_stops (page code addr : Nat) :
    (s.errImmediate page code addr).safe = true ∧
      (s.errImmediate page code addr).folio.lostEntries = s.folio.lostEntries := by
  have herr : Served s (s.err page code addr) := (Served.refl s).err
  rw [State.errImmediate]
  by_cases hsafe : (s.err page code addr).safe = true
  · rw [State.enterSafe, if_pos hsafe]
    exact ⟨hsafe, herr.lostEntries⟩
  · obtain ⟨h, -⟩ := steady_enterSafe (Bool.eq_false_iff.2 hsafe) page code
    refine ⟨?_, h.lostEntries.trans herr.lostEntries⟩
    rw [State.safe, State.on, h.regs _ (by decide), safeCaused, rd_wr_apart (by rfl), rd_wr_apart (by rfl), rd_put_self]
    rfl

/-! ## Lost entries of the quire map (R535) -/

/-- The entries named are lost, and their quires Dirty (R520). -/
def entriesLost (s : State) (failed : List QuireNo) : State :=
  let lost := failed.map fun (q : QuireNo) => q.val
  ({ s with folio := { s.folio with lostEntries := (s.folio.lostEntries ++ lost).dedup } } : State).forAll lost
    fun s q => s.setQuire q { s.quire q with state := .dirty, wtime := s.now }

theorem lostEntries_entriesLost {failed : List QuireNo} {q : QuireNo} (hq : q ∈ failed) :
    q.val ∈ (entriesLost s failed).folio.lostEntries := by
  have h : Served { s with folio := { s.folio with
      lostEntries := (s.folio.lostEntries ++ failed.map fun (q : QuireNo) => q.val).dedup } } (entriesLost s failed) :=
    (Served.refl _).forAll fun _ _ k => k.setQuire
  rw [h.lostEntries]
  exact List.mem_dedup.2 (List.mem_append_right _ (List.mem_map_of_mem hq))

theorem quireMapSweep_loses {repaired failed : List QuireNo} {q : QuireNo} (hq : q ∈ failed) :
    ∃ n : Nat, exec (.quireMapSweep repaired failed) s = .next ((entriesLost s failed).errImmediate 0x07 0x1205 n) := by
  cases failed with
  | nil => cases hq
  | cons p l => exact ⟨p.val, rfl⟩

/-! ## Global Persistent Flush (R150) -/

theorem orderCkpt_keeps (kind : Nat) : (s.orderCkpt kind).out = s.out ∧
    (s.orderCkpt kind).rd (INT_STAT.causes.on 0x1B) = s.rd (INT_STAT.causes.on 0x1B) ∧
    (s.orderCkpt kind).lines = s.lines ∧ (s.orderCkpt kind).crypto = s.crypto := by
  unfold State.orderCkpt
  split
  · rw [State.put_eq]
    exact ⟨State.wr_out .., rd_wr_apart (by rfl) 1, State.wr_lines .., State.wr_crypto ..⟩
  · exact ⟨rfl, rfl, rfl, rfl⟩

/-- A Phase 2 request completes, with its cause, and a Checkpoint may be ordered. -/
theorem gpfDone_completes (w : GpfWait) :
    Out.gpf w.port w.ld w.tag 2 ∈ (s.gpfDone w).out ∧ bitOf ((s.gpfDone w).rd (INT_STAT.causes.on 0x1B)) 8 = true ∧
      (s.gpfDone w).lines = s.lines ∧ (s.gpfDone w).crypto = s.crypto := by
  have hcaused : Alerted (causeFields 0x1B) (s.emit (.gpf w.port w.ld w.tag 2)) ((s.emit (.gpf w.port w.ld w.tag 2)).cause 0x1B 9) :=
    alerted_cause 0x1B 9
  obtain ⟨l, hl, -⟩ := hcaused.out.grown
  have hout : Out.gpf w.port w.ld w.tag 2 ∈ ((s.emit (.gpf w.port w.ld w.tag 2)).cause 0x1B 9).out := by
    rw [hl]
    exact List.mem_append_right _ List.mem_cons_self
  have hbit : bitOf (((s.emit (.gpf w.port w.ld w.tag 2)).cause 0x1B 9).rd (INT_STAT.causes.on 0x1B)) 8 = true := by
    rw [bitOf_rd_cause (by decide)]
    exact Bool.or_true _
  have hlines : ((s.emit (.gpf w.port w.ld w.tag 2)).cause 0x1B 9).lines = s.lines := by rw [hcaused.frame]; rfl
  have hcrypto : ((s.emit (.gpf w.port w.ld w.tag 2)).cause 0x1B 9).crypto = s.crypto := by rw [hcaused.frame]; rfl
  unfold State.gpfDone
  extract_lets v
  obtain ⟨hvout, hvbit, hvlines, hvcrypto⟩ := orderCkpt_keeps (s := v) 1
  split
  · exact ⟨hvout ▸ hout, (congrArg (bitOf · 8) hvbit).trans hbit, hvlines.trans hlines, hvcrypto.trans hcrypto⟩
  · exact ⟨hout, hbit, hlines, hcrypto⟩

theorem frame_bump_emit (f : Fld) (o : Out) :
    (s.bump f).emit o = { s with flds := ((s.bump f).emit o).flds, out := ((s.bump f).emit o).out } := rfl

theorem gpfPhase1_answers {port : PortNo} {ld : LdNo} {tag : Nat} (hcarries : s.carries port ld = true) :
    exec (.gpfPhase1 port ld tag) s = .next ((s.bump FOLIO_GPF.count).emit (.gpf port ld tag 1)) := by
  show execGpfPhase1 port ld tag s = _
  simp [execGpfPhase1, hcarries]

theorem gpfPhase2_completes {port : PortNo} {ld : LdNo} {tag : Nat} (hcarries : s.carries port ld = true)
    (hopen : s.openWrites = []) : exec (.gpfPhase2 port ld tag) s =
      .next (s.gpfDone { port := port, ld := ld, tag := tag, open_ := s.openWrites }) := by
  show execGpfPhase2 port ld tag s = _
  simp [execGpfPhase2, hcarries, hopen]

theorem gpfPhase2_waits {port : PortNo} {ld : LdNo} {tag : Nat} (hcarries : s.carries port ld = true)
    (hopen : s.openWrites ≠ []) : exec (.gpfPhase2 port ld tag) s = .next { s with folio := { s.folio with
      gpf := s.folio.gpf ++ [{ port := port, ld := ld, tag := tag, open_ := s.openWrites }] } } := by
  show execGpfPhase2 port ld tag s = _
  simp [execGpfPhase2, hcarries, hopen]

/-- Settles O21: a flush completes once no write is open, and a lost entry stops the device whatever it was doing. -/
theorem flushCompletesAndLostEntriesStop : Obligations.FlushCompletesAndLostEntriesStop := by
  unfold Obligations.FlushCompletesAndLostEntriesStop
  refine ⟨fun port ld tag s hcarries => ?_, fun port ld tag s hcarries hopen => ?_,
    fun port ld tag s hcarries hopen => ?_, fun repaired failed q s hq => ?_, fun repaired s => rfl⟩
  · exact ⟨_, gpfPhase1_answers hcarries, rfl, rd_bump _, ((Writes.refl s).wr (List.mem_singleton.2 rfl)).regs,
      frame_bump_emit _ _⟩
  · exact ⟨_, gpfPhase2_completes hcarries hopen, gpfDone_completes _⟩
  · exact ⟨_, gpfPhase2_waits hcarries hopen, rfl, fun _ _ => rfl, rfl⟩
  · obtain ⟨n, hexec⟩ := quireMapSweep_loses (s := s) (repaired := repaired) hq
    obtain ⟨hsafe, hlost⟩ := errImmediate_stops (s := entriesLost s failed) 0x07 0x1205 n
    refine ⟨_, hexec, ?_, hsafe⟩
    rw [hlost]
    exact lostEntries_entriesLost hq

end Sys2Proof.Proofs

/-! # The end of power and the power-on reset (R22, R141, R434, R449, R456, R460) -/

namespace Sys2Proof.Proofs

open Sys2Proof Sys2Proof.Machine Sys2Proof.Laws

set_option Elab.async false

variable {s t u : State}

/-! ## The pins are released -/

/-- The pins are no longer driven: nothing but the pins, what they say and ERRPIN_STAT.driven has changed. -/
structure PinsFree (s t : State) : Prop where
  writes : Writes [ERRPIN_STAT.driven] s t
  frame : t = { s with flds := t.flds, out := t.out, pin := t.pin }
  grown : ∃ l, t.out = l ++ s.out

theorem PinsFree.refl (s : State) : PinsFree s s := ⟨.refl s, rfl, [], rfl⟩

theorem PinsFree.ite {c : Prop} [Decidable c] {a b : State} (ha : PinsFree s a) (hb : PinsFree s b) :
    PinsFree s (if c then a else b) := by
  split
  · exact ha
  · exact hb

theorem PinsFree.emit {o : Out} (h : PinsFree s t) : PinsFree s (t.emit o) := by
  obtain ⟨hw, hframe, l, hl⟩ := h
  exact ⟨hw.emit, congrArg (fun u => u.emit o) hframe, o :: l, congrArg (List.cons o) hl⟩

theorem pinsFree_wr {f : Fld} (v : Nat) (hf : f = ERRPIN_STAT.driven) : PinsFree s (s.wr f v) :=
  ⟨(Writes.refl s).wr (List.mem_singleton.2 hf), rfl, [], rfl⟩

theorem pinsFree_releasePins : PinsFree s s.releasePins := by
  unfold State.releasePins
  extract_lets t₁ t₂ t₃
  have h₁ : PinsFree s t₁ := .ite (PinsFree.emit (pinsFree_wr 0 rfl)) (.refl s)
  have h₂ : PinsFree s t₂ := .ite h₁.emit h₁
  have h₃ : PinsFree s t₃ := .ite h₂.emit h₂
  obtain ⟨hw, hframe, hgrown⟩ := h₃
  exact ⟨hw.flds rfl, congrArg (fun u => ({ u with pin := PinState.reset } : State)) hframe, hgrown⟩

/-! ## The power-on reset -/

/-- A power-on reset with its cause: what it resets, and what it keeps (R449, R460). -/
structure PoweredOn (cause : Nat) (s t : State) : Prop where
  phase : t.sys.phase = .starting
  now : t.now = s.now
  startAt : t.sys.startAt = s.now
  variant : t.sys.variant = s.sys.variant
  lines : t.lines = []
  keys : t.crypto.keys = []
  folio : t.folio = s.folio.powerOn
  otp : t.otp = s.otp
  recSeq : t.bist.recSeq = s.bist.recSeq
  stage : t.rd SYS_START_STAT.stage = 1
  memActive : t.rd SYS_START_STAT.mem_active = 0
  bus48 : t.rd BANK_PF_CTL.bus48 = (s.on BANK_PF_CTL.bus48).toNat
  falseAlarm : t.rd BANK_PF_LAST.false_alarm = s.rd BANK_PF_LAST.false_alarm
  cause : t.rd SYS_RST_CAUSE.cause = cause % 8
  grown : ∃ l, t.out = l ++ s.out

/-- The fields that a power-on reset writes once the registers have taken their reset values. -/
def powerOnFields : List Fld :=
  [SYS_STARTS.count, SYS_RST_CAUSE.cause, SYS_LC.restrictive, SYS_LC.otp_marginal, KERF_STACK_CFG.carve_out, SB_STAT.mode,
    SYS_SUPPLY.vaux_good, BANK_PF_CTL.bus48, BANK_PF_CTL.vin_thresh, BANK_PF_STAT.pfail]

/-- The register file of a power-on reset before those are written. -/
theorem rd_kept {fl : Sparse Nat} (hfl : fl = s.flds.filter fun e => keptAtPowerOn (e.1 / 131072 % 128) (e.1 / 32 % 4096))
    (ht : t.flds = fl) (f : Fld) : t.rd f =
      if keptAtPowerOn (f.key / 131072 % 128) (f.key / 32 % 4096) then s.rd f else Fld.resetVal f.key := by
  have hget := get_filter_key (dflt := Fld.resetVal) (fun k => keptAtPowerOn (k / 131072 % 128) (k / 32 % 4096)) s.flds f.key
  rw [State.rd, ht, hfl]
  exact hget

theorem poweredOn_powerOn (cause : Nat) (aoRan : Bool) : PoweredOn cause s (s.powerOn cause aoRan) := by
  unfold State.powerOn
  extract_lets u starts _ _ _ _ _ _ _ _ _ v v₁ v₂ v₃ v₄ v₅
  obtain ⟨hw, hframe, hgrown⟩ : PinsFree s u := pinsFree_releasePins
  have hbus : u.on BANK_PF_CTL.bus48 = s.on BANK_PF_CTL.bus48 := hw.on
  have hfalse : u.rd BANK_PF_LAST.false_alarm = s.rd BANK_PF_LAST.false_alarm := hw.rd
  have hrd := rd_kept (s := u) (t := v) rfl rfl
  have h₁ : Sets powerOnFields v v₁ := ((Sets.refl v).wr (by decide)).wr (by decide)
  have h₂ : Sets powerOnFields v v₂ := ((h₁.wr (by decide)).wr (by decide)).wr (by decide)
  have h₃ : Sets powerOnFields v v₃ := .ite (h₂.wr (by decide)) h₂
  have h₄ : Sets powerOnFields v v₄ := h₃.wr (by decide)
  have h₅ : Sets powerOnFields v v₅ := (h₄.wr (by decide)).wr (by decide)
  have hcause : v₃.rd SYS_RST_CAUSE.cause = cause % 8 := by
    have h : v₂.rd SYS_RST_CAUSE.cause = cause % 8 := by
      unfold v₂ v₁
      rw [State.clr_eq, State.clr_eq, State.clr_eq, rd_wr_apart (by rfl), rd_wr_apart (by rfl), rd_wr_apart (by rfl)]
      exact State.rd_wr_self _ _ _
    unfold v₃
    split
    · rw [rd_wr_apart (by rfl), h]
    · exact h
  have hbase : v.sys.phase = .starting ∧ v.now = u.now ∧ v.sys.startAt = u.now ∧ v.sys.variant = u.sys.variant ∧
      v.lines = [] ∧ v.crypto.keys = [] ∧ v.folio = u.folio.powerOn ∧ v.otp = u.otp ∧ v.bist.recSeq = u.bist.recSeq ∧
      v.out = u.out := ⟨rfl, rfl, rfl, rfl, rfl, rfl, rfl, rfl, rfl, rfl⟩
  have hreset : Fld.resetVal SYS_START_STAT.stage.key = 1 ∧ Fld.resetVal SYS_START_STAT.mem_active.key = 0 := by
    decide +kernel
  have hstage : v.rd SYS_START_STAT.stage = 1 := (hrd _).trans ((if_neg (by decide)).trans hreset.1)
  have hactive : v.rd SYS_START_STAT.mem_active = 0 := (hrd _).trans ((if_neg (by decide)).trans hreset.2)
  have halarm : v.rd BANK_PF_LAST.false_alarm = u.rd BANK_PF_LAST.false_alarm :=
    (hrd _).trans (if_pos (by decide))
  have hbus' : v₅.rd BANK_PF_CTL.bus48 = (s.on BANK_PF_CTL.bus48).toNat := by
    unfold v₅
    rw [rd_wr_apart (by rfl), State.wrb, hbus]
    cases s.on BANK_PF_CTL.bus48
    · exact State.rd_wr_self _ _ 0
    · exact State.rd_wr_self _ _ 1
  have hcause' : v₅.rd SYS_RST_CAUSE.cause = cause % 8 := by
    unfold v₅ v₄
    rw [rd_wr_apart (by rfl), State.wrb, rd_wr_apart (by rfl), State.wrb, rd_wr_apart (by rfl), hcause]
  clear_value v₅ v₄ v₃ v
  obtain ⟨hphase, hnow, hstart, hvariant, hlines, hkeys, hfolio, hotp, hseq, hout⟩ := hbase
  have hu : u.now = s.now ∧ u.sys = s.sys ∧ u.folio = s.folio ∧ u.otp = s.otp ∧ u.bist = s.bist := by
    rw [hframe]
    exact ⟨rfl, rfl, rfl, rfl, rfl⟩
  obtain ⟨hunow, husys, hufolio, huotp, hubist⟩ := hu
  have hlast : Sets powerOnFields v (v₅.wr BANK_PF_STAT.pfail (if u.bank.pfailLowAt.isSome then 1 else 0)) :=
    h₅.wr (by decide)
  have hlframe := hlast.frame
  have hsys := congrArg State.sys hlframe
  exact {
    phase := (congrArg SysState.phase hsys).trans hphase
    now := (congrArg State.now hlframe).trans (hnow.trans hunow)
    startAt := (congrArg SysState.startAt hsys).trans (hstart.trans hunow)
    variant := (congrArg SysState.variant hsys).trans (hvariant.trans (congrArg SysState.variant husys))
    lines := (congrArg State.lines hlframe).trans hlines
    keys := (congrArg (fun w : State => w.crypto.keys) hlframe).trans hkeys
    folio := (congrArg State.folio hlframe).trans (hfolio.trans (congrArg Folio.powerOn hufolio))
    otp := (congrArg State.otp hlframe).trans (hotp.trans huotp)
    recSeq := (congrArg (fun w : State => w.bist.recSeq) hlframe).trans (hseq.trans (congrArg BistState.recSeq hubist))
    stage := hlast.rd.trans hstage
    memActive := hlast.rd.trans hactive
    bus48 := (rd_wr_apart (by rfl) _).trans hbus'
    falseAlarm := hlast.rd.trans (halarm.trans hfalse)
    cause := (rd_wr_apart (by rfl) _).trans hcause'
    grown := (congrArg State.out hlframe).trans hout ▸ hgrown }

end Sys2Proof.Proofs

/-! # Power failures, and the Binds that follow them (R22, R141, R142, R144, R183, R185) -/

namespace Sys2Proof.Proofs

open Sys2Proof Sys2Proof.Machine Sys2Proof.Laws

set_option Elab.async false

variable {s t u : State}

/-! ## Links and self-tests end -/

/-- A loop that clears fields of one place. -/
theorem Served.clrAll {l : List Fld} {place : Fld → Fld} (h : Served s t)
    (hl : l.all (fun f => aloof (place f)) = true := by rfl) : Served s (t.forAll l fun u f => u.clr (place f)) := by
  induction l generalizing t with
  | nil => exact h
  | cons f l ih =>
    simp only [List.all_cons, Bool.and_eq_true] at hl
    exact ih (h.clr hl.1) hl.2

theorem Served.setLane {n : Nat} {v : LaneState} (h : Served s t) : Served s (t.setLane n v) := h.upd
theorem Served.doveDown (h : Served s t) : Served s t.doveDown := h.wr.wr.upd
theorem Served.doveTrain (h : Served s t) : Served s t.doveTrain := .ite h.wr.wr h

theorem Served.fixPort {p : Nat} (h : Served s t) : Served s (t.fixPort p) := h.forAll fun _ _ k => k.wr.wrb.wrb

theorem Served.clearLane {g n : Nat} (h : Served s t) : Served s (t.clearLane g n) := h.clrAll.setLane.wrb

theorem Served.linkDown {g : Nat} (h : Served s t) : Served s (t.linkDown g) := by
  unfold State.linkDown
  extract_lets was t₁ t₂ t₃ _ t₄ t₅
  have h₁ : Served s t₁ := h.clrAll
  have h₃ : Served s t₃ := (h₁.forAll fun _ _ k => k.clr).forAll fun _ _ k => k.clearLane
  have h₅ : Served s t₅ := h₃.setPort.fixPort.fixCal
  exact .ite h₅ h₅.cause

theorem Served.doveLanesDown (h : Served s t) : Served s t.doveLanesDown :=
  .fixCal (h.doveDown.clr.clr.forAll fun _ _ k => k.clearLane)

theorem Served.train {g : Nat} (h : Served s t) : Served s (t.train g) :=
  .ite (.setPort (.forAll (.ite h.doveTrain (.ite h.wr h)) fun _ _ k => k.clearLane)) (.ite h.doveTrain (.ite h.wr h))

theorem Served.closePort {p : Nat} {partFlit : Bool} (h : Served s t) : Served s (t.closePort p partFlit) :=
  .linkDown (.setPort (.upd (.wr (.ite h.bump.err h))))

theorem Served.lanesOff (h : Served s t) : Served s t.lanesOff := .doveLanesDown (h.forAll fun _ _ k => k.closePort)
theorem Served.pagesBack (h : Served s t) : Served s t.pagesBack := h.forAll fun _ _ k => .ite k.wr k

theorem Served.endStep (h : Served s t) : Served s t.endStep := by
  unfold State.endStep
  split
  · exact h
  · exact .ite h.upd.wr.setPort.train (.ite h.upd.wr.train h.upd.wr)

theorem Served.endOffline (h : Served s t) : Served s t.endOffline := .ite h.clr.pagesBack h
theorem Served.endBist {st : Nat} (h : Served s t) : Served s (t.endBist st) := h.upd.endStep.endOffline.wr
theorem Served.abandonStep (h : Served s t) : Served s t.abandonStep := .ite h h.upd.endBist

/-! ## The dip of VIN, and PFAIL_N (R183) -/

/-- The fields of a dip. -/
def dipFields : List Fld := [BANK_PF_STAT.vin_low, BANK_PF_STAT.bank_sw, SYS_SUPPLY.vin_good]

/-- The registers of a dip: the bank switch closes, and VIN_GOOD may fall. -/
def dipSeen (s : State) : State :=
  let s := (s.put BANK_PF_STAT.vin_low).put BANK_PF_STAT.bank_sw
  if s.rd BANK_PF_CTL.vin_thresh ≤ 88 then s.clr SYS_SUPPLY.vin_good else s

theorem dipSeen_closes : (dipSeen s).rd BANK_PF_STAT.vin_low = 1 ∧ (dipSeen s).rd BANK_PF_STAT.bank_sw = 1 ∧
    Sets dipFields s (dipSeen s) := by
  unfold dipSeen
  extract_lets v
  have hlow : v.rd BANK_PF_STAT.vin_low = 1 := by
    unfold v
    rw [State.put_eq, rd_wr_apart (by rfl), rd_put_self]
  have hsw : v.rd BANK_PF_STAT.bank_sw = 1 := rd_put_self
  have hv : Sets dipFields s v := ((Sets.refl s).wr (by decide)).wr (by decide)
  clear_value v
  split
  · rw [State.clr_eq]
    exact ⟨(rd_wr_apart (by rfl) _).trans hlow, (rd_wr_apart (by rfl) _).trans hsw, hv.wr (by decide)⟩
  · exact ⟨hlow, hsw, hv⟩

theorem vinBelowThreshold_dips (hphase : s.sys.phase ≠ .off) (hlow : s.on BANK_PF_STAT.vin_low = false) :
    exec .vinBelowThreshold s =
      .next { dipSeen s with bank := { (dipSeen s).bank with vinLowAt := some (dipSeen s).now } } := by
  show execVinBelowThreshold s = _
  unfold execVinBelowThreshold dipSeen
  rw [if_neg (by simp [hphase, hlow])]

/-- The registers of a dip that has ended before the filter expired. -/
def dipOver (s : State) : State :=
  let s := s.clr BANK_PF_STAT.vin_low
  ((if s.on BANK_STAT.measuring then s else s.clr BANK_PF_STAT.bank_sw).bump BANK_RIDETHRU.count).cause 0x1C 6

theorem dipOver_ends : (dipOver s).rd BANK_PF_STAT.vin_low = 0 ∧ CountedUp s (dipOver s) BANK_RIDETHRU.count ∧
    Logged s (dipOver s) := by
  unfold dipOver
  extract_lets v
  have hlow : v.rd BANK_PF_STAT.vin_low = 0 := State.rd_wr_self _ _ 0
  have hcount : v.rd BANK_RIDETHRU.count = s.rd BANK_RIDETHRU.count := rd_wr_apart (by rfl) _
  have hv : Logged s v := logged_wr _ _
  have hw : Sets [BANK_PF_STAT.bank_sw] v (if v.on BANK_STAT.measuring then v else v.clr BANK_PF_STAT.bank_sw) :=
    .ite (.refl v) ((Sets.refl v).wr (by decide))
  have hl : Logged v (if v.on BANK_STAT.measuring then v else v.clr BANK_PF_STAT.bank_sw) :=
    .ite (.refl v) (logged_wr _ _)
  clear_value v
  generalize (if v.on BANK_STAT.measuring then v else v.clr BANK_PF_STAT.bank_sw) = w at hw hl ⊢
  refine ⟨?_, ?_, ((hv.trans hl).bump _).trans (logged_cause _ _)⟩
  · rw [rd_cause (by rfl), State.bump_eq, rd_wr_apart (by rfl), hw.rd, hlow]
  · rw [CountedUp, rd_cause (by rfl), rd_bump, hw.rd, hcount]

theorem vinRecovered_ends (hlow : s.on BANK_PF_STAT.vin_low = true) (hoff : s.sys.phase ≠ .off)
    (hfailing : s.sys.phase ≠ .failing) :
    exec .vinRecovered s = .next (dipOver { s with bank := { s.bank with vinLowAt := none } }) := by
  show execVinRecovered s = _
  rw [execVinRecovered, if_neg (by simp [hlow])]
  exact if_neg (by rintro (h | h); exacts [hfailing h, hoff h])

theorem pfailNLow_sets (h : s.bank.pfailLowAt = none) : exec .pfailNLow s =
    .next (({ s with bank := { s.bank with pfailLowAt := some s.now } } : State).put BANK_PF_STAT.pfail) := by
  show execPfailNLow s = _
  rw [execPfailNLow, if_neg (by simp [h])]

theorem lowAt_wr (f : Fld) (at_ : Option Nat) (v : Nat) :
    let t := ({ s with bank := { s.bank with pfailLowAt := at_ } } : State).wr f v
    t.rd f = v % 2 ^ f.width ∧ t.bank.pfailLowAt = at_ ∧ SameRegs s t [f] ∧
      t = { s with flds := t.flds, bank := t.bank } :=
  ⟨State.rd_wr_self _ _ v, rfl, ((Writes.refl s).wr (List.mem_singleton.2 rfl)).regs, rfl⟩

/-! ## The end of power -/

/-- The fields that the end of power writes (R456). -/
def powerOffFields : List Fld :=
  [ERRPIN_STAT.driven, SYS_START_STAT.mem_active, SB_STAT.core_ready] ++
    (List.range 4).map fun p => PORT_LINK_STAT.mem_active.port p

/-- Power is off: nothing but those fields, the pins, what they say and the phase has changed. -/
structure PoweredOff (s t : State) : Prop where
  writes : Writes powerOffFields s t
  frame : t = { s with flds := t.flds, out := t.out, pin := t.pin, sys := { s.sys with phase := .off } }
  memActive : t.rd SYS_START_STAT.mem_active = 0

theorem poweredOff_powerOff : PoweredOff s s.powerOff := by
  unfold State.powerOff
  extract_lets _ v
  obtain ⟨hw, hframe, -⟩ : PinsFree { s with sys := { s.sys with phase := .off } } v := pinsFree_releasePins
  clear_value v
  have hports : ∀ w : State, Sets ((List.range 4).map fun p => PORT_LINK_STAT.mem_active.port p) w
      (w.forAll (List.range 4) fun s p => s.clr (PORT_LINK_STAT.mem_active.port p)) := fun w =>
    (Sets.refl w).forAllMem fun u p hp hu => hu.wr (List.mem_map_of_mem hp)
  have hclr : Sets powerOffFields v ((v.clr SYS_START_STAT.mem_active).clr SB_STAT.core_ready) :=
    ((Sets.refl v).wr (by decide)).wr (by decide)
  have hall := hclr.trans ((hports _).mono (List.subset_append_right _ _))
  have hdriven : Writes powerOffFields s v := ⟨(hw.mono (m := powerOffFields) (by decide)).regs⟩
  refine ⟨hdriven.trans hall.writes, ?_, ?_⟩
  · rw [hall.frame, hframe]
  · rw [(hports _).rd, State.clr_eq, rd_wr_apart (by rfl)]
    exact State.rd_wr_self _ _ 0

theorem on_wrb_self {f : Fld} (hf : f.width = 1) (b : Bool) : (s.wrb f b).on f = b := by
  have hrd : (s.wrb f b).rd f = (if b then 1 else 0) % 2 ^ f.width := State.rd_wr_self _ _ _
  rw [State.on, hrd, hf]
  cases b <;> rfl

/-- Power ends, with VIN good or not (R185, R443). -/
def powerEnds (s : State) (good : Bool) : State := ((s.storeTb).wrb BANK_PF_LAST.false_alarm good).wrb SYS_SUPPLY.vin_good good

theorem rd_powerEnds (good : Bool) : (powerEnds s good).rd BANK_PF_LAST.false_alarm = good.toNat := by
  rw [powerEnds, State.wrb, rd_wr_apart (by rfl), State.wrb]
  cases good
  · exact State.rd_wr_self _ _ 0
  · exact State.rd_wr_self _ _ 1

theorem folio_powerEnds (good : Bool) : (powerEnds s good).folio = s.folio := by
  rw [powerEnds, State.wrb, State.wr_folio, State.wrb, State.wr_folio]
  rfl

theorem endPower_eq (vin : Nat) : s.endPower vin = if decide (8800 < vin) then
    ((powerEnds s (decide (8800 < vin))).judgeBus vin).powerOn 3 true
    else ({ powerEnds s (decide (8800 < vin)) with
      sys := { (powerEnds s (decide (8800 < vin))).sys with afterBind := true } } : State).powerOff := rfl

/-- The end of power where VIN is not good: the device is off (R141, R443, R460). -/
theorem endPower_off {vin : Nat} (h : vin ≤ 8800) : (s.endPower vin).sys.phase = .off ∧
    (s.endPower vin).rd BANK_PF_LAST.false_alarm = 0 ∧ (s.endPower vin).folio = s.folio := by
  have hgood : decide (8800 < vin) = false := decide_eq_false (by omega)
  have halarm := rd_powerEnds (s := s) false
  have hfolio := folio_powerEnds (s := s) false
  rw [endPower_eq, hgood, if_neg Bool.false_ne_true]
  generalize powerEnds s false = w at halarm hfolio ⊢
  obtain ⟨hwrites, hframe, -⟩ := poweredOff_powerOff (s := { w with sys := { w.sys with afterBind := true } })
  refine ⟨?_, hwrites.rd.trans halarm, ?_⟩
  · rw [hframe]
  · rw [hframe]
    exact hfolio

/-- The end of power where VIN is good: the device starts afresh (R185, R443, R460). -/
theorem endPower_starts {vin : Nat} (h : 8800 < vin) : (s.endPower vin).sys.phase = .starting ∧
    (s.endPower vin).rd SYS_RST_CAUSE.cause = 3 ∧ (s.endPower vin).rd BANK_PF_LAST.false_alarm = 1 ∧
    (s.endPower vin).rd BANK_PF_CTL.bus48 = (if 24000 < vin then 1 else 0) ∧
    (s.endPower vin).folio = s.folio.powerOn := by
  have hgood : decide (8800 < vin) = true := decide_eq_true h
  have halarm := rd_powerEnds (s := s) true
  have hfolio := folio_powerEnds (s := s) true
  rw [endPower_eq, hgood, if_pos rfl]
  generalize powerEnds s true = w at halarm hfolio ⊢
  have hon := poweredOn_powerOn (s := w.judgeBus vin) 3 true
  refine ⟨hon.phase, hon.cause, ?_, ?_, ?_⟩
  · rw [hon.falseAlarm, State.judgeBus, State.wrb, rd_wr_apart (by rfl)]
    exact halarm
  · rw [hon.bus48, State.judgeBus, on_wrb_self rfl]
    by_cases hv : 24000 < vin
    · simp [hv]
    · simp [hv]
  · rw [hon.folio]
    exact congrArg Folio.powerOn hfolio

/-! ## The device stops for a Bind (R141) -/

/-- What stopping for a Bind leaves: the standing registers, the life of the device, the jobs and the Bind that is due;
and no Checkpoint runs (R149). -/
structure StoppedForBind (s t : State) : Prop where
  regs : ∀ f ∈ standing, t.rd f = s.rd f
  sys : t.sys = s.sys
  jobs : t.chisel.jobs = s.chisel.jobs
  bindDue : t.folio.bindDue = s.folio.bindDue
  running : s.bindRuns = false → t.folio.running = none

theorem stopCheckpoint_keeps : (∀ f, s.stopCheckpoint.rd f = s.rd f) ∧ s.stopCheckpoint.sys = s.sys ∧
    s.stopCheckpoint.chisel = s.chisel ∧ s.stopCheckpoint.folio.bindDue = s.folio.bindDue ∧
    (s.bindRuns = false → s.stopCheckpoint.folio.running = none) := by
  have hslots : ∀ (l : List (Nat × Nat)) (u : State), (u.forAll l fun s e => s.setSlot e.2 none) =
      { u with folio := { u.folio with slots := (u.forAll l fun s e => s.setSlot e.2 none).folio.slots } } := by
    intro l
    induction l with
    | nil => exact fun _ => rfl
    | cons e l ih => exact fun u => (ih (u.setSlot e.2 none)).trans rfl
  unfold State.stopCheckpoint
  split
  · rename_i hnone
    exact ⟨fun _ => rfl, rfl, rfl, rfl, fun _ => hnone⟩
  · rename_i c hsome
    split
    · rename_i hkind
      refine ⟨fun _ => rfl, rfl, rfl, rfl, fun hbind => ?_⟩
      rw [State.bindRuns, hsome] at hbind
      exact absurd hkind (of_decide_eq_false hbind)
    · rw [hslots]
      exact ⟨fun _ => rfl, rfl, rfl, rfl, fun _ => rfl⟩

theorem bindRuns_of_running (h : t.folio.running = s.folio.running) : t.bindRuns = s.bindRuns := by
  rw [State.bindRuns, State.bindRuns, h]

theorem stoppedForBind_stopForBind : StoppedForBind s s.stopForBind := by
  have hserved : Served s s.wakeDomains.drain.wakePcs := (Served.refl s).wakeDomains.drain.wakePcs
  rw [State.stopForBind]
  generalize s.wakeDomains.drain.wakePcs = u at hserved ⊢
  obtain ⟨hrd, hsys, hchisel, hdue, hrun⟩ := stopCheckpoint_keeps (s := u)
  have hflush : Served u.stopCheckpoint u.stopCheckpoint.flushTags := (Served.refl _).flushTags
  exact {
    regs := fun f hf => (hflush.regs f hf).trans ((hrd f).trans (hserved.regs f hf))
    sys := hflush.sys.trans (hsys.trans hserved.sys)
    jobs := hflush.jobs.trans ((congrArg ChiselState.jobs hchisel).trans hserved.jobs)
    bindDue := hflush.bindDue.trans (hdue.trans hserved.bindDue)
    running := fun hbind => hflush.running.trans (hrun ((bindRuns_of_running hserved.running).trans hbind)) }

/-! ## A power failure is declared (R183, R185) -/

/-- The input opens and the bank switch closes (R22, R141). -/
def inputOpened (s : State) (cause : Nat) : State :=
  ((s.put BANK_PF_STAT.input_open).put BANK_PF_STAT.bank_sw).wr BANK_PF_LAST.cause cause

theorem inputOpened_opens (cause : Nat) : (inputOpened s cause).rd BANK_PF_STAT.input_open = 1 ∧
    (inputOpened s cause).folio = s.folio := by
  refine ⟨?_, ?_⟩
  · rw [inputOpened, rd_wr_apart (by rfl), State.put_eq, rd_wr_apart (by rfl), rd_put_self]
  · rw [inputOpened, State.wr_folio, State.put_eq, State.wr_folio, State.put_eq, State.wr_folio]

/-- Power fails: the input opens, no job is left, and no Bind has begun or fallen due (R22, R141). -/
theorem failPower_fails (hbind : s.bindRuns = false) (cause : Nat) : (s.failPower cause).sys.phase = .failing ∧
    (s.failPower cause).rd BANK_PF_STAT.input_open = 1 ∧ (s.failPower cause).chisel.jobs = [] ∧
    (s.failPower cause).folio.bindDue = s.folio.bindDue ∧ (s.failPower cause).folio.running = none := by
  obtain ⟨hopen, hfolio⟩ := inputOpened_opens (s := s) cause
  unfold State.failPower
  rw [show ((s.put BANK_PF_STAT.input_open).put BANK_PF_STAT.bank_sw).wr BANK_PF_LAST.cause cause = inputOpened s cause
    from rfl]
  generalize inputOpened s cause = o at hopen hfolio ⊢
  extract_lets _ v₂ _ v₄ v₅ v₆ v₇ v₈ _
  have h₂ : Served o v₂ := (Served.refl o).clr.clr.clr
  have h₄ : Served o v₄ := h₂.upd
  clear_value v₄
  have h₅ : StoppedForBind { v₄ with chisel := ChiselState.reset } v₅ := stoppedForBind_stopForBind
  clear_value v₅
  have h₆ : Served v₅ v₆ := (Served.refl v₅).clr.clr
  have h₇ : Served v₅ v₇ := h₆.forAll fun _ _ k => .ite k k.stopRun.setCalMode
  have h₈ : Served v₅ v₈ := h₇.lanesOff.abandonStep
  clear_value v₈
  have hrunning : v₄.folio.running = s.folio.running := h₄.running.trans (congrArg Folio.running hfolio)
  have hbind' : State.bindRuns { v₄ with chisel := ChiselState.reset } = false :=
    (bindRuns_of_running (s := s) hrunning).trans hbind
  exact ⟨rfl, (h₈.regs _ (by decide)).trans ((h₅.regs _ (by decide)).trans ((h₄.regs _ (by decide)).trans hopen)),
    h₈.jobs.trans h₅.jobs, h₈.bindDue.trans (h₅.bindDue.trans (h₄.bindDue.trans (congrArg Folio.bindDue hfolio))),
    h₈.running.trans (h₅.running hbind')⟩

/-- POWER_FAIL_DECLARE in service: the Bind of kind 1 falls due (R141, R183, R185). -/
theorem powerFailDeclare_declares (hphase : s.sys.phase = .active) (hlow : s.on BANK_PF_STAT.vin_low = true)
    (hbind : s.bindRuns = false) (hsafe : s.safe = false) (hdue : s.folio.bindDue = none) :
    ∃ t, exec (.powerFailDeclare true false) s = .next t ∧ t.sys.phase = .failing ∧
      t.folio.bindDue = some (1, false) ∧ t.rd BANK_PF_STAT.input_open = 1 ∧ t.chisel.jobs = [] := by
  show ∃ t, execPowerFailDeclare true false s = .next t ∧ _
  unfold execPowerFailDeclare
  extract_lets vin pf at_ cause _ safe failed due
  have hvin : vin = true := hlow
  have hphase' : at_.sys.phase = .active := hphase
  have hsafe' : safe = false := hsafe
  have habandoned : at_.startAbandoned = false := by simp [State.startAbandoned, hphase']
  have hbound : at_.shutdownBound = false := by simp [State.shutdownBound, hphase']
  have hfail : failed.sys.phase = .failing ∧ failed.rd BANK_PF_STAT.input_open = 1 ∧ failed.chisel.jobs = [] ∧
      failed.folio.bindDue = none ∧ failed.folio.running = none := by
    have h := failPower_fails (s := at_) hbind cause
    exact hdue ▸ h
  obtain ⟨hfailing, hopen, hjobs, hnodue, hnone⟩ := hfail
  have hdue' : due = some (1, false) := by
    unfold due
    rw [hnodue]
  clear_value due failed
  have hruns : failed.bindRuns = false := by simp only [State.bindRuns, hnone]
  rw [if_neg (by simp [hphase, hvin]), if_neg (by simp [habandoned]), if_neg (by simp [hbound]), if_neg (by simp [hruns]),
    if_neg (by simp [hsafe']), hdue']
  exact ⟨_, rfl, hfailing, rfl, hopen, hjobs⟩

/-! ## The Bind begins and commits (R141, R144) -/

theorem Served.putColophon {i : Image} {p0 p1 : Bool} (h : Served s t) : Served s (t.putColophon i p0 p1) :=
  h.upd.wr64.wrb

theorem Served.lastCommit {i : Image} {us : Nat} (h : Served s t) : Served s (t.lastCommit i us) := h.wr.wr.wr

theorem Served.blowFuse_regs : ∀ f ∈ standing, s.blowFuse.rd f = s.rd f := by
  intro f hf
  unfold State.blowFuse
  split
  · rfl
  · rename_i n _
    extract_lets _ v
    have hv : v.rd f = s.rd f := rfl
    exact (((Served.refl v).clr (f := SYS_LC_STAT.busy)).wr (f := SYS_LC.next) |>.regs f hf).trans hv

/-- A Bind that begins runs, whatever it programs first (R141). -/
theorem beginBind_runs (kind : Nat) (safe : Bool) : (s.beginBind kind safe).folio.bindDue = none ∧
    ∃ c, (s.beginBind kind safe).folio.running = some c ∧ c.kind = kind := by
  unfold State.beginBind
  extract_lets v b c r
  exact ⟨rfl, r.2, rfl, pump_kind c _⟩

/-- BIND_START of a shutdown's Bind (R144): it commits even with nothing to program. -/
theorem bindStart_begins (hbind : s.bindRuns = false) (hdue : s.folio.bindDue = some (4, false))
    (hpersists : s.persists = true) : exec .bindStart s = .next (s.stopForBind.blowFuse.beginBind 4 false) := by
  have hpersists' : s.stopForBind.blowFuse.persists = true := by
    have hrd := (Served.blowFuse_regs (s := s.stopForBind) FOLIO_STAT.persist (by decide)).trans
      (stoppedForBind_stopForBind.regs FOLIO_STAT.persist (by decide))
    simpa only [State.persists, hrd] using hpersists
  show execBindStart s = _
  unfold execBindStart
  rw [if_neg (by simp [hbind]), hdue]
  exact if_neg (by simp [hpersists'])

theorem sys_commit (c : Commit) (p0 p1 : Bool) : (s.commit c p0 p1).sys = s.sys := by
  unfold State.commit
  extract_lets bind map kerfs f₀ s₁ f₁ f₂ s₂ f₃ s₃ i
  have h₃ : s₃.sys = s.sys := by
    show s₂.sys = s.sys
    unfold s₂
    split <;> rfl
  exact ((Served.refl s₃).putColophon.lastCommit.fixBudget.sys).trans h₃

/-- The mirror area goes into the image of a Bind that has committed (R278). -/
theorem bindDone_commits (c : Commit) (p0 p1 : Bool) : (s.bindDone c p0 p1).sys.phase = s.sys.phase ∧
    (s.bindDone c p0 p1).folio.running = none ∧ ∃ i, (s.bindDone c p0 p1).folio.image = some i ∧ i.bsn = c.bsn := by
  have hcommit := committed_commit (s := s) c p0 p1
  have hsys := sys_commit (s := s) c p0 p1
  unfold State.bindDone
  generalize s.commit c p0 p1 = v at hcommit hsys ⊢
  obtain ⟨-, hrun, ⟨i, himage, hbsn, -⟩, -⟩ := hcommit
  have hphase := congrArg SysState.phase hsys
  extract_lets _ _ w x _
  have hw : w.sys = v.sys ∧ w.folio.running = none ∧ w.folio.image = some i := ⟨rfl, hrun, himage⟩
  have hl : Logged w x := ((logged_wr _ _).wr _ _).trans (logged_cause _ _)
  clear_value x w
  obtain ⟨hwsys, hwrun, hwimage⟩ := hw
  split
  · have hfolio : x.folio = w.folio := folio_of_logged hl
    exact ⟨(congrArg SysState.phase hwsys).trans hphase, (congrArg Folio.running hfolio).trans hwrun, i,
      (congrArg Folio.image hfolio).trans hwimage, hbsn⟩
  · exact ⟨(congrArg SysState.phase hwsys).trans hphase, hwrun, i, hwimage, hbsn⟩

theorem afterBind_of_failing {safe : Bool} {vin : Nat} (hfailing : s.sys.phase = .failing) :
    s.afterBind safe vin = s.endPower vin := if_pos hfailing

/-- BIND_COMMIT of a power-fail Bind (R141, R185): the power ends. -/
theorem bindCommit_ends {c : Commit} {p0 p1 : Bool} {vin n : Nat} (hn : c.startAt + bindPs c.programmed = n)
    (hrun : s.folio.running = some c) (hkind : c.kind = 1)
    (htodo : c.todo = []) (hphase : s.sys.phase = .failing) (hgood : (p0 || p1) = true) :
    exec (.bindCommit p0 p1 vin) s = .next (((s.advanceTo n).bindDone c p0 p1).endPower vin) := by
  have hfailing : ((s.advanceTo n).bindDone c p0 p1).sys.phase = .failing :=
    (bindDone_commits c p0 p1).1.trans hphase
  show execBindCommit p0 p1 vin s = _
  unfold execBindCommit
  rw [hrun]
  dsimp only
  rw [if_neg (by simp [hkind, htodo]), if_pos hgood, hn, afterBind_of_failing hfailing]

/-- BIND_COMMIT of a Bind with nothing to write at a power failure (R142). -/
theorem bindCommit_empty {p0 p1 : Bool} {vin : Nat} (hrun : s.folio.running = none) (hempty : s.folio.bindEmpty = true)
    (hphase : s.sys.phase = .failing) : exec (.bindCommit p0 p1 vin) s =
      .next (({ s with folio := { s.folio with bindEmpty := false } } : State).endPower vin) := by
  show execBindCommit p0 p1 vin s = _
  unfold execBindCommit
  rw [hrun]
  exact congrArg Host.Outcome.next (if_pos ⟨hphase, hempty⟩)

/-- BANK_END_VOLTAGE of a device that runs from its bank (R144). -/
theorem bankEndVoltage_stops (hphase : s.sys.phase = .failing) : exec .bankEndVoltage s = .next (State.powerOff
    { s with folio := { s.folio with running := none, bindDue := none, bindEmpty := false } }) := by
  show execBankEndVoltage s = _
  rw [execBankEndVoltage, if_neg (by simp [hphase])]

/-- Settles O22: what stopping for a Bind serves leaves the Bind that is due, persistence and the open input, and the end
of power keeps the image. -/
theorem powerFailureLeadsToABind : Obligations.PowerFailureLeadsToABind := by
  unfold Obligations.PowerFailureLeadsToABind
  refine ⟨fun s hphase hlow => ?_, fun s hlow hoff hfailing => ?_, fun s hlow => ?_, fun s => ?_,
    fun s hphase hlow hbind hsafe hdue => powerFailDeclare_declares hphase hlow hbind hsafe hdue,
    fun s hbind hdue hpersists => ?_, fun c p0 p1 vin s hrun hkind htodo hphase hgood => ?_,
    fun p0 p1 vin s hrun hempty hphase => ?_, fun s hphase => ?_⟩
  · obtain ⟨hvin, hsw, hsets⟩ := dipSeen_closes (s := s)
    have hexec := vinBelowThreshold_dips hphase hlow
    have hnow := hsets.now
    have hframe := hsets.frame
    generalize dipSeen s = d at hvin hsw hsets hexec hnow hframe
    refine ⟨_, hexec, hvin, hsw, congrArg some hnow, hsets.regs, ?_⟩
    rw [hframe]
  · obtain ⟨hvin, hcount, hl⟩ := dipOver_ends (s := { s with bank := { s.bank with vinLowAt := none } })
    have hexec := vinRecovered_ends hlow hoff hfailing
    generalize dipOver { s with bank := { s.bank with vinLowAt := none } } = d at *
    refine ⟨_, hexec, hvin, ?_, hcount, hl.keepsData⟩
    rw [hl.frame]
  · obtain ⟨hrd, hbank, hregs, hframe⟩ := lowAt_wr (s := s) BANK_PF_STAT.pfail (some s.now) 1
    exact ⟨_, pfailNLow_sets hlow, hrd, hbank, hregs, hframe⟩
  · obtain ⟨hrd, hbank, hregs, hframe⟩ := lowAt_wr (s := s) BANK_PF_STAT.pfail none 0
    exact ⟨_, rfl, hrd, hbank, hregs, hframe⟩
  · obtain ⟨hnone, c, hrun, hkind⟩ := beginBind_runs (s := s.stopForBind.blowFuse) 4 false
    have hexec := bindStart_begins hbind hdue hpersists
    generalize s.stopForBind.blowFuse.beginBind 4 false = t at *
    refine ⟨t, hexec, hnone, ?_, ?_⟩
    · simp [State.bindRuns, hrun, hkind]
    · rw [hrun]
      exact congrArg some hkind
  · obtain ⟨n, hn⟩ : ∃ n, c.startAt + bindPs c.programmed = n := ⟨_, rfl⟩
    obtain ⟨-, hnone, i, himage, hbsn⟩ := bindDone_commits (s := s.advanceTo n) c p0 p1
    have hexec := bindCommit_ends (vin := vin) hn hrun hkind htodo hphase hgood
    generalize (s.advanceTo n).bindDone c p0 p1 = d at *
    have hbsn' : d.folio.image.map (·.bsn) = some c.bsn := by
      rw [himage]
      exact congrArg some hbsn
    rcases Nat.lt_or_ge 8800 vin with hvin | hvin
    · obtain ⟨hstart, hcause, halarm, hbus, hfolio⟩ := endPower_starts (s := d) hvin
      refine ⟨_, hexec, by rw [hfolio]; rfl, by rw [hfolio]; exact hbsn', fun h => absurd h (by omega),
        fun _ => ⟨hstart, hcause, halarm, hbus⟩⟩
    · obtain ⟨hoff, halarm, hfolio⟩ := endPower_off (s := d) hvin
      exact ⟨_, hexec, by rw [hfolio]; exact hnone, by rw [hfolio]; exact hbsn', fun _ => ⟨hoff, halarm⟩,
        fun h => absurd h (by omega)⟩
  · have hexec := bindCommit_empty (p0 := p0) (p1 := p1) (vin := vin) hrun hempty hphase
    rcases Nat.lt_or_ge 8800 vin with hvin | hvin
    · obtain ⟨hstart, hcause, halarm, -, hfolio⟩ :=
        endPower_starts (s := { s with folio := { s.folio with bindEmpty := false } }) hvin
      refine ⟨_, hexec, by rw [hfolio]; rfl, by rw [hfolio]; rfl, fun h => absurd h (by omega),
        fun _ => ⟨hstart, hcause, halarm⟩⟩
    · obtain ⟨hoff, halarm, hfolio⟩ := endPower_off (s := { s with folio := { s.folio with bindEmpty := false } }) hvin
      exact ⟨_, hexec, by rw [hfolio], by rw [hfolio], fun _ => ⟨hoff, halarm⟩, fun h => absurd h (by omega)⟩
  · obtain ⟨-, hframe, -⟩ := poweredOff_powerOff
      (s := { s with folio := { s.folio with running := none, bindDue := none, bindEmpty := false } })
    refine ⟨_, bankEndVoltage_stops hphase, ?_⟩
    rw [hframe]
    exact ⟨rfl, rfl, rfl, rfl, rfl⟩

end Sys2Proof.Proofs

/-! # The Reserve Bank is sampled and measured, and its EEPROM read and written (R172 to R174, R576 to R578) -/

namespace Sys2Proof.Proofs

open Sys2Proof Sys2Proof.Machine Sys2Proof.Laws

set_option Elab.async false

variable {s t u : State}

/-! ## What follows the bank -/

/-- Registers, reports and the order of a Checkpoint have followed the bank: nothing else has changed. -/
structure Follows (l : List Fld) (s t : State) : Prop where
  writes : Writes l s t
  frame : t = { s with flds := t.flds, out := t.out, pages := t.pages, ports := t.ports, lds := t.lds,
                       domains := t.domains, pin := t.pin, folio := { s.folio with ordered := t.folio.ordered } }

/-- The fields that energy and budget write. -/
def energyFields : List Fld := [BANK_ENERGY.mj, BANK_BUDGET_E.quires] ++ budgetFields

/-- The fields that the loss and the judgement of the bank write, with the budget that follows. -/
def judgedFields : List Fld := [BANK_STAT.presence, BANK_STAT.worn, BANK_STAT.esr_high] ++ energyFields

/-- The fields that what the EEPROM holds gives, with all that follows. -/
def eepromFields : List Fld :=
  [BANK_CAP.uf, BANK_ESR.esr, BANK_VEND.mv, BANK_RATED.cap_mf, BANK_RATED.volt_dv, BANK_MFG_DATE.year,
    BANK_MFG_DATE.month, BANK_MFG_DATE.day, BANK_CYCLES.count, BANK_STAT.foreign] ++ judgedFields

theorem budget_subset_energy : budgetFields ⊆ energyFields := List.subset_append_right _ _
theorem energy_subset_judged : energyFields ⊆ judgedFields := List.subset_append_right _ _
theorem judged_subset_eeprom : judgedFields ⊆ eepromFields := List.subset_append_right _ _

theorem err_subset_judged : errFields 0x1C ⊆ judgedFields := fun f hf =>
  energy_subset_judged (budget_subset_energy (by simp [budgetFields, hf]))

theorem cause_subset_judged : causeFields 0x1C ⊆ judgedFields := fun f hf =>
  energy_subset_judged (budget_subset_energy (by simp [budgetFields, levelFields, hf]))

section
variable {l m : List Fld}

theorem Follows.refl (s : State) : Follows l s s := ⟨.refl s, rfl⟩

theorem Follows.trans (h : Follows l s t) (k : Follows l t u) : Follows l s u :=
  ⟨h.writes.trans k.writes, by rw [k.frame, h.frame]⟩

theorem Follows.mono (h : Follows l s t) (hlm : l ⊆ m) : Follows m s t := ⟨h.writes.mono hlm, h.frame⟩

theorem Follows.logged (h : Follows l s t) (hw : Writes l t u) (hl : Logged t u) : Follows l s u :=
  ⟨h.writes.trans hw, by rw [hl.frame, h.frame]⟩

theorem Follows.ite {c : Prop} [Decidable c] {a b : State} (ha : Follows l s a) (hb : Follows l s b) :
    Follows l s (if c then a else b) := by
  split
  · exact ha
  · exact hb

theorem Follows.wr {f : Fld} {v : Nat} (h : Follows l s t) (hf : f ∈ l) : Follows l s (t.wr f v) :=
  h.logged ((Writes.refl t).wr hf) (logged_wr _ _)

theorem Follows.cause {page bit : Nat} (h : Follows l s t) (hl : causeFields page ⊆ l) : Follows l s (t.cause page bit) :=
  h.logged ((Writes.refl t).cause hl) (logged_cause _ _)

theorem Follows.err {page code addr : Nat} (h : Follows l s t) (hl : errFields page ⊆ l) :
    Follows l s (t.err page code addr) := h.logged ((Writes.refl t).err hl) (logged_err _ _ _)

theorem Follows.fixBudget (h : Follows l s t) (hl : budgetFields ⊆ l) : Follows l s t.fixBudget :=
  h.trans ⟨budgeted_fixBudget.writes.mono hl, budgeted_fixBudget.frame⟩

theorem Follows.fixEnergy (h : Follows l s t) (hl : energyFields ⊆ l) : Follows l s t.fixEnergy :=
  (h.wr (hl (.head _))).wr (hl (.tail _ (.head _)))

theorem Follows.followBank (h : Follows l s t) (hl : energyFields ⊆ l) : Follows l s t.followBank :=
  (h.fixEnergy hl).fixBudget (List.Subset.trans budget_subset_energy hl)

theorem Follows.bankLost (h : Follows l s t) (hl : judgedFields ⊆ l) : Follows l s t.bankLost :=
  ((h.wr (hl (.head _))).cause (List.Subset.trans cause_subset_judged hl)).err (List.Subset.trans err_subset_judged hl)

theorem Follows.judgeEsr {esr : Nat} {again : Bool} (h : Follows l s t) (hl : judgedFields ⊆ l) :
    Follows l s (t.judgeEsr esr again) := by
  have hput : Follows l s (t.wrb BANK_STAT.esr_high (decide (1390 < esr))) := h.wr (hl (.tail _ (.tail _ (.head _))))
  exact .ite ((hput.cause (List.Subset.trans cause_subset_judged hl)).err (List.Subset.trans err_subset_judged hl)) hput

theorem Follows.judgeBank {c esr : Nat} (h : Follows l s t) (hl : judgedFields ⊆ l) : Follows l s (t.judgeBank c esr) := by
  unfold State.judgeBank
  extract_lets worn t₁ t₂
  have h₁ : Follows l s t₁ := h.wr (hl (.tail _ (.head _)))
  have h₂ : Follows l s t₂ := .ite ((h₁.cause (List.Subset.trans cause_subset_judged hl)).err (List.Subset.trans err_subset_judged hl)) h₁
  exact h₂.judgeEsr hl

theorem Follows.lines (h : Follows l s t) : t.lines = s.lines := by rw [h.frame]
theorem Follows.crypto (h : Follows l s t) : t.crypto = s.crypto := by rw [h.frame]
theorem Follows.bank (h : Follows l s t) : t.bank = s.bank := by rw [h.frame]
theorem Follows.sb (h : Follows l s t) : t.sb = s.sb := by rw [h.frame]
theorem Follows.sys (h : Follows l s t) : t.sys = s.sys := by rw [h.frame]
theorem Follows.now (h : Follows l s t) : t.now = s.now := by rw [h.frame]

end

/-- Fields of the EEPROM's own are written. -/
theorem Follows.wrOwn {f : Fld} {v : Nat} (h : Follows eepromFields s t) (hf : f ∈ eepromFields.take 10) :
    Follows eepromFields s (t.wr f v) := h.wr (List.mem_of_mem_take hf)

theorem follows_provisional : Follows eepromFields s s.provisional := by
  unfold State.provisional
  split
  · exact .refl s
  · exact ((((Follows.refl s).wrOwn (by decide)).wrOwn (by decide)).wrOwn (by decide)).judgeEsr judged_subset_eeprom

theorem follows_bankFields : Follows eepromFields s s.bankFields := by
  unfold State.bankFields
  extract_lets t₁
  have h₁ : Follows eepromFields s t₁ := by
    unfold t₁
    split
    · exact (((((Follows.refl s).wrOwn (by decide)).wrOwn (by decide)).wrOwn (by decide)).wrOwn (by decide)).wrOwn
        (by decide)
    · exact .refl s
  clear_value t₁
  split
  · exact (h₁.wrOwn (by decide)).wrOwn (by decide)
  · exact (h₁.wrOwn (by decide)).wrOwn (by decide)

theorem follows_eeprom : Follows eepromFields s (s.bankFields.provisional.fixEnergy).fixBudget :=
  (follows_bankFields.trans follows_provisional).followBank (List.Subset.trans energy_subset_judged judged_subset_eeprom)

/-! ## The EEPROM is read (R576) -/

/-- What an EEPROM read keeps and sets (R576). -/
def EepromRead (d : EepromData) (s t : State) : Prop :=
  t.bank.eeprom = some d ∧ t.sb.retrying = none ∧ t.rd SB_BANK_STAT.last_ok = 1 ∧ t.lines = s.lines ∧
    t.crypto = s.crypto ∧ t.now = s.now

/-- The registers note that the EEPROM has answered, and its bytes are kept. -/
def eepromAnswered (s : State) (d : EepromData) : State :=
  { s with
    bank := { s.bank with eeprom := some d, eepromRead := true }
    sb := { s.sb with retrying := none, stuckRun := 0 } }

theorem eepromAnswered_reads {l : List Fld} (h : Sets l s t) (hok : t.rd SB_BANK_STAT.last_ok = 1) (d : EepromData) :
    EepromRead d s (eepromAnswered t d) := by
  rw [h.frame] at hok ⊢
  exact ⟨rfl, rfl, hok, rfl, rfl, rfl⟩

theorem EepromRead.follows {d : EepromData} {l : List Fld} (h : EepromRead d s t) (k : Follows l t u)
    (hl : clear l SB_BANK_STAT.last_ok = true) : EepromRead d s u := by
  obtain ⟨heeprom, hretry, hok, hlines, hcrypto, hnow⟩ := h
  exact ⟨(congrArg ReserveBank.eeprom k.bank).trans heeprom, (congrArg SidebandState.retrying k.sb).trans hretry,
    (k.writes.rd hl).trans hok, k.lines.trans hlines, k.crypto.trans hcrypto, k.now.trans hnow⟩

/-- The registers note that the EEPROM has answered. -/
def answerNoted (s : State) : State := ((s.put SB_BANK_STAT.present).put SB_BANK_STAT.last_ok).clr SB_BANK_STAT.busy

theorem answerNoted_sets : Sets [SB_BANK_STAT.present, SB_BANK_STAT.last_ok, SB_BANK_STAT.busy] s (answerNoted s) ∧
    (answerNoted s).rd SB_BANK_STAT.last_ok = 1 := by
  refine ⟨(((Sets.refl s).wr (by decide)).wr (by decide)).wr (by decide), ?_⟩
  rw [answerNoted, State.clr_eq, rd_wr_apart (by rfl), rd_put_self]

/-- What the bytes of an EEPROM give. -/
def eepromTakes (s : State) : State :=
  let s := if s.rd BANK_STAT.presence = 3 then s else s.wr BANK_STAT.presence s.presenceNow
  let s := if s.identified then s else s.err 0x1C 0x0601 0
  ((s.bankFields).provisional.fixEnergy).fixBudget

theorem follows_eepromTakes : Follows eepromFields s (eepromTakes s) := by
  unfold eepromTakes
  extract_lets t₁ t₂
  have h₁ : Follows judgedFields s t₁ := .ite (.refl s) ((Follows.refl s).wr (.head _))
  have h₂ : Follows judgedFields s t₂ := .ite h₁ (h₁.err err_subset_judged)
  exact (h₂.mono judged_subset_eeprom).trans follows_eeprom

theorem eepromRead_eq (d : EepromData) : s.eepromRead d = eepromTakes (eepromAnswered (answerNoted s) d) := rfl

/-- A read of the EEPROM that is answered (R168, R576). -/
theorem eepromRead_reads (d : EepromData) : EepromRead d s (s.eepromRead d) := by
  obtain ⟨hsets, hok⟩ := answerNoted_sets (s := s)
  rw [eepromRead_eq]
  exact (eepromAnswered_reads hsets hok d).follows follows_eepromTakes (by rfl)

theorem EepromRead.afterWr {d : EepromData} {f : Fld} {v : Nat} (h : EepromRead d (s.wr f v) t) : EepromRead d s t := h

theorem readEeprom_reads (d : EepromData) : EepromRead d s (s.readEeprom (some d)) :=
  EepromRead.afterWr (eepromRead_reads d)

theorem retry_frame (f g : Fld) (n : Option Nat) :
    let t := ({ s.wr f 0 with sb := { (s.wr f 0).sb with retrying := n } } : State).put g
    t.bank = s.bank ∧ t.lines = s.lines ∧ ∀ h, t.rd h = ((s.wr f 0).wr g 1).rd h := ⟨rfl, rfl, fun _ => rfl⟩

theorem readEeprom_none : s.readEeprom none =
    ({ s.wr SB_BANK_STAT.retries 0 with
      sb := { (s.wr SB_BANK_STAT.retries 0).sb with retrying := some 0 } } : State).put SB_BANK_STAT.busy := rfl

/-- A read of the EEPROM that is not acknowledged is retried (R576). -/
theorem readEeprom_waits : (s.readEeprom none).bank = s.bank ∧ (s.readEeprom none).lines = s.lines ∧
    (s.readEeprom none).rd SB_BANK_STAT.last_ok = s.rd SB_BANK_STAT.last_ok := by
  obtain ⟨hbank, hlines, hrd⟩ := retry_frame (s := s) SB_BANK_STAT.retries SB_BANK_STAT.busy (some 0)
  rw [readEeprom_none]
  refine ⟨hbank, hlines, (hrd _).trans ?_⟩
  rw [rd_wr_apart (by rfl), rd_wr_apart (by rfl)]

/-- EEPROM_REREAD that takes its write (R576). -/
theorem eepromReread_reads {who : Accessor} {data : Option EepromData} (htakes : takes s who 0x1C = true)
    (hpower : s.sys.vauxGood = true) (hidle : s.bank.recWrite = none) :
    exec (.eepromReread who data) s = .next (s.readEeprom data) := by
  show execEepromReread who data s = _
  rw [execEepromReread, command_takes htakes]
  simp only [hpower, hidle, Bool.not_true, Bool.false_eq_true, if_false, Option.isSome_none]

/-- BANK_BUS_RETRY that is answered (R576). -/
theorem bankBusRetry_reads {d : EepromData} {n : Nat} (hretry : s.sb.retrying = some n) :
    exec (.bankBusRetry (some d)) s = .next (((s.advance psMs).count SB_BANK_STAT.retries 1).eepromRead d) := by
  show execBankBusRetry (some d) s = _
  rw [execBankBusRetry, hretry]

/-- The bus has been cleared, and it is high again (R578). -/
def busCleared (s : State) : State :=
  (({ s with sb := { s.sb with stuckRun := 0 } } : State).bump SB_BANK_CLEARS.count).err 0x08 0x1503 0

theorem bankBusStuck_clears (hpower : s.sys.vauxGood = true) (hidle : s.bank.recWrite = none)
    (hretry : s.sb.retrying = none) : exec (.bankBusStuck false) s = .next (busCleared s) := by
  show execBankBusStuck false s = _
  rw [execBankBusStuck, if_neg (by simp [hpower, hidle, hretry])]
  rfl

theorem busCleared_clears : (busCleared s).sb.stuckRun = 0 ∧ CountedUp s (busCleared s) SB_BANK_CLEARS.count ∧
    KeepsData s (busCleared s) := by
  have hl : Logged (({ s with sb := { s.sb with stuckRun := 0 } } : State).bump SB_BANK_CLEARS.count) (busCleared s) :=
    logged_err _ _ _
  refine ⟨?_, ?_, hl.keepsData⟩
  · rw [hl.frame]
    rfl
  · exact (rd_err (by rfl) _ _).trans (rd_bump _)

/-! ## A record is written (R577) -/

/-- EEPROM_RECORD_WRITE of a due record. -/
theorem eepromRecordWrite_begins {k : Nat} (hdue : s.bank.recDue = some k) (hidle : s.bank.recWrite = none)
    (hretry : s.sb.retrying = none) (hread : s.bank.eeprom.isSome = true) (hpower : s.sys.vauxGood = true)
    (hbind : s.bindBusy = false) (hphase : s.sys.phase ≠ .failing) :
    exec .eepromRecordWrite s = .next (({ s with
      bank := { s.bank with recDue := none, recWrite := some (s.newRecord k, 1) } } : State).put SB_BANK_STAT.busy) := by
  show execEepromRecordWrite s = _
  rw [execEepromRecordWrite, hdue]
  exact if_neg (by simp [hidle, hretry, Option.isNone_eq_false_iff.2 hread, hpower, hbind, hphase])

theorem bank_put (f : Fld) (b : ReserveBank) (hf : 0 < f.width) :
    let t := ({ s with bank := b } : State).put f
    t.bank = b ∧ t.rd f = 1 ∧ SameRegs s t [f] ∧ t = { s with flds := t.flds, bank := t.bank } :=
  ⟨rfl, rd_put_self hf, ((Writes.refl s).wr (List.mem_singleton.2 rfl)).regs, rfl⟩

/-- The second page is written after the first. -/
theorem writeCycleDone_first {r : EepromRec} {ok : Bool} (hwrite : s.bank.recWrite = some (r, 1)) :
    exec (.eepromWriteCycleDone ok) s =
      .next (({ s with bank := { s.bank with recWrite := some (r, 2) } } : State).emit (.eepromWrite r.seq 1)) := by
  show execEepromWriteCycleDone ok s = _
  rw [execEepromWriteCycleDone, hwrite]
  rfl

/-- Both pages of the record are written. -/
def recordWritten (s : State) (r : EepromRec) : State :=
  ({ s with
    bank := { s.bank with eeprom := s.bank.eeprom.map fun d => EepromData.withRecord d r } } : State).emit
      (.eepromWrite r.seq 2)

/-- The slot has read back with the record. -/
def recordStands (s : State) (r : EepromRec) : State := ((recordWritten s r).put SB_BANK_STAT.last_ok).bankFields

theorem writeCycleDone_second {r : EepromRec} (hwrite : s.bank.recWrite = some (r, 2)) :
    exec (.eepromWriteCycleDone true) s = .next (recordStands s r).recordEnds := by
  show execEepromWriteCycleDone true s = _
  rw [execEepromWriteCycleDone, hwrite]
  rfl

theorem recordStands_stands (r : EepromRec) :
    (recordStands s r).bank.eeprom = s.bank.eeprom.map (fun d => EepromData.withRecord d r) ∧
      (recordStands s r).rd SB_BANK_STAT.last_ok = 1 ∧ (recordStands s r).lines = s.lines := by
  have h : Follows eepromFields ((recordWritten s r).put SB_BANK_STAT.last_ok) (recordStands s r) := follows_bankFields
  refine ⟨?_, h.writes.rd.trans rd_put_self, ?_⟩
  · rw [h.bank, State.put_eq, State.wr_bank]
    rfl
  · rw [h.lines, State.put_eq, State.wr_lines]
    rfl

/-- A record write ends, with the reread that waited for it. -/
theorem recordEnds_keeps (hok : s.rd SB_BANK_STAT.last_ok = 1) : s.recordEnds.bank.eeprom = s.bank.eeprom ∧
    s.recordEnds.rd SB_BANK_STAT.last_ok = 1 ∧ s.recordEnds.lines = s.lines := by
  unfold State.recordEnds
  extract_lets t₁ waits _ t₂
  have h₁ : t₁.bank = s.bank ∧ t₁.lines = s.lines := by
    unfold t₁
    rw [State.clr_eq, State.wr_bank, State.wr_lines]
    exact ⟨rfl, rfl⟩
  have hok₁ : t₁.rd SB_BANK_STAT.last_ok = 1 := (rd_wr_apart (by rfl) 0).trans hok
  clear_value t₁
  have heeprom : t₂.bank.eeprom = t₁.bank.eeprom := rfl
  have hlines : t₂.lines = t₁.lines := rfl
  have hok₂ : t₂.rd SB_BANK_STAT.last_ok = 1 := hok₁
  clear_value t₂
  split
  · cases hd : t₂.bank.eeprom with
    | none =>
      obtain ⟨hbank, hl, hrd⟩ := readEeprom_waits (s := t₂)
      exact ⟨(congrArg ReserveBank.eeprom hbank).trans (heeprom.trans (congrArg ReserveBank.eeprom h₁.1)),
        hrd.trans hok₂, hl.trans (hlines.trans h₁.2)⟩
    | some d =>
      obtain ⟨hread, -, hset, hl, -⟩ := readEeprom_reads (s := t₂) d
      exact ⟨hread.trans (hd.symm.trans (heeprom.trans (congrArg ReserveBank.eeprom h₁.1))), hset,
        hl.trans (hlines.trans h₁.2)⟩
  · exact ⟨heeprom.trans (congrArg ReserveBank.eeprom h₁.1), hok₂, hlines.trans h₁.2⟩

/-! ## A measurement begins and takes its samples (R173) -/

/-- The fields that the begin of a measurement writes. -/
def measureFields : List Fld := [BANK_STAT.measuring, BANK_STAT.charging, BANK_PF_STAT.bank_sw]

/-- The bank as a measurement begins. -/
def measuredFrom (s : State) (v0 : Nat) : ReserveBank :=
  { s.bank with measAt := s.now, v0 := v0 * 100, v1 := none, v2 := none, retryAt := none }

theorem beginMeasure_begins (v0 : Nat) (hidle : s.on BANK_STAT.measuring = false) (hoff : s.sys.phase ≠ .off)
    (hfailing : s.sys.phase ≠ .failing) :
    let t := s.beginMeasure v0
    t.rd BANK_STAT.measuring = 1 ∧ t.rd BANK_STAT.charging = 0 ∧ t.rd BANK_PF_STAT.bank_sw = 1 ∧
      t.bank = measuredFrom s v0 ∧ SameRegs s t measureFields ∧ t = { s with flds := t.flds, bank := t.bank } := by
  have hsets : Sets measureFields s (((s.put BANK_STAT.measuring).clr BANK_STAT.charging).put BANK_PF_STAT.bank_sw) :=
    (((Sets.refl s).wr (by decide)).wr (by decide)).wr (by decide)
  have hsw : (((s.put BANK_STAT.measuring).clr BANK_STAT.charging).put BANK_PF_STAT.bank_sw).rd BANK_PF_STAT.bank_sw = 1 :=
    rd_put_self
  have hcharge : (((s.put BANK_STAT.measuring).clr BANK_STAT.charging).put BANK_PF_STAT.bank_sw).rd BANK_STAT.charging = 0 :=
    (rd_wr_apart (by rfl) _).trans (State.rd_wr_self _ _ 0)
  have hmeas : (((s.put BANK_STAT.measuring).clr BANK_STAT.charging).put BANK_PF_STAT.bank_sw).rd BANK_STAT.measuring = 1 :=
    (rd_wr_apart (by rfl) _).trans ((rd_wr_apart (by rfl) _).trans rd_put_self)
  rw [State.beginMeasure, if_neg (by simp [hidle, hoff, hfailing])]
  generalize ((s.put BANK_STAT.measuring).clr BANK_STAT.charging).put BANK_PF_STAT.bank_sw = u at *
  have hframe := hsets.frame
  refine ⟨hmeas, hcharge, hsw, ?_, hsets.regs, ?_⟩
  · rw [hframe]
    rfl
  · rw [hframe]

/-- MEASURE that takes its write (R173). -/
theorem measure_begins {who : Accessor} {v : Nat} (htakes : takes s who 0x1C = true) :
    exec (.measure who v) s = .next (s.beginMeasure v) := congrArg Host.Outcome.next (command_takes htakes _ _)

/-- MEASURE_PERIOD_EXPIRY of a bank that has been measured (R173). -/
theorem measurePeriodExpiry_begins {v n : Nat} (hmeasured : s.bank.startMeasured = true ∨ s.bank.discards ≠ 0)
    (hpresent : s.present 0x1C = true) (hn : s.bank.measAt + s.rd BANK_MEAS_CTL.period_h * psH = n) :
    exec (.measurePeriodExpiry v) s = .next ((s.advanceTo n).beginMeasure v) := by
  show execMeasurePeriodExpiry v s = _
  rw [execMeasurePeriodExpiry, if_neg (by rcases hmeasured with h | h <;> simp [h, hpresent]), hn]

theorem measureRetry_begins {v r : Nat} (hretry : s.bank.retryAt = some r) :
    exec (.measureRetry v) s = .next ((s.advanceTo r).beginMeasure v) := by
  show execMeasureRetry v s = _
  rw [execMeasureRetry, hretry]

theorem measureSample_second {v n : Nat} (hmeas : s.on BANK_STAT.measuring = true) (hn : s.bank.measAt + 10 * psMs = n) :
    exec (.measureSample true v) s =
      .next { s.advanceTo n with bank := { s.bank with v2 := some v } } := by
  show execMeasureSample true v s = _
  rw [execMeasureSample, if_neg (by simp [hmeas]), if_pos rfl, hn]
  rfl

theorem measureSample_first {v n : Nat} (hmeas : s.on BANK_STAT.measuring = true) (hn : s.bank.measAt + 100 * psUs = n) :
    exec (.measureSample false v) s =
      .next { s.advanceTo n with bank := { s.bank with v1 := some v } } := by
  show execMeasureSample false v s = _
  rw [execMeasureSample, if_neg (by simp [hmeas]), if_neg Bool.false_ne_true, hn]
  rfl

theorem advanceTo_frame (n : Nat) (b : ReserveBank) :
    let t : State := { s.advanceTo n with bank := b }
    SameRegs s t [] ∧ t = { s with now := t.now, clk := t.clk, bank := t.bank } := ⟨fun _ _ => rfl, rfl⟩

/-! ## A measurement ends (R173 to R176) -/

/-- The fields that the end of a measurement writes before its values stand. -/
def measureEndFields : List Fld := [BANK_STAT.measuring, BANK_PF_STAT.bank_sw, BANK_STAT.charging]

theorem Sets.bank {l : List Fld} (h : Sets l s t) : t.bank = s.bank := by rw [h.frame]

/-- V3 is taken: the charger resumes. -/
def measureOver (s : State) (v3 : Nat) : State :=
  let s := (s.clr BANK_STAT.measuring).openSwitch
  s.wrb BANK_STAT.charging (s.chargerOn && decide (v3 / 100 < s.chargeTarget))

theorem measureOver_over (v3 : Nat) : Sets measureEndFields s (measureOver s v3) ∧
    (measureOver s v3).rd BANK_STAT.measuring = 0 := by
  have h₁ : Sets measureEndFields s (s.clr BANK_STAT.measuring) := (Sets.refl s).wr (by decide)
  have hmeas : (s.clr BANK_STAT.measuring).rd BANK_STAT.measuring = 0 := State.rd_wr_self _ _ 0
  unfold measureOver
  generalize s.clr BANK_STAT.measuring = u at *
  have h₂ : Sets [BANK_PF_STAT.bank_sw] u u.openSwitch := .ite (.refl u) ((Sets.refl u).wr (by decide))
  have h₃ : Sets measureEndFields s u.openSwitch := h₁.trans (h₂.mono (by decide))
  have hmeas₂ : u.openSwitch.rd BANK_STAT.measuring = 0 := h₂.rd.trans hmeas
  generalize u.openSwitch = w at *
  exact ⟨h₃.wr (by decide), (rd_wr_apart (by rfl) _).trans hmeas₂⟩

/-- MEASURE_END whose capacity and V3 are good. -/
theorem measureEnd_accepts {v1 v2 v3 n : Nat} (hmeas : s.on BANK_STAT.measuring = true) (h1 : s.bank.v1 = some v1)
    (h2 : s.bank.v2 = some v2) (hlt : v3 < v2) (hlow : 20000 ≤ 9500000000 / (v2 - v3))
    (hhigh : 9500000000 / (v2 - v3) ≤ 1000000) (hv3 : 1000000 ≤ v3) (hn : s.bank.measAt + 200 * psMs = n) :
    exec (.measureEnd v3) s = .next ((measureOver (s.advanceTo n) v3).acceptMeasure (9500000000 / (v2 - v3))
      (((measureOver (s.advanceTo n) v3).bank.v0 - v1) / 5) v3) := by
  show execMeasureEnd v3 s = _
  unfold execMeasureEnd
  rw [hmeas, h1, h2]
  dsimp only
  rw [hn, if_pos hlt, if_neg (by omega)]
  rfl

/-- C, ESR and the end voltage of a measurement are in force. -/
def valuesForced (s : State) (c esr : Nat) : State :=
  ((s.wr BANK_CAP.uf c).wr BANK_ESR.esr esr).wr BANK_VEND.mv (endVoltage esr)

/-- A measurement is counted with its time. -/
def measureCounted (s : State) : State :=
  ((s.put BANK_STAT.meas_valid).bump BANK_MEAS_CNT.count).wr64 BANK_MEAS_TIME_LO.time BANK_MEAS_TIME_HI.time s.tbOr0

/-- The values of a measurement stand. -/
def valuesStand (s : State) (c esr v3 : Nat) : State :=
  let s := { s with bank := { s.bank with discards := 0, startMeasured := true } }
  let s := measureCounted (valuesForced s c (min esr 0xFFFF))
  (s.wr BANK_STAT.presence s.presenceNow).wr BANK_VBANK.mv (v3 / 100)

theorem valuesForced_stand {c esr : Nat} (hc : c < 2 ^ 22) (hesr : esr < 2 ^ 16) :
    Sets [BANK_CAP.uf, BANK_ESR.esr, BANK_VEND.mv] s (valuesForced s c esr) ∧ (valuesForced s c esr).rd BANK_CAP.uf = c ∧
      (valuesForced s c esr).rd BANK_ESR.esr = esr := by
  refine ⟨(((Sets.refl s).wr (by decide)).wr (by decide)).wr (by decide), ?_, ?_⟩
  · rw [valuesForced, rd_wr_apart (by rfl), rd_wr_apart (by rfl)]
    exact rd_wr_lt hc
  · rw [valuesForced, rd_wr_apart (by rfl)]
    exact rd_wr_lt hesr

/-- The fields of the count of measurements. -/
def measureCountFields : List Fld :=
  [BANK_STAT.meas_valid, BANK_MEAS_CNT.count, BANK_MEAS_TIME_LO.time, BANK_MEAS_TIME_HI.time]

theorem measureCounted_counts : Sets measureCountFields s (measureCounted s) ∧
    (measureCounted s).rd BANK_STAT.meas_valid = 1 := by
  refine ⟨((((Sets.refl s).wr (by decide)).wr (by decide)).wr (by decide)).wr (by decide), ?_⟩
  rw [measureCounted, State.wr64, rd_wr_apart (by rfl), rd_wr_apart (by rfl), State.bump_eq, rd_wr_apart (by rfl)]
  exact rd_put_self

theorem valuesStand_stand {c : Nat} (hc : c < 2 ^ 22) (esr v3 : Nat) :
    let t := valuesStand s c esr v3
    t.rd BANK_CAP.uf = c ∧ t.rd BANK_ESR.esr = min esr 0xFFFF ∧ t.rd BANK_STAT.meas_valid = 1 ∧
      t.rd BANK_STAT.measuring = s.rd BANK_STAT.measuring ∧ t.lines = s.lines := by
  unfold valuesStand
  extract_lets _ t₁ t₂
  have hlines : t₁.lines = s.lines := rfl
  have hmeas : t₁.rd BANK_STAT.measuring = s.rd BANK_STAT.measuring := rfl
  clear_value t₁
  obtain ⟨hforced, hcap, hesr⟩ := valuesForced_stand (s := t₁) (esr := min esr 0xFFFF) hc (by omega)
  obtain ⟨hcounted, hvalid⟩ := measureCounted_counts (s := valuesForced t₁ c (min esr 0xFFFF))
  have hw : Writes [BANK_STAT.presence, BANK_VBANK.mv] t₂
      ((t₂.wr BANK_STAT.presence t₂.presenceNow).wr BANK_VBANK.mv (v3 / 100)) :=
    ((Writes.refl t₂).wr (by decide)).wr (by decide)
  refine ⟨?_, ?_, hw.rd.trans hvalid, ?_, ?_⟩
  · exact hw.rd.trans (hcounted.rd.trans hcap)
  · exact hw.rd.trans (hcounted.rd.trans hesr)
  · exact hw.rd.trans (hcounted.rd.trans (hforced.rd.trans hmeas))
  · rw [State.wr_lines, State.wr_lines]
    exact hcounted.keepsData.1.trans (hforced.keepsData.1.trans hlines)

theorem acceptMeasure_eq (c esr v3 : Nat) : s.acceptMeasure c esr v3 =
    ((((valuesStand s c esr v3).judgeBank c esr).cause 0x1C 1).dueRecord 0).followBank := rfl

/-- What the values of a measurement are judged for, and the record that falls due, leave. -/
theorem follows_acceptMeasure (c esr v3 : Nat) : Writes judgedFields (valuesStand s c esr v3) (s.acceptMeasure c esr v3) ∧
    (s.acceptMeasure c esr v3).lines = (valuesStand s c esr v3).lines := by
  have h : Follows judgedFields (valuesStand s c esr v3) (((valuesStand s c esr v3).judgeBank c esr).cause 0x1C 1) :=
    ((Follows.refl _).judgeBank (List.Subset.refl _)).cause cause_subset_judged
  have hdue : ∀ u : State, Follows judgedFields (u.dueRecord 0) (u.dueRecord 0).followBank := fun u =>
    (Follows.refl _).followBank energy_subset_judged
  rw [acceptMeasure_eq]
  generalize ((valuesStand s c esr v3).judgeBank c esr).cause 0x1C 1 = u at *
  exact ⟨(h.writes.flds (u := u.dueRecord 0) rfl).trans (hdue u).writes, (hdue u).lines.trans h.lines⟩


/-! ## The housekeeping round (R169, R171, R172, R535) -/

/-- A round begins. -/
def roundBegun (s : State) : State :=
  let s := match s.bank.roundAt with
    | some t => s.advanceTo (t + 10 * psMs)
    | none => s
  { s with bank := { s.bank with roundAt := some s.now } }

/-- A round has its samples. -/
def roundSampled (s : State) (v vin : Nat) (charge : ChargeCurrent) : State :=
  let s := s.sampleBank v charge.takenMa charge.headroomMa vin
  { s with bank := { s.bank with sampleMv := v } }

/-- Energy and budget follow the samples, or the bank is lost. -/
def roundFollowed (s : State) (prev v : Nat) : State :=
  let vend := s.rd BANK_VEND.mv
  let lost := decide (v + 2000 < prev) || (decide (vend ≤ prev) && decide (v < vend))
  if lost ∧ s.rd BANK_STAT.presence ≠ 3 then (s.fixEnergy.bankLost).fixBudget else s.followBank

/-- A cycle is counted, and the first measurement of a start begins. -/
def roundMeasured (s : State) (v : Nat) : State :=
  let s := s.countCycle v
  if !s.bank.startMeasured ∧ s.bank.discards = 0 ∧ 12000 ≤ v then s.beginMeasure v else s

/-- All of a round but the check of the detector. -/
def roundDone (s : State) (v vin : Nat) (charge : ChargeCurrent) : State :=
  if s.present 0x1C = true then
    roundMeasured (roundFollowed (roundSampled (roundBegun s) v vin charge) s.bank.sampleMv v) v
  else roundBegun s

/-- The bank of a round that begins at an instant. -/
def roundBank (s : State) (at_ : Nat) : ReserveBank := { s.bank with roundAt := some at_ }

theorem roundBegun_some {r n : Nat} (h : s.bank.roundAt = some r) (hn : r + 10 * psMs = n) :
    roundBegun s = { s.advanceTo n with bank := roundBank (s.advanceTo n) (s.advanceTo n).now } := by
  unfold roundBegun
  rw [h]
  dsimp only
  rw [hn]
  rfl

theorem roundBegun_none (h : s.bank.roundAt = none) : roundBegun s = { s with bank := roundBank s s.now } := by
  unfold roundBegun
  rw [h]
  rfl

/-- When a round begins. -/
def roundStart (s : State) : Nat :=
  match s.bank.roundAt with
  | some r => max s.now (r + 10000000000)
  | none => s.now

/-- What a round does once it has begun. -/
def roundFrom (s : State) (v vin : Nat) (charge : ChargeCurrent) : Result :=
  if !s.present 0x1C then .next (s.checkDetector vin)
  else .next ((roundMeasured (roundFollowed (roundSampled s v vin charge) s.bank.sampleMv v) v).checkDetector vin)

theorem roundBegun_begins : SameRegs s (roundBegun s) [] ∧ roundBegun s =
    { s with now := (roundBegun s).now, clk := (roundBegun s).clk, bank := roundBank s (roundStart s) } := by
  unfold roundStart
  cases h : s.bank.roundAt with
  | none =>
    rw [roundBegun_none h]
    exact ⟨fun _ _ => rfl, rfl⟩
  | some r =>
    obtain ⟨n, hn⟩ : ∃ n, r + 10 * psMs = n := ⟨_, rfl⟩
    have hn' : r + 10000000000 = n := hn
    dsimp only
    rw [hn', ← now_advanceTo n, roundBegun_some h hn]
    exact ⟨fun _ _ => rfl, rfl⟩

theorem housekeepingRound_runs {v vin : Nat} {charge : ChargeCurrent} (hoff : s.sys.phase ≠ .off) :
    exec (.bankHousekeepingRound v charge vin) s = .next ((roundDone s v vin charge).checkDetector vin) := by
  show execBankHousekeepingRound v charge vin s = _
  obtain ⟨hregs, hframe⟩ := roundBegun_begins (s := s)
  have hp : (roundBegun s).present 0x1C = s.present 0x1C := by
    have hlc : (roundBegun s).on SYS_LC.restrictive = s.on SYS_LC.restrictive := on_of_rd (hregs _ List.not_mem_nil)
    have hsys : (roundBegun s).sys = s.sys := by rw [hframe]
    rw [State.present, State.present, hlc, hsys]
  have hmv : (roundBegun s).bank.sampleMv = s.bank.sampleMv := by
    rw [hframe]
    rfl
  have hrun : execBankHousekeepingRound v charge vin s = roundFrom (roundBegun s) v vin charge := by
    rw [execBankHousekeepingRound, if_neg hoff]
    rfl
  rw [hrun, roundFrom, roundDone, hp, hmv]
  cases s.present 0x1C <;> rfl

/-! ## What a round leaves -/

/-- The fields that the samples write. -/
def sampleFields : List Fld :=
  [BANK_VIN.mv, BANK_ICHG.ma, SYS_SUPPLY.vbank_present, BANK_VBANK.mv, BANK_STAT.at_target, BANK_STAT.charging]

theorem sampleBank_samples (v i headroom vin : Nat) :
    let t := s.sampleBank v i headroom vin
    Sets sampleFields s t ∧ t.rd BANK_VIN.mv = min vin 0xFFFF ∧
      t.rd BANK_ICHG.ma = min (s.chargeNow v i headroom) 0xFFF := by
  unfold State.sampleBank
  extract_lets ma t₁ t₂ tgt t₃
  have hvin : t₁.rd BANK_VIN.mv = min vin 0xFFFF :=
    (rd_wr_apart (by rfl) _).trans ((rd_wr_apart (by rfl) _).trans (rd_wr_lt (Nat.lt_succ_of_le (Nat.min_le_right _ _))))
  have hma : t₁.rd BANK_ICHG.ma = min ma 0xFFF :=
    (rd_wr_apart (by rfl) _).trans (rd_wr_lt (Nat.lt_succ_of_le (Nat.min_le_right _ _)))
  have h₁ : Sets sampleFields s t₁ := (((Sets.refl s).wr (by decide)).wr (by decide)).wr (by decide)
  clear_value t₁
  have h₂ : Sets [BANK_VBANK.mv] t₁ t₂ := (Sets.refl t₁).wr (by decide)
  clear_value t₂
  have h₃ : Sets [BANK_STAT.at_target] t₂ t₃ := (Sets.refl t₂).wr (by decide)
  clear_value t₃
  have h₄ : Sets [BANK_STAT.charging] t₃ (t₃.wrb BANK_STAT.charging (t₃.chargerOn && decide (v < tgt))) :=
    (Sets.refl t₃).wr (by decide)
  have h : Sets [BANK_VBANK.mv, BANK_STAT.at_target, BANK_STAT.charging] t₁
      (t₃.wrb BANK_STAT.charging (t₃.chargerOn && decide (v < tgt))) :=
    ((h₂.mono (by decide)).trans (h₃.mono (by decide))).trans (h₄.mono (by decide))
  exact ⟨h₁.trans (h.mono (by decide)), h.rd.trans hvin, h.rd.trans hma⟩

theorem follows_roundFollowed (prev v : Nat) : Follows judgedFields s (roundFollowed s prev v) := by
  have hself : judgedFields ⊆ judgedFields := List.Subset.refl _
  have hbudget : budgetFields ⊆ judgedFields := List.Subset.trans budget_subset_energy energy_subset_judged
  exact .ite ((((Follows.refl s).fixEnergy energy_subset_judged).bankLost hself).fixBudget hbudget)
    ((Follows.refl s).followBank energy_subset_judged)

/-- Beside what a measurement writes, and what the bank notes of a cycle and of a measurement, a round keeps all. -/
structure Measured (s t : State) : Prop where
  regs : Writes measureFields s t
  frame : t = { s with flds := t.flds, bank := t.bank }
  sample : t.bank.sampleMv = s.bank.sampleMv
  round : t.bank.roundAt = s.bank.roundAt
  disagree : t.bank.vinDisagree = s.bank.vinDisagree

theorem measured_countCycle (v : Nat) : Measured s (s.countCycle v) := by
  unfold State.countCycle
  split
  · exact ⟨(Writes.refl s).flds rfl, rfl, rfl, rfl, rfl⟩
  · split
    · exact ⟨(Writes.refl s).flds rfl, rfl, rfl, rfl, rfl⟩
    · exact ⟨.refl s, rfl, rfl, rfl, rfl⟩

theorem measured_beginMeasure (v : Nat) : Measured s (s.beginMeasure v) := by
  by_cases h : (s.on BANK_STAT.measuring || decide (s.sys.phase = .off ∨ s.sys.phase = .failing)) = true
  · rw [State.beginMeasure, if_pos h]
    exact ⟨.refl s, rfl, rfl, rfl, rfl⟩
  · simp only [Bool.or_eq_true, decide_eq_true_eq, not_or, Bool.not_eq_true] at h
    obtain ⟨hidle, hoff, hfailing⟩ := h
    obtain ⟨-, -, -, hbank, hregs, hframe⟩ := beginMeasure_begins v hidle hoff hfailing
    exact ⟨⟨hregs⟩, hframe, (congrArg ReserveBank.sampleMv hbank).trans rfl, (congrArg ReserveBank.roundAt hbank).trans rfl,
      (congrArg ReserveBank.vinDisagree hbank).trans rfl⟩

theorem Measured.trans (h : Measured s t) (k : Measured t u) : Measured s u :=
  ⟨h.regs.trans k.regs, by rw [k.frame, h.frame], k.sample.trans h.sample, k.round.trans h.round,
    k.disagree.trans h.disagree⟩

theorem measured_roundMeasured (v : Nat) : Measured s (roundMeasured s v) := by
  have h : Measured s (s.countCycle v) := measured_countCycle v
  unfold roundMeasured
  extract_lets u
  split
  · exact h.trans (measured_beginMeasure v)
  · exact h

/-- The detector's registers, and the flag of Safe State, which a round leaves to its last check (R535). -/
def detectorFields : List Fld := [BANK_PF_STAT.vin_low, BANK_PF_CTL.vin_thresh, SYS_START_STAT.safe]

theorem roundSampled_samples {v vin : Nat} {charge : ChargeCurrent} :
    let t := roundSampled s v vin charge
    Writes sampleFields s t ∧ t = { s with flds := t.flds, bank := { s.bank with sampleMv := v } } ∧
      t.rd BANK_VIN.mv = min vin 0xFFFF ∧
      t.rd BANK_ICHG.ma = min (s.chargeNow v charge.takenMa charge.headroomMa) 0xFFF := by
  obtain ⟨hsets, hvin, hma⟩ := sampleBank_samples (s := s) v charge.takenMa charge.headroomMa vin
  rw [roundSampled]
  generalize s.sampleBank v charge.takenMa charge.headroomMa vin = u at *
  have hframe := hsets.frame
  refine ⟨hsets.writes.flds rfl, ?_, hvin, hma⟩
  rw [hframe]

/-- A round with a bank, but for the check of the detector. -/
theorem roundDone_present {v vin : Nat} {charge : ChargeCurrent} (hpresent : s.present 0x1C = true) :
    let t := roundDone s v vin charge
    t.bank.sampleMv = v ∧ t.bank.roundAt = some (roundStart s) ∧ t.bank.vinDisagree = s.bank.vinDisagree ∧
      t.rd BANK_VIN.mv = min vin 0xFFFF ∧
      t.rd BANK_ICHG.ma = min ((roundBegun s).chargeNow v charge.takenMa charge.headroomMa) 0xFFF ∧
      t.lines = s.lines ∧ t.crypto = s.crypto ∧ ∀ f ∈ detectorFields, t.rd f = s.rd f := by
  obtain ⟨hregs, hframe⟩ := roundBegun_begins (s := s)
  obtain ⟨hw, hsample, hvin, hma⟩ := roundSampled_samples (s := roundBegun s) (v := v) (vin := vin) (charge := charge)
  have hfollow := follows_roundFollowed (s := roundSampled (roundBegun s) v vin charge) s.bank.sampleMv v
  have hmeas := measured_roundMeasured (s := roundFollowed (roundSampled (roundBegun s) v vin charge) s.bank.sampleMv v) v
  rw [roundDone, if_pos hpresent]
  generalize roundFollowed (roundSampled (roundBegun s) v vin charge) s.bank.sampleMv v = u at *
  have hbank : u.bank = { (roundBegun s).bank with sampleMv := v } := hfollow.bank.trans (congrArg State.bank hsample)
  have hbegun : (roundBegun s).bank = roundBank s (roundStart s) := congrArg State.bank hframe
  rw [hbegun] at hbank
  refine ⟨hmeas.sample.trans (congrArg ReserveBank.sampleMv hbank), hmeas.round.trans (congrArg ReserveBank.roundAt hbank),
    hmeas.disagree.trans ((congrArg ReserveBank.vinDisagree hbank).trans rfl), ?_, ?_, ?_, ?_, ?_⟩
  · exact hmeas.regs.rd.trans (hfollow.writes.rd.trans hvin)
  · exact hmeas.regs.rd.trans (hfollow.writes.rd.trans hma)
  · rw [hmeas.frame, hfollow.frame, hsample, hframe]
  · rw [hmeas.frame, hfollow.frame, hsample, hframe]
  · intro f hf
    have h₁ : ∀ f ∈ detectorFields, clear measureFields f = true := by decide
    have h₂ : ∀ f ∈ detectorFields, clear judgedFields f = true := by decide
    have h₃ : ∀ f ∈ detectorFields, clear sampleFields f = true := by decide
    exact (hmeas.regs.rd (h₁ f hf)).trans ((hfollow.writes.rd (h₂ f hf)).trans
      ((hw.rd (h₃ f hf)).trans (hregs f List.not_mem_nil)))

/-- Any round leaves the detector as it is up to its check. -/
theorem roundDone_detector {v vin : Nat} {charge : ChargeCurrent} :
    (roundDone s v vin charge).bank.vinDisagree = s.bank.vinDisagree ∧
      ∀ f ∈ detectorFields, (roundDone s v vin charge).rd f = s.rd f := by
  by_cases hpresent : s.present 0x1C = true
  · obtain ⟨-, -, hdis, -, -, -, -, hregs⟩ := roundDone_present (v := v) (vin := vin) (charge := charge) hpresent
    exact ⟨hdis, hregs⟩
  · obtain ⟨hregs, hframe⟩ := roundBegun_begins (s := s)
    rw [roundDone, if_neg hpresent]
    exact ⟨congrArg (fun u => u.bank.vinDisagree) hframe, fun f _ => hregs f List.not_mem_nil⟩

/-! ## The charge current (R25, R170, R171) -/

theorem chargerOn_roundBegun : (roundBegun s).chargerOn = s.chargerOn := by
  obtain ⟨hregs, hframe⟩ := roundBegun_begins (s := s)
  have hsys : (roundBegun s).sys = s.sys := by rw [hframe]
  rw [State.chargerOn, State.chargerOn, hsys, on_of_rd (hregs BANK_CTL.charge_en List.not_mem_nil),
    on_of_rd (hregs BANK_STAT.measuring List.not_mem_nil)]

theorem eeprom_roundBegun : (roundBegun s).bank.eeprom = s.bank.eeprom :=
  congrArg (fun u => u.bank.eeprom) (roundBegun_begins (s := s)).2

theorem chargeTarget_roundBegun : (roundBegun s).chargeTarget = s.chargeTarget := by
  obtain ⟨hregs, -⟩ := roundBegun_begins (s := s)
  rw [State.chargeTarget, State.chargeTarget, State.targetTop, State.targetTop, State.identified, State.identified,
    eeprom_roundBegun, hregs BANK_CTL.target List.not_mem_nil, hregs BANK_RATED.volt_dv List.not_mem_nil]

theorem chargeLimit_roundBegun (headroom : Nat) : (roundBegun s).chargeLimit headroom = s.chargeLimit headroom := by
  obtain ⟨hregs, -⟩ := roundBegun_begins (s := s)
  rw [State.chargeLimit, State.chargeLimit, eeprom_roundBegun, hregs BANK_CTL.i_max List.not_mem_nil]

theorem chargeNow_roundBegun (v i headroom : Nat) : (roundBegun s).chargeNow v i headroom = s.chargeNow v i headroom := by
  rw [State.chargeNow, State.chargeNow, chargerOn_roundBegun, chargeTarget_roundBegun, chargeLimit_roundBegun]

theorem chargeLimit_le (headroom : Nat) :
    s.chargeLimit headroom ≤ max 250 headroom ∧ s.chargeLimit headroom ≤ 125 * s.rd BANK_CTL.i_max :=
  ⟨Nat.min_le_right _ _, (Nat.min_le_left _ _).trans (Nat.min_le_left _ _)⟩

theorem chargeNow_le (v i headroom : Nat) : s.chargeNow v i headroom ≤ s.chargeLimit headroom := by
  unfold State.chargeNow
  split
  · exact Nat.zero_le _
  · split
    · exact Nat.le_refl _
    · exact Nat.min_le_right _ _

/-! ## The check of the detector (R535) -/

theorem checkDetector_first {vin : Nat} (h : s.bank.vinDisagree = 0) : ∃ n,
    s.checkDetector vin = { s with bank := { s.bank with vinDisagree := n } } := by
  unfold State.checkDetector
  extract_lets t bad n u
  have hn : n ≠ 2 := by
    unfold n
    rw [h]
    split <;> omega
  exact ⟨n, if_neg hn⟩

theorem checkDetector_stops {vin : Nat} (h : s.bank.vinDisagree = 1) (hsafe : s.safe = false)
    (hbad : if s.on BANK_PF_STAT.vin_low = true then s.rd BANK_PF_CTL.vin_thresh * 100 + 500 < vin
      else vin + 500 < s.rd BANK_PF_CTL.vin_thresh * 100) : EnteredSafe (s.checkDetector vin) 0x07 0x1208 := by
  unfold State.checkDetector
  extract_lets t bad n _ u
  have hn : n = 2 := by
    have hb : bad = true := by
      unfold bad t
      split at hbad <;> simp_all
    unfold n
    rw [if_pos hb, h]
  rw [if_pos hn, State.errImmediate]
  have hsafe' : (u.err 0x07 0x1208 0).safe = false := ((Served.refl u).err.on (by decide)).trans hsafe
  exact enteredSafe_enterSafe hsafe' (by decide)

/-- A read of the EEPROM follows the millisecond of its retry. -/
theorem EepromRead.afterAdvance {d : EepromData} {f : Fld} {n k : Nat}
    (h : EepromRead d ((s.advance n).count f k) t) : t.bank.eeprom = some d ∧ t.sb.retrying = none ∧ t.now = s.now + n ∧
      t.lines = s.lines ∧ t.crypto = s.crypto := by
  obtain ⟨heeprom, hnone, -, hlines, hcrypto, hnow⟩ := h
  exact ⟨heeprom, hnone, hnow, hlines, hcrypto⟩

/-- Settles O23: what follows the samples of a round, the values of a measurement or the bytes of the EEPROM writes none of
the fields that the statement names, and keeps the bank. -/
theorem reserveBankIsMeasuredAndRecorded : Obligations.ReserveBankIsMeasuredAndRecorded := by
  unfold Obligations.ReserveBankIsMeasuredAndRecorded
  refine ⟨fun v i headroom vin s hoff hpresent hdis => ?_, fun v i headroom vin s hoff hsafe hdis hbad => ?_,
    fun who v s htakes hidle hfailing => ?_, fun v s hmeasured hpresent hidle hoff hfailing => ?_,
    fun v r s hretry hidle hoff hfailing => ?_, fun second v s hmeas => ?_,
    fun v1 v2 v3 s hmeas h1 h2 hlt hlow hhigh hv3 => ?_, fun who d s htakes hpower hidle => ?_,
    fun d n s hretry => ?_, fun s hpower hidle hretry => ?_,
    fun k s hdue hidle hretry hread hpower hbind hphase => ?_, fun r ok s hwrite => ?_, fun r s hwrite => ?_⟩
  · obtain ⟨hsample, hround, hdis', hvin, hma, hlines, hcrypto, -⟩ :=
      roundDone_present (v := v) (vin := vin) (charge := ⟨i, headroom⟩) hpresent
    have hexec := housekeepingRound_runs (v := v) (vin := vin) (charge := ⟨i, headroom⟩) hoff
    rw [chargeNow_roundBegun] at hma
    have hle := chargeNow_le (s := s) v i headroom
    obtain ⟨hhead, himax⟩ := chargeLimit_le (s := s) headroom
    generalize roundDone s v vin ⟨i, headroom⟩ = u at *
    obtain ⟨n, hcheck⟩ := checkDetector_first (vin := vin) (hdis'.trans hdis)
    rw [hcheck] at hexec
    dsimp only at hma
    refine ⟨_, hexec, hsample, hround, hvin, hma.trans_le (by omega), hma.trans_le (by omega), fun hon hlow => ?_,
      fun hon => ?_, hlines, congrArg Crypto.keys hcrypto⟩
    · refine hma.trans ?_
      rw [State.chargeNow, if_neg (by simp [hon]), if_pos hlow]
    · refine hma.trans ?_
      rw [State.chargeNow, if_pos (by simp [hon]), Nat.zero_min]
  · obtain ⟨hdis', hregs⟩ := roundDone_detector (s := s) (v := v) (vin := vin) (charge := ⟨i, headroom⟩)
    refine ⟨_, housekeepingRound_runs hoff, checkDetector_stops (hdis'.trans hdis) ?_ ?_⟩
    · exact (on_of_rd (hregs _ (by decide))).trans hsafe
    · rw [on_of_rd (hregs BANK_PF_STAT.vin_low (by decide)), hregs BANK_PF_CTL.vin_thresh (by decide)]
      exact hbad
  · have hoff : s.sys.phase ≠ .off := phase_of_takes htakes
    obtain ⟨hrd, hcharge, hsw, hbank, hregs, hframe⟩ := beginMeasure_begins v hidle hoff hfailing
    exact ⟨_, measure_begins htakes, hrd, hcharge, hsw, (congrArg ReserveBank.v0 hbank).trans rfl,
      (congrArg ReserveBank.measAt hbank).trans rfl, hregs, hframe⟩
  · obtain ⟨n, hn⟩ : ∃ n, s.bank.measAt + s.rd BANK_MEAS_CTL.period_h * psH = n := ⟨_, rfl⟩
    obtain ⟨hrd, -, -, hbank, -, hframe⟩ := beginMeasure_begins (s := s.advanceTo n) v hidle hoff hfailing
    refine ⟨_, measurePeriodExpiry_begins hmeasured hpresent hn, hrd, (congrArg ReserveBank.v0 hbank).trans rfl, ?_, ?_, ?_⟩
    · rw [hbank, hframe]
      rfl
    · rw [hframe, now_advanceTo, ← hn]
      rfl
    · rw [hframe]
      exact ⟨rfl, rfl, rfl, rfl⟩
  · obtain ⟨hrd, -, -, hbank, -, hframe⟩ := beginMeasure_begins (s := s.advanceTo r) v hidle hoff hfailing
    refine ⟨_, measureRetry_begins hretry, hrd, (congrArg ReserveBank.v0 hbank).trans rfl,
      (congrArg ReserveBank.retryAt hbank).trans rfl, ?_, ?_⟩
    · rw [hframe, now_advanceTo]
    · rw [hframe]
      exact ⟨rfl, rfl, rfl, rfl⟩
  · cases second with
    | true =>
      obtain ⟨n, hn⟩ : ∃ n, s.bank.measAt + 10 * psMs = n := ⟨_, rfl⟩
      obtain ⟨hregs, hframe⟩ := advanceTo_frame (s := s) n { s.bank with v2 := some v }
      exact ⟨_, measureSample_second hmeas hn, rfl, rfl, hregs, hframe⟩
    | false =>
      obtain ⟨n, hn⟩ : ∃ n, s.bank.measAt + 100 * psUs = n := ⟨_, rfl⟩
      obtain ⟨hregs, hframe⟩ := advanceTo_frame (s := s) n { s.bank with v1 := some v }
      exact ⟨_, measureSample_first hmeas hn, rfl, rfl, hregs, hframe⟩
  · obtain ⟨n, hn⟩ : ∃ n, s.bank.measAt + 200 * psMs = n := ⟨_, rfl⟩
    have hexec := measureEnd_accepts hmeas h1 h2 hlt hlow hhigh hv3 hn
    obtain ⟨hsets, hover⟩ := measureOver_over (s := s.advanceTo n) v3
    have hbank : (measureOver (s.advanceTo n) v3).bank = s.bank := hsets.bank
    have hlines : (measureOver (s.advanceTo n) v3).lines = s.lines := hsets.keepsData.1
    rw [hbank] at hexec
    generalize measureOver (s.advanceTo n) v3 = u at *
    have hc : 9500000000 / (v2 - v3) < 2 ^ 22 := by omega
    obtain ⟨hcap, hesr, hvalid, hmeas', hl⟩ := valuesStand_stand (s := u) hc ((s.bank.v0 - v1) / 5) v3
    obtain ⟨hw, hl'⟩ := follows_acceptMeasure (s := u) (9500000000 / (v2 - v3)) ((s.bank.v0 - v1) / 5) v3
    exact ⟨_, hexec, hw.rd.trans hcap, hw.rd.trans hesr, hw.rd.trans hvalid, hw.rd.trans (hmeas'.trans hover),
      hl'.trans (hl.trans hlines)⟩
  · obtain ⟨heeprom, -, hok, hlines, hcrypto, -⟩ := readEeprom_reads (s := s) d
    exact ⟨_, eepromReread_reads htakes hpower hidle, heeprom, hok, hlines, hcrypto⟩
  · exact ⟨_, bankBusRetry_reads hretry, (eepromRead_reads d).afterAdvance⟩
  · obtain ⟨hrun, hcount, hkeeps⟩ := busCleared_clears (s := s)
    exact ⟨_, bankBusStuck_clears hpower hidle hretry, hrun, hcount, hkeeps⟩
  · obtain ⟨hbank, hbusy, hregs, hframe⟩ := bank_put (s := s) SB_BANK_STAT.busy
      { s.bank with recDue := none, recWrite := some (s.newRecord k, 1) } Nat.one_pos
    exact ⟨_, eepromRecordWrite_begins hdue hidle hretry hread hpower hbind hphase,
      congrArg ReserveBank.recDue hbank, congrArg ReserveBank.recWrite hbank, hbusy, hregs, hframe⟩
  · exact ⟨_, writeCycleDone_first hwrite, rfl, rfl, fun _ _ => rfl, rfl⟩
  · obtain ⟨heeprom, hok, hlines⟩ := recordStands_stands (s := s) r
    obtain ⟨heeprom', hok', hlines'⟩ := recordEnds_keeps hok
    exact ⟨_, writeCycleDone_second hwrite, heeprom'.trans heeprom, hok', hlines'.trans hlines⟩

end Sys2Proof.Proofs

/-! # A device at rest: its ports close, its lanes stop and its pseudo-channels sleep (R78, R351, R451, R454) -/

namespace Sys2Proof.Proofs

open Sys2Proof Sys2Proof.Machine Sys2Proof.Laws

set_option Elab.async false

variable {s t u : State}

/-! ## The relation -/

/-- The fields that fall to 0 as a device comes to rest, and do not rise from it. -/
def fallen : List Fld :=
  DOVE_STAT.link :: (List.range 4).map PHY_STAT.ltssm.port ++ (List.range 16).map CHISEL_RING_CTL.enable.ix

/-- The fields that stand meanwhile. -/
def kept : List Fld := [SYS_HOLDS.count, SYS_LC.restrictive, FOLIO_STAT.persist, ERR_STAT.uc.on 0x00]

/-- A field stands apart from those that stand. -/
def unkept (f : Fld) : Bool := clear kept f

/-- A field stands apart from those that stand, and from those that fall. -/
def restful (f : Fld) : Bool := clear (kept ++ fallen) f

/-- No request waits and no engine works. -/
def idling (s : State) : Prop :=
  quiet s = true ∧ s.transit = [] ∧ s.recoveries = [] ∧ s.dove.waiting = [] ∧ s.folio.held = [] ∧ s.chisel.jobs = []

/-- The life of the device, and the Bind that runs or is due. -/
def lifeView (s : State) : SysState × Option Commit × Option (Nat × Bool) := (s.sys, s.folio.running, s.folio.bindDue)

/-- A device that idles has come further to rest: its lines and keys stand, and what has fallen has not risen. -/
structure Rests (s t : State) : Prop where
  idle : idling t
  lines : t.lines = s.lines
  crypto : t.crypto = s.crypto
  life : lifeView t = lifeView s
  out : s.out ⊆ t.out
  regs : ∀ f ∈ kept, t.rd f = s.rd f
  zero : ∀ f ∈ fallen, s.rd f = 0 → t.rd f = 0

theorem Rests.refl (h : idling s) : Rests s s := ⟨h, rfl, rfl, rfl, List.Subset.refl _, fun _ _ => rfl, fun _ _ => id⟩

theorem Rests.trans (h : Rests s t) (k : Rests t u) : Rests s u :=
  ⟨k.idle, k.lines.trans h.lines, k.crypto.trans h.crypto, k.life.trans h.life, List.Subset.trans h.out k.out, fun f hf => (k.regs f hf).trans (h.regs f hf), fun f hf hz => k.zero f hf (h.zero f hf hz)⟩

theorem Rests.ite {c : Prop} [Decidable c] {a b : State} (ha : Rests s a) (hb : Rests s b) :
    Rests s (if c then a else b) := by
  split
  · exact ha
  · exact hb

theorem Rests.forAll {α : Type} {f : State → α → State} {l : List α} (h : Rests s t)
    (hf : ∀ u a, Rests s u → Rests s (f u a)) : Rests s (t.forAll l f) :=
  forAll_keeps (P := Rests s) hf l h

/-- What idling is told by, with the lines and the keys. -/
def idleView (s : State) : Sparse StoredLine × Crypto × Sparse Pc × List (Wait × Req) × List Req × List Recovery ×
    List (Req × Nat) × List Req × List Job :=
  (s.lines, s.crypto, s.pcs, s.stalled, s.transit, s.recoveries, s.dove.waiting, s.folio.held, s.chisel.jobs)

theorem idling_of_view (h : idleView t = idleView s) (hs : idling s) : idling t := by
  simp only [idleView, Prod.mk.injEq] at h
  obtain ⟨-, -, hpcs, hstalled, htransit, hrecoveries, hwaiting, hheld, hjobs⟩ := h
  simpa only [idling, quiet, hpcs, hstalled, htransit, hrecoveries, hwaiting, hheld, hjobs] using hs

/-- Whatever changes beside what idling is told by and the registers. -/
theorem Rests.upd (h : Rests s t) {now free pages nextReq layers kerf repair folio bank gauge chisel dove ports lds mbox
    lanes spline clk domains cals sensors therm pin bist otp sb}
    (hf : folio.held = t.folio.held := by rfl) (hr : folio.running = t.folio.running := by rfl)
    (hb : folio.bindDue = t.folio.bindDue := by rfl) (hd : dove.waiting = t.dove.waiting := by rfl)
    (hc : chisel.jobs = t.chisel.jobs := by rfl) :
    Rests s { t with now, free, pages, nextReq, layers, kerf, repair, folio, bank, gauge, chisel, dove, ports, lds,
                     mbox, lanes, spline, clk, domains, cals, sensors, therm, pin, bist, otp, sb } := by
  refine ⟨idling_of_view ?_ h.idle, h.lines, h.crypto, .trans ?_ h.life, h.out, h.regs, h.zero⟩
  · simp only [idleView, hf, hd, hc]
  · simp only [lifeView, hr, hb]

theorem key_ne_of_restful {f g : Fld} (hf : restful f = true) (hg : g ∈ kept ++ fallen) : g.key ≠ f.key :=
  (key_ne_of_apart (List.all_eq_true.1 hf g hg)).symm

theorem Rests.wr {f : Fld} {v : Nat} (h : Rests s t) (hf : restful f = true := by rfl) : Rests s (t.wr f v) :=
  ⟨idling_of_view rfl h.idle, h.lines, h.crypto, h.life, h.out,
    fun _ hm => (State.rd_wr_ne t (key_ne_of_restful hf (List.mem_append_left _ hm)) v).trans (h.regs _ hm),
    fun _ hm hz => (State.rd_wr_ne t (key_ne_of_restful hf (List.mem_append_right _ hm)) v).trans (h.zero _ hm hz)⟩

/-- A field that falls to 0 lets none rise. -/
theorem Rests.clr {f : Fld} (h : Rests s t) (hf : unkept f = true := by rfl) : Rests s (t.clr f) := by
  refine ⟨idling_of_view rfl h.idle, h.lines, h.crypto, h.life, h.out, fun g hg => ?_, fun g hg hz => ?_⟩
  · exact (State.rd_wr_ne t (key_ne_of_apart (List.all_eq_true.1 hf g hg)).symm 0).trans (h.regs g hg)
  · rw [State.clr_eq]
    by_cases hk : g.key = f.key
    · rw [State.rd_wr, if_pos hk, Nat.zero_mod]
    · exact (State.rd_wr_ne t hk 0).trans (h.zero g hg hz)

theorem Rests.wr0 {f : Fld} (h : Rests s t) (hf : unkept f = true := by rfl) : Rests s (t.wr f 0) := h.clr hf

theorem Rests.of_views (h : Rests s t) (hrd : ∀ f ∈ kept ++ fallen, u.rd f = t.rd f) (hv : idleView u = idleView t)
    (hlife : lifeView u = lifeView t) (hout : t.out ⊆ u.out) : Rests s u :=
  ⟨idling_of_view hv h.idle, (congrArg (·.1) hv).trans h.lines, (congrArg (·.2.1) hv).trans h.crypto, hlife.trans h.life,
    List.Subset.trans h.out hout, fun f hm => (hrd f (List.mem_append_left _ hm)).trans (h.regs f hm),
    fun f hm hz => (hrd f (List.mem_append_right _ hm)).trans (h.zero f hm hz)⟩

theorem out_subset_of_uncalled (h : Uncalled s t) : s.out ⊆ t.out := by
  obtain ⟨l, hout, -⟩ := h.grown
  rw [hout]
  exact List.subset_append_right _ _

theorem Rests.logged {l : List Fld} (h : Rests s t) (hw : Writes l t u) (hl : Logged t u) (ho : Uncalled t u)
    (hc : (kept ++ fallen).all (clear l) = true := by rfl) : Rests s u := by
  refine h.of_views (fun f hf => hw.rd (List.all_eq_true.1 hc f hf)) ?_ ?_ (out_subset_of_uncalled ho)
  · rw [hl.frame]
    rfl
  · rw [hl.frame]
    rfl

section
variable {f g : Fld} {n v p : Nat}

theorem Rests.put (h : Rests s t) (hf : restful f = true := by rfl) : Rests s (t.put f) := h.wr hf
theorem Rests.wrb {b : Bool} (h : Rests s t) (hf : restful f = true := by rfl) : Rests s (t.wrb f b) := h.wr hf
theorem Rests.count (h : Rests s t) (hf : restful f = true := by rfl) : Rests s (t.count f n) := h.wr hf
theorem Rests.bump (h : Rests s t) (hf : restful f = true := by rfl) : Rests s (t.bump f) := h.wr hf

end

theorem Rests.advance {n : Nat} (h : Rests s t) : Rests s (t.advance n) := h.upd
theorem Rests.advanceTo {n : Nat} (h : Rests s t) : Rests s (t.advanceTo n) := h.advance
theorem Rests.emit {o : Out} (h : Rests s t) : Rests s (t.emit o) :=
  ⟨idling_of_view rfl h.idle, h.lines, h.crypto, h.life, List.Subset.trans h.out (List.subset_cons_self _ _), h.regs, h.zero⟩
theorem Rests.drawn (h : Rests s t) : Rests s t.drawn := h.upd
theorem Rests.setPort {p : Nat} {v : PortState} (h : Rests s t) : Rests s (t.setPort p v) := h.upd
theorem Rests.setLd {m : Nat} {v : LdState} (h : Rests s t) : Rests s (t.setLd m v) := h.upd
theorem Rests.setDomain {n : Nat} {v : DomainState} (h : Rests s t) : Rests s (t.setDomain n v) := h.upd
theorem Rests.setCal {n : Nat} {v : CalState} (h : Rests s t) : Rests s (t.setCal n v) := h.upd
theorem Rests.setHeat {n : Nat} {v : LayerTherm} (h : Rests s t) : Rests s (t.setHeat n v) := h.upd
theorem Rests.setLane {n : Nat} {v : LaneState} (h : Rests s t) : Rests s (t.setLane n v) := h.upd
theorem Rests.setEng {k : Nat} {v : KerfEng} (h : Rests s t) : Rests s (t.setEng k v) := h.upd

theorem Rests.cause {page bit : Nat} (h : Rests s t) : Rests s (t.cause page bit) :=
  h.logged ((Writes.refl t).cause (List.Subset.refl _)) (logged_cause page bit) ((Uncalled.refl t).cause page bit)

theorem Rests.log {e : Err} (h : Rests s t) (hc : (kept ++ fallen).all (clear (errFields e.page)) = true := by rfl) :
    Rests s (t.log e) := h.logged ((Writes.refl t).log (List.Subset.refl _)) (logged_log e) ((Uncalled.refl t).log e) hc

/-! ## Domains, calibration and lanes -/

theorem Rests.startWake {d : Nat} (h : Rests s t) : Rests s (t.startWake d) := h.setDomain.wr.bump
theorem Rests.wakeTb (h : Rests s t) : Rests s t.wakeTb := .ite h.startWake h
theorem Rests.wakeDomain {d : Nat} (h : Rests s t) : Rests s (t.wakeDomain d) := .ite h.startWake.put.wakeTb h

theorem Rests.setDomainPages {d st : Nat} (h : Rests s t) : Rests s (t.setDomainPages d st) :=
  h.forAll fun _ _ k => .ite k.wr k

theorem Rests.readyDomain {d : Nat} (h : Rests s t) : Rests s (t.readyDomain d) := h.wr.clr.setDomain.setDomainPages
theorem Rests.runDomain {d : Nat} (h : Rests s t) : Rests s (t.runDomain d) := .ite h h.wakeDomain.readyDomain

theorem restful_ite {c : Prop} [Decidable c] {f g : Fld} (hf : restful f = true) (hg : restful g = true) :
    restful (if c then f else g) = true := by
  split
  · exact hf
  · exact hg

theorem restful_calFld {a b : Fld} {n : Nat} (ha : restful (a.pc n) = true) (hb : restful (b.port (n - 64)) = true) :
    restful (calFld a b n) = true := restful_ite ha hb

theorem Rests.setCalMode {n m : Nat} (h : Rests s t) : Rests s (t.setCalMode n m) := h.wr (restful_ite (by rfl) (by rfl))
theorem Rests.stopRun {n : Nat} (h : Rests s t) : Rests s (t.stopRun n) := h.setCal.setCalMode

theorem Rests.beginRun {n : Nat} {c : Bool} (h : Rests s t) : Rests s (t.beginRun n c) :=
  .ite h ((h.wr (restful_ite (by rfl) (by rfl))).setCalMode).setCal

theorem Rests.fixCal {n : Nat} (h : Rests s t) : Rests s (t.fixCal n) :=
  .ite (.ite h h.stopRun.setCalMode) (.ite (.ite h.setCalMode.beginRun h.setCalMode) h)

/-- A loop that clears fields of one place. -/
theorem Rests.clrAll {l : List Fld} {place : Fld → Fld} (h : Rests s t)
    (hl : l.all (fun f => unkept (place f)) = true := by rfl) :
    Rests s (t.forAll l fun u f => u.clr (place f)) := by
  induction l generalizing t with
  | nil => exact h
  | cons f l ih =>
    simp only [List.all_cons, Bool.and_eq_true] at hl
    exact ih (h.clr hl.1) hl.2

theorem Rests.clearLane {g n : Nat} (h : Rests s t) : Rests s (t.clearLane g n) := h.clrAll.setLane.wrb

theorem Rests.fixPort {p : Nat} (h : Rests s t) : Rests s (t.fixPort p) := h.forAll fun _ _ k => k.wr.wrb.wrb

/-! ## A port closes -/

/-- No entry of a table of controllers that holds no request comes to hold one. -/
theorem queues_mapWith {pcs : Sparse Pc} {f : Nat → Pc → Pc} {P : Pc → Prop} (h : ∀ e ∈ pcs, P e.2)
    (hf : ∀ n c, P c → P (f n c)) : ∀ e ∈ Sparse.mapWith (fun _ => Pc.reset) pcs f, P e.2 := by
  intro e he
  obtain ⟨e', he', hsome⟩ := List.mem_filterMap.1 he
  split at hsome
  · exact absurd hsome (by simp)
  · rw [← Option.some.inj hsome]
    exact hf _ _ (h e' he')

theorem queues_set {pcs : Sparse Pc} {n : Nat} {c : Pc} {P : Pc → Prop} (h : ∀ e ∈ pcs, P e.2) (hc : P c) :
    ∀ e ∈ Sparse.set (fun _ => Pc.reset) pcs n c, P e.2 := by
  intro e he
  unfold Sparse.set at he
  split at he
  · exact h e (List.mem_filter.1 he).1
  · obtain rfl | hm := Sparse.mem_insert he
    · exact hc
    · exact h e hm

/-- A controller holds no request. -/
def Empty (c : Pc) : Prop := c.input = [] ∧ c.queue = [] ∧ c.bursts = [] ∧ c.wbursts = []

theorem quiet_iff : quiet s = true ↔ s.stalled = [] ∧ ∀ e ∈ s.pcs, Empty e.2 := by
  simp only [quiet, Bool.and_eq_true, decide_eq_true_eq, List.all_eq_true, Empty]

theorem idling_mapReqs (f : Req → Req) (h : idling s) : idling (s.mapReqs f) := by
  obtain ⟨hquiet, htransit, hrecoveries, hwaiting, hheld, hjobs⟩ := h
  obtain ⟨hstalled, hpcs⟩ := quiet_iff.1 hquiet
  have hqueues : ∀ e ∈ (s.mapReqs f).pcs, Empty e.2 := by
    dsimp only [State.mapReqs]
    refine queues_mapWith hpcs fun n c hc => ?_
    obtain ⟨hi, hq, hb, hw⟩ := hc
    simp only [Empty, hi, hq, hb, hw, List.map_nil, and_self]
  refine ⟨quiet_iff.2 ⟨?_, hqueues⟩, ?_, ?_, ?_, ?_, hjobs⟩
  all_goals simp only [State.mapReqs, hstalled, htransit, hrecoveries, hwaiting, hheld, List.map_nil]

theorem Rests.mapReqs {f : Req → Req} (h : Rests s t) : Rests s (t.mapReqs f) :=
  ⟨idling_mapReqs f h.idle, h.lines, h.crypto, h.life, h.out, h.regs, h.zero⟩

theorem Rests.endEpoch {p : Nat} {ld : Option Nat} (h : Rests s t) : Rests s (t.endEpoch p ld) := h.mapReqs

theorem Rests.linkDown {g : Nat} (h : Rests s t) : Rests s (t.linkDown g) := by
  unfold State.linkDown
  extract_lets was t₁ t₂ t₃ _ t₄ t₅
  have h₁ : Rests s t₁ := h.clrAll
  have h₃ : Rests s t₃ := (h₁.forAll fun _ _ k => k.clr).forAll fun _ _ k => k.clearLane
  have h₅ : Rests s t₅ := h₃.setPort.fixPort.fixCal
  exact .ite h₅ h₅.cause

theorem Rests.closePort {p : Nat} (h : Rests s t) : Rests s (t.closePort p false) :=
  .linkDown (.setPort (.endEpoch (.wr h)))

theorem Rests.doveDown (h : Rests s t) : Rests s t.doveDown := h.wr0.wr0.upd
theorem Rests.doveLanesDown (h : Rests s t) : Rests s t.doveLanesDown :=
  (h.doveDown.clr.clr.forAll fun _ _ k => k.clearLane).fixCal

theorem Rests.clearIde {p : Nat} (h : Rests s t) : Rests s (t.clearIde p) := h.setPort.clrAll
theorem Rests.fixAlert (h : Rests s t) : Rests s t.fixAlert := .ite h (.emit (.upd h))

/-! ## Rings end -/

theorem Rests.chiselErr {code ring addr : Nat} (h : Rests s t) : Rests s (t.chiselErr code addr ring) :=
  h.log (e := { page := 0x1D, code := code, addr := addr, access := 5, master := ring, tied := none })

theorem Rests.dropMsix {ring addr n : Nat} (h : Rests s t) : Rests s (t.dropMsix ring addr n) :=
  .ite h (.chiselErr (.cause (.count h)))

theorem Rests.resetRing {r : Nat} (h : Rests s t) : Rests s (t.resetRing r) :=
  h.wr0.wr0.clr.wr.wr0.wr0.wr0.wr0.clr.clr.wr0

theorem Rests.jobs (h : Rests s t) : t.chisel.jobs = [] := h.idle.2.2.2.2.2

theorem Rests.abortRing {r : Nat} {portReset : Bool} (h : Rests s t) : Rests s (t.abortRing r portReset) := by
  rw [abortRing_of_idle h.jobs]
  exact h

theorem Rests.resetPortRing {p l : Nat} (h : Rests s t) : Rests s (t.resetPortRing p l) := by
  unfold State.resetPortRing
  extract_lets r n _ t₁ t₂
  have h₁ : Rests s t₁ := .upd h
  have h₂ : Rests s t₂ := h₁.dropMsix
  exact h₂.abortRing.resetRing

/-! ## A pseudo-channel enters self-refresh -/

theorem Rests.setPc {p : Nat} {v : Pc} (h : Rests s t) (hv : Empty v) : Rests s (t.setPc p v) := by
  obtain ⟨hquiet, hrest⟩ := h.idle
  obtain ⟨hstalled, hpcs⟩ := quiet_iff.1 hquiet
  exact ⟨⟨quiet_iff.2 ⟨hstalled, queues_set hpcs hv⟩, hrest⟩, h.lines, h.crypto, h.life, h.out, h.regs, h.zero⟩

theorem Rests.empty (h : Rests s t) (p : Nat) : Empty (t.pc p) := pc_of_quiet h.idle.1 p

theorem Rests.startEntry {p : Nat} (h : Rests s t) : Rests s (t.startEntry p) := (h.setPc (by exact h.empty p)).put

theorem Rests.runLfsr {p : Nat} (h : Rests s t) : Rests s (t.runLfsr p) := .ite h (h.setPc (by exact h.empty p))

theorem Rests.gate {layer : Nat} (h : Rests s t) : Rests s (t.gate layer) :=
  (h.forAll fun _ _ k => k.runLfsr).forAll fun _ _ k => k.put

theorem Rests.refreshed {p n : Nat} (h : Rests s t) : Rests s (t.refreshed p n) := h.count.setHeat

theorem Rests.issueSre {p : Nat} (h : Rests s t) : Rests s (t.issueSre p) := by
  unfold State.issueSre
  extract_lets owed t₁ t₂ c banks t₃ t₄ t₅ t₆
  have h₂ : Rests s t₂ := h.advanceTo.refreshed
  have hc : Empty c := h₂.empty p
  clear_value banks c t₂
  have h₃ : Rests s t₃ := h₂.setPc (by exact hc)
  clear_value t₃
  have h₆ : Rests s t₆ := h₃.clr.put.bump.cause.fixCal
  exact .ite h₆.gate h₆

theorem Rests.forceSr {p : Nat} (h : Rests s t) : Rests s (t.forceSr p) := .ite (.issueSre (.ite h h.startEntry)) h

/-! ## The carrier I/O domain resets (R451) -/

theorem idling_of_settled (hsettled : settled s = true) (hcalm : calm s = true) : idling s := by
  simp only [settled, calm, Bool.and_eq_true, decide_eq_true_eq] at hsettled hcalm
  obtain ⟨⟨⟨⟨⟨⟨hquiet, htransit⟩, hrecoveries⟩, hwaiting⟩, -⟩, hheld⟩, -⟩ := hsettled
  exact ⟨hquiet, htransit, hrecoveries, hwaiting, hheld, hcalm.1.1⟩

/-- A loop each of whose steps lets one field fall lets all of them fall. -/
theorem rests_forAll_zero {α : Type} {f : State → α → State} {g : α → Fld} {l : List α} (h : idling s)
    (hf : ∀ u a, idling u → Rests u (f u a)) (hz : ∀ u, ∀ a ∈ l, idling u → (f u a).rd (g a) = 0) (hg : ∀ a ∈ l, g a ∈ fallen) :
    Rests s (s.forAll l f) ∧ ∀ a ∈ l, (s.forAll l f).rd (g a) = 0 := by
  induction l generalizing s with
  | nil => exact ⟨.refl h, fun _ ha => absurd ha List.not_mem_nil⟩
  | cons a l ih =>
    have hone := hf s a h
    obtain ⟨hrest, hzero⟩ := ih hone.idle (fun u b hb => hz u b (List.mem_cons_of_mem a hb))
      (fun b hb => hg b (List.mem_cons_of_mem a hb))
    rw [forAll_cons]
    refine ⟨hone.trans hrest, fun b hb => ?_⟩
    obtain rfl | hb := List.mem_cons.1 hb
    · exact hrest.zero _ (hg b (.head _)) (hz s b (.head _) h)
    · exact hzero b hb

theorem ltssm_mem_fallen {p : Nat} (hp : p < 4) : PHY_STAT.ltssm.port p ∈ fallen :=
  List.mem_append_left _ (List.mem_cons_of_mem _ (List.mem_map.2 ⟨p, List.mem_range.2 hp, rfl⟩))

theorem enable_mem_fallen {r : Nat} (hr : r < 16) : CHISEL_RING_CTL.enable.ix r ∈ fallen :=
  List.mem_append_right _ (List.mem_map.2 ⟨r, List.mem_range.2 hr, rfl⟩)

/-- The link of a port that closes is down. -/
theorem ltssm_closePort {p : Nat} (hp : p < 4) : (s.closePort p false).rd (PHY_STAT.ltssm.port p) = 0 := by
  exact (closed_closePort p).down _ (List.mem_map_of_mem (f := fun f : Fld => f.port p) (by decide : PHY_STAT.ltssm ∈ _))
    (clear_walkFields hp (.inr (.inl rfl))).1

/-- The DOVE link stops. -/
theorem link_doveLanesDown (h : idling s) : Rests s s.doveLanesDown ∧ s.doveLanesDown.rd DOVE_STAT.link = 0 := by
  have hw : Rests s (s.wr DOVE_STAT.link 0) := (Rests.refl h).wr0
  have hrest : Rests (s.wr DOVE_STAT.link 0) s.doveLanesDown :=
    .fixCal (.forAll (.clr (.clr (.upd (.wr0 (.refl hw.idle))))) fun _ _ k => k.clearLane)
  exact ⟨hw.trans hrest, hrest.zero _ (.head _) (State.rd_wr_self _ _ 0)⟩

/-- A port takes its reset state in a reset of the carrier I/O domain. -/
def carrierPort (s : State) (p : Nat) : State :=
  let s := s.closePort p false
  let s := s.forAll (List.range 4) fun s l => s.setLd (masterOf p l) (s.ld (masterOf p l)).portReset
  (s.clearIde p).fixPort p

theorem rests_carrierPort (p : Nat) (h : idling s) : Rests s (carrierPort s p) ∧
    (p < 4 → (carrierPort s p).rd (PHY_STAT.ltssm.port p) = 0) := by
  have hclose : Rests s (s.closePort p false) := (Rests.refl h).closePort
  have hrest : Rests (s.closePort p false) (carrierPort s p) :=
    .fixPort (.clearIde (.forAll (.refl hclose.idle) fun _ _ k => k.setLd))
  exact ⟨hclose.trans hrest, fun hp => hrest.zero _ (ltssm_mem_fallen hp) (ltssm_closePort hp)⟩

/-- The sideband and the bank bus stop with the carrier I/O domain. -/
def carrierBuses (s : State) : State :=
  let s := { s with
    sb := { s.sb with uncollected := false, sessions := [], retrying := none, fwOffset := none }
    bank := { s.bank with recWrite := none, rereadWaits := false } }
  let s := ((s.clr SB_STAT.eid).clr SB_STAT.dyn_addr).clr SB_BANK_STAT.busy
  ((s.wr SB_STAT.mode (if s.sys.vauxGood then 1 else 0)).forAll (List.range' 64 5) State.fixCal).fixAlert

theorem Rests.carrierBuses (h : Rests s t) : Rests s (carrierBuses t) := by
  unfold Proofs.carrierBuses
  extract_lets _ _ u v
  have hu : Rests s u := .upd h
  clear_value u
  have hv : Rests s v := hu.clr.clr.clr
  exact .fixAlert (hv.wr.forAll fun _ _ k => k.fixCal)

theorem resetCarrier_eq : s.resetCarrier =
    Proofs.carrierBuses ((s.forAll ((List.range 4).filter s.hasPort) carrierPort).doveLanesDown) := by
  unfold State.resetCarrier
  extract_lets u v _ _ w x
  have hv : v = (s.forAll ((List.range 4).filter s.hasPort) carrierPort).doveLanesDown := rfl
  clear_value v
  subst hv
  rfl

theorem rests_resetCarrier (h : idling s) : Rests s s.resetCarrier ∧ s.resetCarrier.rd DOVE_STAT.link = 0 ∧
    ∀ p < 4, s.hasPort p = true → s.resetCarrier.rd (PHY_STAT.ltssm.port p) = 0 := by
  have hmem : ∀ p ∈ (List.range 4).filter s.hasPort, p < 4 := fun p hp => List.mem_range.1 (List.mem_filter.1 hp).1
  obtain ⟨hports, hdown⟩ := rests_forAll_zero (f := carrierPort) (g := PHY_STAT.ltssm.port) h
    (fun u p hu => (rests_carrierPort p hu).1) (fun u p hp hu => (rests_carrierPort p hu).2 (hmem p hp))
    (fun p hp => ltssm_mem_fallen (hmem p hp))
  obtain ⟨hlanes, hlink⟩ := link_doveLanesDown hports.idle
  have hbuses := (Rests.refl hlanes.idle).carrierBuses
  rw [resetCarrier_eq]
  generalize s.forAll ((List.range 4).filter s.hasPort) carrierPort = a at *
  generalize a.doveLanesDown = b at *
  have hafter := hlanes.trans hbuses
  refine ⟨hports.trans hafter, hbuses.zero _ (.head _) hlink, fun p hp hport => ?_⟩
  exact hafter.zero _ (ltssm_mem_fallen hp) (hdown p (List.mem_filter.2 ⟨List.mem_range.2 hp, hport⟩))

/-! ## A Hold begins (R451) -/

theorem complete_of_idling (h : idling s) : s.complete = s := by
  obtain ⟨hquiet, htransit, -⟩ := h
  have hs : ({ s with transit := [] } : State) = s := by rw [← htransit]
  unfold State.complete
  rw [htransit]
  exact (congrArg (fun u : State => u.settle fun _ => true) hs).trans (settle_quiet hquiet _)

/-- The rings reset and every pseudo-channel sleeps. -/
def logicRests (s : State) : State :=
  let s := s.forAll (List.range 16) fun s r => s.resetPortRing (r / 4) (r % 4)
  let s := s.complete.forAll (List.range 64) State.forceSr
  s.forAll logicPages fun s p => if s.rd (PAGE_STAT.state.on p) = 4 then s else s.wr (PAGE_STAT.state.on p) 5

theorem enterHold_eq : s.enterHold true = (logicRests s).bump SYS_HOLDS.count := rfl

theorem rests_logicRests (h : idling s) : Rests s (logicRests s) := by
  unfold logicRests
  extract_lets u v
  have hu : Rests s u := (Rests.refl h).forAll fun _ _ k => k.resetPortRing
  have hv : Rests s v := by
    unfold v
    rw [complete_of_idling hu.idle]
    exact hu.forAll fun _ _ k => k.forceSr
  exact hv.forAll fun _ _ k => .ite k k.wr

theorem abandonStep_of_settled (h : s.rd BIST_ENG_STAT.state ≠ 1) : s.abandonStep = s := if_pos h

/-- The domains of the links run, the carrier I/O domain resets, and the logic die rests. -/
def holdReached (s : State) : State := logicRests (s.forAll (List.range' 64 5) State.runDomain).resetCarrier

theorem beginHold_eq (hphase : s.sys.phase = .active) (hbist : s.rd BIST_ENG_STAT.state ≠ 1) :
    s.beginHold = { ((holdReached s).bump SYS_HOLDS.count).cause 0x00 4 with
      sys := { (((holdReached s).bump SYS_HOLDS.count).cause 0x00 4).sys with
        phase := .hold
        holdAt := (((holdReached s).bump SYS_HOLDS.count).cause 0x00 4).now } } := by
  rw [State.beginHold, if_neg (by simp [hphase]), abandonStep_of_settled hbist]
  rfl

theorem Rests.sys (h : Rests s t) : t.sys = s.sys := congrArg (·.1) h.life

theorem hasPort_of_rests (h : Rests s t) (p : Nat) : t.hasPort p = s.hasPort p := by
  rw [State.hasPort, State.hasPort, State.present, State.present, h.sys, on_of_rd (h.regs SYS_LC.restrictive (by decide))]

theorem rests_holdReached (h : idling s) : Rests s (holdReached s) ∧ (holdReached s).rd DOVE_STAT.link = 0 ∧
    ∀ p < 4, s.hasPort p = true → (holdReached s).rd (PHY_STAT.ltssm.port p) = 0 := by
  have hrun : Rests s (s.forAll (List.range' 64 5) State.runDomain) := (Rests.refl h).forAll fun _ _ k => k.runDomain
  rw [holdReached]
  generalize s.forAll (List.range' 64 5) State.runDomain = a at *
  obtain ⟨hcarrier, hlink, hports⟩ := rests_resetCarrier hrun.idle
  have hlogic := rests_logicRests hcarrier.idle
  refine ⟨(hrun.trans hcarrier).trans hlogic, hlogic.zero _ (.head _) hlink, fun p hp hport => ?_⟩
  exact hlogic.zero _ (ltssm_mem_fallen hp) (hports p hp ((hasPort_of_rests hrun p).trans hport))

/-- A Hold has begun. -/
structure HoldBegun (s t : State) : Prop where
  phase : t.sys.phase = .hold
  holdAt : t.sys.holdAt = t.now
  count : CountedUp s t SYS_HOLDS.count
  ports : ∀ p < 4, s.hasPort p = true → t.rd (PHY_STAT.ltssm.port p) = 0
  link : t.rd DOVE_STAT.link = 0
  uc : t.rd (ERR_STAT.uc.on 0x00) = s.rd (ERR_STAT.uc.on 0x00)
  lines : t.lines = s.lines

theorem holdBegun_beginHold (h : idling s) (hphase : s.sys.phase = .active) (hbist : s.rd BIST_ENG_STAT.state ≠ 1) :
    HoldBegun s s.beginHold := by
  obtain ⟨hrests, hlink, hports⟩ := rests_holdReached h
  rw [beginHold_eq hphase hbist]
  generalize holdReached s = a at *
  have hrd : ∀ f ∈ fallen, ((a.bump SYS_HOLDS.count).cause 0x00 4).rd f = a.rd f := by
    have hcause : ∀ f ∈ fallen, clear (SYS_HOLDS.count :: causeFields 0x00) f = true := by decide
    intro f hf
    exact (((Writes.refl a).wr (.head _)).cause (List.subset_cons_self _ _)).rd (hcause f hf)
  refine ⟨rfl, rfl, ?_, fun p hp hport => (hrd _ (ltssm_mem_fallen hp)).trans (hports p hp hport),
    (hrd _ (.head _)).trans hlink, ?_, ?_⟩
  · rw [CountedUp, ← hrests.regs SYS_HOLDS.count (by decide)]
    exact (rd_cause (by rfl) _).trans (rd_bump _)
  · exact ((rd_cause (by rfl) _).trans (rd_wr_apart (by rfl) _)).trans (hrests.regs _ (by decide))
  · exact (lines_of_logged ((logged_wr _ _).cause _ _)).trans hrests.lines

end Sys2Proof.Proofs

/-! # The Hold of a carrier I/O reset, and the management core (R449, R451, R453, R461, R535) -/

namespace Sys2Proof.Proofs

open Sys2Proof Sys2Proof.Machine Sys2Proof.Laws

set_option Elab.async false

variable {s t u : State}

/-! ## A reset of the carrier I/O domain (R449, R461) -/

theorem rstCmd_takes {who : Accessor} (htakes : takes s who 0x00 = true) (key : BitVec 16) (act : State → State) :
    s.rstCmd who key act = if key = 0x5253 then act s else s := command_takes htakes _ _

/-- SYS_RST commands with another key do nothing (R449). -/
theorem rstCmd_ignored {who : Accessor} {key : BitVec 16} (htakes : takes s who 0x00 = true) (hkey : key ≠ 0x5253)
    (act : State → State) : s.rstCmd who key act = s := by
  rw [rstCmd_takes htakes, if_neg hkey]

theorem rstCmd_acts {who : Accessor} (htakes : takes s who 0x00 = true) (act : State → State) :
    s.rstCmd who 0x5253 act = act s := by
  rw [rstCmd_takes htakes, if_pos rfl]

theorem bist_of_settled (h : settled s = true) : s.rd BIST_ENG_STAT.state ≠ 1 := by
  simp only [settled, Bool.and_eq_true, decide_eq_true_eq] at h
  exact h.2

/-- The error of the carrier's rail, before the Hold (R461). -/
theorem railTold (h : idling s) : idling (s.err 0x00 0x1007 0) ∧ (s.err 0x00 0x1007 0).lines = s.lines ∧
    (s.err 0x00 0x1007 0).sys = s.sys ∧ (s.err 0x00 0x1007 0).rd (ERR_STAT.uc.on 0x00) = 1 ∧
    (s.err 0x00 0x1007 0).rd SYS_HOLDS.count = s.rd SYS_HOLDS.count ∧
    (s.err 0x00 0x1007 0).rd BIST_ENG_STAT.state = s.rd BIST_ENG_STAT.state := by
  have hl : Logged s (s.err 0x00 0x1007 0) := logged_err _ _ _
  refine ⟨?_, lines_of_logged hl, sys_of_logged hl, ?_, rd_err (by rfl) _ _, rd_err (by rfl) _ _⟩
  · rw [hl.frame]
    exact h
  · exact (rd_log_contained (e := ⟨0x00, 0x1007, 0, 6, 0x19, none⟩) rfl).1

theorem carrierIoRailLow_holds (hphase : s.sys.phase = .active) :
    exec .carrierIoRailLow s = .next (s.err 0x00 0x1007 0).beginHold := by
  show execCarrierIoRailLow s = _
  rw [execCarrierIoRailLow, if_neg (by simp [hphase])]

/-! ## A Hold ends (R451) -/

/-- Memory and the keys stand, and so do the life of the device and the time. -/
def Alike (s t : State) : Prop := t.lines = s.lines ∧ t.crypto = s.crypto ∧ t.sys = s.sys ∧ t.now = s.now

theorem Alike.refl (s : State) : Alike s s := ⟨rfl, rfl, rfl, rfl⟩

theorem Alike.trans (h : Alike s t) (k : Alike t u) : Alike s u :=
  ⟨k.1.trans h.1, k.2.1.trans h.2.1, k.2.2.1.trans h.2.2.1, k.2.2.2.trans h.2.2.2⟩

theorem Alike.ite {c : Prop} [Decidable c] {a b : State} (ha : Alike s a) (hb : Alike s b) :
    Alike s (if c then a else b) := by
  split
  · exact ha
  · exact hb

theorem Alike.forAll {α : Type} {f : State → α → State} {l : List α} (h : Alike s t)
    (hf : ∀ u a, Alike s u → Alike s (f u a)) : Alike s (t.forAll l f) := forAll_keeps (P := Alike s) hf l h

theorem Alike.wr {f : Fld} {v : Nat} (h : Alike s t) : Alike s (t.wr f v) := h
theorem Alike.clr {f : Fld} (h : Alike s t) : Alike s (t.clr f) := h
theorem Alike.wrb {f : Fld} {b : Bool} (h : Alike s t) : Alike s (t.wrb f b) := h
theorem Alike.setPort {p : Nat} {v : PortState} (h : Alike s t) : Alike s (t.setPort p v) := h
theorem Alike.setLane {p : Nat} {v : LaneState} (h : Alike s t) : Alike s (t.setLane p v) := h

theorem Alike.logged (h : Alike s t) (hl : Logged t u) : Alike s u :=
  h.trans ⟨lines_of_logged hl, crypto_of_logged hl, sys_of_logged hl, now_of_logged hl⟩

theorem Alike.follows {l : List Fld} (h : Alike s t) (k : Follows l t u) : Alike s u :=
  h.trans ⟨k.lines, k.crypto, k.sys, k.now⟩

theorem Alike.clearLane {g n : Nat} (h : Alike s t) : Alike s (t.clearLane g n) :=
  (Alike.forAll h fun _ _ k => k.clr).setLane.wrb

theorem Alike.doveTrain (h : Alike s t) : Alike s t.doveTrain := .ite h.wr.wr h

theorem Alike.train {g : Nat} (h : Alike s t) : Alike s (t.train g) :=
  .ite (.setPort (.forAll (.ite h.doveTrain (.ite h.wr h)) fun _ _ k => k.clearLane)) (.ite h.doveTrain (.ite h.wr h))

theorem Alike.trainAll (h : Alike s t) : Alike s t.trainAll := h.forAll fun _ _ k => k.train
theorem Alike.pagesBack (h : Alike s t) : Alike s t.pagesBack := h.forAll fun _ _ k => .ite k.wr k
theorem Alike.longest {f : Fld} {v : Nat} (h : Alike s t) : Alike s (t.longest f v) := .ite h.wr h

theorem alike_of_sets {l : List Fld} (h : Sets l s t) : Alike s t := by
  rw [h.frame]
  exact ⟨rfl, rfl, rfl, rfl⟩

theorem alike_eepromAnswered (d : EepromData) : Alike s (eepromAnswered s d) := ⟨rfl, rfl, rfl, rfl⟩

theorem alike_withSb (b : SidebandState) : Alike s { s with sb := b } := ⟨rfl, rfl, rfl, rfl⟩

theorem alike_retry : Alike s (s.readEeprom none) := by
  rw [readEeprom_none]
  exact Alike.wr (Alike.trans (Alike.wr (.refl s)) (alike_withSb _))

theorem Alike.readEeprom {d : Option EepromData} (h : Alike s t) : Alike s (t.readEeprom d) := by
  cases d with
  | none => exact h.trans alike_retry
  | some d =>
    obtain ⟨hsets, -⟩ := answerNoted_sets (s := t.wr SB_BANK_STAT.retries 0)
    have hnoted : Alike t (answerNoted (t.wr SB_BANK_STAT.retries 0)) :=
      Alike.trans (t := t.wr SB_BANK_STAT.retries 0) (Alike.refl t).wr (alike_of_sets hsets)
    show Alike s ((t.wr SB_BANK_STAT.retries 0).eepromRead d)
    rw [eepromRead_eq]
    generalize answerNoted (t.wr SB_BANK_STAT.retries 0) = u at *
    exact (h.trans (hnoted.trans (alike_eepromAnswered d))).follows follows_eepromTakes

theorem running_pagesBack : s.pagesBack.folio.running = s.folio.running := (Served.refl s).pagesBack.running

theorem alike_leaveHold (hrun : s.folio.running = none) : Alike s s.leaveHold := by
  have h : Alike s s.pagesBack := (Alike.refl s).pagesBack
  have hnone : s.pagesBack.folio.running = none := running_pagesBack.trans hrun
  rw [State.leaveHold]
  generalize s.pagesBack = t at *
  rw [State.resumeCkpt, hnone]
  exact h

/-- The device is in service again. -/
def servesAgain (s : State) : State :=
  { s with sys := { s.sys with
    phase := .active, holdEndAt := if s.sys.holdForPage then some s.now else s.sys.holdEndAt, holdForPage := false } }

theorem servesAgain_keeps : (servesAgain s).sys.phase = .active ∧ (servesAgain s).now = s.now ∧
    (servesAgain s).lines = s.lines ∧ (servesAgain s).crypto = s.crypto ∧ (servesAgain s).folio = s.folio :=
  ⟨rfl, rfl, rfl, rfl, rfl⟩

/-- The Hold is over: the device is in service again, and its ports train. -/
def holdOver (s : State) (us : Nat) (data : Option EepromData) : State :=
  let s := (((servesAgain s).leaveHold.longest SYS_HOLD_MAX_US.us us).cause 0x00 5).trainAll
  if s.sys.vauxGood && s.present 0x1C then s.readEeprom data else s

theorem holdEnd_ends {us n : Nat} {data : Option EepromData} (hphase : s.sys.phase = .hold) (hus : us ≤ 30)
    (hn : s.sys.holdAt + max us 10 * psUs = n) :
    exec (.holdEnd us data) s = .next (holdOver (s.advanceTo n) (max us 10) data) := by
  show execHoldEnd us data s = _
  unfold execHoldEnd
  rw [if_neg (by simp [hphase])]
  extract_lets t u v _ w x
  have hu : u = s := if_neg (by show ¬ 30 < max us 10; omega)
  have hv : v = s.advanceTo n := by
    unfold v t
    rw [hu, hn]
  clear_value v
  subst hv
  have hw : w = servesAgain (s.advanceTo n) := rfl
  clear_value w
  subst hw
  unfold x t holdOver
  generalize servesAgain (s.advanceTo n) = y
  rfl

theorem alike_holdOver (us : Nat) (data : Option EepromData) (hrun : s.folio.running = none) :
    Alike (servesAgain s) (holdOver s us data) := by
  obtain ⟨-, -, -, -, hfolio⟩ := servesAgain_keeps (s := s)
  unfold holdOver
  generalize servesAgain s = u at *
  extract_lets v
  have hv : Alike u v := ((alike_leaveHold (by rw [hfolio, hrun])).longest.logged (logged_cause _ _)).trainAll
  exact .ite hv.readEeprom hv

/-! ## The management core (R453, R535) -/

theorem resetMgmt_frame : s.resetMgmt.sys.mgmtDown = some s.now ∧ s.resetMgmt.rd SB_STAT.core_ready = 0 ∧
    SameRegs s s.resetMgmt [SB_STAT.core_ready] ∧
    s.resetMgmt = { s with flds := s.resetMgmt.flds, sys := s.resetMgmt.sys } := by
  have hset : Sets [SB_STAT.core_ready] s (s.clr SB_STAT.core_ready) := (Sets.refl s).wr (.head _)
  have hrd : (s.clr SB_STAT.core_ready).rd SB_STAT.core_ready = 0 := State.rd_wr_self _ _ 0
  unfold State.resetMgmt
  generalize s.clr SB_STAT.core_ready = a at *
  refine ⟨rfl, hrd, hset.regs, ?_⟩
  rw [hset.frame]

theorem mgmtWatchdogExpiry_resets (hphase : s.sys.phase = .active) (hup : s.sys.mgmtDown = none) :
    exec .mgmtWatchdogExpiry s = .next s.resetMgmt := by
  show execMgmtWatchdogExpiry s = _
  rw [execMgmtWatchdogExpiry, if_neg (by simp [hphase, hup])]

theorem mgmtNotRunning_stops {at_ n : Nat} (hdown : s.sys.mgmtDown = some at_) (htrying : s.sb.trying = none)
    (hphase : s.sys.phase = .active) (hn : at_ + 100 * psMs = n) :
    exec .mgmtNotRunning s = .next (((s.advanceTo n).err 0x07 0x1206 0).enterSafe 0x07 0x1206) := by
  show execMgmtNotRunning s = _
  rw [execMgmtNotRunning, hdown]
  dsimp only
  rw [if_neg (by simp [htrying, hphase]), hn, State.errImmediate]

/-- The core runs again. -/
def coreBack (s : State) : State :=
  ({ s with sys := { s.sys with mgmtDown := none }, sb := { s.sb with trying := none } } : State).put SB_STAT.core_ready

theorem coreReady_active (hphase : s.sys.phase = .active) : s.coreReady = coreBack s := by
  unfold State.coreReady
  extract_lets _ _ u
  exact if_neg (by show ¬(s.sys.phase = .off ∨ s.sys.phase = .starting); simp [hphase])

/-- The doorbells that waited are taken. -/
def doorbellsTaken (s : State) : State := { s with mbox := { s.mbox with waiting := [] } }

theorem mgmtCoreReady_serves {at_ : Nat} (hdown : s.sys.mgmtDown = some at_) (hphase : s.sys.phase = .active) :
    exec .mgmtCoreReady s =
      .next ((coreBack (doorbellsTaken s)).forAll s.mbox.waiting fun s c => serveMailbox c s) := by
  show execMgmtCoreReady s = _
  unfold execMgmtCoreReady
  rw [if_neg (by simp [hdown])]
  extract_lets w _ u
  have hu : u = coreBack (doorbellsTaken s) := coreReady_active hphase
  rw [hu]

theorem coreBack_back : (coreBack s).sys = { s.sys with mgmtDown := none } ∧ (coreBack s).rd SB_STAT.core_ready = 1 ∧
    SameRegs s (coreBack s) [SB_STAT.core_ready] ∧ coreBack s = { s with
      flds := (coreBack s).flds, sys := (coreBack s).sys, sb := (coreBack s).sb } := by
  have h : ∀ f : Fld, 0 < f.width → ∀ (y : SysState) (b : SidebandState),
      let t := ({ s with sys := y, sb := b } : State).put f
      t.sys = y ∧ t.rd f = 1 ∧ SameRegs s t [f] ∧ t = { s with flds := t.flds, sys := t.sys, sb := t.sb } :=
    fun f hf y b => ⟨rfl, rd_put_self hf, ((Writes.refl s).wr (List.mem_singleton.2 rfl)).regs, rfl⟩
  exact h SB_STAT.core_ready Nat.one_pos _ _

theorem mboxServes_coreBack {p l : Nat} (hopen : s.mboxOpen p l = true) (hlife : s.lifeCycle ≠ 4) :
    mboxServes (coreBack (doorbellsTaken s)) p l = true := by
  obtain ⟨hsys, -, hregs, -⟩ := coreBack_back (s := doorbellsTaken s)
  generalize coreBack (doorbellsTaken s) = t at *
  have hrd : ∀ f : Fld, apart f SB_STAT.core_ready = true → t.rd f = s.rd f := fun f hf =>
    hregs f fun h => key_ne_of_apart hf (List.mem_singleton.1 h)
  have hsys' : t.sys = { s.sys with mgmtDown := none } := hsys
  have hpresent : t.hasPort p = s.hasPort p := by
    rw [State.hasPort, State.hasPort, State.present, State.present, on_of_rd (hrd SYS_LC.restrictive (by rfl)), hsys']
  have hopen' : t.mboxOpen p l = s.mboxOpen p l := by
    rw [State.mboxOpen, State.mboxOpen, State.bound, State.bound, hpresent, on_of_rd (hrd (PORT_LD_CFG.bound.ld p l) (by rfl)),
      hrd (PORT_LINK_STAT.mode.port p) (by rfl), hsys']
  refine mboxServes_iff.2 ⟨hopen'.trans hopen, by rw [hsys'], ?_⟩
  rw [State.lifeCycle, hrd _ (by rfl)]
  exact hlife

/-- Settles O47: what the Hold stops keeps the lines of a device at rest, and its end trains the ports without them. -/
theorem holdAndManagementCore : Obligations.HoldAndManagementCore := by
  unfold Obligations.HoldAndManagementCore
  refine ⟨fun who s htakes hphase hsettled hcalm => ?_, fun s hphase hsettled hcalm => ?_,
    fun us data s hphase hus hrun => ?_, fun who s htakes => ?_, fun who key s htakes hkey => ?_,
    fun s hphase hup => ?_, fun at_ s hdown htrying hphase hsafe hcalm => ?_,
    fun at_ port ld s hdown hphase => ⟨fun hwait => ?_, fun hwait hopen hlife => ?_⟩⟩
  · have h := holdBegun_beginHold (idling_of_settled hsettled hcalm) hphase (bist_of_settled hsettled)
    exact ⟨_, congrArg Host.Outcome.next (rstCmd_acts htakes _), h.phase, h.holdAt, h.count, h.ports, h.link, h.lines⟩
  · obtain ⟨hidle, hlines, hsys, huc, hcount, hbist⟩ := railTold (idling_of_settled hsettled hcalm)
    have hexec := carrierIoRailLow_holds hphase
    generalize s.err 0x00 0x1007 0 = t at *
    have h := holdBegun_beginHold hidle ((congrArg SysState.phase hsys).trans hphase)
      (by rw [hbist]; exact bist_of_settled hsettled)
    refine ⟨_, hexec, h.phase, h.uc.trans huc, ?_, h.lines.trans hlines⟩
    rw [CountedUp, ← hcount]
    exact h.count
  · obtain ⟨n, hn⟩ : ∃ n, s.sys.holdAt + max us 10 * psUs = n := ⟨_, rfl⟩
    obtain ⟨hactive, hnow, hlines, hcrypto, -⟩ := servesAgain_keeps (s := s.advanceTo n)
    obtain ⟨hl, hc, hsys, hnow'⟩ := alike_holdOver (s := s.advanceTo n) (max us 10) data hrun
    refine ⟨_, holdEnd_ends hphase hus hn, (congrArg SysState.phase hsys).trans hactive, ?_, hl.trans hlines,
      hc.trans hcrypto⟩
    rw [hnow', hnow, now_advanceTo, ← hn, psUs_eq]
  · exact ⟨_, congrArg Host.Outcome.next (rstCmd_acts htakes _), resetMgmt_frame⟩
  · have h : ∀ act : State → State, (Host.Outcome.next (s.rstCmd who key act) : Result) = .next s := fun act =>
      congrArg Host.Outcome.next (rstCmd_ignored htakes hkey act)
    exact ⟨h _, h _, h _, h _⟩
  · exact ⟨_, mgmtWatchdogExpiry_resets hphase hup, resetMgmt_frame⟩
  · obtain ⟨n, hn⟩ : ∃ n, at_ + 100 * psMs = n := ⟨_, rfl⟩
    have hl : Logged (s.advanceTo n) ((s.advanceTo n).err 0x07 0x1206 0) := logged_err _ _ _
    have hsafe' : ((s.advanceTo n).err 0x07 0x1206 0).safe = false := ((Served.refl (s.advanceTo n)).err.on (by decide)).trans hsafe
    refine ⟨_, mgmtNotRunning_stops hdown htrying hphase hn, enteredSafe_enterSafe hsafe' (by decide), ?_⟩
    rw [now_enterSafe hsafe' (calm_of_logged hl hcalm), now_of_logged hl, now_advanceTo, ← hn, hundred_psMs]
  · have hexec := mgmtCoreReady_serves hdown hphase
    rw [hwait] at hexec
    obtain ⟨hsys, hrd, hregs, hframe⟩ := coreBack_back (s := doorbellsTaken s)
    have hs : doorbellsTaken s = s := by rw [doorbellsTaken, ← hwait]
    rw [hs] at hexec hsys hrd hregs hframe
    exact ⟨_, hexec, congrArg SysState.mgmtDown hsys, hrd, hregs, hframe⟩
  · have hexec := mgmtCoreReady_serves hdown hphase
    rw [hwait] at hexec
    obtain ⟨hsys, -, hregs, hframe⟩ := coreBack_back (s := doorbellsTaken s)
    have hout : (coreBack (doorbellsTaken s)).out = s.out := by
      rw [hframe]
      rfl
    have hmbox : (coreBack (doorbellsTaken s)).mbox.waiting = [] := by
      rw [hframe]
      rfl
    have hserves : mboxServes (coreBack (doorbellsTaken s)) port ld = true := mboxServes_coreBack hopen hlife
    generalize coreBack (doorbellsTaken s) = t at *
    have hanswer : serveMailbox (.getSupportedLogs port ld) t = answered port ld (rcSuccess, [0, 1], t) :=
      congrArg t.after (mailbox_serves hserves _ _ _)
    have hloop : t.forAll [.getSupportedLogs port ld] (fun u c => serveMailbox c u) =
        answered port ld (rcSuccess, [0, 1], t) := by
      rw [forAll_cons, hanswer]
      rfl
    refine ⟨_, hexec.trans (congrArg Host.Outcome.next hloop), hmbox, ?_⟩
    exact congrArg (_ :: ·) hout

end Sys2Proof.Proofs

/-! # The orderly shutdown and the life cycle (R454, R457 to R459, R541 to R543) -/

namespace Sys2Proof.Proofs

open Sys2Proof Sys2Proof.Machine Sys2Proof.Laws

set_option Elab.async false

variable {s t u : State}

/-! ## The pair is split (R303, R305) -/

/-- The fields that the end of a pair writes. -/
def splitFields : List Fld :=
  (List.range 16).map DOVE_RANGE_STAT.state.ix ++ KERF_STAT.state.ix 4 :: causeFields 0x1A

/-- A part of the end of a pair is done: beside the fields listed only the Dovetail, its Kerf and messages have changed. -/
structure Split (s t : State) : Prop where
  writes : Writes splitFields s t
  frame : t = { s with flds := t.flds, out := t.out, ports := t.ports, kerf := t.kerf, dove := t.dove }
  waiting : t.dove.waiting = s.dove.waiting
  out : s.out ⊆ t.out

theorem Split.refl (s : State) : Split s s := ⟨.refl s, rfl, rfl, List.Subset.refl _⟩

theorem Split.trans (h : Split s t) (k : Split t u) : Split s u :=
  ⟨h.writes.trans k.writes, by rw [k.frame, h.frame], k.waiting.trans h.waiting, List.Subset.trans h.out k.out⟩

theorem Split.ite {c : Prop} [Decidable c] {a b : State} (ha : Split s a) (hb : Split s b) :
    Split s (if c then a else b) := by
  split
  · exact ha
  · exact hb

theorem Split.crypto (h : Split s t) : t.crypto = s.crypto := by rw [h.frame]
theorem Split.folio (h : Split s t) : t.folio = s.folio := by rw [h.frame]
theorem Split.lines (h : Split s t) : t.lines = s.lines := by rw [h.frame]

theorem split_dove (d : DoveState) (hd : d.waiting = s.dove.waiting) : Split s { s with dove := d } :=
  ⟨(Writes.refl s).flds rfl, rfl, hd, List.Subset.refl _⟩

theorem split_doveEmit (d : DoveState) (hd : d.waiting = s.dove.waiting) (o : Out) :
    Split s (({ s with dove := d } : State).emit o) :=
  ⟨(Writes.refl s).flds rfl, rfl, hd, List.subset_cons_self _ _⟩

theorem split_wr {f : Fld} {v : Nat} (hf : f ∈ splitFields) : Split s (s.wr f v) := ⟨(Writes.refl s).wr hf, rfl, rfl, List.Subset.refl _⟩

theorem split_setPush (q : Nat) (b : Bool) : Split s (s.setPush q b) := split_dove _ rfl

theorem split_forAll {α : Type} {f : State → α → State} {l : List α} (hf : ∀ u, ∀ a ∈ l, Split u (f u a)) :
    Split s (s.forAll l f) :=
  List.foldlRecOn (motive := Split s) l f (.refl s) fun u hu a ha => hu.trans (hf u a ha)

theorem split_rangeApart {n : Nat} (hn : n < 16) : Split s (s.rangeApart n) := by
  have hf : DOVE_RANGE_STAT.state.ix n ∈ splitFields :=
    List.mem_append_left _ (List.mem_map.2 ⟨n, List.mem_range.2 hn, rfl⟩)
  unfold State.rangeApart
  extract_lets v mine l w _
  have hv : Split s v := split_wr hf
  have hw : Split s w := hv.trans (split_forAll fun u e _ => split_setPush _ _)
  clear_value w
  exact .ite (.refl s) (.ite hv (hw.trans (split_dove _ rfl)))

/-- The ranges have come apart. -/
def rangesApart (s : State) : State := s.forAll (List.range 16) State.rangeApart

theorem split_rangesApart : Split s (rangesApart s) := split_forAll fun _ _ hn => split_rangeApart (List.mem_range.1 hn)

/-- The Resync Kerf has stopped. -/
def resyncStopped (s : State) : State :=
  let s := if s.kerfRuns 4 then ((s.wr (KERF_STAT.state.ix 4) 5).cause 0x1A 8).setEng 4 { s.eng 4 with aborting := false }
    else s
  { s with dove := { s.dove with strokes := [] } }

theorem split_setEng (k : Nat) (e : KerfEng) : Split s (s.setEng k e) :=
  ⟨(Writes.refl s).flds rfl, rfl, rfl, List.Subset.refl _⟩

theorem split_cause : Split s (s.cause 0x1A 8) := by
  have h := alerted_cause (s := s) 0x1A 8
  refine ⟨(Writes.refl s).cause (List.subset_append_of_subset_right _ (List.subset_cons_self _ _)), ?_, ?_,
    out_subset_of_uncalled h.out⟩
  · rw [h.frame]
  · rw [h.frame]

theorem split_resyncStopped : Split s (resyncStopped s) := by
  have hstate : Split s (s.wr (KERF_STAT.state.ix 4) 5) := split_wr (List.mem_append_right _ (.head _))
  unfold resyncStopped
  extract_lets _ v _
  have hv : Split s v := .ite ((hstate.trans split_cause).trans (split_setEng _ _)) (.refl s)
  clear_value v
  exact hv.trans (split_dove _ rfl)

/-- The partner is gone. -/
def partnerGone (s : State) : State :=
  { s with dove := { s.dove with
    helloSent := false, hello := none, accepted := false
    partner := { safe := false, rekey := false, resync := false, rekeyStart := 0, rekeyEnd := 0 } } }

theorem split_partnerGone : Split s (partnerGone s) := split_dove _ rfl

/-- Nothing of a device waits for its pair. -/
def unpaired (s : State) : Prop := s.stalled = [] ∧ s.recoveries = [] ∧ s.dove.waiting = []

theorem unpaired_wr (f : Fld) (v : Nat) (h : unpaired s) : unpaired (s.wr f v) := h

theorem unpaired_of_split (h : Split s t) (hs : unpaired s) : unpaired t := by
  obtain ⟨hstalled, hrecoveries, hwaiting⟩ := hs
  refine ⟨?_, ?_, h.waiting.trans hwaiting⟩
  · rw [h.frame]
    exact hstalled
  · rw [h.frame]
    exact hrecoveries

theorem releaseQueue_of_none (h : s.dove.waiting = []) : s.releaseQueue = s := by
  have hs : ({ s with dove := { s.dove with waiting := [] } } : State) = s := by rw [← h]
  unfold State.releaseQueue
  rw [h]
  exact hs

/-- The end of a pair for which nothing waits. -/
theorem splitPair_of_unpaired (h : unpaired s) : s.splitPair = partnerGone (resyncStopped (rangesApart s)) := by
  have hr : Split s (resyncStopped (rangesApart s)) := split_rangesApart.trans split_resyncStopped
  have hstop : (rangesApart s).stopResync = resyncStopped (rangesApart s) :=
    releaseStalled_of_none (unpaired_of_split hr h).1
  unfold State.splitPair
  extract_lets v l w _ x
  have hv : v = resyncStopped (rangesApart s) := hstop
  clear_value v
  subst hv
  have hl : l = [] := (unpaired_of_split hr h).2.1
  have hw : w = resyncStopped (rangesApart s) := by
    unfold w
    rw [hl]
    rfl
  clear_value w
  subst hw
  exact releaseQueue_of_none (unpaired_of_split (hr.trans split_partnerGone) h).2.2

theorem split_splitPair (h : unpaired s) : Split s s.splitPair := by
  rw [splitPair_of_unpaired h]
  exact (split_rangesApart.trans split_resyncStopped).trans split_partnerGone

theorem unpaired_of_idling (h : idling s) : unpaired s := by
  obtain ⟨hquiet, -, hrecoveries, hwaiting, -⟩ := h
  exact ⟨(quiet_iff.1 hquiet).1, hrecoveries, hwaiting⟩

theorem Rests.split (h : Rests s t) (k : Split t u) : Rests s u := by
  have hc : ∀ f ∈ kept ++ fallen, clear splitFields f = true := by decide
  have hw := k.waiting
  refine h.of_views (fun f hf => k.writes.rd (hc f hf)) ?_ ?_ k.out
  · rw [k.frame]
    simp only [idleView, hw]
  · rw [k.frame]
    rfl

theorem split_sendDove (m : DoveMsg) : Split s (s.sendDove m) := by
  unfold State.sendDove
  extract_lets link n
  refine .ite (.refl s) (.ite (split_dove _ rfl) ?_)
  refine split_doveEmit (s := s) _ ?_ _
  rfl

/-- The partner is left (R305). -/
def pairLeft (s : State) : State := if s.joined then s.splitPair.wr DOVE_STAT.pair 0 else s

theorem Rests.pairLeft (h : Rests s t) : Rests s (pairLeft t) :=
  .ite (.wr0 (h.split (split_splitPair (unpaired_of_idling h.idle)))) h

theorem Rests.sayBye {reason : Nat} (h : Rests s t) : Rests s (t.sayBye reason) :=
  (h.split (split_sendDove _)).pairLeft.doveLanesDown

theorem Rests.running (h : Rests s t) : t.folio.running = s.folio.running := congrArg (·.2.1) h.life
theorem Rests.bindDue (h : Rests s t) : t.folio.bindDue = s.folio.bindDue := congrArg (·.2.2) h.life

/-! ## Accepted requests complete -/

theorem Rests.endHolding (h : Rests s t) : Rests s t.endHolding := by
  unfold State.endHolding
  extract_lets _ v
  have hv : Rests s v := .ite h (.upd h)
  exact .ite (.ite (.wr (.clr hv)) (.clr hv)) hv

theorem drain_of_idling (h : idling s) : s.drain = s.endHolding := by
  obtain ⟨hquiet, htransit, hrecoveries, hwaiting, hheld, -⟩ := h
  obtain ⟨hstalled, -⟩ := quiet_iff.1 hquiet
  have hs : ({ s with transit := [] } : State) = s := by rw [← htransit]
  have hs' : ({ s with
      stalled := [], folio := { s.folio with held := [] }, dove := { s.dove with waiting := [] } } : State) = s := by
    rw [← hstalled, ← hheld, ← hwaiting]
  unfold State.drain
  rw [htransit, hs]
  extract_lets l a b c m _ _ d
  have ha : a = s := rfl
  clear_value a
  subst ha
  have hb : b = a := by
    unfold b
    rw [hrecoveries]
    rfl
  clear_value b
  subst hb
  have hc : c = b := settle_quiet hquiet _
  clear_value c
  subst hc
  have hm : m = [] := by
    unfold m
    rw [hstalled, hheld, hwaiting]
    exact List.mergeSort_nil
  have hd : d = c := hs'
  rw [hm, hd]
  rfl

theorem Rests.drain (h : Rests s t) : Rests s t.drain := by
  rw [drain_of_idling h.idle]
  exact h.endHolding

/-! ## A shutdown begins (R454) -/

/-- The ports close and Chisel ends. -/
def shutdownStopped (s : State) : State :=
  let s := s.drain
  let s := s.forAll ((List.range 4).filter fun p => decide (s.rd (PHY_STAT.ltssm.port p) ≠ 0)) fun s p => s.closePort p false
  s.forAll (List.range 16) fun s r => (s.abortRing r false).clr (CHISEL_RING_CTL.enable.ix r)

theorem rests_shutdownStopped (h : idling s) : Rests s (shutdownStopped s) ∧
    ∀ r < 16, (shutdownStopped s).rd (CHISEL_RING_CTL.enable.ix r) = 0 := by
  unfold shutdownStopped
  extract_lets a b
  have ha : Rests s a := (Rests.refl h).drain
  have hb : Rests s b := ha.forAll fun _ _ k => k.closePort
  obtain ⟨hc, hzero⟩ := rests_forAll_zero (l := List.range 16) (g := CHISEL_RING_CTL.enable.ix)
    (f := fun s r => (s.abortRing r false).clr (CHISEL_RING_CTL.enable.ix r)) hb.idle
    (fun u r hu => (Rests.refl hu).abortRing.clr) (fun u r _ _ => State.rd_wr_self _ _ 0)
    (fun r hr => enable_mem_fallen (List.mem_range.1 hr))
  exact ⟨hb.trans hc, fun r hr => hzero r (List.mem_range.2 hr)⟩

/-- What a shutdown stops. -/
def shutdownReached (s : State) : State := ((shutdownStopped s).sayBye 2).stopCheckpoint

theorem rests_shutdownReached (h : idling s) (hrun : s.folio.running = none) : Rests s (shutdownReached s) ∧
    ∀ r < 16, (shutdownReached s).rd (CHISEL_RING_CTL.enable.ix r) = 0 := by
  obtain ⟨hstop, hzero⟩ := rests_shutdownStopped h
  have hbye : Rests (shutdownStopped s) ((shutdownStopped s).sayBye 2) := (Rests.refl hstop.idle).sayBye
  have hrest : Rests s ((shutdownStopped s).sayBye 2) := hstop.trans hbye
  have hnone : ((shutdownStopped s).sayBye 2).folio.running = none := hrest.running.trans hrun
  have hreached : shutdownReached s = (shutdownStopped s).sayBye 2 := by
    rw [shutdownReached, State.stopCheckpoint, hnone]
  rw [hreached]
  exact ⟨hrest, fun r hr => hbye.zero _ (enable_mem_fallen hr) (hzero r hr)⟩

/-- The phase of a shutdown is entered, and its Bind falls due where persistence is active. -/
def shutdownEntered (s : State) (restart : Nat) : State :=
  let s := { s with sys := { s.sys with phase := .shutdown, restart := restart } }
  if s.persists && !s.bindOwing then { s with folio := { s.folio with bindDue := some (4, false) } } else s

theorem beginShutdown_eq {restart : Nat} (hphase : s.sys.phase = .active) (hbist : s.rd BIST_ENG_STAT.state ≠ 1) :
    s.beginShutdown restart = shutdownEntered (shutdownReached s) restart := by
  rw [State.beginShutdown, if_neg (by simp [hphase]), abandonStep_of_settled hbist]
  extract_lets a b c d _ e _
  have hc : c = shutdownStopped s := rfl
  clear_value c
  subst hc
  have hd : d = shutdownReached s := rfl
  clear_value d
  have he : (if e.persists && !e.bindOwing then { e with folio := { e.folio with bindDue := some (4, false) } } else e) =
    shutdownEntered d restart := rfl
  exact he.trans (congrArg (shutdownEntered · restart) hd)

theorem shutdownEntered_enters (restart : Nat) :
    (shutdownEntered s restart).sys.phase = .shutdown ∧ (shutdownEntered s restart).sys.restart = restart ∧
      (shutdownEntered s restart).lines = s.lines ∧ (shutdownEntered s restart).out = s.out ∧ (∀ f, (shutdownEntered s restart).rd f = s.rd f) ∧
      (s.persists = true → s.folio.bindDue = none → s.folio.running = none →
        (shutdownEntered s restart).folio.bindDue = some (4, false)) := by
  unfold shutdownEntered
  extract_lets _ v _
  have hv : v.sys.phase = .shutdown ∧ v.sys.restart = restart ∧ v.lines = s.lines ∧ v.out = s.out ∧
      (∀ f, v.rd f = s.rd f) ∧ v.folio = s.folio := ⟨rfl, rfl, rfl, rfl, fun _ => rfl, rfl⟩
  clear_value v
  obtain ⟨hphase, hrestart, hlines, hout, hrd, hfolio⟩ := hv
  have howing : s.folio.bindDue = none → s.folio.running = none → v.bindOwing = false := fun hdue hrun => by
    rw [State.bindOwing, State.bindRuns, hfolio, hdue, hrun]
    rfl
  split
  next => exact ⟨hphase, hrestart, hlines, hout, hrd, fun _ _ _ => rfl⟩
  next h =>
    refine ⟨hphase, hrestart, hlines, hout, hrd, fun hpersists hdue hrun => absurd ?_ h⟩
    rw [howing hdue hrun, State.persists, hrd]
    simpa [State.persists] using hpersists

/-- A shutdown of a device at rest has begun (R454). -/
structure ShutdownBegun (restart : Nat) (s t : State) : Prop where
  phase : t.sys.phase = .shutdown
  restart : t.sys.restart = restart
  bindDue : s.persists = true → s.folio.bindDue = none → t.folio.bindDue = some (4, false)
  rings : ∀ r < 16, t.rd (CHISEL_RING_CTL.enable.ix r) = 0
  lines : t.lines = s.lines
  out : s.out ⊆ t.out

theorem shutdownBegun_beginShutdown (restart : Nat) (hphase : s.sys.phase = .active) (hsettled : settled s = true)
    (hcalm : calm s = true) : ShutdownBegun restart s (s.beginShutdown restart) := by
  have hrun : s.folio.running = none := by
    simp only [calm, Bool.and_eq_true, decide_eq_true_eq] at hcalm
    exact hcalm.2
  obtain ⟨hrest, hrings⟩ := rests_shutdownReached (idling_of_settled hsettled hcalm) hrun
  rw [beginShutdown_eq hphase (bist_of_settled hsettled)]
  generalize shutdownReached s = a at *
  obtain ⟨hph, hre, hlines, hout, hrd, hdue⟩ := shutdownEntered_enters (s := a) restart
  refine ⟨hph, hre, fun hpersists hnone => ?_, fun r hr => (hrd _).trans (hrings r hr), hlines.trans hrest.lines, ?_⟩
  swap
  · rw [hout]
    exact hrest.out
  refine hdue ?_ (hrest.bindDue.trans hnone) (hrest.running.trans hrun)
  rw [State.persists, hrest.regs FOLIO_STAT.persist (by decide)]
  exact hpersists

/-! ## A shutdown ends (R454, R541 to R543) -/

/-- What the commit of the shutdown record leaves. -/
theorem commitRecord_commits : s.commitRecord.bist.recValid = true ∧ s.commitRecord.bist.recSeq = s.bist.recSeq + 1 ∧
    s.commitRecord.bist.recHeld = s.bist.held ∧ s.commitRecord.lines = s.lines ∧ s.commitRecord.sys = s.sys ∧
    s.commitRecord.clk = s.clk := by
  unfold State.commitRecord
  extract_lets b v w
  have hv : v.lines = s.lines ∧ v.sys = s.sys ∧ v.clk = s.clk := by
    unfold v
    split
    · exact ⟨rfl, rfl, rfl⟩
    · exact ⟨rfl, rfl, rfl⟩
  clear_value v
  have hw : w.bist.recValid = true ∧ w.bist.recSeq = s.bist.recSeq + 1 ∧ w.bist.recHeld = s.bist.held ∧
      w.lines = v.lines ∧ w.sys = v.sys ∧ w.clk = v.clk := ⟨rfl, rfl, rfl, rfl, rfl, rfl⟩
  clear_value w
  obtain ⟨hvalid, hseq, hheld, hlines, hsys, hclk⟩ := hw
  obtain ⟨hlines', hsys', hclk'⟩ := hv
  rw [State.put_eq, State.wr_bist, State.wr_bist, State.wr_bist, State.wr_lines, State.wr_lines, State.wr_lines,
    State.wr_sys, State.wr_sys, State.wr_sys, State.wr_clk, State.wr_clk, State.wr_clk]
  exact ⟨hvalid, hseq, hheld, hlines.trans hlines', hsys.trans hsys', hclk.trans hclk'⟩

/-- The Time Base is stored, the bank's record is written, and its switch opens. -/
def shutdownStored (s : State) (vin : Nat) : State :=
  ((s.judgeBus vin).storeTb.writeBankRecord.clr BANK_STAT.charging).clr BANK_PF_STAT.bank_sw

theorem endShutdown_eq (vin : Nat) : s.endShutdown vin =
    if (shutdownStored s vin).sys.restart = 4 then (shutdownStored s vin).powerOn 4 true
    else if (shutdownStored s vin).sys.restartWaits then (shutdownStored s vin).powerOff.powerOn 5 true
    else (shutdownStored s vin).powerOff := rfl

theorem writeBankRecord_keeps : s.writeBankRecord.bist = s.bist ∧ s.writeBankRecord.lines = s.lines ∧
    s.writeBankRecord.sys = s.sys ∧ s.writeBankRecord.clk = s.clk ∧ ∀ f, s.writeBankRecord.rd f = s.rd f := by
  unfold State.writeBankRecord
  split
  · split
    · exact ⟨rfl, rfl, rfl, rfl, fun _ => rfl⟩
    · exact ⟨rfl, rfl, rfl, rfl, fun _ => rfl⟩
  · exact ⟨rfl, rfl, rfl, rfl, fun _ => rfl⟩

theorem shutdownStored_stores (vin : Nat) : (shutdownStored s vin).bist = s.bist ∧ (shutdownStored s vin).lines = s.lines ∧
    (shutdownStored s vin).sys = s.sys ∧ (shutdownStored s vin).clk.stored = s.clk.tbPs ∧
    (shutdownStored s vin).on BANK_PF_CTL.bus48 = decide (24000 < vin) := by
  have hbus : (s.judgeBus vin).on BANK_PF_CTL.bus48 = decide (24000 < vin) := on_wrb_self rfl _
  have hjudge : (s.judgeBus vin).bist = s.bist ∧ (s.judgeBus vin).lines = s.lines ∧ (s.judgeBus vin).sys = s.sys ∧
      (s.judgeBus vin).clk = s.clk := by
    rw [State.judgeBus, State.wrb_eq, State.wr_bist, State.wr_lines, State.wr_sys, State.wr_clk]
    exact ⟨rfl, rfl, rfl, rfl⟩
  unfold shutdownStored
  generalize s.judgeBus vin = a at *
  obtain ⟨hbist, hlines, hsys, hclk⟩ := hjudge
  obtain ⟨hbist', hlines', hsys', hclk', hrd⟩ := writeBankRecord_keeps (s := a.storeTb)
  generalize a.storeTb.writeBankRecord = b at *
  rw [State.clr_eq, State.clr_eq, State.wr_bist, State.wr_bist, State.wr_lines, State.wr_lines, State.wr_sys, State.wr_sys,
    State.wr_clk, State.wr_clk]
  refine ⟨hbist'.trans hbist, hlines'.trans hlines, hsys'.trans hsys, ?_, ?_⟩
  · rw [hclk', ← hclk]
    rfl
  · rw [← hbus]
    refine on_of_rd ?_
    rw [rd_wr_apart (by rfl), rd_wr_apart (by rfl), hrd]
    rfl

theorem selfTestDone_ends {vin : Nat} (hbound : s.shutdownBound = true) (hlife : s.lifeCycle ≠ 4) :
    exec (.shutdownSelfTestDone ⟨[], vin⟩) s = .next (s.commitRecord.endShutdown vin) := by
  show execShutdownSelfTestDone ⟨[], vin⟩ s = _
  rw [execShutdownSelfTestDone, if_neg (by simp [hbound]), if_neg hlife]
  rfl

/-- Settles O48 part 2. -/
theorem shutdown_off {vin : Nat} (hbound : s.shutdownBound = true) (hlife : s.lifeCycle ≠ 4)
    (hwaits : s.sys.restartWaits = false) (hrestart : s.sys.restart ≠ 4) :
    ∃ t, exec (.shutdownSelfTestDone ⟨[], vin⟩) s = .next t ∧ t.sys.phase = .off ∧ t.bist.recValid = true ∧
      t.bist.recSeq = s.bist.recSeq + 1 ∧ t.bist.recHeld = s.bist.held ∧ t.clk.stored = s.clk.tbPs ∧
      t.rd SYS_START_STAT.mem_active = 0 ∧ t.lines = s.lines := by
  obtain ⟨hvalid, hseq, hheld, hlines, hsys, hclk⟩ := commitRecord_commits (s := s)
  obtain ⟨hbist', hlines', hsys', hclk', -⟩ := shutdownStored_stores (s := s.commitRecord) vin
  have hexec := selfTestDone_ends (vin := vin) hbound hlife
  rw [endShutdown_eq] at hexec
  generalize shutdownStored s.commitRecord vin = a at *
  rw [hsys', hsys, if_neg hrestart, if_neg (by simp [hwaits])] at hexec
  obtain ⟨-, hframe, hmem⟩ := poweredOff_powerOff (s := a)
  refine ⟨_, hexec, ?_, ?_, ?_, ?_, ?_, hmem, ?_⟩
  · rw [hframe]
  · rw [hframe]
    exact (congrArg BistState.recValid hbist').trans hvalid
  · rw [hframe]
    exact (congrArg BistState.recSeq hbist').trans hseq
  · rw [hframe]
    exact (congrArg BistState.recHeld hbist').trans hheld
  · rw [hframe]
    exact hclk'.trans (congrArg ClockState.tbPs hclk)
  · rw [hframe]
    exact hlines'.trans hlines

/-- A device reset starts afresh. -/
theorem shutdown_restarts {vin : Nat} (hbound : s.shutdownBound = true) (hlife : s.lifeCycle ≠ 4)
    (hrestart : s.sys.restart = 4) :
    ∃ t, exec (.shutdownSelfTestDone ⟨[], vin⟩) s = .next t ∧ t.sys.phase = .starting ∧ t.rd SYS_RST_CAUSE.cause = 4 ∧
      t.rd BANK_PF_CTL.bus48 = (decide (24000 < vin)).toNat ∧ t.bist.recSeq = s.bist.recSeq + 1 ∧ t.lines = [] := by
  obtain ⟨-, hseq, -, -, hsys, -⟩ := commitRecord_commits (s := s)
  obtain ⟨hbist', -, hsys', -, hbus⟩ := shutdownStored_stores (s := s.commitRecord) vin
  have hexec := selfTestDone_ends (vin := vin) hbound hlife
  rw [endShutdown_eq] at hexec
  generalize shutdownStored s.commitRecord vin = a at *
  rw [hsys', hsys, if_pos hrestart] at hexec
  have h := poweredOn_powerOn (s := a) 4 true
  exact ⟨_, hexec, h.phase, h.cause, h.bus48.trans (congrArg Bool.toNat hbus),
    h.recSeq.trans ((congrArg BistState.recSeq hbist').trans hseq), h.lines⟩

/-! ## Life-cycle requests (R458, R459) -/

theorem lifeRefusal_lt (target : Nat) (reg : Bool) : s.lifeRefusal target reg < 16 := by
  unfold State.lifeRefusal
  extract_lets st
  repeat' split
  all_goals decide

/-- A refused request (R458). -/
theorem lifeRequest_refused {target : Nat} {reg : Bool} (h : s.lifeRefusal target reg ≠ 0) :
    (s.lifeRequest target reg).rd SYS_LC_STAT.refused = 1 ∧
      (s.lifeRequest target reg).rd SYS_LC_STAT.reason = s.lifeRefusal target reg ∧
      (s.lifeRequest target reg).lifeCycle = s.lifeCycle ∧ KeepsData s (s.lifeRequest target reg) := by
  have hlt := lifeRefusal_lt (s := s) target reg
  unfold State.lifeRequest
  extract_lets r
  rw [if_neg h]
  refine ⟨?_, ?_, ?_, (((logged_wr _ _).trans (logged_wr _ _)).err _ _ _).keepsData⟩
  · exact (rd_err (by rfl) _ _).trans ((rd_wr_apart (by rfl) _).trans rd_put_self)
  · exact (rd_err (by rfl) _ _).trans (rd_wr_lt hlt)
  · exact (rd_err (by rfl) _ _).trans ((rd_wr_apart (by rfl) _).trans (rd_wr_apart (by rfl) _))

/-- A request that is committed (R459). -/
theorem lifeRequest_commits {target : Nat} {reg : Bool} (h : s.lifeRefusal target reg = 0) :
    (s.lifeRequest target reg).sys.lcPending = some target ∧ (s.lifeRequest target reg).rd SYS_LC_STAT.busy = 1 ∧
      (s.lifeRequest target reg).lifeCycle = s.lifeCycle ∧ (s.lifeRequest target reg).lines = s.lines ∧
      (s.lifeRequest target reg).crypto = s.crypto ∧ (s.lifeRequest target reg).folio = s.folio := by
  have hrd : ((s.put SYS_LC_STAT.busy).cause 0x00 3).rd SYS_LC_STAT.busy = 1 := (rd_cause (by rfl) _).trans rd_put_self
  have hlife : ((s.put SYS_LC_STAT.busy).cause 0x00 3).rd SYS_LC.state = s.rd SYS_LC.state :=
    (rd_cause (by rfl) _).trans (rd_wr_apart (by rfl) _)
  have hl : Logged s ((s.put SYS_LC_STAT.busy).cause 0x00 3) := (logged_wr _ _).cause _ _
  unfold State.lifeRequest
  extract_lets r
  rw [if_pos h]
  unfold State.commitLife
  generalize (s.put SYS_LC_STAT.busy).cause 0x00 3 = a at *
  obtain ⟨hlines, hcrypto, hfolio, -⟩ := hl.keepsData
  exact ⟨rfl, hrd, hlife, hlines, hcrypto, hfolio⟩

theorem sysLcCmd_requests {who : Accessor} {target : Fin 8} (htakes : takes s who 0x00 = true) :
    exec (.sysLcCmd who target 0x4C43) s = .next (s.lifeRequest target true) := by
  show execSysLcCmd who target 0x4C43 s = _
  rw [execSysLcCmd, command_takes htakes, if_pos rfl]

theorem setLifeCycle_fm {target : Fin 8} (hphase : s.sys.phase = .active) (hopen : s.sessionOpen .fm = true) :
    exec (.setLifeCycle .fm target) s = .next ((s.lifeRequest target false).emit (.keyAnswer
      (if s.lifeRefusal target false = 0 then 0 else 0x10 + s.lifeRefusal target false) [])) := by
  show execSetLifeCycle .fm target s = _
  rw [execSetLifeCycle, if_neg (by simp [hphase, hopen]), if_neg (by simp)]

theorem setLifeCycle_other {port : PortNo} {ld : LdNo} {target : Fin 8} (hphase : s.sys.phase = .active)
    (hopen : s.sessionOpen (.ld port ld) = true) :
    exec (.setLifeCycle (.ld port ld) target) s = .next (s.emit (.keyAnswer 0x01 [])) := by
  show execSetLifeCycle (.ld port ld) target s = _
  rw [execSetLifeCycle, if_neg (by simp [hphase, hopen]), if_pos (by simp)]

theorem setLifeCycle_closed {session : Session} {target : Fin 8} (hopen : s.sessionOpen session = false) :
    exec (.setLifeCycle session target) s = .next s := by
  show execSetLifeCycle session target s = _
  rw [execSetLifeCycle, if_pos (by simp [hopen])]

/-! ## The fuse of a transition (R457, R459) -/

/-- The life of a device whose fuse is blown. -/
def fuseBlown (s : State) (target : Nat) : State :=
  { s with sys := { s.sys with lcFuses := s.sys.lcFuses ||| fuseOf s.sys.lcFuses target, lcPending := none } }

theorem blowFuse_some {target : Nat} (h : s.sys.lcPending = some target) : s.blowFuse =
    ((fuseBlown s target).clr SYS_LC_STAT.busy).wr SYS_LC.next (lifeOf (fuseBlown s target).sys.lcFuses) := by
  rw [State.blowFuse, h]
  rfl

theorem fuseBlown_wr (f g : Fld) (n target v w : Nat) :
    let t := ((fuseBlown (s.advance n) target).wr f v).wr g w
    t.sys.lcPending = none ∧ t.sys.lcFuses = s.sys.lcFuses ||| fuseOf s.sys.lcFuses target ∧ t.now = s.now + n ∧
      SameRegs s t [f, g] ∧ t = { s with flds := t.flds, sys := t.sys, now := t.now, clk := t.clk } := by
  refine ⟨rfl, rfl, rfl, ?_, rfl⟩
  exact ((((Writes.refl s).flds (u := fuseBlown (s.advance n) target) rfl).wr (.head _)).wr (.tail _ (.head _))).regs

/-- A fuse is blown 20 µs after the transition is committed. -/
def fuseDone (s : State) : State := (s.advance (20 * psUs)).blowFuse

theorem fuseDone_blown {target : Nat} (h : s.sys.lcPending = some target) :
    let t := fuseDone s
    t.sys.lcPending = none ∧ t.rd SYS_LC_STAT.busy = 0 ∧
      t.sys.lcFuses = s.sys.lcFuses ||| fuseOf s.sys.lcFuses target ∧ t.now = s.now + 20000000 ∧
      SameRegs s t [SYS_LC_STAT.busy, SYS_LC.next] ∧
      t = { s with flds := t.flds, sys := t.sys, now := t.now, clk := t.clk } := by
  have hpending : (s.advance (20 * psUs)).sys.lcPending = some target := h
  obtain ⟨hnone, hfuses, hnow, hregs, hframe⟩ := fuseBlown_wr (s := s) SYS_LC_STAT.busy SYS_LC.next (20 * psUs) target 0
    (lifeOf (fuseBlown (s.advance (20 * psUs)) target).sys.lcFuses)
  rw [fuseDone, blowFuse_some hpending, State.clr_eq]
  exact ⟨hnone, (rd_wr_apart (by rfl) _).trans (State.rd_wr_self _ _ 0), hfuses, hnow, hregs, hframe⟩

theorem lcFuseProgrammed_done {target : Nat} (h : s.sys.lcPending = some target) (htarget : target ≠ 4)
    (hlife : s.lifeCycle < 2) : exec .lcFuseProgrammed s = .next (fuseDone s) := by
  show execLcFuseProgrammed s = _
  rw [execLcFuseProgrammed, h]
  dsimp only
  rw [if_neg htarget, if_neg (by omega)]
  rfl

theorem lcFuseProgrammed_decommissions (h : s.sys.lcPending = some 4) :
    exec .lcFuseProgrammed s = .next (fuseDone s).decommission := by
  show execLcFuseProgrammed s = _
  rw [execLcFuseProgrammed, h]
  rfl

/-- The keys are gone, and the device is in DECOMMISSIONED. -/
theorem zeroise_zeroises : s.zeroise.crypto.keys = [] ∧ s.zeroise.crypto.recKeys = [] ∧ s.zeroise.folio.key = none ∧
    s.zeroise.lines = s.lines ∧ (unpaired s → unpaired s.zeroise) := by
  unfold State.zeroise
  extract_lets _ _ u
  have hu : u.crypto.keys = [] ∧ u.crypto.recKeys = [] ∧ u.folio.key = none ∧ u.lines = s.lines ∧
      (unpaired s → unpaired u) := ⟨rfl, rfl, rfl, rfl, id⟩
  clear_value u
  exact forAll_keeps (P := fun u : State => u.crypto.keys = [] ∧ u.crypto.recKeys = [] ∧ u.folio.key = none ∧
    u.lines = s.lines ∧ (unpaired s → unpaired u)) (f := fun s r => s.setRow r (2 ^ 56 - 1)) (fun _ _ h => h) _ hu

/-- Memory is closed to the hosts. -/
def memoryClosed (s : State) : State :=
  (s.clr SYS_START_STAT.mem_active).forAll (List.range 4) fun s p => s.clr (PORT_LINK_STAT.mem_active.port p)

theorem decommission_eq :
    s.decommission = memoryClosed (pairLeft ((s.zeroise.wr SYS_LC.state 4).sendDove (.bye 3))) := rfl

/-- The fields of the close of memory. -/
def closedFields : List Fld :=
  SYS_START_STAT.mem_active :: (List.range 4).map fun p => PORT_LINK_STAT.mem_active.port p

theorem memoryClosed_closes : Sets closedFields s (memoryClosed s) ∧ (memoryClosed s).rd SYS_START_STAT.mem_active = 0 := by
  have hports : ∀ w : State, Sets ((List.range 4).map fun p => PORT_LINK_STAT.mem_active.port p) w
      (w.forAll (List.range 4) fun s p => s.clr (PORT_LINK_STAT.mem_active.port p)) := fun w =>
    (Sets.refl w).forAllMem fun u p hp hu => hu.wr (List.mem_map_of_mem hp)
  have hclr : Sets closedFields s (s.clr SYS_START_STAT.mem_active) := (Sets.refl s).wr (.head _)
  exact ⟨hclr.trans ((hports _).mono (List.subset_cons_self _ _)), (hports _).rd.trans (State.rd_wr_self _ _ 0)⟩

theorem pairLeft_keeps (h : unpaired s) : Writes (DOVE_STAT.pair :: splitFields) s (pairLeft s) ∧
    (pairLeft s).crypto = s.crypto ∧ (pairLeft s).folio = s.folio ∧ (pairLeft s).lines = s.lines := by
  have k := split_splitPair h
  unfold pairLeft
  generalize s.splitPair = a at *
  split
  · refine ⟨(k.writes.mono (List.subset_cons_self _ _)).wr (.head _), ?_, ?_, ?_⟩
    · rw [State.wr_crypto, k.frame]
    · rw [State.wr_folio, k.frame]
    · rw [State.wr_lines, k.frame]
  · exact ⟨.refl s, rfl, rfl, rfl⟩

/-- What the end of a pair keeps of a device that is DECOMMISSIONED. -/
theorem decommission_ends (h : unpaired s) : s.decommission.lifeCycle = 4 ∧ s.decommission.crypto.keys = [] ∧
    s.decommission.crypto.recKeys = [] ∧ s.decommission.folio.key = none ∧
    s.decommission.rd SYS_START_STAT.mem_active = 0 ∧ s.decommission.lines = s.lines := by
  obtain ⟨hkeys, hrec, hfolio, hlines, hpair⟩ := zeroise_zeroises (s := s)
  have hz := hpair h
  rw [decommission_eq]
  generalize s.zeroise = z at *
  have hsend := split_sendDove (s := z.wr SYS_LC.state 4) (.bye 3)
  have hwr : (z.wr SYS_LC.state 4).rd SYS_LC.state = 4 := State.rd_wr_self _ _ 4
  have hwait : unpaired ((z.wr SYS_LC.state 4).sendDove (.bye 3)) := unpaired_of_split hsend (unpaired_wr _ _ hz)
  obtain ⟨hw, hcrypto, hfolio', hlines'⟩ := pairLeft_keeps hwait
  generalize (z.wr SYS_LC.state 4).sendDove (.bye 3) = a at *
  generalize pairLeft a = b at *
  obtain ⟨hset, hmem⟩ := memoryClosed_closes (s := b)
  obtain ⟨hlines'', hcrypto'', hfolio'', -⟩ := hset.keepsData
  replace hcrypto := hcrypto''.trans (hcrypto.trans (hsend.crypto.trans (State.wr_crypto ..)))
  replace hfolio' := hfolio''.trans (hfolio'.trans (hsend.folio.trans (State.wr_folio ..)))
  replace hlines' := hlines''.trans (hlines'.trans (hsend.lines.trans (State.wr_lines ..)))
  refine ⟨?_, by rw [hcrypto, hkeys], by rw [hcrypto, hrec], by rw [hfolio', hfolio], hmem, hlines'.trans hlines⟩
  exact hset.rd.trans (hw.rd.trans (hsend.writes.rd.trans hwr))

theorem unpaired_of_settled (h : settled s = true) : unpaired s := by
  simp only [settled, Bool.and_eq_true, decide_eq_true_eq] at h
  obtain ⟨⟨⟨⟨⟨⟨hquiet, -⟩, hrecoveries⟩, hwaiting⟩, -⟩, -⟩, -⟩ := h
  exact ⟨(quiet_iff.1 hquiet).1, hrecoveries, hwaiting⟩

/-- Settles O48: a device at rest keeps its lines as its rings, ports and pair end, and the commit of the record and the fuse
write none of what the statement names. -/
theorem shutdownAndLifeCycle : Obligations.ShutdownAndLifeCycle := by
  unfold Obligations.ShutdownAndLifeCycle
  refine ⟨fun who s htakes hphase hsettled hcalm => ⟨?_, ?_⟩, fun vin s hbound hlife hwaits hrestart => ?_,
    fun vin s hbound hlife hrestart => ?_, fun who target s htakes => ⟨fun h => ?_, fun h => ?_⟩,
    fun target s hphase hopen => ⟨fun h => ?_, fun h => ?_, fun port ld hld => ?_⟩, fun session target s hopen => ?_,
    fun target s hpending htarget hlife => ?_, fun s hpending hsettled => ?_⟩
  · have h := shutdownBegun_beginShutdown 0 hphase hsettled hcalm
    exact ⟨_, congrArg Host.Outcome.next (rstCmd_acts htakes _), h.phase, h.restart, h.bindDue, h.rings, h.lines⟩
  · have h := shutdownBegun_beginShutdown 4 hphase hsettled hcalm
    exact ⟨_, congrArg Host.Outcome.next (rstCmd_acts htakes _), h.phase, h.restart, h.rings, h.lines⟩
  · exact shutdown_off hbound hlife hwaits hrestart
  · exact shutdown_restarts hbound hlife hrestart
  · exact ⟨_, sysLcCmd_requests htakes, lifeRequest_commits h⟩
  · exact ⟨_, sysLcCmd_requests htakes, lifeRequest_refused h⟩
  · obtain ⟨hpending, -, -, hlines, hcrypto, hfolio⟩ := lifeRequest_commits h
    refine ⟨_, setLifeCycle_fm hphase hopen, hpending, ?_, hlines, hcrypto, hfolio⟩
    rw [if_pos h]
    rfl
  · obtain ⟨-, -, -, hkeeps⟩ := lifeRequest_refused h
    refine ⟨_, setLifeCycle_fm hphase hopen, ?_, hkeeps⟩
    rw [if_neg h]
    rfl
  · exact setLifeCycle_other hphase hld
  · exact setLifeCycle_closed hopen
  · exact ⟨_, lcFuseProgrammed_done hpending htarget hlife, fuseDone_blown hpending⟩
  · obtain ⟨-, -, -, -, -, hframe⟩ := fuseDone_blown hpending
    have hexec := lcFuseProgrammed_decommissions hpending
    have hpair : unpaired (fuseDone s) := by
      have h := unpaired_of_settled hsettled
      rw [hframe]
      exact h
    have hlines : (fuseDone s).lines = s.lines := by rw [hframe]
    generalize fuseDone s = t at *
    obtain ⟨hlife, hkeys, hrec, hkey, hmem, hl⟩ := decommission_ends hpair
    exact ⟨_, hexec, hlife, hkeys, hrec, hkey, hmem, hl.trans hlines⟩

end Sys2Proof.Proofs

/-! # The sideband answers (R456, R567 to R574, R591) -/

namespace Sys2Proof.Proofs

open Sys2Proof Sys2Proof.Machine Sys2Proof.Laws

set_option Elab.async false

variable {s t u : State}

/-! ## ALERT_N and the response (R591) -/

/-- Beside ALERT_N nothing has changed. -/
theorem fixAlert_keeps : s.fixAlert = { s with pin := s.fixAlert.pin, out := s.fixAlert.out } ∧
    (s.fixAlert.out = s.out ∨ ∃ low, s.fixAlert.out = .alertN low :: s.out) := by
  unfold State.fixAlert
  extract_lets low
  split
  · exact ⟨rfl, .inl rfl⟩
  · exact ⟨rfl, .inr ⟨low, rfl⟩⟩

/-- A response has gone out over what a service did. -/
structure Responds (u : State) (mtype cmd code : Nat) (payload : List Nat) (t : State) : Prop where
  sb : t.sb = { u.sb with uncollected := true }
  replied : SbReplied u t mtype cmd code payload
  frame : t = { u with sb := t.sb, pin := t.pin, out := t.out }

theorem sbReply_responds (mtype cmd code : Nat) (payload : List Nat) :
    Responds u mtype cmd code payload (u.sbReply mtype cmd code payload) := by
  obtain ⟨hframe, hout⟩ := fixAlert_keeps
    (s := ({ u with sb := { u.sb with uncollected := true } } : State).emit (.sideband mtype cmd code payload))
  unfold State.sbReply
  generalize (({ u with sb := { u.sb with uncollected := true } } : State).emit
    (.sideband mtype cmd code payload)).fixAlert = t at *
  refine ⟨?_, ⟨?_, hout⟩, ?_⟩
  · rw [hframe]
    rfl
  · rw [hframe]
    rfl
  · rw [hframe]
    rfl

section
variable {mtype cmd code : Nat} {payload : List Nat}

theorem Responds.regs (h : Responds u mtype cmd code payload t) : SameRegs u t [] := fun f _ => by
  rw [h.frame]
  rfl

theorem Responds.keepsData (h : Responds u mtype cmd code payload t) : KeepsData u t := by
  rw [h.frame]
  exact ⟨rfl, rfl, rfl, rfl⟩

/-- The response stands among what has been sent. -/
theorem Responds.mem (h : Responds u mtype cmd code payload t) : Out.sideband mtype cmd code payload ∈ t.out := by
  obtain ⟨-, h | ⟨low, h⟩⟩ := h.replied
  · rw [h]
    exact .head _
  · rw [h]
    exact .tail _ (.head _)

/-- A service that changed nothing beside the sideband. -/
theorem Responds.service {b : SidebandState} (h : Responds { s with sb := b } mtype cmd code payload t) :
    SbReplied s t mtype cmd code payload ∧ t = { s with sb := t.sb, pin := t.pin, out := t.out } := by
  refine ⟨h.replied, ?_⟩
  rw [h.frame]

theorem sbReply_plain : SbReplied s (s.sbReply mtype cmd code payload) mtype cmd code payload ∧
    s.sbReply mtype cmd code payload = { s with
      sb := (s.sbReply mtype cmd code payload).sb
      pin := (s.sbReply mtype cmd code payload).pin
      out := (s.sbReply mtype cmd code payload).out } :=
  (sbReply_responds (u := s) mtype cmd code payload).service (b := s.sb)

end

/-! ## Who is served (R567 to R569) -/

theorem sbControl_up (h : s.sbUp = true) (f : State → State) : s.sbControl f = .next (f s) := by
  rw [State.sbControl, if_pos h]

theorem sbServes_iff : sbServes s = true ↔ s.sbUp = true ∧ s.rd SB_STAT.eid ≠ 0 ∧ s.on SB_STAT.core_ready = true := by
  simp only [sbServes, Bool.and_eq_true, decide_eq_true_eq, and_assoc]

theorem sbService_serves (h : sbServes s = true) (mtype cmd busy : Nat) (f : State → State) :
    s.sbService mtype cmd busy f = .next (f s) := by
  obtain ⟨hup, heid, hready⟩ := sbServes_iff.1 h
  rw [State.sbService, if_neg (by simp [hup, heid]), if_neg (by simp [hready])]

theorem spdm_serves (h : sbServes s = true) (cmd : Nat) (f : State → State) : s.spdm cmd f = .next (f s) :=
  sbService_serves h _ _ _ _

theorem spdmSigned_serves (h : sbServes s = true) (hlife : s.lifeCycle ≠ 4) (cmd : Nat) (f : State → State) :
    s.spdmSigned cmd f = .next (f s) := by
  rw [State.spdmSigned, spdm_serves h, if_neg hlife]

/-! ## The front end (R567, R569, R570) -/

/-- A message has been counted. -/
def messageCounted (s : State) : State :=
  (({ s with sb := { s.sb with uncollected := false } } : State).bump SB_MCTP_RX.count).fixAlert

theorem messageCounted_counts : CountedUp s (messageCounted s) SB_MCTP_RX.count ∧
    (messageCounted s).sb = { s.sb with uncollected := false } ∧ SameRegs s (messageCounted s) [SB_MCTP_RX.count] ∧
    messageCounted s = { s with flds := (messageCounted s).flds, sb := (messageCounted s).sb, pin := (messageCounted s).pin,
                                out := (messageCounted s).out } := by
  have hset : ∀ (b : SidebandState) (f : Fld), let t := ({ s with sb := b } : State).bump f
      CountedUp s t f ∧ t.sb = b ∧ SameRegs s t [f] ∧ t = { s with flds := t.flds, sb := t.sb } := fun b f =>
    ⟨rd_bump _, rfl, ((Writes.refl s).wr (List.mem_singleton.2 rfl)).regs, rfl⟩
  obtain ⟨hcount, hsb, hregs, hframe⟩ := hset { s.sb with uncollected := false } SB_MCTP_RX.count
  unfold messageCounted
  generalize ({ s with sb := { s.sb with uncollected := false } } : State).bump SB_MCTP_RX.count = a at *
  obtain ⟨halert, -⟩ := fixAlert_keeps (s := a)
  have hrd : ∀ f, a.fixAlert.rd f = a.rd f := fun f => by rw [halert]; rfl
  refine ⟨(hrd _).trans hcount, ?_, fun f hf => (hrd f).trans (hregs f hf), ?_⟩
  · rw [halert]
    exact hsb
  · rw [halert, hframe]

/-- A message that is dropped (R567, R569, R570). -/
theorem sbDrop_drops : CountedUp s s.sbDrop SB_MCTP_DROP.count ∧ s.sbDrop.rd SB_MCTP_RX.count = s.rd SB_MCTP_RX.count ∧
    KeepsData s s.sbDrop :=
  ⟨(rd_err (by rfl) _ _).trans (rd_bump _), (rd_err (by rfl) _ _).trans (rd_wr_apart (by rfl) _),
    ((logged_wr _ _).err _ _ _).keepsData⟩

theorem mctpMessage_counts {mtype : BitVec 8} {len : Nat} {changes fm : Bool} (hup : s.sbUp = true) :
    exec (.mctpMessage mtype len changes fm true) s = .next (
      if 4096 < len ∨ mtype.toNat ∉ mctpTypes ∨ (mtype ≠ 0 ∧ s.rd SB_STAT.eid = 0) then (messageCounted s).sbDrop
      else if changes ∧ !(fm ∧ s.sessionOpen .fm) ∧ s.sbSecure then
        (messageCounted s).sbDrop.sbReply mtype.toNat 0 rcUnsupported []
      else messageCounted s) := by
  obtain ⟨-, hsb, hregs, -⟩ := messageCounted_counts (s := s)
  have hrd : ∀ f, apart f SB_MCTP_RX.count = true → (messageCounted s).rd f = s.rd f := fun f hf =>
    hregs f fun h => key_ne_of_apart hf (List.mem_singleton.1 h)
  have hopen : (messageCounted s).sessionOpen .fm = s.sessionOpen .fm := by rw [State.sessionOpen, State.sessionOpen, hsb]
  have hsecure : (messageCounted s).sbSecure = s.sbSecure := by
    rw [State.sbSecure, State.sbSecure, State.lifeCycle, State.lifeCycle, on_of_rd (hrd SB_CTL.secure_only (by rfl)),
      hrd SYS_LC.state (by rfl)]
  have heid : (messageCounted s).rd SB_STAT.eid = s.rd SB_STAT.eid := hrd _ (by rfl)
  show execMctpMessage mtype len changes fm true s = _
  unfold execMctpMessage
  rw [if_neg (by simp [hup]), if_neg (by simp)]
  extract_lets _ u
  have hu : u = messageCounted s := rfl
  clear_value u
  subst hu
  rw [heid, hopen, hsecure]
  split
  · rfl
  · split <;> rfl

theorem messageCounted_data : KeepsData s (messageCounted s) := by
  obtain ⟨-, -, -, hframe⟩ := messageCounted_counts (s := s)
  rw [hframe]
  exact ⟨rfl, rfl, rfl, rfl⟩

/-- A message that is dropped is counted twice over: as received and as dropped. -/
theorem dropped_counts : CountedUp s (messageCounted s).sbDrop SB_MCTP_RX.count ∧
    CountedUp s (messageCounted s).sbDrop SB_MCTP_DROP.count ∧ KeepsData s (messageCounted s).sbDrop := by
  obtain ⟨hcount, -, hregs, -⟩ := messageCounted_counts (s := s)
  have hdrop : (messageCounted s).rd SB_MCTP_DROP.count = s.rd SB_MCTP_DROP.count := hregs _ (by decide)
  have hdata := messageCounted_data (s := s)
  generalize messageCounted s = a at *
  obtain ⟨hdropped, hrx, hkeeps⟩ := sbDrop_drops (s := a)
  exact ⟨hrx.trans hcount, hdropped.trans (by rw [hdrop]), keepsData_trans hdata hkeeps⟩

theorem mctpMessage_pec {mtype : BitVec 8} {len : Nat} {changes fm : Bool} (hup : s.sbUp = true)
    (hmode : s.rd SB_STAT.mode = 1) :
    exec (.mctpMessage mtype len changes fm false) s = .next ((s.bump SB_PEC_ERR.count).err 0x08 0x1501 0) := by
  show execMctpMessage mtype len changes fm false s = _
  rw [execMctpMessage, if_neg (by simp [hup]), if_pos ⟨hmode, rfl⟩]

/-! ## The bus modes (R567) -/

theorem sbMode_whole (mode : Nat) : s.sbMode mode false = ((s.wr SB_STAT.mode mode).cause 0x08 2).fixAlert := rfl

/-- The mode has changed. -/
theorem sbMode_changes {mode : Nat} (hmode : mode < 4) : (s.sbMode mode false).rd SB_STAT.mode = mode ∧
    (s.sbMode mode false).rd SB_STAT.dyn_addr = s.rd SB_STAT.dyn_addr ∧ KeepsData s (s.sbMode mode false) := by
  have hm : ((s.wr SB_STAT.mode mode).cause 0x08 2).rd SB_STAT.mode = mode := (rd_cause (by rfl) _).trans (rd_wr_lt hmode)
  have hd : ((s.wr SB_STAT.mode mode).cause 0x08 2).rd SB_STAT.dyn_addr = s.rd SB_STAT.dyn_addr :=
    (rd_cause (by rfl) _).trans (rd_wr_apart (by rfl) _)
  have hk : KeepsData s ((s.wr SB_STAT.mode mode).cause 0x08 2) := ((logged_wr _ _).cause _ _).keepsData
  rw [sbMode_whole]
  generalize (s.wr SB_STAT.mode mode).cause 0x08 2 = a at *
  obtain ⟨halert, -⟩ := fixAlert_keeps (s := a)
  have hrd : ∀ f, a.fixAlert.rd f = a.rd f := fun f => by rw [halert]; rfl
  refine ⟨(hrd _).trans hm, (hrd _).trans hd, ?_⟩
  rw [halert]
  exact hk

theorem i3cDynamicAddress_changes {addr : BitVec 7} (hmode : s.rd SB_STAT.mode = 1) (hen : s.on SB_CTL.i3c_en = true)
    (hphase : s.sys.phase ≠ .hold) :
    exec (.i3cDynamicAddress addr false) s = .next ((s.wr SB_STAT.dyn_addr addr.toNat).sbMode 2 false) := by
  have hm : (s.wr SB_STAT.dyn_addr addr.toNat).rd SB_STAT.mode = 1 := (rd_wr_apart (by rfl) _).trans hmode
  show execI3cDynamicAddress addr false s = _
  rw [execI3cDynamicAddress, if_neg (by simp [hmode, hen, hphase])]
  exact congrArg Host.Outcome.next (if_neg (by rw [hm]; decide))

theorem i3cReset_changes (hmode : s.rd SB_STAT.mode = 2) (hphase : s.sys.phase ≠ .hold) :
    exec (.i3cReset false) s = .next ((s.wr SB_STAT.dyn_addr 0).sbMode 1 false) := by
  show execI3cReset false s = _
  rw [execI3cReset, if_neg (by simp [hmode, hphase])]
  rfl

/-! ## Endpoint IDs (R569) -/

/-- An endpoint ID is assigned. -/
def eidAssigned (s : State) (eid : BitVec 8) : State := (s.wr SB_STAT.eid eid.toNat).cause 0x08 1

theorem setEndpointId_assigns {eid : BitVec 8} (hup : s.sbUp = true) (hzero : eid ≠ 0) (hall : eid ≠ 0xFF) :
    exec (.setEndpointId eid) s = .next ((eidAssigned s eid).sbReply 0 1 0 [eid.toNat]) := by
  show execSetEndpointId eid s = _
  rw [execSetEndpointId, sbControl_up hup, if_neg (fun h => h.elim hzero hall)]
  rfl

theorem setEndpointId_refuses (hup : s.sbUp = true) : exec (.setEndpointId 0) s = .next (s.sbReply 0 1 2 []) := by
  show execSetEndpointId 0 s = _
  rw [execSetEndpointId, sbControl_up hup, if_pos (.inl rfl)]

theorem eidAssigned_assigns (eid : BitVec 8) : (eidAssigned s eid).rd SB_STAT.eid = eid.toNat ∧
    KeepsData s (eidAssigned s eid) :=
  ⟨(rd_cause (by rfl) _).trans (rd_wr_lt eid.isLt), ((logged_wr _ _).cause _ _).keepsData⟩

/-! ## Firmware over PLDM (R574) -/

/-- A transfer is at an offset. -/
def transferAt (s : State) (o : Option Nat) : State := { s with sb := { s.sb with fwOffset := o } }

theorem pldmTransfer_first {version secver : Nat} {sigOk : Bool} (hbusy : s.fwBusy none = false)
    (hnone : s.sb.fwOffset = none) : s.pldmTransfer 0 version secver sigOk false =
      (transferAt s (some 0)).sbReply 1 0x15 0 [] := by
  unfold State.pldmTransfer
  extract_lets _ at_ fits
  have hfits : fits = true := by
    unfold fits
    rw [hnone]
    rfl
  rw [if_neg (by simp [hbusy]), if_neg (by simp [hfits]), if_neg Bool.false_ne_true]
  rfl

theorem pldmTransfer_last {version secver : Nat} {sigOk : Bool} (hbusy : s.fwBusy none = false)
    (hnone : s.sb.fwOffset = none) : s.pldmTransfer 0 version secver sigOk true =
      ((transferAt s none).fwArrived version secver sigOk).sbReply 1 0x15 0 [] := by
  unfold State.pldmTransfer
  extract_lets _ at_ fits
  have hfits : fits = true := by
    unfold fits
    rw [hnone]
    rfl
  rw [if_neg (by simp [hbusy]), if_neg (by simp [hfits]), if_pos rfl]
  rfl

theorem pldmFirmwareUpdate_transfers {version secver : Nat} {last : Bool} (h : sbServes s = true)
    (hsecure : s.sbSecure = true → s.sessionOpen .fm = true) :
    exec (.pldmFirmwareUpdate false true 0 version secver true last) s =
      .next (s.pldmTransfer 0 version secver true last) := by
  show execPldmFirmwareUpdate false true 0 version secver true last s = _
  rw [execPldmFirmwareUpdate, sbService_serves h]
  refine congrArg Host.Outcome.next ((if_neg ?_).trans (if_neg Bool.false_ne_true))
  rintro ⟨hs, hn⟩
  simp [hsecure hs] at hn

/-! ## Sensors and SPDM (R569, R571 to R573) -/

/-- What a sensor answers: its value, or that there is none. -/
def sensorAnswer (s : State) (sensor : Fin 32) : State :=
  match s.pldmSensor sensor with
  | none => s.sbReply 1 0x11 pldmNoSensor []
  | some v => s.sbReply 1 0x11 0 [v]

theorem pldmMonitoring_serves {sensor : Fin 32} (h : sbServes s = true) (hsensor : sensor.val ≠ 21) :
    exec (.pldmMonitoring sensor) s = .next (sensorAnswer s sensor) := by
  obtain ⟨hup, heid, hready⟩ := sbServes_iff.1 h
  show execPldmMonitoring sensor s = _
  unfold execPldmMonitoring
  extract_lets n
  rw [if_neg (by simp [hup, heid]), if_neg (by simp [hready]), if_neg hsensor, sensorAnswer] <;> rfl

/-- An SPDM session is open. -/
def sessionsSet (s : State) (l : List (Nat × Nat × Option Session)) : State := { s with sb := { s.sb with sessions := l } }

theorem keyExchange_opens {who : Option Session} (h : sbServes s = true) (hlife : s.lifeCycle ≠ 4)
    (hopen : s.openSessions < 8) (hnone : s.sb.sessions = []) :
    exec (.keyExchange ⟨true, who⟩) s = .next ((sessionsSet s [(0, 0, who)]).sbReply 5 0xE4 0 [0]) := by
  show execKeyExchange ⟨true, who⟩ s = _
  rw [execKeyExchange, spdmSigned_serves h hlife, if_neg (Nat.not_le.2 hopen), if_neg (by simp), hnone]
  rfl

theorem keyExchange_full {who : Option Session} (h : sbServes s = true) (hlife : s.lifeCycle ≠ 4)
    (hopen : 8 ≤ s.openSessions) :
    exec (.keyExchange ⟨true, who⟩) s = .next (s.sbReply 5 0xE4 0x0A []) := by
  show execKeyExchange ⟨true, who⟩ s = _
  rw [execKeyExchange, spdmSigned_serves h hlife, if_pos hopen]
  rfl

theorem keyUpdate_updates {session : Fin 8} {gen : Nat} {who : Option Session} (h : sbServes s = true)
    (hone : s.sb.sessions = [(session.val, gen, who)]) :
    exec (.keyUpdate session) s = .next ((sessionsSet s [(session.val, gen + 1, who)]).sbReply 5 0xE9 0 []) := by
  show execKeyUpdate session s = _
  rw [execKeyUpdate, spdm_serves h, hone, if_pos (by simp)]
  simp only [List.map_cons, List.map_nil, if_true, sessionsSet]

theorem challenge_signs {nonce : BitVec 256} (h : sbServes s = true) (hlife : s.lifeCycle ≠ 4) :
    exec (.challenge nonce) s = .next (s.drawn.sbReply 5 0x83 0
      ([nonce.toNat, (Config.nonce s.free).toNat] ++ blobWords 3 s.free)) := by
  show execChallenge nonce s = _
  rw [execChallenge, spdmSigned_serves h hlife]

theorem getEndpointId_answers (hup : s.sbUp = true) :
    exec .getEndpointId s = .next (s.sbReply 0 2 0 [s.rd SB_STAT.eid]) := by
  show execGetEndpointId s = _
  exact sbControl_up hup _

theorem getEndpointUuid_answers (hup : s.sbUp = true) :
    exec .getEndpointUuid s = .next (s.sbReply 0 3 0 (blobWords 1 0)) := by
  show execGetEndpointUuid s = _
  exact sbControl_up hup _

theorem getMctpVersionSupport_answers (hup : s.sbUp = true) :
    exec .getMctpVersionSupport s = .next (s.sbReply 0 4 0 [1, 3]) := by
  show execGetMctpVersionSupport s = _
  exact sbControl_up hup _

theorem getMessageTypeSupport_answers (hup : s.sbUp = true) :
    exec .getMessageTypeSupport s = .next (s.sbReply 0 5 0 mctpTypes) := by
  show execGetMessageTypeSupport s = _
  exact sbControl_up hup _

theorem getCertificate_answers (h : sbServes s = true) (slot : Fin 8) : exec (.getCertificate slot) s = .next (
    if slot = 0 then s.sbReply 5 0x82 0 (blobWords 2 (s.rd SB_FW_VER.version)) else s.sbReply 5 0x82 1 []) := by
  show execGetCertificate slot s = _
  exact spdm_serves h _ _

theorem getMeasurements_answers (h : sbServes s = true) :
    exec (.getMeasurements 6 false) s = .next (s.sbReply 5 0xE0 0 s.rawMeasure) := by
  show execGetMeasurements 6 false s = _
  exact spdm_serves h _ _

/-! ## Orderly shutdown and restart (R456, R570) -/

theorem orderlyShutdown_begins (h : sbServes s = true) (hsecure : s.sbSecure = true → s.sessionOpen .fm = true)
    (hphase : s.sys.phase = .active) :
    exec (.orderlyShutdown true) s = .next ((s.sbReply 8 0xC430 rcSuccess []).beginShutdown 0) := by
  show execOrderlyShutdown true s = _
  rw [execOrderlyShutdown, sbService_serves h]
  refine congrArg Host.Outcome.next ((if_neg ?_).trans (if_neg (by simp [hphase])))
  rintro ⟨hs, hn⟩
  simp [hsecure hs] at hn

theorem restart_serves (hup : s.sbUp = true) (heid : s.rd SB_STAT.eid ≠ 0) : exec .restart s = .next (
    if s.sys.phase = .off ∧ s.on SYS_SUPPLY.vin_good then (s.sbReply 8 0xC431 rcSuccess []).powerOn 5 true
    else if s.sys.phase = .shutdown then
      ({ s with sys := { s.sys with restartWaits := true } } : State).sbReply 8 0xC431 rcSuccess []
    else s.sbReply 8 0xC431 rcInvalid []) := by
  show execRestart s = _
  rw [execRestart, if_neg (by simp [hup, heid])]

/-- A restart waits for the shutdown to end. -/
def restartKept (s : State) : State := { s with sys := { s.sys with restartWaits := true } }

section
variable {mtype cmd code : Nat} {payload : List Nat}

theorem Responds.kept (h : Responds (restartKept s) mtype cmd code payload t) :
    t.sys.restartWaits = true ∧ SbReplied s t mtype cmd code payload ∧
      t = { s with sys := t.sys, sb := t.sb, pin := t.pin, out := t.out } := by
  refine ⟨?_, h.replied, ?_⟩
  · rw [h.frame]
    rfl
  · rw [h.frame]
    rfl

theorem Responds.drawn (h : Responds s.drawn mtype cmd code payload t) : SbReplied s t mtype cmd code payload ∧
    t.free = s.free + 1 ∧ t = { s with sb := t.sb, pin := t.pin, out := t.out, free := t.free } := by
  refine ⟨h.replied, ?_, ?_⟩
  · rw [h.frame]
    rfl
  · rw [h.frame]
    rfl

/-- A response stirs nothing. -/
theorem Responds.rests (h : Responds s mtype cmd code payload t) (hphase : s.sys.phase = .active)
    (hsettled : settled s = true) (hcalm : calm s = true) :
    t.sys.phase = .active ∧ settled t = true ∧ calm t = true ∧ t.lines = s.lines := by
  rw [h.frame]
  exact ⟨hphase, hsettled, hcalm, rfl⟩

end

theorem pldmLast_answers {version secver : Nat} {r : Result} (hslot : s.rd SB_FW_STAT.active_slot = 0)
    (hr : r = .next (((transferAt s none).fwArrived version secver true).sbReply 1 0x15 0 [])) :
    ∃ t, r = .next t ∧ t.sb.slot1 = { version := version, secver := secver, good := true } ∧
      t.rd SB_FW_STAT.pending = 1 ∧ SbReplied s t 1 0x15 0 [] := by
  obtain ⟨hpending, hslots, -, hframe⟩ :=
    fwArrived_arrives (s := transferAt s none) (show s.rd SB_FW_STAT.active_slot = 0 from hslot) version secver true
  have h := sbReply_responds (u := (transferAt s none).fwArrived version secver true) 1 0x15 0 []
  have hout : ((transferAt s none).fwArrived version secver true).out = s.out := by rw [hframe]; rfl
  generalize (transferAt s none).fwArrived version secver true = a at *
  refine ⟨_, hr, ?_, (h.regs _ List.not_mem_nil).trans hpending, ?_⟩
  · rw [h.sb, hslots]
  · obtain ⟨hsb, hmore⟩ := h.replied
    rw [hout] at hmore
    exact ⟨hsb, hmore⟩

/-- Settles O54: each service ends in a response, which changes the sideband, ALERT_N and what is sent alone. -/
theorem sidebandAnswers : Obligations.SidebandAnswers := by
  unfold Obligations.SidebandAnswers
  refine ⟨fun mtype len changes s hup hlen htype heid hsession => ?_, fun mtype len fm s hup hsecure hsession => ?_,
    fun mtype len changes fm s hup hlen => ?_, fun mtype len changes fm s hup hmode => ?_,
    fun addr s hmode hen hphase => ?_, fun s hmode hphase => ?_, fun eid s hup hzero hall => ?_,
    fun s hup => ⟨?_, ?_, ?_, ?_, ?_⟩,
    fun s hserves => ⟨?_, ?_, fun version secver hbusy hnone hsecure => ?_,
      fun version secver hbusy hnone hslot hsecure => ?_, ?_, fun slot hslot => ?_, fun nonce hlife => ?_, ?_,
      fun who hlife hopen hnone => ?_, fun who hlife hopen => ?_, fun session gen who hone => ?_,
      fun hphase hsettled hcalm hsecure => ?_⟩,
    fun s hup heid => ⟨fun hphase hvin => ?_, fun hphase => ?_, fun hphase => ?_⟩⟩
  · have hexec := mctpMessage_counts (mtype := mtype) (len := len) (changes := changes) (fm := true) hup
    rw [if_neg (by rintro (h | h | ⟨h, h'⟩); exacts [absurd hlen (by omega), h htype, heid.elim h (· h')]),
      if_neg (by rintro ⟨h, h', h''⟩; simp [hsession h h''] at h')] at hexec
    obtain ⟨hcount, hsb, hregs, hframe⟩ := messageCounted_counts (s := s)
    exact ⟨_, hexec, hcount, congrArg SidebandState.uncollected hsb, hregs, hframe⟩
  · have hexec := mctpMessage_counts (mtype := mtype) (len := len) (changes := true) (fm := fm) hup
    obtain ⟨hrx, hdrop, hkeeps⟩ := dropped_counts (s := s)
    have hfm : ¬ (fm = true ∧ s.sessionOpen .fm = true) := fun ⟨h, h'⟩ => by simp [h, h'] at hsession
    rw [if_pos (c := _ ∧ _) ⟨rfl, by simpa only [decide_eq_false hfm] using Bool.not_false, hsecure⟩] at hexec
    split at hexec
    · exact ⟨_, hexec, hrx, hdrop, hkeeps⟩
    · have h := sbReply_responds (u := (messageCounted s).sbDrop) mtype.toNat 0 rcUnsupported []
      exact ⟨_, hexec, (h.regs _ List.not_mem_nil).trans hrx, (h.regs _ List.not_mem_nil).trans hdrop,
        keepsData_trans hkeeps h.keepsData⟩
  · have hexec := mctpMessage_counts (mtype := mtype) (len := len) (changes := changes) (fm := fm) hup
    rw [if_pos (.inl hlen)] at hexec
    exact ⟨_, hexec, dropped_counts⟩
  · refine ⟨_, mctpMessage_pec hup hmode, (rd_err (by rfl) _ _).trans (rd_bump _),
      (rd_err (by rfl) _ _).trans (rd_wr_apart (by rfl) _), ((logged_wr _ _).err _ _ _).keepsData⟩
  · obtain ⟨hmode', haddr, hkeeps⟩ := sbMode_changes (s := s.wr SB_STAT.dyn_addr addr.toNat) (mode := 2) (by decide)
    exact ⟨_, i3cDynamicAddress_changes hmode hen hphase, hmode', haddr.trans (rd_wr_lt (addr.isLt.trans (by decide))),
      keepsData_trans (logged_wr _ _).keepsData hkeeps⟩
  · obtain ⟨hmode', haddr, hkeeps⟩ := sbMode_changes (s := s.wr SB_STAT.dyn_addr 0) (mode := 1) (by decide)
    exact ⟨_, i3cReset_changes hmode hphase, hmode', haddr.trans (rd_wr_lt (by decide)),
      keepsData_trans (logged_wr _ _).keepsData hkeeps⟩
  · obtain ⟨heid, hkeeps⟩ := eidAssigned_assigns (s := s) eid
    have h := sbReply_responds (u := eidAssigned s eid) 0 1 0 [eid.toNat]
    exact ⟨_, setEndpointId_assigns hup hzero hall, (h.regs _ List.not_mem_nil).trans heid, h.mem,
      keepsData_trans hkeeps h.keepsData⟩
  · have h := sbReply_responds (u := s) 0 1 2 []
    exact ⟨_, setEndpointId_refuses hup, h.replied, h.regs, h.frame⟩
  · have h := sbReply_responds (u := s) 0 2 0 [s.rd SB_STAT.eid]
    exact ⟨_, getEndpointId_answers hup, h.replied, h.regs, h.frame⟩
  · exact ⟨_, getEndpointUuid_answers hup, sbReply_plain⟩
  · exact ⟨_, getMctpVersionSupport_answers hup, sbReply_plain⟩
  · exact ⟨_, getMessageTypeSupport_answers hup, sbReply_plain⟩
  · exact ⟨_, pldmMonitoring_serves hserves (by decide), sbReply_plain⟩
  · exact ⟨_, pldmMonitoring_serves hserves (by decide), sbReply_plain⟩
  · have h := sbReply_responds (u := transferAt s (some 0)) 1 0x15 0 []
    refine ⟨_, (pldmFirmwareUpdate_transfers hserves hsecure).trans
      (congrArg Host.Outcome.next (pldmTransfer_first hbusy hnone)), ?_, h.service⟩
    exact congrArg SidebandState.fwOffset h.sb
  · have hexec := (pldmFirmwareUpdate_transfers (version := version) (secver := secver) (last := true) hserves
      hsecure).trans (congrArg Host.Outcome.next (pldmTransfer_last hbusy hnone))
    exact pldmLast_answers hslot hexec
  · exact ⟨_, (getCertificate_answers hserves 0).trans (congrArg _ (if_pos rfl)), sbReply_plain⟩
  · exact ⟨_, (getCertificate_answers hserves slot).trans (congrArg _ (if_neg hslot)), sbReply_plain⟩
  · have h := sbReply_responds (u := s.drawn) 5 0x83 0 ([nonce.toNat, (Config.nonce s.free).toNat] ++ blobWords 3 s.free)
    exact ⟨_, challenge_signs hserves hlife, h.drawn⟩
  · exact ⟨_, getMeasurements_answers hserves, sbReply_plain⟩
  · have h := sbReply_responds (u := sessionsSet s [(0, 0, who)]) 5 0xE4 0 [0]
    exact ⟨_, keyExchange_opens hserves hlife hopen hnone, congrArg SidebandState.sessions h.sb, h.service⟩
  · have h := sbReply_responds (u := s) 5 0xE4 0x0A []
    exact ⟨_, keyExchange_full hserves hlife hopen, (congrArg SidebandState.sessions h.sb).trans rfl, sbReply_plain⟩
  · have h := sbReply_responds (u := sessionsSet s [(session.val, gen + 1, who)]) 5 0xE9 0 []
    exact ⟨_, keyUpdate_updates hserves hone, congrArg SidebandState.sessions h.sb, h.service⟩
  · have h := sbReply_responds (u := s) 8 0xC430 rcSuccess []
    obtain ⟨hphase', hsettled', hcalm', hlines⟩ := h.rests hphase hsettled hcalm
    have hb := shutdownBegun_beginShutdown 0 hphase' hsettled' hcalm'
    exact ⟨_, orderlyShutdown_begins hserves hsecure hphase, hb.phase, hb.restart, hb.out h.mem,
      hb.lines.trans hlines⟩
  · have h := sbReply_responds (u := s) 8 0xC431 rcSuccess []
    have hexec := restart_serves hup heid
    rw [if_pos ⟨hphase, hvin⟩] at hexec
    have hp := poweredOn_powerOn (s := s.sbReply 8 0xC431 rcSuccess []) 5 true
    obtain ⟨l, hl⟩ := hp.grown
    exact ⟨_, hexec, hp.phase, hp.cause, hl ▸ List.mem_append_right _ h.mem⟩
  · have h := sbReply_responds (u := restartKept s) 8 0xC431 rcSuccess []
    have hexec := restart_serves hup heid
    rw [if_neg (by simp [hphase]), if_pos hphase] at hexec
    exact ⟨_, hexec, h.kept⟩
  · have hexec := restart_serves hup heid
    rw [if_neg (by simp [hphase]), if_neg (by simp [hphase])] at hexec
    exact ⟨_, hexec, sbReply_plain⟩

end Sys2Proof.Proofs

/-! # Supplies and the stages of the start (R434, R443 to R446, R449) -/

namespace Sys2Proof.Proofs

open Sys2Proof Sys2Proof.Machine Sys2Proof.Laws

set_option Elab.async false

variable {s t u : State}

/-! ## VIN good (R443) -/

/-- VIN has been judged, and the Bind-owed flag stands where the Always-On counter ran (R184, R521). -/
def vinJudged (s : State) (mv : Nat) (aoRan : Bool) : State :=
  { (s.advance psMs).judgeBus mv with
    sys := { ((s.advance psMs).judgeBus mv).sys with bindOwed := ((s.advance psMs).judgeBus mv).sys.bindOwed && aoRan } }

theorem vinGood_starts {mv : Nat} {aoRan : Bool} (hoff : s.sys.phase = .off) (hmv : 8800 < mv) :
    exec (.vinGood mv aoRan) s = .next ((vinJudged s mv aoRan).powerOn
      (if (vinJudged s mv aoRan).sys.afterBind then 3 else if aoRan then 2 else 1) aoRan) := by
  show execVinGood mv aoRan s = _
  rw [execVinGood, if_neg (Nat.not_le.2 hmv), if_neg (by simp [hoff])]
  rfl

/-- Beside the time and the 48 V bit nothing has changed that a start goes by. -/
theorem vinJudged_judges (mv : Nat) (aoRan : Bool) : (vinJudged s mv aoRan).now = s.now + psMs ∧
    (vinJudged s mv aoRan).on BANK_PF_CTL.bus48 = decide (24000 < mv) ∧ (vinJudged s mv aoRan).folio = s.folio ∧
    (vinJudged s mv aoRan).otp = s.otp ∧ (vinJudged s mv aoRan).sys.variant = s.sys.variant ∧
    (vinJudged s mv aoRan).sys.afterBind = s.sys.afterBind := by
  unfold vinJudged State.judgeBus
  generalize psMs = n
  exact ⟨rfl, on_wrb_self rfl _, rfl, rfl, rfl, rfl⟩

theorem vinGood_powersOn {mv : Nat} {aoRan : Bool} (hoff : s.sys.phase = .off) (hmv : 8800 < mv) :
    ∃ t, exec (.vinGood mv aoRan) s = .next t ∧ t.sys.phase = .starting ∧ t.now = s.now + 1000000000 ∧
      t.sys.startAt = t.now ∧ t.rd SYS_START_STAT.stage = 1 ∧
      t.rd SYS_RST_CAUSE.cause = (if s.sys.afterBind then 3 else if aoRan then 2 else 1) ∧
      t.rd BANK_PF_CTL.bus48 = (decide (24000 < mv)).toNat ∧ t.rd SYS_START_STAT.mem_active = 0 ∧ t.lines = [] ∧
      t.crypto.keys = [] ∧ t.folio.image = s.folio.image ∧ t.folio.slots = s.folio.slots ∧ t.otp = s.otp ∧
      t.sys.variant = s.sys.variant := by
  have hexec := vinGood_starts (aoRan := aoRan) hoff hmv
  obtain ⟨hnow, hbus, hfolio, hotp, hvariant, hafter⟩ := vinJudged_judges (s := s) mv aoRan
  rw [hafter] at hexec
  generalize hcause : (if s.sys.afterBind then 3 else if aoRan then 2 else 1) = cause at *
  have hlt : cause % 8 = cause := by
    rw [← hcause]
    split
    · rfl
    · split <;> rfl
  generalize vinJudged s mv aoRan = a at *
  have hp := poweredOn_powerOn (s := a) cause aoRan
  generalize a.powerOn cause aoRan = t at *
  have hnow' : t.now = s.now + 1000000000 := by rw [hp.now, hnow, psMs]
  refine ⟨t, hexec, hp.phase, hnow', hp.startAt.trans hp.now.symm, hp.stage, hp.cause.trans hlt, ?_, hp.memActive, hp.lines,
    hp.keys, ?_, ?_, hp.otp.trans hotp, hp.variant.trans hvariant⟩
  · rw [hp.bus48, hbus]
  · rw [hp.folio, hfolio]
    rfl
  · rw [hp.folio, hfolio]
    rfl

/-! ## A stage ends (R444) -/

/-- The stage in progress has taken its time. -/
def stageTimed (s : State) (at_ n us : Nat) : State := (s.advanceTo at_).wr (SYS_STAGE_US.us.ix n) us

theorem stageTimed_keeps (at_ n us : Nat) : (stageTimed s at_ n us).now = max s.now at_ ∧
    SameRegs s (stageTimed s at_ n us) [SYS_STAGE_US.us.ix n] ∧ stageTimed s at_ n us =
      { s with flds := (stageTimed s at_ n us).flds, now := (stageTimed s at_ n us).now,
               clk := (stageTimed s at_ n us).clk } :=
  ⟨now_advanceTo at_, ((Writes.refl (s.advanceTo at_)).wr (List.mem_singleton.2 rfl)).regs, rfl⟩

/-- How the stage in progress ends. -/
def stageEnd (s : State) (found : StageFinding) (n us : Nat) : State :=
  (stageTimed s (s.sys.stageAt + us * psUs) n us).runStage n found |>.nextStage n

theorem startStageEnd_ends {n us : Nat} {found : StageFinding} (hphase : s.sys.phase = .starting)
    (hn : s.rd SYS_START_STAT.stage = n) (hthree : n ≠ 3) (hus : us ≤ s.stageMax n) :
    exec (.startStageEnd found us) s = .next (stageEnd s found n us) := by
  have htime : stageUs n us found.refOk = us := if_neg fun h => hthree h.1
  show execStartStageEnd found us s = _
  unfold execStartStageEnd stageEnd stageTimed
  rw [if_neg (by simp [hphase])]
  simp only [hn, htime, if_neg (Nat.not_lt.2 hus)]

/-! ## Stage 1: the rails (R414, R444) -/

/-- What the oscillators' calibration in stage 1 leaves. -/
structure RailsUp (s t : State) : Prop where
  ho : t.rd CLK_SRC_STAT.ho_ok = 1
  ao : t.rd CLK_SRC_STAT.ao_ok = 1
  now : t.now = s.now
  regs : SameRegs s t hoFields
  pcs : ∀ p, t.pc p = { s.pc p with lfsr := (t.pc p).lfsr, lfsrAt := (t.pc p).lfsrAt }
  frame : t = { s with flds := t.flds, pcs := t.pcs, clk := t.clk, free := t.free }

theorem railsUp_stageRails : RailsUp s s.stageRails := by
  have hcount : (351563 + Config.trained s.free 71 0 % 78125) * 128 / 125 < 524288 := by omega
  unfold State.stageRails
  generalize 351563 + Config.trained s.free 71 0 % 78125 = count at *
  rw [hoCalibrated_eq]
  have hrun := lfsrsRun_all (s := s.drawn)
  generalize s.drawn.forAll (List.range 16) State.runLfsrs = w at *
  have hkeep : ∀ n, (periodSet w n).now = w.now ∧ (∀ f, (periodSet w n).rd f = w.rd f) ∧
      (∀ p, (periodSet w n).pc p = w.pc p) ∧
      periodSet w n = { s with pcs := (periodSet w n).pcs, clk := (periodSet w n).clk, free := (periodSet w n).free } :=
    fun n => ⟨rfl, fun _ => rfl, fun _ => rfl, by rw [hrun.frame]; rfl⟩
  obtain ⟨hnow, hrd, hpc, hframe⟩ := hkeep (64000000000 / count)
  obtain ⟨hsets, -, hho, hao⟩ := oscillatorsGood_shows (s := periodSet w (64000000000 / count)) hcount
  generalize periodSet w (64000000000 / count) = v at *
  generalize oscillatorsGood v (count * 128 / 125) = t at *
  refine ⟨hho, hao, ?_, fun f hf => ?_, fun p => ?_, ?_⟩
  · rw [hsets.now, hnow, hrun.frame]
    rfl
  · rw [hsets.regs f hf, hrd, hrun.frame]
    rfl
  · have hp : t.pc p = w.pc p := by
      rw [State.pc, hsets.frame]
      exact hpc p
    rw [hp]
    exact hrun.pcs p
  · rw [hsets.frame, hframe]

/-- The stage after an early one begins. -/
theorem nextStage_one (hphase : s.sys.phase = .starting) : s.nextStage 1 =
    ({ s with sys := { s.sys with stageAt := s.now, overran := false } } : State).wr SYS_START_STAT.stage 2 := by
  unfold State.nextStage
  extract_lets u
  exact (if_pos ⟨hphase, by decide⟩).trans (if_neg (by decide))

theorem nextStage_eight (hphase : s.sys.phase ≠ .starting) : s.nextStage 8 =
    { s with sys := { s.sys with stageAt := s.now, overran := false } } := by
  unfold State.nextStage
  extract_lets u
  exact if_neg fun h => hphase h.1

/-- The fields of the end of stage 1. -/
def stageOneFields : List Fld :=
  [SYS_START_STAT.stage, SYS_STAGE_US.us.ix 1, CLK_HO_KHZ.khz, CLK_SRC_STAT.ho_ok, CLK_SRC_STAT.ao_ok]

theorem sysWr_sets (y : SysState) (f : Fld) (v : Nat) : let t := ({ s with sys := y } : State).wr f v
    t.now = s.now ∧ t.sys = y ∧ (∀ g, t.rd g = (s.wr f v).rd g) ∧ (∀ p, t.pc p = s.pc p) ∧
      t = { s with flds := t.flds, sys := t.sys } := ⟨rfl, rfl, fun _ => rfl, fun _ => rfl, rfl⟩

theorem startStageEnd_rails {us : Nat} {found : StageFinding} (hphase : s.sys.phase = .starting)
    (hstage : s.rd SYS_START_STAT.stage = 1) (hus : us ≤ 3000) :
    ∃ t, exec (.startStageEnd found us) s = .next t ∧ t.rd SYS_START_STAT.stage = 2 ∧ t.rd CLK_SRC_STAT.ho_ok = 1 ∧
      t.rd CLK_SRC_STAT.ao_ok = 1 ∧ t.rd (SYS_STAGE_US.us.ix 1) = us ∧
      t.now = max s.now (s.sys.stageAt + us * 1000000) ∧ t.sys.stageAt = t.now ∧ SameRegs s t stageOneFields ∧
      (∀ p, t.pc p = { s.pc p with lfsr := (t.pc p).lfsr, lfsrAt := (t.pc p).lfsrAt }) ∧
      t = { s with flds := t.flds, sys := t.sys, pcs := t.pcs, now := t.now, clk := t.clk, free := t.free } := by
  have hexec := startStageEnd_ends (found := found) hphase hstage (by decide) hus
  rw [stageEnd] at hexec
  generalize hat : s.sys.stageAt + us * psUs = at_ at *
  have htook : (stageTimed s at_ 1 us).rd (SYS_STAGE_US.us.ix 1) = us :=
    rd_wr_lt (show us < 2 ^ 32 from Nat.lt_of_le_of_lt hus (by decide))
  obtain ⟨hnow, hregs, hframe⟩ := stageTimed_keeps (s := s) at_ 1 us
  generalize stageTimed s at_ 1 us = a at *
  obtain ⟨hho, hao, hnow', hregs', hpcs, hframe'⟩ := railsUp_stageRails (s := a)
  have hrun : a.runStage 1 found = a.stageRails := rfl
  rw [hrun] at hexec
  generalize a.stageRails = b at *
  have hstarting : b.sys.phase = .starting := by
    rw [hframe', hframe]
    exact hphase
  rw [nextStage_one hstarting] at hexec
  have hpc : ∀ p, a.pc p = s.pc p := fun p => by rw [hframe]; rfl
  obtain ⟨htnow, htsys, htrd, htpc, htframe⟩ :=
    sysWr_sets (s := b) { b.sys with stageAt := b.now, overran := false } SYS_START_STAT.stage 2
  generalize ({ b with sys := { b.sys with stageAt := b.now, overran := false } } : State).wr SYS_START_STAT.stage 2 = t at *
  have hother : ∀ {g : Fld}, apart g SYS_START_STAT.stage = true → t.rd g = b.rd g := fun hg =>
    (htrd _).trans (rd_wr_apart hg 2)
  refine ⟨t, hexec, ?_, (hother (g := CLK_SRC_STAT.ho_ok) (by rfl)).trans hho,
    (hother (g := CLK_SRC_STAT.ao_ok) (by rfl)).trans hao, ?_, ?_, ?_, fun f hf => ?_, fun p => ?_, ?_⟩
  · rw [htrd, rd_wr_lt (by decide)]
  · exact (hother (g := SYS_STAGE_US.us.ix 1) (by rfl)).trans ((hregs' _ (by decide)).trans htook)
  · rw [htnow, hnow', hnow, ← hat, psUs_eq]
  · rw [htsys, htnow]
  · have hout : ∀ {l : List Fld}, l ⊆ stageOneFields → f.key ∉ l.map Fld.key := fun hl h => hf (List.map_subset _ hl h)
    have hstage : f.key ≠ SYS_START_STAT.stage.key := fun h => hout (l := [SYS_START_STAT.stage]) (by decide) 
      (List.mem_map.2 ⟨_, .head _, h.symm⟩)
    exact (htrd f).trans ((State.rd_wr_ne b hstage 2).trans
      ((hregs' f (hout (by decide))).trans (hregs f (hout (by decide)))))
  · rw [htpc, ← hpc]
    exact hpcs p
  · rw [htframe, hframe', hframe]

/-! ## Stage 8: activation (R445, R446) -/

/-- What an activation goes by. -/
def waking : List Fld := [SYS_START_STAT.mem_active, SYS_START_STAT.stage, SYS_LC.state, SYS_LC.restrictive]

/-- The lines stand, and so does what an activation goes by. -/
structure Wakes (s t : State) : Prop where
  lines : t.lines = s.lines
  phase : t.sys.phase = s.sys.phase
  essential : t.sys.essential = s.sys.essential
  variant : t.sys.variant = s.sys.variant
  regs : ∀ f ∈ waking, t.rd f = s.rd f

theorem Wakes.refl (s : State) : Wakes s s := ⟨rfl, rfl, rfl, rfl, fun _ _ => rfl⟩

theorem Wakes.trans (h : Wakes s t) (k : Wakes t u) : Wakes s u :=
  ⟨k.lines.trans h.lines, k.phase.trans h.phase, k.essential.trans h.essential, k.variant.trans h.variant,
    fun f hf => (k.regs f hf).trans (h.regs f hf)⟩

theorem Wakes.ite {c : Prop} [Decidable c] {a b : State} (ha : Wakes s a) (hb : Wakes s b) :
    Wakes s (if c then a else b) := by
  split
  · exact ha
  · exact hb

theorem Wakes.forAll {α : Type} {f : State → α → State} {l : List α} (h : Wakes s t)
    (hf : ∀ u a, Wakes s u → Wakes s (f u a)) : Wakes s (t.forAll l f) := forAll_keeps (P := Wakes s) hf l h

/-- Whatever changes beside the lines, the life of the device and the registers. -/
theorem Wakes.upd (h : Wakes s t) {pcs now free out pages crypto kerf repair folio bank gauge ports lds lanes clk domains cals
    pin sb sys} (hp : sys.phase = t.sys.phase := by rfl) (he : sys.essential = t.sys.essential := by rfl)
    (hv : sys.variant = t.sys.variant := by rfl) :
    Wakes s { t with pcs, now, free, out, pages, crypto, kerf, repair, folio, bank, gauge, ports, lds, lanes, clk, domains,
                     cals, pin, sb, sys } :=
  ⟨h.lines, hp.trans h.phase, he.trans h.essential, hv.trans h.variant, h.regs⟩

/-- A field stands apart from those. -/
def sleepy (f : Fld) : Bool := clear waking f

theorem Wakes.wr {f : Fld} {v : Nat} (h : Wakes s t) (hf : sleepy f = true := by rfl) : Wakes s (t.wr f v) :=
  ⟨h.lines, h.phase, h.essential, h.variant, fun g hg =>
    (State.rd_wr_ne t (key_ne_of_apart (List.all_eq_true.1 hf g hg)).symm v).trans (h.regs g hg)⟩

theorem Wakes.logged {l : List Fld} (h : Wakes s t) (hw : Writes l t u) (hl : Logged t u)
    (hc : waking.all (clear l) = true := by rfl) : Wakes s u :=
  h.trans ⟨lines_of_logged hl, congrArg SysState.phase (sys_of_logged hl), congrArg SysState.essential (sys_of_logged hl),
    congrArg SysState.variant (sys_of_logged hl), fun f hf => hw.rd (List.all_eq_true.1 hc f hf)⟩

section
variable {f : Fld} {n m v : Nat}

theorem Wakes.put (h : Wakes s t) (hf : sleepy f = true := by rfl) : Wakes s (t.put f) := h.wr hf
theorem Wakes.clr (h : Wakes s t) (hf : sleepy f = true := by rfl) : Wakes s (t.clr f) := h.wr hf
theorem Wakes.wrb {b : Bool} (h : Wakes s t) (hf : sleepy f = true := by rfl) : Wakes s (t.wrb f b) := h.wr hf
theorem Wakes.bump (h : Wakes s t) (hf : sleepy f = true := by rfl) : Wakes s (t.bump f) := h.wr hf

theorem Wakes.cause {page bit : Nat} (h : Wakes s t) : Wakes s (t.cause page bit) :=
  h.logged ((Writes.refl t).cause (List.Subset.refl _)) (logged_cause page bit)

theorem Wakes.err {page code addr : Nat} (h : Wakes s t) (hc : waking.all (clear (errFields page)) = true := by rfl) :
    Wakes s (t.err page code addr) := h.logged ((Writes.refl t).err (List.Subset.refl _)) (logged_err page code addr) hc

theorem Wakes.advance (h : Wakes s t) : Wakes s (t.advance n) := h.upd
theorem Wakes.advanceTo (h : Wakes s t) : Wakes s (t.advanceTo n) := h.advance
theorem Wakes.drawn (h : Wakes s t) : Wakes s t.drawn := h.upd
theorem Wakes.setPc {p : Nat} {c : Pc} (h : Wakes s t) : Wakes s (t.setPc p c) := h.upd
theorem Wakes.setEng {k : Nat} {e : KerfEng} (h : Wakes s t) : Wakes s (t.setEng k e) := h.upd
theorem Wakes.setKey {k : Nat} {e : KeySlot} (h : Wakes s t) : Wakes s (t.setKey k e) := h.upd
theorem Wakes.setCal {k : Nat} {e : CalState} (h : Wakes s t) : Wakes s (t.setCal k e) := h.upd
theorem Wakes.setPort {k : Nat} {e : PortState} (h : Wakes s t) : Wakes s (t.setPort k e) := h.upd
theorem Wakes.setLane {k : Nat} {e : LaneState} (h : Wakes s t) : Wakes s (t.setLane k e) := h.upd

theorem sleepy_ite {c : Prop} [Decidable c] {f g : Fld} (hf : sleepy f = true) (hg : sleepy g = true) :
    sleepy (if c then f else g) = true := by
  split
  · exact hf
  · exact hg

theorem Wakes.setCalMode (h : Wakes s t) : Wakes s (t.setCalMode n m) := h.wr (sleepy_ite (by rfl) (by rfl))
theorem Wakes.stopRun (h : Wakes s t) : Wakes s (t.stopRun n) := h.setCal.setCalMode

theorem Wakes.beginRun {c : Bool} (h : Wakes s t) : Wakes s (t.beginRun n c) :=
  .ite h ((h.wr (sleepy_ite (by rfl) (by rfl))).setCalMode).setCal

theorem Wakes.fixCal (h : Wakes s t) : Wakes s (t.fixCal n) :=
  .ite (.ite h h.stopRun.setCalMode) (.ite (.ite h.setCalMode.beginRun h.setCalMode) h)

/-- A loop that clears fields of one place. -/
theorem Wakes.clrAll {l : List Fld} {place : Fld → Fld} (h : Wakes s t)
    (hl : l.all (fun f => sleepy (place f)) = true := by rfl) : Wakes s (t.forAll l fun u f => u.clr (place f)) := by
  induction l generalizing t with
  | nil => exact h
  | cons f l ih =>
    simp only [List.all_cons, Bool.and_eq_true] at hl
    exact ih (h.clr hl.1) hl.2

theorem Wakes.clearLane (h : Wakes s t) : Wakes s (t.clearLane n m) := h.clrAll.setLane.wrb

theorem Wakes.doveTrain (h : Wakes s t) : Wakes s t.doveTrain := .ite h.wr.wr h

theorem Wakes.train (h : Wakes s t) : Wakes s (t.train n) :=
  .ite (.setPort (.forAll (.ite h.doveTrain (.ite h.wr h)) fun _ _ k => k.clearLane)) (.ite h.doveTrain (.ite h.wr h))

theorem Wakes.trainAll (h : Wakes s t) : Wakes s t.trainAll := h.forAll fun _ _ k => k.train

theorem Wakes.startMigrate (h : Wakes s t) : Wakes s (t.startMigrate n m) := h.wr.wr.wr.setEng

theorem Wakes.resumeRetire (h : Wakes s t) : Wakes s t.resumeRetire :=
  h.forAll fun _ _ k => .ite (.ite k (Wakes.bump k.upd)) k.startMigrate

theorem Wakes.startAlloc (h : Wakes s t) : Wakes s t.startAlloc := h.forAll fun _ _ k => k.wr

theorem Wakes.startPc (h : Wakes s t) : Wakes s (t.startPc n m) := h.setPc

theorem Wakes.fixGauge (h : Wakes s t) : Wakes s t.fixGauge := by
  have hg : Gauged t t.fixGauge := gauged_fixGauge
  refine h.trans ⟨?_, ?_, ?_, ?_, fun f hf => writes_fixGauge.rd (List.all_eq_true.1 (by rfl) f hf)⟩
  all_goals rw [hg.frame]

end

/-- What every start path goes by stands. -/
theorem Wakes.startPath (h : Wakes s t) : t.startPath = s.startPath := by
  have hlife : t.lifeCycle = s.lifeCycle := h.regs SYS_LC.state (by decide)
  have hrestrict : t.on SYS_LC.restrictive = s.on SYS_LC.restrictive := on_of_rd (h.regs _ (by decide))
  rw [State.startPath, State.startPath, hlife, h.essential, hrestrict, State.persistFused, State.persistFused, h.variant]

/-- The device as a start ends and serves. -/
def servesFirst (s : State) : State := { s with sys := { s.sys with phase := .active } }

/-- The management core serves. -/
def coreServes (s : State) : State := if s.sys.mgmtDown.isNone then s.put SB_STAT.core_ready else s

/-- A Bind-owed flag is reported (R521). -/
def owedTold (s : State) : State := if s.sys.bindOwed then (s.put ERRPIN_SAFE_STAT.owed).err 0x07 0x1204 0 else s

/-- A dirty shutdown is counted (R346). -/
def dirtyCounted (s : State) (owed : Bool) : State :=
  if owed ∨ s.sys.imageLost then { s with folio := { s.folio with dirtyShutdowns := s.folio.dirtyShutdowns + 1 } } else s

/-- A shutdown that was cut off is reported (R541). -/
def cutTold (s : State) : State :=
  let s := { s with sys := { s.sys with bindOwed := false } }
  if s.sys.shutdownCut then
    ({ s with sys := { s.sys with shutdownCut := false } } : State).err 0x00 0x1006 0
  else s

theorem startEnds_eq : s.startEnds = cutTold (dirtyCounted (owedTold (coreServes (servesFirst s).fixGauge))
    (coreServes (servesFirst s).fixGauge).sys.bindOwed) := rfl


theorem Wakes.coreServes (h : Wakes s t) : Wakes s (coreServes t) := .ite h.put h

theorem Wakes.owedTold (h : Wakes s t) : Wakes s (owedTold t) := .ite h.put.err h

theorem Wakes.dirtyCounted {owed : Bool} (h : Wakes s t) : Wakes s (dirtyCounted t owed) := .ite h.upd h

theorem Wakes.cutTold (h : Wakes s t) : Wakes s (cutTold t) := by
  have h' : Wakes s { t with sys := { t.sys with bindOwed := false } } := h.upd
  exact .ite (Wakes.err h'.upd) h'

theorem wakes_startEnds : Wakes (servesFirst s) s.startEnds :=
  startEnds_eq ▸ (Wakes.refl _).fixGauge.coreServes.owedTold.dirtyCounted.cutTold

/-- Slot 0 starts loaded plaintext where it may (R457, R555). -/
def plainKeyed (s : State) : State :=
  if s.plainStart then s.setKey 0 { KeySlot.empty with loaded := true, plaintext := true } else s

/-- The PCs in use start, and what had not ended is resumed (R66, R112, R320). -/
def pcsStarted (s : State) : State :=
  let n := s.free
  let s := s.drawn.forAll s.pcsInUse fun s p => s.startPc n p
  let s := (s.startAlloc).resumeRetire
  { s with gauge := { s.gauge with windowAt := s.now } }

/-- Persistence follows the bank on the path that stage 7 finds (R446). -/
def persistJudged (s : State) : State := if s.startPath = 3 then (s.fixEnergy).fixPersist else s

/-- The security version and the path are noted (R446). -/
def pathNoted (s : State) : State :=
  let sv := max s.sb.minSec (s.fwSlot s.fwActive).secver
  let s := ({ s with sb := { s.sb with minSec := sv } } : State).wr SB_FW_STAT.min_secver sv
  s.wr SYS_START_STAT.path (if s.on FOLIO_STAT.image_valid then 2 else 1)

/-- Memory is active, and the start has taken its time. -/
def memoryLit (s : State) : State :=
  ((s.put SYS_START_STAT.mem_active).wr SYS_START_STAT.stage 9).wr SYS_START_US.us
    (min ((s.now - s.sys.startAt) / psUs) (2 ^ 32 - 1))

/-- The ports, the calibration and the training follow. -/
def portsLit (s : State) : State :=
  let s := s.forAll (List.range 4) fun s p =>
    if s.rd (PORT_LINK_STAT.mode.port p) = 0 then s else s.put (PORT_LINK_STAT.mem_active.port p)
  ((s.cause 0x00 1).forAll (List.range 69) State.fixCal).trainAll

theorem activate_eq : s.activate = portsLit (memoryLit (pathNoted (persistJudged (pcsStarted (plainKeyed s))))) := by
  unfold State.activate
  extract_lets _ t₁ n t₂ t₃ _ t₄ t₅ sv _ t₆ t₇ t₈ t₉
  have h₁ : t₁ = plainKeyed s := rfl
  have h₂ : t₄ = pcsStarted t₁ := rfl
  have h₃ : t₅ = persistJudged t₄ := rfl
  have h₄ : t₇ = pathNoted t₅ := rfl
  have h₅ : t₈ = memoryLit t₇ := rfl
  rw [← h₁, ← h₂, ← h₃, ← h₄, ← h₅]
  rfl

theorem Wakes.plainKeyed (h : Wakes s t) : Wakes s (plainKeyed t) := .ite h.setKey h

theorem Wakes.pcsStarted (h : Wakes s t) : Wakes s (pcsStarted t) := by
  have hpcs : ∀ n l, Wakes s (t.drawn.forAll l fun s p => s.startPc n p) := fun _ _ => h.drawn.forAll fun _ _ k => k.startPc
  exact Wakes.upd (hpcs _ _).startAlloc.resumeRetire

theorem Wakes.persistJudged (h : Wakes s t) (hpath : s.startPath ≠ 3) : Wakes s (persistJudged t) := by
  have hkeep : Proofs.persistJudged t = t := if_neg (by rw [h.startPath]; exact hpath)
  rw [hkeep]
  exact h

theorem Wakes.pathNoted (h : Wakes s t) : Wakes s (pathNoted t) := Wakes.wr (Wakes.wr h.upd)

theorem Wakes.portsLit (h : Wakes s t) : Wakes s (portsLit t) := by
  have hports : Wakes s (t.forAll (List.range 4) fun s p =>
      if s.rd (PORT_LINK_STAT.mode.port p) = 0 then s else s.put (PORT_LINK_STAT.mem_active.port p)) :=
    h.forAll fun _ _ k => .ite k k.put
  exact (Wakes.forAll hports.cause fun _ _ k => k.fixCal).trainAll

theorem memoryLit_lights : (memoryLit s).lines = s.lines ∧ (memoryLit s).sys = s.sys ∧
    (memoryLit s).rd SYS_START_STAT.mem_active = 1 ∧ (memoryLit s).rd SYS_START_STAT.stage = 9 := by
  unfold memoryLit
  generalize min ((s.now - s.sys.startAt) / psUs) (2 ^ 32 - 1) = v
  rw [State.put_eq, State.wr_lines, State.wr_lines, State.wr_lines, State.wr_sys, State.wr_sys, State.wr_sys]
  refine ⟨rfl, rfl, ?_, ?_⟩
  · rw [rd_wr_apart (by rfl), rd_wr_apart (by rfl), rd_wr_lt (by decide)]
  · rw [rd_wr_apart (by rfl), rd_wr_lt (by decide)]

/-- Memory is active. -/
theorem activate_activates (hpath : s.startPath ≠ 3) : s.activate.lines = s.lines ∧ s.activate.sys.phase = s.sys.phase ∧
    s.activate.rd SYS_START_STAT.mem_active = 1 ∧ s.activate.rd SYS_START_STAT.stage = 9 := by
  have hw := ((Wakes.refl s).plainKeyed.pcsStarted.persistJudged hpath).pathNoted
  rw [activate_eq]
  generalize pathNoted (persistJudged (pcsStarted (plainKeyed s))) = a at *
  obtain ⟨hlines, hsys, hmem, hstage⟩ := memoryLit_lights (s := a)
  have h := (Wakes.refl (memoryLit a)).portsLit
  generalize memoryLit a = b at *
  exact ⟨h.lines.trans (hlines.trans hw.lines), h.phase.trans ((congrArg SysState.phase hsys).trans hw.phase),
    (h.regs _ (by decide)).trans hmem, (h.regs _ (by decide)).trans hstage⟩

theorem stageActivate_activates (hpath : s.startPath = 1) : s.stageActivate.lines = s.lines ∧
    s.stageActivate.sys.phase = .active ∧ s.stageActivate.rd SYS_START_STAT.mem_active = 1 ∧
    s.stageActivate.rd SYS_START_STAT.stage = 9 := by
  have hw := wakes_startEnds (s := s)
  have hpath' : s.startEnds.startPath = 1 := hw.startPath.trans hpath
  have heq : s.stageActivate = s.startEnds.activate := by
    rw [State.stageActivate]
    simp only [hpath']
  obtain ⟨hlines, hphase, hmem, hstage⟩ := activate_activates (s := s.startEnds) (by rw [hpath']; decide)
  rw [heq]
  exact ⟨hlines.trans hw.lines, hphase.trans hw.phase, hmem, hstage⟩

/-- The stage's clock starts again. -/
def stageRestarted (s : State) : State := { s with sys := { s.sys with stageAt := s.now, overran := false } }

theorem stageRestarted_keeps : (stageRestarted s).sys.phase = s.sys.phase ∧ (stageRestarted s).lines = s.lines ∧
    ∀ f, (stageRestarted s).rd f = s.rd f := ⟨rfl, rfl, fun _ => rfl⟩

theorem stageEnd_eight {us : Nat} {found : StageFinding} (hpath : s.startPath = 1) :
    (stageEnd s found 8 us).sys.phase = .active ∧ (stageEnd s found 8 us).rd SYS_START_STAT.mem_active = 1 ∧
      (stageEnd s found 8 us).rd SYS_START_STAT.stage = 9 ∧ (stageEnd s found 8 us).lines = s.lines := by
  unfold stageEnd
  generalize s.sys.stageAt + us * psUs = at_
  have hw : Wakes s (stageTimed s at_ 8 us) := Wakes.wr (Wakes.refl s).advanceTo
  generalize stageTimed s at_ 8 us = a at *
  have hrun : a.runStage 8 found = a.stageActivate := by simp only [State.runStage]
  rw [hrun]
  obtain ⟨hlines, hactive, hmem, hstage⟩ := stageActivate_activates (hw.startPath.trans hpath)
  generalize a.stageActivate = b at *
  have hnext : b.nextStage 8 = stageRestarted b := nextStage_eight (by rw [hactive]; decide)
  rw [hnext]
  obtain ⟨hphase, hlines', hrd⟩ := stageRestarted_keeps (s := b)
  exact ⟨hphase.trans hactive, (hrd _).trans hmem, (hrd _).trans hstage, hlines'.trans (hlines.trans hw.lines)⟩

theorem startStageEnd_activates {us : Nat} {found : StageFinding} (hphase : s.sys.phase = .starting)
    (hstage : s.rd SYS_START_STAT.stage = 8) (hus : us ≤ 2000) (hpath : s.startPath = 1) :
    ∃ t, exec (.startStageEnd found us) s = .next t ∧ t.sys.phase = .active ∧ t.rd SYS_START_STAT.mem_active = 1 ∧
      t.rd SYS_START_STAT.stage = 9 ∧ t.lines = s.lines :=
  ⟨_, startStageEnd_ends hphase hstage (by decide) hus, stageEnd_eight hpath⟩

/-! ## A stage overruns (R444) -/

/-- The stage is late. -/
def stageLate (s : State) : State := { s with sys := { s.sys with overran := true } }

theorem overrun_reports (h : s.sys.overran = false) :
    s.overrun = (stageLate s).err 0x00 0x1002 (s.rd SYS_START_STAT.stage) := if_neg (by simp [h])

theorem stageOverrun_reports (hphase : s.sys.phase = .starting) {n : Nat}
    (hn : s.sys.stageAt + s.stageMax (s.rd SYS_START_STAT.stage) * psUs = n) :
    exec .stageOverrun s = .next (s.advanceTo n).overrun := by
  show execStageOverrun s = _
  rw [execStageOverrun, if_neg (by simp [hphase]), hn]

theorem stageLate_keeps : (stageLate s).now = s.now ∧ (stageLate s).sys.overran = true ∧
    (∀ f, (stageLate s).rd f = s.rd f) ∧ (stageLate s).lines = s.lines ∧ (stageLate s).crypto = s.crypto ∧
    (stageLate s).folio = s.folio := ⟨rfl, rfl, fun _ => rfl, rfl, rfl, rfl⟩

theorem uc_late (addr : Nat) : (s.err 0x00 0x1002 addr).rd (ERR_STAT.uc.on 0x00) = 1 :=
  (rd_err_contained (by rfl)).1

theorem stageOverrun_overruns (hphase : s.sys.phase = .starting) (hfirst : s.sys.overran = false) :
    ∃ t, exec .stageOverrun s = .next t ∧ t.sys.overran = true ∧ t.rd (ERR_STAT.uc.on 0x00) = 1 ∧
      t.now = max s.now (s.sys.stageAt + s.stageMax (s.rd SYS_START_STAT.stage) * 1000000) ∧
      t.rd SYS_START_STAT.stage = s.rd SYS_START_STAT.stage ∧ t.lines = s.lines ∧ t.crypto = s.crypto ∧
      t.folio = s.folio := by
  obtain ⟨n, hn⟩ : ∃ n, s.sys.stageAt + s.stageMax (s.rd SYS_START_STAT.stage) * psUs = n := ⟨_, rfl⟩
  have hexec := stageOverrun_reports hphase hn
  have hnow := now_advanceTo (s := s) n
  have hkeep : (s.advanceTo n).sys = s.sys ∧ (∀ f, (s.advanceTo n).rd f = s.rd f) ∧ (s.advanceTo n).lines = s.lines ∧
      (s.advanceTo n).crypto = s.crypto ∧ (s.advanceTo n).folio = s.folio := ⟨rfl, fun _ => rfl, rfl, rfl, rfl⟩
  obtain ⟨hsys, hrd, hlines, hcrypto, hfolio⟩ := hkeep
  generalize s.advanceTo n = a at *
  rw [overrun_reports (by rw [hsys, hfirst])] at hexec
  obtain ⟨hlnow, hlate, hlrd, hllines, hlcrypto, hlfolio⟩ := stageLate_keeps (s := a)
  generalize stageLate a = b at *
  have hl : Logged b (b.err 0x00 0x1002 (a.rd SYS_START_STAT.stage)) := logged_err _ _ _
  refine ⟨_, hexec, ?_, ?_, ?_, (rd_err (by rfl) _ _).trans ((hlrd _).trans (hrd _)),
    (lines_of_logged hl).trans (hllines.trans hlines), (crypto_of_logged hl).trans (hlcrypto.trans hcrypto),
    (folio_of_logged hl).trans (hlfolio.trans hfolio)⟩
  · rw [sys_of_logged hl, hlate]
  · exact uc_late _
  · rw [now_of_logged hl, hlnow, hnow, ← hn, psUs_eq]

/-! ## VAUX (R443) -/

/-- VAUX has been noted as good. -/
def vauxNoted (s : State) : State :=
  ({ s with sys := { s.sys with vauxGood := true } } : State).put SYS_SUPPLY.vaux_good

theorem vauxNoted_notes : (vauxNoted s).sys.vauxGood = true ∧ (vauxNoted s).rd SYS_SUPPLY.vaux_good = 1 ∧
    (vauxNoted s).rd SB_STAT.mode = s.rd SB_STAT.mode ∧ (vauxNoted s).lines = s.lines ∧
    (vauxNoted s).crypto = s.crypto ∧ (vauxNoted s).folio = s.folio ∧ (vauxNoted s).bank = s.bank := by
  unfold vauxNoted
  rw [State.put_eq]
  obtain ⟨-, hsys, hrd, -, hframe⟩ := sysWr_sets (s := s) { s.sys with vauxGood := true } SYS_SUPPLY.vaux_good 1
  generalize ({ s with sys := { s.sys with vauxGood := true } } : State).wr SYS_SUPPLY.vaux_good 1 = t at *
  refine ⟨congrArg SysState.vauxGood hsys, ?_, ?_, ?_, ?_, ?_, ?_⟩
  · rw [hrd, rd_wr_lt (by decide)]
  · rw [hrd, rd_wr_apart (by rfl)]
  all_goals rw [hframe]

theorem vauxUp_up (hmode : s.rd SB_STAT.mode = 0) : s.vauxUp = ((vauxNoted s).wr SB_STAT.mode 1).cause 0x08 2 := by
  obtain ⟨-, -, hnoted, -⟩ := vauxNoted_notes (s := s)
  show (if (vauxNoted s).rd SB_STAT.mode = 0 then ((vauxNoted s).wr SB_STAT.mode 1).cause 0x08 2 else vauxNoted s) = _
  rw [if_pos (hnoted.trans hmode)]

/-- VAUX is good: the sideband is up. -/
theorem vauxUp_ups (hmode : s.rd SB_STAT.mode = 0) : s.vauxUp.sys.vauxGood = true ∧
    s.vauxUp.rd SYS_SUPPLY.vaux_good = 1 ∧ s.vauxUp.rd SB_STAT.mode = 1 ∧ s.vauxUp.lines = s.lines ∧
    s.vauxUp.crypto = s.crypto ∧ s.vauxUp.folio = s.folio ∧ s.vauxUp.bank = s.bank := by
  rw [vauxUp_up hmode]
  obtain ⟨hgood, hvaux, -, hlines, hcrypto, hfolio, hbank⟩ := vauxNoted_notes (s := s)
  generalize vauxNoted s = a at *
  have hl : Logged a ((a.wr SB_STAT.mode 1).cause 0x08 2) := (logged_wr _ _).cause _ _
  refine ⟨?_, (rd_cause (by rfl) _).trans ((rd_wr_apart (by rfl) _).trans hvaux),
    (rd_cause (by rfl) _).trans (rd_wr_lt (by decide)), (lines_of_logged hl).trans hlines,
    (crypto_of_logged hl).trans hcrypto, (folio_of_logged hl).trans hfolio, ?_⟩
  · rw [sys_of_logged hl, hgood]
  · rw [hl.frame]
    exact hbank

theorem vauxGood_ups {data : Option EepromData} (hread : s.vauxUp.bank.eepromRead = true) :
    exec (.vauxGood data) s = .next s.vauxUp := by
  show execVauxGood data s = _
  rw [execVauxGood]
  exact if_pos (.inr (.inl hread))

/-- VAUX is lost: its sideband and the bank's bus stand still. -/
def vauxFallen (s : State) : State :=
  { s with
    sys := { s.sys with vauxGood := false }
    bank := { s.bank with recWrite := none, rereadWaits := false }
    sb := { s.sb with uncollected := false, retrying := none, fwOffset := none } }

/-- The registers of the sideband have fallen. -/
def sidebandCleared (s : State) : State :=
  (((s.clr SYS_SUPPLY.vaux_good).clr SB_BANK_STAT.busy).clr SB_STAT.dyn_addr).clr SB_STAT.eid

/-- The sideband has no mode. -/
def modeFallen (s : State) : State := if s.rd SB_STAT.mode = 0 then s else (s.wr SB_STAT.mode 0).cause 0x08 2

theorem vauxLost_falls : exec .vauxLost s = .next (modeFallen (sidebandCleared (vauxFallen s))).fixAlert := rfl

/-- The fields that fall with VAUX. -/
def vauxFields : List Fld := [SYS_SUPPLY.vaux_good, SB_BANK_STAT.busy, SB_STAT.dyn_addr, SB_STAT.eid]

theorem sidebandCleared_clears : Sets vauxFields s (sidebandCleared s) ∧ (sidebandCleared s).rd SYS_SUPPLY.vaux_good = 0 ∧
    (sidebandCleared s).rd SB_STAT.eid = 0 ∧ (sidebandCleared s).rd SB_STAT.dyn_addr = 0 := by
  unfold sidebandCleared
  simp only [State.clr_eq]
  refine ⟨((((Sets.refl s).wr (by decide)).wr (by decide)).wr (by decide)).wr (by decide), ?_, ?_, ?_⟩
  · rw [rd_wr_apart (by rfl), rd_wr_apart (by rfl), rd_wr_apart (by rfl), rd_wr_lt (by decide)]
  · rw [rd_wr_lt (by decide)]
  · rw [rd_wr_apart (by rfl), rd_wr_lt (by decide)]

theorem modeFallen_falls : Logged s (modeFallen s) ∧ (modeFallen s).rd SB_STAT.mode = 0 ∧
    ∀ f, apart f SB_STAT.mode = true → clear (causeFields 0x08) f = true → (modeFallen s).rd f = s.rd f := by
  unfold modeFallen
  split
  · next h => exact ⟨.refl s, h, fun _ _ _ => rfl⟩
  · refine ⟨(logged_wr _ _).cause _ _, (rd_cause (by rfl) _).trans (rd_wr_lt (by decide)), fun f hf hc => ?_⟩
    rw [rd_cause hc, rd_wr_apart hf]

theorem vauxFallen_falls : (vauxFallen s).sys.vauxGood = false ∧ (vauxFallen s).sys.phase = s.sys.phase ∧
    (vauxFallen s).lines = s.lines ∧ (vauxFallen s).crypto = s.crypto ∧ (vauxFallen s).folio = s.folio :=
  ⟨rfl, rfl, rfl, rfl, rfl⟩

theorem vauxLost_clears (s : State) :
    ∃ t, exec .vauxLost s = .next t ∧ t.sys.vauxGood = false ∧ t.rd SYS_SUPPLY.vaux_good = 0 ∧ t.rd SB_STAT.mode = 0 ∧
      t.rd SB_STAT.eid = 0 ∧ t.rd SB_STAT.dyn_addr = 0 ∧ t.lines = s.lines ∧ t.crypto = s.crypto ∧ t.folio = s.folio ∧
      t.sys.phase = s.sys.phase := by
  obtain ⟨hgood, hphase, hlines, hcrypto, hfolio⟩ := vauxFallen_falls (s := s)
  have hexec := vauxLost_falls (s := s)
  generalize vauxFallen s = a at *
  obtain ⟨hsets, hvaux, heid, haddr⟩ := sidebandCleared_clears (s := a)
  generalize sidebandCleared a = b at *
  obtain ⟨hl, hmode, hother⟩ := modeFallen_falls (s := b)
  generalize modeFallen b = c at *
  obtain ⟨halert, -⟩ := fixAlert_keeps (s := c)
  have hrd : ∀ f, c.fixAlert.rd f = c.rd f := fun f => by rw [halert]; rfl
  have hall : c.fixAlert.sys = a.sys ∧ c.fixAlert.lines = a.lines ∧ c.fixAlert.crypto = a.crypto ∧
      c.fixAlert.folio = a.folio := by
    rw [halert, hl.frame, hsets.frame]
    exact ⟨rfl, rfl, rfl, rfl⟩
  obtain ⟨hsys, hlines', hcrypto', hfolio'⟩ := hall
  refine ⟨_, hexec, ?_, ?_, (hrd _).trans hmode, ?_, ?_, hlines'.trans hlines, hcrypto'.trans hcrypto, hfolio'.trans hfolio,
    ?_⟩
  · rw [hsys, hgood]
  · rw [hrd, hother _ (by rfl) (by rfl), hvaux]
  · rw [hrd, hother _ (by rfl) (by rfl), heid]
  · rw [hrd, hother _ (by rfl) (by rfl), haddr]
  · rw [hsys, hphase]

/-- VAUX was not good in time, and no EEPROM has been read. -/
def eepromMissed (s : State) (n : Nat) : State :=
  { s.advanceTo n with bank := { (s.advanceTo n).bank with eepromRead := true } }

theorem vauxTimeout_expires {n : Nat} (hn : s.sys.startAt + 100 * psMs = n) (hphase : s.sys.phase ≠ .off)
    (hvaux : s.sys.vauxGood = false) (hread : s.bank.eepromRead = false) (hpresent : s.present 0x1C = true) :
    exec .vauxTimeout s = .next (eepromMissed s n).unidentified := by
  show execVauxTimeout s = _
  unfold execVauxTimeout eepromMissed
  rw [if_neg (by simp [hphase, hvaux, hread, hpresent])]
  simp only [hn]

theorem eepromMissed_waits (n : Nat) : (eepromMissed s n).now = max s.now n ∧ (eepromMissed s n).bank.eepromRead = true ∧
    (eepromMissed s n).lines = s.lines ∧ (eepromMissed s n).crypto = s.crypto := ⟨now_advanceTo n, rfl, rfl, rfl⟩

/-- No EEPROM is known. -/
def eepromGone (s : State) : State := { s with bank := { s.bank with eeprom := none } }

theorem eepromGone_goes : (eepromGone s).now = s.now ∧ (eepromGone s).bank.eepromRead = s.bank.eepromRead ∧
    (eepromGone s).bank.eeprom = none ∧ (eepromGone s).lines = s.lines ∧ (eepromGone s).crypto = s.crypto :=
  ⟨rfl, rfl, rfl, rfl, rfl⟩

theorem follows_unidentified : Follows eepromFields (eepromGone s) s.unidentified := by
  unfold State.unidentified
  extract_lets _ t₁ t₂
  have h₁ : t₁ = eepromGone s := rfl
  rw [← h₁]
  have h₂ : Follows judgedFields t₁ t₂ := .ite (.refl t₁) ((Follows.refl t₁).wr (.head _))
  exact ((h₂.err err_subset_judged).mono judged_subset_eeprom).trans follows_eeprom

theorem vauxTimeout_unidentified (hphase : s.sys.phase ≠ .off) (hvaux : s.sys.vauxGood = false)
    (hread : s.bank.eepromRead = false) (hpresent : s.present 0x1C = true) :
    ∃ t, exec .vauxTimeout s = .next t ∧ t.bank.eepromRead = true ∧ t.bank.eeprom = none ∧
      t.now = max s.now (s.sys.startAt + 100000000000) ∧ t.lines = s.lines ∧ t.crypto = s.crypto := by
  obtain ⟨n, hn⟩ : ∃ n, s.sys.startAt + 100 * psMs = n := ⟨_, rfl⟩
  have hexec := vauxTimeout_expires hn hphase hvaux hread hpresent
  obtain ⟨hnow, hdone, hlines, hcrypto⟩ := eepromMissed_waits (s := s) n
  generalize eepromMissed s n = a at *
  obtain ⟨hnow', hread', hnone, hlines', hcrypto'⟩ := eepromGone_goes (s := a)
  have hf := follows_unidentified (s := a)
  generalize eepromGone a = b at *
  refine ⟨_, hexec, ?_, ?_, ?_, hf.lines.trans (hlines'.trans hlines), hf.crypto.trans (hcrypto'.trans hcrypto)⟩
  · rw [hf.bank, hread', hdone]
  · rw [hf.bank, hnone]
  · rw [hf.now, hnow', hnow, ← hn, hundred_psMs]

/-- Settles O46: the supplies, the stages and the power-on reset each change what their rule names; a start that ends
without persistence activates memory over the lines as they stand. -/
theorem startRunsItsStages : Obligations.StartRunsItsStages := by
  unfold Obligations.StartRunsItsStages
  refine ⟨fun mv aoRan s hoff hmv => ?_, fun found us s hphase hstage hus => ?_,
    fun found us s hphase hstage hus hpath => ?_, fun s hphase hfirst => ?_, fun data s hread hmode => ?_, fun s => ?_,
    fun s hphase hvaux hread hpresent => ?_⟩
  · exact vinGood_powersOn hoff hmv
  · exact startStageEnd_rails hphase hstage hus
  · exact startStageEnd_activates hphase hstage hus hpath
  · exact stageOverrun_overruns hphase hfirst
  · obtain ⟨hgood, hvaux, hmode', hlines, hcrypto, hfolio, hbank⟩ := vauxUp_ups hmode
    exact ⟨_, vauxGood_ups (by rw [hbank, hread]), hgood, hvaux, hmode', hlines, hcrypto, hfolio, hbank⟩
  · exact vauxLost_clears s
  · exact vauxTimeout_unidentified hphase hvaux hread hpresent

end Sys2Proof.Proofs

/-! # The carve-out and the flush of the tag cache (R38, R205, R209) -/

namespace Sys2Proof.Proofs

open Sys2Proof Sys2Proof.Machine Sys2Proof.Laws

set_option Elab.async false

variable {s t u : State}

/-! ## The carve-out becomes active or inactive (R38, R205) -/

/-- The tag cache holds nothing. -/
def tagsDropped (s : State) : State := { s with crypto := { s.crypto with tags := [] } }

/-- The registers of the carve-out say what it becomes. -/
def carveNoted (s : State) (on_ : Bool) : State :=
  ((s.wrb KERF_STACK_CFG.carve_out on_).wrb CRYPT_CARVE_STAT.active on_).put CRYPT_CARVE_STAT.busy

/-- Where the carve-out ends: before the mirror area. -/
def carveStop (s : State) : Nat := if s.area then s.fullQuires - 32 else s.fullQuires

theorem setCarve_eq (on_ : Bool) : s.setCarve on_ =
    ((carveNoted (tagsDropped s) on_).fixCapacity.cause 0x19 4).startKerf 0
      [((carveNoted (tagsDropped s) on_).carveBase, carveStop s)] (if on_ then 2 else 3) := rfl

theorem tagsDropped_drops : (tagsDropped s).crypto.tags = [] ∧ (tagsDropped s).lines = s.lines ∧
    (tagsDropped s).folio = s.folio ∧ (tagsDropped s).sys = s.sys ∧ ∀ f, (tagsDropped s).rd f = s.rd f :=
  ⟨rfl, rfl, rfl, rfl, fun _ => rfl⟩

/-- The registers that a carve-out command notes. -/
def carveFields : List Fld := [KERF_STACK_CFG.carve_out, CRYPT_CARVE_STAT.active, CRYPT_CARVE_STAT.busy]

theorem carveNoted_notes (on_ : Bool) : Sets carveFields s (carveNoted s on_) ∧ (carveNoted s on_).carve = on_ ∧
    (carveNoted s on_).rd CRYPT_CARVE_STAT.active = on_.toNat ∧ (carveNoted s on_).rd CRYPT_CARVE_STAT.busy = 1 := by
  have hwrb : ∀ {t : State} {f : Fld}, t.wrb f on_ = t.wr f on_.toNat := fun {t f} => by cases on_ <;> rfl
  have hlt : on_.toNat < 2 ^ 1 := Bool.toNat_lt on_
  unfold carveNoted
  rw [State.put_eq, hwrb, hwrb]
  refine ⟨(((Sets.refl s).wr (by decide)).wr (by decide)).wr (by decide), ?_, ?_, ?_⟩
  · rw [State.carve, State.on, rd_wr_apart (by rfl), rd_wr_apart (by rfl), rd_wr_lt hlt]
    cases on_ <;> rfl
  · rw [rd_wr_apart (by rfl), rd_wr_lt hlt]
  · rw [rd_wr_lt (by decide)]

/-- What a carve-out command that is taken leaves. -/
structure Carved (on_ : Bool) (s t : State) : Prop where
  carve : t.carve = on_
  active : t.rd CRYPT_CARVE_STAT.active = on_.toNat
  busy : t.rd CRYPT_CARVE_STAT.busy = 1
  capacity : t.rd KERF_CAPACITY.quires = (if on_ then s.carveBase else carveStop s) % 2 ^ KERF_CAPACITY.quires.width
  state : t.rd (KERF_STAT.state.ix 0) = 2
  todo : (t.eng 0).todo = [(s.carveBase, carveStop s)]
  tags : t.crypto.tags = []
  lines : t.lines = s.lines
  folio : t.folio = s.folio

theorem carved_setCarve (on_ : Bool) : Carved on_ s (s.setCarve on_) := by
  rw [setCarve_eq]
  obtain ⟨htags, hlines, hfolio, hsys, hrd⟩ := tagsDropped_drops (s := s)
  generalize tagsDropped s = a at *
  obtain ⟨hsets, hcarve, hactive, hbusy⟩ := carveNoted_notes (s := a) on_
  generalize carveNoted a on_ = b at *
  have hbase : b.carveBase = s.carveBase := hsets.rd.trans (hrd _)
  have harea : b.area = s.area := on_of_rd (hsets.rd.trans (hrd _))
  have hbsys : b.sys = s.sys := by rw [hsets.frame, hsys]
  have hfull : b.fullQuires = s.fullQuires := by rw [State.fullQuires, State.fullQuires, hbsys]
  have hcap : b.capacity = if on_ then s.carveBase else carveStop s := by
    rw [State.capacity, hcarve, hbase, harea, hfull, carveStop]
  have hl : Logged b (b.fixCapacity.cause 0x19 4) := (logged_wr _ _).cause _ _
  have hcaprd : (b.fixCapacity.cause 0x19 4).rd KERF_CAPACITY.quires =
      (if on_ then s.carveBase else carveStop s) % 2 ^ KERF_CAPACITY.quires.width := by
    rw [rd_cause (by rfl), State.fixCapacity, State.rd_wr_self, hcap]
  have hother : ∀ {f : Fld}, clear (causeFields 0x19) f = true → apart f KERF_CAPACITY.quires = true →
      (b.fixCapacity.cause 0x19 4).rd f = b.rd f := fun hc hf => (rd_cause hc _).trans (rd_wr_apart hf _)
  have hcarve' : (b.fixCapacity.cause 0x19 4).carve = on_ := (on_of_rd (hother (by rfl) (by rfl))).trans hcarve
  have hactive' := (hother (f := CRYPT_CARVE_STAT.active) (by rfl) (by rfl)).trans hactive
  have hbusy' := (hother (f := CRYPT_CARVE_STAT.busy) (by rfl) (by rfl)).trans hbusy
  generalize b.fixCapacity.cause 0x19 4 = c at *
  rw [hbase]
  have hw := writes_startKerf (s := c) 0 [(s.carveBase, carveStop s)] (if on_ then 2 else 3)
  obtain ⟨hstate, htodo⟩ := startKerf_starts (s := c) 0 [(s.carveBase, carveStop s)] (if on_ then 2 else 3)
  have hframe := startKerf_frame (s := c) 0 [(s.carveBase, carveStop s)] (if on_ then 2 else 3)
  generalize c.startKerf 0 [(s.carveBase, carveStop s)] (if on_ then 2 else 3) = t at *
  refine ⟨(on_of_rd hw.rd).trans hcarve', hw.rd.trans hactive', hw.rd.trans hbusy', hw.rd.trans hcaprd, hstate, htodo, ?_,
    ?_, ?_⟩
  · rw [hframe]
    exact (congrArg Crypto.tags (crypto_of_logged hl)).trans ((congrArg Crypto.tags (by rw [hsets.frame])).trans htags)
  · rw [hframe]
    exact (lines_of_logged hl).trans ((by rw [hsets.frame] : b.lines = a.lines).trans hlines)
  · rw [hframe]
    exact (folio_of_logged hl).trans ((by rw [hsets.frame] : b.folio = a.folio).trans hfolio)

theorem carveCommand_sets {on_ : Bool} (hcarve : s.carve ≠ on_) (hnone : s.carveRefusal on_ false = none) :
    s.carveCommand on_ false = s.setCarve on_ := by
  rw [State.carveCommand, if_neg (by simp [hcarve]), hnone]

theorem carveCommand_refuses {on_ : Bool} {reason : Nat} (hcarve : s.carve ≠ on_)
    (hsome : s.carveRefusal on_ false = some reason) : s.carveCommand on_ false =
      (s.put CRYPT_CARVE_STAT.refused).wr CRYPT_CARVE_STAT.reason reason := by
  rw [State.carveCommand, if_neg (by simp [hcarve]), hsome]

theorem carveActivate_acts {who : Accessor} (htakes : takes s who 0x19 = true) :
    exec (.carveActivate who false) s = .next (s.carveCommand true false) := by
  show execCarveActivate who false s = _
  rw [execCarveActivate, command_takes htakes]

theorem carveDeactivate_acts {who : Accessor} (htakes : takes s who 0x19 = true) :
    exec (.carveDeactivate who) s = .next (s.carveCommand false false) := by
  show execCarveDeactivate who s = _
  rw [execCarveDeactivate, command_takes htakes]

theorem carveRefusal_lt {on_ both : Bool} {reason : Nat} (h : s.carveRefusal on_ both = some reason) : reason < 8 := by
  unfold State.carveRefusal at h
  split_ifs at h <;> cases h <;> decide

/-- The registers of a carve-out command that is refused. -/
def carveRefusedFields : List Fld := [CRYPT_CARVE_STAT.refused, CRYPT_CARVE_STAT.reason]

theorem carveRefused_shows {reason : Nat} (h : reason < 8) :
    let t := (s.put CRYPT_CARVE_STAT.refused).wr CRYPT_CARVE_STAT.reason reason
    t.rd CRYPT_CARVE_STAT.refused = 1 ∧ t.rd CRYPT_CARVE_STAT.reason = reason ∧ SameRegs s t carveRefusedFields ∧
      t = { s with flds := t.flds } := by
  rw [State.put_eq]
  have hsets : Sets carveRefusedFields s ((s.wr CRYPT_CARVE_STAT.refused 1).wr CRYPT_CARVE_STAT.reason reason) :=
    ((Sets.refl s).wr (by decide)).wr (by decide)
  exact ⟨(rd_wr_apart (by rfl) _).trans (rd_wr_lt (by decide)),
    rd_wr_lt (Nat.lt_of_lt_of_le h (by decide)), hsets.regs, hsets.frame⟩

/-! ## The tag cache is flushed (R209) -/

/-- A flush changes the lines, the queued write-backs, the tag cache and the charges alone. -/
def Flushes (s t : State) : Prop :=
  t = { s with lines := t.lines, pcs := t.pcs, crypto := t.crypto, gauge := t.gauge }

theorem flushes_writeBackTag (addr : Nat) (l : TagLine) : Flushes s (s.writeBackTag addr l) := by
  unfold State.writeBackTag
  split
  · have hdrop := dropWb_frame (s := s) addr
    generalize s.dropWb addr = a at *
    rw [Flushes, hdrop]
    rfl
  · rfl

theorem Flushes.trans (h : Flushes s t) (k : Flushes t u) : Flushes s u := by
  rw [Flushes] at *
  rw [k, h]

theorem cached_setCached (addr a : Nat) (l : Option TagLine) :
    (s.setCached addr l).cached a = if a / 64 = addr / 64 then l else s.cached a := by
  unfold State.setCached State.cached
  rw [Sparse.get_set]

theorem cached_charge (pair n a : Nat) : (s.charge pair n).cached a = s.cached a := rfl

theorem cached_of_crypto (h : t.crypto = s.crypto) (a : Nat) : t.cached a = s.cached a := by
  rw [State.cached, State.cached, h]

/-- What the tag cache shows at an address once a tag line has been written back. -/
theorem cached_writeBackTag (addr a : Nat) (l : TagLine) : (s.writeBackTag addr l).cached a =
    if l.dirty = true ∧ a / 64 = addr / 64 then some { l with dirty := false } else s.cached a := by
  unfold State.writeBackTag
  by_cases hd : l.dirty = true
  · have hdrop : (s.dropWb addr).crypto = s.crypto := (dropWb_keeps addr).2.1
    have hline : ((s.dropWb addr).setLine addr (StoredLine.ofData l.data)).cached a = s.cached a := cached_of_crypto hdrop a
    rw [if_pos hd, cached_charge, cached_setCached, hline]
    simp only [hd, true_and]
  · rw [if_neg hd, if_neg (fun h => hd h.1)]

/-- Each tag line of a list is written back in turn. -/
def flushList (s : State) (l : List (Nat × TagLine)) : State := s.forAll l fun s e => s.writeBackTag e.1 e.2

theorem flushList_cons (e : Nat × TagLine) (l : List (Nat × TagLine)) :
    flushList s (e :: l) = flushList (s.writeBackTag e.1 e.2) l := rfl

theorem flushes_flushList (l : List (Nat × TagLine)) : Flushes s (flushList s l) := by
  induction l generalizing s with
  | nil => rfl
  | cons e l ih => exact (flushes_writeBackTag e.1 e.2).trans ih

/-- No line of the tag cache stays dirty where the list names each that is. -/
theorem flushList_clean {l : List (Nat × TagLine)}
    (h : ∀ a x, s.cached a = some x → x.dirty = false ∨ (a / 64 * 64, x) ∈ l) :
    ∀ a x, (flushList s l).cached a = some x → x.dirty = false := by
  induction l generalizing s with
  | nil => exact fun a x hx => (h a x hx).resolve_right List.not_mem_nil
  | cons e l ih =>
    rw [flushList_cons]
    refine ih fun a x hx => ?_
    rw [cached_writeBackTag] at hx
    split at hx
    · rw [← Option.some.inj hx]
      exact .inl rfl
    · next hne =>
      obtain hclean | hmem := h a x hx
      · exact .inl hclean
      obtain rfl | hmem := List.mem_cons.1 hmem
      · exact .inl (Bool.eq_false_iff.2 fun hd => hne ⟨hd, by omega⟩)
      · exact .inr hmem

/-- What the tag cache holds stays in it. -/
theorem flushList_holds (l : List (Nat × TagLine)) {a : Nat} {x : TagLine} (hx : s.cached a = some x) :
    ∃ y, (flushList s l).cached a = some y := by
  induction l generalizing s x with
  | nil => exact ⟨x, hx⟩
  | cons e l ih =>
    rw [flushList_cons]
    by_cases he : e.2.dirty = true ∧ a / 64 = e.1 / 64
    · exact ih ((cached_writeBackTag ..).trans (if_pos he))
    · exact ih (((cached_writeBackTag ..).trans (if_neg he)).trans hx)

theorem mem_of_get {tags : Sparse (Option TagLine)} {k : Nat} {x : TagLine}
    (h : Sparse.get (fun _ => none) tags k = some x) : (k, some x) ∈ tags := by
  induction tags with
  | nil => simp at h
  | cons e tags ih =>
    obtain ⟨j, v⟩ := e
    rw [Sparse.get] at h
    split at h
    · next hj => exact hj ▸ h ▸ .head _
    · exact .tail _ (ih h)

/-- The tag lines that the tag cache holds. -/
def tagList (s : State) : List (Nat × TagLine) := s.crypto.tags.filterMap fun e => e.2.map fun t => (e.1 * 64, t)

theorem mem_tagList {a : Nat} {x : TagLine} (h : s.cached a = some x) : (a / 64 * 64, x) ∈ tagList s :=
  List.mem_filterMap.2 ⟨(a / 64, some x), mem_of_get h, rfl⟩

theorem flushTags_eq : s.flushTags = flushList s (tagList s) := rfl

theorem tcacheFlush_flushes {who : Accessor} (htakes : takes s who 0x19 = true) :
    exec (.tcacheFlush who) s = .next (flushList s (tagList s)) := by
  show execTcacheFlush who s = _
  rw [execTcacheFlush, command_takes htakes, flushTags_eq]

/-- Settles O27: a carve-out command drops the tag cache, computes the capacity again and starts a Clear; a flush writes
each line of the tag cache back in turn. -/
theorem carveOutAndTagCache : Obligations.CarveOutAndTagCache := by
  unfold Obligations.CarveOutAndTagCache
  refine ⟨fun who s htakes hcarve hnone => ?_, fun who s htakes hcarve hnone => ?_,
    fun who activate reason s htakes hcarve hsome => ?_, fun who s htakes => ?_⟩
  · have hexec := carveActivate_acts htakes
    rw [carveCommand_sets (by rw [hcarve]; decide) hnone] at hexec
    obtain ⟨hon, hactive, hbusy, hcap, hstate, htodo, htags, hlines, hfolio⟩ := carved_setCarve (s := s) true
    exact ⟨_, hexec, hon, hactive, hbusy, hcap, hstate, htodo, htags, hlines, hfolio⟩
  · have hexec := carveDeactivate_acts htakes
    rw [carveCommand_sets (by rw [hcarve]; decide) hnone] at hexec
    obtain ⟨hon, hactive, hbusy, hcap, hstate, -, htags, hlines, hfolio⟩ := carved_setCarve (s := s) false
    have hlt : carveStop s < 2 ^ KERF_CAPACITY.quires.width := by
      show carveStop s < 2 ^ 18
      unfold carveStop State.fullQuires
      split <;> split <;> decide
    exact ⟨_, hexec, hon, hactive, hbusy, hcap.trans (Nat.mod_eq_of_lt hlt), hstate, htags, hlines, hfolio⟩
  · have hexec : exec (if activate then .carveActivate who false else .carveDeactivate who) s =
        .next (s.carveCommand activate false) := by
      cases activate
      · exact carveDeactivate_acts htakes
      · exact carveActivate_acts htakes
    rw [carveCommand_refuses hcarve hsome] at hexec
    exact ⟨_, hexec, carveRefused_shows (carveRefusal_lt hsome)⟩
  · have hflush := flushes_flushList (s := s) (tagList s)
    refine ⟨_, tcacheFlush_flushes htakes, flushList_clean fun a x hx => .inr (mem_tagList hx),
      fun a x hx => flushList_holds _ hx, fun f _ => ?_, hflush⟩
    rw [hflush]
    rfl

end Sys2Proof.Proofs
